-- ==== Sys2Proof/Word.lean ====
section
/-!
DEFINITION. Word.lean: the words the device's interfaces carry (00_scope.md R2, R6) and their plainest reading.
Everything with a rule of its own (checks, byte order, saturation) stands under Machine/.
-/
namespace Sys2Proof

/-- One byte of memory, of a packet or of a record. -/
abbrev Byte := BitVec 8

/-- A BAR0 register (R6). -/
abbrev Word := BitVec 32

/-- A register pair or a 64-bit field (R7). -/
abbrev DWord := BitVec 64

/-- A satchel ID (R2): [63:48] origin device, [47:26] local index, [25:0] generation. -/
abbrev SatchelId := BitVec 64

/-- A device ID (R2): [15:14] zero, [13:5] harness, [4:0] member. -/
abbrev DeviceId := BitVec 16

/-- A token ID (R2, R544): [31:24] flags, [23:0] vocabulary index. -/
abbrev Token := BitVec 32

end Sys2Proof
end

