-- ==== Sys2Proof/Machine/Assoc.lean ====
section
/-!
DEFINITION. Machine/Assoc.lean: sparse tables, the one shape in which the state holds memories and tables of entries:
a list of (key, value) pairs. `put` inserts in key order, so that equal tables that were built by `put` and `del` are
equal data.
-/
namespace Sys2Proof

/-- A sparse table keyed by a number. -/
abbrev Assoc (α : Type) := List (Nat × α)

namespace Machine

/-- The value at a key, where one is listed. -/
def afind {α : Type} : Assoc α → Nat → Option α
  | [], _ => none
  | (k, v) :: t, i => if k = i then some v else afind t i

/-- Write a key: it replaces the key's entry or inserts one in key order. -/
def aput {α : Type} : Assoc α → Nat → α → Assoc α
  | [], i, x => [(i, x)]
  | (k, v) :: t, i, x =>
    if i < k then (i, x) :: (k, v) :: t
    else if k = i then (i, x) :: t
    else (k, v) :: aput t i x

/-- Remove a key. -/
def adel {α : Type} : Assoc α → Nat → Assoc α
  | [], _ => []
  | (k, v) :: t, i => if k = i then adel t i else (k, v) :: adel t i

/-- The value at a key, or what an unlisted key holds. -/
def agetD {α : Type} (t : Assoc α) (i : Nat) (d : α) : α := (afind t i).getD d

/-- Apply a change to the value at a key, where one is listed. -/
def amod {α : Type} (t : Assoc α) (i : Nat) (f : α → α) : Assoc α :=
  match afind t i with
  | none => t
  | some v => aput t i (f v)

/-- Apply a change to every value of a table. -/
def amap {α : Type} (f : α → α) (t : Assoc α) : Assoc α := t.map fun p => (p.1, f p.2)

/-- The values of a table in key order. -/
def avals {α : Type} (t : Assoc α) : List α := t.map fun p => p.2

/-- Keep the entries whose value passes a test. -/
def akeep {α : Type} (f : α → Bool) (t : Assoc α) : Assoc α := t.filter fun p => f p.2

/-- The keys rise strictly. -/
def asorted {α : Type} : Assoc α → Bool
  | [] => true
  | [_] => true
  | (k, _) :: (j, w) :: t => decide (k < j) && asorted ((j, w) :: t)

/-- The least number below the bound that is not in a list of numbers. -/
def leastFree (used : List Nat) : Nat → Nat → Option Nat
  | 0, _ => none
  | n + 1, i => if used.contains i then leastFree used n (i + 1) else some i

/-! ### Memory: bytes by address in one canonical form (addresses rising, no zero byte listed) -/

end Machine

/-- A memory: (address, byte) pairs, addresses strictly rising, no listed byte 0; an unlisted address reads as 0. -/
abbrev Mem := Assoc Byte

namespace Machine

/-- The canonical form of a memory. -/
def Memory.wf (m : Mem) : Bool := asorted m && m.all fun p => p.2 != 0#8

/-- One byte. -/
def memByte (m : Mem) (a : Nat) : Byte := agetD m a 0#8

/-- Write one byte; writing 0 removes the entry. -/
def memPut (m : Mem) (a : Nat) (b : Byte) : Mem := if b = 0#8 then adel m a else aput m a b

/-- n bytes from an address up. -/
def memRead (m : Mem) (a : Nat) : Nat → List Byte
  | 0 => []
  | n + 1 => memByte m a :: memRead m (a + 1) n

/-- Write bytes from an address up. -/
def memWrite (m : Mem) (a : Nat) : List Byte → Mem
  | [] => m
  | b :: t => memWrite (memPut m a b) (a + 1) t

/-- Drop every listed byte of a range: it reads as zero. -/
def memZero (m : Mem) (a n : Nat) : Mem := m.filter fun p => p.1 < a || a + n ≤ p.1

/-- Copy n bytes from one memory to a place in another: the listed bytes move, the others read as zero. -/
def memCopy (src : Mem) (from_ : Nat) (dst : Mem) (to_ n : Nat) : Mem :=
  (src.filter fun p => from_ ≤ p.1 && p.1 < from_ + n).foldl
    (fun m p => memPut m (p.1 - from_ + to_) p.2) (memZero dst to_ n)

end Machine
end Sys2Proof
end

