-- ==== Sys2Proof/Machine/Types.lean ====
section
/-!
DEFINITION. Machine/Types.lean: the kinds of data that commands carry and the state holds: status codes, messages, records,
descriptors, packets. Each type names the rule of the spec whose layout it follows.
-/
namespace Sys2Proof.Machine

/-! ### Common: status codes, origins of packets, fault messages (00, 14, 15) -/

/-- The status codes of R14. -/
inductive Status where
  | ok | accepted | alreadyDone
  | badOpcode | badField | badLength | badCheck
  | noResource | budgetExhausted | quotaExceeded
  | notOwner | inTransit | satchelLost | cancelled
  | accessRevoked | protection | outcomeIndeterminate
  | tierError | deadlineSubstituted | dataCorrupt
  | partitionBusy | pendingEnable | deviceFault | internal
  deriving DecidableEq, Repr

/-- The code that R14 gives a status. -/
def Status.code : Status → Nat
  | .ok => 0x00 | .accepted => 0x01 | .alreadyDone => 0x02
  | .badOpcode => 0x10 | .badField => 0x11 | .badLength => 0x12 | .badCheck => 0x13
  | .noResource => 0x20 | .budgetExhausted => 0x21 | .quotaExceeded => 0x22
  | .notOwner => 0x30 | .inTransit => 0x31 | .satchelLost => 0x32 | .cancelled => 0x33
  | .accessRevoked => 0x40 | .protection => 0x41 | .outcomeIndeterminate => 0x42
  | .tierError => 0x50 | .deadlineSubstituted => 0x51 | .dataCorrupt => 0x52
  | .partitionBusy => 0x60 | .pendingEnable => 0x61 | .deviceFault => 0x70 | .internal => 0x7F

/-- The status of a code; a code absent from R14 is treated as INTERNAL (R16). -/
def Status.ofCode (n : Nat) : Status :=
  match [Status.ok, .accepted, .alreadyDone, .badOpcode, .badField, .badLength, .badCheck, .noResource,
    .budgetExhausted, .quotaExceeded, .notOwner, .inTransit, .satchelLost, .cancelled, .accessRevoked, .protection,
    .outcomeIndeterminate, .tierError, .deadlineSubstituted, .dataCorrupt, .partitionBusy, .pendingEnable,
    .deviceFault].find? (fun c => c.code == n) with
  | some c => c
  | none => .internal

/-- Where a command packet came from: a command window (0-15 PF0, 16 + p partition p; R443), a fabric COMMAND of the
given AUTH that was accepted under R463 (source device, origin window and slot, R462), or the board management
controller over MCTP (R507). -/
inductive Origin where
  | window (w : Fin 32)
  | fabric (src : DeviceId) (partAuth : Bool) (part : Fin 16) (win : BitVec 8) (slot : BitVec 32)
  | bmc
  deriving DecidableEq, Repr

/-- The header of a command packet (R449) with what the window controller knows of it. `hrsv` is the OR of every reserved
header field; CHECK has matched (a mismatch is the row PACKET_CHECK_MISMATCH). -/
structure Header where
  origin : Origin
  fence : Bool
  hrsv : Nat
  length : Nat
  tag : Word
  destDev : DeviceId
  part : Fin 16
  cls : Fin 8
  tenant : BitVec 16
  now : Nat
  /-- The parameter bytes as they stand in the packet from offset 0x20, which a device that forwards the packet sends on (R462). -/
  params : List Byte
  deriving DecidableEq, Repr

/-- To whom and how a packet's replies go (R458): the window offset after the packet and the reply slots still reserved. -/
structure ReplyTo where
  origin : Origin
  opcode : Nat
  tag : Word
  consumed : Nat
  left : Nat
  deriving DecidableEq, Repr

/-- What a fault message names (TAG_KIND and TAG of R471). -/
inductive FTag where
  | none
  | ctx (slot : Nat)
  | tenant (t : BitVec 16)
  | part (p : Fin 16)
  deriving DecidableEq, Repr

/-- A fault as a unit posts it, before the blotter judges it (R471, R473). -/
structure FaultSpec where
  source : BitVec 12
  kind : BitVec 12
  level : Fin 4
  addr : BitVec 56
  tag : FTag
  status : Status
  retried : Bool
  transient : Bool
  deriving DecidableEq, Repr

/-- A message waiting in its source's outbox: the fault and its TIME (R471). -/
structure Msg where
  fault : FaultSpec
  time : BitVec 20
  deriving DecidableEq, Repr

/-- An open entry of the blotter (R481): its key, and the records it produced that are not acknowledged. -/
structure BltEntry where
  source : BitVec 12
  kind : BitVec 12
  level : Fin 4
  escalated : Bool
  merged : Nat
  unacked : List (BitVec 32)
  lastSeq : BitVec 32
  lastStroke : Nat
  deriving DecidableEq, Repr

/-- An unacknowledged record (R482, R543): its SEQ, its filed level, and the partitions in its scope (R477). -/
structure Unacked where
  seq : BitVec 32
  level : Fin 4
  scope : BitVec 16
  deriving DecidableEq, Repr

/-- A record the blotter filed, with what R473 adds to the message. -/
structure Filed where
  msg : Msg
  level : Fin 4
  escalated : Bool
  seq : BitVec 32
  merged : Nat
  satchel : SatchelId
  stroke : Nat
  tenant : BitVec 16
  prevSeq : BitVec 32
  part : Fin 16
  deriving DecidableEq, Repr

/-- A target of a shut-down (R519), of parking or of a cache path. -/
structure DevPart where
  dev : DeviceId
  part : Fin 16
  deriving DecidableEq, Repr

/-! ### Strokes (02) -/

/-- A stroke configuration: epoch [ns], base stroke, period [µs] and the four phase points (R47, R48). -/
structure StrokeCfg where
  epoch : Nat
  base : Nat
  periodUs : Nat
  issueAt : Nat
  computeAt : Nat
  exchangeAt : Nat
  commitAt : Nat
  deriving DecidableEq, Repr

/-- A pending configuration and its effective stroke: n0 of a change (R50), n_first of a start (R53). -/
structure PendCfg where
  cfg : StrokeCfg
  n0 : Nat
  start : Bool
  deriving DecidableEq, Repr

/-- The configuration words of a sync packet (R38): the parent's active and pending configuration. -/
structure ParentCfg where
  active : Option StrokeCfg
  pending : Option PendCfg
  deriving DecidableEq, Repr

/-- The five phases of a stroke (R48). -/
inductive Phase where
  | plan | issue | compute | exchange | commit
  deriving DecidableEq, Repr

/-- The value STK_STATUS.PHASE reports (R62). -/
def Phase.code : Phase → Nat
  | .plan => 0 | .issue => 1 | .compute => 2 | .exchange => 3 | .commit => 4

/-! ### Satchels and custody (03), stop matchers and waits (04), KV rows (05) -/

/-- The satchel states (R73). -/
inductive SatState where
  | free | admitted | prefill | ready | wait | parkedWarm | parkedCold | inTransit | done | cancelled | lost
  deriving DecidableEq, Repr

/-- The encoding of a state (R73). -/
def SatState.code : SatState → Nat
  | .free => 0 | .admitted => 1 | .prefill => 2 | .ready => 3 | .wait => 4 | .parkedWarm => 5 | .parkedCold => 6
  | .inTransit => 7 | .done => 8 | .cancelled => 9 | .lost => 10

/-- The state of an encoding; the codes above 0x0A are reserved (R73). -/
def SatState.ofCode (n : Nat) : Option SatState :=
  [SatState.free, .admitted, .prefill, .ready, .wait, .parkedWarm, .parkedCold, .inTransit, .done, .cancelled, .lost][n]?

/-- ADMITTED to PARKED_COLD are the live states; IN_TRANSIT is live as well for its owner (R73, R74). -/
def SatState.live : SatState → Bool
  | .admitted | .prefill | .ready | .wait | .parkedWarm | .parkedCold => true
  | _ => false

/-- DONE and CANCELLED are the ended states (R73). -/
def SatState.ended : SatState → Bool
  | .done | .cancelled => true
  | _ => false

/-- The kinds of a stop-matcher entry (R113); `bad` is a reserved value as carried. -/
inductive StopKind where
  | off | seq | span | bad
  deriving DecidableEq, Repr

/-- One entry of the stop-matcher block, fields as carried (R113). -/
structure StopEntry where
  kind : StopKind
  action : Nat
  waitKind : Nat
  onExpiry : Nat
  openLen : Nat
  closeLen : Nat
  wakeLen : Nat
  timeout : Nat
  openAt : Option Nat
  opn : List Token
  close : List Token
  wake : List Token
  rsv : Nat
  deriving DecidableEq, Repr

/-- The stop-matcher block (R112). -/
structure StopBlock where
  count : Nat
  spanLimit : Nat
  waits : Nat
  entries : List StopEntry
  rsv : Nat
  deriving DecidableEq, Repr

/-- The sampler state of a satchel (R207): FP32 and FP16 fields as their codes. -/
structure Sampler where
  temp : BitVec 32
  topP : BitVec 32
  repPen : BitVec 16
  presPen : BitVec 16
  freqPen : BitVec 16
  topK : Nat
  seed : BitVec 64
  penWindow : Nat
  penPrompt : Bool
  maskEn : Bool
  maskSlot : Nat
  rsv : Nat
  deriving DecidableEq, Repr

/-- The kinds of a page-table entry (R144). -/
inductive RowKind where
  | empty | here | inkwell | lodged | parked | swapHost | swapT2 | ring
  deriving DecidableEq, Repr

/-- The KIND field of a page-table entry (R144). -/
def RowKind.code : RowKind → Nat
  | .empty => 0 | .here => 1 | .inkwell => 2 | .lodged => 3 | .parked => 4 | .swapHost => 5 | .swapT2 => 6 | .ring => 7

/-- A page-table entry (R144). -/
structure Row where
  kind : RowKind
  fill : Nat
  loc : Nat
  deriving DecidableEq, Repr

/-- A record for a token-stream ring that waits for the registrar's acknowledgement or for space (R86, R459): the tokens, the
log position of the first, and the log length that must be acknowledged before it is published. -/
structure StreamRec where
  status : Status
  final : Bool
  wait : Bool
  matcher : Nat
  waitKind : Nat
  pos : Nat
  tokens : List Token
  more : Nat
  stroke : Nat
  need : Nat
  deriving DecidableEq, Repr

/-- What the planner planned for a satchel in a stroke (R238). -/
inductive PlanKind where
  | decode | tree | kvOnly | backfill | chunk
  deriving DecidableEq, Repr

/-- A row of a stroke's batch (R149, R238, R241): its kind, query rows, the first position of its window, whether it samples
(the last chunk, decode, tree and back-fill rows do), the shadow tap, and a tree's ancestor words and draft tokens. -/
structure Planned where
  kind : PlanKind
  qrows : Nat
  start : Nat
  samples : Bool
  tap : Bool
  predicted : Bool
  tree : List Nat
  drafts : List Token
  deriving DecidableEq, Repr

/-- Provisional results of the stroke (R87, R241, R210): the tokens that the sampler produced, in order, the accepted tree
nodes, the shadow token, and whether a shadow token was taken. -/
structure Prov where
  stroke : Nat
  tokens : List Token
  path : List Nat
  shadow : Option Token
  deriving DecidableEq, Repr

/-- A SATCHEL_MOVE that was answered ACCEPTED (R75, R89): the receiver, the options, the reply that is due, and how far it is. -/
structure Move where
  dev : DeviceId
  part : Fin 16
  full : Bool
  reply : Option ReplyTo
  frozenAt : Option Nat
  offered : Bool
  declined : Option Status
  abortSent : Bool
  /-- The hand-over serves the cache path of R124, a revival of R132 or a shut-down (R519). -/
  purpose : Nat
  deriving DecidableEq, Repr

/-- Parking work of a satchel (R120, R124, R126, R130): nothing; a parking into a tier, with the units reserved there; a pass of the cache path,
with the targets tried; the wait for the next pass; a revival that waits for room in the arena; a revival with the blocks not yet restored; a
restoration to PARKED_WARM, with the units reserved and the pass that goes on after it. -/
inductive ParkWork where
  | idle
  | parking (cold : Bool) (units : Nat)
  | cachePass (tried : Nat)
  | cacheWait (retryAt : Nat)
  | reviveWait (staging : Bool)
  | reviving (blocks : List Nat) (staging : Bool)
  | restoreWarm (units : Nat) (pass : Option Nat)
  deriving DecidableEq, Repr

/-- Where the objects of a satchel stand in T1 (R71, R143, R274): the descriptor with the stop-matcher block 256 bytes above it, the token log and
its capacity [tokens], the page table and its entries, and the recurrent-state blocks with their bytes. -/
structure Place where
  obj : Nat
  log : Nat
  logCap : Nat
  table : Nat
  tableCap : Nat
  rstate : Nat
  rstateLen : Nat
  deriving DecidableEq, Repr

/-- A KV context of this device (R143 to R145): an owned satchel's, or a satellite's. It holds the satchel's state as this device knows it, the
page table's rows and their places, and what is under way with the rows: lodging and migration (R93), parking (R120 to R132), swapping (R166 to
R169). -/
structure KvCtx where
  id : SatchelId
  tenant : BitVec 16
  part : Fin 16
  cls : Fin 8
  state : SatState
  adapter : BitVec 16
  adapterVer : BitVec 32
  kvPos : Nat
  place : Place
  rows : List Row
  migrating : Bool
  lodge : DeviceId
  /-- Lodged pages of the first lodged row that migration has moved, and the stroke in which the hand-over that lodged them committed (R93). -/
  migrated : Nat
  lodgedAt : Nat
  park : ParkWork
  /-- Units that its blocks take in its tier (R127). -/
  units : Nat
  /-- First handles of the rows taken for a restoration, one per parked row in order (R130, R131). -/
  staged : List Nat
  /-- The entries, as they were, of the rows whose blocks are complete while their parking goes on (R120, R144). -/
  home : List (Nat × Row)
  /-- Units of extent 992 that hold its blocks in T2, in order (R123, R299). -/
  cold : List Nat
  /-- Rows that are being swapped out: row, to T2 or the host, first slot (R166); and rows whose return was requested: row, first handle of
  the row taken for it (R168, R249). -/
  swapOut : List (Nat × Bool × Nat)
  returns : List (Nat × Nat)
  deriving DecidableEq, Repr

/-- The state of a satchel at its owner (R71 and what its custody engine keeps beside the descriptor). -/
structure Sat extends KvCtx where
  frozen : Bool
  cancelLatched : Bool
  recovered : Bool
  autoFree : Bool
  session : Bool
  autoRecover : Bool
  noSubst : Bool
  epoch : Nat
  model : BitVec 16
  log : List Token
  promptLen : Nat
  mirrorLen : Nat
  maxNew : Nat
  sampler : Sampler
  stop : StopBlock
  waitKind : Nat
  waitMatcher : Nat
  waitExpiry : Nat
  waitStroke : Nat
  tokensIn : Nat
  tokensOut : Nat
  subst : Nat
  defers : Nat
  lastStroke : Nat
  admitStroke : Nat
  cookie : BitVec 48
  onPf0 : Bool
  ring : Fin 4096
  /-- REGISTER is not acknowledged: the packet that waits for it, and the attempts made (R69, R74). -/
  admitting : Option ReplyTo
  attempts : Nat
  /-- The satchel is to be freed once it has ended (SATCHEL_FREE of a live satchel, R75). -/
  freeing : List ReplyTo
  /-- The state before IN_TRANSIT (R90). -/
  prior : SatState
  move : Option Move
  planned : Option Planned
  prov : Option Prov
  /-- Positions of a pending back-fill (R243). -/
  backfill : Nat
  /-- The inks that are not acknowledged, oldest first, as the log length that must be acknowledged and the stroke (R85), and the hold for
  want of acknowledgement. -/
  unackedInks : List (Nat × Nat)
  mirrorHold : Bool
  /-- MIRROR messages sent and not answered, tokens sent so far, and the state that the last MIRROR or REGISTER reported (R85). -/
  mirrorsOut : Nat
  mirrorSent : Nat
  reported : SatState
  /-- A REGISTER was sent and is not answered (R77, R83, R86). -/
  registering : Bool
  /-- REGISTER is due again under R83 after a stale answer or NO_RESOURCE. -/
  reregister : Bool
  /-- Targets of a shut-down that declined (R519). -/
  tried : Nat
  /-- One POOL_WAIT note per wait was posted (R128). -/
  poolNoted : Bool
  /-- The vocabulary and the context length of its model (R110, R118), which go with it to a partition that holds no model (R132). -/
  vocab : Nat
  maxContext : Nat
  outRecs : List StreamRec
  deriving DecidableEq, Repr

/-- A custody record at its registrar (R80) with what the registrar keeps beside it: recovery image, mirror, and timers. -/
structure Record where
  id : SatchelId
  epoch : Nat
  owner : DeviceId
  pending : DeviceId
  state : SatState
  autoRecover : Bool
  noSubst : Bool
  tenant : BitVec 16
  mirror : List Token
  /-- The chunks of the mirror store that hold the stop-matcher block and the mirror, in order (R80): the first one's address is MIRROR_ADDR. -/
  chunks : List Nat
  image : Sat
  prior : SatState
  sender : DeviceId
  /-- The receivers to which hand-overs were committed since the record was made or lost, with their epochs (R90). -/
  commits : List (DeviceId × Nat)
  commitUndelivered : Bool
  probing : Bool
  lastMirror : Nat
  ownerDead : Bool
  /-- The candidate of a recovery (R97): entry index + 1 or 0 when named, the device, and the packet to answer. -/
  candidate : Option (Nat × DevPart)
  recoverReply : Option ReplyTo
  firstEntry : Nat
  /-- R81: the member that the record is being handed to, and whether it was sent. -/
  movingTo : Option DeviceId
  sent : Bool
  deriving DecidableEq, Repr

/-- The header of a custody message (R91): TYPE is the row's, so it is not a field. Class, tenant and partition are those of the packets that
carry it. -/
structure CMsg where
  cls : Fin 8
  tenant : BitVec 16
  part : Fin 16
  forwarded : Bool
  rsv : Nat
  sender : DeviceId
  epoch : Nat
  id : SatchelId
  peer : DeviceId
  status : Nat
  state : Nat
  logLen : Nat
  arg : Nat
  deriving DecidableEq, Repr

/-- The custody message types (R92). -/
inductive CType where
  | offer | offerNote | claim | commit | release | decline | abortReq | abortAns | mirror | mirrorAck
  | register | registerAck | probe | probeAns | surrender | recoverAssign | recoverAns
  | reserved (code : Nat)
  deriving DecidableEq, Repr

/-- The parameters of SATCHEL_ADMIT (R454). `prompt` is the inline prompt, or what PROMPT_ADDR reads when by reference;
`rsv` is the OR of the reserved fields. -/
structure AdmitParams where
  cls : Fin 8
  byRef : Bool
  autoFree : Bool
  session : Bool
  autoRecover : Bool
  noSubst : Bool
  adapter : BitVec 16
  maxNew : Nat
  prefixId : BitVec 32
  ring : Nat
  cookie : BitVec 48
  sampler : Sampler
  stopLen : Nat
  promptLen : Nat
  promptAddr : BitVec 64
  stop : StopBlock
  prompt : List Token
  rsv : Nat
  deriving DecidableEq, Repr

/-- A lodging held for another owner (R93): the satchel, its owner, its rows, and the dead notice's time. -/
structure Lodging where
  id : SatchelId
  tenant : BitVec 16
  owner : DeviceId
  part : Fin 16
  rows : List Row
  deadAt : Option Nat
  deriving DecidableEq, Repr

/-- A satellite (R145): a KV context of a satchel that another shard owns, or the rows that a ring partner holds of it for a shard (R147). -/
structure Satellite extends KvCtx where
  /-- The device that instructs it: shard 0 of its instance, or the shard whose ring partner this device is. -/
  owner : DeviceId
  /-- Held as a ring partner (R147). -/
  partner : Bool
  /-- Reserved for a hand-over that is not committed (R70). -/
  reserved : Bool
  deadAt : Option Nat
  deriving DecidableEq, Repr

/-- The KV layout record of a model (R137). -/
structure KvLayout where
  layers : Nat
  kvHeads : Nat
  headDim : Nat
  format : Nat
  log2P : Nat
  log2G : Nat
  headroom : Nat
  log2Ring : Nat
  ringAt : Nat
  shards : Nat
  maxContext : Nat
  calAddr : Nat
  rsv : Nat
  deriving DecidableEq, Repr

/-- What a hand-over says of the sending instance (R146): its KV layout record, and its shards in order. -/
structure SentBy where
  kv : KvLayout
  shards : List DevPart
  deriving DecidableEq, Repr

/-- What a custody message carries behind its header (R92): a descriptor with its total bytes and whether the move is full,
logged tokens, or a recovery image with the token log. A descriptor comes with what R146 compares. -/
inductive CPayload where
  | empty
  | desc (s : Sat) (full : Bool) (sentBy : Option SentBy) (transit : Option (List Byte))
  | tokens (l : List Token)
  | image (s : Sat) (log : List Token)
  deriving DecidableEq, Repr

/-- A hand-over that a receiver has taken (R89, R90): the OFFER's descriptor, its epoch and sender, and how far it is. -/
structure Incoming where
  id : SatchelId
  sender : DeviceId
  epoch : Nat
  part : Fin 16
  full : Bool
  image : Sat
  log : List Token
  dataDone : Bool
  claimed : Bool
  slot : Nat
  /-- A local hand-over between two partitions of this device (R94). -/
  inside : Bool
  /-- The sending instance, where it has a model. -/
  sentBy : Option SentBy
  /-- The transit header of blocks that come from another harness (R515). -/
  transit : Option (List Byte)
  deriving DecidableEq, Repr

/-! ### Cores and threads (06) -/

/-- What a thread does: stopped, running, or waiting with what ends the wait (R195, R199 to R202, R405): a ticket, every command it pushed, a
completion-vector word with its mask, an access, or a stalled push. -/
inductive ThreadState where
  | stopped | running
  | waitTicket (rd ticket : Nat)
  | waitFence
  | waitCv (rd word mask : Nat)
  | waitAccess
  | stalled (rd addr sel : Nat)
  deriving DecidableEq, Repr

/-- A thread (R194): its state, pc, integer registers x1 to x31 and floating-point registers by number, fcsr, its commands outstanding by
ticket, and the statuses of its last 32 completed commands, latest first (R200). -/
structure Thread where
  state : ThreadState
  pc : BitVec 64
  x : Assoc (BitVec 64)
  f : Assoc (BitVec 64)
  fcsr : BitVec 8
  tickets : List Nat
  recent : List (Nat × Status)
  deriving DecidableEq, Repr

/-- A command in a unit's queue (R190, R199): its sequence number, thread (core × 64 + thread), partition, the descriptor's VA and bytes,
its cursor, whether it has started, the pieces of work already done, the faults its units are parked on, the entries discarded or aborted, the entries that wait for a row
to return (R144), whether a tile was aborted, and its final status while it waits to complete. -/
structure CoreCmd where
  seq : Nat
  thread : Nat
  part : Fin 16
  addr : Nat
  desc : List Byte
  cursor : Nat
  started : Bool
  served : List Nat
  parked : List Nat
  gone : List Nat
  waiting : List Nat
  aborted : Bool
  result : Option Status
  deriving DecidableEq, Repr

/-! ### Partitions and planning (07), parking parameters (04) -/

/-- The partition states (R222, R256). -/
inductive PartState where
  | free | composing | ready | suspending | suspended | resuming | draining
  deriving DecidableEq, Repr

/-- The value PLN_P_STATE.STATE reports (R256). -/
def PartState.code : PartState → Nat
  | .free => 0 | .composing => 1 | .ready => 2 | .suspending => 3 | .suspended => 4 | .resuming => 5 | .draining => 6

/-- What the device reads of a model image (R228), as its bytes give it: the header's fields, whether the check matched at the first read and at
the re-read, the bytes of this shard's weights, for a sprint instance the share per rank, the bytes of recurrent state that the model keeps per satchel, and the bytes of its
elements (log entry 70). -/
structure ModelImage where
  modelId : BitVec 16
  substLayer : Nat
  vocab : Nat
  kv : KvLayout
  ropeOff : Nat
  progOff : Nat
  exitOff : Nat
  weightsOff : Nat
  imageLen : Nat
  check : BitVec 64
  rsv : Nat
  checkOk : Bool
  recheckOk : Bool
  bytes : List Byte
  weightBytes : Nat
  eosTokens : List Nat
  stateBytes : Nat
  stateWidth : Nat
  deriving DecidableEq, Repr

/-- A model image as the device reads it (R228): its bytes, and those of the re-read that follows a failed check; with what the header does not
say: the bytes of this shard's weights (for a sprint instance the share per rank), the end tokens, the bytes of recurrent state that the model keeps
per satchel, and the bytes of its elements (log entry 70). -/
structure ImageFact where
  first : List Byte
  second : List Byte
  weightBytes : Nat
  eosTokens : List Nat
  stateBytes : Nat
  stateWidth : Nat
  deriving DecidableEq, Repr

/-- The parameters of PARTITION_COMPOSE (R219, R453). -/
structure ComposeParams where
  role : Nat
  sprint : Nat
  source : Nat
  shadow : Nat
  slices : BitVec 16
  modelId : BitVec 16
  srcDev : DeviceId
  srcPart : Nat
  nRing : Nat
  shard : Nat
  nShard : Nat
  maxRows : Nat
  c0Rows : Nat
  chunkMax : Nat
  maskSlots : Nat
  frames : Nat
  srcAddr : BitVec 64
  shardList : List DevPart
  ringList : List DevPart
  rsv : Nat
  deriving DecidableEq, Repr

/-- What can be read at once of a composition's source (R220): the KV layout record's bytes, VOCAB, and the bytes of the image and of this shard's
weights. -/
structure SrcFact where
  record : List Byte
  vocab : Nat
  imageLen : Nat
  weightBytes : Nat
  deriving DecidableEq, Repr

/-- A composition on its way (R221, R222, R224): the parameters, the packet's TAG and opcode for its event. -/
structure Composing where
  params : ComposeParams
  tag : Word
  src : Option SrcFact
  recompose : Bool
  zeroed : Bool
  inPlace : Bool
  deriving DecidableEq, Repr

/-- The parking parameters of a partition (R119). -/
structure ParkCfg where
  a1 : Nat
  a2 : Nat
  coldTarget : Nat
  parkRate : Nat
  lead : Nat
  targets : List DevPart
  revive : Option DevPart
  deriving DecidableEq, Repr

/-- An adapter version resident in a partition (R245, R246). -/
structure AdapterVer where
  id : BitVec 16
  version : BitVec 32
  rank : Nat
  current : Bool
  swap : Bool
  deriving DecidableEq, Repr

/-- An ADAPTER_LOAD under way (R245). -/
structure AdapterLoad where
  id : BitVec 16
  version : BitVec 32
  rank : Nat
  swap : Bool
  reply : ReplyTo
  deriving DecidableEq, Repr

/-- A tenant's record (R127, R234): the budget fields once TENANT_BUDGET named it; the level in 1/256 token. -/
structure TenantRec where
  metered : Bool
  rate : Nat
  burst : Nat
  floor : Nat
  level : Int
  warmFloor : Nat
  warmCap : Nat
  coldFloor : Nat
  coldCap : Nat
  deriving DecidableEq, Repr

/-- Parking counters of the device or of a tenant (R129). -/
structure ParkCnt where
  parks : Nat
  demotions : Nat
  revivals : Nat
  poolWaits : Nat
  deriving DecidableEq, Repr

/-- An inkwell entry (R153, R154): rows by first handle. -/
structure Ink where
  prefixId : BitVec 32
  part : Fin 16
  model : BitVec 16
  length : Nat
  rows : List Nat
  tokens : List Token
  scope : Option (BitVec 16)
  deriving DecidableEq, Repr

/-- What the deadline monitor of R55 computes for a satchel's row: its predicted finish [ns after the boundary], and how many
query rows of it fit the stroke; and the free rows that the instance's other shards lack for its window (R149, R248). -/
structure Predict where
  id : SatchelId
  finish : Nat
  room : Nat
  short : Nat := 0
  deriving DecidableEq, Repr

/-- A row that another device holds for a satchel: the n-th that it holds as a ring partner (R147), or the lodged row with this first handle
(R93). -/
inductive RowAt where
  | ring (n : Nat)
  | lodged (first : Nat)
  deriving DecidableEq, Repr

/-- What becomes of an adapter version on the other shards (R245 to R247). -/
inductive AdapterAct where
  | current | free | unload
  deriving DecidableEq, Repr

/-- What else an owner has its shards do for a satchel:
* make a satellite, with its adapter binding and the prefix that it shares (R145, R154, R246);
* reserve one for a hand-over, which becomes the satellite at COMMIT, with so many rows that lodge at a device, or is released (R70, R146);
* keep its rows as a lodging for the device that took the satellite over (R93, R146);
* copy an INKWELL row that the window meets (R149, R156);
* park, revive, swap out and return its rows with the satchel's (R145, R166);
* make its first rows inkwell rows, or drop such an entry (R153, R155);
* move an accepted path's keys and values (R165);
* bind it to another adapter version (R247);
* take the row as planned (R233);
* take a new list of the instance's shards (R225);
* make an adapter version current, free it, or unload it (R245, R247);
* write keys or values of one head at a position of a row that it holds, or move a position's from row to row (R150, R165). -/
inductive ShardAct where
  | create (tenant : BitVec 16) (cls : Fin 8) (adapter : BitVec 16) (version prefixId : BitVec 32)
  | reserve (tenant : BitVec 16) (cls : Fin 8) (adapter : BitVec 16) (version : BitVec 32)
  | commit (lodge : DeviceId) (state : SatState) (rows : Nat)
  | release
  | lodgeFor (owner : DeviceId)
  | copy (row : Nat)
  | park (cold : Bool)
  | revive
  | swapOut
  | swapIn
  | publish (prefixId : BitVec 32) (length : Nat) (scope : Option (BitVec 16)) (tokens : List Token)
  | withdraw (prefixId : BitVec 32)
  | path (ctx : Nat) (nodes : List Nat)
  | rebind (version : BitVec 32)
  | planned (row : Planned)
  | shards (list : List DevPart)
  | adapter (id : BitVec 16) (version : BitVec 32) (act : AdapterAct)
  | append (row : RowAt) (layer head half at_ : Nat) (values : List (BitVec 32))
  | move (src : RowAt) (srcAt : Nat) (dst : RowAt) (dstAt : Nat)
  deriving DecidableEq, Repr

/-- One row instruction of an owner's stroke plan for a shard (R145, R233), or of a shard's for a ring partner (R147): allocate or free rows of a
satchel's satellite, and the contexts to kill. -/
structure ShardInstr where
  id : SatchelId
  alloc : Nat
  freeFrom : Nat
  kvPos : Nat
  kill : Bool
  drop : Bool
  acts : List ShardAct
  /-- For a ring partner. -/
  ring : Bool := false
  deriving DecidableEq, Repr

/-! ### Memory (08) -/

/-- The kinds of an open fault (R280). -/
inductive FaultKind where
  | s1Invalid | s1Perm | s2Invalid | s2Perm | malformed | partCheck | poison
  deriving DecidableEq, Repr

/-- The code of a fault kind (R280). -/
def FaultKind.code : FaultKind → Nat
  | .s1Invalid => 1 | .s1Perm => 2 | .s2Invalid => 3 | .s2Perm => 4 | .malformed => 5 | .partCheck => 6 | .poison => 7

/-- The kinds of access a translation judges (R280: write, fetch, atomic; a read has none of the bits). -/
inductive Access where
  | read | write | fetch | atomic
  deriving DecidableEq, Repr

/-- The ACCESS byte of a fault record (R280). -/
def Access.code : Access → Nat
  | .read => 0 | .write => 1 | .fetch => 2 | .atomic => 4

/-- The unit of work that a fault parked (R279): a command's entry or tile, a row, a thread, a descriptor, or a packet. -/
inductive Unit279 where
  | entry (core unit seq : Nat) (index : Nat)
  | tile (core unit seq : Nat) (index : Nat)
  | thread (core thread : Nat)
  | descriptor (queue index : Nat) (done : Nat)
  | packet (engine conn : Nat) (psn : Nat)
  deriving DecidableEq, Repr

/-- An open fault (R280, R281). `posted` is the instant at which its record was posted; `recorded` an action taken while the
partition is suspended (R284). -/
structure OpenFault where
  kind : FaultKind
  access : Access
  source : BitVec 12
  part : Fin 16
  stage : Nat
  va : Nat
  ipa : Nat
  satchel : SatchelId
  posted : Nat
  unit : Unit279
  recorded : Option Bool
  deriving DecidableEq, Repr

/-- A cached translation (R275) of one 64 KiB page: its partition, VA page, IPA page, physical page, and the rights that both
stages allow. -/
structure TlbEntry where
  part : Nat
  va : Nat
  ipa : Nat
  pa : Nat
  r : Bool
  w : Bool
  x : Bool
  deriving DecidableEq, Repr

/-- A region move under way (R278). -/
structure RegionMove where
  part : Fin 16
  ipa : Nat
  length : Nat
  dest : Nat
  page : Nat
  done : Nat
  reply : ReplyTo
  deriving DecidableEq, Repr

/-- A carve-out of the device pool (R270). Owners: 1 custody records and mirrors, 2 KV arena, 3 codec staging, 4 transport
spill and results, 5 flash map, 6 warm pool, 16 + p partition p's save area, weights, tables and parameter block. -/
structure Carve where
  owner : Nat
  base : Nat
  size : Nat
  deriving DecidableEq, Repr

/-- What training or retraining found at a GDDR7 position (R262, R264). -/
structure GddrDev where
  present : Bool
  trained : Bool
  density : Fin 4
  inService : Bool
  temp : Nat
  retrains : Nat
  trackFails : Nat
  hot : Bool
  throttled : Bool
  deriving DecidableEq, Repr

/-! ### Flash (10) -/

/-- A block's state (R327). -/
inductive BlockState where
  | free | opened | closing | closed | source | erasing | retired
  deriving DecidableEq, Repr

/-- A block (R327, R328): die, state, erase count, marks, the order in which it was closed, and the blocks that hold copies of its
units (R329). Keyed die × 2^21 + number of its first unit. -/
structure FlsBlock where
  die : Nat
  state : BlockState
  erases : Nat
  refresh : Bool
  retire : Bool
  age : Nat
  copies : List Nat
  deriving DecidableEq, Repr

/-- Kinds of a unit's header (R315). -/
inductive UKind where
  | data | gcCopy | parity | checkpoint | journal
  deriving DecidableEq, Repr

/-- The code UKIND of R315. -/
def UKind.code : UKind → Nat
  | .data => 1 | .gcCopy => 2 | .parity => 3 | .checkpoint => 4 | .journal => 5

/-- The header of a programmed unit (R315). -/
structure UnitHdr where
  lua : Nat
  extent : Nat
  ukind : UKind
  seq : Nat
  deriving DecidableEq, Repr

/-- The types of a journal record (R322). -/
inductive JType where
  | map | gcMap | unmap | extent | block | checkpoint
  deriving DecidableEq, Repr

/-- A journal record (R322). `req` is the request whose write it acknowledges (0 for none). -/
structure JRec where
  seq : Nat
  type : JType
  extent : Nat
  lua : Nat
  newPua : Nat
  oldPua : Nat
  arg : Nat
  req : Nat
  index : Nat
  deriving DecidableEq, Repr

/-- An extent (R318): kind, owner (none for PF0), its LUA ranges (first unit, units), the size in force, and a delete under way. -/
structure Extent where
  persistent : Bool
  owner : Option (Fin 16)
  ranges : List (Nat × Nat)
  limit : Nat
  deleting : Option ReplyTo
  deriving DecidableEq, Repr

/-- A FLASH_WRITE that awaits its units (R319): the units not yet durable, and the first unit not written where READ_ONLY cut it. -/
structure FlsReq where
  reply : ReplyTo
  extent : Nat
  offset : Nat
  left : Nat
  firstBad : Option Nat
  deriving DecidableEq, Repr

/-- A unit write under way (R323): its request and index within it, its logical unit, kind, SEQ, the mapping it replaces, and
where it was programmed. A GC copy names its source. -/
structure FlsWrite where
  req : Nat
  index : Nat
  lua : Nat
  extent : Nat
  ukind : UKind
  seq : Nat
  source : Nat
  deriving DecidableEq, Repr

/-- How a codeword's decoding ended on the ladder of R317: hard, after read-retry steps, soft, rebuilt from parity, unreadable;
with the bits corrected. -/
inductive DecodeEnd where
  | hard | retry (steps : Nat) | soft | parity | unreadable
  deriving DecidableEq, Repr

/-- The NAND population as found at a channel (R311 to R313, R344). -/
structure FlsChan where
  present : Bool
  inService : Bool
  rate : Nat
  diesOk : Nat
  temp : Nat
  hot : Bool
  stopped : Bool
  deriving DecidableEq, Repr

/-- The counters of FLASH_HEALTH (R338). -/
structure FlsHealth where
  hostUnits : Nat
  nandUnits : Nat
  uncorr : Nat
  soft : Nat
  tempMax : Nat
  hist : List Nat
  deriving DecidableEq, Repr

/-! ### Fabric ports, links and routing (11) -/

/-- The states of a port (R369, R379). -/
inductive PortState where
  | disabled | training | up | miswired | down | draining | bonded
  deriving DecidableEq, Repr

/-- The value LNK_P_STATUS.STATE reports (R379). -/
def PortState.code : PortState → Nat
  | .disabled => 0 | .training => 1 | .up => 2 | .miswired => 3 | .down => 4 | .draining => 5 | .bonded => 6

/-- The header of a keyed operation (R390). -/
structure OpHdr where
  key : BitVec 64
  addr : Nat
  msg : BitVec 32
  msgLen : Nat
  deriving DecidableEq, Repr

/-- The XPORT field (R388): the receiver's INC and connection number, sequence, acknowledgement, tag, flags, reserved flag bits,
injection time. -/
structure XPort where
  inc : Fin 4096
  conn : Fin 1048576
  seq : BitVec 32
  ack : BitVec 32
  tag : BitVec 16
  echo : Bool
  retx : Bool
  first : Bool
  last : Bool
  ordered : Bool
  rsv : Fin 8
  age : BitVec 8
  deriving DecidableEq, Repr

/-- What an atomic acts on: a key and offset, or a harness address (R411). -/
inductive AtomTarget where
  | keyed (h : OpHdr)
  | window (addr : Nat)
  deriving DecidableEq, Repr

/-- A constituent of a combining record (R411): source, the home's connection number and INC, sequence, tag, operand. -/
structure Constituent where
  src : DeviceId
  conn : Fin 1048576
  inc : Fin 4096
  seq : BitVec 32
  tag : BitVec 16
  /-- The message number of a keyed atomic in its connection (R390, R409). -/
  msg : BitVec 32
  opnd : Nat
  deriving DecidableEq, Repr

/-- A combining record (R411): target, AOP, tenant, partition, class, constituents in arrival order; `router` names the combining
router of a fetching record. -/
structure CombRec where
  target : AtomTarget
  aop : Nat
  tenant : BitVec 16
  part : Fin 16
  cls : Fin 8
  router : DeviceId
  list_ : List Constituent
  deriving DecidableEq, Repr

/-- What a packet carries behind its header, by its TYPE (R389). `raw` is a payload of link control, a custody message, a command, or a
reserved type. `rcv` is the RCV_BIT of a PUT's descriptor (R413). -/
inductive Body where
  | raw (l : List Byte)
  | opening (conn : Fin 1048576) (cls : Fin 8) (device : Bool) (part peer : Fin 16) (inc : Fin 4096)
  | openAck (conn : Fin 1048576) (inc : Fin 4096)
  | close (abort : Bool)
  | closeAck
  | ack (bitmap : BitVec 64)
  | nak (kind : Nat) (status : Status) (seq : BitVec 32)
  | put (h : OpHdr) (rcv : Option Nat) (data : List Byte)
  | get (h : OpHdr)
  | getData (h : OpHdr) (data : List Byte)
  | store (addr : Nat) (mask : Nat) (data : List Byte)
  | load (addr len : Nat)
  | loadData (status : Status) (data : List Byte)
  | atomic (target : AtomTarget) (aop opnd cmp : Nat)
  | atomicData (status : Status) (value : Nat)
  | combined (rec_ : CombRec)
  | combinedData (base : Nat) (status : Status) (rec_ : CombRec)
  | query (inc : Fin 4096) (seq : BitVec 32)
  | queryData (applied : Option Bool) (value : Nat)
  | reduce (group round rank step off total : Nat) (data : List Byte)
  | complete (collector slot : Nat) (list_ : List Constituent)
  deriving DecidableEq, Repr

/-- The header of a packet (R351) with its XPORT, what it carries, and whether its trailer matches its contents (R352). `rsv` holds the
reserved header bits as carried: PFLAGS in [5:0], PART_CLASS in [6], HOPS in [11:7], VIA in [16:12]. -/
structure Packet where
  type : BitVec 8
  cmark : Bool
  nonmin : Bool
  dst : DeviceId
  src : DeviceId
  tenant : BitVec 16
  part : Fin 16
  cls : Fin 8
  hops : Fin 8
  viaValid : Bool
  viaMember : Bool
  via : Fin 512
  rsv : Nat
  len : Nat
  hcrc : BitVec 16
  xp : XPort
  body : Body
  trailerOk : Bool
  deriving DecidableEq, Repr

/-- A flit header (R348): KIND, CLASS, STAGE, HEAD, TAIL, LEN as carried. -/
structure FlitHdr where
  kind : Fin 4
  cls : Fin 8
  stage : Fin 8
  head : Bool
  tail : Bool
  len : Fin 64
  deriving DecidableEq, Repr

/-- A flit as a port sends it: its header's word, and the packet whose first flit it is. -/
structure Flit where
  hdr : BitVec 16
  pkt : Option Packet
  deriving DecidableEq, Repr

/-- A packet in an output queue (R350, R354): its flits, how many were sent, its stage, when it entered the queue, the port and stage
whose buffer it leaves (none for an injected packet), and what R424 and R427 counted of it. -/
structure QPkt where
  pkt : Packet
  flits : Nat
  sent : Nat
  stage : Nat
  headAt : Nat
  from_ : Option (Nat × Nat)
  waited : Bool
  deriving DecidableEq, Repr

/-- A report of R361 for one member: the ports that are UP, their levels, when it came and its sequence. -/
structure LinkReport where
  up : BitVec 32
  levels : List Nat
  at_ : Nat
  seq : Nat
  deriving DecidableEq, Repr

/-- What training found at a port's other end (R347, R360): the device ID and port sent, the width reached, the round trip, and
whether both halves of a ×8 port reach one neighbour. -/
structure TrainedFact where
  dev : DeviceId
  port : Fin 64
  width : Nat
  rtt : Nat
  halvesOk : Bool
  deriving DecidableEq, Repr

/-- An Ethernet frame's checks on port 63 (R373). -/
structure GwFrame where
  dstMac : BitVec 48
  dstIp : BitVec 128
  udpPort : BitVec 16
  fcsOk : Bool
  udpOk : Bool
  pkt : Packet
  deriving DecidableEq, Repr

/-! ### Transport (12) -/

/-- The states of a connection end (R385). -/
inductive ConnState where
  | closed | opening | opened | closing | failed
  deriving DecidableEq, Repr

/-- STATE of a context (R384): the order of R385's table. -/
def ConnState.code : ConnState → Nat
  | .closed => 0 | .opening => 1 | .opened => 2 | .closing => 3 | .failed => 4

/-- The operations that a connection carries for its end. -/
inductive XKind where
  | put | get | atomic | reduce | complete | load | store
  deriving DecidableEq, Repr

/-- Who issued an operation (R398, R405): a transport queue's entry, a thread's access with the register a load or atomic writes and its
width and sign, an engine's access, or a device agent. -/
inductive XOrigin where
  | queue (q index : Nat)
  | thread (core thread rd width : Nat) (signed : Bool)
  | engine (core unit seq : Nat)
  | agent
  deriving DecidableEq, Repr

/-- An operation (R391, R399) from issue to completion. `left` counts its packets not acknowledged, or the GET's bytes not placed,
`done` says that it only waits for its turn (R409), `result` is what an atomic or a load brought. -/
structure XOp where
  kind : XKind
  origin : XOrigin
  conn : Nat
  issued : Bool
  msg : BitVec 32
  tenant : BitVec 16
  part : Fin 16
  key : BitVec 64
  raddr : Nat
  laddr : Nat
  len : Nat
  aop : Nat
  opnd : Nat
  cmp : Nat
  dest : Nat
  cv : Option Nat
  rcv : Option Nat
  tagv : Word
  data : List Byte
  mask : Nat
  left : Nat
  got : List Nat
  status : Status
  done : Bool
  result : List Byte
  deriving DecidableEq, Repr

/-- A packet that is not acknowledged (R386): when it was last sent. -/
structure Sent where
  pkt : Packet
  at_ : Nat
  deriving DecidableEq, Repr

/-- A connection's context (R384) with the packets that wait and those sent, the sequences arrived out of order, the arrivals not
acknowledged and the first one's time, and the round trip that ALPHA measures (R392). -/
structure Conn where
  state : ConnState
  cls : Fin 8
  device : Bool
  inc : Fin 4096
  peerConn : Fin 1048576
  peerInc : Fin 4096
  peerDev : DeviceId
  peerPart : Fin 16
  localPart : Fin 16
  sndNxt : BitVec 32
  sndUna : BitVec 32
  rcvNxt : BitVec 32
  msgNxt : BitVec 32
  msgSnd : BitVec 32
  msgDone : BitVec 32
  window : Nat
  inflight : Nat
  alpha : Nat
  srtt : Nat
  rto : Nat
  retries : Nat
  ops : Nat
  opsMax : Nat
  lastUse : Nat
  sendq : List Packet
  sent : List Sent
  arrived : List (BitVec 32)
  unacked : Nat
  firstAt : Nat
  closeAt : Nat
  echoDue : Bool
  roundEnd : BitVec 32
  roundBytes : Nat
  roundMarked : Nat
  waiting : List Nat
  reopen : Bool
  notReady : List (BitVec 32)
  engine : Nat
  path : Option (Bool × Nat)
  deriving DecidableEq, Repr

/-- An entry of the result table (R403). -/
structure XResult where
  conn : Nat
  inc : Fin 4096
  seq : BitVec 32
  status : Status
  value : Nat
  deriving DecidableEq, Repr

/-- A failed incarnation whose results the home still holds, until an instant (R404). -/
structure FailedInc where
  conn : Nat
  inc : Fin 4096
  peer : DeviceId
  until_ : Nat
  deriving DecidableEq, Repr

/-- A region (R394 to R397), keyed by its index: [47:0] of its key, its range, permissions, scope, options, and while REVOKING the
instant of the mark and the packets to answer. -/
structure Region where
  draw : BitVec 48
  part : Fin 16
  base : Nat
  length : Nat
  r : Bool
  w : Bool
  a : Bool
  scope : Option (BitVec 16)
  window : Bool
  revoking : Option Nat
  replies : List ReplyTo
  deriving DecidableEq, Repr

/-- An entry of the stitcher (R408): a message of a connection with its packets that arrived (offset in the region, bytes), where it begins in its
region once its first or last packet has told, its region, and whether it is abandoned (R397). -/
structure Stitch where
  conn : Nat
  msg : BitVec 32
  len : Nat
  parts : List (Nat × Nat)
  start : Option Nat
  bytes : Nat
  region : Nat
  rcv : Option Nat
  complete : Bool
  abandoned : Bool
  deriving DecidableEq, Repr

/-- A transport queue (R398): its ring, the next entry and phase, and the taken entries that have not completed. -/
structure XQueue where
  part : Fin 16
  tenant : BitVec 16
  ring : Nat
  entries : Nat
  next : Nat
  phase : Bool
  open_ : List Nat
  parked : List Nat
  destroying : List ReplyTo
  deriving DecidableEq, Repr

/-- A collector (R414): its intake slots, keyed by source rank. -/
structure Collector where
  part : Fin 16
  bit : Nat
  n : Nat
  cls : Fin 8
  slots : Assoc Nat
  deriving DecidableEq, Repr

/-- A collective group (R415): FN, FMT, ranks in order, the round, and the contributions of the round by (step, rank). -/
structure XGroup where
  part : Fin 16
  fn : Nat
  fmt : Nat
  ranks : List DevPart
  round : Nat
  inputs : Assoc (List Byte)
  waiting : List Nat
  deriving DecidableEq, Repr

/-- A combining record that a router holds (R411). -/
structure CombHold where
  rec_ : CombRec
  first : Packet
  openedAt : Nat
  deriving DecidableEq, Repr

/-- A COMPLETE record that a router holds (R414). -/
structure CompHold where
  collector : Nat
  list_ : List Constituent
  first : Packet
  openedAt : Nat
  deriving DecidableEq, Repr

/-- An agent's access to a harness-window address (R405): a load of some bytes, a store with its byte mask, an atomic by its AOP and
operand, or an access that the window does not serve (AMOSWAP, AMOAND, AMOOR, AMOXOR, LR, SC). -/
inductive WindowAccess where
  | load (len : Nat)
  | store (mask : Nat) (data : List Byte)
  | atomic (aop opnd : Nat)
  | unserved (lr : Bool)
  deriving DecidableEq, Repr

/-! ### Shaping (13) -/

/-- A policer's bucket (R424): its level in 1/800 byte, and when it was last brought up to date. -/
structure Bucket where
  level : Nat
  at_ : Nat
  deriving DecidableEq, Repr

/-! ### Windows and rings (14) -/

/-- The states of a command window (R447). -/
inductive WinState where
  | disabled | enabled | error | draining
  deriving DecidableEq, Repr

/-- The value STATE of R447 reports. -/
def WinState.code : WinState → Nat
  | .disabled => 0 | .enabled => 1 | .error => 2 | .draining => 3

/-- A command window (R447): `resv` counts the reply records its taken packets may still produce (R458), `pend` is an enable
latched during a drain (R497). -/
structure Window where
  state : WinState
  cons : Nat
  errOffset : Nat
  errCode : Nat
  taken : BitVec 32
  resv : Nat
  pend : Bool
  deriving DecidableEq, Repr

/-- The kinds of ring (R455). -/
inductive RingKind where
  | reply | event | stream
  deriving DecidableEq, Repr

/-- A ring in host memory (R455 to R457, R460, R461): its place, PROD, CONS as last read, records not yet signalled, the
records waiting for space (with PHASE clear), events lost, and the events' SEQ. -/
structure Ring where
  entries : Nat
  base : Nat
  ctrl : Nat
  vector : Nat
  intRecords : Nat
  intDelay : Nat
  prod : BitVec 32
  cons : BitVec 32
  unsignalled : Nat
  backlog : List (List Byte)
  lost : Nat
  seq : BitVec 32
  deriving DecidableEq, Repr

/-- A packet forwarded to another device that awaits its final reply (R462, R464). -/
structure RemoteSlot where
  window : Fin 32
  reply : ReplyTo
  dest : DeviceId
  sentAt : Nat
  deriving DecidableEq, Repr

/-- A fabric command accepted under R463 and not yet served: its origin, opcode and tag. -/
structure AcceptedCmd where
  origin : Origin
  opcode : Nat
  tag : Word
  deriving DecidableEq, Repr

/-- The envelope of a packet carried over the fabric (R462). -/
structure Envelope where
  src : DeviceId
  auth : Nat
  win : BitVec 8
  slot : BitVec 32
  deriving DecidableEq, Repr

/-! ### Bring-up, security, host (16) and pins (17) -/

/-- The run states of R510 and SEC_RUN (R523). -/
inductive RunState where
  | boot | recovery | standby | joining | service | stopping | stopped | fault
  deriving DecidableEq, Repr

/-- The value SEC_RUN.STATE reports (R523). -/
def RunState.code : RunState → Nat
  | .boot => 0 | .recovery => 1 | .standby => 2 | .joining => 3 | .service => 4 | .stopping => 5 | .stopped => 6
  | .fault => 7

/-- A firmware image (R501): its header's bytes, and what the ROM computes over it (R502): SHA3-512 of PUBLIC_KEY, whether SIGNATURE verifies,
and the SHA3-512 digest of each component. -/
structure Image where
  header : List Byte
  keyDigest : BitVec 512
  sigOk : Bool
  digests : List (BitVec 512)
  deriving DecidableEq, Repr

/-- The fuses that R502 and R523 read. -/
structure Fuses where
  svn : Nat
  present : Fin 16
  revoked : Fin 16
  digests : List (BitVec 512)
  /-- The unique device secret, which no software reads (R504). -/
  secret : BitVec 256
  deriving DecidableEq, Repr

/-- A GDDR7 position of the board: density code of R292. -/
structure GddrFit where
  present : Bool
  density : Fin 4
  deriving DecidableEq, Repr

/-- A NAND channel of the board (R312, R313): dies that answer with a qualified parameter page, dies that match no entry, chip
enables and LUNs, the qualification entry, its density code, the data rate reached [100 MT/s], blocks per die and units per
block, rated cycles, read-retry levels, whether training passed. -/
structure NandFit where
  dies : Nat
  bad : Nat
  ce : Nat
  luns : Nat
  entry : Nat
  density : Nat
  rate : Nat
  blocks : Nat
  unitsPerBlock : Nat
  rated : Nat
  retry : Nat
  tempFeature : Bool
  trained : Bool
  deriving DecidableEq, Repr

/-- One item of the SPDM requests of R506. -/
inductive SpdmReq where
  | getVersion | getCapabilities | negotiateAlgorithms
  | getDigests | getCertificate (slot offset length : Nat)
  | challenge (slot : Nat) | getMeasurements (index : Nat) (signed : Bool)
  | other (code : Nat)
  deriving DecidableEq, Repr

/-- What an MCTP control message asks (R507): the endpoint ID's assignment, or another control command by its code. -/
inductive MctpCtl where
  | setEid (eid : BitVec 8) | getEid | other (code : Nat)
  deriving DecidableEq, Repr

/-- The asynchronous inputs that R485 and R532 sample. -/
inductive PinIn where
  | pfail | therm | tsync
  deriving DecidableEq, Repr

/-- A shut-down in progress (R519): its packet, targets, deadline, and what it has counted. -/
structure Shutdown where
  reply : Option ReplyTo
  immediate : Bool
  targets : List DevPart
  deadlineMs : Nat
  startedAt : Nat
  nextTarget : Nat
  moved : Nat
  surrendered : Nat
  deadlinePassed : Bool
  deriving DecidableEq, Repr

/-- A staging or live activation under way (R517, R518). -/
structure Staging where
  reply : ReplyTo
  image : Image
  deriving DecidableEq, Repr

/-- The board around the package, sampled at cold reset (R31, R262, R312): strap pins, what is fitted, and the images in slots A and B of
the boot flash where the board has rewritten it (R503), as at manufacture. -/
structure Board where
  strap : BitVec 5
  gddr : List GddrFit
  nand : List NandFit
  flash : Option (List (Option Image))
  deriving DecidableEq, Repr

/-! ### What the device sends -/

/-- What leaves the device: custody messages, replies and forwarded packets over the fabric, packets of the links' own kinds,
interrupts, messages to the management controller, pulses and bus writes. -/
inductive Out where
  | custody (dst : DeviceId) (ty : CType) (m : CMsg) (p : CPayload)
  | remoteReply (dst : DeviceId) (win : BitVec 8) (slot : BitVec 32) (record : List Byte)
  | transit (dst : DeviceId) (id : SatchelId) (header index : List Byte) (units : List (List Byte))
  | remoteCommand (dst : DeviceId) (cls : Fin 8) (part : Fin 16) (auth : Nat) (win : Nat) (slot : Nat) (opcode : Nat) (tag : Word) (tenant : BitVec 16) (params : List Byte)
  | msix (fn vector : Nat)
  | bmc (body : List Byte)
  | readData (data : List Byte)
  | sync (port : Nat) (at_ : Nat) (active : Option StrokeCfg) (pending : Option PendCfg)
  | syncBack (port : Nat) (received sent : Nat)
  | linkState (port : Nat) (seq : Nat) (up : BitVec 32) (levels : List Nat)
  | probe (via : Nat) (dst : DeviceId)
  | probeAns (dst : DeviceId)
  | notice (port : Nat) (dev : DeviceId) (seq : Nat) (alive : Bool)
  | flit (port : Nat) (seq : BitVec 16) (f : Flit)
  | ctrl (port : Nat) (hdr : BitVec 16) (body : List Byte)
  | frame (pkt : Packet) (entry : Nat) (head : List Byte)
  | windowStore (member addr : Nat) (data : List Byte)
  | tsyncPulse (at_ : Nat)
  | avs (mv : Nat)
  | spdm (code : Nat) (body : List Byte)
  | pldm (sensor : Nat) (value : Nat)
  | mctp (code : Nat) (eid : BitVec 8)
  | adapterForward (dst : DevPart) (adapter : BitVec 16) (version : BitVec 32) (rank source : Nat) (swap : Bool) (srcDev : DeviceId) (srcPart : Nat)
      (srcAddr : BitVec 64)
  | shardPlan (dst : DevPart) (stroke : Nat) (instrs : List ShardInstr)
  | shardLoss (dst : DeviceId) (id : SatchelId)
  | lodgingFree (dst : DeviceId) (id : SatchelId)
  | rehome (dst : DeviceId) (cls : Fin 8) (tenant : BitVec 16) (part : Fin 16) (rec_ : Record)
  | ringQuery (dst : DevPart) (cls : Fin 8) (id : SatchelId) (layer head limit low : Nat) (own : List Nat) (scale : BitVec 16) (query : List (BitVec 16))
  | ringPartial (dst : DeviceId) (cls : Fin 8) (id : SatchelId) (rows : List (BitVec 32))
  deriving DecidableEq, Repr

end Sys2Proof.Machine
end

