-- ==== Sys2Proof/Syntax.lean ====
section
/-!
DEFINITION. Syntax.lean: the commands of the block, one constructor for each row of spec/opcode_table.json, in the table's
order. Operands carry what reaches the device with the command: a packet's fields, a register's value, an instant, or a fact
that the outside world or an analogue part reports (a training result, a reading, the end of a program).
-/
namespace Sys2Proof

open Sys2Proof.Machine

/-- The commands (spec/opcode_table.json). -/
inductive Instr where
  /-- REGISTER_WRITE: A BAR0 write of 32 bits, or of 64 bits to a pair's low half (R6, R7, R545). -/
  | registerWrite (off : Nat) (wide : Bool) (value : BitVec 64)
  /-- BAR0_INVALID_ACCESS: A misaligned BAR0 access or one to an unoccupied offset (R6, R28). -/
  | bar0InvalidAccess (write : Bool) (off : Nat) (bytes : Nat)
  /-- GLB_DEVICE_ID_WRITE: A write of GLB_DEVICE_ID (R33). -/
  | glbDeviceIdWrite (value : Word)
  /-- BLOCK_LOCK_WRITE: A write of a block's lock register, named by its offset (R35). -/
  | blockLockWrite (off : Nat) (value : Word)
  /-- SAT_ENABLE: A write of SAT_CTRL with ENABLE set (R100). -/
  | satEnable (value : Word)
  /-- KVA_ENABLE: A write of KVA_CTRL with ENABLE set (R134). -/
  | kvaEnable (value : Word)
  /-- MEM_ENABLE: A write of MEM_CTRL with ENABLE set (R264). -/
  | memEnable (value : Word)
  /-- CDC_ENABLE: A write of CDC_CTRL with ENABLE set (R306). -/
  | cdcEnable (value : Word)
  /-- FLS_ENABLE: A write of FLS_CTRL with ENABLE set (R335). -/
  | flsEnable (value : Word)
  /-- XPT_ENABLE: A write of XPT_CTRL with ENABLE set (R416). -/
  | xptEnable (value : Word)
  /-- PLN_ENABLE: A write of PLN_CTRL with ENABLE set (R252). -/
  | plnEnable (value : Word)
  /-- LNK_ENABLE: A write of LNK_CTRL with ENABLE set (R375). -/
  | lnkEnable (value : Word)
  /-- SHP_ENABLE: A write of SHP_CTRL with ENABLE set (R435). -/
  | shpEnable (value : Word)
  /-- CMD_ENABLE: A write of CMD_CTRL with ENABLE set (R448). -/
  | cmdEnable (value : Word)
  /-- PORT_CTRL_WRITE: A write of LNK_P_CTRL (R369). -/
  | portCtrlWrite (port : Fin 64) (value : Word)
  /-- GATE_BANK_SWAP: A write of SHP_CTRL with SWAP set (R429). -/
  | gateBankSwap (value : Word)
  /-- GATE_BANK_ACTIVATE: The other gate bank's start (R429). -/
  | gateBankActivate (now : Nat)
  /-- GATE_ENTRY_CHANGE: The end of the gate entry in force (R429). -/
  | gateEntryChange (now : Nat)
  /-- HIST_CLEAR: A write of SHP_HIST_CTRL with CLEAR set (R432). -/
  | histClear (value : Word)
  /-- HIST_SAMPLE: The sample of a whole microsecond (R432). -/
  | histSample (now : Nat)
  /-- WINDOW_RESET: A write of RESET in a status page, or of CMD_W through BAR0 (R447, R470). -/
  | windowReset (window : Fin 32) (viaBar0 : Bool) (value : Word)
  /-- FAULTN_HOLD_WRITE: A write of BLT_FAULTN (R483). -/
  | faultnHoldWrite (value : Word)
  /-- CORE_ISOLATE: A write of CORE_CTRL with ISOLATE set (R212). -/
  | coreIsolate (core : Fin 128) (value : Word)
  /-- CODEC_GROUP_ISOLATE: A write of CDC_GROUP with ISOLATE set (R310). -/
  | codecGroupIsolate (group : Fin 16) (value : Word)
  /-- PLN_P_CFG_WRITE: A write of PLN_P_CFG, or of PLN_P_C0 (R257). -/
  | plnPCfgWrite (part : Fin 16) (c0 : Bool) (value : Word)
  /-- SYNC_SEND: The 125 µs sync interval at a time parent (R38). -/
  | syncSend (now : Nat)
  /-- SYNC_EXCHANGE: A child completes an exchange: parent's transmit, own receive, own transmit, parent's receive instants, and the parent's configurations (R38). -/
  | syncExchange (port : Fin 64) (t1 t2 t3 t4 : Nat) (cfg : ParentCfg)
  /-- PARENT_LOST: Eight sync intervals without a valid exchange (R40). -/
  | parentLost (now : Nat)
  /-- UNALIGNED: The holdover error estimate is evaluated (R46). -/
  | unaligned (now : Nat)
  /-- TSYNC_IN_PULSE: A TSYNC_IN edge, time-stamped on system time (R42). -/
  | tsyncInPulse (now : Nat)
  /-- REF_HOLDOVER: Sixteen expected TSYNC_IN periods without a pulse (R43). -/
  | refHoldover (now : Nat)
  /-- TSYNC_OUT_PULSE: An instant at which TSYNC_OUT may be pulsed (R44). -/
  | tsyncOutPulse (now : Nat)
  /-- STROKE_BOUNDARY: A stroke boundary with what the deadline monitor predicts per row, and for each partition whose Plan is unfinished at ISSUE_AT the rows that it has fixed by then (R47, R48, R55). -/
  | strokeBoundary (preds : List Predict) (cuts : List (Fin 16 × Nat))
  /-- ISSUE_PHASE: ISSUE_AT of the current stroke (R48). -/
  | issuePhase
  /-- COMPUTE_PHASE: COMPUTE_AT of the current stroke (R48). -/
  | computePhase
  /-- EXCHANGE_PHASE: EXCHANGE_AT of the current stroke (R48). -/
  | exchangePhase
  /-- INK_POINT: COMMIT_AT of the current stroke, with the satchels whose main path has not written every planned position (R87, R152). -/
  | inkPoint (late : List SatchelId)
  /-- COMMIT_COMPLETE: A partition's Commit completes, with what the deadline monitor predicts for a late Plan, and the rows that this Plan fixes where ISSUE_AT finds it unfinished (R48, R57). -/
  | commitComplete (part : Fin 16) (now : Nat) (preds : List Predict) (cut : Option Nat)
  /-- STROKE_CONFIG: STROKE_CONFIG (R50, R53). -/
  | strokeConfig (h : Header) (mode : Nat) (cfg : StrokeCfg) (stroke : Nat) (rsv : Nat)
  /-- TIME_SET: TIME_SET (R453). -/
  | timeSet (h : Header) (time : Nat)
  /-- SATCHEL_ADMIT: SATCHEL_ADMIT, with whether every other shard can hold a satellite (R454, R74, R145). -/
  | satchelAdmit (h : Header) (p : AdmitParams) (shardsOk : Bool)
  /-- SATCHEL_APPEND: SATCHEL_APPEND (R118). -/
  | satchelAppend (h : Header) (id : SatchelId) (count : Nat) (reviveDev : DeviceId) (revivePart : Nat) (byRef : Bool) (tokens : List Token) (rsv : Nat)
  /-- SATCHEL_CANCEL: SATCHEL_CANCEL taken at the header's time (R87, R88). -/
  | satchelCancel (h : Header) (id : SatchelId) (rsv : Nat)
  /-- SATCHEL_MOVE: SATCHEL_MOVE (R89). -/
  | satchelMove (h : Header) (id : SatchelId) (dev : DeviceId) (dpart : Nat) (full : Bool) (rsv : Nat)
  /-- SATCHEL_FREE: SATCHEL_FREE (R75). -/
  | satchelFree (h : Header) (id : SatchelId)
  /-- SATCHEL_QUERY: SATCHEL_QUERY (R99). -/
  | satchelQuery (h : Header) (id : SatchelId) (outAddr : BitVec 64)
  /-- SATCHEL_RECOVER: SATCHEL_RECOVER (R97). -/
  | satchelRecover (h : Header) (id : SatchelId) (dev : DeviceId) (dpart : Nat) (rsv : Nat)
  /-- OFFER: OFFER reaches its receiver, with the sending instance, the transit header of blocks from another harness (R515), and whether the receiver's other shards can reserve a satellite (R70, R89, R145, R146). -/
  | offer (m : CMsg) (image : Sat) (full : Bool) (part : Fin 16) (inside : Bool) (sentBy : Option SentBy) (transit : Option (List Byte)) (shardsOk : Bool)
  /-- OFFER_NOTE: OFFER_NOTE reaches the registrar (R89). -/
  | offerNote (m : CMsg)
  /-- RECEIVER_DATA_COMPLETE: The receiver's reads from the sender end with a status: the token log, a parked satchel's blocks, as stored units where they come from another harness, and whether every other shard has taken its satellite (R89, R90, R124, R146). -/
  | receiverDataComplete (id : SatchelId) (result : Status) (log : List Token) (forms : List (List Byte)) (shardsTaken : Bool)
  /-- CLAIM: CLAIM reaches the registrar (R89). -/
  | claim (m : CMsg)
  /-- COMMIT: COMMIT reaches the receiver (R89). -/
  | commit (m : CMsg)
  /-- RELEASE: RELEASE reaches the sender (R89). -/
  | release (m : CMsg)
  /-- DECLINE: DECLINE reaches the sender (R90). -/
  | decline (m : CMsg)
  /-- ABORT_REQ: ABORT_REQ reaches the registrar (R90). -/
  | abortReq (m : CMsg)
  /-- ABORT_ANS: ABORT_ANS reaches the sender, a receiver or a late candidate (R90, R97). -/
  | abortAns (m : CMsg)
  /-- MIRROR: MIRROR reaches the registrar (R85). -/
  | mirror (m : CMsg) (tokens : List Token)
  /-- MIRROR_ACK: MIRROR_ACK reaches the owner (R86). -/
  | mirrorAck (m : CMsg)
  /-- REGISTER: REGISTER reaches the registrar (R84). -/
  | register (m : CMsg) (image : Sat) (log : List Token)
  /-- REGISTER_ACK: REGISTER_ACK reaches the owner (R84). -/
  | registerAck (m : CMsg)
  /-- PROBE: PROBE reaches a device (R99). -/
  | probe (m : CMsg)
  /-- PROBE_ANS: PROBE_ANS reaches the registrar (R95). -/
  | probeAns (m : CMsg)
  /-- SURRENDER: SURRENDER reaches the registrar (R95). -/
  | surrender (m : CMsg)
  /-- RECOVER_ASSIGN: RECOVER_ASSIGN reaches a recovery owner (R98). -/
  | recoverAssign (m : CMsg) (part : Fin 16) (image : Sat) (log : List Token)
  /-- RECOVER_ANS: RECOVER_ANS reaches the registrar (R97). -/
  | recoverAns (m : CMsg)
  /-- CUSTODY_MESSAGE_RETURNED: A custody message at a device that is not the registrar, or a returned request at its sender (R78). -/
  | custodyMessageReturned (ty : CType) (m : CMsg) (p : CPayload)
  /-- CUSTODY_UNDELIVERED: The transport reports a custody message undelivered (R91). -/
  | custodyUndelivered (ty : CType) (dst : DeviceId) (m : CMsg) (p : CPayload)
  /-- RELEASE_TIMEOUT: T without RELEASE at a sender (R90). -/
  | releaseTimeout (id : SatchelId)
  /-- COMMIT_TIMEOUT: T without COMMIT at a receiver (R90). -/
  | commitTimeout (id : SatchelId)
  /-- COMMIT_PROBE_TIMER: Each T at a registrar whose COMMIT is undelivered (R90). -/
  | commitProbeTimer (id : SatchelId)
  /-- OWNER_LOSS_TIMEOUT: The owner-loss timer of a record expires (R95). -/
  | ownerLossTimeout (id : SatchelId)
  /-- SILENT_OWNER_PROBE: Sixteen strokes without MIRROR of a READY satchel (R95). -/
  | silentOwnerProbe (id : SatchelId)
  /-- RECOVER_ANS_TIMEOUT: T without RECOVER_ANS (R97). -/
  | recoverAnsTimeout (id : SatchelId)
  /-- MIRROR_ACK_OVERDUE: Eight strokes without acknowledgement (R85). -/
  | mirrorAckOverdue (id : SatchelId)
  /-- REGISTER_RETRY: T after a REGISTER refused with NO_RESOURCE (R83). -/
  | registerRetry (id : SatchelId)
  /-- REREG_WINDOW_CLOSE: A re-registration window ends (R84). -/
  | reregWindowClose (member : Fin 32)
  /-- REHOME_ACK: A joining member acknowledges a record: at the previous holder, or with the record as it arrived at the member itself, and whether it was the last (R81). -/
  | rehomeAck (id : SatchelId) (dst : DeviceId) (arrived : Option Record) (last : Bool)
  /-- MIGRATION_COMPLETE: The last lodged page of a satchel moved home (R93). -/
  | migrationComplete (id : SatchelId)
  /-- LODGING_EXPIRY: The owner-loss time passed for a lodging of a dead owner (R93). -/
  | lodgingExpiry (id : SatchelId)
  /-- SATELLITE_EXPIRY: The owner-loss time passed for a satellite of a dead owner (R225). -/
  | satelliteExpiry (id : SatchelId)
  /-- WAIT_TIMEOUT_EXPIRY: A wait's idle age reached TIMEOUT at a boundary (R117). -/
  | waitTimeoutExpiry (id : SatchelId)
  /-- PARK_CONFIG: PARK_CONFIG (R119). -/
  | parkConfig (h : Header) (cfg : ParkCfg) (nTargets : Nat) (revivePart : Nat) (rsv : Nat)
  /-- PARKING_DUE: The parking transitions of a boundary (R120). -/
  | parkingDue (part : Fin 16)
  /-- PARKING_COMPLETE: The last block of the new tier is written (R120, R127). -/
  | parkingComplete (id : SatchelId)
  /-- CACHE_PATH_RETRY: 64 strokes after every cache target refused (R124). -/
  | cachePathRetry (id : SatchelId)
  /-- LEAD_RESTORE_START: LEAD strokes before a wake expiry (R131). -/
  | leadRestoreStart (id : SatchelId)
  /-- REVIVAL_RESIDENT: The first boundary after the last block is resident (R130). -/
  | revivalResident (id : SatchelId)
  /-- PARK_POOL: PARK_POOL (R127). -/
  | parkPool (h : Header) (warm cold : Nat)
  /-- TENANT_PARK: TENANT_PARK (R127). -/
  | tenantPark (h : Header) (tenant : BitVec 16) (warmFloor warmCap coldFloor coldCap : Nat) (rsv : Nat)
  /-- PARK_QUERY: PARK_QUERY (R129). -/
  | parkQuery (h : Header) (tenant : BitVec 16) (rsv : Nat)
  /-- INKWELL_PUBLISH: INKWELL_PUBLISH (R153). -/
  | inkwellPublish (h : Header) (id : SatchelId) (length : Nat) (pub : Bool) (rsv : Nat)
  /-- INKWELL_WITHDRAW: INKWELL_WITHDRAW (R155). -/
  | inkwellWithdraw (h : Header) (prefixId : BitVec 32) (rsv : Nat)
  /-- INKWELL_PIN_END: A reader's pin ends (R158). -/
  | inkwellPinEnd (reader : Nat)
  /-- KV_SWAP_CONFIG: KV_SWAP_CONFIG (R166). -/
  | kvSwapConfig (h : Header) (t2Units : Nat) (nExt : Nat) (extents : List (Nat × Nat)) (rsv : Nat)
  /-- SWAP_OUT_COMPLETE: The last frame of a row is written to swap (R166). -/
  | swapOutComplete (id : SatchelId) (row : Nat) (toT2 : Bool)
  /-- SWAP_RETURN_COMPLETE: A swapped row's frames were read back, with the outcome of their checks (R168). -/
  | swapReturnComplete (id : SatchelId) (row : Nat) (ok : Bool) (retried : Bool)
  /-- TQ_PUSH: A thread's TQ.PUSH: instruction word, its address, the values of rs1 and rs2 (R199). -/
  | tqPush (core : Fin 128) (thr : Fin 64) (w : Word) (pc v1 v2 : BitVec 64)
  /-- TQ_PUSH_RESUME: Room appears for a stalled push (R199). -/
  | tqPushResume (core : Fin 128) (thr : Fin 64)
  /-- TQ_POLL: A thread's TQ.POLL (R200). -/
  | tqPoll (core : Fin 128) (thr : Fin 64) (w : Word) (pc v1 v2 : BitVec 64)
  /-- TQ_WAIT: A thread's TQ.WAIT (R200). -/
  | tqWait (core : Fin 128) (thr : Fin 64) (w : Word) (pc v1 v2 : BitVec 64)
  /-- TQ_FENCE: A thread's TQ.FENCE (R200). -/
  | tqFence (core : Fin 128) (thr : Fin 64) (w : Word) (pc v1 v2 : BitVec 64)
  /-- CV_SET: A thread's CV.SET (R202). -/
  | cvSet (core : Fin 128) (thr : Fin 64) (w : Word) (pc v1 v2 : BitVec 64)
  /-- CV_CLR: A thread's CV.CLR (R202). -/
  | cvClr (core : Fin 128) (thr : Fin 64) (w : Word) (pc v1 v2 : BitVec 64)
  /-- CV_WAIT: A thread's CV.WAIT (R202). -/
  | cvWait (core : Fin 128) (thr : Fin 64) (w : Word) (pc v1 v2 : BitVec 64)
  /-- CV_READ: A thread's CV.READ (R201). -/
  | cvRead (core : Fin 128) (thr : Fin 64) (w : Word) (pc v1 v2 : BitVec 64)
  /-- THREAD_TRAP: A synchronous exception of a thread (R196). -/
  | threadTrap (core : Fin 128) (thr : Fin 64) (cause : Fin 64) (pc tval : BitVec 64)
  /-- MATMUL: A tensor engine runs the MATMUL with this sequence number in its queue (R188). -/
  | matmul (core : Fin 128) (eng : Fin 8) (seq : Nat)
  /-- ATTEND: A tensor engine runs the ATTEND with this sequence number in its queue (R161). -/
  | attend (core : Fin 128) (eng : Fin 8) (seq : Nat)
  /-- SAMPLE: The sampler runs a SAMPLE, of shadow logits where tapped (R206, R241). -/
  | sample (core : Fin 128) (seq : Nat) (tapped : Bool)
  /-- VECTOR: The vector unit runs a VECTOR (R204). -/
  | vector (core : Fin 128) (seq : Nat)
  /-- COMMAND_COMPLETE: A unit's command completes (R193). -/
  | commandComplete (core : Fin 128) (dev : Fin 10) (seq : Nat)
  /-- FAULT_RESUME: FAULT_RESUME (R281). -/
  | faultResume (h : Header) (faultId : BitVec 16) (action : Nat) (rsv : Nat)
  /-- FAULT_TIMEOUT: A fault open TIMEOUT strokes (R281). -/
  | faultTimeout (faultId : BitVec 16)
  /-- PARTITION_COMPOSE: PARTITION_COMPOSE, with what can be read at once of its source (R220). -/
  | partitionCompose (h : Header) (p : ComposeParams) (src : Option SrcFact)
  /-- HELD_COMPOSE_START: The boundary after a held composition's slices drained (R221). -/
  | heldComposeStart (part : Fin 16)
  /-- COMPOSE_ZEROING_DONE: Zeroing done and the image read, or the source unreachable (R222, R228). -/
  | composeZeroingDone (part : Fin 16) (image : Option ImageFact) (peerReady : Bool)
  /-- COMPOSE_WEIGHTS_IN_PLACE: The weights are in place (R222). -/
  | composeWeightsInPlace (part : Fin 16)
  /-- COMPOSE_FAILED: A source or T1 read fails (R222). -/
  | composeFailed (part : Fin 16) (status : Status)
  /-- PARTITION_DECOMPOSE: PARTITION_DECOMPOSE (R222). -/
  | partitionDecompose (h : Header)
  /-- PARTITION_DRAIN_COMPLETE: Scrubbing completes (R223). -/
  | partitionDrainComplete (part : Fin 16)
  /-- PARTITION_SUSPEND: PARTITION_SUSPEND (R250). -/
  | partitionSuspend (h : Header)
  /-- SUSPEND_SAVE_COMPLETE: The save completes (R250, R284). -/
  | suspendSaveComplete (part : Fin 16) (chunkLost : Bool)
  /-- PARTITION_RESUME: PARTITION_RESUME (R250). -/
  | partitionResume (h : Header)
  /-- RESUME_RESTORE_COMPLETE: The restore completes (R250). -/
  | resumeRestoreComplete (part : Fin 16)
  /-- INSTANCE_SET: INSTANCE_SET with what the replacement answers (R225). -/
  | instanceSet (h : Header) (position : Nat) (dev : DeviceId) (dpart : Nat) (sameModel : Bool) (noSatellites : Bool) (rsv : Nat)
  /-- INSTANCE_SET_COMPLETE: Every shard acknowledges (R225). -/
  | instanceSetComplete (part : Fin 16)
  /-- ADAPTER_LOAD: ADAPTER_LOAD (R245). -/
  | adapterLoad (h : Header) (adapter : BitVec 16) (rank : Nat) (version : BitVec 32) (source : Nat) (swap : Bool) (srcDev : DeviceId) (srcPart : Nat) (srcAddr : BitVec 64) (rsv : Nat)
  /-- ADAPTER_LOAD_COMPLETE: Every shard holds the version, or the load fails (R245). -/
  | adapterLoadComplete (part : Fin 16) (adapter : BitVec 16) (version : BitVec 32) (result : Status)
  /-- ADAPTER_UNLOAD: ADAPTER_UNLOAD (R247). -/
  | adapterUnload (h : Header) (adapter : BitVec 16) (rsv : Nat)
  /-- TENANT_BUDGET: TENANT_BUDGET (R234). -/
  | tenantBudget (h : Header) (tenant : BitVec 16) (rate burst floor : Nat) (rsv : Nat)
  /-- PARTITION_TENANTS: PARTITION_TENANTS (R393). -/
  | partitionTenants (h : Header) (action : Nat) (n : Nat) (tenants : List (BitVec 16)) (rsv : Nat)
  /-- TENANT_RELEASE: TENANT_RELEASE (R453). -/
  | tenantRelease (h : Header) (tenant : BitVec 16) (rsv : Nat)
  /-- WEIGHT_REFETCH_TIMEOUT: Three strokes without the poisoned weights (R286). -/
  | weightRefetchTimeout (part : Fin 16) (addr : Nat)
  /-- T1_TRAINING_COMPLETE: Training ends, with the positions that passed (R262, R264). -/
  | t1TrainingComplete (trained : List Bool)
  /-- T1_TRACKING: The 100 ms tracking of each position (R264). -/
  | t1Tracking (ok : List Bool)
  /-- T1_TEMP_READ: The 1 ms temperature read of each position (R265). -/
  | t1TempRead (temps : List Nat)
  /-- PATROL_SCRUB: A patrol read of a sector, with what the check found (R266). -/
  | patrolScrub (pa : Nat) (corrected : Bool) (uncorrectable : Bool)
  /-- TLB_INVALIDATE: TLB_INVALIDATE (R275). -/
  | tlbInvalidate (h : Header) (scope : Nat) (base length : Nat) (rsv : Nat)
  /-- REGION_MOVE: REGION_MOVE (R278). -/
  | regionMove (h : Header) (ipa length dest : Nat)
  /-- REGION_MOVE_PAGE_COMPLETE: A page copy of a move ends (R278). -/
  | regionMovePageComplete (ipa : Nat) (result : Status)
  /-- CODEC_BLOCK_COMPLETE: A block of a satchel ends encoding, with the lane errors met, or decoding, with the index and the stored unit as fetched where they differ from what was stored (R299, R303, R304). -/
  | codecBlockComplete (id : SatchelId) (block : Nat) (encode : Bool) (group : Fin 16) (errors : Nat) (index fetched : Option (List Byte))
  /-- CODEC_REREAD: The single re-read of a failed block ends (R304). -/
  | codecReread (id : SatchelId) (block : Nat) (group : Fin 16) (index fetched : Option (List Byte))
  /-- FLASH_FORMAT: FLASH_FORMAT (R319). -/
  | flashFormat (h : Header) (op : Nat) (rsv : Nat)
  /-- FLASH_EXTENT_CREATE: FLASH_EXTENT_CREATE (R318). -/
  | flashExtentCreate (h : Header) (ext : Nat) (kind : Nat) (owner : Nat) (units : Nat)
  /-- FLASH_EXTENT_DELETE: FLASH_EXTENT_DELETE (R319). -/
  | flashExtentDelete (h : Header) (ext : Nat) (rsv : Nat)
  /-- FLASH_WRITE: FLASH_WRITE (R319). -/
  | flashWrite (h : Header) (ext offset count : Nat) (addr : BitVec 64) (rsv : Nat)
  /-- FLASH_READ: FLASH_READ, with the offsets whose units prove unreadable (R319). -/
  | flashRead (h : Header) (ext offset count : Nat) (addr : BitVec 64) (unreadable : List Nat) (rsv : Nat)
  /-- FLASH_DISCARD: FLASH_DISCARD (R320). -/
  | flashDiscard (h : Header) (ext offset count : Nat) (rsv : Nat)
  /-- FLASH_HEALTH: FLASH_HEALTH (R338). -/
  | flashHealth (h : Header) (outAddr : BitVec 64)
  /-- UNIT_PROGRAM_COMPLETE: The program of a unit write succeeds at a PUA (R323). -/
  | unitProgramComplete (seq : Nat) (pua : Nat)
  /-- PROGRAM_FAILURE: A unit's program fails at a PUA (R330). -/
  | programFailure (seq : Nat) (pua : Nat) (dieLost : Bool)
  /-- JOURNAL_COMMIT: 100 µs, or 64 KiB collected (R322). -/
  | journalCommit (now : Nat)
  /-- JOURNAL_DURABLE: The first records of the committed tail are durable (R323). -/
  | journalDurable (records : Nat)
  /-- MAP_CHECKPOINT: A dirty map page is written back (R321). -/
  | mapCheckpoint (page : Nat)
  /-- CODEWORD_DECODE: A codeword's decoding ends (R317). -/
  | codewordDecode (pua : Nat) (decoder : Fin 8) (bits : Nat) (how : DecodeEnd) (verify : Bool)
  /-- BLOCK_VERIFY: A closing block is read back: most bits corrected, units over the limit (R327). -/
  | blockVerify (block : Nat) (worst : Nat) (bad : List Nat)
  /-- GC_START: Garbage collection of a parity group begins on the superblock of a block (R328). -/
  | gcStart (group : Nat) (victim : Nat)
  /-- SOURCE_ERASE: An erase of a SOURCE block is considered (R329). -/
  | sourceErase (block : Nat)
  /-- ERASE_COMPLETE: An erase ends (R327). -/
  | eraseComplete (block : Nat) (ok : Bool)
  /-- NAND_TEMP_READ: The once-per-second die temperatures, hottest per channel (R337). -/
  | nandTempRead (temps : List Nat)
  /-- FTL_RECOVERY_COMPLETE: Recovery's scan ends, with the units of OPEN and CLOSING blocks that do not decode (R335). -/
  | ftlRecoveryComplete (bad : List Nat)
  /-- PFAIL_ASSERT: PFAIL_N's assertion is accepted (R485, R332). -/
  | pfailAssert (now : Nat)
  /-- PFAIL_RELEASE: PFAIL_N is released (R334). -/
  | pfailRelease
  /-- PFAIL_HOLDOFF_END: The 10 ms hold-off ends: the level, and whether the input was released and asserted in it (R485). -/
  | pfailHoldoffEnd (active : Bool) (again : Bool) (now : Nat)
  /-- PFAIL_STUCK: PFAIL_N active over 1 s (R485). -/
  | pfailStuck
  /-- PFAIL_REARM: PFAIL_N read inactive for 2 µs while ignored (R485). -/
  | pfailRearm
  /-- THERM_ASSERT: THERM_N's assertion is accepted (R535). -/
  | thermAssert (now : Nat)
  /-- THERM_RELEASE: THERM_N inactive for 10 µs (R532). -/
  | thermRelease (now : Nat)
  /-- INPUT_GLITCH: A pulse shorter than its minimum width (R532). -/
  | inputGlitch (pin : PinIn) (now : Nat)
  /-- PORT_TRAINED: A port's training ends (R369). -/
  | portTrained (port : Fin 64) (fact : TrainedFact) (now : Nat)
  /-- PORT_TRAINING_TIMEOUT: 500 ms without training (R369). -/
  | portTrainingTimeout (port : Fin 64)
  /-- PORT_RETRAIN: 1 ms in DOWN (R369). -/
  | portRetrain (port : Fin 64)
  /-- LANE_LOSS: Loss of signal or PCS lock; lanes that still work from lane 4p up (R366). -/
  | laneLoss (port : Fin 64) (working : Nat) (now : Nat)
  /-- CTRL_FLIT_TIMEOUT: No valid CTRL flit for 2 µs (R366). -/
  | ctrlFlitTimeout (port : Fin 64) (now : Nat)
  /-- DATA_FLIT_RECEIVE: A DATA flit arrives, at its place in the sequence, with its flit header (R348, R353). -/
  | dataFlitReceive (port : Fin 64) (seq : BitVec 16) (hdr : BitVec 16) (fecOk : Bool)
  /-- CTRL_FLIT_RECEIVE: A CTRL flit arrives: its flit header and its body of 62 bytes (R348, R349). -/
  | ctrlFlitReceive (port : Fin 64) (hdr : BitVec 16) (body : List Byte) (now : Nat)
  /-- PACKET_ROUTE: A packet head reaches a router, from a port or injected (R362). -/
  | packetRoute (port : Option (Fin 64)) (pkt : Packet) (now : Nat)
  /-- LINK_STATE_SEND: LS_PERIOD elapsed (R361). -/
  | linkStateSend (now : Nat)
  /-- LINK_STATE: A LINK_STATE packet arrives (R361). -/
  | linkState (src : DeviceId) (seq : Nat) (up : BitVec 32) (levels : List Nat) (now : Nat)
  /-- LINK_STATE_STALE: A report is older than 4 periods (R361). -/
  | linkStateStale (member : Fin 32)
  /-- PROBE_PACKET: A link PROBE arrives (R366). -/
  | probePacket (src : DeviceId) (dst : DeviceId)
  /-- PROBE_PACKET_ANS: A PROBE_ANS arrives (R366). -/
  | probePacketAns (src : DeviceId) (dst : DeviceId)
  /-- PROBE_TIMEOUT: 4 µs without an answer (R366). -/
  | probeTimeout (port : Fin 64) (now : Nat)
  /-- DEAD_NOTICE: A dead or alive notice arrives (R367). -/
  | deadNotice (dev : DeviceId) (seq : Nat) (alive : Bool) (now : Nat)
  /-- PORT_CONTROL: PORT_CONTROL (R371). -/
  | portControl (h : Header) (port : Nat) (action : Nat) (rsv : Nat)
  /-- PORT_DRAIN_COMPLETE: A drain's conditions hold (R370). -/
  | portDrainComplete (port : Fin 64)
  /-- PORT_DRAIN_TIMEOUT: 100 µs of draining (R370). -/
  | portDrainTimeout (port : Fin 64)
  /-- GATEWAY_FRAME_RECEIVE: A frame arrives at port 63 in Ethernet mode (R373). -/
  | gatewayFrameReceive (f : GwFrame) (now : Nat)
  /-- OPEN: An OPEN packet reaches the transport (R385). -/
  | openPkt (p : Packet) (now : Nat)
  /-- OPEN_ACK: An OPEN_ACK packet arrives (R385). -/
  | openAck (p : Packet) (now : Nat)
  /-- CLOSE: A CLOSE packet arrives (R385). -/
  | closePkt (p : Packet) (now : Nat)
  /-- CLOSE_ACK: A CLOSE_ACK packet arrives (R385). -/
  | closeAck (p : Packet) (now : Nat)
  /-- CLOSE_TIMEOUT: 3 RTO without CLOSE_ACK (R385). -/
  | closeTimeout (conn : Nat) (now : Nat)
  /-- CONNECTION_IDLE: A connection's idle age is evaluated (R385). -/
  | connectionIdle (conn : Nat)
  /-- ACK: An ACK packet arrives (R387). -/
  | ack (p : Packet) (now : Nat)
  /-- ACK_DELAY_TIMER: 1 µs after a connection's first unacknowledged arrival (R387). -/
  | ackDelayTimer (conn : Nat) (now : Nat)
  /-- NAK: A NAK packet arrives (R386). -/
  | nak (p : Packet) (now : Nat)
  /-- NOT_READY_RETRY: 2 µs after a NAK of kind NOT_READY (R386). -/
  | notReadyRetry (conn : Nat) (now : Nat)
  /-- RETRANSMIT_TIMEOUT: RTO after a connection's oldest unacknowledged packet was sent (R386). -/
  | retransmitTimeout (conn : Nat) (now : Nat)
  /-- PUT: A PUT packet arrives (R400). -/
  | put (p : Packet) (now : Nat)
  /-- GET: A GET packet arrives (R400). -/
  | get (p : Packet) (now : Nat)
  /-- GET_DATA: A GET_DATA packet arrives (R400). -/
  | getData (p : Packet) (now : Nat)
  /-- STORE: A STORE packet arrives (R406). -/
  | store (p : Packet) (now : Nat)
  /-- LOAD: A LOAD packet arrives (R406). -/
  | load (p : Packet) (now : Nat)
  /-- LOAD_DATA: A LOAD_DATA packet arrives (R405). -/
  | loadData (p : Packet) (now : Nat)
  /-- ATOMIC: An ATOMIC packet arrives (R402, R403). -/
  | atomic (p : Packet) (now : Nat)
  /-- ATOMIC_DATA: An ATOMIC_DATA packet arrives (R402). -/
  | atomicData (p : Packet) (now : Nat)
  /-- COMBINED: A combining record arrives at the home (R411). -/
  | combined (p : Packet) (now : Nat)
  /-- COMBINED_DATA: COMBINED_DATA arrives at the combining router (R412). -/
  | combinedData (p : Packet) (now : Nat)
  /-- COMBINE_HOLD_EXPIRY: COMB_NS after a record was opened: an atomic record, or a COMPLETE record (R411, R414). -/
  | combineHoldExpiry (index : Nat) (complete : Bool) (now : Nat)
  /-- QUERY: A QUERY packet arrives (R404). -/
  | query (p : Packet) (now : Nat)
  /-- QUERY_DATA: A QUERY_DATA packet arrives (R404). -/
  | queryData (p : Packet) (now : Nat)
  /-- RESULT_HOLD_EXPIRY: 100 ms after the home learned of a failure (R404). -/
  | resultHoldExpiry (conn : Nat) (inc : Fin 4096) (now : Nat)
  /-- REDUCE: A REDUCE packet arrives (R415). -/
  | reduce (p : Packet) (now : Nat)
  /-- COMPLETE: A COMPLETE packet arrives (R414). -/
  | complete (p : Packet) (now : Nat)
  /-- COMMAND: A COMMAND arrives: a command packet with its envelope, or a reply record for a slot (R462, R463). -/
  | command (e : Envelope) (opcode : Nat) (h : Header) (satchel : Option SatchelId) (record : List Byte)
  /-- XQ_ENTRY: The engine looks at the next entry of a transport queue (R398). -/
  | xqEntry (queue : Nat) (now : Nat)
  /-- XQ_COMPLETION: An operation whose packets are done completes in its turn (R399, R409). -/
  | xqCompletion (tag : BitVec 16)
  /-- REGION_REGISTER: REGION_REGISTER, with the value that the security unit draws (R394, R395). -/
  | regionRegister (h : Header) (base length : Nat) (perms : Nat) (flags : Nat) (draw : BitVec 48) (rsv : Nat)
  /-- REGION_REVOKE: REGION_REVOKE (R397). -/
  | regionRevoke (h : Header) (key : BitVec 64)
  /-- REGION_REVOKE_COMPLETE: The admitted accesses of a REVOKING region have completed (R397). -/
  | regionRevokeComplete (index : Nat)
  /-- REVOKE_ABANDON_TIMEOUT: 1 ms after a region was marked REVOKING (R397). -/
  | revokeAbandonTimeout (index : Nat) (now : Nat)
  /-- XQ_CREATE: XQ_CREATE (R398). -/
  | xqCreate (h : Header) (entries : Nat) (ring : Nat) (rsv : Nat)
  /-- XQ_DESTROY: XQ_DESTROY (R453). -/
  | xqDestroy (h : Header) (queue : Nat) (rsv : Nat)
  /-- CONN_QUERY: CONN_QUERY (R384). -/
  | connQuery (h : Header) (conn : Nat) (outAddr : BitVec 64) (rsv : Nat)
  /-- ATOMIC_QUERY: ATOMIC_QUERY (R404). -/
  | atomicQuery (h : Header) (dev : DeviceId) (handle : BitVec 64) (rsv : Nat)
  /-- COLLECTOR_CREATE: COLLECTOR_CREATE (R414). -/
  | collectorCreate (h : Header) (collector bit n cls : Nat) (rsv : Nat)
  /-- COLLECTIVE_CREATE: COLLECTIVE_CREATE (R415). -/
  | collectiveCreate (h : Header) (group fn fmt : Nat) (ranks : List DevPart) (rsv : Nat)
  /-- GROUP_DESTROY: GROUP_DESTROY (R453). -/
  | groupDestroy (h : Header) (kind id : Nat) (rsv : Nat)
  /-- WINDOW_BAD_LENGTH: The next packet of a window has a malformed LENGTH (R446). -/
  | windowBadLength (window : Fin 32) (opcode : Nat) (tag : Word) (length : Nat)
  /-- NOP: A NOP packet (R453). -/
  | nop (h : Header)
  /-- DEVICE_QUERY: DEVICE_QUERY (R453). -/
  | deviceQuery (h : Header)
  /-- RING_CREATE: RING_CREATE (R455). -/
  | ringCreate (h : Header) (kind : Nat) (window : Nat) (index : Nat) (entries : Nat) (base ctrl : BitVec 64) (vector : BitVec 16) (intRecords intDelay : Nat) (rsv : Nat)
  /-- RING_DESTROY: RING_DESTROY (R453). -/
  | ringDestroy (h : Header) (kind : Nat) (index : Nat) (rsv : Nat)
  /-- RING_SPACE_POLL: CONS of a ring read while records wait (R456). -/
  | ringSpacePoll (fn : Fin 17) (kind : RingKind) (index : Fin 4096) (cons : BitVec 32)
  /-- MSIX_DELAY_EXPIRY: INT_DELAY after the first unsignalled record (R457). -/
  | msixDelayExpiry (fn : Fin 17) (kind : RingKind) (index : Fin 4096)
  /-- REMOTE_COMMAND_TIMEOUT: REMOTE_TIMEOUT without a final reply (R464). -/
  | remoteCommandTimeout (slot : Nat)
  /-- BLOTTER_MESSAGE: The blotter takes the oldest message of a source, after the source posted a fresh one where given (R481). -/
  | blotterMessage (source : BitVec 12) (fresh : Option FaultSpec)
  /-- FAULTN_PULSE_END: The end of the 2 µs FAULT_N pulse (R483). -/
  | faultnPulseEnd
  /-- ENTRY_AGE_CLOSE: An entry's age is evaluated (R481). -/
  | entryAgeClose (source kind : BitVec 12) (level : Fin 4)
  /-- FAULT_ACK: FAULT_ACK (R482). -/
  | faultAck (h : Header) (mode : Nat) (levels : Nat) (seq : BitVec 32) (rsv : Nat)
  /-- FLR_VF: An FLR of virtual function p + 1 (R495). -/
  | flrVf (part : Fin 16)
  /-- FLR_PF0: An FLR of PF0, a Hot Reset or link down (R496). -/
  | flrPf0
  /-- FLR_DRAIN_COMPLETE: A function's drain completes (R495). -/
  | flrDrainComplete (fn : Fin 17)
  /-- FLR_SWAP_TIMEOUT: A host-swap row not returned 1 s after an FLR (R495). -/
  | flrSwapTimeout (id : SatchelId) (row : Nat)
  /-- VF_ENABLE: PF0 sets or clears VF Enable (R497). -/
  | vfEnable (on : Bool) (numVfs : Nat)
  /-- BAR4_ACCESS: A BAR4 access (R492). -/
  | bar4Access (fn : Fin 17) (write : Bool) (upper : Bool) (off : Nat) (data : List Byte) (bytes : Nat)
  /-- COLD_RESET: Power-on or SYS_RESET_N (R498). -/
  | coldReset (board : Board) (fuses : Fuses)
  /-- WARM_RESET: PERST_N (R498). -/
  | warmReset
  /-- BOOT: The ROM boots (R502). -/
  | boot (nonce : BitVec 128)
  /-- SPDM_REQUEST: An SPDM request (R506). -/
  | spdmRequest (doe : Bool) (req : SpdmReq) (nonce : BitVec 256)
  /-- PLDM_REQUEST: A PLDM sensor reading (R507). -/
  | pldmRequest (sensor : Nat)
  /-- DEBUG_UNLOCK_TOKEN: A debug token returns over JTAG (R509). -/
  | debugUnlockToken (valid : Bool)
  /-- IDENTITY_GET: IDENTITY_GET (R508). -/
  | identityGet (h : Header) (select : Nat) (length : Nat) (outAddr : BitVec 64) (rsv : Nat)
  /-- TENANT_KEY_SET: TENANT_KEY_SET (R515). -/
  | tenantKeySet (h : Header) (tenant : BitVec 16) (gen : Nat) (action : Nat) (key : BitVec 256) (rsv : Nat)
  /-- FW_STAGE: FW_STAGE, with the image that SRC_ADDR reads (R517). -/
  | fwStage (h : Header) (srcAddr : BitVec 64) (length : Nat) (image : Image) (rsv : Nat)
  /-- FW_STAGE_COMPLETE: The verification of a staged image ends (R517). -/
  | fwStageComplete
  /-- FW_ACTIVATE: FW_ACTIVATE (R517). -/
  | fwActivate (h : Header) (mode : Nat) (rsv : Nat)
  /-- LIVE_ACTIVATION_COMPLETE: The management harts restarted, or fell back (R518). -/
  | liveActivationComplete (started : Bool)
  /-- DEVICE_SHUTDOWN: DEVICE_SHUTDOWN (R519). -/
  | deviceShutdown (h : Header) (mode : Nat) (n : Nat) (deadlineMs : Nat) (targets : List DevPart) (rsv : Nat)
  /-- SHUTDOWN_DEADLINE: DEADLINE_MS after acceptance, or a step of the shut-down (R519). -/
  | shutdownDeadline
  /-- THROTTLE_EVALUATE: A Tj or power reading, at an instant (R535). -/
  | throttleEvaluate (tj now : Nat)
  /-- AVS_WRITE: A core voltage target written over AVSBus, acknowledged or not (R530). -/
  | avsWrite (acked : Bool)
  /-- PMBUS_POLL: The 1 ms poll of the regulator entries (R531). -/
  | pmbusPoll (readings : List (Option (Nat × Nat × Nat)))
  /-- FLIT_BOUNDARY: A port's next flit time (R423). -/
  | flitBoundary (port : Fin 64) (now : Nat)
  /-- POLICER_LEVEL_COVERS: A bucket's level is looked at for the packet it holds (R424). -/
  | policerLevelCovers (part : Fin 16) (cls : Fin 8) (now : Nat)
  /-- HARNESS_WINDOW_ACCESS: An agent's access to another member's harness-window address (R405). -/
  | harnessWindowAccess (part : Fin 16) (tenant : BitVec 16) (origin : XOrigin) (access : WindowAccess) (addr : Nat) (now : Nat)
  /-- T1_RETRAIN_COMPLETE: A device's own retraining ends (R264). -/
  | t1RetrainComplete (position : Fin 32) (ok : Bool)
  /-- PACKET_CHECK_MISMATCH: A packet whose CHECK does not match (R445). -/
  | packetCheckMismatch (h : Header) (opcode : Nat)
  /-- UNDEFINED_OPCODE: A packet with an opcode absent from R453 (R452). -/
  | undefinedOpcode (h : Header) (opcode : Nat)
  /-- MCTP_CONTROL: An MCTP control message (R507). -/
  | mctpControl (ctl : MctpCtl)
  /-- SHARD_PLAN_RECEIVE: The owner's stroke plan reaches a shard (R145, R233). -/
  | shardPlanReceive (part : Fin 16) (owner : DeviceId) (stroke : Nat) (instrs : List ShardInstr)
  /-- RING_QUERY_RECEIVE: A partner's attention query, with the tree positions that it sees, and the sequence rows that this device holds for it (R148, R165). -/
  | ringQueryReceive (src : DeviceId) (cls : Fin 8) (id : SatchelId) (layer head limit low : Nat) (own : List Nat) (scale : BitVec 16) (held : List Nat) (query : List (BitVec 16))
  deriving DecidableEq, Repr

end Sys2Proof
end

