-- ==== Sys2Proof/WellFormed.lean ====
section
/-!
DEFINITION. WellFormed.lean: what a command's operands can be on the wire: every number fits the field that carries it (R449 to R455, R91,
R351), and lists have the lengths that their records have. The meanings answer every command, well-formed or not.
-/
namespace Sys2Proof

open Sys2Proof.Machine

/-- A packet's header fits its fields (R449). -/
abbrev Machine.Header.wf (h : Header) : Prop := h.length < 2 ^ 32 ∧ h.hrsv < 2 ^ 80 ∧ h.params.length ≤ h.length - 32

/-- A custody message's fields fit (R91). -/
abbrev Machine.CMsg.wf (m : CMsg) : Prop := m.epoch < 2 ^ 32 ∧ m.status < 2 ^ 8 ∧ m.state < 2 ^ 8 ∧ m.logLen < 2 ^ 32 ∧ m.arg < 2 ^ 64

/-- A fabric packet's length fits (R351). -/
abbrev Machine.Packet.wf (p : Packet) : Prop := p.len < 2 ^ 16

/-- A command's operands fit the fields that carry them. -/
def Instr.wf : Instr → Bool
  | .registerWrite off _ _ => decide (off < 2 ^ 26)
  | .bar0InvalidAccess _ off bytes => decide (off < 2 ^ 26 ∧ bytes ≤ 8)
  | .glbDeviceIdWrite _ => true
  | .blockLockWrite off _ => decide (off < 2 ^ 26)
  | .satEnable _ => true
  | .kvaEnable _ => true
  | .memEnable _ => true
  | .cdcEnable _ => true
  | .flsEnable _ => true
  | .xptEnable _ => true
  | .plnEnable _ => true
  | .lnkEnable _ => true
  | .shpEnable _ => true
  | .cmdEnable _ => true
  | .portCtrlWrite _ _ => true
  | .gateBankSwap _ => true
  | .gateBankActivate _ => true
  | .gateEntryChange _ => true
  | .histClear _ => true
  | .histSample _ => true
  | .windowReset _ _ _ => true
  | .faultnHoldWrite _ => true
  | .coreIsolate _ _ => true
  | .codecGroupIsolate _ _ => true
  | .plnPCfgWrite _ _ _ => true
  | .syncSend _ => true
  | .syncExchange _ _ _ _ _ _ => true
  | .parentLost _ => true
  | .unaligned _ => true
  | .tsyncInPulse _ => true
  | .refHoldover _ => true
  | .tsyncOutPulse _ => true
  | .strokeBoundary _ _ => true
  | .issuePhase => true
  | .computePhase => true
  | .exchangePhase => true
  | .inkPoint _ => true
  | .commitComplete _ _ _ _ => true
  | .strokeConfig h mode _ stroke rsv => decide (h.wf ∧ mode < 2 ^ 8 ∧ stroke < 2 ^ 64 ∧ rsv < 2 ^ 64)
  | .timeSet h time => decide (h.wf ∧ time < 2 ^ 64)
  | .satchelAdmit h _ _ => decide (h.wf)
  | .satchelAppend h _ count _ revivePart _ _ rsv => decide (h.wf ∧ count < 2 ^ 32 ∧ revivePart < 2 ^ 8 ∧ rsv < 2 ^ 64)
  | .satchelCancel h _ rsv => decide (h.wf ∧ rsv < 2 ^ 64)
  | .satchelMove h _ _ dpart _ rsv => decide (h.wf ∧ dpart < 2 ^ 8 ∧ rsv < 2 ^ 64)
  | .satchelFree h _ => decide (h.wf)
  | .satchelQuery h _ _ => decide (h.wf)
  | .satchelRecover h _ _ dpart rsv => decide (h.wf ∧ dpart < 2 ^ 8 ∧ rsv < 2 ^ 64)
  | .offer m _ _ _ _ _ _ _ => decide (m.wf)
  | .offerNote m => decide (m.wf)
  | .receiverDataComplete _ _ _ _ _ => true
  | .claim m => decide (m.wf)
  | .commit m => decide (m.wf)
  | .release m => decide (m.wf)
  | .decline m => decide (m.wf)
  | .abortReq m => decide (m.wf)
  | .abortAns m => decide (m.wf)
  | .mirror m _ => decide (m.wf)
  | .mirrorAck m => decide (m.wf)
  | .register m _ _ => decide (m.wf)
  | .registerAck m => decide (m.wf)
  | .probe m => decide (m.wf)
  | .probeAns m => decide (m.wf)
  | .surrender m => decide (m.wf)
  | .recoverAssign m _ _ _ => decide (m.wf)
  | .recoverAns m => decide (m.wf)
  | .custodyMessageReturned _ m _ => decide (m.wf)
  | .custodyUndelivered _ _ m _ => decide (m.wf)
  | .releaseTimeout _ => true
  | .commitTimeout _ => true
  | .commitProbeTimer _ => true
  | .ownerLossTimeout _ => true
  | .silentOwnerProbe _ => true
  | .recoverAnsTimeout _ => true
  | .mirrorAckOverdue _ => true
  | .registerRetry _ => true
  | .reregWindowClose _ => true
  | .rehomeAck _ _ _ _ => true
  | .migrationComplete _ => true
  | .lodgingExpiry _ => true
  | .satelliteExpiry _ => true
  | .waitTimeoutExpiry _ => true
  | .parkConfig h _ nTargets revivePart rsv => decide (h.wf ∧ nTargets < 2 ^ 8 ∧ revivePart < 2 ^ 8 ∧ rsv < 2 ^ 64)
  | .parkingDue _ => true
  | .parkingComplete _ => true
  | .cachePathRetry _ => true
  | .leadRestoreStart _ => true
  | .revivalResident _ => true
  | .parkPool h warm cold => decide (h.wf ∧ warm < 2 ^ 32 ∧ cold < 2 ^ 32)
  | .tenantPark h _ warmFloor warmCap coldFloor coldCap rsv => decide (h.wf ∧ warmFloor < 2 ^ 32 ∧ warmCap < 2 ^ 32 ∧ coldFloor < 2 ^ 32 ∧ coldCap < 2 ^ 32 ∧ rsv < 2 ^ 64)
  | .parkQuery h _ rsv => decide (h.wf ∧ rsv < 2 ^ 64)
  | .inkwellPublish h _ length _ rsv => decide (h.wf ∧ length < 2 ^ 32 ∧ rsv < 2 ^ 64)
  | .inkwellWithdraw h _ rsv => decide (h.wf ∧ rsv < 2 ^ 64)
  | .inkwellPinEnd _ => true
  | .kvSwapConfig h t2Units nExt _ rsv => decide (h.wf ∧ t2Units < 2 ^ 32 ∧ nExt < 2 ^ 8 ∧ rsv < 2 ^ 64)
  | .swapOutComplete _ _ _ => true
  | .swapReturnComplete _ _ _ _ => true
  | .tqPush _ _ _ _ _ _ => true
  | .tqPushResume _ _ => true
  | .tqPoll _ _ _ _ _ _ => true
  | .tqWait _ _ _ _ _ _ => true
  | .tqFence _ _ _ _ _ _ => true
  | .cvSet _ _ _ _ _ _ => true
  | .cvClr _ _ _ _ _ _ => true
  | .cvWait _ _ _ _ _ _ => true
  | .cvRead _ _ _ _ _ _ => true
  | .threadTrap _ _ _ _ _ => true
  | .matmul _ _ _ => true
  | .attend _ _ _ => true
  | .sample _ _ _ => true
  | .vector _ _ => true
  | .commandComplete _ _ _ => true
  | .faultResume h _ action rsv => decide (h.wf ∧ action < 2 ^ 8 ∧ rsv < 2 ^ 64)
  | .faultTimeout _ => true
  | .partitionCompose h _ _ => decide (h.wf)
  | .heldComposeStart _ => true
  | .composeZeroingDone _ _ _ => true
  | .composeWeightsInPlace _ => true
  | .composeFailed _ _ => true
  | .partitionDecompose h => decide (h.wf)
  | .partitionDrainComplete _ => true
  | .partitionSuspend h => decide (h.wf)
  | .suspendSaveComplete _ _ => true
  | .partitionResume h => decide (h.wf)
  | .resumeRestoreComplete _ => true
  | .instanceSet h position _ dpart _ _ rsv => decide (h.wf ∧ position < 2 ^ 16 ∧ dpart < 2 ^ 8 ∧ rsv < 2 ^ 64)
  | .instanceSetComplete _ => true
  | .adapterLoad h _ rank _ source _ _ srcPart _ rsv => decide (h.wf ∧ rank < 2 ^ 16 ∧ source < 2 ^ 8 ∧ srcPart < 2 ^ 8 ∧ rsv < 2 ^ 64)
  | .adapterLoadComplete _ _ _ _ => true
  | .adapterUnload h _ rsv => decide (h.wf ∧ rsv < 2 ^ 64)
  | .tenantBudget h _ rate burst floor rsv => decide (h.wf ∧ rate < 2 ^ 32 ∧ burst < 2 ^ 32 ∧ floor < 2 ^ 32 ∧ rsv < 2 ^ 64)
  | .partitionTenants h action n _ rsv => decide (h.wf ∧ action < 2 ^ 8 ∧ n < 2 ^ 16 ∧ rsv < 2 ^ 64)
  | .tenantRelease h _ rsv => decide (h.wf ∧ rsv < 2 ^ 64)
  | .weightRefetchTimeout _ _ => true
  | .t1TrainingComplete trained => decide (trained.length = 32)
  | .t1Tracking ok => decide (ok.length = 32)
  | .t1TempRead temps => decide (temps.length = 32)
  | .patrolScrub pa _ _ => decide (pa < 2 ^ 42)
  | .tlbInvalidate h scope base length rsv => decide (h.wf ∧ scope < 2 ^ 8 ∧ base < 2 ^ 64 ∧ length < 2 ^ 64 ∧ rsv < 2 ^ 64)
  | .regionMove h ipa length dest => decide (h.wf ∧ ipa < 2 ^ 64 ∧ length < 2 ^ 64 ∧ dest < 2 ^ 64)
  | .regionMovePageComplete _ _ => true
  | .codecBlockComplete _ _ _ _ _ _ _ => true
  | .codecReread _ _ _ _ _ => true
  | .flashFormat h op rsv => decide (h.wf ∧ op < 2 ^ 8 ∧ rsv < 2 ^ 64)
  | .flashExtentCreate h ext kind owner units => decide (h.wf ∧ ext < 2 ^ 16 ∧ kind < 2 ^ 8 ∧ owner < 2 ^ 8 ∧ units < 2 ^ 32)
  | .flashExtentDelete h ext rsv => decide (h.wf ∧ ext < 2 ^ 16 ∧ rsv < 2 ^ 64)
  | .flashWrite h ext offset count _ rsv => decide (h.wf ∧ ext < 2 ^ 16 ∧ offset < 2 ^ 32 ∧ count < 2 ^ 32 ∧ rsv < 2 ^ 64)
  | .flashRead h ext offset count _ unreadable rsv => decide (h.wf ∧ ext < 2 ^ 16 ∧ offset < 2 ^ 32 ∧ count < 2 ^ 32 ∧ rsv < 2 ^ 64 ∧ unreadable.all (fun u => decide (u < count)) = true)
  | .flashDiscard h ext offset count rsv => decide (h.wf ∧ ext < 2 ^ 16 ∧ offset < 2 ^ 32 ∧ count < 2 ^ 32 ∧ rsv < 2 ^ 64)
  | .flashHealth h _ => decide (h.wf)
  | .unitProgramComplete _ _ => true
  | .programFailure _ _ _ => true
  | .journalCommit _ => true
  | .journalDurable _ => true
  | .mapCheckpoint _ => true
  | .codewordDecode _ _ _ _ _ => true
  | .blockVerify _ _ _ => true
  | .gcStart _ _ => true
  | .sourceErase _ => true
  | .eraseComplete _ _ => true
  | .nandTempRead temps => decide (temps.length = 32)
  | .ftlRecoveryComplete _ => true
  | .pfailAssert _ => true
  | .pfailRelease => true
  | .pfailHoldoffEnd _ _ _ => true
  | .pfailStuck => true
  | .pfailRearm => true
  | .thermAssert _ => true
  | .thermRelease _ => true
  | .inputGlitch _ _ => true
  | .portTrained _ _ _ => true
  | .portTrainingTimeout _ => true
  | .portRetrain _ => true
  | .laneLoss _ working _ => decide (working ≤ 4)
  | .ctrlFlitTimeout _ _ => true
  | .dataFlitReceive _ _ _ _ => true
  | .ctrlFlitReceive _ _ body _ => decide (body.length = 62)
  | .packetRoute _ pkt _ => decide (pkt.wf)
  | .linkStateSend _ => true
  | .linkState _ _ _ levels _ => decide (levels.length = 32 ∧ levels.all (fun l => decide (l < 4)) = true)
  | .linkStateStale _ => true
  | .probePacket _ _ => true
  | .probePacketAns _ _ => true
  | .probeTimeout _ _ => true
  | .deadNotice _ _ _ _ => true
  | .portControl h port action rsv => decide (h.wf ∧ port < 2 ^ 8 ∧ action < 2 ^ 8 ∧ rsv < 2 ^ 64)
  | .portDrainComplete _ => true
  | .portDrainTimeout _ => true
  | .gatewayFrameReceive _ _ => true
  | .openPkt p _ => decide (p.wf)
  | .openAck p _ => decide (p.wf)
  | .closePkt p _ => decide (p.wf)
  | .closeAck p _ => decide (p.wf)
  | .closeTimeout _ _ => true
  | .connectionIdle _ => true
  | .ack p _ => decide (p.wf)
  | .ackDelayTimer _ _ => true
  | .nak p _ => decide (p.wf)
  | .notReadyRetry _ _ => true
  | .retransmitTimeout _ _ => true
  | .put p _ => decide (p.wf)
  | .get p _ => decide (p.wf)
  | .getData p _ => decide (p.wf)
  | .store p _ => decide (p.wf)
  | .load p _ => decide (p.wf)
  | .loadData p _ => decide (p.wf)
  | .atomic p _ => decide (p.wf)
  | .atomicData p _ => decide (p.wf)
  | .combined p _ => decide (p.wf)
  | .combinedData p _ => decide (p.wf)
  | .combineHoldExpiry _ _ _ => true
  | .query p _ => decide (p.wf)
  | .queryData p _ => decide (p.wf)
  | .resultHoldExpiry _ _ _ => true
  | .reduce p _ => decide (p.wf)
  | .complete p _ => decide (p.wf)
  | .command e opcode h _ record => decide (h.wf ∧ opcode < 2 ^ 16 ∧ (record.length = 64 ∨ e.auth ≠ 2) ∧ e.auth < 256)
  | .xqEntry _ _ => true
  | .xqCompletion _ => true
  | .regionRegister h base length perms flags _ rsv => decide (h.wf ∧ base < 2 ^ 64 ∧ length < 2 ^ 64 ∧ perms < 2 ^ 8 ∧ flags < 2 ^ 8 ∧ rsv < 2 ^ 64)
  | .regionRevoke h _ => decide (h.wf)
  | .regionRevokeComplete _ => true
  | .revokeAbandonTimeout _ _ => true
  | .xqCreate h entries ring rsv => decide (h.wf ∧ entries < 2 ^ 32 ∧ ring < 2 ^ 64 ∧ rsv < 2 ^ 64)
  | .xqDestroy h queue rsv => decide (h.wf ∧ queue < 2 ^ 16 ∧ rsv < 2 ^ 64)
  | .connQuery h conn _ rsv => decide (h.wf ∧ conn < 2 ^ 32 ∧ rsv < 2 ^ 64)
  | .atomicQuery h _ _ rsv => decide (h.wf ∧ rsv < 2 ^ 64)
  | .collectorCreate h collector bit n cls rsv => decide (h.wf ∧ collector < 2 ^ 16 ∧ bit < 2 ^ 16 ∧ n < 2 ^ 16 ∧ cls < 2 ^ 8 ∧ rsv < 2 ^ 64)
  | .collectiveCreate h group fn fmt ranks rsv => decide (h.wf ∧ group < 2 ^ 16 ∧ fn < 2 ^ 8 ∧ fmt < 2 ^ 8 ∧ rsv < 2 ^ 64 ∧ ranks.length < 2 ^ 16)
  | .groupDestroy h kind id rsv => decide (h.wf ∧ kind < 2 ^ 8 ∧ id < 2 ^ 16 ∧ rsv < 2 ^ 64)
  | .windowBadLength _ opcode _ length => decide (opcode < 2 ^ 16 ∧ length < 2 ^ 32)
  | .nop h => decide (h.wf)
  | .deviceQuery h => decide (h.wf)
  | .ringCreate h kind window index entries _ _ _ intRecords intDelay rsv => decide (h.wf ∧ kind < 2 ^ 8 ∧ window < 2 ^ 8 ∧ index < 2 ^ 16 ∧ entries < 2 ^ 32 ∧ intRecords < 2 ^ 16 ∧ intDelay < 2 ^ 16 ∧ rsv < 2 ^ 64)
  | .ringDestroy h kind index rsv => decide (h.wf ∧ kind < 2 ^ 8 ∧ index < 2 ^ 16 ∧ rsv < 2 ^ 64)
  | .ringSpacePoll _ _ _ _ => true
  | .msixDelayExpiry _ _ _ => true
  | .remoteCommandTimeout _ => true
  | .blotterMessage _ _ => true
  | .faultnPulseEnd => true
  | .entryAgeClose _ _ _ => true
  | .faultAck h mode levels _ rsv => decide (h.wf ∧ mode < 2 ^ 8 ∧ levels < 2 ^ 8 ∧ rsv < 2 ^ 64)
  | .flrVf _ => true
  | .flrPf0 => true
  | .flrDrainComplete _ => true
  | .flrSwapTimeout _ _ => true
  | .vfEnable _ numVfs => decide (numVfs < 2 ^ 16)
  | .bar4Access _ write _ _ data bytes => decide (data.length = (if write then bytes else 0) ∧ 1 ≤ bytes)
  | .coldReset _ _ => true
  | .warmReset => true
  | .boot _ => true
  | .spdmRequest _ _ _ => true
  | .pldmRequest sensor => decide (sensor < 2 ^ 16)
  | .debugUnlockToken _ => true
  | .identityGet h select length _ rsv => decide (h.wf ∧ select < 2 ^ 8 ∧ length < 2 ^ 32 ∧ rsv < 2 ^ 64)
  | .tenantKeySet h _ gen action _ rsv => decide (h.wf ∧ gen < 2 ^ 32 ∧ action < 2 ^ 8 ∧ rsv < 2 ^ 64)
  | .fwStage h _ length _ rsv => decide (h.wf ∧ length < 2 ^ 32 ∧ rsv < 2 ^ 64)
  | .fwStageComplete => true
  | .fwActivate h mode rsv => decide (h.wf ∧ mode < 2 ^ 8 ∧ rsv < 2 ^ 64)
  | .liveActivationComplete _ => true
  | .deviceShutdown h mode n deadlineMs _ rsv => decide (h.wf ∧ mode < 2 ^ 8 ∧ n < 2 ^ 8 ∧ deadlineMs < 2 ^ 32 ∧ rsv < 2 ^ 64)
  | .shutdownDeadline => true
  | .throttleEvaluate tj _ => decide (tj < 256)
  | .avsWrite _ => true
  | .pmbusPoll readings => decide (readings.length = 16)
  | .flitBoundary _ _ => true
  | .policerLevelCovers _ _ _ => true
  | .harnessWindowAccess _ _ _ _ addr _ => decide (addr < 2 ^ 52)
  | .t1RetrainComplete _ _ => true
  | .packetCheckMismatch h opcode => decide (h.wf ∧ opcode < 2 ^ 16)
  | .undefinedOpcode h opcode => decide (h.wf ∧ opcode < 2 ^ 16)
  | .mctpControl _ => true
  | .shardPlanReceive _ _ _ _ => true
  | .ringQueryReceive _ _ _ _ _ _ _ _ _ _ codes => decide (codes.length ≤ 256)

end Sys2Proof
end

