-- ==== Sys2Proof/Decode.lean ====
section
/-!
DEFINITION. Decode.lean: the command that a word spells by the table's bits. spec/opcode_table.json gives no row any bits, so no word
spells a command.
-/
namespace Sys2Proof

/-- The command of a table word: none, since no row of the table has bits. -/
def decodeTableWord (_nbits _w : Nat) : Option Instr := none

end Sys2Proof
end

