-- ==== Sys2Proof/Machine/Bits.lean ====
section
/-!
DEFINITION. Machine/Bits.lean: the plain number and byte operations that the rules share: little-endian fields (R4),
rounding, saturation, serial-number comparison, sign, and the check codes CRC-32C (R450), CRC-64 and CRC-16.
-/
namespace Sys2Proof.Machine

/-- The n low bytes of a number, least significant first (R4). -/
def leBytes : Nat → Nat → List Byte
  | 0, _ => []
  | n + 1, v => BitVec.ofNat 8 v :: leBytes n (v / 256)

/-- The number that bytes spell, least significant first (R4). -/
def leNat : List Byte → Nat
  | [] => 0
  | b :: t => b.toNat + 256 * leNat t

/-- The n bytes of a number, most significant first (headers of R4's exception, IVs of R516). -/
def beBytes (n v : Nat) : List Byte := (leBytes n v).reverse

/-- n zero bytes (reserved fields of records hold zero, R12). -/
def zeros (n : Nat) : List Byte := List.replicate n 0#8

/-- A list of bytes cut or padded with zero to n bytes. -/
def padTo (n : Nat) (l : List Byte) : List Byte := (l ++ zeros (n - l.length)).take n

/-- Round a number up to a whole multiple. -/
def roundUp (v m : Nat) : Nat := (v + m - 1) / m * m

/-- The ceiling of a quotient. -/
def ceilDiv (v m : Nat) : Nat := (v + m - 1) / m

/-- A counter that saturates at its maximum. -/
def satAdd (max a b : Nat) : Nat := min max (a + b)

/-- Keep a number between two limits: values outside are stored as the nearer limit. -/
def clamp (lo hi v : Nat) : Nat := if v < lo then lo else if hi < v then hi else v

/-- The field [hi:lo] of a number. -/
def bits (v hi lo : Nat) : Nat := v / 2 ^ lo % 2 ^ (hi + 1 - lo)

/-- A number with its field [hi:lo] replaced. -/
def setBits (v hi lo x : Nat) : Nat :=
  v - bits v hi lo * 2 ^ lo + x % 2 ^ (hi + 1 - lo) * 2 ^ lo

/-- Bit i of a number. -/
def bitAt (v i : Nat) : Bool := v / 2 ^ i % 2 == 1

/-- A truth value as a bit. -/
def b2n (b : Bool) : Nat := if b then 1 else 0

/-- `a` is at or before `b` by serial-number arithmetic on n bits. -/
def serialLe (n a b : Nat) : Bool := (b + 2 ^ n - a % 2 ^ n) % 2 ^ n < 2 ^ (n - 1)

/-- `a` is before `b` by serial-number arithmetic on n bits. -/
def serialLt (n a b : Nat) : Bool := serialLe n a b && a % 2 ^ n != b % 2 ^ n

/-- The count of one bits among the low n bits. -/
def popcount : Nat → Nat → Nat
  | 0, _ => 0
  | n + 1, v => v % 2 + popcount n (v / 2)

/-- The positions of the one bits among the low n bits, ascending. -/
def onesOf (n v : Nat) : List Nat := (List.range n).filter (bitAt v)

/-- The word with exactly the listed bits set. -/
def maskOf (l : List Nat) : Nat := l.foldl (fun a i => a ||| 2 ^ i) 0

/-- The number as two's complement of n bits, read as an integer. -/
def toSigned (n v : Nat) : Int := if 2 * (v % 2 ^ n) < 2 ^ n then (v % 2 ^ n : Int) else (v % 2 ^ n : Int) - 2 ^ n

/-- An integer as n bits of two's complement. -/
def ofSigned (n : Nat) (v : Int) : Nat := (v % (2 ^ n : Int)).toNat

/-- An integer kept between -m and m. -/
def satSigned (m : Nat) (v : Int) : Int := if v > m then m else if v < -(m : Int) then -(m : Int) else v

/-- One bit of a reflected CRC step. -/
def crcBit (poly c : Nat) : Nat := if c % 2 == 1 then (c / 2) ^^^ poly else c / 2

/-- Eight bits of a reflected CRC. -/
def crcByte (poly c : Nat) (b : Byte) : Nat :=
  (List.range 8).foldl (fun x _ => crcBit poly x) (c ^^^ b.toNat)

/-- A reflected CRC over bytes: initial value, polynomial (bit-reversed) and final XOR. -/
def crcReflected (poly init xo : Nat) (l : List Byte) : Nat := l.foldl (crcByte poly) init ^^^ xo

/-- CRC-32C (Castagnoli): the CHECK of a command packet (R450). -/
def crc32c (l : List Byte) : Nat := crcReflected 0x82F63B78 0xFFFFFFFF 0xFFFFFFFF l

/-- The low bits of a number in reverse order. -/
def reverseBits (n v : Nat) : Nat :=
  (List.range n).foldl (fun a i => if bitAt v i then a + 2 ^ (n - 1 - i) else a) 0

/-- One step of a most-significant-bit-first CRC of n bits. -/
def crcMsbBit (n poly c : Nat) : Nat :=
  if bitAt c (n - 1) then (c * 2 % 2 ^ n) ^^^ poly else c * 2 % 2 ^ n

/-- A most-significant-bit-first CRC of n bits over bytes. -/
def crcMsb (n poly init xo : Nat) (l : List Byte) : Nat :=
  l.foldl (fun c b => (List.range 8).foldl (fun x _ => crcMsbBit n poly x) (c ^^^ (b.toNat * 2 ^ (n - 8)))) init ^^^ xo

end Sys2Proof.Machine
end

