-- ==== Sys2Proof/Machine/Float.lean ====
section
/-!
DEFINITION. Machine/Float.lean: the number formats of R179, exact values, and the one rounding of R182.
-/
namespace Sys2Proof.Machine

/-- An exact value: NaN, an infinity, or ±m × 2^e. -/
inductive Num where
  | nan
  | inf (neg : Bool)
  | fin (neg : Bool) (m : Nat) (e : Int)
  deriving DecidableEq, Repr

/-- A binary format of R179: exponent and mantissa bits, bias, the largest finite code, the code of infinity, the code of NaN. -/
structure Fmt where
  exp : Nat
  man : Nat
  bias : Int
  top : Nat
  inf : Option Nat
  nan : Option Nat
  deriving DecidableEq, Repr

def Fmt.fp4 : Fmt := { exp := 2, man := 1, bias := 1, top := 7, inf := none, nan := none }
def Fmt.fp6e2m3 : Fmt := { exp := 2, man := 3, bias := 1, top := 31, inf := none, nan := none }
def Fmt.fp6e3m2 : Fmt := { exp := 3, man := 2, bias := 3, top := 31, inf := none, nan := none }
def Fmt.e4m3 : Fmt := { exp := 4, man := 3, bias := 7, top := 0x7E, inf := none, nan := some 0x7F }
def Fmt.e5m2 : Fmt := { exp := 5, man := 2, bias := 15, top := 0x7B, inf := some 0x7C, nan := some 0x7E }
def Fmt.bf16 : Fmt := { exp := 8, man := 7, bias := 127, top := 0x7F7F, inf := some 0x7F80, nan := some 0x7FC0 }
def Fmt.fp16 : Fmt := { exp := 5, man := 10, bias := 15, top := 0x7BFF, inf := some 0x7C00, nan := some 0x7E00 }
def Fmt.fp32 : Fmt := { exp := 8, man := 23, bias := 127, top := 0x7F7FFFFF, inf := some 0x7F800000, nan := some 0x7FC00000 }

/-- Bits of a format. -/
def Fmt.width (f : Fmt) : Nat := 1 + f.exp + f.man

/-- The value of a code. -/
def Fmt.decode (f : Fmt) (code : Nat) : Num :=
  let neg := bitAt code (f.exp + f.man)
  let mag := code % 2 ^ (f.exp + f.man)
  match f.inf with
  | some i =>
    if mag = i then .inf neg
    else if i < mag then .nan
    else if mag < 2 ^ f.man then .fin neg mag (1 - f.bias - f.man)
    else .fin neg (2 ^ f.man + mag % 2 ^ f.man) ((mag / 2 ^ f.man : Nat) - f.bias - f.man)
  | none =>
    if some mag = f.nan then .nan
    else if mag < 2 ^ f.man then .fin neg mag (1 - f.bias - f.man)
    else .fin neg (2 ^ f.man + mag % 2 ^ f.man) ((mag / 2 ^ f.man : Nat) - f.bias - f.man)

/-- m / 2^k to the nearest integer, ties to even. -/
def rneShift (m k : Nat) : Nat :=
  let q := m / 2 ^ k
  let r := m % 2 ^ k
  if 2 * r < 2 ^ k ∨ k = 0 then q
  else if 2 ^ k < 2 * r then q + 1
  else q + q % 2

/-- The magnitude code nearest to m × 2^e, which may lie beyond the largest finite code (R182: to nearest, ties to even, subnormals
produced). -/
def Fmt.magnitude (f : Fmt) (m : Nat) (e : Int) : Nat :=
  if m = 0 then 0
  else
    let q : Int := max (e + (Nat.log2 m : Int) - f.man) (1 - f.bias - f.man)
    let r := if q ≤ e then m * 2 ^ (e - q).toNat else rneShift m (q - e).toNat
    if r < 2 ^ f.man then r else (q + f.bias + f.man).toNat * 2 ^ f.man + (r - 2 ^ f.man)

/-- A finite magnitude beyond the largest of a format. -/
def Fmt.beyond (f : Fmt) (m : Nat) (e : Int) : Bool :=
  match f.decode f.top with
  | .fin _ n d => decide (n * 2 ^ (d - min d e).toNat < m * 2 ^ (e - min d e).toNat)
  | _ => false

/-- The format saturates where others overflow to infinity (R182). -/
def Fmt.saturates (f : Fmt) : Bool := f.inf.isNone || (f.exp == 5 && f.man == 2)

/-- Convert a value to a format (R182): the code, and whether a finite magnitude or an infinity saturated, and whether a NaN was met. A
format without NaN takes 0 for it. -/
def Fmt.encode (f : Fmt) (x : Num) : Nat × Bool × Bool :=
  let sign (neg : Bool) (c : Nat) : Nat := c + 2 ^ (f.exp + f.man) * b2n neg
  match x with
  | .nan => (f.nan.getD 0, false, true)
  | .inf neg =>
    match f.inf with
    | some i => (sign neg i, false, false)
    | none => (sign neg f.top, true, false)
  | .fin neg m e =>
    let c := f.magnitude m e
    if f.saturates then (sign neg (min c f.top), f.beyond m e, false)
    else (sign neg (if c ≤ f.top then c else f.inf.getD f.top), false, false)

/-- The signed significand of a finite value at a power of two not above its own. -/
def atExp (neg : Bool) (m : Nat) (e lo : Int) : Int := (if neg then -1 else 1) * ((m * 2 ^ (e - lo).toNat : Nat) : Int)

/-- The exact sum. A sum of zeros is negative only where both are. -/
def Num.add : Num → Num → Num
  | .nan, _ => .nan
  | _, .nan => .nan
  | .inf a, .inf b => if a = b then .inf a else .nan
  | .inf a, _ => .inf a
  | _, .inf b => .inf b
  | .fin n1 m1 e1, .fin n2 m2 e2 =>
    let lo := min e1 e2
    let v := atExp n1 m1 e1 lo + atExp n2 m2 e2 lo
    if v = 0 then .fin (n1 && n2) 0 lo else .fin (decide (v < 0)) v.natAbs lo

/-- The exact product. -/
def Num.mul : Num → Num → Num
  | .nan, _ => .nan
  | _, .nan => .nan
  | .inf a, .inf b => .inf (a != b)
  | .inf a, .fin b m _ => if m = 0 then .nan else .inf (a != b)
  | .fin a m _, .inf b => if m = 0 then .nan else .inf (a != b)
  | .fin n1 m1 e1, .fin n2 m2 e2 => .fin (n1 != n2) (m1 * m2) (e1 + e2)

/-- The value with its sign changed. -/
def Num.neg : Num → Num
  | .nan => .nan
  | .inf a => .inf (!a)
  | .fin n m e => .fin (!n) m e

/-- Its magnitude. -/
def Num.abs : Num → Num
  | .nan => .nan
  | .inf _ => .inf false
  | .fin _ m e => .fin false m e

/-- a < b; false with a NaN. -/
def Num.lt : Num → Num → Bool
  | .nan, _ => false
  | _, .nan => false
  | .inf a, .inf b => a && !b
  | .inf a, _ => a
  | _, .inf b => !b
  | .fin n1 m1 e1, .fin n2 m2 e2 => decide (atExp n1 m1 e1 (min e1 e2) < atExp n2 m2 e2 (min e1 e2))

/-- a ≤ b; false with a NaN. -/
def Num.le : Num → Num → Bool
  | .nan, _ => false
  | _, .nan => false
  | a, b => !b.lt a

/-- The value times 2^k. -/
def Num.scale : Num → Int → Num
  | .fin n m e, k => .fin n m (e + k)
  | x, _ => x

/-- An FP32 code's value. -/
def f32 (c : BitVec 32) : Num := Fmt.fp32.decode c.toNat

/-- The FP32 code nearest to a value. -/
def toF32 (x : Num) : BitVec 32 := BitVec.ofNat 32 (Fmt.fp32.encode x).1

/-- FP32 addition with round-to-nearest. -/
def f32Add (a b : BitVec 32) : BitVec 32 := toF32 ((f32 a).add (f32 b))

/-- FP32 multiplication with round-to-nearest. -/
def f32Mul (a b : BitVec 32) : BitVec 32 := toF32 ((f32 a).mul (f32 b))

end Sys2Proof.Machine
end

