-- ==== Sys2Proof/Config.lean ====
section
/-!
DEFINITION. Config.lean: what the spec leaves open. Each constant below is opaque: it has no body, nothing can evaluate it,
and a statement that holds of the model holds whatever its value. The assumption log names each (notes/assumptions).
-/
namespace Sys2Proof.Config

/-- A value the spec does not state, drawn anew each time: applied to the model's own counter `State.freeCtr`. -/
opaque freeValue : Nat → Nat

/-- The rounded sum of one K step whose products span more than 40 bits of significand (R183): a function of the exact sum alone (its integer
significand and its power of two), by R184. The result is an FP32 code, taken where it keeps R183's bound. -/
opaque wideStepSum : Int → Int → BitVec 32

/-- exp of an FP32 value on the exponent unit, taken where it keeps the bound of R205. -/
opaque expUnit : BitVec 32 → BitVec 32

/-- 1/x of an FP32 value on the reciprocal unit, taken where it keeps the bound of R205. -/
opaque recipUnit : BitVec 32 → BitVec 32

/-- 1/sqrt(x) of an FP32 value on the reciprocal unit, taken where it keeps the bound of R205. -/
opaque rsqrtUnit : BitVec 32 → BitVec 32

/-- The quotient of two FP32 values where a rule writes a division (R208, R163, R204), not bound to one rounding; taken where it lies within 2^-21. -/
opaque divide : BitVec 32 → BitVec 32 → BitVec 32

/-- Rotation of one element pair by pos × f_i (R189): the pair, the position and the frequency's code; taken where it keeps the bound of R205. -/
opaque rotatePair : BitVec 32 → BitVec 32 → Nat → BitVec 32 → BitVec 32 × BitVec 32

/-- One ATTEND row over the pages of one device (R163): the format and the positions of a page, the query elements, the visible keys' codes and scales and
values' codes and scales in ascending position, the score factor; m, l and the elements of o as FP32 codes. A function of these alone (R184), taken
where it keeps the bound of R205. -/
opaque attendRow : Nat → Nat → List (BitVec 16) → List (List Nat × BitVec 16 × List Nat × BitVec 16) → BitVec 16 → List (BitVec 32)

/-- The calibration scale of a layer and half (R142): R137 places the table and states no layout of it. By the image's check, the table's
address, layer and half (0 keys, 1 values). -/
opaque calScale : BitVec 64 → Nat → Nat → Nat → BitVec 16

/-- ROWMAX of a row that holds a NaN (R204 states no result there). -/
opaque rowMaxNan : List (BitVec 32) → BitVec 32

/-- The smoothed round trip after a sample (SRTT of R384, R386): the spec names no smoothing. -/
opaque smoothRtt : Nat → Nat → Nat

/-- The sum of two BF16 contributions of an allreduce (R415): the spec fixes the order of addition and states no rounding. -/
opaque bf16Sum : BitVec 16 → BitVec 16 → BitVec 16

/-- What the deadline monitor predicts of a satchel's row of a stroke (R55) where a command does not say it: the finish [ns after the
boundary] and the query rows that fit. -/
opaque predicted : Nat → Nat → Nat × Nat

/-- The fused voltage–frequency table (R530): the core voltage [mV] for a throttle step. -/
opaque coreVoltage : Nat → Nat

/-- SHA3-512 (FIPS 202) of a byte string: R502, R504, R505, R514, R515 name the standard. -/
opaque sha3 : List (BitVec 8) → BitVec 512

/-- The storage secret, a fused value that nothing reads (R514): the spec gives no width. -/
opaque storageSecret : List (BitVec 8)

/-- A byte of AES-256's counter-mode keystream as GCM uses it (R516 names the algorithm): by key, 96-bit IV, and place. -/
opaque gcmStream : List (BitVec 8) → List (BitVec 8) → Nat → BitVec 8

/-- AES-256-GCM's 16-byte tag (R516): by key, IV, additional authenticated data and ciphertext. -/
opaque gcmTag : List (BitVec 8) → List (BitVec 8) → List (BitVec 8) → List (BitVec 8) → BitVec 128

/-- SHA3-512 of the ROM (R504, R505). -/
opaque romDigest : BitVec 512

/-- ML-DSA-87 key generation (FIPS 204) from a seed of 32 bytes: private and public key (R504). -/
opaque mlDsaKeys : List (BitVec 8) → List (BitVec 8) × List (BitVec 8)

/-- The Alias certificate that the firmware signs with the DeviceID private key over the Alias public key (R504): the spec gives no format. -/
opaque aliasCertificate : List (BitVec 8) → List (BitVec 8) → List (BitVec 8)

/-- The identity area's certificate chain, written at manufacture (R500): at most 64 KiB of it are read. -/
opaque identityChain : List (BitVec 8)

/-- Bytes of an entry of the transport's result store (R416): the spec gives the store 131,072 entries (R403) and no entry size. The model
takes less than 1 KiB. -/
opaque resultEntryBytes : Fin 1024

end Sys2Proof.Config
end

