-- ==== Sys2Proof/Machine/Codec.lean ====
section
/-!
DEFINITION. Machine/Codec.lean: the block codec as functions on bytes (chapter 09): planes, sub-streams, the compressed form, its
CRC-64 check, and the stored unit.
-/
namespace Sys2Proof.Machine

/-- CRC-64 of R300. -/
def crc64 (l : List Byte) : Nat := crcMsb 64 0x42F0E1EBA9EA3693 0 0 l

/-! ### Adaptive planes (R296) -/

/-- The 256 probabilities of the bit tree at the start of a plane. -/
def probs0 : List Nat := List.replicate 256 1024

/-- A probability after a bit: towards 2048 after a 0, towards 0 after a 1. -/
def probNext (p : Nat) (bit : Bool) : Nat := if bit then p - p / 32 else p + (2048 - p) / 32

/-- The decoder's state: range, code, probabilities, bytes left, bytes consumed. -/
structure Dec where
  rng : Nat
  code : Nat
  p : List Nat
  src : List Byte
  used : Nat

/-- Normalise the decoder one byte at a time, at most `fuel` bytes; none is an overrun. -/
def Dec.norm : Nat → Dec → Option Dec
  | 0, d => some d
  | fuel + 1, d =>
    if d.rng < 2 ^ 24 then
      match d.src with
      | [] => none
      | b :: t =>
        Dec.norm fuel { d with rng := d.rng * 256 % 2 ^ 32, code := (d.code * 256 + b.toNat) % 2 ^ 32, src := t,
                               used := d.used + 1 }
    else some d

/-- Decode one bit under a node of the tree. -/
def Dec.bit (d : Dec) (node : Nat) : Option (Dec × Bool) :=
  let q := d.p.getD node 1024
  let bound := d.rng / 2048 * q
  let one := decide (bound ≤ d.code)
  let d1 := { d with rng := if one then d.rng - bound else bound, code := if one then d.code - bound else d.code,
                     p := d.p.set node (probNext q one) }
  match Dec.norm 4 d1 with
  | some d2 => some (d2, one)
  | none => none

/-- Decode the bits of one symbol from a node. -/
def Dec.symbol : Nat → Dec → Nat → Option (Dec × Nat)
  | 0, d, node => some (d, node)
  | n + 1, d, node =>
    match d.bit node with
    | some (d1, b) => Dec.symbol n d1 (2 * node + b2n b)
    | none => none

/-- Decode nsym symbols. -/
def Dec.symbols : Nat → Dec → List Byte → Option (Dec × List Byte)
  | 0, d, acc => some (d, acc.reverse)
  | n + 1, d, acc =>
    match Dec.symbol 8 d 1 with
    | some (d1, node) => Dec.symbols n d1 (BitVec.ofNat 8 node :: acc)
    | none => none

/-- The kinds of a failed decode (R303). -/
inductive BadBlock where
  | overrun | underrun | malformed | check
  deriving DecidableEq, Repr

/-- R296: the symbols of a plane of coded bytes. -/
def decodePlane (src : List Byte) (nsym : Nat) : Except BadBlock (List Byte) :=
  if src.length < 4 then .error .overrun
  else
    let code := (src.take 4).foldl (fun a b => a * 256 + b.toNat) 0
    match Dec.symbols nsym { rng := 0xFFFFFFFF, code := code, p := probs0, src := src.drop 4, used := 4 } [] with
    | none => .error .overrun
    | some (d, out) => if d.src.isEmpty then .ok out else .error .underrun

/-- The encoder's state: the low end of the interval over all bytes so far, the range, the probabilities, bytes shifted out. -/
structure Enc where
  low : Nat
  rng : Nat
  p : List Nat
  shifts : Nat

/-- Normalise the encoder. -/
def Enc.norm : Nat → Enc → Enc
  | 0, e => e
  | fuel + 1, e =>
    if e.rng < 2 ^ 24 then Enc.norm fuel { e with low := e.low * 256, rng := e.rng * 256 % 2 ^ 32, shifts := e.shifts + 1 }
    else e

/-- Encode one bit under a node. -/
def Enc.bit (e : Enc) (node : Nat) (one : Bool) : Enc :=
  let q := e.p.getD node 1024
  let bound := e.rng / 2048 * q
  Enc.norm 4 { e with low := if one then e.low + bound else e.low, rng := if one then e.rng - bound else bound,
                      p := e.p.set node (probNext q one) }

/-- Encode the bits of a symbol from bit n - 1 down. -/
def Enc.symbol (v : Nat) : Nat → Enc → Nat → Enc
  | 0, e, _ => e
  | n + 1, e, node => Enc.symbol v n (e.bit node (bitAt v n)) (2 * node + b2n (bitAt v n))

/-- The coded bytes of a plane's symbols: the stream that R296 decodes to them. -/
def encodePlane (sym : List Byte) : List Byte :=
  let e := sym.foldl (fun (e : Enc) b => Enc.symbol b.toNat 8 e 1) { low := 0, rng := 0xFFFFFFFF, p := probs0, shifts := 0 }
  beBytes (4 + e.shifts) e.low

/-! ### Sub-streams (R295) -/

/-- The symbols of plane j of a sub-stream with elements of w bytes. -/
def planeOf (w j : Nat) (raw : List Byte) : List Byte := (raw.zipIdx.filter fun q => q.2 % w == j).map fun q => q.1

/-- A plane as the Lorold's encoder writes it (R296): CONST, else ADAPTIVE where it is shorter, else RAW. -/
def encodeMode (sym : List Byte) : List Byte :=
  match sym with
  | [] => [0#8]
  | b :: t =>
    if t.all (· == b) then [1#8, b]
    else
      let c := encodePlane sym
      if 3 + c.length < 1 + sym.length then [2#8] ++ leBytes 2 c.length ++ c else 0#8 :: sym

/-- A sub-stream: its planes in ascending j. -/
def encodeSub (w : Nat) (raw : List Byte) : List Byte :=
  if raw.isEmpty then [] else ((List.range w).map fun j => encodeMode (planeOf w j raw)).flatten

/-- One plane from the head of a sub-stream, and what follows it. -/
def decodeMode (src : List Byte) (nsym : Nat) : Except BadBlock (List Byte × List Byte) :=
  match src with
  | [] => .error .overrun
  | m :: t =>
    match m.toNat with
    | 0 => if t.length < nsym then .error .overrun else .ok (t.take nsym, t.drop nsym)
    | 1 =>
      match t with
      | [] => .error .overrun
      | b :: t1 => .ok (List.replicate nsym b, t1)
    | 2 =>
      if t.length < 2 then .error .overrun
      else
        let len := leNat (t.take 2)
        let body := t.drop 2
        if len < 4 ∨ nsym < len then .error .malformed
        else if body.length < len then .error .overrun
        else
          match decodePlane (body.take len) nsym with
          | .ok l => .ok (l, body.drop len)
          | .error e => .error e
    | _ => .error .malformed

/-- The planes of a sub-stream. -/
def decodePlanes (nsym : Nat) : Nat → List Byte → List (List Byte) → Except BadBlock (List (List Byte))
  | 0, src, acc => if src.isEmpty then .ok acc.reverse else .error .underrun
  | w + 1, src, acc =>
    match decodeMode src nsym with
    | .ok (l, rest) => decodePlanes nsym w rest (l :: acc)
    | .error e => .error e

/-- The raw bytes of a sub-stream of n bytes. -/
def decodeSub (w n : Nat) (src : List Byte) : Except BadBlock (List Byte) :=
  if n = 0 then (if src.isEmpty then .ok [] else .error .malformed)
  else
    match decodePlanes (n / w) w src [] with
    | .ok pl => .ok ((List.range n).map fun i => (pl.getD (i % w) []).getD (i / w) 0#8)
    | .error e => .error e

/-! ### The compressed form (R294, R297) -/

/-- The raw length of sub-stream i of a block. -/
def subRaw (len i : Nat) : Nat := min (4096 * (i + 1)) len - 4096 * i

/-- A header with CHECK as given. -/
def formHeader (fmt w rawLen compLen : Nat) (subs : List Nat) (check : Nat) : List Byte :=
  leBytes 1 fmt ++ leBytes 1 w ++ zeros 2 ++ leBytes 4 rawLen ++ leBytes 4 compLen ++ zeros 4 ++
    (subs.map (leBytes 2)).flatten ++ leBytes 8 check ++ zeros 8

/-- A form with its CHECK (R300): the CRC-64 over the whole form with CHECK taken as zero. -/
def formWith (fmt w rawLen : Nat) (subs : List Nat) (body : List Byte) : List Byte :=
  let hdr := formHeader fmt w rawLen (64 + body.length) subs
  hdr (crc64 (hdr 0 ++ body)) ++ body

/-- The width in force (R296): 1 where the raw length is no multiple of the requested width. -/
def formWidth (w len : Nat) : Nat := if len % w = 0 then w else 1

/-- The compressed form of a raw block; whether it is stored RAW (R297). -/
def encodeBlock (w0 : Nat) (raw : List Byte) : List Byte × Bool :=
  let w := formWidth w0 raw.length
  let subs := (List.range 16).map fun i => encodeSub w ((raw.drop (4096 * i)).take (subRaw raw.length i))
  let body := subs.flatten
  if raw.length * 15 ≤ (64 + body.length) * 16 then (formWith 2 w raw.length (List.replicate 16 0) raw, true)
  else (formWith 1 w raw.length (subs.map List.length) body, false)

/-- The sub-streams of a CODED body. -/
def decodeSubs (w rawLen : Nat) (lens : List Nat) : Nat → List Byte → List Byte → Except BadBlock (List Byte)
  | 0, _, acc => .ok acc
  | k + 1, src, acc =>
    let i := 15 - k
    let n := subRaw rawLen i
    let len := lens.getD i 0
    if (n = 0) ≠ (len = 0) then .error .malformed
    else
      match decodeSub w n (src.take len) with
      | .ok l => decodeSubs w rawLen lens k (src.drop len) (acc ++ l)
      | .error e => .error e

/-- Decode a stored unit (R298, R303): the raw bytes for a destination of dstLen bytes, or the failure's kind. -/
def decodeBlock (unit : List Byte) (tag : Nat) (dstLen : Nat) : Except BadBlock (List Byte) :=
  let at_ (o n : Nat) : List Byte := (unit.drop o).take n
  let fmt := leNat (at_ 0 1)
  let w := leNat (at_ 1 1)
  let rawLen := leNat (at_ 4 4)
  let compLen := leNat (at_ 8 4)
  let lens := (List.range 16).map fun i => leNat (at_ (0x10 + 2 * i) 2)
  let clean := (at_ 2 2 ++ at_ 0xC 4 ++ at_ 0x38 8).all (· == 0#8)
  let body := at_ 64 (compLen - 64)
  if unit.length < 64 then .error .overrun
  else if !clean || (fmt != 1 && fmt != 2) || (fmt == 1 && !([1, 2, 4].contains w)) || rawLen == 0 ||
      decide (65536 < rawLen) then .error .malformed
  else if dstLen < rawLen then .error .overrun
  else if rawLen < dstLen then .error .underrun
  else if unit.length - tag < compLen then .error .overrun
  else if compLen + 64 ≤ unit.length - tag then .error .underrun
  else if fmt = 2 ∧ (compLen ≠ 64 + rawLen ∨ ¬ lens.all (· == 0)) then .error .malformed
  else if fmt = 1 ∧ (compLen ≠ 64 + lens.foldl (· + ·) 0 ∨ rawLen % w ≠ 0) then .error .malformed
  else if crc64 (at_ 0 0x30 ++ zeros 8 ++ at_ 0x38 8 ++ body) ≠ leNat (at_ 0x30 8) then .error .check
  else if fmt = 2 then .ok body
  else decodeSubs w rawLen lens 16 body []

/-- The stored unit (R298): the form, a GCM tag where encrypted, zero padding to 64 bytes. -/
def storedUnit (form tag : List Byte) : List Byte := padTo (roundUp (form.length + tag.length) 64) (form ++ tag)

/-! ### Encryption (R298, R303, R514 to R516) -/

/-- Encrypt or decrypt bytes: GCM adds its keystream to each byte. -/
def gcmApply (key iv l : List Byte) : List Byte := l.zipIdx.map fun b => b.1 ^^^ Config.gcmStream key iv b.2

/-- The IV of block k of an extent (R516). -/
def blockIv (k : Nat) : List Byte := beBytes 12 k

/-- The additional authenticated data of block k of a satchel's extent (R516). -/
def blockAad (id : BitVec 64) (k : Nat) : List Byte := leBytes 8 id.toNat ++ leBytes 4 k

/-- The tag of block k's ciphertext. -/
def blockTag (key : List Byte) (id : BitVec 64) (k : Nat) (cipher : List Byte) : List Byte :=
  leBytes 16 (Config.gcmTag key (blockIv k) (blockAad id k) cipher).toNat

/-- The stored unit of block k of an encrypted extent (R298, R516). -/
def sealBlock (key : List Byte) (id : BitVec 64) (k : Nat) (form : List Byte) : List Byte :=
  let c := gcmApply key (blockIv k) form
  storedUnit c (blockTag key id k c)

/-- COMP_LEN of block k, from the decrypted header of its stored unit. -/
def sealedLen (key : List Byte) (k : Nat) (unit : List Byte) : Nat :=
  leNat ((gcmApply key (blockIv k) (unit.take 12)).drop 8)

/-- The form in block k's stored unit, its tag not looked at. -/
def sealedForm (key : List Byte) (k : Nat) (unit : List Byte) : List Byte :=
  gcmApply key (blockIv k) (unit.take (sealedLen key k unit))

/-- Decrypt a stored unit (R303): COMP_LEN beyond the unit less its tag is an overrun, a tag mismatch a failed check. The form comes with the
tag and the padding, whose lengths `decodeBlock` judges. -/
def openBlock (key : List Byte) (id : BitVec 64) (k : Nat) (unit : List Byte) : Except BadBlock (List Byte) :=
  let n := sealedLen key k unit
  if unit.length < n + 16 then .error .overrun
  else if (unit.drop n).take 16 ≠ blockTag key id k (unit.take n) then .error .check
  else .ok (sealedForm key k unit ++ unit.drop n)

/-- The key of an extent (R514, R515): the first 32 bytes of SHA3-512 over what names it. -/
def extentKey (input : List Byte) : List Byte := (leBytes 64 (Config.sha3 input).toNat).take 32

end Sys2Proof.Machine
end

