-- ==== Sys2Proof/Machine/State.lean ====
section
/-!
DEFINITION. Machine/State.lean: the state of the block, as plain data: every register, table, queue, buffer and pin that the spec
gives the device, and the queue of the commands that wait. `State.reset` is the device right after a cold reset (R498).
-/
namespace Sys2Proof.Machine

/-- The reasons to stop with a fault. The spec gives every failure of the device an effect on its own state (a status, a note, a
record, a counter), so no command raises one: the type has no constructor. -/
inductive Fault where
  deriving DecidableEq, Repr

/-- The reasons to refuse a command. -/
inductive Refusal where
  /-- The command has no meaning in this model yet; raised by its arm of `exec` alone. Safe: no claim about it can be proved. -/
  | notModelled (mnemonic : String)
  deriving DecidableEq, Repr

/-- BAR0's register storage (R6, R10). `regs` holds every RW, RWL, RWS and W1C register and every counter, keyed by BAR0
offset; an offset that is not listed holds its reset value. `latch` holds the high half that the last low-half read of a
pair latched, `low` the last low half written to a pair since reset, both keyed by the low half's offset (R7). -/
structure Bar0 where
  regs : Assoc Word
  latch : Assoc Word
  low : Assoc Word
  deriving DecidableEq, Repr

/-- System time and strokes (02). -/
structure Stk where
  /-- System time [ns] (R37, R60). -/
  time : Nat
  /-- The active configuration; meaningful while `running` (R47). -/
  cfg : StrokeCfg
  /-- STK_STATUS.RUNNING (R62). -/
  running : Bool
  /-- The current stroke (R61). -/
  stroke : Nat
  /-- The phase of the current stroke (R48). -/
  phase : Phase
  /-- The pending configuration (R50, R51, R53). -/
  pend : Option PendCfg
  /-- The parent's configurations of the last sync packet (R38, R52). -/
  parent : Option ParentCfg
  /-- STK_TIME_SRC as in force since the last sync interval (R63). -/
  src : Word
  /-- STK_STATUS.LOCKED (R41). -/
  locked : Bool
  /-- STK_STATUS.HOLDOVER (R45). -/
  holdover : Bool
  /-- STK_STATUS.REF_HOLDOVER (R43). -/
  refHoldover : Bool
  /-- STK_STATUS.UNALIGNED (R46). -/
  unaligned : Bool
  /-- STK_STATUS.CONFIG_MISMATCH (R52). -/
  mismatch : Bool
  /-- Consecutive exchanges within ±20 ns (R41). -/
  good : Nat
  /-- The device takes time from its backup port (R40). -/
  onBackup : Bool
  /-- Consecutive good exchanges on the primary while on the backup (R40). -/
  goodPrimary : Nat
  /-- Instant of the last good sync exchange (R45), and the instant from which the eight intervals of R40 count. -/
  lastGood : Nat
  watch : Nat
  /-- Last measured offset [ns] (R65). -/
  offset : Int
  /-- Offset that is being slewed at up to 100 ppm (R41). -/
  slew : Int
  /-- A time step above 10 µs that waits for Commit (R54). -/
  step : Option Int
  /-- TSYNC_OUT pulses driven: the instant of the last one (R44). -/
  tsyncOut : Option Nat
  /-- The instant at which the device last started a sync exchange on each child port (R38). -/
  syncSent : Assoc Nat
  /-- The link delay that the last exchange measured on each port [ns] (R38). -/
  delay : Assoc Int
  /-- The reference in use (R42), and the instant from which its pulses are expected: its selection, or with one pulse a stroke the
  first stroke if that is later (R43). -/
  ref : Nat
  refAt : Nat
  deriving DecidableEq, Repr

/-- The custody engine (03): the satchel table by slot, the records held as registrar, and what hand-overs and recoveries
keep. -/
structure SatSt where
  ready : Bool
  sats : Assoc Sat
  /-- Index after the one taken last (R68), and the generations by index. -/
  nextIndex : Nat
  gens : Assoc Nat
  recs : Assoc Record
  incoming : List Incoming
  /-- Hand-overs and recoveries that this device discarded: satchel and epoch (R90, R97). -/
  discarded : List (SatchelId × Nat)
  lodgings : List Lodging
  satellites : Assoc Satellite
  /-- Live mask of the harness (R76, R103). -/
  live : BitVec 32
  /-- Recovery placement entry used last (R97). -/
  lastEntry : Nat
  /-- Open re-registration windows: the dead member and the instant the role was taken (R84). -/
  rereg : List (Nat × Nat)
  heldQueries : List (SatchelId × ReplyTo)
  heldClaims : List CMsg
  /-- Requests returned under R78, to be sent again after the next boundary. -/
  resend : List (CType × CMsg × CPayload)
  /-- Queries forwarded to a registrar that await its answer are remote slots (R462). -/
  scan : Bool
  /-- Table slots reserved for hand-overs and recoveries not yet committed (R70). -/
  reserved : List Nat
  /-- This member has joined, and records may still be on their way to it (R81). -/
  joined : Bool
  deriving DecidableEq, Repr

/-- The scale record of a frame (R141), but for its SCALES, which are FP16 codes: 32 pairs. -/
structure ScaleRec where
  layer : Nat
  group : Nat
  fill : Nat
  format : Nat
  saturated : Bool
  inkwell : Bool
  tag : BitVec 64
  scales : Assoc (BitVec 16)
  deriving DecidableEq, Repr

/-- The count of an inkwell row and the epoch of its last release (R155, R158). -/
structure InkRow where
  count : Nat
  lastRelease : Option Nat
  part : Fin 16
  deriving DecidableEq, Repr

/-- A read pin of the inkwell (R157): its epoch and the satchel that reads. -/
structure Pin where
  epoch : Nat
  reader : Nat
  saved : Bool
  deriving DecidableEq, Repr

/-- The KV arena (05): its base, the scale records, inkwell rows and entries, epochs and pins, and swap. -/
structure Kva where
  ready : Bool
  base : Nat
  scales : Assoc ScaleRec
  inkRows : Assoc InkRow
  inks : List Ink
  nextPrefix : Nat
  epoch : Nat
  pins : List Pin
  held : Bool
  swapFull : Bool
  /-- CRC-64 of each frame in host swap, keyed slot × 16 + partition (R166). -/
  swapCrc : Assoc Nat
  /-- The compressed forms of parked blocks (R122, R144) that the warm pool holds or that are on their way to T2, keyed context × 2^28 + block,
  and the blocks that wait for their single re-read (R304), as context and block. -/
  parked : Assoc (List Byte)
  rereads : List (Nat × Nat)
  /-- The block indexes of parked satchels, by context (R299). -/
  indexes : Assoc (List Byte)
  /-- The extent nonce of the blocks that a context has in T2 (R514). -/
  nonces : Assoc (BitVec 64)
  /-- Of a row in a partition's T2 swap extent: the satchel, its tenant and the extent nonce, keyed partition × 2^32 + first unit (R166, R514). -/
  swapKeys : Assoc (SatchelId × BitVec 16 × BitVec 64)
  deriving DecidableEq, Repr

/-- Cores (06): threads by core × 64 + thread, the queues of units by core × 16 + unit and each unit's next sequence number. -/
structure Cores where
  threads : Assoc Thread
  queues : Assoc (List CoreCmd)
  seqs : Assoc Nat
  deriving DecidableEq, Repr

/-- A partition (07, 04, 05). -/
structure Part where
  state : PartState
  /-- A composition accepted and not yet at its boundary, or in progress; one held for draining slices (R221, R224). -/
  composing : Option Composing
  held : Option Composing
  slices : BitVec 16
  role : Nat
  sprint : Bool
  modelId : BitVec 16
  image : Option ModelImage
  shard : Nat
  shardList : List DevPart
  ringList : List DevPart
  nRing : Nat
  /-- Arena range (R135): first handle, frames, and the row indices in use (R136). -/
  base : Nat
  frames : Nat
  used : List Nat
  maskSlots : Nat
  maskAddr : Nat
  /-- Bytes of the logit-mask slots, from maskAddr (R207, R274). -/
  maskBytes : Nat
  draftEntries : Nat
  draftAddr : Nat
  saveAddr : Nat
  paramAddr : Nat
  weightAddr : Nat
  /-- In force (R239, R257). -/
  maxRows : Nat
  c0Rows : Nat
  chunkMax : Nat
  shadow : Nat
  degraded : Bool
  deadShards : List Nat
  instance_ : Option (Nat × DevPart × ReplyTo)
  composeStroke : Nat
  /-- Suspend, resume and drain bookkeeping: the packet's opcode and TAG for the event (R222, R461). -/
  suspendTag : Option Word
  suspAt : Nat
  resumeTag : Option Word
  drainTag : Option (Nat × Word)
  resumeLatched : Bool
  readyAt : Bool
  /-- The stroke's batch (R238, R258) and kill set (R244). -/
  batchRows : Nat
  batchQrows : Nat
  /-- The rows that a Plan which is unfinished at ISSUE_AT has fixed by then (R48). -/
  planMax : Option Nat
  /-- The rows that shard 0 planned for this stroke, as they came here (R233). -/
  rankRows : List (SatchelId × Planned)
  kill : List Nat
  /-- Contexts whose token is an actual miss for poisoned operands of this stroke (R266). -/
  missed : List Nat
  commitOpen : Bool
  skipped : Bool
  parkCfg : ParkCfg
  parkPend : Option ParkCfg
  lastTarget : Nat
  adapters : List AdapterVer
  loading : List AdapterLoad
  /-- Swap areas (R166): host extents, T2 units and their first unit, slots in use. -/
  swapHost : List (Nat × Nat)
  swapT2 : Nat
  swapT2Used : List Nat
  swapHostUsed : List Nat
  /-- Completion vectors: bits set (R201). -/
  cv : List Nat
  poisonWeights : List (Nat × Nat)
  /-- Poisoned weights that no source supplied degraded the partition (R286). -/
  weightsLost : Bool
  /-- A chunk of the suspension's save could not be written (R284). -/
  saveLost : Bool
  deriving DecidableEq, Repr

/-- The planner (07) and the parking pool (04). -/
structure Pln where
  ready : Bool
  parts : List Part
  tenants : Assoc TenantRec
  warmUnits : Nat
  coldUnits : Nat
  devCnt : ParkCnt
  tenCnt : Assoc ParkCnt
  deriving DecidableEq, Repr

/-- Memory (08): T1, T0, core SRAM, host and harness-window bytes by 52-bit physical address (R260), poison by 64-byte sector,
carve-outs, open faults, cached translations and moves. -/
structure MemSt where
  t1Ready : Bool
  t0Ready : Bool
  training : Bool
  devs : List GddrDev
  /-- Devices of the population that training took into service (R262), and their density code. -/
  population : Nat
  density : Nat
  mem : Mem
  poison : Assoc Unit
  carves : List Carve
  faults : Assoc OpenFault
  tlb : List TlbEntry
  moves : List RegionMove
  deriving DecidableEq, Repr

/-- Flash (10). -/
structure Fls where
  ready : Bool
  recovering : Bool
  unformatted : Bool
  /-- HOLD: for PFAIL_N, and for a level 3 fault or a shut-down, which end only at reset (R332, R334, R478, R519). -/
  hold : Bool
  holdForever : Bool
  readOnly : Bool
  chans : List FlsChan
  density : Nat
  dies : Nat
  op : Nat
  userUnits : Nat
  /-- The map (R321): LUA → PUA; unlisted means unmapped. -/
  map : Assoc Nat
  /-- Data bytes of programmed units, keyed PUA × 65,536 + byte, headers by PUA (R315). -/
  data : Mem
  hdrs : Assoc UnitHdr
  blocks : Assoc FlsBlock
  /-- Rows whose parity unit is held, by the PUA of the row's first unit (R326); units relocated for the throttled writes of a group (R328); dies
  lost as a whole (R331). -/
  parity : List Nat
  relocated : Assoc Nat
  lostDies : List Nat
  extents : Assoc Extent
  /-- The journal (R322): tail in SRAM, durable records, SEQ of the last durable record, next SEQ. -/
  tail : List JRec
  ring : List JRec
  lastDurable : Nat
  nextSeq : Nat
  committing : Nat
  dirty : Assoc Nat
  checkpoint : Assoc Nat
  reqs : Assoc FlsReq
  nextReq : Nat
  writes : List FlsWrite
  /-- Staged bytes of writes under way, keyed SEQ × 65,536 + byte (R330). -/
  staged : Mem
  spareAtFormat : Nat
  retired : Nat
  /-- Erase count of a block that is not listed (every format erases every block), and blocks closed so far (R328's age). -/
  eraseBase : Nat
  closed : Nat
  tempMax : Nat
  health : FlsHealth
  /-- A FLASH_FORMAT that waits for the end of HOLD: its packet and OP. -/
  formatting : Option (ReplyTo × Nat)
  deriving DecidableEq, Repr

/-- A fabric port (11): LNK_P_CTRL lives in BAR0's registers. -/
structure Port where
  state : PortState
  pend : Bool
  width : Nat
  degraded : Bool
  neighDev : DeviceId
  neighPort : Nat
  rtt : Nat
  /-- Link retry (R353): next sequence to send, next expected, oldest unacknowledged, NAK outstanding, failed replays in a row,
  and the sent flits' classes and stages that are not acknowledged, oldest first. -/
  sndSeq : BitVec 16
  rcvSeq : BitVec 16
  ackSeq : BitVec 16
  nakSent : Bool
  failedReplays : Nat
  replay : List Flit
  replayFrom : Option (BitVec 16)
  /-- Flits not yet given back per class and stage, index 5c + s, cumulative counts last returned, and counts owed (R349). -/
  out : List Nat
  lastRet : List Nat
  owed : List Nat
  /-- Output queues, one per class (R350). -/
  queues : List (List QPkt)
  /-- Other flits sent since the last CTRL flit (R349), and when the last valid CTRL flit and the last flit arrived. -/
  sinceCtrl : Nat
  ctrlAt : Nat
  drainFrom : Nat
  /-- Shaping (13): the class whose packet of class 1 to 7 is being sent, virtual time and tags in 1/4096 flit per unit of
  weight, and the SHP_Q_CFG word that each queue took at its last wake. -/
  cur : Option Nat
  vtime : Nat
  tags : List Nat
  qcfg : List Nat
  /-- Class 0 meter of R433 in 1/20,480 flit, and when it was last refilled. -/
  meter : Nat
  meterAt : Nat
  deriving DecidableEq, Repr

/-- Links and routing (11). `combine` and `completes` are what this router's combining holds (R411, R414). -/
structure Lnk where
  ready : Bool
  ports : List Port
  table_ : Assoc LinkReport
  /-- Outstanding probes: the local port that went down, and when (R366). -/
  probes : List (Nat × Nat)
  /-- Notices seen: device, its last LINK_STATE sequence, alive (R367). -/
  seen : List (DeviceId × Nat × Bool)
  /-- Devices of other harnesses whose last notice says dead (R367). -/
  lost : List DeviceId
  lsSeq : Nat
  delivered : List Packet
  combine : List CombHold
  completes : List CompHold
  deriving DecidableEq, Repr

/-- The transport (12). Connections by local number, last incarnations by quadruple (`quadKey`), operations by tag, each engine's
cached contexts most recent first. -/
structure Xpt where
  ready : Bool
  conns : Assoc Conn
  incs : Assoc Nat
  ops : Assoc XOp
  results : List XResult
  failed : List FailedInc
  regions : Assoc Region
  /-- The window map (R396): 2 MiB page of T1 → region index. -/
  winMap : Assoc Nat
  stitch : List Stitch
  /-- ORDERED packets that wait for a gap (R406): connection and packet. -/
  rob : List (Nat × Packet)
  robFullAt : Option Nat
  queues : Assoc XQueue
  collectors : Assoc Collector
  groups : Assoc XGroup
  /-- ATOMIC_QUERY packets that await QUERY_DATA, by tag, with the device asked (R404). -/
  queries : Assoc (DeviceId × ReplyTo)
  cache : List (List Nat)
  /-- Packets parked on an open fault, by fault ID (R279, R283). -/
  parked : Assoc Packet
  deriving DecidableEq, Repr

/-- Shaping (13): the gate bank in force and when a swap takes effect, the source of open_now and the windows in force, the policers'
buckets and the packets they hold (keyed partition × 8 + class), and a CLEAR of the histograms that waits. -/
structure Shp where
  bank : Nat
  swapAt : Option Nat
  gates : Bool
  windows : List Nat
  /-- The gate entry in force (R429). -/
  entry : Nat
  buckets : Assoc Bucket
  held : Assoc (List Packet)
  clear : Bool
  deriving DecidableEq, Repr

/-- Command windows, rings and forwarded packets (14). Rings are keyed by function, kind and index (`ringKey`). -/
structure Cmd where
  windows : List Window
  rings : Assoc Ring
  slots : Assoc RemoteSlot
  accepted : List AcceptedCmd
  /-- Packets taken and held while a live activation pauses command service (R518). -/
  held : List ReplyTo
  /-- Stream records dropped since the last boundary, by ring key (R460). -/
  drops : Assoc Nat
  /-- Partition tenant grants (R449, R453), keyed partition × 65,536 + tenant. -/
  grants : Assoc Unit
  deriving DecidableEq, Repr

/-- The blotter (15). -/
structure Blt where
  /-- SEQ of the last record filed (R472, R487). -/
  seq : BitVec 32
  /-- BLT_LOG: slot → the 128-bit message (R489). -/
  log : Assoc (BitVec 128)
  /-- Open entries, oldest first (R481). -/
  entries : List BltEntry
  /-- The table of unacknowledged records of level 2 and 3 (R543). -/
  unack : List Unacked
  /-- Unacknowledged records of level 0 and 1 that are still in BLT_LOG (R482). -/
  low : List Unacked
  /-- R478 is in effect. -/
  l3 : Bool
  /-- The 2 µs FAULT_N pulse is in progress (R483). -/
  pulse : Bool
  /-- The outbox of each source unit, oldest first (R484). -/
  outbox : Assoc (List Msg)
  deriving DecidableEq, Repr

/-- One PCIe function (R490, R495, R497): PF0 is 0, VF p + 1 is p + 1. `swapDue` counts the host-swap rows whose return the
drain waits for. -/
structure Fn where
  enabled : Bool
  draining : Bool
  pend : Bool
  deriving DecidableEq, Repr

/-- Security, boot and firmware (16). -/
structure Sec where
  run : RunState
  slots : List (Option Image)
  /-- The boot flash selector (R500): PRIMARY is slot B, TRIAL, ATTEMPTED. -/
  primaryB : Bool
  trial : Bool
  attempted : Bool
  fuses : Fuses
  running : Option Image
  slotB : Bool
  fallback : Bool
  staged : Bool
  staging : Option Staging
  activating : Option Staging
  /-- A valid debug token waits for the next warm reset (R509). -/
  debugPending : Bool
  debugOpen : Bool
  /-- Measurements 1 to 5 and 16 + p (R505). -/
  meas : Assoc (BitVec 512)
  /-- The DeviceID and Alias seeds, and the Alias certificate (R504). -/
  deviceSeed : BitVec 512
  aliasSeed : BitVec 512
  aliasCert : List Byte
  bootNonce : BitVec 128
  extNonce : BitVec 64
  /-- Tenant transit keys, generations ascending (R515). -/
  keys : Assoc (List (Nat × BitVec 256))
  shutdown : Option Shutdown
  deriving DecidableEq, Repr

/-- Host attachment (16): host memory as each function reaches it (keyed function × 2^64 + bus address), functions, MSI-X
masks and pending bits (keyed function × 2,048 + vector), messages to the management controller's side. -/
structure HostIf where
  mem : Mem
  fns : List Fn
  masked : Assoc Unit
  pba : Assoc Unit
  eid : BitVec 8
  /-- The negotiated SPDM steps: version read, capabilities read, algorithms negotiated (R506). -/
  spdm : Nat
  deriving DecidableEq, Repr

/-- Pins, voltage, temperature and power (17). -/
structure Pwr where
  tj : Nat
  watts : Nat
  step : Nat
  causeTj : Bool
  causePower : Bool
  tripped : Bool
  /-- PFAIL_N (R485, R532): accepted and not released, in its hold-off, ignored after PIN_STUCK. -/
  pfail : Bool
  pfailHold : Bool
  pfailIgnored : Bool
  pfailAt : Nat
  therm : Bool
  thermHold : Bool
  thermAt : Nat
  /-- Last sampled TSYNC_IN level (R539). -/
  tsync : Bool
  /-- Instant of the last accepted TSYNC_IN pulse (R43). -/
  tsyncAt : Option Nat
  /-- Rejected pulses per input in the current second of system time, that second, and whether PIN_GLITCH was posted in it
  (R485). -/
  glitch : List (Nat × Nat × Bool)
  avsTarget : Nat
  avsFails : Nat
  /-- A fall of the throttle step waits for the next stroke boundary (R535). -/
  fallDue : Bool
  /-- Since when Tj or the package power has been above its limit, or from the last rise of the step on; and since when both have been well below
  theirs, or from the last fall on (R535). -/
  overFrom : Option Nat
  coolFrom : Option Nat
  /-- Regulator entries that missed reads: entry → reads missed in a row (R531). -/
  missed : Assoc Nat
  /-- The last readings of each regulator entry: [mV], [mA], [°C] (R531). -/
  readings : Assoc (Nat × Nat × Nat)
  deriving DecidableEq, Repr

/-- The state of the device. -/
structure State where
  bar : Bar0
  board : Board
  stk : Stk
  sat : SatSt
  kva : Kva
  cores : Cores
  pln : Pln
  memory : MemSt
  fls : Fls
  lnk : Lnk
  xpt : Xpt
  shp : Shp
  cmd : Cmd
  blt : Blt
  sec : Sec
  host : HostIf
  pwr : Pwr
  /-- What the device has sent, oldest first (the model's own field). -/
  out : List Out
  /-- Counts the free values drawn (the model's own field): the n-th unstated value is `Config.freeValue n`. -/
  freeCtr : Nat
  /-- The commands that wait, first in, first out. -/
  pending : List Instr
  deriving DecidableEq, Repr

/-- BAR0 right after reset: nothing listed, so every register reads its reset value. -/
def Bar0.reset : Bar0 := { regs := [], latch := [], low := [] }

/-- No board fitted: what a cold reset samples is an operand of COLD_RESET (log entry 2). -/
def Board.none : Board := { strap := 0, gddr := [], nand := [], flash := .none }

/-- The phase points of R64's reset values; the epoch, base and period are 0 (R60, R64). -/
def StrokeCfg.reset : StrokeCfg :=
  { epoch := 0, base := 0, periodUs := 0, issueAt := 13, computeAt := 26, exchangeAt := 179, commitAt := 230 }

def Stk.reset : Stk :=
  { time := 0, cfg := StrokeCfg.reset, running := false, stroke := 0, phase := .plan, pend := none, parent := none, src := 0,
    locked := false, holdover := false, refHoldover := false, unaligned := false, mismatch := false, good := 0,
    onBackup := false, goodPrimary := 0, lastGood := 0, watch := 0, offset := 0, slew := 0, step := none,
    tsyncOut := none, syncSent := [], delay := [], ref := 0, refAt := 0 }

def SatSt.reset : SatSt :=
  { ready := false, sats := [], nextIndex := 0, gens := [], recs := [], incoming := [], discarded := [], lodgings := [],
    satellites := [], live := 0, lastEntry := 63, rereg := [], heldQueries := [], heldClaims := [], resend := [],
    scan := false, reserved := [], joined := false }

def Kva.reset : Kva :=
  { ready := false, base := 0, scales := [], inkRows := [], inks := [], nextPrefix := 0, epoch := 0, pins := [],
    held := false, swapFull := false, swapCrc := [], parked := [], rereads := [], indexes := [],
    nonces := [], swapKeys := [] }

def Cores.reset : Cores := { threads := [], queues := [], seqs := [] }

def ParkCfg.reset : ParkCfg :=
  { a1 := 2000, a2 := 12000, coldTarget := 0, parkRate := 64, lead := 2, targets := [], revive := none }

def Part.reset : Part :=
  { state := .free, composing := none, held := none, slices := 0, role := 0, sprint := false, modelId := 0xFFFF,
    image := none, shard := 0, shardList := [], ringList := [], nRing := 1, base := 0, frames := 0, used := [],
    maskSlots := 0, maskAddr := 0, maskBytes := 0, draftEntries := 0, draftAddr := 0, saveAddr := 0, paramAddr := 0, weightAddr := 0,
    maxRows := 0, c0Rows := 0, chunkMax := 0, shadow := 0, degraded := false, deadShards := [], instance_ := none,
    composeStroke := 0, suspendTag := none, suspAt := 0, resumeTag := none, drainTag := none, resumeLatched := false, readyAt := false,
    batchRows := 0, batchQrows := 0, planMax := none, rankRows := [], kill := [], missed := [], commitOpen := false, skipped := false,
    parkCfg := ParkCfg.reset, parkPend := none, lastTarget := 7, adapters := [], loading := [], swapHost := [],
    swapT2 := 0, swapT2Used := [], swapHostUsed := [], cv := [], poisonWeights := [], weightsLost := false, saveLost := false }

def ParkCnt.zero : ParkCnt := { parks := 0, demotions := 0, revivals := 0, poolWaits := 0 }

def Pln.reset : Pln :=
  { ready := false, parts := List.replicate 16 Part.reset, tenants := [], warmUnits := 0, coldUnits := 0,
    devCnt := ParkCnt.zero, tenCnt := [] }

def GddrDev.reset : GddrDev :=
  { present := false, trained := false, density := 0, inService := false, temp := 0, retrains := 0, trackFails := 0,
    hot := false, throttled := false }

def MemSt.reset : MemSt :=
  { t1Ready := false, t0Ready := false, training := false, devs := List.replicate 32 GddrDev.reset, population := 0, density := 0, mem := [], poison := [],
    carves := [], faults := [], tlb := [], moves := [] }

def FlsChan.reset : FlsChan :=
  { present := false, inService := false, rate := 0, diesOk := 0, temp := 0, hot := false, stopped := false }

def FlsHealth.zero : FlsHealth :=
  { hostUnits := 0, nandUnits := 0, uncorr := 0, soft := 0, tempMax := 0, hist := [0, 0, 0, 0, 0] }

def Fls.reset : Fls :=
  { ready := false, recovering := false, unformatted := false, hold := false, holdForever := false, readOnly := false,
    chans := List.replicate 32 FlsChan.reset, density := 0, dies := 0, op := 0, userUnits := 0, map := [], data := [],
    hdrs := [], blocks := [], parity := [], relocated := [], lostDies := [], extents := [], tail := [], ring := [], lastDurable := 0, nextSeq := 1, committing := 0,
    dirty := [], checkpoint := [], reqs := [], nextReq := 1, writes := [], staged := [],
    spareAtFormat := 0, retired := 0, eraseBase := 0, closed := 0, tempMax := 0,
    health := FlsHealth.zero, formatting := none }

def Port.reset : Port :=
  { state := .disabled, pend := false, width := 0, degraded := false, neighDev := 0xFFFF, neighPort := 0, rtt := 0,
    sndSeq := 0, rcvSeq := 0, ackSeq := 0, nakSent := false, failedReplays := 0, replay := [], replayFrom := none,
    out := List.replicate 40 0, lastRet := List.replicate 40 0, owed := List.replicate 40 0,
    queues := List.replicate 8 [], sinceCtrl := 0, ctrlAt := 0, drainFrom := 0, cur := none, vtime := 0, tags := List.replicate 8 0,
    qcfg := List.replicate 8 0x4020, meter := 5242880, meterAt := 0 }

def Lnk.reset : Lnk :=
  { ready := false, ports := List.replicate 64 Port.reset, table_ := [], probes := [], seen := [], lost := [], lsSeq := 0,
    delivered := [], combine := [], completes := [] }

def Xpt.reset : Xpt :=
  { ready := false, conns := [], incs := [], ops := [], results := [], failed := [], regions := [], winMap := [], stitch := [],
    rob := [], robFullAt := none, queues := [], collectors := [], groups := [], queries := [], cache := List.replicate 16 [], parked := [] }

def Shp.reset : Shp :=
  { bank := 0, swapAt := none, gates := true, windows := List.replicate 8 31, entry := 0, buckets := [], held := [], clear := false }

def Window.reset : Window :=
  { state := .disabled, cons := 0, errOffset := 0, errCode := 0, taken := 0, resv := 0, pend := false }

def Cmd.reset : Cmd :=
  { windows := List.replicate 32 Window.reset, rings := [], slots := [], accepted := [], held := [], drops := [], grants := [] }

def Blt.reset : Blt :=
  { seq := 0xFFFFFFFF, log := [], entries := [], unack := [], low := [], l3 := false, pulse := false,
    outbox := [] }

def Fuses.none : Fuses := { svn := 0, present := 0, revoked := 0, digests := [0, 0, 0, 0], secret := 0 }

def Sec.reset : Sec :=
  { run := .boot, slots := [none, none], primaryB := false, trial := false, attempted := false, fuses := Fuses.none,
    running := none, slotB := false, fallback := false, staged := false, staging := none, activating := none,
    debugPending := false, debugOpen := false, meas := [], deviceSeed := 0, aliasSeed := 0, aliasCert := [],
    bootNonce := 0, extNonce := 0, keys := [], shutdown := none }

def HostIf.reset : HostIf :=
  { mem := [], fns := { enabled := true, draining := false, pend := false } ::
      List.replicate 16 { enabled := false, draining := false, pend := false },
    masked := [], pba := [], eid := 0, spdm := 0 }

def Pwr.reset : Pwr :=
  { tj := 0, watts := 0, step := 0, causeTj := false, causePower := false, tripped := false, pfail := false,
    pfailHold := false, pfailIgnored := false, pfailAt := 0, therm := false, thermHold := false,
    thermAt := 0, tsync := false, tsyncAt := none, glitch := List.replicate 3 (0, 0, false), avsTarget := 750,
    avsFails := 0, fallDue := false, overFrom := none, coolFrom := none, missed := [], readings := [] }

/-- The device right after a cold reset (R498): every register at its reset value, memory with nothing listed, no command
waiting. -/
def State.reset : State :=
  { bar := Bar0.reset, board := Board.none, stk := Stk.reset, sat := SatSt.reset, kva := Kva.reset, cores := Cores.reset, pln := Pln.reset,
    memory := MemSt.reset, fls := Fls.reset, lnk := Lnk.reset, xpt := Xpt.reset, shp := Shp.reset, cmd := Cmd.reset, blt := Blt.reset, sec := Sec.reset,
    host := HostIf.reset, pwr := Pwr.reset, out := [], freeCtr := 0, pending := [] }

end Sys2Proof.Machine
end

