-- ==== Sys2Proof/Machine/Regs.lean ====
section
/-!
DEFINITION. Machine/Regs.lean: BAR0's register map (the block tables and field maps of chapters 01 to 17): every register's
offset, its fields with access code and reset value, and the rule that a write of a field follows.
-/
namespace Sys2Proof.Machine

/-- The access codes of R10. -/
inductive Acc where
  | ro | rw | rwl | rws | w1c | wo
  deriving DecidableEq, Repr

/-- What a write stores in a field, beyond its access code. `near`: values outside are stored as the nearer limit. `nearMin`: a
value below the limit is stored as the limit. `notZero`: a write of 0 is dropped. `enable`: writing 0 while the field is 1 is
dropped. `lock`: writing 1 locks, writing 0 has no effect. `frozenNear`: as `near`, dropped while the block's ENABLE is 1.
`hook`: a rule that reads the device's state. -/
inductive WRule where
  | plain
  | near (lo hi : Nat)
  | nearMin (lo : Nat)
  | notZero
  | enable
  | lock
  | frozenNear (lo hi : Nat)
  | hook
  deriving DecidableEq, Repr

/-- A field of a field map; reserved bits are in no field. -/
structure Fld where
  hi : Nat
  lo : Nat
  acc : Acc
  reset : Nat
  rule : WRule
  deriving DecidableEq, Repr

/-- A register, or an array of registers of one field map: `dims` lists (count, stride), the widest stride first. `pairR`: the
low half of a pair read under R7; `pairW`: of a pair written under R7. -/
structure RegDef where
  base : Nat
  dims : List (Nat × Nat)
  pairR : Bool
  pairW : Bool
  fields : List Fld
  deriving DecidableEq, Repr

/-! ### Offsets -/

abbrev Reg.glbIdent : Nat := 0x00000000
abbrev Reg.glbVersion : Nat := 0x00000004
abbrev Reg.glbStraps : Nat := 0x00000008
abbrev Reg.glbDeviceId : Nat := 0x0000000C
abbrev Reg.glbCap : Nat := 0x00000010
abbrev Reg.glbLock : Nat := 0x00000014
abbrev Reg.glbScratch : Nat := 0x00000018
abbrev Reg.stkTimeLo : Nat := 0x00100000
abbrev Reg.stkTimeHi : Nat := 0x00100004
abbrev Reg.stkStrokeLo : Nat := 0x00100008
abbrev Reg.stkStrokeHi : Nat := 0x0010000C
abbrev Reg.stkStatus : Nat := 0x00100010
abbrev Reg.stkTimeSrc : Nat := 0x00100014
abbrev Reg.stkPeriod : Nat := 0x00100018
abbrev Reg.stkPhase : Nat := 0x0010001C
abbrev Reg.stkEpochLo : Nat := 0x00100020
abbrev Reg.stkEpochHi : Nat := 0x00100024
abbrev Reg.stkBaseLo : Nat := 0x00100028
abbrev Reg.stkBaseHi : Nat := 0x0010002C
abbrev Reg.stkPendLo : Nat := 0x00100030
abbrev Reg.stkPendHi : Nat := 0x00100034
abbrev Reg.stkOffset : Nat := 0x00100038
abbrev Reg.stkHoldCfg : Nat := 0x0010003C
abbrev Reg.stkGuard : Nat := 0x00100040
abbrev Reg.stkMissPred : Nat := 0x00100044
abbrev Reg.stkMissAct : Nat := 0x00100048
abbrev Reg.stkOverrun : Nat := 0x0010004C
abbrev Reg.stkSkip : Nat := 0x00100050
abbrev Reg.stkLock : Nat := 0x00100054
abbrev Reg.satCtrl : Nat := 0x00400000
abbrev Reg.satStatus : Nat := 0x00400004
abbrev Reg.satOwned : Nat := 0x00400008
abbrev Reg.satRecords : Nat := 0x0040000C
abbrev Reg.satLive : Nat := 0x00400010
abbrev Reg.satMigCfg : Nat := 0x00400014
abbrev Reg.satMirrorCfg : Nat := 0x00400018
abbrev Reg.satMirrorFree : Nat := 0x0040001C
abbrev Reg.satCntCommit : Nat := 0x00400020
abbrev Reg.satCntAbort : Nat := 0x00400024
abbrev Reg.satCntLost : Nat := 0x00400028
abbrev Reg.satCntRecover : Nat := 0x0040002C
abbrev Reg.satCntStale : Nat := 0x00400030
abbrev Reg.satLock : Nat := 0x00400034
abbrev Reg.satRcvLo (i : Nat) : Nat := 0x00401000 + 0x8 * i
abbrev Reg.satRcvHi (i : Nat) : Nat := 0x00401004 + 0x8 * i
abbrev Reg.kvaCtrl : Nat := 0x00600000
abbrev Reg.kvaStatus : Nat := 0x00600004
abbrev Reg.kvaArenaCfg : Nat := 0x00600008
abbrev Reg.kvaArenaFree : Nat := 0x0060000C
abbrev Reg.kvaContexts : Nat := 0x00600010
abbrev Reg.kvaInkUsed : Nat := 0x00600014
abbrev Reg.kvaEpoch : Nat := 0x00600018
abbrev Reg.kvaCntCow : Nat := 0x0060001C
abbrev Reg.kvaCntSat : Nat := 0x00600020
abbrev Reg.kvaCntSwapOut : Nat := 0x00600024
abbrev Reg.kvaCntSwapIn : Nat := 0x00600028
abbrev Reg.kvaCntDefer : Nat := 0x0060002C
abbrev Reg.kvaCntWalk : Nat := 0x00600030
abbrev Reg.kvaLock : Nat := 0x00600034
abbrev Reg.kvaPbase (p : Nat) : Nat := 0x00600100 + 0x4 * p
abbrev Reg.kvaPframes (p : Nat) : Nat := 0x00600140 + 0x4 * p
abbrev Reg.kvaPfree (p : Nat) : Nat := 0x00600180 + 0x4 * p
abbrev Reg.kvaSwapCfg (p : Nat) : Nat := 0x006001C0 + 0x4 * p
abbrev Reg.coreCtrl (c : Nat) : Nat := 0x00800000 + 0x10000 * c
abbrev Reg.coreStatus (c : Nat) : Nat := 0x00800004 + 0x10000 * c
abbrev Reg.coreEngBusy (c : Nat) : Nat := 0x00800008 + 0x10000 * c
abbrev Reg.coreThreads (c : Nat) : Nat := 0x0080000C + 0x10000 * c
abbrev Reg.coreCntCmd (c : Nat) : Nat := 0x00800010 + 0x10000 * c
abbrev Reg.coreCntKill (c : Nat) : Nat := 0x00800014 + 0x10000 * c
abbrev Reg.coreCntSat (c : Nat) : Nat := 0x00800018 + 0x10000 * c
abbrev Reg.coreCntNan (c : Nat) : Nat := 0x0080001C + 0x10000 * c
abbrev Reg.coreCntEcc (c : Nat) : Nat := 0x00800020 + 0x10000 * c
abbrev Reg.coreTrapCause (c : Nat) : Nat := 0x00800024 + 0x10000 * c
abbrev Reg.coreTrapEpcLo (c : Nat) : Nat := 0x00800028 + 0x10000 * c
abbrev Reg.coreTrapEpcHi (c : Nat) : Nat := 0x0080002C + 0x10000 * c
abbrev Reg.coreTrapTvalLo (c : Nat) : Nat := 0x00800030 + 0x10000 * c
abbrev Reg.coreTrapTvalHi (c : Nat) : Nat := 0x00800034 + 0x10000 * c
abbrev Reg.coreLock (c : Nat) : Nat := 0x00800038 + 0x10000 * c
abbrev Reg.coreQdepth (c u : Nat) : Nat := 0x00800040 + 0x10000 * c + 0x4 * u
abbrev Reg.plnCtrl : Nat := 0x01000000
abbrev Reg.plnStatus : Nat := 0x01000004
abbrev Reg.plnTenants : Nat := 0x01000008
abbrev Reg.plnCntRows : Nat := 0x0100000C
abbrev Reg.plnCntDefer : Nat := 0x01000010
abbrev Reg.plnCntSubst : Nat := 0x01000014
abbrev Reg.plnCntVictim : Nat := 0x01000018
abbrev Reg.plnCntKillOvf : Nat := 0x0100001C
abbrev Reg.plnLock : Nat := 0x01000020
abbrev Reg.plnPState (p : Nat) : Nat := 0x01001000 + 0x40 * p
abbrev Reg.plnPCfg (p : Nat) : Nat := 0x01001004 + 0x40 * p
abbrev Reg.plnPC0 (p : Nat) : Nat := 0x01001008 + 0x40 * p
abbrev Reg.plnPModel (p : Nat) : Nat := 0x0100100C + 0x40 * p
abbrev Reg.plnPLast (p : Nat) : Nat := 0x01001010 + 0x40 * p
abbrev Reg.plnPSaveLo (p : Nat) : Nat := 0x01001014 + 0x40 * p
abbrev Reg.plnPSaveHi (p : Nat) : Nat := 0x01001018 + 0x40 * p
abbrev Reg.plnShare (s i : Nat) : Nat := 0x01002000 + 0x10 * s + 0x4 * i
abbrev Reg.memCtrl : Nat := 0x01200000
abbrev Reg.memStatus : Nat := 0x01200004
abbrev Reg.memT1Info : Nat := 0x01200008
abbrev Reg.memDevpool : Nat := 0x0120000C
abbrev Reg.memFaultCfg : Nat := 0x01200010
abbrev Reg.memS2RootLo : Nat := 0x01200014
abbrev Reg.memS2RootHi : Nat := 0x01200018
abbrev Reg.memCntCe : Nat := 0x0120001C
abbrev Reg.memCntUe : Nat := 0x01200020
abbrev Reg.memCntXlat : Nat := 0x01200024
abbrev Reg.memParked : Nat := 0x01200028
abbrev Reg.memLock : Nat := 0x0120002C
abbrev Reg.memS1RootLo (p : Nat) : Nat := 0x01200100 + 0x8 * p
abbrev Reg.memS1RootHi (p : Nat) : Nat := 0x01200104 + 0x8 * p
abbrev Reg.memDev (d : Nat) : Nat := 0x01200200 + 0x4 * d
abbrev Reg.cdcCtrl : Nat := 0x01400000
abbrev Reg.cdcStatus : Nat := 0x01400004
abbrev Reg.cdcArb : Nat := 0x01400008
abbrev Reg.cdcLanes : Nat := 0x0140000C
abbrev Reg.cdcCntEnc : Nat := 0x01400010
abbrev Reg.cdcCntDec : Nat := 0x01400014
abbrev Reg.cdcCntRaw : Nat := 0x01400018
abbrev Reg.cdcCntTransient : Nat := 0x0140001C
abbrev Reg.cdcCntCorrupt : Nat := 0x01400020
abbrev Reg.cdcRawBytesLo : Nat := 0x01400024
abbrev Reg.cdcRawBytesHi : Nat := 0x01400028
abbrev Reg.cdcStoredBytesLo : Nat := 0x0140002C
abbrev Reg.cdcStoredBytesHi : Nat := 0x01400030
abbrev Reg.cdcLock : Nat := 0x01400034
abbrev Reg.cdcGroup (g : Nat) : Nat := 0x01400100 + 0x4 * g
abbrev Reg.flsCtrl : Nat := 0x01600000
abbrev Reg.flsStatus : Nat := 0x01600004
abbrev Reg.flsCap : Nat := 0x01600008
abbrev Reg.flsOp : Nat := 0x0160000C
abbrev Reg.flsUserUnits : Nat := 0x01600010
abbrev Reg.flsFreeUnits : Nat := 0x01600014
abbrev Reg.flsGcCfg : Nat := 0x01600018
abbrev Reg.flsMediaCfg : Nat := 0x0160001C
abbrev Reg.flsSpare : Nat := 0x01600020
abbrev Reg.flsWear : Nat := 0x01600024
abbrev Reg.flsTemp : Nat := 0x01600028
abbrev Reg.flsLdpc : Nat := 0x0160002C
abbrev Reg.flsCntRetry : Nat := 0x01600030
abbrev Reg.flsCntSoft : Nat := 0x01600034
abbrev Reg.flsCntUncorr : Nat := 0x01600038
abbrev Reg.flsCntProgFail : Nat := 0x0160003C
abbrev Reg.flsCntEraseFail : Nat := 0x01600040
abbrev Reg.flsCntOrphan : Nat := 0x01600044
abbrev Reg.flsLock : Nat := 0x01600048
abbrev Reg.flsCh (c : Nat) : Nat := 0x01600100 + 0x4 * c
abbrev Reg.lnkCtrl : Nat := 0x01800000
abbrev Reg.lnkStatus : Nat := 0x01800004
abbrev Reg.lnkTopo : Nat := 0x01800008
abbrev Reg.lnkRouteCfg : Nat := 0x0180000C
abbrev Reg.lnkCntHcrc : Nat := 0x01800010
abbrev Reg.lnkCntUnreach : Nat := 0x01800014
abbrev Reg.lnkCntNonmin : Nat := 0x01800018
abbrev Reg.lnkCntDead : Nat := 0x0180001C
abbrev Reg.lnkLock : Nat := 0x01800020
abbrev Reg.lnkHpresent (i : Nat) : Nat := 0x01800100 + 0x4 * i
abbrev Reg.lnkGwCfg : Nat := 0x01800200
abbrev Reg.lnkGwMacLo : Nat := 0x01800204
abbrev Reg.lnkGwMacHi : Nat := 0x01800208
abbrev Reg.lnkGwIp (i : Nat) : Nat := 0x01800210 + 0x4 * i
abbrev Reg.lnkGwCntDrop : Nat := 0x01800220
abbrev Reg.xptCtrl : Nat := 0x01C00000
abbrev Reg.xptStatus : Nat := 0x01C00004
abbrev Reg.xptConnCfg : Nat := 0x01C00008
abbrev Reg.xptConns : Nat := 0x01C0000C
abbrev Reg.xptTimer : Nat := 0x01C00010
abbrev Reg.xptWin : Nat := 0x01C00014
abbrev Reg.xptCc : Nat := 0x01C00018
abbrev Reg.xptComb : Nat := 0x01C0001C
abbrev Reg.xptTags : Nat := 0x01C00020
abbrev Reg.xptCntRetx : Nat := 0x01C00024
abbrev Reg.xptCntNotready : Nat := 0x01C00028
abbrev Reg.xptCntRevoked : Nat := 0x01C0002C
abbrev Reg.xptCntCombined : Nat := 0x01C00030
abbrev Reg.xptCntIndet : Nat := 0x01C00034
abbrev Reg.xptCntExpired : Nat := 0x01C00038
abbrev Reg.xptCntSpill : Nat := 0x01C0003C
abbrev Reg.xptCntStale : Nat := 0x01C00040
abbrev Reg.xptLock : Nat := 0x01C00044
abbrev Reg.xptPCfg (p : Nat) : Nat := 0x01C00100 + 0x4 * p
abbrev Reg.xptEStatus (e : Nat) : Nat := 0x01C00200 + 0x4 * e
abbrev Reg.shpCtrl : Nat := 0x01E00000
abbrev Reg.shpStatus : Nat := 0x01E00004
abbrev Reg.shpC0ViolLo : Nat := 0x01E00008
abbrev Reg.shpC0ViolHi : Nat := 0x01E0000C
abbrev Reg.shpWin (c : Nat) : Nat := 0x01E00010 + 0x4 * c
abbrev Reg.shpGateLen (b : Nat) : Nat := 0x01E00030 + 0x4 * b
abbrev Reg.shpGateCycle : Nat := 0x01E00038
abbrev Reg.shpCntPolice : Nat := 0x01E0003C
abbrev Reg.shpCntWait : Nat := 0x01E00040
abbrev Reg.shpCntOverhang : Nat := 0x01E00044
abbrev Reg.shpCntC0Viol : Nat := 0x01E00048
abbrev Reg.shpHistCtrl : Nat := 0x01E0004C
abbrev Reg.shpLock : Nat := 0x01E00050
abbrev Reg.shpPolRate (p c : Nat) : Nat := 0x01E00100 + 0x40 * p + 0x8 * c
abbrev Reg.shpPolBurst (p c : Nat) : Nat := 0x01E00104 + 0x40 * p + 0x8 * c
abbrev Reg.shpPCfg (p : Nat) : Nat := 0x01E00500 + 0x4 * p
abbrev Reg.shpQCfg (q c : Nat) : Nat := 0x01E00800 + 0x20 * q + 0x4 * c
abbrev Reg.shpGate (b i : Nat) : Nat := 0x01E01000 + 0x400 * b + 0x4 * i
abbrev Reg.shpHDepth (q c k : Nat) : Nat := 0x01E10000 + 0x800 * q + 0x100 * c + 0x4 * k
abbrev Reg.shpHDelay (q c k : Nat) : Nat := 0x01E10040 + 0x800 * q + 0x100 * c + 0x4 * k
abbrev Reg.cmdCtrl : Nat := 0x00200000
abbrev Reg.cmdStatus : Nat := 0x00200004
abbrev Reg.cmdTrust : Nat := 0x00200008
abbrev Reg.cmdCntTaken : Nat := 0x0020000C
abbrev Reg.cmdCntCheck : Nat := 0x00200010
abbrev Reg.cmdCntRemote : Nat := 0x00200014
abbrev Reg.cmdCntRefused : Nat := 0x00200018
abbrev Reg.cmdCntDrop : Nat := 0x0020001C
abbrev Reg.cmdLock : Nat := 0x00200020
abbrev Reg.cmdW (w : Nat) : Nat := 0x00200100 + 0x4 * w
abbrev Reg.bltCtrl : Nat := 0x02000000
abbrev Reg.bltStatus : Nat := 0x02000004
abbrev Reg.bltCfg : Nat := 0x02000008
abbrev Reg.bltFaultn : Nat := 0x0200000C
abbrev Reg.bltSeq : Nat := 0x02000010
abbrev Reg.bltOpen : Nat := 0x02000014
abbrev Reg.bltCntL (n : Nat) : Nat := 0x02000018 + 0x4 * n
abbrev Reg.bltCntEsc : Nat := 0x02000028
abbrev Reg.bltCntMerged : Nat := 0x0200002C
abbrev Reg.bltCntTransient : Nat := 0x02000030
abbrev Reg.bltCntDrop : Nat := 0x02000034
abbrev Reg.bltLock : Nat := 0x02000038
abbrev Reg.bltLog (i w : Nat) : Nat := 0x02001000 + 0x10 * i + 0x4 * w
abbrev Reg.secCtrl : Nat := 0x02100000
abbrev Reg.secStatus : Nat := 0x02100004
abbrev Reg.secRun : Nat := 0x02100008
abbrev Reg.secSvn : Nat := 0x0210000C
abbrev Reg.secKeys : Nat := 0x02100010
abbrev Reg.secFwActive : Nat := 0x02100014
abbrev Reg.secFwStaged : Nat := 0x02100018
abbrev Reg.secMeasSel : Nat := 0x0210001C
abbrev Reg.secTenantKeys : Nat := 0x02100020
abbrev Reg.secCntAuth : Nat := 0x02100024
abbrev Reg.secLock : Nat := 0x02100028
abbrev Reg.secMeasData (w : Nat) : Nat := 0x02100040 + 0x4 * w
abbrev Reg.pwrCtrl : Nat := 0x02200000
abbrev Reg.pwrStatus : Nat := 0x02200004
abbrev Reg.pwrTj : Nat := 0x02200008
abbrev Reg.pwrThrottle : Nat := 0x0220000C
abbrev Reg.pwrCap : Nat := 0x02200010
abbrev Reg.pwrPower : Nat := 0x02200014
abbrev Reg.pwrAvs : Nat := 0x02200018
abbrev Reg.pwrGlitch : Nat := 0x0220001C
abbrev Reg.pwrCntThrottle : Nat := 0x02200020
abbrev Reg.pwrLock : Nat := 0x02200024
abbrev Reg.pwrPmb (i : Nat) : Nat := 0x02200100 + 0x4 * i
abbrev Reg.lnkPCtrl (p : Nat) : Nat := 0x01810000 + 0x100 * p
abbrev Reg.lnkPStatus (p : Nat) : Nat := 0x01810004 + 0x100 * p
abbrev Reg.lnkPNeigh (p : Nat) : Nat := 0x01810008 + 0x100 * p
abbrev Reg.lnkPRtt (p : Nat) : Nat := 0x0181000C + 0x100 * p
abbrev Reg.lnkPReserve (p : Nat) : Nat := 0x01810010 + 0x100 * p
abbrev Reg.lnkPCntFecu (p : Nat) : Nat := 0x01810014 + 0x100 * p
abbrev Reg.lnkPCntReplay (p : Nat) : Nat := 0x01810018 + 0x100 * p
abbrev Reg.lnkPCntDown (p : Nat) : Nat := 0x0181001C + 0x100 * p
abbrev Reg.lnkPCredit (p c : Nat) : Nat := 0x01810020 + 0x100 * p + 0x4 * c
abbrev Reg.lnkGwPeerIp (e i : Nat) : Nat := 0x01800400 + 0x20 * e + 0x4 * i
abbrev Reg.lnkGwPeerMacLo (e : Nat) : Nat := 0x01800410 + 0x20 * e
abbrev Reg.lnkGwPeerMacHi (e : Nat) : Nat := 0x01800414 + 0x20 * e
abbrev Reg.lnkGwPeerRange (e : Nat) : Nat := 0x01800418 + 0x20 * e

/-! ### Field maps -/

/-- The GLB block. -/
def Reg.glbBlock : List RegDef := [
  -- GLB_IDENT
  ⟨0x00000000, [], false, false, [⟨31, 16, .ro, 0x8800, .plain⟩, ⟨15, 0, .ro, 0x5CA1, .plain⟩]⟩,
  -- GLB_VERSION
  ⟨0x00000004, [], false, false, [⟨15, 8, .ro, 2, .plain⟩, ⟨7, 0, .ro, 0, .plain⟩]⟩,
  -- GLB_STRAPS
  ⟨0x00000008, [], false, false, [⟨4, 0, .ro, 0, .plain⟩]⟩,
  -- GLB_DEVICE_ID
  ⟨0x0000000C, [], false, false, [⟨31, 31, .rwl, 0, .hook⟩, ⟨13, 5, .rwl, 0, .hook⟩, ⟨4, 0, .rwl, 0, .hook⟩]⟩,
  -- GLB_CAP
  ⟨0x00000010, [], false, false, [⟨21, 16, .ro, 0, .plain⟩, ⟨15, 10, .ro, 0, .plain⟩, ⟨9, 5, .ro, 0, .plain⟩]⟩,
  -- GLB_LOCK
  ⟨0x00000014, [], false, false, [⟨0, 0, .rwl, 0, .lock⟩]⟩,
  -- GLB_SCRATCH
  ⟨0x00000018, [], false, false, [⟨31, 0, .rws, 0, .plain⟩]⟩]

/-- The STK block. -/
def Reg.stkBlock : List RegDef := [
  -- STK_TIME_LO
  ⟨0x00100000, [], true, false, [⟨31, 0, .ro, 0, .plain⟩]⟩,
  -- STK_TIME_HI
  ⟨0x00100004, [], false, false, [⟨31, 0, .ro, 0, .plain⟩]⟩,
  -- STK_STROKE_LO
  ⟨0x00100008, [], true, false, [⟨31, 0, .ro, 0, .plain⟩]⟩,
  -- STK_STROKE_HI
  ⟨0x0010000C, [], false, false, [⟨31, 0, .ro, 0, .plain⟩]⟩,
  -- STK_STATUS
  ⟨0x00100010, [], false, false, [⟨17, 17, .w1c, 0, .plain⟩, ⟨16, 16, .w1c, 0, .plain⟩, ⟨10, 8, .ro, 0, .plain⟩, ⟨6, 6, .ro, 0, .plain⟩, ⟨5, 5, .ro, 0, .plain⟩, ⟨4, 4, .ro, 0, .plain⟩, ⟨3, 3, .ro, 0, .plain⟩, ⟨2, 2, .ro, 0, .plain⟩, ⟨1, 1, .ro, 0, .plain⟩, ⟨0, 0, .ro, 0, .plain⟩]⟩,
  -- STK_TIME_SRC
  ⟨0x00100014, [], false, false, [⟨29, 28, .rwl, 0, .plain⟩, ⟨25, 24, .rwl, 0, .plain⟩, ⟨21, 20, .rwl, 0, .plain⟩, ⟨14, 14, .rwl, 0, .plain⟩, ⟨13, 8, .rwl, 0, .plain⟩, ⟨6, 6, .rwl, 0, .plain⟩, ⟨5, 0, .rwl, 0, .plain⟩]⟩,
  -- STK_PERIOD
  ⟨0x00100018, [], false, false, [⟨16, 0, .ro, 0, .plain⟩]⟩,
  -- STK_PHASE
  ⟨0x0010001C, [], false, false, [⟨31, 24, .ro, 0xE6, .plain⟩, ⟨23, 16, .ro, 0xB3, .plain⟩, ⟨15, 8, .ro, 0x1A, .plain⟩, ⟨7, 0, .ro, 0xD, .plain⟩]⟩,
  -- STK_EPOCH_LO
  ⟨0x00100020, [], true, false, [⟨31, 0, .ro, 0, .plain⟩]⟩,
  -- STK_EPOCH_HI
  ⟨0x00100024, [], false, false, [⟨31, 0, .ro, 0, .plain⟩]⟩,
  -- STK_BASE_LO
  ⟨0x00100028, [], true, false, [⟨31, 0, .ro, 0, .plain⟩]⟩,
  -- STK_BASE_HI
  ⟨0x0010002C, [], false, false, [⟨31, 0, .ro, 0, .plain⟩]⟩,
  -- STK_PEND_LO
  ⟨0x00100030, [], true, false, [⟨31, 0, .ro, 0, .plain⟩]⟩,
  -- STK_PEND_HI
  ⟨0x00100034, [], false, false, [⟨31, 0, .ro, 0, .plain⟩]⟩,
  -- STK_OFFSET
  ⟨0x00100038, [], false, false, [⟨31, 0, .ro, 0, .plain⟩]⟩,
  -- STK_HOLD_CFG
  ⟨0x0010003C, [], false, false, [⟨23, 16, .rw, 0xA, .plain⟩, ⟨15, 0, .rw, 0x3E8, .plain⟩]⟩,
  -- STK_GUARD
  ⟨0x00100040, [], false, false, [⟨19, 0, .rw, 0x3E8, .plain⟩]⟩,
  -- STK_MISS_PRED
  ⟨0x00100044, [], false, false, [⟨31, 0, .rw, 0, .plain⟩]⟩,
  -- STK_MISS_ACT
  ⟨0x00100048, [], false, false, [⟨31, 0, .rw, 0, .plain⟩]⟩,
  -- STK_OVERRUN
  ⟨0x0010004C, [], false, false, [⟨31, 0, .rw, 0, .plain⟩]⟩,
  -- STK_SKIP
  ⟨0x00100050, [], false, false, [⟨31, 0, .rw, 0, .plain⟩]⟩,
  -- STK_LOCK
  ⟨0x00100054, [], false, false, [⟨0, 0, .rwl, 0, .lock⟩]⟩]

/-- The SAT block. -/
def Reg.satBlock : List RegDef := [
  -- SAT_CTRL
  ⟨0x00400000, [], false, false, [⟨4, 2, .rw, 7, .notZero⟩, ⟨1, 1, .rw, 0, .plain⟩, ⟨0, 0, .rwl, 0, .enable⟩]⟩,
  -- SAT_STATUS
  ⟨0x00400004, [], false, false, [⟨4, 4, .ro, 0, .plain⟩, ⟨3, 3, .ro, 0, .plain⟩, ⟨2, 2, .ro, 0, .plain⟩, ⟨1, 1, .ro, 0, .plain⟩, ⟨0, 0, .ro, 0, .plain⟩]⟩,
  -- SAT_OWNED
  ⟨0x00400008, [], false, false, [⟨22, 0, .ro, 0, .plain⟩]⟩,
  -- SAT_RECORDS
  ⟨0x0040000C, [], false, false, [⟨22, 0, .ro, 0, .plain⟩]⟩,
  -- SAT_LIVE
  ⟨0x00400010, [], false, false, [⟨31, 0, .ro, 0, .plain⟩]⟩,
  -- SAT_MIG_CFG
  ⟨0x00400014, [], false, false, [⟨15, 0, .rw, 0x40, .plain⟩]⟩,
  -- SAT_MIRROR_CFG
  ⟨0x00400018, [], false, false, [⟨23, 0, .rwl, 0x400000, .frozenNear 0 0x400000⟩]⟩,
  -- SAT_MIRROR_FREE
  ⟨0x0040001C, [], false, false, [⟨23, 0, .ro, 0, .plain⟩]⟩,
  -- SAT_CNT_COMMIT
  ⟨0x00400020, [], false, false, [⟨31, 0, .rw, 0, .plain⟩]⟩,
  -- SAT_CNT_ABORT
  ⟨0x00400024, [], false, false, [⟨31, 0, .rw, 0, .plain⟩]⟩,
  -- SAT_CNT_LOST
  ⟨0x00400028, [], false, false, [⟨31, 0, .rw, 0, .plain⟩]⟩,
  -- SAT_CNT_RECOVER
  ⟨0x0040002C, [], false, false, [⟨31, 0, .rw, 0, .plain⟩]⟩,
  -- SAT_CNT_STALE
  ⟨0x00400030, [], false, false, [⟨31, 0, .rw, 0, .plain⟩]⟩,
  -- SAT_LOCK
  ⟨0x00400034, [], false, false, [⟨0, 0, .rwl, 0, .lock⟩]⟩,
  -- SAT_RCV_LO
  ⟨0x00401000, [(64, 0x8)], false, false, [⟨31, 31, .rw, 0, .plain⟩, ⟨19, 16, .rw, 0, .plain⟩, ⟨15, 0, .rw, 0, .plain⟩]⟩,
  -- SAT_RCV_HI
  ⟨0x00401004, [(64, 0x8)], false, false, [⟨15, 0, .rw, 0, .plain⟩]⟩]

/-- The KVA block. -/
def Reg.kvaBlock : List RegDef := [
  -- KVA_CTRL
  ⟨0x00600000, [], false, false, [⟨1, 1, .rw, 0, .plain⟩, ⟨0, 0, .rwl, 0, .enable⟩]⟩,
  -- KVA_STATUS
  ⟨0x00600004, [], false, false, [⟨2, 2, .ro, 0, .plain⟩, ⟨1, 1, .ro, 0, .plain⟩, ⟨0, 0, .ro, 0, .plain⟩]⟩,
  -- KVA_ARENA_CFG
  ⟨0x00600008, [], false, false, [⟨25, 0, .rwl, 0, .frozenNear 0 62914560⟩]⟩,
  -- KVA_ARENA_FREE
  ⟨0x0060000C, [], false, false, [⟨25, 0, .ro, 0, .plain⟩]⟩,
  -- KVA_CONTEXTS
  ⟨0x00600010, [], false, false, [⟨23, 0, .ro, 0, .plain⟩]⟩,
  -- KVA_INK_USED
  ⟨0x00600014, [], false, false, [⟨16, 0, .ro, 0, .plain⟩]⟩,
  -- KVA_EPOCH
  ⟨0x00600018, [], false, false, [⟨31, 0, .ro, 0, .plain⟩]⟩,
  -- KVA_CNT_COW
  ⟨0x0060001C, [], false, false, [⟨31, 0, .rw, 0, .plain⟩]⟩,
  -- KVA_CNT_SAT
  ⟨0x00600020, [], false, false, [⟨31, 0, .rw, 0, .plain⟩]⟩,
  -- KVA_CNT_SWAP_OUT
  ⟨0x00600024, [], false, false, [⟨31, 0, .rw, 0, .plain⟩]⟩,
  -- KVA_CNT_SWAP_IN
  ⟨0x00600028, [], false, false, [⟨31, 0, .rw, 0, .plain⟩]⟩,
  -- KVA_CNT_DEFER
  ⟨0x0060002C, [], false, false, [⟨31, 0, .rw, 0, .plain⟩]⟩,
  -- KVA_CNT_WALK
  ⟨0x00600030, [], false, false, [⟨31, 0, .rw, 0, .plain⟩]⟩,
  -- KVA_LOCK
  ⟨0x00600034, [], false, false, [⟨0, 0, .rwl, 0, .lock⟩]⟩,
  -- KVA_PBASE
  ⟨0x00600100, [(16, 0x4)], false, false, [⟨25, 0, .ro, 0, .plain⟩]⟩,
  -- KVA_PFRAMES
  ⟨0x00600140, [(16, 0x4)], false, false, [⟨25, 0, .ro, 0, .plain⟩]⟩,
  -- KVA_PFREE
  ⟨0x00600180, [(16, 0x4)], false, false, [⟨25, 0, .ro, 0, .plain⟩]⟩,
  -- KVA_SWAP_CFG
  ⟨0x006001C0, [(16, 0x4)], false, false, [⟨1, 1, .rw, 0, .plain⟩, ⟨0, 0, .rw, 0, .plain⟩]⟩]

/-- The CORE block. -/
def Reg.coreBlock : List RegDef := [
  -- CORE_CTRL
  ⟨0x00800000, [(128, 0x10000)], false, false, [⟨2, 2, .rw, 0, .plain⟩, ⟨1, 1, .rw, 1, .plain⟩, ⟨0, 0, .rwl, 0, .hook⟩]⟩,
  -- CORE_STATUS
  ⟨0x00800004, [(128, 0x10000)], false, false, [⟨19, 16, .ro, 0, .plain⟩, ⟨15, 12, .ro, 0, .plain⟩, ⟨11, 11, .ro, 0, .plain⟩, ⟨4, 4, .ro, 0, .plain⟩, ⟨3, 3, .ro, 0, .plain⟩, ⟨2, 2, .ro, 0, .plain⟩, ⟨1, 1, .w1c, 0, .plain⟩, ⟨0, 0, .ro, 0, .plain⟩]⟩,
  -- CORE_ENG_BUSY
  ⟨0x00800008, [(128, 0x10000)], false, false, [⟨9, 0, .ro, 0, .plain⟩]⟩,
  -- CORE_THREADS
  ⟨0x0080000C, [(128, 0x10000)], false, false, [⟨6, 0, .ro, 0, .plain⟩]⟩,
  -- CORE_CNT_CMD
  ⟨0x00800010, [(128, 0x10000)], false, false, [⟨31, 0, .rw, 0, .plain⟩]⟩,
  -- CORE_CNT_KILL
  ⟨0x00800014, [(128, 0x10000)], false, false, [⟨31, 0, .rw, 0, .plain⟩]⟩,
  -- CORE_CNT_SAT
  ⟨0x00800018, [(128, 0x10000)], false, false, [⟨31, 0, .rw, 0, .plain⟩]⟩,
  -- CORE_CNT_NAN
  ⟨0x0080001C, [(128, 0x10000)], false, false, [⟨31, 0, .rw, 0, .plain⟩]⟩,
  -- CORE_CNT_ECC
  ⟨0x00800020, [(128, 0x10000)], false, false, [⟨31, 0, .rw, 0, .plain⟩]⟩,
  -- CORE_TRAP_CAUSE
  ⟨0x00800024, [(128, 0x10000)], false, false, [⟨31, 31, .w1c, 0, .plain⟩, ⟨21, 16, .ro, 0, .plain⟩, ⟨5, 0, .ro, 0, .plain⟩]⟩,
  -- CORE_TRAP_EPC_LO
  ⟨0x00800028, [(128, 0x10000)], true, false, [⟨31, 0, .ro, 0, .plain⟩]⟩,
  -- CORE_TRAP_EPC_HI
  ⟨0x0080002C, [(128, 0x10000)], false, false, [⟨31, 0, .ro, 0, .plain⟩]⟩,
  -- CORE_TRAP_TVAL_LO
  ⟨0x00800030, [(128, 0x10000)], true, false, [⟨31, 0, .ro, 0, .plain⟩]⟩,
  -- CORE_TRAP_TVAL_HI
  ⟨0x00800034, [(128, 0x10000)], false, false, [⟨31, 0, .ro, 0, .plain⟩]⟩,
  -- CORE_LOCK
  ⟨0x00800038, [(128, 0x10000)], false, false, [⟨0, 0, .rwl, 0, .lock⟩]⟩,
  -- CORE_QDEPTH
  ⟨0x00800040, [(128, 0x10000), (10, 0x4)], false, false, [⟨8, 0, .ro, 0, .plain⟩]⟩]

/-- The PLN block. -/
def Reg.plnBlock : List RegDef := [
  -- PLN_CTRL
  ⟨0x01000000, [], false, false, [⟨1, 1, .rw, 0, .plain⟩, ⟨0, 0, .rwl, 0, .enable⟩]⟩,
  -- PLN_STATUS
  ⟨0x01000004, [], false, false, [⟨1, 1, .ro, 0, .plain⟩, ⟨0, 0, .ro, 0, .plain⟩]⟩,
  -- PLN_TENANTS
  ⟨0x01000008, [], false, false, [⟨12, 0, .ro, 0, .plain⟩]⟩,
  -- PLN_CNT_ROWS
  ⟨0x0100000C, [], false, false, [⟨31, 0, .rw, 0, .plain⟩]⟩,
  -- PLN_CNT_DEFER
  ⟨0x01000010, [], false, false, [⟨31, 0, .rw, 0, .plain⟩]⟩,
  -- PLN_CNT_SUBST
  ⟨0x01000014, [], false, false, [⟨31, 0, .rw, 0, .plain⟩]⟩,
  -- PLN_CNT_VICTIM
  ⟨0x01000018, [], false, false, [⟨31, 0, .rw, 0, .plain⟩]⟩,
  -- PLN_CNT_KILL_OVF
  ⟨0x0100001C, [], false, false, [⟨31, 0, .rw, 0, .plain⟩]⟩,
  -- PLN_LOCK
  ⟨0x01000020, [], false, false, [⟨0, 0, .rwl, 0, .lock⟩]⟩,
  -- PLN_P_STATE
  ⟨0x01001000, [(16, 0x40)], false, false, [⟨31, 16, .ro, 0, .plain⟩, ⟨7, 6, .ro, 0, .plain⟩, ⟨5, 5, .ro, 0, .plain⟩, ⟨4, 4, .ro, 0, .plain⟩, ⟨3, 3, .ro, 0, .plain⟩, ⟨2, 0, .ro, 0, .plain⟩]⟩,
  -- PLN_P_CFG
  ⟨0x01001004, [(16, 0x40)], false, false, [⟨30, 16, .rw, 0, .hook⟩, ⟨12, 0, .rw, 0, .hook⟩]⟩,
  -- PLN_P_C0
  ⟨0x01001008, [(16, 0x40)], false, false, [⟨17, 16, .rw, 0, .hook⟩, ⟨14, 0, .rw, 0, .hook⟩]⟩,
  -- PLN_P_MODEL
  ⟨0x0100100C, [(16, 0x40)], false, false, [⟨31, 16, .ro, 0, .plain⟩, ⟨15, 0, .ro, 0xFFFF, .plain⟩]⟩,
  -- PLN_P_LAST
  ⟨0x01001010, [(16, 0x40)], false, false, [⟨31, 17, .ro, 0, .plain⟩, ⟨16, 0, .ro, 0, .plain⟩]⟩,
  -- PLN_P_SAVE_LO
  ⟨0x01001014, [(16, 0x40)], true, false, [⟨31, 0, .ro, 0, .plain⟩]⟩,
  -- PLN_P_SAVE_HI
  ⟨0x01001018, [(16, 0x40)], false, false, [⟨31, 0, .ro, 0, .plain⟩]⟩,
  -- PLN_SHARE
  ⟨0x01002000, [(16, 0x10), (4, 0x4)], false, false, [⟨31, 24, .rw, 0, .hook⟩, ⟨23, 16, .rw, 0, .hook⟩, ⟨15, 8, .rw, 0, .hook⟩, ⟨7, 0, .rw, 0, .hook⟩]⟩]

/-- The MEM block. -/
def Reg.memBlock : List RegDef := [
  -- MEM_CTRL
  ⟨0x01200000, [], false, false, [⟨2, 2, .rw, 0, .plain⟩, ⟨1, 1, .rw, 1, .plain⟩, ⟨0, 0, .rwl, 0, .enable⟩]⟩,
  -- MEM_STATUS
  ⟨0x01200004, [], false, false, [⟨4, 4, .ro, 0, .plain⟩, ⟨3, 3, .ro, 0, .plain⟩, ⟨2, 2, .ro, 0, .plain⟩, ⟨1, 1, .ro, 0, .plain⟩, ⟨0, 0, .ro, 0, .plain⟩]⟩,
  -- MEM_T1_INFO
  ⟨0x01200008, [], false, false, [⟨27, 16, .ro, 0, .plain⟩, ⟨15, 8, .ro, 0, .plain⟩]⟩,
  -- MEM_DEVPOOL
  ⟨0x0120000C, [], false, false, [⟨11, 0, .rwl, 0, .hook⟩]⟩,
  -- MEM_FAULT_CFG
  ⟨0x01200010, [], false, false, [⟨7, 0, .rw, 4, .plain⟩]⟩,
  -- MEM_S2_ROOT_LO
  ⟨0x01200014, [], true, true, [⟨31, 16, .rw, 0, .plain⟩, ⟨0, 0, .rw, 0, .plain⟩]⟩,
  -- MEM_S2_ROOT_HI
  ⟨0x01200018, [], false, false, [⟨19, 0, .rw, 0, .plain⟩]⟩,
  -- MEM_CNT_CE
  ⟨0x0120001C, [], false, false, [⟨31, 0, .rw, 0, .plain⟩]⟩,
  -- MEM_CNT_UE
  ⟨0x01200020, [], false, false, [⟨31, 0, .rw, 0, .plain⟩]⟩,
  -- MEM_CNT_XLAT
  ⟨0x01200024, [], false, false, [⟨31, 0, .rw, 0, .plain⟩]⟩,
  -- MEM_PARKED
  ⟨0x01200028, [], false, false, [⟨17, 0, .ro, 0, .plain⟩]⟩,
  -- MEM_LOCK
  ⟨0x0120002C, [], false, false, [⟨0, 0, .rwl, 0, .lock⟩]⟩,
  -- MEM_S1_ROOT_LO
  ⟨0x01200100, [(16, 0x8)], true, true, [⟨31, 16, .rw, 0, .plain⟩, ⟨0, 0, .rw, 0, .plain⟩]⟩,
  -- MEM_S1_ROOT_HI
  ⟨0x01200104, [(16, 0x8)], false, false, [⟨19, 0, .rw, 0, .plain⟩]⟩,
  -- MEM_DEV
  ⟨0x01200200, [(32, 0x4)], false, false, [⟨31, 31, .ro, 0, .plain⟩, ⟨30, 30, .ro, 0, .plain⟩, ⟨29, 28, .ro, 0, .plain⟩, ⟨23, 16, .ro, 0, .plain⟩, ⟨7, 0, .ro, 0, .plain⟩]⟩]

/-- The CDC block. -/
def Reg.cdcBlock : List RegDef := [
  -- CDC_CTRL
  ⟨0x01400000, [], false, false, [⟨1, 1, .rw, 1, .plain⟩, ⟨0, 0, .rwl, 0, .enable⟩]⟩,
  -- CDC_STATUS
  ⟨0x01400004, [], false, false, [⟨1, 1, .ro, 0, .plain⟩, ⟨0, 0, .ro, 0, .plain⟩]⟩,
  -- CDC_ARB
  ⟨0x01400008, [], false, false, [⟨3, 0, .rw, 2, .near 0 8⟩]⟩,
  -- CDC_LANES
  ⟨0x0140000C, [], false, false, [⟨23, 16, .ro, 0, .plain⟩, ⟨5, 0, .ro, 0, .plain⟩]⟩,
  -- CDC_CNT_ENC
  ⟨0x01400010, [], false, false, [⟨31, 0, .rw, 0, .plain⟩]⟩,
  -- CDC_CNT_DEC
  ⟨0x01400014, [], false, false, [⟨31, 0, .rw, 0, .plain⟩]⟩,
  -- CDC_CNT_RAW
  ⟨0x01400018, [], false, false, [⟨31, 0, .rw, 0, .plain⟩]⟩,
  -- CDC_CNT_TRANSIENT
  ⟨0x0140001C, [], false, false, [⟨31, 0, .rw, 0, .plain⟩]⟩,
  -- CDC_CNT_CORRUPT
  ⟨0x01400020, [], false, false, [⟨31, 0, .rw, 0, .plain⟩]⟩,
  -- CDC_RAW_BYTES_LO
  ⟨0x01400024, [], true, true, [⟨31, 0, .rw, 0, .plain⟩]⟩,
  -- CDC_RAW_BYTES_HI
  ⟨0x01400028, [], false, false, [⟨31, 0, .rw, 0, .plain⟩]⟩,
  -- CDC_STORED_BYTES_LO
  ⟨0x0140002C, [], true, true, [⟨31, 0, .rw, 0, .plain⟩]⟩,
  -- CDC_STORED_BYTES_HI
  ⟨0x01400030, [], false, false, [⟨31, 0, .rw, 0, .plain⟩]⟩,
  -- CDC_LOCK
  ⟨0x01400034, [], false, false, [⟨0, 0, .rwl, 0, .lock⟩]⟩,
  -- CDC_GROUP
  ⟨0x01400100, [(16, 0x4)], false, false, [⟨31, 31, .rw, 0, .hook⟩, ⟨15, 0, .ro, 0, .plain⟩]⟩]

/-- The FLS block. -/
def Reg.flsBlock : List RegDef := [
  -- FLS_CTRL
  ⟨0x01600000, [], false, false, [⟨2, 2, .rw, 0, .plain⟩, ⟨1, 1, .rw, 1, .plain⟩, ⟨0, 0, .rwl, 0, .enable⟩]⟩,
  -- FLS_STATUS
  ⟨0x01600004, [], false, false, [⟨6, 6, .ro, 0, .plain⟩, ⟨5, 5, .ro, 0, .plain⟩, ⟨4, 4, .ro, 0, .plain⟩, ⟨3, 3, .ro, 0, .plain⟩, ⟨2, 2, .ro, 0, .plain⟩, ⟨1, 1, .ro, 0, .plain⟩, ⟨0, 0, .ro, 0, .plain⟩]⟩,
  -- FLS_CAP
  ⟨0x01600008, [], false, false, [⟨22, 16, .ro, 0, .plain⟩, ⟨15, 8, .ro, 0, .plain⟩, ⟨1, 0, .ro, 0, .plain⟩]⟩,
  -- FLS_OP
  ⟨0x0160000C, [], false, false, [⟨7, 0, .ro, 0, .plain⟩]⟩,
  -- FLS_USER_UNITS
  ⟨0x01600010, [], false, false, [⟨31, 0, .ro, 0, .plain⟩]⟩,
  -- FLS_FREE_UNITS
  ⟨0x01600014, [], false, false, [⟨31, 0, .ro, 0, .plain⟩]⟩,
  -- FLS_GC_CFG
  ⟨0x01600018, [], false, false, [⟨31, 16, .rw, 0x1F4, .plain⟩, ⟨15, 8, .rw, 8, .hook⟩, ⟨7, 0, .rw, 2, .plain⟩]⟩,
  -- FLS_MEDIA_CFG
  ⟨0x0160001C, [], false, false, [⟨15, 8, .rw, 0xA0, .plain⟩, ⟨7, 0, .rw, 0x60, .plain⟩]⟩,
  -- FLS_SPARE
  ⟨0x01600020, [], false, false, [⟨31, 16, .rw, 0x14, .near 0 500⟩, ⟨15, 0, .ro, 0, .plain⟩]⟩,
  -- FLS_WEAR
  ⟨0x01600024, [], false, false, [⟨31, 16, .ro, 0, .plain⟩, ⟨15, 0, .ro, 0, .plain⟩]⟩,
  -- FLS_TEMP
  ⟨0x01600028, [], false, false, [⟨15, 8, .ro, 0, .plain⟩, ⟨7, 0, .ro, 0, .plain⟩]⟩,
  -- FLS_LDPC
  ⟨0x0160002C, [], false, false, [⟨15, 8, .ro, 0, .plain⟩, ⟨7, 0, .ro, 0, .plain⟩]⟩,
  -- FLS_CNT_RETRY
  ⟨0x01600030, [], false, false, [⟨31, 0, .rw, 0, .plain⟩]⟩,
  -- FLS_CNT_SOFT
  ⟨0x01600034, [], false, false, [⟨31, 0, .rw, 0, .plain⟩]⟩,
  -- FLS_CNT_UNCORR
  ⟨0x01600038, [], false, false, [⟨31, 0, .rw, 0, .plain⟩]⟩,
  -- FLS_CNT_PROG_FAIL
  ⟨0x0160003C, [], false, false, [⟨31, 0, .rw, 0, .plain⟩]⟩,
  -- FLS_CNT_ERASE_FAIL
  ⟨0x01600040, [], false, false, [⟨31, 0, .rw, 0, .plain⟩]⟩,
  -- FLS_CNT_ORPHAN
  ⟨0x01600044, [], false, false, [⟨31, 0, .rw, 0, .plain⟩]⟩,
  -- FLS_LOCK
  ⟨0x01600048, [], false, false, [⟨0, 0, .rwl, 0, .lock⟩]⟩,
  -- FLS_CH
  ⟨0x01600100, [(32, 0x4)], false, false, [⟨31, 31, .ro, 0, .plain⟩, ⟨30, 30, .ro, 0, .plain⟩, ⟨23, 16, .ro, 0, .plain⟩, ⟨15, 8, .ro, 0, .plain⟩]⟩]

/-- The LNK block. -/
def Reg.lnkBlock : List RegDef := [
  -- LNK_CTRL
  ⟨0x01800000, [], false, false, [⟨2, 2, .rw, 1, .plain⟩, ⟨1, 1, .rw, 1, .plain⟩, ⟨0, 0, .rwl, 0, .enable⟩]⟩,
  -- LNK_STATUS
  ⟨0x01800004, [], false, false, [⟨1, 1, .ro, 0, .plain⟩, ⟨0, 0, .ro, 0, .plain⟩]⟩,
  -- LNK_TOPO
  ⟨0x01800008, [], false, false, [⟨31, 24, .rw, 1, .plain⟩, ⟨9, 0, .rwl, 1, .hook⟩]⟩,
  -- LNK_ROUTE_CFG
  ⟨0x0180000C, [], false, false, [⟨31, 16, .rw, 0x200, .plain⟩, ⟨15, 0, .rw, 0x100, .plain⟩]⟩,
  -- LNK_CNT_HCRC
  ⟨0x01800010, [], false, false, [⟨31, 0, .rw, 0, .plain⟩]⟩,
  -- LNK_CNT_UNREACH
  ⟨0x01800014, [], false, false, [⟨31, 0, .rw, 0, .plain⟩]⟩,
  -- LNK_CNT_NONMIN
  ⟨0x01800018, [], false, false, [⟨31, 0, .rw, 0, .plain⟩]⟩,
  -- LNK_CNT_DEAD
  ⟨0x0180001C, [], false, false, [⟨31, 0, .rw, 0, .plain⟩]⟩,
  -- LNK_LOCK
  ⟨0x01800020, [], false, false, [⟨0, 0, .rwl, 0, .lock⟩]⟩,
  -- LNK_HPRESENT
  ⟨0x01800100, [(16, 0x4)], false, false, [⟨31, 0, .rw, 0, .plain⟩]⟩,
  -- LNK_GW_CFG
  ⟨0x01800200, [], false, false, [⟨31, 16, .rw, 0x5CA1, .plain⟩, ⟨15, 4, .rw, 0, .plain⟩, ⟨3, 3, .rw, 0, .plain⟩, ⟨2, 2, .rw, 0, .plain⟩, ⟨0, 0, .rw, 0, .hook⟩]⟩,
  -- LNK_GW_MAC_LO
  ⟨0x01800204, [], false, false, [⟨31, 0, .rw, 0, .plain⟩]⟩,
  -- LNK_GW_MAC_HI
  ⟨0x01800208, [], false, false, [⟨15, 0, .rw, 0, .plain⟩]⟩,
  -- LNK_GW_IP
  ⟨0x01800210, [(4, 0x4)], false, false, [⟨31, 0, .rw, 0, .plain⟩]⟩,
  -- LNK_GW_CNT_DROP
  ⟨0x01800220, [], false, false, [⟨31, 0, .rw, 0, .plain⟩]⟩,
  -- LNK_P_CTRL
  ⟨0x01810000, [(64, 0x100)], false, false, [⟨3, 1, .rw, 0, .hook⟩, ⟨0, 0, .rw, 0, .hook⟩]⟩,
  -- LNK_P_STATUS
  ⟨0x01810004, [(64, 0x100)], false, false, [⟨13, 12, .ro, 0, .plain⟩, ⟨8, 8, .ro, 0, .plain⟩, ⟨7, 7, .ro, 0, .plain⟩, ⟨6, 4, .ro, 0, .plain⟩, ⟨3, 0, .ro, 0, .plain⟩]⟩,
  -- LNK_P_NEIGH
  ⟨0x01810008, [(64, 0x100)], false, false, [⟨21, 16, .ro, 0, .plain⟩, ⟨15, 0, .ro, 0xFFFF, .plain⟩]⟩,
  -- LNK_P_RTT
  ⟨0x0181000C, [(64, 0x100)], false, false, [⟨15, 0, .ro, 0, .plain⟩]⟩,
  -- LNK_P_RESERVE
  ⟨0x01810010, [(64, 0x100)], false, false, [⟨6, 0, .rw, 0x20, .hook⟩]⟩,
  -- LNK_P_CNT_FECU
  ⟨0x01810014, [(64, 0x100)], false, false, [⟨31, 0, .rw, 0, .plain⟩]⟩,
  -- LNK_P_CNT_REPLAY
  ⟨0x01810018, [(64, 0x100)], false, false, [⟨31, 0, .rw, 0, .plain⟩]⟩,
  -- LNK_P_CNT_DOWN
  ⟨0x0181001C, [(64, 0x100)], false, false, [⟨31, 0, .rw, 0, .plain⟩]⟩,
  -- LNK_P_CREDIT
  ⟨0x01810020, [(64, 0x100), (8, 0x4)], false, false, [⟨11, 0, .rw, 0x800, .hook⟩]⟩,
  -- LNK_GW_PEER_IP
  ⟨0x01800400, [(16, 0x20), (4, 0x4)], false, false, [⟨31, 0, .rw, 0, .plain⟩]⟩,
  -- LNK_GW_PEER_MAC_LO
  ⟨0x01800410, [(16, 0x20)], false, false, [⟨31, 0, .rw, 0, .plain⟩]⟩,
  -- LNK_GW_PEER_MAC_HI
  ⟨0x01800414, [(16, 0x20)], false, false, [⟨15, 0, .rw, 0, .plain⟩]⟩,
  -- LNK_GW_PEER_RANGE
  ⟨0x01800418, [(16, 0x20)], false, false, [⟨31, 31, .rw, 0, .plain⟩, ⟨24, 16, .rw, 0, .plain⟩, ⟨8, 0, .rw, 0, .plain⟩]⟩]

/-- The XPT block. -/
def Reg.xptBlock : List RegDef := [
  -- XPT_CTRL
  ⟨0x01C00000, [], false, false, [⟨2, 2, .rw, 1, .plain⟩, ⟨1, 1, .rw, 1, .plain⟩, ⟨0, 0, .rwl, 0, .enable⟩]⟩,
  -- XPT_STATUS
  ⟨0x01C00004, [], false, false, [⟨3, 3, .ro, 0, .plain⟩, ⟨2, 2, .ro, 0, .plain⟩, ⟨1, 1, .ro, 0, .plain⟩, ⟨0, 0, .ro, 0, .plain⟩]⟩,
  -- XPT_CONN_CFG
  ⟨0x01C00008, [], false, false, [⟨20, 0, .rwl, 0x100000, .frozenNear 16384 1048576⟩]⟩,
  -- XPT_CONNS
  ⟨0x01C0000C, [], false, false, [⟨20, 0, .ro, 0, .plain⟩]⟩,
  -- XPT_TIMER
  ⟨0x01C00010, [], false, false, [⟨31, 24, .rw, 0x40, .hook⟩, ⟨23, 16, .rw, 0x10, .plain⟩, ⟨15, 0, .rw, 0x64, .hook⟩]⟩,
  -- XPT_WIN
  ⟨0x01C00014, [], false, false, [⟨31, 16, .rw, 0x400, .near 4 16384⟩, ⟨15, 0, .rw, 0x40, .hook⟩]⟩,
  -- XPT_CC
  ⟨0x01C00018, [], false, false, [⟨31, 28, .rw, 4, .plain⟩, ⟨23, 16, .rw, 0x10, .near 4 16⟩, ⟨15, 0, .rw, 0x3E8, .plain⟩]⟩,
  -- XPT_COMB
  ⟨0x01C0001C, [], false, false, [⟨15, 0, .rw, 0xC8, .near 0 1000⟩]⟩,
  -- XPT_TAGS
  ⟨0x01C00020, [], false, false, [⟨16, 0, .ro, 0, .plain⟩]⟩,
  -- XPT_CNT_RETX
  ⟨0x01C00024, [], false, false, [⟨31, 0, .rw, 0, .plain⟩]⟩,
  -- XPT_CNT_NOTREADY
  ⟨0x01C00028, [], false, false, [⟨31, 0, .rw, 0, .plain⟩]⟩,
  -- XPT_CNT_REVOKED
  ⟨0x01C0002C, [], false, false, [⟨31, 0, .rw, 0, .plain⟩]⟩,
  -- XPT_CNT_COMBINED
  ⟨0x01C00030, [], false, false, [⟨31, 0, .rw, 0, .plain⟩]⟩,
  -- XPT_CNT_INDET
  ⟨0x01C00034, [], false, false, [⟨31, 0, .rw, 0, .plain⟩]⟩,
  -- XPT_CNT_EXPIRED
  ⟨0x01C00038, [], false, false, [⟨31, 0, .rw, 0, .plain⟩]⟩,
  -- XPT_CNT_SPILL
  ⟨0x01C0003C, [], false, false, [⟨31, 0, .rw, 0, .plain⟩]⟩,
  -- XPT_CNT_STALE
  ⟨0x01C00040, [], false, false, [⟨31, 0, .rw, 0, .plain⟩]⟩,
  -- XPT_LOCK
  ⟨0x01C00044, [], false, false, [⟨0, 0, .rwl, 0, .lock⟩]⟩,
  -- XPT_P_CFG
  ⟨0x01C00100, [(16, 0x4)], false, false, [⟨31, 16, .rw, 0x400, .near 0 16384⟩, ⟨2, 0, .rw, 3, .plain⟩]⟩,
  -- XPT_E_STATUS
  ⟨0x01C00200, [(16, 0x4)], false, false, [⟨27, 16, .ro, 0, .plain⟩, ⟨10, 0, .ro, 0, .plain⟩]⟩]

/-- The SHP block. -/
def Reg.shpBlock : List RegDef := [
  -- SHP_CTRL
  ⟨0x01E00000, [], false, false, [⟨3, 3, .wo, 0, .plain⟩, ⟨2, 1, .rw, 0, .plain⟩, ⟨0, 0, .rwl, 0, .enable⟩]⟩,
  -- SHP_STATUS
  ⟨0x01E00004, [], false, false, [⟨5, 5, .ro, 0, .plain⟩, ⟨4, 4, .ro, 0, .plain⟩, ⟨3, 3, .ro, 0, .plain⟩, ⟨2, 2, .ro, 0, .plain⟩, ⟨0, 0, .ro, 0, .plain⟩]⟩,
  -- SHP_C0_VIOL_LO
  ⟨0x01E00008, [], false, false, [⟨31, 0, .w1c, 0, .plain⟩]⟩,
  -- SHP_C0_VIOL_HI
  ⟨0x01E0000C, [], false, false, [⟨31, 0, .w1c, 0, .plain⟩]⟩,
  -- SHP_WIN
  ⟨0x01E00010, [], false, false, [⟨4, 0, .ro, 0x1F, .plain⟩]⟩,
  -- SHP_WIN
  ⟨0x01E00014, [(7, 0x4)], false, false, [⟨4, 0, .rw, 0x1F, .plain⟩]⟩,
  -- SHP_GATE_LEN
  ⟨0x01E00030, [(2, 0x4)], false, false, [⟨8, 0, .rw, 1, .hook⟩]⟩,
  -- SHP_GATE_CYCLE
  ⟨0x01E00038, [], false, false, [⟨31, 0, .ro, 0xF4240, .plain⟩]⟩,
  -- SHP_CNT_POLICE
  ⟨0x01E0003C, [], false, false, [⟨31, 0, .rw, 0, .plain⟩]⟩,
  -- SHP_CNT_WAIT
  ⟨0x01E00040, [], false, false, [⟨31, 0, .rw, 0, .plain⟩]⟩,
  -- SHP_CNT_OVERHANG
  ⟨0x01E00044, [], false, false, [⟨31, 0, .rw, 0, .plain⟩]⟩,
  -- SHP_CNT_C0_VIOL
  ⟨0x01E00048, [], false, false, [⟨31, 0, .rw, 0, .plain⟩]⟩,
  -- SHP_HIST_CTRL
  ⟨0x01E0004C, [], false, false, [⟨1, 1, .wo, 0, .plain⟩, ⟨0, 0, .rw, 0, .plain⟩]⟩,
  -- SHP_LOCK
  ⟨0x01E00050, [], false, false, [⟨0, 0, .rwl, 0, .lock⟩]⟩,
  -- SHP_POL_RATE
  ⟨0x01E00100, [(16, 0x40)], false, false, [⟨31, 0, .rw, 0x2710, .near 0 160000⟩]⟩,
  -- SHP_POL_RATE
  ⟨0x01E00108, [(16, 0x40), (7, 0x8)], false, false, [⟨31, 0, .rw, 0xFFFFFFFF, .plain⟩]⟩,
  -- SHP_POL_BURST
  ⟨0x01E00104, [(16, 0x40)], false, false, [⟨23, 0, .rw, 0x4000, .near 576 16384⟩]⟩,
  -- SHP_POL_BURST
  ⟨0x01E0010C, [(16, 0x40), (7, 0x8)], false, false, [⟨23, 0, .rw, 0x10000, .near 4288 16777215⟩]⟩,
  -- SHP_P_CFG
  ⟨0x01E00500, [(16, 0x4)], false, false, [⟨2, 0, .rw, 7, .notZero⟩]⟩,
  -- SHP_Q_CFG
  ⟨0x01E00800, [(64, 0x20), (8, 0x4)], false, false, [⟨31, 31, .rw, 0, .plain⟩, ⟨23, 8, .rw, 0x40, .plain⟩, ⟨7, 0, .rw, 0x20, .near 1 255⟩]⟩,
  -- SHP_GATE
  ⟨0x01E01000, [(2, 0x400), (256, 0x4)], false, false, [⟨31, 24, .rw, 0xFF, .hook⟩, ⟨23, 0, .rw, 0xF4240, .hook⟩]⟩,
  -- SHP_H_DEPTH
  ⟨0x01E10000, [(64, 0x800), (8, 0x100), (16, 0x4)], false, false, [⟨31, 0, .ro, 0, .plain⟩]⟩,
  -- SHP_H_DELAY
  ⟨0x01E10040, [(64, 0x800), (8, 0x100), (16, 0x4)], false, false, [⟨31, 0, .ro, 0, .plain⟩]⟩]

/-- The CMD block. -/
def Reg.cmdBlock : List RegDef := [
  -- CMD_CTRL
  ⟨0x00200000, [], false, false, [⟨23, 8, .rw, 0x64, .plain⟩, ⟨0, 0, .rwl, 0, .enable⟩]⟩,
  -- CMD_STATUS
  ⟨0x00200004, [], false, false, [⟨0, 0, .ro, 0, .plain⟩]⟩,
  -- CMD_TRUST
  ⟨0x00200008, [], false, false, [⟨2, 2, .rwl, 0, .plain⟩, ⟨1, 0, .rwl, 0, .plain⟩]⟩,
  -- CMD_CNT_TAKEN
  ⟨0x0020000C, [], false, false, [⟨31, 0, .rw, 0, .plain⟩]⟩,
  -- CMD_CNT_CHECK
  ⟨0x00200010, [], false, false, [⟨31, 0, .rw, 0, .plain⟩]⟩,
  -- CMD_CNT_REMOTE
  ⟨0x00200014, [], false, false, [⟨31, 0, .rw, 0, .plain⟩]⟩,
  -- CMD_CNT_REFUSED
  ⟨0x00200018, [], false, false, [⟨31, 0, .rw, 0, .plain⟩]⟩,
  -- CMD_CNT_DROP
  ⟨0x0020001C, [], false, false, [⟨31, 0, .rw, 0, .plain⟩]⟩,
  -- CMD_LOCK
  ⟨0x00200020, [], false, false, [⟨0, 0, .rwl, 0, .lock⟩]⟩,
  -- CMD_W
  ⟨0x00200100, [(32, 0x4)], false, false, [⟨31, 31, .wo, 0, .plain⟩, ⟨25, 24, .ro, 0, .plain⟩, ⟨23, 0, .ro, 0, .plain⟩]⟩]

/-- The BLT block. -/
def Reg.bltBlock : List RegDef := [
  -- BLT_CTRL
  ⟨0x02000000, [], false, false, [⟨2, 2, .rw, 1, .plain⟩, ⟨1, 1, .rwl, 1, .plain⟩, ⟨0, 0, .rwl, 0, .plain⟩]⟩,
  -- BLT_STATUS
  ⟨0x02000004, [], false, false, [⟨2, 2, .ro, 0, .plain⟩, ⟨1, 1, .ro, 0, .plain⟩, ⟨0, 0, .ro, 0, .plain⟩]⟩,
  -- BLT_CFG
  ⟨0x02000008, [], false, false, [⟨31, 24, .rw, 0x10, .plain⟩, ⟨23, 12, .rw, 0x400, .plain⟩, ⟨11, 0, .rw, 0x40, .plain⟩]⟩,
  -- BLT_FAULTN
  ⟨0x0200000C, [], false, false, [⟨1, 1, .ro, 0, .plain⟩, ⟨0, 0, .rws, 0, .plain⟩]⟩,
  -- BLT_SEQ
  ⟨0x02000010, [], false, false, [⟨31, 0, .ro, 0xFFFFFFFF, .plain⟩]⟩,
  -- BLT_OPEN
  ⟨0x02000014, [], false, false, [⟨8, 0, .ro, 0, .plain⟩]⟩,
  -- BLT_CNT_L
  ⟨0x02000018, [(4, 0x4)], false, false, [⟨31, 0, .rw, 0, .plain⟩]⟩,
  -- BLT_CNT_ESC
  ⟨0x02000028, [], false, false, [⟨31, 0, .rw, 0, .plain⟩]⟩,
  -- BLT_CNT_MERGED
  ⟨0x0200002C, [], false, false, [⟨31, 0, .rw, 0, .plain⟩]⟩,
  -- BLT_CNT_TRANSIENT
  ⟨0x02000030, [], false, false, [⟨31, 0, .rw, 0, .plain⟩]⟩,
  -- BLT_CNT_DROP
  ⟨0x02000034, [], false, false, [⟨31, 0, .rw, 0, .plain⟩]⟩,
  -- BLT_LOCK
  ⟨0x02000038, [], false, false, [⟨0, 0, .rwl, 0, .lock⟩]⟩,
  -- BLT_LOG
  ⟨0x02001000, [(1024, 0x10), (4, 0x4)], false, false, [⟨31, 0, .ro, 0, .plain⟩]⟩]

/-- The SEC block. -/
def Reg.secBlock : List RegDef := [
  -- SEC_CTRL
  ⟨0x02100000, [], false, false, [⟨2, 2, .rwl, 0, .plain⟩, ⟨1, 1, .rwl, 0, .plain⟩, ⟨0, 0, .rwl, 0, .plain⟩]⟩,
  -- SEC_STATUS
  ⟨0x02100004, [], false, false, [⟨13, 12, .ro, 0, .plain⟩, ⟨11, 11, .ro, 0, .plain⟩, ⟨10, 10, .ro, 0, .plain⟩, ⟨9, 9, .ro, 0, .plain⟩, ⟨8, 8, .ro, 0, .plain⟩, ⟨0, 0, .ro, 0, .plain⟩]⟩,
  -- SEC_RUN
  ⟨0x02100008, [], false, false, [⟨3, 0, .ro, 0, .plain⟩]⟩,
  -- SEC_SVN
  ⟨0x0210000C, [], false, false, [⟨13, 8, .ro, 0, .plain⟩, ⟨5, 0, .ro, 0, .plain⟩]⟩,
  -- SEC_KEYS
  ⟨0x02100010, [], false, false, [⟨7, 4, .ro, 0, .plain⟩, ⟨3, 0, .ro, 0, .plain⟩]⟩,
  -- SEC_FW_ACTIVE
  ⟨0x02100014, [], false, false, [⟨31, 0, .ro, 0, .plain⟩]⟩,
  -- SEC_FW_STAGED
  ⟨0x02100018, [], false, false, [⟨31, 0, .ro, 0, .plain⟩]⟩,
  -- SEC_MEAS_SEL
  ⟨0x0210001C, [], false, false, [⟨4, 0, .rw, 1, .plain⟩]⟩,
  -- SEC_TENANT_KEYS
  ⟨0x02100020, [], false, false, [⟨12, 0, .ro, 0, .plain⟩]⟩,
  -- SEC_CNT_AUTH
  ⟨0x02100024, [], false, false, [⟨31, 0, .rw, 0, .plain⟩]⟩,
  -- SEC_LOCK
  ⟨0x02100028, [], false, false, [⟨0, 0, .rwl, 0, .lock⟩]⟩,
  -- SEC_MEAS_DATA
  ⟨0x02100040, [(16, 0x4)], false, false, [⟨31, 0, .ro, 0, .plain⟩]⟩]

/-- The PWR block. -/
def Reg.pwrBlock : List RegDef := [
  -- PWR_CTRL
  ⟨0x02200000, [], false, false, [⟨7, 0, .rwl, 0x64, .near 85 104⟩]⟩,
  -- PWR_STATUS
  ⟨0x02200004, [], false, false, [⟨7, 7, .ro, 0, .plain⟩, ⟨6, 6, .w1c, 0, .plain⟩, ⟨5, 5, .ro, 0, .plain⟩, ⟨4, 4, .ro, 0, .plain⟩, ⟨2, 2, .ro, 0, .plain⟩, ⟨1, 1, .ro, 0, .plain⟩, ⟨0, 0, .ro, 0, .plain⟩]⟩,
  -- PWR_TJ
  ⟨0x02200008, [], false, false, [⟨15, 8, .rw, 0, .plain⟩, ⟨7, 0, .ro, 0, .plain⟩]⟩,
  -- PWR_THROTTLE
  ⟨0x0220000C, [], false, false, [⟨7, 4, .ro, 0, .plain⟩, ⟨2, 0, .ro, 0, .plain⟩]⟩,
  -- PWR_CAP
  ⟨0x02200010, [], false, false, [⟨10, 0, .rw, 0x5DC, .near 300 1500⟩]⟩,
  -- PWR_POWER
  ⟨0x02200014, [], false, false, [⟨10, 0, .ro, 0, .plain⟩]⟩,
  -- PWR_AVS
  ⟨0x02200018, [], false, false, [⟨31, 22, .rwl, 0x352, .near 0 850⟩, ⟨21, 12, .rwl, 0x28A, .hook⟩, ⟨9, 0, .ro, 0x2EE, .plain⟩]⟩,
  -- PWR_GLITCH
  ⟨0x0220001C, [], false, false, [⟨23, 16, .rw, 0, .plain⟩, ⟨15, 8, .rw, 0, .plain⟩, ⟨7, 0, .rw, 0, .plain⟩]⟩,
  -- PWR_CNT_THROTTLE
  ⟨0x02200020, [], false, false, [⟨31, 0, .rw, 0, .plain⟩]⟩,
  -- PWR_LOCK
  ⟨0x02200024, [], false, false, [⟨0, 0, .rwl, 0, .lock⟩]⟩,
  -- PWR_PMB
  ⟨0x02200100, [(16, 0x4)], false, false, [⟨31, 31, .rw, 0, .plain⟩, ⟨15, 12, .rw, 0, .plain⟩, ⟨6, 0, .rw, 0, .plain⟩]⟩]

/-! ### Looking a register up -/

/-- The indices that name the register of an array at a distance from its base, if the distance names one. -/
def dimIndex : List (Nat × Nat) → Nat → Option (List Nat)
  | [], d => if d = 0 then some [] else none
  | (n, st) :: t, d =>
    if d / st < n then
      match dimIndex t (d % st) with
      | some l => some (d / st :: l)
      | none => none
    else none

/-- The indices with which a definition covers an offset. -/
def RegDef.index (r : RegDef) (off : Nat) : Option (List Nat) :=
  if off < r.base then none else dimIndex r.dims (off - r.base)

/-- The block that an offset lies in (R27). -/
def blockRegs (off : Nat) : List RegDef :=
  if off < 0x00100000 then Reg.glbBlock
  else if off < 0x00200000 then Reg.stkBlock
  else if off < 0x00400000 then Reg.cmdBlock
  else if off < 0x00600000 then Reg.satBlock
  else if off < 0x00800000 then Reg.kvaBlock
  else if off < 0x01000000 then Reg.coreBlock
  else if off < 0x01200000 then Reg.plnBlock
  else if off < 0x01400000 then Reg.memBlock
  else if off < 0x01600000 then Reg.cdcBlock
  else if off < 0x01800000 then Reg.flsBlock
  else if off < 0x01C00000 then Reg.lnkBlock
  else if off < 0x01E00000 then Reg.xptBlock
  else if off < 0x02000000 then Reg.shpBlock
  else if off < 0x02100000 then Reg.bltBlock
  else if off < 0x02200000 then Reg.secBlock
  else Reg.pwrBlock

/-- The lock register of the block that an offset lies in (R35, R67, R107 and their like; a core locks its own block, R217). -/
def blockLock (off : Nat) : Nat :=
  if off < 0x00100000 then Reg.glbLock
  else if off < 0x00200000 then Reg.stkLock
  else if off < 0x00400000 then Reg.cmdLock
  else if off < 0x00600000 then Reg.satLock
  else if off < 0x00800000 then Reg.kvaLock
  else if off < 0x01000000 then Reg.coreLock ((off - 0x00800000) / 0x10000)
  else if off < 0x01200000 then Reg.plnLock
  else if off < 0x01400000 then Reg.memLock
  else if off < 0x01600000 then Reg.cdcLock
  else if off < 0x01800000 then Reg.flsLock
  else if off < 0x01C00000 then Reg.lnkLock
  else if off < 0x01E00000 then Reg.xptLock
  else if off < 0x02000000 then Reg.shpLock
  else if off < 0x02100000 then Reg.bltLock
  else if off < 0x02200000 then Reg.secLock
  else Reg.pwrLock

/-- The CTRL register of the block, whose bit 0 is ENABLE. -/
def blockCtrl (off : Nat) : Nat :=
  if off < 0x00400000 then Reg.cmdCtrl
  else if off < 0x00600000 then Reg.satCtrl
  else if off < 0x00800000 then Reg.kvaCtrl
  else if off < 0x01200000 then Reg.plnCtrl
  else if off < 0x01400000 then Reg.memCtrl
  else if off < 0x01600000 then Reg.cdcCtrl
  else if off < 0x01800000 then Reg.flsCtrl
  else if off < 0x01C00000 then Reg.lnkCtrl
  else if off < 0x01E00000 then Reg.xptCtrl
  else Reg.shpCtrl

/-- The definition that covers an offset and the indices within it. -/
def findIn : List RegDef → Nat → Option (RegDef × List Nat)
  | [], _ => none
  | r :: t, off =>
    match r.index off with
    | some l => some (r, l)
    | none => findIn t off

/-- The register at an offset; none for an offset that no register occupies (R28). -/
def findReg (off : Nat) : Option (RegDef × List Nat) :=
  if 0x02300000 ≤ off then none else findIn (blockRegs off) off

/-- The word whose fields hold their reset values. -/
def fieldsReset (l : List Fld) : Nat := l.foldl (fun a f => setBits a f.hi f.lo f.reset) 0

/-- What a register holds at reset. -/
def resetWord (off : Nat) : Nat :=
  match findReg off with
  | some (r, _) => fieldsReset r.fields
  | none => 0

/-- What a register's storage holds; derived fields are not stored (Machine/Flags.lean). -/
def State.reg (s : State) (off : Nat) : Nat :=
  match afind s.bar.regs off with
  | some w => w.toNat
  | none => resetWord off

/-- The field [hi:lo] of a register's storage. -/
def State.fld (s : State) (off hi lo : Nat) : Nat := bits (s.reg off) hi lo

/-- A one-bit field. -/
def State.flag (s : State) (off i : Nat) : Bool := bitAt (s.reg off) i

/-- Set a register's storage. -/
def State.setReg (s : State) (off v : Nat) : State :=
  { s with bar := { s.bar with regs := aput s.bar.regs off (BitVec.ofNat 32 v) } }

/-- Set one field of a register's storage. -/
def State.setFld (s : State) (off hi lo v : Nat) : State := s.setReg off (setBits (s.reg off) hi lo v)

/-- Add to a 32-bit counter, which saturates (R66 and its like). -/
def State.count (s : State) (off n : Nat) : State := s.setReg off (satAdd 0xFFFFFFFF (s.reg off) n)

/-- Add to a 64-bit count held in a pair, which saturates (R309). -/
def State.count64 (s : State) (off n : Nat) : State :=
  let v := satAdd (2 ^ 64 - 1) (s.reg off + 2 ^ 32 * s.reg (off + 4)) n
  (s.setReg off (v % 2 ^ 32)).setReg (off + 4) (v / 2 ^ 32)

end Sys2Proof.Machine
end

