-- ==== Sys2Proof/Machine/Ops.lean ====
section
/-!
DEFINITION. Machine/Ops.lean: the operations that every family shares: time, free values, fault messages, rings and replies,
the taking and judging of command packets, carve-outs and tenant grants.
-/
namespace Sys2Proof.Machine

/-! ### Time, identity, output -/

/-- Later than the present time, or the present time: an event that carries an instant moves system time forward to it. -/
def State.at_ (s : State) (t : Nat) : State := { s with stk := { s.stk with time := max s.stk.time t } }

/-- The device's ID (R2, R32): harness [13:5], member [4:0]. -/
def State.me (s : State) : DeviceId := BitVec.ofNat 16 (s.reg Reg.glbDeviceId % 2 ^ 14)

/-- GLB_DEVICE_ID.VALID. -/
def State.idValid (s : State) : Bool := s.flag Reg.glbDeviceId 31

/-- The member number of a device ID (R2). -/
def member (d : DeviceId) : Nat := d.toNat % 32

/-- The harness number of a device ID (R2). -/
def harness (d : DeviceId) : Nat := d.toNat / 32 % 512

/-- Send something. -/
def State.emit (s : State) (o : Out) : State := { s with out := s.out ++ [o] }

/-- The next free value (log entry 1): a number that nothing constrains. -/
def State.free (s : State) : Nat × State := (Config.freeValue s.freeCtr, { s with freeCtr := s.freeCtr + 1 })

/-- The instant at which stroke n begins: E + (n − B) × P (R47). -/
def StrokeCfg.boundary (c : StrokeCfg) (n : Nat) : Nat := c.epoch + (n - c.base) * (c.periodUs * 1000)

/-- A phase point of stroke n: in 1/256 of the period, rounded down to a whole nanosecond (R48). -/
def StrokeCfg.point (c : StrokeCfg) (n p : Nat) : Nat := c.boundary n + p * (c.periodUs * 1000) / 256

/-- The stroke in which an instant falls: B + floor((t − E) / P) (R47). -/
def StrokeCfg.strokeAt (c : StrokeCfg) (t : Nat) : Nat :=
  if c.periodUs = 0 then c.base else c.base + (t - c.epoch) / (c.periodUs * 1000)

/-- n strokes as a time (R5): n times the period; 0 while strokes do not run. -/
def State.strokes (s : State) (n : Nat) : Nat := if s.stk.running then n * (s.stk.cfg.periodUs * 1000) else 0

/-- The current stroke as records show it: 0 while strokes do not run (R61). -/
def State.strokeNow (s : State) : Nat := if s.stk.running then s.stk.stroke else 0

/-! ### Faults (15) -/

/-- TIME of a message (R471). -/
def State.faultTime (s : State) : BitVec 20 :=
  if s.stk.running then
    BitVec.ofNat 20 (min 0xFFFFF ((s.stk.time - s.stk.cfg.boundary s.stk.stroke) / 128))
  else BitVec.ofNat 20 (bits s.stk.time 26 7)

/-- A fault without tag, status or retry. -/
def fault (source kind : Nat) (level : Fin 4) (addr : Nat) : FaultSpec :=
  { source := BitVec.ofNat 12 source, kind := BitVec.ofNat 12 kind, level := level, addr := BitVec.ofNat 56 addr,
    tag := .none, status := .ok, retried := false, transient := false }

/-- A unit posts a fault into its outbox (R484): a level 0 message that finds four waiting is dropped and counted, a message of
a higher level is kept. -/
def State.post (s : State) (f : FaultSpec) : State :=
  let q := agetD s.blt.outbox f.source.toNat []
  if f.level = 0 ∧ 4 ≤ q.length then s.count Reg.bltCntDrop 1
  else
    { s with blt := { s.blt with
        outbox := aput s.blt.outbox f.source.toNat (q ++ [{ fault := f, time := s.faultTime }]) } }

/-- Post a level 0 note. -/
def State.note (s : State) (source kind addr : Nat) : State := s.post (fault source kind 0 addr)

/-- The PCIe unit's note on a BAR0 access (R6, R28): kind ACCESS. -/
def State.accessNote (s : State) (off : Nat) : State := s.note 0x3E0 0x001 off

/-- The note on a write that a field map drops (R545): kind WRITE_DROPPED. -/
def State.droppedNote (s : State) (off : Nat) : State := s.note 0x3E0 0x002 off

/-- A transient (R479): a level 0 message of kind TRANSIENT with the ADDR and tag of the failure; BLT_CNT_TRANSIENT counts it. -/
def State.transient (s : State) (f : FaultSpec) : State :=
  (s.count Reg.bltCntTransient 1).post { f with kind := 0x502#12, level := 0, transient := true, status := .ok }

/-- The KV context index of an owned satchel's table slot (R159, log entry 5). -/
def ctxOfSlot (slot : Nat) : Nat := slot

/-- The KV context index of a satellite (log entry 5). -/
def ctxOfSatellite (k : Nat) : Nat := 2 ^ 22 + k

/-! ### Host memory and rings (R455 to R461) -/

/-- Where a function's bus address stands in `host.mem`. -/
def hostKey (fn addr : Nat) : Nat := fn * 2 ^ 64 + addr % 2 ^ 64

/-- Write bytes to host memory through a function. -/
def State.hostWrite (s : State) (fn addr : Nat) (l : List Byte) : State :=
  { s with host := { s.host with mem := memWrite s.host.mem (hostKey fn addr) l } }

/-- The number of a ring kind (R455). -/
def RingKind.code : RingKind → Nat
  | .reply => 0 | .event => 1 | .stream => 2

/-- The key of a ring: function, kind, index. -/
def ringKey (fn : Nat) (k : RingKind) (index : Nat) : Nat := (fn * 4 + k.code) * 4096 + index

/-- The function of a ring key. -/
def ringFn (key : Nat) : Nat := key / 16384

/-- The byte that holds PHASE (R456). -/
def RingKind.phaseByte : RingKind → Nat
  | .reply => 0x03 | .event => 0x02 | .stream => 0x0F

/-- The kind of a ring key. -/
def ringKind (key : Nat) : RingKind :=
  match key / 4096 % 4 with
  | 0 => .reply
  | 1 => .event
  | _ => .stream

/-- Replace the n-th byte of a record. -/
def setByte (l : List Byte) (n : Nat) (f : Byte → Byte) : List Byte := l.modify n f

/-- Records in a ring that software has not consumed. -/
def Ring.used (r : Ring) : Nat := (r.prod - r.cons).toNat

/-- A ring has room for n more records. -/
def Ring.room (r : Ring) (n : Nat) : Bool := r.used + r.backlog.length + n ≤ r.entries

/-- An MSI-X message (R457): a masked vector sets its pending bit instead. -/
def State.msix (s : State) (fn vector : Nat) : State :=
  if vector = 0xFFFF then s
  else if (afind s.host.masked (fn * 2048 + vector)).isSome then
    { s with host := { s.host with pba := aput s.host.pba (fn * 2048 + vector) () } }
  else s.emit (.msix fn vector)

/-- Write one record into a ring's next place with PHASE, then PROD, and signal under R457. -/
def State.writeRecord (s : State) (key : Nat) (r : Ring) (rec : List Byte) : State :=
  let fn := ringFn key
  let phase : Bool := r.prod.toNat / r.entries % 2 == 0
  let rec1 := setByte rec (ringKind key).phaseByte (fun b => if phase then b ||| 0x80#8 else b)
  let s1 := s.hostWrite fn (r.base + 64 * (r.prod.toNat % r.entries)) rec1
  let s2 := s1.hostWrite fn (r.ctrl + 4) (leBytes 4 (r.prod + 1).toNat)
  let n := r.unsignalled + 1
  let fire : Bool := r.intDelay == 0 || r.intRecords ≤ n
  let s3 := { s2 with cmd := { s2.cmd with
    rings := aput s2.cmd.rings key { r with prod := r.prod + 1, unsignalled := if fire then 0 else n } } }
  if fire then s3.msix fn r.vector else s3

/-- The backlog that a ring of a kind may hold (R460, R461). -/
def RingKind.backlogMax : RingKind → Nat
  | .reply => 65536 | .event => 4096 | .stream => 65536

/-- A function that no PCIe function carries. -/
def Fn.none : Fn := { enabled := false, draining := false, pend := false }

/-- A PCIe function: PF0 is 0, VF p + 1 is p + 1. -/
def State.fn (s : State) (k : Nat) : Fn := s.host.fns.getD k Fn.none

/-- Change a function. -/
def State.modFn (s : State) (k : Nat) (f : Fn → Fn) : State :=
  { s with host := { s.host with fns := s.host.fns.modify k f } }

/-- Put a record into a ring, or into its backlog when the ring is full or its function drains (R495); records keep their order. An event beyond the backlog
is dropped and counted in the ring's `lost` (R461). A record for a ring that does not exist is dropped: a stream record is
counted in CMD_CNT_DROP and reported at the next boundary (R460). -/
def State.putRecord (s : State) (key : Nat) (rec : List Byte) : State :=
  match afind s.cmd.rings key with
  | none =>
    if ringKind key = .stream then
      let s1 := s.count Reg.cmdCntDrop 1
      { s1 with cmd := { s1.cmd with drops := aput s1.cmd.drops key (agetD s1.cmd.drops key 0 + 1) } }
    else s
  | some r =>
    if r.backlog.isEmpty && r.room 1 && !(s.fn (ringFn key)).draining then s.writeRecord key r rec
    else if ringKind key = .event && RingKind.event.backlogMax ≤ r.backlog.length then
      { s with cmd := { s.cmd with rings := aput s.cmd.rings key { r with lost := r.lost + 1 } } }
    else { s with cmd := { s.cmd with rings := aput s.cmd.rings key { r with backlog := r.backlog ++ [rec] } } }

/-- An event record of R461 with PHASE clear. -/
def eventRecord (kind : Nat) (st : Status) (part : Nat) (seq : BitVec 32) (stroke : Nat) (dev : DeviceId)
    (body : List Byte) : List Byte :=
  [BitVec.ofNat 8 kind, BitVec.ofNat 8 st.code, 0#8, BitVec.ofNat 8 part] ++ leBytes 4 seq.toNat ++ leBytes 6 stroke ++
    leBytes 2 dev.toNat ++ padTo 48 body

/-- Post an event on a function's event ring (R461). -/
def State.eventAt (s : State) (stroke fn kind : Nat) (st : Status) (part : Nat) (body : List Byte) : State :=
  let key := ringKey fn .event 0
  match afind s.cmd.rings key with
  | none => s
  | some r =>
    let s1 := { s with cmd := { s.cmd with rings := aput s.cmd.rings key { r with seq := r.seq + 1 } } }
    s1.putRecord key (eventRecord kind st part r.seq stroke s.me body)

/-- An event posted in the current stroke. -/
def State.event (s : State) (fn kind : Nat) (st : Status) (part : Nat) (body : List Byte) : State :=
  s.eventAt s.strokeNow fn kind st part body

/-- The function of a partition: VF p + 1 (R490). -/
def partFn (p : Nat) : Nat := p + 1

/-- The outcome of a partition opcode (event kind 1 of R461). -/
def State.partEvent (s : State) (part : Nat) (op : Nat) (tag : Word) (st : Status) : State :=
  s.event 0 1 st part (leBytes 2 op ++ zeros 2 ++ leBytes 4 tag.toNat)

/-! ### Replies (R458, R462) -/

/-- A reply record with PHASE clear (R458). -/
def replyRecord (op : Nat) (st : Status) (final remote : Bool) (tag : Word) (consumed : Nat) (dev : DeviceId)
    (result : List Byte) : List Byte :=
  leBytes 2 op ++ [BitVec.ofNat 8 st.code, BitVec.ofNat 8 (64 * b2n final + 32 * b2n remote)] ++ leBytes 4 tag.toNat ++
    leBytes 4 consumed ++ leBytes 2 dev.toNat ++ zeros 2 ++ padTo 48 result

/-- The ring key of a window's reply ring: PF0 window w, or the one window of partition p's function. -/
def windowRing (w : Nat) : Nat := if w < 16 then ringKey 0 .reply w else ringKey (partFn (w - 16)) .reply 0

/-- The function that a window belongs to (R443). -/
def windowFn (w : Nat) : Nat := if w < 16 then 0 else partFn (w - 16)

/-- The window's state. -/
def State.window (s : State) (w : Nat) : Window := s.cmd.windows.getD w Window.reset

/-- Change a window. -/
def State.modWindow (s : State) (w : Nat) (f : Window → Window) : State :=
  { s with cmd := { s.cmd with windows := s.cmd.windows.modify w f } }

/-- Write a reply to a packet (R458): into its window's ring, back over the fabric, or to the management controller. A final
reply returns the room that the packet still held. -/
def State.answer (s : State) (r : ReplyTo) (st : Status) (final : Bool) (result : List Byte) : State :=
  match r.origin with
  | .window w =>
    let s1 := s.putRecord (windowRing w.val) (replyRecord r.opcode st final false r.tag r.consumed s.me result)
    s1.modWindow w.val fun x => { x with resv := x.resv - (if final then r.left else 1) }
  | .fabric src _ _ win slot =>
    s.emit (.remoteReply src win slot (replyRecord r.opcode st final true r.tag r.consumed s.me result))
  | .bmc => s.emit (.bmc (replyRecord r.opcode st final false r.tag r.consumed s.me result))

/-- A packet's one reply. -/
def State.done (s : State) (r : ReplyTo) (st : Status) : State := s.answer r st true []

/-- ACCEPTED, with a final reply to follow: one slot stays reserved. -/
def State.accepted (s : State) (r : ReplyTo) : State × ReplyTo :=
  (s.answer r .accepted false [], { r with left := r.left - 1 })

/-! ### Taking a packet (R444 to R451, R465) -/

/-- What a command's own rules say of its packet: opcode, how many replies it may need, whether partition windows may send it,
whether it is marked T, its parameter bytes, its reserved fields, its ..._ADDR fields, and whether it may not be forwarded. -/
structure PktReq where
  op : Nat
  replies : Nat
  vf : Bool
  tenant : Bool
  params : Nat
  rsv : Nat
  addrs : Nat
  localOnly : Bool
  deriving DecidableEq, Repr

/-- LENGTH is malformed for its window (R446). -/
def badLength (cons len : Nat) : Bool := len < 32 || len % 4 != 0 || 4194304 < len || 0xFFF000 < cons + len

/-- Where CONS stands after a packet is taken: its end rounded up to 64, or 0 at 0xFF_F000 (R445). -/
def nextCons (cons len : Nat) : Nat := if roundUp (cons + len) 64 = 0xFFF000 then 0 else roundUp (cons + len) 64

/-- A packet's authority (R443, R452): PF0's, or that of a partition. -/
def Origin.partition : Origin → Option (Fin 16)
  | .window w => if w.val < 16 then none else some ⟨(w.val - 16) % 16, Nat.mod_lt _ (by decide)⟩
  | .fabric _ true p _ _ => some p
  | .fabric _ false _ _ _ => none
  | .bmc => none

/-- A window stops with an error (R446) and says so in its reply ring where one exists. -/
def State.windowError (s : State) (w : Nat) (op : Nat) (tag : Word) (st : Status) : State :=
  let x := s.window w
  let s1 := s.modWindow w fun y => { y with state := .error, errOffset := x.cons, errCode := st.code }
  s1.putRecord (windowRing w) (replyRecord op st true false tag x.cons s.me [])

/-- Take a packet at the head of a window: whether it may be taken now, and to whom its replies go. `own`: the packet is a
RING_CREATE of the window's own reply ring, which needs no ring yet. -/
def State.takeWindow (s : State) (w : Nat) (h : Header) (op replies : Nat) (own : Bool) : State × Option ReplyTo :=
  let x := s.window w
  if x.state ≠ .enabled ∨ (s.fn (windowFn w)).enabled = false ∨ (s.fn (windowFn w)).draining = true
  then (s, none)
  else if badLength x.cons h.length then (s.windowError w op h.tag .badLength, none)
  else
    match afind s.cmd.rings (windowRing w) with
    | none =>
      if own then
        let c := nextCons x.cons h.length
        (((s.modWindow w fun y => { y with cons := c, taken := y.taken + 1, resv := y.resv + replies }).count
          Reg.cmdCntTaken 1), some { origin := h.origin, opcode := op, tag := h.tag, consumed := c, left := replies })
      else (s.windowError w op h.tag .badOpcode, none)
    | some r =>
      if (h.fence ∧ x.resv ≠ 0) ∨ ¬ r.room (x.resv + replies) then (s, none)
      else
        let c := nextCons x.cons h.length
        (((s.modWindow w fun y => { y with cons := c, taken := y.taken + 1, resv := y.resv + replies }).count
          Reg.cmdCntTaken 1), some { origin := h.origin, opcode := op, tag := h.tag, consumed := c, left := replies })

/-- Take a packet (R444, R458, R463): a window's packet by `takeWindow`; a fabric packet where the row COMMAND accepted it; a
management controller's DEVICE_SHUTDOWN at once (R507). While a live activation pauses command service (R518), a taken packet is held, and is
served when it is presented after the pause. -/
def State.take (s : State) (h : Header) (op replies : Nat) (own : Bool) : State × Option ReplyTo :=
  let s0 := s.at_ h.now
  match s0.cmd.held.find? (fun r => r.origin == h.origin && r.opcode == op && r.tag == h.tag) with
  | some r =>
    if s0.sec.activating.isSome then (s0, none)
    else ({ s0 with cmd := { s0.cmd with held := s0.cmd.held.erase r } }, some r)
  | none =>
    let (s1, got) : State × Option ReplyTo :=
      match h.origin with
      | .window w => s0.takeWindow w.val h op replies own
      | .fabric .. =>
        let a : AcceptedCmd := { origin := h.origin, opcode := op, tag := h.tag }
        if s0.cmd.accepted.contains a then
          ({ s0 with cmd := { s0.cmd with accepted := s0.cmd.accepted.erase a } },
            some { origin := h.origin, opcode := op, tag := h.tag, consumed := 0, left := replies })
        else (s0, none)
      | .bmc =>
        if op = 0x0006 then (s0, some { origin := .bmc, opcode := op, tag := h.tag, consumed := 0, left := replies }) else (s0, none)
    match got with
    | none => (s1, none)
    | some r =>
      if s1.sec.activating.isSome then ({ s1 with cmd := { s1.cmd with held := s1.cmd.held ++ [r] } }, none)
      else (s1, some r)

/-- The key of a tenant grant (R449). -/
def grantKey (p : Nat) (t : BitVec 16) : Nat := p * 65536 + t.toNat

/-- A tenant is granted to a partition (R449). -/
def State.granted (s : State) (p : Nat) (t : BitVec 16) : Bool := (afind s.cmd.grants (grantKey p t)).isSome

/-- The packet came over the fabric (R462). -/
def Origin.isFabric : Origin → Bool
  | .fabric .. => true
  | _ => false

/-- The packet names another device, which its origin has to forward it to (R449, R462). -/
def State.elsewhere (s : State) (h : Header) : Bool :=
  h.destDev != 0xFFFF#16 && h.destDev != s.me && !h.origin.isFabric

/-- A SATCHEL_QUERY or SATCHEL_RECOVER that its device forwarded to the satchel's registrar: DEST_DEV is still 0xFFFF (R99, R454; log
entry 29). -/
def registrarBound (op : Nat) (h : Header) : Bool := h.destDev == 0xFFFF#16 && (op == 0x0305 || op == 0x0306)

/-- Why a packet from this origin has no authority for its opcode (R449, R452). -/
def State.unauthorised (s : State) (q : PktReq) (h : Header) : Bool :=
  match h.origin.partition with
  | none => false
  | some p =>
    !q.vf || (!s.elsewhere h && h.part != p) ||
      (q.tenant && !s.granted p.val h.tenant && !(h.origin.isFabric && registrarBound q.op h))

/-- Opcodes that a device with a level 3 fault still serves (R478). -/
def servedInFault (op : Nat) : Bool := [0x0001, 0x0801, 0x0900, 0x0006].contains op

/-- Opcodes that a STOPPED device serves (R519); a second DEVICE_SHUTDOWN is answered ALREADY_DONE. -/
def servedStopped (op : Nat) : Bool := [0x0001, 0x0801, 0x0900, 0x0006].contains op

/-- LENGTH agrees with the parameters (R451). -/
def lengthOk (q : PktReq) (h : Header) : Bool := h.length == 32 + roundUp q.params 4

/-- Forward a packet to another device (R462): the origin's own refusals, else a remote slot and a COMMAND. -/
def State.forward (s : State) (q : PktReq) (h : Header) (r : ReplyTo) : State :=
  if q.localOnly then s.done r .badOpcode
  else if (if h.cls = 0 then 460 else 4080) < h.length then s.done r .badLength
  else if q.addrs ≠ 0 then s.done r .badField
  else
    match h.origin with
    | .window w =>
      let k := (leastFree (s.cmd.slots.map fun p => p.1) (s.cmd.slots.length + 1) 0).getD 0
      let s1 := { s with cmd := { s.cmd with
        slots := aput s.cmd.slots k { window := w, reply := r, dest := h.destDev, sentAt := s.stk.time } } }
      s1.emit (.remoteCommand h.destDev h.cls h.part (b2n (16 ≤ w.val)) w.val k q.op h.tag h.tenant h.params)
    | _ => s.done r .badField

/-- Judge a packet that was taken, before its command's own checks (log entry 6 gives the order): a level 3 fault, a stopped
device, authority, another device's packet, length, reserved fields. `none`: the command's own rules decide. -/
def State.judge (s : State) (q : PktReq) (h : Header) : Option Status :=
  if s.blt.l3 && !servedInFault q.op then some .deviceFault
  else if s.sec.run = .stopped && !servedStopped q.op then some .partitionBusy
  else if s.unauthorised q h then some .protection
  else if !lengthOk q h then some .badLength
  else if h.hrsv ≠ 0 ∨ (h.destDev ≠ 0xFFFF ∧ 2 ^ 14 ≤ h.destDev.toNat) then some .badField
  else if s.elsewhere h then none
  else if q.rsv ≠ 0 then some .badField
  else none

/-- Take a packet, judge it, forward it where it names another device, or serve it by its command's own rules. -/
def State.serve (s : State) (q : PktReq) (h : Header) (own : Bool) (body : ReplyTo → State → State) : State :=
  match s.take h q.op q.replies own with
  | (s1, none) => s1
  | (s1, some r) =>
    match s1.judge q h with
    | some st => s1.done r st
    | none =>
      if s1.elsewhere h then s1.forward q h r else body r s1

/-- The local packet's own partition: a partition's packets act on that partition; PF0's name it (R449, R452). -/
def Header.target (h : Header) : Nat := h.part.val

/-! ### Carve-outs of the device pool (R270) -/

/-- MEM_DEVPOOL in bytes. -/
def State.poolBytes (s : State) : Nat := s.fld Reg.memDevpool 11 0 * 2 ^ 30

/-- A range meets no carve-out. -/
def carveFree (l : List Carve) (base size : Nat) : Bool :=
  l.all fun c => base + size ≤ c.base || c.base + c.size ≤ base

/-- Candidate places for a carve-out: the pool's start and the end of every carve-out. -/
def carvePlaces (l : List Carve) : List Nat := 0 :: (l.map fun c => c.base + c.size)

/-- The lowest place at which a carve-out fits (log entry 7). -/
def carvePlace (l : List Carve) (pool size : Nat) : Option Nat :=
  ((carvePlaces l).filter fun b => decide (b + size ≤ pool) && carveFree l b size).min?

/-- Carve a range from the device pool, zeroed (R498), for an owner. -/
def State.carve (s : State) (owner size : Nat) : Option (Nat × State) :=
  if s.memory.t1Ready then
    match carvePlace s.memory.carves s.poolBytes size with
    | none => none
    | some b => some (b, { s with memory := { s.memory with
        carves := s.memory.carves ++ [{ owner := owner, base := b, size := size }] } })
  else none

/-- Give back every carve-out of an owner; its bytes read as zero when carved again. -/
def State.uncarve (s : State) (owner : Nat) : State :=
  { s with memory := { s.memory with
      carves := s.memory.carves.filter fun c => c.owner != owner,
      mem := (s.memory.carves.filter fun c => c.owner == owner).foldl (fun m c => memZero m c.base c.size) s.memory.mem } }

/-! ### Partitions -/

/-- A partition. -/
def State.part (s : State) (p : Nat) : Part := s.pln.parts.getD p Part.reset

/-- Change a partition. -/
def State.modPart (s : State) (p : Nat) (f : Part → Part) : State :=
  { s with pln := { s.pln with parts := s.pln.parts.modify p f } }

/-- The partition is READY (R222). -/
def State.ready (s : State) (p : Nat) : Bool := decide ((s.part p).state = .ready)

end Sys2Proof.Machine
end

