-- ==== Sys2Proof/Machine/Objects.lean ====
section
/-!
DEFINITION. Machine/Objects.lean: satchel IDs and registrars (R2, R68, R76), and the objects that the device keeps in T1 for a satchel: its
descriptor and stop-matcher block, its token log and its page table, with their bytes and their places (R71, R72, R112, R113, R116,
R143, R144, R207, R274).
-/
namespace Sys2Proof.Machine

/-! ### IDs and registrars (R2, R68, R76) -/

/-- Origin device of an ID. -/
def satOrigin (id : SatchelId) : DeviceId := BitVec.ofNat 16 (id.toNat / 2 ^ 48)

/-- Local index of an ID. -/
def satIndex (id : SatchelId) : Nat := id.toNat / 2 ^ 26 % 2 ^ 22

/-- Generation of an ID. -/
def satGen (id : SatchelId) : Nat := id.toNat % 2 ^ 26

/-- An ID from its parts. -/
def mkSatchelId (d : DeviceId) (index gen : Nat) : SatchelId := BitVec.ofNat 64 (d.toNat * 2 ^ 48 + index * 2 ^ 26 + gen)

/-- Where the walk of R76 starts. -/
def registrarStart (id : SatchelId) : Nat :=
  let v := id.toNat
  let h := (v % 2 ^ 16) ^^^ (v / 2 ^ 16 % 2 ^ 16) ^^^ (v / 2 ^ 32 % 2 ^ 16) ^^^ (v / 2 ^ 48)
  h * 0x9E37 % 2 ^ 16 / 2 ^ 11

/-- The registrar's member number under a live mask (R76). -/
def registrarMember (id : SatchelId) (live : Nat) : Option Nat :=
  ((List.range 32).map fun k => (registrarStart id + k) % 32).find? fun m => bitAt live m

/-- The device's copy of a harness's live mask: its own harness's, with itself; of another harness every member but those whose last
notice said dead (R76, R367; log entry 20). -/
def State.liveMask (s : State) (h : Nat) : Nat :=
  if h = harness s.me then s.sat.live.toNat ||| 2 ^ member s.me
  else maskOf ((List.range 32).filter fun m => !s.lnk.lost.contains (BitVec.ofNat 16 (32 * h + m)))

/-- The registrar of a satchel under this device's masks (R76). -/
def State.registrar (s : State) (id : SatchelId) : Option DeviceId :=
  let h := harness (satOrigin id)
  (registrarMember id (s.liveMask h)).map fun m => BitVec.ofNat 16 (h * 32 + m)

/-- The registrar as a record shows it: 0xFFFF where there is none. -/
def State.registrarField (s : State) (id : SatchelId) : DeviceId := (s.registrar id).getD 0xFFFF#16

/-! ### Rows of a partition's model (R138 to R144) -/

/-- Head groups that this shard holds (R138). -/
def Part.groups (q : Part) : Nat :=
  match q.image with
  | some im => im.kv.kvHeads / (2 ^ im.kv.log2G * im.kv.shards)
  | none => 0

/-- Frames of a row (R139); 0 without a model. -/
def Part.rowFrames (q : Part) : Nat :=
  match q.image with
  | some im => im.kv.layers * q.groups
  | none => 0

/-- Positions of a page (R137). -/
def Part.positions (q : Part) : Nat :=
  match q.image with
  | some im => 2 ^ im.kv.log2P
  | none => 1

/-- Context length (R110, R137); none without a model. -/
def Part.contextLen (q : Part) : Option Nat := q.image.map fun im => im.kv.maxContext

/-- A page-table entry's word (R144). -/
def Row.word (r : Row) : Nat := r.kind.code * 2 ^ 61 + r.fill % 512 * 2 ^ 52 + r.loc % 2 ^ 32

/-! ### Places in T1 (R71, R143, R274) -/

/-- No place. -/
def Place.none : Place := { obj := 0, log := 0, logCap := 0, table := 0, tableCap := 0, rstate := 0, rstateLen := 0 }

/-- Where the objects of the device window begin (R274). -/
def objectWindow : Nat := 0xF4000000000000

/-- The VA of a place in T1: an object stands at its own T1 address in the window (log entry 143). -/
def objectVa (a : Nat) : Nat := objectWindow + a

/-- The owner of an object's carve-out: k is 0 for the descriptor and the stop block, 1 for the token log, 2 for the page table, 3 for
recurrent state. `ctx` is the satchel's table slot, or 2^22 and more for a satellite. -/
def objOwner (ctx k : Nat) : Nat := 2 ^ 20 + ctx * 8 + k

/-- Carve an object anew: the old one is given back once the new one stands (R143). -/
def State.recarve (s : State) (owner size : Nat) : Option (Nat × State) :=
  (s.carve owner size).map fun r =>
    (r.1, { r.2 with memory := { r.2.memory with carves := r.2.memory.carves.filter fun c => c.owner != owner || c.base == r.1 } })

/-- Give a satchel its descriptor and stop block, where it has none yet. -/
def State.placeObj (s : State) (ctx : Nat) (pl : Place) : Option (Place × State) :=
  if pl.tableCap ≠ 0 then some (pl, s) else (s.carve (objOwner ctx 0) 4096).map fun r => ({ pl with obj := r.1 }, r.2)

/-- Make room for so many tokens in the log: it grows in 4 KiB steps (R71). -/
def State.placeLog (s : State) (ctx : Nat) (pl : Place) (tokens : Nat) : Option (Place × State) :=
  if tokens ≤ pl.logCap then some (pl, s)
  else (s.recarve (objOwner ctx 1) (roundUp (4 * tokens) 4096)).map fun r =>
    ({ pl with log := r.1, logCap := roundUp (4 * tokens) 4096 / 4 }, r.2)

/-- Make room for so many entries in the page table: it grows in 4 KiB steps (R143). -/
def State.placeTable (s : State) (ctx : Nat) (pl : Place) (rows : Nat) : Option (Place × State) :=
  if rows ≤ pl.tableCap then some (pl, s)
  else (s.recarve (objOwner ctx 2) (roundUp (16 + 8 * rows) 4096)).map fun r =>
    ({ pl with table := r.1, tableCap := (roundUp (16 + 8 * rows) 4096 - 16) / 8 }, r.2)

/-- Give a satchel of a model with recurrent state its blocks (R71). -/
def State.placeState (s : State) (ctx : Nat) (pl : Place) (bytes : Nat) : Option (Place × State) :=
  if bytes = 0 ∨ (s.memory.carves.any fun c => c.owner == objOwner ctx 3) = true then some ({ pl with rstateLen := bytes }, s)
  else (s.recarve (objOwner ctx 3) (roundUp bytes 4096)).map fun r => ({ pl with rstate := r.1, rstateLen := bytes }, r.2)

/-- Places for a satchel with so many tokens, rows and bytes of recurrent state: all, or none. -/
def State.place (s : State) (ctx : Nat) (pl : Place) (tokens rows bytes : Nat) : Option (Place × State) :=
  (s.placeObj ctx pl).bind fun a => (a.2.placeLog ctx a.1 tokens).bind fun b => (b.2.placeTable ctx b.1 (max rows 1)).bind fun c =>
    c.2.placeState ctx c.1 bytes

/-- Give every place of a satchel back. -/
def State.unplace (s : State) (ctx : Nat) : State :=
  (List.range 4).foldl (fun a k => a.uncarve (objOwner ctx k)) s

/-- Bytes of recurrent state per satchel of a partition's model. -/
def Part.stateBytes (q : Part) : Nat := match q.image with | some im => im.stateBytes | none => 0

/-! ### The bytes of the objects -/

/-- FLAGS of a descriptor (R72). -/
def Sat.flags (x : Sat) : Nat :=
  128 * b2n x.migrating + 64 * b2n x.frozen + 32 * b2n x.cancelLatched + 16 * b2n x.recovered + 8 * b2n x.autoFree +
    4 * b2n x.session + 2 * b2n x.autoRecover + b2n x.noSubst

/-- The sampler state's 32 bytes (R207). -/
def Sampler.bytes (q : Sampler) : List Byte :=
  leBytes 4 q.temp.toNat ++ leBytes 4 q.topP.toNat ++ leBytes 2 q.repPen.toNat ++ leBytes 2 q.presPen.toNat ++
    leBytes 2 q.freqPen.toNat ++ leBytes 2 q.topK ++ leBytes 8 q.seed.toNat ++ leBytes 2 q.penWindow ++
    leBytes 1 (2 * b2n q.penPrompt + b2n q.maskEn) ++ zeros 1 ++ leBytes 4 q.maskSlot

/-- WAIT of a descriptor (R116). -/
def Sat.waitField (x : Sat) : Nat :=
  x.waitKind * 2 ^ 60 + (if x.waitKind = 0 then 15 else x.waitMatcher) * 2 ^ 56 + x.waitExpiry * 2 ^ 54 + x.waitStroke % 2 ^ 48

/-- The descriptor of a satchel (R71). -/
def State.descriptor (s : State) (x : Sat) : List Byte :=
  leBytes 8 x.id.toNat ++ leBytes 2 x.tenant.toNat ++ leBytes 1 (16 * x.cls.val + x.part.val) ++ leBytes 1 x.state.code ++
    leBytes 4 x.flags ++ leBytes 4 x.epoch ++ leBytes 2 s.me.toNat ++ leBytes 2 (s.registrarField x.id).toNat ++
    leBytes 2 x.model.toNat ++ leBytes 2 x.adapter.toNat ++ leBytes 4 x.adapterVer.toNat ++ leBytes 4 x.log.length ++
    leBytes 4 x.promptLen ++ leBytes 4 x.mirrorLen ++ leBytes 4 x.maxNew ++ leBytes 8 (objectVa x.place.log) ++ leBytes 4 x.place.logCap ++
    leBytes 4 x.kvPos ++ leBytes 8 (objectVa x.place.table) ++
    leBytes 8 (if x.place.rstate = 0 then 0 else objectVa x.place.rstate) ++ x.sampler.bytes ++ leBytes 8 (objectVa (x.place.obj + 256)) ++
    leBytes 8 x.waitField ++ leBytes 4 x.tokensIn ++ leBytes 4 x.tokensOut ++ leBytes 4 x.subst ++ leBytes 2 x.defers ++ zeros 2 ++
    leBytes 6 x.lastStroke ++ zeros 2 ++ leBytes 6 x.admitStroke ++ zeros 2 ++
    leBytes 8 (x.cookie.toNat * 65536 + 32768 * b2n x.onPf0 + x.ring.val) ++ leBytes 2 x.lodge.toNat ++ zeros 86

/-- KIND of a stop-matcher entry (R113). -/
def StopKind.code : StopKind → Nat
  | .off => 0 | .seq => 1 | .span => 2 | .bad => 3

/-- A stop-matcher entry's 256 bytes (R113). -/
def StopEntry.bytes (e : StopEntry) : List Byte :=
  let toks (l : List Token) : List Byte := padTo 64 (l.map fun t => leBytes 4 t.toNat).flatten
  leBytes 1 e.kind.code ++ leBytes 1 e.action ++ leBytes 1 e.waitKind ++ leBytes 1 e.onExpiry ++ leBytes 1 e.openLen ++ leBytes 1 e.closeLen ++
    leBytes 1 e.wakeLen ++ zeros 1 ++ leBytes 4 e.timeout ++ leBytes 4 (e.openAt.getD 0xFFFFFFFF) ++ toks e.opn ++ toks e.close ++ toks e.wake ++
    zeros 48

/-- The stop-matcher block's 3,136 bytes (R112). -/
def StopBlock.bytes (b : StopBlock) : List Byte :=
  padTo 3136 (leBytes 1 b.count ++ zeros 3 ++ leBytes 4 b.spanLimit ++ leBytes 4 b.waits ++ zeros 52 ++ (b.entries.map StopEntry.bytes).flatten)

/-- A page table's bytes (R143): the header, then one entry per row. -/
def tableBytes (cap rowFrames : Nat) (rows : List Row) : List Byte :=
  leBytes 4 cap ++ leBytes 4 rows.length ++ leBytes 4 rowFrames ++ zeros 4 ++ (rows.map fun r => leBytes 8 r.word).flatten

/-- ROWS_CAP of a page table (R143): its entries, at most MAX_CONTEXT / P. -/
def Part.rowsCap (q : Part) (pl : Place) : Nat := min pl.tableCap (match q.contextLen with | some n => n / q.positions | none => pl.tableCap)

/-- The objects of a satchel: where each stands, how long it is, and its bytes. -/
def State.objectsOf (s : State) (x : Sat) : List (Nat × Nat × List Byte) :=
  let q := s.part x.part.val
  [(x.place.obj, 4096, s.descriptor x ++ x.stop.bytes), (x.place.log, 4 * x.place.logCap, (x.log.map fun t => leBytes 4 t.toNat).flatten),
    (x.place.table, 16 + 8 * x.place.tableCap, tableBytes (q.rowsCap x.place) q.rowFrames x.rows)]

/-- The objects of a satellite (R145): its page table. -/
def State.objectsOfSatellite (s : State) (y : Satellite) : List (Nat × Nat × List Byte) :=
  let q := s.part y.part.val
  [(y.place.table, 16 + 8 * y.place.tableCap, tableBytes (q.rowsCap y.place) q.rowFrames y.rows)]

/-- The object that covers a place of the window, among those of a partition's satchels (R274). -/
def State.objectAt (s : State) (p a : Nat) : Option (Nat × Nat × List Byte) :=
  let own := ((avals s.sat.sats).filter fun x => x.part.val == p).flatMap s.objectsOf
  let sub := ((avals s.sat.satellites).filter fun y => y.part.val == p).flatMap s.objectsOfSatellite
  (own ++ sub).find? fun o => decide (o.1 ≤ a ∧ a < o.1 + o.2.1)

/-- n bytes of the objects of the device's satchels from a place on: an object's bytes beyond what it holds are zero. -/
def State.objectRead (s : State) (a n : Nat) : List Byte :=
  (List.range n).map fun i =>
    match (List.range 16).findSome? fun p => s.objectAt p (a + i) with
    | some o => o.2.2.getD (a + i - o.1) 0
    | none => 0

/-! ### Custody messages (R91) -/

/-- The tenant and the partition of a satchel as this device knows them: as its owner, as a receiver, or from its record. -/
def State.custodyVia (s : State) (id : SatchelId) : BitVec 16 × Fin 16 :=
  match s.sat.sats.find? fun e => e.2.id == id with
  | some e => (e.2.tenant, e.2.part)
  | none =>
    match s.sat.incoming.find? fun i => i.id == id with
    | some i => (i.image.tenant, i.part)
    | none =>
      match afind s.sat.recs id.toNat with
      | some c => (c.tenant, c.image.part)
      | none => (0xFFFF, 0)

/-- A custody message of this device. -/
def State.cmsg (s : State) (id : SatchelId) (epoch : Nat) (peer : DeviceId) (status : Status) (state logLen arg : Nat) : CMsg :=
  { cls := 0, tenant := (s.custodyVia id).1, part := (s.custodyVia id).2, forwarded := false, rsv := 0, sender := s.me, epoch := epoch, id := id, peer := peer, status := status.code, state := state,
    logLen := logLen, arg := arg }

/-- Bytes of a payload (R92): a descriptor; logged tokens; a recovery image, that is a descriptor and a stop-matcher block, with the log. -/
def CPayload.bytes : CPayload → Nat
  | .empty => 0
  | .desc _ _ _ _ => 256
  | .tokens l => 4 * l.length
  | .image _ l => 256 + 3136 + 4 * l.length

/-- The class of a custody message (R91): 0 up to 512 bytes in all, the partition's bulk class above. -/
def State.custodyClass (s : State) (part : Fin 16) (p : CPayload) : Fin 8 :=
  if 32 + p.bytes ≤ 512 then 0 else Fin.ofNat 8 (s.fld (Reg.shpPCfg part.val) 2 0)

/-- Send a custody message; to this device itself it comes back as a command (log entry 21). -/
def State.sendC (s : State) (dst : DeviceId) (ty : CType) (m : CMsg) (p : CPayload) : State :=
  s.emit (.custody dst ty { m with cls := s.custodyClass m.part p } p)

/-- Send a custody message to the satchel's registrar, where it has one (R76, R77). -/
def State.toRegistrar (s : State) (ty : CType) (m : CMsg) (p : CPayload) : State :=
  match s.registrar m.id with
  | some d => s.sendC d ty m p
  | none => s

/-- The code of a custody message type (R92). -/
def CType.code : CType → Nat
  | .offer => 0x01 | .offerNote => 0x02 | .claim => 0x03 | .commit => 0x04 | .release => 0x05 | .decline => 0x06
  | .abortReq => 0x07 | .abortAns => 0x08 | .mirror => 0x09 | .mirrorAck => 0x0A | .register => 0x0B | .registerAck => 0x0C
  | .probe => 0x0D | .probeAns => 0x0E | .surrender => 0x0F | .recoverAssign => 0x10 | .recoverAns => 0x11 | .reserved n => n

end Sys2Proof.Machine
end

