-- ==== Sys2Proof/Machine/Memory.lean ====
section
/-!
DEFINITION. Machine/Memory.lean: the physical address map, two-stage translation, device windows, poison and fault records
(chapter 08), and the commands of T1, translation and moves.
-/
namespace Sys2Proof.Machine

/-! ### The physical map (R260, R263) -/

/-- GiB of a density code (R263, R292). -/
def densityGib (d : Nat) : Nat := 16 * 2 ^ d

/-- Usable T1 [GiB] (R263): 15/16 of each device of the population. -/
def MemSt.usableGib (m : MemSt) : Nat := m.population * densityGib m.density * 15 / 16

/-- What a physical address names (R260). -/
inductive Target where
  | t1 | t0 | sram
  | host (bus : Nat)
  | window (mem : Nat) (addr : Nat)
  | nothing
  deriving DecidableEq, Repr

/-- The map of R260. -/
def MemSt.target (m : MemSt) (pa : Nat) : Target :=
  if pa < 2 ^ 42 then (if m.t1Ready ∧ pa < m.usableGib * 2 ^ 30 then .t1 else .nothing)
  else if pa < 2 ^ 42 + 2 ^ 32 then (if m.t0Ready then .t0 else .nothing)
  else if pa < 2 ^ 42 + 2 ^ 32 + 2 ^ 30 then (if (pa - (2 ^ 42 + 2 ^ 32)) % 0x800000 < 0x500000 then .sram else .nothing)
  else if 2 ^ 48 ≤ pa ∧ pa < 2 ^ 49 then .host (pa % 2 ^ 48)
  else if 2 ^ 49 ≤ pa ∧ pa < 2 ^ 49 + 2 ^ 48 then .window (pa / 2 ^ 43 % 32) (pa % 2 ^ 43)
  else .nothing

/-- The channel and local byte offset of a T1 address with n = 2^b channels (R268): the XOR of all b-bit digits. -/
def xorDigits (b : Nat) : Nat → Nat → Nat
  | 0, _ => 0
  | fuel + 1, g => if g = 0 then 0 else (g % 2 ^ b) ^^^ xorDigits b fuel (g / 2 ^ b)

/-- R268. -/
def t1Place (pa n : Nat) : Nat × Nat :=
  let g := pa / 256
  let b := Nat.log2 n
  (xorDigits b 42 g, g / 2 ^ b * 256 + pa % 256)

/-- The source unit of a T1 address's channel (R475). -/
def MemSt.t1Source (m : MemSt) (pa : Nat) : Nat := 0x100 + (t1Place pa (4 * m.population)).1

/-- Some sector of a range is poisoned (R266). -/
def MemSt.poisoned (m : MemSt) (pa n : Nat) : Bool :=
  n ≠ 0 && m.poison.any fun p => pa / 64 ≤ p.1 && p.1 ≤ (pa + n - 1) / 64

/-- A write clears the poison of each sector that it covers whole (R266). -/
def MemSt.clearPoison (m : MemSt) (pa n : Nat) : MemSt :=
  { m with poison := m.poison.filter fun p => p.1 * 64 < pa || pa + n < p.1 * 64 + 64 }

/-- Write to T1, T0 or core SRAM. -/
def State.physWrite (s : State) (pa : Nat) (l : List Byte) : State :=
  { s with memory := { (s.memory.clearPoison pa l.length) with mem := memWrite s.memory.mem pa l } }

/-- n free bytes: what another device's memory holds is no state of this device (log entry 8). -/
def freeBytes (c : Nat) (n : Nat) : List Byte :=
  (List.range n).map fun i => BitVec.ofNat 8 (Config.freeValue (c + i))

/-- Where the device's own objects (descriptors, token logs, page tables) stand for a reader of the device window: the state holds them typed,
and a read gives their bytes. -/
def objectBase : Nat := 2 ^ 52

/-- Read n bytes at a physical address through function fn: local memory, host memory, another member's memory, or the device's own
objects. -/
def State.readPa (s : State) (fn pa n : Nat) : State × List Byte :=
  if objectBase ≤ pa then (s, s.objectRead (pa - objectBase) n)
  else
  match s.memory.target pa with
  | .host bus => (s, memRead s.host.mem (hostKey fn bus) n)
  | .window m a =>
    if m = member s.me then (s, memRead s.memory.mem a n)
    else ({ s with freeCtr := s.freeCtr + n }, freeBytes s.freeCtr n)
  | _ => (s, memRead s.memory.mem pa n)

/-- Write bytes at a physical address through function fn; a write to another member leaves as a window store (R276). -/
def State.writePa (s : State) (fn pa : Nat) (l : List Byte) : State :=
  match s.memory.target pa with
  | .host bus => s.hostWrite fn bus l
  | .window m a => if m = member s.me then s.physWrite a l else s.emit (.windowStore m a l)
  | _ => s.physWrite pa l

/-! ### Translation (R271 to R275) -/

/-- How a translation ends: the physical address, a fault (kind, stage, IPA), or PROTECTION; `beyond` says that R260's level 1
fault goes with it. -/
inductive Xlat where
  | pa (a : Nat)
  | bad (k : FaultKind) (stage ipa : Nat)
  | deny (beyond : Bool)
  deriving DecidableEq, Repr

/-- A level of the walk (R272): the low address bit it indexes, the bits of the index, its table's size, its leaf's size (0: none). -/
structure Level where
  lo : Nat
  width : Nat
  table_ : Nat
  page : Nat
  last : Bool
  deriving DecidableEq, Repr

/-- The four levels (R272). -/
def levels : List Level :=
  [⟨43, 13, 65536, 0, false⟩, ⟨30, 13, 65536, 2 ^ 30, false⟩, ⟨21, 9, 4096, 2 ^ 21, false⟩, ⟨16, 5, 256, 65536, true⟩]

/-- The size of the table that an entry of this level names. -/
def nextTable : Nat → Nat
  | 43 => 65536
  | 30 => 4096
  | _ => 256

/-- ADDR of an entry (R272). -/
def entryAddr (e : Nat) : Nat := bits e 51 8 * 256

/-- A malformed entry (R272), but for where its ADDR lies: a leaf at L0, TABLE at L3, a reserved bit, a misaligned ADDR, or stage 2
leaf fields elsewhere. -/
def malformed (lv : Level) (stage2 : Bool) (e : Nat) : Bool :=
  let tbl := bitAt e 1
  (!tbl && lv.page == 0) || (tbl && lv.last) || bits e 58 52 != 0 || bits e 7 5 != 0 ||
  (if tbl then entryAddr e % nextTable lv.lo != 0 else lv.page != 0 && entryAddr e % lv.page != 0) ||
  ((tbl || !stage2) && bits e 63 59 != 0)

/-- A place that a table may have: T1 or T0 (R272). -/
def MemSt.tablePlace (m : MemSt) (a : Nat) : Bool :=
  match m.target a with
  | .t1 | .t0 => true
  | _ => false

/-- A leaf that a walk reached: where its entry stands, its page size, the entry. -/
structure Leaf where
  at_ : Nat
  size : Nat
  entry : Nat
  deriving DecidableEq, Repr

/-- Walk stage 2 from a table (R272). -/
def walk2 (m : MemSt) (ipa : Nat) : List Level → Nat → Except FaultKind Leaf
  | [], _ => .error .malformed
  | lv :: t, table =>
    if !m.tablePlace table then .error .malformed
    else
      let a := table + 8 * (ipa / 2 ^ lv.lo % 2 ^ lv.width)
      let e := leNat (memRead m.mem a 8)
      if !bitAt e 0 then .error .s2Invalid
      else if malformed lv true e then .error .malformed
      else if bitAt e 1 then walk2 m ipa t (entryAddr e)
      else .ok { at_ := a, size := lv.page, entry := e }

/-- The stage 2 root, where VALID (R289). -/
def State.s2Root (s : State) : Option Nat :=
  if s.flag Reg.memS2RootLo 0 then
    some (s.fld Reg.memS2RootHi 19 0 * 2 ^ 32 + s.fld Reg.memS2RootLo 31 16 * 65536)
  else none

/-- The stage 1 root of a partition, an IPA, where VALID. -/
def State.s1Root (s : State) (p : Nat) : Option Nat :=
  if s.flag (Reg.memS1RootLo p) 0 then
    some (s.fld (Reg.memS1RootHi p) 19 0 * 2 ^ 32 + s.fld (Reg.memS1RootLo p) 31 16 * 65536)
  else none

/-- The leaf that maps an IPA at stage 2. -/
def State.leaf2 (s : State) (ipa : Nat) : Except FaultKind Leaf :=
  match s.s2Root with
  | none => .error .s2Invalid
  | some r => walk2 s.memory ipa levels r

/-- An access's right in an entry: read R, write and atomic W, fetch X (R272). -/
def entryAllows (e : Nat) : Access → Bool
  | .read => bitAt e 2
  | .write => bitAt e 3
  | .atomic => bitAt e 3
  | .fetch => bitAt e 4

/-- Where stage 2 takes an IPA for a partition (R197, R260, R261, R270 to R273). -/
def State.stage2 (s : State) (p : Nat) (acc : Access) (ipa : Nat) : Xlat × Nat :=
  match s.leaf2 ipa with
  | .error k => (.bad k 2 ipa, 0)
  | .ok l =>
    let pa := entryAddr l.entry + ipa % l.size
    if !bitAt l.entry 59 && bits l.entry 63 60 != p then (.bad .partCheck 2 ipa, 0)
    else if !entryAllows l.entry acc then (.bad .s2Perm 2 ipa, 0)
    else
      match s.memory.target pa with
      | .nothing => (.deny true, 0)
      | .t0 => (.deny false, 0)
      | .t1 => if pa < s.poolBytes then (.deny false, 0) else (.pa pa, l.entry)
      | _ => (.pa pa, l.entry)

/-- Walk stage 1 of a partition: every table address is an IPA that stage 2 translates (R272). -/
def walk1 (s : State) (p va : Nat) : List Level → Nat → Except Xlat (Nat × Nat)
  | [], _ => .error (.bad .malformed 1 0)
  | lv :: t, table =>
    match s.stage2 p .read (table + 8 * (va / 2 ^ lv.lo % 2 ^ lv.width)) with
    | (.pa a, _) =>
      if !s.memory.tablePlace a then .error (.bad .malformed 1 0)
      else
        let e := leNat (memRead s.memory.mem a 8)
        if !bitAt e 0 then .error (.bad .s1Invalid 1 0)
        else if malformed lv false e then .error (.bad .malformed 1 0)
        else if bitAt e 1 then walk1 s p va t (entryAddr e)
        else .ok (entryAddr e + va % lv.page, e)
    | (x, _) => .error x

/-- The kinds of agent that R274's columns tell apart. -/
inductive Agent where
  | thread | engine | append
  deriving DecidableEq, Repr

/-- The owner of a partition's carve-outs (R270). -/
def partOwner (p : Nat) : Nat := 16 + p

/-- A place in the arena range of a partition or in its scale records (R135, R274): the range comes first, then 256 bytes of
scale record for each of its frames. -/
def State.arenaPlace (s : State) (p off : Nat) : Option Nat :=
  let q := s.part p
  if off < q.frames * 65536 then some (s.kva.base + q.base * 65536 + off)
  else if off < q.frames * 65536 + q.frames * 256 then
    some (s.kva.base + s.fld Reg.kvaArenaCfg 25 0 * 65536 + q.base * 256 + (off - q.frames * 65536))
  else none

/-- Physical address of byte o of a partition's image (R232, R274): where it was carved; of a sprint rank in T0, and beyond that in the first 3 MiB
of each core's scratchpad, in core order (log entry 129). -/
def Part.weightPa (q : Part) (o : Nat) : Nat :=
  if q.sprint && decide (2 ^ 32 ≤ o) then 2 ^ 42 + 2 ^ 32 + 0x800000 * ((o - 2 ^ 32) / 0x300000) + (o - 2 ^ 32) % 0x300000 else q.weightAddr + o

/-- The device window of a partition (R274): the physical address of an offset for an agent and an access, none where the table
allows none. -/
def State.deviceWindow (s : State) (p : Nat) (ag : Agent) (acc : Access) (off : Nat) : Option Nat :=
  let q := s.part p
  let rd := decide (acc = .read)
  let wr := decide (acc = .read ∨ acc = .write ∨ acc = .atomic)
  if off < 0x10000 then (if rd then some (q.paramAddr + off) else none)
  else if 0x000100000000 ≤ off ∧ off < 0x000100000000 + 0x800000 * 128 then
    let c := (off - 0x000100000000) / 0x800000
    if wr && bitAt q.slices.toNat (c / 8) && decide ((off - 0x000100000000) % 0x800000 < 0x500000) then
      some (2 ^ 42 + 2 ^ 32 + (off - 0x000100000000)) else none
  else if 0x000200000000 ≤ off ∧ off < 0x000200000000 + 0x100000000 then
    if wr && bitAt q.slices.toNat ((off - 0x000200000000) / 0x10000000) then some (2 ^ 42 + (off - 0x000200000000)) else none
  else if 0x010000000000 ≤ off ∧ off < 0x020000000000 then
    match q.image with
    | some im =>
      if (rd || acc == .fetch) && decide (off - 0x010000000000 < im.imageLen) then
        some (q.weightPa (off - 0x010000000000)) else none
    | none => none
  else if 0x020000000000 ≤ off ∧ off < 0x030000000000 then
    if rd || (ag == .append && wr) then s.arenaPlace p (off - 0x020000000000) else none
  else if 0x030000000000 ≤ off ∧ off < 0x038000000000 then
    if (rd || (ag == .thread && wr)) && decide (off - 0x030000000000 < q.maskBytes) then
      some (q.maskAddr + (off - 0x030000000000)) else none
  else if 0x038000000000 ≤ off ∧ off < 0x040000000000 then
    if (rd || (ag == .thread && wr)) && decide (off - 0x038000000000 < 1024 * q.draftEntries) then
      some (q.draftAddr + (off - 0x038000000000)) else none
  else if 0x040000000000 ≤ off ∧ off < 0x050000000000 then
    if rd && (s.objectAt p (off - 0x040000000000)).isSome then some (objectBase + (off - 0x040000000000)) else none
  else none

/-- Translate a VA of a partition (R271 to R275): a device window by R274, a cached page, or the two walks; with what is then
cached. -/
def State.translate (s : State) (p : Nat) (ag : Agent) (acc : Access) (va : Nat) : Xlat × Option TlbEntry :=
  if 2 ^ 56 ≤ va then (.deny false, none)
  else if va / 2 ^ 52 = 0xF then
    match s.deviceWindow p ag acc (va % 2 ^ 52) with
    | some a => (.pa a, none)
    | none => (.deny false, none)
  else
    match s.memory.tlb.find? (fun t => t.part == p && t.va == va / 65536 * 65536 &&
        (match acc with | .read => t.r | .write => t.w | .atomic => t.w | .fetch => t.x)) with
    | some t => (.pa (t.pa + va % 65536), none)
    | none =>
      match s.s1Root p with
      | none => (.bad .s1Invalid 1 0, none)
      | some r =>
        match walk1 s p va levels r with
        | .error x => (x, none)
        | .ok (ipa, e1) =>
          if !entryAllows e1 acc then (.bad .s1Perm 1 0, none)
          else
            match s.stage2 p acc ipa with
            | (.pa a, e2) =>
              (.pa a, some { part := p, va := va / 65536 * 65536, ipa := ipa / 65536 * 65536, pa := a / 65536 * 65536,
                             r := bitAt e1 2 && bitAt e2 2, w := bitAt e1 3 && bitAt e2 3, x := bitAt e1 4 && bitAt e2 4 })
            | (x, _) => (x, none)

/-- Translate and cache (R275). -/
def State.xlate (s : State) (p : Nat) (ag : Agent) (acc : Access) (va : Nat) : State × Xlat :=
  match s.translate p ag acc va with
  | (x, some t) => ({ s with memory := { s.memory with tlb := t :: s.memory.tlb } }, x)
  | (x, none) => (s, x)

/-- The parts of a range that lie in one 64 KiB page each, with at most `fuel` pages. -/
def pageParts : Nat → Nat → Nat → List (Nat × Nat)
  | 0, _, _ => []
  | fuel + 1, va, n =>
    if n = 0 then []
    else
      let k := min n (65536 - va % 65536)
      (va, k) :: pageParts fuel (va + k) (n - k)

/-- Translate every page of a range, in order: the physical parts, or the first failure with its VA. -/
def State.xlateParts (s : State) (p : Nat) (ag : Agent) (acc : Access) :
    List (Nat × Nat) → State × Except (Nat × Xlat) (List (Nat × Nat))
  | [] => (s, .ok [])
  | (va, k) :: t =>
    match s.xlate p ag acc va with
    | (s1, .pa a) =>
      match s1.xlateParts p ag acc t with
      | (s2, .ok l) => (s2, .ok ((a, k) :: l))
      | (s2, .error e) => (s2, .error e)
    | (s1, x) => (s1, .error (va, x))

/-- Translate a range. -/
def State.xlateRange (s : State) (p : Nat) (ag : Agent) (acc : Access) (va n : Nat) :
    State × Except (Nat × Xlat) (List (Nat × Nat)) :=
  s.xlateParts p ag acc (pageParts (n / 65536 + 2) va n)

/-- Read physical parts. -/
def State.readParts (s : State) (fn : Nat) : List (Nat × Nat) → State × List Byte
  | [] => (s, [])
  | (a, k) :: t =>
    let r := s.readPa fn a k
    let q := r.1.readParts fn t
    (q.1, r.2 ++ q.2)

/-- Write bytes over physical parts. -/
def State.writeParts (s : State) (fn : Nat) : List (Nat × Nat) → List Byte → State
  | [], _ => s
  | (a, k) :: t, l => (s.writePa fn a (l.take k)).writeParts fn t (l.drop k)

/-- Some part of a range is poisoned. -/
def State.partsPoisoned (s : State) (l : List (Nat × Nat)) : Bool := l.any fun q => s.memory.poisoned q.1 q.2

/-- Read a range of a partition's VAs, where every page translates. -/
def State.readVa (s : State) (p : Nat) (ag : Agent) (va n : Nat) : State × Except (Nat × Xlat) (List Byte) :=
  match s.xlateRange p ag .read va n with
  | (s1, .error e) => (s1, .error e)
  | (s1, .ok l) =>
    let r := s1.readParts (partFn p) l
    (r.1, .ok r.2)

/-- Write a range of a partition's VAs, where every page translates. -/
def State.writeVa (s : State) (p : Nat) (ag : Agent) (va : Nat) (b : List Byte) : State × Except (Nat × Xlat) Unit :=
  match s.xlateRange p ag .write va b.length with
  | (s1, .error e) => (s1, .error e)
  | (s1, .ok l) => (s1.writeParts (partFn p) l b, .ok ())

/-- A packet's ..._ADDR (R451): a host bus address in a PF0 window, a VA of the partition in a partition window. A write that does
not translate writes nothing. -/
def State.writeAddr (s : State) (o : Origin) (addr : Nat) (l : List Byte) : State :=
  match o.partition with
  | some p => (s.writeVa p.val .thread addr l).1
  | none => s.hostWrite 0 addr l

/-! ### Fault records (R280) -/

/-- The record of R280. -/
def faultRecord (id : Nat) (f : OpenFault) : List Byte :=
  leBytes 2 id ++ leBytes 1 f.kind.code ++ leBytes 1 f.access.code ++ leBytes 2 f.source.toNat ++
    leBytes 1 f.part.val ++ leBytes 1 f.stage ++ leBytes 8 f.va ++ leBytes 8 f.ipa ++ leBytes 8 f.satchel.toNat

/-- Whether a fault parks its unit (R280): PART_CHECK and POISON faults only inform. -/
def FaultKind.parks : FaultKind → Bool
  | .partCheck | .poison => false
  | _ => true

/-- The event that carries a fault's record: stage 1 to the partition's function, the rest to PF0 (R280). -/
def State.faultEvent (s : State) (id : Nat) (f : OpenFault) : State :=
  s.event (if f.stage = 1 then partFn f.part.val else 0) 5 .ok f.part.val (faultRecord id f)

/-- Open a fault (R279, R280): count it, give it an ID, post its record. A PART_CHECK or POISON fault gets an ID for its record
only; PART_CHECK posts a level 1 fault that names the partition (R273). Answers the ID of a parked unit. -/
def State.openFault (s : State) (f : OpenFault) : State × Option Nat :=
  let id := (leastFree (s.memory.faults.map fun q => q.1) (s.memory.faults.length + 1) 0).getD 0
  let s1 := (s.count Reg.memCntXlat 1).faultEvent id f
  if f.kind.parks then
    ({ s1 with memory := { s1.memory with faults := aput s1.memory.faults id f } }, some id)
  else if f.kind = .partCheck then
    (s1.post { fault f.source.toNat 0x301 1 f.ipa with tag := .part f.part, status := .protection }, none)
  else (s1, none)

/-- R260's level 1 fault for an access to an address that does not exist. -/
def State.denied (s : State) (source addr : Nat) (beyond : Bool) : State :=
  if beyond then s.post { fault source 0x301 1 addr with status := .protection } else s

/-! ### T1 (R262 to R267) -/

/-- The boards' populations that R262 allows. -/
def populations : List Nat := [32, 16, 8, 4, 2]

/-- Positions 0 to n − 1 are fitted, trained and of the density of position 0. -/
def populationOk (l : List GddrDev) (n : Nat) : Bool :=
  (l.take n).length == n &&
  (l.take n).all fun d => d.present && d.trained && d.density == (l.headD GddrDev.reset).density

/-- The population that R262 takes into service; 0 for none. -/
def population (l : List GddrDev) : Nat := (populations.find? (populationOk l)).getD 0

/-- A device leaves service in operation (R267). -/
def State.gddrLost (s : State) (d : Nat) : State :=
  let g := s.memory.devs.getD d GddrDev.reset
  if g.inService then
    { s with memory := { s.memory with devs := s.memory.devs.modify d fun x => { x with inService := false } } }.post
      (fault (0x100 + 4 * d) 0x203 3 d)
  else s

/-- MEM_CTRL.ENABLE set (R264): training begins. -/
def State.memEnable (s : State) : State := { s with memory := { s.memory with training := true } }

/-- One position's tracking (R264): three failures in a row begin its own retraining. -/
def GddrDev.track (g : GddrDev) (ok : Bool) : GddrDev :=
  if !g.inService ∨ 3 ≤ g.trackFails then g
  else if ok then { g with trackFails := 0 }
  else if g.trackFails + 1 = 3 then { g with trackFails := 3, retrains := satAdd 255 g.retrains 1 }
  else { g with trackFails := g.trackFails + 1 }

/-- T1_TRACKING (R264). -/
def execT1Tracking (ok : List Bool) (s : State) : Host.Outcome State Fault Refusal :=
  .next { s with memory := { s.memory with devs := s.memory.devs.mapIdx fun d g => g.track (ok.getD d true) } }

/-- A threshold with its 3 °C of hysteresis (R265, R337). -/
def threshold (entered : Bool) (limit temp : Nat) : Bool := decide (limit ≤ temp) || (entered && decide (limit < temp + 3))

/-- One position's temperature (R265): HOT, throttling with a note, and leaving service at 105 °C. -/
def State.gddrTemp (s : State) (d temp : Nat) : State :=
  let g := s.memory.devs.getD d GddrDev.reset
  if !g.present then s
  else
    let thr := threshold g.throttled 95 temp
    let s1 := { s with memory := { s.memory with devs := s.memory.devs.modify d fun x =>
      { x with temp := min 255 temp, hot := threshold g.hot 85 temp, throttled := thr } } }
    let s2 := if thr && !g.throttled then s1.note (0x100 + 4 * d) 0x205 d else s1
    if 105 ≤ temp then s2.gddrLost d else s2

/-- An uncorrectable read of T1 (R266): counted, the sector poisoned, a level 1 POISON fault. Poison in a partition's weights is
noted for the re-read of R286. -/
def State.poisonT1 (s : State) (pa : Nat) : State :=
  let s1 := (s.count Reg.memCntUe 1).post { fault (s.memory.t1Source pa) 0x202 1 pa with status := .dataCorrupt }
  let s2 := { s1 with memory := { s1.memory with poison := aput s1.memory.poison (pa / 64) () } }
  { s2 with pln := { s2.pln with parts := s2.pln.parts.map fun q =>
      match q.image with
      | some im =>
        if q.weightAddr ≤ pa ∧ pa < q.weightAddr + im.imageLen ∧ q.state ≠ .free then
          { q with poisonWeights := q.poisonWeights ++ [(pa, s2.stk.stroke)] }
        else q
      | none => q } }

/-! ### TLB_INVALIDATE and REGION_MOVE -/

/-- Drop the cached translations of a scope (R275). -/
def tlbDrop (l : List TlbEntry) (scope part base length : Nat) : List TlbEntry :=
  l.filter fun t =>
    match scope with
    | 0 => t.part != part || t.va + 65536 ≤ base || base + length ≤ t.va
    | 1 => t.ipa + 65536 ≤ base || base + length ≤ t.ipa
    | _ => false

/-- TLB_INVALIDATE (R275, R453): a partition window may use SCOPE 0 only. -/
def execTlbInvalidate (h : Header) (scope base length rsv : Nat) (s : State) : Host.Outcome State Fault Refusal :=
  .next (s.serve { op := 0x0004, replies := 1, vf := true, tenant := false, params := 24, rsv := rsv, addrs := 0,
                   localOnly := true } h false fun r x =>
    if scope ≠ 0 ∧ h.origin.partition.isSome then x.done r .protection
    else if 2 < scope then x.done r .badField
    else { x with memory := { x.memory with tlb := tlbDrop x.memory.tlb scope h.target base length } }.done r .ok)

/-- Every page of a range is mapped by a leaf of one size (R278). -/
def State.mappedBy (s : State) (size : Nat) : Nat → Nat → Bool
  | 0, _ => true
  | n + 1, ipa =>
    (match s.leaf2 ipa with | .ok l => l.size == size | .error _ => false) && s.mappedBy size n (ipa + size)

/-- A destination that a move may have: the software pool or host memory (R278). -/
def State.moveDest (s : State) (dest length : Nat) : Bool :=
  match s.memory.target dest, s.memory.target (dest + length - 1) with
  | .t1, .t1 => decide (s.poolBytes ≤ dest)
  | .host _, .host _ => true
  | _, _ => false

/-- REGION_MOVE (R278). A page is copied at once when its row comes: a write that reaches the page before lands at the old home and is copied with it,
as a write that waited for the switch would land at the new one (log entry 134). -/
def execRegionMove (h : Header) (ipa length dest : Nat) (s : State) : Host.Outcome State Fault Refusal :=
  .next (s.serve { op := 0x0502, replies := 2, vf := false, tenant := false, params := 24, rsv := 0, addrs := 0,
                   localOnly := false } h false fun r x =>
    match x.leaf2 ipa with
    | .error _ => x.done r .badField
    | .ok l =>
      if length = 0 ∨ 2 ^ 36 < length ∨ ipa % l.size ≠ 0 ∨ length % l.size ≠ 0 ∨ dest % l.size ≠ 0 ∨
          !x.mappedBy l.size (length / l.size) ipa ∨ !x.moveDest dest length then x.done r .badField
      else
        let a := x.accepted r
        { a.1 with memory := { a.1.memory with moves := a.1.memory.moves ++
            [{ part := h.part, ipa := ipa, length := length, dest := dest, page := l.size, done := 0, reply := a.2 }] } })

/-- The window map with a page's entries moved (R396): one entry per 2 MiB of T1. -/
def windowMoved (l : Assoc Nat) (src dst size : Nat) (t1 : Bool) : Assoc Nat :=
  let n := size / 2 ^ 21
  let mine := l.filter fun e => decide (src / 2 ^ 21 ≤ e.1 ∧ e.1 < src / 2 ^ 21 + n)
  let rest := l.filter fun e => !decide (src / 2 ^ 21 ≤ e.1 ∧ e.1 < src / 2 ^ 21 + n)
  if t1 then mine.foldl (fun m e => aput m (dst / 2 ^ 21 + (e.1 - src / 2 ^ 21)) e.2) rest else rest

/-- Copy one page of a move and switch its leaf (R278, R396). -/
def State.movePage (s : State) (v : RegionMove) : State :=
  let ipa := v.ipa + v.done * v.page
  let dst := v.dest + v.done * v.page
  match s.leaf2 ipa with
  | .error _ => s
  | .ok l =>
    let fn := partFn v.part.val
    let rd := s.readPa fn (entryAddr l.entry) v.page
    let s1 := rd.1.writePa fn dst rd.2
    let s2 := s1.physWrite l.at_ (leBytes 8 (setBits l.entry 51 8 (dst / 256)))
    { s2 with
      memory := { s2.memory with tlb := tlbDrop s2.memory.tlb 1 0 ipa v.page },
      xpt := { s2.xpt with winMap := windowMoved s2.xpt.winMap (entryAddr l.entry) dst v.page (s2.memory.target dst == .t1) } }

/-- REGION_MOVE_PAGE_COMPLETE (R278): the page under way of the move at an IPA base is copied and its leaf switched; the last one
brings the final OK. A failed copy stops the move at that page, with the IPA reached. -/
def execRegionMovePageComplete (ipa : Nat) (result : Status) (s : State) : Host.Outcome State Fault Refusal :=
  match s.memory.moves.find? (fun v => v.ipa == ipa) with
  | none => .next s
  | some v =>
    let rest := s.memory.moves.erase v
    if result = .ok then
      let s1 := s.movePage v
      let v1 := { v with done := v.done + 1 }
      if v1.length ≤ v1.done * v1.page then
        .next ({ s1 with memory := { s1.memory with moves := rest } }.answer v.reply .ok true [])
      else .next { s1 with memory := { s1.memory with moves := rest ++ [v1] } }
    else
      .next ({ s with memory := { s.memory with moves := rest } }.answer v.reply
        (if result = Status.dataCorrupt then Status.dataCorrupt else Status.tierError) true (leBytes 8 (v.ipa + v.done * v.page)))

end Sys2Proof.Machine
end

