-- ==== Sys2Proof/Machine/Flash.lean ====
section
/-!
DEFINITION. Machine/Flash.lean: the flash translation layer (chapter 10): population, extents, writes and reads, journal, blocks,
garbage collection, power-fail hold, recovery.
-/
namespace Sys2Proof.Machine

/-! ### Geometry and capacity -/

/-- The qualification entry of the population's dies (R312): that of channel 0. -/
def State.nand (s : State) : NandFit :=
  s.board.nand.headD { dies := 0, bad := 0, ce := 0, luns := 0, entry := 0, density := 0, rate := 0, blocks := 0,
                       unitsPerBlock := 1, rated := 0, retry := 0, tempFeature := false, trained := false }

/-- The key of the block that holds a PUA (R315): die × 2^21 + number of its first unit. -/
def State.blockOf (s : State) (pua : Nat) : Nat :=
  let u := max 1 s.nand.unitsPerBlock
  pua / 2 ^ 21 * 2 ^ 21 + pua % 2 ^ 21 / u * u

/-- The channel of a PUA or block key: the die index over 64 (R311). -/
def channelOf (pua : Nat) : Nat := pua / 2 ^ 21 / 64

/-- The parity group of a block (R326): chip enable, LUN and channel / 16. -/
def groupOf (block : Nat) : Nat := block / 2 ^ 21 % 64 * 2 + channelOf block / 16

/-- Channels in service (R313). -/
def Fls.channels (f : Fls) : Nat := (f.chans.filter fun c => c.inService).length

/-- The dies of a die's parity group, one on each channel in service of its sixteen (R326). -/
def State.groupDies (s : State) (die : Nat) : List Nat :=
  ((List.range 16).map fun k => (die / 64 / 16 * 16 + k) * 64 + die % 64).filter fun d => decide (d / 64 < s.fls.channels)

/-- The blocks of a block's superblock (R326): those of the same number on every die of the group that is not lost. -/
def State.superblock (s : State) (block : Nat) : List Nat :=
  ((s.groupDies (block / 2 ^ 21)).filter fun d => !s.fls.lostDies.contains d).map fun d => d * 2 ^ 21 + block % 2 ^ 21

/-- The name of a unit's row: the PUA of its first unit (R326). -/
def State.rowOf (s : State) (pua : Nat) : Nat := (s.groupDies (pua / 2 ^ 21)).headD 0 * 2 ^ 21 + pua % 2 ^ 21

/-- A block; an unlisted one is FREE with as many erases as formats (R327). -/
def State.fblock (s : State) (k : Nat) : FlsBlock :=
  agetD s.fls.blocks k { die := k / 2 ^ 21, state := .free, erases := s.fls.eraseBase, refresh := false, retire := false,
                         age := 0, copies := [] }

/-- FREE superblocks of a group (R328): retired blocks are left out, and one block at least is FREE. -/
def State.freeSupers (s : State) (group : Nat) : Nat :=
  let taken := (s.fls.blocks.filter fun q => groupOf q.1 == group).filter fun q =>
    let states := (s.superblock q.1).map fun k => (s.fblock k).state
    !(states.contains .free && states.all fun t => t == .free || t == .retired)
  s.nand.blocks - (taken.map fun q => q.1 % 2 ^ 21).eraseDups.length

/-- A write to a group waits for a relocation (R328): fewer FREE superblocks than GC_CRIT, and every relocated unit is spent. -/
def State.throttledWrite (s : State) (group : Nat) : Bool :=
  decide (s.freeSupers group < max 1 (s.fld Reg.flsGcCfg 7 0)) && agetD s.fls.relocated group 0 == 0

/-- Change a block. -/
def State.modBlock (s : State) (k : Nat) (f : FlsBlock → FlsBlock) : State :=
  { s with fls := { s.fls with blocks := aput s.fls.blocks k (f (s.fblock k)) } }

/-- Bytes of a density code's data area, counted decimally (R312). -/
def nandBytes (d : Nat) : Nat := 32000000000 * 2 ^ d

/-- User capacity in 64 KiB units at an OP (R314). -/
def Fls.capacity (f : Fls) (op : Nat) : Nat := f.channels * f.dies * nandBytes f.density * (100 - op) / 100 / 65536

/-- Blocks of the dies in service. -/
def State.totalBlocks (s : State) : Nat := s.fls.channels * s.fls.dies * s.nand.blocks

/-- SPARE (R331) in permille of the spare blocks after format (log entry 9 counts them). -/
def Fls.spare (f : Fls) : Nat := if f.spareAtFormat = 0 then 0 else (f.spareAtFormat - f.retired) * 1000 / f.spareAtFormat

/-- Units in extents. -/
def Fls.extentUnits (f : Fls) : Nat :=
  (avals f.extents).foldl (fun a e => a + e.ranges.foldl (fun b r => b + r.2) 0) 0

/-- FLS_FREE_UNITS. -/
def Fls.freeUnits (f : Fls) : Nat := f.userUnits - f.extentUnits

/-- Every LUA range in use. -/
def Fls.usedRanges (f : Fls) : List (Nat × Nat) := ((avals f.extents).map fun e => e.ranges).flatten

/-- First-fit placement of n units in the LUA space (R318). -/
def Fls.place (f : Fls) (n : Nat) : Option Nat :=
  let used := f.usedRanges
  ((0 :: used.map fun r => r.1 + r.2).filter fun b =>
    decide (b + n ≤ f.userUnits) && used.all fun r => b + n ≤ r.1 || r.1 + r.2 ≤ b).min?

/-- The LUA of a unit offset in an extent. -/
def luaOf : List (Nat × Nat) → Nat → Option Nat
  | [], _ => none
  | (b, n) :: t, o => if o < n then some (b + o) else luaOf t (o - n)

/-- Units of an extent. -/
def Extent.units (e : Extent) : Nat := e.ranges.foldl (fun a r => a + r.2) 0

/-! ### The journal (R322 to R325) -/

/-- Append a record to the tail, with the next SEQ unless the record carries one. -/
def State.journal (s : State) (r : JRec) : State :=
  if r.seq = 0 then
    { s with fls := { s.fls with tail := s.fls.tail ++ [{ r with seq := s.fls.nextSeq }], nextSeq := s.fls.nextSeq + 1 } }
  else { s with fls := { s.fls with tail := s.fls.tail ++ [r] } }

/-- A record of a type, with nothing named. -/
def jrec (t : JType) : JRec :=
  { seq := 0, type := t, extent := 0xFFFF, lua := 0, newPua := 0xFFFFFFFF, oldPua := 0xFFFFFFFF, arg := 0, req := 0, index := 0 }

/-- The number of a block state in a BLOCK record's ARG. -/
def BlockState.code : BlockState → Nat
  | .free => 0 | .opened => 1 | .closing => 2 | .closed => 3 | .source => 4 | .erasing => 5 | .retired => 6

/-- Change a block's state with a BLOCK record (R327). -/
def State.blockTo (s : State) (k : Nat) (st : BlockState) : State :=
  (s.modBlock k fun b => { b with state := st }).journal { jrec .block with newPua := k, arg := st.code }

/-- Note a changed map page as dirty since a record (R321). -/
def Fls.touch (f : Fls) (lua seq : Nat) : Fls :=
  let page := lua / 16384
  if (afind f.dirty page).isSome then f else { f with dirty := aput f.dirty page seq }

/-- Map a LUA. -/
def Fls.mapTo (f : Fls) (lua pua seq : Nat) : Fls := ({ f with map := aput f.map lua pua }).touch lua seq

/-- Unmap units. -/
def Fls.unmap (f : Fls) (lua n seq : Nat) : Fls :=
  let hit := f.map.filter fun q => lua ≤ q.1 && q.1 < lua + n
  hit.foldl (fun g q => ({ g with map := adel g.map q.1 }).touch q.1 seq) f

/-- The SEQ with which the unit now mapped at a LUA was written; 0 for none. -/
def Fls.mappedSeq (f : Fls) (lua : Nat) : Nat :=
  match afind f.map lua with
  | some p => match afind f.hdrs p with
    | some h => h.seq
    | none => 0
  | none => 0

/-- What a durable record does to the map (R323, R325): of two writes to one LUA the later SEQ holds it; a GC_MAP applies only while
the entry equals its OLD_PUA. -/
def Fls.applyRec (f : Fls) (r : JRec) : Fls :=
  match r.type with
  | .map => if f.mappedSeq r.lua ≤ r.seq then f.mapTo r.lua r.newPua r.seq else f
  | .gcMap => if afind f.map r.lua = some r.oldPua then f.mapTo r.lua r.newPua r.seq else f
  | .unmap => f.unmap r.lua r.newPua r.seq
  | .extent =>
    match afind f.extents r.extent with
    | some e =>
      if e.deleting.isSome then
        { (e.ranges.foldl (fun g q => g.unmap q.1 q.2 r.seq) f) with extents := adel f.extents r.extent } else f
    | none => f
  | .block => f
  | .checkpoint => f

/-- A deleting extent without requests in flight gets its EXTENT record, once (R319). -/
def State.tryDelete (s : State) (ext : Nat) : State :=
  match afind s.fls.extents ext with
  | some e =>
    if e.deleting.isSome && (avals s.fls.reqs).all (fun q => q.extent != ext) &&
        s.fls.tail.all (fun r => !(r.type == .extent && r.extent == ext && r.arg == 1)) then
      s.journal { jrec .extent with extent := ext, arg := 1 }
    else s
  | none => s

/-- A request's unit became durable: its final reply when none is left (R319, R324). -/
def State.unitDurable (s : State) (req : Nat) : State :=
  match afind s.fls.reqs req with
  | none => s
  | some q =>
    if q.left ≤ 1 then
      let s1 := { s with fls := { s.fls with reqs := adel s.fls.reqs req } }
      let s2 := match q.firstBad with
        | some o => s1.answer q.reply .noResource true (leBytes 4 o)
        | none => s1.answer q.reply .ok true []
      s2.tryDelete q.extent
    else { s with fls := { s.fls with reqs := aput s.fls.reqs req { q with left := q.left - 1 } } }

/-- A record becomes durable: it enters the ring, the map changes, the write is acknowledged (R323); a deleted extent's packet gets
its final OK (R319). -/
def State.durable (s : State) (r : JRec) : State :=
  let del := match r.type, afind s.fls.extents r.extent with
    | .extent, some e => e.deleting
    | _, _ => none
  let f := { s.fls with ring := s.fls.ring ++ [r], lastDurable := max s.fls.lastDurable r.seq }
  let s1 := { s with fls := { (f.applyRec r) with staged := memZero s.fls.staged (r.seq * 65536) 65536 } }
  let s2 := match del with
    | some rep => s1.answer rep .ok true []
    | none => s1
  if r.req = 0 then s2 else s2.unitDurable r.req

/-- JOURNAL_COMMIT (R322): the tail is programmed into the ring. -/
def execJournalCommit (now : Nat) (s : State) : Host.Outcome State Fault Refusal :=
  let s1 := s.at_ now
  if s1.fls.hold then .next s1 else .next { s1 with fls := { s1.fls with committing := s1.fls.tail.length } }

/-- JOURNAL_DURABLE (R322, R323): the first records of what is being committed are durable. -/
def execJournalDurable (records : Nat) (s : State) : Host.Outcome State Fault Refusal :=
  let n := min records s.fls.committing
  let s1 := { s with fls := { s.fls with tail := s.fls.tail.drop n, committing := s.fls.committing - n } }
  .next ((s.fls.tail.take n).foldl State.durable s1)

/-- MAP_CHECKPOINT (R321): a dirty map page is written back, with a CHECKPOINT record. -/
def execMapCheckpoint (page : Nat) (s : State) : Host.Outcome State Fault Refusal :=
  if s.fls.hold ∨ (afind s.fls.dirty page).isNone then .next s
  else
    let old := s.fls.checkpoint.filter fun q => q.1 / 16384 != page
    let now := s.fls.map.filter fun q => q.1 / 16384 == page
    .next ({ s with fls := { s.fls with
        checkpoint := now.foldl (fun (m : Assoc Nat) (q : Nat × Nat) => aput m q.1 q.2) old, dirty := adel s.fls.dirty page,
        health := { s.fls.health with nandUnits := satAdd (2 ^ 64 - 1) s.fls.health.nandUnits 1 } } }.journal
      { jrec .checkpoint with arg := page })

/-! ### Writing units -/

/-- Stage a unit's data and begin its write (R323, R330). -/
def State.beginWrite (s : State) (w : FlsWrite) (data : List Byte) : State :=
  let q := s.fls.nextSeq
  { s with fls := { s.fls with nextSeq := q + 1, writes := s.fls.writes ++ [{ w with seq := q }],
                               staged := memWrite s.fls.staged (q * 65536) data } }

/-- Begin a garbage-collection copy of a mapped unit (R328). -/
def State.beginCopy (s : State) (lua pua : Nat) : State :=
  let h := agetD s.fls.hdrs pua { lua := lua, extent := 0xFFFF, ukind := .data, seq := 0 }
  let q := s.fls.nextSeq
  { s with fls := { s.fls with
      nextSeq := q + 1,
      writes := s.fls.writes ++
        [{ req := 0, index := 0, lua := lua, extent := h.extent, ukind := .gcCopy, seq := q, source := pua }],
      staged := memCopy s.fls.data (pua * 65536) s.fls.staged (q * 65536) 65536 } }

/-- The mapped units of a block: (LUA, PUA). -/
def State.validUnits (s : State) (block : Nat) : List (Nat × Nat) := s.fls.map.filter fun q => s.blockOf q.2 == block

/-- Copy every valid unit of a block elsewhere (R328). -/
def State.copyOut (s : State) (block : Nat) : State :=
  (s.validUnits block).foldl (fun (x : State) q => x.beginCopy q.1 q.2) s

/-- Enter READ_ONLY when SPARE reaches RESERVE (R331): writes not yet programmed are refused from the first of each request on. -/
def State.checkSpare (s : State) : State :=
  if s.fls.readOnly ∨ s.fls.spareAtFormat = 0 ∨ s.fld Reg.flsSpare 31 16 < s.fls.spare then s
  else
    let s1 := { s with fls := { s.fls with readOnly := true } }.post (fault 0x300 0x603 2 s.fls.spare)
    let cut (s : State) (req : Nat) (q : FlsReq) : State :=
      let open_ : List FlsWrite := s.fls.writes.filter fun w => w.req == req
      match (open_.map fun w => w.index).min? with
      | none => s
      | some i =>
        let lost : Nat := open_.length + (s.fls.tail.filter fun r => r.req == req && decide (i ≤ r.index)).length
        let s2 := { s with fls := { s.fls with
          writes := s.fls.writes.filter fun w => w.req != req,
          tail := s.fls.tail.filter fun r => r.req != req || decide (r.index < i) } }
        let q2 : FlsReq := { q with left := q.left - lost, firstBad := some (q.offset + i) }
        if q2.left = 0 then
          ({ s2 with fls := { s2.fls with reqs := adel s2.fls.reqs req } }.answer q.reply .noResource true
            (leBytes 4 (q.offset + i))).tryDelete q.extent
        else { s2 with fls := { s2.fls with reqs := aput s2.fls.reqs req q2 } }
    s1.fls.reqs.foldl (fun (x : State) (p : Nat × FlsReq) => cut x p.1 p.2) s1

/-- Take a superblock: its FREE blocks become OPEN together (R326, R327). -/
def State.openSuper (s : State) (block : Nat) : State :=
  (s.superblock block).foldl (fun (a : State) k => if (a.fblock k).state = .free then a.blockTo k .opened else a) s

/-- A unit cannot be programmed now: in HOLD (R332), on a lost die (R331) or a channel stopped by its temperature (R337), in a block that is
neither FREE nor OPEN, over a programmed unit, or while a write to the group waits for a relocation (R328). -/
def State.programBlocked (s : State) (w : FlsWrite) (pua : Nat) : Bool :=
  let k := s.blockOf pua
  s.fls.hold || s.fls.lostDies.contains (pua / 2 ^ 21) || (s.fls.chans.getD (channelOf pua) FlsChan.reset).stopped ||
    !((s.fblock k).state == .free || (s.fblock k).state == .opened) || (afind s.fls.hdrs pua).isSome ||
    (w.ukind == .data && s.throttledWrite (groupOf k))

/-- What a program means for the group's throttle (R328): below GC_CRIT a relocation lets one write go on. -/
def State.throttleStep (s : State) (w : FlsWrite) (group : Nat) : State :=
  let n := agetD s.fls.relocated group 0
  let m := if max 1 (s.fld Reg.flsGcCfg 7 0) ≤ s.freeSupers group then 0 else if w.ukind = .gcCopy then n + 1 else n - 1
  { s with fls := { s.fls with relocated := if m = 0 then adel s.fls.relocated group else aput s.fls.relocated group m } }

/-- The row of a programmed unit, once it is programmed on every die of the superblock, gets its parity unit (R326). -/
def State.parityStep (s : State) (pua : Nat) : State :=
  let k := s.blockOf pua
  if (s.superblock k).all fun b => (s.fblock b).state == .retired || (afind s.fls.hdrs (b + (pua - k))).isSome then
    { s with fls := { s.fls with
        parity := s.rowOf pua :: s.fls.parity,
        health := { s.fls.health with nandUnits := satAdd (2 ^ 64 - 1) s.fls.health.nandUnits 1 } } }
  else s

/-- A copy of a unit of a block stands in another block, for the block itself and for those whose copies the retired block holds (R329, R330). -/
def State.copiedTo (s : State) (source block : Nat) : State :=
  let s1 := s.modBlock source fun x => { x with copies := block :: x.copies }
  if (s.fblock source).state = .retired then
    { s1 with fls := { s1.fls with
        blocks := amap (fun x => if x.copies.contains source then { x with copies := block :: x.copies } else x) s1.fls.blocks } }
  else s1

/-- UNIT_PROGRAM_COMPLETE (R323, R326, R327): the program of a write succeeds at a PUA of a FREE or OPEN block, whose superblock is taken; its
record is appended; the row's last unit brings its parity; the block's last row makes it CLOSING. -/
def execUnitProgramComplete (seq pua : Nat) (s : State) : Host.Outcome State Fault Refusal :=
  match s.fls.writes.find? (fun w => w.seq == seq) with
  | none => .next s
  | some w =>
    let k := s.blockOf pua
    if s.programBlocked w pua then .next s
    else
      let s1 := (s.throttleStep w (groupOf k)).openSuper k
      let s2 := { s1 with fls := { s1.fls with
        writes := s1.fls.writes.filter fun x => x.seq != seq,
        data := memCopy s1.fls.staged (seq * 65536) s1.fls.data (pua * 65536) 65536,
        hdrs := aput s1.fls.hdrs pua { lua := w.lua, extent := w.extent, ukind := w.ukind, seq := seq },
        health := { s1.fls.health with
          nandUnits := satAdd (2 ^ 64 - 1) s1.fls.health.nandUnits 1,
          hostUnits := satAdd (2 ^ 64 - 1) s1.fls.health.hostUnits (if w.ukind = UKind.data then 1 else 0) } } }
      let s3 := if w.ukind = .gcCopy then
          (s2.copiedTo (s2.blockOf w.source) k).journal
            { jrec .gcMap with seq := seq, extent := w.extent, lua := w.lua, newPua := pua, oldPua := w.source }
        else
          s2.journal { jrec .map with seq := seq, extent := w.extent, lua := w.lua, newPua := pua,
                                      oldPua := (afind s2.fls.map w.lua).getD 0xFFFFFFFF, req := w.req, index := w.index }
      let s4 := s3.parityStep pua
      .next (if pua - k = max 1 s.nand.unitsPerBlock - 1 then s4.modBlock k fun x => { x with state := .closing } else s4)

/-- PROGRAM_FAILURE (R330, R331): the block is retired, its mapped units are relocated, the write stays staged for another block. -/
def execProgramFailure (seq pua : Nat) (dieLost : Bool) (s : State) : Host.Outcome State Fault Refusal :=
  if s.fls.hold ∨ ¬ (s.fls.writes.any fun w => w.seq == seq) then .next s
  else
    let k := s.blockOf pua
    let c := channelOf pua
    let die := pua / 2 ^ 21
    let s1 := ((s.count Reg.flsCntProgFail 1).note (0x300 + c) 0x602 die).blockTo k .retired
    let s2 := { s1 with fls := { s1.fls with retired := s1.fls.retired + 1 } }
    let due := s2.fls.tail.filter fun r => (r.type == .map || r.type == .gcMap) && s2.blockOf r.newPua == k
    let s3 := due.foldl (fun (x : State) r => x.beginCopy r.lua r.newPua) (s2.copyOut k)
    let s4 := if dieLost then
        { s3 with fls := { s3.fls with
            lostDies := if s3.fls.lostDies.contains die then s3.fls.lostDies else die :: s3.fls.lostDies,
            chans := s3.fls.chans.modify c fun x => { x with diesOk := x.diesOk - 1 } } }.post
          (fault (0x300 + c) 0x604 2 die)
      else s3
    .next s4.checkSpare

/-! ### Reading (R317) -/

/-- A damaged unit can be rebuilt from its row: its block is OPEN or CLOSING and the row's parity is held (R317, R326). -/
def State.rebuildable (s : State) (pua : Nat) : Bool :=
  let b := (s.fblock (s.blockOf pua)).state
  (b == .opened || b == .closing) && s.fls.parity.contains (s.rowOf pua)

/-- How a codeword's decoding ended: parity rebuilds only where its row allows it, and a unit of a lost die has nothing else (R331). -/
def State.decodeHow (s : State) (pua : Nat) (how : DecodeEnd) : DecodeEnd :=
  if how = .parity ∨ s.fls.lostDies.contains (pua / 2 ^ 21) then (if s.rebuildable pua then .parity else .unreadable) else how

/-- What a codeword's decoding counted, and the refresh mark. -/
def State.decoded (s : State) (pua bits_ : Nat) (end_ : DecodeEnd) : State :=
  let how := s.decodeHow pua end_
  let retries := match how with | .hard => 0 | .retry n => n | _ => s.nand.retry
  let soft : Nat := match how with | .soft => 1 | .parity => 1 | .unreadable => 1 | _ => 0
  let s1 := (s.count Reg.flsCntRetry retries).count Reg.flsCntSoft soft
  let s2 := { s1 with fls := { s1.fls with health := { s1.fls.health with
    soft := satAdd 0xFFFFFFFF s1.fls.health.soft soft } } }
  if how ≠ .hard ∨ s.fld Reg.flsMediaCfg 15 8 < bits_ then s2.modBlock (s.blockOf pua) fun x => { x with refresh := true } else s2

/-- Step 5 of R317: the unit is unreadable. -/
def State.unreadable (s : State) (pua : Nat) : State :=
  let s4 := (s.count Reg.flsCntUncorr 1).post
    { fault (0x300 + channelOf pua) 0x601 1 pua with status := .tierError, retried := true }
  { s4 with fls := { s4.fls with health := { s4.fls.health with uncorr := satAdd 0xFFFFFFFF s4.fls.health.uncorr 1 } } }

/-! ### Blocks (R327 to R329, R331) -/

/-- BLOCK_VERIFY (R327): a CLOSING block read back. -/
def execBlockVerify (block worst : Nat) (bad : List Nat) (s : State) : Host.Outcome State Fault Refusal :=
  if (s.fblock block).state ≠ .closing then .next s
  else if bad.isEmpty ∧ worst ≤ s.fld Reg.flsMediaCfg 7 0 then
    let s1 := (s.blockTo block .closed).modBlock block fun b => { b with age := s.fls.closed }
    let row := s.rowOf block
    .next { s1 with fls := { s1.fls with
      closed := s1.fls.closed + 1,
      parity := if (s1.superblock block).all fun k => (s1.fblock k).state == .closed || (s1.fblock k).state == .retired then
          s1.fls.parity.filter fun p => decide (p < row ∨ row + max 1 s.nand.unitsPerBlock ≤ p)
        else s1.fls.parity } }
  else .next (((s.blockTo block .source).modBlock block fun b => { b with retire := true }).copyOut block)

/-- A superblock is CLOSED (R328): every block of it that is not retired is, and one at least. -/
def State.superClosed (s : State) (block : Nat) : Bool :=
  let states := (s.superblock block).map fun k => (s.fblock k).state
  states.contains .closed && states.all fun t => t == .closed || t == .retired

/-- The CLOSED superblocks of a parity group, each by its blocks. -/
def State.closedSupers (s : State) (group : Nat) : List (List Nat) :=
  (((s.fls.blocks.filter fun q => groupOf q.1 == group && s.superClosed q.1).map fun q => s.superblock q.1).eraseDups).map fun l =>
    l.filter fun k => (s.fblock k).state == .closed

/-- Valid units of a superblock, its least erase count, the age of the block closed last, and whether a block of it is marked for refresh. -/
def State.superValid (s : State) (l : List Nat) : Nat := l.foldl (fun a k => a + (s.validUnits k).length) 0

def State.superErases (s : State) (l : List Nat) : Nat := ((l.map fun k => (s.fblock k).erases).min?).getD 0

def State.superAge (s : State) (l : List Nat) : Nat := l.foldl (fun a k => max a (s.fblock k).age) 0

def State.superRefresh (s : State) (l : List Nat) : Bool := l.any fun k => (s.fblock k).refresh

/-- A victim that R328 allows: a superblock marked for refresh before any other; in wear levelling one with the lowest erase count; else, below
GC_LOW, one with the fewest valid units, and among equals the oldest. -/
def State.victimOk (s : State) (group victim : Nat) : Bool :=
  let all := s.closedSupers group
  let v := (s.superblock victim).filter fun k => (s.fblock k).state == .closed
  let counts := (s.fls.blocks.filter fun q => groupOf q.1 == group).map fun q => q.2.erases
  let spread := counts.foldl max 0 - (counts.min?.getD 0)
  if all.any s.superRefresh then s.superRefresh v
  else if max 1 (s.fld Reg.flsGcCfg 31 16) < spread then all.all fun l => decide (s.superErases v ≤ s.superErases l)
  else
    decide (s.freeSupers group < s.fld Reg.flsGcCfg 15 8) &&
      all.all fun l => decide (s.superValid v < s.superValid l) || (s.superValid v == s.superValid l && decide (s.superAge v ≤ s.superAge l))

/-- Make the CLOSED blocks of a superblock SOURCE and copy their valid units (R327, R328). -/
def State.collect (s : State) (victim : Nat) : State :=
  ((s.superblock victim).filter fun k => (s.fblock k).state == .closed).foldl
    (fun (a : State) k => (a.blockTo k .source).copyOut k) s

/-- GC_START (R328): garbage collection of a group begins on a victim; none begins in READ_ONLY or HOLD. -/
def execGcStart (group victim : Nat) (s : State) : Host.Outcome State Fault Refusal :=
  if s.fls.hold ∨ s.fls.readOnly ∨ s.superClosed victim = false ∨ groupOf victim ≠ group ∨ ¬ s.victimOk group victim then .next s
  else .next (s.collect victim)

/-- The conditions of R329 for an erase of a SOURCE block: nothing of it is mapped, no copy of it or of a failed copy (R330) is under way or
not durable, and every block with its copies is verified. -/
def State.erasable (s : State) (block : Nat) : Bool :=
  let b := s.fblock block
  let mine (k : Nat) : Bool := k == block || (b.copies.contains k && (s.fblock k).state == .retired)
  (s.validUnits block).isEmpty &&
  s.fls.writes.all (fun w => !(w.ukind == .gcCopy && mine (s.blockOf w.source))) &&
  s.fls.tail.all (fun r => !(r.type == .gcMap && mine (s.blockOf r.oldPua))) &&
  b.copies.all fun k => (s.fblock k).state != .opened && (s.fblock k).state != .closing

/-- SOURCE_ERASE (R329). -/
def execSourceErase (block : Nat) (s : State) : Host.Outcome State Fault Refusal :=
  if s.fls.hold ∨ (s.fblock block).state ≠ .source ∨ ¬ s.erasable block then .next s
  else .next (s.modBlock block fun b => { b with state := .erasing })

/-- Forget the units of an erased block. -/
def State.clearBlock (s : State) (block : Nat) : State :=
  let n := max 1 s.nand.unitsPerBlock
  { s with fls := { s.fls with data := memZero s.fls.data (block * 65536) (n * 65536),
                               hdrs := s.fls.hdrs.filter fun q => q.1 < block || block + n ≤ q.1 } }

/-- ERASE_COMPLETE (R327, R331). -/
def execEraseComplete (block : Nat) (ok : Bool) (s : State) : Host.Outcome State Fault Refusal :=
  let b := s.fblock block
  if s.fls.hold ∨ b.state ≠ .erasing then .next s
  else
    let s1 := s.clearBlock block
    if ok ∧ ¬ b.retire then
      .next ((s1.modBlock block fun x => { x with erases := x.erases + 1, copies := [], refresh := false }).blockTo block .free)
    else
      let s2 := if ok then s1 else s1.count Reg.flsCntEraseFail 1
      let s3 := s2.blockTo block .retired
      .next { s3 with fls := { s3.fls with retired := s3.fls.retired + 1 } }.checkSpare

/-! ### Temperature (R337) -/

/-- The column of TEMP_HIST for a temperature (R338). -/
def tempBand (t : Nat) : Nat := if t < 40 then 0 else if t < 55 then 1 else if t < 70 then 2 else if t < 85 then 3 else 4

/-- One channel's hottest die: HOT at 85 °C, programs stopped with a note at 95 °C; die-seconds per band. -/
def State.nandTemp (s : State) (c t : Nat) : State :=
  let x := s.fls.chans.getD c FlsChan.reset
  if !x.inService || !s.nand.tempFeature then s
  else
    let stop := threshold x.stopped 95 t
    let s1 := { s with fls := { s.fls with
      chans := s.fls.chans.modify c fun y => { y with temp := min 255 t, hot := threshold x.hot 85 t, stopped := stop },
      tempMax := max s.fls.tempMax (min 255 t),
      health := { s.fls.health with tempMax := max s.fls.health.tempMax (min 255 t),
                                    hist := s.fls.health.hist.modify (tempBand t) (· + x.diesOk) } } }
    if stop && !x.stopped then s1.note (0x300 + c) 0x205 (64 * c) else s1

/-- NAND_TEMP_READ (R337). -/
def execNandTempRead (temps : List Nat) (s : State) : Host.Outcome State Fault Refusal :=
  .next ((List.range 32).foldl (fun (x : State) c =>
    match temps[c]? with
    | some t => x.nandTemp c t
    | none => x) s)

/-! ### Start-up, format, hold -/

/-- Channels 0 to n − 1 form a population (R313). -/
def nandPopulationOk (l : List NandFit) (n : Nat) : Bool :=
  match l with
  | [] => false
  | a :: _ =>
    (l.take n).length == n && [1, 2, 4, 8].contains a.ce && [1, 2, 4, 8].contains a.luns &&
      (l.take n).all fun x => x.trained && x.ce == a.ce && x.luns == a.luns && x.entry == a.entry && x.dies != 0

/-- The number of channels in service (R313); 0 for none. -/
def nandPopulation (l : List NandFit) : Nat := ([32, 16, 8, 4].find? (nandPopulationOk l)).getD 0

/-- The owner of the flash map's carve-out. -/
def flsOwner : Nat := 5

/-- Take the channels of the board's population into service; a note for each die that matches no entry and for each fitted channel
that stays out (R312, R313). -/
def State.flsPopulate (s : State) : State :=
  let n := nandPopulation s.board.nand
  let a := s.nand
  let chans : List FlsChan := (List.range 32).map fun c =>
    match s.board.nand[c]? with
    | some x => { FlsChan.reset with present := decide (x.dies + x.bad ≠ 0), inService := decide (c < n),
                                     rate := if c < n then x.rate else 0, diesOk := if c < n then x.dies else 0 }
    | none => FlsChan.reset
  let s1 := { s with fls := { s.fls with chans := chans, dies := if n = 0 then 0 else a.ce * a.luns, density := a.density } }
  s.board.nand.zipIdx.foldl (fun (x : State) q =>
    let y := if q.1.bad = 0 then x else x.note (0x300 + q.2) 0x204 (64 * q.2)
    if q.1.dies + q.1.bad ≠ 0 ∧ n ≤ q.2 then y.note (0x300 + q.2) 0x204 q.2 else y) s1

/-- Set FLS_CTRL.ENABLE (R321, R335): population, the map's carve-out, then UNFORMATTED or RECOVERING. Without a population the FTL
runs with no T2; a carve-out that fails leaves ENABLE 0 with a note. -/
def State.flsEnable (s : State) : State :=
  let s1 := s.flsPopulate
  if s1.fls.channels = 0 then s1
  else
    let units := s1.fls.capacity (if s1.fls.op = 0 then 12 else s1.fls.op)
    match s1.carve flsOwner (4 * units) with
    | none => (s1.setFld Reg.flsCtrl 0 0 0).note 0x300 0x003 (4 * units)
    | some (_, s2) =>
      if s2.fls.op = 0 then { s2 with fls := { s2.fls with unformatted := true } }
      else { s2 with fls := { s2.fls with recovering := true, userUnits := units } }

/-- FLASH_FORMAT carried out (R319, R338): every block erased, OP set, the counters of FLASH_HEALTH cleared. -/
def State.formatNow (s : State) (r : ReplyTo) (op : Nat) : State :=
  let f := s.fls
  let s1 := (s.uncarve flsOwner)
  let units := f.capacity op
  let s2 := match s1.carve flsOwner (4 * units) with
    | some (_, x) => x
    | none => s1
  let kept := f.blocks.map fun q =>
    (q.1, if q.2.state = .retired then q.2 else { q.2 with state := .free, erases := q.2.erases + 1, refresh := false, retire := false, copies := [] })
  let spare := s.totalBlocks * op / 100 - (kept.filter fun q => q.2.state == .retired).length
  { s2 with fls := { f with
      op := op, userUnits := units, unformatted := false, ready := true, readOnly := false, map := [], data := [], hdrs := [], parity := [], relocated := [],
      blocks := kept, eraseBase := f.eraseBase + 1, extents := [], tail := [], ring := [], committing := 0, dirty := [],
      checkpoint := [], reqs := [], writes := [], staged := [], spareAtFormat := spare, retired := 0,
      health := FlsHealth.zero, formatting := none } }.answer r .ok true []

/-- Enter HOLD (R332): no new program or erase; the journal tail is committed, once. -/
def State.flsHold (s : State) (forever : Bool) : State :=
  { s with fls := { s.fls with hold := true, holdForever := s.fls.holdForever || forever,
                               committing := if s.fls.hold then s.fls.committing else s.fls.tail.length } }

/-- Leave HOLD (R334), unless a level 3 fault or a shut-down keeps it (R478, R519); a waiting format is then carried out. -/
def State.flsRelease (s : State) : State :=
  if s.fls.holdForever ∨ ¬ s.fls.hold then s
  else
    let s1 := { s with fls := { s.fls with hold := false } }
    match s1.fls.formatting with
    | some (r, op) => s1.formatNow r op
    | none => s1

/-- Replay the durable journal over the last checkpoint in SEQ order (R335). -/
def Fls.replay (f : Fls) : Fls :=
  let recs := f.ring.mergeSort fun a b => decide (a.seq ≤ b.seq)
  recs.foldl (fun g r => match r.type with | .extent => g | _ => g.applyRec r) { f with map := f.checkpoint }

/-- A unit that a durable record or the checkpoint maps (R335). -/
def Fls.durablyMapped (f : Fls) (pua : Nat) : Bool :=
  f.ring.any (fun r => (r.type == .map || r.type == .gcMap) && r.newPua == pua) || f.checkpoint.any fun q => q.2 == pua

/-- The units of OPEN and CLOSING blocks (R335). -/
def State.openUnits (s : State) : List (Nat × UnitHdr) :=
  s.fls.hdrs.filter fun q => let b := (s.fblock (s.blockOf q.1)).state; b == .opened || b == .closing

/-- FTL_RECOVERY_COMPLETE (R335, R336): the map from checkpoint and journal; in OPEN and CLOSING blocks, orphans counted and mapped units that do
not decode rebuilt; those blocks closed and left for their verification; transient extents deleted. -/
def execFtlRecoveryComplete (bad : List Nat) (s : State) : Host.Outcome State Fault Refusal :=
  if !s.fls.recovering then .next s
  else
    let orphans := s.openUnits.filter fun q =>
      (decide (s.fls.lastDurable < q.2.seq) || bad.contains q.1) && !s.fls.durablyMapped q.1
    let rebuilt := s.openUnits.filter fun q => bad.contains q.1 && s.fls.durablyMapped q.1
    let s0 := (s.count Reg.flsCntOrphan orphans.length).count Reg.flsCntSoft rebuilt.length
    let s1 := { s0 with fls := { s0.fls with health := { s0.fls.health with
      soft := satAdd 0xFFFFFFFF s0.fls.health.soft rebuilt.length } } }
    let f := s1.fls.replay
    let gone := f.extents.filter fun q => !q.2.persistent
    let g := gone.foldl (fun (x : Fls) q =>
      { (q.2.ranges.foldl (fun y r => y.unmap r.1 r.2 y.lastDurable) x) with extents := adel x.extents q.1 }) f
    .next { s1 with fls := { g with
      recovering := false, ready := true,
      blocks := g.blocks.map fun q => (q.1, if q.2.state = .opened then { q.2 with state := .closing } else q.2) } }

/-! ### The flash opcodes (R318 to R320, R338) -/

/-- What every flash opcode is answered before its own checks: PARTITION_BUSY in recovery (R453), NO_RESOURCE without T2 (R313). -/
def State.flsRefusal (s : State) : Option Status :=
  if s.fls.recovering then some .partitionBusy else if s.fls.channels = 0 then some .noResource else none

/-- Serve a flash opcode. -/
def State.serveFlash (s : State) (q : PktReq) (h : Header) (body : ReplyTo → State → State) : State :=
  s.serve q h false fun r x =>
    match x.flsRefusal with
    | some st => x.done r st
    | none => body r x

/-- A PF0 flash opcode. -/
def flsReq (op replies params rsv addrs : Nat) (vf : Bool) : PktReq :=
  { op := op, replies := replies, vf := vf, tenant := false, params := params, rsv := rsv, addrs := addrs, localOnly := false }

/-- FLASH_FORMAT (R319). -/
def execFlashFormat (h : Header) (op rsv : Nat) (s : State) : Host.Outcome State Fault Refusal :=
  .next (s.serveFlash (flsReq 0x0700 2 4 rsv 0 false) h fun r x =>
    if op < 7 ∨ 50 < op then x.done r .badField
    else if !x.flag Reg.flsCtrl 2 then x.done r .protection
    else if !x.fls.extents.isEmpty then x.done r .partitionBusy
    else
      let a := x.accepted r
      if a.1.fls.hold then { a.1 with fls := { a.1.fls with formatting := some (a.2, op) } } else a.1.formatNow a.2 op)

/-- An extent of n units, placed first-fit (R318). -/
def State.newExtent (s : State) (id : Nat) (persistent : Bool) (owner : Option (Fin 16)) (n : Nat) : Option State :=
  if s.fls.freeUnits < n then none
  else
    match s.fls.place n with
    | none => none
    | some b => some ({ s with fls := { s.fls with extents := aput s.fls.extents id { persistent := persistent, owner := owner, ranges := [(b, n)], limit := n, deleting := none } } }.journal
          { jrec .extent with extent := id, lua := b })

/-- FLASH_EXTENT_CREATE (R318). -/
def execFlashExtentCreate (h : Header) (ext kind owner units : Nat) (s : State) : Host.Outcome State Fault Refusal :=
  .next (s.serveFlash (flsReq 0x0701 1 8 0 0 false) h fun r x =>
    if 991 < ext ∨ 1 < kind ∨ ¬ (owner < 16 ∨ owner = 0xFF) ∨ (afind x.fls.extents ext).isSome then x.done r .badField
    else
      match x.newExtent ext (kind == 0) (if h : owner < 16 then some ⟨owner, h⟩ else none) units with
      | none => x.done r .noResource
      | some y => y.done r .ok)

/-- FLASH_EXTENT_DELETE (R319). -/
def execFlashExtentDelete (h : Header) (ext rsv : Nat) (s : State) : Host.Outcome State Fault Refusal :=
  .next (s.serveFlash (flsReq 0x0702 2 4 rsv 0 false) h fun r x =>
    match afind x.fls.extents ext with
    | none => x.done r .badField
    | some e =>
      if 991 < ext ∨ e.deleting.isSome then x.done r .badField
      else
        let a := x.accepted r
        { a.1 with fls := { a.1.fls with extents := aput a.1.fls.extents ext { e with deleting := some a.2 } } }.tryDelete ext)

/-- A request's extent (R319): one that exists, is not being deleted, and that the function may name; the range lies within it, and a write or
read has 1 to 4,096 units. -/
def State.flsExtent (s : State) (h : Header) (ext offset count : Nat) (transfer : Bool) : Except Status Extent :=
  match afind s.fls.extents ext with
  | none => .error .badField
  | some e =>
    if e.deleting.isSome then .error .badField
    else if (match h.origin.partition with | some p => e.owner != some p | none => e.owner.isSome) then .error .protection
    else if (transfer = true ∧ (count = 0 ∨ 4096 < count)) ∨ e.units < offset + count then .error .badField
    else .ok e

/-- The function whose addresses a packet names (R451). -/
def Origin.fn (o : Origin) : Nat := match o.partition with | some p => partFn p.val | none => 0

/-- Read a packet's source: a host bus address through PF0, or a VA of the partition. -/
def State.readAddr (s : State) (o : Origin) (addr n : Nat) : State × List Byte :=
  match o.partition with
  | some p =>
    match s.readVa p.val .thread addr n with
    | (s1, .ok l) => (s1, l)
    | (s1, .error _) => (s1, zeros n)
  | none => (s, memRead s.host.mem (hostKey 0 addr) n)

/-- Begin a FLASH_WRITE's units in order. -/
def State.beginUnits (s : State) (o : Origin) (req ext addr : Nat) (ranges : List (Nat × Nat)) (offset : Nat) :
    Nat → Nat → State
  | 0, _ => s
  | n + 1, i =>
    match luaOf ranges (offset + i) with
    | none => s
    | some lua =>
      let d := s.readAddr o (addr + 65536 * i) 65536
      (d.1.beginWrite { req := req, index := i, lua := lua, extent := ext, ukind := .data, seq := 0, source := 0 } d.2).beginUnits
        o req ext addr ranges offset n (i + 1)

/-- FLASH_WRITE (R319, R323, R331). -/
def execFlashWrite (h : Header) (ext offset count : Nat) (addr : BitVec 64) (rsv : Nat) (s : State) :
    Host.Outcome State Fault Refusal :=
  .next (s.serveFlash (flsReq 0x0703 2 24 rsv addr.toNat true) h fun r x =>
    match x.flsExtent h ext offset count true with
    | .error st => x.done r st
    | .ok e =>
      if x.fls.readOnly then x.answer r .noResource true (leBytes 4 offset)
      else
        let a := x.accepted r
        let id := a.1.fls.nextReq
        { a.1 with fls := { a.1.fls with nextReq := id + 1, reqs := aput a.1.fls.reqs id { reply := a.2, extent := ext, offset := offset, left := count, firstBad := none } } }.beginUnits
          h.origin id ext addr.toNat e.ranges offset count 0)

/-- The bytes of a logical unit: zeros where unmapped (R320). -/
def Fls.unitBytes (f : Fls) (lua : Nat) : List Byte :=
  match afind f.map lua with
  | some p => memRead f.data (p * 65536) 65536
  | none => zeros 65536

/-- A run of numbers. -/
def runFrom (first n : Nat) : List Nat := (List.range n).map fun k => first + k

/-- Deliver a FLASH_READ's units in order; the bytes of those named are undefined. -/
def State.readUnits (s : State) (o : Origin) (addr : Nat) (ranges : List (Nat × Nat)) (offset : Nat) (bad : List Nat) :
    Nat → Nat → State
  | 0, _ => s
  | n + 1, i =>
    match luaOf ranges (offset + i) with
    | none => s
    | some lua =>
      let s1 := if bad.contains (offset + i) && (afind s.fls.map lua).isSome then
          { s with freeCtr := s.freeCtr + 65536 }.writeAddr o (addr + 65536 * i) (freeBytes s.freeCtr 65536)
        else s.writeAddr o (addr + 65536 * i) (s.fls.unitBytes lua)
      s1.readUnits o addr ranges offset bad n (i + 1)

/-- FLASH_READ (R319): readable units are delivered; the final reply names the first unreadable one. -/
def execFlashRead (h : Header) (ext offset count : Nat) (addr : BitVec 64) (unreadable : List Nat) (rsv : Nat) (s : State) :
    Host.Outcome State Fault Refusal :=
  .next (s.serveFlash (flsReq 0x0704 2 24 rsv addr.toNat true) h fun r x =>
    match x.flsExtent h ext offset count true with
    | .error st => x.done r st
    | .ok e =>
      let a := x.accepted r
      let bad := (runFrom offset count).filter fun u =>
        match (luaOf e.ranges u).bind fun l => afind a.1.fls.map l with
        | some p => unreadable.contains u || (a.1.fls.lostDies.contains (p / 2 ^ 21) && !a.1.rebuildable p)
        | none => false
      let y := a.1.readUnits h.origin addr.toNat e.ranges offset bad count 0
      match bad.min? with
      | some u => y.answer a.2 .tierError true (leBytes 4 u)
      | none => y.answer a.2 .ok true [])

/-- UNMAP records for the units of a range, one for each run of LUAs (R320, R322). -/
def State.unmapRange (s : State) (ext : Nat) : List (Nat × Nat) → Nat → Nat → State
  | [], _, _ => s
  | (b, n) :: t, offset, count =>
    if n ≤ offset then s.unmapRange ext t (offset - n) count
    else if count = 0 then s
    else
      let m := min count (n - offset)
      (s.journal { jrec .unmap with extent := ext, lua := b + offset, newPua := m }).unmapRange ext t 0 (count - m)

/-- FLASH_DISCARD (R320): OK at once; applied while the journal tail is less than half full and DISCARD_EN is 1. -/
def execFlashDiscard (h : Header) (ext offset count rsv : Nat) (s : State) : Host.Outcome State Fault Refusal :=
  .next (s.serveFlash (flsReq 0x0705 1 12 rsv 0 true) h fun r x =>
    match x.flsExtent h ext offset count false with
    | .error st => x.done r st
    | .ok e =>
      let y := if x.flag Reg.flsCtrl 1 ∧ x.fls.tail.length * 32 < 131072 then x.unmapRange ext e.ranges offset count else x
      y.done r .ok)

/-- The largest and the summed erase counts over the dies in service. -/
def State.wear (s : State) : Nat × Nat :=
  let l := avals s.fls.blocks
  (l.foldl (fun a b => max a b.erases) s.fls.eraseBase,
    l.foldl (fun a b => a + b.erases) 0 + (s.totalBlocks - l.length) * s.fls.eraseBase)

/-- Average erase count. -/
def State.wearAvg (s : State) : Nat := if s.totalBlocks = 0 then 0 else s.wear.2 / s.totalBlocks

/-- The hottest die now; 0 without the temperature feature (R342). -/
def Fls.tempNow (f : Fls) : Nat := f.chans.foldl (fun a c => if c.inService then max a c.temp else a) 0

/-- The record of R338. -/
def State.healthRecord (s : State) : List Byte :=
  let f := s.fls
  leBytes 2 f.spare ++ leBytes 2 (min 0xFFFF (if s.nand.rated = 0 then 0 else s.wearAvg * 1000 / s.nand.rated)) ++
    leBytes 4 (min 0xFFFFFFFF s.wearAvg) ++ leBytes 4 (min 0xFFFFFFFF s.wear.1) ++ leBytes 4 (min 0xFFFFFFFF f.retired) ++
    leBytes 8 f.health.hostUnits ++ leBytes 8 f.health.nandUnits ++ leBytes 4 f.health.uncorr ++ leBytes 4 f.health.soft ++
    leBytes 1 f.tempNow ++ leBytes 1 f.health.tempMax ++ zeros 2 ++
    (f.health.hist.map fun n => leBytes 4 (min 0xFFFFFFFF (n / 3600))).flatten

/-- FLASH_HEALTH (R338). -/
def execFlashHealth (h : Header) (outAddr : BitVec 64) (s : State) : Host.Outcome State Fault Refusal :=
  .next (s.serveFlash (flsReq 0x0706 1 8 0 outAddr.toNat false) h fun r x =>
    (x.writeAddr h.origin outAddr.toNat x.healthRecord).done r .ok)

end Sys2Proof.Machine
end

