-- ==== Sys2Proof/Machine/Links.lean ====
section
/-!
DEFINITION. Machine/Links.lean: the wiring, the choice of the next flit (chapters 11 and 13), routing, and what a port's queues and
credits do. Ports' events stand in Machine/Ports.lean.
-/
namespace Sys2Proof.Machine

/-! ### Wiring (R358, R359) -/

/-- The local port over which member a reaches member b (R358). -/
def localPort (a b : Nat) : Nat := (b + 31 - a) % 32

/-- The member that member a reaches over local port p (R358). -/
def localPeer (a p : Nat) : Nat := (a + p + 1) % 32

/-- H of R359. -/
def State.harnesses (s : State) : Nat := s.fld Reg.lnkTopo 9 0

/-- A harness is present (R376): this device's own always is, others below H by LNK_HPRESENT. -/
def State.hPresent (s : State) (h : Nat) : Bool :=
  h == harness s.me || (decide (h < s.harnesses) && s.flag (Reg.lnkHpresent (h / 32)) (h % 32))

/-- Where global end k of harness h is wired (R359): the far harness and its end. -/
def wired (hs h k : Nat) : Option (Nat × Nat) :=
  if hs < 2 ∨ 1024 / (hs - 1) * (hs - 1) ≤ k then none
  else some ((h + k % (hs - 1) + 1) % hs, k / (hs - 1) * (hs - 1) + (hs - k % (hs - 1) - 2))

/-- The neighbour that R358 and R359 give a port: device ID and port. -/
def State.expected (s : State) (p : Nat) : Option (DeviceId × Nat) :=
  let h := harness s.me
  let m := member s.me
  if p < 31 then some (BitVec.ofNat 16 (32 * h + localPeer m p), 30 - p)
  else if p < 63 then
    (wired s.harnesses h (32 * m + (p - 31))).map fun f => (BitVec.ofNat 16 (32 * f.1 + f.2 / 32), f.2 % 32 + 31)
  else none

/-- A port. -/
def State.port (s : State) (p : Nat) : Port := s.lnk.ports.getD p Port.reset

/-- Change a port. -/
def State.modPort (s : State) (p : Nat) (f : Port → Port) : State :=
  { s with lnk := { s.lnk with ports := s.lnk.ports.modify p f } }

/-- A port is UP. -/
def State.isUp (s : State) (p : Nat) : Bool := (s.port p).state == PortState.up

/-! ### Packets and flits (R348 to R352) -/

/-- The flits of a packet: header, payload and trailer in bodies of 62 bytes. -/
def Packet.flits (p : Packet) : Nat := ceilDiv (36 + p.len) 62

/-- The bytes of a packet on a link: header, payload, trailer. -/
def Packet.size (p : Packet) : Nat := 36 + p.len

/-- The 16 bytes of XPORT (R388). -/
def XPort.bytes (x : XPort) : List Byte :=
  leBytes 4 (x.inc.val * 2 ^ 20 + x.conn.val) ++ leBytes 4 x.seq.toNat ++ leBytes 4 x.ack.toNat ++ leBytes 2 x.tag.toNat ++
    leBytes 1 (128 * b2n x.echo + 64 * b2n x.retx + 32 * b2n x.first + 16 * b2n x.last + 8 * b2n x.ordered + x.rsv.val) ++
    leBytes 1 x.age.toNat

/-- Bytes 0x00 to 0x0D of the header (R351). -/
def Packet.lead (p : Packet) : List Byte :=
  leBytes 1 p.type.toNat ++ leBytes 1 (128 * b2n p.cmark + 64 * b2n p.nonmin + bits p.rsv 5 0) ++ leBytes 2 p.dst.toNat ++
    leBytes 2 p.src.toNat ++ leBytes 2 p.tenant.toNat ++ leBytes 1 (128 * bits p.rsv 6 6 + 16 * p.cls.val + p.part.val) ++
    leBytes 1 (8 * bits p.rsv 11 7 + p.hops.val) ++
    leBytes 2 (2 ^ 15 * b2n p.viaValid + 2 ^ 14 * b2n p.viaMember + 512 * bits p.rsv 16 12 + p.via.val) ++ leBytes 2 p.len

/-- HCRC (R352): polynomial 0x1021, initial value 0xFFFF, no reflection, no final XOR. -/
def Packet.crc (p : Packet) : BitVec 16 := BitVec.ofNat 16 (crcMsb 16 0x1021 0xFFFF 0 (p.lead ++ p.xp.bytes))

/-- Compute HCRC afresh. -/
def Packet.seal (p : Packet) : Packet := { p with hcrc := p.crc }

/-- The word of a flit header, in its fields' places (R348). -/
def FlitHdr.word (h : FlitHdr) : BitVec 16 :=
  BitVec.ofNat 16 (2 ^ 14 * h.kind.val + 2 ^ 11 * h.cls.val + 2 ^ 8 * h.stage.val + 2 ^ 7 * b2n h.head + 2 ^ 6 * b2n h.tail + h.len.val)

/-- The flit header that a word spells (R348). -/
def flitHdr (w : BitVec 16) : FlitHdr :=
  { kind := ⟨bits w.toNat 15 14 % 4, Nat.mod_lt _ (by decide)⟩, cls := ⟨bits w.toNat 13 11 % 8, Nat.mod_lt _ (by decide)⟩,
    stage := ⟨bits w.toNat 10 8 % 8, Nat.mod_lt _ (by decide)⟩, head := bitAt w.toNat 7, tail := bitAt w.toNat 6,
    len := ⟨bits w.toNat 5 0 % 64, Nat.mod_lt _ (by decide)⟩ }

/-- The header of a CTRL flit: LEN carries its subtype (R348, R353). -/
def ctrlHdr (nak : Bool) : FlitHdr :=
  { kind := 2, cls := 0, stage := 0, head := false, tail := false, len := if nak then 1 else 0 }

/-- The body of a CTRL flit (R349): the acknowledgement, then 40 counts of 12 bits from bit 16 up. -/
def ctrlBody (ack : BitVec 16) (counts : List Nat) : List Byte :=
  leBytes 62 (ack.toNat + 2 ^ 16 * counts.foldr (fun n v => n % 4096 + 4096 * v) 0)

/-- The acknowledgement of a CTRL flit's body. -/
def ctrlAck (body : List Byte) : BitVec 16 := BitVec.ofNat 16 (leNat body)

/-- The credit counts of a CTRL flit's body. -/
def ctrlCounts (body : List Byte) : List Nat := (List.range 40).map fun i => leNat body / 2 ^ (16 + 12 * i) % 4096

/-- Flits of a queued packet not yet sent. -/
def QPkt.left (q : QPkt) : Nat := q.flits - q.sent

/-- Depth of one class's queue [flits]. -/
def Port.depthOf (p : Port) (c : Nat) : Nat := (p.queues.getD c []).foldl (fun a q => a + q.left) 0

/-- Depth of a port's queues, all classes [flits]. -/
def Port.depth (p : Port) : Nat := (List.range 8).foldl (fun a c => a + p.depthOf c) 0

/-- The load level of R361. -/
def Port.level (p : Port) : Nat := if p.depth < 256 then 0 else if p.depth < 1024 then 1 else if p.depth < 4096 then 2 else 3

/-! ### Windows, gates and credit (R354, R423 to R430) -/

/-- MODE in force (R428): 3 is treated as 0. -/
def State.shpMode (s : State) : Nat := if s.fld Reg.shpCtrl 2 1 = 3 then 0 else s.fld Reg.shpCtrl 2 1

/-- What MODE and the strokes' state select now: true for the gate list (R428). -/
def State.gatesWanted (s : State) : Bool :=
  match s.shpMode with
  | 0 => !s.stk.running || s.stk.mismatch
  | 1 => true
  | _ => false

/-- Take over what MODE selects (R428): at a stroke boundary while strokes run, at once otherwise. -/
def State.takeGates (s : State) : State := { s with shp := { s.shp with gates := s.gatesWanted } }

/-- Entries of a gate bank (R437). -/
def State.gateLen (s : State) (b : Nat) : Nat := clamp 1 256 (s.fld (Reg.shpGateLen b) 8 0)

/-- A bank's cycle C (R429) [ns]. -/
def State.gateCycle (s : State) (b : Nat) : Nat :=
  (List.range (s.gateLen b)).foldl (fun a i => a + s.fld (Reg.shpGate b i) 23 0) 0

/-- The entry in force at a place in the cycle, and what is left of it [ns]. -/
def State.gateAt (s : State) (b : Nat) : Nat → Nat → Nat → Nat × Nat
  | 0, i, _ => (i, 0)
  | n + 1, i, t =>
    let d := s.fld (Reg.shpGate b i) 23 0
    if t < d then (i, d - t) else s.gateAt b n (i + 1) (t - d)

/-- The entry in force at an instant, and what is left of it. -/
def State.gateNow (s : State) (t : Nat) : Nat × Nat :=
  let c := s.gateCycle s.shp.bank
  s.gateAt s.shp.bank (s.gateLen s.shp.bank) 0 (if c = 0 then 0 else t % c)

/-- Class c is open in a gate entry. -/
def State.gateOpen (s : State) (i c : Nat) : Bool := s.flag (Reg.shpGate s.shp.bank i) (24 + c)

/-- Total duration of the entries from entry i on, cyclically, while class c stays open; none when it never closes. -/
def State.gateRun (s : State) (c : Nat) : Nat → Nat → Option Nat
  | 0, _ => none
  | n + 1, i =>
    if s.gateOpen i c then
      (s.gateRun c n ((i + 1) % s.gateLen s.shp.bank)).map fun r => r + s.fld (Reg.shpGate s.shp.bank i) 23 0
    else some 0

/-- As `gateRun`, backwards from entry i. -/
def State.gateBack (s : State) (c : Nat) : Nat → Nat → Nat
  | 0, _ => 0
  | n + 1, i =>
    if s.gateOpen i c then
      s.fld (Reg.shpGate s.shp.bank i) 23 0 + s.gateBack c n ((i + s.gateLen s.shp.bank - 1) % s.gateLen s.shp.bank)
    else 0

/-- When phase k of stroke n begins; k counts on into the next stroke (R48). -/
def StrokeCfg.phaseStart (c : StrokeCfg) (n k : Nat) : Nat :=
  let m := n + k / 5
  match k % 5 with
  | 0 => c.boundary m
  | 1 => c.point m c.issueAt
  | 2 => c.point m c.computeAt
  | 3 => c.point m c.exchangeAt
  | _ => c.point m c.commitAt

/-- The first of the phases after the k-th in which a window's mask is clear. -/
def windowEnd (mask : Nat) : Nat → Nat → Option Nat
  | 0, _ => none
  | n + 1, k => if bitAt mask (k % 5) then windowEnd mask n (k + 1) else some k

/-- How many phases before and with the k-th the mask is set without a gap. -/
def windowBack (mask : Nat) : Nat → Nat → Nat
  | 0, _ => 0
  | n + 1, k => if bitAt mask (k % 5) then 1 + windowBack mask n (k + 4) else 0

/-- For class c at an instant: whether it may send, how long its window or gate stays open (none: it never closes), and how long that
interval is in all (R426, R427, R429). -/
def State.openNow (s : State) (c t : Nat) : Bool × Option (Nat × Nat) :=
  if !s.flag Reg.shpCtrl 0 then (true, none)
  else if s.shp.gates then
    let g := s.gateNow t
    if !s.gateOpen g.1 c then (false, some (0, 0))
    else
      let n := s.gateLen s.shp.bank
      match s.gateRun c n g.1 with
      | none => (true, none)
      | some r =>
        let d := s.fld (Reg.shpGate s.shp.bank g.1) 23 0
        (true, some (r - (d - g.2), r - d + s.gateBack c n g.1))
  else if !s.stk.running then (true, none)
  else
    let mask := s.shp.windows.getD c 31
    let k := s.stk.phase.code
    if !bitAt mask k then (false, some (0, 0))
    else
      match windowEnd mask 5 k with
      | none => (true, none)
      | some e =>
        let n := s.stk.stroke
        let back := windowBack mask 5 (k + 5) - 1
        let close := s.stk.cfg.phaseStart n e
        let opened := if back ≤ k then s.stk.cfg.phaseStart n (k - back)
          else s.stk.cfg.phaseStart n (k + 5 - back) - s.stk.cfg.periodUs * 1000
        (true, some (close - t, close - opened))

/-- One flit's time [ps] (R346). -/
def flitTime (width : Nat) : Nat := 2560 / 2 ^ (width - 1)

/-- How a packet stands with its class's window or gate (R427): 0 it fits, 1 it waits, 2 the interval is too short for it, so it starts and
ends past the close. -/
def fitCode (o : Bool × Option (Nat × Nat)) (ps : Nat) : Nat :=
  if !o.1 then 1
  else
    match o.2 with
    | none => 0
    | some (left, whole) => if ps ≤ left * 1000 then 0 else if whole * 1000 < ps then 2 else 1

/-- Credit for one flit of class c and stage st (R354). -/
def State.creditOk (s : State) (p c st : Nat) : Bool :=
  let o (i : Nat) : Nat := (s.port p).out.getD (5 * c + i) 0
  let r := s.fld (Reg.lnkPReserve p) 6 0
  decide (o st < r) ||
    decide ((List.range 5).foldl (fun a i => a + (o i - r)) 0 < s.fld (Reg.lnkPCredit p c) 11 0 - 5 * r)

/-- The bounds of R355 hold at a port. -/
def State.creditBounds (s : State) (p : Nat) : Bool :=
  let a (c : Nat) : Nat := s.fld (Reg.lnkPCredit p c) 11 0
  let r := s.fld (Reg.lnkPReserve p) 6 0
  decide (4 ≤ r ∧ r ≤ 64) && (List.range 8).all (fun c => decide (a c ≤ 4032 ∧ 5 * r + 1 ≤ a c)) &&
    decide ((List.range 8).foldl (fun x c => x + a c) 0 ≤ if s.fld (Reg.lnkPCtrl p) 3 1 = 3 then 32768 else 16384) &&
    decide (1024 ≤ a 0)

/-! ### Output queues -/

/-- Bring a port's class 0 meter up to an instant (R433): 12.5 % of the flit rate, at most 256 flits. -/
def Port.refill (p : Port) (t : Nat) : Port :=
  { p with meter := min 5242880 (p.meter + (t - p.meterAt) * (1000 * 2 ^ (p.width - 1))), meterAt := max p.meterAt t }

/-- A class 0 packet enters a port's queue: its flits are metered; one that finds the meter empty marks the port, and the packet counts
once (R433). -/
def State.meter0 (s : State) (p n : Nat) : State :=
  let x := (s.port p).refill s.stk.time
  let s1 := s.modPort p fun _ => { x with meter := x.meter - min n (x.meter / 20480) * 20480 }
  if n * 20480 ≤ x.meter then s1
  else
    let off := if p < 32 then Reg.shpC0ViolLo else Reg.shpC0ViolHi
    (s1.setReg off (s1.reg off ||| 2 ^ (p % 32))).count Reg.shpCntC0Viol 1

/-- A queue of classes 1 to 7 wakes (R423, R440): it takes its configuration, and its tag follows the policy. -/
def Port.wake (p : Port) (c cfg : Nat) : Port :=
  let w := max 1 (bits cfg 7 0)
  let back := if bitAt cfg 31 then bits cfg 23 8 * 4096 / w else 0
  { p with qcfg := p.qcfg.set c cfg, tags := p.tags.set c (max (p.tags.getD c 0) (p.vtime - back)) }

/-- Put a packet into a port's output queue. -/
def State.enqueue (s : State) (p : Nat) (q : QPkt) : State :=
  let c := q.pkt.cls.val
  let s1 := if c = 0 then s.meter0 p q.flits else s
  let cfg := s.reg (Reg.shpQCfg p c)
  s1.modPort p fun x =>
    let x1 := if (x.queues.getD c []).isEmpty ∧ c ≠ 0 then x.wake c cfg else x
    { x1 with queues := x1.queues.modify c (· ++ [q]) }

/-- Return credit for flits that leave the buffer of a port, class and stage (R354). -/
def State.owe (s : State) (from_ : Option (Nat × Nat)) (c n : Nat) : State :=
  match from_ with
  | none => s
  | some (p, st) => s.modPort p fun x => { x with owed := x.owed.modify (5 * c + st) (fun k => (k + n) % 4096) }

/-! ### Routing (R362 to R365) -/

/-- What this device holds of a global port (R361): its own from its state, another member's from the latest report. UP and level. -/
def State.globalPort (s : State) (m p : Nat) : Bool × Nat :=
  if m = member s.me then (s.isUp p, (s.port p).level)
  else
    match afind s.lnk.table_ m with
    | some r => (bitAt r.up.toNat (p - 31), r.levels.getD (p - 31) 0)
    | none => (false, 0)

/-- The global exits of this harness that are wired to harness th: (member, port), in ascending order. -/
def State.exits (s : State) (th : Nat) : List (Nat × Nat) :=
  ((List.range 1024).filter fun k =>
    match wired s.harnesses (harness s.me) k with
    | some f => f.1 == th
    | none => false).map fun k => (k / 32, k % 32 + 31)

/-- An exit is usable (R362). -/
def State.usable (s : State) (e : Nat × Nat) : Bool :=
  (s.globalPort e.1 e.2).1 && (e.1 == member s.me || s.isUp (localPort (member s.me) e.1))

/-- The first-hop port towards an exit. -/
def State.firstHop (s : State) (e : Nat × Nat) : Nat := if e.1 = member s.me then e.2 else localPort (member s.me) e.1

/-- The load of the path through an exit (R362). -/
def State.exitLoad (s : State) (e : Nat × Nat) : Nat := (s.port (s.firstHop e)).depth + 1024 * (s.globalPort e.1 e.2).2

/-- The first of a list with the least cost. -/
def leastBy {α : Type} (f : α → Nat) : List α → Option α
  | [] => none
  | a :: t => some (t.foldl (fun b x => if f x < f b then x else b) a)

/-- The member through which a packet detours to member dm: live, reached over an UP port, least loaded (R362; log entry 10 on the far
link's state). -/
def State.detour (s : State) (dm : Nat) : Option Nat :=
  let me := member s.me
  leastBy (fun u => (s.port (localPort me u)).depth)
    ((List.range 32).filter fun u => u != me && u != dm && bitAt s.sat.live.toNat u && s.isUp (localPort me u))

/-- What routing decides. -/
inductive RouteTo where
  | deliver
  | out (port : Nat)
  | unreachable
  deriving DecidableEq, Repr

/-- The peer entry of the gateway that covers a harness (R378): the lowest. -/
def State.gwEntry (s : State) (h : Nat) : Option Nat :=
  (List.range 16).find? fun e => s.flag (Reg.lnkGwPeerRange e) 31 &&
    decide (s.fld (Reg.lnkGwPeerRange e) 8 0 ≤ h ∧ h ≤ s.fld (Reg.lnkGwPeerRange e) 24 16)

/-- The intermediate of a packet is reached here: VIA is cleared (R362). -/
def State.viaHere (s : State) (p : Packet) : Packet :=
  if p.viaValid && p.via.val == (if p.viaMember then member s.me else harness s.me) then { p with viaValid := false } else p

/-- R362 and R364, for a packet whose VIA was looked at. -/
def State.route (s : State) (p : Packet) : RouteTo :=
  let me := member s.me
  let dh := harness p.dst
  let dm := member p.dst
  if p.viaValid && p.viaMember then .out (localPort me (p.via.val % 32))
  else if !s.hPresent dh then
    if s.isUp 63 && (s.gwEntry dh).isSome then .out 63 else .unreachable
  else
    let th := if p.viaValid then p.via.val else dh
    if harness s.me = th ∧ th = dh then
      if me = dm then .deliver
      else if s.isUp (localPort me dm) then .out (localPort me dm)
      else
        match s.detour dm with
        | some u => .out (localPort me u)
        | none => .unreachable
    else
      let l := (s.exits th).filter s.usable
      let own := l.filter fun e => e.1 == me
      match leastBy s.exitLoad own with
      | some e => .out e.2
      | none =>
        match leastBy s.exitLoad l with
        | some e => .out (localPort me e.1)
        | none => .unreachable

/-- The minimal path's link count and load from here (R363); none when no minimal exit is usable. -/
def State.minimal (s : State) (dst : DeviceId) : Option (Nat × Nat) :=
  let me := member s.me
  if harness dst = harness s.me then
    let p := localPort me (member dst)
    if s.isUp p then some (1, (s.port p).depth) else none
  else
    let l := (s.exits (harness dst)).filter s.usable
    let own := l.filter fun e => e.1 == me
    match leastBy s.exitLoad (if own.isEmpty then l else own) with
    | none => none
    | some e =>
      let far := (wired s.harnesses (harness s.me) (32 * e.1 + (e.2 - 31))).map fun f => f.2 / 32
      some (1 + b2n (e.1 != me) + b2n (far != some (member dst)), s.exitLoad e)

/-- The intermediates that R363 allows towards a destination, each with its load. -/
def State.intermediates (s : State) (dst : DeviceId) : List (Nat × Nat) :=
  let me := member s.me
  if harness dst = harness s.me then
    ((List.range 32).filter fun u => u != me && u != member dst && bitAt s.sat.live.toNat u && s.isUp (localPort me u)).map
      fun u => (u, (s.port (localPort me u)).depth)
  else
    ((List.range s.harnesses).filter fun h => h != harness s.me && h != harness dst && s.hPresent h).filterMap fun h =>
      (leastBy s.exitLoad ((s.exits h).filter s.usable)).map fun e => (h, s.exitLoad e)

/-- The source's choice at injection (R363): the intermediate is a free draw among those allowed. Whether the packet leaves on a non-minimal
path, and through what. -/
def State.choosePath (s : State) (cls : Nat) (dst : DeviceId) : State × Option (Bool × Nat) :=
  let inside := decide (harness dst = harness s.me)
  let l := s.intermediates dst
  match s.minimal dst with
  | some (h, load) =>
    if cls = 0 ∨ !s.flag Reg.lnkCtrl 2 ∨ l.isEmpty then (s, none)
    else
      let f := s.free
      let u := l.getD (f.1 % l.length) (0, 0)
      if (if inside then 2 else 5) * u.2 + s.fld Reg.lnkRouteCfg 15 0 < h * load then (f.2, some (inside, u.1)) else (f.2, none)
  | none =>
    if l.isEmpty ∨ (cls ≠ 0 ∧ !s.flag Reg.lnkCtrl 2) then (s, none)
    else
      let f := s.free
      (f.2, some (inside, (l.getD (f.1 % l.length) (0, 0)).1))

/-- Set the path of a packet (R363), counted where it is not minimal. -/
def State.setPath (s : State) (p : Packet) (via : Option (Bool × Nat)) : State × Packet :=
  match via with
  | none => (s, p)
  | some (m, v) =>
    (s.count Reg.lnkCntNonmin 1, { p with viaValid := true, viaMember := m, via := ⟨v % 512, Nat.mod_lt _ (by decide)⟩, nonmin := true })

/-- Drop a packet for want of a path (R362). -/
def State.unreachable (s : State) (from_ : Option (Nat × Nat)) (p : Packet) : State :=
  (s.count Reg.lnkCntUnreach 1).owe from_ p.cls.val p.flits

/-- Send a packet on as R362 decides: the link crossed increments HOPS, and HOPS before that is the stage. -/
def State.routeOn (s : State) (from_ : Option (Nat × Nat)) (pkt : Packet) : State :=
  let p := s.viaHere pkt
  match s.route p with
  | .deliver => ({ s with lnk := { s.lnk with delivered := s.lnk.delivered ++ [p] } }).owe from_ p.cls.val p.flits
  | .unreachable => s.unreachable from_ p
  | .out port =>
    if h : p.hops.val < 5 then
      s.enqueue port { pkt := Packet.seal { p with hops := ⟨p.hops.val + 1, by omega⟩ }, flits := p.flits, sent := 0,
                       stage := p.hops.val, headAt := s.stk.time, from_ := from_, waited := false }
    else s.unreachable from_ p

/-! ### Policing at injection (R424) -/

/-- The key of a policer. -/
def polKey (p c : Nat) : Nat := p * 8 + c

/-- A bucket brought up to the present (R424): it fills at RATE and is capped at BURST, in 1/800 byte. -/
def State.bucket (s : State) (p c : Nat) : Nat :=
  let cap := s.fld (Reg.shpPolBurst p c) 23 0 * 800
  match afind s.shp.buckets (polKey p c) with
  | none => cap
  | some b => min cap (b.level + (s.stk.time - b.at_) * s.reg (Reg.shpPolRate p c))

/-- The policer of a partition and class acts: ENABLE is 1 and the rate is not the unpoliced one (R435, R439). -/
def State.policed (s : State) (p c : Nat) : Bool :=
  s.flag Reg.shpCtrl 0 && (c == 0 || s.reg (Reg.shpPolRate p c) != 0xFFFFFFFF)

/-- The bucket covers a packet (R424); a rate of 0 closes the class. -/
def State.covers (s : State) (p c flits : Nat) : Bool :=
  !s.policed p c || (s.reg (Reg.shpPolRate p c) != 0 && decide (64 * flits * 800 ≤ s.bucket p c))

/-- Charge a packet to its bucket. -/
def State.charge (s : State) (p c flits : Nat) : State :=
  if s.policed p c then
    { s with shp := { s.shp with buckets := aput s.shp.buckets (polKey p c) { level := s.bucket p c - 64 * flits * 800, at_ := s.stk.time } } }
  else s

/-- A packet leaves its transport engine (R424): one of a device connection is not policed (R82); one that its bucket does not cover, or that
stands behind one, waits. -/
def State.inject (s : State) (device : Bool) (pkt : Packet) : State :=
  let p := pkt.part.val
  let c := pkt.cls.val
  if device then s.routeOn none pkt
  else
    let q := agetD s.shp.held (polKey p c) []
    if q.isEmpty ∧ s.covers p c pkt.flits then (s.charge p c pkt.flits).routeOn none pkt
    else ({ s with shp := { s.shp with held := aput s.shp.held (polKey p c) (q ++ [pkt]) } }).count Reg.shpCntPolice 1

/-- POLICER_LEVEL_COVERS (R424): the packet at the head enters the port queues once it is covered. -/
def execPolicerLevelCovers (part : Fin 16) (cls : Fin 8) (now : Nat) (s : State) : Host.Outcome State Fault Refusal :=
  let s1 := s.at_ now
  let k := polKey part.val cls.val
  match agetD s1.shp.held k [] with
  | [] => .next s1
  | p :: t =>
    if s1.covers part.val cls.val p.flits then
      let s2 := (s1.charge part.val cls.val p.flits)
      .next ({ s2 with shp := { s2.shp with held := aput s2.shp.held k t } }.routeOn none p)
    else .next s1

/-! ### FLIT_BOUNDARY (R349, R350, R353, R423, R427) -/

/-- The stage and fit of a class's head at a port. -/
def State.headOk (s : State) (p c t : Nat) : Bool :=
  match (s.port p).queues.getD c [] with
  | [] => false
  | q :: _ =>
    let f := fitCode (s.openNow c t) (q.left * flitTime (s.port p).width)
    s.creditOk p c q.stage && (if c = 0 then (s.openNow c t).1 else f != 1)

/-- The class that a port sends next (R423). -/
def State.nextClass (s : State) (p t : Nat) : Option Nat :=
  let x := s.port p
  if s.headOk p 0 t then some 0
  else
    match x.cur with
    | some c =>
      match x.queues.getD c [] with
      | q :: _ => if s.creditOk p c q.stage then some c else none
      | [] => none
    | none => leastBy (fun c => x.tags.getD c 0) ((List.range 8).filter fun c => c != 0 && s.headOk p c t)

/-- Heads that a window or gate keeps from starting are counted, each packet once (R427). -/
def State.countWaits (s : State) (p t : Nat) : State :=
  (List.range 8).foldl (fun (x : State) c =>
    match (x.port p).queues.getD c [] with
    | [] => x
    | q :: l =>
      if q.sent = 0 ∧ !q.waited ∧ fitCode (x.openNow c t) (q.left * flitTime (x.port p).width) = 1 then
        (x.modPort p fun y => { y with queues := y.queues.set c ({ q with waited := true } :: l) }).count Reg.shpCntWait 1
      else x) s

/-- Begin a packet of classes 1 to 7: virtual time follows its tag, the tag grows by flits over weight (R423). -/
def Port.serveTag (p : Port) (c flits : Nat) : Port :=
  if c = 0 then p
  else
    { p with vtime := p.tags.getD c 0, cur := some c,
             tags := p.tags.modify c (· + flits * 4096 / max 1 (bits (p.qcfg.getD c 0) 7 0)) }

/-- The header of the next flit of a queued packet (R348). -/
def QPkt.hdr (q : QPkt) : FlitHdr :=
  let last : Bool := q.sent + 1 == q.flits
  { kind := 1, cls := q.pkt.cls, stage := ⟨q.stage % 8, Nat.mod_lt _ (by decide)⟩, head := q.sent == 0, tail := last,
    len := ⟨(if last then q.pkt.size - 62 * q.sent else 62) % 64, Nat.mod_lt _ (by decide)⟩ }

/-- A packet's head leaves its queue: a packet too long for its window is counted as an overhang (R427), and one that leaves more than MARK_FLITS
flits of its class is marked (R365). -/
def State.headLeaves (s : State) (p c : Nat) (q : QPkt) (t flit : Nat) : State × Packet :=
  (if fitCode (s.openNow c t) (q.left * flit) = 2 then s.count Reg.shpCntOverhang 1 else s,
    if s.fld Reg.lnkRouteCfg 31 16 < (s.port p).depthOf c then Packet.seal { q.pkt with cmark := true } else q.pkt)

/-- Send one flit of the head of class c. -/
def State.sendFlit (s : State) (p c t : Nat) : State :=
  match (s.port p).queues.getD c [] with
  | [] => s
  | q :: l =>
    let a := if q.sent = 0 then s.headLeaves p c q t (flitTime (s.port p).width) else (s, q.pkt)
    let s1 := a.1
    let pkt := a.2
    let f : Flit := { hdr := q.hdr.word, pkt := if q.sent = 0 then some pkt else none }
    let x := if q.sent = 0 then (s1.port p).serveTag c q.flits else s1.port p
    let ended : Bool := q.sent + 1 == q.flits
    let x1 := { x with
      queues := x.queues.set c (if ended then l else { q with pkt := pkt, sent := q.sent + 1 } :: l),
      cur := if ended && c != 0 then none else x.cur,
      out := x.out.modify (5 * c + q.stage) (· + 1),
      sndSeq := x.sndSeq + 1, replay := x.replay ++ [f], sinceCtrl := x.sinceCtrl + 1 }
    ((s1.modPort p fun _ => x1).owe q.from_ c 1).emit (.flit p x.sndSeq f)

/-- Send a CTRL flit: the next sequence expected, and the credit counts (R349). -/
def State.sendCtrl (s : State) (p : Nat) (nak : Bool) : State :=
  (s.modPort p fun x => { x with sinceCtrl := 0 }).emit (.ctrl p (ctrlHdr nak).word (ctrlBody (s.port p).rcvSeq (s.port p).owed))

/-- Flits that a port's replay buffer holds (R353): 4,096 per 4 lanes. -/
def replayCap (width : Nat) : Nat := if width = 4 then 8192 else 4096

/-- Replay the flit that is due, ahead of any new one (R353). -/
def State.sendReplay (s : State) (p : Nat) (q : BitVec 16) : State :=
  let x := s.port p
  match x.replay[(q - x.ackSeq).toNat]? with
  | none => s.modPort p fun y => { y with replayFrom := none }
  | some f =>
    (s.modPort p fun y => { y with
      sinceCtrl := y.sinceCtrl + 1, replayFrom := if q + 1 = y.sndSeq then none else some (q + 1) }).emit (.flit p q f)

/-- The headers in front of a native packet in its frame (R4, R372), in the byte order of their standards, up to the UDP checksum, which is computed
over the packet's bytes (log entry 132). -/
def State.gwHead (s : State) (p : Packet) (e : Nat) : List Byte :=
  let f (hi lo : Nat) : Nat := s.fld Reg.lnkGwCfg hi lo
  let flow := crc32c p.xp.bytes % 2 ^ 20
  beBytes 2 (s.reg (Reg.lnkGwPeerMacHi e)) ++ beBytes 4 (s.reg (Reg.lnkGwPeerMacLo e)) ++
    beBytes 2 (s.reg Reg.lnkGwMacHi) ++ beBytes 4 (s.reg Reg.lnkGwMacLo) ++
    (if f 3 3 = 1 then beBytes 2 0x8100 ++ beBytes 2 (p.cls.val * 2 ^ 13 + f 15 4) else []) ++ beBytes 2 0x86DD ++
    beBytes 4 (6 * 2 ^ 28 + (32 * p.cls.val + (if p.cmark then 3 else 2)) * 2 ^ 20 + flow) ++ beBytes 2 (8 + p.size) ++ [17, 64] ++
    ((List.range 4).map fun i => beBytes 4 (s.reg (Reg.lnkGwIp i))).flatten ++
    ((List.range 4).map fun i => beBytes 4 (s.reg (Reg.lnkGwPeerIp e i))).flatten ++
    beBytes 2 (0xC000 + flow % 2 ^ 14) ++ beBytes 2 (f 31 16) ++ beBytes 2 (8 + p.size)

/-- Port 63 in Ethernet mode sends whole packets, each in one frame (R372). -/
def State.sendFrame (s : State) (c t : Nat) : State :=
  match (s.port 63).queues.getD c [] with
  | [] => s
  | q :: l =>
    match s.gwEntry (harness q.pkt.dst) with
    | none => (s.modPort 63 fun x => { x with queues := x.queues.set c l }).unreachable q.from_ q.pkt
    | some e =>
      let a := s.headLeaves 63 c q t (flitTime 3)
      (((a.1.modPort 63 fun x =>
        let y := x.serveTag c q.flits
        { y with queues := y.queues.set c l, cur := none }).owe q.from_ c q.flits).emit (.frame a.2 e (s.gwHead a.2 e)))

/-- Port 63 runs Ethernet (R372). -/
def State.ethernet (s : State) (p : Nat) : Bool := p == 63 && s.flag Reg.lnkGwCfg 0

/-- A class's head may start as a frame on port 63 (R372, R427, R431). -/
def State.frameOk (s : State) (t c : Nat) : Bool :=
  match (s.port 63).queues.getD c [] with
  | [] => false
  | q :: _ => fitCode (s.openNow c t) (q.left * flitTime 3) != 1

/-- FLIT_BOUNDARY (R349, R353, R423): a replayed flit, a CTRL flit after 31 others, a flit of the class chosen, or a CTRL flit where there
is nothing else to send. -/
def execFlitBoundary (port : Fin 64) (now : Nat) (s : State) : Host.Outcome State Fault Refusal :=
  let p := port.val
  let s1 := s.at_ now
  let x := s1.port p
  if ¬ (x.state = .up ∨ x.state = .draining ∨ x.state = .miswired) then .next s1
  else if s1.ethernet p then
    let s2 := s1.countWaits p now
    match leastBy (fun c => if c = 0 then 0 else 1 + x.tags.getD c 0) ((List.range 8).filter (s2.frameOk now)) with
    | some c => .next (s2.sendFrame c now)
    | none => .next s2
  else
    match x.replayFrom with
    | some q => if 31 ≤ x.sinceCtrl then .next (s1.sendCtrl p false) else .next (s1.sendReplay p q)
    | none =>
      let s2 := s1.countWaits p now
      if 31 ≤ x.sinceCtrl ∨ replayCap x.width ≤ x.replay.length ∨ x.state = .miswired then .next (s2.sendCtrl p false)
      else
        match s2.nextClass p now with
        | some c => .next (s2.sendFlit p c now)
        | none => .next (s2.sendCtrl p false)

end Sys2Proof.Machine
end

