-- ==== Sys2Proof/Machine/Shaping.lean ====
section
/-!
DEFINITION. Machine/Shaping.lean: gate banks and histograms (chapter 13), and the run states that strokes and ports bring (R510).
-/
namespace Sys2Proof.Machine

/-- A write of SHP_CTRL.SWAP (R429): the other bank becomes active at the first multiple of its own cycle at least 1 µs later; dropped
while a swap is pending or for a bank whose length is 0 or above 256. The second component says that it was dropped. -/
def State.gateSwap (s : State) : State × Bool :=
  let b := 1 - s.shp.bank
  let n := s.fld (Reg.shpGateLen b) 8 0
  let c := s.gateCycle b
  if s.shp.swapAt.isSome ∨ n = 0 ∨ 256 < n then (s, true)
  else ({ s with shp := { s.shp with swapAt := some (roundUp (s.stk.time + 1000) (max 1 c)) } }, false)

/-- GATE_BANK_ACTIVATE (R429). -/
def execGateBankActivate (now : Nat) (s : State) : Host.Outcome State Fault Refusal :=
  let s1 := s.at_ now
  match s1.shp.swapAt with
  | none => .next s1
  | some t =>
    if now < t then .next s1
    else
      let s2 := { s1 with shp := { s1.shp with bank := 1 - s1.shp.bank, swapAt := none } }
      .next { s2 with shp := { s2.shp with entry := (s2.gateNow now).1 } }

/-- GATE_ENTRY_CHANGE (R429, R430): the entry in force at an instant. -/
def execGateEntryChange (now : Nat) (s : State) : Host.Outcome State Fault Refusal :=
  let s1 := s.at_ now
  .next { s1 with shp := { s1.shp with entry := (s1.gateNow now).1 } }

/-- Bin of R432 for a depth in flits, or a delay in units of 25 ns. -/
def histBin (v : Nat) : Nat := if v = 0 then 0 else min 15 (Nat.log2 v + 1)

/-- One queue's sample (R432): depth always, delay while it is not empty. -/
def State.histQueue (s : State) (q c : Nat) : State :=
  let x := s.port q
  let s1 := s.count (Reg.shpHDepth q c (histBin (x.depthOf c))) 1
  match x.queues.getD c [] with
  | [] => s1
  | h :: _ => s1.count (Reg.shpHDelay q c (histBin ((s.stk.time - h.headAt) / 25))) 1

/-- Every bin to 0. -/
def State.histClear (s : State) : State :=
  { s with bar := { s.bar with regs := s.bar.regs.filter fun r => r.1 < 0x01E10000 || 0x01E30000 ≤ r.1 },
           shp := { s.shp with clear := false } }

/-- HIST_SAMPLE (R432): at a whole microsecond, unless frozen. -/
def execHistSample (now : Nat) (s : State) : Host.Outcome State Fault Refusal :=
  let s1 := s.at_ now
  if s1.flag Reg.shpHistCtrl 0 then .next s1
  else
    let s2 := if s1.shp.clear then s1.histClear else s1
    .next ((List.range 64).foldl (fun (x : State) q => (List.range 8).foldl (fun (y : State) c => y.histQueue q c) x) s2)

/-- The run states that a first UP port, running strokes and the source of open_now bring (R510). -/
def State.runCheck (s : State) : State :=
  match s.sec.run with
  | .standby =>
    if (List.range 64).any s.isUp then { s with sec := { s.sec with run := .joining } } else s
  | .joining => if s.stk.running ∧ ¬ s.shp.gates then { s with sec := { s.sec with run := .service } } else s
  | .service => if ¬ s.stk.running ∨ s.stk.mismatch then { s with sec := { s.sec with run := .joining } } else s
  | _ => s

end Sys2Proof.Machine
end

