-- ==== Sys2Proof/Machine/Ports.lean ====
section
/-!
DEFINITION. Machine/Ports.lean: the states of ports, link retry, routing of arrivals, link state and probes (chapter 11). Dead notices and
what they bring about stand in Machine/Notices.lean.
-/
namespace Sys2Proof.Machine

/-! ### LINK_STATE and probes -/

/-- The report of this device (R361): UP bits and levels of its 32 global ports. -/
def State.ownReport (s : State) : BitVec 32 × List Nat :=
  (BitVec.ofNat 32 (maskOf ((List.range 32).filter fun i => s.isUp (31 + i))), (List.range 32).map fun i => (s.port (31 + i)).level)

/-- Send LINK_STATE on local ports. -/
def State.sendLinkState (s : State) (ports : List Nat) : State :=
  let r := s.ownReport
  let s1 := { s with lnk := { s.lnk with lsSeq := s.lnk.lsSeq + 1 } }
  ports.foldl (fun (x : State) p => x.emit (.linkState p s.lnk.lsSeq r.1 r.2)) s1

/-- The UP local ports. -/
def State.upLocal (s : State) : List Nat := (List.range 31).filter s.isUp

/-- LINK_STATE_SEND (R361, R431). -/
def execLinkStateSend (now : Nat) (s : State) : Host.Outcome State Fault Refusal :=
  let s1 := s.at_ now
  if s1.lnk.ready then .next (s1.sendLinkState s1.upLocal) else .next s1

/-- LINK_STATE_STALE (R361): a report older than 4 periods counts as all ports down. -/
def execLinkStateStale (mem : Fin 32) (s : State) : Host.Outcome State Fault Refusal :=
  match afind s.lnk.table_ mem.val with
  | none => .next s
  | some r =>
    if r.at_ + 4 * (max 1 (s.fld Reg.lnkTopo 31 24) * 1000) < s.stk.time then
      .next { s with lnk := { s.lnk with table_ := aput s.lnk.table_ mem.val { r with up := 0 } } }
    else .next s

/-- PROBE_PACKET (R366): a probe for this device is answered, one for another member is relayed over the local port to it. -/
def execProbePacket (src dst : DeviceId) (s : State) : Host.Outcome State Fault Refusal :=
  if dst = s.me then .next (s.emit (.probeAns src))
  else if s.isUp (localPort (member s.me) (member dst)) then .next (s.emit (.probe (member dst) dst))
  else .next s

/-- PROBE_PACKET_ANS (R366): an answer shows that only the link is down; an answer for another prober is relayed. -/
def execProbePacketAns (src dst : DeviceId) (s : State) : Host.Outcome State Fault Refusal :=
  if dst = s.me then
    let p := localPort (member s.me) (member src)
    .next { s with lnk := { s.lnk with probes := s.lnk.probes.filter fun q => q.1 != p } }
  else if s.isUp (localPort (member s.me) (member dst)) then .next (s.emit (.probeAns dst))
  else .next s

/-- Start a probe of the neighbour of a local port that went DOWN, through the least-loaded live member that can be reached (R366). -/
def State.startProbe (s : State) (p : Nat) : State :=
  let x := localPeer (member s.me) p
  if 31 ≤ p ∨ ¬ bitAt s.sat.live.toNat x then s
  else
    let s1 := { s with lnk := { s.lnk with probes := s.lnk.probes ++ [(p, s.stk.time)] } }
    match s1.detour x with
    | some u => s1.emit (.probe u (BitVec.ofNat 16 (32 * harness s.me + x)))
    | none => s1

/-! ### A port goes down, drains or trains -/

/-- What a port holds when its link starts afresh: sequences, replay buffer and credits are reset (R368). -/
def Port.fresh (p : Port) : Port :=
  { p with sndSeq := 0, rcvSeq := 0, ackSeq := 0, nakSent := false, failedReplays := 0, replay := [], replayFrom := none,
           out := List.replicate 40 0, lastRet := List.replicate 40 0, owed := List.replicate 40 0,
           sinceCtrl := 0, cur := none }

/-- Queued packets whose head has not been sent are routed again (R368, R370); the stage that they were given is their HOPS again. -/
def State.requeue (s : State) (p : Nat) (keep : Bool) : State :=
  let l := (s.port p).queues.flatten
  let s1 := s.modPort p fun x => { x with queues := x.queues.map fun q => if keep then q.filter fun k => k.sent != 0 else [] }
  let s2 := if keep then s1 else
    (l.filter fun k => k.sent != 0).foldl (fun (x : State) k => x.owe k.from_ k.pkt.cls.val k.left) s1
  (l.filter fun k => k.sent == 0).foldl (fun (x : State) k =>
    x.routeOn k.from_ { k.pkt with hops := ⟨k.stage % 8, Nat.mod_lt _ (by decide)⟩ }) s2

/-- A port goes DOWN (R366, R368, R369). -/
def State.portDown (s : State) (p : Nat) : State :=
  let s1 := (s.modPort p fun x => { x with state := .down, width := 0 }).count (Reg.lnkPCntDown p) 1
  ((s1.requeue p false).modPort p Port.fresh).startProbe p

/-- The half of a ×8 port that its even port bonds (R347). -/
def State.bond (s : State) (p : Nat) (on : Bool) : State :=
  if s.fld (Reg.lnkPCtrl p) 3 1 = 3 then
    s.modPort (p + 1) fun x => { x with state := if on then .bonded else .disabled }
  else s

/-- A port that may not train posts a note of kind PORT (R355, R512). -/
def State.portNote (s : State) (p : Nat) : State := s.note (0x200 + p) 0x702 p

/-- A DISABLED port with ENABLE 1 begins TRAINING where it may (R347, R355, R359, R360, R369, R512), once the lanes are powered (R375). -/
def State.tryTrain (s : State) (p : Nat) : State :=
  let x8 : Bool := s.fld (Reg.lnkPCtrl p) 3 1 == 3
  if (s.port p).state ≠ .disabled ∨ ¬ s.flag (Reg.lnkPCtrl p) 0 ∨ s.lnk.ready = false then s
  else if !s.idValid ∨ !s.creditBounds p ∨ (x8 ∧ (s.port (p + 1)).state ≠ .disabled) then s.portNote p
  else
    match s.expected p with
    | some (d, _) =>
      if s.hPresent (harness d) then ((s.modPort p fun x => { x with state := .training, pend := false }).bond p true) else s
    | none => if p = 63 then (s.modPort p fun x => { x with state := .training, pend := false }).bond p true else s

/-- Enable a port (R369, R371). -/
def State.enablePort (s : State) (p : Nat) : State :=
  let s1 := s.setFld (Reg.lnkPCtrl p) 0 0 1
  match (s.port p).state with
  | .disabled => s1.tryTrain p
  | .draining => s1.modPort p fun x => { x with pend := true }
  | _ => s1

/-- Disable a port (R369, R370): its lanes drain; a latched enable is cancelled (R497). -/
def State.disablePort (s : State) (p : Nat) : State :=
  let s1 := s.setFld (Reg.lnkPCtrl p) 0 0 0
  match (s.port p).state with
  | .training | .up | .miswired | .down =>
    (s1.modPort p fun x => { x with state := .draining, drainFrom := s.stk.time }).requeue p true
  | .draining => s1.modPort p fun x => { x with pend := false }
  | _ => s1

/-- A drain completes (R369, R371). -/
def State.drained (s : State) (p : Nat) : State :=
  let again := (s.port p).pend
  let s1 := (s.modPort p fun x => { x.fresh with state := .disabled, pend := false, width := 0, degraded := false }).bond p false
  if again then s1.tryTrain p else s1

/-- PORT_DRAIN_COMPLETE (R370): queues empty and every sent flit acknowledged; the event itself says that 2 µs passed without a flit. -/
def execPortDrainComplete (port : Fin 64) (s : State) : Host.Outcome State Fault Refusal :=
  let x := s.port port.val
  if x.state = .draining ∧ x.depth = 0 ∧ x.replay.isEmpty then .next (s.drained port.val) else .next s

/-- PORT_DRAIN_TIMEOUT (R370): after 100 µs the rest is discarded under R368. -/
def execPortDrainTimeout (port : Fin 64) (s : State) : Host.Outcome State Fault Refusal :=
  if (s.port port.val).state = .draining then .next ((s.requeue port.val false).drained port.val) else .next s

/-- The width code of a cut (R379). -/
def cutWidth (cut : Nat) : Nat := match cut with | 0 => 3 | 1 => 1 | 2 => 2 | _ => 4

/-- What training found matches the port (R347, R358 to R360); the gateway's peer is port 63 of another system's device. -/
def State.matches_ (s : State) (p : Nat) (f : TrainedFact) : Bool :=
  let cut := s.fld (Reg.lnkPCtrl p) 3 1
  (match s.expected p with
    | some (d, q) => f.dev == d && f.port.val == q
    | none => p == 63 && f.port.val == 63) &&
  (cut != 3 || (f.halvesOk && f.port.val % 2 == 0))

/-- PORT_TRAINED (R347, R360, R369, R510). -/
def execPortTrained (port : Fin 64) (fact : TrainedFact) (now : Nat) (s : State) : Host.Outcome State Fault Refusal :=
  let p := port.val
  let s1 := s.at_ now
  if (s1.port p).state ≠ .training then .next s1
  else
    let ok := s1.matches_ p fact
    let w := min 4 fact.width
    let s2 := s1.modPort p fun x => { x with
      state := if ok then .up else .miswired, width := w,
      degraded := decide (2 ^ w < 2 ^ cutWidth (s1.fld (Reg.lnkPCtrl p) 3 1)), neighDev := fact.dev, neighPort := fact.port.val,
      rtt := min 65535 fact.rtt, ctrlAt := now, meter := 5242880, meterAt := now }
    if ok then .next ((if p < 31 then s2.sendLinkState [p] else s2).runCheck) else .next (s2.portNote p)

/-- PORT_TRAINING_TIMEOUT (R369). -/
def execPortTrainingTimeout (port : Fin 64) (s : State) : Host.Outcome State Fault Refusal :=
  if (s.port port.val).state = .training then
    .next ((s.modPort port.val fun x => { x with state := .down }).portNote port.val)
  else .next s

/-- PORT_RETRAIN (R369). -/
def execPortRetrain (port : Fin 64) (s : State) : Host.Outcome State Fault Refusal :=
  if (s.port port.val).state = .down then .next (s.modPort port.val fun x => { x with state := .training }) else .next s

/-- LANE_LOSS (R347, R366): with DEGRADE_EN a port whose first lanes still work retrains narrower, else it goes DOWN. -/
def execLaneLoss (port : Fin 64) (working now : Nat) (s : State) : Host.Outcome State Fault Refusal :=
  let s1 := s.at_ now
  if (s1.port port.val).state ≠ .up then .next s1
  else if s1.flag Reg.lnkCtrl 1 ∧ working ≠ 0 then
    .next (s1.modPort port.val fun x => { x with state := .training, degraded := true })
  else .next (s1.portDown port.val)

/-- CTRL_FLIT_TIMEOUT (R366). -/
def execCtrlFlitTimeout (port : Fin 64) (now : Nat) (s : State) : Host.Outcome State Fault Refusal :=
  let s1 := s.at_ now
  if (s1.port port.val).state = .up ∧ (s1.port port.val).ctrlAt + 2000 ≤ now ∧ ¬ s1.ethernet port.val then
    .next (s1.portDown port.val)
  else .next s1

/-- PORT_CONTROL (R371, R453). -/
def execPortControl (h : Header) (port action rsv : Nat) (s : State) : Host.Outcome State Fault Refusal :=
  .next (s.serve { op := 0x0005, replies := 1, vf := false, tenant := false, params := 4, rsv := rsv, addrs := 0,
                   localOnly := false } h false fun r x =>
    if 63 < port ∨ 1 < action then x.done r .badField
    else if action = 0 then (x.disablePort port).done r .ok
    else if (x.port port).state = .draining then (x.enablePort port).done r .pendingEnable
    else (x.enablePort port).done r .ok)

/-! ### Link retry (R353) -/

/-- A DATA flit's header is valid (R348). -/
def FlitHdr.valid (h : FlitHdr) : Bool :=
  h.kind == 1 && decide (h.stage.val ≤ 4) && (if h.tail then decide (1 ≤ h.len.val ∧ h.len.val ≤ 62) else h.len.val == 62)

/-- DATA_FLIT_RECEIVE (R353): accepted in sequence, with every codeword corrected and a valid header; on the first bad flit a NAK, then every
flit is discarded until replay begins; where replay begins with a bad flit, a NAK again. -/
def execDataFlitReceive (port : Fin 64) (seq : BitVec 16) (hdr : BitVec 16) (fecOk : Bool) (s : State) :
    Host.Outcome State Fault Refusal :=
  let p := port.val
  let x := s.port p
  if ¬ (x.state = .up ∨ x.state = .draining ∨ x.state = .miswired) then .next s
  else
    let s1 := if fecOk then s else s.count (Reg.lnkPCntFecu p) 1
    if fecOk ∧ (flitHdr hdr).valid ∧ seq = x.rcvSeq then
      .next (s1.modPort p fun y => { y with rcvSeq := y.rcvSeq + 1, nakSent := false })
    else if x.nakSent ∧ seq ≠ x.rcvSeq then .next s1
    else .next ((s1.modPort p fun y => { y with nakSent := true }).sendCtrl p true)

/-- Credit that cumulative counts return (R349, R354): per class and stage the difference to the last count, modulo 4,096. -/
def returned (out last now : List Nat) : List Nat :=
  (List.range 40).map fun i => out.getD i 0 - (now.getD i 0 + 4096 - last.getD i 0 % 4096) % 4096

/-- CTRL_FLIT_RECEIVE (R348, R349, R353): acknowledgement (the next sequence the neighbour expects; log entry 11), credit, and on a NAK replay from
there. -/
def execCtrlFlitReceive (port : Fin 64) (hdr : BitVec 16) (body : List Byte) (now : Nat) (s : State) :
    Host.Outcome State Fault Refusal :=
  let p := port.val
  let s1 := s.at_ now
  let x := s1.port p
  let ack := ctrlAck body
  let credits := ctrlCounts body
  if ¬ (x.state = .up ∨ x.state = .draining ∨ x.state = .miswired) ∨ ¬ (flitHdr hdr = ctrlHdr false ∨ flitHdr hdr = ctrlHdr true) then
    .next s1
  else
    let n := (ack - x.ackSeq).toNat
    let moved : Bool := n != 0 && decide (n ≤ x.replay.length)
    let x1 := { x with
      ctrlAt := now, out := returned x.out x.lastRet credits, lastRet := credits,
      replay := if n ≤ x.replay.length then x.replay.drop n else x.replay,
      ackSeq := if n ≤ x.replay.length then ack else x.ackSeq,
      failedReplays := if moved then 0 else x.failedReplays }
    if flitHdr hdr = ctrlHdr true then
      let x2 := { x1 with failedReplays := x1.failedReplays + 1, replayFrom := if x1.replay.isEmpty then none else some x1.ackSeq }
      let s2 := (s1.modPort p fun _ => x2).count (Reg.lnkPCntReplay p) 1
      if 8 ≤ x2.failedReplays then .next (s2.portDown p) else .next s2
    else .next (s1.modPort p fun _ => x1)

/-! ### Routing of arrivals (R351, R352, R362, R386, R411, R414) -/

/-- Whole microseconds of system time, modulo 256 (AGE, R388). -/
def State.usNow (s : State) : BitVec 8 := BitVec.ofNat 8 (s.stk.time / 1000)

/-- A packet is older than MAX_LIFE (R386). -/
def State.expired (s : State) (p : Packet) : Bool :=
  decide (1 ≤ p.type.toNat ∧ p.type.toNat ≤ 0x7F) && decide (s.fld Reg.xptTimer 31 24 < (s.usNow - p.xp.age).toNat)

/-- FN of an AOP (R401). -/
def aopFn (aop : Nat) : Nat := aop % 8

/-- FETCH of an AOP. -/
def aopFetch (aop : Nat) : Bool := bitAt aop 5

/-- Bytes of an AOP's WIDTH. -/
def aopBytes (aop : Nat) : Nat := match bits aop 7 6 with | 0 => 4 | 1 => 8 | _ => 16

/-- The message number of a put, a get or a keyed atomic (R390). -/
def Packet.msgNo (p : Packet) : Option (BitVec 32) :=
  match p.body with
  | .put h _ _ => some h.msg
  | .get h => some h.msg
  | .atomic (.keyed h) _ _ _ => some h.msg
  | _ => none

/-- The constituent that an ATOMIC packet makes (R411). -/
def Packet.constituent (p : Packet) (opnd : Nat) : Constituent :=
  { src := p.src, conn := p.xp.conn, inc := p.xp.inc, seq := p.xp.seq, tag := p.xp.tag, msg := p.msgNo.getD 0, opnd := opnd }

/-- A keyed target by what R411 compares: key and offset. -/
def AtomTarget.same : AtomTarget → AtomTarget → Bool
  | .keyed a, .keyed b => a.key == b.key && a.addr == b.addr
  | .window a, .window b => a == b
  | _, _ => false

/-- An ATOMIC packet that this router may combine (R352, R411): for its own harness, classes 1 to 7, RETX clear, not CAS, its trailer good. -/
def State.combinable (s : State) (p : Packet) : Option (AtomTarget × Nat × Nat) :=
  match p.body with
  | .atomic t aop opnd _ =>
    if s.flag Reg.xptCtrl 1 && p.cls.val != 0 && !p.xp.retx && aopFn aop != 6 && p.trailerOk && harness p.dst == harness s.me &&
        p.type == 0x20#8 then some (t, aop, opnd) else none
  | _ => none

/-- Constituents that a record may hold (R411). -/
def recordMax (aop : Nat) : Nat := if aopFetch aop then 8 else 32

/-- Send a combining record as a packet of this router's own (R352, R411). -/
def State.sendRecord (s : State) (c : CombHold) : State :=
  s.routeOn none (Packet.seal { c.first with
    type := 0x22#8, src := s.me, hops := 0, viaValid := false, nonmin := false, cmark := false, rsv := 0,
    len := 24 + 16 * c.rec_.list_.length, body := .combined c.rec_, trailerOk := true })

/-- Send a COMPLETE record (R414). -/
def State.sendComplete (s : State) (c : CompHold) : State :=
  s.routeOn none (Packet.seal { c.first with
    type := 0x31#8, src := s.me, hops := 0, viaValid := false, nonmin := false, cmark := false, rsv := 0,
    len := 4 + 16 * c.list_.length, body := .complete c.collector 0 c.list_, trailerOk := true })

/-- A record that an ATOMIC packet joins: destination, target, AOP, tenant and partition agree, and it has room. -/
def CombHold.takes (c : CombHold) (p : Packet) (t : AtomTarget) (aop : Nat) : Bool :=
  c.first.dst == p.dst && c.rec_.target.same t && c.rec_.aop == aop && c.rec_.tenant == p.tenant && c.rec_.part == p.part &&
    decide (c.rec_.list_.length < recordMax aop)

/-- The age of the older of two packets. -/
def State.olderAge (s : State) (a b : BitVec 8) : BitVec 8 := if (s.usNow - a).toNat < (s.usNow - b).toNat then b else a

/-- An ATOMIC packet joins a record or opens one; a full record, and any record while COMB_NS is 0, is sent (R411). -/
def State.combine (s : State) (p : Packet) (t : AtomTarget) (aop opnd : Nat) : State :=
  let full (c : CombHold) : Bool := decide (recordMax aop ≤ c.rec_.list_.length) || s.fld Reg.xptComb 15 0 == 0
  match s.lnk.combine.find? (fun c => c.takes p t aop) with
  | some c =>
    let c1 : CombHold := { c with
      rec_ := { c.rec_ with list_ := c.rec_.list_ ++ [p.constituent opnd] },
      first := { c.first with xp := { c.first.xp with age := s.olderAge c.first.xp.age p.xp.age } } }
    let rest := s.lnk.combine.erase c
    if full c1 then { s with lnk := { s.lnk with combine := rest } }.sendRecord c1
    else { s with lnk := { s.lnk with combine := rest ++ [c1] } }
  | none =>
    let c : CombHold :=
      { rec_ := { target := t, aop := aop, tenant := p.tenant, part := p.part, cls := p.cls, router := s.me,
                  list_ := [p.constituent opnd] }, first := p, openedAt := s.stk.time }
    if full c then s.sendRecord c else { s with lnk := { s.lnk with combine := s.lnk.combine ++ [c] } }

/-- A COMPLETE packet that this router may combine (R411, R414): for its own harness, classes 1 to 7, RETX clear, its trailer good. -/
def State.completable (s : State) (p : Packet) : Option (Nat × Nat) :=
  match p.body with
  | .complete id slot [] =>
    if s.flag Reg.xptCtrl 1 && p.cls.val != 0 && !p.xp.retx && p.trailerOk && harness p.dst == harness s.me && p.type == 0x31#8
    then some (id, slot) else none
  | _ => none

/-- A COMPLETE packet joins a record of its collector or opens one (R414): a posted record of up to 32 slots. -/
def State.combineComplete (s : State) (p : Packet) (id slot : Nat) : State :=
  let full (c : CompHold) : Bool := decide (32 ≤ c.list_.length) || s.fld Reg.xptComb 15 0 == 0
  match s.lnk.completes.find? (fun c => c.collector == id && c.first.dst == p.dst && c.first.part == p.part &&
      c.first.tenant == p.tenant) with
  | some c =>
    let c1 : CompHold := { c with
      list_ := c.list_ ++ [p.constituent slot],
      first := { c.first with xp := { c.first.xp with age := s.olderAge c.first.xp.age p.xp.age } } }
    let rest := s.lnk.completes.erase c
    if full c1 then { s with lnk := { s.lnk with completes := rest } }.sendComplete c1
    else { s with lnk := { s.lnk with completes := rest ++ [c1] } }
  | none =>
    let c : CompHold := { collector := id, list_ := [p.constituent slot], first := p, openedAt := s.stk.time }
    if full c then s.sendComplete c else { s with lnk := { s.lnk with completes := s.lnk.completes ++ [c] } }

/-- COMBINE_HOLD_EXPIRY (R411, R414): COMB_NS after the record was opened it is sent. -/
def execCombineHoldExpiry (index : Nat) (complete : Bool) (now : Nat) (s : State) : Host.Outcome State Fault Refusal :=
  let s1 := s.at_ now
  let hold := s1.fld Reg.xptComb 15 0
  if complete then
    match s1.lnk.completes[index]? with
    | some c =>
      if now < c.openedAt + hold then .next s1
      else .next ({ s1 with lnk := { s1.lnk with completes := s1.lnk.completes.eraseIdx index } }.sendComplete c)
    | none => .next s1
  else
    match s1.lnk.combine[index]? with
    | some c =>
      if now < c.openedAt + hold then .next s1
      else .next ({ s1 with lnk := { s1.lnk with combine := s1.lnk.combine.eraseIdx index } }.sendRecord c)
    | none => .next s1

/-- PACKET_ROUTE (R351, R352, R362, R386, R411): a packet head at the router, from a port or injected. -/
def execPacketRoute (port : Option (Fin 64)) (pkt : Packet) (now : Nat) (s : State) : Host.Outcome State Fault Refusal :=
  let s1 := s.at_ now
  let from_ : Option (Nat × Nat) := port.map fun p => (p.val, pkt.hops.val - 1)
  let src := match port with | some p => p.val | none => 0
  if pkt.crc ≠ pkt.hcrc then
    .next (((s1.count Reg.lnkCntHcrc 1).note (0x200 + src) 0x701 src).owe from_ pkt.cls.val pkt.flits)
  else if pkt.type = 0 ∨ 0x85 ≤ pkt.type.toNat then .next ((s1.count Reg.lnkCntHcrc 1).owe from_ pkt.cls.val pkt.flits)
  else if s1.expired pkt then .next ((s1.count Reg.xptCntExpired 1).owe from_ pkt.cls.val pkt.flits)
  else
    let a := match port with
      | none => let c := s1.choosePath pkt.cls.val pkt.dst; c.1.setPath pkt c.2
      | some _ => (s1, pkt)
    match a.1.combinable a.2 with
    | some (t, aop, opnd) => .next ((a.1.combine a.2 t aop opnd).owe from_ pkt.cls.val pkt.flits)
    | none =>
      match a.1.completable a.2 with
      | some (id, slot) => .next ((a.1.combineComplete a.2 id slot).owe from_ pkt.cls.val pkt.flits)
      | none => .next (a.1.routeOn from_ a.2)

/-- GATEWAY_FRAME_RECEIVE (R373): an accepted packet enters the router at HOPS 0; every other frame is dropped and counted. -/
def execGatewayFrameReceive (f : GwFrame) (now : Nat) (s : State) : Host.Outcome State Fault Refusal :=
  let s1 := s.at_ now
  let mac := s1.reg Reg.lnkGwMacHi * 2 ^ 32 + s1.reg Reg.lnkGwMacLo
  let ip := (List.range 4).foldl (fun a i => a * 2 ^ 32 + s1.reg (Reg.lnkGwIp i)) 0
  if s1.ethernet 63 ∧ (s1.port 63).state = .up ∧ f.dstMac.toNat = mac ∧ f.dstIp.toNat = ip ∧
      f.udpPort.toNat = s1.fld Reg.lnkGwCfg 31 16 ∧ f.fcsOk ∧ f.udpOk ∧ f.pkt.crc = f.pkt.hcrc then
    .next (s1.routeOn none { f.pkt with hops := 0 })
  else .next (s1.count Reg.lnkGwCntDrop 1)

end Sys2Proof.Machine
end

