-- ==== Sys2Proof/Machine/Threads.lean ====
section
/-!
DEFINITION. Machine/Threads.lean: threads' registers, traps, and the completion vectors (chapter 06), as every engine uses them.
-/
namespace Sys2Proof.Machine

/-- The key of a thread. -/
def threadKey (core thread : Nat) : Nat := core * 64 + thread

/-- A thread that was never started. -/
def Thread.stopped_ : Thread :=
  { state := .stopped, pc := 0, x := [], f := [], fcsr := 0, tickets := [], recent := [] }

/-- A thread. -/
def State.thread (s : State) (k : Nat) : Thread := agetD s.cores.threads k Thread.stopped_

/-- Change a thread. -/
def State.modThread (s : State) (k : Nat) (f : Thread → Thread) : State :=
  { s with cores := { s.cores with threads := aput s.cores.threads k (f (s.thread k)) } }

/-- Write register rd; x0 discards writes. -/
def Thread.setX (t : Thread) (rd : Nat) (v : BitVec 64) : Thread :=
  if rd = 0 then t else { t with x := aput t.x rd v }

/-- Read a register; x0 reads as zero. -/
def Thread.getX (t : Thread) (r : Nat) : BitVec 64 := if r = 0 then 0 else agetD t.x r 0

/-- The partition that holds a slice (R194, R213): none for a free slice. -/
def State.sliceOwner (s : State) (slice : Nat) : Option Nat :=
  (List.range 16).find? fun p => bitAt (s.part p).slices.toNat slice

/-- The partition of a core. -/
def State.coreOwner (s : State) (core : Nat) : Option Nat := s.sliceOwner (core / 8)

/-- A synchronous exception stops the thread (R196, R216): cause, instruction address and trap value are recorded, TRAPPED is set, and a
level 2 fault is posted with the core as source. -/
def State.trap (s : State) (core thread cause : Nat) (epc tval : BitVec 64) : State :=
  let s1 := s.modThread (threadKey core thread) fun t => { t with state := .stopped, pc := epc }
  let s2 := ((s1.setReg (Reg.coreTrapCause core) (2 ^ 31 + thread % 64 * 65536 + cause % 64)).setReg
    (Reg.coreTrapEpcLo core) (epc.toNat % 2 ^ 32)).setReg (Reg.coreTrapEpcHi core) (epc.toNat / 2 ^ 32)
  let s3 := ((s2.setReg (Reg.coreTrapTvalLo core) (tval.toNat % 2 ^ 32)).setReg
    (Reg.coreTrapTvalHi core) (tval.toNat / 2 ^ 32)).setFld (Reg.coreStatus core) 1 1 1
  let f := fault core 0x401 2 (epc.toNat % 2 ^ 56)
  match s.coreOwner core with
  | some p => s3.post { f with tag := .part ⟨p % 16, Nat.mod_lt _ (by decide)⟩ }
  | none => s3.post f

/-- RISC-V's exception codes of a load and of a store or atomic access fault. -/
def causeLoad : Nat := 5
def causeStore : Nat := 7

/-! ### Completion vectors (R201 to R203) -/

/-- A word of a partition's completion vectors: word index 16v + w. -/
def Part.cvWord (p : Part) (w : Nat) : Nat := maskOf ((p.cv.filter fun b => b / 64 == w).map fun b => b % 64)

/-- A CV.WAIT of a partition's thread whose mask is now set ends (R202). -/
def Thread.cvWake (t : Thread) (p : Part) : Thread :=
  match t.state with
  | .waitCv rd w m =>
    let v := p.cvWord w
    if v &&& m = m then { t.setX rd (BitVec.ofNat 64 v) with state := .running, pc := t.pc + 4 } else t
  | _ => t

/-- Look at the waits of a partition's threads again. -/
def State.cvWakeAll (s : State) (p : Nat) : State :=
  let l := s.cores.threads.map fun q =>
    if bitAt (s.part p).slices.toNat (q.1 / 512) then (q.1, q.2.cvWake (s.part p)) else q
  { s with cores := { s.cores with threads := l } }

/-- Set a bit (R202): an OR. -/
def State.cvSet (s : State) (p bit : Nat) : State :=
  if (s.part p).cv.contains bit then s
  else (s.modPart p fun q => { q with cv := bit :: q.cv }).cvWakeAll p

end Sys2Proof.Machine
end

