-- ==== Sys2Proof/Machine/Transport.lean ====
section
/-!
DEFINITION. Machine/Transport.lean: connections: contexts, opening and closing, sequences, windows, acknowledgement, retransmission and failure
(chapter 12, R382 to R393).
-/
namespace Sys2Proof.Machine

/-! ### Contexts -/

/-- The key of a (local partition, peer device, peer partition, class) quadruple, with DEVICE (R382). -/
def quadKey (device : Bool) (lpart : Nat) (dev : DeviceId) (ppart cls : Nat) : Nat :=
  ((((b2n device * 16 + lpart) * 65536 + dev.toNat) * 16) + ppart) * 8 + cls

/-- The quadruple of a context. -/
def Conn.quad (c : Conn) : Nat := quadKey c.device c.localPart.val c.peerDev c.peerPart.val c.cls.val

/-- A connection. -/
def State.conn (s : State) (k : Nat) : Option Conn := afind s.xpt.conns k

/-- Change a connection. -/
def State.modConn (s : State) (k : Nat) (f : Conn → Conn) : State :=
  { s with xpt := { s.xpt with conns := amod s.xpt.conns k f } }

/-- Free a context, with what the stitcher still holds of its messages. -/
def State.freeConn (s : State) (k : Nat) : State :=
  { s with xpt := { s.xpt with conns := adel s.xpt.conns k, cache := s.xpt.cache.map fun l => l.filter fun n => n != k,
                               stitch := s.xpt.stitch.filter fun e => e.conn != k } }

/-- The context in use for a quadruple: OPENING, OPEN or CLOSING. -/
def State.findConn (s : State) (quad : Nat) : Option (Nat × Conn) :=
  s.xpt.conns.find? fun p => p.2.quad == quad && (p.2.state == .opening || p.2.state == .opened || p.2.state == .closing)

/-- The engine that serves a connection (R383, R82): one of its partition's slices by its number; engine 0 for a device connection. -/
def State.engineOf (s : State) (device : Bool) (part k : Nat) : Nat :=
  let l := onesOf 16 (s.part part).slices.toNat
  if device ∨ l.isEmpty then 0 else l.getD (k % l.length) 0

/-- An engine uses a context (R383): a miss fetches it from T1, which is counted, and the least recently used context leaves the cache. -/
def State.touchConn (s : State) (e k : Nat) (isNew : Bool) : State :=
  let l := s.xpt.cache.getD e []
  let s1 := if l.contains k ∨ isNew then s else s.count Reg.xptCntSpill 1
  { s1 with xpt := { s1.xpt with cache := s1.xpt.cache.set e ((k :: l.filter fun n => n != k).take 1024) } }

/-- RTO_MIN [ns] (R418). -/
def State.rtoMin (s : State) : Nat := s.fld Reg.xptTimer 15 0 * 1000

/-- RETRY_MAX; 0 is treated as 1. -/
def State.retryMax (s : State) : Nat := max 1 (s.fld Reg.xptTimer 23 16)

/-- A fresh context (R384, R392). -/
def State.newConn (s : State) (st : ConnState) (device : Bool) (lpart : Fin 16) (dev : DeviceId) (ppart : Fin 16) (cls : Fin 8)
    (k : Nat) : Conn :=
  let inc := agetD s.xpt.incs (quadKey device lpart.val dev ppart.val cls.val) 0 + 1
  { state := st, cls := cls, device := device, inc := ⟨inc % 4096, Nat.mod_lt _ (by decide)⟩, peerConn := 1048575, peerInc := 4095,
    peerDev := dev, peerPart := ppart, localPart := lpart, sndNxt := 0, sndUna := 0, rcvNxt := 0, msgNxt := 0, msgSnd := 0,
    msgDone := 0, window := (if cls.val = 0 then s.fld Reg.xptCc 23 16 else s.fld Reg.xptWin 15 0) * 1024, inflight := 0, alpha := 0,
    srtt := 0, rto := s.rtoMin, retries := 0, ops := 0, opsMax := max 1 (s.fld (Reg.xptPCfg lpart.val) 31 16),
    lastUse := s.strokeNow, sendq := [], sent := [], arrived := [], unacked := 0, firstAt := 0, closeAt := 0, echoDue := false,
    roundEnd := 0, roundBytes := 0, roundMarked := 0, waiting := [], reopen := false, notReady := [],
    engine := s.engineOf device lpart.val k, path := none }

/-- Take a context (R383, R385): the least free number, while fewer than MAX_CONNS are in use; INC is advanced. -/
def State.takeConn (s : State) (st : ConnState) (device : Bool) (lpart : Fin 16) (dev : DeviceId) (ppart : Fin 16) (cls : Fin 8) :
    Option (State × Nat) :=
  if s.fld Reg.xptConnCfg 20 0 ≤ s.xpt.conns.length then none
  else
    let k := (leastFree (s.xpt.conns.map fun p => p.1) (s.xpt.conns.length + 1) 0).getD 0
    let c := s.newConn st device lpart dev ppart cls k
    let s1 := { s with xpt := { s.xpt with
      conns := aput s.xpt.conns k c, incs := aput s.xpt.incs c.quad c.inc.val } }
    some (s1.touchConn c.engine k true, k)

/-! ### Packets -/

/-- The packet of a connection end, with its cumulative acknowledgement and a CMARK to return (R387, R388). -/
def State.mkPacket (s : State) (c : Conn) (type : BitVec 8) (tenant : BitVec 16) (tag : BitVec 16) (seq : BitVec 32) (len : Nat)
    (body : Body) : Packet :=
  { type := type, cmark := false, nonmin := false, dst := c.peerDev, src := s.me, tenant := tenant, part := c.localPart,
    cls := c.cls, hops := 0, viaValid := false, viaMember := false, via := 0, rsv := 0, len := len, hcrc := 0,
    xp := { inc := c.peerInc, conn := c.peerConn, seq := seq, ack := c.rcvNxt, tag := tag, echo := c.echoDue, retx := false,
            first := true, last := true, ordered := false, rsv := 0, age := s.usNow },
    body := body, trailerOk := true }

/-- A packet of a connection enters the fabric: its path is chosen (R363, R407), its injection time and HCRC are set. With SPRAY_EN 0 the
packets of a message share the first one's path. -/
def State.launch (s : State) (k : Nat) (p : Packet) : State :=
  match s.conn k with
  | none => s
  | some c =>
    let pick : State × Option (Bool × Nat) :=
      if s.flag Reg.xptCtrl 2 ∨ p.xp.first then s.choosePath p.cls.val p.dst else (s, c.path)
    let s1 := pick.1.modConn k fun x => { x with path := pick.2, lastUse := s.strokeNow, echoDue := false, unacked := 0 }
    let q := s1.setPath { p with xp := { p.xp with age := s.usNow } } pick.2
    (q.1.touchConn c.engine k false).inject c.device q.2.seal

/-- A packet outside the sequence (OPEN, CLOSE, ACK, NAK and their answers): its SEQ is the sender's oldest unacknowledged sequence (log
entry 12). -/
def State.sendControl (s : State) (k : Nat) (type : BitVec 8) (tag : BitVec 16) (len : Nat) (body : Body) : State :=
  match s.conn k with
  | none => s
  | some c => s.launch k (s.mkPacket c type (if c.device then 0xFFFF else 0) tag c.sndUna len body)

/-- NAK (R386). -/
def State.sendNak (s : State) (k kind : Nat) (st : Status) (seq : BitVec 32) (tag : BitVec 16) : State :=
  let s1 := if kind = 2 then s.count Reg.xptCntNotready 1 else if st = .accessRevoked then s.count Reg.xptCntRevoked 1 else s
  s1.sendControl k 0x06#8 tag 8 (.nak kind st seq)

/-- The window admits a packet (R391): a fresh connection may always send its first. -/
def Conn.admits (c : Conn) (len : Nat) : Bool := decide (c.inflight + len ≤ c.window) || (c.sndNxt == 0#32)

/-- Send the first waiting packet with the next sequence number. -/
def State.sendNext (s : State) (k : Nat) (c : Conn) (p : Packet) (rest : List Packet) : State :=
  let q := { p with xp := { p.xp with seq := c.sndNxt, ack := c.rcvNxt, conn := c.peerConn, inc := c.peerInc, echo := c.echoDue } }
  let s1 := s.modConn k fun x => { x with
    sendq := rest, sndNxt := x.sndNxt + 1, inflight := x.inflight + p.len, sent := x.sent ++ [{ pkt := q, at_ := s.stk.time }] }
  s1.launch k q

/-- Send what the window admits, at most n packets. -/
def State.drainQueue (s : State) (k : Nat) : Nat → State
  | 0 => s
  | n + 1 =>
    match s.conn k with
    | none => s
    | some c =>
      match c.sendq with
      | [] => s
      | p :: rest => if (c.state == .opened) && c.admits p.len then (s.sendNext k c p rest).drainQueue k n else s

/-- Queue packets on a connection and send what may be sent. -/
def State.sendAll (s : State) (k : Nat) (l : List Packet) : State :=
  let s1 := s.modConn k fun c => { c with sendq := c.sendq ++ l }
  match s1.conn k with
  | none => s1
  | some c => s1.drainQueue k c.sendq.length

/-! ### Operations as packets (R399 to R401, R405) -/

/-- Data bytes that one packet may carry (R374, R390, R425). -/
def State.chunk (s : State) (cls : Nat) (dst : DeviceId) : Nat :=
  if cls = 0 then 452 else if !s.hPresent (harness dst) && s.flag Reg.lnkGwCfg 2 then 1000 else 4072

/-- Cut data into chunks with their offsets. -/
def chunks (size : Nat) : Nat → Nat → List Byte → List (Nat × List Byte)
  | 0, _, _ => []
  | fuel + 1, off, l =>
    if l.isEmpty then [] else (off, l.take size) :: chunks size fuel (off + size) (l.drop size)

/-- All chunks of some data. -/
def cut (size : Nat) (l : List Byte) : List (Nat × List Byte) := chunks size (l.length / max 1 size + 1) 0 l

/-- Mark the first and the last packet of a message (R388). -/
def markEnds (l : List Packet) : List Packet :=
  l.mapIdx fun i p => { p with xp := { p.xp with first := i == 0, last := i + 1 == l.length } }

/-- The operation header of an operation at an offset (R390). -/
def XOp.hdr (o : XOp) (off : Nat) : OpHdr :=
  { key := o.key, addr := o.raddr + off, msg := o.msg, msgLen := o.len }

/-- Bytes of an atomic's operands in a packet. -/
def atomLen (aop : Nat) : Nat := 24 + aopBytes aop * (if aopFn aop = 6 then 2 else 1)

/-- The packets of an operation. -/
def State.packetsOf (s : State) (c : Conn) (tag : BitVec 16) (o : XOp) : List Packet :=
  let mk (type : BitVec 8) (len : Nat) (b : Body) : Packet := s.mkPacket c type o.tenant tag 0 len b
  let ord (p : Packet) : Packet := { p with xp := { p.xp with ordered := true } }
  match o.kind with
  | .put =>
    markEnds ((cut (s.chunk c.cls.val c.peerDev) o.data).map fun q =>
      mk 0x10#8 (24 + q.2.length) (.put (o.hdr q.1) o.rcv q.2))
  | .get => [mk 0x11#8 24 (.get (o.hdr 0))]
  | .atomic =>
    if o.mask = 0 then [mk 0x20#8 (atomLen o.aop) (.atomic (.keyed (o.hdr 0)) o.aop o.opnd o.cmp)]
    else [ord (mk 0x20#8 (atomLen o.aop) (.atomic (.window o.raddr) o.aop o.opnd o.cmp))]
  | .load => [ord (mk 0x14#8 16 (.load o.raddr o.len))]
  | .store => [ord (mk 0x13#8 (40 + o.data.length) (.store o.raddr o.mask o.data))]
  | .reduce =>
    markEnds ((cut 4072 o.data).map fun q =>
      mk 0x30#8 (24 + q.2.length) (.reduce o.dest (o.aop / 4) (o.mask) (o.aop % 4) q.1 o.data.length q.2))
  | .complete => [mk 0x31#8 6 (.complete o.dest o.opnd [])]

/-- An operation whose completions come in message order (R409). -/
def XOp.inOrder (o : XOp) : Bool :=
  match o.kind with
  | .put | .get => true
  | .atomic => o.mask == 0
  | _ => false

/-- Change an operation. -/
def State.modOp (s : State) (tag : Nat) (f : XOp → XOp) : State :=
  { s with xpt := { s.xpt with ops := amod s.xpt.ops tag f } }

/-- Issue an operation on its OPEN connection (R390, R391). -/
def State.issueOn (s : State) (k tag : Nat) : State :=
  match s.conn k, afind s.xpt.ops tag with
  | some c, some o0 =>
    let o := { o0 with msg := c.msgSnd, issued := true }
    let l := s.packetsOf c (BitVec.ofNat 16 tag) o
    let o1 := { o with left := if o.kind = .get then o.len else l.length }
    let s1 := { s with xpt := { s.xpt with ops := aput s.xpt.ops tag o1 } }
    (s1.modConn k fun x => { x with ops := x.ops + 1, msgSnd := if o.inOrder then x.msgSnd + 1 else x.msgSnd }).sendAll k l
  | _, _ => s

/-- Issue the operations that wait, while fewer than OPS_MAX are outstanding. -/
def State.issueWaiting (s : State) (k : Nat) : Nat → State
  | 0 => s
  | n + 1 =>
    match s.conn k with
    | none => s
    | some c =>
      match c.waiting with
      | [] => s
      | t :: rest =>
        if (c.state == .opened) && decide (c.ops < c.opsMax) then
          ((s.modConn k fun x => { x with waiting := rest }).issueOn k t).issueWaiting k n
        else s

/-- Send and issue what a connection now may. -/
def State.pump (s : State) (k : Nat) : State :=
  match s.conn k with
  | none => s
  | some c => (s.drainQueue k c.sendq.length).issueWaiting k c.waiting.length

/-- OPEN (R385): sent in the connection's class, and kept as unacknowledged until OPEN_ACK. -/
def State.sendOpen (s : State) (k : Nat) : State :=
  match s.conn k with
  | none => s
  | some c =>
    let p := s.mkPacket c 0x01#8 (if c.device then 0xFFFF else 0) 0 0 16
      (.opening ⟨k % 1048576, Nat.mod_lt _ (by decide)⟩ c.cls c.device c.localPart c.peerPart c.inc)
    (s.modConn k fun x => { x with sent := [{ pkt := p, at_ := s.stk.time }] }).launch k p

/-- The connection of an operation: the one in use for its quadruple, or a new one that opens; none when every context is in use. -/
def State.connFor (s : State) (device : Bool) (lpart : Fin 16) (dev : DeviceId) (ppart : Fin 16) (cls : Fin 8) :
    Option (State × Nat) :=
  match s.findConn (quadKey device lpart.val dev ppart.val cls.val) with
  | some (k, _) => some (s, k)
  | none =>
    match s.takeConn .opening device lpart dev ppart cls with
    | some (s1, k) => some (s1.sendOpen k, k)
    | none => none

/-- Put an operation with a free tag on a connection (R385, R391): issued at once where it may be, held otherwise. -/
def State.submit (s : State) (k tag : Nat) (o : XOp) : State :=
  let s1 := { s with xpt := { s.xpt with ops := aput s.xpt.ops tag { o with conn := k } } }
  let s2 := s1.modConn k fun c => { c with waiting := c.waiting ++ [tag], reopen := c.reopen || c.state == .closing }
  s2.pump k

/-- The least free operation tag (R391). -/
def State.freeTag (s : State) : Option Nat :=
  if 65536 ≤ s.xpt.ops.length + s.xpt.queries.length then none
  else leastFree ((s.xpt.ops.map fun p => p.1) ++ s.xpt.queries.map fun p => p.1) (s.xpt.ops.length + s.xpt.queries.length + 1) 0

/-! ### Completion (R399, R405, R409) -/

/-- Give an operation's tag back; its connection may then issue the next. -/
def State.dropOp (s : State) (tag : Nat) (o : XOp) : State :=
  let s1 := { s with xpt := { s.xpt with ops := adel s.xpt.ops tag } }
  (s1.modConn o.conn fun c => { c with
    ops := if o.issued then c.ops - 1 else c.ops, msgDone := if o.inOrder && o.issued then c.msgDone + 1 else c.msgDone }).pump o.conn

/-- The value that a load of some bytes, or an atomic, writes to a register: sign-extended where the access says so. -/
def loadValue (l : List Byte) (width : Nat) (signed : Bool) : BitVec 64 :=
  let v := leNat (l.take width)
  if signed then BitVec.ofInt 64 (toSigned (8 * width) v) else BitVec.ofNat 64 v

/-- A thread's or an engine's access ends (R405): a refusal or failure is an access fault for a thread, and PROTECTION or ACCESS_REVOKED for
a command. -/
def State.accessEnds (s1 : State) (o : XOp) : State :=
  match o.origin with
  | .thread core th rd width signed =>
    let k := threadKey core th
    if o.status = .ok then
      s1.modThread k fun t =>
        { (if o.kind = .store then t else t.setX rd (loadValue (o.result.drop (if o.kind = .load then o.opnd else 0)) width signed)) with
          state := if t.state = .waitAccess then .running else t.state }
    else s1.trap core th (if o.kind = .load then causeLoad else causeStore) (s1.thread k).pc (BitVec.ofNat 64 o.raddr)
  | .engine core unit seq =>
    if o.status = .ok then s1
    else
      { s1 with cores := { s1.cores with queues := amod s1.cores.queues (core * 16 + unit) fun l => l.map fun c =>
          if c.seq = seq then { c with result := some o.status } else c } }
  | _ => s1

/-- An access over the fabric ends. -/
def State.finishAccess (s : State) (tag : Nat) (o : XOp) : State := (s.dropOp tag o).accessEnds o

/-- An operation's packets are done: a queue's entry waits for its turn (XQ_COMPLETION), an access ends now. -/
def State.opDone (s : State) (tag : Nat) (st : Status) (result : List Byte) : State :=
  match afind s.xpt.ops tag with
  | none => s
  | some o =>
    if o.done then s
    else
      let o1 := { o with done := true, status := st, result := result }
      match o.origin with
      | .queue _ _ => { s with xpt := { s.xpt with ops := aput s.xpt.ops tag o1 } }
      | _ => s.finishAccess tag o1

/-- One packet of an operation is acknowledged (R400, R405). Gets, loads and fetching atomics wait for their data, a
rank's contribution for the result of its round. -/
def State.opAcked (s : State) (tag : Nat) : State :=
  match afind s.xpt.ops tag with
  | none => s
  | some o =>
    match o.kind with
    | .get | .load => s
    | .reduce => if o.origin = .agent then (if o.left ≤ 1 then s.opDone tag .ok [] else s.modOp tag fun x => { x with left := x.left - 1 }) else s
    | .atomic => if aopFetch o.aop then s else s.opDone tag .ok []
    | _ => if o.left ≤ 1 then s.opDone tag .ok [] else s.modOp tag fun x => { x with left := x.left - 1 }

/-! ### Acknowledgement and congestion (R387, R392) -/

/-- Bit i of a selective bitmap names the sequence ACK + 1 + i (R387; log entry 12). -/
def selected (ack seq : BitVec 32) (bitmap : BitVec 64) : Bool :=
  let d := (seq - ack - 1).toNat
  decide (d < 64) && bitAt bitmap.toNat d

/-- W after an acknowledgement of some bytes (R392). -/
def State.grow (s : State) (c : Conn) (bytes sample : Nat) (echo : Bool) : Nat :=
  if c.cls.val = 0 then c.window
  else if echo ∨ 4 * c.srtt < sample then c.window
  else min (s.fld Reg.xptWin 31 16 * 1024) (c.window + 4096 * bytes / max 1 c.window)

/-- The end of a round trip (R392): ALPHA in 0.32 fixed point, and W after a round trip that saw ECHO. -/
def State.endRound (s : State) (c : Conn) : Conn :=
  let g := max 1 (s.fld Reg.xptCc 31 28)
  let f := if c.roundBytes = 0 then 0 else c.roundMarked * (2 ^ 32 - 1) / c.roundBytes
  let a := c.alpha - c.alpha / 2 ^ g + f / 2 ^ g
  { c with alpha := a, roundEnd := c.sndNxt, roundBytes := 0, roundMarked := 0,
           window := if c.cls.val = 0 ∨ c.roundMarked = 0 then c.window else max 4096 (c.window - c.window * a / 2 ^ 33) }

/-- A packet that only its own data acknowledges (R403): a load, or a fetching atomic (log entry 12). -/
def Packet.answered (p : Packet) : Bool :=
  match p.body with
  | .load .. => true
  | .atomic _ aop _ _ => aopFetch aop
  | _ => false

/-- Apply an acknowledgement to a connection's sending side (R387, R392). -/
def State.ackConn (s : State) (c : Conn) (ack : BitVec 32) (bitmap : BitVec 64) (echo : Bool) : Conn × List Sent :=
  let hit (x : Sent) : Bool := !x.pkt.answered && (serialLt 32 x.pkt.xp.seq.toNat ack.toNat || selected ack x.pkt.xp.seq bitmap)
  let got := c.sent.filter hit
  let top := if serialLt 32 c.sndUna.toNat ack.toNat && serialLe 32 ack.toNat c.sndNxt.toNat then ack else c.sndUna
  let una := match (c.sent.filter fun x => !hit x).head? with
    | some x => if serialLt 32 x.pkt.xp.seq.toNat top.toNat then x.pkt.xp.seq else top
    | none => top
  if got.isEmpty then ({ c with sndUna := una }, [])
  else
    let bytes := got.foldl (fun a x => a + x.pkt.len) 0
    let fresh := got.filter fun x => !x.pkt.xp.retx
    let sample := match fresh.getLast? with | some x => s.stk.time - x.at_ | none => 0
    let srtt := if fresh.isEmpty then c.srtt else if c.srtt = 0 then sample else Config.smoothRtt c.srtt sample
    let c1 := { c with
      sent := c.sent.filter (fun x => !hit x), inflight := c.inflight - bytes, sndUna := una, retries := 0,
      window := s.grow c bytes sample echo, srtt := srtt, rto := max s.rtoMin (2 * srtt),
      roundBytes := c.roundBytes + bytes, roundMarked := c.roundMarked + (if echo then bytes else 0) }
    (if serialLe 32 c1.roundEnd.toNat una.toNat then s.endRound c1 else c1, got)

/-- Result entries of sequences that the initiator no longer holds unacknowledged are released (R403; log entry 12). -/
def State.releaseResults (s : State) (k : Nat) (c : Conn) (una : BitVec 32) : State :=
  { s with xpt := { s.xpt with results := s.xpt.results.filter fun r =>
      r.conn != k || r.inc != c.inc || !serialLt 32 r.seq.toNat una.toNat } }

/-- A packet's tag still names the operation that sent it: one on its connection, with its message number. -/
def State.tagOf (s : State) (k : Nat) (p : Packet) : Bool :=
  match afind s.xpt.ops p.xp.tag.toNat with
  | some o => o.conn == k && (match p.msgNo with | some m => m == o.msg | none => true)
  | none => false

/-- Apply the acknowledgement that a packet carries. -/
def State.takeAck (s : State) (k : Nat) (ack : BitVec 32) (bitmap : BitVec 64) (echo : Bool) : State :=
  match s.conn k with
  | none => s
  | some c =>
    let r := s.ackConn c ack bitmap echo
    let s1 := s.modConn k fun _ => r.1
    (r.2.foldl (fun (x : State) q => if x.tagOf k q.pkt then x.opAcked q.pkt.xp.tag.toNat else x) s1).pump k

/-- An arrival is noted (R387): sequences in order advance RCV_NXT, others wait in the bitmap. -/
def advance (arrived : List (BitVec 32)) : Nat → BitVec 32 → BitVec 32 × List (BitVec 32)
  | 0, n => (n, arrived)
  | fuel + 1, n => if arrived.contains n then advance (arrived.filter fun x => x != n) fuel (n + 1) else (n, arrived)

/-- ACK (R387): the bitmap of the sequences after ACK that have arrived. -/
def State.sendAck (s : State) (k : Nat) : State :=
  match s.conn k with
  | none => s
  | some c =>
    let m := maskOf ((List.range 64).filter fun i => c.arrived.contains (c.rcvNxt + 1 + BitVec.ofNat 32 i))
    s.sendControl k 0x05#8 0 8 (.ack (BitVec.ofNat 64 m))

/-- Note a sequenced packet as arrived; after 8 packets an ACK is returned (R387). -/
def State.arrive (s : State) (k : Nat) (seq : BitVec 32) : State :=
  match s.conn k with
  | none => s
  | some c =>
    let a := advance (seq :: c.arrived) (c.arrived.length + 1) c.rcvNxt
    let s1 := s.modConn k fun x => { x with
      rcvNxt := a.1, arrived := a.2, unacked := x.unacked + 1, firstAt := if x.unacked = 0 then s.stk.time else x.firstAt }
    if 8 ≤ c.unacked + 1 then s1.sendAck k else s1

/-- A sequence has arrived before. -/
def Conn.seen (c : Conn) (seq : BitVec 32) : Bool := serialLt 32 seq.toNat c.rcvNxt.toNat || c.arrived.contains seq

/-! ### Receiving -/

/-- What every arriving packet of a connection passes (R352, R385, R386, R393): the trailer, its age, an OPEN context whose peer is SRC. Answers
the connection. `strict`: the context must be OPEN. -/
def State.acceptPacket (s : State) (p : Packet) (now : Nat) (strict : Bool) : State × Option (Nat × Conn) :=
  let s0 := s.at_ now
  let s1 := { s0 with lnk := { s0.lnk with delivered := s0.lnk.delivered.erase p } }
  if !s1.xpt.ready ∨ !p.trailerOk then (s1, none)
  else if s1.expired p then (s1.count Reg.xptCntExpired 1, none)
  else
    match s1.conn p.xp.conn.val with
    | none => (s1.count Reg.xptCntStale 1, none)
    | some c =>
      if c.inc ≠ p.xp.inc ∨ c.peerDev ≠ p.src ∨
          ¬ ((c.state == .opened) || (!strict && (c.state == .closing || c.state == .opening))) then
        (s1.count Reg.xptCntStale 1, none)
      else
        let s2 := (s1.modConn p.xp.conn.val fun x => { x with lastUse := s1.strokeNow, echoDue := x.echoDue || p.cmark }).touchConn
          c.engine p.xp.conn.val false
        let s3 := if 3 ≤ p.type.toNat ∧ p.type.toNat ≤ 6 then s2.releaseResults p.xp.conn.val c p.xp.seq else s2
        (s3, (s3.conn p.xp.conn.val).map fun d => (p.xp.conn.val, d))

/-- A packet that passes, with the acknowledgement that it carries applied. -/
def State.receive (s : State) (p : Packet) (now : Nat) (strict : Bool) : State × Option (Nat × Conn) :=
  match s.acceptPacket p now strict with
  | (s1, some (k, _)) =>
    let s2 := s1.takeAck k p.xp.ack 0 p.xp.echo
    (s2, (s2.conn k).map fun d => (k, d))
  | (s1, none) => (s1, none)

/-- Check 2 of R393: partition and class are the context's. -/
def Conn.matches_ (c : Conn) (p : Packet) : Bool := c.peerPart == p.part && c.cls == p.cls

/-! ### Opening, closing, failing (R385) -/

/-- The handle of an indeterminate atomic (R404). -/
def Conn.handle (c : Conn) (seq : BitVec 32) : Nat := c.peerConn.val * 2 ^ 44 + c.peerInc.val * 2 ^ 32 + seq.toNat

/-- An operation of a failing connection (R385, R404): an unacknowledged atomic completes with OUTCOME_INDETERMINATE and its query handle,
every other with TIER_ERROR. -/
def State.failOp (s : State) (c : Conn) (tag : Nat) (o : XOp) : State :=
  if o.done then s
  else
    match o.kind, c.sent.find? (fun x => x.pkt.xp.tag.toNat == tag) with
    | .atomic, some x =>
      ((s.count Reg.xptCntIndet 1).modOp tag fun y => { y with opnd := c.handle x.pkt.xp.seq }).opDone tag .outcomeIndeterminate []
    | _, _ => s.opDone tag .tierError []

/-- What of its region a message's target range is, as far as this device knows it: all of it once its start is known, else what arrived. -/
def Stitch.target (e : Stitch) : List (Nat × Nat) := match e.start with | some a => [(a, e.len)] | none => e.parts

/-- A range of a partition's VAs is undefined (R13): free values stand there. -/
def State.undefine (s : State) (p va n : Nat) : State := ({ s with freeCtr := s.freeCtr + n }.writeVa p .thread va (freeBytes s.freeCtr n)).1

/-- An admitted message ends incomplete: its target range is undefined (R13, R397, R400). -/
def State.undefineMsg (s : State) (e : Stitch) : State :=
  match afind s.xpt.regions e.region with
  | some g => if e.complete || e.len == 0 then s else e.target.foldl (fun (x : State) q => x.undefine g.part.val (g.base + q.1) q.2) s
  | none => s

/-- A connection fails (R385, R400, R404, R405): its operations complete, its stitcher entries and reorder slots are freed, its result entries are
held for 100 ms, and the peer is told. -/
def State.failConn (s : State) (k : Nat) : State :=
  match s.conn k with
  | none => s
  | some c =>
    if c.state = .failed then s
    else
      let s1 := if c.state = .opened ∨ c.state = .closing then s.sendControl k 0x03#8 0 1 (.close true) else s
      let sU := (s1.xpt.stitch.filter fun e => e.conn == k).foldl State.undefineMsg s1
      let s2 := sU.modConn k fun x => { x with state := .failed, sendq := [], waiting := [], sent := [], notReady := [] }
      let s3 : State := { s2 with xpt := { s2.xpt with
        stitch := s2.xpt.stitch.filter (fun e => e.conn != k), rob := s2.xpt.rob.filter (fun r => r.1 != k),
        failed := s2.xpt.failed ++ [(⟨k, c.inc, c.peerDev, s2.stk.time + 100000000⟩ : FailedInc)] } }
      (s3.xpt.ops.filter fun q => q.2.conn == k).foldl (fun (x : State) q => x.failOp c q.1 q.2) s3

/-- An OPENING connection that cannot open (R385): its waiting operations complete with a status, and the context is freed. -/
def State.openFailed (s : State) (k : Nat) (st : Status) : State :=
  ((s.xpt.ops.filter fun q => q.2.conn == k).foldl (fun (x : State) q => x.opDone q.1 st []) s).freeConn k

/-- A closing connection is CLOSED (R385): the context is freed; operations that waited open a new incarnation. -/
def State.closed (s : State) (k : Nat) : State :=
  match s.conn k with
  | none => s
  | some c =>
    let s1 := s.freeConn k
    if c.waiting.isEmpty then s1
    else
      match s1.connFor c.device c.localPart c.peerDev c.peerPart c.cls with
      | none => c.waiting.foldl (fun (x : State) t => x.opDone t .noResource []) s1
      | some (s2, n) =>
        c.waiting.foldl (fun (x : State) t =>
          (x.modOp t fun o => { o with conn := n }).modConn n fun y => { y with waiting := y.waiting ++ [t] }) s2

/-- OPEN (R385): a context is taken and OPEN_ACK sent; an older incarnation fails first; a repeated OPEN is answered again; without a context,
NAK with NO_RESOURCE. -/
def execOpenPkt (p : Packet) (now : Nat) (s : State) : Host.Outcome State Fault Refusal :=
  let s0 := s.at_ now
  let s1 := { s0 with lnk := { s0.lnk with delivered := s0.lnk.delivered.erase p } }
  match p.body with
  | .opening conn cls device part peer inc =>
    if !s1.xpt.ready ∨ !p.trailerOk then .next s1
    else if s1.expired p then .next (s1.count Reg.xptCntExpired 1)
    else
      let accept (x : State) : State :=
        match x.takeConn .opened device peer p.src part cls with
        | some (y, k) =>
          (y.modConn k fun c => { c with peerConn := conn, peerInc := inc }).sendControl k 0x02#8 0 8
            (.openAck ⟨k % 1048576, Nat.mod_lt _ (by decide)⟩ ((y.conn k).map (·.inc) |>.getD 0))
        | none =>
          let c := { (x.newConn .closed device peer p.src part cls 0) with peerConn := conn, peerInc := inc }
          x.inject device (x.mkPacket c 0x06#8 0 0 0 8 (.nak 3 .noResource 0)).seal
      match s1.findConn (quadKey device peer.val p.src part.val cls.val) with
      | none => .next (accept s1)
      | some (k, c) =>
        if c.state = .opening then
          .next (((s1.modConn k fun x => { x with state := .opened, peerConn := conn, peerInc := inc, sent := [] }).sendControl k 0x02#8 0 8
            (.openAck ⟨k % 1048576, Nat.mod_lt _ (by decide)⟩ c.inc)).pump k)
        else if c.peerInc = inc ∧ c.peerConn = conn then
          .next (s1.sendControl k 0x02#8 0 8 (.openAck ⟨k % 1048576, Nat.mod_lt _ (by decide)⟩ c.inc))
        else .next (accept (s1.failConn k))
  | _ => .next (s1.count Reg.xptCntStale 1)

/-- OPEN_ACK (R385). -/
def execOpenAck (p : Packet) (now : Nat) (s : State) : Host.Outcome State Fault Refusal :=
  match s.receive p now false, p.body with
  | (s1, some (k, c)), .openAck conn inc =>
    if c.state = .opening then
      .next ((s1.modConn k fun x => { x with state := .opened, peerConn := conn, peerInc := inc, sent := [], retries := 0 }).pump k)
    else .next s1
  | (s1, _), _ => .next s1

/-- CLOSE (R385): with the abort bit the connection fails, otherwise it ends and CLOSE_ACK is sent. -/
def execClosePkt (p : Packet) (now : Nat) (s : State) : Host.Outcome State Fault Refusal :=
  match s.receive p now false, p.body with
  | (s1, some (k, _)), .close abort =>
    if abort then .next (s1.failConn k) else .next ((s1.sendControl k 0x04#8 0 0 .closeAck).closed k)
  | (s1, _), _ => .next s1

/-- CLOSE_ACK (R385). -/
def execCloseAck (p : Packet) (now : Nat) (s : State) : Host.Outcome State Fault Refusal :=
  match s.receive p now false with
  | (s1, some (k, c)) => if c.state = .closing then .next (s1.closed k) else .next s1
  | (s1, none) => .next s1

/-- CLOSE_TIMEOUT (R385): 3 RTO without CLOSE_ACK. -/
def execCloseTimeout (conn now : Nat) (s : State) : Host.Outcome State Fault Refusal :=
  let s1 := s.at_ now
  match s1.conn conn with
  | some c => if c.state = .closing ∧ c.closeAt + 3 * c.rto ≤ now then .next (s1.closed conn) else .next s1
  | none => .next s1

/-- CONNECTION_IDLE (R385, R418): idle for IDLE strokes, with no operation outstanding and no held result. -/
def execConnectionIdle (conn : Nat) (s : State) : Host.Outcome State Fault Refusal :=
  match s.conn conn with
  | none => .next s
  | some c =>
    let idle := s.fld Reg.xptCc 15 0
    if c.state = .opened ∧ idle ≠ 0 ∧ c.ops = 0 ∧ c.waiting.isEmpty ∧ c.sent.isEmpty ∧ c.lastUse + idle ≤ s.strokeNow ∧
        s.xpt.results.all (fun r => r.conn != conn) then
      .next ((s.sendControl conn 0x03#8 0 1 (.close false)).modConn conn fun x => { x with state := .closing, closeAt := s.stk.time })
    else .next s

/-- ACK (R387). -/
def execAck (p : Packet) (now : Nat) (s : State) : Host.Outcome State Fault Refusal :=
  match s.receive p now false, p.body with
  | (s1, some (k, _)), .ack bitmap => .next (s1.takeAck k p.xp.ack bitmap p.xp.echo)
  | (s1, _), _ => .next s1

/-- ACK_DELAY_TIMER (R387): 1 µs after the first unacknowledged arrival. -/
def execAckDelayTimer (conn now : Nat) (s : State) : Host.Outcome State Fault Refusal :=
  let s1 := s.at_ now
  match s1.conn conn with
  | some c => if c.state = .opened ∧ c.unacked ≠ 0 ∧ c.firstAt + 1000 ≤ now then .next (s1.sendAck conn) else .next s1
  | none => .next s1

/-- Send a packet that was sent before once more (R386, R388). -/
def State.resend (s : State) (k : Nat) (x : Sent) : State :=
  match s.conn k with
  | none => s
  | some c =>
    let p := { x.pkt with xp := { x.pkt.xp with retx := true, ack := c.rcvNxt, echo := c.echoDue },
                          viaValid := false, nonmin := false }
    ((s.modConn k fun y => { y with sent := y.sent.map fun z => if z = x then { pkt := p, at_ := s.stk.time } else z }).count
      Reg.xptCntRetx 1).launch k p

/-- What a NAK says of one sent packet (R386): GAP resends it, NOT_READY resends it after 2 µs, REFUSED completes the operation with its status and
is not retransmitted. -/
def State.takeNak (s : State) (k : Nat) (kind : Nat) (st : Status) (x : Sent) : State :=
  match kind with
  | 1 => s.resend k x
  | 2 => s.modConn k fun y => { y with notReady := y.notReady ++ [x.pkt.xp.seq] }
  | 3 =>
    let t := x.pkt.xp.tag
    let s1 := s.modConn k fun y => { y with
      sent := y.sent.erase x, inflight := y.inflight - x.pkt.len, sendq := y.sendq.filter fun q => q.xp.tag != t }
    (if s.tagOf k x.pkt then s1.opDone t.toNat st [] else s1).pump k
  | _ => s

/-- NAK (R386): the packet that it names is settled before the acknowledgement that comes with it is applied (log entry 12); a refused OPEN ends
the opening. -/
def execNak (p : Packet) (now : Nat) (s : State) : Host.Outcome State Fault Refusal :=
  match s.acceptPacket p now false, p.body with
  | (s1, some (k, c)), .nak kind st seq =>
    if c.state = .opening then
      if kind = 3 ∧ st = .noResource then .next (s1.openFailed k .noResource) else .next s1
    else
      let s2 := match c.sent.find? (fun x => x.pkt.xp.seq == seq) with
        | none => s1
        | some x => s1.takeNak k kind st x
      .next (s2.takeAck k p.xp.ack 0 p.xp.echo)
  | (s1, _), _ => .next s1

/-- NOT_READY_RETRY (R386): no timeout is counted. -/
def execNotReadyRetry (conn now : Nat) (s : State) : Host.Outcome State Fault Refusal :=
  let s1 := s.at_ now
  match s1.conn conn with
  | none => .next s1
  | some c =>
    .next ((c.sent.filter fun x => c.notReady.contains x.pkt.xp.seq).foldl (fun (y : State) x => y.resend conn x)
      (s1.modConn conn fun y => { y with notReady := [] }))

/-- RETRANSMIT_TIMEOUT (R386, R392): every packet unacknowledged for RTO is sent again, RTO doubles up to 16 × RTO_MIN, W falls to 4 KiB;
RETRY_MAX timeouts in a row fail the connection. -/
def execRetransmitTimeout (conn now : Nat) (s : State) : Host.Outcome State Fault Refusal :=
  let s1 := s.at_ now
  match s1.conn conn with
  | none => .next s1
  | some c =>
    let due := c.sent.filter fun x => decide (x.at_ + c.rto ≤ now)
    if due.isEmpty ∨ c.state = .failed then .next s1
    else if s1.retryMax ≤ c.retries + 1 then
      if c.state = .opening then .next (s1.openFailed conn .tierError) else .next (s1.failConn conn)
    else
      let s2 := s1.modConn conn fun y => { y with
        retries := y.retries + 1, rto := min (16 * s1.rtoMin) (2 * y.rto), window := if y.cls.val = 0 then y.window else 4096 }
      .next (due.foldl (fun (y : State) x => y.resend conn x) s2)

end Sys2Proof.Machine
end

