-- ==== Sys2Proof/Machine/Remote.lean ====
section
/-!
DEFINITION. Machine/Remote.lean: what the home does with requests (puts, gets, atomics, harness-window accesses, queries, combining records),
and what brings data back to the initiator (chapter 12, R393 to R413).
-/
namespace Sys2Proof.Machine

/-! ### Regions (R393 to R397) -/

/-- The index of a key (R395). -/
def keyIndex (key : BitVec 64) : Nat := key.toNat / 2 ^ 48

/-- PERMS of a region allow an access (R394). -/
def Region.allows (r : Region) : Access → Bool
  | .read => r.r
  | .write => r.w
  | .atomic => r.a
  | .fetch => false

/-- Add entries to the stitcher. -/
def State.addStitch (s : State) (e : Stitch) : State := { s with xpt := { s.xpt with stitch := s.xpt.stitch ++ [e] } }

/-- Keep a result (R403). -/
def State.addResult (s : State) (r : XResult) : State := { s with xpt := { s.xpt with results := s.xpt.results ++ [r] } }

/-- Checks 3 to 6 of R393 for a keyed access: the region's index, or the status of the first check that fails. `admitted`: the stitcher
admitted the message before a mark (R397). -/
def State.regionCheck (s : State) (lpart : Fin 16) (key : BitVec 64) (tenant : BitVec 16) (acc : Access) (off len : Nat)
    (admitted : Bool) : Except Status (Nat × Region) :=
  match afind s.xpt.regions (keyIndex key) with
  | none => .error .protection
  | some r =>
    if r.draw.toNat ≠ key.toNat % 2 ^ 48 ∨ r.part ≠ lpart then .error .protection
    else if r.revoking.isSome ∧ ¬ admitted then .error .accessRevoked
    else if r.scope.isSome ∧ r.scope ≠ some tenant then .error .protection
    else if !r.allows acc then .error .protection
    else if r.length < off + len then .error .protection
    else .ok (keyIndex key, r)

/-- The grant for lodged rows (R276, R396): reads of the pages of a lodging by its satchel's tenant. -/
def State.lodgedGrant (s : State) (tenant : BitVec 16) (acc : Access) (addr len : Nat) : Bool :=
  acc == .read && s.sat.lodgings.any fun l => l.tenant == tenant && l.rows.any fun r =>
    let base := s.kva.base + r.loc * 65536
    decide (base ≤ addr ∧ addr + len ≤ base + (s.part l.part.val).rowFrames * 65536)

/-- Checks 3 to 6 of R393 for a harness address (R276, R396): a window region covers it. -/
def State.regionWindow (s : State) (tenant : BitVec 16) (acc : Access) (addr len : Nat) : Except Status Nat :=
  match afind s.xpt.winMap (addr / 2 ^ 21) with
  | none => .error .protection
  | some i =>
    match afind s.xpt.regions i with
    | none => .error .protection
    | some r =>
      if r.revoking.isSome then .error .accessRevoked
      else if r.scope.isSome ∧ r.scope ≠ some tenant then .error .protection
      else if !r.allows acc then .error .protection
      else if (addr + len - 1) / 2 ^ 21 ≠ addr / 2 ^ 21 then .error .protection
      else .ok i

/-- What a harness-window access may reach: a window region, or lodged rows under their grant. -/
def State.windowCheck (s : State) (tenant : BitVec 16) (acc : Access) (addr len : Nat) : Except Status Unit :=
  if s.lodgedGrant tenant acc addr len then .ok ()
  else
    match s.regionWindow tenant acc addr len with
    | .error st => .error st
    | .ok _ => .ok ()

/-! ### Atomics (R401, R402) -/

/-- FN of R401 on two operands of n bits; CAS is not here. -/
def atomFn (fn n a b : Nat) : Nat :=
  match fn with
  | 1 => (a + b) % 2 ^ n
  | 2 => min a b
  | 3 => max a b
  | 4 => if toSigned n a ≤ toSigned n b then a else b
  | _ => if toSigned n a ≤ toSigned n b then b else a

/-- The new value of an atomic's target (R402). -/
def atomNew (aop old opnd cmp : Nat) : Nat :=
  let n := 8 * aopBytes aop
  if aopFn aop = 6 then (if old = cmp % 2 ^ n then opnd % 2 ^ n else old) else atomFn (aopFn aop) n old (opnd % 2 ^ n)

/-- An AOP that R401 allows. -/
def aopValid (aop : Nat) : Bool :=
  decide (aop < 256) && bits aop 7 6 != 3 && bits aop 4 3 == 0 && decide (1 ≤ aopFn aop ∧ aopFn aop ≤ 6) &&
    (aopFn aop != 6 || aopFetch aop) && (bits aop 7 6 != 2 || aopFn aop == 6)

/-- Apply an atomic to a physical target in T1 or T0 (R402): the status and the old value. A poisoned sector is not updated. -/
def State.atomAt (s : State) (pa aop opnd cmp : Nat) : State × Except Status (Status × Nat) :=
  let n := aopBytes aop
  if pa % n ≠ 0 then (s, .error .protection)
  else
    match s.memory.target pa with
    | .t1 | .t0 =>
      let old := leNat (memRead s.memory.mem pa n)
      if s.memory.poisoned pa n then (s, .ok (.dataCorrupt, 0))
      else (s.physWrite pa (leBytes n (atomNew aop old opnd cmp)), .ok (.ok, old))
    | _ => (s, .error .protection)

/-! ### Landing -/

/-- Deliver the complete messages that are next in order (R409): the completion bit of R413, then the entry is freed. -/
def State.deliverMsgs (s : State) (k : Nat) : Nat → State
  | 0 => s
  | n + 1 =>
    match s.conn k with
    | none => s
    | some c =>
      match s.xpt.stitch.find? (fun e => e.conn == k && e.msg == c.msgNxt && e.complete) with
      | none => s
      | some e =>
        let s1 := (s.modConn k fun x => { x with msgNxt := x.msgNxt + 1 })
        let s2 := if e.abandoned then s1 else { s1 with xpt := { s1.xpt with stitch := s1.xpt.stitch.erase e } }
        (match e.rcv with
          | some b => if e.abandoned then s2 else s2.cvSet c.localPart.val b
          | none => s2).deliverMsgs k n

/-- A message of one packet is complete (a get's request, an atomic): it takes its turn. -/
def State.wholeMsg (s : State) (k : Nat) (msg : BitVec 32) : State :=
  (s.addStitch { conn := k, msg := msg, len := 0, parts := [], start := none, bytes := 0, region := 0, rcv := none, complete := true,
                 abandoned := false }).deliverMsgs k (s.xpt.stitch.length + 1)

/-- A put that is refused (R397, R409): its message delivers nothing and takes its turn; what it still sends is refused. -/
def State.endPut (s : State) (k : Nat) (msg : BitVec 32) : State :=
  let mine (e : Stitch) : Bool := e.conn == k && e.msg == msg
  let passed : Bool := match s.conn k with | some c => serialLt 32 msg.toNat c.msgNxt.toNat | none => true
  let s1 := match s.xpt.stitch.find? mine with
    | some e =>
      if e.abandoned then s
      else { s.undefineMsg e with xpt := { (s.undefineMsg e).xpt with
        stitch := s.xpt.stitch.map fun (x : Stitch) => if mine x then { x with abandoned := true, complete := true } else x } }
    | none =>
      if passed then s
      else s.addStitch { conn := k, msg := msg, len := 0, parts := [], start := none, bytes := 0, region := 0, rcv := none, complete := true,
                         abandoned := true }
  s1.deliverMsgs k (s1.xpt.stitch.length + 1)

/-- A request is refused (R386): acknowledged with a NAK of kind REFUSED and the status; its message takes its turn (R409). -/
def State.refuse (s : State) (k : Nat) (p : Packet) (st : Status) : State :=
  let s1 := (s.arrive k p.xp.seq).sendNak k 3 st p.xp.seq p.xp.tag
  match p.body with
  | .put h _ _ => s1.endPut k h.msg
  | .get h => s1.wholeMsg k h.msg
  | .atomic (.keyed h) _ _ _ => s1.wholeMsg k h.msg
  | _ => s1

/-- A request cannot be taken now (R386). -/
def State.notReady (s : State) (k : Nat) (p : Packet) : State := s.sendNak k 2 .ok p.xp.seq p.xp.tag

/-- Faults that an engine's packets are parked on. -/
def State.parkedPackets (s : State) (engine : Nat) : Nat :=
  (s.memory.faults.filter fun f => match f.2.unit with | .packet e _ _ => e == engine | _ => false).length

/-- A packet's translation failed (R279, R280, R283): it is parked in the engine's fault buffer, refused where nothing is parked, or not ready
where the buffer is full. -/
def State.packetFault (s : State) (k : Nat) (c : Conn) (p : Packet) (part : Fin 16) (acc : Access) (x : Xlat) : State :=
  match x with
  | .bad kind stage ipa =>
    if kind.parks ∧ 256 ≤ s.parkedPackets c.engine then s.notReady k p
    else
      let r := s.openFault { kind := kind, access := acc, source := BitVec.ofNat 12 (0x280 + c.engine), part := part, stage := stage,
                             va := 0, ipa := ipa, satchel := 0, posted := s.stk.time,
                             unit := .packet c.engine k p.xp.seq.toNat, recorded := none }
      match r.2 with
      | some id => { r.1 with xpt := { r.1.xpt with parked := aput r.1.xpt.parked id p } }
      | none => r.1.refuse k p .protection
  | .deny b => (s.denied (0x280 + c.engine) 0 b).refuse k p .protection
  | .pa _ => s

/-- A PUT packet (R393, R400, R408): its data is placed at its ADDR under the message's admission. -/
def State.landPut (s : State) (k : Nat) (c : Conn) (p : Packet) (h : OpHdr) (rcv : Option Nat) (data : List Byte) : State :=
  let old := s.xpt.stitch.find? fun e => e.conn == k && e.msg == h.msg
  match old with
  | some e =>
    if e.abandoned then
      s.refuse k p (match s.regionCheck c.localPart h.key p.tenant .write h.addr data.length false with | .error st => st | .ok _ => .accessRevoked)
    else
    match s.regionCheck c.localPart h.key p.tenant .write h.addr data.length true with
    | .error st => s.refuse k p st
    | .ok (_, r) => go s e r
  | none =>
    match s.regionCheck c.localPart h.key p.tenant .write h.addr data.length false with
    | .error st => s.refuse k p st
    | .ok (i, r) =>
      if 8192 ≤ (s.xpt.stitch.filter fun e => !e.complete).length then s.notReady k p
      else
        go s { conn := k, msg := h.msg, len := h.msgLen, parts := [], start := none, bytes := 0, region := i, rcv := rcv, complete := false,
               abandoned := false } r
where
  go (s : State) (e : Stitch) (r : Region) : State :=
    match s.writeVa r.part.val .thread (r.base + h.addr) data with
    | (s1, .error (_, x)) =>
      (if s1.xpt.stitch.contains e then s1 else s1.addStitch e).packetFault k c p r.part .write x
    | (s1, .ok _) =>
      let e1 := if e.parts.any fun q => q.1 == h.addr then e else
        { e with parts := (h.addr, data.length) :: e.parts, bytes := e.bytes + data.length,
                 start := if p.xp.first then some h.addr else if p.xp.last then some (h.addr + data.length - h.msgLen) else e.start,
                 complete := decide (e.len ≤ e.bytes + data.length) }
      let rest := s1.xpt.stitch.filter fun (x : Stitch) => !(x.conn == k && x.msg == h.msg)
      let s2 : State := { s1 with xpt := { s1.xpt with stitch := rest ++ [e1] } }
      (s2.arrive k p.xp.seq).deliverMsgs k (s2.xpt.stitch.length + 1)

/-- A GET request (R400): the home answers with GET_DATA in the reverse direction; poison ends it with DATA_CORRUPT. -/
def State.landGet (s : State) (k : Nat) (c : Conn) (p : Packet) (h : OpHdr) : State :=
  match s.regionCheck c.localPart h.key p.tenant .read h.addr h.msgLen false with
  | .error st => s.refuse k p st
  | .ok (_, r) =>
    match s.xlateRange r.part.val .thread .read (r.base + h.addr) h.msgLen with
    | (s1, .error (_, x)) => s1.packetFault k c p r.part .read x
    | (s1, .ok l) =>
      if s1.partsPoisoned l then s1.refuse k p .dataCorrupt
      else
        let d := s1.readParts (partFn r.part.val) l
        let s2 := (d.1.arrive k p.xp.seq).wholeMsg k h.msg
        s2.sendAll k (markEnds ((cut (s2.chunk c.cls.val c.peerDev) d.2).map fun q =>
          s2.mkPacket c 0x12#8 p.tenant p.xp.tag 0 (24 + q.2.length)
            (.getData { h with addr := h.addr + q.1 } q.2)))

/-- ATOMIC_DATA (R402, R403): its SEQ names the request's (log entry 12). -/
def State.sendAtomicData (s : State) (k : Nat) (p : Packet) (st : Status) (v : Nat) : State :=
  match s.conn k with
  | none => s
  | some c => s.launch k (s.mkPacket c 0x21#8 p.tenant p.xp.tag p.xp.seq 24 (.atomicData st v))

/-- Keep a result and answer a fetching atomic (R403). -/
def State.atomResult (s : State) (k : Nat) (c : Conn) (p : Packet) (aop : Nat) (st : Status) (v : Nat) : State :=
  let s1 := (s.addResult { conn := k, inc := c.inc, seq := p.xp.seq, status := st, value := v }).arrive k p.xp.seq
  if aopFetch aop ∨ st ≠ .ok then s1.sendAtomicData k p st v else s1

/-- An ATOMIC packet (R402, R403): applied once at most; a kept result is returned instead; a full table is not ready. -/
def State.landAtomic (s : State) (k : Nat) (c : Conn) (p : Packet) (t : AtomTarget) (aop opnd cmp : Nat) : State :=
  if 131072 ≤ s.xpt.results.length then s.notReady k p
  else
    match t with
    | .keyed h =>
      match s.regionCheck c.localPart h.key p.tenant .atomic h.addr (aopBytes aop) false with
      | .error st => s.refuse k p st
      | .ok (_, r) =>
        match s.xlate r.part.val .thread .atomic (r.base + h.addr) with
        | (s1, .pa a) =>
          match s1.atomAt a aop opnd cmp with
          | (s2, .error st) => s2.refuse k p st
          | (s2, .ok (st, v)) => (s2.atomResult k c p aop st v).wholeMsg k h.msg
        | (s1, x) => s1.packetFault k c p r.part .atomic x
    | .window a =>
      match s.windowCheck p.tenant .atomic a (aopBytes aop) with
      | .error st => s.refuse k p st
      | .ok _ =>
        match s.atomAt a aop opnd cmp with
        | (s2, .error st) => s2.refuse k p st
        | (s2, .ok (st, v)) => s2.atomResult k c p aop st v

/-- The bytes of a store under its byte mask. -/
def masked (old new : List Byte) (mask : Nat) : List Byte :=
  old.zipIdx.map fun q => if bitAt mask q.2 then new.getD q.2 q.1 else q.1

/-- An access of R405's sizes: within one 256-byte granule, naturally aligned. -/
def windowShape (addr len : Nat) : Bool :=
  [8, 16, 32, 64, 128, 256].contains len && addr % len == 0

/-- An ORDERED packet whose turn has come (R406). -/
def State.applyOrdered (s : State) (k : Nat) (c : Conn) (p : Packet) : State :=
  match p.body with
  | .store a mask data =>
    match s.windowCheck p.tenant .write a data.length with
    | .error st => s.refuse k p st
    | .ok _ =>
      let old := memRead s.memory.mem a data.length
      (s.physWrite a (masked old data mask)).arrive k p.xp.seq
  | .load a len =>
    match s.windowCheck p.tenant .read a len with
    | .error st => s.refuse k p st
    | .ok _ =>
      let st := if s.memory.poisoned a len then Status.dataCorrupt else .ok
      let s1 := s.arrive k p.xp.seq
      match s1.conn k with
      | none => s1
      | some d => s1.launch k (s1.mkPacket d 0x15#8 p.tenant p.xp.tag p.xp.seq (8 + len) (.loadData st (memRead s.memory.mem a len)))
  | .atomic t aop opnd cmp => s.landAtomic k c p t aop opnd cmp
  | _ => s

/-- Apply the ORDERED packets that wait and are next (R406). -/
def State.drainRob (s : State) (k : Nat) : Nat → State
  | 0 => s
  | n + 1 =>
    match s.conn k with
    | none => s
    | some c =>
      match s.xpt.rob.find? (fun r => r.1 == k && r.2.xp.seq == c.rcvNxt) with
      | none => s
      | some r =>
        let s1 := { s with xpt := { s.xpt with rob := s.xpt.rob.erase r } }
        (s1.applyOrdered k c r.2).drainRob k n

/-- After an arrival, what waited behind the gap is applied. -/
def State.settle (s : State) (k : Nat) : State := s.drainRob k s.xpt.rob.length

/-- Reorder slots in use at an engine (R406). -/
def State.robUsed (s : State) (engine : Nat) : Nat :=
  (s.xpt.rob.filter fun r => match s.conn r.1 with | some c => c.engine == engine | none => false).length

/-- An ORDERED packet (R406): applied when it is next, kept in the reorder buffer before, not ready where that is full. -/
def State.landOrdered (s : State) (k : Nat) (c : Conn) (p : Packet) : State :=
  if p.xp.seq = c.rcvNxt then (s.applyOrdered k c p).settle k
  else if s.xpt.rob.any (fun r => r.1 == k && r.2.xp.seq == p.xp.seq) then s
  else if 2048 ≤ s.robUsed c.engine then
    (let s1 : State := { s with xpt := { s.xpt with robFullAt := some s.strokeNow } }; s1.notReady k p)
  else { s with xpt := { s.xpt with rob := s.xpt.rob ++ [(k, p)] } }

/-- A duplicate: an atomic's kept result or a load's data is sent again, anything else is acknowledged and dropped (R403, R408). -/
def State.duplicate (s : State) (k : Nat) (c : Conn) (p : Packet) : State :=
  match s.xpt.results.find? (fun r => r.conn == k && r.inc == c.inc && r.seq == p.xp.seq), p.body with
  | some r, .atomic _ aop _ _ => if aopFetch aop ∨ r.status ≠ .ok then s.sendAtomicData k p r.status r.value else s.sendAck k
  | _, .load a len =>
    let st := if s.memory.poisoned a len then Status.dataCorrupt else .ok
    s.launch k (s.mkPacket c 0x15#8 p.tenant p.xp.tag p.xp.seq (8 + len) (.loadData st (memRead s.memory.mem a len)))
  | _, _ => s.sendAck k

/-- A harness-window access from another harness is not admitted (R396). -/
def State.landWindow (s : State) (k : Nat) (c : Conn) (p : Packet) : State :=
  if harness p.src = harness s.me then s.landOrdered k c p else (s.refuse k p .protection).settle k

/-- A request of an admitted connection (R393 to R408). -/
def State.land (s : State) (k : Nat) (c : Conn) (p : Packet) : State :=
  if c.seen p.xp.seq then s.duplicate k c p
  else if !c.matches_ p then (s.refuse k p .protection).settle k
  else
    match p.body with
    | .put h rcv data => (s.landPut k c p h rcv data).settle k
    | .get h => (s.landGet k c p h).settle k
    | .atomic (.keyed h) aop opnd cmp => (s.landAtomic k c p (.keyed h) aop opnd cmp).settle k
    | .atomic (.window _) _ _ _ => s.landWindow k c p
    | .store .. => s.landWindow k c p
    | .load .. => s.landWindow k c p
    | _ => s

/-- A request packet of one kind arrives. -/
def State.request (s : State) (p : Packet) (now : Nat) (mine : Body → Bool) : State :=
  if !mine p.body then (s.at_ now).count Reg.xptCntStale 1
  else
    match s.receive p now true with
    | (s1, some (k, c)) => s1.land k c p
    | (s1, none) => s1

/-- PUT (R400). -/
def execPut (p : Packet) (now : Nat) (s : State) : Host.Outcome State Fault Refusal :=
  .next (s.request p now fun b => match b with | .put .. => true | _ => false)

/-- GET (R400). -/
def execGet (p : Packet) (now : Nat) (s : State) : Host.Outcome State Fault Refusal :=
  .next (s.request p now fun b => match b with | .get .. => true | _ => false)

/-- STORE (R406). -/
def execStore (p : Packet) (now : Nat) (s : State) : Host.Outcome State Fault Refusal :=
  .next (s.request p now fun b => match b with | .store .. => true | _ => false)

/-- LOAD (R406). -/
def execLoad (p : Packet) (now : Nat) (s : State) : Host.Outcome State Fault Refusal :=
  .next (s.request p now fun b => match b with | .load .. => true | _ => false)

/-- ATOMIC (R402, R403). -/
def execAtomic (p : Packet) (now : Nat) (s : State) : Host.Outcome State Fault Refusal :=
  .next (s.request p now fun b => match b with | .atomic .. => true | _ => false)

/-! ### Data that returns to the initiator -/

/-- A GET_DATA packet at the initiator (R400): its bytes are placed; the last ones end the operation. -/
def State.landGetData (s : State) (k : Nat) (c : Conn) (p : Packet) (h : OpHdr) (data : List Byte) : State :=
  if c.seen p.xp.seq then s.sendAck k
  else
    match afind s.xpt.ops p.xp.tag.toNat with
    | none => (s.arrive k p.xp.seq).settle k
    | some o =>
      let off := h.addr - o.raddr
      if o.kind ≠ .get ∨ o.conn ≠ k ∨ o.done ∨ o.got.contains off then (s.arrive k p.xp.seq).settle k
      else
        match s.writeVa o.part.val .thread (o.laddr + off) data with
        | (s1, .error (_, x)) => s1.packetFault k c p o.part .write x
        | (s1, .ok _) =>
          let s2 := (s1.arrive k p.xp.seq).modOp p.xp.tag.toNat fun y => { y with got := off :: y.got, left := y.left - data.length }
          (if o.left ≤ data.length then s2.opDone p.xp.tag.toNat .ok [] else s2).settle k

/-- GET_DATA (R400). -/
def execGetData (p : Packet) (now : Nat) (s : State) : Host.Outcome State Fault Refusal :=
  match s.receive p now true, p.body with
  | (s1, some (k, c)), .getData h data => .next (s1.landGetData k c p h data)
  | (s1, _), _ => .next s1

/-- The answer to a packet that only its data acknowledges (R403): the packet is no longer unacknowledged, the operation is done. -/
def State.answered (s : State) (k : Nat) (c : Conn) (p : Packet) (st : Status) (result : List Byte) : State :=
  match c.sent.find? (fun x => x.pkt.xp.tag == p.xp.tag && x.pkt.xp.seq == p.xp.seq) with
  | none => s
  | some x =>
    let s1 := s.modConn k fun y => { y with
      sent := y.sent.erase x, inflight := y.inflight - x.pkt.len, retries := 0, unacked := y.unacked + 1,
      firstAt := if y.unacked = 0 then s.stk.time else y.firstAt,
      sndUna := match (y.sent.erase x).head? with | some z => z.pkt.xp.seq | none => y.sndNxt }
    (s1.opDone p.xp.tag.toNat st result).pump k

/-- LOAD_DATA (R405). -/
def execLoadData (p : Packet) (now : Nat) (s : State) : Host.Outcome State Fault Refusal :=
  match s.receive p now true, p.body with
  | (s1, some (k, c)), .loadData st data => .next (s1.answered k c p st data)
  | (s1, _), _ => .next s1

/-- ATOMIC_DATA (R402). -/
def execAtomicData (p : Packet) (now : Nat) (s : State) : Host.Outcome State Fault Refusal :=
  match s.receive p now true, p.body with
  | (s1, some (k, c)), .atomicData st v => .next (s1.answered k c p st (leBytes 16 v))
  | (s1, _), _ => .next s1

/-! ### Combining (R411, R412) -/

/-- The home's connection of a constituent, where it is OPEN and its sequence has not arrived. -/
def State.constituentConn (s : State) (x : Constituent) : Option Conn :=
  match s.conn x.conn.val with
  | some c => if c.state = .opened ∧ c.inc = x.inc ∧ c.peerDev = x.src ∧ ¬ c.seen x.seq then some c else none
  | none => none

/-- The value before each constituent's own update, and the value after all (R411, R412). -/
def combineFold (aop v : Nat) : List Nat → List Nat × Nat
  | [] => ([], v)
  | o :: t =>
    let r := combineFold aop (atomNew aop v o 0) t
    (v :: r.1, r.2)

/-- The message of a constituent's keyed atomic takes its turn (R409). -/
def State.constituentMsg (s : State) (keyed : Bool) (y : Constituent) : State := if keyed then s.wholeMsg y.conn.val y.msg else s

/-- Refuse every constituent of a record on its own connection, or answer that it is not ready. -/
def State.refuseAll (s : State) (keyed : Bool) (st : Status) (ready : Bool) (l : List Constituent) : State :=
  l.foldl (fun (x : State) y =>
    if ready then ((x.arrive y.conn.val y.seq).sendNak y.conn.val 3 st y.seq y.tag).constituentMsg keyed y
    else x.sendNak y.conn.val 2 .ok y.seq y.tag) s

/-- Constituents that are next in their connections' sequences, in order, and the others (R406, R410). -/
def State.inTurn (s : State) : List Constituent → List Constituent → List Constituent × List Constituent
  | mine, [] => (mine, [])
  | mine, y :: t =>
    let before := (mine.filter fun x => x.conn == y.conn).length
    let next : Bool := match s.conn y.conn.val with | some c => y.seq == c.rcvNxt + BitVec.ofNat 32 before | none => false
    let r := s.inTurn (if next then mine ++ [y] else mine) t
    (r.1, if next then r.2 else y :: r.2)

/-- A record names a region, not a harness address. -/
def CombRec.keyed (r : CombRec) : Bool := match r.target with | .keyed _ => true | .window _ => false

/-- The physical target of a record, checked with the first constituent's connection (R393). -/
def State.recordTarget (s : State) (c : Conn) (r : CombRec) : State × Except Status Nat :=
  match r.target with
  | .keyed h =>
    match s.regionCheck c.localPart h.key r.tenant .atomic h.addr (aopBytes r.aop) false with
    | .error st => (s, .error st)
    | .ok (_, g) =>
      match s.xlate g.part.val .thread .atomic (g.base + h.addr) with
      | (s1, .pa a) => (s1, .ok a)
      | (s1, _) => (s1, .error .protection)
  | .window a =>
    match s.windowCheck r.tenant .atomic a (aopBytes r.aop) with
    | .error st => (s, .error st)
    | .ok _ => (s, .ok a)

/-- A record at the home (R406, R411): ORDERED constituents whose turn has not come are not ready; for the others one update, a result entry for each constituent, each acknowledged on its own connection; a fetching record
is answered with COMBINED_DATA. -/
def State.applyRecord (s0 : State) (r : CombRec) : State :=
  let known := r.list_.filter fun x => (s0.constituentConn x).isSome
  let split := if r.keyed then (known, []) else s0.inTurn [] known
  let l := split.1
  let s := s0.refuseAll r.keyed .ok false split.2
  match l.head?.bind s.constituentConn with
  | none => s
  | some c =>
    if 131072 < s.xpt.results.length + l.length then s.refuseAll r.keyed .ok false l
    else
      match s.recordTarget c r with
      | (s1, .error st) => s1.refuseAll r.keyed st true l
      | (s1, .ok a) =>
        let old := leNat (memRead s1.memory.mem a (aopBytes r.aop))
        let f := combineFold r.aop old (l.map fun x => x.opnd)
        match s1.memory.target a, s1.memory.poisoned a (aopBytes r.aop) with
        | .t1, false | .t0, false =>
          let s2 := (s1.physWrite a (leBytes (aopBytes r.aop) f.2)).count Reg.xptCntCombined 1
          let s3 := (l.zip f.1).foldl (fun (x : State) q =>
            ((((x.addResult { conn := q.1.conn.val, inc := q.1.inc, seq := q.1.seq, status := .ok, value := q.2 }).arrive
              q.1.conn.val q.1.seq).constituentMsg r.keyed q.1)).settle q.1.conn.val) s2
          if aopFetch r.aop then
            let back := l.map fun x =>
              match s3.conn x.conn.val with
              | some d => { x with conn := d.peerConn, inc := d.peerInc }
              | none => x
            s3.routeOn none (s3.mkPacket { c with peerDev := r.router, peerConn := 1048575, peerInc := 4095 } 0x23#8 r.tenant 0 0
              (24 + 16 * back.length) (.combinedData old .ok { r with list_ := back })).seal
          else s3
        | _, true => s1.refuseAll r.keyed .dataCorrupt true l
        | _, _ => s1.refuseAll r.keyed .protection true l

/-- COMBINED (R411). -/
def execCombined (p : Packet) (now : Nat) (s : State) : Host.Outcome State Fault Refusal :=
  let s1 := s.at_ now
  match p.body with
  | .combined r =>
    if !s1.xpt.ready ∨ !p.trailerOk then .next s1
    else if s1.expired p then .next (s1.count Reg.xptCntExpired 1)
    else .next (s1.applyRecord r)
  | _ => .next (s1.count Reg.xptCntStale 1)

/-- COMBINED_DATA (R412): each constituent gets its own ATOMIC_DATA, with the home's device ID in SRC (R352). -/
def execCombinedData (p : Packet) (now : Nat) (s : State) : Host.Outcome State Fault Refusal :=
  let s1 := s.at_ now
  match p.body with
  | .combinedData base st r =>
    if !p.trailerOk then .next s1
    else
      let vals := (combineFold r.aop base (r.list_.map fun x => x.opnd)).1
      .next ((r.list_.zip vals).foldl (fun (x : State) q =>
        x.routeOn none (Packet.seal { p with
          type := 0x21#8, dst := q.1.src, hops := 0, viaValid := false, cmark := false, nonmin := false, rsv := 0, len := 24,
          xp := { p.xp with conn := q.1.conn, inc := q.1.inc, seq := q.1.seq, ack := 0, tag := q.1.tag, age := x.usNow },
          body := .atomicData st q.2 })) s1)
  | _ => .next (s1.count Reg.xptCntStale 1)

/-! ### Queries (R404) -/

/-- QUERY at the home (R404): an OPEN incarnation is failed first; a kept result says APPLIED 1, none within 100 ms of the failure APPLIED 0,
afterwards the outcome is indeterminate. -/
def execQuery (p : Packet) (now : Nat) (s : State) : Host.Outcome State Fault Refusal :=
  let s1 := s.at_ now
  match p.body with
  | .query inc seq =>
    if !s1.xpt.ready ∨ !p.trailerOk then .next s1
    else if s1.expired p then .next (s1.count Reg.xptCntExpired 1)
    else
      let k := p.xp.conn.val
      let s2 : State := match s1.conn k with
        | some c => if c.inc = inc ∧ c.peerDev = p.src ∧ c.state ≠ ConnState.failed then s1.failConn k else s1
        | none => s1
      let held : Bool := s2.xpt.failed.any fun f => f.conn == k && f.inc == inc && f.peer == p.src && decide (now < f.until_)
      let ans : Option Bool × Nat :=
        if !held then (none, 0)
        else
          match s2.xpt.results.find? (fun r => r.conn == k && r.inc == inc && r.seq == seq) with
          | some r => (some true, r.value)
          | none => (some false, 0)
      .next (s2.inject false (Packet.seal { p with
        type := 0x25#8, dst := p.src, src := s2.me, hops := 0, viaValid := false, cmark := false, nonmin := false, rsv := 0, len := 24,
        xp := { p.xp with age := s2.usNow }, body := .queryData ans.1 ans.2 }))
  | _ => .next (s1.count Reg.xptCntStale 1)

/-- QUERY_DATA (R404): the packet that asked is answered. -/
def execQueryData (p : Packet) (now : Nat) (s : State) : Host.Outcome State Fault Refusal :=
  let s1 := s.at_ now
  match p.body, afind s1.xpt.queries p.xp.tag.toNat with
  | .queryData applied v, some (_, r) =>
    if !p.trailerOk then .next s1
    else
      let s2 := { s1 with xpt := { s1.xpt with queries := adel s1.xpt.queries p.xp.tag.toNat } }
      match applied with
      | some b => .next (s2.answer r .ok true (leBytes 1 (b2n b) ++ zeros 7 ++ leBytes 16 v))
      | none => .next (s2.done r .outcomeIndeterminate)
  | _, _ => .next (s1.count Reg.xptCntStale 1)

/-- RESULT_HOLD_EXPIRY (R385, R404): the failed incarnation's results are dropped and its context is freed. -/
def execResultHoldExpiry (conn : Nat) (inc : Fin 4096) (now : Nat) (s : State) : Host.Outcome State Fault Refusal :=
  let s1 := s.at_ now
  if s1.xpt.failed.any (fun f => f.conn == conn && f.inc == inc && decide (f.until_ ≤ now)) then
    let s2 := { s1 with xpt := { s1.xpt with
      failed := s1.xpt.failed.filter (fun f => !(f.conn == conn && f.inc == inc)),
      results := s1.xpt.results.filter (fun r => !(r.conn == conn && r.inc == inc)) } }
    match s2.conn conn with
    | some c => if c.state = ConnState.failed ∧ c.inc = inc then .next (s2.freeConn conn) else .next s2
    | none => .next s2
  else .next s1

end Sys2Proof.Machine
end

