-- ==== Sys2Proof/Machine/Queues.lean ====
section
/-!
DEFINITION. Machine/Queues.lean: transport queues and their descriptors, harness-window accesses, regions, collectors and collectives, and the
commands of the transport (chapter 12, R394 to R415, R453).
-/
namespace Sys2Proof.Machine

/-! ### Descriptors (R399) -/

/-- A descriptor as read from its 64 bytes. -/
structure XDesc where
  op : Nat
  cls : Nat
  fence : Bool
  rcvEn : Bool
  cvEn : Bool
  dest : Nat
  dpart : Nat
  aop : Nat
  key : Nat
  raddr : Nat
  laddr : Nat
  len : Nat
  cvBit : Nat
  rcvBit : Nat
  opnd : Nat
  cmp : Nat
  tagv : Nat
  rsv : Nat
  own : Nat
  deriving DecidableEq, Repr

/-- The field of n bytes at an offset. -/
def fieldAt (l : List Byte) (off n : Nat) : Nat := leNat ((l.drop off).take n)

/-- The layout of R399. -/
def XDesc.ofBytes (l : List Byte) : XDesc :=
  let f := fieldAt l
  { op := f 0x00 1, cls := f 0x01 1 % 8, fence := bitAt (f 0x02 2) 2, rcvEn := bitAt (f 0x02 2) 1, cvEn := bitAt (f 0x02 2) 0,
    dest := f 0x04 2, dpart := f 0x06 1 % 16, aop := f 0x07 1, key := f 0x08 8, raddr := f 0x10 8, laddr := f 0x18 8, len := f 0x20 4,
    cvBit := f 0x24 2, rcvBit := f 0x26 2, opnd := f 0x28 8, cmp := f 0x30 8, tagv := f 0x38 4,
    rsv := f 0x01 1 / 8 + f 0x02 2 / 8 + f 0x06 1 / 16 + f 0x3C 2 + f 0x24 2 / 16384 + f 0x26 2 / 16384, own := f 0x3F 1 }

/-- The checks of OP, AOP, LEN and reserved fields before any packet (R399, R401, R415). -/
def XDesc.check (d : XDesc) : Option Status :=
  if !([1, 2, 3, 5, 6].contains d.op) then some .badOpcode
  else if d.rsv ≠ 0 then some .badField
  else if d.op = 3 then (if aopValid d.aop && d.len == aopBytes d.aop then none else some .badField)
  else if d.aop ≠ 0 then some .badField
  else if d.len = 0 ∨ 16777216 < d.len then some .badField
  else if d.op = 5 ∧ 1048576 < d.len then some .badField
  else none

/-- The operation that a descriptor asks for. -/
def XDesc.op_ (d : XDesc) (q index : Nat) (x : XQueue) : XOp :=
  { kind := match d.op with | 1 => .put | 2 => .get | 3 => .atomic | 5 => .reduce | _ => .complete,
    origin := .queue q index, conn := 0, issued := false, msg := 0, tenant := x.tenant, part := x.part, key := BitVec.ofNat 64 d.key,
    raddr := d.raddr, laddr := d.laddr, len := d.len, aop := d.aop, opnd := d.opnd, cmp := d.cmp, dest := d.dest,
    cv := if d.rcvEn && d.op == 2 then some (d.rcvBit % 16384) else if d.cvEn then some (d.cvBit % 16384) else none,
    rcv := if d.rcvEn && d.op == 1 then some (d.rcvBit % 16384) else none, tagv := BitVec.ofNat 32 d.tagv, data := [], mask := 0, left := 0,
    got := [], status := .ok, done := false, result := [] }

/-- The key of a collector or a group of a partition. -/
def groupKey (part id : Nat) : Nat := part * 65536 + id

/-! ### Collectives (R415) -/

/-- The rank of a device's partition in a group. -/
def XGroup.rankOf (g : XGroup) (d : DeviceId) (p : Fin 16) : Option Nat := g.ranks.findIdx? fun r => r.dev == d && r.part == p

/-- The ranks in a harness, ascending. -/
def XGroup.inHarness (g : XGroup) (h : Nat) : List Nat :=
  (List.range g.ranks.length).filter fun i => harness (g.ranks.getD i ⟨0, 0⟩).dev == h

/-- The aggregator of a harness: its member of lowest rank. -/
def XGroup.aggregator (g : XGroup) (h : Nat) : Nat := (g.inHarness h).headD 0

/-- The root: the aggregator of rank 0's harness. -/
def XGroup.root (g : XGroup) : Nat := g.aggregator (harness (g.ranks.getD 0 ⟨0, 0⟩).dev)

/-- The harnesses of a group, ascending. -/
def XGroup.harnesses (g : XGroup) : List Nat :=
  (List.range 512).filter fun h => !(g.inHarness h).isEmpty

/-- The sum of two rows of elements in the group's format: FP32 (0x9) or BF16 (0x7). -/
def sumElems (fmt : Nat) : Nat → List Byte → List Byte → List Byte
  | 0, _, _ => []
  | n + 1, a, b =>
    if a.isEmpty then []
    else
      let w := if fmt = 9 then 4 else 2
      let x := leNat (a.take w)
      let y := leNat (b.take w)
      let r := if fmt = 9 then (f32Add (BitVec.ofNat 32 x) (BitVec.ofNat 32 y)).toNat
        else (Config.bf16Sum (BitVec.ofNat 16 x) (BitVec.ofNat 16 y)).toNat
      leBytes w r ++ sumElems fmt n (a.drop w) (b.drop w)

/-- The contributions in the fixed order: a sum in that order, or what they are one after the other. -/
def XGroup.merge (g : XGroup) : List (List Byte) → List Byte
  | [] => []
  | a :: t => if g.fn = 1 then t.foldl (fun x y => sumElems g.fmt x.length x y) a else t.foldl (fun x y => x ++ y) a

/-- The key of a contribution's piece: round, step, rank, offset. -/
def pieceKey (round step rank off : Nat) : Nat := ((round * 4 + step) * 4096 + rank) * 2 ^ 34 + off

/-- A contribution as far as it has come. -/
def XGroup.piece (g : XGroup) (round step rank : Nat) : List Byte :=
  (g.inputs.filter fun q => q.1 / 2 ^ 34 == (round * 4 + step) * 4096 + rank).foldl (fun a q => a ++ q.2) []

/-- Forget a step's contributions. -/
def XGroup.forget (g : XGroup) (round step : Nat) : XGroup :=
  { g with inputs := g.inputs.filter fun q => q.1 / 2 ^ 46 != round * 4 + step }

/-- Send a group's data onward to a rank (R415): an operation of the device's own, in class 1. -/
def State.sendGroup (s : State) (g : XGroup) (id : Nat) (tenant : BitVec 16) (round step mine to_ : Nat) (data : List Byte) : State :=
  let r := g.ranks.getD to_ ⟨0, 0⟩
  match s.freeTag, s.connFor false g.part r.dev r.part 1 with
  | some tag, some (s1, k) =>
    s1.submit k tag { kind := .reduce, origin := .agent, conn := k, issued := false, msg := 0, tenant := tenant, part := g.part, key := 0,
                      raddr := 0, laddr := 0, len := data.length, aop := round * 4 + step, opnd := 0, cmp := 0, dest := id, cv := none,
                      rcv := none, tagv := 0, data := data, mask := mine, left := 0, got := [], status := .ok, done := false, result := [] }
  | _, _ => s

/-- A rank's result is there: its REDUCE of the round is done. -/
def State.groupResult (s : State) (g : XGroup) (id round : Nat) (data : List Byte) : State :=
  match s.xpt.ops.find? (fun q => q.2.kind == .reduce && q.2.origin != .agent && q.2.part == g.part && q.2.dest == id &&
      q.2.aop == round * 4) with
  | some (tag, _) => s.opDone tag .ok data
  | none => s

/-- An allgather's result: each rank's data in rank order, from the harnesses' partials. -/
def XGroup.gather (g : XGroup) (len : Nat) (parts : List (Nat × List Byte)) : List Byte :=
  (List.range g.ranks.length).foldl (fun a i =>
    let h := harness (g.ranks.getD i ⟨0, 0⟩).dev
    match parts.find? (fun q => q.1 == h) with
    | some (_, l) => a ++ (l.drop (((g.inHarness h).findIdx fun x => x == i) * len)).take len
    | none => a) []

/-- What follows when a step's contribution is complete at a rank (R415); `send` takes a step's data onward to a rank. -/
def State.groupStep (s : State) (key : Nat) (g : XGroup) (id round step total : Nat) (send : State → XGroup → Nat → Nat → List Byte → State) :
    State :=
  let put (x : State) (y : XGroup) : State := { x with xpt := { x.xpt with groups := aput x.xpt.groups key y } }
  match step with
  | 0 =>
    let l := g.inHarness (harness s.me)
    if l.all fun i => (g.piece round 0 i).length == total then
      send (put s (g.forget round 0)) g 1 g.root (g.merge (l.map (g.piece round 0)))
    else s
  | 1 =>
    let l := g.harnesses.map fun h => (h, g.piece round 1 (g.aggregator h))
    let whole (q : Nat × List Byte) : Bool :=
      q.2.length == (if g.fn = 1 then total else (g.inHarness q.1).length * (total / max 1 (g.inHarness (harness s.me)).length)) && !q.2.isEmpty
    if l.all whole then
      let r := if g.fn = 1 then g.merge (l.map fun q => q.2)
        else g.gather ((l.headD (0, [])).2.length / max 1 (g.inHarness (l.headD (0, [])).1).length) l
      g.harnesses.foldl (fun (x : State) h => send x g 2 (g.aggregator h) r) (put s (g.forget round 1))
    else s
  | 2 =>
    let r := g.piece round 2 g.root
    if r.length = total then
      (g.inHarness (harness s.me)).foldl (fun (x : State) i => send x g 3 i r) (put s (g.forget round 2))
    else s
  | _ =>
    let r := g.piece round 3 (g.aggregator (harness s.me))
    if r.length = total then (put s (g.forget round 3)).groupResult g id round r else s

/-- A contribution or a result lands at a rank of this device, and what it completes goes on: to another device over its connection, to a rank of
this device directly (R382, R415). The first argument bounds the steps that follow. -/
def State.groupLand : Nat → State → Fin 16 → Nat → BitVec 16 → Nat → Nat → Nat → Nat → Nat → List Byte → State
  | 0, s, _, _, _, _, _, _, _, _, _ => s
  | n + 1, s, part, id, tenant, round, step, rank, off, total, data =>
    let key := groupKey part.val id
    match afind s.xpt.groups key with
    | none => s
    | some g =>
      match g.rankOf s.me part with
      | none => s
      | some mine =>
        let g1 := { g with inputs := aput g.inputs (pieceKey round step rank off) data }
        { s with xpt := { s.xpt with groups := aput s.xpt.groups key g1 } }.groupStep key g1 id round step total fun x y next to_ d =>
          let r := y.ranks.getD to_ ⟨0, 0⟩
          if r.dev = x.me then State.groupLand n x r.part id tenant round next mine 0 d.length d
          else x.sendGroup y id tenant round next mine to_ d

/-- REDUCE (R393, R415): a contribution or result of a collective arrives. -/
def execReduce (p : Packet) (now : Nat) (s : State) : Host.Outcome State Fault Refusal :=
  match s.receive p now true, p.body with
  | (s1, some (k, c)), .reduce id round rank step off total data =>
    if c.seen p.xp.seq then .next (s1.sendAck k)
    else if !c.matches_ p then .next (s1.refuse k p .protection)
    else
      let key := groupKey c.localPart.val id
      match afind s1.xpt.groups key with
      | none => .next (s1.refuse k p .protection)
      | some g =>
        if g.rankOf p.src p.part = some rank ∧ (g.rankOf s1.me c.localPart).isSome then
          .next ((s1.arrive k p.xp.seq).groupLand 4 c.localPart id p.tenant round step rank off total data)
        else .next (s1.refuse k p .protection)
  | (s1, _), .reduce .. => .next s1
  | _, _ => .next ((s.at_ now).count Reg.xptCntStale 1)

/-! ### Collectors (R414) -/

/-- A collector counts one completion: when every slot holds at least 1, each is decremented and the bit is set. -/
def State.collect1 (s : State) (key : Nat) (col : Collector) (slot : Nat) : State :=
  let slots := aput col.slots slot (agetD col.slots slot 0 + 1)
  let full := (List.range col.n).all fun i => decide (0 < agetD slots i 0)
  let col1 := { col with slots := if full then amap (fun v => v - 1) slots else slots }
  let s1 : State := { s with xpt := { s.xpt with collectors := aput s.xpt.collectors key col1 } }
  if full then s1.cvSet col.part.val col.bit else s1

/-- One completion at its collector: a slot at 255 is not ready. -/
def State.landComplete (s : State) (k : Nat) (c : Conn) (id slot : Nat) (seq : BitVec 32) (tag : BitVec 16) : State :=
  let key := groupKey c.localPart.val id
  match afind s.xpt.collectors key with
  | none => (s.arrive k seq).sendNak k 3 .protection seq tag
  | some col =>
    if col.n ≤ slot then (s.arrive k seq).sendNak k 3 .protection seq tag
    else if 255 ≤ agetD col.slots slot 0 then s.sendNak k 2 .ok seq tag
    else (s.collect1 key col slot).arrive k seq

/-- COMPLETE (R393, R414): one completion, or a record of them; each is acknowledged on its own connection. -/
def execComplete (p : Packet) (now : Nat) (s : State) : Host.Outcome State Fault Refusal :=
  match p.body with
  | .complete id slot [] =>
    match s.receive p now true with
    | (s1, some (k, c)) =>
      if c.seen p.xp.seq then .next (s1.sendAck k)
      else if !c.matches_ p then .next (s1.refuse k p .protection)
      else .next (s1.landComplete k c id slot p.xp.seq p.xp.tag)
    | (s1, none) => .next s1
  | .complete id _ l =>
    let s1 := s.at_ now
    if !s1.xpt.ready ∨ !p.trailerOk then .next s1
    else if s1.expired p then .next (s1.count Reg.xptCntExpired 1)
    else
      .next (l.foldl (fun (x : State) y =>
        match x.constituentConn y with
        | some c => x.landComplete y.conn.val c id y.opnd y.seq y.tag
        | none => x) (s1.count Reg.xptCntCombined 1))
  | _ => .next ((s.at_ now).count Reg.xptCntStale 1)

/-! ### Taking and completing entries (R398, R399) -/

/-- The address of a queue's entry. -/
def XQueue.entryVa (x : XQueue) (i : Nat) : Nat := x.ring + 64 * (i % x.entries)

/-- An entry's access failed to translate (R279): it is parked, or its operation ends with PROTECTION. -/
def State.entryFault (s : State) (q index done : Nat) (x : XQueue) (part : Fin 16) (acc : Access) (va : Nat) (e : Xlat) : State × Bool :=
  let src := 0x280 + s.engineOf false x.part.val q
  match e with
  | .bad kind stage ipa =>
    let r := s.openFault { kind := kind, access := acc, source := BitVec.ofNat 12 src, part := part, stage := stage, va := va, ipa := ipa,
                           satchel := 0, posted := s.stk.time, unit := .descriptor q index done, recorded := none }
    match r.2 with
    | some id =>
      ({ r.1 with xpt := { r.1.xpt with queues := amod r.1.xpt.queues q fun y => { y with parked := id :: y.parked } } }, true)
    | none => (r.1, false)
  | .deny b => (s.denied src va b, false)
  | .pa _ => (s, false)

/-- A queue moves past an entry it has taken: the next index, and the phase, which flips at each wrap. -/
def State.tookEntry (s : State) (q : Nat) : State :=
  { s with xpt := { s.xpt with queues := amod s.xpt.queues q fun x =>
      { x with open_ := x.open_ ++ [x.next], next := (x.next + 1) % x.entries,
               phase := if x.next + 1 = x.entries then !x.phase else x.phase } } }

/-- An operation that ends before any packet. -/
def State.entryEnds (s : State) (q tag : Nat) (o : XOp) (st : Status) : State :=
  let s1 := s.tookEntry q
  { s1 with xpt := { s1.xpt with ops := aput s1.xpt.ops tag { o with done := true, status := st } } }

/-- Where an operation goes: device, partition; a collective goes to its harness's aggregator with its rank and round. -/
def State.entryTo (s : State) (d : XDesc) (o : XOp) (x : XQueue) : Option (DeviceId × Fin 16 × Fin 8 × XOp) :=
  let cls : Fin 8 := ⟨d.cls % 8, Nat.mod_lt _ (by decide)⟩
  let dp : Fin 16 := ⟨d.dpart % 16, Nat.mod_lt _ (by decide)⟩
  match o.kind with
  | .reduce =>
    match afind s.xpt.groups (groupKey x.part.val d.dest) with
    | none => none
    | some g =>
      match g.rankOf s.me x.part with
      | none => none
      | some r =>
        let a := g.ranks.getD (g.aggregator (harness s.me)) ⟨0, 0⟩
        some (a.dev, a.part, 1, { o with aop := g.round * 4, mask := r })
  | .complete => some (BitVec.ofNat 16 d.raddr, dp, cls, o)
  | _ => some (BitVec.ofNat 16 d.dest, dp, cls, o)

/-- An entry is done without a packet: it is taken, and its operation has its status and result. -/
def State.entryDone (s : State) (q tag : Nat) (o : XOp) (st : Status) (result : List Byte) : State :=
  let s1 := s.tookEntry q
  { s1 with xpt := { s1.xpt with ops := aput s1.xpt.ops tag { o with conn := 1048576, done := true, status := st, result := result } } }

/-- An entry whose destination is this device (R382): no connection exists; it is served here, under the checks of R393. One that faults is parked
and not taken yet; a collector's slot at 255 makes it wait. -/
def State.entryHere (s : State) (q tag : Nat) (o : XOp) (x : XQueue) (dp : Fin 16) : State :=
  let parks (a : State) (part : Fin 16) (acc : Access) (va : Nat) (e : Xlat) : State :=
    let r := a.entryFault q x.next 0 x part acc va e
    if r.2 then r.1 else r.1.entryDone q tag o .protection []
  match o.kind with
  | .put =>
    (match s.regionCheck dp o.key o.tenant .write o.raddr o.len false with
    | .error st => s.entryDone q tag o st []
    | .ok (_, g) =>
      match s.writeVa g.part.val .thread (g.base + o.raddr) o.data with
      | (s1, .error (va, e)) => parks s1 g.part .write va e
      | (s1, .ok _) => (match o.rcv with | some b => s1.cvSet dp.val b | none => s1).entryDone q tag o .ok [])
  | .get =>
    (match s.regionCheck dp o.key o.tenant .read o.raddr o.len false with
    | .error st => s.entryDone q tag o st []
    | .ok (_, g) =>
      match s.xlateRange g.part.val .thread .read (g.base + o.raddr) o.len with
      | (s1, .error (va, e)) => parks s1 g.part .read va e
      | (s1, .ok parts) =>
        if s1.partsPoisoned parts then s1.entryDone q tag o .dataCorrupt []
        else
          let r := s1.readParts (partFn g.part.val) parts
          match r.1.writeVa x.part.val .thread o.laddr r.2 with
          | (s2, .error (va, e)) => parks s2 x.part .write va e
          | (s2, .ok _) => s2.entryDone q tag o .ok [])
  | .atomic =>
    (match s.regionCheck dp o.key o.tenant .atomic o.raddr (aopBytes o.aop) false with
    | .error st => s.entryDone q tag o st []
    | .ok (_, g) =>
      match s.xlate g.part.val .thread .atomic (g.base + o.raddr) with
      | (s1, .pa a) =>
        (match s1.atomAt a o.aop o.opnd o.cmp with
        | (s2, .error st) => s2.entryDone q tag o st []
        | (s2, .ok (st, v)) => s2.entryDone q tag o st (leBytes 16 v))
      | (s1, e) => parks s1 g.part .atomic (g.base + o.raddr) e)
  | .complete =>
    let key := groupKey dp.val o.dest
    (match afind s.xpt.collectors key with
    | none => s.entryDone q tag o .protection []
    | some col =>
      if col.n ≤ o.opnd then s.entryDone q tag o .protection []
      else if 255 ≤ agetD col.slots o.opnd 0 then s
      else (s.collect1 key col o.opnd).entryDone q tag o .ok [])
  | .reduce =>
    let s1 := s.tookEntry q
    let s2 : State := { s1 with xpt := { s1.xpt with ops := aput s1.xpt.ops tag { o with conn := 1048576 } } }
    s2.groupLand 4 dp o.dest o.tenant (o.aop / 4) 0 o.mask 0 o.data.length o.data
  | _ => s

/-- A collective's next round begins (R415). -/
def State.nextRound (s : State) (o : XOp) (key : Nat) : State :=
  if o.kind = .reduce then
    { s with xpt := { s.xpt with groups := amod s.xpt.groups key fun g => { g with round := g.round + 1 } } }
  else s

/-- Issue an entry whose local data is at hand. -/
def State.entryIssue (s : State) (q tag : Nat) (d : XDesc) (o : XOp) (x : XQueue) : State :=
  match s.entryTo d o x with
  | none => s.entryEnds q tag o .badField
  | some (dev, dp, cls, o1) =>
    let key := groupKey x.part.val d.dest
    if dev = s.me then (s.nextRound o1 key).entryHere q tag o1 x dp
    else
      match s.connFor false x.part dev dp cls with
      | none => s.entryEnds q tag o1 .noResource
      | some (s1, k) => ((s1.tookEntry q).nextRound o1 key).submit k tag o1

/-- XQ_ENTRY (R398, R399): the engine looks at a queue's next entry and takes it once its OWN byte holds the phase. A FENCE waits for every
earlier entry; without a free tag the queue waits (R391); a source that is poisoned ends the operation with DATA_CORRUPT. -/
def execXqEntry (queue : Nat) (now : Nat) (s : State) : Host.Outcome State Fault Refusal :=
  let s1 := s.at_ now
  match afind s1.xpt.queues queue with
  | none => .next s1
  | some x =>
    if !s1.xpt.ready ∨ !x.destroying.isEmpty ∨ !x.parked.isEmpty ∨ (s1.part x.part.val).state ≠ .ready then .next s1
    else
      match s1.readVa x.part.val .thread (x.entryVa x.next) 64 with
      | (s2, .error (va, e)) => .next (s2.entryFault queue x.next 0 x x.part .read va e).1
      | (s2, .ok l) =>
        let d := XDesc.ofBytes l
        if d.own ≠ b2n x.phase ∨ (d.fence ∧ ¬ x.open_.isEmpty) then .next s2
        else
          match s2.freeTag with
          | none => .next s2
          | some tag =>
            let o := d.op_ queue x.next x
            match d.check with
            | some st => .next (s2.entryEnds queue tag o st)
            | none =>
              let n := if o.kind = .put ∨ o.kind = .reduce then d.len else if o.kind = .atomic ∧ d.len = 16 then 32 else 0
              match s2.xlateRange x.part.val .thread .read d.laddr n with
              | (s3, .error (va, e)) =>
                let r := s3.entryFault queue x.next 0 x x.part .read va e
                .next (if r.2 then r.1 else r.1.entryEnds queue tag o .protection)
              | (s3, .ok parts) =>
                if s3.partsPoisoned parts then .next (s3.entryEnds queue tag o .dataCorrupt)
                else
                  let r := s3.readParts (partFn x.part.val) parts
                  let o1 := if o.kind = .atomic ∧ d.len = 16 then { o with cmp := leNat (r.2.take 16), opnd := leNat (r.2.drop 16) }
                    else { o with data := r.2 }
                  .next (r.1.entryIssue queue tag d o1 x)

/-- A queue that is being destroyed is gone once every taken entry has completed. -/
def State.queueGone (s : State) (q : Nat) : State :=
  match afind s.xpt.queues q with
  | some x =>
    if x.destroying.isEmpty ∨ ¬ x.open_.isEmpty then s
    else
      let s1 : State := { s with xpt := { s.xpt with queues := adel s.xpt.queues q } }
      x.destroying.foldl (fun (y : State) r => y.done r .ok) s1
  | none => s

/-- What an operation brings to LADDR: a fetching atomic's old value, a collective's result. -/
def XOp.fetched (o : XOp) : List Byte :=
  if o.status ≠ .ok then []
  else
    match o.kind with
    | .atomic => if aopFetch o.aop then o.result.take (aopBytes o.aop) else []
    | .reduce => o.result
    | _ => []

/-- Bytes at LADDR that a get leaves undefined (R13, R400). -/
def XOp.undef (o : XOp) : Nat := if o.kind = .get ∧ (o.status = .tierError ∨ o.status = .dataCorrupt) then o.len else 0

/-- XQ_COMPLETION (R399, R400, R404, R409, R413): in message order, the result to LADDR, an indeterminate atomic's handle to OPND, then STATUS, then
the completion bit, whatever the status. -/
def execXqCompletion (tag : BitVec 16) (s : State) : Host.Outcome State Fault Refusal :=
  match afind s.xpt.ops tag.toNat with
  | none => .next s
  | some o =>
    match o.origin with
    | .queue q i =>
      let turn : Bool := match s.conn o.conn with
        | some c => !(o.inOrder && o.issued) || c.state == .failed || c.msgDone == o.msg
        | none => true
      match afind s.xpt.queues q with
      | none => .next s
      | some x =>
        if !o.done ∨ !turn ∨ !x.parked.isEmpty then .next s
        else
          match s.writeVa x.part.val .thread o.laddr o.fetched with
          | (s1, .error (va, e)) =>
            let r := s1.entryFault q i 1 x x.part .write va e
            .next (if r.2 then r.1 else r.1.modOp tag.toNat fun y => { y with status := .protection })
          | (s1, .ok _) =>
            let sU := if o.undef = 0 then s1 else s1.undefine x.part.val o.laddr o.undef
            let w (y : State) (off : Nat) (l : List Byte) : State := (y.writeVa x.part.val .thread (x.entryVa i + off) l).1
            let s2 := if o.status = .outcomeIndeterminate then w sU 0x28 (leBytes 8 o.opnd) else sU
            let s3 := w s2 0x3E [BitVec.ofNat 8 o.status.code]
            let s4 := match o.cv with | some b => s3.cvSet x.part.val b | none => s3
            let s5 : State := { s4 with xpt := { s4.xpt with queues := amod s4.xpt.queues q fun y => { y with open_ := y.open_.erase i } } }
            .next ((s5.dropOp tag.toNat o).queueGone q)
    | _ => .next s

/-! ### Harness-window accesses (R405) -/

/-- An access ends at once with a refusal: an access fault for a thread, a status for a command. -/
def State.accessRefused (s : State) (origin : XOrigin) (addr : Nat) (load : Bool) : State :=
  match origin with
  | .thread core th _ _ _ =>
    s.trap core th (if load then causeLoad else causeStore) (s.thread (threadKey core th)).pc (BitVec.ofNat 64 addr)
  | .engine core unit seq =>
    { s with cores := { s.cores with queues := amod s.cores.queues (core * 16 + unit) fun l => l.map fun c =>
        if c.seq = seq then { c with result := some .protection } else c } }
  | _ => s

/-- An access that names the initiator's own member is served here, under the region table's check (R276). -/
def State.windowHere (s : State) (o : XOp) : State :=
  let ends (a : State) (st : Status) (v : List Byte) : State := a.accessEnds { o with done := true, status := st, result := v }
  match s.windowCheck o.tenant (match o.kind with | .store => .write | .atomic => .atomic | _ => .read) o.raddr o.len with
  | .error st => ends s st []
  | .ok _ =>
    match o.kind with
    | .store => ends (s.physWrite o.raddr (masked (memRead s.memory.mem o.raddr o.len) o.data o.mask)) .ok []
    | .atomic =>
      (match s.atomAt o.raddr o.aop o.opnd o.cmp with
      | (s1, .error st) => ends s1 st []
      | (s1, .ok (st, v)) => ends s1 st (leBytes o.len v))
    | _ => if s.memory.poisoned o.raddr o.len then ends s .dataCorrupt [] else ends s .ok (memRead s.memory.mem o.raddr o.len)

/-- Submit an access on the partition's connection to its home in MEM_CLASS; without a free tag the agent stalls (R391). -/
def State.windowOp (s : State) (part : Fin 16) (mem : Nat) (o : XOp) : State :=
  if mem = member s.me then s.windowHere o
  else
  match s.freeTag with
  | none => s
  | some tag =>
    let dev := BitVec.ofNat 16 (s.me.toNat / 32 * 32 + mem)
    let cls : Fin 8 := ⟨s.fld (Reg.xptPCfg part.val) 2 0 % 8, Nat.mod_lt _ (by decide)⟩
    match s.connFor false part dev part cls with
    | none => s.accessRefused o.origin o.raddr (o.kind == .load)
    | some (s1, k) =>
      let s2 := match o.origin with
        | .thread core th rd _ _ =>
          if o.kind = XKind.store ∨ (o.kind = XKind.atomic ∧ rd = 0) then s1 else s1.modThread (threadKey core th) fun t => { t with state := .waitAccess }
        | _ => s1
      s2.submit k tag o

/-- HARNESS_WINDOW_ACCESS (R260, R276, R405): an agent's access to another member's address. -/
def execHarnessWindowAccess (part : Fin 16) (tenant : BitVec 16) (origin : XOrigin) (access : WindowAccess) (addr : Nat) (now : Nat)
    (s : State) : Host.Outcome State Fault Refusal :=
  let s1 := s.at_ now
  match s1.memory.target addr with
  | .window m a =>
    let o : XOp :=
      { kind := .load, origin := origin, conn := 0, issued := false, msg := 0, tenant := tenant, part := part, key := 0, raddr := a, laddr := 0,
        len := 0, aop := 0, opnd := 0, cmp := 0, dest := 0, cv := none, rcv := none, tagv := 0, data := [], mask := 0, left := 0, got := [],
        status := .ok, done := false, result := [] }
    if !s1.xpt.ready then .next s1
    else
      match access with
      | .load len =>
        if len < 8 ∧ len ≠ 0 ∧ a % len = 0 then .next (s1.windowOp part m { o with raddr := a / 8 * 8, len := 8, opnd := a % 8 })
        else if windowShape a len then .next (s1.windowOp part m { o with len := len })
        else .next (s1.accessRefused origin addr true)
      | .store mask data =>
        let n := data.length
        if n < 8 ∧ n ≠ 0 ∧ a % n = 0 then
          .next (s1.windowOp part m { o with kind := .store, raddr := a / 8 * 8, len := 8, data := padTo 8 (zeros (a % 8) ++ data),
                                             mask := mask % 2 ^ n * 2 ^ (a % 8) })
        else if windowShape a n then .next (s1.windowOp part m { o with kind := .store, len := n, data := data, mask := mask })
        else .next (s1.accessRefused origin addr false)
      | .atomic aop opnd =>
        let fetch : Bool := match origin with | .thread _ _ rd _ _ => rd != 0 | _ => true
        let aop1 := if fetch then setBits aop 5 5 1 else setBits aop 5 5 0
        if aopValid aop1 && aopFn aop != 6 && a % aopBytes aop == 0 then
          .next (s1.windowOp part m { o with kind := .atomic, len := aopBytes aop, aop := aop1, opnd := opnd, mask := 1 })
        else .next (s1.accessRefused origin addr false)
      | .unserved lr => .next (s1.accessRefused origin addr lr)
  | _ => .next s1

/-! ### Regions: registering and revoking (R394 to R397) -/

/-- A page of a range is mapped by both stages (R394); the size of its stage-2 leaf and the physical address where it is. -/
def State.mappedPage (s : State) (p va : Nat) : Option (Nat × Nat) :=
  match s.s1Root p with
  | none => none
  | some r =>
    if 2 ^ 52 ≤ va then none
    else
      match walk1 s p va levels r with
      | .error _ => none
      | .ok (ipa, _) =>
        match s.leaf2 ipa with
        | .ok l => some (l.size, entryAddr l.entry + ipa % l.size)
        | .error _ => none

/-- REGION_REGISTER (R394 to R396). -/
def execRegionRegister (h : Header) (base length : Nat) (perms : Nat) (flags : Nat) (draw : BitVec 48) (rsv : Nat) (s : State) :
    Host.Outcome State Fault Refusal :=
  .next (s.serve { op := 0x0500, replies := 1, vf := true, tenant := true, params := 24, rsv := rsv, addrs := 0, localOnly := false } h false
    fun r s1 =>
      let win := bitAt flags 0
      let any := bitAt flags 1
      let unit := if win then 2097152 else 65536
      let pages := (List.range (length / 65536)).map fun i => s1.mappedPage h.part.val (base + i * 65536)
      if perms / 8 ≠ 0 ∨ flags / 4 ≠ 0 ∨ (any ∧ h.origin.partition.isSome) ∨ base % unit ≠ 0 ∨ length % unit ≠ 0 ∨ length = 0 ∨
          2 ^ 40 < length ∨ !(pages.all fun x => match x with | some (sz, _) => !win || decide (2097152 ≤ sz) | none => false) then
        s1.done r .badField
      else if 65536 ≤ s1.xpt.regions.length then s1.done r .noResource
      else
        let i := (leastFree (s1.xpt.regions.map fun q => q.1) 65536 0).getD 0
        let g : Region := { draw := draw, part := h.part, base := base, length := length, r := bitAt perms 0, w := bitAt perms 1,
                            a := bitAt perms 2, scope := if any then none else some h.tenant, window := win, revoking := none, replies := [] }
        let cover := if win then (pages.filterMap id).foldl (fun m q =>
            if s1.memory.target q.2 = .t1 then aput m (q.2 / 2097152) i else m) s1.xpt.winMap else s1.xpt.winMap
        let s2 : State := { s1 with xpt := { s1.xpt with regions := aput s1.xpt.regions i g, winMap := cover } }
        s2.answer r .ok true (leBytes 8 (i * 2 ^ 48 + draw.toNat)))

/-- A region is INVALID again (R397): its key and its window map entries are gone, and the packets that revoked it are answered. -/
def State.regionGone (s : State) (i : Nat) (g : Region) : State :=
  let s1 : State := { s with xpt := { s.xpt with
    regions := adel s.xpt.regions i, winMap := s.xpt.winMap.filter fun q => q.2 != i } }
  g.replies.foldl (fun (x : State) r => x.done r .ok) s1

/-- A packet may name an object of a partition: PF0 any, a partition its own (R449). -/
def Header.owns (h : Header) (p : Fin 16) : Bool :=
  match h.origin.partition with
  | some q => q == p
  | none => true

/-- REGION_REVOKE (R397): ACCEPTED at the mark; the final OK follows with REGION_REVOKE_COMPLETE. -/
def execRegionRevoke (h : Header) (key : BitVec 64) (s : State) : Host.Outcome State Fault Refusal :=
  .next (s.serve { op := 0x0501, replies := 2, vf := true, tenant := false, params := 8, rsv := 0, addrs := 0, localOnly := false } h false
    fun r s1 =>
      match afind s1.xpt.regions (keyIndex key) with
      | none => s1.done r .alreadyDone
      | some g =>
        if g.draw.toNat ≠ key.toNat % 2 ^ 48 then s1.done r .alreadyDone
        else if !h.owns g.part then s1.done r .protection
        else
          let a := s1.accepted r
          let at_ := g.revoking.getD s1.stk.time
          { a.1 with xpt := { a.1.xpt with
              regions := aput a.1.xpt.regions (keyIndex key) { g with revoking := some at_, replies := g.replies ++ [a.2] } } })

/-- A message that the stitcher admitted into a region and that is still incomplete. -/
def Stitch.holds (e : Stitch) (i : Nat) : Bool := e.region == i && !e.complete && !e.abandoned && e.len != 0

/-- REGION_REVOKE_COMPLETE (R397): nothing admitted remains. -/
def execRegionRevokeComplete (index : Nat) (s : State) : Host.Outcome State Fault Refusal :=
  match afind s.xpt.regions index with
  | some g =>
    if g.revoking.isSome ∧ !(s.xpt.stitch.any fun e => e.holds index) then .next (s.regionGone index g) else .next s
  | none => .next s

/-- REVOKE_ABANDON_TIMEOUT (R397): 1 ms after the mark an incomplete message is abandoned, and the region becomes INVALID. -/
def execRevokeAbandonTimeout (index : Nat) (now : Nat) (s : State) : Host.Outcome State Fault Refusal :=
  let s1 := s.at_ now
  match afind s1.xpt.regions index with
  | some g =>
    match g.revoking with
    | some t =>
      if now < t + 1000000 then .next s1
      else
        let gone := s1.xpt.stitch.filter fun e => e.holds index
        let l := s1.xpt.stitch.map fun e => if e.holds index then { e with abandoned := true, complete := true } else e
        let s2 : State := { s1 with xpt := { s1.xpt with stitch := l } }
        let s3 := gone.foldl (fun (x : State) e => (x.undefineMsg e).deliverMsgs e.conn (x.xpt.stitch.length + 1)) s2
        .next (s3.regionGone index g)
    | none => .next s1
  | none => .next s1

/-! ### Queues, queries, collectors and groups (R453) -/

/-- A power of two between two bounds. -/
def isPow2 (lo hi n : Nat) : Bool := (List.range 33).any fun k => n == 2 ^ k && decide (lo ≤ n ∧ n ≤ hi)

/-- XQ_CREATE (R398). -/
def execXqCreate (h : Header) (entries : Nat) (ring : Nat) (rsv : Nat) (s : State) : Host.Outcome State Fault Refusal :=
  .next (s.serve { op := 0x0503, replies := 1, vf := true, tenant := true, params := 16, rsv := rsv, addrs := 0, localOnly := false } h false
    fun r s1 =>
      if !isPow2 16 65536 entries ∨ ring % 64 ≠ 0 then s1.done r .badField
      else if 16384 ≤ s1.xpt.queues.length then s1.done r .noResource
      else
        let q := (leastFree (s1.xpt.queues.map fun x => x.1) 16384 0).getD 0
        let x : XQueue := { part := h.part, tenant := h.tenant, ring := ring, entries := entries, next := 0, phase := true, open_ := [],
                            parked := [], destroying := [] }
        let s2 : State := { s1 with xpt := { s1.xpt with queues := aput s1.xpt.queues q x } }
        s2.answer r .ok true (leBytes 2 q))

/-- XQ_DESTROY (R453): no further entry is taken; the final OK follows once every taken entry has completed. -/
def execXqDestroy (h : Header) (queue : Nat) (rsv : Nat) (s : State) : Host.Outcome State Fault Refusal :=
  .next (s.serve { op := 0x0504, replies := 2, vf := true, tenant := false, params := 4, rsv := rsv, addrs := 0, localOnly := false } h false
    fun r s1 =>
      match afind s1.xpt.queues queue with
      | none => s1.done r .alreadyDone
      | some x =>
        if !h.owns x.part then s1.done r .protection
        else
          let a := s1.accepted r
          let s2 : State := { a.1 with xpt := { a.1.xpt with
            queues := aput a.1.xpt.queues queue { x with destroying := x.destroying ++ [a.2] } } }
          s2.queueGone queue)

/-- The bytes of a context (R384). -/
def Conn.bytes (c : Conn) (k : Nat) : List Byte :=
  padTo 256 (leBytes 1 c.state.code ++ leBytes 1 (c.cls.val + 8 * b2n c.device) ++ leBytes 2 c.inc.val ++ leBytes 4 k ++
    leBytes 4 c.peerConn.val ++ leBytes 2 c.peerDev.toNat ++ leBytes 1 (c.peerPart.val * 16 + c.localPart.val) ++ zeros 1 ++
    leBytes 4 c.sndNxt.toNat ++ leBytes 4 c.sndUna.toNat ++ leBytes 4 c.rcvNxt.toNat ++ leBytes 4 c.msgNxt.toNat ++ leBytes 4 c.window ++
    leBytes 4 c.inflight ++ leBytes 4 c.alpha ++ leBytes 4 c.srtt ++ leBytes 4 c.rto ++ leBytes 2 c.retries ++ leBytes 2 c.ops ++
    leBytes 6 c.lastUse)

/-- CONN_QUERY (R384): the context to PF0, or to the function of its partition; a free context reads as zero. -/
def execConnQuery (h : Header) (conn : Nat) (outAddr : BitVec 64) (rsv : Nat) (s : State) : Host.Outcome State Fault Refusal :=
  .next (s.serve { op := 0x0505, replies := 1, vf := true, tenant := false, params := 16, rsv := rsv, addrs := outAddr.toNat, localOnly := false }
    h false fun r s1 =>
      if s1.fld Reg.xptConnCfg 20 0 ≤ conn then s1.done r .badField
      else
        match s1.conn conn with
        | some c =>
          if !h.owns c.localPart ∨ (c.device ∧ h.origin.partition.isSome) then s1.done r .protection
          else (s1.writeAddr h.origin outAddr.toNat (c.bytes conn)).done r .ok
        | none =>
          if h.origin.partition.isSome then s1.done r .protection
          else (s1.writeAddr h.origin outAddr.toNat (zeros 256)).done r .ok)

/-- ATOMIC_QUERY (R404): a QUERY in class 0; QUERY_DATA answers the packet. -/
def execAtomicQuery (h : Header) (dev : DeviceId) (handle : BitVec 64) (rsv : Nat) (s : State) : Host.Outcome State Fault Refusal :=
  .next (s.serve { op := 0x0506, replies := 1, vf := true, tenant := false, params := 16, rsv := rsv, addrs := 0, localOnly := false } h false
    fun r s1 =>
      if dev.toNat / 2 ^ 14 ≠ 0 then s1.done r .badField
      else if s1.lnk.lost.contains dev ∨ (harness dev = harness s1.me ∧ dev ≠ s1.me ∧ s1.sat.live ≠ 0 ∧ !bitAt s1.sat.live.toNat (member dev)) then s1.done r .outcomeIndeterminate
      else
        match s1.freeTag with
        | none => s1.done r .noResource
        | some tag =>
          let x := handle.toNat
          let inc : Fin 4096 := ⟨bits x 43 32 % 4096, Nat.mod_lt _ (by decide)⟩
          let p : Packet :=
            { type := 0x24#8, cmark := false, nonmin := false, dst := dev, src := s1.me, tenant := h.tenant, part := h.part, cls := 0, hops := 0,
              viaValid := false, viaMember := false, via := 0, rsv := 0, len := 6, hcrc := 0,
              xp := { inc := inc, conn := ⟨bits x 63 44 % 1048576, Nat.mod_lt _ (by decide)⟩, seq := 0, ack := 0, tag := BitVec.ofNat 16 tag,
                      echo := false, retx := false, first := true, last := true, ordered := false, rsv := 0, age := s1.usNow },
              body := .query inc (BitVec.ofNat 32 x), trailerOk := true }
          let s2 : State := { s1 with xpt := { s1.xpt with queries := aput s1.xpt.queries tag (dev, r) } }
          s2.inject false p.seal)

/-- COLLECTOR_CREATE (R414): a collector whose ID is in use finds no resource. -/
def execCollectorCreate (h : Header) (collector bit n cls : Nat) (rsv : Nat) (s : State) : Host.Outcome State Fault Refusal :=
  .next (s.serve { op := 0x0507, replies := 1, vf := true, tenant := false, params := 8, rsv := rsv, addrs := 0, localOnly := false } h false
    fun r s1 =>
      if 4096 ≤ collector ∨ 16384 ≤ bit ∨ n = 0 ∨ 16384 < n ∨ 8 ≤ cls then s1.done r .badField
      else if (afind s1.xpt.collectors (groupKey h.part.val collector)).isSome then s1.done r .noResource
      else
        let c : Collector := { part := h.part, bit := bit, n := n, cls := ⟨cls % 8, Nat.mod_lt _ (by decide)⟩, slots := [] }
        let s2 : State := { s1 with xpt := { s1.xpt with collectors := aput s1.xpt.collectors (groupKey h.part.val collector) c } }
        s2.done r .ok)

/-- COLLECTIVE_CREATE (R3, R415). -/
def execCollectiveCreate (h : Header) (group fn fmt : Nat) (ranks : List DevPart) (rsv : Nat) (s : State) : Host.Outcome State Fault Refusal :=
  .next (s.serve { op := 0x0508, replies := 1, vf := true, tenant := false, params := 8 + 4 * ranks.length, rsv := rsv, addrs := 0,
                   localOnly := false } h false
    fun r s1 =>
      if ranks.isEmpty ∨ 4096 < ranks.length ∨ (fn ≠ 1 ∧ fn ≠ 2) ∨ (fmt ≠ 7 ∧ fmt ≠ 9) ∨ 65536 ≤ group ∨
          ranks.any (fun t => decide (2 ^ 14 ≤ t.dev.toNat)) = true then s1.done r .badField
      else if (afind s1.xpt.groups (groupKey h.part.val group)).isSome then s1.done r .noResource
      else
        let g : XGroup := { part := h.part, fn := fn, fmt := fmt, ranks := ranks, round := 0, inputs := [], waiting := [] }
        let s2 : State := { s1 with xpt := { s1.xpt with groups := aput s1.xpt.groups (groupKey h.part.val group) g } }
        s2.done r .ok)

/-- GROUP_DESTROY (R453): kind 0 a collector, 1 a group. -/
def execGroupDestroy (h : Header) (kind id : Nat) (rsv : Nat) (s : State) : Host.Outcome State Fault Refusal :=
  .next (s.serve { op := 0x0509, replies := 1, vf := true, tenant := false, params := 4, rsv := rsv, addrs := 0, localOnly := false } h false
    fun r s1 =>
      let key := groupKey h.part.val id
      match kind with
      | 0 =>
        if (afind s1.xpt.collectors key).isNone then s1.done r .alreadyDone
        else (let s2 : State := { s1 with xpt := { s1.xpt with collectors := adel s1.xpt.collectors key } }; s2.done r .ok)
      | 1 =>
        if (afind s1.xpt.groups key).isNone then s1.done r .alreadyDone
        else (let s2 : State := { s1 with xpt := { s1.xpt with groups := adel s1.xpt.groups key } }; s2.done r .ok)
      | _ => s1.done r .badField)

end Sys2Proof.Machine
end

