-- ==== Sys2Proof/Machine/Faults.lean ====
section
/-!
DEFINITION. Machine/Faults.lean: the blotter: filing, escalation, merging, acknowledgement, FAULT_N, and the reaction to a level 3 record
(chapter 15).
-/
namespace Sys2Proof.Machine

/-! ### Records (R471 to R475) -/

/-- A source code that R475 lists. -/
def sourceListed (n : Nat) : Bool :=
  decide (n < 0x80 ∨ (0x100 ≤ n ∧ n < 0x184) ∨ (0x200 ≤ n ∧ n < 0x240) ∨ (0x280 ≤ n ∧ n < 0x290) ∨ (0x300 ≤ n ∧ n < 0x320) ∨
    (0x340 ≤ n ∧ n < 0x348) ∨ (0x380 ≤ n ∧ n < 0x390)) || [0x3C0, 0x3C1, 0x3C2, 0x3E0, 0x3F0, 0x3F8].contains n

/-- A message from an unlisted code is filed as the security unit's INTERNAL (R475). -/
def FaultSpec.judged (f : FaultSpec) : FaultSpec :=
  if sourceListed f.source.toNat then f else { f with source := 0x3F0#12, kind := 0xF01#12 }

/-- TAG_KIND (R471). -/
def FTag.kind : FTag → Nat
  | .none => 0 | .ctx _ => 1 | .tenant _ => 2 | .part _ => 3

/-- TAG (R471). -/
def FTag.value : FTag → Nat
  | .none => 0 | .ctx n => n | .tenant t => t.toNat | .part p => p.val

/-- The 128 bits of a message (R471) with its effective level. -/
def Msg.word (m : Msg) (level : Fin 4) (addr : Nat) : BitVec 128 :=
  BitVec.ofNat 128 (m.fault.source.toNat * 2 ^ 116 + m.fault.kind.toNat * 2 ^ 104 + level.val * 2 ^ 101 + addr * 2 ^ 45 +
    m.fault.tag.kind * 2 ^ 43 + m.fault.tag.value % 2 ^ 23 * 2 ^ 20 + m.time.toNat)

/-- What a KV context index names (R159, R471): satchel, tenant, partition. -/
def State.ctxOf (s : State) (n : Nat) : Option (SatchelId × BitVec 16 × Fin 16) :=
  if n < 2 ^ 22 then (afind s.sat.sats n).map fun x => (x.id, x.tenant, x.part)
  else (afind s.sat.satellites (n - 2 ^ 22)).map fun x => (x.id, x.tenant, x.part)

/-- The satchel, tenant and partition that a message's tag resolves to (R473). -/
def State.resolve (s : State) : FTag → SatchelId × BitVec 16 × Option (Fin 16)
  | .none => (0, 0xFFFF, none)
  | .tenant t => (0, t, none)
  | .part p => (0, 0xFFFF, some p)
  | .ctx n =>
    match s.ctxOf n with
    | some (i, t, p) => (i, t, some p)
    | none => (0, 0xFFFF, none)

/-- The 48-byte BODY of a BLOTTER event (R473); `addr` is 0 in a copy to a virtual function (R472). -/
def Filed.body (f : Filed) (addr : Nat) : List Byte :=
  leBytes 16 (f.msg.word f.level addr).toNat ++ leBytes 4 f.seq.toNat ++
    leBytes 1 (32 * b2n f.msg.fault.retried + 16 * b2n f.msg.fault.transient + 8 * b2n f.escalated + f.msg.fault.level.val) ++ zeros 1 ++
    leBytes 2 (min 0xFFFF f.merged) ++ leBytes 8 f.satchel.toNat ++ leBytes 6 f.stroke ++ leBytes 2 f.tenant.toNat ++
    leBytes 4 f.prevSeq.toNat ++ zeros 4

/-- The partitions in a record's scope (R477): the tagged partition; every partition without a partition or KV context tag. -/
def scopeOf : Option (Fin 16) → BitVec 16
  | some p => BitVec.ofNat 16 (2 ^ p.val)
  | none => 0xFFFF#16

/-! ### The reaction to a level 3 record (R478) -/

/-- An engine command that is not done completes with DEVICE_FAULT (R193). -/
def CoreCmd.fail (c : CoreCmd) : CoreCmd := match c.result with | none => { c with result := some .deviceFault } | some _ => c

/-- R478: inking stops and provisional tokens are discarded, flash holds, every port drains and is disabled, engine commands complete with
DEVICE_FAULT, and the run state becomes FAULT (R510). -/
def State.level3 (s : State) : State :=
  if s.blt.l3 then s
  else
    let run := if s.sec.run = .boot ∨ s.sec.run = .recovery then s.sec.run else RunState.fault
    let s1 : State := { s with
      blt := { s.blt with l3 := true },
      sat := { s.sat with sats := amap (fun x => { x with prov := none }) s.sat.sats },
      cores := { s.cores with queues := amap (fun l => l.map CoreCmd.fail) s.cores.queues },
      sec := { s.sec with run := run } }
    (List.range 64).foldl State.disablePort (s1.flsHold true)

/-! ### Filing (R472, R477, R481, R483, R543) -/

/-- A record goes to the log, to PF0's event ring, to a virtual function's, and to the management controller (R472, R507). -/
def State.publish (s : State) (f : Filed) (part : Option (Fin 16)) : State :=
  let addr := f.msg.fault.addr.toNat
  let p := match part with | some q => q.val | none => 0
  let s1 : State := { s with blt := { s.blt with log := aput s.blt.log (f.seq.toNat % 1024) (f.msg.word f.level addr) } }
  let s2 := s1.event 0 6 f.msg.fault.status p (f.body addr)
  let s3 := match part with
    | some q =>
      if s.flag Reg.bltCtrl 2 ∧ (f.level = 1 ∨ f.level = 2) then s2.event (partFn q.val) 6 f.msg.fault.status p (f.body 0) else s2
    | none => s2
  if 2 ≤ f.level.val then s3.emit (.bmc (f.body addr)) else s3

/-- Drive FAULT_N for a qualifying record (R483). -/
def State.faultN (s : State) : State := { (s.setFld Reg.bltFaultn 0 0 1) with blt := { s.blt with pulse := true } }

/-- File a record of an entry (R472, R477, R543). Answers the entry as it then stands. -/
def State.record (s : State) (m : Msg) (e : BltEntry) (level : Fin 4) (escalated : Bool) : State × BltEntry :=
  let full : Bool := decide (2 ≤ level.val) && decide (4096 ≤ s.blt.unack.length)
  let lvl : Fin 4 := if full then 3 else level
  let esc := escalated || full
  let seq := s.blt.seq + 1
  let r := s.resolve m.fault.tag
  let f : Filed := { msg := m, level := lvl, escalated := esc, seq := seq, merged := e.merged, satchel := r.1, stroke := s.strokeNow,
                     tenant := r.2.1, prevSeq := e.lastSeq, part := r.2.2.getD 0 }
  let u : Unacked := { seq := seq, level := lvl, scope := scopeOf r.2.2 }
  let low := s.blt.low.filter fun x => x.seq.toNat % 1024 != seq.toNat % 1024
  let s1 : State := { s with blt := { s.blt with
    seq := seq, unack := if 2 ≤ lvl.val ∧ ¬ full then s.blt.unack ++ [u] else s.blt.unack,
    low := if lvl.val < 2 then low ++ [u] else low } }
  let s2 := (s1.count (Reg.bltCntL lvl.val) 1).publish f r.2.2
  let s3 := if esc then s2.count Reg.bltCntEsc 1 else s2
  let s4 := if lvl = 3 ∨ (lvl = 2 ∧ s.flag Reg.bltCtrl 0) then s3.faultN else s3
  let e1 : BltEntry := { e with
    escalated := escalated, merged := 0, unacked := if full then e.unacked else e.unacked ++ [seq], lastSeq := seq, lastStroke := s.strokeNow }
  (if lvl = 3 then s4.level3 else s4, e1)

/-- The entry that is closed to make room (R481): of the lowest posted level, the one whose last record is oldest. -/
def oldestEntry (seq : BitVec 32) (l : List BltEntry) : Option BltEntry :=
  leastBy (fun e => e.level.val * 2 ^ 33 + (2 ^ 32 - 1 - (seq - e.lastSeq).toNat)) l

/-- Judge a message (R481): a new entry's record, an escalated one, or a merged repeat. -/
def State.file (s : State) (m0 : Msg) : State :=
  let m := { m0 with fault := m0.fault.judged }
  match s.blt.entries.find? (fun e => e.source == m.fault.source && e.kind == m.fault.kind && e.level == m.fault.level) with
  | none =>
    let room := if 256 ≤ s.blt.entries.length then
        match oldestEntry s.blt.seq s.blt.entries with
        | some e => s.blt.entries.erase e
        | none => s.blt.entries
      else s.blt.entries
    let r := s.record m { source := m.fault.source, kind := m.fault.kind, level := m.fault.level, escalated := false, merged := 0,
                          unacked := [], lastSeq := 0xFFFFFFFF, lastStroke := 0 } m.fault.level false
    { r.1 with blt := { r.1.blt with entries := room ++ [r.2] } }
  | some e =>
    if e.escalated then
      (let s1 : State := { s with blt := { s.blt with
        entries := s.blt.entries.map fun x => if x = e then { x with merged := x.merged + 1 } else x } }
       s1.count Reg.bltCntMerged 1)
    else
      let lvl : Fin 4 :=
        match m.fault.level with
        | 0 => 1
        | 1 => 2
        | 2 => if s.flag Reg.bltCtrl 1 then 3 else 2
        | _ => 3
      let r := s.record m e lvl true
      { r.1 with blt := { r.1.blt with entries := r.1.blt.entries.map fun x => if x = e then r.2 else x } }

/-- BLOTTER_MESSAGE (R481, R484): the source posts a fresh message where one is given; then its oldest message is taken and filed. -/
def execBlotterMessage (source : BitVec 12) (fresh : Option FaultSpec) (s : State) : Host.Outcome State Fault Refusal :=
  let s1 := match fresh with
    | some f => s.post { f with source := source }
    | none => s
  match agetD s1.blt.outbox source.toNat [] with
  | [] => .next s1
  | m :: rest =>
    let s2 : State := { s1 with blt := { s1.blt with
      outbox := if rest.isEmpty then adel s1.blt.outbox source.toNat else aput s1.blt.outbox source.toNat rest } }
    .next (s2.file m)

/-- FAULTN_PULSE_END (R483): from then on FAULT_N follows HOLD. -/
def execFaultnPulseEnd (s : State) : Host.Outcome State Fault Refusal :=
  .next { s with blt := { s.blt with pulse := false } }

/-- ENTRY_AGE_CLOSE (R481): NOTE_AGE or L1_AGE strokes after its last record an entry of posted level 0 or 1 closes; 0 leaves it to
FAULT_ACK. -/
def execEntryAgeClose (source kind : BitVec 12) (level : Fin 4) (s : State) : Host.Outcome State Fault Refusal :=
  let age := if level = 0 then s.fld Reg.bltCfg 11 0 else if level = 1 then s.fld Reg.bltCfg 23 12 else 0
  .next { s with blt := { s.blt with
    entries := s.blt.entries.filter fun e =>
      !(e.source == source && e.kind == kind && e.level == level && age != 0 && decide (e.lastStroke + age ≤ s.strokeNow)) } }

/-- Acknowledge records (R482): they are no longer unacknowledged, and an entry whose every record is acknowledged closes. -/
def Blt.ack (b : Blt) (l : List (BitVec 32)) : Blt :=
  let keep (u : Unacked) : Bool := !l.contains u.seq
  let cut (e : BltEntry) : BltEntry := { e with unacked := e.unacked.filter fun q => !l.contains q }
  { b with unack := b.unack.filter keep, low := b.low.filter keep,
           entries := (b.entries.map cut).filter fun e => !e.unacked.isEmpty }

/-- The records that a FAULT_ACK names and that are not acknowledged (R482, R543). -/
def Blt.named (b : Blt) (mode levels : Nat) (seq : BitVec 32) : List (BitVec 32) :=
  ((b.unack ++ b.low).filter fun u =>
    if mode = 0 then u.seq == seq else serialLe 32 u.seq.toNat seq.toNat && bitAt levels u.level.val).map fun u => u.seq

/-- FAULT_ACK (R482). -/
def execFaultAck (h : Header) (mode : Nat) (levels : Nat) (seq : BitVec 32) (rsv : Nat) (s : State) : Host.Outcome State Fault Refusal :=
  .next (s.serve { op := 0x0801, replies := 1, vf := false, tenant := false, params := 8, rsv := rsv + levels / 16, addrs := 0, localOnly := false }
    h false fun r s1 =>
      if 2 ≤ mode then s1.done r .badField
      else
        let l := s1.blt.named mode levels seq
        if l.isEmpty then s1.done r .alreadyDone
        else (let s2 : State := { s1 with blt := s1.blt.ack l }; s2.done r .ok))

/-! ### What the blotter's registers show (R486, R487) -/

/-- A level 2 record is in effect for a partition (R477): R58 does not hold for it. -/
def Blt.inEffect (b : Blt) (p : Nat) : Bool := b.unack.any fun u => u.level == 2 && bitAt u.scope.toNat p

end Sys2Proof.Machine
end

