-- ==== Sys2Proof/Machine/Rows.lean ====
section
/-!
DEFINITION. Machine/Rows.lean: the satchel table and KV contexts, rows of the arena, inkwell references, blocks and their index, extents in T2,
swapping and the rows that a revival takes (chapters 03 to 05, 09).
-/
namespace Sys2Proof.Machine

/-! ### The satchel table (R70) -/

/-- The satchel in a table slot. -/
def State.satAt (s : State) (slot : Nat) : Option Sat := afind s.sat.sats slot

/-- The slot of an owned satchel whose admission is complete. While a hand-over within this device ends, two slots hold it, and the new
owner's is the one. -/
def State.findSlot (s : State) (id : SatchelId) : Option Nat :=
  let mine := s.sat.sats.filter fun p => p.2.id == id && p.2.admitting.isNone
  ((mine.find? fun p => p.2.state != .inTransit).orElse fun _ => mine.head?).map fun p => p.1

/-- The slot of a satchel, admitted or being admitted. -/
def State.anySlot (s : State) (id : SatchelId) : Option Nat := (s.sat.sats.find? fun p => p.2.id == id).map fun p => p.1

/-- Change a satchel. -/
def State.modSat (s : State) (slot : Nat) (f : Sat → Sat) : State :=
  { s with sat := { s.sat with sats := amod s.sat.sats slot f } }

/-- Apply a rule to the satchel of a slot, where there is one. -/
def State.withSlot (s : State) (slot : Nat) (f : Sat → State) : State :=
  match s.satAt slot with
  | some x => f x
  | none => s

/-- Entries of the satchel table in use, reservations included (R70). -/
def State.tableUsed (s : State) : Nat := s.sat.sats.length + s.sat.reserved.length

/-- A free table slot (R70). -/
def State.freeSlot (s : State) : Option Nat :=
  if 4194304 ≤ s.tableUsed then none
  else leastFree ((s.sat.sats.map fun p => p.1) ++ s.sat.reserved) (s.tableUsed + 1) 0

/-! ### KV contexts (R143 to R145, R159) -/

/-- The KV context of an index: an owned satchel's, or a satellite's (log entry 5). -/
def State.ctxAt (s : State) (c : Nat) : Option KvCtx :=
  if c < 2 ^ 22 then (s.satAt c).map Sat.toKvCtx else (afind s.sat.satellites (c - 2 ^ 22)).map Satellite.toKvCtx

/-- Change a KV context. -/
def State.modCtx (s : State) (c : Nat) (f : KvCtx → KvCtx) : State :=
  if c < 2 ^ 22 then s.modSat c fun y => { y with toKvCtx := f y.toKvCtx }
  else { s with sat := { s.sat with satellites := amod s.sat.satellites (c - 2 ^ 22) fun y => { y with toKvCtx := f y.toKvCtx } } }

/-- Apply a rule to a KV context, where there is one. -/
def State.withCtx (s : State) (c : Nat) (f : KvCtx → State) : State :=
  match s.ctxAt c with
  | some x => f x
  | none => s

/-- The key of a satchel's satellite here. -/
def State.satelliteKey (s : State) (id : SatchelId) : Option Nat := (s.sat.satellites.find? fun e => e.2.id == id).map fun e => e.1

/-- The KV context of a satchel here: its owner's, or a satellite's. -/
def State.findCtx (s : State) (id : SatchelId) : Option Nat :=
  match s.findSlot id with
  | some slot => some (ctxOfSlot slot)
  | none => (s.satelliteKey id).map ctxOfSatellite

/-- Every KV context of this device, by index. -/
def State.ctxs (s : State) : List (Nat × KvCtx) :=
  (s.sat.sats.map fun e => (ctxOfSlot e.1, e.2.toKvCtx)) ++ s.sat.satellites.map fun e => (ctxOfSatellite e.1, e.2.toKvCtx)

/-- Rows of a context of a kind. -/
def KvCtx.rowsOf (x : KvCtx) (k : RowKind) : List Row := x.rows.filter fun r => r.kind == k

/-- The context holds a row of a kind. -/
def KvCtx.has (x : KvCtx) (k : RowKind) : Bool := x.rows.any fun r => r.kind == k

/-- The context holds a swapped row (R168). -/
def KvCtx.swapped (x : KvCtx) : Bool := x.has .swapHost || x.has .swapT2

/-- Put a row in place of row j. -/
def putRow (rows : List Row) (j : Nat) (r : Row) : List Row := rows.take j ++ r :: rows.drop (j + 1)

/-- A private row of this device's arena (R144). -/
def hereRow (first : Nat) : Row := { kind := .here, fill := 0, loc := first }

/-! ### Rows of the arena (R135 to R141) -/

/-- Whole rows of the partition's range (R136). -/
def Part.rowCount (q : Part) : Nat := if q.rowFrames = 0 then 0 else q.frames / q.rowFrames

/-- Free rows (KVA_PFREE). -/
def Part.freeRows (q : Part) : Nat := q.rowCount - q.used.length

/-- Blocks or slots of a row when it is parked or swapped: its pages and its packed scale records (R144, R166). -/
def Part.rowSlots (q : Part) : Nat := q.rowFrames + ceilDiv q.rowFrames 256

/-- Units of 64 KiB that a row takes at most in the T2 swap extent: every block stored RAW with its tag (R166, R297, R298). -/
def Part.rowUnitsT2 (q : Part) : Nat := ceilDiv (q.rowSlots * 65664) 65536

/-- Physical address of a frame (R134). -/
def State.frameAddr (s : State) (h : Nat) : Nat := s.kva.base + h * 65536

/-- The scale records of a row that is taken: page k of it holds layer k / Gn and group k mod Gn (R139, R141). -/
def State.initRow (s : State) (q : Part) (first : Nat) (tag : BitVec 64) : State :=
  let rec_ (k : Nat) : ScaleRec :=
    { layer := k / q.groups, group := q.shard * q.groups + k % q.groups, fill := 0,
      format := match q.image with | some im => im.kv.format | none => 0,
      saturated := false, inkwell := false, tag := tag, scales := [] }
  { s with kva := { s.kva with scales := (List.range q.rowFrames).foldl (fun t k => aput t (first + k) (rec_ k)) s.kva.scales } }

/-- Take a free row of a partition for a satchel: its first handle (R136). -/
def State.allocRow (s : State) (p : Nat) (tag : BitVec 64) : Option (Nat × State) :=
  let q := s.part p
  match leastFree q.used (q.used.length + 1) 0 with
  | some i =>
    if i < q.rowCount then
      some (q.base + i * q.rowFrames, (s.modPart p fun y => { y with used := i :: y.used }).initRow q (q.base + i * q.rowFrames) tag)
    else none
  | none => none

/-- Take n rows, all or none: their first handles in order. -/
def State.allocRows (s : State) (p : Nat) (tag : BitVec 64) : Nat → Option (List Nat × State)
  | 0 => some ([], s)
  | n + 1 =>
    match s.allocRow p tag with
    | none => none
    | some (h, s1) => (s1.allocRows p tag n).map fun r => (h :: r.1, r.2)

/-- Return a row to the partition's free rows. -/
def State.freeRow (s : State) (p first : Nat) : State :=
  let q := s.part p
  if q.rowFrames = 0 then s
  else
    let s1 := s.modPart p fun y => { y with used := y.used.erase ((first - q.base) / q.rowFrames) }
    { s1 with kva := { s1.kva with
      scales := s1.kva.scales.filter fun e => decide (e.1 < first ∨ first + q.rowFrames ≤ e.1) } }

/-- A row that a count of zero and the pins allow returns to its partition (R158). -/
def State.inkReclaim (s : State) (first : Nat) : State :=
  match afind s.kva.inkRows first with
  | some r =>
    let pinned := match r.lastRelease with
      | some e => s.kva.pins.any fun n => !n.saved && serialLe 32 n.epoch e
      | none => false
    if r.count = 0 ∧ pinned = false then
      ({ s with kva := { s.kva with inkRows := adel s.kva.inkRows first } }).freeRow r.part.val first
    else s
  | none => s

/-- Check every inkwell row, as when a pin ends (R158). -/
def State.inkReclaimAll (s : State) : State := (s.kva.inkRows.map fun e => e.1).foldl State.inkReclaim s

/-- Take a reference to an inkwell row (R155). -/
def State.inkHold (s : State) (first : Nat) : State :=
  { s with kva := { s.kva with inkRows := amod s.kva.inkRows first fun r => { r with count := r.count + 1 } } }

/-- Release a reference; the release records the epoch (R155, R157). -/
def State.inkRelease (s : State) (first : Nat) : State :=
  ({ s with kva := { s.kva with
    inkRows := amod s.kva.inkRows first fun r => { r with count := r.count - 1, lastRelease := some s.kva.epoch } } }).inkReclaim first

/-! ### What the device keeps in T2 (R123, R166, R318, R323) -/

/-- A NAND channel is in service. -/
def State.nandInService (s : State) : Bool := s.fls.chans.any fun c => c.inService

/-- The device may write T2: it serves and is not READ_ONLY (R331, R332). -/
def State.t2Writable (s : State) : Bool := s.nandInService && s.fls.ready && !s.fls.readOnly && !s.fls.hold

/-- The logical unit at an offset of an extent. -/
def State.extentLua (s : State) (ext off : Nat) : Option Nat := (afind s.fls.extents ext).bind fun e => luaOf e.ranges off

/-- Begin writing bytes to units of an extent, 64 KiB to each (R323). -/
def State.t2Begin (s : State) (ext : Nat) (units : List Nat) (bytes : List Byte) : State :=
  units.zipIdx.foldl (fun (a : State) u =>
    match a.extentLua ext u.1 with
    | some lua =>
      a.beginWrite { req := 0, index := 0, lua := lua, extent := ext, ukind := .data, seq := 0, source := 0 }
        (padTo 65536 ((bytes.drop (65536 * u.2)).take 65536))
    | none => a) s

/-- The units are durable (R324): each is mapped, and no write of it is under way. -/
def State.t2Durable (s : State) (ext : Nat) (units : List Nat) : Bool :=
  units.all fun u =>
    match s.extentLua ext u with
    | some lua =>
      (afind s.fls.map lua).isSome && s.fls.writes.all (fun w => w.lua != lua || w.ukind == UKind.gcCopy) &&
        s.fls.tail.all fun r => r.lua != lua || r.type != .map
    | none => false

/-- n bytes of a run of units, from a place up. -/
def State.t2Read (s : State) (ext : Nat) (units : List Nat) (from_ n : Nat) : List Byte :=
  let need := (units.drop (from_ / 65536)).take (ceilDiv (from_ % 65536 + n) 65536)
  ((need.map fun u =>
    match s.extentLua ext u with
    | some lua => s.fls.unitBytes lua
    | none => zeros 65536).flatten.drop (from_ % 65536)).take n

/-- Units that hold nothing any more become invalid: their writes end, and UNMAP records name them (R322). -/
def State.t2Free (s : State) (ext : Nat) (units : List Nat) : State :=
  units.foldl (fun (a : State) u =>
    match a.extentLua ext u with
    | some lua =>
      let a1 := ({ a with fls := { a.fls with writes := a.fls.writes.filter fun w => w.lua != lua || w.ukind == UKind.gcCopy } } : State)
      if (afind a.fls.map lua).isSome || a.fls.tail.any (fun r => r.lua == lua && r.type == .map) then
        a1.journal { jrec .unmap with extent := ext, lua := lua, newPua := 1 }
      else a1
    | none => a) s

/-- A partition's T2 swap extent (R318). -/
def swapExtent (p : Nat) : Nat := 1008 + p

/-- Remove a run of slots from a list of those in use. -/
def dropRun (l : List Nat) (first n : Nat) : List Nat := l.filter fun k => decide (k < first ∨ first + n ≤ k)

/-- Give back what a page-table entry holds on this device. -/
def State.dropRow (s : State) (p : Nat) (r : Row) : State :=
  match r.kind with
  | .here => s.freeRow p r.loc
  | .inkwell => s.inkRelease r.loc
  | .swapHost => s.modPart p fun y => { y with swapHostUsed := dropRun y.swapHostUsed r.loc y.rowSlots }
  | .swapT2 =>
    let s1 := s.t2Free (swapExtent p) (runFrom r.loc (s.part p).rowUnitsT2)
    ({ s1 with kva := { s1.kva with swapKeys := adel s1.kva.swapKeys (p * 2 ^ 32 + r.loc) } }).modPart p fun y =>
      { y with swapT2Used := dropRun y.swapT2Used r.loc y.rowUnitsT2 }
  | _ => s

/-! ### Blocks (R122, R140, R141, R144, R166) -/

/-- A scale record's 256 bytes (R141). -/
def ScaleRec.bytes (r : ScaleRec) : List Byte :=
  leBytes 2 r.layer ++ leBytes 2 r.group ++ leBytes 2 r.fill ++ leBytes 1 r.format ++ leBytes 1 (2 * b2n r.saturated + b2n r.inkwell) ++
    leBytes 8 r.tag.toNat ++ ((List.range 64).map fun k => leBytes 2 (agetD r.scales k 0).toNat).flatten ++ zeros 112

/-- A scale record from its bytes. -/
def ScaleRec.ofBytes (l : List Byte) : ScaleRec :=
  { layer := fieldAt l 0 2, group := fieldAt l 2 2, fill := fieldAt l 4 2, format := fieldAt l 6 1, saturated := bitAt (fieldAt l 7 1) 1,
    inkwell := bitAt (fieldAt l 7 1) 0, tag := BitVec.ofNat 64 (fieldAt l 8 8),
    scales := (List.range 64).filterMap fun k =>
      let v := fieldAt l (16 + 2 * k) 2
      if v = 0 then none else some (k, BitVec.ofNat 16 v) }

/-- Bus address of a slot of a partition's host swap area: its extents joined in order (R166). -/
def swapAddr : List (Nat × Nat) → Nat → Option Nat
  | [], _ => none
  | (b, n) :: t, k => if k < n / 65536 then some (b + k * 65536) else swapAddr t (k - n / 65536)

/-- Stored length of a form in a tier (R298): with a GCM tag in T2. -/
def storedLen (form : List Byte) (cold : Bool) : Nat := roundUp (form.length + 16 * b2n cold) 64

/-- The at-rest key of a tenant's extent (R514): it goes with this device and this boot. -/
def State.restKey (s : State) (tenant : BitVec 16) (nonce : BitVec 64) : List Byte :=
  extentKey (Config.storageSecret ++ leBytes 2 tenant.toNat ++ leBytes 16 s.sec.bootNonce.toNat ++ leBytes 8 nonce.toNat)

/-- Draw the next extent nonce (R514). -/
def State.drawNonce (s : State) : State := { s with sec := { s.sec with extNonce := s.sec.extNonce + 1 } }

/-- Raw length of block j of a row. -/
def Part.blockLen (q : Part) (j : Nat) : Nat :=
  if j < q.rowFrames then 65536 else 256 * min 256 (q.rowFrames - (j - q.rowFrames) * 256)

/-- The width with which block j of a row is encoded (R295): codes, or the scale records' 16-bit scales. -/
def Part.blockWidth (q : Part) (j : Nat) : Nat := if j < q.rowFrames then 1 else 2

/-- The stored units of encrypted blocks that lie one after another (R298), from block k on, each as long as its COMP_LEN says. -/
def splitStored (key : List Byte) : Nat → Nat → List Byte → List (List Byte)
  | 0, _, _ => []
  | n + 1, k, l =>
    let len := roundUp (sealedLen key k l + 16) 64
    l.take len :: splitStored key n (k + 1) (l.drop len)

/-- Where the key of a swapped row is recorded. -/
def swapKeyAt (p loc : Nat) : Nat := p * 2 ^ 32 + loc

/-- Block j of a row in the T2 swap extent, decoded (R166, R168). -/
def State.swapT2Block (s : State) (p loc j : Nat) : Except BadBlock (List Byte) :=
  let q := s.part p
  let all := s.t2Read (swapExtent p) (runFrom loc q.rowUnitsT2) 0 (q.rowUnitsT2 * 65536)
  let w := agetD s.kva.swapKeys (swapKeyAt p loc) (0, 0, 0)
  let key := s.restKey w.2.1 w.2.2
  match openBlock key w.1 j ((splitStored key q.rowSlots 0 all).getD j []) with
  | .ok l => decodeBlock l 16 (q.blockLen j)
  | .error e => .error e

/-- Raw bytes of a swapped row's block. -/
def State.swapBlock (s : State) (p : Nat) (t2 : Bool) (loc j : Nat) : List Byte :=
  if t2 then (match s.swapT2Block p loc j with | .ok l => l | .error _ => zeros ((s.part p).blockLen j))
  else
    match swapAddr (s.part p).swapHost (loc + j) with
    | some a => memRead s.host.mem (hostKey (partFn p) a) ((s.part p).blockLen j)
    | none => zeros ((s.part p).blockLen j)

/-- The scale record of page k of a row in the arena. -/
def State.rowScale (s : State) (first k : Nat) : List Byte :=
  match afind s.kva.scales (first + k) with
  | some c => c.bytes
  | none => zeros 256

/-- Raw bytes of block j of a row (R122, R144): its pages first, then its scale records packed 256 to a block. -/
def State.rawBlock (s : State) (p : Nat) (r : Row) (j : Nat) : List Byte :=
  let q := s.part p
  match r.kind with
  | .swapHost => s.swapBlock p false r.loc j
  | .swapT2 => s.swapBlock p true r.loc j
  | _ =>
    if j < q.rowFrames then memRead s.memory.mem (s.frameAddr (r.loc + j)) 65536
    else
      let from_ := (j - q.rowFrames) * 256
      ((List.range (min 256 (q.rowFrames - from_))).map fun k => s.rowScale r.loc (from_ + k)).flatten

/-- Put the raw bytes of block j of a row into the row's frames, or its scale records. -/
def State.putBlock (s : State) (p first j : Nat) (raw : List Byte) : State :=
  let q := s.part p
  if j < q.rowFrames then s.physWrite (s.frameAddr (first + j)) raw
  else
    let from_ := (j - q.rowFrames) * 256
    { s with kva := { s.kva with scales := (List.range (raw.length / 256)).foldl (fun (t : Assoc ScaleRec) k =>
        aput t (first + from_ + k) (ScaleRec.ofBytes ((raw.drop (256 * k)).take 256))) s.kva.scales } }

/-- The rows that parking turns into blocks, in order, each as it stands: private rows and swapped ones (R122, R169), as parking found them. -/
def KvCtx.held (x : KvCtx) : List Row :=
  (x.rows.mapIdx fun j r => (match x.home.find? fun e => e.1 == j with | some e => e.2 | none => r)).filter fun r =>
    r.kind == .here || r.kind == .swapHost || r.kind == .swapT2 || r.kind == .parked

/-- Blocks of a context (R122, R144): its rows', then its recurrent state's. -/
def State.ctxBlocks (s : State) (x : KvCtx) : Nat := ceilDiv x.place.rstateLen 65536 + x.held.length * (s.part x.part.val).rowSlots

/-- Where a block of a context belongs: block j of row i among those held, piece k of the recurrent state, or nowhere. -/
inductive BlockHome where
  | row (i j : Nat)
  | piece (k : Nat)
  | none
  deriving DecidableEq, Repr

/-- Blocks of recurrent state, which come first in the index (R122; log entry 126). -/
def KvCtx.stateBlocks (x : KvCtx) : Nat := ceilDiv x.place.rstateLen 65536

/-- Where a block of a context belongs (R122, R144): a parked row's entry names its first block; a parking numbers the rows in order. -/
def State.blockHome (s : State) (x : KvCtx) (b : Nat) : BlockHome :=
  let n := (s.part x.part.val).rowSlots
  if b < x.stateBlocks then .piece b
  else
    match x.held.zipIdx.find? fun e =>
        let f := if e.1.kind = .parked then e.1.loc else x.stateBlocks + e.2 * n
        decide (f ≤ b ∧ b < f + n) with
    | some e => .row e.2 (b - (if e.1.kind = .parked then e.1.loc else x.stateBlocks + e.2 * n))
    | none => .none

/-- Raw bytes of a block of a context that stands in the arena, the swap area or T1. -/
def State.ctxRaw (s : State) (x : KvCtx) (b : Nat) : List Byte :=
  match s.blockHome x b with
  | .row i j => (match x.held[i]? with | some r => s.rawBlock x.part.val r j | none => [])
  | .none => []
  | .piece k => memRead s.memory.mem (x.place.rstate + 65536 * k) (min 65536 (x.place.rstateLen - 65536 * k))

/-- The raw length that a block of a context declares (R122, R303). -/
def State.ctxBlockLen (s : State) (x : KvCtx) (b : Nat) : Nat :=
  match s.blockHome x b with
  | .row _ j => (s.part x.part.val).blockLen j
  | .none => 0
  | .piece k => min 65536 (x.place.rstateLen - 65536 * k)

/-- The width with which a block is encoded (R295): that of the elements of recurrent state. -/
def State.ctxBlockWidth (s : State) (x : KvCtx) (b : Nat) : Nat :=
  match s.blockHome x b with
  | .row _ j => (s.part x.part.val).blockWidth j
  | .none => 1
  | .piece _ => match (s.part x.part.val).image with | some im => im.stateWidth | none => 1

/-- The key of a parked block. -/
def blockKey (ctx block : Nat) : Nat := ctx * 2 ^ 28 + block

/-- The forms that the warm pool, or a parking under way, holds for a context, in block order. -/
def State.formsOf (s : State) (c : Nat) : List (List Byte) :=
  ((s.kva.parked.filter fun b => b.1 / 2 ^ 28 == c).mergeSort fun a b => decide (a.1 ≤ b.1)).map fun b => b.2

/-- Units of 64 KiB that a context's blocks take in a tier, rounded up (R127). -/
def State.packedUnits (s : State) (c : Nat) (cold : Bool) : Nat :=
  ceilDiv ((s.formsOf c).map fun f => storedLen f cold).sum 65536

/-- Raw bytes of what a context would park (R127). -/
def State.rawBytes (s : State) (x : KvCtx) : Nat :=
  let q := s.part x.part.val
  x.held.length * q.rowFrames * (65536 + 256) + x.place.rstateLen

/-! ### The block index (R299) -/

/-- An index's bytes: of blocks of these stored lengths. -/
def indexBytes (lens : List Nat) (encrypted : Bool) : List Byte :=
  let offs := (List.range (lens.length + 1)).map fun k => (lens.take k).sum
  let entries := (offs.map (leBytes 5)).flatten
  leBytes 4 lens.length ++ leBytes 1 (b2n encrypted) ++ zeros 3 ++ leBytes 8 (crc64 entries) ++ entries

/-- OFFSET of an index. -/
def indexOffset (l : List Byte) (k : Nat) : Nat := fieldAt l (16 + 5 * k) 5

/-- An index passes its check: COUNT in its range, ICHECK, offsets that are multiples of 64 and ascend. -/
def indexOk (l : List Byte) : Bool :=
  let n := fieldAt l 0 4
  decide (1 ≤ n ∧ n ≤ 16777216) && l.length == 16 + 5 * (n + 1) && fieldAt l 8 8 == crc64 (l.drop 16) && fieldAt l 4 1 / 2 == 0 &&
    (List.range (n + 1)).all (fun k => indexOffset l k % 64 == 0) && (List.range n).all fun k => decide (indexOffset l k < indexOffset l (k + 1))

/-- The index of a context's blocks for the tier that they now stand in; a satchel without blocks has none. -/
def State.setIndex (s : State) (c : Nat) (forms : List (List Byte)) (cold : Bool) : State :=
  { s with kva := { s.kva with
    indexes := if forms.isEmpty then adel s.kva.indexes c else aput s.kva.indexes c (indexBytes (forms.map fun f => storedLen f cold) cold) } }

/-- The key of a context's blocks in T2. -/
def State.ctxKey (s : State) (c : Nat) (x : KvCtx) : List Byte := s.restKey x.tenant (agetD s.kva.nonces c 0)

/-- A block of a context as its tier stores it: in T2 where OFFSET names it, else the warm pool's. -/
def State.blockStored (s : State) (c : Nat) (x : KvCtx) (index : List Byte) (block : Nat) : List Byte :=
  if x.cold.isEmpty then storedUnit (agetD s.kva.parked (blockKey c block) []) []
  else s.t2Read 992 x.cold (indexOffset index block) (indexOffset index (block + 1) - indexOffset index block)

/-- The forms of a context's blocks in T2, as the index names them. -/
def State.coldForms (s : State) (c : Nat) (x : KvCtx) : List (List Byte) :=
  let ix := agetD s.kva.indexes c []
  (List.range (fieldAt ix 0 4)).map fun k => sealedForm (s.ctxKey c x) k (s.blockStored c x ix k)

/-- Raw size in units of 64 KiB (R127): of what stands in the arena, or of the parked blocks by their RAW_LEN. -/
def State.rawUnits (s : State) (c : Nat) (x : KvCtx) : Nat :=
  if x.state = .parkedWarm ∨ x.state = .parkedCold then
    ceilDiv ((if x.cold.isEmpty then s.formsOf c else s.coldForms c x).map fun f => fieldAt f 4 4).sum 65536
  else ceilDiv (s.rawBytes x) 65536

/-- Decode a parked block (R298, R299, R303) from what was fetched: the index and the stored unit, where they are not what stands there. -/
def State.decodeAt (s : State) (c : Nat) (x : KvCtx) (block : Nat) (index fetched : Option (List Byte)) : Except BadBlock (List Byte) :=
  let ix := index.getD (agetD s.kva.indexes c [])
  if indexOk ix = false ∨ fieldAt ix 0 4 ≤ block then .error .check
  else
    let unit := fetched.getD (s.blockStored c x ix block)
    if x.cold.isEmpty then decodeBlock unit 0 (s.ctxBlockLen x block)
    else
      match openBlock (s.ctxKey c x) x.id block unit with
      | .ok l => decodeBlock l 16 (s.ctxBlockLen x block)
      | .error e => .error e

/-- Encode a block into a context's parked blocks, counted (R297, R308, R309). -/
def State.encodeAt (s : State) (c block width : Nat) (raw : List Byte) (cold : Bool) : State :=
  let e := encodeBlock width raw
  let s1 : State := { s with kva := { s.kva with parked := aput s.kva.parked (blockKey c block) e.1 } }
  let s2 := (s1.count Reg.cdcCntEnc 1).count64 Reg.cdcRawBytesLo raw.length
  let s3 := s2.count64 Reg.cdcStoredBytesLo (storedLen e.1 cold)
  if e.2 then s3.count Reg.cdcCntRaw 1 else s3

/-- Free what a context's blocks hold: forms, units in T2, and the index. -/
def State.freeBlocks (s : State) (c : Nat) : State :=
  s.withCtx c fun x =>
    let s1 := s.t2Free 992 x.cold
    ({ s1 with kva := { s1.kva with
      parked := s1.kva.parked.filter fun b => b.1 / 2 ^ 28 != c, rereads := s1.kva.rereads.filter fun b => b.1 != c,
      indexes := adel s1.kva.indexes c, nonces := adel s1.kva.nonces c } }).modCtx c fun y => { y with cold := [], units := 0 }

/-- Every block of a context is encoded. -/
def State.allEncoded (s : State) (c : Nat) (x : KvCtx) : Bool :=
  (List.range (s.ctxBlocks x)).all fun b => (afind s.kva.parked (blockKey c b)).isSome

/-! ### Lodgings (R93) -/

/-- Free a lodging that this device holds for a satchel (R93). -/
def State.freeLodging (s : State) (id : SatchelId) : State :=
  let l := s.sat.lodgings.filter fun y => y.id == id
  let s1 : State := { s with sat := { s.sat with lodgings := s.sat.lodgings.filter fun y => y.id != id } }
  l.foldl (fun a y => y.rows.foldl (fun b r => b.dropRow y.part.val r) a) s1

/-- Tell the lodging device that a satchel needs its lodging no more (R93); here it may be this device (R94). -/
def State.endLodging (s : State) (dev : DeviceId) (id : SatchelId) : State :=
  if dev = s.me then s.freeLodging id else s.emit (.lodgingFree dev id)

/-! ### The other shards and the ring partners (R145, R147) -/

/-- The other devices that hold a satellite of a partition's satchels: the shards but this one, of a sprint instance the ranks that hold keys and
values (R232), and the ring partners. -/
def Part.satelliteDevs (q : Part) (ring : Bool) : List DevPart :=
  (if q.sprint then (q.shardList.take (match q.image with | some im => im.kv.shards | none => 0)).drop 1 else q.shardList.drop 1) ++
    (if ring then q.ringList else [])

/-- A satchel's satellites end. -/
def shardDrop (id : SatchelId) : ShardInstr := { id := id, alloc := 0, freeFrom := 0, kvPos := 0, kill := false, drop := true, acts := [] }

/-- Something else that a satchel's satellites are to do. -/
def shardDo (id : SatchelId) (kvPos : Nat) (a : ShardAct) : ShardInstr :=
  { id := id, alloc := 0, freeFrom := 2 ^ 32, kvPos := kvPos, kill := false, drop := false, acts := [a] }

/-- Send an instruction for a satchel's satellites (R145, R244), and to the ring partners where it holds RING rows (R147). -/
def State.toShards (s : State) (p : Nat) (ring : Bool) (i : ShardInstr) : State :=
  let q := s.part p
  let s1 := (q.satelliteDevs false).foldl (fun (a : State) d => a.emit (.shardPlan d s.strokeNow [i])) s
  if ring then q.ringList.foldl (fun (a : State) d => a.emit (.shardPlan d s.strokeNow [{ i with ring := true }])) s1 else s1

/-- The same for a context: a satellite of a shard has only ring partners of its own. -/
def State.toOthers (s : State) (c : Nat) (x : KvCtx) (i : ShardInstr) : State :=
  if c < 2 ^ 22 then s.toShards x.part.val (x.has .ring) i
  else if x.has .ring then (s.part x.part.val).ringList.foldl (fun (a : State) d => a.emit (.shardPlan d s.strokeNow [{ i with ring := true }])) s
  else s

/-- Give back the slots reserved for rows that are being swapped out (R169). -/
def State.dropSwapOut (s : State) (x : KvCtx) : State :=
  x.swapOut.foldl (fun a e => a.dropRow x.part.val { kind := if e.2.1 then .swapT2 else .swapHost, fill := 0, loc := e.2.2 }) s

/-- Free every page of a context: its rows, those that a parking left at home, restored frames, blocks and lodging; and what the other devices hold
for it. -/
def State.freeCtx (s : State) (c : Nat) : State :=
  s.withCtx c fun x =>
    let p := x.part.val
    let s1 := (x.home.map fun e => e.2).foldl (fun (a : State) r => a.dropRow p r) (x.rows.foldl (fun (a : State) r => a.dropRow p r) s)
    let s2 := ((x.staged ++ x.returns.map fun e => e.2).foldl (fun (a : State) h => a.freeRow p h) s1).dropSwapOut x
    let s3 := if x.migrating then s2.endLodging x.lodge x.id else s2
    let s4 := (s3.toOthers c x (shardDrop x.id)).freeBlocks c
    s4.modCtx c fun y =>
      { y with rows := [], home := [], staged := [], units := 0, park := .idle, migrating := false, lodge := 0xFFFF, migrated := 0, swapOut := [],
               returns := [] }

/-- Free every page of a satchel. -/
def State.freePages (s : State) (slot : Nat) : State := s.freeCtx (ctxOfSlot slot)

/-! ### Swapping out (R166 to R170, R248) -/

/-- The first of n consecutive slots that no row uses. -/
def slotRun (total n : Nat) (used : List Nat) : Option Nat :=
  ((0 :: used.map fun k => k + 1).filter fun b => decide (b + n ≤ total) && used.all fun k => decide (k < b ∨ b + n ≤ k)).min?

/-- Where a row could be swapped to in a target (R166): T2 needs a NAND channel in service (R167), and to be writable (R331). -/
def State.swapPlace (s : State) (p : Nat) (t2 : Bool) : Option Nat :=
  let q := s.part p
  if t2 then (if s.t2Writable then slotRun q.swapT2 q.rowUnitsT2 q.swapT2Used else none)
  else slotRun (q.swapHost.foldl (fun a e => a + e.2 / 65536) 0) q.rowSlots q.swapHostUsed

/-- The target and first slot of a row that is to be swapped (R166, R167, R177). -/
def State.swapTarget (s : State) (p : Nat) : Option (Bool × Nat) :=
  let t := s.flag (Reg.kvaSwapCfg p) 0
  match s.swapPlace p t with
  | some k => some (t, k)
  | none => if s.flag (Reg.kvaSwapCfg p) 1 then (s.swapPlace p !t).map fun k => (!t, k) else none

/-- LOCAL rows of a context that are not being swapped out yet. -/
def KvCtx.toSwap (x : KvCtx) : List Nat :=
  (List.range x.rows.length).filter fun j =>
    (match x.rows[j]? with | some r => r.kind == .here | none => false) && !(x.swapOut.any fun e => e.1 == j)

/-- A row's blocks go through the codec to T2 (R166): encoded, encrypted under a key of their own, and their units' writes begun. -/
def State.swapEncode (s : State) (p : Nat) (x : KvCtx) (r : Row) (k : Nat) : State :=
  let q := s.part p
  let key := s.restKey x.tenant s.sec.extNonce
  let step (a : State × List Byte) (j : Nat) : State × List Byte :=
    let raw := a.1.rawBlock p r j
    let e := encodeBlock (q.blockWidth j) raw
    let s1 := ((a.1.count Reg.cdcCntEnc 1).count64 Reg.cdcRawBytesLo raw.length).count64 Reg.cdcStoredBytesLo (storedLen e.1 true)
    (if e.2 then s1.count Reg.cdcCntRaw 1 else s1, a.2 ++ sealBlock key x.id j e.1)
  let s0 : State := { s with kva := { s.kva with swapKeys := aput s.kva.swapKeys (swapKeyAt p k) (x.id, x.tenant, s.sec.extNonce) } }
  let w := (List.range q.rowSlots).foldl step (s0.drawNonce, [])
  w.1.t2Begin (swapExtent p) (runFrom k q.rowUnitsT2) w.2

/-- Begin swapping rows of a context out, each to slots reserved for it; none where the target has no space. -/
def State.swapRows (s : State) (c p : Nat) : List Nat → Option State
  | [] => some s
  | j :: t =>
    match s.swapTarget p, (s.ctxAt c).bind fun x => x.rows[j]?.map fun r => (x, r) with
    | some (t2, k), some (x, r) =>
      let s1 := s.modPart p fun q =>
        if t2 then { q with swapT2Used := runFrom k q.rowUnitsT2 ++ q.swapT2Used } else { q with swapHostUsed := runFrom k q.rowSlots ++ q.swapHostUsed }
      let s2 := if t2 then s1.swapEncode p x r k else s1
      (s2.modCtx c fun y => { y with swapOut := y.swapOut ++ [(j, t2, k)] }).swapRows c p t
    | _, _ => none

/-- A satchel may be a victim for a requester of a class (R248); `above` asks for a higher class number (R249). -/
def Sat.victim (x : Sat) (cls : Nat) (above : Bool) : Bool :=
  x.has .here && x.planned.isNone && !x.frozen && !x.cancelLatched && !x.migrating && x.admitting.isNone &&
    (if above then decide (cls < x.cls.val) else decide (cls ≤ x.cls.val))

/-- Candidates in the order of R248. -/
def State.victims (s : State) (p self cls : Nat) (above : Bool) : List (Nat × Sat) :=
  (s.sat.sats.filter fun e => e.1 != self && e.2.part.val == p && e.2.victim cls above).mergeSort fun a b =>
    decide (b.2.cls.val < a.2.cls.val) || (a.2.cls == b.2.cls &&
      (decide (a.2.lastStroke < b.2.lastStroke) || (a.2.lastStroke == b.2.lastStroke && decide (a.2.id.toNat ≤ b.2.id.toNat))))

/-- Take victims in order until their rows cover a need (R248, R166, R167, R170), each with its satellites' rows. A victim whose swap-out is under
way covers with its rows and is not counted again. -/
def State.takeVictims (s : State) (p : Nat) : Nat → List (Nat × Sat) → State
  | _, [] => s
  | need, (slot, x) :: t =>
    if need = 0 then s
    else
      let n := (x.rowsOf .here).length
      if x.toSwap.isEmpty then s.takeVictims p (need - n) t
      else if s.flag Reg.kvaCtrl 1 then s.takeVictims p (need - x.swapOut.length) t
      else
        match s.swapRows (ctxOfSlot slot) p x.toSwap with
        | some s1 => ((s1.toShards p false (shardDo x.id x.kvPos .swapOut)).count Reg.plnCntVictim 1).takeVictims p (need - n) t
        | none => ({ s with kva := { s.kva with swapFull := true } }).takeVictims p (need - x.swapOut.length) t

/-- Choose victims for a satchel that needs rows (R248): here, and where another shard lacks so many (`short`). -/
def State.preempt (s : State) (slot need short : Nat) (above : Bool) : State :=
  s.withSlot slot fun x =>
    let p := x.part.val
    s.takeVictims p (max (need - (s.part p).freeRows) short) (s.victims p slot x.cls.val above)

/-- Rows of a partition's contexts are back: the entries that waited for a row are tried again (R144). -/
def State.rowsBack (s : State) (p : Nat) : State :=
  { s with cores := { s.cores with
      queues := amap (fun l => l.map fun (c : CoreCmd) => if c.part.val = p then { c with waiting := [] } else c) s.cores.queues } }

/-! ### Revival (R130, R131) -/

/-- The blocks of a parked context: those that its rows and its recurrent state name. -/
def State.parkedBlocks (s : State) (x : KvCtx) : List Nat :=
  List.range x.stateBlocks ++ ((x.rowsOf .parked).map fun r => runFrom r.loc (s.part x.part.val).rowSlots).flatten

/-- Begin restoring a parked context's blocks (R130, R131): a frame for every parked page, and room for recurrent state; the other devices restore
theirs. Where the arena is short, the swap of R248 makes room and the revival waits. `staging` says that no append or wake was taken yet. -/
def State.beginRevive (s : State) (c : Nat) (staging : Bool) : State :=
  s.withCtx c fun x =>
    let n := (x.rowsOf .parked).length
    let wait (a : State) : State := (if c < 2 ^ 22 then a.preempt c n 0 false else a).modCtx c fun y => { y with park := .reviveWait staging }
    match s.placeState c x.place x.place.rstateLen with
    | none => wait s
    | some (pl, s0) =>
      match s0.allocRows x.part.val x.id n with
      | none => wait s
      | some (l, s1) =>
        (s1.modCtx c fun y => { y with place := pl, staged := l, park := .reviving (s.parkedBlocks x) staging }).toOthers c x
          (shardDo x.id x.kvPos .revive)

end Sys2Proof.Machine
end

