-- ==== Sys2Proof/Machine/Pages.lean ====
section
/-!
DEFINITION. Machine/Pages.lean: the codes and scales of a page's keys and values (R140 to R142, R150, R163, R181, R182).
-/
namespace Sys2Proof.Machine

/-! ### Codes (R140, R181) -/

/-- Bits of a code (R140). -/
def KvLayout.codeBits (k : KvLayout) : Nat := if k.format = 1 then 4 else 8

/-- Where the codes of head h and position p lie in each half of a page (R140), and their bytes. -/
def KvLayout.span (k : KvLayout) (h p : Nat) : Nat × Nat :=
  ((h * 2 ^ k.log2P + p) * k.headDim * k.codeBits / 8, k.headDim * k.codeBits / 8)

/-- qmax of a KV format (R181). -/
def kvQmax (format : Nat) : Nat := if format = 1 then 12 else 127

/-- Levels of a KV format by index (R181). -/
def kvLevels (format : Nat) : List Nat := if format = 1 then [0, 1, 2, 3, 4, 6, 8, 12] else List.range 128

/-- The sign's place value in a code (R181). -/
def kvSign (format : Nat) : Nat := if format = 1 then 8 else 128

/-- The number that a code stands for before its scale (R181): the code that is never written reads as 0. -/
def kvValue (format code : Nat) : Num :=
  let m := (kvLevels format).getD (code % kvSign format) 0
  .fin (decide (kvSign format ≤ code) && m != 0) m 0

/-- The value of a code under its page's scale (R140). -/
def kvScaled (format : Nat) (scale : BitVec 16) (code : Nat) : Num := (kvValue format code).mul (Fmt.fp16.decode scale.toNat)

/-- The code of a value under a scale (R142, R181, R182) with whether it saturated and whether it was a NaN. -/
def kvCode (format : Nat) (scale : BitVec 16) (x : Num) : Nat × Bool × Bool :=
  let lv := kvLevels format
  let sc := Fmt.fp16.decode scale.toNat
  let top := lv.length - 1
  let level (n : Nat) : Num := (Num.fin false n 0).mul sc
  match x with
  | .nan => (0, false, true)
  | .inf n => (top + (if n then kvSign format else 0), true, false)
  | .fin n _ _ =>
    let a := x.abs
    let i := ((List.range top).filter fun j =>
      let mid := (level (lv.getD j 0)).add (level (lv.getD (j + 1) 0))
      mid.lt (a.scale 1) || (!(a.scale 1).lt mid && j % 2 == 1)).length
    (if i = 0 then 0 else i + (if n then kvSign format else 0), (level (lv.getD top 0)).lt a, false)

/-! ### Scales (R142) -/

/-- A magnitude divided by a small number, to the nearest FP16. -/
def scaleQuot (x : Num) (d : Nat) : BitVec 16 :=
  match x with
  | .fin _ m e =>
    let big := m * 2 ^ 64
    let q := big / d
    let sticky := if big % d = 0 then 0 else 1
    BitVec.ofNat 16 (Fmt.fp16.encode (.fin false (2 * q + sticky) (e - 65))).1
  | y => BitVec.ofNat 16 (Fmt.fp16.encode y.abs).1

/-- The greater of two scales. -/
def maxScale (a b : BitVec 16) : BitVec 16 := if (Fmt.fp16.decode a.toNat).lt (Fmt.fp16.decode b.toNat) then b else a

/-- The greatest magnitude of a first write; NaNs have none. -/
def amaxOf (l : List Num) : Num := l.foldl (fun a x => if a.lt x.abs then x.abs else a) (.fin false 0 0)

/-- The scale that a first write sets (R142). -/
def firstScale (kv : KvLayout) (check : BitVec 64) (layer half : Nat) (l : List Num) : BitVec 16 :=
  let s := scaleQuot ((amaxOf l).scale kv.headroom) (kvQmax kv.format)
  let c := if kv.calAddr = 0 then 0 else Config.calScale check kv.calAddr layer half
  let m := maxScale s c
  if m.toNat % 2 ^ 15 = 0 then 0x0400#16 else m

/-! ### Pages in the arena -/

/-- The codes of one head and position of a page half. -/
def State.pageCodes (s : State) (kv : KvLayout) (frame half head pos : Nat) : List Nat :=
  let w := kv.span head pos
  let v := leNat (memRead s.memory.mem (s.frameAddr frame + half * 0x8000 + w.1) w.2)
  (List.range kv.headDim).map fun d => v / 2 ^ (kv.codeBits * d) % 2 ^ kv.codeBits

/-- The values that they stand for (R140, R181). -/
def State.pageValues (s : State) (kv : KvLayout) (frame half head pos : Nat) : List Num :=
  let sc := agetD (agetD s.kva.scales frame (ScaleRec.ofBytes [])).scales (2 * head + half) 0
  (s.pageCodes kv frame half head pos).map (kvScaled kv.format sc)

/-- Write values of one head and half at positions of a page (R139 to R142, R150), with the saturations and the NaNs met. The first write sets the
scale, and FILL rises to cover them. -/
def State.writeHead (s : State) (im : ModelImage) (frame layer headIn half : Nat) (l : List (Nat × List Num)) : State × Nat × Nat :=
  let kv := im.kv
  let r := agetD s.kva.scales frame (ScaleRec.ofBytes [])
  let k := 2 * headIn + half
  let sc := match afind r.scales k with
    | some x => x
    | none => firstScale kv im.check layer half (l.map fun e => e.2).flatten
  let coded := l.map fun e => (e.1, e.2.map (kvCode kv.format sc))
  let sat := (coded.map fun e => (e.2.filter fun y => y.2.1).length).sum
  let nan := (coded.map fun e => (e.2.filter fun y => y.2.2).length).sum
  let fill := l.foldl (fun a e => max a (e.1 + 1)) r.fill
  let s1 : State := { s with kva := { s.kva with
    scales := aput s.kva.scales frame { r with scales := aput r.scales k sc, fill := fill, saturated := r.saturated || sat != 0 } } }
  let s2 := coded.foldl (fun (a : State) e =>
    let w := kv.span headIn e.1
    let v := (e.2.zipIdx.map fun y => y.1.1 * 2 ^ (kv.codeBits * y.2)).sum
    a.physWrite (a.frameAddr frame + half * 0x8000 + w.1) (leBytes w.2 v)) s1
  (s2.count Reg.kvaCntSat sat, sat, nan)

/-- The frame of a row that holds a layer's local head, and the head's number in it (R139). -/
def Part.headFrame (q : Part) (im : ModelImage) (first layer head : Nat) : Nat × Nat :=
  (first + layer * q.groups + head / 2 ^ im.kv.log2G, head % 2 ^ im.kv.log2G)

/-- Every layer, local head and half of a model (R138). -/
def Part.headsOf (q : Part) (im : ModelImage) : List (Nat × Nat × Nat) :=
  (List.range im.kv.layers).flatMap fun l => (List.range (q.groups * 2 ^ im.kv.log2G)).flatMap fun h => [(l, h, 0), (l, h, 1)]

/-- Keys and values of one position go to another of the arena (R165): within a page the codes as they are, to another page under that page's
scales (log entry 127). -/
def State.moveHere (s : State) (p src srcAt dst dstAt : Nat) : State :=
  let q := s.part p
  match q.image with
  | none => s
  | some im =>
    (q.headsOf im).foldl (fun (a : State) e =>
      let f := q.headFrame im src e.1 e.2.1
      let t := q.headFrame im dst e.1 e.2.1
      if f.1 = t.1 then
        let w := im.kv.span f.2 srcAt
        a.physWrite (a.frameAddr t.1 + e.2.2 * 0x8000 + (im.kv.span t.2 dstAt).1)
          (memRead a.memory.mem (a.frameAddr f.1 + e.2.2 * 0x8000 + w.1) w.2)
      else (a.writeHead im t.1 e.1 t.2 e.2.2 [(dstAt, a.pageValues im.kv f.1 e.2.2 f.2 srcAt)]).1) s

end Sys2Proof.Machine
end

