-- ==== Sys2Proof/Machine/Satchels.lean ====
section
/-!
DEFINITION. Machine/Satchels.lean: what the rules about satchels share: registration and mirrors, token-stream records, endings, rebuilding,
stop matching and tenants' budgets (chapters 03 to 05, 07).
-/
namespace Sys2Proof.Machine

/-- T of R90 and R95: 3 strokes or 10 ms, if that is longer. -/
def State.lossTime (s : State) : Nat := max 10000000 (s.strokes 3)

/-! ### Registration and mirrors (R83 to R85) -/

/-- What goes with a descriptor: nothing of the owner's own bookkeeping (R71). -/
def Sat.image (x : Sat) : Sat :=
  { x with log := [], admitting := none, attempts := 0, freeing := [], move := none, planned := none, prov := none, outRecs := [],
           park := .idle, staged := [], migrated := 0, swapOut := [], returns := [], mirrorsOut := 0, mirrorHold := false, reregister := false,
           unackedInks := [], registering := false, place := { Place.none with rstateLen := x.place.rstateLen }, poolNoted := false, home := [],
           cold := [], frozen := false, cancelLatched := false, prior := x.state }

/-- Send REGISTER with the recovery image and the whole log (R83, R84); without a registrar nothing is sent (R77). -/
def State.sendRegister (s : State) (slot : Nat) : State :=
  s.withSlot slot fun x =>
    let peer : DeviceId := match x.move with
      | some v => if x.state = .inTransit then v.dev else 0xFFFF#16
      | none => 0xFFFF#16
    let st := if x.admitting.isSome then SatState.free else x.state
    match s.registrar x.id with
    | none => s
    | some d =>
      (s.sendC d .register (s.cmsg x.id x.epoch peer .ok st.code x.log.length 0) (.image { x.image with prior := x.prior } x.log)).modSat slot
        fun y => { y with mirrorSent := y.log.length, mirrorsOut := 0, reported := y.state, registering := true }

/-- Send MIRROR for what the registrar has not been sent: the new tokens, in messages of up to 65,535, and the state (R85, R92). A satchel
without a registrar only begins to count strokes (R77). A level 3 record ends it (R478). -/
def State.sendMirror (s : State) (slot : Nat) : State :=
  s.withSlot slot fun x =>
    if s.blt.l3 then s
    else
    let l := x.log.drop x.mirrorSent
    let inks := if l.any fun t => !bitAt t.toNat 24 then x.unackedInks ++ [(x.log.length, s.strokeNow)] else x.unackedInks
    match s.registrar x.id with
    | none => s.modSat slot fun y => { y with unackedInks := inks }
    | some d =>
      let n := max 1 (ceilDiv l.length 65535)
      let s1 := (List.range n).foldl (fun (a : State) k =>
        let c := (l.drop (k * 65535)).take 65535
        a.sendC d .mirror (s.cmsg x.id x.epoch 0xFFFF#16 .ok x.state.code (x.mirrorSent + k * 65535) (s.strokeNow % 2 ^ 48 + c.length * 2 ^ 48))
          (.tokens c)) s
      s1.modSat slot fun y =>
        { y with mirrorSent := x.log.length, mirrorsOut := y.mirrorsOut + n, reported := y.state, unackedInks := inks }

/-! ### Token-stream records (R459) -/

/-- The ring of a satchel's records (R454). -/
def Sat.streamKey (x : Sat) : Nat := ringKey (if x.onPf0 then 0 else partFn x.part.val) .stream x.ring.val

/-- A token-stream record with PHASE clear (R459). Tokens that the device returns carry flags 0 (R544). -/
def streamRecord (x : Sat) (r : StreamRec) : List Byte :=
  leBytes 8 x.id.toNat ++ leBytes 6 x.cookie.toNat ++
    [BitVec.ofNat 8 r.status.code, BitVec.ofNat 8 (64 * b2n r.final + 32 * b2n r.wait + r.matcher % 16)] ++ leBytes 4 r.pos ++
    [BitVec.ofNat 8 r.tokens.length, BitVec.ofNat 8 r.waitKind, BitVec.ofNat 8 r.more, 0#8] ++ leBytes 6 r.stroke ++ zeros 2 ++
    padTo 32 ((r.tokens.map fun t => leBytes 4 (t.toNat % 2 ^ 24)).flatten)

/-- A record that ends a satchel without a token (R459). -/
def finalRec (x : Sat) (st : Status) (stroke : Nat) : StreamRec :=
  { status := st, final := true, wait := false, matcher := 15, waitKind := 0, pos := x.log.length, tokens := [], more := 0,
    stroke := stroke, need := x.log.length }

/-- A record may be published: the registrar has acknowledged its tokens, and before a final record the ending itself (R77, R86). -/
def Sat.mayPublish (x : Sat) (r : StreamRec) : Bool :=
  decide (r.need ≤ x.mirrorLen) &&
    (!r.final || (x.mirrorsOut == 0 && x.reported == x.state && !x.registering && !x.reregister))

/-- Remove a satchel from the table; its slot is FREE, and so are its places in T1. -/
def State.removeSat (s : State) (slot : Nat) : State :=
  let s1 := (s.freePages slot).unplace slot
  { s1 with sat := { s1.sat with sats := adel s1.sat.sats slot } }

/-- Answer packets in order. -/
def State.doneAll (s : State) (l : List ReplyTo) (st : Status) : State := l.foldl (fun a r => a.done r st) s

/-- Free an ended satchel (R74, R75): the registrar's record is deleted, and the SATCHEL_FREEs that waited are answered. -/
def State.freeSat (s : State) (slot : Nat) : State :=
  s.withSlot slot fun x =>
    let s1 := s.toRegistrar .mirror (s.cmsg x.id x.epoch 0xFFFF#16 .ok SatState.free.code x.mirrorSent (s.strokeNow % 2 ^ 48)) (.tokens [])
    (s1.removeSat slot).doneAll x.freeing .ok

/-- Publish what the registrar has acknowledged, in order (R86), and free an ended satchel that is to be freed once its final record is
published (R72, R75). A level 3 record ends it (R478). -/
def State.publishInk (s : State) (slot : Nat) : State :=
  s.withSlot slot fun x =>
    if s.blt.l3 then s
    else
    let now := x.outRecs.takeWhile x.mayPublish
    let rest := x.outRecs.drop now.length
    let s1 := now.foldl (fun (a : State) r => a.putRecord x.streamKey (streamRecord x r)) s
    let s2 := s1.modSat slot fun y => { y with outRecs := rest }
    if x.state.ended ∧ rest.isEmpty ∧ (x.autoFree ∨ x.freeing ≠ []) then s2.freeSat slot else s2

/-! ### Endings (R74, R88, R244) -/

/-- Enter a satchel's KV context into its partition's kill set (R244), and tell its satellites. -/
def State.killRows (s : State) (slot : Nat) : State :=
  s.withSlot slot fun x =>
    let p := x.part.val
    let s1 :=
      if 256 ≤ (s.part p).kill.length then s.count Reg.plnCntKillOvf 1
      else s.modPart p fun q => { q with kill := if q.kill.contains (ctxOfSlot slot) then q.kill else ctxOfSlot slot :: q.kill }
    s1.toShards p (x.has .ring) { id := x.id, alloc := 0, freeFrom := x.rows.length, kvPos := x.kvPos, kill := true, drop := false, acts := [] }

/-- The final reply of a SATCHEL_MOVE whose OFFER was never sent (R454). -/
def State.endMove (s : State) (x : Sat) (st : Status) : State :=
  match x.move with
  | some v => match v.reply with
    | some r => s.done r st
    | none => s
  | none => s

/-- End a satchel with its last records (R74): DONE or CANCELLED. A cancelled satchel's pages are freed. -/
def State.finish (s : State) (slot : Nat) (st : SatState) (recs : List StreamRec) : State :=
  s.withSlot slot fun x =>
    let s1 := s.endMove x (if st = SatState.cancelled then Status.cancelled else Status.alreadyDone)
    let s2 := s1.modSat slot fun y =>
      { y with state := st, cancelLatched := false, frozen := false, planned := none, prov := none, move := none, waitKind := 0,
               waitMatcher := 15, waitExpiry := 0, backfill := 0, outRecs := y.outRecs ++ recs }
    if st = SatState.cancelled then s2.freePages slot else s2

/-- End a satchel with an error (TIER_ERROR, PROTECTION, BAD_FIELD): DONE, its final record carrying the status (log entry 22). -/
def State.endWith (s : State) (slot : Nat) (st : Status) : State :=
  s.withSlot slot fun x => s.finish slot .done [finalRec x st s.strokeNow]

/-- A cancel of a live satchel takes effect (R88): at the next ink point where a row of it is planned, else at once. -/
def State.applyCancel (s : State) (slot : Nat) : State :=
  s.withSlot slot fun x =>
    if x.planned.isSome then (s.modSat slot fun y => { y with cancelLatched := true }).killRows slot
    else (s.finish slot .cancelled [finalRec x .cancelled s.strokeNow]).publishInk slot

/-! ### Rebuilding (R133) -/

/-- The lower-tier path of R133 and R285: NO_SUBSTITUTE ends with TIER_ERROR; otherwise the rows are freed and the satchel is rebuilt by chunked
prefill of its log. A wait that it was in goes on afterwards (log entry 23). One that has ended keeps its state, and an IN_TRANSIT one is its
hand-over's (R74). -/
def State.lowerTier (s : State) (slot : Nat) : State :=
  s.withSlot slot fun x =>
    if x.state.live = false then s
    else if x.noSubst then s.endWith slot .tierError
    else (s.freePages slot).modSat slot fun y =>
      { y with kvPos := 0, backfill := 0, recovered := true, state := if y.state = .admitted then .admitted else .prefill }

/-! ### Stop matching (R113, R115) -/

/-- The vocabulary index of a token. -/
def vocabIx (t : Token) : Nat := t.toNat % 2 ^ 24

/-- INPUT of a logged token (R544). -/
def isInput (t : Token) : Bool := bitAt t.toNat 24

/-- A token with INPUT set (R544). -/
def asInput (t : Token) : Token := t ||| 0x01000000#32

/-- The tail of a log equals a sequence, by vocabulary index. -/
def tailIs (log pat : List Token) : Bool :=
  decide (pat.length ≤ log.length) && (log.drop (log.length - pat.length)).map vocabIx == pat.map vocabIx

/-- Generated tokens of a log from a position up. -/
def generatedFrom (log : List Token) (n : Nat) : Nat := ((log.drop n).filter fun t => !isInput t).length

/-- One entry at the log's last token (R115): the entry afterwards, and whether it matched. Where one token completes both CLOSE and OPEN of a
SPAN entry, CLOSE is compared under the OPEN_AT from before, and on a match no new open is recorded (log entry 124). -/
def StopEntry.step (e : StopEntry) (limit : Nat) (log : List Token) : StopEntry × Bool :=
  match e.kind with
  | .seq => (e, tailIs log (e.close.take e.closeLen))
  | .span =>
    let open1 := match e.openAt with
      | some o => if limit ≠ 0 ∧ limit < generatedFrom log o then none else some o
      | none => none
    let hit := match open1 with
      | some o => tailIs log (e.close.take e.closeLen) && decide (o + e.closeLen ≤ log.length)
      | none => false
    if hit then ({ e with openAt := none }, true)
    else if tailIs log (e.opn.take e.openLen) then ({ e with openAt := some log.length }, false)
    else ({ e with openAt := open1 }, false)
  | _ => (e, false)

/-- The matchers at the log's last token (R115): the block afterwards, and the matching entry of lowest index. Only a generated token
completes a match. -/
def StopBlock.step (b : StopBlock) (log : List Token) : StopBlock × Option Nat :=
  match log.getLast? with
  | some t =>
    if isInput t then (b, none)
    else
      let l := (b.entries.take b.count).map fun e => e.step b.spanLimit log
      ({ b with entries := (l.map fun r => r.1) ++ b.entries.drop b.count }, l.findIdx? fun r => r.2)
  | none => (b, none)

/-- Entering a wait clears OPEN_AT and counts in WAITS (R112, R115). -/
def StopBlock.onWait (b : StopBlock) : StopBlock :=
  { b with waits := satAdd 0xFFFFFFFF b.waits 1, entries := b.entries.map fun e => { e with openAt := none } }

/-- ACTION of an entry. -/
def StopBlock.action (b : StopBlock) (i : Nat) : Nat := match b.entries[i]? with | some e => e.action | none => 0

/-- Replay the matching over a log (R98): the block, and the entry that began a wait at the log's end, where one did. -/
def StopBlock.replay (b : StopBlock) (session : Bool) (log : List Token) : StopBlock × Option Nat :=
  (List.range log.length).foldl (fun (a : StopBlock × Option Nat) k =>
    let r := a.1.step (log.take (k + 1))
    match r.2 with
    | some i => if session && r.1.action i == 2 then (r.1.onWait, some i) else (r.1, none)
    | none => (r.1, none)) (b, none)

/-- The block as SATCHEL_ADMIT sets it: WAITS 0 and no open (R112, R113). -/
def StopBlock.admitted (b : StopBlock) : StopBlock :=
  { b with waits := 0, entries := b.entries.map fun e => { e with openAt := none } }

/-- An entry passes R113 and R114 for a vocabulary. -/
def StopEntry.valid (e : StopEntry) (vocab : Nat) : Bool :=
  let plain (l : List Token) : Bool := l.all fun t => t.toNat < 2 ^ 24
  e.rsv == 0 && e.kind != .bad && decide (e.onExpiry ≤ 2) && (e.onExpiry == 0 || e.timeout != 0) &&
    (e.action != 2 || decide (1 ≤ e.waitKind ∧ e.waitKind ≤ 3)) &&
    (e.kind == .off ||
      (decide (1 ≤ e.action ∧ e.action ≤ 2) &&
        (e.kind != .span || (decide (1 ≤ e.openLen ∧ e.openLen ≤ 16) && plain (e.opn.take e.openLen))) &&
        decide (1 ≤ e.closeLen ∧ e.closeLen ≤ 16) && plain (e.close.take e.closeLen) &&
        decide (e.wakeLen ≤ 16) && (e.onExpiry != 1 || e.wakeLen != 0) &&
        (e.wake.take e.wakeLen).all fun t => decide (t.toNat < vocab)))

/-- The block passes R112 to R114, and agrees with STOP_LEN (R454). -/
def StopBlock.valid (b : StopBlock) (stopLen vocab : Nat) : Bool :=
  if stopLen = 0 then b.count == 0
  else decide (b.count ≤ 12) && stopLen == 64 + 256 * b.count && b.entries.length == b.count && b.rsv == 0 &&
    b.entries.all fun e => e.valid vocab

/-! ### Tenants (R234 to R236) -/

/-- A tenant's budget record, where TENANT_BUDGET named it. -/
def State.budget (s : State) (t : BitVec 16) : Option TenantRec :=
  match afind s.pln.tenants t.toNat with
  | some r => if r.metered then some r else none
  | none => none

/-- Whole tokens of a tenant's level; none where it is unmetered. -/
def State.tokens (s : State) (t : BitVec 16) : Option Int := (s.budget t).map fun r => r.level / 256

/-- Charge a tenant, saturating at -2^31 tokens (R235). -/
def State.chargeTokens (s : State) (t : BitVec 16) (n : Nat) : State :=
  { s with pln := { s.pln with tenants := amod s.pln.tenants t.toNat fun r =>
      if r.metered then { r with level := max (-(2 ^ 31 * 256 : Int)) (r.level - 256 * (n : Int)) } else r } }

end Sys2Proof.Machine
end

