-- ==== Sys2Proof/Machine/Custody.lean ====
section
/-!
DEFINITION. Machine/Custody.lean: the satchel commands, the buckle, the registrar's records, loss and recovery (chapter 03).
-/
namespace Sys2Proof.Machine

/-! ### The parking pool's accounts (R127) -/

/-- Units that a context in a state holds in a tier, reservations included. -/
def KvCtx.tierUnits (x : KvCtx) (st : SatState) (cold : Bool) : Nat :=
  (if cold && decide (st = .parkedCold) || !cold && decide (st = .parkedWarm) then x.units else 0) +
    (match x.park with
     | .parking c n => if c = cold then n else 0
     | .restoreWarm n _ => if cold then 0 else n
     | _ => 0)

/-- Units that a satchel holds in a tier. -/
def Sat.tierUnits (x : Sat) (cold : Bool) : Nat := x.toKvCtx.tierUnits (if x.state = .inTransit then x.prior else x.state) cold

/-- Units in use in a tier: of every satchel, or of one tenant's; a hand-over being taken in PARKED_WARM counts, and so do satellites' rows, which
park with their satchel (R145). -/
def State.poolUsed (s : State) (cold : Bool) (tenant : Option (BitVec 16)) : Nat :=
  let mine (x : KvCtx) : Bool := match tenant with | some t => x.tenant == t | none => true
  let own := ((avals s.sat.sats).filter fun x => mine x.toKvCtx).foldl (fun a x => a + x.tierUnits cold) 0
  let inc := (s.sat.incoming.filter fun i => mine i.image.toKvCtx).foldl (fun a i => a + i.image.tierUnits cold) 0
  let sub := ((avals s.sat.satellites).filter fun y => mine y.toKvCtx).foldl (fun a y => a + y.toKvCtx.tierUnits y.state cold) 0
  own + inc + sub

/-- The pool of a tier. -/
def State.poolLimit (s : State) (cold : Bool) : Nat := if cold then s.pln.coldUnits else s.pln.warmUnits

/-- A tenant's cap in a tier; 0xFFFF_FFFF without a record (R127). -/
def State.poolCap (s : State) (cold : Bool) (t : BitVec 16) : Nat :=
  match afind s.pln.tenants t.toNat with
  | some r => if cold then r.coldCap else r.warmCap
  | none => 0xFFFFFFFF

/-- A tenant's floor in a tier. -/
def State.poolFloor (s : State) (cold : Bool) (t : BitVec 16) : Nat :=
  match afind s.pln.tenants t.toNat with
  | some r => if cold then r.coldFloor else r.warmFloor
  | none => 0

/-- The reservation would take the tenant over its cap. -/
def State.overCap (s : State) (cold : Bool) (t : BitVec 16) (need : Nat) : Bool :=
  s.poolCap cold t != 0xFFFFFFFF && decide (s.poolCap cold t < s.poolUsed cold (some t) + need)

/-- Why a tier cannot take so many units for a tenant now (R125, R127). -/
def State.poolRefusal (s : State) (cold : Bool) (t : BitVec 16) (need : Nat) : Option Status :=
  if s.overCap cold t need then some .quotaExceeded
  else if s.poolLimit cold < s.poolUsed cold none + need then some .noResource
  else none

/-! ### Answers about a satchel (R453, R454) -/

/-- RESULT of SATCHEL_QUERY (R453). -/
def satResult (state epoch : Nat) (owner registrar : DeviceId) (logLen mirrorLen : Nat) : List Byte :=
  leBytes 1 state ++ zeros 3 ++ leBytes 4 epoch ++ leBytes 2 owner.toNat ++ leBytes 2 registrar.toNat ++ leBytes 4 logLen ++
    leBytes 4 mirrorLen

/-- The record that this device holds of a satchel as registrar. -/
def State.recOf (s : State) (id : SatchelId) : Option Record := afind s.sat.recs id.toNat

/-- Change a record. -/
def State.modRec (s : State) (id : SatchelId) (f : Record → Record) : State :=
  { s with sat := { s.sat with recs := amod s.sat.recs id.toNat f } }

/-- Answer SATCHEL_LOST with its RESULT (R454): from the record, or without one (R84). A device that is not the registrar knows neither
the record's epoch nor its mirror's length: they are free values (log entry 1). -/
def State.answerLost (s : State) (r : ReplyTo) (id : SatchelId) : State :=
  match s.recOf id with
  | some c => s.answer r .satchelLost true (satResult SatState.lost.code c.epoch 0xFFFF (s.registrarField id) 0 c.mirror.length)
  | none =>
    if s.registrar id = some s.me then
      s.answer r .satchelLost true (satResult SatState.free.code 0 0xFFFF (s.registrarField id) 0 0)
    else
      let e := s.free
      let l := e.2.free
      l.2.answer r .satchelLost true (satResult SatState.lost.code e.1 0xFFFF (s.registrarField id) 0 l.1)

/-- Answer a status, with RESULT where it is SATCHEL_LOST. -/
def State.doneFor (s : State) (r : ReplyTo) (id : SatchelId) (st : Status) : State :=
  if st = .satchelLost then s.answerLost r id else s.done r st

/-- A partition's packet names a satchel of another partition, or of another tenant (R452). -/
def Header.mayName (h : Header) (x : Sat) : Bool :=
  match h.origin.partition with
  | some p => x.part == p && x.tenant == h.tenant
  | none => true

/-- The rules before a satchel command's own (R68, R75): a generation of 0, a satchel that this device does not own, one that the packet may
not name; else the command's own rules for the satchel in its slot. -/
def State.withOwned (s : State) (h : Header) (r : ReplyTo) (id : SatchelId) (f : Nat → Sat → State) : State :=
  if satGen id = 0 then s.done r .badField
  else
    match s.findSlot id with
    | none =>
      match s.recOf id with
      | some c => if c.state = .lost then s.answerLost r id else s.done r .notOwner
      | none => s.done r .notOwner
    | some slot =>
      match s.satAt slot with
      | none => s.done r .notOwner
      | some x => if h.mayName x then f slot x else s.done r .protection

/-! ### SATCHEL_ADMIT (R68, R69, R74, R454) -/

/-- The first free local index from a place up, wrapping, whose generation is not spent (R68). An index is in use while this device owns a
satchel of it; that of a satchel which has moved away is free (log entry 124). -/
def State.freeIndex (s : State) : Option Nat :=
  let mine := ((avals s.sat.sats).filter fun x => satOrigin x.id == s.me).map fun x => satIndex x.id
  let spent := (s.sat.gens.filter fun g => decide (0x3FFFFFF ≤ g.2)).map fun g => g.1
  let used := mine ++ spent
  match leastFree used (used.length + 1) s.sat.nextIndex with
  | some i =>
    if i < 4194304 then some i
    else
      match leastFree used (used.length + 1) 0 with
      | some j => if j < 4194304 then some j else none
      | none => none
  | none => none

/-- Give an index's next generation out (R68). -/
def State.takeId (s : State) (index : Nat) : SatchelId × State :=
  let g := agetD s.sat.gens index 0 + 1
  (mkSatchelId s.me index g,
    { s with sat := { s.sat with gens := aput s.sat.gens index g, nextIndex := (index + 1) % 4194304 } })

/-- The next ID to try after a collision (R69): the generation advances; where that spends the slot, the next free index is taken. -/
def State.nextId (s : State) (index : Nat) : Option (SatchelId × State) :=
  if agetD s.sat.gens index 0 + 1 < 0x3FFFFFF then some (s.takeId index)
  else
    let s1 : State := { s with sat := { s.sat with gens := aput s.sat.gens index 0x3FFFFFF } }
    s1.freeIndex.map s1.takeId

/-- A sampler's fields lie in their ranges (R207). -/
def Sampler.valid (q : Sampler) : Bool :=
  decide (q.temp.toNat ≤ 0x7F800000 ∨ q.temp.toNat = 0x80000000) && decide (0 < q.topP.toNat ∧ q.topP.toNat ≤ 0x3F800000) &&
    decide (0 < q.repPen.toNat ∧ q.repPen.toNat ≤ 0x7C00) && decide (bits q.presPen.toNat 14 10 ≠ 31) &&
    decide (bits q.freqPen.toNat 14 10 ≠ 31) && decide (q.topK ≤ 1024) && q.rsv == 0

/-- The current version of an adapter in a partition (R245). -/
def Part.adapterNow (q : Part) (a : BitVec 16) : Option AdapterVer := q.adapters.find? fun v => v.id == a && v.current

/-- The partition holds an adapter version (R246). -/
def Part.hasAdapter (q : Part) (a : BitVec 16) (ver : BitVec 32) : Bool :=
  a == 0xFFFF#16 || q.adapters.any fun v => v.id == a && v.version == ver

/-- The inkwell entry that an admission may name (R154). -/
def State.inkFor (s : State) (p : Nat) (tenant : BitVec 16) (prefixId : BitVec 32) (prompt : List Token) : Option Ink :=
  s.kva.inks.find? fun k =>
    k.prefixId == prefixId && k.part.val == p && k.model == (s.part p).modelId &&
      (match k.scope with | some t => t == tenant | none => true) &&
      decide (k.length ≤ prompt.length) && (k.tokens.take k.length).map vocabIx == (prompt.take k.length).map vocabIx

/-- The partition is between the acceptance of a composition and its end (R224), or its command service is closed. -/
def State.closedPart (s : State) (p : Nat) : Bool := !s.ready p || (s.part p).composing.isSome || (s.sec.shutdown).isSome

/-- The checks of an admission, in the model's order (log entry 24). -/
def State.admitCheck (s : State) (h : Header) (a : AdmitParams) : Option Status :=
  let p := h.target
  let q := s.part p
  if s.closedPart p then some .partitionBusy
  else
    match q.image with
    | none => some .badField
    | some im =>
      if q.role = 2 ∨ q.sprint = true ∨ a.promptLen = 0 ∨ im.kv.maxContext < a.promptLen ∨ a.prompt.length ≠ a.promptLen ∨
          4095 < a.ring ∨ (!a.byRef && a.promptAddr != 0) = true ∨ a.stop.valid a.stopLen im.vocab = false ∨ a.sampler.valid = false ∨
          (a.sampler.maskEn ∧ q.maskSlots ≤ a.sampler.maskSlot) then
        some .badField
      else if (a.prompt.any fun t => decide (im.vocab ≤ t.toNat)) = true then some .badField
      else if a.adapter ≠ 0xFFFF ∧ (q.adapterNow a.adapter).isNone then some .badField
      else if a.prefixId ≠ 0xFFFFFFFF ∧ (s.inkFor p h.tenant a.prefixId a.prompt).isNone then some .badField
      else if (afind s.cmd.rings (ringKey (if h.origin.partition.isNone then 0 else partFn p) .stream a.ring)).isNone then some .badField
      else
        match s.budget h.tenant with
        | none => if s.flag Reg.plnCtrl 1 then some .protection
                  else if s.flag Reg.satCtrl 1 ∨ s.freeSlot.isNone then some .noResource else none
        | some b =>
          if b.level < 256 * (b.floor : Int) then some .budgetExhausted
          else if s.flag Reg.satCtrl 1 ∨ s.freeSlot.isNone then some .noResource else none

/-- The INKWELL rows of an admitted satchel (R154): each full but the last. -/
def inkRows (k : Ink) (pos : Nat) : List Row :=
  k.rows.mapIdx fun j h => { kind := .inkwell, fill := min pos (k.length - j * pos), loc := h }

/-- The satchel of an admission (R71, R74). A prefix that covers the whole prompt leaves its last position to prefill (log entry 25). -/
def State.admitted (s : State) (h : Header) (a : AdmitParams) (id : SatchelId) (r : ReplyTo) : Sat :=
  let p := h.part
  let q := s.part p.val
  let ink := if a.prefixId = 0xFFFFFFFF then none else s.inkFor p.val h.tenant a.prefixId a.prompt
  { id := id, tenant := h.tenant, part := p, cls := a.cls, state := .admitted, migrating := false, frozen := false,
    cancelLatched := false, recovered := false, autoFree := a.autoFree, session := a.session, autoRecover := a.autoRecover,
    noSubst := a.noSubst, epoch := 1, model := q.modelId, adapter := a.adapter,
    adapterVer := match q.adapterNow a.adapter with | some v => v.version | none => 0,
    log := a.prompt.map asInput, promptLen := a.promptLen, mirrorLen := 0, maxNew := a.maxNew,
    kvPos := match ink with | some k => min k.length (a.promptLen - 1) | none => 0,
    place := Place.none, sampler := a.sampler, stop := a.stop.admitted, waitKind := 0, waitMatcher := 15, waitExpiry := 0, waitStroke := 0,
    tokensIn := 0, tokensOut := 0, subst := 0, defers := 0, lastStroke := 0, admitStroke := s.strokeNow, cookie := a.cookie,
    onPf0 := h.origin.partition.isNone, ring := Fin.ofNat 4096 a.ring, lodge := 0xFFFF,
    rows := match ink with | some k => inkRows k q.positions | none => [],
    admitting := some r, attempts := 1, freeing := [], prior := .admitted, move := none, planned := none, prov := none, backfill := 0,
    unackedInks := [], mirrorHold := false, mirrorsOut := 0, mirrorSent := 0, reported := .free, registering := false, reregister := false,
    park := .idle,
    units := 0, staged := [], home := [], cold := [], migrated := 0, lodgedAt := 0, tried := 0, poolNoted := false, outRecs := [], swapOut := [],
    returns := [], vocab := match q.image with | some im => im.vocab | none => 0,
    maxContext := match q.image with | some im => im.kv.maxContext | none => 0 }

/-- A satellite is made or reserved at every other shard of a partition's instance (R70, R145). -/
def State.makeSatellites (s : State) (p : Nat) (id : SatchelId) (kvPos : Nat) (a : ShardAct) : State :=
  ((s.part p).satelliteDevs false).foldl (fun x d => x.emit (.shardPlan d s.strokeNow [shardDo id kvPos a])) s

/-- SATCHEL_ADMIT (R454, R68, R74, R145): checked, given an ID, places in T1 and satellites, and registered; the answer follows REGISTER_ACK. -/
def execSatchelAdmit (h : Header) (a : AdmitParams) (shardsOk : Bool) (s : State) : Host.Outcome State Fault Refusal :=
  .next (s.serve { op := 0x0300, replies := 1, vf := true, tenant := true,
                   params := 72 + a.stopLen + (if a.byRef then 0 else 4 * a.promptLen), rsv := a.rsv,
                   addrs := if a.promptAddr = 0 then 0 else 1, localOnly := false } h false fun r x =>
    match x.admitCheck h a with
    | some st => x.done r st
    | none =>
      match x.freeSlot, x.freeIndex with
      | some slot, some index =>
        let t := x.takeId index
        let sat := t.2.admitted h a t.1 r
        match t.2.place slot Place.none sat.log.length sat.rows.length (x.part h.part.val).stateBytes with
        | none => x.done r .noResource
        | some (pl, s0) =>
          if !shardsOk && !((x.part h.part.val).satelliteDevs false).isEmpty then x.done r .noResource
          else
            let s1 : State := { s0 with sat := { s0.sat with sats := aput s0.sat.sats slot { sat with place := pl } } }
            let s2 := s1.makeSatellites h.part.val sat.id sat.kvPos (.create sat.tenant sat.cls sat.adapter sat.adapterVer a.prefixId)
            ((sat.rowsOf .inkwell).foldl (fun (y : State) w => y.inkHold w.loc) s2).sendRegister slot
      | _, _ => x.done r .noResource)

/-! ### SATCHEL_APPEND (R118, R117) -/

/-- The token log of a satchel can take so many more tokens (R117, R118): with room in LOG_CAP, or with a larger place in T1. -/
def State.growLog (s : State) (slot n : Nat) : Option State :=
  match s.satAt slot with
  | none => none
  | some x => (s.placeLog slot x.place (x.log.length + n)).map fun r => r.2.modSat slot fun y => { y with place := r.1 }

/-- A parking under way is abandoned (R126): the entries stand as they did, and the partial blocks of the new tier are freed. -/
def State.abandonPark (s : State) (c : Nat) : State :=
  s.withCtx c fun x =>
    match x.park with
    | .parking cold _ =>
      let s1 := if cold ∧ x.state = .parkedWarm then (s.t2Free 992 x.cold).modCtx c fun y => { y with cold := [] } else s.freeBlocks c
      s1.modCtx c fun y =>
        { y with park := .idle, home := [], units := if x.state = .parkedWarm then x.units else 0,
                 rows := y.home.foldl (fun (l : List Row) e => putRow l e.1 e.2) y.rows }
    | _ => s

/-- The hand-over that revives a satchel elsewhere (R132). -/
def Move.revive (d : DevPart) : Move :=
  { dev := d.dev, part := d.part, full := true, reply := none, frozenAt := none, offered := false, declined := none, abortSent := false,
    purpose := 2 }

/-- Take appended tokens (R118, R126, R130, R132): the log grows, the wait ends, the registrar is sent the tokens, and a parked satchel is
revived: here, or on the device named. A SATCHEL_MOVE that was accepted before goes on, and its commit revives the satchel where it names
(R132; log entry 125). -/
def State.takeAppend (s : State) (slot : Nat) (tokens : List Token) (revive : Option DevPart) : State :=
  s.withSlot slot fun x =>
    let hot := decide (x.state = .wait)
    let s1 := s.modSat slot fun y =>
      { y with log := y.log ++ tokens.map asInput, waitKind := 0, waitMatcher := 15, waitExpiry := 0, poolNoted := false,
               state := if hot then .prefill else y.state,
               park := match y.park with
                 | .cachePass _ => .idle
                 | .cacheWait _ => .idle
                 | .reviving n _ => .reviving n false
                 | .reviveWait _ => .reviveWait false
                 | .restoreWarm n _ => if revive.isSome then .restoreWarm n none else .idle
                 | w => w }
    let s2 := (s1.abandonPark (ctxOfSlot slot)).sendMirror slot
    if hot then s2
    else
      match revive with
      | some d => s2.modSat slot fun y =>
          { y with move := match y.move with
              | some v => if v.reply.isSome then some { v with purpose := 2 } else some (Move.revive d)
              | none => some (Move.revive d) }
      | none =>
        match x.park with
        | .reviving _ _ => s2
        | _ => s2.beginRevive (ctxOfSlot slot) false

/-- The answer of R75 to a command that the state has no row for. -/
def Sat.refusal (x : Sat) : Status :=
  if x.state = .inTransit then .inTransit else if x.state.ended then .alreadyDone else .badField

/-- REVIVE_TO of an append, or the partition's default (R132). -/
def Part.reviveTarget (q : Part) (dev : DeviceId) (part : Nat) : Option DevPart :=
  if dev = 0xFFFF then q.parkCfg.revive else some ⟨dev, Fin.ofNat 16 part⟩

/-- The checks of R118 and R132 for a satchel, by its model's vocabulary and context length, which come with it to a partition that holds no model
(log entry 125). -/
def State.appendCheck (s : State) (x : Sat) (count : Nat) (dev : DeviceId) (rpart : Nat) (tokens : List Token) : Option Status :=
  let q := s.part x.part.val
  if !([SatState.wait, .parkedWarm, .parkedCold].contains x.state) then some x.refusal
  else if x.waitKind = 0 then some .badField
  else if (tokens.any fun t => decide (2 ^ 24 ≤ t.toNat ∨ x.vocab ≤ t.toNat)) = true then some .badField
  else if q.role = 2 ∧ (q.reviveTarget dev rpart).isNone then some .badField
  else if x.maxContext < x.log.length + count then some .quotaExceeded
  else none

/-- SATCHEL_APPEND (R118). -/
def execSatchelAppend (h : Header) (id : SatchelId) (count : Nat) (reviveDev : DeviceId) (revivePart : Nat) (byRef : Bool)
    (tokens : List Token) (rsv : Nat) (s : State) : Host.Outcome State Fault Refusal :=
  .next (s.serve { op := 0x0301, replies := 1, vf := true, tenant := true, params := 24 + (if byRef then 0 else 4 * count), rsv := rsv,
                   addrs := b2n byRef, localOnly := false } h false fun r x =>
    if count = 0 ∨ 262144 < count ∨ tokens.length ≠ count ∨ 15 < revivePart ∨ (reviveDev ≠ 0xFFFF ∧ 2 ^ 14 ≤ reviveDev.toNat) then
      x.done r .badField
    else x.withOwned h r id fun slot y =>
      match x.appendCheck y count reviveDev revivePart tokens with
      | some st => x.done r st
      | none =>
        let q := x.part y.part.val
        match x.growLog slot count with
        | none => x.done r .noResource
        | some x1 => (x1.takeAppend slot tokens (if q.role = 2 then q.reviveTarget reviveDev revivePart else none)).answer r .accepted true [])

/-! ### SATCHEL_CANCEL, SATCHEL_FREE, SATCHEL_MOVE -/

/-- SATCHEL_CANCEL (R87, R88). -/
def execSatchelCancel (h : Header) (id : SatchelId) (rsv : Nat) (s : State) : Host.Outcome State Fault Refusal :=
  .next (s.serve { op := 0x0302, replies := 1, vf := true, tenant := true, params := 8, rsv := rsv, addrs := 0, localOnly := false } h false
    fun r x => x.withOwned h r id fun slot y =>
      if y.state = .inTransit then (x.modSat slot fun z => { z with cancelLatched := true }).answer r .accepted true []
      else if y.state.ended then x.done r .alreadyDone
      else (x.done r .ok).applyCancel slot)

/-- SATCHEL_FREE of a LOST satchel at its registrar (R74): record and mirror are deleted. -/
def State.freeLost (s : State) (h : Header) (r : ReplyTo) (c : Record) : State :=
  if h.origin.partition.isSome ∧ c.tenant ≠ h.tenant then s.done r .protection
  else
    let s1 : State := { s with sat := { s.sat with recs := adel s.sat.recs c.id.toNat } }
    let s2 := match c.recoverReply with
      | some w => s1.answerLost w c.id
      | none => s1
    s2.done r .ok

/-- SATCHEL_FREE (R74, R75): of an ended satchel, once its final record is published; of a live one, a cancel followed by a free; of a LOST
one, at its registrar. -/
def execSatchelFree (h : Header) (id : SatchelId) (s : State) : Host.Outcome State Fault Refusal :=
  .next (s.serve { op := 0x0304, replies := 1, vf := true, tenant := true, params := 8, rsv := 0, addrs := 0, localOnly := false } h false
    fun r x =>
      let lost : Option Record := if (x.findSlot id).isSome then none else (x.recOf id).filter fun c => c.state == .lost
      match lost with
      | some c => if satGen id = 0 then x.done r .badField else x.freeLost h r c
      | none => x.withOwned h r id fun slot y =>
        if y.state = .inTransit then x.done r .inTransit
        else
          let x1 := x.modSat slot fun z => { z with freeing := z.freeing ++ [r] }
          if y.state.ended then x1.publishInk slot else x1.applyCancel slot)

/-- A RING row binds a satchel to its harness (R147). -/
def State.ringBound (s : State) (x : Sat) (dev : DeviceId) : Bool := x.has .ring && harness dev != harness s.me

/-- The current generation of a tenant's transit key (R515). -/
def State.transitGen (s : State) (tenant : BitVec 16) : Option (Nat × BitVec 256) := (agetD s.sec.keys tenant.toNat []).getLast?

/-- Blocks of a tenant may go to a device (R515): within the harness in the clear, to another under a transit key. -/
def State.mayTransit (s : State) (tenant : BitVec 16) (dev : DeviceId) : Bool :=
  harness dev == harness s.me || (s.transitGen tenant).isSome

/-- The transit header (R515). -/
def transitHeader (sender : DeviceId) (gen : Nat) (nonce : BitVec 128) (ext : BitVec 64) : List Byte :=
  leBytes 2 sender.toNat ++ leBytes 2 gen ++ zeros 4 ++ leBytes 16 nonce.toNat ++ leBytes 8 ext.toNat

/-- The key under which blocks travel (R515), by the transit key and the header that comes with them. -/
def transitKey (key : BitVec 256) (header : List Byte) : List Byte :=
  extentKey (leBytes 32 key.toNat ++ header.take 2 ++ (header.drop 8).take 24)

/-- The transit key that a header names, where this device holds its generation (R515). -/
def State.heldTransit (s : State) (tenant : BitVec 16) (header : List Byte) : Option (List Byte) :=
  ((agetD s.sec.keys tenant.toNat []).find? fun g => g.1 == fieldAt header 2 2).map fun g => transitKey g.2 header

/-- The forms of what a context's blocks are, parked or not. -/
def State.travelForms (s : State) (c : Nat) (x : KvCtx) : List (List Byte) :=
  if x.state = .parkedWarm then s.formsOf c
  else (List.range (s.ctxBlocks x)).map fun b => (encodeBlock (s.ctxBlockWidth x b) (s.ctxRaw x b)).1

/-- What a receiver in another harness reads of a satchel's blocks (R124, R515): the transit header, the index, and the encrypted units. -/
def State.sendTransit (s : State) (c : Nat) (x : KvCtx) (dev : DeviceId) : State × Option (List Byte) :=
  if harness dev = harness s.me then (s, none)
  else
    match s.transitGen x.tenant with
    | none => (s, none)
    | some g =>
      let h := transitHeader s.me g.1 s.sec.bootNonce s.sec.extNonce
      let forms := s.travelForms c x
      (s.drawNonce.emit (.transit dev x.id h (indexBytes (forms.map fun f => storedLen f true) true)
        (forms.zipIdx.map fun f => sealBlock (transitKey g.2 h) x.id f.2 f.1)), some h)

/-- SATCHEL_MOVE (R75, R89, R94): accepted and due at the next boundary. -/
def execSatchelMove (h : Header) (id : SatchelId) (dev : DeviceId) (dpart : Nat) (full : Bool) (rsv : Nat) (s : State) :
    Host.Outcome State Fault Refusal :=
  .next (s.serve { op := 0x0303, replies := 2, vf := true, tenant := true, params := 16, rsv := rsv, addrs := 0, localOnly := false } h false
    fun r x => if 15 < dpart ∨ 2 ^ 14 ≤ dev.toNat then x.done r .badField else x.withOwned h r id fun slot y =>
      if y.state = .inTransit then x.done r .inTransit
      else if y.state.ended then x.done r .alreadyDone
      else if dev = x.me ∧ dpart = y.part.val then x.done r .alreadyDone
      else if (match y.move with | some v => v.reply.isSome | none => false) then x.done r .inTransit
      else if 0xFFFFFFFE ≤ y.epoch then x.done r .noResource
      else if x.ringBound y dev then x.done r .badField
      else if !x.mayTransit y.tenant dev then x.done r .protection
      else
        let a := x.accepted r
        a.1.modSat slot fun z =>
          { z with move := some { dev := dev, part := Fin.ofNat 16 dpart, full := full || harness dev != harness x.me, reply := some a.2,
                                  frozenAt := none, offered := false, declined := none, abortSent := false, purpose := 0 } })

/-! ### The owner's side of a hand-over (R89, R90, R93) -/

/-- The OFFER of a frozen satchel (R89), with its bytes in total: descriptor, stop-matcher block, token log, and what a full move adds. It becomes
IN_TRANSIT; OFFER goes to the receiver, OFFER_NOTE to the registrar. The token log is not the payload's: the receiver reads it. -/
def State.sendOffer (s : State) (slot : Nat) : State :=
  s.withSlot slot fun x =>
    match x.move with
    | none => s
    | some v =>
      let q := s.part x.part.val
      let blocks := if x.state = .parkedWarm then ((s.formsOf slot).map fun f => storedLen f false).sum + (agetD s.kva.indexes slot []).length
        else s.rawBytes x.toKvCtx
      let m := s.cmsg x.id x.epoch v.dev .ok x.state.code x.log.length
        (256 + 64 + 256 * x.stop.count + 4 * x.log.length + (if v.full then blocks else 0))
      let t := s.sendTransit (ctxOfSlot slot) x.toKvCtx v.dev
      let s1 := t.1.sendC v.dev .offer m
        (.desc { x.image with part := v.part } v.full (q.image.map fun im => { kv := im.kv, shards := q.shardList }) t.2)
      let s2 := s1.toRegistrar .offerNote (s.cmsg x.id x.epoch v.dev .ok x.state.code x.log.length 0) .empty
      s2.modSat slot fun y => { y with state := .inTransit, prior := x.state, move := some { v with offered := true } }

/-- The rows that stay at the sender of a hand-over that is not full (R89, R93). -/
def Sat.lodgedRows (x : Sat) : List Row := x.rows.filter fun r => r.kind == .here || r.kind == .inkwell

/-- The cancel that was latched goes on to the new owner (R88): a SATCHEL_CANCEL that names the satchel, for its partition there. -/
def State.forwardCancel (s : State) (x : Sat) (dev : DeviceId) (part : Fin 16) : State :=
  if x.cancelLatched then s.emit (.remoteCommand dev x.cls part 0 0 0 0x0302 0 x.tenant (leBytes 8 x.id.toNat)) else s

/-- The hand-over committed (R89, R90): the sender frees its copy, but for lodged pages; its other shards keep theirs in the same way (R146). -/
def State.moveCommitted (s : State) (slot : Nat) : State :=
  s.withSlot slot fun x =>
    match x.move with
    | none => s
    | some v =>
      let s1 := match v.reply with
        | some r => s.answer r .ok true (leBytes 2 v.dev.toNat ++ leBytes 4 (x.epoch + 1))
        | none => s
      let s2 := s1.forwardCancel x v.dev v.part
      let keep := if v.full then [] else x.lodgedRows
      let s3 : State := if keep.isEmpty then s2 else
        { s2 with sat := { s2.sat with
          lodgings := s2.sat.lodgings ++ [{ id := x.id, tenant := x.tenant, owner := v.dev, part := x.part, rows := keep, deadAt := none }] } }
      let s4 := (if v.full then s3 else s3.toShards x.part.val false (shardDo x.id x.kvPos (.lodgeFor v.dev))).modSat slot fun y =>
        { y with rows := y.rows.filter fun r => !keep.contains r }
      let s5 := (s4.removeSat slot).doneAll x.freeing .notOwner
      if v.purpose = 3 then
        { s5 with sec := { s5.sec with shutdown := s5.sec.shutdown.map fun d => { d with moved := d.moved + 1 } } }
      else s5

/-- An ABORTED answer thaws the satchel (R90): its prior state, the final reply, the latched cancel. -/
def State.thaw (s : State) (slot : Nat) : State :=
  s.withSlot slot fun x =>
    match x.move with
    | none => s
    | some v =>
      let s1 := s.modSat slot fun y =>
        { y with state := y.prior, frozen := false, move := none, cancelLatched := false, tried := if v.purpose = 3 then y.tried + 1 else y.tried }
      let s2 := match v.reply with
        | some r => s1.doneFor r x.id (v.declined.getD .tierError)
        | none => s1
      let s3 := if v.purpose = 2 then
          s2.event (partFn x.part.val) 4 .ok x.part.val (leBytes 8 x.id.toNat ++ leBytes 2 v.dev.toNat ++ leBytes 1 v.part.val)
        else s2
      if x.cancelLatched then s3.applyCancel slot else s3

/-- This device holds the satchel no longer (R84, R90): its copy is freed; what waits for it is answered. -/
def State.loseCopy (s : State) (slot : Nat) (st : Status) : State :=
  s.withSlot slot fun x =>
    let s1 := match x.move with
      | some v => match v.reply with
        | some r => s.doneFor r x.id st
        | none => s
      | none => s
    x.freeing.foldl (fun (a : State) r => a.doneFor r x.id st) (s1.removeSat slot)

/-- SURRENDER with a reason (R92, R95): the registrar recovers the satchel, and this copy is freed. -/
def State.surrenderFor (s : State) (slot : Nat) (reason : Status) : State :=
  s.withSlot slot fun x => (s.toRegistrar .surrender (s.cmsg x.id x.epoch 0xFFFF reason 0 0 0) .empty).loseCopy slot reason

/-- SURRENDER of a shut-down (R519): its status is PARTITION_BUSY. -/
def State.surrender (s : State) (slot : Nat) : State :=
  s.withSlot slot fun _ =>
    let s1 := s.surrenderFor slot .partitionBusy
    { s1 with sec := { s1.sec with shutdown := s1.sec.shutdown.map fun d => { d with surrendered := d.surrendered + 1 } } }

/-- A shut-down has passed its deadline: what is still owned is surrendered (R519). -/
def State.surrendering (s : State) : Bool := match s.sec.shutdown with | some d => d.deadlinePassed | none => false

/-- A satchel that a shut-down surrenders now (R519): live, and not in a buckle. -/
def State.surrenderLive (s : State) (slot : Nat) : State :=
  s.withSlot slot fun x => if s.surrendering && x.state.live && x.admitting.isNone then s.surrender slot else s

/-- ABORT_REQ (R90). -/
def State.sendAbort (s : State) (slot : Nat) : State :=
  s.withSlot slot fun x =>
    let dev : DeviceId := match x.move with | some v => v.dev | none => 0xFFFF#16
    (s.toRegistrar .abortReq (s.cmsg x.id x.epoch dev .ok SatState.inTransit.code x.log.length 0) .empty).modSat slot fun y =>
      { y with move := y.move.map fun v => { v with abortSent := true } }

/-! ### Taking custody messages (R73, R78, R91) -/

/-- The checks that every custody message passes at a device: the engine serves, the reserved bits are zero, STATE is not reserved. -/
def State.takeC (s : State) (ty : CType) (m : CMsg) (f : State) : State :=
  if !s.sat.ready then s
  else if m.rsv ≠ 0 then s.count Reg.satCntStale 1
  else if 11 ≤ m.state then s.post (fault 0x3C1 0x802 1 ty.code)
  else f

/-- R78: a message at a device that is not the registrar: forwarded once, then returned to its sender. -/
def State.redirect (s : State) (ty : CType) (m : CMsg) (p : CPayload) : State :=
  if m.forwarded then s.sendC m.sender ty { m with status := Status.notOwner.code } p
  else s.toRegistrar ty { m with forwarded := true } p

/-- A request of this device that came back under R78: it is sent again after the next boundary. -/
def State.returned (s : State) (m : CMsg) : Bool := m.sender == s.me && m.forwarded && m.status == Status.notOwner.code

/-- The previous holder of a satchel's record, as a member that has joined sees it (R81): the registrar without this member. -/
def State.prevHolder (s : State) (id : SatchelId) : Option DeviceId :=
  let h := harness (satOrigin id)
  if h = harness s.me ∧ s.sat.joined = true then
    (registrarMember id ((List.range 32).foldl (fun a m => a + (if m ≠ member s.me ∧ bitAt (s.liveMask h) m then 2 ^ m else 0)) 0)).map
      fun m => BitVec.ofNat 16 (h * 32 + m)
  else none

/-- A message to the registrar (R78): served where this device holds the record or is the registrar under its mask. A member whose records are
still on their way to it hands a message about one that it does not hold to the previous holder; that is no forward (R81). -/
def State.atRegistrar (s : State) (ty : CType) (m : CMsg) (p : CPayload) (f : State) : State :=
  s.takeC ty m
    (if s.returned m then
       { s with sat := { s.sat with resend := s.sat.resend ++ [(ty, { m with forwarded := false, status := 0 }, p)] } }
     else if (s.recOf m.id).isSome then f
     else if s.registrar m.id = some s.me then
       (match s.prevHolder m.id with
        | some d => if m.forwarded then f else s.sendC d ty m p
        | none => f)
     else s.redirect ty m p)

/-- CUSTODY_MESSAGE_RETURNED (R78, R92): a message at a device that is not its registrar, a request that came back, or a reserved type. -/
def execCustodyMessageReturned (ty : CType) (m : CMsg) (p : CPayload) (s : State) : Host.Outcome State Fault Refusal :=
  .next (match ty with
    | .reserved _ => s.count Reg.satCntStale 1
    | _ => s.atRegistrar ty m p s)

/-! ### Records, mirrors, loss (R79, R80, R84, R85, R95, R96) -/

/-- Chunks of 4 KiB that a mirror takes (R80): the stop-matcher block's, and one per 1,024 tokens. -/
def mirrorChunks (tokens : Nat) : Nat := 1 + ceilDiv tokens 1024

/-- Mirror chunks in use. -/
def SatSt.chunksUsed (t : SatSt) : Nat := (avals t.recs).foldl (fun a c => a + mirrorChunks c.mirror.length) 0

/-- The chunks that hold a mirror of so many tokens (R80): those that it has, and the lowest free ones (log entry 124). -/
def SatSt.takeChunks (t : SatSt) (held : List Nat) (tokens : Nat) : List Nat :=
  let used := (avals t.recs).flatMap fun c => c.chunks
  let free := (List.range (used.length + mirrorChunks tokens)).filter fun k => !used.contains k
  held.take (mirrorChunks tokens) ++ free.take (mirrorChunks tokens - held.length)

/-- The store's fixed part: 32 bytes of record and 256 bytes of recovery image for each of 4,194,304 records (R80). -/
def storeFixed : Nat := 4194304 * (32 + 256)

/-- The custody engine's carve-out: its place in T1 (R80, R100). -/
def State.storeBase (s : State) : Nat := match s.memory.carves.find? fun c => c.owner == 1 with | some c => c.base | none => 0

/-- MIRROR_ADDR: the registrar-local address of a record's first mirror chunk (R80). -/
def State.mirrorAddr (s : State) (c : Record) : Nat := s.storeBase + storeFixed + 4096 * c.chunks.headD 0

/-- RFLAGS (R80). -/
def Record.flags (c : Record) : Nat := 2 * b2n c.autoRecover + b2n c.noSubst

/-- A custody record's 32 bytes (R80). -/
def State.recordBytes (s : State) (c : Record) : List Byte :=
  leBytes 8 c.id.toNat ++ leBytes 4 c.epoch ++ leBytes 2 c.owner.toNat ++ leBytes 2 c.pending.toNat ++ leBytes 1 c.state.code ++
    leBytes 1 c.flags ++ leBytes 2 c.tenant.toNat ++ leBytes 4 c.mirror.length ++ leBytes 8 (s.mirrorAddr c)

/-- Free mirror chunks (R105). -/
def State.chunksFree (s : State) : Nat := s.fld Reg.satMirrorCfg 23 0 - s.sat.chunksUsed

/-- The SATCHEL_LOST event of R96. -/
def State.lostEvent (s : State) (c : Record) : State :=
  s.event 0 2 .satchelLost 0 (leBytes 8 c.id.toNat ++ leBytes 2 c.tenant.toNat ++ zeros 2 ++ leBytes 4 c.mirror.length)

/-- Look for the next candidate among recovery placement entries (R97, R108). An entry that is not VALID is not read further; a bad DEVICE is
tested, and noted, before the model is compared (log entry 124). -/
def State.rcvScan (s : State) (model : BitVec 16) (start : Nat) : List Nat → State × Option (Nat × DevPart)
  | [] => (s, none)
  | k :: t =>
    let i := (start + k) % 64
    let lo := s.reg (Reg.satRcvLo i)
    let dev : DeviceId := BitVec.ofNat 16 (lo % 65536)
    if !bitAt lo 31 then s.rcvScan model start t
    else if 2 ^ 14 ≤ dev.toNat then (s.note 0x3C1 0x804 i).rcvScan model start t
    else if s.fld (Reg.satRcvHi i) 15 0 ≠ model.toNat ∨ bitAt (s.liveMask (harness dev)) (member dev) = false then s.rcvScan model start t
    else (s, some (i + 1, ⟨dev, Fin.ofNat 16 (lo / 65536)⟩))

/-- Send RECOVER_ASSIGN to a candidate (R97). ARG names its partition, which the fabric header carries. -/
def State.assign (s : State) (c : Record) (k : Nat × DevPart) : State :=
  let m := s.cmsg c.id (c.epoch + 1) k.2.dev .ok c.prior.code c.mirror.length k.2.part.val
  let s1 := s.sendC k.2.dev .recoverAssign m (.image c.image c.mirror)
  let s2 := s1.modRec c.id fun y => { y with candidate := some k }
  if k.1 = 0 then s2 else { s2 with sat := { s2.sat with lastEntry := k.1 - 1 } }

/-- Every candidate refused (R97): the satchel stays LOST. -/
def State.recoverFailed (s : State) (c : Record) : State :=
  let s1 := s.modRec c.id fun y => { y with candidate := none, recoverReply := none }
  match c.recoverReply with
  | some r => s1.done r .noResource
  | none => s1

/-- Try the candidates from a place in the order on (R97). -/
def State.tryFrom (s : State) (c : Record) (from_ : Nat) : State :=
  match s.rcvScan c.image.model c.firstEntry ((List.range 64).drop from_) with
  | (s1, some k) => s1.assign c k
  | (s1, none) => s1.recoverFailed c

/-- Begin a recovery (R97): of the device named, or from the placement table after the entry used last. A recovery that would take the epoch
above 0xFFFF_FFFE is not begun. -/
def State.startRecovery (s : State) (id : SatchelId) (named : Option DevPart) (reply : Option ReplyTo) : State :=
  match s.recOf id with
  | none => s
  | some c0 =>
    let c := { c0 with recoverReply := reply, firstEntry := (s.sat.lastEntry + 1) % 64 }
    let s1 := s.modRec id fun _ => c
    if 0xFFFFFFFE < c.epoch + 1 then s1.recoverFailed c
    else
      match named with
      | some d => s1.assign c (0, d)
      | none => s1.tryFrom c 0

/-- The candidate refused, or counts as refusing (R97). -/
def State.candidateRefused (s : State) (c : Record) : State :=
  match c.candidate with
  | none => s
  | some (0, _) => s.recoverFailed c
  | some (k + 1, _) => s.tryFrom c ((k + 64 - c.firstEntry) % 64 + 1)

/-- Declare a satchel lost (R96); AUTO_RECOVER starts its recovery (R97). -/
def State.declareLost (s : State) (id : SatchelId) : State :=
  match s.recOf id with
  | none => s
  | some c =>
    if c.state = .lost then s
    else
      let c1 : Record :=
        { c with state := .lost, epoch := c.epoch + 1, owner := 0xFFFF, pending := 0xFFFF, commits := [], commitUndelivered := false,
                 probing := false, ownerDead := false, prior := if c.state = .inTransit then c.prior else c.state }
      let s1 := ((s.modRec id fun _ => c1).count Reg.satCntLost 1).lostEvent c1
      if c1.autoRecover then s1.startRecovery id none none else s1

/-- The registrar probes the owner that the record names (R95), unless a probe of it is under way. -/
def State.probeOwner (s : State) (c : Record) : State :=
  if c.probing then s
  else (s.modRec c.id fun y => { y with probing := true }).sendC c.owner .probe
    (s.cmsg c.id c.epoch c.owner .ok c.state.code c.mirror.length 0) .empty

/-- A SATCHEL_QUERY answered from the record (R99). It changes nothing of a hand-over; otherwise the owner is probed, whose answer, or whose
silence, settles the record (log entry 30). -/
def State.queryAnswer (s : State) (r : ReplyTo) (id : SatchelId) : State :=
  match s.recOf id with
  | none => s.answerLost r id
  | some c =>
    if c.state = .lost then s.answerLost r id
    else
      let s1 := s.answer r .ok true (satResult c.state.code c.epoch c.owner (s.registrarField id) c.mirror.length c.mirror.length)
      if c.state = .inTransit then s1 else s1.probeOwner c

/-- A query or a recovery that was held for a registration (R84). -/
def State.heldAnswer (s : State) (r : ReplyTo) (id : SatchelId) : State :=
  if r.opcode = 0x0306 then (if (s.recOf id).isSome then s.done r .alreadyDone else s.answerLost r id) else s.queryAnswer r id

/-- A re-registration window is open for a satchel (R84): its record was inherited from a member that died. -/
def State.inWindow (s : State) (id : SatchelId) : Bool :=
  harness (satOrigin id) == harness s.me &&
    s.sat.rereg.any fun w => registrarMember id (s.liveMask (harness s.me) ||| 2 ^ w.1) == some w.1

/-- CLAIM at the registrar (R89, R84). -/
def State.claimed (s : State) (m : CMsg) : State :=
  if s.blt.l3 then s
  else
  match s.recOf m.id with
  | none =>
    if s.inWindow m.id = false then s.sendC m.sender .commit (s.cmsg m.id m.epoch m.sender .notOwner 0 0 0) .empty
    else { s with sat := { s.sat with heldClaims := s.sat.heldClaims ++ [m] } }
  | some c =>
    if c.state = .inTransit ∧ c.epoch + 1 = m.epoch ∧ c.pending = m.sender then
      let c1 := { c with owner := m.sender, epoch := m.epoch, state := c.prior, pending := 0xFFFF, commits := (m.sender, m.epoch) :: c.commits,
                         lastMirror := s.strokeNow }
      ((s.modRec m.id fun _ => c1).count Reg.satCntCommit 1).sendC m.sender .commit
        (s.cmsg m.id m.epoch m.sender .ok c.prior.code c.mirror.length 0) .empty
    else s.sendC m.sender .commit (s.cmsg m.id m.epoch m.sender .notOwner 0 0 0) .empty

/-- What waited for a record is served (R84). -/
def State.releaseHeld (s : State) (id : SatchelId) : State :=
  let q := s.sat.heldQueries.filter fun w => w.1 == id
  let c := s.sat.heldClaims.filter fun m => m.id == id
  let s1 : State := { s with sat := { s.sat with
    heldQueries := s.sat.heldQueries.filter fun w => w.1 != id,
    heldClaims := s.sat.heldClaims.filter fun m => m.id != id } }
  c.foldl (fun a m => a.claimed m) (q.foldl (fun (a : State) w => a.heldAnswer w.2 id) s1)

/-- The record of a REGISTER (R80, R83, R84). -/
def State.recordOf (s : State) (m : CMsg) (image : Sat) (log : List Token) : Record :=
  let st := if m.state = 0 then SatState.admitted else (SatState.ofCode m.state).getD .admitted
  { id := m.id, epoch := m.epoch, owner := m.sender, pending := if st = .inTransit then m.peer else 0xFFFF, state := st,
    autoRecover := image.autoRecover, noSubst := image.noSubst, tenant := image.tenant, mirror := log,
    chunks := s.sat.takeChunks (match s.recOf m.id with | some c => c.chunks | none => []) log.length, image := image,
    prior := if st = .inTransit then image.prior else st, sender := m.sender, commits := [], commitUndelivered := false,
    probing := false, lastMirror := s.strokeNow, ownerDead := false, candidate := none, recoverReply := none, firstEntry := 0,
    movingTo := none, sent := false }

/-- A message that answers another one, with its tenant and partition (R91). -/
def State.reply (s : State) (m : CMsg) (peer : DeviceId) (st : Status) (state logLen arg : Nat) : CMsg :=
  { s.cmsg m.id m.epoch peer st state logLen arg with tenant := m.tenant, part := m.part }

/-- Answer REGISTER (R84, R92): the record's owner in PEER. -/
def State.registerAnswer (s : State) (m : CMsg) (st : Status) (owner : DeviceId) (len : Nat) : State :=
  s.sendC m.sender .registerAck (s.reply m owner st 0 len 0) .empty

/-- A registration disputes the record and prevails (R84): a higher epoch, the same owner's refresh, or IN_TRANSIT over another state. -/
def Record.yields (c : Record) (m : CMsg) : Bool :=
  decide (c.epoch < m.epoch) ||
    (c.epoch == m.epoch && c.state != .lost && (c.owner == m.sender || (m.state == 7 && c.state != .inTransit)))

/-- REGISTER at the registrar (R69, R79, R84). An admission's ID is refused while any record carries it, a LOST or an ended one too (log entry
124). -/
def execRegister (m : CMsg) (image : Sat) (log : List Token) (s : State) : Host.Outcome State Fault Refusal :=
  .next (s.atRegistrar .register m (.image image log)
    (let new := s.recordOf m image log
     match s.recOf m.id with
     | none =>
       if 4194304 ≤ s.sat.recs.length ∨ s.chunksFree < mirrorChunks log.length then
         s.registerAnswer m .noResource 0xFFFF 0
       else
         (({ s with sat := { s.sat with recs := aput s.sat.recs m.id.toNat new } }).registerAnswer m .ok m.sender log.length).releaseHeld m.id
     | some c =>
       if m.state = 0 then s.registerAnswer m .notOwner c.owner c.mirror.length
       else if c.yields m then
         if s.chunksFree + mirrorChunks c.mirror.length < mirrorChunks log.length then s.registerAnswer m .noResource c.owner 0
         else ({ s with sat := { s.sat with recs := aput s.sat.recs m.id.toNat new } }).registerAnswer m .ok m.sender log.length
       else (s.count Reg.satCntStale 1).registerAnswer m .notOwner c.owner c.mirror.length))

/-- REGISTER_ACK refused an admission's ID (R69): the next attempt, or NO_RESOURCE. -/
def State.nextAttempt (s : State) (slot : Nat) (x : Sat) (r : ReplyTo) : State :=
  if 16 ≤ x.attempts then (s.removeSat slot).done r .noResource
  else
    match s.nextId (satIndex x.id) with
    | none => (s.removeSat slot).done r .noResource
    | some (id, s1) => (s1.modSat slot fun y => { y with id := id, attempts := y.attempts + 1 }).sendRegister slot

/-- REGISTER_ACK at the owner (R74, R77, R83, R84). -/
def execRegisterAck (m : CMsg) (s : State) : Host.Outcome State Fault Refusal :=
  .next (s.takeC .registerAck m
    (match s.anySlot m.id with
     | none => s
     | some slot => s.withSlot slot fun x =>
       if x.epoch ≠ m.epoch then s
       else
         match Status.ofCode m.status, x.admitting with
         | .ok, some r =>
           (s.modSat slot fun y => { y with admitting := none, mirrorLen := y.log.length, reported := .admitted, registering := false }).answer r .accepted true
             (leBytes 8 x.id.toNat ++ leBytes 2 (s.registrarField x.id).toNat)
         | .noResource, some r => (s.removeSat slot).done r .noResource
         | _, some r => s.nextAttempt slot x r
         | .ok, none =>
           (s.modSat slot fun y => { y with
             reregister := false, registering := false, mirrorHold := false, mirrorLen := max y.mirrorLen (min y.log.length m.logLen),
             unackedInks := y.unackedInks.filter fun i => decide (m.logLen < i.1) }).publishInk slot
         | .noResource, none => s.modSat slot fun y => { y with reregister := true, registering := false }
         | _, none => s.loseCopy slot (if m.peer = 0xFFFF then .satchelLost else .notOwner)))

/-- REGISTER_RETRY (R83). -/
def execRegisterRetry (id : SatchelId) (s : State) : Host.Outcome State Fault Refusal :=
  match s.findSlot id with
  | none => .next s
  | some slot => .next (s.withSlot slot fun x => if x.reregister then s.sendRegister slot else s)

/-- MIRROR_ACK to the sender of a MIRROR (R85, R92). -/
def State.mirrorAnswer (s : State) (m : CMsg) (st : Status) (len : Nat) : State :=
  s.sendC m.sender .mirrorAck (s.reply m 0xFFFF st 0 len 0) .empty

/-- MIRROR at the registrar (R85): appended in sequence; state FREE deletes the record (R74). The note of a full store has a free ADDR: the
registrar has no table slot for the satchel (log entry 31). -/
def execMirror (m : CMsg) (tokens : List Token) (s : State) : Host.Outcome State Fault Refusal :=
  .next (s.atRegistrar .mirror m (.tokens tokens)
    (match s.recOf m.id with
     | none => s.mirrorAnswer m .notOwner 0
     | some c =>
       if c.owner ≠ m.sender ∨ c.epoch ≠ m.epoch ∨ c.state = .lost then s.mirrorAnswer m .notOwner c.mirror.length
       else if m.state = 0 then { s with sat := { s.sat with recs := adel s.sat.recs m.id.toNat } }
       else if m.logLen ≠ c.mirror.length then s.mirrorAnswer m .ok c.mirror.length
       else
         let l := c.mirror ++ tokens
         if s.chunksFree + mirrorChunks c.mirror.length < mirrorChunks l.length then
           let f := s.free
           (f.2.note 0x3C1 0x801 f.1).mirrorAnswer m .noResource c.mirror.length
         else
           let st := (SatState.ofCode m.state).getD c.state
           (s.modRec m.id fun y => { y with
             mirror := l, chunks := s.sat.takeChunks y.chunks l.length, state := if y.state = .inTransit then .inTransit else st,
             prior := if y.state = .inTransit then y.prior else st, lastMirror := s.strokeNow, probing := false }).mirrorAnswer m .ok l.length))

/-- MIRROR_ACK at the owner (R85, R86). -/
def execMirrorAck (m : CMsg) (s : State) : Host.Outcome State Fault Refusal :=
  .next (s.takeC .mirrorAck m
    (match s.findSlot m.id with
     | none => s
     | some slot => s.withSlot slot fun x =>
       if x.epoch ≠ m.epoch then s
       else
         match Status.ofCode m.status with
         | .ok =>
           let len := min m.logLen x.log.length
           let s1 := s.modSat slot fun y => { y with
             mirrorsOut := y.mirrorsOut - 1, mirrorLen := max y.mirrorLen len, mirrorHold := false,
             unackedInks := y.unackedInks.filter fun i => decide (len < i.1) }
           if x.mirrorsOut ≤ 1 ∧ len < x.mirrorSent then
             ((s1.modSat slot fun y => { y with mirrorSent := len, mirrorsOut := 0 }).sendMirror slot).publishInk slot
           else s1.publishInk slot
         | .noResource => s.modSat slot fun y => { y with mirrorHold := true, mirrorsOut := 0, mirrorSent := y.mirrorLen }
         | _ => (s.modSat slot fun y => { y with mirrorHold := true, mirrorsOut := 0 }).sendRegister slot))

/-- MIRROR_ACK_OVERDUE (R85): eight strokes without acknowledgement. -/
def execMirrorAckOverdue (id : SatchelId) (s : State) : Host.Outcome State Fault Refusal :=
  match s.findSlot id with
  | none => .next s
  | some slot => .next (s.withSlot slot fun x =>
      match x.unackedInks with
      | i :: _ =>
        if i.2 + 8 ≤ s.strokeNow ∧ x.mirrorHold = false then (s.modSat slot fun y => { y with mirrorHold := true }).note 0x3C1 0x801 slot
        else s
      | [] => s)

/-! ### The registrar's side of a hand-over (R89, R90) -/

/-- OFFER_NOTE at the registrar (R89). -/
def execOfferNote (m : CMsg) (s : State) : Host.Outcome State Fault Refusal :=
  .next (s.atRegistrar .offerNote m .empty
    (match s.recOf m.id with
     | none => s
     | some c =>
       if c.owner = m.sender ∧ c.epoch = m.epoch ∧ c.state ≠ .lost ∧ c.state ≠ .inTransit then
         s.modRec m.id fun y => { y with
           state := .inTransit, pending := m.peer, prior := (SatState.ofCode m.state).getD y.state, sender := m.sender }
       else s))

/-- CLAIM at the registrar (R89). -/
def execClaim (m : CMsg) (s : State) : Host.Outcome State Fault Refusal :=
  .next (s.atRegistrar .claim m .empty (s.claimed m))

/-- Answer ABORT_REQ (R90). -/
def State.abortAnswer (s : State) (m : CMsg) (arg : Nat) (st : Status) (peer : DeviceId) : State :=
  s.sendC m.sender .abortAns (s.reply m peer st 0 0 arg) .empty

/-- ABORT_REQ at the registrar (R90). Where no record is held and no window is open, the answer is SUPERSEDED with SATCHEL_LOST, and in a window
none is given until the record registers (log entry 124). -/
def execAbortReq (m : CMsg) (s : State) : Host.Outcome State Fault Refusal :=
  .next (s.atRegistrar .abortReq m .empty
    (match s.recOf m.id with
     | none => if s.inWindow m.id = false then s.abortAnswer m 2 .satchelLost 0xFFFF else s
     | some c =>
       if c.state = .inTransit ∧ c.epoch = m.epoch ∧ c.owner = m.sender then
         let s1 := (s.modRec m.id fun y => { y with state := y.prior, pending := 0xFFFF }).count Reg.satCntAbort 1
         (s1.abortAnswer m 0 .ok c.owner).sendC c.pending .abortAns (s.cmsg m.id m.epoch c.owner .ok 0 0 0) .empty
       else if c.epoch = m.epoch ∧ c.owner = m.sender ∧ c.state ≠ .lost then s.abortAnswer m 0 .ok c.owner
       else if c.state ≠ .lost ∧ (c.commits.contains (m.peer, m.epoch + 1) ∨ (c.owner = m.peer ∧ c.epoch = m.epoch + 1)) then s.abortAnswer m 1 .ok c.owner
       else if c.state = .lost then s.abortAnswer m 2 .satchelLost 0xFFFF
       else s.abortAnswer m 2 .notOwner c.owner))

/-- SURRENDER at the registrar (R95): the owner's acts at once. -/
def execSurrender (m : CMsg) (s : State) : Host.Outcome State Fault Refusal :=
  .next (s.atRegistrar .surrender m .empty
    (match s.recOf m.id with
     | none => s
     | some c => if c.owner = m.sender ∧ c.epoch = m.epoch then s.declareLost m.id else s))

/-- PROBE_ANS at the registrar (R90, R95, R99). -/
def execProbeAns (m : CMsg) (s : State) : Host.Outcome State Fault Refusal :=
  .next (s.atRegistrar .probeAns m .empty
    (match s.recOf m.id with
     | none => s
     | some c =>
       if c.owner ≠ m.sender ∨ c.epoch ≠ m.epoch then s
       else if m.arg = 1 then
         let s1 := s.modRec m.id fun y => { y with probing := false, ownerDead := false, commitUndelivered := false, lastMirror := s.strokeNow }
         if c.commitUndelivered then
           s1.sendC c.owner .commit (s.cmsg m.id c.epoch c.owner .ok c.state.code c.mirror.length 0) .empty
         else s1
       else s.declareLost m.id))

/-- COMMIT_PROBE_TIMER (R90): a COMMIT is undelivered. -/
def execCommitProbeTimer (id : SatchelId) (s : State) : Host.Outcome State Fault Refusal :=
  match s.recOf id with
  | none => .next s
  | some c =>
    if c.commitUndelivered then .next (s.sendC c.owner .probe (s.cmsg id c.epoch c.owner .ok c.state.code c.mirror.length 0) .empty)
    else .next s

/-- OWNER_LOSS_TIMEOUT (R95): the owner is dead, or a PROBE of it went unanswered. -/
def execOwnerLossTimeout (id : SatchelId) (s : State) : Host.Outcome State Fault Refusal :=
  match s.recOf id with
  | none => .next s
  | some c => if c.ownerDead ∨ c.probing then .next (s.declareLost id) else .next s

/-- SILENT_OWNER_PROBE (R95). -/
def execSilentOwnerProbe (id : SatchelId) (s : State) : Host.Outcome State Fault Refusal :=
  match s.recOf id with
  | none => .next s
  | some c =>
    if c.state = .ready ∧ c.lastMirror + 16 ≤ s.strokeNow then .next (s.probeOwner c) else .next s

/-- REREG_WINDOW_CLOSE (R84): what was held for a satchel that no window covers any more is answered. -/
def execReregWindowClose (mem : Fin 32) (s : State) : Host.Outcome State Fault Refusal :=
  let s1 : State := { s with sat := { s.sat with rereg := s.sat.rereg.filter fun w => w.1 != mem.val } }
  let ids := ((s1.sat.heldQueries.map fun w => w.1) ++ (s1.sat.heldClaims.map fun m => m.id)).eraseDups.filter fun id => !s1.inWindow id
  .next (ids.foldl State.releaseHeld s1)

/-- A record arrives at the member that joined (R81): it is entered, with its mirror in chunks of this device's store. One that has registered
here meanwhile stands. -/
def State.takeRecord (s : State) (c : Record) : State :=
  if (s.recOf c.id).isSome then s
  else
    { s with sat := { s.sat with
      recs := aput s.sat.recs c.id.toNat { c with chunks := s.sat.takeChunks [] c.mirror.length, movingTo := none, sent := false } } }

/-- REHOME_ACK (R81): authority over the record passes. At the previous holder the record is given up; at the member that joined the record has
come, and after the last one it hands no message on any more. -/
def execRehomeAck (id : SatchelId) (dst : DeviceId) (arrived : Option Record) (last : Bool) (s : State) : Host.Outcome State Fault Refusal :=
  if dst = s.me then
    let s1 := match arrived with
      | some c => if c.id = id then s.takeRecord c else s
      | none => s
    .next { s1 with sat := { s1.sat with joined := s1.sat.joined && !last } }
  else
    match s.recOf id with
    | none => .next s
    | some c =>
      if c.movingTo = some dst ∧ c.sent then .next { s with sat := { s.sat with recs := adel s.sat.recs id.toNat } } else .next s

/-! ### The receiver (R89, R90, R94, R125) -/

/-- Free rows that a hand-over needs in the receiving partition: every private row where it is full. -/
def rowsNeeded (x : Sat) (full : Bool) : Nat :=
  if full then (x.rows.filter fun r => r.kind == .here || r.kind == .inkwell || r.kind == .lodged).length else 0

/-- Why a partition declines an OFFER (R70, R94, R125, R132, R146, R232, R246). -/
def State.offerCheck (s : State) (m : CMsg) (x : Sat) (full : Bool) (sentBy : Option SentBy) (p : Nat) : Option Status :=
  let q := s.part p
  let layout : Bool := match sentBy, q.image with | some b, some im => b.kv == im.kv | _, _ => true
  let held := ((avals s.sat.sats).filter fun y => y.part.val == p).length + (s.sat.incoming.filter fun i => i.part.val == p).length
  let whole : Bool := x.kvPos == m.logLen
  if (q.state ≠ .ready ∧ q.state ≠ .suspended) ∨ q.composing.isSome ∨ s.sec.shutdown.isSome then some .partitionBusy
  else if q.role = 2 ∧ (x.state ≠ .parkedWarm ∨ whole = false ∨ (x.waitExpiry = 1 ∧ q.parkCfg.revive.isNone)) then some .badField
  else if q.role ≠ 2 ∧ (x.state = .parkedCold ∨ x.state.live = false ∨ q.modelId ≠ x.model ∨ q.hasAdapter x.adapter x.adapterVer = false ∨
      layout = false) then some .badField
  else if q.sprint ∧ ([SatState.admitted, .prefill].contains x.state ∨ (x.state = .parkedWarm ∧ whole = false)) then some .badField
  else if q.sprint ∧ 16 ≤ held then some .noResource
  else if s.freeSlot.isNone ∨ q.freeRows < rowsNeeded x full then some .noResource
  else if x.state = .parkedWarm then s.poolRefusal false x.tenant x.units
  else none

/-- DECLINE to the sender of an OFFER (R90). -/
def State.decline (s : State) (dst : DeviceId) (id : SatchelId) (epoch : Nat) (st : Status) : State :=
  s.sendC dst .decline (s.cmsg id epoch dst st 0 0 0) .empty

/-- OFFER at its receiver (R89): declined at once, or taken with a reservation of a table entry, and of a satellite at every other shard (R70). -/
def execOffer (m : CMsg) (x : Sat) (full : Bool) (part : Fin 16) (inside : Bool) (sentBy : Option SentBy) (transit : Option (List Byte)) (shardsOk : Bool)
    (s : State) :
    Host.Outcome State Fault Refusal :=
  .next (s.takeC .offer m
    (if (s.sat.incoming.any fun i => i.id == m.id && i.epoch == m.epoch) then s
     else
       match s.offerCheck m x full sentBy part.val, s.freeSlot with
       | some st, _ => s.decline m.sender m.id m.epoch st
       | none, none => s.decline m.sender m.id m.epoch .noResource
       | none, some slot =>
         if !shardsOk && !((s.part part.val).satelliteDevs false).isEmpty then s.decline m.sender m.id m.epoch .noResource
         else if harness m.sender ≠ harness s.me ∧ (transit.bind (s.heldTransit x.tenant)).isNone then s.decline m.sender m.id m.epoch .protection
         else
           let s1 : State := { s with sat := { s.sat with
             reserved := slot :: s.sat.reserved,
             incoming := s.sat.incoming ++ [{ id := m.id, sender := m.sender, epoch := m.epoch, part := part, full := full, image := x,
                                              log := [], dataDone := false, claimed := false, slot := slot, inside := inside, sentBy := sentBy, transit := transit }] } }
           s1.makeSatellites part.val m.id x.kvPos (.reserve x.tenant x.cls x.adapter x.adapterVer)))

/-- A hand-over under way here. -/
def State.incomingOf (s : State) (id : SatchelId) : Option Incoming := s.sat.incoming.find? fun i => i.id == id

/-- Give back the blocks that came for a slot. -/
def State.dropForms (s : State) (slot : Nat) : State :=
  { s with kva := { s.kva with parked := s.kva.parked.filter fun b => b.1 / 2 ^ 28 != slot, indexes := adel s.kva.indexes slot } }

/-- Take the blocks of a parked satchel for a slot, with their index (R124, R299). -/
def State.takeForms (s : State) (slot : Nat) (forms : List (List Byte)) : State :=
  ({ s with kva := { s.kva with
    parked := forms.zipIdx.foldl (fun (t : Assoc (List Byte)) (f : List Byte × Nat) => aput t (blockKey slot f.2) f.1) s.kva.parked } }).setIndex slot forms false

/-- Discard a hand-over: its rows, its places and its reservations are freed, and the device remembers that it discarded it (R90). -/
def State.discard (s : State) (i : Incoming) : State :=
  let s1 : State := { s with sat := { s.sat with
    incoming := s.sat.incoming.erase i, reserved := s.sat.reserved.erase i.slot, discarded := (i.id, i.epoch) :: s.sat.discarded } }
  let s2 := ((s1.unplace i.slot).makeSatellites i.part.val i.id 0 .release).dropForms i.slot
  if i.dataDone && i.full then i.image.rows.foldl (fun a r => a.dropRow i.part.val r) s2 else s2

/-- The bytes and scales of a row that came from another device are no state of this device: free values (log entry 8). -/
def State.fillFree (s : State) (q : Part) (first : Nat) : State :=
  let n := q.rowFrames * 65536
  let s1 := s.physWrite (s.frameAddr first) (freeBytes s.freeCtr n)
  let c := s.freeCtr + n
  let fill (e : Nat × ScaleRec) : Nat × ScaleRec :=
    if first ≤ e.1 ∧ e.1 < first + q.rowFrames then
      (e.1, { e.2 with scales := (List.range 64).map fun k => (k, BitVec.ofNat 16 (Config.freeValue (c + (e.1 - first) * 64 + k))) })
    else e
  { s1 with freeCtr := c + q.rowFrames * 64, kva := { s1.kva with scales := s1.kva.scales.map fill } }

/-- Copy a row's frames and scale records, with a TAG (R94, R156). -/
def State.copyRow (s : State) (from_ to_ n : Nat) (tag : BitVec 64) (fill : Nat → Nat) : State :=
  let m := memCopy s.memory.mem (s.frameAddr from_) s.memory.mem (s.frameAddr to_) (n * 65536)
  let sc := (List.range n).foldl (fun (t : Assoc ScaleRec) k =>
    match afind s.kva.scales (from_ + k) with
    | some r => aput t (to_ + k) { r with tag := tag, inkwell := false, fill := fill r.fill }
    | none => t) s.kva.scales
  { s with memory := { (s.memory.clearPoison (s.frameAddr to_) (n * 65536)) with mem := m }, kva := { s.kva with scales := sc } }

/-- The rows of a satchel taken in full (R89, R94): each private row gets a row of the receiving partition, whose bytes come from the
sender; another partition's of this device are copied. -/
def State.takeRows (s : State) (i : Incoming) : List Row → Option (List Row × State)
  | [] => some ([], s)
  | r :: t =>
    if r.kind = .here ∨ r.kind = .inkwell ∨ r.kind = .lodged then
      match s.allocRow i.part.val i.id with
      | none => none
      | some (h, s1) =>
        let q := s1.part i.part.val
        let s2 := if i.inside && r.kind != .lodged then s1.copyRow r.loc h q.rowFrames i.id id else s1.fillFree q h
        (s2.takeRows i t).map fun w => ({ r with kind := .here, loc := h } :: w.1, w.2)
    else (s.takeRows i t).map fun w => (r :: w.1, w.2)

/-- CLAIM, once the data is here and every other shard of the instance has taken its satellite (R89, R146). -/
def State.claimWhen (s : State) (i : Incoming) (shardsTaken : Bool) : State :=
  if i.claimed ∨ (shardsTaken = false ∧ !((s.part i.part.val).satelliteDevs false).isEmpty) then s
  else
    let s1 : State := { s with sat := { s.sat with incoming := s.sat.incoming.map fun y => if y = i then { i with claimed := true } else y } }
    s1.toRegistrar .claim (s.cmsg i.id (i.epoch + 1) i.sender .ok 0 i.log.length 0) .empty

/-- Every block that came from another harness passes its tag (R303, R515, R516). -/
def State.transitOk (s : State) (i : Incoming) (units : List (List Byte)) : Bool :=
  match i.transit.bind (s.heldTransit i.image.tenant) with
  | some key => units.zipIdx.all fun u => match openBlock key i.id u.2 u.1 with | .ok _ => true | .error _ => false
  | none => true

/-- RECEIVER_DATA_COMPLETE (R89, R90, R146, R515): blocks of another harness are decrypted on arrival; CLAIM, or DECLINE with the reason. Another partition's blocks of this device are copied (R94). -/
def execReceiverDataComplete (id : SatchelId) (result : Status) (log : List Token) (forms : List (List Byte)) (shardsTaken : Bool) (s : State) :
    Host.Outcome State Fault Refusal :=
  match s.incomingOf id with
  | none => .next s
  | some i =>
    if i.dataDone then .next (s.claimWhen i shardsTaken)
    else if result ≠ .ok then .next ((s.discard i).decline i.sender id i.epoch result)
    else if i.transit.isSome ∧ (i.transit.bind (s.heldTransit i.image.tenant)).isNone then
      .next ((s.discard i).decline i.sender id i.epoch .protection)
    else if !s.transitOk i forms then .next ((s.discard i).decline i.sender id i.epoch .dataCorrupt)
    else
      let lodged := i.image.rows.map fun r => if r.kind = .here ∨ r.kind = .inkwell then { r with kind := .lodged } else r
      match (if i.full then s.takeRows i i.image.rows else some (lodged, s)) with
      | none => .next ((s.discard i).decline i.sender id i.epoch .noResource)
      | some (rows, s0) =>
        match s0.place i.slot Place.none log.length rows.length (if i.image.state = .parkedWarm then 0 else (s.part i.part.val).stateBytes) with
        | none => .next (((rows.foldl (fun a r => if i.full then a.dropRow i.part.val r else a) s0).discard i).decline i.sender id i.epoch .noResource)
        | some (pl, s1) =>
          let from_ := s.sat.sats.find? fun e => e.2.id == id && e.2.state == .inTransit
          let key := i.transit.bind (s.heldTransit i.image.tenant)
          let came := match key with | some k => forms.zipIdx.map fun f => sealedForm k f.2 f.1 | none => forms
          let blocks := if i.inside then (match from_ with | some e => s.formsOf (ctxOfSlot e.1) | none => []) else came
          let pl1 := if i.image.state = .parkedWarm then { pl with rstateLen := i.image.place.rstateLen } else pl
          let j : Incoming := { i with log := log, dataDone := true, image := { i.image with rows := rows, place := pl1 } }
          let s2 : State := { s1 with sat := { s1.sat with incoming := s1.sat.incoming.map fun y => if y = i then j else y } }
          .next ((if i.image.state = .parkedWarm then s2.takeForms i.slot blocks else s2).claimWhen j shardsTaken)

/-- The satellites of a hand-over that committed take their rows (R146): each lodges at the same shard of the sending instance, or came in full. -/
def State.commitSatellites (s : State) (i : Incoming) (st : SatState) : State :=
  ((s.part i.part.val).satelliteDevs false).zipIdx.foldl (fun (a : State) d =>
    let lodge : DeviceId := if i.full then 0xFFFF else match i.sentBy with
      | some b => (match b.shards[d.2 + 1]? with | some e => e.dev | none => 0xFFFF)
      | none => 0xFFFF
    a.emit (.shardPlan d.1 s.strokeNow [shardDo i.id i.image.kvPos (.commit lodge st i.image.rows.length)])) s

/-- The receiver becomes owner (R89, R93, R125). -/
def State.becomeOwner (s : State) (i : Incoming) (m : CMsg) : State :=
  let st := (SatState.ofCode m.state).getD i.image.state
  let mig := i.image.rows.any fun r => r.kind == .lodged
  let x : Sat :=
    { i.image with id := i.id, part := i.part, state := st, prior := st, epoch := m.epoch, log := i.log, mirrorLen := m.logLen,
                   mirrorSent := i.log.length, reported := st, migrating := mig, lodge := if mig then i.sender else 0xFFFF,
                   frozen := false, move := none, lodgedAt := s.strokeNow, tried := 0 }
  let s1 : State := { s with sat := { s.sat with
    incoming := s.sat.incoming.erase i, reserved := s.sat.reserved.erase i.slot, sats := aput s.sat.sats i.slot x } }
  let s2 := (s1.commitSatellites i st).sendC i.sender .release (s.cmsg i.id m.epoch i.sender .ok st.code i.log.length 0) .empty
  if st = .parkedWarm ∧ x.kvPos < x.log.length ∧ (s.part i.part.val).role ≠ 2 then s2.beginRevive (ctxOfSlot i.slot) false else s2

/-- COMMIT at the receiver (R89, R90): one that finds its hand-over discarded is answered with SURRENDER, also where the sender is another
partition of this device (R94). -/
def execCommit (m : CMsg) (s : State) : Host.Outcome State Fault Refusal :=
  .next (s.takeC .commit m
    (match s.sat.incoming.find? fun i => i.id == m.id && i.epoch + 1 == m.epoch with
     | some i =>
       if Status.ofCode m.status = .ok then s.becomeOwner i m
       else (s.discard i).decline i.sender i.id i.epoch .notOwner
     | none =>
       if Status.ofCode m.status = .ok ∧ (s.sat.sats.all fun e => e.2.id != m.id || e.2.epoch != m.epoch) = true then
         s.toRegistrar .surrender (s.cmsg m.id m.epoch 0xFFFF .notOwner 0 0 0) .empty
       else s))

/-- COMMIT_TIMEOUT (R90): T without COMMIT after CLAIM. -/
def execCommitTimeout (id : SatchelId) (s : State) : Host.Outcome State Fault Refusal :=
  match s.incomingOf id with
  | none => .next s
  | some i => if i.claimed then .next ((s.discard i).decline i.sender id i.epoch .tierError) else .next s

/-! ### The sender's events (R89, R90) -/

/-- The satchel that a message about a hand-over names at its sender. -/
def State.sending (s : State) (id : SatchelId) (epoch : Nat) : Option Nat :=
  (s.sat.sats.find? fun e => e.2.id == id && e.2.state == .inTransit && e.2.epoch == epoch).map fun e => e.1

/-- RELEASE at the sender (R89). -/
def execRelease (m : CMsg) (s : State) : Host.Outcome State Fault Refusal :=
  .next (s.takeC .release m
    (match s.sending m.id (m.epoch - 1) with
     | some slot => s.withSlot slot fun x =>
         match x.move with
         | some v => if v.dev = m.sender then s.moveCommitted slot else s
         | none => s
     | none => s))

/-- DECLINE at the sender (R90): ABORT_REQ at once. -/
def execDecline (m : CMsg) (s : State) : Host.Outcome State Fault Refusal :=
  .next (s.takeC .decline m
    (match s.sending m.id m.epoch with
     | some slot => s.withSlot slot fun x =>
         match x.move with
         | some v =>
           if v.dev = m.sender then
             (s.modSat slot fun y => { y with move := some { v with declined := some (Status.ofCode m.status) } }).sendAbort slot
           else s
         | none => s
     | none => s))

/-- RELEASE_TIMEOUT (R90): T without RELEASE, and each T until ABORT_REQ is answered. -/
def execReleaseTimeout (id : SatchelId) (s : State) : Host.Outcome State Fault Refusal :=
  match s.sat.sats.find? fun e => e.2.id == id && e.2.state == .inTransit with
  | none => .next s
  | some e => .next (s.sendAbort e.1)

/-- ABORT_ANS (R90, R97): at the sender, at a receiver that is told to discard, or at a late candidate of a recovery. -/
def execAbortAns (m : CMsg) (s : State) : Host.Outcome State Fault Refusal :=
  .next (s.takeC .abortAns m
    (match s.sending m.id m.epoch with
     | some slot =>
       if m.arg = 0 then (s.thaw slot).surrenderLive slot
       else if m.arg = 1 then s.moveCommitted slot
       else s.withSlot slot fun x =>
         (if m.peer = 0xFFFF then s else s.forwardCancel x m.peer x.part).loseCopy slot (Status.ofCode m.status)
     | none =>
       match s.sat.incoming.find? fun i => i.id == m.id && i.epoch == m.epoch with
       | some i => s.discard i
       | none =>
         match s.findSlot m.id with
         | some slot => s.withSlot slot fun x =>
             if m.arg = 0 ∧ x.recovered ∧ x.epoch = m.epoch then s.removeSat slot else s
         | none => s))

/-! ### Loss and recovery (R95 to R98) -/

/-- PROBE at a device (R95, R225): HAVE where it owns the satchel at that epoch, or has claimed it. -/
def execProbe (m : CMsg) (s : State) : Host.Outcome State Fault Refusal :=
  .next (s.takeC .probe m
    (let own := match s.findSlot m.id with
       | some slot => match s.satAt slot with | some x => x.epoch == m.epoch | none => false
       | none => false
     let inc := s.sat.incoming.any fun i => i.id == m.id && i.claimed && i.epoch + 1 == m.epoch
     s.sendC m.sender .probeAns (s.reply m 0xFFFF .ok 0 0 (b2n (own || inc))) .empty))

/-- Why a device refuses a recovery (R97, R246): it lacks the model or the adapter version, a table entry, or memory for the log. -/
def State.recoverCheck (s : State) (p : Nat) (x : Sat) (tokens : Nat) : Option Status :=
  let q := s.part p
  if s.closedPart p then some .partitionBusy
  else if q.role = 2 ∨ q.sprint = true ∨ q.modelId ≠ x.model ∨ q.hasAdapter x.adapter x.adapterVer = false then some .badField
  else
    match s.freeSlot with
    | none => some .noResource
    | some slot => if (s.place slot Place.none tokens 0 q.stateBytes).isNone then some .noResource else none

/-- The satchel that a recovery owner builds (R98). -/
def State.rebuilt (s : State) (m : CMsg) (p : Fin 16) (x : Sat) (log : List Token) : Sat :=
  let rp := x.stop.admitted.replay x.session log
  let waits : Bool := [SatState.wait, .parkedWarm, .parkedCold].contains ((SatState.ofCode m.state).getD .ready)
  let e : Option StopEntry := if waits then rp.2.bind fun i => rp.1.entries[i]? else none
  { x.image with
    part := p, state := .admitted, prior := .admitted, epoch := m.epoch, recovered := true, migrating := false, frozen := false,
    cancelLatched := false, log := log, mirrorLen := log.length, mirrorSent := log.length, reported := .admitted, kvPos := 0, rows := [],
    home := [], cold := [], units := 0, stop := rp.1, lodge := 0xFFFF, backfill := 0, waitStroke := s.strokeNow,
    waitKind := match e with | some y => y.waitKind | none => 0,
    waitMatcher := match e with | some _ => rp.2.getD 15 | none => 15,
    waitExpiry := match e with | some y => y.onExpiry | none => 0 }

/-- RECOVER_ASSIGN at a recovery owner (R97, R98). -/
def execRecoverAssign (m : CMsg) (part : Fin 16) (image : Sat) (log : List Token) (s : State) : Host.Outcome State Fault Refusal :=
  .next (s.takeC .recoverAssign m
    (match s.recoverCheck part.val image log.length with
     | some st => s.sendC m.sender .recoverAns (s.reply m s.me st 0 0 0) .empty
     | none =>
       match s.freeSlot.bind fun slot => (s.place slot Place.none log.length 0 (s.part part.val).stateBytes).map fun r => (slot, r) with
       | none => s.sendC m.sender .recoverAns (s.reply m s.me .noResource 0 0 0) .empty
       | some (slot, pl, s1) =>
         let x := { s.rebuilt m part { image with id := m.id } log with place := pl }
         (({ s1 with sat := { s1.sat with sats := aput s1.sat.sats slot x } }).makeSatellites part.val m.id 0
           (.create x.tenant x.cls x.adapter x.adapterVer 0xFFFFFFFF)).sendC m.sender .recoverAns (s.reply m s.me .ok SatState.admitted.code log.length 0) .empty))

/-- RECOVER_ANS at the registrar (R97). -/
def execRecoverAns (m : CMsg) (s : State) : Host.Outcome State Fault Refusal :=
  let late := s.sendC m.sender .abortAns (s.cmsg m.id m.epoch (match s.recOf m.id with | some c => c.owner | none => 0xFFFF) .ok 0 0 0) .empty
  .next (s.atRegistrar .recoverAns m .empty
    (match s.recOf m.id with
     | none => if Status.ofCode m.status = .ok then late else s
     | some c =>
       let named : Bool := c.state == .lost && c.epoch + 1 == m.epoch &&
         (match c.candidate with | some k => k.2.dev == m.sender | none => false)
       if Status.ofCode m.status = .ok then
         if named then
           let s1 := (s.modRec m.id fun y => { y with
             state := .admitted, prior := .admitted, epoch := m.epoch, owner := m.sender, candidate := none, recoverReply := none,
             lastMirror := s.strokeNow }).count Reg.satCntRecover 1
           match c.recoverReply with
           | some r => s1.answer r .ok true (leBytes 2 m.sender.toNat)
           | none => s1
         else late
       else if named then s.candidateRefused c else s))

/-- RECOVER_ANS_TIMEOUT (R97). -/
def execRecoverAnsTimeout (id : SatchelId) (s : State) : Host.Outcome State Fault Refusal :=
  match s.recOf id with
  | none => .next s
  | some c => if c.state = .lost then .next (s.candidateRefused c) else .next s

/-- CUSTODY_UNDELIVERED (R90, R91): an undelivered COMMIT makes the registrar probe; an undelivered RECOVER_ASSIGN counts as a refusal. The
timers of R90 and R95 decide the rest. -/
def execCustodyUndelivered (ty : CType) (dst : DeviceId) (m : CMsg) (_p : CPayload) (s : State) : Host.Outcome State Fault Refusal :=
  match s.recOf m.id with
  | none => .next s
  | some c =>
    match ty with
    | .commit =>
      if c.owner = dst ∧ c.epoch = m.epoch ∧ m.status = Status.ok.code then
        .next (s.modRec m.id fun y => { y with commitUndelivered := true })
      else .next s
    | .recoverAssign =>
      if (match c.candidate with | some k => k.2.dev == dst | none => false) && c.epoch + 1 == m.epoch then .next (s.candidateRefused c)
      else .next s
    | _ => .next s

/-! ### SATCHEL_QUERY and SATCHEL_RECOVER (R97, R99) -/

/-- This device answers for a satchel as registrar. -/
def State.answersFor (s : State) (id : SatchelId) : Bool := (s.recOf id).isSome || s.registrar id == some s.me

/-- Hold a packet until the satchel's record registers, or its window closes (R84). -/
def State.holdQuery (s : State) (r : ReplyTo) (id : SatchelId) : State :=
  { s with sat := { s.sat with heldQueries := s.sat.heldQueries ++ [(id, r)] } }

/-- Answer a query from the record, or hold it where a window is open for the satchel and it has no record (R84, R99). -/
def State.queryOrHold (s : State) (r : ReplyTo) (id : SatchelId) : State :=
  if (s.recOf id).isNone ∧ s.inWindow id = true then s.holdQuery r id else s.queryAnswer r id

/-- Hand a packet on to the satchel's registrar (R99, R454). Without one, nobody can answer: TIER_ERROR (log entry 26). -/
def State.passOn (s : State) (q : PktReq) (h : Header) (r : ReplyTo) (id : SatchelId) : State :=
  match s.registrar id with
  | some d => s.forward q { h with destDev := d } r
  | none => s.done r .tierError

/-- SATCHEL_QUERY (R99): answered from the registrar's record; the owner writes its descriptor where OUT_ADDR asks for it. -/
def execSatchelQuery (h : Header) (id : SatchelId) (outAddr : BitVec 64) (s : State) : Host.Outcome State Fault Refusal :=
  let q : PktReq := { op := 0x0305, replies := 1, vf := true, tenant := true, params := 16, rsv := 0, addrs := b2n (outAddr != 0), localOnly := false }
  .next (s.serve q h false fun r x =>
    if satGen id = 0 then x.done r .badField
    else
      let mine := match x.findSlot id with | some slot => x.satAt slot | none => none
      match mine with
      | some y =>
        if !h.mayName y then x.done r .protection
        else
          let x1 := if outAddr = 0 then x else (x.writeAddr h.origin outAddr.toNat (x.descriptor y))
          if x1.answersFor id then x1.queryOrHold r id else x1.passOn { q with addrs := 0 } h r id
      | none =>
        if !x.answersFor id then x.passOn q h r id
        else if outAddr ≠ 0 ∧ !(h.origin.isFabric && registrarBound 0x0305 h) then x.done r .badField
        else if h.origin.partition.isSome ∧ ((x.recOf id).any fun c => c.tenant != h.tenant) then x.done r .protection
        else x.queryOrHold r id)

/-- SATCHEL_RECOVER (R97). -/
def execSatchelRecover (h : Header) (id : SatchelId) (dev : DeviceId) (dpart : Nat) (rsv : Nat) (s : State) :
    Host.Outcome State Fault Refusal :=
  let q : PktReq := { op := 0x0306, replies := 2, vf := true, tenant := true, params := 16, rsv := rsv, addrs := 0, localOnly := false }
  .next (s.serve q h false fun r x =>
    if satGen id = 0 ∨ 15 < dpart ∨ (dev ≠ 0xFFFF ∧ 2 ^ 14 ≤ dev.toNat) then x.done r .badField
    else if !x.answersFor id then x.passOn q h r id
    else
      match x.recOf id with
      | none =>
        if x.inWindow id = false then x.answerLost r id else x.holdQuery r id
      | some c =>
        if h.origin.partition.isSome ∧ c.tenant ≠ h.tenant then x.done r .protection
        else if c.state ≠ .lost then x.done r .alreadyDone
        else if 0xFFFFFFFE < c.epoch + 1 ∨ c.recoverReply.isSome then x.done r .noResource
        else
          let a := x.accepted r
          if c.candidate.isSome then a.1.modRec id fun y => { y with recoverReply := some a.2 }
          else a.1.startRecovery id (if dev = 0xFFFF then none else some ⟨dev, Fin.ofNat 16 dpart⟩) (some a.2))

/-! ### Lodgings (R93) -/

/-- MIGRATION_COMPLETE (R93, R146): at the owner, or at its satellite, no lodged row is left, and the lodging device is told; at the lodging device,
its lodging is freed. -/
def execMigrationComplete (id : SatchelId) (s : State) : Host.Outcome State Fault Refusal :=
  match s.findCtx id with
  | some c => .next (s.withCtx c fun x =>
      if x.migrating ∧ x.has .lodged = false then
        (s.modCtx c fun y => { y with migrating := false, lodge := 0xFFFF, migrated := 0 }).endLodging x.lodge id
      else s)
  | none => .next (s.freeLodging id)

/-- LODGING_EXPIRY (R93): the owner-loss time has passed since its owner's dead notice. -/
def execLodgingExpiry (id : SatchelId) (s : State) : Host.Outcome State Fault Refusal :=
  match s.sat.lodgings.find? fun l => l.id == id with
  | some l =>
    match l.deadAt with
    | some t => if t + s.lossTime ≤ s.stk.time then .next (s.freeLodging id) else .next s
    | none => .next s
  | none => .next s

end Sys2Proof.Machine
end

