-- ==== Sys2Proof/Machine/Parking.lean ====
section
/-!
DEFINITION. Machine/Parking.lean: waits and their expiry, parking, the pools, revival, and the codec's blocks (chapters 04 and 09).
-/
namespace Sys2Proof.Machine

/-! ### Parking counters (R129) -/

/-- Count a parking event for the device and for a tenant. -/
def State.parkCount (s : State) (t : BitVec 16) (f : ParkCnt → ParkCnt) : State :=
  { s with pln := { s.pln with
    devCnt := f s.pln.devCnt, tenCnt := aput s.pln.tenCnt t.toNat (f (agetD s.pln.tenCnt t.toNat ParkCnt.zero)) } }

/-! ### Making room (R127, R128) -/

/-- The stroke whose boundary is at hand: in the Commit phase the one that comes next, else the current one. What a boundary brings before
Plan (R117, R120, R130, R131) is commanded before STROKE_BOUNDARY, which plans (log entry 28). -/
def State.boundaryStroke (s : State) : Nat :=
  if s.stk.running && s.stk.phase == Phase.commit then s.stk.stroke + 1 else s.strokeNow

/-- The parking parameters in force at the boundary at hand: a change taken since the last boundary is in force at the next (R119). -/
def State.parkCfgAt (s : State) (p : Nat) : ParkCfg :=
  let q := s.part p
  if s.stk.running && s.stk.phase == Phase.commit then q.parkPend.getD q.parkCfg else q.parkCfg

/-- Idle age at the boundary at hand (R116). -/
def State.age (s : State) (x : Sat) : Nat := s.boundaryStroke - x.waitStroke

/-- A device is live as far as this device knows (R124). -/
def State.isLive (s : State) (d : DeviceId) : Bool := bitAt (s.liveMask (harness d)) (member d)

/-- The cold path in force for a satchel (R119, R147): one that holds a RING row never takes the cache path. -/
def State.coldTarget (s : State) (x : Sat) : Nat :=
  let t := (s.parkCfgAt x.part.val).coldTarget
  if t = 1 ∧ x.has .ring then (if s.nandInService then 0 else 2) else t

/-- Nothing of the satchel is moving, and no wait is over (R121, R127). -/
def Sat.quiet (x : Sat) : Bool :=
  !x.migrating && !x.frozen && !x.cancelLatched && x.park == .idle && x.move.isNone && x.waitKind != 0 && x.returns.isEmpty

/-- A parked satchel may be demoted from a tier (R127). -/
def State.demotable (s : State) (cold : Bool) (x : Sat) : Bool :=
  x.quiet && (if cold then
      x.state == .parkedCold && s.coldTarget x == 1 && (s.parkCfgAt x.part.val).targets.any fun t => s.isLive t.dev
    else x.state == .parkedWarm && decide (s.coldTarget x < 2))

/-- Larger age first, ties to the lower satchel ID (R120). -/
def State.ageOrder (s : State) (l : List (Nat × Sat)) : List (Nat × Sat) :=
  l.mergeSort fun a b => decide (s.age b.2 < s.age a.2) || (s.age a.2 == s.age b.2 && decide (a.2.id.toNat ≤ b.2.id.toNat))

/-- make_room of R127: demotions begin, largest age first, until the room that they free suffices; false where no candidate is left. `taken` holds
the slot, units and tenant of each that was begun. -/
def State.makeRoom (cold : Bool) (tenant : BitVec 16) (need : Nat) (demote : State → Nat → State) :
    Nat → List (Nat × Nat × BitVec 16) → List (Nat × Sat) → State → State × Bool
  | 0, _, _, s => (s, false)
  | fuel + 1, taken, cands, s =>
    let freed := (taken.map fun v => v.2.1).sum
    let mine := ((taken.filter fun v => v.2.2 == tenant).map fun v => v.2.1).sum
    let beyond := s.poolCap cold tenant != 0xFFFFFFFF && decide (s.poolCap cold tenant + mine < s.poolUsed cold (some tenant) + need)
    if !beyond && decide (s.poolUsed cold none + need ≤ s.poolLimit cold + freed) then (s, true)
    else
      let ok (v : Nat × Sat) : Bool :=
        if beyond then v.2.tenant == tenant else decide (s.poolFloor cold v.2.tenant < s.poolUsed cold (some v.2.tenant))
      match s.ageOrder (cands.filter ok) with
      | [] => (s, false)
      | v :: _ =>
        State.makeRoom cold tenant need demote fuel ((v.1, v.2.units, v.2.tenant) :: taken) (cands.filter fun w => w.1 != v.1) (demote s v.1)

/-- Every candidate for demotion from a tier. -/
def State.demotables (s : State) (cold : Bool) (self : Nat) : List (Nat × Sat) :=
  s.sat.sats.filter fun e => e.1 != self && s.demotable cold e.2

/-- Begin the cache path (R124). -/
def State.beginCache (s : State) (slot : Nat) : State := s.modSat slot fun y => { y with park := .cachePass 0 }

/-- Refused for want of room (R128): counted, and noted once per wait. -/
def State.poolWait (s : State) (slot : Nat) (x : Sat) : State :=
  let s1 := s.parkCount x.tenant fun c => { c with poolWaits := satAdd 0xFFFFFFFF c.poolWaits 1 }
  if x.poolNoted then s1 else (s1.note 0x3C1 0x801 slot).modSat slot fun y => { y with poolNoted := true }

/-- Take room in a tier (R127): what is to begin where it fits; otherwise demotions make room, or the satchel waits (R128). -/
def State.takeRoom (s : State) (cold : Bool) (slot need : Nat) (demote : State → Nat → State) (begin_ : State → State) : State :=
  s.withSlot slot fun x =>
    if (s.poolRefusal cold x.tenant need).isNone then begin_ s
    else
      let c := s.demotables cold slot
      match State.makeRoom cold x.tenant need demote (c.length + 1) [] c s with
      | (s1, true) => s1
      | (s1, false) => s1.poolWait slot x

/-- Units of extent 992 that hold no blocks, within the first ranges up to the pool's size (R318). -/
def State.coldFree (s : State) (n : Nat) : Option (List Nat) :=
  let used := (s.ctxs.map fun e => e.2.cold).flatten
  let top := match afind s.fls.extents 992 with | some e => min e.units s.pln.coldUnits | none => 0
  let l := ((List.range (min top (used.length + n))).filter fun u => !used.contains u).take n
  if l.length = n then some l else none

/-- A context's blocks are written to T2, once all of them are encoded (R120, R123): each encrypted as stored (R514), one after another. Without
room for them the parking is abandoned. -/
def State.coldWrite (s : State) (c : Nat) : State :=
  s.withCtx c fun x =>
    let key := s.restKey x.tenant s.sec.extNonce
    let bytes := ((s.formsOf c).zipIdx.map fun f => sealBlock key x.id f.2 f.1).flatten
    match s.coldFree (ceilDiv bytes.length 65536) with
    | some l =>
      let s1 : State := { s with kva := { s.kva with nonces := aput s.kva.nonces c s.sec.extNonce } }
      (s1.drawNonce.t2Begin 992 l bytes).modCtx c fun y => { y with cold := l }
    | none => s.abandonPark c

/-- Begin a parking into a tier. A warm satchel's blocks go to T2 as they are. -/
def State.startPark (s : State) (cold : Bool) (c need : Nat) : State :=
  s.withCtx c fun x =>
    let s1 := s.modCtx c fun y => { y with park := .parking cold need }
    if cold && x.state == .parkedWarm then s1.coldWrite c else s1

/-- Begin a parking into a tier where it fits (R127). T2 takes none while it cannot be written (R331). -/
def State.beginPark (s : State) (cold : Bool) (slot : Nat) (demote : State → Nat → State) : State :=
  s.withSlot slot fun x =>
    let need := s.rawUnits (ctxOfSlot slot) x.toKvCtx
    if cold && !s.t2Writable then s else s.takeRoom cold slot need demote fun a => a.startPark cold (ctxOfSlot slot) need

/-- A cold satchel is demoted by the cache path (R127). -/
def State.demoteCold (s : State) (slot : Nat) : State :=
  s.withSlot slot fun x =>
    (s.beginCache slot).parkCount x.tenant fun c => { c with demotions := satAdd 0xFFFFFFFF c.demotions 1 }

/-- Begin parking in T2 (R120, R123). -/
def State.beginCold (s : State) (slot : Nat) : State := s.beginPark true slot State.demoteCold

/-- The cold path of a satchel in PARKED_WARM (R120). -/
def State.coldPath (s : State) (slot : Nat) : State :=
  s.withSlot slot fun x => if s.coldTarget x = 1 then s.beginCache slot else s.beginCold slot

/-- A warm satchel is demoted by its cold path (R127). -/
def State.demoteWarm (s : State) (slot : Nat) : State :=
  s.withSlot slot fun x =>
    let s1 := s.coldPath slot
    if ((s1.satAt slot).map fun y => y.park) = some .idle then s1
    else s1.parkCount x.tenant fun c => { c with demotions := satAdd 0xFFFFFFFF c.demotions 1 }

/-- Begin warm parking (R122). -/
def State.beginWarm (s : State) (slot : Nat) : State := s.beginPark false slot State.demoteWarm

/-- Begin the restoration of a cold satchel to PARKED_WARM (R124, R125, R132), which takes room from the warm pool. -/
def State.beginWarmRestore (s : State) (slot : Nat) (pass : Option Nat) : State :=
  s.withSlot slot fun x =>
    let need := s.rawUnits (ctxOfSlot slot) x.toKvCtx
    s.takeRoom false slot need State.demoteWarm fun a => a.modSat slot fun y => { y with park := .restoreWarm need pass }

/-! ### The cache path (R124) -/

/-- References to inkwell pages become private blocks before the OFFER (R124): they follow the others in the index. -/
def State.inkToBlocks (s : State) (slot : Nat) (x : Sat) : State :=
  let q := s.part x.part.val
  let step (a : State × Nat × List Row) (r : Row) : State × Nat × List Row :=
    if r.kind = .inkwell then
      let s1 := (List.range q.rowSlots).foldl (fun (y : State) j =>
        y.encodeAt slot (a.2.1 + j) (q.blockWidth j) (y.rawBlock x.part.val r j) false) a.1
      (s1.inkRelease r.loc, a.2.1 + q.rowSlots, a.2.2 ++ [{ r with kind := .parked, loc := a.2.1 }])
    else (a.1, a.2.1, a.2.2 ++ [r])
  let w := x.rows.foldl step (s, (s.formsOf slot).length, [])
  if x.has .inkwell then
    let s1 := w.1.setIndex slot (w.1.formsOf slot) false
    s1.modSat slot fun y => { y with rows := w.2.2, units := w.1.packedUnits slot false }
  else s

/-- Target indices in the order of a pass: after the entry used last (R124). -/
def ParkCfg.order (c : ParkCfg) (last : Nat) : List Nat :=
  (List.range c.targets.length).map fun k => (last + 1 + k) % c.targets.length

/-- Offer the satchel to the next live target of the pass, or end the pass (R124). A cold satchel, which is never offered (R125), is first restored
to PARKED_WARM. -/
def State.cacheNext (s : State) (slot tried : Nat) : State :=
  s.withSlot slot fun x =>
    if x.state = .parkedCold then s.beginWarmRestore slot (some tried)
    else
    let p := x.part.val
    let q := s.part p
    let c := s.parkCfgAt p
    let left := (c.order q.lastTarget).take (c.targets.length - tried)
    let live := left.filter fun i => match c.targets[i]? with | some t => s.isLive t.dev | none => false
    match live with
    | i :: _ =>
      match c.targets[i]? with
      | some t =>
        let s2 := (s.inkToBlocks slot x).modPart p fun y => { y with lastTarget := i }
        s2.modSat slot fun y =>
          { y with park := .cachePass (tried + 1 + (left.takeWhile fun k => k != i).length),
                   move := some { dev := t.dev, part := t.part, full := true, reply := none, frozenAt := none, offered := false,
                                  declined := none, abortSent := false, purpose := 1 } }
      | none => s
    | [] =>
      let s1 := s.modSat slot fun y => { y with park := .idle }
      if s.nandInService ∧ x.state = .parkedWarm then s1.beginCold slot
      else s1.modSat slot fun y => { y with park := .cacheWait (s.boundaryStroke + 64) }

/-- CACHE_PATH_RETRY (R124): 64 strokes later a new pass begins. -/
def execCachePathRetry (id : SatchelId) (s : State) : Host.Outcome State Fault Refusal :=
  match s.findSlot id with
  | none => .next s
  | some slot => .next (s.withSlot slot fun x =>
      match x.park with
      | .cacheWait n => if n ≤ s.boundaryStroke then s.beginCache slot else s
      | _ => s)

/-! ### Transitions at a boundary (R120, R121) -/

/-- What is due for a satchel (R120, R151): 0 nothing, 1 warm parking, 2 the cold path. -/
def State.due (s : State) (x : Sat) : Nat :=
  let q := s.part x.part.val
  let c := s.parkCfgAt x.part.val
  let g := s.age x
  let t := s.coldTarget x
  let a1 : Bool := q.role != 2 && c.a1 != 0xFFFFFFFF && decide (c.a1 ≤ g)
  let a2 : Bool := c.a2 != 0xFFFFFFFF && decide (c.a2 ≤ g)
  if !x.quiet || x.kvPos != x.log.length then 0
  else
    match x.state with
    | .wait => if t = 2 then b2n a1 else if a2 then 2 else b2n a1
    | .parkedWarm => if t < 2 && a2 then 2 else 0
    | _ => 0

/-- Begin what is due (R120): from WAIT straight into T2, or first warm where the cold path leads to a cache target. -/
def State.beginDue (s : State) (slot : Nat) (x : Sat) : State :=
  if x.state = .wait then
    if s.due x = 2 ∧ s.coldTarget x = 0 then s.beginCold slot else s.beginWarm slot
  else s.coldPath slot

/-- Take the due transitions in order, at most `rate` begun (R120). -/
def State.takeDue (s : State) : Nat → List (Nat × Sat) → State
  | _, [] => s
  | rate, (slot, x) :: t =>
    if rate = 0 then s
    else
      let s1 := s.beginDue slot x
      if ((s1.satAt slot).map fun y => y.park) = some .idle then s1.takeDue rate t else s1.takeDue (rate - 1) t

/-- A revival that waits for room tries again (R130). -/
def State.retryRevive (s : State) (c : Nat) (x : KvCtx) : State :=
  match x.park with
  | .reviveWait staging => s.beginRevive c staging
  | _ => s

/-- Release ranges of the cold pool beyond its size that are empty, the last first (R318). -/
def State.trimCold (s : State) : State :=
  match afind s.fls.extents 992 with
  | none => s
  | some e =>
    let top := (s.ctxs.map fun x => x.2.cold).flatten.foldl (fun a u => max a (u + 1)) s.pln.coldUnits
    let keep := (e.ranges.foldl (fun (a : List (Nat × Nat) × Nat) r => if top ≤ a.2 then a else (a.1 ++ [r], a.2 + r.2)) ([], 0)).1
    if keep.isEmpty then { s with fls := { s.fls with extents := adel s.fls.extents 992 } }
    else { s with fls := { s.fls with extents := aput s.fls.extents 992 { e with ranges := keep, limit := s.pln.coldUnits } } }

/-- PARKING_DUE (R120, R124, R128, R130): at a boundary, a partition's satchels: the next target of a cache pass, retried revivals, and the
transitions that are due. -/
def execParkingDue (part : Fin 16) (s : State) : Host.Outcome State Fault Refusal :=
  let mine := s.sat.sats.filter fun e => e.2.part == part && e.2.admitting.isNone
  let s1 := mine.foldl (fun (a : State) e =>
    match e.2.park with
    | .cachePass n => if e.2.move.isNone then a.cacheNext e.1 n else a
    | _ => a.retryRevive (ctxOfSlot e.1) e.2.toKvCtx) s
  let s2 := (s1.sat.satellites.filter fun e => e.2.part == part).foldl (fun (a : State) e => a.retryRevive (ctxOfSatellite e.1) e.2.toKvCtx) s1
  let due := s2.ageOrder (mine.filter fun e => s2.due e.2 != 0)
  .next ((s2.takeDue (s.parkCfgAt part.val).parkRate due).trimCold)

/-! ### Completion (R120, R122, R130) -/

/-- The rows whose blocks stand in the new tier give their old copies back (R122, R144, R169), and so does the recurrent state. -/
def State.leaveHome (s : State) (c : Nat) (x : KvCtx) : State :=
  let s1 := ((x.home.map fun e => e.2).foldl (fun (a : State) r => a.dropRow x.part.val r) s).dropSwapOut x
  (s1.uncarve (objOwner c 3)).modCtx c fun y => { y with home := [], swapOut := [], place := { y.place with rstate := 0 } }

/-- A parking into a tier is complete (R120, R122, R123): every block stands in the tier, durable in T2. -/
def State.parkDone (s : State) (c : Nat) (x : KvCtx) (cold : Bool) : Bool :=
  (x.state == .parkedWarm || s.allEncoded c x) && (!cold || (s.t2Durable 992 x.cold && (x.cold.length != 0 || (s.formsOf c).isEmpty)))

/-- A context has moved into a tier (R120, R127, R299): its old copy is freed, its index is made, and its reservation is trimmed. -/
def State.parked (s : State) (c : Nat) (x : KvCtx) (cold : Bool) : State :=
  let forms := s.formsOf c
  let s1 := (s.leaveHome c x).setIndex c forms cold
  let s2 : State := if cold then { s1 with kva := { s1.kva with parked := s1.kva.parked.filter fun b => b.1 / 2 ^ 28 != c } } else s1
  s2.modCtx c fun y =>
    { y with state := if cold then .parkedCold else .parkedWarm, units := if cold then x.cold.length else s.packedUnits c false, park := .idle }

/-- A cold satchel's blocks are back in the warm pool (R125): its units in T2 are freed. -/
def State.rewarmed (s : State) (c : Nat) (x : KvCtx) (pass : Option Nat) : State :=
  let forms := s.coldForms c x
  let s1 := s.freeBlocks c
  let s2 : State := { s1 with kva := { s1.kva with
    parked := forms.zipIdx.foldl (fun (t : Assoc (List Byte)) (f : List Byte × Nat) => aput t (blockKey c f.2) f.1) s1.kva.parked } }
  (s2.setIndex c forms false).modCtx c fun y =>
    { y with state := .parkedWarm, units := s2.packedUnits c false, park := match pass with | some n => .cachePass n | none => .idle }

/-- PARKING_COMPLETE (R120, R127): the state changes, the reservation is trimmed, the old copy is freed, and the satellites park (R145). -/
def execParkingComplete (id : SatchelId) (s : State) : Host.Outcome State Fault Refusal :=
  match s.findCtx id with
  | none => .next s
  | some c => .next (s.withCtx c fun x =>
      match x.park with
      | .parking cold _ =>
        if s.parkDone c x cold = false then s
        else
          let s1 := (s.parked c x cold).toOthers c x (shardDo x.id x.kvPos (.park cold))
          if c < 2 ^ 22 then s1.parkCount x.tenant fun n => { n with parks := satAdd 0xFFFFFFFF n.parks 1 } else s1
      | .restoreWarm _ pass => s.rewarmed c x pass
      | _ => s)

/-- The parked rows become LOCAL in the frames taken for them (R130, R144). -/
def swapIn : List Row → List Nat → List Row
  | [], _ => []
  | r :: t, l =>
    if r.kind = .parked then
      match l with
      | h :: u => { r with kind := .here, loc := h } :: swapIn t u
      | [] => r :: swapIn t []
    else r :: swapIn t l

/-- A context is resident again (R130): its parked blocks are freed. -/
def State.resident (s : State) (c : Nat) (state : SatState) : State :=
  let s1 := (s.freeBlocks c).modCtx c fun y => { y with state := state, rows := swapIn y.rows y.staged, staged := [], park := .idle }
  s1.withCtx c fun x => s1.rowsBack x.part.val

/-- The satchel is resident and enters PREFILL (R130). -/
def State.enterPrefill (s : State) (slot : Nat) : State :=
  s.withSlot slot fun x =>
    (s.resident (ctxOfSlot slot) .prefill).parkCount x.tenant fun c => { c with revivals := satAdd 0xFFFFFFFF c.revivals 1 }

/-- REVIVAL_RESIDENT (R130). A restoration ahead of a wake waits for the wake (R131). -/
def execRevivalResident (id : SatchelId) (s : State) : Host.Outcome State Fault Refusal :=
  match s.findCtx id with
  | none => .next s
  | some c => .next (s.withCtx c fun x =>
      match x.park with
      | .reviving [] staging => if 2 ^ 22 ≤ c then s.resident c .prefill else if staging then s else s.enterPrefill c
      | _ => s)

/-- Nothing moves that a restoration ahead of a wake would meet (R131): a satchel that only waits for its next pass of the cache path does not. -/
def Sat.mayLead (x : Sat) : Bool := (match x.park with | .idle => true | .cacheWait _ => true | _ => false) && x.move.isNone && !x.frozen

/-- LEAD_RESTORE_START (R131). -/
def execLeadRestoreStart (id : SatchelId) (s : State) : Host.Outcome State Fault Refusal :=
  match s.findSlot id with
  | none => .next s
  | some slot => .next (s.withSlot slot fun x =>
      let q := s.part x.part.val
      let timeout := match x.stop.entries[x.waitMatcher]? with | some e => e.timeout | none => 0
      if (x.state = .parkedWarm ∨ x.state = .parkedCold) ∧ x.waitKind ≠ 0 ∧ x.waitExpiry = 1 ∧ x.mayLead = true ∧ q.role ≠ 2 ∧
          (s.parkCfgAt x.part.val).lead ≠ 0 ∧ timeout ≤ s.age x + (s.parkCfgAt x.part.val).lead then s.beginRevive (ctxOfSlot slot) true
      else s)

/-- WAIT_TIMEOUT_EXPIRY (R117): a wake, which appends the WAKE tokens, or a cancel. A wake for which the token log cannot grow is not applied, and
is tried again with the next expiry check. -/
def execWaitTimeoutExpiry (id : SatchelId) (s : State) : Host.Outcome State Fault Refusal :=
  match s.findSlot id with
  | none => .next s
  | some slot => .next (s.withSlot slot fun x =>
      match x.stop.entries[x.waitMatcher]? with
      | none => s
      | some e =>
        if !([SatState.wait, .parkedWarm, .parkedCold].contains x.state) ∨ x.waitKind = 0 ∨ e.timeout = 0 ∨ s.age x < e.timeout then s
        else if x.waitExpiry = 2 then s.applyCancel slot
        else if x.waitExpiry = 1 then
          let q := s.part x.part.val
          let w := e.wake.take e.wakeLen
          if x.maxContext < x.log.length + w.length then s.finish slot .done [finalRec x .ok s.boundaryStroke]
          else
            match s.growLog slot w.length with
            | none => s
            | some s0 =>
              let s1 := s0.takeAppend slot w (if q.role = 2 then (s.parkCfgAt x.part.val).revive else none)
              let s2 := s1.eventAt s1.boundaryStroke (partFn x.part.val) 3 .ok x.part.val (leBytes 8 x.id.toNat ++ leBytes 1 x.waitMatcher ++ leBytes 1 x.waitKind)
              if x.park = .reviving [] true then s2.enterPrefill slot else s2
        else s)

/-! ### The codec's blocks (R303, R304) -/

/-- Count an internal lane error of a group (R304, R310). -/
def State.laneError (s : State) (g : Nat) : State :=
  s.setFld (Reg.cdcGroup g) 15 0 (satAdd 0xFFFF (s.fld (Reg.cdcGroup g) 15 0) 1)

/-- Place a decoded block where it belongs (R130): a page of a frame taken for it, scale records, or a piece of recurrent state. -/
def State.placeBlock (s : State) (x : KvCtx) (block : Nat) (raw : List Byte) : State :=
  match s.blockHome x block with
  | .row i j => (match x.staged[i]? with | some h => s.putBlock x.part.val h j raw | none => s)
  | .piece k => s.physWrite (x.place.rstate + 65536 * k) raw
  | .none => s

/-- A block is resident. -/
def State.blockDone (s : State) (c : Nat) (x : KvCtx) (block : Nat) (raw : List Byte) : State :=
  ((s.placeBlock x block raw).count Reg.cdcCntDec 1).modCtx c fun y =>
    { y with park := match y.park with | .reviving l st => .reviving (l.erase block) st | w => w }

/-- A failed attempt leaves its destination undefined (R303). -/
def State.blockFailed (s : State) (x : KvCtx) (block : Nat) : State :=
  let n := s.ctxBlockLen x block
  { s.placeBlock x block (freeBytes s.freeCtr n) with freeCtr := s.freeCtr + n }

/-- A block is encoded; with the last block of a row its entry becomes PARKED (R144), and with the last block of all the writing to T2 begins. -/
def State.blockEncoded (s : State) (c : Nat) (x : KvCtx) (block : Nat) (cold : Bool) : State :=
  let n := (s.part x.part.val).rowSlots
  let s1 := s.encodeAt c block (s.ctxBlockWidth x block) (s.ctxRaw x block) cold
  let s2 := match s.blockHome x block with
    | .row i _ =>
      let first := x.stateBlocks + i * n
      let j := ((List.range x.rows.length).filter fun k => match x.rows[k]? with
        | some r => r.kind == .here || r.kind == .swapHost || r.kind == .swapT2 || r.kind == .parked
        | none => false).getD i 0
      if ((List.range n).all fun k => (afind s1.kva.parked (blockKey c (first + k))).isSome) && !(x.home.any fun e => e.1 == j) then
        s1.modCtx c fun y => match y.rows[j]? with
          | some r => { y with home := y.home ++ [(j, r)], rows := putRow y.rows j { r with kind := .parked, loc := first } }
          | none => y
      else s1
    | _ => s1
  if cold then s2.withCtx c fun y => if s2.allEncoded c y && y.cold.isEmpty then s2.coldWrite c else s2 else s2

/-- A context's data cannot be restored (R133): the satchel takes the lower-tier path; a satellite's loss is its owner's to handle (R146). -/
def State.lowerCtx (s : State) (c : Nat) : State :=
  if c < 2 ^ 22 then s.lowerTier c
  else
    match afind s.sat.satellites (c - 2 ^ 22) with
    | some y => (s.freeCtx c).emit (.shardLoss y.owner y.id)
    | none => s

/-- CODEC_BLOCK_COMPLETE (R303, R304): an encoder's block of a parking, or a decoder's of a revival; a failed decoding leads to one
re-read. A second lane error abandons the transfer with INTERNAL. -/
def execCodecBlockComplete (id : SatchelId) (block : Nat) (encode : Bool) (group : Fin 16) (errors : Nat) (index fetched : Option (List Byte))
    (s : State) : Host.Outcome State Fault Refusal :=
  match s.findCtx id with
  | none => .next s
  | some c => .next (s.withCtx c fun x =>
      match encode, x.park with
      | true, .parking cold _ =>
        if x.state ≠ .wait ∨ s.ctxBlocks x ≤ block ∨ x.cold ≠ [] then s
        else
          let s1 := if errors = 0 then s else s.laneError group.val
          if 2 ≤ errors then
            (s1.post { fault (0x380 + group.val) 0xF01 2 0 with tag := .ctx c, status := .internal }).abandonPark c
          else s1.blockEncoded c x block cold
      | false, .reviving l _ =>
        if s.kva.rereads.contains (c, block) ∨ l.contains block = false then s
        else
          match s.decodeAt c x block index fetched with
          | .ok raw => s.blockDone c x block raw
          | .error _ => { s.blockFailed x block with kva := { (s.blockFailed x block).kva with rereads := s.kva.rereads ++ [(c, block)] } }
      | _, _ => s)

/-- CODEC_REREAD (R304): transient, or DATA_CORRUPT and the lower-tier path (R133). -/
def execCodecReread (id : SatchelId) (block : Nat) (group : Fin 16) (index fetched : Option (List Byte)) (s : State) :
    Host.Outcome State Fault Refusal :=
  match s.findCtx id with
  | none => .next s
  | some c => .next (s.withCtx c fun x =>
      if s.kva.rereads.contains (c, block) then
        let s1 : State := { s with kva := { s.kva with rereads := s.kva.rereads.erase (c, block) } }
        let f : FaultSpec := { fault (0x380 + group.val) 0x501 1 (blockKey c block) with tag := .ctx c, status := .dataCorrupt }
        match s.decodeAt c x block index fetched with
        | .ok raw =>
          let s2 := (s1.blockDone c x block raw).count Reg.cdcCntTransient 1
          if s.flag Reg.cdcCtrl 1 then s2.transient f else s2
        | .error _ => ((s1.count Reg.cdcCntCorrupt 1).post f).lowerCtx c
      else s)

/-- Contexts that are reading a unit of T2 back: blocks in the cold pool of a revival or a restoration, or a row whose return was requested. -/
def State.readersOf (s : State) (lua : Nat) : List Nat :=
  (s.ctxs.filter fun e =>
    let x := e.2
    let q := s.part x.part.val
    let restores : Bool := match x.park with | .reviving _ _ => true | .restoreWarm _ _ => true | _ => false
    (restores && x.cold.any fun u => s.extentLua 992 u == some lua) ||
      x.returns.any fun r => match x.rows[r.1]? with
        | some w => w.kind == .swapT2 && (runFrom w.loc q.rowUnitsT2).any fun u => s.extentLua (swapExtent x.part.val) u == some lua
        | none => false).map fun e => e.1

/-- CODEWORD_DECODE (R317): what a codeword's decoding counted, and the fault of step 5, after which a satchel that was being restored from the unit
takes the lower-tier path (R133, R285). -/
def execCodewordDecode (pua : Nat) (_decoder : Fin 8) (bits_ : Nat) (how : DecodeEnd) (_verify : Bool) (s : State) :
    Host.Outcome State Fault Refusal :=
  let s3 := s.decoded pua bits_ how
  .next (if s.decodeHow pua how = .unreadable then
      ((s3.fls.map.filter fun m => m.2 == pua).flatMap fun m => s3.readersOf m.1).eraseDups.foldl State.lowerCtx (s3.unreadable pua)
    else s3)

/-! ### PARK_CONFIG, PARK_POOL, TENANT_PARK, PARK_QUERY -/

/-- Why a partition takes no configuration now (R222, R224). -/
def State.partRefusal (s : State) (p : Nat) : Option Status :=
  let q := s.part p
  if q.composing.isSome then some .partitionBusy
  else
    match q.state with
    | .ready | .suspended => none
    | .free => some .badField
    | _ => some .partitionBusy

/-- PARK_CONFIG (R3, R119): in force from the next stroke boundary. -/
def execParkConfig (h : Header) (cfg : ParkCfg) (nTargets : Nat) (revivePart : Nat) (rsv : Nat) (s : State) :
    Host.Outcome State Fault Refusal :=
  .next (s.serve { op := 0x0105, replies := 1, vf := true, tenant := false, params := 16 + 4 * nTargets, rsv := rsv, addrs := 0,
                   localOnly := false } h false fun r x =>
    let q := x.part h.target
    match x.partRefusal h.target with
    | some st => x.done r st
    | none =>
      if cfg.a1 = 0 ∨ cfg.a2 = 0 ∨ 2 < cfg.coldTarget ∨ cfg.parkRate = 0 ∨ 65535 < cfg.parkRate ∨ 255 < cfg.lead ∨ 8 < nTargets ∨
          cfg.targets.length ≠ nTargets ∨ 15 < revivePart ∨ (cfg.coldTarget = 1 ∧ nTargets = 0) ∨ (cfg.coldTarget = 1 ∧ q.role = 2) ∨
          (cfg.revive.isSome ∧ q.role ≠ 2) ∨
          (cfg.targets ++ cfg.revive.toList).any (fun t => decide (2 ^ 14 ≤ t.dev.toNat)) = true then x.done r .badField
      else if cfg.coldTarget = 0 ∧ x.nandInService = false then x.done r .noResource
      else (x.modPart h.target fun y => { y with parkPend := some cfg }).done r .ok)

/-- Size the warm pool's carve-out (R127, R270). -/
def State.sizeWarm (s : State) (units : Nat) : Option State :=
  let s1 := s.uncarve 6
  if units = 0 then some s1 else (s1.carve 6 (units * 65536)).map fun c => c.2

/-- Size the cold pool's extent (R318). -/
def State.sizeCold (s : State) (units : Nat) : Option State :=
  match afind s.fls.extents 992 with
  | none => if units = 0 then some s else s.newExtent 992 false none units
  | some e =>
    if units ≤ e.units then some s
    else if 16 ≤ e.ranges.length then none
    else
      match s.fls.place (units - e.units) with
      | none => none
      | some b => some { s with fls := { s.fls with
          extents := aput s.fls.extents 992 { e with ranges := e.ranges ++ [(b, units - e.units)], limit := units } } }

/-- The owner cannot read a satchel's descriptor, stop-matcher block or token log, where a sector of it is poisoned (R266, R285): it surrenders the
satchel. The loss counts from the sector's poisoning on (log entry 128). -/
def State.objectsLost (s : State) (pa : Nat) : State :=
  let lost := s.sat.sats.filter fun e => e.2.state.live && e.2.admitting.isNone &&
    ((s.objectsOf e.2).take 2).any fun o => decide (o.1 / 64 ≤ pa / 64 ∧ pa < o.1 + o.2.1)
  lost.foldl (fun (a : State) e => a.surrenderFor e.1 .dataCorrupt) s

/-- A device of T1 has left service since `was` (R267): the state of every satchel owned here is destroyed, and its owner surrenders it (R95). -/
def State.t1Lost (s was : State) : State :=
  if s.memory.devs.countP (fun d => d.inService) < was.memory.devs.countP (fun d => d.inService) then
    (s.sat.sats.filter fun e => e.2.state.live && e.2.admitting.isNone).foldl (fun (a : State) e => a.surrenderFor e.1 .deviceFault) s
  else s

/-- T1_RETRAIN_COMPLETE (R264, R267): a device that fails retraining leaves service. -/
def execT1RetrainComplete (position : Fin 32) (ok : Bool) (s : State) : Host.Outcome State Fault Refusal :=
  let g := s.memory.devs.getD position.val GddrDev.reset
  if g.inService ∧ 3 ≤ g.trackFails then
    if ok then
      .next { s with memory := { s.memory with devs := s.memory.devs.modify position.val fun x => { x with trackFails := 0 } } }
    else .next ((s.gddrLost position.val).t1Lost s)
  else .next s

/-- T1_TEMP_READ (R265, R267). -/
def execT1TempRead (temps : List Nat) (s : State) : Host.Outcome State Fault Refusal :=
  .next (((List.range 32).foldl (fun (x : State) d =>
    match temps[d]? with
    | some t => x.gddrTemp d t
    | none => x) s).t1Lost s)

/-- PATROL_SCRUB (R266, R285): a patrol read of a T1 sector with what its check found. -/
def execPatrolScrub (pa : Nat) (corrected uncorrectable : Bool) (s : State) : Host.Outcome State Fault Refusal :=
  if !s.flag Reg.memCtrl 1 ∨ s.memory.target pa ≠ .t1 then .next s
  else if uncorrectable then .next ((s.poisonT1 pa).objectsLost pa)
  else if corrected then
    let s1 := s.count Reg.memCntCe 1
    .next (if s1.flag Reg.memCtrl 2 then s1.note (s.memory.t1Source pa) 0x201 pa else s1)
  else .next s

/-- PARK_POOL (R127). -/
def execParkPool (h : Header) (warm cold : Nat) (s : State) : Host.Outcome State Fault Refusal :=
  .next (s.serve { op := 0x0402, replies := 1, vf := false, tenant := false, params := 8, rsv := 0, addrs := 0, localOnly := false } h false
    fun r x =>
      if (cold ≠ 0 ∧ x.fls.ready = false) then x.done r .noResource
      else
        match x.sizeWarm warm with
        | none => x.done r .noResource
        | some y =>
          match y.sizeCold cold with
          | none => x.done r .noResource
          | some z => ({ z with pln := { z.pln with warmUnits := warm, coldUnits := cold } }.trimCold).done r .ok)

/-- A tenant's record before any command named it (R127, R234). -/
def TenantRec.new : TenantRec :=
  { metered := false, rate := 0, burst := 0, floor := 0, level := 0, warmFloor := 0, warmCap := 0xFFFFFFFF, coldFloor := 0,
    coldCap := 0xFFFFFFFF }

/-- Every record is in use and the tenant has none (R127). -/
def State.tenantsFull (s : State) (t : BitVec 16) : Bool :=
  (afind s.pln.tenants t.toNat).isNone && decide (4096 ≤ s.pln.tenants.length)

/-- The sum of the other tenants' floors for a tier. -/
def State.otherFloors (s : State) (t : BitVec 16) (f : TenantRec → Nat) : Nat :=
  (avals (adel s.pln.tenants t.toNat)).foldl (fun a r => a + f r) 0

/-- TENANT_PARK (R127). -/
def execTenantPark (h : Header) (tenant : BitVec 16) (warmFloor warmCap coldFloor coldCap : Nat) (rsv : Nat) (s : State) :
    Host.Outcome State Fault Refusal :=
  .next (s.serve { op := 0x0401, replies := 1, vf := false, tenant := false, params := 20, rsv := rsv, addrs := 0, localOnly := false } h false
    fun r x =>
      if 0xFFFFFFFE < warmFloor ∨ 0xFFFFFFFE < coldFloor ∨ warmCap = 0 ∨ coldCap = 0 ∨ 0xFFFFFFFF < warmCap ∨ 0xFFFFFFFF < coldCap ∨
          warmCap < warmFloor ∨ coldCap < coldFloor ∨ tenant = 0xFFFF then x.done r .badField
      else if x.tenantsFull tenant then x.done r .noResource
      else if (warmFloor ≠ 0 ∧ x.pln.warmUnits < x.otherFloors tenant (fun q => q.warmFloor) + warmFloor) ∨
          (coldFloor ≠ 0 ∧ x.pln.coldUnits < x.otherFloors tenant (fun q => q.coldFloor) + coldFloor) then x.done r .quotaExceeded
      else
        let q := agetD x.pln.tenants tenant.toNat TenantRec.new
        let q1 := { q with warmFloor := warmFloor, warmCap := warmCap, coldFloor := coldFloor, coldCap := coldCap }
        { x with pln := { x.pln with tenants := aput x.pln.tenants tenant.toNat q1 } }.done r .ok)

/-- The record of R129: of the device, or of a tenant. -/
def State.parkRecord (s : State) (tenant : BitVec 16) : List Byte :=
  let dev : Bool := tenant == 0xFFFF#16
  let t := if dev then none else some tenant
  let n (st : SatState) : Nat := ((avals s.sat.sats).filter fun x => x.state == st && (dev || x.tenant == tenant)).length
  let c := if dev then s.pln.devCnt else agetD s.pln.tenCnt tenant.toNat ParkCnt.zero
  leBytes 2 tenant.toNat ++ zeros 2 ++ leBytes 4 (s.poolUsed false t) ++ leBytes 4 (s.poolUsed true t) ++
    leBytes 4 (if dev then s.pln.warmUnits else s.poolCap false tenant) ++ leBytes 4 (if dev then s.pln.coldUnits else s.poolCap true tenant) ++
    leBytes 4 (n .wait) ++ leBytes 4 (n .parkedWarm) ++ leBytes 4 (n .parkedCold) ++ leBytes 4 c.parks ++ leBytes 4 c.demotions ++
    leBytes 4 c.revivals ++ leBytes 4 c.poolWaits

/-- PARK_QUERY (R129): the device record for PF0 only. -/
def execParkQuery (h : Header) (tenant : BitVec 16) (rsv : Nat) (s : State) : Host.Outcome State Fault Refusal :=
  .next (s.serve { op := 0x0403, replies := 1, vf := true, tenant := false, params := 4, rsv := rsv, addrs := 0, localOnly := false } h false
    fun r x =>
      if tenant = 0xFFFF ∧ h.origin.partition.isSome then x.done r .protection
      else x.answer r .ok true (x.parkRecord tenant))

end Sys2Proof.Machine
end

