-- ==== Sys2Proof/Machine/Kv.lean ====
section
/-!
DEFINITION. Machine/Kv.lean: rows of the arena in use: append windows, copy-on-write, swapping, the inkwell, and the pages that the
ink point moves and frees (chapter 05 with R248 and R249).
-/
namespace Sys2Proof.Machine

/-! ### Ring placement and append windows (R147, R149, R156) -/

/-- The ring position at which row j is placed, before it is known whether the partner takes it (R147). -/
def Part.ringPos (q : Part) (j : Nat) : Nat :=
  match q.image with
  | some im =>
    if im.kv.ringAt = 0 ∨ q.nRing ≤ 1 ∨ j < im.kv.ringAt / q.positions then 0 else (j - im.kv.ringAt / q.positions) % q.nRing
  | none => 0

/-- The ring partner at a position, where it is live. -/
def State.ringPartner (s : State) (q : Part) (pos : Nat) : Option DevPart :=
  match q.ringList[pos - 1]? with
  | some d => if s.isLive d.dev then some d else none
  | none => none

/-- A row for an EMPTY entry (R147, R149): at a ring partner that takes it, else a free row here. Whether a partner has a free row is no
state of this device: a free value (log entry 1). A context that is held for a ring has no partners. -/
def State.newRow (s : State) (x : KvCtx) (ringHeld : Bool) (j : Nat) : Option (Row × State) :=
  let p := x.part.val
  let q := s.part p
  let pos := q.ringPos j
  let f := s.free
  match (if pos = 0 ∨ ringHeld = true then none else s.ringPartner q pos) with
  | some d =>
    if f.1 % 2 = 1 then
      let held := (x.rows.filter fun r => r.kind == .ring && r.loc == pos).length
      some ({ kind := .ring, fill := 0, loc := pos },
        f.2.emit (.shardPlan d s.strokeNow
          [{ id := x.id, alloc := 1, freeFrom := held, kvPos := x.kvPos, kill := false, drop := false, acts := [], ring := true }]))
    else (f.2.allocRow p x.id).map fun r => (hereRow r.1, r.2)
  | none => (s.allocRow p x.id).map fun r => (hereRow r.1, r.2)

/-- Copy-on-write of an inkwell row (R156): a free row, the FILL positions of every page with their scale records, and the release. -/
def State.copyOnWrite (s : State) (x : KvCtx) (r : Row) : Option (Row × State) :=
  match s.allocRow x.part.val x.id with
  | none => none
  | some (h, s1) =>
    let s2 := (s1.copyRow r.loc h (s.part x.part.val).rowFrames x.id fun _ => r.fill).inkRelease r.loc
    some ({ r with kind := .here, loc := h }, s2.count Reg.kvaCntCow 1)

/-- A satellite that this device holds as a ring partner (R147). -/
def State.ringHeld (s : State) (c : Nat) : Bool :=
  decide (2 ^ 22 ≤ c) && match afind s.sat.satellites (c - 2 ^ 22) with | some y => y.partner | none => false

/-- The page table of a context takes so many entries (R143): in its place, or in a larger one. A satellite that no satchel was admitted for has
no place yet. -/
def State.growTable (s : State) (c : Nat) (x : KvCtx) (rows : Nat) : Option State :=
  (s.placeTable c x.place rows).map fun r => r.2.modCtx c fun y => { y with place := r.1 }

/-- Make row j of a context private and present (R149); none where it cannot be now. -/
def State.presentRow (s : State) (c j : Nat) : Option State :=
  match s.ctxAt c with
  | none => none
  | some x =>
    let put (w : Row × State) : State := w.2.modCtx c fun y => { y with rows := putRow y.rows j w.1 }
    match x.rows[j]? with
    | none => if j = x.rows.length then ((s.growTable c x (j + 1)).bind fun s1 => s1.newRow x (s.ringHeld c) j).map put else none
    | some r =>
      match r.kind with
      | .empty => (s.newRow x (s.ringHeld c) j).map put
      | .here | .ring | .lodged => some s
      | .inkwell => (s.copyOnWrite x r).map put
      | _ => none

/-- Make rows present, all or none. -/
def State.presentRows (s : State) (c : Nat) : List Nat → Option State
  | [] => some s
  | j :: t =>
    match s.presentRow c j with
    | some s1 => s1.presentRows c t
    | none => none

/-- The rows that n positions from one up meet. -/
def windowRows (positions start n : Nat) : List Nat :=
  if n = 0 then [] else (List.range ((start + n - 1) / positions + 1 - start / positions)).map fun k => start / positions + k

/-- Free rows that a window still needs: rows to add and inkwell rows to copy. -/
def Sat.windowNeed (x : Sat) (rows : List Nat) : Nat :=
  (rows.filter fun j => match x.rows[j]? with | some r => r.kind == .empty || r.kind == .inkwell | none => true).length

/-- Make a satchel's append window present on the owner, and have its satellites do so (R145, R149). A page table grows to MAX_CONTEXT / P entries
(R143). Where another shard lacks `short` rows for it, the window cannot be made present (R149, R248). -/
def State.makePresent (s : State) (slot start n short : Nat) : Option State :=
  match s.satAt slot with
  | none => none
  | some x =>
    let q := s.part x.part.val
    let rows := windowRows q.positions start n
    let cap := match q.contextLen with | some c => c / q.positions | none => 0
    if (rows.any fun j => decide (cap ≤ j)) = true ∨ (short ≠ 0 ∧ !(q.satelliteDevs false).isEmpty) then none
    else
      match s.presentRows (ctxOfSlot slot) rows with
      | none => none
      | some s1 =>
        let added := (rows.filter fun j => decide (x.rows.length ≤ j)).length
        let copies := rows.filter fun j => match x.rows[j]? with | some r => r.kind == .inkwell | none => false
        if added = 0 ∧ copies = [] then some s1
        else some (s1.toShards x.part.val false
          { id := x.id, alloc := added, freeFrom := x.rows.length, kvPos := x.kvPos, kill := false, drop := false, acts := copies.map ShardAct.copy })

/-! ### The return of swapped rows (R168 to R170, R249) -/

/-- Rows of a context that are swapped and whose return was not requested. -/
def KvCtx.toReturn (x : KvCtx) : List Nat :=
  (List.range x.rows.length).filter fun j =>
    (match x.rows[j]? with | some r => r.kind == .swapHost || r.kind == .swapT2 | none => false) && !(x.returns.any fun e => e.1 == j)

/-- Request returns in order while free rows cover them (R249); the first satchel that they do not cover may choose victims of a higher
class number. -/
def State.requestReturns (s : State) : List (Nat × Sat) → State
  | [] => s
  | (slot, x) :: t =>
    let l := x.toReturn
    if l.isEmpty then s.requestReturns t
    else
      match s.allocRows x.part.val x.id l.length with
      | some (h, s1) =>
        ((s1.modSat slot fun y => { y with returns := y.returns ++ l.zip h }).toShards x.part.val false (shardDo x.id x.kvPos .swapIn)).requestReturns t
      | none => s.preempt slot l.length 0 true

/-- Satchels whose swapped rows are to return, in order (R169, R249): READY and PREFILL, and one that is to move. -/
def State.returners (s : State) (p : Nat) : List (Nat × Sat) :=
  (s.sat.sats.filter fun e => e.2.part.val == p && e.2.swapped && e.2.park == .idle &&
    (e.2.state == .ready || e.2.state == .prefill || e.2.move.isSome || (e.2.state == .wait && decide (e.2.kvPos < e.2.log.length)))).mergeSort fun a b =>
      decide (a.2.cls.val < b.2.cls.val) || (a.2.cls == b.2.cls &&
        (decide (a.2.lastStroke < b.2.lastStroke) || (a.2.lastStroke == b.2.lastStroke && decide (a.2.id.toNat ≤ b.2.id.toNat))))

/-- Write the raw blocks of a row into its swap slots in host memory, with a CRC-64 for each (R166). -/
def State.swapWrite (s : State) (p : Nat) (r : Row) (k : Nat) : State :=
  (List.range (s.part p).rowSlots).foldl (fun (a : State) j =>
    let raw := a.rawBlock p r j
    match swapAddr (a.part p).swapHost (k + j) with
    | some b =>
      let a1 := a.hostWrite (partFn p) b raw
      { a1 with kva := { a1.kva with swapCrc := aput a1.kva.swapCrc ((k + j) * 16 + p) (crc64 raw) } }
    | none => a) s

/-- SWAP_OUT_COMPLETE (R166): the row's last frame is written, and durable where it went to T2; its entry changes and its row is free. -/
def execSwapOutComplete (id : SatchelId) (row : Nat) (toT2 : Bool) (s : State) : Host.Outcome State Fault Refusal :=
  match s.findCtx id with
  | none => .next s
  | some c => .next (s.withCtx c fun x =>
      let p := x.part.val
      match x.swapOut.find? (fun e => e.1 == row && e.2.1 == toT2), x.rows[row]? with
      | some e, some r =>
        if r.kind = .here ∧ (toT2 = false ∨ s.t2Durable (swapExtent p) (runFrom e.2.2 (s.part p).rowUnitsT2) = true) then
          let s1 := (if toT2 then s else s.swapWrite p r e.2.2).freeRow p r.loc
          let new : Row := { r with kind := if toT2 then .swapT2 else .swapHost, loc := e.2.2 }
          let s2 := s1.modCtx c fun y => { y with rows := putRow y.rows row new, swapOut := y.swapOut.erase e }
          ({ s2 with kva := { s2.kva with swapFull := false } }).count Reg.kvaCntSwapOut 1
        else s
      | _, _ => s)

/-- The blocks of a swapped row pass their checks (R168): the CRC-64 of each in host memory, the codec's check in T2. -/
def State.swapOk (s : State) (p : Nat) (r : Row) : Bool :=
  (List.range (s.part p).rowSlots).all fun j =>
    if r.kind = .swapT2 then (match s.swapT2Block p r.loc j with | .ok _ => true | .error _ => false)
    else afind s.kva.swapCrc ((r.loc + j) * 16 + p) == some (crc64 (s.rawBlock p r j))

/-- A swapped row's blocks come back into a row of the arena (R168). -/
def State.swapRead (s : State) (p : Nat) (r : Row) (h : Nat) : State :=
  (List.range (s.part p).rowSlots).foldl (fun (a : State) j => a.putBlock p h j (s.rawBlock p r j)) s

/-- SWAP_RETURN_COMPLETE (R168): the row is LOCAL again, and what waited for it goes on (R144); or its data is corrupt and the satchel takes the
lower-tier policy of R133. -/
def execSwapReturnComplete (id : SatchelId) (row : Nat) (ok retried : Bool) (s : State) : Host.Outcome State Fault Refusal :=
  match s.findCtx id with
  | none => .next s
  | some c => .next (s.withCtx c fun x =>
      let p := x.part.val
      match x.returns.find? (fun e => e.1 == row), x.rows[row]? with
      | some e, some r =>
        let f : FaultSpec := { fault (if r.kind = .swapT2 then 0x380 else 0x3C2) 0x501 1 r.loc with tag := .ctx c, status := .dataCorrupt }
        if ok && s.swapOk p r then
          let s1 := ((s.swapRead p r e.2).dropRow p r).modCtx c fun y =>
            { y with rows := putRow y.rows row { r with kind := RowKind.here, loc := e.2 }, returns := y.returns.erase e }
          let s2 := (s1.rowsBack p).count Reg.kvaCntSwapIn 1
          if retried then s2.transient f else s2
        else (s.post { f with retried := true }).lowerCtx c
      | _, _ => s)

/-- The extents of KV_SWAP_CONFIG are well formed (R166). -/
def swapExtentsOk (n : Nat) (l : List (Nat × Nat)) : Bool :=
  decide (n ≤ 16) && l.length == n && l.all fun e => e.2 % 65536 == 0

/-- Replace a partition's T2 swap extent by one of so many units (R166, R318). -/
def State.sizeSwapT2 (s : State) (p : Fin 16) (units : Nat) : Option State :=
  let s1 : State := { s with fls := { s.fls with extents := adel s.fls.extents (swapExtent p.val) } }
  if units = 0 then some s1
  else if s.fls.ready = false then none
  else s1.newExtent (swapExtent p.val) false (some p) units

/-- KV_SWAP_CONFIG (R166, R453). -/
def execKvSwapConfig (h : Header) (t2Units : Nat) (nExt : Nat) (extents : List (Nat × Nat)) (rsv : Nat) (s : State) :
    Host.Outcome State Fault Refusal :=
  .next (s.serve { op := 0x0106, replies := 1, vf := true, tenant := false, params := 8 + 16 * nExt, rsv := rsv, addrs := 0,
                   localOnly := false } h false fun r x =>
    let p := h.target
    let q := x.part p
    match x.partRefusal p with
    | some st => x.done r st
    | none =>
      if swapExtentsOk nExt extents = false then x.done r .badField
      else if q.swapHostUsed ≠ [] ∨ q.swapT2Used ≠ [] then x.done r .partitionBusy
      else
        match x.sizeSwapT2 h.part t2Units with
        | none => x.done r .noResource
        | some y => (y.modPart p fun z => { z with swapHost := extents, swapT2 := t2Units }).done r .ok)

/-! ### The inkwell (R153 to R158) -/

/-- A prefix ID that no live entry has (R153). -/
def State.newPrefix (s : State) : Nat :=
  let used := s.kva.inks.map fun k => k.prefixId.toNat
  match leastFree used (used.length + 1) s.kva.nextPrefix with
  | some n => if n < 0xFFFFFFFF then n else (leastFree used (used.length + 1) 0).getD 0
  | none => 0

/-- TAG of an inkwell page (R141). -/
def inkTag (prefixId : Nat) : BitVec 64 := BitVec.ofNat 64 (0xFFFFFFFF * 2 ^ 32 + prefixId)

/-- A private row becomes an inkwell row with the references of the entry and of the source; an inkwell row gains the entry's (R153,
R155). -/
def State.inkRow (s : State) (p : Fin 16) (prefixId : Nat) (r : Row) : State :=
  if r.kind = .inkwell then s.inkHold r.loc
  else
    let n := (s.part p.val).rowFrames
    let sc := (List.range n).foldl (fun (t : Assoc ScaleRec) k =>
      amod t (r.loc + k) fun c => { c with inkwell := true, tag := inkTag prefixId }) s.kva.scales
    { s with kva := { s.kva with scales := sc, inkRows := aput s.kva.inkRows r.loc { count := 2, lastRelease := none, part := p } } }

/-- A context's first rows become inkwell rows, and the entry is made (R153). A parking or swap-out under way begins again with the rows that stay
private. -/
def State.publishRows (s : State) (c : Nat) (e : Ink) : State :=
  let s1 := s.abandonPark c
  s1.withCtx c fun x =>
    let n := e.rows.length
    let s2 := (x.rows.take n).foldl (fun (a : State) w => a.inkRow e.part e.prefixId.toNat w) s1
    let s3 : State := { s2 with kva := { s2.kva with inks := s2.kva.inks ++ [e] } }
    (s3.dropSwapOut x).modCtx c fun z =>
      { z with rows := ((z.rows.take n).map fun w => { w with kind := RowKind.inkwell }) ++ z.rows.drop n, swapOut := [] }

/-- INKWELL_PUBLISH (R153). A parking under way begins again with the rows that stay private. -/
def execInkwellPublish (h : Header) (id : SatchelId) (length : Nat) (pub : Bool) (rsv : Nat) (s : State) :
    Host.Outcome State Fault Refusal :=
  .next (s.serve { op := 0x0307, replies := 1, vf := true, tenant := true, params := 16, rsv := rsv, addrs := 0, localOnly := false } h false
    fun r x => x.withOwned h r id fun slot y =>
      let q := x.part y.part.val
      let rows := ((x.abandonPark (ctxOfSlot slot)).satAt slot).elim [] fun z => z.rows.take (ceilDiv length q.positions)
      if pub ∧ h.origin.partition.isSome then x.done r .protection
      else if (y.state ≠ .ready ∧ y.state ≠ .wait) ∨ x.ready y.part.val = false then x.done r .partitionBusy
      else if length = 0 ∨ y.kvPos < length ∨ q.image.isNone then x.done r .badField
      else if (rows.any fun w => w.kind != .here && w.kind != .inkwell) = true then x.done r .partitionBusy
      else if 65536 ≤ x.kva.inks.length then x.done r .noResource
      else
        let pid := x.newPrefix
        let e : Ink :=
          { prefixId := BitVec.ofNat 32 pid, part := y.part, model := y.model, length := length, rows := rows.map fun w => w.loc,
            tokens := y.log.take length, scope := if pub then none else some y.tenant }
        let x3 := ({ x with kva := { x.kva with nextPrefix := pid + 1 } }).publishRows (ctxOfSlot slot) e
        let x4 := x3.toShards y.part.val true (shardDo id y.kvPos (.publish (BitVec.ofNat 32 pid) length e.scope e.tokens))
        x4.answer r .ok true (leBytes 4 pid))

/-- INKWELL_WITHDRAW (R155). -/
def execInkwellWithdraw (h : Header) (prefixId : BitVec 32) (rsv : Nat) (s : State) : Host.Outcome State Fault Refusal :=
  .next (s.serve { op := 0x0308, replies := 1, vf := true, tenant := false, params := 8, rsv := rsv, addrs := 0, localOnly := false } h false
    fun r x =>
      match x.kva.inks.find? fun k => k.prefixId == prefixId with
      | none => x.done r .alreadyDone
      | some k =>
        if (match h.origin.partition with | some p => p != k.part | none => false) = true then x.done r .protection
        else
          let x1 : State := { x with kva := { x.kva with inks := x.kva.inks.filter fun y => y.prefixId != prefixId } }
          ((k.rows.foldl State.inkRelease x1).toShards k.part.val true (shardDo 0 0 (.withdraw prefixId))).done r .ok)

/-- The epoch slots that live pins and the current epoch take (R157). -/
def Kva.slots (k : Kva) (epoch : Nat) : Nat := (epoch :: (k.pins.filter fun n => !n.saved).map fun n => n.epoch).eraseDups.length

/-- The inkwell epoch advances at a boundary, unless a seventeenth slot would be needed (R157). -/
def State.advanceEpoch (s : State) : State :=
  let e := (s.kva.epoch + 1) % 2 ^ 32
  if 16 < s.kva.slots e then { s with kva := { s.kva with held := true } }
  else { s with kva := { s.kva with epoch := e, held := false } }

/-- A reader pins the current epoch (R157). -/
def State.pin (s : State) (reader : Nat) : State :=
  { s with kva := { s.kva with pins := s.kva.pins ++ [{ epoch := s.kva.epoch, reader := reader, saved := false }] } }

/-- The number of a reader: an engine command and its partition. -/
def readerOf (part core unit seq : Nat) : Nat := ((seq * 128 + core) * 16 + unit) * 16 + part

/-- Pins changed: a slot that emptied ends EPOCH_HELD, and rows that no pin holds are reclaimed (R157, R158). -/
def State.pinsChanged (s : State) : State :=
  ({ s with kva := { s.kva with held := s.kva.held && decide (16 < s.kva.slots ((s.kva.epoch + 1) % 2 ^ 32)) } }).inkReclaimAll

/-- The readers of a pre-empted partition drop their pins (R157). -/
def State.savePins (s : State) (p : Nat) : State :=
  ({ s with kva := { s.kva with pins := s.kva.pins.map fun (n : Pin) => if n.reader % 16 = p then { n with saved := true } else n } }).pinsChanged

/-- They take the then-current epoch when they resume (R157). -/
def State.restorePins (s : State) (p : Nat) : State :=
  { s with kva := { s.kva with pins := s.kva.pins.map fun (n : Pin) =>
      if n.reader % 16 = p ∧ n.saved = true then { n with saved := false, epoch := s.kva.epoch } else n } }

/-- INKWELL_PIN_END (R157, R158): the rows that no count and no pin holds are reclaimed; a slot that empties ends EPOCH_HELD. -/
def execInkwellPinEnd (reader : Nat) (s : State) : Host.Outcome State Fault Refusal :=
  .next ({ s with kva := { s.kva with pins := s.kva.pins.filter fun n => n.reader != reader } } : State).pinsChanged

/-! ### At the ink point (R144, R152, R165) -/

/-- FILL of every row: its positions below KV_POS (R144). -/
def fillRows (positions kvPos : Nat) (rows : List Row) : List Row := rows.mapIdx fun j r => { r with fill := min positions (kvPos - j * positions) }

/-- Free a context's rows from one up, those at ring partners too: each partner holds its rows in order (R147). -/
def State.dropFrom (s : State) (c keep : Nat) : State :=
  s.withCtx c fun x =>
    let q := s.part x.part.val
    let gone := x.rows.drop keep
    let s1 := gone.foldl (fun (a : State) r => a.dropRow x.part.val r) s
    let s2 := q.ringList.zipIdx.foldl (fun (a : State) d =>
      let at_ (l : List Row) : Nat := (l.filter fun r => r.kind == .ring && r.loc == d.2 + 1).length
      if at_ gone = 0 then a
      else a.emit (.shardPlan d.1 s.strokeNow
        [{ id := x.id, alloc := 0, freeFrom := at_ (x.rows.take keep), kvPos := x.kvPos, kill := false, drop := false, acts := [], ring := true }])) s1
    s2.modCtx c fun y => { y with rows := y.rows.take keep }

/-- Rows that a satchel keeps at Commit (R152): those with positions below KV_POS, and those that the next stroke's window meets. The next window is
taken as its tokens that are not stored, at least one while it runs (log entry 126). -/
def Sat.keepRows (x : Sat) (positions : Nat) : Nat :=
  let next := if x.state.ended then 0 else if x.state = .wait then x.log.length - x.kvPos else max 1 (x.log.length - x.kvPos)
  ceilDiv (x.kvPos + next) positions

/-- Rows wholly at or beyond KV_POS and beyond the next window are freed, here and at the satellites; FILL follows KV_POS (R144, R152). -/
def State.freeBeyond (s : State) (slot : Nat) : State :=
  s.withSlot slot fun x =>
    let p := x.part.val
    let q := s.part p
    let keep := x.keepRows q.positions
    let s1 := s.dropFrom (ctxOfSlot slot) keep
    let s2 := s1.modSat slot fun y => { y with rows := fillRows q.positions y.kvPos y.rows }
    if x.rows.length ≤ keep then s2
    else s2.toShards p false { id := x.id, alloc := 0, freeFrom := keep, kvPos := x.kvPos, kill := false, drop := false, acts := [] }

end Sys2Proof.Machine
end

