-- ==== Sys2Proof/Machine/Shards.lean ====
section
/-!
DEFINITION. Machine/Shards.lean: the satellites that this device holds for other owners and for ring partners, and the lodged rows that it keeps for
them, as their owners' plans instruct them (R93, R145 to R153, R165, R166, R225, R233, R244 to R247); and the accepted path that the ink point puts
in order (R165).
-/
namespace Sys2Proof.Machine

/-! ### Satellites (R145, R147) -/

/-- The satellite that an instruction is for. -/
def State.satelliteFor (s : State) (part : Fin 16) (ring : Bool) (id : SatchelId) : Option Nat :=
  (s.sat.satellites.find? fun e => e.2.id == id && e.2.part == part && e.2.partner == ring).map fun e => e.1

/-- A new satellite with a page table, and room for recurrent state (R143, R145); none at the limit, or where T1 has no room. -/
def State.newSatellite (s : State) (part : Fin 16) (owner : DeviceId) (ring reserved : Bool) (id : SatchelId) (tenant : BitVec 16) (cls : Fin 8)
    (adapter : BitVec 16) (version : BitVec 32) (kvPos : Nat) : Option (Nat × State) :=
  if 4194304 ≤ s.sat.satellites.length then none
  else
    match leastFree (s.sat.satellites.map fun e => e.1) (s.sat.satellites.length + 1) 0 with
    | none => none
    | some k =>
      ((s.placeTable (ctxOfSatellite k) Place.none 1).bind fun a =>
        a.2.placeState (ctxOfSatellite k) a.1 (if ring then 0 else (s.part part.val).stateBytes)).map fun b =>
          let y : Satellite :=
            { id := id, tenant := tenant, part := part, cls := cls, state := .admitted, adapter := adapter, adapterVer := version, kvPos := kvPos, place := b.1,
              rows := [], migrating := false, lodge := 0xFFFF, migrated := 0, lodgedAt := s.strokeNow, park := .idle, units := 0, staged := [],
              home := [], cold := [], swapOut := [], returns := [], owner := owner, partner := ring, reserved := reserved, deadAt := none }
          (k, { b.2 with sat := { b.2.sat with satellites := aput b.2.sat.satellites k y } })

/-- A satellite ends with all that it holds. -/
def State.freeSatellite (s : State) (k : Nat) : State :=
  let s1 := (s.freeCtx (ctxOfSatellite k)).unplace (ctxOfSatellite k)
  { s1 with sat := { s1.sat with satellites := adel s1.sat.satellites k } }

/-- SATELLITE_EXPIRY (R225): the owner-loss time passed since the owner of these satellites was reported dead. -/
def execSatelliteExpiry (id : SatchelId) (s : State) : Host.Outcome State Fault Refusal :=
  let due := s.sat.satellites.filter fun e => e.2.id == id && (match e.2.deadAt with | some t => decide (t + s.lossTime ≤ s.stk.time) | none => false)
  .next ((due.map fun e => e.1).foldl State.freeSatellite s)

/-- A satellite's rows after a hand-over within a harness (R146): they lodge at the same shard of the sending instance. Their handles there are no
state of this device. -/
def State.lodgedRows (s : State) (n : Nat) : List Row × State :=
  ((List.range n).map fun k => { kind := .lodged, fill := 0, loc := Config.freeValue (s.freeCtr + k) }, { s with freeCtr := s.freeCtr + n })

/-- A reserved satellite takes over (R146): lodged, or with the rows that came. -/
def State.commitSatellite (s : State) (k : Nat) (lodge : DeviceId) (st : SatState) (rows : Nat) : State :=
  let c := ctxOfSatellite k
  let s0 : State := { s with sat := { s.sat with satellites := amod s.sat.satellites k fun y => { y with reserved := false } } }
  s0.withCtx c fun x =>
    if lodge = 0xFFFF#16 then
      match s0.allocRows x.part.val x.id rows with
      | none => (s0.freeCtx c).emit (.shardLoss (match afind s.sat.satellites k with | some y => y.owner | none => 0) x.id)
      | some (l, s1) =>
        let s2 := l.foldl (fun (a : State) h => a.fillFree (a.part x.part.val) h) s1
        let s3 := s2.modCtx c fun y => { y with rows := l.map hereRow, state := if st = .parkedWarm then .wait else st }
        if st = .parkedWarm then s3.startPark false c (s3.rawUnits c { x with rows := l.map hereRow }) else s3
    else
      let l := s0.lodgedRows rows
      l.2.modCtx c fun y => { y with rows := l.1, state := st, migrating := decide (rows ≠ 0), lodge := lodge, lodgedAt := s.strokeNow }

/-- The rows of a satellite stay here as a lodging, when its satchel's hand-over commits (R93, R146). -/
def State.lodgeSatellite (s : State) (k : Nat) (dev : DeviceId) : State :=
  s.withCtx (ctxOfSatellite k) fun x =>
    let keep := x.rows.filter fun r => r.kind == .here || r.kind == .inkwell
    let s1 := s.modCtx (ctxOfSatellite k) fun y => { y with rows := y.rows.filter fun r => !keep.contains r }
    if keep.isEmpty then s
    else { s1 with sat := { s1.sat with
      lodgings := s1.sat.lodgings ++ [{ id := x.id, tenant := x.tenant, owner := dev, part := x.part, rows := keep, deadAt := none }] } }

/-! ### Positions that another device holds (R93, R147, R150, R165) -/

/-- The row of this device that another one names: the ring partner's n-th, or a lodged one by its first handle. -/
def State.rowNamed (s : State) (part : Fin 16) (id : SatchelId) (ring : Bool) : RowAt → Option (Nat × Nat)
  | .ring n => ((s.satelliteFor part ring id).bind fun k => (s.ctxAt (ctxOfSatellite k)).bind fun x => x.rows[n]?).bind fun r =>
      if r.kind = .here then some (part.val, r.loc) else none
  | .lodged first => (s.sat.lodgings.find? fun l => l.id == id && l.rows.any fun r => r.kind == .here && r.loc == first).map fun l => (l.part.val, first)

/-- Write keys or values of one head at a position of such a row (R150). -/
def State.appendAt (s : State) (part : Fin 16) (id : SatchelId) (ring : Bool) (row : RowAt) (layer head half at_ : Nat) (values : List (BitVec 32)) :
    State :=
  match s.rowNamed part id ring row with
  | none => s
  | some (p, first) =>
    match (s.part p).image with
    | none => s
    | some im =>
      let f := (s.part p).headFrame im first layer head
      (s.writeHead im f.1 layer f.2 half [(at_, values.map f32)]).1

/-- A satchel's row that another device holds: the device, and how the row is named there. -/
def State.rowAway (s : State) (x : KvCtx) (j : Nat) : Option (DevPart × RowAt) :=
  match x.rows[j]? with
  | some r =>
    match r.kind with
    | .ring => ((s.part x.part.val).ringList[r.loc - 1]?).map fun d =>
        (d, .ring ((x.rows.take j).filter fun y => y.kind == .ring && y.loc == r.loc).length)
    | .lodged => if x.lodge = s.me then none else some ({ dev := x.lodge, part := 0 }, .lodged r.loc)
    | _ => none
  | none => none

/-- The row of a context where its frames lie in this device's arena. -/
def State.rowLocal (s : State) (x : KvCtx) (j : Nat) : Option Nat :=
  match x.rows[j]? with
  | some r => if r.kind = .here ∨ (r.kind = .lodged ∧ x.lodge = s.me) then some r.loc else none
  | none => none

/-- Tell a device that holds rows of a satchel what to do with them. -/
def State.tellHolder (s : State) (x : KvCtx) (d : DevPart) (a : ShardAct) : State :=
  s.emit (.shardPlan d s.strokeNow [{ shardDo x.id x.kvPos a with ring := true }])

/-- Keys and values of every layer, head and half of a position go to a device that holds the row (R150, R165). -/
def State.sendPos (s : State) (x : KvCtx) (d : DevPart) (row : RowAt) (at_ : Nat) (value : State → Nat → Nat → Nat → List (BitVec 32)) : State :=
  match (s.part x.part.val).image with
  | none => s
  | some im =>
    ((s.part x.part.val).headsOf im).foldl (fun (a : State) e =>
      a.tellHolder x d (.append row e.1 e.2.1 e.2.2 at_ (value a e.1 e.2.1 e.2.2))) s

/-- Free values for a position that comes from another device: what it holds is no state of this one (log entry 8). -/
def State.freePos (s : State) (x : KvCtx) (first at_ : Nat) : State :=
  match (s.part x.part.val).image with
  | none => s
  | some im =>
    ((s.part x.part.val).headsOf im).foldl (fun (a : State) e =>
      let f := (a.part x.part.val).headFrame im first e.1 e.2.1
      let w := im.kv.span f.2 at_
      { a.physWrite (a.frameAddr f.1 + e.2.2 * 0x8000 + w.1) (freeBytes a.freeCtr w.2) with freeCtr := a.freeCtr + w.2 }) s

/-- Move the keys and values of one position of a context to another (R165), in the arena or at the devices that hold the rows. -/
def State.movePos (s : State) (x : KvCtx) (from_ to_ : Nat) : State :=
  let q := s.part x.part.val
  let j := from_ / q.positions
  let k := to_ / q.positions
  let a := from_ % q.positions
  let b := to_ % q.positions
  match s.rowLocal x j, s.rowLocal x k, s.rowAway x j, s.rowAway x k with
  | some h, some g, _, _ => s.moveHere x.part.val h a g b
  | some h, none, _, some (d, row) => s.sendPos x d row b fun t layer head half =>
      match q.image with
      | some im => (let f := q.headFrame im h layer head
          (t.pageValues im.kv f.1 half f.2 a).map toF32)
      | none => []
  | none, some g, some _, _ => s.freePos x g b
  | none, none, some (d1, r1), some (d2, r2) =>
    if d1 = d2 then s.tellHolder x d1 (.move r1 a r2 b)
    else
      let n := match q.image with | some im => im.kv.headDim | none => 0
      s.sendPos x d2 r2 b fun t _ _ _ => (List.range n).map fun i => BitVec.ofNat 32 (Config.freeValue (t.freeCtr + i))
  | _, _, _, _ => s

/-- Move an accepted path's nodes of a context into order (R165): node aj goes from CTX + aj to CTX + j. -/
def State.movePath (s : State) (c ctx : Nat) (path : List Nat) : State :=
  s.withCtx c fun x => (path.zipIdx).foldl (fun (a : State) e => if e.1 = e.2 then a else a.movePos x (ctx + e.1) (ctx + e.2)) s

/-! ### Instructions (R145, R147, R233, R244) -/

/-- A satellite takes the rows of its window that it lacks (R147, R149); one that cannot be made present leaves it as it was. -/
def State.satelliteRows (s : State) (c n : Nat) : State :=
  s.withCtx c fun x =>
    match s.presentRows c ((List.range n).map fun k => x.rows.length + k) with
    | some s1 => s1
    | none => s.count Reg.plnCntDefer 1

/-- Swap a satellite's rows out with its satchel's (R145, R166). -/
def State.satelliteSwap (s : State) (c : Nat) : State :=
  s.withCtx c fun x =>
    match s.swapRows c x.part.val x.toSwap with
    | some s1 => s1
    | none => { s with kva := { s.kva with swapFull := true } }

/-- Ask for a satellite's swapped rows (R145, R168). -/
def State.satelliteReturn (s : State) (c : Nat) : State :=
  s.withCtx c fun x =>
    match s.allocRows x.part.val x.id x.toReturn.length with
    | some (h, s1) => s1.modCtx c fun y => { y with returns := y.returns ++ x.toReturn.zip h }
    | none => s

/-- Park a satellite with its satchel (R145, R147), where its tier takes it. -/
def State.satellitePark (s : State) (c : Nat) (cold : Bool) : State :=
  s.withCtx c fun x =>
    let need := s.rawUnits c x
    if x.park ≠ .idle ∨ (cold = true ∧ s.t2Writable = false) ∨ (s.poolRefusal cold x.tenant need).isSome then s
    else (s.modCtx c fun y => { y with state := if y.state = .parkedWarm then .parkedWarm else .wait }).startPark cold c need

/-- Publish a satellite's first rows under the owner's prefix ID (R153). -/
def State.satellitePublish (s : State) (c : Nat) (prefixId : BitVec 32) (length : Nat) (scope : Option (BitVec 16)) (tokens : List Token) : State :=
  s.withCtx c fun x =>
    let rows := ((s.abandonPark c).ctxAt c).elim [] fun y => y.rows.take (ceilDiv length (s.part x.part.val).positions)
    s.publishRows c { prefixId := prefixId, part := x.part, model := (s.part x.part.val).modelId, length := length,
                      rows := rows.map fun r => r.loc, tokens := tokens, scope := scope }

/-- Drop an inkwell entry (R155). -/
def State.dropInk (s : State) (prefixId : BitVec 32) : State :=
  match s.kva.inks.find? fun k => k.prefixId == prefixId with
  | none => s
  | some k => k.rows.foldl State.inkRelease { s with kva := { s.kva with inks := s.kva.inks.filter fun y => y.prefixId != prefixId } }

/-- The adapter versions of a partition follow the owner's (R245 to R247). -/
def adapterChange (l : List AdapterVer) (id : BitVec 16) (version : BitVec 32) : AdapterAct → List AdapterVer
  | .current => l.map fun v => if v.id = id then { v with current := v.version == version } else v
  | .free => l.filter fun v => !(v.id == id && v.version == version)
  | .unload => l.map fun v => if v.id = id then { v with current := false } else v

/-- A satellite is made, with the rows of the prefix that the admission names (R145, R154); or the owner learns that it cannot be. -/
def State.makeSatellite (s : State) (part : Fin 16) (owner : DeviceId) (i : ShardInstr) (reserved : Bool) (tenant : BitVec 16)
    (cls : Fin 8) (adapter : BitVec 16) (version prefixId : BitVec 32) : State :=
  match s.newSatellite part owner i.ring reserved i.id tenant cls adapter version i.kvPos with
  | none => s.emit (.shardLoss owner i.id)
  | some (k, s1) =>
    match s1.kva.inks.find? fun e => e.prefixId == prefixId && e.part == part with
    | none => s1
    | some e =>
      e.rows.foldl State.inkHold (s1.modCtx (ctxOfSatellite k) fun y => { y with rows := inkRows e (s1.part part.val).positions })

/-- One thing that a satellite, or this device for its owner, is to do. -/
def State.shardAct (s : State) (part : Fin 16) (owner : DeviceId) (i : ShardInstr) (a : ShardAct) : State :=
  let on (f : Nat → State) : State := match s.satelliteFor part i.ring i.id with | some k => f k | none => s
  match a with
  | .create tenant cls adapter version prefixId => s.makeSatellite part owner i false tenant cls adapter version prefixId
  | .reserve tenant cls adapter version => s.makeSatellite part owner i true tenant cls adapter version 0xFFFFFFFF
  | .commit lodge st rows => on fun k => s.commitSatellite k lodge st rows
  | .release => on fun k => s.freeSatellite k
  | .lodgeFor dev => on fun k => s.lodgeSatellite k dev
  | .copy row => on fun k => (match s.presentRow (ctxOfSatellite k) row with | some s1 => s1 | none => s.count Reg.plnCntDefer 1)
  | .park cold => on fun k => s.satellitePark (ctxOfSatellite k) cold
  | .revive => on fun k => s.beginRevive (ctxOfSatellite k) false
  | .swapOut => on fun k => s.satelliteSwap (ctxOfSatellite k)
  | .swapIn => on fun k => s.satelliteReturn (ctxOfSatellite k)
  | .publish prefixId length scope tokens => on fun k => s.satellitePublish (ctxOfSatellite k) prefixId length scope tokens
  | .withdraw prefixId => s.dropInk prefixId
  | .path ctx nodes => on fun k => s.movePath (ctxOfSatellite k) ctx nodes
  | .rebind version => on fun k => s.modCtx (ctxOfSatellite k) fun y => { y with adapterVer := version }
  | .planned row => s.modPart part.val fun q => { q with rankRows := q.rankRows ++ [(i.id, row)] }
  | .shards list => s.modPart part.val fun q => { q with shardList := list }
  | .adapter id version act => s.modPart part.val fun q => { q with adapters := adapterChange q.adapters id version act }
  | .append row layer head half at_ values => s.appendAt part i.id i.ring row layer head half at_ values
  | .move src srcAt dst dstAt =>
    match s.rowNamed part i.id i.ring src, s.rowNamed part i.id i.ring dst with
    | some f, some t => s.moveHere f.1 f.2 srcAt t.2 dstAt
    | _, _ => s

/-- One instruction of an owner's plan (R145, R147, R244): what it is to do, the rows that it frees and takes, the kill set, its end. -/
def State.shardInstr (s : State) (part : Fin 16) (owner : DeviceId) (i : ShardInstr) : State :=
  let s0 := if i.ring ∧ i.alloc ≠ 0 ∧ (s.satelliteFor part true i.id).isNone then
      s.makeSatellite part owner i false 0xFFFF 0 0xFFFF 0 0xFFFFFFFF
    else s
  let s1 := i.acts.foldl (fun (a : State) x => a.shardAct part owner i x) s0
  match s1.satelliteFor part i.ring i.id with
  | none => s1
  | some k =>
    let c := ctxOfSatellite k
    if i.drop then s1.freeSatellite k
    else
      let s2 := (s1.modCtx c fun y => { y with kvPos := i.kvPos }).dropFrom c i.freeFrom
      let s3 := if i.ring then s2 else s2.modCtx c fun y => { y with rows := fillRows (s.part part.val).positions y.kvPos y.rows }
      let s4 := s3.satelliteRows c i.alloc
      if i.kill then
        if 256 ≤ (s4.part part.val).kill.length then s4.count Reg.plnCntKillOvf 1
        else s4.modPart part.val fun q => { q with kill := c :: q.kill }
      else s4

/-- SHARD_PLAN_RECEIVE (R145, R147, R233, R244). -/
def execShardPlanReceive (part : Fin 16) (owner : DeviceId) (_stroke : Nat) (instrs : List ShardInstr) (s : State) :
    Host.Outcome State Fault Refusal :=
  .next (instrs.foldl (fun a i => a.shardInstr part owner i) s)

end Sys2Proof.Machine
end

