-- ==== Sys2Proof/Machine/Partitions.lean ====
section
/-!
DEFINITION. Machine/Partitions.lean: partitions from composition to scrubbing, suspension, instances, adapters, and the tenants' budgets
and grants (chapter 07 with R393 and R453).
-/
namespace Sys2Proof.Machine

/-! ### Slices, cores and windows of a partition (R194, R218, R448) -/

/-- A core is in service (R213): start-up training has completed (R34) and it is not isolated. -/
def State.coreInService (s : State) (c : Nat) : Bool := s.memory.t0Ready && !s.flag (Reg.coreCtrl c) 0

/-- A slice is in service when its eight cores are (R34, R218). -/
def State.sliceInService (s : State) (k : Nat) : Bool := (List.range 8).all fun i => s.coreInService (8 * k + i)

/-- Cores of a slice mask, ascending. -/
def coresOf (mask : Nat) : List Nat := (List.range 128).filter fun c => bitAt mask (c / 8)

/-- Physical address of a core's SRAM (R260). -/
def sramBase (core : Nat) : Nat := 2 ^ 42 + 2 ^ 32 + 0x800000 * core

/-- Physical address of a slice's T0 range (R260). -/
def t0Base (slice : Nat) : Nat := 2 ^ 42 + 0x10000000 * slice

/-- Zero the core SRAM of a slice mask. -/
def State.zeroSram (s : State) (mask : Nat) : State :=
  { s with memory := { s.memory with mem := (coresOf mask).foldl (fun m c => memZero m (sramBase c) 0x500000) s.memory.mem } }

/-- Zero the T0 ranges of a slice mask. -/
def State.zeroT0 (s : State) (mask : Nat) : State :=
  { s with memory := { s.memory with mem := (onesOf 16 mask).foldl (fun m k => memZero m (t0Base k) 0x10000000) s.memory.mem } }

/-- A partition's window is enabled when the partition leaves FREE (R448); during a drain the enable is latched (R497). -/
def State.windowOn (s : State) (p : Nat) : State :=
  s.modWindow (16 + p) fun w =>
    match w.state with
    | .disabled => { w with state := .enabled, cons := 0 }
    | .draining => { w with pend := true }
    | _ => w

/-- A partition's window drains with its partition (R448); an enable that was latched is cancelled (R497). -/
def State.windowDrain (s : State) (p : Nat) : State :=
  s.modWindow (16 + p) fun w =>
    match w.state with
    | .enabled | .error => { w with state := .draining }
    | .draining => { w with pend := false }
    | .disabled => w

/-! ### The parameter block (R231) -/

/-- VA of an offset of the device window (R274). -/
def windowVa (off : Nat) : Nat := 0xF0000000000000 + off

/-- Entries of SHARD_LIST or RING_LIST (R231). -/
def devPartBytes (l : List DevPart) : List Byte :=
  (l.map fun d => leBytes 2 d.dev.toNat ++ leBytes 1 d.part.val ++ zeros 1).flatten

/-- The parameter block up to its last field (R231). -/
def State.paramBytes (s : State) (p : Nat) : List Byte :=
  let q := s.part p
  let va (off : Nat) : List Byte := leBytes 8 (windowVa (0x010000000000 + off))
  leBytes 2 1 ++ leBytes 2 s.me.toNat ++ leBytes 1 p ++ leBytes 1 q.role ++ leBytes 1 (2 * b2n q.degraded + b2n q.sprint) ++
    leBytes 1 q.shadow ++ leBytes 2 q.slices.toNat ++ leBytes 2 q.modelId.toNat ++ leBytes 2 q.shard ++ leBytes 2 q.shardList.length ++
    leBytes 2 q.maxRows ++ leBytes 2 q.c0Rows ++ leBytes 2 q.chunkMax ++ leBytes 1 q.nRing ++ zeros 1 ++ leBytes 4 q.maskSlots ++
    leBytes 4 q.frames ++ leBytes 6 q.composeStroke ++ leBytes 2 q.draftEntries ++ zeros 8 ++
    (match q.image with
     | some im =>
       padTo 128 (im.bytes.take 128) ++ va im.weightsOff ++ (if im.substLayer = 0 then zeros 8 else va im.exitOff) ++
         (if im.ropeOff = 0 then zeros 8 else va im.ropeOff)
     | none => zeros 152) ++
    leBytes 8 (windowVa 0x030000000000) ++ leBytes 8 (windowVa 0x038000000000) ++ leBytes 8 (windowVa 0x020000000000) ++ zeros 32 ++
    padTo 16384 (devPartBytes q.shardList) ++ padTo 64 (devPartBytes q.ringList)

/-- Write a partition's parameter block (R231). -/
def State.writeParams (s : State) (p : Nat) : State := s.physWrite (s.part p).paramAddr (s.paramBytes p)

/-- Set DEGRADED from its causes (R225, R286), and rewrite the parameter block when it changes (R231). -/
def State.setDegraded (s : State) (p : Nat) : State :=
  let q := s.part p
  let d := !q.deadShards.isEmpty || q.weightsLost
  if q.degraded = d then s else (s.modPart p fun y => { y with degraded := d }).writeParams p

/-! ### Checks of a composition (R137, R138, R219, R220, R224, R232) -/

/-- A KV layout record from its 32 bytes (R137). -/
def KvLayout.ofBytes (l : List Byte) : KvLayout :=
  { layers := fieldAt l 0x00 2, kvHeads := fieldAt l 0x02 2, headDim := fieldAt l 0x04 2, format := fieldAt l 0x06 1, log2P := fieldAt l 0x07 1,
    log2G := fieldAt l 0x08 1, headroom := fieldAt l 0x09 1, log2Ring := fieldAt l 0x0A 1, ringAt := fieldAt l 0x0C 4, shards := fieldAt l 0x10 2,
    maxContext := fieldAt l 0x14 4, calAddr := fieldAt l 0x18 8, rsv := fieldAt l 0x0B 1 + fieldAt l 0x12 2 }

/-- What can be read at once of a source gives its KV layout record (R220). -/
def SrcFact.kv (f : SrcFact) : KvLayout := KvLayout.ofBytes f.record

/-- A model image's CHECK matches (R228): the CRC-64 over the image with that field taken as zero. -/
def imageCheck (l : List Byte) : Bool :=
  let n := fieldAt l 0x48 8
  decide (128 ≤ n ∧ n ≤ l.length) && crc64 ((l.take 0x50) ++ zeros 8 ++ (l.take n).drop 0x58) == fieldAt l 0x50 8

/-- A model image from what was read (R228): the first reading, or after a failed check the second. -/
def ImageFact.decode (f : ImageFact) : ModelImage :=
  let l := if imageCheck f.first then f.first else f.second
  { modelId := BitVec.ofNat 16 (fieldAt l 0x00 2), substLayer := fieldAt l 0x02 2, vocab := fieldAt l 0x04 4,
    kv := KvLayout.ofBytes ((l.drop 0x08).take 32), ropeOff := fieldAt l 0x28 8, progOff := fieldAt l 0x30 8, exitOff := fieldAt l 0x38 8,
    weightsOff := fieldAt l 0x40 8, imageLen := fieldAt l 0x48 8, check := BitVec.ofNat 64 (fieldAt l 0x50 8), rsv := fieldAt l 0x58 40,
    checkOk := imageCheck f.first, recheckOk := imageCheck f.second, bytes := l, weightBytes := f.weightBytes, eosTokens := f.eosTokens,
    stateBytes := f.stateBytes, stateWidth := f.stateWidth }

/-- A KV layout record keeps every constraint of R137 and R138. -/
def KvLayout.valid (k : KvLayout) : Bool :=
  decide (1 ≤ k.layers ∧ k.layers ≤ 1024) && decide (1 ≤ k.kvHeads ∧ k.kvHeads ≤ 1024) && [64, 128, 256].contains k.headDim &&
    decide (1 ≤ k.format ∧ k.format ≤ 2) && decide (4 ≤ k.log2P ∧ k.log2P ≤ 8) && decide (k.log2G ≤ 5) && decide (k.headroom ≤ 3) &&
    decide (k.log2Ring ≤ 4) && k.rsv == 0 && k.ringAt % 2 ^ k.log2P == 0 && decide (1 ≤ k.shards ∧ k.shards ≤ 64) &&
    k.maxContext % 2 ^ k.log2P == 0 && decide (2 ^ k.log2P ≤ k.maxContext ∧ k.maxContext ≤ 16777216) &&
    decide (2 ^ k.log2G * 2 ^ k.log2P * k.headDim * k.codeBits ≤ 262144) && k.kvHeads % (2 ^ k.log2G * k.shards) == 0 &&
    decide (k.layers * (k.kvHeads / (2 ^ k.log2G * k.shards)) ≤ 16384)

/-- The instance fields agree with a layout record (R219, R232). -/
def ComposeParams.fits (c : ComposeParams) (k : KvLayout) : Bool :=
  k.valid && c.nRing == 2 ^ k.log2Ring && (if c.sprint = 1 then decide (k.shards ≤ c.nShard) else c.nShard == k.shards)

/-- Every field lies in its range (R219, R232). -/
def ComposeParams.inRange (c : ComposeParams) : Bool :=
  decide (c.role ≤ 2) && decide (c.sprint ≤ 1) && (c.sprint == 0 || (c.role == 1 && c.slices == 0xFFFF#16)) && c.slices != 0 &&
    ((c.role == 2) == (c.modelId == 0xFFFF#16)) && (c.role == 2 || decide (c.source ≤ 3 ∧ c.srcPart ≤ 15)) && decide (c.maskSlots ≤ 65536) &&
    decide (1 ≤ c.maxRows ∧ c.maxRows ≤ 16384) && decide (c.c0Rows ≤ c.maxRows) && decide (64 ≤ c.chunkMax ∧ c.chunkMax ≤ 4096) &&
    c.chunkMax % 64 == 0 && decide (c.shadow ≤ 2) && c.shardList.length == c.nShard && decide (c.shard < c.nShard) &&
    decide (1 ≤ c.nRing ∧ c.nRing ≤ 16) && c.ringList.length + 1 == c.nRing &&
    (if c.sprint = 1 then decide (2 ≤ c.nShard ∧ c.nShard ≤ 4096) else decide (c.nShard ≤ 64)) &&
    (c.shardList ++ c.ringList).all fun d => decide (d.dev.toNat < 2 ^ 14)

/-- The slices that a partition holds, or that a composition accepted for it will hold. -/
def Part.claimed (q : Part) : Nat :=
  match q.composing with
  | some c => q.slices.toNat ||| c.params.slices.toNat
  | none => q.slices.toNat

/-- Another partition in given states shares a slice with a mask. -/
def State.overlap (s : State) (p mask : Nat) (f : Part → Bool) : Bool :=
  (List.range 16).any fun k => k != p && f (s.part k) && (s.part k).claimed &&& mask != 0

/-- A slice of the mask is still draining from another partition (R221). -/
def State.slicesDraining (s : State) (p mask : Nat) : Bool := s.overlap p mask fun q => q.state == .draining

/-- Frames that no other partition's range takes (KVA_ARENA_FREE, with the partition's own). -/
def State.framesLeft (s : State) (p : Nat) : Nat :=
  if s.kva.ready then
    s.fld Reg.kvaArenaCfg 25 0 - ((List.range 16).filter fun k => k != p).foldl (fun a k => a + (s.part k).frames) 0
  else 0

/-- The lowest run of free handles for a partition's range (R135, R220). -/
def State.arenaRun (s : State) (p frames : Nat) : Option Nat :=
  let others := ((List.range 16).filter fun k => k != p && (s.part k).frames != 0).map fun k => ((s.part k).base, (s.part k).frames)
  if frames = 0 then some 0
  else
    ((0 :: others.map fun e => e.1 + e.2).filter fun b =>
      s.kva.ready && decide (b + frames ≤ s.fld Reg.kvaArenaCfg 25 0) &&
        others.all fun e => decide (b + frames ≤ e.1 ∨ e.1 + e.2 ≤ b)).min?

/-- Bytes of a save area (R251). -/
def saveBytes (mask : Nat) : Nat := 65536 + (coresOf mask).length * 0x540000

/-- Bytes of a logit-mask slot (R207). -/
def maskSlotBytes (vocab : Nat) : Nat := roundUp (ceilDiv vocab 8) 64

/-- Most weight bytes of a sprint rank (R232). -/
def sprintLimit : Nat := 4480 * 2 ^ 20

/-- Carve the logit-mask slots and the weights of a partition (R220, R222); a sprint rank's weights lie in T0 (R232). -/
def State.carveModel (s : State) (p : Nat) (sprint : Bool) (slots vocab imageLen : Nat) : Option State :=
  match s.carve (partOwner p) (slots * maskSlotBytes vocab) with
  | none => none
  | some (m, s1) =>
    let put (a : State) (w : Nat) : State :=
      a.modPart p fun q => { q with maskAddr := m, maskBytes := slots * maskSlotBytes vocab, weightAddr := w }
    if sprint then some (put s1 (t0Base 0)) else (s1.carve (partOwner p) imageLen).map fun r => put r.2 r.1

/-- Carve what a composition needs (R222, R231, R240, R251), after what the partition had is given back. -/
def State.carveAll (s : State) (p : Nat) (c : ComposeParams) (src : Option SrcFact) : Option State :=
  match (s.uncarve (partOwner p)).carve (partOwner p) (saveBytes c.slices.toNat) with
  | none => none
  | some (a, s1) =>
    match s1.carve (partOwner p) 65536 with
    | none => none
    | some (b, s2) =>
      match s2.carve (partOwner p) (1024 * c.maxRows) with
      | none => none
      | some (d, s3) =>
        let s4 := s3.modPart p fun q => { q with saveAddr := a, paramAddr := b, draftAddr := d, draftEntries := c.maxRows }
        match src with
        | some f => if c.role = 2 then some s4 else s4.carveModel p (c.sprint == 1) c.maskSlots f.vocab f.imageLen
        | none => some s4

/-- The partition holds a satchel, a satellite, an inkwell entry, lodged rows, or a hand-over under way (R94, R222, R224). -/
def State.holds (s : State) (p : Fin 16) : Bool :=
  (s.sat.sats.any fun e => e.2.part == p) || (s.sat.satellites.any fun e => e.2.part == p) || (s.kva.inks.any fun e => e.part == p) ||
    (s.sat.lodgings.any fun e => e.part == p) || s.sat.incoming.any fun e => e.part == p

/-- The checks of R220 (with R219, R224 and R232) but for the slices that still drain. -/
def State.composeCheck (s : State) (p : Fin 16) (c : ComposeParams) (src : Option SrcFact) : Option Status :=
  let q := s.part p.val
  if q.composing.isSome ∨ (q.state ≠ .free ∧ (q.state ≠ .ready ∨ q.suspendTag.isSome ∨ s.holds p = true)) then some .partitionBusy
  else if q.state = .ready ∧ c.slices ≠ q.slices then some .badField
  else if s.overlap p.val c.slices.toNat fun y => y.state != .draining then some .partitionBusy
  else if (onesOf 16 c.slices.toNat).any (fun k => !s.sliceInService k) = true then some .noResource
  else if c.role ≠ 2 ∧ c.source = 1 ∧
      (c.srcPart = p.val ∨ (s.part c.srcPart).state ≠ .ready ∨ (s.part c.srcPart).modelId ≠ c.modelId) then some .badField
  else if c.inRange = false ∨ (c.role ≠ 2 ∧ (match src with | some f => !c.fits f.kv | none => false) = true) ∨
      (c.role ≠ 2 ∧ c.source = 2 ∧ 2 ^ 14 ≤ c.srcDev.toNat) ∨ (s.fld Reg.kvaArenaCfg 25 0 ≠ 0 ∧ s.framesLeft p.val < c.frames) then some .badField
  else none

/-- There is room for what a composition carves (R220). -/
def State.composeRoom (s : State) (p : Nat) (c : ComposeParams) (src : Option SrcFact) : Bool :=
  (c.frames == (s.part p).frames || (s.arenaRun p c.frames).isSome) && (s.carveAll p c src).isSome &&
    !(c.sprint == 1 && match src with | some f => decide (sprintLimit < f.weightBytes) | none => false)

/-! ### Beginning a composition (R222, R224, R226) -/

/-- Weights of the engines of a partition's own slices (R226). -/
def State.setShares (s : State) (p mask owner : Nat) : State :=
  (onesOf 16 mask).foldl (fun (a : State) k =>
    (List.range 4).foldl (fun (b : State) i => b.setReg (Reg.plnShare k i) (if i = p / 4 then owner * 2 ^ (8 * (p % 4)) else 0)) a) s

/-- Nothing of a partition runs any more: the threads of its slices stop, and its commands leave every queue. -/
def State.clearCores (s : State) (p mask : Nat) : State :=
  { s with cores := { s.cores with
      threads := s.cores.threads.filter fun t => !bitAt mask (t.1 / 512),
      queues := amap (fun l => l.filter fun (c : CoreCmd) => c.part.val != p) s.cores.queues } }

/-- Release a partition's T2 swap extent (R166, R318). -/
def State.dropSwapExtent (s : State) (p : Nat) : State := { s with fls := { s.fls with extents := adel s.fls.extents (1008 + p) } }

/-- A composition's outcome other than READY, before the partition changed (R220, R461). -/
def State.composeOut (s : State) (p : Nat) (tag : Word) (st : Status) : State :=
  (s.modPart p fun q => { q with composing := none }).partEvent p 0x0100 tag st

/-- COMPOSING begins, at a boundary (R222): slices marked, core SRAM zeroed, range and carve-outs taken, vectors cleared. Where the room
has gone since the acceptance, the event carries NO_RESOURCE and nothing changes. -/
def State.startCompose (s : State) (p : Nat) : State :=
  let q := s.part p
  match q.composing with
  | none => s
  | some c =>
    let v := c.params
    if s.composeRoom p v c.src = false then s.composeOut p c.tag .noResource
    else
      let base := if v.frames = q.frames ∧ q.state = .ready then q.base else (s.arenaRun p v.frames).getD 0
      let new : Part := { Part.reset with
        state := .composing, composing := some c, slices := v.slices, role := v.role, sprint := v.sprint == 1, modelId := v.modelId,
        shard := v.shard, shardList := v.shardList, ringList := v.ringList, nRing := v.nRing, base := base, frames := v.frames,
        maskSlots := v.maskSlots, maxRows := v.maxRows, c0Rows := v.c0Rows, chunkMax := v.chunkMax, shadow := v.shadow }
      let s1 := ((s.clearCores p v.slices.toNat).zeroSram v.slices.toNat).dropSwapExtent p
      match (s1.modPart p fun _ => new).carveAll p v c.src with
      | none => s.composeOut p c.tag .noResource
      | some s2 =>
        let s3 := (s2.setReg (Reg.plnPCfg p) (v.maxRows * 65536 + v.chunkMax)).setReg (Reg.plnPC0 p) (v.shadow * 65536 + v.c0Rows)
        let s4 := s3.setShares p v.slices.toNat 255
        if q.state = .free then s4.windowOn p else s4

/-! ### Draining (R222, R223) -/

/-- A partition begins to drain: its window drains, its threads stop and its connections fail (R222, R385, R448). -/
def State.beginDrain (s : State) (p : Nat) (tag : Option (Nat × Word)) : State :=
  let mask := (s.part p).slices.toNat
  let s1 := (s.modPart p fun q => { q with state := .draining, composing := none, drainTag := tag, suspendTag := none, resumeTag := none,
                                           resumeLatched := false, readyAt := false }).windowDrain p
  let s2 : State := { s1 with cores := { s1.cores with
    threads := s1.cores.threads.map fun t => if bitAt mask (t.1 / 512) then (t.1, { t.2 with state := .stopped }) else t } }
  let mine := s2.xpt.conns.filter fun c => c.2.localPart.val == p && !c.2.device &&
    (c.2.state == .opened || c.2.state == .opening || c.2.state == .closing)
  mine.foldl (fun (a : State) c => a.failConn c.1) s2

/-- A composition that cannot go on (R222): the event, and a drain without one of its own. -/
def State.failCompose (s : State) (p : Nat) (st : Status) : State :=
  match (s.part p).composing with
  | some c => (s.partEvent p 0x0100 c.tag st).beginDrain p none
  | none => s

/-- PARTITION_COMPOSE (R220, R221, R224). -/
def execPartitionCompose (h : Header) (c : ComposeParams) (src : Option SrcFact) (s : State) : Host.Outcome State Fault Refusal :=
  .next (s.serve { op := 0x0100, replies := 1, vf := false, tenant := false, params := 40 + 4 * c.nShard + 4 * (c.nRing - 1), rsv := c.rsv,
                   addrs := b2n (c.source == 0), localOnly := false } h false fun r x =>
    let p := h.part
    if (x.part p.val).held.isSome then x.done r .noResource
    else
      match x.composeCheck p c src with
      | some st => x.done r st
      | none =>
        let m : Composing := { params := c, tag := r.tag, src := src, recompose := x.ready p.val, zeroed := false, inPlace := false }
        if x.composeRoom p.val c src = false then x.done r .noResource
        else if x.slicesDraining p.val c.slices.toNat then (x.modPart p.val fun q => { q with held := some m }).done r .pendingEnable
        else (x.modPart p.val fun q => { q with composing := some m }).done r .accepted)

/-- HELD_COMPOSE_START (R221): at the first boundary after the drain, with the checks made again. -/
def execHeldComposeStart (part : Fin 16) (s : State) : Host.Outcome State Fault Refusal :=
  match (s.part part.val).held with
  | none => .next s
  | some m =>
    if s.slicesDraining part.val m.params.slices.toNat then .next s
    else
      let s1 := s.modPart part.val fun q => { q with held := none }
      match s1.composeCheck part m.params m.src with
      | some st => .next (s1.partEvent part.val 0x0100 m.tag st)
      | none => .next ((s1.modPart part.val fun q => { q with composing := some m }).startCompose part.val)

/-- What ends a composition when its image is read (R137, R222, R228, R232). -/
def imageFault (c : ComposeParams) (im : ModelImage) : Option Status :=
  if im.modelId ≠ c.modelId ∨ im.rsv ≠ 0 then some .badField
  else if im.checkOk = false ∧ im.recheckOk = false then some .dataCorrupt
  else if im.substLayer ≠ 0 ∧ (im.exitOff = 0 ∨ im.kv.layers ≤ im.substLayer) then some .badField
  else if im.vocab = 0 ∨ 16777216 < im.vocab ∨ c.fits im.kv = false then some .badField
  else if c.sprint = 1 ∧ sprintLimit < im.weightBytes then some .noResource
  else none

/-- The carve-outs fit the image that was read: as at the boundary where its sizes were known, else taken now. -/
def State.fitModel (s : State) (p : Nat) (c : Composing) (im : ModelImage) : Option State :=
  match c.src with
  | some f =>
    if f.vocab = im.vocab ∧ f.imageLen = im.imageLen then some s
    else s.carveAll p c.params (some ⟨(im.bytes.drop 0x08).take 32, im.vocab, im.imageLen, im.weightBytes⟩)
  | none => s.carveModel p (c.params.sprint == 1) c.params.maskSlots im.vocab im.imageLen

/-- COMPOSE_ZEROING_DONE (R222, R228). A role C partition has no image. -/
def execComposeZeroingDone (part : Fin 16) (image : Option ImageFact) (peerReady : Bool) (s : State) : Host.Outcome State Fault Refusal :=
  let p := part.val
  match (s.part p).state, (s.part p).composing with
  | .composing, some c =>
    if c.zeroed then .next s
    else if c.params.role = 2 then .next (s.modPart p fun q => { q with composing := some { c with zeroed := true } })
    else
      match image with
      | none => .next (s.failCompose p .noResource)
      | some f =>
        let im := f.decode
        if c.params.source = 2 ∧ peerReady = false then .next (s.failCompose p .noResource)
        else
          match imageFault c.params im with
          | some st => .next (s.failCompose p st)
          | none =>
            match s.fitModel p c im with
            | none => .next (s.failCompose p .noResource)
            | some s1 => .next (s1.modPart p fun q => { q with image := some im, composing := some { c with zeroed := true } })
  | _, _ => .next s

/-- lthread of a thread (R194). -/
def lthread (part core thread : Nat) : Nat := part * 65536 + core * 64 + thread

/-- Start every thread of a partition's cores at the first byte of its program (R230); without a model there is no program. -/
def State.startThreads (s : State) (p : Nat) : State :=
  match (s.part p).image with
  | none => s
  | some im =>
    let pc := BitVec.ofNat 64 (windowVa (0x010000000000 + im.progOff))
    (coresOf (s.part p).slices.toNat).foldl (fun (a : State) c =>
      (List.range 64).foldl (fun (b : State) t => b.modThread (threadKey c t) fun _ =>
        { Thread.stopped_ with
          state := .running, pc := pc,
          x := [(10, BitVec.ofNat 64 (windowVa 0)), (11, BitVec.ofNat 64 (lthread p c t))] }) a) s

/-- Write bytes of a partition's image from an offset up into the place of its weights (R229, R232). -/
def State.putWeights (s : State) (p off : Nat) (l : List Byte) : State :=
  let q := s.part p
  if q.sprint then
    let far (c : Nat) : List Byte := (l.drop (2 ^ 32 + c * 0x300000 - off)).take 0x300000
    (List.range (ceilDiv (off + l.length - 2 ^ 32) 0x300000)).foldl (fun (a : State) c => a.physWrite (q.weightPa (2 ^ 32 + c * 0x300000)) (far c))
      (s.physWrite (q.weightPa off) (l.take (2 ^ 32 - off)))
  else s.physWrite (q.weightPa off) l

/-- COMPOSE_WEIGHTS_IN_PLACE (R222, R230, R231): the image's bytes are in place, the parameter block is written, and the threads start. -/
def execComposeWeightsInPlace (part : Fin 16) (s : State) : Host.Outcome State Fault Refusal :=
  let p := part.val
  match (s.part p).state, (s.part p).composing with
  | .composing, some c =>
    if c.zeroed = false ∨ c.inPlace = true then .next s
    else
      let s1 := match (s.part p).image with
        | some im => s.putWeights p 0 im.bytes
        | none => s
      .next (((s1.writeParams p).startThreads p).modPart p fun q => { q with composing := some { c with inPlace := true } })
  | _, _ => .next s

/-- The statuses with which a composition fails (R222). -/
def composeStatus (st : Status) : Status := if [Status.noResource, .dataCorrupt, .badField].contains st then st else .tierError

/-- COMPOSE_FAILED (R222). -/
def execComposeFailed (part : Fin 16) (status : Status) (s : State) : Host.Outcome State Fault Refusal :=
  if (s.part part.val).state = .composing then .next (s.failCompose part.val (composeStatus status)) else .next s

/-- A partition that is COMPOSING or about to be, is being suspended or resumed, or drains (R222, R224). -/
def Part.changing (q : Part) : Bool :=
  q.composing.isSome || [PartState.composing, .suspending, .resuming, .draining].contains q.state

/-- PARTITION_DECOMPOSE (R221, R222). -/
def execPartitionDecompose (h : Header) (s : State) : Host.Outcome State Fault Refusal :=
  .next (s.serve { op := 0x0101, replies := 1, vf := false, tenant := false, params := 0, rsv := 0, addrs := 0, localOnly := false } h false
    fun r x =>
      let p := h.part
      let q := x.part p.val
      match q.held with
      | some m => ((x.modPart p.val fun y => { y with held := none }).done r .ok).partEvent p.val 0x0100 m.tag .cancelled
      | none =>
        if q.changing then x.done r .partitionBusy
        else if q.state = .free then x.done r .alreadyDone
        else if x.holds p then x.done r .partitionBusy
        else (x.done r .accepted).beginDrain p.val (some (0x0101, r.tag)))

/-- What a partition held is gone (R222, R223): scrubbed and released. -/
def State.releasePart (s : State) (p : Nat) : State :=
  let q := s.part p
  let mask := q.slices.toNat
  let s1 := ((((s.clearCores p mask).zeroSram mask).zeroT0 mask).uncarve (partOwner p)).dropSwapExtent p
  let s2 := s1.setShares p mask 0
  let s3 : State := { s2 with
    memory := { s2.memory with
      mem := memZero s2.memory.mem (s2.frameAddr q.base) (q.frames * 65536),
      faults := s2.memory.faults.filter fun e => e.2.part.val != p },
    kva := { s2.kva with scales := s2.kva.scales.filter fun e => decide (e.1 < q.base ∨ q.base + q.frames ≤ e.1) },
    xpt := { s2.xpt with
      regions := akeep (fun g => g.part.val != p) s2.xpt.regions,
      queues := akeep (fun g => g.part.val != p) s2.xpt.queues,
      collectors := akeep (fun g => g.part.val != p) s2.xpt.collectors,
      groups := akeep (fun g => g.part.val != p) s2.xpt.groups } }
  s3.modPart p fun y => { Part.reset with held := y.held }

/-- PARTITION_DRAIN_COMPLETE (R222, R223, R448). -/
def execPartitionDrainComplete (part : Fin 16) (s : State) : Host.Outcome State Fault Refusal :=
  let p := part.val
  let q := s.part p
  if q.state ≠ .draining then .next s
  else
    let s1 := (s.releasePart p).modWindow (16 + p) fun w => { w with state := .disabled, pend := false }
    match q.drainTag with
    | some (op, tag) => .next (s1.partEvent p op tag .ok)
    | none => .next s1

/-! ### Suspension (R191, R192, R222, R250, R251, R284) -/

/-- Where a partition's core has its record in the save area (R251): cores in order, after the partition header. -/
def Part.coreRecord (q : Part) (core : Nat) : Nat :=
  q.saveAddr + 65536 + ((coresOf q.slices.toNat).takeWhile fun c => c != core).length * 0x540000

/-- SUSPENDING begins (R250); the instant is kept, since faults do not age while the partition is suspended (R281). -/
def State.enterSuspend (s : State) (p : Nat) : State := s.modPart p fun q => { q with state := .suspending, suspAt := s.stk.time }

/-- Where a command stops (R191, R192): the output tile under way, at its first K step, since a command runs whole tiles (log entry 87). -/
def CoreCmd.stop (c : CoreCmd) : CoreCmd :=
  let t := (c.served.map fun k => k / 16385).foldl max 0
  { c with cursor := (if c.served.contains (t * 16385) then t + 1 else t) % 2 ^ 24 * 2 ^ 40 }

/-- The commands of a partition in a unit's queue, as the save area holds them (R251): each descriptor with its restart cursor. -/
def queueBytes (p : Nat) (l : List CoreCmd) : List Byte :=
  ((l.filter fun c => c.part.val == p).map fun c => c.desc.take 8 ++ leBytes 8 c.cursor ++ c.desc.drop 16).flatten

/-- A core's record in the save area (R251): scratchpad and accumulator, and the unit queues. What else the area holds has no layout stated and
stays in State alone (log entry 50). -/
def State.saveCore (s : State) (p core : Nat) : State :=
  let b := (s.part p).coreRecord core
  let m := memCopy s.memory.mem (sramBase core) s.memory.mem b 0x500000
  let s1 : State := { s with memory := { s.memory with mem := memZero m (b + 0x510000) 0x28000 } }
  (List.range 10).foldl (fun (a : State) u =>
    a.physWrite (b + 0x510000 + u * 16384) (queueBytes p (agetD a.cores.queues (core * 16 + u) []))) s1

/-- Save the cores of a partition with its commands stopped (R192, R250, R251). -/
def State.saveCores (s : State) (p : Nat) : State :=
  (coresOf (s.part p).slices.toNat).foldl (fun a c => a.saveCore p c) { s with cores := { s.cores with
    queues := amap (fun l => l.map fun (c : CoreCmd) => if c.part.val = p then c.stop else c) s.cores.queues } }

/-- The cores of a partition get their scratchpads and accumulators back (R250, R251). -/
def State.loadCores (s : State) (p : Nat) : State :=
  (coresOf (s.part p).slices.toNat).foldl (fun (a : State) c =>
    { a with memory := { a.memory with mem := memCopy a.memory.mem ((a.part p).coreRecord c) a.memory.mem (sramBase c) 0x500000 } }) s

/-- PARTITION_SUSPEND (R222, R250): it takes effect when the current Commit completes, at once while strokes do not run. While a resume is
latched it cancels that one (R497). -/
def execPartitionSuspend (h : Header) (s : State) : Host.Outcome State Fault Refusal :=
  .next (s.serve { op := 0x0102, replies := 1, vf := false, tenant := false, params := 0, rsv := 0, addrs := 0, localOnly := false } h false
    fun r x =>
      let p := h.part.val
      let q := x.part p
      if q.state = .suspending ∧ q.resumeLatched = true then
        ((x.modPart p fun y => { y with resumeLatched := false, resumeTag := none }).done r .ok).partEvent p 0x0103 (q.resumeTag.getD 0) .cancelled
      else if q.changing ∨ q.suspendTag.isSome then x.done r .partitionBusy
      else if q.state = .suspended then x.done r .alreadyDone
      else if q.state = .free then x.done r .badField
      else
        let s1 := (x.modPart p fun y => { y with suspendTag := some r.tag }).done r .accepted
        if x.stk.running ∧ ¬ (x.stk.phase = .commit ∧ q.commitOpen = false) then s1 else s1.enterSuspend p)

/-- RESUMING begins. -/
def State.beginResume (s : State) (p : Nat) : State :=
  s.modPart p fun q => { q with state := .resuming, resumeLatched := false, suspendTag := none }

/-- SUSPEND_SAVE_COMPLETE (R222, R250, R284): SUSPENDED, and on to RESUMING where a resume is latched. -/
def execSuspendSaveComplete (part : Fin 16) (chunkLost : Bool) (s : State) : Host.Outcome State Fault Refusal :=
  let p := part.val
  let q := s.part p
  if q.state ≠ .suspending then .next s
  else
    let s1 := ((s.saveCores p).modPart p fun y => { y with state := .suspended, suspendTag := none, saveLost := chunkLost }).savePins p
    let s2 := s1.partEvent p 0x0102 (q.suspendTag.getD 0) .ok
    .next (if q.resumeLatched then s2.beginResume p else s2)

/-- PARTITION_RESUME (R222, R250, R497). -/
def execPartitionResume (h : Header) (s : State) : Host.Outcome State Fault Refusal :=
  .next (s.serve { op := 0x0103, replies := 1, vf := false, tenant := false, params := 0, rsv := 0, addrs := 0, localOnly := false } h false
    fun r x =>
      let p := h.part.val
      let q := x.part p
      match q.state with
      | .suspending =>
        if q.resumeLatched then x.done r .pendingEnable
        else (x.modPart p fun y => { y with resumeLatched := true, resumeTag := some r.tag }).done r .pendingEnable
      | .suspended => ((x.modPart p fun y => { y with resumeTag := some r.tag }).beginResume p).done r .accepted
      | .ready => if q.composing.isSome then x.done r .partitionBusy else x.done r .alreadyDone
      | .free => if q.composing.isSome then x.done r .partitionBusy else x.done r .badField
      | _ => x.done r .partitionBusy)

/-- A partition's changes at a boundary (R222): an accepted composition begins, a composed or restored partition becomes READY. -/
def State.partBoundary (s : State) (p : Nat) : State :=
  let q := s.part p
  match q.composing with
  | some c =>
    if q.state = .free ∨ q.state = .ready then s.startCompose p
    else if q.state = .composing ∧ c.inPlace = true then
      ((s.modPart p fun y => { y with state := .ready, composing := none, composeStroke := s.stk.stroke }).writeParams p).partEvent p 0x0100 c.tag .ok
    else s
  | none =>
    if q.state = .resuming ∧ q.readyAt = true then
      (s.modPart p fun y => { y with state := .ready, readyAt := false, resumeTag := none, saveLost := false }).partEvent p 0x0103 (q.resumeTag.getD 0)
        (if q.saveLost then .dataCorrupt else .ok)
    else s

/-! ### Instances and weights (R225, R286) -/

/-- INSTANCE_SET (R225): sent to the owner, it names a replacement for a dead position; every other shard is sent the new list, to acknowledge. -/
def execInstanceSet (h : Header) (position : Nat) (dev : DeviceId) (dpart : Nat) (sameModel noSatellites : Bool) (rsv : Nat) (s : State) :
    Host.Outcome State Fault Refusal :=
  .next (s.serve { op := 0x0104, replies := 2, vf := true, tenant := false, params := 8, rsv := rsv, addrs := 0, localOnly := false } h false
    fun r x =>
      let p := h.target
      let q := x.part p
      match x.partRefusal p with
      | some st => x.done r st
      | none =>
        if q.instance_.isSome then x.done r .partitionBusy
        else if q.shard ≠ 0 ∨ q.deadShards.contains position = false ∨ 2 ^ 14 ≤ dev.toNat ∨ 15 < dpart ∨ sameModel = false ∨
            noSatellites = false then x.done r .badField
        else
          let a := x.accepted r
          let d : DevPart := ⟨dev, Fin.ofNat 16 dpart⟩
          ((q.shardList.set position d).drop 1).foldl (fun (y : State) e =>
              y.emit (.shardPlan e y.strokeNow [shardDo 0 0 (.shards (q.shardList.set position d))]))
            (a.1.modPart p fun y => { y with instance_ := some (position, d, a.2) }))

/-- INSTANCE_SET_COMPLETE (R225): the list is rewritten, DEGRADED clears, and the instance's satchels take the lower-tier path (R133). -/
def execInstanceSetComplete (part : Fin 16) (s : State) : Host.Outcome State Fault Refusal :=
  let p := part.val
  match (s.part p).instance_ with
  | none => .next s
  | some (k, d, r) =>
    let s1 := s.modPart p fun q => { q with
      instance_ := none, shardList := q.shardList.set k d, deadShards := q.deadShards.filter fun i => i != k }
    let s2 := (s1.setDegraded p).writeParams p
    let mine := s2.sat.sats.filter fun e => e.2.part == part && e.2.state.live && e.2.admitting.isNone
    .next ((mine.foldl (fun (a : State) e => a.lowerTier e.1) s2).answer r .ok true [])

/-- Another try to re-read poisoned weights from their source at a boundary (R286). Whether the source supplies them is a free value
(log entry 1): where it does, the bytes are restored and the poison ends. -/
def State.refetch (s : State) (p : Nat) : State :=
  (s.part p).poisonWeights.foldl (fun (a : State) e =>
    let f := a.free
    match (a.part p).image with
    | some im =>
      if f.1 % 2 = 1 then
        let off := (e.1 - (a.part p).weightAddr) / 65536 * 65536
        (f.2.putWeights p off ((im.bytes.drop off).take 65536)).modPart p fun q =>
          { q with poisonWeights := q.poisonWeights.filter fun w => w.1 != e.1 }
      else f.2
    | none => f.2) s

/-- WEIGHT_REFETCH_TIMEOUT (R286): three strokes without the weights: a level 2 fault, DEGRADED, no rows until it is recomposed. -/
def execWeightRefetchTimeout (part : Fin 16) (addr : Nat) (s : State) : Host.Outcome State Fault Refusal :=
  let p := part.val
  match (s.part p).poisonWeights.find? fun e => e.1 == addr with
  | some e =>
    if s.strokeNow < e.2 + 3 then .next s
    else
      let s1 := s.post { fault 0x3C0 0x803 2 addr with tag := .part part, status := .tierError }
      .next ((s1.modPart p fun q => { q with weightsLost := true, poisonWeights := q.poisonWeights.filter fun w => w.1 != addr }).setDegraded p)
  | none => .next s

/-! ### Adapters (R245 to R247) -/

/-- The current version of an adapter ID. -/
def Part.currentAdapter (q : Part) (id : BitVec 16) : Option AdapterVer := q.adapters.find? fun a => a.id == id && a.current

/-- Tell the other shards what becomes of an adapter version (R245, R247). -/
def State.tellAdapter (s : State) (p : Nat) (id : BitVec 16) (version : BitVec 32) (act : AdapterAct) : State :=
  if (s.part p).shard ≠ 0 then s
  else ((s.part p).shardList.drop 1).foldl (fun (a : State) d => a.emit (.shardPlan d s.strokeNow [shardDo 0 0 (.adapter id version act)])) s

/-- ADAPTER_LOAD (R245): the owner forwards it to every shard. -/
def execAdapterLoad (h : Header) (adapter : BitVec 16) (rank : Nat) (version : BitVec 32) (source : Nat) (swap : Bool) (srcDev : DeviceId)
    (srcPart : Nat) (srcAddr : BitVec 64) (rsv : Nat) (s : State) : Host.Outcome State Fault Refusal :=
  .next (s.serve { op := 0x0200, replies := 2, vf := true, tenant := false, params := 24, rsv := rsv,
                   addrs := b2n (source == 0 && srcAddr != 0), localOnly := false } h false fun r x =>
    let p := h.target
    let q := x.part p
    match x.partRefusal p with
    | some st => x.done r st
    | none =>
      let ids := ((q.adapters.map fun a => a.id) ++ q.loading.map fun a => a.id).eraseDups
      if 4095 < adapter.toNat ∨ rank = 0 ∨ 256 < rank ∨ 3 < source ∨ 15 < srcPart ∨ (source = 2 ∧ 2 ^ 14 ≤ srcDev.toNat) ∨
          (match q.currentAdapter adapter with | some a => decide (version.toNat ≤ a.version.toNat) | none => false) = true then
        x.done r .badField
      else if (ids.contains adapter = false ∧ 4096 ≤ ids.length) ∨ 8192 ≤ q.adapters.length + q.loading.length then x.done r .noResource
      else
        let a := x.accepted r
        let y := a.1.modPart p fun z =>
          { z with loading := z.loading ++ [{ id := adapter, version := version, rank := rank, swap := swap, reply := a.2 }] }
        if q.shard ≠ 0 then y
        else (q.shardList.drop 1).foldl (fun (b : State) d =>
          b.emit (.adapterForward d adapter version rank source swap srcDev (Fin.ofNat 16 srcPart) srcAddr)) y)

/-- ADAPTER_LOAD_COMPLETE (R245): at the owner every shard holds the version, which becomes current, or the load failed and leaves nothing on any
shard. On another shard the version becomes current as the owner says. -/
def execAdapterLoadComplete (part : Fin 16) (adapter : BitVec 16) (version : BitVec 32) (result : Status) (s : State) :
    Host.Outcome State Fault Refusal :=
  let p := part.val
  match (s.part p).loading.find? fun a => a.id == adapter && a.version == version with
  | none => .next s
  | some a =>
    let s1 := s.modPart p fun q => { q with loading := q.loading.erase a }
    let own := (s1.part p).shard == 0
    if result = .ok then
      .next (((s1.modPart p fun q => { q with
        adapters := (q.adapters.map fun v => if v.id = adapter ∧ own = true then { v with current := false } else v) ++
          [{ id := adapter, version := version, rank := a.rank, current := own, swap := a.swap }] }).tellAdapter p adapter version .current).answer
            a.reply .ok true [])
    else .next ((s1.tellAdapter p adapter version .free).answer a.reply result true [])

/-- ADAPTER_UNLOAD (R247). -/
def execAdapterUnload (h : Header) (adapter : BitVec 16) (rsv : Nat) (s : State) : Host.Outcome State Fault Refusal :=
  .next (s.serve { op := 0x0201, replies := 1, vf := true, tenant := false, params := 4, rsv := rsv, addrs := 0, localOnly := false } h false
    fun r x =>
      let p := h.target
      match x.partRefusal p with
      | some st => x.done r st
      | none =>
        if 4095 < adapter.toNat then x.done r .badField
        else if ((x.part p).currentAdapter adapter).isNone then x.done r .alreadyDone
        else ((x.modPart p fun q => { q with
          adapters := q.adapters.map fun v => if v.id = adapter then { v with current := false } else v }).tellAdapter p adapter 0 .unload).done r .ok)

/-- SWAP_AT_STROKE at a boundary (R247): satchels bound to an older version of an ID move to its new version, and their satellites with them. -/
def State.adapterSwap (s : State) (p : Fin 16) : State :=
  let new := (s.part p.val).adapters.filter fun a => a.current && a.swap
  let up (x : Sat) : BitVec 32 :=
    match new.find? fun a => a.id == x.adapter with
    | some a => if x.part = p ∧ x.adapterVer.toNat < a.version.toNat then a.version else x.adapterVer
    | none => x.adapterVer
  if new.isEmpty ∨ (s.part p.val).shard ≠ 0 then s
  else
    let moved := s.sat.sats.filter fun e => up e.2 != e.2.adapterVer
    let s1 := moved.foldl (fun (a : State) e =>
      (a.modSat e.1 fun y => { y with adapterVer := up e.2 }).toShards p.val false (shardDo e.2.id e.2.kvPos (.rebind (up e.2)))) s
    s1.modPart p.val fun q => { q with adapters := q.adapters.map fun (a : AdapterVer) => if a.current then { a with swap := false } else a }

/-- Versions that are not current and that no live satchel, owned or satellite, is bound to are freed when a Commit completes (R246). -/
def State.freeAdapters (s : State) (p : Fin 16) : State :=
  let bound (a : AdapterVer) : Bool := s.ctxs.any fun e =>
    e.2.part == p && e.2.adapter == a.id && e.2.adapterVer == a.version && (e.2.state.live || e.2.state == .inTransit)
  s.modPart p.val fun q => { q with adapters := q.adapters.filter fun a => a.current || bound a }

/-! ### Tenants (R234, R235, R393, R515) -/

/-- TENANT_BUDGET (R234). -/
def execTenantBudget (h : Header) (tenant : BitVec 16) (rate burst floor rsv : Nat) (s : State) : Host.Outcome State Fault Refusal :=
  .next (s.serve { op := 0x0400, replies := 1, vf := false, tenant := false, params := 16, rsv := rsv, addrs := 0, localOnly := false } h false
    fun r x =>
      if burst = 0 ∨ 0x7FFFFFFF < burst ∨ burst < floor ∨ 0xFFFFFFFF < rate ∨ tenant = 0xFFFF then x.done r .badField
      else if x.tenantsFull tenant then x.done r .noResource
      else
        let q := agetD x.pln.tenants tenant.toNat TenantRec.new
        let level : Int := if q.metered then min q.level (burst * 256 : Nat) else (burst * 256 : Nat)
        let q1 : TenantRec := { q with metered := true, rate := rate, burst := burst, floor := floor, level := level }
        ({ x with pln := { x.pln with tenants := aput x.pln.tenants tenant.toNat q1 } } : State).answer r .ok true
          (leBytes 4 (ofSigned 32 (level / 256))))

/-- Refill every bucket before Plan (R235). -/
def State.refill (s : State) : State :=
  { s with pln := { s.pln with tenants := amap (fun (q : TenantRec) =>
      if q.metered then { q with level := min (q.burst * 256 : Nat) (q.level + (q.rate : Int)) } else q) s.pln.tenants } }

/-- Tenants granted to a partition. -/
def State.grants (s : State) (p : Nat) : Nat := (s.cmd.grants.filter fun e => e.1 / 65536 == p).length

/-- PARTITION_TENANTS (R393, R449, R453). -/
def execPartitionTenants (h : Header) (action n : Nat) (tenants : List (BitVec 16)) (rsv : Nat) (s : State) :
    Host.Outcome State Fault Refusal :=
  .next (s.serve { op := 0x0404, replies := 1, vf := false, tenant := false, params := 4 + 2 * n, rsv := rsv, addrs := 0, localOnly := false }
    h false fun r x =>
      let p := h.part.val
      if 1 < action ∨ tenants.length ≠ n then x.done r .badField
      else
        let put (a : Assoc Unit) (t : BitVec 16) : Assoc Unit := if action = 0 then aput a (grantKey p t) () else adel a (grantKey p t)
        let y : State := { x with cmd := { x.cmd with grants := tenants.foldl put x.cmd.grants } }
        if 1024 < y.grants p then x.done r .noResource else y.done r .ok)

/-- TENANT_RELEASE (R453, R515): the record and the transit keys of a tenant of which the device owns no live satchel. -/
def execTenantRelease (h : Header) (tenant : BitVec 16) (rsv : Nat) (s : State) : Host.Outcome State Fault Refusal :=
  .next (s.serve { op := 0x0405, replies := 1, vf := false, tenant := false, params := 4, rsv := rsv, addrs := 0, localOnly := false } h false
    fun r x =>
      let t := tenant.toNat
      if (x.sat.sats.any fun e => e.2.tenant == tenant && (e.2.state.live || e.2.state == .inTransit)) = true then x.done r .partitionBusy
      else if (afind x.pln.tenants t).isNone ∧ (afind x.sec.keys t).isNone then x.done r .alreadyDone
      else ({ x with
        pln := { x.pln with tenants := adel x.pln.tenants t, tenCnt := adel x.pln.tenCnt t },
        sec := { x.sec with keys := adel x.sec.keys t } } : State).done r .ok)

end Sys2Proof.Machine
end

