-- ==== Sys2Proof/Machine/Stroke.lean ====
section
/-!
DEFINITION. Machine/Stroke.lean: system time, the time tree, the stroke configuration and the phases without planning or ink
(chapter 02).
-/
namespace Sys2Proof.Machine

/-- The time role in force (R37, R63): 0 member, 1 harness root, 2 grandmaster; 3 is treated as 0. -/
def Stk.role (k : Stk) : Nat := if bits k.src.toNat 21 20 = 3 then 0 else bits k.src.toNat 21 20

/-- The primary parent port in force, where PARENT_VALID. -/
def Stk.parentPort (k : Stk) : Option Nat := if bitAt k.src.toNat 6 then some (bits k.src.toNat 5 0) else none

/-- The backup parent port in force, where BACKUP_VALID. -/
def Stk.backupPort (k : Stk) : Option Nat := if bitAt k.src.toNat 14 then some (bits k.src.toNat 13 8) else none

/-- REF_MODE in force at this device (R42): 0 except at the grandmaster, and 3 is treated as 0. -/
def State.refMode (s : State) : Nat :=
  let m := s.fld Reg.stkTimeSrc 25 24
  if s.stk.role = 2 then (if m = 3 then 0 else m) else 0

/-- The grandmaster takes up the reference that REF_MODE selects (R42): its pulses are expected from now on, and the end of a reference
ends its holdover (R43, R62). -/
def State.settleRef (s : State) : State :=
  if s.refMode = s.stk.ref then s
  else { s with stk := { s.stk with ref := s.refMode, refAt := s.stk.time, refHoldover := false }, pwr := { s.pwr with tsyncAt := none } }

/-- Take over STK_TIME_SRC's role and ports, as at every sync interval (R63). A grandmaster in service is LOCKED and measures no offset
from a parent (R62, R65); one that becomes a child locks afresh (log entry 122). -/
def State.latchSrc (s : State) : State :=
  let k := { s.stk with src := BitVec.ofNat 32 (s.reg Reg.stkTimeSrc) }
  let lock := k.role == 2 || (k.locked && s.stk.role != 2)
  State.settleRef { s with stk := { k with locked := lock, offset := if k.role = 2 then 0 else k.offset } }

/-- Ports at which a device of a role is a time parent (R37): a root serves its members over local ports 0 to 30, the grandmaster
global ports 31 to 62 as well. -/
def childPorts (role : Nat) : List Nat := if role = 2 then List.range 63 else if role = 1 then List.range 31 else []

/-- The UP ports of a list. -/
def State.upPorts (s : State) (l : List Nat) : List Nat :=
  l.filter fun p => (s.lnk.ports.getD p Port.reset).state == PortState.up

/-- The active configuration that a sync packet carries (R38). -/
def Stk.active (k : Stk) : Option StrokeCfg := if k.running then some k.cfg else none

/-- A time correction by a signed amount. -/
def addTime (t : Nat) (d : Int) : Nat := ((t : Int) + d).toNat

/-- Correct system time by `-err` under R41 and R54: within ±20 ns nothing is left to slew; up to 10 µs is slewed; more is stepped,
at the completion of the stroke's Commit while strokes run, at once while they do not. -/
def Stk.correct (k : Stk) (err : Int) : Stk :=
  if -20 ≤ err ∧ err ≤ 20 then { k with slew := 0 }
  else if -10000 ≤ err ∧ err ≤ 10000 then { k with slew := -err }
  else if k.running then { k with slew := 0, step := some (-err) }
  else { k with slew := 0, time := addTime k.time (-err) }

/-- The first stroke of a configuration that begins after an instant, and not before stroke m. -/
def StrokeCfg.firstAfter (c : StrokeCfg) (t m : Nat) : Nat :=
  max m (max c.base (if c.epoch ≤ t then c.strokeAt t + 1 else c.base))

/-- What the parent's configurations bring a child (R38, R50, R52): a locked device that runs no strokes takes the active, or the
pending start's, configuration, from the first boundary after it locked; a running device holds the parent's pending change, and
in a mismatch adopts the parent's active configuration at its next boundary. -/
def Stk.follow (k : Stk) : Stk :=
  match k.parent with
  | none => k
  | some p =>
    if k.running then
      if k.mismatch then
        match p.active with
        | some c => { k with pend := some { cfg := c, n0 := c.firstAfter k.time 0, start := true } }
        | none => k
      else
        match p.pending with
        | some q => if q.start then k else { k with pend := some q }
        | none => { k with pend := none }
    else if k.locked then
      match p.active, p.pending with
      | some c, _ => { k with pend := some { cfg := c, n0 := c.firstAfter k.time 0, start := true } }
      | none, some q =>
        if q.start then { k with pend := some { q with n0 := q.cfg.firstAfter k.time q.n0 } } else k
      | none, none => k
    else k

/-- SYNC_SEND (R38): a time parent starts an exchange on every child link. -/
def execSyncSend (now : Nat) (s : State) : Host.Outcome State Fault Refusal :=
  let s1 := (s.at_ now).latchSrc
  let ports := s1.upPorts (childPorts s1.stk.role)
  .next (ports.foldl (fun (x : State) p =>
    { x with stk := { x.stk with syncSent := aput x.stk.syncSent p now } }.emit (.sync p now x.stk.active x.stk.pend)) s1)

/-- The offset of the child from its parent that an exchange measures (R38): half of the difference of the two directions'
apparent delays. Half an odd difference is rounded down (log entry 123). -/
def syncOffset (t1 t2 t3 t4 : Nat) : Int := (((t2 : Int) - t1) - ((t4 : Int) - t3)) / 2

/-- The link delay that an exchange measures (R38): half of the sum of the two directions' apparent delays, the directions being taken as
equal. Half an odd sum is rounded down (log entry 123). -/
def syncDelay (t1 t2 t3 t4 : Nat) : Int := (((t2 : Int) - t1) + ((t4 : Int) - t3)) / 2

/-- A valid exchange with the parent in use (R38, R40, R41, R65). Every completed exchange restarts the 1 ms of R40 and the age of R45. Four
in a row within ±20 ns lock the device, and then HOLDOVER and UNALIGNED end (log entry 122). -/
def State.exchanged (s : State) (err : Int) (t : Nat) (cfg : ParentCfg) : State :=
  let g := if -20 ≤ err ∧ err ≤ 20 then s.stk.good + 1 else 0
  let lock := s.stk.locked || 4 ≤ g
  let k0 := { s.stk with offset := satSigned 2147483647 err, lastGood := t, watch := t, good := g, locked := lock,
                         holdover := s.stk.holdover && !decide (4 ≤ g), unaligned := s.stk.unaligned && !decide (4 ≤ g),
                         parent := some cfg }
  let k1 := k0.correct err
  let s1 := { s with stk := k1.follow }
  if !(-10000 ≤ err && err ≤ 10000) && !k0.running then s1.setFld Reg.stkStatus 17 17 1 else s1

/-- SYNC_EXCHANGE (R38): a child completes an exchange on a port: it sends its packet of the pair and computes link delay and offset. On the
parent in use it takes time; on the primary while on the backup, eight good exchanges in a row bring it back (R40), a good one being one
within ±20 ns (log entry 122). -/
def execSyncExchange (port : Fin 64) (t1 t2 t3 t4 : Nat) (cfg : ParentCfg) (s : State) :
    Host.Outcome State Fault Refusal :=
  let s0 := (s.at_ t3).latchSrc
  let err := syncOffset t1 t2 t3 t4
  let s1 := { s0 with stk := { s0.stk with delay := aput s0.stk.delay port.val (syncDelay t1 t2 t3 t4) } }.emit (.syncBack port.val t2 t3)
  let k := s1.stk
  if k.role = 2 then .next s0
  else if k.onBackup then
    if k.backupPort = some port.val then .next (s1.exchanged err t3 cfg)
    else if k.parentPort = some port.val then
      let g := if -20 ≤ err ∧ err ≤ 20 then k.goodPrimary + 1 else 0
      if 8 ≤ g then .next ({ s1 with stk := { k with onBackup := false, goodPrimary := 0 } }.exchanged err t3 cfg)
      else .next { s1 with stk := { k with goodPrimary := g } }
    else .next s1
  else if k.parentPort = some port.val then .next (s1.exchanged err t3 cfg)
  else .next s1

/-- Device holdover (R45). LOCKED ends with it (log entry 122). -/
def State.enterHoldover (s : State) : State :=
  if s.stk.holdover then s
  else { s with stk := { s.stk with holdover := true, locked := false, good := 0 } }.note 0x3C0 0x102 0

/-- PARENT_LOST (R40): 8 intervals, 1 ms, without a valid exchange. A device with neither a parent nor a backup port in use enters holdover
as well (log entry 122). -/
def execParentLost (now : Nat) (s : State) : Host.Outcome State Fault Refusal :=
  let s1 := (s.at_ now).latchSrc
  if s1.stk.role = 2 ∨ now < s1.stk.watch + 1000000 then .next s1
  else if !s1.stk.onBackup && s1.stk.backupPort.isSome then
    .next { s1 with stk := { s1.stk with onBackup := true, goodPrimary := 0, watch := now } }
  else .next s1.enterHoldover

/-- The error estimate of R45 [ns]: the time since the last good exchange × DRIFT × 10 ppb, in whole nanoseconds, rounded down
(log entry 123). -/
def State.errorEstimate (s : State) : Nat :=
  (s.stk.time - s.stk.lastGood) * s.fld Reg.stkHoldCfg 23 16 / 100000000

/-- UNALIGNED (R46). -/
def execUnaligned (now : Nat) (s : State) : Host.Outcome State Fault Refusal :=
  let s1 := s.at_ now
  if s1.stk.holdover && !s1.stk.unaligned && s1.fld Reg.stkHoldCfg 23 16 != 0 &&
      decide (max 1 (s1.fld Reg.stkHoldCfg 15 0) < s1.errorEstimate) then
    .next ({ s1 with stk := { s1.stk with unaligned := true } }.post (fault 0x3C0 0x104 2 s1.errorEstimate))
  else .next s1

/-- The expected instant of R42 that is nearest to a time-stamped edge. -/
def State.expectedEdge (s : State) (t : Nat) : Nat :=
  if s.refMode = 1 then (t + 500000000) / 1000000000 * 1000000000
  else
    let p := s.stk.cfg.periodUs * 1000
    if p = 0 then t else s.stk.cfg.epoch + ((t - s.stk.cfg.epoch) + p / 2) / p * p

/-- TSYNC_IN_PULSE (R42, R43, R485, R532): accepted within ±1 µs of the expected instant, else ignored and counted. -/
def execTsyncInPulse (now : Nat) (s : State) : Host.Outcome State Fault Refusal :=
  let s1 := s.at_ now
  if s1.refMode = 0 ∨ (s1.refMode = 2 ∧ s1.stk.running = false) then .next s1
  else
    let err : Int := (now : Int) - s1.expectedEdge now
    if -1000 ≤ err ∧ err ≤ 1000 then
      .next { s1 with stk := { s1.stk.correct err with refHoldover := false },
                      pwr := { s1.pwr with tsyncAt := some now, tsync := true } }
    else
      .next ({ s1 with pwr := { s1.pwr with tsync := true } }.setFld Reg.pwrGlitch 23 16 (satAdd 255 (s1.fld Reg.pwrGlitch 23 16) 1))

/-- The expected period of TSYNC_IN [ns]; none while no pulse is expected: with no reference, or one pulse a stroke and no strokes. -/
def State.refPeriod (s : State) : Option Nat :=
  if s.refMode = 1 then some 1000000000 else if s.refMode = 2 ∧ s.stk.running = true then some (s.stk.cfg.periodUs * 1000) else none

/-- No pulse came for 16 expected periods (R43), counted from the last accepted one, or from when pulses are expected. -/
def State.refMissing (s : State) (now : Nat) : Bool :=
  match s.refPeriod with
  | some p => decide (s.pwr.tsyncAt.getD s.stk.refAt + 16 * p ≤ now)
  | none => false

/-- REF_HOLDOVER (R43): no pulse for 16 expected periods at the grandmaster. -/
def execRefHoldover (now : Nat) (s : State) : Host.Outcome State Fault Refusal :=
  let s1 := s.at_ now
  if s1.stk.refHoldover = true ∨ s1.refMissing now = false then .next s1
  else
    .next (({ s1 with stk := { s1.stk with refHoldover := true } }.setFld Reg.stkStatus 16 16 1).note 0x3C0 0x103 0)

/-- TSYNC_OUT_PULSE (R44): a pulse at a stroke boundary or at a whole second, as OUT_MODE says. -/
def execTsyncOutPulse (now : Nat) (s : State) : Host.Outcome State Fault Refusal :=
  let s1 := s.at_ now
  let mode := s1.fld Reg.stkTimeSrc 29 28
  let due : Bool :=
    (mode == 1 && s1.stk.running && s1.stk.cfg.boundary (s1.stk.cfg.strokeAt now) == now) ||
    (mode == 2 && now % 1000000000 == 0)
  if due && !s1.pwr.tripped then .next ({ s1 with stk := { s1.stk with tsyncOut := some now } }.emit (.tsyncPulse now))
  else .next s1

/-! ### The throttle step (R535) -/

/-- The least step that THERM_N and the AVSBus allow (R535). -/
def Pwr.floor (p : Pwr) : Nat := if p.therm || decide (3 ≤ p.avsFails) then 4 else 0

/-- The throttle step changes (R535): counted; a change to step 4 or above posts a note of kind HOT. -/
def State.setStep (s : State) (k : Nat) : State :=
  let n := min 7 (max s.pwr.floor k)
  if n = s.pwr.step then s
  else
    let s1 := ({ s with pwr := { s.pwr with step := n } }).count Reg.pwrCntThrottle 1
    if 4 ≤ n then s1.note 0x3F8 0x205 0xFFFFFFFF else s1

/-- The core voltage that the table gives (R530), within VMIN and VMAX: for the step in force, or for the one that a due fall leads to, whose
voltage rises before its clock. -/
def State.coreGoal (s : State) : Nat :=
  clamp (s.fld Reg.pwrAvs 21 12) (s.fld Reg.pwrAvs 31 22) (Config.coreVoltage (if s.pwr.fallDue then s.pwr.step - 1 else s.pwr.step))

/-- A fall that waited for the boundary (R535). -/
def State.fallStep (s : State) : State :=
  if s.pwr.fallDue && decide (s.coreGoal ≤ s.pwr.avsTarget) then { s with pwr := { s.pwr with fallDue := false } }.setStep (s.pwr.step - 1) else s

/-! ### STROKE_CONFIG and TIME_SET -/

/-- The checks of R50 that the period and the phase points decide. -/
def StrokeCfg.valid (c : StrokeCfg) : Bool :=
  decide (25 ≤ c.periodUs ∧ c.periodUs ≤ 100000) &&
  decide (0 < c.issueAt ∧ c.issueAt < c.computeAt ∧ c.computeAt < c.exchangeAt ∧ c.exchangeAt < c.commitAt ∧
    c.commitAt ≤ 255) &&
  decide (1000 ≤ c.issueAt * (c.periodUs * 1000) / 256) &&
  decide (1000 ≤ c.periodUs * 1000 - c.commitAt * (c.periodUs * 1000) / 256)

/-- B + floor((t − E) / P) as an integer, which may lie below B or below 0 (R53). -/
def StrokeCfg.strokeInt (c : StrokeCfg) (t : Nat) : Int :=
  (c.base : Int) + ((t : Int) - c.epoch) / ((c.periodUs * 1000 : Nat) : Int)

/-- n_first of a start (R53): the larger of B and the smallest n whose boundary lies at least 2 ms after t. -/
def StrokeCfg.nFirst (c : StrokeCfg) (t : Nat) : Nat :=
  c.base + ceilDiv (t + 2000000 - c.epoch) (c.periodUs * 1000)

/-- The status of a STROKE_CONFIG and the configuration then pending (R50, R51, R53). -/
def Stk.configure (k : Stk) (mode : Nat) (cfg : StrokeCfg) (stroke : Nat) : Status × Option PendCfg :=
  if k.role ≠ 2 then (.badOpcode, k.pend)
  else if 1 < mode ∨ (mode = 0) = (k.running = true) then (.badField, k.pend)
  else if !cfg.valid then (.badField, k.pend)
  else if mode = 1 then
    if stroke < k.stroke + 2 ∨ 2 ^ 48 ≤ stroke ∨ k.cfg.boundary stroke < k.time + 2000000 then (.badField, k.pend)
    else
      match k.pend with
      | some q =>
        if k.stroke + 2 ≤ q.n0 then (.ok, some { cfg := cfg, n0 := stroke, start := false }) else (.noResource, k.pend)
      | none => (.ok, some { cfg := cfg, n0 := stroke, start := false })
  else
    let c := { cfg with base := stroke }
    if k.time + 3600000000000 < c.epoch ∨ (2 ^ 48 : Int) ≤ c.strokeInt k.time then (.badField, k.pend)
    else
      match k.pend with
      | some q =>
        if q.cfg.strokeInt k.time + 2 ≤ (q.n0 : Int) then (.ok, some { cfg := c, n0 := c.nFirst k.time, start := true })
        else (.noResource, k.pend)
      | none => (.ok, some { cfg := c, n0 := c.nFirst k.time, start := true })

/-- STROKE_CONFIG (R453, R50, R51, R53). -/
def execStrokeConfig (h : Header) (mode : Nat) (cfg : StrokeCfg) (stroke : Nat) (rsv : Nat) (s : State) :
    Host.Outcome State Fault Refusal :=
  .next (s.serve { op := 0x0601, replies := 1, vf := false, tenant := false, params := 32, rsv := rsv, addrs := 0,
                   localOnly := false } h false fun r x =>
    let a := x.stk.configure mode cfg stroke
    { x with stk := { x.stk with pend := a.2 } }.done r a.1)

/-- TIME_SET (R453): at the grandmaster only; while strokes run, applied under R41 and R54. -/
def execTimeSet (h : Header) (time : Nat) (s : State) : Host.Outcome State Fault Refusal :=
  .next (s.serve { op := 0x0600, replies := 1, vf := false, tenant := false, params := 8, rsv := 0, addrs := 0,
                   localOnly := false } h false fun r x =>
    if x.stk.role ≠ 2 then x.done r .badOpcode
    else if x.stk.running then { x with stk := x.stk.correct ((x.stk.time : Int) - time) }.done r .ok
    else { x with stk := { x.stk with time := time, slew := 0, step := none } }.done r .ok)

/-! ### Phases -/

/-- Begin a phase of the current stroke, where the phase before it is under way (R48). -/
def State.beginPhase (s : State) (from_ to_ : Phase) (point : Nat) : Option State :=
  if s.stk.running ∧ s.stk.phase = from_ then
    let s1 := s.at_ (s.stk.cfg.point s.stk.stroke point)
    some { s1 with stk := { s1.stk with phase := to_ } }
  else none

/-- A partition whose Commit is still open at ISSUE_AT skips the stroke (R57). -/
def State.skipIfOpen (s : State) (p : Nat) : State :=
  if (s.part p).commitOpen ∧ ¬ (s.part p).skipped then
    (((s.modPart p fun q => { q with skipped := true }).count Reg.stkOverrun 1).count Reg.stkSkip 1).note 0x3C0 0x101
      s.stk.stroke
  else s

/-- A Plan that is unfinished at ISSUE_AT ends there (R48): the rows fixed so far are issued, and STK_OVERRUN counts once. -/
def State.endPlan (s : State) (p : Nat) : State :=
  if (s.part p).planMax.isSome then (s.modPart p fun q => { q with planMax := none }).count Reg.stkOverrun 1 else s

/-- ISSUE_PHASE (R48, R57). -/
def execIssuePhase (s : State) : Host.Outcome State Fault Refusal :=
  match s.beginPhase .plan .issue s.stk.cfg.issueAt with
  | none => .next s
  | some s1 => .next ((List.range 16).foldl (fun (a : State) p => (a.skipIfOpen p).endPlan p) s1)

/-- COMPUTE_PHASE (R48). -/
def execComputePhase (s : State) : Host.Outcome State Fault Refusal :=
  match s.beginPhase .issue .compute s.stk.cfg.computeAt with
  | none => .next s
  | some s1 => .next s1

end Sys2Proof.Machine
end

