-- ==== Sys2Proof/Machine/Planner.lean ====
section
/-!
DEFINITION. Machine/Planner.lean: the stroke as planned and inked: boundaries, planning, the Exchange phase, the ink point and the end of
Commit (chapters 02, 03 and 07).
-/
namespace Sys2Proof.Machine

/-! ### Trees (R164, R239, R240) -/

/-- Every byte of a part of a record is zero. -/
def zeroBytes (l : List Byte) (from_ n : Nat) : Bool := ((l.drop from_).take n).all fun b => b == 0#8

/-- Ancestor bitmaps of a tree-mask entry (R164). -/
def treeWords (l : List Byte) : List Nat := (List.range (fieldAt l 0 1)).map fun i => fieldAt l (0x10 + 8 * i) 8

/-- A tree-mask entry is valid (R164). -/
def treeValid (l : List Byte) : Bool :=
  let w := treeWords l
  decide (1 ≤ w.length ∧ w.length ≤ 64) && zeroBytes l 1 15 && w.headD 0 == 1 &&
    w.zipIdx.all fun e => bitAt e.1 e.2 && decide (e.1 < 2 ^ (e.2 + 1)) &&
      (onesOf 64 e.1).all fun k => (w.getD k 0) &&& e.1 == w.getD k 0

/-- Entry k of a partition's draft table (R240). -/
def State.draftBytes (s : State) (q : Part) (k : Nat) : List Byte := memRead s.memory.mem (q.draftAddr + 1024 * k) 1024

/-- An entry of the draft table is valid for a satchel at the Plan of the current stroke (R240). -/
def draftValid (l : List Byte) (x : Sat) (stroke : Nat) : Bool :=
  fieldAt l 0 8 == x.id.toNat && fieldAt l 8 6 == stroke && fieldAt l 0x10 4 == x.kvPos && zeroBytes l 0x0E 2 && zeroBytes l 0x14 12 &&
    zeroBytes l 0x330 208 && treeValid (l.drop 0x20)

/-- The tree that is planned for a satchel, with its drafts; none for a single causal row (R239, R240). -/
def State.draftTree (s : State) (q : Part) (x : Sat) : Option (List Nat × List Token) :=
  match ((List.range q.draftEntries).map fun k => s.draftBytes q k).find? fun l => draftValid l x s.stk.stroke with
  | some l =>
    let w := treeWords (l.drop 0x20)
    if w.length ≤ 1 then none
    else some (w, (List.range w.length).map fun i => BitVec.ofNat 32 (fieldAt l (0x230 + 4 * i) 4))
  | none => none

/-! ### Eligibility and order (R238, R460) -/

/-- Lexicographic order of keys. -/
def lexLe : List Nat → List Nat → Bool
  | a :: s, b :: t => decide (a < b) || (a == b && lexLe s t)
  | _, _ => true

/-- Satchels in the order of a key. -/
def inOrder (key : Sat → List Nat) (l : List (Nat × Sat)) : List (Nat × Sat) := l.mergeSort fun a b => lexLe (key a.2) (key b.2)

/-- The order of steps 1 and 3: class, then least recently inked. -/
def decodeKey (x : Sat) : List Nat := [x.cls.val, x.lastStroke, x.id.toNat]

/-- The order of step 4. -/
def prefillKey (x : Sat) : List Nat := [x.cls.val, x.admitStroke, x.id.toNat]

/-- Nothing keeps a satchel out of Plan but its state: its rows are present, it is not being handed over, cancelled, or held (R85, R238). -/
def Sat.plannable (x : Sat) : Bool :=
  !x.frozen && !x.cancelLatched && !x.mirrorHold && !x.swapped && x.swapOut.isEmpty && x.returns.isEmpty && x.admitting.isNone &&
    x.planned.isNone && (match x.park with | .idle => true | .cachePass _ => true | .cacheWait _ => true | _ => false)

/-- ready(part) of R238, without a pending back-fill (R243). -/
def Sat.isReady (x : Sat) : Bool := x.plannable && x.state == .ready && x.backfill == 0

/-- A KV-only row (R151) or a back-fill (R243) is due. -/
def Sat.pendingRow (x : Sat) : Bool :=
  x.plannable && ((x.state == .wait && decide (x.kvPos < x.log.length)) || (x.state == .ready && x.backfill != 0))

/-- prefilling(part) of R238. -/
def Sat.isPrefilling (x : Sat) : Bool :=
  x.plannable && (x.state == .admitted || x.state == .prefill) && decide (x.kvPos < x.log.length)

/-- Stream records of a satchel fill what R460 allows: 16 in the backlog, or a full backlog. -/
def State.streamFull (s : State) (x : Sat) : Bool :=
  match afind s.cmd.rings x.streamKey with
  | some r =>
    decide (16 ≤ (r.backlog.filter fun b => leNat (b.take 8) == x.id.toNat).length) || decide (RingKind.stream.backlogMax ≤ r.backlog.length)
  | none => false

/-! ### The deadline monitor (R55) -/

/-- A phase point of the current stroke [ns after the boundary]. -/
def State.phaseAt (s : State) (point : Nat) : Nat := s.stk.cfg.point s.stk.stroke point - s.stk.cfg.boundary s.stk.stroke

/-- A row of a predicted finish is predicted to miss (R55): the finish lies later than the ink point less GUARD. A GUARD above the span
from Compute to the ink point marks every row (R65). -/
def State.predictsMiss (s : State) (finish : Nat) : Bool :=
  let guard := s.fld Reg.stkGuard 19 0
  let ink := s.phaseAt s.stk.cfg.commitAt
  decide (ink - s.phaseAt s.stk.cfg.computeAt < guard) || decide (ink < finish + guard)

/-- What is predicted of a satchel's row; where the operand says nothing of it, the prediction is free (log entry 44). -/
def State.predOf (s : State) (preds : List Predict) (x : Sat) : Predict :=
  (preds.find? fun q => q.id == x.id).getD (let v := Config.predicted s.stk.stroke x.id.toNat; { id := x.id, finish := v.1, room := v.2 })

/-- A predicted miss counts in STK_MISS_PRED (R55). -/
def State.countMiss (s : State) (miss : Bool) : State := if miss then s.count Reg.stkMissPred 1 else s

/-! ### Taking rows (R149, R171, R235, R238, R239, R241) -/

/-- A satchel's row is deferred (R238). -/
def State.deferRow (s : State) (slot : Nat) : State :=
  (s.modSat slot fun y => { y with defers := satAdd 0xFFFF y.defers 1 }).count Reg.plnCntDefer 1

/-- A window that cannot be made present (R171, R248): victims are chosen, and the row is deferred. -/
def State.noWindow (s : State) (slot : Nat) (x : Sat) (rows : List Nat) (short : Nat) : State :=
  let s1 := (s.preempt slot (x.windowNeed rows) short false).deferRow slot
  if (s1.victims x.part.val slot x.cls.val false).any fun v => !v.2.swapOut.isEmpty then s1 else s1.count Reg.kvaCntDefer 1

/-- A shadow tap goes on a row (R241, R243). -/
def Part.tap (q : Part) (x : Sat) (first predicted : Bool) (samples : Bool) (qrows : Nat) (kind : PlanKind) : Bool :=
  samples && !x.noSubst && (match q.image with | some im => im.substLayer != 0 | none => false) && q.shadow != 0 &&
    (q.shadow == 2 || first || predicted) && !(kind == .backfill && decide (16 ≤ qrows))

/-- Take a row into the batch: its window is made present here and on the other shards, which take the row too (R145, R233); or it is deferred,
also where another shard lacks `short` rows (R248). -/
def State.takeRow (s : State) (slot : Nat) (x : Sat) (short : Nat) (w : Planned) : State :=
  let q := s.part x.part.val
  match s.makePresent slot w.start w.qrows short with
  | none => s.noWindow slot x (windowRows q.positions w.start w.qrows) short
  | some s1 =>
    let input := ((x.log.drop w.start).take w.qrows).countP isInput
    let paid := match w.kind with
      | .decode | .tree => w.qrows
      | .chunk => input
      | _ => 0
    let s2 := s1.modSat slot fun y =>
      { y with planned := some w, state := if y.state = .admitted then .prefill else y.state,
               tokensOut := if w.kind = .decode ∨ w.kind = .tree then satAdd 0xFFFFFFFF y.tokensOut paid else y.tokensOut,
               tokensIn := if w.kind = .chunk then satAdd 0xFFFFFFFF y.tokensIn paid else y.tokensIn }
    let s3 := s2.modPart x.part.val fun y => { y with batchRows := y.batchRows + 1, batchQrows := y.batchQrows + w.qrows }
    let s4 := (q.shardList.drop 1).foldl (fun (a : State) d => a.emit (.shardPlan d s.strokeNow [shardDo x.id x.kvPos (.planned w)])) s3
    (s4.chargeTokens x.tenant paid).count Reg.plnCntRows 1

/-- The batch takes an entry of r query rows (R239). -/
def Part.batchRoom (q : Part) (r : Nat) : Bool := decide (q.batchRows < q.maxRows) && decide (q.batchQrows + r ≤ 65536)

/-- The Plan of a partition has fixed all the rows that it fixes before ISSUE_AT (R48): the rest wait for a later stroke. -/
def Part.planCut (q : Part) : Bool := match q.planMax with | some m => decide (m ≤ q.batchRows) | none => false

/-- Steps 1 and 3 of R238 for a satchel: `first` is step 1, which neither the level nor the prediction stops. -/
def State.planDecode (s : State) (preds : List Predict) (first : Bool) (slot : Nat) : State :=
  s.withSlot slot fun x =>
    if x.isReady = false ∨ (s.part x.part.val).planCut = true then s
    else
      let q := s.part x.part.val
      let t := s.draftTree q x
      let r := match t with | some w => w.1.length | none => 1
      let pr := s.predOf preds x
      let miss := s.predictsMiss pr.finish
      let s1 := s.countMiss miss
      let paid := match s.tokens x.tenant with | some n => decide ((r : Int) ≤ n) | none => true
      if q.batchRoom r = false ∨ (first = false ∧ (paid = false ∨ miss = true ∨ pr.room < r)) then s1.deferRow slot
      else
        let kind := if t.isSome then PlanKind.tree else .decode
        s1.takeRow slot x pr.short
          { kind := kind, qrows := r, start := x.kvPos, samples := true, tap := q.tap x first miss true r kind, predicted := miss,
            tree := (t.map fun w => w.1).getD [], drafts := (t.map fun w => w.2).getD [] }

/-- Step 2 of R238: KV-only rows and back-fills, never charged. -/
def State.planPending (s : State) (preds : List Predict) (slot : Nat) : State :=
  s.withSlot slot fun x =>
    if x.pendingRow = false ∨ (s.part x.part.val).planCut = true then s
    else
      let q := s.part x.part.val
      let r := x.log.length - x.kvPos
      let kind := if x.state = .wait then PlanKind.kvOnly else .backfill
      let pr := s.predOf preds x
      let miss := s.predictsMiss pr.finish
      let s1 := s.countMiss miss
      if q.batchRoom r = false then s1.deferRow slot
      else
        s1.takeRow slot x pr.short
          { kind := kind, qrows := r, start := x.kvPos, samples := kind == .backfill, tap := q.tap x false miss (kind == .backfill) r kind,
            predicted := miss, tree := [], drafts := [] }

/-- Step 4 of R238: a prefill chunk; one that is predicted to miss is not taken (R241). A rebuilt satchel that waits goes back to its wait, so
its last chunk samples nothing. -/
def State.planChunk (s : State) (preds : List Predict) (slot : Nat) : State :=
  s.withSlot slot fun x =>
    if x.isPrefilling = false ∨ (s.part x.part.val).planCut = true then s
    else
      let q := s.part x.part.val
      let left := x.log.length - x.kvPos
      let pr := s.predOf preds x
      let level := match s.tokens x.tenant with | some n => n.toNat | none => left
      let k0 := min (min left q.chunkMax) (min level (min pr.room (65536 - q.batchQrows)))
      let k := if k0 < left then k0 - k0 % 64 else k0
      let miss := s.predictsMiss pr.finish
      let s1 := s.countMiss miss
      if k = 0 ∨ q.batchRoom k = false ∨ miss = true then s1.deferRow slot
      else
        let last := k == left && x.waitKind == 0
        s1.takeRow slot x pr.short
          { kind := .chunk, qrows := k, start := x.kvPos, samples := last, tap := q.tap x false false last k .chunk, predicted := false,
            tree := [], drafts := [] }

/-- MAX_ROWS, C0_ROWS, CHUNK_MAX and SHADOW as written take effect at Plan (R239, R257), and in the parameter block (R231). -/
def State.adoptLimits (s : State) (p : Nat) : State :=
  let q := s.part p
  let v := (s.fld (Reg.plnPCfg p) 30 16, s.fld (Reg.plnPC0 p) 14 0, s.fld (Reg.plnPCfg p) 12 0,
    if s.fld (Reg.plnPC0 p) 17 16 = 3 then 1 else s.fld (Reg.plnPC0 p) 17 16)
  if (q.maxRows, q.c0Rows, q.chunkMax, q.shadow) = v then s
  else (s.modPart p fun y => { y with maxRows := v.1, c0Rows := v.2.1, chunkMax := v.2.2.1, shadow := v.2.2.2 }).writeParams p

/-- Satchels of a partition that a test passes. -/
def State.satsOf (s : State) (p : Fin 16) (f : Sat → Bool) : List (Nat × Sat) := s.sat.sats.filter fun e => e.2.part == p && f e.2

/-- Plan of a partition (R238): nothing unless it is READY and serves, its Commit is complete (R57), and every shard and its weights are
there (R225, R286). -/
def State.plan (s : State) (preds : List Predict) (cut : Option Nat) (p : Fin 16) : State :=
  let q := s.part p.val
  if s.pln.ready = false ∨ q.state ≠ .ready ∨ q.degraded = true ∨ q.commitOpen = true ∨ s.blt.l3 = true then s
  else
    let s1 := (s.adoptLimits p.val).modPart p.val fun y => { y with kill := [], missed := [], batchRows := 0, batchQrows := 0, planMax := cut }
    let s2 := s1.requestReturns (s1.returners p.val)
    let full := s2.satsOf p fun x => (x.isReady || x.pendingRow || x.isPrefilling) && s2.streamFull x
    let s3 := full.foldl (fun (a : State) e => a.deferRow e.1) s2
    let keep (l : List (Nat × Sat)) : List (Nat × Sat) := l.filter fun e => !(full.any fun c => c.1 == e.1)
    let c0 := (inOrder decodeKey (keep (s3.satsOf p fun x => x.isReady && x.cls == 0))).take (s3.part p.val).c0Rows
    let s4 := c0.foldl (fun (a : State) e => a.planDecode preds true e.1) s3
    let due := keep (s4.satsOf p Sat.pendingRow)
    let s5 := (due.filter (fun e => e.2.state == .wait) ++ due.filter fun e => e.2.state != .wait).foldl
      (fun (a : State) e => a.planPending preds e.1) s4
    let rest := (inOrder decodeKey (keep (s5.satsOf p Sat.isReady))).filter fun e => !(c0.any fun c => c.1 == e.1)
    let s6 := rest.foldl (fun (a : State) e => a.planDecode preds false e.1) s5
    (inOrder prefillKey (keep (s6.satsOf p Sat.isPrefilling))).foldl (fun (a : State) e => a.planChunk preds e.1) s6

/-! ### The boundary (R47, R50, R52, R53, R78, R89, R222, R235, R247, R426, R460, R519) -/

/-- The configuration that the parent has in force at a stroke (R38, R52). -/
def ParentCfg.inForce (p : ParentCfg) (stroke : Nat) : Option StrokeCfg :=
  match p.active, p.pending with
  | some c, some q => if !q.start ∧ q.n0 ≤ stroke then some { q.cfg with epoch := c.boundary q.n0, base := q.n0 } else some c
  | a, _ => a

/-- The stroke that a boundary begins: its number and configuration, and the strokes passed over. None where no boundary is due. In a mismatch
the parent's configuration is adopted at its next boundary, whatever phase the old one is in, and the strokes without a Plan, the one that found
the mismatch among them, are passed over (R52). -/
def Stk.next (k : Stk) : Option (Nat × StrokeCfg × Nat) :=
  match k.running, k.pend with
  | false, some q => if q.start then some (q.n0, q.cfg, 0) else none
  | false, none => none
  | true, some q =>
    if k.phase ≠ .commit ∧ q.start = false then none
    else if q.start then some (max q.n0 (k.stroke + 1), q.cfg, max q.n0 (k.stroke + 1) - k.stroke)
    else if q.n0 = k.stroke + 1 then some (q.n0, { q.cfg with epoch := k.cfg.boundary q.n0, base := q.n0 }, 0)
    else some (k.stroke + 1, k.cfg, 0)
  | true, none => if k.phase ≠ .commit then none else some (k.stroke + 1, k.cfg, 0)

/-- The stroke begins (R47, R50, R52, R53). -/
def State.beginStroke (s : State) (n : Nat) (c : StrokeCfg) (skipped : Nat) : State :=
  let adopted : Bool := match s.stk.pend with | some q => q.start || decide (q.n0 ≤ n) | none => false
  let k : Stk := { s.stk with
    cfg := c, running := true, stroke := n, phase := .plan, pend := if adopted then none else s.stk.pend, mismatch := s.stk.mismatch && !adopted }
  let k1 := if s.stk.running = false ∧ s.refMode = 2 then { k with refAt := c.boundary n } else k
  ({ s with stk := k1 }.at_ (c.boundary n)).count Reg.stkSkip skipped

/-- A child whose configuration differs from its parent's at a boundary (R52): the level 2 fault names the parent's epoch base, and the
parent's configuration is adopted at its next boundary. -/
def State.checkMismatch (s : State) : State :=
  match (if s.stk.role = 2 then none else s.stk.parent) with
  | none => s
  | some p =>
    match p.inForce s.stk.stroke with
    | none => s
    | some c =>
      if c = s.stk.cfg then { s with stk := { s.stk with mismatch := false } }
      else
        let s1 := if s.stk.mismatch then s else s.post (fault 0x3C0 0x105 2 c.base)
        { s1 with stk := { s1.stk with mismatch := true, pend := some { cfg := c, n0 := c.firstAfter s1.stk.time 0, start := true } } }

/-- Requests that came back under R78 are sent again to the registrar now named. -/
def State.resendReturned (s : State) : State :=
  s.sat.resend.foldl (fun (a : State) r =>
    a.toRegistrar r.1 { r.2.1 with forwarded := false, status := 0, sender := s.me } r.2.2) { s with sat := { s.sat with resend := [] } }

/-- One STREAM_DROP event for each ring that lost records since the last boundary (R460, R461). -/
def State.reportDrops (s : State) : State :=
  s.cmd.drops.foldl (fun (a : State) e =>
    a.event (ringFn e.1) 8 .ok (ringFn e.1 - 1) (leBytes 2 (e.1 % 4096) ++ zeros 2 ++ leBytes 4 e.2)) { s with cmd := { s.cmd with drops := [] } }

/-- A move that was taken freezes the satchel (R89), unless R75, R126 or R169 defers it; a cold satchel is restored first (R125). A target in another
harness for which no transit key is held counts as one that refused (R124, R515). -/
def State.freezeMove (s : State) (slot : Nat) : State :=
  s.withSlot slot fun x =>
    match x.move with
    | none => s
    | some v =>
      if x.frozen || v.offered || !x.state.live || x.admitting.isSome || x.planned.isSome then s
      else if x.state = .parkedCold then
        (match x.park with
        | .idle | .cacheWait _ => s.beginWarmRestore slot none
        | .cachePass n => s.beginWarmRestore slot (some n)
        | _ => s)
      else if x.migrating || x.swapped || !x.swapOut.isEmpty || !x.returns.isEmpty then s
      else
        match x.park with
        | .idle | .cachePass _ | .cacheWait _ =>
          if s.mayTransit x.tenant v.dev then
            s.modSat slot fun y => { y with frozen := true, move := some { v with frozenAt := some s.stk.stroke } }
          else (s.modSat slot fun y => { y with prior := y.state, move := some { v with declined := some .protection } }).thaw slot
        | _ => s

/-- An orderly shut-down offers satchels at each stroke (R519): up to PARK_RATE of a partition, each to the next target in turn. -/
def State.shutdownMoves (s : State) (p : Fin 16) : State :=
  match s.sec.shutdown with
  | none => s
  | some d =>
    if d.immediate ∨ d.deadlinePassed ∨ d.targets.isEmpty then s
    else
      let l := (s.satsOf p fun x => x.state.live && x.move.isNone && x.admitting.isNone && decide (x.tried < d.targets.length)).take
        (s.part p.val).parkCfg.parkRate
      l.foldl (fun (a : State) e =>
        match a.sec.shutdown with
        | none => a
        | some b =>
          match b.targets[b.nextTarget % b.targets.length]? with
          | none => a
          | some t =>
            let a1 : State := { a with sec := { a.sec with shutdown := some { b with nextTarget := b.nextTarget + 1 } } }
            a1.modSat e.1 fun y => { y with
              move := some { dev := t.dev, part := t.part, full := harness t.dev != harness s.me, reply := none, frozenAt := none,
                             offered := false, declined := none, abortSent := false, purpose := 3 } }) s

/-- What a boundary brings before Plan. -/
def State.boundaryWork (s : State) : State :=
  let s1 := s.fallStep.takeGates
  let s2 : State := { s1 with
    shp := { s1.shp with windows := (List.range 8).map fun c => if c = 0 then 31 else s1.fld (Reg.shpWin c) 4 0 },
    pln := { s1.pln with parts := s1.pln.parts.map fun q =>
      { q with skipped := false, parkCfg := q.parkPend.getD q.parkCfg, parkPend := none, rankRows := [] } } }
  let s3 := s2.advanceEpoch.resendReturned.reportDrops.refill
  let s4 := (List.finRange 16).foldl (fun (a : State) p => ((a.partBoundary p.val).adapterSwap p).refetch p.val) s3
  let s5 := (List.finRange 16).foldl State.shutdownMoves s4
  let s6 := (s5.sat.sats.map fun e => e.1).foldl State.freezeMove s5
  let held := (List.finRange 16).filter fun p => (s6.part p.val).state != .ready
  (held.foldl (fun (a : State) p => a.requestReturns ((a.returners p.val).filter fun e => e.2.move.isSome)) s6).runCheck

/-- STROKE_BOUNDARY (R47): a stroke begins, and every partition plans it unless the configuration differs from the parent's. -/
def execStrokeBoundary (preds : List Predict) (cuts : List (Fin 16 × Nat)) (s : State) : Host.Outcome State Fault Refusal :=
  match s.stk.next with
  | none => .next s
  | some (n, c, skipped) =>
    let s1 := (s.beginStroke n c skipped).checkMismatch.boundaryWork
    .next (if s1.stk.mismatch then s1 else (List.finRange 16).foldl (fun (a : State) p =>
      a.plan preds ((cuts.find? fun e => e.1 == p).map fun e => e.2) p) s1)

/-! ### The Exchange phase (R81, R89, R93) -/

/-- The OFFER of a frozen satchel goes out once the registrar has acknowledged every inked token (R89). -/
def State.offerDue (s : State) (slot : Nat) : State :=
  s.withSlot slot fun x =>
    match x.move with
    | some v => if x.frozen && !v.offered && x.state.live && x.mirrorLen == x.log.length && !s.blt.l3 then s.sendOffer slot else s
    | none => s

/-- Move lodged rows of a context home, at most so many pages (R93). A row moves into a free row; without one it stays. -/
def State.migrateRows (s : State) (c : Nat) : Nat → Nat → State
  | 0, _ => s
  | fuel + 1, pages =>
    match s.ctxAt c with
    | none => s
    | some x =>
      let p := x.part.val
      let q := s.part p
      match x.rows.findIdx? (fun r => r.kind == .lodged), pages with
      | none, _ => s
      | _, 0 => s
      | some j, _ =>
        if x.migrated + pages < q.rowFrames then s.modCtx c fun y => { y with migrated := y.migrated + pages }
        else
          match s.allocRow p x.id, x.rows[j]? with
          | some (h, s1), some r =>
            let s2 := if x.lodge = s.me then s1.copyRow r.loc h q.rowFrames x.id id else s1.fillFree q h
            let s3 := s2.modCtx c fun y => { y with rows := putRow y.rows j { r with kind := RowKind.here, loc := h }, migrated := 0 }
            s3.migrateRows c fuel (pages - (q.rowFrames - x.migrated))
          | _, _ => s.modCtx c fun y => { y with migrated := q.rowFrames - 1 }

/-- Migration of a satchel's or satellite's rows in an Exchange phase, from the stroke after its hand-over (R93, R146). -/
def State.migrate (s : State) (c : Nat) : State :=
  s.withCtx c fun x =>
    let frozen : Bool := if c < 2 ^ 22 then (match s.satAt c with | some y => y.frozen | none => false) else false
    if x.migrating && decide (x.lodgedAt < s.stk.stroke) && !frozen then s.migrateRows c (x.rows.length + 1) (s.fld Reg.satMigCfg 15 0) else s

/-- Records that move to a joining member are sent (R81), over the connection that R82 names: the class of SAT_CTRL.REHOME_CLASS, partition 0, no
tenant. -/
def State.rehomeSend (s : State) : State :=
  s.sat.recs.foldl (fun (a : State) e =>
    match e.2.movingTo with
    | some d =>
      if e.2.sent then a
      else (a.modRec e.2.id fun y => { y with sent := true }).emit (.rehome d (Fin.ofNat 8 (a.fld Reg.satCtrl 4 2)) 0xFFFF 0 e.2)
    | none => a) s

/-- EXCHANGE_PHASE (R48). -/
def execExchangePhase (s : State) : Host.Outcome State Fault Refusal :=
  match s.beginPhase .compute .exchange s.stk.cfg.exchangeAt with
  | none => .next s
  | some s1 =>
    let ctxs := s1.ctxs.map fun e => e.1
    .next ((ctxs.foldl State.migrate ((s1.sat.sats.map fun e => e.1).foldl State.offerDue s1)).rehomeSend)

/-! ### The ink point (R56, R58, R87, R109, R110, R115, R151, R152, R242, R243, R459) -/

/-- Tokens generated since the last input (R109). -/
def sinceInput (log : List Token) : Nat := (log.reverse.takeWhile fun t => !isInput t).length

/-- An end condition other than a stop matcher holds at a log's last token (R74); MAX_NEW 0 sets no limit of its own (R71). -/
def Part.ends (q : Part) (x : Sat) (log : List Token) (t : Token) : Bool :=
  (match q.image with | some im => im.eosTokens.contains (vocabIx t) | none => false) || decide (x.maxNew ≠ 0 ∧ x.maxNew ≤ sinceInput log) ||
    match q.contextLen with | some n => decide (n ≤ log.length) | none => false

/-- A commit sequencer's progress over a satchel's tokens: the log, the matchers, tokens inked, the acting entry, and how the last token acts. -/
structure Inked where
  log : List Token
  stop : StopBlock
  count : Nat
  matcher : Option Nat
  ended : Bool
  waits : Bool
  deriving DecidableEq, Repr

/-- Ink tokens in order, up to the first that a stop matcher or an end condition marks (R87, R109, R115). -/
def Part.inkTokens (q : Part) (x : Sat) : List Token → Inked → Inked
  | [], a => a
  | t :: ts, a =>
    if a.ended || a.waits then a
    else
      let log := a.log ++ [BitVec.ofNat 32 (vocabIx t)]
      let r := a.stop.step log
      let act := match r.2 with | some i => r.1.action i | none => 0
      let done := q.ends x log t || act == 1 || (act == 2 && !x.session)
      q.inkTokens x ts { log := log, stop := r.1, count := a.count + 1, matcher := r.2, ended := done, waits := act == 2 && !done }

/-- Groups of eight tokens, n of them. -/
def groups8 (l : List Token) : Nat → List (List Token)
  | 0 => []
  | n + 1 => l.take 8 :: groups8 (l.drop 8) n

/-- The token-stream records of a stroke (R459): the last one ends the turn or the satchel; a substitute's ending has a record of its own. -/
def tokenRecs (x : Sat) (a : Inked) (subst : Bool) (stroke waitKind : Nat) : List StreamRec :=
  let l := a.log.drop x.log.length
  let n := ceilDiv l.length 8
  let own := subst && a.ended
  let st := if subst then Status.deadlineSubstituted else .ok
  let m := a.matcher.getD 15
  let recs := (groups8 l n).zipIdx.map fun e =>
    let last := e.2 + 1 == n
    { status := st, final := last && a.ended && !own, wait := last && a.waits, matcher := if last then m else 15,
      waitKind := if last && a.waits then waitKind else 0, pos := x.log.length + 8 * e.2, tokens := e.1, more := n - 1 - e.2 + b2n own,
      stroke := stroke, need := x.log.length + 8 * e.2 + e.1.length : StreamRec }
  if own then
    recs ++ [{ status := .ok, final := true, wait := false, matcher := m, waitKind := 0, pos := a.log.length, tokens := [], more := 0,
               stroke := stroke, need := a.log.length }]
  else recs

/-- Settle a satchel whose tokens are inked: its log, KV_POS, state and records. `kv`: positions whose keys and values the main path wrote. -/
def State.settleInk (s : State) (slot : Nat) (x : Sat) (a : Inked) (subst : Bool) (kv : Nat) : State :=
  let n := s.stk.stroke
  let e := match a.matcher with | some i => a.stop.entries[i]? | none => none
  let kind := match e with | some y => y.waitKind | none => 0
  let recs := tokenRecs x a subst n kind
  let s1 := s.modSat slot fun y =>
    { y with log := a.log, stop := a.stop, kvPos := x.kvPos + kv, lastStroke := n, planned := none, prov := none,
             state := .ready, backfill := a.log.length - 1 - (x.kvPos + kv), subst := if subst then satAdd 0xFFFFFFFF y.subst 1 else y.subst }
  let s2 := if subst then s1.count Reg.plnCntSubst 1 else s1
  if a.ended then (s2.finish slot .done recs).freeBeyond slot
  else if a.waits then
    (s2.modSat slot fun y =>
      { y with state := .wait, stop := a.stop.onWait, waitKind := kind, waitMatcher := a.matcher.getD 15,
               waitExpiry := match e with | some w => w.onExpiry | none => 0, waitStroke := n, backfill := 0,
               outRecs := y.outRecs ++ recs }).freeBeyond slot
  else (s2.modSat slot fun y => { y with outRecs := y.outRecs ++ recs }).freeBeyond slot

/-- Begin inking a satchel. -/
def Sat.inked0 (x : Sat) : Inked := { log := x.log, stop := x.stop, count := 0, matcher := none, ended := false, waits := false }

/-- A row without sampling at the ink point (R151, R152): KV_POS advances, and a rebuilt wait goes on, its age with it (R116). -/
def State.settleRows (s : State) (slot : Nat) (x : Sat) (w : Planned) : State :=
  let whole := x.kvPos + w.qrows == x.log.length
  (s.modSat slot fun y =>
    { y with kvPos := x.kvPos + w.qrows, planned := none, prov := none,
             state := if whole && w.kind == .chunk && x.waitKind != 0 then .wait else y.state }).freeBeyond slot

/-- A row whose main token is missing (R56, R242): TIER_ERROR, the shadow token, or another try in the next stroke. -/
def State.settleMiss (s : State) (slot : Nat) (x : Sat) (w : Planned) : State :=
  let s1 := s.count Reg.stkMissAct 1
  if x.noSubst then (s1.endWith slot .tierError).freeBeyond slot
  else
    match (if w.tap then (match x.prov with | some v => if v.stroke = s.stk.stroke then v.shadow else none | none => none) else none) with
    | some t => s1.settleInk slot x ((s.part x.part.val).inkTokens x [t] x.inked0) true 0
    | none => s1.modSat slot fun y => { y with planned := none, prov := none }

/-- The accepted nodes of a tree go into order, here and on the other shards (R165). -/
def State.acceptPath (s : State) (slot : Nat) (x : Sat) (path : List Nat) : State :=
  if path = List.range path.length then s
  else (s.movePath (ctxOfSlot slot) x.kvPos path).toShards x.part.val false (shardDo x.id x.kvPos (.path x.kvPos path))

/-- The commit sequencer takes a satchel (R87). -/
def State.inkSat (s : State) (late : List SatchelId) (slot : Nat) : State :=
  s.withSlot slot fun x =>
    match x.planned with
    | none => s.modSat slot fun y => { y with prov := none }
    | some w =>
      let p := x.part.val
      let q := s.part p
      if x.cancelLatched then (s.finish slot .cancelled [finalRec x .cancelled s.stk.stroke]).freeBeyond slot
      else
        let lost := !q.poisonWeights.isEmpty || q.missed.contains (ctxOfSlot slot)
        if !w.samples then
          if lost || late.contains x.id then s.modSat slot fun y => { y with planned := none, prov := none } else s.settleRows slot x w
        else
          let (tokens, path) : List Token × List Nat := match x.prov with
            | some v => if v.stroke = s.stk.stroke ∧ lost = false then (v.tokens, v.path) else ([], [])
            | none => ([], [])
          if tokens.isEmpty then s.settleMiss slot x w
          else
            let a := q.inkTokens x tokens x.inked0
            let tree := w.kind == .tree
            let s1 := if tree then s.acceptPath slot x (0 :: path.take (a.count - 1)) else s
            s1.settleInk slot x a false (if w.kind = .decode ∨ tree then a.count else w.qrows)

/-- Report a satchel that inked tokens or changed state to its registrar (R74, R85), and publish what is acknowledged. -/
def State.report (s : State) (slot : Nat) : State :=
  s.withSlot slot fun x =>
    if x.admitting.isNone ∧ x.state ≠ .inTransit ∧ (x.mirrorSent < x.log.length ∨ x.state ≠ x.reported) then
      (s.sendMirror slot).publishInk slot
    else s.publishInk slot

/-- A command at the ink point: its parked entries are discarded (R144, R282). -/
def CoreCmd.dropEntries (c : CoreCmd) (faults : Assoc OpenFault) (closed : List Nat) : CoreCmd :=
  let l := c.parked.filterMap fun k =>
    if closed.contains k then (match afind faults k with | some f => (match f.unit with | .entry _ _ _ i => some i | _ => none) | none => none)
    else none
  { c with parked := c.parked.filter (fun k => !closed.contains k), gone := l ++ c.waiting ++ c.gone, waiting := [] }

/-- Parked lengths-table entries are discarded and their faults close (R282). -/
def State.dropEntries (s : State) : State :=
  let gone := (s.memory.faults.filter fun e => match e.2.unit with | .entry .. => true | _ => false).map fun e => e.1
  { s with
    memory := { s.memory with faults := s.memory.faults.filter fun e => !gone.contains e.1 },
    cores := { s.cores with queues := amap (fun l => l.map fun (c : CoreCmd) => c.dropEntries s.memory.faults gone) s.cores.queues } }

/-- INK_POINT (R48, R87). A level 3 record ends inking (R478). -/
def execInkPoint (late : List SatchelId) (s : State) : Host.Outcome State Fault Refusal :=
  match s.beginPhase .exchange .commit s.stk.cfg.commitAt with
  | none => .next s
  | some s1 =>
    let slots := s1.sat.sats.map fun e => e.1
    if s1.blt.l3 then .next (slots.foldl (fun (a : State) k => a.modSat k fun y => { y with planned := none, prov := none }) s1.dropEntries)
    else
      let s2 := slots.foldl (fun (a : State) k => a.inkSat late k) s1.dropEntries
      let s3 := slots.foldl State.report s2
      .next { s3 with pln := { s3.pln with parts := s3.pln.parts.map fun q =>
        if q.state = .ready ∧ q.composing.isNone then { q with commitOpen := true } else q } }

/-! ### The end of Commit (R54, R57, R246, R250) -/

/-- The configuration in force at an instant that a time step reaches, and what then still pends: a change whose boundary the step passes is
adopted (R50, R54). -/
def Stk.configAt (k : Stk) (t : Nat) : StrokeCfg × Option PendCfg :=
  match k.pend with
  | some q =>
    if q.start = false ∧ k.cfg.boundary q.n0 ≤ t then ({ q.cfg with epoch := k.cfg.boundary q.n0, base := q.n0 }, none) else (k.cfg, k.pend)
  | none => (k.cfg, none)

/-- A time step above 10 µs is applied when the stroke's Commit completes (R54): no stroke number is repeated or reversed. -/
def State.applyStep (s : State) : State :=
  match s.stk.step with
  | none => s
  | some d =>
    let t := addTime s.stk.time d
    let a := s.stk.configAt t
    let n := a.1.strokeAt t
    let s1 := ({ s with stk := { s.stk with time := t, step := none, stroke := max s.stk.stroke n, cfg := a.1, pend := a.2 } }).setFld
      Reg.stkStatus 17 17 1
    s1.count Reg.stkSkip (n - s.stk.stroke)

/-- COMMIT_COMPLETE (R57): a partition's Commit completes. Before ISSUE_AT of the next stroke its Plan runs late; a suspension takes
effect. -/
def execCommitComplete (part : Fin 16) (now : Nat) (preds : List Predict) (cut : Option Nat) (s : State) :
    Host.Outcome State Fault Refusal :=
  let p := part.val
  let sn := s.at_ now
  let s0 := if sn.stk.phase = .plan ∧ sn.stk.cfg.point sn.stk.stroke sn.stk.cfg.issueAt ≤ now then sn.skipIfOpen p else sn
  let q := s0.part p
  let s1 := (s0.modPart p fun y => { y with commitOpen := false })
  let s2 := if q.commitOpen then s1.freeAdapters part else s0
  let s3 := if s2.stk.phase = .commit ∧ s2.stk.running = true ∧ (s2.pln.parts.all fun y => !y.commitOpen) then s2.applyStep else s2
  if q.commitOpen = false then .next s3
  else if q.suspendTag.isSome ∧ q.state = .ready then .next (s3.enterSuspend p)
  else if s3.stk.phase = .plan ∧ q.skipped = false ∧ s3.stk.mismatch = false then .next ((s3.count Reg.stkOverrun 1).plan preds cut part)
  else .next s3

end Sys2Proof.Machine
end

