-- ==== Sys2Proof/Machine/Units.lean ====
section
/-!
DEFINITION. Machine/Units.lean: the exponent and reciprocal unit, rotation and the K step sum, within the accuracy that R183, R189 and R205 state.
What a device gives within a bound is its own: an opaque candidate of Config, taken where it keeps the bound, and the nearest FP32 elsewhere
(log entry 131). The reference values here are rationals, good to far more digits than any bound.
-/
namespace Sys2Proof.Machine

/-! ### Reference values -/

/-- A magnitude m × 2^e in units of 2^-k, rounded down. -/
def fixOf (k : Nat) (m : Nat) (e : Int) : Nat := if -(k : Int) ≤ e then m * 2 ^ (e + k).toNat else m / 2 ^ (-e - k).toNat

/-- ln 2 in units of 2^-128. -/
def ln2Fix : Nat := 0xb17217f7d1cf79abc9e3b39803f2f6af

/-- Pi in units of 2^-252, cut to 256 bits. -/
def piFix : Nat := 0x3243f6a8885a308d313198a2e03707344a4093822299f31d0082efa98ec4e6c89

/-- The sum of a series term by term: each from the one before, in units of 2^-128. -/
def seriesSum (x : Int) (next : Nat → Int → Int → Int) : Nat → Nat → Int → Int → Int
  | 0, _, _, acc => acc
  | n + 1, k, term, acc => seriesSum x next n (k + 1) (next k x term) (acc + term)

/-- e^r for 0 ≤ r < ln 2, in units of 2^-128. -/
def expSeries (r : Int) : Int := seriesSum r (fun k x t => t * x / 2 ^ 128 / ((k : Int) + 1)) 36 0 (2 ^ 128) 0

/-- exp of a value. -/
def expNum : Num → Num
  | .nan => .nan
  | .inf neg => if neg then .fin false 0 0 else .inf false
  | .fin neg m e =>
    let a := fixOf 128 m e
    if 2 ^ 136 ≤ a then .fin false 1 (if neg then -512 else 512)
    else
      let v : Int := if neg then -(a : Int) else a
      let n := v / (ln2Fix : Int)
      .fin false (expSeries (v - n * ln2Fix)).toNat (n - 128)

/-- 1/x. -/
def recipNum : Num → Num
  | .nan => .nan
  | .inf neg => .fin neg 0 0
  | .fin neg m e => if m = 0 then .inf neg else .fin neg (2 ^ (Nat.log2 m + 96) / m) (-e - (Nat.log2 m + 96 : Nat))

/-- The quotient of two values. -/
def quotNum (a b : Num) : Num :=
  match a, b with
  | .fin n m e, .fin n2 m2 e2 =>
    if m2 = 0 then (if m = 0 then .nan else .inf (n != n2))
    else
      let big := m * 2 ^ (Nat.log2 m2 + 96)
      .fin (n != n2) (2 * (big / m2) + b2n (big % m2 != 0)) (e - e2 - (Nat.log2 m2 + 97 : Nat))
  | x, y => x.mul (recipNum y)

/-- The integer square root, bit by bit from bit n down. -/
def isqrt (v : Nat) : Nat → Nat → Nat
  | 0, r => r
  | n + 1, r => isqrt v n (if (r + 2 ^ n) * (r + 2 ^ n) ≤ v then r + 2 ^ n else r)

/-- 1/sqrt(x); a NaN below zero. -/
def rsqrtNum : Num → Num
  | .nan => .nan
  | .inf neg => if neg then .nan else .fin false 0 0
  | .fin neg m e =>
    if m = 0 then .inf neg
    else if neg then .nan
    else
      let m2 := if e % 2 = 0 then m else 2 * m
      let k := Nat.log2 m2 + 96
      .fin false (isqrt (2 ^ (2 * k) / m2) (k + 1) 0) (-((e - e % 2) / 2) - (k : Nat))

/-- Sine and cosine of an angle m × 2^e, in units of 2^-128. -/
def sinCos (m : Nat) (e : Int) : Int × Int :=
  let a : Int := ((fixOf 252 m e % (2 * piFix)) / 2 ^ 124 : Nat)
  let next (k : Nat) (x t : Int) : Int := -(t * x / 2 ^ 128 * x / 2 ^ 128 / (((2 * k + 2) * (2 * k + 3) : Nat) : Int))
  let nextc (k : Nat) (x t : Int) : Int := -(t * x / 2 ^ 128 * x / 2 ^ 128 / (((2 * k + 1) * (2 * k + 2) : Nat) : Int))
  (seriesSum a next 32 0 a 0, seriesSum a nextc 32 0 (2 ^ 128) 0)

/-! ### What is accepted -/

/-- A code lies within a distance of a value. -/
def within (v : BitVec 32) (t tol : Num) : Bool := (((f32 v).add t.neg).abs).le tol

/-- A value in the range of normal FP32 results. -/
def normal32 (t : Num) : Bool := (Num.fin false 1 (-126)).le t.abs && t.abs.le (Fmt.fp32.decode Fmt.fp32.top)

/-- A unit's result for a reference value: within 2^k of it relatively where it is normal (R205); exact where it is zero, infinite or a NaN; else the
device's own. -/
def unitResult (cand : BitVec 32) (t : Num) (k : Int) : BitVec 32 :=
  if normal32 t then (if within cand t (t.abs.scale k) then cand else toF32 t)
  else
    match t with
    | .fin _ m _ => if m = 0 then toF32 t else cand
    | _ => toF32 t

/-- exp (R205). -/
def exp32 (x : BitVec 32) : BitVec 32 := unitResult (Config.expUnit x) (expNum (f32 x)) (-21)

/-- Reciprocal (R205). -/
def recip32 (x : BitVec 32) : BitVec 32 := unitResult (Config.recipUnit x) (recipNum (f32 x)) (-22)

/-- Reciprocal square root (R205). -/
def rsqrt32 (x : BitVec 32) : BitVec 32 := unitResult (Config.rsqrtUnit x) (rsqrtNum (f32 x)) (-22)

/-- A division that a rule writes in FP32 (R163, R204, R208): no rounding is stated for it; within 2^-21 of the quotient. -/
def div32 (a b : BitVec 32) : BitVec 32 := unitResult (Config.divide a b) (quotNum (f32 a) (f32 b)) (-21)

/-- An FP32 number's magnitude and exponent; none for an infinity or a NaN. -/
def Num.parts : Num → Option (Nat × Int)
  | .fin _ m e => some (m, e)
  | _ => none

/-- Rotate an element pair by pos × f (R189): each result lies within what an error of 2^-20 in cosine and sine, and FP32 rounding, allow (R205). -/
def rotate32 (x y : BitVec 32) (pos : Nat) (f : BitVec 32) : BitVec 32 × BitVec 32 :=
  match (f32 f).parts with
  | none => (toF32 .nan, toF32 .nan)
  | some (m, e) =>
    let sc := sinCos (m * pos) e
    let s : Num := .fin (decide (sc.1 < 0) != bitAt f.toNat 31) sc.1.natAbs (-128)
    let c : Num := .fin (decide (sc.2 < 0)) sc.2.natAbs (-128)
    let tx := ((f32 x).mul c).add ((f32 y).mul s).neg
    let ty := ((f32 x).mul s).add ((f32 y).mul c)
    let tol := ((f32 x).abs.add (f32 y).abs).mul (.fin false 5 (-22))
    let cand := Config.rotatePair x y pos f
    if within cand.1 tx tol && within cand.2 ty tol then cand else (toF32 tx, toF32 ty)

/-! ### Products (R183) -/

/-- The odd part of a significand and the exponent that goes with it. -/
def oddPart : Nat → Nat → Int → Nat × Int
  | 0, m, e => (m, e)
  | k + 1, m, e => if m % 2 = 0 ∧ m ≠ 0 then oddPart k (m / 2) (e + 1) else (m, e)

/-- The exponent of a finite value's lowest set bit. -/
def lowBit : Num → Option Int
  | .fin _ m e => if m = 0 then none else some (oddPart (Nat.log2 m) m e).2
  | _ => none

/-- The exact sum of values. -/
def sumNum (l : List Num) : Num := l.foldl Num.add (.fin false 0 0)

/-- The products of a K step. -/
def products (a b : List Num) : List Num := (a.zip b).map fun q => q.1.mul q.2

/-- The sum of a K step, rounded once to FP32. Where its products span more than 40 bits the sum is the device's own within 2^-23 of the sum of the
products' magnitudes, which is the step's share of R183's bound. -/
def stepSum (a b : List Num) : BitVec 32 :=
  let p := products a b
  let t := sumNum p
  let mag := sumNum (p.map Num.abs)
  match t, mag, (p.filterMap lowBit).min? with
  | .fin n m e, .fin _ m2 e2, some lo =>
    if m2 < 2 ^ 40 * 2 ^ (lo - e2).toNat then toF32 t
    else
      let cand := Config.wideStepSum ((if n then -1 else 1) * (m : Int)) e
      if within cand t (mag.scale (-23)) then cand else toF32 t
  | _, _, _ => toF32 t

/-- Add n K steps of 96 elements to the accumulator. -/
def accSteps : Nat → List Num → List Num → BitVec 32 → BitVec 32
  | 0, _, _, acc => acc
  | n + 1, a, b, acc => accSteps n (a.drop 96) (b.drop 96) (f32Add acc (stepSum (a.take 96) (b.take 96)))

/-- One output element of a matrix product. -/
def dotF32 (a b : List Num) : BitVec 32 := accSteps (ceilDiv a.length 96) a b 0

end Sys2Proof.Machine
end

