-- ==== Sys2Proof/Machine/Engine.lean ====
section
/-!
DEFINITION. Machine/Engine.lean: what the engines' commands share: formats and operands in memory (R179 to R183), lengths tables, contexts
and pages, and the running of a command's pieces of work with what parks, ends or stops them (R190 to R193, R266, R279 to R283).
-/
namespace Sys2Proof.Machine

/-! ### Formats and operands (R179, R180, R182) -/

/-- The binary format of a format code; none for INT8 and for the KV formats. -/
def fmtOf : Nat → Option Fmt
  | 1 => some .fp4
  | 2 => some .fp6e2m3
  | 3 => some .fp6e3m2
  | 4 => some .e4m3
  | 5 => some .e5m2
  | 7 => some .bf16
  | 8 => some .fp16
  | 9 => some .fp32
  | _ => none

/-- Formats 0x1 to 0x6 are used as MX formats. -/
def isMx (f : Nat) : Bool := decide (1 ≤ f ∧ f ≤ 6)

/-- Bits of an element. -/
def fmtWidth (f : Nat) : Nat :=
  match fmtOf f with
  | some x => x.width
  | none => 8

/-- emax of an MX output format (R182). -/
def mxEmax : Nat → Int
  | 1 => 2
  | 2 => 2
  | 3 => 4
  | 4 => 8
  | 5 => 15
  | _ => 0

/-- The value of an element's code. -/
def elemNum (f code : Nat) : Num :=
  match fmtOf f with
  | some x => x.decode code
  | none =>
    let v := toSigned 8 code
    .fin (decide (v < 0)) v.natAbs (-6)

/-- A value with the block's scale (R180): 0xFF is NaN. -/
def mxScaled (x : Num) (scale : Nat) : Num := if scale = 255 then .nan else x.scale ((scale : Int) - 127)

/-- The code of a value in a format (R182) with what was met: a saturation, a NaN. -/
def elemCode (f : Nat) (x : Num) : Nat × Bool × Bool :=
  match fmtOf f with
  | some y => y.encode x
  | none =>
    match x with
    | .nan => (0, false, true)
    | .inf n => (if n then 256 - 127 else 127, true, false)
    | .fin n m e =>
      let v := if -6 ≤ e then m * 2 ^ (e + 6).toNat else rneShift m (-6 - e).toNat
      let c := min 127 v
      (if n && c != 0 then 256 - c else c, (Num.fin false 127 (-6)).lt (.fin false m e), false)

/-- floor(log2) of a value's magnitude; none for zero and NaN, above every finite exponent for an infinity. -/
def magExp : Num → Option Int
  | .nan => none
  | .inf _ => some 1000
  | .fin _ m e => if m = 0 then none else some (e + (Nat.log2 m : Int))

/-- A row's elements converted: each one's code with whether it saturated and whether it was a NaN, and the scale bytes of its blocks. -/
structure Conv where
  codes : List (Nat × Bool × Bool)
  scales : List Byte
  deriving DecidableEq, Repr

/-- Convert one MX block (R182). -/
def mxBlock (f : Nat) (l : List Num) : Conv :=
  let e : Int := match (l.filterMap magExp).max? with
    | some a => max (-127) (min 127 (a - mxEmax f))
    | none => -127
  let r := l.map fun x => elemCode f (x.scale (-e))
  let bad := (r.any fun y => y.2.2) && (match fmtOf f with | some y => y.nan.isNone | none => true)
  { codes := r, scales := [BitVec.ofNat 8 (if bad then 255 else (e + 127).toNat)] }

/-- Two conversions one after the other. -/
def Conv.append (a b : Conv) : Conv := { codes := a.codes ++ b.codes, scales := a.scales ++ b.scales }

/-- Convert n blocks of 32 elements. -/
def mxBlocks (f : Nat) : Nat → List Num → Conv
  | 0, _ => { codes := [], scales := [] }
  | n + 1, l => (mxBlock f (l.take 32)).append (mxBlocks f n (l.drop 32))

/-- Convert a row's elements from a block's start on. -/
def convRow (f : Nat) (l : List Num) : Conv :=
  if isMx f then mxBlocks f (ceilDiv l.length 32) l
  else { codes := l.map (elemCode f), scales := [] }

/-- An operand in memory: rows of so many elements, blocks along each row, the scale bytes after all elements (R180). -/
structure Operand where
  base : Nat
  fmt : Nat
  rows : Nat
  len : Nat
  deriving DecidableEq, Repr

/-- Where the scale bytes begin. -/
def Operand.scaleBase (o : Operand) : Nat := o.base + roundUp (ceilDiv (o.rows * o.len * fmtWidth o.fmt) 8) 256

/-- The bytes that n elements of row r from element i on meet: their address and number. -/
def Operand.span (o : Operand) (r i n : Nat) : Nat × Nat :=
  let b := (r * o.len + i) * fmtWidth o.fmt
  (o.base + b / 8, ceilDiv (b + n * fmtWidth o.fmt) 8 - b / 8)

/-- The scale bytes of those elements. -/
def Operand.scaleSpan (o : Operand) (r i n : Nat) : Nat × Nat :=
  if isMx o.fmt then (o.scaleBase + r * ceilDiv o.len 32 + i / 32, ceilDiv (i + n) 32 - i / 32) else (o.scaleBase, 0)

/-- Elements from the bytes that hold them. -/
def Operand.decode (o : Operand) (r i n : Nat) (b sc : List Byte) : List Num :=
  let w := fmtWidth o.fmt
  let v := leNat b / 2 ^ ((r * o.len + i) * w % 8)
  (List.range n).map fun k =>
    let x := elemNum o.fmt (v / 2 ^ (k * w) % 2 ^ w)
    if isMx o.fmt then mxScaled x (sc.getD ((i + k) / 32 - i / 32) 0#8).toNat else x

/-- The bytes that hold elements with their codes replaced. -/
def Operand.encode (o : Operand) (r i : Nat) (codes : List Nat) (old : List Byte) : List Byte :=
  let w := fmtWidth o.fmt
  let sh := (r * o.len + i) * w % 8
  leBytes old.length (codes.zipIdx.foldl (fun v e => setBits v (sh + e.2 * w + w - 1) (sh + e.2 * w) e.1) (leNat old))

/-! ### Reading and writing operands (R271, R266) -/

/-- What stops a piece of work at an access: its translation, or a poisoned sector. -/
inductive Stop where
  | xlat (acc : Access) (va : Nat) (x : Xlat)
  | poison (pa : Nat)
  deriving DecidableEq, Repr

/-- Read a range for an engine. -/
def State.fetchVa (s : State) (p va n : Nat) : State × Except Stop (List Byte) :=
  match s.xlateRange p .engine .read va n with
  | (s1, .error e) => (s1, .error (.xlat .read e.1 e.2))
  | (s1, .ok l) =>
    match l.find? fun q => s1.memory.poisoned q.1 q.2 with
    | some q => (s1, .error (.poison q.1))
    | none =>
      let r := s1.readParts (partFn p) l
      (r.1, .ok r.2)

/-- Write a range for a unit, by its column of R274; `f` gives the new bytes from the old ones. -/
def State.storeVa (s : State) (p : Nat) (ag : Agent) (va n : Nat) (f : List Byte → List Byte) : State × Option Stop :=
  match s.xlateRange p ag .write va n with
  | (s1, .error e) => (s1, some (.xlat .write e.1 e.2))
  | (s1, .ok l) =>
    let r := s1.readParts (partFn p) l
    (r.1.writeParts (partFn p) l (f r.2), none)

/-- Read elements of an operand. -/
def State.readElems (s : State) (p : Nat) (o : Operand) (r i n : Nat) : State × Except Stop (List Num) :=
  let a := o.span r i n
  match s.fetchVa p a.1 a.2 with
  | (s1, .error e) => (s1, .error e)
  | (s1, .ok b) =>
    let c := o.scaleSpan r i n
    match s1.fetchVa p c.1 c.2 with
    | (s2, .error e) => (s2, .error e)
    | (s2, .ok sc) => (s2, .ok (o.decode r i n b sc))

/-- Read the same elements of several rows, in order. -/
def State.readRows (s : State) (p : Nat) (o : Operand) (i n : Nat) : List Nat → State × Except Stop (List (List Num))
  | [] => (s, .ok [])
  | r :: t =>
    match s.readElems p o r i n with
    | (s1, .error e) => (s1, .error e)
    | (s1, .ok x) =>
      match s1.readRows p o i n t with
      | (s2, .error e) => (s2, .error e)
      | (s2, .ok l) => (s2, .ok (x :: l))

/-- Count conversions of a core (R182, R215), with the notes of NAN_NOTE (R212), which name the command's descriptor. -/
def State.countConv (s : State) (core desc sat nan : Nat) : State :=
  let s1 := (s.count (Reg.coreCntSat core) sat).count (Reg.coreCntNan core) nan
  if s1.flag (Reg.coreCtrl core) 2 then (List.range nan).foldl (fun (a : State) _ => a.note core 0x403 desc) s1 else s1

/-- Write codes of a row's elements from element i on, and the scale bytes of its blocks from one on. -/
def State.writeElems (s : State) (p : Nat) (ag : Agent) (o : Operand) (r i : Nat) (codes : List Nat) (blk : Nat) (scales : List Byte) : State × Option Stop :=
  let a := o.span r i codes.length
  match s.storeVa p ag a.1 a.2 (o.encode r i codes) with
  | (s1, some e) => (s1, some e)
  | (s1, none) => s1.storeVa p ag (o.scaleBase + r * ceilDiv o.len 32 + blk) scales.length fun _ => scales

/-- Convert and write a row's FP32 results: those of elements i to i + n − 1, where `l` begins at the block boundary at or below i. The conversions of
these elements count (R182). -/
def State.writeRow (s : State) (core desc p : Nat) (ag : Agent) (o : Operand) (r i n : Nat) (l : List (BitVec 32)) : State × Option Stop :=
  let v := convRow o.fmt (l.map f32)
  let skip := if isMx o.fmt then i % 32 else 0
  let mine := (v.codes.drop skip).take n
  match s.writeElems p ag o r i (mine.map fun y => y.1) (i / 32) v.scales with
  | (s1, some e) => (s1, some e)
  | (s1, none) => (s1.countConv core desc (mine.filter fun y => y.2.1).length (mine.filter fun y => y.2.2).length, none)

/-! ### Lengths tables, contexts and pages (R141, R144, R159, R164) -/

/-- An entry of a lengths table (R159). -/
structure LenEntry where
  ctx : Nat
  rsv : Nat
  q0 : Nat
  qn : Nat
  mask : Nat
  pos : Nat
  deriving DecidableEq, Repr

/-- An entry from its bytes. -/
def LenEntry.ofBytes (l : List Byte) : LenEntry :=
  { ctx := fieldAt l 0 4 % 2 ^ 23, rsv := fieldAt l 0 4 / 2 ^ 23, q0 := fieldAt l 4 4, qn := fieldAt l 8 2, mask := fieldAt l 0x0A 2, pos := fieldAt l 0x0C 4 }

/-- The entry is causal. -/
def LenEntry.causal (e : LenEntry) : Bool := e.mask == 0xFFFF

/-- Q_START ascends without overlap. -/
def lenAscending : List LenEntry → Bool
  | a :: b :: t => decide (a.q0 + a.qn ≤ b.q0) && lenAscending (b :: t)
  | _ => true

/-- The limits of R159. -/
def lenOk (l : List LenEntry) : Bool :=
  (l.all fun e => e.rsv == 0 && decide (1 ≤ e.qn ∧ e.qn ≤ 4096) && (e.causal || decide (e.qn ≤ 64))) && lenAscending l &&
    (l.map fun e => e.ctx).eraseDups.length == l.length && decide (l.length ≤ 16384 ∧ (l.map fun e => e.qn).sum ≤ 65536)

/-- A satchel or satellite as an engine walks it: its context, append window, and the planner's copies of its tree and drafts (R240). -/
structure Walk extends KvCtx where
  win : Nat × Nat
  tree : List Nat
  drafts : List Token
  deriving DecidableEq, Repr

/-- What an engine walks of a planned row: its window, tree and drafts; nothing where no row is planned. -/
def KvCtx.walk (x : KvCtx) (w : Option Planned) : Walk :=
  { toKvCtx := x, win := match w with | some p => (p.start, p.start + p.qrows) | none => (0, 0),
    tree := match w with | some p => p.tree | none => [], drafts := match w with | some p => p.drafts | none => [] }

/-- The context of an index (R159, log entry 5). A satellite's row is planned by its owner (R145, R233). -/
def State.walk (s : State) (ctx : Nat) : Option Walk :=
  if ctx < 2 ^ 22 then (s.satAt ctx).map fun x => x.toKvCtx.walk x.planned
  else (afind s.sat.satellites (ctx - 2 ^ 22)).map fun y =>
    y.toKvCtx.walk (((s.part y.part.val).rankRows.find? fun e => e.1 == y.id).map fun e => e.2)

/-- The position at which query row k of an entry is queried (R162, R165). -/
def LenEntry.queryPos (e : LenEntry) (tree : List Nat) (k : Nat) : Nat :=
  if e.causal then e.pos + k
  else match tree[k]? with
    | some w => e.pos + (popcount 64 w - 1)
    | none => e.pos + k

/-- First handle of row j where its frames lie in this device's arena. -/
def State.rowHere (s : State) (w : Walk) (j : Nat) : Option Nat :=
  match w.rows[j]? with
  | some r =>
    match r.kind with
    | .here | .inkwell => some r.loc
    | .lodged => if w.lodge = s.me then some r.loc else none
    | _ => none
  | none => none

/-- TAG of a page is what the walker walks for (R141): the satchel's ID; in an inkwell row a prefix's, as R154 gives it. -/
def Walk.tagOk (w : Walk) (j : Nat) (r : ScaleRec) : Bool :=
  r.tag == w.id || (r.inkwell && decide (r.tag.toNat / 2 ^ 32 = 0xFFFFFFFF) &&
    match w.rows[j]? with | some row => row.kind == .inkwell || row.kind == .lodged | none => false)

/-- The scale record of a frame of row j, where it names what the walker walks for (R141). -/
def State.pageRec (s : State) (w : Walk) (j frame : Nat) : Option ScaleRec :=
  match afind s.kva.scales frame with
  | some r => if w.tagOk j r then some r else none
  | none => none

/-- A walker fault (R141, R144, R150): level 1, for the satchel. -/
def State.walkFault (s : State) (ctx : Nat) (st : Status) : State :=
  (s.count Reg.kvaCntWalk 1).post { fault 0x3C2 0x302 1 0 with tag := .ctx ctx, status := st }

/-- An entry's satchel ends with a level 1 fault (R150, R159, R164, R211, R279, R244): its rows stop at once. On a satellite the context enters
the kill set. -/
def State.endEntry (s : State) (ctx : Nat) (f : FaultSpec) (st : Status) : State :=
  let s1 := s.post { f with tag := .ctx ctx, status := st }
  if ctx < 2 ^ 22 then (s1.killRows ctx).endWith ctx st
  else
    match afind s1.sat.satellites (ctx - 2 ^ 22) with
    | some y =>
      if 256 ≤ (s1.part y.part.val).kill.length then s1.count Reg.plnCntKillOvf 1
      else s1.modPart y.part.val fun q => { q with kill := ctx :: q.kill }
    | none => s1

/-! ### Commands and their pieces of work (R190 to R193, R279 to R283) -/

/-- The key of a unit's queue. -/
def unitKey (core unit : Nat) : Nat := core * 16 + unit

/-- A command in a unit's queue. -/
def State.cmdAt (s : State) (core unit seq : Nat) : Option CoreCmd :=
  (agetD s.cores.queues (unitKey core unit) []).find? fun c => c.seq == seq

/-- Put a command back into its place. -/
def State.putCmd (s : State) (core unit : Nat) (c : CoreCmd) : State :=
  { s with cores := { s.cores with
      queues := amod s.cores.queues (unitKey core unit) fun l => l.map fun x => if x.seq = c.seq then c else x } }

/-- A partition's threads and commands act: it is READY, drains, is restored, or its composition is in place (R192, R222, R230, R250). -/
def State.partRuns (s : State) (p : Nat) : Bool :=
  match (s.part p).state with
  | .ready | .draining | .composing => true
  | .resuming => (s.part p).readyAt
  | _ => false

/-- Opcode and flags of a descriptor (R186). -/
def CoreCmd.opcode (c : CoreCmd) : Nat := fieldAt c.desc 0 1
def CoreCmd.flag (c : CoreCmd) (i : Nat) : Bool := bitAt (fieldAt c.desc 1 1) i

/-- A command may run now (R190): commands of its thread on the unit start in push order but may overlap, and one with FENCE_BEFORE starts after the
earlier ones have completed. -/
def State.cmdMay (s : State) (core unit : Nat) (c : CoreCmd) : Bool :=
  let before := ((agetD s.cores.queues (unitKey core unit) []).takeWhile fun x => x.seq != c.seq).filter fun x => x.thread == c.thread
  s.partRuns c.part.val && c.result.isNone && (before.all fun x => x.started) && (!c.flag 0 || before.isEmpty)

/-- A piece of a command's work: a tile, row or head block, and the lengths-table entry that it serves. -/
structure Item where
  tile : Nat
  entry : Option Nat
  deriving DecidableEq, Repr

/-- How a piece ends: done; stopped at an access; its entry waits for a row to return; its entry's keys and values cannot be read, and its token is a
miss; its entry ends. -/
inductive ItemEnd where
  | ok
  | stop (x : Stop)
  | wait
  | corrupt
  | quit (f : FaultSpec) (st : Status)
  deriving DecidableEq, Repr

/-- The number of a piece among those done. -/
def Item.code (i : Item) : Nat := i.tile * 16385 + (match i.entry with | some e => e + 1 | none => 0)

/-- A fault that a command is parked on holds a piece back. -/
def Item.heldBy (i : Item) : Unit279 → Bool
  | .entry _ _ _ e => i.entry == some e
  | .tile _ _ _ t => i.tile == t
  | _ => false

/-- The piece is done, discarded, or waits. -/
def CoreCmd.skips (c : CoreCmd) (faults : Assoc OpenFault) (i : Item) : Bool :=
  c.served.contains i.code || c.served.contains (i.tile * 16385) ||
    (match i.entry with | some e => c.gone.contains e || c.waiting.contains e | none => false) ||
    c.parked.any fun k => match afind faults k with | some f => i.heldBy f.unit | none => false

/-- Units that a core has parked (R283). -/
def State.coreParked (s : State) (core : Nat) : Nat :=
  (s.memory.faults.filter fun e => match e.2.unit with
    | .entry c _ _ _ => c == core
    | .tile c _ _ _ => c == core
    | .thread c _ => c == core
    | _ => false).length

/-- A command while it runs. -/
structure Run where
  s : State
  c : CoreCmd
  stalled : Bool
  failed : Option Status

/-- The context of an entry. -/
def ctxAt (l : List LenEntry) (e : Nat) : Nat := match l[e]? with | some x => x.ctx | none => 0

/-- The token of an entry's satchel is a miss in this stroke (R266). -/
def State.missEntry (s : State) (ctx : Nat) : State :=
  match s.walk ctx with
  | some w => s.modPart w.part.val fun q => { q with missed := if q.missed.contains ctx then q.missed else ctx :: q.missed }
  | none => s

/-- A piece meets a poisoned sector (R266, R280): the record informs; an entry's token is a miss; a dense command ends with INTERNAL. -/
def Run.poisoned (r : Run) (core : Nat) (l : List LenEntry) (i : Item) (pa : Nat) : Run :=
  let s1 := (r.s.openFault { kind := .poison, access := .read, source := BitVec.ofNat 12 core, part := r.c.part, stage := 2, va := 0, ipa := pa,
                             satchel := 0, posted := r.s.stk.time, unit := .tile core 0 r.c.seq i.tile, recorded := none }).1
  match i.entry with
  | some e => { r with s := s1.missEntry (ctxAt l e), c := { r.c with gone := e :: r.c.gone } }
  | none => { r with s := s1.post { fault core 0xF01 1 pa with status := .internal }, failed := some .internal }

/-- A piece's translation failed (R279, R280, R283): parked, aborted at once, or the core's table is full and it stalls. -/
def Run.faulted (r : Run) (core unit : Nat) (l : List LenEntry) (i : Item) (acc : Access) (va : Nat) (k : FaultKind) (stage ipa : Nat) : Run :=
  if k.parks ∧ 256 ≤ r.s.coreParked core then { r with stalled := true }
  else
    let id : SatchelId := match i.entry with
      | some e => (match r.s.walk (ctxAt l e) with | some w => w.id | none => 0)
      | none => 0
    let u : Unit279 := match i.entry with | some e => .entry core unit r.c.seq e | none => .tile core unit r.c.seq i.tile
    let o := r.s.openFault { kind := k, access := acc, source := BitVec.ofNat 12 core, part := r.c.part, stage := stage, va := va, ipa := ipa,
                             satchel := id, posted := r.s.stk.time, unit := u, recorded := none }
    match o.2, i.entry with
    | some f, _ => { r with s := o.1, c := { r.c with parked := f :: r.c.parked } }
    | none, some e => { r with s := o.1.endEntry (ctxAt l e) (fault core 0x402 1 r.c.addr) .protection, c := { r.c with gone := e :: r.c.gone } }
    | none, none => { r with s := o.1, c := { r.c with aborted := true, served := i.code :: r.c.served } }

/-- How a piece's end goes into the command. Unreadable keys and values follow the lower-tier policy (R266, R285). -/
def Run.after (r : Run) (core unit : Nat) (l : List LenEntry) (i : Item) : ItemEnd → Run
  | .ok => { r with c := { r.c with served := i.code :: r.c.served } }
  | .wait => match i.entry with | some e => { r with c := { r.c with waiting := e :: r.c.waiting } } | none => r
  | .corrupt => match i.entry with
    | some e => { r with s := (r.s.missEntry (ctxAt l e)).lowerCtx (ctxAt l e), c := { r.c with gone := e :: r.c.gone } }
    | none => r
  | .quit f st =>
    match i.entry with
    | some e =>
      let g := if f.kind = 0x402#12 then { f with source := BitVec.ofNat 12 core, addr := BitVec.ofNat 56 r.c.addr } else f
      { r with s := r.s.endEntry (ctxAt l e) g st, c := { r.c with gone := e :: r.c.gone } }
    | none => r
  | .stop (.poison pa) => r.poisoned core l i pa
  | .stop (.xlat acc va x) =>
    match x with
    | .bad k stage ipa => r.faulted core unit l i acc va k stage ipa
    | .deny beyond => { r with s := r.s.denied core va beyond, failed := some .protection }
    | .pa _ => r

/-- Do the pieces of a command in order, as far as they go. -/
def Run.go (core unit : Nat) (l : List LenEntry) (work : State → Item → State × ItemEnd) : List Item → Run → Run
  | [], r => r
  | i :: t, r =>
    if r.stalled || r.failed.isSome then r
    else if r.c.skips r.s.memory.faults i then Run.go core unit l work t r
    else
      let x := work r.s i
      Run.go core unit l work t (Run.after { r with s := x.1 } core unit l i x.2)

/-- The command's status once nothing of it is left (R193, R279). -/
def Run.settled (r : Run) (items : List Item) : Option Status :=
  match r.failed with
  | some st => some st
  | none =>
    if r.stalled || !r.c.parked.isEmpty || !r.c.waiting.isEmpty then none
    else if items.all fun i => r.c.skips r.s.memory.faults i then some (if r.c.aborted then .protection else .ok) else none

/-- The piece that stands for reading a command's lengths table. -/
def tableItem : Item := { tile := 2 ^ 32, entry := none }

/-- Kill the rows that the partition's kill set names (R190, R244): each tile that left one out is counted. -/
def Run.kills (r : Run) (core : Nat) (l : List LenEntry) (tiles : List Nat → Nat) : Run :=
  let kill := (r.s.part r.c.part.val).kill
  let k := (List.range l.length).filter fun e => kill.contains (ctxAt l e) && !r.c.gone.contains e
  if k.isEmpty then r else { r with s := r.s.count (Reg.coreCntKill core) (tiles k), c := { r.c with gone := k ++ r.c.gone } }

/-- Run a command over its pieces of work and keep what became of it. -/
def State.runItems (s : State) (core unit : Nat) (c : CoreCmd) (l : List LenEntry) (tiles : List Nat → Nat) (items : List Item)
    (work : State → Item → State × ItemEnd) : State :=
  let r0 : Run := { s := s, c := c, stalled := false, failed := none }
  let r := Run.go core unit l work items (r0.kills core l tiles)
  r.s.putCmd core unit { r.c with result := r.settled items }

/-- A dense command that met poison and ended with INTERNAL leaves its output undefined (R13, R266): free values stand there. -/
def State.undefineOut (s : State) (core unit : Nat) (c : CoreCmd) (ag : Agent) (o : Operand) : State :=
  match s.cmdAt core unit c.seq with
  | some x =>
    if x.result = some .internal then
      let n := o.len + ceilDiv o.len 32
      (List.range o.rows).foldl (fun (a : State) r =>
        let v (i : Nat) : Nat := Config.freeValue (a.freeCtr + i)
        (({ a with freeCtr := a.freeCtr + n }).writeElems c.part.val ag o r 0 ((List.range o.len).map fun i => v i % 2 ^ fmtWidth o.fmt) 0
          (if isMx o.fmt then (List.range (ceilDiv o.len 32)).map fun i => BitVec.ofNat 8 (v (o.len + i)) else [])).1) s
    else s
  | none => s

/-- Read a command's lengths table (R159) and go on; a fault there parks the whole command. -/
def State.withTable (s : State) (core unit : Nat) (c : CoreCmd) (addr n : Nat) (f : State → List LenEntry → State) : State :=
  if c.served.contains tableItem.code then s.putCmd core unit { c with result := some .protection }
  else if c.skips s.memory.faults tableItem then s
  else
    match s.fetchVa c.part.val addr (16 * n) with
    | (s1, .ok b) => f s1 ((List.range n).map fun k => LenEntry.ofBytes (b.drop (16 * k)))
    | (s1, .error e) =>
      let r := Run.after { s := s1, c := c, stalled := false, failed := none } core unit [] tableItem (.stop e)
      r.s.putCmd core unit { r.c with result := r.failed }

/-- A command's row: find the command, of the opcode that the row serves, that may run; with a level 3 record it ends (R193). -/
def State.runCmd (s : State) (core unit seq opcode : Nat) (f : State → CoreCmd → State) : State :=
  match s.cmdAt core unit seq with
  | none => s
  | some c =>
    if c.opcode ≠ opcode ∨ s.cmdMay core unit c = false then s
    else if s.blt.l3 then s.putCmd core unit { c with started := true, result := some .deviceFault }
    else f s { c with started := true }

/-- A command that fails its checks writes nothing (R193). -/
def State.badCmd (s : State) (core unit : Nat) (c : CoreCmd) : State := s.putCmd core unit { c with result := some .badField }

end Sys2Proof.Machine
end

