-- ==== Sys2Proof/Machine/Arith.lean ====
section
/-!
DEFINITION. Machine/Arith.lean: the rows of chapter 06 with RING_QUERY_RECEIVE: the Xlorold instructions, and the commands of the tensor
engines, the sampler and the vector unit.
-/
namespace Sys2Proof.Machine

/-! ### Xlorold instructions (R198 to R203) -/

/-- The Xlorold instructions. -/
inductive Xop where
  | push | poll | wait | fence | cvSet | cvClr | cvWait | cvRead
  deriving DecidableEq, Repr

/-- Register fields of an R-type word. -/
def xRd (w : Word) : Nat := bits w.toNat 11 7
def xRs1 (w : Word) : Nat := bits w.toNat 19 15
def xRs2 (w : Word) : Nat := bits w.toNat 24 20

/-- The instruction of a word under custom-0 (R198); none for what is illegal. -/
def xDecode (w : Word) : Option Xop :=
  let n := w.toNat
  if bits n 6 0 ≠ 0x0B then none
  else
    match bits n 31 25, bits n 14 12 with
    | 0, 0 => some .push
    | 0, 1 => if xRs2 w = 0 then some .poll else none
    | 0, 2 => if xRs2 w = 0 then some .wait else none
    | 0, 3 => if xRs2 w = 0 ∧ xRs1 w = 0 ∧ xRd w = 0 then some .fence else none
    | 1, 0 => if xRs2 w = 0 ∧ xRd w = 0 then some .cvSet else none
    | 1, 1 => if xRd w = 0 then some .cvClr else none
    | 1, 2 => some .cvWait
    | 1, 3 => if xRs2 w = 0 then some .cvRead else none
    | _, _ => none

/-- The thread's state as it comes to an instruction: its pc and the values of rs1 and rs2. -/
def Thread.atInstr (t : Thread) (w : Word) (pc v1 v2 : BitVec 64) : Thread := { (t.setX (xRs1 w) v1).setX (xRs2 w) v2 with pc := pc }

/-- The instruction retires with a result. -/
def Thread.retire (t : Thread) (rd : Nat) (v : BitVec 64) : Thread := { t.setX rd v with state := .running, pc := t.pc + 4 }

/-- What stops a thread's access (R196, R271, R279, R283): it waits for a fault that can be served, and stalls at the instruction where the core's table is
full; the rest traps with the cause given. -/
def State.threadStop (s : State) (k p cause addr : Nat) : Stop → State
  | .poison _ => s.trap (k / 64) (k % 64) cause (s.thread k).pc (BitVec.ofNat 64 addr)
  | .xlat acc va x =>
    match x with
    | .bad kd stage ipa =>
      if kd.parks ∧ 256 ≤ s.coreParked (k / 64) then s
      else
      let o := s.openFault { kind := kd, access := acc, source := BitVec.ofNat 12 (k / 64), part := ⟨p % 16, Nat.mod_lt _ (by decide)⟩,
                             stage := stage, va := va, ipa := ipa, satchel := 0, posted := s.stk.time, unit := .thread (k / 64) (k % 64),
                             recorded := none }
      (match o.2 with
      | some _ => o.1.modThread k fun t => { t with state := .waitAccess }
      | none => o.1.trap (k / 64) (k % 64) cause (s.thread k).pc (BitVec.ofNat 64 va))
    | .deny beyond => (s.denied (k / 64) va beyond).trap (k / 64) (k % 64) cause (s.thread k).pc (BitVec.ofNat 64 va)
    | .pa _ => s

/-- A thread's own load or store (R194, R196, R197): an address above 56 bits, or a range that crosses a 4 KiB boundary, is an access fault; the rest
is translated. The harness window's accesses are rows of their own (R405). -/
def State.threadAccess (s : State) (k p cause va n : Nat) (acc : Access) (f : State → List (Nat × Nat) → State) : State :=
  if 2 ^ 56 ≤ va ∨ va / 4096 ≠ (va + n - 1) / 4096 then s.trap (k / 64) (k % 64) cause (s.thread k).pc (BitVec.ofNat 64 va)
  else
    match s.xlateRange p .thread acc va n with
    | (s1, .error e) => s1.threadStop k p cause va (.xlat acc e.1 e.2)
    | (s1, .ok l) =>
      if l.any fun q => match s1.memory.target q.1 with | .window _ _ => true | _ => false then s1
      else if acc = .read ∧ s1.partsPoisoned l = true then s1.threadStop k p cause va (.poison 0)
      else f s1 l

/-- An instruction of the base set that chapter 06 gives an effect on this device (R194, R196, R197), by RISC-V's encodings: integer loads and stores,
ECALL, EBREAK, and reads of lthread, time and cycle. The rest of RV64GC has an effect on its thread alone, and no row (log entry 83). -/
def State.baseInstr (s : State) (k p : Nat) (w : Word) : State :=
  let n := w.toNat
  let t := s.thread k
  let f3 := bits n 14 12
  let off (v : Nat) : BitVec 64 := t.getX (xRs1 w) + (BitVec.ofNat 12 v).signExtend 64
  let stop (cause : Nat) (tval : BitVec 64) : State := s.trap (k / 64) (k % 64) cause t.pc tval
  match bits n 6 0 with
  | 0x03 =>
    if f3 = 7 then stop 2 (BitVec.ofNat 64 n)
    else s.threadAccess k p causeLoad (off (bits n 31 20)).toNat (2 ^ (f3 % 4)) .read fun x l =>
      let r := x.readParts (partFn p) l
      r.1.modThread k fun y => y.retire (xRd w) (loadValue r.2 (2 ^ (f3 % 4)) (decide (f3 < 4)))
  | 0x23 =>
    if 4 ≤ f3 then stop 2 (BitVec.ofNat 64 n)
    else s.threadAccess k p causeStore (off (bits n 31 25 * 32 + xRd w)).toNat (2 ^ f3) .write fun x l =>
      (x.writeParts (partFn p) l (leBytes (2 ^ f3) (t.getX (xRs2 w)).toNat)).modThread k fun y => y.retire 0 0
  | 0x73 =>
    if n = 0x73 then stop 8 0
    else if n = 0x100073 then stop 3 t.pc
    else if f3 = 2 ∧ xRs1 w = 0 then
      match bits n 31 20 with
      | 0xCC0 => s.modThread k fun y => y.retire (xRd w) (BitVec.ofNat 64 (lthread p (k / 64) (k % 64)))
      | 0xC01 => s.modThread k fun y => y.retire (xRd w) (BitVec.ofNat 64 s.stk.time)
      | 0xC00 => s.free.2.modThread k fun y => y.retire (xRd w) (BitVec.ofNat 64 s.free.1)
      | _ => s
    else s
  | _ => s

/-- A thread comes to an instruction (R195, R196, R198): a reserved encoding under custom-0 is an illegal instruction; the row acts where the word is
its own and the thread runs. -/
def State.xinstr (s : State) (core : Fin 128) (thr : Fin 64) (w : Word) (pc v1 v2 : BitVec 64) (op : Xop) (f : State → Nat → Nat → State) : State :=
  let k := threadKey core.val thr.val
  match s.coreOwner core.val with
  | none => s
  | some p =>
    if (s.thread k).state ≠ .running ∨ s.partRuns p = false then s
    else
      let s1 := s.modThread k fun t => t.atInstr w pc v1 v2
      match xDecode w with
      | none => if bits w.toNat 6 0 = 0x0B then s1.trap core.val thr.val 2 pc (BitVec.ofNat 64 w.toNat) else s1.baseInstr k p w
      | some o => if o = op then f s1 k p else s

/-! ### TQ.PUSH (R186, R187, R191, R199, R226) -/

/-- What a push's failure puts into rd. -/
def pushFailure (st : Status) : BitVec 64 := BitVec.ofNat 64 (2 ^ 63 + st.code)

/-- The ticket of a unit's command (R199). -/
def ticketOf (core unit seq : Nat) : Nat := unitKey core unit * 2 ^ 32 + seq

/-- The tensor engine of a core with the shortest queue. -/
def State.shortest (s : State) (core : Nat) : Nat :=
  let len (u : Nat) : Nat := (agetD s.cores.queues (unitKey core u) []).length
  (List.range 8).foldl (fun b u => if len u < len b then u else b) 0

/-- The unit that rs2 names; none is BAD_FIELD. -/
def State.unitOf (s : State) (core : Nat) (v : Nat) : Option (Nat × Nat) :=
  if 2 ^ 12 ≤ v then none
  else if bitAt v 11 then (if v % 2 ^ 11 = 0 then some (core, s.shortest core) else none)
  else if 10 ≤ v % 16 then none
  else some (bits v 10 4, v % 16)

/-- The opcode runs on the unit (R187). -/
def opcodeFits (op unit : Nat) : Bool :=
  match op with
  | 1 => decide (unit < 8)
  | 2 => decide (unit < 8)
  | 3 => unit == 9
  | 4 => unit == 8
  | _ => false

/-- A partition's weight on a slice (R226). -/
def State.weight (s : State) (p slice : Nat) : Nat := s.fld (Reg.plnShare slice (p / 4)) (8 * (p % 4) + 7) (8 * (p % 4))

/-- Why a push fails (R199). -/
def State.pushRefusal (s : State) (p core unit : Nat) (d : List Byte) : Option Status :=
  let op := fieldAt d 0 1
  let fl := fieldAt d 1 1
  if opcodeFits op unit = false then some .badOpcode
  else if 16 ≤ fl ∨ 2 ^ 14 ≤ fieldAt d 2 2 ∨ fieldAt d 8 8 ≠ 0 ∨ (op ≠ 1 ∧ 4 ≤ fl) then some .badField
  else if s.weight p (core / 8) = 0 then some .protection
  else if (s.part p).state = .draining then some .partitionBusy
  else none

/-- The queue takes a command and the thread its ticket. -/
def State.queueCmd (s : State) (k p core unit addr : Nat) (d : List Byte) : State × Nat :=
  let u := unitKey core unit
  let seq := agetD s.cores.seqs u 0
  let c : CoreCmd := { seq := seq, thread := k, part := ⟨p % 16, Nat.mod_lt _ (by decide)⟩, addr := addr, desc := d, cursor := 0, served := [],
                       started := false, parked := [], gone := [], waiting := [], aborted := false, result := none }
  let s1 : State := { s with cores := { s.cores with
    queues := aput s.cores.queues u (agetD s.cores.queues u [] ++ [c]), seqs := aput s.cores.seqs u ((seq + 1) % 2 ^ 32) } }
  (s1.modThread k fun t => { t with tickets := ticketOf core unit seq :: t.tickets }, ticketOf core unit seq)

/-- A push that may be tried (R199): it fails, stalls, or is queued. A descriptor that cannot be read faults as a load does (R196, R279). -/
def State.push (s : State) (k p : Nat) (rd addr sel : Nat) : State :=
  let fail (a : State) (st : Status) : State := a.modThread k fun t => t.retire rd (pushFailure st)
  let core := k / 64
  match s.unitOf core sel with
  | none => fail s .badField
  | some (c, u) =>
    if addr % 64 ≠ 0 then fail s .badField
    else
      match s.fetchVa p addr 64 with
      | (s1, .error e) => s1.threadStop k p causeLoad addr e
      | (s1, .ok d) =>
        match s1.pushRefusal p c u d with
        | some st => fail s1 st
        | none =>
          if 256 ≤ (agetD s1.cores.queues (unitKey c u) []).length ∨ 32 ≤ (s1.thread k).tickets.length then
            s1.modThread k fun t => { t with state := .stalled rd addr sel }
          else
            let e := s1.queueCmd k p c u addr d
            e.1.modThread k fun t => t.retire rd (BitVec.ofNat 64 e.2)

/-- TQ.PUSH (R199). -/
def execTqPush (core : Fin 128) (thr : Fin 64) (w : Word) (pc v1 v2 : BitVec 64) (s : State) : Host.Outcome State Fault Refusal :=
  .next (s.xinstr core thr w pc v1 v2 .push fun x k p =>
    x.push k p (xRd w) ((x.thread k).getX (xRs1 w)).toNat ((x.thread k).getX (xRs2 w)).toNat)

/-- TQ_PUSH_RESUME (R199): a stalled push is tried again. -/
def execTqPushResume (core : Fin 128) (thr : Fin 64) (s : State) : Host.Outcome State Fault Refusal :=
  let k := threadKey core.val thr.val
  match s.coreOwner core.val, (s.thread k).state with
  | some p, .stalled rd addr sel => if s.partRuns p then .next (s.push k p rd addr sel) else .next s
  | _, _ => .next s

/-! ### Tickets (R200) -/

/-- What a thread knows of a ticket: none while it is outstanding. -/
def Thread.status (t : Thread) (ticket : Nat) : Option Status :=
  if t.tickets.contains ticket then none
  else match t.recent.find? fun q => q.1 == ticket with
    | some q => some q.2
    | none => some .badField

/-- TQ.POLL (R200). -/
def execTqPoll (core : Fin 128) (thr : Fin 64) (w : Word) (pc v1 v2 : BitVec 64) (s : State) : Host.Outcome State Fault Refusal :=
  .next (s.xinstr core thr w pc v1 v2 .poll fun x k _ => x.modThread k fun t =>
    match t.status (t.getX (xRs1 w)).toNat with
    | none => t.retire (xRd w) 0
    | some st => t.retire (xRd w) (BitVec.ofNat 64 (2 ^ 63 + st.code)))

/-- TQ.WAIT (R200). -/
def execTqWait (core : Fin 128) (thr : Fin 64) (w : Word) (pc v1 v2 : BitVec 64) (s : State) : Host.Outcome State Fault Refusal :=
  .next (s.xinstr core thr w pc v1 v2 .wait fun x k _ => x.modThread k fun t =>
    match t.status (t.getX (xRs1 w)).toNat with
    | none => { t with state := .waitTicket (xRd w) (t.getX (xRs1 w)).toNat }
    | some st => t.retire (xRd w) (BitVec.ofNat 64 st.code))

/-- TQ.FENCE (R200). -/
def execTqFence (core : Fin 128) (thr : Fin 64) (w : Word) (pc v1 v2 : BitVec 64) (s : State) : Host.Outcome State Fault Refusal :=
  .next (s.xinstr core thr w pc v1 v2 .fence fun x k _ => x.modThread k fun t =>
    if t.tickets.isEmpty then t.retire 0 0 else { t with state := .waitFence })

/-! ### Completion vectors (R201 to R203) -/

/-- CV.SET (R202): rs1 names the bit as CV_BIT does. -/
def execCvSet (core : Fin 128) (thr : Fin 64) (w : Word) (pc v1 v2 : BitVec 64) (s : State) : Host.Outcome State Fault Refusal :=
  .next (s.xinstr core thr w pc v1 v2 .cvSet fun x k p =>
    (x.modThread k fun t => t.retire 0 0).cvSet p (((x.thread k).getX (xRs1 w)).toNat % 2 ^ 14))

/-- CV.CLR (R202): the bits of a mask in a word. -/
def execCvClr (core : Fin 128) (thr : Fin 64) (w : Word) (pc v1 v2 : BitVec 64) (s : State) : Host.Outcome State Fault Refusal :=
  .next (s.xinstr core thr w pc v1 v2 .cvClr fun x k p =>
    let i := ((x.thread k).getX (xRs1 w)).toNat
    let m := ((x.thread k).getX (xRs2 w)).toNat
    (x.modThread k fun t => t.retire 0 0).modPart p fun q => { q with cv := q.cv.filter fun b => !(b / 64 == i && bitAt m (b % 64)) })

/-- CV.WAIT (R202). A word beyond 255 is none of the partition's: what it reads as is a free value. -/
def execCvWait (core : Fin 128) (thr : Fin 64) (w : Word) (pc v1 v2 : BitVec 64) (s : State) : Host.Outcome State Fault Refusal :=
  .next (s.xinstr core thr w pc v1 v2 .cvWait fun x k p =>
    let i := ((x.thread k).getX (xRs1 w)).toNat
    let m := ((x.thread k).getX (xRs2 w)).toNat
    let v := (x.part p).cvWord i
    if v &&& m ≠ m then x.modThread k fun t => { t with state := .waitCv (xRd w) i m }
    else if i < 256 then x.modThread k fun t => t.retire (xRd w) (BitVec.ofNat 64 v)
    else x.free.2.modThread k fun t => t.retire (xRd w) (BitVec.ofNat 64 x.free.1))

/-- CV.READ (R201). -/
def execCvRead (core : Fin 128) (thr : Fin 64) (w : Word) (pc v1 v2 : BitVec 64) (s : State) : Host.Outcome State Fault Refusal :=
  .next (s.xinstr core thr w pc v1 v2 .cvRead fun x k p =>
    let i := ((x.thread k).getX (xRs1 w)).toNat
    if i < 256 then x.modThread k fun t => t.retire (xRd w) (BitVec.ofNat 64 ((x.part p).cvWord i))
    else x.free.2.modThread k fun t => t.retire (xRd w) (BitVec.ofNat 64 x.free.1))

/-- THREAD_TRAP (R196). -/
def execThreadTrap (core : Fin 128) (thr : Fin 64) (cause : Fin 64) (pc tval : BitVec 64) (s : State) : Host.Outcome State Fault Refusal :=
  if (s.thread (threadKey core.val thr.val)).state = .stopped then .next s
  else .next (s.trap core.val thr.val cause.val pc tval)

/-! ### COMMAND_COMPLETE (R190, R193, R200 to R202) -/

/-- A thread learns of a completion: its ticket is no longer outstanding, and what it waited for may be over. -/
def Thread.completed (t : Thread) (ticket : Nat) (st : Status) : Thread :=
  let t1 := { t with tickets := t.tickets.filter (fun k => k != ticket), recent := ((ticket, st) :: t.recent).take 32 }
  match t1.state with
  | .waitTicket rd k => if k = ticket then t1.retire rd (BitVec.ofNat 64 st.code) else t1
  | .waitFence => if t1.tickets.isEmpty then t1.retire 0 0 else t1
  | _ => t1

/-- COMMAND_COMPLETE (R193): commands of one thread on a unit complete in push order. -/
def execCommandComplete (core : Fin 128) (dev : Fin 10) (seq : Nat) (s : State) : Host.Outcome State Fault Refusal :=
  match s.cmdAt core.val dev.val seq with
  | none => .next s
  | some c =>
    let u := unitKey core.val dev.val
    let l := agetD s.cores.queues u []
    let before := (l.takeWhile fun x => x.seq != seq).filter fun x => x.thread == c.thread
    match c.result with
    | none => .next s
    | some st =>
      if !before.isEmpty ∨ s.partRuns c.part.val = false then .next s
      else
        let s1 : State := { s with cores := { s.cores with queues := aput s.cores.queues u (l.filter fun x => x.seq != seq) } }
        let s2 := (s1.count (Reg.coreCntCmd core.val) 1).modThread c.thread fun t => t.completed (ticketOf core.val dev.val seq) st
        .next (if c.flag 1 then s2.cvSet c.part.val (fieldAt c.desc 2 2 % 2 ^ 14) else s2)

/-! ### MATMUL (R180, R183, R188 to R190) -/

/-- The fields of a MATMUL descriptor (R188). -/
structure MatDesc where
  at_ : Nat
  a : Nat
  b : Nat
  c : Nat
  len : Nat
  m : Nat
  n : Nat
  k : Nat
  fa : Nat
  fb : Nat
  fc : Nat
  layer : Nat
  head : Nat
  entries : Nat
  append : Bool
  rope : Bool
  rsv : Nat
  deriving DecidableEq, Repr

/-- A MATMUL descriptor from its bytes. -/
def MatDesc.ofCmd (c : CoreCmd) : MatDesc :=
  let d := c.desc
  let dims := fieldAt d 0x30 8
  let fm := fieldAt d 0x38 2
  { at_ := c.addr, a := fieldAt d 0x10 8, b := fieldAt d 0x18 8, c := fieldAt d 0x20 8, len := fieldAt d 0x28 8,
    m := bits dims 63 48 + 1, n := bits dims 47 30 + 1, k := bits dims 29 12 + 1,
    fa := bits fm 15 12, fb := bits fm 11 8, fc := bits fm 7 4, layer := fieldAt d 0x3A 2, head := fieldAt d 0x3C 2, entries := fieldAt d 0x3E 2,
    append := c.flag 2, rope := c.flag 3, rsv := bits dims 11 0 + fm % 16 }

/-- Local heads of a model (R189): H = Gn × G. -/
def Part.localHeads (q : Part) (im : ModelImage) : Nat := q.groups * 2 ^ im.kv.log2G

/-- The checks of R179, R180, R188 and R189 that need no lengths table. -/
def MatDesc.ok (d : MatDesc) (q : Part) : Bool :=
  d.rsv == 0 && decide (1 ≤ d.fa ∧ d.fa ≤ 8) && decide (1 ≤ d.fb ∧ d.fb ≤ 8) && (!(isMx d.fa || isMx d.fb) || d.k % 32 == 0) &&
    (if d.len = 0 then d.entries == 0 else decide (1 ≤ d.entries ∧ d.entries ≤ 16384)) &&
    (if d.append then
      match q.image with
      | some im =>
        d.n % im.kv.headDim == 0 && decide (d.head + d.n / im.kv.headDim ≤ 2 * q.localHeads im) && d.fc == im.kv.format + 9 &&
          d.len != 0 && d.c == 0 && decide (d.layer < im.kv.layers)
      | none => false
    else decide (1 ≤ d.fc ∧ d.fc ≤ 9) && d.layer == 0 && d.head == 0)

/-- Columns of the stationary block, which are a tile's (R185's width classes). -/
def MatDesc.cols (d : MatDesc) : Nat :=
  let w := max (fmtWidth d.fa) (fmtWidth d.fb)
  if w ≤ 4 then 64 else if w ≤ 8 then 32 else 16

/-- Operands A, B (column by column) and C. -/
def MatDesc.opA (d : MatDesc) : Operand := { base := d.a, fmt := d.fa, rows := d.m, len := d.k }
def MatDesc.opB (d : MatDesc) : Operand := { base := d.b, fmt := d.fb, rows := d.n, len := d.k }
def MatDesc.opC (d : MatDesc) : Operand := { base := d.c, fmt := d.fc, rows := d.m, len := d.n }

/-- Write the rows of a tile. -/
def State.writeTile (s : State) (core desc p : Nat) (o : Operand) (c0 n : Nat) : List (Nat × List (BitVec 32)) → State × ItemEnd
  | [] => (s, .ok)
  | (r, l) :: t =>
    match s.writeRow core desc p .engine o r c0 n l with
    | (s1, some e) => (s1, .stop e)
    | (s1, none) => s1.writeTile core desc p o c0 n t

/-- Compute columns c0 to c0 + n − 1 of some rows: an MX output's blocks are computed whole, so that a block's scale is that of all its
elements (R182). -/
def State.matRows (s : State) (core p : Nat) (d : MatDesc) (c0 n : Nat) (rows : List Nat) : State × ItemEnd :=
  let lo := if isMx d.fc then c0 - c0 % 32 else c0
  let hi := if isMx d.fc then min d.n (roundUp (c0 + n) 32) else c0 + n
  match s.readRows p d.opA 0 d.k rows with
  | (s1, .error e) => (s1, .stop e)
  | (s1, .ok a) =>
    match s1.readRows p d.opB 0 d.k ((List.range (hi - lo)).map fun j => lo + j) with
    | (s2, .error e) => (s2, .stop e)
    | (s2, .ok b) => s2.writeTile core d.at_ p d.opC c0 n (rows.zip (a.map fun x => b.map fun y => dotF32 x y))

/-- Row blocks of 64 rows. -/
def MatDesc.rowBlocks (_ : MatDesc) (rows : Nat) : Nat := ceilDiv rows 64

/-- One output tile, or an entry's rows of it: tiles run in row-block order within column-block order (R191). -/
def State.matTile (s : State) (core p : Nat) (d : MatDesc) (l : List LenEntry) (nrb : Nat) (i : Item) : State × ItemEnd :=
  let c0 := i.tile / nrb * d.cols
  let r0 := i.tile % nrb * 64
  let rows := (List.range 64).map fun k => r0 + k
  let mine := match i.entry with
    | none => rows.filter fun r => decide (r < d.m)
    | some e => match l[e]? with
      | some x => rows.filter fun r => decide (x.q0 ≤ r ∧ r < x.q0 + x.qn)
      | none => []
  s.matRows core p d c0 (min d.cols (d.n - c0)) mine

/-- An entry names a context of another partition, or none (R159): it ends with PROTECTION. -/
def State.foreign (s : State) (p ctx : Nat) : Bool := match s.walk ctx with | some w => w.part.val != p | none => true

/-- The end of an entry that R159 turns away. -/
def foreignEnd (core : Nat) : ItemEnd := .quit (fault core 0x402 1 0) .protection

/-- The piece of work that R150 ends: a write outside the window. -/
def outsideEnd : ItemEnd := .quit (fault 0x3C2 0x302 1 0) .protection

/-! ### Appending (R139 to R142, R149, R150, R181, R189) -/

/-- The write of one head and half of a page by a command (R150), its conversions counted (R182). -/
def State.writePage (s : State) (core desc : Nat) (im : ModelImage) (frame layer headIn half : Nat) (l : List (Nat × List Num)) : State :=
  let w := s.writeHead im frame layer headIn half l
  w.1.countConv core desc w.2.1 w.2.2

/-- Rotate a row's element pairs by a position (R189). -/
def State.rotate (s : State) (q : Part) (im : ModelImage) (pos : Nat) (l : List (BitVec 32)) : List (BitVec 32) :=
  ((List.range (l.length / 2)).map fun i =>
    let f := BitVec.ofNat 32 (leNat (memRead s.memory.mem (q.weightPa (im.ropeOff + 4 * i)) 4))
    let r := rotate32 (l.getD (2 * i) 0) (l.getD (2 * i + 1) 0) pos f
    [r.1, r.2]).flatten

/-- Write an entry's rows of one head block into its pages, row of the page table by row. A row that another device holds is written there: at the
lodging device, or by the ring partner (R147, R149, R150). -/
def State.appendRows (s : State) (core desc p : Nat) (im : ModelImage) (w : Walk) (ctx layer block : Nat) (vals : List (Nat × List Num)) : List Nat → State
  | [] => s
  | j :: t =>
    let q := s.part p
    let h := q.localHeads im
    let head := block % h
    let mine := (vals.filter fun e => e.1 / q.positions == j).map fun e => (e.1 % q.positions, e.2)
    let s1 := match s.rowHere w j, s.rowAway w.toKvCtx j with
      | some first, _ =>
        let f := q.headFrame im first layer head
        (match s.pageRec w j f.1 with
        | some _ => s.writePage core desc im f.1 layer f.2 (block / h) mine
        | none => s.walkFault ctx .ok)
      | none, some (d, row) => mine.foldl (fun (a : State) (e : Nat × List Num) =>
          a.tellHolder w.toKvCtx d (.append row layer head (block / h) e.1 (e.2.map toF32))) s
      | none, none => s
    s1.appendRows core desc p im w ctx layer block vals t

/-- One head block of an entry (R150, R189). -/
def State.appendItem (s : State) (core p : Nat) (d : MatDesc) (im : ModelImage) (l : List LenEntry) (i : Item) : State × ItemEnd :=
  match i.entry with
  | none => (s, .ok)
  | some k =>
    match l[k]? with
    | none => (s, .ok)
    | some e =>
      if s.foreign p e.ctx then (s, foreignEnd core)
      else
        match s.walk e.ctx with
        | none => (s, .ok)
        | some w =>
          if e.pos < w.win.1 ∨ w.win.2 < e.pos + e.qn then (s.count Reg.kvaCntWalk 1, outsideEnd)
          else
            let hd := im.kv.headDim
            let block := d.head + i.tile
            match s.readRows p d.opA 0 d.k ((List.range e.qn).map fun r => e.q0 + r) with
            | (s1, .error x) => (s1, .stop x)
            | (s1, .ok a) =>
              match s1.readRows p d.opB 0 d.k ((List.range hd).map fun c => i.tile * hd + c) with
              | (s2, .error x) => (s2, .stop x)
              | (s2, .ok b) =>
                let q := s2.part p
                let turn := d.rope && decide (block < q.localHeads im)
                let vals := a.zipIdx.map fun r =>
                  let v := b.map fun y => dotF32 r.1 y
                  let u := if turn then s2.rotate q im (e.queryPos w.tree r.2) v else v
                  (e.pos + r.2, u.map f32)
                (s2.appendRows core d.at_ p im w e.ctx d.layer block vals (windowRows q.positions e.pos e.qn), .ok)

/-- Tiles of a ragged MATMUL that rows of some entries meet. -/
def MatDesc.tilesOf (d : MatDesc) (l : List LenEntry) (ks : List Nat) : Nat :=
  let rb := (ks.map fun k => match l[k]? with
    | some e => (List.range ((e.q0 + e.qn - 1) / 64 + 1 - e.q0 / 64)).map fun j => e.q0 / 64 + j
    | none => []).flatten.eraseDups
  rb.length * ceilDiv d.n d.cols

/-- The pieces of a ragged MATMUL: for each tile the entries with rows in it; for an append each head block of each entry. -/
def MatDesc.items (d : MatDesc) (headDim nrb : Nat) (l : List LenEntry) : List Item :=
  if d.append then
    ((List.range (d.n / max 1 headDim)).map fun b => (List.range l.length).map fun k => ({ tile := b, entry := some k } : Item)).flatten
  else
    ((List.range (nrb * ceilDiv d.n d.cols)).map fun t => ((List.range l.length).filter fun k =>
      match l[k]? with
      | some e => decide (e.q0 < t % nrb * 64 + 64 ∧ t % nrb * 64 < e.q0 + e.qn)
      | none => false).map fun k => ({ tile := t, entry := some k } : Item)).flatten

/-- MATMUL (R188). -/
def execMatmul (core : Fin 128) (eng : Fin 8) (seq : Nat) (s : State) : Host.Outcome State Fault Refusal :=
  .next (s.runCmd core.val eng.val seq 1 fun x c =>
    let p := c.part.val
    let q := x.part p
    let d := MatDesc.ofCmd c
    if d.ok q = false then x.badCmd core.val eng.val c
    else if d.len = 0 then
      let nrb := d.rowBlocks d.m
      (x.runItems core.val eng.val c [] (fun _ => 0) ((List.range (nrb * ceilDiv d.n d.cols)).map fun t => ({ tile := t, entry := none } : Item))
        fun a i => a.matTile core.val p d [] nrb i).undefineOut core.val eng.val c .engine d.opC
    else
      x.withTable core.val eng.val c d.len d.entries fun y l =>
        if lenOk l = false ∨ (l.map fun e => e.qn).sum ≠ d.m then y.badCmd core.val eng.val c
        else
          let nrb := d.rowBlocks (l.foldl (fun a e => max a (e.q0 + e.qn)) 0)
          match q.image, d.append with
          | some im, true => y.runItems core.val eng.val c l (d.tilesOf l) (d.items im.kv.headDim nrb l) fun a i => a.appendItem core.val p d im l i
          | _, _ => y.runItems core.val eng.val c l (d.tilesOf l) (d.items 1 nrb l) fun a i =>
              if (match i.entry with | some k => a.foreign p (ctxAt l k) | none => false) = true then (a, foreignEnd core.val)
              else a.matTile core.val p d l nrb i)

/-! ### ATTEND (R148, R157, R160 to R165) -/

/-- The fields of an ATTEND descriptor (R161). -/
structure AttDesc where
  q : Nat
  o : Nat
  len : Nat
  mask : Nat
  entries : Nat
  layer : Nat
  first : Nat
  groups : Nat
  scale : BitVec 16
  windowed : Bool
  partials : Bool
  perKv : Nat
  window : Nat
  rsv : Nat
  deriving DecidableEq, Repr

/-- An ATTEND descriptor from its bytes. -/
def AttDesc.ofCmd (c : CoreCmd) : AttDesc :=
  let d := c.desc
  let fl := fieldAt d 0x3A 1
  { q := fieldAt d 0x10 8, o := fieldAt d 0x18 8, len := fieldAt d 0x20 8, mask := fieldAt d 0x28 8, entries := fieldAt d 0x30 4,
    layer := fieldAt d 0x34 2, first := fieldAt d 0x36 1 + 256 * bits fl 5 4, groups := fieldAt d 0x37 1 + 256 * bits fl 3 2 + 1,
    scale := BitVec.ofNat 16 (fieldAt d 0x38 2), windowed := bitAt fl 1, partials := bitAt fl 0, perKv := fieldAt d 0x3B 1,
    window := fieldAt d 0x3C 4, rsv := bits fl 7 6 }

/-- The checks of R161. -/
def AttDesc.ok (d : AttDesc) (q : Part) : Bool :=
  d.rsv == 0 && decide (1 ≤ d.entries ∧ d.entries ≤ 16384) && decide (1 ≤ d.perKv ∧ d.perKv ≤ 64) && (!d.windowed || d.window != 0) &&
    match q.image with
    | some im => decide (d.first + d.groups ≤ q.groups) && decide (d.layer < im.kv.layers)
    | none => false

/-- The stored positions that query row k sees (R162, R165). -/
def AttDesc.visible (d : AttDesc) (e : LenEntry) (words : List Nat) (k : Nat) : List Nat :=
  let t := e.queryPos words k
  let own := if e.causal then List.range (k + 1) else onesOf 64 (words.getD k 0)
  (List.range e.pos ++ own.map fun j => e.pos + j).filter fun p => !d.windowed || decide (t < p + d.window)

/-- Free numbers. -/
def freeNats (c n m : Nat) : List Nat := (List.range n).map fun i => Config.freeValue (c + i) % m

/-- What attention reads at a position of a head: codes and scales of keys and values. A row in another device's arena gives free values (log entry
8); a row that the walker does not read gives nothing. -/
def State.kvAt (s : State) (im : ModelImage) (q : Part) (w : Walk) (layer head pos : Nat) : State × Option (List Nat × BitVec 16 × List Nat × BitVec 16) :=
  let kv := im.kv
  let j := pos / q.positions
  match s.rowHere w j with
  | some first =>
    let f := q.headFrame im first layer head
    (match s.pageRec w j f.1 with
    | some r =>
      (s, some (s.pageCodes kv f.1 0 f.2 (pos % q.positions), agetD r.scales (2 * f.2) 0,
                s.pageCodes kv f.1 1 f.2 (pos % q.positions), agetD r.scales (2 * f.2 + 1) 0))
    | none => (s, none))
  | none =>
    match w.rows[j]? with
    | some r =>
      if r.kind = .lodged then
        let n := kv.headDim
        let f := s.freeCtr
        ({ s with freeCtr := f + 2 * n + 2 }, some (freeNats f n (2 ^ kv.codeBits), BitVec.ofNat 16 (Config.freeValue (f + n)),
          freeNats (f + n + 1) n (2 ^ kv.codeBits), BitVec.ofNat 16 (Config.freeValue (f + 2 * n + 1))))
      else (s, none)
    | none => (s, none)

/-- What attention reads at several positions. -/
def State.kvList (s : State) (im : ModelImage) (q : Part) (w : Walk) (layer head : Nat) :
    List Nat → State × List (List Nat × BitVec 16 × List Nat × BitVec 16)
  | [] => (s, [])
  | p :: t =>
    let a := s.kvAt im q w layer head p
    let b := a.1.kvList im q w layer head t
    (b.1, (match a.2 with | some x => [x] | none => []) ++ b.2)

/-- Minus infinity, and the FP32 of a natural number. -/
def negInf : BitVec 32 := 0xFF800000#32
def f32Nat (n : Nat) : BitVec 32 := toF32 (.fin false n 0)

/-- The value with its sign changed. -/
def f32Neg (x : BitVec 32) : BitVec 32 := x ^^^ 0x80000000#32

/-- The greater of two FP32 values. -/
def f32Max (a b : BitVec 32) : BitVec 32 := if (f32 a).lt (f32 b) then b else a

/-- A BF16 code's value. -/
def bf16 (h : BitVec 16) : Num := Fmt.bf16.decode h.toNat

/-- What attention reads of a position: the key's codes and scale, the value's codes and scale. -/
abbrev KvPos := List Nat × BitVec 16 × List Nat × BitVec 16

/-- The score of a position (R163) as FP32: the query times the key's codes, its scale, and the score factor, an FP16. -/
def score32 (format : Nat) (query : List (BitVec 16)) (scale : BitVec 16) (k : KvPos) : BitVec 32 :=
  f32Mul (f32Mul (dotF32 (query.map bf16) (k.1.map (kvValue format))) (toF32 (Fmt.fp16.decode k.2.1.toNat))) (toF32 (Fmt.fp16.decode scale.toNat))

/-- A step of the pseudocode of R163 over (m, l, o). -/
def attendStep (format : Nat) (query : List (BitVec 16)) (scale : BitVec 16) (a : BitVec 32 × BitVec 32 × List (BitVec 32)) (k : KvPos) :
    BitVec 32 × BitVec 32 × List (BitVec 32) :=
  let x := score32 format query scale k
  let m2 := f32Max a.1 x
  let c := exp32 (f32Add a.1 (f32Neg m2))
  let e := exp32 (f32Add x (f32Neg m2))
  (m2, f32Add (f32Mul a.2.1 c) e,
    List.zipWith (fun o v => f32Add (f32Mul o c) (f32Mul (f32Mul e (toF32 (kvValue format v))) (toF32 (Fmt.fp16.decode k.2.2.2.toNat)))) a.2.2 k.2.2.1)

/-- The pseudocode of R163 operator by operator. -/
def attendLiteral (format : Nat) (query : List (BitVec 16)) (scale : BitVec 16) (l : List KvPos) : List (BitVec 32) :=
  let r := l.foldl (attendStep format query scale) (negInf, 0, query.map fun _ => 0)
  r.1 :: r.2.1 :: r.2.2

/-- The exact score of a position. -/
def scoreNum (format : Nat) (query : List (BitVec 16)) (scale : BitVec 16) (k : KvPos) : Num :=
  (sumNum (List.zipWith (fun q c => (bf16 q).mul (kvScaled format k.2.1 c)) query k.1)).mul (Fmt.fp16.decode scale.toNat)

/-- (m, l, o) keeps the bound of R205 for the output elements o / l: n × 2^-20 × max |v| for n positions, before the conversion to BF16. -/
def attendOk (format : Nat) (query : List (BitVec 16)) (scale : BitVec 16) (l : List KvPos) (r : List (BitVec 32)) : Bool :=
  let xs := l.map (scoreNum format query scale)
  let top := xs.foldl (fun a x => if a.lt x then x else a) (.inf true)
  let ws := xs.map fun x => expNum (x.add top.neg)
  let total := sumNum ws
  let vmax := ((l.map fun k => k.2.2.1.map fun c => (kvScaled format k.2.2.2 c).abs).flatten).foldl (fun a x => if a.lt x then x else a) (.fin false 0 0)
  match r with
  | _ :: s :: o =>
    o.length == query.length && (Num.fin false 0 0).lt (f32 s) && (f32 s).lt (.inf false) &&
      o.zipIdx.all fun e =>
        let exact := sumNum (List.zipWith (fun w (k : KvPos) => w.mul (kvScaled format k.2.2.2 (k.2.2.1.getD e.2 0))) ws l)
        ((((f32 e.1).mul total).add ((f32 s).mul exact).neg).abs).le ((((f32 s).mul total).mul vmax).mul (.fin false l.length (-20)))
  | _ => false

/-- One ATTEND row over what one device holds (R163), with the accuracy of R205 (log entry 131). -/
def attendRow (kv : KvLayout) (query : List (BitVec 16)) (l : List KvPos) (scale : BitVec 16) : List (BitVec 32) :=
  let cand := Config.attendRow kv.format (2 ^ kv.log2P) query l scale
  if attendOk kv.format query scale l cand then cand else attendLiteral kv.format query scale l

/-- `finish` of R163: o / l of a row, as BF16. -/
def attendFinish (r : List (BitVec 32)) : List (BitVec 16) :=
  match r with
  | _ :: s :: o => o.map fun x => BitVec.ofNat 16 (Fmt.bf16.encode (f32 (div32 x s))).1
  | _ => []

/-- `merge` of R163. -/
def attendMerge (a b : List (BitVec 32)) : List (BitVec 32) :=
  match a, b with
  | ma :: la :: oa, mb :: lb :: ob =>
    let m := f32Max ma mb
    let ca := exp32 (f32Add ma (f32Neg m))
    let cb := exp32 (f32Add mb (f32Neg m))
    m :: f32Add (f32Mul la ca) (f32Mul lb cb) :: List.zipWith (fun x y => f32Add (f32Mul x ca) (f32Mul y cb)) oa ob
  | _, _ => a

/-- The class of a ring query or partial (R148): the satchel's up to 512 bytes, the partition's bulk class above. -/
def State.ringClass (s : State) (part : Fin 16) (cls : Fin 8) (bytes : Nat) : Fin 8 :=
  if bytes ≤ 512 then cls else Fin.ofNat 8 (s.fld (Reg.shpPCfg part.val) 2 0)

/-- Partials of the ring partners that hold rows of the satchel (R148): the query goes to each, with the positions that it sees; what comes back is no
state of this device (log entry 8). -/
def State.ringMerge (s : State) (q : Part) (w : Walk) (layer head limit low : Nat) (own : List Nat) (scale : BitVec 16) (query : List (BitVec 16))
    (m : List (BitVec 32)) : State × List (BitVec 32) :=
  ((List.range 16).filter fun n => w.rows.any fun r => r.kind == .ring && r.loc == n).foldl
    (fun (a : State × List (BitVec 32)) n =>
      match q.ringList[n - 1]? with
      | some d =>
        let got := (List.range m.length).map fun i => BitVec.ofNat 32 (Config.freeValue (a.1.freeCtr + i))
        ({ a.1.emit (.ringQuery d (a.1.ringClass w.part w.cls (2 * query.length)) w.id layer head limit low own scale query) with
            freeCtr := a.1.freeCtr + m.length }, attendMerge a.2 got)
      | none => a) (s, m)

/-- One query row and head (R163): the bytes that are written. -/
def State.attendHead (s : State) (d : AttDesc) (im : ModelImage) (q : Part) (w : Walk) (e : LenEntry) (words : List Nat) (k head : Nat)
    (query : List (BitVec 16)) : State × List Byte :=
  let vis := d.visible e words k
  let r := s.kvList im q w d.layer head vis
  let t := e.queryPos words k
  let m := r.1.ringMerge q w d.layer head e.pos (if d.windowed then t + 1 - d.window else 0) (vis.filter fun p => decide (e.pos ≤ p)) d.scale query
    (attendRow im.kv query r.2 d.scale)
  (m.1, if d.partials then (m.2.map fun v => leBytes 4 v.toNat).flatten else ((attendFinish m.2).map fun v => leBytes 2 v.toNat).flatten)

/-- Query heads of a group (R161). -/
def AttDesc.heads (d : AttDesc) (im : ModelImage) : Nat := d.perKv * 2 ^ im.kv.log2G

/-- Bytes of an output row of a head. -/
def AttDesc.outBytes (d : AttDesc) (im : ModelImage) : Nat := if d.partials then 8 + 4 * im.kv.headDim else 2 * im.kv.headDim

/-- All rows and heads of an entry, in the order of the packed queries. -/
def State.attendAll (s : State) (d : AttDesc) (im : ModelImage) (q : Part) (w : Walk) (e : LenEntry) (words : List Nat) (qb : List Byte) :
    State × List Byte :=
  let hn := d.heads im
  let hd := im.kv.headDim
  (List.range (e.qn * d.groups * hn)).foldl (fun (a : State × List Byte) n =>
    let query := (List.range hd).map fun i => BitVec.ofNat 16 (fieldAt qb (2 * (n * hd + i)) 2)
    let head := (d.first + n / hn % d.groups) * 2 ^ im.kv.log2G + n % hn / d.perKv
    let r := a.1.attendHead d im q w e words (n / (d.groups * hn)) head query
    (r.1, a.2 ++ padTo (d.outBytes im) r.2)) (s, [])

/-- The mask of an entry (R164): its words where it is valid for the entry. For a row that was planned as a tree the table holds the planner's copy
(R240; log entry 130). -/
def State.maskWords (s : State) (p addr : Nat) (e : LenEntry) : State × Except ItemEnd (List Nat) :=
  if e.causal then (s, .ok [])
  else if addr = 0 then (s, .error (.quit (fault 0 0x402 1 0) .badField))
  else
    match s.fetchVa p (addr + 528 * e.mask) 528 with
    | (s1, .error x) => (s1, .error (.stop x))
    | (s1, .ok b) =>
      match (s.walk e.ctx).bind fun w => if w.tree.isEmpty then none else some w.tree with
      | some l => if l.length = e.qn then (s1, .ok l) else (s1, .error (.quit (fault 0 0x402 1 0) .badField))
      | none =>
        if treeValid b && fieldAt b 0 1 == e.qn then (s1, .ok (treeWords b)) else (s1, .error (.quit (fault 0 0x402 1 0) .badField))

/-- The core whose unit posts a fault. -/
def ItemEnd.from (e : ItemEnd) (core : Nat) : ItemEnd := match e with | .quit f st => .quit { f with source := BitVec.ofNat 12 core } st | x => x

/-- What the walker meets among the rows that an entry reads (R141, R144, R266): walker faults, whether rows must return first, and whether a page is
poisoned. -/
def State.walkRows (s : State) (w : Walk) (q : Part) (layer first groups ctx : Nat) (rows : List Nat) : State × Bool × Bool :=
  let wait := rows.any fun j => match w.rows[j]? with
    | some r => r.kind == .parked || r.kind == .swapHost || r.kind == .swapT2
    | none => false
  let frames (f : Nat) : List Nat := (List.range groups).map fun g => f + layer * q.groups + first + g
  let bad := (rows.map fun j =>
    match w.rows[j]? with
    | none => 1
    | some r =>
      if r.kind = .empty then 1
      else match s.rowHere w j with
        | some f => ((frames f).filter fun h => (s.pageRec w j h).isNone).length
        | none => 0).sum
  let poison := rows.any fun j => match s.rowHere w j with
    | some f => (frames f).any fun h => s.memory.poisoned (s.frameAddr h) 65536
    | none => false
  ((List.range bad).foldl (fun (a : State) _ => a.walkFault ctx .ok) s, wait, poison)

/-- Ask for the rows of a context back (R144). -/
def State.askRows (s : State) (ctx : Nat) : State :=
  s.withCtx ctx fun x =>
    if x.has .parked then s.beginRevive ctx false
    else if ctx < 2 ^ 22 then s.withSlot ctx fun y => s.requestReturns [(ctx, y)]
    else s.satelliteReturn ctx

/-- One entry of an ATTEND. -/
def State.attendItem (s : State) (core p : Nat) (d : AttDesc) (im : ModelImage) (l : List LenEntry) (i : Item) : State × ItemEnd :=
  match i.entry with
  | none => (s, .ok)
  | some k =>
    match l[k]? with
    | none => (s, .ok)
    | some e =>
      if s.foreign p e.ctx then (s, foreignEnd core)
      else
        match s.walk e.ctx with
        | none => (s, .ok)
        | some w =>
          match s.maskWords p d.mask e with
          | (s1, .error x) => (s1, x.from core)
          | (s1, .ok words) =>
            let q := s1.part p
            let rows := (((List.range e.qn).map fun r => d.visible e words r).flatten.map fun v => v / q.positions).eraseDups
            match s1.walkRows w q d.layer d.first d.groups e.ctx rows with
            | (s2, _, true) => (s2, .corrupt)
            | (s2, true, _) => (s2.askRows e.ctx, .wait)
            | (s2, false, _) =>
              let unit := d.groups * d.heads im
              match s2.fetchVa p (d.q + e.q0 * unit * im.kv.headDim * 2) (e.qn * unit * im.kv.headDim * 2) with
              | (s3, .error x) => (s3, .stop x)
              | (s3, .ok qb) =>
                let r := s3.attendAll d im q w e words qb
                match r.1.storeVa p .engine (d.o + e.q0 * unit * d.outBytes im) (e.qn * unit * d.outBytes im) fun _ => r.2 with
                | (s4, some x) => (s4, .stop x)
                | (s4, none) => (s4, .ok)

/-- Attention tiles of some entries (R160): formed per satchel and head group. -/
def AttDesc.tilesOf (d : AttDesc) (l : List LenEntry) (ks : List Nat) : Nat :=
  (ks.map fun k => match l[k]? with | some e => ceilDiv e.qn 64 * d.groups | none => 0).sum

/-- ATTEND (R161). It pins the inkwell epoch for its reads (R157). -/
def execAttend (core : Fin 128) (eng : Fin 8) (seq : Nat) (s : State) : Host.Outcome State Fault Refusal :=
  .next (s.runCmd core.val eng.val seq 2 fun x c =>
    let p := c.part.val
    let q := x.part p
    let d := AttDesc.ofCmd c
    match q.image with
    | none => x.badCmd core.val eng.val c
    | some im =>
      if d.ok q = false then x.badCmd core.val eng.val c
      else
        let rd := readerOf p core.val eng.val seq
        let x1 := if x.kva.pins.any fun n => n.reader == rd then x else x.pin rd
        x1.withTable core.val eng.val c d.len d.entries fun y l =>
          if lenOk l = false then y.badCmd core.val eng.val c
          else y.runItems core.val eng.val c l (d.tilesOf l) ((List.range l.length).map fun k => ({ tile := 0, entry := some k } : Item))
            fun a i => a.attendItem core.val p d im l i)

/-- RING_QUERY_RECEIVE (R148, R165): the partial over the rows that this device holds for the satchel; `held` are their numbers in the sequence, and
`own` the positions at and above the limit that the query sees. -/
def execRingQueryReceive (src : DeviceId) (cls : Fin 8) (id : SatchelId) (layer head limit low : Nat) (own : List Nat) (scale : BitVec 16) (held : List Nat)
    (query : List (BitVec 16)) (s : State) : Host.Outcome State Fault Refusal :=
  let answer (a : State) (r : List (BitVec 32)) : State := 
    a.emit (.ringPartial src (match s.sat.satellites.find? fun e => e.2.id == id && e.2.partner with
      | some e => s.ringClass e.2.part cls (4 * r.length)
      | none => cls) id r)
  let empty := negInf :: 0#32 :: query.map fun _ => 0#32
  match (s.sat.satellites.find? fun e => e.2.id == id && e.2.partner).map fun e => ctxOfSatellite e.1 with
  | none => .next (answer s empty)
  | some ctx =>
    match s.walk ctx with
    | none => .next (answer s empty)
    | some w =>
      let q := s.part w.part.val
      match q.image with
      | none => .next (answer s empty)
      | some im =>
        let rows := held.zip w.rows
        let placed : List Row := (List.range (held.foldl max 0 + 1)).map fun j =>
          match rows.find? (fun e => e.1 == j) with
          | some e => e.2
          | none => { kind := .empty, fill := 0, loc := 0 }
        let w1 : Walk := { w with rows := placed }
        let vis := (held.map fun j => (List.range q.positions).map fun i => j * q.positions + i).flatten.filter fun p =>
          decide (low ≤ p) && (decide (p < limit) || own.contains p)
        let mine := (vis.map fun p => p / q.positions).eraseDups
        let s1 := (s.walkRows w1 q layer (head / 2 ^ im.kv.log2G) 1 ctx mine).1
        let r := s1.kvList im q w1 layer head vis
        .next (answer r.1 (if vis.isEmpty then empty else attendRow im.kv query r.2 scale))

/-! ### The sampler (R206 to R211) -/

/-- The draw of R209, a 24-bit fraction. -/
def drawStep (x : Nat) : Nat :=
  let a := x ^^^ (x / 2 ^ 31)
  let b := a * 0xBF58476D1CE4E5B9 % 2 ^ 64
  b ^^^ (b / 2 ^ 29)

/-- draw(seed, pos) × 2^24 (R209). -/
def drawBits (seed pos : Nat) : Nat :=
  (List.range 4).foldl (fun x _ => drawStep x) ((seed ^^^ (pos * 0x9E3779B97F4A7C15)) % 2 ^ 64) / 2 ^ 40

/-- The draw as an FP32 code: exact. -/
def draw32 (seed pos : Nat) : BitVec 32 := toF32 (.fin false (drawBits seed pos) (-24))

/-- An FP16 code as FP32: exact. -/
def f32Of16 (h : BitVec 16) : BitVec 32 := toF32 (Fmt.fp16.decode h.toNat)

/-- An FP32 code is a NaN. -/
def isNan32 (x : BitVec 32) : Bool := f32 x == .nan

/-- Penalties of R208 on one logit that was seen n times. -/
def penalise (st : Sampler) (n : Nat) (x : BitVec 32) : BitVec 32 :=
  let rep := f32Of16 st.repPen
  let v := if st.repPen = 0x3C00#16 then x else if (Num.fin false 0 0).lt (f32 x) then div32 x rep else f32Mul x rep
  f32Add (f32Add v (f32Neg (f32Of16 st.presPen))) (f32Neg (f32Mul (f32Of16 st.freqPen) (f32Nat n)))

/-- The tokens that penalties consider (R207, R208), by vocabulary index. -/
def penaltyWindow (st : Sampler) (log : List Token) (pos : Nat) : List Nat :=
  if st.penWindow = 0 then []
  else (((log.take pos).drop (pos - st.penWindow)).filter fun t => st.penPrompt || !isInput t).map vocabIx

/-- Partial sums up to the first element that a test accepts: its index, or none. -/
def firstSum (test : BitVec 32 → Bool) : Nat → BitVec 32 → List (BitVec 32) → Option Nat
  | _, _, [] => none
  | k, acc, w :: t => if test (f32Add acc w) then some k else firstSum test (k + 1) (f32Add acc w) t

/-- sample_row of R208 on logits without NaN. -/
def sampleRow (x0 : List (BitVec 32)) (st : Sampler) (log : List Token) (pos : Nat) (allow : Nat → Bool) : Option Nat :=
  let x1 := if st.maskEn then x0.mapIdx fun i v => if allow i then v else negInf else x0
  let win := penaltyWindow st log pos
  let x2 := x1.mapIdx fun i v => let n := win.count i; if n = 0 then v else penalise st n v
  let order := (x2.zipIdx).mergeSort fun a b => (f32 b.1).lt (f32 a.1) || (!(f32 a.1).lt (f32 b.1) && decide (a.2 ≤ b.2))
  match order with
  | [] => none
  | top :: _ =>
    if top.1 = negInf then none
    else if st.temp.toNat % 2 ^ 31 = 0 then some top.2
    else
      let cand := (order.take (if st.topK = 0 then 1024 else st.topK)).filter fun e => e.1 != negInf
      let w := cand.map fun e => exp32 (div32 (f32Add e.1 (f32Neg top.1)) st.temp)
      let total := w.foldl f32Add 0
      let limit := f32Mul st.topP total
      let keep := if st.topP = 0x3F800000#32 then w.length else match firstSum (fun a => (f32 limit).le (f32 a)) 0 0 w with | some j => j + 1 | none => w.length
      let c2 := cand.take keep
      let w2 := w.take keep
      let u := f32Mul (draw32 st.seed.toNat pos) (w2.foldl f32Add 0)
      match firstSum (fun a => (f32 u).lt (f32 a)) 0 0 w2 with
      | some j => (c2[j]?).map fun e => e.2
      | none => c2.getLast?.map fun e => e.2

/-- verify_tree of R210: path and tokens. -/
def verifyTree (words : List Nat) (logits : List (List (BitVec 32))) (draft : List Nat) (st : Sampler) (log : List Token) (ctx : Nat)
    (allow : Nat → Bool) : Nat → Nat → List Nat → List Token → Option (List Nat × List Token)
  | 0, _, path, out => some (path, out)
  | fuel + 1, node, path, out =>
    match sampleRow (logits.getD node []) st (log ++ out) (ctx + 1 + out.length) allow with
    | none => none
    | some t =>
      let out1 := out ++ [BitVec.ofNat 32 t]
      match (List.range words.length).find? (fun i =>
          decide (node < i) && words.getD i 0 == (words.getD node 0 ||| 2 ^ i) && draft.getD i 0 == t) with
      | none => some (path, out1)
      | some i => verifyTree words logits draft st log ctx allow fuel i (path ++ [i]) out1

/-- The fields of a SAMPLE descriptor (R206). -/
structure SmpDesc where
  at_ : Nat
  logits : Nat
  out : Nat
  len : Nat
  mask : Nat
  entries : Nat
  fmt : Nat
  rsv : Nat
  vocab : Nat
  draft : Nat
  deriving DecidableEq, Repr

/-- A SAMPLE descriptor from its bytes. -/
def SmpDesc.ofCmd (c : CoreCmd) : SmpDesc :=
  let d := c.desc
  { at_ := c.addr, logits := fieldAt d 0x10 8, out := fieldAt d 0x18 8, len := fieldAt d 0x20 8, mask := fieldAt d 0x28 8, entries := fieldAt d 0x30 2,
    fmt := fieldAt d 0x32 1, rsv := fieldAt d 0x33 1, vocab := fieldAt d 0x34 4, draft := fieldAt d 0x38 8 }

/-- The checks of R206. -/
def SmpDesc.ok (d : SmpDesc) : Bool :=
  d.rsv == 0 && (d.fmt == 7 || d.fmt == 9) && decide (1 ≤ d.entries ∧ d.entries ≤ 16384) && decide (1 ≤ d.vocab ∧ d.vocab ≤ 16777216)

/-- Rows of logits of an entry, and those before it (R206). -/
def LenEntry.logitRows (e : LenEntry) : Nat := if e.causal then 1 else e.qn
def rowsBefore (l : List LenEntry) (k : Nat) : Nat := ((l.take k).map LenEntry.logitRows).sum

/-- An output record (R206). -/
def sampleRecord (r : Option (List Nat × List Token)) : List Byte :=
  match r with
  | none => [0#8, BitVec.ofNat 8 Status.badField.code] ++ zeros 2 ++ zeros 256 ++ List.replicate 64 0xFF#8 ++ zeros 12
  | some (path, out) =>
    [BitVec.ofNat 8 out.length, 0#8] ++ zeros 2 ++ padTo 256 ((out.map fun t => leBytes 4 t.toNat).flatten) ++
      (path.map fun i => BitVec.ofNat 8 i) ++ List.replicate (64 - path.length) 0xFF#8 ++ zeros 12

/-- A tokens' result becomes the satchel's provisional result in a stroke that samples it (R87, R241). -/
def State.provide (s : State) (slot : Nat) (tapped : Bool) (path : List Nat) (out : List Token) : State :=
  s.withSlot slot fun x =>
    match x.planned with
    | none => s
    | some w =>
      let n := s.strokeNow
      let base : Prov := match x.prov with
        | some v => if v.stroke = n then v else { stroke := n, tokens := [], path := [], shadow := none }
        | none => { stroke := n, tokens := [], path := [], shadow := none }
      if tapped then
        if w.tap then s.modSat slot fun y => { y with prov := some { base with shadow := out.head? } } else s
      else if w.samples then s.modSat slot fun y => { y with prov := some { base with tokens := out, path := path } }
      else s

/-- The mask slot's bits (R207): bit v allows token v. -/
def State.maskBits (s : State) (q : Part) (slot : Nat) : Nat :=
  let n := match q.image with | some im => (im.vocab + 511) / 512 * 64 | none => 0
  leNat (memRead s.memory.mem (q.maskAddr + slot * n) n)

/-- The row of logits as FP32 with NaN as minus infinity, and the NaNs met (R208). -/
def cleanLogits (l : List Num) : List (BitVec 32) × Nat :=
  (l.map fun x => if x = .nan then negInf else toF32 x, (l.filter fun x => x == .nan).length)

/-- Write an entry's record, and end or provide (R206, R211). -/
def State.sampleEnd (s : State) (core p : Nat) (d : SmpDesc) (k : Nat) (slot : Option Nat) (tapped : Bool) (r : Option (List Nat × List Token)) :
    State × ItemEnd :=
  match s.storeVa p .engine (d.out + 336 * k) 336 fun _ => sampleRecord r with
  | (s1, some x) => (s1, .stop x)
  | (s1, none) =>
    match r, slot with
    | some v, some k1 => (s1.provide k1 tapped v.1 v.2, .ok)
    | some _, none => (s1, .ok)
    | none, _ => (s1, .quit (fault core 0x402 1 0) .badField)

/-- One entry of a SAMPLE. -/
def State.sampleItem (s : State) (core p : Nat) (d : SmpDesc) (tapped : Bool) (l : List LenEntry) (i : Item) : State × ItemEnd :=
  match i.entry with
  | none => (s, .ok)
  | some k =>
    match l[k]? with
    | none => (s, .ok)
    | some e =>
      if s.foreign p e.ctx then (s, foreignEnd core)
      else
        match (if e.ctx < 2 ^ 22 then s.satAt e.ctx else none) with
        | none => s.sampleEnd core p d k none tapped none
        | some x =>
          let q := s.part p
          if (x.sampler.maskEn ∧ q.maskSlots ≤ x.sampler.maskSlot) ∨ (e.causal = false ∧ d.draft = 0) then s.sampleEnd core p d k (some e.ctx) tapped none
          else
            match s.maskWords p d.mask e with
            | (s1, .error (.stop y)) => (s1, .stop y)
            | (s1, .error _) => s1.sampleEnd core p d k (some e.ctx) tapped none
            | (s1, .ok words) =>
              let o : Operand := { base := d.logits, fmt := d.fmt, rows := rowsBefore l (l.length), len := d.vocab }
              match s1.readRows p o 0 d.vocab ((List.range e.logitRows).map fun r => rowsBefore l k + r) with
              | (s2, .error y) => (s2, .stop y)
              | (s2, .ok rows) =>
                let clean := rows.map cleanLogits
                let s3 := s2.countConv core d.at_ 0 (clean.map fun r => r.2).sum
                let m := s3.maskBits q x.sampler.maskSlot
                let allow : Nat → Bool := fun v => bitAt m v
                if e.causal then
                  s3.sampleEnd core p d k (some e.ctx) tapped
                    ((sampleRow ((clean.map fun r => r.1).headD []) x.sampler x.log (e.pos + e.qn) allow).map fun t => ([], [BitVec.ofNat 32 t]))
                else
                  match s3.fetchVa p (d.draft + 256 * k) (4 * words.length) with
                  | (s4, .error y) => (s4, .stop y)
                  | (s4, .ok b) =>
                    let read := (List.range words.length).map fun j => fieldAt b (4 * j) 4
                    let drafts := match x.planned with | some w => if w.tree.isEmpty then read else w.drafts.map BitVec.toNat | none => read
                    s4.sampleEnd core p d k (some e.ctx) tapped
                      (verifyTree words (clean.map fun r => r.1) drafts x.sampler x.log e.pos allow
                        (words.length + 1) 0 [] [])

/-- SAMPLE (R206). -/
def execSample (core : Fin 128) (seq : Nat) (tapped : Bool) (s : State) : Host.Outcome State Fault Refusal :=
  .next (s.runCmd core.val 9 seq 3 fun x c =>
    let d := SmpDesc.ofCmd c
    if d.ok = false then x.badCmd core.val 9 c
    else
      x.withTable core.val 9 c d.len d.entries fun y l =>
        if lenOk l = false then y.badCmd core.val 9 c
        else y.runItems core.val 9 c l (fun ks => ks.length) ((List.range l.length).map fun k => ({ tile := 0, entry := some k } : Item))
          fun a i => a.sampleItem core.val c.part.val d tapped l i)

/-! ### The vector unit (R204, R205) -/

/-- The fields of a VECTOR descriptor (R204). -/
structure VecDesc where
  at_ : Nat
  src0 : Nat
  src1 : Nat
  dst : Nat
  param : Nat
  rows : Nat
  cols : Nat
  op : Nat
  f0 : Nat
  f1 : Nat
  fd : Nat
  rsv : Nat
  deriving DecidableEq, Repr

/-- A VECTOR descriptor from its bytes. -/
def VecDesc.ofCmd (c : CoreCmd) : VecDesc :=
  let d := c.desc
  { at_ := c.addr, src0 := fieldAt d 0x10 8, src1 := fieldAt d 0x18 8, dst := fieldAt d 0x20 8, param := fieldAt d 0x28 8, rows := fieldAt d 0x30 4,
    cols := fieldAt d 0x34 4, op := fieldAt d 0x38 1, f0 := fieldAt d 0x39 1 / 16, f1 := fieldAt d 0x39 1 % 16, fd := fieldAt d 0x3A 1 / 16,
    rsv := fieldAt d 0x3A 1 % 16 + fieldAt d 0x3B 5 }

/-- The operation takes a second source of data (R204). -/
def VecDesc.two (d : VecDesc) : Bool := [1, 2, 3, 4, 5].contains d.op

/-- The operation gives one FP32 per row. -/
def VecDesc.perRow (d : VecDesc) : Bool := d.op == 10 || d.op == 11

/-- A format that a vector operation may read or write: an MX row is whole blocks (R180). -/
def vecFmt (f cols : Nat) : Bool := decide (1 ≤ f ∧ f ≤ 9) && (!isMx f || cols % 32 == 0)

/-- The checks of R204. -/
def VecDesc.ok (d : VecDesc) (q : Part) : Bool :=
  decide (1 ≤ d.op ∧ d.op ≤ 12) && d.rsv == 0 && decide (1 ≤ d.rows ∧ d.rows ≤ 65536) && decide (1 ≤ d.cols ∧ d.cols ≤ 16777216) &&
    vecFmt d.f0 d.cols && (!d.two || vecFmt d.f1 d.cols) && (if d.perRow then decide (1 ≤ d.fd ∧ d.fd ≤ 9) else vecFmt d.fd d.cols) &&
    (d.op != 12 || match q.image with | some im => d.cols % im.kv.headDim == 0 | none => false)

/-- A sum in the order of R204: ascending columns within each group of 512, then the groups. -/
def sum512 : Nat → List (BitVec 32) → List (BitVec 32)
  | 0, _ => []
  | n + 1, l =>
    match l with
    | [] => []
    | a :: t => (t.take 511).foldl f32Add a :: sum512 n (l.drop 512)

/-- ROWSUM of a row. -/
def rowSum (l : List (BitVec 32)) : BitVec 32 :=
  match sum512 (l.length / 512 + 1) l with
  | [] => 0
  | a :: t => t.foldl f32Add a

/-- ROWMAX of a row. -/
def rowMax (l : List (BitVec 32)) : BitVec 32 :=
  if l.any isNan32 then Config.rowMaxNan l
  else match l with
    | [] => negInf
    | a :: t => t.foldl (fun b x => if (f32 b).lt (f32 x) then x else b) a

/-- SILU of a value, times another. -/
def siluMul (x y : BitVec 32) : BitVec 32 := f32Mul (div32 x (f32Add (f32Nat 1) (exp32 (f32Neg x)))) y

/-- A row's result (R204), from the rows of SRC0, SRC1 and DST as FP32. -/
def VecDesc.row (d : VecDesc) (x y z : List (BitVec 32)) : List (BitVec 32) :=
  match d.op with
  | 1 => List.zipWith f32Add x y
  | 2 => List.zipWith f32Mul x y
  | 3 => List.zipWith (fun a c => toF32 (((f32 a.1).mul (f32 a.2)).add (f32 c))) (x.zip y) z
  | 4 =>
    let mean := div32 (rowSum (x.map fun a => f32Mul a a)) (f32Nat x.length)
    let r := rsqrt32 (f32Add mean (BitVec.ofNat 32 (d.param % 2 ^ 32)))
    List.zipWith (fun a w => f32Mul (f32Mul a r) w) x y
  | 5 => List.zipWith siluMul x y
  | 6 => x.map exp32
  | 7 => x.map recip32
  | 8 => x.map rsqrt32
  | _ => x

/-- Rows of an operand read as FP32. -/
def State.readF32 (s : State) (p : Nat) (o : Operand) (r : Nat) : State × Except Stop (List (BitVec 32)) :=
  match s.readElems p o r 0 o.len with
  | (s1, .error e) => (s1, .error e)
  | (s1, .ok l) => (s1, .ok (l.map toF32))

/-- The position of a packed query row and its satchel's plan (R162, R204). -/
def State.rowPos (s : State) (l : List LenEntry) (r : Nat) : Nat :=
  match l.find? (fun e => decide (e.q0 ≤ r ∧ r < e.q0 + e.qn)) with
  | some e => e.queryPos (match s.walk e.ctx with | some w => w.tree | none => []) (r - e.q0)
  | none => 0

/-- Rotate the heads of a query row (R189, R204). -/
def State.rotateRow (s : State) (p : Nat) (d : VecDesc) (headDim pos : Nat) (x : List (BitVec 32)) : State × Except Stop (List (BitVec 32)) :=
  let fa := d.src1 / 2 ^ 32 * 2 ^ 32 + d.param % 2 ^ 32
  match s.fetchVa p fa (4 * (headDim / 2)) with
  | (s1, .error e) => (s1, .error e)
  | (s1, .ok b) =>
    (s1, .ok (((List.range (x.length / 2)).map fun i =>
      let f := BitVec.ofNat 32 (fieldAt b (4 * (i % (headDim / 2))) 4)
      let r := rotate32 (x.getD (2 * i) 0) (x.getD (2 * i + 1) 0) pos f
      [r.1, r.2]).flatten))

/-- The output of a VECTOR: a row of ROWMAX or ROWSUM is one FP32. -/
def VecDesc.out (d : VecDesc) : Operand :=
  if d.op = 10 ∨ d.op = 11 then { base := d.dst, fmt := 9, rows := d.rows, len := 1 } else { base := d.dst, fmt := d.fd, rows := d.rows, len := d.cols }

/-- One row of a VECTOR. -/
def State.vecItem (s : State) (core p : Nat) (d : VecDesc) (l : List LenEntry) (i : Item) : State × ItemEnd :=
  let r := i.tile
  let o0 : Operand := { base := d.src0, fmt := d.f0, rows := d.rows, len := d.cols }
  let o1 : Operand := { base := d.src1, fmt := d.f1, rows := if d.op = 4 then 1 else d.rows, len := d.cols }
  let od : Operand := { base := d.dst, fmt := d.fd, rows := d.rows, len := d.cols }
  match s.readF32 p o0 r with
  | (s1, .error e) => (s1, .stop e)
  | (s1, .ok x) =>
    match (if d.two then s1.readF32 p o1 (if d.op = 4 then 0 else r) else (s1, .ok [])) with
    | (s2, .error e) => (s2, .stop e)
    | (s2, .ok y) =>
      match (if d.op = 3 then s2.readF32 p od r else (s2, .ok [])) with
      | (s3, .error e) => (s3, .stop e)
      | (s3, .ok z) =>
        let put (v : State × Option Stop) : State × ItemEnd := match v with | (a, some e) => (a, .stop e) | (a, none) => (a, .ok)
        if d.op = 10 then put (s3.storeVa p .thread (d.dst + 4 * r) 4 fun _ => leBytes 4 (rowMax x).toNat)
        else if d.op = 11 then put (s3.storeVa p .thread (d.dst + 4 * r) 4 fun _ => leBytes 4 (rowSum x).toNat)
        else if d.op = 12 then
          match s3.rotateRow p d (match (s3.part p).image with | some im => im.kv.headDim | none => 2) (s3.rowPos l r) x with
          | (s4, .error e) => (s4, .stop e)
          | (s4, .ok v) => put (s4.writeRow core d.at_ p .thread od r 0 d.cols v)
        else put (s3.writeRow core d.at_ p .thread od r 0 d.cols (d.row x y z))

/-- VECTOR (R204). -/
def execVector (core : Fin 128) (seq : Nat) (s : State) : Host.Outcome State Fault Refusal :=
  .next (s.runCmd core.val 8 seq 4 fun x c =>
    let p := c.part.val
    let d := VecDesc.ofCmd c
    let items := (List.range d.rows).map fun r => ({ tile := r, entry := none } : Item)
    if d.ok (x.part p) = false then x.badCmd core.val 8 c
    else if d.op = 12 then
      let n := d.param / 2 ^ 32
      if n = 0 ∨ 16384 < n then x.badCmd core.val 8 c
      else
        x.withTable core.val 8 c d.src1 n fun y l =>
          if lenOk l = false then y.badCmd core.val 8 c
          else y.runItems core.val 8 c [] (fun _ => 0) items fun a i => a.vecItem core.val p d l i
    else (x.runItems core.val 8 c [] (fun _ => 0) items fun a i => a.vecItem core.val p d [] i).undefineOut core.val 8 c .thread d.out)

end Sys2Proof.Machine
end

