-- ==== Sys2Proof/Machine/Global.lean ====
section
/-!
DEFINITION. Machine/Global.lean: writes of BAR0 registers (R6 to R10, R28, R545), the rules that a field map adds, and the coming into
service of the blocks (R511).
-/
namespace Sys2Proof.Machine

/-! ### Blocks come into service (R511) -/

/-- The codec holds its staging (R306). -/
def State.cdcReady (s : State) : Bool := s.memory.carves.any fun c => c.owner == 3

/-- What a block's ENABLE asks for before it may be set (R511), by the offset of its CTRL register. -/
def State.enableOk (s : State) (off : Nat) : Bool :=
  if off = Reg.plnCtrl then s.sat.ready && s.kva.ready
  else if off = Reg.lnkCtrl then s.idValid && s.flag Reg.shpCtrl 0 && s.xpt.ready && s.sat.ready
  else if off = Reg.memCtrl ∨ off = Reg.shpCtrl ∨ off = Reg.cmdCtrl then true
  else s.memory.t1Ready

/-- A carve-out that an ENABLE needs (R100, R134, R306, R416): without it ENABLE stays 0 with a note of kind CARVE_FAIL. -/
def State.carveOr (s : State) (ctrl source owner size : Nat) (f : Nat → State → State) : State :=
  match s.carve owner size with
  | some (b, s1) => f b s1
  | none => (s.setFld ctrl 0 0 0).note source 0x003 size

/-- The custody engine's carve-out (R80, R100): the fixed part and the mirror chunks. -/
def State.satBytes (s : State) : Nat := 1152 * 2 ^ 20 + s.fld Reg.satMirrorCfg 23 0 * 4096

/-- The KV arena's carve-out (R134). -/
def State.kvaBytes (s : State) : Nat := s.fld Reg.kvaArenaCfg 25 0 * 65792

/-- The transport's carve-outs (R383, R416). -/
def State.xptBytes (s : State) : Nat := s.fld Reg.xptConnCfg 20 0 * 256 + 131072 * Config.resultEntryBytes.val

/-- PF0's windows are enabled (R448). -/
def State.cmdServe (s : State) : State :=
  (List.range 16).foldl (fun (a : State) w => a.modWindow w fun x =>
    if x.state = .disabled then { x with state := .enabled, cons := 0, errOffset := 0, errCode := 0 } else x) s

/-- The routers serve, and a port whose ENABLE is 1 trains (R369, R375). -/
def State.lnkServe (s : State) : State :=
  (List.range 64).foldl State.tryTrain { s with lnk := { s.lnk with ready := true } }

/-- A block whose ENABLE is 1 and whose prerequisites hold comes into service. -/
def State.serveBlock (s : State) (off : Nat) : State :=
  if off = Reg.satCtrl then
    s.carveOr off 0x3C1 1 s.satBytes fun _ a => { a with sat := { a.sat with ready := true, joined := true } }
  else if off = Reg.kvaCtrl then
    s.carveOr off 0x3C2 2 s.kvaBytes fun b a => { a with kva := { a.kva with ready := true, base := b } }
  else if off = Reg.cdcCtrl then s.carveOr off 0x380 3 (64 * 2 ^ 20) fun _ a => a
  else if off = Reg.xptCtrl then
    s.carveOr off 0x280 4 s.xptBytes fun _ a => { a with xpt := { a.xpt with ready := true } }
  else if off = Reg.memCtrl then s.memEnable
  else if off = Reg.flsCtrl then s.flsEnable
  else if off = Reg.plnCtrl then { s with pln := { s.pln with ready := true } }
  else if off = Reg.lnkCtrl then s.lnkServe
  else if off = Reg.cmdCtrl then s.cmdServe
  else s

/-- A block is in service or coming into it. -/
def State.started (s : State) (off : Nat) : Bool :=
  if off = Reg.satCtrl then s.sat.ready
  else if off = Reg.kvaCtrl then s.kva.ready
  else if off = Reg.cdcCtrl then s.cdcReady
  else if off = Reg.xptCtrl then s.xpt.ready
  else if off = Reg.memCtrl then s.memory.training || s.memory.t0Ready
  else if off = Reg.flsCtrl then s.fls.ready || s.fls.recovering || s.fls.unformatted
  else if off = Reg.plnCtrl then s.pln.ready
  else if off = Reg.lnkCtrl then s.lnk.ready
  else false

/-- The blocks in the order of R511. -/
def blockOrder : List Nat :=
  [Reg.cmdCtrl, Reg.memCtrl, Reg.cdcCtrl, Reg.xptCtrl, Reg.satCtrl, Reg.kvaCtrl, Reg.flsCtrl, Reg.plnCtrl, Reg.lnkCtrl]

/-- Every block whose ENABLE is 1 and that is not in service brings itself into service as its prerequisites hold (R498). -/
def State.bringUp (s : State) : State :=
  blockOrder.foldl (fun (a : State) off =>
    if a.flag off 0 && !a.started off && a.enableOk off then a.serveBlock off else a) s

/-- T1_TRAINING_COMPLETE (R262, R264): T1 and T0 are zeroed and ready; blocks that waited for T1 come into service (R498). -/
def execT1TrainingComplete (trained : List Bool) (s : State) : Host.Outcome State Fault Refusal :=
  if !s.memory.training then .next s
  else
    let found : List GddrDev := (List.range 32).map fun d =>
      let f := s.board.gddr.getD d { present := false, density := 0 }
      { GddrDev.reset with present := f.present, density := f.density, trained := f.present && trained.getD d false }
    let n := population found
    let devs := found.mapIdx fun d g => { g with inService := decide (d < n) }
    let s1 := { s with memory := { s.memory with
      training := false, t0Ready := true, t1Ready := decide (n ≠ 0), devs := devs, population := n,
      density := (found.headD GddrDev.reset).density.val } }
    let s2 := (List.range 32).foldl (fun (x : State) d =>
      if (devs.getD d GddrDev.reset).present && decide (n ≤ d) then x.note (0x100 + 4 * d) 0x204 d else x) s1
    .next (if n = 0 then s2.post (fault 0x100 0x206 2 0) else s2.bringUp)

/-! ### The rules that field maps add -/

/-- Slice k is in a partition (R212, R226). -/
def State.sliceTaken (s : State) (k : Nat) : Bool := s.pln.parts.any fun q => q.state != .free && bitAt q.slices.toNat k

/-- Every fabric port is DISABLED (R33). -/
def State.portsDisabled (s : State) : Bool := s.lnk.ports.all fun p => p.state == .disabled

/-- The end of the highest carve-out. -/
def State.carvedTo (s : State) : Nat := s.memory.carves.foldl (fun a c => max a (c.base + c.size)) 0

/-- What a field write leaves: the state, and whether a locked field or a rule dropped it (R545). -/
structure WAcc where
  s : State
  locked : Bool
  dropped : Bool
  deriving DecidableEq, Repr

/-- A field's new value stored. -/
def WAcc.put (a : WAcc) (off : Nat) (f : Fld) (w : Nat) : WAcc := { a with s := a.s.setFld off f.hi f.lo w }

/-- A field's write dropped. -/
def WAcc.drop (a : WAcc) : WAcc := { a with dropped := true }

/-- Store a field where a condition holds, drop it otherwise. -/
def WAcc.putIf (a : WAcc) (c : Bool) (off : Nat) (f : Fld) (w : Nat) : WAcc := if c then a.put off f w else a.drop

/-- Set a block's ENABLE (R511): before its prerequisite holds it stays 0. -/
def WAcc.enable (a : WAcc) (off : Nat) : WAcc :=
  if a.s.enableOk off then { a with s := ((a.s.setFld off 0 0 1).serveBlock off).bringUp } else a.drop

/-- The cut of a port (R347, R371, R379). -/
def State.cutOk (s : State) (p cut : Nat) : Bool :=
  decide (cut ≤ 3) && decide ((s.port p).state = .disabled) && (cut != 3 || (p % 2 == 0 && p != 62))

/-- A field whose rule reads the device's state; `i` are the register's indices, `v` the whole word written, `w` the field's value. -/
def WAcc.hook (a : WAcc) (off : Nat) (i : List Nat) (f : Fld) (v w : Nat) : WAcc :=
  let s := a.s
  let i0 := i.headD 0
  let i1 := (i.drop 1).headD 0
  if off = Reg.glbDeviceId then a.put off f w
  else if off = Reg.memDevpool then
    let g := min w s.memory.usableGib
    if g = s.fld off f.hi f.lo then a else a.putIf (decide (s.carvedTo ≤ g * 2 ^ 30)) off f g
  else if off = Reg.coreCtrl i0 then a.putIf (!s.sliceTaken (i0 / 8)) off f w
  else if off = Reg.cdcGroup i0 then
    a.putIf (w == 0 || (List.range 16).any fun g => g != i0 && !s.flag (Reg.cdcGroup g) 31) off f w
  else if off = Reg.flsGcCfg then
    let crit := max 1 (bits v 7 0)
    a.put off f (if w ≤ crit then min 255 (crit + 1) else w)
  else if off = Reg.lnkTopo then a.putIf (s.portsDisabled && decide (1 ≤ w ∧ w ≤ 512)) off f w
  else if off = Reg.lnkGwCfg then a.putIf (decide ((s.port 63).state = .disabled)) off f w
  else if off = Reg.lnkPCtrl i0 then
    if f.lo = 1 then a.putIf (s.cutOk i0 w) off f w
    else if w = 0 then { a with s := s.disablePort i0 }
    else if s.lnk.ready then { a with s := s.enablePort i0 }
    else a.drop
  else if off = Reg.lnkPReserve i0 ∨ off = Reg.lnkPCredit i0 i1 then
    a.putIf (decide ((s.port i0).state = .disabled)) off f w
  else if off = Reg.xptTimer then
    let life := min 127 (bits v 31 24)
    let x := if f.lo = 24 then life else w
    a.putIf (decide (life < bits v 15 0)) off f x
  else if off = Reg.xptWin then a.put off f (max 4 (min w (s.fld off 31 16)))
  else if off = Reg.shpGateLen i0 then a.putIf (i0 != s.shp.bank) off f w
  else if off = Reg.shpGate i0 i1 then a.putIf (i0 != s.shp.bank) off f (if f.lo = 0 then max 64 w else w)
  else if off = Reg.pwrAvs then a.put off f (min (s.fld off 31 22) (max 650 w))
  else if off = Reg.plnPCfg i0 then
    if f.lo = 16 then a.putIf (decide (1 ≤ w ∧ w ≤ 16384 ∧ s.fld (Reg.plnPC0 i0) 14 0 ≤ w)) off f w
    else a.putIf (decide (64 ≤ w ∧ w ≤ 4096 ∧ w % 64 = 0)) off f w
  else if off = Reg.plnPC0 i0 then
    if f.lo = 16 then a.put off f w else a.putIf (decide (w ≤ s.fld (Reg.plnPCfg i0) 30 16)) off f w
  else if off = Reg.plnShare i0 i1 then
    let q := s.part (4 * i1 + f.lo / 8)
    a.put off f (if w = 0 ∧ q.state ≠ .free ∧ bitAt q.slices.toNat i0 then 1 else w)
  else a.put off f w

/-- What writing 1 to a WO field does (R10). -/
def WAcc.act (a : WAcc) (off : Nat) (i : List Nat) : WAcc :=
  if off = Reg.shpCtrl then
    let r := a.s.gateSwap
    { a with s := r.1, dropped := a.dropped || r.2 }
  else if off = Reg.shpHistCtrl then { a with s := { a.s with shp := { a.s.shp with clear := true } } }
  else
    { a with s := a.s.modWindow (i.headD 0) fun x =>
        if x.state = .error then { x with state := .enabled, cons := 0, errOffset := 0, errCode := 0 } else x }

/-- A writable field's rule (R545); `off` is the register's offset. -/
def WAcc.store (a : WAcc) (off : Nat) (i : List Nat) (f : Fld) (v w : Nat) : WAcc :=
  let old := a.s.fld off f.hi f.lo
  if w = old then a
  else
    match f.rule with
    | .plain => a.put off f w
    | .near lo hi => a.put off f (clamp lo hi w)
    | .nearMin lo => a.put off f (max lo w)
    | .notZero => a.putIf (w != 0) off f w
    | .enable => if w = 0 then a.drop else a.enable off
    | .lock => if w = 0 then a else a.put off f w
    | .frozenNear lo hi =>
      let x := clamp lo hi w
      if x = old then a else a.putIf (!a.s.flag (blockCtrl off) 0) off f x
    | .hook => a.hook off i f v w

/-- One field of a write (R10). A locked field's write is ignored; what the write would do decides whether it counts as one that changes the
field's value, so a value that the field's rule brings back to the one held is silent. -/
def WAcc.field (off : Nat) (i : List Nat) (v : Nat) (a : WAcc) (f : Fld) : WAcc :=
  let w := bits v f.hi f.lo
  match f.acc with
  | .ro => a
  | .wo => if w = 1 then a.act off i else a
  | .w1c => a.put off f (a.s.fld off f.hi f.lo - (a.s.fld off f.hi f.lo &&& w))
  | .rw | .rws => a.store off i f v w
  | .rwl =>
    if a.s.flag (blockLock off) 0 then
      let b := ({ a with dropped := false } : WAcc).store off i f v w
      if b.dropped || b.s.fld off f.hi f.lo != a.s.fld off f.hi f.lo then { a with locked := true } else a
    else a.store off i f v w

/-- A rule that concerns every field of a register drops the whole write (R33, R257, R545). -/
def State.wholeDropped (s : State) (off : Nat) (i : List Nat) : Bool :=
  if off = Reg.glbDeviceId then !s.portsDisabled
  else if off = Reg.plnPCfg (i.headD 0) ∨ off = Reg.plnPC0 (i.headD 0) then !s.ready (i.headD 0)
  else false

/-- A write would change some field. -/
def State.changes (s : State) (off v : Nat) (l : List Fld) : Bool := l.any fun f => bits v f.hi f.lo != s.fld off f.hi f.lo

/-- A policer's bucket is brought up to the present before its rate or size changes, and clipped after (R439). -/
def State.policerSettle (s : State) (off : Nat) (i : List Nat) : State :=
  if Reg.shpPolRate 0 0 ≤ off ∧ off < Reg.shpPCfg 0 then
    let p := i.headD 0
    let c := (off - Reg.shpPolRate 0 0) % 0x40 / 8
    { s with shp := { s.shp with buckets := aput s.shp.buckets (polKey p c) { level := s.bucket p c, at_ := s.stk.time } } }
  else s

/-- What follows from a register's new value. -/
def State.afterWrite (s : State) (off : Nat) (i : List Nat) : State :=
  if off = Reg.glbDeviceId ∧ s.idValid then (List.range 64).foldl State.tryTrain s
  else if off = Reg.stkTimeSrc then s.settleRef
  else if off = Reg.shpCtrl ∧ ¬ s.stk.running then s.takeGates
  else s.policerSettle off i

/-- A write of one register, every field by its own rule (R10, R545): at most one note. -/
def State.regWrite (s : State) (r : RegDef) (off : Nat) (i : List Nat) (v : Nat) : State :=
  if s.wholeDropped off i then
    if s.changes off v r.fields then
      (if off = Reg.glbDeviceId ∧ s.flag Reg.glbLock 0 then s.accessNote off else s.droppedNote off)
    else s
  else
    let a := r.fields.foldl (WAcc.field off i v) { s := s.policerSettle off i, locked := false, dropped := false }
    let s1 := a.s.afterWrite off i
    if a.locked then s1.accessNote off else if a.dropped then s1.droppedNote off else s1

/-- BAR0 serves an offset: not before boot, and in RECOVERY the GLB, BLT and SEC blocks alone (R499, R503). -/
def State.bar0Serves (s : State) (off : Nat) : Bool :=
  match s.sec.run with
  | .recovery => decide (off < 0x00100000 ∨ (0x02000000 ≤ off ∧ off < 0x02200000))
  | _ => true

/-- A 32-bit write within R7's pairs: the low half is kept, the pair takes effect with the high half. -/
def State.halfWrite (s : State) (off : Nat) (v : Nat) : State :=
  match findReg off with
  | none => s.accessNote off
  | some (r, i) =>
    if !s.bar0Serves off then s.accessNote off
    else if r.pairW then { s with bar := { s.bar with low := aput s.bar.low off (BitVec.ofNat 32 v) } }
    else
      match findReg (off - 4) with
      | some (l, j) =>
        if l.pairW then
          let low := match afind s.bar.low (off - 4) with | some w => w.toNat | none => s.reg (off - 4)
          (s.regWrite l (off - 4) j low).regWrite r off i v
        else s.regWrite r off i v
      | none => s.regWrite r off i v

/-- Offsets at which a 64-bit access covers a register pair (R6, R7): the pairs under R7 and the independent registers whose names end in
_LO and _HI. -/
def pairAt (off : Nat) : Bool :=
  match findReg off with
  | some (r, _) => r.pairR || r.pairW || r.base == 0x00401000 || r.base == 0x01E00008 || r.base == 0x01800410
  | none => false

/-- An access is one that R6 allows, to a register that exists (R28). -/
def accessOk (off : Nat) (bytes : Nat) : Bool :=
  (bytes == 4 && off % 4 == 0 && (findReg off).isSome) || (bytes == 8 && off % 8 == 0 && pairAt off)

/-- The device answers on PCIe: its firmware runs, and no trip holds it in reset (R499, R502, R534). -/
def State.present (s : State) : Bool := decide (s.sec.run ≠ .boot) && !s.pwr.tripped

/-- A BAR0 write of 32 bits, or of 64 bits (R6, R7, R28). -/
def State.barWrite (s : State) (off : Nat) (wide : Bool) (v : Nat) : State :=
  if !s.present then s
  else if !accessOk off (if wide then 8 else 4) then s.accessNote off
  else if wide then (s.halfWrite off (v % 2 ^ 32)).halfWrite (off + 4) (v / 2 ^ 32)
  else s.halfWrite off (v % 2 ^ 32)

/-- A 32-bit write of a register. -/
def State.writeReg (s : State) (off : Nat) (v : Word) : State := s.barWrite off false v.toNat

/-- A 32-bit write with one bit set: the rows that name a bit give the rest of the word. -/
def State.writeBit (s : State) (off bit : Nat) (v : Word) : State := s.barWrite off false (setBits v.toNat bit bit 1)

/-! ### Commands -/

/-- REGISTER_WRITE (R6, R7, R10, R28, R545). -/
def execRegisterWrite (off : Nat) (wide : Bool) (value : BitVec 64) (s : State) : Host.Outcome State Fault Refusal :=
  .next (s.barWrite off wide value.toNat)

/-- BAR0_INVALID_ACCESS (R6, R28): a read returns 0, a write is dropped, a note is posted. -/
def execBar0InvalidAccess (write : Bool) (off bytes : Nat) (s : State) : Host.Outcome State Fault Refusal :=
  if !s.present ∨ (accessOk off bytes ∧ s.bar0Serves off) then .next s
  else .next ((if write then s else s.emit (.readData (zeros bytes))).accessNote off)

/-- GLB_DEVICE_ID_WRITE (R33, R512). -/
def execGlbDeviceIdWrite (value : Word) (s : State) : Host.Outcome State Fault Refusal := .next (s.writeReg Reg.glbDeviceId value)

/-- BLOCK_LOCK_WRITE (R35 and its like). -/
def execBlockLockWrite (off : Nat) (value : Word) (s : State) : Host.Outcome State Fault Refusal :=
  if blockLock off = off then .next (s.writeReg off value) else .next s

/-- SAT_ENABLE (R100). -/
def execSatEnable (value : Word) (s : State) : Host.Outcome State Fault Refusal := .next (s.writeBit Reg.satCtrl 0 value)

/-- KVA_ENABLE (R134). -/
def execKvaEnable (value : Word) (s : State) : Host.Outcome State Fault Refusal := .next (s.writeBit Reg.kvaCtrl 0 value)

/-- MEM_ENABLE (R264). -/
def execMemEnable (value : Word) (s : State) : Host.Outcome State Fault Refusal := .next (s.writeBit Reg.memCtrl 0 value)

/-- CDC_ENABLE (R306). -/
def execCdcEnable (value : Word) (s : State) : Host.Outcome State Fault Refusal := .next (s.writeBit Reg.cdcCtrl 0 value)

/-- FLS_ENABLE (R321, R335). -/
def execFlsEnable (value : Word) (s : State) : Host.Outcome State Fault Refusal := .next (s.writeBit Reg.flsCtrl 0 value)

/-- XPT_ENABLE (R383, R416). -/
def execXptEnable (value : Word) (s : State) : Host.Outcome State Fault Refusal := .next (s.writeBit Reg.xptCtrl 0 value)

/-- PLN_ENABLE (R252). -/
def execPlnEnable (value : Word) (s : State) : Host.Outcome State Fault Refusal := .next (s.writeBit Reg.plnCtrl 0 value)

/-- LNK_ENABLE (R375). -/
def execLnkEnable (value : Word) (s : State) : Host.Outcome State Fault Refusal := .next (s.writeBit Reg.lnkCtrl 0 value)

/-- SHP_ENABLE (R435). -/
def execShpEnable (value : Word) (s : State) : Host.Outcome State Fault Refusal := .next (s.writeBit Reg.shpCtrl 0 value)

/-- CMD_ENABLE (R448, R468). -/
def execCmdEnable (value : Word) (s : State) : Host.Outcome State Fault Refusal := .next (s.writeBit Reg.cmdCtrl 0 value)

/-- PORT_CTRL_WRITE (R369, R371, R379). -/
def execPortCtrlWrite (port : Fin 64) (value : Word) (s : State) : Host.Outcome State Fault Refusal :=
  .next (s.writeReg (Reg.lnkPCtrl port.val) value)

/-- GATE_BANK_SWAP (R429). -/
def execGateBankSwap (value : Word) (s : State) : Host.Outcome State Fault Refusal := .next (s.writeBit Reg.shpCtrl 3 value)

/-- HIST_CLEAR (R432). -/
def execHistClear (value : Word) (s : State) : Host.Outcome State Fault Refusal := .next (s.writeBit Reg.shpHistCtrl 1 value)

/-- WINDOW_RESET (R447, R448, R470): through the status page a 4-byte write of 1 while STATE is ERROR, or through CMD_W. -/
def execWindowReset (window : Fin 32) (viaBar0 : Bool) (value : Word) (s : State) : Host.Outcome State Fault Refusal :=
  if viaBar0 then .next (s.writeBit (Reg.cmdW window.val) 31 value)
  else if value = 1 ∧ (s.window window.val).state = .error then
    .next (s.modWindow window.val fun x => { x with state := .enabled, cons := 0, errOffset := 0, errCode := 0 })
  else .next s

/-- FAULTN_HOLD_WRITE (R483, R487). -/
def execFaultnHoldWrite (value : Word) (s : State) : Host.Outcome State Fault Refusal := .next (s.writeReg Reg.bltFaultn value)

/-- CORE_ISOLATE (R34, R212). -/
def execCoreIsolate (core : Fin 128) (value : Word) (s : State) : Host.Outcome State Fault Refusal :=
  .next (s.writeBit (Reg.coreCtrl core.val) 0 value)

/-- CODEC_GROUP_ISOLATE (R310). -/
def execCodecGroupIsolate (group : Fin 16) (value : Word) (s : State) : Host.Outcome State Fault Refusal :=
  .next (s.writeBit (Reg.cdcGroup group.val) 31 value)

/-- PLN_P_CFG_WRITE (R257). -/
def execPlnPCfgWrite (part : Fin 16) (c0 : Bool) (value : Word) (s : State) : Host.Outcome State Fault Refusal :=
  .next (s.writeReg (if c0 then Reg.plnPC0 part.val else Reg.plnPCfg part.val) value)

end Sys2Proof.Machine
end

