-- ==== Sys2Proof/Machine/Resume.lean ====
section
/-!
DEFINITION. Machine/Resume.lean: open faults resumed, aborted and timed out (R279 to R284), and the end of a partition's restore (R250).
-/
namespace Sys2Proof.Machine

/-- A fault is no longer open. -/
def State.closeFault (s : State) (id : Nat) : State := { s with memory := { s.memory with faults := adel s.memory.faults id } }

/-- A command is no longer parked on a fault; what an abort adds is `f`. -/
def State.freeCmd (s : State) (core unit seq id : Nat) (f : CoreCmd → CoreCmd) : State :=
  match s.cmdAt core unit seq with
  | some c => s.putCmd core unit (f { c with parked := c.parked.erase id })
  | none => s

/-- A queue is no longer parked on a fault. -/
def State.freeQueue (s : State) (q id : Nat) : State :=
  { s with xpt := { s.xpt with queues := amod s.xpt.queues q fun x => { x with parked := x.parked.erase id } } }

/-- A packet leaves the fault buffer: the connection and packet that an action is for. -/
def State.takeParked (s : State) (conn id : Nat) : State × Option (Conn × Packet) :=
  let s1 : State := { s with xpt := { s.xpt with parked := adel s.xpt.parked id } }
  match s.conn conn, afind s.xpt.parked id with
  | some c, some p => (s1, some (c, p))
  | _, _ => (s1, none)

/-- The KV context of a satchel on this device (log entry 5). -/
def State.ctxOfId (s : State) (id : SatchelId) (p : Fin 16) : Option Nat :=
  match s.findSlot id with
  | some k => some (ctxOfSlot k)
  | none => (s.sat.satellites.find? fun e => e.2.id == id && e.2.part == p).map fun e => ctxOfSatellite e.1

/-- RETRY (R281): the unit walks again; a new failure opens a new fault. -/
def State.retryFault (s : State) (id : Nat) : State :=
  match afind s.memory.faults id with
  | none => s
  | some f =>
    let s1 := s.closeFault id
    match f.unit with
    | .entry core unit seq _ => s1.freeCmd core unit seq id fun c => c
    | .tile core unit seq _ => s1.freeCmd core unit seq id fun c => c
    | .thread core th => s1.modThread (threadKey core th) fun t => if t.state = .waitAccess then { t with state := .running } else t
    | .descriptor q _ _ => s1.freeQueue q id
    | .packet _ k _ =>
      match s1.takeParked k id with
      | (s2, some (c, p)) =>
        match p.body with
        | .getData h data => s2.landGetData k c p h data
        | _ => s2.land k c p
      | (s2, none) => s2

/-- The cause with which an aborted thread traps (R196, R281): an instruction, load, or store or atomic access fault. -/
def Access.cause : Access → Nat
  | .read => causeLoad
  | .fetch => 1
  | .write => causeStore
  | .atomic => causeStore

/-- A descriptor ends with PROTECTION (R281): one whose result could not be written keeps its place with that status; one that was not yet
issued is taken and completes. -/
def State.abortEntry (s : State) (q index done : Nat) : State :=
  match afind s.xpt.queues q with
  | none => s
  | some x =>
    if done = 1 then
      (match s.xpt.ops.find? fun o => o.2.origin == .queue q index with
       | some o => s.modOp o.1 fun y => { y with status := .protection }
       | none => s)
    else
      match s.freeTag with
      | none => s.tookEntry q
      | some tag =>
        match s.readVa x.part.val .thread (x.entryVa index) 64 with
        | (s1, .ok l) => s1.entryEnds q tag ((XDesc.ofBytes l).op_ q index x) .protection
        | (s1, .error _) => s1.entryEnds q tag ((XDesc.ofBytes (zeros 64)).op_ q index x) .protection

/-- ABORT (R279, R281): the unit ends. An entry ends its satchel with PROTECTION and a level 1 fault; a tile makes its command end with
PROTECTION; a thread traps; a descriptor completes with PROTECTION; a packet is refused. -/
def State.abortFault (s : State) (id : Nat) : State :=
  match afind s.memory.faults id with
  | none => s
  | some f =>
    let s1 := s.closeFault id
    match f.unit with
    | .entry core unit seq e =>
      let addr := match s1.cmdAt core unit seq with | some c => c.addr | none => 0
      let s2 := match s1.ctxOfId f.satchel f.part with
        | some k => s1.endEntry k (fault core 0x402 1 addr) .protection
        | none => s1
      s2.freeCmd core unit seq id fun c => { c with gone := e :: c.gone }
    | .tile core unit seq t =>
      s1.freeCmd core unit seq id fun c => { c with aborted := true, served := t * 16385 :: c.served }
    | .thread core th => s1.trap core th f.access.cause (s1.thread (threadKey core th)).pc (BitVec.ofNat 64 f.va)
    | .descriptor q i d => (s1.freeQueue q id).abortEntry q i d
    | .packet _ k _ =>
      match s1.takeParked k id with
      | (s2, some (_, p)) => s2.refuse k p .protection
      | (s2, none) => s2

/-- A partition is between its suspension and the end of its restore (R250, R284). -/
def State.held (s : State) (p : Nat) : Bool :=
  match (s.part p).state with
  | .suspending | .suspended => true
  | .resuming => !(s.part p).readyAt
  | _ => false

/-- A function may not resume a fault of stage 2 or of another partition (R281). -/
def OpenFault.barred (f : OpenFault) : Option (Fin 16) → Bool
  | none => false
  | some p => f.stage != 1 || f.part != p

/-- FAULT_RESUME (R281, R284). -/
def execFaultResume (h : Header) (faultId : BitVec 16) (action : Nat) (rsv : Nat) (s : State) : Host.Outcome State Fault Refusal :=
  .next (s.serve { op := 0x0800, replies := 1, vf := true, tenant := false, params := 4, rsv := rsv, addrs := 0, localOnly := false } h false
    fun r x =>
      if 1 < action then x.done r .badField
      else
        match afind x.memory.faults faultId.toNat with
        | none => x.done r .alreadyDone
        | some f =>
          if f.barred h.origin.partition then x.done r .protection
          else if x.held f.part.val then
            (let y : State := { x with memory := { x.memory with
               faults := aput x.memory.faults faultId.toNat { f with recorded := some (action == 0) } } }
             y.done r .ok)
          else if action = 0 then (x.retryFault faultId.toNat).done r .ok
          else (x.abortFault faultId.toNat).done r .ok)

/-- FAULT_TIMEOUT (R5, R281): TIMEOUT stroke periods after its record a fault is aborted; the timer does not run while its partition is suspended. -/
def execFaultTimeout (faultId : BitVec 16) (s : State) : Host.Outcome State Fault Refusal :=
  match afind s.memory.faults faultId.toNat with
  | none => .next s
  | some f =>
    if s.held f.part.val = false ∧ f.posted + s.strokes (max 1 (s.fld Reg.memFaultCfg 7 0)) ≤ s.stk.time then .next (s.abortFault faultId.toNat)
    else .next s

/-! ### The end of a restore (R250, R284) -/

/-- The faults of a partition that its save area holds: all but the packets in fault buffers. -/
def State.savedFaults (s : State) (p : Nat) : List (Nat × OpenFault) :=
  s.memory.faults.filter fun e => e.2.part.val == p && (match e.2.unit with | .packet .. => false | _ => true)

/-- What was not saved is lost (R284): threads restart at PROG_OFF, with empty queues and no parked units. -/
def State.restartPart (s : State) (p : Nat) : State :=
  let s1 := (s.savedFaults p).foldl (fun (a : State) e =>
    match e.2.unit with
    | .descriptor q _ _ => (a.freeQueue q e.1).closeFault e.1
    | _ => a.closeFault e.1) s
  (s1.clearCores p (s.part p).slices.toNat).startThreads p

/-- Actions recorded while the partition was suspended (R284). -/
def State.applyRecorded (s : State) (p : Nat) : State :=
  s.memory.faults.foldl (fun (a : State) e =>
    if e.2.part.val = p then
      (match e.2.recorded with
       | some true => a.retryFault e.1
       | some false => a.abortFault e.1
       | none => a)
    else a) s

/-- Faults do not age while their partition is suspended (R281). -/
def State.ageFaults (s : State) (p time : Nat) : State :=
  { s with memory := { s.memory with
      faults := amap (fun f => if f.part.val = p then { f with posted := f.posted + time } else f) s.memory.faults } }

/-- RESUME_RESTORE_COMPLETE (R157, R250, R281, R284): the partition's state is back; it plans again from the next boundary. -/
def execResumeRestoreComplete (part : Fin 16) (s : State) : Host.Outcome State Fault Refusal :=
  let p := part.val
  let q := s.part p
  if q.state ≠ .resuming ∨ q.readyAt = true then .next s
  else
    let s1 := ((if q.saveLost then s.restartPart p else s.loadCores p).restorePins p).ageFaults p (s.stk.time - q.suspAt)
    .next ((s1.modPart p fun y => { y with readyAt := true }).applyRecorded p)

end Sys2Proof.Machine
end

