-- ==== Sys2Proof/Machine/Attach.lean ====
section
/-!
DEFINITION. Machine/Attach.lean: the PCIe functions, their resets and drains, and accesses through BAR4 (chapter 16).
-/
namespace Sys2Proof.Machine

/-! ### Drains of functions (R495 to R497) -/

/-- The windows of a function (R443). -/
def fnWindows (k : Nat) : List Nat := if k = 0 then List.range 16 else [15 + k]

/-- The windows of a function drain (R448); an enable that was latched is cancelled (R497). -/
def State.drainWindows (s : State) (k : Nat) : State :=
  (fnWindows k).foldl (fun (a : State) w => a.modWindow w fun x =>
    match x.state with
    | .enabled | .error => { x with state := .draining }
    | .draining => { x with pend := false }
    | .disabled => x) s

/-- An operation in flight reaches host memory through its partition's function. -/
def State.hostBound (s : State) (o : XOp) : Bool :=
  match (s.xlateRange o.part.val .thread .read o.laddr (max 1 o.len)).2 with
  | .ok l => l.any fun q => match s.memory.target q.1 with | .host _ => true | _ => false
  | .error _ => false

/-- Satchels of a partition with rows in the host swap area, whose return was not requested. -/
def State.hostReturners (s : State) (p : Nat) : List (Nat × Sat) :=
  s.sat.sats.filter fun e => e.2.part.val == p && e.2.has .swapHost

/-- Steps 2 to 4 of R495 for the function of partition p: operations on host addresses end with TIER_ERROR, rows in host swap are requested
back, open stage 1 faults are aborted. -/
def State.drainPart (s : State) (p : Nat) : State :=
  let ops := s.xpt.ops.filter fun o => !o.2.done && o.2.part.val == p && s.hostBound o.2
  let s1 := ops.foldl (fun (a : State) o => a.opDone o.1 .tierError []) s
  let s2 := s1.requestReturns (s1.hostReturners p)
  (s2.memory.faults.filter fun f => f.2.part.val == p && f.2.stage == 1).foldl (fun (a : State) f => a.abortFault f.1) s2

/-- A function begins to drain (R495, R496). -/
def State.flrDrain (s : State) (k : Nat) : State :=
  let s1 := (s.modFn k fun f => { f with draining := true, pend := false }).drainWindows k
  if k = 0 then s1 else s1.drainPart (k - 1)

/-- The virtual functions. -/
def vfs : List Nat := (List.range 16).map fun k => k + 1

/-- PF0 clears VF Enable (R496, R497): every enabled virtual function drains; an enable that was latched is cancelled. -/
def State.clearVfs (s : State) : State :=
  vfs.foldl (fun (a : State) k =>
    let f := a.fn k
    let b := a.modFn k fun g => { g with enabled := false, pend := false }
    if f.enabled && !f.draining then b.flrDrain k else b) s

/-- A ring is destroyed (R453, R460, R495): the stream records that waited for it are dropped and counted. -/
def State.destroyRing (s : State) (key : Nat) : State :=
  match afind s.cmd.rings key with
  | none => s
  | some r =>
    let n := r.backlog.length
    let s1 : State := { s with cmd := { s.cmd with rings := adel s.cmd.rings key } }
    if ringKind key = .stream ∧ n ≠ 0 then
      let s2 := s1.count Reg.cmdCntDrop n
      { s2 with cmd := { s2.cmd with drops := aput s2.cmd.drops key (agetD s2.cmd.drops key 0 + n) } }
    else s1

/-- The rings of a function. -/
def State.ringsOf (s : State) (k : Nat) : List Nat := (s.cmd.rings.map fun e => e.1).filter fun i => ringFn i == k

/-- The condition of R448 that enables a window holds. -/
def State.windowWanted (s : State) (w : Nat) : Bool :=
  if w < 16 then s.flag Reg.cmdCtrl 0
  else (s.fn (partFn (w - 16))).enabled && decide ((s.part (w - 16)).state ≠ .free ∧ (s.part (w - 16)).state ≠ .draining)

/-- A drain ends (R495, R497): the function's rings and MSI-X state go, a latched enable takes effect, and a window whose condition holds
starts again at offset 0. -/
def State.flrDone (s : State) (k : Nat) : State :=
  let s1 := (s.ringsOf k).foldl State.destroyRing s
  let other (e : Nat × Unit) : Bool := e.1 / 2048 != k
  let s2 : State := { s1 with host := { s1.host with masked := s1.host.masked.filter other, pba := s1.host.pba.filter other } }
  let s3 := s2.modFn k fun f => { enabled := f.enabled || f.pend, draining := false, pend := false }
  (fnWindows k).foldl (fun (a : State) w => a.modWindow w fun x =>
    if x.state = .draining then
      { x with state := if a.windowWanted w then .enabled else .disabled, cons := 0, errOffset := 0, errCode := 0, resv := 0, pend := false }
    else x) s3

/-- FLR_VF (R495). -/
def execFlrVf (part : Fin 16) (s : State) : Host.Outcome State Fault Refusal :=
  let k := partFn part.val
  if s.present && (s.fn k).enabled && !(s.fn k).draining then .next (s.flrDrain k) else .next s

/-- FLR_PF0 (R496): an FLR of PF0, a Hot Reset, or the link going down. -/
def execFlrPf0 (s : State) : Host.Outcome State Fault Refusal :=
  if !s.present then .next s
  else .next (if (s.fn 0).draining then s else s.flrDrain 0).clearVfs

/-- FLR_DRAIN_COMPLETE (R495): not while rows of the partition are in host swap. -/
def execFlrDrainComplete (fn : Fin 17) (s : State) : Host.Outcome State Fault Refusal :=
  let k := fn.val
  if !(s.fn k).draining || (k != 0 && !(s.hostReturners (k - 1)).isEmpty) then .next s else .next (s.flrDone k)

/-- FLR_SWAP_TIMEOUT (R133, R495): 1 s after the FLR a row is still in host swap. -/
def execFlrSwapTimeout (id : SatchelId) (row : Nat) (s : State) : Host.Outcome State Fault Refusal :=
  match s.findSlot id with
  | none => .next s
  | some slot => .next (s.withSlot slot fun x =>
      match x.rows[row]? with
      | some r => if r.kind = .swapHost ∧ (s.fn (partFn x.part.val)).draining = true then s.lowerTier slot else s
      | none => s)

/-- VF_ENABLE (R494, R497): virtual functions 1 to NumVFs come up, a draining one when its drain ends; cleared, every one drains. -/
def execVfEnable (on : Bool) (numVfs : Nat) (s : State) : Host.Outcome State Fault Refusal :=
  if !s.present then .next s
  else if !on then .next s.clearVfs
  else if vfs.any (fun k => (s.fn k).enabled || (s.fn k).pend) then .next s
  else
    .next ((vfs.filter fun k => decide (k ≤ numVfs)).foldl (fun (a : State) k =>
      if (a.fn k).draining then a.modFn k fun f => { f with pend := true }
      else
        let b := a.modFn k fun f => { f with enabled := true }
        b.modWindow (15 + k) fun x =>
          if x.state = .disabled ∧ b.windowWanted (15 + k) = true then { x with state := .enabled, cons := 0 } else x) s)

/-! ### BAR4 (R491, R492) -/

/-- The physical address that a BAR4 access reaches (R491, R492): none where there is no backing memory. -/
def State.bar4Pa (s : State) (k : Nat) (upper : Bool) (acc : Access) (off : Nat) : Option Nat :=
  if k = 0 then (if off < s.memory.usableGib * 2 ^ 30 then some off else none)
  else if 2 ^ 39 ≤ off ∨ (s.part (k - 1)).state = .free then none
  else if upper then s.deviceWindow (k - 1) .thread acc (0x030000000000 + off)
  else
    match s.stage2 (k - 1) acc off with
    | (.pa a, _) => if s.memory.target a = .t1 ∧ s.poolBytes ≤ a then some a else none
    | _ => none

/-- BAR4_ACCESS (R492): a request of the PCI Express link, which crosses no 4 KiB boundary. -/
def execBar4Access (fn : Fin 17) (write upper : Bool) (off : Nat) (data : List Byte) (bytes : Nat) (s : State) :
    Host.Outcome State Fault Refusal :=
  let k := fn.val
  let n := if write then data.length else bytes
  if !s.present || decide (s.sec.run = .recovery) || !(s.fn k).enabled || (s.fn k).draining || decide (4096 < off % 4096 + n) || n == 0 then
    .next s
  else
    match s.bar4Pa k upper (if write then .write else .read) off with
    | none => .next ((if write then s else s.emit (.readData (zeros n))).accessNote off)
    | some a =>
      if write then .next (s.writePa k a data)
      else if s.memory.poisoned a n then
        .next ({ s with freeCtr := s.freeCtr + n }.emit (.readData (freeBytes s.freeCtr n)))
      else
        let r := s.readPa k a n
        .next (r.1.emit (.readData r.2))

end Sys2Proof.Machine
end

