-- ==== Sys2Proof/Machine/Boot.lean ====
section
/-!
DEFINITION. Machine/Boot.lean: resets of the device, the ROM's boot, measurements, and the firmware's update (chapter 16).
-/
namespace Sys2Proof.Machine

/-! ### Resets (R9, R31, R498, R509) -/

/-- What flash keeps without power (R315 to R322, R498): units, headers, blocks, extents, the durable journal and the checkpoint. -/
def Fls.kept (f : Fls) : Fls :=
  { Fls.reset with
    op := f.op, userUnits := f.userUnits, data := f.data, hdrs := f.hdrs, ring := f.ring, lastDurable := f.lastDurable,
    nextSeq := f.nextSeq, checkpoint := f.checkpoint, dirty := f.dirty, spareAtFormat := f.spareAtFormat, retired := f.retired,
    eraseBase := f.eraseBase, closed := f.closed, tempMax := f.tempMax, health := f.health,
    blocks := f.blocks, parity := f.parity, lostDies := f.lostDies,
    extents := amap (fun e => { e with deleting := none }) f.extents }

/-- The state after a reset: what outlives power is kept. `out`, the free values' counter and the waiting commands are the model's own. -/
def State.afterReset (s : State) (board : Board) (regs : Assoc Word) : State :=
  { State.reset with
    board := board, bar := { Bar0.reset with regs := regs }, fls := s.fls.kept,
    sec := { Sec.reset with slots := s.sec.slots, primaryB := s.sec.primaryB, trial := s.sec.trial, attempted := s.sec.attempted,
                            fuses := s.sec.fuses },
    host := { HostIf.reset with mem := s.host.mem }, out := s.out, freeCtr := s.freeCtr, pending := s.pending }

/-- Fuses only ever gain (R498, R502, R504): versions, revocations, key slots; a key slot's digest and the device secret do not change. -/
def Fuses.merge (a b : Fuses) : Fuses :=
  { svn := max a.svn (b.svn % 64), secret := if a.secret = 0 then b.secret else a.secret, present := a.present ||| b.present, revoked := a.revoked ||| b.revoked,
    digests := (List.range 4).map fun k => if bitAt a.present.val k then a.digests.getD k 0 else b.digests.getD k 0 }

/-- COLD_RESET (R9, R31, R498): power-on or SYS_RESET_N; the straps and the board are sampled (log entry 2). -/
def execColdReset (board : Board) (fuses : Fuses) (s : State) : Host.Outcome State Fault Refusal :=
  let member_ := setBits (resetWord Reg.glbDeviceId) 4 0 board.strap.toNat
  let s1 := s.afterReset board [(Reg.glbDeviceId, BitVec.ofNat 32 member_)]
  .next { s1 with sec := { s1.sec with
    fuses := s1.sec.fuses.merge fuses,
    slots := match board.flash with | some l => [l.getD 0 none, l.getD 1 none] | none => s1.sec.slots } }

/-- What a register holds after a warm reset (R10, R498): RWS and RWL fields keep their value. -/
def keepWord (off : Nat) (w : Word) : Word :=
  match findReg off with
  | some (r, _) => BitVec.ofNat 32 (r.fields.foldl (fun v f =>
      if f.acc = .rws ∨ f.acc = .rwl then setBits v f.hi f.lo (bits w.toNat f.hi f.lo) else v) (fieldsReset r.fields))
  | none => 0

/-- WARM_RESET (R9, R498, R509): PERST_N. A valid debug token takes effect: debug opens, measurement 5 is extended, SECURITY is posted. -/
def execWarmReset (s : State) : Host.Outcome State Fault Refusal :=
  if s.pwr.tripped then .next s
  else
    let s1 := s.afterReset s.board (s.bar.regs.map fun e => (e.1, keepWord e.1 e.2))
    let s2 : State := { s1 with blt := { s1.blt with seq := s.blt.seq, log := s.blt.log } }
    let old := agetD s.sec.meas 5 0
    if s.sec.debugPending then
      let new := Config.sha3 (leBytes 64 old.toNat ++ freeBytes s.freeCtr 64)
      let s3 : State := { s2 with freeCtr := s2.freeCtr + 64, sec := { s2.sec with debugOpen := true, meas := [(5, new)] } }
      .next (s3.post (fault 0x3F0 0x901 2 4))
    else .next { s2 with sec := { s2.sec with meas := if old = 0 then [] else [(5, old)] } }

/-! ### Boot (R500 to R503) -/

/-- KEY_SLOT of R501. -/
def Image.keySlot (im : Image) : Nat := fieldAt im.header 0x006 1

/-- SVN of R501. -/
def Image.svn (im : Image) : Nat := fieldAt im.header 0x007 1

/-- FW_VERSION of R501. -/
def Image.version (im : Image) : Word := BitVec.ofNat 32 (fieldAt im.header 0x008 4)

/-- IMAGE_LEN of R501. -/
def Image.length (im : Image) : Nat := fieldAt im.header 0x00C 4

/-- N_COMP of R501. -/
def Image.comps (im : Image) : Nat := fieldAt im.header 0x010 2

/-- A field of COMP[i] (R501). -/
def Image.comp (im : Image) (i off n : Nat) : Nat := fieldAt im.header (0x020 + 80 * i + off) n

/-- The header is well formed (R501, R502): each field in its range, reserved bytes and unused entries zero, every component within the image. -/
def Image.headerOk (im : Image) : Bool :=
  fieldAt im.header 0x000 4 == 0x38384C58 && fieldAt im.header 0x004 2 == 1 && decide (im.keySlot < 4) && decide (im.svn < 64) &&
    decide (im.length ≤ 16256 * 1024) && decide (1 ≤ im.comps ∧ im.comps ≤ 16) && fieldAt im.header 0x012 14 == 0 &&
    (List.range 16).all fun i =>
      if i < im.comps then
        let kind := im.comp i 0 2
        decide (1 ≤ kind ∧ kind ≤ 3) && im.comp i 2 2 == 0 && decide (0x3000 ≤ im.comp i 4 4 ∧ im.comp i 4 4 + im.comp i 8 4 ≤ im.length)
      else im.comp i 0 80 == 0

/-- DIGEST of COMP[i] (R501). -/
def Image.digest (im : Image) (i : Nat) : BitVec 512 := BitVec.ofNat 512 (im.comp i 16 64)

/-- Every component's SHA3-512 equals its DIGEST (R502). -/
def Image.compsOk (im : Image) : Bool := (List.range im.comps).all fun i => im.digests[i]? == some (im.digest i)

/-- The digest of the component of a kind: 1 the firmware, 2 the NAND qualification table (R501, R505). -/
def Image.ofKind (im : Image) (kind : Nat) : BitVec 512 :=
  match (List.range im.comps).find? fun i => im.comp i 0 2 == kind with
  | some i => im.digest i
  | none => 0

/-- The key slot holds the digest of the image's PUBLIC_KEY and is not revoked, its SVN is not below the fused one, and SIGNATURE verifies (R502). -/
def Fuses.trusts (f : Fuses) (im : Image) : Bool :=
  bitAt f.present.val im.keySlot && !bitAt f.revoked.val im.keySlot && f.digests.getD im.keySlot 0 == im.keyDigest && decide (f.svn ≤ im.svn) &&
    im.sigOk

/-- A slot passes step 2 of R502. -/
def Fuses.passes (f : Fuses) (slot : Option Image) : Bool := slot.any fun im => im.headerOk && f.trusts im && im.compsOk

/-- The image in a slot: A is false, B is true (R500). -/
def Sec.slot (c : Sec) (b : Bool) : Option Image := c.slots.getD (b2n b) none

/-- Replace a slot's contents. -/
def Sec.setSlot (c : Sec) (b : Bool) (im : Option Image) : Sec :=
  { c with slots := [if b then c.slots.getD 0 none else im, if b then im else c.slots.getD 1 none] }

/-- The key pair of a layer (R504): the first 32 bytes of its seed, as SHA3-512 gives them, seed key generation. -/
def keysOf (seed : BitVec 512) : List Byte × List Byte := Config.mlDsaKeys ((leBytes 64 seed.toNat).take 32)

/-- The keys of R504: the DeviceID seed of the secret and the ROM, the Alias seed of the DeviceID seed and measurement 2, and the Alias certificate,
signed with the DeviceID key. -/
def Sec.deriveKeys (c : Sec) : Sec :=
  let dev := Config.sha3 (leBytes 32 c.fuses.secret.toNat ++ leBytes 64 Config.romDigest.toNat)
  let ali := Config.sha3 (leBytes 64 dev.toNat ++ leBytes 64 (agetD c.meas 2 0).toNat)
  { c with deviceSeed := dev, aliasSeed := ali, aliasCert := Config.aliasCertificate (keysOf dev).1 (keysOf ali).2 }

/-- An image runs: it is loaded and measured, and the keys are derived (R502, R504, R505). -/
def Sec.runImage (c : Sec) (b : Bool) : Sec :=
  match c.slot b with
  | none => c
  | some im =>
    { c with running := some im, slotB := b,
             meas := aput (aput (aput c.meas 1 Config.romDigest) 2 (im.ofKind 1)) 3 (im.ofKind 2) }.deriveKeys

/-- BOOT (R502, R503, R510): the first slot that passes runs; the device enters STANDBY and blocks that are enabled come into service
(R498). Where neither passes it enters RECOVERY. -/
def execBoot (nonce : BitVec 128) (s : State) : Host.Outcome State Fault Refusal :=
  if s.sec.run ≠ .boot ∨ s.pwr.tripped = true then .next s
  else
    let c := s.sec
    let first := if c.trial && c.attempted then !c.primaryB else c.primaryB
    let c1 : Sec := { c with attempted := c.attempted || c.trial, bootNonce := nonce, extNonce := 0 }
    if c.fuses.passes (c.slot first) then .next { s with sec := { c1.runImage first with run := .standby } }.bringUp
    else if c.fuses.passes (c.slot !first) then
      .next ({ s with sec := { c1.runImage !first with run := .standby, fallback := true } }.post (fault 0x3F0 0x901 2 1)).bringUp
    else .next { s with sec := { c1 with run := .recovery, meas := aput c1.meas 1 Config.romDigest } }

/-! ### Measurements (R505) -/

/-- The lock bits of every block (R505). -/
def State.lockBits (s : State) : Nat :=
  maskOf ((((List.range 128).map Reg.coreLock ++
    [Reg.glbLock, Reg.stkLock, Reg.cmdLock, Reg.satLock, Reg.kvaLock, Reg.plnLock, Reg.memLock, Reg.cdcLock, Reg.flsLock, Reg.lnkLock,
     Reg.xptLock, Reg.shpLock, Reg.bltLock, Reg.secLock, Reg.pwrLock]).zipIdx.filter fun e => s.flag e.1 0).map fun e => e.2)

/-- The digest of an index (R505, R524). -/
def State.measurement (s : State) (i : Nat) : BitVec 512 :=
  if i = 4 then
    Config.sha3 (leBytes 4 (s.reg Reg.secCtrl) ++ leBytes 18 s.lockBits ++ leBytes 1 s.sec.fuses.svn ++ leBytes 1 s.sec.fuses.revoked.val)
  else if 16 ≤ i ∧ i < 32 then
    let q := s.part (i - 16)
    if q.state = .free then 0
    else Config.sha3 (leBytes 2 q.modelId.toNat ++ leBytes 8 (match q.image with | some im => im.check.toNat | none => 0) ++ leBytes 2 q.shard)
  else if i = 1 ∨ i = 2 ∨ i = 3 ∨ i = 5 then agetD s.sec.meas i 0
  else 0

/-- The indices of R505. -/
def measured : List Nat := [1, 2, 3, 4, 5] ++ (List.range 16).map fun p => 16 + p

/-! ### Firmware update (R517, R518) -/

/-- The running image awaits confirmation (R522). -/
def Sec.runningTrial (c : Sec) : Bool := c.trial && c.slotB == c.primaryB

/-- FW_STAGE (R15, R517): the image is to go to the slot that is not running; its verification ends in FW_STAGE_COMPLETE. -/
def execFwStage (h : Header) (srcAddr : BitVec 64) (length : Nat) (image : Image) (rsv : Nat) (s : State) :
    Host.Outcome State Fault Refusal :=
  .next (s.serve { op := 0x0902, replies := 2, vf := false, tenant := false, params := 16, rsv := rsv, addrs := srcAddr.toNat, localOnly := false }
    h false fun r x =>
      if 16256 * 1024 < length then x.done r .badLength
      else if x.sec.staging.isSome then x.done r .noResource
      else
        let a := x.accepted r
        { a.1 with sec := { a.1.sec with staging := some { reply := a.2, image := image } } })

/-- Why a staged image is refused (R517): its key, signature or version; a header or a component that is not well formed. -/
def Fuses.refusal (f : Fuses) (im : Image) : Option Status :=
  if !im.headerOk then some .badField
  else if !f.trusts im then some .protection
  else if !im.compsOk then some .badCheck
  else .none

/-- FW_STAGE_COMPLETE (R15, R517): the image stands in the slot that is not running and is STAGED; one that is refused has no effect. -/
def execFwStageComplete (s : State) : Host.Outcome State Fault Refusal :=
  match s.sec.staging with
  | none => .next s
  | some g =>
    let s1 : State := { s with sec := { s.sec with staging := none } }
    match s.sec.fuses.refusal g.image with
    | none => .next ({ s1 with sec := { (s1.sec.setSlot (!s1.sec.slotB) (some g.image)) with staged := true } }.done g.reply .ok)
    | some .protection => .next ((s1.count Reg.secCntAuth 1).done g.reply .protection)
    | some st => .next (s1.done g.reply st)

/-- The selector names the staged slot, on trial (R517). -/
def Sec.selectStaged (c : Sec) : Sec := { c with primaryB := !c.slotB, trial := true, attempted := false }

/-- FW_ACTIVATE (R517, R518). -/
def execFwActivate (h : Header) (mode : Nat) (rsv : Nat) (s : State) : Host.Outcome State Fault Refusal :=
  .next (s.serve { op := 0x0903, replies := if mode = 1 then 2 else 1, vf := false, tenant := false, params := 8, rsv := rsv, addrs := 0,
                   localOnly := false } h false fun r x =>
    let c := x.sec
    match mode with
    | 0 => if c.staged then ({ x with sec := c.selectStaged }).done r .ok else x.done r .badField
    | 1 =>
      match c.staged, c.slot (!c.slotB) with
      | true, some im =>
        let a := x.accepted r
        { a.1 with sec := { a.1.sec with activating := some { reply := a.2, image := im } } }
      | _, _ => x.done r .badField
    | 2 => if c.runningTrial then ({ x with sec := { c with trial := false } }).done r .ok else x.done r .alreadyDone
    | 3 =>
      if c.runningTrial then x.done r .badField
      else
        let v := match c.running with | some im => im.svn | none => 0
        if v ≤ c.fuses.svn then x.done r .alreadyDone
        else ({ x with sec := { c with fuses := { c.fuses with svn := v } } }).done r .ok
    | _ => x.done r .badField)

/-- LIVE_ACTIVATION_COMPLETE (R518): the harts run the staged image, or returned to the one before: INTERNAL, with the fault that goes with it. -/
def execLiveActivationComplete (started : Bool) (s : State) : Host.Outcome State Fault Refusal :=
  match s.sec.activating with
  | none => .next s
  | some g =>
    if started then
      let c := s.sec.selectStaged
      let b := !c.slotB
      .next ({ s with sec := { c.runImage b with activating := none, staged := false } }.done g.reply .ok)
    else
      let f := s.free
      let s1 : State := { f.2 with sec := { f.2.sec with activating := none } }
      .next ((s1.post { fault 0x3F0 0xF01 2 f.1 with status := .internal }).done g.reply .internal)

end Sys2Proof.Machine
end

