-- ==== Sys2Proof/Machine/Secure.lean ====
section
/-!
DEFINITION. Machine/Secure.lean: identity, tenant keys, debug tokens, SPDM, PLDM and MCTP (chapter 16).
-/
namespace Sys2Proof.Machine

/-! ### Identity (R508) -/

/-- Draw n free bytes (log entry 1). -/
def State.drawBytes (s : State) (n : Nat) : State × List Byte := ({ s with freeCtr := s.freeCtr + n }, freeBytes s.freeCtr n)

/-- The identity area's chain to the DeviceID certificate (R500). -/
def deviceChain : List Byte := Config.identityChain.take 65536

/-- The chain of certificate slot 0 (R506). -/
def Sec.chain (c : Sec) : List Byte := deviceChain ++ c.aliasCert

/-- The item of IDENTITY_GET (R504, R505, R508): the measurements are the digests in ascending index. -/
def State.identity (s : State) (select : Nat) : List Byte :=
  match select with
  | 0 => deviceChain
  | 1 => s.sec.aliasCert
  | _ => (measured.map fun i => leBytes 64 (s.measurement i).toNat).flatten

/-- IDENTITY_GET (R508). -/
def execIdentityGet (h : Header) (select : Nat) (length : Nat) (outAddr : BitVec 64) (rsv : Nat) (s : State) :
    Host.Outcome State Fault Refusal :=
  .next (s.serve { op := 0x0900, replies := 1, vf := false, tenant := false, params := 16, rsv := rsv, addrs := outAddr.toNat, localOnly := false }
    h false fun r x =>
      if 2 < select then x.done r .badField
      else
        let i := x.identity select
        if length < i.length then x.answer r .noResource true (leBytes 4 i.length)
        else (x.writeAddr h.origin outAddr.toNat i).answer r .ok true (leBytes 4 i.length))

/-! ### Tenant keys (R515) -/

/-- Install a generation: above every one held; a third retires the oldest (R515). -/
def installKey (l : List (Nat × BitVec 256)) (gen : Nat) (key : BitVec 256) : List (Nat × BitVec 256) :=
  (l ++ [(gen, key)]).drop (l.length + 1 - 2)

/-- TENANT_KEY_SET (R515). -/
def execTenantKeySet (h : Header) (tenant : BitVec 16) (gen : Nat) (action : Nat) (key : BitVec 256) (rsv : Nat) (s : State) :
    Host.Outcome State Fault Refusal :=
  .next (s.serve { op := 0x0901, replies := 1, vf := false, tenant := false, params := 40, rsv := rsv, addrs := 0, localOnly := false } h false
    fun r x =>
      let held := agetD x.sec.keys tenant.toNat []
      let set (l : List (Nat × BitVec 256)) : State :=
        { x with sec := { x.sec with keys := if l.isEmpty then adel x.sec.keys tenant.toNat else aput x.sec.keys tenant.toNat l } }
      if gen = 0 ∨ 65535 < gen ∨ 1 < action then x.done r .badField
      else if action = 1 then
        if held.any fun g => g.1 == gen then (set (held.filter fun g => g.1 != gen)).done r .ok else x.done r .alreadyDone
      else if held.any fun g => decide (gen ≤ g.1) then x.done r .badField
      else if held.isEmpty ∧ 4096 ≤ x.sec.keys.length then x.done r .noResource
      else (set (installKey held gen key)).done r .ok)

/-! ### Debug (R509) -/

/-- DEBUG_UNLOCK_TOKEN (R509): a valid token waits for the next warm reset; a refused one is counted (R525). -/
def execDebugUnlockToken (valid : Bool) (s : State) : Host.Outcome State Fault Refusal :=
  if !s.present then .next s
  else if s.flag Reg.secCtrl 0 || !valid then .next (s.count Reg.secCntAuth 1)
  else .next { s with sec := { s.sec with debugPending := true } }

/-! ### SPDM (R506) -/

/-- SPDM's ERROR with an error code (DSP0274: 0x01 invalid request, 0x04 unexpected request, 0x07 unsupported request). -/
def State.spdmError (s : State) (code : Nat) : State := s.emit (.spdm 0x7F [BitVec.ofNat 8 code])

/-- The negotiation has come to a step (R506). -/
def State.spdmStep (s : State) (n : Nat) : State := { s with host := { s.host with spdm := n } }

/-- An answer that ends in bytes the spec does not determine: a signature is a free value (log entry 1). -/
def State.spdmFree (s : State) (code n : Nat) (body : List Byte) : State :=
  let d := s.drawBytes n
  d.1.emit (.spdm code (body ++ d.2))

/-- A measurement block's index and digest. -/
def State.measBlock (s : State) (i : Nat) : List Byte := leBytes 1 i ++ leBytes 64 (s.measurement i).toNat

/-- SPDM 1.3 (R506): version, capabilities and algorithms are negotiated in this order before other requests. -/
def State.spdm (s : State) (req : SpdmReq) (nonce : BitVec 256) : State :=
  match req with
  | .getVersion => (s.spdmStep 1).emit (.spdm 0x04 [0x13#8])
  | .getCapabilities =>
    if s.host.spdm = 0 then s.spdmError 4 else (s.spdmStep 2).emit (.spdm 0x61 (leBytes 4 0x20036))
  | .negotiateAlgorithms =>
    if s.host.spdm < 2 then s.spdmError 4 else (s.spdmStep 3).emit (.spdm 0x63 (leBytes 4 0x20 ++ leBytes 4 0 ++ leBytes 2 0x0087))
  | .getDigests =>
    if s.host.spdm < 3 then s.spdmError 4 else s.emit (.spdm 0x01 ([0x01#8] ++ leBytes 64 (Config.sha3 s.sec.chain).toNat))
  | .getCertificate slot offset length =>
    if s.host.spdm < 3 then s.spdmError 4 else if slot ≠ 0 then s.spdmError 1
    else s.emit (.spdm 0x02 ([0#8] ++ (s.sec.chain.drop offset).take length))
  | .challenge slot =>
    if s.host.spdm < 3 then s.spdmError 4
    else if slot ≠ 0 then s.spdmError 1
    else s.spdmFree 0x03 4627 ([0#8] ++ leBytes 32 nonce.toNat ++ (measured.map s.measBlock).flatten)
  | .getMeasurements index signed =>
    if s.host.spdm < 3 then s.spdmError 4
    else if index ≠ 0 ∧ index ≠ 255 ∧ ¬ measured.contains index then s.spdmError 1
    else
      let blocks := if index = 0 then [BitVec.ofNat 8 measured.length]
        else if index = 255 then (measured.map s.measBlock).flatten
        else s.measBlock index
      s.spdmFree 0x60 (if signed then 4627 else 0) (blocks ++ leBytes 32 nonce.toNat)
  | .other _ => s.spdmError 7

/-- SPDM_REQUEST (R503, R506): over DOE on PF0 or over MCTP (R507); not before the ROM has run, nor over DOE while PF0 is reset. -/
def execSpdmRequest (doe : Bool) (req : SpdmReq) (nonce : BitVec 256) (s : State) : Host.Outcome State Fault Refusal :=
  if !s.present || (doe && (s.fn 0).draining) then .next s else .next (s.spdm req nonce)

/-! ### The management controller's bus (R507) -/

/-- The input states (R531, R539): PFAIL, THERM, TSYNC_IN. -/
def Pwr.inputs (p : Pwr) : Nat := b2n p.pfail + 2 * b2n p.therm + 4 * b2n p.tsync

/-- A sensor's value (R531): three readings of each regulator entry, then the AVSBus current, Tj, and the input states. The AVSBus current is
no state of the device: a free value (log entry 1). -/
def State.sensor (s : State) (n : Nat) : State × Option Nat :=
  if n < 48 then
    (s, (afind s.pwr.readings (n / 3)).map fun q => if n % 3 = 0 then q.1 else if n % 3 = 1 then q.2.1 else q.2.2)
  else if n = 48 then (let f := s.free; (f.2, some f.1))
  else if n = 49 then (s, some s.pwr.tj)
  else if n = 50 then (s, some s.pwr.inputs)
  else (s, none)

/-- PLDM_REQUEST (R507, R531): a sensor that has no reading is not answered with a value. -/
def execPldmRequest (sensor : Nat) (s : State) : Host.Outcome State Fault Refusal :=
  if !s.present then .next s
  else
    match s.sensor sensor with
    | (s1, some v) => .next (s1.emit (.pldm sensor v))
    | (s1, none) => .next s1

/-- MCTP_CONTROL (R507): the bus owner assigns the endpoint ID; every answer carries it. -/
def execMctpControl (ctl : MctpCtl) (s : State) : Host.Outcome State Fault Refusal :=
  if !s.present then .next s
  else
    match ctl with
    | .setEid e => .next ({ s with host := { s.host with eid := e } }.emit (.mctp 1 e))
    | .getEid => .next (s.emit (.mctp 2 s.host.eid))
    | .other c => .next (s.emit (.mctp c s.host.eid))

end Sys2Proof.Machine
end

