-- ==== Sys2Proof/Machine/Shutdown.lean ====
section
/-!
DEFINITION. Machine/Shutdown.lean: DEVICE_SHUTDOWN, orderly and immediate, and what each of its steps waits for (R519, R520).
-/
namespace Sys2Proof.Machine

/-- Change the shut-down in progress. -/
def State.modShutdown (s : State) (f : Shutdown → Shutdown) : State := { s with sec := { s.sec with shutdown := s.sec.shutdown.map f } }

/-- Step 3: SURRENDER for every live satchel that is in no buckle; `abort`: an OFFER that is outstanding gets ABORT_REQ. -/
def State.surrenderAll (s : State) (abort : Bool) : State :=
  (s.sat.sats.map fun e => e.1).foldl (fun (a : State) k =>
    a.withSlot k fun x => if abort && decide (x.state = .inTransit) then a.sendAbort k else a.surrenderLive k) s

/-- Step 8: keys are erased, the run state becomes STOPPED (FAULT stays), the final reply is written. -/
def State.stopped (s : State) : State :=
  match s.sec.shutdown with
  | none => s
  | some d =>
    let s1 : State := { s with sec := { s.sec with
      keys := [], run := if s.sec.run = .fault then .fault else .stopped, shutdown := some { d with reply := none } } }
    match d.reply with
    | some r => s1.answer r .ok true (leBytes 4 d.moved ++ leBytes 4 d.surrendered)
    | none => s1

/-- Steps 6 and 7: flash holds for good, and every port drains and is disabled. -/
def State.closePorts (s : State) : State := (List.range 64).foldl State.disablePort (s.flsHold true)

/-- An immediate shut-down (R519): steps 3, 6, 7 and 8 at once. -/
def State.shutdownNow (s : State) : State :=
  (((s.modShutdown fun d => { d with immediate := true, deadlinePassed := true }).surrenderAll true).closePorts).stopped

/-- A member other than this one that is live. -/
def State.otherMembers (s : State) : Nat := s.sat.live.toNat &&& (2 ^ 32 - 1 - 2 ^ member s.me)

/-- Step 4: each record's next holder is the member on which its walk stops without this one (R81). -/
def State.handOn (s : State) : State :=
  let next (c : Record) : Option DeviceId := (registrarMember c.id s.otherMembers).map fun m => BitVec.ofNat 16 (32 * harness s.me + m)
  { s with sat := { s.sat with recs := amap (fun c => if c.movingTo.isSome then c else { c with movingTo := next c, sent := false }) s.sat.recs } }

/-- Step 5: a partition drains; a composition accepted for it fails. -/
def State.drainForStop (s : State) (p : Nat) : State :=
  let s1 := match (s.part p).held with
    | some c => (s.modPart p fun q => { q with held := none }).partEvent p 0x0100 c.tag .partitionBusy
    | none => s
  if (s1.part p).composing.isSome then s1.failCompose p .partitionBusy
  else if (s1.part p).state = .free ∨ (s1.part p).state = .draining then s1
  else s1.beginDrain p none

/-- An orderly shut-down after its deadline goes as far as it can (R519): satchels in a buckle finish it; records are handed on while another
member lives; then partitions drain, flash holds, ports drain; then the device is STOPPED. -/
def State.shutdownOn (s : State) : State :=
  let s1 := s.surrenderAll false
  if s1.sat.sats.any fun e => e.2.state.live || e.2.state == .inTransit then s1
  else if !s1.sat.recs.isEmpty && s1.otherMembers != 0 then s1.handOn
  else
    let s2 := (List.range 16).foldl State.drainForStop s1
    if s2.pln.parts.any fun q => q.state != .free then s2
    else
      let s3 := s2.closePorts
      if s3.lnk.ports.all fun p => p.state == .disabled then s3.stopped else s3

/-- A shut-down begins (R519, R510): step 1. -/
def State.beginShutdown (s : State) (reply : Option ReplyTo) (immediate : Bool) (deadline : Nat) (targets : List DevPart) : State :=
  let d : Shutdown :=
    { reply := reply, immediate := immediate, targets := targets, deadlineMs := deadline, startedAt := s.stk.time, nextTarget := 0, moved := 0,
      surrendered := 0, deadlinePassed := immediate || targets.isEmpty }
  let s1 : State := { s with sec := { s.sec with shutdown := some d, run := if s.sec.run = .fault then .fault else .stopping } }
  if immediate then s1.shutdownNow else if targets.isEmpty then s1.shutdownOn else s1

/-- DEVICE_SHUTDOWN (R507, R519): from PF0, or from the management controller where SEC_CTRL allows it. -/
def execDeviceShutdown (h : Header) (mode n deadlineMs : Nat) (targets : List DevPart) (rsv : Nat) (s : State) :
    Host.Outcome State Fault Refusal :=
  .next (s.serve { op := 0x0006, replies := 2, vf := false, tenant := false, params := 8 + 4 * n, rsv := rsv, addrs := 0, localOnly := false } h
    false fun r x =>
      if h.origin = .bmc ∧ x.flag Reg.secCtrl 1 = false then x.done r .protection
      else if x.sec.shutdown.isSome then x.done r .alreadyDone
      else if 1 < mode ∨ 8 < n ∨ targets.length ≠ n ∨ (mode = 0 ∧ (deadlineMs = 0 ∨ 60000 < deadlineMs)) ∨
          (targets.any fun t => decide (2 ^ 14 ≤ t.dev.toNat)) then x.done r .badField
      else
        let a := x.accepted r
        a.1.beginShutdown (some a.2) (mode == 1) deadlineMs targets)

/-- SHUTDOWN_DEADLINE (R519): DEADLINE_MS after acceptance; from then on, a step of the shut-down. -/
def execShutdownDeadline (s : State) : Host.Outcome State Fault Refusal :=
  match s.sec.shutdown with
  | none => .next s
  | some d =>
    if d.immediate ∨ s.sec.run = .stopped ∨ (d.deadlinePassed = true ∧ d.reply.isNone) then .next s
    else
      let s1 := if d.deadlinePassed then s else s.at_ (d.startedAt + d.deadlineMs * 1000000)
      .next (s1.modShutdown fun y => { y with deadlinePassed := true }).shutdownOn

end Sys2Proof.Machine
end

