-- ==== Sys2Proof/Machine/Power.lean ====
section
/-!
DEFINITION. Machine/Power.lean: the sampled inputs, the throttle step, the core voltage and the regulators (chapter 17 with R332, R334, R485
and R520).
-/
namespace Sys2Proof.Machine

/-! ### PFAIL_N (R332, R334, R485, R520) -/

/-- The run states from which a shut-down begins (R510, R478). -/
def RunState.stops : RunState → Bool
  | .standby | .joining | .service | .stopping | .fault => true
  | _ => false

/-- R520: with PFAIL_ACTION 1 an immediate shut-down begins; one that is in progress becomes immediate. -/
def State.pfailShutdown (s : State) : State :=
  if s.flag Reg.secCtrl 2 = false ∨ s.sec.run.stops = false then s
  else
    match s.sec.shutdown with
    | none => s.beginShutdown none true 0 []
    | some d => if d.immediate then s else s.shutdownNow

/-- PFAIL_N is accepted (R332, R485). -/
def State.acceptPfail (s : State) : State :=
  let s1 : State := { s with pwr := { s.pwr with pfail := true, pfailHold := true, pfailAt := s.stk.time } }
  ((s1.note 0x3F8 0xA03 0).flsHold false).pfailShutdown

/-- PFAIL_N reads released (R334). -/
def State.releasePfail (s : State) : State := { s with pwr := { s.pwr with pfail := false } }.flsRelease

/-- PFAIL_ASSERT (R332, R485, R520, R532): 2 µs active; ignored in the hold-off, and after PIN_STUCK. -/
def execPfailAssert (now : Nat) (s : State) : Host.Outcome State Fault Refusal :=
  let s1 := s.at_ now
  if !s1.present || s1.pwr.pfail || s1.pwr.pfailHold || s1.pwr.pfailIgnored then .next s1 else .next s1.acceptPfail

/-- PFAIL_RELEASE (R334, R485): an edge in the hold-off is ignored. -/
def execPfailRelease (s : State) : Host.Outcome State Fault Refusal :=
  if s.pwr.pfail && !s.pwr.pfailHold && !s.pwr.pfailIgnored then .next s.releasePfail else .next s

/-- PFAIL_HOLDOFF_END (R485): active again after a release in the hold-off, the assertion is accepted now; inactive, it is released. -/
def execPfailHoldoffEnd (active again : Bool) (now : Nat) (s : State) : Host.Outcome State Fault Refusal :=
  let s1 := s.at_ now
  if !s1.pwr.pfailHold || decide (s1.stk.time < s1.pwr.pfailAt + 10000000) then .next s1
  else
    let s2 : State := { s1 with pwr := { s1.pwr with pfailHold := false } }
    if active then .next (if again then s2.acceptPfail else s2) else .next s2.releasePfail

/-- PFAIL_STUCK (R334, R485): active for more than 1 s after acceptance: PIN_STUCK once, HOLD ends, and the input is ignored. -/
def execPfailStuck (s : State) : Host.Outcome State Fault Refusal :=
  if s.pwr.pfail && !s.pwr.pfailHold && !s.pwr.pfailIgnored then
    .next (({ s with pwr := { s.pwr with pfailIgnored := true } }.post (fault 0x3F8 0xA01 2 0)).flsRelease)
  else .next s

/-- PFAIL_REARM (R485): read inactive for 2 µs, the input is re-armed. -/
def execPfailRearm (s : State) : Host.Outcome State Fault Refusal :=
  if s.pwr.pfailIgnored then .next { s with pwr := { s.pwr with pfailIgnored := false, pfail := false } } else .next s

/-! ### THERM_N and rejected pulses (R485, R532, R535) -/

/-- THERM_N is in its hold-off of 10 ms (R532). -/
def State.thermHeld (s : State) : Bool := s.pwr.thermHold && decide (s.stk.time < s.pwr.thermAt + 10000000)

/-- THERM_ASSERT (R485, R535): accepted outside its hold-off; at least step 4. -/
def execThermAssert (now : Nat) (s : State) : Host.Outcome State Fault Refusal :=
  let s1 := s.at_ now
  if !s1.present || s1.pwr.therm || s1.thermHeld then .next s1
  else
    let s2 : State := { s1 with pwr := { s1.pwr with therm := true, thermHold := true, thermAt := s1.stk.time } }
    .next ((s2.note 0x3F8 0xA03 1).setStep s2.pwr.step)

/-- THERM_RELEASE (R532, R535): accepted once the hold-off has ended; the step falls by R535's own rule. -/
def execThermRelease (now : Nat) (s : State) : Host.Outcome State Fault Refusal :=
  let s1 := s.at_ now
  if !s1.pwr.therm || s1.thermHeld then .next s1
  else .next { s1 with pwr := { s1.pwr with therm := false, thermHold := false } }

/-- The index of an input (R476). -/
def PinIn.index : PinIn → Nat
  | .pfail => 0 | .therm => 1 | .tsync => 2

/-- INPUT_GLITCH (R485, R532, R541): counted; a note when a second's pulses on the input reach GLITCH_LIMIT. -/
def execInputGlitch (pin : PinIn) (now : Nat) (s : State) : Host.Outcome State Fault Refusal :=
  let s1 := s.at_ now
  if !s1.present then .next s1
  else
    let i := pin.index
    let lo := 8 * i
    let second := s1.stk.time / 1000000000
    let g := s1.pwr.glitch.getD i (0, 0, false)
    let n := if g.2.1 = second then g.1 + 1 else 1
    let said := decide (g.2.1 = second) && g.2.2
    let limit := s1.fld Reg.bltCfg 31 24
    let say := !said && limit != 0 && decide (limit ≤ n)
    let s2 : State := { s1 with pwr := { s1.pwr with
      glitch := s1.pwr.glitch.set i (n, second, said || say), tsync := s1.pwr.tsync && i != 2 } }
    let s3 := s2.setFld Reg.pwrGlitch (lo + 7) lo (satAdd 255 (s2.fld Reg.pwrGlitch (lo + 7) lo) 1)
    .next (if say then s3.note 0x3F8 0xA02 i else s3)

/-! ### Temperature and power (R535, R536) -/

/-- The trip (R536): clocks stop and outputs float as in cold reset, until a cold reset. -/
def State.trip (s : State) : State :=
  let s1 := s.afterReset s.board [(Reg.glbDeviceId, BitVec.ofNat 32 (setBits (resetWord Reg.glbDeviceId) 4 0 s.board.strap.toNat))]
  { s1 with pwr := { s1.pwr with tripped := true } }

/-- Package power [W] (R531, R540): the products of voltage and current of the regulators that answer, rounded down. -/
def Pwr.package (p : Pwr) : Nat :=
  ((p.readings.filter fun e => agetD p.missed e.1 0 != 3).map fun e => e.2.1 * e.2.2.1).sum / 1000000

/-- A step that is due to fall does so at once while strokes do not run (R535), once its voltage stands (R530). -/
def State.fallNow (s : State) : State := if s.stk.running then s else s.fallStep

/-- The step goes up; a fall that was due is not (R535). -/
def State.raiseStep (s : State) (k : Nat) : State :=
  { s with pwr := { s.pwr with fallDue := false, coolFrom := none, overFrom := some s.stk.time } }.setStep k

/-- THROTTLE_EVALUATE (R535, R536, R540): a reading of Tj, and the package power by the last readings: a rise for every 100 µs above a limit, a fall
for every 1 ms well below both. -/
def execThrottleEvaluate (tj now : Nat) (s : State) : Host.Outcome State Fault Refusal :=
  if !s.present then .next s
  else if 115 ≤ tj then .next s.trip
  else
    let s1 := s.at_ now
    let t := s1.stk.time
    let watts := s1.pwr.package
    let target := s1.fld Reg.pwrCtrl 7 0
    let cap := s1.fld Reg.pwrCap 10 0
    let overT := decide (target < tj)
    let overP := decide (cap < watts)
    let calm := decide (tj + 3 < target ∧ watts * 100 < cap * 95)
    let s2 : State := { s1 with pwr := { s1.pwr with
      tj := tj, watts := watts, causeTj := overT, causePower := overP,
      overFrom := if overT || overP then some (s1.pwr.overFrom.getD t) else none,
      coolFrom := if calm then some (s1.pwr.coolFrom.getD t) else none } }
    let s3 := s2.setFld Reg.pwrTj 15 8 (max (s2.fld Reg.pwrTj 15 8) (min 255 tj))
    if 105 ≤ tj then .next (s3.raiseStep 7)
    else
      match s3.pwr.overFrom, s3.pwr.coolFrom with
      | some f, _ => if f + 100000 ≤ t then .next (s3.raiseStep (s3.pwr.step + 1)) else .next s3
      | none, some f =>
        if f + 1000000 ≤ t ∧ s3.pwr.floor < s3.pwr.step then
          (let s4 : State := { s3 with pwr := { s3.pwr with fallDue := true, coolFrom := some t } }; .next s4.fallNow)
        else .next s3
      | none, none => .next s3

/-! ### The core voltage and the regulators (R530, R531) -/

/-- AVS_WRITE (R530, R535), once firmware runs: the target moves by at most 10 mV towards the table's voltage. Each third failure sets AVS_FAULT and
posts a note; step 4 is held until a write succeeds. -/
def execAvsWrite (acked : Bool) (s : State) : Host.Outcome State Fault Refusal :=
  if !s.present ∨ s.sec.run = .boot ∨ s.sec.run = .recovery then .next s
  else if acked then
    let v := clamp (s.pwr.avsTarget - 10) (s.pwr.avsTarget + 10) s.coreGoal
    let s1 : State := { s with pwr := { s.pwr with avsTarget := v, avsFails := 0 } }
    .next (s1.emit (.avs v)).fallNow
  else
    let s1 : State := { s with pwr := { s.pwr with avsFails := s.pwr.avsFails + 1 } }
    if s1.pwr.avsFails % 3 = 0 then .next (((s1.setFld Reg.pwrStatus 6 6 1).note 0x3F8 0x0FF 0).setStep s1.pwr.step) else .next s1

/-- One entry's poll (R531, R542). -/
def State.pollEntry (s : State) (i : Nat) (reading : Option (Nat × Nat × Nat)) : State :=
  let drop : State := { s with pwr := { s.pwr with missed := adel s.pwr.missed i, readings := adel s.pwr.readings i } }
  if s.flag (Reg.pwrPmb i) 31 = false then drop
  else if 9 ≤ s.fld (Reg.pwrPmb i) 15 12 then drop.note 0x3F8 0x0FF 0
  else
    match reading with
    | some q => { s with pwr := { s.pwr with missed := adel s.pwr.missed i, readings := aput s.pwr.readings i q } }
    | none => { s with pwr := { s.pwr with missed := aput s.pwr.missed i (min 3 (agetD s.pwr.missed i 0 + 1)) } }

/-- PMBUS_POLL (R531): a regulator that misses three reads in a row is marked in PMB_MISS (Flags.lean). -/
def execPmbusPoll (readings : List (Option (Nat × Nat × Nat))) (s : State) : Host.Outcome State Fault Refusal :=
  if !s.present then .next s
  else .next ((List.range 16).foldl (fun (a : State) i => a.pollEntry i (readings.getD i none)) s)

end Sys2Proof.Machine
end

