-- ==== Sys2Proof/Machine/Notices.lean ====
section
/-!
DEFINITION. Machine/Notices.lean: members that come and go: LINK_STATE as a sign of life, unanswered probes, dead and alive notices, and what
follows from them for registrars, connections, collectives and shards (R361, R366, R367, R76, R77, R81, R83, R84, R95, R225, R385).
-/
namespace Sys2Proof.Machine

/-! ### Sending and forwarding notices (R367) -/

/-- The UP global ports. -/
def State.upGlobal (s : State) : List Nat := ((List.range 32).map fun i => 31 + i).filter s.isUp

/-- A notice on ports. -/
def State.sendNotice (s : State) (ports : List Nat) (dev : DeviceId) (seq : Nat) (alive : Bool) : State :=
  ports.foldl (fun (a : State) p => a.emit (.notice p dev seq alive)) s

/-- The notice is among those seen. -/
def State.sawNotice (s : State) (dev : DeviceId) (seq : Nat) (alive : Bool) : Bool := s.lnk.seen.contains (dev, seq, alive)

/-- A notice is seen for the first time, and passed on: by members of the device's own harness on global ports as well. -/
def State.passNotice (s : State) (dev : DeviceId) (seq : Nat) (alive : Bool) : State :=
  let s1 : State := { s with lnk := { s.lnk with seen := (dev, seq, alive) :: s.lnk.seen } }
  s1.sendNotice (if harness dev = harness s.me then s1.upLocal ++ s1.upGlobal else s1.upLocal) dev seq alive

/-- The copy of the live mask that a notice changes (R76): SAT_LIVE for a member of the own harness. -/
def State.setLive (s : State) (dev : DeviceId) (alive : Bool) : State :=
  if harness dev = harness s.me then
    let l := (List.range 32).filter fun m => if m = member dev then alive else bitAt s.sat.live.toNat m
    { s with sat := { s.sat with live := BitVec.ofNat 32 (maskOf l) } }
  else
    let l := s.lnk.lost.filter fun d => d != dev
    { s with lnk := { s.lnk with lost := if alive then l else dev :: l } }

/-! ### A device is dead -/

/-- Owners register again with the registrar that follows a dead one (R83); `old` is the state before the notice. -/
def State.reRegister (s old : State) (dev : DeviceId) : State :=
  s.sat.sats.foldl (fun (a : State) e => if old.registrar e.2.id = some dev then a.sendRegister e.1 else a) s

/-- The re-registration window of a member that follows the dead one on the ring (R84). -/
def State.openRereg (s : State) (dev : DeviceId) : State :=
  let next := ((List.range 31).map fun k => (member dev + 1 + k) % 32).find? fun m => bitAt (s.liveMask (harness s.me)) m
  if harness dev = harness s.me ∧ next = some (member s.me) then
    { s with sat := { s.sat with rereg := s.sat.rereg ++ [(member dev, s.stk.time)] } }
  else s

/-- Records at this registrar whose owner is dead (R95), and recoveries whose candidate is (R97). -/
def State.ownersDead (s : State) (dev : DeviceId) : State :=
  let s1 : State := { s with sat := { s.sat with recs := amap (fun c =>
    { c with ownerDead := c.ownerDead || (c.owner == dev && c.state != .lost),
             movingTo := if c.movingTo = some dev then none else c.movingTo, sent := c.sent && c.movingTo != some dev }) s.sat.recs } }
  (avals s1.sat.recs).foldl (fun (a : State) c =>
    if (match c.candidate with | some k => k.2.dev == dev | none => false) then a.candidateRefused c else a) s1

/-- What this device holds for a dead owner is freed after the owner-loss time (R93, R225); what it lodged there is lost (R93). -/
def State.lodgersDead (s : State) (dev : DeviceId) : State :=
  let s1 : State := { s with sat := { s.sat with
    lodgings := s.sat.lodgings.map fun l => if l.owner = dev ∧ l.deadAt.isNone then { l with deadAt := some s.stk.time } else l,
    satellites := amap (fun y => if y.owner = dev ∧ y.deadAt.isNone then { y with deadAt := some s.stk.time } else y) s.sat.satellites } }
  (s1.sat.sats.filter fun e => e.2.migrating && e.2.lodge == dev).foldl (fun (a : State) e => a.lowerTier e.1) s1

/-- Connections with a dead peer fail (R385); queries of it are answered (R404). -/
def State.peerDead (s : State) (dev : DeviceId) : State :=
  let s1 := (s.xpt.conns.filter fun e => e.2.peerDev == dev).foldl (fun (a : State) e => a.failConn e.1) s
  let q := s1.xpt.queries.filter fun e => e.2.1 == dev
  let s2 : State := { s1 with xpt := { s1.xpt with queries := s1.xpt.queries.filter fun e => e.2.1 != dev } }
  q.foldl (fun (a : State) e => a.done e.2.2 .outcomeIndeterminate) s2

/-- The round of every group with a rank on a dead device fails (R415). -/
def State.groupsDead (s : State) (dev : DeviceId) : State :=
  (s.xpt.groups.filter fun e => e.2.ranks.any fun r => r.dev == dev).foldl (fun (a : State) e =>
    let a1 : State := { a with xpt := { a.xpt with groups := amod a.xpt.groups e.1 fun g => { g with inputs := [], waiting := [] } } }
    (a1.xpt.ops.filter fun o => o.2.kind == .reduce && o.2.part == e.2.part && o.2.dest == e.1 % 65536).foldl
      (fun (b : State) o => b.opDone o.1 .tierError []) a1) s

/-- An instance that lost a shard other than its owner is degraded (R225). -/
def State.shardsDead (s : State) (dev : DeviceId) : State :=
  (List.range 16).foldl (fun (a : State) p =>
    let q := a.part p
    let l := (List.range q.shardList.length).filter fun k =>
      k != 0 && (match q.shardList[k]? with | some d => d.dev == dev | none => false) && !q.deadShards.contains k
    if q.shard ≠ 0 ∨ q.state = PartState.free ∨ l.isEmpty then a
    else (a.modPart p fun y => { y with deadShards := y.deadShards ++ l }).setDegraded p) s

/-- Everything that follows when the fabric reports a live device dead. -/
def State.applyDead (s : State) (dev : DeviceId) : State :=
  if dev = s.me ∨ s.isLive dev = false then s
  else
    let s1 := (s.setLive dev false).count Reg.lnkCntDead 1
    ((((((s1.peerDead dev).groupsDead dev).reRegister s dev).openRereg dev).ownersDead dev).lodgersDead dev).shardsDead dev

/-! ### A device is alive -/

/-- Records whose walk now stops at a joining member are to be handed to it (R81). -/
def State.rehomeTo (s : State) (dev : DeviceId) : State :=
  { s with sat := { s.sat with recs := amap (fun c =>
    if s.registrar c.id = some dev ∧ ¬ (c.movingTo.isSome ∧ c.sent) then { c with movingTo := some dev, sent := false } else c) s.sat.recs } }

/-- Satchels that had no registrar, or whose registration waits, are registered (R77, R83). -/
def State.registerWaiting (s old : State) : State :=
  s.sat.sats.foldl (fun (a : State) e => if (old.registrar e.2.id).isNone || e.2.reregister then a.sendRegister e.1 else a) s

/-- Everything that follows when a device joins the live mask. -/
def State.applyAlive (s : State) (dev : DeviceId) : State :=
  if dev = s.me ∨ s.isLive dev then s
  else ((s.setLive dev true).rehomeTo dev).registerWaiting s

/-! ### The rows -/

/-- LINK_STATE (R361, R367): the latest report of a member of this harness; one from a member outside the live mask brings it back. -/
def execLinkState (src : DeviceId) (seq : Nat) (up : BitVec 32) (levels : List Nat) (now : Nat) (s : State) :
    Host.Outcome State Fault Refusal :=
  let s1 := s.at_ now
  if !s1.lnk.ready ∨ harness src ≠ harness s1.me ∨ src = s1.me then .next s1
  else
    let r : LinkReport := { up := up, levels := levels, at_ := s1.stk.time, seq := seq }
    let s2 : State := { s1 with lnk := { s1.lnk with table_ := aput s1.lnk.table_ (member src) r } }
    if bitAt s2.sat.live.toNat (member src) = true then .next s2
    else .next ((s2.passNotice src seq true).applyAlive src)

/-- PROBE_TIMEOUT (R366, R367): 4 µs without an answer. A neighbour of which no LINK_STATE came since the probe is declared dead, under the
sequence of its last LINK_STATE. -/
def execProbeTimeout (port : Fin 64) (now : Nat) (s : State) : Host.Outcome State Fault Refusal :=
  let s1 := s.at_ now
  match s1.lnk.probes.find? (fun q => q.1 == port.val) with
  | none => .next s1
  | some (p, t) =>
    if s1.stk.time < t + 4000 then .next s1
    else
      let s2 : State := { s1 with lnk := { s1.lnk with probes := s1.lnk.probes.filter fun q => q.1 != p } }
      let x := localPeer (member s2.me) p
      let dev : DeviceId := BitVec.ofNat 16 (32 * harness s2.me + x)
      let last := afind s2.lnk.table_ x
      let heard : Bool := match last with | some r => decide (t < r.at_) | none => false
      if heard ∨ bitAt s2.sat.live.toNat x = false then .next s2
      else .next ((s2.passNotice dev (match last with | some r => r.seq | none => 0) false).applyDead dev)

/-- DEAD_NOTICE (R367): the first copy of a dead or alive notice is forwarded and takes effect. -/
def execDeadNotice (dev : DeviceId) (seq : Nat) (alive : Bool) (now : Nat) (s : State) : Host.Outcome State Fault Refusal :=
  let s1 := s.at_ now
  if !s1.lnk.ready ∨ s1.sawNotice dev seq alive then .next s1
  else
    let s2 := s1.passNotice dev seq alive
    .next (if alive then s2.applyAlive dev else s2.applyDead dev)

end Sys2Proof.Machine
end

