-- ==== Sys2Proof/Machine/Flags.lean ====
section
/-!
DEFINITION. Machine/Flags.lean: what the registers of BAR0 read (R6, R7, R29 to R36 and the field maps of every block): the status, count and
capability fields that follow from the device's state, over the storage of Machine/Regs.lean.
-/
namespace Sys2Proof.Machine

/-- A field of a word that is read: its bits and what it reads. -/
abbrev Out1 := Nat × Nat × Nat

/-- A one-bit field. -/
def bitField (i : Nat) (b : Bool) : Out1 := (i, i, b2n b)

/-- A 32-bit register that reads the low or the high half of a number. -/
def half (v : Nat) (high : Bool) : List Out1 := [(31, 0, if high then v / 2 ^ 32 % 2 ^ 32 else v % 2 ^ 32)]

/-- A register that reads one number in its low bits, saturating. -/
def whole (hi v : Nat) : List Out1 := [(hi, 0, min (2 ^ (hi + 1) - 1) v)]

/-! ### GLB (R29 to R36) -/

/-- Slices in service (R34). -/
def State.slicesServing (s : State) : Nat := ((List.range 16).filter s.sliceInService).length

/-- GLB_STRAPS and GLB_CAP (R31, R34). -/
def State.glbRead (s : State) (off : Nat) : List Out1 :=
  if off = Reg.glbStraps then [(4, 0, s.board.strap.toNat)]
  else if off = Reg.glbCap then
    [(21, 16, (s.memory.devs.filter fun d => d.trained && d.inService).length), (15, 10, s.fls.channels), (9, 5, s.slicesServing)]
  else []

/-! ### STK (R60 to R65) -/

/-- The time, stroke, status and configuration registers (R60 to R65). -/
def State.stkRead (s : State) (off : Nat) : List Out1 :=
  let c := s.stk.cfg
  let run := s.stk.running
  if off = Reg.stkTimeLo then half s.stk.time false
  else if off = Reg.stkTimeHi then half s.stk.time true
  else if off = Reg.stkStrokeLo then half s.strokeNow false
  else if off = Reg.stkStrokeHi then half (s.strokeNow % 2 ^ 48) true
  else if off = Reg.stkStatus then
    [(10, 8, if run then s.stk.phase.code else 0), bitField 6 run, bitField 5 s.stk.pend.isSome, bitField 4 s.stk.mismatch,
     bitField 3 s.stk.unaligned, bitField 2 s.stk.refHoldover, bitField 1 s.stk.holdover, bitField 0 s.stk.locked]
  else if off = Reg.stkPeriod then whole 16 (if run then c.periodUs else 0)
  else if off = Reg.stkPhase then [(31, 24, c.commitAt), (23, 16, c.exchangeAt), (15, 8, c.computeAt), (7, 0, c.issueAt)]
  else if off = Reg.stkEpochLo then half c.epoch false
  else if off = Reg.stkEpochHi then half c.epoch true
  else if off = Reg.stkBaseLo then half c.base false
  else if off = Reg.stkBaseHi then half (c.base % 2 ^ 48) true
  else if off = Reg.stkPendLo then half (match s.stk.pend with | some p => p.n0 | none => 0) false
  else if off = Reg.stkPendHi then half (match s.stk.pend with | some p => p.n0 % 2 ^ 48 | none => 0) true
  else if off = Reg.stkOffset then
    let v : Int := if s.stk.role = 2 then 0 else max (-2147483647) (min 2147483647 s.stk.offset)
    [(31, 0, (v % 4294967296).toNat)]
  else []

/-! ### SAT and KVA (R101 to R105, R173 to R175) -/

/-- The custody engine's status and counts (R101 to R105). SAT_LIVE shows this device once a port of it is enabled. SCAN never reads 1, and SAT_OWNED
counts unacknowledged admissions too (log entry 124). -/
def State.satRead (s : State) (off : Nat) : List Out1 :=
  if off = Reg.satStatus then
    [bitField 4 s.sat.scan, bitField 3 (s.sat.ready && decide (16 * s.chunksFree < s.fld Reg.satMirrorCfg 23 0)),
     bitField 2 (!s.sat.rereg.isEmpty), bitField 1 ((avals s.sat.recs).any fun c => c.movingTo.isSome), bitField 0 s.sat.ready]
  else if off = Reg.satOwned then whole 22 s.sat.sats.length
  else if off = Reg.satRecords then whole 22 s.sat.recs.length
  else if off = Reg.satLive then
    [(31, 0, if s.portsDisabled then s.sat.live.toNat else s.sat.live.toNat ||| 2 ^ member s.me)]
  else if off = Reg.satMirrorFree then whole 23 (if s.sat.ready then s.chunksFree else 0)
  else []

/-- The KV arena's status and counts, and each partition's range (R173 to R175). -/
def State.kvaRead (s : State) (off : Nat) : List Out1 :=
  let held (q : Part) : Bool := q.state != .free
  if off = Reg.kvaStatus then [bitField 2 s.kva.held, bitField 1 s.kva.swapFull, bitField 0 s.kva.ready]
  else if off = Reg.kvaArenaFree then
    whole 25 (if s.kva.ready then s.fld Reg.kvaArenaCfg 25 0 - (s.pln.parts.filter held).foldl (fun a q => a + q.frames) 0 else 0)
  else if off = Reg.kvaContexts then whole 23 (s.sat.sats.length + s.sat.satellites.length)
  else if off = Reg.kvaInkUsed then whole 16 s.kva.inks.length
  else if off = Reg.kvaEpoch then [(31, 0, s.kva.epoch % 2 ^ 32)]
  else if Reg.kvaPbase 0 ≤ off ∧ off < Reg.kvaPframes 0 then
    let q := s.part ((off - Reg.kvaPbase 0) / 4)
    whole 25 (if held q then q.base else 0)
  else if Reg.kvaPframes 0 ≤ off ∧ off < Reg.kvaPfree 0 then
    let q := s.part ((off - Reg.kvaPframes 0) / 4)
    whole 25 (if held q then q.frames else 0)
  else if Reg.kvaPfree 0 ≤ off ∧ off < Reg.kvaSwapCfg 0 then
    let q := s.part ((off - Reg.kvaPfree 0) / 4)
    whole 25 (if held q then q.freeRows else 0)
  else []

/-! ### CORE (R213, R214) -/

/-- The partition that holds a slice (R213). -/
def State.sliceHolder (s : State) (k : Nat) : Option Nat :=
  (List.range 16).find? fun p => (s.part p).state != .free && bitAt (s.part p).slices.toNat k

/-- The commands in a unit's queue. -/
def State.unitQueue (s : State) (c u : Nat) : List CoreCmd := agetD s.cores.queues (c * 16 + u) []

/-- A core's status, busy units, threads and queue depths (R213, R214). -/
def State.coreRead (s : State) (off : Nat) : List Out1 :=
  let c := (off - Reg.coreCtrl 0) / 0x10000
  let at_ := (off - Reg.coreCtrl 0) % 0x10000
  if at_ = 4 then
    let p := s.sliceHolder (c / 8)
    let st := (p.map fun p => (s.part p).state).getD PartState.free
    [(19, 16, c / 8), (15, 12, p.getD 0), bitField 11 p.isSome, bitField 4 (st == .resuming), bitField 3 (st == .suspending),
     bitField 2 (st == .suspending || st == .suspended || st == .resuming), bitField 0 (s.coreInService c)]
  else if at_ = 8 then [(9, 0, maskOf ((List.range 10).filter fun u => (s.unitQueue c u).any fun k =>
    k.started && k.result.isNone && s.partRuns k.part.val))]
  else if at_ = 0xC then
    whole 6 (s.cores.threads.filter fun e => e.1 / 64 == c && decide (e.2.state ≠ ThreadState.stopped)).length
  else if 0x40 ≤ at_ ∧ at_ < 0x68 then whole 8 (s.unitQueue c ((at_ - 0x40) / 4)).length
  else []

/-! ### PLN and MEM (R253 to R258, R287 to R292) -/

/-- The registers of one partition (R256, R258). -/
def State.plnPRead (s : State) (p at_ : Nat) : List Out1 :=
  let q := s.part p
  let here : Bool := q.state != .free
  if at_ = 0 then
    [(31, 16, if here then q.slices.toNat else 0), (7, 6, if here then q.role else 0), bitField 5 (here && q.sprint),
     bitField 4 (here && q.degraded), bitField 3 q.held.isSome, (2, 0, q.state.code)]
  else if at_ = 0xC then
    [(31, 16, match q.image with | some im => if here then im.substLayer else 0 | none => 0), (15, 0, if here then q.modelId.toNat else 0xFFFF)]
  else if at_ = 0x10 then [(31, 17, min 32767 q.batchRows), (16, 0, min 131071 q.batchQrows)]
  else if at_ = 0x14 then half (if here then q.saveAddr else 0) false
  else if at_ = 0x18 then half (if here then q.saveAddr else 0) true
  else []

/-- The planner's status and counts (R253). -/
def State.plnRead (s : State) (off : Nat) : List Out1 :=
  if off = Reg.plnStatus then
    [bitField 1 (s.pln.parts.any fun q => q.composing.isSome || [PartState.composing, .suspending, .resuming, .draining].contains q.state), bitField 0 s.pln.ready]
  else if off = Reg.plnTenants then whole 12 s.pln.tenants.length
  else if Reg.plnPState 0 ≤ off ∧ off < Reg.plnPState 16 then
    s.plnPRead ((off - Reg.plnPState 0) / 0x40) ((off - Reg.plnPState 0) % 0x40)
  else []

/-- The memory system's status and devices (R287 to R292). -/
def State.memRead (s : State) (off : Nat) : List Out1 :=
  let m := s.memory
  if off = Reg.memStatus then
    [bitField 4 (m.devs.any fun d => d.throttled), bitField 3 (m.devs.any fun d => d.hot), bitField 2 m.training,
     bitField 1 m.t0Ready, bitField 0 m.t1Ready]
  else if off = Reg.memT1Info then [(27, 16, min 4095 m.usableGib), (15, 8, min 255 (4 * m.population))]
  else if off = Reg.memParked then whole 17 m.faults.length
  else if Reg.memDev 0 ≤ off ∧ off < Reg.memDev 32 then
    let d := m.devs.getD ((off - Reg.memDev 0) / 4) GddrDev.reset
    [bitField 31 d.present, bitField 30 d.inService, (29, 28, d.density.val), (23, 16, if d.present then min 255 d.temp else 0),
     (7, 0, min 255 d.retrains)]
  else []

/-! ### CDC and FLS (R306, R339 to R344) -/

/-- The codec's status (R306); no lane is busy between two commands (R307). -/
def State.cdcRead (s : State) (off : Nat) : List Out1 :=
  if off = Reg.cdcStatus then [bitField 1 ((List.range 16).any fun g => s.flag (Reg.cdcGroup g) 31), bitField 0 s.cdcReady]
  else []

/-- Flash status, capacity, wear and channels (R339 to R344); no decoder is busy between two commands. -/
def State.flsRead (s : State) (off : Nat) : List Out1 :=
  let f := s.fls
  if off = Reg.flsStatus then
    [bitField 6 (f.chans.any fun c => c.stopped), bitField 5 (f.chans.any fun c => c.hot), bitField 4 f.readOnly, bitField 3 f.hold,
     bitField 2 f.unformatted, bitField 1 f.recovering, bitField 0 f.ready]
  else if off = Reg.flsCap then
    if f.channels = 0 then [] else [(22, 16, f.dies), (15, 8, f.channels), (1, 0, f.density)]
  else if off = Reg.flsOp then whole 7 (if f.unformatted then 0 else f.op)
  else if off = Reg.flsUserUnits then whole 31 f.userUnits
  else if off = Reg.flsFreeUnits then whole 31 f.freeUnits
  else if off = Reg.flsSpare then [(15, 0, min 0xFFFF f.spare)]
  else if off = Reg.flsWear then [(31, 16, min 0xFFFF s.wear.1), (15, 0, min 0xFFFF s.wearAvg)]
  else if off = Reg.flsTemp then [(15, 8, min 255 f.tempMax), (7, 0, min 255 f.tempNow)]
  else if Reg.flsCh 0 ≤ off ∧ off < Reg.flsCh 32 then
    match f.chans[(off - Reg.flsCh 0) / 4]? with
    | some c => [bitField 31 c.present, bitField 30 c.inService, (23, 16, if c.inService then c.rate else 0), (15, 8, c.diesOk)]
    | none => []
  else []

/-! ### LNK, XPT and SHP (R375 to R380, R416 to R421, R433 to R437) -/

/-- Link status, and each port's state, neighbour and round trip (R375, R379, R380). -/
def State.lnkRead (s : State) (off : Nat) : List Out1 :=
  if off = Reg.lnkStatus then [bitField 1 (!s.lnk.probes.isEmpty), bitField 0 s.lnk.ready]
  else if Reg.lnkPCtrl 0 ≤ off ∧ off < Reg.lnkPCtrl 64 then
    let x := s.port ((off - Reg.lnkPCtrl 0) / 0x100)
    let at_ := (off - Reg.lnkPCtrl 0) % 0x100
    if at_ = 4 then [(13, 12, x.level), bitField 8 x.degraded, bitField 7 x.pend, (6, 4, x.width), (3, 0, x.state.code)]
    else if at_ = 8 then [(21, 16, x.neighPort), (15, 0, x.neighDev.toNat)]
    else if at_ = 0xC then whole 15 x.rtt
    else []
  else []

/-- The transport's status, contexts, tags and engines (R416, R417, R421). -/
def State.xptRead (s : State) (off : Nat) : List Out1 :=
  if off = Reg.xptStatus then
    [bitField 3 (match s.xpt.robFullAt with | some n => decide (n + 1 = s.strokeNow) | none => false),
     bitField 2 (decide (131072 ≤ s.xpt.results.length)), bitField 1 s.freeTag.isNone, bitField 0 s.xpt.ready]
  else if off = Reg.xptConns then whole 20 s.xpt.conns.length
  else if off = Reg.xptTags then whole 16 (s.xpt.ops.length + s.xpt.queries.length)
  else if Reg.xptEStatus 0 ≤ off ∧ off < Reg.xptEStatus 16 then
    let e := (off - Reg.xptEStatus 0) / 4
    [(27, 16, min 4095 (s.robUsed e)), (10, 0, min 2047 (s.xpt.cache.getD e []).length)]
  else []

/-- SHP_STATUS.C0_BOUND (R433): windows are in use, no violation bit is set, and no port that is UP runs at ×1. -/
def State.c0Bound (s : State) : Bool :=
  s.flag Reg.shpCtrl 0 && !s.shp.gates && s.stk.running && s.reg Reg.shpC0ViolLo == 0 && s.reg Reg.shpC0ViolHi == 0 &&
    s.lnk.ports.all fun p => !(p.state == .up && p.width == 1)

/-- Shaping's status and the active bank's cycle (R435, R437). -/
def State.shpRead (s : State) (off : Nat) : List Out1 :=
  if off = Reg.shpStatus then
    [bitField 5 s.c0Bound, (4, 4, s.shp.bank), bitField 3 s.shp.swapAt.isSome, bitField 2 s.shp.gates, bitField 0 (s.flag Reg.shpCtrl 0)]
  else if off = Reg.shpGateCycle then whole 31 (s.gateCycle s.shp.bank)
  else []

/-! ### CMD and BLT (R468, R470, R486 to R489) -/

/-- The window controller's status and its windows (R468, R470). -/
def State.cmdRead (s : State) (off : Nat) : List Out1 :=
  if off = Reg.cmdStatus then [bitField 0 (s.flag Reg.cmdCtrl 0)]
  else if Reg.cmdW 0 ≤ off ∧ off < Reg.cmdW 32 then
    let w := s.window ((off - Reg.cmdW 0) / 4)
    [(25, 24, w.state.code), (23, 0, w.cons)]
  else []

/-- The blotter's status, FAULT_N, sequence, open entries and log (R486 to R489). -/
def State.bltRead (s : State) (off : Nat) : List Out1 :=
  if off = Reg.bltStatus then
    [bitField 2 (decide (256 ≤ s.blt.entries.length)), bitField 1 (s.blt.unack.any fun u => u.level == 2), bitField 0 s.blt.l3]
  else if off = Reg.bltFaultn then [bitField 1 (s.blt.pulse || s.flag Reg.bltFaultn 0)]
  else if off = Reg.bltSeq then [(31, 0, s.blt.seq.toNat)]
  else if off = Reg.bltOpen then whole 8 s.blt.entries.length
  else if Reg.bltLog 0 0 ≤ off ∧ off < Reg.bltLog 1024 0 then
    let k := off - Reg.bltLog 0 0
    [(31, 0, (agetD s.blt.log (k / 16) 0#128).toNat / 2 ^ (32 * (k % 16 / 4)) % 2 ^ 32)]
  else []

/-! ### SEC and PWR (R522 to R525, R539 to R541) -/

/-- Security, boot and firmware (R522 to R525). -/
def State.secRead (s : State) (off : Nat) : List Out1 :=
  let c := s.sec
  let image (f : Image → Nat) : Nat := match c.running with | some im => f im | none => 0
  let other : Option Image := (c.slots.getD (if c.slotB then 0 else 1) none)
  if off = Reg.secStatus then
    [(13, 12, image fun im => im.keySlot), bitField 11 c.slotB, bitField 10 c.staged, bitField 9 c.runningTrial, bitField 8 c.fallback,
     bitField 0 c.debugOpen]
  else if off = Reg.secRun then [(3, 0, c.run.code)]
  else if off = Reg.secSvn then [(13, 8, image fun im => im.svn), (5, 0, c.fuses.svn)]
  else if off = Reg.secKeys then [(7, 4, c.fuses.revoked.val), (3, 0, c.fuses.present.val)]
  else if off = Reg.secFwActive then [(31, 0, image fun im => im.version.toNat)]
  else if off = Reg.secFwStaged then [(31, 0, match other with | some im => if c.staged then im.version.toNat else 0 | none => 0)]
  else if off = Reg.secTenantKeys then whole 12 (c.keys.filter fun e => !e.2.isEmpty).length
  else if Reg.secMeasData 0 ≤ off ∧ off < Reg.secMeasData 16 then
    let d := s.measurement (s.fld Reg.secMeasSel 7 0)
    [(31, 0, d.toNat / 2 ^ (32 * ((off - Reg.secMeasData 0) / 4)) % 2 ^ 32)]
  else []

/-- A regulator is marked (R531). -/
def Pwr.marked (p : Pwr) : Bool := p.missed.any fun e => e.2 == 3

/-- Pins, temperature, throttle, power and voltage (R539 to R541). -/
def State.pwrRead (s : State) (off : Nat) : List Out1 :=
  let p := s.pwr
  if off = Reg.pwrStatus then
    [bitField 7 p.marked, bitField 5 p.pfailIgnored, bitField 4 (p.pfailHold || s.thermHeld), bitField 2 p.tsync, bitField 1 p.therm,
     bitField 0 p.pfail]
  else if off = Reg.pwrTj then [(7, 0, min 255 p.tj)]
  else if off = Reg.pwrThrottle then
    [(7, 4, b2n (p.causeTj || decide (105 ≤ p.tj)) + 2 * b2n p.causePower + 4 * b2n p.therm + 8 * b2n (decide (3 ≤ p.avsFails))), (2, 0, p.step)]
  else if off = Reg.pwrPower then whole 10 p.watts
  else if off = Reg.pwrAvs then [(9, 0, p.avsTarget)]
  else []

/-! ### Reading BAR0 (R6, R7, R28) -/

/-- The fields of the register at an offset that its storage does not hold. -/
def State.derived (s : State) (off : Nat) : List Out1 :=
  if off < 0x00100000 then s.glbRead off
  else if off < 0x00200000 then s.stkRead off
  else if off < 0x00400000 then s.cmdRead off
  else if off < 0x00600000 then s.satRead off
  else if off < 0x00800000 then s.kvaRead off
  else if off < 0x01000000 then s.coreRead off
  else if off < 0x01200000 then s.plnRead off
  else if off < 0x01400000 then s.memRead off
  else if off < 0x01600000 then s.cdcRead off
  else if off < 0x01800000 then s.flsRead off
  else if off < 0x01C00000 then s.lnkRead off
  else if off < 0x01E00000 then s.xptRead off
  else if off < 0x02000000 then s.shpRead off
  else if off < 0x02100000 then s.bltRead off
  else if off < 0x02200000 then s.secRead off
  else s.pwrRead off

/-- The word that a register reads now. -/
def State.look (s : State) (off : Nat) : Nat :=
  (s.derived off).foldl (fun w f => setBits w f.1 f.2.1 f.2.2) (s.reg off)

/-- A 32-bit read under R7: the low half of a pair latches the high half, and the next read of the high half takes what was latched. -/
def State.readHalf (s : State) (off : Nat) : State × Nat :=
  match findReg off with
  | none => (s, 0)
  | some (r, _) =>
    if r.pairR then
      ({ s with bar := { s.bar with latch := aput s.bar.latch off (BitVec.ofNat 32 (s.look (off + 4))) } }, s.look off)
    else
      match afind s.bar.latch (off - 4) with
      | some w => ({ s with bar := { s.bar with latch := adel s.bar.latch (off - 4) } }, w.toNat)
      | none => (s, s.look off)

/-- A BAR0 read of 32 bits, or of 64 bits (R6, R7, R28): what it leaves and what it returns. -/
def State.barRead (s : State) (off : Nat) (wide : Bool) : State × Nat :=
  if !s.present then (s, 0)
  else if !accessOk off (if wide then 8 else 4) ∨ !s.bar0Serves off then (s.accessNote off, 0)
  else if wide then
    let a := s.readHalf off
    let b := a.1.readHalf (off + 4)
    (b.1, a.2 + 2 ^ 32 * b.2)
  else s.readHalf off

end Sys2Proof.Machine
end

