-- ==== Sys2Proof/Machine/Packets.lean ====
section
/-!
DEFINITION. Machine/Packets.lean: what every window and ring does (chapter 14): packets that are not served, NOP, DEVICE_QUERY, rings, and
packets over the fabric.
-/
namespace Sys2Proof.Machine

/-! ### Packets that are not served (R445, R446, R452) -/

/-- A window takes packets. -/
def State.takes (s : State) (w : Nat) : Bool :=
  (s.window w).state == .enabled && (s.fn (windowFn w)).enabled && !(s.fn (windowFn w)).draining

/-- WINDOW_BAD_LENGTH (R446). -/
def execWindowBadLength (window : Fin 32) (opcode : Nat) (tag : Word) (length : Nat) (s : State) : Host.Outcome State Fault Refusal :=
  if s.takes window.val && badLength (s.window window.val).cons length then .next (s.windowError window.val opcode tag .badLength)
  else .next s

/-- PACKET_CHECK_MISMATCH (R445): answered BAD_CHECK, counted, its bytes released; the packet is not taken. A reply ring without room stalls
the window. -/
def execPacketCheckMismatch (h : Header) (opcode : Nat) (s : State) : Host.Outcome State Fault Refusal :=
  match h.origin with
  | .window w =>
    let s1 := s.at_ h.now
    let x := s1.window w.val
    if !s1.takes w.val then .next s1
    else if badLength x.cons h.length then .next (s1.windowError w.val opcode h.tag .badLength)
    else
      let room : Bool := match afind s1.cmd.rings (windowRing w.val) with | some r => r.room (x.resv + 1) | none => true
      if !room then .next s1
      else
        let c := nextCons x.cons h.length
        .next (((s1.modWindow w.val fun y => { y with cons := c }).count Reg.cmdCntCheck 1).putRecord (windowRing w.val)
          (replyRecord opcode .badCheck true false h.tag c s1.me []))
  | _ => .next s

/-- The opcodes of R453, by group: how many of them each group byte has. -/
def opcodeCounts : List Nat := [7, 7, 2, 9, 6, 10, 2, 7, 2, 4]

/-- An opcode of R453. -/
def opcodeKnown (op : Nat) : Bool := decide (op % 256 < opcodeCounts.getD (op / 256) 0)

/-- UNDEFINED_OPCODE (R452): an opcode absent from R453 is answered BAD_OPCODE. -/
def execUndefinedOpcode (h : Header) (opcode : Nat) (s : State) : Host.Outcome State Fault Refusal :=
  if opcodeKnown opcode then .next s
  else
    match s.take h opcode 1 false with
    | (s1, none) => .next s1
    | (s1, some r) =>
      .next (s1.done r (if s1.blt.l3 then .deviceFault else if s1.sec.run = .stopped then .partitionBusy else .badOpcode))

/-! ### NOP and DEVICE_QUERY (R453) -/

/-- NOP (R444, R453): taken without a reply, of any length that its window allows. -/
def execNop (h : Header) (s : State) : Host.Outcome State Fault Refusal :=
  let s1 := s.at_ h.now
  match h.origin with
  | .window w => .next (s1.takeWindow w.val h 0x0000 0 false).1
  | .fabric .. =>
    .next { s1 with cmd := { s1.cmd with accepted := s1.cmd.accepted.erase { origin := h.origin, opcode := 0x0000, tag := h.tag } } }
  | .bmc => .next s1

/-- DEVICE_QUERY (R453): GLB_IDENT, GLB_VERSION, GLB_DEVICE_ID and GLB_CAP as they read, the stroke, and system time. -/
def execDeviceQuery (h : Header) (s : State) : Host.Outcome State Fault Refusal :=
  .next (s.serve { op := 0x0001, replies := 1, vf := true, tenant := false, params := 0, rsv := 0, addrs := 0, localOnly := false } h false
    fun r x => x.answer r .ok true
      (leBytes 4 (x.look Reg.glbIdent) ++ leBytes 4 (x.look Reg.glbVersion) ++ leBytes 4 (x.look Reg.glbDeviceId) ++
        leBytes 4 (x.look Reg.glbCap) ++ leBytes 8 x.strokeNow ++ leBytes 8 x.stk.time))

/-! ### Rings (R455 to R457, R460, R461) -/

/-- The function that a packet acts for: PF0, or the one of its partition (R452). -/
def Origin.fnOf (o : Origin) : Nat := match o.partition with | some p => partFn p.val | none => 0

/-- The ring that KIND, WINDOW and INDEX name on a function, where they name one (R455). -/
def ringNamed (fn kind window index : Nat) : Option Nat :=
  match kind with
  | 0 => if index = 0 ∧ window < (if fn = 0 then 16 else 1) then some (ringKey fn .reply window) else none
  | 1 => if index = 0 ∧ window = 0 then some (ringKey fn .event 0) else none
  | 2 => if index < 4096 ∧ window = 0 then some (ringKey fn .stream index) else none
  | _ => none

/-- Stream rings on the device (R455). -/
def State.streamRings (s : State) : Nat := (s.cmd.rings.filter fun e => ringKind e.1 == .stream).length

/-- A packet creates the reply ring of the window it came through (R455). -/
def createsOwn (o : Origin) (kind window : Nat) : Bool :=
  match o with
  | .window w => kind == 0 && window == (if w.val < 16 then w.val else 0)
  | _ => false

/-- A new ring: nothing written, nothing consumed. -/
def Ring.new (entries base ctrl vector intRecords intDelay : Nat) : Ring :=
  { entries := entries, base := base, ctrl := ctrl, vector := vector, intRecords := intRecords, intDelay := intDelay, prod := 0, cons := 0,
    unsignalled := 0, backlog := [], lost := 0, seq := 0 }

/-- RING_CREATE (R455). -/
def execRingCreate (h : Header) (kind window index entries : Nat) (base ctrl : BitVec 64) (vector : BitVec 16) (intRecords intDelay : Nat)
    (rsv : Nat) (s : State) : Host.Outcome State Fault Refusal :=
  .next (s.serve { op := 0x0002, replies := 1, vf := true, tenant := false, params := 32, rsv := rsv, addrs := 0, localOnly := true } h
    (createsOwn h.origin kind window) fun r x =>
      match ringNamed h.origin.fnOf kind window index with
      | none => x.done r .badField
      | some key =>
        if !isPow2 64 65536 entries ∨ base.toNat % 4096 ≠ 0 ∨ ctrl.toNat % 64 ≠ 0 ∨ (2048 ≤ vector.toNat ∧ vector ≠ 0xFFFF) ∨ intRecords = 0 ∨
            entries < intRecords ∨ 1000 < intDelay ∨ (afind x.cmd.rings key).isSome then x.done r .badField
        else if kind = 2 ∧ 16384 ≤ x.streamRings then x.done r .noResource
        else
          let x1 : State := { x with cmd := { x.cmd with
            rings := aput x.cmd.rings key (Ring.new entries base.toNat ctrl.toNat vector.toNat intRecords intDelay) } }
          x1.done r .ok)

/-- RING_DESTROY (R453): not the reply ring of an ENABLED window. -/
def execRingDestroy (h : Header) (kind index rsv : Nat) (s : State) : Host.Outcome State Fault Refusal :=
  .next (s.serve { op := 0x0003, replies := 1, vf := true, tenant := false, params := 4, rsv := rsv, addrs := 0, localOnly := true } h false
    fun r x =>
      let fn := h.origin.fnOf
      match (if kind = 0 then ringNamed fn 0 index 0 else ringNamed fn kind 0 index) with
      | none => x.done r .badField
      | some key =>
        if kind = 0 ∧ (x.window (if fn = 0 then index else 15 + fn)).state = .enabled then x.done r .badField
        else if (afind x.cmd.rings key).isNone then x.done r .alreadyDone
        else (x.destroyRing key).done r .ok)

/-- Write the records that wait, while the ring has room (R460). -/
def State.drainRing (s : State) (key : Nat) : Nat → State
  | 0 => s
  | n + 1 =>
    match afind s.cmd.rings key with
    | none => s
    | some r =>
      match r.backlog with
      | [] => s
      | rec_ :: t =>
        if r.used < r.entries ∧ (s.fn (ringFn key)).draining = false then (s.writeRecord key { r with backlog := t } rec_).drainRing key n
        else s

/-- Once space returns, one OVERFLOW event says how many events were dropped (R461). -/
def State.overflow (s : State) (key : Nat) : State :=
  match afind s.cmd.rings key with
  | none => s
  | some r =>
    if r.lost = 0 ∨ !r.room 1 then s
    else
      let s1 : State := { s with cmd := { s.cmd with rings := aput s.cmd.rings key { r with lost := 0 } } }
      s1.event (ringFn key) 7 .ok (ringFn key - 1) (leBytes 4 (min 0xFFFFFFFF r.lost))

/-- RING_SPACE_POLL (R456, R460, R461): CONS is read; records that wait go into the space found. -/
def execRingSpacePoll (fn : Fin 17) (kind : RingKind) (index : Fin 4096) (cons : BitVec 32) (s : State) :
    Host.Outcome State Fault Refusal :=
  let key := ringKey fn.val kind index.val
  match afind s.cmd.rings key with
  | none => .next s
  | some r =>
    let s1 : State := { s with cmd := { s.cmd with rings := aput s.cmd.rings key { r with cons := cons } } }
    .next ((s1.drainRing key r.backlog.length).overflow key)

/-- MSIX_DELAY_EXPIRY (R457). -/
def execMsixDelayExpiry (fn : Fin 17) (kind : RingKind) (index : Fin 4096) (s : State) : Host.Outcome State Fault Refusal :=
  let key := ringKey fn.val kind index.val
  match afind s.cmd.rings key with
  | none => .next s
  | some r =>
    if r.unsignalled = 0 then .next s
    else
      let s1 : State := { s with cmd := { s.cmd with rings := aput s.cmd.rings key { r with unsignalled := 0 } } }
      .next (s1.msix fn.val r.vector)

/-! ### Packets over the fabric (R462 to R464) -/

/-- The tenant of a satchel as this device knows it: as its owner, or as its registrar. -/
def State.tenantOf (s : State) (id : SatchelId) : Option (BitVec 16) :=
  match s.anySlot id with
  | some k => (s.satAt k).map fun x => x.tenant
  | none => (s.recOf id).map fun c => c.tenant

/-- CMD_TRUST.PF_SCOPE covers a source device (R463, R468). -/
def State.pfTrusted (s : State) (src : DeviceId) : Bool :=
  match s.fld Reg.cmdTrust 1 0 with
  | 1 => harness src == harness s.me
  | 2 => true
  | _ => false

/-- CMD_TRUST.PART_REMOTE and the rest of R463's second case hold. -/
def State.partTrusted (s : State) (op : Nat) (h : Header) (satchel : Option SatchelId) : Bool :=
  s.flag Reg.cmdTrust 2 && op / 256 == 3 && s.granted h.part.val h.tenant &&
    match satchel with
    | some id => s.tenantOf id == some h.tenant
    | none => true

/-- A reply record returns for a forwarded packet (R462): written into the window's ring with REMOTE set and the packet's own CONSUMED; a
late one finds no slot and is dropped (R464). -/
def State.remoteAnswer (s : State) (src : DeviceId) (slot : Nat) (record : List Byte) : State :=
  match afind s.cmd.slots slot with
  | none => s
  | some e =>
    if e.dest ≠ src then s
    else
      let flags := record.getD 3 0#8
      let final := bitAt flags.toNat 6
      let rec_ := (record.take 3 ++ [BitVec.ofNat 8 (64 * b2n final + 32)] ++ (record.drop 4).take 4 ++ leBytes 4 e.reply.consumed ++
        (record.drop 12).take 52)
      let s1 := (s.putRecord (windowRing e.window.val) rec_).modWindow e.window.val fun x =>
        { x with resv := x.resv - (if final then e.reply.left else 1) }
      let rest := if final then adel s1.cmd.slots slot
        else aput s1.cmd.slots slot { e with reply := { e.reply with left := e.reply.left - 1 } }
      { s1 with cmd := { s1.cmd with slots := rest } }

/-- COMMAND (R462, R463; R99 for a query or recovery on its way to the registrar): a packet is accepted, to be served as its own row, or answered PROTECTION; a reply finds its slot; any other AUTH
is dropped. -/
def execCommand (e : Envelope) (opcode : Nat) (h : Header) (satchel : Option SatchelId) (record : List Byte) (s : State) :
    Host.Outcome State Fault Refusal :=
  let s1 := s.at_ h.now
  let origin : Origin := .fabric e.src (e.auth == 1) h.part e.win e.slot
  let judged (ok : Bool) : State :=
    if ok then
      { s1.count Reg.cmdCntRemote 1 with cmd := { s1.cmd with accepted := s1.cmd.accepted ++ [{ origin := origin, opcode := opcode, tag := h.tag }] } }
    else
      (s1.count Reg.cmdCntRefused 1).emit (.remoteReply e.src e.win e.slot (replyRecord opcode .protection true true h.tag 0 s1.me []))
  match e.auth with
  | 0 => .next (judged (s1.pfTrusted e.src || registrarBound opcode h))
  | 1 => .next (judged (s1.partTrusted opcode h satchel || registrarBound opcode h))
  | 2 => .next (s1.remoteAnswer e.src e.slot.toNat record)
  | _ => .next s1

/-- REMOTE_COMMAND_TIMEOUT (R464): a final reply of TIER_ERROR REMOTE_TIMEOUT after the packet was sent. -/
def execRemoteCommandTimeout (slot : Nat) (s : State) : Host.Outcome State Fault Refusal :=
  match afind s.cmd.slots slot with
  | none => .next s
  | some e =>
    let s1 := s.at_ (e.sentAt + max 1 (s.fld Reg.cmdCtrl 23 8) * 1000000)
    let s2 : State := { s1 with cmd := { s1.cmd with slots := adel s1.cmd.slots slot } }
    .next (s2.done e.reply .tierError)

end Sys2Proof.Machine
end

