-- ==== Sys2Proof/Machine/Dispatch.lean ====
section
/-!
DEFINITION. Machine/Dispatch.lean: each command's meaning, one arm per constructor.
-/
namespace Sys2Proof.Machine

def exec (i : Instr) (s : State) : Host.Outcome State Fault Refusal :=
  match i with
  | .registerWrite off wide value => Sys2Proof.Machine.execRegisterWrite off wide value s
  | .bar0InvalidAccess write off bytes => Sys2Proof.Machine.execBar0InvalidAccess write off bytes s
  | .glbDeviceIdWrite value => Sys2Proof.Machine.execGlbDeviceIdWrite value s
  | .blockLockWrite off value => Sys2Proof.Machine.execBlockLockWrite off value s
  | .satEnable value => Sys2Proof.Machine.execSatEnable value s
  | .kvaEnable value => Sys2Proof.Machine.execKvaEnable value s
  | .memEnable value => Sys2Proof.Machine.execMemEnable value s
  | .cdcEnable value => Sys2Proof.Machine.execCdcEnable value s
  | .flsEnable value => Sys2Proof.Machine.execFlsEnable value s
  | .xptEnable value => Sys2Proof.Machine.execXptEnable value s
  | .plnEnable value => Sys2Proof.Machine.execPlnEnable value s
  | .lnkEnable value => Sys2Proof.Machine.execLnkEnable value s
  | .shpEnable value => Sys2Proof.Machine.execShpEnable value s
  | .cmdEnable value => Sys2Proof.Machine.execCmdEnable value s
  | .portCtrlWrite port value => Sys2Proof.Machine.execPortCtrlWrite port value s
  | .gateBankSwap value => Sys2Proof.Machine.execGateBankSwap value s
  | .gateBankActivate now => Sys2Proof.Machine.execGateBankActivate now s
  | .gateEntryChange now => Sys2Proof.Machine.execGateEntryChange now s
  | .histClear value => Sys2Proof.Machine.execHistClear value s
  | .histSample now => Sys2Proof.Machine.execHistSample now s
  | .windowReset window viaBar0 value => Sys2Proof.Machine.execWindowReset window viaBar0 value s
  | .faultnHoldWrite value => Sys2Proof.Machine.execFaultnHoldWrite value s
  | .coreIsolate core value => Sys2Proof.Machine.execCoreIsolate core value s
  | .codecGroupIsolate group value => Sys2Proof.Machine.execCodecGroupIsolate group value s
  | .plnPCfgWrite part c0 value => Sys2Proof.Machine.execPlnPCfgWrite part c0 value s
  | .syncSend now => Sys2Proof.Machine.execSyncSend now s
  | .syncExchange port t1 t2 t3 t4 cfg => Sys2Proof.Machine.execSyncExchange port t1 t2 t3 t4 cfg s
  | .parentLost now => Sys2Proof.Machine.execParentLost now s
  | .unaligned now => Sys2Proof.Machine.execUnaligned now s
  | .tsyncInPulse now => Sys2Proof.Machine.execTsyncInPulse now s
  | .refHoldover now => Sys2Proof.Machine.execRefHoldover now s
  | .tsyncOutPulse now => Sys2Proof.Machine.execTsyncOutPulse now s
  | .strokeBoundary preds cuts => Sys2Proof.Machine.execStrokeBoundary preds cuts s
  | .issuePhase => Sys2Proof.Machine.execIssuePhase s
  | .computePhase => Sys2Proof.Machine.execComputePhase s
  | .exchangePhase => Sys2Proof.Machine.execExchangePhase s
  | .inkPoint late => Sys2Proof.Machine.execInkPoint late s
  | .commitComplete part now preds cut => Sys2Proof.Machine.execCommitComplete part now preds cut s
  | .strokeConfig h mode cfg stroke rsv => Sys2Proof.Machine.execStrokeConfig h mode cfg stroke rsv s
  | .timeSet h time => Sys2Proof.Machine.execTimeSet h time s
  | .satchelAdmit h p shardsOk => Sys2Proof.Machine.execSatchelAdmit h p shardsOk s
  | .satchelAppend h id count reviveDev revivePart byRef tokens rsv => Sys2Proof.Machine.execSatchelAppend h id count reviveDev revivePart byRef tokens rsv s
  | .satchelCancel h id rsv => Sys2Proof.Machine.execSatchelCancel h id rsv s
  | .satchelMove h id dev dpart full rsv => Sys2Proof.Machine.execSatchelMove h id dev dpart full rsv s
  | .satchelFree h id => Sys2Proof.Machine.execSatchelFree h id s
  | .satchelQuery h id outAddr => Sys2Proof.Machine.execSatchelQuery h id outAddr s
  | .satchelRecover h id dev dpart rsv => Sys2Proof.Machine.execSatchelRecover h id dev dpart rsv s
  | .offer m image full part inside sentBy transit shardsOk => Sys2Proof.Machine.execOffer m image full part inside sentBy transit shardsOk s
  | .offerNote m => Sys2Proof.Machine.execOfferNote m s
  | .receiverDataComplete id result log forms shardsTaken => Sys2Proof.Machine.execReceiverDataComplete id result log forms shardsTaken s
  | .claim m => Sys2Proof.Machine.execClaim m s
  | .commit m => Sys2Proof.Machine.execCommit m s
  | .release m => Sys2Proof.Machine.execRelease m s
  | .decline m => Sys2Proof.Machine.execDecline m s
  | .abortReq m => Sys2Proof.Machine.execAbortReq m s
  | .abortAns m => Sys2Proof.Machine.execAbortAns m s
  | .mirror m tokens => Sys2Proof.Machine.execMirror m tokens s
  | .mirrorAck m => Sys2Proof.Machine.execMirrorAck m s
  | .register m image log => Sys2Proof.Machine.execRegister m image log s
  | .registerAck m => Sys2Proof.Machine.execRegisterAck m s
  | .probe m => Sys2Proof.Machine.execProbe m s
  | .probeAns m => Sys2Proof.Machine.execProbeAns m s
  | .surrender m => Sys2Proof.Machine.execSurrender m s
  | .recoverAssign m part image log => Sys2Proof.Machine.execRecoverAssign m part image log s
  | .recoverAns m => Sys2Proof.Machine.execRecoverAns m s
  | .custodyMessageReturned ty m p => Sys2Proof.Machine.execCustodyMessageReturned ty m p s
  | .custodyUndelivered ty dst m p => Sys2Proof.Machine.execCustodyUndelivered ty dst m p s
  | .releaseTimeout id => Sys2Proof.Machine.execReleaseTimeout id s
  | .commitTimeout id => Sys2Proof.Machine.execCommitTimeout id s
  | .commitProbeTimer id => Sys2Proof.Machine.execCommitProbeTimer id s
  | .ownerLossTimeout id => Sys2Proof.Machine.execOwnerLossTimeout id s
  | .silentOwnerProbe id => Sys2Proof.Machine.execSilentOwnerProbe id s
  | .recoverAnsTimeout id => Sys2Proof.Machine.execRecoverAnsTimeout id s
  | .mirrorAckOverdue id => Sys2Proof.Machine.execMirrorAckOverdue id s
  | .registerRetry id => Sys2Proof.Machine.execRegisterRetry id s
  | .reregWindowClose member => Sys2Proof.Machine.execReregWindowClose member s
  | .rehomeAck id dst arrived last => Sys2Proof.Machine.execRehomeAck id dst arrived last s
  | .migrationComplete id => Sys2Proof.Machine.execMigrationComplete id s
  | .lodgingExpiry id => Sys2Proof.Machine.execLodgingExpiry id s
  | .satelliteExpiry id => Sys2Proof.Machine.execSatelliteExpiry id s
  | .waitTimeoutExpiry id => Sys2Proof.Machine.execWaitTimeoutExpiry id s
  | .parkConfig h cfg nTargets revivePart rsv => Sys2Proof.Machine.execParkConfig h cfg nTargets revivePart rsv s
  | .parkingDue part => Sys2Proof.Machine.execParkingDue part s
  | .parkingComplete id => Sys2Proof.Machine.execParkingComplete id s
  | .cachePathRetry id => Sys2Proof.Machine.execCachePathRetry id s
  | .leadRestoreStart id => Sys2Proof.Machine.execLeadRestoreStart id s
  | .revivalResident id => Sys2Proof.Machine.execRevivalResident id s
  | .parkPool h warm cold => Sys2Proof.Machine.execParkPool h warm cold s
  | .tenantPark h tenant warmFloor warmCap coldFloor coldCap rsv => Sys2Proof.Machine.execTenantPark h tenant warmFloor warmCap coldFloor coldCap rsv s
  | .parkQuery h tenant rsv => Sys2Proof.Machine.execParkQuery h tenant rsv s
  | .inkwellPublish h id length pub rsv => Sys2Proof.Machine.execInkwellPublish h id length pub rsv s
  | .inkwellWithdraw h prefixId rsv => Sys2Proof.Machine.execInkwellWithdraw h prefixId rsv s
  | .inkwellPinEnd reader => Sys2Proof.Machine.execInkwellPinEnd reader s
  | .kvSwapConfig h t2Units nExt extents rsv => Sys2Proof.Machine.execKvSwapConfig h t2Units nExt extents rsv s
  | .swapOutComplete id row toT2 => Sys2Proof.Machine.execSwapOutComplete id row toT2 s
  | .swapReturnComplete id row ok retried => Sys2Proof.Machine.execSwapReturnComplete id row ok retried s
  | .tqPush core thr w pc v1 v2 => Sys2Proof.Machine.execTqPush core thr w pc v1 v2 s
  | .tqPushResume core thr => Sys2Proof.Machine.execTqPushResume core thr s
  | .tqPoll core thr w pc v1 v2 => Sys2Proof.Machine.execTqPoll core thr w pc v1 v2 s
  | .tqWait core thr w pc v1 v2 => Sys2Proof.Machine.execTqWait core thr w pc v1 v2 s
  | .tqFence core thr w pc v1 v2 => Sys2Proof.Machine.execTqFence core thr w pc v1 v2 s
  | .cvSet core thr w pc v1 v2 => Sys2Proof.Machine.execCvSet core thr w pc v1 v2 s
  | .cvClr core thr w pc v1 v2 => Sys2Proof.Machine.execCvClr core thr w pc v1 v2 s
  | .cvWait core thr w pc v1 v2 => Sys2Proof.Machine.execCvWait core thr w pc v1 v2 s
  | .cvRead core thr w pc v1 v2 => Sys2Proof.Machine.execCvRead core thr w pc v1 v2 s
  | .threadTrap core thr cause pc tval => Sys2Proof.Machine.execThreadTrap core thr cause pc tval s
  | .matmul core eng seq => Sys2Proof.Machine.execMatmul core eng seq s
  | .attend core eng seq => Sys2Proof.Machine.execAttend core eng seq s
  | .sample core seq tapped => Sys2Proof.Machine.execSample core seq tapped s
  | .vector core seq => Sys2Proof.Machine.execVector core seq s
  | .commandComplete core dev seq => Sys2Proof.Machine.execCommandComplete core dev seq s
  | .faultResume h faultId action rsv => Sys2Proof.Machine.execFaultResume h faultId action rsv s
  | .faultTimeout faultId => Sys2Proof.Machine.execFaultTimeout faultId s
  | .partitionCompose h p src => Sys2Proof.Machine.execPartitionCompose h p src s
  | .heldComposeStart part => Sys2Proof.Machine.execHeldComposeStart part s
  | .composeZeroingDone part image peerReady => Sys2Proof.Machine.execComposeZeroingDone part image peerReady s
  | .composeWeightsInPlace part => Sys2Proof.Machine.execComposeWeightsInPlace part s
  | .composeFailed part status => Sys2Proof.Machine.execComposeFailed part status s
  | .partitionDecompose h => Sys2Proof.Machine.execPartitionDecompose h s
  | .partitionDrainComplete part => Sys2Proof.Machine.execPartitionDrainComplete part s
  | .partitionSuspend h => Sys2Proof.Machine.execPartitionSuspend h s
  | .suspendSaveComplete part chunkLost => Sys2Proof.Machine.execSuspendSaveComplete part chunkLost s
  | .partitionResume h => Sys2Proof.Machine.execPartitionResume h s
  | .resumeRestoreComplete part => Sys2Proof.Machine.execResumeRestoreComplete part s
  | .instanceSet h position dev dpart sameModel noSatellites rsv => Sys2Proof.Machine.execInstanceSet h position dev dpart sameModel noSatellites rsv s
  | .instanceSetComplete part => Sys2Proof.Machine.execInstanceSetComplete part s
  | .adapterLoad h adapter rank version source swap srcDev srcPart srcAddr rsv => Sys2Proof.Machine.execAdapterLoad h adapter rank version source swap srcDev srcPart srcAddr rsv s
  | .adapterLoadComplete part adapter version result => Sys2Proof.Machine.execAdapterLoadComplete part adapter version result s
  | .adapterUnload h adapter rsv => Sys2Proof.Machine.execAdapterUnload h adapter rsv s
  | .tenantBudget h tenant rate burst floor rsv => Sys2Proof.Machine.execTenantBudget h tenant rate burst floor rsv s
  | .partitionTenants h action n tenants rsv => Sys2Proof.Machine.execPartitionTenants h action n tenants rsv s
  | .tenantRelease h tenant rsv => Sys2Proof.Machine.execTenantRelease h tenant rsv s
  | .weightRefetchTimeout part addr => Sys2Proof.Machine.execWeightRefetchTimeout part addr s
  | .t1TrainingComplete trained => Sys2Proof.Machine.execT1TrainingComplete trained s
  | .t1Tracking ok => Sys2Proof.Machine.execT1Tracking ok s
  | .t1TempRead temps => Sys2Proof.Machine.execT1TempRead temps s
  | .patrolScrub pa corrected uncorrectable => Sys2Proof.Machine.execPatrolScrub pa corrected uncorrectable s
  | .tlbInvalidate h scope base length rsv => Sys2Proof.Machine.execTlbInvalidate h scope base length rsv s
  | .regionMove h ipa length dest => Sys2Proof.Machine.execRegionMove h ipa length dest s
  | .regionMovePageComplete ipa result => Sys2Proof.Machine.execRegionMovePageComplete ipa result s
  | .codecBlockComplete id block encode group errors index fetched => Sys2Proof.Machine.execCodecBlockComplete id block encode group errors index fetched s
  | .codecReread id block group index fetched => Sys2Proof.Machine.execCodecReread id block group index fetched s
  | .flashFormat h op rsv => Sys2Proof.Machine.execFlashFormat h op rsv s
  | .flashExtentCreate h ext kind owner units => Sys2Proof.Machine.execFlashExtentCreate h ext kind owner units s
  | .flashExtentDelete h ext rsv => Sys2Proof.Machine.execFlashExtentDelete h ext rsv s
  | .flashWrite h ext offset count addr rsv => Sys2Proof.Machine.execFlashWrite h ext offset count addr rsv s
  | .flashRead h ext offset count addr unreadable rsv => Sys2Proof.Machine.execFlashRead h ext offset count addr unreadable rsv s
  | .flashDiscard h ext offset count rsv => Sys2Proof.Machine.execFlashDiscard h ext offset count rsv s
  | .flashHealth h outAddr => Sys2Proof.Machine.execFlashHealth h outAddr s
  | .unitProgramComplete seq pua => Sys2Proof.Machine.execUnitProgramComplete seq pua s
  | .programFailure seq pua dieLost => Sys2Proof.Machine.execProgramFailure seq pua dieLost s
  | .journalCommit now => Sys2Proof.Machine.execJournalCommit now s
  | .journalDurable records => Sys2Proof.Machine.execJournalDurable records s
  | .mapCheckpoint page => Sys2Proof.Machine.execMapCheckpoint page s
  | .codewordDecode pua decoder bits how verify => Sys2Proof.Machine.execCodewordDecode pua decoder bits how verify s
  | .blockVerify block worst bad => Sys2Proof.Machine.execBlockVerify block worst bad s
  | .gcStart group victim => Sys2Proof.Machine.execGcStart group victim s
  | .sourceErase block => Sys2Proof.Machine.execSourceErase block s
  | .eraseComplete block ok => Sys2Proof.Machine.execEraseComplete block ok s
  | .nandTempRead temps => Sys2Proof.Machine.execNandTempRead temps s
  | .ftlRecoveryComplete bad => Sys2Proof.Machine.execFtlRecoveryComplete bad s
  | .pfailAssert now => Sys2Proof.Machine.execPfailAssert now s
  | .pfailRelease => Sys2Proof.Machine.execPfailRelease s
  | .pfailHoldoffEnd active again now => Sys2Proof.Machine.execPfailHoldoffEnd active again now s
  | .pfailStuck => Sys2Proof.Machine.execPfailStuck s
  | .pfailRearm => Sys2Proof.Machine.execPfailRearm s
  | .thermAssert now => Sys2Proof.Machine.execThermAssert now s
  | .thermRelease now => Sys2Proof.Machine.execThermRelease now s
  | .inputGlitch pin now => Sys2Proof.Machine.execInputGlitch pin now s
  | .portTrained port fact now => Sys2Proof.Machine.execPortTrained port fact now s
  | .portTrainingTimeout port => Sys2Proof.Machine.execPortTrainingTimeout port s
  | .portRetrain port => Sys2Proof.Machine.execPortRetrain port s
  | .laneLoss port working now => Sys2Proof.Machine.execLaneLoss port working now s
  | .ctrlFlitTimeout port now => Sys2Proof.Machine.execCtrlFlitTimeout port now s
  | .dataFlitReceive port seq hdr fecOk => Sys2Proof.Machine.execDataFlitReceive port seq hdr fecOk s
  | .ctrlFlitReceive port hdr body now => Sys2Proof.Machine.execCtrlFlitReceive port hdr body now s
  | .packetRoute port pkt now => Sys2Proof.Machine.execPacketRoute port pkt now s
  | .linkStateSend now => Sys2Proof.Machine.execLinkStateSend now s
  | .linkState src seq up levels now => Sys2Proof.Machine.execLinkState src seq up levels now s
  | .linkStateStale member => Sys2Proof.Machine.execLinkStateStale member s
  | .probePacket src dst => Sys2Proof.Machine.execProbePacket src dst s
  | .probePacketAns src dst => Sys2Proof.Machine.execProbePacketAns src dst s
  | .probeTimeout port now => Sys2Proof.Machine.execProbeTimeout port now s
  | .deadNotice dev seq alive now => Sys2Proof.Machine.execDeadNotice dev seq alive now s
  | .portControl h port action rsv => Sys2Proof.Machine.execPortControl h port action rsv s
  | .portDrainComplete port => Sys2Proof.Machine.execPortDrainComplete port s
  | .portDrainTimeout port => Sys2Proof.Machine.execPortDrainTimeout port s
  | .gatewayFrameReceive f now => Sys2Proof.Machine.execGatewayFrameReceive f now s
  | .openPkt p now => Sys2Proof.Machine.execOpenPkt p now s
  | .openAck p now => Sys2Proof.Machine.execOpenAck p now s
  | .closePkt p now => Sys2Proof.Machine.execClosePkt p now s
  | .closeAck p now => Sys2Proof.Machine.execCloseAck p now s
  | .closeTimeout conn now => Sys2Proof.Machine.execCloseTimeout conn now s
  | .connectionIdle conn => Sys2Proof.Machine.execConnectionIdle conn s
  | .ack p now => Sys2Proof.Machine.execAck p now s
  | .ackDelayTimer conn now => Sys2Proof.Machine.execAckDelayTimer conn now s
  | .nak p now => Sys2Proof.Machine.execNak p now s
  | .notReadyRetry conn now => Sys2Proof.Machine.execNotReadyRetry conn now s
  | .retransmitTimeout conn now => Sys2Proof.Machine.execRetransmitTimeout conn now s
  | .put p now => Sys2Proof.Machine.execPut p now s
  | .get p now => Sys2Proof.Machine.execGet p now s
  | .getData p now => Sys2Proof.Machine.execGetData p now s
  | .store p now => Sys2Proof.Machine.execStore p now s
  | .load p now => Sys2Proof.Machine.execLoad p now s
  | .loadData p now => Sys2Proof.Machine.execLoadData p now s
  | .atomic p now => Sys2Proof.Machine.execAtomic p now s
  | .atomicData p now => Sys2Proof.Machine.execAtomicData p now s
  | .combined p now => Sys2Proof.Machine.execCombined p now s
  | .combinedData p now => Sys2Proof.Machine.execCombinedData p now s
  | .combineHoldExpiry index complete now => Sys2Proof.Machine.execCombineHoldExpiry index complete now s
  | .query p now => Sys2Proof.Machine.execQuery p now s
  | .queryData p now => Sys2Proof.Machine.execQueryData p now s
  | .resultHoldExpiry conn inc now => Sys2Proof.Machine.execResultHoldExpiry conn inc now s
  | .reduce p now => Sys2Proof.Machine.execReduce p now s
  | .complete p now => Sys2Proof.Machine.execComplete p now s
  | .command e opcode h satchel record => Sys2Proof.Machine.execCommand e opcode h satchel record s
  | .xqEntry queue now => Sys2Proof.Machine.execXqEntry queue now s
  | .xqCompletion tag => Sys2Proof.Machine.execXqCompletion tag s
  | .regionRegister h base length perms flags draw rsv => Sys2Proof.Machine.execRegionRegister h base length perms flags draw rsv s
  | .regionRevoke h key => Sys2Proof.Machine.execRegionRevoke h key s
  | .regionRevokeComplete index => Sys2Proof.Machine.execRegionRevokeComplete index s
  | .revokeAbandonTimeout index now => Sys2Proof.Machine.execRevokeAbandonTimeout index now s
  | .xqCreate h entries ring rsv => Sys2Proof.Machine.execXqCreate h entries ring rsv s
  | .xqDestroy h queue rsv => Sys2Proof.Machine.execXqDestroy h queue rsv s
  | .connQuery h conn outAddr rsv => Sys2Proof.Machine.execConnQuery h conn outAddr rsv s
  | .atomicQuery h dev handle rsv => Sys2Proof.Machine.execAtomicQuery h dev handle rsv s
  | .collectorCreate h collector bit n cls rsv => Sys2Proof.Machine.execCollectorCreate h collector bit n cls rsv s
  | .collectiveCreate h group fn fmt ranks rsv => Sys2Proof.Machine.execCollectiveCreate h group fn fmt ranks rsv s
  | .groupDestroy h kind id rsv => Sys2Proof.Machine.execGroupDestroy h kind id rsv s
  | .windowBadLength window opcode tag length => Sys2Proof.Machine.execWindowBadLength window opcode tag length s
  | .nop h => Sys2Proof.Machine.execNop h s
  | .deviceQuery h => Sys2Proof.Machine.execDeviceQuery h s
  | .ringCreate h kind window index entries base ctrl vector intRecords intDelay rsv => Sys2Proof.Machine.execRingCreate h kind window index entries base ctrl vector intRecords intDelay rsv s
  | .ringDestroy h kind index rsv => Sys2Proof.Machine.execRingDestroy h kind index rsv s
  | .ringSpacePoll fn kind index cons => Sys2Proof.Machine.execRingSpacePoll fn kind index cons s
  | .msixDelayExpiry fn kind index => Sys2Proof.Machine.execMsixDelayExpiry fn kind index s
  | .remoteCommandTimeout slot => Sys2Proof.Machine.execRemoteCommandTimeout slot s
  | .blotterMessage source fresh => Sys2Proof.Machine.execBlotterMessage source fresh s
  | .faultnPulseEnd => Sys2Proof.Machine.execFaultnPulseEnd s
  | .entryAgeClose source kind level => Sys2Proof.Machine.execEntryAgeClose source kind level s
  | .faultAck h mode levels seq rsv => Sys2Proof.Machine.execFaultAck h mode levels seq rsv s
  | .flrVf part => Sys2Proof.Machine.execFlrVf part s
  | .flrPf0 => Sys2Proof.Machine.execFlrPf0 s
  | .flrDrainComplete fn => Sys2Proof.Machine.execFlrDrainComplete fn s
  | .flrSwapTimeout id row => Sys2Proof.Machine.execFlrSwapTimeout id row s
  | .vfEnable on numVfs => Sys2Proof.Machine.execVfEnable on numVfs s
  | .bar4Access fn write upper off data bytes => Sys2Proof.Machine.execBar4Access fn write upper off data bytes s
  | .coldReset board fuses => Sys2Proof.Machine.execColdReset board fuses s
  | .warmReset => Sys2Proof.Machine.execWarmReset s
  | .boot nonce => Sys2Proof.Machine.execBoot nonce s
  | .spdmRequest doe req nonce => Sys2Proof.Machine.execSpdmRequest doe req nonce s
  | .pldmRequest sensor => Sys2Proof.Machine.execPldmRequest sensor s
  | .debugUnlockToken valid => Sys2Proof.Machine.execDebugUnlockToken valid s
  | .identityGet h select length outAddr rsv => Sys2Proof.Machine.execIdentityGet h select length outAddr rsv s
  | .tenantKeySet h tenant gen action key rsv => Sys2Proof.Machine.execTenantKeySet h tenant gen action key rsv s
  | .fwStage h srcAddr length image rsv => Sys2Proof.Machine.execFwStage h srcAddr length image rsv s
  | .fwStageComplete => Sys2Proof.Machine.execFwStageComplete s
  | .fwActivate h mode rsv => Sys2Proof.Machine.execFwActivate h mode rsv s
  | .liveActivationComplete started => Sys2Proof.Machine.execLiveActivationComplete started s
  | .deviceShutdown h mode n deadlineMs targets rsv => Sys2Proof.Machine.execDeviceShutdown h mode n deadlineMs targets rsv s
  | .shutdownDeadline => Sys2Proof.Machine.execShutdownDeadline s
  | .throttleEvaluate tj now => Sys2Proof.Machine.execThrottleEvaluate tj now s
  | .avsWrite acked => Sys2Proof.Machine.execAvsWrite acked s
  | .pmbusPoll readings => Sys2Proof.Machine.execPmbusPoll readings s
  | .flitBoundary port now => Sys2Proof.Machine.execFlitBoundary port now s
  | .policerLevelCovers part cls now => Sys2Proof.Machine.execPolicerLevelCovers part cls now s
  | .harnessWindowAccess part tenant origin access addr now => Sys2Proof.Machine.execHarnessWindowAccess part tenant origin access addr now s
  | .t1RetrainComplete position ok => Sys2Proof.Machine.execT1RetrainComplete position ok s
  | .packetCheckMismatch h opcode => Sys2Proof.Machine.execPacketCheckMismatch h opcode s
  | .undefinedOpcode h opcode => Sys2Proof.Machine.execUndefinedOpcode h opcode s
  | .mctpControl ctl => Sys2Proof.Machine.execMctpControl ctl s
  | .shardPlanReceive part owner stroke instrs => Sys2Proof.Machine.execShardPlanReceive part owner stroke instrs s
  | .ringQueryReceive src cls id layer head limit low own scale held query => Sys2Proof.Machine.execRingQueryReceive src cls id layer head limit low own scale held query s

end Sys2Proof.Machine
end

