-- ==== Sys2Proof/Safety.lean ====
section
/-!
DEFINITION. Safety.lean: what claims are stated in: a safe state of the device (memories in their canonical form, tables of windows, ports, partitions
and functions of the sizes that the spec gives, and satchels in entries of the satchel table: R4, R70, R346, R443, R490), and a command packet that the device serves (R444 to R452).
-/
namespace Sys2Proof.Machine

/-- Every memory of the device and of its host stands in its canonical form. -/
def State.memoriesOk (s : State) : Bool :=
  Memory.wf s.memory.mem && Memory.wf s.host.mem && Memory.wf s.fls.data && Memory.wf s.fls.staged

/-- The fixed tables have their sizes, and every satchel, owned or coming, has an entry of the satchel table (R70). -/
def State.shapeOk (s : State) : Bool :=
  s.cmd.windows.length == 32 && s.lnk.ports.length == 64 && s.pln.parts.length == 16 && s.host.fns.length == 17 &&
    (s.sat.sats.all fun e => decide (e.1 < 4194304)) && s.sat.incoming.all fun i => decide (i.slot < 4194304)

/-- A safe state. -/
def State.Safe (s : State) : Prop := s.memoriesOk = true ∧ s.shapeOk = true

/-- A command packet is taken (R444), found fit by the rules that every opcode shares (R449, R451, R452, R478, R519) and meant for this device: what
is left is its command's own effect, on `s1`, the state with the packet taken, with its replies going to `r`. `q` is the opcode's row of
R453 and `own` says that the packet creates its own window's reply ring. -/
def State.Serves (s : State) (q : PktReq) (h : Header) (own : Bool) (r : ReplyTo) (s1 : State) : Prop :=
  s.take h q.op q.replies own = (s1, some r) ∧ s1.judge q h = none ∧ s1.elsewhere h = false

/-- Thread `thr` of core `core`, whose slice partition `p` holds, runs and comes to the Xlorold instruction `op` with the word `w` (R194 to R198);
`x` is the thread at that instruction: its pc, and the values of rs1 and rs2. -/
def State.ComesTo (s : State) (core : Fin 128) (thr : Fin 64) (w : Word) (pc v1 v2 : BitVec 64) (op : Xop) (p : Nat) (x : Thread) : Prop :=
  s.coreOwner core.val = some p ∧ s.partRuns p = true ∧ (s.thread (threadKey core.val thr.val)).state = .running ∧ xDecode w = some op ∧
    x = (s.thread (threadKey core.val thr.val)).atInstr w pc v1 v2

/-- A unit of a core starts or goes on with a command of its queue, which has the row's opcode (R186, R190); no level 3 record stands (R193). -/
def State.Starts (s : State) (core unit seq opcode : Nat) (c : CoreCmd) : Prop :=
  s.cmdAt core unit seq = some c ∧ c.opcode = opcode ∧ s.cmdMay core unit c = true ∧ s.blt.l3 = false

/-- The groups of the state: BAR0's registers, the board's facts, the blocks of the chapters, what was sent, and the count of free values. -/
inductive Group where
  | bar | board | stk | sat | kva | cores | pln | memory | fls | lnk | xpt | shp | cmd | blt | sec | host | pwr | out | freeCtr
  deriving DecidableEq, Repr

/-- `t` is `s` but for the groups named; the queue is the same. -/
def State.Only (s : State) (l : List Group) (t : State) : Prop :=
  (Group.bar ∈ l ∨ t.bar = s.bar) ∧
  (Group.board ∈ l ∨ t.board = s.board) ∧
  (Group.stk ∈ l ∨ t.stk = s.stk) ∧
  (Group.sat ∈ l ∨ t.sat = s.sat) ∧
  (Group.kva ∈ l ∨ t.kva = s.kva) ∧
  (Group.cores ∈ l ∨ t.cores = s.cores) ∧
  (Group.pln ∈ l ∨ t.pln = s.pln) ∧
  (Group.memory ∈ l ∨ t.memory = s.memory) ∧
  (Group.fls ∈ l ∨ t.fls = s.fls) ∧
  (Group.lnk ∈ l ∨ t.lnk = s.lnk) ∧
  (Group.xpt ∈ l ∨ t.xpt = s.xpt) ∧
  (Group.shp ∈ l ∨ t.shp = s.shp) ∧
  (Group.cmd ∈ l ∨ t.cmd = s.cmd) ∧
  (Group.blt ∈ l ∨ t.blt = s.blt) ∧
  (Group.sec ∈ l ∨ t.sec = s.sec) ∧
  (Group.host ∈ l ∨ t.host = s.host) ∧
  (Group.pwr ∈ l ∨ t.pwr = s.pwr) ∧
  (Group.out ∈ l ∨ t.out = s.out) ∧
  (Group.freeCtr ∈ l ∨ t.freeCtr = s.freeCtr) ∧
  t.pending = s.pending

end Sys2Proof.Machine
end

