-- ==== Sys2Proof/Certificates/Slice0/Obligations.lean ====
section
/-!
DEFINITION. Certificates/Slice0/Obligations.lean: the statements of this row. Each is about the commands that its docstring names, under hypotheses
on the state and the operands alone; `Serves` (Safety.lean) says that a command packet is taken, judged fit and served by this device.
-/
open Sys2Proof Sys2Proof.Machine

/-! ### The machine -/

/-- A step is the command at the front of the queue, on the state with the queue's rest; on an empty queue the device idles (the model's
choice, log entry 32). -/
def Obligations.StepRunsFront : Prop :=
  (∀ (c : Instr) (rest : List Instr) (s : State), step { s with pending := c :: rest } = exec c { s with pending := rest }) ∧
  (∀ s : State, s.pending = [] → step s = .next s)

/-- The device right after reset is safe, and no command waits. -/
def Obligations.ResetSafe : Prop := State.reset.Safe ∧ State.reset.pending = []

/-! ### BAR0's registers (chapter 01) -/

/-- REGISTER_WRITE (R10, R545): a write of a register whose fields are all RW without a rule of their own stores every field and changes no other register; a write of one whose fields are all RWL, in a
locked block, changes nothing and posts one ACCESS note where it would change a field.
BAR0_INVALID_ACCESS (R6, R28): a read returns zero and a write is dropped; either posts an ACCESS note; an access that R6 allows is none of this. -/
def Obligations.RegisterWrite : Prop :=
  (∀ (s : State) (off : Nat) (v : BitVec 64) (r : RegDef) (i : List Nat), s.present = true → s.sec.run ≠ .recovery → off % 4 = 0 → findReg off = some (r, i) →
    r.pairW = false → (∀ l j, findReg (off - 4) = some (l, j) → l.pairW = false) → (∀ f ∈ r.fields, f.acc = .rw ∧ f.rule = .plain) →
    (off < Reg.shpPolRate 0 0 ∨ Reg.shpPCfg 0 ≤ off) →
    ∃ t, exec (.registerWrite off false v) s = .next t ∧ (∀ f ∈ r.fields, t.fld off f.hi f.lo = bits v.toNat f.hi f.lo) ∧
      (∀ o, o ≠ off → t.reg o = s.reg o) ∧ s.Only [.bar] t) ∧
  (∀ (s : State) (off : Nat) (v : BitVec 64) (r : RegDef) (i : List Nat), s.present = true → s.sec.run ≠ .recovery → off % 4 = 0 → findReg off = some (r, i) →
    r.pairW = false → (∀ l j, findReg (off - 4) = some (l, j) → l.pairW = false) → (∀ f ∈ r.fields, f.acc = .rwl ∧ f.rule ≠ .lock) →
    off ≠ Reg.glbDeviceId → (off < Reg.shpPolRate 0 0 ∨ Reg.shpPCfg 0 ≤ off) → s.flag (blockLock off) 0 = true →
    exec (.registerWrite off false v) s = .next (if s.changes off (v.toNat % 2 ^ 32) r.fields then s.accessNote off else s)) ∧
  (∀ (s : State) (off bytes : Nat), s.present = true → accessOk off bytes = false →
    exec (.bar0InvalidAccess true off bytes) s = .next (s.accessNote off) ∧
    exec (.bar0InvalidAccess false off bytes) s = .next ((s.emit (.readData (zeros bytes))).accessNote off)) ∧
  (∀ (s : State) (write : Bool) (off bytes : Nat), accessOk off bytes = true → s.bar0Serves off = true → exec (.bar0InvalidAccess write off bytes) s = .next s)

/-- GLB_DEVICE_ID_WRITE and BLOCK_LOCK_WRITE (R33, R35): the device ID changes only while every fabric port is DISABLED, else the write is dropped with a note; writing 1 sets a block's LOCK and no other register,
writing 0 changes nothing. -/
def Obligations.DeviceIdAndLocks : Prop :=
  (∀ (s : State) (v : Word), s.present = true → s.portsDisabled = true → s.flag Reg.glbLock 0 = false →
    ∃ t, exec (.glbDeviceIdWrite v) s = .next t ∧ t.idValid = v.getLsbD 31 ∧ t.fld Reg.glbDeviceId 13 5 = bits v.toNat 13 5 ∧ t.fld Reg.glbDeviceId 4 0 = bits v.toNat 4 0 ∧
      s.Only [.bar, .lnk, .blt] t) ∧
  (∀ (s : State) (v : Word), s.present = true → s.portsDisabled = false → s.flag Reg.glbLock 0 = false →
    (bits v.toNat 4 0 ≠ s.fld Reg.glbDeviceId 4 0 ∨ bits v.toNat 13 5 ≠ s.fld Reg.glbDeviceId 13 5 ∨ v.getLsbD 31 ≠ s.idValid) →
    exec (.glbDeviceIdWrite v) s = .next (s.droppedNote Reg.glbDeviceId)) ∧
  (∀ (s : State) (off : Nat) (v : Word), s.present = true → s.sec.run ≠ .recovery → blockLock off = off → v.getLsbD 0 = true → s.flag off 0 = false →
    ∃ t, exec (.blockLockWrite off v) s = .next t ∧ t.flag off 0 = true ∧ (∀ o, o ≠ off → t.reg o = s.reg o) ∧ s.Only [.bar] t) ∧
  (∀ (s : State) (off : Nat) (v : Word), s.present = true → s.sec.run ≠ .recovery → blockLock off = off → v.getLsbD 0 = false → s.flag off 0 = false →
    exec (.blockLockWrite off v) s = .next s)

/-- SAT_ENABLE, KVA_ENABLE, CDC_ENABLE, XPT_ENABLE (R100, R134, R306, R416, R511): with T1 ready and room for the carve-out, the block carves it and serves.
R134: where T1 cannot hold the carve-out ENABLE stays 0, nothing is carved, and a note is posted. R511: before T1 is ready the write of ENABLE is dropped. The model's choices: log entries 7, 98. -/
def Obligations.CarvingEnables : Prop :=
  (∀ (s : State) (v : Word) (b : Nat), s.present = true → s.sec.run ≠ .recovery → s.flag Reg.satLock 0 = false → s.flag Reg.satCtrl 0 = false → bits v.toNat 4 1 = s.fld Reg.satCtrl 4 1 →
    s.memory.t1Ready = true → carvePlace s.memory.carves s.poolBytes s.satBytes = some b →
    ∃ t, exec (.satEnable v) s = .next t ∧ t.flag Reg.satCtrl 0 = true ∧ t.sat = { s.sat with ready := true, joined := true } ∧
      { owner := 1, base := b, size := 1152 * 2 ^ 20 + s.fld Reg.satMirrorCfg 23 0 * 4096 } ∈ t.memory.carves ∧ t.cmd.rings = s.cmd.rings ∧ t.stk = s.stk ∧ t.sec = s.sec) ∧
  (∀ (s : State) (v : Word) (b : Nat), s.present = true → s.sec.run ≠ .recovery → s.flag Reg.kvaLock 0 = false → s.flag Reg.kvaCtrl 0 = false → bits v.toNat 1 1 = s.fld Reg.kvaCtrl 1 1 →
    s.memory.t1Ready = true → carvePlace s.memory.carves s.poolBytes (s.fld Reg.kvaArenaCfg 25 0 * 65792) = some b →
    ∃ t, exec (.kvaEnable v) s = .next t ∧ t.flag Reg.kvaCtrl 0 = true ∧ t.kva = { s.kva with ready := true, base := b } ∧
      { owner := 2, base := b, size := s.fld Reg.kvaArenaCfg 25 0 * 65792 } ∈ t.memory.carves ∧ t.cmd.rings = s.cmd.rings ∧ t.stk = s.stk ∧ t.sec = s.sec) ∧
  (∀ (s : State) (v : Word) (b : Nat), s.present = true → s.sec.run ≠ .recovery → s.flag Reg.cdcLock 0 = false → s.flag Reg.cdcCtrl 0 = false → bits v.toNat 1 1 = s.fld Reg.cdcCtrl 1 1 →
    s.memory.t1Ready = true → carvePlace s.memory.carves s.poolBytes (64 * 2 ^ 20) = some b →
    ∃ t, exec (.cdcEnable v) s = .next t ∧ t.flag Reg.cdcCtrl 0 = true ∧ t.cdcReady = true ∧ { owner := 3, base := b, size := 64 * 2 ^ 20 } ∈ t.memory.carves ∧
      t.cmd.rings = s.cmd.rings ∧ t.stk = s.stk ∧ t.sec = s.sec) ∧
  (∀ (s : State) (v : Word) (b : Nat), s.present = true → s.sec.run ≠ .recovery → s.flag Reg.xptLock 0 = false → s.flag Reg.xptCtrl 0 = false → bits v.toNat 2 1 = s.fld Reg.xptCtrl 2 1 →
    s.memory.t1Ready = true → carvePlace s.memory.carves s.poolBytes s.xptBytes = some b →
    ∃ t, exec (.xptEnable v) s = .next t ∧ t.flag Reg.xptCtrl 0 = true ∧ t.xpt = { s.xpt with ready := true } ∧ { owner := 4, base := b, size := s.xptBytes } ∈ t.memory.carves ∧
      t.cmd.rings = s.cmd.rings ∧ t.stk = s.stk ∧ t.sec = s.sec) ∧
  (∀ (s : State) (v : Word), s.present = true → s.sec.run ≠ .recovery → s.flag Reg.kvaLock 0 = false → s.flag Reg.kvaCtrl 0 = false → bits v.toNat 1 1 = s.fld Reg.kvaCtrl 1 1 →
    s.memory.t1Ready = true → carvePlace s.memory.carves s.poolBytes (s.fld Reg.kvaArenaCfg 25 0 * 65792) = none → agetD s.blt.outbox 0x3C2 [] = [] →
    ∃ t, exec (.kvaEnable v) s = .next t ∧ t.flag Reg.kvaCtrl 0 = false ∧ t.kva = s.kva ∧ agetD t.blt.outbox 0x3C2 [] ≠ [] ∧ t.cmd.rings = s.cmd.rings ∧ t.stk = s.stk) ∧
  (∀ (s : State) (v : Word), s.present = true → s.sec.run ≠ .recovery → s.flag Reg.kvaLock 0 = false → s.flag Reg.kvaCtrl 0 = false → bits v.toNat 1 1 = s.fld Reg.kvaCtrl 1 1 →
    s.memory.t1Ready = false → exec (.kvaEnable v) s = .next (s.droppedNote Reg.kvaCtrl))

/-- MEM_ENABLE, FLS_ENABLE, PLN_ENABLE, LNK_ENABLE, SHP_ENABLE, CMD_ENABLE (R252, R264, R335, R375, R435, R448, R511): training begins; the FTL begins recovery over the channels that trained; the planner, the routers, the policers and PF0's
windows serve.
CORE_ISOLATE, CODEC_GROUP_ISOLATE, PLN_P_CFG_WRITE (R212, R257, R310): a core is isolated unless its slice is in a partition, a lane group unless it is the last in service; a READY partition's limits are
stored within their ranges, and a write for one that is not READY is dropped. -/
def Obligations.PlainEnablesAndLimits : Prop :=
  (∀ (s : State) (v : Word), s.present = true → s.sec.run ≠ .recovery → s.flag Reg.memLock 0 = false → s.flag Reg.memCtrl 0 = false → bits v.toNat 2 1 = s.fld Reg.memCtrl 2 1 →
    ∃ t, exec (.memEnable v) s = .next t ∧ t.flag Reg.memCtrl 0 = true ∧ t.memory.training = true ∧ t.stk = s.stk ∧ t.sec = s.sec ∧ t.blt.seq = s.blt.seq) ∧
  (∀ (s : State) (v : Word) (b : Nat), s.present = true → s.sec.run ≠ .recovery → s.flag Reg.flsLock 0 = false → s.flag Reg.flsCtrl 0 = false → bits v.toNat 2 1 = s.fld Reg.flsCtrl 2 1 →
    s.memory.t1Ready = true → s.flsPopulate.fls.channels ≠ 0 → s.flsPopulate.fls.op ≠ 0 →
    carvePlace s.memory.carves s.poolBytes (4 * s.flsPopulate.fls.capacity s.flsPopulate.fls.op) = some b →
    ∃ t, exec (.flsEnable v) s = .next t ∧ t.flag Reg.flsCtrl 0 = true ∧ t.fls.recovering = true ∧ t.fls.ready = s.flsPopulate.fls.ready ∧ t.stk = s.stk ∧ t.sec = s.sec) ∧
  (∀ (s : State) (v : Word), s.present = true → s.sec.run ≠ .recovery → s.flag Reg.plnLock 0 = false → s.flag Reg.plnCtrl 0 = false → bits v.toNat 1 1 = s.fld Reg.plnCtrl 1 1 →
    s.sat.ready = true → s.kva.ready = true →
    ∃ t, exec (.plnEnable v) s = .next t ∧ t.flag Reg.plnCtrl 0 = true ∧ t.pln = { s.pln with ready := true } ∧ t.stk = s.stk ∧ t.sec = s.sec) ∧
  (∀ (s : State) (v : Word), s.present = true → s.sec.run ≠ .recovery → s.flag Reg.lnkLock 0 = false → s.flag Reg.lnkCtrl 0 = false → bits v.toNat 2 1 = s.fld Reg.lnkCtrl 2 1 →
    s.idValid = true → s.flag Reg.shpCtrl 0 = true → s.xpt.ready = true → s.sat.ready = true →
    ∃ t, exec (.lnkEnable v) s = .next t ∧ t.flag Reg.lnkCtrl 0 = true ∧ t.lnk.ready = true ∧ t.stk = s.stk ∧ t.sec = s.sec) ∧
  (∀ (s : State) (v : Word), s.present = true → s.sec.run ≠ .recovery → s.flag Reg.shpLock 0 = false → s.flag Reg.shpCtrl 0 = false → v.getLsbD 3 = false →
    bits v.toNat 2 1 = s.fld Reg.shpCtrl 2 1 →
    ∃ t, exec (.shpEnable v) s = .next t ∧ t.flag Reg.shpCtrl 0 = true ∧ t.stk = s.stk ∧ t.sec = s.sec) ∧
  (∀ (s : State) (v : Word), s.present = true → s.sec.run ≠ .recovery → s.flag Reg.cmdLock 0 = false → s.flag Reg.cmdCtrl 0 = false → bits v.toNat 23 8 = s.fld Reg.cmdCtrl 23 8 →
    s.cmd.windows = List.replicate 32 Window.reset →
    ∃ t, exec (.cmdEnable v) s = .next t ∧ t.flag Reg.cmdCtrl 0 = true ∧
      (∀ w, t.window w = if w < 16 then { Window.reset with state := .enabled } else Window.reset) ∧ t.stk = s.stk ∧ t.sec = s.sec) ∧
  (∀ (s : State) (c : Fin 128) (v : Word), s.present = true → s.sec.run ≠ .recovery → s.flag (Reg.coreLock c.val) 0 = false → s.flag (Reg.coreCtrl c.val) 0 = false →
    bits v.toNat 2 1 = s.fld (Reg.coreCtrl c.val) 2 1 →
    ∃ t, exec (.coreIsolate c v) s = .next t ∧
      (s.sliceTaken (c.val / 8) = false → t.flag (Reg.coreCtrl c.val) 0 = true ∧ (∀ o, o ≠ Reg.coreCtrl c.val → t.reg o = s.reg o) ∧ s.Only [.bar] t) ∧
      (s.sliceTaken (c.val / 8) = true → t = s.droppedNote (Reg.coreCtrl c.val))) ∧
  (∀ (s : State) (g : Fin 16) (v : Word), s.present = true → s.sec.run ≠ .recovery → s.flag (Reg.cdcGroup g.val) 31 = false →
    ∃ t, exec (.codecGroupIsolate g v) s = .next t ∧
      ((∃ k, k < 16 ∧ k ≠ g.val ∧ s.flag (Reg.cdcGroup k) 31 = false) → t.flag (Reg.cdcGroup g.val) 31 = true ∧ (∀ o, o ≠ Reg.cdcGroup g.val → t.reg o = s.reg o) ∧ s.Only [.bar] t) ∧
      ((∀ k, k < 16 → k ≠ g.val → s.flag (Reg.cdcGroup k) 31 = true) → t = s.droppedNote (Reg.cdcGroup g.val))) ∧
  (∀ (s : State) (p : Fin 16) (v : Word), s.present = true → s.sec.run ≠ .recovery → s.ready p.val = true →
    1 ≤ bits v.toNat 30 16 → bits v.toNat 30 16 ≤ 16384 → s.fld (Reg.plnPC0 p.val) 14 0 ≤ bits v.toNat 30 16 →
    64 ≤ bits v.toNat 12 0 → bits v.toNat 12 0 ≤ 4096 → bits v.toNat 12 0 % 64 = 0 →
    ∃ t, exec (.plnPCfgWrite p false v) s = .next t ∧ t.fld (Reg.plnPCfg p.val) 30 16 = bits v.toNat 30 16 ∧ t.fld (Reg.plnPCfg p.val) 12 0 = bits v.toNat 12 0 ∧
      (∀ o, o ≠ Reg.plnPCfg p.val → t.reg o = s.reg o) ∧ s.Only [.bar] t) ∧
  (∀ (s : State) (p : Fin 16) (v : Word), s.present = true → s.sec.run ≠ .recovery → s.ready p.val = false → bits v.toNat 30 16 ≠ s.fld (Reg.plnPCfg p.val) 30 16 →
    exec (.plnPCfgWrite p false v) s = .next (s.droppedNote (Reg.plnPCfg p.val)))

/-! ### System time and strokes (chapter 02) -/

/-- SYNC_SEND and SYNC_EXCHANGE (R38, R41): a time parent sends its active and pending configuration on every UP child link; a child that takes
time from its primary parent sends its packet of the pair, records the link delay and the offset, counts the exchange towards LOCKED, and slews or steps its time by the offset's size.
PARENT_LOST, UNALIGNED, REF_HOLDOVER, TSYNC_IN_PULSE and TSYNC_OUT_PULSE (R40, R42 to R46). The model's choices: log entries 34, 122, 123. -/
def Obligations.TimeTree : Prop :=
  (∀ (s : State) (now : Nat), ∃ t, exec (.syncSend now) s = .next t ∧
    t.out = s.out ++ ((s.at_ now).latchSrc.upPorts (childPorts (s.at_ now).latchSrc.stk.role)).map
      (fun p => Out.sync p now s.stk.active s.stk.pend) ∧
    t.stk.time = max s.stk.time now ∧ s.Only [.stk, .pwr, .out] t) ∧
  (∀ (s : State) (port : Fin 64) (t1 t2 t3 t4 : Nat), (s.at_ t3).latchSrc.stk.role ≠ 2 → s.stk.onBackup = false →
    (s.at_ t3).latchSrc.stk.parentPort = some port.val → s.stk.time ≤ t3 →
    ∃ t, exec (.syncExchange port t1 t2 t3 t4 { active := none, pending := none }) s = .next t ∧
      t.out = s.out ++ [.syncBack port.val t2 t3] ∧ afind t.stk.delay port.val = some (syncDelay t1 t2 t3 t4) ∧
      t.stk.lastGood = t3 ∧ t.stk.offset = satSigned 2147483647 (syncOffset t1 t2 t3 t4) ∧
      (-20 ≤ syncOffset t1 t2 t3 t4 ∧ syncOffset t1 t2 t3 t4 ≤ 20 →
        t.stk.good = s.stk.good + 1 ∧ t.stk.slew = 0 ∧ (3 ≤ s.stk.good → t.stk.locked = true ∧ t.stk.holdover = false ∧ t.stk.unaligned = false)) ∧
      ((syncOffset t1 t2 t3 t4 < -20 ∨ 20 < syncOffset t1 t2 t3 t4) → t.stk.good = 0) ∧
      ((syncOffset t1 t2 t3 t4 < -20 ∨ 20 < syncOffset t1 t2 t3 t4) →
        -10000 ≤ syncOffset t1 t2 t3 t4 ∧ syncOffset t1 t2 t3 t4 ≤ 10000 → t.stk.slew = -syncOffset t1 t2 t3 t4 ∧ t.stk.time = t3) ∧
      ((syncOffset t1 t2 t3 t4 < -10000 ∨ 10000 < syncOffset t1 t2 t3 t4) →
        if s.stk.running then t.stk.step = some (-syncOffset t1 t2 t3 t4) ∧ t.stk.time = t3
        else t.stk.time = addTime t3 (-syncOffset t1 t2 t3 t4)) ∧
      s.Only [.stk, .bar, .pwr, .out] t) ∧
  (∀ (s : State) (now : Nat), (s.at_ now).latchSrc.stk.role ≠ 2 → s.stk.watch + 1000000 ≤ now → s.stk.onBackup = false →
    ∃ t, exec (.parentLost now) s = .next t ∧
      (if (s.at_ now).latchSrc.stk.backupPort.isSome then t.stk.onBackup = true ∧ t.stk.watch = now ∧ t.stk.locked = (s.at_ now).latchSrc.stk.locked
        else t.stk.onBackup = false ∧ t.stk.holdover = true ∧ (s.stk.holdover = false → t.stk.locked = false)) ∧ s.Only [.stk, .bar, .blt, .pwr] t) ∧
  (∀ (s : State) (now : Nat), s.stk.time ≤ now → s.stk.holdover = true → s.stk.unaligned = false → s.fld Reg.stkHoldCfg 23 16 ≠ 0 →
    max 1 (s.fld Reg.stkHoldCfg 15 0) < (now - s.stk.lastGood) * s.fld Reg.stkHoldCfg 23 16 / 100000000 →
    ∃ t, exec (.unaligned now) s = .next t ∧ t.stk.unaligned = true ∧
      agetD t.blt.outbox 0x3C0 [] = agetD s.blt.outbox 0x3C0 [] ++
        [{ fault := fault 0x3C0 0x104 2 ((now - s.stk.lastGood) * s.fld Reg.stkHoldCfg 23 16 / 100000000), time := (s.at_ now).faultTime }] ∧
      s.Only [.stk, .blt] t) ∧
  (∀ (s : State) (now : Nat), s.refMode = 1 → s.stk.refHoldover = false → s.stk.time ≤ now →
    s.pwr.tsyncAt.getD s.stk.refAt + 16000000000 ≤ now →
    ∃ t, exec (.refHoldover now) s = .next t ∧ t.stk.refHoldover = true ∧ t.flag Reg.stkStatus 16 = true ∧ s.Only [.stk, .bar, .blt] t) ∧
  (∀ (s : State) (now : Nat), s.refMode = 1 → s.stk.time ≤ now →
    ∃ t, exec (.tsyncInPulse now) s = .next t ∧
      (if -1000 ≤ (now : Int) - s.expectedEdge now ∧ (now : Int) - s.expectedEdge now ≤ 1000
        then t.stk.refHoldover = false ∧ t.pwr.tsyncAt = some now ∧ t.bar = s.bar ∧
          (20 < (now : Int) - s.expectedEdge now → t.stk.slew = -((now : Int) - s.expectedEdge now))
        else t.stk = { s.stk with time := now } ∧ t.pwr.tsyncAt = s.pwr.tsyncAt ∧
          t.fld Reg.pwrGlitch 23 16 = min 255 (s.fld Reg.pwrGlitch 23 16 + 1)) ∧ s.Only [.stk, .pwr, .bar] t) ∧
  (∀ (s : State) (now : Nat), s.stk.time ≤ now → s.pwr.tripped = false →
    ∃ t, exec (.tsyncOutPulse now) s = .next t ∧
      ((s.fld Reg.stkTimeSrc 29 28 = 2 ∧ now % 1000000000 = 0) ∨
        (s.fld Reg.stkTimeSrc 29 28 = 1 ∧ s.stk.running = true ∧ s.stk.cfg.boundary (s.stk.cfg.strokeAt now) = now) →
          t.out = s.out ++ [.tsyncPulse now] ∧ t.stk.tsyncOut = some now) ∧
      (s.fld Reg.stkTimeSrc 29 28 = 0 → t.out = s.out ∧ t.stk.tsyncOut = s.stk.tsyncOut) ∧ s.Only [.stk, .out] t)

/-- STROKE_CONFIG and TIME_SET (R50, R51, R53, R453): at the grandmaster a valid start becomes pending for the first boundary at least 2 ms ahead, a valid change for the
stroke that it names; elsewhere BAD_OPCODE. TIME_SET sets the time while strokes do not run. -/
def Obligations.StrokeConfig : Prop :=
  (∀ (s s1 : State) (h : Header) (r : ReplyTo) (cfg : StrokeCfg) (n rsv : Nat), s.Serves ⟨0x0601, 1, false, false, 32, rsv, 0, false⟩ h false r s1 →
    s.stk.role = 2 → s.stk.running = false → s.stk.pend = none → cfg.valid = true → cfg.epoch ≤ s1.stk.time → s1.stk.time < cfg.epoch + cfg.periodUs * 1000 → n < 2 ^ 48 →
    ∃ t, exec (.strokeConfig h 0 cfg n rsv) s = .next t ∧
      t.stk = { s1.stk with pend := some ⟨{ cfg with base := n }, n + ceilDiv (s1.stk.time + 2000000 - cfg.epoch) (cfg.periodUs * 1000), true⟩ } ∧
      t = State.done { s1 with stk := t.stk } r .ok) ∧
  (∀ (s s1 : State) (h : Header) (r : ReplyTo) (cfg : StrokeCfg) (n rsv : Nat), s.Serves ⟨0x0601, 1, false, false, 32, rsv, 0, false⟩ h false r s1 →
    s.stk.role = 2 → s.stk.running = true → s.stk.pend = none → cfg.valid = true → s.stk.stroke + 2 ≤ n → n < 2 ^ 48 →
    s1.stk.time + 2000000 ≤ s.stk.cfg.boundary n →
    exec (.strokeConfig h 1 cfg n rsv) s =
      .next (State.done { s1 with stk := { s1.stk with pend := some { cfg := cfg, n0 := n, start := false } } } r .ok)) ∧
  (∀ (s s1 : State) (h : Header) (r : ReplyTo) (mode : Nat) (cfg : StrokeCfg) (n rsv : Nat), s.Serves ⟨0x0601, 1, false, false, 32, rsv, 0, false⟩ h false r s1 →
    s.stk.role ≠ 2 → exec (.strokeConfig h mode cfg n rsv) s = .next (s1.done r .badOpcode)) ∧
  (∀ (s s1 : State) (h : Header) (r : ReplyTo) (time : Nat), s.Serves ⟨0x0600, 1, false, false, 8, 0, 0, false⟩ h false r s1 →
    s.stk.role = 2 → s.stk.running = false →
    exec (.timeSet h time) s = .next (State.done { s1 with stk := { s1.stk with time := time, slew := 0, step := none } } r .ok)) ∧
  (∀ (s s1 : State) (h : Header) (r : ReplyTo) (time : Nat), s.Serves ⟨0x0600, 1, false, false, 8, 0, 0, false⟩ h false r s1 →
    s.stk.role ≠ 2 → exec (.timeSet h time) s = .next (s1.done r .badOpcode))

/-- STROKE_BOUNDARY (R47, R50, R53), ISSUE_PHASE (R48, R57), COMPUTE_PHASE, EXCHANGE_PHASE, INK_POINT (R48, R87) and COMMIT_COMPLETE (R54, R57): each brings its phase at its point
of the stroke. A start configuration begins at its stroke; a partition whose Commit is still open at ISSUE_AT skips the stroke, and a Plan that is unfinished there ends; at the ink point Commit opens; and its
completion applies a time step that waited. -/
def Obligations.StrokePhases : Prop :=
  (∀ (s : State) (preds : List Predict) (cuts : List (Fin 16 × Nat)), s.stk.running = true → s.stk.phase = .commit → s.stk.pend = none → s.stk.role = 2 →
    ∃ t, exec (.strokeBoundary preds cuts) s = .next t ∧
      t.stk = { s.stk with time := max s.stk.time (s.stk.cfg.boundary (s.stk.stroke + 1)), stroke := s.stk.stroke + 1, phase := .plan } ∧
      s.Only [.stk, .bar, .sat, .kva, .cores, .pln, .memory, .fls, .shp, .cmd, .blt, .sec, .host, .pwr, .out, .freeCtr] t) ∧
  (∀ (s : State) (preds : List Predict) (cuts : List (Fin 16 × Nat)) (q : PendCfg), s.stk.running = false → s.stk.pend = some q → q.start = true → s.stk.role = 2 →
    ∃ t, exec (.strokeBoundary preds cuts) s = .next t ∧
      t.stk = { s.stk with time := max s.stk.time (q.cfg.boundary q.n0), cfg := q.cfg, running := true, stroke := q.n0, phase := .plan, pend := none, mismatch := false,
                            refAt := if s.refMode = 2 then q.cfg.boundary q.n0 else s.stk.refAt }) ∧
  (∀ s : State, s.stk.running = true → s.stk.phase = .plan →
    ∃ t, exec .issuePhase s = .next t ∧ t.stk = { s.stk with time := max s.stk.time (s.stk.cfg.point s.stk.stroke s.stk.cfg.issueAt), phase := .issue } ∧
      (∀ p, p < 16 → t.part p = { s.part p with skipped := (s.part p).skipped || (s.part p).commitOpen, planMax := none }) ∧ s.Only [.stk, .pln, .bar, .blt] t) ∧
  (∀ s : State, s.stk.running = true → s.stk.phase = .issue →
    exec .computePhase s = .next { s with stk := { s.stk with time := max s.stk.time (s.stk.cfg.point s.stk.stroke s.stk.cfg.computeAt), phase := .compute } }) ∧
  (∀ s : State, s.stk.running = true → s.stk.phase = .compute →
    ∃ t, exec .exchangePhase s = .next t ∧ t.stk = { s.stk with time := max s.stk.time (s.stk.cfg.point s.stk.stroke s.stk.cfg.exchangeAt), phase := .exchange } ∧
      s.Only [.stk, .sat, .kva, .pln, .memory, .sec, .out, .freeCtr] t) ∧
  (∀ (s : State) (late : List SatchelId), s.stk.running = true → s.stk.phase = .exchange →
    ∃ t, exec (.inkPoint late) s = .next t ∧ t.stk = { s.stk with time := max s.stk.time (s.stk.cfg.point s.stk.stroke s.stk.cfg.commitAt), phase := .commit } ∧
      (s.blt.l3 = false → ∀ p, (t.part p).state = .ready → (t.part p).composing = none → (t.part p).commitOpen = true) ∧
      s.Only [.stk, .bar, .sat, .kva, .cores, .pln, .memory, .fls, .cmd, .host, .out, .freeCtr] t) ∧
  (∀ (s : State) (p : Fin 16) (now : Nat) (preds : List Predict) (cut : Option Nat), (s.part p.val).commitOpen = true → (s.part p.val).suspendTag = none → s.stk.phase = .commit →
    s.stk.step = none →
    ∃ t, exec (.commitComplete p now preds cut) s = .next t ∧ t.stk = { s.stk with time := max s.stk.time now } ∧ (t.part p.val).commitOpen = false ∧
      (∀ q, q ≠ p.val → (t.part q).commitOpen = (s.part q).commitOpen) ∧ s.Only [.stk, .pln] t) ∧
  (∀ (s : State) (p : Fin 16) (now : Nat) (preds : List Predict) (cut : Option Nat) (d : Int), (s.part p.val).commitOpen = true → (s.part p.val).suspendTag = none → s.stk.phase = .commit →
    s.stk.running = true → s.stk.step = some d → (∀ q, q ≠ p.val → (s.part q).commitOpen = false) →
    ∃ t, exec (.commitComplete p now preds cut) s = .next t ∧ t.stk.time = addTime (max s.stk.time now) d ∧ t.stk.step = none ∧ s.stk.stroke ≤ t.stk.stroke ∧
      s.Only [.stk, .pln, .bar] t)

/-! ### Satchels and custody (chapter 03) -/

/-- SATCHEL_ADMIT, SATCHEL_APPEND, SATCHEL_CANCEL, SATCHEL_FREE, SATCHEL_MOVE, SATCHEL_QUERY, SATCHEL_RECOVER (R68, R74, R75, R83, R87, R88, R89, R97, R99, R118): an admission gets
an ID, a table slot and epoch 1, its prompt is its log, its satellites are made, and it is registered before it is answered; an append lengthens the log and ends the wait; a cancel of
a satchel whose row is planned waits for the ink point, and of any other frees its pages at once; a move to another harness needs a transit key (R515);
what the state has no row for is answered by R75. The model's choices: log entries 22, 24, 33, 124, 125. -/
def Obligations.SatchelCommands : Prop :=
  (∀ (s s1 : State) (h : Header) (r : ReplyTo) (a : AdmitParams) (shardsOk : Bool) (st : Status),
    s.Serves ⟨0x0300, 1, true, true, 72 + a.stopLen + (if a.byRef then 0 else 4 * a.promptLen), a.rsv, if a.promptAddr = 0 then 0 else 1, false⟩ h false r s1 →
    s1.admitCheck h a = some st → exec (.satchelAdmit h a shardsOk) s = .next (s1.done r st)) ∧
  (∀ (s s1 : State) (h : Header) (r : ReplyTo) (a : AdmitParams) (shardsOk : Bool) (slot index : Nat) (d : DeviceId) (w : Place × State),
    s.Serves ⟨0x0300, 1, true, true, 72 + a.stopLen + (if a.byRef then 0 else 4 * a.promptLen), a.rsv, if a.promptAddr = 0 then 0 else 1, false⟩ h false r s1 →
    s1.admitCheck h a = none → s1.freeSlot = some slot → s1.freeIndex = some index → a.prefixId = 0xFFFFFFFF → s1.registrar (s1.takeId index).1 = some d →
    (s1.takeId index).2.place slot Place.none a.prompt.length 0 (s1.part h.part.val).stateBytes = some w →
    (shardsOk = true ∨ (s1.part h.part.val).satelliteDevs false = []) →
    ∃ t x m p, exec (.satchelAdmit h a shardsOk) s = .next t ∧ t.satAt slot = some x ∧ x.id = mkSatchelId s1.me index (agetD s1.sat.gens index 0 + 1) ∧ x.state = .admitted ∧ x.epoch = 1 ∧
      x.tenant = h.tenant ∧ x.part = h.part ∧ x.log = a.prompt.map asInput ∧ x.kvPos = 0 ∧ x.rows = [] ∧ x.place = w.1 ∧ x.admitting = some r ∧
      (∀ j, j ≠ slot → t.satAt j = s1.satAt j) ∧
      t.out = s1.out ++ ((s1.part h.part.val).satelliteDevs false).map (fun e => Out.shardPlan e s1.strokeNow
        [shardDo x.id 0 (.create x.tenant x.cls x.adapter x.adapterVer 0xFFFFFFFF)]) ++ [.custody d .register m p] ∧ m.id = x.id ∧ m.epoch = 1 ∧ m.sender = s1.me ∧
      s.Only [.bar, .stk, .sat, .kva, .memory, .cmd, .host, .out] t) ∧
  (∀ (s s1 : State) (h : Header) (r : ReplyTo) (id : SatchelId) (tokens : List Token) (rsv slot : Nat) (y : Sat),
    s.Serves ⟨0x0301, 1, true, true, 24 + 4 * tokens.length, rsv, 0, false⟩ h false r s1 → 1 ≤ tokens.length → tokens.length ≤ 262144 → satGen id ≠ 0 → s1.findSlot id = some slot →
    s1.satAt slot = some y → h.mayName y = true →
    (∀ st, s1.appendCheck y tokens.length 0xFFFF 0 tokens = some st → exec (.satchelAppend h id tokens.length 0xFFFF 0 false tokens rsv) s = .next (s1.done r st)) ∧
    (s1.appendCheck y tokens.length 0xFFFF 0 tokens = none → y.state = .wait → (s1.growLog slot tokens.length).isSome = true →
      ∃ t x, exec (.satchelAppend h id tokens.length 0xFFFF 0 false tokens rsv) s = .next t ∧ t.satAt slot = some x ∧ x.log = y.log ++ tokens.map asInput ∧ x.state = .prefill ∧
        x.waitKind = 0 ∧ x.kvPos = y.kvPos ∧ (∀ j, j ≠ slot → t.satAt j = s1.satAt j) ∧ s.Only [.bar, .stk, .sat, .kva, .memory, .fls, .cmd, .host, .out] t) ∧
    (s1.appendCheck y tokens.length 0xFFFF 0 tokens = none → s1.growLog slot tokens.length = none →
      exec (.satchelAppend h id tokens.length 0xFFFF 0 false tokens rsv) s = .next (s1.done r .noResource))) ∧
  (∀ (s s1 : State) (h : Header) (r : ReplyTo) (id : SatchelId) (rsv slot : Nat) (y : Sat), s.Serves ⟨0x0302, 1, true, true, 8, rsv, 0, false⟩ h false r s1 → satGen id ≠ 0 →
    s1.findSlot id = some slot → s1.satAt slot = some y → h.mayName y = true →
    (y.state.ended = true → exec (.satchelCancel h id rsv) s = .next (s1.done r .alreadyDone)) ∧
    (y.state = .inTransit → exec (.satchelCancel h id rsv) s = .next (State.answer (s1.modSat slot fun z => { z with cancelLatched := true }) r .accepted true [])) ∧
    (y.state.live = true → y.planned.isSome = true →
      ∃ t x, exec (.satchelCancel h id rsv) s = .next t ∧ t.satAt slot = some x ∧ x.cancelLatched = true ∧ x.state = y.state ∧ x.log = y.log) ∧
    (slot < 4194304 → y.state.live = true → y.planned = none → y.autoFree = false → y.freeing = [] →
      ∃ t x, exec (.satchelCancel h id rsv) s = .next t ∧ t.satAt slot = some x ∧ x.state = .cancelled ∧ x.rows = [] ∧ x.log = y.log ∧
        s.Only [.bar, .stk, .sat, .kva, .pln, .memory, .fls, .cmd, .host, .out] t)) ∧
  (∀ (s s1 : State) (h : Header) (r : ReplyTo) (id : SatchelId) (slot : Nat) (y : Sat), s.Serves ⟨0x0304, 1, true, true, 8, 0, 0, false⟩ h false r s1 → satGen id ≠ 0 →
    s1.findSlot id = some slot → s1.satAt slot = some y → h.mayName y = true →
    (y.state = .inTransit → exec (.satchelFree h id) s = .next (s1.done r .inTransit)) ∧
    (y.state.ended = true → y.outRecs = [] → s1.blt.l3 = false →
      ∃ t, exec (.satchelFree h id) s = .next t ∧ t.satAt slot = none ∧ (∀ j, j ≠ slot → t.satAt j = s1.satAt j) ∧
        s.Only [.bar, .stk, .sat, .kva, .pln, .memory, .fls, .cmd, .host, .out] t)) ∧
  (∀ (s s1 : State) (h : Header) (r : ReplyTo) (id : SatchelId) (dev : DeviceId) (p : Fin 16) (full : Bool) (rsv slot : Nat) (y : Sat),
    s.Serves ⟨0x0303, 2, true, true, 16, rsv, 0, false⟩ h false r s1 → satGen id ≠ 0 → dev.toNat < 2 ^ 14 → s1.findSlot id = some slot → s1.satAt slot = some y → h.mayName y = true →
    y.state.live = true → (dev ≠ s1.me ∨ p ≠ y.part) → y.move = none → y.epoch < 0xFFFFFFFE → s1.ringBound y dev = false →
    (s1.mayTransit y.tenant dev = false → exec (.satchelMove h id dev p.val full rsv) s = .next (s1.done r .protection)) ∧
    (s1.mayTransit y.tenant dev = true → ∃ t x, exec (.satchelMove h id dev p.val full rsv) s = .next t ∧ t.satAt slot = some x ∧ x.state = y.state ∧ x.epoch = y.epoch ∧
      x.move = some ⟨dev, p, full || harness dev != harness s1.me, some { r with left := r.left - 1 }, none, false, none, false, 0⟩ ∧
      (∀ j, j ≠ slot → t.satAt j = s1.satAt j))) ∧
  (∀ (s s1 : State) (h : Header) (r : ReplyTo) (id : SatchelId) (c : Record), s.Serves ⟨0x0305, 1, true, true, 16, 0, 0, false⟩ h false r s1 → satGen id ≠ 0 →
    s1.findSlot id = none → s1.recOf id = some c → h.origin.partition = none → c.state = .inTransit →
    exec (.satchelQuery h id 0) s =
      .next (s1.answer r .ok true (satResult SatState.inTransit.code c.epoch c.owner (s1.registrarField id) c.mirror.length c.mirror.length))) ∧
  (∀ (s s1 : State) (h : Header) (r : ReplyTo) (id : SatchelId) (dev : DeviceId) (p : Fin 16) (rsv : Nat) (c : Record), s.Serves ⟨0x0306, 2, true, true, 16, rsv, 0, false⟩ h false r s1 →
    satGen id ≠ 0 → dev.toNat < 2 ^ 14 → s1.recOf id = some c → c.id = id → h.origin.partition = none →
    (c.state ≠ .lost → exec (.satchelRecover h id dev p.val rsv) s = .next (s1.done r .alreadyDone)) ∧
    (c.state = .lost → c.epoch + 1 ≤ 0xFFFFFFFE → c.recoverReply = none → c.candidate = none →
      ∃ t d, exec (.satchelRecover h id dev p.val rsv) s = .next t ∧ t.recOf id = some d ∧ d.state = .lost ∧ d.candidate = some (0, ⟨dev, p⟩) ∧
        d.recoverReply = some { r with left := r.left - 1 } ∧ t.sat.sats = s1.sat.sats))

/-- What the registrar and the owner do about records, mirrors, loss and recovery: REGISTER, REGISTER_ACK, REGISTER_RETRY, MIRROR, MIRROR_ACK, MIRROR_ACK_OVERDUE,
CUSTODY_MESSAGE_RETURNED, SILENT_OWNER_PROBE, PROBE, PROBE_ANS, COMMIT_PROBE_TIMER, SURRENDER, OWNER_LOSS_TIMEOUT, RECOVER_ASSIGN, RECOVER_ANS, RECOVER_ANS_TIMEOUT,
CUSTODY_UNDELIVERED, REHOME_ACK, REREG_WINDOW_CLOSE (R69, R77 to R81, R83 to R86, R90, R95 to R98). The model's choices: log entries 26, 30, 66, 79, 124. -/
def Obligations.RecordsAndRecovery : Prop :=
  (∀ (s : State) (m : CMsg) (image : Sat) (log : List Token), s.sat.ready = true → m.rsv = 0 → m.state < 11 → s.returned m = false → s.registrar m.id = some s.me →
    s.prevHolder m.id = none → s.recOf m.id = none → s.sat.recs.length < 4194304 → mirrorChunks log.length ≤ s.chunksFree → s.sat.heldQueries = [] → s.sat.heldClaims = [] →
    ∃ t c, exec (.register m image log) s = .next t ∧ t.recOf m.id = some c ∧ c.epoch = m.epoch ∧ c.owner = m.sender ∧ c.mirror = log ∧ c.tenant = image.tenant ∧
      t.out = s.out ++ [.custody m.sender .registerAck (s.reply m m.sender .ok 0 log.length 0) .empty] ∧ t.sat.sats = s.sat.sats ∧ s.Only [.sat, .out] t) ∧
  (∀ (s : State) (m : CMsg) (image : Sat) (log : List Token) (c : Record), s.sat.ready = true → m.rsv = 0 → m.state = 0 → s.returned m = false → s.recOf m.id = some c →
    exec (.register m image log) s = .next (s.sendC m.sender .registerAck (s.reply m c.owner .notOwner 0 c.mirror.length 0) .empty)) ∧
  (∀ (s : State) (m : CMsg) (slot : Nat) (x : Sat) (r : ReplyTo), s.sat.ready = true → m.rsv = 0 → m.state < 11 → s.anySlot m.id = some slot → s.satAt slot = some x →
    x.epoch = m.epoch → x.admitting = some r → Status.ofCode m.status = .ok →
    exec (.registerAck m) s = .next (State.answer (s.modSat slot fun y => { y with admitting := none, mirrorLen := y.log.length, reported := .admitted, registering := false }) r .accepted true
      (leBytes 8 x.id.toNat ++ leBytes 2 (s.registrarField x.id).toNat))) ∧
  (∀ (s : State) (id : SatchelId) (slot : Nat) (x : Sat), s.findSlot id = some slot → s.satAt slot = some x →
    exec (.registerRetry id) s = .next (if x.reregister then s.sendRegister slot else s)) ∧
  (∀ (s : State) (m : CMsg) (tokens : List Token) (c : Record), s.sat.ready = true → m.rsv = 0 → m.state < 11 → s.returned m = false → s.recOf m.id = some c → c.owner = m.sender →
    c.epoch = m.epoch → c.state ≠ .lost →
    (m.state = 0 → ∃ t, exec (.mirror m tokens) s = .next t ∧ t.recOf m.id = none ∧ (∀ j : SatchelId, j ≠ m.id → t.recOf j = s.recOf j) ∧ s.Only [.sat] t) ∧
    (m.state ≠ 0 → m.logLen ≠ c.mirror.length →
      exec (.mirror m tokens) s = .next (s.sendC m.sender .mirrorAck (s.reply m 0xFFFF .ok 0 c.mirror.length 0) .empty)) ∧
    (m.state ≠ 0 → m.logLen = c.mirror.length → mirrorChunks (c.mirror ++ tokens).length ≤ s.chunksFree + mirrorChunks c.mirror.length →
      ∃ t d, exec (.mirror m tokens) s = .next t ∧ t.recOf m.id = some d ∧ d.mirror = c.mirror ++ tokens ∧ d.owner = c.owner ∧ d.epoch = c.epoch ∧
        (c.state = .inTransit → d.state = .inTransit) ∧ (c.state ≠ .inTransit → d.state = (SatState.ofCode m.state).getD c.state) ∧
        t.out = s.out ++ [.custody m.sender .mirrorAck (s.reply m 0xFFFF .ok 0 (c.mirror ++ tokens).length 0) .empty] ∧ s.Only [.sat, .out] t)) ∧
  (∀ (s : State) (m : CMsg) (slot : Nat) (x : Sat), s.sat.ready = true → m.rsv = 0 → m.state < 11 → s.findSlot m.id = some slot → s.satAt slot = some x → x.epoch = m.epoch →
    Status.ofCode m.status = .ok → 1 < x.mirrorsOut → x.state.ended = false → x.outRecs = [] →
    ∃ t y, exec (.mirrorAck m) s = .next t ∧ t.satAt slot = some y ∧ y.mirrorLen = max x.mirrorLen (min m.logLen x.log.length) ∧ y.mirrorHold = false ∧ y.log = x.log ∧
      y.mirrorsOut = x.mirrorsOut - 1 ∧
      y.unackedInks = x.unackedInks.filter (fun i => decide (min m.logLen x.log.length < i.1)) ∧ (∀ j, j ≠ slot → t.satAt j = s.satAt j) ∧ s.Only [.sat] t) ∧
  (∀ (s : State) (id : SatchelId) (slot : Nat) (x : Sat) (i : Nat × Nat) (l : List (Nat × Nat)), s.findSlot id = some slot → s.satAt slot = some x →
    x.unackedInks = i :: l → i.2 + 8 ≤ s.strokeNow → x.mirrorHold = false →
    ∃ t, exec (.mirrorAckOverdue id) s = .next t ∧ t.satAt slot = some { x with mirrorHold := true } ∧ (∀ j, j ≠ slot → t.satAt j = s.satAt j) ∧ s.Only [.bar, .sat, .blt] t) ∧
  (∀ (s : State) (m : CMsg) (p : CPayload) (d : DeviceId), s.sat.ready = true → m.rsv = 0 → m.state < 11 → s.returned m = false → s.recOf m.id = none → s.registrar m.id = some d → d ≠ s.me →
    exec (.custodyMessageReturned .claim m p) s =
      .next (if m.forwarded then s.sendC m.sender .claim { m with status := Status.notOwner.code } p else s.sendC d .claim { m with forwarded := true } p)) ∧
  (∀ (s : State) (id : SatchelId) (c : Record), s.recOf id = some c → c.id = id → c.state = .ready → c.lastMirror + 16 ≤ s.strokeNow → c.probing = false →
    ∃ t, exec (.silentOwnerProbe id) s = .next t ∧ t.recOf id = some { c with probing := true } ∧
      t.out = s.out ++ [.custody c.owner .probe (s.cmsg id c.epoch c.owner .ok c.state.code c.mirror.length 0) .empty] ∧ s.Only [.sat, .out] t) ∧
  (∀ (s : State) (m : CMsg) (slot : Nat) (x : Sat), s.sat.ready = true → m.rsv = 0 → m.state < 11 → s.findSlot m.id = some slot → s.satAt slot = some x → s.sat.incoming = [] →
    exec (.probe m) s = .next (s.sendC m.sender .probeAns (s.reply m 0xFFFF .ok 0 0 (if x.epoch = m.epoch then 1 else 0)) .empty)) ∧
  (∀ (s : State) (m : CMsg) (c : Record), s.sat.ready = true → m.rsv = 0 → m.state < 11 → s.returned m = false → s.recOf m.id = some c → c.owner = m.sender → c.epoch = m.epoch → m.arg = 1 →
    ∃ t, exec (.probeAns m) s = .next t ∧ t.recOf m.id = some { c with probing := false, ownerDead := false, commitUndelivered := false, lastMirror := s.strokeNow } ∧
      (c.commitUndelivered = false → t.out = s.out) ∧
      (c.commitUndelivered = true → t.out = s.out ++ [.custody c.owner .commit (s.cmsg m.id c.epoch c.owner .ok c.state.code c.mirror.length 0) .empty]) ∧ s.Only [.sat, .out] t) ∧
  (∀ (s : State) (id : SatchelId) (c : Record), s.recOf id = some c → c.commitUndelivered = true →
    exec (.commitProbeTimer id) s = .next (s.sendC c.owner .probe (s.cmsg id c.epoch c.owner .ok c.state.code c.mirror.length 0) .empty)) ∧
  (∀ (s : State) (m : CMsg) (c : Record), s.sat.ready = true → m.rsv = 0 → m.state < 11 → s.returned m = false → s.recOf m.id = some c → c.owner = m.sender → c.epoch = m.epoch →
    c.state ≠ .lost → c.autoRecover = false →
    ∃ t d, exec (.surrender m) s = .next t ∧ t.recOf m.id = some d ∧ d.state = .lost ∧ d.epoch = c.epoch + 1 ∧ d.owner = 0xFFFF ∧ d.mirror = c.mirror ∧
      t.reg Reg.satCntLost = min 0xFFFFFFFF (s.reg Reg.satCntLost + 1) ∧ t.sat.sats = s.sat.sats ∧ s.Only [.bar, .sat, .cmd, .host, .out] t) ∧
  (∀ (s : State) (id : SatchelId) (c : Record), s.recOf id = some c → c.ownerDead = true ∨ c.probing = true → c.state ≠ .lost → c.autoRecover = false →
    ∃ t d, exec (.ownerLossTimeout id) s = .next t ∧ t.recOf id = some d ∧ d.state = .lost ∧ d.epoch = c.epoch + 1 ∧ d.mirror = c.mirror ∧
      t.reg Reg.satCntLost = min 0xFFFFFFFF (s.reg Reg.satCntLost + 1) ∧ s.Only [.bar, .sat, .cmd, .host, .out] t) ∧
  (∀ (s : State) (m : CMsg) (part : Fin 16) (image : Sat) (log : List Token), s.sat.ready = true → m.rsv = 0 → m.state < 11 →
    (∀ slot, s.recoverCheck part.val image log.length = none → s.freeSlot = some slot →
      ∃ t x, exec (.recoverAssign m part image log) s = .next t ∧ t.satAt slot = some x ∧ x.id = m.id ∧ x.part = part ∧ x.state = .admitted ∧ x.epoch = m.epoch ∧ x.recovered = true ∧
        x.log = log ∧ x.kvPos = 0 ∧ x.rows = [] ∧ (∀ j, j ≠ slot → t.satAt j = s.satAt j) ∧
        t.out = s.out ++ ((s.part part.val).satelliteDevs false).map (fun e => Out.shardPlan e s.strokeNow
          [shardDo m.id 0 (.create x.tenant x.cls x.adapter x.adapterVer 0xFFFFFFFF)]) ++
          [.custody m.sender .recoverAns (s.reply m s.me .ok SatState.admitted.code log.length 0) .empty] ∧ s.Only [.sat, .memory, .out] t) ∧
    (∀ st, s.recoverCheck part.val image log.length = some st →
      exec (.recoverAssign m part image log) s = .next (s.sendC m.sender .recoverAns (s.reply m s.me st 0 0 0) .empty))) ∧
  (∀ (s : State) (m : CMsg) (c : Record) (k : Nat) (d : DevPart), s.sat.ready = true → m.rsv = 0 → m.state < 11 → s.returned m = false → s.recOf m.id = some c → c.state = .lost →
    c.epoch + 1 = m.epoch → c.candidate = some (k, d) → d.dev = m.sender → Status.ofCode m.status = .ok →
    ∃ t e, exec (.recoverAns m) s = .next t ∧ t.recOf m.id = some e ∧ e.state = .admitted ∧ e.epoch = m.epoch ∧ e.owner = m.sender ∧ e.candidate = none ∧ e.mirror = c.mirror ∧
      t.reg Reg.satCntRecover = min 0xFFFFFFFF (s.reg Reg.satCntRecover + 1) ∧ s.Only [.bar, .sat, .cmd, .host, .out] t) ∧
  (∀ (s : State) (id : SatchelId) (c : Record) (d : DevPart), s.recOf id = some c → c.id = id → c.state = .lost → c.candidate = some (0, d) →
    ∃ t, exec (.recoverAnsTimeout id) s = .next t ∧ t.recOf id = some { c with candidate := none, recoverReply := none } ∧ s.Only [.bar, .sat, .cmd, .host, .out] t) ∧
  (∀ (s : State) (m : CMsg) (p : CPayload) (c : Record), s.recOf m.id = some c → c.epoch = m.epoch → m.status = Status.ok.code →
    exec (.custodyUndelivered .commit c.owner m p) s = .next (s.modRec m.id fun y => { y with commitUndelivered := true })) ∧
  (∀ (s : State) (id : SatchelId) (dst : DeviceId) (c : Record), s.recOf id = some c → c.movingTo = some dst → c.sent = true →
    dst ≠ s.me →
    ∃ t, exec (.rehomeAck id dst none false) s = .next t ∧ t.recOf id = none ∧ (∀ j : SatchelId, j ≠ id → t.recOf j = s.recOf j) ∧ s.Only [.sat] t) ∧
  (∀ (s : State) (id : SatchelId) (c : Record) (last : Bool), c.id = id → s.recOf id = none →
    ∃ t, exec (.rehomeAck id s.me (some c) last) s = .next t ∧
      t.recOf id = some { c with chunks := s.sat.takeChunks [] c.mirror.length, movingTo := none, sent := false } ∧
      (∀ j : SatchelId, j ≠ id → t.recOf j = s.recOf j) ∧ t.sat.joined = (s.sat.joined && !last) ∧ s.Only [.sat] t) ∧
  (∀ (s : State) (mem : Fin 32), s.sat.heldQueries = [] → s.sat.heldClaims = [] →
    exec (.reregWindowClose mem) s = .next { s with sat := { s.sat with rereg := s.sat.rereg.filter fun w => w.1 != mem.val } })

/-- The buckle: OFFER, RECEIVER_DATA_COMPLETE, OFFER_NOTE, CLAIM, COMMIT, COMMIT_TIMEOUT, RELEASE, RELEASE_TIMEOUT, DECLINE, ABORT_REQ, ABORT_ANS, and what is left after it:
MIGRATION_COMPLETE, LODGING_EXPIRY, SATELLITE_EXPIRY, SHARD_PLAN_RECEIVE (R70, R89, R90, R93, R145, R225, R515). The model's choices: log entries 8, 66, 77. -/
def Obligations.Buckle : Prop :=
  (∀ (s : State) (m : CMsg) (x : Sat) (full inside shardsOk : Bool) (part : Fin 16) (sentBy : Option SentBy) (transit : Option (List Byte)), s.sat.ready = true → m.rsv = 0 → m.state < 11 → s.sat.incoming = [] →
    (∀ st, s.offerCheck m x full sentBy part.val = some st →
      exec (.offer m x full part inside sentBy transit shardsOk) s = .next (s.sendC m.sender .decline (s.cmsg m.id m.epoch m.sender st 0 0 0) .empty)) ∧
    (∀ slot, s.offerCheck m x full sentBy part.val = none → s.freeSlot = some slot → (shardsOk = true ∨ (s.part part.val).satelliteDevs false = []) →
      harness m.sender ≠ harness s.me → transit.bind (s.heldTransit x.tenant) = none →
      exec (.offer m x full part inside sentBy transit shardsOk) s = .next (s.sendC m.sender .decline (s.cmsg m.id m.epoch m.sender .protection 0 0 0) .empty)) ∧
    (∀ slot, s.offerCheck m x full sentBy part.val = none → s.freeSlot = some slot → (shardsOk = true ∨ (s.part part.val).satelliteDevs false = []) →
      (harness m.sender = harness s.me ∨ (transit.bind (s.heldTransit x.tenant)).isSome = true) →
      ∃ t, exec (.offer m x full part inside sentBy transit shardsOk) s = .next t ∧
        t.sat.incoming = [{ id := m.id, sender := m.sender, epoch := m.epoch, part := part, full := full, image := x, log := [], dataDone := false,
                            claimed := false, slot := slot, inside := inside, sentBy := sentBy, transit := transit }] ∧
        t.sat.reserved = slot :: s.sat.reserved ∧ t.sat.sats = s.sat.sats ∧
        t.out = s.out ++ ((s.part part.val).satelliteDevs false).map (fun e => Out.shardPlan e s.strokeNow
          [shardDo m.id x.kvPos (.reserve x.tenant x.cls x.adapter x.adapterVer)]) ∧ s.Only [.sat, .out] t)) ∧
  (∀ (s : State) (id : SatchelId) (i : Incoming) (log : List Token) (forms : List (List Byte)) (shardsTaken : Bool) (d : DeviceId), s.incomingOf id = some i →
    i.dataDone = false →
    (exec (.receiverDataComplete id .dataCorrupt log forms shardsTaken) s = .next ((s.discard i).decline i.sender id i.epoch .dataCorrupt)) ∧
    (i.transit.isSome = true → i.transit.bind (s.heldTransit i.image.tenant) = none →
      exec (.receiverDataComplete id .ok log forms shardsTaken) s = .next ((s.discard i).decline i.sender id i.epoch .protection)) ∧
    (i.transit = none → i.full = false → i.claimed = false → i.image.state ≠ .parkedWarm → s.registrar id = some d →
      (s.place i.slot Place.none log.length i.image.rows.length (s.part i.part.val).stateBytes).isSome = true →
      (shardsTaken = true ∨ (s.part i.part.val).satelliteDevs false = []) →
      ∃ t, exec (.receiverDataComplete id .ok log forms shardsTaken) s = .next t ∧
        t.out = s.out ++ [.custody d .claim (s.cmsg id (i.epoch + 1) i.sender .ok 0 log.length 0) .empty] ∧ t.sat.sats = s.sat.sats ∧
        s.Only [.sat, .memory, .out] t)) ∧
  (∀ (s : State) (m : CMsg) (c : Record), s.sat.ready = true → m.rsv = 0 → m.state < 11 → s.returned m = false → s.recOf m.id = some c → c.owner = m.sender → c.epoch = m.epoch →
    c.state ≠ .lost → c.state ≠ .inTransit →
    ∃ t d, exec (.offerNote m) s = .next t ∧ t.recOf m.id = some d ∧ d.state = .inTransit ∧ d.pending = m.peer ∧ d.owner = c.owner ∧ d.epoch = c.epoch ∧ s.Only [.sat] t) ∧
  (∀ (s : State) (m : CMsg) (c : Record), s.sat.ready = true → m.rsv = 0 → m.state < 11 → s.returned m = false → s.blt.l3 = false → s.recOf m.id = some c →
    (c.state = .inTransit → c.epoch + 1 = m.epoch → c.pending = m.sender →
      ∃ t d, exec (.claim m) s = .next t ∧ t.recOf m.id = some d ∧ d.owner = m.sender ∧ d.epoch = m.epoch ∧ d.state = c.prior ∧ d.mirror = c.mirror ∧
        t.reg Reg.satCntCommit = min 0xFFFFFFFF (s.reg Reg.satCntCommit + 1) ∧
        t.out = s.out ++ [.custody m.sender .commit (s.cmsg m.id m.epoch m.sender .ok c.prior.code c.mirror.length 0) .empty] ∧ s.Only [.bar, .sat, .out] t) ∧
    (c.state ≠ .inTransit ∨ c.epoch + 1 ≠ m.epoch ∨ c.pending ≠ m.sender →
      exec (.claim m) s = .next (s.sendC m.sender .commit (s.cmsg m.id m.epoch m.sender .notOwner 0 0 0) .empty))) ∧
  (∀ (s : State) (m : CMsg) (i : Incoming), s.sat.ready = true → m.rsv = 0 → m.state < 11 → s.sat.incoming.find? (fun j => j.id == m.id && j.epoch + 1 == m.epoch) = some i →
    (Status.ofCode m.status ≠ .ok → exec (.commit m) s = .next ((s.discard i).decline i.sender i.id i.epoch .notOwner)) ∧
    (Status.ofCode m.status = .ok →
      ((SatState.ofCode m.state).getD i.image.state ≠ .parkedWarm ∨ i.log.length ≤ i.image.kvPos ∨ (s.part i.part.val).role = 2) →
      ∃ t x l, exec (.commit m) s = .next t ∧ t.satAt i.slot = some x ∧ x.id = i.id ∧ x.part = i.part ∧ x.epoch = m.epoch ∧ x.log = i.log ∧ x.frozen = false ∧
        (∀ j, j ≠ i.slot → t.satAt j = s.satAt j) ∧ t.sat.reserved = s.sat.reserved.erase i.slot ∧
        l.length = ((s.part i.part.val).satelliteDevs false).length ∧
        t.out = s.out ++ l ++ [.custody i.sender .release (s.cmsg i.id m.epoch i.sender .ok ((SatState.ofCode m.state).getD i.image.state).code i.log.length 0) .empty] ∧
        s.Only [.sat, .out] t)) ∧
  (∀ (s : State) (id : SatchelId) (i : Incoming), s.incomingOf id = some i → i.claimed = true →
    exec (.commitTimeout id) s = .next ((s.discard i).decline i.sender id i.epoch .tierError)) ∧
  (∀ (s : State) (m : CMsg) (slot : Nat) (x : Sat) (v : Move), s.sat.ready = true → m.rsv = 0 → m.state < 11 → s.sending m.id (m.epoch - 1) = some slot → s.satAt slot = some x →
    x.move = some v → v.dev = m.sender →
    ∃ t, exec (.release m) s = .next t ∧ t.satAt slot = none ∧ (∀ j, j ≠ slot → t.satAt j = s.satAt j) ∧ s.Only [.bar, .sat, .kva, .pln, .memory, .fls, .cmd, .sec, .host, .out] t) ∧
  (∀ (s : State) (id : SatchelId) (e : Nat × Sat), s.sat.sats.find? (fun e => e.2.id == id && e.2.state == .inTransit) = some e →
    exec (.releaseTimeout id) s = .next (s.sendAbort e.1)) ∧
  (∀ (s : State) (m : CMsg) (slot : Nat) (x : Sat) (v : Move), s.sat.ready = true → m.rsv = 0 → m.state < 11 → s.sending m.id m.epoch = some slot → s.satAt slot = some x →
    x.move = some v → v.dev = m.sender →
    ∃ t y, exec (.decline m) s = .next t ∧ t.satAt slot = some y ∧ y.state = x.state ∧ y.move = some { v with declined := some (Status.ofCode m.status), abortSent := true } ∧
      (∀ j, j ≠ slot → t.satAt j = s.satAt j) ∧ s.Only [.sat, .out] t) ∧
  (∀ (s : State) (m : CMsg) (c : Record), s.sat.ready = true → m.rsv = 0 → m.state < 11 → s.returned m = false → s.recOf m.id = some c → c.state = .inTransit → c.epoch = m.epoch →
    c.owner = m.sender →
    ∃ t d, exec (.abortReq m) s = .next t ∧ t.recOf m.id = some d ∧ d.state = c.prior ∧ d.pending = 0xFFFF ∧ d.owner = c.owner ∧ d.epoch = c.epoch ∧
      t.reg Reg.satCntAbort = min 0xFFFFFFFF (s.reg Reg.satCntAbort + 1) ∧
      t.out = s.out ++ [.custody m.sender .abortAns (s.reply m c.owner .ok 0 0 0) .empty, .custody c.pending .abortAns (s.cmsg m.id m.epoch c.owner .ok 0 0 0) .empty] ∧
      s.Only [.bar, .sat, .out] t) ∧
  (∀ (s : State) (m : CMsg) (slot : Nat) (x : Sat) (v : Move), s.sat.ready = true → m.rsv = 0 → m.state < 11 → s.sending m.id m.epoch = some slot → s.satAt slot = some x →
    x.move = some v →
    (m.arg = 0 → x.cancelLatched = false → s.sec.shutdown = none →
      ∃ t y, exec (.abortAns m) s = .next t ∧ t.satAt slot = some y ∧ y.state = x.prior ∧ y.frozen = false ∧ y.move = none ∧ y.epoch = x.epoch ∧ y.rows = x.rows ∧
        (∀ j, j ≠ slot → t.satAt j = s.satAt j)) ∧
    (m.arg = 1 → ∃ t, exec (.abortAns m) s = .next t ∧ t.satAt slot = none ∧ (∀ j, j ≠ slot → t.satAt j = s.satAt j))) ∧
  (∀ (s : State) (id : SatchelId) (slot : Nat) (x : Sat), s.findSlot id = some slot → slot < 4194304 → s.satAt slot = some x → x.migrating = true → x.has .lodged = false →
    ∃ t, exec (.migrationComplete id) s = .next t ∧ t.satAt slot = some { x with migrating := false, lodge := 0xFFFF, migrated := 0 } ∧
      (x.lodge ≠ s.me → t.out = s.out ++ [.lodgingFree x.lodge id]) ∧ s.Only [.sat, .kva, .pln, .fls, .out] t) ∧
  (∀ (s : State) (id : SatchelId), s.findCtx id = none →
    ∃ t, exec (.migrationComplete id) s = .next t ∧ (∀ y ∈ t.sat.lodgings, y.id ≠ id) ∧ t.sat.sats = s.sat.sats ∧ s.Only [.sat, .kva, .pln, .fls] t) ∧
  (∀ (s : State) (id : SatchelId) (l : Lodging) (t0 : Nat), s.sat.lodgings.find? (fun l => l.id == id) = some l → l.deadAt = some t0 → t0 + s.lossTime ≤ s.stk.time →
    ∃ t, exec (.lodgingExpiry id) s = .next t ∧ (∀ y ∈ t.sat.lodgings, y.id ≠ id) ∧ t.sat.sats = s.sat.sats ∧ s.Only [.sat, .kva, .pln, .fls] t) ∧
  (∀ (s : State) (id : SatchelId) (k t0 : Nat) (y : Satellite), afind s.sat.satellites k = some y → y.id = id → y.deadAt = some t0 → t0 + s.lossTime ≤ s.stk.time →
    ∃ t, exec (.satelliteExpiry id) s = .next t ∧ afind t.sat.satellites k = none ∧ t.sat.sats = s.sat.sats ∧ s.Only [.sat, .kva, .pln, .memory, .fls, .out] t) ∧
  (∀ (s : State) (part : Fin 16) (owner : DeviceId) (stroke : Nat) (i : ShardInstr), i.ring = false →
    (i.acts = [] → s.satelliteFor part false i.id = none → exec (.shardPlanReceive part owner stroke [i]) s = .next s) ∧
    (∀ (tenant : BitVec 16) (cls : Fin 8) (adapter : BitVec 16) (version prefixId : BitVec 32) (w : Nat × State),
      i.acts = [.create tenant cls adapter version prefixId] → i.alloc = 0 → i.kill = false → i.drop = false → s.satelliteFor part false i.id = none →
      (∀ e ∈ s.kva.inks, e.prefixId ≠ prefixId) → s.newSatellite part owner false false i.id tenant cls adapter version i.kvPos = some w →
      ∃ t y, exec (.shardPlanReceive part owner stroke [i]) s = .next t ∧ afind t.sat.satellites w.1 = some y ∧ y.id = i.id ∧ y.owner = owner ∧ y.part = part ∧
        y.tenant = tenant ∧ y.rows = [] ∧ y.kvPos = i.kvPos ∧ s.Only [.sat, .memory] t) ∧
    (∀ (k : Nat) (y : Satellite) (h : Nat × State), s.satelliteFor part false i.id = some k → afind s.sat.satellites k = some y → y.id = i.id → y.part = part → y.rows = [] →
      1 ≤ y.place.tableCap → i.acts = [] → i.alloc = 1 → i.kill = false → i.drop = false → (s.part part.val).ringPos 0 = 0 → s.allocRow part.val i.id = some h →
      ∃ t z, exec (.shardPlanReceive part owner stroke [i]) s = .next t ∧ afind t.sat.satellites k = some z ∧ z.rows = [hereRow h.1] ∧ z.kvPos = i.kvPos ∧
        s.Only [.sat, .kva, .pln] t) ∧
    (∀ (list : List DevPart), i.acts = [.shards list] → s.satelliteFor part false i.id = none → s.pln.parts.length = 16 →
      ∃ t, exec (.shardPlanReceive part owner stroke [i]) s = .next t ∧ (t.part part.val).shardList = list ∧ (∀ p, p ≠ part.val → t.part p = s.part p) ∧ s.Only [.pln] t) ∧
    (∀ k, s.satelliteFor part false i.id = some k → i.acts = [] → i.drop = true →
      ∃ t, exec (.shardPlanReceive part owner stroke [i]) s = .next t ∧ afind t.sat.satellites k = none ∧ t.sat.sats = s.sat.sats ∧
        s.Only [.sat, .kva, .pln, .memory, .fls, .out] t))

/-! ### Waits, parking and the codec (chapters 04 and 09) -/

/-- WAIT_TIMEOUT_EXPIRY, PARKING_DUE, PARKING_COMPLETE, CACHE_PATH_RETRY, REVIVAL_RESIDENT, LEAD_RESTORE_START, PARK_CONFIG, PARK_POOL, TENANT_PARK, PARK_QUERY, CODEC_BLOCK_COMPLETE,
CODEC_REREAD (R117, R119, R120, R122, R124, R127, R129 to R131, R133, R303, R304): an expired wait wakes or cancels; a satchel whose parking is due begins it where the pool takes it,
and is parked once every block is encoded; a resident one enters PREFILL with its rows back; a block that decodes is placed and counted, one that does not is read
once more and then leads to the lower-tier path. The model's choices: log entries 23, 28, 37, 72, 126. -/
def Obligations.WaitsAndParking : Prop :=
  (∀ (s : State) (id : SatchelId) (slot : Nat) (x : Sat) (e : StopEntry), s.findSlot id = some slot → s.satAt slot = some x → x.state = .wait → x.waitKind ≠ 0 → x.park = .idle →
    x.stop.entries[x.waitMatcher]? = some e → e.timeout ≠ 0 →
    (s.age x < e.timeout → exec (.waitTimeoutExpiry id) s = .next s) ∧
    (e.timeout ≤ s.age x → x.waitExpiry = 1 → x.log.length + (e.wake.take e.wakeLen).length ≤ x.maxContext →
      (s.growLog slot (e.wake.take e.wakeLen).length).isSome = true →
      ∃ t y, exec (.waitTimeoutExpiry id) s = .next t ∧ t.satAt slot = some y ∧ y.log = x.log ++ (e.wake.take e.wakeLen).map asInput ∧ y.state = .prefill ∧ y.waitKind = 0 ∧
        y.kvPos = x.kvPos ∧ (∀ j, j ≠ slot → t.satAt j = s.satAt j) ∧ s.Only [.bar, .sat, .kva, .memory, .fls, .cmd, .host, .out] t) ∧
    (e.timeout ≤ s.age x → x.waitExpiry = 1 → x.log.length + (e.wake.take e.wakeLen).length ≤ x.maxContext → s.growLog slot (e.wake.take e.wakeLen).length = none →
      exec (.waitTimeoutExpiry id) s = .next s) ∧
    (slot < 4194304 → e.timeout ≤ s.age x → x.waitExpiry = 2 → x.planned = none → x.autoFree = false → x.freeing = [] →
      ∃ t y, exec (.waitTimeoutExpiry id) s = .next t ∧ t.satAt slot = some y ∧ y.state = .cancelled ∧ y.rows = [] ∧ y.log = x.log ∧
        s.Only [.bar, .sat, .kva, .pln, .memory, .fls, .cmd, .host, .out] t)) ∧
  (∀ (s : State) (part : Fin 16) (slot : Nat) (x : Sat), s.sat.sats = [(slot, x)] → x.part = part → x.admitting = none → x.state = .wait → s.due x = 1 →
    slot < 4194304 → (∀ e ∈ s.sat.satellites, e.2.part ≠ part) → s.poolRefusal false x.tenant (s.rawUnits slot x.toKvCtx) = none → 1 ≤ (s.parkCfgAt part.val).parkRate → afind s.fls.extents 992 = none →
    exec (.parkingDue part) s = .next (s.modSat slot fun y => { y with park := .parking false (s.rawUnits slot x.toKvCtx) })) ∧
  (∀ (s : State) (part : Fin 16), (∀ e ∈ s.sat.sats, e.2.part ≠ part) → (∀ e ∈ s.sat.satellites, e.2.part ≠ part) → exec (.parkingDue part) s = .next s.trimCold) ∧
  (∀ (s : State) (id : SatchelId) (slot n0 : Nat) (x : Sat) (cold : Bool), s.findSlot id = some slot → s.satAt slot = some x → x.park = .parking cold n0 → slot < 4194304 →
    s.parkDone slot x.toKvCtx cold = true →
    ∃ t y, exec (.parkingComplete id) s = .next t ∧ t.satAt slot = some y ∧ y.state = (if cold then SatState.parkedCold else SatState.parkedWarm) ∧ y.park = .idle ∧ y.log = x.log ∧
      y.rows = x.rows ∧ y.home = [] ∧ y.units = (if cold then x.cold.length else s.packedUnits slot false) ∧
      afind t.kva.indexes slot = (if s.formsOf slot = [] then none else some (indexBytes ((s.formsOf slot).map fun w => storedLen w cold) cold)) ∧
      t.pln.devCnt.parks = min 0xFFFFFFFF (s.pln.devCnt.parks + 1) ∧ (∀ j, j ≠ slot → t.satAt j = s.satAt j) ∧ s.Only [.sat, .kva, .pln, .memory, .fls, .out] t) ∧
  (∀ (s : State) (id : SatchelId) (slot n0 : Nat) (x : Sat) (cold : Bool), s.findSlot id = some slot → s.satAt slot = some x → x.park = .parking cold n0 → slot < 4194304 →
    s.parkDone slot x.toKvCtx cold = false → exec (.parkingComplete id) s = .next s) ∧
  (∀ (s : State) (id : SatchelId) (slot n : Nat) (x : Sat), s.findSlot id = some slot → s.satAt slot = some x → x.park = .cacheWait n →
    exec (.cachePathRetry id) s = .next (if n ≤ s.boundaryStroke then s.modSat slot fun y => { y with park := .cachePass 0 } else s)) ∧
  (∀ (s : State) (id : SatchelId) (slot : Nat) (x : Sat), s.findSlot id = some slot → s.satAt slot = some x → x.park = .reviving [] false → slot < 4194304 →
    ∃ t, exec (.revivalResident id) s = .next t ∧
      t.satAt slot = some { x with state := .prefill, rows := swapIn x.rows x.staged, staged := [], cold := [], units := 0, park := .idle } ∧
      (∀ b ∈ t.kva.parked, b.1 / 2 ^ 28 ≠ slot) ∧ t.pln.devCnt.revivals = min 0xFFFFFFFF (s.pln.devCnt.revivals + 1) ∧ (∀ j, j ≠ slot → t.satAt j = s.satAt j) ∧
      s.Only [.sat, .kva, .cores, .pln, .fls] t) ∧
  (∀ (s : State) (id : SatchelId) (slot : Nat) (x : Sat) (e : StopEntry), s.findSlot id = some slot → s.satAt slot = some x → (x.state = .parkedWarm ∨ x.state = .parkedCold) → x.waitKind ≠ 0 → x.waitExpiry = 1 →
    x.mayLead = true → (s.part x.part.val).role ≠ 2 → (s.parkCfgAt x.part.val).lead ≠ 0 → x.stop.entries[x.waitMatcher]? = some e →
    exec (.leadRestoreStart id) s = .next (if e.timeout ≤ s.age x + (s.parkCfgAt x.part.val).lead then s.beginRevive slot true else s)) ∧
  (∀ (s s1 : State) (h : Header) (r : ReplyTo) (cfg : ParkCfg) (rp rsv : Nat), s.Serves ⟨0x0105, 1, true, false, 16, rsv, 0, false⟩ h false r s1 → s1.partRefusal h.part.val = none →
    (cfg.a1 ≠ 0 → cfg.a2 ≠ 0 → cfg.coldTarget = 2 → 1 ≤ cfg.parkRate → cfg.parkRate ≤ 65535 → cfg.lead ≤ 255 → cfg.targets = [] → cfg.revive = none → rp ≤ 15 →
      exec (.parkConfig h cfg 0 rp rsv) s = .next (State.done (s1.modPart h.part.val fun y => { y with parkPend := some cfg }) r .ok)) ∧
    (cfg.a1 = 0 ∨ cfg.a2 = 0 ∨ cfg.parkRate = 0 ∨ 2 < cfg.coldTarget → exec (.parkConfig h cfg 0 rp rsv) s = .next (s1.done r .badField))) ∧
  (∀ (s s1 : State) (h : Header) (r : ReplyTo) (cfg : ParkCfg) (rp rsv : Nat) (d : DevPart), s.Serves ⟨0x0105, 1, true, false, 16 + 4 * cfg.targets.length, rsv, 0, false⟩ h false r s1 →
    s1.partRefusal h.part.val = none → d ∈ cfg.targets → 2 ^ 14 ≤ d.dev.toNat →
    exec (.parkConfig h cfg cfg.targets.length rp rsv) s = .next (s1.done r .badField)) ∧
  (∀ (s s1 : State) (h : Header) (r : ReplyTo) (warm cold : Nat), s.Serves ⟨0x0402, 1, false, false, 8, 0, 0, false⟩ h false r s1 → (cold = 0 ∨ s1.fls.ready = true) →
    (s1.sizeWarm warm = none → exec (.parkPool h warm cold) s = .next (s1.done r .noResource)) ∧
    (∀ y z : State, s1.sizeWarm warm = some y → y.sizeCold cold = some z →
      ∃ t, exec (.parkPool h warm cold) s = .next t ∧ t.pln = { z.pln with warmUnits := warm, coldUnits := cold } ∧ t.memory = z.memory ∧
        s.Only [.bar, .stk, .pln, .memory, .fls, .cmd, .host, .out] t)) ∧
  (∀ (s s1 : State) (h : Header) (r : ReplyTo) (tenant : BitVec 16) (warmCap coldCap rsv : Nat), s.Serves ⟨0x0401, 1, false, false, 20, rsv, 0, false⟩ h false r s1 →
    1 ≤ warmCap → warmCap ≤ 0xFFFFFFFF → 1 ≤ coldCap → coldCap ≤ 0xFFFFFFFF → tenant ≠ 0xFFFF → s1.tenantsFull tenant = false →
    ∃ t q, exec (.tenantPark h tenant 0 warmCap 0 coldCap rsv) s = .next t ∧ afind t.pln.tenants tenant.toNat = some q ∧ q.warmFloor = 0 ∧ q.warmCap = warmCap ∧ q.coldFloor = 0 ∧
      q.coldCap = coldCap ∧ t = State.done { s1 with pln := t.pln } r .ok) ∧
  (∀ (s s1 : State) (h : Header) (r : ReplyTo) (tenant : BitVec 16) (rsv : Nat), s.Serves ⟨0x0403, 1, true, false, 4, rsv, 0, false⟩ h false r s1 →
    exec (.parkQuery h tenant rsv) s =
      .next (if tenant = 0xFFFF ∧ h.origin.partition.isSome then s1.done r .protection else s1.answer r .ok true (s1.parkRecord tenant))) ∧
  (∀ (s : State) (id : SatchelId) (slot block n0 : Nat) (x : Sat) (cold : Bool) (group : Fin 16) (index fetched : Option (List Byte)), s.findSlot id = some slot →
    s.satAt slot = some x → x.park = .parking cold n0 → slot < 4194304 → x.state = .wait → block < s.ctxBlocks x.toKvCtx → x.cold = [] →
    ∃ t, exec (.codecBlockComplete id block true group 0 index fetched) s = .next t ∧
      (cold = false →
        (∃ y, t.satAt slot = some y ∧ y.log = x.log ∧ y.state = x.state ∧ y.park = x.park ∧ y.rows.length = x.rows.length) ∧
        afind t.kva.parked (blockKey slot block) = some (encodeBlock (s.ctxBlockWidth x.toKvCtx block) (s.ctxRaw x.toKvCtx block)).1 ∧
        (∀ k, k ≠ blockKey slot block → afind t.kva.parked k = afind s.kva.parked k) ∧ t.reg Reg.cdcCntEnc = min 0xFFFFFFFF (s.reg Reg.cdcCntEnc + 1) ∧
        (∀ j, j ≠ slot → t.satAt j = s.satAt j) ∧ s.Only [.bar, .sat, .kva] t) ∧
      s.Only [.bar, .sat, .kva, .fls, .sec] t) ∧
  (∀ (s : State) (id : SatchelId) (slot block : Nat) (l : List Nat) (st : Bool) (x : Sat) (group : Fin 16) (index fetched : Option (List Byte)), s.findSlot id = some slot →
    s.satAt slot = some x → x.park = .reviving l st → slot < 4194304 → block ∈ l → (slot, block) ∉ s.kva.rereads →
    (∀ raw, s.decodeAt slot x.toKvCtx block index fetched = .ok raw →
      ∃ t, exec (.codecBlockComplete id block false group 0 index fetched) s = .next t ∧ t.satAt slot = some { x with park := .reviving (l.erase block) st } ∧
        t.reg Reg.cdcCntDec = min 0xFFFFFFFF (s.reg Reg.cdcCntDec + 1) ∧ (∀ j, j ≠ slot → t.satAt j = s.satAt j) ∧ s.Only [.bar, .sat, .kva, .memory] t) ∧
    (∀ b, s.decodeAt slot x.toKvCtx block index fetched = .error b →
      ∃ t, exec (.codecBlockComplete id block false group 0 index fetched) s = .next t ∧ t.kva.rereads = s.kva.rereads ++ [(slot, block)] ∧ t.sat = s.sat ∧
        s.Only [.kva, .memory, .freeCtr] t)) ∧
  (∀ (s : State) (id : SatchelId) (slot block : Nat) (l : List Nat) (st : Bool) (x : Sat) (group : Fin 16) (index fetched : Option (List Byte)), s.findSlot id = some slot →
    s.satAt slot = some x → x.park = .reviving l st → slot < 4194304 → (slot, block) ∈ s.kva.rereads →
    (∀ raw, s.decodeAt slot x.toKvCtx block index fetched = .ok raw → s.flag Reg.cdcCtrl 1 = false →
      ∃ t, exec (.codecReread id block group index fetched) s = .next t ∧ t.satAt slot = some { x with park := .reviving (l.erase block) st } ∧
        t.reg Reg.cdcCntTransient = min 0xFFFFFFFF (s.reg Reg.cdcCntTransient + 1) ∧ t.kva.rereads = s.kva.rereads.erase (slot, block) ∧ s.Only [.bar, .sat, .kva, .memory] t) ∧
    (∀ b, s.decodeAt slot x.toKvCtx block index fetched = .error b → x.noSubst = false → x.state.live = true →
      ∃ t y, exec (.codecReread id block group index fetched) s = .next t ∧ t.satAt slot = some y ∧ y.kvPos = 0 ∧ y.rows = [] ∧ y.recovered = true ∧ y.log = x.log ∧
        t.reg Reg.cdcCntCorrupt = min 0xFFFFFFFF (s.reg Reg.cdcCntCorrupt + 1)))

/-! ### The KV arena (chapter 05) -/

/-- SWAP_OUT_COMPLETE, SWAP_RETURN_COMPLETE, KV_SWAP_CONFIG, INKWELL_PUBLISH, INKWELL_WITHDRAW, INKWELL_PIN_END (R133, R153 to R158, R166, R168): a swapped row's entry names its slots and
its frames are free, and it is LOCAL again when it came back unharmed; else the satchel is rebuilt, or ends where it takes no substitute. A published prefix is an
entry whose rows the satchel then holds as inkwell rows. The model's choices: log entries 23, 43. -/
def Obligations.SwapAndInkwell : Prop :=
  (∀ (s : State) (id : SatchelId) (row slot : Nat) (toT2 : Bool) (x : Sat) (e : Nat × Bool × Nat) (r : Row), s.findSlot id = some slot → s.satAt slot = some x →
    slot < 4194304 → x.swapOut.find? (fun e => e.1 == row && e.2.1 == toT2) = some e → x.rows[row]? = some r → r.kind = .here →
    (toT2 = true → s.t2Durable (swapExtent x.part.val) (runFrom e.2.2 (s.part x.part.val).rowUnitsT2) = false →
      exec (.swapOutComplete id row toT2) s = .next s) ∧
    (toT2 = false ∨ s.t2Durable (swapExtent x.part.val) (runFrom e.2.2 (s.part x.part.val).rowUnitsT2) = true →
    ∃ t y, exec (.swapOutComplete id row toT2) s = .next t ∧ t.satAt slot = some y ∧ y.rows[row]? = some { r with kind := if toT2 then RowKind.swapT2 else RowKind.swapHost, loc := e.2.2 } ∧
      (∀ j, j ≠ row → y.rows[j]? = x.rows[j]?) ∧ y.swapOut = x.swapOut.erase e ∧ t.kva.swapFull = false ∧
      t.reg Reg.kvaCntSwapOut = min 0xFFFFFFFF (s.reg Reg.kvaCntSwapOut + 1) ∧ (∀ j, j ≠ slot → t.satAt j = s.satAt j) ∧ s.Only [.bar, .sat, .kva, .pln, .host] t)) ∧
  (∀ (s : State) (id : SatchelId) (row slot : Nat) (x : Sat) (e : Nat × Nat) (r : Row), s.findSlot id = some slot → s.satAt slot = some x →
    slot < 4194304 → x.returns.find? (fun e => e.1 == row) = some e → x.rows[row]? = some r →
    (s.swapOk x.part.val r = true →
      ∃ t y, exec (.swapReturnComplete id row true false) s = .next t ∧ t.satAt slot = some y ∧ y.rows[row]? = some { r with kind := .here, loc := e.2 } ∧
        (∀ j, j ≠ row → y.rows[j]? = x.rows[j]?) ∧ y.returns = x.returns.erase e ∧ t.reg Reg.kvaCntSwapIn = min 0xFFFFFFFF (s.reg Reg.kvaCntSwapIn + 1) ∧
        (∀ j, j ≠ slot → t.satAt j = s.satAt j) ∧ s.Only [.bar, .sat, .kva, .cores, .pln, .memory, .fls] t) ∧
    (x.state.live = true → x.noSubst = false → ∃ t y, exec (.swapReturnComplete id row false true) s = .next t ∧ t.satAt slot = some y ∧ y.kvPos = 0 ∧ y.rows = [] ∧ y.log = x.log ∧
        s.Only [.bar, .sat, .kva, .pln, .fls, .blt, .out] t) ∧
    (x.state.live = true → x.noSubst = true → ∃ t y, exec (.swapReturnComplete id row false true) s = .next t ∧ t.satAt slot = some y ∧ y.state = .done ∧
        y.outRecs = x.outRecs ++ [finalRec x .tierError s.strokeNow])) ∧
  (∀ (s s1 : State) (h : Header) (r : ReplyTo) (extents : List (Nat × Nat)) (rsv : Nat), s.Serves ⟨0x0106, 1, true, false, 8 + 16 * extents.length, rsv, 0, false⟩ h false r s1 →
    s1.partRefusal h.part.val = none → swapExtentsOk extents.length extents = true →
    ((s1.part h.part.val).swapHostUsed ≠ [] ∨ (s1.part h.part.val).swapT2Used ≠ [] → exec (.kvSwapConfig h 0 extents.length extents rsv) s = .next (s1.done r .partitionBusy)) ∧
    ((s1.part h.part.val).swapHostUsed = [] → (s1.part h.part.val).swapT2Used = [] →
      ∃ t, exec (.kvSwapConfig h 0 extents.length extents rsv) s = .next t ∧
        (h.part.val < s1.pln.parts.length → (t.part h.part.val).swapHost = extents ∧ (t.part h.part.val).swapT2 = 0) ∧
        afind t.fls.extents (swapExtent h.part.val) = none ∧ s.Only [.bar, .stk, .pln, .fls, .cmd, .host, .out] t)) ∧
  (∀ (s s1 : State) (h : Header) (r : ReplyTo) (id : SatchelId) (length rsv slot : Nat) (y z : Sat) (n : Nat), s.Serves ⟨0x0307, 1, true, true, 16, rsv, 0, false⟩ h false r s1 →
    satGen id ≠ 0 → s1.findSlot id = some slot → s1.satAt slot = some y → h.mayName y = true → (y.state = .ready ∨ y.state = .wait) → s1.ready y.part.val = true →
    (s1.part y.part.val).image.isSome = true → 1 ≤ length → n = ceilDiv length (s1.part y.part.val).positions → slot < 4194304 → (s1.abandonPark slot).satAt slot = some z →
    (y.kvPos < length → exec (.inkwellPublish h id length false rsv) s = .next (s1.done r .badField)) ∧
    (length ≤ y.kvPos → (∀ w ∈ z.rows.take n, w.kind = .here ∨ w.kind = .inkwell) → s1.kva.inks.length < 65536 →
      ∃ t x e, exec (.inkwellPublish h id length false rsv) s = .next t ∧ t.kva.inks = s1.kva.inks ++ [e] ∧ e.prefixId = BitVec.ofNat 32 s1.newPrefix ∧ e.part = y.part ∧ e.model = y.model ∧
        e.length = length ∧ e.rows = (z.rows.take n).map (fun w => w.loc) ∧ e.tokens = y.log.take length ∧ e.scope = some y.tenant ∧ t.satAt slot = some x ∧
        (∀ w ∈ x.rows.take (z.rows.take n).length, w.kind = .inkwell) ∧ x.log = y.log ∧ (∀ j, j ≠ slot → t.satAt j = s1.satAt j))) ∧
  (∀ (s s1 : State) (h : Header) (r : ReplyTo) (prefixId : BitVec 32) (rsv : Nat), s.Serves ⟨0x0308, 1, true, false, 8, rsv, 0, false⟩ h false r s1 →
    (s1.kva.inks.find? (fun k => k.prefixId == prefixId) = none → exec (.inkwellWithdraw h prefixId rsv) s = .next (s1.done r .alreadyDone)) ∧
    (h.origin.partition = none → ∃ t, exec (.inkwellWithdraw h prefixId rsv) s = .next t ∧ (∀ k ∈ t.kva.inks, k.prefixId ≠ prefixId) ∧ t.sat.sats = s.sat.sats)) ∧
  (∀ (s : State) (reader : Nat), ∃ t, exec (.inkwellPinEnd reader) s = .next t ∧ t.kva.pins = s.kva.pins.filter (fun n => n.reader != reader) ∧ t.kva.inks = s.kva.inks ∧
    t.kva.epoch = s.kva.epoch ∧ s.Only [.kva, .pln] t)

/-! ### Compute cores (chapter 06) -/

/-- TQ_PUSH, TQ_PUSH_RESUME, TQ_POLL, TQ_WAIT, TQ_FENCE and THREAD_TRAP (R196, R199, R200): a push that passes its checks puts the 64 bytes at rs1 into the unit's queue
and a ticket into rd; one that fails queues nothing and gives bit 63 and the status; one that meets a full queue stalls, and is tried again when room appears. A poll and a
wait tell a ticket's status, 0 or a block while it is outstanding, BAD_FIELD for a ticket that the thread does not know; a fence blocks while any is outstanding. A trap
stops the thread, records its cause, address and value and posts a level 2 fault; a reserved word of custom-0 and an ECALL trap, and lthread reads as the thread's
number. The model's choices: log entries 83, 84. -/
def Obligations.ThreadInstructions : Prop :=
  (∀ (s s1 : State) (core : Fin 128) (thr : Fin 64) (w : Word) (pc v1 v2 : BitVec 64) (p c u : Nat) (x : Thread) (d : List Byte),
    s.ComesTo core thr w pc v1 v2 .push p x → s.unitOf core.val (x.getX (xRs2 w)).toNat = some (c, u) → (x.getX (xRs1 w)).toNat % 64 = 0 →
    (s.modThread (threadKey core.val thr.val) fun _ => x).fetchVa p (x.getX (xRs1 w)).toNat 64 = (s1, .ok d) →
    (∀ st, s1.pushRefusal p c u d = some st →
      exec (.tqPush core thr w pc v1 v2) s = .next (s1.modThread (threadKey core.val thr.val) fun y => y.retire (xRd w) (BitVec.ofNat 64 (2 ^ 63 + st.code)))) ∧
    (s1.pushRefusal p c u d = none → (agetD s.cores.queues (unitKey c u) []).length < 256 → x.tickets.length < 32 →
      ∃ t q, exec (.tqPush core thr w pc v1 v2) s = .next t ∧
        agetD t.cores.queues (unitKey c u) [] = agetD s.cores.queues (unitKey c u) [] ++ [q] ∧ q.seq = agetD s.cores.seqs (unitKey c u) 0 ∧
        q.thread = threadKey core.val thr.val ∧ q.part.val = p ∧ q.addr = (x.getX (xRs1 w)).toNat ∧ q.desc = d ∧ q.result = none ∧ q.served = [] ∧
        (∀ i, i ≠ unitKey c u → agetD t.cores.queues i [] = agetD s.cores.queues i []) ∧
        t.thread (threadKey core.val thr.val) =
          { x with tickets := ticketOf c u q.seq :: x.tickets }.retire (xRd w) (BitVec.ofNat 64 (ticketOf c u q.seq)) ∧
        (∀ j, j ≠ threadKey core.val thr.val → t.thread j = s.thread j) ∧ s.Only [.cores, .memory, .freeCtr] t) ∧
    (s1.pushRefusal p c u d = none → 256 ≤ (agetD s.cores.queues (unitKey c u) []).length ∨ 32 ≤ x.tickets.length →
      exec (.tqPush core thr w pc v1 v2) s = .next (s1.modThread (threadKey core.val thr.val) fun y =>
        { y with state := .stalled (xRd w) (x.getX (xRs1 w)).toNat (x.getX (xRs2 w)).toNat }))) ∧
  (∀ (s : State) (core : Fin 128) (thr : Fin 64) (w : Word) (pc v1 v2 : BitVec 64) (p : Nat) (x : Thread), s.ComesTo core thr w pc v1 v2 .push p x →
    s.unitOf core.val (x.getX (xRs2 w)).toNat = none ∨ (x.getX (xRs1 w)).toNat % 64 ≠ 0 →
    exec (.tqPush core thr w pc v1 v2) s =
      .next (s.modThread (threadKey core.val thr.val) fun _ => x.retire (xRd w) (BitVec.ofNat 64 (2 ^ 63 + Status.badField.code)))) ∧
  (∀ (s s1 : State) (core : Fin 128) (thr : Fin 64) (rd addr sel p c u : Nat) (d : List Byte), s.coreOwner core.val = some p → s.partRuns p = true →
    (s.thread (threadKey core.val thr.val)).state = .stalled rd addr sel → s.unitOf core.val sel = some (c, u) → addr % 64 = 0 → s.fetchVa p addr 64 = (s1, .ok d) →
    s1.pushRefusal p c u d = none → (agetD s.cores.queues (unitKey c u) []).length < 256 → (s.thread (threadKey core.val thr.val)).tickets.length < 32 →
    ∃ t q, exec (.tqPushResume core thr) s = .next t ∧
      agetD t.cores.queues (unitKey c u) [] = agetD s.cores.queues (unitKey c u) [] ++ [q] ∧ q.desc = d ∧ q.thread = threadKey core.val thr.val ∧
      t.thread (threadKey core.val thr.val) =
        { s.thread (threadKey core.val thr.val) with tickets := ticketOf c u q.seq :: (s.thread (threadKey core.val thr.val)).tickets }.retire rd
          (BitVec.ofNat 64 (ticketOf c u q.seq)) ∧
      (∀ j, j ≠ threadKey core.val thr.val → t.thread j = s.thread j) ∧ s.Only [.cores, .memory, .freeCtr] t) ∧
  (∀ (s : State) (core : Fin 128) (thr : Fin 64) (w : Word) (pc v1 v2 : BitVec 64) (p : Nat) (x : Thread), s.ComesTo core thr w pc v1 v2 .poll p x →
    exec (.tqPoll core thr w pc v1 v2) s = .next (s.modThread (threadKey core.val thr.val) fun _ => x.retire (xRd w)
      (if (x.getX (xRs1 w)).toNat ∈ x.tickets then 0
       else match x.recent.find? fun q => q.1 == (x.getX (xRs1 w)).toNat with
         | some q => BitVec.ofNat 64 (2 ^ 63 + q.2.code)
         | none => BitVec.ofNat 64 (2 ^ 63 + Status.badField.code)))) ∧
  (∀ (s : State) (core : Fin 128) (thr : Fin 64) (w : Word) (pc v1 v2 : BitVec 64) (p : Nat) (x : Thread), s.ComesTo core thr w pc v1 v2 .wait p x →
    exec (.tqWait core thr w pc v1 v2) s = .next (s.modThread (threadKey core.val thr.val) fun _ =>
      if (x.getX (xRs1 w)).toNat ∈ x.tickets then { x with state := .waitTicket (xRd w) (x.getX (xRs1 w)).toNat }
      else match x.recent.find? fun q => q.1 == (x.getX (xRs1 w)).toNat with
        | some q => x.retire (xRd w) (BitVec.ofNat 64 q.2.code)
        | none => x.retire (xRd w) (BitVec.ofNat 64 Status.badField.code))) ∧
  (∀ (s : State) (core : Fin 128) (thr : Fin 64) (w : Word) (pc v1 v2 : BitVec 64) (p : Nat) (x : Thread), s.ComesTo core thr w pc v1 v2 .fence p x →
    exec (.tqFence core thr w pc v1 v2) s = .next (s.modThread (threadKey core.val thr.val) fun _ =>
      if x.tickets = [] then x.retire 0 0 else { x with state := .waitFence })) ∧
  (∀ (s : State) (core : Fin 128) (thr : Fin 64) (w : Word) (pc v1 v2 : BitVec 64) (p : Nat), s.coreOwner core.val = some p → s.partRuns p = true →
    (s.thread (threadKey core.val thr.val)).state = .running → xDecode w = none →
    (bits w.toNat 6 0 = 0x0B → exec (.tqPush core thr w pc v1 v2) s =
      .next ((s.modThread (threadKey core.val thr.val) fun x => x.atInstr w pc v1 v2).trap core.val thr.val 2 pc (BitVec.ofNat 64 w.toNat))) ∧
    (w = 0x73 → exec (.tqPush core thr w pc v1 v2) s =
      .next ((s.modThread (threadKey core.val thr.val) fun x => x.atInstr w pc v1 v2).trap core.val thr.val 8 pc 0)) ∧
    (bits w.toNat 6 0 = 0x73 → bits w.toNat 14 12 = 2 → xRs1 w = 0 → bits w.toNat 31 20 = 0xCC0 → exec (.tqPush core thr w pc v1 v2) s =
      .next (s.modThread (threadKey core.val thr.val) fun x => (x.atInstr w pc v1 v2).retire (xRd w) (BitVec.ofNat 64 (lthread p core.val thr.val))))) ∧
  (∀ (s : State) (core : Fin 128) (thr : Fin 64) (cause : Fin 64) (pc tval : BitVec 64), (s.thread (threadKey core.val thr.val)).state ≠ .stopped →
    agetD s.blt.outbox core.val [] = [] →
    ∃ t, exec (.threadTrap core thr cause pc tval) s = .next t ∧
      t.thread (threadKey core.val thr.val) = { s.thread (threadKey core.val thr.val) with state := .stopped, pc := pc } ∧
      (∀ j, j ≠ threadKey core.val thr.val → t.thread j = s.thread j) ∧ t.cores.queues = s.cores.queues ∧
      t.reg (Reg.coreTrapCause core.val) = 2 ^ 31 + thr.val * 65536 + cause.val ∧
      t.reg (Reg.coreTrapEpcLo core.val) = pc.toNat % 2 ^ 32 ∧ t.reg (Reg.coreTrapEpcHi core.val) = pc.toNat / 2 ^ 32 ∧
      t.reg (Reg.coreTrapTvalLo core.val) = tval.toNat % 2 ^ 32 ∧ t.reg (Reg.coreTrapTvalHi core.val) = tval.toNat / 2 ^ 32 ∧
      t.flag (Reg.coreStatus core.val) 1 = true ∧
      (∃ m, agetD t.blt.outbox core.val [] = [m] ∧ m.fault.level = 2 ∧ m.fault.kind = 0x401 ∧ m.fault.source.toNat = core.val) ∧
      s.Only [.bar, .cores, .blt] t)

/-- CV_SET, CV_CLR, CV_WAIT, CV_READ and COMMAND_COMPLETE (R193, R200 to R202): a set is an OR into the partition's vectors and ends the waits that it fulfils; a clear takes
the mask's bits out of one word; a wait blocks until its mask is set in the word and then reads it; a completed command leaves its queue, is counted, tells its thread and, with
CV_EN, sets its bit. No other partition's vectors change. The model's choices: log entries 3, 85, 86. -/
def Obligations.CompletionVectors : Prop :=
  (∀ (s : State) (core : Fin 128) (thr : Fin 64) (w : Word) (pc v1 v2 : BitVec 64) (p : Nat) (x : Thread), s.ComesTo core thr w pc v1 v2 .cvSet p x →
    ∃ t, exec (.cvSet core thr w pc v1 v2) s = .next t ∧
      (∀ b, b ∈ (t.part p).cv ↔ b ∈ (s.part p).cv ∨ b = (x.getX (xRs1 w)).toNat % 2 ^ 14) ∧ (∀ i, i ≠ p → t.part i = s.part i) ∧
      (t.part p = { s.part p with cv := (t.part p).cv }) ∧
      t.thread (threadKey core.val thr.val) = x.retire 0 0 ∧
      ((x.getX (xRs1 w)).toNat % 2 ^ 14 ∉ (s.part p).cv → ∀ j, j ≠ threadKey core.val thr.val →
        t.thread j = if bitAt (s.part p).slices.toNat (j / 512) then (s.thread j).cvWake (t.part p) else s.thread j) ∧
      t.cores.queues = s.cores.queues ∧ s.Only [.cores, .pln] t) ∧
  (∀ (s : State) (core : Fin 128) (thr : Fin 64) (w : Word) (pc v1 v2 : BitVec 64) (p : Nat) (x : Thread), s.ComesTo core thr w pc v1 v2 .cvClr p x →
    ∃ t, exec (.cvClr core thr w pc v1 v2) s = .next t ∧
      (∀ b, b ∈ (t.part p).cv ↔ b ∈ (s.part p).cv ∧ ¬ (b / 64 = (x.getX (xRs1 w)).toNat ∧ bitAt (x.getX (xRs2 w)).toNat (b % 64) = true)) ∧
      (∀ i, i ≠ p → t.part i = s.part i) ∧ (t.part p = { s.part p with cv := (t.part p).cv }) ∧
      t.thread (threadKey core.val thr.val) = x.retire 0 0 ∧ (∀ j, j ≠ threadKey core.val thr.val → t.thread j = s.thread j) ∧
      t.cores.queues = s.cores.queues ∧ s.Only [.cores, .pln] t) ∧
  (∀ (s : State) (core : Fin 128) (thr : Fin 64) (w : Word) (pc v1 v2 : BitVec 64) (p : Nat) (x : Thread), s.ComesTo core thr w pc v1 v2 .cvWait p x →
    ((s.part p).cvWord (x.getX (xRs1 w)).toNat &&& (x.getX (xRs2 w)).toNat ≠ (x.getX (xRs2 w)).toNat →
      exec (.cvWait core thr w pc v1 v2) s =
        .next (s.modThread (threadKey core.val thr.val) fun _ => { x with state := .waitCv (xRd w) (x.getX (xRs1 w)).toNat (x.getX (xRs2 w)).toNat })) ∧
    ((s.part p).cvWord (x.getX (xRs1 w)).toNat &&& (x.getX (xRs2 w)).toNat = (x.getX (xRs2 w)).toNat → (x.getX (xRs1 w)).toNat < 256 →
      exec (.cvWait core thr w pc v1 v2) s =
        .next (s.modThread (threadKey core.val thr.val) fun _ => x.retire (xRd w) (BitVec.ofNat 64 ((s.part p).cvWord (x.getX (xRs1 w)).toNat))))) ∧
  (∀ (s : State) (core : Fin 128) (thr : Fin 64) (w : Word) (pc v1 v2 : BitVec 64) (p : Nat) (x : Thread), s.ComesTo core thr w pc v1 v2 .cvRead p x →
    (x.getX (xRs1 w)).toNat < 256 →
    exec (.cvRead core thr w pc v1 v2) s =
      .next (s.modThread (threadKey core.val thr.val) fun _ => x.retire (xRd w) (BitVec.ofNat 64 ((s.part p).cvWord (x.getX (xRs1 w)).toNat)))) ∧
  (∀ (s : State) (core : Fin 128) (dev : Fin 10) (seq : Nat) (c : CoreCmd) (st : Status), s.cmdAt core.val dev.val seq = some c → c.result = some st →
    (((agetD s.cores.queues (unitKey core.val dev.val) []).takeWhile fun x => x.seq != seq).filter fun x => x.thread == c.thread) = [] →
    s.partRuns c.part.val = true →
    (c.flag 1 = false →
      ∃ t, exec (.commandComplete core dev seq) s = .next t ∧
        agetD t.cores.queues (unitKey core.val dev.val) [] = (agetD s.cores.queues (unitKey core.val dev.val) []).filter (fun x => x.seq != seq) ∧
        (∀ i, i ≠ unitKey core.val dev.val → agetD t.cores.queues i [] = agetD s.cores.queues i []) ∧
        t.thread c.thread = (s.thread c.thread).completed (ticketOf core.val dev.val seq) st ∧ (∀ j, j ≠ c.thread → t.thread j = s.thread j) ∧
        t.reg (Reg.coreCntCmd core.val) = min 0xFFFFFFFF (s.reg (Reg.coreCntCmd core.val) + 1) ∧ s.Only [.bar, .cores] t) ∧
    (c.flag 1 = true →
      ∃ t, exec (.commandComplete core dev seq) s = .next t ∧
        agetD t.cores.queues (unitKey core.val dev.val) [] = (agetD s.cores.queues (unitKey core.val dev.val) []).filter (fun x => x.seq != seq) ∧
        (c.part.val < s.pln.parts.length → ∀ b, b ∈ (t.part c.part.val).cv ↔ b ∈ (s.part c.part.val).cv ∨ b = fieldAt c.desc 2 2 % 2 ^ 14) ∧
        (∀ i, i ≠ c.part.val → t.part i = s.part i) ∧ s.Only [.bar, .cores, .pln] t))

/-- MATMUL, ATTEND, SAMPLE, VECTOR and RING_QUERY_RECEIVE (R148, R159, R161, R182, R183, R188, R193, R204, R206): a command that fails its checks ends with BAD_FIELD and changes
nothing but itself; a dense product goes over all its tiles, and one over a lengths table over the rows of its entries; the product of one row and one column, in FP32,
writes its four bytes and no other; a vector command goes over its rows; a query of a ring partner is answered in its class: with nothing attended to where this device
is no partner, and with the attention over the page's codes and scales of the position that is held. The model's choices: log entries 84, 87, 90, 131. -/
def Obligations.EngineCommands : Prop :=
  (∀ (s : State) (core : Fin 128) (eng : Fin 8) (seq : Nat) (c : CoreCmd), s.Starts core.val eng.val seq 1 c →
    ((MatDesc.ofCmd c).ok (s.part c.part.val) = false →
      exec (.matmul core eng seq) s = .next (s.putCmd core.val eng.val { c with started := true, result := some .badField })) ∧
    ((MatDesc.ofCmd c).ok (s.part c.part.val) = true → (MatDesc.ofCmd c).len = 0 →
      exec (.matmul core eng seq) s = .next ((s.runItems core.val eng.val { c with started := true } [] (fun _ => 0)
        ((List.range (ceilDiv (MatDesc.ofCmd c).m 64 * ceilDiv (MatDesc.ofCmd c).n (MatDesc.ofCmd c).cols)).map fun t => ({ tile := t, entry := none } : Item))
        fun a i => a.matTile core.val c.part.val (MatDesc.ofCmd c) [] (ceilDiv (MatDesc.ofCmd c).m 64) i).undefineOut core.val eng.val c .engine (MatDesc.ofCmd c).opC)) ∧
    (∀ s1 b, (MatDesc.ofCmd c).ok (s.part c.part.val) = true → (MatDesc.ofCmd c).len ≠ 0 → c.served.contains tableItem.code = false →
      c.skips s.memory.faults tableItem = false → s.fetchVa c.part.val (MatDesc.ofCmd c).len (16 * (MatDesc.ofCmd c).entries) = (s1, .ok b) →
      let l := (List.range (MatDesc.ofCmd c).entries).map fun k => LenEntry.ofBytes (b.drop (16 * k))
      let nrb := ceilDiv (l.foldl (fun a e => max a (e.q0 + e.qn)) 0) 64
      (lenOk l = false ∨ (l.map fun e => e.qn).sum ≠ (MatDesc.ofCmd c).m →
        exec (.matmul core eng seq) s = .next (s1.putCmd core.val eng.val { c with started := true, result := some .badField })) ∧
      (lenOk l = true → (l.map fun e => e.qn).sum = (MatDesc.ofCmd c).m → (MatDesc.ofCmd c).append = false →
        exec (.matmul core eng seq) s = .next (s1.runItems core.val eng.val { c with started := true } l ((MatDesc.ofCmd c).tilesOf l) ((MatDesc.ofCmd c).items 1 nrb l) fun a i =>
          if (match i.entry with | some k => a.foreign c.part.val (ctxAt l k) | none => false) = true then (a, foreignEnd core.val)
          else a.matTile core.val c.part.val (MatDesc.ofCmd c) l nrb i)) ∧
      (∀ im, lenOk l = true → (l.map fun e => e.qn).sum = (MatDesc.ofCmd c).m → (MatDesc.ofCmd c).append = true → (s.part c.part.val).image = some im →
        exec (.matmul core eng seq) s = .next (s1.runItems core.val eng.val { c with started := true } l ((MatDesc.ofCmd c).tilesOf l) ((MatDesc.ofCmd c).items im.kv.headDim nrb l) fun a i =>
          a.appendItem core.val c.part.val (MatDesc.ofCmd c) im l i)))) ∧
  (∀ (s s1 s2 s3 : State) (core : Fin 128) (eng : Fin 8) (seq pa : Nat) (c : CoreCmd) (d : MatDesc) (a b : List Machine.Num), s.Starts core.val eng.val seq 1 c →
    d = MatDesc.ofCmd c → d.ok (s.part c.part.val) = true → d.len = 0 → d.m = 1 → d.n = 1 → d.fc = 9 →
    c.served = [] → c.parked = [] → c.gone = [] → c.waiting = [] → c.aborted = false → s.flag (Reg.coreCtrl core.val) 2 = false →
    s.readElems c.part.val d.opA 0 0 d.k = (s1, .ok a) → s1.readElems c.part.val d.opB 0 0 d.k = (s2, .ok b) →
    s2.xlateRange c.part.val .engine .write d.c 4 = (s3, .ok [(pa, 4)]) → s3.memory.target pa = .t1 → pa < 2 ^ 52 →
    ∃ t, exec (.matmul core eng seq) s = .next t ∧
      memRead t.memory.mem pa 4 = leBytes 4 (elemCode 9 (f32 (dotF32 a b))).1 ∧
      (∀ x, x < pa ∨ pa + 4 ≤ x → memByte t.memory.mem x = memByte s.memory.mem x) ∧
      t.cores = (s.putCmd core.val eng.val { c with started := true, served := [0], result := some .ok }).cores ∧ s.Only [.bar, .cores, .memory, .freeCtr] t) ∧
  (∀ (s : State) (core : Fin 128) (eng : Fin 8) (seq : Nat) (c : CoreCmd), s.Starts core.val eng.val seq 2 c →
    ((AttDesc.ofCmd c).ok (s.part c.part.val) = false →
      exec (.attend core eng seq) s = .next (s.putCmd core.val eng.val { c with started := true, result := some .badField })) ∧
    (∀ im s1 b, (s.part c.part.val).image = some im → (AttDesc.ofCmd c).ok (s.part c.part.val) = true →
      (s.kva.pins.any fun n => n.reader == readerOf c.part.val core.val eng.val seq) = false → c.served.contains tableItem.code = false →
      c.skips s.memory.faults tableItem = false →
      (s.pin (readerOf c.part.val core.val eng.val seq)).fetchVa c.part.val (AttDesc.ofCmd c).len (16 * (AttDesc.ofCmd c).entries) = (s1, .ok b) →
      let l := (List.range (AttDesc.ofCmd c).entries).map fun k => LenEntry.ofBytes (b.drop (16 * k))
      (lenOk l = false → exec (.attend core eng seq) s = .next (s1.putCmd core.val eng.val { c with started := true, result := some .badField })) ∧
      (lenOk l = true → exec (.attend core eng seq) s = .next (s1.runItems core.val eng.val { c with started := true } l ((AttDesc.ofCmd c).tilesOf l)
        ((List.range l.length).map fun k => ({ tile := 0, entry := some k } : Item)) fun a i => a.attendItem core.val c.part.val (AttDesc.ofCmd c) im l i)))) ∧
  (∀ (s : State) (core : Fin 128) (seq : Nat) (tapped : Bool) (c : CoreCmd), s.Starts core.val 9 seq 3 c →
    ((SmpDesc.ofCmd c).ok = false → exec (.sample core seq tapped) s = .next (s.putCmd core.val 9 { c with started := true, result := some .badField })) ∧
    (∀ s1 b, (SmpDesc.ofCmd c).ok = true → c.served.contains tableItem.code = false → c.skips s.memory.faults tableItem = false →
      s.fetchVa c.part.val (SmpDesc.ofCmd c).len (16 * (SmpDesc.ofCmd c).entries) = (s1, .ok b) →
      let l := (List.range (SmpDesc.ofCmd c).entries).map fun k => LenEntry.ofBytes (b.drop (16 * k))
      (lenOk l = false → exec (.sample core seq tapped) s = .next (s1.putCmd core.val 9 { c with started := true, result := some .badField })) ∧
      (lenOk l = true → exec (.sample core seq tapped) s = .next (s1.runItems core.val 9 { c with started := true } l (fun ks => ks.length)
        ((List.range l.length).map fun k => ({ tile := 0, entry := some k } : Item)) fun a i => a.sampleItem core.val c.part.val (SmpDesc.ofCmd c) tapped l i)))) ∧
  (∀ (s : State) (core : Fin 128) (seq : Nat) (c : CoreCmd), s.Starts core.val 8 seq 4 c →
    ((VecDesc.ofCmd c).ok (s.part c.part.val) = false →
      exec (.vector core seq) s = .next (s.putCmd core.val 8 { c with started := true, result := some .badField })) ∧
    ((VecDesc.ofCmd c).ok (s.part c.part.val) = true → (VecDesc.ofCmd c).op ≠ 12 →
      exec (.vector core seq) s = .next ((s.runItems core.val 8 { c with started := true } [] (fun _ => 0)
        ((List.range (VecDesc.ofCmd c).rows).map fun r => ({ tile := r, entry := none } : Item))
        fun a i => a.vecItem core.val c.part.val (VecDesc.ofCmd c) [] i).undefineOut core.val 8 c .thread (VecDesc.ofCmd c).out)) ∧
    (∀ s1 b, (VecDesc.ofCmd c).ok (s.part c.part.val) = true → (VecDesc.ofCmd c).op = 12 → 0 < (VecDesc.ofCmd c).param / 2 ^ 32 →
      (VecDesc.ofCmd c).param / 2 ^ 32 ≤ 16384 → c.served.contains tableItem.code = false → c.skips s.memory.faults tableItem = false →
      s.fetchVa c.part.val (VecDesc.ofCmd c).src1 (16 * ((VecDesc.ofCmd c).param / 2 ^ 32)) = (s1, .ok b) →
      lenOk ((List.range ((VecDesc.ofCmd c).param / 2 ^ 32)).map fun k => LenEntry.ofBytes (b.drop (16 * k))) = true →
      exec (.vector core seq) s = .next (s1.runItems core.val 8 { c with started := true } [] (fun _ => 0)
        ((List.range (VecDesc.ofCmd c).rows).map fun r => ({ tile := r, entry := none } : Item))
        fun a i => a.vecItem core.val c.part.val (VecDesc.ofCmd c)
          ((List.range ((VecDesc.ofCmd c).param / 2 ^ 32)).map fun k => LenEntry.ofBytes (b.drop (16 * k))) i))) ∧
  (∀ (s : State) (src : DeviceId) (cls : Fin 8) (id : SatchelId) (layer head limit low : Nat) (own : List Nat) (scale : BitVec 16) (held : List Nat)
      (query : List (BitVec 16)),
    (s.sat.satellites.find? (fun e => e.2.id == id && e.2.partner) = none →
      exec (.ringQueryReceive src cls id layer head limit low own scale held query) s =
        .next (s.emit (.ringPartial src cls id (0xFF800000 :: 0 :: query.map fun _ => 0)))) ∧
    (∀ (k : Nat) (y : Satellite) (w : Walk) (im : ModelImage), s.sat.satellites.find? (fun e => e.2.id == id && e.2.partner) = some (k, y) →
      s.walk (ctxOfSatellite k) = some w → (s.part w.part.val).image = some im →
      (∃ t x, exec (.ringQueryReceive src cls id layer head limit low own scale held query) s = .next t ∧
        t.out = s.out ++ [.ringPartial src (s.ringClass y.part cls (4 * x.length)) id x] ∧ s.Only [.bar, .blt, .out, .freeCtr] t) ∧
      (∀ (j : Nat) (r : Row) (rc : ScaleRec), held = [j] → w.rows = [r] → r.kind = .here → low = j * (s.part w.part.val).positions → limit = low + 1 →
        0 < (s.part w.part.val).positions → afind s.kva.scales ((s.part w.part.val).headFrame im r.loc layer head).1 = some rc → rc.tag = w.id →
        let f := (s.part w.part.val).headFrame im r.loc layer head
        let x := attendRow im.kv query [(s.pageCodes im.kv f.1 0 f.2 0, agetD rc.scales (2 * f.2) 0, s.pageCodes im.kv f.1 1 f.2 0, agetD rc.scales (2 * f.2 + 1) 0)] scale
        exec (.ringQueryReceive src cls id layer head limit low own scale held query) s =
          .next (s.emit (.ringPartial src (s.ringClass y.part cls (4 * x.length)) id x)))))

/-! ### Partitions, tenants and adapters (chapter 07) -/

/-- PARTITION_COMPOSE, HELD_COMPOSE_START, COMPOSE_ZEROING_DONE, COMPOSE_WEIGHTS_IN_PLACE, COMPOSE_FAILED, PARTITION_DECOMPOSE, PARTITION_DRAIN_COMPLETE, PARTITION_SUSPEND,
SUSPEND_SAVE_COMPLETE, PARTITION_RESUME, RESUME_RESTORE_COMPLETE (R220 to R224, R228, R230, R250, R448, R497): the states of R222 and what leads from each to the next;
a save keeps every scratchpad and accumulator in the core's record of the save area, and a restore puts them back. The model's choices: log entries 45, 48, 50. -/
def Obligations.PartitionLifecycle : Prop :=
  (∀ (s s1 : State) (h : Header) (r : ReplyTo) (c : ComposeParams) (src : Option SrcFact),
    s.Serves ⟨0x0100, 1, false, false, 40 + 4 * c.nShard + 4 * (c.nRing - 1), c.rsv, b2n (c.source == 0), false⟩ h false r s1 → (s1.part h.part.val).held = none →
    (∀ st, s1.composeCheck h.part c src = some st → exec (.partitionCompose h c src) s = .next (s1.done r st)) ∧
    (s1.composeCheck h.part c src = none → s1.composeRoom h.part.val c src = false →
      exec (.partitionCompose h c src) s = .next (s1.done r .noResource)) ∧
    (s1.composeCheck h.part c src = none → s1.slicesDraining h.part.val c.slices.toNat = false → s1.composeRoom h.part.val c src = true →
      exec (.partitionCompose h c src) s =
        .next (State.done (s1.modPart h.part.val fun q => { q with composing := some ⟨c, r.tag, src, s1.ready h.part.val, false, false⟩ }) r .accepted)) ∧
    (s1.composeCheck h.part c src = none → s1.slicesDraining h.part.val c.slices.toNat = true → s1.composeRoom h.part.val c src = true →
      exec (.partitionCompose h c src) s =
        .next (State.done (s1.modPart h.part.val fun q => { q with held := some ⟨c, r.tag, src, s1.ready h.part.val, false, false⟩ }) r .pendingEnable))) ∧
  (∀ (s : State) (p : Fin 16) (m : Composing), (s.part p.val).held = some m →
    (s.slicesDraining p.val m.params.slices.toNat = true → exec (.heldComposeStart p) s = .next s) ∧
    (∀ s1 : State, s1 = s.modPart p.val (fun q => { q with held := none }) → s.slicesDraining p.val m.params.slices.toNat = false →
      (∀ st, s1.composeCheck p m.params m.src = some st → exec (.heldComposeStart p) s = .next (s1.partEvent p.val 0x0100 m.tag st)) ∧
      (s1.composeCheck p m.params m.src = none →
        exec (.heldComposeStart p) s = .next (State.startCompose (s1.modPart p.val fun q => { q with composing := some m }) p.val)))) ∧
  (∀ (s : State) (p : Fin 16) (c : Composing) (image : Option ImageFact) (ready : Bool), (s.part p.val).state = .composing → (s.part p.val).composing = some c → c.zeroed = false →
    (c.params.role = 2 → exec (.composeZeroingDone p image ready) s = .next (s.modPart p.val fun q => { q with composing := some { c with zeroed := true } })) ∧
    (∀ f st, c.params.role ≠ 2 → c.params.source ≠ 2 → image = some f → imageFault c.params f.decode = some st →
      exec (.composeZeroingDone p image ready) s = .next (s.failCompose p.val st)) ∧
    (∀ f s1, c.params.role ≠ 2 → c.params.source ≠ 2 → image = some f → imageFault c.params f.decode = none → s.fitModel p.val c f.decode = some s1 →
      exec (.composeZeroingDone p image ready) s = .next (s1.modPart p.val fun q => { q with image := some f.decode, composing := some { c with zeroed := true } }))) ∧
  (∀ (s : State) (p : Fin 16) (c : Composing) (im : ModelImage), (s.part p.val).state = .composing → (s.part p.val).composing = some c → c.zeroed = true → c.inPlace = false →
    (s.part p.val).image = some im →
    ∃ t, exec (.composeWeightsInPlace p) s = .next t ∧ (t.part p.val).state = .composing ∧ (t.part p.val).composing = some { c with inPlace := true } ∧
      (∀ core th, core < 128 → th < 64 → bitAt (s.part p.val).slices.toNat (core / 8) = true →
        (t.thread (threadKey core th)).state = .running ∧ (t.thread (threadKey core th)).pc = BitVec.ofNat 64 (windowVa (0x010000000000 + im.progOff)) ∧
        (t.thread (threadKey core th)).getX 10 = BitVec.ofNat 64 (windowVa 0) ∧ (t.thread (threadKey core th)).getX 11 = BitVec.ofNat 64 (lthread p.val core th)) ∧
      s.Only [.cores, .pln, .memory] t) ∧
  (∀ (s : State) (p : Fin 16) (st : Status) (c : Composing), (s.part p.val).state = .composing → (s.part p.val).composing = some c →
    ∃ t, exec (.composeFailed p st) s = .next t ∧ (t.part p.val).state = .draining ∧ (t.part p.val).composing = none ∧ (t.part p.val).drainTag = none ∧
      (∀ q, q ≠ p.val → t.part q = s.part q) ∧ s.Only [.bar, .cores, .pln, .memory, .lnk, .xpt, .shp, .cmd, .blt, .host, .out, .freeCtr] t) ∧
  (∀ (s s1 : State) (h : Header) (r : ReplyTo), s.Serves ⟨0x0101, 1, false, false, 0, 0, 0, false⟩ h false r s1 → (s1.part h.part.val).held = none → (s1.part h.part.val).changing = false →
    ((s1.part h.part.val).state = .free → exec (.partitionDecompose h) s = .next (s1.done r .alreadyDone)) ∧
    ((s1.part h.part.val).state = .ready → s1.holds h.part = true → exec (.partitionDecompose h) s = .next (s1.done r .partitionBusy)) ∧
    ((s1.part h.part.val).state = .ready → s1.holds h.part = false →
      ∃ t, exec (.partitionDecompose h) s = .next t ∧ (t.part h.part.val).state = .draining ∧ (t.part h.part.val).drainTag = some (0x0101, r.tag) ∧
        ((s1.window (16 + h.part.val)).state = .enabled → (t.window (16 + h.part.val)).state = .draining) ∧ (∀ q, q ≠ h.part.val → t.part q = s1.part q) ∧
        s.Only [.bar, .stk, .cores, .pln, .memory, .lnk, .xpt, .shp, .cmd, .blt, .host, .out, .freeCtr] t)) ∧
  (∀ (s : State) (p : Fin 16), (s.part p.val).state = .draining →
    ∃ t, exec (.partitionDrainComplete p) s = .next t ∧ t.part p.val = { Part.reset with held := (s.part p.val).held } ∧ (t.window (16 + p.val)).state = .disabled ∧
      (∀ c ∈ t.memory.carves, c.owner ≠ partOwner p.val) ∧
      (∀ core a, core < 128 → bitAt (s.part p.val).slices.toNat (core / 8) = true → sramBase core ≤ a → a < sramBase core + 0x500000 → memByte t.memory.mem a = 0) ∧
      (∀ q, q ≠ p.val → t.part q = s.part q) ∧ s.Only [.bar, .kva, .cores, .pln, .memory, .fls, .xpt, .cmd, .host, .out] t) ∧
  (∀ (s s1 : State) (h : Header) (r : ReplyTo), s.Serves ⟨0x0102, 1, false, false, 0, 0, 0, false⟩ h false r s1 → (s1.part h.part.val).changing = false → (s1.part h.part.val).suspendTag = none →
    ((s1.part h.part.val).state = .suspended → exec (.partitionSuspend h) s = .next (s1.done r .alreadyDone)) ∧
    ((s1.part h.part.val).state = .ready →
      ∃ t, exec (.partitionSuspend h) s = .next t ∧ (t.part h.part.val).suspendTag = some r.tag ∧
        (s1.stk.running = false → (t.part h.part.val).state = .suspending) ∧ (s1.stk.running = true → s1.stk.phase ≠ .commit → (t.part h.part.val).state = .ready) ∧
        (∀ q, q ≠ h.part.val → t.part q = s1.part q) ∧ s.Only [.bar, .stk, .pln, .cmd, .host, .out] t)) ∧
  (∀ (s : State) (p : Fin 16) (lost : Bool), (s.part p.val).state = .suspending →
    ∃ t, exec (.suspendSaveComplete p lost) s = .next t ∧ (t.part p.val).state = (if (s.part p.val).resumeLatched then PartState.resuming else PartState.suspended) ∧
      (t.part p.val).suspendTag = none ∧ (t.part p.val).saveLost = lost ∧
      (s.cores.queues = [] → Memory.wf s.memory.mem = true → (s.part p.val).saveAddr + saveBytes (s.part p.val).slices.toNat ≤ 2 ^ 42 →
        ∀ core a, core < 128 → bitAt (s.part p.val).slices.toNat (core / 8) = true → a < 0x500000 →
          memByte t.memory.mem ((s.part p.val).coreRecord core + a) = memByte s.memory.mem (sramBase core + a)) ∧
      s.Only [.bar, .kva, .cores, .pln, .memory, .cmd, .host, .out] t) ∧
  (∀ (s s1 : State) (h : Header) (r : ReplyTo), s.Serves ⟨0x0103, 1, false, false, 0, 0, 0, false⟩ h false r s1 →
    ((s1.part h.part.val).state = .suspended →
      ∃ t, exec (.partitionResume h) s = .next t ∧ (t.part h.part.val).state = .resuming ∧ (t.part h.part.val).resumeTag = some r.tag ∧ (∀ q, q ≠ h.part.val → t.part q = s1.part q) ∧
        s.Only [.bar, .stk, .pln, .cmd, .host, .out] t) ∧
    ((s1.part h.part.val).state = .suspending → (s1.part h.part.val).resumeLatched = false →
      exec (.partitionResume h) s = .next (State.done (s1.modPart h.part.val fun y => { y with resumeLatched := true, resumeTag := some r.tag }) r .pendingEnable)) ∧
    ((s1.part h.part.val).state = .ready → (s1.part h.part.val).composing = none → exec (.partitionResume h) s = .next (s1.done r .alreadyDone))) ∧
  (∀ (s : State) (p : Fin 16), (s.part p.val).state = .resuming → (s.part p.val).readyAt = false → (s.part p.val).saveLost = false → s.memory.faults = [] →
    ∃ t, exec (.resumeRestoreComplete p) s = .next t ∧ t.part p.val = { s.part p.val with readyAt := true } ∧ (∀ q, q ≠ p.val → t.part q = s.part q) ∧
      (Memory.wf s.memory.mem = true → (s.part p.val).saveAddr + saveBytes (s.part p.val).slices.toNat ≤ 2 ^ 42 →
        ∀ core a, core < 128 → bitAt (s.part p.val).slices.toNat (core / 8) = true → a < 0x500000 →
          memByte t.memory.mem (sramBase core + a) = memByte s.memory.mem ((s.part p.val).coreRecord core + a)) ∧
      s.Only [.kva, .pln, .memory] t)

/-- INSTANCE_SET, INSTANCE_SET_COMPLETE, WEIGHT_REFETCH_TIMEOUT, ADAPTER_LOAD, ADAPTER_LOAD_COMPLETE, ADAPTER_UNLOAD, TENANT_BUDGET, PARTITION_TENANTS, TENANT_RELEASE
(R225, R234, R245 to R247, R286, R393, R449, R453, R515). The model's choices: log entries 47, 81. -/
def Obligations.InstancesAdaptersTenants : Prop :=
  (∀ (s s1 : State) (h : Header) (r : ReplyTo) (k : Nat) (dev : DeviceId) (dp : Fin 16) (rsv : Nat), s.Serves ⟨0x0104, 2, true, false, 8, rsv, 0, false⟩ h false r s1 →
    s1.partRefusal h.part.val = none → (s1.part h.part.val).instance_ = none → dev.toNat < 2 ^ 14 →
    ((s1.part h.part.val).shard ≠ 0 → exec (.instanceSet h k dev dp.val true true rsv) s = .next (s1.done r .badField)) ∧
    ((s1.part h.part.val).shard = 0 → k ∈ (s1.part h.part.val).deadShards →
      ∃ t, exec (.instanceSet h k dev dp.val true true rsv) s = .next t ∧
        t.part h.part.val = { s1.part h.part.val with instance_ := some (k, ⟨dev, dp⟩, { r with left := r.left - 1 }) } ∧ (∀ q, q ≠ h.part.val → t.part q = s1.part q) ∧
        (∀ e ∈ ((s1.part h.part.val).shardList.set k ⟨dev, dp⟩).drop 1,
          Out.shardPlan e s1.strokeNow [shardDo 0 0 (.shards ((s1.part h.part.val).shardList.set k ⟨dev, dp⟩))] ∈ t.out))) ∧
  (∀ (s : State) (p : Fin 16) (k : Nat) (d : DevPart) (r : ReplyTo), (s.part p.val).instance_ = some (k, d, r) →
    ∃ t, exec (.instanceSetComplete p) s = .next t ∧ (t.part p.val).instance_ = none ∧ (t.part p.val).shardList = (s.part p.val).shardList.set k d ∧
      k ∉ (t.part p.val).deadShards ∧ s.Only [.bar, .sat, .kva, .pln, .memory, .fls, .cmd, .host, .out] t) ∧
  (∀ (s : State) (p : Fin 16) (addr n : Nat), (s.part p.val).poisonWeights.find? (fun e => e.1 == addr) = some (addr, n) →
    (s.strokeNow < n + 3 → exec (.weightRefetchTimeout p addr) s = .next s) ∧
    (n + 3 ≤ s.strokeNow → ∃ t, exec (.weightRefetchTimeout p addr) s = .next t ∧ (t.part p.val).degraded = true ∧ (t.part p.val).weightsLost = true ∧
      (∀ q, q ≠ p.val → t.part q = s.part q) ∧ s.Only [.bar, .pln, .memory, .blt] t)) ∧
  (∀ (s s1 : State) (h : Header) (r : ReplyTo) (adapter : BitVec 16) (rank : Nat) (version : BitVec 32) (srcAddr : BitVec 64) (rsv : Nat),
    s.Serves ⟨0x0200, 2, true, false, 24, rsv, b2n (0 == 0 && srcAddr != 0), false⟩ h false r s1 → s1.partRefusal h.part.val = none → (s1.part h.part.val).currentAdapter adapter = none →
    (4095 < adapter.toNat ∨ rank = 0 ∨ 256 < rank → exec (.adapterLoad h adapter rank version 0 false 0 0 srcAddr rsv) s = .next (s1.done r .badField)) ∧
    (adapter.toNat ≤ 4095 → 1 ≤ rank → rank ≤ 256 → (s1.part h.part.val).adapters = [] → (s1.part h.part.val).loading = [] →
      ∃ t, exec (.adapterLoad h adapter rank version 0 false 0 0 srcAddr rsv) s = .next t ∧
        t.part h.part.val = { s1.part h.part.val with loading := [⟨adapter, version, rank, false, { r with left := r.left - 1 }⟩] } ∧ (∀ q, q ≠ h.part.val → t.part q = s1.part q) ∧
        s.Only [.bar, .stk, .pln, .cmd, .host, .out] t)) ∧
  (∀ (s : State) (p : Fin 16) (a : AdapterLoad) (result : Status), (s.part p.val).loading.find? (fun b => b.id == a.id && b.version == a.version) = some a →
    ∃ t, exec (.adapterLoadComplete p a.id a.version result) s = .next t ∧ (t.part p.val).loading = (s.part p.val).loading.erase a ∧
      (result = .ok → (s.part p.val).shard = 0 → (t.part p.val).adapters =
        ((s.part p.val).adapters.map fun v => if v.id = a.id then { v with current := false } else v) ++ [⟨a.id, a.version, a.rank, true, a.swap⟩]) ∧
      (result = .ok → (s.part p.val).shard ≠ 0 → (t.part p.val).adapters = (s.part p.val).adapters ++ [⟨a.id, a.version, a.rank, false, a.swap⟩]) ∧
      ((s.part p.val).shard = 0 → ∀ d ∈ (s.part p.val).shardList.drop 1,
        Out.shardPlan d s.strokeNow [shardDo 0 0 (.adapter a.id a.version (if result = .ok then .current else .free))] ∈ t.out) ∧
      (result ≠ .ok → (t.part p.val).adapters = (s.part p.val).adapters) ∧ (∀ q, q ≠ p.val → t.part q = s.part q) ∧ s.Only [.bar, .pln, .cmd, .host, .out] t) ∧
  (∀ (s s1 : State) (h : Header) (r : ReplyTo) (adapter : BitVec 16) (rsv : Nat), s.Serves ⟨0x0201, 1, true, false, 4, rsv, 0, false⟩ h false r s1 → s1.partRefusal h.part.val = none →
    adapter.toNat ≤ 4095 →
    ((s1.part h.part.val).currentAdapter adapter = none → exec (.adapterUnload h adapter rsv) s = .next (s1.done r .alreadyDone)) ∧
    (∀ a, (s1.part h.part.val).currentAdapter adapter = some a →
      ∃ t, exec (.adapterUnload h adapter rsv) s = .next t ∧ (t.part h.part.val).currentAdapter adapter = none ∧ (∀ q, q ≠ h.part.val → t.part q = s1.part q))) ∧
  (∀ (s s1 : State) (h : Header) (r : ReplyTo) (tenant : BitVec 16) (rate burst floor rsv : Nat), s.Serves ⟨0x0400, 1, false, false, 16, rsv, 0, false⟩ h false r s1 →
    (burst = 0 ∨ burst < floor ∨ tenant = 0xFFFF → exec (.tenantBudget h tenant rate burst floor rsv) s = .next (s1.done r .badField)) ∧
    (1 ≤ burst → burst ≤ 0x7FFFFFFF → floor ≤ burst → rate ≤ 0xFFFFFFFF → tenant ≠ 0xFFFF → s1.tenantsFull tenant = false →
      ∃ t q, exec (.tenantBudget h tenant rate burst floor rsv) s = .next t ∧ afind t.pln.tenants tenant.toNat = some q ∧ q.metered = true ∧ q.rate = rate ∧ q.burst = burst ∧
        q.floor = floor ∧ q.level ≤ (burst * 256 : Nat) ∧ (afind s1.pln.tenants tenant.toNat = none → q.level = (burst * 256 : Nat)) ∧
        (∀ k, k ≠ tenant.toNat → afind t.pln.tenants k = afind s1.pln.tenants k) ∧ s.Only [.bar, .stk, .pln, .cmd, .host, .out] t)) ∧
  (∀ (s s1 : State) (h : Header) (r : ReplyTo) (tenant : BitVec 16) (rsv : Nat), s.Serves ⟨0x0404, 1, false, false, 6, rsv, 0, false⟩ h false r s1 → s1.cmd.grants = [] →
    ∃ t, exec (.partitionTenants h 0 1 [tenant] rsv) s = .next t ∧ t.granted h.part.val tenant = true ∧ (∀ p u, p < 16 → (p ≠ h.part.val ∨ u ≠ tenant) → t.granted p u = false)) ∧
  (∀ (s s1 : State) (h : Header) (r : ReplyTo) (tenant : BitVec 16) (rsv : Nat), s.Serves ⟨0x0405, 1, false, false, 4, rsv, 0, false⟩ h false r s1 →
    (∀ e ∈ s1.sat.sats, e.2.tenant ≠ tenant) → (afind s1.pln.tenants tenant.toNat).isSome = true ∨ (afind s1.sec.keys tenant.toNat).isSome = true →
    ∃ t, exec (.tenantRelease h tenant rsv) s = .next t ∧ afind t.pln.tenants tenant.toNat = none ∧ afind t.sec.keys tenant.toNat = none ∧ t.sat = s.sat ∧
      s.Only [.bar, .stk, .pln, .cmd, .sec, .host, .out] t)

/-! ### Memory (chapter 08) -/

/-- T1_TRAINING_COMPLETE, T1_TRACKING, T1_RETRAIN_COMPLETE (R262, R264, R267): with all 32 devices fitted, of one density and trained, T1 and T0 are ready; a tracking failure counts until the third
begins a retraining; a device that fails it leaves service with a level 3 fault, and the satchels whose state it held are surrendered; one that passes counts from 0 again.
T1_TEMP_READ, PATROL_SCRUB (R265, R266): a device is HOT from 85 °C and throttles from 95 °C, with 3 °C of hysteresis; an uncorrectable sector is poisoned, counted and reported at level 1, and the satchel whose descriptor it held is
surrendered with DATA_CORRUPT (R285); no byte changes. The model's choices: log entries 2, 35, 128. -/
def Obligations.T1TrainingAndHealth : Prop :=
  (∀ (s : State) (d : Fin 4), s.memory.training = true → s.board.gddr = List.replicate 32 { present := true, density := d } →
    ∃ t, exec (.t1TrainingComplete (List.replicate 32 true)) s = .next t ∧ t.memory.t1Ready = true ∧ t.memory.t0Ready = true ∧ t.memory.training = false ∧
      t.memory.population = 32 ∧ t.memory.density = d.val ∧ t.memory.usableGib = 32 * (16 * 2 ^ d.val) * 15 / 16 ∧ t.stk = s.stk ∧ t.sec = s.sec) ∧
  (∀ (s : State) (ok : List Bool), ∃ t, exec (.t1Tracking ok) s = .next t ∧ t.memory.devs.length = s.memory.devs.length ∧
    (∀ d g, s.memory.devs[d]? = some g → g.inService = true → g.trackFails < 3 →
      ∃ g2, t.memory.devs[d]? = some g2 ∧ g2.trackFails = (if ok.getD d true then 0 else g.trackFails + 1) ∧ g2.inService = true ∧ g2.temp = g.temp) ∧
    t.memory.mem = s.memory.mem ∧ s.Only [.memory] t) ∧
  (∀ (s : State) (d : Fin 32) (g : GddrDev), s.memory.devs[d.val]? = some g → g.inService = true → g.trackFails = 3 →
    ∃ t, exec (.t1RetrainComplete d true) s = .next t ∧ t.memory.devs[d.val]? = some { g with trackFails := 0 } ∧
      (∀ k, k ≠ d.val → t.memory.devs[k]? = s.memory.devs[k]?) ∧ t.memory.mem = s.memory.mem ∧ s.Only [.memory] t) ∧
  (∀ (s : State) (d : Fin 32) (g : GddrDev), s.memory.devs[d.val]? = some g → g.inService = true → g.trackFails = 3 →
    ∃ t, exec (.t1RetrainComplete d false) s = .next t ∧ t.memory.devs[d.val]? = some { g with inService := false } ∧
      (∃ m, m ∈ agetD t.blt.outbox (0x100 + 4 * d.val) [] ∧ m.fault.level = 3) ∧ t.memory.mem = s.memory.mem ∧ (s.sat.sats = [] → s.Only [.memory, .blt] t) ∧
      (∀ slot x reg, slot < 4194304 → s.sat.sats = [(slot, x)] → x.state.live = true → x.admitting = none → s.registrar x.id = some reg → t.sat.sats = [] ∧
        ∃ m, Out.custody reg .surrender m .empty ∈ t.out ∧ m.id = x.id ∧ m.epoch = x.epoch ∧ m.status = Status.deviceFault.code) ∧
      s.Only [.bar, .sat, .kva, .pln, .memory, .fls, .cmd, .blt, .host, .out, .freeCtr] t) ∧
  (∀ (s : State) (d : Fin 32) (g : GddrDev) (c : Nat), s.memory.devs[d.val]? = some g → g.present = true → c < 105 →
    ∃ t, exec (.t1TempRead ((List.range (d.val + 1)).map fun i => if i = d.val then c else (s.memory.devs.getD i GddrDev.reset).temp)) s = .next t ∧
      (∃ g2, t.memory.devs[d.val]? = some g2 ∧ g2.temp = c ∧ (g2.hot = true ↔ 85 ≤ c ∨ (g.hot = true ∧ 82 < c)) ∧ (g2.throttled = true ↔ 95 ≤ c ∨ (g.throttled = true ∧ 92 < c)) ∧
        g2.inService = g.inService ∧ g2.trained = g.trained) ∧ t.memory.mem = s.memory.mem ∧ t.memory.poison = s.memory.poison ∧
      (s.sat.sats = [] → s.Only [.memory, .bar, .blt] t) ∧ s.Only [.bar, .sat, .kva, .pln, .memory, .fls, .cmd, .blt, .host, .out, .freeCtr] t) ∧
  (∀ (s : State) (pa : Nat), s.flag Reg.memCtrl 1 = true → s.memory.target pa = .t1 →
    ∃ t, exec (.patrolScrub pa false true) s = .next t ∧ afind t.memory.poison (pa / 64) = some () ∧ t.memory.mem = s.memory.mem ∧
      t.reg Reg.memCntUe = min 0xFFFFFFFF (s.reg Reg.memCntUe + 1) ∧ (∃ m, m ∈ agetD t.blt.outbox (s.memory.t1Source pa % 4096) [] ∧ m.fault.level = 1 ∧ m.fault.status = .dataCorrupt) ∧
      (s.sat.sats = [] → s.Only [.memory, .bar, .blt, .pln] t) ∧
      (∀ slot x reg, slot < 4194304 → s.sat.sats = [(slot, x)] → x.state.live = true → x.admitting = none → s.registrar x.id = some reg →
        x.place.obj ≤ pa → pa < x.place.obj + 4096 → t.sat.sats = [] ∧
        ∃ m, Out.custody reg .surrender m .empty ∈ t.out ∧ m.id = x.id ∧ m.epoch = x.epoch ∧ m.status = Status.dataCorrupt.code) ∧
      s.Only [.bar, .sat, .kva, .pln, .memory, .fls, .cmd, .blt, .host, .out, .freeCtr] t) ∧
  (∀ (s : State) (pa : Nat), s.flag Reg.memCtrl 1 = true → s.memory.target pa = .t1 →
    ∃ t, exec (.patrolScrub pa true false) s = .next t ∧ t.reg Reg.memCntCe = min 0xFFFFFFFF (s.reg Reg.memCntCe + 1) ∧ t.memory = s.memory ∧ s.Only [.bar, .blt] t) ∧
  (∀ (s : State) (pa : Nat) (c u : Bool), s.flag Reg.memCtrl 1 = false → exec (.patrolScrub pa c u) s = .next s)

/-- TLB_INVALIDATE (R275): SCOPE 0 drops the partition's translations of a range of virtual addresses and keeps every other, SCOPE 2 drops every one; a partition's window may use SCOPE 0 only. The model's choices: log entry 36. -/
def Obligations.TlbInvalidate : Prop :=
  (∀ (s s1 : State) (h : Header) (r : ReplyTo) (base length rsv : Nat), s.Serves ⟨0x0004, 1, true, false, 24, rsv, 0, true⟩ h false r s1 →
    ∃ t, exec (.tlbInvalidate h 0 base length rsv) s = .next t ∧
      (∀ e, e ∈ t.memory.tlb ↔ e ∈ s.memory.tlb ∧ (e.part ≠ h.part.val ∨ e.va + 65536 ≤ base ∨ base + length ≤ e.va)) ∧ t.memory.mem = s.memory.mem ∧
      t = State.done { s1 with memory := t.memory } r .ok) ∧
  (∀ (s s1 : State) (h : Header) (r : ReplyTo) (base length rsv : Nat), s.Serves ⟨0x0004, 1, true, false, 24, rsv, 0, true⟩ h false r s1 → h.origin.partition = none →
    ∃ t, exec (.tlbInvalidate h 2 base length rsv) s = .next t ∧ t.memory.tlb = [] ∧ t.memory.mem = s.memory.mem) ∧
  (∀ (s s1 : State) (h : Header) (r : ReplyTo) (scope base length rsv : Nat), s.Serves ⟨0x0004, 1, true, false, 24, rsv, 0, true⟩ h false r s1 → h.origin.partition ≠ none → scope ≠ 0 →
    exec (.tlbInvalidate h scope base length rsv) s = .next (s1.done r .protection))

/-- REGION_MOVE and REGION_MOVE_PAGE_COMPLETE (R278): a move of mapped pages to a place that it may have is accepted and waits for its pages; each completed page advances it, the last one brings OK, and a failed one ends it with the
IPA reached. The model's choices: log entry 36. -/
def Obligations.RegionMoves : Prop :=
  (∀ (s s1 : State) (h : Header) (r : ReplyTo) (ipa length dest : Nat) (l : Leaf), s.Serves ⟨0x0502, 2, false, false, 24, 0, 0, false⟩ h false r s1 → s1.leaf2 ipa = .ok l →
    0 < length → length ≤ 2 ^ 36 → ipa % l.size = 0 → length % l.size = 0 → dest % l.size = 0 → s1.mappedBy l.size (length / l.size) ipa = true → s1.moveDest dest length = true →
    ∃ t, exec (.regionMove h ipa length dest) s = .next t ∧
      t.memory.moves = s.memory.moves ++ [{ part := h.part, ipa := ipa, length := length, dest := dest, page := l.size, done := 0, reply := { r with left := r.left - 1 } }] ∧
      t.memory.mem = s.memory.mem ∧ t.memory.tlb = s.memory.tlb) ∧
  (∀ (s : State) (ipa : Nat) (v : RegionMove), s.memory.moves.find? (fun v => v.ipa == ipa) = some v → v.length ≤ (v.done + 1) * v.page →
    ∃ t, exec (.regionMovePageComplete ipa .ok) s = .next t ∧ t.memory.moves = s.memory.moves.erase v ∧
      t = State.answer { s.movePage v with memory := { (s.movePage v).memory with moves := s.memory.moves.erase v } } v.reply .ok true []) ∧
  (∀ (s : State) (ipa : Nat) (v : RegionMove), s.memory.moves.find? (fun v => v.ipa == ipa) = some v → (v.done + 1) * v.page < v.length →
    ∃ t, exec (.regionMovePageComplete ipa .ok) s = .next t ∧ t.memory.moves = s.memory.moves.erase v ++ [{ v with done := v.done + 1 }] ∧ t.cmd = s.cmd) ∧
  (∀ (s : State) (ipa : Nat) (v : RegionMove), s.memory.moves.find? (fun v => v.ipa == ipa) = some v →
    ∃ t, exec (.regionMovePageComplete ipa .dataCorrupt) s = .next t ∧ t.memory.moves = s.memory.moves.erase v ∧ t.memory.mem = s.memory.mem ∧
      t = State.answer { s with memory := { s.memory with moves := s.memory.moves.erase v } } v.reply .dataCorrupt true (leBytes 8 (v.ipa + v.done * v.page)))

/-- FAULT_RESUME and FAULT_TIMEOUT (R281, R284): an action for a fault that is not open is ALREADY_DONE; RETRY and ABORT close an open fault; one of a suspended partition keeps the action; a fault is aborted after TIMEOUT strokes, not
before, and not while its partition is suspended. The model's choices: log entry 99. -/
def Obligations.OpenFaults : Prop :=
  (∀ (s s1 : State) (h : Header) (r : ReplyTo) (id : BitVec 16) (a rsv : Nat), s.Serves ⟨0x0800, 1, true, false, 4, rsv, 0, false⟩ h false r s1 → a ≤ 1 →
    afind s.memory.faults id.toNat = none → exec (.faultResume h id a rsv) s = .next (s1.done r .alreadyDone)) ∧
  (∀ (s s1 : State) (h : Header) (r : ReplyTo) (id : BitVec 16) (rsv : Nat) (f : OpenFault) (core th : Nat), s.Serves ⟨0x0800, 1, true, false, 4, rsv, 0, false⟩ h false r s1 →
    h.origin.partition = none → afind s.memory.faults id.toNat = some f → f.unit = .thread core th → (s.part f.part.val).state = .ready →
    (s1.thread (threadKey core th)).state = .waitAccess →
    ∃ t, exec (.faultResume h id 0 rsv) s = .next t ∧ afind t.memory.faults id.toNat = none ∧ (t.thread (threadKey core th)).state = .running ∧
      (∀ k, k ≠ id.toNat → afind t.memory.faults k = afind s.memory.faults k) ∧ t.memory.mem = s.memory.mem ∧ t.sat = s.sat) ∧
  (∀ (s s1 : State) (h : Header) (r : ReplyTo) (id : BitVec 16) (a rsv : Nat) (f : OpenFault), s.Serves ⟨0x0800, 1, true, false, 4, rsv, 0, false⟩ h false r s1 → a ≤ 1 →
    h.origin.partition = none → afind s.memory.faults id.toNat = some f → (s.part f.part.val).state = .suspended →
    ∃ t, exec (.faultResume h id a rsv) s = .next t ∧ afind t.memory.faults id.toNat = some { f with recorded := some (a == 0) } ∧ t.cores = s.cores ∧ t.sat = s.sat) ∧
  (∀ (s : State) (id : BitVec 16) (f : OpenFault), afind s.memory.faults id.toNat = some f → s.held f.part.val = true ∨ s.stk.time < f.posted + s.strokes (max 1 (s.fld Reg.memFaultCfg 7 0)) →
    exec (.faultTimeout id) s = .next s) ∧
  (∀ (s : State) (id : BitVec 16) (f : OpenFault), afind s.memory.faults id.toNat = some f → s.held f.part.val = false → f.posted + s.strokes (max 1 (s.fld Reg.memFaultCfg 7 0)) ≤ s.stk.time →
    ∃ t, exec (.faultTimeout id) s = .next t ∧ t = s.abortFault id.toNat ∧ (∀ core th, f.unit = .thread core th → afind t.memory.faults id.toNat = none))

/-! ### Flash (chapter 10) -/

/-- FLASH_FORMAT and FTL_RECOVERY_COMPLETE (R319, R335): a format that FORMAT_EN allows, with no extent left, erases every block that is not retired and sets the over-provisioning; in HOLD it waits. Recovery ends with the FTL ready
and no transient extent; in blocks that were open the units that no durable record maps are counted as orphans. The model's choices: log entries 9, 37. -/
def Obligations.FlashFormat : Prop :=
  (∀ (s s1 : State) (h : Header) (r : ReplyTo) (op rsv : Nat), s.Serves (flsReq 0x0700 2 4 rsv 0 false) h false r s1 → s.flsRefusal = none → 7 ≤ op → op ≤ 50 →
    s.flag Reg.flsCtrl 2 = true → s.fls.extents = [] → s.fls.hold = false →
    ∃ t, exec (.flashFormat h op rsv) s = .next t ∧ t.fls.op = op ∧ t.fls.ready = true ∧ t.fls.readOnly = false ∧ t.fls.map = [] ∧ t.fls.data = [] ∧ t.fls.tail = [] ∧
      t.fls.userUnits = s.fls.capacity op ∧
      (∀ k b, afind s.fls.blocks k = some b → ∃ b2, afind t.fls.blocks k = some b2 ∧
        (if b.state = .retired then b2 = b else b2.state = .free ∧ b2.erases = b.erases + 1 ∧ b2.refresh = false))) ∧
  (∀ (s s1 : State) (h : Header) (r : ReplyTo) (op rsv : Nat), s.Serves (flsReq 0x0700 2 4 rsv 0 false) h false r s1 → s.flsRefusal = none → 7 ≤ op → op ≤ 50 →
    s.flag Reg.flsCtrl 2 = true → s.fls.extents = [] → s.fls.hold = true →
    ∃ t, exec (.flashFormat h op rsv) s = .next t ∧ t.fls = { s.fls with formatting := some ({ r with left := r.left - 1 }, op) }) ∧
  (∀ (s : State) (bad : List Nat), s.fls.recovering = true → s.fls.ring = [] →
    ∃ t, exec (.ftlRecoveryComplete bad) s = .next t ∧ t.fls.ready = true ∧ t.fls.recovering = false ∧
      (∀ k e, afind t.fls.extents k = some e → e.persistent = true) ∧ (∀ k b, afind t.fls.blocks k = some b → b.state ≠ .opened) ∧
      t.reg Reg.flsCntOrphan = min 0xFFFFFFFF (s.reg Reg.flsCntOrphan +
        (s.openUnits.filter fun q => (decide (s.fls.lastDurable < q.2.seq) || bad.contains q.1) && !s.fls.checkpoint.any fun m => m.2 == q.1).length) ∧ s.Only [.fls, .bar] t)

/-- FLASH_EXTENT_CREATE, FLASH_EXTENT_DELETE, FLASH_DISCARD (R318 to R320): a new extent is placed at the lowest LUA where it fits, an existing one is BAD_FIELD; a delete is journalled once no request uses the extent; a discard is
OK whatever it does, and without DISCARD_EN does nothing. The model's choices: log entries 7, 37. -/
def Obligations.FlashExtents : Prop :=
  (∀ (s s1 : State) (h : Header) (r : ReplyTo) (ext units b : Nat), s.Serves (flsReq 0x0701 1 8 0 0 false) h false r s1 → s.flsRefusal = none → ext ≤ 991 →
    afind s.fls.extents ext = none → units ≤ s.fls.freeUnits → s.fls.place units = some b →
    ∃ t, exec (.flashExtentCreate h ext 0 0xFF units) s = .next t ∧
      afind t.fls.extents ext = some { persistent := true, owner := none, ranges := [(b, units)], limit := units, deleting := none } ∧
      (∀ k, k ≠ ext → afind t.fls.extents k = afind s.fls.extents k) ∧ t.fls.map = s.fls.map ∧ t.fls.data = s.fls.data ∧
      t.fls.tail.length = s.fls.tail.length + 1 ∧ t.fls.nextSeq = s.fls.nextSeq + 1) ∧
  (∀ (s s1 : State) (h : Header) (r : ReplyTo) (ext kind owner units : Nat), s.Serves (flsReq 0x0701 1 8 0 0 false) h false r s1 → s.flsRefusal = none →
    (afind s.fls.extents ext).isSome = true → exec (.flashExtentCreate h ext kind owner units) s = .next (s1.done r .badField)) ∧
  (∀ (s s1 : State) (h : Header) (r : ReplyTo) (ext rsv : Nat) (e : Extent), s.Serves (flsReq 0x0702 2 4 rsv 0 false) h false r s1 → s.flsRefusal = none → ext ≤ 991 →
    afind s.fls.extents ext = some e → e.deleting = none → s.fls.reqs = [] → s.fls.tail = [] →
    ∃ t, exec (.flashExtentDelete h ext rsv) s = .next t ∧ afind t.fls.extents ext = some { e with deleting := some { r with left := r.left - 1 } } ∧
      t.fls.tail = [{ jrec .extent with seq := s.fls.nextSeq, extent := ext, arg := 1 }] ∧ t.fls.map = s.fls.map) ∧
  (∀ (s s1 : State) (h : Header) (r : ReplyTo) (ext offset count rsv : Nat) (e : Extent), s.Serves (flsReq 0x0705 1 12 rsv 0 true) h false r s1 → s.flsRefusal = none →
    s.flsExtent h ext offset count false = .ok e → s.flag Reg.flsCtrl 1 = false → exec (.flashDiscard h ext offset count rsv) s = .next (s1.done r .ok)) ∧
  (∀ (s s1 : State) (h : Header) (r : ReplyTo) (ext offset rsv lua : Nat) (e : Extent), s.Serves (flsReq 0x0705 1 12 rsv 0 true) h false r s1 → s.flsRefusal = none →
    s.flsExtent h ext offset 1 false = .ok e → s.flag Reg.flsCtrl 1 = true → s.fls.tail.length * 32 < 131072 → luaOf e.ranges offset = some lua →
    ∃ t, exec (.flashDiscard h ext offset 1 rsv) s = .next t ∧
      t.fls.tail = s.fls.tail ++ [{ jrec .unmap with seq := s.fls.nextSeq, extent := ext, lua := lua, newPua := 1 }] ∧ t.fls.map = s.fls.map)

/-- FLASH_WRITE, FLASH_READ, FLASH_HEALTH (R319, R323, R331, R338): a write waits until its units are durable, and in READ_ONLY is refused at its first unit; a read delivers its units and changes nothing in flash; health is written where asked. -/
def Obligations.FlashData : Prop :=
  (∀ (s s1 : State) (h : Header) (r : ReplyTo) (ext offset rsv lua : Nat) (addr : BitVec 64) (e : Extent), s.Serves (flsReq 0x0703 2 24 rsv addr.toNat true) h false r s1 → s.flsRefusal = none →
    h.origin.partition = none → s1.flsExtent h ext offset 1 true = .ok e → s.fls.readOnly = false → luaOf e.ranges offset = some lua →
    ∃ t, exec (.flashWrite h ext offset 1 addr rsv) s = .next t ∧
      afind t.fls.reqs s.fls.nextReq = some { reply := { r with left := r.left - 1 }, extent := ext, offset := offset, left := 1, firstBad := none } ∧
      t.fls.nextReq = s.fls.nextReq + 1 ∧
      t.fls.writes = s.fls.writes ++ [{ req := s.fls.nextReq, index := 0, lua := lua, extent := ext, ukind := .data, seq := s.fls.nextSeq, source := 0 }] ∧
      t.fls.map = s.fls.map ∧ t.fls.data = s.fls.data ∧ t.fls.tail = s.fls.tail) ∧
  (∀ (s s1 : State) (h : Header) (r : ReplyTo) (ext offset count rsv : Nat) (addr : BitVec 64) (e : Extent), s.Serves (flsReq 0x0703 2 24 rsv addr.toNat true) h false r s1 → s.flsRefusal = none →
    s1.flsExtent h ext offset count true = .ok e → s.fls.readOnly = true →
    exec (.flashWrite h ext offset count addr rsv) s = .next (s1.answer r .noResource true (leBytes 4 offset))) ∧
  (∀ (s s1 : State) (h : Header) (r : ReplyTo) (ext offset rsv lua : Nat) (addr : BitVec 64) (e : Extent), s.Serves (flsReq 0x0704 2 24 rsv addr.toNat true) h false r s1 → s.flsRefusal = none →
    h.origin.partition = none → s1.flsExtent h ext offset 1 true = .ok e → luaOf e.ranges offset = some lua → s.fls.lostDies = [] →
    ∃ t, exec (.flashRead h ext offset 1 addr [] rsv) s = .next t ∧ t.fls = s.fls ∧
      t = State.answer ((s1.accepted r).1.hostWrite 0 addr.toNat (s.fls.unitBytes lua)) { r with left := r.left - 1 } .ok true []) ∧
  (∀ (s s1 : State) (h : Header) (r : ReplyTo) (addr : BitVec 64), s.Serves (flsReq 0x0706 1 8 0 addr.toNat false) h false r s1 → s.flsRefusal = none → h.origin.partition = none →
    exec (.flashHealth h addr) s = .next ((s1.hostWrite 0 addr.toNat s1.healthRecord).done r .ok))

/-- UNIT_PROGRAM_COMPLETE and PROGRAM_FAILURE (R323, R326, R327, R328, R330): a program that may go on puts the staged bytes, a header and a record in the journal tail, after records of the blocks that
open with its superblock, and the map does not change yet; the last unit of a block makes it CLOSING; a program that is blocked does nothing. A failed program retires the block, counted with a note, and the write stays staged
for another block. In HOLD neither happens. The model's choices: log entries 9, 135. -/
def Obligations.FlashPrograms : Prop :=
  (∀ (s : State) (seq pua : Nat) (w : FlsWrite), s.fls.writes.find? (fun w => w.seq == seq) = some w → seq ≠ 0 → s.programBlocked w pua = false → channelOf pua < s.fls.channels →
    Memory.wf s.fls.staged = true → Memory.wf s.fls.data = true →
    ∃ t l, exec (.unitProgramComplete seq pua) s = .next t ∧ afind t.fls.hdrs pua = some { lua := w.lua, extent := w.extent, ukind := w.ukind, seq := seq } ∧
      (∀ x ∈ t.fls.writes, x.seq ≠ seq) ∧ t.fls.map = s.fls.map ∧ (∀ r ∈ l, r.type = .block ∧ r.arg = 1) ∧
      (w.ukind = .data → t.fls.tail = s.fls.tail ++ l ++
        [{ jrec .map with seq := seq, extent := w.extent, lua := w.lua, newPua := pua, oldPua := (afind s.fls.map w.lua).getD 0xFFFFFFFF, req := w.req, index := w.index }]) ∧
      (w.ukind = .gcCopy → t.fls.tail = s.fls.tail ++ l ++ [{ jrec .gcMap with seq := seq, extent := w.extent, lua := w.lua, newPua := pua, oldPua := w.source }]) ∧
      (∀ i, i < 65536 → memByte t.fls.data (pua * 65536 + i) = memByte s.fls.staged (seq * 65536 + i)) ∧
      (∀ a, a < pua * 65536 ∨ pua * 65536 + 65536 ≤ a → memByte t.fls.data a = memByte s.fls.data a) ∧
      (t.fblock (s.blockOf pua)).state = (if pua - s.blockOf pua = max 1 s.nand.unitsPerBlock - 1 then BlockState.closing else .opened) ∧ s.Only [.fls] t) ∧
  (∀ (s : State) (seq pua : Nat) (w : FlsWrite), s.fls.writes.find? (fun w => w.seq == seq) = some w → s.programBlocked w pua = true →
    exec (.unitProgramComplete seq pua) s = .next s) ∧
  (∀ (s : State) (seq pua : Nat) (w : FlsWrite), s.fls.hold = true → s.programBlocked w pua = true ∧ exec (.unitProgramComplete seq pua) s = .next s ∧
    ∀ lost, exec (.programFailure seq pua lost) s = .next s) ∧
  (∀ (s : State) (seq pua : Nat) (lost : Bool) (w : FlsWrite), w ∈ s.fls.writes → w.seq = seq → s.fls.hold = false →
    ∃ t, exec (.programFailure seq pua lost) s = .next t ∧ (t.fblock (s.blockOf pua)).state = .retired ∧ t.fls.retired = s.fls.retired + 1 ∧
      t.reg Reg.flsCntProgFail = min 0xFFFFFFFF (s.reg Reg.flsCntProgFail + 1) ∧ t.fls.map = s.fls.map ∧ t.fls.data = s.fls.data ∧
      (lost = true → t.fls.lostDies.contains (pua / 2 ^ 21) = true) ∧ (lost = false → t.fls.lostDies = s.fls.lostDies) ∧
      (s.fls.spareAtFormat = 0 → w ∈ t.fls.writes ∧ s.Only [.fls, .bar, .blt] t) ∧ s.Only [.fls, .bar, .blt, .cmd, .host, .out] t)

/-- JOURNAL_COMMIT, JOURNAL_DURABLE, MAP_CHECKPOINT (R321 to R323): a commit takes the whole tail, and none begins in HOLD; the map changes when a record is durable, and then to the record's unit; a dirty map page is written back with a CHECKPOINT record. -/
def Obligations.FlashJournal : Prop :=
  (∀ (s : State) (now : Nat), s.fls.hold = false → exec (.journalCommit now) s = .next { s.at_ now with fls := { s.fls with committing := s.fls.tail.length } }) ∧
  (∀ (s : State) (now : Nat), s.fls.hold = true → exec (.journalCommit now) s = .next (s.at_ now)) ∧
  (∀ (s : State) (r : JRec) (rest : List JRec), s.fls.tail = r :: rest → 1 ≤ s.fls.committing → r.type = .map → r.req = 0 → s.fls.mappedSeq r.lua ≤ r.seq →
    ∃ t, exec (.journalDurable 1) s = .next t ∧ afind t.fls.map r.lua = some r.newPua ∧ (∀ l, l ≠ r.lua → afind t.fls.map l = afind s.fls.map l) ∧
      t.fls.tail = rest ∧ t.fls.ring = s.fls.ring ++ [r] ∧ t.fls.data = s.fls.data ∧ s.Only [.fls] t) ∧
  (∀ (s : State) (page : Nat), s.fls.hold = false → (afind s.fls.dirty page).isSome = true → asorted s.fls.map = true → asorted s.fls.checkpoint = true →
    ∃ t, exec (.mapCheckpoint page) s = .next t ∧ afind t.fls.dirty page = none ∧
      (∀ l, l / 16384 = page → afind t.fls.checkpoint l = afind s.fls.map l) ∧ (∀ l, l / 16384 ≠ page → afind t.fls.checkpoint l = afind s.fls.checkpoint l) ∧
      t.fls.tail = s.fls.tail ++ [{ jrec .checkpoint with seq := s.fls.nextSeq, arg := page }] ∧ t.fls.map = s.fls.map ∧ s.Only [.fls] t)

/-- BLOCK_VERIFY, GC_START, SOURCE_ERASE, ERASE_COMPLETE (R327 to R329): a CLOSING block that reads back well is CLOSED, else it is copied out to be retired; the CLOSED blocks of a victim superblock that R328 allows become SOURCE; a SOURCE block is erased
when nothing depends on it, and is then FREE.
CODEWORD_DECODE, NAND_TEMP_READ (R317, R337): a codeword that the whole ladder cannot read is counted and reported at level 1; a read of hotter dies stops programs from 95 °C. No data changes where no satchel reads the unit. The model's choices: log entries 9, 35, 135. -/
def Obligations.FlashBlocksAndHealth : Prop :=
  (∀ (s : State) (block worst : Nat), (s.fblock block).state = .closing → worst ≤ s.fld Reg.flsMediaCfg 7 0 →
    ∃ t, exec (.blockVerify block worst []) s = .next t ∧ (t.fblock block).state = .closed ∧ t.fls.closed = s.fls.closed + 1 ∧ (t.fblock block).age = s.fls.closed ∧
      (∀ k, k ≠ block → t.fblock k = s.fblock k) ∧ t.fls.data = s.fls.data ∧ s.Only [.fls] t) ∧
  (∀ (s : State) (block worst u : Nat), (s.fblock block).state = .closing →
    ∃ t, exec (.blockVerify block worst [u]) s = .next t ∧ (t.fblock block).state = .source ∧ (t.fblock block).retire = true ∧
      t.fls.writes.length = s.fls.writes.length + (s.validUnits block).length ∧ t.fls.data = s.fls.data ∧ s.Only [.fls] t) ∧
  (∀ (s : State) (group victim : Nat), s.fls.hold = false → s.fls.readOnly = false → s.superClosed victim = true → groupOf victim = group → s.victimOk group victim = true →
    ∃ t, exec (.gcStart group victim) s = .next t ∧ (∀ k ∈ s.superblock victim, (s.fblock k).state = .closed → (t.fblock k).state = .source) ∧
      (∀ k, (s.fblock k).state ≠ .closed → t.fblock k = s.fblock k) ∧
      t.fls.writes.length = s.fls.writes.length + s.superValid ((s.superblock victim).filter fun k => (s.fblock k).state == .closed) ∧
      t.fls.map = s.fls.map ∧ t.fls.data = s.fls.data ∧ s.Only [.fls] t) ∧
  (∀ (s : State) (block : Nat), s.fls.hold = false → (s.fblock block).state = .source → s.erasable block = true →
    exec (.sourceErase block) s = .next (s.modBlock block fun b => { b with state := .erasing })) ∧
  (∀ (s : State) (block : Nat), s.erasable block = false → exec (.sourceErase block) s = .next s) ∧
  (∀ (s : State) (block : Nat), s.fls.hold = false → (s.fblock block).state = .erasing → (s.fblock block).retire = false →
    ∃ t, exec (.eraseComplete block true) s = .next t ∧ (t.fblock block).state = .free ∧ (t.fblock block).erases = (s.fblock block).erases + 1 ∧ t.fls.map = s.fls.map ∧
      (∀ a, block * 65536 ≤ a → a < block * 65536 + max 1 s.nand.unitsPerBlock * 65536 → memByte t.fls.data a = 0) ∧
      (∀ a, a < block * 65536 ∨ block * 65536 + max 1 s.nand.unitsPerBlock * 65536 ≤ a → memByte t.fls.data a = memByte s.fls.data a) ∧ s.Only [.fls] t) ∧
  (∀ (s : State) (pua : Nat) (d : Fin 8) (n : Nat) (v : Bool), s.fls.lostDies.contains (pua / 2 ^ 21) = false →
    ∃ t, exec (.codewordDecode pua d n .unreadable v) s = .next t ∧ t.reg Reg.flsCntUncorr = min 0xFFFFFFFF (s.reg Reg.flsCntUncorr + 1) ∧
      t.fls.health.uncorr = min 0xFFFFFFFF (s.fls.health.uncorr + 1) ∧ (t.fblock (s.blockOf pua)).refresh = true ∧
      (∃ m, m ∈ agetD t.blt.outbox ((0x300 + channelOf pua) % 4096) [] ∧ m.fault.level = 1 ∧ m.fault.status = .tierError ∧ m.fault.retried = true) ∧
      ((∀ m ∈ s.fls.map, m.2 = pua → s.readersOf m.1 = []) → t.fls.data = s.fls.data ∧ t.fls.map = s.fls.map ∧ s.Only [.fls, .bar, .blt] t) ∧
      s.Only [.bar, .sat, .kva, .pln, .fls, .cmd, .blt, .host, .out] t) ∧
  (∀ (s : State) (pua : Nat) (d : Fin 8) (n : Nat) (v : Bool), s.fls.lostDies.contains (pua / 2 ^ 21) = false → n ≤ s.fld Reg.flsMediaCfg 15 8 →
    ∃ t, exec (.codewordDecode pua d n .hard v) s = .next t ∧ (∀ o, t.reg o = s.reg o) ∧ t.fls.blocks = s.fls.blocks ∧ t.fls.data = s.fls.data ∧ t.blt = s.blt) ∧
  (∀ (s : State) (c : FlsChan) (rest : List FlsChan) (n : Nat), s.fls.chans = c :: rest → c.inService = true → c.stopped = false → s.nand.tempFeature = true → n < 256 →
    ∃ t x, exec (.nandTempRead [n]) s = .next t ∧ t.fls.chans = x :: rest ∧ x.temp = n ∧ (x.stopped = true ↔ 95 ≤ n) ∧ x.inService = true ∧
      t.fls.tempMax = max s.fls.tempMax n ∧ t.fls.data = s.fls.data ∧ s.Only [.fls, .bar, .blt] t)

/-! ### Fabric links (chapter 11) -/

/-- PORT_TRAINED, PORT_TRAINING_TIMEOUT, PORT_RETRAIN, PORT_DRAIN_COMPLETE, PORT_DRAIN_TIMEOUT (R369, R370): a training port goes UP with its
neighbour's identity where the wiring is right and MISWIRED otherwise; untrained it goes DOWN; a DOWN port trains again; a drained port is DISABLED. -/
def Obligations.PortStates : Prop :=
  (∀ (s : State) (p : Fin 64) (f : TrainedFact) (now : Nat), (s.port p.val).state = .training →
    ∃ t, exec (.portTrained p f now) s = .next t ∧
      (t.port p.val).state = (if s.matches_ p.val f then PortState.up else PortState.miswired) ∧ (t.port p.val).width = min 4 f.width ∧
      (t.port p.val).neighDev = f.dev ∧ (t.port p.val).neighPort = f.port.val ∧ (t.port p.val).rtt = min 65535 f.rtt ∧
      (∀ q, q ≠ p.val → t.port q = s.port q) ∧ s.Only [.stk, .lnk, .bar, .blt, .sec, .out] t) ∧
  (∀ (s : State) (p : Fin 64), (s.port p.val).state = .training →
    ∃ t, exec (.portTrainingTimeout p) s = .next t ∧ t.port p.val = { s.port p.val with state := .down } ∧
      (∀ q, q ≠ p.val → t.port q = s.port q) ∧ s.Only [.lnk, .bar, .blt] t) ∧
  (∀ (s : State) (p : Fin 64), (s.port p.val).state = .down →
    ∃ t, exec (.portRetrain p) s = .next t ∧ t.port p.val = { s.port p.val with state := .training } ∧
      (∀ q, q ≠ p.val → t.port q = s.port q) ∧ s.Only [.lnk] t) ∧
  (∀ (s : State) (p : Fin 64), (s.port p.val).state = .draining → (s.port p.val).depth = 0 → (s.port p.val).replay = [] → (s.port p.val).pend = false →
    ∃ t, exec (.portDrainComplete p) s = .next t ∧ (t.port p.val).state = .disabled ∧ (t.port p.val).width = 0 ∧ (t.port p.val).out = List.replicate 40 0 ∧
      s.Only [.lnk] t) ∧
  (∀ (s : State) (p : Fin 64), (s.port p.val).state = .draining → (s.port p.val).pend = false →
    ∃ t, exec (.portDrainTimeout p) s = .next t ∧ (t.port p.val).state = .disabled ∧ (t.port p.val).replay = [] ∧ s.Only [.lnk, .bar] t)

/-- PORT_CTRL_WRITE and PORT_CONTROL (R369, R371): disabling a port that is UP drains it; enabling one that drains latches PENDING_ENABLE, which the packet
answers with PENDING_ENABLE; a port above 63 or an action above 1 is BAD_FIELD. -/
def Obligations.PortControl : Prop :=
  (∀ (s : State) (p : Fin 64) (v : Word), s.present = true → s.sec.run ≠ .recovery → v.toNat % 16 = s.fld (Reg.lnkPCtrl p.val) 3 0 - 1 →
    s.flag (Reg.lnkPCtrl p.val) 0 = true → (s.port p.val).state = .up → (s.port p.val).queues = List.replicate 8 [] →
    ∃ t, exec (.portCtrlWrite p v) s = .next t ∧ (t.port p.val).state = .draining ∧ t.flag (Reg.lnkPCtrl p.val) 0 = false ∧
      (∀ q, q ≠ p.val → t.port q = s.port q) ∧ s.Only [.lnk, .bar] t) ∧
  (∀ (s s1 : State) (h : Header) (r : ReplyTo) (p rsv : Nat), s.Serves ⟨0x0005, 1, false, false, 4, rsv, 0, false⟩ h false r s1 → p ≤ 63 →
    (s.port p).state = .draining →
    ∃ t, exec (.portControl h p 1 rsv) s = .next t ∧ t = (s1.enablePort p).done r .pendingEnable ∧ (t.port p).pend = true ∧
      (t.port p).state = .draining) ∧
  (∀ (s s1 : State) (h : Header) (r : ReplyTo) (p rsv : Nat), s.Serves ⟨0x0005, 1, false, false, 4, rsv, 0, false⟩ h false r s1 → p ≤ 63 →
    (s.port p).state = .up →
    ∃ t, exec (.portControl h p 0 rsv) s = .next t ∧ t = (s1.disablePort p).done r .ok ∧ (t.port p).state = .draining ∧ t.flag (Reg.lnkPCtrl p) 0 = false) ∧
  (∀ (s s1 : State) (h : Header) (r : ReplyTo) (p a rsv : Nat), s.Serves ⟨0x0005, 1, false, false, 4, rsv, 0, false⟩ h false r s1 → 63 < p ∨ 1 < a →
    exec (.portControl h p a rsv) s = .next (s1.done r .badField))

/-- LANE_LOSS and CTRL_FLIT_TIMEOUT (R366): an UP port retrains narrower where DEGRADE_EN is set and its first lanes work; else it, and a port without a valid
CTRL flit for 2 µs, goes DOWN, counted in its LNK_P_CNT_DOWN, with its sequences and credits afresh. -/
def Obligations.LinkLoss : Prop :=
  (∀ (s : State) (p : Fin 64) (working now : Nat), (s.port p.val).state = .up → s.flag Reg.lnkCtrl 1 = true → working ≠ 0 →
    ∃ t, exec (.laneLoss p working now) s = .next t ∧ t.port p.val = { s.port p.val with state := .training, degraded := true } ∧
      (∀ q, q ≠ p.val → t.port q = s.port q) ∧ s.Only [.stk, .lnk] t) ∧
  (∀ (s : State) (p : Fin 64) (now : Nat), (s.port p.val).state = .up →
    ∃ t, exec (.laneLoss p 0 now) s = .next t ∧ (t.port p.val).state = .down ∧ (t.port p.val).sndSeq = 0 ∧ (t.port p.val).rcvSeq = 0 ∧
      (t.port p.val).replay = [] ∧ (t.port p.val).out = List.replicate 40 0 ∧ s.Only [.stk, .lnk, .bar, .out] t) ∧
  (∀ (s : State) (p : Fin 64) (now : Nat), (s.port p.val).state = .up → s.ethernet p.val = false → (s.port p.val).ctrlAt + 2000 ≤ now →
    ∃ t, exec (.ctrlFlitTimeout p now) s = .next t ∧ (t.port p.val).state = .down ∧ (t.port p.val).width = 0 ∧
      t.reg (Reg.lnkPCntDown p.val) = min 0xFFFFFFFF (s.reg (Reg.lnkPCntDown p.val) + 1) ∧ s.Only [.stk, .lnk, .bar, .out] t)

/-- FLIT_BOUNDARY (R349, R350, R353): an idle UP port sends a CTRL flit with the next sequence it expects and its credit counts; a port in
replay sends the flit that is due; a packet that fits is sent, its flit kept for replay and charged to its class and stage.
DATA_FLIT_RECEIVE and CTRL_FLIT_RECEIVE (R349, R353): the flit in sequence is accepted; the first bad flit sends one NAK and later ones are
discarded, but for one where the replay begins, which sends another; an acknowledgement drops the flits before it from the replay buffer, and a NAK starts replay there. The model's choices: log entry 11. -/
def Obligations.FlitBoundary : Prop :=
  (∀ (s : State) (p : Fin 64) (now : Nat), (s.port p.val).state = .up → s.ethernet p.val = false → (s.port p.val).queues = List.replicate 8 [] →
    (s.port p.val).replayFrom = none → (s.port p.val).cur = none →
    ∃ t, exec (.flitBoundary p now) s = .next t ∧ t.out = s.out ++ [.ctrl p.val (ctrlHdr false).word (ctrlBody (s.port p.val).rcvSeq (s.port p.val).owed)] ∧
      t.port p.val = { s.port p.val with sinceCtrl := 0 } ∧ s.Only [.stk, .lnk, .out] t) ∧
  (∀ (s : State) (p : Fin 64) (now : Nat) (q : BitVec 16) (f : Flit), (s.port p.val).state = .up → s.ethernet p.val = false →
    (s.port p.val).replayFrom = some q → (s.port p.val).sinceCtrl < 31 → (s.port p.val).replay[(q - (s.port p.val).ackSeq).toNat]? = some f →
    ∃ t, exec (.flitBoundary p now) s = .next t ∧ t.out = s.out ++ [.flit p.val q f] ∧
      (t.port p.val).replayFrom = (if q + 1 = (s.port p.val).sndSeq then none else some (q + 1)) ∧ (t.port p.val).replay = (s.port p.val).replay ∧
      (t.port p.val).queues = (s.port p.val).queues ∧ s.Only [.stk, .lnk, .out] t) ∧
  (∀ (s : State) (p : Fin 64) (now : Nat) (q : QPkt), (s.port p.val).state = .up → s.ethernet p.val = false → s.stk.time ≤ now →
    (s.port p.val).replayFrom = none → (s.port p.val).queues = [[q], [], [], [], [], [], [], []] → q.pkt.cls = 0 → q.sent = 0 → 1 < q.flits → q.from_ = none →
    (s.port p.val).sinceCtrl < 31 → (s.port p.val).replay.length < 4096 → s.flag Reg.shpCtrl 0 = false → s.creditOk p.val 0 q.stage = true →
    ∃ t, exec (.flitBoundary p now) s = .next t ∧ (∃ f, t.out = s.out ++ [.flit p.val (s.port p.val).sndSeq f] ∧
        f.hdr = FlitHdr.word { kind := 1, cls := 0, stage := Fin.ofNat 8 q.stage, head := true, tail := false, len := 62 } ∧
        (t.port p.val).replay = (s.port p.val).replay ++ [f]) ∧
      (t.port p.val).sndSeq = (s.port p.val).sndSeq + 1 ∧ (t.port p.val).out = (s.port p.val).out.modify q.stage (· + 1) ∧
      (∃ q2, (t.port p.val).queues = [[q2], [], [], [], [], [], [], []] ∧ q2.sent = 1) ∧ s.Only [.stk, .lnk, .out] t) ∧
  (∀ (s : State) (p : Fin 64) (hdr : BitVec 16), (s.port p.val).state = .up → (flitHdr hdr).valid = true →
    ∃ t, exec (.dataFlitReceive p (s.port p.val).rcvSeq hdr true) s = .next t ∧
      t.port p.val = { s.port p.val with rcvSeq := (s.port p.val).rcvSeq + 1, nakSent := false } ∧
      (∀ q, q ≠ p.val → t.port q = s.port q) ∧ s.Only [.lnk] t) ∧
  (∀ (s : State) (p : Fin 64) (seq : BitVec 16) (hdr : BitVec 16), (s.port p.val).state = .up → seq ≠ (s.port p.val).rcvSeq →
    ∃ t, exec (.dataFlitReceive p seq hdr true) s = .next t ∧ (t.port p.val).rcvSeq = (s.port p.val).rcvSeq ∧ (t.port p.val).nakSent = true ∧
      (s.port p.val).nakSent = (t.out == s.out) ∧
      ((s.port p.val).nakSent = false → t.out = s.out ++ [.ctrl p.val (ctrlHdr true).word (ctrlBody (s.port p.val).rcvSeq (s.port p.val).owed)]) ∧
      (∀ q, q ≠ p.val → t.port q = s.port q) ∧ s.Only [.lnk, .out] t) ∧
  (∀ (s : State) (p : Fin 64) (hdr : BitVec 16), (s.port p.val).state = .up →
    ∃ t, exec (.dataFlitReceive p (s.port p.val).rcvSeq hdr false) s = .next t ∧ (t.port p.val).rcvSeq = (s.port p.val).rcvSeq ∧ (t.port p.val).nakSent = true ∧
      t.out = s.out ++ [.ctrl p.val (ctrlHdr true).word (ctrlBody (s.port p.val).rcvSeq (s.port p.val).owed)] ∧
      t.reg (Reg.lnkPCntFecu p.val) = min 0xFFFFFFFF (s.reg (Reg.lnkPCntFecu p.val) + 1) ∧ (∀ q, q ≠ p.val → t.port q = s.port q) ∧ s.Only [.lnk, .bar, .out] t) ∧
  (∀ (s : State) (p : Fin 64) (n : Nat) (hdr : BitVec 16) (body : List Byte) (now : Nat), (s.port p.val).state = .up → n ≤ (s.port p.val).replay.length → n < 65536 →
    flitHdr hdr = ctrlHdr false → ctrlAck body = (s.port p.val).ackSeq + BitVec.ofNat 16 n →
    ∃ t, exec (.ctrlFlitReceive p hdr body now) s = .next t ∧
      (t.port p.val).replay = (s.port p.val).replay.drop n ∧ (t.port p.val).ackSeq = (s.port p.val).ackSeq + BitVec.ofNat 16 n ∧
      (t.port p.val).ctrlAt = now ∧ (t.port p.val).out = returned (s.port p.val).out (s.port p.val).lastRet (ctrlCounts body) ∧
      (t.port p.val).replayFrom = (s.port p.val).replayFrom ∧ s.Only [.stk, .lnk] t) ∧
  (∀ (s : State) (p : Fin 64) (hdr : BitVec 16) (body : List Byte) (now : Nat), flitHdr hdr ≠ ctrlHdr false → flitHdr hdr ≠ ctrlHdr true →
    exec (.ctrlFlitReceive p hdr body now) s = .next (s.at_ now)) ∧
  (∀ (s : State) (p : Fin 64) (n : Nat) (hdr : BitVec 16) (body : List Byte) (now : Nat), (s.port p.val).state = .up → n < (s.port p.val).replay.length → 0 < n → n < 65536 →
    flitHdr hdr = ctrlHdr true → ctrlAck body = (s.port p.val).ackSeq + BitVec.ofNat 16 n →
    ∃ t, exec (.ctrlFlitReceive p hdr body now) s = .next t ∧
      (t.port p.val).state = .up ∧ (t.port p.val).replayFrom = some ((s.port p.val).ackSeq + BitVec.ofNat 16 n) ∧ (t.port p.val).failedReplays = 1 ∧
      t.reg (Reg.lnkPCntReplay p.val) = min 0xFFFFFFFF (s.reg (Reg.lnkPCntReplay p.val) + 1) ∧ s.Only [.stk, .lnk, .bar] t)

/-- PACKET_ROUTE, GATEWAY_FRAME_RECEIVE and COMBINE_HOLD_EXPIRY (R352, R362, R373, R386, R411): a packet whose HCRC does not match, or that is too old, is dropped and counted; one for this device is
delivered with nothing else done but its credit; a frame that is not for this gateway is dropped and counted; a combining record is sent once its time has passed, not before. -/
def Obligations.Routing : Prop :=
  (∀ (s : State) (port : Option (Fin 64)) (pkt : Packet) (now : Nat), pkt.crc ≠ pkt.hcrc →
    ∃ t, exec (.packetRoute port pkt now) s = .next t ∧ t.reg Reg.lnkCntHcrc = min 0xFFFFFFFF (s.reg Reg.lnkCntHcrc + 1) ∧
      t.lnk.delivered = s.lnk.delivered ∧ (∀ p, (t.port p).queues = (s.port p).queues) ∧ s.Only [.stk, .lnk, .bar, .blt] t) ∧
  (∀ (s : State) (port : Option (Fin 64)) (pkt : Packet) (now : Nat), pkt.crc = pkt.hcrc → pkt.type ≠ 0 → pkt.type.toNat < 0x85 →
    (s.at_ now).expired pkt = true →
    ∃ t, exec (.packetRoute port pkt now) s = .next t ∧ t.reg Reg.xptCntExpired = min 0xFFFFFFFF (s.reg Reg.xptCntExpired + 1) ∧
      t.lnk.delivered = s.lnk.delivered ∧ (∀ p, (t.port p).queues = (s.port p).queues) ∧ s.Only [.stk, .lnk, .bar] t) ∧
  (∀ (s : State) (port : Fin 64) (pkt : Packet) (now : Nat), pkt.crc = pkt.hcrc → pkt.type ≠ 0 → pkt.type.toNat < 0x85 →
    (s.at_ now).expired pkt = false → pkt.viaValid = false → pkt.dst = s.me → s.flag Reg.xptCtrl 1 = false →
    ∃ t, exec (.packetRoute (some port) pkt now) s = .next t ∧ t.lnk.delivered = s.lnk.delivered ++ [pkt] ∧
      (∀ p, (t.port p).queues = (s.port p).queues) ∧ s.Only [.stk, .lnk] t) ∧
  (∀ (s : State) (f : GwFrame) (now : Nat), f.fcsOk = false ∨ s.ethernet 63 = false ∨ (s.port 63).state ≠ .up →
    ∃ t, exec (.gatewayFrameReceive f now) s = .next t ∧ t.reg Reg.lnkGwCntDrop = min 0xFFFFFFFF (s.reg Reg.lnkGwCntDrop + 1) ∧ s.Only [.stk, .bar] t) ∧
  (∀ (s : State) (f : GwFrame) (now : Nat), s.ethernet 63 = true → (s.port 63).state = .up →
    f.dstMac.toNat = s.reg Reg.lnkGwMacHi * 2 ^ 32 + s.reg Reg.lnkGwMacLo →
    f.dstIp.toNat = (List.range 4).foldl (fun a i => a * 2 ^ 32 + s.reg (Reg.lnkGwIp i)) 0 → f.udpPort.toNat = s.fld Reg.lnkGwCfg 31 16 →
    f.fcsOk = true → f.udpOk = true → f.pkt.crc = f.pkt.hcrc → f.pkt.viaValid = false → f.pkt.dst = s.me →
    ∃ t, exec (.gatewayFrameReceive f now) s = .next t ∧ t.lnk.delivered = s.lnk.delivered ++ [{ f.pkt with hops := 0 }] ∧ s.Only [.stk, .lnk] t) ∧
  (∀ (s : State) (i now : Nat) (c : CombHold), s.lnk.combine[i]? = some c →
    ∃ t, exec (.combineHoldExpiry i false now) s = .next t ∧
      (if now < c.openedAt + s.fld Reg.xptComb 15 0 then t.lnk = s.lnk ∧ s.Only [.stk] t
        else t.lnk.combine = s.lnk.combine.eraseIdx i ∧ t.lnk.completes = s.lnk.completes ∧ s.Only [.stk, .lnk, .bar] t)) ∧
  (∀ (s : State) (i now : Nat) (c : CompHold), s.lnk.completes[i]? = some c → c.openedAt + s.fld Reg.xptComb 15 0 ≤ now →
    ∃ t, exec (.combineHoldExpiry i true now) s = .next t ∧ t.lnk.completes = s.lnk.completes.eraseIdx i ∧ t.lnk.combine = s.lnk.combine ∧ s.Only [.stk, .lnk, .bar] t)

/-- LINK_STATE_SEND, LINK_STATE, LINK_STATE_STALE, PROBE_PACKET, PROBE_PACKET_ANS (R361, R366): reports go out on every UP local port, the latest of each member is
held, a stale one counts as all ports down; a probe for this device is answered, and an answer ends the probe. The model's choices: log entry 59. -/
def Obligations.LinkState : Prop :=
  (∀ (s : State) (now : Nat), s.lnk.ready = true → ∃ t, exec (.linkStateSend now) s = .next t ∧
    t.out = s.out ++ s.upLocal.map (fun p => Out.linkState p s.lnk.lsSeq s.ownReport.1 s.ownReport.2) ∧ t.lnk.lsSeq = s.lnk.lsSeq + 1 ∧
    t.lnk.ports = s.lnk.ports ∧ s.Only [.stk, .lnk, .out] t) ∧
  (∀ (s : State) (src : DeviceId) (seq : Nat) (up : BitVec 32) (levels : List Nat) (now : Nat), s.lnk.ready = true → harness src = harness s.me →
    src ≠ s.me → bitAt s.sat.live.toNat (member src) = true →
    ∃ t, exec (.linkState src seq up levels now) s = .next t ∧
      afind t.lnk.table_ (member src) = some { up := up, levels := levels, at_ := max s.stk.time now, seq := seq } ∧
      (∀ m, m ≠ member src → afind t.lnk.table_ m = afind s.lnk.table_ m) ∧ s.Only [.stk, .lnk] t) ∧
  (∀ (s : State) (m : Fin 32) (r : LinkReport), afind s.lnk.table_ m.val = some r →
    ∃ t, exec (.linkStateStale m) s = .next t ∧
      afind t.lnk.table_ m.val = some (if r.at_ + 4 * (max 1 (s.fld Reg.lnkTopo 31 24) * 1000) < s.stk.time then { r with up := 0 } else r) ∧
      (∀ k, k ≠ m.val → afind t.lnk.table_ k = afind s.lnk.table_ k) ∧ s.Only [.lnk] t) ∧
  (∀ (s : State) (src : DeviceId), exec (.probePacket src s.me) s = .next (s.emit (.probeAns src))) ∧
  (∀ (s : State) (src dst : DeviceId), dst ≠ s.me → s.isUp (localPort (member s.me) (member dst)) = true →
    exec (.probePacket src dst) s = .next (s.emit (.probe (member dst) dst)) ∧
    exec (.probePacketAns src dst) s = .next (s.emit (.probeAns dst))) ∧
  (∀ (s : State) (src : DeviceId), ∃ t, exec (.probePacketAns src s.me) s = .next t ∧
    (∀ q, q ∈ t.lnk.probes ↔ q ∈ s.lnk.probes ∧ q.1 ≠ localPort (member s.me) (member src)) ∧ t.lnk.ports = s.lnk.ports ∧ s.Only [.lnk] t)

/-- PROBE_TIMEOUT and DEAD_NOTICE (R366, R367, R76): a neighbour that did not answer within 4 µs and sent no LINK_STATE since is dead; the first
copy of a notice is seen, forwarded and, where it changes the live mask, takes effect; a second copy changes nothing but the clock. The model's choices: log entries 59, 113. -/
def Obligations.Notices : Prop :=
  (∀ (s : State) (p : Fin 64) (t0 now : Nat), p.val < 31 → s.lnk.probes = [(p.val, t0)] → t0 + 4000 ≤ now → s.stk.time ≤ now →
    afind s.lnk.table_ (localPeer (member s.me) p.val) = none → bitAt s.sat.live.toNat (localPeer (member s.me) p.val) = true →
    ∃ t, exec (.probeTimeout p now) s = .next t ∧ t.lnk.probes = [] ∧
      bitAt t.sat.live.toNat (localPeer (member s.me) p.val) = false ∧
      t.reg Reg.lnkCntDead = min 0xFFFFFFFF (s.reg Reg.lnkCntDead + 1)) ∧
  (∀ (s : State) (dev : DeviceId) (seq now : Nat), s.lnk.ready = true → s.sawNotice dev seq false = false → harness dev = harness s.me → dev ≠ s.me →
    dev.toNat < 2 ^ 14 → s.isLive dev = true →
    ∃ t, exec (.deadNotice dev seq false now) s = .next t ∧ (dev, seq, false) ∈ t.lnk.seen ∧ bitAt t.sat.live.toNat (member dev) = false ∧
      (∀ m, m < 32 → m ≠ member dev → bitAt t.sat.live.toNat m = bitAt s.sat.live.toNat m) ∧
      t.reg Reg.lnkCntDead = min 0xFFFFFFFF (s.reg Reg.lnkCntDead + 1)) ∧
  (∀ (s : State) (dev : DeviceId) (seq : Nat) (alive : Bool) (now : Nat), s.sawNotice dev seq alive = true →
    exec (.deadNotice dev seq alive now) s = .next (s.at_ now))

/-! ### Transport (chapter 12) -/

/-- OPEN_PKT, OPEN_ACK, CLOSE_PKT, CLOSE_ACK, CLOSE_TIMEOUT, CONNECTION_IDLE (R385): an OPEN takes a context with its sender as the peer while fewer than MAX_CONNS are in use, and
otherwise none; OPEN_ACK opens the sender's; a CLOSE with the abort bit fails the connection, one without frees it, as CLOSE_ACK or three RTO without it do; an idle connection closes. -/
def Obligations.ConnectionsOpenAndClose : Prop :=
  (∀ (s : State) (p : Packet) (now : Nat) (conn : Fin 1048576) (cls : Fin 8) (device : Bool) (part peer : Fin 16) (inc : Fin 4096),
    p.body = .opening conn cls device part peer inc → s.xpt.ready = true → p.trailerOk = true → (s.at_ now).expired p = false →
    s.findConn (quadKey device peer.val p.src part.val cls.val) = none → s.xpt.conns.length < s.fld Reg.xptConnCfg 20 0 →
    ∃ t k c, exec (.openPkt p now) s = .next t ∧ t.conn k = some c ∧ c.state = .opened ∧ c.peerConn = conn ∧ c.peerInc = inc ∧ c.peerDev = p.src ∧ c.peerPart = part ∧
      c.localPart = peer ∧ c.cls = cls ∧ c.device = device ∧ (∀ j, j ≠ k → t.conn j = s.conn j) ∧ s.Only [.bar, .stk, .lnk, .xpt, .shp, .freeCtr] t) ∧
  (∀ (s : State) (p : Packet) (now : Nat) (conn : Fin 1048576) (cls : Fin 8) (device : Bool) (part peer : Fin 16) (inc : Fin 4096),
    p.body = .opening conn cls device part peer inc → s.xpt.ready = true → p.trailerOk = true → (s.at_ now).expired p = false →
    s.findConn (quadKey device peer.val p.src part.val cls.val) = none → s.fld Reg.xptConnCfg 20 0 ≤ s.xpt.conns.length →
    ∃ t, exec (.openPkt p now) s = .next t ∧ s.Only [.bar, .stk, .lnk, .shp] t) ∧
  (∀ (s s1 : State) (p : Packet) (now k : Nat) (c : Conn) (conn : Fin 1048576) (inc : Fin 4096), s.receive p now false = (s1, some (k, c)) → p.body = .openAck conn inc →
    c.state = .opening →
    ∃ t d, exec (.openAck p now) s = .next t ∧ t.conn k = some d ∧ d.state = .opened ∧ d.peerConn = conn ∧ d.peerInc = inc ∧
      s.Only [.bar, .stk, .cores, .lnk, .xpt, .shp, .blt, .freeCtr] t) ∧
  (∀ (s s1 : State) (p : Packet) (now k : Nat) (c : Conn), s.receive p now false = (s1, some (k, c)) → p.body = .close true →
    ∃ t d, exec (.closePkt p now) s = .next t ∧ t.conn k = some d ∧ d.state = .failed ∧ d.sendq = [] ∧ d.sent = [] ∧ d.waiting = [] ∧
      (s1.xpt.stitch = [] → s.Only [.bar, .stk, .cores, .lnk, .xpt, .shp, .blt, .freeCtr] t) ∧
      s.Only [.bar, .stk, .cores, .memory, .lnk, .xpt, .shp, .blt, .host, .out, .freeCtr] t) ∧
  (∀ (s s1 : State) (p : Packet) (now k : Nat) (c : Conn), s.receive p now false = (s1, some (k, c)) → p.body = .close false → c.waiting = [] →
    ∃ t, exec (.closePkt p now) s = .next t ∧ t.conn k = none ∧ s.Only [.bar, .stk, .cores, .lnk, .xpt, .shp, .blt, .freeCtr] t) ∧
  (∀ (s s1 : State) (p : Packet) (now k : Nat) (c : Conn), s.receive p now false = (s1, some (k, c)) →
    ∃ t, exec (.closeAck p now) s = .next t ∧ (c.state = .closing → c.waiting = [] → t.conn k = none) ∧ (c.state ≠ .closing → t = s1) ∧
      s.Only [.bar, .stk, .cores, .lnk, .xpt, .shp, .blt, .freeCtr] t) ∧
  (∀ (s : State) (conn now : Nat) (c : Conn), s.conn conn = some c → c.state = .closing → c.closeAt + 3 * c.rto ≤ now → c.waiting = [] →
    ∃ t, exec (.closeTimeout conn now) s = .next t ∧ t.conn conn = none ∧ (∀ j, j ≠ conn → t.conn j = s.conn j) ∧ s.Only [.stk, .xpt] t) ∧
  (∀ (s : State) (conn : Nat) (c : Conn), s.conn conn = some c → c.state = .opened → s.fld Reg.xptCc 15 0 ≠ 0 → c.ops = 0 → c.waiting = [] → c.sent = [] →
    c.lastUse + s.fld Reg.xptCc 15 0 ≤ s.strokeNow → s.xpt.results = [] →
    ∃ t d, exec (.connectionIdle conn) s = .next t ∧ t.conn conn = some d ∧ d.state = .closing ∧ d.closeAt = s.stk.time ∧ (∀ j, j ≠ conn → t.conn j = s.conn j) ∧
      s.Only [.bar, .lnk, .xpt, .shp, .freeCtr] t)

/-- ACK, ACK_DELAY_TIMER, NAK, NOT_READY_RETRY, RETRANSMIT_TIMEOUT (R386, R387, R391, R392): an acknowledgement ends what it covers; an acknowledgement is sent 1 µs after the first
arrival without one; a GAP is resent, a REFUSED operation completes with its status, a NOT_READY packet is resent later; a timeout doubles RTO up to 16 × RTO_MIN, and the
RETRY_MAX-th in a row fails the connection, whose operations complete with TIER_ERROR. The model's choices: log entries 12, 54. -/
def Obligations.AcksAndRetransmission : Prop :=
  (∀ (s s1 : State) (p : Packet) (now k : Nat) (c : Conn) (bitmap : BitVec 64), s.receive p now false = (s1, some (k, c)) → p.body = .ack bitmap → c.sendq = [] → c.waiting = [] →
    ∃ t d, exec (.ack p now) s = .next t ∧ t.conn k = some d ∧
      d.sent = c.sent.filter (fun x => x.pkt.answered || !(serialLt 32 x.pkt.xp.seq.toNat p.xp.ack.toNat || selected p.xp.ack x.pkt.xp.seq bitmap)) ∧
      s.Only [.bar, .stk, .cores, .lnk, .xpt, .shp, .blt, .freeCtr] t) ∧
  (∀ (s : State) (conn now : Nat) (c : Conn), s.conn conn = some c → c.state = .opened → c.unacked ≠ 0 → c.firstAt + 1000 ≤ now →
    ∃ t d, exec (.ackDelayTimer conn now) s = .next t ∧ t.conn conn = some d ∧ d.unacked = 0 ∧ d.rcvNxt = c.rcvNxt ∧ (∀ j, j ≠ conn → t.conn j = s.conn j) ∧
      s.Only [.bar, .stk, .lnk, .xpt, .shp, .freeCtr] t) ∧
  (∀ (s s1 : State) (p : Packet) (now k : Nat) (c : Conn) (x : Sent) (st : Status) (seq : BitVec 32), s.acceptPacket p now false = (s1, some (k, c)) → p.body = .nak 1 st seq →
    c.state ≠ .opening → c.sent.find? (fun y => y.pkt.xp.seq == seq) = some x →
    ∃ t, exec (.nak p now) s = .next t ∧ t = (s1.resend k x).takeAck k p.xp.ack 0 p.xp.echo ∧ t.reg Reg.xptCntRetx = min 0xFFFFFFFF (s1.reg Reg.xptCntRetx + 1)) ∧
  (∀ (s s1 : State) (p : Packet) (now k : Nat) (c : Conn) (x : Sent) (st : Status) (seq : BitVec 32), s.acceptPacket p now false = (s1, some (k, c)) → p.body = .nak 2 st seq →
    c.state ≠ .opening → c.sent.find? (fun y => y.pkt.xp.seq == seq) = some x →
    exec (.nak p now) s = .next ((s1.modConn k fun y => { y with notReady := y.notReady ++ [seq] }).takeAck k p.xp.ack 0 p.xp.echo)) ∧
  (∀ (s s1 : State) (p : Packet) (now k : Nat) (c : Conn) (x : Sent) (o : XOp) (q i : Nat) (st : Status) (seq : BitVec 32), s.acceptPacket p now false = (s1, some (k, c)) →
    p.body = .nak 3 st seq → c.state ≠ .opening → c.sent.find? (fun y => y.pkt.xp.seq == seq) = some x → s1.tagOf k x.pkt = true →
    afind s1.xpt.ops x.pkt.xp.tag.toNat = some o → o.done = false → o.origin = .queue q i →
    ∃ t o2, exec (.nak p now) s = .next t ∧ afind t.xpt.ops x.pkt.xp.tag.toNat = some o2 ∧ o2.done = true ∧ o2.status = st ∧ o2.result = [] ∧ o2.origin = o.origin) ∧
  (∀ (s : State) (conn now : Nat) (c : Conn), s.conn conn = some c →
    ∃ t d, exec (.notReadyRetry conn now) s = .next t ∧ t.conn conn = some d ∧ d.notReady = [] ∧ d.retries = c.retries ∧ (∀ j, j ≠ conn → t.conn j = s.conn j) ∧
      s.Only [.bar, .stk, .lnk, .xpt, .shp, .freeCtr] t) ∧
  (∀ (s : State) (conn now : Nat) (c : Conn) (x : Sent), s.conn conn = some c → c.state = .opened → x ∈ c.sent → x.at_ + c.rto ≤ now → c.retries + 1 < s.retryMax →
    ∃ t d, exec (.retransmitTimeout conn now) s = .next t ∧ t.conn conn = some d ∧ d.state = .opened ∧ d.retries = c.retries + 1 ∧ d.rto = min (16 * s.rtoMin) (2 * c.rto) ∧
      d.window = (if c.cls.val = 0 then c.window else 4096) ∧ s.Only [.bar, .stk, .lnk, .xpt, .shp, .freeCtr] t) ∧
  (∀ (s : State) (conn now : Nat) (c : Conn) (x : Sent) (tag : Nat) (o : XOp) (q i : Nat), s.conn conn = some c → c.state = .opened → x ∈ c.sent → x.at_ + c.rto ≤ now →
    s.retryMax ≤ c.retries + 1 → s.xpt.ops = [(tag, o)] → o.conn = conn → o.done = false → o.origin = .queue q i → o.kind ≠ .atomic →
    ∃ t d, exec (.retransmitTimeout conn now) s = .next t ∧ t.conn conn = some d ∧ d.state = .failed ∧
      afind t.xpt.ops tag = some { o with done := true, status := .tierError, result := [] })

/-- PUT, GET, STORE, LOAD, ATOMIC, REDUCE, COMPLETE at their home (R393, R400, R402, R403, R406, R408, R414): what arrived before is answered again and not applied again; a packet of
another partition or class is refused with PROTECTION; the data of a put or store that passes the checks lands, and nothing else of memory changes by a get or a load;
an atomic is applied once and its result kept; a load is answered with LOAD_DATA, and an access from another harness refused. `s1` is the state with the packet received and its acknowledgement applied. The model's choices: log entry 12. -/
def Obligations.HomeRequests : Prop :=
  (∀ (s s1 : State) (p : Packet) (now k : Nat) (c : Conn) (h : OpHdr) (rcv : Option Nat) (data : List Byte), s.receive p now true = (s1, some (k, c)) → p.body = .put h rcv data →
    (c.seen p.xp.seq = true → exec (.put p now) s = .next (s1.sendAck k)) ∧
    (c.seen p.xp.seq = false → c.matches_ p = false → exec (.put p now) s = .next ((s1.refuse k p .protection).settle k)) ∧
    (∀ (st : Status), c.seen p.xp.seq = false → c.matches_ p = true → s1.xpt.stitch = [] →
      s1.regionCheck c.localPart h.key p.tenant .write h.addr data.length false = .error st → exec (.put p now) s = .next ((s1.refuse k p st).settle k)) ∧
    (∀ (s2 : State) (i : Nat) (r : Region), c.seen p.xp.seq = false → c.matches_ p = true → s1.xpt.stitch = [] → s1.xpt.rob = [] →
      s1.regionCheck c.localPart h.key p.tenant .write h.addr data.length false = .ok (i, r) →
      s1.writeVa r.part.val .thread (r.base + h.addr) data = (s2, .ok ()) →
      ∃ t, exec (.put p now) s = .next t ∧ t.memory = s2.memory ∧ t.host = s2.host ∧ t.out = s2.out ∧
        s.Only [.bar, .stk, .cores, .pln, .memory, .lnk, .xpt, .shp, .blt, .host, .out, .freeCtr] t)) ∧
  (∀ (s s1 : State) (p : Packet) (now k : Nat) (c : Conn) (h : OpHdr), s.receive p now true = (s1, some (k, c)) → p.body = .get h → c.seen p.xp.seq = false →
    (c.matches_ p = false → exec (.get p now) s = .next ((s1.refuse k p .protection).settle k)) ∧
    (∀ (s2 : State) (l : List (Nat × Nat)) (i : Nat) (r : Region), c.matches_ p = true → s1.xpt.rob = [] →
      s1.regionCheck c.localPart h.key p.tenant .read h.addr h.msgLen false = .ok (i, r) →
      s1.xlateRange r.part.val .thread .read (r.base + h.addr) h.msgLen = (s2, .ok l) → s2.partsPoisoned l = false →
      ∃ t, exec (.get p now) s = .next t ∧ t.memory = s2.memory ∧ s.Only [.bar, .stk, .cores, .pln, .memory, .lnk, .xpt, .shp, .blt, .freeCtr] t)) ∧
  (∀ (s s1 : State) (p : Packet) (now k : Nat) (c : Conn) (a mask : Nat) (data : List Byte), s.receive p now true = (s1, some (k, c)) → p.body = .store a mask data →
    harness p.src = harness s1.me → p.xp.seq = c.rcvNxt → c.seen p.xp.seq = false → c.matches_ p = true → s1.xpt.rob = [] →
    (∀ st : Status, s1.windowCheck p.tenant .write a data.length = .error st → exec (.store p now) s = .next (s1.refuse k p st)) ∧
    (s1.windowCheck p.tenant .write a data.length = .ok () →
      ∃ t, exec (.store p now) s = .next t ∧
        (∀ x, memByte t.memory.mem x = if a ≤ x ∧ x < a + data.length ∧ bitAt mask (x - a) = true then data.getD (x - a) 0 else memByte s1.memory.mem x) ∧
        s.Only [.bar, .stk, .cores, .memory, .lnk, .xpt, .shp, .blt, .freeCtr] t)) ∧
  (∀ (s s1 : State) (p : Packet) (now k : Nat) (c : Conn) (a len : Nat), s.receive p now true = (s1, some (k, c)) → p.body = .load a len → harness p.src = harness s1.me →
    p.xp.seq = c.rcvNxt → c.seen p.xp.seq = false → c.matches_ p = true → s1.xpt.rob = [] →
    (∀ st : Status, s1.windowCheck p.tenant .read a len = .error st → exec (.load p now) s = .next (s1.refuse k p st)) ∧
    (s1.windowCheck p.tenant .read a len = .ok () →
      ∃ d, (s1.arrive k p.xp.seq).conn k = some d ∧ (c.arrived = [] → d.rcvNxt = c.rcvNxt + 1) ∧
        exec (.load p now) s = .next ((s1.arrive k p.xp.seq).launch k ((s1.arrive k p.xp.seq).mkPacket d 0x15 p.tenant p.xp.tag p.xp.seq (8 + len)
          (.loadData (if s1.memory.poisoned a len = true then .dataCorrupt else .ok) (memRead s1.memory.mem a len)))))) ∧
  (∀ (s s1 : State) (p : Packet) (now k : Nat) (c : Conn) (a len : Nat), s.receive p now true = (s1, some (k, c)) → p.body = .load a len → harness p.src ≠ harness s1.me →
    c.seen p.xp.seq = false → c.matches_ p = true → exec (.load p now) s = .next ((s1.refuse k p .protection).settle k)) ∧
  (∀ (s s1 s2 : State) (p : Packet) (now k : Nat) (c : Conn) (a aop opnd cmp v : Nat) (st : Status), s.receive p now true = (s1, some (k, c)) →
    p.body = .atomic (.window a) aop opnd cmp → harness p.src = harness s1.me → p.xp.seq = c.rcvNxt → c.seen p.xp.seq = false → c.matches_ p = true → s1.xpt.rob = [] → s1.xpt.results.length < 131072 →
    s1.windowCheck p.tenant .atomic a (aopBytes aop) = .ok () → s1.atomAt a aop opnd cmp = (s2, .ok (st, v)) →
    ∃ t, exec (.atomic p now) s = .next t ∧ t.memory = s2.memory ∧ t.xpt.results = s1.xpt.results ++ [⟨k, c.inc, p.xp.seq, st, v⟩] ∧
      s.Only [.bar, .stk, .cores, .memory, .lnk, .xpt, .shp, .blt, .freeCtr] t) ∧
  (∀ (s s1 s2 s3 : State) (p : Packet) (now k : Nat) (c : Conn) (h : OpHdr) (i : Nat) (g : Region) (a aop opnd cmp v : Nat) (st : Status),
    s.receive p now true = (s1, some (k, c)) → p.body = .atomic (.keyed h) aop opnd cmp → c.seen p.xp.seq = false → c.matches_ p = true → s1.xpt.rob = [] →
    s1.xpt.results.length < 131072 → s1.regionCheck c.localPart h.key p.tenant .atomic h.addr (aopBytes aop) false = .ok (i, g) →
    s1.xlate g.part.val .thread .atomic (g.base + h.addr) = (s2, .pa a) → s2.atomAt a aop opnd cmp = (s3, .ok (st, v)) →
    ∃ t, exec (.atomic p now) s = .next t ∧ t.memory = s3.memory ∧ t.xpt.results = s1.xpt.results ++ [⟨k, c.inc, p.xp.seq, st, v⟩] ∧
      s.Only [.bar, .stk, .cores, .pln, .memory, .lnk, .xpt, .shp, .blt, .freeCtr] t) ∧
  (∀ (s : State) (a aop opnd cmp : Nat), a % aopBytes aop = 0 → s.memory.target a = .t1 → s.memory.poisoned a (aopBytes aop) = false →
    ∃ s2, s.atomAt a aop opnd cmp = (s2, .ok (.ok, leNat (memRead s.memory.mem a (aopBytes aop)))) ∧
      memRead s2.memory.mem a (aopBytes aop) = leBytes (aopBytes aop) (atomNew aop (leNat (memRead s.memory.mem a (aopBytes aop))) opnd cmp) ∧
      (∀ x, x < a ∨ a + aopBytes aop ≤ x → memByte s2.memory.mem x = memByte s.memory.mem x)) ∧
  (∀ (s s1 : State) (p : Packet) (now k : Nat) (c : Conn) (g : AtomTarget) (aop opnd cmp : Nat) (r : XResult), s.receive p now true = (s1, some (k, c)) →
    p.body = .atomic g aop opnd cmp → c.seen p.xp.seq = true → aopFetch aop = true →
    s1.xpt.results.find? (fun x => x.conn == k && x.inc == c.inc && x.seq == p.xp.seq) = some r →
    exec (.atomic p now) s = .next (s1.sendAtomicData k p r.status r.value)) ∧
  (∀ (s s1 : State) (p : Packet) (now k : Nat) (c : Conn) (id round rank leg off total : Nat) (data : List Byte), s.receive p now true = (s1, some (k, c)) →
    p.body = .reduce id round rank leg off total data →
    (c.seen p.xp.seq = true → exec (.reduce p now) s = .next (s1.sendAck k)) ∧
    (c.seen p.xp.seq = false → c.matches_ p = true → afind s1.xpt.groups (groupKey c.localPart.val id) = none → exec (.reduce p now) s = .next (s1.refuse k p .protection)) ∧
    (∀ (g : XGroup) (mine : Nat), c.seen p.xp.seq = false → c.matches_ p = true → afind s1.xpt.groups (groupKey c.localPart.val id) = some g →
      g.rankOf p.src p.part = some rank → g.rankOf s1.me c.localPart = some mine →
      exec (.reduce p now) s = .next ((s1.arrive k p.xp.seq).groupLand 4 c.localPart id p.tenant round leg rank off total data) ∧
      (∀ g1 : XGroup, g1 = { g with inputs := aput g.inputs (pieceKey round leg rank off) data } → leg = 0 →
        ((g1.inHarness (harness s1.me)).all fun i => (g1.piece round 0 i).length == total) = false →
        ∃ t, exec (.reduce p now) s = .next t ∧ t = { s1.arrive k p.xp.seq with xpt := t.xpt } ∧
          t.xpt = { (s1.arrive k p.xp.seq).xpt with groups := aput s1.xpt.groups (groupKey c.localPart.val id) g1 }))) ∧
  (∀ (s s1 : State) (p : Packet) (now k : Nat) (c : Conn) (id slot : Nat) (col : Collector), s.receive p now true = (s1, some (k, c)) → p.body = .complete id slot [] →
    c.seen p.xp.seq = false → c.matches_ p = true → afind s1.xpt.collectors (groupKey c.localPart.val id) = some col →
    (col.n ≤ slot → exec (.complete p now) s = .next ((s1.arrive k p.xp.seq).sendNak k 3 .protection p.xp.seq p.xp.tag)) ∧
    (∀ j, slot < col.n → agetD col.slots slot 0 < 255 → j < col.n → j ≠ slot → agetD col.slots j 0 = 0 →
      ∃ t, exec (.complete p now) s = .next t ∧
        afind t.xpt.collectors (groupKey c.localPart.val id) = some { col with slots := aput col.slots slot (agetD col.slots slot 0 + 1) } ∧
        s.Only [.bar, .stk, .cores, .pln, .lnk, .xpt, .shp, .blt, .freeCtr] t))

/-- GET_DATA, LOAD_DATA, ATOMIC_DATA, COMBINED, COMBINED_DATA, QUERY, QUERY_DATA, RESULT_HOLD_EXPIRY (R400, R402, R404, R405, R411, R412): a get's bytes are placed and counted, and the last ones end it; a
load's or fetching atomic's value reaches the thread that asked; a combining record updates its target once, by every constituent; a query finds what the home kept
for 100 ms, and then nothing. The model's choices: log entry 12. -/
def Obligations.AnswersAndRecords : Prop :=
  (∀ (s s1 s2 : State) (p : Packet) (now k : Nat) (c : Conn) (h : OpHdr) (data : List Byte) (o : XOp), s.receive p now true = (s1, some (k, c)) → p.body = .getData h data →
    c.seen p.xp.seq = false → s1.xpt.rob = [] → afind s1.xpt.ops p.xp.tag.toNat = some o → o.kind = .get → o.conn = k → o.done = false → (h.addr - o.raddr) ∉ o.got →
    s1.writeVa o.part.val .thread (o.laddr + (h.addr - o.raddr)) data = (s2, .ok ()) →
    ∃ t, exec (.getData p now) s = .next t ∧ t.memory = s2.memory ∧ t.host = s2.host ∧
      (data.length < o.left → afind t.xpt.ops p.xp.tag.toNat = some { o with got := (h.addr - o.raddr) :: o.got, left := o.left - data.length }) ∧
      (∀ q i, o.left ≤ data.length → o.origin = .queue q i → afind t.xpt.ops p.xp.tag.toNat =
        some { o with got := (h.addr - o.raddr) :: o.got, left := o.left - data.length, done := true, status := .ok, result := [] }) ∧
      s.Only [.bar, .stk, .cores, .memory, .lnk, .xpt, .shp, .blt, .host, .out, .freeCtr] t) ∧
  (∀ (s s1 : State) (p : Packet) (now k : Nat) (c : Conn) (data : List Byte) (o : XOp) (x : Sent) (core th rd width : Nat) (signed : Bool),
    s.receive p now true = (s1, some (k, c)) → p.body = .loadData .ok data → c.sent.find? (fun y => y.pkt.xp.tag == p.xp.tag && y.pkt.xp.seq == p.xp.seq) = some x →
    afind s1.xpt.ops p.xp.tag.toNat = some o → o.done = false → o.kind = .load → o.origin = .thread core th rd width signed →
    ∃ t, exec (.loadData p now) s = .next t ∧
      (t.thread (threadKey core th)).x = ((s1.thread (threadKey core th)).setX rd (loadValue (data.drop o.opnd) width signed)).x ∧
      (∀ j, j ≠ threadKey core th → t.thread j = s1.thread j) ∧ s.Only [.bar, .stk, .cores, .lnk, .xpt, .shp, .blt, .freeCtr] t) ∧
  (∀ (s s1 : State) (p : Packet) (now k v : Nat) (c : Conn) (o : XOp) (x : Sent) (core th rd width : Nat) (signed : Bool), s.receive p now true = (s1, some (k, c)) →
    p.body = .atomicData .ok v → c.sent.find? (fun y => y.pkt.xp.tag == p.xp.tag && y.pkt.xp.seq == p.xp.seq) = some x →
    afind s1.xpt.ops p.xp.tag.toNat = some o → o.done = false → o.kind = .atomic → o.origin = .thread core th rd width signed →
    ∃ t, exec (.atomicData p now) s = .next t ∧
      (t.thread (threadKey core th)).x = ((s1.thread (threadKey core th)).setX rd (loadValue (leBytes 16 v) width signed)).x ∧
      (∀ j, j ≠ threadKey core th → t.thread j = s1.thread j) ∧ s.Only [.bar, .stk, .cores, .lnk, .xpt, .shp, .blt, .freeCtr] t) ∧
  (∀ (s s1 : State) (p : Packet) (now a : Nat) (r : CombRec) (y : Constituent) (c : Conn), p.body = .combined r → s.xpt.ready = true → p.trailerOk = true →
    (s.at_ now).expired p = false → r.list_ = [y] → (s.at_ now).constituentConn y = some c → s.xpt.results.length < 131072 → s.xpt.rob = [] →
    (r.keyed = true ∨ y.seq = c.rcvNxt) → (s.at_ now).recordTarget c r = (s1, .ok a) → s1.memory.target a = .t1 → s1.memory.poisoned a (aopBytes r.aop) = false →
    ∃ t, exec (.combined p now) s = .next t ∧
      memRead t.memory.mem a (aopBytes r.aop) = leBytes (aopBytes r.aop) (atomNew r.aop (leNat (memRead s1.memory.mem a (aopBytes r.aop))) y.opnd 0) ∧
      t.xpt.results = s1.xpt.results ++ [⟨y.conn.val, y.inc, y.seq, .ok, leNat (memRead s1.memory.mem a (aopBytes r.aop))⟩] ∧
      (∀ x, x < a ∨ a + aopBytes r.aop ≤ x → memByte t.memory.mem x = memByte s1.memory.mem x) ∧
      s.Only [.bar, .stk, .cores, .pln, .memory, .lnk, .xpt, .shp, .freeCtr] t) ∧
  (∀ (s : State) (p : Packet) (now base : Nat) (st : Status) (r : CombRec), p.body = .combinedData base st r → p.trailerOk = true →
    ∃ t, exec (.combinedData p now) s = .next t ∧ (r.list_ = [] → t = s.at_ now) ∧
      (∀ y, r.list_ = [y] → t = (s.at_ now).routeOn none (Packet.seal { p with
        type := 0x21, dst := y.src, hops := 0, viaValid := false, cmark := false, nonmin := false, rsv := 0, len := 24, body := .atomicData st base,
        xp := { p.xp with conn := y.conn, inc := y.inc, seq := y.seq, ack := 0, tag := y.tag, age := (s.at_ now).usNow } })) ∧
      (∀ y z, r.list_ = [y, z] → ∃ s1, exec (.combinedData { p with body := .combinedData base st { r with list_ := [y] } } now) s = .next s1 ∧
        exec (.combinedData { p with body := .combinedData (atomNew r.aop base y.opnd 0) st { r with list_ := [z] } } now) s1 = .next t) ∧
      s.Only [.bar, .stk, .lnk] t) ∧
  (∀ (s : State) (p : Packet) (now : Nat) (inc : Fin 4096) (seq : BitVec 32) (r : XResult), p.body = .query inc seq → s.xpt.ready = true → p.trailerOk = true →
    (s.at_ now).expired p = false → s.conn p.xp.conn.val = none →
    s.xpt.failed.any (fun f => f.conn == p.xp.conn.val && f.inc == inc && f.peer == p.src && decide (now < f.until_)) = true →
    s.xpt.results.find? (fun x => x.conn == p.xp.conn.val && x.inc == inc && x.seq == seq) = some r →
    ∃ q : Packet, q.type = 0x25#8 ∧ q.dst = p.src ∧ q.src = s.me ∧ q.body = .queryData (some true) r.value ∧ q.xp.tag = p.xp.tag ∧
      exec (.query p now) s = .next ((s.at_ now).inject false q.seal)) ∧
  (∀ (s : State) (p : Packet) (now v : Nat) (b : Bool) (d : DeviceId) (r : ReplyTo), p.body = .queryData (some b) v → p.trailerOk = true →
    afind s.xpt.queries p.xp.tag.toNat = some (d, r) →
    ∃ t, exec (.queryData p now) s = .next t ∧ afind t.xpt.queries p.xp.tag.toNat = none ∧
      t = State.answer { s.at_ now with xpt := t.xpt } r .ok true (leBytes 1 (b2n b) ++ zeros 7 ++ leBytes 16 v) ∧ s.Only [.bar, .stk, .xpt, .cmd, .host, .out] t) ∧
  (∀ (s : State) (conn now : Nat) (inc : Fin 4096), s.xpt.failed.any (fun f => f.conn == conn && f.inc == inc && decide (f.until_ ≤ now)) = true →
    ∃ t, exec (.resultHoldExpiry conn inc now) s = .next t ∧ (∀ r ∈ t.xpt.results, ¬ (r.conn = conn ∧ r.inc = inc)) ∧
      (∀ f ∈ t.xpt.failed, ¬ (f.conn = conn ∧ f.inc = inc)) ∧
      (∀ c, s.conn conn = some c → c.state = .failed → c.inc = inc → t.conn conn = none) ∧ (∀ j, j ≠ conn → t.conn j = s.conn j) ∧ s.Only [.stk, .xpt] t)

/-- REGION_REGISTER, REGION_REVOKE, REGION_REVOKE_COMPLETE, REVOKE_ABANDON_TIMEOUT, XQ_CREATE, XQ_DESTROY, CONN_QUERY, ATOMIC_QUERY, COLLECTOR_CREATE, COLLECTIVE_CREATE, GROUP_DESTROY
(R384, R394 to R398, R404, R414, R415, R453). The model's choices: log entries 33, 62, 63. -/
def Obligations.TransportCommands : Prop :=
  (∀ (s s1 : State) (h : Header) (r : ReplyTo) (base length perms : Nat) (draw : BitVec 48) (rsv : Nat), s.Serves ⟨0x0500, 1, true, true, 24, rsv, 0, false⟩ h false r s1 →
    perms < 8 → base % 65536 = 0 → length % 65536 = 0 → 0 < length → length ≤ 2 ^ 40 →
    (∀ i, i < length / 65536 → (s1.mappedPage h.part.val (base + i * 65536)).isSome = true) → s1.xpt.regions.length < 65536 →
    ∃ t i, exec (.regionRegister h base length perms 0 draw rsv) s = .next t ∧ afind s1.xpt.regions i = none ∧
      t.xpt.regions = aput s1.xpt.regions i ⟨draw, h.part, base, length, bitAt perms 0, bitAt perms 1, bitAt perms 2, some h.tenant, false, none, []⟩ ∧ t.xpt.winMap = s1.xpt.winMap ∧
      t = State.answer { s1 with xpt := t.xpt } r .ok true (leBytes 8 (i * 2 ^ 48 + draw.toNat)) ∧ s.Only [.bar, .stk, .xpt, .cmd, .host, .out] t) ∧
  (∀ (s s1 : State) (h : Header) (r : ReplyTo) (base length perms flags : Nat) (draw : BitVec 48) (rsv : Nat), s.Serves ⟨0x0500, 1, true, true, 24, rsv, 0, false⟩ h false r s1 →
    base % 65536 ≠ 0 ∨ length = 0 ∨ 2 ^ 40 < length ∨ 8 ≤ perms → exec (.regionRegister h base length perms flags draw rsv) s = .next (s1.done r .badField)) ∧
  (∀ (s s1 : State) (h : Header) (r : ReplyTo) (key : BitVec 64) (g : Region), s.Serves ⟨0x0501, 2, true, false, 8, 0, 0, false⟩ h false r s1 →
    afind s1.xpt.regions (keyIndex key) = some g → g.draw.toNat = key.toNat % 2 ^ 48 → h.owns g.part = true →
    ∃ t, exec (.regionRevoke h key) s = .next t ∧
      afind t.xpt.regions (keyIndex key) = some { g with revoking := some (g.revoking.getD s1.stk.time), replies := g.replies ++ [{ r with left := r.left - 1 }] } ∧
      s.Only [.bar, .stk, .xpt, .cmd, .host, .out] t) ∧
  (∀ (s s1 : State) (h : Header) (r : ReplyTo) (key : BitVec 64), s.Serves ⟨0x0501, 2, true, false, 8, 0, 0, false⟩ h false r s1 →
    afind s1.xpt.regions (keyIndex key) = none → exec (.regionRevoke h key) s = .next (s1.done r .alreadyDone)) ∧
  (∀ (s : State) (index : Nat) (g : Region), afind s.xpt.regions index = some g → g.revoking.isSome = true → (∀ e ∈ s.xpt.stitch, e.holds index = false) →
    ∃ t, exec (.regionRevokeComplete index) s = .next t ∧ afind t.xpt.regions index = none ∧ (∀ q ∈ t.xpt.winMap, q.2 ≠ index) ∧
      s.Only [.bar, .xpt, .cmd, .host, .out] t) ∧
  (∀ (s : State) (index now t0 : Nat) (g : Region), afind s.xpt.regions index = some g → g.revoking = some t0 → t0 + 1000000 ≤ now →
    ∃ t, exec (.revokeAbandonTimeout index now) s = .next t ∧ afind t.xpt.regions index = none ∧ (∀ q ∈ t.xpt.winMap, q.2 ≠ index) ∧
      (s.xpt.stitch = [] → s.Only [.bar, .stk, .xpt, .cmd, .host, .out] t) ∧
      s.Only [.bar, .stk, .cores, .pln, .memory, .xpt, .cmd, .host, .out, .freeCtr] t) ∧
  (∀ (s s1 : State) (h : Header) (r : ReplyTo) (entries ring rsv : Nat), s.Serves ⟨0x0503, 1, true, true, 16, rsv, 0, false⟩ h false r s1 →
    isPow2 16 65536 entries = true → ring % 64 = 0 → s1.xpt.queues.length < 16384 →
    ∃ t q, exec (.xqCreate h entries ring rsv) s = .next t ∧ afind s1.xpt.queues q = none ∧
      t.xpt.queues = aput s1.xpt.queues q { part := h.part, tenant := h.tenant, ring := ring, entries := entries, next := 0, phase := true, open_ := [], parked := [], destroying := [] } ∧
      t = State.answer { s1 with xpt := t.xpt } r .ok true (leBytes 2 q)) ∧
  (∀ (s s1 : State) (h : Header) (r : ReplyTo) (queue rsv : Nat) (x : XQueue), s.Serves ⟨0x0504, 2, true, false, 4, rsv, 0, false⟩ h false r s1 →
    afind s1.xpt.queues queue = some x → h.owns x.part = true →
    ∃ t, exec (.xqDestroy h queue rsv) s = .next t ∧ (x.open_ = [] → afind t.xpt.queues queue = none) ∧
      (x.open_ ≠ [] → afind t.xpt.queues queue = some { x with destroying := x.destroying ++ [{ r with left := r.left - 1 }] }) ∧
      s.Only [.bar, .stk, .xpt, .cmd, .host, .out] t) ∧
  (∀ (s s1 : State) (h : Header) (r : ReplyTo) (conn : Nat) (outAddr : BitVec 64) (rsv : Nat) (c : Conn), s.Serves ⟨0x0505, 1, true, false, 16, rsv, outAddr.toNat, false⟩ h false r s1 →
    conn < s1.fld Reg.xptConnCfg 20 0 → s1.conn conn = some c → h.origin.partition = none →
    exec (.connQuery h conn outAddr rsv) s = .next ((s1.writeAddr h.origin outAddr.toNat (c.bytes conn)).done r .ok) ∧ (c.bytes conn).length = 256) ∧
  (∀ (s s1 : State) (h : Header) (r : ReplyTo) (dev : DeviceId) (handle : BitVec 64) (rsv tag : Nat), s.Serves ⟨0x0506, 1, true, false, 16, rsv, 0, false⟩ h false r s1 →
    dev.toNat < 2 ^ 14 → harness dev ≠ harness s1.me → dev ∉ s1.lnk.lost → s1.freeTag = some tag →
    ∃ t, exec (.atomicQuery h dev handle rsv) s = .next t ∧ t.xpt = { s1.xpt with queries := aput s1.xpt.queries tag (dev, r) } ∧
      s.Only [.bar, .stk, .lnk, .xpt, .shp, .cmd, .host, .out] t) ∧
  (∀ (s s1 : State) (h : Header) (r : ReplyTo) (collector bit n : Nat) (cls : Fin 8) (rsv : Nat), s.Serves ⟨0x0507, 1, true, false, 8, rsv, 0, false⟩ h false r s1 →
    collector < 4096 → bit < 16384 → 1 ≤ n → n ≤ 16384 → afind s1.xpt.collectors (groupKey h.part.val collector) = none →
    exec (.collectorCreate h collector bit n cls.val rsv) s = .next (State.done
      { s1 with xpt := { s1.xpt with collectors := aput s1.xpt.collectors (groupKey h.part.val collector) { part := h.part, bit := bit, n := n, cls := cls, slots := [] } } } r .ok)) ∧
  (∀ (s s1 : State) (h : Header) (r : ReplyTo) (group : Nat) (ranks : List DevPart) (rsv : Nat), s.Serves ⟨0x0508, 1, true, false, 8 + 4 * ranks.length, rsv, 0, false⟩ h false r s1 →
    ranks ≠ [] → ranks.length ≤ 4096 → (∀ d ∈ ranks, d.dev.toNat < 2 ^ 14) → group < 65536 → afind s1.xpt.groups (groupKey h.part.val group) = none →
    ∃ t, exec (.collectiveCreate h group 1 9 ranks rsv) s = .next t ∧
      t.xpt.groups = aput s1.xpt.groups (groupKey h.part.val group) ⟨h.part, 1, 9, ranks, 0, [], []⟩ ∧ t = State.done { s1 with xpt := t.xpt } r .ok) ∧
  (∀ (s s1 : State) (h : Header) (r : ReplyTo) (id rsv : Nat), s.Serves ⟨0x0509, 1, true, false, 4, rsv, 0, false⟩ h false r s1 →
    ∃ t, exec (.groupDestroy h 0 id rsv) s = .next t ∧ afind t.xpt.collectors (groupKey h.part.val id) = none ∧ t.xpt.groups = s1.xpt.groups ∧
      (afind s1.xpt.collectors (groupKey h.part.val id) = none → t = s1.done r .alreadyDone))

/-- XQ_ENTRY, XQ_COMPLETION, HARNESS_WINDOW_ACCESS (R398, R399, R405, R409): an entry is taken where its OWN byte holds the phase, and the queue then moves on, its phase flipping at the
wrap; an entry with a wrong OP completes with its status before any packet; a done operation leaves its queue and gives its tag back; an unserved window access is refused,
an access that takes a tag is an operation on the home's connection, and one of the device's own member is served here; so is an entry whose destination is this device.
The model's choices: log entries 60, 61, 62, 137. -/
def Obligations.QueueEntries : Prop :=
  (∀ (s s2 : State) (queue now tag : Nat) (x : XQueue) (l : List Byte) (st : Status), afind s.xpt.queues queue = some x → s.xpt.ready = true → x.destroying = [] → x.parked = [] →
    (s.part x.part.val).state = .ready → (s.at_ now).readVa x.part.val .thread (x.entryVa x.next) 64 = (s2, .ok l) →
    ((XDesc.ofBytes l).own ≠ b2n x.phase → exec (.xqEntry queue now) s = .next s2) ∧
    ((XDesc.ofBytes l).own = b2n x.phase → (XDesc.ofBytes l).fence = false → s2.freeTag = some tag → (XDesc.ofBytes l).check = some st →
      ∃ t o, exec (.xqEntry queue now) s = .next t ∧ afind t.xpt.ops tag = some o ∧ o.done = true ∧ o.status = st ∧ o.origin = .queue queue x.next ∧
        afind t.xpt.queues queue = some { x with open_ := x.open_ ++ [x.next], next := (x.next + 1) % x.entries, phase := if x.next + 1 = x.entries then !x.phase else x.phase } ∧
        s.Only [.stk, .memory, .xpt, .freeCtr] t) ∧
    (∀ (s3 : State) (parts : List (Nat × Nat)), (XDesc.ofBytes l).own = b2n x.phase → (XDesc.ofBytes l).fence = false → s2.freeTag = some tag → (XDesc.ofBytes l).check = none →
      (XDesc.ofBytes l).op = 1 → s2.xlateRange x.part.val .thread .read (XDesc.ofBytes l).laddr (XDesc.ofBytes l).len = (s3, .ok parts) →
      (s3.partsPoisoned parts = true → exec (.xqEntry queue now) s = .next (s3.entryEnds queue tag ((XDesc.ofBytes l).op_ queue x.next x) .dataCorrupt)) ∧
      (s3.partsPoisoned parts = false → exec (.xqEntry queue now) s =
        .next ((s3.readParts (partFn x.part.val) parts).1.entryIssue queue tag (XDesc.ofBytes l)
          { (XDesc.ofBytes l).op_ queue x.next x with data := (s3.readParts (partFn x.part.val) parts).2 } x)) ∧
      (∀ (s4 s5 : State) (d : XDesc) (i : Nat) (g : Region), d = XDesc.ofBytes l → s3.partsPoisoned parts = false → BitVec.ofNat 16 d.dest = s.me →
        s4 = (s3.readParts (partFn x.part.val) parts).1 →
        s4.regionCheck ⟨d.dpart % 16, Nat.mod_lt _ (by decide)⟩ (BitVec.ofNat 64 d.key) x.tenant .write d.raddr d.len false = .ok (i, g) →
        s4.writeVa g.part.val .thread (g.base + d.raddr) (s3.readParts (partFn x.part.val) parts).2 = (s5, .ok ()) →
        ∃ t o, exec (.xqEntry queue now) s = .next t ∧ t.memory = s5.memory ∧ t.lnk = s.lnk ∧ afind t.xpt.ops tag = some o ∧ o.done = true ∧ o.status = .ok ∧
          o.origin = .queue queue x.next))) ∧
  (∀ (s s1 : State) (tag : BitVec 16) (o : XOp) (q i : Nat) (x : XQueue), afind s.xpt.ops tag.toNat = some o → o.origin = .queue q i → o.done = true → o.issued = false →
    afind s.xpt.queues q = some x → x.parked = [] → x.destroying = [] → s.writeVa x.part.val .thread o.laddr o.fetched = (s1, .ok ()) →
    ∃ t, exec (.xqCompletion tag) s = .next t ∧ afind t.xpt.ops tag.toNat = none ∧ afind t.xpt.queues q = some { x with open_ := x.open_.erase i } ∧
      (∀ b, o.cv = some b → x.part.val < s.pln.parts.length → b ∈ (t.part x.part.val).cv) ∧ s.Only [.bar, .cores, .pln, .memory, .lnk, .xpt, .shp, .host, .out, .freeCtr] t) ∧
  (∀ (s : State) (part : Fin 16) (tenant : BitVec 16) (origin : XOrigin) (addr now m a : Nat), s.memory.target addr = .window m a → m ≠ member s.me → s.xpt.ready = true →
    ∀ lr, exec (.harnessWindowAccess part tenant origin (.unserved lr) addr now) s = .next ((s.at_ now).accessRefused origin addr lr)) ∧
  (∀ (s s2 : State) (part : Fin 16) (tenant : BitVec 16) (core unit seq addr now m a len tag k : Nat), s.memory.target addr = .window m a → m ≠ member s.me → s.xpt.ready = true →
    8 ≤ len → windowShape a len = true → s.freeTag = some tag →
    (s.at_ now).connFor false part (BitVec.ofNat 16 (s.me.toNat / 32 * 32 + m)) part ⟨s.fld (Reg.xptPCfg part.val) 2 0 % 8, Nat.mod_lt _ (by decide)⟩ = some (s2, k) →
    ∃ t o, exec (.harnessWindowAccess part tenant (.engine core unit seq) (.load len) addr now) s = .next t ∧ afind t.xpt.ops tag = some o ∧ o.kind = .load ∧ o.raddr = a ∧
      o.len = len ∧ o.tenant = tenant ∧ o.conn = k ∧ s.Only [.bar, .stk, .lnk, .xpt, .shp, .freeCtr] t) ∧
  (∀ (s : State) (part : Fin 16) (tenant : BitVec 16) (core th rd addr now a len : Nat) (signed : Bool), s.memory.target addr = .window (member s.me) a → s.xpt.ready = true →
    8 ≤ len → windowShape a len = true → s.windowCheck tenant .read a len = .ok () → s.memory.poisoned a len = false →
    ∃ t, exec (.harnessWindowAccess part tenant (.thread core th rd len signed) (.load len) addr now) s = .next t ∧
      (t.thread (threadKey core th)).x = ((s.thread (threadKey core th)).setX rd (loadValue (memRead s.memory.mem a len) len signed)).x ∧
      (∀ j, j ≠ threadKey core th → t.thread j = s.thread j) ∧ t.memory = s.memory ∧ t.xpt = s.xpt ∧ s.Only [.stk, .cores] t)

/-! ### Shaping (chapter 13) -/

/-- GATE_BANK_SWAP, GATE_BANK_ACTIVATE, GATE_ENTRY_CHANGE, HIST_CLEAR, HIST_SAMPLE (R429, R432): a swap waits for the first multiple of the other bank's cycle at least 1 µs
ahead and is dropped while one waits or the bank is empty; at its instant the banks change; a CLEAR waits for the next sample, and a frozen histogram takes none. -/
def Obligations.GatesAndHistograms : Prop :=
  (∀ (s : State) (v : Word), s.present = true → s.sec.run ≠ .recovery → s.shp.swapAt = none → s.shp.bank ≤ 1 → v.toNat % 8 = s.fld Reg.shpCtrl 2 0 →
    1 ≤ s.fld (Reg.shpGateLen (1 - s.shp.bank)) 8 0 → s.fld (Reg.shpGateLen (1 - s.shp.bank)) 8 0 ≤ 256 → s.stk.running = true →
    ∃ t, exec (.gateBankSwap v) s = .next t ∧
      t.shp.swapAt = some (roundUp (s.stk.time + 1000) (max 1 (s.gateCycle (1 - s.shp.bank)))) ∧ t.shp.bank = s.shp.bank ∧ t.bar.regs = s.bar.regs ∧ s.Only [.shp] t) ∧
  (∀ (s : State) (v : Word), s.present = true → s.sec.run ≠ .recovery → s.shp.swapAt.isSome = true → v.toNat % 8 = s.fld Reg.shpCtrl 2 0 → s.stk.running = true →
    exec (.gateBankSwap v) s = .next (s.droppedNote Reg.shpCtrl)) ∧
  (∀ (s : State) (now at_ : Nat), s.shp.swapAt = some at_ →
    ∃ t, exec (.gateBankActivate now) s = .next t ∧
      (if now < at_ then t.shp = s.shp else t.shp.bank = 1 - s.shp.bank ∧ t.shp.swapAt = none) ∧ s.Only [.stk, .shp] t) ∧
  (∀ (s : State) (now : Nat), exec (.gateEntryChange now) s = .next { s.at_ now with shp := { s.shp with entry := (s.gateNow now).1 } }) ∧
  (∀ (s : State) (v : Word), s.present = true → s.sec.run ≠ .recovery → bitAt v.toNat 0 = s.flag Reg.shpHistCtrl 0 →
    exec (.histClear v) s = .next { s with shp := { s.shp with clear := true } }) ∧
  (∀ (s : State) (now : Nat), s.flag Reg.shpHistCtrl 0 = true → exec (.histSample now) s = .next (s.at_ now)) ∧
  (∀ (s : State) (now : Nat), s.flag Reg.shpHistCtrl 0 = false → s.shp.clear = true → s.lnk.ports = List.replicate 64 Port.reset →
    ∃ t, exec (.histSample now) s = .next t ∧ t.shp.clear = false ∧
      (∀ q c, q < 64 → c < 8 → t.reg (Reg.shpHDepth q c 0) = 1 ∧ t.reg (Reg.shpHDelay q c 0) = 0) ∧
      (∀ o, o < 0x01E10000 ∨ 0x01E30000 ≤ o → t.reg o = s.reg o) ∧ s.Only [.stk, .shp, .bar] t)

/-- POLICER_LEVEL_COVERS (R424): the packet at the head of a held queue stays while its bucket does not cover it; covered, its charge is taken and it leaves the queue. -/
def Obligations.Policer : Prop :=
  (∀ (s : State) (p : Fin 16) (c : Fin 8) (now : Nat) (k : Packet) (rest : List Packet),
    agetD s.shp.held (polKey p.val c.val) [] = k :: rest → (s.at_ now).covers p.val c.val k.flits = false →
    exec (.policerLevelCovers p c now) s = .next (s.at_ now)) ∧
  (∀ (s : State) (p : Fin 16) (c : Fin 8) (now : Nat) (k : Packet) (rest : List Packet),
    agetD s.shp.held (polKey p.val c.val) [] = k :: rest → (s.at_ now).covers p.val c.val k.flits = true → (s.at_ now).policed p.val c.val = true →
    ∃ t, exec (.policerLevelCovers p c now) s = .next t ∧ agetD t.shp.held (polKey p.val c.val) [] = rest ∧
      afind t.shp.buckets (polKey p.val c.val) = some { level := (s.at_ now).bucket p.val c.val - 64 * k.flits * 800, at_ := max s.stk.time now } ∧
      64 * k.flits * 800 ≤ (s.at_ now).bucket p.val c.val ∧
      (∀ j, j ≠ polKey p.val c.val → afind t.shp.held j = afind s.shp.held j ∧ afind t.shp.buckets j = afind s.shp.buckets j) ∧
      s.Only [.stk, .shp, .lnk, .bar] t)

/-! ### Command packets (chapter 14) -/

/-- What taking a packet from a window of PF0 does (R444, R445, R458): CONS moves past it, rounded up to 64 bytes, TAKEN and CMD_CNT_TAKEN count it, and room for its replies is
kept in its reply ring; and what answering does: the record enters that ring and the room is given back. NOP shows the first, DEVICE_QUERY both; nothing but the clock, the
windows, rings and outputs, host memory and that counter changes.
The reply of DEVICE_QUERY (R453, R458): its record says OK and FINAL, carries the packet's tag, and its RESULT begins with GLB_IDENT, GLB_VERSION, GLB_DEVICE_ID and GLB_CAP as they
read, the stroke and the time. The model's choices: log entries 6, 16. -/
def Obligations.PacketTakenAndAnswered : Prop :=
  (∀ (s : State) (h : Header) (w : Fin 32) (g : Ring), h.origin = .window w → s.takes w.val = true → badLength (s.window w.val).cons h.length = false →
    afind s.cmd.rings (windowRing w.val) = some g → g.room (s.window w.val).resv = true → (h.fence = true → (s.window w.val).resv = 0) →
    ∃ t, exec (.nop h) s = .next t ∧ (t.window w.val).cons = nextCons (s.window w.val).cons h.length ∧ (t.window w.val).taken = (s.window w.val).taken + 1 ∧
      (t.window w.val).resv = (s.window w.val).resv ∧ t.reg Reg.cmdCntTaken = min 0xFFFFFFFF (s.reg Reg.cmdCntTaken + 1) ∧ t.cmd.rings = s.cmd.rings ∧
      (∀ x, x ≠ w.val → t.window x = s.window x) ∧ s.Only [.stk, .cmd, .bar] t) ∧
  (∀ (s : State) (h : Header) (w : Fin 32) (g : Ring), h.origin = .window w → w.val < 16 → s.takes w.val = true → badLength (s.window w.val).cons h.length = false → h.length = 32 →
    h.hrsv = 0 → h.destDev = 0xFFFF → afind s.cmd.rings (windowRing w.val) = some g → g.room ((s.window w.val).resv + 1) = true → g.backlog = [] →
    (h.fence = true → (s.window w.val).resv = 0) → s.cmd.held = [] → s.sec.activating = none →
    ∃ t, exec (.deviceQuery h) s = .next t ∧ (t.window w.val).cons = nextCons (s.window w.val).cons 32 ∧ (t.window w.val).resv = (s.window w.val).resv ∧
      (∃ g2, afind t.cmd.rings (windowRing w.val) = some g2 ∧ g2.prod = g.prod + 1 ∧ g2.backlog = [] ∧ g2.entries = g.entries) ∧
      s.Only [.stk, .cmd, .bar, .host, .out] t) ∧
  (∀ (s s1 : State) (h : Header) (r : ReplyTo), s.Serves ⟨0x0001, 1, true, false, 0, 0, 0, false⟩ h false r s1 →
    exec (.deviceQuery h) s = .next (s1.answer r .ok true (leBytes 4 (s1.look Reg.glbIdent) ++ leBytes 4 (s1.look Reg.glbVersion) ++
      leBytes 4 (s1.look Reg.glbDeviceId) ++ leBytes 4 (s1.look Reg.glbCap) ++ leBytes 8 (if s.stk.running then s.stk.stroke else 0) ++ leBytes 8 (max s.stk.time h.now))))

/-- WINDOW_BAD_LENGTH, PACKET_CHECK_MISMATCH, UNDEFINED_OPCODE, WINDOW_RESET (R445, R446, R448, R452): a malformed LENGTH stops the window at its offset; a bad CHECK releases the
packet's bytes, counted and not taken; an opcode absent from R453 is answered BAD_OPCODE; a RESET of a window in ERROR enables it from offset 0, and of any other changes nothing. The model's choices: log entry 117. -/
def Obligations.WindowErrors : Prop :=
  (∀ (s : State) (w : Fin 32) (op : Nat) (tag : Word) (len : Nat), s.takes w.val = true → badLength (s.window w.val).cons len = true → s.cmd.windows.length = 32 →
    ∃ t, exec (.windowBadLength w op tag len) s = .next t ∧
      t.window w.val = { s.window w.val with state := .error, errOffset := (s.window w.val).cons, errCode := Status.badLength.code } ∧
      (∀ x, x ≠ w.val → t.window x = s.window x) ∧ s.Only [.cmd, .host, .out] t) ∧
  (∀ (s : State) (h : Header) (w : Fin 32) (op : Nat) (g : Ring), h.origin = .window w → s.takes w.val = true → badLength (s.window w.val).cons h.length = false →
    afind s.cmd.rings (windowRing w.val) = some g → g.room ((s.window w.val).resv + 1) = true →
    ∃ t, exec (.packetCheckMismatch h op) s = .next t ∧ t.window w.val = { s.window w.val with cons := nextCons (s.window w.val).cons h.length } ∧
      t.reg Reg.cmdCntCheck = min 0xFFFFFFFF (s.reg Reg.cmdCntCheck + 1) ∧ t.reg Reg.cmdCntTaken = s.reg Reg.cmdCntTaken ∧ s.Only [.stk, .cmd, .bar, .host, .out] t) ∧
  (∀ (s s1 : State) (h : Header) (r : ReplyTo) (op : Nat), opcodeKnown op = false → s.take h op 1 false = (s1, some r) → s.blt.l3 = false → s.sec.run ≠ .stopped →
    exec (.undefinedOpcode h op) s = .next (s1.done r .badOpcode)) ∧
  (∀ (s : State) (w : Fin 32), (s.window w.val).state = .error →
    exec (.windowReset w false 1) s = .next (s.modWindow w.val fun x => { x with state := .enabled, cons := 0, errOffset := 0, errCode := 0 })) ∧
  (∀ (s : State) (w : Fin 32) (v : Word), (s.window w.val).state ≠ .error ∨ v ≠ 1 → exec (.windowReset w false v) s = .next s) ∧
  (∀ (s : State) (w : Fin 32) (v : Word), s.present = true → s.sec.run ≠ .recovery → (s.window w.val).state = .error →
    exec (.windowReset w true v) s = .next (s.modWindow w.val fun x => { x with state := .enabled, cons := 0, errOffset := 0, errCode := 0 }))

/-- RING_CREATE, RING_DESTROY (R455): a ring begins empty at PROD 0 where its fields are legal and it does not exist yet, and goes when it is destroyed; every other ring stands.
RING_SPACE_POLL, MSIX_DELAY_EXPIRY (R456, R457, R460): records that waited go into the space that CONS leaves, in order, as far as it reaches; a delay that ends signals
the unsignalled records once. The model's choices: log entries 16, 116. -/
def Obligations.RingsCreatedAndServed : Prop :=
  (∀ (s s1 : State) (h : Header) (r : ReplyTo) (entries : Nat) (base ctrl : BitVec 64) (rsv : Nat),
    s.Serves ⟨0x0002, 1, true, false, 32, rsv, 0, true⟩ h false r s1 → isPow2 64 65536 entries = true → base.toNat % 4096 = 0 → ctrl.toNat % 64 = 0 →
    afind s1.cmd.rings (ringKey h.origin.fnOf .event 0) = none →
    ∃ t, exec (.ringCreate h 1 0 0 entries base ctrl 0xFFFF 1 0 rsv) s = .next t ∧
      afind t.cmd.rings (ringKey h.origin.fnOf .event 0) =
        some { entries := entries, base := base.toNat, ctrl := ctrl.toNat, vector := 0xFFFF, intRecords := 1, intDelay := 0, prod := 0, cons := 0, unsignalled := 0, backlog := [], lost := 0, seq := 0 } ∧
      t.sat = s.sat ∧ t.pln = s.pln ∧ t.blt = s.blt ∧ t.memory = s.memory) ∧
  (∀ (s s1 : State) (h : Header) (r : ReplyTo) (index rsv : Nat), s.Serves ⟨0x0003, 1, true, false, 4, rsv, 0, true⟩ h false r s1 → index < 4096 →
    (afind s1.cmd.rings (ringKey h.origin.fnOf .stream index)).isSome = true →
    ∃ t, exec (.ringDestroy h 2 index rsv) s = .next t ∧ afind t.cmd.rings (ringKey h.origin.fnOf .stream index) = none ∧ t.sat = s.sat ∧ t.pln = s.pln ∧ t.blt = s.blt) ∧
  (∀ (s s1 : State) (h : Header) (r : ReplyTo) (index rsv : Nat), s.Serves ⟨0x0003, 1, true, false, 4, rsv, 0, true⟩ h false r s1 → index < 4096 →
    afind s1.cmd.rings (ringKey h.origin.fnOf .stream index) = none → exec (.ringDestroy h 2 index rsv) s = .next (s1.done r .alreadyDone)) ∧
  (∀ (s : State) (fn : Fin 17) (i : Fin 4096) (cons : BitVec 32) (g : Ring) (rec_ : List Byte), afind s.cmd.rings (ringKey fn.val .reply i.val) = some g → g.backlog = [rec_] →
    g.lost = 0 → (g.prod - cons).toNat < g.entries → (s.fn fn.val).draining = false →
    ∃ t, exec (.ringSpacePoll fn .reply i cons) s = .next t ∧
      (∃ g2, afind t.cmd.rings (ringKey fn.val .reply i.val) = some g2 ∧ g2.cons = cons ∧ g2.prod = g.prod + 1 ∧ g2.backlog = []) ∧
      (∀ k, k ≠ ringKey fn.val .reply i.val → afind t.cmd.rings k = afind s.cmd.rings k) ∧ s.Only [.cmd, .host, .out] t) ∧
  (∀ (s : State) (fn : Fin 17) (k : RingKind) (i : Fin 4096) (cons : BitVec 32) (g : Ring), afind s.cmd.rings (ringKey fn.val k i.val) = some g → g.backlog = [] → g.lost = 0 →
    exec (.ringSpacePoll fn k i cons) s = .next { s with cmd := { s.cmd with rings := aput s.cmd.rings (ringKey fn.val k i.val) { g with cons := cons } } }) ∧
  (∀ (s : State) (fn : Fin 17) (k : RingKind) (i : Fin 4096) (g : Ring), afind s.cmd.rings (ringKey fn.val k i.val) = some g → g.unsignalled ≠ 0 → g.vector < 2048 →
    afind s.host.masked (fn.val * 2048 + g.vector) = none →
    ∃ t, exec (.msixDelayExpiry fn k i) s = .next t ∧ t.out = s.out ++ [.msix fn.val g.vector] ∧
      afind t.cmd.rings (ringKey fn.val k i.val) = some { g with unsignalled := 0 } ∧ s.Only [.cmd, .out] t)

/-- COMMAND and REMOTE_COMMAND_TIMEOUT (R462 to R464): a packet from another device under AUTH 0 is accepted and counted where CMD_TRUST covers its source, answered PROTECTION
and counted otherwise; a reply finds its slot or is dropped; a forwarded packet without its final reply is answered TIER_ERROR and its slot is free. The model's choices: log entries 29, 33. -/
def Obligations.FabricCommands : Prop :=
  (∀ (s : State) (e : Envelope) (op : Nat) (h : Header) (id : Option SatchelId) (record : List Byte), e.auth = 0 → s.pfTrusted e.src = true →
    ∃ t, exec (.command e op h id record) s = .next t ∧ t.reg Reg.cmdCntRemote = min 0xFFFFFFFF (s.reg Reg.cmdCntRemote + 1) ∧
      t.cmd.accepted = s.cmd.accepted ++ [{ origin := .fabric e.src false h.part e.win e.slot, opcode := op, tag := h.tag }] ∧ t.out = s.out ∧
      s.Only [.stk, .bar, .cmd] t) ∧
  (∀ (s : State) (e : Envelope) (op : Nat) (h : Header) (id : Option SatchelId) (record : List Byte), e.auth = 0 → s.pfTrusted e.src = false → registrarBound op h = false →
    ∃ t, exec (.command e op h id record) s = .next t ∧ t.reg Reg.cmdCntRefused = min 0xFFFFFFFF (s.reg Reg.cmdCntRefused + 1) ∧ t.cmd = s.cmd ∧
      t.out = s.out ++ [.remoteReply e.src e.win e.slot (replyRecord op .protection true true h.tag 0 s.me [])] ∧ s.Only [.stk, .bar, .out] t) ∧
  (∀ (s : State) (e : Envelope) (op : Nat) (h : Header) (id : Option SatchelId) (record : List Byte), e.auth = 2 → afind s.cmd.slots e.slot.toNat = none →
    exec (.command e op h id record) s = .next (s.at_ h.now)) ∧
  (∀ (s : State) (slot : Nat) (e : RemoteSlot), afind s.cmd.slots slot = some e →
    ∃ t, exec (.remoteCommandTimeout slot) s = .next t ∧ afind t.cmd.slots slot = none ∧ e.sentAt + max 1 (s.fld Reg.cmdCtrl 23 8) * 1000000 ≤ t.stk.time ∧
      t = State.done { s.at_ (e.sentAt + max 1 (s.fld Reg.cmdCtrl 23 8) * 1000000) with cmd := { s.cmd with slots := adel s.cmd.slots slot } } e.reply .tierError)

/-! ### The blotter (chapter 15) -/

/-- BLOTTER_MESSAGE (R471, R472, R481): a message whose source, kind and level no open entry has, from a unit with nothing waiting and with room in
the tables, is filed: the next SEQ, its 128 bits in the log at SEQ mod 1,024, a new open entry, and one more of its level counted; unacknowledged records and the state outside
the blotter, its registers, rings and outputs stand. -/
def Obligations.BlotterFiles : Prop :=
  ∀ (s : State) (f : FaultSpec), sourceListed f.source.toNat = true → agetD s.blt.outbox f.source.toNat [] = [] → f.level.val < 2 →
    (∀ e ∈ s.blt.entries, ¬ (e.source = f.source ∧ e.kind = f.kind ∧ e.level = f.level)) → s.blt.entries.length < 256 →
    ∃ t, exec (.blotterMessage f.source (some f)) s = .next t ∧
      t.blt.seq = s.blt.seq + 1 ∧
      afind t.blt.log ((s.blt.seq + 1).toNat % 1024) =
        some (Msg.word { fault := f, time := s.faultTime } f.level f.addr.toNat) ∧
      (∃ e, t.blt.entries = s.blt.entries ++ [e] ∧ e.source = f.source ∧ e.kind = f.kind ∧ e.level = f.level ∧
        e.escalated = false ∧ e.merged = 0 ∧ e.unacked = [s.blt.seq + 1] ∧ e.lastStroke = s.strokeNow) ∧
      t.reg (Reg.bltCntL f.level.val) = min 0xFFFFFFFF (s.reg (Reg.bltCntL f.level.val) + 1) ∧
      t.blt.unack = s.blt.unack ∧ t.blt.l3 = s.blt.l3 ∧ agetD t.blt.outbox f.source.toNat [] = [] ∧
      t.sat = s.sat ∧ t.kva = s.kva ∧ t.cores = s.cores ∧ t.pln = s.pln ∧ t.memory = s.memory ∧ t.fls = s.fls ∧ t.lnk = s.lnk ∧
      t.xpt = s.xpt ∧ t.shp = s.shp ∧ t.sec = s.sec ∧ t.pwr = s.pwr ∧ t.stk = s.stk

/-- BLOTTER_MESSAGE (R481): a repeat of an open entry that has not escalated is filed one level higher (a level 2 repeat only where
BLT_CTRL.ESC2 says so), counted in BLT_CNT_ESC; a repeat of one that has escalated is merged: no record, no SEQ, the entry's merge
count and BLT_CNT_MERGED go up by one. -/
def Obligations.BlotterEscalatesAndMerges : Prop :=
  (∀ (s : State) (f : FaultSpec) (e : BltEntry), sourceListed f.source.toNat = true → agetD s.blt.outbox f.source.toNat [] = [] →
    s.blt.entries.find? (fun x => x.source == f.source && x.kind == f.kind && x.level == f.level) = some e → e.escalated = false →
    f.level = 0 →
    ∃ t, exec (.blotterMessage f.source (some f)) s = .next t ∧ t.blt.seq = s.blt.seq + 1 ∧
      afind t.blt.log ((s.blt.seq + 1).toNat % 1024) = some (Msg.word { fault := f, time := s.faultTime } 1 f.addr.toNat) ∧
      t.reg (Reg.bltCntL 1) = min 0xFFFFFFFF (s.reg (Reg.bltCntL 1) + 1) ∧
      t.reg Reg.bltCntEsc = min 0xFFFFFFFF (s.reg Reg.bltCntEsc + 1) ∧ t.blt.entries.length = s.blt.entries.length) ∧
  (∀ (s : State) (f : FaultSpec) (e : BltEntry), sourceListed f.source.toNat = true → agetD s.blt.outbox f.source.toNat [] = [] →
    s.blt.entries.find? (fun x => x.source == f.source && x.kind == f.kind && x.level == f.level) = some e → e.escalated = true →
    ∃ t, exec (.blotterMessage f.source (some f)) s = .next t ∧ t.blt.seq = s.blt.seq ∧ t.blt.log = s.blt.log ∧
      t.blt.entries = s.blt.entries.map (fun x => if x = e then { x with merged := x.merged + 1 } else x) ∧
      t.reg Reg.bltCntMerged = min 0xFFFFFFFF (s.reg Reg.bltCntMerged + 1) ∧ t.cmd = s.cmd ∧ t.host = s.host ∧ t.out = s.out ∧ t.sat = s.sat ∧
      t.pln = s.pln ∧ t.memory = s.memory ∧ t.lnk = s.lnk ∧ t.sec = s.sec)

/-- FAULTN_PULSE_END, FAULTN_HOLD_WRITE, ENTRY_AGE_CLOSE (R481, R483): the pulse ends and nothing else changes; a write sets or releases HOLD, pulse or not;
an entry of posted level 0 or 1 closes once its age has passed, and no other.
FAULT_ACK (R482): by SEQ, or by SEQ and level; the named records are unacknowledged no more, every other record stands, and an entry
stays exactly while a record of it is unacknowledged; a FAULT_ACK that names nothing unacknowledged is answered ALREADY_DONE and changes no record. -/
def Obligations.FaultPinAndAcks : Prop :=
  (∀ s : State, exec .faultnPulseEnd s = .next { s with blt := { s.blt with pulse := false } }) ∧
  (∀ (s : State) (v : Word), s.present = true →
    ∃ t, exec (.faultnHoldWrite v) s = .next t ∧ t.flag Reg.bltFaultn 0 = v.getLsbD 0 ∧ t.blt = s.blt ∧
      (∀ o, o ≠ Reg.bltFaultn → t.reg o = s.reg o) ∧ t.cmd = s.cmd ∧ t.pln = s.pln ∧ t.sec = s.sec) ∧
  (∀ (s : State) (source kind : BitVec 12) (level : Fin 4), ∃ t, exec (.entryAgeClose source kind level) s = .next t ∧
    (∀ e ∈ s.blt.entries, e.source = source → e.kind = kind → e.level = level →
      (e ∈ t.blt.entries ↔ ¬ ((level = 0 ∧ s.fld Reg.bltCfg 11 0 ≠ 0 ∧ e.lastStroke + s.fld Reg.bltCfg 11 0 ≤ s.strokeNow) ∨
        (level = 1 ∧ s.fld Reg.bltCfg 23 12 ≠ 0 ∧ e.lastStroke + s.fld Reg.bltCfg 23 12 ≤ s.strokeNow)))) ∧
    (∀ e, ¬ (e.source = source ∧ e.kind = kind ∧ e.level = level) → (e ∈ t.blt.entries ↔ e ∈ s.blt.entries)) ∧
    t.bar = s.bar ∧ t.blt.unack = s.blt.unack ∧ t.blt.seq = s.blt.seq ∧ t.cmd = s.cmd) ∧
  (∀ (s s1 : State) (h : Header) (r : ReplyTo) (mode levels : Nat) (seq : BitVec 32) (rsv : Nat),
    mode < 2 → s.Serves ⟨0x0801, 1, false, false, 8, rsv + levels / 16, 0, false⟩ h false r s1 →
    ∃ t, exec (.faultAck h mode levels seq rsv) s = .next t ∧
      (s.blt.named mode levels seq ≠ [] → t = (State.done { s1 with blt := s1.blt.ack (s.blt.named mode levels seq) } r .ok)) ∧
      (s.blt.named mode levels seq = [] → t = s1.done r .alreadyDone) ∧
      (∀ u ∈ t.blt.unack, u ∈ s.blt.unack ∧
        ¬ (if mode = 0 then u.seq = seq else serialLe 32 u.seq.toNat seq.toNat = true ∧ bitAt levels u.level.val = true)) ∧
      (∀ u ∈ s.blt.unack, u.seq ∉ s.blt.named mode levels seq → u ∈ t.blt.unack) ∧
      t.blt.log = s.blt.log ∧ t.blt.seq = s.blt.seq ∧ t.blt.l3 = s.blt.l3 ∧ t.sat = s.sat ∧ t.pln = s.pln ∧ t.lnk = s.lnk ∧ t.memory = s.memory)

/-- BLOTTER_MESSAGE (R478, R510): the first record of level 3 discards every provisional token, holds the flash, completes each
engine command in progress with DEVICE_FAULT, leaves no fabric port UP or TRAINING and makes the run state FAULT. -/
def Obligations.Level3Reaction : Prop :=
  ∀ (s : State) (f : FaultSpec), sourceListed f.source.toNat = true → agetD s.blt.outbox f.source.toNat [] = [] → f.level = 3 →
    (∀ e ∈ s.blt.entries, ¬ (e.source = f.source ∧ e.kind = f.kind ∧ e.level = f.level)) → s.blt.unack.length < 4096 → s.blt.l3 = false →
    s.sec.run ≠ .boot → s.sec.run ≠ .recovery → s.lnk.ports.length = 64 →
    ∃ t, exec (.blotterMessage f.source (some f)) s = .next t ∧ t.blt.l3 = true ∧ t.sec.run = .fault ∧ t.fls.hold = true ∧
      t.flag Reg.bltFaultn 0 = true ∧ t.blt.pulse = true ∧ t.blt.seq = s.blt.seq + 1 ∧
      (∀ e ∈ t.sat.sats, e.2.prov = none) ∧ t.sat.recs = s.sat.recs ∧ t.sat.live = s.sat.live ∧
      (∀ e ∈ t.cores.queues, ∀ c ∈ e.2, c.result ≠ none) ∧
      (∀ p ∈ t.lnk.ports, p.state ≠ .up ∧ p.state ≠ .training) ∧ t.pln = s.pln ∧ t.memory = s.memory ∧ t.kva = s.kva

/-! ### Host attachment, start-up, security, firmware and shut-down (chapter 16) -/

/-- FLR_VF, FLR_PF0, FLR_DRAIN_COMPLETE, FLR_SWAP_TIMEOUT, VF_ENABLE and BAR4_ACCESS (R133, R491, R492, R494 to R497): a reset drains the function and its window, and one of PF0
every virtual function; at the end of the drain its rings go, a latched enable takes effect, and a window whose condition holds starts again at 0; an enable of a draining
function is latched; an access to T1 reaches its bytes, and one without backing memory reads zero and is noted. The model's choices: log entries 100, 101, 102. -/
def Obligations.FunctionResets : Prop :=
  (∀ (s : State) (p : Fin 16), s.shapeOk = true → s.present = true → (s.fn (p.val + 1)).enabled = true → (s.fn (p.val + 1)).draining = false →
    ∃ t, exec (.flrVf p) s = .next t ∧ t.fn (p.val + 1) = ⟨true, true, false⟩ ∧ (∀ k, k ≠ p.val + 1 → t.fn k = s.fn k) ∧
      ((s.window (16 + p.val)).state = .enabled ∨ (s.window (16 + p.val)).state = .error → (t.window (16 + p.val)).state = .draining) ∧
      s.Only [.bar, .sat, .kva, .cores, .pln, .memory, .fls, .lnk, .xpt, .shp, .cmd, .blt, .sec, .host, .out, .freeCtr] t) ∧
  (∀ s : State, s.shapeOk = true → s.present = true → (s.fn 0).draining = false →
    ∃ t, exec .flrPf0 s = .next t ∧ t.fn 0 = { s.fn 0 with draining := true, pend := false } ∧
      (∀ k, 1 ≤ k → k < 17 → (t.fn k).enabled = false ∧ (t.fn k).pend = false ∧ (t.fn k).draining = ((s.fn k).draining || (s.fn k).enabled)) ∧
      (∀ w, w < 16 → (s.window w).state = .enabled ∨ (s.window w).state = .error → (t.window w).state = .draining) ∧
      s.Only [.bar, .sat, .kva, .cores, .pln, .memory, .fls, .lnk, .xpt, .shp, .cmd, .blt, .sec, .host, .out, .freeCtr] t) ∧
  (∀ (s : State) (k : Fin 17), s.shapeOk = true → (s.fn k.val).draining = true → k = 0 ∨ s.hostReturners (k.val - 1) = [] →
    ∃ t, exec (.flrDrainComplete k) s = .next t ∧ t.fn k.val = ⟨(s.fn k.val).enabled || (s.fn k.val).pend, false, false⟩ ∧
      (∀ j, j ≠ k.val → t.fn j = s.fn j) ∧ t.ringsOf k.val = [] ∧
      (∀ i, ringFn i ≠ k.val → afind t.cmd.rings i = afind s.cmd.rings i) ∧
      (∀ w, w ∈ fnWindows k.val → (s.window w).state = .draining →
        t.window w = { s.window w with state := (t.window w).state, cons := 0, errOffset := 0, errCode := 0, resv := 0, pend := false } ∧
          (t.window w).state = (if t.windowWanted w then .enabled else .disabled)) ∧
      (∀ w, w ∉ fnWindows k.val → t.window w = s.window w) ∧ s.Only [.bar, .cmd, .host] t) ∧
  (∀ (s : State) (k : Fin 17), (s.fn k.val).draining = true → k ≠ 0 → s.hostReturners (k.val - 1) ≠ [] → exec (.flrDrainComplete k) s = .next s) ∧
  (∀ (s : State) (id : SatchelId) (row slot : Nat) (x : Sat) (r : Row), s.findSlot id = some slot → s.satAt slot = some x → x.rows[row]? = some r →
    r.kind = .swapHost → (s.fn (partFn x.part.val)).draining = true →
    (x.noSubst = true → exec (.flrSwapTimeout id row) s = .next (s.endWith slot .tierError)) ∧
    (x.noSubst = false → x.state = .ready →
      ∃ t y, exec (.flrSwapTimeout id row) s = .next t ∧ t.satAt slot = some y ∧ y.state = .prefill ∧ y.kvPos = 0 ∧ y.rows = [] ∧ y.recovered = true ∧ y.log = x.log ∧
        s.Only [.bar, .sat, .kva, .pln, .fls, .cmd, .host, .out] t)) ∧
  (∀ (s : State) (n : Nat), s.shapeOk = true → s.present = true → (∀ k, 1 ≤ k → k < 17 → (s.fn k).enabled = false ∧ (s.fn k).pend = false) →
    ∃ t, exec (.vfEnable true n) s = .next t ∧
      (∀ k, 1 ≤ k → k < 17 → k ≤ n → (s.fn k).draining = true → t.fn k = { s.fn k with pend := true }) ∧
      (∀ k, 1 ≤ k → k < 17 → k ≤ n → (s.fn k).draining = false → t.fn k = { s.fn k with enabled := true }) ∧
      (∀ k, k = 0 ∨ n < k → t.fn k = s.fn k) ∧
      (∀ k, 1 ≤ k → k < 17 → k ≤ n → (s.fn k).draining = false → (s.window (15 + k)).state = .disabled → (s.part (k - 1)).state = .ready →
        (t.window (15 + k)).state = .enabled ∧ (t.window (15 + k)).cons = 0) ∧ s.Only [.cmd, .host] t) ∧
  (∀ (s : State) (n : Nat), s.shapeOk = true → s.present = true →
    ∃ t, exec (.vfEnable false n) s = .next t ∧ t.fn 0 = s.fn 0 ∧
      (∀ k, 1 ≤ k → k < 17 → (t.fn k).enabled = false ∧ (t.fn k).pend = false ∧ (t.fn k).draining = ((s.fn k).draining || (s.fn k).enabled)) ∧
      s.Only [.bar, .sat, .kva, .cores, .pln, .memory, .fls, .lnk, .xpt, .shp, .cmd, .blt, .sec, .host, .out, .freeCtr] t) ∧
  (∀ (s : State) (k : Fin 17) (upper : Bool) (off a n : Nat) (data : List Byte), s.present = true → s.sec.run ≠ .recovery → (s.fn k.val).enabled = true →
    (s.fn k.val).draining = false →
    (s.bar4Pa k.val upper .read off = some a → s.memory.target a = .t1 → 0 < n → off % 4096 + n ≤ 4096 → s.memory.poisoned a n = false →
      exec (.bar4Access k false upper off data n) s = .next (s.emit (.readData (memRead s.memory.mem a n)))) ∧
    (s.bar4Pa k.val upper .write off = some a → s.memory.target a = .t1 → 0 < data.length → off % 4096 + data.length ≤ 4096 →
      exec (.bar4Access k true upper off data n) s = .next (s.physWrite a data)) ∧
    (s.bar4Pa k.val upper .read off = none → 0 < n → off % 4096 + n ≤ 4096 →
      exec (.bar4Access k false upper off data n) s = .next ((s.emit (.readData (zeros n))).accessNote off)) ∧
    (s.bar4Pa k.val upper .write off = none → 0 < data.length → off % 4096 + data.length ≤ 4096 →
      exec (.bar4Access k true upper off data n) s = .next (s.accessNote off)) ∧
    (k = 0 → s.bar4Pa k.val upper .read off = if off < s.memory.usableGib * 2 ^ 30 then some off else none))

/-- COLD_RESET, WARM_RESET and BOOT (R9, R10, R31, R498, R502, R503, R509): a cold reset leaves every block as it is after power-on but for what the board, the fuses and the flash give; a
warm reset keeps the sticky fields and the log of the blotter as well, and opens debug where a valid token waits; a boot runs the first slot that passes, falls back to the other, and ends in
recovery where neither passes. The model's choices: log entries 2, 103. -/
def Obligations.ResetsAndBoot : Prop :=
  (∀ (s : State) (board : Board) (fuses : Fuses),
    ∃ t, exec (.coldReset board fuses) s = .next t ∧ t.board = board ∧ t.sec.run = .boot ∧ t.sec.fuses = s.sec.fuses.merge fuses ∧
      t.reg Reg.glbDeviceId % 32 = board.strap.toNat % 32 ∧ (∀ r, r ≠ Reg.glbDeviceId → afind t.bar.regs r = none) ∧
      (∀ l, board.flash = some l → t.sec.slots = [l.getD 0 none, l.getD 1 none]) ∧ (board.flash = none → t.sec.slots = s.sec.slots) ∧
      t.fls.data = s.fls.data ∧ t.host.mem = s.host.mem ∧ t.memory.mem = [] ∧ t.sec.keys = [] ∧ t.sec.debugOpen = false ∧
      State.reset.Only [.bar, .board, .fls, .sec, .host, .out, .freeCtr] { t with pending := [] } ∧
      t.out = s.out ∧ t.freeCtr = s.freeCtr ∧ t.pending = s.pending) ∧
  (∀ s : State, s.pwr.tripped = false → s.sec.debugPending = false →
    ∃ t, exec .warmReset s = .next t ∧ t.board = s.board ∧ t.sec.run = .boot ∧ t.sec.fuses = s.sec.fuses ∧ t.sec.slots = s.sec.slots ∧
      t.bar.regs = s.bar.regs.map (fun e => (e.1, keepWord e.1 e.2)) ∧ t.blt = { State.reset.blt with seq := s.blt.seq, log := s.blt.log } ∧
      agetD t.sec.meas 5 0 = agetD s.sec.meas 5 0 ∧ t.fls.data = s.fls.data ∧ t.host.mem = s.host.mem ∧ t.sec.keys = [] ∧
      State.reset.Only [.bar, .board, .blt, .fls, .sec, .host, .out, .freeCtr] { t with pending := [] } ∧
      t.out = s.out ∧ t.freeCtr = s.freeCtr ∧ t.pending = s.pending) ∧
  (∀ s : State, s.pwr.tripped = false → s.sec.debugPending = true →
    ∃ t, exec .warmReset s = .next t ∧ t.sec.debugOpen = true ∧ t.sec.debugPending = false ∧ t.sec.run = .boot ∧ t.sec.keys = [] ∧
      (∃ m, agetD t.blt.outbox 0x3F0 [] = [m] ∧ m.fault.level = 2 ∧ m.fault.kind = 0x901 ∧ m.fault.addr = 4) ∧
      State.reset.Only [.bar, .board, .blt, .fls, .sec, .host, .out, .freeCtr] { t with pending := [] }) ∧
  (∀ (s : State) (nonce : BitVec 128) (first : Bool) (im : Image), s.sec.run = .boot → s.pwr.tripped = false →
    first = (if s.sec.trial && s.sec.attempted then !s.sec.primaryB else s.sec.primaryB) →
    (s.sec.fuses.passes (s.sec.slot first) = true → s.sec.slot first = some im →
      ∃ t, exec (.boot nonce) s = .next t ∧ t.sec.run = .standby ∧ t.sec.running = some im ∧ t.sec.slotB = first ∧ t.sec.fallback = s.sec.fallback ∧
        t.sec.bootNonce = nonce ∧ t.sec.attempted = (s.sec.attempted || s.sec.trial) ∧ t.sec.fuses = s.sec.fuses ∧ t.sec.slots = s.sec.slots ∧
        agetD t.sec.meas 1 0 = Config.romDigest ∧ agetD t.sec.meas 2 0 = im.ofKind 1 ∧ agetD t.sec.meas 3 0 = im.ofKind 2 ∧
        t.sec.deviceSeed = Config.sha3 (leBytes 32 s.sec.fuses.secret.toNat ++ leBytes 64 Config.romDigest.toNat) ∧
        t.sec.aliasSeed = Config.sha3 (leBytes 64 t.sec.deviceSeed.toNat ++ leBytes 64 (im.ofKind 1).toNat) ∧
        t.sec.aliasCert = Config.aliasCertificate (keysOf t.sec.deviceSeed).1 (keysOf t.sec.aliasSeed).2 ∧
        s.Only [.bar, .sat, .kva, .pln, .memory, .fls, .lnk, .xpt, .cmd, .blt, .sec] t) ∧
    (s.sec.fuses.passes (s.sec.slot first) = false → s.sec.fuses.passes (s.sec.slot !first) = true → s.sec.slot (!first) = some im →
      ∃ t, exec (.boot nonce) s = .next t ∧ t.sec.run = .standby ∧ t.sec.running = some im ∧ t.sec.slotB = !first ∧ t.sec.fallback = true ∧
        s.Only [.bar, .sat, .kva, .pln, .memory, .fls, .lnk, .xpt, .cmd, .blt, .sec] t) ∧
    (s.sec.fuses.passes (s.sec.slot first) = false → s.sec.fuses.passes (s.sec.slot !first) = false →
      ∃ t, exec (.boot nonce) s = .next t ∧ t.sec.run = .recovery ∧ t.sec.running = s.sec.running ∧ s.Only [.sec] t))

/-- FW_STAGE, FW_STAGE_COMPLETE, FW_ACTIVATE and LIVE_ACTIVATION_COMPLETE (R517, R518): a stage takes one image at a time into the slot that does not run; a stage that ends well sets
STAGED, and a key, signature or version that fails is counted; an activation selects the staged slot on trial, activates it live, confirms it, or advances the fused version; a live
activation that does not start leaves the selector and ends with INTERNAL. The model's choices: log entry 105. -/
def Obligations.FirmwareUpdate : Prop :=
  (∀ (s s1 : State) (h : Header) (r : ReplyTo) (src : BitVec 64) (length : Nat) (image : Image) (rsv : Nat),
    s.Serves ⟨0x0902, 2, false, false, 16, rsv, src.toNat, false⟩ h false r s1 →
    (16256 * 1024 < length → exec (.fwStage h src length image rsv) s = .next (s1.done r .badLength)) ∧
    (length ≤ 16256 * 1024 → s1.sec.staging.isSome = true → exec (.fwStage h src length image rsv) s = .next (s1.done r .noResource)) ∧
    (length ≤ 16256 * 1024 → s1.sec.staging = none →
      ∃ t, exec (.fwStage h src length image rsv) s = .next t ∧ t.sec = { s1.sec with staging := some ⟨{ r with left := r.left - 1 }, image⟩ } ∧ s.Only [.bar, .stk, .cmd, .sec, .host, .out] t)) ∧
  (∀ (s : State) (g : Staging), s.sec.staging = some g →
    (s.sec.fuses.refusal g.image = none →
      ∃ t, exec .fwStageComplete s = .next t ∧ t.sec.staged = true ∧ t.sec.staging = none ∧ t.sec.slot (!s.sec.slotB) = some g.image ∧
        t.sec.slot s.sec.slotB = s.sec.slot s.sec.slotB ∧ t.sec.primaryB = s.sec.primaryB ∧ t.sec.fuses = s.sec.fuses ∧ s.Only [.bar, .cmd, .sec, .host, .out] t) ∧
    (s.sec.fuses.refusal g.image = some .protection → g.reply.origin = .bmc →
      ∃ t, exec .fwStageComplete s = .next t ∧ t.sec = { s.sec with staging := none } ∧
        t.reg Reg.secCntAuth = min 0xFFFFFFFF (s.reg Reg.secCntAuth + 1) ∧ s.Only [.bar, .sec, .out] t) ∧
    (∀ st, s.sec.fuses.refusal g.image = some st → st ≠ .protection → exec .fwStageComplete s = .next (State.done { s with sec := { s.sec with staging := none } } g.reply st))) ∧
  (∀ (s s1 : State) (h : Header) (r : ReplyTo) (rsv : Nat), s.Serves ⟨0x0903, 1, false, false, 8, rsv, 0, false⟩ h false r s1 →
    (s1.sec.staged = true → exec (.fwActivate h 0 rsv) s =
      .next (State.done { s1 with sec := { s1.sec with primaryB := !s1.sec.slotB, trial := true, attempted := false } } r .ok)) ∧
    (s1.sec.staged = false → exec (.fwActivate h 0 rsv) s = .next (s1.done r .badField)) ∧
    (s1.sec.trial = true → s1.sec.slotB = s1.sec.primaryB →
      exec (.fwActivate h 2 rsv) s = .next (State.done { s1 with sec := { s1.sec with trial := false } } r .ok) ∧
      exec (.fwActivate h 3 rsv) s = .next (s1.done r .badField)) ∧
    (s1.sec.trial = false → exec (.fwActivate h 2 rsv) s = .next (s1.done r .alreadyDone)) ∧
    (∀ im, s1.sec.trial = false → s1.sec.running = some im → im.svn ≤ s1.sec.fuses.svn → exec (.fwActivate h 3 rsv) s = .next (s1.done r .alreadyDone)) ∧
    (∀ im, s1.sec.trial = false → s1.sec.running = some im → s1.sec.fuses.svn < im.svn → exec (.fwActivate h 3 rsv) s =
      .next (State.done { s1 with sec := { s1.sec with fuses := { s1.sec.fuses with svn := im.svn } } } r .ok)) ∧
    (∀ mode, 4 ≤ mode → exec (.fwActivate h mode rsv) s = .next (s1.done r .badField))) ∧
  (∀ (s s1 : State) (h : Header) (r : ReplyTo) (rsv : Nat), s.Serves ⟨0x0903, 2, false, false, 8, rsv, 0, false⟩ h false r s1 →
    (∀ im, s1.sec.staged = true → s1.sec.slot (!s1.sec.slotB) = some im →
      ∃ t, exec (.fwActivate h 1 rsv) s = .next t ∧ t.sec = { s1.sec with activating := some ⟨{ r with left := r.left - 1 }, im⟩ } ∧
        s.Only [.bar, .stk, .cmd, .sec, .host, .out] t) ∧
    (s1.sec.staged = false → exec (.fwActivate h 1 rsv) s = .next (s1.done r .badField))) ∧
  (∀ (s : State) (g : Staging) (im : Image), s.sec.activating = some g → s.sec.slot (!s.sec.slotB) = some im →
    ∃ t, exec (.liveActivationComplete true) s = .next t ∧ t.sec.running = some im ∧ t.sec.slotB = !s.sec.slotB ∧ t.sec.primaryB = !s.sec.slotB ∧ t.sec.trial = true ∧
      t.sec.attempted = false ∧ t.sec.staged = false ∧ t.sec.activating = none ∧ agetD t.sec.meas 2 0 = im.ofKind 1 ∧ agetD t.sec.meas 3 0 = im.ofKind 2 ∧
      t.sec.deviceSeed = Config.sha3 (leBytes 32 s.sec.fuses.secret.toNat ++ leBytes 64 Config.romDigest.toNat) ∧ t.sec.run = s.sec.run ∧ s.Only [.bar, .cmd, .sec, .host, .out] t) ∧
  (∀ (s : State) (g : Staging), s.sec.activating = some g →
    ∃ t, exec (.liveActivationComplete false) s = .next t ∧ t.sec = { s.sec with activating := none } ∧
      s.Only [.bar, .cmd, .blt, .sec, .host, .out, .freeCtr] t)

/-- IDENTITY_GET, TENANT_KEY_SET, DEBUG_UNLOCK_TOKEN, SPDM_REQUEST, PLDM_REQUEST, MCTP_CONTROL, DEVICE_SHUTDOWN and SHUTDOWN_DEADLINE (R505 to R509, R515, R519, R531): measurements are
copied out; a key's generation rises, and two of a tenant are held; a valid token waits for the next warm reset, and with DEBUG_LOCK each is refused and counted; SPDM is negotiated in its
order; a shut-down begins once; an immediate one stops the device at once with its keys erased. The model's choices: log entries 106, 107, 108. -/
def Obligations.IdentityKeysAndShutdown : Prop :=
  (∀ (s s1 : State) (h : Header) (r : ReplyTo) (select length : Nat) (out : BitVec 64) (rsv : Nat), s.Serves ⟨0x0900, 1, false, false, 16, rsv, out.toNat, false⟩ h false r s1 →
    (2 < select → exec (.identityGet h select length out rsv) s = .next (s1.done r .badField)) ∧
    (select = 2 → length < 1344 → exec (.identityGet h select length out rsv) s = .next (s1.answer r .noResource true (leBytes 4 1344))) ∧
    (select = 2 → 1344 ≤ length → exec (.identityGet h select length out rsv) s =
      .next (State.answer (s1.writeAddr h.origin out.toNat (measured.map fun i => leBytes 64 (s1.measurement i).toNat).flatten) r .ok true (leBytes 4 1344))) ∧
    (select < 2 → length < (if select = 0 then deviceChain else s1.sec.aliasCert).length →
      exec (.identityGet h select length out rsv) s = .next (s1.answer r .noResource true (leBytes 4 (if select = 0 then deviceChain else s1.sec.aliasCert).length))) ∧
    (select < 2 → (if select = 0 then deviceChain else s1.sec.aliasCert).length ≤ length →
      exec (.identityGet h select length out rsv) s = .next (State.answer (s1.writeAddr h.origin out.toNat (if select = 0 then deviceChain else s1.sec.aliasCert)) r .ok true
        (leBytes 4 (if select = 0 then deviceChain else s1.sec.aliasCert).length)))) ∧
  (∀ (s s1 : State) (h : Header) (r : ReplyTo) (tenant : BitVec 16) (gen : Nat) (key : BitVec 256) (rsv : Nat),
    s.Serves ⟨0x0901, 1, false, false, 40, rsv, 0, false⟩ h false r s1 → 1 ≤ gen → gen ≤ 65535 →
    ((∃ g ∈ agetD s1.sec.keys tenant.toNat [], gen ≤ g.1) → exec (.tenantKeySet h tenant gen 0 key rsv) s = .next (s1.done r .badField)) ∧
    ((∀ g ∈ agetD s1.sec.keys tenant.toNat [], g.1 < gen) → agetD s1.sec.keys tenant.toNat [] ≠ [] ∨ s1.sec.keys.length < 4096 →
      ∃ t, exec (.tenantKeySet h tenant gen 0 key rsv) s = .next t ∧
        agetD t.sec.keys tenant.toNat [] =
          (agetD s1.sec.keys tenant.toNat []).drop ((agetD s1.sec.keys tenant.toNat []).length - 1) ++ [(gen, key)] ∧
        (∀ u, u ≠ tenant.toNat → agetD t.sec.keys u [] = agetD s1.sec.keys u []) ∧ t.sec = { s1.sec with keys := t.sec.keys } ∧
        s.Only [.bar, .stk, .cmd, .sec, .host, .out] t) ∧
    ((∀ g ∈ agetD s1.sec.keys tenant.toNat [], g.1 ≠ gen) → exec (.tenantKeySet h tenant gen 1 key rsv) s = .next (s1.done r .alreadyDone)) ∧
    ((∃ g ∈ agetD s1.sec.keys tenant.toNat [], g.1 = gen) →
      ∃ t, exec (.tenantKeySet h tenant gen 1 key rsv) s = .next t ∧
        agetD t.sec.keys tenant.toNat [] = (agetD s1.sec.keys tenant.toNat []).filter (fun g => g.1 != gen) ∧
        (∀ u, u ≠ tenant.toNat → agetD t.sec.keys u [] = agetD s1.sec.keys u []) ∧ s.Only [.bar, .stk, .cmd, .sec, .host, .out] t)) ∧
  (∀ (s : State) (valid : Bool), s.present = true →
    (s.flag Reg.secCtrl 0 = false → valid = true → exec (.debugUnlockToken valid) s = .next { s with sec := { s.sec with debugPending := true } }) ∧
    (s.flag Reg.secCtrl 0 = true ∨ valid = false → exec (.debugUnlockToken valid) s = .next (s.count Reg.secCntAuth 1))) ∧
  (∀ (s : State) (nonce : BitVec 256), s.present = true →
    exec (.spdmRequest false .getVersion nonce) s = .next (State.emit { s with host := { s.host with spdm := 1 } } (.spdm 0x04 [0x13])) ∧
    (∀ req, s.host.spdm = 0 → req = .getCapabilities ∨ req = .negotiateAlgorithms ∨ req = .getDigests →
      exec (.spdmRequest false req nonce) s = .next (s.emit (.spdm 0x7F [4]))) ∧
    (3 ≤ s.host.spdm → exec (.spdmRequest false .getDigests nonce) s = .next (s.emit (.spdm 0x01 ([1] ++ leBytes 64 (Config.sha3 (deviceChain ++ s.sec.aliasCert)).toNat)))) ∧
    (∀ off len, 3 ≤ s.host.spdm → exec (.spdmRequest false (.getCertificate 0 off len) nonce) s =
      .next (s.emit (.spdm 0x02 ([0] ++ ((deviceChain ++ s.sec.aliasCert).drop off).take len)))) ∧
    (∀ i, 3 ≤ s.host.spdm → i ∈ measured → exec (.spdmRequest false (.getMeasurements i false) nonce) s =
      .next (s.emit (.spdm 0x60 (leBytes 1 i ++ leBytes 64 (s.measurement i).toNat ++ leBytes 32 nonce.toNat))))) ∧
  (∀ s : State, s.present = true → (exec (.pldmRequest 49) s = .next (s.emit (.pldm 49 s.pwr.tj)))) ∧
  (∀ (s : State) (i : Fin 16) (v : Nat × Nat × Nat), s.present = true → afind s.pwr.readings i.val = some v →
    exec (.pldmRequest (3 * i.val)) s = .next (s.emit (.pldm (3 * i.val) v.1)) ∧ exec (.pldmRequest (3 * i.val + 1)) s = .next (s.emit (.pldm (3 * i.val + 1) v.2.1)) ∧
    exec (.pldmRequest (3 * i.val + 2)) s = .next (s.emit (.pldm (3 * i.val + 2) v.2.2))) ∧
  (∀ (s : State) (e : BitVec 8), s.present = true →
    exec (.mctpControl (.setEid e)) s = .next (State.emit { s with host := { s.host with eid := e } } (.mctp 1 e)) ∧
    exec (.mctpControl .getEid) s = .next (s.emit (.mctp 2 s.host.eid))) ∧
  (∀ (s s1 : State) (h : Header) (r : ReplyTo) (mode n deadline rsv : Nat) (targets : List DevPart),
    s.Serves ⟨0x0006, 2, false, false, 8 + 4 * n, rsv, 0, false⟩ h false r s1 → h.origin ≠ .bmc →
    (s1.sec.shutdown.isSome = true → exec (.deviceShutdown h mode n deadline targets rsv) s = .next (s1.done r .alreadyDone)) ∧
    (s1.sec.shutdown = none → 1 < mode → exec (.deviceShutdown h mode n deadline targets rsv) s = .next (s1.done r .badField)) ∧
    (s1.sec.shutdown = none → mode = 1 → n ≤ 8 → targets.length = n → (∀ d ∈ targets, d.dev.toNat < 2 ^ 14) → s1.sec.run ≠ .fault →
      ∃ t, exec (.deviceShutdown h mode n deadline targets rsv) s = .next t ∧ t.sec.run = .stopped ∧ t.sec.keys = [] ∧ t.fls.hold = true ∧ t.fls.holdForever = true ∧
        (∀ p, p < 64 → t.flag (Reg.lnkPCtrl p) 0 = false) ∧ s.Only [.stk, .bar, .sat, .kva, .pln, .memory, .fls, .lnk, .cmd, .sec, .host, .out, .freeCtr] t) ∧
    (s1.sec.shutdown = none → mode = 0 → n ≤ 8 → targets.length = n → targets ≠ [] → (∀ d ∈ targets, d.dev.toNat < 2 ^ 14) → 1 ≤ deadline → deadline ≤ 60000 →
      s1.sec.run = .service →
      ∃ t, exec (.deviceShutdown h mode n deadline targets rsv) s = .next t ∧ t.sec.run = .stopping ∧
        t.sec.shutdown = some ⟨some { r with left := r.left - 1 }, false, targets, deadline, s1.stk.time, 0, 0, 0, false⟩ ∧ t.sec.keys = s1.sec.keys ∧
        s.Only [.stk, .bar, .cmd, .sec, .host, .out] t)) ∧
  (∀ (s : State) (d : Shutdown), s.sec.shutdown = some d → d.immediate = false → d.deadlinePassed = false → s.sec.run = .stopping →
    (s.sat.sats = [] → s.sat.recs = [] → (∀ q ∈ s.pln.parts, q.state = .free ∧ q.composing = none ∧ q.held = none) → (∀ p, p < 64 → (s.port p).state = .disabled) → s.shapeOk = true →
      ∃ t, exec .shutdownDeadline s = .next t ∧ t.sec.run = .stopped ∧ t.sec.keys = [] ∧ t.stk.time = max s.stk.time (d.startedAt + d.deadlineMs * 1000000) ∧
        t.fls.holdForever = true ∧ s.Only [.stk, .bar, .fls, .lnk, .cmd, .sec, .host, .out] t))

/-! ### Package, pins and power (chapter 17) -/

/-- PFAIL_ASSERT, PFAIL_RELEASE, PFAIL_HOLDOFF_END, PFAIL_STUCK, PFAIL_REARM, THERM_ASSERT, THERM_RELEASE and INPUT_GLITCH (R332, R334, R485, R532, R535): an accepted PFAIL_N holds flash
and is noted; edges in the hold-off of 10 ms are ignored; stuck, it is posted once at level 2, flash leaves HOLD and the input is ignored until it is re-armed; an accepted THERM_N holds at
least step 4; a rejected pulse is counted. The model's choices: log entries 65, 109. -/
def Obligations.ControlInputs : Prop :=
  (∀ (s : State) (now : Nat), s.present = true → s.pwr.pfail = false → s.pwr.pfailHold = false → s.pwr.pfailIgnored = false → s.flag Reg.secCtrl 2 = false →
    agetD s.blt.outbox 0x3F8 [] = [] →
    ∃ t, exec (.pfailAssert now) s = .next t ∧ t.stk = { s.stk with time := max s.stk.time now } ∧
      t.pwr = { s.pwr with pfail := true, pfailHold := true, pfailAt := max s.stk.time now } ∧ t.fls.hold = true ∧ t.fls.holdForever = s.fls.holdForever ∧
      t.fls.data = s.fls.data ∧ (∃ m, agetD t.blt.outbox 0x3F8 [] = [m] ∧ m.fault.kind = 0xA03 ∧ m.fault.level = 0 ∧ m.fault.addr = 0) ∧ s.Only [.stk, .pwr, .fls, .blt] t) ∧
  (∀ (s : State) (now : Nat), s.present = true → s.pwr.pfail = false → s.pwr.pfailHold = false → s.pwr.pfailIgnored = false → s.flag Reg.secCtrl 2 = true →
    s.sec.run = .service → s.sec.shutdown = none →
    ∃ t, exec (.pfailAssert now) s = .next t ∧ t.sec.run = .stopped ∧ t.sec.keys = [] ∧ t.fls.hold = true ∧ t.fls.holdForever = true) ∧
  (∀ (s : State) (now : Nat), s.pwr.pfail = true ∨ s.pwr.pfailHold = true ∨ s.pwr.pfailIgnored = true →
    exec (.pfailAssert now) s = .next { s with stk := { s.stk with time := max s.stk.time now } }) ∧
  (∀ s : State, s.pwr.pfail = true → s.pwr.pfailHold = false → s.pwr.pfailIgnored = false → s.fls.formatting = none →
    (s.fls.holdForever = false → exec .pfailRelease s = .next { s with pwr := { s.pwr with pfail := false }, fls := { s.fls with hold := false } }) ∧
    (s.fls.holdForever = true → exec .pfailRelease s = .next { s with pwr := { s.pwr with pfail := false } })) ∧
  (∀ s : State, s.pwr.pfailHold = true → exec .pfailRelease s = .next s) ∧
  (∀ (s : State) (again : Bool) (now : Nat), s.pwr.pfailHold = true → s.pwr.pfailAt + 10000000 ≤ max s.stk.time now → s.fls.formatting = none →
    (exec (.pfailHoldoffEnd true false now) s =
      .next { s with stk := { s.stk with time := max s.stk.time now }, pwr := { s.pwr with pfailHold := false } }) ∧
    (s.flag Reg.secCtrl 2 = false → ∃ t, exec (.pfailHoldoffEnd true true now) s = .next t ∧ t.pwr.pfail = true ∧ t.pwr.pfailHold = true ∧ t.pwr.pfailAt = max s.stk.time now ∧
      t.fls.hold = true) ∧
    (∃ t, exec (.pfailHoldoffEnd false again now) s = .next t ∧ t.pwr.pfail = false ∧ t.pwr.pfailHold = false ∧ (s.fls.holdForever = false → t.fls.hold = false))) ∧
  (∀ s : State, s.pwr.pfail = true → s.pwr.pfailHold = false → s.pwr.pfailIgnored = false → s.fls.formatting = none → agetD s.blt.outbox 0x3F8 [] = [] →
    ∃ t, exec .pfailStuck s = .next t ∧ t.pwr = { s.pwr with pfailIgnored := true } ∧ (s.fls.holdForever = false → t.fls = { s.fls with hold := false }) ∧
      (∃ m, agetD t.blt.outbox 0x3F8 [] = [m] ∧ m.fault.kind = 0xA01 ∧ m.fault.level = 2) ∧ s.Only [.pwr, .fls, .blt] t) ∧
  (∀ s : State, s.pwr.pfailIgnored = true → exec .pfailRearm s = .next { s with pwr := { s.pwr with pfailIgnored := false, pfail := false } }) ∧
  (∀ (s : State) (now : Nat), s.present = true → s.pwr.therm = false → s.pwr.thermHold = false →
    ∃ t, exec (.thermAssert now) s = .next t ∧ t.pwr = { s.pwr with therm := true, thermHold := true, thermAt := max s.stk.time now, step := t.pwr.step } ∧
      4 ≤ t.pwr.step ∧ (s.pwr.step < 8 → s.pwr.step ≤ t.pwr.step) ∧ s.Only [.bar, .stk, .blt, .pwr] t) ∧
  (∀ (s : State) (now : Nat), s.pwr.therm = true → s.pwr.thermHold = false ∨ s.pwr.thermAt + 10000000 ≤ max s.stk.time now →
    exec (.thermRelease now) s =
      .next { s with stk := { s.stk with time := max s.stk.time now }, pwr := { s.pwr with therm := false, thermHold := false } }) ∧
  (∀ (s : State) (pin : PinIn) (now : Nat), s.present = true → s.pwr.glitch.length = 3 →
    ∃ t, exec (.inputGlitch pin now) s = .next t ∧
      t.fld Reg.pwrGlitch (8 * pin.index + 7) (8 * pin.index) = min 255 (s.fld Reg.pwrGlitch (8 * pin.index + 7) (8 * pin.index) + 1) ∧
      (∀ i, i < 3 → i ≠ pin.index → t.fld Reg.pwrGlitch (8 * i + 7) (8 * i) = s.fld Reg.pwrGlitch (8 * i + 7) (8 * i)) ∧
      (s.fld Reg.bltCfg 31 24 = 0 → t.blt = s.blt) ∧ t.pwr.step = s.pwr.step ∧ s.Only [.bar, .stk, .blt, .pwr] t)

/-- THROTTLE_EVALUATE, AVS_WRITE and PMBUS_POLL (R530, R531, R535, R536, R540): at 115 °C the device trips; from 105 °C the step is 7 at once; over the target or the cap it rises by
one for each 100 µs that this lasts; after 1 ms well below both it falls by one, at the next boundary while strokes run, once the core voltage stands. The core voltage's target moves by
at most 10 mV towards the table's voltage within its limits, and the third failure of a write in a row holds step 4. A regulator that is read gives its readings, and each miss in a row
is counted. The model's choices: log entries 110, 111, 139. -/
def Obligations.ThrottleAndRegulators : Prop :=
  (∀ (s : State) (tj now : Nat), s.present = true →
    (115 ≤ tj → ∃ t, exec (.throttleEvaluate tj now) s = .next t ∧ t.pwr.tripped = true ∧ t.sec.run = .boot ∧ t.fls.data = s.fls.data ∧ t.host.mem = s.host.mem ∧
      State.reset.Only [.bar, .board, .fls, .sec, .host, .pwr, .out, .freeCtr] { t with pending := [] }) ∧
    (105 ≤ tj → tj < 115 → ∃ t, exec (.throttleEvaluate tj now) s = .next t ∧ t.pwr.step = 7 ∧ t.pwr.tj = tj ∧ t.pwr.watts = s.pwr.package ∧ s.Only [.stk, .bar, .blt, .pwr] t) ∧
    (tj < 105 → s.fld Reg.pwrCtrl 7 0 < tj ∨ s.fld Reg.pwrCap 10 0 < s.pwr.package →
      (∀ f, s.pwr.overFrom = some f → f + 100000 ≤ max s.stk.time now → s.pwr.step ≤ 7 → s.pwr.floor ≤ s.pwr.step →
        ∃ t, exec (.throttleEvaluate tj now) s = .next t ∧ t.pwr.step = min 7 (s.pwr.step + 1) ∧ t.pwr.overFrom = some (max s.stk.time now) ∧ t.pwr.fallDue = false ∧
          s.Only [.stk, .bar, .blt, .pwr] t) ∧
      (∀ f, s.pwr.overFrom = some f → max s.stk.time now < f + 100000 → ∃ t, exec (.throttleEvaluate tj now) s = .next t ∧ t.pwr.step = s.pwr.step ∧ t.pwr.overFrom = some f) ∧
      (s.pwr.overFrom = none → ∃ t, exec (.throttleEvaluate tj now) s = .next t ∧ t.pwr.step = s.pwr.step ∧ t.pwr.overFrom = some (max s.stk.time now) ∧
        t.pwr.causeTj = decide (s.fld Reg.pwrCtrl 7 0 < tj) ∧ t.pwr.causePower = decide (s.fld Reg.pwrCap 10 0 < s.pwr.package) ∧ s.Only [.stk, .bar, .pwr] t)) ∧
    (tj < 105 → tj ≤ s.fld Reg.pwrCtrl 7 0 → s.pwr.package ≤ s.fld Reg.pwrCap 10 0 → s.fld Reg.pwrCtrl 7 0 ≤ tj + 3 ∨ s.fld Reg.pwrCap 10 0 * 95 ≤ s.pwr.package * 100 →
      ∃ t, exec (.throttleEvaluate tj now) s = .next t ∧ t.pwr = { s.pwr with tj := tj, watts := s.pwr.package, causeTj := false, causePower := false, overFrom := none, coolFrom := none } ∧
        s.Only [.stk, .bar, .pwr] t) ∧
    (tj < 105 → tj + 3 < s.fld Reg.pwrCtrl 7 0 → s.pwr.package * 100 < s.fld Reg.pwrCap 10 0 * 95 →
      (s.pwr.coolFrom = none → ∃ t, exec (.throttleEvaluate tj now) s = .next t ∧ t.pwr.step = s.pwr.step ∧ t.pwr.coolFrom = some (max s.stk.time now) ∧ t.pwr.overFrom = none) ∧
      (∀ f, s.pwr.coolFrom = some f → f + 1000000 ≤ max s.stk.time now → s.pwr.floor < s.pwr.step → s.pwr.step ≤ 7 →
        (s.stk.running = true → ∃ t, exec (.throttleEvaluate tj now) s = .next t ∧ t.pwr.step = s.pwr.step ∧ t.pwr.fallDue = true ∧ t.pwr.coolFrom = some (max s.stk.time now) ∧
          s.Only [.stk, .bar, .pwr] t) ∧
        (s.stk.running = false → clamp (s.fld Reg.pwrAvs 21 12) (s.fld Reg.pwrAvs 31 22) (Config.coreVoltage (s.pwr.step - 1)) ≤ s.pwr.avsTarget →
          ∃ t, exec (.throttleEvaluate tj now) s = .next t ∧ t.pwr.step = s.pwr.step - 1 ∧ t.pwr.fallDue = false ∧ s.Only [.stk, .bar, .blt, .pwr] t) ∧
        (s.stk.running = false → s.pwr.avsTarget < clamp (s.fld Reg.pwrAvs 21 12) (s.fld Reg.pwrAvs 31 22) (Config.coreVoltage (s.pwr.step - 1)) →
          ∃ t, exec (.throttleEvaluate tj now) s = .next t ∧ t.pwr.step = s.pwr.step ∧ t.pwr.fallDue = true)))) ∧
  (∀ s : State, s.present = true → s.sec.run ≠ .boot → s.sec.run ≠ .recovery →
    (∃ t, exec (.avsWrite true) s = .next t ∧ t.pwr.avsTarget = clamp (s.pwr.avsTarget - 10) (s.pwr.avsTarget + 10) s.coreGoal ∧
      t.pwr.avsFails = 0 ∧ t.out = s.out ++ [.avs t.pwr.avsTarget] ∧
      (s.fld Reg.pwrAvs 21 12 ≤ s.pwr.avsTarget → s.pwr.avsTarget ≤ s.fld Reg.pwrAvs 31 22 →
        s.fld Reg.pwrAvs 21 12 ≤ t.pwr.avsTarget ∧ t.pwr.avsTarget ≤ s.fld Reg.pwrAvs 31 22) ∧
      (s.pwr.fallDue = false ∨ s.stk.running = true → t.pwr.step = s.pwr.step ∧ s.Only [.pwr, .out] t) ∧
      (s.pwr.fallDue = true → s.stk.running = false → s.pwr.therm = false → s.pwr.step ≤ 7 →
        clamp (s.fld Reg.pwrAvs 21 12) (s.fld Reg.pwrAvs 31 22) (Config.coreVoltage (s.pwr.step - 1)) ≤ t.pwr.avsTarget → t.pwr.step = s.pwr.step - 1 ∧ t.pwr.fallDue = false) ∧
      s.Only [.bar, .blt, .pwr, .out] t) ∧
    ((s.pwr.avsFails + 1) % 3 ≠ 0 → exec (.avsWrite false) s = .next { s with pwr := { s.pwr with avsFails := s.pwr.avsFails + 1 } }) ∧
    (s.pwr.avsFails = 2 → ∃ t, exec (.avsWrite false) s = .next t ∧ t.flag Reg.pwrStatus 6 = true ∧ 4 ≤ t.pwr.step ∧ t.pwr.avsFails = 3 ∧
      t.pwr.avsTarget = s.pwr.avsTarget ∧ s.Only [.bar, .blt, .pwr] t)) ∧
  (∀ (s : State) (readings : List (Option (Nat × Nat × Nat))), s.present = true →
    ∃ t, exec (.pmbusPoll readings) s = .next t ∧
      (∀ i q, i < 16 → s.flag (Reg.pwrPmb i) 31 = true → s.fld (Reg.pwrPmb i) 15 12 < 9 → readings.getD i none = some q →
        afind t.pwr.readings i = some q ∧ afind t.pwr.missed i = none) ∧
      (∀ i, i < 16 → s.flag (Reg.pwrPmb i) 31 = true → s.fld (Reg.pwrPmb i) 15 12 < 9 → readings.getD i none = none →
        afind t.pwr.readings i = afind s.pwr.readings i ∧ agetD t.pwr.missed i 0 = min 3 (agetD s.pwr.missed i 0 + 1)) ∧
      (∀ i, i < 16 → s.flag (Reg.pwrPmb i) 31 = false → afind t.pwr.readings i = none ∧ afind t.pwr.missed i = none) ∧ s.Only [.bar, .blt, .pwr] t)

/-! ### Invariants -/

/-- Every step from a safe state leads to a safe state: every memory keeps its one canonical form, the tables of windows, ports, partitions and functions their sizes,
and every satchel has an entry of the satchel table (R4, R70, R346, R443, R490). The model's choices: log entry 15. -/
def Obligations.StepKeepsSafe : Prop := ∀ s t : State, s.Safe → step s = .next t → t.Safe

/-- Commands are served in the order in which they wait (the queue is the model's, log entry 32): a step takes the front of the queue and leaves the rest as it is, and it always answers a
next state. -/
def Obligations.StepsServeInOrder : Prop :=
  ∀ s : State, ∃ t, step s = .next t ∧ t.pending = s.pending.drop 1
end

