-- ==== Sys2Proof/Laws/Memory.lean ====
section
/-!
SUPPORT. Laws/Memory.lean: the laws of sparse tables and of memories: a read after a write to the same place gives what was written, other
places keep what they held, and every operation keeps a memory's canonical form.
-/
namespace Sys2Proof.Machine

/-! ### Sparse tables -/

@[simp] theorem afind_aput_same {α : Type} (t : Assoc α) (i : Nat) (x : α) : afind (aput t i x) i = some x := by
  induction t with
  | nil => simp [aput, afind]
  | cons p t ih =>
    obtain ⟨k, v⟩ := p
    unfold aput
    split
    · simp [afind]
    · split
      · simp [afind]
      · simp [afind, *]

theorem afind_aput_ne {α : Type} (t : Assoc α) {i j : Nat} (x : α) (h : j ≠ i) : afind (aput t i x) j = afind t j := by
  induction t with
  | nil => simp [aput, afind, Ne.symm h]
  | cons p t ih =>
    obtain ⟨k, v⟩ := p
    unfold aput
    split
    · simp [afind, Ne.symm h]
    · split
      · next e => subst e; simp [afind, Ne.symm h]
      · simp only [afind, ih]

@[simp] theorem afind_adel_same {α : Type} (t : Assoc α) (i : Nat) : afind (adel t i) i = none := by
  induction t with
  | nil => rfl
  | cons p t ih =>
    obtain ⟨k, v⟩ := p
    unfold adel
    split
    · exact ih
    · simp [afind, *]

theorem afind_adel_ne {α : Type} (t : Assoc α) {i j : Nat} (h : j ≠ i) : afind (adel t i) j = afind t j := by
  induction t with
  | nil => rfl
  | cons p t ih =>
    obtain ⟨k, v⟩ := p
    unfold adel
    split
    · next e => subst e; simp [afind, Ne.symm h, ih]
    · simp only [afind, ih]

theorem agetD_aput_same {α : Type} (t : Assoc α) (i : Nat) (x d : α) : agetD (aput t i x) i d = x := by simp [agetD]

theorem agetD_aput_ne {α : Type} (t : Assoc α) {i j : Nat} (x d : α) (h : j ≠ i) : agetD (aput t i x) j d = agetD t j d := by
  simp [agetD, afind_aput_ne t x h]

/-- The keys of a table that is sorted are those of a strictly rising list. -/
theorem asorted_iff {α : Type} (t : Assoc α) : asorted t = true ↔ t.Pairwise (fun p q => p.1 < q.1) := by
  induction t with
  | nil => simp [asorted]
  | cons p t ih =>
    cases t with
    | nil => simp [asorted]
    | cons q t =>
      obtain ⟨k, v⟩ := p
      obtain ⟨j, w⟩ := q
      simp only [asorted, Bool.and_eq_true, decide_eq_true_eq, ih]
      constructor
      · rintro ⟨a, b⟩
        refine List.pairwise_cons.mpr ⟨?_, b⟩
        intro r hr
        rcases List.mem_cons.mp hr with e | hm
        · subst e; exact a
        · exact Nat.lt_trans a ((List.pairwise_cons.mp b).1 r hm)
      · intro c
        exact ⟨(List.pairwise_cons.mp c).1 _ (List.mem_cons_self ..), (List.pairwise_cons.mp c).2⟩

theorem mem_aput {α : Type} {t : Assoc α} {i : Nat} {x : α} {p : Nat × α} (h : p ∈ aput t i x) : p = (i, x) ∨ p ∈ t := by
  induction t with
  | nil => simp [aput] at h; exact .inl h
  | cons q t ih =>
    obtain ⟨k, v⟩ := q
    unfold aput at h
    split at h
    · exact List.mem_cons.mp h
    · split at h
      · rcases List.mem_cons.mp h with e | hm
        · exact .inl e
        · exact .inr (List.mem_cons_of_mem _ hm)
      · rcases List.mem_cons.mp h with e | hm
        · subst e; exact .inr (List.mem_cons_self ..)
        · exact (ih hm).imp id (List.mem_cons_of_mem _)

theorem asorted_aput {α : Type} (t : Assoc α) (i : Nat) (x : α) (h : asorted t = true) : asorted (aput t i x) = true := by
  rw [asorted_iff] at *
  induction t with
  | nil => simp [aput]
  | cons q t ih =>
    obtain ⟨k, v⟩ := q
    have hc := List.pairwise_cons.mp h
    unfold aput
    split
    · next hl =>
      refine List.pairwise_cons.mpr ⟨?_, h⟩
      intro p hp
      rcases List.mem_cons.mp hp with e | hm
      · subst e; exact hl
      · exact Nat.lt_trans hl (hc.1 p hm)
    · split
      · next e => subst e; exact List.pairwise_cons.mpr ⟨hc.1, hc.2⟩
      · next h1 h2 =>
        refine List.pairwise_cons.mpr ⟨?_, ih hc.2⟩
        intro p hp
        rcases mem_aput hp with e | hm
        · subst e; show k < i; omega
        · exact hc.1 p hm

theorem adel_sublist {α : Type} (t : Assoc α) (i : Nat) : (adel t i).Sublist t := by
  induction t with
  | nil => exact List.Sublist.refl _
  | cons p t ih =>
    obtain ⟨k, v⟩ := p
    unfold adel
    split
    · exact ih.cons _
    · exact ih.cons_cons _

/-! ### Memories -/

theorem Memory.wf_iff (m : Mem) : Memory.wf m = true ↔ m.Pairwise (fun p q => p.1 < q.1) ∧ ∀ p ∈ m, p.2 ≠ 0#8 := by
  simp [Memory.wf, asorted_iff]

theorem Memory.wf_sublist {l m : Mem} (s : l.Sublist m) (h : Memory.wf m = true) : Memory.wf l = true := by
  rw [Memory.wf_iff] at *
  exact ⟨h.1.sublist s, fun p hp => h.2 p (s.subset hp)⟩

theorem Memory.wf_memPut (m : Mem) (a : Nat) (b : Byte) (h : Memory.wf m = true) : Memory.wf (memPut m a b) = true := by
  unfold memPut
  split
  · exact Memory.wf_sublist (adel_sublist m a) h
  · next hb =>
    rw [Memory.wf_iff] at *
    refine ⟨(asorted_iff _).mp (asorted_aput m a b ((asorted_iff _).mpr h.1)), ?_⟩
    intro p hp
    rcases mem_aput hp with e | hm
    · subst e; exact hb
    · exact h.2 p hm

theorem Memory.wf_memWrite (m : Mem) (a : Nat) (l : List Byte) (h : Memory.wf m = true) : Memory.wf (memWrite m a l) = true := by
  induction l generalizing m a with
  | nil => exact h
  | cons b t ih => exact ih _ _ (Memory.wf_memPut m a b h)

theorem Memory.wf_memZero (m : Mem) (a n : Nat) (h : Memory.wf m = true) : Memory.wf (memZero m a n) = true :=
  Memory.wf_sublist List.filter_sublist h

theorem Memory.wf_memCopy (src : Mem) (f : Nat) (dst : Mem) (t n : Nat) (h : Memory.wf dst = true) : Memory.wf (memCopy src f dst t n) = true := by
  have key : ∀ (l : Mem) (m : Mem), Memory.wf m = true → Memory.wf (l.foldl (fun m p => memPut m (p.1 - f + t) p.2) m) = true := by
    intro l
    induction l with
    | nil => intro m hm; exact hm
    | cons p l ih => intro m hm; exact ih _ (Memory.wf_memPut m _ _ hm)
  exact key _ _ (Memory.wf_memZero dst t n h)

@[simp] theorem memByte_memPut_same (m : Mem) (a : Nat) (b : Byte) : memByte (memPut m a b) a = b := by
  unfold memByte memPut agetD
  split
  · next e => subst e; simp
  · simp

theorem memByte_memPut_ne (m : Mem) {a c : Nat} (b : Byte) (h : c ≠ a) : memByte (memPut m a b) c = memByte m c := by
  unfold memByte memPut agetD
  split
  · rw [afind_adel_ne m h]
  · rw [afind_aput_ne m b h]

/-- A write leaves every byte outside its range. -/
theorem memByte_memWrite_ne (m : Mem) (a : Nat) (l : List Byte) (c : Nat) (h : c < a ∨ a + l.length ≤ c) :
    memByte (memWrite m a l) c = memByte m c := by
  induction l generalizing m a with
  | nil => rfl
  | cons b t ih =>
    simp only [List.length_cons] at h
    unfold memWrite
    rw [ih _ _ (by omega), memByte_memPut_ne m b (by omega)]

theorem memRead_congr (m n : Mem) (a k : Nat) (h : ∀ c, a ≤ c → c < a + k → memByte m c = memByte n c) : memRead m a k = memRead n a k := by
  induction k generalizing a with
  | zero => rfl
  | succ k ih =>
    unfold memRead
    rw [h a (Nat.le_refl _) (by omega), ih (a + 1) (fun c h1 h2 => h c (by omega) (by omega))]

/-- A read of what was just written gives it. -/
theorem memRead_memWrite (m : Mem) (a : Nat) (l : List Byte) : memRead (memWrite m a l) a l.length = l := by
  induction l generalizing m a with
  | nil => rfl
  | cons b t ih =>
    simp only [List.length_cons, memRead, memWrite]
    rw [ih, memByte_memWrite_ne _ _ _ _ (by omega), memByte_memPut_same]

theorem memByte_filter (m : Mem) (p : Nat → Bool) (c : Nat) :
    memByte (m.filter fun e => p e.1) c = if p c then memByte m c else 0#8 := by
  induction m with
  | nil => simp [memByte, agetD, afind]
  | cons e t ih =>
    obtain ⟨k, v⟩ := e
    simp only [memByte, agetD] at ih ⊢
    by_cases hk : p k
    · simp only [List.filter_cons, hk, if_true, afind]
      by_cases e : k = c
      · subst e; simp [hk]
      · simp only [e, if_false]; exact ih
    · simp only [List.filter_cons, hk, afind]
      by_cases e : k = c
      · subst e; simp [hk] at ih ⊢; exact ih
      · simp only [e, if_false]; exact ih

/-- A range that was zeroed reads as zero, and every other byte as before. -/
theorem memByte_memZero (m : Mem) (a n c : Nat) : memByte (memZero m a n) c = if a ≤ c ∧ c < a + n then 0#8 else memByte m c := by
  unfold memZero
  rw [memByte_filter m (fun x => x < a || a + n ≤ x) c]
  by_cases h : a ≤ c ∧ c < a + n
  · rw [if_pos h, if_neg (by simp; omega)]
  · rw [if_neg h, if_pos (by simp; omega)]

end Sys2Proof.Machine
end

