-- ==== Sys2Proof/Laws/Objects.lean ====
section
/-!
SUPPORT. Laws/Objects.lean: what a change of one satchel, connection, port, thread or block does, and what it leaves alone; that opening a sealed
block gives back what was sealed.
-/
namespace Sys2Proof.Machine

set_option Elab.async false

@[simp] theorem State.modSat_bar (s : State) (k : Nat) (f : Sat → Sat) : (s.modSat k f).bar = s.bar := rfl
@[simp] theorem State.modSat_board (s : State) (k : Nat) (f : Sat → Sat) : (s.modSat k f).board = s.board := rfl
@[simp] theorem State.modSat_stk (s : State) (k : Nat) (f : Sat → Sat) : (s.modSat k f).stk = s.stk := rfl
@[simp] theorem State.modSat_kva (s : State) (k : Nat) (f : Sat → Sat) : (s.modSat k f).kva = s.kva := rfl
@[simp] theorem State.modSat_cores (s : State) (k : Nat) (f : Sat → Sat) : (s.modSat k f).cores = s.cores := rfl
@[simp] theorem State.modSat_pln (s : State) (k : Nat) (f : Sat → Sat) : (s.modSat k f).pln = s.pln := rfl
@[simp] theorem State.modSat_memory (s : State) (k : Nat) (f : Sat → Sat) : (s.modSat k f).memory = s.memory := rfl
@[simp] theorem State.modSat_fls (s : State) (k : Nat) (f : Sat → Sat) : (s.modSat k f).fls = s.fls := rfl
@[simp] theorem State.modSat_lnk (s : State) (k : Nat) (f : Sat → Sat) : (s.modSat k f).lnk = s.lnk := rfl
@[simp] theorem State.modSat_xpt (s : State) (k : Nat) (f : Sat → Sat) : (s.modSat k f).xpt = s.xpt := rfl
@[simp] theorem State.modSat_shp (s : State) (k : Nat) (f : Sat → Sat) : (s.modSat k f).shp = s.shp := rfl
@[simp] theorem State.modSat_cmd (s : State) (k : Nat) (f : Sat → Sat) : (s.modSat k f).cmd = s.cmd := rfl
@[simp] theorem State.modSat_blt (s : State) (k : Nat) (f : Sat → Sat) : (s.modSat k f).blt = s.blt := rfl
@[simp] theorem State.modSat_sec (s : State) (k : Nat) (f : Sat → Sat) : (s.modSat k f).sec = s.sec := rfl
@[simp] theorem State.modSat_host (s : State) (k : Nat) (f : Sat → Sat) : (s.modSat k f).host = s.host := rfl
@[simp] theorem State.modSat_pwr (s : State) (k : Nat) (f : Sat → Sat) : (s.modSat k f).pwr = s.pwr := rfl
@[simp] theorem State.modSat_out (s : State) (k : Nat) (f : Sat → Sat) : (s.modSat k f).out = s.out := rfl
@[simp] theorem State.modSat_freeCtr (s : State) (k : Nat) (f : Sat → Sat) : (s.modSat k f).freeCtr = s.freeCtr := rfl
@[simp] theorem State.modSat_pending (s : State) (k : Nat) (f : Sat → Sat) : (s.modSat k f).pending = s.pending := rfl

@[simp] theorem State.modConn_bar (s : State) (k : Nat) (f : Conn → Conn) : (s.modConn k f).bar = s.bar := rfl
@[simp] theorem State.modConn_board (s : State) (k : Nat) (f : Conn → Conn) : (s.modConn k f).board = s.board := rfl
@[simp] theorem State.modConn_stk (s : State) (k : Nat) (f : Conn → Conn) : (s.modConn k f).stk = s.stk := rfl
@[simp] theorem State.modConn_sat (s : State) (k : Nat) (f : Conn → Conn) : (s.modConn k f).sat = s.sat := rfl
@[simp] theorem State.modConn_kva (s : State) (k : Nat) (f : Conn → Conn) : (s.modConn k f).kva = s.kva := rfl
@[simp] theorem State.modConn_cores (s : State) (k : Nat) (f : Conn → Conn) : (s.modConn k f).cores = s.cores := rfl
@[simp] theorem State.modConn_pln (s : State) (k : Nat) (f : Conn → Conn) : (s.modConn k f).pln = s.pln := rfl
@[simp] theorem State.modConn_memory (s : State) (k : Nat) (f : Conn → Conn) : (s.modConn k f).memory = s.memory := rfl
@[simp] theorem State.modConn_fls (s : State) (k : Nat) (f : Conn → Conn) : (s.modConn k f).fls = s.fls := rfl
@[simp] theorem State.modConn_lnk (s : State) (k : Nat) (f : Conn → Conn) : (s.modConn k f).lnk = s.lnk := rfl
@[simp] theorem State.modConn_shp (s : State) (k : Nat) (f : Conn → Conn) : (s.modConn k f).shp = s.shp := rfl
@[simp] theorem State.modConn_cmd (s : State) (k : Nat) (f : Conn → Conn) : (s.modConn k f).cmd = s.cmd := rfl
@[simp] theorem State.modConn_blt (s : State) (k : Nat) (f : Conn → Conn) : (s.modConn k f).blt = s.blt := rfl
@[simp] theorem State.modConn_sec (s : State) (k : Nat) (f : Conn → Conn) : (s.modConn k f).sec = s.sec := rfl
@[simp] theorem State.modConn_host (s : State) (k : Nat) (f : Conn → Conn) : (s.modConn k f).host = s.host := rfl
@[simp] theorem State.modConn_pwr (s : State) (k : Nat) (f : Conn → Conn) : (s.modConn k f).pwr = s.pwr := rfl
@[simp] theorem State.modConn_out (s : State) (k : Nat) (f : Conn → Conn) : (s.modConn k f).out = s.out := rfl
@[simp] theorem State.modConn_freeCtr (s : State) (k : Nat) (f : Conn → Conn) : (s.modConn k f).freeCtr = s.freeCtr := rfl
@[simp] theorem State.modConn_pending (s : State) (k : Nat) (f : Conn → Conn) : (s.modConn k f).pending = s.pending := rfl

@[simp] theorem State.modPort_bar (s : State) (p : Nat) (f : Port → Port) : (s.modPort p f).bar = s.bar := rfl
@[simp] theorem State.modPort_board (s : State) (p : Nat) (f : Port → Port) : (s.modPort p f).board = s.board := rfl
@[simp] theorem State.modPort_stk (s : State) (p : Nat) (f : Port → Port) : (s.modPort p f).stk = s.stk := rfl
@[simp] theorem State.modPort_sat (s : State) (p : Nat) (f : Port → Port) : (s.modPort p f).sat = s.sat := rfl
@[simp] theorem State.modPort_kva (s : State) (p : Nat) (f : Port → Port) : (s.modPort p f).kva = s.kva := rfl
@[simp] theorem State.modPort_cores (s : State) (p : Nat) (f : Port → Port) : (s.modPort p f).cores = s.cores := rfl
@[simp] theorem State.modPort_pln (s : State) (p : Nat) (f : Port → Port) : (s.modPort p f).pln = s.pln := rfl
@[simp] theorem State.modPort_memory (s : State) (p : Nat) (f : Port → Port) : (s.modPort p f).memory = s.memory := rfl
@[simp] theorem State.modPort_fls (s : State) (p : Nat) (f : Port → Port) : (s.modPort p f).fls = s.fls := rfl
@[simp] theorem State.modPort_xpt (s : State) (p : Nat) (f : Port → Port) : (s.modPort p f).xpt = s.xpt := rfl
@[simp] theorem State.modPort_shp (s : State) (p : Nat) (f : Port → Port) : (s.modPort p f).shp = s.shp := rfl
@[simp] theorem State.modPort_cmd (s : State) (p : Nat) (f : Port → Port) : (s.modPort p f).cmd = s.cmd := rfl
@[simp] theorem State.modPort_blt (s : State) (p : Nat) (f : Port → Port) : (s.modPort p f).blt = s.blt := rfl
@[simp] theorem State.modPort_sec (s : State) (p : Nat) (f : Port → Port) : (s.modPort p f).sec = s.sec := rfl
@[simp] theorem State.modPort_host (s : State) (p : Nat) (f : Port → Port) : (s.modPort p f).host = s.host := rfl
@[simp] theorem State.modPort_pwr (s : State) (p : Nat) (f : Port → Port) : (s.modPort p f).pwr = s.pwr := rfl
@[simp] theorem State.modPort_out (s : State) (p : Nat) (f : Port → Port) : (s.modPort p f).out = s.out := rfl
@[simp] theorem State.modPort_freeCtr (s : State) (p : Nat) (f : Port → Port) : (s.modPort p f).freeCtr = s.freeCtr := rfl
@[simp] theorem State.modPort_pending (s : State) (p : Nat) (f : Port → Port) : (s.modPort p f).pending = s.pending := rfl

@[simp] theorem State.modThread_bar (s : State) (k : Nat) (f : Thread → Thread) : (s.modThread k f).bar = s.bar := rfl
@[simp] theorem State.modThread_board (s : State) (k : Nat) (f : Thread → Thread) : (s.modThread k f).board = s.board := rfl
@[simp] theorem State.modThread_stk (s : State) (k : Nat) (f : Thread → Thread) : (s.modThread k f).stk = s.stk := rfl
@[simp] theorem State.modThread_sat (s : State) (k : Nat) (f : Thread → Thread) : (s.modThread k f).sat = s.sat := rfl
@[simp] theorem State.modThread_kva (s : State) (k : Nat) (f : Thread → Thread) : (s.modThread k f).kva = s.kva := rfl
@[simp] theorem State.modThread_pln (s : State) (k : Nat) (f : Thread → Thread) : (s.modThread k f).pln = s.pln := rfl
@[simp] theorem State.modThread_memory (s : State) (k : Nat) (f : Thread → Thread) : (s.modThread k f).memory = s.memory := rfl
@[simp] theorem State.modThread_fls (s : State) (k : Nat) (f : Thread → Thread) : (s.modThread k f).fls = s.fls := rfl
@[simp] theorem State.modThread_lnk (s : State) (k : Nat) (f : Thread → Thread) : (s.modThread k f).lnk = s.lnk := rfl
@[simp] theorem State.modThread_xpt (s : State) (k : Nat) (f : Thread → Thread) : (s.modThread k f).xpt = s.xpt := rfl
@[simp] theorem State.modThread_shp (s : State) (k : Nat) (f : Thread → Thread) : (s.modThread k f).shp = s.shp := rfl
@[simp] theorem State.modThread_cmd (s : State) (k : Nat) (f : Thread → Thread) : (s.modThread k f).cmd = s.cmd := rfl
@[simp] theorem State.modThread_blt (s : State) (k : Nat) (f : Thread → Thread) : (s.modThread k f).blt = s.blt := rfl
@[simp] theorem State.modThread_sec (s : State) (k : Nat) (f : Thread → Thread) : (s.modThread k f).sec = s.sec := rfl
@[simp] theorem State.modThread_host (s : State) (k : Nat) (f : Thread → Thread) : (s.modThread k f).host = s.host := rfl
@[simp] theorem State.modThread_pwr (s : State) (k : Nat) (f : Thread → Thread) : (s.modThread k f).pwr = s.pwr := rfl
@[simp] theorem State.modThread_out (s : State) (k : Nat) (f : Thread → Thread) : (s.modThread k f).out = s.out := rfl
@[simp] theorem State.modThread_freeCtr (s : State) (k : Nat) (f : Thread → Thread) : (s.modThread k f).freeCtr = s.freeCtr := rfl
@[simp] theorem State.modThread_pending (s : State) (k : Nat) (f : Thread → Thread) : (s.modThread k f).pending = s.pending := rfl

@[simp] theorem State.modBlock_bar (s : State) (k : Nat) (f : FlsBlock → FlsBlock) : (s.modBlock k f).bar = s.bar := rfl
@[simp] theorem State.modBlock_board (s : State) (k : Nat) (f : FlsBlock → FlsBlock) : (s.modBlock k f).board = s.board := rfl
@[simp] theorem State.modBlock_stk (s : State) (k : Nat) (f : FlsBlock → FlsBlock) : (s.modBlock k f).stk = s.stk := rfl
@[simp] theorem State.modBlock_sat (s : State) (k : Nat) (f : FlsBlock → FlsBlock) : (s.modBlock k f).sat = s.sat := rfl
@[simp] theorem State.modBlock_kva (s : State) (k : Nat) (f : FlsBlock → FlsBlock) : (s.modBlock k f).kva = s.kva := rfl
@[simp] theorem State.modBlock_cores (s : State) (k : Nat) (f : FlsBlock → FlsBlock) : (s.modBlock k f).cores = s.cores := rfl
@[simp] theorem State.modBlock_pln (s : State) (k : Nat) (f : FlsBlock → FlsBlock) : (s.modBlock k f).pln = s.pln := rfl
@[simp] theorem State.modBlock_memory (s : State) (k : Nat) (f : FlsBlock → FlsBlock) : (s.modBlock k f).memory = s.memory := rfl
@[simp] theorem State.modBlock_lnk (s : State) (k : Nat) (f : FlsBlock → FlsBlock) : (s.modBlock k f).lnk = s.lnk := rfl
@[simp] theorem State.modBlock_xpt (s : State) (k : Nat) (f : FlsBlock → FlsBlock) : (s.modBlock k f).xpt = s.xpt := rfl
@[simp] theorem State.modBlock_shp (s : State) (k : Nat) (f : FlsBlock → FlsBlock) : (s.modBlock k f).shp = s.shp := rfl
@[simp] theorem State.modBlock_cmd (s : State) (k : Nat) (f : FlsBlock → FlsBlock) : (s.modBlock k f).cmd = s.cmd := rfl
@[simp] theorem State.modBlock_blt (s : State) (k : Nat) (f : FlsBlock → FlsBlock) : (s.modBlock k f).blt = s.blt := rfl
@[simp] theorem State.modBlock_sec (s : State) (k : Nat) (f : FlsBlock → FlsBlock) : (s.modBlock k f).sec = s.sec := rfl
@[simp] theorem State.modBlock_host (s : State) (k : Nat) (f : FlsBlock → FlsBlock) : (s.modBlock k f).host = s.host := rfl
@[simp] theorem State.modBlock_pwr (s : State) (k : Nat) (f : FlsBlock → FlsBlock) : (s.modBlock k f).pwr = s.pwr := rfl
@[simp] theorem State.modBlock_out (s : State) (k : Nat) (f : FlsBlock → FlsBlock) : (s.modBlock k f).out = s.out := rfl
@[simp] theorem State.modBlock_freeCtr (s : State) (k : Nat) (f : FlsBlock → FlsBlock) : (s.modBlock k f).freeCtr = s.freeCtr := rfl
@[simp] theorem State.modBlock_pending (s : State) (k : Nat) (f : FlsBlock → FlsBlock) : (s.modBlock k f).pending = s.pending := rfl

@[simp] theorem State.drawNonce_bar (s : State) : (s.drawNonce).bar = s.bar := rfl
@[simp] theorem State.drawNonce_board (s : State) : (s.drawNonce).board = s.board := rfl
@[simp] theorem State.drawNonce_stk (s : State) : (s.drawNonce).stk = s.stk := rfl
@[simp] theorem State.drawNonce_sat (s : State) : (s.drawNonce).sat = s.sat := rfl
@[simp] theorem State.drawNonce_kva (s : State) : (s.drawNonce).kva = s.kva := rfl
@[simp] theorem State.drawNonce_cores (s : State) : (s.drawNonce).cores = s.cores := rfl
@[simp] theorem State.drawNonce_pln (s : State) : (s.drawNonce).pln = s.pln := rfl
@[simp] theorem State.drawNonce_memory (s : State) : (s.drawNonce).memory = s.memory := rfl
@[simp] theorem State.drawNonce_fls (s : State) : (s.drawNonce).fls = s.fls := rfl
@[simp] theorem State.drawNonce_lnk (s : State) : (s.drawNonce).lnk = s.lnk := rfl
@[simp] theorem State.drawNonce_xpt (s : State) : (s.drawNonce).xpt = s.xpt := rfl
@[simp] theorem State.drawNonce_shp (s : State) : (s.drawNonce).shp = s.shp := rfl
@[simp] theorem State.drawNonce_cmd (s : State) : (s.drawNonce).cmd = s.cmd := rfl
@[simp] theorem State.drawNonce_blt (s : State) : (s.drawNonce).blt = s.blt := rfl
@[simp] theorem State.drawNonce_host (s : State) : (s.drawNonce).host = s.host := rfl
@[simp] theorem State.drawNonce_pwr (s : State) : (s.drawNonce).pwr = s.pwr := rfl
@[simp] theorem State.drawNonce_out (s : State) : (s.drawNonce).out = s.out := rfl
@[simp] theorem State.drawNonce_freeCtr (s : State) : (s.drawNonce).freeCtr = s.freeCtr := rfl
@[simp] theorem State.drawNonce_pending (s : State) : (s.drawNonce).pending = s.pending := rfl

@[simp] theorem State.drawBytes_bar (s : State) (n : Nat) : ((s.drawBytes n).1).bar = s.bar := rfl
@[simp] theorem State.drawBytes_board (s : State) (n : Nat) : ((s.drawBytes n).1).board = s.board := rfl
@[simp] theorem State.drawBytes_stk (s : State) (n : Nat) : ((s.drawBytes n).1).stk = s.stk := rfl
@[simp] theorem State.drawBytes_sat (s : State) (n : Nat) : ((s.drawBytes n).1).sat = s.sat := rfl
@[simp] theorem State.drawBytes_kva (s : State) (n : Nat) : ((s.drawBytes n).1).kva = s.kva := rfl
@[simp] theorem State.drawBytes_cores (s : State) (n : Nat) : ((s.drawBytes n).1).cores = s.cores := rfl
@[simp] theorem State.drawBytes_pln (s : State) (n : Nat) : ((s.drawBytes n).1).pln = s.pln := rfl
@[simp] theorem State.drawBytes_memory (s : State) (n : Nat) : ((s.drawBytes n).1).memory = s.memory := rfl
@[simp] theorem State.drawBytes_fls (s : State) (n : Nat) : ((s.drawBytes n).1).fls = s.fls := rfl
@[simp] theorem State.drawBytes_lnk (s : State) (n : Nat) : ((s.drawBytes n).1).lnk = s.lnk := rfl
@[simp] theorem State.drawBytes_xpt (s : State) (n : Nat) : ((s.drawBytes n).1).xpt = s.xpt := rfl
@[simp] theorem State.drawBytes_shp (s : State) (n : Nat) : ((s.drawBytes n).1).shp = s.shp := rfl
@[simp] theorem State.drawBytes_cmd (s : State) (n : Nat) : ((s.drawBytes n).1).cmd = s.cmd := rfl
@[simp] theorem State.drawBytes_blt (s : State) (n : Nat) : ((s.drawBytes n).1).blt = s.blt := rfl
@[simp] theorem State.drawBytes_sec (s : State) (n : Nat) : ((s.drawBytes n).1).sec = s.sec := rfl
@[simp] theorem State.drawBytes_host (s : State) (n : Nat) : ((s.drawBytes n).1).host = s.host := rfl
@[simp] theorem State.drawBytes_pwr (s : State) (n : Nat) : ((s.drawBytes n).1).pwr = s.pwr := rfl
@[simp] theorem State.drawBytes_out (s : State) (n : Nat) : ((s.drawBytes n).1).out = s.out := rfl
@[simp] theorem State.drawBytes_pending (s : State) (n : Nat) : ((s.drawBytes n).1).pending = s.pending := rfl

/-! ### The changed object, and the others -/

theorem afind_amod {α : Type} (t : Assoc α) (i j : Nat) (f : α → α) : afind (amod t i f) j = if j = i then (afind t i).map f else afind t j := by
  unfold amod
  cases h : afind t i with
  | none => by_cases e : j = i <;> simp [e, h]
  | some v =>
    by_cases e : j = i
    · simp [e]
    · simp [e, afind_aput_ne t (f v) e]

theorem State.satAt_modSat (s : State) (k j : Nat) (f : Sat → Sat) :
    (s.modSat k f).satAt j = if j = k then (s.satAt k).map f else s.satAt j := afind_amod _ _ _ _

theorem State.conn_modConn (s : State) (k j : Nat) (f : Conn → Conn) :
    (s.modConn k f).conn j = if j = k then (s.conn k).map f else s.conn j := afind_amod _ _ _ _

theorem State.thread_modThread (s : State) (k j : Nat) (f : Thread → Thread) :
    (s.modThread k f).thread j = if j = k then f (s.thread k) else s.thread j := by
  by_cases e : j = k
  · subst e; simp [State.thread, State.modThread, agetD_aput_same]
  · simp [State.thread, State.modThread, e, agetD_aput_ne _ _ _ e]

theorem State.fblock_modBlock (s : State) (k : Nat) (f : FlsBlock → FlsBlock) : (s.modBlock k f).fblock k = f (s.fblock k) := by
  show agetD (aput s.fls.blocks k (f (s.fblock k))) k _ = _
  exact agetD_aput_same _ _ _ _

theorem State.port_modPort_ne (s : State) {p q : Nat} (f : Port → Port) (h : q ≠ p) : (s.modPort p f).port q = s.port q := by
  simp [State.port, State.modPort, Ne.symm h]

/-! ### Encryption -/

@[simp] theorem gcmApply_length (key iv l : List Byte) : (gcmApply key iv l).length = l.length := by simp [gcmApply]

@[simp] theorem gcmApply_gcmApply (key iv l : List Byte) : gcmApply key iv (gcmApply key iv l) = l := by
  apply List.ext_getElem <;> simp [gcmApply]

theorem gcmApply_take (key iv l : List Byte) (n : Nat) : gcmApply key iv (l.take n) = (gcmApply key iv l).take n := by
  apply List.ext_getElem <;> simp [gcmApply]

theorem leBytes_length (n v : Nat) : (leBytes n v).length = n := by
  induction n generalizing v with
  | zero => rfl
  | succ n ih => simp [leBytes, ih]

theorem le_roundUp64 (n : Nat) : n ≤ roundUp n 64 := by unfold roundUp; omega

/-- Padding adds bytes behind. -/
theorem padTo_of_le {n : Nat} {l : List Byte} (h : l.length ≤ n) : ∃ pad, padTo n l = l ++ pad :=
  ⟨(zeros (n - l.length)).take (n - l.length), by unfold padTo; rw [List.take_append, List.take_of_length_le h]⟩

/-- A block that was sealed opens to the form that was sealed, before its tag and padding (R303): its header says its length. -/
theorem openBlock_sealBlock (key : List Byte) (id : BitVec 64) (k : Nat) (form : List Byte) (h : 12 ≤ form.length)
    (n : leNat ((form.take 12).drop 8) = form.length) :
    openBlock key id k (sealBlock key id k form) =
      .ok (form ++ (sealBlock key id k form).drop form.length) := by
  obtain ⟨pad, e⟩ : ∃ pad, sealBlock key id k form =
      gcmApply key (blockIv k) form ++ (blockTag key id k (gcmApply key (blockIv k) form) ++ pad) := by
    obtain ⟨pad, e⟩ := padTo_of_le (l := gcmApply key (blockIv k) form ++ blockTag key id k (gcmApply key (blockIv k) form)) (le_roundUp64 _)
    refine ⟨pad, ?_⟩
    unfold sealBlock storedUnit
    rw [List.length_append] at e
    rw [e, List.append_assoc]
  have t : (blockTag key id k (gcmApply key (blockIv k) form)).length = 16 := leBytes_length _ _
  have l : sealedLen key k (sealBlock key id k form) = form.length := by
    unfold sealedLen
    rw [e, List.take_append_of_le_length (by simpa using h), gcmApply_take, gcmApply_gcmApply, n]
  have a : (sealBlock key id k form).take form.length = gcmApply key (blockIv k) form := by
    rw [e]; exact List.take_left' (by simp)
  have d : (sealBlock key id k form).drop form.length = blockTag key id k (gcmApply key (blockIv k) form) ++ pad := by
    rw [e]; exact List.drop_left' (by simp)
  have len : form.length + 16 ≤ (sealBlock key id k form).length := by rw [e]; simp [t]
  unfold openBlock
  simp only [l, sealedForm, a, d]
  rw [if_neg (Nat.not_lt.mpr len), List.take_left' t]
  simp

end Sys2Proof.Machine
end

