-- ==== Sys2Proof/Laws/State.lean ====
section
/-!
SUPPORT. Laws/State.lean: what the primitive updates of the state leave alone: one lemma per field per update.
-/
namespace Sys2Proof.Machine

set_option Elab.async false

@[simp] theorem State.atTime_bar (s : State) (t : Nat) : (s.at_ t).bar = s.bar := rfl
@[simp] theorem State.atTime_board (s : State) (t : Nat) : (s.at_ t).board = s.board := rfl
@[simp] theorem State.atTime_sat (s : State) (t : Nat) : (s.at_ t).sat = s.sat := rfl
@[simp] theorem State.atTime_kva (s : State) (t : Nat) : (s.at_ t).kva = s.kva := rfl
@[simp] theorem State.atTime_cores (s : State) (t : Nat) : (s.at_ t).cores = s.cores := rfl
@[simp] theorem State.atTime_pln (s : State) (t : Nat) : (s.at_ t).pln = s.pln := rfl
@[simp] theorem State.atTime_memory (s : State) (t : Nat) : (s.at_ t).memory = s.memory := rfl
@[simp] theorem State.atTime_fls (s : State) (t : Nat) : (s.at_ t).fls = s.fls := rfl
@[simp] theorem State.atTime_lnk (s : State) (t : Nat) : (s.at_ t).lnk = s.lnk := rfl
@[simp] theorem State.atTime_xpt (s : State) (t : Nat) : (s.at_ t).xpt = s.xpt := rfl
@[simp] theorem State.atTime_shp (s : State) (t : Nat) : (s.at_ t).shp = s.shp := rfl
@[simp] theorem State.atTime_cmd (s : State) (t : Nat) : (s.at_ t).cmd = s.cmd := rfl
@[simp] theorem State.atTime_blt (s : State) (t : Nat) : (s.at_ t).blt = s.blt := rfl
@[simp] theorem State.atTime_sec (s : State) (t : Nat) : (s.at_ t).sec = s.sec := rfl
@[simp] theorem State.atTime_host (s : State) (t : Nat) : (s.at_ t).host = s.host := rfl
@[simp] theorem State.atTime_pwr (s : State) (t : Nat) : (s.at_ t).pwr = s.pwr := rfl
@[simp] theorem State.atTime_out (s : State) (t : Nat) : (s.at_ t).out = s.out := rfl
@[simp] theorem State.atTime_freeCtr (s : State) (t : Nat) : (s.at_ t).freeCtr = s.freeCtr := rfl
@[simp] theorem State.atTime_pending (s : State) (t : Nat) : (s.at_ t).pending = s.pending := rfl

@[simp] theorem State.emit_bar (s : State) (o : Out) : (s.emit o).bar = s.bar := rfl
@[simp] theorem State.emit_board (s : State) (o : Out) : (s.emit o).board = s.board := rfl
@[simp] theorem State.emit_stk (s : State) (o : Out) : (s.emit o).stk = s.stk := rfl
@[simp] theorem State.emit_sat (s : State) (o : Out) : (s.emit o).sat = s.sat := rfl
@[simp] theorem State.emit_kva (s : State) (o : Out) : (s.emit o).kva = s.kva := rfl
@[simp] theorem State.emit_cores (s : State) (o : Out) : (s.emit o).cores = s.cores := rfl
@[simp] theorem State.emit_pln (s : State) (o : Out) : (s.emit o).pln = s.pln := rfl
@[simp] theorem State.emit_memory (s : State) (o : Out) : (s.emit o).memory = s.memory := rfl
@[simp] theorem State.emit_fls (s : State) (o : Out) : (s.emit o).fls = s.fls := rfl
@[simp] theorem State.emit_lnk (s : State) (o : Out) : (s.emit o).lnk = s.lnk := rfl
@[simp] theorem State.emit_xpt (s : State) (o : Out) : (s.emit o).xpt = s.xpt := rfl
@[simp] theorem State.emit_shp (s : State) (o : Out) : (s.emit o).shp = s.shp := rfl
@[simp] theorem State.emit_cmd (s : State) (o : Out) : (s.emit o).cmd = s.cmd := rfl
@[simp] theorem State.emit_blt (s : State) (o : Out) : (s.emit o).blt = s.blt := rfl
@[simp] theorem State.emit_sec (s : State) (o : Out) : (s.emit o).sec = s.sec := rfl
@[simp] theorem State.emit_host (s : State) (o : Out) : (s.emit o).host = s.host := rfl
@[simp] theorem State.emit_pwr (s : State) (o : Out) : (s.emit o).pwr = s.pwr := rfl
@[simp] theorem State.emit_freeCtr (s : State) (o : Out) : (s.emit o).freeCtr = s.freeCtr := rfl
@[simp] theorem State.emit_pending (s : State) (o : Out) : (s.emit o).pending = s.pending := rfl

@[simp] theorem State.free_bar (s : State) : (s.free.2).bar = s.bar := rfl
@[simp] theorem State.free_board (s : State) : (s.free.2).board = s.board := rfl
@[simp] theorem State.free_stk (s : State) : (s.free.2).stk = s.stk := rfl
@[simp] theorem State.free_sat (s : State) : (s.free.2).sat = s.sat := rfl
@[simp] theorem State.free_kva (s : State) : (s.free.2).kva = s.kva := rfl
@[simp] theorem State.free_cores (s : State) : (s.free.2).cores = s.cores := rfl
@[simp] theorem State.free_pln (s : State) : (s.free.2).pln = s.pln := rfl
@[simp] theorem State.free_memory (s : State) : (s.free.2).memory = s.memory := rfl
@[simp] theorem State.free_fls (s : State) : (s.free.2).fls = s.fls := rfl
@[simp] theorem State.free_lnk (s : State) : (s.free.2).lnk = s.lnk := rfl
@[simp] theorem State.free_xpt (s : State) : (s.free.2).xpt = s.xpt := rfl
@[simp] theorem State.free_shp (s : State) : (s.free.2).shp = s.shp := rfl
@[simp] theorem State.free_cmd (s : State) : (s.free.2).cmd = s.cmd := rfl
@[simp] theorem State.free_blt (s : State) : (s.free.2).blt = s.blt := rfl
@[simp] theorem State.free_sec (s : State) : (s.free.2).sec = s.sec := rfl
@[simp] theorem State.free_host (s : State) : (s.free.2).host = s.host := rfl
@[simp] theorem State.free_pwr (s : State) : (s.free.2).pwr = s.pwr := rfl
@[simp] theorem State.free_out (s : State) : (s.free.2).out = s.out := rfl
@[simp] theorem State.free_pending (s : State) : (s.free.2).pending = s.pending := rfl

@[simp] theorem State.setReg_board (s : State) (o v : Nat) : (s.setReg o v).board = s.board := rfl
@[simp] theorem State.setReg_stk (s : State) (o v : Nat) : (s.setReg o v).stk = s.stk := rfl
@[simp] theorem State.setReg_sat (s : State) (o v : Nat) : (s.setReg o v).sat = s.sat := rfl
@[simp] theorem State.setReg_kva (s : State) (o v : Nat) : (s.setReg o v).kva = s.kva := rfl
@[simp] theorem State.setReg_cores (s : State) (o v : Nat) : (s.setReg o v).cores = s.cores := rfl
@[simp] theorem State.setReg_pln (s : State) (o v : Nat) : (s.setReg o v).pln = s.pln := rfl
@[simp] theorem State.setReg_memory (s : State) (o v : Nat) : (s.setReg o v).memory = s.memory := rfl
@[simp] theorem State.setReg_fls (s : State) (o v : Nat) : (s.setReg o v).fls = s.fls := rfl
@[simp] theorem State.setReg_lnk (s : State) (o v : Nat) : (s.setReg o v).lnk = s.lnk := rfl
@[simp] theorem State.setReg_xpt (s : State) (o v : Nat) : (s.setReg o v).xpt = s.xpt := rfl
@[simp] theorem State.setReg_shp (s : State) (o v : Nat) : (s.setReg o v).shp = s.shp := rfl
@[simp] theorem State.setReg_cmd (s : State) (o v : Nat) : (s.setReg o v).cmd = s.cmd := rfl
@[simp] theorem State.setReg_blt (s : State) (o v : Nat) : (s.setReg o v).blt = s.blt := rfl
@[simp] theorem State.setReg_sec (s : State) (o v : Nat) : (s.setReg o v).sec = s.sec := rfl
@[simp] theorem State.setReg_host (s : State) (o v : Nat) : (s.setReg o v).host = s.host := rfl
@[simp] theorem State.setReg_pwr (s : State) (o v : Nat) : (s.setReg o v).pwr = s.pwr := rfl
@[simp] theorem State.setReg_out (s : State) (o v : Nat) : (s.setReg o v).out = s.out := rfl
@[simp] theorem State.setReg_freeCtr (s : State) (o v : Nat) : (s.setReg o v).freeCtr = s.freeCtr := rfl
@[simp] theorem State.setReg_pending (s : State) (o v : Nat) : (s.setReg o v).pending = s.pending := rfl

@[simp] theorem State.setFld_board (s : State) (o hi lo v : Nat) : (s.setFld o hi lo v).board = s.board := rfl
@[simp] theorem State.setFld_stk (s : State) (o hi lo v : Nat) : (s.setFld o hi lo v).stk = s.stk := rfl
@[simp] theorem State.setFld_sat (s : State) (o hi lo v : Nat) : (s.setFld o hi lo v).sat = s.sat := rfl
@[simp] theorem State.setFld_kva (s : State) (o hi lo v : Nat) : (s.setFld o hi lo v).kva = s.kva := rfl
@[simp] theorem State.setFld_cores (s : State) (o hi lo v : Nat) : (s.setFld o hi lo v).cores = s.cores := rfl
@[simp] theorem State.setFld_pln (s : State) (o hi lo v : Nat) : (s.setFld o hi lo v).pln = s.pln := rfl
@[simp] theorem State.setFld_memory (s : State) (o hi lo v : Nat) : (s.setFld o hi lo v).memory = s.memory := rfl
@[simp] theorem State.setFld_fls (s : State) (o hi lo v : Nat) : (s.setFld o hi lo v).fls = s.fls := rfl
@[simp] theorem State.setFld_lnk (s : State) (o hi lo v : Nat) : (s.setFld o hi lo v).lnk = s.lnk := rfl
@[simp] theorem State.setFld_xpt (s : State) (o hi lo v : Nat) : (s.setFld o hi lo v).xpt = s.xpt := rfl
@[simp] theorem State.setFld_shp (s : State) (o hi lo v : Nat) : (s.setFld o hi lo v).shp = s.shp := rfl
@[simp] theorem State.setFld_cmd (s : State) (o hi lo v : Nat) : (s.setFld o hi lo v).cmd = s.cmd := rfl
@[simp] theorem State.setFld_blt (s : State) (o hi lo v : Nat) : (s.setFld o hi lo v).blt = s.blt := rfl
@[simp] theorem State.setFld_sec (s : State) (o hi lo v : Nat) : (s.setFld o hi lo v).sec = s.sec := rfl
@[simp] theorem State.setFld_host (s : State) (o hi lo v : Nat) : (s.setFld o hi lo v).host = s.host := rfl
@[simp] theorem State.setFld_pwr (s : State) (o hi lo v : Nat) : (s.setFld o hi lo v).pwr = s.pwr := rfl
@[simp] theorem State.setFld_out (s : State) (o hi lo v : Nat) : (s.setFld o hi lo v).out = s.out := rfl
@[simp] theorem State.setFld_freeCtr (s : State) (o hi lo v : Nat) : (s.setFld o hi lo v).freeCtr = s.freeCtr := rfl
@[simp] theorem State.setFld_pending (s : State) (o hi lo v : Nat) : (s.setFld o hi lo v).pending = s.pending := rfl

@[simp] theorem State.count_board (s : State) (o n : Nat) : (s.count o n).board = s.board := rfl
@[simp] theorem State.count_stk (s : State) (o n : Nat) : (s.count o n).stk = s.stk := rfl
@[simp] theorem State.count_sat (s : State) (o n : Nat) : (s.count o n).sat = s.sat := rfl
@[simp] theorem State.count_kva (s : State) (o n : Nat) : (s.count o n).kva = s.kva := rfl
@[simp] theorem State.count_cores (s : State) (o n : Nat) : (s.count o n).cores = s.cores := rfl
@[simp] theorem State.count_pln (s : State) (o n : Nat) : (s.count o n).pln = s.pln := rfl
@[simp] theorem State.count_memory (s : State) (o n : Nat) : (s.count o n).memory = s.memory := rfl
@[simp] theorem State.count_fls (s : State) (o n : Nat) : (s.count o n).fls = s.fls := rfl
@[simp] theorem State.count_lnk (s : State) (o n : Nat) : (s.count o n).lnk = s.lnk := rfl
@[simp] theorem State.count_xpt (s : State) (o n : Nat) : (s.count o n).xpt = s.xpt := rfl
@[simp] theorem State.count_shp (s : State) (o n : Nat) : (s.count o n).shp = s.shp := rfl
@[simp] theorem State.count_cmd (s : State) (o n : Nat) : (s.count o n).cmd = s.cmd := rfl
@[simp] theorem State.count_blt (s : State) (o n : Nat) : (s.count o n).blt = s.blt := rfl
@[simp] theorem State.count_sec (s : State) (o n : Nat) : (s.count o n).sec = s.sec := rfl
@[simp] theorem State.count_host (s : State) (o n : Nat) : (s.count o n).host = s.host := rfl
@[simp] theorem State.count_pwr (s : State) (o n : Nat) : (s.count o n).pwr = s.pwr := rfl
@[simp] theorem State.count_out (s : State) (o n : Nat) : (s.count o n).out = s.out := rfl
@[simp] theorem State.count_freeCtr (s : State) (o n : Nat) : (s.count o n).freeCtr = s.freeCtr := rfl
@[simp] theorem State.count_pending (s : State) (o n : Nat) : (s.count o n).pending = s.pending := rfl

@[simp] theorem State.count64_board (s : State) (o n : Nat) : (s.count64 o n).board = s.board := rfl
@[simp] theorem State.count64_stk (s : State) (o n : Nat) : (s.count64 o n).stk = s.stk := rfl
@[simp] theorem State.count64_sat (s : State) (o n : Nat) : (s.count64 o n).sat = s.sat := rfl
@[simp] theorem State.count64_kva (s : State) (o n : Nat) : (s.count64 o n).kva = s.kva := rfl
@[simp] theorem State.count64_cores (s : State) (o n : Nat) : (s.count64 o n).cores = s.cores := rfl
@[simp] theorem State.count64_pln (s : State) (o n : Nat) : (s.count64 o n).pln = s.pln := rfl
@[simp] theorem State.count64_memory (s : State) (o n : Nat) : (s.count64 o n).memory = s.memory := rfl
@[simp] theorem State.count64_fls (s : State) (o n : Nat) : (s.count64 o n).fls = s.fls := rfl
@[simp] theorem State.count64_lnk (s : State) (o n : Nat) : (s.count64 o n).lnk = s.lnk := rfl
@[simp] theorem State.count64_xpt (s : State) (o n : Nat) : (s.count64 o n).xpt = s.xpt := rfl
@[simp] theorem State.count64_shp (s : State) (o n : Nat) : (s.count64 o n).shp = s.shp := rfl
@[simp] theorem State.count64_cmd (s : State) (o n : Nat) : (s.count64 o n).cmd = s.cmd := rfl
@[simp] theorem State.count64_blt (s : State) (o n : Nat) : (s.count64 o n).blt = s.blt := rfl
@[simp] theorem State.count64_sec (s : State) (o n : Nat) : (s.count64 o n).sec = s.sec := rfl
@[simp] theorem State.count64_host (s : State) (o n : Nat) : (s.count64 o n).host = s.host := rfl
@[simp] theorem State.count64_pwr (s : State) (o n : Nat) : (s.count64 o n).pwr = s.pwr := rfl
@[simp] theorem State.count64_out (s : State) (o n : Nat) : (s.count64 o n).out = s.out := rfl
@[simp] theorem State.count64_freeCtr (s : State) (o n : Nat) : (s.count64 o n).freeCtr = s.freeCtr := rfl
@[simp] theorem State.count64_pending (s : State) (o n : Nat) : (s.count64 o n).pending = s.pending := rfl

@[simp] theorem State.hostWrite_bar (s : State) (fn a : Nat) (l : List Byte) : (s.hostWrite fn a l).bar = s.bar := rfl
@[simp] theorem State.hostWrite_board (s : State) (fn a : Nat) (l : List Byte) : (s.hostWrite fn a l).board = s.board := rfl
@[simp] theorem State.hostWrite_stk (s : State) (fn a : Nat) (l : List Byte) : (s.hostWrite fn a l).stk = s.stk := rfl
@[simp] theorem State.hostWrite_sat (s : State) (fn a : Nat) (l : List Byte) : (s.hostWrite fn a l).sat = s.sat := rfl
@[simp] theorem State.hostWrite_kva (s : State) (fn a : Nat) (l : List Byte) : (s.hostWrite fn a l).kva = s.kva := rfl
@[simp] theorem State.hostWrite_cores (s : State) (fn a : Nat) (l : List Byte) : (s.hostWrite fn a l).cores = s.cores := rfl
@[simp] theorem State.hostWrite_pln (s : State) (fn a : Nat) (l : List Byte) : (s.hostWrite fn a l).pln = s.pln := rfl
@[simp] theorem State.hostWrite_memory (s : State) (fn a : Nat) (l : List Byte) : (s.hostWrite fn a l).memory = s.memory := rfl
@[simp] theorem State.hostWrite_fls (s : State) (fn a : Nat) (l : List Byte) : (s.hostWrite fn a l).fls = s.fls := rfl
@[simp] theorem State.hostWrite_lnk (s : State) (fn a : Nat) (l : List Byte) : (s.hostWrite fn a l).lnk = s.lnk := rfl
@[simp] theorem State.hostWrite_xpt (s : State) (fn a : Nat) (l : List Byte) : (s.hostWrite fn a l).xpt = s.xpt := rfl
@[simp] theorem State.hostWrite_shp (s : State) (fn a : Nat) (l : List Byte) : (s.hostWrite fn a l).shp = s.shp := rfl
@[simp] theorem State.hostWrite_cmd (s : State) (fn a : Nat) (l : List Byte) : (s.hostWrite fn a l).cmd = s.cmd := rfl
@[simp] theorem State.hostWrite_blt (s : State) (fn a : Nat) (l : List Byte) : (s.hostWrite fn a l).blt = s.blt := rfl
@[simp] theorem State.hostWrite_sec (s : State) (fn a : Nat) (l : List Byte) : (s.hostWrite fn a l).sec = s.sec := rfl
@[simp] theorem State.hostWrite_pwr (s : State) (fn a : Nat) (l : List Byte) : (s.hostWrite fn a l).pwr = s.pwr := rfl
@[simp] theorem State.hostWrite_out (s : State) (fn a : Nat) (l : List Byte) : (s.hostWrite fn a l).out = s.out := rfl
@[simp] theorem State.hostWrite_freeCtr (s : State) (fn a : Nat) (l : List Byte) : (s.hostWrite fn a l).freeCtr = s.freeCtr := rfl
@[simp] theorem State.hostWrite_pending (s : State) (fn a : Nat) (l : List Byte) : (s.hostWrite fn a l).pending = s.pending := rfl

@[simp] theorem State.modFn_bar (s : State) (k : Nat) (f : Fn → Fn) : (s.modFn k f).bar = s.bar := rfl
@[simp] theorem State.modFn_board (s : State) (k : Nat) (f : Fn → Fn) : (s.modFn k f).board = s.board := rfl
@[simp] theorem State.modFn_stk (s : State) (k : Nat) (f : Fn → Fn) : (s.modFn k f).stk = s.stk := rfl
@[simp] theorem State.modFn_sat (s : State) (k : Nat) (f : Fn → Fn) : (s.modFn k f).sat = s.sat := rfl
@[simp] theorem State.modFn_kva (s : State) (k : Nat) (f : Fn → Fn) : (s.modFn k f).kva = s.kva := rfl
@[simp] theorem State.modFn_cores (s : State) (k : Nat) (f : Fn → Fn) : (s.modFn k f).cores = s.cores := rfl
@[simp] theorem State.modFn_pln (s : State) (k : Nat) (f : Fn → Fn) : (s.modFn k f).pln = s.pln := rfl
@[simp] theorem State.modFn_memory (s : State) (k : Nat) (f : Fn → Fn) : (s.modFn k f).memory = s.memory := rfl
@[simp] theorem State.modFn_fls (s : State) (k : Nat) (f : Fn → Fn) : (s.modFn k f).fls = s.fls := rfl
@[simp] theorem State.modFn_lnk (s : State) (k : Nat) (f : Fn → Fn) : (s.modFn k f).lnk = s.lnk := rfl
@[simp] theorem State.modFn_xpt (s : State) (k : Nat) (f : Fn → Fn) : (s.modFn k f).xpt = s.xpt := rfl
@[simp] theorem State.modFn_shp (s : State) (k : Nat) (f : Fn → Fn) : (s.modFn k f).shp = s.shp := rfl
@[simp] theorem State.modFn_cmd (s : State) (k : Nat) (f : Fn → Fn) : (s.modFn k f).cmd = s.cmd := rfl
@[simp] theorem State.modFn_blt (s : State) (k : Nat) (f : Fn → Fn) : (s.modFn k f).blt = s.blt := rfl
@[simp] theorem State.modFn_sec (s : State) (k : Nat) (f : Fn → Fn) : (s.modFn k f).sec = s.sec := rfl
@[simp] theorem State.modFn_pwr (s : State) (k : Nat) (f : Fn → Fn) : (s.modFn k f).pwr = s.pwr := rfl
@[simp] theorem State.modFn_out (s : State) (k : Nat) (f : Fn → Fn) : (s.modFn k f).out = s.out := rfl
@[simp] theorem State.modFn_freeCtr (s : State) (k : Nat) (f : Fn → Fn) : (s.modFn k f).freeCtr = s.freeCtr := rfl
@[simp] theorem State.modFn_pending (s : State) (k : Nat) (f : Fn → Fn) : (s.modFn k f).pending = s.pending := rfl

@[simp] theorem State.modWindow_bar (s : State) (w : Nat) (f : Window → Window) : (s.modWindow w f).bar = s.bar := rfl
@[simp] theorem State.modWindow_board (s : State) (w : Nat) (f : Window → Window) : (s.modWindow w f).board = s.board := rfl
@[simp] theorem State.modWindow_stk (s : State) (w : Nat) (f : Window → Window) : (s.modWindow w f).stk = s.stk := rfl
@[simp] theorem State.modWindow_sat (s : State) (w : Nat) (f : Window → Window) : (s.modWindow w f).sat = s.sat := rfl
@[simp] theorem State.modWindow_kva (s : State) (w : Nat) (f : Window → Window) : (s.modWindow w f).kva = s.kva := rfl
@[simp] theorem State.modWindow_cores (s : State) (w : Nat) (f : Window → Window) : (s.modWindow w f).cores = s.cores := rfl
@[simp] theorem State.modWindow_pln (s : State) (w : Nat) (f : Window → Window) : (s.modWindow w f).pln = s.pln := rfl
@[simp] theorem State.modWindow_memory (s : State) (w : Nat) (f : Window → Window) : (s.modWindow w f).memory = s.memory := rfl
@[simp] theorem State.modWindow_fls (s : State) (w : Nat) (f : Window → Window) : (s.modWindow w f).fls = s.fls := rfl
@[simp] theorem State.modWindow_lnk (s : State) (w : Nat) (f : Window → Window) : (s.modWindow w f).lnk = s.lnk := rfl
@[simp] theorem State.modWindow_xpt (s : State) (w : Nat) (f : Window → Window) : (s.modWindow w f).xpt = s.xpt := rfl
@[simp] theorem State.modWindow_shp (s : State) (w : Nat) (f : Window → Window) : (s.modWindow w f).shp = s.shp := rfl
@[simp] theorem State.modWindow_blt (s : State) (w : Nat) (f : Window → Window) : (s.modWindow w f).blt = s.blt := rfl
@[simp] theorem State.modWindow_sec (s : State) (w : Nat) (f : Window → Window) : (s.modWindow w f).sec = s.sec := rfl
@[simp] theorem State.modWindow_host (s : State) (w : Nat) (f : Window → Window) : (s.modWindow w f).host = s.host := rfl
@[simp] theorem State.modWindow_pwr (s : State) (w : Nat) (f : Window → Window) : (s.modWindow w f).pwr = s.pwr := rfl
@[simp] theorem State.modWindow_out (s : State) (w : Nat) (f : Window → Window) : (s.modWindow w f).out = s.out := rfl
@[simp] theorem State.modWindow_freeCtr (s : State) (w : Nat) (f : Window → Window) : (s.modWindow w f).freeCtr = s.freeCtr := rfl
@[simp] theorem State.modWindow_pending (s : State) (w : Nat) (f : Window → Window) : (s.modWindow w f).pending = s.pending := rfl

@[simp] theorem State.modPart_bar (s : State) (p : Nat) (f : Part → Part) : (s.modPart p f).bar = s.bar := rfl
@[simp] theorem State.modPart_board (s : State) (p : Nat) (f : Part → Part) : (s.modPart p f).board = s.board := rfl
@[simp] theorem State.modPart_stk (s : State) (p : Nat) (f : Part → Part) : (s.modPart p f).stk = s.stk := rfl
@[simp] theorem State.modPart_sat (s : State) (p : Nat) (f : Part → Part) : (s.modPart p f).sat = s.sat := rfl
@[simp] theorem State.modPart_kva (s : State) (p : Nat) (f : Part → Part) : (s.modPart p f).kva = s.kva := rfl
@[simp] theorem State.modPart_cores (s : State) (p : Nat) (f : Part → Part) : (s.modPart p f).cores = s.cores := rfl
@[simp] theorem State.modPart_memory (s : State) (p : Nat) (f : Part → Part) : (s.modPart p f).memory = s.memory := rfl
@[simp] theorem State.modPart_fls (s : State) (p : Nat) (f : Part → Part) : (s.modPart p f).fls = s.fls := rfl
@[simp] theorem State.modPart_lnk (s : State) (p : Nat) (f : Part → Part) : (s.modPart p f).lnk = s.lnk := rfl
@[simp] theorem State.modPart_xpt (s : State) (p : Nat) (f : Part → Part) : (s.modPart p f).xpt = s.xpt := rfl
@[simp] theorem State.modPart_shp (s : State) (p : Nat) (f : Part → Part) : (s.modPart p f).shp = s.shp := rfl
@[simp] theorem State.modPart_cmd (s : State) (p : Nat) (f : Part → Part) : (s.modPart p f).cmd = s.cmd := rfl
@[simp] theorem State.modPart_blt (s : State) (p : Nat) (f : Part → Part) : (s.modPart p f).blt = s.blt := rfl
@[simp] theorem State.modPart_sec (s : State) (p : Nat) (f : Part → Part) : (s.modPart p f).sec = s.sec := rfl
@[simp] theorem State.modPart_host (s : State) (p : Nat) (f : Part → Part) : (s.modPart p f).host = s.host := rfl
@[simp] theorem State.modPart_pwr (s : State) (p : Nat) (f : Part → Part) : (s.modPart p f).pwr = s.pwr := rfl
@[simp] theorem State.modPart_out (s : State) (p : Nat) (f : Part → Part) : (s.modPart p f).out = s.out := rfl
@[simp] theorem State.modPart_freeCtr (s : State) (p : Nat) (f : Part → Part) : (s.modPart p f).freeCtr = s.freeCtr := rfl
@[simp] theorem State.modPart_pending (s : State) (p : Nat) (f : Part → Part) : (s.modPart p f).pending = s.pending := rfl

@[simp] theorem State.uncarve_bar (s : State) (o : Nat) : (s.uncarve o).bar = s.bar := rfl
@[simp] theorem State.uncarve_board (s : State) (o : Nat) : (s.uncarve o).board = s.board := rfl
@[simp] theorem State.uncarve_stk (s : State) (o : Nat) : (s.uncarve o).stk = s.stk := rfl
@[simp] theorem State.uncarve_sat (s : State) (o : Nat) : (s.uncarve o).sat = s.sat := rfl
@[simp] theorem State.uncarve_kva (s : State) (o : Nat) : (s.uncarve o).kva = s.kva := rfl
@[simp] theorem State.uncarve_cores (s : State) (o : Nat) : (s.uncarve o).cores = s.cores := rfl
@[simp] theorem State.uncarve_pln (s : State) (o : Nat) : (s.uncarve o).pln = s.pln := rfl
@[simp] theorem State.uncarve_fls (s : State) (o : Nat) : (s.uncarve o).fls = s.fls := rfl
@[simp] theorem State.uncarve_lnk (s : State) (o : Nat) : (s.uncarve o).lnk = s.lnk := rfl
@[simp] theorem State.uncarve_xpt (s : State) (o : Nat) : (s.uncarve o).xpt = s.xpt := rfl
@[simp] theorem State.uncarve_shp (s : State) (o : Nat) : (s.uncarve o).shp = s.shp := rfl
@[simp] theorem State.uncarve_cmd (s : State) (o : Nat) : (s.uncarve o).cmd = s.cmd := rfl
@[simp] theorem State.uncarve_blt (s : State) (o : Nat) : (s.uncarve o).blt = s.blt := rfl
@[simp] theorem State.uncarve_sec (s : State) (o : Nat) : (s.uncarve o).sec = s.sec := rfl
@[simp] theorem State.uncarve_host (s : State) (o : Nat) : (s.uncarve o).host = s.host := rfl
@[simp] theorem State.uncarve_pwr (s : State) (o : Nat) : (s.uncarve o).pwr = s.pwr := rfl
@[simp] theorem State.uncarve_out (s : State) (o : Nat) : (s.uncarve o).out = s.out := rfl
@[simp] theorem State.uncarve_freeCtr (s : State) (o : Nat) : (s.uncarve o).freeCtr = s.freeCtr := rfl
@[simp] theorem State.uncarve_pending (s : State) (o : Nat) : (s.uncarve o).pending = s.pending := rfl

end Sys2Proof.Machine
end

