-- ==== Sys2Proof/Laws/Ops.lean ====
section
/-!
SUPPORT. Laws/Ops.lean: what the shared operations leave alone, and what each of them does.
-/
namespace Sys2Proof.Machine

set_option Elab.async false

@[simp] theorem State.post_board (s : State) (f : FaultSpec) : (s.post f).board = s.board := by unfold State.post; dsimp only; split <;> rfl
@[simp] theorem State.post_stk (s : State) (f : FaultSpec) : (s.post f).stk = s.stk := by unfold State.post; dsimp only; split <;> rfl
@[simp] theorem State.post_sat (s : State) (f : FaultSpec) : (s.post f).sat = s.sat := by unfold State.post; dsimp only; split <;> rfl
@[simp] theorem State.post_kva (s : State) (f : FaultSpec) : (s.post f).kva = s.kva := by unfold State.post; dsimp only; split <;> rfl
@[simp] theorem State.post_cores (s : State) (f : FaultSpec) : (s.post f).cores = s.cores := by unfold State.post; dsimp only; split <;> rfl
@[simp] theorem State.post_pln (s : State) (f : FaultSpec) : (s.post f).pln = s.pln := by unfold State.post; dsimp only; split <;> rfl
@[simp] theorem State.post_memory (s : State) (f : FaultSpec) : (s.post f).memory = s.memory := by unfold State.post; dsimp only; split <;> rfl
@[simp] theorem State.post_fls (s : State) (f : FaultSpec) : (s.post f).fls = s.fls := by unfold State.post; dsimp only; split <;> rfl
@[simp] theorem State.post_lnk (s : State) (f : FaultSpec) : (s.post f).lnk = s.lnk := by unfold State.post; dsimp only; split <;> rfl
@[simp] theorem State.post_xpt (s : State) (f : FaultSpec) : (s.post f).xpt = s.xpt := by unfold State.post; dsimp only; split <;> rfl
@[simp] theorem State.post_shp (s : State) (f : FaultSpec) : (s.post f).shp = s.shp := by unfold State.post; dsimp only; split <;> rfl
@[simp] theorem State.post_cmd (s : State) (f : FaultSpec) : (s.post f).cmd = s.cmd := by unfold State.post; dsimp only; split <;> rfl
@[simp] theorem State.post_sec (s : State) (f : FaultSpec) : (s.post f).sec = s.sec := by unfold State.post; dsimp only; split <;> rfl
@[simp] theorem State.post_host (s : State) (f : FaultSpec) : (s.post f).host = s.host := by unfold State.post; dsimp only; split <;> rfl
@[simp] theorem State.post_pwr (s : State) (f : FaultSpec) : (s.post f).pwr = s.pwr := by unfold State.post; dsimp only; split <;> rfl
@[simp] theorem State.post_out (s : State) (f : FaultSpec) : (s.post f).out = s.out := by unfold State.post; dsimp only; split <;> rfl
@[simp] theorem State.post_freeCtr (s : State) (f : FaultSpec) : (s.post f).freeCtr = s.freeCtr := by unfold State.post; dsimp only; split <;> rfl
@[simp] theorem State.post_pending (s : State) (f : FaultSpec) : (s.post f).pending = s.pending := by unfold State.post; dsimp only; split <;> rfl

@[simp] theorem State.note_board (s : State) (a b c : Nat) : (s.note a b c).board = s.board := by unfold State.note; simp
@[simp] theorem State.note_stk (s : State) (a b c : Nat) : (s.note a b c).stk = s.stk := by unfold State.note; simp
@[simp] theorem State.note_sat (s : State) (a b c : Nat) : (s.note a b c).sat = s.sat := by unfold State.note; simp
@[simp] theorem State.note_kva (s : State) (a b c : Nat) : (s.note a b c).kva = s.kva := by unfold State.note; simp
@[simp] theorem State.note_cores (s : State) (a b c : Nat) : (s.note a b c).cores = s.cores := by unfold State.note; simp
@[simp] theorem State.note_pln (s : State) (a b c : Nat) : (s.note a b c).pln = s.pln := by unfold State.note; simp
@[simp] theorem State.note_memory (s : State) (a b c : Nat) : (s.note a b c).memory = s.memory := by unfold State.note; simp
@[simp] theorem State.note_fls (s : State) (a b c : Nat) : (s.note a b c).fls = s.fls := by unfold State.note; simp
@[simp] theorem State.note_lnk (s : State) (a b c : Nat) : (s.note a b c).lnk = s.lnk := by unfold State.note; simp
@[simp] theorem State.note_xpt (s : State) (a b c : Nat) : (s.note a b c).xpt = s.xpt := by unfold State.note; simp
@[simp] theorem State.note_shp (s : State) (a b c : Nat) : (s.note a b c).shp = s.shp := by unfold State.note; simp
@[simp] theorem State.note_cmd (s : State) (a b c : Nat) : (s.note a b c).cmd = s.cmd := by unfold State.note; simp
@[simp] theorem State.note_sec (s : State) (a b c : Nat) : (s.note a b c).sec = s.sec := by unfold State.note; simp
@[simp] theorem State.note_host (s : State) (a b c : Nat) : (s.note a b c).host = s.host := by unfold State.note; simp
@[simp] theorem State.note_pwr (s : State) (a b c : Nat) : (s.note a b c).pwr = s.pwr := by unfold State.note; simp
@[simp] theorem State.note_out (s : State) (a b c : Nat) : (s.note a b c).out = s.out := by unfold State.note; simp
@[simp] theorem State.note_freeCtr (s : State) (a b c : Nat) : (s.note a b c).freeCtr = s.freeCtr := by unfold State.note; simp
@[simp] theorem State.note_pending (s : State) (a b c : Nat) : (s.note a b c).pending = s.pending := by unfold State.note; simp

@[simp] theorem State.accessNote_board (s : State) (o : Nat) : (s.accessNote o).board = s.board := by unfold State.accessNote; simp
@[simp] theorem State.accessNote_stk (s : State) (o : Nat) : (s.accessNote o).stk = s.stk := by unfold State.accessNote; simp
@[simp] theorem State.accessNote_sat (s : State) (o : Nat) : (s.accessNote o).sat = s.sat := by unfold State.accessNote; simp
@[simp] theorem State.accessNote_kva (s : State) (o : Nat) : (s.accessNote o).kva = s.kva := by unfold State.accessNote; simp
@[simp] theorem State.accessNote_cores (s : State) (o : Nat) : (s.accessNote o).cores = s.cores := by unfold State.accessNote; simp
@[simp] theorem State.accessNote_pln (s : State) (o : Nat) : (s.accessNote o).pln = s.pln := by unfold State.accessNote; simp
@[simp] theorem State.accessNote_memory (s : State) (o : Nat) : (s.accessNote o).memory = s.memory := by unfold State.accessNote; simp
@[simp] theorem State.accessNote_fls (s : State) (o : Nat) : (s.accessNote o).fls = s.fls := by unfold State.accessNote; simp
@[simp] theorem State.accessNote_lnk (s : State) (o : Nat) : (s.accessNote o).lnk = s.lnk := by unfold State.accessNote; simp
@[simp] theorem State.accessNote_xpt (s : State) (o : Nat) : (s.accessNote o).xpt = s.xpt := by unfold State.accessNote; simp
@[simp] theorem State.accessNote_shp (s : State) (o : Nat) : (s.accessNote o).shp = s.shp := by unfold State.accessNote; simp
@[simp] theorem State.accessNote_cmd (s : State) (o : Nat) : (s.accessNote o).cmd = s.cmd := by unfold State.accessNote; simp
@[simp] theorem State.accessNote_sec (s : State) (o : Nat) : (s.accessNote o).sec = s.sec := by unfold State.accessNote; simp
@[simp] theorem State.accessNote_host (s : State) (o : Nat) : (s.accessNote o).host = s.host := by unfold State.accessNote; simp
@[simp] theorem State.accessNote_pwr (s : State) (o : Nat) : (s.accessNote o).pwr = s.pwr := by unfold State.accessNote; simp
@[simp] theorem State.accessNote_out (s : State) (o : Nat) : (s.accessNote o).out = s.out := by unfold State.accessNote; simp
@[simp] theorem State.accessNote_freeCtr (s : State) (o : Nat) : (s.accessNote o).freeCtr = s.freeCtr := by unfold State.accessNote; simp
@[simp] theorem State.accessNote_pending (s : State) (o : Nat) : (s.accessNote o).pending = s.pending := by unfold State.accessNote; simp

@[simp] theorem State.droppedNote_board (s : State) (o : Nat) : (s.droppedNote o).board = s.board := by unfold State.droppedNote; simp
@[simp] theorem State.droppedNote_stk (s : State) (o : Nat) : (s.droppedNote o).stk = s.stk := by unfold State.droppedNote; simp
@[simp] theorem State.droppedNote_sat (s : State) (o : Nat) : (s.droppedNote o).sat = s.sat := by unfold State.droppedNote; simp
@[simp] theorem State.droppedNote_kva (s : State) (o : Nat) : (s.droppedNote o).kva = s.kva := by unfold State.droppedNote; simp
@[simp] theorem State.droppedNote_cores (s : State) (o : Nat) : (s.droppedNote o).cores = s.cores := by unfold State.droppedNote; simp
@[simp] theorem State.droppedNote_pln (s : State) (o : Nat) : (s.droppedNote o).pln = s.pln := by unfold State.droppedNote; simp
@[simp] theorem State.droppedNote_memory (s : State) (o : Nat) : (s.droppedNote o).memory = s.memory := by unfold State.droppedNote; simp
@[simp] theorem State.droppedNote_fls (s : State) (o : Nat) : (s.droppedNote o).fls = s.fls := by unfold State.droppedNote; simp
@[simp] theorem State.droppedNote_lnk (s : State) (o : Nat) : (s.droppedNote o).lnk = s.lnk := by unfold State.droppedNote; simp
@[simp] theorem State.droppedNote_xpt (s : State) (o : Nat) : (s.droppedNote o).xpt = s.xpt := by unfold State.droppedNote; simp
@[simp] theorem State.droppedNote_shp (s : State) (o : Nat) : (s.droppedNote o).shp = s.shp := by unfold State.droppedNote; simp
@[simp] theorem State.droppedNote_cmd (s : State) (o : Nat) : (s.droppedNote o).cmd = s.cmd := by unfold State.droppedNote; simp
@[simp] theorem State.droppedNote_sec (s : State) (o : Nat) : (s.droppedNote o).sec = s.sec := by unfold State.droppedNote; simp
@[simp] theorem State.droppedNote_host (s : State) (o : Nat) : (s.droppedNote o).host = s.host := by unfold State.droppedNote; simp
@[simp] theorem State.droppedNote_pwr (s : State) (o : Nat) : (s.droppedNote o).pwr = s.pwr := by unfold State.droppedNote; simp
@[simp] theorem State.droppedNote_out (s : State) (o : Nat) : (s.droppedNote o).out = s.out := by unfold State.droppedNote; simp
@[simp] theorem State.droppedNote_freeCtr (s : State) (o : Nat) : (s.droppedNote o).freeCtr = s.freeCtr := by unfold State.droppedNote; simp
@[simp] theorem State.droppedNote_pending (s : State) (o : Nat) : (s.droppedNote o).pending = s.pending := by unfold State.droppedNote; simp

@[simp] theorem State.transient_board (s : State) (f : FaultSpec) : (s.transient f).board = s.board := by unfold State.transient; simp
@[simp] theorem State.transient_stk (s : State) (f : FaultSpec) : (s.transient f).stk = s.stk := by unfold State.transient; simp
@[simp] theorem State.transient_sat (s : State) (f : FaultSpec) : (s.transient f).sat = s.sat := by unfold State.transient; simp
@[simp] theorem State.transient_kva (s : State) (f : FaultSpec) : (s.transient f).kva = s.kva := by unfold State.transient; simp
@[simp] theorem State.transient_cores (s : State) (f : FaultSpec) : (s.transient f).cores = s.cores := by unfold State.transient; simp
@[simp] theorem State.transient_pln (s : State) (f : FaultSpec) : (s.transient f).pln = s.pln := by unfold State.transient; simp
@[simp] theorem State.transient_memory (s : State) (f : FaultSpec) : (s.transient f).memory = s.memory := by unfold State.transient; simp
@[simp] theorem State.transient_fls (s : State) (f : FaultSpec) : (s.transient f).fls = s.fls := by unfold State.transient; simp
@[simp] theorem State.transient_lnk (s : State) (f : FaultSpec) : (s.transient f).lnk = s.lnk := by unfold State.transient; simp
@[simp] theorem State.transient_xpt (s : State) (f : FaultSpec) : (s.transient f).xpt = s.xpt := by unfold State.transient; simp
@[simp] theorem State.transient_shp (s : State) (f : FaultSpec) : (s.transient f).shp = s.shp := by unfold State.transient; simp
@[simp] theorem State.transient_cmd (s : State) (f : FaultSpec) : (s.transient f).cmd = s.cmd := by unfold State.transient; simp
@[simp] theorem State.transient_sec (s : State) (f : FaultSpec) : (s.transient f).sec = s.sec := by unfold State.transient; simp
@[simp] theorem State.transient_host (s : State) (f : FaultSpec) : (s.transient f).host = s.host := by unfold State.transient; simp
@[simp] theorem State.transient_pwr (s : State) (f : FaultSpec) : (s.transient f).pwr = s.pwr := by unfold State.transient; simp
@[simp] theorem State.transient_out (s : State) (f : FaultSpec) : (s.transient f).out = s.out := by unfold State.transient; simp
@[simp] theorem State.transient_freeCtr (s : State) (f : FaultSpec) : (s.transient f).freeCtr = s.freeCtr := by unfold State.transient; simp
@[simp] theorem State.transient_pending (s : State) (f : FaultSpec) : (s.transient f).pending = s.pending := by unfold State.transient; simp

@[simp] theorem State.msix_bar (s : State) (fn v : Nat) : (s.msix fn v).bar = s.bar := by unfold State.msix; (repeat' split) <;> rfl
@[simp] theorem State.msix_board (s : State) (fn v : Nat) : (s.msix fn v).board = s.board := by unfold State.msix; (repeat' split) <;> rfl
@[simp] theorem State.msix_stk (s : State) (fn v : Nat) : (s.msix fn v).stk = s.stk := by unfold State.msix; (repeat' split) <;> rfl
@[simp] theorem State.msix_sat (s : State) (fn v : Nat) : (s.msix fn v).sat = s.sat := by unfold State.msix; (repeat' split) <;> rfl
@[simp] theorem State.msix_kva (s : State) (fn v : Nat) : (s.msix fn v).kva = s.kva := by unfold State.msix; (repeat' split) <;> rfl
@[simp] theorem State.msix_cores (s : State) (fn v : Nat) : (s.msix fn v).cores = s.cores := by unfold State.msix; (repeat' split) <;> rfl
@[simp] theorem State.msix_pln (s : State) (fn v : Nat) : (s.msix fn v).pln = s.pln := by unfold State.msix; (repeat' split) <;> rfl
@[simp] theorem State.msix_memory (s : State) (fn v : Nat) : (s.msix fn v).memory = s.memory := by unfold State.msix; (repeat' split) <;> rfl
@[simp] theorem State.msix_fls (s : State) (fn v : Nat) : (s.msix fn v).fls = s.fls := by unfold State.msix; (repeat' split) <;> rfl
@[simp] theorem State.msix_lnk (s : State) (fn v : Nat) : (s.msix fn v).lnk = s.lnk := by unfold State.msix; (repeat' split) <;> rfl
@[simp] theorem State.msix_xpt (s : State) (fn v : Nat) : (s.msix fn v).xpt = s.xpt := by unfold State.msix; (repeat' split) <;> rfl
@[simp] theorem State.msix_shp (s : State) (fn v : Nat) : (s.msix fn v).shp = s.shp := by unfold State.msix; (repeat' split) <;> rfl
@[simp] theorem State.msix_cmd (s : State) (fn v : Nat) : (s.msix fn v).cmd = s.cmd := by unfold State.msix; (repeat' split) <;> rfl
@[simp] theorem State.msix_blt (s : State) (fn v : Nat) : (s.msix fn v).blt = s.blt := by unfold State.msix; (repeat' split) <;> rfl
@[simp] theorem State.msix_sec (s : State) (fn v : Nat) : (s.msix fn v).sec = s.sec := by unfold State.msix; (repeat' split) <;> rfl
@[simp] theorem State.msix_pwr (s : State) (fn v : Nat) : (s.msix fn v).pwr = s.pwr := by unfold State.msix; (repeat' split) <;> rfl
@[simp] theorem State.msix_freeCtr (s : State) (fn v : Nat) : (s.msix fn v).freeCtr = s.freeCtr := by unfold State.msix; (repeat' split) <;> rfl
@[simp] theorem State.msix_pending (s : State) (fn v : Nat) : (s.msix fn v).pending = s.pending := by unfold State.msix; (repeat' split) <;> rfl

@[simp] theorem State.writeRecord_bar (s : State) (k : Nat) (r : Ring) (l : List Byte) : (s.writeRecord k r l).bar = s.bar := by unfold State.writeRecord; dsimp only; split <;> simp
@[simp] theorem State.writeRecord_board (s : State) (k : Nat) (r : Ring) (l : List Byte) : (s.writeRecord k r l).board = s.board := by unfold State.writeRecord; dsimp only; split <;> simp
@[simp] theorem State.writeRecord_stk (s : State) (k : Nat) (r : Ring) (l : List Byte) : (s.writeRecord k r l).stk = s.stk := by unfold State.writeRecord; dsimp only; split <;> simp
@[simp] theorem State.writeRecord_sat (s : State) (k : Nat) (r : Ring) (l : List Byte) : (s.writeRecord k r l).sat = s.sat := by unfold State.writeRecord; dsimp only; split <;> simp
@[simp] theorem State.writeRecord_kva (s : State) (k : Nat) (r : Ring) (l : List Byte) : (s.writeRecord k r l).kva = s.kva := by unfold State.writeRecord; dsimp only; split <;> simp
@[simp] theorem State.writeRecord_cores (s : State) (k : Nat) (r : Ring) (l : List Byte) : (s.writeRecord k r l).cores = s.cores := by unfold State.writeRecord; dsimp only; split <;> simp
@[simp] theorem State.writeRecord_pln (s : State) (k : Nat) (r : Ring) (l : List Byte) : (s.writeRecord k r l).pln = s.pln := by unfold State.writeRecord; dsimp only; split <;> simp
@[simp] theorem State.writeRecord_memory (s : State) (k : Nat) (r : Ring) (l : List Byte) : (s.writeRecord k r l).memory = s.memory := by unfold State.writeRecord; dsimp only; split <;> simp
@[simp] theorem State.writeRecord_fls (s : State) (k : Nat) (r : Ring) (l : List Byte) : (s.writeRecord k r l).fls = s.fls := by unfold State.writeRecord; dsimp only; split <;> simp
@[simp] theorem State.writeRecord_lnk (s : State) (k : Nat) (r : Ring) (l : List Byte) : (s.writeRecord k r l).lnk = s.lnk := by unfold State.writeRecord; dsimp only; split <;> simp
@[simp] theorem State.writeRecord_xpt (s : State) (k : Nat) (r : Ring) (l : List Byte) : (s.writeRecord k r l).xpt = s.xpt := by unfold State.writeRecord; dsimp only; split <;> simp
@[simp] theorem State.writeRecord_shp (s : State) (k : Nat) (r : Ring) (l : List Byte) : (s.writeRecord k r l).shp = s.shp := by unfold State.writeRecord; dsimp only; split <;> simp
@[simp] theorem State.writeRecord_blt (s : State) (k : Nat) (r : Ring) (l : List Byte) : (s.writeRecord k r l).blt = s.blt := by unfold State.writeRecord; dsimp only; split <;> simp
@[simp] theorem State.writeRecord_sec (s : State) (k : Nat) (r : Ring) (l : List Byte) : (s.writeRecord k r l).sec = s.sec := by unfold State.writeRecord; dsimp only; split <;> simp
@[simp] theorem State.writeRecord_pwr (s : State) (k : Nat) (r : Ring) (l : List Byte) : (s.writeRecord k r l).pwr = s.pwr := by unfold State.writeRecord; dsimp only; split <;> simp
@[simp] theorem State.writeRecord_freeCtr (s : State) (k : Nat) (r : Ring) (l : List Byte) : (s.writeRecord k r l).freeCtr = s.freeCtr := by unfold State.writeRecord; dsimp only; split <;> simp
@[simp] theorem State.writeRecord_pending (s : State) (k : Nat) (r : Ring) (l : List Byte) : (s.writeRecord k r l).pending = s.pending := by unfold State.writeRecord; dsimp only; split <;> simp

@[simp] theorem State.putRecord_board (s : State) (k : Nat) (l : List Byte) : (s.putRecord k l).board = s.board := by unfold State.putRecord; (repeat' split) <;> simp
@[simp] theorem State.putRecord_stk (s : State) (k : Nat) (l : List Byte) : (s.putRecord k l).stk = s.stk := by unfold State.putRecord; (repeat' split) <;> simp
@[simp] theorem State.putRecord_sat (s : State) (k : Nat) (l : List Byte) : (s.putRecord k l).sat = s.sat := by unfold State.putRecord; (repeat' split) <;> simp
@[simp] theorem State.putRecord_kva (s : State) (k : Nat) (l : List Byte) : (s.putRecord k l).kva = s.kva := by unfold State.putRecord; (repeat' split) <;> simp
@[simp] theorem State.putRecord_cores (s : State) (k : Nat) (l : List Byte) : (s.putRecord k l).cores = s.cores := by unfold State.putRecord; (repeat' split) <;> simp
@[simp] theorem State.putRecord_pln (s : State) (k : Nat) (l : List Byte) : (s.putRecord k l).pln = s.pln := by unfold State.putRecord; (repeat' split) <;> simp
@[simp] theorem State.putRecord_memory (s : State) (k : Nat) (l : List Byte) : (s.putRecord k l).memory = s.memory := by unfold State.putRecord; (repeat' split) <;> simp
@[simp] theorem State.putRecord_fls (s : State) (k : Nat) (l : List Byte) : (s.putRecord k l).fls = s.fls := by unfold State.putRecord; (repeat' split) <;> simp
@[simp] theorem State.putRecord_lnk (s : State) (k : Nat) (l : List Byte) : (s.putRecord k l).lnk = s.lnk := by unfold State.putRecord; (repeat' split) <;> simp
@[simp] theorem State.putRecord_xpt (s : State) (k : Nat) (l : List Byte) : (s.putRecord k l).xpt = s.xpt := by unfold State.putRecord; (repeat' split) <;> simp
@[simp] theorem State.putRecord_shp (s : State) (k : Nat) (l : List Byte) : (s.putRecord k l).shp = s.shp := by unfold State.putRecord; (repeat' split) <;> simp
@[simp] theorem State.putRecord_blt (s : State) (k : Nat) (l : List Byte) : (s.putRecord k l).blt = s.blt := by unfold State.putRecord; (repeat' split) <;> simp
@[simp] theorem State.putRecord_sec (s : State) (k : Nat) (l : List Byte) : (s.putRecord k l).sec = s.sec := by unfold State.putRecord; (repeat' split) <;> simp
@[simp] theorem State.putRecord_pwr (s : State) (k : Nat) (l : List Byte) : (s.putRecord k l).pwr = s.pwr := by unfold State.putRecord; (repeat' split) <;> simp
@[simp] theorem State.putRecord_freeCtr (s : State) (k : Nat) (l : List Byte) : (s.putRecord k l).freeCtr = s.freeCtr := by unfold State.putRecord; (repeat' split) <;> simp
@[simp] theorem State.putRecord_pending (s : State) (k : Nat) (l : List Byte) : (s.putRecord k l).pending = s.pending := by unfold State.putRecord; (repeat' split) <;> simp

@[simp] theorem State.eventAt_board (s : State) (n fn k : Nat) (st : Status) (p : Nat) (l : List Byte) : (s.eventAt n fn k st p l).board = s.board := by unfold State.eventAt; dsimp only; split <;> simp
@[simp] theorem State.eventAt_stk (s : State) (n fn k : Nat) (st : Status) (p : Nat) (l : List Byte) : (s.eventAt n fn k st p l).stk = s.stk := by unfold State.eventAt; dsimp only; split <;> simp
@[simp] theorem State.eventAt_sat (s : State) (n fn k : Nat) (st : Status) (p : Nat) (l : List Byte) : (s.eventAt n fn k st p l).sat = s.sat := by unfold State.eventAt; dsimp only; split <;> simp
@[simp] theorem State.eventAt_kva (s : State) (n fn k : Nat) (st : Status) (p : Nat) (l : List Byte) : (s.eventAt n fn k st p l).kva = s.kva := by unfold State.eventAt; dsimp only; split <;> simp
@[simp] theorem State.eventAt_cores (s : State) (n fn k : Nat) (st : Status) (p : Nat) (l : List Byte) : (s.eventAt n fn k st p l).cores = s.cores := by unfold State.eventAt; dsimp only; split <;> simp
@[simp] theorem State.eventAt_pln (s : State) (n fn k : Nat) (st : Status) (p : Nat) (l : List Byte) : (s.eventAt n fn k st p l).pln = s.pln := by unfold State.eventAt; dsimp only; split <;> simp
@[simp] theorem State.eventAt_memory (s : State) (n fn k : Nat) (st : Status) (p : Nat) (l : List Byte) : (s.eventAt n fn k st p l).memory = s.memory := by unfold State.eventAt; dsimp only; split <;> simp
@[simp] theorem State.eventAt_fls (s : State) (n fn k : Nat) (st : Status) (p : Nat) (l : List Byte) : (s.eventAt n fn k st p l).fls = s.fls := by unfold State.eventAt; dsimp only; split <;> simp
@[simp] theorem State.eventAt_lnk (s : State) (n fn k : Nat) (st : Status) (p : Nat) (l : List Byte) : (s.eventAt n fn k st p l).lnk = s.lnk := by unfold State.eventAt; dsimp only; split <;> simp
@[simp] theorem State.eventAt_xpt (s : State) (n fn k : Nat) (st : Status) (p : Nat) (l : List Byte) : (s.eventAt n fn k st p l).xpt = s.xpt := by unfold State.eventAt; dsimp only; split <;> simp
@[simp] theorem State.eventAt_shp (s : State) (n fn k : Nat) (st : Status) (p : Nat) (l : List Byte) : (s.eventAt n fn k st p l).shp = s.shp := by unfold State.eventAt; dsimp only; split <;> simp
@[simp] theorem State.eventAt_blt (s : State) (n fn k : Nat) (st : Status) (p : Nat) (l : List Byte) : (s.eventAt n fn k st p l).blt = s.blt := by unfold State.eventAt; dsimp only; split <;> simp
@[simp] theorem State.eventAt_sec (s : State) (n fn k : Nat) (st : Status) (p : Nat) (l : List Byte) : (s.eventAt n fn k st p l).sec = s.sec := by unfold State.eventAt; dsimp only; split <;> simp
@[simp] theorem State.eventAt_pwr (s : State) (n fn k : Nat) (st : Status) (p : Nat) (l : List Byte) : (s.eventAt n fn k st p l).pwr = s.pwr := by unfold State.eventAt; dsimp only; split <;> simp
@[simp] theorem State.eventAt_freeCtr (s : State) (n fn k : Nat) (st : Status) (p : Nat) (l : List Byte) : (s.eventAt n fn k st p l).freeCtr = s.freeCtr := by unfold State.eventAt; dsimp only; split <;> simp
@[simp] theorem State.eventAt_pending (s : State) (n fn k : Nat) (st : Status) (p : Nat) (l : List Byte) : (s.eventAt n fn k st p l).pending = s.pending := by unfold State.eventAt; dsimp only; split <;> simp

@[simp] theorem State.event_board (s : State) (fn k : Nat) (st : Status) (p : Nat) (l : List Byte) : (s.event fn k st p l).board = s.board := by unfold State.event; simp
@[simp] theorem State.event_stk (s : State) (fn k : Nat) (st : Status) (p : Nat) (l : List Byte) : (s.event fn k st p l).stk = s.stk := by unfold State.event; simp
@[simp] theorem State.event_sat (s : State) (fn k : Nat) (st : Status) (p : Nat) (l : List Byte) : (s.event fn k st p l).sat = s.sat := by unfold State.event; simp
@[simp] theorem State.event_kva (s : State) (fn k : Nat) (st : Status) (p : Nat) (l : List Byte) : (s.event fn k st p l).kva = s.kva := by unfold State.event; simp
@[simp] theorem State.event_cores (s : State) (fn k : Nat) (st : Status) (p : Nat) (l : List Byte) : (s.event fn k st p l).cores = s.cores := by unfold State.event; simp
@[simp] theorem State.event_pln (s : State) (fn k : Nat) (st : Status) (p : Nat) (l : List Byte) : (s.event fn k st p l).pln = s.pln := by unfold State.event; simp
@[simp] theorem State.event_memory (s : State) (fn k : Nat) (st : Status) (p : Nat) (l : List Byte) : (s.event fn k st p l).memory = s.memory := by unfold State.event; simp
@[simp] theorem State.event_fls (s : State) (fn k : Nat) (st : Status) (p : Nat) (l : List Byte) : (s.event fn k st p l).fls = s.fls := by unfold State.event; simp
@[simp] theorem State.event_lnk (s : State) (fn k : Nat) (st : Status) (p : Nat) (l : List Byte) : (s.event fn k st p l).lnk = s.lnk := by unfold State.event; simp
@[simp] theorem State.event_xpt (s : State) (fn k : Nat) (st : Status) (p : Nat) (l : List Byte) : (s.event fn k st p l).xpt = s.xpt := by unfold State.event; simp
@[simp] theorem State.event_shp (s : State) (fn k : Nat) (st : Status) (p : Nat) (l : List Byte) : (s.event fn k st p l).shp = s.shp := by unfold State.event; simp
@[simp] theorem State.event_blt (s : State) (fn k : Nat) (st : Status) (p : Nat) (l : List Byte) : (s.event fn k st p l).blt = s.blt := by unfold State.event; simp
@[simp] theorem State.event_sec (s : State) (fn k : Nat) (st : Status) (p : Nat) (l : List Byte) : (s.event fn k st p l).sec = s.sec := by unfold State.event; simp
@[simp] theorem State.event_pwr (s : State) (fn k : Nat) (st : Status) (p : Nat) (l : List Byte) : (s.event fn k st p l).pwr = s.pwr := by unfold State.event; simp
@[simp] theorem State.event_freeCtr (s : State) (fn k : Nat) (st : Status) (p : Nat) (l : List Byte) : (s.event fn k st p l).freeCtr = s.freeCtr := by unfold State.event; simp
@[simp] theorem State.event_pending (s : State) (fn k : Nat) (st : Status) (p : Nat) (l : List Byte) : (s.event fn k st p l).pending = s.pending := by unfold State.event; simp

@[simp] theorem State.partEvent_board (s : State) (p o : Nat) (t : Word) (st : Status) : (s.partEvent p o t st).board = s.board := by unfold State.partEvent; simp
@[simp] theorem State.partEvent_stk (s : State) (p o : Nat) (t : Word) (st : Status) : (s.partEvent p o t st).stk = s.stk := by unfold State.partEvent; simp
@[simp] theorem State.partEvent_sat (s : State) (p o : Nat) (t : Word) (st : Status) : (s.partEvent p o t st).sat = s.sat := by unfold State.partEvent; simp
@[simp] theorem State.partEvent_kva (s : State) (p o : Nat) (t : Word) (st : Status) : (s.partEvent p o t st).kva = s.kva := by unfold State.partEvent; simp
@[simp] theorem State.partEvent_cores (s : State) (p o : Nat) (t : Word) (st : Status) : (s.partEvent p o t st).cores = s.cores := by unfold State.partEvent; simp
@[simp] theorem State.partEvent_pln (s : State) (p o : Nat) (t : Word) (st : Status) : (s.partEvent p o t st).pln = s.pln := by unfold State.partEvent; simp
@[simp] theorem State.partEvent_memory (s : State) (p o : Nat) (t : Word) (st : Status) : (s.partEvent p o t st).memory = s.memory := by unfold State.partEvent; simp
@[simp] theorem State.partEvent_fls (s : State) (p o : Nat) (t : Word) (st : Status) : (s.partEvent p o t st).fls = s.fls := by unfold State.partEvent; simp
@[simp] theorem State.partEvent_lnk (s : State) (p o : Nat) (t : Word) (st : Status) : (s.partEvent p o t st).lnk = s.lnk := by unfold State.partEvent; simp
@[simp] theorem State.partEvent_xpt (s : State) (p o : Nat) (t : Word) (st : Status) : (s.partEvent p o t st).xpt = s.xpt := by unfold State.partEvent; simp
@[simp] theorem State.partEvent_shp (s : State) (p o : Nat) (t : Word) (st : Status) : (s.partEvent p o t st).shp = s.shp := by unfold State.partEvent; simp
@[simp] theorem State.partEvent_blt (s : State) (p o : Nat) (t : Word) (st : Status) : (s.partEvent p o t st).blt = s.blt := by unfold State.partEvent; simp
@[simp] theorem State.partEvent_sec (s : State) (p o : Nat) (t : Word) (st : Status) : (s.partEvent p o t st).sec = s.sec := by unfold State.partEvent; simp
@[simp] theorem State.partEvent_pwr (s : State) (p o : Nat) (t : Word) (st : Status) : (s.partEvent p o t st).pwr = s.pwr := by unfold State.partEvent; simp
@[simp] theorem State.partEvent_freeCtr (s : State) (p o : Nat) (t : Word) (st : Status) : (s.partEvent p o t st).freeCtr = s.freeCtr := by unfold State.partEvent; simp
@[simp] theorem State.partEvent_pending (s : State) (p o : Nat) (t : Word) (st : Status) : (s.partEvent p o t st).pending = s.pending := by unfold State.partEvent; simp

@[simp] theorem State.answer_board (s : State) (r : ReplyTo) (st : Status) (b : Bool) (l : List Byte) : (s.answer r st b l).board = s.board := by unfold State.answer; split <;> simp
@[simp] theorem State.answer_stk (s : State) (r : ReplyTo) (st : Status) (b : Bool) (l : List Byte) : (s.answer r st b l).stk = s.stk := by unfold State.answer; split <;> simp
@[simp] theorem State.answer_sat (s : State) (r : ReplyTo) (st : Status) (b : Bool) (l : List Byte) : (s.answer r st b l).sat = s.sat := by unfold State.answer; split <;> simp
@[simp] theorem State.answer_kva (s : State) (r : ReplyTo) (st : Status) (b : Bool) (l : List Byte) : (s.answer r st b l).kva = s.kva := by unfold State.answer; split <;> simp
@[simp] theorem State.answer_cores (s : State) (r : ReplyTo) (st : Status) (b : Bool) (l : List Byte) : (s.answer r st b l).cores = s.cores := by unfold State.answer; split <;> simp
@[simp] theorem State.answer_pln (s : State) (r : ReplyTo) (st : Status) (b : Bool) (l : List Byte) : (s.answer r st b l).pln = s.pln := by unfold State.answer; split <;> simp
@[simp] theorem State.answer_memory (s : State) (r : ReplyTo) (st : Status) (b : Bool) (l : List Byte) : (s.answer r st b l).memory = s.memory := by unfold State.answer; split <;> simp
@[simp] theorem State.answer_fls (s : State) (r : ReplyTo) (st : Status) (b : Bool) (l : List Byte) : (s.answer r st b l).fls = s.fls := by unfold State.answer; split <;> simp
@[simp] theorem State.answer_lnk (s : State) (r : ReplyTo) (st : Status) (b : Bool) (l : List Byte) : (s.answer r st b l).lnk = s.lnk := by unfold State.answer; split <;> simp
@[simp] theorem State.answer_xpt (s : State) (r : ReplyTo) (st : Status) (b : Bool) (l : List Byte) : (s.answer r st b l).xpt = s.xpt := by unfold State.answer; split <;> simp
@[simp] theorem State.answer_shp (s : State) (r : ReplyTo) (st : Status) (b : Bool) (l : List Byte) : (s.answer r st b l).shp = s.shp := by unfold State.answer; split <;> simp
@[simp] theorem State.answer_blt (s : State) (r : ReplyTo) (st : Status) (b : Bool) (l : List Byte) : (s.answer r st b l).blt = s.blt := by unfold State.answer; split <;> simp
@[simp] theorem State.answer_sec (s : State) (r : ReplyTo) (st : Status) (b : Bool) (l : List Byte) : (s.answer r st b l).sec = s.sec := by unfold State.answer; split <;> simp
@[simp] theorem State.answer_pwr (s : State) (r : ReplyTo) (st : Status) (b : Bool) (l : List Byte) : (s.answer r st b l).pwr = s.pwr := by unfold State.answer; split <;> simp
@[simp] theorem State.answer_freeCtr (s : State) (r : ReplyTo) (st : Status) (b : Bool) (l : List Byte) : (s.answer r st b l).freeCtr = s.freeCtr := by unfold State.answer; split <;> simp
@[simp] theorem State.answer_pending (s : State) (r : ReplyTo) (st : Status) (b : Bool) (l : List Byte) : (s.answer r st b l).pending = s.pending := by unfold State.answer; split <;> simp

@[simp] theorem State.done_board (s : State) (r : ReplyTo) (st : Status) : (s.done r st).board = s.board := by unfold State.done; simp
@[simp] theorem State.done_stk (s : State) (r : ReplyTo) (st : Status) : (s.done r st).stk = s.stk := by unfold State.done; simp
@[simp] theorem State.done_sat (s : State) (r : ReplyTo) (st : Status) : (s.done r st).sat = s.sat := by unfold State.done; simp
@[simp] theorem State.done_kva (s : State) (r : ReplyTo) (st : Status) : (s.done r st).kva = s.kva := by unfold State.done; simp
@[simp] theorem State.done_cores (s : State) (r : ReplyTo) (st : Status) : (s.done r st).cores = s.cores := by unfold State.done; simp
@[simp] theorem State.done_pln (s : State) (r : ReplyTo) (st : Status) : (s.done r st).pln = s.pln := by unfold State.done; simp
@[simp] theorem State.done_memory (s : State) (r : ReplyTo) (st : Status) : (s.done r st).memory = s.memory := by unfold State.done; simp
@[simp] theorem State.done_fls (s : State) (r : ReplyTo) (st : Status) : (s.done r st).fls = s.fls := by unfold State.done; simp
@[simp] theorem State.done_lnk (s : State) (r : ReplyTo) (st : Status) : (s.done r st).lnk = s.lnk := by unfold State.done; simp
@[simp] theorem State.done_xpt (s : State) (r : ReplyTo) (st : Status) : (s.done r st).xpt = s.xpt := by unfold State.done; simp
@[simp] theorem State.done_shp (s : State) (r : ReplyTo) (st : Status) : (s.done r st).shp = s.shp := by unfold State.done; simp
@[simp] theorem State.done_blt (s : State) (r : ReplyTo) (st : Status) : (s.done r st).blt = s.blt := by unfold State.done; simp
@[simp] theorem State.done_sec (s : State) (r : ReplyTo) (st : Status) : (s.done r st).sec = s.sec := by unfold State.done; simp
@[simp] theorem State.done_pwr (s : State) (r : ReplyTo) (st : Status) : (s.done r st).pwr = s.pwr := by unfold State.done; simp
@[simp] theorem State.done_freeCtr (s : State) (r : ReplyTo) (st : Status) : (s.done r st).freeCtr = s.freeCtr := by unfold State.done; simp
@[simp] theorem State.done_pending (s : State) (r : ReplyTo) (st : Status) : (s.done r st).pending = s.pending := by unfold State.done; simp

@[simp] theorem State.accepted_board (s : State) (r : ReplyTo) : ((s.accepted r).1).board = s.board := by unfold State.accepted; simp
@[simp] theorem State.accepted_stk (s : State) (r : ReplyTo) : ((s.accepted r).1).stk = s.stk := by unfold State.accepted; simp
@[simp] theorem State.accepted_sat (s : State) (r : ReplyTo) : ((s.accepted r).1).sat = s.sat := by unfold State.accepted; simp
@[simp] theorem State.accepted_kva (s : State) (r : ReplyTo) : ((s.accepted r).1).kva = s.kva := by unfold State.accepted; simp
@[simp] theorem State.accepted_cores (s : State) (r : ReplyTo) : ((s.accepted r).1).cores = s.cores := by unfold State.accepted; simp
@[simp] theorem State.accepted_pln (s : State) (r : ReplyTo) : ((s.accepted r).1).pln = s.pln := by unfold State.accepted; simp
@[simp] theorem State.accepted_memory (s : State) (r : ReplyTo) : ((s.accepted r).1).memory = s.memory := by unfold State.accepted; simp
@[simp] theorem State.accepted_fls (s : State) (r : ReplyTo) : ((s.accepted r).1).fls = s.fls := by unfold State.accepted; simp
@[simp] theorem State.accepted_lnk (s : State) (r : ReplyTo) : ((s.accepted r).1).lnk = s.lnk := by unfold State.accepted; simp
@[simp] theorem State.accepted_xpt (s : State) (r : ReplyTo) : ((s.accepted r).1).xpt = s.xpt := by unfold State.accepted; simp
@[simp] theorem State.accepted_shp (s : State) (r : ReplyTo) : ((s.accepted r).1).shp = s.shp := by unfold State.accepted; simp
@[simp] theorem State.accepted_blt (s : State) (r : ReplyTo) : ((s.accepted r).1).blt = s.blt := by unfold State.accepted; simp
@[simp] theorem State.accepted_sec (s : State) (r : ReplyTo) : ((s.accepted r).1).sec = s.sec := by unfold State.accepted; simp
@[simp] theorem State.accepted_pwr (s : State) (r : ReplyTo) : ((s.accepted r).1).pwr = s.pwr := by unfold State.accepted; simp
@[simp] theorem State.accepted_freeCtr (s : State) (r : ReplyTo) : ((s.accepted r).1).freeCtr = s.freeCtr := by unfold State.accepted; simp
@[simp] theorem State.accepted_pending (s : State) (r : ReplyTo) : ((s.accepted r).1).pending = s.pending := by unfold State.accepted; simp

@[simp] theorem State.windowError_board (s : State) (w o : Nat) (t : Word) (st : Status) : (s.windowError w o t st).board = s.board := by unfold State.windowError; simp
@[simp] theorem State.windowError_stk (s : State) (w o : Nat) (t : Word) (st : Status) : (s.windowError w o t st).stk = s.stk := by unfold State.windowError; simp
@[simp] theorem State.windowError_sat (s : State) (w o : Nat) (t : Word) (st : Status) : (s.windowError w o t st).sat = s.sat := by unfold State.windowError; simp
@[simp] theorem State.windowError_kva (s : State) (w o : Nat) (t : Word) (st : Status) : (s.windowError w o t st).kva = s.kva := by unfold State.windowError; simp
@[simp] theorem State.windowError_cores (s : State) (w o : Nat) (t : Word) (st : Status) : (s.windowError w o t st).cores = s.cores := by unfold State.windowError; simp
@[simp] theorem State.windowError_pln (s : State) (w o : Nat) (t : Word) (st : Status) : (s.windowError w o t st).pln = s.pln := by unfold State.windowError; simp
@[simp] theorem State.windowError_memory (s : State) (w o : Nat) (t : Word) (st : Status) : (s.windowError w o t st).memory = s.memory := by unfold State.windowError; simp
@[simp] theorem State.windowError_fls (s : State) (w o : Nat) (t : Word) (st : Status) : (s.windowError w o t st).fls = s.fls := by unfold State.windowError; simp
@[simp] theorem State.windowError_lnk (s : State) (w o : Nat) (t : Word) (st : Status) : (s.windowError w o t st).lnk = s.lnk := by unfold State.windowError; simp
@[simp] theorem State.windowError_xpt (s : State) (w o : Nat) (t : Word) (st : Status) : (s.windowError w o t st).xpt = s.xpt := by unfold State.windowError; simp
@[simp] theorem State.windowError_shp (s : State) (w o : Nat) (t : Word) (st : Status) : (s.windowError w o t st).shp = s.shp := by unfold State.windowError; simp
@[simp] theorem State.windowError_blt (s : State) (w o : Nat) (t : Word) (st : Status) : (s.windowError w o t st).blt = s.blt := by unfold State.windowError; simp
@[simp] theorem State.windowError_sec (s : State) (w o : Nat) (t : Word) (st : Status) : (s.windowError w o t st).sec = s.sec := by unfold State.windowError; simp
@[simp] theorem State.windowError_pwr (s : State) (w o : Nat) (t : Word) (st : Status) : (s.windowError w o t st).pwr = s.pwr := by unfold State.windowError; simp
@[simp] theorem State.windowError_freeCtr (s : State) (w o : Nat) (t : Word) (st : Status) : (s.windowError w o t st).freeCtr = s.freeCtr := by unfold State.windowError; simp
@[simp] theorem State.windowError_pending (s : State) (w o : Nat) (t : Word) (st : Status) : (s.windowError w o t st).pending = s.pending := by unfold State.windowError; simp

@[simp] theorem State.takeWindow_board (s : State) (w : Nat) (h : Header) (o n : Nat) (b : Bool) : ((s.takeWindow w h o n b).1).board = s.board := by unfold State.takeWindow; dsimp only; (repeat' split) <;> simp
@[simp] theorem State.takeWindow_stk (s : State) (w : Nat) (h : Header) (o n : Nat) (b : Bool) : ((s.takeWindow w h o n b).1).stk = s.stk := by unfold State.takeWindow; dsimp only; (repeat' split) <;> simp
@[simp] theorem State.takeWindow_sat (s : State) (w : Nat) (h : Header) (o n : Nat) (b : Bool) : ((s.takeWindow w h o n b).1).sat = s.sat := by unfold State.takeWindow; dsimp only; (repeat' split) <;> simp
@[simp] theorem State.takeWindow_kva (s : State) (w : Nat) (h : Header) (o n : Nat) (b : Bool) : ((s.takeWindow w h o n b).1).kva = s.kva := by unfold State.takeWindow; dsimp only; (repeat' split) <;> simp
@[simp] theorem State.takeWindow_cores (s : State) (w : Nat) (h : Header) (o n : Nat) (b : Bool) : ((s.takeWindow w h o n b).1).cores = s.cores := by unfold State.takeWindow; dsimp only; (repeat' split) <;> simp
@[simp] theorem State.takeWindow_pln (s : State) (w : Nat) (h : Header) (o n : Nat) (b : Bool) : ((s.takeWindow w h o n b).1).pln = s.pln := by unfold State.takeWindow; dsimp only; (repeat' split) <;> simp
@[simp] theorem State.takeWindow_memory (s : State) (w : Nat) (h : Header) (o n : Nat) (b : Bool) : ((s.takeWindow w h o n b).1).memory = s.memory := by unfold State.takeWindow; dsimp only; (repeat' split) <;> simp
@[simp] theorem State.takeWindow_fls (s : State) (w : Nat) (h : Header) (o n : Nat) (b : Bool) : ((s.takeWindow w h o n b).1).fls = s.fls := by unfold State.takeWindow; dsimp only; (repeat' split) <;> simp
@[simp] theorem State.takeWindow_lnk (s : State) (w : Nat) (h : Header) (o n : Nat) (b : Bool) : ((s.takeWindow w h o n b).1).lnk = s.lnk := by unfold State.takeWindow; dsimp only; (repeat' split) <;> simp
@[simp] theorem State.takeWindow_xpt (s : State) (w : Nat) (h : Header) (o n : Nat) (b : Bool) : ((s.takeWindow w h o n b).1).xpt = s.xpt := by unfold State.takeWindow; dsimp only; (repeat' split) <;> simp
@[simp] theorem State.takeWindow_shp (s : State) (w : Nat) (h : Header) (o n : Nat) (b : Bool) : ((s.takeWindow w h o n b).1).shp = s.shp := by unfold State.takeWindow; dsimp only; (repeat' split) <;> simp
@[simp] theorem State.takeWindow_blt (s : State) (w : Nat) (h : Header) (o n : Nat) (b : Bool) : ((s.takeWindow w h o n b).1).blt = s.blt := by unfold State.takeWindow; dsimp only; (repeat' split) <;> simp
@[simp] theorem State.takeWindow_sec (s : State) (w : Nat) (h : Header) (o n : Nat) (b : Bool) : ((s.takeWindow w h o n b).1).sec = s.sec := by unfold State.takeWindow; dsimp only; (repeat' split) <;> simp
@[simp] theorem State.takeWindow_pwr (s : State) (w : Nat) (h : Header) (o n : Nat) (b : Bool) : ((s.takeWindow w h o n b).1).pwr = s.pwr := by unfold State.takeWindow; dsimp only; (repeat' split) <;> simp
@[simp] theorem State.takeWindow_freeCtr (s : State) (w : Nat) (h : Header) (o n : Nat) (b : Bool) : ((s.takeWindow w h o n b).1).freeCtr = s.freeCtr := by unfold State.takeWindow; dsimp only; (repeat' split) <;> simp
@[simp] theorem State.takeWindow_pending (s : State) (w : Nat) (h : Header) (o n : Nat) (b : Bool) : ((s.takeWindow w h o n b).1).pending = s.pending := by unfold State.takeWindow; dsimp only; (repeat' split) <;> simp

@[simp] theorem State.take_board (s : State) (h : Header) (o n : Nat) (b : Bool) : ((s.take h o n b).1).board = s.board := by
  unfold State.take; dsimp only
  cases h.origin <;> dsimp only <;> (repeat' split) <;> simp_all
@[simp] theorem State.take_sat (s : State) (h : Header) (o n : Nat) (b : Bool) : ((s.take h o n b).1).sat = s.sat := by
  unfold State.take; dsimp only
  cases h.origin <;> dsimp only <;> (repeat' split) <;> simp_all
@[simp] theorem State.take_kva (s : State) (h : Header) (o n : Nat) (b : Bool) : ((s.take h o n b).1).kva = s.kva := by
  unfold State.take; dsimp only
  cases h.origin <;> dsimp only <;> (repeat' split) <;> simp_all
@[simp] theorem State.take_cores (s : State) (h : Header) (o n : Nat) (b : Bool) : ((s.take h o n b).1).cores = s.cores := by
  unfold State.take; dsimp only
  cases h.origin <;> dsimp only <;> (repeat' split) <;> simp_all
@[simp] theorem State.take_pln (s : State) (h : Header) (o n : Nat) (b : Bool) : ((s.take h o n b).1).pln = s.pln := by
  unfold State.take; dsimp only
  cases h.origin <;> dsimp only <;> (repeat' split) <;> simp_all
@[simp] theorem State.take_memory (s : State) (h : Header) (o n : Nat) (b : Bool) : ((s.take h o n b).1).memory = s.memory := by
  unfold State.take; dsimp only
  cases h.origin <;> dsimp only <;> (repeat' split) <;> simp_all
@[simp] theorem State.take_fls (s : State) (h : Header) (o n : Nat) (b : Bool) : ((s.take h o n b).1).fls = s.fls := by
  unfold State.take; dsimp only
  cases h.origin <;> dsimp only <;> (repeat' split) <;> simp_all
@[simp] theorem State.take_lnk (s : State) (h : Header) (o n : Nat) (b : Bool) : ((s.take h o n b).1).lnk = s.lnk := by
  unfold State.take; dsimp only
  cases h.origin <;> dsimp only <;> (repeat' split) <;> simp_all
@[simp] theorem State.take_xpt (s : State) (h : Header) (o n : Nat) (b : Bool) : ((s.take h o n b).1).xpt = s.xpt := by
  unfold State.take; dsimp only
  cases h.origin <;> dsimp only <;> (repeat' split) <;> simp_all
@[simp] theorem State.take_shp (s : State) (h : Header) (o n : Nat) (b : Bool) : ((s.take h o n b).1).shp = s.shp := by
  unfold State.take; dsimp only
  cases h.origin <;> dsimp only <;> (repeat' split) <;> simp_all
@[simp] theorem State.take_blt (s : State) (h : Header) (o n : Nat) (b : Bool) : ((s.take h o n b).1).blt = s.blt := by
  unfold State.take; dsimp only
  cases h.origin <;> dsimp only <;> (repeat' split) <;> simp_all
@[simp] theorem State.take_sec (s : State) (h : Header) (o n : Nat) (b : Bool) : ((s.take h o n b).1).sec = s.sec := by
  unfold State.take; dsimp only
  cases h.origin <;> dsimp only <;> (repeat' split) <;> simp_all
@[simp] theorem State.take_pwr (s : State) (h : Header) (o n : Nat) (b : Bool) : ((s.take h o n b).1).pwr = s.pwr := by
  unfold State.take; dsimp only
  cases h.origin <;> dsimp only <;> (repeat' split) <;> simp_all
@[simp] theorem State.take_freeCtr (s : State) (h : Header) (o n : Nat) (b : Bool) : ((s.take h o n b).1).freeCtr = s.freeCtr := by
  unfold State.take; dsimp only
  cases h.origin <;> dsimp only <;> (repeat' split) <;> simp_all
@[simp] theorem State.take_pending (s : State) (h : Header) (o n : Nat) (b : Bool) : ((s.take h o n b).1).pending = s.pending := by
  unfold State.take; dsimp only
  cases h.origin <;> dsimp only <;> (repeat' split) <;> simp_all

@[simp] theorem State.forward_board (s : State) (q : PktReq) (h : Header) (r : ReplyTo) : (s.forward q h r).board = s.board := by unfold State.forward; (repeat' split) <;> simp
@[simp] theorem State.forward_stk (s : State) (q : PktReq) (h : Header) (r : ReplyTo) : (s.forward q h r).stk = s.stk := by unfold State.forward; (repeat' split) <;> simp
@[simp] theorem State.forward_sat (s : State) (q : PktReq) (h : Header) (r : ReplyTo) : (s.forward q h r).sat = s.sat := by unfold State.forward; (repeat' split) <;> simp
@[simp] theorem State.forward_kva (s : State) (q : PktReq) (h : Header) (r : ReplyTo) : (s.forward q h r).kva = s.kva := by unfold State.forward; (repeat' split) <;> simp
@[simp] theorem State.forward_cores (s : State) (q : PktReq) (h : Header) (r : ReplyTo) : (s.forward q h r).cores = s.cores := by unfold State.forward; (repeat' split) <;> simp
@[simp] theorem State.forward_pln (s : State) (q : PktReq) (h : Header) (r : ReplyTo) : (s.forward q h r).pln = s.pln := by unfold State.forward; (repeat' split) <;> simp
@[simp] theorem State.forward_memory (s : State) (q : PktReq) (h : Header) (r : ReplyTo) : (s.forward q h r).memory = s.memory := by unfold State.forward; (repeat' split) <;> simp
@[simp] theorem State.forward_fls (s : State) (q : PktReq) (h : Header) (r : ReplyTo) : (s.forward q h r).fls = s.fls := by unfold State.forward; (repeat' split) <;> simp
@[simp] theorem State.forward_lnk (s : State) (q : PktReq) (h : Header) (r : ReplyTo) : (s.forward q h r).lnk = s.lnk := by unfold State.forward; (repeat' split) <;> simp
@[simp] theorem State.forward_xpt (s : State) (q : PktReq) (h : Header) (r : ReplyTo) : (s.forward q h r).xpt = s.xpt := by unfold State.forward; (repeat' split) <;> simp
@[simp] theorem State.forward_shp (s : State) (q : PktReq) (h : Header) (r : ReplyTo) : (s.forward q h r).shp = s.shp := by unfold State.forward; (repeat' split) <;> simp
@[simp] theorem State.forward_blt (s : State) (q : PktReq) (h : Header) (r : ReplyTo) : (s.forward q h r).blt = s.blt := by unfold State.forward; (repeat' split) <;> simp
@[simp] theorem State.forward_sec (s : State) (q : PktReq) (h : Header) (r : ReplyTo) : (s.forward q h r).sec = s.sec := by unfold State.forward; (repeat' split) <;> simp
@[simp] theorem State.forward_pwr (s : State) (q : PktReq) (h : Header) (r : ReplyTo) : (s.forward q h r).pwr = s.pwr := by unfold State.forward; (repeat' split) <;> simp
@[simp] theorem State.forward_freeCtr (s : State) (q : PktReq) (h : Header) (r : ReplyTo) : (s.forward q h r).freeCtr = s.freeCtr := by unfold State.forward; (repeat' split) <;> simp
@[simp] theorem State.forward_pending (s : State) (q : PktReq) (h : Header) (r : ReplyTo) : (s.forward q h r).pending = s.pending := by unfold State.forward; (repeat' split) <;> simp

/-! ### Replies leave the registers alone -/

theorem ringKind_reply (k i : Nat) (h : i < 4096) : ringKind (ringKey k .reply i) = .reply := by
  have e : ringKey k .reply i / 4096 % 4 = 0 := by simp only [ringKey, RingKind.code]; omega
  unfold ringKind
  simp only [e]

theorem ringKind_windowRing (w : Nat) : ringKind (windowRing w) = .reply := by
  unfold windowRing
  split
  · exact ringKind_reply _ _ (by omega)
  · exact ringKind_reply _ _ (by omega)

@[simp] theorem State.putRecord_window_bar (s : State) (w : Nat) (l : List Byte) : (s.putRecord (windowRing w) l).bar = s.bar := by
  unfold State.putRecord
  simp only [ringKind_windowRing]
  (repeat' split) <;> simp_all

@[simp] theorem State.answer_bar (s : State) (r : ReplyTo) (st : Status) (b : Bool) (l : List Byte) :
    (s.answer r st b l).bar = s.bar := by unfold State.answer; split <;> simp

@[simp] theorem State.done_bar (s : State) (r : ReplyTo) (st : Status) : (s.done r st).bar = s.bar := by unfold State.done; simp

@[simp] theorem State.accepted_bar (s : State) (r : ReplyTo) : (s.accepted r).1.bar = s.bar := by unfold State.accepted; simp

/-! ### A packet that is served -/

theorem State.serve_of_serves {s s1 : State} {q : PktReq} {h : Header} {own : Bool} {r : ReplyTo} (hs : s.Serves q h own r s1)
    (body : ReplyTo → State → State) : s.serve q h own body = body r s1 := by
  unfold State.serve; simp [hs.1, hs.2.1, hs.2.2]

theorem State.Serves.taken {s s1 : State} {q : PktReq} {h : Header} {own : Bool} {r : ReplyTo} (hs : s.Serves q h own r s1) :
    s1 = (s.take h q.op q.replies own).1 := by rw [hs.1]

end Sys2Proof.Machine
end

