-- ==== Sys2Proof/Tests/Slice0.lean ====
section
/-!
SUPPORT. Tests/Slice0.lean: for each statement a state and operands that meet the hypotheses of each of its clauses (`meets_<statement>`), the
worked examples of the spec, and the smoke test of WellFormed.lean: an operand that fits and one that does not, for each check.
-/
namespace Sys2Proof.Machine

set_option Elab.async false

/-- The reply of a packet that is taken. -/
def replyOf (s : State) (q : PktReq) (h : Header) (own : Bool) : ReplyTo :=
  match (s.take h q.op q.replies own).2 with | some r => r | none => ⟨.bmc, 0, 0, 0, 0⟩
/-- The state with the packet taken. -/
def taken (s : State) (q : PktReq) (h : Header) (own : Bool) : State := (s.take h q.op q.replies own).1
/-- What shows that a packet is served. -/
theorem served {s : State} {q : PktReq} {h : Header} {own : Bool} (a : (s.take h q.op q.replies own).2.isSome = true)
    (b : (taken s q h own).judge q h = none) (c : (taken s q h own).elsewhere h = false) : s.Serves q h own (replyOf s q h own) (taken s q h own) := by
  refine ⟨?_, b, c⟩
  unfold replyOf taken
  cases e : s.take h q.op q.replies own with
  | mk x y => rw [e] at a; cases y with | none => cases a | some r => rfl
/-- What a bound on a known context length needs. -/
theorem ctxOk {a : Option Nat} {k : Nat} (h : (match a with | some n => decide (k ≤ n) | none => true) = true) : ∀ n, a = some n → k ≤ n := by
  intro n e; subst e; exact of_decide_eq_true h
/-- What an Except answers, checked. -/
theorem okIs {α β : Type} [DecidableEq β] {a : Except α β} {b : β} (h : (match a with | .ok r => decide (r = b) | .error _ => false) = true) : a = .ok b := by
  cases a with | ok r => exact congrArg _ (of_decide_eq_true h) | error e => cases h
theorem errIs {α β : Type} [DecidableEq α] {a : Except α β} {b : α} (h : (match a with | .error r => decide (r = b) | .ok _ => false) = true) : a = .error b := by
  cases a with | error r => exact congrArg _ (of_decide_eq_true h) | ok e => cases h
theorem pairOk {σ ε α : Type} [DecidableEq α] {x : σ × Except ε α} {b : α} (h : (match x.2 with | .ok r => decide (r = b) | .error _ => false) = true) : x = (x.1, .ok b) := by
  obtain ⟨y, z⟩ := x; cases z with | ok r => exact congrArg (fun v => (y, Except.ok v)) (of_decide_eq_true h) | error e => cases h
/-- A device in service. -/
def up : State := { State.reset with sec := { Sec.reset with run := .service } }
/-- PF0's packet from another device. -/
def hd (len : Nat) : Header := ⟨.fabric 0x0021 false 0 0 0, false, 0, len, 7, 0xFFFF, 0, 0, 0, 0, []⟩
/-- The device accepted PF0's packet. -/
def State.acc (s : State) (op : Nat) : State := { s with cmd := { s.cmd with accepted := [⟨.fabric 0x0021 false 0 0 0, op, 7⟩] } }
/-- T1 is ready, with a device pool of 64 GiB. -/
def t1up : State := { up.setReg Reg.memDevpool 64 with memory := { MemSt.reset with t1Ready := true, t0Ready := true, population := 8, density := 1 } }
/-- A model with two layers of two KV heads, 64 positions to a page. -/
def kv0 : KvLayout := ⟨2, 2, 16, 1, 6, 0, 1, 0, 0, 1, 4096, 0, 0⟩
def img0 : ModelImage := ⟨7, 0, 1000, kv0, 0, 0, 0, 0, 4096, 0, 0, true, true, [], 4096, [], 0, 0⟩
/-- A partition that serves that model with 8 rows of 4 frames. -/
def part0 : Part := { Part.reset with state := .ready, modelId := 7, image := some img0, frames := 32, slices := 1 }
def parts0 (q : Part) : Pln := { Pln.reset with ready := true, parts := q :: List.replicate 15 Part.reset }
def smp0 : Sampler := ⟨0, 0x3F800000, 0x3C00, 0, 0, 0, 0, 0, false, false, 0, 0⟩
def stop0 : StopBlock := ⟨0, 1, 0, [], 0⟩
/-- A satchel of the device's own, in PREFILL. -/
def sat0 : Sat :=
  { id := 1, tenant := 0, part := 0, cls := 0, state := .prefill, migrating := false, frozen := false, cancelLatched := false, recovered := false, autoFree := false,
    session := false, autoRecover := false, noSubst := false, epoch := 1, model := 7, adapter := 0xFFFF, adapterVer := 0, log := [0x01000001, 0x01000002], promptLen := 2,
    mirrorLen := 2, maxNew := 8, kvPos := 0, place := ⟨0, 0, 4096, 0, 511, 0, 0⟩, sampler := smp0, stop := stop0, waitKind := 0, waitMatcher := 15, waitExpiry := 0, waitStroke := 0, tokensIn := 0,
    tokensOut := 0, subst := 0, defers := 0, lastStroke := 0, admitStroke := 0, cookie := 0, onPf0 := true, ring := 0, lodge := 0xFFFF, rows := [], admitting := none,
    attempts := 1, freeing := [], prior := .prefill, move := none, planned := none, prov := none, backfill := 0, unackedInks := [], mirrorHold := false, mirrorsOut := 0,
    mirrorSent := 2, reported := .prefill, registering := false, reregister := false, park := .idle, units := 0, staged := [], migrated := 0, lodgedAt := 0, tried := 0, poolNoted := false, home := [], cold := [], vocab := 1000, maxContext := 4096,
    outRecs := [], swapOut := [], returns := [] }
/-- Its record at its registrar, which is this device. -/
def rec0 : Record :=
  { id := 1, epoch := 1, owner := 0x0021, pending := 0xFFFF, state := .ready, autoRecover := false, noSubst := false, tenant := 0, mirror := [0x01000001, 0x01000002], chunks := [0],
    image := sat0, prior := .ready, sender := 0x0021, commits := [], commitUndelivered := false, probing := false, lastMirror := 0, ownerDead := false, candidate := none,
    recoverReply := none, firstEntry := 0, movingTo := none, sent := false }
/-- A device that owns a satchel in slot 4194303 and serves custody. -/
def own (x : Sat) : State := { up with sat := { SatSt.reset with ready := true, sats := [(4194303, x)] }, pln := parts0 part0, kva := { Kva.reset with ready := true } }
/-- Room in the device pool. -/
def pooled (s : State) : State := { s.setReg Reg.memDevpool 64 with memory := t1up.memory }
/-- A device that holds a record. -/
def reg (c : Record) : State := { up with sat := { SatSt.reset with ready := true, recs := [(1, c)] } }
/-- A custody message from the other device. -/
def msg (epoch status state logLen arg : Nat) : CMsg := ⟨0, 0xFFFF, 0, false, 0, 0x0021, epoch, 1, 0xFFFF, status, state, logLen, arg⟩
/-- An open connection of partition 0 with partition 0 of the other device. -/
def cn0 : Conn :=
  { state := .opened, cls := 1, device := false, inc := 1, peerConn := 5, peerInc := 2, peerDev := 0x0021, peerPart := 0, localPart := 0, sndNxt := 8, sndUna := 7,
    rcvNxt := 9, msgNxt := 0, msgSnd := 0, msgDone := 0, window := 4096, inflight := 0, alpha := 0, srtt := 0, rto := 1000, retries := 0, ops := 0, opsMax := 4,
    lastUse := 0, sendq := [], sent := [], arrived := [], unacked := 0, firstAt := 0, closeAt := 0, echoDue := false, roundEnd := 0, roundBytes := 0, roundMarked := 0,
    waiting := [], reopen := false, notReady := [], engine := 0, path := none }
def connOf (x : State × Option (Nat × Conn)) : Conn := match x.2 with | some q => q.2 | none => cn0
theorem receivedOk {x : State × Option (Nat × Conn)} {k : Nat} (h : x.2.map (fun q => q.1) = some k) : x = (x.1, some (k, connOf x)) := by
  obtain ⟨y, z⟩ := x
  cases z with
  | none => cases h
  | some q => obtain ⟨a, b⟩ := q; cases Option.some.inj h; rfl
/-- Six hypotheses checked at once, before the others. -/
theorem meet6 {a b c d e f g : Prop} (h : a ∧ b ∧ c ∧ d ∧ e ∧ f) (k : g) : a ∧ b ∧ c ∧ d ∧ e ∧ f ∧ g :=
  ⟨h.1, h.2.1, h.2.2.1, h.2.2.2.1, h.2.2.2.2.1, h.2.2.2.2.2, k⟩
/-- What a register that is no register pair needs. -/
theorem pairW_of {off : Nat} (h : (match findReg off with | some q => q.1.pairW | none => false) = false) {l : RegDef} {j : List Nat}
    (e : findReg off = some (l, j)) : l.pairW = false := by rw [e] at h; exact h
/-- A claim about every number from 1 to below a bound, checked. -/
theorem fromOne {P : Nat → Prop} {n : Nat} (h : ∀ k, k < n → 1 ≤ k → P k) : ∀ k, 1 ≤ k → k < n → P k := fun k a b => h k b a
/-- A claim about every partition's open commit, checked on the table. -/
theorem onePart {s : State} {k : Nat} (h : ((List.range s.pln.parts.length).all fun q => q == k || !(s.part q).commitOpen) = true) :
    ∀ q, q ≠ k → (s.part q).commitOpen = false := by
  intro q hq
  by_cases hl : q < s.pln.parts.length
  · have := List.all_eq_true.mp h q (List.mem_range.mpr hl)
    simp [hq] at this; exact this
  · have : s.part q = Part.reset := by unfold State.part; simp only [List.getD_eq_getElem?_getD, List.getElem?_eq_none (Nat.le_of_not_lt hl), Option.getD_none]
    rw [this]; rfl
/-- The first carve-out lies at 0. -/
theorem carveFirst {pool size : Nat} (h : size ≤ pool) : carvePlace [] pool size = some 0 := by
  simp [carvePlace, carvePlaces, carveFree, h]
theorem t1up_xptBytes : carvePlace t1up.memory.carves t1up.poolBytes t1up.xptBytes = some 0 := by
  have a : t1up.fld Reg.xptConnCfg 20 0 ≤ 2097151 := by decide +kernel
  have b : t1up.poolBytes = 68719476736 := by decide +kernel
  have c := Config.resultEntryBytes.isLt
  apply carveFirst
  have d : t1up.xptBytes = t1up.fld Reg.xptConnCfg 20 0 * 256 + 131072 * Config.resultEntryBytes.val := rfl
  rw [b, d]
  generalize t1up.fld Reg.xptConnCfg 20 0 = x at a
  generalize Config.resultEntryBytes.val = y at c
  omega

def gm : State := { up.setReg Reg.stkTimeSrc 0x00200000 with stk := { Stk.reset with src := 0x00200000, locked := true } }
def child : State := { up.setReg Reg.stkTimeSrc 0x00000043 with stk := { Stk.reset with src := 0x00000043, time := 1000 } }
def cfg0 : StrokeCfg := { StrokeCfg.reset with periodUs := 1000 }
def running : State := { gm with stk := { gm.stk with running := true, cfg := cfg0, stroke := 5, time := 5000000 } }
def part1 (q : Part) : List Part := List.replicate 15 Part.reset ++ [q]
def ready : Part := { Part.reset with state := .ready }
def at_phase (ph : Phase) : State := { running with stk := { running.stk with phase := ph }, pln := { Pln.reset with parts := part1 { ready with commitOpen := true } } }
def adm : AdmitParams := ⟨0, false, false, false, false, false, 0xFFFF, 8, 0xFFFFFFFF, 0, 0, smp0, 0, 1, 0, stop0, [5], 0⟩
def ownW : Sat := { sat0 with state := .wait, waitKind := 1 }
def satl : Satellite := { sat0 with owner := 0x0021, partner := false, reserved := false, deadAt := some 5, rows := [⟨.here, 2, 0⟩], kvPos := 2 }
def act0 : ShardInstr := ⟨1, 0, 0, 0, false, false, [], false⟩
def inc0 : Incoming := ⟨1, 0x0021, 1, 0, false, sat0, [], false, false, 0, false, none, none⟩
def taking (i : Incoming) : State := { up with sat := { SatSt.reset with ready := true, live := 1, reserved := [0], incoming := [i] }, pln := parts0 part0 }
def ent0 : StopEntry := ⟨.off, 0, 0, 0, 0, 0, 2, 5, none, [], [], [7, 8], 0⟩
def wt : Sat := { sat0 with state := .wait, waitKind := 1, waitMatcher := 0, waitExpiry := 1, stop := ⟨1, 1, 0, [ent0], 0⟩, kvPos := 2, waitStroke := 0 }
def atStroke (s : State) (n : Nat) : State := { s with stk := { Stk.reset with stroke := n, running := true } }
def row1 : Row := ⟨.here, 2, 0⟩
def img1 : ModelImage := { img0 with kv := { kv0 with layers := 1, kvHeads := 1 } }
def partW : Part := { part0 with image := some img1, used := [0] }
def own1 (x : Sat) : State := { own x with pln := parts0 partW, memory := { MemSt.reset with t1Ready := true, t0Ready := true } }
def form1 : List Byte := (encodeBlock 2 (zeros 256)).1
def rev1 : Sat := { wt with state := .parkedWarm, park := .reviving [1] false, rows := [⟨.parked, 2, 0⟩], staged := [0] }
def own2 (x : Sat) (l : List (Nat × Nat)) : State := { own1 x with kva := { Kva.reset with ready := true, parked := [(blockKey 4194303 1, form1)], indexes := [(4194303, indexBytes [64, storedLen form1 false] false)], rereads := l } }
def pool (s : State) (w c : Nat) : State := { s with pln := { s.pln with warmUnits := w, coldUnits := c } }
def t1pool : State := { t1up with fls := { Fls.reset with ready := true } }
def isW (s : Option State) : Bool := s.isSome
def th0 : Thread := { Thread.stopped_ with state := .running, x := [(5, 7)] }
def memD : List Host.Cell := memWrite [] 0 ([1] ++ zeros 15)
def mem1 : MemSt := { t1up.memory with tlb := [⟨0, 0, 0, 0, true, true, true⟩] }
def core0 (t : Thread) : State :=
  { up.setReg (Reg.plnShare 0 0) 1 with pln := parts0 part0, cores := { threads := [(0, t)], queues := [], seqs := [] }, memory := { mem1 with mem := memD } }
def wPush : Word := 0x0062850B
def mdesc (fl m n k fm len layer entries : Nat) : List Byte :=
  [1, BitVec.ofNat 8 fl] ++ zeros 14 ++ leBytes 8 0 ++ leBytes 8 2 ++ leBytes 8 (if bitAt fl 2 then 0 else 256) ++ leBytes 8 len ++
    leBytes 8 ((m - 1) * 2 ^ 48 + (n - 1) * 2 ^ 30 + (k - 1) * 2 ^ 12) ++ leBytes 2 fm ++ leBytes 2 layer ++ leBytes 2 0 ++ leBytes 2 entries
def cmd0 (d : List Byte) : CoreCmd := ⟨0, 0, 0, 0, d, 0, false, [], [], [], [], false, none⟩
def engS (unit : Nat) (c : CoreCmd) (table : List Byte) : State :=
  { own sat0 with cores := { threads := [(0, th0)], queues := [(unitKey 0 unit, [c])], seqs := [] },
                  memory := { mem1 with mem := memWrite (memWrite [] 0 [0x80, 0x3F, 0, 0x40]) 512 table } }
def good : List Byte := leBytes 4 4194303 ++ leBytes 4 0 ++ leBytes 2 1 ++ leBytes 2 0xFFFF ++ leBytes 4 0
def mOk : CoreCmd := cmd0 (mdesc 0 1 1 1 0x7790 0 0 0)
def mTab : CoreCmd := cmd0 (mdesc 0 1 1 1 0x7790 512 0 1)
def mApp : CoreCmd := cmd0 (mdesc 4 1 16 1 0x77A0 512 0 1)
def adesc (entries groups : Nat) : List Byte :=
  [2] ++ zeros 15 ++ leBytes 8 0 ++ leBytes 8 256 ++ leBytes 8 512 ++ leBytes 8 0 ++ leBytes 4 entries ++ leBytes 2 0 ++ [0, BitVec.ofNat 8 (groups - 1)] ++ zeros 2 ++ [0, 1] ++ zeros 4
def sdesc (vocab : Nat) : List Byte :=
  [3] ++ zeros 15 ++ leBytes 8 0 ++ leBytes 8 256 ++ leBytes 8 512 ++ leBytes 8 0 ++ leBytes 2 1 ++ [7, 0] ++ leBytes 4 vocab ++ zeros 8
def vdesc (op cols : Nat) : List Byte :=
  [4] ++ zeros 15 ++ leBytes 8 0 ++ leBytes 8 512 ++ leBytes 8 256 ++ leBytes 8 (2 ^ 32) ++ leBytes 4 1 ++ leBytes 4 cols ++ [BitVec.ofNat 8 op, 0x77, 0x70] ++ zeros 5
def satp : Satellite := { sat0 with owner := 0x0021, partner := true, reserved := false, deadAt := none, rows := [⟨.here, 2, 0⟩], kvPos := 2, id := 9 }
def ringS : State := { own sat0 with sat := { (own sat0).sat with satellites := [(3, satp)] }, kva := { (own sat0).kva with scales := [(0, ⟨0, 0, 1, 1, false, false, 9, [(0, 0x3F80), (1, 0x3F80)]⟩)] } }
def cvP : Part := { part0 with cv := [64, 3] }
def cvS : State := { core0 th0 with pln := parts0 cvP }
def cp : ComposeParams := ⟨2, 0, 3, 0, 1, 0xFFFF, 0, 0, 1, 0, 1, 16384, 0, 64, 0, 0, 0, [⟨0, 0⟩], [], 0⟩
def cmp0 : Composing := ⟨cp, 9, none, false, false, false⟩
def withPart (s : State) (q : Part) : State := { s with pln := parts0 q }
def inState (x : PartState) : State := { own sat0 with pln := parts0 { part0 with state := x }, sat := { SatSt.reset with ready := true } }
def kvC : KvLayout := { kv0 with headDim := 64 }
def kvRec : List Byte := leBytes 2 2 ++ leBytes 2 2 ++ leBytes 2 64 ++ leBytes 1 1 ++ leBytes 1 6 ++ leBytes 1 0 ++ leBytes 1 1 ++ leBytes 1 0 ++ leBytes 1 0 ++ leBytes 4 0 ++ leBytes 2 1 ++ leBytes 2 0 ++ leBytes 4 4096 ++ leBytes 8 0
def imgHead (model : Nat) : List Byte := leBytes 2 model ++ leBytes 2 0 ++ leBytes 4 1000 ++ kvRec ++ zeros 32 ++ leBytes 8 128
def imgBytes (model : Nat) : List Byte := imgHead model ++ leBytes 8 12056457565469715767 ++ zeros 40
def factOf (model : Nat) : ImageFact := ⟨imgBytes model, [], 128, [], 0, 0⟩
/-- A CRC of bytes goes on from the CRC of those before them. -/
theorem crcHalf {p i a b n : Nat} {l : List Byte} (h : crcMsb 64 p i 0 (l.take n) = a) (g : crcMsb 64 p a 0 (l.drop n) = b) : crcMsb 64 p i 0 l = b := by
  have e := List.foldl_append (f := fun c (b : Byte) => (List.range 8).foldl (fun x _ => crcMsbBit 64 p x) (c ^^^ (b.toNat * 2 ^ 56))) (b := i) (l := l.take n) (l' := l.drop n)
  rw [List.take_append_drop] at e
  rw [← g, ← h]; simpa [crcMsb] using e
theorem imgCrc : crc64 (((imgBytes 7).take 0x50) ++ zeros 8 ++ ((imgBytes 7).take 128).drop 0x58) = 12056457565469715767 :=
  crcHalf (n := 64) (a := 10451033859438343705) (by decide +kernel) (by decide +kernel)
theorem imgOk : imageCheck (imgBytes 7) = true := by
  have n : fieldAt (imgBytes 7) 0x48 8 = 128 := by decide +kernel
  unfold imageCheck; rw [n]; dsimp only; rw [imgCrc]; decide +kernel
def imD : ModelImage :=
  { modelId := 7, substLayer := 0, vocab := 1000, kv := { kv0 with headDim := 64 }, ropeOff := 0, progOff := 0, exitOff := 0, weightsOff := 0, imageLen := 128,
    check := 12056457565469715767, rsv := 0, checkOk := true, recheckOk := false, bytes := imgBytes 7, weightBytes := 128, eosTokens := [], stateBytes := 0, stateWidth := 0 }
theorem dec7 : (factOf 7).decode = imD := by
  unfold ImageFact.decode factOf; rw [imgOk]; decide +kernel
def imC : ModelImage := { img0 with kv := kvC }
def cpM : ComposeParams := { cp with role := 0, modelId := 7, source := 1 }
def cmpM : Composing := { cmp0 with params := cpM, src := some ⟨kvRec, 1000, 128, 128⟩ }
def composing (c : Composing) (im : Option ModelImage) : State := withPart t1up { part0 with state := .composing, composing := some c, image := im }
def drn : Part := { part0 with state := .draining }
def one : State := { t1up with pln := { Pln.reset with ready := true, parts := Part.reset :: drn :: List.replicate 14 Part.reset } }
def rep0 : ReplyTo := ⟨.bmc, 0x0104, 7, 0, 1⟩
def load0 : AdapterLoad := ⟨4095, 2, 256, false, rep0⟩
def ver0 : AdapterVer := ⟨4095, 1, 16, true, false⟩
def g0 : GddrDev := { GddrDev.reset with present := true, trained := true, inService := true }
def devs (g : GddrDev) : State := { t1up with memory := { t1up.memory with devs := g :: List.replicate 31 GddrDev.reset } }
def tables : List Host.Cell :=
  memWrite (memWrite (memWrite (memWrite [] 0x10000 (leBytes 8 0x20003)) 0x20000 (leBytes 8 0x30003)) 0x30000 (leBytes 8 0x40003)) 0x40000 (leBytes 8 0x100000000D)
def mapped : State := { (t1up.setReg Reg.memS2RootLo 0x10001) with memory := { t1up.memory with mem := tables } }
def mv0 : RegionMove := ⟨0, 0, 65536, 0x1000010000, 65536, 0, ⟨.bmc, 0x0502, 7, 0, 1⟩⟩
def moving (v : RegionMove) : State := { mapped with memory := { mapped.memory with moves := [v] } }
def vf0 : Header := { hd 56 with origin := .fabric 0x0021 true 0 0 0 }
def fo0 : OpenFault := ⟨.s1Invalid, .read, 0, 0, 1, 0x10000, 0, 0, 4, .thread 0 1, none⟩
def openF (x : PartState) (n : Nat) : State :=
  { own sat0 with pln := parts0 { part0 with state := x }, memory := { t1up.memory with faults := [(65535, fo0)] },
                  cores := { threads := [(1, { Thread.stopped_ with state := .waitAccess })], queues := [], seqs := [] },
                  stk := { Stk.reset with running := true, stroke := n } }
def tlbs : State := { own sat0 with memory := { t1up.memory with tlb := [⟨0, 65536, 0, 0, true, true, false⟩, ⟨0, 131072, 0, 0, true, true, false⟩, ⟨1, 65536, 0, 0, true, true, false⟩] } }
def oneSat (x : Sat) (s : State) : State := { s with sat := { (own x).sat with live := 2 }, pln := (own x).pln, kva := (own x).kva }
def ch0 : FlsChan := { FlsChan.reset with present := true, inService := true, diesOk := 1 }
def nf : NandFit := ⟨1, 0, 1, 1, 0, 0, 16, 64, 256, 3000, 4, true, true⟩
def ext0 : Extent := { persistent := true, owner := none, ranges := [(10, 4)], limit := 4, deleting := none }
def fls0 : Fls := { Fls.reset with ready := true, chans := ch0 :: List.replicate 31 FlsChan.reset, dies := 1, op := 12, userUnits := 400000, nextSeq := 9, nextReq := 3 }
def fl (f : Fls) : State := { t1up.setReg Reg.flsCtrl 7 with fls := f, board := { t1up.board with nand := [nf] } }
def blk (st : BlockState) : FlsBlock := ⟨0, st, 5, false, false, 0, []⟩
def withExt : Fls := { fls0 with extents := [(991, ext0)] }
def wr0 : FlsWrite := ⟨3, 0, 10, 991, .data, 7, 0⟩
def jr0 : JRec := { jrec .map with seq := 7, extent := 991, lua := 10, newPua := 512 }
def lup (p : Nat) (x : Port) : State := { up with lnk := { Lnk.reset with ready := true, ports := (List.replicate 64 Port.reset).set p x } }
def upP : Port := { Port.reset with state := .up, width := 4 }
def xp0 : XPort := ⟨0, 0, 0, 0, 0, false, false, true, true, true, 0, 0⟩
def pkB : Packet := ⟨0x10, false, false, 0, 0x0021, 0, 0, 0, 0, false, false, 0, 0, 100, 0, xp0, .raw [], true⟩
def pk0 : Packet := { pkB with hcrc := pkB.crc }
def hdr0 : BitVec 16 := FlitHdr.word ⟨1, 0, 0, true, false, 62⟩
def flt0 : Flit := ⟨hdr0, none⟩
def qp0 : QPkt := ⟨pk0, 3, 0, 0, 0, none, false⟩
def gwUp : State := ((lup 63 upP).setReg Reg.lnkGwCfg 0x00010001)
def gwf : GwFrame := ⟨0, 0, 1, true, true, pk0⟩
def live2 (s : State) : State := { s with sat := { s.sat with live := 7 } }
def xmem : MemSt := { t1up.memory with tlb := [⟨0, 0, 0, 0x100000, true, true, true⟩], mem := [(0x100000, 7)] }
def xs (x : Xpt) : State := { own sat0 with xpt := { x with ready := true }, memory := xmem, lnk := { Lnk.reset with ready := true, ports := List.replicate 64 { Port.reset with state := .up, width := 4 } } }
def xc (c : Conn) : State := xs { Xpt.reset with conns := [(3, c)] }
def pk (type : BitVec 8) (b : Body) : Packet :=
  ⟨type, false, false, 0, 0x0021, 0, 0, 1, 0, false, false, 0, 0, 64, 0, ⟨1, 3, 9, 7, 4, false, false, true, true, true, 0, 0⟩, b, true⟩
def pkSeq (p : Packet) (n : BitVec 32) : Packet := { p with xp := { p.xp with seq := n } }
def hdk : OpHdr := ⟨0x0001000000000005, 0, 0, 64⟩
def rg0 : Region := ⟨5, 0, 0, 65536, true, true, true, none, true, none, []⟩
def xr (c : Conn) : State := xs { Xpt.reset with conns := [(3, c)], regions := [(1, rg0)], winMap := [(0, 1)] }
def op0 : XOp := ⟨.put, .queue 2 6, 3, true, 0, 0, 0, 0, 0, 0, 64, 0, 0, 0, 0x0021, none, none, 0, [], 0, 1, [], .ok, false, []⟩
def pk1 (type : BitVec 8) (b : Body) : Packet := { pk type b with src := 1 }
def cn1 : Conn := { cn0 with peerDev := 1 }
def sent0 : Sent := ⟨{ pk 0x10 (.put hdk none []) with xp := ⟨2, 5, 7, 9, 4, false, false, true, true, true, 0, 0⟩ }, 0⟩
def dLocal : List Byte := [1] ++ zeros 7 ++ leBytes 8 0x0001000000000005 ++ leBytes 8 128 ++ leBytes 8 0 ++ leBytes 4 64 ++ zeros 27 ++ [1]
def cnS : Conn := { cn0 with sent := [sent0], inflight := 64 }
def xo (c : Conn) (o : XOp) : State := xs { Xpt.reset with conns := [(3, c)], ops := [(4, o)] }
def xq0 : XQueue := ⟨0, 0, 0, 16, 0, true, [], [], []⟩
def xqD (l : List Byte) : State := { xs { Xpt.reset with queues := [(2, xq0)] } with memory := { xmem with mem := memWrite [] 0x100000 l } }
def dPut : List Byte := [1] ++ zeros 31 ++ leBytes 4 64 ++ zeros 27 ++ [1]
def dPut2 : List Byte := [1] ++ zeros 23 ++ leBytes 8 64 ++ leBytes 4 64 ++ zeros 27 ++ [1]
def dBad : List Byte := [4] ++ zeros 31 ++ leBytes 4 64 ++ zeros 27 ++ [1]
def grp0 : XGroup := ⟨0, 1, 9, [⟨0, 0⟩, ⟨0x0021, 0⟩], 0, [], []⟩
def xg : State := xs { Xpt.reset with conns := [(3, cn0)], groups := [(groupKey 0 6, grp0)] }
def col0 : Collector := ⟨0, 5, 2, 1, []⟩
def xcol : State := xs { Xpt.reset with conns := [(3, cn0)], collectors := [(groupKey 0 6, col0)] }
def thrS (o : XOp) : State := { xo cnS o with cores := { threads := [(1, { Thread.stopped_ with state := .waitAccess })], queues := [], seqs := [] } }
def cons0 : Constituent := ⟨0x0021, 3, 1, 9, 4, 0, 5⟩
def comb0 : CombRec := ⟨.window 0, 0x20, 0, 0, 1, 0x0021, [cons0]⟩
def put8 (m : List Host.Cell) (a v : Nat) : List Host.Cell := memWrite m a (leBytes 8 v)
def vaMap : List Host.Cell :=
  put8 (put8 (put8 (put8 (put8 (put8 (put8 (put8 (put8 (put8 (put8 (put8 [] 0x10000 0x20003) 0x20000 0x30003) 0x30000 0x40003) 0x40000 0x100000000D) 0x40008 0x100001000D) 0x40010 0x100002000D)
    0x40018 0x100003000D) 0x40020 0x100004000D) 0x1000000000 0x10003) 0x1000010000 0x20003) 0x1000020000 0x30003) 0x1000030000 0x4000D
def regs0 : State := { xs Xpt.reset with memory := { xmem with mem := vaMap } }
def shp (s : State) : State := (s.setReg Reg.shpCtrl 3)
def ticking : State := { shp up with stk := { Stk.reset with running := true, time := 12345 } }
def polS (s : State) : State := { (s.setReg (Reg.shpPolRate 15 7) 800) with shp := { Shp.reset with held := [(polKey 15 7, [pk0])] } }
def ring0 : Ring := Ring.new 64 0x10000 0x20000 0xFFFF 1 0
def wOn (w : Nat) (x : Window) (k : Nat) (g : Ring) : State := { up with cmd := { Cmd.reset with windows := (List.replicate 32 Window.reset).set w x, rings := [(k, g)] } }
def won (w : Nat) : State := wOn w { Window.reset with state := .enabled } (windowRing w) ring0
def wEnd (w : Nat) : State := wOn w { Window.reset with state := .enabled, cons := 0xFFEFC0 } (windowRing w) ring0
def wh (w : Fin 32) (len : Nat) : Header := ⟨.window w, true, 0, len, 7, 0xFFFF, 0, 0, 0, 9, []⟩
def env (a : Nat) : Envelope := ⟨0x0021, a, 255, 4294967295⟩
def rmt : RemoteSlot := ⟨15, ⟨.window 15, 0x0305, 7, 64, 1⟩, 3, 9⟩
def fs0 (l : Fin 4) : FaultSpec := ⟨0x38F, 0x501, l, 5, .none, .dataCorrupt, false, false⟩
def be0 (l : Fin 4) (e : Bool) : BltEntry := ⟨0x38F, 0x501, l, e, 0, [3], 3, 4⟩
def filed (l : Fin 4) (e : Bool) : State := { up with blt := { Blt.reset with seq := 3, entries := [be0 l e] } }
def una (q : BitVec 32) (l : Fin 4) : Unacked := ⟨q, l, 0xFFFF⟩
def fnOn (s : State) (k : Nat) (f : Fn) : State := { s with host := { s.host with fns := s.host.fns.set k f } }
def vfUp : State := fnOn { wOn 31 { Window.reset with state := .enabled, cons := 64 } (windowRing 31) ring0 with pln := { Pln.reset with ready := true, parts := List.replicate 16 part0 } } 16 ⟨true, false, false⟩
def vfDrain : State := fnOn { wOn 31 { Window.reset with state := .draining, cons := 64 } (ringKey 16 .stream 4095) ring0 with pln := { Pln.reset with ready := true, parts := List.replicate 16 part0 } } 16 ⟨false, true, true⟩
def satH (x : Sat) : State := fnOn (own x) 1 ⟨false, true, false⟩
def hrow : Row := ⟨.swapHost, 2, 0⟩
def bar4On : State := t1up
def compOf (kind d : Nat) : List Byte := leBytes 2 kind ++ leBytes 2 0 ++ leBytes 4 0x3000 ++ leBytes 4 4096 ++ leBytes 4 0 ++ leBytes 64 d
def imOf (magic svn ver len d e : Nat) : Image :=
  ⟨leBytes 4 magic ++ leBytes 2 1 ++ leBytes 1 3 ++ leBytes 1 svn ++ leBytes 4 ver ++ leBytes 4 len ++ leBytes 2 2 ++ zeros 14 ++ compOf 1 d ++ compOf 2 e, 77, true, [BitVec.ofNat 512 d, BitVec.ofNat 512 e]⟩
def im0 : Image := imOf 0x38384C58 5 9 16646144 100 101
def im1 : Image := imOf 0x38384C58 6 10 0x4000 200 201
def fz0 : Fuses := ⟨5, 8, 0, [0, 0, 0, 77], 1⟩
def booting : State := { State.reset with sec := { Sec.reset with run := .boot, slots := [some im0, some im1], fuses := fz0 } }
def stg (op n : Nat) : State := { up.acc op with sec := { up.sec with slots := [some im0, some im1], fuses := fz0, running := some im0, staged := n == 1, trial := n == 2 } }
def reply0 : ReplyTo := ⟨.fabric 0x0021 false 0 0 0, 0x0902, 7, 64, 1⟩
def upSec (c : Sec) : State := { up with sec := c }
def tgt : DevPart := ⟨0x3FFF, 15⟩
def sd0 : Shutdown := ⟨none, false, [tgt], 60000, 0, 0, 0, 0, false⟩
def pw (s : State) (f : Pwr) : State := { s with pwr := f }
def hot : State := (up.setReg Reg.pwrCtrl 95).setReg Reg.pwrCap 300
def hotS (k : Nat) : State := pw hot { Pwr.reset with step := k }
def rdW (n : Nat) : Assoc (Nat × Nat × Nat) := [(0, (1000, 1000 * n, 40))]
def overS (k w f : Nat) : State := pw hot { Pwr.reset with step := k, readings := rdW w, overFrom := some f }
def coolS (k w : Nat) (f : Option Nat) : State := pw hot { Pwr.reset with step := k, readings := rdW w, coolFrom := f }
/-- A clamped value is at most what the upper bound is at most. -/
theorem clampLe {lo hi x v : Nat} (a : lo ≤ hi) (b : hi ≤ v) : clamp lo hi x ≤ v := by
  unfold clamp; split
  · omega
  · split <;> omega
/-- A clamped value is at least the lower bound. -/
theorem ltClamp {lo hi x v : Nat} (a : v < lo) (b : lo ≤ hi) : v < clamp lo hi x := by
  unfold clamp; split
  · omega
  · split <;> omega
def avs0 : State := { (up.setReg Reg.pwrAvs 0xFFFFF000) with pwr := { Pwr.reset with avsTarget := 1023 } }


/-! ### What meets the hypotheses of each clause -/
theorem meets_StepRunsFront :
    (∃ (s : State), (s.pending = []) ∧ True) :=
  ⟨(up), by decide +kernel⟩

theorem meets_RegisterWrite :
    (∃ (s : State) (off : Nat) (r : RegDef) (i : List Nat), (s.present = true) ∧ (s.sec.run ≠ .recovery) ∧ (off % 4 = 0) ∧ (findReg off = some (r, i)) ∧ (r.pairW = false) ∧ ((∀ l j, findReg (off - 4) = some (l, j) → l.pairW = false)) ∧ ((∀ f ∈ r.fields, f.acc = .rw ∧ f.rule = .plain)) ∧ ((off < Reg.shpPolRate 0 0 ∨ Reg.shpPCfg 0 ≤ off)) ∧ True) ∧
    (∃ (s : State) (off : Nat) (r : RegDef) (i : List Nat), (s.present = true) ∧ (s.sec.run ≠ .recovery) ∧ (off % 4 = 0) ∧ (findReg off = some (r, i)) ∧ (r.pairW = false) ∧ ((∀ l j, findReg (off - 4) = some (l, j) → l.pairW = false)) ∧ ((∀ f ∈ r.fields, f.acc = .rwl ∧ f.rule ≠ .lock)) ∧ (off ≠ Reg.glbDeviceId) ∧ ((off < Reg.shpPolRate 0 0 ∨ Reg.shpPCfg 0 ≤ off)) ∧ (s.flag (blockLock off) 0 = true) ∧ True) ∧
    (∃ (s : State) (off : Nat) (bytes : Nat), (s.present = true) ∧ (accessOk off bytes = false) ∧ True) ∧
    (∃ (s : State) (off : Nat) (bytes : Nat), (s.present = true) ∧ (accessOk off bytes = false) ∧ True) ∧
    (∃ (s : State) (off : Nat) (bytes : Nat), (accessOk off bytes = true) ∧ (s.bar0Serves off = true) ∧ True) :=
  ⟨⟨(up), (0x0010003C), (((findReg 0x0010003C).getD (⟨0, [], false, false, []⟩, [])).1), ([]), by decide +kernel, by decide +kernel, by decide +kernel, by decide +kernel, by decide +kernel, (fun _ _ h => pairW_of (by decide +kernel) h), by decide +kernel⟩,
   ⟨(up.setReg Reg.stkLock 1), (0x00100014), (((findReg 0x00100014).getD (⟨0, [], false, false, []⟩, [])).1), ([]), by decide +kernel, by decide +kernel, by decide +kernel, by decide +kernel, by decide +kernel, (fun _ _ h => pairW_of (by decide +kernel) h), by decide +kernel⟩,
   ⟨(up), (0x00100001), (4), by decide +kernel⟩,
   ⟨(up), (0x00100000), (16), by decide +kernel⟩,
   ⟨(up), (0x0010003C), (4), by decide +kernel⟩⟩

theorem meets_DeviceIdAndLocks :
    (∃ (s : State), (s.present = true) ∧ (s.portsDisabled = true) ∧ (s.flag Reg.glbLock 0 = false) ∧ True) ∧
    (∃ (s : State) (v : Word), (s.present = true) ∧ (s.portsDisabled = false) ∧ (s.flag Reg.glbLock 0 = false) ∧ ((bits v.toNat 4 0 ≠ s.fld Reg.glbDeviceId 4 0 ∨ bits v.toNat 13 5 ≠ s.fld Reg.glbDeviceId 13 5 ∨ v.getLsbD 31 ≠ s.idValid)) ∧ True) ∧
    (∃ (s : State) (off : Nat) (v : Word), (s.present = true) ∧ (s.sec.run ≠ .recovery) ∧ (blockLock off = off) ∧ (v.getLsbD 0 = true) ∧ (s.flag off 0 = false) ∧ True) ∧
    (∃ (s : State) (off : Nat) (v : Word), (s.present = true) ∧ (s.sec.run ≠ .recovery) ∧ (blockLock off = off) ∧ (v.getLsbD 0 = false) ∧ (s.flag off 0 = false) ∧ True) :=
  ⟨⟨(up), by decide +kernel⟩,
   ⟨({ up with lnk := { Lnk.reset with ports := { Port.reset with state := .up } :: List.replicate 63 Port.reset } }), (0x80000025), by decide +kernel⟩,
   ⟨(up), (Reg.stkLock), (1), by decide +kernel⟩,
   ⟨(up), (Reg.stkLock), (0), by decide +kernel⟩⟩

theorem meets_CarvingEnables :
    (∃ (s : State) (v : Word) (b : Nat), (s.present = true) ∧ (s.sec.run ≠ .recovery) ∧ (s.flag Reg.satLock 0 = false) ∧ (s.flag Reg.satCtrl 0 = false) ∧ (bits v.toNat 4 1 = s.fld Reg.satCtrl 4 1) ∧ (s.memory.t1Ready = true) ∧ (carvePlace s.memory.carves s.poolBytes s.satBytes = some b) ∧ True) ∧
    (∃ (s : State) (v : Word) (b : Nat), (s.present = true) ∧ (s.sec.run ≠ .recovery) ∧ (s.flag Reg.kvaLock 0 = false) ∧ (s.flag Reg.kvaCtrl 0 = false) ∧ (bits v.toNat 1 1 = s.fld Reg.kvaCtrl 1 1) ∧ (s.memory.t1Ready = true) ∧ (carvePlace s.memory.carves s.poolBytes (s.fld Reg.kvaArenaCfg 25 0 * 65792) = some b) ∧ True) ∧
    (∃ (s : State) (v : Word) (b : Nat), (s.present = true) ∧ (s.sec.run ≠ .recovery) ∧ (s.flag Reg.cdcLock 0 = false) ∧ (s.flag Reg.cdcCtrl 0 = false) ∧ (bits v.toNat 1 1 = s.fld Reg.cdcCtrl 1 1) ∧ (s.memory.t1Ready = true) ∧ (carvePlace s.memory.carves s.poolBytes (64 * 2 ^ 20) = some b) ∧ True) ∧
    (∃ (s : State) (v : Word) (b : Nat), (s.present = true) ∧ (s.sec.run ≠ .recovery) ∧ (s.flag Reg.xptLock 0 = false) ∧ (s.flag Reg.xptCtrl 0 = false) ∧ (bits v.toNat 2 1 = s.fld Reg.xptCtrl 2 1) ∧ (s.memory.t1Ready = true) ∧ (carvePlace s.memory.carves s.poolBytes s.xptBytes = some b) ∧ True) ∧
    (∃ (s : State) (v : Word), (s.present = true) ∧ (s.sec.run ≠ .recovery) ∧ (s.flag Reg.kvaLock 0 = false) ∧ (s.flag Reg.kvaCtrl 0 = false) ∧ (bits v.toNat 1 1 = s.fld Reg.kvaCtrl 1 1) ∧ (s.memory.t1Ready = true) ∧ (carvePlace s.memory.carves s.poolBytes (s.fld Reg.kvaArenaCfg 25 0 * 65792) = none) ∧ (agetD s.blt.outbox 0x3C2 [] = []) ∧ True) ∧
    (∃ (s : State) (v : Word), (s.present = true) ∧ (s.sec.run ≠ .recovery) ∧ (s.flag Reg.kvaLock 0 = false) ∧ (s.flag Reg.kvaCtrl 0 = false) ∧ (bits v.toNat 1 1 = s.fld Reg.kvaCtrl 1 1) ∧ (s.memory.t1Ready = false) ∧ True) :=
  ⟨⟨(t1up), (29), (0), by decide +kernel⟩,
   ⟨(t1up), (1), (0), by decide +kernel⟩,
   ⟨(t1up), (3), (0), by decide +kernel⟩,
   ⟨(t1up), (7), (0), meet6 (by decide +kernel) ⟨t1up_xptBytes, trivial⟩⟩,
   ⟨((t1up.setReg Reg.memDevpool 0).setReg Reg.kvaArenaCfg 1000), (1), by decide +kernel⟩,
   ⟨(up), (1), by decide +kernel⟩⟩

theorem meets_PlainEnablesAndLimits :
    (∃ (s : State) (v : Word), (s.present = true) ∧ (s.sec.run ≠ .recovery) ∧ (s.flag Reg.memLock 0 = false) ∧ (s.flag Reg.memCtrl 0 = false) ∧ (bits v.toNat 2 1 = s.fld Reg.memCtrl 2 1) ∧ True) ∧
    (∃ (s : State) (v : Word) (b : Nat), (s.present = true) ∧ (s.sec.run ≠ .recovery) ∧ (s.flag Reg.flsLock 0 = false) ∧ (s.flag Reg.flsCtrl 0 = false) ∧ (bits v.toNat 2 1 = s.fld Reg.flsCtrl 2 1) ∧ (s.memory.t1Ready = true) ∧ (s.flsPopulate.fls.channels ≠ 0) ∧ (s.flsPopulate.fls.op ≠ 0) ∧ (carvePlace s.memory.carves s.poolBytes (4 * s.flsPopulate.fls.capacity s.flsPopulate.fls.op) = some b) ∧ True) ∧
    (∃ (s : State) (v : Word), (s.present = true) ∧ (s.sec.run ≠ .recovery) ∧ (s.flag Reg.plnLock 0 = false) ∧ (s.flag Reg.plnCtrl 0 = false) ∧ (bits v.toNat 1 1 = s.fld Reg.plnCtrl 1 1) ∧ (s.sat.ready = true) ∧ (s.kva.ready = true) ∧ True) ∧
    (∃ (s : State) (v : Word), (s.present = true) ∧ (s.sec.run ≠ .recovery) ∧ (s.flag Reg.lnkLock 0 = false) ∧ (s.flag Reg.lnkCtrl 0 = false) ∧ (bits v.toNat 2 1 = s.fld Reg.lnkCtrl 2 1) ∧ (s.idValid = true) ∧ (s.flag Reg.shpCtrl 0 = true) ∧ (s.xpt.ready = true) ∧ (s.sat.ready = true) ∧ True) ∧
    (∃ (s : State) (v : Word), (s.present = true) ∧ (s.sec.run ≠ .recovery) ∧ (s.flag Reg.shpLock 0 = false) ∧ (s.flag Reg.shpCtrl 0 = false) ∧ (v.getLsbD 3 = false) ∧ (bits v.toNat 2 1 = s.fld Reg.shpCtrl 2 1) ∧ True) ∧
    (∃ (s : State) (v : Word), (s.present = true) ∧ (s.sec.run ≠ .recovery) ∧ (s.flag Reg.cmdLock 0 = false) ∧ (s.flag Reg.cmdCtrl 0 = false) ∧ (bits v.toNat 23 8 = s.fld Reg.cmdCtrl 23 8) ∧ (s.cmd.windows = List.replicate 32 Window.reset) ∧ True) ∧
    (∃ (s : State) (c : Fin 128) (v : Word), (s.present = true) ∧ (s.sec.run ≠ .recovery) ∧ (s.flag (Reg.coreLock c.val) 0 = false) ∧ (s.flag (Reg.coreCtrl c.val) 0 = false) ∧ (bits v.toNat 2 1 = s.fld (Reg.coreCtrl c.val) 2 1) ∧ True) ∧
    (∃ (s : State) (g : Fin 16), (s.present = true) ∧ (s.sec.run ≠ .recovery) ∧ (s.flag (Reg.cdcGroup g.val) 31 = false) ∧ True) ∧
    (∃ (s : State) (p : Fin 16) (v : Word), (s.present = true) ∧ (s.sec.run ≠ .recovery) ∧ (s.ready p.val = true) ∧ (1 ≤ bits v.toNat 30 16) ∧ (bits v.toNat 30 16 ≤ 16384) ∧ (s.fld (Reg.plnPC0 p.val) 14 0 ≤ bits v.toNat 30 16) ∧ (64 ≤ bits v.toNat 12 0) ∧ (bits v.toNat 12 0 ≤ 4096) ∧ (bits v.toNat 12 0 % 64 = 0) ∧ True) ∧
    (∃ (s : State) (p : Fin 16) (v : Word), (s.present = true) ∧ (s.sec.run ≠ .recovery) ∧ (s.ready p.val = false) ∧ (bits v.toNat 30 16 ≠ s.fld (Reg.plnPCfg p.val) 30 16) ∧ True) :=
  ⟨⟨(up), (3), by decide +kernel⟩,
   ⟨({ t1up with board := { Board.none with nand := List.replicate 4 ⟨4, 0, 1, 4, 1, 2, 3, 100, 100, 3000, 0, true, true⟩ }, fls := { Fls.reset with op := 1 } }), (3), (0), by decide +kernel⟩,
   ⟨({ up with sat := { SatSt.reset with ready := true }, kva := { Kva.reset with ready := true } }), (1), by decide +kernel⟩,
   ⟨({ (up.setReg Reg.glbDeviceId 0x80000025).setReg Reg.shpCtrl 1 with sat := { SatSt.reset with ready := true }, xpt := { Xpt.reset with ready := true } }), (7), by decide +kernel⟩,
   ⟨(up), (1), by decide +kernel⟩,
   ⟨(up), (25601), by decide +kernel⟩,
   ⟨(up), (127), (3), by decide +kernel⟩,
   ⟨(up), (15), by decide +kernel⟩,
   ⟨({ up with pln := { Pln.reset with parts := { Part.reset with state := .ready } :: List.replicate 15 Part.reset } }), (0), (0x40001000), by decide +kernel⟩,
   ⟨(up), (15), (0x12345678), by decide +kernel⟩⟩

theorem meets_TimeTree :
    (∃ (s : State) (port : Fin 64) (t3 : Nat), ((s.at_ t3).latchSrc.stk.role ≠ 2) ∧ (s.stk.onBackup = false) ∧ ((s.at_ t3).latchSrc.stk.parentPort = some port.val) ∧ (s.stk.time ≤ t3) ∧ True) ∧
    (∃ (s : State) (now : Nat), ((s.at_ now).latchSrc.stk.role ≠ 2) ∧ (s.stk.watch + 1000000 ≤ now) ∧ (s.stk.onBackup = false) ∧ True) ∧
    (∃ (s : State) (now : Nat), (s.stk.time ≤ now) ∧ (s.stk.holdover = true) ∧ (s.stk.unaligned = false) ∧ (s.fld Reg.stkHoldCfg 23 16 ≠ 0) ∧ (max 1 (s.fld Reg.stkHoldCfg 15 0) < (now - s.stk.lastGood) * s.fld Reg.stkHoldCfg 23 16 / 100000000) ∧ True) ∧
    (∃ (s : State) (now : Nat), (s.refMode = 1) ∧ (s.stk.refHoldover = false) ∧ (s.stk.time ≤ now) ∧ (s.pwr.tsyncAt.getD s.stk.refAt + 16000000000 ≤ now) ∧ True) ∧
    (∃ (s : State) (now : Nat), (s.refMode = 1) ∧ (s.stk.time ≤ now) ∧ True) ∧
    (∃ (s : State) (now : Nat), (s.stk.time ≤ now) ∧ (s.pwr.tripped = false) ∧ True) :=
  ⟨⟨(child), (3), (1200), by decide +kernel⟩,
   ⟨(child), (1001000), by decide +kernel⟩,
   ⟨({ child.setReg Reg.stkHoldCfg 0x00640001 with stk := { child.stk with holdover := true, time := 1000 } }), (1000000000), by decide +kernel⟩,
   ⟨({ gm.setReg Reg.stkTimeSrc 0x01200000 with stk := { gm.stk with src := 0x01200000 } }), (16000000000), by decide +kernel⟩,
   ⟨({ gm.setReg Reg.stkTimeSrc 0x01200000 with stk := { gm.stk with src := 0x01200000 } }), (1000001000), by decide +kernel⟩,
   ⟨(gm.setReg Reg.stkTimeSrc 0x20200000), (1000000000), by decide +kernel⟩⟩

theorem meets_StrokeConfig :
    (∃ (s : State) (s1 : State) (h : Header) (r : ReplyTo) (cfg : StrokeCfg) (n : Nat) (rsv : Nat), (s.Serves ⟨0x0601, 1, false, false, 32, rsv, 0, false⟩ h false r s1) ∧ (s.stk.role = 2) ∧ (s.stk.running = false) ∧ (s.stk.pend = none) ∧ (cfg.valid = true) ∧ (cfg.epoch ≤ s1.stk.time) ∧ (s1.stk.time < cfg.epoch + cfg.periodUs * 1000) ∧ (n < 2 ^ 48) ∧ True) ∧
    (∃ (s : State) (s1 : State) (h : Header) (r : ReplyTo) (cfg : StrokeCfg) (n : Nat) (rsv : Nat), (s.Serves ⟨0x0601, 1, false, false, 32, rsv, 0, false⟩ h false r s1) ∧ (s.stk.role = 2) ∧ (s.stk.running = true) ∧ (s.stk.pend = none) ∧ (cfg.valid = true) ∧ (s.stk.stroke + 2 ≤ n) ∧ (n < 2 ^ 48) ∧ (s1.stk.time + 2000000 ≤ s.stk.cfg.boundary n) ∧ True) ∧
    (∃ (s : State) (s1 : State) (h : Header) (r : ReplyTo) (rsv : Nat), (s.Serves ⟨0x0601, 1, false, false, 32, rsv, 0, false⟩ h false r s1) ∧ (s.stk.role ≠ 2) ∧ True) ∧
    (∃ (s : State) (s1 : State) (h : Header) (r : ReplyTo), (s.Serves ⟨0x0600, 1, false, false, 8, 0, 0, false⟩ h false r s1) ∧ (s.stk.role = 2) ∧ (s.stk.running = false) ∧ True) ∧
    (∃ (s : State) (s1 : State) (h : Header) (r : ReplyTo), (s.Serves ⟨0x0600, 1, false, false, 8, 0, 0, false⟩ h false r s1) ∧ (s.stk.role ≠ 2) ∧ True) :=
  ⟨⟨(gm.acc 0x0601), (taken (gm.acc 0x0601 : State) ⟨0x0601, 1, false, false, 32, (0 : Nat), 0, false⟩ (hd 64 : Header) false), (hd 64), (replyOf (gm.acc 0x0601 : State) ⟨0x0601, 1, false, false, 32, (0 : Nat), 0, false⟩ (hd 64 : Header) false), (cfg0), (2^48 - 1), (0), (served (by decide +kernel) (by decide +kernel) (by decide +kernel)), by decide +kernel⟩,
   ⟨(running.acc 0x0601), (taken (running.acc 0x0601 : State) ⟨0x0601, 1, false, false, 32, (0 : Nat), 0, false⟩ (hd 64 : Header) false), (hd 64), (replyOf (running.acc 0x0601 : State) ⟨0x0601, 1, false, false, 32, (0 : Nat), 0, false⟩ (hd 64 : Header) false), (cfg0), (7), (0), (served (by decide +kernel) (by decide +kernel) (by decide +kernel)), by decide +kernel⟩,
   ⟨(child.acc 0x0601), (taken (child.acc 0x0601 : State) ⟨0x0601, 1, false, false, 32, (0 : Nat), 0, false⟩ (hd 64 : Header) false), (hd 64), (replyOf (child.acc 0x0601 : State) ⟨0x0601, 1, false, false, 32, (0 : Nat), 0, false⟩ (hd 64 : Header) false), (0), (served (by decide +kernel) (by decide +kernel) (by decide +kernel)), by decide +kernel⟩,
   ⟨(gm.acc 0x0600), (taken (gm.acc 0x0600 : State) ⟨0x0600, 1, false, false, 8, 0, 0, false⟩ (hd 40 : Header) false), (hd 40), (replyOf (gm.acc 0x0600 : State) ⟨0x0600, 1, false, false, 8, 0, 0, false⟩ (hd 40 : Header) false), (served (by decide +kernel) (by decide +kernel) (by decide +kernel)), by decide +kernel⟩,
   ⟨(child.acc 0x0600), (taken (child.acc 0x0600 : State) ⟨0x0600, 1, false, false, 8, 0, 0, false⟩ (hd 40 : Header) false), (hd 40), (replyOf (child.acc 0x0600 : State) ⟨0x0600, 1, false, false, 8, 0, 0, false⟩ (hd 40 : Header) false), (served (by decide +kernel) (by decide +kernel) (by decide +kernel)), by decide +kernel⟩⟩

theorem meets_StrokePhases :
    (∃ (s : State), (s.stk.running = true) ∧ (s.stk.phase = .commit) ∧ (s.stk.pend = none) ∧ (s.stk.role = 2) ∧ True) ∧
    (∃ (s : State) (q : PendCfg), (s.stk.running = false) ∧ (s.stk.pend = some q) ∧ (q.start = true) ∧ (s.stk.role = 2) ∧ True) ∧
    (∃ (s : State), (s.stk.running = true) ∧ (s.stk.phase = .plan) ∧ True) ∧
    (∃ (s : State), (s.stk.running = true) ∧ (s.stk.phase = .issue) ∧ True) ∧
    (∃ (s : State), (s.stk.running = true) ∧ (s.stk.phase = .compute) ∧ True) ∧
    (∃ (s : State), (s.stk.running = true) ∧ (s.stk.phase = .exchange) ∧ True) ∧
    (∃ (s : State) (p : Fin 16), ((s.part p.val).commitOpen = true) ∧ ((s.part p.val).suspendTag = none) ∧ (s.stk.phase = .commit) ∧ (s.stk.step = none) ∧ True) ∧
    (∃ (s : State) (p : Fin 16) (d : Int), ((s.part p.val).commitOpen = true) ∧ ((s.part p.val).suspendTag = none) ∧ (s.stk.phase = .commit) ∧ (s.stk.running = true) ∧ (s.stk.step = some d) ∧ ((∀ q, q ≠ p.val → (s.part q).commitOpen = false)) ∧ True) :=
  ⟨⟨(at_phase .commit), by decide +kernel⟩,
   ⟨({ gm with stk := { gm.stk with pend := some { cfg := cfg0, n0 := 3, start := true } } }), ({ cfg := cfg0, n0 := 3, start := true }), by decide +kernel⟩,
   ⟨(at_phase .plan), by decide +kernel⟩,
   ⟨(at_phase .issue), by decide +kernel⟩,
   ⟨(at_phase .compute), by decide +kernel⟩,
   ⟨(at_phase .exchange), by decide +kernel⟩,
   ⟨(at_phase .commit), (15), by decide +kernel⟩,
   ⟨({ at_phase .commit with stk := { (at_phase .commit).stk with step := some (-20000) } }), (15), (-20000), by decide +kernel, by decide +kernel, by decide +kernel, by decide +kernel, by decide +kernel, (onePart (by decide +kernel)), trivial⟩⟩

theorem meets_SatchelCommands :
    (∃ (s : State) (s1 : State) (h : Header) (r : ReplyTo) (a : AdmitParams) (st : Status), (s.Serves ⟨0x0300, 1, true, true, 72 + a.stopLen + (if a.byRef then 0 else 4 * a.promptLen), a.rsv, if a.promptAddr = 0 then 0 else 1, false⟩ h false r s1) ∧ (s1.admitCheck h a = some st) ∧ True) ∧
    (∃ (s : State) (s1 : State) (h : Header) (r : ReplyTo) (a : AdmitParams) (shardsOk : Bool) (slot : Nat) (index : Nat) (d : DeviceId) (w : Place × State), (s.Serves ⟨0x0300, 1, true, true, 72 + a.stopLen + (if a.byRef then 0 else 4 * a.promptLen), a.rsv, if a.promptAddr = 0 then 0 else 1, false⟩ h false r s1) ∧ (s1.admitCheck h a = none) ∧ (s1.freeSlot = some slot) ∧ (s1.freeIndex = some index) ∧ (a.prefixId = 0xFFFFFFFF) ∧ (s1.registrar (s1.takeId index).1 = some d) ∧ ((s1.takeId index).2.place slot Place.none a.prompt.length 0 (s1.part h.part.val).stateBytes = some w) ∧ ((shardsOk = true ∨ (s1.part h.part.val).satelliteDevs false = [])) ∧ True) ∧
    (∃ (s : State) (s1 : State) (h : Header) (r : ReplyTo) (id : SatchelId) (tokens : List Token) (rsv : Nat) (slot : Nat) (y : Sat), (s.Serves ⟨0x0301, 1, true, true, 24 + 4 * tokens.length, rsv, 0, false⟩ h false r s1) ∧ (1 ≤ tokens.length) ∧ (tokens.length ≤ 262144) ∧ (satGen id ≠ 0) ∧ (s1.findSlot id = some slot) ∧ (s1.satAt slot = some y) ∧ (h.mayName y = true) ∧ ∃ (st : Status), (s1.appendCheck y tokens.length 0xFFFF 0 tokens = some st) ∧ True) ∧
    (∃ (s : State) (s1 : State) (h : Header) (r : ReplyTo) (id : SatchelId) (tokens : List Token) (rsv : Nat) (slot : Nat) (y : Sat), (s.Serves ⟨0x0301, 1, true, true, 24 + 4 * tokens.length, rsv, 0, false⟩ h false r s1) ∧ (1 ≤ tokens.length) ∧ (tokens.length ≤ 262144) ∧ (satGen id ≠ 0) ∧ (s1.findSlot id = some slot) ∧ (s1.satAt slot = some y) ∧ (h.mayName y = true) ∧ (s1.appendCheck y tokens.length 0xFFFF 0 tokens = none) ∧ (y.state = .wait) ∧ ((s1.growLog slot tokens.length).isSome = true) ∧ True) ∧
    (∃ (s : State) (s1 : State) (h : Header) (r : ReplyTo) (id : SatchelId) (tokens : List Token) (rsv : Nat) (slot : Nat) (y : Sat), (s.Serves ⟨0x0301, 1, true, true, 24 + 4 * tokens.length, rsv, 0, false⟩ h false r s1) ∧ (1 ≤ tokens.length) ∧ (tokens.length ≤ 262144) ∧ (satGen id ≠ 0) ∧ (s1.findSlot id = some slot) ∧ (s1.satAt slot = some y) ∧ (h.mayName y = true) ∧ (s1.appendCheck y tokens.length 0xFFFF 0 tokens = none) ∧ (s1.growLog slot tokens.length = none) ∧ True) ∧
    (∃ (s : State) (s1 : State) (h : Header) (r : ReplyTo) (id : SatchelId) (rsv : Nat) (slot : Nat) (y : Sat), (s.Serves ⟨0x0302, 1, true, true, 8, rsv, 0, false⟩ h false r s1) ∧ (satGen id ≠ 0) ∧ (s1.findSlot id = some slot) ∧ (s1.satAt slot = some y) ∧ (h.mayName y = true) ∧ (y.state.ended = true) ∧ True) ∧
    (∃ (s : State) (s1 : State) (h : Header) (r : ReplyTo) (id : SatchelId) (rsv : Nat) (slot : Nat) (y : Sat), (s.Serves ⟨0x0302, 1, true, true, 8, rsv, 0, false⟩ h false r s1) ∧ (satGen id ≠ 0) ∧ (s1.findSlot id = some slot) ∧ (s1.satAt slot = some y) ∧ (h.mayName y = true) ∧ (y.state = .inTransit) ∧ True) ∧
    (∃ (s : State) (s1 : State) (h : Header) (r : ReplyTo) (id : SatchelId) (rsv : Nat) (slot : Nat) (y : Sat), (s.Serves ⟨0x0302, 1, true, true, 8, rsv, 0, false⟩ h false r s1) ∧ (satGen id ≠ 0) ∧ (s1.findSlot id = some slot) ∧ (s1.satAt slot = some y) ∧ (h.mayName y = true) ∧ (y.state.live = true) ∧ (y.planned.isSome = true) ∧ True) ∧
    (∃ (s : State) (s1 : State) (h : Header) (r : ReplyTo) (id : SatchelId) (rsv : Nat) (slot : Nat) (y : Sat), (s.Serves ⟨0x0302, 1, true, true, 8, rsv, 0, false⟩ h false r s1) ∧ (satGen id ≠ 0) ∧ (s1.findSlot id = some slot) ∧ (s1.satAt slot = some y) ∧ (h.mayName y = true) ∧ (slot < 4194304) ∧ (y.state.live = true) ∧ (y.planned = none) ∧ (y.autoFree = false) ∧ (y.freeing = []) ∧ True) ∧
    (∃ (s : State) (s1 : State) (h : Header) (r : ReplyTo) (id : SatchelId) (slot : Nat) (y : Sat), (s.Serves ⟨0x0304, 1, true, true, 8, 0, 0, false⟩ h false r s1) ∧ (satGen id ≠ 0) ∧ (s1.findSlot id = some slot) ∧ (s1.satAt slot = some y) ∧ (h.mayName y = true) ∧ (y.state = .inTransit) ∧ True) ∧
    (∃ (s : State) (s1 : State) (h : Header) (r : ReplyTo) (id : SatchelId) (slot : Nat) (y : Sat), (s.Serves ⟨0x0304, 1, true, true, 8, 0, 0, false⟩ h false r s1) ∧ (satGen id ≠ 0) ∧ (s1.findSlot id = some slot) ∧ (s1.satAt slot = some y) ∧ (h.mayName y = true) ∧ (y.state.ended = true) ∧ (y.outRecs = []) ∧ (s1.blt.l3 = false) ∧ True) ∧
    (∃ (s : State) (s1 : State) (h : Header) (r : ReplyTo) (id : SatchelId) (dev : DeviceId) (p : Fin 16) (rsv : Nat) (slot : Nat) (y : Sat), (s.Serves ⟨0x0303, 2, true, true, 16, rsv, 0, false⟩ h false r s1) ∧ (satGen id ≠ 0) ∧ (dev.toNat < 2 ^ 14) ∧ (s1.findSlot id = some slot) ∧ (s1.satAt slot = some y) ∧ (h.mayName y = true) ∧ (y.state.live = true) ∧ ((dev ≠ s1.me ∨ p ≠ y.part)) ∧ (y.move = none) ∧ (y.epoch < 0xFFFFFFFE) ∧ (s1.ringBound y dev = false) ∧ (s1.mayTransit y.tenant dev = false) ∧ True) ∧
    (∃ (s : State) (s1 : State) (h : Header) (r : ReplyTo) (id : SatchelId) (dev : DeviceId) (p : Fin 16) (rsv : Nat) (slot : Nat) (y : Sat), (s.Serves ⟨0x0303, 2, true, true, 16, rsv, 0, false⟩ h false r s1) ∧ (satGen id ≠ 0) ∧ (dev.toNat < 2 ^ 14) ∧ (s1.findSlot id = some slot) ∧ (s1.satAt slot = some y) ∧ (h.mayName y = true) ∧ (y.state.live = true) ∧ ((dev ≠ s1.me ∨ p ≠ y.part)) ∧ (y.move = none) ∧ (y.epoch < 0xFFFFFFFE) ∧ (s1.ringBound y dev = false) ∧ (s1.mayTransit y.tenant dev = true) ∧ True) ∧
    (∃ (s : State) (s1 : State) (h : Header) (r : ReplyTo) (id : SatchelId) (c : Record), (s.Serves ⟨0x0305, 1, true, true, 16, 0, 0, false⟩ h false r s1) ∧ (satGen id ≠ 0) ∧ (s1.findSlot id = none) ∧ (s1.recOf id = some c) ∧ (h.origin.partition = none) ∧ (c.state = .inTransit) ∧ True) ∧
    (∃ (s : State) (s1 : State) (h : Header) (r : ReplyTo) (id : SatchelId) (dev : DeviceId) (rsv : Nat) (c : Record), (s.Serves ⟨0x0306, 2, true, true, 16, rsv, 0, false⟩ h false r s1) ∧ (satGen id ≠ 0) ∧ (dev.toNat < 2 ^ 14) ∧ (s1.recOf id = some c) ∧ (c.id = id) ∧ (h.origin.partition = none) ∧ (c.state ≠ .lost) ∧ True) ∧
    (∃ (s : State) (s1 : State) (h : Header) (r : ReplyTo) (id : SatchelId) (dev : DeviceId) (rsv : Nat) (c : Record), (s.Serves ⟨0x0306, 2, true, true, 16, rsv, 0, false⟩ h false r s1) ∧ (satGen id ≠ 0) ∧ (dev.toNat < 2 ^ 14) ∧ (s1.recOf id = some c) ∧ (c.id = id) ∧ (h.origin.partition = none) ∧ (c.state = .lost) ∧ (c.epoch + 1 ≤ 0xFFFFFFFE) ∧ (c.recoverReply = none) ∧ (c.candidate = none) ∧ True) :=
  ⟨⟨(up.acc 0x0300), (taken (up.acc 0x0300 : State) ⟨0x0300, 1, true, true, 72 + adm.stopLen + (if adm.byRef then 0 else 4 * adm.promptLen), adm.rsv, if adm.promptAddr = 0 then 0 else 1, false⟩ (hd 108 : Header) false), (hd 108), (replyOf (up.acc 0x0300 : State) ⟨0x0300, 1, true, true, 72 + adm.stopLen + (if adm.byRef then 0 else 4 * adm.promptLen), adm.rsv, if adm.promptAddr = 0 then 0 else 1, false⟩ (hd 108 : Header) false), (adm), (.partitionBusy), (served (by decide +kernel) (by decide +kernel) (by decide +kernel)), by decide +kernel⟩,
   ⟨({ (pooled (own sat0)).acc 0x0300 with cmd := { ((own sat0).acc 0x0300).cmd with rings := [(ringKey 0 .stream 0, Ring.new 64 0x10000 0x20000 0 0 0)] }, sat := { (own sat0).sat with live := 1 } }), (taken ({ (pooled (own sat0)).acc 0x0300 with cmd := { ((own sat0).acc 0x0300).cmd with rings := [(ringKey 0 .stream 0, Ring.new 64 0x10000 0x20000 0 0 0)] }, sat := { (own sat0).sat with live := 1 } } : State) ⟨0x0300, 1, true, true, 72 + adm.stopLen + (if adm.byRef then 0 else 4 * adm.promptLen), adm.rsv, if adm.promptAddr = 0 then 0 else 1, false⟩ (hd 108 : Header) false), (hd 108), (replyOf ({ (pooled (own sat0)).acc 0x0300 with cmd := { ((own sat0).acc 0x0300).cmd with rings := [(ringKey 0 .stream 0, Ring.new 64 0x10000 0x20000 0 0 0)] }, sat := { (own sat0).sat with live := 1 } } : State) ⟨0x0300, 1, true, true, 72 + adm.stopLen + (if adm.byRef then 0 else 4 * adm.promptLen), adm.rsv, if adm.promptAddr = 0 then 0 else 1, false⟩ (hd 108 : Header) false), (adm), (true), (0), (1), (0), (match ((taken ({ (pooled (own sat0)).acc 0x0300 with cmd := { ((own sat0).acc 0x0300).cmd with rings := [(ringKey 0 .stream 0, Ring.new 64 0x10000 0x20000 0 0 0)] }, sat := { (own sat0).sat with live := 1 } } : State) ⟨0x0300, 1, true, true, 72 + adm.stopLen + 4, adm.rsv, 0, false⟩ (hd 108) false).takeId 1).2.place 0 Place.none 1 0 0 with | some q => q | none => (Place.none, up)), (served (by decide +kernel) (by decide +kernel) (by decide +kernel)), by decide +kernel⟩,
   ⟨((own sat0).acc 0x0301), (taken ((own sat0).acc 0x0301 : State) ⟨0x0301, 1, true, true, 24 + 4 * ([9] : List Token).length, (0 : Nat), 0, false⟩ (hd 60 : Header) false), (hd 60), (replyOf ((own sat0).acc 0x0301 : State) ⟨0x0301, 1, true, true, 24 + 4 * ([9] : List Token).length, (0 : Nat), 0, false⟩ (hd 60 : Header) false), (1), ([9]), (0), (4194303), (sat0), (served (by decide +kernel) (by decide +kernel) (by decide +kernel)), meet6 (by decide +kernel) ⟨(sat0.refusal), by decide +kernel⟩⟩,
   ⟨((own ownW).acc 0x0301), (taken ((own ownW).acc 0x0301 : State) ⟨0x0301, 1, true, true, 24 + 4 * ([9] : List Token).length, (0 : Nat), 0, false⟩ (hd 60 : Header) false), (hd 60), (replyOf ((own ownW).acc 0x0301 : State) ⟨0x0301, 1, true, true, 24 + 4 * ([9] : List Token).length, (0 : Nat), 0, false⟩ (hd 60 : Header) false), (1), ([9]), (0), (4194303), (ownW), (served (by decide +kernel) (by decide +kernel) (by decide +kernel)), by decide +kernel⟩,
   ⟨((own { ownW with place := Place.none }).acc 0x0301), (taken ((own { ownW with place := Place.none }).acc 0x0301 : State) ⟨0x0301, 1, true, true, 24 + 4 * ([9] : List Token).length, (0 : Nat), 0, false⟩ (hd 60 : Header) false), (hd 60), (replyOf ((own { ownW with place := Place.none }).acc 0x0301 : State) ⟨0x0301, 1, true, true, 24 + 4 * ([9] : List Token).length, (0 : Nat), 0, false⟩ (hd 60 : Header) false), (1), ([9]), (0), (4194303), ({ ownW with place := Place.none }), (served (by decide +kernel) (by decide +kernel) (by decide +kernel)), by decide +kernel⟩,
   ⟨((own { sat0 with state := .done }).acc 0x0302), (taken ((own { sat0 with state := .done }).acc 0x0302 : State) ⟨0x0302, 1, true, true, 8, (0 : Nat), 0, false⟩ (hd 40 : Header) false), (hd 40), (replyOf ((own { sat0 with state := .done }).acc 0x0302 : State) ⟨0x0302, 1, true, true, 8, (0 : Nat), 0, false⟩ (hd 40 : Header) false), (1), (0), (4194303), ({ sat0 with state := .done }), (served (by decide +kernel) (by decide +kernel) (by decide +kernel)), by decide +kernel⟩,
   ⟨((own { sat0 with state := .inTransit }).acc 0x0302), (taken ((own { sat0 with state := .inTransit }).acc 0x0302 : State) ⟨0x0302, 1, true, true, 8, (0 : Nat), 0, false⟩ (hd 40 : Header) false), (hd 40), (replyOf ((own { sat0 with state := .inTransit }).acc 0x0302 : State) ⟨0x0302, 1, true, true, 8, (0 : Nat), 0, false⟩ (hd 40 : Header) false), (1), (0), (4194303), ({ sat0 with state := .inTransit }), (served (by decide +kernel) (by decide +kernel) (by decide +kernel)), by decide +kernel⟩,
   ⟨((own { sat0 with planned := some ⟨.decode, 1, 0, true, false, true, [], []⟩ }).acc 0x0302), (taken ((own { sat0 with planned := some ⟨.decode, 1, 0, true, false, true, [], []⟩ }).acc 0x0302 : State) ⟨0x0302, 1, true, true, 8, (0 : Nat), 0, false⟩ (hd 40 : Header) false), (hd 40), (replyOf ((own { sat0 with planned := some ⟨.decode, 1, 0, true, false, true, [], []⟩ }).acc 0x0302 : State) ⟨0x0302, 1, true, true, 8, (0 : Nat), 0, false⟩ (hd 40 : Header) false), (1), (0), (4194303), ({ sat0 with planned := some ⟨.decode, 1, 0, true, false, true, [], []⟩ }), (served (by decide +kernel) (by decide +kernel) (by decide +kernel)), by decide +kernel⟩,
   ⟨((own { sat0 with rows := [⟨.empty, 0, 0⟩] }).acc 0x0302), (taken ((own { sat0 with rows := [⟨.empty, 0, 0⟩] }).acc 0x0302 : State) ⟨0x0302, 1, true, true, 8, (0 : Nat), 0, false⟩ (hd 40 : Header) false), (hd 40), (replyOf ((own { sat0 with rows := [⟨.empty, 0, 0⟩] }).acc 0x0302 : State) ⟨0x0302, 1, true, true, 8, (0 : Nat), 0, false⟩ (hd 40 : Header) false), (1), (0), (4194303), ({ sat0 with rows := [⟨.empty, 0, 0⟩] }), (served (by decide +kernel) (by decide +kernel) (by decide +kernel)), by decide +kernel⟩,
   ⟨((own { sat0 with state := .inTransit }).acc 0x0304), (taken ((own { sat0 with state := .inTransit }).acc 0x0304 : State) ⟨0x0304, 1, true, true, 8, 0, 0, false⟩ (hd 40 : Header) false), (hd 40), (replyOf ((own { sat0 with state := .inTransit }).acc 0x0304 : State) ⟨0x0304, 1, true, true, 8, 0, 0, false⟩ (hd 40 : Header) false), (1), (4194303), ({ sat0 with state := .inTransit }), (served (by decide +kernel) (by decide +kernel) (by decide +kernel)), by decide +kernel⟩,
   ⟨((own { sat0 with state := .cancelled }).acc 0x0304), (taken ((own { sat0 with state := .cancelled }).acc 0x0304 : State) ⟨0x0304, 1, true, true, 8, 0, 0, false⟩ (hd 40 : Header) false), (hd 40), (replyOf ((own { sat0 with state := .cancelled }).acc 0x0304 : State) ⟨0x0304, 1, true, true, 8, 0, 0, false⟩ (hd 40 : Header) false), (1), (4194303), ({ sat0 with state := .cancelled }), (served (by decide +kernel) (by decide +kernel) (by decide +kernel)), by decide +kernel⟩,
   ⟨((own sat0).acc 0x0303), (taken ((own sat0).acc 0x0303 : State) ⟨0x0303, 2, true, true, 16, (0 : Nat), 0, false⟩ (hd 48 : Header) false), (hd 48), (replyOf ((own sat0).acc 0x0303 : State) ⟨0x0303, 2, true, true, 16, (0 : Nat), 0, false⟩ (hd 48 : Header) false), (1), (0x3FFF), (15), (0), (4194303), (sat0), (served (by decide +kernel) (by decide +kernel) (by decide +kernel)), by decide +kernel⟩,
   ⟨((own sat0).acc 0x0303), (taken ((own sat0).acc 0x0303 : State) ⟨0x0303, 2, true, true, 16, (0 : Nat), 0, false⟩ (hd 48 : Header) false), (hd 48), (replyOf ((own sat0).acc 0x0303 : State) ⟨0x0303, 2, true, true, 16, (0 : Nat), 0, false⟩ (hd 48 : Header) false), (1), (0x0001), (15), (0), (4194303), (sat0), (served (by decide +kernel) (by decide +kernel) (by decide +kernel)), by decide +kernel⟩,
   ⟨((reg { rec0 with state := .inTransit }).acc 0x0305), (taken ((reg { rec0 with state := .inTransit }).acc 0x0305 : State) ⟨0x0305, 1, true, true, 16, 0, 0, false⟩ (hd 48 : Header) false), (hd 48), (replyOf ((reg { rec0 with state := .inTransit }).acc 0x0305 : State) ⟨0x0305, 1, true, true, 16, 0, 0, false⟩ (hd 48 : Header) false), (1), ({ rec0 with state := .inTransit }), (served (by decide +kernel) (by decide +kernel) (by decide +kernel)), by decide +kernel⟩,
   ⟨((reg rec0).acc 0x0306), (taken ((reg rec0).acc 0x0306 : State) ⟨0x0306, 2, true, true, 16, (0 : Nat), 0, false⟩ (hd 48 : Header) false), (hd 48), (replyOf ((reg rec0).acc 0x0306 : State) ⟨0x0306, 2, true, true, 16, (0 : Nat), 0, false⟩ (hd 48 : Header) false), (1), (0x3FFF), (0), (rec0), (served (by decide +kernel) (by decide +kernel) (by decide +kernel)), by decide +kernel⟩,
   ⟨((reg { rec0 with state := .lost, epoch := 0xFFFFFFFD }).acc 0x0306), (taken ((reg { rec0 with state := .lost, epoch := 0xFFFFFFFD }).acc 0x0306 : State) ⟨0x0306, 2, true, true, 16, (0 : Nat), 0, false⟩ (hd 48 : Header) false), (hd 48), (replyOf ((reg { rec0 with state := .lost, epoch := 0xFFFFFFFD }).acc 0x0306 : State) ⟨0x0306, 2, true, true, 16, (0 : Nat), 0, false⟩ (hd 48 : Header) false), (1), (0x0021), (0), ({ rec0 with state := .lost, epoch := 0xFFFFFFFD }), (served (by decide +kernel) (by decide +kernel) (by decide +kernel)), by decide +kernel⟩⟩

theorem meets_RecordsAndRecovery :
    (∃ (s : State) (m : CMsg) (log : List Token), (s.sat.ready = true) ∧ (m.rsv = 0) ∧ (m.state < 11) ∧ (s.returned m = false) ∧ (s.registrar m.id = some s.me) ∧ (s.prevHolder m.id = none) ∧ (s.recOf m.id = none) ∧ (s.sat.recs.length < 4194304) ∧ (mirrorChunks log.length ≤ s.chunksFree) ∧ (s.sat.heldQueries = []) ∧ (s.sat.heldClaims = []) ∧ True) ∧
    (∃ (s : State) (m : CMsg) (c : Record), (s.sat.ready = true) ∧ (m.rsv = 0) ∧ (m.state = 0) ∧ (s.returned m = false) ∧ (s.recOf m.id = some c) ∧ True) ∧
    (∃ (s : State) (m : CMsg) (slot : Nat) (x : Sat) (r : ReplyTo), (s.sat.ready = true) ∧ (m.rsv = 0) ∧ (m.state < 11) ∧ (s.anySlot m.id = some slot) ∧ (s.satAt slot = some x) ∧ (x.epoch = m.epoch) ∧ (x.admitting = some r) ∧ (Status.ofCode m.status = .ok) ∧ True) ∧
    (∃ (s : State) (id : SatchelId) (slot : Nat) (x : Sat), (s.findSlot id = some slot) ∧ (s.satAt slot = some x) ∧ True) ∧
    (∃ (s : State) (m : CMsg) (c : Record), (s.sat.ready = true) ∧ (m.rsv = 0) ∧ (m.state < 11) ∧ (s.returned m = false) ∧ (s.recOf m.id = some c) ∧ (c.owner = m.sender) ∧ (c.epoch = m.epoch) ∧ (c.state ≠ .lost) ∧ (m.state = 0) ∧ True) ∧
    (∃ (s : State) (m : CMsg) (c : Record), (s.sat.ready = true) ∧ (m.rsv = 0) ∧ (m.state < 11) ∧ (s.returned m = false) ∧ (s.recOf m.id = some c) ∧ (c.owner = m.sender) ∧ (c.epoch = m.epoch) ∧ (c.state ≠ .lost) ∧ (m.state ≠ 0) ∧ (m.logLen ≠ c.mirror.length) ∧ True) ∧
    (∃ (s : State) (m : CMsg) (tokens : List Token) (c : Record), (s.sat.ready = true) ∧ (m.rsv = 0) ∧ (m.state < 11) ∧ (s.returned m = false) ∧ (s.recOf m.id = some c) ∧ (c.owner = m.sender) ∧ (c.epoch = m.epoch) ∧ (c.state ≠ .lost) ∧ (m.state ≠ 0) ∧ (m.logLen = c.mirror.length) ∧ (mirrorChunks (c.mirror ++ tokens).length ≤ s.chunksFree + mirrorChunks c.mirror.length) ∧ True) ∧
    (∃ (s : State) (m : CMsg) (slot : Nat) (x : Sat), (s.sat.ready = true) ∧ (m.rsv = 0) ∧ (m.state < 11) ∧ (s.findSlot m.id = some slot) ∧ (s.satAt slot = some x) ∧ (x.epoch = m.epoch) ∧ (Status.ofCode m.status = .ok) ∧ (1 < x.mirrorsOut) ∧ (x.state.ended = false) ∧ (x.outRecs = []) ∧ True) ∧
    (∃ (s : State) (id : SatchelId) (slot : Nat) (x : Sat) (i : Nat × Nat) (l : List (Nat × Nat)), (s.findSlot id = some slot) ∧ (s.satAt slot = some x) ∧ (x.unackedInks = i :: l) ∧ (i.2 + 8 ≤ s.strokeNow) ∧ (x.mirrorHold = false) ∧ True) ∧
    (∃ (s : State) (m : CMsg) (d : DeviceId), (s.sat.ready = true) ∧ (m.rsv = 0) ∧ (m.state < 11) ∧ (s.returned m = false) ∧ (s.recOf m.id = none) ∧ (s.registrar m.id = some d) ∧ (d ≠ s.me) ∧ True) ∧
    (∃ (s : State) (id : SatchelId) (c : Record), (s.recOf id = some c) ∧ (c.id = id) ∧ (c.state = .ready) ∧ (c.lastMirror + 16 ≤ s.strokeNow) ∧ (c.probing = false) ∧ True) ∧
    (∃ (s : State) (m : CMsg) (slot : Nat) (x : Sat), (s.sat.ready = true) ∧ (m.rsv = 0) ∧ (m.state < 11) ∧ (s.findSlot m.id = some slot) ∧ (s.satAt slot = some x) ∧ (s.sat.incoming = []) ∧ True) ∧
    (∃ (s : State) (m : CMsg) (c : Record), (s.sat.ready = true) ∧ (m.rsv = 0) ∧ (m.state < 11) ∧ (s.returned m = false) ∧ (s.recOf m.id = some c) ∧ (c.owner = m.sender) ∧ (c.epoch = m.epoch) ∧ (m.arg = 1) ∧ True) ∧
    (∃ (s : State) (id : SatchelId) (c : Record), (s.recOf id = some c) ∧ (c.commitUndelivered = true) ∧ True) ∧
    (∃ (s : State) (m : CMsg) (c : Record), (s.sat.ready = true) ∧ (m.rsv = 0) ∧ (m.state < 11) ∧ (s.returned m = false) ∧ (s.recOf m.id = some c) ∧ (c.owner = m.sender) ∧ (c.epoch = m.epoch) ∧ (c.state ≠ .lost) ∧ (c.autoRecover = false) ∧ True) ∧
    (∃ (s : State) (id : SatchelId) (c : Record), (s.recOf id = some c) ∧ (c.ownerDead = true ∨ c.probing = true) ∧ (c.state ≠ .lost) ∧ (c.autoRecover = false) ∧ True) ∧
    (∃ (s : State) (m : CMsg) (part : Fin 16) (image : Sat) (log : List Token), (s.sat.ready = true) ∧ (m.rsv = 0) ∧ (m.state < 11) ∧ ∃ (slot : Nat), (s.recoverCheck part.val image log.length = none) ∧ (s.freeSlot = some slot) ∧ True) ∧
    (∃ (s : State) (m : CMsg) (part : Fin 16) (image : Sat) (log : List Token), (s.sat.ready = true) ∧ (m.rsv = 0) ∧ (m.state < 11) ∧ ∃ (st : Status), (s.recoverCheck part.val image log.length = some st) ∧ True) ∧
    (∃ (s : State) (m : CMsg) (c : Record) (k : Nat) (d : DevPart), (s.sat.ready = true) ∧ (m.rsv = 0) ∧ (m.state < 11) ∧ (s.returned m = false) ∧ (s.recOf m.id = some c) ∧ (c.state = .lost) ∧ (c.epoch + 1 = m.epoch) ∧ (c.candidate = some (k, d)) ∧ (d.dev = m.sender) ∧ (Status.ofCode m.status = .ok) ∧ True) ∧
    (∃ (s : State) (id : SatchelId) (c : Record) (d : DevPart), (s.recOf id = some c) ∧ (c.id = id) ∧ (c.state = .lost) ∧ (c.candidate = some (0, d)) ∧ True) ∧
    (∃ (s : State) (m : CMsg) (c : Record), (s.recOf m.id = some c) ∧ (c.epoch = m.epoch) ∧ (m.status = Status.ok.code) ∧ True) ∧
    (∃ (s : State) (id : SatchelId) (dst : DeviceId) (c : Record), (s.recOf id = some c) ∧ (c.movingTo = some dst) ∧ (c.sent = true) ∧ (dst ≠ s.me) ∧ True) ∧
    (∃ (s : State) (id : SatchelId) (c : Record), (c.id = id) ∧ (s.recOf id = none) ∧ True) ∧
    (∃ (s : State), (s.sat.heldQueries = []) ∧ (s.sat.heldClaims = []) ∧ True) :=
  ⟨⟨({ up with sat := { SatSt.reset with ready := true, live := 1 } }), (msg 1 0 1 2 0), ([0x01000001, 0x01000002]), by decide +kernel⟩,
   ⟨(reg rec0), (msg 1 0 0 2 0), (rec0), by decide +kernel⟩,
   ⟨(own { sat0 with state := .admitted, admitting := some ⟨.bmc, 0x0300, 7, 0, 1⟩ }), (msg 1 0 0 2 0), (4194303), ({ sat0 with state := .admitted, admitting := some ⟨.bmc, 0x0300, 7, 0, 1⟩ }), (⟨.bmc, 0x0300, 7, 0, 1⟩), by decide +kernel⟩,
   ⟨(own { sat0 with reregister := true }), (1), (4194303), ({ sat0 with reregister := true }), by decide +kernel⟩,
   ⟨(reg rec0), (msg 1 0 0 2 0), (rec0), by decide +kernel⟩,
   ⟨(reg rec0), (msg 1 0 3 1 0), (rec0), by decide +kernel⟩,
   ⟨(reg rec0), (msg 1 0 3 2 0), ([3]), (rec0), by decide +kernel⟩,
   ⟨(own { sat0 with mirrorsOut := 2, log := [1, 2, 3], mirrorHold := true }), (msg 1 0 0 3 0), (4194303), ({ sat0 with mirrorsOut := 2, log := [1, 2, 3], mirrorHold := true }), by decide +kernel⟩,
   ⟨({ own { sat0 with unackedInks := [(2, 2)] } with stk := { Stk.reset with stroke := 10, running := true } }), (1), (4194303), ({ sat0 with unackedInks := [(2, 2)] }), ((2, 2)), ([]), by decide +kernel⟩,
   ⟨({ (up.setReg Reg.glbDeviceId 5) with sat := { SatSt.reset with ready := true, live := 33 } }), (msg 1 0 0 0 0), (0), by decide +kernel⟩,
   ⟨({ reg rec0 with stk := { Stk.reset with stroke := 16, running := true } }), (1), (rec0), by decide +kernel⟩,
   ⟨(own sat0), (msg 1 0 0 0 0), (4194303), (sat0), by decide +kernel⟩,
   ⟨(reg { rec0 with probing := true, commitUndelivered := true }), (msg 1 0 0 0 1), ({ rec0 with probing := true, commitUndelivered := true }), by decide +kernel⟩,
   ⟨(reg { rec0 with commitUndelivered := true }), (1), ({ rec0 with commitUndelivered := true }), by decide +kernel⟩,
   ⟨(reg rec0), (msg 1 0 0 2 0), (rec0), by decide +kernel⟩,
   ⟨(reg { rec0 with ownerDead := true }), (1), ({ rec0 with ownerDead := true }), by decide +kernel⟩,
   ⟨({ pooled (own sat0) with sat := { (own sat0).sat with sats := [] } }), (msg 5 0 3 2 0), (0), (sat0), ([1, 2]), by decide +kernel, by decide +kernel, by decide +kernel, (0), by decide +kernel⟩,
   ⟨(own sat0), (msg 5 0 3 2 0), (15), (sat0), ([1, 2]), by decide +kernel, by decide +kernel, by decide +kernel, (.partitionBusy), by decide +kernel⟩,
   ⟨(reg { rec0 with state := .lost, candidate := some (0, ⟨0x0021, 0⟩) }), (msg 2 0 1 2 0), ({ rec0 with state := .lost, candidate := some (0, ⟨0x0021, 0⟩) }), (0), (⟨0x0021, 0⟩), by decide +kernel⟩,
   ⟨(reg { rec0 with state := .lost, candidate := some (0, ⟨0x0021, 0⟩), recoverReply := some ⟨.bmc, 0x0306, 7, 0, 1⟩ }), (1), ({ rec0 with state := .lost, candidate := some (0, ⟨0x0021, 0⟩), recoverReply := some ⟨.bmc, 0x0306, 7, 0, 1⟩ }), (⟨0x0021, 0⟩), by decide +kernel⟩,
   ⟨(reg rec0), (msg 1 0 0 0 0), (rec0), by decide +kernel⟩,
   ⟨(reg { rec0 with movingTo := some 3, sent := true }), (1), (3), ({ rec0 with movingTo := some 3, sent := true }), by decide +kernel⟩,
   ⟨(own sat0), (1), (rec0), by decide +kernel⟩,
   ⟨({ up with sat := { SatSt.reset with rereg := [(3, 5), (31, 7)] } }), by decide +kernel⟩⟩

theorem meets_Buckle :
    (∃ (s : State) (m : CMsg) (x : Sat) (full : Bool) (part : Fin 16) (sentBy : Option SentBy), (s.sat.ready = true) ∧ (m.rsv = 0) ∧ (m.state < 11) ∧ (s.sat.incoming = []) ∧ ∃ (st : Status), (s.offerCheck m x full sentBy part.val = some st) ∧ True) ∧
    (∃ (s : State) (m : CMsg) (x : Sat) (full : Bool) (shardsOk : Bool) (part : Fin 16) (sentBy : Option SentBy) (transit : Option (List Byte)), (s.sat.ready = true) ∧ (m.rsv = 0) ∧ (m.state < 11) ∧ (s.sat.incoming = []) ∧ ∃ (slot : Nat), (s.offerCheck m x full sentBy part.val = none) ∧ (s.freeSlot = some slot) ∧ ((shardsOk = true ∨ (s.part part.val).satelliteDevs false = [])) ∧ (harness m.sender ≠ harness s.me) ∧ (transit.bind (s.heldTransit x.tenant) = none) ∧ True) ∧
    (∃ (s : State) (m : CMsg) (x : Sat) (full : Bool) (shardsOk : Bool) (part : Fin 16) (sentBy : Option SentBy) (transit : Option (List Byte)), (s.sat.ready = true) ∧ (m.rsv = 0) ∧ (m.state < 11) ∧ (s.sat.incoming = []) ∧ ∃ (slot : Nat), (s.offerCheck m x full sentBy part.val = none) ∧ (s.freeSlot = some slot) ∧ ((shardsOk = true ∨ (s.part part.val).satelliteDevs false = [])) ∧ ((harness m.sender = harness s.me ∨ (transit.bind (s.heldTransit x.tenant)).isSome = true)) ∧ True) ∧
    (∃ (s : State) (id : SatchelId) (i : Incoming), (s.incomingOf id = some i) ∧ (i.dataDone = false) ∧ True) ∧
    (∃ (s : State) (id : SatchelId) (i : Incoming), (s.incomingOf id = some i) ∧ (i.dataDone = false) ∧ (i.transit.isSome = true) ∧ (i.transit.bind (s.heldTransit i.image.tenant) = none) ∧ True) ∧
    (∃ (s : State) (id : SatchelId) (i : Incoming) (log : List Token) (shardsTaken : Bool) (d : DeviceId), (s.incomingOf id = some i) ∧ (i.dataDone = false) ∧ (i.transit = none) ∧ (i.full = false) ∧ (i.claimed = false) ∧ (i.image.state ≠ .parkedWarm) ∧ (s.registrar id = some d) ∧ ((s.place i.slot Place.none log.length i.image.rows.length (s.part i.part.val).stateBytes).isSome = true) ∧ ((shardsTaken = true ∨ (s.part i.part.val).satelliteDevs false = [])) ∧ True) ∧
    (∃ (s : State) (m : CMsg) (c : Record), (s.sat.ready = true) ∧ (m.rsv = 0) ∧ (m.state < 11) ∧ (s.returned m = false) ∧ (s.recOf m.id = some c) ∧ (c.owner = m.sender) ∧ (c.epoch = m.epoch) ∧ (c.state ≠ .lost) ∧ (c.state ≠ .inTransit) ∧ True) ∧
    (∃ (s : State) (m : CMsg) (c : Record), (s.sat.ready = true) ∧ (m.rsv = 0) ∧ (m.state < 11) ∧ (s.returned m = false) ∧ (s.blt.l3 = false) ∧ (s.recOf m.id = some c) ∧ (c.state = .inTransit) ∧ (c.epoch + 1 = m.epoch) ∧ (c.pending = m.sender) ∧ True) ∧
    (∃ (s : State) (m : CMsg) (c : Record), (s.sat.ready = true) ∧ (m.rsv = 0) ∧ (m.state < 11) ∧ (s.returned m = false) ∧ (s.blt.l3 = false) ∧ (s.recOf m.id = some c) ∧ (c.state ≠ .inTransit ∨ c.epoch + 1 ≠ m.epoch ∨ c.pending ≠ m.sender) ∧ True) ∧
    (∃ (s : State) (m : CMsg) (i : Incoming), (s.sat.ready = true) ∧ (m.rsv = 0) ∧ (m.state < 11) ∧ (s.sat.incoming.find? (fun j => j.id == m.id && j.epoch + 1 == m.epoch) = some i) ∧ (Status.ofCode m.status ≠ .ok) ∧ True) ∧
    (∃ (s : State) (m : CMsg) (i : Incoming), (s.sat.ready = true) ∧ (m.rsv = 0) ∧ (m.state < 11) ∧ (s.sat.incoming.find? (fun j => j.id == m.id && j.epoch + 1 == m.epoch) = some i) ∧ (Status.ofCode m.status = .ok) ∧ (((SatState.ofCode m.state).getD i.image.state ≠ .parkedWarm ∨ i.log.length ≤ i.image.kvPos ∨ (s.part i.part.val).role = 2)) ∧ True) ∧
    (∃ (s : State) (id : SatchelId) (i : Incoming), (s.incomingOf id = some i) ∧ (i.claimed = true) ∧ True) ∧
    (∃ (s : State) (m : CMsg) (slot : Nat) (x : Sat) (v : Move), (s.sat.ready = true) ∧ (m.rsv = 0) ∧ (m.state < 11) ∧ (s.sending m.id (m.epoch - 1) = some slot) ∧ (s.satAt slot = some x) ∧ (x.move = some v) ∧ (v.dev = m.sender) ∧ True) ∧
    (∃ (s : State) (id : SatchelId) (e : Nat × Sat), (s.sat.sats.find? (fun e => e.2.id == id && e.2.state == .inTransit) = some e) ∧ True) ∧
    (∃ (s : State) (m : CMsg) (slot : Nat) (x : Sat) (v : Move), (s.sat.ready = true) ∧ (m.rsv = 0) ∧ (m.state < 11) ∧ (s.sending m.id m.epoch = some slot) ∧ (s.satAt slot = some x) ∧ (x.move = some v) ∧ (v.dev = m.sender) ∧ True) ∧
    (∃ (s : State) (m : CMsg) (c : Record), (s.sat.ready = true) ∧ (m.rsv = 0) ∧ (m.state < 11) ∧ (s.returned m = false) ∧ (s.recOf m.id = some c) ∧ (c.state = .inTransit) ∧ (c.epoch = m.epoch) ∧ (c.owner = m.sender) ∧ True) ∧
    (∃ (s : State) (m : CMsg) (slot : Nat) (x : Sat) (v : Move), (s.sat.ready = true) ∧ (m.rsv = 0) ∧ (m.state < 11) ∧ (s.sending m.id m.epoch = some slot) ∧ (s.satAt slot = some x) ∧ (x.move = some v) ∧ (m.arg = 0) ∧ (x.cancelLatched = false) ∧ (s.sec.shutdown = none) ∧ True) ∧
    (∃ (s : State) (m : CMsg) (slot : Nat) (x : Sat) (v : Move), (s.sat.ready = true) ∧ (m.rsv = 0) ∧ (m.state < 11) ∧ (s.sending m.id m.epoch = some slot) ∧ (s.satAt slot = some x) ∧ (x.move = some v) ∧ (m.arg = 1) ∧ True) ∧
    (∃ (s : State) (id : SatchelId) (slot : Nat) (x : Sat), (s.findSlot id = some slot) ∧ (slot < 4194304) ∧ (s.satAt slot = some x) ∧ (x.migrating = true) ∧ (x.has .lodged = false) ∧ True) ∧
    (∃ (s : State) (id : SatchelId), (s.findCtx id = none) ∧ True) ∧
    (∃ (s : State) (id : SatchelId) (l : Lodging) (t0 : Nat), (s.sat.lodgings.find? (fun l => l.id == id) = some l) ∧ (l.deadAt = some t0) ∧ (t0 + s.lossTime ≤ s.stk.time) ∧ True) ∧
    (∃ (s : State) (id : SatchelId) (k : Nat) (t0 : Nat) (y : Satellite), (afind s.sat.satellites k = some y) ∧ (y.id = id) ∧ (y.deadAt = some t0) ∧ (t0 + s.lossTime ≤ s.stk.time) ∧ True) ∧
    (∃ (s : State) (part : Fin 16) (i : ShardInstr), (i.ring = false) ∧ (i.acts = []) ∧ (s.satelliteFor part false i.id = none) ∧ True) ∧
    (∃ (s : State) (part : Fin 16) (owner : DeviceId) (i : ShardInstr), (i.ring = false) ∧ ∃ (tenant : BitVec 16) (cls : Fin 8) (adapter : BitVec 16) (version : BitVec 32) (prefixId : BitVec 32) (w : Nat × State), (i.acts = [.create tenant cls adapter version prefixId]) ∧ (i.alloc = 0) ∧ (i.kill = false) ∧ (i.drop = false) ∧ (s.satelliteFor part false i.id = none) ∧ ((∀ e ∈ s.kva.inks, e.prefixId ≠ prefixId)) ∧ (s.newSatellite part owner false false i.id tenant cls adapter version i.kvPos = some w) ∧ True) ∧
    (∃ (s : State) (part : Fin 16) (i : ShardInstr), (i.ring = false) ∧ ∃ (k : Nat) (y : Satellite) (h : Nat × State), (s.satelliteFor part false i.id = some k) ∧ (afind s.sat.satellites k = some y) ∧ (y.id = i.id) ∧ (y.part = part) ∧ (y.rows = []) ∧ (1 ≤ y.place.tableCap) ∧ (i.acts = []) ∧ (i.alloc = 1) ∧ (i.kill = false) ∧ (i.drop = false) ∧ ((s.part part.val).ringPos 0 = 0) ∧ (s.allocRow part.val i.id = some h) ∧ True) ∧
    (∃ (s : State) (part : Fin 16) (i : ShardInstr), (i.ring = false) ∧ ∃ (list : List DevPart), (i.acts = [.shards list]) ∧ (s.satelliteFor part false i.id = none) ∧ (s.pln.parts.length = 16) ∧ True) ∧
    (∃ (s : State) (part : Fin 16) (i : ShardInstr), (i.ring = false) ∧ ∃ (k : Nat), (s.satelliteFor part false i.id = some k) ∧ (i.acts = []) ∧ (i.drop = true) ∧ True) :=
  ⟨⟨(own sat0), (msg 5 0 3 2 0), (sat0), (true), (15), (none), by decide +kernel, by decide +kernel, by decide +kernel, by decide +kernel, (.partitionBusy), by decide +kernel⟩,
   ⟨(own sat0), (⟨0, 0xFFFF, 0, false, 0, 0x0021, 5, 2, 0, 0, 3, 2, 0⟩), ({ sat0 with id := 2, state := .ready }), (false), (true), (0), (none), (none), by decide +kernel, by decide +kernel, by decide +kernel, by decide +kernel, (0), by decide +kernel⟩,
   ⟨(own sat0), (⟨0, 0xFFFF, 0, false, 0, 0x0001, 5, 2, 0, 0, 3, 2, 0⟩), ({ sat0 with id := 2, state := .ready }), (false), (true), (0), (none), (none), by decide +kernel, by decide +kernel, by decide +kernel, by decide +kernel, (0), by decide +kernel⟩,
   ⟨(taking inc0), (1), (inc0), by decide +kernel⟩,
   ⟨(taking { inc0 with transit := some [1] }), (1), ({ inc0 with transit := some [1] }), by decide +kernel⟩,
   ⟨(pooled (taking inc0)), (1), (inc0), ([1]), (true), (0), by decide +kernel⟩,
   ⟨(reg rec0), (⟨0, 0xFFFF, 0, false, 0, 0x0021, 1, 1, 9, 0, 4, 2, 0⟩), (rec0), by decide +kernel⟩,
   ⟨(reg { rec0 with state := .inTransit, pending := 9 }), (⟨0, 0xFFFF, 0, false, 0, 9, 2, 1, 0x0021, 0, 0, 2, 0⟩), ({ rec0 with state := .inTransit, pending := 9 }), by decide +kernel⟩,
   ⟨(reg { rec0 with state := .inTransit, pending := 9 }), (⟨0, 0xFFFF, 0, false, 0, 8, 2, 1, 0x0021, 0, 0, 2, 0⟩), ({ rec0 with state := .inTransit, pending := 9 }), by decide +kernel⟩,
   ⟨({ up with sat := { SatSt.reset with ready := true, live := 1, reserved := [0], incoming := [⟨1, 0x0021, 1, 0, false, sat0, [], true, true, 0, false, none, none⟩] } }), (msg 2 Status.notOwner.code 0 0 0), (⟨1, 0x0021, 1, 0, false, sat0, [], true, true, 0, false, none, none⟩), by decide +kernel⟩,
   ⟨({ up with sat := { SatSt.reset with ready := true, live := 1, reserved := [0], incoming := [⟨1, 0x0021, 1, 0, false, sat0, [1, 2], true, true, 0, false, none, none⟩] } }), (msg 2 0 2 0 0), (⟨1, 0x0021, 1, 0, false, sat0, [1, 2], true, true, 0, false, none, none⟩), by decide +kernel⟩,
   ⟨({ up with sat := { SatSt.reset with ready := true, live := 1, reserved := [0], incoming := [⟨1, 0x0021, 1, 0, false, sat0, [1, 2], true, true, 0, false, none, none⟩] } }), (1), (⟨1, 0x0021, 1, 0, false, sat0, [1, 2], true, true, 0, false, none, none⟩), by decide +kernel⟩,
   ⟨(own { sat0 with state := .inTransit, move := some ⟨0x0021, 0, false, none, none, true, none, false, 0⟩ }), (msg 2 0 0 0 0), (4194303), ({ sat0 with state := .inTransit, move := some ⟨0x0021, 0, false, none, none, true, none, false, 0⟩ }), (⟨0x0021, 0, false, none, none, true, none, false, 0⟩), by decide +kernel⟩,
   ⟨(own { sat0 with state := .inTransit, move := some ⟨0x0021, 0, false, none, none, true, none, false, 0⟩ }), (1), ((4194303, { sat0 with state := .inTransit, move := some ⟨0x0021, 0, false, none, none, true, none, false, 0⟩ })), by decide +kernel⟩,
   ⟨(own { sat0 with state := .inTransit, move := some ⟨0x0021, 0, false, none, none, true, none, false, 0⟩ }), (msg 1 Status.noResource.code 0 0 0), (4194303), ({ sat0 with state := .inTransit, move := some ⟨0x0021, 0, false, none, none, true, none, false, 0⟩ }), (⟨0x0021, 0, false, none, none, true, none, false, 0⟩), by decide +kernel⟩,
   ⟨(reg { rec0 with state := .inTransit, pending := 9 }), (msg 1 0 4 2 0), ({ rec0 with state := .inTransit, pending := 9 }), by decide +kernel⟩,
   ⟨(own { sat0 with state := .inTransit, frozen := true, prior := .ready, move := some ⟨0x0021, 0, false, none, none, true, none, true, 0⟩ }), (msg 1 0 0 0 0), (4194303), ({ sat0 with state := .inTransit, frozen := true, prior := .ready, move := some ⟨0x0021, 0, false, none, none, true, none, true, 0⟩ }), (⟨0x0021, 0, false, none, none, true, none, true, 0⟩), by decide +kernel⟩,
   ⟨(own { sat0 with state := .inTransit, frozen := true, prior := .ready, move := some ⟨0x0021, 0, false, none, none, true, none, true, 0⟩ }), (msg 1 0 0 0 1), (4194303), ({ sat0 with state := .inTransit, frozen := true, prior := .ready, move := some ⟨0x0021, 0, false, none, none, true, none, true, 0⟩ }), (⟨0x0021, 0, false, none, none, true, none, true, 0⟩), by decide +kernel⟩,
   ⟨(own { sat0 with migrating := true, lodge := 0x0021, rows := [⟨.here, 2, 0⟩] }), (1), (4194303), ({ sat0 with migrating := true, lodge := 0x0021, rows := [⟨.here, 2, 0⟩] }), by decide +kernel⟩,
   ⟨({ up with sat := { SatSt.reset with lodgings := [⟨1, 0, 0x0021, 0, [⟨.here, 2, 0⟩], some 5⟩, ⟨2, 0, 0x0021, 0, [], none⟩] }, stk := { Stk.reset with time := 10000005 }, pln := parts0 { part0 with used := [0] } }), (1), by decide +kernel⟩,
   ⟨({ up with sat := { SatSt.reset with lodgings := [⟨1, 0, 0x0021, 0, [⟨.here, 2, 0⟩], some 5⟩, ⟨2, 0, 0x0021, 0, [], none⟩] }, stk := { Stk.reset with time := 10000005 }, pln := parts0 { part0 with used := [0] } }), (1), (⟨1, 0, 0x0021, 0, [⟨.here, 2, 0⟩], some 5⟩), (5), by decide +kernel⟩,
   ⟨({ up with sat := { SatSt.reset with satellites := [(3, satl)] }, stk := { Stk.reset with time := 10000005 }, pln := parts0 { part0 with used := [0] } }), (1), (3), (5), (satl), by decide +kernel⟩,
   ⟨(own sat0), (0), ({ act0 with id := 9, alloc := 2 }), by decide +kernel⟩,
   ⟨(pooled (own sat0)), (0), (0x0021), ({ act0 with id := 9, acts := [.create 3 1 0xFFFF 0 0xFFFFFFFF] }), by decide +kernel, (3), (1), (0xFFFF), (0), (0xFFFFFFFF), (match (pooled (own sat0)).newSatellite 0 0x0021 false false 9 3 1 0xFFFF 0 0 with | some q => q | none => (0, up)), by decide +kernel⟩,
   ⟨({ own sat0 with sat := { (own sat0).sat with satellites := [(3, { satl with rows := [], deadAt := none, id := 9 })] } }), (0), ({ act0 with id := 9, alloc := 1, kvPos := 7 }), by decide +kernel, (3), ({ satl with rows := [], deadAt := none, id := 9 }), (match ({ own sat0 with sat := { (own sat0).sat with satellites := [(3, { satl with rows := [], deadAt := none, id := 9 })] } } : State).allocRow 0 9 with | some q => q | none => (0, up)), by decide +kernel⟩,
   ⟨(own sat0), (15), ({ act0 with acts := [.shards [⟨0x0021, 3⟩, ⟨1, 15⟩]] }), by decide +kernel, ([⟨0x0021, 3⟩, ⟨1, 15⟩]), by decide +kernel⟩,
   ⟨({ up with sat := { SatSt.reset with satellites := [(3, satl)] }, pln := parts0 { part0 with used := [0] } }), (0), ({ act0 with drop := true }), by decide +kernel, (3), by decide +kernel⟩⟩

theorem meets_WaitsAndParking :
    (∃ (s : State) (id : SatchelId) (slot : Nat) (x : Sat) (e : StopEntry), (s.findSlot id = some slot) ∧ (s.satAt slot = some x) ∧ (x.state = .wait) ∧ (x.waitKind ≠ 0) ∧ (x.park = .idle) ∧ (x.stop.entries[x.waitMatcher]? = some e) ∧ (e.timeout ≠ 0) ∧ (s.age x < e.timeout) ∧ True) ∧
    (∃ (s : State) (id : SatchelId) (slot : Nat) (x : Sat) (e : StopEntry), (s.findSlot id = some slot) ∧ (s.satAt slot = some x) ∧ (x.state = .wait) ∧ (x.waitKind ≠ 0) ∧ (x.park = .idle) ∧ (x.stop.entries[x.waitMatcher]? = some e) ∧ (e.timeout ≠ 0) ∧ (e.timeout ≤ s.age x) ∧ (x.waitExpiry = 1) ∧ (x.log.length + (e.wake.take e.wakeLen).length ≤ x.maxContext) ∧ ((s.growLog slot (e.wake.take e.wakeLen).length).isSome = true) ∧ True) ∧
    (∃ (s : State) (id : SatchelId) (slot : Nat) (x : Sat) (e : StopEntry), (s.findSlot id = some slot) ∧ (s.satAt slot = some x) ∧ (x.state = .wait) ∧ (x.waitKind ≠ 0) ∧ (x.park = .idle) ∧ (x.stop.entries[x.waitMatcher]? = some e) ∧ (e.timeout ≠ 0) ∧ (e.timeout ≤ s.age x) ∧ (x.waitExpiry = 1) ∧ (x.log.length + (e.wake.take e.wakeLen).length ≤ x.maxContext) ∧ (s.growLog slot (e.wake.take e.wakeLen).length = none) ∧ True) ∧
    (∃ (s : State) (id : SatchelId) (slot : Nat) (x : Sat) (e : StopEntry), (s.findSlot id = some slot) ∧ (s.satAt slot = some x) ∧ (x.state = .wait) ∧ (x.waitKind ≠ 0) ∧ (x.park = .idle) ∧ (x.stop.entries[x.waitMatcher]? = some e) ∧ (e.timeout ≠ 0) ∧ (slot < 4194304) ∧ (e.timeout ≤ s.age x) ∧ (x.waitExpiry = 2) ∧ (x.planned = none) ∧ (x.autoFree = false) ∧ (x.freeing = []) ∧ True) ∧
    (∃ (s : State) (part : Fin 16) (slot : Nat) (x : Sat), (s.sat.sats = [(slot, x)]) ∧ (x.part = part) ∧ (x.admitting = none) ∧ (x.state = .wait) ∧ (s.due x = 1) ∧ (slot < 4194304) ∧ ((∀ e ∈ s.sat.satellites, e.2.part ≠ part)) ∧ (s.poolRefusal false x.tenant (s.rawUnits slot x.toKvCtx) = none) ∧ (1 ≤ (s.parkCfgAt part.val).parkRate) ∧ (afind s.fls.extents 992 = none) ∧ True) ∧
    (∃ (s : State) (part : Fin 16), ((∀ e ∈ s.sat.sats, e.2.part ≠ part)) ∧ ((∀ e ∈ s.sat.satellites, e.2.part ≠ part)) ∧ True) ∧
    (∃ (s : State) (id : SatchelId) (slot : Nat) (n0 : Nat) (x : Sat) (cold : Bool), (s.findSlot id = some slot) ∧ (s.satAt slot = some x) ∧ (x.park = .parking cold n0) ∧ (slot < 4194304) ∧ (s.parkDone slot x.toKvCtx cold = true) ∧ True) ∧
    (∃ (s : State) (id : SatchelId) (slot : Nat) (n0 : Nat) (x : Sat) (cold : Bool), (s.findSlot id = some slot) ∧ (s.satAt slot = some x) ∧ (x.park = .parking cold n0) ∧ (slot < 4194304) ∧ (s.parkDone slot x.toKvCtx cold = false) ∧ True) ∧
    (∃ (s : State) (id : SatchelId) (slot : Nat) (n : Nat) (x : Sat), (s.findSlot id = some slot) ∧ (s.satAt slot = some x) ∧ (x.park = .cacheWait n) ∧ True) ∧
    (∃ (s : State) (id : SatchelId) (slot : Nat) (x : Sat), (s.findSlot id = some slot) ∧ (s.satAt slot = some x) ∧ (x.park = .reviving [] false) ∧ (slot < 4194304) ∧ True) ∧
    (∃ (s : State) (id : SatchelId) (slot : Nat) (x : Sat) (e : StopEntry), (s.findSlot id = some slot) ∧ (s.satAt slot = some x) ∧ ((x.state = .parkedWarm ∨ x.state = .parkedCold)) ∧ (x.waitKind ≠ 0) ∧ (x.waitExpiry = 1) ∧ (x.mayLead = true) ∧ ((s.part x.part.val).role ≠ 2) ∧ ((s.parkCfgAt x.part.val).lead ≠ 0) ∧ (x.stop.entries[x.waitMatcher]? = some e) ∧ True) ∧
    (∃ (s : State) (s1 : State) (h : Header) (r : ReplyTo) (cfg : ParkCfg) (rp : Nat) (rsv : Nat), (s.Serves ⟨0x0105, 1, true, false, 16, rsv, 0, false⟩ h false r s1) ∧ (s1.partRefusal h.part.val = none) ∧ (cfg.a1 ≠ 0) ∧ (cfg.a2 ≠ 0) ∧ (cfg.coldTarget = 2) ∧ (1 ≤ cfg.parkRate) ∧ (cfg.parkRate ≤ 65535) ∧ (cfg.lead ≤ 255) ∧ (cfg.targets = []) ∧ (cfg.revive = none) ∧ (rp ≤ 15) ∧ True) ∧
    (∃ (s : State) (s1 : State) (h : Header) (r : ReplyTo) (cfg : ParkCfg) (rsv : Nat), (s.Serves ⟨0x0105, 1, true, false, 16, rsv, 0, false⟩ h false r s1) ∧ (s1.partRefusal h.part.val = none) ∧ (cfg.a1 = 0 ∨ cfg.a2 = 0 ∨ cfg.parkRate = 0 ∨ 2 < cfg.coldTarget) ∧ True) ∧
    (∃ (s : State) (s1 : State) (h : Header) (r : ReplyTo) (cfg : ParkCfg) (rsv : Nat) (d : DevPart), (s.Serves ⟨0x0105, 1, true, false, 16 + 4 * cfg.targets.length, rsv, 0, false⟩ h false r s1) ∧ (s1.partRefusal h.part.val = none) ∧ (d ∈ cfg.targets) ∧ (2 ^ 14 ≤ d.dev.toNat) ∧ True) ∧
    (∃ (s : State) (s1 : State) (h : Header) (r : ReplyTo) (warm : Nat) (cold : Nat), (s.Serves ⟨0x0402, 1, false, false, 8, 0, 0, false⟩ h false r s1) ∧ ((cold = 0 ∨ s1.fls.ready = true)) ∧ (s1.sizeWarm warm = none) ∧ True) ∧
    (∃ (s : State) (s1 : State) (h : Header) (r : ReplyTo) (warm : Nat) (cold : Nat), (s.Serves ⟨0x0402, 1, false, false, 8, 0, 0, false⟩ h false r s1) ∧ ((cold = 0 ∨ s1.fls.ready = true)) ∧ ∃ (y : State) (z : State), (s1.sizeWarm warm = some y) ∧ (y.sizeCold cold = some z) ∧ True) ∧
    (∃ (s : State) (s1 : State) (h : Header) (r : ReplyTo) (tenant : BitVec 16) (warmCap : Nat) (coldCap : Nat) (rsv : Nat), (s.Serves ⟨0x0401, 1, false, false, 20, rsv, 0, false⟩ h false r s1) ∧ (1 ≤ warmCap) ∧ (warmCap ≤ 0xFFFFFFFF) ∧ (1 ≤ coldCap) ∧ (coldCap ≤ 0xFFFFFFFF) ∧ (tenant ≠ 0xFFFF) ∧ (s1.tenantsFull tenant = false) ∧ True) ∧
    (∃ (s : State) (s1 : State) (h : Header) (r : ReplyTo) (rsv : Nat), (s.Serves ⟨0x0403, 1, true, false, 4, rsv, 0, false⟩ h false r s1) ∧ True) ∧
    (∃ (s : State) (id : SatchelId) (slot : Nat) (block : Nat) (n0 : Nat) (x : Sat) (cold : Bool), (s.findSlot id = some slot) ∧ (s.satAt slot = some x) ∧ (x.park = .parking cold n0) ∧ (slot < 4194304) ∧ (x.state = .wait) ∧ (block < s.ctxBlocks x.toKvCtx) ∧ (x.cold = []) ∧ True) ∧
    (∃ (s : State) (id : SatchelId) (slot : Nat) (block : Nat) (l : List Nat) (st : Bool) (x : Sat) (index : Option (List Byte)) (fetched : Option (List Byte)), (s.findSlot id = some slot) ∧ (s.satAt slot = some x) ∧ (x.park = .reviving l st) ∧ (slot < 4194304) ∧ (block ∈ l) ∧ ((slot, block) ∉ s.kva.rereads) ∧ ∃ (raw : List Byte), (s.decodeAt slot x.toKvCtx block index fetched = .ok raw) ∧ True) ∧
    (∃ (s : State) (id : SatchelId) (slot : Nat) (block : Nat) (l : List Nat) (st : Bool) (x : Sat) (index : Option (List Byte)) (fetched : Option (List Byte)), (s.findSlot id = some slot) ∧ (s.satAt slot = some x) ∧ (x.park = .reviving l st) ∧ (slot < 4194304) ∧ (block ∈ l) ∧ ((slot, block) ∉ s.kva.rereads) ∧ ∃ (b : BadBlock), (s.decodeAt slot x.toKvCtx block index fetched = .error b) ∧ True) ∧
    (∃ (s : State) (id : SatchelId) (slot : Nat) (block : Nat) (l : List Nat) (st : Bool) (x : Sat) (index : Option (List Byte)) (fetched : Option (List Byte)), (s.findSlot id = some slot) ∧ (s.satAt slot = some x) ∧ (x.park = .reviving l st) ∧ (slot < 4194304) ∧ ((slot, block) ∈ s.kva.rereads) ∧ ∃ (raw : List Byte), (s.decodeAt slot x.toKvCtx block index fetched = .ok raw) ∧ (s.flag Reg.cdcCtrl 1 = false) ∧ True) ∧
    (∃ (s : State) (id : SatchelId) (slot : Nat) (block : Nat) (l : List Nat) (st : Bool) (x : Sat) (index : Option (List Byte)) (fetched : Option (List Byte)), (s.findSlot id = some slot) ∧ (s.satAt slot = some x) ∧ (x.park = .reviving l st) ∧ (slot < 4194304) ∧ ((slot, block) ∈ s.kva.rereads) ∧ ∃ (b : BadBlock), (s.decodeAt slot x.toKvCtx block index fetched = .error b) ∧ (x.noSubst = false) ∧ (x.state.live = true) ∧ True) :=
  ⟨⟨(atStroke (own wt) 4), (1), (4194303), (wt), (ent0), by decide +kernel⟩,
   ⟨(atStroke (own wt) 5), (1), (4194303), (wt), (ent0), by decide +kernel⟩,
   ⟨(atStroke (own { wt with place := Place.none }) 5), (1), (4194303), ({ wt with place := Place.none }), (ent0), by decide +kernel⟩,
   ⟨(atStroke (own { wt with waitExpiry := 2, rows := [row1] }) 5), (1), (4194303), ({ wt with waitExpiry := 2, rows := [row1] }), (ent0), by decide +kernel⟩,
   ⟨(pool (atStroke (own1 { wt with rows := [row1] }) 2000) 2 0), (0), (4194303), ({ wt with rows := [row1] }), by decide +kernel⟩,
   ⟨(own wt), (1), by decide +kernel⟩,
   ⟨({ own1 { wt with park := .parking true 2 } with kva := { Kva.reset with ready := true, parked := [] } }), (1), (4194303), (2), ({ wt with park := .parking true 2 }), (true), by decide +kernel⟩,
   ⟨(own1 { wt with park := .parking false 2, rows := [row1] }), (1), (4194303), (2), ({ wt with park := .parking false 2, rows := [row1] }), (false), by decide +kernel⟩,
   ⟨(atStroke (own { wt with park := .cacheWait 70 }) 70), (1), (4194303), (70), ({ wt with park := .cacheWait 70 }), by decide +kernel⟩,
   ⟨(own2 { rev1 with park := .reviving [] false } []), (1), (4194303), ({ rev1 with park := .reviving [] false }), by decide +kernel⟩,
   ⟨(atStroke (own2 { wt with state := .parkedWarm, rows := [⟨.parked, 2, 0⟩] } []) 3), (1), (4194303), ({ wt with state := .parkedWarm, rows := [⟨.parked, 2, 0⟩] }), (ent0), by decide +kernel⟩,
   ⟨((own sat0).acc 0x0105), (taken ((own sat0).acc 0x0105 : State) ⟨0x0105, 1, true, false, 16, (0 : Nat), 0, false⟩ (hd 48 : Header) false), (hd 48), (replyOf ((own sat0).acc 0x0105 : State) ⟨0x0105, 1, true, false, 16, (0 : Nat), 0, false⟩ (hd 48 : Header) false), ({ ParkCfg.reset with coldTarget := 2, lead := 255, parkRate := 65535 }), (15), (0), (served (by decide +kernel) (by decide +kernel) (by decide +kernel)), by decide +kernel⟩,
   ⟨((own sat0).acc 0x0105), (taken ((own sat0).acc 0x0105 : State) ⟨0x0105, 1, true, false, 16, (0 : Nat), 0, false⟩ (hd 48 : Header) false), (hd 48), (replyOf ((own sat0).acc 0x0105 : State) ⟨0x0105, 1, true, false, 16, (0 : Nat), 0, false⟩ (hd 48 : Header) false), ({ ParkCfg.reset with coldTarget := 3 }), (0), (served (by decide +kernel) (by decide +kernel) (by decide +kernel)), by decide +kernel⟩,
   ⟨((own sat0).acc 0x0105), (taken ((own sat0).acc 0x0105 : State) ⟨0x0105, 1, true, false, 16 + 4 * ({ ParkCfg.reset with targets := [⟨0x4000, 0⟩] } : ParkCfg).targets.length, (0 : Nat), 0, false⟩ (hd 52 : Header) false), (hd 52), (replyOf ((own sat0).acc 0x0105 : State) ⟨0x0105, 1, true, false, 16 + 4 * ({ ParkCfg.reset with targets := [⟨0x4000, 0⟩] } : ParkCfg).targets.length, (0 : Nat), 0, false⟩ (hd 52 : Header) false), ({ ParkCfg.reset with targets := [⟨0x4000, 0⟩] }), (0), (⟨0x4000, 0⟩), (served (by decide +kernel) (by decide +kernel) (by decide +kernel)), by decide +kernel⟩,
   ⟨(up.acc 0x0402), (taken (up.acc 0x0402 : State) ⟨0x0402, 1, false, false, 8, 0, 0, false⟩ (hd 40 : Header) false), (hd 40), (replyOf (up.acc 0x0402 : State) ⟨0x0402, 1, false, false, 8, 0, 0, false⟩ (hd 40 : Header) false), (1), (0), (served (by decide +kernel) (by decide +kernel) (by decide +kernel)), by decide +kernel⟩,
   ⟨(t1pool.acc 0x0402), (taken (t1pool.acc 0x0402 : State) ⟨0x0402, 1, false, false, 8, 0, 0, false⟩ (hd 40 : Header) false), (hd 40), (replyOf (t1pool.acc 0x0402 : State) ⟨0x0402, 1, false, false, 8, 0, 0, false⟩ (hd 40 : Header) false), (0), (0), (served (by decide +kernel) (by decide +kernel) (by decide +kernel)), by decide +kernel, (match (taken (t1pool.acc 0x0402) ⟨0x0402, 1, false, false, 8, 0, 0, false⟩ (hd 40) false).sizeWarm 0 with | some y => y | none => up), (match (taken (t1pool.acc 0x0402) ⟨0x0402, 1, false, false, 8, 0, 0, false⟩ (hd 40) false).sizeWarm 0 with | some y => y | none => up), by decide +kernel⟩,
   ⟨(up.acc 0x0401), (taken (up.acc 0x0401 : State) ⟨0x0401, 1, false, false, 20, (0 : Nat), 0, false⟩ (hd 52 : Header) false), (hd 52), (replyOf (up.acc 0x0401 : State) ⟨0x0401, 1, false, false, 20, (0 : Nat), 0, false⟩ (hd 52 : Header) false), (0xFFFE), (1), (0xFFFFFFFF), (0), (served (by decide +kernel) (by decide +kernel) (by decide +kernel)), by decide +kernel⟩,
   ⟨(up.acc 0x0403), (taken (up.acc 0x0403 : State) ⟨0x0403, 1, true, false, 4, (0 : Nat), 0, false⟩ (hd 36 : Header) false), (hd 36), (replyOf (up.acc 0x0403 : State) ⟨0x0403, 1, true, false, 4, (0 : Nat), 0, false⟩ (hd 36 : Header) false), (0), (served (by decide +kernel) (by decide +kernel) (by decide +kernel)), trivial⟩,
   ⟨(own1 { wt with rows := [row1], park := .parking false 2 }), (1), (4194303), (1), (2), ({ wt with rows := [row1], park := .parking false 2 }), (false), by decide +kernel⟩,
   ⟨(own2 rev1 []), (1), (4194303), (1), ([1]), (false), (rev1), (none), (none), meet6 (by decide +kernel) ⟨(zeros 256), (okIs (by decide +kernel)), trivial⟩⟩,
   ⟨(own2 rev1 []), (1), (4194303), (1), ([1]), (false), (rev1), (none), (some []), meet6 (by decide +kernel) ⟨(.overrun), (errIs (by decide +kernel)), trivial⟩⟩,
   ⟨((own2 rev1 [(4194303, 1)]).setReg Reg.cdcCtrl 0), (1), (4194303), (1), ([1]), (false), (rev1), (none), (none), by decide +kernel, by decide +kernel, by decide +kernel, by decide +kernel, by decide +kernel, (zeros 256), (okIs (by decide +kernel)), by decide +kernel⟩,
   ⟨(own2 rev1 [(4194303, 1)]), (1), (4194303), (1), ([1]), (false), (rev1), (some []), (none), by decide +kernel, by decide +kernel, by decide +kernel, by decide +kernel, by decide +kernel, (.check), (errIs (by decide +kernel)), by decide +kernel⟩⟩

theorem meets_SwapAndInkwell :
    (∃ (s : State) (id : SatchelId) (row : Nat) (slot : Nat) (toT2 : Bool) (x : Sat) (e : Nat × Bool × Nat) (r : Row), (s.findSlot id = some slot) ∧ (s.satAt slot = some x) ∧ (slot < 4194304) ∧ (x.swapOut.find? (fun e => e.1 == row && e.2.1 == toT2) = some e) ∧ (x.rows[row]? = some r) ∧ (r.kind = .here) ∧ (toT2 = true) ∧ (s.t2Durable (swapExtent x.part.val) (runFrom e.2.2 (s.part x.part.val).rowUnitsT2) = false) ∧ True) ∧
    (∃ (s : State) (id : SatchelId) (row : Nat) (slot : Nat) (toT2 : Bool) (x : Sat) (e : Nat × Bool × Nat) (r : Row), (s.findSlot id = some slot) ∧ (s.satAt slot = some x) ∧ (slot < 4194304) ∧ (x.swapOut.find? (fun e => e.1 == row && e.2.1 == toT2) = some e) ∧ (x.rows[row]? = some r) ∧ (r.kind = .here) ∧ (toT2 = false ∨ s.t2Durable (swapExtent x.part.val) (runFrom e.2.2 (s.part x.part.val).rowUnitsT2) = true) ∧ True) ∧
    (∃ (s : State) (id : SatchelId) (row : Nat) (slot : Nat) (x : Sat) (e : Nat × Nat) (r : Row), (s.findSlot id = some slot) ∧ (s.satAt slot = some x) ∧ (slot < 4194304) ∧ (x.returns.find? (fun e => e.1 == row) = some e) ∧ (x.rows[row]? = some r) ∧ (s.swapOk x.part.val r = true) ∧ True) ∧
    (∃ (s : State) (id : SatchelId) (row : Nat) (slot : Nat) (x : Sat) (e : Nat × Nat) (r : Row), (s.findSlot id = some slot) ∧ (s.satAt slot = some x) ∧ (slot < 4194304) ∧ (x.returns.find? (fun e => e.1 == row) = some e) ∧ (x.rows[row]? = some r) ∧ (x.state.live = true) ∧ (x.noSubst = false) ∧ True) ∧
    (∃ (s : State) (id : SatchelId) (row : Nat) (slot : Nat) (x : Sat) (e : Nat × Nat) (r : Row), (s.findSlot id = some slot) ∧ (s.satAt slot = some x) ∧ (slot < 4194304) ∧ (x.returns.find? (fun e => e.1 == row) = some e) ∧ (x.rows[row]? = some r) ∧ (x.state.live = true) ∧ (x.noSubst = true) ∧ True) ∧
    (∃ (s : State) (s1 : State) (h : Header) (r : ReplyTo) (extents : List (Nat × Nat)) (rsv : Nat), (s.Serves ⟨0x0106, 1, true, false, 8 + 16 * extents.length, rsv, 0, false⟩ h false r s1) ∧ (s1.partRefusal h.part.val = none) ∧ (swapExtentsOk extents.length extents = true) ∧ ((s1.part h.part.val).swapHostUsed ≠ [] ∨ (s1.part h.part.val).swapT2Used ≠ []) ∧ True) ∧
    (∃ (s : State) (s1 : State) (h : Header) (r : ReplyTo) (extents : List (Nat × Nat)) (rsv : Nat), (s.Serves ⟨0x0106, 1, true, false, 8 + 16 * extents.length, rsv, 0, false⟩ h false r s1) ∧ (s1.partRefusal h.part.val = none) ∧ (swapExtentsOk extents.length extents = true) ∧ ((s1.part h.part.val).swapHostUsed = []) ∧ ((s1.part h.part.val).swapT2Used = []) ∧ True) ∧
    (∃ (s : State) (s1 : State) (h : Header) (r : ReplyTo) (id : SatchelId) (length : Nat) (rsv : Nat) (slot : Nat) (y : Sat) (z : Sat) (n : Nat), (s.Serves ⟨0x0307, 1, true, true, 16, rsv, 0, false⟩ h false r s1) ∧ (satGen id ≠ 0) ∧ (s1.findSlot id = some slot) ∧ (s1.satAt slot = some y) ∧ (h.mayName y = true) ∧ ((y.state = .ready ∨ y.state = .wait)) ∧ (s1.ready y.part.val = true) ∧ ((s1.part y.part.val).image.isSome = true) ∧ (1 ≤ length) ∧ (n = ceilDiv length (s1.part y.part.val).positions) ∧ (slot < 4194304) ∧ ((s1.abandonPark slot).satAt slot = some z) ∧ (y.kvPos < length) ∧ True) ∧
    (∃ (s : State) (s1 : State) (h : Header) (r : ReplyTo) (id : SatchelId) (length : Nat) (rsv : Nat) (slot : Nat) (y : Sat) (z : Sat) (n : Nat), (s.Serves ⟨0x0307, 1, true, true, 16, rsv, 0, false⟩ h false r s1) ∧ (satGen id ≠ 0) ∧ (s1.findSlot id = some slot) ∧ (s1.satAt slot = some y) ∧ (h.mayName y = true) ∧ ((y.state = .ready ∨ y.state = .wait)) ∧ (s1.ready y.part.val = true) ∧ ((s1.part y.part.val).image.isSome = true) ∧ (1 ≤ length) ∧ (n = ceilDiv length (s1.part y.part.val).positions) ∧ (slot < 4194304) ∧ ((s1.abandonPark slot).satAt slot = some z) ∧ (length ≤ y.kvPos) ∧ ((∀ w ∈ z.rows.take n, w.kind = .here ∨ w.kind = .inkwell)) ∧ (s1.kva.inks.length < 65536) ∧ True) ∧
    (∃ (s : State) (s1 : State) (h : Header) (r : ReplyTo) (prefixId : BitVec 32) (rsv : Nat), (s.Serves ⟨0x0308, 1, true, false, 8, rsv, 0, false⟩ h false r s1) ∧ (s1.kva.inks.find? (fun k => k.prefixId == prefixId) = none) ∧ True) ∧
    (∃ (s : State) (s1 : State) (h : Header) (r : ReplyTo) (rsv : Nat), (s.Serves ⟨0x0308, 1, true, false, 8, rsv, 0, false⟩ h false r s1) ∧ (h.origin.partition = none) ∧ True) :=
  ⟨⟨(own1 { wt with rows := [row1], swapOut := [(0, true, 3)] }), (1), (0), (4194303), (true), ({ wt with rows := [row1], swapOut := [(0, true, 3)] }), ((0, true, 3)), (row1), by decide +kernel⟩,
   ⟨(own1 { wt with rows := [row1], swapOut := [(0, false, 3)] }), (1), (0), (4194303), (false), ({ wt with rows := [row1], swapOut := [(0, false, 3)] }), ((0, false, 3)), (row1), by decide +kernel⟩,
   ⟨({ own1 { wt with rows := [⟨.swapHost, 2, 3⟩], returns := [(0, 0)] } with pln := parts0 { partW with image := none } }), (1), (0), (4194303), ({ wt with rows := [⟨.swapHost, 2, 3⟩], returns := [(0, 0)] }), ((0, 0)), (⟨.swapHost, 2, 3⟩), by decide +kernel⟩,
   ⟨(own1 { wt with rows := [⟨.swapHost, 2, 3⟩], returns := [(0, 0)] }), (1), (0), (4194303), ({ wt with rows := [⟨.swapHost, 2, 3⟩], returns := [(0, 0)] }), ((0, 0)), (⟨.swapHost, 2, 3⟩), by decide +kernel⟩,
   ⟨(own1 { wt with rows := [⟨.swapHost, 2, 3⟩], returns := [(0, 0)], noSubst := true }), (1), (0), (4194303), ({ wt with rows := [⟨.swapHost, 2, 3⟩], returns := [(0, 0)], noSubst := true }), ((0, 0)), (⟨.swapHost, 2, 3⟩), by decide +kernel⟩,
   ⟨({ own sat0 with pln := parts0 { part0 with swapHostUsed := [0] } }.acc 0x0106), (taken ({ own sat0 with pln := parts0 { part0 with swapHostUsed := [0] } }.acc 0x0106 : State) ⟨0x0106, 1, true, false, 8 + 16 * ([(0x10000, 65536)] : List (Nat × Nat)).length, (0 : Nat), 0, false⟩ (hd 56 : Header) false), (hd 56), (replyOf ({ own sat0 with pln := parts0 { part0 with swapHostUsed := [0] } }.acc 0x0106 : State) ⟨0x0106, 1, true, false, 8 + 16 * ([(0x10000, 65536)] : List (Nat × Nat)).length, (0 : Nat), 0, false⟩ (hd 56 : Header) false), ([(0x10000, 65536)]), (0), (served (by decide +kernel) (by decide +kernel) (by decide +kernel)), by decide +kernel⟩,
   ⟨((own sat0).acc 0x0106), (taken ((own sat0).acc 0x0106 : State) ⟨0x0106, 1, true, false, 8 + 16 * ([(0x10000, 65536)] : List (Nat × Nat)).length, (0 : Nat), 0, false⟩ (hd 56 : Header) false), (hd 56), (replyOf ((own sat0).acc 0x0106 : State) ⟨0x0106, 1, true, false, 8 + 16 * ([(0x10000, 65536)] : List (Nat × Nat)).length, (0 : Nat), 0, false⟩ (hd 56 : Header) false), ([(0x10000, 65536)]), (0), (served (by decide +kernel) (by decide +kernel) (by decide +kernel)), by decide +kernel⟩,
   ⟨((own { wt with rows := [row1] }).acc 0x0307), (taken ((own { wt with rows := [row1] }).acc 0x0307 : State) ⟨0x0307, 1, true, true, 16, (0 : Nat), 0, false⟩ (hd 48 : Header) false), (hd 48), (replyOf ((own { wt with rows := [row1] }).acc 0x0307 : State) ⟨0x0307, 1, true, true, 16, (0 : Nat), 0, false⟩ (hd 48 : Header) false), (1), (3), (0), (4194303), ({ wt with rows := [row1] }), ({ wt with rows := [row1] }), (1), (served (by decide +kernel) (by decide +kernel) (by decide +kernel)), by decide +kernel⟩,
   ⟨((own1 { wt with rows := [row1] }).acc 0x0307), (taken ((own1 { wt with rows := [row1] }).acc 0x0307 : State) ⟨0x0307, 1, true, true, 16, (0 : Nat), 0, false⟩ (hd 48 : Header) false), (hd 48), (replyOf ((own1 { wt with rows := [row1] }).acc 0x0307 : State) ⟨0x0307, 1, true, true, 16, (0 : Nat), 0, false⟩ (hd 48 : Header) false), (1), (2), (0), (4194303), ({ wt with rows := [row1] }), ({ wt with rows := [row1] }), (1), (served (by decide +kernel) (by decide +kernel) (by decide +kernel)), by decide +kernel⟩,
   ⟨((own sat0).acc 0x0308), (taken ((own sat0).acc 0x0308 : State) ⟨0x0308, 1, true, false, 8, (0 : Nat), 0, false⟩ (hd 40 : Header) false), (hd 40), (replyOf ((own sat0).acc 0x0308 : State) ⟨0x0308, 1, true, false, 8, (0 : Nat), 0, false⟩ (hd 40 : Header) false), (0), (0), (served (by decide +kernel) (by decide +kernel) (by decide +kernel)), by decide +kernel⟩,
   ⟨({ own sat0 with kva := { Kva.reset with ready := true, inks := [⟨7, 0, 7, 2, [0], [1, 2], none⟩] } }.acc 0x0308), (taken ({ own sat0 with kva := { Kva.reset with ready := true, inks := [⟨7, 0, 7, 2, [0], [1, 2], none⟩] } }.acc 0x0308 : State) ⟨0x0308, 1, true, false, 8, (0 : Nat), 0, false⟩ (hd 40 : Header) false), (hd 40), (replyOf ({ own sat0 with kva := { Kva.reset with ready := true, inks := [⟨7, 0, 7, 2, [0], [1, 2], none⟩] } }.acc 0x0308 : State) ⟨0x0308, 1, true, false, 8, (0 : Nat), 0, false⟩ (hd 40 : Header) false), (0), (served (by decide +kernel) (by decide +kernel) (by decide +kernel)), by decide +kernel⟩⟩

theorem meets_ThreadInstructions :
    (∃ (s : State) (s1 : State) (core : Fin 128) (thr : Fin 64) (w : Word) (pc : BitVec 64) (v1 : BitVec 64) (v2 : BitVec 64) (p : Nat) (c : Nat) (u : Nat) (x : Thread) (d : List Byte), (s.ComesTo core thr w pc v1 v2 .push p x) ∧ (s.unitOf core.val (x.getX (xRs2 w)).toNat = some (c, u)) ∧ ((x.getX (xRs1 w)).toNat % 64 = 0) ∧ ((s.modThread (threadKey core.val thr.val) fun _ => x).fetchVa p (x.getX (xRs1 w)).toNat 64 = (s1, .ok d)) ∧ ∃ (st : Status), (s1.pushRefusal p c u d = some st) ∧ True) ∧
    (∃ (s : State) (s1 : State) (core : Fin 128) (thr : Fin 64) (w : Word) (pc : BitVec 64) (v1 : BitVec 64) (v2 : BitVec 64) (p : Nat) (c : Nat) (u : Nat) (x : Thread) (d : List Byte), (s.ComesTo core thr w pc v1 v2 .push p x) ∧ (s.unitOf core.val (x.getX (xRs2 w)).toNat = some (c, u)) ∧ ((x.getX (xRs1 w)).toNat % 64 = 0) ∧ ((s.modThread (threadKey core.val thr.val) fun _ => x).fetchVa p (x.getX (xRs1 w)).toNat 64 = (s1, .ok d)) ∧ (s1.pushRefusal p c u d = none) ∧ ((agetD s.cores.queues (unitKey c u) []).length < 256) ∧ (x.tickets.length < 32) ∧ True) ∧
    (∃ (s : State) (s1 : State) (core : Fin 128) (thr : Fin 64) (w : Word) (pc : BitVec 64) (v1 : BitVec 64) (v2 : BitVec 64) (p : Nat) (c : Nat) (u : Nat) (x : Thread) (d : List Byte), (s.ComesTo core thr w pc v1 v2 .push p x) ∧ (s.unitOf core.val (x.getX (xRs2 w)).toNat = some (c, u)) ∧ ((x.getX (xRs1 w)).toNat % 64 = 0) ∧ ((s.modThread (threadKey core.val thr.val) fun _ => x).fetchVa p (x.getX (xRs1 w)).toNat 64 = (s1, .ok d)) ∧ (s1.pushRefusal p c u d = none) ∧ (256 ≤ (agetD s.cores.queues (unitKey c u) []).length ∨ 32 ≤ x.tickets.length) ∧ True) ∧
    (∃ (s : State) (core : Fin 128) (thr : Fin 64) (w : Word) (pc : BitVec 64) (v1 : BitVec 64) (v2 : BitVec 64) (p : Nat) (x : Thread), (s.ComesTo core thr w pc v1 v2 .push p x) ∧ (s.unitOf core.val (x.getX (xRs2 w)).toNat = none ∨ (x.getX (xRs1 w)).toNat % 64 ≠ 0) ∧ True) ∧
    (∃ (s : State) (s1 : State) (core : Fin 128) (thr : Fin 64) (rd : Nat) (addr : Nat) (sel : Nat) (p : Nat) (c : Nat) (u : Nat) (d : List Byte), (s.coreOwner core.val = some p) ∧ (s.partRuns p = true) ∧ ((s.thread (threadKey core.val thr.val)).state = .stalled rd addr sel) ∧ (s.unitOf core.val sel = some (c, u)) ∧ (addr % 64 = 0) ∧ (s.fetchVa p addr 64 = (s1, .ok d)) ∧ (s1.pushRefusal p c u d = none) ∧ ((agetD s.cores.queues (unitKey c u) []).length < 256) ∧ ((s.thread (threadKey core.val thr.val)).tickets.length < 32) ∧ True) ∧
    (∃ (s : State) (core : Fin 128) (thr : Fin 64) (w : Word) (pc : BitVec 64) (v1 : BitVec 64) (v2 : BitVec 64) (p : Nat) (x : Thread), (s.ComesTo core thr w pc v1 v2 .poll p x) ∧ True) ∧
    (∃ (s : State) (core : Fin 128) (thr : Fin 64) (w : Word) (pc : BitVec 64) (v1 : BitVec 64) (v2 : BitVec 64) (p : Nat) (x : Thread), (s.ComesTo core thr w pc v1 v2 .wait p x) ∧ True) ∧
    (∃ (s : State) (core : Fin 128) (thr : Fin 64) (w : Word) (pc : BitVec 64) (v1 : BitVec 64) (v2 : BitVec 64) (p : Nat) (x : Thread), (s.ComesTo core thr w pc v1 v2 .fence p x) ∧ True) ∧
    (∃ (s : State) (core : Fin 128) (thr : Fin 64) (w : Word) (p : Nat), (s.coreOwner core.val = some p) ∧ (s.partRuns p = true) ∧ ((s.thread (threadKey core.val thr.val)).state = .running) ∧ (xDecode w = none) ∧ (bits w.toNat 6 0 = 0x0B) ∧ True) ∧
    (∃ (s : State) (core : Fin 128) (thr : Fin 64) (w : Word) (p : Nat), (s.coreOwner core.val = some p) ∧ (s.partRuns p = true) ∧ ((s.thread (threadKey core.val thr.val)).state = .running) ∧ (xDecode w = none) ∧ (w = 0x73) ∧ True) ∧
    (∃ (s : State) (core : Fin 128) (thr : Fin 64) (w : Word) (p : Nat), (s.coreOwner core.val = some p) ∧ (s.partRuns p = true) ∧ ((s.thread (threadKey core.val thr.val)).state = .running) ∧ (xDecode w = none) ∧ (bits w.toNat 6 0 = 0x73) ∧ (bits w.toNat 14 12 = 2) ∧ (xRs1 w = 0) ∧ (bits w.toNat 31 20 = 0xCC0) ∧ True) ∧
    (∃ (s : State) (core : Fin 128) (thr : Fin 64), ((s.thread (threadKey core.val thr.val)).state ≠ .stopped) ∧ (agetD s.blt.outbox core.val [] = []) ∧ True) :=
  ⟨⟨(core0 th0), (((core0 th0).modThread (threadKey 0 0) fun _ => th0.atInstr wPush 0x1000 0 9).fetchVa 0 ((th0.atInstr wPush 0x1000 0 9).getX (xRs1 wPush)).toNat 64 |>.1), (0), (0), (wPush), (0x1000), (0), (9), (0), (0), (9), (th0.atInstr wPush 0x1000 0 9), ([1] ++ zeros 63), by unfold State.ComesTo; decide +kernel, by decide +kernel, by decide +kernel, (pairOk (by decide +kernel)), (.badOpcode), by decide +kernel⟩,
   ⟨(core0 th0), (((core0 th0).modThread (threadKey 0 0) fun _ => th0.atInstr wPush 0x1000 0 0).fetchVa 0 ((th0.atInstr wPush 0x1000 0 0).getX (xRs1 wPush)).toNat 64 |>.1), (0), (0), (wPush), (0x1000), (0), (0), (0), (0), (0), (th0.atInstr wPush 0x1000 0 0), ([1] ++ zeros 63), by unfold State.ComesTo; decide +kernel, by decide +kernel, by decide +kernel, (pairOk (by decide +kernel)), by decide +kernel⟩,
   ⟨(core0 { th0 with tickets := List.range 32 }), (((core0 { th0 with tickets := List.range 32 }).modThread (threadKey 0 0) fun _ => { th0 with tickets := List.range 32 }.atInstr wPush 0x1000 0 0).fetchVa 0 (({ th0 with tickets := List.range 32 }.atInstr wPush 0x1000 0 0).getX (xRs1 wPush)).toNat 64 |>.1), (0), (0), (wPush), (0x1000), (0), (0), (0), (0), (0), ({ th0 with tickets := List.range 32 }.atInstr wPush 0x1000 0 0), ([1] ++ zeros 63), by unfold State.ComesTo; decide +kernel, by decide +kernel, by decide +kernel, (pairOk (by decide +kernel)), by decide +kernel⟩,
   ⟨(core0 th0), (0), (0), (wPush), (0x1000), (63), (0), (0), (th0.atInstr wPush 0x1000 63 0), by unfold State.ComesTo; decide +kernel, by decide +kernel⟩,
   ⟨(core0 { th0 with state := .stalled 10 0 0 }), ((core0 { th0 with state := .stalled 10 0 0 }).fetchVa 0 0 64 |>.1), (0), (0), (10), (0), (0), (0), (0), (0), ([1] ++ zeros 63), by decide +kernel, by decide +kernel, by decide +kernel, by decide +kernel, by decide +kernel, (pairOk (by decide +kernel)), by decide +kernel⟩,
   ⟨(core0 { th0 with recent := [(12, .noResource)] }), (0), (0), (0x0002950B), (0x1000), (12), (0), (0), ({ th0 with recent := [(12, .noResource)] }.atInstr 0x0002950B 0x1000 12 0), by unfold State.ComesTo; decide +kernel, trivial⟩,
   ⟨(core0 { th0 with tickets := [12] }), (0), (0), (0x0002A50B), (0x1000), (12), (0), (0), ({ th0 with tickets := [12] }.atInstr 0x0002A50B 0x1000 12 0), by unfold State.ComesTo; decide +kernel, trivial⟩,
   ⟨(core0 { th0 with tickets := [12] }), (0), (0), (0x0000300B), (0x1000), (0), (0), (0), ({ th0 with tickets := [12] }.atInstr 0x0000300B 0x1000 0 0), by unfold State.ComesTo; decide +kernel, trivial⟩,
   ⟨(core0 th0), (0), (0), (0x0000700B), (0), by decide +kernel⟩,
   ⟨(core0 th0), (0), (0), (0x73), (0), by decide +kernel⟩,
   ⟨(core0 th0), (0), (0), (0xCC002573), (0), by decide +kernel⟩,
   ⟨({ core0 th0 with cores := { threads := [(63, th0)], queues := [], seqs := [] } }), (0), (63), by decide +kernel⟩⟩

theorem meets_CompletionVectors :
    (∃ (s : State) (core : Fin 128) (thr : Fin 64) (w : Word) (pc : BitVec 64) (v1 : BitVec 64) (v2 : BitVec 64) (p : Nat) (x : Thread), (s.ComesTo core thr w pc v1 v2 .cvSet p x) ∧ True) ∧
    (∃ (s : State) (core : Fin 128) (thr : Fin 64) (w : Word) (pc : BitVec 64) (v1 : BitVec 64) (v2 : BitVec 64) (p : Nat) (x : Thread), (s.ComesTo core thr w pc v1 v2 .cvClr p x) ∧ True) ∧
    (∃ (s : State) (core : Fin 128) (thr : Fin 64) (w : Word) (pc : BitVec 64) (v1 : BitVec 64) (v2 : BitVec 64) (p : Nat) (x : Thread), (s.ComesTo core thr w pc v1 v2 .cvWait p x) ∧ ((s.part p).cvWord (x.getX (xRs1 w)).toNat &&& (x.getX (xRs2 w)).toNat ≠ (x.getX (xRs2 w)).toNat) ∧ True) ∧
    (∃ (s : State) (core : Fin 128) (thr : Fin 64) (w : Word) (pc : BitVec 64) (v1 : BitVec 64) (v2 : BitVec 64) (p : Nat) (x : Thread), (s.ComesTo core thr w pc v1 v2 .cvWait p x) ∧ ((s.part p).cvWord (x.getX (xRs1 w)).toNat &&& (x.getX (xRs2 w)).toNat = (x.getX (xRs2 w)).toNat) ∧ ((x.getX (xRs1 w)).toNat < 256) ∧ True) ∧
    (∃ (s : State) (core : Fin 128) (thr : Fin 64) (w : Word) (pc : BitVec 64) (v1 : BitVec 64) (v2 : BitVec 64) (p : Nat) (x : Thread), (s.ComesTo core thr w pc v1 v2 .cvRead p x) ∧ ((x.getX (xRs1 w)).toNat < 256) ∧ True) ∧
    (∃ (s : State) (core : Fin 128) (dev : Fin 10) (seq : Nat) (c : CoreCmd) (st : Status), (s.cmdAt core.val dev.val seq = some c) ∧ (c.result = some st) ∧ ((((agetD s.cores.queues (unitKey core.val dev.val) []).takeWhile fun x => x.seq != seq).filter fun x => x.thread == c.thread) = []) ∧ (s.partRuns c.part.val = true) ∧ (c.flag 1 = false) ∧ True) ∧
    (∃ (s : State) (core : Fin 128) (dev : Fin 10) (seq : Nat) (c : CoreCmd) (st : Status), (s.cmdAt core.val dev.val seq = some c) ∧ (c.result = some st) ∧ ((((agetD s.cores.queues (unitKey core.val dev.val) []).takeWhile fun x => x.seq != seq).filter fun x => x.thread == c.thread) = []) ∧ (s.partRuns c.part.val = true) ∧ (c.flag 1 = true) ∧ True) :=
  ⟨⟨(cvS), (0), (0), (0x0202800B), (0x1000), (0x3FFF), (0), (0), (th0.atInstr 0x0202800B 0x1000 0x3FFF 0), by unfold State.ComesTo; decide +kernel, trivial⟩,
   ⟨(cvS), (0), (0), (0x0262900B), (0x1000), (1), (1), (0), (th0.atInstr 0x0262900B 0x1000 1 1), by unfold State.ComesTo; decide +kernel, trivial⟩,
   ⟨(cvS), (0), (0), (0x0262A50B), (0x1000), (255), (1), (0), (th0.atInstr 0x0262A50B 0x1000 255 1), by unfold State.ComesTo; decide +kernel, by decide +kernel⟩,
   ⟨(cvS), (0), (0), (0x0262A50B), (0x1000), (0), (8), (0), (th0.atInstr 0x0262A50B 0x1000 0 8), by unfold State.ComesTo; decide +kernel, by decide +kernel⟩,
   ⟨(cvS), (0), (0), (0x0202B50B), (0x1000), (255), (0), (0), (th0.atInstr 0x0202B50B 0x1000 255 0), by unfold State.ComesTo; decide +kernel, by decide +kernel⟩,
   ⟨(engS 0 { mOk with result := some .ok } []), (0), (0), (0), ({ mOk with result := some .ok }), (.ok), by decide +kernel⟩,
   ⟨(engS 9 { cmd0 ([3, 2, 0xFF, 0x3F] ++ zeros 60) with result := some .badField } []), (0), (9), (0), ({ cmd0 ([3, 2, 0xFF, 0x3F] ++ zeros 60) with result := some .badField }), (.badField), by decide +kernel⟩⟩

theorem meets_EngineCommands :
    (∃ (s : State) (core : Fin 128) (eng : Fin 8) (seq : Nat) (c : CoreCmd), (s.Starts core.val eng.val seq 1 c) ∧ ((MatDesc.ofCmd c).ok (s.part c.part.val) = false) ∧ True) ∧
    (∃ (s : State) (core : Fin 128) (eng : Fin 8) (seq : Nat) (c : CoreCmd), (s.Starts core.val eng.val seq 1 c) ∧ ((MatDesc.ofCmd c).ok (s.part c.part.val) = true) ∧ ((MatDesc.ofCmd c).len = 0) ∧ True) ∧
    (∃ (s : State) (core : Fin 128) (eng : Fin 8) (seq : Nat) (c : CoreCmd), (s.Starts core.val eng.val seq 1 c) ∧ ∃ (s1 : State) (b : List Byte), ((MatDesc.ofCmd c).ok (s.part c.part.val) = true) ∧ ((MatDesc.ofCmd c).len ≠ 0) ∧ (c.served.contains tableItem.code = false) ∧ (c.skips s.memory.faults tableItem = false) ∧ (s.fetchVa c.part.val (MatDesc.ofCmd c).len (16 * (MatDesc.ofCmd c).entries) = (s1, .ok b)) ∧ let l := (List.range (MatDesc.ofCmd c).entries).map fun k => LenEntry.ofBytes (b.drop (16 * k)); let nrb := ceilDiv (l.foldl (fun a e => max a (e.q0 + e.qn)) 0) 64; (lenOk l = false ∨ (l.map fun e => e.qn).sum ≠ (MatDesc.ofCmd c).m) ∧ True) ∧
    (∃ (s : State) (core : Fin 128) (eng : Fin 8) (seq : Nat) (c : CoreCmd), (s.Starts core.val eng.val seq 1 c) ∧ ∃ (s1 : State) (b : List Byte), ((MatDesc.ofCmd c).ok (s.part c.part.val) = true) ∧ ((MatDesc.ofCmd c).len ≠ 0) ∧ (c.served.contains tableItem.code = false) ∧ (c.skips s.memory.faults tableItem = false) ∧ (s.fetchVa c.part.val (MatDesc.ofCmd c).len (16 * (MatDesc.ofCmd c).entries) = (s1, .ok b)) ∧ let l := (List.range (MatDesc.ofCmd c).entries).map fun k => LenEntry.ofBytes (b.drop (16 * k)); let nrb := ceilDiv (l.foldl (fun a e => max a (e.q0 + e.qn)) 0) 64; (lenOk l = true) ∧ ((l.map fun e => e.qn).sum = (MatDesc.ofCmd c).m) ∧ ((MatDesc.ofCmd c).append = false) ∧ True) ∧
    (∃ (s : State) (core : Fin 128) (eng : Fin 8) (seq : Nat) (c : CoreCmd), (s.Starts core.val eng.val seq 1 c) ∧ ∃ (s1 : State) (b : List Byte), ((MatDesc.ofCmd c).ok (s.part c.part.val) = true) ∧ ((MatDesc.ofCmd c).len ≠ 0) ∧ (c.served.contains tableItem.code = false) ∧ (c.skips s.memory.faults tableItem = false) ∧ (s.fetchVa c.part.val (MatDesc.ofCmd c).len (16 * (MatDesc.ofCmd c).entries) = (s1, .ok b)) ∧ let l := (List.range (MatDesc.ofCmd c).entries).map fun k => LenEntry.ofBytes (b.drop (16 * k)); let nrb := ceilDiv (l.foldl (fun a e => max a (e.q0 + e.qn)) 0) 64; ∃ (im : ModelImage), (lenOk l = true) ∧ ((l.map fun e => e.qn).sum = (MatDesc.ofCmd c).m) ∧ ((MatDesc.ofCmd c).append = true) ∧ ((s.part c.part.val).image = some im) ∧ True) ∧
    (∃ (s : State) (s1 : State) (s2 : State) (s3 : State) (core : Fin 128) (eng : Fin 8) (seq : Nat) (pa : Nat) (c : CoreCmd) (d : MatDesc) (a : List Machine.Num) (b : List Machine.Num), (s.Starts core.val eng.val seq 1 c) ∧ (d = MatDesc.ofCmd c) ∧ (d.ok (s.part c.part.val) = true) ∧ (d.len = 0) ∧ (d.m = 1) ∧ (d.n = 1) ∧ (d.fc = 9) ∧ (c.served = []) ∧ (c.parked = []) ∧ (c.gone = []) ∧ (c.waiting = []) ∧ (c.aborted = false) ∧ (s.flag (Reg.coreCtrl core.val) 2 = false) ∧ (s.readElems c.part.val d.opA 0 0 d.k = (s1, .ok a)) ∧ (s1.readElems c.part.val d.opB 0 0 d.k = (s2, .ok b)) ∧ (s2.xlateRange c.part.val .engine .write d.c 4 = (s3, .ok [(pa, 4)])) ∧ (s3.memory.target pa = .t1) ∧ (pa < 2 ^ 52) ∧ True) ∧
    (∃ (s : State) (core : Fin 128) (eng : Fin 8) (seq : Nat) (c : CoreCmd), (s.Starts core.val eng.val seq 2 c) ∧ ((AttDesc.ofCmd c).ok (s.part c.part.val) = false) ∧ True) ∧
    (∃ (s : State) (core : Fin 128) (eng : Fin 8) (seq : Nat) (c : CoreCmd), (s.Starts core.val eng.val seq 2 c) ∧ ∃ (im : ModelImage) (s1 : State) (b : List Byte), ((s.part c.part.val).image = some im) ∧ ((AttDesc.ofCmd c).ok (s.part c.part.val) = true) ∧ ((s.kva.pins.any fun n => n.reader == readerOf c.part.val core.val eng.val seq) = false) ∧ (c.served.contains tableItem.code = false) ∧ (c.skips s.memory.faults tableItem = false) ∧ ((s.pin (readerOf c.part.val core.val eng.val seq)).fetchVa c.part.val (AttDesc.ofCmd c).len (16 * (AttDesc.ofCmd c).entries) = (s1, .ok b)) ∧ let l := (List.range (AttDesc.ofCmd c).entries).map fun k => LenEntry.ofBytes (b.drop (16 * k)); (lenOk l = false) ∧ True) ∧
    (∃ (s : State) (core : Fin 128) (eng : Fin 8) (seq : Nat) (c : CoreCmd), (s.Starts core.val eng.val seq 2 c) ∧ ∃ (im : ModelImage) (s1 : State) (b : List Byte), ((s.part c.part.val).image = some im) ∧ ((AttDesc.ofCmd c).ok (s.part c.part.val) = true) ∧ ((s.kva.pins.any fun n => n.reader == readerOf c.part.val core.val eng.val seq) = false) ∧ (c.served.contains tableItem.code = false) ∧ (c.skips s.memory.faults tableItem = false) ∧ ((s.pin (readerOf c.part.val core.val eng.val seq)).fetchVa c.part.val (AttDesc.ofCmd c).len (16 * (AttDesc.ofCmd c).entries) = (s1, .ok b)) ∧ let l := (List.range (AttDesc.ofCmd c).entries).map fun k => LenEntry.ofBytes (b.drop (16 * k)); (lenOk l = true) ∧ True) ∧
    (∃ (s : State) (core : Fin 128) (seq : Nat) (c : CoreCmd), (s.Starts core.val 9 seq 3 c) ∧ ((SmpDesc.ofCmd c).ok = false) ∧ True) ∧
    (∃ (s : State) (core : Fin 128) (seq : Nat) (c : CoreCmd), (s.Starts core.val 9 seq 3 c) ∧ ∃ (s1 : State) (b : List Byte), ((SmpDesc.ofCmd c).ok = true) ∧ (c.served.contains tableItem.code = false) ∧ (c.skips s.memory.faults tableItem = false) ∧ (s.fetchVa c.part.val (SmpDesc.ofCmd c).len (16 * (SmpDesc.ofCmd c).entries) = (s1, .ok b)) ∧ let l := (List.range (SmpDesc.ofCmd c).entries).map fun k => LenEntry.ofBytes (b.drop (16 * k)); (lenOk l = false) ∧ True) ∧
    (∃ (s : State) (core : Fin 128) (seq : Nat) (c : CoreCmd), (s.Starts core.val 9 seq 3 c) ∧ ∃ (s1 : State) (b : List Byte), ((SmpDesc.ofCmd c).ok = true) ∧ (c.served.contains tableItem.code = false) ∧ (c.skips s.memory.faults tableItem = false) ∧ (s.fetchVa c.part.val (SmpDesc.ofCmd c).len (16 * (SmpDesc.ofCmd c).entries) = (s1, .ok b)) ∧ let l := (List.range (SmpDesc.ofCmd c).entries).map fun k => LenEntry.ofBytes (b.drop (16 * k)); (lenOk l = true) ∧ True) ∧
    (∃ (s : State) (core : Fin 128) (seq : Nat) (c : CoreCmd), (s.Starts core.val 8 seq 4 c) ∧ ((VecDesc.ofCmd c).ok (s.part c.part.val) = false) ∧ True) ∧
    (∃ (s : State) (core : Fin 128) (seq : Nat) (c : CoreCmd), (s.Starts core.val 8 seq 4 c) ∧ ((VecDesc.ofCmd c).ok (s.part c.part.val) = true) ∧ ((VecDesc.ofCmd c).op ≠ 12) ∧ True) ∧
    (∃ (s : State) (core : Fin 128) (seq : Nat) (c : CoreCmd), (s.Starts core.val 8 seq 4 c) ∧ ∃ (s1 : State) (b : List Byte), ((VecDesc.ofCmd c).ok (s.part c.part.val) = true) ∧ ((VecDesc.ofCmd c).op = 12) ∧ (0 < (VecDesc.ofCmd c).param / 2 ^ 32) ∧ ((VecDesc.ofCmd c).param / 2 ^ 32 ≤ 16384) ∧ (c.served.contains tableItem.code = false) ∧ (c.skips s.memory.faults tableItem = false) ∧ (s.fetchVa c.part.val (VecDesc.ofCmd c).src1 (16 * ((VecDesc.ofCmd c).param / 2 ^ 32)) = (s1, .ok b)) ∧ (lenOk ((List.range ((VecDesc.ofCmd c).param / 2 ^ 32)).map fun k => LenEntry.ofBytes (b.drop (16 * k))) = true) ∧ True) ∧
    (∃ (s : State) (id : SatchelId), (s.sat.satellites.find? (fun e => e.2.id == id && e.2.partner) = none) ∧ True) ∧
    (∃ (s : State) (id : SatchelId), ∃ (k : Nat) (y : Satellite) (w : Walk) (im : ModelImage), (s.sat.satellites.find? (fun e => e.2.id == id && e.2.partner) = some (k, y)) ∧ (s.walk (ctxOfSatellite k) = some w) ∧ ((s.part w.part.val).image = some im) ∧ True) ∧
    (∃ (s : State) (id : SatchelId) (layer : Nat) (head : Nat) (limit : Nat) (low : Nat) (held : List Nat), ∃ (k : Nat) (y : Satellite) (w : Walk) (im : ModelImage), (s.sat.satellites.find? (fun e => e.2.id == id && e.2.partner) = some (k, y)) ∧ (s.walk (ctxOfSatellite k) = some w) ∧ ((s.part w.part.val).image = some im) ∧ ∃ (j : Nat) (r : Row) (rc : ScaleRec), (held = [j]) ∧ (w.rows = [r]) ∧ (r.kind = .here) ∧ (low = j * (s.part w.part.val).positions) ∧ (limit = low + 1) ∧ (0 < (s.part w.part.val).positions) ∧ (afind s.kva.scales ((s.part w.part.val).headFrame im r.loc layer head).1 = some rc) ∧ (rc.tag = w.id) ∧ True) :=
  ⟨⟨(engS 7 (cmd0 (mdesc 0 1 1 1 0 0 0 0)) []), (0), (7), (0), (cmd0 (mdesc 0 1 1 1 0 0 0 0)), by unfold State.Starts; decide +kernel, by decide +kernel⟩,
   ⟨(engS 0 mOk []), (0), (0), (0), (mOk), by unfold State.Starts; decide +kernel, by decide +kernel⟩,
   ⟨(engS 0 mTab (zeros 16)), (0), (0), (0), (mTab), by unfold State.Starts; decide +kernel, (((engS 0 mTab (zeros 16) : State).fetchVa 0 512 16).1), (zeros 16), by decide +kernel, by decide +kernel, by decide +kernel, by decide +kernel, (pairOk (by decide +kernel)), by decide +kernel⟩,
   ⟨(engS 0 mTab good), (0), (0), (0), (mTab), by unfold State.Starts; decide +kernel, (((engS 0 mTab good : State).fetchVa 0 512 16).1), (good), by decide +kernel, by decide +kernel, by decide +kernel, by decide +kernel, (pairOk (by decide +kernel)), by decide +kernel⟩,
   ⟨(engS 0 { mApp with desc := mdesc 4 1 16 1 0x77A0 512 0 1 } good), (0), (0), (0), (mApp), by unfold State.Starts; decide +kernel, (((engS 0 { mApp with desc := mdesc 4 1 16 1 0x77A0 512 0 1 } good : State).fetchVa 0 512 16).1), (good), by decide +kernel, by decide +kernel, by decide +kernel, by decide +kernel, (pairOk (by decide +kernel)), (img0), by decide +kernel⟩,
   ⟨(engS 0 mOk []), (((engS 0 mOk [] : State).readElems 0 (MatDesc.ofCmd mOk).opA 0 0 1).1), (((((engS 0 mOk [] : State).readElems 0 (MatDesc.ofCmd mOk).opA 0 0 1).1 : State).readElems 0 (MatDesc.ofCmd mOk).opB 0 0 1).1), (((((((engS 0 mOk [] : State).readElems 0 (MatDesc.ofCmd mOk).opA 0 0 1).1 : State).readElems 0 (MatDesc.ofCmd mOk).opB 0 0 1).1 : State).xlateRange 0 .engine .write 256 4).1), (0), (0), (0), (256), (mOk), (MatDesc.ofCmd mOk), (match ((engS 0 mOk [] : State).readElems 0 (MatDesc.ofCmd mOk).opA 0 0 1).2 with | .ok l => l | .error _ => []), (match ((((engS 0 mOk [] : State).readElems 0 (MatDesc.ofCmd mOk).opA 0 0 1).1 : State).readElems 0 (MatDesc.ofCmd mOk).opB 0 0 1).2 with | .ok l => l | .error _ => []), by unfold State.Starts; decide +kernel, meet6 (by decide +kernel) (meet6 (by decide +kernel) ⟨(pairOk (by decide +kernel)), (pairOk (by decide +kernel)), (pairOk (by decide +kernel)), by decide +kernel⟩)⟩,
   ⟨(engS 0 (cmd0 (adesc 16385 1)) []), (0), (0), (0), (cmd0 (adesc 16385 1)), by unfold State.Starts; decide +kernel, by decide +kernel⟩,
   ⟨(engS 0 (cmd0 (adesc 1 1)) (zeros 16)), (0), (0), (0), (cmd0 (adesc 1 1)), by unfold State.Starts; decide +kernel, (img0), ((((engS 0 (cmd0 (adesc 1 1)) (zeros 16) : State).pin (readerOf 0 0 0 0)).fetchVa 0 512 16).1), (zeros 16), by decide +kernel, by decide +kernel, by decide +kernel, by decide +kernel, by decide +kernel, (pairOk (by decide +kernel)), by decide +kernel⟩,
   ⟨(engS 0 (cmd0 (adesc 1 1)) good), (0), (0), (0), (cmd0 (adesc 1 1)), by unfold State.Starts; decide +kernel, (img0), ((((engS 0 (cmd0 (adesc 1 1)) good : State).pin (readerOf 0 0 0 0)).fetchVa 0 512 16).1), (good), by decide +kernel, by decide +kernel, by decide +kernel, by decide +kernel, by decide +kernel, (pairOk (by decide +kernel)), by decide +kernel⟩,
   ⟨(engS 9 (cmd0 (sdesc 0)) []), (0), (0), (cmd0 (sdesc 0)), by unfold State.Starts; decide +kernel, by decide +kernel⟩,
   ⟨(engS 9 (cmd0 (sdesc 1)) (zeros 16)), (0), (0), (cmd0 (sdesc 1)), by unfold State.Starts; decide +kernel, (((engS 9 (cmd0 (sdesc 1)) (zeros 16) : State).fetchVa 0 512 16).1), (zeros 16), by decide +kernel, by decide +kernel, by decide +kernel, (pairOk (by decide +kernel)), by decide +kernel⟩,
   ⟨(engS 9 (cmd0 (sdesc 2)) good), (0), (0), (cmd0 (sdesc 2)), by unfold State.Starts; decide +kernel, (((engS 9 (cmd0 (sdesc 2)) good : State).fetchVa 0 512 16).1), (good), by decide +kernel, by decide +kernel, by decide +kernel, (pairOk (by decide +kernel)), by decide +kernel⟩,
   ⟨(engS 8 (cmd0 (vdesc 13 1)) []), (0), (0), (cmd0 (vdesc 13 1)), by unfold State.Starts; decide +kernel, by decide +kernel⟩,
   ⟨(engS 8 (cmd0 (vdesc 9 1)) []), (0), (0), (cmd0 (vdesc 9 1)), by unfold State.Starts; decide +kernel, by decide +kernel⟩,
   ⟨(engS 8 (cmd0 (vdesc 12 16)) good), (0), (0), (cmd0 (vdesc 12 16)), by unfold State.Starts; decide +kernel, (((engS 8 (cmd0 (vdesc 12 16)) good : State).fetchVa 0 512 16).1), (good), meet6 (by decide +kernel) ⟨(pairOk (by decide +kernel)), by decide +kernel⟩⟩,
   ⟨(up), (1), by decide +kernel⟩,
   ⟨(ringS), (9), (3), (satp), (satp.toKvCtx.walk none), (img0), by decide +kernel⟩,
   ⟨(ringS), (9), (0), (0), (1), (0), ([0]), (3), (satp), (satp.toKvCtx.walk none), (img0), by decide +kernel, by decide +kernel, by decide +kernel, (0), (⟨.here, 2, 0⟩), (⟨0, 0, 1, 1, false, false, 9, [(0, 0x3F80), (1, 0x3F80)]⟩), by decide +kernel⟩⟩

theorem meets_PartitionLifecycle :
    (∃ (s : State) (s1 : State) (h : Header) (r : ReplyTo) (c : ComposeParams) (src : Option SrcFact), (s.Serves ⟨0x0100, 1, false, false, 40 + 4 * c.nShard + 4 * (c.nRing - 1), c.rsv, b2n (c.source == 0), false⟩ h false r s1) ∧ ((s1.part h.part.val).held = none) ∧ ∃ (st : Status), (s1.composeCheck h.part c src = some st) ∧ True) ∧
    (∃ (s : State) (s1 : State) (h : Header) (r : ReplyTo) (c : ComposeParams) (src : Option SrcFact), (s.Serves ⟨0x0100, 1, false, false, 40 + 4 * c.nShard + 4 * (c.nRing - 1), c.rsv, b2n (c.source == 0), false⟩ h false r s1) ∧ ((s1.part h.part.val).held = none) ∧ (s1.composeCheck h.part c src = none) ∧ (s1.composeRoom h.part.val c src = false) ∧ True) ∧
    (∃ (s : State) (s1 : State) (h : Header) (r : ReplyTo) (c : ComposeParams) (src : Option SrcFact), (s.Serves ⟨0x0100, 1, false, false, 40 + 4 * c.nShard + 4 * (c.nRing - 1), c.rsv, b2n (c.source == 0), false⟩ h false r s1) ∧ ((s1.part h.part.val).held = none) ∧ (s1.composeCheck h.part c src = none) ∧ (s1.slicesDraining h.part.val c.slices.toNat = false) ∧ (s1.composeRoom h.part.val c src = true) ∧ True) ∧
    (∃ (s : State) (s1 : State) (h : Header) (r : ReplyTo) (c : ComposeParams) (src : Option SrcFact), (s.Serves ⟨0x0100, 1, false, false, 40 + 4 * c.nShard + 4 * (c.nRing - 1), c.rsv, b2n (c.source == 0), false⟩ h false r s1) ∧ ((s1.part h.part.val).held = none) ∧ (s1.composeCheck h.part c src = none) ∧ (s1.slicesDraining h.part.val c.slices.toNat = true) ∧ (s1.composeRoom h.part.val c src = true) ∧ True) ∧
    (∃ (s : State) (p : Fin 16) (m : Composing), ((s.part p.val).held = some m) ∧ (s.slicesDraining p.val m.params.slices.toNat = true) ∧ True) ∧
    (∃ (s : State) (p : Fin 16) (m : Composing), ((s.part p.val).held = some m) ∧ ∃ (s1 : State), (s1 = s.modPart p.val (fun q => { q with held := none })) ∧ (s.slicesDraining p.val m.params.slices.toNat = false) ∧ ∃ (st : Status), (s1.composeCheck p m.params m.src = some st) ∧ True) ∧
    (∃ (s : State) (p : Fin 16) (m : Composing), ((s.part p.val).held = some m) ∧ ∃ (s1 : State), (s1 = s.modPart p.val (fun q => { q with held := none })) ∧ (s.slicesDraining p.val m.params.slices.toNat = false) ∧ (s1.composeCheck p m.params m.src = none) ∧ True) ∧
    (∃ (s : State) (p : Fin 16) (c : Composing), ((s.part p.val).state = .composing) ∧ ((s.part p.val).composing = some c) ∧ (c.zeroed = false) ∧ (c.params.role = 2) ∧ True) ∧
    (∃ (s : State) (p : Fin 16) (c : Composing) (image : Option ImageFact), ((s.part p.val).state = .composing) ∧ ((s.part p.val).composing = some c) ∧ (c.zeroed = false) ∧ ∃ (f : ImageFact) (st : Status), (c.params.role ≠ 2) ∧ (c.params.source ≠ 2) ∧ (image = some f) ∧ (imageFault c.params f.decode = some st) ∧ True) ∧
    (∃ (s : State) (p : Fin 16) (c : Composing) (image : Option ImageFact), ((s.part p.val).state = .composing) ∧ ((s.part p.val).composing = some c) ∧ (c.zeroed = false) ∧ ∃ (f : ImageFact) (s1 : State), (c.params.role ≠ 2) ∧ (c.params.source ≠ 2) ∧ (image = some f) ∧ (imageFault c.params f.decode = none) ∧ (s.fitModel p.val c f.decode = some s1) ∧ True) ∧
    (∃ (s : State) (p : Fin 16) (c : Composing) (im : ModelImage), ((s.part p.val).state = .composing) ∧ ((s.part p.val).composing = some c) ∧ (c.zeroed = true) ∧ (c.inPlace = false) ∧ ((s.part p.val).image = some im) ∧ True) ∧
    (∃ (s : State) (p : Fin 16) (c : Composing), ((s.part p.val).state = .composing) ∧ ((s.part p.val).composing = some c) ∧ True) ∧
    (∃ (s : State) (s1 : State) (h : Header) (r : ReplyTo), (s.Serves ⟨0x0101, 1, false, false, 0, 0, 0, false⟩ h false r s1) ∧ ((s1.part h.part.val).held = none) ∧ ((s1.part h.part.val).changing = false) ∧ ((s1.part h.part.val).state = .free) ∧ True) ∧
    (∃ (s : State) (s1 : State) (h : Header) (r : ReplyTo), (s.Serves ⟨0x0101, 1, false, false, 0, 0, 0, false⟩ h false r s1) ∧ ((s1.part h.part.val).held = none) ∧ ((s1.part h.part.val).changing = false) ∧ ((s1.part h.part.val).state = .ready) ∧ (s1.holds h.part = true) ∧ True) ∧
    (∃ (s : State) (s1 : State) (h : Header) (r : ReplyTo), (s.Serves ⟨0x0101, 1, false, false, 0, 0, 0, false⟩ h false r s1) ∧ ((s1.part h.part.val).held = none) ∧ ((s1.part h.part.val).changing = false) ∧ ((s1.part h.part.val).state = .ready) ∧ (s1.holds h.part = false) ∧ True) ∧
    (∃ (s : State) (p : Fin 16), ((s.part p.val).state = .draining) ∧ True) ∧
    (∃ (s : State) (s1 : State) (h : Header) (r : ReplyTo), (s.Serves ⟨0x0102, 1, false, false, 0, 0, 0, false⟩ h false r s1) ∧ ((s1.part h.part.val).changing = false) ∧ ((s1.part h.part.val).suspendTag = none) ∧ ((s1.part h.part.val).state = .suspended) ∧ True) ∧
    (∃ (s : State) (s1 : State) (h : Header) (r : ReplyTo), (s.Serves ⟨0x0102, 1, false, false, 0, 0, 0, false⟩ h false r s1) ∧ ((s1.part h.part.val).changing = false) ∧ ((s1.part h.part.val).suspendTag = none) ∧ ((s1.part h.part.val).state = .ready) ∧ True) ∧
    (∃ (s : State) (p : Fin 16), ((s.part p.val).state = .suspending) ∧ True) ∧
    (∃ (s : State) (s1 : State) (h : Header) (r : ReplyTo), (s.Serves ⟨0x0103, 1, false, false, 0, 0, 0, false⟩ h false r s1) ∧ ((s1.part h.part.val).state = .suspended) ∧ True) ∧
    (∃ (s : State) (s1 : State) (h : Header) (r : ReplyTo), (s.Serves ⟨0x0103, 1, false, false, 0, 0, 0, false⟩ h false r s1) ∧ ((s1.part h.part.val).state = .suspending) ∧ ((s1.part h.part.val).resumeLatched = false) ∧ True) ∧
    (∃ (s : State) (s1 : State) (h : Header) (r : ReplyTo), (s.Serves ⟨0x0103, 1, false, false, 0, 0, 0, false⟩ h false r s1) ∧ ((s1.part h.part.val).state = .ready) ∧ ((s1.part h.part.val).composing = none) ∧ True) ∧
    (∃ (s : State) (p : Fin 16), ((s.part p.val).state = .resuming) ∧ ((s.part p.val).readyAt = false) ∧ ((s.part p.val).saveLost = false) ∧ (s.memory.faults = []) ∧ True) :=
  ⟨⟨(t1up.acc 0x0100), (taken (t1up.acc 0x0100 : State) ⟨0x0100, 1, false, false, 40 + 4 * ({ cp with slices := 0 } : ComposeParams).nShard + 4 * (({ cp with slices := 0 } : ComposeParams).nRing - 1), ({ cp with slices := 0 } : ComposeParams).rsv, b2n (({ cp with slices := 0 } : ComposeParams).source == 0), false⟩ (hd 76 : Header) false), (hd 76), (replyOf (t1up.acc 0x0100 : State) ⟨0x0100, 1, false, false, 40 + 4 * ({ cp with slices := 0 } : ComposeParams).nShard + 4 * (({ cp with slices := 0 } : ComposeParams).nRing - 1), ({ cp with slices := 0 } : ComposeParams).rsv, b2n (({ cp with slices := 0 } : ComposeParams).source == 0), false⟩ (hd 76 : Header) false), ({ cp with slices := 0 }), (none), (served (by decide +kernel) (by decide +kernel) (by decide +kernel)), by decide +kernel, (.badField), by decide +kernel⟩,
   ⟨({ t1up.acc 0x0100 with memory := { t1up.memory with carves := [⟨9, 0, 0x1000000000⟩] } }), (taken ({ t1up.acc 0x0100 with memory := { t1up.memory with carves := [⟨9, 0, 0x1000000000⟩] } } : State) ⟨0x0100, 1, false, false, 40 + 4 * cp.nShard + 4 * (cp.nRing - 1), cp.rsv, b2n (cp.source == 0), false⟩ (hd 76 : Header) false), (hd 76), (replyOf ({ t1up.acc 0x0100 with memory := { t1up.memory with carves := [⟨9, 0, 0x1000000000⟩] } } : State) ⟨0x0100, 1, false, false, 40 + 4 * cp.nShard + 4 * (cp.nRing - 1), cp.rsv, b2n (cp.source == 0), false⟩ (hd 76 : Header) false), (cp), (none), (served (by decide +kernel) (by decide +kernel) (by decide +kernel)), by decide +kernel⟩,
   ⟨(t1up.acc 0x0100), (taken (t1up.acc 0x0100 : State) ⟨0x0100, 1, false, false, 40 + 4 * cp.nShard + 4 * (cp.nRing - 1), cp.rsv, b2n (cp.source == 0), false⟩ (hd 76 : Header) false), (hd 76), (replyOf (t1up.acc 0x0100 : State) ⟨0x0100, 1, false, false, 40 + 4 * cp.nShard + 4 * (cp.nRing - 1), cp.rsv, b2n (cp.source == 0), false⟩ (hd 76 : Header) false), (cp), (none), (served (by decide +kernel) (by decide +kernel) (by decide +kernel)), by decide +kernel⟩,
   ⟨(one.acc 0x0100), (taken (one.acc 0x0100 : State) ⟨0x0100, 1, false, false, 40 + 4 * cp.nShard + 4 * (cp.nRing - 1), cp.rsv, b2n (cp.source == 0), false⟩ (hd 76 : Header) false), (hd 76), (replyOf (one.acc 0x0100 : State) ⟨0x0100, 1, false, false, 40 + 4 * cp.nShard + 4 * (cp.nRing - 1), cp.rsv, b2n (cp.source == 0), false⟩ (hd 76 : Header) false), (cp), (none), (served (by decide +kernel) (by decide +kernel) (by decide +kernel)), by decide +kernel⟩,
   ⟨({ one with pln := { one.pln with parts := { Part.reset with held := some cmp0 } :: drn :: List.replicate 14 Part.reset } }), (0), (cmp0), by decide +kernel⟩,
   ⟨(withPart up { Part.reset with held := some cmp0 }), (0), (cmp0), by decide +kernel, ((withPart up { Part.reset with held := some cmp0 } : State).modPart 0 fun q => { q with held := none }), by decide +kernel, by decide +kernel, (.noResource), by decide +kernel⟩,
   ⟨(withPart t1up { Part.reset with held := some cmp0 }), (0), (cmp0), by decide +kernel, ((withPart t1up { Part.reset with held := some cmp0 } : State).modPart 0 fun q => { q with held := none }), by decide +kernel⟩,
   ⟨(composing cmp0 none), (0), (cmp0), by decide +kernel⟩,
   ⟨(composing cmpM none), (0), (cmpM), (some ⟨[], imgBytes 8, 128, [], 0, 0⟩), by decide +kernel, by decide +kernel, by decide +kernel, (⟨[], imgBytes 8, 128, [], 0, 0⟩), (.badField), by decide +kernel⟩,
   ⟨(composing cmpM none), (0), (cmpM), (some (factOf 7)), by decide +kernel, by decide +kernel, by decide +kernel, (factOf 7), ((composing cmpM none : State)), by decide +kernel, by decide +kernel, by decide +kernel, ((by rw [dec7]; decide +kernel)), ((by rw [dec7]; decide +kernel)), trivial⟩,
   ⟨(composing { cmpM with zeroed := true } (some imC)), (0), ({ cmpM with zeroed := true }), (imC), by decide +kernel⟩,
   ⟨(composing cmpM none), (0), (cmpM), by decide +kernel⟩,
   ⟨((inState .free).acc 0x0101), (taken ((inState .free).acc 0x0101 : State) ⟨0x0101, 1, false, false, 0, 0, 0, false⟩ (hd 32 : Header) false), (hd 32), (replyOf ((inState .free).acc 0x0101 : State) ⟨0x0101, 1, false, false, 0, 0, 0, false⟩ (hd 32 : Header) false), (served (by decide +kernel) (by decide +kernel) (by decide +kernel)), by decide +kernel⟩,
   ⟨((own sat0).acc 0x0101), (taken ((own sat0).acc 0x0101 : State) ⟨0x0101, 1, false, false, 0, 0, 0, false⟩ (hd 32 : Header) false), (hd 32), (replyOf ((own sat0).acc 0x0101 : State) ⟨0x0101, 1, false, false, 0, 0, 0, false⟩ (hd 32 : Header) false), (served (by decide +kernel) (by decide +kernel) (by decide +kernel)), by decide +kernel⟩,
   ⟨((inState .ready).acc 0x0101), (taken ((inState .ready).acc 0x0101 : State) ⟨0x0101, 1, false, false, 0, 0, 0, false⟩ (hd 32 : Header) false), (hd 32), (replyOf ((inState .ready).acc 0x0101 : State) ⟨0x0101, 1, false, false, 0, 0, 0, false⟩ (hd 32 : Header) false), (served (by decide +kernel) (by decide +kernel) (by decide +kernel)), by decide +kernel⟩,
   ⟨(withPart t1up drn), (0), by decide +kernel⟩,
   ⟨((inState .suspended).acc 0x0102), (taken ((inState .suspended).acc 0x0102 : State) ⟨0x0102, 1, false, false, 0, 0, 0, false⟩ (hd 32 : Header) false), (hd 32), (replyOf ((inState .suspended).acc 0x0102 : State) ⟨0x0102, 1, false, false, 0, 0, 0, false⟩ (hd 32 : Header) false), (served (by decide +kernel) (by decide +kernel) (by decide +kernel)), by decide +kernel⟩,
   ⟨((inState .ready).acc 0x0102), (taken ((inState .ready).acc 0x0102 : State) ⟨0x0102, 1, false, false, 0, 0, 0, false⟩ (hd 32 : Header) false), (hd 32), (replyOf ((inState .ready).acc 0x0102 : State) ⟨0x0102, 1, false, false, 0, 0, 0, false⟩ (hd 32 : Header) false), (served (by decide +kernel) (by decide +kernel) (by decide +kernel)), by decide +kernel⟩,
   ⟨(inState .suspending), (0), by decide +kernel⟩,
   ⟨((inState .suspended).acc 0x0103), (taken ((inState .suspended).acc 0x0103 : State) ⟨0x0103, 1, false, false, 0, 0, 0, false⟩ (hd 32 : Header) false), (hd 32), (replyOf ((inState .suspended).acc 0x0103 : State) ⟨0x0103, 1, false, false, 0, 0, 0, false⟩ (hd 32 : Header) false), (served (by decide +kernel) (by decide +kernel) (by decide +kernel)), by decide +kernel⟩,
   ⟨((inState .suspending).acc 0x0103), (taken ((inState .suspending).acc 0x0103 : State) ⟨0x0103, 1, false, false, 0, 0, 0, false⟩ (hd 32 : Header) false), (hd 32), (replyOf ((inState .suspending).acc 0x0103 : State) ⟨0x0103, 1, false, false, 0, 0, 0, false⟩ (hd 32 : Header) false), (served (by decide +kernel) (by decide +kernel) (by decide +kernel)), by decide +kernel⟩,
   ⟨((inState .ready).acc 0x0103), (taken ((inState .ready).acc 0x0103 : State) ⟨0x0103, 1, false, false, 0, 0, 0, false⟩ (hd 32 : Header) false), (hd 32), (replyOf ((inState .ready).acc 0x0103 : State) ⟨0x0103, 1, false, false, 0, 0, 0, false⟩ (hd 32 : Header) false), (served (by decide +kernel) (by decide +kernel) (by decide +kernel)), by decide +kernel⟩,
   ⟨(inState .resuming), (0), by decide +kernel⟩⟩

theorem meets_InstancesAdaptersTenants :
    (∃ (s : State) (s1 : State) (h : Header) (r : ReplyTo) (dev : DeviceId) (rsv : Nat), (s.Serves ⟨0x0104, 2, true, false, 8, rsv, 0, false⟩ h false r s1) ∧ (s1.partRefusal h.part.val = none) ∧ ((s1.part h.part.val).instance_ = none) ∧ (dev.toNat < 2 ^ 14) ∧ ((s1.part h.part.val).shard ≠ 0) ∧ True) ∧
    (∃ (s : State) (s1 : State) (h : Header) (r : ReplyTo) (k : Nat) (dev : DeviceId) (rsv : Nat), (s.Serves ⟨0x0104, 2, true, false, 8, rsv, 0, false⟩ h false r s1) ∧ (s1.partRefusal h.part.val = none) ∧ ((s1.part h.part.val).instance_ = none) ∧ (dev.toNat < 2 ^ 14) ∧ ((s1.part h.part.val).shard = 0) ∧ (k ∈ (s1.part h.part.val).deadShards) ∧ True) ∧
    (∃ (s : State) (p : Fin 16) (k : Nat) (d : DevPart) (r : ReplyTo), ((s.part p.val).instance_ = some (k, d, r)) ∧ True) ∧
    (∃ (s : State) (p : Fin 16) (addr : Nat) (n : Nat), ((s.part p.val).poisonWeights.find? (fun e => e.1 == addr) = some (addr, n)) ∧ (s.strokeNow < n + 3) ∧ True) ∧
    (∃ (s : State) (p : Fin 16) (addr : Nat) (n : Nat), ((s.part p.val).poisonWeights.find? (fun e => e.1 == addr) = some (addr, n)) ∧ (n + 3 ≤ s.strokeNow) ∧ True) ∧
    (∃ (s : State) (s1 : State) (h : Header) (r : ReplyTo) (adapter : BitVec 16) (rank : Nat) (srcAddr : BitVec 64) (rsv : Nat), (s.Serves ⟨0x0200, 2, true, false, 24, rsv, b2n (0 == 0 && srcAddr != 0), false⟩ h false r s1) ∧ (s1.partRefusal h.part.val = none) ∧ ((s1.part h.part.val).currentAdapter adapter = none) ∧ (4095 < adapter.toNat ∨ rank = 0 ∨ 256 < rank) ∧ True) ∧
    (∃ (s : State) (s1 : State) (h : Header) (r : ReplyTo) (adapter : BitVec 16) (rank : Nat) (srcAddr : BitVec 64) (rsv : Nat), (s.Serves ⟨0x0200, 2, true, false, 24, rsv, b2n (0 == 0 && srcAddr != 0), false⟩ h false r s1) ∧ (s1.partRefusal h.part.val = none) ∧ ((s1.part h.part.val).currentAdapter adapter = none) ∧ (adapter.toNat ≤ 4095) ∧ (1 ≤ rank) ∧ (rank ≤ 256) ∧ ((s1.part h.part.val).adapters = []) ∧ ((s1.part h.part.val).loading = []) ∧ True) ∧
    (∃ (s : State) (p : Fin 16) (a : AdapterLoad), ((s.part p.val).loading.find? (fun b => b.id == a.id && b.version == a.version) = some a) ∧ True) ∧
    (∃ (s : State) (s1 : State) (h : Header) (r : ReplyTo) (adapter : BitVec 16) (rsv : Nat), (s.Serves ⟨0x0201, 1, true, false, 4, rsv, 0, false⟩ h false r s1) ∧ (s1.partRefusal h.part.val = none) ∧ (adapter.toNat ≤ 4095) ∧ ((s1.part h.part.val).currentAdapter adapter = none) ∧ True) ∧
    (∃ (s : State) (s1 : State) (h : Header) (r : ReplyTo) (adapter : BitVec 16) (rsv : Nat), (s.Serves ⟨0x0201, 1, true, false, 4, rsv, 0, false⟩ h false r s1) ∧ (s1.partRefusal h.part.val = none) ∧ (adapter.toNat ≤ 4095) ∧ ∃ (a : AdapterVer), ((s1.part h.part.val).currentAdapter adapter = some a) ∧ True) ∧
    (∃ (s : State) (s1 : State) (h : Header) (r : ReplyTo) (tenant : BitVec 16) (burst : Nat) (floor : Nat) (rsv : Nat), (s.Serves ⟨0x0400, 1, false, false, 16, rsv, 0, false⟩ h false r s1) ∧ (burst = 0 ∨ burst < floor ∨ tenant = 0xFFFF) ∧ True) ∧
    (∃ (s : State) (s1 : State) (h : Header) (r : ReplyTo) (tenant : BitVec 16) (rate : Nat) (burst : Nat) (floor : Nat) (rsv : Nat), (s.Serves ⟨0x0400, 1, false, false, 16, rsv, 0, false⟩ h false r s1) ∧ (1 ≤ burst) ∧ (burst ≤ 0x7FFFFFFF) ∧ (floor ≤ burst) ∧ (rate ≤ 0xFFFFFFFF) ∧ (tenant ≠ 0xFFFF) ∧ (s1.tenantsFull tenant = false) ∧ True) ∧
    (∃ (s : State) (s1 : State) (h : Header) (r : ReplyTo) (rsv : Nat), (s.Serves ⟨0x0404, 1, false, false, 6, rsv, 0, false⟩ h false r s1) ∧ (s1.cmd.grants = []) ∧ True) ∧
    (∃ (s : State) (s1 : State) (h : Header) (r : ReplyTo) (tenant : BitVec 16) (rsv : Nat), (s.Serves ⟨0x0405, 1, false, false, 4, rsv, 0, false⟩ h false r s1) ∧ ((∀ e ∈ s1.sat.sats, e.2.tenant ≠ tenant)) ∧ ((afind s1.pln.tenants tenant.toNat).isSome = true ∨ (afind s1.sec.keys tenant.toNat).isSome = true) ∧ True) :=
  ⟨⟨({ inState .ready with pln := parts0 { part0 with shard := 1, shardList := [⟨0, 0⟩, ⟨0, 0⟩] } }.acc 0x0104), (taken ({ inState .ready with pln := parts0 { part0 with shard := 1, shardList := [⟨0, 0⟩, ⟨0, 0⟩] } }.acc 0x0104 : State) ⟨0x0104, 2, true, false, 8, (0 : Nat), 0, false⟩ (hd 40 : Header) false), (hd 40), (replyOf ({ inState .ready with pln := parts0 { part0 with shard := 1, shardList := [⟨0, 0⟩, ⟨0, 0⟩] } }.acc 0x0104 : State) ⟨0x0104, 2, true, false, 8, (0 : Nat), 0, false⟩ (hd 40 : Header) false), (0x3FFF), (0), (served (by decide +kernel) (by decide +kernel) (by decide +kernel)), by decide +kernel⟩,
   ⟨({ inState .ready with pln := parts0 { part0 with shardList := [⟨0, 0⟩, ⟨3, 0⟩], deadShards := [1], degraded := true } }.acc 0x0104), (taken ({ inState .ready with pln := parts0 { part0 with shardList := [⟨0, 0⟩, ⟨3, 0⟩], deadShards := [1], degraded := true } }.acc 0x0104 : State) ⟨0x0104, 2, true, false, 8, (0 : Nat), 0, false⟩ (hd 40 : Header) false), (hd 40), (replyOf ({ inState .ready with pln := parts0 { part0 with shardList := [⟨0, 0⟩, ⟨3, 0⟩], deadShards := [1], degraded := true } }.acc 0x0104 : State) ⟨0x0104, 2, true, false, 8, (0 : Nat), 0, false⟩ (hd 40 : Header) false), (1), (0x3FFF), (0), (served (by decide +kernel) (by decide +kernel) (by decide +kernel)), by decide +kernel⟩,
   ⟨({ inState .ready with pln := parts0 { part0 with shardList := [⟨0, 0⟩, ⟨3, 0⟩], deadShards := [1], degraded := true, instance_ := some (1, ⟨0x3FFF, 15⟩, rep0) } }), (0), (1), (⟨0x3FFF, 15⟩), (rep0), by decide +kernel⟩,
   ⟨({ inState .ready with pln := parts0 { part0 with poisonWeights := [(64, 5)] }, stk := { Stk.reset with running := true, stroke := 7 } }), (0), (64), (5), by decide +kernel⟩,
   ⟨({ inState .ready with pln := parts0 { part0 with poisonWeights := [(64, 5)] }, stk := { Stk.reset with running := true, stroke := 8 } }), (0), (64), (5), by decide +kernel⟩,
   ⟨((inState .ready).acc 0x0200), (taken ((inState .ready).acc 0x0200 : State) ⟨0x0200, 2, true, false, 24, (0 : Nat), b2n (0 == 0 && (0 : BitVec 64) != 0), false⟩ (hd 56 : Header) false), (hd 56), (replyOf ((inState .ready).acc 0x0200 : State) ⟨0x0200, 2, true, false, 24, (0 : Nat), b2n (0 == 0 && (0 : BitVec 64) != 0), false⟩ (hd 56 : Header) false), (4096), (256), (0), (0), (served (by decide +kernel) (by decide +kernel) (by decide +kernel)), by decide +kernel⟩,
   ⟨((inState .ready).acc 0x0200), (taken ((inState .ready).acc 0x0200 : State) ⟨0x0200, 2, true, false, 24, (0 : Nat), b2n (0 == 0 && (0 : BitVec 64) != 0), false⟩ (hd 56 : Header) false), (hd 56), (replyOf ((inState .ready).acc 0x0200 : State) ⟨0x0200, 2, true, false, 24, (0 : Nat), b2n (0 == 0 && (0 : BitVec 64) != 0), false⟩ (hd 56 : Header) false), (4095), (256), (0), (0), (served (by decide +kernel) (by decide +kernel) (by decide +kernel)), by decide +kernel⟩,
   ⟨({ inState .ready with pln := parts0 { part0 with adapters := [ver0], loading := [load0] } }), (0), (load0), by decide +kernel⟩,
   ⟨((inState .ready).acc 0x0201), (taken ((inState .ready).acc 0x0201 : State) ⟨0x0201, 1, true, false, 4, (0 : Nat), 0, false⟩ (hd 36 : Header) false), (hd 36), (replyOf ((inState .ready).acc 0x0201 : State) ⟨0x0201, 1, true, false, 4, (0 : Nat), 0, false⟩ (hd 36 : Header) false), (4095), (0), (served (by decide +kernel) (by decide +kernel) (by decide +kernel)), by decide +kernel⟩,
   ⟨({ inState .ready with pln := parts0 { part0 with adapters := [ver0] } }.acc 0x0201), (taken ({ inState .ready with pln := parts0 { part0 with adapters := [ver0] } }.acc 0x0201 : State) ⟨0x0201, 1, true, false, 4, (0 : Nat), 0, false⟩ (hd 36 : Header) false), (hd 36), (replyOf ({ inState .ready with pln := parts0 { part0 with adapters := [ver0] } }.acc 0x0201 : State) ⟨0x0201, 1, true, false, 4, (0 : Nat), 0, false⟩ (hd 36 : Header) false), (4095), (0), (served (by decide +kernel) (by decide +kernel) (by decide +kernel)), by decide +kernel, by decide +kernel, (ver0), by decide +kernel⟩,
   ⟨(up.acc 0x0400), (taken (up.acc 0x0400 : State) ⟨0x0400, 1, false, false, 16, (0 : Nat), 0, false⟩ (hd 48 : Header) false), (hd 48), (replyOf (up.acc 0x0400 : State) ⟨0x0400, 1, false, false, 16, (0 : Nat), 0, false⟩ (hd 48 : Header) false), (1), (0), (0), (0), (served (by decide +kernel) (by decide +kernel) (by decide +kernel)), by decide +kernel⟩,
   ⟨(up.acc 0x0400), (taken (up.acc 0x0400 : State) ⟨0x0400, 1, false, false, 16, (0 : Nat), 0, false⟩ (hd 48 : Header) false), (hd 48), (replyOf (up.acc 0x0400 : State) ⟨0x0400, 1, false, false, 16, (0 : Nat), 0, false⟩ (hd 48 : Header) false), (0xFFFE), (0xFFFFFFFF), (0x7FFFFFFF), (0x7FFFFFFF), (0), (served (by decide +kernel) (by decide +kernel) (by decide +kernel)), by decide +kernel⟩,
   ⟨(up.acc 0x0404), (taken (up.acc 0x0404 : State) ⟨0x0404, 1, false, false, 6, (0 : Nat), 0, false⟩ (hd 40 : Header) false), (hd 40), (replyOf (up.acc 0x0404 : State) ⟨0x0404, 1, false, false, 6, (0 : Nat), 0, false⟩ (hd 40 : Header) false), (0), (served (by decide +kernel) (by decide +kernel) (by decide +kernel)), by decide +kernel⟩,
   ⟨({ up with pln := { Pln.reset with ready := true, tenants := [(3, TenantRec.new)] } }.acc 0x0405), (taken ({ up with pln := { Pln.reset with ready := true, tenants := [(3, TenantRec.new)] } }.acc 0x0405 : State) ⟨0x0405, 1, false, false, 4, (0 : Nat), 0, false⟩ (hd 36 : Header) false), (hd 36), (replyOf ({ up with pln := { Pln.reset with ready := true, tenants := [(3, TenantRec.new)] } }.acc 0x0405 : State) ⟨0x0405, 1, false, false, 4, (0 : Nat), 0, false⟩ (hd 36 : Header) false), (3), (0), (served (by decide +kernel) (by decide +kernel) (by decide +kernel)), by decide +kernel⟩⟩

theorem meets_T1TrainingAndHealth :
    (∃ (s : State) (d : Fin 4), (s.memory.training = true) ∧ (s.board.gddr = List.replicate 32 { present := true, density := d }) ∧ True) ∧
    (∃ (s : State) (d : Fin 32) (g : GddrDev), (s.memory.devs[d.val]? = some g) ∧ (g.inService = true) ∧ (g.trackFails = 3) ∧ True) ∧
    (∃ (s : State) (d : Fin 32) (g : GddrDev), (s.memory.devs[d.val]? = some g) ∧ (g.inService = true) ∧ (g.trackFails = 3) ∧ True) ∧
    (∃ (s : State) (d : Fin 32) (g : GddrDev) (c : Nat), (s.memory.devs[d.val]? = some g) ∧ (g.present = true) ∧ (c < 105) ∧ True) ∧
    (∃ (s : State) (pa : Nat), (s.flag Reg.memCtrl 1 = true) ∧ (s.memory.target pa = .t1) ∧ True) ∧
    (∃ (s : State) (pa : Nat), (s.flag Reg.memCtrl 1 = true) ∧ (s.memory.target pa = .t1) ∧ True) ∧
    (∃ (s : State), (s.flag Reg.memCtrl 1 = false) ∧ True) :=
  ⟨⟨({ up with memory := { MemSt.reset with training := true }, board := { up.board with gddr := List.replicate 32 ⟨true, 3⟩ } }), (3), by decide +kernel⟩,
   ⟨(devs { g0 with trackFails := 3 }), (0), ({ g0 with trackFails := 3 }), by decide +kernel⟩,
   ⟨(oneSat sat0 { t1up with memory := { t1up.memory with devs := List.replicate 31 GddrDev.reset ++ [{ g0 with trackFails := 3 }] } }), (31), ({ g0 with trackFails := 3 }), by decide +kernel⟩,
   ⟨(devs { g0 with hot := true, throttled := true }), (0), ({ g0 with hot := true, throttled := true }), (92), by decide +kernel⟩,
   ⟨(oneSat { sat0 with place := { sat0.place with obj := 240 * 2 ^ 30 - 4096 } } (t1up.setReg Reg.memCtrl 2)), (240 * 2 ^ 30 - 64), by decide +kernel⟩,
   ⟨(t1up.setReg Reg.memCtrl 6), (0), by decide +kernel⟩,
   ⟨(t1up.setReg Reg.memCtrl 1), by decide +kernel⟩⟩

theorem meets_TlbInvalidate :
    (∃ (s : State) (s1 : State) (h : Header) (r : ReplyTo) (rsv : Nat), (s.Serves ⟨0x0004, 1, true, false, 24, rsv, 0, true⟩ h false r s1) ∧ True) ∧
    (∃ (s : State) (s1 : State) (h : Header) (r : ReplyTo) (rsv : Nat), (s.Serves ⟨0x0004, 1, true, false, 24, rsv, 0, true⟩ h false r s1) ∧ (h.origin.partition = none) ∧ True) ∧
    (∃ (s : State) (s1 : State) (h : Header) (r : ReplyTo) (scope : Nat) (rsv : Nat), (s.Serves ⟨0x0004, 1, true, false, 24, rsv, 0, true⟩ h false r s1) ∧ (h.origin.partition ≠ none) ∧ (scope ≠ 0) ∧ True) :=
  ⟨⟨(tlbs.acc 0x0004), (taken (tlbs.acc 0x0004 : State) ⟨0x0004, 1, true, false, 24, (0 : Nat), 0, true⟩ (hd 56 : Header) false), (hd 56), (replyOf (tlbs.acc 0x0004 : State) ⟨0x0004, 1, true, false, 24, (0 : Nat), 0, true⟩ (hd 56 : Header) false), (0), (served (by decide +kernel) (by decide +kernel) (by decide +kernel)), trivial⟩,
   ⟨(tlbs.acc 0x0004), (taken (tlbs.acc 0x0004 : State) ⟨0x0004, 1, true, false, 24, (0 : Nat), 0, true⟩ (hd 56 : Header) false), (hd 56), (replyOf (tlbs.acc 0x0004 : State) ⟨0x0004, 1, true, false, 24, (0 : Nat), 0, true⟩ (hd 56 : Header) false), (0), (served (by decide +kernel) (by decide +kernel) (by decide +kernel)), by decide +kernel⟩,
   ⟨({ tlbs with cmd := { tlbs.cmd with accepted := [⟨vf0.origin, 0x0004, 7⟩], grants := [(grantKey 0 0, ())] } }), (taken ({ tlbs with cmd := { tlbs.cmd with accepted := [⟨vf0.origin, 0x0004, 7⟩], grants := [(grantKey 0 0, ())] } } : State) ⟨0x0004, 1, true, false, 24, (0 : Nat), 0, true⟩ ({ vf0 with part := 0 } : Header) false), ({ vf0 with part := 0 }), (replyOf ({ tlbs with cmd := { tlbs.cmd with accepted := [⟨vf0.origin, 0x0004, 7⟩], grants := [(grantKey 0 0, ())] } } : State) ⟨0x0004, 1, true, false, 24, (0 : Nat), 0, true⟩ ({ vf0 with part := 0 } : Header) false), (2), (0), (served (by decide +kernel) (by decide +kernel) (by decide +kernel)), by decide +kernel⟩⟩

theorem meets_RegionMoves :
    (∃ (s : State) (s1 : State) (h : Header) (r : ReplyTo) (ipa : Nat) (length : Nat) (dest : Nat) (l : Leaf), (s.Serves ⟨0x0502, 2, false, false, 24, 0, 0, false⟩ h false r s1) ∧ (s1.leaf2 ipa = .ok l) ∧ (0 < length) ∧ (length ≤ 2 ^ 36) ∧ (ipa % l.size = 0) ∧ (length % l.size = 0) ∧ (dest % l.size = 0) ∧ (s1.mappedBy l.size (length / l.size) ipa = true) ∧ (s1.moveDest dest length = true) ∧ True) ∧
    (∃ (s : State) (ipa : Nat) (v : RegionMove), (s.memory.moves.find? (fun v => v.ipa == ipa) = some v) ∧ (v.length ≤ (v.done + 1) * v.page) ∧ True) ∧
    (∃ (s : State) (ipa : Nat) (v : RegionMove), (s.memory.moves.find? (fun v => v.ipa == ipa) = some v) ∧ ((v.done + 1) * v.page < v.length) ∧ True) ∧
    (∃ (s : State) (ipa : Nat) (v : RegionMove), (s.memory.moves.find? (fun v => v.ipa == ipa) = some v) ∧ True) :=
  ⟨⟨(mapped.acc 0x0502), (taken (mapped.acc 0x0502 : State) ⟨0x0502, 2, false, false, 24, 0, 0, false⟩ (hd 56 : Header) false), (hd 56), (replyOf (mapped.acc 0x0502 : State) ⟨0x0502, 2, false, false, 24, 0, 0, false⟩ (hd 56 : Header) false), (0), (65536), (0x1000010000), (⟨0x40000, 65536, 0x100000000D⟩), (served (by decide +kernel) (by decide +kernel) (by decide +kernel)), (okIs (by decide +kernel)), by decide +kernel⟩,
   ⟨(moving mv0), (0), (mv0), by decide +kernel⟩,
   ⟨(moving { mv0 with length := 131072 }), (0), ({ mv0 with length := 131072 }), by decide +kernel⟩,
   ⟨(moving mv0), (0), (mv0), by decide +kernel⟩⟩

theorem meets_OpenFaults :
    (∃ (s : State) (s1 : State) (h : Header) (r : ReplyTo) (id : BitVec 16) (a : Nat) (rsv : Nat), (s.Serves ⟨0x0800, 1, true, false, 4, rsv, 0, false⟩ h false r s1) ∧ (a ≤ 1) ∧ (afind s.memory.faults id.toNat = none) ∧ True) ∧
    (∃ (s : State) (s1 : State) (h : Header) (r : ReplyTo) (id : BitVec 16) (rsv : Nat) (f : OpenFault) (core : Nat) (th : Nat), (s.Serves ⟨0x0800, 1, true, false, 4, rsv, 0, false⟩ h false r s1) ∧ (h.origin.partition = none) ∧ (afind s.memory.faults id.toNat = some f) ∧ (f.unit = .thread core th) ∧ ((s.part f.part.val).state = .ready) ∧ ((s1.thread (threadKey core th)).state = .waitAccess) ∧ True) ∧
    (∃ (s : State) (s1 : State) (h : Header) (r : ReplyTo) (id : BitVec 16) (a : Nat) (rsv : Nat) (f : OpenFault), (s.Serves ⟨0x0800, 1, true, false, 4, rsv, 0, false⟩ h false r s1) ∧ (a ≤ 1) ∧ (h.origin.partition = none) ∧ (afind s.memory.faults id.toNat = some f) ∧ ((s.part f.part.val).state = .suspended) ∧ True) ∧
    (∃ (s : State) (id : BitVec 16) (f : OpenFault), (afind s.memory.faults id.toNat = some f) ∧ (s.held f.part.val = true ∨ s.stk.time < f.posted + s.strokes (max 1 (s.fld Reg.memFaultCfg 7 0))) ∧ True) ∧
    (∃ (s : State) (id : BitVec 16) (f : OpenFault), (afind s.memory.faults id.toNat = some f) ∧ (s.held f.part.val = false) ∧ (f.posted + s.strokes (max 1 (s.fld Reg.memFaultCfg 7 0)) ≤ s.stk.time) ∧ True) :=
  ⟨⟨((openF .ready 4).acc 0x0800), (taken ((openF .ready 4).acc 0x0800 : State) ⟨0x0800, 1, true, false, 4, (0 : Nat), 0, false⟩ (hd 36 : Header) false), (hd 36), (replyOf ((openF .ready 4).acc 0x0800 : State) ⟨0x0800, 1, true, false, 4, (0 : Nat), 0, false⟩ (hd 36 : Header) false), (0), (1), (0), (served (by decide +kernel) (by decide +kernel) (by decide +kernel)), by decide +kernel⟩,
   ⟨((openF .ready 4).acc 0x0800), (taken ((openF .ready 4).acc 0x0800 : State) ⟨0x0800, 1, true, false, 4, (0 : Nat), 0, false⟩ (hd 36 : Header) false), (hd 36), (replyOf ((openF .ready 4).acc 0x0800 : State) ⟨0x0800, 1, true, false, 4, (0 : Nat), 0, false⟩ (hd 36 : Header) false), (0xFFFF), (0), (fo0), (0), (1), (served (by decide +kernel) (by decide +kernel) (by decide +kernel)), by decide +kernel⟩,
   ⟨((openF .suspended 4).acc 0x0800), (taken ((openF .suspended 4).acc 0x0800 : State) ⟨0x0800, 1, true, false, 4, (0 : Nat), 0, false⟩ (hd 36 : Header) false), (hd 36), (replyOf ((openF .suspended 4).acc 0x0800 : State) ⟨0x0800, 1, true, false, 4, (0 : Nat), 0, false⟩ (hd 36 : Header) false), (0xFFFF), (1), (0), (fo0), (served (by decide +kernel) (by decide +kernel) (by decide +kernel)), by decide +kernel⟩,
   ⟨((openF .ready 4).setReg Reg.memFaultCfg 1), (0xFFFF), (fo0), by decide +kernel⟩,
   ⟨({ (openF .ready 5).setReg Reg.memFaultCfg 1 with stk := { Stk.reset with running := true, stroke := 5, time := (openF .ready 5).strokes 1 + 4 } }), (0xFFFF), (fo0), by decide +kernel⟩⟩

theorem meets_FlashFormat :
    (∃ (s : State) (s1 : State) (h : Header) (r : ReplyTo) (op : Nat) (rsv : Nat), (s.Serves (flsReq 0x0700 2 4 rsv 0 false) h false r s1) ∧ (s.flsRefusal = none) ∧ (7 ≤ op) ∧ (op ≤ 50) ∧ (s.flag Reg.flsCtrl 2 = true) ∧ (s.fls.extents = []) ∧ (s.fls.hold = false) ∧ True) ∧
    (∃ (s : State) (s1 : State) (h : Header) (r : ReplyTo) (op : Nat) (rsv : Nat), (s.Serves (flsReq 0x0700 2 4 rsv 0 false) h false r s1) ∧ (s.flsRefusal = none) ∧ (7 ≤ op) ∧ (op ≤ 50) ∧ (s.flag Reg.flsCtrl 2 = true) ∧ (s.fls.extents = []) ∧ (s.fls.hold = true) ∧ True) ∧
    (∃ (s : State), (s.fls.recovering = true) ∧ (s.fls.ring = []) ∧ True) :=
  ⟨⟨((fl { fls0 with blocks := [(0, blk .closed), (256, blk .retired)], map := [(10, 0)] }).acc 0x0700), (taken ((fl { fls0 with blocks := [(0, blk .closed), (256, blk .retired)], map := [(10, 0)] }).acc 0x0700 : State) (flsReq 0x0700 2 4 (0 : Nat) 0 false) (hd 36 : Header) false), (hd 36), (replyOf ((fl { fls0 with blocks := [(0, blk .closed), (256, blk .retired)], map := [(10, 0)] }).acc 0x0700 : State) (flsReq 0x0700 2 4 (0 : Nat) 0 false) (hd 36 : Header) false), (50), (0), (served (by decide +kernel) (by decide +kernel) (by decide +kernel)), by decide +kernel⟩,
   ⟨((fl { fls0 with hold := true }).acc 0x0700), (taken ((fl { fls0 with hold := true }).acc 0x0700 : State) (flsReq 0x0700 2 4 (0 : Nat) 0 false) (hd 36 : Header) false), (hd 36), (replyOf ((fl { fls0 with hold := true }).acc 0x0700 : State) (flsReq 0x0700 2 4 (0 : Nat) 0 false) (hd 36 : Header) false), (7), (0), (served (by decide +kernel) (by decide +kernel) (by decide +kernel)), by decide +kernel⟩,
   ⟨(fl { fls0 with ready := false, recovering := true, extents := [(5, ext0), (992, { ext0 with persistent := false, ranges := [(20, 1)] })], blocks := [(0, blk .opened)] }), by decide +kernel⟩⟩

theorem meets_FlashExtents :
    (∃ (s : State) (s1 : State) (h : Header) (r : ReplyTo) (ext : Nat) (units : Nat) (b : Nat), (s.Serves (flsReq 0x0701 1 8 0 0 false) h false r s1) ∧ (s.flsRefusal = none) ∧ (ext ≤ 991) ∧ (afind s.fls.extents ext = none) ∧ (units ≤ s.fls.freeUnits) ∧ (s.fls.place units = some b) ∧ True) ∧
    (∃ (s : State) (s1 : State) (h : Header) (r : ReplyTo) (ext : Nat), (s.Serves (flsReq 0x0701 1 8 0 0 false) h false r s1) ∧ (s.flsRefusal = none) ∧ ((afind s.fls.extents ext).isSome = true) ∧ True) ∧
    (∃ (s : State) (s1 : State) (h : Header) (r : ReplyTo) (ext : Nat) (rsv : Nat) (e : Extent), (s.Serves (flsReq 0x0702 2 4 rsv 0 false) h false r s1) ∧ (s.flsRefusal = none) ∧ (ext ≤ 991) ∧ (afind s.fls.extents ext = some e) ∧ (e.deleting = none) ∧ (s.fls.reqs = []) ∧ (s.fls.tail = []) ∧ True) ∧
    (∃ (s : State) (s1 : State) (h : Header) (r : ReplyTo) (ext : Nat) (offset : Nat) (count : Nat) (rsv : Nat) (e : Extent), (s.Serves (flsReq 0x0705 1 12 rsv 0 true) h false r s1) ∧ (s.flsRefusal = none) ∧ (s.flsExtent h ext offset count false = .ok e) ∧ (s.flag Reg.flsCtrl 1 = false) ∧ True) ∧
    (∃ (s : State) (s1 : State) (h : Header) (r : ReplyTo) (ext : Nat) (offset : Nat) (rsv : Nat) (lua : Nat) (e : Extent), (s.Serves (flsReq 0x0705 1 12 rsv 0 true) h false r s1) ∧ (s.flsRefusal = none) ∧ (s.flsExtent h ext offset 1 false = .ok e) ∧ (s.flag Reg.flsCtrl 1 = true) ∧ (s.fls.tail.length * 32 < 131072) ∧ (luaOf e.ranges offset = some lua) ∧ True) :=
  ⟨⟨((fl fls0).acc 0x0701), (taken ((fl fls0).acc 0x0701 : State) (flsReq 0x0701 1 8 0 0 false) (hd 40 : Header) false), (hd 40), (replyOf ((fl fls0).acc 0x0701 : State) (flsReq 0x0701 1 8 0 0 false) (hd 40 : Header) false), (991), (400000), (0), (served (by decide +kernel) (by decide +kernel) (by decide +kernel)), by decide +kernel⟩,
   ⟨((fl withExt).acc 0x0701), (taken ((fl withExt).acc 0x0701 : State) (flsReq 0x0701 1 8 0 0 false) (hd 40 : Header) false), (hd 40), (replyOf ((fl withExt).acc 0x0701 : State) (flsReq 0x0701 1 8 0 0 false) (hd 40 : Header) false), (991), (served (by decide +kernel) (by decide +kernel) (by decide +kernel)), by decide +kernel⟩,
   ⟨((fl withExt).acc 0x0702), (taken ((fl withExt).acc 0x0702 : State) (flsReq 0x0702 2 4 (0 : Nat) 0 false) (hd 36 : Header) false), (hd 36), (replyOf ((fl withExt).acc 0x0702 : State) (flsReq 0x0702 2 4 (0 : Nat) 0 false) (hd 36 : Header) false), (991), (0), (ext0), (served (by decide +kernel) (by decide +kernel) (by decide +kernel)), by decide +kernel⟩,
   ⟨(((fl withExt).setReg Reg.flsCtrl 1).acc 0x0705), (taken (((fl withExt).setReg Reg.flsCtrl 1).acc 0x0705 : State) (flsReq 0x0705 1 12 (0 : Nat) 0 true) (hd 44 : Header) false), (hd 44), (replyOf (((fl withExt).setReg Reg.flsCtrl 1).acc 0x0705 : State) (flsReq 0x0705 1 12 (0 : Nat) 0 true) (hd 44 : Header) false), (991), (3), (1), (0), (ext0), (served (by decide +kernel) (by decide +kernel) (by decide +kernel)), by decide +kernel, (okIs (by decide +kernel)), by decide +kernel⟩,
   ⟨((fl withExt).acc 0x0705), (taken ((fl withExt).acc 0x0705 : State) (flsReq 0x0705 1 12 (0 : Nat) 0 true) (hd 44 : Header) false), (hd 44), (replyOf ((fl withExt).acc 0x0705 : State) (flsReq 0x0705 1 12 (0 : Nat) 0 true) (hd 44 : Header) false), (991), (3), (0), (13), (ext0), (served (by decide +kernel) (by decide +kernel) (by decide +kernel)), by decide +kernel, (okIs (by decide +kernel)), by decide +kernel⟩⟩

theorem meets_FlashData :
    (∃ (s : State) (s1 : State) (h : Header) (r : ReplyTo) (ext : Nat) (offset : Nat) (rsv : Nat) (lua : Nat) (addr : BitVec 64) (e : Extent), (s.Serves (flsReq 0x0703 2 24 rsv addr.toNat true) h false r s1) ∧ (s.flsRefusal = none) ∧ (h.origin.partition = none) ∧ (s1.flsExtent h ext offset 1 true = .ok e) ∧ (s.fls.readOnly = false) ∧ (luaOf e.ranges offset = some lua) ∧ True) ∧
    (∃ (s : State) (s1 : State) (h : Header) (r : ReplyTo) (ext : Nat) (offset : Nat) (count : Nat) (rsv : Nat) (addr : BitVec 64) (e : Extent), (s.Serves (flsReq 0x0703 2 24 rsv addr.toNat true) h false r s1) ∧ (s.flsRefusal = none) ∧ (s1.flsExtent h ext offset count true = .ok e) ∧ (s.fls.readOnly = true) ∧ True) ∧
    (∃ (s : State) (s1 : State) (h : Header) (r : ReplyTo) (ext : Nat) (offset : Nat) (rsv : Nat) (lua : Nat) (addr : BitVec 64) (e : Extent), (s.Serves (flsReq 0x0704 2 24 rsv addr.toNat true) h false r s1) ∧ (s.flsRefusal = none) ∧ (h.origin.partition = none) ∧ (s1.flsExtent h ext offset 1 true = .ok e) ∧ (luaOf e.ranges offset = some lua) ∧ (ext < 992) ∧ (s.fls.lostDies = []) ∧ True) ∧
    (∃ (s : State) (s1 : State) (h : Header) (r : ReplyTo) (addr : BitVec 64), (s.Serves (flsReq 0x0706 1 8 0 addr.toNat false) h false r s1) ∧ (s.flsRefusal = none) ∧ (h.origin.partition = none) ∧ True) :=
  ⟨⟨((fl withExt).acc 0x0703), (taken ((fl withExt).acc 0x0703 : State) (flsReq 0x0703 2 24 (0 : Nat) (0 : BitVec 64).toNat true) (hd 56 : Header) false), (hd 56), (replyOf ((fl withExt).acc 0x0703 : State) (flsReq 0x0703 2 24 (0 : Nat) (0 : BitVec 64).toNat true) (hd 56 : Header) false), (991), (3), (0), (13), (0), (ext0), (served (by decide +kernel) (by decide +kernel) (by decide +kernel)), by decide +kernel, by decide +kernel, (okIs (by decide +kernel)), by decide +kernel⟩,
   ⟨((fl { withExt with readOnly := true }).acc 0x0703), (taken ((fl { withExt with readOnly := true }).acc 0x0703 : State) (flsReq 0x0703 2 24 (0 : Nat) (0 : BitVec 64).toNat true) (hd 56 : Header) false), (hd 56), (replyOf ((fl { withExt with readOnly := true }).acc 0x0703 : State) (flsReq 0x0703 2 24 (0 : Nat) (0 : BitVec 64).toNat true) (hd 56 : Header) false), (991), (0), (4), (0), (0), (ext0), (served (by decide +kernel) (by decide +kernel) (by decide +kernel)), by decide +kernel, (okIs (by decide +kernel)), by decide +kernel⟩,
   ⟨((fl { withExt with map := [(13, 0)], data := [(5, 6)] }).acc 0x0704), (taken ((fl { withExt with map := [(13, 0)], data := [(5, 6)] }).acc 0x0704 : State) (flsReq 0x0704 2 24 (0 : Nat) (0 : BitVec 64).toNat true) (hd 56 : Header) false), (hd 56), (replyOf ((fl { withExt with map := [(13, 0)], data := [(5, 6)] }).acc 0x0704 : State) (flsReq 0x0704 2 24 (0 : Nat) (0 : BitVec 64).toNat true) (hd 56 : Header) false), (991), (3), (0), (13), (0), (ext0), (served (by decide +kernel) (by decide +kernel) (by decide +kernel)), by decide +kernel, by decide +kernel, (okIs (by decide +kernel)), by decide +kernel⟩,
   ⟨((fl withExt).acc 0x0706), (taken ((fl withExt).acc 0x0706 : State) (flsReq 0x0706 1 8 0 (0 : BitVec 64).toNat false) (hd 40 : Header) false), (hd 40), (replyOf ((fl withExt).acc 0x0706 : State) (flsReq 0x0706 1 8 0 (0 : BitVec 64).toNat false) (hd 40 : Header) false), (0), (served (by decide +kernel) (by decide +kernel) (by decide +kernel)), by decide +kernel⟩⟩

theorem meets_FlashPrograms :
    (∃ (s : State) (seq : Nat) (pua : Nat) (w : FlsWrite), (s.fls.writes.find? (fun w => w.seq == seq) = some w) ∧ (seq ≠ 0) ∧ (s.programBlocked w pua = false) ∧ (channelOf pua < s.fls.channels) ∧ (Memory.wf s.fls.staged = true) ∧ (Memory.wf s.fls.data = true) ∧ True) ∧
    (∃ (s : State) (seq : Nat) (pua : Nat) (w : FlsWrite), (s.fls.writes.find? (fun w => w.seq == seq) = some w) ∧ (s.programBlocked w pua = true) ∧ True) ∧
    (∃ (s : State), (s.fls.hold = true) ∧ True) ∧
    (∃ (s : State), (s.fls.hold = true) ∧ True) ∧
    (∃ (s : State), (s.fls.hold = true) ∧ True) ∧
    (∃ (s : State) (seq : Nat) (w : FlsWrite), (w ∈ s.fls.writes) ∧ (w.seq = seq) ∧ (s.fls.hold = false) ∧ True) :=
  ⟨⟨(fl { withExt with writes := [wr0], blocks := [(0, blk .opened)], map := [(10, 600)] }), (7), (0), (wr0), by decide +kernel⟩,
   ⟨(fl { withExt with writes := [wr0], hold := true }), (7), (0), (wr0), by decide +kernel⟩,
   ⟨(fl { withExt with writes := [wr0], hold := true }), by decide +kernel⟩,
   ⟨(fl { withExt with writes := [wr0], hold := true }), by decide +kernel⟩,
   ⟨(fl { withExt with writes := [wr0], hold := true }), by decide +kernel⟩,
   ⟨(fl { withExt with writes := [wr0], blocks := [(0, blk .opened)] }), (7), (wr0), by decide +kernel⟩⟩

theorem meets_FlashJournal :
    (∃ (s : State), (s.fls.hold = false) ∧ True) ∧
    (∃ (s : State), (s.fls.hold = true) ∧ True) ∧
    (∃ (s : State) (r : JRec) (rest : List JRec), (s.fls.tail = r :: rest) ∧ (1 ≤ s.fls.committing) ∧ (r.type = .map) ∧ (r.req = 0) ∧ (s.fls.mappedSeq r.lua ≤ r.seq) ∧ True) ∧
    (∃ (s : State) (page : Nat), (s.fls.hold = false) ∧ ((afind s.fls.dirty page).isSome = true) ∧ (asorted s.fls.map = true) ∧ (asorted s.fls.checkpoint = true) ∧ True) :=
  ⟨⟨(fl { withExt with tail := [jr0] }), by decide +kernel⟩,
   ⟨(fl { withExt with tail := [jr0], hold := true }), by decide +kernel⟩,
   ⟨(fl { withExt with tail := [jr0], committing := 1 }), (jr0), ([]), by decide +kernel⟩,
   ⟨(fl { withExt with map := [(10, 0), (16384, 3)], checkpoint := [(11, 4), (16385, 5)], dirty := [(0, 3)] }), (0), by decide +kernel⟩⟩

theorem meets_FlashBlocksAndHealth :
    (∃ (s : State) (block : Nat) (worst : Nat), ((s.fblock block).state = .closing) ∧ (worst ≤ s.fld Reg.flsMediaCfg 7 0) ∧ True) ∧
    (∃ (s : State) (block : Nat), ((s.fblock block).state = .closing) ∧ True) ∧
    (∃ (s : State) (group : Nat) (victim : Nat), (s.fls.hold = false) ∧ (s.fls.readOnly = false) ∧ (s.superClosed victim = true) ∧ (groupOf victim = group) ∧ (s.victimOk group victim = true) ∧ True) ∧
    (∃ (s : State) (block : Nat), (s.fls.hold = false) ∧ ((s.fblock block).state = .source) ∧ (s.erasable block = true) ∧ True) ∧
    (∃ (s : State) (block : Nat), (s.erasable block = false) ∧ True) ∧
    (∃ (s : State) (block : Nat), (s.fls.hold = false) ∧ ((s.fblock block).state = .erasing) ∧ ((s.fblock block).retire = false) ∧ True) ∧
    (∃ (s : State) (pua : Nat), (s.fls.lostDies.contains (pua / 2 ^ 21) = false) ∧ True) ∧
    (∃ (s : State) (pua : Nat) (n : Nat), (s.fls.lostDies.contains (pua / 2 ^ 21) = false) ∧ (n ≤ s.fld Reg.flsMediaCfg 15 8) ∧ True) ∧
    (∃ (s : State) (c : FlsChan) (rest : List FlsChan) (n : Nat), (s.fls.chans = c :: rest) ∧ (c.inService = true) ∧ (c.stopped = false) ∧ (s.nand.tempFeature = true) ∧ (n < 256) ∧ True) :=
  ⟨⟨((fl { withExt with blocks := [(0, blk .closing)] }).setReg Reg.flsMediaCfg 40), (0), (40), by decide +kernel⟩,
   ⟨(fl { withExt with blocks := [(0, blk .closing)], map := [(10, 3)] }), (0), by decide +kernel⟩,
   ⟨((fl { withExt with blocks := [(0, blk .closed)], map := [(10, 3)] }).setReg Reg.flsGcCfg 0x00104000), (0), (0), by decide +kernel⟩,
   ⟨(fl { withExt with blocks := [(0, blk .source)] }), (0), by decide +kernel⟩,
   ⟨(fl { withExt with blocks := [(0, blk .source)], map := [(10, 3)] }), (0), by decide +kernel⟩,
   ⟨(fl { withExt with blocks := [(256, blk .erasing)], data := memWrite [] (256 * 65536) [1] }), (256), by decide +kernel⟩,
   ⟨(fl { withExt with blocks := [(0, blk .closed)] }), (2 ^ 31 - 1), by decide +kernel⟩,
   ⟨((fl withExt).setReg Reg.flsMediaCfg 0x2800), (0), (40), by decide +kernel⟩,
   ⟨(fl withExt), (ch0), (List.replicate 31 FlsChan.reset), (95), by decide +kernel⟩⟩

theorem meets_PortStates :
    (∃ (s : State) (p : Fin 64), ((s.port p.val).state = .training) ∧ True) ∧
    (∃ (s : State) (p : Fin 64), ((s.port p.val).state = .training) ∧ True) ∧
    (∃ (s : State) (p : Fin 64), ((s.port p.val).state = .down) ∧ True) ∧
    (∃ (s : State) (p : Fin 64), ((s.port p.val).state = .draining) ∧ ((s.port p.val).depth = 0) ∧ ((s.port p.val).replay = []) ∧ ((s.port p.val).pend = false) ∧ True) ∧
    (∃ (s : State) (p : Fin 64), ((s.port p.val).state = .draining) ∧ ((s.port p.val).pend = false) ∧ True) :=
  ⟨⟨(lup 63 { Port.reset with state := .training }), (63), by decide +kernel⟩,
   ⟨(lup 0 { Port.reset with state := .training }), (0), by decide +kernel⟩,
   ⟨(lup 0 { Port.reset with state := .down }), (0), by decide +kernel⟩,
   ⟨(lup 0 { Port.reset with state := .draining, width := 4 }), (0), by decide +kernel⟩,
   ⟨(lup 0 { Port.reset with state := .draining, width := 4, replay := [flt0] }), (0), by decide +kernel⟩⟩

theorem meets_PortControl :
    (∃ (s : State) (p : Fin 64) (v : Word), (s.present = true) ∧ (s.sec.run ≠ .recovery) ∧ (v.toNat % 16 = s.fld (Reg.lnkPCtrl p.val) 3 0 - 1) ∧ (s.flag (Reg.lnkPCtrl p.val) 0 = true) ∧ ((s.port p.val).state = .up) ∧ ((s.port p.val).queues = List.replicate 8 []) ∧ True) ∧
    (∃ (s : State) (s1 : State) (h : Header) (r : ReplyTo) (p : Nat) (rsv : Nat), (s.Serves ⟨0x0005, 1, false, false, 4, rsv, 0, false⟩ h false r s1) ∧ (p ≤ 63) ∧ ((s.port p).state = .draining) ∧ True) ∧
    (∃ (s : State) (s1 : State) (h : Header) (r : ReplyTo) (p : Nat) (rsv : Nat), (s.Serves ⟨0x0005, 1, false, false, 4, rsv, 0, false⟩ h false r s1) ∧ (p ≤ 63) ∧ ((s.port p).state = .up) ∧ True) ∧
    (∃ (s : State) (s1 : State) (h : Header) (r : ReplyTo) (p : Nat) (a : Nat) (rsv : Nat), (s.Serves ⟨0x0005, 1, false, false, 4, rsv, 0, false⟩ h false r s1) ∧ (63 < p ∨ 1 < a) ∧ True) :=
  ⟨⟨((lup 3 upP).setReg (Reg.lnkPCtrl 3) 0x00000003), (3), (2), by decide +kernel⟩,
   ⟨((lup 63 { Port.reset with state := .draining }).acc 0x0005), (taken ((lup 63 { Port.reset with state := .draining }).acc 0x0005 : State) ⟨0x0005, 1, false, false, 4, (0 : Nat), 0, false⟩ (hd 36 : Header) false), (hd 36), (replyOf ((lup 63 { Port.reset with state := .draining }).acc 0x0005 : State) ⟨0x0005, 1, false, false, 4, (0 : Nat), 0, false⟩ (hd 36 : Header) false), (63), (0), (served (by decide +kernel) (by decide +kernel) (by decide +kernel)), by decide +kernel⟩,
   ⟨(((lup 63 upP).setReg (Reg.lnkPCtrl 63) 1).acc 0x0005), (taken (((lup 63 upP).setReg (Reg.lnkPCtrl 63) 1).acc 0x0005 : State) ⟨0x0005, 1, false, false, 4, (0 : Nat), 0, false⟩ (hd 36 : Header) false), (hd 36), (replyOf (((lup 63 upP).setReg (Reg.lnkPCtrl 63) 1).acc 0x0005 : State) ⟨0x0005, 1, false, false, 4, (0 : Nat), 0, false⟩ (hd 36 : Header) false), (63), (0), (served (by decide +kernel) (by decide +kernel) (by decide +kernel)), by decide +kernel⟩,
   ⟨(up.acc 0x0005), (taken (up.acc 0x0005 : State) ⟨0x0005, 1, false, false, 4, (0 : Nat), 0, false⟩ (hd 36 : Header) false), (hd 36), (replyOf (up.acc 0x0005 : State) ⟨0x0005, 1, false, false, 4, (0 : Nat), 0, false⟩ (hd 36 : Header) false), (64), (0), (0), (served (by decide +kernel) (by decide +kernel) (by decide +kernel)), by decide +kernel⟩⟩

theorem meets_LinkLoss :
    (∃ (s : State) (p : Fin 64) (working : Nat), ((s.port p.val).state = .up) ∧ (s.flag Reg.lnkCtrl 1 = true) ∧ (working ≠ 0) ∧ True) ∧
    (∃ (s : State) (p : Fin 64), ((s.port p.val).state = .up) ∧ True) ∧
    (∃ (s : State) (p : Fin 64) (now : Nat), ((s.port p.val).state = .up) ∧ (s.ethernet p.val = false) ∧ ((s.port p.val).ctrlAt + 2000 ≤ now) ∧ True) :=
  ⟨⟨((lup 3 upP).setReg Reg.lnkCtrl 2), (3), (2), by decide +kernel⟩,
   ⟨(lup 3 { upP with replay := [flt0], sndSeq := 1 }), (3), by decide +kernel⟩,
   ⟨(lup 3 { upP with ctrlAt := 5 }), (3), (2005), by decide +kernel⟩⟩

theorem meets_FlitBoundary :
    (∃ (s : State) (p : Fin 64), ((s.port p.val).state = .up) ∧ (s.ethernet p.val = false) ∧ ((s.port p.val).queues = List.replicate 8 []) ∧ ((s.port p.val).replayFrom = none) ∧ ((s.port p.val).cur = none) ∧ True) ∧
    (∃ (s : State) (p : Fin 64) (q : BitVec 16) (f : Flit), ((s.port p.val).state = .up) ∧ (s.ethernet p.val = false) ∧ ((s.port p.val).replayFrom = some q) ∧ ((s.port p.val).sinceCtrl < 31) ∧ ((s.port p.val).replay[(q - (s.port p.val).ackSeq).toNat]? = some f) ∧ True) ∧
    (∃ (s : State) (p : Fin 64) (now : Nat) (q : QPkt), ((s.port p.val).state = .up) ∧ (s.ethernet p.val = false) ∧ (s.stk.time ≤ now) ∧ ((s.port p.val).replayFrom = none) ∧ ((s.port p.val).queues = [[q], [], [], [], [], [], [], []]) ∧ (q.pkt.cls = 0) ∧ (q.sent = 0) ∧ (1 < q.flits) ∧ (q.from_ = none) ∧ ((s.port p.val).sinceCtrl < 31) ∧ ((s.port p.val).replay.length < 4096) ∧ (s.flag Reg.shpCtrl 0 = false) ∧ (s.creditOk p.val 0 q.stage = true) ∧ True) ∧
    (∃ (s : State) (p : Fin 64) (hdr : BitVec 16), ((s.port p.val).state = .up) ∧ ((flitHdr hdr).valid = true) ∧ True) ∧
    (∃ (s : State) (p : Fin 64) (seq : BitVec 16), ((s.port p.val).state = .up) ∧ (seq ≠ (s.port p.val).rcvSeq) ∧ True) ∧
    (∃ (s : State) (p : Fin 64), ((s.port p.val).state = .up) ∧ True) ∧
    (∃ (s : State) (p : Fin 64) (n : Nat) (hdr : BitVec 16) (body : List Byte), ((s.port p.val).state = .up) ∧ (n ≤ (s.port p.val).replay.length) ∧ (n < 65536) ∧ (flitHdr hdr = ctrlHdr false) ∧ (ctrlAck body = (s.port p.val).ackSeq + BitVec.ofNat 16 n) ∧ True) ∧
    (∃ (hdr : BitVec 16), (flitHdr hdr ≠ ctrlHdr false) ∧ (flitHdr hdr ≠ ctrlHdr true) ∧ True) ∧
    (∃ (s : State) (p : Fin 64) (n : Nat) (hdr : BitVec 16) (body : List Byte), ((s.port p.val).state = .up) ∧ (n < (s.port p.val).replay.length) ∧ (0 < n) ∧ (n < 65536) ∧ (flitHdr hdr = ctrlHdr true) ∧ (ctrlAck body = (s.port p.val).ackSeq + BitVec.ofNat 16 n) ∧ True) :=
  ⟨⟨(lup 3 { upP with sinceCtrl := 30 }), (3), by decide +kernel⟩,
   ⟨(lup 3 { upP with replay := [flt0, flt0], sndSeq := 2, replayFrom := some 1 }), (3), (1), (flt0), by decide +kernel⟩,
   ⟨(((lup 3 { upP with queues := [[qp0], [], [], [], [], [], [], []], sinceCtrl := 30 }).setReg Reg.shpCtrl 0).setReg (Reg.lnkPCredit 3 0) 40), (3), (9), (qp0), by decide +kernel⟩,
   ⟨(lup 3 { upP with rcvSeq := 0xFFFF }), (3), (hdr0), by decide +kernel⟩,
   ⟨(lup 3 { upP with rcvSeq := 0xFFFF }), (3), (0), by decide +kernel⟩,
   ⟨(lup 3 { upP with rcvSeq := 0xFFFF }), (3), by decide +kernel⟩,
   ⟨(lup 3 { upP with replay := [flt0, flt0], sndSeq := 2 }), (3), (2), ((ctrlHdr false).word), (ctrlBody 2 (List.replicate 40 0)), by decide +kernel⟩,
   ⟨((FlitHdr.word ⟨0, 0, 1, false, false, 62⟩)), by decide +kernel⟩,
   ⟨(lup 3 { upP with replay := [flt0, flt0], sndSeq := 2 }), (3), (1), ((ctrlHdr true).word), (ctrlBody 1 (List.replicate 40 0)), by decide +kernel⟩⟩

theorem meets_Routing :
    (∃ (pkt : Packet), (pkt.crc ≠ pkt.hcrc) ∧ True) ∧
    (∃ (s : State) (pkt : Packet) (now : Nat), (pkt.crc = pkt.hcrc) ∧ (pkt.type ≠ 0) ∧ (pkt.type.toNat < 0x85) ∧ ((s.at_ now).expired pkt = true) ∧ True) ∧
    (∃ (s : State) (pkt : Packet) (now : Nat), (pkt.crc = pkt.hcrc) ∧ (pkt.type ≠ 0) ∧ (pkt.type.toNat < 0x85) ∧ ((s.at_ now).expired pkt = false) ∧ (pkt.viaValid = false) ∧ (pkt.dst = s.me) ∧ (s.flag Reg.xptCtrl 1 = false) ∧ True) ∧
    (∃ (s : State) (f : GwFrame), (f.fcsOk = false ∨ s.ethernet 63 = false ∨ (s.port 63).state ≠ .up) ∧ True) ∧
    (∃ (s : State) (f : GwFrame), (s.ethernet 63 = true) ∧ ((s.port 63).state = .up) ∧ (f.dstMac.toNat = s.reg Reg.lnkGwMacHi * 2 ^ 32 + s.reg Reg.lnkGwMacLo) ∧ (f.dstIp.toNat = (List.range 4).foldl (fun a i => a * 2 ^ 32 + s.reg (Reg.lnkGwIp i)) 0) ∧ (f.udpPort.toNat = s.fld Reg.lnkGwCfg 31 16) ∧ (f.fcsOk = true) ∧ (f.udpOk = true) ∧ (f.pkt.crc = f.pkt.hcrc) ∧ (f.pkt.viaValid = false) ∧ (f.pkt.dst = s.me) ∧ True) ∧
    (∃ (s : State) (i : Nat) (c : CombHold), (s.lnk.combine[i]? = some c) ∧ True) ∧
    (∃ (s : State) (i : Nat) (now : Nat) (c : CompHold), (s.lnk.completes[i]? = some c) ∧ (c.openedAt + s.fld Reg.xptComb 15 0 ≤ now) ∧ True) :=
  ⟨⟨({ pk0 with hcrc := pkB.crc + 1 }), by decide +kernel⟩,
   ⟨({ lup 3 upP with stk := { Stk.reset with time := 250000 } }), (pk0), (9), by decide +kernel⟩,
   ⟨((lup 3 upP).setReg Reg.xptCtrl 0), (pk0), (9), by decide +kernel⟩,
   ⟨(lup 3 upP), (gwf), by decide +kernel⟩,
   ⟨(gwUp), (gwf), by decide +kernel⟩,
   ⟨({ lup 3 upP with lnk := { Lnk.reset with ready := true, combine := [⟨⟨.window 0, 0, 0, 0, 0, 0, []⟩, pk0, 5⟩] } }), (0), (⟨⟨.window 0, 0, 0, 0, 0, 0, []⟩, pk0, 5⟩), by decide +kernel⟩,
   ⟨({ lup 3 upP with lnk := { Lnk.reset with ready := true, completes := [⟨1, [], pk0, 5⟩] } }), (0), (0x8000), (⟨1, [], pk0, 5⟩), by decide +kernel⟩⟩

theorem meets_LinkState :
    (∃ (s : State), (s.lnk.ready = true) ∧ True) ∧
    (∃ (s : State) (src : DeviceId), (s.lnk.ready = true) ∧ (harness src = harness s.me) ∧ (src ≠ s.me) ∧ (bitAt s.sat.live.toNat (member src) = true) ∧ True) ∧
    (∃ (s : State) (m : Fin 32) (r : LinkReport), (afind s.lnk.table_ m.val = some r) ∧ True) ∧
    (∃ (s : State) (dst : DeviceId), (dst ≠ s.me) ∧ (s.isUp (localPort (member s.me) (member dst)) = true) ∧ True) ∧
    (∃ (s : State) (dst : DeviceId), (dst ≠ s.me) ∧ (s.isUp (localPort (member s.me) (member dst)) = true) ∧ True) :=
  ⟨⟨(lup 3 upP), by decide +kernel⟩,
   ⟨(live2 (lup 3 upP)), (1), by decide +kernel⟩,
   ⟨({ live2 (lup 3 upP) with lnk := { (lup 3 upP).lnk with table_ := [(1, ⟨3, [], 0, 4⟩)] }, stk := { Stk.reset with time := 100000000 } }), (1), (⟨3, [], 0, 4⟩), by decide +kernel⟩,
   ⟨(lup 3 upP), (4), by decide +kernel⟩,
   ⟨(lup 3 upP), (4), by decide +kernel⟩⟩

theorem meets_Notices :
    (∃ (s : State) (p : Fin 64) (t0 : Nat) (now : Nat), (p.val < 31) ∧ (s.lnk.probes = [(p.val, t0)]) ∧ (t0 + 4000 ≤ now) ∧ (s.stk.time ≤ now) ∧ (afind s.lnk.table_ (localPeer (member s.me) p.val) = none) ∧ (bitAt s.sat.live.toNat (localPeer (member s.me) p.val) = true) ∧ True) ∧
    (∃ (s : State) (dev : DeviceId) (seq : Nat), (s.lnk.ready = true) ∧ (s.sawNotice dev seq false = false) ∧ (harness dev = harness s.me) ∧ (dev ≠ s.me) ∧ (dev.toNat < 2 ^ 14) ∧ (s.isLive dev = true) ∧ True) ∧
    (∃ (s : State) (dev : DeviceId) (seq : Nat) (alive : Bool), (s.sawNotice dev seq alive = true) ∧ True) :=
  ⟨⟨({ live2 (lup 3 upP) with lnk := { (lup 3 upP).lnk with probes := [(0, 9)] } }), (0), (9), (4009), by decide +kernel⟩,
   ⟨(live2 (lup 3 upP)), (1), (9), by decide +kernel⟩,
   ⟨({ live2 (lup 3 upP) with lnk := { (lup 3 upP).lnk with seen := [(1, 9, false)] } }), (1), (9), (false), by decide +kernel⟩⟩

theorem meets_ConnectionsOpenAndClose :
    (∃ (s : State) (p : Packet) (now : Nat) (conn : Fin 1048576) (cls : Fin 8) (device : Bool) (part : Fin 16) (peer : Fin 16) (inc : Fin 4096), (p.body = .opening conn cls device part peer inc) ∧ (s.xpt.ready = true) ∧ (p.trailerOk = true) ∧ ((s.at_ now).expired p = false) ∧ (s.findConn (quadKey device peer.val p.src part.val cls.val) = none) ∧ (s.xpt.conns.length < s.fld Reg.xptConnCfg 20 0) ∧ True) ∧
    (∃ (s : State) (p : Packet) (now : Nat) (conn : Fin 1048576) (cls : Fin 8) (device : Bool) (part : Fin 16) (peer : Fin 16) (inc : Fin 4096), (p.body = .opening conn cls device part peer inc) ∧ (s.xpt.ready = true) ∧ (p.trailerOk = true) ∧ ((s.at_ now).expired p = false) ∧ (s.findConn (quadKey device peer.val p.src part.val cls.val) = none) ∧ (s.fld Reg.xptConnCfg 20 0 ≤ s.xpt.conns.length) ∧ True) ∧
    (∃ (s : State) (s1 : State) (p : Packet) (now : Nat) (k : Nat) (c : Conn) (conn : Fin 1048576) (inc : Fin 4096), (s.receive p now false = (s1, some (k, c))) ∧ (p.body = .openAck conn inc) ∧ (c.state = .opening) ∧ True) ∧
    (∃ (s : State) (s1 : State) (p : Packet) (now : Nat) (k : Nat) (c : Conn), (s.receive p now false = (s1, some (k, c))) ∧ (p.body = .close true) ∧ True) ∧
    (∃ (s : State) (s1 : State) (p : Packet) (now : Nat) (k : Nat) (c : Conn), (s.receive p now false = (s1, some (k, c))) ∧ (p.body = .close false) ∧ (c.waiting = []) ∧ True) ∧
    (∃ (s : State) (s1 : State) (p : Packet) (now : Nat) (k : Nat) (c : Conn), (s.receive p now false = (s1, some (k, c))) ∧ True) ∧
    (∃ (s : State) (conn : Nat) (now : Nat) (c : Conn), (s.conn conn = some c) ∧ (c.state = .closing) ∧ (c.closeAt + 3 * c.rto ≤ now) ∧ (c.waiting = []) ∧ True) ∧
    (∃ (s : State) (conn : Nat) (c : Conn), (s.conn conn = some c) ∧ (c.state = .opened) ∧ (s.fld Reg.xptCc 15 0 ≠ 0) ∧ (c.ops = 0) ∧ (c.waiting = []) ∧ (c.sent = []) ∧ (c.lastUse + s.fld Reg.xptCc 15 0 ≤ s.strokeNow) ∧ (s.xpt.results = []) ∧ True) :=
  ⟨⟨(xs Xpt.reset), (pk 1 (.opening 1048574 7 false 15 0 4094)), (9), (1048574), (7), (false), (15), (0), (4094), by decide +kernel⟩,
   ⟨((xs Xpt.reset).setReg Reg.xptConnCfg 0), (pk 1 (.opening 1048574 7 false 15 0 4094)), (9), (1048574), (7), (false), (15), (0), (4094), by decide +kernel⟩,
   ⟨(xc { cn0 with state := .opening }), (((xc { cn0 with state := .opening } : State).receive (pk 2 (.openAck 1048574 4094) : Packet) (9 : Nat) false).1), (pk 2 (.openAck 1048574 4094)), (9), (3), (connOf ((xc { cn0 with state := .opening } : State).receive (pk 2 (.openAck 1048574 4094) : Packet) (9 : Nat) false)), (1048574), (4094), (receivedOk (by decide +kernel)), by decide +kernel⟩,
   ⟨(xc cn0), (((xc cn0 : State).receive (pk 3 (.close true) : Packet) (9 : Nat) false).1), (pk 3 (.close true)), (9), (3), (connOf ((xc cn0 : State).receive (pk 3 (.close true) : Packet) (9 : Nat) false)), (receivedOk (by decide +kernel)), by decide +kernel⟩,
   ⟨(xc cn0), (((xc cn0 : State).receive (pk 3 (.close false) : Packet) (9 : Nat) false).1), (pk 3 (.close false)), (9), (3), (connOf ((xc cn0 : State).receive (pk 3 (.close false) : Packet) (9 : Nat) false)), (receivedOk (by decide +kernel)), by decide +kernel⟩,
   ⟨(xc { cn0 with state := .closing }), (((xc { cn0 with state := .closing } : State).receive (pk 4 .closeAck : Packet) (9 : Nat) false).1), (pk 4 .closeAck), (9), (3), (connOf ((xc { cn0 with state := .closing } : State).receive (pk 4 .closeAck : Packet) (9 : Nat) false)), (receivedOk (by decide +kernel)), trivial⟩,
   ⟨(xc { cn0 with state := .closing }), (3), (3000), ({ cn0 with state := .closing }), by decide +kernel⟩,
   ⟨({ (xc cn0).setReg Reg.xptCc 0x00400008 with stk := { Stk.reset with running := true, stroke := 8 } }), (3), (cn0), by decide +kernel⟩⟩

theorem meets_AcksAndRetransmission :
    (∃ (s : State) (s1 : State) (p : Packet) (now : Nat) (k : Nat) (c : Conn) (bitmap : BitVec 64), (s.receive p now false = (s1, some (k, c))) ∧ (p.body = .ack bitmap) ∧ (c.sendq = []) ∧ (c.waiting = []) ∧ True) ∧
    (∃ (s : State) (conn : Nat) (now : Nat) (c : Conn), (s.conn conn = some c) ∧ (c.state = .opened) ∧ (c.unacked ≠ 0) ∧ (c.firstAt + 1000 ≤ now) ∧ True) ∧
    (∃ (s : State) (s1 : State) (p : Packet) (now : Nat) (k : Nat) (c : Conn) (x : Sent) (st : Status) (seq : BitVec 32), (s.acceptPacket p now false = (s1, some (k, c))) ∧ (p.body = .nak 1 st seq) ∧ (c.state ≠ .opening) ∧ (c.sent.find? (fun y => y.pkt.xp.seq == seq) = some x) ∧ True) ∧
    (∃ (s : State) (s1 : State) (p : Packet) (now : Nat) (k : Nat) (c : Conn) (x : Sent) (st : Status) (seq : BitVec 32), (s.acceptPacket p now false = (s1, some (k, c))) ∧ (p.body = .nak 2 st seq) ∧ (c.state ≠ .opening) ∧ (c.sent.find? (fun y => y.pkt.xp.seq == seq) = some x) ∧ True) ∧
    (∃ (s : State) (s1 : State) (p : Packet) (now : Nat) (k : Nat) (c : Conn) (x : Sent) (o : XOp) (q : Nat) (i : Nat) (st : Status) (seq : BitVec 32), (s.acceptPacket p now false = (s1, some (k, c))) ∧ (p.body = .nak 3 st seq) ∧ (c.state ≠ .opening) ∧ (c.sent.find? (fun y => y.pkt.xp.seq == seq) = some x) ∧ (s1.tagOf k x.pkt = true) ∧ (afind s1.xpt.ops x.pkt.xp.tag.toNat = some o) ∧ (o.done = false) ∧ (o.origin = .queue q i) ∧ True) ∧
    (∃ (s : State) (conn : Nat) (c : Conn), (s.conn conn = some c) ∧ True) ∧
    (∃ (s : State) (conn : Nat) (now : Nat) (c : Conn) (x : Sent), (s.conn conn = some c) ∧ (c.state = .opened) ∧ (x ∈ c.sent) ∧ (x.at_ + c.rto ≤ now) ∧ (c.retries + 1 < s.retryMax) ∧ True) ∧
    (∃ (s : State) (conn : Nat) (now : Nat) (c : Conn) (x : Sent) (tag : Nat) (o : XOp) (q : Nat) (i : Nat), (s.conn conn = some c) ∧ (c.state = .opened) ∧ (x ∈ c.sent) ∧ (x.at_ + c.rto ≤ now) ∧ (s.retryMax ≤ c.retries + 1) ∧ (s.xpt.ops = [(tag, o)]) ∧ (o.conn = conn) ∧ (o.done = false) ∧ (o.origin = .queue q i) ∧ (o.kind ≠ .atomic) ∧ True) :=
  ⟨⟨(xo cnS op0), (((xo cnS op0 : State).receive ({ pk 5 (.ack 0) with xp := ⟨1, 3, 9, 8, 4, false, false, true, true, true, 0, 0⟩ } : Packet) (9 : Nat) false).1), ({ pk 5 (.ack 0) with xp := ⟨1, 3, 9, 8, 4, false, false, true, true, true, 0, 0⟩ }), (9), (3), (connOf ((xo cnS op0 : State).receive ({ pk 5 (.ack 0) with xp := ⟨1, 3, 9, 8, 4, false, false, true, true, true, 0, 0⟩ } : Packet) (9 : Nat) false)), (0), (receivedOk (by decide +kernel)), by decide +kernel⟩,
   ⟨(xc { cn0 with unacked := 2, firstAt := 5 }), (3), (1005), ({ cn0 with unacked := 2, firstAt := 5 }), by decide +kernel⟩,
   ⟨(xo cnS op0), (((xo cnS op0 : State).acceptPacket (pk 6 (.nak 1 .ok 7) : Packet) (9 : Nat) false).1), (pk 6 (.nak 1 .ok 7)), (9), (3), (connOf ((xo cnS op0 : State).acceptPacket (pk 6 (.nak 1 .ok 7) : Packet) (9 : Nat) false)), (sent0), (.ok), (7), (receivedOk (by decide +kernel)), by decide +kernel⟩,
   ⟨(xo cnS op0), (((xo cnS op0 : State).acceptPacket (pk 6 (.nak 2 .ok 7) : Packet) (9 : Nat) false).1), (pk 6 (.nak 2 .ok 7)), (9), (3), (connOf ((xo cnS op0 : State).acceptPacket (pk 6 (.nak 2 .ok 7) : Packet) (9 : Nat) false)), (sent0), (.ok), (7), (receivedOk (by decide +kernel)), by decide +kernel⟩,
   ⟨(xo cnS op0), (((xo cnS op0 : State).acceptPacket (pk 6 (.nak 3 .protection 7) : Packet) (9 : Nat) false).1), (pk 6 (.nak 3 .protection 7)), (9), (3), (connOf ((xo cnS op0 : State).acceptPacket (pk 6 (.nak 3 .protection 7) : Packet) (9 : Nat) false)), (sent0), (op0), (2), (6), (.protection), (7), (receivedOk (by decide +kernel)), by decide +kernel⟩,
   ⟨(xo { cnS with notReady := [7] } op0), (3), ({ cnS with notReady := [7] }), by decide +kernel⟩,
   ⟨((xo cnS op0).setReg Reg.xptTimer 0x00020001), (3), (1000), (cnS), (sent0), by decide +kernel⟩,
   ⟨((xo { cnS with retries := 1 } op0).setReg Reg.xptTimer 0x00020001), (3), (1000), ({ cnS with retries := 1 }), (sent0), (4), (op0), (2), (6), by decide +kernel⟩⟩

theorem meets_HomeRequests :
    (∃ (s : State) (s1 : State) (p : Packet) (now : Nat) (k : Nat) (c : Conn) (h : OpHdr) (rcv : Option Nat) (data : List Byte), (s.receive p now true = (s1, some (k, c))) ∧ (p.body = .put h rcv data) ∧ (c.seen p.xp.seq = true) ∧ True) ∧
    (∃ (s : State) (s1 : State) (p : Packet) (now : Nat) (k : Nat) (c : Conn) (h : OpHdr) (rcv : Option Nat) (data : List Byte), (s.receive p now true = (s1, some (k, c))) ∧ (p.body = .put h rcv data) ∧ (c.seen p.xp.seq = false) ∧ (c.matches_ p = false) ∧ True) ∧
    (∃ (s : State) (s1 : State) (p : Packet) (now : Nat) (k : Nat) (c : Conn) (h : OpHdr) (rcv : Option Nat) (data : List Byte), (s.receive p now true = (s1, some (k, c))) ∧ (p.body = .put h rcv data) ∧ ∃ (st : Status), (c.seen p.xp.seq = false) ∧ (c.matches_ p = true) ∧ (s1.xpt.stitch = []) ∧ (s1.regionCheck c.localPart h.key p.tenant .write h.addr data.length false = .error st) ∧ True) ∧
    (∃ (s : State) (s1 : State) (p : Packet) (now : Nat) (k : Nat) (c : Conn) (h : OpHdr) (rcv : Option Nat) (data : List Byte), (s.receive p now true = (s1, some (k, c))) ∧ (p.body = .put h rcv data) ∧ ∃ (s2 : State) (i : Nat) (r : Region), (c.seen p.xp.seq = false) ∧ (c.matches_ p = true) ∧ (s1.xpt.stitch = []) ∧ (s1.xpt.rob = []) ∧ (s1.regionCheck c.localPart h.key p.tenant .write h.addr data.length false = .ok (i, r)) ∧ (s1.writeVa r.part.val .thread (r.base + h.addr) data = (s2, .ok ())) ∧ True) ∧
    (∃ (s : State) (s1 : State) (p : Packet) (now : Nat) (k : Nat) (c : Conn) (h : OpHdr), (s.receive p now true = (s1, some (k, c))) ∧ (p.body = .get h) ∧ (c.seen p.xp.seq = false) ∧ (c.matches_ p = false) ∧ True) ∧
    (∃ (s : State) (s1 : State) (p : Packet) (now : Nat) (k : Nat) (c : Conn) (h : OpHdr), (s.receive p now true = (s1, some (k, c))) ∧ (p.body = .get h) ∧ (c.seen p.xp.seq = false) ∧ ∃ (s2 : State) (l : List (Nat × Nat)) (i : Nat) (r : Region), (c.matches_ p = true) ∧ (s1.xpt.rob = []) ∧ (s1.regionCheck c.localPart h.key p.tenant .read h.addr h.msgLen false = .ok (i, r)) ∧ (s1.xlateRange r.part.val .thread .read (r.base + h.addr) h.msgLen = (s2, .ok l)) ∧ (s2.partsPoisoned l = false) ∧ True) ∧
    (∃ (s : State) (s1 : State) (p : Packet) (now : Nat) (k : Nat) (c : Conn) (a : Nat) (mask : Nat) (data : List Byte), (s.receive p now true = (s1, some (k, c))) ∧ (p.body = .store a mask data) ∧ (harness p.src = harness s1.me) ∧ (p.xp.seq = c.rcvNxt) ∧ (c.seen p.xp.seq = false) ∧ (c.matches_ p = true) ∧ (s1.xpt.rob = []) ∧ ∃ (st : Status), (s1.windowCheck p.tenant .write a data.length = .error st) ∧ True) ∧
    (∃ (s : State) (s1 : State) (p : Packet) (now : Nat) (k : Nat) (c : Conn) (a : Nat) (mask : Nat) (data : List Byte), (s.receive p now true = (s1, some (k, c))) ∧ (p.body = .store a mask data) ∧ (harness p.src = harness s1.me) ∧ (p.xp.seq = c.rcvNxt) ∧ (c.seen p.xp.seq = false) ∧ (c.matches_ p = true) ∧ (s1.xpt.rob = []) ∧ (s1.windowCheck p.tenant .write a data.length = .ok ()) ∧ True) ∧
    (∃ (s : State) (s1 : State) (p : Packet) (now : Nat) (k : Nat) (c : Conn) (a : Nat) (len : Nat), (s.receive p now true = (s1, some (k, c))) ∧ (p.body = .load a len) ∧ (harness p.src = harness s1.me) ∧ (p.xp.seq = c.rcvNxt) ∧ (c.seen p.xp.seq = false) ∧ (c.matches_ p = true) ∧ (s1.xpt.rob = []) ∧ ∃ (st : Status), (s1.windowCheck p.tenant .read a len = .error st) ∧ True) ∧
    (∃ (s : State) (s1 : State) (p : Packet) (now : Nat) (k : Nat) (c : Conn) (a : Nat) (len : Nat), (s.receive p now true = (s1, some (k, c))) ∧ (p.body = .load a len) ∧ (harness p.src = harness s1.me) ∧ (p.xp.seq = c.rcvNxt) ∧ (c.seen p.xp.seq = false) ∧ (c.matches_ p = true) ∧ (s1.xpt.rob = []) ∧ (s1.windowCheck p.tenant .read a len = .ok ()) ∧ True) ∧
    (∃ (s : State) (s1 : State) (p : Packet) (now : Nat) (k : Nat) (c : Conn) (a : Nat) (len : Nat), (s.receive p now true = (s1, some (k, c))) ∧ (p.body = .load a len) ∧ (harness p.src ≠ harness s1.me) ∧ (c.seen p.xp.seq = false) ∧ (c.matches_ p = true) ∧ True) ∧
    (∃ (s : State) (s1 : State) (s2 : State) (p : Packet) (now : Nat) (k : Nat) (c : Conn) (a : Nat) (aop : Nat) (opnd : Nat) (cmp : Nat) (v : Nat) (st : Status), (s.receive p now true = (s1, some (k, c))) ∧ (p.body = .atomic (.window a) aop opnd cmp) ∧ (harness p.src = harness s1.me) ∧ (p.xp.seq = c.rcvNxt) ∧ (c.seen p.xp.seq = false) ∧ (c.matches_ p = true) ∧ (s1.xpt.rob = []) ∧ (s1.xpt.results.length < 131072) ∧ (s1.windowCheck p.tenant .atomic a (aopBytes aop) = .ok ()) ∧ (s1.atomAt a aop opnd cmp = (s2, .ok (st, v))) ∧ True) ∧
    (∃ (s : State) (s1 : State) (s2 : State) (s3 : State) (p : Packet) (now : Nat) (k : Nat) (c : Conn) (h : OpHdr) (i : Nat) (g : Region) (a : Nat) (aop : Nat) (opnd : Nat) (cmp : Nat) (v : Nat) (st : Status), (s.receive p now true = (s1, some (k, c))) ∧ (p.body = .atomic (.keyed h) aop opnd cmp) ∧ (c.seen p.xp.seq = false) ∧ (c.matches_ p = true) ∧ (s1.xpt.rob = []) ∧ (s1.xpt.results.length < 131072) ∧ (s1.regionCheck c.localPart h.key p.tenant .atomic h.addr (aopBytes aop) false = .ok (i, g)) ∧ (s1.xlate g.part.val .thread .atomic (g.base + h.addr) = (s2, .pa a)) ∧ (s2.atomAt a aop opnd cmp = (s3, .ok (st, v))) ∧ True) ∧
    (∃ (s : State) (a : Nat) (aop : Nat), (a % aopBytes aop = 0) ∧ (s.memory.target a = .t1) ∧ (s.memory.poisoned a (aopBytes aop) = false) ∧ True) ∧
    (∃ (s : State) (s1 : State) (p : Packet) (now : Nat) (k : Nat) (c : Conn) (g : AtomTarget) (aop : Nat) (opnd : Nat) (cmp : Nat) (r : XResult), (s.receive p now true = (s1, some (k, c))) ∧ (p.body = .atomic g aop opnd cmp) ∧ (c.seen p.xp.seq = true) ∧ (aopFetch aop = true) ∧ (s1.xpt.results.find? (fun x => x.conn == k && x.inc == c.inc && x.seq == p.xp.seq) = some r) ∧ True) ∧
    (∃ (s : State) (s1 : State) (p : Packet) (now : Nat) (k : Nat) (c : Conn) (id : Nat) (round : Nat) (rank : Nat) (leg : Nat) (off : Nat) (total : Nat) (data : List Byte), (s.receive p now true = (s1, some (k, c))) ∧ (p.body = .reduce id round rank leg off total data) ∧ (c.seen p.xp.seq = true) ∧ True) ∧
    (∃ (s : State) (s1 : State) (p : Packet) (now : Nat) (k : Nat) (c : Conn) (id : Nat) (round : Nat) (rank : Nat) (leg : Nat) (off : Nat) (total : Nat) (data : List Byte), (s.receive p now true = (s1, some (k, c))) ∧ (p.body = .reduce id round rank leg off total data) ∧ (c.seen p.xp.seq = false) ∧ (c.matches_ p = true) ∧ (afind s1.xpt.groups (groupKey c.localPart.val id) = none) ∧ True) ∧
    (∃ (s : State) (s1 : State) (p : Packet) (now : Nat) (k : Nat) (c : Conn) (id : Nat) (round : Nat) (rank : Nat) (leg : Nat) (off : Nat) (total : Nat) (data : List Byte), (s.receive p now true = (s1, some (k, c))) ∧ (p.body = .reduce id round rank leg off total data) ∧ ∃ (g : XGroup) (mine : Nat), (c.seen p.xp.seq = false) ∧ (c.matches_ p = true) ∧ (afind s1.xpt.groups (groupKey c.localPart.val id) = some g) ∧ (g.rankOf p.src p.part = some rank) ∧ (g.rankOf s1.me c.localPart = some mine) ∧ True) ∧
    (∃ (s : State) (s1 : State) (p : Packet) (now : Nat) (k : Nat) (c : Conn) (id : Nat) (round : Nat) (rank : Nat) (leg : Nat) (off : Nat) (total : Nat) (data : List Byte), (s.receive p now true = (s1, some (k, c))) ∧ (p.body = .reduce id round rank leg off total data) ∧ ∃ (g : XGroup) (mine : Nat), (c.seen p.xp.seq = false) ∧ (c.matches_ p = true) ∧ (afind s1.xpt.groups (groupKey c.localPart.val id) = some g) ∧ (g.rankOf p.src p.part = some rank) ∧ (g.rankOf s1.me c.localPart = some mine) ∧ ∃ (g1 : XGroup), (g1 = { g with inputs := aput g.inputs (pieceKey round leg rank off) data }) ∧ (leg = 0) ∧ (((g1.inHarness (harness s1.me)).all fun i => (g1.piece round 0 i).length == total) = false) ∧ True) ∧
    (∃ (s : State) (s1 : State) (p : Packet) (now : Nat) (k : Nat) (c : Conn) (id : Nat) (slot : Nat) (col : Collector), (s.receive p now true = (s1, some (k, c))) ∧ (p.body = .complete id slot []) ∧ (c.seen p.xp.seq = false) ∧ (c.matches_ p = true) ∧ (afind s1.xpt.collectors (groupKey c.localPart.val id) = some col) ∧ (col.n ≤ slot) ∧ True) ∧
    (∃ (s : State) (s1 : State) (p : Packet) (now : Nat) (k : Nat) (c : Conn) (id : Nat) (slot : Nat) (col : Collector), (s.receive p now true = (s1, some (k, c))) ∧ (p.body = .complete id slot []) ∧ (c.seen p.xp.seq = false) ∧ (c.matches_ p = true) ∧ (afind s1.xpt.collectors (groupKey c.localPart.val id) = some col) ∧ ∃ (j : Nat), (slot < col.n) ∧ (agetD col.slots slot 0 < 255) ∧ (j < col.n) ∧ (j ≠ slot) ∧ (agetD col.slots j 0 = 0) ∧ True) :=
  ⟨⟨(xr cn0), (((xr cn0 : State).receive (pkSeq (pk 0x10 (.put hdk none [1])) 8 : Packet) (9 : Nat) true).1), (pkSeq (pk 0x10 (.put hdk none [1])) 8), (9), (3), (connOf ((xr cn0 : State).receive (pkSeq (pk 0x10 (.put hdk none [1])) 8 : Packet) (9 : Nat) true)), (hdk), (none), ([1]), (receivedOk (by decide +kernel)), by decide +kernel⟩,
   ⟨(xr cn0), (((xr cn0 : State).receive ({ pk 0x10 (.put hdk none [1]) with part := 15 } : Packet) (9 : Nat) true).1), ({ pk 0x10 (.put hdk none [1]) with part := 15 }), (9), (3), (connOf ((xr cn0 : State).receive ({ pk 0x10 (.put hdk none [1]) with part := 15 } : Packet) (9 : Nat) true)), (hdk), (none), ([1]), (receivedOk (by decide +kernel)), by decide +kernel⟩,
   ⟨(xc cn0), (((xc cn0 : State).receive (pk 0x10 (.put hdk none [1]) : Packet) (9 : Nat) true).1), (pk 0x10 (.put hdk none [1])), (9), (3), (connOf ((xc cn0 : State).receive (pk 0x10 (.put hdk none [1]) : Packet) (9 : Nat) true)), (hdk), (none), ([1]), (receivedOk (by decide +kernel)), by decide +kernel, (.protection), by decide +kernel, by decide +kernel, by decide +kernel, (errIs (by decide +kernel)), trivial⟩,
   ⟨(xr cn0), (((xr cn0 : State).receive (pk 0x10 (.put hdk none [1]) : Packet) (9 : Nat) true).1), (pk 0x10 (.put hdk none [1])), (9), (3), (connOf ((xr cn0 : State).receive (pk 0x10 (.put hdk none [1]) : Packet) (9 : Nat) true)), (hdk), (none), ([1]), (receivedOk (by decide +kernel)), by decide +kernel, (((((xr cn0 : State).receive (pk 0x10 (.put hdk none [1]) : Packet) (9 : Nat) true).1 : State).writeVa rg0.part.val .thread (rg0.base + hdk.addr) ([1] : List Byte)).1), (1), (rg0), by decide +kernel, by decide +kernel, by decide +kernel, by decide +kernel, (okIs (by decide +kernel)), (pairOk (by decide +kernel)), trivial⟩,
   ⟨(xr cn0), (((xr cn0 : State).receive ({ pk 0x11 (.get hdk) with part := 15 } : Packet) (9 : Nat) true).1), ({ pk 0x11 (.get hdk) with part := 15 }), (9), (3), (connOf ((xr cn0 : State).receive ({ pk 0x11 (.get hdk) with part := 15 } : Packet) (9 : Nat) true)), (hdk), (receivedOk (by decide +kernel)), by decide +kernel⟩,
   ⟨(xr cn0), (((xr cn0 : State).receive (pk 0x11 (.get hdk) : Packet) (9 : Nat) true).1), (pk 0x11 (.get hdk)), (9), (3), (connOf ((xr cn0 : State).receive (pk 0x11 (.get hdk) : Packet) (9 : Nat) true)), (hdk), (receivedOk (by decide +kernel)), by decide +kernel, by decide +kernel, (((((xr cn0 : State).receive (pk 0x11 (.get hdk) : Packet) (9 : Nat) true).1 : State).xlateRange rg0.part.val .thread .read (rg0.base + hdk.addr) hdk.msgLen).1), ([(0x100000, 64)]), (1), (rg0), by decide +kernel, by decide +kernel, (okIs (by decide +kernel)), (pairOk (by decide +kernel)), by decide +kernel⟩,
   ⟨(xr cn1), (((xr cn1 : State).receive (pk1 0x13 (.store 0x200000 1 [1]) : Packet) (9 : Nat) true).1), (pk1 0x13 (.store 0x200000 1 [1])), (9), (3), (connOf ((xr cn1 : State).receive (pk1 0x13 (.store 0x200000 1 [1]) : Packet) (9 : Nat) true)), (0x200000), (1), ([1]), (receivedOk (by decide +kernel)), meet6 (by decide +kernel) ⟨(.protection), (errIs (by decide +kernel)), trivial⟩⟩,
   ⟨(xr cn1), (((xr cn1 : State).receive (pk1 0x13 (.store 0x1FFFFE 2 [1, 2]) : Packet) (9 : Nat) true).1), (pk1 0x13 (.store 0x1FFFFE 2 [1, 2])), (9), (3), (connOf ((xr cn1 : State).receive (pk1 0x13 (.store 0x1FFFFE 2 [1, 2]) : Packet) (9 : Nat) true)), (0x1FFFFE), (2), ([1, 2]), (receivedOk (by decide +kernel)), meet6 (by decide +kernel) ⟨(okIs (by decide +kernel)), trivial⟩⟩,
   ⟨(xr cn1), (((xr cn1 : State).receive (pk1 0x14 (.load 0x200000 8) : Packet) (9 : Nat) true).1), (pk1 0x14 (.load 0x200000 8)), (9), (3), (connOf ((xr cn1 : State).receive (pk1 0x14 (.load 0x200000 8) : Packet) (9 : Nat) true)), (0x200000), (8), (receivedOk (by decide +kernel)), meet6 (by decide +kernel) ⟨(.protection), (errIs (by decide +kernel)), trivial⟩⟩,
   ⟨(xr cn1), (((xr cn1 : State).receive (pk1 0x14 (.load 0x1FFFF8 8) : Packet) (9 : Nat) true).1), (pk1 0x14 (.load 0x1FFFF8 8)), (9), (3), (connOf ((xr cn1 : State).receive (pk1 0x14 (.load 0x1FFFF8 8) : Packet) (9 : Nat) true)), (0x1FFFF8), (8), (receivedOk (by decide +kernel)), meet6 (by decide +kernel) ⟨(okIs (by decide +kernel)), trivial⟩⟩,
   ⟨(xr { cn0 with peerDev := 0x3FC1 }), (((xr { cn0 with peerDev := 0x3FC1 } : State).receive ({ pk 0x14 (.load 0x1FFFF8 8) with src := 0x3FC1 } : Packet) (9 : Nat) true).1), ({ pk 0x14 (.load 0x1FFFF8 8) with src := 0x3FC1 }), (9), (3), (connOf ((xr { cn0 with peerDev := 0x3FC1 } : State).receive ({ pk 0x14 (.load 0x1FFFF8 8) with src := 0x3FC1 } : Packet) (9 : Nat) true)), (0x1FFFF8), (8), (receivedOk (by decide +kernel)), by decide +kernel⟩,
   ⟨(xr cn1), (((xr cn1 : State).receive (pk1 0x16 (.atomic (.window 0x100000) 0x20 5 0) : Packet) (9 : Nat) true).1), (((((xr cn1 : State).receive (pk1 0x16 (.atomic (.window 0x100000) 0x20 5 0) : Packet) (9 : Nat) true).1 : State).atomAt (0x100000 : Nat) (0x20 : Nat) (5 : Nat) (0 : Nat)).1), (pk1 0x16 (.atomic (.window 0x100000) 0x20 5 0)), (9), (3), (connOf ((xr cn1 : State).receive (pk1 0x16 (.atomic (.window 0x100000) 0x20 5 0) : Packet) (9 : Nat) true)), (0x100000), (0x20), (5), (0), (7), (.ok), (receivedOk (by decide +kernel)), meet6 (by decide +kernel) ⟨by decide +kernel, (okIs (by decide +kernel)), (pairOk (by decide +kernel)), trivial⟩⟩,
   ⟨(xr cn0), (((xr cn0 : State).receive (pk 0x16 (.atomic (.keyed hdk) 0x20 5 0) : Packet) (9 : Nat) true).1), (((((xr cn0 : State).receive (pk 0x16 (.atomic (.keyed hdk) 0x20 5 0) : Packet) (9 : Nat) true).1 : State).xlate rg0.part.val .thread .atomic (rg0.base + hdk.addr)).1), (((((((xr cn0 : State).receive (pk 0x16 (.atomic (.keyed hdk) 0x20 5 0) : Packet) (9 : Nat) true).1 : State).xlate rg0.part.val .thread .atomic (rg0.base + hdk.addr)).1 : State).atomAt (0x100000 : Nat) (0x20 : Nat) (5 : Nat) (0 : Nat)).1), (pk 0x16 (.atomic (.keyed hdk) 0x20 5 0)), (9), (3), (connOf ((xr cn0 : State).receive (pk 0x16 (.atomic (.keyed hdk) 0x20 5 0) : Packet) (9 : Nat) true)), (hdk), (1), (rg0), (0x100000), (0x20), (5), (0), (7), (.ok), (receivedOk (by decide +kernel)), by decide +kernel, by decide +kernel, by decide +kernel, by decide +kernel, by decide +kernel, (okIs (by decide +kernel)), by decide +kernel, (pairOk (by decide +kernel)), trivial⟩,
   ⟨(xr cn1), (0x100000), (0x20), by decide +kernel⟩,
   ⟨(xs { Xpt.reset with conns := [(3, cn0)], results := [⟨3, 1, 8, .ok, 7⟩] }), (((xs { Xpt.reset with conns := [(3, cn0)], results := [⟨3, 1, 8, .ok, 7⟩] } : State).receive (pkSeq (pk 0x16 (.atomic (.window 0x100000) 0x20 5 0)) 8 : Packet) (9 : Nat) true).1), (pkSeq (pk 0x16 (.atomic (.window 0x100000) 0x20 5 0)) 8), (9), (3), (connOf ((xs { Xpt.reset with conns := [(3, cn0)], results := [⟨3, 1, 8, .ok, 7⟩] } : State).receive (pkSeq (pk 0x16 (.atomic (.window 0x100000) 0x20 5 0)) 8 : Packet) (9 : Nat) true)), (.window 0x100000), (0x20), (5), (0), (⟨3, 1, 8, .ok, 7⟩), (receivedOk (by decide +kernel)), by decide +kernel⟩,
   ⟨(xg), ((xg.receive (pkSeq (pk 0x18 (.reduce 6 0 1 0 0 4 [0, 0, 0, 0])) 8 : Packet) (9 : Nat) true).1), (pkSeq (pk 0x18 (.reduce 6 0 1 0 0 4 [0, 0, 0, 0])) 8), (9), (3), (connOf (xg.receive (pkSeq (pk 0x18 (.reduce 6 0 1 0 0 4 [0, 0, 0, 0])) 8 : Packet) (9 : Nat) true)), (6), (0), (1), (0), (0), (4), ([0, 0, 0, 0]), (receivedOk (by decide +kernel)), by decide +kernel⟩,
   ⟨(xc cn0), (((xc cn0 : State).receive (pk 0x18 (.reduce 6 0 1 0 0 4 [0, 0, 0, 0]) : Packet) (9 : Nat) true).1), (pk 0x18 (.reduce 6 0 1 0 0 4 [0, 0, 0, 0])), (9), (3), (connOf ((xc cn0 : State).receive (pk 0x18 (.reduce 6 0 1 0 0 4 [0, 0, 0, 0]) : Packet) (9 : Nat) true)), (6), (0), (1), (0), (0), (4), ([0, 0, 0, 0]), (receivedOk (by decide +kernel)), by decide +kernel⟩,
   ⟨(xg), ((xg.receive (pk 0x18 (.reduce 6 0 1 1 0 4 [0, 0, 0, 0]) : Packet) (9 : Nat) true).1), (pk 0x18 (.reduce 6 0 1 1 0 4 [0, 0, 0, 0])), (9), (3), (connOf (xg.receive (pk 0x18 (.reduce 6 0 1 1 0 4 [0, 0, 0, 0]) : Packet) (9 : Nat) true)), (6), (0), (1), (1), (0), (4), ([0, 0, 0, 0]), (receivedOk (by decide +kernel)), by decide +kernel, (grp0), (0), by decide +kernel⟩,
   ⟨(xg), ((xg.receive (pk 0x18 (.reduce 6 0 1 0 0 4 [0, 0, 0, 0]) : Packet) (9 : Nat) true).1), (pk 0x18 (.reduce 6 0 1 0 0 4 [0, 0, 0, 0])), (9), (3), (connOf (xg.receive (pk 0x18 (.reduce 6 0 1 0 0 4 [0, 0, 0, 0]) : Packet) (9 : Nat) true)), (6), (0), (1), (0), (0), (4), ([0, 0, 0, 0]), (receivedOk (by decide +kernel)), by decide +kernel, (grp0), (0), by decide +kernel, by decide +kernel, by decide +kernel, by decide +kernel, by decide +kernel, ({ grp0 with inputs := aput grp0.inputs (pieceKey 0 0 1 0) [0, 0, 0, 0] }), by decide +kernel⟩,
   ⟨(xcol), ((xcol.receive (pk 0x19 (.complete 6 2 []) : Packet) (9 : Nat) true).1), (pk 0x19 (.complete 6 2 [])), (9), (3), (connOf (xcol.receive (pk 0x19 (.complete 6 2 []) : Packet) (9 : Nat) true)), (6), (2), (col0), (receivedOk (by decide +kernel)), by decide +kernel⟩,
   ⟨(xcol), ((xcol.receive (pk 0x19 (.complete 6 1 []) : Packet) (9 : Nat) true).1), (pk 0x19 (.complete 6 1 [])), (9), (3), (connOf (xcol.receive (pk 0x19 (.complete 6 1 []) : Packet) (9 : Nat) true)), (6), (1), (col0), (receivedOk (by decide +kernel)), by decide +kernel, by decide +kernel, by decide +kernel, by decide +kernel, (0), by decide +kernel⟩⟩

theorem meets_AnswersAndRecords :
    (∃ (s : State) (s1 : State) (s2 : State) (p : Packet) (now : Nat) (k : Nat) (c : Conn) (h : OpHdr) (data : List Byte) (o : XOp), (s.receive p now true = (s1, some (k, c))) ∧ (p.body = .getData h data) ∧ (c.seen p.xp.seq = false) ∧ (s1.xpt.rob = []) ∧ (afind s1.xpt.ops p.xp.tag.toNat = some o) ∧ (o.kind = .get) ∧ (o.conn = k) ∧ (o.done = false) ∧ ((h.addr - o.raddr) ∉ o.got) ∧ (s1.writeVa o.part.val .thread (o.laddr + (h.addr - o.raddr)) data = (s2, .ok ())) ∧ True) ∧
    (∃ (s : State) (s1 : State) (p : Packet) (now : Nat) (k : Nat) (c : Conn) (data : List Byte) (o : XOp) (x : Sent) (core : Nat) (th : Nat) (rd : Nat) (width : Nat) (signed : Bool), (s.receive p now true = (s1, some (k, c))) ∧ (p.body = .loadData .ok data) ∧ (c.sent.find? (fun y => y.pkt.xp.tag == p.xp.tag && y.pkt.xp.seq == p.xp.seq) = some x) ∧ (afind s1.xpt.ops p.xp.tag.toNat = some o) ∧ (o.done = false) ∧ (o.kind = .load) ∧ (o.origin = .thread core th rd width signed) ∧ True) ∧
    (∃ (s : State) (s1 : State) (p : Packet) (now : Nat) (k : Nat) (v : Nat) (c : Conn) (o : XOp) (x : Sent) (core : Nat) (th : Nat) (rd : Nat) (width : Nat) (signed : Bool), (s.receive p now true = (s1, some (k, c))) ∧ (p.body = .atomicData .ok v) ∧ (c.sent.find? (fun y => y.pkt.xp.tag == p.xp.tag && y.pkt.xp.seq == p.xp.seq) = some x) ∧ (afind s1.xpt.ops p.xp.tag.toNat = some o) ∧ (o.done = false) ∧ (o.kind = .atomic) ∧ (o.origin = .thread core th rd width signed) ∧ True) ∧
    (∃ (s : State) (s1 : State) (p : Packet) (now : Nat) (a : Nat) (r : CombRec) (y : Constituent) (c : Conn), (p.body = .combined r) ∧ (s.xpt.ready = true) ∧ (p.trailerOk = true) ∧ ((s.at_ now).expired p = false) ∧ (r.list_ = [y]) ∧ ((s.at_ now).constituentConn y = some c) ∧ (s.xpt.results.length < 131072) ∧ (s.xpt.rob = []) ∧ ((r.keyed = true ∨ y.seq = c.rcvNxt)) ∧ ((s.at_ now).recordTarget c r = (s1, .ok a)) ∧ (s1.memory.target a = .t1) ∧ (s1.memory.poisoned a (aopBytes r.aop) = false) ∧ True) ∧
    (∃ (p : Packet) (base : Nat) (st : Status) (r : CombRec), (p.body = .combinedData base st r) ∧ (p.trailerOk = true) ∧ True) ∧
    (∃ (s : State) (p : Packet) (now : Nat) (inc : Fin 4096) (seq : BitVec 32) (r : XResult), (p.body = .query inc seq) ∧ (s.xpt.ready = true) ∧ (p.trailerOk = true) ∧ ((s.at_ now).expired p = false) ∧ (s.conn p.xp.conn.val = none) ∧ (s.xpt.failed.any (fun f => f.conn == p.xp.conn.val && f.inc == inc && f.peer == p.src && decide (now < f.until_)) = true) ∧ (s.xpt.results.find? (fun x => x.conn == p.xp.conn.val && x.inc == inc && x.seq == seq) = some r) ∧ True) ∧
    (∃ (s : State) (p : Packet) (v : Nat) (b : Bool) (d : DeviceId) (r : ReplyTo), (p.body = .queryData (some b) v) ∧ (p.trailerOk = true) ∧ (afind s.xpt.queries p.xp.tag.toNat = some (d, r)) ∧ True) ∧
    (∃ (s : State) (conn : Nat) (now : Nat) (inc : Fin 4096), (s.xpt.failed.any (fun f => f.conn == conn && f.inc == inc && decide (f.until_ ≤ now)) = true) ∧ True) :=
  ⟨⟨(xo cnS { op0 with kind := .get, left := 64 }), (((xo cnS { op0 with kind := .get, left := 64 } : State).receive (pk 0x12 (.getData { hdk with addr := 0 } [1]) : Packet) (9 : Nat) true).1), (((((xo cnS { op0 with kind := .get, left := 64 } : State).receive (pk 0x12 (.getData { hdk with addr := 0 } [1]) : Packet) (9 : Nat) true).1 : State).writeVa ({ op0 with kind := .get, left := 64 } : XOp).part.val .thread (({ op0 with kind := .get, left := 64 } : XOp).laddr + (({ hdk with addr := 0 } : OpHdr).addr - ({ op0 with kind := .get, left := 64 } : XOp).raddr)) ([1] : List Byte)).1), (pk 0x12 (.getData { hdk with addr := 0 } [1])), (9), (3), (connOf ((xo cnS { op0 with kind := .get, left := 64 } : State).receive (pk 0x12 (.getData { hdk with addr := 0 } [1]) : Packet) (9 : Nat) true)), ({ hdk with addr := 0 }), ([1]), ({ op0 with kind := .get, left := 64 }), (receivedOk (by decide +kernel)), meet6 (by decide +kernel) ⟨by decide +kernel, by decide +kernel, (pairOk (by decide +kernel)), trivial⟩⟩,
   ⟨(thrS { op0 with kind := .load, origin := .thread 0 1 10 2 true }), (((thrS { op0 with kind := .load, origin := .thread 0 1 10 2 true } : State).receive (pkSeq (pk 0x15 (.loadData .ok [0xFE, 0xFF])) 7 : Packet) (9 : Nat) true).1), (pkSeq (pk 0x15 (.loadData .ok [0xFE, 0xFF])) 7), (9), (3), (connOf ((thrS { op0 with kind := .load, origin := .thread 0 1 10 2 true } : State).receive (pkSeq (pk 0x15 (.loadData .ok [0xFE, 0xFF])) 7 : Packet) (9 : Nat) true)), ([0xFE, 0xFF]), ({ op0 with kind := .load, origin := .thread 0 1 10 2 true }), (sent0), (0), (1), (10), (2), (true), (receivedOk (by decide +kernel)), by decide +kernel⟩,
   ⟨(thrS { op0 with kind := .atomic, origin := .thread 0 1 10 4 true }), (((thrS { op0 with kind := .atomic, origin := .thread 0 1 10 4 true } : State).receive (pkSeq (pk 0x17 (.atomicData .ok 7)) 7 : Packet) (9 : Nat) true).1), (pkSeq (pk 0x17 (.atomicData .ok 7)) 7), (9), (3), (7), (connOf ((thrS { op0 with kind := .atomic, origin := .thread 0 1 10 4 true } : State).receive (pkSeq (pk 0x17 (.atomicData .ok 7)) 7 : Packet) (9 : Nat) true)), ({ op0 with kind := .atomic, origin := .thread 0 1 10 4 true }), (sent0), (0), (1), (10), (4), (true), (receivedOk (by decide +kernel)), by decide +kernel⟩,
   ⟨(xr cn0), ((((xr cn0 : State).at_ (9 : Nat)).recordTarget cn0 comb0).1), (pk 0x1A (.combined comb0)), (9), (0), (comb0), (cons0), (cn0), meet6 (by decide +kernel) ⟨by decide +kernel, by decide +kernel, by decide +kernel, (pairOk (by decide +kernel)), by decide +kernel⟩⟩,
   ⟨(pk 0x1B (.combinedData 5 .ok comb0)), (5), (.ok), (comb0), by decide +kernel⟩,
   ⟨(xs { Xpt.reset with failed := [⟨3, 1, 0x0021, 100⟩], results := [⟨3, 1, 7, .ok, 6⟩] }), (pk 0x24 (.query 1 7)), (9), (1), (7), (⟨3, 1, 7, .ok, 6⟩), by decide +kernel⟩,
   ⟨(xs { Xpt.reset with queries := [(4, (0x0021, ⟨.fabric 0x0021 false 0 0 0, 0x0506, 7, 0, 1⟩))] }), (pk 0x25 (.queryData (some true) 6)), (6), (true), (0x0021), (⟨.fabric 0x0021 false 0 0 0, 0x0506, 7, 0, 1⟩), by decide +kernel⟩,
   ⟨(xs { Xpt.reset with failed := [⟨3, 1, 0x0021, 100⟩], results := [⟨3, 1, 7, .ok, 6⟩, ⟨4, 1, 7, .ok, 6⟩], conns := [(3, { cn0 with state := .failed })] }), (3), (100), (1), by decide +kernel⟩⟩

theorem meets_TransportCommands :
    (∃ (s : State) (s1 : State) (h : Header) (r : ReplyTo) (base : Nat) (length : Nat) (perms : Nat) (rsv : Nat), (s.Serves ⟨0x0500, 1, true, true, 24, rsv, 0, false⟩ h false r s1) ∧ (perms < 8) ∧ (base % 65536 = 0) ∧ (length % 65536 = 0) ∧ (0 < length) ∧ (length ≤ 2 ^ 40) ∧ ((∀ i, i < length / 65536 → (s1.mappedPage h.part.val (base + i * 65536)).isSome = true)) ∧ (s1.xpt.regions.length < 65536) ∧ True) ∧
    (∃ (s : State) (s1 : State) (h : Header) (r : ReplyTo) (base : Nat) (length : Nat) (perms : Nat) (rsv : Nat), (s.Serves ⟨0x0500, 1, true, true, 24, rsv, 0, false⟩ h false r s1) ∧ (base % 65536 ≠ 0 ∨ length = 0 ∨ 2 ^ 40 < length ∨ 8 ≤ perms) ∧ True) ∧
    (∃ (s : State) (s1 : State) (h : Header) (r : ReplyTo) (key : BitVec 64) (g : Region), (s.Serves ⟨0x0501, 2, true, false, 8, 0, 0, false⟩ h false r s1) ∧ (afind s1.xpt.regions (keyIndex key) = some g) ∧ (g.draw.toNat = key.toNat % 2 ^ 48) ∧ (h.owns g.part = true) ∧ True) ∧
    (∃ (s : State) (s1 : State) (h : Header) (r : ReplyTo) (key : BitVec 64), (s.Serves ⟨0x0501, 2, true, false, 8, 0, 0, false⟩ h false r s1) ∧ (afind s1.xpt.regions (keyIndex key) = none) ∧ True) ∧
    (∃ (s : State) (index : Nat) (g : Region), (afind s.xpt.regions index = some g) ∧ (g.revoking.isSome = true) ∧ ((∀ e ∈ s.xpt.stitch, e.holds index = false)) ∧ True) ∧
    (∃ (s : State) (index : Nat) (now : Nat) (t0 : Nat) (g : Region), (afind s.xpt.regions index = some g) ∧ (g.revoking = some t0) ∧ (t0 + 1000000 ≤ now) ∧ True) ∧
    (∃ (s : State) (s1 : State) (h : Header) (r : ReplyTo) (entries : Nat) (ring : Nat) (rsv : Nat), (s.Serves ⟨0x0503, 1, true, true, 16, rsv, 0, false⟩ h false r s1) ∧ (isPow2 16 65536 entries = true) ∧ (ring % 64 = 0) ∧ (s1.xpt.queues.length < 16384) ∧ True) ∧
    (∃ (s : State) (s1 : State) (h : Header) (r : ReplyTo) (queue : Nat) (rsv : Nat) (x : XQueue), (s.Serves ⟨0x0504, 2, true, false, 4, rsv, 0, false⟩ h false r s1) ∧ (afind s1.xpt.queues queue = some x) ∧ (h.owns x.part = true) ∧ True) ∧
    (∃ (s : State) (s1 : State) (h : Header) (r : ReplyTo) (conn : Nat) (outAddr : BitVec 64) (rsv : Nat) (c : Conn), (s.Serves ⟨0x0505, 1, true, false, 16, rsv, outAddr.toNat, false⟩ h false r s1) ∧ (conn < s1.fld Reg.xptConnCfg 20 0) ∧ (s1.conn conn = some c) ∧ (h.origin.partition = none) ∧ True) ∧
    (∃ (s : State) (s1 : State) (h : Header) (r : ReplyTo) (dev : DeviceId) (rsv : Nat) (tag : Nat), (s.Serves ⟨0x0506, 1, true, false, 16, rsv, 0, false⟩ h false r s1) ∧ (dev.toNat < 2 ^ 14) ∧ (harness dev ≠ harness s1.me) ∧ (dev ∉ s1.lnk.lost) ∧ (s1.freeTag = some tag) ∧ True) ∧
    (∃ (s : State) (s1 : State) (h : Header) (r : ReplyTo) (collector : Nat) (bit : Nat) (n : Nat) (rsv : Nat), (s.Serves ⟨0x0507, 1, true, false, 8, rsv, 0, false⟩ h false r s1) ∧ (collector < 4096) ∧ (bit < 16384) ∧ (1 ≤ n) ∧ (n ≤ 16384) ∧ (afind s1.xpt.collectors (groupKey h.part.val collector) = none) ∧ True) ∧
    (∃ (s : State) (s1 : State) (h : Header) (r : ReplyTo) (group : Nat) (ranks : List DevPart) (rsv : Nat), (s.Serves ⟨0x0508, 1, true, false, 8 + 4 * ranks.length, rsv, 0, false⟩ h false r s1) ∧ (ranks ≠ []) ∧ (ranks.length ≤ 4096) ∧ ((∀ d ∈ ranks, d.dev.toNat < 2 ^ 14)) ∧ (group < 65536) ∧ (afind s1.xpt.groups (groupKey h.part.val group) = none) ∧ True) ∧
    (∃ (s : State) (s1 : State) (h : Header) (r : ReplyTo) (rsv : Nat), (s.Serves ⟨0x0509, 1, true, false, 4, rsv, 0, false⟩ h false r s1) ∧ True) :=
  ⟨⟨(((regs0.setReg Reg.memS2RootLo 0x10001).setReg (Reg.memS1RootLo 0) 0x00000001).acc 0x0500), (taken (((regs0.setReg Reg.memS2RootLo 0x10001).setReg (Reg.memS1RootLo 0) 0x00000001).acc 0x0500 : State) ⟨0x0500, 1, true, true, 24, (0 : Nat), 0, false⟩ (hd 56 : Header) false), (hd 56), (replyOf (((regs0.setReg Reg.memS2RootLo 0x10001).setReg (Reg.memS1RootLo 0) 0x00000001).acc 0x0500 : State) ⟨0x0500, 1, true, true, 24, (0 : Nat), 0, false⟩ (hd 56 : Header) false), (0), (65536), (7), (0), (served (by decide +kernel) (by decide +kernel) (by decide +kernel)), by decide +kernel⟩,
   ⟨(regs0.acc 0x0500), (taken (regs0.acc 0x0500 : State) ⟨0x0500, 1, true, true, 24, (0 : Nat), 0, false⟩ (hd 56 : Header) false), (hd 56), (replyOf (regs0.acc 0x0500 : State) ⟨0x0500, 1, true, true, 24, (0 : Nat), 0, false⟩ (hd 56 : Header) false), (65536), (65536), (8), (0), (served (by decide +kernel) (by decide +kernel) (by decide +kernel)), by decide +kernel⟩,
   ⟨((xr cn0).acc 0x0501), (taken ((xr cn0).acc 0x0501 : State) ⟨0x0501, 2, true, false, 8, 0, 0, false⟩ (hd 40 : Header) false), (hd 40), (replyOf ((xr cn0).acc 0x0501 : State) ⟨0x0501, 2, true, false, 8, 0, 0, false⟩ (hd 40 : Header) false), (0x0001000000000005), (rg0), (served (by decide +kernel) (by decide +kernel) (by decide +kernel)), by decide +kernel⟩,
   ⟨((xr cn0).acc 0x0501), (taken ((xr cn0).acc 0x0501 : State) ⟨0x0501, 2, true, false, 8, 0, 0, false⟩ (hd 40 : Header) false), (hd 40), (replyOf ((xr cn0).acc 0x0501 : State) ⟨0x0501, 2, true, false, 8, 0, 0, false⟩ (hd 40 : Header) false), (0x0002000000000005), (served (by decide +kernel) (by decide +kernel) (by decide +kernel)), by decide +kernel⟩,
   ⟨(xs { Xpt.reset with regions := [(1, { rg0 with revoking := some 4 })], winMap := [(0, 1), (1, 2)] }), (1), ({ rg0 with revoking := some 4 }), by decide +kernel⟩,
   ⟨(xs { Xpt.reset with regions := [(1, { rg0 with revoking := some 4 })], winMap := [(0, 1), (1, 2)] }), (1), (1000004), (4), ({ rg0 with revoking := some 4 }), by decide +kernel⟩,
   ⟨((xs Xpt.reset).acc 0x0503), (taken ((xs Xpt.reset).acc 0x0503 : State) ⟨0x0503, 1, true, true, 16, (0 : Nat), 0, false⟩ (hd 48 : Header) false), (hd 48), (replyOf ((xs Xpt.reset).acc 0x0503 : State) ⟨0x0503, 1, true, true, 16, (0 : Nat), 0, false⟩ (hd 48 : Header) false), (65536), (64), (0), (served (by decide +kernel) (by decide +kernel) (by decide +kernel)), by decide +kernel⟩,
   ⟨((xs { Xpt.reset with queues := [(2, { xq0 with open_ := [0] })] }).acc 0x0504), (taken ((xs { Xpt.reset with queues := [(2, { xq0 with open_ := [0] })] }).acc 0x0504 : State) ⟨0x0504, 2, true, false, 4, (0 : Nat), 0, false⟩ (hd 36 : Header) false), (hd 36), (replyOf ((xs { Xpt.reset with queues := [(2, { xq0 with open_ := [0] })] }).acc 0x0504 : State) ⟨0x0504, 2, true, false, 4, (0 : Nat), 0, false⟩ (hd 36 : Header) false), (2), (0), ({ xq0 with open_ := [0] }), (served (by decide +kernel) (by decide +kernel) (by decide +kernel)), by decide +kernel⟩,
   ⟨((xc cn0).acc 0x0505), (taken ((xc cn0).acc 0x0505 : State) ⟨0x0505, 1, true, false, 16, (0 : Nat), (0 : BitVec 64).toNat, false⟩ (hd 48 : Header) false), (hd 48), (replyOf ((xc cn0).acc 0x0505 : State) ⟨0x0505, 1, true, false, 16, (0 : Nat), (0 : BitVec 64).toNat, false⟩ (hd 48 : Header) false), (3), (0), (0), (cn0), (served (by decide +kernel) (by decide +kernel) (by decide +kernel)), by decide +kernel⟩,
   ⟨((xs Xpt.reset).acc 0x0506), (taken ((xs Xpt.reset).acc 0x0506 : State) ⟨0x0506, 1, true, false, 16, (0 : Nat), 0, false⟩ (hd 48 : Header) false), (hd 48), (replyOf ((xs Xpt.reset).acc 0x0506 : State) ⟨0x0506, 1, true, false, 16, (0 : Nat), 0, false⟩ (hd 48 : Header) false), (0x3FFF), (0), (0), (served (by decide +kernel) (by decide +kernel) (by decide +kernel)), by decide +kernel⟩,
   ⟨((xs Xpt.reset).acc 0x0507), (taken ((xs Xpt.reset).acc 0x0507 : State) ⟨0x0507, 1, true, false, 8, (0 : Nat), 0, false⟩ (hd 40 : Header) false), (hd 40), (replyOf ((xs Xpt.reset).acc 0x0507 : State) ⟨0x0507, 1, true, false, 8, (0 : Nat), 0, false⟩ (hd 40 : Header) false), (4095), (16383), (16384), (0), (served (by decide +kernel) (by decide +kernel) (by decide +kernel)), by decide +kernel⟩,
   ⟨((xs Xpt.reset).acc 0x0508), (taken ((xs Xpt.reset).acc 0x0508 : State) ⟨0x0508, 1, true, false, 8 + 4 * ([⟨0, 0⟩] : List DevPart).length, (0 : Nat), 0, false⟩ (hd 44 : Header) false), (hd 44), (replyOf ((xs Xpt.reset).acc 0x0508 : State) ⟨0x0508, 1, true, false, 8 + 4 * ([⟨0, 0⟩] : List DevPart).length, (0 : Nat), 0, false⟩ (hd 44 : Header) false), (65535), ([⟨0, 0⟩]), (0), (served (by decide +kernel) (by decide +kernel) (by decide +kernel)), by decide +kernel⟩,
   ⟨(xcol.acc 0x0509), (taken (xcol.acc 0x0509 : State) ⟨0x0509, 1, true, false, 4, (0 : Nat), 0, false⟩ (hd 36 : Header) false), (hd 36), (replyOf (xcol.acc 0x0509 : State) ⟨0x0509, 1, true, false, 4, (0 : Nat), 0, false⟩ (hd 36 : Header) false), (0), (served (by decide +kernel) (by decide +kernel) (by decide +kernel)), trivial⟩⟩

theorem meets_QueueEntries :
    (∃ (s : State) (s2 : State) (queue : Nat) (now : Nat) (x : XQueue) (l : List Byte), (afind s.xpt.queues queue = some x) ∧ (s.xpt.ready = true) ∧ (x.destroying = []) ∧ (x.parked = []) ∧ ((s.part x.part.val).state = .ready) ∧ ((s.at_ now).readVa x.part.val .thread (x.entryVa x.next) 64 = (s2, .ok l)) ∧ ((XDesc.ofBytes l).own ≠ b2n x.phase) ∧ True) ∧
    (∃ (s : State) (s2 : State) (queue : Nat) (now : Nat) (tag : Nat) (x : XQueue) (l : List Byte) (st : Status), (afind s.xpt.queues queue = some x) ∧ (s.xpt.ready = true) ∧ (x.destroying = []) ∧ (x.parked = []) ∧ ((s.part x.part.val).state = .ready) ∧ ((s.at_ now).readVa x.part.val .thread (x.entryVa x.next) 64 = (s2, .ok l)) ∧ ((XDesc.ofBytes l).own = b2n x.phase) ∧ ((XDesc.ofBytes l).fence = false) ∧ (s2.freeTag = some tag) ∧ ((XDesc.ofBytes l).check = some st) ∧ True) ∧
    (∃ (s : State) (s2 : State) (queue : Nat) (now : Nat) (tag : Nat) (x : XQueue) (l : List Byte), (afind s.xpt.queues queue = some x) ∧ (s.xpt.ready = true) ∧ (x.destroying = []) ∧ (x.parked = []) ∧ ((s.part x.part.val).state = .ready) ∧ ((s.at_ now).readVa x.part.val .thread (x.entryVa x.next) 64 = (s2, .ok l)) ∧ ∃ (s3 : State) (parts : List (Nat × Nat)), ((XDesc.ofBytes l).own = b2n x.phase) ∧ ((XDesc.ofBytes l).fence = false) ∧ (s2.freeTag = some tag) ∧ ((XDesc.ofBytes l).check = none) ∧ ((XDesc.ofBytes l).op = 1) ∧ (s2.xlateRange x.part.val .thread .read (XDesc.ofBytes l).laddr (XDesc.ofBytes l).len = (s3, .ok parts)) ∧ (s3.partsPoisoned parts = true) ∧ True) ∧
    (∃ (s : State) (s2 : State) (queue : Nat) (now : Nat) (tag : Nat) (x : XQueue) (l : List Byte), (afind s.xpt.queues queue = some x) ∧ (s.xpt.ready = true) ∧ (x.destroying = []) ∧ (x.parked = []) ∧ ((s.part x.part.val).state = .ready) ∧ ((s.at_ now).readVa x.part.val .thread (x.entryVa x.next) 64 = (s2, .ok l)) ∧ ∃ (s3 : State) (parts : List (Nat × Nat)), ((XDesc.ofBytes l).own = b2n x.phase) ∧ ((XDesc.ofBytes l).fence = false) ∧ (s2.freeTag = some tag) ∧ ((XDesc.ofBytes l).check = none) ∧ ((XDesc.ofBytes l).op = 1) ∧ (s2.xlateRange x.part.val .thread .read (XDesc.ofBytes l).laddr (XDesc.ofBytes l).len = (s3, .ok parts)) ∧ (s3.partsPoisoned parts = false) ∧ True) ∧
    (∃ (s : State) (s2 : State) (queue : Nat) (now : Nat) (tag : Nat) (x : XQueue) (l : List Byte), (afind s.xpt.queues queue = some x) ∧ (s.xpt.ready = true) ∧ (x.destroying = []) ∧ (x.parked = []) ∧ ((s.part x.part.val).state = .ready) ∧ ((s.at_ now).readVa x.part.val .thread (x.entryVa x.next) 64 = (s2, .ok l)) ∧ ∃ (s3 : State) (parts : List (Nat × Nat)), ((XDesc.ofBytes l).own = b2n x.phase) ∧ ((XDesc.ofBytes l).fence = false) ∧ (s2.freeTag = some tag) ∧ ((XDesc.ofBytes l).check = none) ∧ ((XDesc.ofBytes l).op = 1) ∧ (s2.xlateRange x.part.val .thread .read (XDesc.ofBytes l).laddr (XDesc.ofBytes l).len = (s3, .ok parts)) ∧ ∃ (s4 : State) (s5 : State) (d : XDesc) (i : Nat) (g : Region), (d = XDesc.ofBytes l) ∧ (s3.partsPoisoned parts = false) ∧ (BitVec.ofNat 16 d.dest = s.me) ∧ (s4 = (s3.readParts (partFn x.part.val) parts).1) ∧ (s4.regionCheck ⟨d.dpart % 16, Nat.mod_lt _ (by decide)⟩ (BitVec.ofNat 64 d.key) x.tenant .write d.raddr d.len false = .ok (i, g)) ∧ (s4.writeVa g.part.val .thread (g.base + d.raddr) (s3.readParts (partFn x.part.val) parts).2 = (s5, .ok ())) ∧ True) ∧
    (∃ (s : State) (s1 : State) (tag : BitVec 16) (o : XOp) (q : Nat) (i : Nat) (x : XQueue), (afind s.xpt.ops tag.toNat = some o) ∧ (o.origin = .queue q i) ∧ (o.done = true) ∧ (o.issued = false) ∧ (afind s.xpt.queues q = some x) ∧ (x.parked = []) ∧ (x.destroying = []) ∧ (s.writeVa x.part.val .thread o.laddr o.fetched = (s1, .ok ())) ∧ True) ∧
    (∃ (s : State) (addr : Nat) (m : Nat) (a : Nat), (s.memory.target addr = .window m a) ∧ (m ≠ member s.me) ∧ (s.xpt.ready = true) ∧ True) ∧
    (∃ (s : State) (s2 : State) (part : Fin 16) (addr : Nat) (now : Nat) (m : Nat) (a : Nat) (len : Nat) (tag : Nat) (k : Nat), (s.memory.target addr = .window m a) ∧ (m ≠ member s.me) ∧ (s.xpt.ready = true) ∧ (8 ≤ len) ∧ (windowShape a len = true) ∧ (s.freeTag = some tag) ∧ ((s.at_ now).connFor false part (BitVec.ofNat 16 (s.me.toNat / 32 * 32 + m)) part ⟨s.fld (Reg.xptPCfg part.val) 2 0 % 8, Nat.mod_lt _ (by decide)⟩ = some (s2, k)) ∧ True) ∧
    (∃ (s : State) (tenant : BitVec 16) (addr : Nat) (a : Nat) (len : Nat), (s.memory.target addr = .window (member s.me) a) ∧ (s.xpt.ready = true) ∧ (8 ≤ len) ∧ (windowShape a len = true) ∧ (s.windowCheck tenant .read a len = .ok ()) ∧ (s.memory.poisoned a len = false) ∧ True) :=
  ⟨⟨(xqD (zeros 64)), ((((xqD (zeros 64) : State).at_ (9 : Nat)).readVa xq0.part.val .thread (xq0.entryVa xq0.next) 64).1), (2), (9), (xq0), (zeros 64), by decide +kernel, by decide +kernel, by decide +kernel, by decide +kernel, by decide +kernel, (pairOk (by decide +kernel)), by decide +kernel⟩,
   ⟨(xqD dBad), ((((xqD dBad : State).at_ (9 : Nat)).readVa xq0.part.val .thread (xq0.entryVa xq0.next) 64).1), (2), (9), (0), (xq0), (dBad), (.badOpcode), by decide +kernel, by decide +kernel, by decide +kernel, by decide +kernel, by decide +kernel, (pairOk (by decide +kernel)), by decide +kernel⟩,
   ⟨({ xqD dPut2 with memory := { (xqD dPut2).memory with poison := [(0x4001, ())] } }), (((({ xqD dPut2 with memory := { (xqD dPut2).memory with poison := [(0x4001, ())] } } : State).at_ (9 : Nat)).readVa xq0.part.val .thread (xq0.entryVa xq0.next) 64).1), (2), (9), (0), (xq0), (dPut2), by decide +kernel, by decide +kernel, by decide +kernel, by decide +kernel, by decide +kernel, (pairOk (by decide +kernel)), (((((({ xqD dPut2 with memory := { (xqD dPut2).memory with poison := [(0x4001, ())] } } : State).at_ (9 : Nat)).readVa xq0.part.val .thread (xq0.entryVa xq0.next) 64).1 : State).xlateRange xq0.part.val .thread .read (XDesc.ofBytes dPut2).laddr (XDesc.ofBytes dPut2).len).1), ([(0x100040, 64)]), by decide +kernel, by decide +kernel, by decide +kernel, by decide +kernel, by decide +kernel, (pairOk (by decide +kernel)), by decide +kernel⟩,
   ⟨(xqD dPut), ((((xqD dPut : State).at_ (9 : Nat)).readVa xq0.part.val .thread (xq0.entryVa xq0.next) 64).1), (2), (9), (0), (xq0), (dPut), by decide +kernel, by decide +kernel, by decide +kernel, by decide +kernel, by decide +kernel, (pairOk (by decide +kernel)), ((((((xqD dPut : State).at_ (9 : Nat)).readVa xq0.part.val .thread (xq0.entryVa xq0.next) 64).1 : State).xlateRange xq0.part.val .thread .read (XDesc.ofBytes dPut).laddr (XDesc.ofBytes dPut).len).1), ([(0x100000, 64)]), by decide +kernel, by decide +kernel, by decide +kernel, by decide +kernel, by decide +kernel, (pairOk (by decide +kernel)), by decide +kernel⟩,
   ⟨({ xqD dLocal with xpt := { (xqD dLocal).xpt with regions := [(1, rg0)] } }), (((({ xqD dLocal with xpt := { (xqD dLocal).xpt with regions := [(1, rg0)] } } : State).at_ (9 : Nat)).readVa xq0.part.val .thread (xq0.entryVa xq0.next) 64).1), (2), (9), (0), (xq0), (dLocal), by decide +kernel, by decide +kernel, by decide +kernel, by decide +kernel, by decide +kernel, (pairOk (by decide +kernel)), (((((({ xqD dLocal with xpt := { (xqD dLocal).xpt with regions := [(1, rg0)] } } : State).at_ (9 : Nat)).readVa xq0.part.val .thread (xq0.entryVa xq0.next) 64).1 : State).xlateRange xq0.part.val .thread .read (XDesc.ofBytes dLocal).laddr (XDesc.ofBytes dLocal).len).1), ([(0x100000, 64)]), by decide +kernel, by decide +kernel, by decide +kernel, by decide +kernel, by decide +kernel, (pairOk (by decide +kernel)), (((((((({ xqD dLocal with xpt := { (xqD dLocal).xpt with regions := [(1, rg0)] } } : State).at_ (9 : Nat)).readVa xq0.part.val .thread (xq0.entryVa xq0.next) 64).1 : State).xlateRange xq0.part.val .thread .read (XDesc.ofBytes dLocal).laddr (XDesc.ofBytes dLocal).len).1 : State).readParts (partFn xq0.part.val) ([(0x100000, 64)] : List (Nat × Nat))).1), (((((((((({ xqD dLocal with xpt := { (xqD dLocal).xpt with regions := [(1, rg0)] } } : State).at_ (9 : Nat)).readVa xq0.part.val .thread (xq0.entryVa xq0.next) 64).1 : State).xlateRange xq0.part.val .thread .read (XDesc.ofBytes dLocal).laddr (XDesc.ofBytes dLocal).len).1 : State).readParts (partFn xq0.part.val) ([(0x100000, 64)] : List (Nat × Nat))).1 : State).writeVa rg0.part.val .thread (rg0.base + (XDesc.ofBytes dLocal : XDesc).raddr) ((((((({ xqD dLocal with xpt := { (xqD dLocal).xpt with regions := [(1, rg0)] } } : State).at_ (9 : Nat)).readVa xq0.part.val .thread (xq0.entryVa xq0.next) 64).1 : State).xlateRange xq0.part.val .thread .read (XDesc.ofBytes dLocal).laddr (XDesc.ofBytes dLocal).len).1 : State).readParts (partFn xq0.part.val) ([(0x100000, 64)] : List (Nat × Nat))).2).1), (XDesc.ofBytes dLocal), (1), (rg0), by decide +kernel, by decide +kernel, by decide +kernel, by decide +kernel, (okIs (by decide +kernel)), (pairOk (by decide +kernel)), trivial⟩,
   ⟨(xs { Xpt.reset with queues := [(2, { xq0 with open_ := [6] })], ops := [(4, { op0 with done := true, issued := false, cv := some 16383 })] }), (((xs { Xpt.reset with queues := [(2, { xq0 with open_ := [6] })], ops := [(4, { op0 with done := true, issued := false, cv := some 16383 })] } : State).writeVa ({ xq0 with open_ := [6] } : XQueue).part.val .thread ({ op0 with done := true, issued := false, cv := some 16383 } : XOp).laddr ({ op0 with done := true, issued := false, cv := some 16383 } : XOp).fetched).1), (4), ({ op0 with done := true, issued := false, cv := some 16383 }), (2), (6), ({ xq0 with open_ := [6] }), meet6 (by decide +kernel) ⟨by decide +kernel, (pairOk (by decide +kernel)), trivial⟩⟩,
   ⟨(xs Xpt.reset), (2 ^ 49 + 31 * 2 ^ 43), (31), (0), by decide +kernel⟩,
   ⟨(xs Xpt.reset), (match ((xs Xpt.reset : State).at_ (9 : Nat)).connFor false (0 : Fin 16) (BitVec.ofNat 16 ((xs Xpt.reset : State).me.toNat / 32 * 32 + (31 : Nat))) (0 : Fin 16) ⟨(xs Xpt.reset : State).fld (Reg.xptPCfg (0 : Fin 16).val) 2 0 % 8, Nat.mod_lt _ (by decide)⟩ with | some q => q.1 | none => up), (0), (2 ^ 49 + 31 * 2 ^ 43), (9), (31), (0), (256), (0), (0), by decide +kernel⟩,
   ⟨(xr cn0), (0), (2 ^ 49), (0), (8), by decide +kernel, by decide +kernel, by decide +kernel, by decide +kernel, (okIs (by decide +kernel)), by decide +kernel⟩⟩

theorem meets_GatesAndHistograms :
    (∃ (s : State) (v : Word), (s.present = true) ∧ (s.sec.run ≠ .recovery) ∧ (s.shp.swapAt = none) ∧ (s.shp.bank ≤ 1) ∧ (v.toNat % 8 = s.fld Reg.shpCtrl 2 0) ∧ (1 ≤ s.fld (Reg.shpGateLen (1 - s.shp.bank)) 8 0) ∧ (s.fld (Reg.shpGateLen (1 - s.shp.bank)) 8 0 ≤ 256) ∧ (s.stk.running = true) ∧ True) ∧
    (∃ (s : State) (v : Word), (s.present = true) ∧ (s.sec.run ≠ .recovery) ∧ (s.shp.swapAt.isSome = true) ∧ (v.toNat % 8 = s.fld Reg.shpCtrl 2 0) ∧ (s.stk.running = true) ∧ True) ∧
    (∃ (s : State) (at_ : Nat), (s.shp.swapAt = some at_) ∧ True) ∧
    (∃ (s : State) (v : Word), (s.present = true) ∧ (s.sec.run ≠ .recovery) ∧ (bitAt v.toNat 0 = s.flag Reg.shpHistCtrl 0) ∧ True) ∧
    (∃ (s : State), (s.flag Reg.shpHistCtrl 0 = true) ∧ True) ∧
    (∃ (s : State), (s.flag Reg.shpHistCtrl 0 = false) ∧ (s.shp.clear = true) ∧ (s.lnk.ports = List.replicate 64 Port.reset) ∧ True) :=
  ⟨⟨(((ticking.setReg Reg.shpCtrl 3).setReg (Reg.shpGateLen 1) 256)), (11), by decide +kernel⟩,
   ⟨({ (ticking.setReg Reg.shpCtrl 3) with shp := { Shp.reset with swapAt := some 7 } }), (11), by decide +kernel⟩,
   ⟨({ ticking with shp := { Shp.reset with swapAt := some 20000 } }), (20000), by decide +kernel⟩,
   ⟨(up), (2), by decide +kernel⟩,
   ⟨(up.setReg Reg.shpHistCtrl 1), by decide +kernel⟩,
   ⟨({ up.setReg (Reg.shpHDepth 3 4 0) 9 with shp := { Shp.reset with clear := true } }), by decide +kernel⟩⟩

theorem meets_Policer :
    (∃ (s : State) (p : Fin 16) (c : Fin 8) (now : Nat) (k : Packet) (rest : List Packet), (agetD s.shp.held (polKey p.val c.val) [] = k :: rest) ∧ ((s.at_ now).covers p.val c.val k.flits = false) ∧ True) ∧
    (∃ (s : State) (p : Fin 16) (c : Fin 8) (now : Nat) (k : Packet) (rest : List Packet), (agetD s.shp.held (polKey p.val c.val) [] = k :: rest) ∧ ((s.at_ now).covers p.val c.val k.flits = true) ∧ ((s.at_ now).policed p.val c.val = true) ∧ True) :=
  ⟨⟨(((polS (lup 3 upP)).setReg Reg.shpCtrl 1).setReg (Reg.shpPolBurst 15 7) 0), (15), (7), (9), (pk0), ([]), by decide +kernel⟩,
   ⟨(((polS (lup 3 upP)).setReg Reg.shpCtrl 1).setReg (Reg.shpPolBurst 15 7) 1000), (15), (7), (9), (pk0), ([]), by decide +kernel⟩⟩

theorem meets_PacketTakenAndAnswered :
    (∃ (s : State) (h : Header) (w : Fin 32) (g : Ring), (h.origin = .window w) ∧ (s.takes w.val = true) ∧ (badLength (s.window w.val).cons h.length = false) ∧ (afind s.cmd.rings (windowRing w.val) = some g) ∧ (g.room (s.window w.val).resv = true) ∧ ((h.fence = true → (s.window w.val).resv = 0)) ∧ True) ∧
    (∃ (s : State) (h : Header) (w : Fin 32) (g : Ring), (h.origin = .window w) ∧ (w.val < 16) ∧ (s.takes w.val = true) ∧ (badLength (s.window w.val).cons h.length = false) ∧ (h.length = 32) ∧ (h.hrsv = 0) ∧ (h.destDev = 0xFFFF) ∧ (afind s.cmd.rings (windowRing w.val) = some g) ∧ (g.room ((s.window w.val).resv + 1) = true) ∧ (g.backlog = []) ∧ ((h.fence = true → (s.window w.val).resv = 0)) ∧ (s.cmd.held = []) ∧ (s.sec.activating = none) ∧ True) ∧
    (∃ (s : State) (s1 : State) (h : Header) (r : ReplyTo), (s.Serves ⟨0x0001, 1, true, false, 0, 0, 0, false⟩ h false r s1) ∧ True) :=
  ⟨⟨(wEnd 15), (wh 15 64), (15), (ring0), by decide +kernel⟩,
   ⟨(won 15), (wh 15 32), (15), (ring0), by decide +kernel⟩,
   ⟨(up.acc 0x0001), (taken (up.acc 0x0001 : State) ⟨0x0001, 1, true, false, 0, 0, 0, false⟩ (hd 32 : Header) false), (hd 32), (replyOf (up.acc 0x0001 : State) ⟨0x0001, 1, true, false, 0, 0, 0, false⟩ (hd 32 : Header) false), (served (by decide +kernel) (by decide +kernel) (by decide +kernel)), trivial⟩⟩

theorem meets_WindowErrors :
    (∃ (s : State) (w : Fin 32) (len : Nat), (s.takes w.val = true) ∧ (badLength (s.window w.val).cons len = true) ∧ (s.cmd.windows.length = 32) ∧ True) ∧
    (∃ (s : State) (h : Header) (w : Fin 32) (g : Ring), (h.origin = .window w) ∧ (s.takes w.val = true) ∧ (badLength (s.window w.val).cons h.length = false) ∧ (afind s.cmd.rings (windowRing w.val) = some g) ∧ (g.room ((s.window w.val).resv + 1) = true) ∧ True) ∧
    (∃ (s : State) (s1 : State) (h : Header) (r : ReplyTo) (op : Nat), (opcodeKnown op = false) ∧ (s.take h op 1 false = (s1, some r)) ∧ (s.blt.l3 = false) ∧ (s.sec.run ≠ .stopped) ∧ True) ∧
    (∃ (s : State) (w : Fin 32), ((s.window w.val).state = .error) ∧ True) ∧
    (∃ (s : State) (w : Fin 32) (v : Word), ((s.window w.val).state ≠ .error ∨ v ≠ 1) ∧ True) ∧
    (∃ (s : State) (w : Fin 32), (s.present = true) ∧ (s.sec.run ≠ .recovery) ∧ ((s.window w.val).state = .error) ∧ True) :=
  ⟨⟨(wEnd 15), (15), (68), by decide +kernel⟩,
   ⟨(won 0), (wh 0 4194304), (0), (ring0), by decide +kernel⟩,
   ⟨(up.acc 0x0007), (((up.acc 0x0007).take (hd 32) 0x0007 1 false).1), (hd 32), (match ((up.acc 0x0007).take (hd 32) 0x0007 1 false).2 with | some r => r | none => ⟨.bmc, 0, 0, 0, 0⟩), (0x0007), by decide +kernel⟩,
   ⟨(wOn 31 { Window.reset with state := .error, cons := 64, errOffset := 64, errCode := 3 } (windowRing 31) ring0), (31), by decide +kernel⟩,
   ⟨(won 0), (0), (1), by decide +kernel⟩,
   ⟨(wOn 31 { Window.reset with state := .error, cons := 64, errOffset := 64, errCode := 3 } (windowRing 31) ring0), (31), by decide +kernel⟩⟩

theorem meets_RingsCreatedAndServed :
    (∃ (s : State) (s1 : State) (h : Header) (r : ReplyTo) (entries : Nat) (base : BitVec 64) (ctrl : BitVec 64) (rsv : Nat), (s.Serves ⟨0x0002, 1, true, false, 32, rsv, 0, true⟩ h false r s1) ∧ (isPow2 64 65536 entries = true) ∧ (base.toNat % 4096 = 0) ∧ (ctrl.toNat % 64 = 0) ∧ (afind s1.cmd.rings (ringKey h.origin.fnOf .event 0) = none) ∧ True) ∧
    (∃ (s : State) (s1 : State) (h : Header) (r : ReplyTo) (index : Nat) (rsv : Nat), (s.Serves ⟨0x0003, 1, true, false, 4, rsv, 0, true⟩ h false r s1) ∧ (index < 4096) ∧ ((afind s1.cmd.rings (ringKey h.origin.fnOf .stream index)).isSome = true) ∧ True) ∧
    (∃ (s : State) (s1 : State) (h : Header) (r : ReplyTo) (index : Nat) (rsv : Nat), (s.Serves ⟨0x0003, 1, true, false, 4, rsv, 0, true⟩ h false r s1) ∧ (index < 4096) ∧ (afind s1.cmd.rings (ringKey h.origin.fnOf .stream index) = none) ∧ True) ∧
    (∃ (s : State) (fn : Fin 17) (i : Fin 4096) (cons : BitVec 32) (g : Ring) (rec_ : List Byte), (afind s.cmd.rings (ringKey fn.val .reply i.val) = some g) ∧ (g.backlog = [rec_]) ∧ (g.lost = 0) ∧ ((g.prod - cons).toNat < g.entries) ∧ ((s.fn fn.val).draining = false) ∧ True) ∧
    (∃ (s : State) (fn : Fin 17) (k : RingKind) (i : Fin 4096) (g : Ring), (afind s.cmd.rings (ringKey fn.val k i.val) = some g) ∧ (g.backlog = []) ∧ (g.lost = 0) ∧ True) ∧
    (∃ (s : State) (fn : Fin 17) (k : RingKind) (i : Fin 4096) (g : Ring), (afind s.cmd.rings (ringKey fn.val k i.val) = some g) ∧ (g.unsignalled ≠ 0) ∧ (g.vector < 2048) ∧ (afind s.host.masked (fn.val * 2048 + g.vector) = none) ∧ True) :=
  ⟨⟨(up.acc 0x0002), (taken (up.acc 0x0002 : State) ⟨0x0002, 1, true, false, 32, (0 : Nat), 0, true⟩ (hd 64 : Header) false), (hd 64), (replyOf (up.acc 0x0002 : State) ⟨0x0002, 1, true, false, 32, (0 : Nat), 0, true⟩ (hd 64 : Header) false), (65536), (0xFFFFFFFFF000), (64), (0), (served (by decide +kernel) (by decide +kernel) (by decide +kernel)), by decide +kernel⟩,
   ⟨({ up.acc 0x0003 with cmd := { (up.acc 0x0003).cmd with rings := [(ringKey 0 .stream 4095, ring0)] } }), (taken ({ up.acc 0x0003 with cmd := { (up.acc 0x0003).cmd with rings := [(ringKey 0 .stream 4095, ring0)] } } : State) ⟨0x0003, 1, true, false, 4, (0 : Nat), 0, true⟩ (hd 36 : Header) false), (hd 36), (replyOf ({ up.acc 0x0003 with cmd := { (up.acc 0x0003).cmd with rings := [(ringKey 0 .stream 4095, ring0)] } } : State) ⟨0x0003, 1, true, false, 4, (0 : Nat), 0, true⟩ (hd 36 : Header) false), (4095), (0), (served (by decide +kernel) (by decide +kernel) (by decide +kernel)), by decide +kernel⟩,
   ⟨({ up.acc 0x0003 with cmd := { (up.acc 0x0003).cmd with rings := [(ringKey 0 .stream 4095, ring0)] } }), (taken ({ up.acc 0x0003 with cmd := { (up.acc 0x0003).cmd with rings := [(ringKey 0 .stream 4095, ring0)] } } : State) ⟨0x0003, 1, true, false, 4, (0 : Nat), 0, true⟩ (hd 36 : Header) false), (hd 36), (replyOf ({ up.acc 0x0003 with cmd := { (up.acc 0x0003).cmd with rings := [(ringKey 0 .stream 4095, ring0)] } } : State) ⟨0x0003, 1, true, false, 4, (0 : Nat), 0, true⟩ (hd 36 : Header) false), (4094), (0), (served (by decide +kernel) (by decide +kernel) (by decide +kernel)), by decide +kernel⟩,
   ⟨(wOn 0 Window.reset (ringKey 16 .reply 4095) { ring0 with prod := 64, backlog := [zeros 64] }), (16), (4095), (1), ({ ring0 with prod := 64, backlog := [zeros 64] }), (zeros 64), by decide +kernel⟩,
   ⟨(wOn 0 Window.reset (ringKey 16 .stream 4095) { ring0 with prod := 64 }), (16), (.stream), (4095), ({ ring0 with prod := 64 }), by decide +kernel⟩,
   ⟨(wOn 0 Window.reset (ringKey 16 .stream 4095) { ring0 with unsignalled := 2, vector := 2047 }), (16), (.stream), (4095), ({ ring0 with unsignalled := 2, vector := 2047 }), by decide +kernel⟩⟩

theorem meets_FabricCommands :
    (∃ (s : State) (e : Envelope), (e.auth = 0) ∧ (s.pfTrusted e.src = true) ∧ True) ∧
    (∃ (s : State) (e : Envelope) (op : Nat) (h : Header), (e.auth = 0) ∧ (s.pfTrusted e.src = false) ∧ (registrarBound op h = false) ∧ True) ∧
    (∃ (s : State) (e : Envelope), (e.auth = 2) ∧ (afind s.cmd.slots e.slot.toNat = none) ∧ True) ∧
    (∃ (s : State) (slot : Nat) (e : RemoteSlot), (afind s.cmd.slots slot = some e) ∧ True) :=
  ⟨⟨(up.setReg Reg.cmdTrust 2), (env 0), by decide +kernel⟩,
   ⟨(up.setReg Reg.cmdTrust 1), (env 0), (0x0304), (hd 32), by decide +kernel⟩,
   ⟨(up), (env 2), by decide +kernel⟩,
   ⟨({ won 15 with cmd := { (won 15).cmd with slots := [(4294967295, rmt)] } }), (4294967295), (rmt), by decide +kernel⟩⟩

theorem meets_BlotterFiles :
    (∃ (s : State) (f : FaultSpec), (sourceListed f.source.toNat = true) ∧ (agetD s.blt.outbox f.source.toNat [] = []) ∧ (f.level.val < 2) ∧ ((∀ e ∈ s.blt.entries, ¬ (e.source = f.source ∧ e.kind = f.kind ∧ e.level = f.level))) ∧ (s.blt.entries.length < 256) ∧ True) :=
  ⟨(filed 0 false), (fs0 1), by decide +kernel⟩

theorem meets_BlotterEscalatesAndMerges :
    (∃ (s : State) (f : FaultSpec) (e : BltEntry), (sourceListed f.source.toNat = true) ∧ (agetD s.blt.outbox f.source.toNat [] = []) ∧ (s.blt.entries.find? (fun x => x.source == f.source && x.kind == f.kind && x.level == f.level) = some e) ∧ (e.escalated = false) ∧ (f.level = 0) ∧ True) ∧
    (∃ (s : State) (f : FaultSpec) (e : BltEntry), (sourceListed f.source.toNat = true) ∧ (agetD s.blt.outbox f.source.toNat [] = []) ∧ (s.blt.entries.find? (fun x => x.source == f.source && x.kind == f.kind && x.level == f.level) = some e) ∧ (e.escalated = true) ∧ True) :=
  ⟨⟨(filed 0 false), (fs0 0), (be0 0 false), by decide +kernel⟩,
   ⟨(filed 0 true), (fs0 0), (be0 0 true), by decide +kernel⟩⟩

theorem meets_FaultPinAndAcks :
    (∃ (s : State), (s.present = true) ∧ True) ∧
    (∃ (s : State) (s1 : State) (h : Header) (r : ReplyTo) (mode : Nat) (levels : Nat) (rsv : Nat), (mode < 2) ∧ (s.Serves ⟨0x0801, 1, false, false, 8, rsv + levels / 16, 0, false⟩ h false r s1) ∧ True) :=
  ⟨⟨(up.setReg Reg.bltFaultn 1), by decide +kernel⟩,
   ⟨({ filed 1 true with blt := { (filed 1 true).blt with unack := [una 2 2, una 0xFFFFFFFF 3, una 4 2], low := [una 3 1] } }.acc 0x0801), (taken ({ filed 1 true with blt := { (filed 1 true).blt with unack := [una 2 2, una 0xFFFFFFFF 3, una 4 2], low := [una 3 1] } }.acc 0x0801 : State) ⟨0x0801, 1, false, false, 8, (0 : Nat) + (12 : Nat) / 16, 0, false⟩ (hd 40 : Header) false), (hd 40), (replyOf ({ filed 1 true with blt := { (filed 1 true).blt with unack := [una 2 2, una 0xFFFFFFFF 3, una 4 2], low := [una 3 1] } }.acc 0x0801 : State) ⟨0x0801, 1, false, false, 8, (0 : Nat) + (12 : Nat) / 16, 0, false⟩ (hd 40 : Header) false), (1), (12), (0), by decide +kernel, (served (by decide +kernel) (by decide +kernel) (by decide +kernel)), trivial⟩⟩

theorem meets_Level3Reaction :
    (∃ (s : State) (f : FaultSpec), (sourceListed f.source.toNat = true) ∧ (agetD s.blt.outbox f.source.toNat [] = []) ∧ (f.level = 3) ∧ ((∀ e ∈ s.blt.entries, ¬ (e.source = f.source ∧ e.kind = f.kind ∧ e.level = f.level))) ∧ (s.blt.unack.length < 4096) ∧ (s.blt.l3 = false) ∧ (s.sec.run ≠ .boot) ∧ (s.sec.run ≠ .recovery) ∧ (s.lnk.ports.length = 64) ∧ True) :=
  ⟨({ own { sat0 with prov := some ⟨4, [1], [], none⟩ } with lnk := { Lnk.reset with ready := true, ports := { Port.reset with state := .up } :: List.replicate 63 Port.reset } }), (fs0 3), by decide +kernel⟩

theorem meets_FunctionResets :
    (∃ (s : State) (p : Fin 16), (s.shapeOk = true) ∧ (s.present = true) ∧ ((s.fn (p.val + 1)).enabled = true) ∧ ((s.fn (p.val + 1)).draining = false) ∧ True) ∧
    (∃ (s : State), (s.shapeOk = true) ∧ (s.present = true) ∧ ((s.fn 0).draining = false) ∧ True) ∧
    (∃ (s : State) (k : Fin 17), (s.shapeOk = true) ∧ ((s.fn k.val).draining = true) ∧ (k = 0 ∨ s.hostReturners (k.val - 1) = []) ∧ True) ∧
    (∃ (s : State) (k : Fin 17), ((s.fn k.val).draining = true) ∧ (k ≠ 0) ∧ (s.hostReturners (k.val - 1) ≠ []) ∧ True) ∧
    (∃ (s : State) (id : SatchelId) (row : Nat) (slot : Nat) (x : Sat) (r : Row), (s.findSlot id = some slot) ∧ (s.satAt slot = some x) ∧ (x.rows[row]? = some r) ∧ (r.kind = .swapHost) ∧ ((s.fn (partFn x.part.val)).draining = true) ∧ (x.noSubst = true) ∧ True) ∧
    (∃ (s : State) (id : SatchelId) (row : Nat) (slot : Nat) (x : Sat) (r : Row), (s.findSlot id = some slot) ∧ (s.satAt slot = some x) ∧ (x.rows[row]? = some r) ∧ (r.kind = .swapHost) ∧ ((s.fn (partFn x.part.val)).draining = true) ∧ (x.noSubst = false) ∧ (x.state = .ready) ∧ True) ∧
    (∃ (s : State), (s.shapeOk = true) ∧ (s.present = true) ∧ ((∀ k, 1 ≤ k → k < 17 → (s.fn k).enabled = false ∧ (s.fn k).pend = false)) ∧ True) ∧
    (∃ (s : State), (s.shapeOk = true) ∧ (s.present = true) ∧ True) ∧
    (∃ (s : State) (k : Fin 17) (upper : Bool) (off : Nat) (a : Nat) (n : Nat), (s.present = true) ∧ (s.sec.run ≠ .recovery) ∧ ((s.fn k.val).enabled = true) ∧ ((s.fn k.val).draining = false) ∧ (s.bar4Pa k.val upper .read off = some a) ∧ (s.memory.target a = .t1) ∧ (0 < n) ∧ (off % 4096 + n ≤ 4096) ∧ (s.memory.poisoned a n = false) ∧ True) ∧
    (∃ (s : State) (k : Fin 17) (upper : Bool) (off : Nat) (a : Nat) (data : List Byte), (s.present = true) ∧ (s.sec.run ≠ .recovery) ∧ ((s.fn k.val).enabled = true) ∧ ((s.fn k.val).draining = false) ∧ (s.bar4Pa k.val upper .write off = some a) ∧ (s.memory.target a = .t1) ∧ (0 < data.length) ∧ (off % 4096 + data.length ≤ 4096) ∧ True) ∧
    (∃ (s : State) (k : Fin 17) (upper : Bool) (off : Nat) (n : Nat), (s.present = true) ∧ (s.sec.run ≠ .recovery) ∧ ((s.fn k.val).enabled = true) ∧ ((s.fn k.val).draining = false) ∧ (s.bar4Pa k.val upper .read off = none) ∧ (0 < n) ∧ (off % 4096 + n ≤ 4096) ∧ True) ∧
    (∃ (s : State) (k : Fin 17) (upper : Bool) (off : Nat) (data : List Byte), (s.present = true) ∧ (s.sec.run ≠ .recovery) ∧ ((s.fn k.val).enabled = true) ∧ ((s.fn k.val).draining = false) ∧ (s.bar4Pa k.val upper .write off = none) ∧ (0 < data.length) ∧ (off % 4096 + data.length ≤ 4096) ∧ True) ∧
    (∃ (s : State) (k : Fin 17), (s.present = true) ∧ (s.sec.run ≠ .recovery) ∧ ((s.fn k.val).enabled = true) ∧ ((s.fn k.val).draining = false) ∧ (k = 0) ∧ True) :=
  ⟨⟨(vfUp), (15), by decide +kernel⟩,
   ⟨(vfUp), by decide +kernel⟩,
   ⟨(vfDrain), (16), by decide +kernel, by decide +kernel, (Or.inr (by decide +kernel)), trivial⟩,
   ⟨(satH { sat0 with rows := [hrow] }), (1), by decide +kernel⟩,
   ⟨(satH { sat0 with rows := [hrow], noSubst := true }), (1), (0), (4194303), ({ sat0 with rows := [hrow], noSubst := true }), (hrow), by decide +kernel⟩,
   ⟨(satH { sat0 with rows := [hrow], state := .ready, kvPos := 2 }), (1), (0), (4194303), ({ sat0 with rows := [hrow], state := .ready, kvPos := 2 }), (hrow), by decide +kernel⟩,
   ⟨(fnOn { wOn 31 Window.reset (windowRing 31) ring0 with pln := { Pln.reset with ready := true, parts := List.replicate 16 part0 } } 1 ⟨false, true, false⟩), by decide +kernel, by decide +kernel, (fromOne (by decide +kernel)), trivial⟩,
   ⟨(vfUp), by decide +kernel⟩,
   ⟨(bar4On), (0), (false), (4095), (4095), (1), by decide +kernel⟩,
   ⟨(bar4On), (0), (false), (4094), (4094), ([1, 2]), by decide +kernel⟩,
   ⟨(bar4On), (0), (false), (2 ^ 42), (4), by decide +kernel⟩,
   ⟨(bar4On), (0), (false), (2 ^ 42), ([1]), by decide +kernel⟩,
   ⟨(bar4On), (0), by decide +kernel⟩⟩

theorem meets_ResetsAndBoot :
    (∃ (s : State), (s.pwr.tripped = false) ∧ (s.sec.debugPending = false) ∧ True) ∧
    (∃ (s : State), (s.pwr.tripped = false) ∧ (s.sec.debugPending = true) ∧ True) ∧
    (∃ (s : State) (first : Bool) (im : Image), (s.sec.run = .boot) ∧ (s.pwr.tripped = false) ∧ (first = (if s.sec.trial && s.sec.attempted then !s.sec.primaryB else s.sec.primaryB)) ∧ (s.sec.fuses.passes (s.sec.slot first) = true) ∧ (s.sec.slot first = some im) ∧ True) ∧
    (∃ (s : State) (first : Bool) (im : Image), (s.sec.run = .boot) ∧ (s.pwr.tripped = false) ∧ (first = (if s.sec.trial && s.sec.attempted then !s.sec.primaryB else s.sec.primaryB)) ∧ (s.sec.fuses.passes (s.sec.slot first) = false) ∧ (s.sec.fuses.passes (s.sec.slot !first) = true) ∧ (s.sec.slot (!first) = some im) ∧ True) ∧
    (∃ (s : State) (first : Bool), (s.sec.run = .boot) ∧ (s.pwr.tripped = false) ∧ (first = (if s.sec.trial && s.sec.attempted then !s.sec.primaryB else s.sec.primaryB)) ∧ (s.sec.fuses.passes (s.sec.slot first) = false) ∧ (s.sec.fuses.passes (s.sec.slot !first) = false) ∧ True) :=
  ⟨⟨(stg 0x0902 0), by decide +kernel⟩,
   ⟨(upSec { Sec.reset with run := .service, debugPending := true }), by decide +kernel⟩,
   ⟨(booting), (false), (im0), by decide +kernel⟩,
   ⟨({ booting with sec := { booting.sec with slots := [none, some im1] } }), (false), (im1), by decide +kernel⟩,
   ⟨({ booting with sec := { booting.sec with slots := [none, none] } }), (false), by decide +kernel⟩⟩

theorem meets_FirmwareUpdate :
    (∃ (s : State) (s1 : State) (h : Header) (r : ReplyTo) (src : BitVec 64) (length : Nat) (rsv : Nat), (s.Serves ⟨0x0902, 2, false, false, 16, rsv, src.toNat, false⟩ h false r s1) ∧ (16256 * 1024 < length) ∧ True) ∧
    (∃ (s : State) (s1 : State) (h : Header) (r : ReplyTo) (src : BitVec 64) (length : Nat) (rsv : Nat), (s.Serves ⟨0x0902, 2, false, false, 16, rsv, src.toNat, false⟩ h false r s1) ∧ (length ≤ 16256 * 1024) ∧ (s1.sec.staging.isSome = true) ∧ True) ∧
    (∃ (s : State) (s1 : State) (h : Header) (r : ReplyTo) (src : BitVec 64) (length : Nat) (rsv : Nat), (s.Serves ⟨0x0902, 2, false, false, 16, rsv, src.toNat, false⟩ h false r s1) ∧ (length ≤ 16256 * 1024) ∧ (s1.sec.staging = none) ∧ True) ∧
    (∃ (s : State) (g : Staging), (s.sec.staging = some g) ∧ (s.sec.fuses.refusal g.image = none) ∧ True) ∧
    (∃ (s : State) (g : Staging), (s.sec.staging = some g) ∧ (s.sec.fuses.refusal g.image = some .protection) ∧ (g.reply.origin = .bmc) ∧ True) ∧
    (∃ (s : State) (g : Staging), (s.sec.staging = some g) ∧ ∃ (st : Status), (s.sec.fuses.refusal g.image = some st) ∧ (st ≠ .protection) ∧ True) ∧
    (∃ (s : State) (s1 : State) (h : Header) (r : ReplyTo) (rsv : Nat), (s.Serves ⟨0x0903, 1, false, false, 8, rsv, 0, false⟩ h false r s1) ∧ (s1.sec.staged = true) ∧ True) ∧
    (∃ (s : State) (s1 : State) (h : Header) (r : ReplyTo) (rsv : Nat), (s.Serves ⟨0x0903, 1, false, false, 8, rsv, 0, false⟩ h false r s1) ∧ (s1.sec.staged = false) ∧ True) ∧
    (∃ (s : State) (s1 : State) (h : Header) (r : ReplyTo) (rsv : Nat), (s.Serves ⟨0x0903, 1, false, false, 8, rsv, 0, false⟩ h false r s1) ∧ (s1.sec.trial = true) ∧ (s1.sec.slotB = s1.sec.primaryB) ∧ True) ∧
    (∃ (s : State) (s1 : State) (h : Header) (r : ReplyTo) (rsv : Nat), (s.Serves ⟨0x0903, 1, false, false, 8, rsv, 0, false⟩ h false r s1) ∧ (s1.sec.trial = true) ∧ (s1.sec.slotB = s1.sec.primaryB) ∧ True) ∧
    (∃ (s : State) (s1 : State) (h : Header) (r : ReplyTo) (rsv : Nat), (s.Serves ⟨0x0903, 1, false, false, 8, rsv, 0, false⟩ h false r s1) ∧ (s1.sec.trial = false) ∧ True) ∧
    (∃ (s : State) (s1 : State) (h : Header) (r : ReplyTo) (rsv : Nat), (s.Serves ⟨0x0903, 1, false, false, 8, rsv, 0, false⟩ h false r s1) ∧ ∃ (im : Image), (s1.sec.trial = false) ∧ (s1.sec.running = some im) ∧ (im.svn ≤ s1.sec.fuses.svn) ∧ True) ∧
    (∃ (s : State) (s1 : State) (h : Header) (r : ReplyTo) (rsv : Nat), (s.Serves ⟨0x0903, 1, false, false, 8, rsv, 0, false⟩ h false r s1) ∧ ∃ (im : Image), (s1.sec.trial = false) ∧ (s1.sec.running = some im) ∧ (s1.sec.fuses.svn < im.svn) ∧ True) ∧
    (∃ (s : State) (s1 : State) (h : Header) (r : ReplyTo) (rsv : Nat), (s.Serves ⟨0x0903, 1, false, false, 8, rsv, 0, false⟩ h false r s1) ∧ ∃ (mode : Nat), (4 ≤ mode) ∧ True) ∧
    (∃ (s : State) (s1 : State) (h : Header) (r : ReplyTo) (rsv : Nat), (s.Serves ⟨0x0903, 2, false, false, 8, rsv, 0, false⟩ h false r s1) ∧ ∃ (im : Image), (s1.sec.staged = true) ∧ (s1.sec.slot (!s1.sec.slotB) = some im) ∧ True) ∧
    (∃ (s : State) (s1 : State) (h : Header) (r : ReplyTo) (rsv : Nat), (s.Serves ⟨0x0903, 2, false, false, 8, rsv, 0, false⟩ h false r s1) ∧ (s1.sec.staged = false) ∧ True) ∧
    (∃ (s : State) (g : Staging) (im : Image), (s.sec.activating = some g) ∧ (s.sec.slot (!s.sec.slotB) = some im) ∧ True) ∧
    (∃ (s : State) (g : Staging), (s.sec.activating = some g) ∧ True) :=
  ⟨⟨(stg 0x0902 0), (taken (stg 0x0902 0 : State) ⟨0x0902, 2, false, false, 16, (0 : Nat), (0x10000 : BitVec 64).toNat, false⟩ (hd 48 : Header) false), (hd 48), (replyOf (stg 0x0902 0 : State) ⟨0x0902, 2, false, false, 16, (0 : Nat), (0x10000 : BitVec 64).toNat, false⟩ (hd 48 : Header) false), (0x10000), (16646145), (0), (served (by decide +kernel) (by decide +kernel) (by decide +kernel)), by decide +kernel⟩,
   ⟨({ stg 0x0902 0 with sec := { (stg 0x0902 0).sec with staging := some ⟨reply0, im1⟩ } }), (taken ({ stg 0x0902 0 with sec := { (stg 0x0902 0).sec with staging := some ⟨reply0, im1⟩ } } : State) ⟨0x0902, 2, false, false, 16, (0 : Nat), (0x10000 : BitVec 64).toNat, false⟩ (hd 48 : Header) false), (hd 48), (replyOf ({ stg 0x0902 0 with sec := { (stg 0x0902 0).sec with staging := some ⟨reply0, im1⟩ } } : State) ⟨0x0902, 2, false, false, 16, (0 : Nat), (0x10000 : BitVec 64).toNat, false⟩ (hd 48 : Header) false), (0x10000), (16646144), (0), (served (by decide +kernel) (by decide +kernel) (by decide +kernel)), by decide +kernel⟩,
   ⟨(stg 0x0902 0), (taken (stg 0x0902 0 : State) ⟨0x0902, 2, false, false, 16, (0 : Nat), (0x10000 : BitVec 64).toNat, false⟩ (hd 48 : Header) false), (hd 48), (replyOf (stg 0x0902 0 : State) ⟨0x0902, 2, false, false, 16, (0 : Nat), (0x10000 : BitVec 64).toNat, false⟩ (hd 48 : Header) false), (0x10000), (16646144), (0), (served (by decide +kernel) (by decide +kernel) (by decide +kernel)), by decide +kernel⟩,
   ⟨({ stg 0x0902 0 with sec := { (stg 0x0902 0).sec with staging := some ⟨reply0, im1⟩ } }), (⟨reply0, im1⟩), by decide +kernel⟩,
   ⟨({ stg 0x0902 0 with sec := { (stg 0x0902 0).sec with staging := some ⟨{ reply0 with origin := .bmc }, imOf 0x38384C58 4 10 0x4000 200 201⟩ } }), (⟨{ reply0 with origin := .bmc }, imOf 0x38384C58 4 10 0x4000 200 201⟩), by decide +kernel⟩,
   ⟨({ stg 0x0902 0 with sec := { (stg 0x0902 0).sec with staging := some ⟨reply0, imOf 0x38384C59 6 10 0x4000 200 201⟩ } }), (⟨reply0, imOf 0x38384C59 6 10 0x4000 200 201⟩), by decide +kernel, (.badField), by decide +kernel⟩,
   ⟨(stg 0x0903 1), (taken (stg 0x0903 1 : State) ⟨0x0903, 1, false, false, 8, (0 : Nat), 0, false⟩ (hd 40 : Header) false), (hd 40), (replyOf (stg 0x0903 1 : State) ⟨0x0903, 1, false, false, 8, (0 : Nat), 0, false⟩ (hd 40 : Header) false), (0), (served (by decide +kernel) (by decide +kernel) (by decide +kernel)), by decide +kernel⟩,
   ⟨(stg 0x0903 0), (taken (stg 0x0903 0 : State) ⟨0x0903, 1, false, false, 8, (0 : Nat), 0, false⟩ (hd 40 : Header) false), (hd 40), (replyOf (stg 0x0903 0 : State) ⟨0x0903, 1, false, false, 8, (0 : Nat), 0, false⟩ (hd 40 : Header) false), (0), (served (by decide +kernel) (by decide +kernel) (by decide +kernel)), by decide +kernel⟩,
   ⟨(stg 0x0903 2), (taken (stg 0x0903 2 : State) ⟨0x0903, 1, false, false, 8, (0 : Nat), 0, false⟩ (hd 40 : Header) false), (hd 40), (replyOf (stg 0x0903 2 : State) ⟨0x0903, 1, false, false, 8, (0 : Nat), 0, false⟩ (hd 40 : Header) false), (0), (served (by decide +kernel) (by decide +kernel) (by decide +kernel)), by decide +kernel⟩,
   ⟨(stg 0x0903 2), (taken (stg 0x0903 2 : State) ⟨0x0903, 1, false, false, 8, (0 : Nat), 0, false⟩ (hd 40 : Header) false), (hd 40), (replyOf (stg 0x0903 2 : State) ⟨0x0903, 1, false, false, 8, (0 : Nat), 0, false⟩ (hd 40 : Header) false), (0), (served (by decide +kernel) (by decide +kernel) (by decide +kernel)), by decide +kernel⟩,
   ⟨(stg 0x0903 0), (taken (stg 0x0903 0 : State) ⟨0x0903, 1, false, false, 8, (0 : Nat), 0, false⟩ (hd 40 : Header) false), (hd 40), (replyOf (stg 0x0903 0 : State) ⟨0x0903, 1, false, false, 8, (0 : Nat), 0, false⟩ (hd 40 : Header) false), (0), (served (by decide +kernel) (by decide +kernel) (by decide +kernel)), by decide +kernel⟩,
   ⟨(stg 0x0903 0), (taken (stg 0x0903 0 : State) ⟨0x0903, 1, false, false, 8, (0 : Nat), 0, false⟩ (hd 40 : Header) false), (hd 40), (replyOf (stg 0x0903 0 : State) ⟨0x0903, 1, false, false, 8, (0 : Nat), 0, false⟩ (hd 40 : Header) false), (0), (served (by decide +kernel) (by decide +kernel) (by decide +kernel)), (im0), by decide +kernel⟩,
   ⟨({ stg 0x0903 0 with sec := { (stg 0x0903 0).sec with running := some im1 } }), (taken ({ stg 0x0903 0 with sec := { (stg 0x0903 0).sec with running := some im1 } } : State) ⟨0x0903, 1, false, false, 8, (0 : Nat), 0, false⟩ (hd 40 : Header) false), (hd 40), (replyOf ({ stg 0x0903 0 with sec := { (stg 0x0903 0).sec with running := some im1 } } : State) ⟨0x0903, 1, false, false, 8, (0 : Nat), 0, false⟩ (hd 40 : Header) false), (0), (served (by decide +kernel) (by decide +kernel) (by decide +kernel)), (im1), by decide +kernel⟩,
   ⟨(stg 0x0903 0), (taken (stg 0x0903 0 : State) ⟨0x0903, 1, false, false, 8, (0 : Nat), 0, false⟩ (hd 40 : Header) false), (hd 40), (replyOf (stg 0x0903 0 : State) ⟨0x0903, 1, false, false, 8, (0 : Nat), 0, false⟩ (hd 40 : Header) false), (0), (served (by decide +kernel) (by decide +kernel) (by decide +kernel)), (4), by decide +kernel⟩,
   ⟨(stg 0x0903 1), (taken (stg 0x0903 1 : State) ⟨0x0903, 2, false, false, 8, (0 : Nat), 0, false⟩ (hd 40 : Header) false), (hd 40), (replyOf (stg 0x0903 1 : State) ⟨0x0903, 2, false, false, 8, (0 : Nat), 0, false⟩ (hd 40 : Header) false), (0), (served (by decide +kernel) (by decide +kernel) (by decide +kernel)), (im1), by decide +kernel⟩,
   ⟨(stg 0x0903 0), (taken (stg 0x0903 0 : State) ⟨0x0903, 2, false, false, 8, (0 : Nat), 0, false⟩ (hd 40 : Header) false), (hd 40), (replyOf (stg 0x0903 0 : State) ⟨0x0903, 2, false, false, 8, (0 : Nat), 0, false⟩ (hd 40 : Header) false), (0), (served (by decide +kernel) (by decide +kernel) (by decide +kernel)), by decide +kernel⟩,
   ⟨({ stg 0x0903 1 with sec := { (stg 0x0903 1).sec with activating := some ⟨reply0, im1⟩ } }), (⟨reply0, im1⟩), (im1), by decide +kernel⟩,
   ⟨({ stg 0x0903 1 with sec := { (stg 0x0903 1).sec with activating := some ⟨reply0, im1⟩ } }), (⟨reply0, im1⟩), by decide +kernel⟩⟩

theorem meets_IdentityKeysAndShutdown :
    (∃ (s : State) (s1 : State) (h : Header) (r : ReplyTo) (select : Nat) (out : BitVec 64) (rsv : Nat), (s.Serves ⟨0x0900, 1, false, false, 16, rsv, out.toNat, false⟩ h false r s1) ∧ (2 < select) ∧ True) ∧
    (∃ (s : State) (s1 : State) (h : Header) (r : ReplyTo) (select : Nat) (length : Nat) (out : BitVec 64) (rsv : Nat), (s.Serves ⟨0x0900, 1, false, false, 16, rsv, out.toNat, false⟩ h false r s1) ∧ (select = 2) ∧ (length < 1344) ∧ True) ∧
    (∃ (s : State) (s1 : State) (h : Header) (r : ReplyTo) (select : Nat) (length : Nat) (out : BitVec 64) (rsv : Nat), (s.Serves ⟨0x0900, 1, false, false, 16, rsv, out.toNat, false⟩ h false r s1) ∧ (select = 2) ∧ (1344 ≤ length) ∧ True) ∧
    (∃ (s : State) (s1 : State) (h : Header) (r : ReplyTo) (select : Nat) (length : Nat) (out : BitVec 64) (rsv : Nat), (s.Serves ⟨0x0900, 1, false, false, 16, rsv, out.toNat, false⟩ h false r s1) ∧ (select < 2) ∧ (length < (if select = 0 then deviceChain else s1.sec.aliasCert).length) ∧ True) ∧
    (∃ (s : State) (s1 : State) (h : Header) (r : ReplyTo) (select : Nat) (length : Nat) (out : BitVec 64) (rsv : Nat), (s.Serves ⟨0x0900, 1, false, false, 16, rsv, out.toNat, false⟩ h false r s1) ∧ (select < 2) ∧ ((if select = 0 then deviceChain else s1.sec.aliasCert).length ≤ length) ∧ True) ∧
    (∃ (s : State) (s1 : State) (h : Header) (r : ReplyTo) (tenant : BitVec 16) (gen : Nat) (rsv : Nat), (s.Serves ⟨0x0901, 1, false, false, 40, rsv, 0, false⟩ h false r s1) ∧ (1 ≤ gen) ∧ (gen ≤ 65535) ∧ ((∃ g ∈ agetD s1.sec.keys tenant.toNat [], gen ≤ g.1)) ∧ True) ∧
    (∃ (s : State) (s1 : State) (h : Header) (r : ReplyTo) (tenant : BitVec 16) (gen : Nat) (rsv : Nat), (s.Serves ⟨0x0901, 1, false, false, 40, rsv, 0, false⟩ h false r s1) ∧ (1 ≤ gen) ∧ (gen ≤ 65535) ∧ ((∀ g ∈ agetD s1.sec.keys tenant.toNat [], g.1 < gen)) ∧ (agetD s1.sec.keys tenant.toNat [] ≠ [] ∨ s1.sec.keys.length < 4096) ∧ True) ∧
    (∃ (s : State) (s1 : State) (h : Header) (r : ReplyTo) (tenant : BitVec 16) (gen : Nat) (rsv : Nat), (s.Serves ⟨0x0901, 1, false, false, 40, rsv, 0, false⟩ h false r s1) ∧ (1 ≤ gen) ∧ (gen ≤ 65535) ∧ ((∀ g ∈ agetD s1.sec.keys tenant.toNat [], g.1 ≠ gen)) ∧ True) ∧
    (∃ (s : State) (s1 : State) (h : Header) (r : ReplyTo) (tenant : BitVec 16) (gen : Nat) (rsv : Nat), (s.Serves ⟨0x0901, 1, false, false, 40, rsv, 0, false⟩ h false r s1) ∧ (1 ≤ gen) ∧ (gen ≤ 65535) ∧ ((∃ g ∈ agetD s1.sec.keys tenant.toNat [], g.1 = gen)) ∧ True) ∧
    (∃ (s : State) (valid : Bool), (s.present = true) ∧ (s.flag Reg.secCtrl 0 = false) ∧ (valid = true) ∧ True) ∧
    (∃ (s : State) (valid : Bool), (s.present = true) ∧ (s.flag Reg.secCtrl 0 = true ∨ valid = false) ∧ True) ∧
    (∃ (s : State), (s.present = true) ∧ True) ∧
    (∃ (s : State), (s.present = true) ∧ ∃ (req : SpdmReq), (s.host.spdm = 0) ∧ (req = .getCapabilities ∨ req = .negotiateAlgorithms ∨ req = .getDigests) ∧ True) ∧
    (∃ (s : State), (s.present = true) ∧ (3 ≤ s.host.spdm) ∧ True) ∧
    (∃ (s : State), (s.present = true) ∧ (3 ≤ s.host.spdm) ∧ True) ∧
    (∃ (s : State), (s.present = true) ∧ ∃ (i : Nat), (3 ≤ s.host.spdm) ∧ (i ∈ measured) ∧ True) ∧
    (∃ (s : State), (s.present = true) ∧ True) ∧
    (∃ (s : State) (i : Fin 16) (v : Nat × Nat × Nat), (s.present = true) ∧ (afind s.pwr.readings i.val = some v) ∧ True) ∧
    (∃ (s : State) (i : Fin 16) (v : Nat × Nat × Nat), (s.present = true) ∧ (afind s.pwr.readings i.val = some v) ∧ True) ∧
    (∃ (s : State) (i : Fin 16) (v : Nat × Nat × Nat), (s.present = true) ∧ (afind s.pwr.readings i.val = some v) ∧ True) ∧
    (∃ (s : State), (s.present = true) ∧ True) ∧
    (∃ (s : State), (s.present = true) ∧ True) ∧
    (∃ (s : State) (s1 : State) (h : Header) (r : ReplyTo) (n : Nat) (rsv : Nat), (s.Serves ⟨0x0006, 2, false, false, 8 + 4 * n, rsv, 0, false⟩ h false r s1) ∧ (h.origin ≠ .bmc) ∧ (s1.sec.shutdown.isSome = true) ∧ True) ∧
    (∃ (s : State) (s1 : State) (h : Header) (r : ReplyTo) (mode : Nat) (n : Nat) (rsv : Nat), (s.Serves ⟨0x0006, 2, false, false, 8 + 4 * n, rsv, 0, false⟩ h false r s1) ∧ (h.origin ≠ .bmc) ∧ (s1.sec.shutdown = none) ∧ (1 < mode) ∧ True) ∧
    (∃ (s : State) (s1 : State) (h : Header) (r : ReplyTo) (mode : Nat) (n : Nat) (rsv : Nat) (targets : List DevPart), (s.Serves ⟨0x0006, 2, false, false, 8 + 4 * n, rsv, 0, false⟩ h false r s1) ∧ (h.origin ≠ .bmc) ∧ (s1.sec.shutdown = none) ∧ (mode = 1) ∧ (n ≤ 8) ∧ (targets.length = n) ∧ ((∀ d ∈ targets, d.dev.toNat < 2 ^ 14)) ∧ (s1.sec.run ≠ .fault) ∧ True) ∧
    (∃ (s : State) (s1 : State) (h : Header) (r : ReplyTo) (mode : Nat) (n : Nat) (deadline : Nat) (rsv : Nat) (targets : List DevPart), (s.Serves ⟨0x0006, 2, false, false, 8 + 4 * n, rsv, 0, false⟩ h false r s1) ∧ (h.origin ≠ .bmc) ∧ (s1.sec.shutdown = none) ∧ (mode = 0) ∧ (n ≤ 8) ∧ (targets.length = n) ∧ (targets ≠ []) ∧ ((∀ d ∈ targets, d.dev.toNat < 2 ^ 14)) ∧ (1 ≤ deadline) ∧ (deadline ≤ 60000) ∧ (s1.sec.run = .service) ∧ True) ∧
    (∃ (s : State) (d : Shutdown), (s.sec.shutdown = some d) ∧ (d.immediate = false) ∧ (d.deadlinePassed = false) ∧ (s.sec.run = .stopping) ∧ (s.sat.sats = []) ∧ (s.sat.recs = []) ∧ ((∀ q ∈ s.pln.parts, q.state = .free ∧ q.composing = none ∧ q.held = none)) ∧ ((∀ p, p < 64 → (s.port p).state = .disabled)) ∧ (s.shapeOk = true) ∧ True) :=
  ⟨⟨(stg 0x0900 0), (taken (stg 0x0900 0 : State) ⟨0x0900, 1, false, false, 16, (0 : Nat), (0x10000 : BitVec 64).toNat, false⟩ (hd 48 : Header) false), (hd 48), (replyOf (stg 0x0900 0 : State) ⟨0x0900, 1, false, false, 16, (0 : Nat), (0x10000 : BitVec 64).toNat, false⟩ (hd 48 : Header) false), (3), (0x10000), (0), (served (by decide +kernel) (by decide +kernel) (by decide +kernel)), by decide +kernel⟩,
   ⟨(stg 0x0900 0), (taken (stg 0x0900 0 : State) ⟨0x0900, 1, false, false, 16, (0 : Nat), (0x10000 : BitVec 64).toNat, false⟩ (hd 48 : Header) false), (hd 48), (replyOf (stg 0x0900 0 : State) ⟨0x0900, 1, false, false, 16, (0 : Nat), (0x10000 : BitVec 64).toNat, false⟩ (hd 48 : Header) false), (2), (1343), (0x10000), (0), (served (by decide +kernel) (by decide +kernel) (by decide +kernel)), by decide +kernel⟩,
   ⟨(stg 0x0900 0), (taken (stg 0x0900 0 : State) ⟨0x0900, 1, false, false, 16, (0 : Nat), (0x10000 : BitVec 64).toNat, false⟩ (hd 48 : Header) false), (hd 48), (replyOf (stg 0x0900 0 : State) ⟨0x0900, 1, false, false, 16, (0 : Nat), (0x10000 : BitVec 64).toNat, false⟩ (hd 48 : Header) false), (2), (1344), (0x10000), (0), (served (by decide +kernel) (by decide +kernel) (by decide +kernel)), by decide +kernel⟩,
   ⟨({ stg 0x0900 0 with sec := { (stg 0x0900 0).sec with aliasCert := zeros 100 } }), (taken ({ stg 0x0900 0 with sec := { (stg 0x0900 0).sec with aliasCert := zeros 100 } } : State) ⟨0x0900, 1, false, false, 16, (0 : Nat), (0x10000 : BitVec 64).toNat, false⟩ (hd 48 : Header) false), (hd 48), (replyOf ({ stg 0x0900 0 with sec := { (stg 0x0900 0).sec with aliasCert := zeros 100 } } : State) ⟨0x0900, 1, false, false, 16, (0 : Nat), (0x10000 : BitVec 64).toNat, false⟩ (hd 48 : Header) false), (1), (99), (0x10000), (0), (served (by decide +kernel) (by decide +kernel) (by decide +kernel)), by decide +kernel⟩,
   ⟨({ stg 0x0900 0 with sec := { (stg 0x0900 0).sec with aliasCert := zeros 100 } }), (taken ({ stg 0x0900 0 with sec := { (stg 0x0900 0).sec with aliasCert := zeros 100 } } : State) ⟨0x0900, 1, false, false, 16, (0 : Nat), (0x10000 : BitVec 64).toNat, false⟩ (hd 48 : Header) false), (hd 48), (replyOf ({ stg 0x0900 0 with sec := { (stg 0x0900 0).sec with aliasCert := zeros 100 } } : State) ⟨0x0900, 1, false, false, 16, (0 : Nat), (0x10000 : BitVec 64).toNat, false⟩ (hd 48 : Header) false), (1), (100), (0x10000), (0), (served (by decide +kernel) (by decide +kernel) (by decide +kernel)), by decide +kernel⟩,
   ⟨({ up.acc 0x0901 with sec := { up.sec with keys := [(65535, [(9, 1)])] } }), (taken ({ up.acc 0x0901 with sec := { up.sec with keys := [(65535, [(9, 1)])] } } : State) ⟨0x0901, 1, false, false, 40, (0 : Nat), 0, false⟩ (hd 72 : Header) false), (hd 72), (replyOf ({ up.acc 0x0901 with sec := { up.sec with keys := [(65535, [(9, 1)])] } } : State) ⟨0x0901, 1, false, false, 40, (0 : Nat), 0, false⟩ (hd 72 : Header) false), (0xFFFF), (9), (0), (served (by decide +kernel) (by decide +kernel) (by decide +kernel)), by decide +kernel⟩,
   ⟨({ up.acc 0x0901 with sec := { up.sec with keys := [(65535, [(9, 1), (10, 2)])] } }), (taken ({ up.acc 0x0901 with sec := { up.sec with keys := [(65535, [(9, 1), (10, 2)])] } } : State) ⟨0x0901, 1, false, false, 40, (0 : Nat), 0, false⟩ (hd 72 : Header) false), (hd 72), (replyOf ({ up.acc 0x0901 with sec := { up.sec with keys := [(65535, [(9, 1), (10, 2)])] } } : State) ⟨0x0901, 1, false, false, 40, (0 : Nat), 0, false⟩ (hd 72 : Header) false), (0xFFFF), (65535), (0), (served (by decide +kernel) (by decide +kernel) (by decide +kernel)), by decide +kernel, by decide +kernel, by decide +kernel, (Or.inl (by decide +kernel)), trivial⟩,
   ⟨({ up.acc 0x0901 with sec := { up.sec with keys := [(65535, [(9, 1)])] } }), (taken ({ up.acc 0x0901 with sec := { up.sec with keys := [(65535, [(9, 1)])] } } : State) ⟨0x0901, 1, false, false, 40, (0 : Nat), 0, false⟩ (hd 72 : Header) false), (hd 72), (replyOf ({ up.acc 0x0901 with sec := { up.sec with keys := [(65535, [(9, 1)])] } } : State) ⟨0x0901, 1, false, false, 40, (0 : Nat), 0, false⟩ (hd 72 : Header) false), (0xFFFF), (10), (0), (served (by decide +kernel) (by decide +kernel) (by decide +kernel)), by decide +kernel⟩,
   ⟨({ up.acc 0x0901 with sec := { up.sec with keys := [(65535, [(9, 1), (10, 2)])] } }), (taken ({ up.acc 0x0901 with sec := { up.sec with keys := [(65535, [(9, 1), (10, 2)])] } } : State) ⟨0x0901, 1, false, false, 40, (0 : Nat), 0, false⟩ (hd 72 : Header) false), (hd 72), (replyOf ({ up.acc 0x0901 with sec := { up.sec with keys := [(65535, [(9, 1), (10, 2)])] } } : State) ⟨0x0901, 1, false, false, 40, (0 : Nat), 0, false⟩ (hd 72 : Header) false), (0xFFFF), (9), (0), (served (by decide +kernel) (by decide +kernel) (by decide +kernel)), by decide +kernel⟩,
   ⟨(up), (true), by decide +kernel⟩,
   ⟨(up), (false), by decide +kernel⟩,
   ⟨(up), by decide +kernel⟩,
   ⟨(up), by decide +kernel, (.getDigests), by decide +kernel⟩,
   ⟨({ up with host := { up.host with spdm := 3 } }), by decide +kernel⟩,
   ⟨({ up with host := { up.host with spdm := 3 } }), by decide +kernel⟩,
   ⟨({ up with host := { up.host with spdm := 3 } }), by decide +kernel, (31), by decide +kernel⟩,
   ⟨(up), by decide +kernel⟩,
   ⟨({ up with pwr := { up.pwr with readings := [(15, (1, 2, 3))] } }), (15), ((1, 2, 3)), by decide +kernel⟩,
   ⟨({ up with pwr := { up.pwr with readings := [(15, (1, 2, 3))] } }), (15), ((1, 2, 3)), by decide +kernel⟩,
   ⟨({ up with pwr := { up.pwr with readings := [(15, (1, 2, 3))] } }), (15), ((1, 2, 3)), by decide +kernel⟩,
   ⟨(up), by decide +kernel⟩,
   ⟨(up), by decide +kernel⟩,
   ⟨({ up.acc 0x0006 with sec := { up.sec with shutdown := some sd0 } }), (taken ({ up.acc 0x0006 with sec := { up.sec with shutdown := some sd0 } } : State) ⟨0x0006, 2, false, false, 8 + 4 * (8 : Nat), (0 : Nat), 0, false⟩ (hd 72 : Header) false), (hd 72), (replyOf ({ up.acc 0x0006 with sec := { up.sec with shutdown := some sd0 } } : State) ⟨0x0006, 2, false, false, 8 + 4 * (8 : Nat), (0 : Nat), 0, false⟩ (hd 72 : Header) false), (8), (0), (served (by decide +kernel) (by decide +kernel) (by decide +kernel)), by decide +kernel⟩,
   ⟨(up.acc 0x0006), (taken (up.acc 0x0006 : State) ⟨0x0006, 2, false, false, 8 + 4 * (8 : Nat), (0 : Nat), 0, false⟩ (hd 72 : Header) false), (hd 72), (replyOf (up.acc 0x0006 : State) ⟨0x0006, 2, false, false, 8 + 4 * (8 : Nat), (0 : Nat), 0, false⟩ (hd 72 : Header) false), (2), (8), (0), (served (by decide +kernel) (by decide +kernel) (by decide +kernel)), by decide +kernel⟩,
   ⟨({ vfUp with cmd := { vfUp.cmd with accepted := (up.acc 0x0006).cmd.accepted } }), (taken ({ vfUp with cmd := { vfUp.cmd with accepted := (up.acc 0x0006).cmd.accepted } } : State) ⟨0x0006, 2, false, false, 8 + 4 * (8 : Nat), (0 : Nat), 0, false⟩ (hd 72 : Header) false), (hd 72), (replyOf ({ vfUp with cmd := { vfUp.cmd with accepted := (up.acc 0x0006).cmd.accepted } } : State) ⟨0x0006, 2, false, false, 8 + 4 * (8 : Nat), (0 : Nat), 0, false⟩ (hd 72 : Header) false), (1), (8), (0), (List.replicate 8 tgt), (served (by decide +kernel) (by decide +kernel) (by decide +kernel)), by decide +kernel⟩,
   ⟨({ own sat0 with cmd := (up.acc 0x0006).cmd }), (taken ({ own sat0 with cmd := (up.acc 0x0006).cmd } : State) ⟨0x0006, 2, false, false, 8 + 4 * (8 : Nat), (0 : Nat), 0, false⟩ (hd 72 : Header) false), (hd 72), (replyOf ({ own sat0 with cmd := (up.acc 0x0006).cmd } : State) ⟨0x0006, 2, false, false, 8 + 4 * (8 : Nat), (0 : Nat), 0, false⟩ (hd 72 : Header) false), (0), (8), (60000), (0), (List.replicate 8 tgt), (served (by decide +kernel) (by decide +kernel) (by decide +kernel)), by decide +kernel⟩,
   ⟨({ up with sec := { up.sec with run := .stopping, shutdown := some sd0 } }), (sd0), by decide +kernel⟩⟩

theorem meets_ControlInputs :
    (∃ (s : State), (s.present = true) ∧ (s.pwr.pfail = false) ∧ (s.pwr.pfailHold = false) ∧ (s.pwr.pfailIgnored = false) ∧ (s.flag Reg.secCtrl 2 = false) ∧ (agetD s.blt.outbox 0x3F8 [] = []) ∧ True) ∧
    (∃ (s : State), (s.present = true) ∧ (s.pwr.pfail = false) ∧ (s.pwr.pfailHold = false) ∧ (s.pwr.pfailIgnored = false) ∧ (s.flag Reg.secCtrl 2 = true) ∧ (s.sec.run = .service) ∧ (s.sec.shutdown = none) ∧ True) ∧
    (∃ (s : State), (s.pwr.pfail = true ∨ s.pwr.pfailHold = true ∨ s.pwr.pfailIgnored = true) ∧ True) ∧
    (∃ (s : State), (s.pwr.pfail = true) ∧ (s.pwr.pfailHold = false) ∧ (s.pwr.pfailIgnored = false) ∧ (s.fls.formatting = none) ∧ (s.fls.holdForever = false) ∧ True) ∧
    (∃ (s : State), (s.pwr.pfail = true) ∧ (s.pwr.pfailHold = false) ∧ (s.pwr.pfailIgnored = false) ∧ (s.fls.formatting = none) ∧ (s.fls.holdForever = true) ∧ True) ∧
    (∃ (s : State), (s.pwr.pfailHold = true) ∧ True) ∧
    (∃ (s : State) (now : Nat), (s.pwr.pfailHold = true) ∧ (s.pwr.pfailAt + 10000000 ≤ max s.stk.time now) ∧ (s.fls.formatting = none) ∧ True) ∧
    (∃ (s : State) (now : Nat), (s.pwr.pfailHold = true) ∧ (s.pwr.pfailAt + 10000000 ≤ max s.stk.time now) ∧ (s.fls.formatting = none) ∧ (s.flag Reg.secCtrl 2 = false) ∧ True) ∧
    (∃ (s : State) (now : Nat), (s.pwr.pfailHold = true) ∧ (s.pwr.pfailAt + 10000000 ≤ max s.stk.time now) ∧ (s.fls.formatting = none) ∧ True) ∧
    (∃ (s : State), (s.pwr.pfail = true) ∧ (s.pwr.pfailHold = false) ∧ (s.pwr.pfailIgnored = false) ∧ (s.fls.formatting = none) ∧ (agetD s.blt.outbox 0x3F8 [] = []) ∧ True) ∧
    (∃ (s : State), (s.pwr.pfailIgnored = true) ∧ True) ∧
    (∃ (s : State), (s.present = true) ∧ (s.pwr.therm = false) ∧ (s.pwr.thermHold = false) ∧ True) ∧
    (∃ (s : State) (now : Nat), (s.pwr.therm = true) ∧ (s.pwr.thermHold = false ∨ s.pwr.thermAt + 10000000 ≤ max s.stk.time now) ∧ True) ∧
    (∃ (s : State), (s.present = true) ∧ (s.pwr.glitch.length = 3) ∧ True) :=
  ⟨⟨(up), by decide +kernel⟩,
   ⟨({ up.setReg Reg.secCtrl 4 with pln := { Pln.reset with ready := true, parts := List.replicate 16 part0 } }), by decide +kernel⟩,
   ⟨(pw up { Pwr.reset with pfailHold := true }), (Or.inr (Or.inl (by decide +kernel))), trivial⟩,
   ⟨({ pw up { Pwr.reset with pfail := true } with fls := { Fls.reset with hold := true } }), by decide +kernel⟩,
   ⟨({ pw up { Pwr.reset with pfail := true } with fls := { Fls.reset with hold := true, holdForever := true } }), by decide +kernel⟩,
   ⟨(pw up { Pwr.reset with pfail := true, pfailHold := true }), by decide +kernel⟩,
   ⟨(pw up { Pwr.reset with pfail := true, pfailHold := true, pfailAt := 1 }), (10000001), by decide +kernel⟩,
   ⟨(pw up { Pwr.reset with pfail := true, pfailHold := true, pfailAt := 1 }), (10000001), by decide +kernel⟩,
   ⟨({ pw up { Pwr.reset with pfail := true, pfailHold := true, pfailAt := 1 } with fls := { Fls.reset with hold := true } }), (10000001), by decide +kernel⟩,
   ⟨({ pw up { Pwr.reset with pfail := true } with fls := { Fls.reset with hold := true } }), by decide +kernel⟩,
   ⟨(pw up { Pwr.reset with pfailIgnored := true, pfail := true }), by decide +kernel⟩,
   ⟨(pw up { Pwr.reset with step := 7 }), by decide +kernel⟩,
   ⟨(pw up { Pwr.reset with therm := true, thermHold := true, thermAt := 1 }), (10000001), by decide +kernel, (Or.inr (by decide +kernel)), trivial⟩,
   ⟨(up), by decide +kernel⟩⟩

theorem meets_ThrottleAndRegulators :
    (∃ (s : State) (tj : Nat), (s.present = true) ∧ (115 ≤ tj) ∧ True) ∧
    (∃ (s : State) (tj : Nat), (s.present = true) ∧ (105 ≤ tj) ∧ (tj < 115) ∧ True) ∧
    (∃ (s : State) (tj : Nat) (now : Nat), (s.present = true) ∧ (tj < 105) ∧ (s.fld Reg.pwrCtrl 7 0 < tj ∨ s.fld Reg.pwrCap 10 0 < s.pwr.package) ∧ ∃ (f : Nat), (s.pwr.overFrom = some f) ∧ (f + 100000 ≤ max s.stk.time now) ∧ (s.pwr.step ≤ 7) ∧ (s.pwr.floor ≤ s.pwr.step) ∧ True) ∧
    (∃ (s : State) (tj : Nat) (now : Nat), (s.present = true) ∧ (tj < 105) ∧ (s.fld Reg.pwrCtrl 7 0 < tj ∨ s.fld Reg.pwrCap 10 0 < s.pwr.package) ∧ ∃ (f : Nat), (s.pwr.overFrom = some f) ∧ (max s.stk.time now < f + 100000) ∧ True) ∧
    (∃ (s : State) (tj : Nat), (s.present = true) ∧ (tj < 105) ∧ (s.fld Reg.pwrCtrl 7 0 < tj ∨ s.fld Reg.pwrCap 10 0 < s.pwr.package) ∧ (s.pwr.overFrom = none) ∧ True) ∧
    (∃ (s : State) (tj : Nat), (s.present = true) ∧ (tj < 105) ∧ (tj ≤ s.fld Reg.pwrCtrl 7 0) ∧ (s.pwr.package ≤ s.fld Reg.pwrCap 10 0) ∧ (s.fld Reg.pwrCtrl 7 0 ≤ tj + 3 ∨ s.fld Reg.pwrCap 10 0 * 95 ≤ s.pwr.package * 100) ∧ True) ∧
    (∃ (s : State) (tj : Nat), (s.present = true) ∧ (tj < 105) ∧ (tj + 3 < s.fld Reg.pwrCtrl 7 0) ∧ (s.pwr.package * 100 < s.fld Reg.pwrCap 10 0 * 95) ∧ (s.pwr.coolFrom = none) ∧ True) ∧
    (∃ (s : State) (tj : Nat) (now : Nat), (s.present = true) ∧ (tj < 105) ∧ (tj + 3 < s.fld Reg.pwrCtrl 7 0) ∧ (s.pwr.package * 100 < s.fld Reg.pwrCap 10 0 * 95) ∧ ∃ (f : Nat), (s.pwr.coolFrom = some f) ∧ (f + 1000000 ≤ max s.stk.time now) ∧ (s.pwr.floor < s.pwr.step) ∧ (s.pwr.step ≤ 7) ∧ (s.stk.running = true) ∧ True) ∧
    (∃ (s : State) (tj : Nat) (now : Nat), (s.present = true) ∧ (tj < 105) ∧ (tj + 3 < s.fld Reg.pwrCtrl 7 0) ∧ (s.pwr.package * 100 < s.fld Reg.pwrCap 10 0 * 95) ∧ ∃ (f : Nat), (s.pwr.coolFrom = some f) ∧ (f + 1000000 ≤ max s.stk.time now) ∧ (s.pwr.floor < s.pwr.step) ∧ (s.pwr.step ≤ 7) ∧ (s.stk.running = false) ∧ (clamp (s.fld Reg.pwrAvs 21 12) (s.fld Reg.pwrAvs 31 22) (Config.coreVoltage (s.pwr.step - 1)) ≤ s.pwr.avsTarget) ∧ True) ∧
    (∃ (s : State) (tj : Nat) (now : Nat), (s.present = true) ∧ (tj < 105) ∧ (tj + 3 < s.fld Reg.pwrCtrl 7 0) ∧ (s.pwr.package * 100 < s.fld Reg.pwrCap 10 0 * 95) ∧ ∃ (f : Nat), (s.pwr.coolFrom = some f) ∧ (f + 1000000 ≤ max s.stk.time now) ∧ (s.pwr.floor < s.pwr.step) ∧ (s.pwr.step ≤ 7) ∧ (s.stk.running = false) ∧ (s.pwr.avsTarget < clamp (s.fld Reg.pwrAvs 21 12) (s.fld Reg.pwrAvs 31 22) (Config.coreVoltage (s.pwr.step - 1))) ∧ True) ∧
    (∃ (s : State), (s.present = true) ∧ (s.sec.run ≠ .boot) ∧ (s.sec.run ≠ .recovery) ∧ True) ∧
    (∃ (s : State), (s.present = true) ∧ (s.sec.run ≠ .boot) ∧ (s.sec.run ≠ .recovery) ∧ ((s.pwr.avsFails + 1) % 3 ≠ 0) ∧ True) ∧
    (∃ (s : State), (s.present = true) ∧ (s.sec.run ≠ .boot) ∧ (s.sec.run ≠ .recovery) ∧ (s.pwr.avsFails = 2) ∧ True) ∧
    (∃ (s : State) (readings : List (Option (Nat × Nat × Nat))), (s.present = true) ∧ True) :=
  ⟨⟨(up), (115), by decide +kernel⟩,
   ⟨(pw up { Pwr.reset with readings := rdW 900 }), (105), by decide +kernel⟩,
   ⟨(overS 7 300 5), (96), (100005), by decide +kernel, by decide +kernel, (Or.inl (by decide +kernel)), (5), by decide +kernel⟩,
   ⟨(overS 3 301 5), (95), (100004), by decide +kernel, by decide +kernel, (Or.inr (by decide +kernel)), (5), by decide +kernel⟩,
   ⟨(coolS 3 301 none), (95), by decide +kernel, by decide +kernel, (Or.inr (by decide +kernel)), by decide +kernel⟩,
   ⟨(coolS 3 300 (some 5)), (92), by decide +kernel, by decide +kernel, by decide +kernel, by decide +kernel, (Or.inl (by decide +kernel)), trivial⟩,
   ⟨(coolS 3 284 none), (91), by decide +kernel⟩,
   ⟨({ coolS 1 284 (some 5) with stk := { Stk.reset with running := true } }), (91), (1000005), by decide +kernel, by decide +kernel, by decide +kernel, by decide +kernel, (5), by decide +kernel⟩,
   ⟨(let x := (coolS 7 284 (some 5)).setReg Reg.pwrAvs 0xFFFFF000; { x with pwr := { x.pwr with avsTarget := 1023 } }), (91), (1000005), by decide +kernel, by decide +kernel, by decide +kernel, by decide +kernel, (5), by decide +kernel, by decide +kernel, by decide +kernel, by decide +kernel, by decide +kernel, (clampLe (by decide +kernel) (by decide +kernel)), trivial⟩,
   ⟨(let x := (coolS 7 284 (some 5)).setReg Reg.pwrAvs 0xFFFFF000; { x with pwr := { x.pwr with avsTarget := 1022 } }), (91), (1000005), by decide +kernel, by decide +kernel, by decide +kernel, by decide +kernel, (5), by decide +kernel, by decide +kernel, by decide +kernel, by decide +kernel, by decide +kernel, (ltClamp (by decide +kernel) (by decide +kernel)), trivial⟩,
   ⟨({ avs0 with pwr := { avs0.pwr with fallDue := true, step := 5 } }), by decide +kernel⟩,
   ⟨(pw up { Pwr.reset with avsFails := 3 }), by decide +kernel⟩,
   ⟨(pw up { Pwr.reset with avsFails := 2 }), by decide +kernel⟩,
   ⟨((up.setReg (Reg.pwrPmb 15) 0x80008000).setReg (Reg.pwrPmb 0) 0x80000000), ([some (1, 2, 3)]), by decide +kernel⟩⟩

/-- A step from a safe state that changes the state. -/
theorem meets_StepKeepsSafe : ∃ s t : State, s.Safe ∧ step s = .next t ∧ s.sec.debugPending = false ∧ t.sec.debugPending = true :=
  ⟨{ up with pending := [.debugUnlockToken true, .pfailRelease] }, { up with pending := [.pfailRelease], sec := { up.sec with debugPending := true } },
   ⟨by decide +kernel, by decide +kernel⟩, rfl, rfl, rfl⟩

/-! ### The spec's worked examples -/
def outOf (o : Host.Outcome State Fault Refusal) : State := match o with | .next t => t | _ => State.reset
/-- R76's example: member 17, and member 18 once 17 is dead. -/
theorem test_registrar : registrarMember 0x0503000304000007 (2 ^ 32 - 1) = some 17 ∧ registrarMember 0x0503000304000007 (2 ^ 32 - 1 - 2 ^ 17) = some 18 := by
  decide +kernel
/-- The fields of the satchel ID of the worked example of 01: origin, local index, generation. -/
theorem test_satchelId : mkSatchelId 0x0503 0xC1 7 = 0x0503000304000007#64 := by decide
/-- R268's example. -/
theorem test_channel : t1Place 0x12345600 128 = (118, 0x246800) := by decide +kernel
/-- R300's check value of "123456789". -/
theorem test_crc64 : crc64 [0x31, 0x32, 0x33, 0x34, 0x35, 0x36, 0x37, 0x38, 0x39] = 0x6C40DF5F0B497347 := by decide +kernel
/-- R198's two words. -/
theorem test_xlorold : xDecode 0x00C5850B = some .push ∧ xDecode 0x02C5A50B = some .cvWait := by decide +kernel
/-- The phase points of the sprint stroke of 02. -/
theorem test_phases :
    let c : StrokeCfg := ⟨5000000000, 0, 400, 13, 26, 179, 230⟩
    (c.boundary 12500, c.point 12500 13, c.point 12500 26, c.point 12500 179, c.point 12500 230) =
      (10000000000, 10000020312, 10000040625, 10000279687, 10000359375) := by decide +kernel
/-- The example of 15: satchel B's fault, 40 µs after A's, is filed at level 2. -/
def repeats : State :=
  { (up.setReg Reg.bltCtrl 3) with blt := { Blt.reset with seq := 900, entries := [⟨0x385, 0x501, 1, false, 0, [900], 900, 0⟩] } }
theorem test_escalation :
    (outOf (execBlotterMessage 0x385 (some ⟨0x385, 0x501, 1, 0, .none, .dataCorrupt, false, false⟩) repeats)).blt.unack.map (fun u => (u.seq, u.level)) =
      [(901#32, (2 : Fin 4))] := by decide +kernel
/-- FAULT_N goes low with that record, as L2_FAULTN is 1. -/
theorem test_escalation_pulse :
    (outOf (execBlotterMessage 0x385 (some ⟨0x385, 0x501, 1, 0, .none, .dataCorrupt, false, false⟩) repeats)).blt.pulse = true := by decide +kernel
/-- A stored block comes back (R297, R298), and a changed byte of it does not (R300). -/
theorem test_block : (match decodeBlock (encodeBlock 1 [1, 2, 3]).1 0 3 with | .ok l => decide (l = [1, 2, 3]) | .error _ => false) = true := by
  decide +kernel
theorem test_block_changed :
    (match decodeBlock ((encodeBlock 1 [1, 2, 3]).1.set 64 0x55) 0 3 with | .ok _ => false | .error _ => true) = true := by decide +kernel
/-- Reset values of registers (R100, R134, R306). -/
theorem test_resetRegs : (State.reset.reg Reg.cmdCtrl, State.reset.reg Reg.satCtrl, State.reset.reg Reg.kvaCtrl) = (25600, 28, 0) := by decide +kernel
/-- 115 °C trips the device (R536), 114 °C does not. -/
theorem test_trip : (outOf (execThrottleEvaluate 115 0 up)).pwr.tripped = true ∧ (outOf (execThrottleEvaluate 114 0 up)).pwr.tripped = false := by
  decide +kernel
/-- The queue gives commands in order. -/
theorem test_queue : (outOf (step { up with pending := [.debugUnlockToken true, .pfailRelease] })).pending = [.pfailRelease] := rfl

/-! ### Well-formed and ill-formed commands -/
/-- Every check passes on operands that fit. -/
theorem test_fitting0 :
    ([
      .registerWrite 0 false 0,
      .bar0InvalidAccess false 0 0,
      .blockLockWrite 0 0,
      .strokeConfig (hd 32) 0 StrokeCfg.reset 0 0,
      .timeSet (hd 32) 0,
      .satchelAdmit (hd 32) adm false,
      .satchelAppend (hd 32) 1 0 0 0 false [] 0,
      .satchelCancel (hd 32) 1 0,
      .satchelMove (hd 32) 1 0 0 false 0,
      .satchelFree (hd 32) 1,
      .satchelQuery (hd 32) 1 0,
      .satchelRecover (hd 32) 1 0 0 0,
      .offer (msg 1 0 0 0 0) sat0 false 0 false none none false,
      .offerNote (msg 1 0 0 0 0),
      .claim (msg 1 0 0 0 0),
      .commit (msg 1 0 0 0 0),
      .release (msg 1 0 0 0 0),
      .decline (msg 1 0 0 0 0),
      .abortReq (msg 1 0 0 0 0),
      .abortAns (msg 1 0 0 0 0),
      .mirror (msg 1 0 0 0 0) [],
      .mirrorAck (msg 1 0 0 0 0),
      .register (msg 1 0 0 0 0) sat0 [],
      .registerAck (msg 1 0 0 0 0),
      .probe (msg 1 0 0 0 0),
      .probeAns (msg 1 0 0 0 0),
      .surrender (msg 1 0 0 0 0),
      .recoverAssign (msg 1 0 0 0 0) 0 sat0 [],
      .recoverAns (msg 1 0 0 0 0),
      .custodyMessageReturned .mirror (msg 1 0 0 0 0) .empty,
      .custodyUndelivered .mirror 0 (msg 1 0 0 0 0) .empty,
      .parkConfig (hd 32) ParkCfg.reset 0 0 0,
      .parkPool (hd 32) 0 0,
      .tenantPark (hd 32) 0 0 0 0 0 0,
      .parkQuery (hd 32) 0 0,
      .inkwellPublish (hd 32) 1 0 false 0,
      .inkwellWithdraw (hd 32) 0 0,
      .kvSwapConfig (hd 32) 0 0 [] 0,
      .faultResume (hd 32) 0 0 0,
      .partitionCompose (hd 32) cp none] : List Instr).all (fun i => i.wf) = true := by decide +kernel

/-- Every check passes on operands that fit. -/
theorem test_fitting1 :
    ([
      .partitionDecompose (hd 32),
      .partitionSuspend (hd 32),
      .partitionResume (hd 32),
      .instanceSet (hd 32) 0 0 0 false false 0,
      .adapterLoad (hd 32) 0 0 0 0 false 0 0 0 0,
      .adapterUnload (hd 32) 0 0,
      .tenantBudget (hd 32) 0 0 0 0 0,
      .partitionTenants (hd 32) 0 0 [] 0,
      .tenantRelease (hd 32) 0 0,
      .t1TrainingComplete (List.replicate 32 false),
      .t1Tracking (List.replicate 32 false),
      .t1TempRead (List.replicate 32 0),
      .patrolScrub 0 false false,
      .tlbInvalidate (hd 32) 0 0 0 0,
      .regionMove (hd 32) 0 0 0,
      .flashFormat (hd 32) 0 0,
      .flashExtentCreate (hd 32) 0 0 0 0,
      .flashExtentDelete (hd 32) 0 0,
      .flashWrite (hd 32) 0 0 0 0 0,
      .flashRead (hd 32) 0 0 0 0 [] 0,
      .flashDiscard (hd 32) 0 0 0 0,
      .flashHealth (hd 32) 0,
      .nandTempRead (List.replicate 32 0),
      .laneLoss 0 0 0,
      .ctrlFlitReceive 0 0 (zeros 62) 0,
      .packetRoute none pk0 0,
      .linkState 0 0 0 (List.replicate 32 0) 0,
      .portControl (hd 32) 0 0 0,
      .openPkt pk0 0,
      .openAck pk0 0,
      .closePkt pk0 0,
      .closeAck pk0 0,
      .ack pk0 0,
      .nak pk0 0,
      .put pk0 0,
      .get pk0 0,
      .getData pk0 0,
      .store pk0 0,
      .load pk0 0,
      .loadData pk0 0] : List Instr).all (fun i => i.wf) = true := by decide +kernel

/-- Every check passes on operands that fit. -/
theorem test_fitting2 :
    ([
      .atomic pk0 0,
      .atomicData pk0 0,
      .combined pk0 0,
      .combinedData pk0 0,
      .query pk0 0,
      .queryData pk0 0,
      .reduce pk0 0,
      .complete pk0 0,
      .command (env 0) 0 (hd 32) none [],
      .regionRegister (hd 32) 0 0 0 0 0 0,
      .regionRevoke (hd 32) 0,
      .xqCreate (hd 32) 0 0 0,
      .xqDestroy (hd 32) 0 0,
      .connQuery (hd 32) 0 0 0,
      .atomicQuery (hd 32) 0 0 0,
      .collectorCreate (hd 32) 0 0 0 0 0,
      .collectiveCreate (hd 32) 0 0 0 [] 0,
      .groupDestroy (hd 32) 0 0 0,
      .windowBadLength 0 0 0 0,
      .nop (hd 32),
      .deviceQuery (hd 32),
      .ringCreate (hd 32) 0 0 0 0 0 0 0 0 0 0,
      .ringDestroy (hd 32) 0 0 0,
      .faultAck (hd 32) 0 0 0 0,
      .vfEnable false 0,
      .bar4Access 0 false false 0 [] 1,
      .pldmRequest 0,
      .identityGet (hd 32) 0 0 0 0,
      .tenantKeySet (hd 32) 0 0 0 0 0,
      .fwStage (hd 32) 0 0 im0 0,
      .fwActivate (hd 32) 0 0,
      .deviceShutdown (hd 32) 0 0 0 [] 0,
      .throttleEvaluate 0 0,
      .pmbusPoll (List.replicate 16 none),
      .harnessWindowAccess 0 0 .agent (.load 4) 0 0,
      .packetCheckMismatch (hd 32) 0,
      .undefinedOpcode (hd 32) 0,
      .ringQueryReceive 0 0 1 0 0 0 0 [] 0 [] []] : List Instr).all (fun i => i.wf) = true := by decide +kernel
/-- Every check refuses an operand that does not fit, one at a time. -/
theorem test_unfitting0 :
    ([
      .registerWrite (2 ^ 26) false 0,
      .bar0InvalidAccess false (2 ^ 26) 0,
      .bar0InvalidAccess false 0 9,
      .blockLockWrite (2 ^ 26) 0,
      .strokeConfig { hd 32 with length := 2 ^ 32 } 0 StrokeCfg.reset 0 0,
      .strokeConfig (hd 32) (2 ^ 8) StrokeCfg.reset 0 0,
      .strokeConfig (hd 32) 0 StrokeCfg.reset (2 ^ 64) 0,
      .strokeConfig (hd 32) 0 StrokeCfg.reset 0 (2 ^ 64),
      .timeSet { hd 32 with hrsv := 2 ^ 80 } 0,
      .timeSet (hd 32) (2 ^ 64),
      .satchelAdmit { hd 32 with length := 2 ^ 32 } adm false,
      .satchelAppend { hd 32 with hrsv := 2 ^ 80 } 1 0 0 0 false [] 0,
      .satchelAppend (hd 32) 1 (2 ^ 32) 0 0 false [] 0,
      .satchelAppend (hd 32) 1 0 0 (2 ^ 8) false [] 0,
      .satchelAppend (hd 32) 1 0 0 0 false [] (2 ^ 64),
      .satchelCancel { hd 32 with length := 2 ^ 32 } 1 0,
      .satchelCancel (hd 32) 1 (2 ^ 64),
      .satchelMove { hd 32 with hrsv := 2 ^ 80 } 1 0 0 false 0,
      .satchelMove (hd 32) 1 0 (2 ^ 8) false 0,
      .satchelMove (hd 32) 1 0 0 false (2 ^ 64),
      .satchelFree { hd 32 with length := 2 ^ 32 } 1,
      .satchelQuery { hd 32 with hrsv := 2 ^ 80 } 1 0,
      .satchelRecover { hd 32 with length := 2 ^ 32 } 1 0 0 0,
      .satchelRecover (hd 32) 1 0 (2 ^ 8) 0,
      .satchelRecover (hd 32) 1 0 0 (2 ^ 64),
      .offer { msg 1 0 0 0 0 with arg := 2 ^ 64 } sat0 false 0 false none none false,
      .offerNote { msg 1 0 0 0 0 with epoch := 2 ^ 32 },
      .claim { msg 1 0 0 0 0 with status := 256 },
      .commit { msg 1 0 0 0 0 with state := 256 },
      .release { msg 1 0 0 0 0 with logLen := 2 ^ 32 },
      .decline { msg 1 0 0 0 0 with arg := 2 ^ 64 },
      .abortReq { msg 1 0 0 0 0 with epoch := 2 ^ 32 },
      .abortAns { msg 1 0 0 0 0 with status := 256 },
      .mirror { msg 1 0 0 0 0 with state := 256 } [],
      .mirrorAck { msg 1 0 0 0 0 with logLen := 2 ^ 32 },
      .register { msg 1 0 0 0 0 with arg := 2 ^ 64 } sat0 [],
      .registerAck { msg 1 0 0 0 0 with epoch := 2 ^ 32 },
      .probe { msg 1 0 0 0 0 with status := 256 },
      .probeAns { msg 1 0 0 0 0 with state := 256 },
      .surrender { msg 1 0 0 0 0 with logLen := 2 ^ 32 }] : List Instr).all (fun i => !i.wf) = true := by decide +kernel

/-- Every check refuses an operand that does not fit, one at a time. -/
theorem test_unfitting1 :
    ([
      .recoverAssign { msg 1 0 0 0 0 with arg := 2 ^ 64 } 0 sat0 [],
      .recoverAns { msg 1 0 0 0 0 with epoch := 2 ^ 32 },
      .custodyMessageReturned .mirror { msg 1 0 0 0 0 with status := 256 } .empty,
      .custodyUndelivered .mirror 0 { msg 1 0 0 0 0 with state := 256 } .empty,
      .parkConfig { hd 32 with length := 2 ^ 32 } ParkCfg.reset 0 0 0,
      .parkConfig (hd 32) ParkCfg.reset (2 ^ 8) 0 0,
      .parkConfig (hd 32) ParkCfg.reset 0 (2 ^ 8) 0,
      .parkConfig (hd 32) ParkCfg.reset 0 0 (2 ^ 64),
      .parkPool { hd 32 with hrsv := 2 ^ 80 } 0 0,
      .parkPool (hd 32) (2 ^ 32) 0,
      .parkPool (hd 32) 0 (2 ^ 32),
      .tenantPark { hd 32 with length := 2 ^ 32 } 0 0 0 0 0 0,
      .tenantPark (hd 32) 0 (2 ^ 32) 0 0 0 0,
      .tenantPark (hd 32) 0 0 (2 ^ 32) 0 0 0,
      .tenantPark (hd 32) 0 0 0 (2 ^ 32) 0 0,
      .tenantPark (hd 32) 0 0 0 0 (2 ^ 32) 0,
      .tenantPark (hd 32) 0 0 0 0 0 (2 ^ 64),
      .parkQuery { hd 32 with hrsv := 2 ^ 80 } 0 0,
      .parkQuery (hd 32) 0 (2 ^ 64),
      .inkwellPublish { hd 32 with length := 2 ^ 32 } 1 0 false 0,
      .inkwellPublish (hd 32) 1 (2 ^ 32) false 0,
      .inkwellPublish (hd 32) 1 0 false (2 ^ 64),
      .inkwellWithdraw { hd 32 with hrsv := 2 ^ 80 } 0 0,
      .inkwellWithdraw (hd 32) 0 (2 ^ 64),
      .kvSwapConfig { hd 32 with length := 2 ^ 32 } 0 0 [] 0,
      .kvSwapConfig (hd 32) (2 ^ 32) 0 [] 0,
      .kvSwapConfig (hd 32) 0 (2 ^ 8) [] 0,
      .kvSwapConfig (hd 32) 0 0 [] (2 ^ 64),
      .faultResume { hd 32 with hrsv := 2 ^ 80 } 0 0 0,
      .faultResume (hd 32) 0 (2 ^ 8) 0,
      .faultResume (hd 32) 0 0 (2 ^ 64),
      .partitionCompose { hd 32 with length := 2 ^ 32 } cp none,
      .partitionDecompose { hd 32 with hrsv := 2 ^ 80 },
      .partitionSuspend { hd 32 with length := 2 ^ 32 },
      .partitionResume { hd 32 with hrsv := 2 ^ 80 },
      .instanceSet { hd 32 with length := 2 ^ 32 } 0 0 0 false false 0,
      .instanceSet (hd 32) (2 ^ 16) 0 0 false false 0,
      .instanceSet (hd 32) 0 0 (2 ^ 8) false false 0,
      .instanceSet (hd 32) 0 0 0 false false (2 ^ 64),
      .adapterLoad { hd 32 with hrsv := 2 ^ 80 } 0 0 0 0 false 0 0 0 0] : List Instr).all (fun i => !i.wf) = true := by decide +kernel

/-- Every check refuses an operand that does not fit, one at a time. -/
theorem test_unfitting2 :
    ([
      .adapterLoad (hd 32) 0 (2 ^ 16) 0 0 false 0 0 0 0,
      .adapterLoad (hd 32) 0 0 0 (2 ^ 8) false 0 0 0 0,
      .adapterLoad (hd 32) 0 0 0 0 false 0 (2 ^ 8) 0 0,
      .adapterLoad (hd 32) 0 0 0 0 false 0 0 0 (2 ^ 64),
      .adapterUnload { hd 32 with length := 2 ^ 32 } 0 0,
      .adapterUnload (hd 32) 0 (2 ^ 64),
      .tenantBudget { hd 32 with hrsv := 2 ^ 80 } 0 0 0 0 0,
      .tenantBudget (hd 32) 0 (2 ^ 32) 0 0 0,
      .tenantBudget (hd 32) 0 0 (2 ^ 32) 0 0,
      .tenantBudget (hd 32) 0 0 0 (2 ^ 32) 0,
      .tenantBudget (hd 32) 0 0 0 0 (2 ^ 64),
      .partitionTenants { hd 32 with length := 2 ^ 32 } 0 0 [] 0,
      .partitionTenants (hd 32) (2 ^ 8) 0 [] 0,
      .partitionTenants (hd 32) 0 (2 ^ 16) [] 0,
      .partitionTenants (hd 32) 0 0 [] (2 ^ 64),
      .tenantRelease { hd 32 with hrsv := 2 ^ 80 } 0 0,
      .tenantRelease (hd 32) 0 (2 ^ 64),
      .t1TrainingComplete [],
      .t1Tracking [],
      .t1TempRead [],
      .patrolScrub (2 ^ 42) false false,
      .tlbInvalidate { hd 32 with length := 2 ^ 32 } 0 0 0 0,
      .tlbInvalidate (hd 32) (2 ^ 8) 0 0 0,
      .tlbInvalidate (hd 32) 0 (2 ^ 64) 0 0,
      .tlbInvalidate (hd 32) 0 0 (2 ^ 64) 0,
      .tlbInvalidate (hd 32) 0 0 0 (2 ^ 64),
      .regionMove { hd 32 with hrsv := 2 ^ 80 } 0 0 0,
      .regionMove (hd 32) (2 ^ 64) 0 0,
      .regionMove (hd 32) 0 (2 ^ 64) 0,
      .regionMove (hd 32) 0 0 (2 ^ 64),
      .flashFormat { hd 32 with length := 2 ^ 32 } 0 0,
      .flashFormat (hd 32) (2 ^ 8) 0,
      .flashFormat (hd 32) 0 (2 ^ 64),
      .flashExtentCreate { hd 32 with hrsv := 2 ^ 80 } 0 0 0 0,
      .flashExtentCreate (hd 32) (2 ^ 16) 0 0 0,
      .flashExtentCreate (hd 32) 0 (2 ^ 8) 0 0,
      .flashExtentCreate (hd 32) 0 0 (2 ^ 8) 0,
      .flashExtentCreate (hd 32) 0 0 0 (2 ^ 32),
      .flashExtentDelete { hd 32 with length := 2 ^ 32 } 0 0,
      .flashExtentDelete (hd 32) (2 ^ 16) 0] : List Instr).all (fun i => !i.wf) = true := by decide +kernel

/-- Every check refuses an operand that does not fit, one at a time. -/
theorem test_unfitting3 :
    ([
      .flashExtentDelete (hd 32) 0 (2 ^ 64),
      .flashWrite { hd 32 with hrsv := 2 ^ 80 } 0 0 0 0 0,
      .flashWrite (hd 32) (2 ^ 16) 0 0 0 0,
      .flashWrite (hd 32) 0 (2 ^ 32) 0 0 0,
      .flashWrite (hd 32) 0 0 (2 ^ 32) 0 0,
      .flashWrite (hd 32) 0 0 0 0 (2 ^ 64),
      .flashRead { hd 32 with length := 2 ^ 32 } 0 0 0 0 [] 0,
      .flashRead (hd 32) (2 ^ 16) 0 0 0 [] 0,
      .flashRead (hd 32) 0 (2 ^ 32) 0 0 [] 0,
      .flashRead (hd 32) 0 0 (2 ^ 32) 0 [] 0,
      .flashRead (hd 32) 0 0 0 0 [] (2 ^ 64),
      .flashRead (hd 32) 0 0 0 0 [0] 0,
      .flashDiscard { hd 32 with hrsv := 2 ^ 80 } 0 0 0 0,
      .flashDiscard (hd 32) (2 ^ 16) 0 0 0,
      .flashDiscard (hd 32) 0 (2 ^ 32) 0 0,
      .flashDiscard (hd 32) 0 0 (2 ^ 32) 0,
      .flashDiscard (hd 32) 0 0 0 (2 ^ 64),
      .flashHealth { hd 32 with length := 2 ^ 32 } 0,
      .nandTempRead [],
      .laneLoss 0 5 0,
      .ctrlFlitReceive 0 0 [] 0,
      .packetRoute none { pk0 with len := 65536 } 0,
      .linkState 0 0 0 [] 0,
      .linkState 0 0 0 (List.replicate 32 4) 0,
      .portControl { hd 32 with hrsv := 2 ^ 80 } 0 0 0,
      .portControl (hd 32) (2 ^ 8) 0 0,
      .portControl (hd 32) 0 (2 ^ 8) 0,
      .portControl (hd 32) 0 0 (2 ^ 64),
      .openPkt { pk0 with len := 65536 } 0,
      .openAck { pk0 with len := 65536 } 0,
      .closePkt { pk0 with len := 65536 } 0,
      .closeAck { pk0 with len := 65536 } 0,
      .ack { pk0 with len := 65536 } 0,
      .nak { pk0 with len := 65536 } 0,
      .put { pk0 with len := 65536 } 0,
      .get { pk0 with len := 65536 } 0,
      .getData { pk0 with len := 65536 } 0,
      .store { pk0 with len := 65536 } 0,
      .load { pk0 with len := 65536 } 0,
      .loadData { pk0 with len := 65536 } 0] : List Instr).all (fun i => !i.wf) = true := by decide +kernel

/-- Every check refuses an operand that does not fit, one at a time. -/
theorem test_unfitting4 :
    ([
      .atomic { pk0 with len := 65536 } 0,
      .atomicData { pk0 with len := 65536 } 0,
      .combined { pk0 with len := 65536 } 0,
      .combinedData { pk0 with len := 65536 } 0,
      .query { pk0 with len := 65536 } 0,
      .queryData { pk0 with len := 65536 } 0,
      .reduce { pk0 with len := 65536 } 0,
      .complete { pk0 with len := 65536 } 0,
      .command (env 0) 0 { hd 32 with length := 2 ^ 32 } none [],
      .command (env 0) (2 ^ 16) (hd 32) none [],
      .command (env 2) 0 (hd 32) none [],
      .command (env 256) 0 (hd 32) none [],
      .regionRegister { hd 32 with hrsv := 2 ^ 80 } 0 0 0 0 0 0,
      .regionRegister (hd 32) (2 ^ 64) 0 0 0 0 0,
      .regionRegister (hd 32) 0 (2 ^ 64) 0 0 0 0,
      .regionRegister (hd 32) 0 0 (2 ^ 8) 0 0 0,
      .regionRegister (hd 32) 0 0 0 (2 ^ 8) 0 0,
      .regionRegister (hd 32) 0 0 0 0 0 (2 ^ 64),
      .regionRevoke { hd 32 with length := 2 ^ 32 } 0,
      .xqCreate { hd 32 with hrsv := 2 ^ 80 } 0 0 0,
      .xqCreate (hd 32) (2 ^ 32) 0 0,
      .xqCreate (hd 32) 0 (2 ^ 64) 0,
      .xqCreate (hd 32) 0 0 (2 ^ 64),
      .xqDestroy { hd 32 with length := 2 ^ 32 } 0 0,
      .xqDestroy (hd 32) (2 ^ 16) 0,
      .xqDestroy (hd 32) 0 (2 ^ 64),
      .connQuery { hd 32 with hrsv := 2 ^ 80 } 0 0 0,
      .connQuery (hd 32) (2 ^ 32) 0 0,
      .connQuery (hd 32) 0 0 (2 ^ 64),
      .atomicQuery { hd 32 with length := 2 ^ 32 } 0 0 0,
      .atomicQuery (hd 32) 0 0 (2 ^ 64),
      .collectorCreate { hd 32 with hrsv := 2 ^ 80 } 0 0 0 0 0,
      .collectorCreate (hd 32) (2 ^ 16) 0 0 0 0,
      .collectorCreate (hd 32) 0 (2 ^ 16) 0 0 0,
      .collectorCreate (hd 32) 0 0 (2 ^ 16) 0 0,
      .collectorCreate (hd 32) 0 0 0 (2 ^ 8) 0,
      .collectorCreate (hd 32) 0 0 0 0 (2 ^ 64),
      .collectiveCreate { hd 32 with length := 2 ^ 32 } 0 0 0 [] 0,
      .collectiveCreate (hd 32) (2 ^ 16) 0 0 [] 0,
      .collectiveCreate (hd 32) 0 (2 ^ 8) 0 [] 0] : List Instr).all (fun i => !i.wf) = true := by decide +kernel

/-- Every check refuses an operand that does not fit, one at a time. -/
theorem test_unfitting5 :
    ([
      .collectiveCreate (hd 32) 0 0 (2 ^ 8) [] 0,
      .collectiveCreate (hd 32) 0 0 0 [] (2 ^ 64),
      .collectiveCreate (hd 32) 0 0 0 (List.replicate 65536 tgt) 0,
      .groupDestroy { hd 32 with hrsv := 2 ^ 80 } 0 0 0,
      .groupDestroy (hd 32) (2 ^ 8) 0 0,
      .groupDestroy (hd 32) 0 (2 ^ 16) 0,
      .groupDestroy (hd 32) 0 0 (2 ^ 64),
      .windowBadLength 0 (2 ^ 16) 0 0,
      .windowBadLength 0 0 0 (2 ^ 32),
      .nop { hd 32 with length := 2 ^ 32 },
      .deviceQuery { hd 32 with hrsv := 2 ^ 80 },
      .ringCreate { hd 32 with length := 2 ^ 32 } 0 0 0 0 0 0 0 0 0 0,
      .ringCreate (hd 32) (2 ^ 8) 0 0 0 0 0 0 0 0 0,
      .ringCreate (hd 32) 0 (2 ^ 8) 0 0 0 0 0 0 0 0,
      .ringCreate (hd 32) 0 0 (2 ^ 16) 0 0 0 0 0 0 0,
      .ringCreate (hd 32) 0 0 0 (2 ^ 32) 0 0 0 0 0 0,
      .ringCreate (hd 32) 0 0 0 0 0 0 0 (2 ^ 16) 0 0,
      .ringCreate (hd 32) 0 0 0 0 0 0 0 0 (2 ^ 16) 0,
      .ringCreate (hd 32) 0 0 0 0 0 0 0 0 0 (2 ^ 64),
      .ringDestroy { hd 32 with hrsv := 2 ^ 80 } 0 0 0,
      .ringDestroy (hd 32) (2 ^ 8) 0 0,
      .ringDestroy (hd 32) 0 (2 ^ 16) 0,
      .ringDestroy (hd 32) 0 0 (2 ^ 64),
      .faultAck { hd 32 with length := 2 ^ 32 } 0 0 0 0,
      .faultAck (hd 32) (2 ^ 8) 0 0 0,
      .faultAck (hd 32) 0 (2 ^ 8) 0 0,
      .faultAck (hd 32) 0 0 0 (2 ^ 64),
      .vfEnable false (2 ^ 16),
      .bar4Access 0 false false 0 [0] 1,
      .bar4Access 0 false false 0 [] 0,
      .pldmRequest (2 ^ 16),
      .identityGet { hd 32 with hrsv := 2 ^ 80 } 0 0 0 0,
      .identityGet (hd 32) (2 ^ 8) 0 0 0,
      .identityGet (hd 32) 0 (2 ^ 32) 0 0,
      .identityGet (hd 32) 0 0 0 (2 ^ 64),
      .tenantKeySet { hd 32 with length := 2 ^ 32 } 0 0 0 0 0,
      .tenantKeySet (hd 32) 0 (2 ^ 32) 0 0 0,
      .tenantKeySet (hd 32) 0 0 (2 ^ 8) 0 0,
      .tenantKeySet (hd 32) 0 0 0 0 (2 ^ 64),
      .fwStage { hd 32 with hrsv := 2 ^ 80 } 0 0 im0 0] : List Instr).all (fun i => !i.wf) = true := by decide +kernel

/-- Every check refuses an operand that does not fit, one at a time. -/
theorem test_unfitting6 :
    ([
      .fwStage (hd 32) 0 (2 ^ 32) im0 0,
      .fwStage (hd 32) 0 0 im0 (2 ^ 64),
      .fwActivate { hd 32 with length := 2 ^ 32 } 0 0,
      .fwActivate (hd 32) (2 ^ 8) 0,
      .fwActivate (hd 32) 0 (2 ^ 64),
      .deviceShutdown { hd 32 with hrsv := 2 ^ 80 } 0 0 0 [] 0,
      .deviceShutdown (hd 32) (2 ^ 8) 0 0 [] 0,
      .deviceShutdown (hd 32) 0 (2 ^ 8) 0 [] 0,
      .deviceShutdown (hd 32) 0 0 (2 ^ 32) [] 0,
      .deviceShutdown (hd 32) 0 0 0 [] (2 ^ 64),
      .throttleEvaluate (256) 0,
      .pmbusPoll [],
      .harnessWindowAccess 0 0 .agent (.load 4) (2 ^ 52) 0,
      .packetCheckMismatch { hd 32 with length := 2 ^ 32 } 0,
      .packetCheckMismatch (hd 32) (2 ^ 16),
      .undefinedOpcode { hd 32 with hrsv := 2 ^ 80 } 0,
      .undefinedOpcode (hd 32) (2 ^ 16),
      .ringQueryReceive 0 0 1 0 0 0 0 [] 0 [] (List.replicate 257 0)] : List Instr).all (fun i => !i.wf) = true := by decide +kernel

end Sys2Proof.Machine
end

section
/-!
PROOFS. The statements of chapter 01: a write of BAR0 as a write of one register by its field map (R10, R545). First the bits of a word, the
registers after a write and the groups that a change leaves alone; then the write itself, O3, the LOCK registers, the device ID, and O4.
-/
namespace Sys2Proof.Machine

/-! ### What the register commands run -/

theorem exec_registerWrite (off : Nat) (wide : Bool) (v : BitVec 64) (s : State) :
    exec (.registerWrite off wide v) s = .next (s.barWrite off wide v.toNat) := rfl

theorem exec_glbDeviceIdWrite (v : Word) (s : State) :
    exec (.glbDeviceIdWrite v) s = .next (s.barWrite Reg.glbDeviceId false v.toNat) := rfl

/-- BLOCK_LOCK_WRITE at a lock register is a 32-bit write of it. -/
theorem exec_blockLockWrite {off : Nat} (h : blockLock off = off) (v : Word) (s : State) :
    exec (.blockLockWrite off v) s = .next (s.barWrite off false v.toNat) := by
  change (if blockLock off = off then _ else _) = _
  rw [if_pos h]; rfl

/-! ### Bits of a word -/

theorem testBit_bits (v hi lo j : Nat) : (bits v hi lo).testBit j = (decide (j < hi + 1 - lo) && v.testBit (lo + j)) := by
  simp [bits, Nat.testBit_mod_two_pow, Nat.testBit_div_two_pow, Nat.add_comm]

/-- `setBits` puts the new field between what stands above and what stands below it. -/
theorem setBits_eq (v hi lo x : Nat) :
    setBits v hi lo x = 2 ^ lo * (2 ^ (hi + 1 - lo) * (v / 2 ^ lo / 2 ^ (hi + 1 - lo)) + x % 2 ^ (hi + 1 - lo)) + v % 2 ^ lo := by
  have low := Nat.div_add_mod v (2 ^ lo)
  have high := Nat.div_add_mod (v / 2 ^ lo) (2 ^ (hi + 1 - lo))
  have whole : v = 2 ^ lo * (2 ^ (hi + 1 - lo) * (v / 2 ^ lo / 2 ^ (hi + 1 - lo))) + bits v hi lo * 2 ^ lo + v % 2 ^ lo := by
    rw [Nat.mul_comm (bits v hi lo), ← Nat.mul_add]
    unfold bits
    rw [high, low]
  unfold setBits
  rw [Nat.mul_add, Nat.mul_comm (2 ^ lo) (x % _)]
  omega

theorem testBit_setBits (v hi lo x j : Nat) :
    (setBits v hi lo x).testBit j = if lo ≤ j ∧ j < lo + (hi + 1 - lo) then x.testBit (j - lo) else v.testBit j := by
  rw [setBits_eq, Nat.testBit_two_pow_mul_add _ (Nat.mod_lt _ (by positivity)),
    Nat.testBit_two_pow_mul_add _ (Nat.mod_lt _ (by positivity))]
  by_cases below : j < lo
  · simp [below, Nat.testBit_mod_two_pow]
  · by_cases inside : j - lo < hi + 1 - lo
    · rw [if_neg below, if_pos inside, if_pos (by omega)]
      simp [inside]
    · rw [if_neg below, if_neg inside, if_neg (by omega), Nat.testBit_div_two_pow, Nat.testBit_div_two_pow]
      congr 1; omega

/-- A field within 32 bits does not see the bits above them. -/
theorem bits_mod_word {hi : Nat} (lo v : Nat) (h : hi ≤ 31) : bits (v % 2 ^ 32) hi lo = bits v hi lo := by
  refine Nat.eq_of_testBit_eq fun j => ?_
  rw [testBit_bits, testBit_bits, Nat.testBit_mod_two_pow]
  by_cases inside : j < hi + 1 - lo
  · simp [show lo + j < 32 by omega]
  · simp [inside]

theorem bits_setBits_same (v hi lo x : Nat) : bits (setBits v hi lo x) hi lo = x % 2 ^ (hi + 1 - lo) := by
  refine Nat.eq_of_testBit_eq fun j => ?_
  rw [testBit_bits, testBit_setBits, Nat.testBit_mod_two_pow]
  by_cases inside : j < hi + 1 - lo
  · simp [inside]
  · simp [inside]

/-- Replacing a field leaves a field above it or below it as it was. -/
theorem bits_setBits_apart (v x : Nat) {hi lo hi' lo' : Nat} (h : hi' < lo ∨ hi < lo') (hlo : lo ≤ hi) :
    bits (setBits v hi lo x) hi' lo' = bits v hi' lo' := by
  refine Nat.eq_of_testBit_eq fun j => ?_
  rw [testBit_bits, testBit_bits, testBit_setBits]
  by_cases inside : j < hi' + 1 - lo'
  · rw [if_neg (by omega)]
  · simp [inside]

theorem bits_lt (v hi lo : Nat) : bits v hi lo < 2 ^ (hi + 1 - lo) := Nat.mod_lt _ (by positivity)

theorem bitAt_eq_bits (v i : Nat) : bitAt v i = (bits v i i == 1) := by simp [bitAt, bits]

theorem bitAt_toNat (v : Word) (i : Nat) : bitAt v.toNat i = v.getLsbD i := by
  rw [BitVec.getLsbD, Nat.testBit_eq_decide_div_mod_eq]; rfl

/-! ### A register after a write of it, or of another -/

@[simp] theorem State.reg_setReg_same (s : State) (o v : Nat) : (s.setReg o v).reg o = v % 2 ^ 32 := by
  simp [State.reg, State.setReg]

theorem State.reg_setReg_ne (s : State) {o o' : Nat} (v : Nat) (h : o' ≠ o) : (s.setReg o v).reg o' = s.reg o' := by
  simp [State.reg, State.setReg, afind_aput_ne _ _ h]

theorem State.reg_setFld_ne (s : State) {o o' : Nat} (hi lo v : Nat) (h : o' ≠ o) : (s.setFld o hi lo v).reg o' = s.reg o' :=
  s.reg_setReg_ne _ h

theorem State.fld_setFld_same (s : State) (o : Nat) {hi lo v : Nat} (h : hi ≤ 31) (hv : v < 2 ^ (hi + 1 - lo)) :
    (s.setFld o hi lo v).fld o hi lo = v := by
  rw [State.fld, State.setFld, State.reg_setReg_same, bits_mod_word _ _ h, bits_setBits_same, Nat.mod_eq_of_lt hv]

theorem State.fld_setFld_apart (s : State) (o v : Nat) {hi lo hi' lo' : Nat} (h : hi' < lo ∨ hi < lo') (hlo : lo ≤ hi) (hw : hi' ≤ 31) :
    (s.setFld o hi lo v).fld o hi' lo' = s.fld o hi' lo' := by
  rw [State.fld, State.setFld, State.reg_setReg_same, bits_mod_word _ _ hw, bits_setBits_apart _ _ h hlo, State.fld]

theorem State.flag_congr {s t : State} {off : Nat} (i : Nat) (h : t.reg off = s.reg off) : t.flag off i = s.flag off i := by
  rw [State.flag, State.flag, h]

theorem State.flag_eq_fld (s : State) (off i : Nat) : s.flag off i = (s.fld off i i == 1) := bitAt_eq_bits _ _

/-! ### Which groups of the state a change leaves alone -/

theorem State.Only.refl (s : State) (l : List Group) : s.Only l s := by simp [State.Only]

theorem State.only_bar_setReg (s : State) (o v : Nat) : s.Only [.bar] (s.setReg o v) := by simp [State.Only]

theorem orEq_trans {α : Type} {p : Prop} {a b c : α} (h : p ∨ b = a) (k : p ∨ c = b) : p ∨ c = a := by
  rcases h with h | rfl
  · exact .inl h
  · exact k

theorem State.Only.trans {s t u : State} {l : List Group} (h : s.Only l t) (k : t.Only l u) : s.Only l u := by
  obtain ⟨h1, h2, h3, h4, h5, h6, h7, h8, h9, h10, h11, h12, h13, h14, h15, h16, h17, h18, h19, hq⟩ := h
  obtain ⟨k1, k2, k3, k4, k5, k6, k7, k8, k9, k10, k11, k12, k13, k14, k15, k16, k17, k18, k19, kq⟩ := k
  exact ⟨orEq_trans h1 k1, orEq_trans h2 k2, orEq_trans h3 k3, orEq_trans h4 k4, orEq_trans h5 k5, orEq_trans h6 k6, orEq_trans h7 k7,
    orEq_trans h8 k8, orEq_trans h9 k9, orEq_trans h10 k10, orEq_trans h11 k11, orEq_trans h12 k12, orEq_trans h13 k13, orEq_trans h14 k14,
    orEq_trans h15 k15, orEq_trans h16 k16, orEq_trans h17 k17, orEq_trans h18 k18, orEq_trans h19 k19, kq.trans hq⟩

theorem State.Only.mono {s t : State} {l m : List Group} (h : s.Only l t) (sub : ∀ g ∈ l, g ∈ m) : s.Only m t := by
  obtain ⟨h1, h2, h3, h4, h5, h6, h7, h8, h9, h10, h11, h12, h13, h14, h15, h16, h17, h18, h19, hq⟩ := h
  exact ⟨h1.imp_left (sub _), h2.imp_left (sub _), h3.imp_left (sub _), h4.imp_left (sub _), h5.imp_left (sub _), h6.imp_left (sub _),
    h7.imp_left (sub _), h8.imp_left (sub _), h9.imp_left (sub _), h10.imp_left (sub _), h11.imp_left (sub _), h12.imp_left (sub _),
    h13.imp_left (sub _), h14.imp_left (sub _), h15.imp_left (sub _), h16.imp_left (sub _), h17.imp_left (sub _), h18.imp_left (sub _),
    h19.imp_left (sub _), hq⟩

/-! ### A write of BAR0 that reaches one register -/

/-- A 32-bit write of a register outside the pairs of R7, which the device serves, is a write by the register's field map. -/
theorem State.barWrite_eq_regWrite {s : State} {off : Nat} {r : RegDef} {i : List Nat} (v : Nat) (present : s.present = true)
    (serves : s.bar0Serves off = true) (aligned : off % 4 = 0) (found : findReg off = some (r, i)) (notLow : r.pairW = false)
    (notHigh : ∀ l j, findReg (off - 4) = some (l, j) → l.pairW = false) :
    s.barWrite off false v = s.regWrite r off i (v % 2 ^ 32) := by
  have allowed : accessOk off 4 = true := by simp [accessOk, aligned, found]
  have half : s.halfWrite off (v % 2 ^ 32) = s.regWrite r off i (v % 2 ^ 32) := by
    unfold State.halfWrite
    cases below : findReg (off - 4) with
    | none => simp [found, serves, notLow]
    | some p => simp [found, serves, notLow, notHigh p.1 p.2 below]
  rw [State.barWrite, if_neg (by simp [present]), if_neg (by simp [allowed]), if_neg (by simp), half]

theorem State.bar0Serves_of_run {s : State} (off : Nat) (h : s.sec.run ≠ .recovery) : s.bar0Serves off = true := by
  unfold State.bar0Serves
  split <;> simp_all

theorem State.bar0Serves_glb (s : State) {off : Nat} (h : off < 0x00100000) : s.bar0Serves off = true := by
  unfold State.bar0Serves
  split <;> simp [h]

/-! ### A field stored -/

/-- From `a` to `b` the field `f` of the register at `off` took the value `w`: nothing is dropped, the register's other fields, the other
registers and the rest of the state are as before. -/
def WAcc.Stored (a : WAcc) (off : Nat) (f : Fld) (w : Nat) (b : WAcc) : Prop :=
  b.locked = a.locked ∧ b.dropped = a.dropped ∧ b.s.fld off f.hi f.lo = w ∧
    (∀ hi lo, hi ≤ 31 → (hi < f.lo ∨ f.hi < lo) → b.s.fld off hi lo = a.s.fld off hi lo) ∧
    (∀ o, o ≠ off → b.s.reg o = a.s.reg o) ∧ a.s.Only [.bar] b.s

theorem WAcc.stored_self (a : WAcc) (off : Nat) (f : Fld) : a.Stored off f (a.s.fld off f.hi f.lo) a :=
  ⟨rfl, rfl, rfl, fun _ _ _ _ => rfl, fun _ _ => rfl, .refl _ _⟩

theorem WAcc.stored_put (a : WAcc) (off : Nat) {f : Fld} {w : Nat} (hlo : f.lo ≤ f.hi) (hhi : f.hi ≤ 31) (hw : w < 2 ^ (f.hi + 1 - f.lo)) :
    a.Stored off f w (a.put off f w) :=
  ⟨rfl, rfl, a.s.fld_setFld_same off hhi hw, fun _ _ hh apart => a.s.fld_setFld_apart off w apart hlo hh,
    fun _ ne => a.s.reg_setFld_ne _ _ _ ne, a.s.only_bar_setReg _ _⟩

/-- An RWL field of an unlocked block goes by its rule. -/
theorem WAcc.field_unlocked {a : WAcc} {off : Nat} {f : Fld} (i : List Nat) (v : Nat) (acc : f.acc = .rwl)
    (unlocked : a.s.flag (blockLock off) 0 = false) : WAcc.field off i v a f = a.store off i f v (bits v f.hi f.lo) := by
  simp [WAcc.field, acc, unlocked]

/-- A rule that puts the field's written bits in its place stores them. -/
theorem WAcc.stored_field {a : WAcc} {off : Nat} {f : Fld} (i : List Nat) (v : Nat) (acc : f.acc = .rwl) (hlo : f.lo ≤ f.hi) (hhi : f.hi ≤ 31)
    (unlocked : a.s.flag (blockLock off) 0 = false)
    (rule : bits v f.hi f.lo ≠ a.s.fld off f.hi f.lo → a.store off i f v (bits v f.hi f.lo) = a.put off f (bits v f.hi f.lo)) :
    a.Stored off f (bits v f.hi f.lo) (WAcc.field off i v a f) := by
  rw [WAcc.field_unlocked i v acc unlocked]
  by_cases same : bits v f.hi f.lo = a.s.fld off f.hi f.lo
  · have kept : a.store off i f v (bits v f.hi f.lo) = a := by simp [WAcc.store, same]
    rw [kept, same]
    exact a.stored_self off f
  · rw [rule same]
    exact a.stored_put off hlo hhi (bits_lt _ _ _)

/-! ### What follows from a new value -/

theorem State.policerSettle_outside (s : State) {off : Nat} (i : List Nat) (h : off < Reg.shpPolRate 0 0 ∨ Reg.shpPCfg 0 ≤ off) :
    s.policerSettle off i = s := by
  rw [State.policerSettle, if_neg (by omega)]

/-- No rule of the device's own stands behind the field map of the register at `off` with the indices `i`. -/
abbrev MapAlone (off : Nat) (i : List Nat) : Prop :=
  off ≠ Reg.glbDeviceId ∧ off ≠ Reg.plnPCfg (i.headD 0) ∧ off ≠ Reg.plnPC0 (i.headD 0) ∧ off ≠ Reg.stkTimeSrc ∧ off ≠ Reg.shpCtrl ∧
    (off < Reg.shpPolRate 0 0 ∨ Reg.shpPCfg 0 ≤ off)

theorem MapAlone.wholeDropped {off : Nat} {i : List Nat} (h : MapAlone off i) (s : State) : s.wholeDropped off i = false := by
  obtain ⟨id, cfg, c0, -⟩ := h
  rw [State.wholeDropped, if_neg id, if_neg (by simp only [cfg, c0, or_self, not_false_eq_true])]

theorem MapAlone.policerSettle {off : Nat} {i : List Nat} (h : MapAlone off i) (s : State) : s.policerSettle off i = s := by
  obtain ⟨-, -, -, -, -, range⟩ := h
  exact s.policerSettle_outside i range

theorem MapAlone.afterWrite {off : Nat} {i : List Nat} (h : MapAlone off i) (s : State) : s.afterWrite off i = s := by
  have settled := h.policerSettle s
  obtain ⟨id, -, -, src, shp, -⟩ := h
  rw [State.afterWrite, if_neg (by simp [id]), if_neg src, if_neg (by simp [shp]), settled]

/-- A register of one field under its map alone: a field that is stored, and not dropped, is the whole of the write. -/
theorem MapAlone.regWrite_field {off : Nat} {i : List Nat} (h : MapAlone off i) (s : State) {r : RegDef} {f : Fld} (one : r.fields = [f]) (v : Nat)
    {b : WAcc} (wrote : WAcc.field off i v ⟨s, false, false⟩ f = b) (open_ : b.locked = false) (kept : b.dropped = false) :
    s.regWrite r off i v = b.s := by
  simp [State.regWrite, h.wholeDropped, h.policerSettle, h.afterWrite, one, wrote, open_, kept]

/-! ### O3: the locked fields whose rule brings a value back -/

/-- A device in service whose PWR_CTRL holds 104, the greatest value that its field takes (R539), and whose PWR block is locked. -/
def powerCtrlAtLimit : State :=
  ({ State.reset with sec := { Sec.reset with run := .service } }.setReg Reg.pwrCtrl 104).setReg Reg.pwrLock 1

/-- PWR_CTRL: one RWL field, which keeps a value between 85 and 104. -/
def pwrCtrlReg : RegDef := ⟨Reg.pwrCtrl, [], false, false, [⟨7, 0, .rwl, 0x64, .near 85 104⟩]⟩

theorem findReg_pwrCtrl : findReg Reg.pwrCtrl = some (pwrCtrlReg, []) := by decide

theorem pwrCtrl_notHigh : ∀ l j, findReg (Reg.pwrCtrl - 4) = some (l, j) → l.pairW = false := by
  simp [show findReg (Reg.pwrCtrl - 4) = none by decide]

/-- The write of 255 would store 104 again, so the lock ignores it in silence. -/
theorem barWrite_powerCtrlAtLimit : powerCtrlAtLimit.barWrite Reg.pwrCtrl false 255 = powerCtrlAtLimit := by
  rw [State.barWrite_eq_regWrite 255 (by decide) (State.bar0Serves_of_run _ (by decide)) (by decide) findReg_pwrCtrl rfl pwrCtrl_notHigh]
  decide +kernel

/-- Refutes O3: its second clause wants a note wherever the word written differs from the register of a locked block, but R10 counts a
write that changes a field, and the rule of PWR_CTRL (R539) brings 255 back to the 104 that the field holds. -/
theorem not_registerWrite : ¬ Obligations.RegisterWrite := by
  unfold Obligations.RegisterWrite
  rintro ⟨-, locked, -, -⟩
  have noted := locked powerCtrlAtLimit Reg.pwrCtrl 255 pwrCtrlReg [] (by decide) (by decide) (by decide) findReg_pwrCtrl rfl
    pwrCtrl_notHigh (by decide) (by decide) (by decide) (by decide)
  have differs : powerCtrlAtLimit.changes Reg.pwrCtrl (255 % 2 ^ 32) pwrCtrlReg.fields = true := by decide
  rw [exec_registerWrite, show (255 : BitVec 64).toNat = 255 from rfl, barWrite_powerCtrlAtLimit, if_pos differs] at noted
  have quiet : powerCtrlAtLimit.blt.outbox = (powerCtrlAtLimit.accessNote Reg.pwrCtrl).blt.outbox :=
    congrArg (fun s : State => s.blt.outbox) (Host.Outcome.next.inj noted)
  exact absurd quiet (by decide)

/-! ### LOCK registers (R35 and its like) -/

/-- The field LOCK. -/
def lockFld : Fld := ⟨0, 0, .rwl, 0, .lock⟩

/-- The LOCK registers of the blocks that are not cores. -/
def blockLocks : List Nat :=
  [Reg.glbLock, Reg.stkLock, Reg.cmdLock, Reg.satLock, Reg.kvaLock, Reg.plnLock, Reg.memLock, Reg.cdcLock, Reg.flsLock, Reg.lnkLock, Reg.xptLock,
    Reg.shpLock, Reg.bltLock, Reg.secLock, Reg.pwrLock]

/-- The LOCK registers of the cores (R217). -/
def coreLocks : List Nat := (List.range 128).map Reg.coreLock

theorem coreLock_mem {c : Nat} (h : c < 128) : Reg.coreLock c ∈ coreLocks ++ blockLocks :=
  List.mem_append_left _ (List.mem_map_of_mem (List.mem_range.2 h))

theorem blockLocks_mem {off : Nat} (h : off ∈ blockLocks) : off ∈ coreLocks ++ blockLocks := List.mem_append_right _ h

theorem blockLock_mem (off : Nat) : blockLock off ∈ coreLocks ++ blockLocks := by
  unfold blockLock
  iterate 5 refine ite_mem.2 ⟨fun _ => blockLocks_mem (by decide), fun _ => ?_⟩
  refine ite_mem.2 ⟨fun below => coreLock_mem (by omega), fun _ => ?_⟩
  iterate 9 refine ite_mem.2 ⟨fun _ => blockLocks_mem (by decide), fun _ => ?_⟩
  exact blockLocks_mem (by decide)

/-- The register at an offset is one LOCK bit that a 32-bit write reaches and that no rule but its own concerns. -/
def LockAlone (off : Nat) : Prop :=
  ∃ r i, findReg off = some (r, i) ∧ r.fields = [lockFld] ∧ r.pairW = false ∧ off % 4 = 0 ∧
    (∀ l j, findReg (off - 4) = some (l, j) → l.pairW = false) ∧ MapAlone off i

/-- `LockAlone`, computed. -/
def lockAloneCheck (off : Nat) : Bool :=
  decide (off % 4 = 0) && (findReg off).any (fun p => decide (p.1.fields = [lockFld] ∧ p.1.pairW = false ∧ MapAlone off p.2)) &&
    (findReg (off - 4)).all fun p => !p.1.pairW

theorem lockAlone_of_check {off : Nat} (h : lockAloneCheck off = true) : LockAlone off := by
  simp only [lockAloneCheck, Bool.and_eq_true, decide_eq_true_eq, Option.any_eq_true, Option.all_eq_true, Prod.exists, Prod.forall,
    Bool.not_eq_true'] at h
  obtain ⟨⟨aligned, r, i, found, fields, notLow, alone⟩, notHigh⟩ := h
  exact ⟨r, i, found, fields, notLow, aligned, fun l j below => notHigh l j below, alone⟩

theorem lockAloneCheck_locks : (coreLocks ++ blockLocks).all lockAloneCheck = true := by decide +kernel

theorem lockAlone_of_lock {off : Nat} (h : blockLock off = off) : LockAlone off :=
  lockAlone_of_check (List.all_eq_true.1 lockAloneCheck_locks off (h ▸ blockLock_mem off))

/-- A write of a LOCK register is the write of its one field. -/
theorem State.barWrite_lock {s : State} {off : Nat} (v : Word) (present : s.present = true) (run : s.sec.run ≠ .recovery)
    (lock : blockLock off = off) : ∃ i, ∀ b, WAcc.field off i v.toNat ⟨s, false, false⟩ lockFld = b → b.locked = false → b.dropped = false →
      s.barWrite off false v.toNat = b.s := by
  obtain ⟨r, i, found, one, notLow, aligned, notHigh, alone⟩ := lockAlone_of_lock lock
  refine ⟨i, fun b wrote open_ kept => ?_⟩
  rw [State.barWrite_eq_regWrite _ present (State.bar0Serves_of_run _ run) aligned found notLow notHigh, Nat.mod_eq_of_lt v.isLt,
    alone.regWrite_field s one _ wrote open_ kept]

/-- The bit 0 of a word, as the field LOCK takes it. -/
theorem bits_lock (v : Word) : bits v.toNat 0 0 = (v.getLsbD 0).toNat := by
  rw [← bitAt_toNat, bitAt_eq_bits]
  have := bits_lt v.toNat 0 0
  generalize bits v.toNat 0 0 = w at *
  interval_cases w <;> rfl

theorem State.fld_eq_zero {s : State} {off : Nat} (h : s.flag off 0 = false) : s.fld off 0 0 = 0 := by
  have := bits_lt (s.reg off) 0 0
  rw [State.flag_eq_fld, beq_eq_false_iff_ne] at h
  unfold State.fld at *
  omega

/-- R35: LOCK takes the bit written. -/
theorem State.lock_stored {s : State} {off : Nat} (i : List Nat) (v : Nat) (lock : blockLock off = off) (unlocked : s.flag off 0 = false) :
    WAcc.Stored ⟨s, false, false⟩ off lockFld (bits v 0 0) (WAcc.field off i v ⟨s, false, false⟩ lockFld) := by
  refine WAcc.stored_field i v rfl (by decide) (by decide) (by rwa [lock]) fun changes => ?_
  have clear : s.fld off 0 0 = 0 := State.fld_eq_zero unlocked
  simp_all [WAcc.store, lockFld]

theorem State.lock_zero {s : State} {off : Nat} (i : List Nat) {v : Nat} (lock : blockLock off = off) (unlocked : s.flag off 0 = false)
    (zero : bits v 0 0 = 0) : WAcc.field off i v ⟨s, false, false⟩ lockFld = ⟨s, false, false⟩ := by
  rw [WAcc.field_unlocked i v rfl (by rwa [lock])]
  have clear : s.fld off 0 0 = 0 := State.fld_eq_zero unlocked
  simp [WAcc.store, lockFld, zero, clear]

/-! ### The device ID (R33) -/

/-- GLB_DEVICE_ID. -/
def deviceIdReg : RegDef :=
  ⟨Reg.glbDeviceId, [], false, false, [⟨31, 31, .rwl, 0, .hook⟩, ⟨13, 5, .rwl, 0, .hook⟩, ⟨4, 0, .rwl, 0, .hook⟩]⟩

theorem deviceId_outside : Reg.glbDeviceId < Reg.shpPolRate 0 0 ∨ Reg.shpPCfg 0 ≤ Reg.glbDeviceId := .inl (by decide)

theorem findReg_glbDeviceId : findReg Reg.glbDeviceId = some (deviceIdReg, []) := by decide

theorem glbDeviceId_notHigh : ∀ l j, findReg (Reg.glbDeviceId - 4) = some (l, j) → l.pairW = false := by
  intro l j below
  have straps : (findReg (Reg.glbDeviceId - 4)).all (fun p => !p.1.pairW) = true := by decide
  simpa [below] using straps

theorem State.barWrite_deviceId {s : State} (v : Word) (present : s.present = true) :
    s.barWrite Reg.glbDeviceId false v.toNat = s.regWrite deviceIdReg Reg.glbDeviceId [] v.toNat := by
  rw [State.barWrite_eq_regWrite _ present (s.bar0Serves_glb (by decide)) (by decide) findReg_glbDeviceId rfl glbDeviceId_notHigh,
    Nat.mod_eq_of_lt v.isLt]

/-! #### Ports that train -/

/-- From `s` to `t` the ports and the blotter alone move, with the count of notes dropped: GLB_DEVICE_ID reads as before. -/
def State.Trained (s t : State) : Prop := t.reg Reg.glbDeviceId = s.reg Reg.glbDeviceId ∧ s.Only [.bar, .lnk, .blt] t

theorem State.Trained.refl (s : State) : s.Trained s := ⟨rfl, .refl _ _⟩

theorem State.Trained.trans {s t u : State} (h : s.Trained t) (k : t.Trained u) : s.Trained u := ⟨k.1.trans h.1, h.2.trans k.2⟩

theorem State.trained_modPort (s : State) (p : Nat) (f : Port → Port) : s.Trained (s.modPort p f) := ⟨rfl, by simp [State.Only]⟩

theorem State.trained_bond (s : State) (p : Nat) (on : Bool) : s.Trained (s.bond p on) := by
  unfold State.bond
  split
  · exact s.trained_modPort _ _
  · exact .refl s

theorem State.reg_post (s : State) (f : FaultSpec) {o : Nat} (h : o ≠ Reg.bltCntDrop) : (s.post f).reg o = s.reg o := by
  unfold State.post
  dsimp only
  split
  · exact s.reg_setReg_ne _ h
  · rfl

theorem State.trained_portNote (s : State) (p : Nat) : s.Trained (s.portNote p) :=
  ⟨s.reg_post _ (by decide), by simp [State.Only, State.portNote]⟩

theorem State.trained_tryTrain (s : State) (p : Nat) : s.Trained (s.tryTrain p) := by
  have trains (f : Port → Port) : s.Trained ((s.modPort p f).bond p true) := (s.trained_modPort p f).trans (State.trained_bond _ p true)
  unfold State.tryTrain
  dsimp only
  split
  · exact .refl s
  split
  · exact s.trained_portNote p
  split
  · split
    · exact trains _
    · exact .refl s
  · split
    · exact trains _
    · exact .refl s

theorem State.trained_foldl (l : List Nat) (s : State) : s.Trained (l.foldl State.tryTrain s) := by
  induction l generalizing s with
  | nil => exact .refl s
  | cons p l ih => exact (s.trained_tryTrain p).trans (ih _)

theorem State.trained_afterWrite (s : State) : s.Trained (s.afterWrite Reg.glbDeviceId []) := by
  by_cases valid : s.idValid = true
  · rw [State.afterWrite, if_pos ⟨rfl, valid⟩]
    exact State.trained_foldl _ s
  · have kept : s.afterWrite Reg.glbDeviceId [] = s := by simp [State.afterWrite, valid, s.policerSettle_outside [] deviceId_outside]
    rw [kept]
    exact .refl s

/-! #### The three fields -/

theorem WAcc.stored_deviceId {a : WAcc} (v : Nat) {f : Fld} (mem : f ∈ deviceIdReg.fields) (unlocked : a.s.flag Reg.glbLock 0 = false) :
    a.Stored Reg.glbDeviceId f (bits v f.hi f.lo) (WAcc.field Reg.glbDeviceId [] v a f) := by
  have shape : f.acc = .rwl ∧ f.rule = .hook ∧ f.lo ≤ f.hi ∧ f.hi ≤ 31 :=
    (by decide : ∀ f ∈ deviceIdReg.fields, f.acc = .rwl ∧ f.rule = .hook ∧ f.lo ≤ f.hi ∧ f.hi ≤ 31) f mem
  obtain ⟨acc, rule, hlo, hhi⟩ := shape
  refine WAcc.stored_field [] v acc hlo hhi unlocked fun changes => ?_
  simp [WAcc.store, WAcc.hook, changes, rule]

/-- R33 with every port DISABLED: the three fields take the bits written, and ports may train. -/
theorem State.regWrite_deviceId {s : State} (v : Nat) (idle : s.portsDisabled = true) (unlocked : s.flag Reg.glbLock 0 = false) :
    ∃ b t : State, s.regWrite deviceIdReg Reg.glbDeviceId [] v = t ∧ b.fld Reg.glbDeviceId 31 31 = bits v 31 31 ∧
      b.fld Reg.glbDeviceId 13 5 = bits v 13 5 ∧ b.fld Reg.glbDeviceId 4 0 = bits v 4 0 ∧ s.Only [.bar] b ∧ b.Trained t := by
  have lockKept {a b : WAcc} {f : Fld} {w : Nat} (st : a.Stored Reg.glbDeviceId f w b) (open_ : a.s.flag Reg.glbLock 0 = false) :
      b.s.flag Reg.glbLock 0 = false := by
    obtain ⟨-, -, -, -, regs, -⟩ := st
    rwa [State.flag_congr 0 (regs Reg.glbLock (by decide))]
  have valid := WAcc.stored_deviceId (a := ⟨s, false, false⟩) v (f := ⟨31, 31, .rwl, 0, .hook⟩) (by decide) unlocked
  have harness := WAcc.stored_deviceId v (f := ⟨13, 5, .rwl, 0, .hook⟩) (by decide) (lockKept valid unlocked)
  have member := WAcc.stored_deviceId v (f := ⟨4, 0, .rwl, 0, .hook⟩) (by decide) (lockKept harness (lockKept valid unlocked))
  obtain ⟨open1, kept1, fld1, -, -, only1⟩ := valid
  obtain ⟨open2, kept2, fld2, apart2, -, only2⟩ := harness
  obtain ⟨open3, kept3, fld3, apart3, -, only3⟩ := member
  refine ⟨_, _, ?_, ?_, ?_, fld3, (only1.trans only2).trans only3, State.trained_afterWrite _⟩
  · simp [State.regWrite, State.wholeDropped, idle, s.policerSettle_outside [] deviceId_outside, deviceIdReg, open1, open2, open3, kept1, kept2, kept3]
  · rw [apart3 31 31 (by decide) (by decide), apart2 31 31 (by decide) (by decide), fld1]
  · rw [apart3 13 5 (by decide) (by decide), fld2]

/-- R33 with a port that is not DISABLED: a write that would change the register leaves a note alone. -/
theorem State.regWrite_deviceId_dropped {s : State} {v : Nat} (busy : s.portsDisabled = false) (unlocked : s.flag Reg.glbLock 0 = false)
    (changes : s.changes Reg.glbDeviceId v deviceIdReg.fields = true) :
    s.regWrite deviceIdReg Reg.glbDeviceId [] v = s.droppedNote Reg.glbDeviceId := by
  simp [State.regWrite, State.wholeDropped, busy, unlocked, changes]

/-- VALID as the number that its field holds. -/
theorem State.idValid_eq (s : State) : s.idValid = (s.fld Reg.glbDeviceId 31 31 == 1) := s.flag_eq_fld _ _

theorem getLsbD_eq_bits (v : Word) (i : Nat) : v.getLsbD i = (bits v.toNat i i == 1) := by rw [← bitAt_toNat, bitAt_eq_bits]

/-- A device ID that differs in a field is a change of the register. -/
theorem State.changes_deviceId {s : State} {v : Word} (h : bits v.toNat 4 0 ≠ s.fld Reg.glbDeviceId 4 0 ∨
    bits v.toNat 13 5 ≠ s.fld Reg.glbDeviceId 13 5 ∨ v.getLsbD 31 ≠ s.idValid) :
    s.changes Reg.glbDeviceId v.toNat deviceIdReg.fields = true := by
  simp only [State.changes, deviceIdReg, List.any_cons, List.any_nil, Bool.or_false, Bool.or_eq_true, bne_iff_ne]
  rcases h with member | harness | valid
  · exact .inr (.inr member)
  · exact .inr (.inl harness)
  · refine .inl fun same => valid ?_
    rw [getLsbD_eq_bits, s.idValid_eq, same]

/-! ### O4 -/

/-- Settles O4: the field map of GLB_DEVICE_ID stores each field where the write is not dropped whole, what the new ID sets off (R512)
leaves the register alone, and a LOCK register takes its one bit. -/
theorem deviceIdAndLocks : Obligations.DeviceIdAndLocks := by
  unfold Obligations.DeviceIdAndLocks
  refine ⟨fun s v present idle unlocked => ?_, fun s v present busy unlocked differs => ?_,
    fun s off v present run lock one unlocked => ?_, fun s off v present run lock zero unlocked => ?_⟩
  · obtain ⟨b, t, wrote, valid, harness, member, only, id, trained⟩ := State.regWrite_deviceId v.toNat idle unlocked
    refine ⟨t, ?_, ?_, ?_, ?_, (only.mono (by decide)).trans trained⟩
    · rw [exec_glbDeviceIdWrite, State.barWrite_deviceId v present, wrote]
    · rw [t.idValid_eq, getLsbD_eq_bits, State.fld, id, ← State.fld, valid]
    · rw [State.fld, id, ← State.fld, harness]
    · rw [State.fld, id, ← State.fld, member]
  · rw [exec_glbDeviceIdWrite, State.barWrite_deviceId v present,
      State.regWrite_deviceId_dropped busy unlocked (State.changes_deviceId differs)]
  · obtain ⟨i, wrote⟩ := State.barWrite_lock v present run lock
    obtain ⟨open_, kept, bit, -, others, only⟩ := State.lock_stored i v.toNat lock unlocked
    refine ⟨_, by rw [exec_blockLockWrite lock, wrote _ rfl open_ kept], ?_, others, only⟩
    rw [State.flag_eq_fld]
    exact beq_iff_eq.2 (bit.trans (by rw [bits_lock, one]; rfl))
  · obtain ⟨i, wrote⟩ := State.barWrite_lock v present run lock
    rw [exec_blockLockWrite lock, wrote _ (State.lock_zero i lock unlocked (by rw [bits_lock, zero]; rfl)) rfl rfl]

end Sys2Proof.Machine
end

section
/-!
PROOFS. The statement of chapter 14 about packets between devices (R462 to R464): what time, a counter, an output and a reply leave as
they were, what COMMAND does with each kind of packet, and O48.
-/
namespace Sys2Proof.Machine

/-! ### A counter, and the groups that one operation changes -/

theorem State.reg_count_same (s : State) (o n : Nat) : (s.count o n).reg o = min 0xFFFFFFFF (s.reg o + n) := by
  rw [State.count, State.reg_setReg_same, satAdd]
  omega

theorem State.only_bar_count (s : State) (o n : Nat) : s.Only [.bar] (s.count o n) := s.only_bar_setReg _ _

theorem State.only_stk_at (s : State) (t : Nat) : s.Only [.stk] (s.at_ t) := by simp [State.Only, State.at_]

theorem State.only_out_emit (s : State) (o : Out) : s.Only [.out] (s.emit o) := by simp [State.Only]

/-! ### A reply leaves the slots of forwarded packets alone (R458, R464) -/

@[simp] theorem State.writeRecord_slots (s : State) (k : Nat) (r : Ring) (l : List Byte) : (s.writeRecord k r l).cmd.slots = s.cmd.slots := by
  unfold State.writeRecord
  dsimp only
  split <;> simp

@[simp] theorem State.putRecord_slots (s : State) (k : Nat) (l : List Byte) : (s.putRecord k l).cmd.slots = s.cmd.slots := by
  unfold State.putRecord
  (repeat' split) <;> simp

@[simp] theorem State.answer_slots (s : State) (r : ReplyTo) (st : Status) (final : Bool) (l : List Byte) :
    (s.answer r st final l).cmd.slots = s.cmd.slots := by
  unfold State.answer
  split <;> simp [State.modWindow]

@[simp] theorem State.done_slots (s : State) (r : ReplyTo) (st : Status) : (s.done r st).cmd.slots = s.cmd.slots := s.answer_slots _ _ _ _

/-! ### A packet that is accepted or refused (R463) -/

/-- The packet waits to be served, and CMD_CNT_REMOTE counts it. -/
def State.acceptRemote (s : State) (c : AcceptedCmd) : State :=
  { s.count Reg.cmdCntRemote 1 with cmd := { s.cmd with accepted := s.cmd.accepted ++ [c] } }

/-- PROTECTION goes back to the packet's source, and CMD_CNT_REFUSED counts it. -/
def State.refuseRemote (s : State) (e : Envelope) (op : Nat) (tag : Word) : State :=
  (s.count Reg.cmdCntRefused 1).emit (.remoteReply e.src e.win e.slot (replyRecord op .protection true true tag 0 s.me []))

theorem State.reg_acceptRemote (s : State) (c : AcceptedCmd) :
    (s.acceptRemote c).reg Reg.cmdCntRemote = min 0xFFFFFFFF (s.reg Reg.cmdCntRemote + 1) := s.reg_count_same _ _

theorem State.only_acceptRemote (s : State) (c : AcceptedCmd) : s.Only [.bar, .cmd] (s.acceptRemote c) := by
  simp [State.Only, State.acceptRemote]

theorem State.reg_refuseRemote (s : State) (e : Envelope) (op : Nat) (tag : Word) :
    (s.refuseRemote e op tag).reg Reg.cmdCntRefused = min 0xFFFFFFFF (s.reg Reg.cmdCntRefused + 1) := s.reg_count_same _ _

theorem State.only_refuseRemote (s : State) (e : Envelope) (op : Nat) (tag : Word) : s.Only [.bar, .out] (s.refuseRemote e op tag) :=
  ((s.only_bar_count _ _).mono (by decide)).trans ((State.only_out_emit _ _).mono (by decide))

/-! ### What COMMAND does (R462, R463) -/

/-- A packet of PF0 (AUTH 0) stands or falls by CMD_TRUST, or by its way to the registrar (R99). -/
theorem exec_command_pf {e : Envelope} (auth : e.auth = 0) (op : Nat) (h : Header) (id : Option SatchelId) (record : List Byte) (s : State) :
    exec (.command e op h id record) s = .next (if s.pfTrusted e.src || registrarBound op h
      then (s.at_ h.now).acceptRemote { origin := .fabric e.src false h.part e.win e.slot, opcode := op, tag := h.tag }
      else (s.at_ h.now).refuseRemote e op h.tag) := by
  change execCommand e op h id record s = _
  simp only [execCommand, auth]
  rfl

theorem exec_command_reply {e : Envelope} (auth : e.auth = 2) (op : Nat) (h : Header) (id : Option SatchelId) (record : List Byte) (s : State) :
    exec (.command e op h id record) s = .next ((s.at_ h.now).remoteAnswer e.src e.slot.toNat record) := by
  change execCommand e op h id record s = _
  simp only [execCommand, auth]

/-- R464: a reply that comes too late finds no slot and is dropped. -/
theorem State.remoteAnswer_noSlot {s : State} {slot : Nat} (free : afind s.cmd.slots slot = none) (src : DeviceId) (record : List Byte) :
    s.remoteAnswer src slot record = s := by
  simp [State.remoteAnswer, free]

/-! ### A forwarded packet whose time is up (R464) -/

/-- When the time-out of a packet sent at `sentAt` ends: CMD_CTRL.REMOTE_TIMEOUT milliseconds later, where 0 is treated as 1 (R468). -/
def State.remoteDeadline (s : State) (sentAt : Nat) : Nat := sentAt + max 1 (s.fld Reg.cmdCtrl 23 8) * 1000000

theorem exec_remoteCommandTimeout {s : State} {slot : Nat} {e : RemoteSlot} (waits : afind s.cmd.slots slot = some e) :
    exec (.remoteCommandTimeout slot) s =
      .next (State.done { s.at_ (s.remoteDeadline e.sentAt) with cmd := { s.cmd with slots := adel s.cmd.slots slot } } e.reply .tierError) := by
  change execRemoteCommandTimeout slot s = _
  simp only [execRemoteCommandTimeout, waits]
  rfl

/-! ### O48 -/

/-- Settles O48: CMD_TRUST decides between the two outcomes of a packet of PF0, a reply without a slot changes nothing but the time, and
the TIER_ERROR that ends a forwarded packet is written after its slot went. -/
theorem fabricCommands : Obligations.FabricCommands := by
  unfold Obligations.FabricCommands
  refine ⟨fun s e op h id record auth trusted => ?_, fun s e op h id record auth distrusted elsewhere => ?_,
    fun s e op h id record auth free => ?_, fun s slot e waits => ?_⟩
  · refine ⟨(s.at_ h.now).acceptRemote _, by rw [exec_command_pf auth, trusted, Bool.true_or, if_pos rfl], State.reg_acceptRemote _ _, rfl, rfl, ?_⟩
    exact ((s.only_stk_at h.now).mono (by decide)).trans ((State.only_acceptRemote _ _).mono (by decide))
  · refine ⟨(s.at_ h.now).refuseRemote e op h.tag, ?_, State.reg_refuseRemote _ _ _ _, rfl, rfl, ?_⟩
    · rw [exec_command_pf auth, distrusted, elsewhere, Bool.or_self, if_neg Bool.false_ne_true]
    · exact ((s.only_stk_at h.now).mono (by decide)).trans ((State.only_refuseRemote _ _ _ _).mono (by decide))
  · rw [exec_command_reply auth, State.remoteAnswer_noSlot (s := s.at_ h.now) free]
  · refine ⟨_, exec_remoteCommandTimeout waits, ?_, ?_, rfl⟩
    · rw [State.done_slots, afind_adel_same]
    · rw [State.done_stk]
      exact le_max_right _ _

end Sys2Proof.Machine
end

section
/-! PROOFS of the family 'other'. They are elaborated one after another: side by side, the proofs of a text of this length take more memory than the check grants. -/
set_option Elab.async false

section
/-!
PROOFS. The machine itself: what one step is, and the state after reset.
-/
namespace Sys2Proof.Machine

/-- Settles O1: both parts are the two branches of `step`'s match on the queue. -/
theorem stepRunsFront : Obligations.StepRunsFront := by
  unfold Obligations.StepRunsFront
  refine ⟨fun c rest s => rfl, fun s h => ?_⟩
  simp [step, h]

theorem State.reset_memoriesOk : State.reset.memoriesOk = true := by decide

theorem State.reset_shapeOk : State.reset.shapeOk = true := by decide

/-- Settles O2: the reset state's memories and tables of satchels are empty and its fixed tables are replicated to their sizes. -/
theorem resetSafe : Obligations.ResetSafe :=
  ⟨⟨State.reset_memoriesOk, State.reset_shapeOk⟩, rfl⟩

end Sys2Proof.Machine
end

section
/-!
PROOFS. What every operation of the device keeps. `s.Keeps l t` says that `t` is `s` but for the groups of `l`, and safe where `s` is; each
operation of the model has one such lemma, named after it, in the form that chains: from `s0.Keeps l s` to the state after the operation.
-/
namespace Sys2Proof.Machine

/-! ### Safety, group by group -/

/-- T1, T0 and core SRAM in their canonical form (R4). -/
def MemSt.Ok (m : MemSt) : Prop := Memory.wf m.mem = true

/-- Host memory in its canonical form, and the seventeen functions (R490). -/
def HostIf.Ok (h : HostIf) : Prop := Memory.wf h.mem = true ∧ h.fns.length = 17

/-- Flash and what is staged for it in their canonical form (R4). -/
def Fls.Ok (f : Fls) : Prop := Memory.wf f.data = true ∧ Memory.wf f.staged = true

/-- The windows of R443. -/
def Cmd.Ok (c : Cmd) : Prop := c.windows.length = 32

/-- The ports of R346. -/
def Lnk.Ok (k : Lnk) : Prop := k.ports.length = 64

/-- The partitions of R218. -/
def Pln.Ok (p : Pln) : Prop := p.parts.length = 16

/-- Every key of a table is below a bound. -/
def KeysBelow {α : Type} (n : Nat) (t : Assoc α) : Prop := ∀ e ∈ t, e.1 < n

/-- Satchels, owned or coming, in entries of the satchel table (R70). -/
def SatSt.Ok (x : SatSt) : Prop := KeysBelow 4194304 x.sats ∧ ∀ i ∈ x.incoming, i.slot < 4194304

theorem State.safe_iff (s : State) :
    s.Safe ↔ s.memory.Ok ∧ s.host.Ok ∧ s.fls.Ok ∧ s.cmd.Ok ∧ s.lnk.Ok ∧ s.pln.Ok ∧ s.sat.Ok := by
  simp only [State.Safe, State.memoriesOk, State.shapeOk, Bool.and_eq_true, beq_iff_eq, List.all_eq_true, decide_eq_true_eq, MemSt.Ok,
    HostIf.Ok, Fls.Ok, Cmd.Ok, Lnk.Ok, Pln.Ok, SatSt.Ok, KeysBelow]
  tauto

/-! ### Tables of satchels -/

theorem keysBelow_aput {α : Type} {n k : Nat} {t : Assoc α} (h : KeysBelow n t) (below : k < n) (x : α) : KeysBelow n (aput t k x) := by
  intro e mem
  rcases mem_aput mem with rfl | old
  · exact below
  · exact h e old

theorem keysBelow_adel {α : Type} {n : Nat} {t : Assoc α} (h : KeysBelow n t) (k : Nat) : KeysBelow n (adel t k) :=
  fun e mem => h e ((adel_sublist t k).subset mem)

theorem mem_of_afind {α : Type} {t : Assoc α} {k : Nat} {x : α} (h : afind t k = some x) : (k, x) ∈ t := by
  induction t with
  | nil => cases h
  | cons p t ih =>
    obtain ⟨j, y⟩ := p
    unfold afind at h
    split at h
    · next same => cases h; subst same; exact List.mem_cons_self ..
    · exact List.mem_cons_of_mem _ (ih h)

theorem keysBelow_amod {α : Type} {n : Nat} {t : Assoc α} (h : KeysBelow n t) (k : Nat) (f : α → α) : KeysBelow n (amod t k f) := by
  unfold amod
  cases e : afind t k with
  | none => exact h
  | some x => exact keysBelow_aput h (h _ (mem_of_afind e)) _

theorem keysBelow_amap {α : Type} {n : Nat} {t : Assoc α} (h : KeysBelow n t) (f : α → α) : KeysBelow n (amap f t) := by
  intro e mem
  obtain ⟨p, old, rfl⟩ := List.mem_map.1 mem
  exact h p old

theorem SatSt.Ok.below {x : SatSt} (h : x.Ok) {k : Nat} {y : Sat} (found : afind x.sats k = some y) : k < 4194304 := h.1 _ (mem_of_afind found)

theorem wf_foldl_memZero {α : Type} (l : List α) (a n : α → Nat) {m : Mem} (h : Memory.wf m = true) :
    Memory.wf (l.foldl (fun m x => memZero m (a x) (n x)) m) = true := by
  induction l generalizing m with
  | nil => exact h
  | cons x l ih => exact ih (Memory.wf_memZero _ _ _ h)

theorem Memory.wf_nil : Memory.wf [] = true := rfl

/-! ### What the FTL's map and journal leave of the data -/

theorem Fls.touch_data (f : Fls) (lua seq) : (f.touch lua seq).data = f.data ∧ (f.touch lua seq).staged = f.staged := by
  unfold Fls.touch
  dsimp only
  split <;> exact ⟨rfl, rfl⟩

theorem Fls.mapTo_data (f : Fls) (lua pua seq) : (f.mapTo lua pua seq).data = f.data ∧ (f.mapTo lua pua seq).staged = f.staged :=
  Fls.touch_data _ _ _

/-- A run over a list keeps flash's data and what is staged where each step does. -/
theorem Fls.foldl_data {α : Type} (xs : List α) (step : Fls → α → Fls) (keep : ∀ f x, (step f x).data = f.data ∧ (step f x).staged = f.staged) (f : Fls) :
    (xs.foldl step f).data = f.data ∧ (xs.foldl step f).staged = f.staged := by
  induction xs generalizing f with
  | nil => exact ⟨rfl, rfl⟩
  | cons x xs ih => exact ⟨(ih _).1.trans (keep f x).1, (ih _).2.trans (keep f x).2⟩

theorem Fls.unmap_data (f : Fls) (lua n seq) : (f.unmap lua n seq).data = f.data ∧ (f.unmap lua n seq).staged = f.staged := by
  unfold Fls.unmap
  refine Fls.foldl_data _ _ (fun g q => ?_) _
  exact Fls.touch_data { g with map := adel g.map q.1 } _ _

theorem Fls.unmapAll_data (f : Fls) (ranges : List (Nat × Nat)) (seq) :
    (ranges.foldl (fun x q => x.unmap q.1 q.2 seq) f).data = f.data ∧ (ranges.foldl (fun x q => x.unmap q.1 q.2 seq) f).staged = f.staged :=
  Fls.foldl_data _ _ (fun _ _ => Fls.unmap_data _ _ _ _) _

theorem Fls.applyRec_data (f : Fls) (r) : (f.applyRec r).data = f.data ∧ (f.applyRec r).staged = f.staged := by
  unfold Fls.applyRec
  split
  · split
    · exact Fls.mapTo_data _ _ _ _
    · exact ⟨rfl, rfl⟩
  · split
    · exact Fls.mapTo_data _ _ _ _
    · exact ⟨rfl, rfl⟩
  · exact Fls.unmap_data _ _ _ _
  · split
    · split
      · exact Fls.unmapAll_data _ _ _
      · exact ⟨rfl, rfl⟩
    · exact ⟨rfl, rfl⟩
  · exact ⟨rfl, rfl⟩
  · exact ⟨rfl, rfl⟩

theorem Fls.replay_data (f : Fls) : f.replay.data = f.data ∧ f.replay.staged = f.staged := by
  unfold Fls.replay
  refine Fls.foldl_data _ _ (fun g r => ?_) { f with map := f.checkpoint }
  split
  · exact ⟨rfl, rfl⟩
  · exact Fls.applyRec_data g r

/-! ### `Keeps` -/

/-- `t` is `s` but for the groups of `l`, and safe where `s` is. -/
def State.Keeps (s : State) (l : List Group) (t : State) : Prop := s.Only l t ∧ (s.Safe → t.Safe)

theorem State.Keeps.refl (s : State) (l : List Group) : s.Keeps l s := ⟨.refl s l, id⟩

theorem State.Keeps.then {s t u : State} {l m : List Group} (h : s.Keeps m t) (k : t.Keeps l u) (sub : l ⊆ m) : s.Keeps m u :=
  ⟨h.1.trans (k.1.mono sub), fun safe => k.2 (h.2 safe)⟩

theorem groups_sub {n m l : List Group} (g : m ⊆ l) (k : (n.all fun x => decide (x ∈ m)) = true) : n ⊆ l :=
  fun _ mem => g (of_decide_eq_true (List.all_eq_true.1 k _ mem))

/-- A command goes on to a state that keeps what the list of groups says. -/
def State.Goes (s : State) (l : List Group) (o : Host.Outcome State Fault Refusal) : Prop :=
  match o with
  | .next t => s.Keeps l t
  | _ => False

theorem State.Keeps.next {s t : State} {l : List Group} (h : s.Keeps l t) : s.Goes l (.next t) := h

theorem State.goes_next (s t : State) (l : List Group) : s.Goes l (.next t) ↔ s.Keeps l t := .rfl

/-- An update of the state keeps the groups that it leaves as they were, and safety where the groups it changes stay sound. -/
theorem State.Keeps.mk {s0 s : State} {l : List Group} (h : s0.Keeps l s) (bar board stk sat kva cores pln memory fls lnk xpt shp cmd blt sec host pwr out freeCtr)
    (c1 : Group.bar ∈ l ∨ bar = s.bar) (c2 : Group.board ∈ l ∨ board = s.board) (c3 : Group.stk ∈ l ∨ stk = s.stk)
    (c4 : Group.sat ∈ l ∨ sat = s.sat) (c5 : Group.kva ∈ l ∨ kva = s.kva) (c6 : Group.cores ∈ l ∨ cores = s.cores)
    (c7 : Group.pln ∈ l ∨ pln = s.pln) (c8 : Group.memory ∈ l ∨ memory = s.memory) (c9 : Group.fls ∈ l ∨ fls = s.fls)
    (c10 : Group.lnk ∈ l ∨ lnk = s.lnk) (c11 : Group.xpt ∈ l ∨ xpt = s.xpt) (c12 : Group.shp ∈ l ∨ shp = s.shp)
    (c13 : Group.cmd ∈ l ∨ cmd = s.cmd) (c14 : Group.blt ∈ l ∨ blt = s.blt) (c15 : Group.sec ∈ l ∨ sec = s.sec)
    (c16 : Group.host ∈ l ∨ host = s.host) (c17 : Group.pwr ∈ l ∨ pwr = s.pwr) (c18 : Group.out ∈ l ∨ out = s.out)
    (c19 : Group.freeCtr ∈ l ∨ freeCtr = s.freeCtr)
    (o1 : Memory.wf s.memory.mem = true → Memory.wf memory.mem = true) (o2 : Memory.wf s.host.mem = true → Memory.wf host.mem = true)
    (o3 : s.host.fns.length = 17 → host.fns.length = 17) (o4 : Memory.wf s.fls.data = true → Memory.wf fls.data = true)
    (o5 : Memory.wf s.fls.staged = true → Memory.wf fls.staged = true) (o6 : s.cmd.windows.length = 32 → cmd.windows.length = 32)
    (o7 : s.lnk.ports.length = 64 → lnk.ports.length = 64) (o8 : s.pln.parts.length = 16 → pln.parts.length = 16)
    (o9 : KeysBelow 4194304 s.sat.sats → KeysBelow 4194304 sat.sats)
    (o10 : (∀ i ∈ s.sat.incoming, i.slot < 4194304) → ∀ i ∈ sat.incoming, i.slot < 4194304) :
    s0.Keeps l ⟨bar, board, stk, sat, kva, cores, pln, memory, fls, lnk, xpt, shp, cmd, blt, sec, host, pwr, out, freeCtr, s.pending⟩ := by
  refine h.then (l := l) ⟨?_, fun safe => ?_⟩ (List.Subset.refl l)
  · simp only [State.Only]
    exact ⟨c1, c2, c3, c4, c5, c6, c7, c8, c9, c10, c11, c12, c13, c14, c15, c16, c17, c18, c19, trivial⟩
  · rw [State.safe_iff] at safe ⊢
    obtain ⟨hm, ⟨hh, hf⟩, ⟨hd, hs⟩, hc, hl, hp, hk, hi⟩ := safe
    exact ⟨o1 hm, ⟨o2 hh, o3 hf⟩, ⟨o4 hd, o5 hs⟩, o6 hc, o7 hl, o8 hp, o9 hk, o10 hi⟩

theorem State.Keeps.fst {α : Type} {s t : State} {l : List Group} {p : State × α} {y : α} (k : s.Keeps l p.1) (e : p = (t, y)) : s.Keeps l t := by
  subst e; exact k

theorem State.Keeps.snd {α : Type} {s t : State} {l : List Group} {p : α × State} {y : α} (k : s.Keeps l p.2) (e : p = (y, t)) : s.Keeps l t := by
  subst e; exact k

theorem State.Keeps.ite {s t u : State} {l : List Group} {c : Prop} [Decidable c] (k : s.Keeps l t) (m : s.Keeps l u) : s.Keeps l (if c then t else u) := by
  split
  · exact k
  · exact m

theorem State.Keeps.iteFst {α : Type} {s : State} {p q : State × α} {l : List Group} {c : Prop} [Decidable c] (k : s.Keeps l p.1) (m : s.Keeps l q.1) :
    s.Keeps l (if c then p else q).1 := by
  split
  · exact k
  · exact m

theorem State.Keeps.cond {s t u : State} {l : List Group} {c : Bool} (k : s.Keeps l t) (m : s.Keeps l u) : s.Keeps l (bif c then t else u) := by
  cases c
  · exact m
  · exact k

/-- A run over a list keeps what each of its steps keeps. -/
theorem State.Keeps.foldl {α : Type} {s0 s : State} {l : List Group} (h : s0.Keeps l s) (xs : List α) (f : State → α → State)
    (step : ∀ t x, s0.Keeps l t → s0.Keeps l (f t x)) : s0.Keeps l (xs.foldl f s) := by
  induction xs generalizing s with
  | nil => exact h
  | cons x xs ih => exact ih (step s x h)

section
variable {s0 s : State} {l : List Group} (h : s0.Keeps l s)
include h

theorem State.Keeps.setBar (g : Group.bar ∈ l) (x : Bar0) : s0.Keeps l { s with bar := x } :=
  h.then (l := [.bar]) ⟨by simp [State.Only], id⟩ (by simpa using g)
theorem State.Keeps.setBoard (g : Group.board ∈ l) (x : Board) : s0.Keeps l { s with board := x } :=
  h.then (l := [.board]) ⟨by simp [State.Only], id⟩ (by simpa using g)
theorem State.Keeps.setStk (g : Group.stk ∈ l) (x : Stk) : s0.Keeps l { s with stk := x } :=
  h.then (l := [.stk]) ⟨by simp [State.Only], id⟩ (by simpa using g)
theorem State.Keeps.setKva (g : Group.kva ∈ l) (x : Kva) : s0.Keeps l { s with kva := x } :=
  h.then (l := [.kva]) ⟨by simp [State.Only], id⟩ (by simpa using g)
theorem State.Keeps.setCores (g : Group.cores ∈ l) (x : Cores) : s0.Keeps l { s with cores := x } :=
  h.then (l := [.cores]) ⟨by simp [State.Only], id⟩ (by simpa using g)
theorem State.Keeps.setXpt (g : Group.xpt ∈ l) (x : Xpt) : s0.Keeps l { s with xpt := x } :=
  h.then (l := [.xpt]) ⟨by simp [State.Only], id⟩ (by simpa using g)
theorem State.Keeps.setShp (g : Group.shp ∈ l) (x : Shp) : s0.Keeps l { s with shp := x } :=
  h.then (l := [.shp]) ⟨by simp [State.Only], id⟩ (by simpa using g)
theorem State.Keeps.setBlt (g : Group.blt ∈ l) (x : Blt) : s0.Keeps l { s with blt := x } :=
  h.then (l := [.blt]) ⟨by simp [State.Only], id⟩ (by simpa using g)
theorem State.Keeps.setSec (g : Group.sec ∈ l) (x : Sec) : s0.Keeps l { s with sec := x } :=
  h.then (l := [.sec]) ⟨by simp [State.Only], id⟩ (by simpa using g)
theorem State.Keeps.setPwr (g : Group.pwr ∈ l) (x : Pwr) : s0.Keeps l { s with pwr := x } :=
  h.then (l := [.pwr]) ⟨by simp [State.Only], id⟩ (by simpa using g)
theorem State.Keeps.setOut (g : Group.out ∈ l) (x : List Out) : s0.Keeps l { s with out := x } :=
  h.then (l := [.out]) ⟨by simp [State.Only], id⟩ (by simpa using g)
theorem State.Keeps.setFreeCtr (g : Group.freeCtr ∈ l) (x : Nat) : s0.Keeps l { s with freeCtr := x } :=
  h.then (l := [.freeCtr]) ⟨by simp [State.Only], id⟩ (by simpa using g)
theorem State.Keeps.setSat (g : Group.sat ∈ l) (x : SatSt) (ok : KeysBelow 4194304 s.sat.sats → KeysBelow 4194304 x.sats)
    (oki : (∀ i ∈ s.sat.incoming, i.slot < 4194304) → ∀ i ∈ x.incoming, i.slot < 4194304) : s0.Keeps l { s with sat := x } :=
  h.then (l := [.sat]) ⟨by simp [State.Only], by simp only [State.safe_iff]; have ok0 : s.sat.Ok → x.Ok := fun ok0 => ⟨ok ok0.1, oki ok0.2⟩; tauto⟩ (by simpa using g)
theorem State.Keeps.setSatOk (g : Group.sat ∈ l) (x : SatSt) (ok : s.sat.Ok → x.Ok) : s0.Keeps l { s with sat := x } :=
  h.then (l := [.sat]) ⟨by simp [State.Only], by simp only [State.safe_iff]; tauto⟩ (by simpa using g)
theorem State.Keeps.setPln (g : Group.pln ∈ l) (x : Pln) (ok : s.pln.parts.length = 16 → x.parts.length = 16) : s0.Keeps l { s with pln := x } :=
  h.then (l := [.pln]) ⟨by simp [State.Only], by simp only [State.safe_iff]; have ok0 : s.pln.Ok → x.Ok := ok; tauto⟩ (by simpa using g)
theorem State.Keeps.setMemory (g : Group.memory ∈ l) (x : MemSt) (ok : Memory.wf s.memory.mem = true → Memory.wf x.mem = true) : s0.Keeps l { s with memory := x } :=
  h.then (l := [.memory]) ⟨by simp [State.Only], by simp only [State.safe_iff]; have ok0 : s.memory.Ok → x.Ok := ok; tauto⟩ (by simpa using g)
theorem State.Keeps.setFls (g : Group.fls ∈ l) (x : Fls) (ok : Memory.wf s.fls.data = true → Memory.wf x.data = true)
    (oks : Memory.wf s.fls.staged = true → Memory.wf x.staged = true) : s0.Keeps l { s with fls := x } :=
  h.then (l := [.fls]) ⟨by simp [State.Only], by simp only [State.safe_iff]; have ok0 : s.fls.Ok → x.Ok := fun ok0 => ⟨ok ok0.1, oks ok0.2⟩; tauto⟩ (by simpa using g)
theorem State.Keeps.setLnk (g : Group.lnk ∈ l) (x : Lnk) (ok : s.lnk.ports.length = 64 → x.ports.length = 64) : s0.Keeps l { s with lnk := x } :=
  h.then (l := [.lnk]) ⟨by simp [State.Only], by simp only [State.safe_iff]; have ok0 : s.lnk.Ok → x.Ok := ok; tauto⟩ (by simpa using g)
theorem State.Keeps.setCmd (g : Group.cmd ∈ l) (x : Cmd) (ok : s.cmd.windows.length = 32 → x.windows.length = 32) : s0.Keeps l { s with cmd := x } :=
  h.then (l := [.cmd]) ⟨by simp [State.Only], by simp only [State.safe_iff]; have ok0 : s.cmd.Ok → x.Ok := ok; tauto⟩ (by simpa using g)
theorem State.Keeps.setHost (g : Group.host ∈ l) (x : HostIf) (ok : Memory.wf s.host.mem = true → Memory.wf x.mem = true)
    (okf : s.host.fns.length = 17 → x.fns.length = 17) : s0.Keeps l { s with host := x } :=
  h.then (l := [.host]) ⟨by simp [State.Only], by simp only [State.safe_iff]; have ok0 : s.host.Ok → x.Ok := fun ok0 => ⟨ok ok0.1, okf ok0.2⟩; tauto⟩ (by simpa using g)

theorem State.Keeps.withSlot {f : Sat → State} {slot : Nat} (k : ∀ x, s.satAt slot = some x → s0.Keeps l (f x)) : s0.Keeps l (s.withSlot slot f) := by
  unfold State.withSlot
  split
  · next e => exact k _ e
  · exact h

theorem State.Keeps.withCtx {f : KvCtx → State} {c : Nat} (k : ∀ x, s.ctxAt c = some x → s0.Keeps l (f x)) : s0.Keeps l (s.withCtx c f) := by
  unfold State.withCtx
  split
  · next e => exact k _ e
  · exact h

end

end Sys2Proof.Machine
end

section
/-!
PROOFS. What the operations keep: registers, notices, replies and the clock.
-/
namespace Sys2Proof.Machine
section
variable {s0 s : State} {l : List Group} (h : s0.Keeps l s)
include h
theorem State.Keeps.setReg (g : [Group.bar] ⊆ l) (off) (v) : s0.Keeps l (s.setReg off v) := by
  unfold State.setReg
  grind only [State.Keeps.setBar, List.cons_subset, List.nil_subset]

theorem State.Keeps.setFld (g : [Group.bar] ⊆ l) (off) (hi) (lo) (v) : s0.Keeps l (s.setFld off hi lo v) := by
  unfold State.setFld
  grind only [State.Keeps.setReg, List.cons_subset, List.nil_subset]

theorem State.Keeps.count (g : [Group.bar] ⊆ l) (off) (n) : s0.Keeps l (s.count off n) := by
  unfold State.count
  grind only [State.Keeps.setReg, List.cons_subset, List.nil_subset]

theorem State.Keeps.count64 (g : [Group.bar] ⊆ l) (off) (n) : s0.Keeps l (s.count64 off n) := by
  unfold State.count64
  grind only [State.Keeps.setReg, List.cons_subset, List.nil_subset]

theorem State.Keeps.at_ (g : [Group.stk] ⊆ l) (x0) : s0.Keeps l (s.at_ x0) := by
  unfold State.at_
  grind only [State.Keeps.setStk, List.cons_subset, List.nil_subset]

theorem State.Keeps.emit (g : [Group.out] ⊆ l) (o) : s0.Keeps l (s.emit o) := by
  unfold State.emit
  grind only [State.Keeps.setOut, List.cons_subset, List.nil_subset]

theorem State.Keeps.free (g : [Group.freeCtr] ⊆ l) : s0.Keeps l (s.free).2 := by
  unfold State.free
  grind only [State.Keeps.setFreeCtr, List.cons_subset, List.nil_subset]

theorem State.Keeps.post (g : [Group.bar, .blt] ⊆ l) (f) : s0.Keeps l (s.post f) := by
  unfold State.post
  grind only [State.Keeps.count, State.Keeps.setBlt, List.cons_subset, List.nil_subset]

theorem State.Keeps.note (g : [Group.bar, .blt] ⊆ l) (source) (kind) (addr) : s0.Keeps l (s.note source kind addr) := by
  unfold State.note
  grind only [State.Keeps.post, List.cons_subset, List.nil_subset]

theorem State.Keeps.accessNote (g : [Group.bar, .blt] ⊆ l) (off) : s0.Keeps l (s.accessNote off) := by
  unfold State.accessNote
  grind only [State.Keeps.note, List.cons_subset, List.nil_subset]

theorem State.Keeps.droppedNote (g : [Group.bar, .blt] ⊆ l) (off) : s0.Keeps l (s.droppedNote off) := by
  unfold State.droppedNote
  grind only [State.Keeps.note, List.cons_subset, List.nil_subset]

theorem State.Keeps.transient (g : [Group.bar, .blt] ⊆ l) (f) : s0.Keeps l (s.transient f) := by
  unfold State.transient
  grind only [State.Keeps.post, State.Keeps.count, List.cons_subset, List.nil_subset]

theorem State.Keeps.hostWrite (g : [Group.host] ⊆ l) (fn) (addr) (xs) : s0.Keeps l (s.hostWrite fn addr xs) := by
  unfold State.hostWrite
  grind only [State.Keeps.setHost, Memory.wf_memWrite, = List.length_modify, List.cons_subset, List.nil_subset]

theorem State.Keeps.msix (g : [Group.host, .out] ⊆ l) (fn) (vector) : s0.Keeps l (s.msix fn vector) := by
  unfold State.msix
  grind only [State.Keeps.emit, State.Keeps.setHost, Memory.wf_memWrite, = List.length_modify, List.cons_subset, List.nil_subset]

theorem State.Keeps.writeRecord (g : [Group.cmd, .host, .out] ⊆ l) (key) (r) (rec) : s0.Keeps l (s.writeRecord key r rec) := by
  unfold State.writeRecord
  grind only [State.Keeps.hostWrite, State.Keeps.msix, State.Keeps.setCmd, = List.length_modify, List.cons_subset, List.nil_subset]

theorem State.Keeps.modFn (g : [Group.host] ⊆ l) (k) (f) : s0.Keeps l (s.modFn k f) := by
  unfold State.modFn
  grind only [State.Keeps.setHost, Memory.wf_memWrite, = List.length_modify, List.cons_subset, List.nil_subset]

theorem State.Keeps.putRecord (g : [Group.bar, .cmd, .host, .out] ⊆ l) (key) (rec) : s0.Keeps l (s.putRecord key rec) := by
  unfold State.putRecord
  grind only [State.Keeps.count, State.Keeps.writeRecord, State.Keeps.setCmd, = List.length_modify, List.cons_subset, List.nil_subset]

theorem State.Keeps.eventAt (g : [Group.bar, .cmd, .host, .out] ⊆ l) (stroke) (fn) (kind) (st) (part) (body) : s0.Keeps l (s.eventAt stroke fn kind st part body) := by
  unfold State.eventAt
  grind only [State.Keeps.putRecord, State.Keeps.setCmd, = List.length_modify, List.cons_subset, List.nil_subset]

theorem State.Keeps.event (g : [Group.bar, .cmd, .host, .out] ⊆ l) (fn) (kind) (st) (part) (body) : s0.Keeps l (s.event fn kind st part body) := by
  unfold State.event
  grind only [State.Keeps.eventAt, List.cons_subset, List.nil_subset]

theorem State.Keeps.partEvent (g : [Group.bar, .cmd, .host, .out] ⊆ l) (part) (op) (tag) (st) : s0.Keeps l (s.partEvent part op tag st) := by
  unfold State.partEvent
  grind only [State.Keeps.event, List.cons_subset, List.nil_subset]

theorem State.Keeps.modWindow (g : [Group.cmd] ⊆ l) (w) (f) : s0.Keeps l (s.modWindow w f) := by
  unfold State.modWindow
  grind only [State.Keeps.setCmd, = List.length_modify, List.cons_subset, List.nil_subset]

theorem State.Keeps.answer (g : [Group.bar, .cmd, .host, .out] ⊆ l) (r) (st) (final) (result) : s0.Keeps l (s.answer r st final result) := by
  unfold State.answer
  grind only [State.Keeps.putRecord, State.Keeps.modWindow, State.Keeps.emit, List.cons_subset, List.nil_subset]

theorem State.Keeps.done (g : [Group.bar, .cmd, .host, .out] ⊆ l) (r) (st) : s0.Keeps l (s.done r st) := by
  unfold State.done
  grind only [State.Keeps.answer, List.cons_subset, List.nil_subset]

theorem State.Keeps.accepted (g : [Group.bar, .cmd, .host, .out] ⊆ l) (r) : s0.Keeps l (s.accepted r).1 := by
  unfold State.accepted
  grind only [State.Keeps.answer, List.cons_subset, List.nil_subset]

theorem State.Keeps.windowError (g : [Group.bar, .cmd, .host, .out] ⊆ l) (w) (op) (tag) (st) : s0.Keeps l (s.windowError w op tag st) := by
  unfold State.windowError
  grind only [State.Keeps.modWindow, State.Keeps.putRecord, List.cons_subset, List.nil_subset]

theorem State.Keeps.takeWindow (g : [Group.bar, .cmd, .host, .out] ⊆ l) (w) (hd) (op) (replies) (own) : s0.Keeps l (s.takeWindow w hd op replies own).1 := by
  unfold State.takeWindow
  grind only [State.Keeps.windowError, State.Keeps.count, State.Keeps.modWindow, List.cons_subset, List.nil_subset]

theorem State.Keeps.take (g : [Group.bar, .stk, .cmd, .host, .out] ⊆ l) (hd) (op) (replies) (own) : s0.Keeps l (s.take hd op replies own).1 := by
  unfold State.take
  grind only [State.Keeps.at_, State.Keeps.takeWindow, State.Keeps.setCmd, = List.length_modify, List.cons_subset, List.nil_subset]

theorem State.Keeps.forward (g : [Group.bar, .cmd, .host, .out] ⊆ l) (q) (hd) (r) : s0.Keeps l (s.forward q hd r) := by
  unfold State.forward
  grind only [State.Keeps.done, State.Keeps.emit, State.Keeps.setCmd, = List.length_modify, List.cons_subset, List.nil_subset]

theorem State.Keeps.serve (g : [Group.bar, .stk, .cmd, .host, .out] ⊆ l) (q) (hd) (own) (body : ReplyTo → State → State)
    (k : ∀ r t, s0.Keeps l t → s0.Keeps l (body r t)) : s0.Keeps l (s.serve q hd own body) := by
  unfold State.serve
  grind only [State.Keeps.take, State.Keeps.done, State.Keeps.forward, List.cons_subset, List.nil_subset]

theorem State.Keeps.carve (g : [Group.memory] ⊆ l) (owner) (size) {t y'} (e : s.carve owner size = some (y', t)) : s0.Keeps l t := by
  unfold State.carve at e
  grind only [State.Keeps.setMemory, Memory.wf_memWrite, Memory.wf_memZero, Memory.wf_memCopy, List.cons_subset, List.nil_subset]

theorem State.Keeps.uncarve (g : [Group.memory] ⊆ l) (owner) : s0.Keeps l (s.uncarve owner) :=
  h.setMemory (g (by simp)) _ fun ok => wf_foldl_memZero _ _ _ ok

theorem State.Keeps.modPart (g : [Group.pln] ⊆ l) (p) (f) : s0.Keeps l (s.modPart p f) := by
  unfold State.modPart
  grind only [State.Keeps.setPln, = List.length_modify, = List.length_map, List.cons_subset, List.nil_subset]

theorem State.Keeps.recarve (g : [Group.memory] ⊆ l) (owner) (size) {t y'} (e : s.recarve owner size = some (y', t)) : s0.Keeps l t := by
  unfold State.recarve at e
  grind only [State.Keeps.carve, State.Keeps.setMemory, Memory.wf_memWrite, Memory.wf_memZero, Memory.wf_memCopy, List.cons_subset, List.nil_subset, = Option.map_eq_some_iff]

theorem State.Keeps.placeObj (g : [Group.memory] ⊆ l) (ctx) (pl) {t y'} (e : s.placeObj ctx pl = some (y', t)) : s0.Keeps l t := by
  unfold State.placeObj at e
  grind only [State.Keeps.carve, List.cons_subset, List.nil_subset, = Option.map_eq_some_iff]

theorem State.Keeps.placeLog (g : [Group.memory] ⊆ l) (ctx) (pl) (tokens) {t y'} (e : s.placeLog ctx pl tokens = some (y', t)) : s0.Keeps l t := by
  unfold State.placeLog at e
  grind only [State.Keeps.recarve, List.cons_subset, List.nil_subset, = Option.map_eq_some_iff]

theorem State.Keeps.placeTable (g : [Group.memory] ⊆ l) (ctx) (pl) (rows) {t y'} (e : s.placeTable ctx pl rows = some (y', t)) : s0.Keeps l t := by
  unfold State.placeTable at e
  grind only [State.Keeps.recarve, List.cons_subset, List.nil_subset, = Option.map_eq_some_iff]

theorem State.Keeps.placeState (g : [Group.memory] ⊆ l) (ctx) (pl) (bytes) {t y'} (e : s.placeState ctx pl bytes = some (y', t)) : s0.Keeps l t := by
  unfold State.placeState at e
  grind only [State.Keeps.recarve, List.cons_subset, List.nil_subset, = Option.map_eq_some_iff]

theorem State.Keeps.place (g : [Group.memory] ⊆ l) (ctx) (pl) (tokens) (rows) (bytes) {t y} (e : s.place ctx pl tokens rows bytes = some (y, t)) :
    s0.Keeps l t := by
  unfold State.place at e
  simp only [Option.bind_eq_bind, Option.bind_eq_some_iff, Prod.exists] at e
  obtain ⟨p1, s1, e1, p2, s2, e2, p3, s3, e3, e4⟩ := e
  exact (((h.placeObj g _ _ e1).placeLog g _ _ _ e2).placeTable g _ _ _ e3).placeState g _ _ _ e4

theorem State.Keeps.unplace (g : [Group.memory] ⊆ l) (ctx) : s0.Keeps l (s.unplace ctx) := by
  unfold State.unplace
  grind only [State.Keeps.uncarve, State.Keeps.foldl, List.cons_subset, List.nil_subset]

theorem State.Keeps.sendC (g : [Group.out] ⊆ l) (dst) (ty) (m) (p) : s0.Keeps l (s.sendC dst ty m p) := by
  unfold State.sendC
  grind only [State.Keeps.emit, List.cons_subset, List.nil_subset]

theorem State.Keeps.toRegistrar (g : [Group.out] ⊆ l) (ty) (m) (p) : s0.Keeps l (s.toRegistrar ty m p) := by
  unfold State.toRegistrar
  grind only [State.Keeps.sendC, List.cons_subset, List.nil_subset]

end
end Sys2Proof.Machine
end

section
/-!
PROOFS. What the operations keep: objects, memory and flash.
-/
namespace Sys2Proof.Machine
section
variable {s0 s : State} {l : List Group} (h : s0.Keeps l s)
include h
theorem State.Keeps.physWrite (g : [Group.memory] ⊆ l) (pa) (xs) : s0.Keeps l (s.physWrite pa xs) := by
  unfold State.physWrite
  grind only [State.Keeps.setMemory, Memory.wf_memWrite, Memory.wf_memZero, Memory.wf_memCopy, List.cons_subset, List.nil_subset]

theorem State.Keeps.readPa (g : [Group.freeCtr] ⊆ l) (fn) (pa) (n) : s0.Keeps l (s.readPa fn pa n).1 := by
  unfold State.readPa
  grind only [State.Keeps.setFreeCtr, List.cons_subset, List.nil_subset]

theorem State.Keeps.writePa (g : [Group.memory, .host, .out] ⊆ l) (fn) (pa) (xs) : s0.Keeps l (s.writePa fn pa xs) := by
  unfold State.writePa
  grind only [State.Keeps.hostWrite, State.Keeps.physWrite, State.Keeps.emit, List.cons_subset, List.nil_subset]

theorem State.Keeps.xlate (g : [Group.memory] ⊆ l) (p) (ag) (acc) (va) : s0.Keeps l (s.xlate p ag acc va).1 := by
  unfold State.xlate
  grind only [State.Keeps.setMemory, Memory.wf_memWrite, Memory.wf_memZero, Memory.wf_memCopy, List.cons_subset, List.nil_subset]

theorem State.Keeps.xlateParts (g : [Group.memory] ⊆ l) (p) (ag) (acc) (xs) : s0.Keeps l (s.xlateParts p ag acc xs).1 := by
  induction xs generalizing s p ag acc with
  | nil => unfold State.xlateParts; grind only [State.Keeps.xlate, List.cons_subset, List.nil_subset]
  | cons x xs ih => unfold State.xlateParts; grind only [State.Keeps.xlate, List.cons_subset, List.nil_subset]

theorem State.Keeps.xlateRange (g : [Group.memory] ⊆ l) (p) (ag) (acc) (va) (n) : s0.Keeps l (s.xlateRange p ag acc va n).1 := by
  unfold State.xlateRange
  grind only [State.Keeps.xlateParts, List.cons_subset, List.nil_subset]

theorem State.Keeps.readParts (g : [Group.freeCtr] ⊆ l) (fn) (xs) : s0.Keeps l (s.readParts fn xs).1 := by
  induction xs generalizing s fn with
  | nil => unfold State.readParts; grind only [State.Keeps.readPa, List.cons_subset, List.nil_subset]
  | cons x xs ih => unfold State.readParts; grind only [State.Keeps.readPa, List.cons_subset, List.nil_subset]

theorem State.Keeps.writeParts (g : [Group.memory, .host, .out] ⊆ l) (fn) (xs) (xs') : s0.Keeps l (s.writeParts fn xs xs') := by
  induction xs generalizing s fn xs' with
  | nil => unfold State.writeParts; grind only [State.Keeps.take, State.Keeps.writePa, List.cons_subset, List.nil_subset]
  | cons x xs ih => unfold State.writeParts; grind only [State.Keeps.take, State.Keeps.writePa, List.cons_subset, List.nil_subset]

theorem State.Keeps.readVa (g : [Group.memory, .freeCtr] ⊆ l) (p) (ag) (va) (n) : s0.Keeps l (s.readVa p ag va n).1 := by
  unfold State.readVa
  grind only [State.Keeps.xlateRange, State.Keeps.readParts, List.cons_subset, List.nil_subset]

theorem State.Keeps.writeVa (g : [Group.memory, .host, .out] ⊆ l) (p) (ag) (va) (b) : s0.Keeps l (s.writeVa p ag va b).1 := by
  unfold State.writeVa
  grind only [State.Keeps.xlateRange, State.Keeps.writeParts, List.cons_subset, List.nil_subset]

theorem State.Keeps.writeAddr (g : [Group.memory, .host, .out] ⊆ l) (o) (addr) (xs) : s0.Keeps l (s.writeAddr o addr xs) := by
  unfold State.writeAddr
  grind only [State.Keeps.writeVa, State.Keeps.hostWrite, List.cons_subset, List.nil_subset]

theorem State.Keeps.faultEvent (g : [Group.bar, .cmd, .host, .out] ⊆ l) (id) (f) : s0.Keeps l (s.faultEvent id f) := by
  unfold State.faultEvent
  grind only [State.Keeps.event, List.cons_subset, List.nil_subset]

theorem State.Keeps.openFault (g : [Group.bar, .memory, .cmd, .blt, .host, .out] ⊆ l) (f) : s0.Keeps l (s.openFault f).1 := by
  unfold State.openFault
  grind only [State.Keeps.faultEvent, State.Keeps.count, State.Keeps.post, State.Keeps.setMemory, Memory.wf_memWrite, Memory.wf_memZero, Memory.wf_memCopy, List.cons_subset, List.nil_subset]

theorem State.Keeps.denied (g : [Group.bar, .blt] ⊆ l) (source) (addr) (beyond) : s0.Keeps l (s.denied source addr beyond) := by
  unfold State.denied
  grind only [State.Keeps.post, List.cons_subset, List.nil_subset]

theorem State.Keeps.gddrLost (g : [Group.bar, .memory, .blt] ⊆ l) (d) : s0.Keeps l (s.gddrLost d) := by
  unfold State.gddrLost
  grind only [State.Keeps.post, State.Keeps.setMemory, Memory.wf_memWrite, Memory.wf_memZero, Memory.wf_memCopy, List.cons_subset, List.nil_subset]

theorem State.Keeps.memEnable (g : [Group.memory] ⊆ l) : s0.Keeps l (s.memEnable) := by
  unfold State.memEnable
  grind only [State.Keeps.setMemory, Memory.wf_memWrite, Memory.wf_memZero, Memory.wf_memCopy, List.cons_subset, List.nil_subset]

theorem State.Keeps.goes_t1Tracking (g : [Group.memory] ⊆ l) (ok) : s0.Goes l (execT1Tracking ok s) := by
  unfold execT1Tracking
  grind only [State.goes_next, State.Keeps.setMemory, Memory.wf_memWrite, Memory.wf_memZero, Memory.wf_memCopy, List.cons_subset, List.nil_subset]

theorem State.Keeps.gddrTemp (g : [Group.bar, .memory, .blt] ⊆ l) (d) (temp) : s0.Keeps l (s.gddrTemp d temp) := by
  unfold State.gddrTemp
  grind only [State.Keeps.note, State.Keeps.gddrLost, State.Keeps.setMemory, Memory.wf_memWrite, Memory.wf_memZero, Memory.wf_memCopy, List.cons_subset, List.nil_subset]

theorem State.Keeps.poisonT1 (g : [Group.bar, .pln, .memory, .blt] ⊆ l) (pa) : s0.Keeps l (s.poisonT1 pa) := by
  unfold State.poisonT1
  extract_lets _ s1 _ s2
  have k1 : s0.Keeps l s1 := (h.count (groups_sub g rfl) _ _).post (groups_sub g rfl) _
  have k2 : s0.Keeps l s2 := k1.setMemory (g (by simp)) _ id
  exact k2.setPln (g (by simp)) _ fun ok => by simpa using ok

theorem State.Keeps.goes_tlbInvalidate (g : [Group.bar, .stk, .memory, .cmd, .host, .out] ⊆ l) (hd) (scope) (base) (length) (rsv) : s0.Goes l (execTlbInvalidate hd scope base length rsv s) := by
  unfold execTlbInvalidate
  refine State.Keeps.serve h (groups_sub g rfl) _ _ _ _ fun r t k => ?_
  grind only [State.Keeps.serve, State.Keeps.done, State.Keeps.setMemory, Memory.wf_memWrite, Memory.wf_memZero, Memory.wf_memCopy, List.cons_subset, List.nil_subset]

theorem State.Keeps.goes_regionMove (g : [Group.bar, .stk, .memory, .cmd, .host, .out] ⊆ l) (hd) (ipa) (length) (dest) : s0.Goes l (execRegionMove hd ipa length dest s) := by
  unfold execRegionMove
  refine State.Keeps.serve h (groups_sub g rfl) _ _ _ _ fun r t k => ?_
  grind only [State.Keeps.serve, State.Keeps.done, State.Keeps.accepted, State.Keeps.setMemory, Memory.wf_memWrite, Memory.wf_memZero, Memory.wf_memCopy, List.cons_subset, List.nil_subset]

theorem State.Keeps.movePage (g : [Group.memory, .xpt, .host, .out, .freeCtr] ⊆ l) (v) : s0.Keeps l (s.movePage v) := by
  unfold State.movePage
  grind only [State.Keeps.readPa, State.Keeps.writePa, State.Keeps.physWrite, State.Keeps.setMemory, State.Keeps.setXpt, State.Keeps.mk, Memory.wf_memWrite, Memory.wf_memZero, Memory.wf_memCopy, List.cons_subset, List.nil_subset]

theorem State.Keeps.goes_regionMovePageComplete (g : [Group.bar, .memory, .xpt, .cmd, .host, .out, .freeCtr] ⊆ l) (ipa) (result) : s0.Goes l (execRegionMovePageComplete ipa result s) := by
  unfold execRegionMovePageComplete
  grind only [State.goes_next, State.Keeps.movePage, State.Keeps.answer, State.Keeps.setMemory, Memory.wf_memWrite, Memory.wf_memZero, Memory.wf_memCopy, List.cons_subset, List.nil_subset]

theorem State.Keeps.modBlock (g : [Group.fls] ⊆ l) (k) (f) : s0.Keeps l (s.modBlock k f) := by
  unfold State.modBlock
  grind only [State.Keeps.setFls, Memory.wf_memWrite, Memory.wf_memZero, Memory.wf_memCopy, List.cons_subset, List.nil_subset]

theorem State.Keeps.journal (g : [Group.fls] ⊆ l) (r) : s0.Keeps l (s.journal r) := by
  unfold State.journal
  grind only [State.Keeps.setFls, Memory.wf_memWrite, Memory.wf_memZero, Memory.wf_memCopy, List.cons_subset, List.nil_subset]

theorem State.Keeps.blockTo (g : [Group.fls] ⊆ l) (k) (st) : s0.Keeps l (s.blockTo k st) := by
  unfold State.blockTo
  grind only [State.Keeps.journal, State.Keeps.modBlock, List.cons_subset, List.nil_subset]

theorem State.Keeps.tryDelete (g : [Group.fls] ⊆ l) (ext) : s0.Keeps l (s.tryDelete ext) := by
  unfold State.tryDelete
  grind only [State.Keeps.journal, List.cons_subset, List.nil_subset]

theorem State.Keeps.unitDurable (g : [Group.bar, .fls, .cmd, .host, .out] ⊆ l) (req) : s0.Keeps l (s.unitDurable req) := by
  unfold State.unitDurable
  grind only [State.Keeps.answer, State.Keeps.tryDelete, State.Keeps.setFls, Memory.wf_memWrite, Memory.wf_memZero, Memory.wf_memCopy, List.cons_subset, List.nil_subset]

theorem State.Keeps.durable (g : [Group.bar, .fls, .cmd, .host, .out] ⊆ l) (r) : s0.Keeps l (s.durable r) := by
  unfold State.durable
  extract_lets del _ f _ s1 s2
  have k1 : s0.Keeps l s1 := h.setFls (g (by simp)) _ (fun ok => (Fls.applyRec_data f r).1 ▸ ok) fun ok => Memory.wf_memZero _ _ _ ok
  have k2 : s0.Keeps l s2 := by grind only [State.Keeps.answer, List.cons_subset, List.nil_subset]
  clear_value s2
  grind only [State.Keeps.unitDurable, List.cons_subset, List.nil_subset]

theorem State.Keeps.goes_journalCommit (g : [Group.stk, .fls] ⊆ l) (now) : s0.Goes l (execJournalCommit now s) := by
  unfold execJournalCommit
  grind only [State.goes_next, State.Keeps.at_, State.Keeps.setFls, Memory.wf_memWrite, Memory.wf_memZero, Memory.wf_memCopy, List.cons_subset, List.nil_subset]

theorem State.Keeps.goes_journalDurable (g : [Group.bar, .fls, .cmd, .host, .out] ⊆ l) (records) : s0.Goes l (execJournalDurable records s) := by
  unfold execJournalDurable
  grind only [State.goes_next, State.Keeps.durable, State.Keeps.setFls, Memory.wf_memWrite, Memory.wf_memZero, Memory.wf_memCopy, State.Keeps.foldl, List.cons_subset, List.nil_subset]

theorem State.Keeps.goes_mapCheckpoint (g : [Group.fls] ⊆ l) (page) : s0.Goes l (execMapCheckpoint page s) := by
  unfold execMapCheckpoint
  grind only [State.goes_next, State.Keeps.journal, State.Keeps.setFls, Memory.wf_memWrite, Memory.wf_memZero, Memory.wf_memCopy, State.Keeps.foldl, List.cons_subset, List.nil_subset]

theorem State.Keeps.beginWrite (g : [Group.fls] ⊆ l) (w) (data) : s0.Keeps l (s.beginWrite w data) := by
  unfold State.beginWrite
  grind only [State.Keeps.setFls, Memory.wf_memWrite, Memory.wf_memZero, Memory.wf_memCopy, List.cons_subset, List.nil_subset]

theorem State.Keeps.beginCopy (g : [Group.fls] ⊆ l) (lua) (pua) : s0.Keeps l (s.beginCopy lua pua) := by
  unfold State.beginCopy
  grind only [State.Keeps.setFls, Memory.wf_memWrite, Memory.wf_memZero, Memory.wf_memCopy, List.cons_subset, List.nil_subset]

theorem State.Keeps.copyOut (g : [Group.fls] ⊆ l) (block) : s0.Keeps l (s.copyOut block) := by
  unfold State.copyOut
  grind only [State.Keeps.beginCopy, State.Keeps.foldl, List.cons_subset, List.nil_subset]

theorem State.Keeps.checkSpare (g : [Group.bar, .fls, .cmd, .blt, .host, .out] ⊆ l) : s0.Keeps l (s.checkSpare) := by
  unfold State.checkSpare
  grind only [State.Keeps.post, State.Keeps.tryDelete, State.Keeps.answer, State.Keeps.setFls, Memory.wf_memWrite, Memory.wf_memZero, Memory.wf_memCopy, State.Keeps.foldl, List.cons_subset, List.nil_subset]

theorem State.Keeps.openSuper (g : [Group.fls] ⊆ l) (block) : s0.Keeps l (s.openSuper block) := by
  unfold State.openSuper
  grind only [State.Keeps.blockTo, State.Keeps.foldl, List.cons_subset, List.nil_subset]

theorem State.Keeps.throttleStep (g : [Group.fls] ⊆ l) (w) (group) : s0.Keeps l (s.throttleStep w group) := by
  unfold State.throttleStep
  grind only [State.Keeps.setFls, Memory.wf_memWrite, Memory.wf_memZero, Memory.wf_memCopy, List.cons_subset, List.nil_subset]

theorem State.Keeps.parityStep (g : [Group.fls] ⊆ l) (pua) : s0.Keeps l (s.parityStep pua) := by
  unfold State.parityStep
  dsimp only
  (repeat' split) <;> grind only [State.Keeps.setFls, Memory.wf_memWrite, Memory.wf_memZero, Memory.wf_memCopy, List.cons_subset, List.nil_subset]

theorem State.Keeps.copiedTo (g : [Group.fls] ⊆ l) (source) (block) : s0.Keeps l (s.copiedTo source block) := by
  unfold State.copiedTo
  grind only [State.Keeps.modBlock, State.Keeps.setFls, Memory.wf_memWrite, Memory.wf_memZero, Memory.wf_memCopy, List.cons_subset, List.nil_subset]

/-- Flash with other data, in its canonical form where the data was. -/
theorem State.Keeps.setFlsData (g : Group.fls ∈ l) (writes hdrs health) (m : Mem) (ok : Memory.wf s.fls.data = true → Memory.wf m = true) :
    s0.Keeps l { s with fls := { s.fls with writes := writes, data := m, hdrs := hdrs, health := health } } :=
  h.setFls g _ ok id

theorem State.Keeps.goes_unitProgramComplete (g : [Group.fls] ⊆ l) (seq) (pua) : s0.Goes l (execUnitProgramComplete seq pua s) := by
  unfold execUnitProgramComplete
  split
  · exact h
  · extract_lets k s1 _ _ s2 _ _ s3 s4
    have k1 : s0.Keeps l s1 := (h.throttleStep (groups_sub g rfl) _ _).openSuper (groups_sub g rfl) _
    clear_value s1
    have k2 : s0.Keeps l s2 := k1.setFlsData (g (by simp)) _ _ _ _ fun ok => Memory.wf_memCopy _ _ _ _ _ ok
    clear_value s2
    have k3 : s0.Keeps l s3 := by grind only [State.Keeps.copiedTo, State.Keeps.journal, List.cons_subset, List.nil_subset]
    have k4 : s0.Keeps l s4 := k3.parityStep (groups_sub g rfl) _
    clear_value s3 s4
    split
    · exact h
    · refine State.Keeps.next ?_
      split
      · exact k4.modBlock (groups_sub g rfl) _ _
      · exact k4

theorem State.Keeps.goes_programFailure (g : [Group.bar, .fls, .cmd, .blt, .host, .out] ⊆ l) (seq) (pua) (dieLost) : s0.Goes l (execProgramFailure seq pua dieLost s) := by
  unfold execProgramFailure
  split
  · exact h
  · extract_lets k c die s1 _ s2 due s3 _ s4
    have k1 : s0.Keeps l s1 :=
      ((h.count (groups_sub g rfl) _ _).note (groups_sub g rfl) _ _ _).blockTo (groups_sub g rfl) _ _
    have k2 : s0.Keeps l s2 := k1.setFls (g (by simp)) _ id id
    have k3 : s0.Keeps l s3 := (k2.copyOut (groups_sub g rfl) _).foldl _ _ fun t r kt => kt.beginCopy (groups_sub g rfl) _ _
    have k4 : s0.Keeps l s4 := by grind only [State.Keeps.setFls, State.Keeps.post, List.cons_subset, List.nil_subset]
    exact k4.checkSpare (groups_sub g rfl)

theorem State.Keeps.decoded (g : [Group.bar, .fls] ⊆ l) (pua) (bits_) (end_) : s0.Keeps l (s.decoded pua bits_ end_) := by
  unfold State.decoded
  grind only [State.Keeps.count, State.Keeps.modBlock, State.Keeps.setFls, Memory.wf_memWrite, Memory.wf_memZero, Memory.wf_memCopy, List.cons_subset, List.nil_subset]

theorem State.Keeps.unreadable (g : [Group.bar, .fls, .blt] ⊆ l) (pua) : s0.Keeps l (s.unreadable pua) := by
  unfold State.unreadable
  grind only [State.Keeps.post, State.Keeps.count, State.Keeps.setFls, Memory.wf_memWrite, Memory.wf_memZero, Memory.wf_memCopy, List.cons_subset, List.nil_subset]

theorem State.Keeps.goes_blockVerify (g : [Group.fls] ⊆ l) (block) (worst) (bad) : s0.Goes l (execBlockVerify block worst bad s) := by
  unfold execBlockVerify
  grind only [State.goes_next, State.Keeps.modBlock, State.Keeps.blockTo, State.Keeps.copyOut, State.Keeps.setFls, Memory.wf_memWrite, Memory.wf_memZero, Memory.wf_memCopy, List.cons_subset, List.nil_subset]

theorem State.Keeps.collect (g : [Group.fls] ⊆ l) (victim) : s0.Keeps l (s.collect victim) := by
  unfold State.collect
  grind only [State.Keeps.copyOut, State.Keeps.blockTo, State.Keeps.foldl, List.cons_subset, List.nil_subset]

theorem State.Keeps.goes_gcStart (g : [Group.fls] ⊆ l) (group) (victim) : s0.Goes l (execGcStart group victim s) := by
  unfold execGcStart
  grind only [State.goes_next, State.Keeps.collect, List.cons_subset, List.nil_subset]

theorem State.Keeps.goes_sourceErase (g : [Group.fls] ⊆ l) (block) : s0.Goes l (execSourceErase block s) := by
  unfold execSourceErase
  grind only [State.goes_next, State.Keeps.modBlock, List.cons_subset, List.nil_subset]

theorem State.Keeps.clearBlock (g : [Group.fls] ⊆ l) (block) : s0.Keeps l (s.clearBlock block) := by
  unfold State.clearBlock
  grind only [State.Keeps.setFls, Memory.wf_memWrite, Memory.wf_memZero, Memory.wf_memCopy, List.cons_subset, List.nil_subset]

theorem State.Keeps.goes_eraseComplete (g : [Group.bar, .fls, .cmd, .blt, .host, .out] ⊆ l) (block) (ok) : s0.Goes l (execEraseComplete block ok s) := by
  unfold execEraseComplete
  grind only [State.goes_next, State.Keeps.clearBlock, State.Keeps.blockTo, State.Keeps.modBlock, State.Keeps.count, State.Keeps.checkSpare, State.Keeps.setFls, Memory.wf_memWrite, Memory.wf_memZero, Memory.wf_memCopy, List.cons_subset, List.nil_subset]

theorem State.Keeps.nandTemp (g : [Group.bar, .fls, .blt] ⊆ l) (c) (x0) : s0.Keeps l (s.nandTemp c x0) := by
  unfold State.nandTemp
  grind only [State.Keeps.note, State.Keeps.setFls, Memory.wf_memWrite, Memory.wf_memZero, Memory.wf_memCopy, List.cons_subset, List.nil_subset]

theorem State.Keeps.goes_nandTempRead (g : [Group.bar, .fls, .blt] ⊆ l) (temps) : s0.Goes l (execNandTempRead temps s) := by
  unfold execNandTempRead
  grind only [State.goes_next, State.Keeps.nandTemp, State.Keeps.foldl, List.cons_subset, List.nil_subset]

theorem State.Keeps.flsPopulate (g : [Group.bar, .fls, .blt] ⊆ l) : s0.Keeps l (s.flsPopulate) := by
  unfold State.flsPopulate
  grind only [State.Keeps.note, State.Keeps.setFls, Memory.wf_memWrite, Memory.wf_memZero, Memory.wf_memCopy, State.Keeps.foldl, List.cons_subset, List.nil_subset]

theorem State.Keeps.flsEnable (g : [Group.bar, .memory, .fls, .blt] ⊆ l) : s0.Keeps l (s.flsEnable) := by
  unfold State.flsEnable
  extract_lets s1 units
  have k1 : s0.Keeps l s1 := h.flsPopulate (groups_sub g rfl)
  clear_value s1 units
  split
  · exact k1
  · split
    · exact (k1.setFld (groups_sub g rfl) _ _ _ _).note (groups_sub g rfl) _ _ _
    · next e =>
      have k2 := k1.carve (groups_sub g rfl) _ _ e
      split
      · exact k2.setFls (g (by simp)) _ id id
      · exact k2.setFls (g (by simp)) _ id id

theorem State.Keeps.formatNow (g : [Group.bar, .memory, .fls, .cmd, .host, .out] ⊆ l) (r) (op) : s0.Keeps l (s.formatNow r op) := by
  unfold State.formatNow
  extract_lets f s1 units s2 kept spare
  have k1 : s0.Keeps l s1 := h.uncarve (groups_sub g rfl) _
  have k2 : s0.Keeps l s2 := by grind only [State.Keeps.carve, List.cons_subset, List.nil_subset]
  exact (k2.setFls (g (by simp)) _ (fun _ => Memory.wf_nil) fun _ => Memory.wf_nil).answer (groups_sub g rfl) _ _ _ _

theorem State.Keeps.flsHold (g : [Group.fls] ⊆ l) (forever) : s0.Keeps l (s.flsHold forever) := by
  unfold State.flsHold
  grind only [State.Keeps.setFls, Memory.wf_memWrite, Memory.wf_memZero, Memory.wf_memCopy, List.cons_subset, List.nil_subset]

theorem State.Keeps.flsRelease (g : [Group.bar, .memory, .fls, .cmd, .host, .out] ⊆ l) : s0.Keeps l (s.flsRelease) := by
  unfold State.flsRelease
  grind only [State.Keeps.formatNow, State.Keeps.setFls, Memory.wf_memWrite, Memory.wf_memZero, Memory.wf_memCopy, List.cons_subset, List.nil_subset]

theorem State.Keeps.goes_ftlRecoveryComplete (g : [Group.bar, .fls] ⊆ l) (bad) : s0.Goes l (execFtlRecoveryComplete bad s) := by
  unfold execFtlRecoveryComplete
  split
  · exact h
  · extract_lets orphans rebuilt u0 _ _ s1 f gone f'
    have k0 : s0.Keeps l u0 := (h.count (groups_sub g rfl) _ _).count (groups_sub g rfl) _ _
    have k1 : s0.Keeps l s1 := k0.setFls (g (by simp)) _ id id
    have same : f'.data = s1.fls.data ∧ f'.staged = s1.fls.staged := by
      have all := Fls.foldl_data gone (fun x q => { (q.2.ranges.foldl (fun y r => y.unmap r.1 r.2 y.lastDurable) x) with extents := adel x.extents q.1 })
        (fun x q => Fls.foldl_data _ _ (fun _ _ => Fls.unmap_data _ _ _ _) _) f
      exact ⟨all.1.trans (Fls.replay_data _).1, all.2.trans (Fls.replay_data _).2⟩
    exact k1.setFls (g (by simp)) _ (fun ok => same.1 ▸ ok) fun ok => same.2 ▸ ok

theorem State.Keeps.goes_flashFormat (g : [Group.bar, .stk, .memory, .fls, .cmd, .host, .out] ⊆ l) (hd) (op) (rsv) : s0.Goes l (execFlashFormat hd op rsv s) := by
  unfold execFlashFormat State.serveFlash
  refine State.Keeps.serve h (groups_sub g rfl) _ _ _ _ fun r t k => ?_
  grind only [State.serveFlash, State.Keeps.done, State.Keeps.accepted, State.Keeps.formatNow, State.Keeps.setFls, Memory.wf_memWrite, Memory.wf_memZero, Memory.wf_memCopy, List.cons_subset, List.nil_subset]

theorem State.Keeps.newExtent (g : [Group.fls] ⊆ l) (id) (persistent) (owner) (n) {t} (e : s.newExtent id persistent owner n = some t) : s0.Keeps l t := by
  unfold State.newExtent at e
  grind only [State.Keeps.journal, State.Keeps.setFls, Memory.wf_memWrite, Memory.wf_memZero, Memory.wf_memCopy, List.cons_subset, List.nil_subset]

theorem State.Keeps.goes_flashExtentCreate (g : [Group.bar, .stk, .fls, .cmd, .host, .out] ⊆ l) (hd) (ext) (kind) (owner) (units) : s0.Goes l (execFlashExtentCreate hd ext kind owner units s) := by
  unfold execFlashExtentCreate State.serveFlash
  refine State.Keeps.serve h (groups_sub g rfl) _ _ _ _ fun r t k => ?_
  grind only [State.serveFlash, State.Keeps.done, State.Keeps.newExtent, List.cons_subset, List.nil_subset]

theorem State.Keeps.goes_flashExtentDelete (g : [Group.bar, .stk, .fls, .cmd, .host, .out] ⊆ l) (hd) (ext) (rsv) : s0.Goes l (execFlashExtentDelete hd ext rsv s) := by
  unfold execFlashExtentDelete State.serveFlash
  refine State.Keeps.serve h (groups_sub g rfl) _ _ _ _ fun r t k => ?_
  grind only [State.serveFlash, State.Keeps.done, State.Keeps.accepted, State.Keeps.tryDelete, State.Keeps.setFls, Memory.wf_memWrite, Memory.wf_memZero, Memory.wf_memCopy, List.cons_subset, List.nil_subset]

theorem State.Keeps.readAddr (g : [Group.memory, .freeCtr] ⊆ l) (o) (addr) (n) : s0.Keeps l (s.readAddr o addr n).1 := by
  unfold State.readAddr
  grind only [State.Keeps.readVa, List.cons_subset, List.nil_subset]

theorem State.Keeps.beginUnits (g : [Group.memory, .fls, .freeCtr] ⊆ l) (o) (req) (ext) (addr) (ranges) (offset) (n) (n') : s0.Keeps l (s.beginUnits o req ext addr ranges offset n n') := by
  induction n generalizing s o req ext addr ranges offset n' with
  | zero => unfold State.beginUnits; grind only [State.Keeps.beginWrite, State.Keeps.readAddr, List.cons_subset, List.nil_subset]
  | succ n ih => unfold State.beginUnits; grind only [State.Keeps.beginWrite, State.Keeps.readAddr, List.cons_subset, List.nil_subset]

theorem State.Keeps.goes_flashWrite (g : [Group.bar, .stk, .memory, .fls, .cmd, .host, .out, .freeCtr] ⊆ l) (hd) (ext) (offset) (count) (addr) (rsv) : s0.Goes l (execFlashWrite hd ext offset count addr rsv s) := by
  unfold execFlashWrite State.serveFlash
  refine State.Keeps.serve h (groups_sub g rfl) _ _ _ _ fun r t k => ?_
  dsimp only
  (repeat' split) <;> apply_rules [State.Keeps.next, State.Keeps.done, State.Keeps.answer, State.Keeps.accepted, State.Keeps.beginUnits] <;> grind only [State.goes_next, State.Keeps.done, State.Keeps.answer, State.Keeps.accepted, State.Keeps.beginUnits, State.Keeps.setFls, Memory.wf_memWrite, Memory.wf_memZero, Memory.wf_memCopy, List.cons_subset, List.nil_subset]

theorem State.Keeps.readUnits (g : [Group.memory, .host, .out, .freeCtr] ⊆ l) (o) (addr) (ranges) (offset) (bad) (n) (n') : s0.Keeps l (s.readUnits o addr ranges offset bad n n') := by
  induction n generalizing s n' with
  | zero => exact h
  | succ n ih =>
    unfold State.readUnits
    split
    · exact h
    · extract_lets s1
      refine ih (s := s1) ?_ _
      grind only [State.Keeps.writeAddr, State.Keeps.setFreeCtr, List.cons_subset, List.nil_subset]

theorem State.Keeps.goes_flashRead (g : [Group.bar, .stk, .memory, .cmd, .host, .out, .freeCtr] ⊆ l) (hd) (ext) (offset) (count) (addr) (unreadable) (rsv) : s0.Goes l (execFlashRead hd ext offset count addr unreadable rsv s) := by
  unfold execFlashRead State.serveFlash
  refine State.Keeps.serve h (groups_sub g rfl) _ _ _ _ fun r t k => ?_
  dsimp only
  (repeat' split) <;> apply_rules [State.Keeps.next, State.Keeps.done, State.Keeps.accepted, State.Keeps.readUnits, State.Keeps.answer] <;> grind only [State.goes_next, State.Keeps.done, State.Keeps.accepted, State.Keeps.readUnits, State.Keeps.answer, List.cons_subset, List.nil_subset]

theorem State.Keeps.unmapRange (g : [Group.fls] ⊆ l) (ext) (xs) (n) (n') : s0.Keeps l (s.unmapRange ext xs n n') := by
  induction xs generalizing s ext n n' with
  | nil => unfold State.unmapRange; grind only [State.Keeps.journal, List.cons_subset, List.nil_subset]
  | cons x xs ih => unfold State.unmapRange; grind only [State.Keeps.journal, List.cons_subset, List.nil_subset]

theorem State.Keeps.goes_flashDiscard (g : [Group.bar, .stk, .fls, .cmd, .host, .out] ⊆ l) (hd) (ext) (offset) (count) (rsv) : s0.Goes l (execFlashDiscard hd ext offset count rsv s) := by
  unfold execFlashDiscard State.serveFlash
  refine State.Keeps.serve h (groups_sub g rfl) _ _ _ _ fun r t k => ?_
  grind only [State.serveFlash, State.Keeps.done, State.Keeps.unmapRange, List.cons_subset, List.nil_subset]

theorem State.Keeps.goes_flashHealth (g : [Group.bar, .stk, .memory, .cmd, .host, .out] ⊆ l) (hd) (outAddr) : s0.Goes l (execFlashHealth hd outAddr s) := by
  unfold execFlashHealth State.serveFlash
  refine State.Keeps.serve h (groups_sub g rfl) _ _ _ _ fun r t k => ?_
  grind only [State.serveFlash, State.Keeps.done, State.Keeps.writeAddr, List.cons_subset, List.nil_subset]

theorem State.Keeps.modPort (g : [Group.lnk] ⊆ l) (p) (f) : s0.Keeps l (s.modPort p f) := by
  unfold State.modPort
  grind only [State.Keeps.setLnk, = List.length_modify, = List.length_map, List.cons_subset, List.nil_subset]

theorem State.Keeps.takeGates (g : [Group.shp] ⊆ l) : s0.Keeps l (s.takeGates) := by
  unfold State.takeGates
  grind only [State.Keeps.setShp, List.cons_subset, List.nil_subset]

theorem State.Keeps.meter0 (g : [Group.bar, .lnk] ⊆ l) (p) (n) : s0.Keeps l (s.meter0 p n) := by
  unfold State.meter0
  grind only [State.Keeps.modPort, State.Keeps.count, State.Keeps.setReg, List.cons_subset, List.nil_subset]

theorem State.Keeps.enqueue (g : [Group.bar, .lnk] ⊆ l) (p) (q) : s0.Keeps l (s.enqueue p q) := by
  unfold State.enqueue
  grind only [State.Keeps.meter0, State.Keeps.modPort, List.cons_subset, List.nil_subset]

theorem State.Keeps.owe (g : [Group.lnk] ⊆ l) (from_) (c) (n) : s0.Keeps l (s.owe from_ c n) := by
  unfold State.owe
  grind only [State.Keeps.modPort, List.cons_subset, List.nil_subset]

theorem State.Keeps.choosePath (g : [Group.freeCtr] ⊆ l) (cls) (dst) : s0.Keeps l (s.choosePath cls dst).1 := by
  unfold State.choosePath
  grind only [State.Keeps.free, List.cons_subset, List.nil_subset]

theorem State.Keeps.setPath (g : [Group.bar] ⊆ l) (p) (via) : s0.Keeps l (s.setPath p via).1 := by
  unfold State.setPath
  grind only [State.Keeps.count, List.cons_subset, List.nil_subset]

theorem State.Keeps.unreachable (g : [Group.bar, .lnk] ⊆ l) (from_) (p) : s0.Keeps l (s.unreachable from_ p) := by
  unfold State.unreachable
  grind only [State.Keeps.owe, State.Keeps.count, List.cons_subset, List.nil_subset]

theorem State.Keeps.routeOn (g : [Group.bar, .lnk] ⊆ l) (from_) (pkt) : s0.Keeps l (s.routeOn from_ pkt) := by
  unfold State.routeOn
  grind only [State.Keeps.owe, State.Keeps.unreachable, State.Keeps.enqueue, State.Keeps.setLnk, = List.length_modify, = List.length_map, List.cons_subset, List.nil_subset]

theorem State.Keeps.charge (g : [Group.shp] ⊆ l) (p) (c) (flits) : s0.Keeps l (s.charge p c flits) := by
  unfold State.charge
  grind only [State.Keeps.setShp, List.cons_subset, List.nil_subset]

theorem State.Keeps.inject (g : [Group.bar, .lnk, .shp] ⊆ l) (device) (pkt) : s0.Keeps l (s.inject device pkt) := by
  unfold State.inject
  grind only [State.Keeps.routeOn, State.Keeps.charge, State.Keeps.count, State.Keeps.setShp, List.cons_subset, List.nil_subset]

theorem State.Keeps.goes_policerLevelCovers (g : [Group.bar, .stk, .lnk, .shp] ⊆ l) (part) (cls) (now) : s0.Goes l (execPolicerLevelCovers part cls now s) := by
  unfold execPolicerLevelCovers
  dsimp only
  (repeat' split) <;> apply_rules [State.Keeps.next, State.Keeps.at_, State.Keeps.charge, State.Keeps.routeOn] <;> grind only [State.goes_next, State.Keeps.at_, State.Keeps.charge, State.Keeps.routeOn, State.Keeps.setShp, List.cons_subset, List.nil_subset]

theorem State.Keeps.countWaits (g : [Group.bar, .lnk] ⊆ l) (p) (x0) : s0.Keeps l (s.countWaits p x0) := by
  unfold State.countWaits
  grind only [State.Keeps.count, State.Keeps.modPort, State.Keeps.foldl, List.cons_subset, List.nil_subset]

theorem State.Keeps.headLeaves (g : [Group.bar] ⊆ l) (p) (c) (q) (x0) (flit) : s0.Keeps l (s.headLeaves p c q x0 flit).1 := by
  unfold State.headLeaves
  grind only [State.Keeps.count, List.cons_subset, List.nil_subset]

theorem State.Keeps.sendFlit (g : [Group.bar, .lnk, .out] ⊆ l) (p) (c) (x0) : s0.Keeps l (s.sendFlit p c x0) := by
  unfold State.sendFlit
  grind only [State.Keeps.headLeaves, State.Keeps.emit, State.Keeps.owe, State.Keeps.modPort, List.cons_subset, List.nil_subset]

theorem State.Keeps.sendCtrl (g : [Group.lnk, .out] ⊆ l) (p) (nak) : s0.Keeps l (s.sendCtrl p nak) := by
  unfold State.sendCtrl
  grind only [State.Keeps.emit, State.Keeps.modPort, List.cons_subset, List.nil_subset]

theorem State.Keeps.sendReplay (g : [Group.lnk, .out] ⊆ l) (p) (q) : s0.Keeps l (s.sendReplay p q) := by
  unfold State.sendReplay
  grind only [State.Keeps.modPort, State.Keeps.emit, List.cons_subset, List.nil_subset]

theorem State.Keeps.sendFrame (g : [Group.bar, .lnk, .out] ⊆ l) (c) (x0) : s0.Keeps l (s.sendFrame c x0) := by
  unfold State.sendFrame
  dsimp only
  (repeat' split) <;> apply_rules [State.Keeps.unreachable, State.Keeps.modPort, State.Keeps.headLeaves, State.Keeps.emit, State.Keeps.owe] <;> grind only [State.Keeps.unreachable, State.Keeps.modPort, State.Keeps.headLeaves, State.Keeps.emit, State.Keeps.owe, List.cons_subset, List.nil_subset]

theorem State.Keeps.goes_flitBoundary (g : [Group.bar, .stk, .lnk, .out] ⊆ l) (port) (now) : s0.Goes l (execFlitBoundary port now s) := by
  unfold execFlitBoundary
  grind only [State.goes_next, State.Keeps.at_, State.Keeps.countWaits, State.Keeps.sendFrame, State.Keeps.sendCtrl, State.Keeps.sendReplay, State.Keeps.sendFlit, List.cons_subset, List.nil_subset]

end
end Sys2Proof.Machine
end

section
/-!
PROOFS. What the operations keep: links, shaping and ports.
-/
namespace Sys2Proof.Machine
section
variable {s0 s : State} {l : List Group} (h : s0.Keeps l s)
include h
theorem State.Keeps.gateSwap (g : [Group.shp] ⊆ l) : s0.Keeps l (s.gateSwap).1 := by
  unfold State.gateSwap
  grind only [State.Keeps.setShp, List.cons_subset, List.nil_subset]

theorem State.Keeps.goes_gateBankActivate (g : [Group.stk, .shp] ⊆ l) (now) : s0.Goes l (execGateBankActivate now s) := by
  unfold execGateBankActivate
  grind only [State.goes_next, State.Keeps.at_, State.Keeps.setShp, List.cons_subset, List.nil_subset]

theorem State.Keeps.goes_gateEntryChange (g : [Group.stk, .shp] ⊆ l) (now) : s0.Goes l (execGateEntryChange now s) := by
  unfold execGateEntryChange
  grind only [State.goes_next, State.Keeps.at_, State.Keeps.setShp, List.cons_subset, List.nil_subset]

theorem State.Keeps.histQueue (g : [Group.bar] ⊆ l) (q) (c) : s0.Keeps l (s.histQueue q c) := by
  unfold State.histQueue
  grind only [State.Keeps.count, List.cons_subset, List.nil_subset]

theorem State.Keeps.histClear (g : [Group.bar, .shp] ⊆ l) : s0.Keeps l (s.histClear) := by
  unfold State.histClear
  grind only [State.Keeps.setBar, State.Keeps.setShp, State.Keeps.mk, List.cons_subset, List.nil_subset]

theorem State.Keeps.goes_histSample (g : [Group.bar, .stk, .shp] ⊆ l) (now) : s0.Goes l (execHistSample now s) := by
  unfold execHistSample
  grind only [State.goes_next, State.Keeps.at_, State.Keeps.histClear, State.Keeps.histQueue, State.Keeps.foldl, List.cons_subset, List.nil_subset]

theorem State.Keeps.runCheck (g : [Group.sec] ⊆ l) : s0.Keeps l (s.runCheck) := by
  unfold State.runCheck
  grind only [State.Keeps.setSec, List.cons_subset, List.nil_subset]

theorem State.Keeps.sendLinkState (g : [Group.lnk, .out] ⊆ l) (ports) : s0.Keeps l (s.sendLinkState ports) := by
  unfold State.sendLinkState
  grind only [State.Keeps.emit, State.Keeps.setLnk, = List.length_modify, = List.length_map, State.Keeps.foldl, List.cons_subset, List.nil_subset]

theorem State.Keeps.goes_linkStateSend (g : [Group.stk, .lnk, .out] ⊆ l) (now) : s0.Goes l (execLinkStateSend now s) := by
  unfold execLinkStateSend
  grind only [State.goes_next, State.Keeps.at_, State.Keeps.sendLinkState, List.cons_subset, List.nil_subset]

theorem State.Keeps.goes_linkStateStale (g : [Group.lnk] ⊆ l) (mem) : s0.Goes l (execLinkStateStale mem s) := by
  unfold execLinkStateStale
  grind only [State.goes_next, State.Keeps.setLnk, = List.length_modify, = List.length_map, List.cons_subset, List.nil_subset]

theorem State.Keeps.goes_probePacket (g : [Group.out] ⊆ l) (src) (dst) : s0.Goes l (execProbePacket src dst s) := by
  unfold execProbePacket
  grind only [State.goes_next, State.Keeps.emit, List.cons_subset, List.nil_subset]

theorem State.Keeps.goes_probePacketAns (g : [Group.lnk, .out] ⊆ l) (src) (dst) : s0.Goes l (execProbePacketAns src dst s) := by
  unfold execProbePacketAns
  grind only [State.goes_next, State.Keeps.emit, State.Keeps.setLnk, = List.length_modify, = List.length_map, List.cons_subset, List.nil_subset]

theorem State.Keeps.startProbe (g : [Group.lnk, .out] ⊆ l) (p) : s0.Keeps l (s.startProbe p) := by
  unfold State.startProbe
  grind only [State.Keeps.emit, State.Keeps.setLnk, = List.length_modify, = List.length_map, List.cons_subset, List.nil_subset]

theorem State.Keeps.requeue (g : [Group.bar, .lnk] ⊆ l) (p) (keep) : s0.Keeps l (s.requeue p keep) := by
  unfold State.requeue
  grind only [State.Keeps.modPort, State.Keeps.owe, State.Keeps.routeOn, State.Keeps.foldl, List.cons_subset, List.nil_subset]

theorem State.Keeps.portDown (g : [Group.bar, .lnk, .out] ⊆ l) (p) : s0.Keeps l (s.portDown p) := by
  unfold State.portDown
  grind only [State.Keeps.count, State.Keeps.modPort, State.Keeps.startProbe, State.Keeps.requeue, List.cons_subset, List.nil_subset]

theorem State.Keeps.bond (g : [Group.lnk] ⊆ l) (p) (on) : s0.Keeps l (s.bond p on) := by
  unfold State.bond
  grind only [State.Keeps.modPort, List.cons_subset, List.nil_subset]

theorem State.Keeps.portNote (g : [Group.bar, .blt] ⊆ l) (p) : s0.Keeps l (s.portNote p) := by
  unfold State.portNote
  grind only [State.Keeps.note, List.cons_subset, List.nil_subset]

theorem State.Keeps.tryTrain (g : [Group.bar, .lnk, .blt] ⊆ l) (p) : s0.Keeps l (s.tryTrain p) := by
  unfold State.tryTrain
  grind only [State.Keeps.portNote, State.Keeps.bond, State.Keeps.modPort, List.cons_subset, List.nil_subset]

theorem State.Keeps.enablePort (g : [Group.bar, .lnk, .blt] ⊆ l) (p) : s0.Keeps l (s.enablePort p) := by
  unfold State.enablePort
  grind only [State.Keeps.setFld, State.Keeps.tryTrain, State.Keeps.modPort, List.cons_subset, List.nil_subset]

theorem State.Keeps.disablePort (g : [Group.bar, .lnk] ⊆ l) (p) : s0.Keeps l (s.disablePort p) := by
  unfold State.disablePort
  grind only [State.Keeps.setFld, State.Keeps.requeue, State.Keeps.modPort, List.cons_subset, List.nil_subset]

theorem State.Keeps.drained (g : [Group.bar, .lnk, .blt] ⊆ l) (p) : s0.Keeps l (s.drained p) := by
  unfold State.drained
  grind only [State.Keeps.bond, State.Keeps.modPort, State.Keeps.tryTrain, List.cons_subset, List.nil_subset]

theorem State.Keeps.goes_portDrainComplete (g : [Group.bar, .lnk, .blt] ⊆ l) (port) : s0.Goes l (execPortDrainComplete port s) := by
  unfold execPortDrainComplete
  grind only [State.goes_next, State.Keeps.drained, List.cons_subset, List.nil_subset]

theorem State.Keeps.goes_portDrainTimeout (g : [Group.bar, .lnk, .blt] ⊆ l) (port) : s0.Goes l (execPortDrainTimeout port s) := by
  unfold execPortDrainTimeout
  grind only [State.goes_next, State.Keeps.drained, State.Keeps.requeue, List.cons_subset, List.nil_subset]

theorem State.Keeps.goes_portTrained (g : [Group.bar, .stk, .lnk, .blt, .sec, .out] ⊆ l) (port) (fact) (now) : s0.Goes l (execPortTrained port fact now s) := by
  unfold execPortTrained
  grind only [State.goes_next, State.Keeps.at_, State.Keeps.modPort, State.Keeps.runCheck, State.Keeps.sendLinkState, State.Keeps.portNote, List.cons_subset, List.nil_subset]

theorem State.Keeps.goes_portTrainingTimeout (g : [Group.bar, .lnk, .blt] ⊆ l) (port) : s0.Goes l (execPortTrainingTimeout port s) := by
  unfold execPortTrainingTimeout
  grind only [State.goes_next, State.Keeps.portNote, State.Keeps.modPort, List.cons_subset, List.nil_subset]

theorem State.Keeps.goes_portRetrain (g : [Group.lnk] ⊆ l) (port) : s0.Goes l (execPortRetrain port s) := by
  unfold execPortRetrain
  grind only [State.goes_next, State.Keeps.modPort, List.cons_subset, List.nil_subset]

theorem State.Keeps.goes_laneLoss (g : [Group.bar, .stk, .lnk, .out] ⊆ l) (port) (working) (now) : s0.Goes l (execLaneLoss port working now s) := by
  unfold execLaneLoss
  grind only [State.goes_next, State.Keeps.at_, State.Keeps.modPort, State.Keeps.portDown, List.cons_subset, List.nil_subset]

theorem State.Keeps.goes_ctrlFlitTimeout (g : [Group.bar, .stk, .lnk, .out] ⊆ l) (port) (now) : s0.Goes l (execCtrlFlitTimeout port now s) := by
  unfold execCtrlFlitTimeout
  grind only [State.goes_next, State.Keeps.at_, State.Keeps.portDown, List.cons_subset, List.nil_subset]

theorem State.Keeps.goes_portControl (g : [Group.bar, .stk, .lnk, .cmd, .blt, .host, .out] ⊆ l) (hd) (port) (action) (rsv) : s0.Goes l (execPortControl hd port action rsv s) := by
  unfold execPortControl
  refine State.Keeps.serve h (groups_sub g rfl) _ _ _ _ fun r t k => ?_
  grind only [State.Keeps.serve, State.Keeps.done, State.Keeps.disablePort, State.Keeps.enablePort, List.cons_subset, List.nil_subset]

theorem State.Keeps.goes_dataFlitReceive (g : [Group.bar, .lnk, .out] ⊆ l) (port) (seq) (hdr) (fecOk) : s0.Goes l (execDataFlitReceive port seq hdr fecOk s) := by
  unfold execDataFlitReceive
  grind only [State.goes_next, State.Keeps.count, State.Keeps.modPort, State.Keeps.sendCtrl, List.cons_subset, List.nil_subset]

theorem State.Keeps.goes_ctrlFlitReceive (g : [Group.bar, .stk, .lnk, .out] ⊆ l) (port) (hdr) (body) (now) : s0.Goes l (execCtrlFlitReceive port hdr body now s) := by
  unfold execCtrlFlitReceive
  grind only [State.goes_next, State.Keeps.at_, State.Keeps.count, State.Keeps.modPort, State.Keeps.portDown, List.cons_subset, List.nil_subset]

theorem State.Keeps.sendRecord (g : [Group.bar, .lnk] ⊆ l) (c) : s0.Keeps l (s.sendRecord c) := by
  unfold State.sendRecord
  grind only [State.Keeps.routeOn, List.cons_subset, List.nil_subset]

theorem State.Keeps.sendComplete (g : [Group.bar, .lnk] ⊆ l) (c) : s0.Keeps l (s.sendComplete c) := by
  unfold State.sendComplete
  grind only [State.Keeps.routeOn, List.cons_subset, List.nil_subset]

theorem State.Keeps.combine (g : [Group.bar, .lnk] ⊆ l) (p) (x0) (aop) (opnd) : s0.Keeps l (s.combine p x0 aop opnd) := by
  unfold State.combine
  grind only [State.Keeps.sendRecord, State.Keeps.setLnk, = List.length_modify, = List.length_map, List.cons_subset, List.nil_subset]

theorem State.Keeps.combineComplete (g : [Group.bar, .lnk] ⊆ l) (p) (id) (slot) : s0.Keeps l (s.combineComplete p id slot) := by
  unfold State.combineComplete
  grind only [State.Keeps.sendComplete, State.Keeps.setLnk, = List.length_modify, = List.length_map, List.cons_subset, List.nil_subset]

theorem State.Keeps.goes_combineHoldExpiry (g : [Group.bar, .stk, .lnk] ⊆ l) (index) (complete) (now) : s0.Goes l (execCombineHoldExpiry index complete now s) := by
  unfold execCombineHoldExpiry
  grind only [State.goes_next, State.Keeps.at_, State.Keeps.sendComplete, State.Keeps.sendRecord, State.Keeps.setLnk, = List.length_modify, = List.length_map, List.cons_subset, List.nil_subset]

theorem State.Keeps.goes_packetRoute (g : [Group.bar, .stk, .lnk, .blt, .freeCtr] ⊆ l) (port) (pkt) (now) : s0.Goes l (execPacketRoute port pkt now s) := by
  unfold execPacketRoute
  dsimp only
  (repeat' split) <;> apply_rules [State.Keeps.next, State.Keeps.at_, State.Keeps.owe, State.Keeps.note, State.Keeps.count, State.Keeps.choosePath, State.Keeps.combine, State.Keeps.combineComplete, State.Keeps.routeOn] <;> grind only [State.goes_next, State.Keeps.at_, State.Keeps.owe, State.Keeps.note, State.Keeps.count, State.Keeps.choosePath, State.Keeps.combine, State.Keeps.combineComplete, State.Keeps.routeOn, State.Keeps.setPath, List.cons_subset, List.nil_subset]

theorem State.Keeps.goes_gatewayFrameReceive (g : [Group.bar, .stk, .lnk] ⊆ l) (f) (now) : s0.Goes l (execGatewayFrameReceive f now s) := by
  unfold execGatewayFrameReceive
  grind only [State.goes_next, State.Keeps.at_, State.Keeps.routeOn, State.Keeps.count, State.Keeps.foldl, List.cons_subset, List.nil_subset]

theorem State.Keeps.modThread (g : [Group.cores] ⊆ l) (k) (f) : s0.Keeps l (s.modThread k f) := by
  unfold State.modThread
  grind only [State.Keeps.setCores, List.cons_subset, List.nil_subset]

theorem State.Keeps.trap (g : [Group.bar, .cores, .blt] ⊆ l) (core) (thread) (cause) (epc) (tval) : s0.Keeps l (s.trap core thread cause epc tval) := by
  unfold State.trap
  dsimp only
  (repeat' split) <;> apply_rules [State.Keeps.modThread, State.Keeps.post] <;> grind only [State.Keeps.modThread, State.Keeps.post, State.Keeps.setReg, State.Keeps.setFld, List.cons_subset, List.nil_subset]

theorem State.Keeps.cvWakeAll (g : [Group.cores] ⊆ l) (p) : s0.Keeps l (s.cvWakeAll p) := by
  unfold State.cvWakeAll
  grind only [State.Keeps.setCores, List.cons_subset, List.nil_subset]

theorem State.Keeps.cvSet (g : [Group.cores, .pln] ⊆ l) (p) (bit) : s0.Keeps l (s.cvSet p bit) := by
  unfold State.cvSet
  grind only [State.Keeps.cvWakeAll, State.Keeps.modPart, List.cons_subset, List.nil_subset]

theorem State.Keeps.modConn (g : [Group.xpt] ⊆ l) (k) (f) : s0.Keeps l (s.modConn k f) := by
  unfold State.modConn
  grind only [State.Keeps.setXpt, List.cons_subset, List.nil_subset]

theorem State.Keeps.freeConn (g : [Group.xpt] ⊆ l) (k) : s0.Keeps l (s.freeConn k) := by
  unfold State.freeConn
  grind only [State.Keeps.setXpt, List.cons_subset, List.nil_subset]

theorem State.Keeps.touchConn (g : [Group.bar, .xpt] ⊆ l) (e0) (k) (isNew) : s0.Keeps l (s.touchConn e0 k isNew) := by
  unfold State.touchConn
  grind only [State.Keeps.count, State.Keeps.setXpt, List.cons_subset, List.nil_subset]

theorem State.Keeps.takeConn (g : [Group.bar, .xpt] ⊆ l) (st) (device) (lpart) (dev) (ppart) (cls) {t y'} (e : s.takeConn st device lpart dev ppart cls = some (t, y')) : s0.Keeps l t := by
  unfold State.takeConn at e
  grind only [State.Keeps.touchConn, State.Keeps.setXpt, List.cons_subset, List.nil_subset]

theorem State.Keeps.launch (g : [Group.bar, .lnk, .xpt, .shp, .freeCtr] ⊆ l) (k) (p) : s0.Keeps l (s.launch k p) := by
  unfold State.launch
  grind only [State.Keeps.choosePath, State.Keeps.modConn, State.Keeps.setPath, State.Keeps.inject, State.Keeps.touchConn, List.cons_subset, List.nil_subset]

theorem State.Keeps.sendControl (g : [Group.bar, .lnk, .xpt, .shp, .freeCtr] ⊆ l) (k) (type) (tag) (len) (body) : s0.Keeps l (s.sendControl k type tag len body) := by
  unfold State.sendControl
  grind only [State.Keeps.launch, List.cons_subset, List.nil_subset]

theorem State.Keeps.sendNak (g : [Group.bar, .lnk, .xpt, .shp, .freeCtr] ⊆ l) (k) (kind) (st) (seq) (tag) : s0.Keeps l (s.sendNak k kind st seq tag) := by
  unfold State.sendNak
  grind only [State.Keeps.count, State.Keeps.sendControl, List.cons_subset, List.nil_subset]

theorem State.Keeps.sendNext (g : [Group.bar, .lnk, .xpt, .shp, .freeCtr] ⊆ l) (k) (c) (p) (rest) : s0.Keeps l (s.sendNext k c p rest) := by
  unfold State.sendNext
  grind only [State.Keeps.modConn, State.Keeps.launch, List.cons_subset, List.nil_subset]

theorem State.Keeps.drainQueue (g : [Group.bar, .lnk, .xpt, .shp, .freeCtr] ⊆ l) (k) (n) : s0.Keeps l (s.drainQueue k n) := by
  induction n generalizing s k with
  | zero => unfold State.drainQueue; grind only [State.Keeps.sendNext, List.cons_subset, List.nil_subset]
  | succ n ih => unfold State.drainQueue; grind only [State.Keeps.sendNext, List.cons_subset, List.nil_subset]

theorem State.Keeps.sendAll (g : [Group.bar, .lnk, .xpt, .shp, .freeCtr] ⊆ l) (k) (xs) : s0.Keeps l (s.sendAll k xs) := by
  unfold State.sendAll
  grind only [State.Keeps.modConn, State.Keeps.drainQueue, List.cons_subset, List.nil_subset]

theorem State.Keeps.modOp (g : [Group.xpt] ⊆ l) (tag) (f) : s0.Keeps l (s.modOp tag f) := by
  unfold State.modOp
  grind only [State.Keeps.setXpt, List.cons_subset, List.nil_subset]

theorem State.Keeps.issueOn (g : [Group.bar, .lnk, .xpt, .shp, .freeCtr] ⊆ l) (k) (tag) : s0.Keeps l (s.issueOn k tag) := by
  unfold State.issueOn
  grind only [State.Keeps.sendAll, State.Keeps.modConn, State.Keeps.setXpt, List.cons_subset, List.nil_subset]

theorem State.Keeps.issueWaiting (g : [Group.bar, .lnk, .xpt, .shp, .freeCtr] ⊆ l) (k) (n) : s0.Keeps l (s.issueWaiting k n) := by
  induction n generalizing s k with
  | zero => unfold State.issueWaiting; grind only [State.Keeps.modConn, State.Keeps.issueOn, List.cons_subset, List.nil_subset]
  | succ n ih => unfold State.issueWaiting; grind only [State.Keeps.modConn, State.Keeps.issueOn, List.cons_subset, List.nil_subset]

theorem State.Keeps.pump (g : [Group.bar, .lnk, .xpt, .shp, .freeCtr] ⊆ l) (k) : s0.Keeps l (s.pump k) := by
  unfold State.pump
  grind only [State.Keeps.issueWaiting, State.Keeps.drainQueue, List.cons_subset, List.nil_subset]

theorem State.Keeps.sendOpen (g : [Group.bar, .lnk, .xpt, .shp, .freeCtr] ⊆ l) (k) : s0.Keeps l (s.sendOpen k) := by
  unfold State.sendOpen
  grind only [State.Keeps.launch, State.Keeps.modConn, List.cons_subset, List.nil_subset]

theorem State.Keeps.connFor (g : [Group.bar, .lnk, .xpt, .shp, .freeCtr] ⊆ l) (device) (lpart) (dev) (ppart) (cls) {t y'} (e : s.connFor device lpart dev ppart cls = some (t, y')) : s0.Keeps l t := by
  unfold State.connFor at e
  grind only [State.Keeps.takeConn, State.Keeps.sendOpen, List.cons_subset, List.nil_subset]

theorem State.Keeps.submit (g : [Group.bar, .lnk, .xpt, .shp, .freeCtr] ⊆ l) (k) (tag) (o) : s0.Keeps l (s.submit k tag o) := by
  unfold State.submit
  grind only [State.Keeps.modConn, State.Keeps.pump, State.Keeps.setXpt, List.cons_subset, List.nil_subset]

theorem State.Keeps.dropOp (g : [Group.bar, .lnk, .xpt, .shp, .freeCtr] ⊆ l) (tag) (o) : s0.Keeps l (s.dropOp tag o) := by
  unfold State.dropOp
  grind only [State.Keeps.pump, State.Keeps.modConn, State.Keeps.setXpt, List.cons_subset, List.nil_subset]

theorem State.Keeps.accessEnds (g : [Group.bar, .cores, .blt] ⊆ l) (o) : s0.Keeps l (s.accessEnds o) := by
  unfold State.accessEnds
  grind only [State.Keeps.modThread, State.Keeps.trap, State.Keeps.setCores, List.cons_subset, List.nil_subset]

theorem State.Keeps.finishAccess (g : [Group.bar, .cores, .lnk, .xpt, .shp, .blt, .freeCtr] ⊆ l) (tag) (o) : s0.Keeps l (s.finishAccess tag o) := by
  unfold State.finishAccess
  grind only [State.Keeps.accessEnds, State.Keeps.dropOp, List.cons_subset, List.nil_subset]

theorem State.Keeps.opDone (g : [Group.bar, .cores, .lnk, .xpt, .shp, .blt, .freeCtr] ⊆ l) (tag) (st) (result) : s0.Keeps l (s.opDone tag st result) := by
  unfold State.opDone
  grind only [State.Keeps.finishAccess, State.Keeps.setXpt, List.cons_subset, List.nil_subset]

theorem State.Keeps.opAcked (g : [Group.bar, .cores, .lnk, .xpt, .shp, .blt, .freeCtr] ⊆ l) (tag) : s0.Keeps l (s.opAcked tag) := by
  unfold State.opAcked
  grind only [State.Keeps.opDone, State.Keeps.modOp, List.cons_subset, List.nil_subset]

theorem State.Keeps.releaseResults (g : [Group.xpt] ⊆ l) (k) (c) (una) : s0.Keeps l (s.releaseResults k c una) := by
  unfold State.releaseResults
  grind only [State.Keeps.setXpt, List.cons_subset, List.nil_subset]

theorem State.Keeps.takeAck (g : [Group.bar, .cores, .lnk, .xpt, .shp, .blt, .freeCtr] ⊆ l) (k) (ack) (bitmap) (echo) : s0.Keeps l (s.takeAck k ack bitmap echo) := by
  unfold State.takeAck
  grind only [State.Keeps.modConn, State.Keeps.pump, State.Keeps.opAcked, State.Keeps.foldl, List.cons_subset, List.nil_subset]

theorem State.Keeps.sendAck (g : [Group.bar, .lnk, .xpt, .shp, .freeCtr] ⊆ l) (k) : s0.Keeps l (s.sendAck k) := by
  unfold State.sendAck
  grind only [State.Keeps.sendControl, List.cons_subset, List.nil_subset]

theorem State.Keeps.arrive (g : [Group.bar, .lnk, .xpt, .shp, .freeCtr] ⊆ l) (k) (seq) : s0.Keeps l (s.arrive k seq) := by
  unfold State.arrive
  grind only [State.Keeps.modConn, State.Keeps.sendAck, List.cons_subset, List.nil_subset]

theorem State.Keeps.acceptPacket (g : [Group.bar, .stk, .lnk, .xpt] ⊆ l) (p) (now) (strict) : s0.Keeps l (s.acceptPacket p now strict).1 := by
  unfold State.acceptPacket
  extract_lets a _ s1
  have ka : s0.Keeps l a := h.at_ (groups_sub g rfl) _
  clear_value a
  have k1 : s0.Keeps l s1 := ka.setLnk (g (by simp)) _ id
  clear_value s1
  (repeat' split) <;> grind only [State.Keeps.count, State.Keeps.modConn, State.Keeps.touchConn, State.Keeps.releaseResults, List.cons_subset, List.nil_subset]

theorem State.Keeps.receive (g : [Group.bar, .stk, .cores, .lnk, .xpt, .shp, .blt, .freeCtr] ⊆ l) (p) (now) (strict) : s0.Keeps l (s.receive p now strict).1 := by
  have k1 := h.acceptPacket (groups_sub g rfl) p now strict
  unfold State.receive
  split
  · next e =>
    rw [e] at k1
    exact k1.takeAck (groups_sub g rfl) _ _ _ _
  · next e =>
    rw [e] at k1
    exact k1

theorem State.Keeps.failOp (g : [Group.bar, .cores, .lnk, .xpt, .shp, .blt, .freeCtr] ⊆ l) (c) (tag) (o) : s0.Keeps l (s.failOp c tag o) := by
  unfold State.failOp
  grind only [State.Keeps.opDone, State.Keeps.modOp, State.Keeps.count, List.cons_subset, List.nil_subset]

theorem State.Keeps.undefine (g : [Group.memory, .host, .out, .freeCtr] ⊆ l) (p) (va) (n) : s0.Keeps l (s.undefine p va n) := by
  unfold State.undefine
  grind only [State.Keeps.writeVa, State.Keeps.setFreeCtr, List.cons_subset, List.nil_subset]

theorem State.Keeps.undefineMsg (g : [Group.memory, .host, .out, .freeCtr] ⊆ l) (e0) : s0.Keeps l (s.undefineMsg e0) := by
  unfold State.undefineMsg
  grind only [State.Keeps.undefine, State.Keeps.foldl, List.cons_subset, List.nil_subset]

theorem State.Keeps.failConn (g : [Group.bar, .cores, .memory, .lnk, .xpt, .shp, .blt, .host, .out, .freeCtr] ⊆ l) (k) : s0.Keeps l (s.failConn k) := by
  unfold State.failConn
  split
  · exact h
  · split
    · exact h
    · extract_lets s1 sU s2 _ s3
      have k1 : s0.Keeps l s1 := by
        unfold s1
        split
        · exact h.sendControl (groups_sub g rfl) _ _ _ _ _
        · exact h
      clear_value s1
      have kU : s0.Keeps l sU := k1.foldl _ _ fun t e kt => kt.undefineMsg (groups_sub g rfl) _
      clear_value sU
      have k2 : s0.Keeps l s2 := kU.modConn (groups_sub g rfl) _ _
      clear_value s2
      have k3 : s0.Keeps l s3 := k2.setXpt (g (by simp)) _
      exact k3.foldl _ _ fun t q kt => kt.failOp (groups_sub g rfl) _ _ _

theorem State.Keeps.openFailed (g : [Group.bar, .cores, .lnk, .xpt, .shp, .blt, .freeCtr] ⊆ l) (k) (st) : s0.Keeps l (s.openFailed k st) := by
  unfold State.openFailed
  grind only [State.Keeps.freeConn, State.Keeps.opDone, State.Keeps.foldl, List.cons_subset, List.nil_subset]

theorem State.Keeps.closed (g : [Group.bar, .cores, .lnk, .xpt, .shp, .blt, .freeCtr] ⊆ l) (k) : s0.Keeps l (s.closed k) := by
  unfold State.closed
  split
  · exact h
  · have k1 := h.freeConn (groups_sub g rfl) k
    dsimp only
    split
    · exact k1
    · split
      · exact k1.foldl _ _ fun t x kt => kt.opDone (groups_sub g rfl) _ _ _
      · next e =>
        refine (k1.connFor (groups_sub g rfl) _ _ _ _ _ e).foldl _ _ fun t x kt => ?_
        exact (kt.modOp (groups_sub g rfl) _ _).modConn (groups_sub g rfl) _ _

theorem State.Keeps.goes_openPkt (g : [Group.bar, .stk, .cores, .memory, .lnk, .xpt, .shp, .blt, .host, .out, .freeCtr] ⊆ l) (p) (now) : s0.Goes l (execOpenPkt p now s) := by
  unfold execOpenPkt
  extract_lets a _ s1
  have k1 : s0.Keeps l s1 := (h.at_ (groups_sub g rfl) _).setLnk (g (by simp)) _ id
  clear_value s1
  split
  · next conn cls device part peer inc _ =>
    split
    · exact k1
    · split
      · exact k1.count (groups_sub g rfl) _ _
      · extract_lets accept
        have ka : ∀ x, s0.Keeps l x → s0.Keeps l (accept x) := by
          intro x kx
          unfold accept
          dsimp only
          split
          · next e => exact ((kx.takeConn (groups_sub g rfl) _ _ _ _ _ _ e).modConn (groups_sub g rfl) _ _).sendControl (groups_sub g rfl) _ _ _ _ _
          · exact kx.inject (groups_sub g rfl) _ _
        clear_value accept
        split
        · exact ka _ k1
        · split
          · exact ((k1.modConn (groups_sub g rfl) _ _).sendControl (groups_sub g rfl) _ _ _ _ _).pump (groups_sub g rfl) _
          · split
            · exact k1.sendControl (groups_sub g rfl) _ _ _ _ _
            · exact ka _ (k1.failConn (groups_sub g rfl) _)
  · exact k1.count (groups_sub g rfl) _ _

theorem State.Keeps.goes_openAck (g : [Group.bar, .stk, .cores, .lnk, .xpt, .shp, .blt, .freeCtr] ⊆ l) (p) (now) : s0.Goes l (execOpenAck p now s) := by
  unfold execOpenAck
  (repeat' split) <;> apply_rules [State.Keeps.next, State.Keeps.receive, State.Keeps.pump, State.Keeps.modConn] <;> grind only [State.goes_next, State.Keeps.receive, State.Keeps.pump, State.Keeps.modConn, List.cons_subset, List.nil_subset]

theorem State.Keeps.goes_closePkt (g : [Group.bar, .stk, .cores, .memory, .lnk, .xpt, .shp, .blt, .host, .out, .freeCtr] ⊆ l) (p) (now) : s0.Goes l (execClosePkt p now s) := by
  have k1 := h.receive (groups_sub g rfl) p now false
  unfold execClosePkt
  split
  · next e _ =>
    rw [e] at k1
    split
    · exact k1.failConn (groups_sub g rfl) _
    · exact (k1.sendControl (groups_sub g rfl) _ _ _ _ _).closed (groups_sub g rfl) _
  · next e _ =>
    rw [e] at k1
    exact k1

theorem State.Keeps.goes_closeAck (g : [Group.bar, .stk, .cores, .lnk, .xpt, .shp, .blt, .freeCtr] ⊆ l) (p) (now) : s0.Goes l (execCloseAck p now s) := by
  unfold execCloseAck
  grind only [State.goes_next, State.Keeps.receive, State.Keeps.closed, List.cons_subset, List.nil_subset]

theorem State.Keeps.goes_closeTimeout (g : [Group.bar, .stk, .cores, .lnk, .xpt, .shp, .blt, .freeCtr] ⊆ l) (conn) (now) : s0.Goes l (execCloseTimeout conn now s) := by
  unfold execCloseTimeout
  grind only [State.goes_next, State.Keeps.at_, State.Keeps.closed, List.cons_subset, List.nil_subset]

theorem State.Keeps.goes_connectionIdle (g : [Group.bar, .lnk, .xpt, .shp, .freeCtr] ⊆ l) (conn) : s0.Goes l (execConnectionIdle conn s) := by
  unfold execConnectionIdle
  grind only [State.goes_next, State.Keeps.modConn, State.Keeps.sendControl, List.cons_subset, List.nil_subset]

theorem State.Keeps.goes_ack (g : [Group.bar, .stk, .cores, .lnk, .xpt, .shp, .blt, .freeCtr] ⊆ l) (p) (now) : s0.Goes l (execAck p now s) := by
  unfold execAck
  grind only [State.goes_next, State.Keeps.receive, State.Keeps.takeAck, List.cons_subset, List.nil_subset]

theorem State.Keeps.goes_ackDelayTimer (g : [Group.bar, .stk, .lnk, .xpt, .shp, .freeCtr] ⊆ l) (conn) (now) : s0.Goes l (execAckDelayTimer conn now s) := by
  unfold execAckDelayTimer
  grind only [State.goes_next, State.Keeps.at_, State.Keeps.sendAck, List.cons_subset, List.nil_subset]

theorem State.Keeps.resend (g : [Group.bar, .lnk, .xpt, .shp, .freeCtr] ⊆ l) (k) (x) : s0.Keeps l (s.resend k x) := by
  unfold State.resend
  grind only [State.Keeps.launch, State.Keeps.count, State.Keeps.modConn, List.cons_subset, List.nil_subset]

theorem State.Keeps.takeNak (g : [Group.bar, .cores, .lnk, .xpt, .shp, .blt, .freeCtr] ⊆ l) (k) (kind) (st) (x) : s0.Keeps l (s.takeNak k kind st x) := by
  unfold State.takeNak
  dsimp only
  (repeat' split) <;> apply_rules [State.Keeps.resend, State.Keeps.modConn, State.Keeps.pump, State.Keeps.opDone] <;> grind only [State.Keeps.resend, State.Keeps.modConn, State.Keeps.pump, State.Keeps.opDone, List.cons_subset, List.nil_subset]

theorem State.Keeps.goes_nak (g : [Group.bar, .stk, .cores, .lnk, .xpt, .shp, .blt, .freeCtr] ⊆ l) (p) (now) : s0.Goes l (execNak p now s) := by
  unfold execNak
  dsimp only
  (repeat' split) <;> apply_rules [State.Keeps.next, State.Keeps.acceptPacket, State.Keeps.openFailed, State.Keeps.takeNak, State.Keeps.takeAck] <;> grind only [State.goes_next, State.Keeps.acceptPacket, State.Keeps.openFailed, State.Keeps.takeNak, State.Keeps.takeAck, List.cons_subset, List.nil_subset]

theorem State.Keeps.goes_notReadyRetry (g : [Group.bar, .stk, .lnk, .xpt, .shp, .freeCtr] ⊆ l) (conn) (now) : s0.Goes l (execNotReadyRetry conn now s) := by
  unfold execNotReadyRetry
  dsimp only
  (repeat' split) <;> apply_rules [State.Keeps.next, State.Keeps.at_, State.Keeps.resend, State.Keeps.modConn] <;> grind only [State.goes_next, State.Keeps.at_, State.Keeps.resend, State.Keeps.modConn, State.Keeps.foldl, List.cons_subset, List.nil_subset]

theorem State.Keeps.goes_retransmitTimeout (g : [Group.bar, .stk, .cores, .memory, .lnk, .xpt, .shp, .blt, .host, .out, .freeCtr] ⊆ l) (conn) (now) : s0.Goes l (execRetransmitTimeout conn now s) := by
  have k1 := h.at_ (groups_sub g rfl) now
  unfold execRetransmitTimeout
  dsimp only
  split
  · exact k1
  · split
    · exact k1
    · split
      · split
        · exact k1.openFailed (groups_sub g rfl) _ _
        · exact k1.failConn (groups_sub g rfl) _
      · exact (k1.modConn (groups_sub g rfl) _ _).foldl _ _ fun t x kt => kt.resend (groups_sub g rfl) _ _

end
end Sys2Proof.Machine
end

section
/-!
PROOFS. What the operations keep: threads and transport.
-/
namespace Sys2Proof.Machine
section
variable {s0 s : State} {l : List Group} (h : s0.Keeps l s)
include h
theorem State.Keeps.addStitch (g : [Group.xpt] ⊆ l) (e0) : s0.Keeps l (s.addStitch e0) := by
  unfold State.addStitch
  grind only [State.Keeps.setXpt, List.cons_subset, List.nil_subset]

theorem State.Keeps.addResult (g : [Group.xpt] ⊆ l) (r) : s0.Keeps l (s.addResult r) := by
  unfold State.addResult
  grind only [State.Keeps.setXpt, List.cons_subset, List.nil_subset]

theorem State.Keeps.atomAt (g : [Group.memory] ⊆ l) (pa) (aop) (opnd) (cmp) : s0.Keeps l (s.atomAt pa aop opnd cmp).1 := by
  unfold State.atomAt
  grind only [State.Keeps.physWrite, List.cons_subset, List.nil_subset]

theorem State.Keeps.deliverMsgs (g : [Group.cores, .pln, .xpt] ⊆ l) (k) (n) : s0.Keeps l (s.deliverMsgs k n) := by
  induction n generalizing s with
  | zero => exact h
  | succ n ih =>
    unfold State.deliverMsgs
    split
    · exact h
    · split
      · exact h
      · next e _ =>
        extract_lets s1 _ s2
        have k1 : s0.Keeps l s1 := h.modConn (groups_sub g rfl) _ _
        have k2 : s0.Keeps l s2 := k1.ite (k1.setXpt (g (by simp)) _)
        clear_value s1 s2
        apply ih
        split
        · exact k2.ite (k2.cvSet (groups_sub g rfl) _ _)
        · exact k2

theorem State.Keeps.wholeMsg (g : [Group.cores, .pln, .xpt] ⊆ l) (k) (msg) : s0.Keeps l (s.wholeMsg k msg) := by
  unfold State.wholeMsg
  grind only [State.Keeps.deliverMsgs, State.Keeps.addStitch, List.cons_subset, List.nil_subset]

theorem State.Keeps.endPut (g : [Group.cores, .pln, .memory, .xpt, .host, .out, .freeCtr] ⊆ l) (k) (msg) : s0.Keeps l (s.endPut k msg) := by
  unfold State.endPut
  grind only [State.Keeps.undefineMsg, State.Keeps.addStitch, State.Keeps.deliverMsgs, State.Keeps.setXpt, List.cons_subset, List.nil_subset]

theorem State.Keeps.refuse (g : [Group.bar, .cores, .pln, .memory, .lnk, .xpt, .shp, .host, .out, .freeCtr] ⊆ l) (k) (p) (st) : s0.Keeps l (s.refuse k p st) := by
  have k1 := (h.arrive (groups_sub g rfl) k p.xp.seq).sendNak (groups_sub g rfl) k 3 st p.xp.seq p.xp.tag
  unfold State.refuse
  (repeat' split) <;> apply_rules [State.Keeps.endPut, State.Keeps.wholeMsg, groups_sub g] <;> rfl

theorem State.Keeps.notReady (g : [Group.bar, .lnk, .xpt, .shp, .freeCtr] ⊆ l) (k) (p) : s0.Keeps l (s.notReady k p) := by
  unfold State.notReady
  grind only [State.Keeps.sendNak, List.cons_subset, List.nil_subset]

theorem State.Keeps.packetFault (g : [Group.bar, .cores, .pln, .memory, .lnk, .xpt, .shp, .cmd, .blt, .host, .out, .freeCtr] ⊆ l) (k) (c) (p) (part) (acc) (x) : s0.Keeps l (s.packetFault k c p part acc x) := by
  unfold State.packetFault
  split
  · split
    · exact h.notReady (groups_sub g rfl) _ _
    · extract_lets r
      have k1 : s0.Keeps l r.1 := h.openFault (groups_sub g rfl) _
      clear_value r
      split
      · exact k1.setXpt (g (by simp)) _
      · exact k1.refuse (groups_sub g rfl) _ _ _
  · exact (h.denied (groups_sub g rfl) _ _ _).refuse (groups_sub g rfl) _ _ _
  · exact h

theorem State.Keeps.landPut_go (g : [Group.bar, .cores, .pln, .memory, .lnk, .xpt, .shp, .cmd, .blt, .host, .out, .freeCtr] ⊆ l) (k) (c) (p) (hd) (data) (e) (r) :
    s0.Keeps l (State.landPut.go k c p hd data s e r) := by
  unfold State.landPut.go
  have k1 := h.writeVa (groups_sub g rfl) r.part.val .thread (r.base + hd.addr) data
  split
  · next e1 =>
    have k2 := k1.fst e1
    exact (k2.ite (k2.addStitch (groups_sub g rfl) _)).packetFault (groups_sub g rfl) _ _ _ _ _ _
  · next e1 =>
    exact (((k1.fst e1).setXpt (g (by simp)) _).arrive (groups_sub g rfl) _ _).deliverMsgs (groups_sub g rfl) _ _

theorem State.Keeps.landPut (g : [Group.bar, .cores, .pln, .memory, .lnk, .xpt, .shp, .cmd, .blt, .host, .out, .freeCtr] ⊆ l) (k) (c) (p) (hd) (rcv) (data) : s0.Keeps l (s.landPut k c p hd rcv data) := by
  unfold State.landPut
  dsimp only
  (repeat' split) <;> apply_rules [State.Keeps.refuse, State.Keeps.notReady, State.Keeps.landPut_go, groups_sub g] <;> rfl

theorem State.Keeps.landGet (g : [Group.bar, .cores, .pln, .memory, .lnk, .xpt, .shp, .cmd, .blt, .host, .out, .freeCtr] ⊆ l) (k) (c) (p) (hd) : s0.Keeps l (s.landGet k c p hd) := by
  unfold State.landGet
  split
  · exact h.refuse (groups_sub g rfl) _ _ _
  · next r _ =>
    have k1 := h.xlateRange (groups_sub g rfl) r.part.val .thread .read (r.base + hd.addr) hd.msgLen
    split
    · next e => exact (k1.fst e).packetFault (groups_sub g rfl) _ _ _ _ _ _
    · next e =>
      have k2 := k1.fst e
      split
      · exact k2.refuse (groups_sub g rfl) _ _ _
      · apply_rules [State.Keeps.sendAll, State.Keeps.wholeMsg, State.Keeps.arrive, State.Keeps.readParts, groups_sub g] <;> rfl

theorem State.Keeps.sendAtomicData (g : [Group.bar, .lnk, .xpt, .shp, .freeCtr] ⊆ l) (k) (p) (st) (v) : s0.Keeps l (s.sendAtomicData k p st v) := by
  unfold State.sendAtomicData
  grind only [State.Keeps.launch, List.cons_subset, List.nil_subset]

theorem State.Keeps.atomResult (g : [Group.bar, .lnk, .xpt, .shp, .freeCtr] ⊆ l) (k) (c) (p) (aop) (st) (v) : s0.Keeps l (s.atomResult k c p aop st v) := by
  unfold State.atomResult
  grind only [State.Keeps.arrive, State.Keeps.addResult, State.Keeps.sendAtomicData, List.cons_subset, List.nil_subset]

theorem State.Keeps.landAtomic (g : [Group.bar, .cores, .pln, .memory, .lnk, .xpt, .shp, .cmd, .blt, .host, .out, .freeCtr] ⊆ l) (k) (c) (p) (x0) (aop) (opnd) (cmp) : s0.Keeps l (s.landAtomic k c p x0 aop opnd cmp) := by
  unfold State.landAtomic
  split
  · exact h.notReady (groups_sub g rfl) _ _
  · split
    · next hd =>
      split
      · exact h.refuse (groups_sub g rfl) _ _ _
      · next r _ =>
        have k1 := h.xlate (groups_sub g rfl) r.part.val .thread .atomic (r.base + hd.addr)
        split
        · next a e =>
          have k2 := (k1.fst e).atomAt (groups_sub g rfl) a aop opnd cmp
          split
          · next e2 => exact (k2.fst e2).refuse (groups_sub g rfl) _ _ _
          · next e2 => exact ((k2.fst e2).atomResult (groups_sub g rfl) _ _ _ _ _ _).wholeMsg (groups_sub g rfl) _ _
        · next e => exact (k1.fst e).packetFault (groups_sub g rfl) _ _ _ _ _ _
    · next a =>
      split
      · exact h.refuse (groups_sub g rfl) _ _ _
      · have k2 := h.atomAt (groups_sub g rfl) a aop opnd cmp
        split
        · next e2 => exact (k2.fst e2).refuse (groups_sub g rfl) _ _ _
        · next e2 => exact (k2.fst e2).atomResult (groups_sub g rfl) _ _ _ _ _ _

theorem State.Keeps.applyOrdered (g : [Group.bar, .cores, .pln, .memory, .lnk, .xpt, .shp, .cmd, .blt, .host, .out, .freeCtr] ⊆ l) (k) (c) (p) : s0.Keeps l (s.applyOrdered k c p) := by
  unfold State.applyOrdered
  dsimp only
  (repeat' split) <;> apply_rules [h, State.Keeps.refuse, State.Keeps.arrive, State.Keeps.physWrite, State.Keeps.launch, State.Keeps.landAtomic, groups_sub g] <;> rfl

theorem State.Keeps.drainRob (g : [Group.bar, .cores, .pln, .memory, .lnk, .xpt, .shp, .cmd, .blt, .host, .out, .freeCtr] ⊆ l) (k) (n) : s0.Keeps l (s.drainRob k n) := by
  induction n generalizing s with
  | zero => exact h
  | succ n ih =>
    unfold State.drainRob
    split
    · exact h
    · split
      · exact h
      · exact ih ((h.setXpt (g (by simp)) _).applyOrdered (groups_sub g rfl) _ _ _)

theorem State.Keeps.settle (g : [Group.bar, .cores, .pln, .memory, .lnk, .xpt, .shp, .cmd, .blt, .host, .out, .freeCtr] ⊆ l) (k) : s0.Keeps l (s.settle k) := by
  unfold State.settle
  grind only [State.Keeps.drainRob, List.cons_subset, List.nil_subset]

theorem State.Keeps.landOrdered (g : [Group.bar, .cores, .pln, .memory, .lnk, .xpt, .shp, .cmd, .blt, .host, .out, .freeCtr] ⊆ l) (k) (c) (p) : s0.Keeps l (s.landOrdered k c p) := by
  unfold State.landOrdered
  split
  · exact (h.applyOrdered (groups_sub g rfl) _ _ _).settle (groups_sub g rfl) _
  · split
    · exact h
    · split
      · exact (h.setXpt (g (by simp)) _).notReady (groups_sub g rfl) _ _
      · exact h.setXpt (g (by simp)) _

theorem State.Keeps.duplicate (g : [Group.bar, .lnk, .xpt, .shp, .freeCtr] ⊆ l) (k) (c) (p) : s0.Keeps l (s.duplicate k c p) := by
  unfold State.duplicate
  grind only [State.Keeps.sendAtomicData, State.Keeps.sendAck, State.Keeps.launch, List.cons_subset, List.nil_subset]

theorem State.Keeps.landWindow (g : [Group.bar, .cores, .pln, .memory, .lnk, .xpt, .shp, .cmd, .blt, .host, .out, .freeCtr] ⊆ l) (k) (c) (p) : s0.Keeps l (s.landWindow k c p) := by
  unfold State.landWindow
  exact (h.landOrdered (groups_sub g rfl) _ _ _).ite ((h.refuse (groups_sub g rfl) _ _ _).settle (groups_sub g rfl) _)

theorem State.Keeps.land (g : [Group.bar, .cores, .pln, .memory, .lnk, .xpt, .shp, .cmd, .blt, .host, .out, .freeCtr] ⊆ l) (k) (c) (p) : s0.Keeps l (s.land k c p) := by
  unfold State.land
  (repeat' split) <;> apply_rules [h, State.Keeps.duplicate, State.Keeps.refuse, State.Keeps.settle, State.Keeps.landPut, State.Keeps.landGet,
    State.Keeps.landAtomic, State.Keeps.landWindow, groups_sub g] <;> rfl

theorem State.Keeps.request (g : [Group.bar, .stk, .cores, .pln, .memory, .lnk, .xpt, .shp, .cmd, .blt, .host, .out, .freeCtr] ⊆ l) (p) (now) (mine) : s0.Keeps l (s.request p now mine) := by
  unfold State.request
  split
  · exact (h.at_ (groups_sub g rfl) _).count (groups_sub g rfl) _ _
  · have k1 := h.receive (groups_sub g rfl) p now true
    split
    · next e => exact (k1.fst e).land (groups_sub g rfl) _ _ _
    · next e => exact k1.fst e

theorem State.Keeps.goes_put (g : [Group.bar, .stk, .cores, .pln, .memory, .lnk, .xpt, .shp, .cmd, .blt, .host, .out, .freeCtr] ⊆ l) (p) (now) : s0.Goes l (execPut p now s) := by
  unfold execPut
  grind only [State.goes_next, State.Keeps.request, List.cons_subset, List.nil_subset]

theorem State.Keeps.goes_get (g : [Group.bar, .stk, .cores, .pln, .memory, .lnk, .xpt, .shp, .cmd, .blt, .host, .out, .freeCtr] ⊆ l) (p) (now) : s0.Goes l (execGet p now s) := by
  unfold execGet
  grind only [State.goes_next, State.Keeps.request, List.cons_subset, List.nil_subset]

theorem State.Keeps.goes_store (g : [Group.bar, .stk, .cores, .pln, .memory, .lnk, .xpt, .shp, .cmd, .blt, .host, .out, .freeCtr] ⊆ l) (p) (now) : s0.Goes l (execStore p now s) := by
  unfold execStore
  grind only [State.goes_next, State.Keeps.request, List.cons_subset, List.nil_subset]

theorem State.Keeps.goes_load (g : [Group.bar, .stk, .cores, .pln, .memory, .lnk, .xpt, .shp, .cmd, .blt, .host, .out, .freeCtr] ⊆ l) (p) (now) : s0.Goes l (execLoad p now s) := by
  unfold execLoad
  grind only [State.goes_next, State.Keeps.request, List.cons_subset, List.nil_subset]

theorem State.Keeps.goes_atomic (g : [Group.bar, .stk, .cores, .pln, .memory, .lnk, .xpt, .shp, .cmd, .blt, .host, .out, .freeCtr] ⊆ l) (p) (now) : s0.Goes l (execAtomic p now s) := by
  unfold execAtomic
  grind only [State.goes_next, State.Keeps.request, List.cons_subset, List.nil_subset]

theorem State.Keeps.landGetData (g : [Group.bar, .cores, .pln, .memory, .lnk, .xpt, .shp, .cmd, .blt, .host, .out, .freeCtr] ⊆ l) (k) (c) (p) (hd) (data) : s0.Keeps l (s.landGetData k c p hd data) := by
  unfold State.landGetData
  split
  · exact h.sendAck (groups_sub g rfl) _
  · split
    · exact (h.arrive (groups_sub g rfl) _ _).settle (groups_sub g rfl) _
    · next o _ =>
      extract_lets off
      split
      · exact (h.arrive (groups_sub g rfl) _ _).settle (groups_sub g rfl) _
      · have k1 := h.writeVa (groups_sub g rfl) o.part.val .thread (o.laddr + off) data
        split
        · next e => exact (k1.fst e).packetFault (groups_sub g rfl) _ _ _ _ _ _
        · next e =>
          have k2 := ((k1.fst e).arrive (groups_sub g rfl) k p.xp.seq).modOp (groups_sub g rfl) p.xp.tag.toNat
            fun y => { y with got := off :: y.got, left := y.left - data.length }
          exact ((k2.opDone (groups_sub g rfl) _ _ _).ite k2).settle (groups_sub g rfl) _

theorem State.Keeps.goes_getData (g : [Group.bar, .stk, .cores, .pln, .memory, .lnk, .xpt, .shp, .cmd, .blt, .host, .out, .freeCtr] ⊆ l) (p) (now) : s0.Goes l (execGetData p now s) := by
  have k1 := h.receive (groups_sub g rfl) p now true
  unfold execGetData
  split
  · next e _ => exact (k1.fst e).landGetData (groups_sub g rfl) _ _ _ _ _
  · next e _ => exact k1.fst e

theorem State.Keeps.answered (g : [Group.bar, .cores, .lnk, .xpt, .shp, .blt, .freeCtr] ⊆ l) (k) (c) (p) (st) (result) : s0.Keeps l (s.answered k c p st result) := by
  unfold State.answered
  dsimp only
  (repeat' split) <;> apply_rules [State.Keeps.modConn, State.Keeps.pump, State.Keeps.opDone] <;> grind only [State.Keeps.modConn, State.Keeps.pump, State.Keeps.opDone, List.cons_subset, List.nil_subset]

theorem State.Keeps.goes_loadData (g : [Group.bar, .stk, .cores, .lnk, .xpt, .shp, .blt, .freeCtr] ⊆ l) (p) (now) : s0.Goes l (execLoadData p now s) := by
  unfold execLoadData
  grind only [State.goes_next, State.Keeps.receive, State.Keeps.answered, List.cons_subset, List.nil_subset]

theorem State.Keeps.goes_atomicData (g : [Group.bar, .stk, .cores, .lnk, .xpt, .shp, .blt, .freeCtr] ⊆ l) (p) (now) : s0.Goes l (execAtomicData p now s) := by
  unfold execAtomicData
  grind only [State.goes_next, State.Keeps.receive, State.Keeps.answered, List.cons_subset, List.nil_subset]

theorem State.Keeps.constituentMsg (g : [Group.cores, .pln, .xpt] ⊆ l) (keyed) (y) : s0.Keeps l (s.constituentMsg keyed y) := by
  unfold State.constituentMsg
  grind only [State.Keeps.wholeMsg, List.cons_subset, List.nil_subset]

theorem State.Keeps.refuseAll (g : [Group.bar, .cores, .pln, .lnk, .xpt, .shp, .freeCtr] ⊆ l) (keyed) (st) (ready) (xs) : s0.Keeps l (s.refuseAll keyed st ready xs) := by
  unfold State.refuseAll
  grind only [State.Keeps.constituentMsg, State.Keeps.sendNak, State.Keeps.arrive, State.Keeps.foldl, List.cons_subset, List.nil_subset]

theorem State.Keeps.recordTarget (g : [Group.memory] ⊆ l) (c) (r) : s0.Keeps l (s.recordTarget c r).1 := by
  unfold State.recordTarget
  grind only [State.Keeps.xlate, List.cons_subset, List.nil_subset]

theorem State.Keeps.applyRecord (g : [Group.bar, .cores, .pln, .memory, .lnk, .xpt, .shp, .cmd, .blt, .host, .out, .freeCtr] ⊆ l) (r) : s0.Keeps l (s.applyRecord r) := by
  unfold State.applyRecord
  extract_lets known split_ items u
  have ku : s0.Keeps l u := h.refuseAll (groups_sub g rfl) _ _ _ _
  clear_value u
  split
  · exact ku
  · next c _ =>
    split
    · exact ku.refuseAll (groups_sub g rfl) _ _ _ _
    · have k1 := ku.recordTarget (groups_sub g rfl) c r
      split
      · next e => exact (k1.fst e).refuseAll (groups_sub g rfl) _ _ _ _
      · next s1 a e =>
        have k2 := k1.fst e
        have landed (bytes) (xs : List (Constituent × Nat)) : s0.Keeps l (xs.foldl (fun (x : State) q =>
            ((((x.addResult { conn := q.1.conn.val, inc := q.1.inc, seq := q.1.seq, status := .ok, value := q.2 }).arrive
              q.1.conn.val q.1.seq).constituentMsg r.keyed q.1)).settle q.1.conn.val) ((s1.physWrite a bytes).count Reg.xptCntCombined 1)) := by
          refine State.Keeps.foldl ((k2.physWrite (groups_sub g rfl) a bytes).count (groups_sub g rfl) _ 1) _ _ fun t q kt => ?_
          apply_rules [State.Keeps.settle, State.Keeps.constituentMsg, State.Keeps.arrive, State.Keeps.addResult, groups_sub g] <;> rfl
        dsimp only
        (repeat' split) <;> apply_rules [State.Keeps.refuseAll, State.Keeps.routeOn, groups_sub g, landed] <;> rfl

theorem State.Keeps.goes_combined (g : [Group.bar, .stk, .cores, .pln, .memory, .lnk, .xpt, .shp, .cmd, .blt, .host, .out, .freeCtr] ⊆ l) (p) (now) : s0.Goes l (execCombined p now s) := by
  unfold execCombined
  grind only [State.goes_next, State.Keeps.at_, State.Keeps.count, State.Keeps.applyRecord, List.cons_subset, List.nil_subset]

theorem State.Keeps.goes_combinedData (g : [Group.bar, .stk, .lnk] ⊆ l) (p) (now) : s0.Goes l (execCombinedData p now s) := by
  unfold execCombinedData
  grind only [State.goes_next, State.Keeps.at_, State.Keeps.routeOn, State.Keeps.count, State.Keeps.foldl, List.cons_subset, List.nil_subset]

theorem State.Keeps.goes_query (g : [Group.bar, .stk, .cores, .memory, .lnk, .xpt, .shp, .blt, .host, .out, .freeCtr] ⊆ l) (p) (now) : s0.Goes l (execQuery p now s) := by
  unfold execQuery
  grind only [State.goes_next, State.Keeps.at_, State.Keeps.count, State.Keeps.failConn, State.Keeps.inject, List.cons_subset, List.nil_subset]

theorem State.Keeps.goes_queryData (g : [Group.bar, .stk, .xpt, .cmd, .host, .out] ⊆ l) (p) (now) : s0.Goes l (execQueryData p now s) := by
  unfold execQueryData
  dsimp only
  (repeat' split) <;> apply_rules [State.Keeps.next, State.Keeps.at_, State.Keeps.answer, State.Keeps.done, State.Keeps.count] <;> grind only [State.goes_next, State.Keeps.at_, State.Keeps.answer, State.Keeps.done, State.Keeps.count, State.Keeps.setXpt, List.cons_subset, List.nil_subset]

theorem State.Keeps.goes_resultHoldExpiry (g : [Group.stk, .xpt] ⊆ l) (conn) (inc) (now) : s0.Goes l (execResultHoldExpiry conn inc now s) := by
  unfold execResultHoldExpiry
  grind only [State.goes_next, State.Keeps.at_, State.Keeps.freeConn, State.Keeps.setXpt, List.cons_subset, List.nil_subset]

theorem State.Keeps.sendGroup (g : [Group.bar, .lnk, .xpt, .shp, .freeCtr] ⊆ l) (gr) (id) (tenant) (round) (step) (mine) (to_) (data) : s0.Keeps l (s.sendGroup gr id tenant round step mine to_ data) := by
  unfold State.sendGroup
  grind only [State.Keeps.connFor, State.Keeps.submit, List.cons_subset, List.nil_subset]

theorem State.Keeps.groupResult (g : [Group.bar, .cores, .lnk, .xpt, .shp, .blt, .freeCtr] ⊆ l) (gr) (id) (round) (data) : s0.Keeps l (s.groupResult gr id round data) := by
  unfold State.groupResult
  grind only [State.Keeps.opDone, List.cons_subset, List.nil_subset]

theorem State.Keeps.groupStep (g : [Group.bar, .cores, .lnk, .xpt, .shp, .blt, .freeCtr] ⊆ l) (key) (gr) (id) (round) (step) (total) (send : State → XGroup → Nat → Nat → List Byte → State) (k : ∀ a b c d e, s0.Keeps l a → s0.Keeps l (send a b c d e)) : s0.Keeps l (s.groupStep key gr id round step total send) := by
  unfold State.groupStep
  grind only [State.Keeps.groupResult, State.Keeps.setXpt, State.Keeps.foldl, List.cons_subset, List.nil_subset]

theorem State.Keeps.groupLand (g : [Group.bar, .cores, .lnk, .xpt, .shp, .blt, .freeCtr] ⊆ l) (n) (y) (n') (y') (n'') (n''') (n'''') (n''''') (n'''''') (xs) : s0.Keeps l (State.groupLand n s y n' y' n'' n''' n'''' n''''' n'''''' xs) := by
  induction n generalizing s y n' y' n'' n''' n'''' n''''' n'''''' xs with
  | zero => exact h
  | succ n ih =>
    unfold State.groupLand
    dsimp only
    split
    · exact h
    · split
      · exact h
      · refine (h.setXpt (g (by simp)) _).groupStep (groups_sub g rfl) _ _ _ _ _ _ _ fun a b c d e ka => ?_
        split
        · exact ih ka _ _ _ _ _ _ _ _ _
        · exact ka.sendGroup (groups_sub g rfl) _ _ _ _ _ _ _ _

theorem State.Keeps.goes_reduce (g : [Group.bar, .stk, .cores, .pln, .memory, .lnk, .xpt, .shp, .blt, .host, .out, .freeCtr] ⊆ l) (p) (now) : s0.Goes l (execReduce p now s) := by
  have k1 := h.receive (groups_sub g rfl) p now true
  unfold execReduce
  split
  · next e _ =>
    have k2 := k1.fst e
    dsimp only
    (repeat' split) <;> refine State.Keeps.next ?_ <;> apply_rules [State.Keeps.sendAck, State.Keeps.refuse, State.Keeps.arrive, State.Keeps.groupLand, groups_sub g] <;> rfl
  · next e _ => exact k1.fst e
  · exact (h.at_ (groups_sub g rfl) _).count (groups_sub g rfl) _ _

theorem State.Keeps.collect1 (g : [Group.cores, .pln, .xpt] ⊆ l) (key) (col) (slot) : s0.Keeps l (s.collect1 key col slot) := by
  unfold State.collect1
  grind only [State.Keeps.cvSet, State.Keeps.setXpt, List.cons_subset, List.nil_subset]

theorem State.Keeps.landComplete (g : [Group.bar, .cores, .pln, .lnk, .xpt, .shp, .freeCtr] ⊆ l) (k) (c) (id) (slot) (seq) (tag) : s0.Keeps l (s.landComplete k c id slot seq tag) := by
  unfold State.landComplete
  grind only [State.Keeps.sendNak, State.Keeps.arrive, State.Keeps.collect1, List.cons_subset, List.nil_subset]

theorem State.Keeps.goes_complete (g : [Group.bar, .stk, .cores, .pln, .memory, .lnk, .xpt, .shp, .blt, .host, .out, .freeCtr] ⊆ l) (p) (now) : s0.Goes l (execComplete p now s) := by
  have k1 := h.receive (groups_sub g rfl) p now true
  have ka := h.at_ (groups_sub g rfl) now
  unfold execComplete
  split
  · split
    · next e =>
      have k2 := k1.fst e
      (repeat' split) <;> refine State.Keeps.next ?_ <;> apply_rules [State.Keeps.sendAck, State.Keeps.refuse, State.Keeps.landComplete, groups_sub g] <;> rfl
    · next e => exact k1.fst e
  · dsimp only
    split
    · exact ka
    · split
      · exact ka.count (groups_sub g rfl) _ _
      · refine (ka.count (groups_sub g rfl) _ _).foldl _ _ fun t y kt => ?_
        split
        · exact kt.landComplete (groups_sub g rfl) _ _ _ _ _ _
        · exact kt
  · exact ka.count (groups_sub g rfl) _ _

theorem State.Keeps.entryFault (g : [Group.bar, .memory, .xpt, .cmd, .blt, .host, .out] ⊆ l) (q) (index) (done) (x) (part) (acc) (va) (e0) : s0.Keeps l (s.entryFault q index done x part acc va e0).1 := by
  unfold State.entryFault
  grind only [State.Keeps.openFault, State.Keeps.denied, State.Keeps.setXpt, List.cons_subset, List.nil_subset]

theorem State.Keeps.tookEntry (g : [Group.xpt] ⊆ l) (q) : s0.Keeps l (s.tookEntry q) := by
  unfold State.tookEntry
  grind only [State.Keeps.setXpt, List.cons_subset, List.nil_subset]

theorem State.Keeps.entryEnds (g : [Group.xpt] ⊆ l) (q) (tag) (o) (st) : s0.Keeps l (s.entryEnds q tag o st) := by
  unfold State.entryEnds
  grind only [State.Keeps.tookEntry, State.Keeps.setXpt, List.cons_subset, List.nil_subset]

theorem State.Keeps.entryDone (g : [Group.xpt] ⊆ l) (q) (tag) (o) (st) (result) : s0.Keeps l (s.entryDone q tag o st result) := by
  unfold State.entryDone
  grind only [State.Keeps.tookEntry, State.Keeps.setXpt, List.cons_subset, List.nil_subset]

theorem State.Keeps.entryHere (g : [Group.bar, .cores, .pln, .memory, .lnk, .xpt, .shp, .cmd, .blt, .host, .out, .freeCtr] ⊆ l) (q) (tag) (o) (x) (dp) : s0.Keeps l (s.entryHere q tag o x dp) := by
  unfold State.entryHere
  extract_lets parks
  have kp : ∀ a part acc va e, s0.Keeps l a → s0.Keeps l (parks a part acc va e) := by
    intro a part acc va e ka
    have k1 := ka.entryFault (groups_sub g rfl) q x.next 0 x part acc va e
    exact k1.ite (k1.entryDone (groups_sub g rfl) _ _ _ _ _)
  clear_value parks
  split
  · split
    · exact h.entryDone (groups_sub g rfl) _ _ _ _ _
    · next r _ =>
      have k1 := h.writeVa (groups_sub g rfl) r.part.val .thread (r.base + o.raddr) o.data
      split
      · next e => exact kp _ _ _ _ _ (k1.fst e)
      · next e =>
        have k2 := k1.fst e
        split <;> apply_rules [State.Keeps.entryDone, State.Keeps.cvSet, groups_sub g] <;> rfl
  · split
    · exact h.entryDone (groups_sub g rfl) _ _ _ _ _
    · next r _ =>
      have k1 := h.xlateRange (groups_sub g rfl) r.part.val .thread .read (r.base + o.raddr) o.len
      split
      · next e => exact kp _ _ _ _ _ (k1.fst e)
      · next parts e =>
        have k2 := k1.fst e
        split
        · exact k2.entryDone (groups_sub g rfl) _ _ _ _ _
        · have k3 := k2.readParts (groups_sub g rfl) (partFn r.part.val) parts
          dsimp only
          split
          · next e3 => exact kp _ _ _ _ _ ((k3.writeVa (groups_sub g rfl) _ _ _ _).fst e3)
          · next e3 => exact ((k3.writeVa (groups_sub g rfl) _ _ _ _).fst e3).entryDone (groups_sub g rfl) _ _ _ _ _
  · split
    · exact h.entryDone (groups_sub g rfl) _ _ _ _ _
    · next r _ =>
      have k1 := h.xlate (groups_sub g rfl) r.part.val .thread .atomic (r.base + o.raddr)
      split
      · next a e =>
        have k2 := (k1.fst e).atomAt (groups_sub g rfl) a o.aop o.opnd o.cmp
        split
        · next e2 => exact (k2.fst e2).entryDone (groups_sub g rfl) _ _ _ _ _
        · next e2 => exact (k2.fst e2).entryDone (groups_sub g rfl) _ _ _ _ _
      · next e => exact kp _ _ _ _ _ (k1.fst e)
  · (repeat' split) <;> apply_rules [h, State.Keeps.entryDone, State.Keeps.collect1, groups_sub g] <;> rfl
  · exact ((h.tookEntry (groups_sub g rfl) _).setXpt (g (by simp)) _).groupLand (groups_sub g rfl) _ _ _ _ _ _ _ _ _ _
  · exact h

theorem State.Keeps.nextRound (g : [Group.xpt] ⊆ l) (o) (key) : s0.Keeps l (s.nextRound o key) := by
  unfold State.nextRound
  grind only [State.Keeps.setXpt, List.cons_subset, List.nil_subset]

theorem State.Keeps.entryIssue (g : [Group.bar, .cores, .pln, .memory, .lnk, .xpt, .shp, .cmd, .blt, .host, .out, .freeCtr] ⊆ l) (q) (tag) (d) (o) (x) : s0.Keeps l (s.entryIssue q tag d o x) := by
  unfold State.entryIssue
  split
  · exact h.entryEnds (groups_sub g rfl) _ _ _ _
  · split
    · exact (h.nextRound (groups_sub g rfl) _ _).entryHere (groups_sub g rfl) _ _ _ _ _
    · split
      · exact h.entryEnds (groups_sub g rfl) _ _ _ _
      · next e =>
        have k1 := h.connFor (groups_sub g rfl) _ _ _ _ _ e
        exact ((k1.tookEntry (groups_sub g rfl) _).nextRound (groups_sub g rfl) _ _).submit (groups_sub g rfl) _ _ _

theorem State.Keeps.goes_xqEntry (g : [Group.bar, .stk, .cores, .pln, .memory, .lnk, .xpt, .shp, .cmd, .blt, .host, .out, .freeCtr] ⊆ l) (queue) (now) : s0.Goes l (execXqEntry queue now s) := by
  have ka := h.at_ (groups_sub g rfl) now
  unfold execXqEntry
  dsimp only
  split
  · exact ka
  · next x _ =>
    split
    · exact ka
    · have k1 := ka.readVa (groups_sub g rfl) x.part.val .thread (x.entryVa x.next) 64
      split
      · next e => exact (k1.fst e).entryFault (groups_sub g rfl) _ _ _ _ _ _ _ _
      · next bytes e =>
        have k2 := k1.fst e
        split
        · exact k2
        · split
          · exact k2
          · split
            · exact k2.entryEnds (groups_sub g rfl) _ _ _ _
            · split
              · next e3 =>
                have k3 := (k2.xlateRange (groups_sub g rfl) _ _ _ _ _).fst e3
                refine State.Keeps.next ?_
                have k4 (va e) := k3.entryFault (groups_sub g rfl) queue x.next 0 x x.part .read va e
                exact (k4 _ _).ite ((k4 _ _).entryEnds (groups_sub g rfl) _ _ _ _)
              · next e3 =>
                have k3 := (k2.xlateRange (groups_sub g rfl) _ _ _ _ _).fst e3
                split
                · exact k3.entryEnds (groups_sub g rfl) _ _ _ _
                · exact (k3.readParts (groups_sub g rfl) _ _).entryIssue (groups_sub g rfl) _ _ _ _ _

theorem State.Keeps.queueGone (g : [Group.bar, .xpt, .cmd, .host, .out] ⊆ l) (q) : s0.Keeps l (s.queueGone q) := by
  unfold State.queueGone
  grind only [State.Keeps.done, State.Keeps.setXpt, State.Keeps.foldl, List.cons_subset, List.nil_subset]

theorem State.Keeps.goes_xqCompletion (g : [Group.bar, .cores, .pln, .memory, .lnk, .xpt, .shp, .cmd, .blt, .host, .out, .freeCtr] ⊆ l) (tag) : s0.Goes l (execXqCompletion tag s) := by
  unfold execXqCompletion
  split
  · exact h
  · next o _ =>
    split
    · next q i _ =>
      extract_lets turn
      split
      · exact h
      · next x _ =>
        split
        · exact h
        · have k1 := h.writeVa (groups_sub g rfl) x.part.val .thread o.laddr o.fetched
          split
          · next s1 va er e =>
            have k2 := (k1.fst e).entryFault (groups_sub g rfl) q i 1 x x.part .write va er
            exact State.Keeps.next (k2.ite (k2.modOp (groups_sub g rfl) _ _))
          · next s1 _ e =>
            have k2 := k1.fst e
            extract_lets sU w s2 s3 s4 _ s5
            have kw : ∀ a off bytes, s0.Keeps l a → s0.Keeps l (w a off bytes) := fun a off bytes ka =>
              ka.writeVa (groups_sub g rfl) _ _ _ _
            have kU : s0.Keeps l sU := k2.ite (k2.undefine (groups_sub g rfl) _ _ _)
            have k3 : s0.Keeps l s2 := (kw _ _ _ kU).ite kU
            have k4 : s0.Keeps l s3 := kw _ _ _ k3
            clear_value s3
            have k5 : s0.Keeps l s4 := by
              unfold s4
              split
              · exact k4.cvSet (groups_sub g rfl) _ _
              · exact k4
            clear_value s4
            exact ((k5.setXpt (g (by simp)) _).dropOp (groups_sub g rfl) _ _).queueGone (groups_sub g rfl) _
    · exact h

theorem State.Keeps.accessRefused (g : [Group.bar, .cores, .blt] ⊆ l) (origin) (addr) (load) : s0.Keeps l (s.accessRefused origin addr load) := by
  unfold State.accessRefused
  grind only [State.Keeps.trap, State.Keeps.setCores, List.cons_subset, List.nil_subset]

theorem State.Keeps.windowHere (g : [Group.bar, .cores, .memory, .blt] ⊆ l) (o) : s0.Keeps l (s.windowHere o) := by
  unfold State.windowHere
  grind only [State.Keeps.accessEnds, State.Keeps.physWrite, State.Keeps.atomAt, List.cons_subset, List.nil_subset]

theorem State.Keeps.windowOp (g : [Group.bar, .cores, .memory, .lnk, .xpt, .shp, .blt, .freeCtr] ⊆ l) (part) (mem) (o) : s0.Keeps l (s.windowOp part mem o) := by
  unfold State.windowOp
  split
  · exact h.windowHere (groups_sub g rfl) _
  · split
    · exact h
    · dsimp only
      split
      · exact h.accessRefused (groups_sub g rfl) _ _ _
      · next e =>
        have k1 := h.connFor (groups_sub g rfl) _ _ _ _ _ e
        refine State.Keeps.submit ?_ (groups_sub g rfl) _ _ _
        split
        · exact k1.ite (k1.modThread (groups_sub g rfl) _ _)
        · exact k1

theorem State.Keeps.goes_harnessWindowAccess (g : [Group.bar, .stk, .cores, .memory, .lnk, .xpt, .shp, .blt, .freeCtr] ⊆ l) (part) (tenant) (origin) (access) (addr) (now) : s0.Goes l (execHarnessWindowAccess part tenant origin access addr now s) := by
  have k1 := h.at_ (groups_sub g rfl) now
  unfold execHarnessWindowAccess
  dsimp only
  (repeat' split) <;> refine State.Keeps.next ?_ <;> apply_rules [k1, State.Keeps.windowOp, State.Keeps.accessRefused, groups_sub g] <;> rfl

theorem State.Keeps.goes_regionRegister (g : [Group.bar, .stk, .xpt, .cmd, .host, .out] ⊆ l) (hd) (base) (length) (perms) (flags) (draw) (rsv) : s0.Goes l (execRegionRegister hd base length perms flags draw rsv s) := by
  unfold execRegionRegister
  refine State.Keeps.serve h (groups_sub g rfl) _ _ _ _ fun r t k => ?_
  grind only [State.Keeps.serve, State.Keeps.done, State.Keeps.answer, State.Keeps.setXpt, State.Keeps.foldl, List.cons_subset, List.nil_subset]

theorem State.Keeps.regionGone (g : [Group.bar, .xpt, .cmd, .host, .out] ⊆ l) (i) (gr) : s0.Keeps l (s.regionGone i gr) := by
  unfold State.regionGone
  grind only [State.Keeps.done, State.Keeps.setXpt, State.Keeps.foldl, List.cons_subset, List.nil_subset]

theorem State.Keeps.goes_regionRevoke (g : [Group.bar, .stk, .xpt, .cmd, .host, .out] ⊆ l) (hd) (key) : s0.Goes l (execRegionRevoke hd key s) := by
  unfold execRegionRevoke
  refine State.Keeps.serve h (groups_sub g rfl) _ _ _ _ fun r t k => ?_
  grind only [State.Keeps.serve, State.Keeps.done, State.Keeps.accepted, State.Keeps.setXpt, List.cons_subset, List.nil_subset]

theorem State.Keeps.goes_regionRevokeComplete (g : [Group.bar, .xpt, .cmd, .host, .out] ⊆ l) (index) : s0.Goes l (execRegionRevokeComplete index s) := by
  unfold execRegionRevokeComplete
  grind only [State.goes_next, State.Keeps.regionGone, List.cons_subset, List.nil_subset]

theorem State.Keeps.goes_revokeAbandonTimeout (g : [Group.bar, .stk, .cores, .pln, .memory, .xpt, .cmd, .host, .out, .freeCtr] ⊆ l) (index) (now) : s0.Goes l (execRevokeAbandonTimeout index now s) := by
  have k1 := h.at_ (groups_sub g rfl) now
  unfold execRevokeAbandonTimeout
  dsimp only
  split
  · split
    · split
      · exact k1
      · refine State.Keeps.next (State.Keeps.regionGone (State.Keeps.foldl (k1.setXpt (g (by simp)) _) _ _ fun t e kt => ?_) (groups_sub g rfl) _ _)
        exact (kt.undefineMsg (groups_sub g rfl) _).deliverMsgs (groups_sub g rfl) _ _
    · exact k1
  · exact k1

theorem State.Keeps.goes_xqCreate (g : [Group.bar, .stk, .xpt, .cmd, .host, .out] ⊆ l) (hd) (entries) (ring) (rsv) : s0.Goes l (execXqCreate hd entries ring rsv s) := by
  unfold execXqCreate
  refine State.Keeps.serve h (groups_sub g rfl) _ _ _ _ fun r t k => ?_
  grind only [State.Keeps.serve, State.Keeps.done, State.Keeps.answer, State.Keeps.setXpt, List.cons_subset, List.nil_subset]

theorem State.Keeps.goes_xqDestroy (g : [Group.bar, .stk, .xpt, .cmd, .host, .out] ⊆ l) (hd) (queue) (rsv) : s0.Goes l (execXqDestroy hd queue rsv s) := by
  unfold execXqDestroy
  refine State.Keeps.serve h (groups_sub g rfl) _ _ _ _ fun r t k => ?_
  grind only [State.Keeps.serve, State.Keeps.done, State.Keeps.accepted, State.Keeps.queueGone, State.Keeps.setXpt, List.cons_subset, List.nil_subset]

theorem State.Keeps.goes_connQuery (g : [Group.bar, .stk, .memory, .cmd, .host, .out] ⊆ l) (hd) (conn) (outAddr) (rsv) : s0.Goes l (execConnQuery hd conn outAddr rsv s) := by
  unfold execConnQuery
  refine State.Keeps.serve h (groups_sub g rfl) _ _ _ _ fun r t k => ?_
  grind only [State.Keeps.serve, State.Keeps.done, State.Keeps.writeAddr, List.cons_subset, List.nil_subset]

theorem State.Keeps.goes_atomicQuery (g : [Group.bar, .stk, .lnk, .xpt, .shp, .cmd, .host, .out] ⊆ l) (hd) (dev) (handle) (rsv) : s0.Goes l (execAtomicQuery hd dev handle rsv s) := by
  unfold execAtomicQuery
  refine State.Keeps.serve h (groups_sub g rfl) _ _ _ _ fun r t k => ?_
  grind only [State.Keeps.serve, State.Keeps.done, State.Keeps.inject, State.Keeps.setXpt, List.cons_subset, List.nil_subset]

theorem State.Keeps.goes_collectorCreate (g : [Group.bar, .stk, .xpt, .cmd, .host, .out] ⊆ l) (hd) (collector) (bit) (n) (cls) (rsv) : s0.Goes l (execCollectorCreate hd collector bit n cls rsv s) := by
  unfold execCollectorCreate
  refine State.Keeps.serve h (groups_sub g rfl) _ _ _ _ fun r t k => ?_
  grind only [State.Keeps.serve, State.Keeps.done, State.Keeps.setXpt, List.cons_subset, List.nil_subset]

theorem State.Keeps.goes_collectiveCreate (g : [Group.bar, .stk, .xpt, .cmd, .host, .out] ⊆ l) (hd) (group) (fn) (fmt) (ranks) (rsv) : s0.Goes l (execCollectiveCreate hd group fn fmt ranks rsv s) := by
  unfold execCollectiveCreate
  refine State.Keeps.serve h (groups_sub g rfl) _ _ _ _ fun r t k => ?_
  grind only [State.Keeps.serve, State.Keeps.done, State.Keeps.setXpt, List.cons_subset, List.nil_subset]

theorem State.Keeps.goes_groupDestroy (g : [Group.bar, .stk, .xpt, .cmd, .host, .out] ⊆ l) (hd) (kind) (id) (rsv) : s0.Goes l (execGroupDestroy hd kind id rsv s) := by
  unfold execGroupDestroy
  refine State.Keeps.serve h (groups_sub g rfl) _ _ _ _ fun r t k => ?_
  grind only [State.Keeps.serve, State.Keeps.done, State.Keeps.setXpt, List.cons_subset, List.nil_subset]

end
end Sys2Proof.Machine
end

section
/-!
PROOFS. What the operations keep: queues, faults and rows.
-/
namespace Sys2Proof.Machine
section
variable {s0 s : State} {l : List Group} (h : s0.Keeps l s)
include h
theorem State.Keeps.level3 (g : [Group.bar, .sat, .cores, .fls, .lnk, .blt, .sec] ⊆ l) : s0.Keeps l (s.level3) := by
  unfold State.level3
  extract_lets run _ _ _ _ s1
  have k1 : s0.Keeps l s1 :=
    (((h.setSat (g (by simp)) { s.sat with sats := amap (fun x => { x with prov := none }) s.sat.sats } (by intro ok; dsimp only; exact keysBelow_amap ok _) fun ok => ok).setCores
      (g (by simp)) { s.cores with queues := amap (fun l => l.map CoreCmd.fail) s.cores.queues }).setBlt
      (g (by simp)) { s.blt with l3 := true }).setSec (g (by simp)) { s.sec with run := run }
  clear_value s1
  exact h.ite ((k1.flsHold (groups_sub g rfl) _).foldl _ _ fun t p kt => kt.disablePort (groups_sub g rfl) _)

theorem State.Keeps.publish (g : [Group.bar, .cmd, .blt, .host, .out] ⊆ l) (f) (part) : s0.Keeps l (s.publish f part) := by
  unfold State.publish
  grind only [State.Keeps.event, State.Keeps.emit, State.Keeps.setBlt, List.cons_subset, List.nil_subset]

theorem State.Keeps.faultN (g : [Group.bar, .blt] ⊆ l) : s0.Keeps l (s.faultN) := by
  unfold State.faultN
  grind only [State.Keeps.setFld, State.Keeps.setBlt, List.cons_subset, List.nil_subset]

theorem State.Keeps.record (g : [Group.bar, .sat, .cores, .fls, .lnk, .cmd, .blt, .sec, .host, .out] ⊆ l) (m) (e0) (level) (escalated) : s0.Keeps l (s.record m e0 level escalated).1 := by
  unfold State.record
  grind only [State.Keeps.publish, State.Keeps.count, State.Keeps.faultN, State.Keeps.level3, State.Keeps.setBlt, List.cons_subset, List.nil_subset]

theorem State.Keeps.file (g : [Group.bar, .sat, .cores, .fls, .lnk, .cmd, .blt, .sec, .host, .out] ⊆ l) (m0) : s0.Keeps l (s.file m0) := by
  unfold State.file
  grind only [State.Keeps.record, State.Keeps.count, State.Keeps.setBlt, List.cons_subset, List.nil_subset]

theorem State.Keeps.goes_blotterMessage (g : [Group.bar, .sat, .cores, .fls, .lnk, .cmd, .blt, .sec, .host, .out] ⊆ l) (source) (fresh) : s0.Goes l (execBlotterMessage source fresh s) := by
  unfold execBlotterMessage
  extract_lets s1
  have k1 : s0.Keeps l s1 := by
    unfold s1
    split
    · exact h.post (groups_sub g rfl) _
    · exact h
  clear_value s1
  split
  · exact k1
  · exact (k1.setBlt (g (by simp)) _).file (groups_sub g rfl) _

theorem State.Keeps.goes_faultnPulseEnd (g : [Group.blt] ⊆ l) : s0.Goes l (execFaultnPulseEnd s) := by
  unfold execFaultnPulseEnd
  grind only [State.goes_next, State.Keeps.setBlt, List.cons_subset, List.nil_subset]

theorem State.Keeps.goes_entryAgeClose (g : [Group.blt] ⊆ l) (source) (kind) (level) : s0.Goes l (execEntryAgeClose source kind level s) := by
  unfold execEntryAgeClose
  grind only [State.goes_next, State.Keeps.setBlt, List.cons_subset, List.nil_subset]

theorem State.Keeps.goes_faultAck (g : [Group.bar, .stk, .cmd, .blt, .host, .out] ⊆ l) (hd) (mode) (levels) (seq) (rsv) : s0.Goes l (execFaultAck hd mode levels seq rsv s) := by
  unfold execFaultAck
  refine State.Keeps.serve h (groups_sub g rfl) _ _ _ _ fun r t k => ?_
  grind only [State.Keeps.serve, State.Keeps.done, State.Keeps.setBlt, List.cons_subset, List.nil_subset]

theorem State.Keeps.modSat (g : [Group.sat] ⊆ l) (slot) (f) : s0.Keeps l (s.modSat slot f) := by
  unfold State.modSat
  grind only [State.Keeps.setSat, keysBelow_aput, keysBelow_adel, keysBelow_amod, keysBelow_amap, = List.mem_append, List.mem_of_mem_erase, = List.mem_map, = List.mem_filter, List.cons_subset, List.nil_subset]

theorem State.Keeps.modCtx (g : [Group.sat] ⊆ l) (c) (f) : s0.Keeps l (s.modCtx c f) := by
  unfold State.modCtx
  grind only [State.Keeps.modSat, State.Keeps.setSat, keysBelow_aput, keysBelow_adel, keysBelow_amod, keysBelow_amap, = List.mem_append, List.mem_of_mem_erase, = List.mem_map, = List.mem_filter, List.cons_subset, List.nil_subset]

theorem State.Keeps.initRow (g : [Group.kva] ⊆ l) (q) (first) (tag) : s0.Keeps l (s.initRow q first tag) := by
  unfold State.initRow
  grind only [State.Keeps.setKva, State.Keeps.foldl, List.cons_subset, List.nil_subset]

theorem State.Keeps.allocRow (g : [Group.kva, .pln] ⊆ l) (p) (tag) {t y'} (e : s.allocRow p tag = some (y', t)) : s0.Keeps l t := by
  unfold State.allocRow at e
  grind only [State.Keeps.initRow, State.Keeps.modPart, List.cons_subset, List.nil_subset]

theorem State.Keeps.allocRows (g : [Group.kva, .pln] ⊆ l) (p) (tag) (n) {t y'} (e : s.allocRows p tag n = some (y', t)) : s0.Keeps l t := by
  induction n generalizing s y' with
  | zero =>
    unfold State.allocRows at e
    cases e
    exact h
  | succ n ih =>
    unfold State.allocRows at e
    split at e
    · cases e
    · next e1 =>
      obtain ⟨r, er, same⟩ := Option.map_eq_some_iff.1 e
      cases same
      exact ih (h.allocRow (groups_sub g rfl) _ _ e1) er

theorem State.Keeps.freeRow (g : [Group.kva, .pln] ⊆ l) (p) (first) : s0.Keeps l (s.freeRow p first) := by
  unfold State.freeRow
  grind only [State.Keeps.modPart, State.Keeps.setKva, List.cons_subset, List.nil_subset]

theorem State.Keeps.inkReclaim (g : [Group.kva, .pln] ⊆ l) (first) : s0.Keeps l (s.inkReclaim first) := by
  unfold State.inkReclaim
  grind only [State.Keeps.freeRow, State.Keeps.setKva, List.cons_subset, List.nil_subset]

theorem State.Keeps.inkReclaimAll (g : [Group.kva, .pln] ⊆ l) : s0.Keeps l (s.inkReclaimAll) := by
  unfold State.inkReclaimAll
  grind only [State.Keeps.inkReclaim, State.Keeps.foldl, List.cons_subset, List.nil_subset]

theorem State.Keeps.inkHold (g : [Group.kva] ⊆ l) (first) : s0.Keeps l (s.inkHold first) := by
  unfold State.inkHold
  grind only [State.Keeps.setKva, List.cons_subset, List.nil_subset]

theorem State.Keeps.inkRelease (g : [Group.kva, .pln] ⊆ l) (first) : s0.Keeps l (s.inkRelease first) := by
  unfold State.inkRelease
  grind only [State.Keeps.inkReclaim, State.Keeps.setKva, List.cons_subset, List.nil_subset]

theorem State.Keeps.t2Begin (g : [Group.fls] ⊆ l) (ext) (units) (bytes) : s0.Keeps l (s.t2Begin ext units bytes) := by
  unfold State.t2Begin
  grind only [State.Keeps.beginWrite, State.Keeps.foldl, List.cons_subset, List.nil_subset]

theorem State.Keeps.t2Free (g : [Group.fls] ⊆ l) (ext) (units) : s0.Keeps l (s.t2Free ext units) := by
  unfold State.t2Free
  grind only [State.Keeps.journal, State.Keeps.setFls, Memory.wf_memWrite, Memory.wf_memZero, Memory.wf_memCopy, State.Keeps.foldl, List.cons_subset, List.nil_subset]

theorem State.Keeps.dropRow (g : [Group.kva, .pln, .fls] ⊆ l) (p) (r) : s0.Keeps l (s.dropRow p r) := by
  unfold State.dropRow
  grind only [State.Keeps.freeRow, State.Keeps.inkRelease, State.Keeps.modPart, State.Keeps.t2Free, State.Keeps.setKva, List.cons_subset, List.nil_subset]

theorem State.Keeps.drawNonce (g : [Group.sec] ⊆ l) : s0.Keeps l (s.drawNonce) := by
  unfold State.drawNonce
  grind only [State.Keeps.setSec, List.cons_subset, List.nil_subset]

theorem State.Keeps.putBlock (g : [Group.kva, .memory] ⊆ l) (p) (first) (j) (raw) : s0.Keeps l (s.putBlock p first j raw) := by
  unfold State.putBlock
  grind only [State.Keeps.physWrite, State.Keeps.setKva, State.Keeps.foldl, List.cons_subset, List.nil_subset]

theorem State.Keeps.setIndex (g : [Group.kva] ⊆ l) (c) (forms) (cold) : s0.Keeps l (s.setIndex c forms cold) := by
  unfold State.setIndex
  grind only [State.Keeps.setKva, List.cons_subset, List.nil_subset]

theorem State.Keeps.encodeAt (g : [Group.bar, .kva] ⊆ l) (c) (block) (width) (raw) (cold) : s0.Keeps l (s.encodeAt c block width raw cold) := by
  unfold State.encodeAt
  grind only [State.Keeps.count64, State.Keeps.count, State.Keeps.setKva, List.cons_subset, List.nil_subset]

theorem State.Keeps.freeBlocks (g : [Group.sat, .kva, .fls] ⊆ l) (c) : s0.Keeps l (s.freeBlocks c) := by
  unfold State.freeBlocks
  grind only [State.withCtx, State.Keeps.t2Free, State.Keeps.modCtx, State.Keeps.setKva, List.cons_subset, List.nil_subset]

theorem State.Keeps.freeLodging (g : [Group.sat, .kva, .pln, .fls] ⊆ l) (id) : s0.Keeps l (s.freeLodging id) := by
  unfold State.freeLodging
  refine State.Keeps.foldl ?_ _ _ fun t y kt => kt.foldl _ _ fun u r ku => ku.dropRow (groups_sub g rfl) _ _
  exact h.setSat (g (by simp)) _ (fun ok => ok) fun ok => ok

theorem State.Keeps.endLodging (g : [Group.sat, .kva, .pln, .fls, .out] ⊆ l) (dev) (id) : s0.Keeps l (s.endLodging dev id) := by
  unfold State.endLodging
  grind only [State.Keeps.freeLodging, State.Keeps.emit, List.cons_subset, List.nil_subset]

theorem State.Keeps.toShards (g : [Group.out] ⊆ l) (p) (ring) (i) : s0.Keeps l (s.toShards p ring i) := by
  unfold State.toShards
  grind only [State.Keeps.emit, State.Keeps.foldl, List.cons_subset, List.nil_subset]

theorem State.Keeps.toOthers (g : [Group.out] ⊆ l) (c) (x) (i) : s0.Keeps l (s.toOthers c x i) := by
  unfold State.toOthers
  grind only [State.Keeps.toShards, State.Keeps.emit, State.Keeps.foldl, List.cons_subset, List.nil_subset]

theorem State.Keeps.dropSwapOut (g : [Group.kva, .pln, .fls] ⊆ l) (x) : s0.Keeps l (s.dropSwapOut x) := by
  unfold State.dropSwapOut
  grind only [State.Keeps.dropRow, State.Keeps.foldl, List.cons_subset, List.nil_subset]

theorem State.Keeps.freeCtx (g : [Group.sat, .kva, .pln, .fls, .out] ⊆ l) (c) : s0.Keeps l (s.freeCtx c) := by
  unfold State.freeCtx State.withCtx
  dsimp only
  (repeat' split) <;> apply_rules [State.Keeps.dropRow, State.Keeps.dropSwapOut, State.Keeps.freeRow, State.Keeps.endLodging, State.Keeps.freeBlocks, State.Keeps.toOthers, State.Keeps.modCtx] <;> grind only [State.Keeps.dropRow, State.Keeps.dropSwapOut, State.Keeps.freeRow, State.Keeps.endLodging, State.Keeps.freeBlocks, State.Keeps.toOthers, State.Keeps.modCtx, State.Keeps.foldl, List.cons_subset, List.nil_subset]

theorem State.Keeps.freePages (g : [Group.sat, .kva, .pln, .fls, .out] ⊆ l) (slot) : s0.Keeps l (s.freePages slot) := by
  unfold State.freePages
  grind only [State.Keeps.freeCtx, List.cons_subset, List.nil_subset]

theorem State.Keeps.swapEncode (g : [Group.bar, .kva, .fls, .sec] ⊆ l) (p) (x) (r) (k) : s0.Keeps l (s.swapEncode p x r k) := by
  unfold State.swapEncode
  extract_lets q key step _ u w
  have ks : ∀ (xs : List Nat) (a : State × List Byte), s0.Keeps l a.1 → s0.Keeps l (xs.foldl step a).1 := by
    intro xs
    induction xs with
    | nil => exact fun a ka => ka
    | cons j xs ih =>
      intro a ka
      refine ih _ ?_
      have k1 := ((ka.count (groups_sub g rfl) Reg.cdcCntEnc 1).count64 (groups_sub g rfl) Reg.cdcRawBytesLo (a.1.rawBlock p r j).length).count64
        (groups_sub g rfl) Reg.cdcStoredBytesLo (storedLen (encodeBlock (q.blockWidth j) (a.1.rawBlock p r j)).1 true)
      exact (k1.count (groups_sub g rfl) Reg.cdcCntRaw 1).ite k1
  clear_value step
  have ku : s0.Keeps l u := h.setKva (g (by simp)) _
  clear_value u
  exact (ks _ (u.drawNonce, []) (ku.drawNonce (groups_sub g rfl))).t2Begin (groups_sub g rfl) _ _ _

theorem State.Keeps.swapRows (g : [Group.bar, .sat, .kva, .pln, .fls, .sec] ⊆ l) (c) (p) (xs) {t} (e : s.swapRows c p xs = some t) : s0.Keeps l t := by
  induction xs generalizing s with
  | nil =>
    unfold State.swapRows at e
    cases e
    exact h
  | cons j xs ih =>
    unfold State.swapRows at e
    split at e
    · refine ih (State.Keeps.modCtx ?_ (groups_sub g rfl) _ _) e
      have k1 := h.modPart (groups_sub g rfl) p
      exact ((k1 _).swapEncode (groups_sub g rfl) _ _ _ _).ite (k1 _)
    · cases e

theorem State.Keeps.takeVictims (g : [Group.bar, .sat, .kva, .pln, .fls, .sec, .out] ⊆ l) (p) (n) (xs) : s0.Keeps l (s.takeVictims p n xs) := by
  induction xs generalizing s n with
  | nil =>
    unfold State.takeVictims
    exact h
  | cons v xs ih =>
    unfold State.takeVictims
    split
    · exact h
    · dsimp only
      split
      · exact ih h _
      · split
        · exact ih h _
        · split
          · next e =>
            have k1 := h.swapRows (groups_sub g rfl) _ _ _ e
            exact ih ((k1.toShards (groups_sub g rfl) _ _ _).count (groups_sub g rfl) _ _) _
          · exact ih (h.setKva (g (by simp)) _) _

theorem State.Keeps.preempt (g : [Group.bar, .sat, .kva, .pln, .fls, .sec, .out] ⊆ l) (slot) (need) (short) (above) : s0.Keeps l (s.preempt slot need short above) := by
  unfold State.preempt
  grind only [State.withSlot, State.Keeps.takeVictims, List.cons_subset, List.nil_subset]

theorem State.Keeps.rowsBack (g : [Group.cores] ⊆ l) (p) : s0.Keeps l (s.rowsBack p) := by
  unfold State.rowsBack
  grind only [State.Keeps.setCores, List.cons_subset, List.nil_subset]

theorem State.Keeps.beginRevive (g : [Group.bar, .sat, .kva, .pln, .memory, .fls, .sec, .out] ⊆ l) (c) (staging) : s0.Keeps l (s.beginRevive c staging) := by
  unfold State.beginRevive State.withCtx
  split
  · beta_reduce
    extract_lets n wait
    have kw : s0.Keeps l (wait s) := ((h.preempt (groups_sub g rfl) _ _ _ _).ite h).modCtx (groups_sub g rfl) _ _
    clear_value wait
    split
    · exact kw
    · next e1 =>
      split
      · exact kw
      · next e2 =>
        have k2 := (h.placeState (groups_sub g rfl) _ _ _ e1).allocRows (groups_sub g rfl) _ _ _ e2
        exact (k2.modCtx (groups_sub g rfl) _ _).toOthers (groups_sub g rfl) _ _ _
  · exact h

theorem State.Keeps.writeHead (g : [Group.bar, .kva, .memory] ⊆ l) (im) (frame) (layer) (headIn) (half) (xs) : s0.Keeps l (s.writeHead im frame layer headIn half xs).1 := by
  unfold State.writeHead
  grind only [State.Keeps.physWrite, State.Keeps.count, State.Keeps.setKva, State.Keeps.foldl, List.cons_subset, List.nil_subset]

theorem State.Keeps.moveHere (g : [Group.bar, .kva, .memory] ⊆ l) (p) (src) (srcAt) (dst) (dstAt) : s0.Keeps l (s.moveHere p src srcAt dst dstAt) := by
  unfold State.moveHere
  grind only [State.Keeps.physWrite, State.Keeps.writeHead, State.Keeps.foldl, List.cons_subset, List.nil_subset]

theorem State.Keeps.sendRegister (g : [Group.sat, .out] ⊆ l) (slot) : s0.Keeps l (s.sendRegister slot) := by
  unfold State.sendRegister
  grind only [State.withSlot, State.Keeps.modSat, State.Keeps.sendC, List.cons_subset, List.nil_subset]

theorem State.Keeps.sendMirror (g : [Group.sat, .out] ⊆ l) (slot) : s0.Keeps l (s.sendMirror slot) := by
  unfold State.sendMirror
  grind only [State.withSlot, State.Keeps.modSat, State.Keeps.sendC, State.Keeps.foldl, List.cons_subset, List.nil_subset]

theorem State.Keeps.removeSat (g : [Group.sat, .kva, .pln, .memory, .fls, .out] ⊆ l) (slot) : s0.Keeps l (s.removeSat slot) := by
  unfold State.removeSat
  grind only [State.Keeps.unplace, State.Keeps.freePages, State.Keeps.setSat, keysBelow_aput, keysBelow_adel, keysBelow_amod, keysBelow_amap, = List.mem_append, List.mem_of_mem_erase, = List.mem_map, = List.mem_filter, List.cons_subset, List.nil_subset]

theorem State.Keeps.doneAll (g : [Group.bar, .cmd, .host, .out] ⊆ l) (xs) (st) : s0.Keeps l (s.doneAll xs st) := by
  unfold State.doneAll
  grind only [State.Keeps.done, State.Keeps.foldl, List.cons_subset, List.nil_subset]

theorem State.Keeps.freeSat (g : [Group.bar, .sat, .kva, .pln, .memory, .fls, .cmd, .host, .out] ⊆ l) (slot) : s0.Keeps l (s.freeSat slot) := by
  unfold State.freeSat State.withSlot
  split
  · exact ((h.toRegistrar (groups_sub g rfl) _ _ _).removeSat (groups_sub g rfl) _).doneAll (groups_sub g rfl) _ _
  · exact h

theorem State.Keeps.publishInk (g : [Group.bar, .sat, .kva, .pln, .memory, .fls, .cmd, .host, .out] ⊆ l) (slot) : s0.Keeps l (s.publishInk slot) := by
  unfold State.publishInk
  grind only [State.withSlot, State.Keeps.putRecord, State.Keeps.modSat, State.Keeps.freeSat, State.Keeps.foldl, List.cons_subset, List.nil_subset]

theorem State.Keeps.killRows (g : [Group.bar, .pln, .out] ⊆ l) (slot) : s0.Keeps l (s.killRows slot) := by
  unfold State.killRows
  grind only [State.withSlot, State.Keeps.count, State.Keeps.modPart, State.Keeps.toShards, List.cons_subset, List.nil_subset]

theorem State.Keeps.endMove (g : [Group.bar, .cmd, .host, .out] ⊆ l) (x) (st) : s0.Keeps l (s.endMove x st) := by
  unfold State.endMove
  grind only [State.Keeps.done, List.cons_subset, List.nil_subset]

theorem State.Keeps.finish (g : [Group.bar, .sat, .kva, .pln, .fls, .cmd, .host, .out] ⊆ l) (slot) (st) (recs) : s0.Keeps l (s.finish slot st recs) := by
  unfold State.finish
  grind only [State.withSlot, State.Keeps.endMove, State.Keeps.modSat, State.Keeps.freePages, List.cons_subset, List.nil_subset]

theorem State.Keeps.endWith (g : [Group.bar, .sat, .kva, .pln, .fls, .cmd, .host, .out] ⊆ l) (slot) (st) : s0.Keeps l (s.endWith slot st) := by
  unfold State.endWith
  grind only [State.withSlot, State.Keeps.finish, List.cons_subset, List.nil_subset]

theorem State.Keeps.applyCancel (g : [Group.bar, .sat, .kva, .pln, .memory, .fls, .cmd, .host, .out] ⊆ l) (slot) : s0.Keeps l (s.applyCancel slot) := by
  unfold State.applyCancel State.withSlot
  split
  · exact ((h.modSat (groups_sub g rfl) _ _).killRows (groups_sub g rfl) _).ite ((h.finish (groups_sub g rfl) _ _ _).publishInk (groups_sub g rfl) _)
  · exact h

theorem State.Keeps.lowerTier (g : [Group.bar, .sat, .kva, .pln, .fls, .cmd, .host, .out] ⊆ l) (slot) : s0.Keeps l (s.lowerTier slot) := by
  unfold State.lowerTier State.withSlot
  dsimp only
  (repeat' split) <;> apply_rules [State.Keeps.endWith, State.Keeps.modSat, State.Keeps.freePages] <;> grind only [State.Keeps.endWith, State.Keeps.modSat, State.Keeps.freePages, List.cons_subset, List.nil_subset]

theorem State.Keeps.chargeTokens (g : [Group.pln] ⊆ l) (x0) (n) : s0.Keeps l (s.chargeTokens x0 n) := by
  unfold State.chargeTokens
  grind only [State.Keeps.setPln, = List.length_modify, = List.length_map, List.cons_subset, List.nil_subset]

end
end Sys2Proof.Machine
end

section
/-!
PROOFS. What the operations keep: satchels and custody.
-/
namespace Sys2Proof.Machine
section
variable {s0 s : State} {l : List Group} (h : s0.Keeps l s)
include h
theorem State.Keeps.modRec (g : [Group.sat] ⊆ l) (id) (f) : s0.Keeps l (s.modRec id f) := by
  unfold State.modRec
  grind only [State.Keeps.setSat, keysBelow_aput, keysBelow_adel, keysBelow_amod, keysBelow_amap, = List.mem_append, List.mem_of_mem_erase, = List.mem_map, = List.mem_filter, List.cons_subset, List.nil_subset]

theorem State.Keeps.answerLost (g : [Group.bar, .cmd, .host, .out, .freeCtr] ⊆ l) (r) (id) : s0.Keeps l (s.answerLost r id) := by
  unfold State.answerLost
  dsimp only
  (repeat' split) <;> apply_rules [State.Keeps.answer, State.Keeps.free] <;> grind only [State.Keeps.answer, State.Keeps.free, List.cons_subset, List.nil_subset]

theorem State.Keeps.doneFor (g : [Group.bar, .cmd, .host, .out, .freeCtr] ⊆ l) (r) (id) (st) : s0.Keeps l (s.doneFor r id st) := by
  unfold State.doneFor
  grind only [State.Keeps.answerLost, State.Keeps.done, List.cons_subset, List.nil_subset]

theorem State.Keeps.takeId (g : [Group.sat] ⊆ l) (index) : s0.Keeps l (s.takeId index).2 := by
  unfold State.takeId
  grind only [State.Keeps.setSat, keysBelow_aput, keysBelow_adel, keysBelow_amod, keysBelow_amap, = List.mem_append, List.mem_of_mem_erase, = List.mem_map, = List.mem_filter, List.cons_subset, List.nil_subset]

omit h in
theorem leastFree_lt {used : List Nat} {n k i : Nat} (e : leastFree used n k = some i) : i < k + n := by
  induction n generalizing k with
  | zero => simp [leastFree] at e
  | succ n ih =>
    unfold leastFree at e
    split at e
    · have := ih e
      omega
    · cases e
      omega

omit h in
theorem State.freeSlot_lt {s : State} {slot : Nat} (e : s.freeSlot = some slot) : slot < 4194304 := by
  unfold State.freeSlot at e
  split at e
  · cases e
  · have := leastFree_lt e
    omega

theorem State.Keeps.withOwned (g : [Group.bar, .cmd, .host, .out, .freeCtr] ⊆ l) (hd) (r) (id) {f : Nat → Sat → State} (k : ∀ slot x, s0.Keeps l (f slot x)) :
    s0.Keeps l (s.withOwned hd r id f) := by
  unfold State.withOwned
  (repeat' split) <;> apply_rules [k, State.Keeps.done, State.Keeps.answerLost, groups_sub g] <;> rfl

theorem State.Keeps.nextId (g : [Group.sat] ⊆ l) (index) {t y'} (e : s.nextId index = some (y', t)) : s0.Keeps l t := by
  unfold State.nextId at e
  split at e
  · cases e
    exact h.takeId (groups_sub g rfl) _
  · obtain ⟨i, _, same⟩ := Option.map_eq_some_iff.1 e
    cases same
    refine State.Keeps.takeId ?_ (groups_sub g rfl) _
    exact h.setSat (g (by simp)) _ (fun ok => ok) fun ok => ok

theorem State.Keeps.makeSatellites (g : [Group.out] ⊆ l) (p) (id) (kvPos) (a) : s0.Keeps l (s.makeSatellites p id kvPos a) := by
  unfold State.makeSatellites
  grind only [State.Keeps.emit, State.Keeps.foldl, List.cons_subset, List.nil_subset]

theorem State.Keeps.goes_satchelAdmit (g : [Group.bar, .stk, .sat, .kva, .memory, .cmd, .host, .out] ⊆ l) (hd) (a) (shardsOk) : s0.Goes l (execSatchelAdmit hd a shardsOk s) := by
  unfold execSatchelAdmit
  refine State.Keeps.serve h (groups_sub g rfl) _ _ _ _ fun r t k => ?_
  split
  · exact k.done (groups_sub g rfl) _ _
  · split
    · next es ei =>
      extract_lets w sat
      have kw : s0.Keeps l w.2 := k.takeId (groups_sub g rfl) _
      clear_value w
      split
      · exact k.done (groups_sub g rfl) _ _
      · next e =>
        split
        · exact k.done (groups_sub g rfl) _ _
        · have k1 := kw.place (groups_sub g rfl) _ _ _ _ _ e
          refine State.Keeps.sendRegister (State.Keeps.foldl (State.Keeps.makeSatellites ?_ (groups_sub g rfl) _ _ _ _) _ _
            fun u x ku => ku.inkHold (groups_sub g rfl) _) (groups_sub g rfl) _
          exact k1.setSat (g (by simp)) _ (fun ok => keysBelow_aput ok (State.freeSlot_lt es) _) fun ok => ok
    · exact k.done (groups_sub g rfl) _ _

theorem State.Keeps.growLog (g : [Group.sat, .memory] ⊆ l) (slot) (n) {t} (e : s.growLog slot n = some t) : s0.Keeps l t := by
  unfold State.growLog at e
  split at e
  · cases e
  · obtain ⟨r, er, same⟩ := Option.map_eq_some_iff.1 e
    cases same
    exact (h.placeLog (groups_sub g rfl) _ _ _ er).modSat (groups_sub g rfl) _ _

theorem State.Keeps.abandonPark (g : [Group.sat, .kva, .fls] ⊆ l) (c) : s0.Keeps l (s.abandonPark c) := by
  unfold State.abandonPark
  grind only [State.withCtx, State.Keeps.modCtx, State.Keeps.t2Free, State.Keeps.freeBlocks, State.Keeps.foldl, List.cons_subset, List.nil_subset]

theorem State.Keeps.takeAppend (g : [Group.bar, .sat, .kva, .pln, .memory, .fls, .sec, .out] ⊆ l) (slot) (tokens) (revive) : s0.Keeps l (s.takeAppend slot tokens revive) := by
  unfold State.takeAppend
  refine h.withSlot fun x _ => ?_
  extract_lets hot s1 s2
  have k1 : s0.Keeps l s1 := h.modSat (groups_sub g rfl) _ _
  have k2 : s0.Keeps l s2 := (k1.abandonPark (groups_sub g rfl) _).sendMirror (groups_sub g rfl) _
  clear_value s1 s2
  (repeat' split) <;> apply_rules [k2, State.Keeps.modSat, State.Keeps.beginRevive, groups_sub g] <;> rfl

theorem State.Keeps.goes_satchelAppend (g : [Group.bar, .stk, .sat, .kva, .pln, .memory, .fls, .cmd, .sec, .host, .out, .freeCtr] ⊆ l) (hd) (id) (count) (reviveDev) (revivePart) (byRef) (tokens) (rsv) : s0.Goes l (execSatchelAppend hd id count reviveDev revivePart byRef tokens rsv s) := by
  unfold execSatchelAppend
  refine State.Keeps.serve h (groups_sub g rfl) _ _ _ _ fun r t k => ?_
  split
  · exact k.done (groups_sub g rfl) _ _
  · refine k.withOwned (groups_sub g rfl) _ _ _ fun slot y => ?_
    split
    · exact k.done (groups_sub g rfl) _ _
    · dsimp only
      split
      · exact k.done (groups_sub g rfl) _ _
      · next e => exact ((k.growLog (groups_sub g rfl) _ _ e).takeAppend (groups_sub g rfl) _ _ _).answer (groups_sub g rfl) _ _ _ _

theorem State.Keeps.goes_satchelCancel (g : [Group.bar, .stk, .sat, .kva, .pln, .memory, .fls, .cmd, .host, .out, .freeCtr] ⊆ l) (hd) (id) (rsv) : s0.Goes l (execSatchelCancel hd id rsv s) := by
  unfold execSatchelCancel
  refine State.Keeps.serve h (groups_sub g rfl) _ _ _ _ fun r t k => ?_
  refine k.withOwned (groups_sub g rfl) _ _ _ fun slot y => ?_
  (repeat' split) <;> apply_rules [State.Keeps.modSat, State.Keeps.answer, State.Keeps.done, State.Keeps.applyCancel, groups_sub g] <;> rfl

theorem State.Keeps.freeLost (g : [Group.bar, .sat, .cmd, .host, .out, .freeCtr] ⊆ l) (hd) (r) (c) : s0.Keeps l (s.freeLost hd r c) := by
  unfold State.freeLost
  grind only [State.Keeps.done, State.Keeps.answerLost, State.Keeps.setSat, keysBelow_aput, keysBelow_adel, keysBelow_amod, keysBelow_amap, = List.mem_append, List.mem_of_mem_erase, = List.mem_map, = List.mem_filter, List.cons_subset, List.nil_subset]

theorem State.Keeps.goes_satchelFree (g : [Group.bar, .stk, .sat, .kva, .pln, .memory, .fls, .cmd, .host, .out, .freeCtr] ⊆ l) (hd) (id) : s0.Goes l (execSatchelFree hd id s) := by
  unfold execSatchelFree
  refine State.Keeps.serve h (groups_sub g rfl) _ _ _ _ fun r t k => ?_
  dsimp only
  split
  · exact (k.done (groups_sub g rfl) _ _).ite (k.freeLost (groups_sub g rfl) _ _ _)
  · refine k.withOwned (groups_sub g rfl) _ _ _ fun slot y => ?_
    (repeat' split) <;> apply_rules [State.Keeps.modSat, State.Keeps.publishInk, State.Keeps.done, State.Keeps.applyCancel, groups_sub g] <;> rfl

theorem State.Keeps.sendTransit (g : [Group.sec, .out] ⊆ l) (c) (x) (dev) : s0.Keeps l (s.sendTransit c x dev).1 := by
  unfold State.sendTransit
  grind only [State.Keeps.emit, State.Keeps.drawNonce, List.cons_subset, List.nil_subset]

theorem State.Keeps.goes_satchelMove (g : [Group.bar, .stk, .sat, .cmd, .host, .out, .freeCtr] ⊆ l) (hd) (id) (dev) (dpart) (full) (rsv) : s0.Goes l (execSatchelMove hd id dev dpart full rsv s) := by
  unfold execSatchelMove
  refine State.Keeps.serve h (groups_sub g rfl) _ _ _ _ fun r t k => ?_
  split
  · exact k.done (groups_sub g rfl) _ _
  · refine k.withOwned (groups_sub g rfl) _ _ _ fun slot y => ?_
    have kd (st) := k.done (groups_sub g rfl) r st
    have ka := (k.accepted (groups_sub g rfl) r).modSat (groups_sub g rfl) slot
    exact (kd _).ite ((kd _).ite ((kd _).ite ((kd _).ite ((kd _).ite ((kd _).ite ((kd _).ite (ka _)))))))

theorem State.Keeps.sendOffer (g : [Group.sat, .sec, .out] ⊆ l) (slot) : s0.Keeps l (s.sendOffer slot) := by
  unfold State.sendOffer State.withSlot
  dsimp only
  (repeat' split) <;> apply_rules [State.Keeps.sendTransit, State.Keeps.sendC, State.Keeps.toRegistrar, State.Keeps.modSat] <;> grind only [State.Keeps.sendTransit, State.Keeps.sendC, State.Keeps.toRegistrar, State.Keeps.modSat, List.cons_subset, List.nil_subset]

theorem State.Keeps.forwardCancel (g : [Group.out] ⊆ l) (x) (dev) (part) : s0.Keeps l (s.forwardCancel x dev part) := by
  unfold State.forwardCancel
  grind only [State.Keeps.emit, List.cons_subset, List.nil_subset]

theorem State.Keeps.moveCommitted (g : [Group.bar, .sat, .kva, .pln, .memory, .fls, .cmd, .sec, .host, .out] ⊆ l) (slot) : s0.Keeps l (s.moveCommitted slot) := by
  unfold State.moveCommitted
  refine h.withSlot fun x _ => ?_
  split
  · exact h
  · next v _ =>
    extract_lets s1 s2 keep _ s3 s4 s5
    have k1 : s0.Keeps l s1 := by
      unfold s1
      split
      · exact h.answer (groups_sub g rfl) _ _ _ _
      · exact h
    clear_value s1
    have k2 : s0.Keeps l s2 := k1.forwardCancel (groups_sub g rfl) _ _ _
    clear_value s2
    have k3 : s0.Keeps l s3 := k2.ite (k2.setSat (g (by simp)) _ (fun ok => ok) fun ok => ok)
    clear_value s3
    have k4 : s0.Keeps l s4 := (k3.ite (k3.toShards (groups_sub g rfl) _ _ _)).modSat (groups_sub g rfl) _ _
    clear_value s4
    have k5 : s0.Keeps l s5 := (k4.removeSat (groups_sub g rfl) _).doneAll (groups_sub g rfl) _ _
    clear_value s5
    exact (k5.setSec (g (by simp)) _).ite k5

theorem State.Keeps.thaw (g : [Group.bar, .sat, .kva, .pln, .memory, .fls, .cmd, .host, .out, .freeCtr] ⊆ l) (slot) : s0.Keeps l (s.thaw slot) := by
  unfold State.thaw
  refine h.withSlot fun x _ => ?_
  split
  · exact h
  · next v _ =>
    extract_lets s1 s2 s3
    have k1 : s0.Keeps l s1 := h.modSat (groups_sub g rfl) _ _
    clear_value s1
    have k2 : s0.Keeps l s2 := by
      unfold s2
      split
      · exact k1.doneFor (groups_sub g rfl) _ _ _
      · exact k1
    clear_value s2
    have k3 : s0.Keeps l s3 := (k2.event (groups_sub g rfl) _ _ _ _ _).ite k2
    clear_value s3
    exact (k3.applyCancel (groups_sub g rfl) _).ite k3

theorem State.Keeps.loseCopy (g : [Group.bar, .sat, .kva, .pln, .memory, .fls, .cmd, .host, .out, .freeCtr] ⊆ l) (slot) (st) : s0.Keeps l (s.loseCopy slot st) := by
  unfold State.loseCopy
  refine h.withSlot fun x _ => ?_
  refine State.Keeps.foldl (State.Keeps.removeSat ?_ (groups_sub g rfl) _) _ _ fun t r kt => kt.doneFor (groups_sub g rfl) _ _ _
  (repeat' split) <;> apply_rules [h, State.Keeps.doneFor, groups_sub g] <;> rfl

theorem State.Keeps.surrenderFor (g : [Group.bar, .sat, .kva, .pln, .memory, .fls, .cmd, .host, .out, .freeCtr] ⊆ l) (slot) (reason) : s0.Keeps l (s.surrenderFor slot reason) := by
  unfold State.surrenderFor
  exact h.withSlot fun x _ => (h.toRegistrar (groups_sub g rfl) _ _ _).loseCopy (groups_sub g rfl) _ _

theorem State.Keeps.surrender (g : [Group.bar, .sat, .kva, .pln, .memory, .fls, .cmd, .sec, .host, .out, .freeCtr] ⊆ l) (slot) : s0.Keeps l (s.surrender slot) := by
  unfold State.surrender
  exact h.withSlot fun x _ => (h.surrenderFor (groups_sub g rfl) _ _).setSec (g (by simp)) _

theorem State.Keeps.surrenderLive (g : [Group.bar, .sat, .kva, .pln, .memory, .fls, .cmd, .sec, .host, .out, .freeCtr] ⊆ l) (slot) : s0.Keeps l (s.surrenderLive slot) := by
  unfold State.surrenderLive
  grind only [State.withSlot, State.Keeps.surrender, List.cons_subset, List.nil_subset]

theorem State.Keeps.sendAbort (g : [Group.sat, .out] ⊆ l) (slot) : s0.Keeps l (s.sendAbort slot) := by
  unfold State.sendAbort
  grind only [State.withSlot, State.Keeps.modSat, State.Keeps.toRegistrar, List.cons_subset, List.nil_subset]

theorem State.Keeps.takeC (g : [Group.bar, .blt] ⊆ l) (ty) (m) (f : State) (k : s0.Keeps l f) : s0.Keeps l (s.takeC ty m f) := by
  unfold State.takeC
  grind only [State.Keeps.count, State.Keeps.post, List.cons_subset, List.nil_subset]

theorem State.Keeps.redirect (g : [Group.out] ⊆ l) (ty) (m) (p) : s0.Keeps l (s.redirect ty m p) := by
  unfold State.redirect
  grind only [State.Keeps.sendC, State.Keeps.toRegistrar, List.cons_subset, List.nil_subset]

theorem State.Keeps.atRegistrar (g : [Group.bar, .sat, .blt, .out] ⊆ l) (ty) (m) (p) (f : State) (k : s0.Keeps l f) : s0.Keeps l (s.atRegistrar ty m p f) := by
  unfold State.atRegistrar
  grind only [State.Keeps.takeC, State.Keeps.sendC, State.Keeps.redirect, State.Keeps.setSat, keysBelow_aput, keysBelow_adel, keysBelow_amod, keysBelow_amap, = List.mem_append, List.mem_of_mem_erase, = List.mem_map, = List.mem_filter, List.cons_subset, List.nil_subset]

theorem State.Keeps.goes_custodyMessageReturned (g : [Group.bar, .sat, .blt, .out] ⊆ l) (ty) (m) (p) : s0.Goes l (execCustodyMessageReturned ty m p s) := by
  unfold execCustodyMessageReturned
  grind only [State.goes_next, State.Keeps.count, State.Keeps.atRegistrar, List.cons_subset, List.nil_subset]

theorem State.Keeps.lostEvent (g : [Group.bar, .cmd, .host, .out] ⊆ l) (c) : s0.Keeps l (s.lostEvent c) := by
  unfold State.lostEvent
  grind only [State.Keeps.event, List.cons_subset, List.nil_subset]

theorem State.Keeps.rcvScan (g : [Group.bar, .blt] ⊆ l) (model) (start) (xs) : s0.Keeps l (s.rcvScan model start xs).1 := by
  induction xs generalizing s model start with
  | nil => unfold State.rcvScan; grind only [State.Keeps.note, List.cons_subset, List.nil_subset]
  | cons x xs ih => unfold State.rcvScan; grind only [State.Keeps.note, List.cons_subset, List.nil_subset]

theorem State.Keeps.assign (g : [Group.sat, .out] ⊆ l) (c) (k) : s0.Keeps l (s.assign c k) := by
  unfold State.assign
  grind only [State.Keeps.sendC, State.Keeps.modRec, State.Keeps.setSat, keysBelow_aput, keysBelow_adel, keysBelow_amod, keysBelow_amap, = List.mem_append, List.mem_of_mem_erase, = List.mem_map, = List.mem_filter, List.cons_subset, List.nil_subset]

theorem State.Keeps.recoverFailed (g : [Group.bar, .sat, .cmd, .host, .out] ⊆ l) (c) : s0.Keeps l (s.recoverFailed c) := by
  unfold State.recoverFailed
  grind only [State.Keeps.modRec, State.Keeps.done, List.cons_subset, List.nil_subset]

theorem State.Keeps.tryFrom (g : [Group.bar, .sat, .cmd, .blt, .host, .out] ⊆ l) (c) (from_) : s0.Keeps l (s.tryFrom c from_) := by
  unfold State.tryFrom
  grind only [State.Keeps.rcvScan, State.Keeps.assign, State.Keeps.recoverFailed, List.cons_subset, List.nil_subset]

theorem State.Keeps.startRecovery (g : [Group.bar, .sat, .cmd, .blt, .host, .out] ⊆ l) (id) (named) (reply) : s0.Keeps l (s.startRecovery id named reply) := by
  unfold State.startRecovery
  grind only [State.Keeps.modRec, State.Keeps.recoverFailed, State.Keeps.assign, State.Keeps.tryFrom, List.cons_subset, List.nil_subset]

theorem State.Keeps.candidateRefused (g : [Group.bar, .sat, .cmd, .blt, .host, .out] ⊆ l) (c) : s0.Keeps l (s.candidateRefused c) := by
  unfold State.candidateRefused
  grind only [State.Keeps.recoverFailed, State.Keeps.tryFrom, List.cons_subset, List.nil_subset]

theorem State.Keeps.declareLost (g : [Group.bar, .sat, .cmd, .blt, .host, .out] ⊆ l) (id) : s0.Keeps l (s.declareLost id) := by
  unfold State.declareLost
  grind only [State.Keeps.lostEvent, State.Keeps.count, State.Keeps.modRec, State.Keeps.startRecovery, List.cons_subset, List.nil_subset]

theorem State.Keeps.probeOwner (g : [Group.sat, .out] ⊆ l) (c) : s0.Keeps l (s.probeOwner c) := by
  unfold State.probeOwner
  grind only [State.Keeps.sendC, State.Keeps.modRec, List.cons_subset, List.nil_subset]

theorem State.Keeps.queryAnswer (g : [Group.bar, .sat, .cmd, .host, .out, .freeCtr] ⊆ l) (r) (id) : s0.Keeps l (s.queryAnswer r id) := by
  unfold State.queryAnswer
  grind only [State.Keeps.answerLost, State.Keeps.answer, State.Keeps.probeOwner, List.cons_subset, List.nil_subset]

theorem State.Keeps.heldAnswer (g : [Group.bar, .sat, .cmd, .host, .out, .freeCtr] ⊆ l) (r) (id) : s0.Keeps l (s.heldAnswer r id) := by
  unfold State.heldAnswer
  grind only [State.Keeps.done, State.Keeps.answerLost, State.Keeps.queryAnswer, List.cons_subset, List.nil_subset]

theorem State.Keeps.claimed (g : [Group.bar, .sat, .out] ⊆ l) (m) : s0.Keeps l (s.claimed m) := by
  unfold State.claimed
  grind only [State.Keeps.sendC, State.Keeps.count, State.Keeps.modRec, State.Keeps.setSat, keysBelow_aput, keysBelow_adel, keysBelow_amod, keysBelow_amap, = List.mem_append, List.mem_of_mem_erase, = List.mem_map, = List.mem_filter, List.cons_subset, List.nil_subset]

theorem State.Keeps.releaseHeld (g : [Group.bar, .sat, .cmd, .host, .out, .freeCtr] ⊆ l) (id) : s0.Keeps l (s.releaseHeld id) := by
  unfold State.releaseHeld
  refine State.Keeps.foldl (State.Keeps.foldl ?_ _ _ fun t w kt => kt.heldAnswer (groups_sub g rfl) _ _) _ _ fun t m kt => kt.claimed (groups_sub g rfl) _
  exact h.setSat (g (by simp)) _ (fun ok => ok) fun ok => ok

theorem State.Keeps.registerAnswer (g : [Group.out] ⊆ l) (m) (st) (owner) (len) : s0.Keeps l (s.registerAnswer m st owner len) := by
  unfold State.registerAnswer
  grind only [State.Keeps.sendC, List.cons_subset, List.nil_subset]

theorem State.Keeps.goes_register (g : [Group.bar, .sat, .cmd, .blt, .host, .out, .freeCtr] ⊆ l) (m) (image) (log) : s0.Goes l (execRegister m image log s) := by
  unfold execRegister
  refine State.Keeps.atRegistrar h (groups_sub g rfl) _ _ _ _ ?_
  grind only [State.Keeps.atRegistrar, State.Keeps.registerAnswer, State.Keeps.releaseHeld, State.Keeps.count, State.Keeps.setSat, keysBelow_aput, keysBelow_adel, keysBelow_amod, keysBelow_amap, = List.mem_append, List.mem_of_mem_erase, = List.mem_map, = List.mem_filter, List.cons_subset, List.nil_subset]

theorem State.Keeps.nextAttempt (g : [Group.bar, .sat, .kva, .pln, .memory, .fls, .cmd, .host, .out] ⊆ l) (slot) (x) (r) : s0.Keeps l (s.nextAttempt slot x r) := by
  unfold State.nextAttempt
  split
  · exact (h.removeSat (groups_sub g rfl) _).done (groups_sub g rfl) _ _
  · split
    · exact (h.removeSat (groups_sub g rfl) _).done (groups_sub g rfl) _ _
    · next e => exact ((h.nextId (groups_sub g rfl) _ e).modSat (groups_sub g rfl) _ _).sendRegister (groups_sub g rfl) _

theorem State.Keeps.goes_registerAck (g : [Group.bar, .sat, .kva, .pln, .memory, .fls, .cmd, .blt, .host, .out, .freeCtr] ⊆ l) (m) : s0.Goes l (execRegisterAck m s) := by
  unfold execRegisterAck
  refine State.Keeps.takeC h (groups_sub g rfl) _ _ _ ?_
  split
  · exact h
  · refine h.withSlot fun x _ => ?_
    (repeat' split) <;> apply_rules [h, State.Keeps.modSat, State.Keeps.answer, State.Keeps.removeSat, State.Keeps.done, State.Keeps.nextAttempt,
      State.Keeps.publishInk, State.Keeps.loseCopy, groups_sub g] <;> rfl

theorem State.Keeps.goes_registerRetry (g : [Group.sat, .out] ⊆ l) (id) : s0.Goes l (execRegisterRetry id s) := by
  unfold execRegisterRetry
  grind only [State.goes_next, State.withSlot, State.Keeps.sendRegister, List.cons_subset, List.nil_subset]

theorem State.Keeps.mirrorAnswer (g : [Group.out] ⊆ l) (m) (st) (len) : s0.Keeps l (s.mirrorAnswer m st len) := by
  unfold State.mirrorAnswer
  grind only [State.Keeps.sendC, List.cons_subset, List.nil_subset]

theorem State.Keeps.goes_mirror (g : [Group.bar, .sat, .blt, .out, .freeCtr] ⊆ l) (m) (tokens) : s0.Goes l (execMirror m tokens s) := by
  unfold execMirror
  refine State.Keeps.atRegistrar h (groups_sub g rfl) _ _ _ _ ?_
  grind only [State.Keeps.atRegistrar, State.Keeps.mirrorAnswer, State.Keeps.free, State.Keeps.note, State.Keeps.modRec, State.Keeps.setSat, keysBelow_aput, keysBelow_adel, keysBelow_amod, keysBelow_amap, = List.mem_append, List.mem_of_mem_erase, = List.mem_map, = List.mem_filter, List.cons_subset, List.nil_subset]

theorem State.Keeps.goes_mirrorAck (g : [Group.bar, .sat, .kva, .pln, .memory, .fls, .cmd, .blt, .host, .out] ⊆ l) (m) : s0.Goes l (execMirrorAck m s) := by
  unfold execMirrorAck
  refine State.Keeps.takeC h (groups_sub g rfl) _ _ _ ?_
  split
  · exact h
  · refine h.withSlot fun x _ => ?_
    dsimp only
    (repeat' split) <;> apply_rules [h, State.Keeps.modSat, State.Keeps.sendMirror, State.Keeps.publishInk, State.Keeps.sendRegister, groups_sub g] <;> rfl

theorem State.Keeps.goes_mirrorAckOverdue (g : [Group.bar, .sat, .blt] ⊆ l) (id) : s0.Goes l (execMirrorAckOverdue id s) := by
  unfold execMirrorAckOverdue State.withSlot
  dsimp only
  (repeat' split) <;> apply_rules [State.Keeps.next, State.Keeps.note, State.Keeps.modSat] <;> grind only [State.goes_next, State.Keeps.note, State.Keeps.modSat, List.cons_subset, List.nil_subset]

theorem State.Keeps.goes_offerNote (g : [Group.bar, .sat, .blt, .out] ⊆ l) (m) : s0.Goes l (execOfferNote m s) := by
  unfold execOfferNote
  refine State.Keeps.atRegistrar h (groups_sub g rfl) _ _ _ _ ?_
  grind only [State.Keeps.atRegistrar, State.Keeps.modRec, List.cons_subset, List.nil_subset]

theorem State.Keeps.goes_claim (g : [Group.bar, .sat, .blt, .out] ⊆ l) (m) : s0.Goes l (execClaim m s) := by
  unfold execClaim
  refine State.Keeps.atRegistrar h (groups_sub g rfl) _ _ _ _ ?_
  grind only [State.Keeps.atRegistrar, State.Keeps.claimed, List.cons_subset, List.nil_subset]

theorem State.Keeps.abortAnswer (g : [Group.out] ⊆ l) (m) (arg) (st) (peer) : s0.Keeps l (s.abortAnswer m arg st peer) := by
  unfold State.abortAnswer
  grind only [State.Keeps.sendC, List.cons_subset, List.nil_subset]

theorem State.Keeps.goes_abortReq (g : [Group.bar, .sat, .blt, .out] ⊆ l) (m) : s0.Goes l (execAbortReq m s) := by
  unfold execAbortReq
  refine State.Keeps.atRegistrar h (groups_sub g rfl) _ _ _ _ ?_
  grind only [State.Keeps.atRegistrar, State.Keeps.abortAnswer, State.Keeps.count, State.Keeps.modRec, State.Keeps.sendC, List.cons_subset, List.nil_subset]

theorem State.Keeps.goes_surrender (g : [Group.bar, .sat, .cmd, .blt, .host, .out] ⊆ l) (m) : s0.Goes l (execSurrender m s) := by
  unfold execSurrender
  refine State.Keeps.atRegistrar h (groups_sub g rfl) _ _ _ _ ?_
  grind only [State.Keeps.atRegistrar, State.Keeps.declareLost, List.cons_subset, List.nil_subset]

theorem State.Keeps.goes_probeAns (g : [Group.bar, .sat, .cmd, .blt, .host, .out] ⊆ l) (m) : s0.Goes l (execProbeAns m s) := by
  unfold execProbeAns
  refine State.Keeps.atRegistrar h (groups_sub g rfl) _ _ _ _ ?_
  grind only [State.Keeps.atRegistrar, State.Keeps.modRec, State.Keeps.sendC, State.Keeps.declareLost, List.cons_subset, List.nil_subset]

theorem State.Keeps.goes_commitProbeTimer (g : [Group.out] ⊆ l) (id) : s0.Goes l (execCommitProbeTimer id s) := by
  unfold execCommitProbeTimer
  grind only [State.goes_next, State.Keeps.sendC, List.cons_subset, List.nil_subset]

theorem State.Keeps.goes_ownerLossTimeout (g : [Group.bar, .sat, .cmd, .blt, .host, .out] ⊆ l) (id) : s0.Goes l (execOwnerLossTimeout id s) := by
  unfold execOwnerLossTimeout
  grind only [State.goes_next, State.Keeps.declareLost, List.cons_subset, List.nil_subset]

theorem State.Keeps.goes_silentOwnerProbe (g : [Group.sat, .out] ⊆ l) (id) : s0.Goes l (execSilentOwnerProbe id s) := by
  unfold execSilentOwnerProbe
  grind only [State.goes_next, State.Keeps.probeOwner, List.cons_subset, List.nil_subset]

theorem State.Keeps.goes_reregWindowClose (g : [Group.bar, .sat, .cmd, .host, .out, .freeCtr] ⊆ l) (mem) : s0.Goes l (execReregWindowClose mem s) := by
  unfold execReregWindowClose
  refine State.Keeps.next (State.Keeps.foldl ?_ _ _ fun t id kt => kt.releaseHeld (groups_sub g rfl) _)
  exact h.setSat (g (by simp)) _ (fun ok => ok) fun ok => ok

theorem State.Keeps.takeRecord (g : [Group.sat] ⊆ l) (c) : s0.Keeps l (s.takeRecord c) := by
  unfold State.takeRecord
  grind only [State.Keeps.setSat, keysBelow_aput, keysBelow_adel, keysBelow_amod, keysBelow_amap, = List.mem_append, List.mem_of_mem_erase, = List.mem_map, = List.mem_filter, List.cons_subset, List.nil_subset]

theorem State.Keeps.goes_rehomeAck (g : [Group.sat] ⊆ l) (id) (dst) (arrived) (last) : s0.Goes l (execRehomeAck id dst arrived last s) := by
  unfold execRehomeAck
  grind only [State.goes_next, State.Keeps.takeRecord, State.Keeps.setSat, keysBelow_aput, keysBelow_adel, keysBelow_amod, keysBelow_amap, = List.mem_append, List.mem_of_mem_erase, = List.mem_map, = List.mem_filter, List.cons_subset, List.nil_subset]

theorem State.Keeps.decline (g : [Group.out] ⊆ l) (dst) (id) (epoch) (st) : s0.Keeps l (s.decline dst id epoch st) := by
  unfold State.decline
  grind only [State.Keeps.sendC, List.cons_subset, List.nil_subset]

theorem State.Keeps.goes_offer (g : [Group.bar, .sat, .blt, .out] ⊆ l) (m) (x) (full) (part) (inside) (sentBy) (transit) (shardsOk) : s0.Goes l (execOffer m x full part inside sentBy transit shardsOk s) := by
  unfold execOffer
  refine State.Keeps.takeC h (groups_sub g rfl) _ _ _ ?_
  split
  · exact h
  · split
    · exact h.decline (groups_sub g rfl) _ _ _ _
    · exact h.decline (groups_sub g rfl) _ _ _ _
    · next es =>
      split
      · exact h.decline (groups_sub g rfl) _ _ _ _
      · split
        · exact h.decline (groups_sub g rfl) _ _ _ _
        · refine State.Keeps.makeSatellites ?_ (groups_sub g rfl) _ _ _ _
          refine h.setSat (g (by simp)) _ (fun ok => ok) fun ok i mem => ?_
          rcases List.mem_append.1 mem with old | new
          · exact ok i old
          · rw [List.mem_singleton.1 new]
            exact State.freeSlot_lt es

theorem State.Keeps.dropForms (g : [Group.kva] ⊆ l) (slot) : s0.Keeps l (s.dropForms slot) := by
  unfold State.dropForms
  grind only [State.Keeps.setKva, List.cons_subset, List.nil_subset]

theorem State.Keeps.takeForms (g : [Group.kva] ⊆ l) (slot) (forms) : s0.Keeps l (s.takeForms slot forms) := by
  unfold State.takeForms
  grind only [State.Keeps.setIndex, State.Keeps.setKva, State.Keeps.foldl, List.cons_subset, List.nil_subset]

theorem State.Keeps.discard (g : [Group.sat, .kva, .pln, .memory, .fls, .out] ⊆ l) (i) : s0.Keeps l (s.discard i) := by
  unfold State.discard
  extract_lets _ s1 s2
  have k1 : s0.Keeps l s1 := h.setSat (g (by simp)) _ (fun ok => ok) fun ok j mem => ok j (List.mem_of_mem_erase mem)
  clear_value s1
  have k2 : s0.Keeps l s2 := ((k1.unplace (groups_sub g rfl) _).makeSatellites (groups_sub g rfl) _ _ _ _).dropForms (groups_sub g rfl) _
  clear_value s2
  exact (k2.foldl _ _ fun t r kt => kt.dropRow (groups_sub g rfl) _ _).ite k2

theorem State.Keeps.fillFree (g : [Group.kva, .memory, .freeCtr] ⊆ l) (q) (first) : s0.Keeps l (s.fillFree q first) := by
  unfold State.fillFree
  grind only [State.Keeps.physWrite, State.Keeps.setKva, State.Keeps.setFreeCtr, State.Keeps.mk, List.cons_subset, List.nil_subset]

theorem State.Keeps.copyRow (g : [Group.kva, .memory] ⊆ l) (from_) (to_) (n) (tag) (fill) : s0.Keeps l (s.copyRow from_ to_ n tag fill) := by
  unfold State.copyRow
  grind only [State.Keeps.setKva, State.Keeps.setMemory, State.Keeps.mk, Memory.wf_memWrite, Memory.wf_memZero, Memory.wf_memCopy, State.Keeps.foldl, List.cons_subset, List.nil_subset]

theorem State.Keeps.takeRows (g : [Group.kva, .pln, .memory, .freeCtr] ⊆ l) (i) (xs) {t y'} (e : s.takeRows i xs = some (y', t)) : s0.Keeps l t := by
  induction xs generalizing s y' with
  | nil =>
    unfold State.takeRows at e
    cases e
    exact h
  | cons r xs ih =>
    unfold State.takeRows at e
    split at e
    · split at e
      · cases e
      · next e1 =>
        obtain ⟨w, ew, same⟩ := Option.map_eq_some_iff.1 e
        cases same
        have k1 := h.allocRow (groups_sub g rfl) _ _ e1
        exact ih ((k1.copyRow (groups_sub g rfl) _ _ _ _ _).ite (k1.fillFree (groups_sub g rfl) _ _)) ew
    · obtain ⟨w, ew, same⟩ := Option.map_eq_some_iff.1 e
      cases same
      exact ih h ew

theorem State.Keeps.claimWhen (g : [Group.sat, .out] ⊆ l) (i) (shardsTaken) : s0.Keeps l (s.claimWhen i shardsTaken) := by
  unfold State.claimWhen
  grind only [State.Keeps.toRegistrar, State.Keeps.setSat, keysBelow_aput, keysBelow_adel, keysBelow_amod, keysBelow_amap, = List.mem_append, List.mem_of_mem_erase, = List.mem_map, = List.mem_filter, List.cons_subset, List.nil_subset]

theorem State.Keeps.goes_receiverDataComplete (g : [Group.sat, .kva, .pln, .memory, .fls, .out, .freeCtr] ⊆ l) (id) (result) (log) (forms) (shardsTaken) : s0.Goes l (execReceiverDataComplete id result log forms shardsTaken s) := by
  unfold execReceiverDataComplete
  split
  · exact h
  · next i _ =>
    have kd (st) : s0.Keeps l ((s.discard i).decline i.sender id i.epoch st) :=
      (h.discard (groups_sub g rfl) i).decline (groups_sub g rfl) _ _ _ _
    split
    · exact h.claimWhen (groups_sub g rfl) _ _
    · split
      · exact kd _
      · split
        · exact kd _
        · split
          · exact kd _
          · extract_lets lodged
            split
            · exact kd _
            · next rows u e =>
              have ku : s0.Keeps l u := by
                split at e
                · exact h.takeRows (groups_sub g rfl) _ _ e
                · cases e
                  exact h
              split
              · refine State.Keeps.next (State.Keeps.decline (State.Keeps.discard (ku.foldl _ _ fun t r kt => ?_) (groups_sub g rfl) _) (groups_sub g rfl) _ _ _ _)
                exact (kt.dropRow (groups_sub g rfl) _ _).ite kt
              · next e1 =>
                extract_lets pl1 j _ s2
                have k2 : s0.Keeps l s2 := by
                  refine (ku.place (groups_sub g rfl) _ _ _ _ _ e1).setSat (g (by simp)) _ (fun ok => ok) fun ok y mem => ?_
                  obtain ⟨z, old, rfl⟩ := List.mem_map.1 mem
                  split
                  · next same => exact (same ▸ ok z old : i.slot < 4194304)
                  · exact ok z old
                clear_value s2
                exact State.Keeps.next (((k2.takeForms (groups_sub g rfl) _ _).ite k2).claimWhen (groups_sub g rfl) _ _)

theorem State.Keeps.commitSatellites (g : [Group.out] ⊆ l) (i) (st) : s0.Keeps l (s.commitSatellites i st) := by
  unfold State.commitSatellites
  grind only [State.Keeps.emit, State.Keeps.foldl, List.cons_subset, List.nil_subset]

theorem State.Keeps.becomeOwner (g : [Group.bar, .sat, .kva, .pln, .memory, .fls, .sec, .out] ⊆ l) (i) (m) (mem : i ∈ s.sat.incoming) : s0.Keeps l (s.becomeOwner i m) := by
  unfold State.becomeOwner
  extract_lets st mig _ x _ s1 s2
  have k1 : s0.Keeps l s1 := by
    refine h.setSatOk (g (by simp)) _ fun ok => ⟨?_, fun j mj => ?_⟩
    · exact keysBelow_aput ok.1 (ok.2 i mem) _
    · exact ok.2 j (List.mem_of_mem_erase mj)
  clear_value s1
  have k2 : s0.Keeps l s2 := (k1.commitSatellites (groups_sub g rfl) _ _).sendC (groups_sub g rfl) _ _ _ _
  clear_value s2
  exact (k2.beginRevive (groups_sub g rfl) _ _).ite k2

theorem State.Keeps.goes_commit (g : [Group.bar, .sat, .kva, .pln, .memory, .fls, .blt, .sec, .out] ⊆ l) (m) : s0.Goes l (execCommit m s) := by
  unfold execCommit
  refine State.Keeps.takeC h (groups_sub g rfl) _ _ _ ?_
  split
  · next e =>
    exact (h.becomeOwner (groups_sub g rfl) _ _ (List.mem_of_find?_eq_some e)).ite ((h.discard (groups_sub g rfl) _).decline (groups_sub g rfl) _ _ _ _)
  · exact (h.toRegistrar (groups_sub g rfl) _ _ _).ite h

theorem State.Keeps.goes_commitTimeout (g : [Group.sat, .kva, .pln, .memory, .fls, .out] ⊆ l) (id) : s0.Goes l (execCommitTimeout id s) := by
  unfold execCommitTimeout
  grind only [State.goes_next, State.Keeps.decline, State.Keeps.discard, List.cons_subset, List.nil_subset]

theorem State.Keeps.goes_release (g : [Group.bar, .sat, .kva, .pln, .memory, .fls, .cmd, .blt, .sec, .host, .out] ⊆ l) (m) : s0.Goes l (execRelease m s) := by
  unfold execRelease State.withSlot
  refine State.Keeps.takeC h (groups_sub g rfl) _ _ _ ?_
  dsimp only
  (repeat' split) <;> apply_rules [State.Keeps.next, State.Keeps.takeC, State.Keeps.moveCommitted] <;> grind only [State.goes_next, State.Keeps.takeC, State.Keeps.moveCommitted, List.cons_subset, List.nil_subset]

theorem State.Keeps.goes_decline (g : [Group.bar, .sat, .blt, .out] ⊆ l) (m) : s0.Goes l (execDecline m s) := by
  unfold execDecline State.withSlot
  refine State.Keeps.takeC h (groups_sub g rfl) _ _ _ ?_
  dsimp only
  (repeat' split) <;> apply_rules [State.Keeps.next, State.Keeps.takeC, State.Keeps.sendAbort, State.Keeps.modSat] <;> grind only [State.goes_next, State.Keeps.takeC, State.Keeps.sendAbort, State.Keeps.modSat, List.cons_subset, List.nil_subset]

theorem State.Keeps.goes_releaseTimeout (g : [Group.sat, .out] ⊆ l) (id) : s0.Goes l (execReleaseTimeout id s) := by
  unfold execReleaseTimeout
  grind only [State.goes_next, State.Keeps.sendAbort, List.cons_subset, List.nil_subset]

theorem State.Keeps.goes_abortAns (g : [Group.bar, .sat, .kva, .pln, .memory, .fls, .cmd, .blt, .sec, .host, .out, .freeCtr] ⊆ l) (m) : s0.Goes l (execAbortAns m s) := by
  unfold execAbortAns
  refine State.Keeps.takeC h (groups_sub g rfl) _ _ _ ?_
  split
  · refine State.Keeps.ite ?_ (State.Keeps.ite ?_ (h.withSlot fun x _ => ?_))
    · exact (h.thaw (groups_sub g rfl) _).surrenderLive (groups_sub g rfl) _
    · exact h.moveCommitted (groups_sub g rfl) _
    · exact (h.ite (h.forwardCancel (groups_sub g rfl) _ _ _)).loseCopy (groups_sub g rfl) _ _
  · split
    · exact h.discard (groups_sub g rfl) _
    · split
      · exact h.withSlot fun x _ => (h.removeSat (groups_sub g rfl) _).ite h
      · exact h

theorem State.Keeps.goes_probe (g : [Group.bar, .blt, .out] ⊆ l) (m) : s0.Goes l (execProbe m s) := by
  unfold execProbe
  refine State.Keeps.takeC h (groups_sub g rfl) _ _ _ ?_
  grind only [State.Keeps.takeC, State.Keeps.sendC, List.cons_subset, List.nil_subset]

theorem State.Keeps.goes_recoverAssign (g : [Group.bar, .sat, .memory, .blt, .out] ⊆ l) (m) (part) (image) (log) : s0.Goes l (execRecoverAssign m part image log s) := by
  unfold execRecoverAssign
  refine State.Keeps.takeC h (groups_sub g rfl) _ _ _ ?_
  split
  · exact h.sendC (groups_sub g rfl) _ _ _ _
  · split
    · exact h.sendC (groups_sub g rfl) _ _ _ _
    · next e =>
      obtain ⟨slot, es, e1⟩ := Option.bind_eq_some_iff.1 e
      obtain ⟨r, er, same⟩ := Option.map_eq_some_iff.1 e1
      cases same
      refine State.Keeps.sendC (State.Keeps.makeSatellites ?_ (groups_sub g rfl) _ _ _ _) (groups_sub g rfl) _ _ _ _
      exact (h.place (groups_sub g rfl) _ _ _ _ _ er).setSat (g (by simp)) _ (fun ok => keysBelow_aput ok (State.freeSlot_lt es) _) fun ok => ok

theorem State.Keeps.goes_recoverAns (g : [Group.bar, .sat, .cmd, .blt, .host, .out] ⊆ l) (m) : s0.Goes l (execRecoverAns m s) := by
  unfold execRecoverAns
  grind only [State.goes_next, State.Keeps.sendC, State.Keeps.atRegistrar, State.Keeps.count, State.Keeps.modRec, State.Keeps.answer, State.Keeps.candidateRefused, List.cons_subset, List.nil_subset]

theorem State.Keeps.goes_recoverAnsTimeout (g : [Group.bar, .sat, .cmd, .blt, .host, .out] ⊆ l) (id) : s0.Goes l (execRecoverAnsTimeout id s) := by
  unfold execRecoverAnsTimeout
  grind only [State.goes_next, State.Keeps.candidateRefused, List.cons_subset, List.nil_subset]

theorem State.Keeps.goes_custodyUndelivered (g : [Group.bar, .sat, .cmd, .blt, .host, .out] ⊆ l) (ty) (dst) (m) (_p) : s0.Goes l (execCustodyUndelivered ty dst m _p s) := by
  unfold execCustodyUndelivered
  grind only [State.goes_next, State.Keeps.modRec, State.Keeps.candidateRefused, List.cons_subset, List.nil_subset]

theorem State.Keeps.holdQuery (g : [Group.sat] ⊆ l) (r) (id) : s0.Keeps l (s.holdQuery r id) := by
  unfold State.holdQuery
  grind only [State.Keeps.setSat, keysBelow_aput, keysBelow_adel, keysBelow_amod, keysBelow_amap, = List.mem_append, List.mem_of_mem_erase, = List.mem_map, = List.mem_filter, List.cons_subset, List.nil_subset]

theorem State.Keeps.queryOrHold (g : [Group.bar, .sat, .cmd, .host, .out, .freeCtr] ⊆ l) (r) (id) : s0.Keeps l (s.queryOrHold r id) := by
  unfold State.queryOrHold
  grind only [State.Keeps.holdQuery, State.Keeps.queryAnswer, List.cons_subset, List.nil_subset]

theorem State.Keeps.passOn (g : [Group.bar, .cmd, .host, .out] ⊆ l) (q) (hd) (r) (id) : s0.Keeps l (s.passOn q hd r id) := by
  unfold State.passOn
  grind only [State.Keeps.forward, State.Keeps.done, List.cons_subset, List.nil_subset]

theorem State.Keeps.goes_satchelQuery (g : [Group.bar, .stk, .sat, .memory, .cmd, .host, .out, .freeCtr] ⊆ l) (hd) (id) (outAddr) : s0.Goes l (execSatchelQuery hd id outAddr s) := by
  unfold execSatchelQuery
  grind only [State.goes_next, State.Keeps.serve, State.Keeps.done, State.Keeps.writeAddr, State.Keeps.queryOrHold, State.Keeps.passOn, List.cons_subset, List.nil_subset]

theorem State.Keeps.goes_satchelRecover (g : [Group.bar, .stk, .sat, .cmd, .blt, .host, .out, .freeCtr] ⊆ l) (hd) (id) (dev) (dpart) (rsv) : s0.Goes l (execSatchelRecover hd id dev dpart rsv s) := by
  unfold execSatchelRecover
  dsimp only
  (repeat' split) <;> apply_rules [State.Keeps.next, State.Keeps.serve, State.Keeps.done, State.Keeps.passOn, State.Keeps.answerLost, State.Keeps.holdQuery, State.Keeps.accepted, State.Keeps.modRec, State.Keeps.startRecovery] <;> grind only [State.goes_next, State.Keeps.serve, State.Keeps.done, State.Keeps.passOn, State.Keeps.answerLost, State.Keeps.holdQuery, State.Keeps.accepted, State.Keeps.modRec, State.Keeps.startRecovery, List.cons_subset, List.nil_subset]

theorem State.Keeps.goes_migrationComplete (g : [Group.sat, .kva, .pln, .fls, .out] ⊆ l) (id) : s0.Goes l (execMigrationComplete id s) := by
  unfold execMigrationComplete State.withCtx
  dsimp only
  (repeat' split) <;> apply_rules [State.Keeps.next, State.Keeps.endLodging, State.Keeps.modCtx, State.Keeps.freeLodging] <;> grind only [State.goes_next, State.Keeps.endLodging, State.Keeps.modCtx, State.Keeps.freeLodging, List.cons_subset, List.nil_subset]

theorem State.Keeps.goes_lodgingExpiry (g : [Group.sat, .kva, .pln, .fls] ⊆ l) (id) : s0.Goes l (execLodgingExpiry id s) := by
  unfold execLodgingExpiry
  grind only [State.goes_next, State.Keeps.freeLodging, List.cons_subset, List.nil_subset]

end
end Sys2Proof.Machine
end

section
/-!
PROOFS. What the operations keep: parking, KV and shards.
-/
namespace Sys2Proof.Machine
section
variable {s0 s : State} {l : List Group} (h : s0.Keeps l s)
include h
theorem State.Keeps.parkCount (g : [Group.pln] ⊆ l) (x0) (f) : s0.Keeps l (s.parkCount x0 f) := by
  unfold State.parkCount
  grind only [State.Keeps.setPln, = List.length_modify, = List.length_map, List.cons_subset, List.nil_subset]

theorem State.Keeps.makeRoom (cold) (tenant) (need) (demote : State → Nat → State) (n) (xs) (xs') (k : ∀ a b, s0.Keeps l a → s0.Keeps l (demote a b)) : s0.Keeps l (State.makeRoom cold tenant need demote n xs xs' s).1 := by
  induction n generalizing s xs xs' with
  | zero => exact h
  | succ n ih =>
    unfold State.makeRoom
    dsimp only
    split
    · exact h
    · split
      · exact h
      · exact ih (k _ _ h) _ _

theorem State.Keeps.beginCache (g : [Group.sat] ⊆ l) (slot) : s0.Keeps l (s.beginCache slot) := by
  unfold State.beginCache
  grind only [State.Keeps.modSat, List.cons_subset, List.nil_subset]

theorem State.Keeps.poolWait (g : [Group.bar, .sat, .pln, .blt] ⊆ l) (slot) (x) : s0.Keeps l (s.poolWait slot x) := by
  unfold State.poolWait
  grind only [State.Keeps.parkCount, State.Keeps.modSat, State.Keeps.note, List.cons_subset, List.nil_subset]

theorem State.Keeps.coldWrite (g : [Group.sat, .kva, .fls, .sec] ⊆ l) (c) : s0.Keeps l (s.coldWrite c) := by
  unfold State.coldWrite State.withCtx
  dsimp only
  (repeat' split) <;> apply_rules [State.Keeps.modCtx, State.Keeps.t2Begin, State.Keeps.drawNonce, State.Keeps.abandonPark] <;> grind only [State.Keeps.modCtx, State.Keeps.t2Begin, State.Keeps.drawNonce, State.Keeps.abandonPark, State.Keeps.setKva, List.cons_subset, List.nil_subset]

theorem State.Keeps.startPark (g : [Group.sat, .kva, .fls, .sec] ⊆ l) (cold) (c) (need) : s0.Keeps l (s.startPark cold c need) := by
  unfold State.startPark
  grind only [State.withCtx, State.Keeps.modCtx, State.Keeps.coldWrite, List.cons_subset, List.nil_subset]

theorem State.Keeps.demoteCold (g : [Group.sat, .pln] ⊆ l) (slot) : s0.Keeps l (s.demoteCold slot) := by
  unfold State.demoteCold
  grind only [State.withSlot, State.Keeps.parkCount, State.Keeps.beginCache, List.cons_subset, List.nil_subset]

theorem State.Keeps.takeRoom (g : [Group.bar, .sat, .pln, .blt] ⊆ l) (cold) (slot) (need) (demote : State → Nat → State) (k : ∀ a b, s0.Keeps l a → s0.Keeps l (demote a b))
    (begin_ : State → State) (kb : ∀ a, s0.Keeps l a → s0.Keeps l (begin_ a)) : s0.Keeps l (s.takeRoom cold slot need demote begin_) := by
  unfold State.takeRoom
  refine h.withSlot fun x _ => ?_
  split
  · exact kb _ h
  · have k1 := h.makeRoom cold x.tenant need demote ((s.demotables cold slot).length + 1) [] (s.demotables cold slot) k
    dsimp only
    split
    · next e => exact k1.fst e
    · next e => exact (k1.fst e).poolWait (groups_sub g rfl) _ _

theorem State.Keeps.beginPark (g : [Group.bar, .sat, .kva, .pln, .fls, .blt, .sec] ⊆ l) (cold) (slot) (demote : State → Nat → State)
    (k : ∀ a b, s0.Keeps l a → s0.Keeps l (demote a b)) : s0.Keeps l (s.beginPark cold slot demote) := by
  unfold State.beginPark
  exact h.withSlot fun x _ => h.ite (h.takeRoom (groups_sub g rfl) _ _ _ _ k _ fun a ka => ka.startPark (groups_sub g rfl) _ _ _)

theorem State.Keeps.beginCold (g : [Group.bar, .sat, .kva, .pln, .fls, .blt, .sec] ⊆ l) (slot) : s0.Keeps l (s.beginCold slot) := by
  unfold State.beginCold
  exact h.beginPark g _ _ _ fun a b ka => ka.demoteCold (groups_sub g rfl) _

theorem State.Keeps.coldPath (g : [Group.bar, .sat, .kva, .pln, .fls, .blt, .sec] ⊆ l) (slot) : s0.Keeps l (s.coldPath slot) := by
  unfold State.coldPath
  grind only [State.withSlot, State.Keeps.beginCache, State.Keeps.beginCold, List.cons_subset, List.nil_subset]

theorem State.Keeps.demoteWarm (g : [Group.bar, .sat, .kva, .pln, .fls, .blt, .sec] ⊆ l) (slot) : s0.Keeps l (s.demoteWarm slot) := by
  unfold State.demoteWarm
  grind only [State.withSlot, State.Keeps.coldPath, State.Keeps.parkCount, List.cons_subset, List.nil_subset]

theorem State.Keeps.beginWarm (g : [Group.bar, .sat, .kva, .pln, .fls, .blt, .sec] ⊆ l) (slot) : s0.Keeps l (s.beginWarm slot) := by
  unfold State.beginWarm
  exact h.beginPark g _ _ _ fun a b ka => ka.demoteWarm (groups_sub g rfl) _

theorem State.Keeps.beginWarmRestore (g : [Group.bar, .sat, .kva, .pln, .fls, .blt, .sec] ⊆ l) (slot) (pass) : s0.Keeps l (s.beginWarmRestore slot pass) := by
  unfold State.beginWarmRestore
  exact h.withSlot fun x _ => h.takeRoom (groups_sub g rfl) _ _ _ _ (fun a b ka => ka.demoteWarm (groups_sub g rfl) _) _
    fun a ka => ka.modSat (groups_sub g rfl) _ _

theorem State.Keeps.inkToBlocks (g : [Group.bar, .sat, .kva, .pln] ⊆ l) (slot) (x) : s0.Keeps l (s.inkToBlocks slot x) := by
  unfold State.inkToBlocks
  extract_lets q step w s1
  have ks : ∀ (rows : List Row) (a : State × Nat × List Row), s0.Keeps l a.1 → s0.Keeps l (rows.foldl step a).1 := by
    intro rows
    induction rows with
    | nil => exact fun a ka => ka
    | cons r rows ih =>
      refine fun a ka => ih _ ?_
      unfold step
      split
      · exact (ka.foldl _ _ fun t j kt => kt.encodeAt (groups_sub g rfl) _ _ _ _ _).inkRelease (groups_sub g rfl) _
      · exact ka
  have kw : s0.Keeps l w.1 := ks _ (s, (s.formsOf slot).length, []) h
  clear_value w
  exact ((kw.setIndex (groups_sub g rfl) _ _ _).modSat (groups_sub g rfl) _ _).ite h

theorem State.Keeps.cacheNext (g : [Group.bar, .sat, .kva, .pln, .fls, .blt, .sec] ⊆ l) (slot) (tried) : s0.Keeps l (s.cacheNext slot tried) := by
  unfold State.cacheNext State.withSlot
  dsimp only
  (repeat' split) <;> apply_rules [State.Keeps.beginWarmRestore, State.Keeps.modPart, State.Keeps.inkToBlocks, State.Keeps.modSat, State.Keeps.beginCold] <;> grind only [State.Keeps.beginWarmRestore, State.Keeps.modPart, State.Keeps.inkToBlocks, State.Keeps.modSat, State.Keeps.beginCold, List.cons_subset, List.nil_subset]

theorem State.Keeps.goes_cachePathRetry (g : [Group.sat] ⊆ l) (id) : s0.Goes l (execCachePathRetry id s) := by
  unfold execCachePathRetry
  grind only [State.goes_next, State.withSlot, State.Keeps.beginCache, List.cons_subset, List.nil_subset]

theorem State.Keeps.beginDue (g : [Group.bar, .sat, .kva, .pln, .fls, .blt, .sec] ⊆ l) (slot) (x) : s0.Keeps l (s.beginDue slot x) := by
  unfold State.beginDue
  grind only [State.Keeps.beginCold, State.Keeps.beginWarm, State.Keeps.coldPath, List.cons_subset, List.nil_subset]

theorem State.Keeps.takeDue (g : [Group.bar, .sat, .kva, .pln, .fls, .blt, .sec] ⊆ l) (n) (xs) : s0.Keeps l (s.takeDue n xs) := by
  induction xs generalizing s n with
  | nil =>
    unfold State.takeDue
    exact h
  | cons v xs ih =>
    have k1 := h.beginDue (groups_sub g rfl) v.1 v.2
    unfold State.takeDue
    exact h.ite ((ih k1 _).ite (ih k1 _))

theorem State.Keeps.retryRevive (g : [Group.bar, .sat, .kva, .pln, .memory, .fls, .sec, .out] ⊆ l) (c) (x) : s0.Keeps l (s.retryRevive c x) := by
  unfold State.retryRevive
  grind only [State.Keeps.beginRevive, List.cons_subset, List.nil_subset]

theorem State.Keeps.trimCold (g : [Group.fls] ⊆ l) : s0.Keeps l (s.trimCold) := by
  unfold State.trimCold
  grind only [State.Keeps.setFls, Memory.wf_memWrite, Memory.wf_memZero, Memory.wf_memCopy, State.Keeps.foldl, List.cons_subset, List.nil_subset]

theorem State.Keeps.goes_parkingDue (g : [Group.bar, .sat, .kva, .pln, .memory, .fls, .blt, .sec, .out] ⊆ l) (part) : s0.Goes l (execParkingDue part s) := by
  unfold execParkingDue
  extract_lets mine s1 s2 due
  have k1 : s0.Keeps l s1 := h.foldl _ _ fun t e kt => by
    split
    · exact (kt.cacheNext (groups_sub g rfl) _ _).ite kt
    · exact kt.retryRevive (groups_sub g rfl) _ _
  have k2 : s0.Keeps l s2 := k1.foldl _ _ fun t e kt => kt.retryRevive (groups_sub g rfl) _ _
  exact State.Keeps.next ((k2.takeDue (groups_sub g rfl) _ _).trimCold (groups_sub g rfl))

theorem State.Keeps.leaveHome (g : [Group.sat, .kva, .pln, .memory, .fls] ⊆ l) (c) (x) : s0.Keeps l (s.leaveHome c x) := by
  unfold State.leaveHome
  grind only [State.Keeps.dropSwapOut, State.Keeps.dropRow, State.Keeps.modCtx, State.Keeps.uncarve, State.Keeps.foldl, List.cons_subset, List.nil_subset]

theorem State.Keeps.parked (g : [Group.sat, .kva, .pln, .memory, .fls] ⊆ l) (c) (x) (cold) : s0.Keeps l (s.parked c x cold) := by
  unfold State.parked
  grind only [State.Keeps.setIndex, State.Keeps.leaveHome, State.Keeps.modCtx, State.Keeps.setKva, List.cons_subset, List.nil_subset]

theorem State.Keeps.rewarmed (g : [Group.sat, .kva, .fls] ⊆ l) (c) (x) (pass) : s0.Keeps l (s.rewarmed c x pass) := by
  unfold State.rewarmed
  grind only [State.Keeps.freeBlocks, State.Keeps.modCtx, State.Keeps.setIndex, State.Keeps.setKva, State.Keeps.foldl, List.cons_subset, List.nil_subset]

theorem State.Keeps.goes_parkingComplete (g : [Group.sat, .kva, .pln, .memory, .fls, .out] ⊆ l) (id) : s0.Goes l (execParkingComplete id s) := by
  unfold execParkingComplete
  split
  · exact h
  · refine State.Keeps.next (h.withCtx fun x _ => ?_)
    split
    · have k1 := fun c cold i => (h.parked (groups_sub g rfl) c x cold).toOthers (groups_sub g rfl) c x i
      exact h.ite (((k1 _ _ _).parkCount (groups_sub g rfl) _ _).ite (k1 _ _ _))
    · exact h.rewarmed (groups_sub g rfl) _ _ _
    · exact h

theorem State.Keeps.resident (g : [Group.sat, .kva, .cores, .fls] ⊆ l) (c) (state) : s0.Keeps l (s.resident c state) := by
  unfold State.resident State.withCtx
  dsimp only
  (repeat' split) <;> apply_rules [State.Keeps.modCtx, State.Keeps.freeBlocks, State.Keeps.rowsBack] <;> grind only [State.Keeps.modCtx, State.Keeps.freeBlocks, State.Keeps.rowsBack, List.cons_subset, List.nil_subset]

theorem State.Keeps.enterPrefill (g : [Group.sat, .kva, .cores, .pln, .fls] ⊆ l) (slot) : s0.Keeps l (s.enterPrefill slot) := by
  unfold State.enterPrefill State.withSlot
  dsimp only
  (repeat' split) <;> apply_rules [State.Keeps.parkCount, State.Keeps.resident] <;> grind only [State.Keeps.parkCount, State.Keeps.resident, List.cons_subset, List.nil_subset]

theorem State.Keeps.goes_revivalResident (g : [Group.sat, .kva, .cores, .pln, .fls] ⊆ l) (id) : s0.Goes l (execRevivalResident id s) := by
  unfold execRevivalResident State.withCtx
  dsimp only
  (repeat' split) <;> apply_rules [State.Keeps.next, State.Keeps.resident, State.Keeps.enterPrefill] <;> grind only [State.goes_next, State.Keeps.resident, State.Keeps.enterPrefill, List.cons_subset, List.nil_subset]

theorem State.Keeps.goes_leadRestoreStart (g : [Group.bar, .sat, .kva, .pln, .memory, .fls, .sec, .out] ⊆ l) (id) : s0.Goes l (execLeadRestoreStart id s) := by
  unfold execLeadRestoreStart
  grind only [State.goes_next, State.withSlot, State.Keeps.beginRevive, List.cons_subset, List.nil_subset]

theorem State.Keeps.goes_waitTimeoutExpiry (g : [Group.bar, .sat, .kva, .cores, .pln, .memory, .fls, .cmd, .sec, .host, .out] ⊆ l) (id) : s0.Goes l (execWaitTimeoutExpiry id s) := by
  unfold execWaitTimeoutExpiry
  split
  · exact h
  · refine State.Keeps.next (h.withSlot fun x _ => ?_)
    split
    · exact h
    · refine h.ite ((h.applyCancel (groups_sub g rfl) _).ite (State.Keeps.ite ?_ h))
      refine (h.finish (groups_sub g rfl) _ _ _).ite ?_
      split
      · exact h
      · next e =>
        have k1 := (h.growLog (groups_sub g rfl) _ _ e).takeAppend (groups_sub g rfl)
        have k2 := fun slot tokens revive => (k1 slot tokens revive).eventAt (groups_sub g rfl)
        exact ((k2 _ _ _ _ _ _ _ _ _).enterPrefill (groups_sub g rfl) _).ite (k2 _ _ _ _ _ _ _ _ _)

theorem State.Keeps.laneError (g : [Group.bar] ⊆ l) (gr) : s0.Keeps l (s.laneError gr) := by
  unfold State.laneError
  grind only [State.Keeps.setFld, List.cons_subset, List.nil_subset]

theorem State.Keeps.placeBlock (g : [Group.kva, .memory] ⊆ l) (x) (block) (raw) : s0.Keeps l (s.placeBlock x block raw) := by
  unfold State.placeBlock
  grind only [State.Keeps.putBlock, State.Keeps.physWrite, List.cons_subset, List.nil_subset]

theorem State.Keeps.blockDone (g : [Group.bar, .sat, .kva, .memory] ⊆ l) (c) (x) (block) (raw) : s0.Keeps l (s.blockDone c x block raw) := by
  unfold State.blockDone
  grind only [State.Keeps.modCtx, State.Keeps.count, State.Keeps.placeBlock, List.cons_subset, List.nil_subset]

theorem State.Keeps.blockFailed (g : [Group.kva, .memory, .freeCtr] ⊆ l) (x) (block) : s0.Keeps l (s.blockFailed x block) := by
  unfold State.blockFailed
  grind only [State.Keeps.placeBlock, State.Keeps.setFreeCtr, List.cons_subset, List.nil_subset]

theorem State.Keeps.blockEncoded (g : [Group.bar, .sat, .kva, .fls, .sec] ⊆ l) (c) (x) (block) (cold) : s0.Keeps l (s.blockEncoded c x block cold) := by
  unfold State.blockEncoded
  grind only [State.Keeps.encodeAt, State.Keeps.modCtx, State.withCtx, State.Keeps.coldWrite, List.cons_subset, List.nil_subset]

theorem State.Keeps.lowerCtx (g : [Group.bar, .sat, .kva, .pln, .fls, .cmd, .host, .out] ⊆ l) (c) : s0.Keeps l (s.lowerCtx c) := by
  unfold State.lowerCtx
  split
  · exact h.lowerTier (groups_sub g rfl) _
  · split
    · exact (h.freeCtx (groups_sub g rfl) _).emit (groups_sub g rfl) _
    · exact h

theorem State.Keeps.goes_codecBlockComplete (g : [Group.bar, .sat, .kva, .memory, .fls, .blt, .sec, .freeCtr] ⊆ l) (id) (block) (encode) (group) (errors) (index) (fetched) : s0.Goes l (execCodecBlockComplete id block encode group errors index fetched s) := by
  unfold execCodecBlockComplete
  split
  · exact h
  · refine State.Keeps.next (h.withCtx fun x _ => ?_)
    split
    · refine h.ite ?_
      have k1 := h.ite (c := errors = 0) (h.laneError (groups_sub g rfl) group.val)
      exact ((k1.post (groups_sub g rfl) _).abandonPark (groups_sub g rfl) _).ite (k1.blockEncoded (groups_sub g rfl) _ _ _ _)
    · refine h.ite ?_
      split
      · exact h.blockDone (groups_sub g rfl) _ _ _ _
      · exact (h.blockFailed (groups_sub g rfl) _ _).setKva (g (by simp)) _
    · exact h

theorem State.Keeps.goes_codecReread (g : [Group.bar, .sat, .kva, .pln, .memory, .fls, .cmd, .blt, .host, .out] ⊆ l) (id) (block) (group) (index) (fetched) : s0.Goes l (execCodecReread id block group index fetched s) := by
  unfold execCodecReread
  split
  · exact h
  · refine State.Keeps.next (h.withCtx fun x _ => State.Keeps.ite ?_ h)
    extract_lets _ s1 _ f
    have k1 : s0.Keeps l s1 := h.setKva (g (by simp)) _
    clear_value s1
    split
    · have k2 := fun c raw => (k1.blockDone (groups_sub g rfl) c x block raw).count (groups_sub g rfl) Reg.cdcCntTransient 1
      exact ((k2 _ _).transient (groups_sub g rfl) _).ite (k2 _ _)
    · exact ((k1.count (groups_sub g rfl) _ _).post (groups_sub g rfl) _).lowerCtx (groups_sub g rfl) _

theorem State.Keeps.goes_codewordDecode (g : [Group.bar, .sat, .kva, .pln, .fls, .cmd, .blt, .host, .out] ⊆ l) (pua) (_decoder) (bits_) (how) (_verify) : s0.Goes l (execCodewordDecode pua _decoder bits_ how _verify s) := by
  have k1 := h.decoded (groups_sub g rfl) pua bits_ how
  unfold execCodewordDecode
  exact State.Keeps.next (((k1.unreadable (groups_sub g rfl) _).foldl _ _ fun t c kt => kt.lowerCtx (groups_sub g rfl) _).ite k1)

theorem State.Keeps.goes_parkConfig (g : [Group.bar, .stk, .pln, .cmd, .host, .out] ⊆ l) (hd) (cfg) (nTargets) (revivePart) (rsv) : s0.Goes l (execParkConfig hd cfg nTargets revivePart rsv s) := by
  unfold execParkConfig
  refine State.Keeps.serve h (groups_sub g rfl) _ _ _ _ fun r t k => ?_
  grind only [State.Keeps.serve, State.Keeps.done, State.Keeps.modPart, List.cons_subset, List.nil_subset]

theorem State.Keeps.sizeWarm (g : [Group.memory] ⊆ l) (units) {t} (e : s.sizeWarm units = some t) : s0.Keeps l t := by
  have k1 := h.uncarve (groups_sub g rfl) 6
  unfold State.sizeWarm at e
  dsimp only at e
  split at e
  · cases e
    exact k1
  · obtain ⟨c, ec, rfl⟩ := Option.map_eq_some_iff.1 e
    exact k1.carve (groups_sub g rfl) _ _ ec

theorem State.Keeps.sizeCold (g : [Group.fls] ⊆ l) (units) {t} (e : s.sizeCold units = some t) : s0.Keeps l t := by
  unfold State.sizeCold at e
  grind only [State.Keeps.newExtent, State.Keeps.setFls, Memory.wf_memWrite, Memory.wf_memZero, Memory.wf_memCopy, List.cons_subset, List.nil_subset]

theorem State.Keeps.objectsLost (g : [Group.bar, .sat, .kva, .pln, .memory, .fls, .cmd, .host, .out, .freeCtr] ⊆ l) (pa) : s0.Keeps l (s.objectsLost pa) := by
  unfold State.objectsLost
  grind only [State.Keeps.surrenderFor, State.Keeps.foldl, List.cons_subset, List.nil_subset]

theorem State.Keeps.t1Lost (g : [Group.bar, .sat, .kva, .pln, .memory, .fls, .cmd, .host, .out, .freeCtr] ⊆ l) (was) : s0.Keeps l (s.t1Lost was) := by
  unfold State.t1Lost
  exact (h.foldl _ _ fun t e kt => kt.surrenderFor (groups_sub g rfl) _ _).ite h

theorem State.Keeps.goes_t1RetrainComplete (g : [Group.bar, .sat, .kva, .pln, .memory, .fls, .cmd, .blt, .host, .out, .freeCtr] ⊆ l) (position) (ok) : s0.Goes l (execT1RetrainComplete position ok s) := by
  unfold execT1RetrainComplete
  dsimp only
  split
  · split
    · exact h.setMemory (g (by simp)) _ id
    · exact (h.gddrLost (groups_sub g rfl) _).t1Lost (groups_sub g rfl) _
  · exact h

theorem State.Keeps.goes_t1TempRead (g : [Group.bar, .sat, .kva, .pln, .memory, .fls, .cmd, .blt, .host, .out, .freeCtr] ⊆ l) (temps) : s0.Goes l (execT1TempRead temps s) := by
  unfold execT1TempRead
  refine State.Keeps.next (State.Keeps.t1Lost (h.foldl _ _ fun t d kt => ?_) (groups_sub g rfl) _)
  split
  · exact kt.gddrTemp (groups_sub g rfl) _ _
  · exact kt

theorem State.Keeps.goes_patrolScrub (g : [Group.bar, .sat, .kva, .pln, .memory, .fls, .cmd, .blt, .host, .out, .freeCtr] ⊆ l) (pa) (corrected) (uncorrectable) : s0.Goes l (execPatrolScrub pa corrected uncorrectable s) := by
  have k1 := h.count (groups_sub g rfl) Reg.memCntCe 1
  unfold execPatrolScrub
  split
  · exact h
  · split
    · exact (h.poisonT1 (groups_sub g rfl) _).objectsLost (groups_sub g rfl) _
    · split
      · exact State.Keeps.next ((k1.note (groups_sub g rfl) _ _ _).ite k1)
      · exact h

theorem State.Keeps.goes_parkPool (g : [Group.bar, .stk, .pln, .memory, .fls, .cmd, .host, .out] ⊆ l) (hd) (warm) (cold) : s0.Goes l (execParkPool hd warm cold s) := by
  unfold execParkPool
  refine State.Keeps.serve h (groups_sub g rfl) _ _ _ _ fun r t k => ?_
  refine (k.done (groups_sub g rfl) _ _).ite ?_
  split
  · exact k.done (groups_sub g rfl) _ _
  · next e1 =>
    split
    · exact k.done (groups_sub g rfl) _ _
    · next e2 =>
      have k2 := (k.sizeWarm (groups_sub g rfl) _ e1).sizeCold (groups_sub g rfl) _ e2
      refine State.Keeps.done (State.Keeps.trimCold ?_ (groups_sub g rfl)) (groups_sub g rfl) _ _
      exact k2.setPln (g (by simp)) _ fun ok => ok

theorem State.Keeps.goes_tenantPark (g : [Group.bar, .stk, .pln, .cmd, .host, .out] ⊆ l) (hd) (tenant) (warmFloor) (warmCap) (coldFloor) (coldCap) (rsv) : s0.Goes l (execTenantPark hd tenant warmFloor warmCap coldFloor coldCap rsv s) := by
  unfold execTenantPark
  refine State.Keeps.serve h (groups_sub g rfl) _ _ _ _ fun r t k => ?_
  grind only [State.Keeps.serve, State.Keeps.done, State.Keeps.setPln, = List.length_modify, = List.length_map, List.cons_subset, List.nil_subset]

theorem State.Keeps.goes_parkQuery (g : [Group.bar, .stk, .cmd, .host, .out] ⊆ l) (hd) (tenant) (rsv) : s0.Goes l (execParkQuery hd tenant rsv s) := by
  unfold execParkQuery
  refine State.Keeps.serve h (groups_sub g rfl) _ _ _ _ fun r t k => ?_
  grind only [State.Keeps.serve, State.Keeps.done, State.Keeps.answer, List.cons_subset, List.nil_subset]

theorem State.Keeps.newRow (g : [Group.kva, .pln, .out, .freeCtr] ⊆ l) (x) (ringHeld) (j) {t y'} (e : s.newRow x ringHeld j = some (y', t)) : s0.Keeps l t := by
  have kf := h.free (groups_sub g rfl)
  unfold State.newRow at e
  dsimp only at e
  split at e
  · split at e
    · cases e
      exact kf.emit (groups_sub g rfl) _
    · obtain ⟨r, er, same⟩ := Option.map_eq_some_iff.1 e
      cases same
      exact kf.allocRow (groups_sub g rfl) _ _ er
  · obtain ⟨r, er, same⟩ := Option.map_eq_some_iff.1 e
    cases same
    exact h.allocRow (groups_sub g rfl) _ _ er

theorem State.Keeps.copyOnWrite (g : [Group.bar, .kva, .pln, .memory] ⊆ l) (x) (r) {t y'} (e : s.copyOnWrite x r = some (y', t)) : s0.Keeps l t := by
  unfold State.copyOnWrite at e
  grind only [State.Keeps.allocRow, State.Keeps.inkRelease, State.Keeps.copyRow, State.Keeps.count, List.cons_subset, List.nil_subset]

theorem State.Keeps.growTable (g : [Group.sat, .memory] ⊆ l) (c) (x) (rows) {t} (e : s.growTable c x rows = some t) : s0.Keeps l t := by
  unfold State.growTable at e
  obtain ⟨r, er, rfl⟩ := Option.map_eq_some_iff.1 e
  exact (h.placeTable (groups_sub g rfl) _ _ _ er).modCtx (groups_sub g rfl) _ _

theorem State.Keeps.presentRow (g : [Group.bar, .sat, .kva, .pln, .memory, .out, .freeCtr] ⊆ l) (c) (j) {t} (e : s.presentRow c j = some t) : s0.Keeps l t := by
  unfold State.presentRow at e
  split at e
  · cases e
  · dsimp only at e
    split at e
    · split at e
      · obtain ⟨w, ew, rfl⟩ := Option.map_eq_some_iff.1 e
        obtain ⟨s1, e1, e2⟩ := Option.bind_eq_some_iff.1 ew
        exact ((h.growTable (groups_sub g rfl) _ _ _ e1).newRow (groups_sub g rfl) _ _ _ e2).modCtx (groups_sub g rfl) _ _
      · cases e
    · split at e
      · obtain ⟨w, ew, rfl⟩ := Option.map_eq_some_iff.1 e
        exact (h.newRow (groups_sub g rfl) _ _ _ ew).modCtx (groups_sub g rfl) _ _
      · cases e; exact h
      · cases e; exact h
      · cases e; exact h
      · obtain ⟨w, ew, rfl⟩ := Option.map_eq_some_iff.1 e
        exact (h.copyOnWrite (groups_sub g rfl) _ _ ew).modCtx (groups_sub g rfl) _ _
      · cases e

theorem State.Keeps.presentRows (g : [Group.bar, .sat, .kva, .pln, .memory, .out, .freeCtr] ⊆ l) (c) (xs) {t} (e : s.presentRows c xs = some t) : s0.Keeps l t := by
  induction xs generalizing s with
  | nil =>
    unfold State.presentRows at e
    cases e
    exact h
  | cons j xs ih =>
    unfold State.presentRows at e
    split at e
    · next e1 => exact ih (h.presentRow (groups_sub g rfl) _ _ e1) e
    · cases e

theorem State.Keeps.makePresent (g : [Group.bar, .sat, .kva, .pln, .memory, .out, .freeCtr] ⊆ l) (slot) (start) (n) (short) {t} (e : s.makePresent slot start n short = some t) : s0.Keeps l t := by
  unfold State.makePresent at e
  grind only [State.Keeps.presentRows, State.Keeps.toShards, List.cons_subset, List.nil_subset]

theorem State.Keeps.requestReturns (g : [Group.bar, .sat, .kva, .pln, .fls, .sec, .out] ⊆ l) (xs) : s0.Keeps l (s.requestReturns xs) := by
  induction xs generalizing s with
  | nil =>
    unfold State.requestReturns
    exact h
  | cons v xs ih =>
    unfold State.requestReturns
    refine (ih h).ite ?_
    split
    · next e =>
      exact ih (((h.allocRows (groups_sub g rfl) _ _ _ e).modSat (groups_sub g rfl) _ _).toShards (groups_sub g rfl) _ _ _)
    · exact h.preempt (groups_sub g rfl) _ _ _ _

theorem State.Keeps.swapWrite (g : [Group.kva, .host] ⊆ l) (p) (r) (k) : s0.Keeps l (s.swapWrite p r k) := by
  unfold State.swapWrite
  grind only [State.Keeps.hostWrite, State.Keeps.setKva, State.Keeps.foldl, List.cons_subset, List.nil_subset]

theorem State.Keeps.goes_swapOutComplete (g : [Group.bar, .sat, .kva, .pln, .host] ⊆ l) (id) (row) (toT2) : s0.Goes l (execSwapOutComplete id row toT2 s) := by
  unfold execSwapOutComplete State.withCtx
  dsimp only
  (repeat' split) <;> apply_rules [State.Keeps.next, State.Keeps.freeRow, State.Keeps.swapWrite, State.Keeps.modCtx, State.Keeps.count] <;> grind only [State.goes_next, State.Keeps.freeRow, State.Keeps.swapWrite, State.Keeps.modCtx, State.Keeps.count, State.Keeps.setKva, List.cons_subset, List.nil_subset]

theorem State.Keeps.swapRead (g : [Group.kva, .memory] ⊆ l) (p) (r) (hd) : s0.Keeps l (s.swapRead p r hd) := by
  unfold State.swapRead
  grind only [State.Keeps.putBlock, State.Keeps.foldl, List.cons_subset, List.nil_subset]

theorem State.Keeps.goes_swapReturnComplete (g : [Group.bar, .sat, .kva, .cores, .pln, .memory, .fls, .cmd, .blt, .host, .out] ⊆ l) (id) (row) (ok) (retried) : s0.Goes l (execSwapReturnComplete id row ok retried s) := by
  unfold execSwapReturnComplete
  split
  · exact h
  · refine State.Keeps.next (h.withCtx fun x _ => ?_)
    dsimp only
    split
    · refine State.Keeps.ite ?_ ((h.post (groups_sub g rfl) _).lowerCtx (groups_sub g rfl) _)
      have k1 := fun p r to_ => (h.swapRead (groups_sub g rfl) p r to_).dropRow (groups_sub g rfl) p r
      have k2 := fun p r to_ c f => (((k1 p r to_).modCtx (groups_sub g rfl) c f).rowsBack (groups_sub g rfl) p).count (groups_sub g rfl) Reg.kvaCntSwapIn 1
      exact ((k2 _ _ _ _ _).transient (groups_sub g rfl) _).ite (k2 _ _ _ _ _)
    · exact h

theorem State.Keeps.sizeSwapT2 (g : [Group.fls] ⊆ l) (p) (units) {t} (e : s.sizeSwapT2 p units = some t) : s0.Keeps l t := by
  unfold State.sizeSwapT2 at e
  have k1 : s0.Keeps l { s with fls := { s.fls with extents := adel s.fls.extents (swapExtent p.val) } } := h.setFls (g (by simp)) _ id id
  dsimp only at e
  split at e
  · cases e
    exact k1
  · split at e
    · cases e
    · exact k1.newExtent (groups_sub g rfl) _ _ _ _ e

theorem State.Keeps.goes_kvSwapConfig (g : [Group.bar, .stk, .pln, .fls, .cmd, .host, .out] ⊆ l) (hd) (t2Units) (nExt) (extents) (rsv) : s0.Goes l (execKvSwapConfig hd t2Units nExt extents rsv s) := by
  unfold execKvSwapConfig
  refine State.Keeps.serve h (groups_sub g rfl) _ _ _ _ fun r t k => ?_
  grind only [State.Keeps.serve, State.Keeps.done, State.Keeps.sizeSwapT2, State.Keeps.modPart, List.cons_subset, List.nil_subset]

theorem State.Keeps.inkRow (g : [Group.kva] ⊆ l) (p) (prefixId) (r) : s0.Keeps l (s.inkRow p prefixId r) := by
  unfold State.inkRow
  grind only [State.Keeps.inkHold, State.Keeps.setKva, State.Keeps.foldl, List.cons_subset, List.nil_subset]

theorem State.Keeps.publishRows (g : [Group.sat, .kva, .pln, .fls] ⊆ l) (c) (e0) : s0.Keeps l (s.publishRows c e0) := by
  unfold State.publishRows State.withCtx
  dsimp only
  (repeat' split) <;> apply_rules [State.Keeps.abandonPark, State.Keeps.inkRow, State.Keeps.modCtx, State.Keeps.dropSwapOut] <;> grind only [State.Keeps.abandonPark, State.Keeps.inkRow, State.Keeps.modCtx, State.Keeps.dropSwapOut, State.Keeps.setKva, State.Keeps.foldl, List.cons_subset, List.nil_subset]

theorem State.Keeps.goes_inkwellPublish (g : [Group.bar, .stk, .sat, .kva, .pln, .fls, .cmd, .host, .out, .freeCtr] ⊆ l) (hd) (id) (length) (pub) (rsv) : s0.Goes l (execInkwellPublish hd id length pub rsv s) := by
  unfold execInkwellPublish
  refine State.Keeps.serve h (groups_sub g rfl) _ _ _ _ fun r t k => ?_
  refine k.withOwned (groups_sub g rfl) _ _ _ fun slot y => ?_
  have kd := k.done (groups_sub g rfl) r
  refine (kd _).ite ((kd _).ite ((kd _).ite ((kd _).ite ((kd _).ite ?_))))
  exact (((k.setKva (g (by simp)) _).publishRows (groups_sub g rfl) _ _).toShards (groups_sub g rfl) _ _ _).answer (groups_sub g rfl) _ _ _ _

theorem State.Keeps.goes_inkwellWithdraw (g : [Group.bar, .stk, .kva, .pln, .cmd, .host, .out] ⊆ l) (hd) (prefixId) (rsv) : s0.Goes l (execInkwellWithdraw hd prefixId rsv s) := by
  unfold execInkwellWithdraw
  refine State.Keeps.serve h (groups_sub g rfl) _ _ _ _ fun r t k => ?_
  grind only [State.Keeps.serve, State.Keeps.done, State.Keeps.toShards, State.Keeps.inkRelease, State.Keeps.setKva, State.Keeps.foldl, List.cons_subset, List.nil_subset]

theorem State.Keeps.advanceEpoch (g : [Group.kva] ⊆ l) : s0.Keeps l (s.advanceEpoch) := by
  unfold State.advanceEpoch
  grind only [State.Keeps.setKva, List.cons_subset, List.nil_subset]

theorem State.Keeps.pin (g : [Group.kva] ⊆ l) (reader) : s0.Keeps l (s.pin reader) := by
  unfold State.pin
  grind only [State.Keeps.setKva, List.cons_subset, List.nil_subset]

theorem State.Keeps.pinsChanged (g : [Group.kva, .pln] ⊆ l) : s0.Keeps l (s.pinsChanged) := by
  unfold State.pinsChanged
  grind only [State.Keeps.inkReclaimAll, State.Keeps.setKva, List.cons_subset, List.nil_subset]

theorem State.Keeps.savePins (g : [Group.kva, .pln] ⊆ l) (p) : s0.Keeps l (s.savePins p) := by
  unfold State.savePins
  grind only [State.Keeps.pinsChanged, State.Keeps.setKva, List.cons_subset, List.nil_subset]

theorem State.Keeps.restorePins (g : [Group.kva] ⊆ l) (p) : s0.Keeps l (s.restorePins p) := by
  unfold State.restorePins
  grind only [State.Keeps.setKva, List.cons_subset, List.nil_subset]

theorem State.Keeps.goes_inkwellPinEnd (g : [Group.kva, .pln] ⊆ l) (reader) : s0.Goes l (execInkwellPinEnd reader s) := by
  unfold execInkwellPinEnd
  grind only [State.goes_next, State.Keeps.pinsChanged, State.Keeps.setKva, List.cons_subset, List.nil_subset]

theorem State.Keeps.dropFrom (g : [Group.sat, .kva, .pln, .fls, .out] ⊆ l) (c) (keep) : s0.Keeps l (s.dropFrom c keep) := by
  unfold State.dropFrom State.withCtx
  dsimp only
  (repeat' split) <;> apply_rules [State.Keeps.dropRow, State.Keeps.emit, State.Keeps.modCtx] <;> grind only [State.Keeps.dropRow, State.Keeps.emit, State.Keeps.modCtx, State.Keeps.foldl, List.cons_subset, List.nil_subset]

theorem State.Keeps.freeBeyond (g : [Group.sat, .kva, .pln, .fls, .out] ⊆ l) (slot) : s0.Keeps l (s.freeBeyond slot) := by
  unfold State.freeBeyond
  grind only [State.withSlot, State.Keeps.dropFrom, State.Keeps.modSat, State.Keeps.toShards, List.cons_subset, List.nil_subset]

theorem State.Keeps.newSatellite (g : [Group.sat, .memory] ⊆ l) (part) (owner) (ring) (reserved) (id) (tenant) (cls) (adapter) (version) (kvPos) {t y'} (e : s.newSatellite part owner ring reserved id tenant cls adapter version kvPos = some (y', t)) : s0.Keeps l t := by
  unfold State.newSatellite at e
  split at e
  · cases e
  · split at e
    · cases e
    · obtain ⟨b, eb, same⟩ := Option.map_eq_some_iff.1 e
      obtain ⟨a, ea, eb⟩ := Option.bind_eq_some_iff.1 eb
      cases same
      refine State.Keeps.setSat (s := b.2) ?_ (g (by simp)) _ (fun ok => ok) fun ok => ok
      exact (h.placeTable (groups_sub g rfl) _ _ _ ea).placeState (groups_sub g rfl) _ _ _ eb

theorem State.Keeps.freeSatellite (g : [Group.sat, .kva, .pln, .memory, .fls, .out] ⊆ l) (k) : s0.Keeps l (s.freeSatellite k) := by
  unfold State.freeSatellite
  grind only [State.Keeps.unplace, State.Keeps.freeCtx, State.Keeps.setSat, keysBelow_aput, keysBelow_adel, keysBelow_amod, keysBelow_amap, = List.mem_append, List.mem_of_mem_erase, = List.mem_map, = List.mem_filter, List.cons_subset, List.nil_subset]

theorem State.Keeps.goes_satelliteExpiry (g : [Group.sat, .kva, .pln, .memory, .fls, .out] ⊆ l) (id) : s0.Goes l (execSatelliteExpiry id s) := by
  unfold execSatelliteExpiry
  grind only [State.goes_next, State.Keeps.freeSatellite, State.Keeps.foldl, List.cons_subset, List.nil_subset]

theorem State.Keeps.lodgedRows (g : [Group.freeCtr] ⊆ l) (n) : s0.Keeps l (s.lodgedRows n).2 := by
  unfold State.lodgedRows
  grind only [State.Keeps.setFreeCtr, List.cons_subset, List.nil_subset]

theorem State.Keeps.commitSatellite (g : [Group.sat, .kva, .pln, .memory, .fls, .sec, .out, .freeCtr] ⊆ l) (k) (lodge) (st) (rows) : s0.Keeps l (s.commitSatellite k lodge st rows) := by
  unfold State.commitSatellite
  extract_lets c _ u
  have ku : s0.Keeps l u := h.setSat (g (by simp)) _ (fun ok => ok) fun ok => ok
  clear_value u
  refine ku.withCtx fun x _ => ?_
  split
  · split
    · exact (ku.freeCtx (groups_sub g rfl) _).emit (groups_sub g rfl) _
    · next rows _ e =>
      have k1 := ku.allocRows (groups_sub g rfl) _ _ _ e
      have k2 := (k1.foldl rows _ fun t r kt => kt.fillFree (groups_sub g rfl) (t.part x.part.val) r).modCtx (groups_sub g rfl) c
      exact ((k2 _).startPark (groups_sub g rfl) _ _ _).ite (k2 _)
  · exact (ku.lodgedRows (groups_sub g rfl) _).modCtx (groups_sub g rfl) _ _

theorem State.Keeps.lodgeSatellite (g : [Group.sat] ⊆ l) (k) (dev) : s0.Keeps l (s.lodgeSatellite k dev) := by
  unfold State.lodgeSatellite
  grind only [State.withCtx, State.Keeps.modCtx, State.Keeps.setSat, keysBelow_aput, keysBelow_adel, keysBelow_amod, keysBelow_amap, = List.mem_append, List.mem_of_mem_erase, = List.mem_map, = List.mem_filter, List.cons_subset, List.nil_subset]

theorem State.Keeps.appendAt (g : [Group.bar, .kva, .memory] ⊆ l) (part) (id) (ring) (row) (layer) (head) (half) (at_) (values) : s0.Keeps l (s.appendAt part id ring row layer head half at_ values) := by
  unfold State.appendAt
  grind only [State.Keeps.writeHead, List.cons_subset, List.nil_subset]

theorem State.Keeps.tellHolder (g : [Group.out] ⊆ l) (x) (d) (a) : s0.Keeps l (s.tellHolder x d a) := by
  unfold State.tellHolder
  grind only [State.Keeps.emit, List.cons_subset, List.nil_subset]

theorem State.Keeps.sendPos (g : [Group.out] ⊆ l) (x) (d) (row) (at_) (value) : s0.Keeps l (s.sendPos x d row at_ value) := by
  unfold State.sendPos
  grind only [State.Keeps.tellHolder, State.Keeps.foldl, List.cons_subset, List.nil_subset]

theorem State.Keeps.freePos (g : [Group.memory, .freeCtr] ⊆ l) (x) (first) (at_) : s0.Keeps l (s.freePos x first at_) := by
  unfold State.freePos
  grind only [State.Keeps.physWrite, State.Keeps.setFreeCtr, State.Keeps.foldl, List.cons_subset, List.nil_subset]

theorem State.Keeps.movePos (g : [Group.bar, .kva, .memory, .out, .freeCtr] ⊆ l) (x) (from_) (to_) : s0.Keeps l (s.movePos x from_ to_) := by
  unfold State.movePos
  grind only [State.Keeps.moveHere, State.Keeps.sendPos, State.Keeps.freePos, State.Keeps.tellHolder, List.cons_subset, List.nil_subset]

theorem State.Keeps.movePath (g : [Group.bar, .kva, .memory, .out, .freeCtr] ⊆ l) (c) (ctx) (path) : s0.Keeps l (s.movePath c ctx path) := by
  unfold State.movePath
  grind only [State.withCtx, State.Keeps.movePos, State.Keeps.foldl, List.cons_subset, List.nil_subset]

theorem State.Keeps.satelliteRows (g : [Group.bar, .sat, .kva, .pln, .memory, .out, .freeCtr] ⊆ l) (c) (n) : s0.Keeps l (s.satelliteRows c n) := by
  unfold State.satelliteRows
  grind only [State.withCtx, State.Keeps.presentRows, State.Keeps.count, List.cons_subset, List.nil_subset]

theorem State.Keeps.satelliteSwap (g : [Group.bar, .sat, .kva, .pln, .fls, .sec] ⊆ l) (c) : s0.Keeps l (s.satelliteSwap c) := by
  unfold State.satelliteSwap
  grind only [State.withCtx, State.Keeps.swapRows, State.Keeps.setKva, List.cons_subset, List.nil_subset]

theorem State.Keeps.satelliteReturn (g : [Group.sat, .kva, .pln] ⊆ l) (c) : s0.Keeps l (s.satelliteReturn c) := by
  unfold State.satelliteReturn
  grind only [State.withCtx, State.Keeps.allocRows, State.Keeps.modCtx, List.cons_subset, List.nil_subset]

theorem State.Keeps.satellitePark (g : [Group.sat, .kva, .fls, .sec] ⊆ l) (c) (cold) : s0.Keeps l (s.satellitePark c cold) := by
  unfold State.satellitePark
  grind only [State.withCtx, State.Keeps.startPark, State.Keeps.modCtx, List.cons_subset, List.nil_subset]

theorem State.Keeps.satellitePublish (g : [Group.sat, .kva, .pln, .fls] ⊆ l) (c) (prefixId) (length) (scope) (tokens) : s0.Keeps l (s.satellitePublish c prefixId length scope tokens) := by
  unfold State.satellitePublish
  grind only [State.withCtx, State.Keeps.abandonPark, State.Keeps.publishRows, List.cons_subset, List.nil_subset]

theorem State.Keeps.dropInk (g : [Group.kva, .pln] ⊆ l) (prefixId) : s0.Keeps l (s.dropInk prefixId) := by
  unfold State.dropInk
  grind only [State.Keeps.inkRelease, State.Keeps.setKva, State.Keeps.foldl, List.cons_subset, List.nil_subset]

theorem State.Keeps.makeSatellite (g : [Group.sat, .kva, .memory, .out] ⊆ l) (part) (owner) (i) (reserved) (tenant) (cls) (adapter) (version) (prefixId) : s0.Keeps l (s.makeSatellite part owner i reserved tenant cls adapter version prefixId) := by
  unfold State.makeSatellite
  split
  · exact h.emit (groups_sub g rfl) _
  · next e =>
    have k1 := h.newSatellite (groups_sub g rfl) _ _ _ _ _ _ _ _ _ _ e
    split
    · exact k1
    · exact (k1.modCtx (groups_sub g rfl) _ _).foldl _ _ fun t r kt => kt.inkHold (groups_sub g rfl) _

theorem State.Keeps.shardAct (g : [Group.bar, .sat, .kva, .pln, .memory, .fls, .sec, .out, .freeCtr] ⊆ l) (part) (owner) (i) (a) : s0.Keeps l (s.shardAct part owner i a) := by
  unfold State.shardAct
  extract_lets on
  have ko : ∀ f : Nat → State, (∀ k, s0.Keeps l (f k)) → s0.Keeps l (on f) := by
    intro f kf
    unfold on
    split
    · exact kf _
    · exact h
  clear_value on
  cases a with
  | create tenant cls adapter version prefixId => exact h.makeSatellite (groups_sub g rfl) _ _ _ _ _ _ _ _ _
  | reserve tenant cls adapter version => exact h.makeSatellite (groups_sub g rfl) _ _ _ _ _ _ _ _ _
  | commit lodge st rows => exact ko _ fun k => h.commitSatellite (groups_sub g rfl) _ _ _ _
  | release => exact ko _ fun k => h.freeSatellite (groups_sub g rfl) _
  | lodgeFor dev => exact ko _ fun k => h.lodgeSatellite (groups_sub g rfl) _ _
  | copy row =>
    refine ko _ fun k => ?_
    split
    · next e => exact h.presentRow (groups_sub g rfl) _ _ e
    · exact h.count (groups_sub g rfl) _ _
  | park cold => exact ko _ fun k => h.satellitePark (groups_sub g rfl) _ _
  | revive => exact ko _ fun k => h.beginRevive (groups_sub g rfl) _ _
  | swapOut => exact ko _ fun k => h.satelliteSwap (groups_sub g rfl) _
  | swapIn => exact ko _ fun k => h.satelliteReturn (groups_sub g rfl) _
  | publish prefixId length scope tokens => exact ko _ fun k => h.satellitePublish (groups_sub g rfl) _ _ _ _ _
  | withdraw prefixId => exact h.dropInk (groups_sub g rfl) _
  | path ctx nodes => exact ko _ fun k => h.movePath (groups_sub g rfl) _ _ _
  | rebind version => exact ko _ fun k => h.modCtx (groups_sub g rfl) _ _
  | planned row => exact h.modPart (groups_sub g rfl) _ _
  | shards list => exact h.modPart (groups_sub g rfl) _ _
  | adapter id version act => exact h.modPart (groups_sub g rfl) _ _
  | append row layer head half at_ values => exact h.appendAt (groups_sub g rfl) _ _ _ _ _ _ _ _ _
  | move src srcAt dst dstAt =>
    dsimp only
    split
    · exact h.moveHere (groups_sub g rfl) _ _ _ _ _
    · exact h

theorem State.Keeps.shardInstr (g : [Group.bar, .sat, .kva, .pln, .memory, .fls, .sec, .out, .freeCtr] ⊆ l) (part) (owner) (i) : s0.Keeps l (s.shardInstr part owner i) := by
  unfold State.shardInstr
  extract_lets u s1 c s2 s3 s4
  have ku : s0.Keeps l u := (h.makeSatellite (groups_sub g rfl) _ _ _ _ _ _ _ _ _).ite h
  clear_value u
  have k1 : s0.Keeps l s1 := ku.foldl _ _ fun t x kt => kt.shardAct (groups_sub g rfl) _ _ _ _
  clear_value s1
  split
  · exact k1
  · refine (k1.freeSatellite (groups_sub g rfl) _).ite ?_
    have k2 := fun c f => (k1.modCtx (groups_sub g rfl) c f).dropFrom (groups_sub g rfl) c i.freeFrom
    have k3 := fun c f f' => State.Keeps.ite (c := i.ring = true) (k2 c f) ((k2 c f).modCtx (groups_sub g rfl) c f')
    have k4 := fun c f f' => (k3 c f f').satelliteRows (groups_sub g rfl) c i.alloc
    exact (((k4 _ _ _).count (groups_sub g rfl) _ _).ite ((k4 _ _ _).modPart (groups_sub g rfl) _ _)).ite (k4 _ _ _)

theorem State.Keeps.goes_shardPlanReceive (g : [Group.bar, .sat, .kva, .pln, .memory, .fls, .sec, .out, .freeCtr] ⊆ l) (part) (owner) (_stroke) (instrs) : s0.Goes l (execShardPlanReceive part owner _stroke instrs s) := by
  unfold execShardPlanReceive
  grind only [State.goes_next, State.Keeps.shardInstr, State.Keeps.foldl, List.cons_subset, List.nil_subset]

end
end Sys2Proof.Machine
end

section
/-!
PROOFS. What the operations keep: partitions and strokes.
-/
namespace Sys2Proof.Machine
section
variable {s0 s : State} {l : List Group} (h : s0.Keeps l s)
include h
theorem State.Keeps.zeroSram (g : [Group.memory] ⊆ l) (mask) : s0.Keeps l (s.zeroSram mask) :=
  h.setMemory (g (by simp)) _ fun ok => wf_foldl_memZero _ _ _ ok

theorem State.Keeps.zeroT0 (g : [Group.memory] ⊆ l) (mask) : s0.Keeps l (s.zeroT0 mask) :=
  h.setMemory (g (by simp)) _ fun ok => wf_foldl_memZero _ _ _ ok

theorem State.Keeps.windowOn (g : [Group.cmd] ⊆ l) (p) : s0.Keeps l (s.windowOn p) := by
  unfold State.windowOn
  grind only [State.Keeps.modWindow, List.cons_subset, List.nil_subset]

theorem State.Keeps.windowDrain (g : [Group.cmd] ⊆ l) (p) : s0.Keeps l (s.windowDrain p) := by
  unfold State.windowDrain
  grind only [State.Keeps.modWindow, List.cons_subset, List.nil_subset]

theorem State.Keeps.writeParams (g : [Group.memory] ⊆ l) (p) : s0.Keeps l (s.writeParams p) := by
  unfold State.writeParams
  grind only [State.Keeps.physWrite, List.cons_subset, List.nil_subset]

theorem State.Keeps.setDegraded (g : [Group.pln, .memory] ⊆ l) (p) : s0.Keeps l (s.setDegraded p) := by
  unfold State.setDegraded
  grind only [State.Keeps.writeParams, State.Keeps.modPart, List.cons_subset, List.nil_subset]

theorem State.Keeps.carveModel (g : [Group.pln, .memory] ⊆ l) (p) (sprint) (slots) (vocab) (imageLen) {t} (e : s.carveModel p sprint slots vocab imageLen = some t) : s0.Keeps l t := by
  unfold State.carveModel at e
  split at e
  · cases e
  · next e1 =>
    have k1 := h.carve (groups_sub g rfl) _ _ e1
    dsimp only at e
    split at e
    · cases e
      exact k1.modPart (groups_sub g rfl) _ _
    · obtain ⟨r, er, rfl⟩ := Option.map_eq_some_iff.1 e
      exact (k1.carve (groups_sub g rfl) _ _ er).modPart (groups_sub g rfl) _ _

theorem State.Keeps.carveAll (g : [Group.pln, .memory] ⊆ l) (p) (c) (src) {t} (e : s.carveAll p c src = some t) : s0.Keeps l t := by
  unfold State.carveAll at e
  split at e
  · cases e
  · next e1 =>
    have k1 := (h.uncarve (groups_sub g rfl) _).carve (groups_sub g rfl) _ _ e1
    split at e
    · cases e
    · next e2 =>
      have k2 := k1.carve (groups_sub g rfl) _ _ e2
      split at e
      · cases e
      · next e3 =>
        have k4 := fun p f => (k2.carve (groups_sub g rfl) _ _ e3).modPart (groups_sub g rfl) p f
        dsimp only at e
        split at e
        · split at e
          · cases e
            exact k4 _ _
          · exact (k4 _ _).carveModel (groups_sub g rfl) _ _ _ _ _ e
        · cases e
          exact k4 _ _

theorem State.Keeps.setShares (g : [Group.bar] ⊆ l) (p) (mask) (owner) : s0.Keeps l (s.setShares p mask owner) := by
  unfold State.setShares
  grind only [State.Keeps.setReg, State.Keeps.foldl, List.cons_subset, List.nil_subset]

theorem State.Keeps.clearCores (g : [Group.cores] ⊆ l) (p) (mask) : s0.Keeps l (s.clearCores p mask) := by
  unfold State.clearCores
  grind only [State.Keeps.setCores, List.cons_subset, List.nil_subset]

theorem State.Keeps.dropSwapExtent (g : [Group.fls] ⊆ l) (p) : s0.Keeps l (s.dropSwapExtent p) := by
  unfold State.dropSwapExtent
  grind only [State.Keeps.setFls, Memory.wf_memWrite, Memory.wf_memZero, Memory.wf_memCopy, List.cons_subset, List.nil_subset]

theorem State.Keeps.composeOut (g : [Group.bar, .pln, .cmd, .host, .out] ⊆ l) (p) (tag) (st) : s0.Keeps l (s.composeOut p tag st) := by
  unfold State.composeOut
  grind only [State.Keeps.partEvent, State.Keeps.modPart, List.cons_subset, List.nil_subset]

theorem State.Keeps.startCompose (g : [Group.bar, .cores, .pln, .memory, .fls, .cmd, .host, .out] ⊆ l) (p) : s0.Keeps l (s.startCompose p) := by
  unfold State.startCompose
  dsimp only
  split
  · exact h
  · refine (h.composeOut (groups_sub g rfl) _ _ _).ite ?_
    split
    · exact h.composeOut (groups_sub g rfl) _ _ _
    · next e =>
      have k1 := fun a m m' b => ((h.clearCores (groups_sub g rfl) a m).zeroSram (groups_sub g rfl) m').dropSwapExtent (groups_sub g rfl) b
      have k2 := ((k1 _ _ _ _).modPart (groups_sub g rfl) _ _).carveAll (groups_sub g rfl) _ _ _ e
      have k3 := fun a v b w p m o => (((k2.setReg (groups_sub g rfl) a v).setReg (groups_sub g rfl) b w).setShares (groups_sub g rfl) p m o)
      exact ((k3 _ _ _ _ _ _ _).windowOn (groups_sub g rfl) _).ite (k3 _ _ _ _ _ _ _)

theorem State.Keeps.beginDrain (g : [Group.bar, .cores, .pln, .memory, .lnk, .xpt, .shp, .cmd, .blt, .host, .out, .freeCtr] ⊆ l) (p) (tag) : s0.Keeps l (s.beginDrain p tag) := by
  unfold State.beginDrain
  extract_lets mask s1 _ s2 mine
  have k1 : s0.Keeps l s1 := (h.modPart (groups_sub g rfl) _ _).windowDrain (groups_sub g rfl) _
  clear_value s1
  have k2 : s0.Keeps l s2 := k1.setCores (g (by simp)) _
  exact k2.foldl _ _ fun t c kt => kt.failConn (groups_sub g rfl) _

theorem State.Keeps.failCompose (g : [Group.bar, .cores, .pln, .memory, .lnk, .xpt, .shp, .cmd, .blt, .host, .out, .freeCtr] ⊆ l) (p) (st) : s0.Keeps l (s.failCompose p st) := by
  unfold State.failCompose
  split
  · exact (h.partEvent (groups_sub g rfl) _ _ _ _).beginDrain (groups_sub g rfl) _ _
  · exact h

theorem State.Keeps.goes_partitionCompose (g : [Group.bar, .stk, .pln, .cmd, .host, .out] ⊆ l) (hd) (c) (src) : s0.Goes l (execPartitionCompose hd c src s) := by
  unfold execPartitionCompose
  refine State.Keeps.serve h (groups_sub g rfl) _ _ _ _ fun r t k => ?_
  grind only [State.Keeps.serve, State.Keeps.done, State.Keeps.modPart, List.cons_subset, List.nil_subset]

theorem State.Keeps.goes_heldComposeStart (g : [Group.bar, .cores, .pln, .memory, .fls, .cmd, .host, .out] ⊆ l) (part) : s0.Goes l (execHeldComposeStart part s) := by
  unfold execHeldComposeStart
  grind only [State.goes_next, State.Keeps.modPart, State.Keeps.partEvent, State.Keeps.startCompose, List.cons_subset, List.nil_subset]

theorem State.Keeps.fitModel (g : [Group.pln, .memory] ⊆ l) (p) (c) (im) {t} (e : s.fitModel p c im = some t) : s0.Keeps l t := by
  unfold State.fitModel at e
  grind only [State.Keeps.carveAll, State.Keeps.carveModel, List.cons_subset, List.nil_subset]

theorem State.Keeps.goes_composeZeroingDone (g : [Group.bar, .cores, .pln, .memory, .lnk, .xpt, .shp, .cmd, .blt, .host, .out, .freeCtr] ⊆ l) (part) (image) (peerReady) : s0.Goes l (execComposeZeroingDone part image peerReady s) := by
  unfold execComposeZeroingDone
  dsimp only
  (repeat' split) <;> apply_rules [State.Keeps.next, State.Keeps.modPart, State.Keeps.failCompose] <;> grind only [State.goes_next, State.Keeps.modPart, State.Keeps.failCompose, State.Keeps.fitModel, List.cons_subset, List.nil_subset]

theorem State.Keeps.startThreads (g : [Group.cores] ⊆ l) (p) : s0.Keeps l (s.startThreads p) := by
  unfold State.startThreads
  grind only [State.Keeps.modThread, State.Keeps.foldl, List.cons_subset, List.nil_subset]

theorem State.Keeps.putWeights (g : [Group.memory] ⊆ l) (p) (off) (xs) : s0.Keeps l (s.putWeights p off xs) := by
  unfold State.putWeights
  grind only [State.Keeps.physWrite, State.Keeps.foldl, List.cons_subset, List.nil_subset]

theorem State.Keeps.goes_composeWeightsInPlace (g : [Group.cores, .pln, .memory] ⊆ l) (part) : s0.Goes l (execComposeWeightsInPlace part s) := by
  unfold execComposeWeightsInPlace
  grind only [State.goes_next, State.Keeps.putWeights, State.Keeps.modPart, State.Keeps.startThreads, State.Keeps.writeParams, List.cons_subset, List.nil_subset]

theorem State.Keeps.goes_composeFailed (g : [Group.bar, .cores, .pln, .memory, .lnk, .xpt, .shp, .cmd, .blt, .host, .out, .freeCtr] ⊆ l) (part) (status) : s0.Goes l (execComposeFailed part status s) := by
  unfold execComposeFailed
  grind only [State.goes_next, State.Keeps.failCompose, List.cons_subset, List.nil_subset]

theorem State.Keeps.goes_partitionDecompose (g : [Group.bar, .stk, .cores, .pln, .memory, .lnk, .xpt, .shp, .cmd, .blt, .host, .out, .freeCtr] ⊆ l) (hd) : s0.Goes l (execPartitionDecompose hd s) := by
  unfold execPartitionDecompose
  refine State.Keeps.serve h (groups_sub g rfl) _ _ _ _ fun r t k => ?_
  dsimp only
  have kd := k.done (groups_sub g rfl) r
  split
  · exact ((k.modPart (groups_sub g rfl) _ _).done (groups_sub g rfl) _ _).partEvent (groups_sub g rfl) _ _ _ _
  · exact (kd _).ite ((kd _).ite ((kd _).ite ((kd _).beginDrain (groups_sub g rfl) _ _)))

theorem State.Keeps.releasePart (g : [Group.bar, .kva, .cores, .pln, .memory, .fls, .xpt] ⊆ l) (p) : s0.Keeps l (s.releasePart p) := by
  unfold State.releasePart
  dsimp only
  apply_rules [State.Keeps.dropSwapExtent, State.Keeps.uncarve, State.Keeps.zeroT0, State.Keeps.zeroSram, State.Keeps.clearCores, State.Keeps.modPart] <;> grind only [State.Keeps.dropSwapExtent, State.Keeps.uncarve, State.Keeps.zeroT0, State.Keeps.zeroSram, State.Keeps.clearCores, State.Keeps.modPart, State.Keeps.setShares, State.Keeps.setKva, State.Keeps.setMemory, State.Keeps.setXpt, State.Keeps.mk, Memory.wf_memWrite, Memory.wf_memZero, Memory.wf_memCopy, List.cons_subset, List.nil_subset]

theorem State.Keeps.goes_partitionDrainComplete (g : [Group.bar, .kva, .cores, .pln, .memory, .fls, .xpt, .cmd, .host, .out] ⊆ l) (part) : s0.Goes l (execPartitionDrainComplete part s) := by
  have k1 := fun f => (h.releasePart (groups_sub g rfl) part.val).modWindow (groups_sub g rfl) (16 + part.val) f
  unfold execPartitionDrainComplete
  dsimp only
  split
  · exact h
  · split
    · exact (k1 _).partEvent (groups_sub g rfl) _ _ _ _
    · exact k1 _

theorem State.Keeps.enterSuspend (g : [Group.pln] ⊆ l) (p) : s0.Keeps l (s.enterSuspend p) := by
  unfold State.enterSuspend
  grind only [State.Keeps.modPart, List.cons_subset, List.nil_subset]

theorem State.Keeps.saveCore (g : [Group.memory] ⊆ l) (p) (core) : s0.Keeps l (s.saveCore p core) := by
  unfold State.saveCore
  refine State.Keeps.foldl ?_ _ _ fun t u kt => kt.physWrite (groups_sub g rfl) _ _
  exact h.setMemory (g (by simp)) _ fun ok => Memory.wf_memZero _ _ _ (Memory.wf_memCopy _ _ _ _ _ ok)

theorem State.Keeps.saveCores (g : [Group.cores, .memory] ⊆ l) (p) : s0.Keeps l (s.saveCores p) := by
  unfold State.saveCores
  grind only [State.Keeps.saveCore, State.Keeps.setCores, State.Keeps.foldl, List.cons_subset, List.nil_subset]

theorem State.Keeps.loadCores (g : [Group.memory] ⊆ l) (p) : s0.Keeps l (s.loadCores p) := by
  unfold State.loadCores
  grind only [State.Keeps.setMemory, Memory.wf_memWrite, Memory.wf_memZero, Memory.wf_memCopy, State.Keeps.foldl, List.cons_subset, List.nil_subset]

theorem State.Keeps.goes_partitionSuspend (g : [Group.bar, .stk, .pln, .cmd, .host, .out] ⊆ l) (hd) : s0.Goes l (execPartitionSuspend hd s) := by
  unfold execPartitionSuspend
  refine State.Keeps.serve h (groups_sub g rfl) _ _ _ _ fun r t k => ?_
  grind only [State.Keeps.serve, State.Keeps.partEvent, State.Keeps.done, State.Keeps.modPart, State.Keeps.enterSuspend, List.cons_subset, List.nil_subset]

theorem State.Keeps.beginResume (g : [Group.pln] ⊆ l) (p) : s0.Keeps l (s.beginResume p) := by
  unfold State.beginResume
  grind only [State.Keeps.modPart, List.cons_subset, List.nil_subset]

theorem State.Keeps.goes_suspendSaveComplete (g : [Group.bar, .kva, .cores, .pln, .memory, .cmd, .host, .out] ⊆ l) (part) (chunkLost) : s0.Goes l (execSuspendSaveComplete part chunkLost s) := by
  have k1 := fun f => ((h.saveCores (groups_sub g rfl) part.val).modPart (groups_sub g rfl) part.val f).savePins (groups_sub g rfl) part.val
  have k2 := fun f => (k1 f).partEvent (groups_sub g rfl) part.val
  unfold execSuspendSaveComplete
  dsimp only
  split
  · exact h
  · exact State.Keeps.next (((k2 _ _ _ _).beginResume (groups_sub g rfl) _).ite (k2 _ _ _ _))

theorem State.Keeps.goes_partitionResume (g : [Group.bar, .stk, .pln, .cmd, .host, .out] ⊆ l) (hd) : s0.Goes l (execPartitionResume hd s) := by
  unfold execPartitionResume
  refine State.Keeps.serve h (groups_sub g rfl) _ _ _ _ fun r t k => ?_
  grind only [State.Keeps.serve, State.Keeps.done, State.Keeps.modPart, State.Keeps.beginResume, List.cons_subset, List.nil_subset]

theorem State.Keeps.partBoundary (g : [Group.bar, .cores, .pln, .memory, .fls, .cmd, .host, .out] ⊆ l) (p) : s0.Keeps l (s.partBoundary p) := by
  unfold State.partBoundary
  grind only [State.Keeps.startCompose, State.Keeps.partEvent, State.Keeps.writeParams, State.Keeps.modPart, List.cons_subset, List.nil_subset]

theorem State.Keeps.goes_instanceSet (g : [Group.bar, .stk, .pln, .cmd, .host, .out] ⊆ l) (hd) (position) (dev) (dpart) (sameModel) (noSatellites) (rsv) : s0.Goes l (execInstanceSet hd position dev dpart sameModel noSatellites rsv s) := by
  unfold execInstanceSet
  refine State.Keeps.serve h (groups_sub g rfl) _ _ _ _ fun r t k => ?_
  grind only [State.Keeps.serve, State.Keeps.done, State.Keeps.accepted, State.Keeps.emit, State.Keeps.modPart, State.Keeps.foldl, List.cons_subset, List.nil_subset]

theorem State.Keeps.goes_instanceSetComplete (g : [Group.bar, .sat, .kva, .pln, .memory, .fls, .cmd, .host, .out] ⊆ l) (part) : s0.Goes l (execInstanceSetComplete part s) := by
  unfold execInstanceSetComplete
  dsimp only
  (repeat' split) <;> apply_rules [State.Keeps.next, State.Keeps.modPart, State.Keeps.writeParams, State.Keeps.answer, State.Keeps.lowerTier] <;> grind only [State.goes_next, State.Keeps.modPart, State.Keeps.writeParams, State.Keeps.answer, State.Keeps.lowerTier, State.Keeps.setDegraded, State.Keeps.foldl, List.cons_subset, List.nil_subset]

theorem State.Keeps.refetch (g : [Group.pln, .memory, .freeCtr] ⊆ l) (p) : s0.Keeps l (s.refetch p) := by
  unfold State.refetch
  grind only [State.Keeps.free, State.Keeps.modPart, State.Keeps.putWeights, State.Keeps.foldl, List.cons_subset, List.nil_subset]

theorem State.Keeps.goes_weightRefetchTimeout (g : [Group.bar, .pln, .memory, .blt] ⊆ l) (part) (addr) : s0.Goes l (execWeightRefetchTimeout part addr s) := by
  unfold execWeightRefetchTimeout
  grind only [State.goes_next, State.Keeps.post, State.Keeps.setDegraded, State.Keeps.modPart, List.cons_subset, List.nil_subset]

theorem State.Keeps.tellAdapter (g : [Group.out] ⊆ l) (p) (id) (version) (act) : s0.Keeps l (s.tellAdapter p id version act) := by
  unfold State.tellAdapter
  grind only [State.Keeps.emit, State.Keeps.foldl, List.cons_subset, List.nil_subset]

theorem State.Keeps.goes_adapterLoad (g : [Group.bar, .stk, .pln, .cmd, .host, .out] ⊆ l) (hd) (adapter) (rank) (version) (source) (swap) (srcDev) (srcPart) (srcAddr) (rsv) : s0.Goes l (execAdapterLoad hd adapter rank version source swap srcDev srcPart srcAddr rsv s) := by
  unfold execAdapterLoad
  refine State.Keeps.serve h (groups_sub g rfl) _ _ _ _ fun r t k => ?_
  grind only [State.Keeps.serve, State.Keeps.done, State.Keeps.accepted, State.Keeps.modPart, State.Keeps.emit, State.Keeps.foldl, List.cons_subset, List.nil_subset]

theorem State.Keeps.goes_adapterLoadComplete (g : [Group.bar, .pln, .cmd, .host, .out] ⊆ l) (part) (adapter) (version) (result) : s0.Goes l (execAdapterLoadComplete part adapter version result s) := by
  unfold execAdapterLoadComplete
  grind only [State.goes_next, State.Keeps.modPart, State.Keeps.answer, State.Keeps.tellAdapter, List.cons_subset, List.nil_subset]

theorem State.Keeps.goes_adapterUnload (g : [Group.bar, .stk, .pln, .cmd, .host, .out] ⊆ l) (hd) (adapter) (rsv) : s0.Goes l (execAdapterUnload hd adapter rsv s) := by
  unfold execAdapterUnload
  refine State.Keeps.serve h (groups_sub g rfl) _ _ _ _ fun r t k => ?_
  grind only [State.Keeps.serve, State.Keeps.done, State.Keeps.tellAdapter, State.Keeps.modPart, List.cons_subset, List.nil_subset]

theorem State.Keeps.adapterSwap (g : [Group.sat, .pln, .out] ⊆ l) (p) : s0.Keeps l (s.adapterSwap p) := by
  unfold State.adapterSwap
  grind only [State.Keeps.toShards, State.Keeps.modSat, State.Keeps.modPart, State.Keeps.foldl, List.cons_subset, List.nil_subset]

theorem State.Keeps.freeAdapters (g : [Group.pln] ⊆ l) (p) : s0.Keeps l (s.freeAdapters p) := by
  unfold State.freeAdapters
  grind only [State.Keeps.modPart, List.cons_subset, List.nil_subset]

theorem State.Keeps.goes_tenantBudget (g : [Group.bar, .stk, .pln, .cmd, .host, .out] ⊆ l) (hd) (tenant) (rate) (burst) (floor) (rsv) : s0.Goes l (execTenantBudget hd tenant rate burst floor rsv s) := by
  unfold execTenantBudget
  refine State.Keeps.serve h (groups_sub g rfl) _ _ _ _ fun r t k => ?_
  grind only [State.Keeps.serve, State.Keeps.done, State.Keeps.answer, State.Keeps.setPln, = List.length_modify, = List.length_map, List.cons_subset, List.nil_subset]

theorem State.Keeps.refill (g : [Group.pln] ⊆ l) : s0.Keeps l (s.refill) := by
  unfold State.refill
  grind only [State.Keeps.setPln, = List.length_modify, = List.length_map, List.cons_subset, List.nil_subset]

theorem State.Keeps.goes_partitionTenants (g : [Group.bar, .stk, .cmd, .host, .out] ⊆ l) (hd) (action) (n) (tenants) (rsv) : s0.Goes l (execPartitionTenants hd action n tenants rsv s) := by
  unfold execPartitionTenants
  refine State.Keeps.serve h (groups_sub g rfl) _ _ _ _ fun r t k => ?_
  grind only [State.Keeps.serve, State.Keeps.done, State.Keeps.setCmd, = List.length_modify, State.Keeps.foldl, List.cons_subset, List.nil_subset]

theorem State.Keeps.goes_tenantRelease (g : [Group.bar, .stk, .pln, .cmd, .sec, .host, .out] ⊆ l) (hd) (tenant) (rsv) : s0.Goes l (execTenantRelease hd tenant rsv s) := by
  unfold execTenantRelease
  refine State.Keeps.serve h (groups_sub g rfl) _ _ _ _ fun r t k => ?_
  grind only [State.Keeps.serve, State.Keeps.done, State.Keeps.setPln, State.Keeps.setSec, State.Keeps.mk, = List.length_modify, = List.length_map, List.cons_subset, List.nil_subset]

theorem State.Keeps.settleRef (g : [Group.stk, .pwr] ⊆ l) : s0.Keeps l (s.settleRef) := by
  unfold State.settleRef
  grind only [State.Keeps.setStk, State.Keeps.setPwr, State.Keeps.mk, List.cons_subset, List.nil_subset]

theorem State.Keeps.latchSrc (g : [Group.stk, .pwr] ⊆ l) : s0.Keeps l (s.latchSrc) := by
  unfold State.latchSrc
  grind only [State.Keeps.settleRef, State.Keeps.setStk, List.cons_subset, List.nil_subset]

theorem State.Keeps.goes_syncSend (g : [Group.stk, .pwr, .out] ⊆ l) (now) : s0.Goes l (execSyncSend now s) := by
  unfold execSyncSend
  grind only [State.goes_next, State.Keeps.latchSrc, State.Keeps.at_, State.Keeps.emit, State.Keeps.setStk, State.Keeps.foldl, List.cons_subset, List.nil_subset]

theorem State.Keeps.exchanged (g : [Group.bar, .stk] ⊆ l) (err) (x0) (cfg) : s0.Keeps l (s.exchanged err x0 cfg) := by
  unfold State.exchanged
  grind only [State.Keeps.setFld, State.Keeps.setStk, List.cons_subset, List.nil_subset]

theorem State.Keeps.goes_syncExchange (g : [Group.bar, .stk, .pwr, .out] ⊆ l) (port) (t1) (t2) (t3) (t4) (cfg) : s0.Goes l (execSyncExchange port t1 t2 t3 t4 cfg s) := by
  unfold execSyncExchange
  extract_lets u err _ s1 k g0
  have ku : s0.Keeps l u := (h.at_ (groups_sub g rfl) _).latchSrc (groups_sub g rfl)
  have k1 : s0.Keeps l s1 := (ku.setStk (g (by simp)) _).emit (groups_sub g rfl) _
  have kx := k1.exchanged (groups_sub g rfl) err t3 cfg
  split
  · exact ku
  · split
    · split
      · exact kx
      · split
        · split
          · exact (k1.setStk (g (by simp)) _).exchanged (groups_sub g rfl) _ _ _
          · exact k1.setStk (g (by simp)) _
        · exact k1
    · split
      · exact kx
      · exact k1

theorem State.Keeps.enterHoldover (g : [Group.bar, .stk, .blt] ⊆ l) : s0.Keeps l (s.enterHoldover) := by
  unfold State.enterHoldover
  grind only [State.Keeps.note, State.Keeps.setStk, List.cons_subset, List.nil_subset]

theorem State.Keeps.goes_parentLost (g : [Group.bar, .stk, .blt, .pwr] ⊆ l) (now) : s0.Goes l (execParentLost now s) := by
  unfold execParentLost
  grind only [State.goes_next, State.Keeps.latchSrc, State.Keeps.at_, State.Keeps.enterHoldover, State.Keeps.setStk, List.cons_subset, List.nil_subset]

theorem State.Keeps.goes_unaligned (g : [Group.bar, .stk, .blt] ⊆ l) (now) : s0.Goes l (execUnaligned now s) := by
  unfold execUnaligned
  grind only [State.goes_next, State.Keeps.at_, State.Keeps.post, State.Keeps.setStk, List.cons_subset, List.nil_subset]

theorem State.Keeps.goes_tsyncInPulse (g : [Group.bar, .stk, .pwr] ⊆ l) (now) : s0.Goes l (execTsyncInPulse now s) := by
  unfold execTsyncInPulse
  grind only [State.goes_next, State.Keeps.at_, State.Keeps.setFld, State.Keeps.setStk, State.Keeps.setPwr, State.Keeps.mk, List.cons_subset, List.nil_subset]

theorem State.Keeps.goes_refHoldover (g : [Group.bar, .stk, .blt] ⊆ l) (now) : s0.Goes l (execRefHoldover now s) := by
  unfold execRefHoldover
  dsimp only
  (repeat' split) <;> apply_rules [State.Keeps.next, State.Keeps.at_, State.Keeps.note] <;> grind only [State.goes_next, State.Keeps.at_, State.Keeps.note, State.Keeps.setFld, State.Keeps.setStk, List.cons_subset, List.nil_subset]

theorem State.Keeps.goes_tsyncOutPulse (g : [Group.stk, .out] ⊆ l) (now) : s0.Goes l (execTsyncOutPulse now s) := by
  unfold execTsyncOutPulse
  grind only [State.goes_next, State.Keeps.at_, State.Keeps.emit, State.Keeps.setStk, List.cons_subset, List.nil_subset]

theorem State.Keeps.setStep (g : [Group.bar, .blt, .pwr] ⊆ l) (k) : s0.Keeps l (s.setStep k) := by
  unfold State.setStep
  grind only [State.Keeps.count, State.Keeps.note, State.Keeps.setPwr, List.cons_subset, List.nil_subset]

theorem State.Keeps.fallStep (g : [Group.bar, .blt, .pwr] ⊆ l) : s0.Keeps l (s.fallStep) := by
  unfold State.fallStep
  grind only [State.Keeps.setStep, State.Keeps.setPwr, List.cons_subset, List.nil_subset]

theorem State.Keeps.goes_strokeConfig (g : [Group.bar, .stk, .cmd, .host, .out] ⊆ l) (hd) (mode) (cfg) (stroke) (rsv) : s0.Goes l (execStrokeConfig hd mode cfg stroke rsv s) := by
  unfold execStrokeConfig
  refine State.Keeps.serve h (groups_sub g rfl) _ _ _ _ fun r t k => ?_
  grind only [State.Keeps.serve, State.Keeps.done, State.Keeps.setStk, List.cons_subset, List.nil_subset]

theorem State.Keeps.goes_timeSet (g : [Group.bar, .stk, .cmd, .host, .out] ⊆ l) (hd) (time) : s0.Goes l (execTimeSet hd time s) := by
  unfold execTimeSet
  refine State.Keeps.serve h (groups_sub g rfl) _ _ _ _ fun r t k => ?_
  grind only [State.Keeps.serve, State.Keeps.done, State.Keeps.setStk, List.cons_subset, List.nil_subset]

theorem State.Keeps.beginPhase (g : [Group.stk] ⊆ l) (from_) (to_) (point) {t} (e : s.beginPhase from_ to_ point = some t) : s0.Keeps l t := by
  unfold State.beginPhase at e
  grind only [State.Keeps.at_, State.Keeps.setStk, List.cons_subset, List.nil_subset]

theorem State.Keeps.skipIfOpen (g : [Group.bar, .pln, .blt] ⊆ l) (p) : s0.Keeps l (s.skipIfOpen p) := by
  unfold State.skipIfOpen
  grind only [State.Keeps.note, State.Keeps.count, State.Keeps.modPart, List.cons_subset, List.nil_subset]

theorem State.Keeps.endPlan (g : [Group.bar, .pln] ⊆ l) (p) : s0.Keeps l (s.endPlan p) := by
  unfold State.endPlan
  grind only [State.Keeps.count, State.Keeps.modPart, List.cons_subset, List.nil_subset]

theorem State.Keeps.goes_issuePhase (g : [Group.bar, .stk, .pln, .blt] ⊆ l) : s0.Goes l (execIssuePhase s) := by
  unfold execIssuePhase
  grind only [State.goes_next, State.Keeps.beginPhase, State.Keeps.endPlan, State.Keeps.skipIfOpen, State.Keeps.foldl, List.cons_subset, List.nil_subset]

theorem State.Keeps.goes_computePhase (g : [Group.stk] ⊆ l) : s0.Goes l (execComputePhase s) := by
  unfold execComputePhase
  grind only [State.goes_next, State.Keeps.beginPhase, List.cons_subset, List.nil_subset]

theorem State.Keeps.countMiss (g : [Group.bar] ⊆ l) (miss) : s0.Keeps l (s.countMiss miss) := by
  unfold State.countMiss
  grind only [State.Keeps.count, List.cons_subset, List.nil_subset]

theorem State.Keeps.deferRow (g : [Group.bar, .sat] ⊆ l) (slot) : s0.Keeps l (s.deferRow slot) := by
  unfold State.deferRow
  grind only [State.Keeps.count, State.Keeps.modSat, List.cons_subset, List.nil_subset]

theorem State.Keeps.noWindow (g : [Group.bar, .sat, .kva, .pln, .fls, .sec, .out] ⊆ l) (slot) (x) (rows) (short) : s0.Keeps l (s.noWindow slot x rows short) := by
  unfold State.noWindow
  grind only [State.Keeps.deferRow, State.Keeps.preempt, State.Keeps.count, List.cons_subset, List.nil_subset]

theorem State.Keeps.takeRow (g : [Group.bar, .sat, .kva, .pln, .memory, .fls, .sec, .out, .freeCtr] ⊆ l) (slot) (x) (short) (w) : s0.Keeps l (s.takeRow slot x short w) := by
  unfold State.takeRow
  dsimp only
  (repeat' split) <;> apply_rules [State.Keeps.noWindow, State.Keeps.modSat, State.Keeps.modPart, State.Keeps.emit, State.Keeps.count, State.Keeps.chargeTokens] <;> grind only [State.Keeps.makePresent, State.Keeps.noWindow, State.Keeps.modSat, State.Keeps.modPart, State.Keeps.emit, State.Keeps.count, State.Keeps.chargeTokens, State.Keeps.foldl, List.cons_subset, List.nil_subset]

theorem State.Keeps.planDecode (g : [Group.bar, .sat, .kva, .pln, .memory, .fls, .sec, .out, .freeCtr] ⊆ l) (preds) (first) (slot) : s0.Keeps l (s.planDecode preds first slot) := by
  unfold State.planDecode
  grind only [State.withSlot, State.Keeps.countMiss, State.Keeps.deferRow, State.Keeps.takeRow, List.cons_subset, List.nil_subset]

theorem State.Keeps.planPending (g : [Group.bar, .sat, .kva, .pln, .memory, .fls, .sec, .out, .freeCtr] ⊆ l) (preds) (slot) : s0.Keeps l (s.planPending preds slot) := by
  unfold State.planPending
  grind only [State.withSlot, State.Keeps.countMiss, State.Keeps.deferRow, State.Keeps.takeRow, List.cons_subset, List.nil_subset]

theorem State.Keeps.planChunk (g : [Group.bar, .sat, .kva, .pln, .memory, .fls, .sec, .out, .freeCtr] ⊆ l) (preds) (slot) : s0.Keeps l (s.planChunk preds slot) := by
  unfold State.planChunk
  grind only [State.withSlot, State.Keeps.countMiss, State.Keeps.deferRow, State.Keeps.takeRow, List.cons_subset, List.nil_subset]

theorem State.Keeps.adoptLimits (g : [Group.pln, .memory] ⊆ l) (p) : s0.Keeps l (s.adoptLimits p) := by
  unfold State.adoptLimits
  grind only [State.Keeps.writeParams, State.Keeps.modPart, List.cons_subset, List.nil_subset]

theorem State.Keeps.plan (g : [Group.bar, .sat, .kva, .pln, .memory, .fls, .sec, .out, .freeCtr] ⊆ l) (preds) (cut) (p) : s0.Keeps l (s.plan preds cut p) := by
  unfold State.plan
  extract_lets q s1 s2 full s3 keep c0 s4 due s5 rest s6
  have k1 : s0.Keeps l s1 := (h.adoptLimits (groups_sub g rfl) _).modPart (groups_sub g rfl) _ _
  have k2 : s0.Keeps l s2 := k1.requestReturns (groups_sub g rfl) _
  have k3 : s0.Keeps l s3 := k2.foldl _ _ fun t e kt => kt.deferRow (groups_sub g rfl) _
  have k4 : s0.Keeps l s4 := k3.foldl _ _ fun t e kt => kt.planDecode (groups_sub g rfl) _ _ _
  have k5 : s0.Keeps l s5 := k4.foldl _ _ fun t e kt => kt.planPending (groups_sub g rfl) _ _
  have k6 : s0.Keeps l s6 := k5.foldl _ _ fun t e kt => kt.planDecode (groups_sub g rfl) _ _ _
  exact h.ite (k6.foldl _ _ fun t e kt => kt.planChunk (groups_sub g rfl) _ _)

theorem State.Keeps.beginStroke (g : [Group.bar, .stk] ⊆ l) (n) (c) (skipped) : s0.Keeps l (s.beginStroke n c skipped) := by
  unfold State.beginStroke
  grind only [State.Keeps.count, State.Keeps.at_, State.Keeps.setStk, List.cons_subset, List.nil_subset]

theorem State.Keeps.checkMismatch (g : [Group.bar, .stk, .blt] ⊆ l) : s0.Keeps l (s.checkMismatch) := by
  unfold State.checkMismatch
  grind only [State.Keeps.post, State.Keeps.setStk, List.cons_subset, List.nil_subset]

theorem State.Keeps.resendReturned (g : [Group.sat, .out] ⊆ l) : s0.Keeps l (s.resendReturned) := by
  unfold State.resendReturned
  refine State.Keeps.foldl ?_ _ _ fun t r kt => kt.toRegistrar (groups_sub g rfl) _ _ _
  exact h.setSat (g (by simp)) _ (fun ok => ok) fun ok => ok

theorem State.Keeps.reportDrops (g : [Group.bar, .cmd, .host, .out] ⊆ l) : s0.Keeps l (s.reportDrops) := by
  unfold State.reportDrops
  grind only [State.Keeps.event, State.Keeps.setCmd, = List.length_modify, State.Keeps.foldl, List.cons_subset, List.nil_subset]

theorem State.Keeps.freezeMove (g : [Group.bar, .sat, .kva, .pln, .memory, .fls, .cmd, .blt, .sec, .host, .out, .freeCtr] ⊆ l) (slot) : s0.Keeps l (s.freezeMove slot) := by
  unfold State.freezeMove
  refine h.withSlot fun x _ => ?_
  have kr := h.beginWarmRestore (groups_sub g rfl) slot
  have km := h.modSat (groups_sub g rfl) slot
  split
  · exact h
  · refine h.ite (State.Keeps.ite ?_ (h.ite ?_))
    · split
      · exact kr _
      · exact kr _
      · exact kr _
      · exact h
    · split
      · exact (km _).ite ((km _).thaw (groups_sub g rfl) _)
      · exact (km _).ite ((km _).thaw (groups_sub g rfl) _)
      · exact (km _).ite ((km _).thaw (groups_sub g rfl) _)
      · exact h

theorem State.Keeps.shutdownMoves (g : [Group.sat, .sec] ⊆ l) (p) : s0.Keeps l (s.shutdownMoves p) := by
  unfold State.shutdownMoves
  split
  · exact h
  · refine h.ite (h.foldl _ _ fun t e kt => ?_)
    split
    · exact kt
    · split
      · exact kt
      · exact (kt.setSec (g (by simp)) _).modSat (groups_sub g rfl) _ _

theorem State.Keeps.boundaryWork (g : [Group.bar, .sat, .kva, .cores, .pln, .memory, .fls, .shp, .cmd, .blt, .sec, .host, .pwr, .out, .freeCtr] ⊆ l) : s0.Keeps l (s.boundaryWork) := by
  unfold State.boundaryWork
  extract_lets s1 _ _ s2 s3 s4 s5 s6 held
  have k1 : s0.Keeps l s1 := (h.fallStep (groups_sub g rfl)).takeGates (groups_sub g rfl)
  clear_value s1
  have k2 : s0.Keeps l s2 :=
    (k1.setShp (g (by simp)) { s1.shp with windows := (List.range 8).map fun c => if c = 0 then 31 else s1.fld (Reg.shpWin c) 4 0 }).setPln (g (by simp)) _
      fun ok => (List.length_map _).trans ok
  clear_value s2
  have k3 : s0.Keeps l s3 :=
    (((k2.advanceEpoch (groups_sub g rfl)).resendReturned (groups_sub g rfl)).reportDrops (groups_sub g rfl)).refill (groups_sub g rfl)
  clear_value s3
  have k4 : s0.Keeps l s4 := k3.foldl _ _ fun t p kt =>
    ((kt.partBoundary (groups_sub g rfl) _).adapterSwap (groups_sub g rfl) _).refetch (groups_sub g rfl) _
  have k5 : s0.Keeps l s5 := k4.foldl _ _ fun t p kt => kt.shutdownMoves (groups_sub g rfl) _
  have k6 : s0.Keeps l s6 := k5.foldl _ _ fun t c kt => kt.freezeMove (groups_sub g rfl) _
  exact (k6.foldl _ _ fun t p kt => kt.requestReturns (groups_sub g rfl) _).runCheck (groups_sub g rfl)

theorem State.Keeps.goes_strokeBoundary (g : [Group.bar, .stk, .sat, .kva, .cores, .pln, .memory, .fls, .shp, .cmd, .blt, .sec, .host, .pwr, .out, .freeCtr] ⊆ l) (preds) (cuts) : s0.Goes l (execStrokeBoundary preds cuts s) := by
  unfold execStrokeBoundary
  split
  · exact h
  · have k1 := fun n c k => ((h.beginStroke (groups_sub g rfl) n c k).checkMismatch (groups_sub g rfl)).boundaryWork (groups_sub g rfl)
    exact State.Keeps.next ((k1 _ _ _).ite ((k1 _ _ _).foldl _ _ fun t p kt => kt.plan (groups_sub g rfl) _ _ _))

theorem State.Keeps.offerDue (g : [Group.sat, .sec, .out] ⊆ l) (slot) : s0.Keeps l (s.offerDue slot) := by
  unfold State.offerDue
  grind only [State.withSlot, State.Keeps.sendOffer, List.cons_subset, List.nil_subset]

theorem State.Keeps.migrateRows (g : [Group.sat, .kva, .pln, .memory, .freeCtr] ⊆ l) (c) (n) (n') : s0.Keeps l (s.migrateRows c n n') := by
  induction n generalizing s n' with
  | zero =>
    unfold State.migrateRows
    exact h
  | succ n ih =>
    unfold State.migrateRows
    split
    · exact h
    · dsimp only
      split
      · exact h
      · exact h
      · refine (h.modCtx (groups_sub g rfl) _ _).ite ?_
        split
        · next e _ =>
          have k1 := h.allocRow (groups_sub g rfl) _ _ e
          exact ih (((k1.copyRow (groups_sub g rfl) _ _ _ _ _).ite (k1.fillFree (groups_sub g rfl) _ _)).modCtx (groups_sub g rfl) _ _) _
        · exact h.modCtx (groups_sub g rfl) _ _

theorem State.Keeps.migrate (g : [Group.sat, .kva, .pln, .memory, .freeCtr] ⊆ l) (c) : s0.Keeps l (s.migrate c) := by
  unfold State.migrate
  grind only [State.withCtx, State.Keeps.migrateRows, List.cons_subset, List.nil_subset]

theorem State.Keeps.rehomeSend (g : [Group.sat, .out] ⊆ l) : s0.Keeps l (s.rehomeSend) := by
  unfold State.rehomeSend
  grind only [State.Keeps.emit, State.Keeps.modRec, State.Keeps.foldl, List.cons_subset, List.nil_subset]

theorem State.Keeps.goes_exchangePhase (g : [Group.stk, .sat, .kva, .pln, .memory, .sec, .out, .freeCtr] ⊆ l) : s0.Goes l (execExchangePhase s) := by
  unfold execExchangePhase
  dsimp only
  (repeat' split) <;> apply_rules [State.Keeps.next, State.Keeps.rehomeSend, State.Keeps.migrate, State.Keeps.offerDue] <;> grind only [State.goes_next, State.Keeps.beginPhase, State.Keeps.rehomeSend, State.Keeps.migrate, State.Keeps.offerDue, State.Keeps.foldl, List.cons_subset, List.nil_subset]

theorem State.Keeps.settleInk (g : [Group.bar, .sat, .kva, .pln, .fls, .cmd, .host, .out] ⊆ l) (slot) (x) (a) (subst) (kv) : s0.Keeps l (s.settleInk slot x a subst kv) := by
  unfold State.settleInk
  grind only [State.Keeps.modSat, State.Keeps.count, State.Keeps.freeBeyond, State.Keeps.finish, List.cons_subset, List.nil_subset]

theorem State.Keeps.settleRows (g : [Group.sat, .kva, .pln, .fls, .out] ⊆ l) (slot) (x) (w) : s0.Keeps l (s.settleRows slot x w) := by
  unfold State.settleRows
  grind only [State.Keeps.freeBeyond, State.Keeps.modSat, List.cons_subset, List.nil_subset]

theorem State.Keeps.settleMiss (g : [Group.bar, .sat, .kva, .pln, .fls, .cmd, .host, .out] ⊆ l) (slot) (x) (w) : s0.Keeps l (s.settleMiss slot x w) := by
  unfold State.settleMiss
  grind only [State.Keeps.count, State.Keeps.freeBeyond, State.Keeps.endWith, State.Keeps.settleInk, State.Keeps.modSat, List.cons_subset, List.nil_subset]

theorem State.Keeps.acceptPath (g : [Group.bar, .kva, .memory, .out, .freeCtr] ⊆ l) (slot) (x) (path) : s0.Keeps l (s.acceptPath slot x path) := by
  unfold State.acceptPath
  grind only [State.Keeps.toShards, State.Keeps.movePath, List.cons_subset, List.nil_subset]

theorem State.Keeps.inkSat (g : [Group.bar, .sat, .kva, .pln, .memory, .fls, .cmd, .host, .out, .freeCtr] ⊆ l) (late) (slot) : s0.Keeps l (s.inkSat late slot) := by
  unfold State.inkSat
  refine h.withSlot fun x _ => ?_
  split
  · exact h.modSat (groups_sub g rfl) _ _
  · refine ((h.finish (groups_sub g rfl) _ _ _).freeBeyond (groups_sub g rfl) _).ite ?_
    refine ((h.modSat (groups_sub g rfl) _ _).ite (h.settleRows (groups_sub g rfl) _ _ _)).ite ?_
    split
    exact (h.settleMiss (groups_sub g rfl) _ _ _).ite (((h.acceptPath (groups_sub g rfl) _ _ _).ite h).settleInk (groups_sub g rfl) _ _ _ _ _)

theorem State.Keeps.report (g : [Group.bar, .sat, .kva, .pln, .memory, .fls, .cmd, .host, .out] ⊆ l) (slot) : s0.Keeps l (s.report slot) := by
  unfold State.report
  grind only [State.withSlot, State.Keeps.publishInk, State.Keeps.sendMirror, List.cons_subset, List.nil_subset]

theorem State.Keeps.dropEntries (g : [Group.cores, .memory] ⊆ l) : s0.Keeps l (s.dropEntries) := by
  unfold State.dropEntries
  grind only [State.Keeps.setCores, State.Keeps.setMemory, State.Keeps.mk, Memory.wf_memWrite, Memory.wf_memZero, Memory.wf_memCopy, List.cons_subset, List.nil_subset]

theorem State.Keeps.goes_inkPoint (g : [Group.bar, .stk, .sat, .kva, .cores, .pln, .memory, .fls, .cmd, .host, .out, .freeCtr] ⊆ l) (late) : s0.Goes l (execInkPoint late s) := by
  unfold execInkPoint
  split
  · exact h
  · next e =>
    have k1 := (h.beginPhase (groups_sub g rfl) _ _ _ e).dropEntries (groups_sub g rfl)
    dsimp only
    split
    · exact k1.foldl _ _ fun t c kt => kt.modSat (groups_sub g rfl) _ _
    · refine State.Keeps.next (State.Keeps.setPln (State.Keeps.foldl ?_ _ _ fun t c kt => kt.report (groups_sub g rfl) _) (g (by simp)) _
        fun ok => (List.length_map _).trans ok)
      exact k1.foldl _ _ fun t c kt => kt.inkSat (groups_sub g rfl) _ _

theorem State.Keeps.applyStep (g : [Group.bar, .stk] ⊆ l) : s0.Keeps l (s.applyStep) := by
  unfold State.applyStep
  grind only [State.Keeps.setFld, State.Keeps.count, State.Keeps.setStk, List.cons_subset, List.nil_subset]

theorem State.Keeps.goes_commitComplete (g : [Group.bar, .stk, .sat, .kva, .pln, .memory, .fls, .blt, .sec, .out, .freeCtr] ⊆ l) (part) (now) (preds) (cut) : s0.Goes l (execCommitComplete part now preds cut s) := by
  unfold execCommitComplete
  extract_lets p sn u q s1 s2 s3
  have kn : s0.Keeps l sn := h.at_ (groups_sub g rfl) _
  clear_value sn
  have ku : s0.Keeps l u := (kn.skipIfOpen (groups_sub g rfl) _).ite kn
  clear_value u
  have k1 : s0.Keeps l s1 := ku.modPart (groups_sub g rfl) _ _
  clear_value s1
  have k2 : s0.Keeps l s2 := (k1.freeAdapters (groups_sub g rfl) _).ite ku
  clear_value s2
  have k3 : s0.Keeps l s3 := (k2.applyStep (groups_sub g rfl)).ite k2
  clear_value s3
  split
  · exact k3
  · split
    · exact k3.enterSuspend (groups_sub g rfl) _
    · split
      · exact (k3.count (groups_sub g rfl) _ _).plan (groups_sub g rfl) _ _ _
      · exact k3

end
end Sys2Proof.Machine
end

section
/-!
PROOFS. What the operations keep: the planner, units and engine.
-/
namespace Sys2Proof.Machine
section
variable {s0 s : State} {l : List Group} (h : s0.Keeps l s)
include h
theorem State.Keeps.fetchVa (g : [Group.memory, .freeCtr] ⊆ l) (p) (va) (n) : s0.Keeps l (s.fetchVa p va n).1 := by
  unfold State.fetchVa
  grind only [State.Keeps.xlateRange, State.Keeps.readParts, List.cons_subset, List.nil_subset]

theorem State.Keeps.storeVa (g : [Group.memory, .host, .out, .freeCtr] ⊆ l) (p) (ag) (va) (n) (f) : s0.Keeps l (s.storeVa p ag va n f).1 := by
  unfold State.storeVa
  grind only [State.Keeps.xlateRange, State.Keeps.readParts, State.Keeps.writeParts, List.cons_subset, List.nil_subset]

theorem State.Keeps.readElems (g : [Group.memory, .freeCtr] ⊆ l) (p) (o) (r) (i) (n) : s0.Keeps l (s.readElems p o r i n).1 := by
  unfold State.readElems
  grind only [State.Keeps.fetchVa, List.cons_subset, List.nil_subset]

theorem State.Keeps.readRows (g : [Group.memory, .freeCtr] ⊆ l) (p) (o) (i) (n) (xs) : s0.Keeps l (s.readRows p o i n xs).1 := by
  induction xs generalizing s p o i n with
  | nil => unfold State.readRows; grind only [State.Keeps.readElems, List.cons_subset, List.nil_subset]
  | cons x xs ih => unfold State.readRows; grind only [State.Keeps.readElems, List.cons_subset, List.nil_subset]

theorem State.Keeps.countConv (g : [Group.bar, .blt] ⊆ l) (core) (desc) (sat) (nan) : s0.Keeps l (s.countConv core desc sat nan) := by
  unfold State.countConv
  grind only [State.Keeps.count, State.Keeps.note, State.Keeps.foldl, List.cons_subset, List.nil_subset]

theorem State.Keeps.writeElems (g : [Group.memory, .host, .out, .freeCtr] ⊆ l) (p) (ag) (o) (r) (i) (codes) (blk) (scales) : s0.Keeps l (s.writeElems p ag o r i codes blk scales).1 := by
  unfold State.writeElems
  grind only [State.Keeps.storeVa, List.cons_subset, List.nil_subset]

theorem State.Keeps.writeRow (g : [Group.bar, .memory, .blt, .host, .out, .freeCtr] ⊆ l) (core) (desc) (p) (ag) (o) (r) (i) (n) (xs) : s0.Keeps l (s.writeRow core desc p ag o r i n xs).1 := by
  unfold State.writeRow
  grind only [State.Keeps.writeElems, State.Keeps.countConv, List.cons_subset, List.nil_subset]

theorem State.Keeps.walkFault (g : [Group.bar, .blt] ⊆ l) (ctx) (st) : s0.Keeps l (s.walkFault ctx st) := by
  unfold State.walkFault
  grind only [State.Keeps.post, State.Keeps.count, List.cons_subset, List.nil_subset]

theorem State.Keeps.endEntry (g : [Group.bar, .sat, .kva, .pln, .fls, .cmd, .blt, .host, .out] ⊆ l) (ctx) (f) (st) : s0.Keeps l (s.endEntry ctx f st) := by
  unfold State.endEntry
  grind only [State.Keeps.post, State.Keeps.endWith, State.Keeps.killRows, State.Keeps.count, State.Keeps.modPart, List.cons_subset, List.nil_subset]

theorem State.Keeps.putCmd (g : [Group.cores] ⊆ l) (core) (unit) (c) : s0.Keeps l (s.putCmd core unit c) := by
  unfold State.putCmd
  grind only [State.Keeps.setCores, List.cons_subset, List.nil_subset]

theorem State.Keeps.missEntry (g : [Group.pln] ⊆ l) (ctx) : s0.Keeps l (s.missEntry ctx) := by
  unfold State.missEntry
  grind only [State.Keeps.modPart, List.cons_subset, List.nil_subset]

omit h in
theorem Run.Keeps.after {r : Run} (h : s0.Keeps l r.s) (g : [Group.bar, .sat, .kva, .pln, .memory, .fls, .cmd, .blt, .host, .out] ⊆ l) (core) (unit) (entries) (i) (e) :
    s0.Keeps l (Run.after r core unit entries i e).s := by
  cases e with
  | ok => exact h
  | wait =>
    dsimp only [Run.after]
    split <;> exact h
  | corrupt =>
    dsimp only [Run.after]
    split
    · exact (h.missEntry (groups_sub g rfl) _).lowerCtx (groups_sub g rfl) _
    · exact h
  | quit f st =>
    dsimp only [Run.after]
    split
    · exact h.endEntry (groups_sub g rfl) _ _ _
    · exact h
  | stop x =>
    cases x with
    | poison pa =>
      have k1 := fun f => h.openFault (groups_sub g rfl) f
      dsimp only [Run.after, Run.poisoned]
      split
      · exact (k1 _).missEntry (groups_sub g rfl) _
      · exact (k1 _).post (groups_sub g rfl) _
    | xlat acc va x =>
      cases x with
      | pa a => exact h
      | deny beyond => exact h.denied (groups_sub g rfl) _ _ _
      | bad k stage ipa =>
        have k1 := fun f => h.openFault (groups_sub g rfl) f
        dsimp only [Run.after, Run.faulted]
        split
        · exact h
        · split
          · exact k1 _
          · exact (k1 _).endEntry (groups_sub g rfl) _ _ _
          · exact k1 _

omit h in
theorem Run.Keeps.go (g : [Group.bar, .sat, .kva, .pln, .memory, .fls, .cmd, .blt, .host, .out] ⊆ l) (core) (unit) (entries)
    (work : State → Item → State × ItemEnd) (k : ∀ a i, s0.Keeps l a → s0.Keeps l (work a i).1) (items) (r : Run) (kr : s0.Keeps l r.s) :
    s0.Keeps l (Run.go core unit entries work items r).s := by
  induction items generalizing r with
  | nil => exact kr
  | cons i items ih =>
    unfold Run.go
    split
    · exact kr
    · split
      · exact ih r kr
      · exact ih _ (Run.Keeps.after (k _ _ kr) g _ _ _ _ _)

theorem State.Keeps.runItems (g : [Group.bar, .sat, .kva, .cores, .pln, .memory, .fls, .cmd, .blt, .host, .out] ⊆ l) (core) (unit) (c) (xs) (tiles) (items)
    (work : State → Item → State × ItemEnd) (k : ∀ a i, s0.Keeps l a → s0.Keeps l (work a i).1) : s0.Keeps l (s.runItems core unit c xs tiles items work) := by
  unfold State.runItems
  refine State.Keeps.putCmd (Run.Keeps.go (groups_sub g rfl) core unit xs work k items _ ?_) (groups_sub g rfl) _ _ _
  unfold Run.kills
  dsimp only
  split
  · exact h
  · exact h.count (groups_sub g rfl) _ _

theorem State.Keeps.undefineOut (g : [Group.memory, .host, .out, .freeCtr] ⊆ l) (core) (unit) (c) (ag) (o) : s0.Keeps l (s.undefineOut core unit c ag o) := by
  unfold State.undefineOut
  grind only [State.Keeps.writeElems, State.Keeps.setFreeCtr, State.Keeps.foldl, List.cons_subset, List.nil_subset]

theorem State.Keeps.badCmd (g : [Group.cores] ⊆ l) (core) (unit) (c) : s0.Keeps l (s.badCmd core unit c) := by
  unfold State.badCmd
  grind only [State.Keeps.putCmd, List.cons_subset, List.nil_subset]

theorem State.Keeps.threadStop (g : [Group.bar, .cores, .memory, .cmd, .blt, .host, .out] ⊆ l) (k) (p) (cause) (addr) (y) : s0.Keeps l (s.threadStop k p cause addr y) := by
  unfold State.threadStop
  dsimp only
  (repeat' split) <;> apply_rules [State.Keeps.trap, State.Keeps.openFault, State.Keeps.modThread, State.Keeps.denied] <;> grind only [State.Keeps.trap, State.Keeps.openFault, State.Keeps.modThread, State.Keeps.denied, List.cons_subset, List.nil_subset]

theorem State.Keeps.runCmd (g : [Group.cores] ⊆ l) (core) (unit) (seq) (opcode) (f : State → CoreCmd → State)
    (k : ∀ a c, s0.Keeps l a → s0.Keeps l (f a c)) : s0.Keeps l (s.runCmd core unit seq opcode f) := by
  unfold State.runCmd
  split
  · exact h
  · exact h.ite ((h.putCmd (groups_sub g rfl) _ _ _).ite (k _ _ h))

theorem State.Keeps.withTable (g : [Group.bar, .sat, .kva, .cores, .pln, .memory, .fls, .cmd, .blt, .host, .out, .freeCtr] ⊆ l) (core) (unit) (c) (addr) (n)
    (f : State → List LenEntry → State) (k : ∀ a b, s0.Keeps l a → s0.Keeps l (f a b)) : s0.Keeps l (s.withTable core unit c addr n f) := by
  have k1 := h.fetchVa (groups_sub g rfl) c.part.val addr (16 * n)
  unfold State.withTable
  refine (h.putCmd (groups_sub g rfl) _ _ _).ite (h.ite ?_)
  split
  · next e => exact k _ _ (k1.fst e)
  · next e => exact (Run.Keeps.after (r := { s := _, c := c, stalled := false, failed := none }) (k1.fst e) (groups_sub g rfl) _ _ _ _ _).putCmd (groups_sub g rfl) _ _ _

theorem State.Keeps.threadAccess (g : [Group.bar, .cores, .memory, .cmd, .blt, .host, .out] ⊆ l) (k) (p) (cause) (va) (n) (acc) (f : State → List (Nat × Nat) → State)
    (kf : ∀ a b, s0.Keeps l a → s0.Keeps l (f a b)) : s0.Keeps l (s.threadAccess k p cause va n acc f) := by
  have k1 := h.xlateRange (groups_sub g rfl) p .thread acc va n
  unfold State.threadAccess
  refine (h.trap (groups_sub g rfl) _ _ _ _ _).ite ?_
  split
  · next e => exact (k1.fst e).threadStop (groups_sub g rfl) _ _ _ _ _
  · next e =>
    have k2 := k1.fst e
    exact k2.ite ((k2.threadStop (groups_sub g rfl) _ _ _ _ _).ite (kf _ _ k2))

theorem State.Keeps.baseInstr (g : [Group.bar, .cores, .memory, .cmd, .blt, .host, .out, .freeCtr] ⊆ l) (k) (p) (w) : s0.Keeps l (s.baseInstr k p w) := by
  have kt := h.trap (groups_sub g rfl)
  unfold State.baseInstr
  dsimp only
  split
  · refine (kt _ _ _ _ _).ite (h.threadAccess (groups_sub g rfl) _ _ _ _ _ _ _ fun a b ka => ?_)
    exact (ka.readParts (groups_sub g rfl) _ _).modThread (groups_sub g rfl) _ _
  · refine (kt _ _ _ _ _).ite (h.threadAccess (groups_sub g rfl) _ _ _ _ _ _ _ fun a b ka => ?_)
    exact (ka.writeParts (groups_sub g rfl) _ _ _).modThread (groups_sub g rfl) _ _
  · refine (kt _ _ _ _ _).ite ((kt _ _ _ _ _).ite (State.Keeps.ite ?_ h))
    split
    · exact h.modThread (groups_sub g rfl) _ _
    · exact h.modThread (groups_sub g rfl) _ _
    · exact (h.free (groups_sub g rfl)).modThread (groups_sub g rfl) _ _
    · exact h
  · exact h

theorem State.Keeps.queueCmd (g : [Group.cores] ⊆ l) (k) (p) (core) (unit) (addr) (d) : s0.Keeps l (s.queueCmd k p core unit addr d).1 := by
  unfold State.queueCmd
  grind only [State.Keeps.modThread, State.Keeps.setCores, List.cons_subset, List.nil_subset]

theorem State.Keeps.xinstr (g : [Group.bar, .cores, .memory, .cmd, .blt, .host, .out, .freeCtr] ⊆ l) (core) (thr) (w) (pc) (v1) (v2) (op)
    (f : State → Nat → Nat → State) (k : ∀ a b c, s0.Keeps l a → s0.Keeps l (f a b c)) : s0.Keeps l (s.xinstr core thr w pc v1 v2 op f) := by
  unfold State.xinstr
  extract_lets key s1
  split
  · exact h
  · refine h.ite ?_
    have k1 : s0.Keeps l s1 := h.modThread (groups_sub g rfl) _ _
    clear_value s1
    split
    · exact (k1.trap (groups_sub g rfl) _ _ _ _ _).ite (k1.baseInstr (groups_sub g rfl) _ _ _)
    · exact (k _ _ _ k1).ite h

theorem State.Keeps.push (g : [Group.bar, .cores, .memory, .cmd, .blt, .host, .out, .freeCtr] ⊆ l) (k) (p) (rd) (addr) (sel) : s0.Keeps l (s.push k p rd addr sel) := by
  have k1 := h.fetchVa (groups_sub g rfl) p addr 64
  unfold State.push
  dsimp only
  split
  · exact h.modThread (groups_sub g rfl) _ _
  · refine (h.modThread (groups_sub g rfl) _ _).ite ?_
    split
    · next e => exact (k1.fst e).threadStop (groups_sub g rfl) _ _ _ _ _
    · next e =>
      have k2 := k1.fst e
      split
      · exact k2.modThread (groups_sub g rfl) _ _
      · exact (k2.modThread (groups_sub g rfl) _ _).ite ((k2.queueCmd (groups_sub g rfl) _ _ _ _ _ _).modThread (groups_sub g rfl) _ _)

theorem State.Keeps.goes_tqPush (g : [Group.bar, .cores, .memory, .cmd, .blt, .host, .out, .freeCtr] ⊆ l) (core) (thr) (w) (pc) (v1) (v2) : s0.Goes l (execTqPush core thr w pc v1 v2 s) := by
  unfold execTqPush
  exact h.xinstr g _ _ _ _ _ _ _ _ fun a b c ka => ka.push g _ _ _ _ _

theorem State.Keeps.goes_tqPushResume (g : [Group.bar, .cores, .memory, .cmd, .blt, .host, .out, .freeCtr] ⊆ l) (core) (thr) : s0.Goes l (execTqPushResume core thr s) := by
  unfold execTqPushResume
  grind only [State.goes_next, State.Keeps.push, List.cons_subset, List.nil_subset]

theorem State.Keeps.goes_tqPoll (g : [Group.bar, .cores, .memory, .cmd, .blt, .host, .out, .freeCtr] ⊆ l) (core) (thr) (w) (pc) (v1) (v2) : s0.Goes l (execTqPoll core thr w pc v1 v2 s) := by
  unfold execTqPoll
  exact h.xinstr g _ _ _ _ _ _ _ _ fun a b c ka => ka.modThread (groups_sub g rfl) _ _

theorem State.Keeps.goes_tqWait (g : [Group.bar, .cores, .memory, .cmd, .blt, .host, .out, .freeCtr] ⊆ l) (core) (thr) (w) (pc) (v1) (v2) : s0.Goes l (execTqWait core thr w pc v1 v2 s) := by
  unfold execTqWait
  exact h.xinstr g _ _ _ _ _ _ _ _ fun a b c ka => ka.modThread (groups_sub g rfl) _ _

theorem State.Keeps.goes_tqFence (g : [Group.bar, .cores, .memory, .cmd, .blt, .host, .out, .freeCtr] ⊆ l) (core) (thr) (w) (pc) (v1) (v2) : s0.Goes l (execTqFence core thr w pc v1 v2 s) := by
  unfold execTqFence
  exact h.xinstr g _ _ _ _ _ _ _ _ fun a b c ka => ka.modThread (groups_sub g rfl) _ _

theorem State.Keeps.goes_cvSet (g : [Group.bar, .cores, .pln, .memory, .cmd, .blt, .host, .out, .freeCtr] ⊆ l) (core) (thr) (w) (pc) (v1) (v2) : s0.Goes l (execCvSet core thr w pc v1 v2 s) := by
  unfold execCvSet
  exact h.xinstr (groups_sub g rfl) _ _ _ _ _ _ _ _ fun a b c ka => (ka.modThread (groups_sub g rfl) _ _).cvSet (groups_sub g rfl) _ _

theorem State.Keeps.goes_cvClr (g : [Group.bar, .cores, .pln, .memory, .cmd, .blt, .host, .out, .freeCtr] ⊆ l) (core) (thr) (w) (pc) (v1) (v2) : s0.Goes l (execCvClr core thr w pc v1 v2 s) := by
  unfold execCvClr
  exact h.xinstr (groups_sub g rfl) _ _ _ _ _ _ _ _ fun a b c ka => (ka.modThread (groups_sub g rfl) _ _).modPart (groups_sub g rfl) _ _

theorem State.Keeps.goes_cvWait (g : [Group.bar, .cores, .memory, .cmd, .blt, .host, .out, .freeCtr] ⊆ l) (core) (thr) (w) (pc) (v1) (v2) : s0.Goes l (execCvWait core thr w pc v1 v2 s) := by
  unfold execCvWait
  refine h.xinstr g _ _ _ _ _ _ _ _ fun a b c ka => ?_
  have km := ka.modThread (groups_sub g rfl) b
  exact (km _).ite ((km _).ite ((ka.free (groups_sub g rfl)).modThread (groups_sub g rfl) _ _))

theorem State.Keeps.goes_cvRead (g : [Group.bar, .cores, .memory, .cmd, .blt, .host, .out, .freeCtr] ⊆ l) (core) (thr) (w) (pc) (v1) (v2) : s0.Goes l (execCvRead core thr w pc v1 v2 s) := by
  unfold execCvRead
  refine h.xinstr g _ _ _ _ _ _ _ _ fun a b c ka => ?_
  exact (ka.modThread (groups_sub g rfl) _ _).ite ((ka.free (groups_sub g rfl)).modThread (groups_sub g rfl) _ _)

theorem State.Keeps.goes_threadTrap (g : [Group.bar, .cores, .blt] ⊆ l) (core) (thr) (cause) (pc) (tval) : s0.Goes l (execThreadTrap core thr cause pc tval s) := by
  unfold execThreadTrap
  grind only [State.goes_next, State.Keeps.trap, List.cons_subset, List.nil_subset]

theorem State.Keeps.goes_commandComplete (g : [Group.bar, .cores, .pln] ⊆ l) (core) (dev) (seq) : s0.Goes l (execCommandComplete core dev seq s) := by
  unfold execCommandComplete
  dsimp only
  (repeat' split) <;> apply_rules [State.Keeps.next, State.Keeps.modThread, State.Keeps.count, State.Keeps.cvSet] <;> grind only [State.goes_next, State.Keeps.modThread, State.Keeps.count, State.Keeps.cvSet, State.Keeps.setCores, List.cons_subset, List.nil_subset]

theorem State.Keeps.writeTile (g : [Group.bar, .memory, .blt, .host, .out, .freeCtr] ⊆ l) (core) (desc) (p) (o) (c0) (n) (xs) : s0.Keeps l (s.writeTile core desc p o c0 n xs).1 := by
  induction xs generalizing s core desc p o c0 n with
  | nil => unfold State.writeTile; grind only [State.Keeps.writeRow, List.cons_subset, List.nil_subset]
  | cons x xs ih => unfold State.writeTile; grind only [State.Keeps.writeRow, List.cons_subset, List.nil_subset]

theorem State.Keeps.matRows (g : [Group.bar, .memory, .blt, .host, .out, .freeCtr] ⊆ l) (core) (p) (d) (c0) (n) (rows) : s0.Keeps l (s.matRows core p d c0 n rows).1 := by
  unfold State.matRows
  grind only [State.Keeps.readRows, State.Keeps.writeTile, List.cons_subset, List.nil_subset]

theorem State.Keeps.matTile (g : [Group.bar, .memory, .blt, .host, .out, .freeCtr] ⊆ l) (core) (p) (d) (xs) (nrb) (i) : s0.Keeps l (s.matTile core p d xs nrb i).1 := by
  unfold State.matTile
  grind only [State.Keeps.matRows, List.cons_subset, List.nil_subset]

theorem State.Keeps.writePage (g : [Group.bar, .kva, .memory, .blt] ⊆ l) (core) (desc) (im) (frame) (layer) (headIn) (half) (xs) : s0.Keeps l (s.writePage core desc im frame layer headIn half xs) := by
  unfold State.writePage
  grind only [State.Keeps.writeHead, State.Keeps.countConv, List.cons_subset, List.nil_subset]

theorem State.Keeps.appendRows (g : [Group.bar, .kva, .memory, .blt, .out] ⊆ l) (core) (desc) (p) (im) (w) (ctx) (layer) (block) (vals) (xs) : s0.Keeps l (s.appendRows core desc p im w ctx layer block vals xs) := by
  induction xs generalizing s with
  | nil =>
    unfold State.appendRows
    exact h
  | cons j xs ih =>
    unfold State.appendRows
    refine ih ?_
    dsimp only
    split
    · split
      · exact h.writePage (groups_sub g rfl) _ _ _ _ _ _ _ _
      · exact h.walkFault (groups_sub g rfl) _ _
    · exact h.foldl _ _ fun t e kt => kt.tellHolder (groups_sub g rfl) _ _ _
    · exact h

theorem State.Keeps.appendItem (g : [Group.bar, .kva, .memory, .blt, .out, .freeCtr] ⊆ l) (core) (p) (d) (im) (xs) (i) : s0.Keeps l (s.appendItem core p d im xs i).1 := by
  unfold State.appendItem
  split
  · exact h
  · split
    · exact h
    · split
      · exact h
      · split
        · exact h
        · split
          · exact h.count (groups_sub g rfl) _ _
          · dsimp only
            split
            · next e1 => exact (h.readRows (groups_sub g rfl) _ _ _ _ _).fst e1
            · next e1 =>
              have k1 := (h.readRows (groups_sub g rfl) _ _ _ _ _).fst e1
              split
              · next e2 => exact (k1.readRows (groups_sub g rfl) _ _ _ _ _).fst e2
              · next e2 => exact ((k1.readRows (groups_sub g rfl) _ _ _ _ _).fst e2).appendRows (groups_sub g rfl) _ _ _ _ _ _ _ _ _ _

theorem State.Keeps.goes_matmul (g : [Group.bar, .sat, .kva, .cores, .pln, .memory, .fls, .cmd, .blt, .host, .out, .freeCtr] ⊆ l) (core) (eng) (seq) : s0.Goes l (execMatmul core eng seq s) := by
  unfold execMatmul
  refine h.runCmd (groups_sub g rfl) _ _ _ _ _ fun x c kx => ?_
  dsimp only
  split
  · exact kx.badCmd (groups_sub g rfl) _ _ _
  · split
    · exact (kx.runItems (groups_sub g rfl) _ _ _ _ _ _ _ fun a i ka => ka.matTile (groups_sub g rfl) _ _ _ _ _ _).undefineOut (groups_sub g rfl) _ _ _ _ _
    · refine kx.withTable (groups_sub g rfl) _ _ _ _ _ _ fun y b ky => ?_
      split
      · exact ky.badCmd (groups_sub g rfl) _ _ _
      · split
        · exact ky.runItems (groups_sub g rfl) _ _ _ _ _ _ _ fun a i ka => ka.appendItem (groups_sub g rfl) _ _ _ _ _ _
        · refine ky.runItems (groups_sub g rfl) _ _ _ _ _ _ _ fun a i ka => State.Keeps.iteFst ka ?_
          exact ka.matTile (groups_sub g rfl) _ _ _ _ _ _

theorem State.Keeps.kvAt (g : [Group.freeCtr] ⊆ l) (im) (q) (w) (layer) (head) (pos) : s0.Keeps l (s.kvAt im q w layer head pos).1 := by
  unfold State.kvAt
  grind only [State.Keeps.setFreeCtr, List.cons_subset, List.nil_subset]

theorem State.Keeps.kvList (g : [Group.freeCtr] ⊆ l) (im) (q) (w) (layer) (head) (xs) : s0.Keeps l (s.kvList im q w layer head xs).1 := by
  induction xs generalizing s im q w layer head with
  | nil => unfold State.kvList; grind only [State.Keeps.kvAt, List.cons_subset, List.nil_subset]
  | cons x xs ih => unfold State.kvList; grind only [State.Keeps.kvAt, List.cons_subset, List.nil_subset]

/-- A run over a list with a value beside the state keeps what each of its steps keeps. -/
theorem State.Keeps.foldlFst {α β : Type} (xs : List α) (f : State × β → α → State × β) (step : ∀ a x, s0.Keeps l a.1 → s0.Keeps l (f a x).1) (b : β) :
    s0.Keeps l (xs.foldl f (s, b)).1 := by
  suffices all : ∀ a : State × β, s0.Keeps l a.1 → s0.Keeps l (xs.foldl f a).1 from all (s, b) h
  induction xs with
  | nil => exact fun a ka => ka
  | cons x xs ih => exact fun a ka => ih _ (step a x ka)

theorem State.Keeps.ringMerge (g : [Group.out, .freeCtr] ⊆ l) (q) (w) (layer) (head) (limit) (low) (own) (scale) (query) (m) : s0.Keeps l (s.ringMerge q w layer head limit low own scale query m).1 := by
  unfold State.ringMerge
  refine h.foldlFst _ _ (fun a n ka => ?_) _
  split
  · exact (ka.emit (groups_sub g rfl) _).setFreeCtr (g (by simp)) _
  · exact ka

theorem State.Keeps.attendHead (g : [Group.out, .freeCtr] ⊆ l) (d) (im) (q) (w) (e0) (words) (k) (head) (query) : s0.Keeps l (s.attendHead d im q w e0 words k head query).1 := by
  unfold State.attendHead
  grind only [State.Keeps.kvList, State.Keeps.ringMerge, List.cons_subset, List.nil_subset]

theorem State.Keeps.attendAll (g : [Group.out, .freeCtr] ⊆ l) (d) (im) (q) (w) (e0) (words) (qb) : s0.Keeps l (s.attendAll d im q w e0 words qb).1 := by
  unfold State.attendAll
  refine h.foldlFst _ _ (fun a n ka => ?_) _
  exact ka.attendHead (groups_sub g rfl) _ _ _ _ _ _ _ _ _

theorem State.Keeps.maskWords (g : [Group.memory, .freeCtr] ⊆ l) (p) (addr) (e0) : s0.Keeps l (s.maskWords p addr e0).1 := by
  unfold State.maskWords
  grind only [State.Keeps.fetchVa, List.cons_subset, List.nil_subset]

theorem State.Keeps.walkRows (g : [Group.bar, .blt] ⊆ l) (w) (q) (layer) (first) (groups) (ctx) (rows) : s0.Keeps l (s.walkRows w q layer first groups ctx rows).1 := by
  unfold State.walkRows
  grind only [State.Keeps.walkFault, State.Keeps.foldl, List.cons_subset, List.nil_subset]

theorem State.Keeps.askRows (g : [Group.bar, .sat, .kva, .pln, .memory, .fls, .sec, .out] ⊆ l) (ctx) : s0.Keeps l (s.askRows ctx) := by
  unfold State.askRows State.withCtx State.withSlot
  dsimp only
  (repeat' split) <;> apply_rules [State.Keeps.beginRevive, State.Keeps.requestReturns, State.Keeps.satelliteReturn] <;> grind only [State.Keeps.beginRevive, State.Keeps.requestReturns, State.Keeps.satelliteReturn, List.cons_subset, List.nil_subset]

theorem State.Keeps.attendItem (g : [Group.bar, .sat, .kva, .pln, .memory, .fls, .blt, .sec, .host, .out, .freeCtr] ⊆ l) (core) (p) (d) (im) (xs) (i) : s0.Keeps l (s.attendItem core p d im xs i).1 := by
  unfold State.attendItem
  split
  · exact h
  · split
    · exact h
    · split
      · exact h
      · split
        · exact h
        · split
          · next e1 => exact (h.maskWords (groups_sub g rfl) _ _ _).fst e1
          · next e1 =>
            have k1 := (h.maskWords (groups_sub g rfl) _ _ _).fst e1
            dsimp only
            split
            · next e2 => exact (k1.walkRows (groups_sub g rfl) _ _ _ _ _ _ _).fst e2
            · next e2 => exact ((k1.walkRows (groups_sub g rfl) _ _ _ _ _ _ _).fst e2).askRows (groups_sub g rfl) _
            · next e2 =>
              have k2 := (k1.walkRows (groups_sub g rfl) _ _ _ _ _ _ _).fst e2
              split
              · next e3 => exact (k2.fetchVa (groups_sub g rfl) _ _ _).fst e3
              · next e3 =>
                have k3 := (k2.fetchVa (groups_sub g rfl) _ _ _).fst e3
                have k4 := fun d im q w e words qb => k3.attendAll (groups_sub g rfl) d im q w e words qb
                split
                · next e5 => exact ((k4 _ _ _ _ _ _ _).storeVa (groups_sub g rfl) _ _ _ _ _).fst e5
                · next e5 => exact ((k4 _ _ _ _ _ _ _).storeVa (groups_sub g rfl) _ _ _ _ _).fst e5

theorem State.Keeps.goes_attend (g : [Group.bar, .sat, .kva, .cores, .pln, .memory, .fls, .cmd, .blt, .sec, .host, .out, .freeCtr] ⊆ l) (core) (eng) (seq) : s0.Goes l (execAttend core eng seq s) := by
  unfold execAttend
  refine h.runCmd (groups_sub g rfl) _ _ _ _ _ fun x c kx => ?_
  dsimp only
  split
  · exact kx.badCmd (groups_sub g rfl) _ _ _
  · refine (kx.badCmd (groups_sub g rfl) _ _ _).ite ?_
    refine (kx.ite (kx.pin (groups_sub g rfl) _)).withTable (groups_sub g rfl) _ _ _ _ _ _ fun y b ky => ?_
    refine (ky.badCmd (groups_sub g rfl) _ _ _).ite (ky.runItems (groups_sub g rfl) _ _ _ _ _ _ _ fun a i ka => ?_)
    exact ka.attendItem (groups_sub g rfl) _ _ _ _ _ _

theorem State.Keeps.goes_ringQueryReceive (g : [Group.bar, .blt, .out, .freeCtr] ⊆ l) (src) (cls) (id) (layer) (head) (limit) (low) (own) (scale) (held) (query) : s0.Goes l (execRingQueryReceive src cls id layer head limit low own scale held query s) := by
  unfold execRingQueryReceive
  dsimp only
  (repeat' split) <;> apply_rules [State.Keeps.next, State.Keeps.emit, State.Keeps.walkRows, State.Keeps.kvList] <;> grind only [State.goes_next, State.Keeps.emit, State.Keeps.walkRows, State.Keeps.kvList, State.Keeps.foldl, List.cons_subset, List.nil_subset]

theorem State.Keeps.provide (g : [Group.sat] ⊆ l) (slot) (tapped) (path) (out) : s0.Keeps l (s.provide slot tapped path out) := by
  unfold State.provide
  grind only [State.withSlot, State.Keeps.modSat, List.cons_subset, List.nil_subset]

theorem State.Keeps.sampleEnd (g : [Group.sat, .memory, .host, .out, .freeCtr] ⊆ l) (core) (p) (d) (k) (slot) (tapped) (r) : s0.Keeps l (s.sampleEnd core p d k slot tapped r).1 := by
  unfold State.sampleEnd
  grind only [State.Keeps.storeVa, State.Keeps.provide, List.cons_subset, List.nil_subset]

theorem State.Keeps.sampleItem (g : [Group.bar, .sat, .memory, .blt, .host, .out, .freeCtr] ⊆ l) (core) (p) (d) (tapped) (xs) (i) : s0.Keeps l (s.sampleItem core p d tapped xs i).1 := by
  unfold State.sampleItem
  split
  · exact h
  · split
    · exact h
    · split
      · exact h
      · split
        · exact h.sampleEnd (groups_sub g rfl) _ _ _ _ _ _ _
        · dsimp only
          split
          · exact h.sampleEnd (groups_sub g rfl) _ _ _ _ _ _ _
          · split
            · next e1 => exact (h.maskWords (groups_sub g rfl) _ _ _).fst e1
            · next e1 => exact ((h.maskWords (groups_sub g rfl) _ _ _).fst e1).sampleEnd (groups_sub g rfl) _ _ _ _ _ _ _
            · next e1 =>
              have k1 := (h.maskWords (groups_sub g rfl) _ _ _).fst e1
              split
              · next e2 => exact (k1.readRows (groups_sub g rfl) _ _ _ _ _).fst e2
              · next e2 =>
                have k3 := fun core desc sat nan => ((k1.readRows (groups_sub g rfl) _ _ _ _ _).fst e2).countConv (groups_sub g rfl) core desc sat nan
                split
                · exact (k3 _ _ _ _).sampleEnd (groups_sub g rfl) _ _ _ _ _ _ _
                · split
                  · next e4 => exact ((k3 _ _ _ _).fetchVa (groups_sub g rfl) _ _ _).fst e4
                  · next e4 => exact (((k3 _ _ _ _).fetchVa (groups_sub g rfl) _ _ _).fst e4).sampleEnd (groups_sub g rfl) _ _ _ _ _ _ _

theorem State.Keeps.goes_sample (g : [Group.bar, .sat, .kva, .cores, .pln, .memory, .fls, .cmd, .blt, .host, .out, .freeCtr] ⊆ l) (core) (seq) (tapped) : s0.Goes l (execSample core seq tapped s) := by
  unfold execSample
  refine h.runCmd (groups_sub g rfl) _ _ _ _ _ fun x c kx => (kx.badCmd (groups_sub g rfl) _ _ _).ite ?_
  refine kx.withTable (groups_sub g rfl) _ _ _ _ _ _ fun y b ky => (ky.badCmd (groups_sub g rfl) _ _ _).ite ?_
  exact ky.runItems (groups_sub g rfl) _ _ _ _ _ _ _ fun a i ka => ka.sampleItem (groups_sub g rfl) _ _ _ _ _ _

theorem State.Keeps.readF32 (g : [Group.memory, .freeCtr] ⊆ l) (p) (o) (r) : s0.Keeps l (s.readF32 p o r).1 := by
  unfold State.readF32
  grind only [State.Keeps.readElems, List.cons_subset, List.nil_subset]

theorem State.Keeps.rotateRow (g : [Group.memory, .freeCtr] ⊆ l) (p) (d) (headDim) (pos) (x) : s0.Keeps l (s.rotateRow p d headDim pos x).1 := by
  unfold State.rotateRow
  grind only [State.Keeps.fetchVa, List.cons_subset, List.nil_subset]

theorem State.Keeps.vecItem (g : [Group.bar, .memory, .blt, .host, .out, .freeCtr] ⊆ l) (core) (p) (d) (xs) (i) : s0.Keeps l (s.vecItem core p d xs i).1 := by
  have put : ∀ v : State × Option Stop, s0.Keeps l v.1 →
      s0.Keeps l (match v with | (a, some e) => ((a, .stop e) : State × ItemEnd) | (a, none) => (a, .ok)).1 := by
    rintro ⟨a, _ | e⟩ ka
    · exact ka
    · exact ka
  unfold State.vecItem
  dsimp only
  split
  · next e1 => exact (h.readF32 (groups_sub g rfl) _ _ _).fst e1
  · next e1 =>
    have k1 := (h.readF32 (groups_sub g rfl) _ _ _).fst e1
    split
    · next e2 =>
      split at e2
      · exact (k1.readF32 (groups_sub g rfl) _ _ _).fst e2
      · exact k1.fst (p := (_, _)) e2
    · next s2 _ e2 =>
      have k2 : s0.Keeps l s2 := by
        split at e2
        · exact (k1.readF32 (groups_sub g rfl) _ _ _).fst e2
        · exact k1.fst (p := (_, _)) e2
      split
      · next e3 =>
        split at e3
        · exact (k2.readF32 (groups_sub g rfl) _ _ _).fst e3
        · exact k2.fst (p := (_, _)) e3
      · next s3 _ e3 =>
        have k3 : s0.Keeps l s3 := by
          split at e3
          · exact (k2.readF32 (groups_sub g rfl) _ _ _).fst e3
          · exact k2.fst (p := (_, _)) e3
        split
        · exact put _ (k3.storeVa (groups_sub g rfl) _ _ _ _ _)
        · split
          · exact put _ (k3.storeVa (groups_sub g rfl) _ _ _ _ _)
          · split
            · split
              · next e4 => exact (k3.rotateRow (groups_sub g rfl) _ _ _ _ _).fst e4
              · next e4 => exact put _ (((k3.rotateRow (groups_sub g rfl) _ _ _ _ _).fst e4).writeRow (groups_sub g rfl) _ _ _ _ _ _ _ _ _)
            · exact put _ (k3.writeRow (groups_sub g rfl) _ _ _ _ _ _ _ _ _)

theorem State.Keeps.goes_vector (g : [Group.bar, .sat, .kva, .cores, .pln, .memory, .fls, .cmd, .blt, .host, .out, .freeCtr] ⊆ l) (core) (seq) : s0.Goes l (execVector core seq s) := by
  unfold execVector
  refine h.runCmd (groups_sub g rfl) _ _ _ _ _ fun x c kx => (kx.badCmd (groups_sub g rfl) _ _ _).ite (State.Keeps.ite ?_ ?_)
  · refine (kx.badCmd (groups_sub g rfl) _ _ _).ite (kx.withTable (groups_sub g rfl) _ _ _ _ _ _ fun y b ky => ?_)
    exact (ky.badCmd (groups_sub g rfl) _ _ _).ite (ky.runItems (groups_sub g rfl) _ _ _ _ _ _ _ fun a i ka => ka.vecItem (groups_sub g rfl) _ _ _ _ _)
  · exact (kx.runItems (groups_sub g rfl) _ _ _ _ _ _ _ fun a i ka => ka.vecItem (groups_sub g rfl) _ _ _ _ _).undefineOut (groups_sub g rfl) _ _ _ _ _

end
end Sys2Proof.Machine
end

section
/-!
PROOFS. What the operations keep: enables, registers, resets and boot.
-/
namespace Sys2Proof.Machine
section
variable {s0 s : State} {l : List Group} (h : s0.Keeps l s)
include h
theorem State.Keeps.cmdServe (g : [Group.cmd] ⊆ l) : s0.Keeps l (s.cmdServe) := by
  unfold State.cmdServe
  grind only [State.Keeps.modWindow, State.Keeps.foldl, List.cons_subset, List.nil_subset]

theorem State.Keeps.lnkServe (g : [Group.bar, .lnk, .blt] ⊆ l) : s0.Keeps l (s.lnkServe) := by
  unfold State.lnkServe
  grind only [State.Keeps.tryTrain, State.Keeps.setLnk, = List.length_modify, = List.length_map, State.Keeps.foldl, List.cons_subset, List.nil_subset]

theorem State.Keeps.carveOr (g : [Group.bar, .memory, .blt] ⊆ l) (ctrl) (source) (owner) (size) (f : Nat → State → State)
    (k : ∀ b a, s0.Keeps l a → s0.Keeps l (f b a)) : s0.Keeps l (s.carveOr ctrl source owner size f) := by
  unfold State.carveOr
  split
  · next e => exact k _ _ (h.carve (groups_sub g rfl) _ _ e)
  · exact (h.setFld (groups_sub g rfl) _ _ _ _).note (groups_sub g rfl) _ _ _

theorem State.Keeps.serveBlock (g : [Group.bar, .sat, .kva, .pln, .memory, .fls, .lnk, .xpt, .cmd, .blt] ⊆ l) (off) : s0.Keeps l (s.serveBlock off) := by
  have kc := h.carveOr (groups_sub g rfl)
  unfold State.serveBlock
  refine State.Keeps.ite ?_ (State.Keeps.ite ?_ (State.Keeps.ite ?_ (State.Keeps.ite ?_ (State.Keeps.ite ?_ (State.Keeps.ite ?_ ?_)))))
  · exact kc _ _ _ _ _ fun b a ka => ka.setSat (g (by simp)) _ (fun ok => ok) fun ok => ok
  · exact kc _ _ _ _ _ fun b a ka => ka.setKva (g (by simp)) _
  · exact kc _ _ _ _ _ fun b a ka => ka
  · exact kc _ _ _ _ _ fun b a ka => ka.setXpt (g (by simp)) _
  · exact h.memEnable (groups_sub g rfl)
  · exact h.flsEnable (groups_sub g rfl)
  · refine State.Keeps.ite ?_ (State.Keeps.ite ?_ (State.Keeps.ite ?_ h))
    · exact h.setPln (g (by simp)) _ fun ok => ok
    · exact h.lnkServe (groups_sub g rfl)
    · exact h.cmdServe (groups_sub g rfl)

theorem State.Keeps.bringUp (g : [Group.bar, .sat, .kva, .pln, .memory, .fls, .lnk, .xpt, .cmd, .blt] ⊆ l) : s0.Keeps l (s.bringUp) := by
  unfold State.bringUp
  grind only [State.Keeps.serveBlock, State.Keeps.foldl, List.cons_subset, List.nil_subset]

theorem State.Keeps.goes_t1TrainingComplete (g : [Group.bar, .sat, .kva, .pln, .memory, .fls, .lnk, .xpt, .cmd, .blt] ⊆ l) (trained) : s0.Goes l (execT1TrainingComplete trained s) := by
  unfold execT1TrainingComplete
  split
  · exact h
  · extract_lets found n devs _ _ s1 s2
    have k1 : s0.Keeps l s1 := h.setMemory (g (by simp)) _ fun ok => ok
    clear_value s1
    have k2 : s0.Keeps l s2 := k1.foldl _ _ fun t x kt => (kt.note (groups_sub g rfl) _ _ _).ite kt
    clear_value s2 n
    exact State.Keeps.next ((k2.post (groups_sub g rfl) _).ite (k2.bringUp (groups_sub g rfl)))

theorem State.Keeps.policerSettle (g : [Group.shp] ⊆ l) (off) (i) : s0.Keeps l (s.policerSettle off i) := by
  unfold State.policerSettle
  grind only [State.Keeps.setShp, List.cons_subset, List.nil_subset]

theorem State.Keeps.afterWrite (g : [Group.bar, .stk, .lnk, .shp, .blt, .pwr] ⊆ l) (off) (i) : s0.Keeps l (s.afterWrite off i) := by
  unfold State.afterWrite
  grind only [State.Keeps.tryTrain, State.Keeps.settleRef, State.Keeps.takeGates, State.Keeps.policerSettle, State.Keeps.foldl, List.cons_subset, List.nil_subset]

omit h in
theorem WAcc.keeps_put {a : WAcc} (h : s0.Keeps l a.s) (g : [Group.bar, .sat, .kva, .pln, .memory, .fls, .lnk, .xpt, .shp, .cmd, .blt] ⊆ l) (off) (f) (w) :
    s0.Keeps l (a.put off f w).s := h.setFld (groups_sub g rfl) _ _ _ _

omit h in
theorem WAcc.keeps_ite {a b : WAcc} {c : Prop} [Decidable c] (h : s0.Keeps l a.s) (k : s0.Keeps l b.s) : s0.Keeps l (if c then a else b).s := by
  split
  · exact h
  · exact k

omit h in
theorem WAcc.keeps_putIf {a : WAcc} (h : s0.Keeps l a.s) (g : [Group.bar, .sat, .kva, .pln, .memory, .fls, .lnk, .xpt, .shp, .cmd, .blt] ⊆ l) (c) (off) (f) (w) :
    s0.Keeps l (a.putIf c off f w).s := WAcc.keeps_ite (WAcc.keeps_put h g _ _ _) h

omit h in
theorem WAcc.keeps_enable {a : WAcc} (h : s0.Keeps l a.s) (g : [Group.bar, .sat, .kva, .pln, .memory, .fls, .lnk, .xpt, .shp, .cmd, .blt] ⊆ l) (off) :
    s0.Keeps l (a.enable off).s :=
  WAcc.keeps_ite (((h.setFld (groups_sub g rfl) _ _ _ _).serveBlock (groups_sub g rfl) _).bringUp (groups_sub g rfl)) h

omit h in
theorem WAcc.keeps_hook {a : WAcc} (h : s0.Keeps l a.s) (g : [Group.bar, .sat, .kva, .pln, .memory, .fls, .lnk, .xpt, .shp, .cmd, .blt] ⊆ l) (off) (i) (f) (v) (w) :
    s0.Keeps l (a.hook off i f v w).s := by
  have kp := WAcc.keeps_put h g
  have ki := WAcc.keeps_putIf h g
  unfold WAcc.hook
  dsimp only
  refine WAcc.keeps_ite (kp _ _ _) (WAcc.keeps_ite (WAcc.keeps_ite h (ki _ _ _ _)) ?_)
  refine WAcc.keeps_ite (ki _ _ _ _) (WAcc.keeps_ite (ki _ _ _ _) (WAcc.keeps_ite (kp _ _ _) ?_))
  refine WAcc.keeps_ite (ki _ _ _ _) (WAcc.keeps_ite (ki _ _ _ _) (WAcc.keeps_ite ?_ ?_))
  · exact WAcc.keeps_ite (ki _ _ _ _) (WAcc.keeps_ite (h.disablePort (groups_sub g rfl) _) (WAcc.keeps_ite (h.enablePort (groups_sub g rfl) _) h))
  refine WAcc.keeps_ite (ki _ _ _ _) (WAcc.keeps_ite (ki _ _ _ _) (WAcc.keeps_ite (kp _ _ _) ?_))
  refine WAcc.keeps_ite (ki _ _ _ _) (WAcc.keeps_ite (ki _ _ _ _) (WAcc.keeps_ite (kp _ _ _) ?_))
  refine WAcc.keeps_ite (WAcc.keeps_ite (ki _ _ _ _) (ki _ _ _ _)) ?_
  refine WAcc.keeps_ite (WAcc.keeps_ite (kp _ _ _) (ki _ _ _ _)) ?_
  exact WAcc.keeps_ite (kp _ _ _) (kp _ _ _)

omit h in
theorem WAcc.keeps_act {a : WAcc} (h : s0.Keeps l a.s) (g : [Group.bar, .sat, .kva, .pln, .memory, .fls, .lnk, .xpt, .shp, .cmd, .blt] ⊆ l) (off) (i) :
    s0.Keeps l (a.act off i).s :=
  WAcc.keeps_ite (h.gateSwap (groups_sub g rfl)) (WAcc.keeps_ite (h.setShp (g (by simp)) _) (h.modWindow (groups_sub g rfl) _ _))

omit h in
theorem WAcc.keeps_store {a : WAcc} (h : s0.Keeps l a.s) (g : [Group.bar, .sat, .kva, .pln, .memory, .fls, .lnk, .xpt, .shp, .cmd, .blt] ⊆ l) (off) (i) (f) (v) (w) :
    s0.Keeps l (a.store off i f v w).s := by
  have kp := WAcc.keeps_put h g
  have ki := WAcc.keeps_putIf h g
  unfold WAcc.store
  dsimp only
  refine WAcc.keeps_ite h ?_
  split
  · exact kp _ _ _
  · exact kp _ _ _
  · exact kp _ _ _
  · exact ki _ _ _ _
  · exact WAcc.keeps_ite h (WAcc.keeps_enable h g _)
  · exact WAcc.keeps_ite h (kp _ _ _)
  · exact WAcc.keeps_ite h (ki _ _ _ _)
  · exact WAcc.keeps_hook h g _ _ _ _ _

omit h in
theorem WAcc.keeps_field {a : WAcc} (h : s0.Keeps l a.s) (g : [Group.bar, .sat, .kva, .pln, .memory, .fls, .lnk, .xpt, .shp, .cmd, .blt] ⊆ l) (off) (i) (v) (f) :
    s0.Keeps l (a.field off i v f).s := by
  have ks := WAcc.keeps_store h g
  unfold WAcc.field
  dsimp only
  split
  · exact h
  · exact WAcc.keeps_ite (WAcc.keeps_act h g _ _) h
  · exact WAcc.keeps_put h g _ _ _
  · exact ks _ _ _ _ _
  · exact ks _ _ _ _ _
  · exact WAcc.keeps_ite (WAcc.keeps_ite h h) (ks _ _ _ _ _)

omit h in
theorem WAcc.keeps_fields (g : [Group.bar, .sat, .kva, .pln, .memory, .fls, .lnk, .xpt, .shp, .cmd, .blt] ⊆ l) (off) (i) (v) (fs : List Fld) {a : WAcc}
    (h : s0.Keeps l a.s) : s0.Keeps l (fs.foldl (WAcc.field off i v) a).s := by
  induction fs generalizing a with
  | nil => exact h
  | cons f fs ih => exact ih (WAcc.keeps_field h g off i v f)

theorem State.Keeps.regWrite (g : [Group.bar, .stk, .sat, .kva, .pln, .memory, .fls, .lnk, .xpt, .shp, .cmd, .blt, .pwr] ⊆ l) (r) (off) (i) (v) : s0.Keeps l (s.regWrite r off i v) := by
  unfold State.regWrite
  refine State.Keeps.ite (State.Keeps.ite ((h.accessNote (groups_sub g rfl) _).ite (h.droppedNote (groups_sub g rfl) _)) h) ?_
  extract_lets a s1
  have k0 : s0.Keeps l a.s := WAcc.keeps_fields (groups_sub g rfl) _ _ _ _ (h.policerSettle (groups_sub g rfl) _ _)
  clear_value a
  have k1 : s0.Keeps l s1 := k0.afterWrite (groups_sub g rfl) _ _
  exact (k1.accessNote (groups_sub g rfl) _).ite ((k1.droppedNote (groups_sub g rfl) _).ite k1)

theorem State.Keeps.halfWrite (g : [Group.bar, .stk, .sat, .kva, .pln, .memory, .fls, .lnk, .xpt, .shp, .cmd, .blt, .pwr] ⊆ l) (off) (v) : s0.Keeps l (s.halfWrite off v) := by
  have kr := fun (x : State) (kx : s0.Keeps l x) => kx.regWrite g
  unfold State.halfWrite
  split
  · exact h.accessNote (groups_sub g rfl) _
  · refine (h.accessNote (groups_sub g rfl) _).ite (State.Keeps.ite ?_ ?_)
    · exact h.setBar (g (by simp)) _
    · split
      · exact (kr _ (kr _ h _ _ _ _) _ _ _ _).ite (kr _ h _ _ _ _)
      · exact kr _ h _ _ _ _

theorem State.Keeps.barWrite (g : [Group.bar, .stk, .sat, .kva, .pln, .memory, .fls, .lnk, .xpt, .shp, .cmd, .blt, .pwr] ⊆ l) (off) (wide) (v) : s0.Keeps l (s.barWrite off wide v) := by
  unfold State.barWrite
  refine State.Keeps.ite h ((h.accessNote (groups_sub g rfl) _).ite (State.Keeps.ite ?_ ?_))
  · exact (h.halfWrite g _ _).halfWrite g _ _
  · exact h.halfWrite g _ _

theorem State.Keeps.writeReg (g : [Group.bar, .stk, .sat, .kva, .pln, .memory, .fls, .lnk, .xpt, .shp, .cmd, .blt, .pwr] ⊆ l) (off) (v) : s0.Keeps l (s.writeReg off v) := by
  unfold State.writeReg
  grind only [State.Keeps.barWrite, List.cons_subset, List.nil_subset]

theorem State.Keeps.writeBit (g : [Group.bar, .stk, .sat, .kva, .pln, .memory, .fls, .lnk, .xpt, .shp, .cmd, .blt, .pwr] ⊆ l) (off) (bit) (v) : s0.Keeps l (s.writeBit off bit v) := by
  unfold State.writeBit
  grind only [State.Keeps.barWrite, List.cons_subset, List.nil_subset]

theorem State.Keeps.goes_registerWrite (g : [Group.bar, .stk, .sat, .kva, .pln, .memory, .fls, .lnk, .xpt, .shp, .cmd, .blt, .pwr] ⊆ l) (off) (wide) (value) : s0.Goes l (execRegisterWrite off wide value s) := by
  unfold execRegisterWrite
  grind only [State.goes_next, State.Keeps.barWrite, List.cons_subset, List.nil_subset]

theorem State.Keeps.goes_bar0InvalidAccess (g : [Group.bar, .blt, .out] ⊆ l) (write) (off) (bytes) : s0.Goes l (execBar0InvalidAccess write off bytes s) := by
  unfold execBar0InvalidAccess
  grind only [State.goes_next, State.Keeps.accessNote, State.Keeps.emit, List.cons_subset, List.nil_subset]

theorem State.Keeps.goes_glbDeviceIdWrite (g : [Group.bar, .stk, .sat, .kva, .pln, .memory, .fls, .lnk, .xpt, .shp, .cmd, .blt, .pwr] ⊆ l) (value) : s0.Goes l (execGlbDeviceIdWrite value s) := by
  unfold execGlbDeviceIdWrite
  grind only [State.goes_next, State.Keeps.writeReg, List.cons_subset, List.nil_subset]

theorem State.Keeps.goes_blockLockWrite (g : [Group.bar, .stk, .sat, .kva, .pln, .memory, .fls, .lnk, .xpt, .shp, .cmd, .blt, .pwr] ⊆ l) (off) (value) : s0.Goes l (execBlockLockWrite off value s) := by
  unfold execBlockLockWrite
  grind only [State.goes_next, State.Keeps.writeReg, List.cons_subset, List.nil_subset]

theorem State.Keeps.goes_satEnable (g : [Group.bar, .stk, .sat, .kva, .pln, .memory, .fls, .lnk, .xpt, .shp, .cmd, .blt, .pwr] ⊆ l) (value) : s0.Goes l (execSatEnable value s) := by
  unfold execSatEnable
  grind only [State.goes_next, State.Keeps.writeBit, List.cons_subset, List.nil_subset]

theorem State.Keeps.goes_kvaEnable (g : [Group.bar, .stk, .sat, .kva, .pln, .memory, .fls, .lnk, .xpt, .shp, .cmd, .blt, .pwr] ⊆ l) (value) : s0.Goes l (execKvaEnable value s) := by
  unfold execKvaEnable
  grind only [State.goes_next, State.Keeps.writeBit, List.cons_subset, List.nil_subset]

theorem State.Keeps.goes_memEnable (g : [Group.bar, .stk, .sat, .kva, .pln, .memory, .fls, .lnk, .xpt, .shp, .cmd, .blt, .pwr] ⊆ l) (value) : s0.Goes l (execMemEnable value s) := by
  unfold execMemEnable
  grind only [State.goes_next, State.Keeps.writeBit, List.cons_subset, List.nil_subset]

theorem State.Keeps.goes_cdcEnable (g : [Group.bar, .stk, .sat, .kva, .pln, .memory, .fls, .lnk, .xpt, .shp, .cmd, .blt, .pwr] ⊆ l) (value) : s0.Goes l (execCdcEnable value s) := by
  unfold execCdcEnable
  grind only [State.goes_next, State.Keeps.writeBit, List.cons_subset, List.nil_subset]

theorem State.Keeps.goes_flsEnable (g : [Group.bar, .stk, .sat, .kva, .pln, .memory, .fls, .lnk, .xpt, .shp, .cmd, .blt, .pwr] ⊆ l) (value) : s0.Goes l (execFlsEnable value s) := by
  unfold execFlsEnable
  grind only [State.goes_next, State.Keeps.writeBit, List.cons_subset, List.nil_subset]

theorem State.Keeps.goes_xptEnable (g : [Group.bar, .stk, .sat, .kva, .pln, .memory, .fls, .lnk, .xpt, .shp, .cmd, .blt, .pwr] ⊆ l) (value) : s0.Goes l (execXptEnable value s) := by
  unfold execXptEnable
  grind only [State.goes_next, State.Keeps.writeBit, List.cons_subset, List.nil_subset]

theorem State.Keeps.goes_plnEnable (g : [Group.bar, .stk, .sat, .kva, .pln, .memory, .fls, .lnk, .xpt, .shp, .cmd, .blt, .pwr] ⊆ l) (value) : s0.Goes l (execPlnEnable value s) := by
  unfold execPlnEnable
  grind only [State.goes_next, State.Keeps.writeBit, List.cons_subset, List.nil_subset]

theorem State.Keeps.goes_lnkEnable (g : [Group.bar, .stk, .sat, .kva, .pln, .memory, .fls, .lnk, .xpt, .shp, .cmd, .blt, .pwr] ⊆ l) (value) : s0.Goes l (execLnkEnable value s) := by
  unfold execLnkEnable
  grind only [State.goes_next, State.Keeps.writeBit, List.cons_subset, List.nil_subset]

theorem State.Keeps.goes_shpEnable (g : [Group.bar, .stk, .sat, .kva, .pln, .memory, .fls, .lnk, .xpt, .shp, .cmd, .blt, .pwr] ⊆ l) (value) : s0.Goes l (execShpEnable value s) := by
  unfold execShpEnable
  grind only [State.goes_next, State.Keeps.writeBit, List.cons_subset, List.nil_subset]

theorem State.Keeps.goes_cmdEnable (g : [Group.bar, .stk, .sat, .kva, .pln, .memory, .fls, .lnk, .xpt, .shp, .cmd, .blt, .pwr] ⊆ l) (value) : s0.Goes l (execCmdEnable value s) := by
  unfold execCmdEnable
  grind only [State.goes_next, State.Keeps.writeBit, List.cons_subset, List.nil_subset]

theorem State.Keeps.goes_portCtrlWrite (g : [Group.bar, .stk, .sat, .kva, .pln, .memory, .fls, .lnk, .xpt, .shp, .cmd, .blt, .pwr] ⊆ l) (port) (value) : s0.Goes l (execPortCtrlWrite port value s) := by
  unfold execPortCtrlWrite
  grind only [State.goes_next, State.Keeps.writeReg, List.cons_subset, List.nil_subset]

theorem State.Keeps.goes_gateBankSwap (g : [Group.bar, .stk, .sat, .kva, .pln, .memory, .fls, .lnk, .xpt, .shp, .cmd, .blt, .pwr] ⊆ l) (value) : s0.Goes l (execGateBankSwap value s) := by
  unfold execGateBankSwap
  grind only [State.goes_next, State.Keeps.writeBit, List.cons_subset, List.nil_subset]

theorem State.Keeps.goes_histClear (g : [Group.bar, .stk, .sat, .kva, .pln, .memory, .fls, .lnk, .xpt, .shp, .cmd, .blt, .pwr] ⊆ l) (value) : s0.Goes l (execHistClear value s) := by
  unfold execHistClear
  grind only [State.goes_next, State.Keeps.writeBit, List.cons_subset, List.nil_subset]

theorem State.Keeps.goes_windowReset (g : [Group.bar, .stk, .sat, .kva, .pln, .memory, .fls, .lnk, .xpt, .shp, .cmd, .blt, .pwr] ⊆ l) (window) (viaBar0) (value) : s0.Goes l (execWindowReset window viaBar0 value s) := by
  unfold execWindowReset
  split
  · exact State.Keeps.next (h.writeBit g _ _ _)
  · split
    · exact State.Keeps.next (h.modWindow (groups_sub g rfl) _ _)
    · exact h

theorem State.Keeps.goes_faultnHoldWrite (g : [Group.bar, .stk, .sat, .kva, .pln, .memory, .fls, .lnk, .xpt, .shp, .cmd, .blt, .pwr] ⊆ l) (value) : s0.Goes l (execFaultnHoldWrite value s) := by
  unfold execFaultnHoldWrite
  grind only [State.goes_next, State.Keeps.writeReg, List.cons_subset, List.nil_subset]

theorem State.Keeps.goes_coreIsolate (g : [Group.bar, .stk, .sat, .kva, .pln, .memory, .fls, .lnk, .xpt, .shp, .cmd, .blt, .pwr] ⊆ l) (core) (value) : s0.Goes l (execCoreIsolate core value s) := by
  unfold execCoreIsolate
  grind only [State.goes_next, State.Keeps.writeBit, List.cons_subset, List.nil_subset]

theorem State.Keeps.goes_codecGroupIsolate (g : [Group.bar, .stk, .sat, .kva, .pln, .memory, .fls, .lnk, .xpt, .shp, .cmd, .blt, .pwr] ⊆ l) (group) (value) : s0.Goes l (execCodecGroupIsolate group value s) := by
  unfold execCodecGroupIsolate
  grind only [State.goes_next, State.Keeps.writeBit, List.cons_subset, List.nil_subset]

theorem State.Keeps.goes_plnPCfgWrite (g : [Group.bar, .stk, .sat, .kva, .pln, .memory, .fls, .lnk, .xpt, .shp, .cmd, .blt, .pwr] ⊆ l) (part) (c0) (value) : s0.Goes l (execPlnPCfgWrite part c0 value s) := by
  unfold execPlnPCfgWrite
  grind only [State.goes_next, State.Keeps.writeReg, List.cons_subset, List.nil_subset]

theorem State.Keeps.closeFault (g : [Group.memory] ⊆ l) (id) : s0.Keeps l (s.closeFault id) := by
  unfold State.closeFault
  grind only [State.Keeps.setMemory, Memory.wf_memWrite, Memory.wf_memZero, Memory.wf_memCopy, List.cons_subset, List.nil_subset]

theorem State.Keeps.freeCmd (g : [Group.cores] ⊆ l) (core) (unit) (seq) (id) (f) : s0.Keeps l (s.freeCmd core unit seq id f) := by
  unfold State.freeCmd
  grind only [State.Keeps.putCmd, List.cons_subset, List.nil_subset]

theorem State.Keeps.freeQueue (g : [Group.xpt] ⊆ l) (q) (id) : s0.Keeps l (s.freeQueue q id) := by
  unfold State.freeQueue
  grind only [State.Keeps.setXpt, List.cons_subset, List.nil_subset]

theorem State.Keeps.takeParked (g : [Group.xpt] ⊆ l) (conn) (id) : s0.Keeps l (s.takeParked conn id).1 := by
  unfold State.takeParked
  grind only [State.Keeps.setXpt, List.cons_subset, List.nil_subset]

theorem State.Keeps.retryFault (g : [Group.bar, .cores, .pln, .memory, .lnk, .xpt, .shp, .cmd, .blt, .host, .out, .freeCtr] ⊆ l) (id) : s0.Keeps l (s.retryFault id) := by
  unfold State.retryFault
  split
  · exact h
  · extract_lets s1
    have k1 : s0.Keeps l s1 := h.closeFault (groups_sub g rfl) _
    clear_value s1
    have kt := fun k => k1.takeParked (groups_sub g rfl) k id
    split
    · exact k1.freeCmd (groups_sub g rfl) _ _ _ _ _
    · exact k1.freeCmd (groups_sub g rfl) _ _ _ _ _
    · exact k1.modThread (groups_sub g rfl) _ _
    · exact k1.freeQueue (groups_sub g rfl) _ _
    · split
      · next e =>
        have k2 := (kt _).fst e
        split
        · exact k2.landGetData (groups_sub g rfl) _ _ _ _ _
        · exact k2.land (groups_sub g rfl) _ _ _
      · next e => exact (kt _).fst e

theorem State.Keeps.abortEntry (g : [Group.memory, .xpt, .freeCtr] ⊆ l) (q) (index) (done) : s0.Keeps l (s.abortEntry q index done) := by
  unfold State.abortEntry
  (repeat' split) <;> apply_rules [State.Keeps.modOp, State.Keeps.tookEntry, State.Keeps.readVa, State.Keeps.entryEnds] <;> grind only [State.Keeps.modOp, State.Keeps.tookEntry, State.Keeps.readVa, State.Keeps.entryEnds, List.cons_subset, List.nil_subset]

theorem State.Keeps.abortFault (g : [Group.bar, .sat, .kva, .cores, .pln, .memory, .fls, .lnk, .xpt, .shp, .cmd, .blt, .host, .out, .freeCtr] ⊆ l) (id) : s0.Keeps l (s.abortFault id) := by
  unfold State.abortFault
  split
  · exact h
  · extract_lets s1
    have k1 : s0.Keeps l s1 := h.closeFault (groups_sub g rfl) _
    clear_value s1
    have kt := fun k => k1.takeParked (groups_sub g rfl) k id
    split
    · dsimp only
      refine State.Keeps.freeCmd ?_ (groups_sub g rfl) _ _ _ _ _
      split
      · exact k1.endEntry (groups_sub g rfl) _ _ _
      · exact k1
    · exact k1.freeCmd (groups_sub g rfl) _ _ _ _ _
    · exact k1.trap (groups_sub g rfl) _ _ _ _ _
    · exact (k1.freeQueue (groups_sub g rfl) _ _).abortEntry (groups_sub g rfl) _ _ _
    · split
      · next e => exact ((kt _).fst e).refuse (groups_sub g rfl) _ _ _
      · next e => exact (kt _).fst e

theorem State.Keeps.goes_faultResume (g : [Group.bar, .stk, .sat, .kva, .cores, .pln, .memory, .fls, .lnk, .xpt, .shp, .cmd, .blt, .host, .out, .freeCtr] ⊆ l) (hd) (faultId) (action) (rsv) : s0.Goes l (execFaultResume hd faultId action rsv s) := by
  unfold execFaultResume
  refine State.Keeps.next ?_
  refine State.Keeps.serve h (groups_sub g rfl) _ _ _ _ fun r t k => ?_
  have kd := fun (x : State) (kx : s0.Keeps l x) => kx.done (groups_sub g rfl) r
  refine (kd _ k _).ite ?_
  split
  · exact kd _ k _
  · refine (kd _ k _).ite (State.Keeps.ite ?_ (State.Keeps.ite ?_ ?_))
    · refine kd _ ?_ _
      exact k.setMemory (g (by simp)) _ fun ok => ok
    · exact kd _ (k.retryFault (groups_sub g rfl) _) _
    · exact kd _ (k.abortFault (groups_sub g rfl) _) _

theorem State.Keeps.goes_faultTimeout (g : [Group.bar, .sat, .kva, .cores, .pln, .memory, .fls, .lnk, .xpt, .shp, .cmd, .blt, .host, .out, .freeCtr] ⊆ l) (faultId) : s0.Goes l (execFaultTimeout faultId s) := by
  unfold execFaultTimeout
  grind only [State.goes_next, State.Keeps.abortFault, List.cons_subset, List.nil_subset]

theorem State.Keeps.restartPart (g : [Group.cores, .memory, .xpt] ⊆ l) (p) : s0.Keeps l (s.restartPart p) := by
  unfold State.restartPart
  grind only [State.Keeps.closeFault, State.Keeps.freeQueue, State.Keeps.startThreads, State.Keeps.clearCores, State.Keeps.foldl, List.cons_subset, List.nil_subset]

theorem State.Keeps.applyRecorded (g : [Group.bar, .sat, .kva, .cores, .pln, .memory, .fls, .lnk, .xpt, .shp, .cmd, .blt, .host, .out, .freeCtr] ⊆ l) (p) : s0.Keeps l (s.applyRecorded p) := by
  unfold State.applyRecorded
  refine h.foldl _ _ fun t x kt => State.Keeps.ite ?_ kt
  split
  · exact kt.retryFault (groups_sub g rfl) _
  · exact kt.abortFault (groups_sub g rfl) _
  · exact kt

theorem State.Keeps.ageFaults (g : [Group.memory] ⊆ l) (p) (time) : s0.Keeps l (s.ageFaults p time) := by
  unfold State.ageFaults
  grind only [State.Keeps.setMemory, Memory.wf_memWrite, Memory.wf_memZero, Memory.wf_memCopy, List.cons_subset, List.nil_subset]

theorem State.Keeps.goes_resumeRestoreComplete (g : [Group.bar, .sat, .kva, .cores, .pln, .memory, .fls, .lnk, .xpt, .shp, .cmd, .blt, .host, .out, .freeCtr] ⊆ l) (part) : s0.Goes l (execResumeRestoreComplete part s) := by
  unfold execResumeRestoreComplete
  dsimp only
  split
  · exact h
  · refine State.Keeps.next (State.Keeps.applyRecorded (State.Keeps.modPart ?_ (groups_sub g rfl) _ _) (groups_sub g rfl) _)
    refine State.Keeps.ageFaults (State.Keeps.restorePins ?_ (groups_sub g rfl) _) (groups_sub g rfl) _ _
    exact (h.restartPart (groups_sub g rfl) _).ite (h.loadCores (groups_sub g rfl) _)

theorem State.Keeps.drainWindows (g : [Group.cmd] ⊆ l) (k) : s0.Keeps l (s.drainWindows k) := by
  unfold State.drainWindows
  grind only [State.Keeps.modWindow, State.Keeps.foldl, List.cons_subset, List.nil_subset]

theorem State.Keeps.drainPart (g : [Group.bar, .sat, .kva, .cores, .pln, .memory, .fls, .lnk, .xpt, .shp, .cmd, .blt, .sec, .host, .out, .freeCtr] ⊆ l) (p) : s0.Keeps l (s.drainPart p) := by
  unfold State.drainPart
  extract_lets ops s1 s2
  have k1 : s0.Keeps l s1 := h.foldl _ _ fun t x kt => kt.opDone (groups_sub g rfl) _ _ _
  clear_value s1
  have k2 : s0.Keeps l s2 := k1.requestReturns (groups_sub g rfl) _
  clear_value s2
  exact k2.foldl _ _ fun t x kt => kt.abortFault (groups_sub g rfl) _

theorem State.Keeps.flrDrain (g : [Group.bar, .sat, .kva, .cores, .pln, .memory, .fls, .lnk, .xpt, .shp, .cmd, .blt, .sec, .host, .out, .freeCtr] ⊆ l) (k) : s0.Keeps l (s.flrDrain k) := by
  have k1 := (h.modFn (groups_sub g rfl) k fun f => { f with draining := true, pend := false }).drainWindows (groups_sub g rfl) k
  exact State.Keeps.ite k1 (k1.drainPart (groups_sub g rfl) _)

theorem State.Keeps.clearVfs (g : [Group.bar, .sat, .kva, .cores, .pln, .memory, .fls, .lnk, .xpt, .shp, .cmd, .blt, .sec, .host, .out, .freeCtr] ⊆ l) : s0.Keeps l (s.clearVfs) := by
  unfold State.clearVfs
  refine h.foldl _ _ fun t x kt => ?_
  have k1 := kt.modFn (groups_sub g rfl) x fun f => { f with enabled := false, pend := false }
  exact (k1.flrDrain (groups_sub g rfl) _).ite k1

theorem State.Keeps.destroyRing (g : [Group.bar, .cmd] ⊆ l) (key) : s0.Keeps l (s.destroyRing key) := by
  unfold State.destroyRing
  grind only [State.Keeps.count, State.Keeps.setCmd, = List.length_modify, List.cons_subset, List.nil_subset]

theorem State.Keeps.flrDone (g : [Group.bar, .cmd, .host] ⊆ l) (k) : s0.Keeps l (s.flrDone k) := by
  unfold State.flrDone
  grind only [State.Keeps.destroyRing, State.Keeps.modFn, State.Keeps.modWindow, State.Keeps.setHost, Memory.wf_memWrite, = List.length_modify, State.Keeps.foldl, List.cons_subset, List.nil_subset]

theorem State.Keeps.goes_flrVf (g : [Group.bar, .sat, .kva, .cores, .pln, .memory, .fls, .lnk, .xpt, .shp, .cmd, .blt, .sec, .host, .out, .freeCtr] ⊆ l) (part) : s0.Goes l (execFlrVf part s) := by
  unfold execFlrVf
  grind only [State.goes_next, State.Keeps.flrDrain, List.cons_subset, List.nil_subset]

theorem State.Keeps.goes_flrPf0 (g : [Group.bar, .sat, .kva, .cores, .pln, .memory, .fls, .lnk, .xpt, .shp, .cmd, .blt, .sec, .host, .out, .freeCtr] ⊆ l) : s0.Goes l (execFlrPf0 s) := by
  unfold execFlrPf0
  grind only [State.goes_next, State.Keeps.clearVfs, State.Keeps.flrDrain, List.cons_subset, List.nil_subset]

theorem State.Keeps.goes_flrDrainComplete (g : [Group.bar, .cmd, .host] ⊆ l) (fn) : s0.Goes l (execFlrDrainComplete fn s) := by
  unfold execFlrDrainComplete
  grind only [State.goes_next, State.Keeps.flrDone, List.cons_subset, List.nil_subset]

theorem State.Keeps.goes_flrSwapTimeout (g : [Group.bar, .sat, .kva, .pln, .fls, .cmd, .host, .out] ⊆ l) (id) (row) : s0.Goes l (execFlrSwapTimeout id row s) := by
  unfold execFlrSwapTimeout
  grind only [State.goes_next, State.withSlot, State.Keeps.lowerTier, List.cons_subset, List.nil_subset]

theorem State.Keeps.goes_vfEnable (g : [Group.bar, .sat, .kva, .cores, .pln, .memory, .fls, .lnk, .xpt, .shp, .cmd, .blt, .sec, .host, .out, .freeCtr] ⊆ l) (on) (numVfs) : s0.Goes l (execVfEnable on numVfs s) := by
  unfold execVfEnable
  split
  · exact h
  · split
    · exact State.Keeps.next (h.clearVfs (groups_sub g rfl))
    · split
      · exact h
      · refine State.Keeps.next (h.foldl _ _ fun t x kt => ?_)
        exact (kt.modFn (groups_sub g rfl) _ _).ite ((kt.modFn (groups_sub g rfl) _ _).modWindow (groups_sub g rfl) _ _)

theorem State.Keeps.goes_bar4Access (g : [Group.bar, .memory, .blt, .host, .out, .freeCtr] ⊆ l) (fn) (write) (upper) (off) (data) (bytes) : s0.Goes l (execBar4Access fn write upper off data bytes s) := by
  unfold execBar4Access
  extract_lets k n
  split
  · exact h
  · split
    · exact State.Keeps.next ((State.Keeps.ite h (h.emit (groups_sub g rfl) _)).accessNote (groups_sub g rfl) _)
    · split
      · exact State.Keeps.next (h.writePa (groups_sub g rfl) _ _ _)
      · split
        · exact State.Keeps.next ((h.setFreeCtr (g (by simp)) _).emit (groups_sub g rfl) _)
        · exact State.Keeps.next ((h.readPa (groups_sub g rfl) _ _ _).emit (groups_sub g rfl) _)

theorem State.Keeps.afterReset (g : [Group.bar, .board, .stk, .sat, .kva, .cores, .pln, .memory, .fls, .lnk, .xpt, .shp, .cmd, .blt, .sec, .host, .pwr, .out, .freeCtr] ⊆ l) (board) (regs) : s0.Keeps l (s.afterReset board regs) := by
  unfold State.afterReset State.reset
  refine State.Keeps.mk h _ _ _ _ _ _ _ _ _ _ _ _ _ _ _ _ _ _ _ (.inl (g (by simp))) (.inl (g (by simp))) (.inl (g (by simp))) (.inl (g (by simp)))
    (.inl (g (by simp))) (.inl (g (by simp))) (.inl (g (by simp))) (.inl (g (by simp))) (.inl (g (by simp))) (.inl (g (by simp))) (.inl (g (by simp)))
    (.inl (g (by simp))) (.inl (g (by simp))) (.inl (g (by simp))) (.inl (g (by simp))) (.inl (g (by simp))) (.inl (g (by simp))) (.inl (g (by simp)))
    (.inl (g (by simp))) (fun _ => rfl) (fun ok => ok) (fun _ => ?_) (fun ok => ok) (fun _ => rfl) (fun _ => rfl)
    (fun _ => rfl) (fun _ => rfl) (fun _ => ?_) (fun _ => ?_)
  · exact show (List.replicate 17 _).length = 17 from List.length_replicate
  · exact fun _ mem => absurd mem List.not_mem_nil
  · exact fun _ mem => absurd mem List.not_mem_nil

theorem State.Keeps.goes_coldReset (g : [Group.bar, .board, .stk, .sat, .kva, .cores, .pln, .memory, .fls, .lnk, .xpt, .shp, .cmd, .blt, .sec, .host, .pwr, .out, .freeCtr] ⊆ l) (board) (fuses) : s0.Goes l (execColdReset board fuses s) := by
  unfold execColdReset
  extract_lets m s1
  have k1 : s0.Keeps l s1 := h.afterReset g _ _
  clear_value s1
  exact State.Keeps.next (k1.setSec (g (by simp)) _)

theorem State.Keeps.goes_warmReset (g : [Group.bar, .board, .stk, .sat, .kva, .cores, .pln, .memory, .fls, .lnk, .xpt, .shp, .cmd, .blt, .sec, .host, .pwr, .out, .freeCtr] ⊆ l) : s0.Goes l (execWarmReset s) := by
  unfold execWarmReset
  split
  · exact h
  · extract_lets s1 _ s2 old new _ s3
    have k1 : s0.Keeps l s1 := h.afterReset g _ _
    clear_value s1
    have k2 : s0.Keeps l s2 := k1.setBlt (g (by simp)) _
    clear_value s2
    clear_value old
    split
    · refine State.Keeps.next (State.Keeps.post (s := s3) ?_ (groups_sub g rfl) _)
      have k3 := fun x y => (k2.setSec (g (by simp)) x).setFreeCtr (g (by simp)) y
      refine k3 { s2.sec with debugOpen := true, meas := [(5, new)] } _
    · refine State.Keeps.next ?_
      exact k2.setSec (g (by simp)) _

theorem State.Keeps.goes_boot (g : [Group.bar, .sat, .kva, .pln, .memory, .fls, .lnk, .xpt, .cmd, .blt, .sec] ⊆ l) (nonce) : s0.Goes l (execBoot nonce s) := by
  unfold execBoot
  extract_lets c first _ c1
  clear_value c1
  split
  · exact h
  · split
    · refine State.Keeps.next (State.Keeps.bringUp ?_ (groups_sub g rfl))
      exact h.setSec (g (by simp)) _
    · split
      · refine State.Keeps.next (State.Keeps.bringUp (State.Keeps.post ?_ (groups_sub g rfl) _) (groups_sub g rfl))
        exact h.setSec (g (by simp)) _
      · refine State.Keeps.next ?_
        exact h.setSec (g (by simp)) _

theorem State.Keeps.goes_fwStage (g : [Group.bar, .stk, .cmd, .sec, .host, .out] ⊆ l) (hd) (srcAddr) (length) (image) (rsv) : s0.Goes l (execFwStage hd srcAddr length image rsv s) := by
  unfold execFwStage
  refine State.Keeps.serve h (groups_sub g rfl) _ _ _ _ fun r t k => ?_
  grind only [State.Keeps.serve, State.Keeps.done, State.Keeps.accepted, State.Keeps.setSec, List.cons_subset, List.nil_subset]

theorem State.Keeps.goes_fwStageComplete (g : [Group.bar, .cmd, .sec, .host, .out] ⊆ l) : s0.Goes l (execFwStageComplete s) := by
  unfold execFwStageComplete
  grind only [State.goes_next, State.Keeps.done, State.Keeps.count, State.Keeps.setSec, List.cons_subset, List.nil_subset]

theorem State.Keeps.goes_fwActivate (g : [Group.bar, .stk, .cmd, .sec, .host, .out] ⊆ l) (hd) (mode) (rsv) : s0.Goes l (execFwActivate hd mode rsv s) := by
  unfold execFwActivate
  refine State.Keeps.serve h (groups_sub g rfl) _ _ _ _ fun r t k => ?_
  grind only [State.Keeps.serve, State.Keeps.done, State.Keeps.accepted, State.Keeps.setSec, List.cons_subset, List.nil_subset]

theorem State.Keeps.goes_liveActivationComplete (g : [Group.bar, .cmd, .blt, .sec, .host, .out, .freeCtr] ⊆ l) (started) : s0.Goes l (execLiveActivationComplete started s) := by
  unfold execLiveActivationComplete
  dsimp only
  (repeat' split) <;> apply_rules [State.Keeps.next, State.Keeps.done, State.Keeps.free, State.Keeps.post] <;> grind only [State.goes_next, State.Keeps.done, State.Keeps.free, State.Keeps.post, State.Keeps.setSec, List.cons_subset, List.nil_subset]

theorem State.Keeps.drawBytes (g : [Group.freeCtr] ⊆ l) (n) : s0.Keeps l (s.drawBytes n).1 := by
  unfold State.drawBytes
  grind only [State.Keeps.setFreeCtr, List.cons_subset, List.nil_subset]

theorem State.Keeps.goes_identityGet (g : [Group.bar, .stk, .memory, .cmd, .host, .out] ⊆ l) (hd) (select) (length) (outAddr) (rsv) : s0.Goes l (execIdentityGet hd select length outAddr rsv s) := by
  unfold execIdentityGet
  refine State.Keeps.serve h (groups_sub g rfl) _ _ _ _ fun r t k => ?_
  grind only [State.Keeps.serve, State.Keeps.done, State.Keeps.answer, State.Keeps.writeAddr, List.cons_subset, List.nil_subset]

theorem State.Keeps.goes_tenantKeySet (g : [Group.bar, .stk, .cmd, .sec, .host, .out] ⊆ l) (hd) (tenant) (gen) (action) (key) (rsv) : s0.Goes l (execTenantKeySet hd tenant gen action key rsv s) := by
  unfold execTenantKeySet
  refine State.Keeps.serve h (groups_sub g rfl) _ _ _ _ fun r t k => ?_
  grind only [State.Keeps.serve, State.Keeps.done, State.Keeps.setSec, List.cons_subset, List.nil_subset]

theorem State.Keeps.goes_debugUnlockToken (g : [Group.bar, .sec] ⊆ l) (valid) : s0.Goes l (execDebugUnlockToken valid s) := by
  unfold execDebugUnlockToken
  grind only [State.goes_next, State.Keeps.count, State.Keeps.setSec, List.cons_subset, List.nil_subset]

theorem State.Keeps.spdmError (g : [Group.out] ⊆ l) (code) : s0.Keeps l (s.spdmError code) := by
  unfold State.spdmError
  grind only [State.Keeps.emit, List.cons_subset, List.nil_subset]

theorem State.Keeps.spdmStep (g : [Group.host] ⊆ l) (n) : s0.Keeps l (s.spdmStep n) := by
  unfold State.spdmStep
  grind only [State.Keeps.setHost, Memory.wf_memWrite, = List.length_modify, List.cons_subset, List.nil_subset]

theorem State.Keeps.spdmFree (g : [Group.out, .freeCtr] ⊆ l) (code) (n) (body) : s0.Keeps l (s.spdmFree code n body) := by
  unfold State.spdmFree
  grind only [State.Keeps.drawBytes, State.Keeps.emit, List.cons_subset, List.nil_subset]

theorem State.Keeps.spdm (g : [Group.host, .out, .freeCtr] ⊆ l) (req) (nonce) : s0.Keeps l (s.spdm req nonce) := by
  unfold State.spdm
  grind only [State.Keeps.emit, State.Keeps.spdmStep, State.Keeps.spdmError, State.Keeps.spdmFree, State.Keeps.take, List.cons_subset, List.nil_subset]

theorem State.Keeps.goes_spdmRequest (g : [Group.host, .out, .freeCtr] ⊆ l) (doe) (req) (nonce) : s0.Goes l (execSpdmRequest doe req nonce s) := by
  unfold execSpdmRequest
  grind only [State.goes_next, State.Keeps.spdm, List.cons_subset, List.nil_subset]

theorem State.Keeps.sensor (g : [Group.freeCtr] ⊆ l) (n) : s0.Keeps l (s.sensor n).1 := by
  unfold State.sensor
  grind only [State.Keeps.free, List.cons_subset, List.nil_subset]

theorem State.Keeps.goes_pldmRequest (g : [Group.out, .freeCtr] ⊆ l) (sensor) : s0.Goes l (execPldmRequest sensor s) := by
  unfold execPldmRequest
  grind only [State.goes_next, State.Keeps.sensor, State.Keeps.emit, List.cons_subset, List.nil_subset]

theorem State.Keeps.goes_mctpControl (g : [Group.host, .out] ⊆ l) (ctl) : s0.Goes l (execMctpControl ctl s) := by
  unfold execMctpControl
  grind only [State.goes_next, State.Keeps.emit, State.Keeps.setHost, Memory.wf_memWrite, = List.length_modify, List.cons_subset, List.nil_subset]

end
end Sys2Proof.Machine
end

section
/-!
PROOFS. What the operations keep: shut-down, power and notices of members.
-/
namespace Sys2Proof.Machine
section
variable {s0 s : State} {l : List Group} (h : s0.Keeps l s)
include h
theorem State.Keeps.modShutdown (g : [Group.sec] ⊆ l) (f) : s0.Keeps l (s.modShutdown f) := by
  unfold State.modShutdown
  grind only [State.Keeps.setSec, List.cons_subset, List.nil_subset]

theorem State.Keeps.surrenderAll (g : [Group.bar, .sat, .kva, .pln, .memory, .fls, .cmd, .sec, .host, .out, .freeCtr] ⊆ l) (abort) : s0.Keeps l (s.surrenderAll abort) := by
  unfold State.surrenderAll
  refine h.foldl _ _ fun t k kt => kt.withSlot fun x _ => ?_
  exact (kt.sendAbort (groups_sub g rfl) _).ite (kt.surrenderLive (groups_sub g rfl) _)

theorem State.Keeps.stopped (g : [Group.bar, .cmd, .sec, .host, .out] ⊆ l) : s0.Keeps l (s.stopped) := by
  unfold State.stopped
  grind only [State.Keeps.answer, State.Keeps.setSec, List.cons_subset, List.nil_subset]

theorem State.Keeps.closePorts (g : [Group.bar, .fls, .lnk] ⊆ l) : s0.Keeps l (s.closePorts) := by
  unfold State.closePorts
  grind only [State.Keeps.disablePort, State.Keeps.flsHold, State.Keeps.foldl, List.cons_subset, List.nil_subset]

theorem State.Keeps.shutdownNow (g : [Group.bar, .sat, .kva, .pln, .memory, .fls, .lnk, .cmd, .sec, .host, .out, .freeCtr] ⊆ l) : s0.Keeps l (s.shutdownNow) := by
  unfold State.shutdownNow
  exact (((h.modShutdown (groups_sub g rfl) _).surrenderAll (groups_sub g rfl) _).closePorts (groups_sub g rfl)).stopped (groups_sub g rfl)

theorem State.Keeps.handOn (g : [Group.sat] ⊆ l) : s0.Keeps l (s.handOn) := by
  unfold State.handOn
  grind only [State.Keeps.setSat, keysBelow_aput, keysBelow_adel, keysBelow_amod, keysBelow_amap, = List.mem_append, List.mem_of_mem_erase, = List.mem_map, = List.mem_filter, List.cons_subset, List.nil_subset]

theorem State.Keeps.drainForStop (g : [Group.bar, .cores, .pln, .memory, .lnk, .xpt, .shp, .cmd, .blt, .host, .out, .freeCtr] ⊆ l) (p) : s0.Keeps l (s.drainForStop p) := by
  unfold State.drainForStop
  extract_lets s1
  have k1 : s0.Keeps l s1 := by
    simp only [s1]
    split
    · exact (h.modPart (groups_sub g rfl) _ _).partEvent (groups_sub g rfl) _ _ _ _
    · exact h
  clear_value s1
  exact (k1.failCompose (groups_sub g rfl) _ _).ite (k1.ite (k1.beginDrain (groups_sub g rfl) _ _))

theorem State.Keeps.shutdownOn (g : [Group.bar, .sat, .kva, .cores, .pln, .memory, .fls, .lnk, .xpt, .shp, .cmd, .blt, .sec, .host, .out, .freeCtr] ⊆ l) : s0.Keeps l (s.shutdownOn) := by
  unfold State.shutdownOn
  extract_lets s1 s2 s3
  have k1 : s0.Keeps l s1 := h.surrenderAll (groups_sub g rfl) _
  clear_value s1
  have k2 : s0.Keeps l s2 := k1.foldl _ _ fun t x kt => kt.drainForStop (groups_sub g rfl) _
  clear_value s2
  have k3 : s0.Keeps l s3 := k2.closePorts (groups_sub g rfl)
  clear_value s3
  exact k1.ite ((k1.handOn (groups_sub g rfl)).ite (k2.ite ((k3.stopped (groups_sub g rfl)).ite k3)))

theorem State.Keeps.beginShutdown (g : [Group.bar, .sat, .kva, .cores, .pln, .memory, .fls, .lnk, .xpt, .shp, .cmd, .blt, .sec, .host, .out, .freeCtr] ⊆ l) (reply) (immediate) (deadline) (targets) : s0.Keeps l (s.beginShutdown reply immediate deadline targets) := by
  unfold State.beginShutdown
  extract_lets d _ s1
  have k1 : s0.Keeps l s1 := h.setSec (g (by simp)) _
  clear_value s1
  exact (k1.shutdownNow (groups_sub g rfl)).ite ((k1.shutdownOn (groups_sub g rfl)).ite k1)

theorem State.Keeps.goes_deviceShutdown (g : [Group.bar, .stk, .sat, .kva, .cores, .pln, .memory, .fls, .lnk, .xpt, .shp, .cmd, .blt, .sec, .host, .out, .freeCtr] ⊆ l) (hd) (mode) (n) (deadlineMs) (targets) (rsv) : s0.Goes l (execDeviceShutdown hd mode n deadlineMs targets rsv s) := by
  unfold execDeviceShutdown
  refine State.Keeps.next ?_
  refine State.Keeps.serve h (groups_sub g rfl) _ _ _ _ fun r t k => ?_
  have kd := k.done (groups_sub g rfl) r
  exact (kd _).ite ((kd _).ite ((kd _).ite ((k.accepted (groups_sub g rfl) _).beginShutdown (groups_sub g rfl) _ _ _ _)))

theorem State.Keeps.goes_shutdownDeadline (g : [Group.bar, .stk, .sat, .kva, .cores, .pln, .memory, .fls, .lnk, .xpt, .shp, .cmd, .blt, .sec, .host, .out, .freeCtr] ⊆ l) : s0.Goes l (execShutdownDeadline s) := by
  unfold execShutdownDeadline
  split
  · exact h
  · extract_lets s1
    split
    · exact h
    · have k1 : s0.Keeps l s1 := h.ite (h.at_ (groups_sub g rfl) _)
      exact State.Keeps.next ((k1.modShutdown (groups_sub g rfl) _).shutdownOn (groups_sub g rfl))

theorem State.Keeps.pfailShutdown (g : [Group.bar, .sat, .kva, .cores, .pln, .memory, .fls, .lnk, .xpt, .shp, .cmd, .blt, .sec, .host, .out, .freeCtr] ⊆ l) : s0.Keeps l (s.pfailShutdown) := by
  unfold State.pfailShutdown
  refine h.ite ?_
  split
  · exact h.beginShutdown (groups_sub g rfl) _ _ _ _
  · exact h.ite (h.shutdownNow (groups_sub g rfl))

theorem State.Keeps.acceptPfail (g : [Group.bar, .sat, .kva, .cores, .pln, .memory, .fls, .lnk, .xpt, .shp, .cmd, .blt, .sec, .host, .pwr, .out, .freeCtr] ⊆ l) : s0.Keeps l (s.acceptPfail) := by
  unfold State.acceptPfail
  extract_lets _ s1
  have k1 : s0.Keeps l s1 := h.setPwr (g (by simp)) _
  clear_value s1
  exact ((k1.note (groups_sub g rfl) _ _ _).flsHold (groups_sub g rfl) _).pfailShutdown (groups_sub g rfl)

theorem State.Keeps.releasePfail (g : [Group.bar, .memory, .fls, .cmd, .host, .pwr, .out] ⊆ l) : s0.Keeps l (s.releasePfail) := by
  unfold State.releasePfail
  grind only [State.Keeps.flsRelease, State.Keeps.setPwr, List.cons_subset, List.nil_subset]

theorem State.Keeps.goes_pfailAssert (g : [Group.bar, .stk, .sat, .kva, .cores, .pln, .memory, .fls, .lnk, .xpt, .shp, .cmd, .blt, .sec, .host, .pwr, .out, .freeCtr] ⊆ l) (now) : s0.Goes l (execPfailAssert now s) := by
  unfold execPfailAssert
  grind only [State.goes_next, State.Keeps.at_, State.Keeps.acceptPfail, List.cons_subset, List.nil_subset]

theorem State.Keeps.goes_pfailRelease (g : [Group.bar, .memory, .fls, .cmd, .host, .pwr, .out] ⊆ l) : s0.Goes l (execPfailRelease s) := by
  unfold execPfailRelease
  grind only [State.goes_next, State.Keeps.releasePfail, List.cons_subset, List.nil_subset]

theorem State.Keeps.goes_pfailHoldoffEnd (g : [Group.bar, .stk, .sat, .kva, .cores, .pln, .memory, .fls, .lnk, .xpt, .shp, .cmd, .blt, .sec, .host, .pwr, .out, .freeCtr] ⊆ l) (active) (again) (now) : s0.Goes l (execPfailHoldoffEnd active again now s) := by
  unfold execPfailHoldoffEnd
  extract_lets s1 _ s2
  have k1 : s0.Keeps l s1 := h.at_ (groups_sub g rfl) _
  clear_value s1
  have k2 : s0.Keeps l s2 := k1.setPwr (g (by simp)) _
  clear_value s2
  split
  · exact k1
  · split
    · exact State.Keeps.next ((k2.acceptPfail (groups_sub g rfl)).ite k2)
    · exact State.Keeps.next (k2.releasePfail (groups_sub g rfl))

theorem State.Keeps.goes_pfailStuck (g : [Group.bar, .memory, .fls, .cmd, .blt, .host, .pwr, .out] ⊆ l) : s0.Goes l (execPfailStuck s) := by
  unfold execPfailStuck
  (repeat' split) <;> apply_rules [State.Keeps.next, State.Keeps.flsRelease, State.Keeps.post] <;> grind only [State.goes_next, State.Keeps.flsRelease, State.Keeps.post, State.Keeps.setPwr, List.cons_subset, List.nil_subset]

theorem State.Keeps.goes_pfailRearm (g : [Group.pwr] ⊆ l) : s0.Goes l (execPfailRearm s) := by
  unfold execPfailRearm
  grind only [State.goes_next, State.Keeps.setPwr, List.cons_subset, List.nil_subset]

theorem State.Keeps.goes_thermAssert (g : [Group.bar, .stk, .blt, .pwr] ⊆ l) (now) : s0.Goes l (execThermAssert now s) := by
  unfold execThermAssert
  dsimp only
  (repeat' split) <;> apply_rules [State.Keeps.next, State.Keeps.at_, State.Keeps.note] <;> grind only [State.goes_next, State.Keeps.at_, State.Keeps.note, State.Keeps.setStep, State.Keeps.setPwr, List.cons_subset, List.nil_subset]

theorem State.Keeps.goes_thermRelease (g : [Group.stk, .pwr] ⊆ l) (now) : s0.Goes l (execThermRelease now s) := by
  unfold execThermRelease
  grind only [State.goes_next, State.Keeps.at_, State.Keeps.setPwr, List.cons_subset, List.nil_subset]

theorem State.Keeps.goes_inputGlitch (g : [Group.bar, .stk, .blt, .pwr] ⊆ l) (pin) (now) : s0.Goes l (execInputGlitch pin now s) := by
  unfold execInputGlitch
  grind only [State.goes_next, State.Keeps.at_, State.Keeps.setFld, State.Keeps.note, State.Keeps.setPwr, List.cons_subset, List.nil_subset]

theorem State.Keeps.trip (g : [Group.bar, .board, .stk, .sat, .kva, .cores, .pln, .memory, .fls, .lnk, .xpt, .shp, .cmd, .blt, .sec, .host, .pwr, .out, .freeCtr] ⊆ l) : s0.Keeps l (s.trip) := by
  unfold State.trip
  extract_lets s1
  have k1 : s0.Keeps l s1 := h.afterReset g _ _
  clear_value s1
  exact k1.setPwr (g (by simp)) _

theorem State.Keeps.fallNow (g : [Group.bar, .blt, .pwr] ⊆ l) : s0.Keeps l (s.fallNow) := by
  unfold State.fallNow
  grind only [State.Keeps.fallStep, List.cons_subset, List.nil_subset]

theorem State.Keeps.raiseStep (g : [Group.bar, .blt, .pwr] ⊆ l) (k) : s0.Keeps l (s.raiseStep k) := by
  unfold State.raiseStep
  grind only [State.Keeps.setStep, State.Keeps.setPwr, List.cons_subset, List.nil_subset]

theorem State.Keeps.goes_throttleEvaluate (g : [Group.bar, .board, .stk, .sat, .kva, .cores, .pln, .memory, .fls, .lnk, .xpt, .shp, .cmd, .blt, .sec, .host, .pwr, .out, .freeCtr] ⊆ l) (tj) (now) : s0.Goes l (execThrottleEvaluate tj now s) := by
  unfold execThrottleEvaluate
  split
  · exact h
  · split
    · exact State.Keeps.next (h.trip g)
    · extract_lets s1 t watts target cap overT overP calm _ s2 s3
      have k1 : s0.Keeps l s1 := h.at_ (groups_sub g rfl) _
      clear_value s1
      have k2 : s0.Keeps l s2 := k1.setPwr (g (by simp)) _
      clear_value s2
      have k3 : s0.Keeps l s3 := k2.setFld (groups_sub g rfl) _ _ _ _
      clear_value s3
      split
      · exact State.Keeps.next (k3.raiseStep (groups_sub g rfl) _)
      · split
        · split
          · exact State.Keeps.next (k3.raiseStep (groups_sub g rfl) _)
          · exact k3
        · split
          · exact State.Keeps.next ((k3.setPwr (g (by simp)) _).fallNow (groups_sub g rfl))
          · exact k3
        · exact k3

theorem State.Keeps.goes_avsWrite (g : [Group.bar, .blt, .pwr, .out] ⊆ l) (acked) : s0.Goes l (execAvsWrite acked s) := by
  unfold execAvsWrite
  grind only [State.goes_next, State.Keeps.fallNow, State.Keeps.emit, State.Keeps.setStep, State.Keeps.note, State.Keeps.setFld, State.Keeps.setPwr, List.cons_subset, List.nil_subset]

theorem State.Keeps.pollEntry (g : [Group.bar, .blt, .pwr] ⊆ l) (i) (reading) : s0.Keeps l (s.pollEntry i reading) := by
  unfold State.pollEntry
  grind only [State.Keeps.note, State.Keeps.setPwr, List.cons_subset, List.nil_subset]

theorem State.Keeps.goes_pmbusPoll (g : [Group.bar, .blt, .pwr] ⊆ l) (readings) : s0.Goes l (execPmbusPoll readings s) := by
  unfold execPmbusPoll
  grind only [State.goes_next, State.Keeps.pollEntry, State.Keeps.foldl, List.cons_subset, List.nil_subset]

theorem State.Keeps.sendNotice (g : [Group.out] ⊆ l) (ports) (dev) (seq) (alive) : s0.Keeps l (s.sendNotice ports dev seq alive) := by
  unfold State.sendNotice
  grind only [State.Keeps.emit, State.Keeps.foldl, List.cons_subset, List.nil_subset]

theorem State.Keeps.passNotice (g : [Group.lnk, .out] ⊆ l) (dev) (seq) (alive) : s0.Keeps l (s.passNotice dev seq alive) := by
  unfold State.passNotice
  grind only [State.Keeps.sendNotice, State.Keeps.setLnk, = List.length_modify, = List.length_map, List.cons_subset, List.nil_subset]

theorem State.Keeps.setLive (g : [Group.sat, .lnk] ⊆ l) (dev) (alive) : s0.Keeps l (s.setLive dev alive) := by
  unfold State.setLive
  grind only [State.Keeps.setSat, State.Keeps.setLnk, keysBelow_aput, keysBelow_adel, keysBelow_amod, keysBelow_amap, = List.mem_append, List.mem_of_mem_erase, = List.mem_map, = List.mem_filter, = List.length_modify, = List.length_map, List.cons_subset, List.nil_subset]

theorem State.Keeps.reRegister (g : [Group.sat, .out] ⊆ l) (old) (dev) : s0.Keeps l (s.reRegister old dev) := by
  unfold State.reRegister
  exact h.foldl _ _ fun t x kt => (kt.sendRegister (groups_sub g rfl) _).ite kt

theorem State.Keeps.openRereg (g : [Group.sat] ⊆ l) (dev) : s0.Keeps l (s.openRereg dev) := by
  unfold State.openRereg
  grind only [State.Keeps.setSat, keysBelow_aput, keysBelow_adel, keysBelow_amod, keysBelow_amap, = List.mem_append, List.mem_of_mem_erase, = List.mem_map, = List.mem_filter, List.cons_subset, List.nil_subset]

theorem State.Keeps.ownersDead (g : [Group.bar, .sat, .cmd, .blt, .host, .out] ⊆ l) (dev) : s0.Keeps l (s.ownersDead dev) := by
  unfold State.ownersDead
  extract_lets _ s1
  have k1 : s0.Keeps l s1 := h.setSat (g (by simp)) _ (fun ok => ok) fun ok => ok
  clear_value s1
  refine k1.foldl _ _ fun t x kt => ?_
  exact (kt.candidateRefused (groups_sub g rfl) _).ite kt

theorem State.Keeps.lodgersDead (g : [Group.bar, .sat, .kva, .pln, .fls, .cmd, .host, .out] ⊆ l) (dev) : s0.Keeps l (s.lodgersDead dev) := by
  unfold State.lodgersDead
  extract_lets _ s1
  have k1 : s0.Keeps l s1 := h.setSat (g (by simp)) _ (fun ok => ok) fun ok => ok
  clear_value s1
  exact k1.foldl _ _ fun t x kt => kt.lowerTier (groups_sub g rfl) _

theorem State.Keeps.peerDead (g : [Group.bar, .cores, .memory, .lnk, .xpt, .shp, .cmd, .blt, .host, .out, .freeCtr] ⊆ l) (dev) : s0.Keeps l (s.peerDead dev) := by
  unfold State.peerDead
  extract_lets s1 q _ s2
  have k1 : s0.Keeps l s1 := h.foldl _ _ fun t x kt => kt.failConn (groups_sub g rfl) _
  clear_value s1
  have k2 : s0.Keeps l s2 := k1.setXpt (g (by simp)) _
  clear_value s2
  exact k2.foldl _ _ fun t x kt => kt.done (groups_sub g rfl) _ _

theorem State.Keeps.groupsDead (g : [Group.bar, .cores, .lnk, .xpt, .shp, .blt, .freeCtr] ⊆ l) (dev) : s0.Keeps l (s.groupsDead dev) := by
  unfold State.groupsDead
  grind only [State.Keeps.opDone, State.Keeps.setXpt, State.Keeps.foldl, List.cons_subset, List.nil_subset]

theorem State.Keeps.shardsDead (g : [Group.pln, .memory] ⊆ l) (dev) : s0.Keeps l (s.shardsDead dev) := by
  unfold State.shardsDead
  grind only [State.Keeps.setDegraded, State.Keeps.modPart, State.Keeps.foldl, List.cons_subset, List.nil_subset]

theorem State.Keeps.applyDead (g : [Group.bar, .sat, .kva, .cores, .pln, .memory, .fls, .lnk, .xpt, .shp, .cmd, .blt, .host, .out, .freeCtr] ⊆ l) (dev) : s0.Keeps l (s.applyDead dev) := by
  unfold State.applyDead
  refine h.ite ?_
  have k1 := (((h.setLive (groups_sub g rfl) dev false).count (groups_sub g rfl) Reg.lnkCntDead 1).peerDead (groups_sub g rfl) dev).groupsDead (groups_sub g rfl) dev
  have k2 := ((k1.reRegister (groups_sub g rfl) s dev).openRereg (groups_sub g rfl) dev).ownersDead (groups_sub g rfl) dev
  exact (k2.lodgersDead (groups_sub g rfl) dev).shardsDead (groups_sub g rfl) dev

theorem State.Keeps.rehomeTo (g : [Group.sat] ⊆ l) (dev) : s0.Keeps l (s.rehomeTo dev) := by
  unfold State.rehomeTo
  grind only [State.Keeps.setSat, keysBelow_aput, keysBelow_adel, keysBelow_amod, keysBelow_amap, = List.mem_append, List.mem_of_mem_erase, = List.mem_map, = List.mem_filter, List.cons_subset, List.nil_subset]

theorem State.Keeps.registerWaiting (g : [Group.sat, .out] ⊆ l) (old) : s0.Keeps l (s.registerWaiting old) := by
  unfold State.registerWaiting
  exact h.foldl _ _ fun t x kt => (kt.sendRegister (groups_sub g rfl) _).ite kt

theorem State.Keeps.applyAlive (g : [Group.sat, .lnk, .out] ⊆ l) (dev) : s0.Keeps l (s.applyAlive dev) := by
  unfold State.applyAlive
  exact h.ite (((h.setLive (groups_sub g rfl) dev true).rehomeTo (groups_sub g rfl) dev).registerWaiting (groups_sub g rfl) s)

theorem State.Keeps.goes_linkState (g : [Group.stk, .sat, .lnk, .out] ⊆ l) (src) (seq) (up) (levels) (now) : s0.Goes l (execLinkState src seq up levels now s) := by
  unfold execLinkState
  grind only [State.goes_next, State.Keeps.at_, State.Keeps.applyAlive, State.Keeps.passNotice, State.Keeps.setLnk, = List.length_modify, = List.length_map, List.cons_subset, List.nil_subset]

theorem State.Keeps.goes_probeTimeout (g : [Group.bar, .stk, .sat, .kva, .cores, .pln, .memory, .fls, .lnk, .xpt, .shp, .cmd, .blt, .host, .out, .freeCtr] ⊆ l) (port) (now) : s0.Goes l (execProbeTimeout port now s) := by
  unfold execProbeTimeout
  extract_lets s1
  have k1 : s0.Keeps l s1 := h.at_ (groups_sub g rfl) _
  clear_value s1
  split
  · exact k1
  · split
    · exact k1
    · extract_lets s2 x dev last heard
      have k2 : s0.Keeps l s2 := k1.setLnk (g (by simp)) _ fun ok => ok
      clear_value s2 heard
      split
      · exact k2
      · exact State.Keeps.next ((k2.passNotice (groups_sub g rfl) _ _ _).applyDead (groups_sub g rfl) _)

theorem State.Keeps.goes_deadNotice (g : [Group.bar, .stk, .sat, .kva, .cores, .pln, .memory, .fls, .lnk, .xpt, .shp, .cmd, .blt, .host, .out, .freeCtr] ⊆ l) (dev) (seq) (alive) (now) : s0.Goes l (execDeadNotice dev seq alive now s) := by
  unfold execDeadNotice
  extract_lets s1 s2
  have k1 : s0.Keeps l s1 := h.at_ (groups_sub g rfl) _
  clear_value s1
  have k2 : s0.Keeps l s2 := k1.passNotice (groups_sub g rfl) _ _ _
  clear_value s2
  split
  · exact k1
  · exact State.Keeps.next ((k2.applyAlive (groups_sub g rfl) _).ite (k2.applyDead (groups_sub g rfl) _))

theorem State.Keeps.readHalf (g : [Group.bar] ⊆ l) (off) : s0.Keeps l (s.readHalf off).1 := by
  unfold State.readHalf
  grind only [State.Keeps.setBar, List.cons_subset, List.nil_subset]

theorem State.Keeps.barRead (g : [Group.bar, .blt] ⊆ l) (off) (wide) : s0.Keeps l (s.barRead off wide).1 := by
  unfold State.barRead
  grind only [State.Keeps.accessNote, State.Keeps.readHalf, List.cons_subset, List.nil_subset]

theorem State.Keeps.goes_windowBadLength (g : [Group.bar, .cmd, .host, .out] ⊆ l) (window) (opcode) (tag) (length) : s0.Goes l (execWindowBadLength window opcode tag length s) := by
  unfold execWindowBadLength
  grind only [State.goes_next, State.Keeps.windowError, List.cons_subset, List.nil_subset]

theorem State.Keeps.goes_packetCheckMismatch (g : [Group.bar, .stk, .cmd, .host, .out] ⊆ l) (hd) (opcode) : s0.Goes l (execPacketCheckMismatch hd opcode s) := by
  unfold execPacketCheckMismatch
  dsimp only
  (repeat' split) <;> apply_rules [State.Keeps.next, State.Keeps.at_, State.Keeps.windowError, State.Keeps.putRecord, State.Keeps.count, State.Keeps.modWindow] <;> grind only [State.goes_next, State.Keeps.at_, State.Keeps.windowError, State.Keeps.putRecord, State.Keeps.count, State.Keeps.modWindow, List.cons_subset, List.nil_subset]

theorem State.Keeps.goes_undefinedOpcode (g : [Group.bar, .stk, .cmd, .host, .out] ⊆ l) (hd) (opcode) : s0.Goes l (execUndefinedOpcode hd opcode s) := by
  unfold execUndefinedOpcode
  grind only [State.goes_next, State.Keeps.take, State.Keeps.done, List.cons_subset, List.nil_subset]

theorem State.Keeps.goes_nop (g : [Group.bar, .stk, .cmd, .host, .out] ⊆ l) (hd) : s0.Goes l (execNop hd s) := by
  unfold execNop
  grind only [State.goes_next, State.Keeps.at_, State.Keeps.takeWindow, State.Keeps.setCmd, = List.length_modify, List.cons_subset, List.nil_subset]

theorem State.Keeps.goes_deviceQuery (g : [Group.bar, .stk, .cmd, .host, .out] ⊆ l) (hd) : s0.Goes l (execDeviceQuery hd s) := by
  unfold execDeviceQuery
  refine State.Keeps.serve h (groups_sub g rfl) _ _ _ _ fun r t k => ?_
  grind only [State.Keeps.serve, State.Keeps.answer, List.cons_subset, List.nil_subset]

theorem State.Keeps.goes_ringCreate (g : [Group.bar, .stk, .cmd, .host, .out] ⊆ l) (hd) (kind) (window) (index) (entries) (base) (ctrl) (vector) (intRecords) (intDelay) (rsv) : s0.Goes l (execRingCreate hd kind window index entries base ctrl vector intRecords intDelay rsv s) := by
  unfold execRingCreate
  refine State.Keeps.serve h (groups_sub g rfl) _ _ _ _ fun r t k => ?_
  grind only [State.Keeps.serve, State.Keeps.done, State.Keeps.setCmd, = List.length_modify, List.cons_subset, List.nil_subset]

theorem State.Keeps.goes_ringDestroy (g : [Group.bar, .stk, .cmd, .host, .out] ⊆ l) (hd) (kind) (index) (rsv) : s0.Goes l (execRingDestroy hd kind index rsv s) := by
  unfold execRingDestroy
  refine State.Keeps.serve h (groups_sub g rfl) _ _ _ _ fun r t k => ?_
  grind only [State.Keeps.serve, State.Keeps.done, State.Keeps.destroyRing, List.cons_subset, List.nil_subset]

theorem State.Keeps.drainRing (g : [Group.cmd, .host, .out] ⊆ l) (key) (n) : s0.Keeps l (s.drainRing key n) := by
  induction n generalizing s key with
  | zero => unfold State.drainRing; grind only [State.Keeps.writeRecord, List.cons_subset, List.nil_subset]
  | succ n ih => unfold State.drainRing; grind only [State.Keeps.writeRecord, List.cons_subset, List.nil_subset]

theorem State.Keeps.overflow (g : [Group.bar, .cmd, .host, .out] ⊆ l) (key) : s0.Keeps l (s.overflow key) := by
  unfold State.overflow
  grind only [State.Keeps.event, State.Keeps.setCmd, = List.length_modify, List.cons_subset, List.nil_subset]

theorem State.Keeps.goes_ringSpacePoll (g : [Group.bar, .cmd, .host, .out] ⊆ l) (fn) (kind) (index) (cons) : s0.Goes l (execRingSpacePoll fn kind index cons s) := by
  unfold execRingSpacePoll
  grind only [State.goes_next, State.Keeps.overflow, State.Keeps.drainRing, State.Keeps.setCmd, = List.length_modify, List.cons_subset, List.nil_subset]

theorem State.Keeps.goes_msixDelayExpiry (g : [Group.cmd, .host, .out] ⊆ l) (fn) (kind) (index) : s0.Goes l (execMsixDelayExpiry fn kind index s) := by
  unfold execMsixDelayExpiry
  grind only [State.goes_next, State.Keeps.msix, State.Keeps.setCmd, = List.length_modify, List.cons_subset, List.nil_subset]

theorem State.Keeps.remoteAnswer (g : [Group.bar, .cmd, .host, .out] ⊆ l) (src) (slot) (record) : s0.Keeps l (s.remoteAnswer src slot record) := by
  unfold State.remoteAnswer
  grind only [State.Keeps.modWindow, State.Keeps.putRecord, State.Keeps.setCmd, = List.length_modify, List.cons_subset, List.nil_subset]

theorem State.Keeps.goes_command (g : [Group.bar, .stk, .cmd, .host, .out] ⊆ l) (e0) (opcode) (hd) (satchel) (record) : s0.Goes l (execCommand e0 opcode hd satchel record s) := by
  unfold execCommand
  extract_lets s1 origin _ _ judged
  have k1 : s0.Keeps l s1 := h.at_ (groups_sub g rfl) _
  clear_value s1
  have kj : ∀ b, s0.Keeps l (judged b) := fun b => by
    refine State.Keeps.ite ?_ ?_
    · have k2 := fun x => (k1.count (groups_sub g rfl) Reg.cmdCntRemote 1).setCmd (g (by simp)) x
      exact k2 _ fun ok => ok
    · exact (k1.count (groups_sub g rfl) _ _).emit (groups_sub g rfl) _
  clear_value judged
  split
  · exact kj _
  · exact kj _
  · exact State.Keeps.next (k1.remoteAnswer (groups_sub g rfl) _ _ _)
  · exact k1

theorem State.Keeps.goes_remoteCommandTimeout (g : [Group.bar, .stk, .cmd, .host, .out] ⊆ l) (slot) : s0.Goes l (execRemoteCommandTimeout slot s) := by
  unfold execRemoteCommandTimeout
  dsimp only
  (repeat' split) <;> apply_rules [State.Keeps.next, State.Keeps.at_, State.Keeps.done] <;> grind only [State.goes_next, State.Keeps.at_, State.Keeps.done, State.Keeps.setCmd, = List.length_modify, List.cons_subset, List.nil_subset]

end
end Sys2Proof.Machine
end

section
/-!
PROOFS. Every step keeps the device safe and serves the queue in order.
-/
namespace Sys2Proof.Machine

/-- The groups of the state, all but the queue of commands. -/
def Group.every : List Group :=
  [.bar, .board, .stk, .sat, .kva, .cores, .pln, .memory, .fls, .lnk, .xpt, .shp, .cmd, .blt, .sec, .host, .pwr, .out, .freeCtr]

theorem Group.mem_every (x : Group) : x ∈ Group.every := by cases x <;> decide

theorem every_sub (l : List Group) : l ⊆ Group.every := fun x _ => x.mem_every

/-- Every command leads to a next state with the queue as it is, and from a safe state to a safe one. -/
theorem State.Keeps.goes_exec {s0 s : State} (k : s0.Keeps Group.every s) : (i : Instr) → s0.Goes Group.every (exec i s)
  | .registerWrite .. => k.goes_registerWrite (every_sub _) ..
  | .bar0InvalidAccess .. => k.goes_bar0InvalidAccess (every_sub _) ..
  | .glbDeviceIdWrite .. => k.goes_glbDeviceIdWrite (every_sub _) ..
  | .blockLockWrite .. => k.goes_blockLockWrite (every_sub _) ..
  | .satEnable .. => k.goes_satEnable (every_sub _) ..
  | .kvaEnable .. => k.goes_kvaEnable (every_sub _) ..
  | .memEnable .. => k.goes_memEnable (every_sub _) ..
  | .cdcEnable .. => k.goes_cdcEnable (every_sub _) ..
  | .flsEnable .. => k.goes_flsEnable (every_sub _) ..
  | .xptEnable .. => k.goes_xptEnable (every_sub _) ..
  | .plnEnable .. => k.goes_plnEnable (every_sub _) ..
  | .lnkEnable .. => k.goes_lnkEnable (every_sub _) ..
  | .shpEnable .. => k.goes_shpEnable (every_sub _) ..
  | .cmdEnable .. => k.goes_cmdEnable (every_sub _) ..
  | .portCtrlWrite .. => k.goes_portCtrlWrite (every_sub _) ..
  | .gateBankSwap .. => k.goes_gateBankSwap (every_sub _) ..
  | .gateBankActivate .. => k.goes_gateBankActivate (every_sub _) ..
  | .gateEntryChange .. => k.goes_gateEntryChange (every_sub _) ..
  | .histClear .. => k.goes_histClear (every_sub _) ..
  | .histSample .. => k.goes_histSample (every_sub _) ..
  | .windowReset .. => k.goes_windowReset (every_sub _) ..
  | .faultnHoldWrite .. => k.goes_faultnHoldWrite (every_sub _) ..
  | .coreIsolate .. => k.goes_coreIsolate (every_sub _) ..
  | .codecGroupIsolate .. => k.goes_codecGroupIsolate (every_sub _) ..
  | .plnPCfgWrite .. => k.goes_plnPCfgWrite (every_sub _) ..
  | .syncSend .. => k.goes_syncSend (every_sub _) ..
  | .syncExchange .. => k.goes_syncExchange (every_sub _) ..
  | .parentLost .. => k.goes_parentLost (every_sub _) ..
  | .unaligned .. => k.goes_unaligned (every_sub _) ..
  | .tsyncInPulse .. => k.goes_tsyncInPulse (every_sub _) ..
  | .refHoldover .. => k.goes_refHoldover (every_sub _) ..
  | .tsyncOutPulse .. => k.goes_tsyncOutPulse (every_sub _) ..
  | .strokeBoundary .. => k.goes_strokeBoundary (every_sub _) ..
  | .issuePhase .. => k.goes_issuePhase (every_sub _) ..
  | .computePhase .. => k.goes_computePhase (every_sub _) ..
  | .exchangePhase .. => k.goes_exchangePhase (every_sub _) ..
  | .inkPoint .. => k.goes_inkPoint (every_sub _) ..
  | .commitComplete .. => k.goes_commitComplete (every_sub _) ..
  | .strokeConfig .. => k.goes_strokeConfig (every_sub _) ..
  | .timeSet .. => k.goes_timeSet (every_sub _) ..
  | .satchelAdmit .. => k.goes_satchelAdmit (every_sub _) ..
  | .satchelAppend .. => k.goes_satchelAppend (every_sub _) ..
  | .satchelCancel .. => k.goes_satchelCancel (every_sub _) ..
  | .satchelMove .. => k.goes_satchelMove (every_sub _) ..
  | .satchelFree .. => k.goes_satchelFree (every_sub _) ..
  | .satchelQuery .. => k.goes_satchelQuery (every_sub _) ..
  | .satchelRecover .. => k.goes_satchelRecover (every_sub _) ..
  | .offer .. => k.goes_offer (every_sub _) ..
  | .offerNote .. => k.goes_offerNote (every_sub _) ..
  | .receiverDataComplete .. => k.goes_receiverDataComplete (every_sub _) ..
  | .claim .. => k.goes_claim (every_sub _) ..
  | .commit .. => k.goes_commit (every_sub _) ..
  | .release .. => k.goes_release (every_sub _) ..
  | .decline .. => k.goes_decline (every_sub _) ..
  | .abortReq .. => k.goes_abortReq (every_sub _) ..
  | .abortAns .. => k.goes_abortAns (every_sub _) ..
  | .mirror .. => k.goes_mirror (every_sub _) ..
  | .mirrorAck .. => k.goes_mirrorAck (every_sub _) ..
  | .register .. => k.goes_register (every_sub _) ..
  | .registerAck .. => k.goes_registerAck (every_sub _) ..
  | .probe .. => k.goes_probe (every_sub _) ..
  | .probeAns .. => k.goes_probeAns (every_sub _) ..
  | .surrender .. => k.goes_surrender (every_sub _) ..
  | .recoverAssign .. => k.goes_recoverAssign (every_sub _) ..
  | .recoverAns .. => k.goes_recoverAns (every_sub _) ..
  | .custodyMessageReturned .. => k.goes_custodyMessageReturned (every_sub _) ..
  | .custodyUndelivered ty dst m p => k.goes_custodyUndelivered (every_sub _) ty dst m p
  | .releaseTimeout .. => k.goes_releaseTimeout (every_sub _) ..
  | .commitTimeout .. => k.goes_commitTimeout (every_sub _) ..
  | .commitProbeTimer .. => k.goes_commitProbeTimer (every_sub _) ..
  | .ownerLossTimeout .. => k.goes_ownerLossTimeout (every_sub _) ..
  | .silentOwnerProbe .. => k.goes_silentOwnerProbe (every_sub _) ..
  | .recoverAnsTimeout .. => k.goes_recoverAnsTimeout (every_sub _) ..
  | .mirrorAckOverdue .. => k.goes_mirrorAckOverdue (every_sub _) ..
  | .registerRetry .. => k.goes_registerRetry (every_sub _) ..
  | .reregWindowClose .. => k.goes_reregWindowClose (every_sub _) ..
  | .rehomeAck .. => k.goes_rehomeAck (every_sub _) ..
  | .migrationComplete .. => k.goes_migrationComplete (every_sub _) ..
  | .lodgingExpiry .. => k.goes_lodgingExpiry (every_sub _) ..
  | .satelliteExpiry .. => k.goes_satelliteExpiry (every_sub _) ..
  | .waitTimeoutExpiry .. => k.goes_waitTimeoutExpiry (every_sub _) ..
  | .parkConfig .. => k.goes_parkConfig (every_sub _) ..
  | .parkingDue .. => k.goes_parkingDue (every_sub _) ..
  | .parkingComplete .. => k.goes_parkingComplete (every_sub _) ..
  | .cachePathRetry .. => k.goes_cachePathRetry (every_sub _) ..
  | .leadRestoreStart .. => k.goes_leadRestoreStart (every_sub _) ..
  | .revivalResident .. => k.goes_revivalResident (every_sub _) ..
  | .parkPool .. => k.goes_parkPool (every_sub _) ..
  | .tenantPark .. => k.goes_tenantPark (every_sub _) ..
  | .parkQuery .. => k.goes_parkQuery (every_sub _) ..
  | .inkwellPublish .. => k.goes_inkwellPublish (every_sub _) ..
  | .inkwellWithdraw .. => k.goes_inkwellWithdraw (every_sub _) ..
  | .inkwellPinEnd .. => k.goes_inkwellPinEnd (every_sub _) ..
  | .kvSwapConfig .. => k.goes_kvSwapConfig (every_sub _) ..
  | .swapOutComplete .. => k.goes_swapOutComplete (every_sub _) ..
  | .swapReturnComplete .. => k.goes_swapReturnComplete (every_sub _) ..
  | .tqPush .. => k.goes_tqPush (every_sub _) ..
  | .tqPushResume .. => k.goes_tqPushResume (every_sub _) ..
  | .tqPoll .. => k.goes_tqPoll (every_sub _) ..
  | .tqWait .. => k.goes_tqWait (every_sub _) ..
  | .tqFence .. => k.goes_tqFence (every_sub _) ..
  | .cvSet .. => k.goes_cvSet (every_sub _) ..
  | .cvClr .. => k.goes_cvClr (every_sub _) ..
  | .cvWait .. => k.goes_cvWait (every_sub _) ..
  | .cvRead .. => k.goes_cvRead (every_sub _) ..
  | .threadTrap .. => k.goes_threadTrap (every_sub _) ..
  | .matmul .. => k.goes_matmul (every_sub _) ..
  | .attend .. => k.goes_attend (every_sub _) ..
  | .sample .. => k.goes_sample (every_sub _) ..
  | .vector .. => k.goes_vector (every_sub _) ..
  | .commandComplete .. => k.goes_commandComplete (every_sub _) ..
  | .faultResume .. => k.goes_faultResume (every_sub _) ..
  | .faultTimeout .. => k.goes_faultTimeout (every_sub _) ..
  | .partitionCompose .. => k.goes_partitionCompose (every_sub _) ..
  | .heldComposeStart .. => k.goes_heldComposeStart (every_sub _) ..
  | .composeZeroingDone .. => k.goes_composeZeroingDone (every_sub _) ..
  | .composeWeightsInPlace .. => k.goes_composeWeightsInPlace (every_sub _) ..
  | .composeFailed .. => k.goes_composeFailed (every_sub _) ..
  | .partitionDecompose .. => k.goes_partitionDecompose (every_sub _) ..
  | .partitionDrainComplete .. => k.goes_partitionDrainComplete (every_sub _) ..
  | .partitionSuspend .. => k.goes_partitionSuspend (every_sub _) ..
  | .suspendSaveComplete .. => k.goes_suspendSaveComplete (every_sub _) ..
  | .partitionResume .. => k.goes_partitionResume (every_sub _) ..
  | .resumeRestoreComplete .. => k.goes_resumeRestoreComplete (every_sub _) ..
  | .instanceSet .. => k.goes_instanceSet (every_sub _) ..
  | .instanceSetComplete .. => k.goes_instanceSetComplete (every_sub _) ..
  | .adapterLoad .. => k.goes_adapterLoad (every_sub _) ..
  | .adapterLoadComplete .. => k.goes_adapterLoadComplete (every_sub _) ..
  | .adapterUnload .. => k.goes_adapterUnload (every_sub _) ..
  | .tenantBudget .. => k.goes_tenantBudget (every_sub _) ..
  | .partitionTenants .. => k.goes_partitionTenants (every_sub _) ..
  | .tenantRelease .. => k.goes_tenantRelease (every_sub _) ..
  | .weightRefetchTimeout .. => k.goes_weightRefetchTimeout (every_sub _) ..
  | .t1TrainingComplete .. => k.goes_t1TrainingComplete (every_sub _) ..
  | .t1Tracking .. => k.goes_t1Tracking (every_sub _) ..
  | .t1TempRead .. => k.goes_t1TempRead (every_sub _) ..
  | .patrolScrub .. => k.goes_patrolScrub (every_sub _) ..
  | .tlbInvalidate .. => k.goes_tlbInvalidate (every_sub _) ..
  | .regionMove .. => k.goes_regionMove (every_sub _) ..
  | .regionMovePageComplete .. => k.goes_regionMovePageComplete (every_sub _) ..
  | .codecBlockComplete .. => k.goes_codecBlockComplete (every_sub _) ..
  | .codecReread .. => k.goes_codecReread (every_sub _) ..
  | .flashFormat .. => k.goes_flashFormat (every_sub _) ..
  | .flashExtentCreate .. => k.goes_flashExtentCreate (every_sub _) ..
  | .flashExtentDelete .. => k.goes_flashExtentDelete (every_sub _) ..
  | .flashWrite .. => k.goes_flashWrite (every_sub _) ..
  | .flashRead .. => k.goes_flashRead (every_sub _) ..
  | .flashDiscard .. => k.goes_flashDiscard (every_sub _) ..
  | .flashHealth .. => k.goes_flashHealth (every_sub _) ..
  | .unitProgramComplete .. => k.goes_unitProgramComplete (every_sub _) ..
  | .programFailure .. => k.goes_programFailure (every_sub _) ..
  | .journalCommit .. => k.goes_journalCommit (every_sub _) ..
  | .journalDurable .. => k.goes_journalDurable (every_sub _) ..
  | .mapCheckpoint .. => k.goes_mapCheckpoint (every_sub _) ..
  | .codewordDecode pua decoder bits how verify => k.goes_codewordDecode (every_sub _) pua decoder bits how verify
  | .blockVerify .. => k.goes_blockVerify (every_sub _) ..
  | .gcStart .. => k.goes_gcStart (every_sub _) ..
  | .sourceErase .. => k.goes_sourceErase (every_sub _) ..
  | .eraseComplete .. => k.goes_eraseComplete (every_sub _) ..
  | .nandTempRead .. => k.goes_nandTempRead (every_sub _) ..
  | .ftlRecoveryComplete .. => k.goes_ftlRecoveryComplete (every_sub _) ..
  | .pfailAssert .. => k.goes_pfailAssert (every_sub _) ..
  | .pfailRelease .. => k.goes_pfailRelease (every_sub _) ..
  | .pfailHoldoffEnd .. => k.goes_pfailHoldoffEnd (every_sub _) ..
  | .pfailStuck .. => k.goes_pfailStuck (every_sub _) ..
  | .pfailRearm .. => k.goes_pfailRearm (every_sub _) ..
  | .thermAssert .. => k.goes_thermAssert (every_sub _) ..
  | .thermRelease .. => k.goes_thermRelease (every_sub _) ..
  | .inputGlitch .. => k.goes_inputGlitch (every_sub _) ..
  | .portTrained .. => k.goes_portTrained (every_sub _) ..
  | .portTrainingTimeout .. => k.goes_portTrainingTimeout (every_sub _) ..
  | .portRetrain .. => k.goes_portRetrain (every_sub _) ..
  | .laneLoss .. => k.goes_laneLoss (every_sub _) ..
  | .ctrlFlitTimeout .. => k.goes_ctrlFlitTimeout (every_sub _) ..
  | .dataFlitReceive .. => k.goes_dataFlitReceive (every_sub _) ..
  | .ctrlFlitReceive .. => k.goes_ctrlFlitReceive (every_sub _) ..
  | .packetRoute .. => k.goes_packetRoute (every_sub _) ..
  | .linkStateSend .. => k.goes_linkStateSend (every_sub _) ..
  | .linkState .. => k.goes_linkState (every_sub _) ..
  | .linkStateStale .. => k.goes_linkStateStale (every_sub _) ..
  | .probePacket .. => k.goes_probePacket (every_sub _) ..
  | .probePacketAns .. => k.goes_probePacketAns (every_sub _) ..
  | .probeTimeout .. => k.goes_probeTimeout (every_sub _) ..
  | .deadNotice .. => k.goes_deadNotice (every_sub _) ..
  | .portControl .. => k.goes_portControl (every_sub _) ..
  | .portDrainComplete .. => k.goes_portDrainComplete (every_sub _) ..
  | .portDrainTimeout .. => k.goes_portDrainTimeout (every_sub _) ..
  | .gatewayFrameReceive .. => k.goes_gatewayFrameReceive (every_sub _) ..
  | .openPkt .. => k.goes_openPkt (every_sub _) ..
  | .openAck .. => k.goes_openAck (every_sub _) ..
  | .closePkt .. => k.goes_closePkt (every_sub _) ..
  | .closeAck .. => k.goes_closeAck (every_sub _) ..
  | .closeTimeout .. => k.goes_closeTimeout (every_sub _) ..
  | .connectionIdle .. => k.goes_connectionIdle (every_sub _) ..
  | .ack .. => k.goes_ack (every_sub _) ..
  | .ackDelayTimer .. => k.goes_ackDelayTimer (every_sub _) ..
  | .nak .. => k.goes_nak (every_sub _) ..
  | .notReadyRetry .. => k.goes_notReadyRetry (every_sub _) ..
  | .retransmitTimeout .. => k.goes_retransmitTimeout (every_sub _) ..
  | .put .. => k.goes_put (every_sub _) ..
  | .get .. => k.goes_get (every_sub _) ..
  | .getData .. => k.goes_getData (every_sub _) ..
  | .store .. => k.goes_store (every_sub _) ..
  | .load .. => k.goes_load (every_sub _) ..
  | .loadData .. => k.goes_loadData (every_sub _) ..
  | .atomic .. => k.goes_atomic (every_sub _) ..
  | .atomicData .. => k.goes_atomicData (every_sub _) ..
  | .combined .. => k.goes_combined (every_sub _) ..
  | .combinedData .. => k.goes_combinedData (every_sub _) ..
  | .combineHoldExpiry .. => k.goes_combineHoldExpiry (every_sub _) ..
  | .query .. => k.goes_query (every_sub _) ..
  | .queryData .. => k.goes_queryData (every_sub _) ..
  | .resultHoldExpiry .. => k.goes_resultHoldExpiry (every_sub _) ..
  | .reduce .. => k.goes_reduce (every_sub _) ..
  | .complete .. => k.goes_complete (every_sub _) ..
  | .command .. => k.goes_command (every_sub _) ..
  | .xqEntry .. => k.goes_xqEntry (every_sub _) ..
  | .xqCompletion .. => k.goes_xqCompletion (every_sub _) ..
  | .regionRegister .. => k.goes_regionRegister (every_sub _) ..
  | .regionRevoke .. => k.goes_regionRevoke (every_sub _) ..
  | .regionRevokeComplete .. => k.goes_regionRevokeComplete (every_sub _) ..
  | .revokeAbandonTimeout .. => k.goes_revokeAbandonTimeout (every_sub _) ..
  | .xqCreate .. => k.goes_xqCreate (every_sub _) ..
  | .xqDestroy .. => k.goes_xqDestroy (every_sub _) ..
  | .connQuery .. => k.goes_connQuery (every_sub _) ..
  | .atomicQuery .. => k.goes_atomicQuery (every_sub _) ..
  | .collectorCreate .. => k.goes_collectorCreate (every_sub _) ..
  | .collectiveCreate .. => k.goes_collectiveCreate (every_sub _) ..
  | .groupDestroy .. => k.goes_groupDestroy (every_sub _) ..
  | .windowBadLength .. => k.goes_windowBadLength (every_sub _) ..
  | .nop .. => k.goes_nop (every_sub _) ..
  | .deviceQuery .. => k.goes_deviceQuery (every_sub _) ..
  | .ringCreate .. => k.goes_ringCreate (every_sub _) ..
  | .ringDestroy .. => k.goes_ringDestroy (every_sub _) ..
  | .ringSpacePoll .. => k.goes_ringSpacePoll (every_sub _) ..
  | .msixDelayExpiry .. => k.goes_msixDelayExpiry (every_sub _) ..
  | .remoteCommandTimeout .. => k.goes_remoteCommandTimeout (every_sub _) ..
  | .blotterMessage .. => k.goes_blotterMessage (every_sub _) ..
  | .faultnPulseEnd .. => k.goes_faultnPulseEnd (every_sub _) ..
  | .entryAgeClose .. => k.goes_entryAgeClose (every_sub _) ..
  | .faultAck .. => k.goes_faultAck (every_sub _) ..
  | .flrVf .. => k.goes_flrVf (every_sub _) ..
  | .flrPf0 .. => k.goes_flrPf0 (every_sub _) ..
  | .flrDrainComplete .. => k.goes_flrDrainComplete (every_sub _) ..
  | .flrSwapTimeout .. => k.goes_flrSwapTimeout (every_sub _) ..
  | .vfEnable .. => k.goes_vfEnable (every_sub _) ..
  | .bar4Access .. => k.goes_bar4Access (every_sub _) ..
  | .coldReset .. => k.goes_coldReset (every_sub _) ..
  | .warmReset .. => k.goes_warmReset (every_sub _) ..
  | .boot .. => k.goes_boot (every_sub _) ..
  | .spdmRequest .. => k.goes_spdmRequest (every_sub _) ..
  | .pldmRequest .. => k.goes_pldmRequest (every_sub _) ..
  | .debugUnlockToken .. => k.goes_debugUnlockToken (every_sub _) ..
  | .identityGet .. => k.goes_identityGet (every_sub _) ..
  | .tenantKeySet .. => k.goes_tenantKeySet (every_sub _) ..
  | .fwStage .. => k.goes_fwStage (every_sub _) ..
  | .fwStageComplete .. => k.goes_fwStageComplete (every_sub _) ..
  | .fwActivate .. => k.goes_fwActivate (every_sub _) ..
  | .liveActivationComplete .. => k.goes_liveActivationComplete (every_sub _) ..
  | .deviceShutdown .. => k.goes_deviceShutdown (every_sub _) ..
  | .shutdownDeadline .. => k.goes_shutdownDeadline (every_sub _) ..
  | .throttleEvaluate .. => k.goes_throttleEvaluate (every_sub _) ..
  | .avsWrite .. => k.goes_avsWrite (every_sub _) ..
  | .pmbusPoll .. => k.goes_pmbusPoll (every_sub _) ..
  | .flitBoundary .. => k.goes_flitBoundary (every_sub _) ..
  | .policerLevelCovers .. => k.goes_policerLevelCovers (every_sub _) ..
  | .harnessWindowAccess .. => k.goes_harnessWindowAccess (every_sub _) ..
  | .t1RetrainComplete .. => k.goes_t1RetrainComplete (every_sub _) ..
  | .packetCheckMismatch .. => k.goes_packetCheckMismatch (every_sub _) ..
  | .undefinedOpcode .. => k.goes_undefinedOpcode (every_sub _) ..
  | .mctpControl .. => k.goes_mctpControl (every_sub _) ..
  | .shardPlanReceive part owner stroke instrs => k.goes_shardPlanReceive (every_sub _) part owner stroke instrs
  | .ringQueryReceive .. => k.goes_ringQueryReceive (every_sub _) ..

theorem exec_eq_next (i : Instr) (s : State) : ∃ t, exec i s = .next t ∧ s.Keeps Group.every t := by
  have goes := (State.Keeps.refl s Group.every).goes_exec i
  cases e : exec i s with
  | next t => exact ⟨t, rfl, by rwa [e] at goes⟩
  | _ => rw [e] at goes; exact goes.elim

theorem State.Keeps.pending {s t : State} {l : List Group} (k : s.Keeps l t) : t.pending = s.pending := by
  obtain ⟨-, -, -, -, -, -, -, -, -, -, -, -, -, -, -, -, -, -, -, queue⟩ := k.1
  exact queue

/-- Settles O60: every command answers a next state and leaves the queue as it is. -/
theorem stepsServeInOrder : Obligations.StepsServeInOrder := by
  intro s
  unfold step
  cases e : s.pending with
  | nil => exact ⟨s, rfl, e⟩
  | cons c rest =>
    obtain ⟨t, next, keeps⟩ := exec_eq_next c { s with pending := rest }
    exact ⟨t, next, keeps.pending⟩

/-- Settles O59: every command keeps the device safe, operation by operation. -/
theorem stepKeepsSafe : Obligations.StepKeepsSafe := by
  intro s t safe next
  unfold step at next
  cases e : s.pending with
  | nil => rw [e] at next; cases next; exact safe
  | cons c rest =>
    rw [e] at next
    obtain ⟨u, answers, keeps⟩ := exec_eq_next c { s with pending := rest }
    cases answers.symm.trans next
    exact keeps.2 safe

end Sys2Proof.Machine
end

section
/-!
PROOFS. What `Only` and `Keeps` say of one group of the state.
-/
namespace Sys2Proof.Machine

theorem State.Only.bar {s t : State} {l : List Group} (h : s.Only l t) (n : Group.bar ∉ l := by decide) : t.bar = s.bar := by
  obtain ⟨c, -⟩ := h
  exact c.resolve_left n

theorem State.Only.board {s t : State} {l : List Group} (h : s.Only l t) (n : Group.board ∉ l := by decide) : t.board = s.board := by
  obtain ⟨-, c, -⟩ := h
  exact c.resolve_left n

theorem State.Only.stk {s t : State} {l : List Group} (h : s.Only l t) (n : Group.stk ∉ l := by decide) : t.stk = s.stk := by
  obtain ⟨-, -, c, -⟩ := h
  exact c.resolve_left n

theorem State.Only.sat {s t : State} {l : List Group} (h : s.Only l t) (n : Group.sat ∉ l := by decide) : t.sat = s.sat := by
  obtain ⟨-, -, -, c, -⟩ := h
  exact c.resolve_left n

theorem State.Only.kva {s t : State} {l : List Group} (h : s.Only l t) (n : Group.kva ∉ l := by decide) : t.kva = s.kva := by
  obtain ⟨-, -, -, -, c, -⟩ := h
  exact c.resolve_left n

theorem State.Only.cores {s t : State} {l : List Group} (h : s.Only l t) (n : Group.cores ∉ l := by decide) : t.cores = s.cores := by
  obtain ⟨-, -, -, -, -, c, -⟩ := h
  exact c.resolve_left n

theorem State.Only.pln {s t : State} {l : List Group} (h : s.Only l t) (n : Group.pln ∉ l := by decide) : t.pln = s.pln := by
  obtain ⟨-, -, -, -, -, -, c, -⟩ := h
  exact c.resolve_left n

theorem State.Only.memory {s t : State} {l : List Group} (h : s.Only l t) (n : Group.memory ∉ l := by decide) : t.memory = s.memory := by
  obtain ⟨-, -, -, -, -, -, -, c, -⟩ := h
  exact c.resolve_left n

theorem State.Only.fls {s t : State} {l : List Group} (h : s.Only l t) (n : Group.fls ∉ l := by decide) : t.fls = s.fls := by
  obtain ⟨-, -, -, -, -, -, -, -, c, -⟩ := h
  exact c.resolve_left n

theorem State.Only.lnk {s t : State} {l : List Group} (h : s.Only l t) (n : Group.lnk ∉ l := by decide) : t.lnk = s.lnk := by
  obtain ⟨-, -, -, -, -, -, -, -, -, c, -⟩ := h
  exact c.resolve_left n

theorem State.Only.xpt {s t : State} {l : List Group} (h : s.Only l t) (n : Group.xpt ∉ l := by decide) : t.xpt = s.xpt := by
  obtain ⟨-, -, -, -, -, -, -, -, -, -, c, -⟩ := h
  exact c.resolve_left n

theorem State.Only.shp {s t : State} {l : List Group} (h : s.Only l t) (n : Group.shp ∉ l := by decide) : t.shp = s.shp := by
  obtain ⟨-, -, -, -, -, -, -, -, -, -, -, c, -⟩ := h
  exact c.resolve_left n

theorem State.Only.cmd {s t : State} {l : List Group} (h : s.Only l t) (n : Group.cmd ∉ l := by decide) : t.cmd = s.cmd := by
  obtain ⟨-, -, -, -, -, -, -, -, -, -, -, -, c, -⟩ := h
  exact c.resolve_left n

theorem State.Only.blt {s t : State} {l : List Group} (h : s.Only l t) (n : Group.blt ∉ l := by decide) : t.blt = s.blt := by
  obtain ⟨-, -, -, -, -, -, -, -, -, -, -, -, -, c, -⟩ := h
  exact c.resolve_left n

theorem State.Only.sec {s t : State} {l : List Group} (h : s.Only l t) (n : Group.sec ∉ l := by decide) : t.sec = s.sec := by
  obtain ⟨-, -, -, -, -, -, -, -, -, -, -, -, -, -, c, -⟩ := h
  exact c.resolve_left n

theorem State.Only.host {s t : State} {l : List Group} (h : s.Only l t) (n : Group.host ∉ l := by decide) : t.host = s.host := by
  obtain ⟨-, -, -, -, -, -, -, -, -, -, -, -, -, -, -, c, -⟩ := h
  exact c.resolve_left n

theorem State.Only.pwr {s t : State} {l : List Group} (h : s.Only l t) (n : Group.pwr ∉ l := by decide) : t.pwr = s.pwr := by
  obtain ⟨-, -, -, -, -, -, -, -, -, -, -, -, -, -, -, -, c, -⟩ := h
  exact c.resolve_left n

theorem State.Only.out {s t : State} {l : List Group} (h : s.Only l t) (n : Group.out ∉ l := by decide) : t.out = s.out := by
  obtain ⟨-, -, -, -, -, -, -, -, -, -, -, -, -, -, -, -, -, c, -⟩ := h
  exact c.resolve_left n

theorem State.Only.freeCtr {s t : State} {l : List Group} (h : s.Only l t) (n : Group.freeCtr ∉ l := by decide) : t.freeCtr = s.freeCtr := by
  obtain ⟨-, -, -, -, -, -, -, -, -, -, -, -, -, -, -, -, -, -, c, -⟩ := h
  exact c.resolve_left n

theorem State.Only.pending {s t : State} {l : List Group} (h : s.Only l t) : t.pending = s.pending := by
  obtain ⟨-, -, -, -, -, -, -, -, -, -, -, -, -, -, -, -, -, -, -, queue⟩ := h
  exact queue

theorem State.Keeps.only {s t : State} {l : List Group} (h : s.Keeps l t) : s.Only l t := h.1

theorem State.keeps_self (s : State) (l : List Group) : s.Keeps l s := .refl s l

theorem sub_self (l : List Group) : l ⊆ l := fun _ mem => mem

end Sys2Proof.Machine
end

section
/-!
PROOFS. Enabling a block (R511): what serving one block, and bringing the others into service behind it, leaves of it.
-/
namespace Sys2Proof.Machine

/-! ### What serving another block leaves of the block at `off` -/

/-- From `s` to `t` other blocks than the one at `off` may have come into service, with notes of what failed. -/
structure State.Others (off : Nat) (s t : State) : Prop where
  reg : t.reg off = s.reg off
  stk : t.stk = s.stk
  sec : t.sec = s.sec
  rings : t.cmd.rings = s.cmd.rings
  seq : t.blt.seq = s.blt.seq
  carves : s.memory.carves ⊆ t.memory.carves
  notes : ∀ n, agetD s.blt.outbox n [] ≠ [] → agetD t.blt.outbox n [] ≠ []
  training : s.memory.training = true → t.memory.training = true
  sat : off = Reg.satCtrl → t.sat = s.sat
  kva : off = Reg.kvaCtrl → t.kva = s.kva
  xpt : off = Reg.xptCtrl → t.xpt = s.xpt
  pln : off = Reg.plnCtrl → t.pln = s.pln
  fls : off = Reg.flsCtrl → t.fls = s.fls
  lnk : off = Reg.lnkCtrl → t.lnk.ready = s.lnk.ready
  windows : off = Reg.cmdCtrl → t.cmd.windows = s.cmd.windows

theorem State.Others.refl (off : Nat) (s : State) : State.Others off s s :=
  ⟨rfl, rfl, rfl, rfl, rfl, List.Subset.refl _, fun _ => id, id, fun _ => rfl, fun _ => rfl, fun _ => rfl, fun _ => rfl, fun _ => rfl, fun _ => rfl, fun _ => rfl⟩

theorem State.Others.trans {off : Nat} {s t u : State} (h : State.Others off s t) (k : State.Others off t u) : State.Others off s u where
  reg := k.reg.trans h.reg
  stk := k.stk.trans h.stk
  sec := k.sec.trans h.sec
  rings := k.rings.trans h.rings
  seq := k.seq.trans h.seq
  carves := List.Subset.trans h.carves k.carves
  notes n ne := k.notes n (h.notes n ne)
  training on := k.training (h.training on)
  sat e := (k.sat e).trans (h.sat e)
  kva e := (k.kva e).trans (h.kva e)
  xpt e := (k.xpt e).trans (h.xpt e)
  pln e := (k.pln e).trans (h.pln e)
  fls e := (k.fls e).trans (h.fls e)
  lnk e := (k.lnk e).trans (h.lnk e)
  windows e := (k.windows e).trans (h.windows e)

theorem State.Others.foldl {α : Type} {off : Nat} (xs : List α) (f : State → α → State) (step : ∀ t x, State.Others off t (f t x)) (s : State) :
    State.Others off s (xs.foldl f s) := by
  induction xs generalizing s with
  | nil => exact .refl off s
  | cons x xs ih => exact (step s x).trans (ih _)

theorem State.Others.ite {off : Nat} {s t u : State} {c : Prop} [Decidable c] (h : State.Others off s t) (k : State.Others off s u) :
    State.Others off s (if c then t else u) := by
  split
  · exact h
  · exact k

theorem State.post_seq (s : State) (f : FaultSpec) : (s.post f).blt.seq = s.blt.seq := by
  unfold State.post
  dsimp only
  split <;> rfl

theorem agetD_eq_get {α : Type} (t : Assoc α) (k : Nat) (d : α) : agetD t k d = (afind t k).getD d := by
  unfold agetD
  cases afind t k <;> rfl

theorem State.post_outbox (s : State) (f : FaultSpec) (n : Nat) (h : agetD s.blt.outbox n [] ≠ []) : agetD (s.post f).blt.outbox n [] ≠ [] := by
  unfold State.post
  dsimp only
  split
  · exact h
  · by_cases e : n = f.source.toNat
    · subst e
      simp [agetD_eq_get]
    · rw [agetD_eq_get] at h ⊢
      rwa [afind_aput_ne _ _ e]

theorem State.post_first (s : State) (f : FaultSpec) (h : agetD s.blt.outbox f.source.toNat [] = []) : agetD (s.post f).blt.outbox f.source.toNat [] ≠ [] := by
  simp [State.post, h, agetD_eq_get]

theorem State.others_post {off : Nat} (s : State) (f : FaultSpec) (ne : off ≠ Reg.bltCntDrop) : State.Others off s (s.post f) where
  reg := s.reg_post f ne
  stk := by simp
  sec := by simp
  rings := by simp
  seq := s.post_seq f
  carves := by simp
  notes := s.post_outbox f
  training := by simp
  sat := by simp
  kva := by simp
  xpt := by simp
  pln := by simp
  fls := by simp
  lnk := by simp
  windows := by simp

theorem State.others_note {off : Nat} (s : State) (a b c : Nat) (ne : off ≠ Reg.bltCntDrop) : State.Others off s (s.note a b c) := s.others_post _ ne

theorem State.others_setFld {off o : Nat} (s : State) (hi lo v : Nat) (ne : off ≠ o) : State.Others off s (s.setFld o hi lo v) :=
  { State.Others.refl off s with reg := s.reg_setFld_ne _ _ _ ne }

theorem State.others_carve {off owner size b : Nat} {s t : State} (e : s.carve owner size = some (b, t)) : State.Others off s t := by
  unfold State.carve at e
  split at e
  · split at e
    · cases e
    · cases e
      exact { State.Others.refl off s with carves := List.subset_append_left _ _ }
  · cases e

theorem State.others_tryTrain {off : Nat} (s : State) (p : Nat) (ne : off ≠ Reg.bltCntDrop) : State.Others off s (s.tryTrain p) := by
  have bonds (t : State) : State.Others off t (t.bond p true) := .ite { State.Others.refl off t with } (.refl off t)
  have trains (f : Port → Port) : State.Others off s ((s.modPort p f).bond p true) :=
    State.Others.trans (t := s.modPort p f) { State.Others.refl off s with } (bonds _)
  unfold State.tryTrain
  refine .ite (.refl off s) (.ite (s.others_note _ _ _ ne) ?_)
  split
  · exact .ite (trains _) (.refl off s)
  · exact .ite (trains _) (.refl off s)

theorem State.others_flsPopulate {off : Nat} (s : State) (ne : off ≠ Reg.bltCntDrop) (apart : off ≠ Reg.flsCtrl) : State.Others off s s.flsPopulate := by
  unfold State.flsPopulate
  refine State.Others.trans ?_ (State.Others.foldl _ _ (fun t q => ?_) _)
  · exact { State.Others.refl off s with fls := fun e => absurd e apart }
  · have one := State.Others.ite (c := q.1.bad = 0) (.refl off t) (t.others_note (0x300 + q.2) 0x204 (64 * q.2) ne)
    exact .ite (one.trans (State.others_note _ _ _ _ ne)) one

theorem State.others_flsEnable {off : Nat} (s : State) (ne : off ≠ Reg.bltCntDrop) (apart : off ≠ Reg.flsCtrl) : State.Others off s s.flsEnable := by
  have k1 := s.others_flsPopulate ne apart
  unfold State.flsEnable
  dsimp only
  refine .ite k1 ?_
  split
  · exact k1.trans ((State.others_setFld _ _ _ _ apart).trans (State.others_note _ _ _ _ ne))
  · next e =>
    have k2 := k1.trans (State.others_carve e)
    exact .ite { k2 with fls := fun e => absurd e apart } { k2 with fls := fun e => absurd e apart }

theorem State.others_carveOr {off ctrl source owner size : Nat} (s : State) (f : Nat → State → State) (ne : off ≠ Reg.bltCntDrop) (apart : off ≠ ctrl)
    (k : ∀ b t, State.Others off t (f b t)) : State.Others off s (s.carveOr ctrl source owner size f) := by
  unfold State.carveOr
  split
  · next e => exact (State.others_carve e).trans (k _ _)
  · exact (s.others_setFld _ _ _ apart).trans (State.others_note _ _ _ _ ne)

theorem State.others_serveBlock {off o : Nat} (s : State) (ne : off ≠ Reg.bltCntDrop) (apart : off ≠ o) : State.Others off s (s.serveBlock o) := by
  unfold State.serveBlock
  split
  · next e => exact s.others_carveOr _ ne apart fun b t => { State.Others.refl off t with sat := fun e' => absurd (e'.trans e.symm) apart }
  split
  · next e => exact s.others_carveOr _ ne apart fun b t => { State.Others.refl off t with kva := fun e' => absurd (e'.trans e.symm) apart }
  split
  · exact s.others_carveOr _ ne apart fun b t => .refl off t
  split
  · next e => exact s.others_carveOr _ ne apart fun b t => { State.Others.refl off t with xpt := fun e' => absurd (e'.trans e.symm) apart }
  split
  · exact { State.Others.refl off s with training := fun _ => rfl }
  split
  · next e => exact s.others_flsEnable ne fun e' => apart (e'.trans e.symm)
  split
  · next e => exact { State.Others.refl off s with pln := fun e' => absurd (e'.trans e.symm) apart }
  split
  · next e =>
    refine State.Others.trans ?_ (State.Others.foldl _ _ (fun t p => t.others_tryTrain p ne) _)
    exact { State.Others.refl off s with lnk := fun e' => absurd (e'.trans e.symm) apart }
  split
  · next e =>
    refine State.Others.foldl _ _ (fun t w => ?_) _
    exact { State.Others.refl off t with windows := fun e' => absurd (e'.trans e.symm) apart }
  · exact .refl off s

/-! ### A block that is settled stays as it is while others come into service -/

theorem State.modWindow_of_eq (s : State) (w : Nat) (f : Window → Window) (h : f (s.window w) = s.window w) : s.modWindow w f = s := by
  have same : s.cmd.windows.modify w f = s.cmd.windows := by
    refine List.ext_getElem? fun i => ?_
    rw [List.getElem?_modify]
    cases e : s.cmd.windows[i]? with
    | none => rfl
    | some x =>
      by_cases hit : w = i
      · subst hit
        have at_w : s.window w = x := by simp [State.window, e]
        rw [at_w] at h
        simp [h]
      · simp [hit]
  rw [State.modWindow, same]

/-- No window of PF0 is DISABLED, so that serving them again changes none. -/
def State.WindowsServe (s : State) : Prop := ∀ w < 16, (s.window w).state ≠ .disabled

theorem State.cmdServe_of_serve {s : State} (h : s.WindowsServe) : s.cmdServe = s := by
  have gen (l : List Nat) (below : ∀ w ∈ l, w < 16) : l.foldl (fun (a : State) w => a.modWindow w fun x =>
      if x.state = .disabled then { x with state := .enabled, cons := 0, errOffset := 0, errCode := 0 } else x) s = s := by
    induction l with
    | nil => rfl
    | cons w l ih =>
      have idle := h w (below w (by simp))
      rw [List.foldl_cons, s.modWindow_of_eq w _ (by simp [idle])]
      exact ih fun x mem => below x (by simp [mem])
  exact gen _ fun w mem => List.mem_range.1 mem

/-- The block at `off` needs nothing of `bringUp`: it is off, in service, or the command windows serve. -/
def State.Settled (off : Nat) (s : State) : Prop :=
  s.flag off 0 = false ∨ off = Reg.shpCtrl ∨ (off = Reg.cmdCtrl ∧ s.WindowsServe) ∨ (off ≠ Reg.cdcCtrl ∧ off ≠ Reg.memCtrl ∧ s.started off = true) ∨
    (off = Reg.cdcCtrl ∧ s.cdcReady = true) ∨ (off = Reg.memCtrl ∧ s.memory.training = true)

theorem State.Others.cdcReady {off : Nat} {s t : State} (h : State.Others off s t) (ready : s.cdcReady = true) : t.cdcReady = true := by
  unfold State.cdcReady at *
  rw [List.any_eq_true] at ready ⊢
  obtain ⟨c, mem, owner⟩ := ready
  exact ⟨c, h.carves mem, owner⟩

theorem State.Others.started {off : Nat} {s t : State} (h : State.Others off s t) (cdc : off ≠ Reg.cdcCtrl) (mem : off ≠ Reg.memCtrl)
    (on : s.started off = true) : t.started off = true := by
  unfold State.started at *
  simp only [if_neg cdc, if_neg mem] at on ⊢
  split at on
  · next e => rwa [if_pos e, h.sat e]
  split at on
  · next n e => rwa [if_neg n, if_pos e, h.kva e]
  split at on
  · next n1 n2 e => rwa [if_neg n1, if_neg n2, if_pos e, h.xpt e]
  split at on
  · next n1 n2 n3 e => rwa [if_neg n1, if_neg n2, if_neg n3, if_pos e, h.fls e]
  split at on
  · next n1 n2 n3 n4 e => rwa [if_neg n1, if_neg n2, if_neg n3, if_neg n4, if_pos e, h.pln e]
  split at on
  · next n1 n2 n3 n4 n5 e => rwa [if_neg n1, if_neg n2, if_neg n3, if_neg n4, if_neg n5, if_pos e, h.lnk e]
  · cases on

theorem State.started_cdc (s : State) : s.started Reg.cdcCtrl = s.cdcReady := by
  rw [State.started, if_neg (by decide), if_neg (by decide), if_pos rfl]

theorem State.started_mem (s : State) : s.started Reg.memCtrl = (s.memory.training || s.memory.t0Ready) := by
  rw [State.started, if_neg (by decide), if_neg (by decide), if_neg (by decide), if_neg (by decide), if_pos rfl]

theorem State.serveBlock_cmd (s : State) : s.serveBlock Reg.cmdCtrl = s.cmdServe := by
  rw [State.serveBlock, if_neg (by decide), if_neg (by decide), if_neg (by decide), if_neg (by decide), if_neg (by decide), if_neg (by decide),
    if_neg (by decide), if_neg (by decide), if_pos rfl]

theorem State.Others.settled {off : Nat} {s t : State} (h : State.Others off s t) (k : s.Settled off) : t.Settled off := by
  rcases k with clear | shp | ⟨e, serve⟩ | ⟨cdc, mem, on⟩ | ⟨e, ready⟩ | ⟨e, on⟩
  · exact .inl ((State.flag_congr 0 h.reg).trans clear)
  · exact .inr (.inl shp)
  · refine .inr (.inr (.inl ⟨e, ?_⟩))
    unfold State.WindowsServe State.window
    rwa [h.windows e]
  · exact .inr (.inr (.inr (.inl ⟨cdc, mem, h.started cdc mem on⟩)))
  · exact .inr (.inr (.inr (.inr (.inl ⟨e, h.cdcReady ready⟩))))
  · exact .inr (.inr (.inr (.inr (.inr ⟨e, h.training on⟩))))

/-- One step of `bringUp` leaves a settled block as it is. -/
theorem State.Settled.step {off : Nat} {s : State} (k : s.Settled off) (ne : off ≠ Reg.bltCntDrop) {o : Nat} (mem : o ∈ blockOrder) :
    State.Others off s (if s.flag o 0 && !s.started o && s.enableOk o then s.serveBlock o else s) := by
  split
  · next go =>
    by_cases e : off = o
    · subst e
      simp only [Bool.and_eq_true, Bool.not_eq_true'] at go
      obtain ⟨⟨on, idle⟩, -⟩ := go
      rcases k with clear | shp | ⟨e, serve⟩ | ⟨-, -, up⟩ | ⟨e, ready⟩ | ⟨e, up⟩
      · rw [clear] at on; cases on
      · rw [shp] at mem; exact absurd mem (by decide)
      · rw [e, s.serveBlock_cmd, State.cmdServe_of_serve serve]
        exact .refl _ s
      · rw [up] at idle; cases idle
      · rw [e, s.started_cdc, ready] at idle; cases idle
      · rw [e, s.started_mem, up] at idle; cases idle
    · exact s.others_serveBlock ne e
  · exact .refl off s

theorem State.Settled.bringUp {off : Nat} {s : State} (k : s.Settled off) (ne : off ≠ Reg.bltCntDrop) : State.Others off s s.bringUp := by
  have gen (l : List Nat) (sub : ∀ o ∈ l, o ∈ blockOrder) : ∀ t : State, State.Others off s t →
      State.Others off s (l.foldl (fun (a : State) o => if a.flag o 0 && !a.started o && a.enableOk o then a.serveBlock o else a) t) := by
    induction l with
    | nil => exact fun t h => h
    | cons o l ih => exact fun t h => ih (fun x mem => sub x (by simp [mem])) _ (h.trans ((h.settled k).step ne (sub o (by simp))))
  exact gen _ (fun _ mem => mem) s (.refl off s)

end Sys2Proof.Machine
end

section
/-!
PROOFS. The enables of the blocks (O5, O6): a write of a CTRL register that sets ENABLE and leaves its other fields.
-/
namespace Sys2Proof.Machine

/-! ### A write that sets ENABLE -/

/-- The field ENABLE (R511). -/
def enableFld : Fld := ⟨0, 0, .rwl, 0, .enable⟩

theorem bits_within {v w hi lo hi' lo' : Nat} (h : bits v hi lo = bits w hi lo) (low : lo ≤ lo') (high : hi' ≤ hi) : bits v hi' lo' = bits w hi' lo' := by
  refine Nat.eq_of_testBit_eq fun j => ?_
  have bit := congrArg (fun x => x.testBit (lo' - lo + j)) h
  simp only [testBit_bits] at bit ⊢
  by_cases inside : j < hi' + 1 - lo'
  · simp only [show lo' - lo + j < hi + 1 - lo by omega, decide_true, Bool.true_and, show lo + (lo' - lo + j) = lo' + j by omega] at bit
    simp [inside, bit]
  · simp [inside]

/-- The word that a write of one bit carries has that bit, and the other fields of the word given. -/
theorem bits_setBit_one (v i : Nat) : bits (setBits v i i 1) i i = 1 := by simp [bits_setBits_same]

theorem WAcc.field_same {a : WAcc} {off v : Nat} {f : Fld} (i : List Nat) (acc : f.acc = .rw) (same : bits v f.hi f.lo = a.s.fld off f.hi f.lo) :
    WAcc.field off i v a f = a := by
  simp [WAcc.field, acc, WAcc.store, same]

/-- A register apart from the device ID, the limits of partitions and the policers. -/
abbrev CtrlAlone (off : Nat) : Prop :=
  off ≠ Reg.glbDeviceId ∧ off ≠ Reg.plnPCfg 0 ∧ off ≠ Reg.plnPC0 0 ∧ (off < Reg.shpPolRate 0 0 ∨ Reg.shpPCfg 0 ≤ off)

theorem CtrlAlone.wholeDropped {off : Nat} (h : CtrlAlone off) (s : State) : s.wholeDropped off [] = false := by
  obtain ⟨id, cfg, c0, -⟩ := h
  rw [State.wholeDropped, if_neg id, if_neg (by simp only [List.headD_nil, cfg, c0, or_self, not_false_eq_true])]

theorem CtrlAlone.policerSettle {off : Nat} (h : CtrlAlone off) (s : State) : s.policerSettle off [] = s := by
  obtain ⟨-, -, -, range⟩ := h
  exact s.policerSettle_outside [] range

/-- A CTRL register whose last field is ENABLE. -/
structure CtrlReg (off : Nat) (r : RegDef) (fs : List Fld) : Prop where
  found : findReg off = some (r, [])
  fields : r.fields = fs ++ [enableFld]
  low : r.pairW = false
  high : findReg (off - 4) = none
  aligned : off % 4 = 0
  alone : CtrlAlone off

theorem CtrlReg.regWrite {off : Nat} {r : RegDef} {fs : List Fld} (c : CtrlReg off r fs) {s : State} {v : Nat}
    (others : ∀ f ∈ fs, WAcc.field off [] v ⟨s, false, false⟩ f = ⟨s, false, false⟩) (unlocked : s.flag (blockLock off) 0 = false)
    (clear : s.flag off 0 = false) (sets : bits v 0 0 = 1) :
    s.regWrite r off [] v = if s.enableOk off then (((s.setFld off 0 0 1).serveBlock off).bringUp).afterWrite off [] else (s.afterWrite off []).droppedNote off := by
  have kept : fs.foldl (WAcc.field off [] v) ⟨s, false, false⟩ = ⟨s, false, false⟩ := by
    have gen (l : List Fld) (sub : ∀ f ∈ l, f ∈ fs) : l.foldl (WAcc.field off [] v) ⟨s, false, false⟩ = ⟨s, false, false⟩ := by
      induction l with
      | nil => rfl
      | cons f l ih => rw [List.foldl_cons, others f (sub f (by simp))]; exact ih fun x mem => sub x (by simp [mem])
    exact gen fs fun _ mem => mem
  have zero : s.fld off 0 0 = 0 := State.fld_eq_zero clear
  have last : WAcc.field off [] v ⟨s, false, false⟩ enableFld = (⟨s, false, false⟩ : WAcc).enable off := by
    rw [WAcc.field_unlocked [] v rfl unlocked]
    simp [WAcc.store, enableFld, sets, zero]
  rw [State.regWrite, c.alone.wholeDropped, c.alone.policerSettle, c.fields, List.foldl_append, kept, List.foldl_cons, last, List.foldl_nil, WAcc.enable]
  cases s.enableOk off <;> simp [WAcc.drop]

/-- A write of ENABLE to a block whose other fields the word leaves: the block is served where its prerequisites hold, else the write is dropped (R511). -/
theorem CtrlReg.writeBit {off : Nat} {r : RegDef} {fs : List Fld} (c : CtrlReg off r fs) {s : State} {v : Word} (present : s.present = true)
    (run : s.sec.run ≠ .recovery)
    (others : ∀ f ∈ fs, WAcc.field off [] (setBits v.toNat 0 0 1 % 2 ^ 32) ⟨s, false, false⟩ f = ⟨s, false, false⟩)
    (unlocked : s.flag (blockLock off) 0 = false) (clear : s.flag off 0 = false) :
    s.writeBit off 0 v =
      if s.enableOk off then (((s.setFld off 0 0 1).serveBlock off).bringUp).afterWrite off [] else (s.afterWrite off []).droppedNote off := by
  rw [State.writeBit, State.barWrite_eq_regWrite _ present (State.bar0Serves_of_run _ run) c.aligned c.found c.low (by simp [c.high])]
  exact c.regWrite others unlocked clear (by rw [bits_mod_word _ _ (by omega), bits_setBit_one])

/-- The field of `v` above bit 0, in the word that a write of bit 0 carries. -/
theorem bits_written (v : Word) {hi lo : Nat} (above : 0 < lo) (word : hi ≤ 31) : bits (setBits v.toNat 0 0 1 % 2 ^ 32) hi lo = bits v.toNat hi lo := by
  rw [bits_mod_word _ _ word, bits_setBits_apart _ _ (.inr above) (Nat.le_refl 0)]

/-- Fields of a CTRL register within the bits that the word leaves. -/
theorem fields_left {off : Nat} {s : State} {v : Word} {hi lo : Nat} (same : bits v.toNat hi lo = s.fld off hi lo) (fs : List Fld)
    (shape : ∀ f ∈ fs, f.acc = .rw ∧ lo ≤ f.lo ∧ f.hi ≤ hi ∧ 0 < f.lo ∧ f.hi ≤ 31) :
    ∀ f ∈ fs, WAcc.field off [] (setBits v.toNat 0 0 1 % 2 ^ 32) ⟨s, false, false⟩ f = ⟨s, false, false⟩ := by
  intro f mem
  obtain ⟨acc, low, high, above, word⟩ := shape f mem
  refine WAcc.field_same [] acc ?_
  rw [bits_written v above word]
  exact bits_within same low high

theorem State.afterWrite_ctrl (s : State) {off : Nat} (h : CtrlAlone off) (src : off ≠ Reg.stkTimeSrc) (shp : off ≠ Reg.shpCtrl) : s.afterWrite off [] = s := by
  rw [State.afterWrite, if_neg (by simp [h.1]), if_neg src, if_neg (by simp [shp]), h.policerSettle]

/-- ENABLE as `setFld` sets it. -/
theorem State.flag_enabled (s : State) (off : Nat) : (s.setFld off 0 0 1).flag off 0 = true := by
  rw [State.flag_eq_fld, s.fld_setFld_same off (by omega) (by omega)]; rfl

theorem State.flag_disabled (s : State) (off : Nat) : (s.setFld off 0 0 0).flag off 0 = false := by
  rw [State.flag_eq_fld, s.fld_setFld_same off (by omega) (by omega)]; rfl

/-! ### The CTRL registers -/

theorem satCtrl_reg : CtrlReg Reg.satCtrl ⟨Reg.satCtrl, [], false, false, [⟨4, 2, .rw, 7, .notZero⟩, ⟨1, 1, .rw, 0, .plain⟩, enableFld]⟩
    [⟨4, 2, .rw, 7, .notZero⟩, ⟨1, 1, .rw, 0, .plain⟩] := ⟨by decide, rfl, rfl, by decide, by decide, by decide⟩

theorem kvaCtrl_reg : CtrlReg Reg.kvaCtrl ⟨Reg.kvaCtrl, [], false, false, [⟨1, 1, .rw, 0, .plain⟩, enableFld]⟩ [⟨1, 1, .rw, 0, .plain⟩] :=
  ⟨by decide, rfl, rfl, by decide, by decide, by decide⟩

theorem cdcCtrl_reg : CtrlReg Reg.cdcCtrl ⟨Reg.cdcCtrl, [], false, false, [⟨1, 1, .rw, 1, .plain⟩, enableFld]⟩ [⟨1, 1, .rw, 1, .plain⟩] :=
  ⟨by decide, rfl, rfl, by decide, by decide, by decide⟩

theorem xptCtrl_reg : CtrlReg Reg.xptCtrl ⟨Reg.xptCtrl, [], false, false, [⟨2, 2, .rw, 1, .plain⟩, ⟨1, 1, .rw, 1, .plain⟩, enableFld]⟩
    [⟨2, 2, .rw, 1, .plain⟩, ⟨1, 1, .rw, 1, .plain⟩] := ⟨by decide, rfl, rfl, by decide, by decide, by decide⟩

theorem memCtrl_reg : CtrlReg Reg.memCtrl ⟨Reg.memCtrl, [], false, false, [⟨2, 2, .rw, 0, .plain⟩, ⟨1, 1, .rw, 1, .plain⟩, enableFld]⟩
    [⟨2, 2, .rw, 0, .plain⟩, ⟨1, 1, .rw, 1, .plain⟩] := ⟨by decide, rfl, rfl, by decide, by decide, by decide⟩

theorem flsCtrl_reg : CtrlReg Reg.flsCtrl ⟨Reg.flsCtrl, [], false, false, [⟨2, 2, .rw, 0, .plain⟩, ⟨1, 1, .rw, 1, .plain⟩, enableFld]⟩
    [⟨2, 2, .rw, 0, .plain⟩, ⟨1, 1, .rw, 1, .plain⟩] := ⟨by decide, rfl, rfl, by decide, by decide, by decide⟩

theorem plnCtrl_reg : CtrlReg Reg.plnCtrl ⟨Reg.plnCtrl, [], false, false, [⟨1, 1, .rw, 0, .plain⟩, enableFld]⟩ [⟨1, 1, .rw, 0, .plain⟩] :=
  ⟨by decide, rfl, rfl, by decide, by decide, by decide⟩

theorem lnkCtrl_reg : CtrlReg Reg.lnkCtrl ⟨Reg.lnkCtrl, [], false, false, [⟨2, 2, .rw, 1, .plain⟩, ⟨1, 1, .rw, 1, .plain⟩, enableFld]⟩
    [⟨2, 2, .rw, 1, .plain⟩, ⟨1, 1, .rw, 1, .plain⟩] := ⟨by decide, rfl, rfl, by decide, by decide, by decide⟩

theorem shpCtrl_reg : CtrlReg Reg.shpCtrl ⟨Reg.shpCtrl, [], false, false, [⟨3, 3, .wo, 0, .plain⟩, ⟨2, 1, .rw, 0, .plain⟩, enableFld]⟩
    [⟨3, 3, .wo, 0, .plain⟩, ⟨2, 1, .rw, 0, .plain⟩] := ⟨by decide, rfl, rfl, by decide, by decide, by decide⟩

theorem cmdCtrl_reg : CtrlReg Reg.cmdCtrl ⟨Reg.cmdCtrl, [], false, false, [⟨23, 8, .rw, 100, .plain⟩, enableFld]⟩ [⟨23, 8, .rw, 100, .plain⟩] :=
  ⟨by decide, rfl, rfl, by decide, by decide, by decide⟩

end Sys2Proof.Machine
end

section
/-!
PROOFS. SAT_ENABLE, KVA_ENABLE, CDC_ENABLE and XPT_ENABLE (O5): the carve-out, and what stands while the other blocks come up.
-/
namespace Sys2Proof.Machine

/-- A device with one more carve-out of T1. -/
def State.carved (s : State) (owner base size : Nat) : State :=
  { s with memory := { s.memory with carves := s.memory.carves ++ [{ owner := owner, base := base, size := size }] } }

theorem State.carveOr_of_place {s : State} {owner size b : Nat} (ctrl source : Nat) (f : Nat → State → State) (ready : s.memory.t1Ready = true)
    (place : carvePlace s.memory.carves s.poolBytes size = some b) : s.carveOr ctrl source owner size f = f b (s.carved owner b size) := by
  simp [State.carveOr, State.carve, ready, place, State.carved]

theorem State.carveOr_of_full {s : State} {owner size : Nat} (ctrl source : Nat) (f : Nat → State → State)
    (place : carvePlace s.memory.carves s.poolBytes size = none) :
    s.carveOr ctrl source owner size f = (s.setFld ctrl 0 0 0).note source 0x003 size := by
  simp [State.carveOr, State.carve, place]

theorem State.serveBlock_sat (s : State) : s.serveBlock Reg.satCtrl =
    s.carveOr Reg.satCtrl 0x3C1 1 s.satBytes fun _ a => { a with sat := { a.sat with ready := true, joined := true } } := by
  rw [State.serveBlock, if_pos rfl]

theorem State.serveBlock_kva (s : State) : s.serveBlock Reg.kvaCtrl =
    s.carveOr Reg.kvaCtrl 0x3C2 2 s.kvaBytes fun b a => { a with kva := { a.kva with ready := true, base := b } } := by
  rw [State.serveBlock, if_neg (by decide), if_pos rfl]

theorem State.serveBlock_cdc (s : State) : s.serveBlock Reg.cdcCtrl = s.carveOr Reg.cdcCtrl 0x380 3 (64 * 2 ^ 20) fun _ a => a := by
  rw [State.serveBlock, if_neg (by decide), if_neg (by decide), if_pos rfl]

theorem State.serveBlock_xpt (s : State) : s.serveBlock Reg.xptCtrl =
    s.carveOr Reg.xptCtrl 0x280 4 s.xptBytes fun _ a => { a with xpt := { a.xpt with ready := true } } := by
  rw [State.serveBlock, if_neg (by decide), if_neg (by decide), if_neg (by decide), if_pos rfl]

/-- A register read is the same after another register's ENABLE is set. -/
theorem State.fld_enabled (s : State) {o off : Nat} (hi lo : Nat) (ne : o ≠ off) : (s.setFld off 0 0 1).fld o hi lo = s.fld o hi lo := by
  rw [State.fld, State.fld, s.reg_setFld_ne _ _ _ ne]

theorem State.poolBytes_enabled (s : State) {off : Nat} (ne : Reg.memDevpool ≠ off) : (s.setFld off 0 0 1).poolBytes = s.poolBytes := by
  rw [State.poolBytes, State.poolBytes, s.fld_enabled _ _ ne]

theorem State.mem_carved (s : State) (owner b size : Nat) : { owner := owner, base := b, size := size } ∈ (s.carved owner b size).memory.carves :=
  List.mem_append_right _ (List.mem_singleton_self _)

/-- ENABLE stays where the rest of what a block's serving does leaves the registers. -/
theorem State.Others.enabled {off : Nat} {s u t : State} (o : State.Others off u t) (regs : u.bar = (s.setFld off 0 0 1).bar) : t.flag off 0 = true := by
  rw [State.flag_congr 0 o.reg, State.flag_congr (s := s.setFld off 0 0 1) 0 (by rw [State.reg, State.reg, regs]), s.flag_enabled]

/-- What the carving enables have in common: `u` is the device with ENABLE set, the carve-out made and the block at `off` in service. -/
theorem State.Settled.carvedUp {off owner b size : Nat} {s u : State} (settled : u.Settled off) (ne : off ≠ Reg.bltCntDrop)
    (bar : u.bar = (s.setFld off 0 0 1).bar) (mem : u.memory = (s.carved owner b size).memory) (cmd : u.cmd = s.cmd) (stk : u.stk = s.stk) (sec : u.sec = s.sec) :
    State.Others off u u.bringUp ∧ u.bringUp.flag off 0 = true ∧ { owner := owner, base := b, size := size } ∈ u.bringUp.memory.carves ∧
      u.bringUp.cmd.rings = s.cmd.rings ∧ u.bringUp.stk = s.stk ∧ u.bringUp.sec = s.sec := by
  have o := settled.bringUp ne
  refine ⟨o, o.enabled bar, o.carves (by rw [mem]; exact s.mem_carved owner b size), o.rings.trans (by rw [cmd]), o.stk.trans stk, o.sec.trans sec⟩

/-- A block out of service that the word written enables, with its other fields as they were. -/
theorem CtrlReg.carves {off owner source size b : Nat} {r : RegDef} {fs : List Fld} (c : CtrlReg off r fs) {s : State} {v : Word} (present : s.present = true)
    (run : s.sec.run ≠ .recovery)
    (others : ∀ f ∈ fs, WAcc.field off [] (setBits v.toNat 0 0 1 % 2 ^ 32) ⟨s, false, false⟩ f = ⟨s, false, false⟩)
    (unlocked : s.flag (blockLock off) 0 = false) (clear : s.flag off 0 = false) (ok : s.enableOk off = true) (src : off ≠ Reg.stkTimeSrc) (shp : off ≠ Reg.shpCtrl)
    (f : Nat → State → State) (serves : (s.setFld off 0 0 1).serveBlock off = (s.setFld off 0 0 1).carveOr off source owner size f)
    (t1 : s.memory.t1Ready = true) (pool : Reg.memDevpool ≠ off) (place : carvePlace s.memory.carves s.poolBytes size = some b) :
    s.writeBit off 0 v = (f b ((s.setFld off 0 0 1).carved owner b size)).bringUp := by
  rw [c.writeBit present run others unlocked clear, if_pos ok, serves,
    State.carveOr_of_place _ _ _ (by exact t1) (by rw [s.poolBytes_enabled pool]; exact place), State.afterWrite_ctrl _ c.alone src shp]

theorem State.enableOk_of_t1 {s : State} {off : Nat} (t1 : s.memory.t1Ready = true) (pln : off ≠ Reg.plnCtrl) (lnk : off ≠ Reg.lnkCtrl) : s.enableOk off = true := by
  rw [State.enableOk, if_neg pln, if_neg lnk]
  split
  · rfl
  · exact t1

theorem satEnable_carves (s : State) (v : Word) (b : Nat) (present : s.present = true) (run : s.sec.run ≠ .recovery) (unlocked : s.flag Reg.satLock 0 = false)
    (clear : s.flag Reg.satCtrl 0 = false) (same : bits v.toNat 4 1 = s.fld Reg.satCtrl 4 1) (t1 : s.memory.t1Ready = true)
    (place : carvePlace s.memory.carves s.poolBytes s.satBytes = some b) :
    ∃ t, exec (.satEnable v) s = .next t ∧ t.flag Reg.satCtrl 0 = true ∧ t.sat = { s.sat with ready := true, joined := true } ∧
      { owner := 1, base := b, size := 1152 * 2 ^ 20 + s.fld Reg.satMirrorCfg 23 0 * 4096 } ∈ t.memory.carves ∧ t.cmd.rings = s.cmd.rings ∧ t.stk = s.stk ∧
      t.sec = s.sec := by
  have size : (s.setFld Reg.satCtrl 0 0 1).satBytes = s.satBytes := by
    rw [State.satBytes, State.satBytes, s.fld_enabled _ _ (by decide)]
  have wrote := satCtrl_reg.carves present run (fields_left same _ (by decide)) unlocked clear (State.enableOk_of_t1 t1 (by decide) (by decide)) (by decide)
    (by decide) _ (by rw [State.serveBlock_sat, size]) t1 (by decide) place
  obtain ⟨o, flag, mem, rings, stk, sec⟩ := State.Settled.carvedUp (s := s) (owner := 1) (b := b) (size := s.satBytes)
    (u := { (s.setFld Reg.satCtrl 0 0 1).carved 1 b s.satBytes with sat := { s.sat with ready := true, joined := true } })
    (.inr (.inr (.inr (.inl ⟨by decide, by decide, rfl⟩)))) (off := Reg.satCtrl) (by decide) rfl rfl rfl rfl rfl
  exact ⟨_, congrArg Host.Outcome.next wrote, flag, o.sat rfl, mem, rings, stk, sec⟩

theorem kvaEnable_carves (s : State) (v : Word) (b : Nat) (present : s.present = true) (run : s.sec.run ≠ .recovery) (unlocked : s.flag Reg.kvaLock 0 = false)
    (clear : s.flag Reg.kvaCtrl 0 = false) (same : bits v.toNat 1 1 = s.fld Reg.kvaCtrl 1 1) (t1 : s.memory.t1Ready = true)
    (place : carvePlace s.memory.carves s.poolBytes (s.fld Reg.kvaArenaCfg 25 0 * 65792) = some b) :
    ∃ t, exec (.kvaEnable v) s = .next t ∧ t.flag Reg.kvaCtrl 0 = true ∧ t.kva = { s.kva with ready := true, base := b } ∧
      { owner := 2, base := b, size := s.fld Reg.kvaArenaCfg 25 0 * 65792 } ∈ t.memory.carves ∧ t.cmd.rings = s.cmd.rings ∧ t.stk = s.stk ∧ t.sec = s.sec := by
  have size : (s.setFld Reg.kvaCtrl 0 0 1).kvaBytes = s.kvaBytes := by
    rw [State.kvaBytes, State.kvaBytes, s.fld_enabled _ _ (by decide)]
  have wrote := kvaCtrl_reg.carves (size := s.kvaBytes) present run (fields_left same _ (by decide)) unlocked clear (State.enableOk_of_t1 t1 (by decide) (by decide)) (by decide)
    (by decide) _ (by rw [State.serveBlock_kva, size]) t1 (by decide) place
  obtain ⟨o, flag, mem, rings, stk, sec⟩ := State.Settled.carvedUp (s := s) (owner := 2) (b := b) (size := s.kvaBytes)
    (u := { (s.setFld Reg.kvaCtrl 0 0 1).carved 2 b s.kvaBytes with kva := { s.kva with ready := true, base := b } })
    (.inr (.inr (.inr (.inl ⟨by decide, by decide, rfl⟩)))) (off := Reg.kvaCtrl) (by decide) rfl rfl rfl rfl rfl
  exact ⟨_, congrArg Host.Outcome.next wrote, flag, o.kva rfl, mem, rings, stk, sec⟩

theorem cdcEnable_carves (s : State) (v : Word) (b : Nat) (present : s.present = true) (run : s.sec.run ≠ .recovery) (unlocked : s.flag Reg.cdcLock 0 = false)
    (clear : s.flag Reg.cdcCtrl 0 = false) (same : bits v.toNat 1 1 = s.fld Reg.cdcCtrl 1 1) (t1 : s.memory.t1Ready = true)
    (place : carvePlace s.memory.carves s.poolBytes (64 * 2 ^ 20) = some b) :
    ∃ t, exec (.cdcEnable v) s = .next t ∧ t.flag Reg.cdcCtrl 0 = true ∧ t.cdcReady = true ∧ { owner := 3, base := b, size := 64 * 2 ^ 20 } ∈ t.memory.carves ∧
      t.cmd.rings = s.cmd.rings ∧ t.stk = s.stk ∧ t.sec = s.sec := by
  have wrote := cdcCtrl_reg.carves present run (fields_left same _ (by decide)) unlocked clear (State.enableOk_of_t1 t1 (by decide) (by decide)) (by decide)
    (by decide) _ (State.serveBlock_cdc _) t1 (by decide) place
  have ready : ((s.setFld Reg.cdcCtrl 0 0 1).carved 3 b (64 * 2 ^ 20)).cdcReady = true :=
    List.any_eq_true.2 ⟨_, State.mem_carved _ 3 b _, rfl⟩
  obtain ⟨o, flag, mem, rings, stk, sec⟩ := State.Settled.carvedUp (s := s) (owner := 3) (b := b) (size := 64 * 2 ^ 20)
    (u := (s.setFld Reg.cdcCtrl 0 0 1).carved 3 b (64 * 2 ^ 20))
    (.inr (.inr (.inr (.inr (.inl ⟨rfl, ready⟩))))) (off := Reg.cdcCtrl) (by decide) rfl rfl rfl rfl rfl
  exact ⟨_, congrArg Host.Outcome.next wrote, flag, o.cdcReady ready, mem, rings, stk, sec⟩

theorem xptEnable_carves (s : State) (v : Word) (b : Nat) (present : s.present = true) (run : s.sec.run ≠ .recovery) (unlocked : s.flag Reg.xptLock 0 = false)
    (clear : s.flag Reg.xptCtrl 0 = false) (same : bits v.toNat 2 1 = s.fld Reg.xptCtrl 2 1) (t1 : s.memory.t1Ready = true)
    (place : carvePlace s.memory.carves s.poolBytes s.xptBytes = some b) :
    ∃ t, exec (.xptEnable v) s = .next t ∧ t.flag Reg.xptCtrl 0 = true ∧ t.xpt = { s.xpt with ready := true } ∧
      { owner := 4, base := b, size := s.xptBytes } ∈ t.memory.carves ∧ t.cmd.rings = s.cmd.rings ∧ t.stk = s.stk ∧ t.sec = s.sec := by
  have size : (s.setFld Reg.xptCtrl 0 0 1).xptBytes = s.xptBytes := by
    rw [State.xptBytes, State.xptBytes, s.fld_enabled _ _ (by decide)]
  have wrote := xptCtrl_reg.carves present run (fields_left same _ (by decide)) unlocked clear (State.enableOk_of_t1 t1 (by decide) (by decide)) (by decide)
    (by decide) _ (by rw [State.serveBlock_xpt, size]) t1 (by decide) place
  obtain ⟨o, flag, mem, rings, stk, sec⟩ := State.Settled.carvedUp (s := s) (owner := 4) (b := b) (size := s.xptBytes)
    (u := { (s.setFld Reg.xptCtrl 0 0 1).carved 4 b s.xptBytes with xpt := { s.xpt with ready := true } })
    (.inr (.inr (.inr (.inl ⟨by decide, by decide, rfl⟩)))) (off := Reg.xptCtrl) (by decide) rfl rfl rfl rfl rfl
  exact ⟨_, congrArg Host.Outcome.next wrote, flag, o.xpt rfl, mem, rings, stk, sec⟩

theorem kvaEnable_full (s : State) (v : Word) (present : s.present = true) (run : s.sec.run ≠ .recovery) (unlocked : s.flag Reg.kvaLock 0 = false)
    (clear : s.flag Reg.kvaCtrl 0 = false) (same : bits v.toNat 1 1 = s.fld Reg.kvaCtrl 1 1) (t1 : s.memory.t1Ready = true)
    (full : carvePlace s.memory.carves s.poolBytes (s.fld Reg.kvaArenaCfg 25 0 * 65792) = none) (quiet : agetD s.blt.outbox 0x3C2 [] = []) :
    ∃ t, exec (.kvaEnable v) s = .next t ∧ t.flag Reg.kvaCtrl 0 = false ∧ t.kva = s.kva ∧ agetD t.blt.outbox 0x3C2 [] ≠ [] ∧ t.cmd.rings = s.cmd.rings ∧
      t.stk = s.stk := by
  have size : (s.setFld Reg.kvaCtrl 0 0 1).kvaBytes = s.kvaBytes := by
    rw [State.kvaBytes, State.kvaBytes, s.fld_enabled _ _ (by decide)]
  have wrote := kvaCtrl_reg.writeBit present run (fields_left same _ (by decide)) unlocked clear
  rw [if_pos (State.enableOk_of_t1 t1 (by decide) (by decide)), State.serveBlock_kva, size,
    State.carveOr_of_full _ _ _ (by rw [s.poolBytes_enabled (by decide)]; exact full), State.afterWrite_ctrl _ kvaCtrl_reg.alone (by decide) (by decide)] at wrote
  refine ⟨_, congrArg Host.Outcome.next wrote, ?_⟩
  generalize hu : (((s.setFld Reg.kvaCtrl 0 0 1).setFld Reg.kvaCtrl 0 0 0).note 0x3C2 3 s.kvaBytes) = u
  have off : u.flag Reg.kvaCtrl 0 = false := by
    subst hu
    rw [State.note, State.flag_congr 0 (State.reg_post _ _ (by decide)), State.flag_disabled]
  have o := State.Settled.bringUp (s := u) (off := Reg.kvaCtrl) (.inl off) (by decide)
  refine ⟨(State.flag_congr 0 o.reg).trans off, (o.kva rfl).trans ?_, o.notes _ ?_, o.rings.trans ?_, o.stk.trans ?_⟩
  · subst hu; simp
  · subst hu; exact State.post_first _ _ quiet
  · subst hu; simp
  · subst hu; simp

/-- Settles O5: the carve-out is made where it fits, and no block that comes up behind takes it back. -/
theorem carvingEnables : Obligations.CarvingEnables := by
  refine ⟨satEnable_carves, kvaEnable_carves, cdcEnable_carves, xptEnable_carves, kvaEnable_full, fun s v present run unlocked clear same t1 => ?_⟩
  have wrote := kvaCtrl_reg.writeBit present run (fields_left same _ (by decide)) unlocked clear
  have shut : s.enableOk Reg.kvaCtrl = false := by
    rw [State.enableOk, if_neg (by decide), if_neg (by decide), if_neg (by decide), t1]
  rw [if_neg (by simp [shut]), State.afterWrite_ctrl _ kvaCtrl_reg.alone (by decide) (by decide)] at wrote
  exact congrArg Host.Outcome.next wrote

end Sys2Proof.Machine
end

section
/-!
PROOFS. The other enables, isolation, and the limits of a ready partition (O6).
-/
namespace Sys2Proof.Machine

theorem State.serveBlock_mem (s : State) : s.serveBlock Reg.memCtrl = s.memEnable := by
  rw [State.serveBlock, if_neg (by decide), if_neg (by decide), if_neg (by decide), if_neg (by decide), if_pos rfl]

theorem State.serveBlock_fls (s : State) : s.serveBlock Reg.flsCtrl = s.flsEnable := by
  rw [State.serveBlock, if_neg (by decide), if_neg (by decide), if_neg (by decide), if_neg (by decide), if_neg (by decide), if_pos rfl]

theorem State.serveBlock_pln (s : State) : s.serveBlock Reg.plnCtrl = { s with pln := { s.pln with ready := true } } := by
  rw [State.serveBlock, if_neg (by decide), if_neg (by decide), if_neg (by decide), if_neg (by decide), if_neg (by decide), if_neg (by decide), if_pos rfl]

theorem State.serveBlock_lnk (s : State) : s.serveBlock Reg.lnkCtrl = s.lnkServe := by
  rw [State.serveBlock, if_neg (by decide), if_neg (by decide), if_neg (by decide), if_neg (by decide), if_neg (by decide), if_neg (by decide), if_neg (by decide),
    if_pos rfl]

theorem State.serveBlock_shp (s : State) : s.serveBlock Reg.shpCtrl = s := by
  rw [State.serveBlock, if_neg (by decide), if_neg (by decide), if_neg (by decide), if_neg (by decide), if_neg (by decide), if_neg (by decide), if_neg (by decide),
    if_neg (by decide), if_neg (by decide)]

/-- A block comes into service, and stays as it is while the others follow: `u` is the device with it in service. -/
theorem CtrlReg.served {off : Nat} {r : RegDef} {fs : List Fld} (c : CtrlReg off r fs) {s u : State} {v : Word} (present : s.present = true)
    (run : s.sec.run ≠ .recovery)
    (others : ∀ f ∈ fs, WAcc.field off [] (setBits v.toNat 0 0 1 % 2 ^ 32) ⟨s, false, false⟩ f = ⟨s, false, false⟩)
    (unlocked : s.flag (blockLock off) 0 = false) (clear : s.flag off 0 = false) (ok : s.enableOk off = true) (src : off ≠ Reg.stkTimeSrc) (shp : off ≠ Reg.shpCtrl)
    (ne : off ≠ Reg.bltCntDrop) (serves : (s.setFld off 0 0 1).serveBlock off = u) (settled : u.Settled off) (reg : u.reg off = (s.setFld off 0 0 1).reg off) :
    s.writeBit off 0 v = u.bringUp ∧ State.Others off u u.bringUp ∧ u.bringUp.flag off 0 = true := by
  have o := settled.bringUp ne
  refine ⟨?_, o, ?_⟩
  · rw [c.writeBit present run others unlocked clear, if_pos ok, serves, State.afterWrite_ctrl _ c.alone src shp]
  · rw [State.flag_congr 0 o.reg, State.flag_congr 0 reg, s.flag_enabled]

theorem memEnable_serves (s : State) (v : Word) (present : s.present = true) (run : s.sec.run ≠ .recovery) (unlocked : s.flag Reg.memLock 0 = false)
    (clear : s.flag Reg.memCtrl 0 = false) (same : bits v.toNat 2 1 = s.fld Reg.memCtrl 2 1) :
    ∃ t, exec (.memEnable v) s = .next t ∧ t.flag Reg.memCtrl 0 = true ∧ t.memory.training = true ∧ t.stk = s.stk ∧ t.sec = s.sec ∧ t.blt.seq = s.blt.seq := by
  obtain ⟨wrote, o, flag⟩ := memCtrl_reg.served present run (fields_left same _ (by decide)) unlocked clear
    (by rw [State.enableOk, if_neg (by decide), if_neg (by decide), if_pos (.inl rfl)]) (by decide) (by decide) (by decide) (State.serveBlock_mem _)
    (.inr (.inr (.inr (.inr (.inr ⟨rfl, rfl⟩))))) rfl
  exact ⟨_, congrArg Host.Outcome.next wrote, flag, o.training rfl, o.stk, o.sec, o.seq⟩

theorem plnEnable_serves (s : State) (v : Word) (present : s.present = true) (run : s.sec.run ≠ .recovery) (unlocked : s.flag Reg.plnLock 0 = false)
    (clear : s.flag Reg.plnCtrl 0 = false) (same : bits v.toNat 1 1 = s.fld Reg.plnCtrl 1 1) (sat : s.sat.ready = true) (kva : s.kva.ready = true) :
    ∃ t, exec (.plnEnable v) s = .next t ∧ t.flag Reg.plnCtrl 0 = true ∧ t.pln = { s.pln with ready := true } ∧ t.stk = s.stk ∧ t.sec = s.sec := by
  obtain ⟨wrote, o, flag⟩ := plnCtrl_reg.served present run (fields_left same _ (by decide)) unlocked clear
    (by rw [State.enableOk, if_pos rfl, sat, kva]; rfl) (by decide) (by decide) (by decide) (State.serveBlock_pln _)
    (.inr (.inr (.inr (.inl ⟨by decide, by decide, rfl⟩)))) rfl
  exact ⟨_, congrArg Host.Outcome.next wrote, flag, o.pln rfl, o.stk, o.sec⟩

theorem lnkEnable_serves (s : State) (v : Word) (present : s.present = true) (run : s.sec.run ≠ .recovery) (unlocked : s.flag Reg.lnkLock 0 = false)
    (clear : s.flag Reg.lnkCtrl 0 = false) (same : bits v.toNat 2 1 = s.fld Reg.lnkCtrl 2 1) (id : s.idValid = true) (shp : s.flag Reg.shpCtrl 0 = true)
    (xpt : s.xpt.ready = true) (sat : s.sat.ready = true) :
    ∃ t, exec (.lnkEnable v) s = .next t ∧ t.flag Reg.lnkCtrl 0 = true ∧ t.lnk.ready = true ∧ t.stk = s.stk ∧ t.sec = s.sec := by
  have trained : State.Others Reg.lnkCtrl { s.setFld Reg.lnkCtrl 0 0 1 with lnk := { s.lnk with ready := true } } (s.setFld Reg.lnkCtrl 0 0 1).lnkServe :=
    .foldl _ _ (fun t p => t.others_tryTrain p (by decide)) _
  have ready : (s.setFld Reg.lnkCtrl 0 0 1).lnkServe.lnk.ready = true := trained.lnk rfl
  obtain ⟨wrote, o, flag⟩ := lnkCtrl_reg.served present run (fields_left same _ (by decide)) unlocked clear
    (by rw [State.enableOk, if_neg (by decide), if_pos rfl, id, shp, xpt, sat]; rfl) (by decide) (by decide) (by decide) (State.serveBlock_lnk _)
    (.inr (.inr (.inr (.inl ⟨by decide, by decide, ready⟩)))) trained.reg
  exact ⟨_, congrArg Host.Outcome.next wrote, flag, (o.lnk rfl).trans ready, o.stk.trans trained.stk, o.sec.trans trained.sec⟩

/-! ### FLS_ENABLE -/

theorem State.flsPopulate_reg (s : State) {o : Nat} (ne : o ≠ Reg.bltCntDrop) : s.flsPopulate.reg o = s.reg o := by
  unfold State.flsPopulate
  refine (State.Others.foldl (off := o) _ _ (fun t q => ?_) _).reg
  have one := State.Others.ite (c := q.1.bad = 0) (.refl o t) (t.others_note (0x300 + q.2) 0x204 (64 * q.2) ne)
  exact .ite (one.trans (State.others_note _ _ _ _ ne)) one

theorem State.foldl_fls {α : Type} (xs : List α) (f : State → α → State) (keep : ∀ t x, (f t x).fls = t.fls) (s : State) : (xs.foldl f s).fls = s.fls := by
  induction xs generalizing s with
  | nil => rfl
  | cons x xs ih => exact (ih _).trans (keep s x)

theorem State.flsPopulate_fls {s t : State} (board : t.board = s.board) (fls : t.fls = s.fls) : t.flsPopulate.fls = s.flsPopulate.fls := by
  unfold State.flsPopulate State.nand
  rw [State.foldl_fls _ _ (fun u q => by dsimp only; split <;> split <;> simp), State.foldl_fls _ _ (fun u q => by dsimp only; split <;> split <;> simp)]
  simp only [board, fls]

theorem State.flsPopulate_only (s : State) : s.Only [.bar, .fls, .blt] s.flsPopulate := ((s.keeps_self _).flsPopulate (sub_self _)).only

theorem flsEnable_recovers (s : State) (v : Word) (b : Nat) (present : s.present = true) (run : s.sec.run ≠ .recovery) (unlocked : s.flag Reg.flsLock 0 = false)
    (clear : s.flag Reg.flsCtrl 0 = false) (same : bits v.toNat 2 1 = s.fld Reg.flsCtrl 2 1) (t1 : s.memory.t1Ready = true)
    (chans : s.flsPopulate.fls.channels ≠ 0) (op : s.flsPopulate.fls.op ≠ 0)
    (place : carvePlace s.memory.carves s.poolBytes (4 * s.flsPopulate.fls.capacity s.flsPopulate.fls.op) = some b) :
    ∃ t, exec (.flsEnable v) s = .next t ∧ t.flag Reg.flsCtrl 0 = true ∧ t.fls.recovering = true ∧ t.fls.ready = s.flsPopulate.fls.ready ∧ t.stk = s.stk ∧
      t.sec = s.sec := by
  let s1 := s.setFld Reg.flsCtrl 0 0 1
  let n := s.flsPopulate.fls.capacity s.flsPopulate.fls.op
  have fls : s1.flsPopulate.fls = s.flsPopulate.fls := State.flsPopulate_fls rfl rfl
  have mem : s1.flsPopulate.memory = s.memory := s1.flsPopulate_only.memory
  have pool : s1.flsPopulate.poolBytes = s.poolBytes := by
    rw [State.poolBytes, State.fld, s1.flsPopulate_reg (by decide), ← State.fld, ← State.poolBytes, s.poolBytes_enabled (by decide)]
  have carves : s1.flsPopulate.carve flsOwner (4 * n) = some (b, s1.flsPopulate.carved flsOwner b (4 * n)) := by
    rw [State.carve, mem, if_pos t1, pool, place]
    simp [State.carved, mem]
  have serves : s1.serveBlock Reg.flsCtrl =
      { s1.flsPopulate.carved flsOwner b (4 * n) with fls := { s.flsPopulate.fls with recovering := true, userUnits := n } } := by
    rw [State.serveBlock_fls, State.flsEnable]
    simp only [fls, if_neg chans, if_neg op]
    rw [show s.flsPopulate.fls.capacity s.flsPopulate.fls.op = n from rfl, carves]
    simp [State.carved, fls, op, n]
  obtain ⟨wrote, o, flag⟩ := flsCtrl_reg.served present run (fields_left same _ (by decide)) unlocked clear
    (State.enableOk_of_t1 t1 (by decide) (by decide)) (by decide) (by decide) (by decide) serves
    (.inr (.inr (.inr (.inl ⟨by decide, by decide, by simp [State.started]⟩)))) (s1.flsPopulate_reg (by decide))
  exact ⟨_, congrArg Host.Outcome.next wrote, flag, by rw [o.fls rfl], by rw [o.fls rfl], o.stk.trans s1.flsPopulate_only.stk,
    o.sec.trans s1.flsPopulate_only.sec⟩

/-! ### SHP_ENABLE and CMD_ENABLE -/

theorem shpEnable_serves (s : State) (v : Word) (present : s.present = true) (run : s.sec.run ≠ .recovery) (unlocked : s.flag Reg.shpLock 0 = false)
    (clear : s.flag Reg.shpCtrl 0 = false) (swap : v.getLsbD 3 = false) (same : bits v.toNat 2 1 = s.fld Reg.shpCtrl 2 1) :
    ∃ t, exec (.shpEnable v) s = .next t ∧ t.flag Reg.shpCtrl 0 = true ∧ t.stk = s.stk ∧ t.sec = s.sec := by
  have idle : bits v.toNat 3 3 ≠ 1 := fun e => by
    have bit := bitAt_toNat v 3
    rw [swap, bitAt_eq_bits, e] at bit
    cases bit
  have others : ∀ f ∈ ([⟨3, 3, .wo, 0, .plain⟩, ⟨2, 1, .rw, 0, .plain⟩] : List Fld),
      WAcc.field Reg.shpCtrl [] (setBits v.toNat 0 0 1 % 2 ^ 32) ⟨s, false, false⟩ f = ⟨s, false, false⟩ := by
    intro f mem
    rcases List.mem_cons.1 mem with rfl | rest
    · simp only [WAcc.field, bits_written v (show 0 < 3 by omega) (show 3 ≤ 31 by omega), if_neg idle]
    · exact fields_left same [⟨2, 1, .rw, 0, .plain⟩] (by decide) f rest
  have wrote := shpCtrl_reg.writeBit present run others unlocked clear
  rw [if_pos (by rw [State.enableOk, if_neg (by decide), if_neg (by decide), if_pos (.inr (.inl rfl))]), State.serveBlock_shp] at wrote
  have o := State.Settled.bringUp (s := s.setFld Reg.shpCtrl 0 0 1) (off := Reg.shpCtrl) (.inr (.inl rfl)) (by decide)
  have flag : (s.setFld Reg.shpCtrl 0 0 1).bringUp.flag Reg.shpCtrl 0 = true := o.enabled rfl
  refine ⟨_, congrArg Host.Outcome.next wrote, ?_⟩
  rw [State.afterWrite, if_neg (by simp [show Reg.shpCtrl ≠ Reg.glbDeviceId by decide]), if_neg (by decide)]
  split
  · exact ⟨flag, o.stk, o.sec⟩
  · rw [shpCtrl_reg.alone.policerSettle]
    exact ⟨flag, o.stk, o.sec⟩

/-- The windows that CMD_ENABLE leaves of the windows of a device that never had it. -/
def windowsServed : List Window := List.replicate 16 { Window.reset with state := .enabled } ++ List.replicate 16 Window.reset

theorem State.cmdServe_windows (s : State) : s.cmdServe.cmd.windows = (List.range 16).foldl (fun l w => l.modify w fun x =>
    if x.state = .disabled then { x with state := .enabled, cons := 0, errOffset := 0, errCode := 0 } else x) s.cmd.windows := by
  unfold State.cmdServe
  generalize List.range 16 = l
  induction l generalizing s with
  | nil => rfl
  | cons w l ih => exact ih _

theorem windowsServed_getD (w : Nat) : windowsServed.getD w Window.reset = if w < 16 then { Window.reset with state := .enabled } else Window.reset := by
  unfold windowsServed
  split
  · next below => rw [List.getD_append _ _ _ _ (by simpa using below), List.getD_eq_getElem _ _ (by simpa using below), List.getElem_replicate]
  · next above => 
    rw [List.getD_append_right _ _ _ _ (by simpa using above), List.getD_eq_getElem?_getD, List.getElem?_replicate]
    split <;> rfl

theorem cmdEnable_serves (s : State) (v : Word) (present : s.present = true) (run : s.sec.run ≠ .recovery) (unlocked : s.flag Reg.cmdLock 0 = false)
    (clear : s.flag Reg.cmdCtrl 0 = false) (same : bits v.toNat 23 8 = s.fld Reg.cmdCtrl 23 8) (fresh : s.cmd.windows = List.replicate 32 Window.reset) :
    ∃ t, exec (.cmdEnable v) s = .next t ∧ t.flag Reg.cmdCtrl 0 = true ∧
      (∀ w, t.window w = if w < 16 then { Window.reset with state := .enabled } else Window.reset) ∧ t.stk = s.stk ∧ t.sec = s.sec := by
  have only : (s.setFld Reg.cmdCtrl 0 0 1).Only [.cmd] (s.setFld Reg.cmdCtrl 0 0 1).cmdServe := ((State.keeps_self _ _).cmdServe (sub_self _)).only
  have windows : (s.setFld Reg.cmdCtrl 0 0 1).cmdServe.cmd.windows = windowsServed := by
    rw [State.cmdServe_windows, show (s.setFld Reg.cmdCtrl 0 0 1).cmd.windows = List.replicate 32 Window.reset from fresh]
    decide
  have served : (s.setFld Reg.cmdCtrl 0 0 1).cmdServe.WindowsServe := fun w below => by
    rw [State.window, windows, windowsServed_getD, if_pos below]
    decide
  obtain ⟨wrote, o, flag⟩ := cmdCtrl_reg.served present run (fields_left same _ (by decide)) unlocked clear
    (by rw [State.enableOk, if_neg (by decide), if_neg (by decide), if_pos (.inr (.inr rfl))]) (by decide) (by decide) (by decide) (State.serveBlock_cmd _)
    (.inr (.inr (.inl ⟨rfl, served⟩))) (by rw [State.reg, only.bar, ← State.reg])
  refine ⟨_, congrArg Host.Outcome.next wrote, flag, fun w => ?_, o.stk.trans only.stk, o.sec.trans only.sec⟩
  rw [State.window, o.windows rfl, windows, windowsServed_getD]

end Sys2Proof.Machine
end

section
/-!
PROOFS. CORE_ISOLATE, CODEC_GROUP_ISOLATE and PLN_P_CFG_WRITE (O6).
-/
namespace Sys2Proof.Machine

/-- A register that a 32-bit write reaches, apart from the device ID and the policers. -/
structure PlainReg (off : Nat) (r : RegDef) (i : List Nat) : Prop where
  found : findReg off = some (r, i)
  low : r.pairW = false
  high : ∀ l j, findReg (off - 4) = some (l, j) → l.pairW = false
  aligned : off % 4 = 0
  id : off ≠ Reg.glbDeviceId
  src : off ≠ Reg.stkTimeSrc
  shp : off ≠ Reg.shpCtrl
  range : off < Reg.shpPolRate 0 0 ∨ Reg.shpPCfg 0 ≤ off

/-- `PlainReg`, computed. -/
def plainRegCheck (off : Nat) (r : RegDef) (i : List Nat) : Bool :=
  decide (findReg off = some (r, i) ∧ r.pairW = false ∧ off % 4 = 0 ∧ off ≠ Reg.glbDeviceId ∧ off ≠ Reg.stkTimeSrc ∧ off ≠ Reg.shpCtrl ∧
    (off < Reg.shpPolRate 0 0 ∨ Reg.shpPCfg 0 ≤ off)) && (findReg (off - 4)).all fun p => !p.1.pairW

theorem plainReg_of_check {off : Nat} {r : RegDef} {i : List Nat} (h : plainRegCheck off r i = true) : PlainReg off r i := by
  simp only [plainRegCheck, Bool.and_eq_true, decide_eq_true_eq, Option.all_eq_true, Prod.forall, Bool.not_eq_true'] at h
  obtain ⟨⟨found, low, aligned, id, src, shp, range⟩, high⟩ := h
  exact ⟨found, low, fun l j below => high l j below, aligned, id, src, shp, range⟩

theorem PlainReg.barWrite {off : Nat} {r : RegDef} {i : List Nat} (p : PlainReg off r i) {s : State} (v : Nat) (present : s.present = true)
    (run : s.sec.run ≠ .recovery) : s.barWrite off false v = s.regWrite r off i (v % 2 ^ 32) :=
  State.barWrite_eq_regWrite v present (State.bar0Serves_of_run _ run) p.aligned p.found p.low p.high

theorem PlainReg.afterWrite {off : Nat} {r : RegDef} {i : List Nat} (p : PlainReg off r i) (s : State) : s.afterWrite off i = s := by
  rw [State.afterWrite, if_neg (by simp [p.id]), if_neg p.src, if_neg (by simp [p.shp]), s.policerSettle_outside i p.range]

/-- A write by the field map that the register's own rule does not drop whole. -/
theorem PlainReg.regWrite {off : Nat} {r : RegDef} {i : List Nat} (p : PlainReg off r i) {s : State} (v : Nat) (open_ : s.wholeDropped off i = false)
    {b : WAcc} (wrote : r.fields.foldl (WAcc.field off i v) ⟨s, false, false⟩ = b) :
    s.regWrite r off i v = if b.locked then b.s.accessNote off else if b.dropped then b.s.droppedNote off else b.s := by
  simp [State.regWrite, open_, s.policerSettle_outside i p.range, wrote, p.afterWrite]

/-! ### CORE_ISOLATE -/

def coreCtrlReg : RegDef := ⟨Reg.coreCtrl 0, [(128, 65536)], false, false, [⟨2, 2, .rw, 0, .plain⟩, ⟨1, 1, .rw, 1, .plain⟩, ⟨0, 0, .rwl, 0, .hook⟩]⟩

theorem coreCtrl_checked : (List.range 128).all (fun c => plainRegCheck (Reg.coreCtrl c) coreCtrlReg [c] && decide (blockLock (Reg.coreCtrl c) = Reg.coreLock c)) = true := by
  decide +kernel

theorem coreCtrl_plain {c : Nat} (h : c < 128) : PlainReg (Reg.coreCtrl c) coreCtrlReg [c] ∧ blockLock (Reg.coreCtrl c) = Reg.coreLock c := by
  have one := List.all_eq_true.1 coreCtrl_checked c (List.mem_range.2 h)
  rw [Bool.and_eq_true] at one
  exact ⟨plainReg_of_check one.1, of_decide_eq_true one.2⟩

theorem coreIsolate_isolates (s : State) (c : Fin 128) (v : Word) (present : s.present = true) (run : s.sec.run ≠ .recovery)
    (unlocked : s.flag (Reg.coreLock c.val) 0 = false) (clear : s.flag (Reg.coreCtrl c.val) 0 = false)
    (same : bits v.toNat 2 1 = s.fld (Reg.coreCtrl c.val) 2 1) :
    ∃ t, exec (.coreIsolate c v) s = .next t ∧
      (s.sliceTaken (c.val / 8) = false → t.flag (Reg.coreCtrl c.val) 0 = true ∧ (∀ o, o ≠ Reg.coreCtrl c.val → t.reg o = s.reg o) ∧ s.Only [.bar] t) ∧
      (s.sliceTaken (c.val / 8) = true → t = s.droppedNote (Reg.coreCtrl c.val)) := by
  obtain ⟨plain, lock⟩ := coreCtrl_plain c.isLt
  have bound := c.isLt
  have left : ∀ f ∈ ([⟨2, 2, .rw, 0, .plain⟩, ⟨1, 1, .rw, 1, .plain⟩] : List Fld),
      WAcc.field (Reg.coreCtrl c.val) [c.val] (setBits v.toNat 0 0 1 % 2 ^ 32) ⟨s, false, false⟩ f = ⟨s, false, false⟩ := by
    intro f mem
    have shape : f.acc = .rw ∧ 1 ≤ f.lo ∧ f.hi ≤ 2 ∧ 0 < f.lo ∧ f.hi ≤ 31 :=
      (by decide : ∀ f ∈ ([⟨2, 2, .rw, 0, .plain⟩, ⟨1, 1, .rw, 1, .plain⟩] : List Fld), f.acc = .rw ∧ 1 ≤ f.lo ∧ f.hi ≤ 2 ∧ 0 < f.lo ∧ f.hi ≤ 31) f mem
    obtain ⟨acc, low, high, above, word⟩ := shape
    refine WAcc.field_same _ acc ?_
    rw [bits_written v above word]
    exact bits_within same low high
  have zero : s.fld (Reg.coreCtrl c.val) 0 0 = 0 := State.fld_eq_zero clear
  have hooked : WAcc.field (Reg.coreCtrl c.val) [c.val] (setBits v.toNat 0 0 1 % 2 ^ 32) ⟨s, false, false⟩ ⟨0, 0, .rwl, 0, .hook⟩ =
      (⟨s, false, false⟩ : WAcc).putIf (!s.sliceTaken (c.val / 8)) (Reg.coreCtrl c.val) ⟨0, 0, .rwl, 0, .hook⟩ 1 := by
    rw [WAcc.field_unlocked _ _ rfl (by rw [lock]; exact unlocked)]
    have one : bits (setBits v.toNat 0 0 1 % 2 ^ 32) 0 0 = 1 := by rw [bits_mod_word _ _ (by omega), bits_setBit_one]
    rw [WAcc.store]
    simp only [one, zero, WAcc.hook, if_neg plain.id, List.headD_cons]
    rw [if_neg (by omega), if_neg (by unfold Reg.coreCtrl Reg.memDevpool; omega), if_pos trivial]
  have open_ : s.wholeDropped (Reg.coreCtrl c.val) [c.val] = false := by
    rw [State.wholeDropped, if_neg plain.id, if_neg (by unfold Reg.coreCtrl Reg.plnPCfg Reg.plnPC0; simp only [List.headD_cons]; omega)]
  have wrote := plain.regWrite (setBits v.toNat 0 0 1 % 2 ^ 32) open_ (b := _) (by
    rw [coreCtrlReg, List.foldl_cons, left _ (by simp), List.foldl_cons, left _ (by simp), List.foldl_cons, hooked, List.foldl_nil])
  refine ⟨_, congrArg Host.Outcome.next ((plain.barWrite _ present run).trans wrote), fun idle => ?_, fun taken => ?_⟩
  · simp only [WAcc.putIf, idle, Bool.not_false, if_true, WAcc.put, Bool.false_eq_true, if_false]
    exact ⟨s.flag_enabled _, fun o ne => s.reg_setFld_ne _ _ _ ne, s.only_bar_setReg _ _⟩
  · simp [WAcc.putIf, taken, WAcc.drop]

/-! ### CODEC_GROUP_ISOLATE -/

def cdcGroupReg : RegDef := ⟨Reg.cdcGroup 0, [(16, 4)], false, false, [⟨31, 31, .rw, 0, .hook⟩, ⟨15, 0, .ro, 0, .plain⟩]⟩

theorem cdcGroup_plain (g : Fin 16) : PlainReg (Reg.cdcGroup g.val) cdcGroupReg [g.val] := by
  have all : ∀ g : Fin 16, plainRegCheck (Reg.cdcGroup g.val) cdcGroupReg [g.val] = true := by decide +kernel
  exact plainReg_of_check (all g)

/-- Lane group k of the others is in service. -/
theorem groups_any {s : State} {g : Nat} : ((List.range 16).any fun k => k != g && !s.flag (Reg.cdcGroup k) 31) = true ↔
    ∃ k, k < 16 ∧ k ≠ g ∧ s.flag (Reg.cdcGroup k) 31 = false := by
  simp [List.any_eq_true]

theorem codecGroupIsolate_isolates (s : State) (g : Fin 16) (v : Word) (present : s.present = true) (run : s.sec.run ≠ .recovery)
    (clear : s.flag (Reg.cdcGroup g.val) 31 = false) :
    ∃ t, exec (.codecGroupIsolate g v) s = .next t ∧
      ((∃ k, k < 16 ∧ k ≠ g.val ∧ s.flag (Reg.cdcGroup k) 31 = false) → t.flag (Reg.cdcGroup g.val) 31 = true ∧
        (∀ o, o ≠ Reg.cdcGroup g.val → t.reg o = s.reg o) ∧ s.Only [.bar] t) ∧
      ((∀ k, k < 16 → k ≠ g.val → s.flag (Reg.cdcGroup k) 31 = true) → t = s.droppedNote (Reg.cdcGroup g.val)) := by
  have plain := cdcGroup_plain g
  have bound := g.isLt
  have zero : s.fld (Reg.cdcGroup g.val) 31 31 ≠ 1 := by
    rw [State.flag_eq_fld, beq_eq_false_iff_ne] at clear
    exact clear
  have one : bits (setBits v.toNat 31 31 1 % 2 ^ 32) 31 31 = 1 := by rw [bits_mod_word _ _ (by omega), bits_setBit_one]
  have hooked : WAcc.field (Reg.cdcGroup g.val) [g.val] (setBits v.toNat 31 31 1 % 2 ^ 32) ⟨s, false, false⟩ ⟨31, 31, .rw, 0, .hook⟩ =
      (⟨s, false, false⟩ : WAcc).putIf ((List.range 16).any fun k => k != g.val && !s.flag (Reg.cdcGroup k) 31) (Reg.cdcGroup g.val) ⟨31, 31, .rw, 0, .hook⟩ 1 := by
    simp only [WAcc.field, WAcc.store, one, Ne.symm zero, if_false, WAcc.hook, if_neg plain.id, List.headD_cons]
    rw [if_neg (by unfold Reg.cdcGroup Reg.memDevpool; omega), if_neg (by unfold Reg.cdcGroup Reg.coreCtrl; omega), if_pos trivial]
    rfl
  have read (b : WAcc) : WAcc.field (Reg.cdcGroup g.val) [g.val] (setBits v.toNat 31 31 1 % 2 ^ 32) b ⟨15, 0, .ro, 0, .plain⟩ = b := rfl
  have open_ : s.wholeDropped (Reg.cdcGroup g.val) [g.val] = false := by
    rw [State.wholeDropped, if_neg plain.id, if_neg (by unfold Reg.cdcGroup Reg.plnPCfg Reg.plnPC0; simp only [List.headD_cons]; omega)]
  have wrote := plain.regWrite (setBits v.toNat 31 31 1 % 2 ^ 32) open_ (b := _) (by
    rw [cdcGroupReg, List.foldl_cons, hooked, List.foldl_cons, read, List.foldl_nil])
  refine ⟨_, congrArg Host.Outcome.next ((plain.barWrite _ present run).trans wrote), fun others => ?_, fun last => ?_⟩
  · simp only [WAcc.putIf, groups_any.2 others, if_true, WAcc.put, Bool.false_eq_true, if_false]
    refine ⟨?_, fun o ne => s.reg_setFld_ne _ _ _ ne, s.only_bar_setReg _ _⟩
    rw [State.flag_eq_fld, s.fld_setFld_same _ (by omega) (by omega)]; rfl
  · have none_ : ¬ ((List.range 16).any fun k => k != g.val && !s.flag (Reg.cdcGroup k) 31) = true := fun any => by
      obtain ⟨k, below, ne, off⟩ := groups_any.1 any
      rw [last k below ne] at off; cases off
    simp [WAcc.putIf, none_, WAcc.drop]

/-! ### PLN_P_CFG_WRITE -/

def plnPCfgReg : RegDef := ⟨Reg.plnPCfg 0, [(16, 64)], false, false, [⟨30, 16, .rw, 0, .hook⟩, ⟨12, 0, .rw, 0, .hook⟩]⟩

theorem plnPCfg_plain (p : Fin 16) : PlainReg (Reg.plnPCfg p.val) plnPCfgReg [p.val] := by
  have all : ∀ p : Fin 16, plainRegCheck (Reg.plnPCfg p.val) plnPCfgReg [p.val] = true := by decide +kernel
  exact plainReg_of_check (all p)

/-- The rule of a partition's limits (R252). -/
theorem WAcc.hook_plnPCfg (a : WAcc) (p : Fin 16) (f : Fld) (v w : Nat) : a.hook (Reg.plnPCfg p.val) [p.val] f v w =
    if f.lo = 16 then a.putIf (decide (1 ≤ w ∧ w ≤ 16384 ∧ a.s.fld (Reg.plnPC0 p.val) 14 0 ≤ w)) (Reg.plnPCfg p.val) f w
    else a.putIf (decide (64 ≤ w ∧ w ≤ 4096 ∧ w % 64 = 0)) (Reg.plnPCfg p.val) f w := by
  have others : ∀ p : Fin 16, Reg.plnPCfg p.val ≠ Reg.glbDeviceId ∧ Reg.plnPCfg p.val ≠ Reg.memDevpool ∧ Reg.plnPCfg p.val ≠ Reg.coreCtrl p.val ∧
      Reg.plnPCfg p.val ≠ Reg.cdcGroup p.val ∧ Reg.plnPCfg p.val ≠ Reg.flsGcCfg ∧ Reg.plnPCfg p.val ≠ Reg.lnkTopo ∧ Reg.plnPCfg p.val ≠ Reg.lnkGwCfg ∧
      Reg.plnPCfg p.val ≠ Reg.lnkPCtrl p.val ∧ Reg.plnPCfg p.val ≠ Reg.lnkPReserve p.val ∧ Reg.plnPCfg p.val ≠ Reg.lnkPCredit p.val 0 ∧
      Reg.plnPCfg p.val ≠ Reg.xptTimer ∧ Reg.plnPCfg p.val ≠ Reg.xptWin ∧ Reg.plnPCfg p.val ≠ Reg.shpGateLen p.val ∧
      Reg.plnPCfg p.val ≠ Reg.shpGate p.val 0 ∧ Reg.plnPCfg p.val ≠ Reg.pwrAvs := by decide
  obtain ⟨n1, n2, n3, n4, n5, n6, n7, n8, n9, n10, n11, n12, n13, n14, n15⟩ := others p
  simp only [WAcc.hook, List.headD_cons, List.drop_succ_cons, List.drop_zero, List.headD_nil, if_neg n1, if_neg n2, if_neg n3, if_neg n4, if_neg n5, if_neg n6, if_neg n7,
    if_neg n8, if_neg (not_or.2 ⟨n9, n10⟩), if_neg n11, if_neg n12, if_neg n13, if_neg n14, if_neg n15, if_true]
  rfl

/-- One of the two limits stored, where its range allows the value. -/
theorem WAcc.stored_plnPCfg {a : WAcc} (p : Fin 16) {f : Fld} (v : Nat) (acc : f.acc = .rw) (rule : f.rule = .hook) (hlo : f.lo ≤ f.hi) (hhi : f.hi ≤ 31)
    (allowed : if f.lo = 16 then 1 ≤ bits v f.hi f.lo ∧ bits v f.hi f.lo ≤ 16384 ∧ a.s.fld (Reg.plnPC0 p.val) 14 0 ≤ bits v f.hi f.lo
      else 64 ≤ bits v f.hi f.lo ∧ bits v f.hi f.lo ≤ 4096 ∧ bits v f.hi f.lo % 64 = 0) :
    a.Stored (Reg.plnPCfg p.val) f (bits v f.hi f.lo) (WAcc.field (Reg.plnPCfg p.val) [p.val] v a f) := by
  have stored : WAcc.field (Reg.plnPCfg p.val) [p.val] v a f = if bits v f.hi f.lo = a.s.fld (Reg.plnPCfg p.val) f.hi f.lo then a
      else a.put (Reg.plnPCfg p.val) f (bits v f.hi f.lo) := by
    simp only [WAcc.field, acc, WAcc.store, rule, WAcc.hook_plnPCfg]
    by_cases high : f.lo = 16
    · rw [if_pos high] at allowed
      simp only [if_pos high, WAcc.putIf, allowed.1, allowed.2.1, allowed.2.2, and_self, decide_true, if_true]
    · rw [if_neg high] at allowed
      simp only [if_neg high, WAcc.putIf, allowed.1, allowed.2.1, allowed.2.2, and_self, decide_true, if_true]
  rw [stored]
  split
  · next same => rw [same]; exact a.stored_self _ f
  · exact a.stored_put _ hlo hhi (bits_lt _ _ _)

theorem plnPCfgWrite_stores (s : State) (p : Fin 16) (v : Word) (present : s.present = true) (run : s.sec.run ≠ .recovery) (ready : s.ready p.val = true)
    (one : 1 ≤ bits v.toNat 30 16) (most : bits v.toNat 30 16 ≤ 16384) (c0 : s.fld (Reg.plnPC0 p.val) 14 0 ≤ bits v.toNat 30 16)
    (low : 64 ≤ bits v.toNat 12 0) (high : bits v.toNat 12 0 ≤ 4096) (mult : bits v.toNat 12 0 % 64 = 0) :
    ∃ t, exec (.plnPCfgWrite p false v) s = .next t ∧ t.fld (Reg.plnPCfg p.val) 30 16 = bits v.toNat 30 16 ∧
      t.fld (Reg.plnPCfg p.val) 12 0 = bits v.toNat 12 0 ∧ (∀ o, o ≠ Reg.plnPCfg p.val → t.reg o = s.reg o) ∧ s.Only [.bar] t := by
  have plain := plnPCfg_plain p
  have open_ : s.wholeDropped (Reg.plnPCfg p.val) [p.val] = false := by
    rw [State.wholeDropped, if_neg plain.id, if_pos (.inl rfl), List.headD_cons, ready]; rfl
  obtain ⟨open1, kept1, fld1, apart1, regs1, only1⟩ := WAcc.stored_plnPCfg (a := ⟨s, false, false⟩) p (f := ⟨30, 16, .rw, 0, .hook⟩) v.toNat rfl rfl
    (by decide) (by decide) (by rw [if_pos rfl]; exact ⟨one, most, c0⟩)
  generalize h1 : WAcc.field (Reg.plnPCfg p.val) [p.val] v.toNat ⟨s, false, false⟩ ⟨30, 16, .rw, 0, .hook⟩ = b at open1 kept1 fld1 apart1 regs1 only1
  obtain ⟨open2, kept2, fld2, apart2, regs2, only2⟩ := WAcc.stored_plnPCfg (a := b) p (f := ⟨12, 0, .rw, 0, .hook⟩) v.toNat rfl rfl
    (by decide) (by decide) (by rw [if_neg (by decide)]; exact ⟨low, high, mult⟩)
  generalize h2 : WAcc.field (Reg.plnPCfg p.val) [p.val] v.toNat b ⟨12, 0, .rw, 0, .hook⟩ = c at open2 kept2 fld2 apart2 regs2 only2
  have wrote := plain.regWrite v.toNat open_ (b := c) (by rw [plnPCfgReg, List.foldl_cons, h1, List.foldl_cons, h2, List.foldl_nil])
  rw [if_neg (by simp [open2, open1]), if_neg (by simp [kept2, kept1])] at wrote
  refine ⟨c.s, congrArg Host.Outcome.next ((plain.barWrite _ present run).trans (by rw [Nat.mod_eq_of_lt v.isLt, wrote])), ?_, fld2,
    fun o ne => (regs2 o ne).trans (regs1 o ne), only1.trans only2⟩
  exact (apart2 30 16 (by omega) (.inr (by decide))).trans fld1

/-- A write for a partition that is not READY, and that would change a limit, is dropped with a note (R252). -/
theorem plnPCfgWrite_drops (s : State) (p : Fin 16) (v : Word) (present : s.present = true) (run : s.sec.run ≠ .recovery) (idle : s.ready p.val = false)
    (differs : bits v.toNat 30 16 ≠ s.fld (Reg.plnPCfg p.val) 30 16) : exec (.plnPCfgWrite p false v) s = .next (s.droppedNote (Reg.plnPCfg p.val)) := by
  have plain := plnPCfg_plain p
  have shut : s.wholeDropped (Reg.plnPCfg p.val) [p.val] = true := by
    rw [State.wholeDropped, if_neg plain.id, if_pos (.inl rfl), List.headD_cons, idle]; rfl
  have changes : s.changes (Reg.plnPCfg p.val) v.toNat plnPCfgReg.fields = true :=
    List.any_eq_true.2 ⟨_, List.mem_cons_self .., bne_iff_ne.2 differs⟩
  refine congrArg Host.Outcome.next ((plain.barWrite _ present run).trans ?_)
  rw [Nat.mod_eq_of_lt v.isLt, State.regWrite, if_pos shut, if_pos changes, if_neg (by simp [plain.id])]

/-- Settles O6: each block serves from its enable on, and isolation and limits go by their rules. -/
theorem plainEnablesAndLimits : Obligations.PlainEnablesAndLimits :=
  ⟨memEnable_serves, flsEnable_recovers, plnEnable_serves, lnkEnable_serves, shpEnable_serves, cmdEnable_serves, coreIsolate_isolates, codecGroupIsolate_isolates,
    plnPCfgWrite_stores, plnPCfgWrite_drops⟩

end Sys2Proof.Machine
end

section
/-!
PROOFS. Synchronisation over the time tree (O7).
-/
namespace Sys2Proof.Machine

/-! ### What taking over STK_TIME_SRC leaves -/

theorem State.settleRef_stk (s : State) : s.settleRef.stk =
    { s.stk with ref := s.settleRef.stk.ref, refAt := s.settleRef.stk.refAt, refHoldover := s.settleRef.stk.refHoldover } := by
  unfold State.settleRef
  split <;> rfl

theorem State.latchSrc_stk (s : State) : s.latchSrc.stk =
    { s.stk with src := s.latchSrc.stk.src, locked := s.latchSrc.stk.locked, offset := s.latchSrc.stk.offset, ref := s.latchSrc.stk.ref,
                 refAt := s.latchSrc.stk.refAt, refHoldover := s.latchSrc.stk.refHoldover } := by
  unfold State.latchSrc
  dsimp only
  rw [State.settleRef_stk]

@[simp] theorem State.latchSrc_time (s : State) : s.latchSrc.stk.time = s.stk.time := by rw [State.latchSrc_stk]

@[simp] theorem State.latchSrc_running (s : State) : s.latchSrc.stk.running = s.stk.running := by rw [State.latchSrc_stk]

@[simp] theorem State.latchSrc_cfg (s : State) : s.latchSrc.stk.cfg = s.stk.cfg := by rw [State.latchSrc_stk]

@[simp] theorem State.latchSrc_pend (s : State) : s.latchSrc.stk.pend = s.stk.pend := by rw [State.latchSrc_stk]

@[simp] theorem State.latchSrc_watch (s : State) : s.latchSrc.stk.watch = s.stk.watch := by rw [State.latchSrc_stk]

@[simp] theorem State.latchSrc_holdover (s : State) : s.latchSrc.stk.holdover = s.stk.holdover := by rw [State.latchSrc_stk]

@[simp] theorem State.latchSrc_unaligned (s : State) : s.latchSrc.stk.unaligned = s.stk.unaligned := by rw [State.latchSrc_stk]

@[simp] theorem State.latchSrc_good (s : State) : s.latchSrc.stk.good = s.stk.good := by rw [State.latchSrc_stk]

@[simp] theorem State.latchSrc_onBackup (s : State) : s.latchSrc.stk.onBackup = s.stk.onBackup := by rw [State.latchSrc_stk]

@[simp] theorem State.latchSrc_step (s : State) : s.latchSrc.stk.step = s.stk.step := by rw [State.latchSrc_stk]

@[simp] theorem State.latchSrc_stroke (s : State) : s.latchSrc.stk.stroke = s.stk.stroke := by rw [State.latchSrc_stk]

theorem State.latchSrc_only (s : State) : s.Only [.stk, .pwr] s.latchSrc := ((s.keeps_self _).latchSrc (sub_self _)).only

theorem State.at_of_le {s : State} {t : Nat} (h : s.stk.time ≤ t) : (s.at_ t).stk.time = t := Nat.max_eq_right h

/-- What a child follows of its parent's configurations is in `pend` alone. -/
theorem Stk.follow_eq (k : Stk) : k.follow = { k with pend := k.follow.pend } := by
  unfold Stk.follow
  repeat' split
  all_goals rfl

/-! ### SYNC_SEND -/

theorem foldl_syncSend (l : List Nat) (now : Nat) (s : State) :
    let t := l.foldl (fun (x : State) p => { x with stk := { x.stk with syncSent := aput x.stk.syncSent p now } }.emit (.sync p now x.stk.active x.stk.pend)) s
    t.out = s.out ++ l.map (fun p => Out.sync p now s.stk.active s.stk.pend) ∧ t.stk.time = s.stk.time := by
  induction l generalizing s with
  | nil => simp
  | cons p l ih =>
    obtain ⟨out, time⟩ := ih ({ s with stk := { s.stk with syncSent := aput s.stk.syncSent p now } }.emit (.sync p now s.stk.active s.stk.pend))
    refine ⟨?_, time⟩
    rw [List.map_cons, List.append_cons]
    exact out

theorem syncSend_sends (s : State) (now : Nat) : ∃ t, exec (.syncSend now) s = .next t ∧
    t.out = s.out ++ ((s.at_ now).latchSrc.upPorts (childPorts (s.at_ now).latchSrc.stk.role)).map (fun p => Out.sync p now s.stk.active s.stk.pend) ∧
    t.stk.time = max s.stk.time now ∧ s.Only [.stk, .pwr, .out] t := by
  have goes : s.Goes _ (exec (.syncSend now) s) := (s.keeps_self _).goes_syncSend (sub_self _) now
  obtain ⟨out, time⟩ := foldl_syncSend ((s.at_ now).latchSrc.upPorts (childPorts (s.at_ now).latchSrc.stk.role)) now (s.at_ now).latchSrc
  refine ⟨_, rfl, ?_, ?_, goes.only⟩
  · rw [out, (s.at_ now).latchSrc_only.out]
    simp only [Stk.active, State.latchSrc_running, State.latchSrc_cfg, State.latchSrc_pend]
    rfl
  · rw [time, State.latchSrc_time]; rfl

/-! ### SYNC_EXCHANGE -/

/-- The time keeping of a child after an exchange that measured `err` at `t`, before it follows its parent's configurations. -/
def Stk.measured (k : Stk) (err : Int) (t : Nat) (cfg : ParentCfg) : Stk :=
  let g := if -20 ≤ err ∧ err ≤ 20 then k.good + 1 else 0
  Stk.correct { k with offset := satSigned 2147483647 err, lastGood := t, watch := t, good := g, locked := k.locked || 4 ≤ g,
                       holdover := k.holdover && !decide (4 ≤ g), unaligned := k.unaligned && !decide (4 ≤ g), parent := some cfg } err

theorem State.exchanged_stk (s : State) (err : Int) (t : Nat) (cfg : ParentCfg) : (s.exchanged err t cfg).stk = (s.stk.measured err t cfg).follow := by
  unfold State.exchanged
  dsimp only
  split <;> rfl

theorem Stk.measured_kept (k : Stk) (err : Int) (t : Nat) (cfg : ParentCfg) :
    (k.measured err t cfg).delay = k.delay ∧ (k.measured err t cfg).lastGood = t ∧ (k.measured err t cfg).offset = satSigned 2147483647 err := by
  unfold Stk.measured Stk.correct
  dsimp only
  repeat' split
  all_goals exact ⟨rfl, rfl, rfl⟩

theorem Stk.measured_small {k : Stk} {err : Int} (t : Nat) (cfg : ParentCfg) (small : -20 ≤ err ∧ err ≤ 20) :
    (k.measured err t cfg).good = k.good + 1 ∧ (k.measured err t cfg).slew = 0 ∧ (3 ≤ k.good → (k.measured err t cfg).locked = true ∧
      (k.measured err t cfg).holdover = false ∧ (k.measured err t cfg).unaligned = false) := by
  unfold Stk.measured Stk.correct
  simp only [if_pos small]
  refine ⟨trivial, trivial, fun three => ?_⟩
  simp [show 4 ≤ k.good + 1 by omega, show k.good + 1 ≥ 4 by omega]

theorem Stk.measured_good {k : Stk} {err : Int} (t : Nat) (cfg : ParentCfg) (large : ¬(-20 ≤ err ∧ err ≤ 20)) : (k.measured err t cfg).good = 0 := by
  unfold Stk.measured Stk.correct
  simp only [if_neg large]
  repeat' split
  all_goals rfl

theorem Stk.measured_slews {k : Stk} {err : Int} (t : Nat) (cfg : ParentCfg) (large : ¬(-20 ≤ err ∧ err ≤ 20)) (near : -10000 ≤ err ∧ err ≤ 10000) :
    (k.measured err t cfg).slew = -err ∧ (k.measured err t cfg).time = k.time := by
  unfold Stk.measured Stk.correct
  simp only [if_neg large, if_pos near, and_self]

theorem Stk.measured_steps {k : Stk} {err : Int} (t : Nat) (cfg : ParentCfg) (large : ¬(-20 ≤ err ∧ err ≤ 20)) (far : ¬(-10000 ≤ err ∧ err ≤ 10000)) :
    if k.running then (k.measured err t cfg).step = some (-err) ∧ (k.measured err t cfg).time = k.time
    else (k.measured err t cfg).time = addTime k.time (-err) := by
  unfold Stk.measured Stk.correct
  simp only [if_neg large, if_neg far]
  cases k.running <;> simp

theorem syncExchange_measures (s : State) (port : Fin 64) (t1 t2 t3 t4 : Nat) (child : (s.at_ t3).latchSrc.stk.role ≠ 2) (primary : s.stk.onBackup = false)
    (parent : (s.at_ t3).latchSrc.stk.parentPort = some port.val) (later : s.stk.time ≤ t3) :
    ∃ t, exec (.syncExchange port t1 t2 t3 t4 { active := none, pending := none }) s = .next t ∧
      t.out = s.out ++ [.syncBack port.val t2 t3] ∧ afind t.stk.delay port.val = some (syncDelay t1 t2 t3 t4) ∧
      t.stk.lastGood = t3 ∧ t.stk.offset = satSigned 2147483647 (syncOffset t1 t2 t3 t4) ∧
      (-20 ≤ syncOffset t1 t2 t3 t4 ∧ syncOffset t1 t2 t3 t4 ≤ 20 →
        t.stk.good = s.stk.good + 1 ∧ t.stk.slew = 0 ∧ (3 ≤ s.stk.good → t.stk.locked = true ∧ t.stk.holdover = false ∧ t.stk.unaligned = false)) ∧
      ((syncOffset t1 t2 t3 t4 < -20 ∨ 20 < syncOffset t1 t2 t3 t4) → t.stk.good = 0) ∧
      ((syncOffset t1 t2 t3 t4 < -20 ∨ 20 < syncOffset t1 t2 t3 t4) →
        -10000 ≤ syncOffset t1 t2 t3 t4 ∧ syncOffset t1 t2 t3 t4 ≤ 10000 → t.stk.slew = -syncOffset t1 t2 t3 t4 ∧ t.stk.time = t3) ∧
      ((syncOffset t1 t2 t3 t4 < -10000 ∨ 10000 < syncOffset t1 t2 t3 t4) →
        if s.stk.running then t.stk.step = some (-syncOffset t1 t2 t3 t4) ∧ t.stk.time = t3
        else t.stk.time = addTime t3 (-syncOffset t1 t2 t3 t4)) ∧
      s.Only [.stk, .bar, .pwr, .out] t := by
  have goes : s.Goes [.stk, .bar, .pwr, .out] (exec (.syncExchange port t1 t2 t3 t4 { active := none, pending := none }) s) :=
    (s.keeps_self _).goes_syncExchange (by decide) port t1 t2 t3 t4 _
  let s0 := (s.at_ t3).latchSrc
  let s1 := { s0 with stk := { s0.stk with delay := aput s0.stk.delay port.val (syncDelay t1 t2 t3 t4) } }.emit (.syncBack port.val t2 t3)
  have run : exec (.syncExchange port t1 t2 t3 t4 { active := none, pending := none }) s =
      .next (s1.exchanged (syncOffset t1 t2 t3 t4) t3 { active := none, pending := none }) := by
    change execSyncExchange port t1 t2 t3 t4 _ s = _
    have back : s0.stk.onBackup = false := (State.latchSrc_onBackup _).trans primary
    have up : s1.stk.parentPort = some port.val := parent
    unfold execSyncExchange
    dsimp only
    rw [if_neg (by exact child), if_neg (by exact Bool.eq_false_iff.1 back), if_pos (by exact up)]
  have time : s0.stk.time = t3 := (State.latchSrc_time _).trans (State.at_of_le later)
  have out : s1.out = s.out ++ [.syncBack port.val t2 t3] := by
    simp only [s1, State.emit]
    rw [show s0.out = s.out from (s.at_ t3).latchSrc_only.out]
  have k : (s1.exchanged (syncOffset t1 t2 t3 t4) t3 { active := none, pending := none }).stk = _ := s1.exchanged_stk _ _ _
  rw [run] at goes
  refine ⟨_, run, (State.Keeps.only ((State.keeps_self s1 _).exchanged (sub_self _) _ _ _)).out.trans out, ?_⟩
  have running : s1.stk.running = s.stk.running := State.latchSrc_running _
  have good : s1.stk.good = s.stk.good := State.latchSrc_good _
  obtain ⟨delay, last, offset⟩ := s1.stk.measured_kept (syncOffset t1 t2 t3 t4) t3 { active := none, pending := none }
  rw [k, Stk.follow_eq]
  refine ⟨?_, last, offset, fun small => ?_, fun large => ?_, fun large near => ?_, fun far => ?_, goes.only⟩
  · rw [show afind _ _ = afind (s1.stk.measured _ t3 _).delay port.val from rfl, delay]
    exact afind_aput_same _ _ _
  · rw [← good]
    exact Stk.measured_small _ _ small
  · exact Stk.measured_good _ _ (by omega)
  · have slews := Stk.measured_slews (k := s1.stk) t3 { active := none, pending := none } (by omega) near
    exact ⟨slews.1, slews.2.trans time⟩
  · have steps := Stk.measured_steps (k := s1.stk) (err := syncOffset t1 t2 t3 t4) t3 { active := none, pending := none } (by omega) (by omega)
    rw [running, show s1.stk.time = t3 from time] at steps
    exact steps

/-! ### Losing the parent, the reference, and alignment -/

theorem parentLost_fallsBack (s : State) (now : Nat) (child : (s.at_ now).latchSrc.stk.role ≠ 2) (silent : s.stk.watch + 1000000 ≤ now)
    (primary : s.stk.onBackup = false) :
    ∃ t, exec (.parentLost now) s = .next t ∧
      (if (s.at_ now).latchSrc.stk.backupPort.isSome then t.stk.onBackup = true ∧ t.stk.watch = now ∧ t.stk.locked = (s.at_ now).latchSrc.stk.locked
        else t.stk.onBackup = false ∧ t.stk.holdover = true ∧ (s.stk.holdover = false → t.stk.locked = false)) ∧ s.Only [.stk, .bar, .blt, .pwr] t := by
  have goes : s.Goes [.stk, .bar, .blt, .pwr] (exec (.parentLost now) s) := (s.keeps_self _).goes_parentLost (by decide) now
  have watch : (s.at_ now).latchSrc.stk.watch = s.stk.watch := State.latchSrc_watch _
  have back : (s.at_ now).latchSrc.stk.onBackup = false := (State.latchSrc_onBackup _).trans primary
  have hold : (s.at_ now).latchSrc.stk.holdover = s.stk.holdover := State.latchSrc_holdover _
  have run : exec (.parentLost now) s = .next (if (s.at_ now).latchSrc.stk.backupPort.isSome then
      { (s.at_ now).latchSrc with stk := { (s.at_ now).latchSrc.stk with onBackup := true, goodPrimary := 0, watch := now } }
      else (s.at_ now).latchSrc.enterHoldover) := by
    change execParentLost now s = _
    unfold execParentLost
    dsimp only
    rw [if_neg (by rw [watch]; omega), back]
    simp only [Bool.not_false, Bool.true_and]
    split <;> rfl
  rw [run] at goes
  refine ⟨_, run, ?_, goes.only⟩
  split
  · exact ⟨rfl, rfl, rfl⟩
  · unfold State.enterHoldover
    rw [hold]
    split
    · next held => exact ⟨back, hold.trans held, fun none_ => absurd held (by simp [none_])⟩
    · rw [State.note_stk]
      exact ⟨back, rfl, fun _ => rfl⟩

theorem unaligned_posts (s : State) (now : Nat) (later : s.stk.time ≤ now) (hold : s.stk.holdover = true) (aligned : s.stk.unaligned = false)
    (drift : s.fld Reg.stkHoldCfg 23 16 ≠ 0)
    (drifted : max 1 (s.fld Reg.stkHoldCfg 15 0) < (now - s.stk.lastGood) * s.fld Reg.stkHoldCfg 23 16 / 100000000) :
    ∃ t, exec (.unaligned now) s = .next t ∧ t.stk.unaligned = true ∧
      agetD t.blt.outbox 0x3C0 [] = agetD s.blt.outbox 0x3C0 [] ++
        [{ fault := fault 0x3C0 0x104 2 ((now - s.stk.lastGood) * s.fld Reg.stkHoldCfg 23 16 / 100000000), time := (s.at_ now).faultTime }] ∧
      s.Only [.stk, .blt] t := by
  have estimate : (s.at_ now).errorEstimate = (now - s.stk.lastGood) * s.fld Reg.stkHoldCfg 23 16 / 100000000 := by
    rw [State.errorEstimate, State.at_of_le later]; rfl
  have run : exec (.unaligned now) s = .next ({ s.at_ now with stk := { (s.at_ now).stk with unaligned := true } }.post
      (fault 0x3C0 0x104 2 ((now - s.stk.lastGood) * s.fld Reg.stkHoldCfg 23 16 / 100000000))) := by
    change execUnaligned now s = _
    unfold execUnaligned
    dsimp only
    rw [estimate, if_pos]
    rw [show (s.at_ now).stk.holdover = true from hold, show (s.at_ now).stk.unaligned = false from aligned]
    simp only [Bool.not_false, Bool.true_and, Bool.and_eq_true, bne_iff_ne, decide_eq_true_eq]
    exact ⟨drift, drifted⟩
  refine ⟨_, run, by simp, ?_, ?_⟩
  · simp [State.post, fault, agetD_eq_get, State.faultTime, State.at_]
  · simp [State.post, fault, State.Only, State.at_]

theorem refHoldover_begins (s : State) (now : Nat) (pps : s.refMode = 1) (sound : s.stk.refHoldover = false) (_later : s.stk.time ≤ now)
    (silent : s.pwr.tsyncAt.getD s.stk.refAt + 16000000000 ≤ now) :
    ∃ t, exec (.refHoldover now) s = .next t ∧ t.stk.refHoldover = true ∧ t.flag Reg.stkStatus 16 = true ∧ s.Only [.stk, .bar, .blt] t := by
  have goes : s.Goes [.stk, .bar, .blt] (exec (.refHoldover now) s) := (s.keeps_self _).goes_refHoldover (by decide) now
  have missing : (s.at_ now).refMissing now = true := by
    have mode : (s.at_ now).refMode = 1 := pps
    rw [State.refMissing, State.refPeriod, if_pos mode]
    exact decide_eq_true silent
  have run : exec (.refHoldover now) s =
      .next (({ s.at_ now with stk := { (s.at_ now).stk with refHoldover := true } }.setFld Reg.stkStatus 16 16 1).note 0x3C0 0x103 0) := by
    change execRefHoldover now s = _
    unfold execRefHoldover
    dsimp only
    rw [if_neg (by simp [missing, show (s.at_ now).stk.refHoldover = false from sound])]
  rw [run] at goes
  refine ⟨_, run, by rw [State.note_stk]; rfl, ?_, goes.only⟩
  rw [State.note, State.flag_congr _ (State.reg_post _ _ (by decide)), State.flag_eq_fld, State.fld_setFld_same _ _ (by omega) (by omega)]
  rfl

theorem tsyncInPulse_corrects (s : State) (now : Nat) (pps : s.refMode = 1) (later : s.stk.time ≤ now) :
    ∃ t, exec (.tsyncInPulse now) s = .next t ∧
      (if -1000 ≤ (now : Int) - s.expectedEdge now ∧ (now : Int) - s.expectedEdge now ≤ 1000
        then t.stk.refHoldover = false ∧ t.pwr.tsyncAt = some now ∧ t.bar = s.bar ∧
          (20 < (now : Int) - s.expectedEdge now → t.stk.slew = -((now : Int) - s.expectedEdge now))
        else t.stk = { s.stk with time := now } ∧ t.pwr.tsyncAt = s.pwr.tsyncAt ∧
          t.fld Reg.pwrGlitch 23 16 = min 255 (s.fld Reg.pwrGlitch 23 16 + 1)) ∧ s.Only [.stk, .pwr, .bar] t := by
  have goes : s.Goes [.stk, .pwr, .bar] (exec (.tsyncInPulse now) s) := (s.keeps_self _).goes_tsyncInPulse (by decide) now
  have mode : (s.at_ now).refMode = 1 := pps
  have edge : (s.at_ now).expectedEdge now = s.expectedEdge now := by
    rw [State.expectedEdge, State.expectedEdge, if_pos mode, if_pos pps]
  have run : exec (.tsyncInPulse now) s = .next (if -1000 ≤ (now : Int) - s.expectedEdge now ∧ (now : Int) - s.expectedEdge now ≤ 1000
      then { s.at_ now with stk := { (s.at_ now).stk.correct ((now : Int) - s.expectedEdge now) with refHoldover := false },
                            pwr := { s.pwr with tsyncAt := some now, tsync := true } }
      else { s.at_ now with pwr := { s.pwr with tsync := true } }.setFld Reg.pwrGlitch 23 16 (satAdd 255 (s.fld Reg.pwrGlitch 23 16) 1)) := by
    change execTsyncInPulse now s = _
    unfold execTsyncInPulse
    dsimp only
    rw [if_neg (by rw [mode]; simp), edge]
    split <;> rfl
  rw [run] at goes
  refine ⟨_, run, ?_, goes.only⟩
  split
  · next near =>
    refine ⟨rfl, rfl, rfl, fun large => ?_⟩
    show ((s.at_ now).stk.correct _).slew = _
    rw [Stk.correct, if_neg (by omega), if_pos (by omega)]
  · refine ⟨?_, rfl, State.fld_setFld_same _ _ (by omega) (by unfold satAdd; omega)⟩
    show { s.stk with time := max s.stk.time now } = _
    rw [Nat.max_eq_right later]

theorem tsyncOutPulse_pulses (s : State) (now : Nat) (_later : s.stk.time ≤ now) (up : s.pwr.tripped = false) :
    ∃ t, exec (.tsyncOutPulse now) s = .next t ∧
      ((s.fld Reg.stkTimeSrc 29 28 = 2 ∧ now % 1000000000 = 0) ∨
        (s.fld Reg.stkTimeSrc 29 28 = 1 ∧ s.stk.running = true ∧ s.stk.cfg.boundary (s.stk.cfg.strokeAt now) = now) →
          t.out = s.out ++ [.tsyncPulse now] ∧ t.stk.tsyncOut = some now) ∧
      (s.fld Reg.stkTimeSrc 29 28 = 0 → t.out = s.out ∧ t.stk.tsyncOut = s.stk.tsyncOut) ∧ s.Only [.stk, .out] t := by
  have goes : s.Goes [.stk, .out] (exec (.tsyncOutPulse now) s) := (s.keeps_self _).goes_tsyncOutPulse (by decide) now
  have run : exec (.tsyncOutPulse now) s = .next (if ((s.fld Reg.stkTimeSrc 29 28 = 1 ∧ s.stk.running = true) ∧ s.stk.cfg.boundary (s.stk.cfg.strokeAt now) = now) ∨
      (s.fld Reg.stkTimeSrc 29 28 = 2 ∧ now % 1000000000 = 0)
      then { s.at_ now with stk := { (s.at_ now).stk with tsyncOut := some now } }.emit (.tsyncPulse now) else s.at_ now) := by
    change execTsyncOutPulse now s = _
    unfold execTsyncOutPulse
    simp only [show (s.at_ now).pwr.tripped = false from up, Bool.not_false, Bool.and_true, Bool.or_eq_true, Bool.and_eq_true, beq_iff_eq]
    simp only [show (s.at_ now).fld Reg.stkTimeSrc 29 28 = s.fld Reg.stkTimeSrc 29 28 from rfl, show (s.at_ now).stk.running = s.stk.running from rfl,
      show (s.at_ now).stk.cfg = s.stk.cfg from rfl]
    split <;> rfl
  rw [run] at goes
  refine ⟨_, run, fun due => ?_, fun off => ?_, goes.only⟩
  · rw [if_pos (by tauto)]
    exact ⟨rfl, rfl⟩
  · rw [if_neg (by rw [off]; simp)]
    exact ⟨rfl, rfl⟩

/-- Settles O7: the clock follows its parent by the offset that an exchange measures. -/
theorem timeTree : Obligations.TimeTree :=
  ⟨syncSend_sends, syncExchange_measures, parentLost_fallsBack, unaligned_posts, refHoldover_begins, tsyncInPulse_corrects, tsyncOutPulse_pulses⟩

end Sys2Proof.Machine
end

section
/-!
PROOFS. Stroke configurations and time setting at the grandmaster (O8).
-/
namespace Sys2Proof.Machine

/-! ### The packet taken -/

theorem State.take_stk (s : State) (h : Header) (o n : Nat) (b : Bool) : (s.take h o n b).1.stk = (s.at_ h.now).stk := by
  unfold State.take
  dsimp only
  (repeat' split) <;> simp_all

theorem State.Serves.stk {s s1 : State} {q : PktReq} {h : Header} {own : Bool} {r : ReplyTo} (hs : s.Serves q h own r s1) :
    s1.stk = { s.stk with time := max s.stk.time h.now } := by
  rw [hs.taken, State.take_stk]; rfl

theorem State.Serves.only {s s1 : State} {q : PktReq} {h : Header} {own : Bool} {r : ReplyTo} (hs : s.Serves q h own r s1) :
    s.Only [.bar, .stk, .cmd, .host, .out] s1 := by
  rw [hs.taken]
  exact ((s.keeps_self _).take (by decide) h q.op q.replies own).only

theorem exec_strokeConfig {s s1 : State} {h : Header} {r : ReplyTo} (mode : Nat) (cfg : StrokeCfg) (n rsv : Nat)
    (hs : s.Serves ⟨0x0601, 1, false, false, 32, rsv, 0, false⟩ h false r s1) : exec (.strokeConfig h mode cfg n rsv) s =
      .next (State.done { s1 with stk := { s1.stk with pend := (s1.stk.configure mode cfg n).2 } } r (s1.stk.configure mode cfg n).1) :=
  congrArg Host.Outcome.next (State.serve_of_serves hs _)

/-- A configuration whose first boundary lies behind by less than a period is in its base stroke. -/
theorem StrokeCfg.strokeInt_within {c : StrokeCfg} {t : Nat} (after : c.epoch ≤ t) (before : t < c.epoch + c.periodUs * 1000) : c.strokeInt t = c.base := by
  have zero : ((t : Int) - c.epoch) / ((c.periodUs * 1000 : Nat) : Int) = 0 := Int.ediv_eq_zero_of_lt (by omega) (by omega)
  rw [StrokeCfg.strokeInt, zero, Int.add_zero]

theorem strokeConfig_start (s s1 : State) (h : Header) (r : ReplyTo) (cfg : StrokeCfg) (n rsv : Nat)
    (hs : s.Serves ⟨0x0601, 1, false, false, 32, rsv, 0, false⟩ h false r s1) (gm : s.stk.role = 2) (idle : s.stk.running = false) (none_ : s.stk.pend = none)
    (valid : cfg.valid = true) (after : cfg.epoch ≤ s1.stk.time) (before : s1.stk.time < cfg.epoch + cfg.periodUs * 1000) (word : n < 2 ^ 48) :
    ∃ t, exec (.strokeConfig h 0 cfg n rsv) s = .next t ∧
      t.stk = { s1.stk with pend := some ⟨{ cfg with base := n }, n + ceilDiv (s1.stk.time + 2000000 - cfg.epoch) (cfg.periodUs * 1000), true⟩ } ∧
      t = State.done { s1 with stk := t.stk } r .ok := by
  have role : s1.stk.role = 2 := by rw [hs.stk]; exact gm
  have running : s1.stk.running = false := by rw [hs.stk]; exact idle
  have pend : s1.stk.pend = none := by rw [hs.stk]; exact none_
  have conf : s1.stk.configure 0 cfg n =
      (.ok, some ⟨{ cfg with base := n }, n + ceilDiv (s1.stk.time + 2000000 - cfg.epoch) (cfg.periodUs * 1000), true⟩) := by
    have within : ({ cfg with base := n } : StrokeCfg).strokeInt s1.stk.time = n := StrokeCfg.strokeInt_within after before
    have bound : ¬((2 : Int) ^ 48 ≤ n) := by norm_num at word ⊢; omega
    simp [Stk.configure, role, running, pend, valid, within, StrokeCfg.nFirst, bound]
    omega
  refine ⟨_, exec_strokeConfig 0 cfg n rsv hs, ?_, ?_⟩
  · rw [conf]; simp
  · rw [conf]; simp

theorem strokeConfig_change (s s1 : State) (h : Header) (r : ReplyTo) (cfg : StrokeCfg) (n rsv : Nat)
    (hs : s.Serves ⟨0x0601, 1, false, false, 32, rsv, 0, false⟩ h false r s1) (gm : s.stk.role = 2) (runs : s.stk.running = true) (none_ : s.stk.pend = none)
    (valid : cfg.valid = true) (later : s.stk.stroke + 2 ≤ n) (word : n < 2 ^ 48) (ahead : s1.stk.time + 2000000 ≤ s.stk.cfg.boundary n) :
    exec (.strokeConfig h 1 cfg n rsv) s =
      .next (State.done { s1 with stk := { s1.stk with pend := some { cfg := cfg, n0 := n, start := false } } } r .ok) := by
  have conf : s1.stk.configure 1 cfg n = (.ok, some { cfg := cfg, n0 := n, start := false }) := by
    have role : s1.stk.role = 2 := by rw [hs.stk]; exact gm
    have running : s1.stk.running = true := by rw [hs.stk]; exact runs
    have pend : s1.stk.pend = none := by rw [hs.stk]; exact none_
    have stroke : s1.stk.stroke = s.stk.stroke := by rw [hs.stk]
    have same : s1.stk.cfg = s.stk.cfg := by rw [hs.stk]
    simp [Stk.configure, role, running, pend, valid, stroke, same]
    omega
  rw [exec_strokeConfig 1 cfg n rsv hs, conf]

/-- Settles O8: what `Stk.configure` and TIME_SET do at the grandmaster, and that no other device takes either. -/
theorem strokeConfig : Obligations.StrokeConfig := by
  refine ⟨strokeConfig_start, strokeConfig_change, fun s s1 h r mode cfg n rsv hs child => ?_, fun s s1 h r time hs gm idle => ?_,
    fun s s1 h r time hs child => ?_⟩
  · have role : s1.stk.role ≠ 2 := by rw [hs.stk]; exact child
    rw [exec_strokeConfig mode cfg n rsv hs, Stk.configure, if_pos role]
  · have role : s1.stk.role = 2 := by rw [hs.stk]; exact gm
    have running : s1.stk.running = false := by rw [hs.stk]; exact idle
    refine congrArg Host.Outcome.next ((State.serve_of_serves hs _).trans ?_)
    simp [role, running]
  · have role : s1.stk.role ≠ 2 := by rw [hs.stk]; exact child
    refine congrArg Host.Outcome.next ((State.serve_of_serves hs _).trans ?_)
    simp [role]

end Sys2Proof.Machine
end

section
/-!
PROOFS. Stroke boundaries, phases, the ink point and the end of Commit (O9).
-/
namespace Sys2Proof.Machine

/-! ### A partition after a change of one -/

theorem getD_modify_eq {α : Type} (l : List α) (i : Nat) (f : α → α) (d : α) (j : Nat) :
    (l.modify i f).getD j d = if i = j ∧ j < l.length then f (l.getD j d) else l.getD j d := by
  rw [List.getD_eq_getElem?_getD, List.getD_eq_getElem?_getD, List.getElem?_modify]
  by_cases inside : j < l.length
  · rw [List.getElem?_eq_getElem inside]
    by_cases hit : i = j <;> simp [hit, inside]
  · rw [List.getElem?_eq_none (by omega)]
    simp [inside]

theorem State.part_modPart (s : State) (p : Nat) (f : Part → Part) (q : Nat) :
    (s.modPart p f).part q = if p = q ∧ q < s.pln.parts.length then f (s.part q) else s.part q := getD_modify_eq _ _ _ _ _

theorem State.part_modPart_ne (s : State) {p q : Nat} (f : Part → Part) (ne : q ≠ p) : (s.modPart p f).part q = s.part q := by
  rw [State.part_modPart, if_neg fun h => ne h.1.symm]

theorem State.part_of_ge (s : State) {p : Nat} (h : s.pln.parts.length ≤ p) : s.part p = Part.reset := by
  rw [State.part, List.getD_eq_default _ _ h]

/-- A change that a partition out of the table would not show shows at every partition. -/
theorem State.part_modPart_same (s : State) (p : Nat) (f : Part → Part) (still : f Part.reset = Part.reset) : (s.modPart p f).part p = f (s.part p) := by
  rw [State.part_modPart]
  split
  · rfl
  · next out =>
    rw [s.part_of_ge (by simpa using out), still]

/-- A partition that differs from the reset one is in the table. -/
theorem State.part_lt {s : State} {p : Nat} (h : s.part p ≠ Part.reset) : p < s.pln.parts.length := by
  by_contra out
  exact h (s.part_of_ge (by omega))

theorem State.part_congr {s t : State} (h : t.pln = s.pln) (p : Nat) : t.part p = s.part p := by rw [State.part, State.part, h]

/-! ### ISSUE_PHASE -/

/-- What ISSUE_AT does to a partition: one whose Commit is open skips the stroke, and an unfinished Plan ends (R57). -/
def Part.issued (q : Part) : Part := { q with skipped := q.skipped || q.commitOpen, planMax := none }

theorem State.part_skipIfOpen (s : State) (p : Nat) : (s.skipIfOpen p).part p = { s.part p with skipped := (s.part p).skipped || (s.part p).commitOpen } := by
  unfold State.skipIfOpen
  split
  · next open_ =>
    have inside : p < s.pln.parts.length := State.part_lt fun e => by rw [e] at open_; exact absurd open_.1 (by decide)
    rw [State.part_congr (s := s.modPart p fun q => { q with skipped := true }) (by simp), State.part_modPart, if_pos ⟨rfl, inside⟩]
    simp [open_.1]
  · next closed =>
    have same : ((s.part p).skipped || (s.part p).commitOpen) = (s.part p).skipped := by
      cases a : (s.part p).skipped <;> cases b : (s.part p).commitOpen <;> simp_all
    rw [same]

theorem State.part_skipIfOpen_ne (s : State) {p q : Nat} (ne : q ≠ p) : (s.skipIfOpen p).part q = s.part q := by
  unfold State.skipIfOpen
  split
  · rw [State.part_congr (s := s.modPart p fun q => { q with skipped := true }) (by simp), s.part_modPart_ne _ ne]
  · rfl

theorem State.part_endPlan (s : State) (p : Nat) : (s.endPlan p).part p = { s.part p with planMax := none } := by
  unfold State.endPlan
  split
  · rw [State.part_congr (s := s.modPart p fun q => { q with planMax := none }) (by simp), State.part_modPart_same _ _ _ rfl]
  · next none_ =>
    have same : (s.part p).planMax = none := by simpa using none_
    rw [← same]

theorem State.part_endPlan_ne (s : State) {p q : Nat} (ne : q ≠ p) : (s.endPlan p).part q = s.part q := by
  unfold State.endPlan
  split
  · rw [State.part_congr (s := s.modPart p fun q => { q with planMax := none }) (by simp), s.part_modPart_ne _ ne]
  · rfl

theorem State.part_issued (l : List Nat) (s : State) (q : Nat) :
    (l.foldl (fun (a : State) p => (a.skipIfOpen p).endPlan p) s).part q = if q ∈ l then (s.part q).issued else s.part q := by
  induction l generalizing s with
  | nil => rfl
  | cons p l ih =>
    rw [List.foldl_cons, ih]
    by_cases e : q = p
    · subst e
      rw [State.part_endPlan, State.part_skipIfOpen]
      simp [Part.issued]
    · rw [State.part_endPlan_ne _ e, State.part_skipIfOpen_ne _ e]
      simp [e]

theorem State.beginPhase_of {s : State} {from_ : Phase} (to_ : Phase) (point : Nat) (runs : s.stk.running = true) (phase : s.stk.phase = from_) :
    s.beginPhase from_ to_ point = some { s with stk := { s.stk with time := max s.stk.time (s.stk.cfg.point s.stk.stroke point), phase := to_ } } := by
  rw [State.beginPhase, if_pos ⟨runs, phase⟩]; rfl

theorem issuePhase_issues (s : State) (runs : s.stk.running = true) (phase : s.stk.phase = .plan) :
    ∃ t, exec .issuePhase s = .next t ∧ t.stk = { s.stk with time := max s.stk.time (s.stk.cfg.point s.stk.stroke s.stk.cfg.issueAt), phase := .issue } ∧
      (∀ p, p < 16 → t.part p = { s.part p with skipped := (s.part p).skipped || (s.part p).commitOpen, planMax := none }) ∧ s.Only [.stk, .pln, .bar, .blt] t := by
  have goes : s.Goes [.stk, .pln, .bar, .blt] (exec .issuePhase s) := (s.keeps_self _).goes_issuePhase (by decide)
  let s1 : State := { s with stk := { s.stk with time := max s.stk.time (s.stk.cfg.point s.stk.stroke s.stk.cfg.issueAt), phase := .issue } }
  have run : exec .issuePhase s = .next ((List.range 16).foldl (fun (a : State) p => (a.skipIfOpen p).endPlan p) s1) := by
    change execIssuePhase s = _
    rw [execIssuePhase, State.beginPhase_of .issue _ runs phase]
  rw [run] at goes
  refine ⟨_, run, ?_, fun p below => ?_, goes.only⟩
  · exact (State.Keeps.only (State.Keeps.foldl (s1.keeps_self [.pln, .bar, .blt]) _ _ fun t p k =>
      (k.skipIfOpen (by decide) p).endPlan (by decide) p)).stk
  · rw [State.part_issued, if_pos (List.mem_range.2 below)]; rfl

/-! ### The other phases -/

theorem exchangePhase_begins (s : State) (runs : s.stk.running = true) (phase : s.stk.phase = .compute) :
    ∃ t, exec .exchangePhase s = .next t ∧ t.stk = { s.stk with time := max s.stk.time (s.stk.cfg.point s.stk.stroke s.stk.cfg.exchangeAt), phase := .exchange } ∧
      s.Only [.stk, .sat, .kva, .pln, .memory, .sec, .out, .freeCtr] t := by
  have goes : s.Goes [.stk, .sat, .kva, .pln, .memory, .sec, .out, .freeCtr] (exec .exchangePhase s) := (s.keeps_self _).goes_exchangePhase (by decide)
  let s1 : State := { s with stk := { s.stk with time := max s.stk.time (s.stk.cfg.point s.stk.stroke s.stk.cfg.exchangeAt), phase := .exchange } }
  have run : exec .exchangePhase s =
      .next (((s1.ctxs.map fun e => e.1).foldl State.migrate ((s1.sat.sats.map fun e => e.1).foldl State.offerDue s1)).rehomeSend) := by
    change execExchangePhase s = _
    rw [execExchangePhase, State.beginPhase_of .exchange _ runs phase]
  rw [run] at goes
  refine ⟨_, run, ?_, goes.only⟩
  have offered := (s1.keeps_self [.sat, .kva, .pln, .memory, .sec, .out, .freeCtr]).foldl (s1.sat.sats.map fun e => e.1) State.offerDue
    fun t p k => k.offerDue (by decide) p
  exact ((offered.foldl (s1.ctxs.map fun e => e.1) State.migrate fun t p k => k.migrate (by decide) p).rehomeSend (by decide)).only.stk

theorem inkPoint_opensCommit (s : State) (late : List SatchelId) (runs : s.stk.running = true) (phase : s.stk.phase = .exchange) :
    ∃ t, exec (.inkPoint late) s = .next t ∧ t.stk = { s.stk with time := max s.stk.time (s.stk.cfg.point s.stk.stroke s.stk.cfg.commitAt), phase := .commit } ∧
      (s.blt.l3 = false → ∀ p, (t.part p).state = .ready → (t.part p).composing = none → (t.part p).commitOpen = true) ∧
      s.Only [.stk, .bar, .sat, .kva, .cores, .pln, .memory, .fls, .cmd, .host, .out, .freeCtr] t := by
  have goes : s.Goes [.stk, .bar, .sat, .kva, .cores, .pln, .memory, .fls, .cmd, .host, .out, .freeCtr] (exec (.inkPoint late) s) :=
    (s.keeps_self _).goes_inkPoint (by decide) late
  let s1 : State := { s with stk := { s.stk with time := max s.stk.time (s.stk.cfg.point s.stk.stroke s.stk.cfg.commitAt), phase := .commit } }
  let slots := s1.sat.sats.map fun e => e.1
  let s3 := slots.foldl State.report (slots.foldl (fun (a : State) k => a.inkSat late k) s1.dropEntries)
  have run : exec (.inkPoint late) s = .next (if s.blt.l3 then slots.foldl (fun (a : State) k => a.modSat k fun y => { y with planned := none, prov := none }) s1.dropEntries
      else { s3 with pln := { s3.pln with parts := s3.pln.parts.map fun q => if q.state = .ready ∧ q.composing.isNone then { q with commitOpen := true } else q } }) := by
    change execInkPoint late s = _
    rw [execInkPoint, State.beginPhase_of .commit _ runs phase]
    dsimp only
    split <;> rfl
  rw [run] at goes
  refine ⟨_, run, ?_, fun quiet p ready whole => ?_, goes.only⟩
  · have dropped := (s1.keeps_self [.bar, .sat, .kva, .cores, .pln, .memory, .fls, .cmd, .host, .out, .freeCtr]).dropEntries (by decide)
    split
    · exact (dropped.foldl slots _ fun t k kt => kt.modSat (by decide) k _).only.stk
    · have inked := dropped.foldl slots (fun (a : State) k => a.inkSat late k) fun t k kt => kt.inkSat (by decide) late k
      exact (inked.foldl slots State.report fun t k kt => kt.report (by decide) k).only.stk
  · rw [if_neg (by simp [quiet])] at ready whole ⊢
    simp only [State.part, List.getD_eq_getElem?_getD, List.getElem?_map] at ready whole ⊢
    cases e : s3.pln.parts[p]? with
    | none => rw [e] at ready; exact absurd ready (by decide)
    | some q =>
      rw [e] at ready whole
      simp only [Option.map_some, Option.getD_some] at ready whole ⊢
      by_cases opens : q.state = .ready ∧ q.composing.isNone
      · rw [if_pos opens]
      · rw [if_neg opens] at ready whole
        exact absurd ⟨ready, by simp [whole]⟩ opens

/-! ### STROKE_BOUNDARY -/

/-- Nothing that a boundary does behind the stroke's begin touches system time and strokes. -/
theorem State.boundary_stk (s : State) (preds : List Predict) (cuts : List (Fin 16 × Nat)) :
    (if s.boundaryWork.stk.mismatch then s.boundaryWork else (List.finRange 16).foldl (fun (a : State) p =>
      a.plan preds ((cuts.find? fun e => e.1 == p).map fun e => e.2) p) s.boundaryWork).stk = s.stk := by
  have worked := (s.keeps_self [.bar, .sat, .kva, .cores, .pln, .memory, .fls, .shp, .cmd, .blt, .sec, .host, .pwr, .out, .freeCtr]).boundaryWork (by decide)
  exact (worked.ite (worked.foldl _ _ fun t p k => k.plan (by decide) preds _ p)).only.stk

theorem State.checkMismatch_gm {s : State} (gm : s.stk.role = 2) : s.checkMismatch = s := by
  simp [State.checkMismatch, gm]

theorem strokeBoundary_runs {s : State} {n : Nat} {c : StrokeCfg} (preds : List Predict) (cuts : List (Fin 16 × Nat)) (next : s.stk.next = some (n, c, 0))
    (gm : s.stk.role = 2) : ∃ t, exec (.strokeBoundary preds cuts) s = .next t ∧ t.stk = (s.beginStroke n c 0).stk := by
  have role : (s.beginStroke n c 0).stk.role = 2 := by
    unfold State.beginStroke
    dsimp only
    rw [State.count_stk]
    split <;> exact gm
  refine ⟨_, ?_, State.boundary_stk _ preds cuts⟩
  change execStrokeBoundary preds cuts s = _
  rw [execStrokeBoundary, next]
  dsimp only
  rw [State.checkMismatch_gm role]

theorem strokeBoundary_next (s : State) (preds : List Predict) (cuts : List (Fin 16 × Nat)) (runs : s.stk.running = true) (phase : s.stk.phase = .commit)
    (none_ : s.stk.pend = none) (gm : s.stk.role = 2) :
    ∃ t, exec (.strokeBoundary preds cuts) s = .next t ∧
      t.stk = { s.stk with time := max s.stk.time (s.stk.cfg.boundary (s.stk.stroke + 1)), stroke := s.stk.stroke + 1, phase := .plan } ∧
      s.Only [.stk, .bar, .sat, .kva, .cores, .pln, .memory, .fls, .shp, .cmd, .blt, .sec, .host, .pwr, .out, .freeCtr] t := by
  have goes : s.Goes [.stk, .bar, .sat, .kva, .cores, .pln, .memory, .fls, .shp, .cmd, .blt, .sec, .host, .pwr, .out, .freeCtr] (exec (.strokeBoundary preds cuts) s) :=
    (s.keeps_self _).goes_strokeBoundary (by decide) preds cuts
  have next : s.stk.next = some (s.stk.stroke + 1, s.stk.cfg, 0) := by simp [Stk.next, runs, none_, phase]
  obtain ⟨t, run, stk⟩ := strokeBoundary_runs preds cuts next gm
  rw [run] at goes
  refine ⟨t, run, stk.trans ?_, goes.only⟩
  simp [State.beginStroke, none_, runs, State.at_]

theorem strokeBoundary_starts (s : State) (preds : List Predict) (cuts : List (Fin 16 × Nat)) (q : PendCfg) (idle : s.stk.running = false)
    (pend : s.stk.pend = some q) (start : q.start = true) (gm : s.stk.role = 2) :
    ∃ t, exec (.strokeBoundary preds cuts) s = .next t ∧
      t.stk = { s.stk with time := max s.stk.time (q.cfg.boundary q.n0), cfg := q.cfg, running := true, stroke := q.n0, phase := .plan, pend := none, mismatch := false,
                            refAt := if s.refMode = 2 then q.cfg.boundary q.n0 else s.stk.refAt } := by
  have next : s.stk.next = some (q.n0, q.cfg, 0) := by simp [Stk.next, idle, pend, start]
  obtain ⟨t, run, stk⟩ := strokeBoundary_runs preds cuts next gm
  refine ⟨t, run, stk.trans ?_⟩
  by_cases mode : s.refMode = 2 <;> simp [State.beginStroke, idle, pend, start, mode, State.at_]

/-! ### COMMIT_COMPLETE -/

/-- COMMIT_COMPLETE of a partition whose Commit is open, in the Commit phase, without a suspend that waits. -/
theorem exec_commitComplete {s : State} (p : Fin 16) (now : Nat) (preds : List Predict) (cut : Option Nat) (open_ : (s.part p.val).commitOpen = true)
    (awake : (s.part p.val).suspendTag = none) (phase : s.stk.phase = .commit) :
    let s2 := ((s.at_ now).modPart p.val fun y => { y with commitOpen := false }).freeAdapters p
    exec (.commitComplete p now preds cut) s =
      .next (if s.stk.running = true ∧ (s2.pln.parts.all fun y => !y.commitOpen) = true then s2.applyStep else s2) := by
  intro s2
  have early : ¬((s.at_ now).stk.phase = .plan ∧ (s.at_ now).stk.cfg.point (s.at_ now).stk.stroke (s.at_ now).stk.cfg.issueAt ≤ now) := fun h => by
    have plan : s.stk.phase = .plan := h.1
    rw [phase] at plan; cases plan
  have stays (t : State) (h : t.stk.phase = .commit) : ¬(t.stk.phase = .plan ∧ (s.part p.val).skipped = false ∧ t.stk.mismatch = false) := fun h' => by
    rw [h] at h'; exact absurd h'.1 (by decide)
  have q : (s.at_ now).part p.val = s.part p.val := rfl
  have phase2 : s2.stk.phase = .commit := phase
  have running : s2.stk.running = s.stk.running := rfl
  have step : s2.applyStep.stk.phase = .commit := by
    unfold State.applyStep
    split
    · exact phase2
    · simpa using phase2
  change execCommitComplete p now preds cut s = _
  unfold execCommitComplete
  simp only [if_neg early, q, open_, if_true, awake]
  rw [show ((s.at_ now).modPart p.val fun y => { y with commitOpen := false }).freeAdapters p = s2 from rfl, phase2, running]
  simp only [true_and, Option.isSome_none, Bool.false_eq_true, false_and, if_false, reduceCtorEq]
  split
  · rw [if_neg (stays _ step)]
  · rw [if_neg (stays _ phase2)]

/-- The Commit of every partition once it is closed for one. -/
theorem State.commitOpen_closed (s : State) (p : Fin 16) (now q : Nat) :
    ((((s.at_ now).modPart p.val fun y => { y with commitOpen := false }).freeAdapters p).part q).commitOpen =
      if q = p.val then false else (s.part q).commitOpen := by
  unfold State.freeAdapters
  dsimp only
  by_cases e : q = p.val
  · subst e
    rw [State.part_modPart_same _ _ _ rfl, State.part_modPart_same _ _ _ rfl, if_pos rfl]
  · rw [State.part_modPart_ne _ _ e, State.part_modPart_ne _ _ e, if_neg e]
    rfl

theorem State.closed_only (s : State) (p : Fin 16) (now : Nat) :
    s.Only [.stk, .pln] (((s.at_ now).modPart p.val fun y => { y with commitOpen := false }).freeAdapters p) :=
  ((((s.keeps_self _).at_ (by decide) now).modPart (by decide) p.val _).freeAdapters (by decide) p).only

theorem commitComplete_closes (s : State) (p : Fin 16) (now : Nat) (preds : List Predict) (cut : Option Nat) (open_ : (s.part p.val).commitOpen = true)
    (awake : (s.part p.val).suspendTag = none) (phase : s.stk.phase = .commit) (none_ : s.stk.step = none) :
    ∃ t, exec (.commitComplete p now preds cut) s = .next t ∧ t.stk = { s.stk with time := max s.stk.time now } ∧ (t.part p.val).commitOpen = false ∧
      (∀ q, q ≠ p.val → (t.part q).commitOpen = (s.part q).commitOpen) ∧ s.Only [.stk, .pln] t := by
  refine ⟨((s.at_ now).modPart p.val fun y => { y with commitOpen := false }).freeAdapters p, ?_, rfl, ?_, fun q ne => ?_, s.closed_only p now⟩
  · rw [exec_commitComplete p now preds cut open_ awake phase]
    have still : (((s.at_ now).modPart p.val fun y => { y with commitOpen := false }).freeAdapters p).applyStep =
        ((s.at_ now).modPart p.val fun y => { y with commitOpen := false }).freeAdapters p := by
      rw [State.applyStep, show (((s.at_ now).modPart p.val fun y => { y with commitOpen := false }).freeAdapters p).stk.step = none from none_]
    rw [still, ite_self]
  · rw [s.commitOpen_closed, if_pos rfl]
  · rw [s.commitOpen_closed, if_neg ne]

theorem commitComplete_steps (s : State) (p : Fin 16) (now : Nat) (preds : List Predict) (cut : Option Nat) (d : Int) (open_ : (s.part p.val).commitOpen = true)
    (awake : (s.part p.val).suspendTag = none) (phase : s.stk.phase = .commit) (runs : s.stk.running = true) (step : s.stk.step = some d)
    (last : ∀ q, q ≠ p.val → (s.part q).commitOpen = false) :
    ∃ t, exec (.commitComplete p now preds cut) s = .next t ∧ t.stk.time = addTime (max s.stk.time now) d ∧ t.stk.step = none ∧ s.stk.stroke ≤ t.stk.stroke ∧
      s.Only [.stk, .pln, .bar] t := by
  have run := exec_commitComplete p now preds cut open_ awake phase
  have closed := s.commitOpen_closed p now
  have only := s.closed_only p now
  have stk : (((s.at_ now).modPart p.val fun y => { y with commitOpen := false }).freeAdapters p).stk = (s.at_ now).stk := rfl
  generalize ((s.at_ now).modPart p.val fun y => { y with commitOpen := false }).freeAdapters p = u at run closed only stk
  have all : (u.pln.parts.all fun y => !y.commitOpen) = true := by
    rw [List.all_eq_true]
    intro y mem
    obtain ⟨q, inside, rfl⟩ := List.mem_iff_getElem.1 mem
    have one : (u.part q).commitOpen = false := by
      rw [closed]
      split
      · rfl
      · next ne => exact last q ne
    rw [State.part, List.getD_eq_getElem _ _ inside] at one
    simp [one]
  refine ⟨u.applyStep, by rw [run]; simp [runs, all], ?_, ?_, ?_, ?_⟩
  · simp [State.applyStep, stk, State.at_, step]
  · simp [State.applyStep, stk, State.at_, step]
  · simp [State.applyStep, stk, State.at_, step]
  · exact (only.mono (by decide)).trans (((u.keeps_self [.stk, .pln, .bar]).applyStep (by decide)).only)

/-- Settles O9: each phase begins at its point, and the work behind it leaves system time and strokes alone. -/
theorem strokePhases : Obligations.StrokePhases := by
  refine ⟨strokeBoundary_next, strokeBoundary_starts, issuePhase_issues, fun s runs phase => ?_, exchangePhase_begins, inkPoint_opensCommit, commitComplete_closes,
    commitComplete_steps⟩
  change execComputePhase s = _
  rw [execComputePhase, State.beginPhase_of .compute _ runs phase]

end Sys2Proof.Machine
end

section
/-!
PROOFS. Which satchels the shared operations on a satchel change, and to what.
-/
namespace Sys2Proof.Machine

theorem State.satAt_congr {s t : State} (h : t.sat.sats = s.sat.sats) (j : Nat) : t.satAt j = s.satAt j := by rw [State.satAt, State.satAt, h]

theorem State.satAt_of_sat {s t : State} (h : t.sat = s.sat) (j : Nat) : t.satAt j = s.satAt j := State.satAt_congr (by rw [h]) j

theorem State.satAt_modSat_same {s : State} {slot : Nat} {x : Sat} (f : Sat → Sat) (found : s.satAt slot = some x) : (s.modSat slot f).satAt slot = some (f x) := by
  rw [State.satAt_modSat, if_pos rfl, found]; rfl

theorem State.satAt_modSat_ne (s : State) {slot j : Nat} (f : Sat → Sat) (ne : j ≠ slot) : (s.modSat slot f).satAt j = s.satAt j := by
  rw [State.satAt_modSat, if_neg ne]

theorem State.withSlot_some {s : State} {slot : Nat} {x : Sat} (f : Sat → State) (found : s.satAt slot = some x) : s.withSlot slot f = f x := by
  rw [State.withSlot, found]

theorem State.withSlot_none {s : State} {slot : Nat} (f : Sat → State) (none_ : s.satAt slot = none) : s.withSlot slot f = s := by
  rw [State.withSlot, none_]

theorem State.withCtx_some {s : State} {c : Nat} {x : KvCtx} (f : KvCtx → State) (found : s.ctxAt c = some x) : s.withCtx c f = f x := by
  rw [State.withCtx, found]

theorem State.withCtx_none {s : State} {c : Nat} (f : KvCtx → State) (none_ : s.ctxAt c = none) : s.withCtx c f = s := by
  rw [State.withCtx, none_]

/-- An answer of a packet leaves the satchels. -/
theorem State.satAt_answer (s : State) (r : ReplyTo) (st : Status) (final : Bool) (res : List Byte) (j : Nat) : (s.answer r st final res).satAt j = s.satAt j :=
  State.satAt_of_sat (((s.keeps_self _).answer (sub_self _) r st final res).only.sat) j

theorem State.satAt_done (s : State) (r : ReplyTo) (st : Status) (j : Nat) : (s.done r st).satAt j = s.satAt j := s.satAt_answer r st true [] j

theorem State.satAt_doneAll (s : State) (l : List ReplyTo) (st : Status) (j : Nat) : (s.doneAll l st).satAt j = s.satAt j :=
  State.satAt_of_sat (((s.keeps_self [.bar, .cmd, .host, .out]).foldl l _ fun t r k => k.done (sub_self _) r st).only.sat) j

theorem State.satAt_endMove (s : State) (x : Sat) (st : Status) (j : Nat) : (s.endMove x st).satAt j = s.satAt j :=
  State.satAt_of_sat ((s.keeps_self _).endMove (sub_self _) x st).only.sat j

/-- A change of a satchel's KV context below 2^22 is a change of the satchel; a satellite's leaves every satchel. -/
theorem State.satAt_modCtx (s : State) (c j : Nat) (f : KvCtx → KvCtx) :
    (s.modCtx c f).satAt j = if c < 2 ^ 22 ∧ j = c then (s.satAt c).map (fun y => { y with toKvCtx := f y.toKvCtx }) else s.satAt j := by
  unfold State.modCtx
  by_cases low : c < 2 ^ 22
  · rw [if_pos low, State.satAt_modSat]
    by_cases e : j = c
    · rw [if_pos e, if_pos ⟨low, e⟩]
    · rw [if_neg e, if_neg fun h => e h.2]
  · rw [if_neg low, if_neg fun h => low h.1]
    rfl

theorem State.satAt_modCtx_ne (s : State) {c j : Nat} (f : KvCtx → KvCtx) (ne : j ≠ c) : (s.modCtx c f).satAt j = s.satAt j := by
  rw [State.satAt_modCtx, if_neg fun h => ne h.2]

theorem State.ctxAt_of_satAt {s : State} {slot : Nat} {x : Sat} (low : slot < 4194304) (found : s.satAt slot = some x) : s.ctxAt slot = some x.toKvCtx := by
  rw [State.ctxAt, if_pos (by omega), found]; rfl

theorem State.freeLodging_sats (s : State) (id : SatchelId) : (s.freeLodging id).sat.sats = s.sat.sats := by
  unfold State.freeLodging
  dsimp only
  generalize hs1 : ({ s with sat := { s.sat with lodgings := s.sat.lodgings.filter fun y => y.id != id } } : State) = s1
  have rows := (s1.keeps_self [.kva, .pln, .fls]).foldl (s.sat.lodgings.filter fun y => y.id == id) (fun a y => y.rows.foldl (fun b r => b.dropRow y.part.val r) a)
    fun t y k => k.foldl _ _ fun u r ku => ku.dropRow (sub_self _) _ r
  rw [rows.only.sat, ← hs1]

theorem State.endLodging_sats (s : State) (dev : DeviceId) (id : SatchelId) : (s.endLodging dev id).sat.sats = s.sat.sats := by
  unfold State.endLodging
  split
  · exact s.freeLodging_sats id
  · rfl

/-! ### The pages of a context freed -/

/-- A satchel whose parked blocks are freed. -/
def KvCtx.blocksFreed (y : KvCtx) : KvCtx := { y with cold := [], units := 0 }

/-- A context whose pages are freed. -/
def KvCtx.pagesFreed (y : KvCtx) : KvCtx :=
  { y with cold := [], rows := [], home := [], staged := [], units := 0, park := .idle, migrating := false, lodge := 0xFFFF, migrated := 0, swapOut := [], returns := [] }

/-- A satchel whose pages are freed. -/
def Sat.pagesFreed (y : Sat) : Sat := { y with toKvCtx := y.toKvCtx.pagesFreed }

theorem State.satAt_freeBlocks (s : State) (c j : Nat) :
    (s.freeBlocks c).satAt j = if c < 2 ^ 22 ∧ j = c then (s.satAt c).map (fun y => { y with toKvCtx := y.toKvCtx.blocksFreed }) else s.satAt j := by
  cases found : s.ctxAt c with
  | none =>
    rw [State.freeBlocks, State.withCtx_none _ found]
    split
    · next h =>
      rw [State.ctxAt, if_pos h.1, Option.map_eq_none_iff] at found
      rw [h.2, found]; rfl
    · rfl
  | some x =>
    rw [State.freeBlocks, State.withCtx_some _ found]
    have units (j : Nat) : (s.t2Free 992 x.cold).satAt j = s.satAt j := State.satAt_of_sat ((s.keeps_self _).t2Free (sub_self _) 992 x.cold).only.sat j
    have left (k : Kva) (j : Nat) : ({ s.t2Free 992 x.cold with kva := k } : State).satAt j = s.satAt j := units j
    simp only [State.satAt_modCtx, left]
    rfl

theorem State.satAt_freeCtx (s : State) (c j : Nat) :
    (s.freeCtx c).satAt j = if c < 2 ^ 22 ∧ j = c then (s.satAt c).map Sat.pagesFreed else s.satAt j := by
  cases found : s.ctxAt c with
  | none =>
    rw [State.freeCtx, State.withCtx_none _ found]
    split
    · next h =>
      rw [State.ctxAt, if_pos h.1, Option.map_eq_none_iff] at found
      rw [h.2, found]; rfl
    · rfl
  | some x =>
    rw [State.freeCtx, State.withCtx_some _ found]
    extract_lets p s1 s2 s3 s4
    have k1 : s.Keeps [.kva, .pln, .fls, .out] s1 :=
      (State.Keeps.foldl (s.keeps_self _) x.rows _ fun t r k => k.dropRow (by decide) p r).foldl _ _ fun t r k => k.dropRow (by decide) p r
    have k2 : s.Keeps [.kva, .pln, .fls, .out] s2 := (k1.foldl _ _ fun t r k => k.freeRow (by decide) p r).dropSwapOut (by decide) x
    have sats3 (j : Nat) : s3.satAt j = s.satAt j := by
      have same2 : s2.satAt j = s.satAt j := State.satAt_of_sat k2.only.sat j
      simp only [s3]
      split
      · exact (State.satAt_congr (s2.endLodging_sats _ _) j).trans same2
      · exact same2
    have sats4 (j : Nat) : (s3.toOthers c x (shardDrop x.id)).satAt j = s.satAt j :=
      (State.satAt_of_sat ((s3.keeps_self _).toOthers (sub_self _) c x _).only.sat j).trans (sats3 j)
    rw [State.satAt_modCtx]
    simp only [s4, State.satAt_freeBlocks, sats4]
    split
    · next h =>
      obtain ⟨low, rfl⟩ := h
      rw [if_pos ⟨low, trivial⟩, Option.map_map]; rfl
    · rfl

theorem State.satAt_removeSat (s : State) (slot j : Nat) : (s.removeSat slot).satAt j = if j = slot then none else s.satAt j := by
  unfold State.removeSat
  dsimp only
  have freed (j : Nat) (ne : j ≠ slot) : ((s.freePages slot).unplace slot).satAt j = s.satAt j := by
    rw [State.satAt_of_sat (((s.freePages slot).keeps_self _).unplace (sub_self _) slot).only.sat]
    rw [State.freePages, State.satAt_freeCtx, if_neg fun h => ne h.2]
  by_cases e : j = slot
  · subst e
    rw [if_pos rfl]
    exact afind_adel_same _ _
  · rw [if_neg e, ← freed j e]
    exact afind_adel_ne _ e

theorem State.satAt_toRegistrar (s : State) (ty : CType) (m : CMsg) (p : CPayload) (j : Nat) : (s.toRegistrar ty m p).satAt j = s.satAt j := by
  unfold State.toRegistrar
  split <;> rfl

theorem State.satAt_freeSat {s : State} {slot : Nat} {x : Sat} (found : s.satAt slot = some x) (j : Nat) :
    (s.freeSat slot).satAt j = if j = slot then none else s.satAt j := by
  rw [State.freeSat, State.withSlot_some _ found]
  dsimp only
  rw [State.satAt_doneAll, State.satAt_removeSat, State.satAt_toRegistrar]

end Sys2Proof.Machine
end

section
/-!
PROOFS. Satchel commands (O10): cancel, free, move, query and recover.
-/
namespace Sys2Proof.Machine

/-! ### A satchel that ends -/

/-- A satchel in an end state, with its last record to send. -/
def Sat.finished (y : Sat) (st : SatState) (recs : List StreamRec) : Sat :=
  { y with state := st, cancelLatched := false, frozen := false, planned := none, prov := none, move := none, waitKind := 0,
           waitMatcher := 15, waitExpiry := 0, backfill := 0, outRecs := y.outRecs ++ recs }

theorem State.satAt_finish {s : State} {slot : Nat} {x : Sat} (st : SatState) (recs : List StreamRec) (found : s.satAt slot = some x) (j : Nat) :
    (s.finish slot st recs).satAt j = if j = slot then some (if st = .cancelled ∧ slot < 2 ^ 22 then
      (x.finished st recs).pagesFreed else x.finished st recs) else s.satAt j := by
  rw [State.finish, State.withSlot_some _ found]
  extract_lets s1 s2
  have sats1 (j : Nat) : s1.satAt j = s.satAt j := s.satAt_endMove x _ j
  have sats2 (j : Nat) : s2.satAt j = if j = slot then some (x.finished st recs) else s.satAt j := by
    rw [show s2.satAt j = _ from State.satAt_modSat s1 slot j _, sats1, sats1, found]; rfl
  split
  · next cancel =>
    rw [State.freePages, State.satAt_freeCtx]
    simp only [sats2, ctxOfSlot]
    by_cases e : j = slot
    · rw [if_pos e, if_pos e, if_pos trivial]
      by_cases low : slot < 2 ^ 22
      · rw [if_pos ⟨low, e⟩, if_pos ⟨cancel, low⟩]; rfl
      · rw [if_neg fun h => low h.1, if_neg fun h => low h.2]
    · rw [if_neg e, if_neg e, if_neg fun h => e h.2]
  · next other => simp [sats2, other]

theorem State.satAt_putRecords (s : State) (key : Nat) (f : StreamRec → List Byte) (l : List StreamRec) (j : Nat) :
    (l.foldl (fun (a : State) r => a.putRecord key (f r)) s).satAt j = s.satAt j :=
  State.satAt_of_sat (((s.keeps_self [.bar, .cmd, .host, .out]).foldl l _ fun t r k => k.putRecord (sub_self _) key _).only.sat) j

/-- A satchel that is not to be freed keeps its entry while its records go out. -/
theorem State.satAt_publishInk_kept {s : State} {slot : Nat} {x : Sat} (found : s.satAt slot = some x) (auto : x.autoFree = false) (freeing : x.freeing = []) :
    ∃ rest, ∀ j, (s.publishInk slot).satAt j = if j = slot then some { x with outRecs := rest } else s.satAt j := by
  rw [State.publishInk, State.withSlot_some _ found]
  dsimp only
  split
  · refine ⟨x.outRecs, fun j => ?_⟩
    by_cases e : j = slot
    · rw [if_pos e, e, found]
    · rw [if_neg e]
  · rw [if_neg (by simp [auto, freeing])]
    refine ⟨x.outRecs.drop (x.outRecs.takeWhile x.mayPublish).length, fun j => ?_⟩
    rw [State.satAt_modSat, State.satAt_putRecords, State.satAt_putRecords, found]; rfl

/-- A satchel that has ended, is to be freed and has nothing to send loses its entry. -/
theorem State.satAt_publishInk_freed {s : State} {slot : Nat} {x : Sat} (found : s.satAt slot = some x) (ended : x.state.ended = true) (sent : x.outRecs = [])
    (free : x.freeing ≠ []) (quiet : s.blt.l3 = false) (j : Nat) : (s.publishInk slot).satAt j = if j = slot then none else s.satAt j := by
  rw [State.publishInk, State.withSlot_some _ found]
  dsimp only
  rw [if_neg (by simp [quiet]), if_pos (by simp [ended, sent, free])]
  simp only [sent, List.takeWhile_nil, List.foldl_nil]
  rw [State.satAt_freeSat (State.satAt_modSat_same _ found)]
  split
  · rfl
  · next ne => exact s.satAt_modSat_ne _ ne

/-! ### A packet that names an owned satchel -/

theorem State.withOwned_of {s : State} {h : Header} {r : ReplyTo} {id : SatchelId} {slot : Nat} {y : Sat} (f : Nat → Sat → State) (gen : satGen id ≠ 0)
    (finds : s.findSlot id = some slot) (found : s.satAt slot = some y) (may : h.mayName y = true) : s.withOwned h r id f = f slot y := by
  rw [State.withOwned, if_neg gen, finds]
  dsimp only
  rw [found]
  dsimp only
  rw [if_pos may]

theorem SatState.live_facts {st : SatState} (h : st.live = true) : st ≠ .inTransit ∧ st.ended = false := by
  cases st <;> simp_all [SatState.live, SatState.ended]

theorem SatState.ended_facts {st : SatState} (h : st.ended = true) : st ≠ .inTransit := by
  cases st <;> simp_all [SatState.ended]

theorem exec_satchelCancel {s s1 : State} {h : Header} {r : ReplyTo} {id : SatchelId} {rsv slot : Nat} {y : Sat}
    (hs : s.Serves ⟨0x0302, 1, true, true, 8, rsv, 0, false⟩ h false r s1) (gen : satGen id ≠ 0) (finds : s1.findSlot id = some slot)
    (found : s1.satAt slot = some y) (may : h.mayName y = true) :
    exec (.satchelCancel h id rsv) s = .next (if y.state = .inTransit then (s1.modSat slot fun z => { z with cancelLatched := true }).answer r .accepted true []
      else if y.state.ended then s1.done r .alreadyDone else (s1.done r .ok).applyCancel slot) :=
  congrArg Host.Outcome.next ((State.serve_of_serves hs _).trans (State.withOwned_of _ gen finds found may))

theorem satchelCancel_cancels (s s1 : State) (h : Header) (r : ReplyTo) (id : SatchelId) (rsv slot : Nat) (y : Sat)
    (hs : s.Serves ⟨0x0302, 1, true, true, 8, rsv, 0, false⟩ h false r s1) (gen : satGen id ≠ 0) (finds : s1.findSlot id = some slot)
    (found : s1.satAt slot = some y) (may : h.mayName y = true) :
    (y.state.ended = true → exec (.satchelCancel h id rsv) s = .next (s1.done r .alreadyDone)) ∧
    (y.state = .inTransit → exec (.satchelCancel h id rsv) s = .next (State.answer (s1.modSat slot fun z => { z with cancelLatched := true }) r .accepted true [])) ∧
    (y.state.live = true → y.planned.isSome = true →
      ∃ t x, exec (.satchelCancel h id rsv) s = .next t ∧ t.satAt slot = some x ∧ x.cancelLatched = true ∧ x.state = y.state ∧ x.log = y.log) ∧
    (slot < 4194304 → y.state.live = true → y.planned = none → y.autoFree = false → y.freeing = [] →
      ∃ t x, exec (.satchelCancel h id rsv) s = .next t ∧ t.satAt slot = some x ∧ x.state = .cancelled ∧ x.rows = [] ∧ x.log = y.log ∧
        s.Only [.bar, .stk, .sat, .kva, .pln, .memory, .fls, .cmd, .host, .out] t) := by
  have run := exec_satchelCancel hs gen finds found may
  have here : (s1.done r .ok).satAt slot = some y := (s1.satAt_done r .ok slot).trans found
  refine ⟨fun ended => ?_, fun transit => ?_, fun live planned => ?_, fun low live idle auto freeing => ?_⟩
  · rw [run, if_neg (SatState.ended_facts ended), if_pos ended]
  · rw [run, if_pos transit]
  · obtain ⟨notTransit, notEnded⟩ := SatState.live_facts live
    rw [if_neg notTransit, if_neg (by simp [notEnded]), State.applyCancel, State.withSlot_some _ here, if_pos planned] at run
    refine ⟨_, { y with cancelLatched := true }, run, ?_, rfl, rfl, rfl⟩
    rw [State.satAt_of_sat ((State.keeps_self _ _).killRows (sub_self _) slot).only.sat]
    exact State.satAt_modSat_same _ here
  · obtain ⟨notTransit, notEnded⟩ := SatState.live_facts live
    rw [if_neg notTransit, if_neg (by simp [notEnded])] at run
    have only : s.Only [.bar, .stk, .sat, .kva, .pln, .memory, .fls, .cmd, .host, .out] ((s1.done r .ok).applyCancel slot) :=
      (hs.only.mono (by decide)).trans (((s1.keeps_self _).done (by decide) r .ok).applyCancel (by decide) slot).only
    rw [State.applyCancel, State.withSlot_some _ here, if_neg (by simp [idle])] at run only
    have finished := State.satAt_finish .cancelled [finalRec y .cancelled (s1.done r .ok).strokeNow] here slot
    rw [if_pos rfl, if_pos ⟨rfl, low⟩] at finished
    obtain ⟨rest, kept⟩ := State.satAt_publishInk_kept finished auto freeing
    exact ⟨_, _, run, (kept slot).trans (if_pos rfl), rfl, rfl, rfl, only⟩

theorem satchelFree_frees (s s1 : State) (h : Header) (r : ReplyTo) (id : SatchelId) (slot : Nat) (y : Sat)
    (hs : s.Serves ⟨0x0304, 1, true, true, 8, 0, 0, false⟩ h false r s1) (gen : satGen id ≠ 0) (finds : s1.findSlot id = some slot)
    (found : s1.satAt slot = some y) (may : h.mayName y = true) :
    (y.state = .inTransit → exec (.satchelFree h id) s = .next (s1.done r .inTransit)) ∧
    (y.state.ended = true → y.outRecs = [] → s1.blt.l3 = false →
      ∃ t, exec (.satchelFree h id) s = .next t ∧ t.satAt slot = none ∧ (∀ j, j ≠ slot → t.satAt j = s1.satAt j) ∧
        s.Only [.bar, .stk, .sat, .kva, .pln, .memory, .fls, .cmd, .host, .out] t) := by
  let x1 := s1.modSat slot fun z => { z with freeing := z.freeing ++ [r] }
  have run : exec (.satchelFree h id) s = .next (if y.state = .inTransit then s1.done r .inTransit
      else if y.state.ended then x1.publishInk slot else x1.applyCancel slot) := by
    refine congrArg Host.Outcome.next ((State.serve_of_serves hs _).trans ?_)
    simp only [finds, Option.isSome_some, if_true]
    exact State.withOwned_of _ gen finds found may
  refine ⟨fun transit => by rw [run, if_pos transit], fun ended sent quiet => ?_⟩
  rw [if_neg (SatState.ended_facts ended), if_pos ended] at run
  have freed := State.satAt_publishInk_freed (s := x1) (State.satAt_modSat_same _ found) ended sent (by simp) quiet
  refine ⟨_, run, (freed slot).trans (if_pos rfl), fun j ne => ?_, ?_⟩
  · rw [freed, if_neg ne]
    exact s1.satAt_modSat_ne _ ne
  · exact (hs.only.mono (by decide)).trans (((s1.keeps_self _).modSat (by decide) slot _).publishInk (by decide) slot).only

/-! ### SATCHEL_MOVE -/

theorem fin16_ofNat (p : Fin 16) : Fin.ofNat 16 p.val = p := by
  apply Fin.ext
  simp [Fin.ofNat, Nat.mod_eq_of_lt p.isLt]

theorem satchelMove_moves (s s1 : State) (h : Header) (r : ReplyTo) (id : SatchelId) (dev : DeviceId) (p : Fin 16) (full : Bool) (rsv slot : Nat) (y : Sat)
    (hs : s.Serves ⟨0x0303, 2, true, true, 16, rsv, 0, false⟩ h false r s1) (gen : satGen id ≠ 0) (word : dev.toNat < 2 ^ 14)
    (finds : s1.findSlot id = some slot) (found : s1.satAt slot = some y) (may : h.mayName y = true) (live : y.state.live = true)
    (else_ : dev ≠ s1.me ∨ p ≠ y.part) (still : y.move = none) (epoch : y.epoch < 0xFFFFFFFE) (ring : s1.ringBound y dev = false) :
    (s1.mayTransit y.tenant dev = false → exec (.satchelMove h id dev p.val full rsv) s = .next (s1.done r .protection)) ∧
    (s1.mayTransit y.tenant dev = true → ∃ t x, exec (.satchelMove h id dev p.val full rsv) s = .next t ∧ t.satAt slot = some x ∧ x.state = y.state ∧
      x.epoch = y.epoch ∧
      x.move = some ⟨dev, p, full || harness dev != harness s1.me, some { r with left := r.left - 1 }, none, false, none, false, 0⟩ ∧
      (∀ j, j ≠ slot → t.satAt j = s1.satAt j)) := by
  obtain ⟨notTransit, notEnded⟩ := SatState.live_facts live
  have elsewhere : ¬(dev = s1.me ∧ p.val = y.part.val) := fun h => else_.elim (fun ne => ne h.1) fun ne => ne (Fin.ext h.2)
  have run : exec (.satchelMove h id dev p.val full rsv) s = .next (if !s1.mayTransit y.tenant dev then s1.done r .protection
      else (s1.accepted r).1.modSat slot fun z =>
        { z with move := some ⟨dev, p, full || harness dev != harness s1.me, some (s1.accepted r).2, none, false, none, false, 0⟩ }) := by
    refine congrArg Host.Outcome.next ((State.serve_of_serves hs _).trans ?_)
    dsimp only
    have below := p.isLt
    rw [if_neg (by omega), State.withOwned_of _ gen finds found may]
    rw [if_neg notTransit, if_neg (by simp [notEnded]), if_neg elsewhere, still]
    dsimp only
    rw [if_neg (by simp), if_neg (by omega), if_neg (by simp [ring]), fin16_ofNat]
  refine ⟨fun shut => ?_, fun may => ?_⟩
  · rw [run, shut]; rfl
  · rw [may] at run
    have here (j : Nat) : (s1.accepted r).1.satAt j = s1.satAt j := s1.satAt_answer r .accepted false [] j
    refine ⟨_, _, run, State.satAt_modSat_same _ ((here slot).trans found), rfl, rfl, rfl, fun j ne => ?_⟩
    exact (State.satAt_modSat_ne _ _ ne).trans (here j)

/-! ### SATCHEL_QUERY and SATCHEL_RECOVER at the registrar -/

theorem State.answersFor_of_rec {s : State} {id : SatchelId} {c : Record} (rec : s.recOf id = some c) : s.answersFor id = true := by
  simp [State.answersFor, rec]

theorem satchelQuery_inTransit (s s1 : State) (h : Header) (r : ReplyTo) (id : SatchelId) (c : Record)
    (hs : s.Serves ⟨0x0305, 1, true, true, 16, 0, 0, false⟩ h false r s1) (gen : satGen id ≠ 0) (absent : s1.findSlot id = none)
    (rec : s1.recOf id = some c) (pf0 : h.origin.partition = none) (transit : c.state = .inTransit) :
    exec (.satchelQuery h id 0) s =
      .next (s1.answer r .ok true (satResult SatState.inTransit.code c.epoch c.owner (s1.registrarField id) c.mirror.length c.mirror.length)) := by
  have serves : s.Serves ⟨0x0305, 1, true, true, 16, 0, b2n ((0 : BitVec 64) != 0), false⟩ h false r s1 := hs
  refine congrArg Host.Outcome.next ((State.serve_of_serves serves _).trans ?_)
  simp only [if_neg gen, absent, State.answersFor_of_rec rec, Bool.not_true, Bool.false_eq_true, if_false, ne_eq, not_true_eq_false, false_and, pf0,
    Option.isSome_none]
  rw [State.queryOrHold, if_neg (by simp [rec]), State.queryAnswer, rec]
  simp [transit]

theorem State.recOf_modRec {s : State} {id : SatchelId} {c : Record} (f : Record → Record) (rec : s.recOf id = some c) : (s.modRec id f).recOf id = some (f c) := by
  have := afind_amod s.sat.recs id.toNat id.toNat f
  rw [if_pos rfl, show afind s.sat.recs id.toNat = some c from rec] at this
  exact this

theorem State.recOf_answer (s : State) (r : ReplyTo) (st : Status) (final : Bool) (res : List Byte) (id : SatchelId) :
    (s.answer r st final res).recOf id = s.recOf id := by
  rw [State.recOf, State.recOf, ((s.keeps_self _).answer (sub_self _) r st final res).only.sat]

/-- A recovery that names its device offers the satchel to it first (R97). -/
theorem State.startRecovery_named {s : State} {id : SatchelId} {c : Record} (d : DevPart) (reply : Option ReplyTo) (rec : s.recOf id = some c) (same : c.id = id)
    (room : c.epoch + 1 ≤ 0xFFFFFFFE) :
    ∃ e, (s.startRecovery id (some d) reply).recOf id = some e ∧ e.state = c.state ∧ e.candidate = some (0, d) ∧ e.recoverReply = reply ∧
      (s.startRecovery id (some d) reply).sat.sats = s.sat.sats := by
  subst same
  have first : (s.modRec c.id fun _ => { c with recoverReply := reply, firstEntry := (s.sat.lastEntry + 1) % 64 }).recOf c.id =
      some { c with recoverReply := reply, firstEntry := (s.sat.lastEntry + 1) % 64 } := State.recOf_modRec _ rec
  have run : s.startRecovery c.id (some d) reply = (s.modRec c.id fun _ => { c with recoverReply := reply, firstEntry := (s.sat.lastEntry + 1) % 64 }).assign
      { c with recoverReply := reply, firstEntry := (s.sat.lastEntry + 1) % 64 } (0, d) := by
    rw [State.startRecovery, rec]
    dsimp only
    rw [if_neg (by omega)]
  refine ⟨{ c with recoverReply := reply, firstEntry := (s.sat.lastEntry + 1) % 64, candidate := some (0, d) }, ?_, rfl, rfl, rfl, ?_⟩
  · rw [run, State.assign]
    dsimp only
    rw [if_pos rfl]
    exact State.recOf_modRec (fun y => { y with candidate := some (0, d) }) first
  · rw [run]; rfl

theorem satchelRecover_recovers (s s1 : State) (h : Header) (r : ReplyTo) (id : SatchelId) (dev : DeviceId) (p : Fin 16) (rsv : Nat) (c : Record)
    (hs : s.Serves ⟨0x0306, 2, true, true, 16, rsv, 0, false⟩ h false r s1) (gen : satGen id ≠ 0) (word : dev.toNat < 2 ^ 14)
    (rec : s1.recOf id = some c) (same : c.id = id) (pf0 : h.origin.partition = none) :
    (c.state ≠ .lost → exec (.satchelRecover h id dev p.val rsv) s = .next (s1.done r .alreadyDone)) ∧
    (c.state = .lost → c.epoch + 1 ≤ 0xFFFFFFFE → c.recoverReply = none → c.candidate = none →
      ∃ t d, exec (.satchelRecover h id dev p.val rsv) s = .next t ∧ t.recOf id = some d ∧ d.state = .lost ∧ d.candidate = some (0, ⟨dev, p⟩) ∧
        d.recoverReply = some { r with left := r.left - 1 } ∧ t.sat.sats = s1.sat.sats) := by
  have named : dev ≠ 0xFFFF := fun e => by rw [e] at word; exact absurd word (by decide)
  have below := p.isLt
  have run : exec (.satchelRecover h id dev p.val rsv) s = .next (if c.state ≠ .lost then s1.done r .alreadyDone
      else if 0xFFFFFFFE < c.epoch + 1 ∨ c.recoverReply.isSome then s1.done r .noResource
      else if c.candidate.isSome then (s1.accepted r).1.modRec id fun y => { y with recoverReply := some (s1.accepted r).2 }
      else (s1.accepted r).1.startRecovery id (some ⟨dev, p⟩) (some (s1.accepted r).2)) := by
    refine congrArg Host.Outcome.next ((State.serve_of_serves hs _).trans ?_)
    dsimp only
    rw [if_neg (by simp [gen, named]; omega), State.answersFor_of_rec rec, rec]
    simp only [Bool.not_true, Bool.false_eq_true, if_false, pf0, Option.isSome_none, false_and, if_neg named, fin16_ofNat]
  refine ⟨fun kept => by rw [run, if_pos kept], fun lost room free none_ => ?_⟩
  rw [if_neg (by simp [lost]), if_neg (by simp [free]; omega), if_neg (by simp [none_])] at run
  have rec' : (s1.accepted r).1.recOf id = some c := (s1.recOf_answer r .accepted false [] id).trans rec
  obtain ⟨e, found, state, candidate, reply, sats⟩ := State.startRecovery_named ⟨dev, p⟩ (some (s1.accepted r).2) rec' same room
  refine ⟨_, e, run, found, state.trans lost, candidate, reply, sats.trans ?_⟩
  rw [((s1.keeps_self _).accepted (sub_self _) r).only.sat]

end Sys2Proof.Machine
end

section
/-!
PROOFS. Satchel commands (O10): append and admission.
-/
namespace Sys2Proof.Machine

/-! ### Work on a satchel's pages and mirror leaves what it is -/

/-- What work on the pages and the mirror of a satchel leaves of it. -/
structure Sat.Alike (y z : Sat) : Prop where
  id : z.id = y.id
  epoch : z.epoch = y.epoch
  tenant : z.tenant = y.tenant
  part : z.part = y.part
  state : z.state = y.state
  log : z.log = y.log
  kvPos : z.kvPos = y.kvPos
  waitKind : z.waitKind = y.waitKind
  move : z.move = y.move
  admitting : z.admitting = y.admitting
  planned : z.planned = y.planned
  cancelLatched : z.cancelLatched = y.cancelLatched

theorem Sat.Alike.refl (y : Sat) : y.Alike y := ⟨rfl, rfl, rfl, rfl, rfl, rfl, rfl, rfl, rfl, rfl, rfl, rfl⟩

theorem Sat.Alike.trans {x y z : Sat} (h : x.Alike y) (k : y.Alike z) : x.Alike z :=
  ⟨k.id.trans h.id, k.epoch.trans h.epoch, k.tenant.trans h.tenant, k.part.trans h.part, k.state.trans h.state, k.log.trans h.log, k.kvPos.trans h.kvPos,
    k.waitKind.trans h.waitKind, k.move.trans h.move, k.admitting.trans h.admitting, k.planned.trans h.planned, k.cancelLatched.trans h.cancelLatched⟩

/-- From `s` to `t` the satchel at `slot`, if any, is still the same one, and every other as it was. -/
def State.Tends (slot : Nat) (s t : State) : Prop :=
  (∀ j, j ≠ slot → t.satAt j = s.satAt j) ∧ ∀ y, s.satAt slot = some y → ∃ z, t.satAt slot = some z ∧ y.Alike z

theorem State.Tends.refl (slot : Nat) (s : State) : State.Tends slot s s := ⟨fun _ _ => rfl, fun y found => ⟨y, found, .refl y⟩⟩

theorem State.Tends.trans {slot : Nat} {s t u : State} (h : State.Tends slot s t) (k : State.Tends slot t u) : State.Tends slot s u := by
  refine ⟨fun j ne => (k.1 j ne).trans (h.1 j ne), fun y found => ?_⟩
  obtain ⟨z, at_t, yz⟩ := h.2 y found
  obtain ⟨w, at_u, zw⟩ := k.2 z at_t
  exact ⟨w, at_u, yz.trans zw⟩

theorem State.Tends.ite {slot : Nat} {s t u : State} {c : Prop} [Decidable c] (h : State.Tends slot s t) (k : State.Tends slot s u) :
    State.Tends slot s (if c then t else u) := by
  split
  · exact h
  · exact k

theorem State.tends_of_sats {slot : Nat} {s t : State} (h : t.sat.sats = s.sat.sats) : State.Tends slot s t :=
  ⟨fun j _ => State.satAt_congr h j, fun y found => ⟨y, (State.satAt_congr h slot).trans found, .refl y⟩⟩

theorem State.tends_of_sat {slot : Nat} {s t : State} (h : t.sat = s.sat) : State.Tends slot s t := State.tends_of_sats (by rw [h])

theorem State.tends_modSat (s : State) (slot : Nat) (f : Sat → Sat) (alike : ∀ y : Sat, y.Alike (f y)) : State.Tends slot s (s.modSat slot f) :=
  ⟨fun _ ne => s.satAt_modSat_ne f ne, fun y found => ⟨f y, State.satAt_modSat_same f found, alike y⟩⟩

/-- A change of the context of the satchel at `slot` that leaves its state and its progress. -/
theorem State.tends_modCtx (s : State) (slot : Nat) (f : KvCtx → KvCtx)
    (alike : ∀ k, (f k).id = k.id ∧ (f k).tenant = k.tenant ∧ (f k).part = k.part ∧ (f k).state = k.state ∧ (f k).kvPos = k.kvPos) :
    State.Tends slot s (s.modCtx slot f) := by
  refine ⟨fun j ne => s.satAt_modCtx_ne f ne, fun y found => ?_⟩
  rw [State.satAt_modCtx]
  obtain ⟨id, tenant, part, state, kvPos⟩ := alike y.toKvCtx
  split
  · exact ⟨{ y with toKvCtx := f y.toKvCtx }, by rw [found]; rfl, ⟨id, rfl, tenant, part, state, rfl, kvPos, rfl, rfl, rfl, rfl, rfl⟩⟩
  · exact ⟨y, found, .refl y⟩

theorem State.tends_freeBlocks (s : State) (slot : Nat) : State.Tends slot s (s.freeBlocks slot) := by
  refine ⟨fun j ne => ?_, fun y found => ?_⟩
  · rw [State.satAt_freeBlocks, if_neg fun h => ne h.2]
  · rw [State.satAt_freeBlocks]
    split
    · exact ⟨{ y with toKvCtx := y.toKvCtx.blocksFreed }, by rw [found]; rfl, ⟨rfl, rfl, rfl, rfl, rfl, rfl, rfl, rfl, rfl, rfl, rfl, rfl⟩⟩
    · exact ⟨y, found, .refl y⟩

theorem State.tends_abandonPark (s : State) (slot : Nat) : State.Tends slot s (s.abandonPark slot) := by
  cases found : s.ctxAt slot with
  | none => rw [State.abandonPark, State.withCtx_none _ found]; exact .refl slot s
  | some x =>
    rw [State.abandonPark, State.withCtx_some _ found]
    dsimp only
    split
    · refine State.Tends.trans (State.Tends.ite ?_ (s.tends_freeBlocks slot)) (State.tends_modCtx _ _ _ fun k => ⟨rfl, rfl, rfl, rfl, rfl⟩)
      exact State.Tends.trans (State.tends_of_sat ((s.keeps_self _).t2Free (sub_self _) 992 x.cold).only.sat)
        (State.tends_modCtx _ _ _ fun k => ⟨rfl, rfl, rfl, rfl, rfl⟩)
    · exact .refl slot s

theorem State.tends_sendMirror (s : State) (slot : Nat) : State.Tends slot s (s.sendMirror slot) := by
  cases found : s.satAt slot with
  | none => rw [State.sendMirror, State.withSlot_none _ found]; exact .refl slot s
  | some x =>
    rw [State.sendMirror, State.withSlot_some _ found]
    dsimp only
    refine State.Tends.ite (.refl slot s) ?_
    split
    · exact s.tends_modSat _ _ fun y => ⟨rfl, rfl, rfl, rfl, rfl, rfl, rfl, rfl, rfl, rfl, rfl, rfl⟩
    · refine State.Tends.trans ?_ (State.tends_modSat _ _ _ fun y => ⟨rfl, rfl, rfl, rfl, rfl, rfl, rfl, rfl, rfl, rfl, rfl, rfl⟩)
      exact State.tends_of_sat (((s.keeps_self [.out]).foldl _ _ fun t k kt => kt.sendC (by decide) _ _ _ _).only.sat)

/-! ### SATCHEL_APPEND -/

theorem State.placeLog_only {s t : State} {ctx tokens : Nat} {pl q : Place} (e : s.placeLog ctx pl tokens = some (q, t)) : s.Only [.memory] t :=
  ((s.keeps_self _).placeLog (sub_self _) ctx pl tokens e).only

theorem State.growLog_some {s t : State} {slot n : Nat} {y : Sat} (found : s.satAt slot = some y) (grown : s.growLog slot n = some t) :
    s.Only [.sat, .memory] t ∧ (∀ j, j ≠ slot → t.satAt j = s.satAt j) ∧ ∃ pl, t.satAt slot = some { y with place := pl } := by
  rw [State.growLog, found] at grown
  dsimp only at grown
  cases e : s.placeLog slot y.place (y.log.length + n) with
  | none => rw [e] at grown; cases grown
  | some w =>
    rw [e] at grown
    cases grown
    have only := State.placeLog_only (q := w.1) (t := w.2) e
    have same (j : Nat) : w.2.satAt j = s.satAt j := State.satAt_of_sat only.sat j
    refine ⟨(only.mono (by decide)).trans ((w.2.keeps_self _).modSat (by decide) slot _).only, fun j ne => ?_, w.1, ?_⟩
    · exact (State.satAt_modSat_ne _ _ ne).trans (same j)
    · exact State.satAt_modSat_same _ ((same slot).trans found)

/-- A satchel that waits takes up new tokens at once. -/
theorem State.takeAppend_wait {s : State} {slot : Nat} {y : Sat} (tokens : List Token) (revive : Option DevPart) (found : s.satAt slot = some y)
    (waits : y.state = .wait) :
    (∃ x, (s.takeAppend slot tokens revive).satAt slot = some x ∧ x.log = y.log ++ tokens.map asInput ∧ x.state = .prefill ∧ x.waitKind = 0 ∧ x.kvPos = y.kvPos) ∧
      (∀ j, j ≠ slot → (s.takeAppend slot tokens revive).satAt j = s.satAt j) ∧ s.Only [.sat, .kva, .fls, .out] (s.takeAppend slot tokens revive) := by
  rw [State.takeAppend, State.withSlot_some _ found]
  extract_lets hot s1 s2
  have isHot : hot = true := decide_eq_true waits
  have here : s1.satAt slot = some _ := State.satAt_modSat_same _ found
  have tends : State.Tends slot s1 s2 := (s1.tends_abandonPark slot).trans (State.tends_sendMirror _ slot)
  have only : s.Only [.sat, .kva, .fls, .out] s2 := ((((s.keeps_self _).modSat (by decide) slot _).abandonPark (by decide) _).sendMirror (by decide) slot).only
  obtain ⟨x, at_x, alike⟩ := tends.2 _ here
  rw [if_pos isHot]
  refine ⟨⟨x, at_x, alike.log, alike.state.trans (by simp [isHot]), alike.waitKind, alike.kvPos⟩, fun j ne => ?_, only⟩
  exact (tends.1 j ne).trans (s.satAt_modSat_ne _ ne)

theorem satchelAppend_appends (s s1 : State) (h : Header) (r : ReplyTo) (id : SatchelId) (tokens : List Token) (rsv slot : Nat) (y : Sat)
    (hs : s.Serves ⟨0x0301, 1, true, true, 24 + 4 * tokens.length, rsv, 0, false⟩ h false r s1) (one : 1 ≤ tokens.length) (most : tokens.length ≤ 262144)
    (gen : satGen id ≠ 0) (finds : s1.findSlot id = some slot) (found : s1.satAt slot = some y) (may : h.mayName y = true) :
    (∀ st, s1.appendCheck y tokens.length 0xFFFF 0 tokens = some st → exec (.satchelAppend h id tokens.length 0xFFFF 0 false tokens rsv) s = .next (s1.done r st)) ∧
    (s1.appendCheck y tokens.length 0xFFFF 0 tokens = none → y.state = .wait → (s1.growLog slot tokens.length).isSome = true →
      ∃ t x, exec (.satchelAppend h id tokens.length 0xFFFF 0 false tokens rsv) s = .next t ∧ t.satAt slot = some x ∧ x.log = y.log ++ tokens.map asInput ∧
        x.state = .prefill ∧ x.waitKind = 0 ∧ x.kvPos = y.kvPos ∧ (∀ j, j ≠ slot → t.satAt j = s1.satAt j) ∧
        s.Only [.bar, .stk, .sat, .kva, .memory, .fls, .cmd, .host, .out] t) ∧
    (s1.appendCheck y tokens.length 0xFFFF 0 tokens = none → s1.growLog slot tokens.length = none →
      exec (.satchelAppend h id tokens.length 0xFFFF 0 false tokens rsv) s = .next (s1.done r .noResource)) := by
  have run (t : State) (step : (match s1.appendCheck y tokens.length 0xFFFF 0 tokens with
      | some st => s1.done r st
      | none =>
        let q := s1.part y.part.val
        match s1.growLog slot tokens.length with
        | none => s1.done r .noResource
        | some x1 => (x1.takeAppend slot tokens (if q.role = 2 then q.reviveTarget 0xFFFF 0 else none)).answer r .accepted true []) = t) :
      exec (.satchelAppend h id tokens.length 0xFFFF 0 false tokens rsv) s = .next t := by
    refine congrArg Host.Outcome.next ((State.serve_of_serves (q := ⟨0x0301, 1, true, true, 24 + 4 * tokens.length, rsv, b2n false, false⟩) hs _).trans ?_)
    dsimp only
    rw [if_neg (by rintro (h | h | h | h | ⟨h, _⟩)
                   exacts [by omega, by omega, h rfl, by omega, h rfl]), State.withOwned_of _ gen finds found may]
    exact step
  refine ⟨fun st refused => run _ (by rw [refused]), fun fine waits grown => ?_, fun fine full => run _ (by rw [fine]; dsimp only; rw [full])⟩
  obtain ⟨x1, grows⟩ := Option.isSome_iff_exists.1 grown
  obtain ⟨only1, others1, pl, here1⟩ := State.growLog_some found grows
  obtain ⟨⟨x, here2, log, state, wait, kvPos⟩, others2, only2⟩ := State.takeAppend_wait tokens
    (if (s1.part y.part.val).role = 2 then (s1.part y.part.val).reviveTarget 0xFFFF 0 else none) here1 waits
  refine ⟨_, x, run _ (by rw [fine]; dsimp only; rw [grows]), (State.satAt_answer _ _ _ _ _ slot).trans here2, log, state, wait, kvPos, fun j ne => ?_, ?_⟩
  · exact (State.satAt_answer _ _ _ _ _ j).trans ((others2 j ne).trans (others1 j ne))
  · refine (hs.only.mono (by decide)).trans ((only1.mono (by decide)).trans ((only2.mono (by decide)).trans ?_))
    exact ((State.keeps_self _ _).answer (by decide) r .accepted true []).only

end Sys2Proof.Machine
end

section
/-!
PROOFS. Satchel commands (O10): admission, and the obligation.
-/
namespace Sys2Proof.Machine

theorem State.me_congr {s t : State} (bar : t.bar = s.bar) : t.me = s.me := by simp only [State.me, State.reg, bar]

/-- A device's registrar for an ID rests on its number, its live mask and the members that its links hold for lost. -/
theorem State.registrar_congr {s t : State} (bar : t.bar = s.bar) (live : t.sat.live = s.sat.live) (lnk : t.lnk = s.lnk) (id : SatchelId) :
    t.registrar id = s.registrar id := by
  rw [State.registrar, State.registrar, State.liveMask, State.liveMask, State.me_congr bar, live, lnk]

/-- What an instruction's outcome may change, for the state that it ends in. -/
theorem State.Goes.onlyOf {s t : State} {l : List Group} {o : Host.Outcome State Fault Refusal} (goes : s.Goes l o) (run : o = .next t) : s.Only l t := by
  subst run
  exact goes.only

/-- A round of outputs goes out in its order. -/
theorem State.foldl_emit {α : Type} (g : α → Out) (l : List α) (s : State) :
    l.foldl (fun x a => x.emit (g a)) s = { s with out := s.out ++ l.map g } := by
  induction l generalizing s with
  | nil => simp
  | cons a l ih => rw [List.foldl_cons, ih]; simp [State.emit]

theorem State.makeSatellites_eq (s : State) (p : Nat) (id : SatchelId) (kvPos : Nat) (act : ShardAct) :
    s.makeSatellites p id kvPos act =
      { s with out := s.out ++ ((s.part p).satelliteDevs false).map fun d => Out.shardPlan d s.strokeNow [shardDo id kvPos act] } :=
  State.foldl_emit (fun d => Out.shardPlan d s.strokeNow [shardDo id kvPos act]) _ s

/-- The registration of a satchel that stands: one REGISTER to its registrar, and what the satchel keeps of it. -/
theorem State.sendRegister_sends {s : State} {slot : Nat} {x : Sat} {d : DeviceId} (found : s.satAt slot = some x) (registrar : s.registrar x.id = some d) :
    ∃ m p, (s.sendRegister slot).out = s.out ++ [.custody d .register m p] ∧ m.id = x.id ∧ m.epoch = x.epoch ∧ m.sender = s.me ∧
      (s.sendRegister slot).satAt slot = some { x with mirrorSent := x.log.length, mirrorsOut := 0, reported := x.state, registering := true } ∧
      ∀ j, j ≠ slot → (s.sendRegister slot).satAt j = s.satAt j := by
  rw [State.sendRegister, State.withSlot_some _ found]
  dsimp only
  rw [registrar]
  exact ⟨_, _, rfl, rfl, rfl, rfl, State.satAt_modSat_same _ found, fun j ne => State.satAt_modSat_ne _ _ ne⟩

theorem satchelAdmit_refused (s s1 : State) (h : Header) (r : ReplyTo) (a : AdmitParams) (shardsOk : Bool) (st : Status)
    (hs : s.Serves ⟨0x0300, 1, true, true, 72 + a.stopLen + (if a.byRef then 0 else 4 * a.promptLen), a.rsv, if a.promptAddr = 0 then 0 else 1, false⟩ h false r s1)
    (refused : s1.admitCheck h a = some st) : exec (.satchelAdmit h a shardsOk) s = .next (s1.done r st) := by
  refine congrArg Host.Outcome.next ((State.serve_of_serves hs _).trans ?_)
  dsimp only
  rw [refused]

theorem State.admitted_noPrefix {s : State} {h : Header} {a : AdmitParams} (none_ : a.prefixId = 0xFFFFFFFF) (id : SatchelId) (r : ReplyTo) :
    (s.admitted h a id r).rows = [] ∧ (s.admitted h a id r).kvPos = 0 := by
  constructor <;> simp only [State.admitted, if_pos none_]

theorem satchelAdmit_admits (s s1 : State) (h : Header) (r : ReplyTo) (a : AdmitParams) (shardsOk : Bool) (slot index : Nat) (d : DeviceId) (w : Place × State)
    (hs : s.Serves ⟨0x0300, 1, true, true, 72 + a.stopLen + (if a.byRef then 0 else 4 * a.promptLen), a.rsv, if a.promptAddr = 0 then 0 else 1, false⟩ h false r s1)
    (fine : s1.admitCheck h a = none) (slotFree : s1.freeSlot = some slot) (indexFree : s1.freeIndex = some index) (noPrefix : a.prefixId = 0xFFFFFFFF)
    (registrar : s1.registrar (s1.takeId index).1 = some d)
    (placed : (s1.takeId index).2.place slot Place.none a.prompt.length 0 (s1.part h.part.val).stateBytes = some w)
    (shards : shardsOk = true ∨ (s1.part h.part.val).satelliteDevs false = []) :
    ∃ t x m p, exec (.satchelAdmit h a shardsOk) s = .next t ∧ t.satAt slot = some x ∧ x.id = mkSatchelId s1.me index (agetD s1.sat.gens index 0 + 1) ∧ x.state = .admitted ∧ x.epoch = 1 ∧
      x.tenant = h.tenant ∧ x.part = h.part ∧ x.log = a.prompt.map asInput ∧ x.kvPos = 0 ∧ x.rows = [] ∧ x.place = w.1 ∧ x.admitting = some r ∧
      (∀ j, j ≠ slot → t.satAt j = s1.satAt j) ∧
      t.out = s1.out ++ ((s1.part h.part.val).satelliteDevs false).map (fun e => Out.shardPlan e s1.strokeNow
        [shardDo x.id 0 (.create x.tenant x.cls x.adapter x.adapterVer 0xFFFFFFFF)]) ++ [.custody d .register m p] ∧ m.id = x.id ∧ m.epoch = 1 ∧ m.sender = s1.me ∧
      s.Only [.bar, .stk, .sat, .kva, .memory, .cmd, .host, .out] t := by
  obtain ⟨pl, s0⟩ := w
  obtain ⟨rows, kvPos⟩ := State.admitted_noPrefix (s := (s1.takeId index).2) (h := h) noPrefix (s1.takeId index).1 r
  have room : (!shardsOk && !((s1.part h.part.val).satelliteDevs false).isEmpty) = false := by
    rcases shards with ok | none_
    · rw [ok]; rfl
    · rw [none_]; cases shardsOk <;> rfl
  have only0 : (s1.takeId index).2.Only [.memory] s0 := (((s1.takeId index).2.keeps_self _).place (sub_self _) _ _ _ _ _ placed).only
  let sat : Sat := { (s1.takeId index).2.admitted h a (s1.takeId index).1 r with place := pl }
  let s2 : State := { s0 with sat := { s0.sat with sats := aput s0.sat.sats slot sat } }
  let s3 : State := s2.makeSatellites h.part.val sat.id sat.kvPos (.create sat.tenant sat.cls sat.adapter sat.adapterVer a.prefixId)
  have noneHeld : ((s1.takeId index).2.admitted h a (s1.takeId index).1 r).rowsOf .inkwell = [] := by rw [KvCtx.rowsOf, rows]; rfl
  have run : exec (.satchelAdmit h a shardsOk) s = .next (s3.sendRegister slot) := by
    refine congrArg Host.Outcome.next ((State.serve_of_serves hs _).trans ?_)
    dsimp only
    rw [fine, slotFree, indexFree]
    dsimp only
    rw [show ((s1.takeId index).2.admitted h a (s1.takeId index).1 r).log.length = a.prompt.length from List.length_map _, List.length_eq_zero_iff.2 rows, placed]
    dsimp only
    rw [room, if_neg (by decide), noneHeld]
    rfl
  have part3 : s2.part h.part.val = s1.part h.part.val := State.part_congr only0.pln _
  have stroke : s2.strokeNow = s1.strokeNow := by simp only [State.strokeNow]; rw [show s2.stk = s1.stk from only0.stk]
  have eq3 : s3 = { s2 with out := s1.out ++ ((s1.part h.part.val).satelliteDevs false).map (fun e => Out.shardPlan e s1.strokeNow
        [shardDo sat.id 0 (.create sat.tenant sat.cls sat.adapter sat.adapterVer 0xFFFFFFFF)]) } := by
    refine (State.makeSatellites_eq _ _ _ _ _).trans ?_
    rw [part3, stroke, show s2.out = s1.out from only0.out, show sat.kvPos = 0 from kvPos, noPrefix]
  have here : s3.satAt slot = some sat := by rw [eq3]; exact afind_aput_same _ _ _
  have reg3 : s3.registrar sat.id = some d := by
    refine (State.registrar_congr ?_ ?_ ?_ _).trans registrar
    · rw [eq3]; exact only0.bar
    · rw [eq3]; exact (congrArg SatSt.live only0.sat).trans rfl
    · rw [eq3]; exact only0.lnk
  have others3 (j : Nat) (ne : j ≠ slot) : s3.satAt j = s1.satAt j := by
    rw [eq3]
    exact (afind_aput_ne _ _ ne).trans ((congrArg (fun z : SatSt => afind z.sats j) only0.sat).trans rfl)
  obtain ⟨m, p, out, id, epoch, sender, there, others⟩ := State.sendRegister_sends here reg3
  refine ⟨_, _, m, p, run, there, rfl, rfl, rfl, rfl, rfl, rfl, kvPos, rows, rfl, rfl, fun j ne => (others j ne).trans (others3 j ne), ?_, id, epoch, ?_, ?_⟩
  · exact out.trans (by rw [eq3])
  · exact sender.trans (State.me_congr (by rw [eq3]; exact only0.bar))
  · exact ((s.keeps_self _).goes_satchelAdmit (sub_self _) h a shardsOk).onlyOf run

/-- Settles O10: each command from the state that its packet was taken in, through what the work on the satchel's pages and mirror leaves. -/
theorem satchelCommands : Obligations.SatchelCommands :=
  ⟨satchelAdmit_refused, satchelAdmit_admits, satchelAppend_appends, satchelCancel_cancels, satchelFree_frees, satchelMove_moves,
    satchelQuery_inTransit, satchelRecover_recovers⟩

end Sys2Proof.Machine
end

section
/-!
PROOFS. TLB_INVALIDATE (O21), region moves (O22) and open faults (O23).
-/
namespace Sys2Proof.Machine

/-! ### What answers leave -/

theorem State.answer_only (s : State) (r : ReplyTo) (st : Status) (final : Bool) (bytes : List Byte) : s.Only [.bar, .cmd, .host, .out] (s.answer r st final bytes) :=
  ((s.keeps_self _).answer (sub_self _) r st final bytes).only

theorem State.done_only (s : State) (r : ReplyTo) (st : Status) : s.Only [.bar, .cmd, .host, .out] (s.done r st) := s.answer_only r st true []

/-! ### TLB_INVALIDATE -/

theorem mem_tlbDrop_range {l : List TlbEntry} {part base length : Nat} (e : TlbEntry) :
    e ∈ tlbDrop l 0 part base length ↔ e ∈ l ∧ (e.part ≠ part ∨ e.va + 65536 ≤ base ∨ base + length ≤ e.va) := by
  simp [tlbDrop, List.mem_filter, or_assoc]

theorem tlbDrop_all (l : List TlbEntry) (part base length : Nat) : tlbDrop l 2 part base length = [] := by simp [tlbDrop]

theorem tlbInvalidate_runs {s s1 : State} {h : Header} {r : ReplyTo} {scope base length rsv : Nat} (hs : s.Serves ⟨0x0004, 1, true, false, 24, rsv, 0, true⟩ h false r s1) :
    exec (.tlbInvalidate h scope base length rsv) s = .next (if scope ≠ 0 ∧ h.origin.partition.isSome then s1.done r .protection
      else if 2 < scope then s1.done r .badField
      else { s1 with memory := { s1.memory with tlb := tlbDrop s1.memory.tlb scope h.part.val base length } }.done r .ok) :=
  congrArg Host.Outcome.next (State.serve_of_serves hs _)

/-- Settles O21: the command is one filter of the entries, and its answer leaves memory. -/
theorem tlbInvalidate : Obligations.TlbInvalidate := by
  refine ⟨fun s s1 h r base length rsv hs => ?_, fun s s1 h r base length rsv hs own => ?_, fun s s1 h r scope base length rsv hs foreign low => ?_⟩
  · refine ⟨_, (tlbInvalidate_runs hs).trans (by rw [if_neg (by simp), if_neg (by decide)]), fun e => ?_, ?_, ?_⟩
    · rw [(State.done_only _ r .ok).memory, ← hs.only.memory]
      exact mem_tlbDrop_range e
    · rw [(State.done_only _ r .ok).memory, ← hs.only.memory]
    · rw [(State.done_only _ r .ok).memory]
  · refine ⟨_, (tlbInvalidate_runs hs).trans (by rw [if_neg (by simp [own]), if_neg (by decide)]), ?_, ?_⟩
    · rw [(State.done_only _ r .ok).memory]
      exact tlbDrop_all s1.memory.tlb h.part.val base length
    · rw [(State.done_only _ r .ok).memory, ← hs.only.memory]
  · rw [tlbInvalidate_runs hs, if_pos ⟨low, Option.isSome_iff_ne_none.2 foreign⟩]

/-! ### Region moves -/

theorem MemSt.clearPoison_moves (m : MemSt) (pa n : Nat) : (m.clearPoison pa n).moves = m.moves := rfl

theorem State.writePa_moves (s : State) (fn pa : Nat) (l : List Byte) : (s.writePa fn pa l).memory.moves = s.memory.moves := by
  rw [State.writePa]
  split
  · rfl
  · split <;> rfl
  · rfl

theorem State.movePage_moves (s : State) (v : RegionMove) : (s.movePage v).memory.moves = s.memory.moves := by
  rw [State.movePage]
  dsimp only
  split
  · rfl
  · refine (State.writePa_moves _ _ _ _).trans ?_
    rw [((s.keeps_self _).readPa (sub_self _) _ _ _).only.memory]

theorem regionMove_waits (s s1 : State) (h : Header) (r : ReplyTo) (ipa length dest : Nat) (l : Leaf) (hs : s.Serves ⟨0x0502, 2, false, false, 24, 0, 0, false⟩ h false r s1)
    (leaf : s1.leaf2 ipa = .ok l) (some_ : 0 < length) (most : length ≤ 2 ^ 36) (from_ : ipa % l.size = 0) (whole : length % l.size = 0) (to_ : dest % l.size = 0)
    (mapped : s1.mappedBy l.size (length / l.size) ipa = true) (place : s1.moveDest dest length = true) :
    ∃ t, exec (.regionMove h ipa length dest) s = .next t ∧
      t.memory.moves = s.memory.moves ++ [{ part := h.part, ipa := ipa, length := length, dest := dest, page := l.size, done := 0, reply := { r with left := r.left - 1 } }] ∧
      t.memory.mem = s.memory.mem ∧ t.memory.tlb = s.memory.tlb := by
  have fits : ¬ (length = 0 ∨ 2 ^ 36 < length ∨ ipa % l.size ≠ 0 ∨ length % l.size ≠ 0 ∨ dest % l.size ≠ 0 ∨
      (!s1.mappedBy l.size (length / l.size) ipa) = true ∨ (!s1.moveDest dest length) = true) := by
    rintro (h | h | h | h | h | h | h)
    exacts [absurd some_ (by omega), absurd most (by omega), h from_, h whole, h to_, by simp [mapped] at h, by simp [place] at h]
  let a := s1.accepted r
  have run : exec (.regionMove h ipa length dest) s = .next { a.1 with memory := { a.1.memory with moves := a.1.memory.moves ++
      [{ part := h.part, ipa := ipa, length := length, dest := dest, page := l.size, done := 0, reply := a.2 }] } } := by
    refine congrArg Host.Outcome.next ((State.serve_of_serves hs _).trans ?_)
    dsimp only
    rw [leaf]
    exact if_neg fits
  have memory : a.1.memory = s.memory := ((s1.answer_only r .accepted false []).memory).trans hs.only.memory
  refine ⟨_, run, ?_, (congrArg MemSt.mem memory).trans rfl, (congrArg MemSt.tlb memory).trans rfl⟩
  dsimp only
  rw [memory]
  rfl

/-- Settles O22: a move waits with its reply, each row copies its next page, and the last one or a failed one ends it. -/
theorem regionMoves : Obligations.RegionMoves := by
  refine ⟨regionMove_waits, fun s ipa v found last => ?_, fun s ipa v found more => ?_, fun s ipa v found => ?_⟩
  · have run : exec (.regionMovePageComplete ipa .ok) s =
        .next (State.answer { s.movePage v with memory := { (s.movePage v).memory with moves := s.memory.moves.erase v } } v.reply .ok true []) := by
      change execRegionMovePageComplete ipa .ok s = _
      rw [execRegionMovePageComplete, found]
      dsimp only
      rw [if_pos rfl, if_pos last]
    exact ⟨_, run, congrArg MemSt.moves (State.answer_only _ _ _ _ _).memory, rfl⟩
  · have run : exec (.regionMovePageComplete ipa .ok) s =
        .next { s.movePage v with memory := { (s.movePage v).memory with moves := s.memory.moves.erase v ++ [{ v with done := v.done + 1 }] } } := by
      change execRegionMovePageComplete ipa .ok s = _
      rw [execRegionMovePageComplete, found]
      dsimp only
      rw [if_pos rfl, if_neg (Nat.not_le.2 more)]
    exact ⟨_, run, rfl, ((s.keeps_self _).movePage (sub_self _) v).only.cmd⟩
  · have run : exec (.regionMovePageComplete ipa .dataCorrupt) s =
        .next (State.answer { s with memory := { s.memory with moves := s.memory.moves.erase v } } v.reply .dataCorrupt true (leBytes 8 (v.ipa + v.done * v.page))) := by
      change execRegionMovePageComplete ipa .dataCorrupt s = _
      rw [execRegionMovePageComplete, found]
      dsimp only
      rw [if_neg (by decide), if_pos rfl]
    have memory := (State.answer_only { s with memory := { s.memory with moves := s.memory.moves.erase v } } v.reply .dataCorrupt true (leBytes 8 (v.ipa + v.done * v.page))).memory
    exact ⟨_, run, congrArg MemSt.moves memory, (congrArg MemSt.mem memory).trans rfl, rfl⟩

/-! ### Open faults -/

theorem faultResume_runs {s s1 : State} {h : Header} {r : ReplyTo} {id : BitVec 16} {a rsv : Nat} (hs : s.Serves ⟨0x0800, 1, true, false, 4, rsv, 0, false⟩ h false r s1)
    (action : a ≤ 1) :
    exec (.faultResume h id a rsv) s = .next (match afind s1.memory.faults id.toNat with
      | none => s1.done r .alreadyDone
      | some f =>
        if f.barred h.origin.partition then s1.done r .protection
        else if s1.held f.part.val then State.done { s1 with memory := { s1.memory with faults := aput s1.memory.faults id.toNat { f with recorded := some (a == 0) } } } r .ok
        else if a = 0 then (s1.retryFault id.toNat).done r .ok
        else (s1.abortFault id.toNat).done r .ok) := by
  refine congrArg Host.Outcome.next ((State.serve_of_serves hs _).trans ?_)
  dsimp only
  exact if_neg (by omega)

theorem State.held_congr {s t : State} (h : t.pln = s.pln) (p : Nat) : t.held p = s.held p := by rw [State.held, State.held, State.part_congr h]

/-- A retry of a thread's fault closes it and runs the thread that waited. -/
theorem State.retryFault_thread {s : State} {id core th : Nat} {f : OpenFault} (found : afind s.memory.faults id = some f) (unit : f.unit = .thread core th)
    (waits : (s.thread (threadKey core th)).state = .waitAccess) :
    (s.retryFault id).memory = { s.memory with faults := adel s.memory.faults id } ∧ ((s.retryFault id).thread (threadKey core th)).state = .running ∧
      (s.retryFault id).sat = s.sat := by
  rw [State.retryFault, found]
  dsimp only
  rw [unit]
  refine ⟨rfl, ?_, rfl⟩
  exact (congrArg Thread.state (agetD_aput_same _ _ _ _)).trans (congrArg Thread.state (if_pos waits))

/-- An abort of a thread's fault closes it. -/
theorem State.abortFault_thread {s : State} {id core th : Nat} {f : OpenFault} (found : afind s.memory.faults id = some f) (unit : f.unit = .thread core th) :
    afind (s.abortFault id).memory.faults id = none := by
  rw [State.abortFault, found]
  dsimp only
  rw [unit]
  dsimp only
  rw [((State.keeps_self _ _).trap (sub_self _) _ _ _ _ _).only.memory]
  exact afind_adel_same _ _

/-- Settles O23: an open fault is found by its number, and its partition's state decides whether the action closes it or is kept. -/
theorem openFaults : Obligations.OpenFaults := by
  refine ⟨fun s s1 h r id a rsv hs action none_ => ?_, fun s s1 h r id rsv f core th hs own found unit ready waits => ?_,
    fun s s1 h r id a rsv f hs action own found suspended => ?_, fun s id f found early => ?_, fun s id f found here late => ?_⟩
  · rw [faultResume_runs hs action, hs.only.memory, none_]
  · have notHeld : s1.held f.part.val = false := by rw [State.held_congr hs.only.pln, State.held, ready]
    have run : exec (.faultResume h id 0 rsv) s = .next ((s1.retryFault id.toNat).done r .ok) := by
      rw [faultResume_runs hs (by decide), show afind s1.memory.faults id.toNat = some f from hs.only.memory ▸ found]
      dsimp only
      rw [own, if_neg (by simp [OpenFault.barred]), notHeld, if_neg (by simp), if_pos rfl]
    obtain ⟨memory, running, sat⟩ := State.retryFault_thread (by rw [hs.only.memory]; exact found) unit waits
    have only := (s1.retryFault id.toNat).done_only r .ok
    refine ⟨_, run, ?_, ?_, fun k ne => ?_, ?_, ?_⟩
    · rw [only.memory, memory]; exact afind_adel_same _ _
    · rw [State.thread, only.cores]; exact running
    · rw [only.memory, memory, hs.only.memory]; exact afind_adel_ne _ ne
    · rw [only.memory, memory, hs.only.memory]
    · rw [only.sat, sat, hs.only.sat]
  · have isHeld : s1.held f.part.val = true := by rw [State.held_congr hs.only.pln, State.held, suspended]
    have run : exec (.faultResume h id a rsv) s =
        .next (State.done { s1 with memory := { s1.memory with faults := aput s1.memory.faults id.toNat { f with recorded := some (a == 0) } } } r .ok) := by
      rw [faultResume_runs hs action, show afind s1.memory.faults id.toNat = some f from hs.only.memory ▸ found]
      dsimp only
      rw [own, if_neg (by simp [OpenFault.barred]), isHeld, if_pos rfl]
    have only := State.done_only { s1 with memory := { s1.memory with faults := aput s1.memory.faults id.toNat { f with recorded := some (a == 0) } } } r .ok
    refine ⟨_, run, ?_, only.cores.trans hs.only.cores, only.sat.trans hs.only.sat⟩
    rw [only.memory]
    exact afind_aput_same _ _ _
  · change execFaultTimeout id s = _
    rw [execFaultTimeout, found]
    refine if_neg ?_
    rintro ⟨free, due⟩
    rcases early with isHeld | before
    · rw [isHeld] at free; cases free
    · omega
  · refine ⟨_, ?_, rfl, fun core th unit => State.abortFault_thread found unit⟩
    change execFaultTimeout id s = _
    rw [execFaultTimeout, found]
    exact if_pos ⟨here, late⟩

end Sys2Proof.Machine
end

section
/-!
PROOFS. Taking a packet and answering it (O45).
-/
namespace Sys2Proof.Machine

/-! ### Windows -/

theorem State.window_congr {s t : State} (h : t.cmd.windows = s.cmd.windows) (w : Nat) : t.window w = s.window w := by rw [State.window, State.window, h]

theorem State.window_modWindow_ne (s : State) {w x : Nat} (f : Window → Window) (ne : x ≠ w) : (s.modWindow w f).window x = s.window x :=
  (getD_modify_eq _ _ _ _ _).trans (if_neg fun h => ne h.1.symm)

/-- A window that is not as after reset is one of the table. -/
theorem State.window_lt {s : State} {w : Nat} (h : s.window w ≠ Window.reset) : w < s.cmd.windows.length := by
  by_contra out
  exact h (List.getD_eq_default _ _ (Nat.not_lt.1 out))

theorem State.window_modWindow_same {s : State} {w : Nat} (f : Window → Window) (lt : w < s.cmd.windows.length) : (s.modWindow w f).window w = f (s.window w) :=
  (getD_modify_eq _ _ _ _ _).trans (if_pos ⟨rfl, lt⟩)

theorem State.takes_lt {s : State} {w : Nat} (h : s.takes w = true) : w < s.cmd.windows.length :=
  State.window_lt fun reset => by rw [State.takes, reset] at h; simp [Window.reset] at h

/-- What a taken packet makes of its window: CONS past it, one more TAKEN, and its replies' room kept. -/
def Window.took (x : Window) (length replies : Nat) : Window := { x with cons := nextCons x.cons length, taken := x.taken + 1, resv := x.resv + replies }

/-- The state after a packet of a window was taken. -/
def State.tookWindow (s : State) (w length replies : Nat) : State := (s.modWindow w fun y => y.took length replies).count Reg.cmdCntTaken 1

/-- A packet that its window may take, whose replies fit its ring, is taken. -/
theorem State.takeWindow_takes {s : State} {w : Nat} {h : Header} {g : Ring} (op replies : Nat) (own : Bool) (takes : s.takes w = true)
    (length : badLength (s.window w).cons h.length = false) (ring : afind s.cmd.rings (windowRing w) = some g) (room : g.room ((s.window w).resv + replies) = true)
    (fence : h.fence = true → (s.window w).resv = 0) :
    s.takeWindow w h op replies own = (s.tookWindow w h.length replies,
      some { origin := h.origin, opcode := op, tag := h.tag, consumed := nextCons (s.window w).cons h.length, left := replies }) := by
  have lt := State.takes_lt takes
  rw [State.takes] at takes
  simp only [Bool.and_eq_true, beq_iff_eq, Bool.not_eq_true'] at takes
  obtain ⟨⟨enabled, fn⟩, idle⟩ := takes
  have mod : (s.modWindow w fun y => { y with cons := nextCons (s.window w).cons h.length, taken := y.taken + 1, resv := y.resv + replies }) =
      s.modWindow w fun y => y.took h.length replies := by
    have at_w : s.cmd.windows[w]'lt = s.window w := by simp [State.window, List.getD_eq_getElem?_getD, lt]
    rw [State.modWindow, State.modWindow]
    congr 2
    rw [List.modify_eq_set_getElem? _ _, List.modify_eq_set_getElem? _ _]
    simp [lt, at_w, Window.took]
  rw [State.takeWindow]
  dsimp only
  rw [if_neg (by simp [enabled, fn, idle]), length, if_neg (by simp), ring]
  dsimp only
  rw [if_neg (by simp [room]; exact fence), mod]
  rfl

theorem State.tookWindow_window {s : State} {w : Nat} (length replies : Nat) (lt : w < s.cmd.windows.length) :
    (s.tookWindow w length replies).window w = (s.window w).took length replies := State.window_modWindow_same _ lt

theorem State.tookWindow_window_ne (s : State) {w x : Nat} (length replies : Nat) (ne : x ≠ w) : (s.tookWindow w length replies).window x = s.window x :=
  State.window_modWindow_ne s _ ne

theorem nop_takes (s : State) (h : Header) (w : Fin 32) (g : Ring) (origin : h.origin = .window w) (takes : s.takes w.val = true)
    (length : badLength (s.window w.val).cons h.length = false) (ring : afind s.cmd.rings (windowRing w.val) = some g) (room : g.room (s.window w.val).resv = true)
    (fence : h.fence = true → (s.window w.val).resv = 0) :
    ∃ t, exec (.nop h) s = .next t ∧ (t.window w.val).cons = nextCons (s.window w.val).cons h.length ∧ (t.window w.val).taken = (s.window w.val).taken + 1 ∧
      (t.window w.val).resv = (s.window w.val).resv ∧ t.reg Reg.cmdCntTaken = min 0xFFFFFFFF (s.reg Reg.cmdCntTaken + 1) ∧ t.cmd.rings = s.cmd.rings ∧
      (∀ x, x ≠ w.val → t.window x = s.window x) ∧ s.Only [.stk, .cmd, .bar] t := by
  have lt := State.takes_lt takes
  have run : exec (.nop h) s = .next ((s.at_ h.now).tookWindow w.val h.length 0) := by
    change execNop h s = _
    rw [execNop, origin]
    exact congrArg (fun p : State × Option ReplyTo => Host.Outcome.next p.1) (State.takeWindow_takes (s := s.at_ h.now) 0 0 false takes length ring room fence)
  have window : ((s.at_ h.now).tookWindow w.val h.length 0).window w.val = (s.window w.val).took h.length 0 := State.tookWindow_window (s := s.at_ h.now) _ _ lt
  refine ⟨_, run, ?_, ?_, ?_, State.reg_count_same _ _ _, rfl, fun x ne => State.tookWindow_window_ne (s.at_ h.now) _ _ ne, ?_⟩
  · rw [window]; rfl
  · rw [window]; rfl
  · rw [window]; rfl
  · exact ((((s.keeps_self _).at_ (by decide) _).modWindow (by decide) _ _).count (by decide) _ _).only

/-- A record goes into a ring that has room and nothing waiting, of a function that does not drain. -/
theorem State.putRecord_writes {s : State} {key : Nat} {g : Ring} (bytes : List Byte) (ring : afind s.cmd.rings key = some g) (empty : g.backlog = [])
    (room : g.room 1 = true) (idle : (s.fn (ringFn key)).draining = false) : s.putRecord key bytes = s.writeRecord key g bytes := by
  rw [State.putRecord, ring]
  dsimp only
  rw [if_pos (by simp [empty, room, idle])]

theorem State.writeRecord_rings (s : State) (key : Nat) (g : Ring) (bytes : List Byte) :
    ∃ n, (s.writeRecord key g bytes).cmd.rings = aput s.cmd.rings key { g with prod := g.prod + 1, unsignalled := n } := by
  rw [State.writeRecord]
  dsimp only
  split
  · exact ⟨_, by rw [State.msix_cmd]; rfl⟩
  · exact ⟨_, rfl⟩

theorem State.writeRecord_windows (s : State) (key : Nat) (g : Ring) (bytes : List Byte) : (s.writeRecord key g bytes).cmd.windows = s.cmd.windows := by
  rw [State.writeRecord]
  dsimp only
  split
  · rw [State.msix_cmd]; rfl
  · rfl

/-- The final reply of a packet of a window whose ring has room goes into the ring, and its room is given back. -/
theorem State.answer_window {s : State} {r : ReplyTo} {w : Fin 32} {g : Ring} (st : Status) (bytes : List Byte) (origin : r.origin = .window w)
    (lt : w.val < s.cmd.windows.length) (ring : afind s.cmd.rings (windowRing w.val) = some g) (empty : g.backlog = []) (room : g.room 1 = true)
    (idle : (s.fn (ringFn (windowRing w.val))).draining = false) :
    ((s.answer r st true bytes).window w.val = { s.window w.val with resv := (s.window w.val).resv - r.left }) ∧
      ∃ n, (s.answer r st true bytes).cmd.rings = aput s.cmd.rings (windowRing w.val) { g with prod := g.prod + 1, unsignalled := n } := by
  rw [State.answer, origin]
  dsimp only
  rw [State.putRecord_writes _ ring empty room idle, if_pos rfl]
  have windows := State.writeRecord_windows s (windowRing w.val) g (replyRecord r.opcode st true false r.tag r.consumed s.me bytes)
  refine ⟨?_, State.writeRecord_rings s _ g _⟩
  rw [State.window_modWindow_same _ (by rw [windows]; exact lt), State.window_congr windows]

/-- A packet that its window takes is taken, where no live activation pauses command service. -/
theorem State.take_window {s : State} {h : Header} {w : Fin 32} {g : Ring} (op replies : Nat) (own : Bool) (origin : h.origin = .window w) (takes : s.takes w.val = true)
    (length : badLength (s.window w.val).cons h.length = false) (ring : afind s.cmd.rings (windowRing w.val) = some g)
    (room : g.room ((s.window w.val).resv + replies) = true) (fence : h.fence = true → (s.window w.val).resv = 0) (held : s.cmd.held = [])
    (idle : s.sec.activating = none) :
    s.take h op replies own = ((s.at_ h.now).tookWindow w.val h.length replies,
      some { origin := h.origin, opcode := op, tag := h.tag, consumed := nextCons (s.window w.val).cons h.length, left := replies }) := by
  have took := State.takeWindow_takes (s := s.at_ h.now) (h := h) op replies own takes length ring room fence
  rw [State.take]
  dsimp only
  rw [show (s.at_ h.now).cmd.held = [] from held, List.find?_nil]
  have paused : ((s.at_ h.now).tookWindow w.val h.length replies).sec.activating = none := idle
  simp only [origin, took, paused, Option.isSome_none, Bool.false_eq_true, if_false]
  rfl

theorem ringFn_ringKey (fn i : Nat) (k : RingKind) (h : i < 4096) : ringFn (ringKey fn k i) = fn := by
  cases k <;> simp only [ringFn, ringKey, RingKind.code] <;> omega

theorem ringFn_windowRing (w : Nat) : ringFn (windowRing w) = windowFn w := by
  rw [windowRing, windowFn]
  split
  · exact ringFn_ringKey _ _ _ (by omega)
  · exact ringFn_ringKey _ _ _ (by omega)

theorem deviceQuery_identifies (s s1 : State) (h : Header) (r : ReplyTo) (hs : s.Serves ⟨0x0001, 1, true, false, 0, 0, 0, false⟩ h false r s1) :
    exec (.deviceQuery h) s = .next (s1.answer r .ok true (leBytes 4 (s1.look Reg.glbIdent) ++ leBytes 4 (s1.look Reg.glbVersion) ++
      leBytes 4 (s1.look Reg.glbDeviceId) ++ leBytes 4 (s1.look Reg.glbCap) ++ leBytes 8 (if s.stk.running then s.stk.stroke else 0) ++ leBytes 8 (max s.stk.time h.now))) := by
  refine congrArg Host.Outcome.next ((State.serve_of_serves hs _).trans ?_)
  rw [State.strokeNow, hs.stk]

theorem deviceQuery_answered (s : State) (h : Header) (w : Fin 32) (g : Ring) (origin : h.origin = .window w) (pf0 : w.val < 16) (takes : s.takes w.val = true)
    (length : badLength (s.window w.val).cons h.length = false) (bare : h.length = 32) (hrsv : h.hrsv = 0) (here : h.destDev = 0xFFFF)
    (ring : afind s.cmd.rings (windowRing w.val) = some g) (room : g.room ((s.window w.val).resv + 1) = true) (empty : g.backlog = [])
    (fence : h.fence = true → (s.window w.val).resv = 0) (held : s.cmd.held = []) (idle : s.sec.activating = none) :
    ∃ t, exec (.deviceQuery h) s = .next t ∧ (t.window w.val).cons = nextCons (s.window w.val).cons 32 ∧ (t.window w.val).resv = (s.window w.val).resv ∧
      (∃ g2, afind t.cmd.rings (windowRing w.val) = some g2 ∧ g2.prod = g.prod + 1 ∧ g2.backlog = [] ∧ g2.entries = g.entries) ∧
      s.Only [.stk, .cmd, .bar, .host, .out] t := by
  have lt := State.takes_lt takes
  have took := State.take_window (h := h) 0x0001 1 false origin takes length ring room fence held idle
  have hs : s.Serves ⟨0x0001, 1, true, false, 0, 0, 0, false⟩ h false
      { origin := h.origin, opcode := 0x0001, tag := h.tag, consumed := nextCons (s.window w.val).cons h.length, left := 1 }
      ((s.at_ h.now).tookWindow w.val h.length 1) := by
    have own : h.origin.partition = none := by rw [origin, Origin.partition, if_pos pf0]
    refine ⟨took, ?_, by simp [State.elsewhere, here]⟩
    simp [State.judge, servedInFault, servedStopped, State.unauthorised, own, lengthOk, bare, roundUp, ceilDiv, hrsv, here]
  have run := deviceQuery_identifies s _ h _ hs
  have one : g.room 1 = true := by
    simp only [Ring.room, decide_eq_true_eq] at room ⊢
    omega
  have notDraining : (s.fn (ringFn (windowRing w.val))).draining = false := by
    rw [ringFn_windowRing]
    simp only [State.takes, Bool.and_eq_true, Bool.not_eq_true'] at takes
    exact takes.2
  obtain ⟨window, n, rings⟩ := State.answer_window (s := (s.at_ h.now).tookWindow w.val h.length 1)
    (r := { origin := h.origin, opcode := 0x0001, tag := h.tag, consumed := nextCons (s.window w.val).cons h.length, left := 1 }) .ok _ origin
    (by rw [show ((s.at_ h.now).tookWindow w.val h.length 1).cmd.windows = s.cmd.windows.modify w.val _ from rfl, List.length_modify]; exact lt) ring empty one notDraining
  rw [State.tookWindow_window (s := s.at_ h.now) _ _ lt] at window
  refine ⟨_, run, ?_, ?_, ⟨{ g with prod := g.prod + 1, unsignalled := n }, by rw [rings]; exact afind_aput_same _ _ _, rfl, empty, rfl⟩, ?_⟩
  · rw [window]; exact congrArg (nextCons (s.window w.val).cons) bare
  · rw [window]; exact Nat.add_sub_cancel _ _
  · exact ((s.keeps_self _).goes_deviceQuery (sub_self _) h).onlyOf run |>.mono (by decide)

/-- Settles O45: taking a packet of a window, putting its record into a ring with room, and what the reply of DEVICE_QUERY holds. -/
theorem packetTakenAndAnswered : Obligations.PacketTakenAndAnswered := ⟨nop_takes, deviceQuery_answered, deviceQuery_identifies⟩

/-! ### Registers of a state whose packet was taken -/

/-- Taking a packet leaves every register but CMD_CNT_TAKEN. -/
theorem State.takeWindow_reg (s : State) (w : Nat) (h : Header) (op replies : Nat) (own : Bool) {o : Nat} (ne : o ≠ Reg.cmdCntTaken) :
    (s.takeWindow w h op replies own).1.reg o = s.reg o := by
  have counted (f : Window → Window) : ((s.modWindow w f).count Reg.cmdCntTaken 1).reg o = s.reg o := State.reg_setReg_ne _ _ ne
  have error (st : Status) : (s.windowError w op h.tag st).reg o = s.reg o := by rw [State.reg, State.windowError, State.putRecord_window_bar]; rfl
  rw [State.takeWindow]
  dsimp only
  split
  · rfl
  split
  · exact error _
  split
  · split
    · exact counted _
    · exact error _
  · split
    · rfl
    · exact counted _

theorem State.take_reg (s : State) (h : Header) (op replies : Nat) (own : Bool) {o : Nat} (ne : o ≠ Reg.cmdCntTaken) :
    (s.take h op replies own).1.reg o = s.reg o := by
  rw [State.take]
  dsimp only
  split
  · split <;> rfl
  · cases h.origin with
    | window w =>
      dsimp only
      have same := (s.at_ h.now).takeWindow_reg w.val h op replies own ne
      split
      · exact same
      · split
        · exact same
        · exact same
    | fabric => dsimp only; (repeat' split) <;> rfl
    | bmc => dsimp only; (repeat' split) <;> rfl

theorem State.Serves.reg {s s1 : State} {q : PktReq} {h : Header} {own : Bool} {r : ReplyTo} (hs : s.Serves q h own r s1) {o : Nat} (ne : o ≠ Reg.cmdCntTaken) :
    s1.reg o = s.reg o := by rw [hs.taken]; exact s.take_reg _ _ _ _ ne

end Sys2Proof.Machine
end

section
/-!
PROOFS. Flash formats and recovery (O24), extents (O25), reads and writes (O26).
-/
namespace Sys2Proof.Machine

/-! ### Flash commands -/

/-- A flash command that is served by a device whose FTL serves runs its body. -/
theorem State.serveFlash_of_serves {s s1 : State} {q : PktReq} {h : Header} {r : ReplyTo} (hs : s.Serves q h false r s1) (ready : s.flsRefusal = none)
    (body : ReplyTo → State → State) : s.serveFlash q h body = body r s1 := by
  have same : s1.flsRefusal = none := by rw [State.flsRefusal, hs.only.fls]; exact ready
  rw [State.serveFlash, State.serve_of_serves hs, same]

theorem State.Serves.flag {s s1 : State} {q : PktReq} {h : Header} {own : Bool} {r : ReplyTo} (hs : s.Serves q h own r s1) {o : Nat} (i : Nat)
    (ne : o ≠ Reg.cmdCntTaken) : s1.flag o i = s.flag o i := State.flag_congr i (hs.reg ne)

theorem State.journal_fresh (s : State) {x : JRec} (fresh : x.seq = 0) :
    s.journal x = { s with fls := { s.fls with tail := s.fls.tail ++ [{ x with seq := s.fls.nextSeq }], nextSeq := s.fls.nextSeq + 1 } } := by
  rw [State.journal, if_pos fresh]

theorem afind_map_val {α β : Type} (l : Assoc α) (f : α → β) (k : Nat) : afind (l.map fun q => (q.1, f q.2)) k = (afind l k).map f := by
  induction l with
  | nil => rfl
  | cons q l ih =>
    obtain ⟨i, x⟩ := q
    rw [List.map_cons, afind, afind, ih]
    split <;> rfl

/-! ### FLASH_FORMAT and FTL_RECOVERY_COMPLETE -/

/-- A block after a format: a retired one stands, any other is free and erased once more. -/
def FlsBlock.formatted (b : FlsBlock) : FlsBlock :=
  if b.state = .retired then b else { b with state := .free, erases := b.erases + 1, refresh := false, retire := false, copies := [] }

theorem flashFormat_runs {s s1 : State} {h : Header} {r : ReplyTo} {op rsv : Nat} (hs : s.Serves (flsReq 0x0700 2 4 rsv 0 false) h false r s1)
    (ready : s.flsRefusal = none) (low : 7 ≤ op) (high : op ≤ 50) (enabled : s.flag Reg.flsCtrl 2 = true) (empty : s.fls.extents = []) :
    exec (.flashFormat h op rsv) s = .next (if (s1.accepted r).1.fls.hold then
      { (s1.accepted r).1 with fls := { (s1.accepted r).1.fls with formatting := some ((s1.accepted r).2, op) } } else (s1.accepted r).1.formatNow (s1.accepted r).2 op) := by
  refine congrArg Host.Outcome.next ((State.serveFlash_of_serves hs ready _).trans ?_)
  dsimp only
  rw [if_neg (by omega), hs.flag 2 (by decide), enabled, if_neg (by decide), hs.only.fls, empty, if_neg (by decide)]

theorem State.formatNow_fls (s : State) (r : ReplyTo) (op : Nat) :
    (s.formatNow r op).fls.op = op ∧ (s.formatNow r op).fls.ready = true ∧ (s.formatNow r op).fls.readOnly = false ∧ (s.formatNow r op).fls.map = [] ∧
      (s.formatNow r op).fls.data = [] ∧ (s.formatNow r op).fls.tail = [] ∧ (s.formatNow r op).fls.userUnits = s.fls.capacity op ∧
      (s.formatNow r op).fls.blocks = s.fls.blocks.map fun q => (q.1, q.2.formatted) := by
  rw [State.formatNow, (State.answer_only _ _ _ _ _).fls]
  exact ⟨rfl, rfl, rfl, rfl, rfl, rfl, rfl, rfl⟩

theorem flashFormat_formats (s s1 : State) (h : Header) (r : ReplyTo) (op rsv : Nat) (hs : s.Serves (flsReq 0x0700 2 4 rsv 0 false) h false r s1)
    (ready : s.flsRefusal = none) (low : 7 ≤ op) (high : op ≤ 50) (enabled : s.flag Reg.flsCtrl 2 = true) (empty : s.fls.extents = []) (free : s.fls.hold = false) :
    ∃ t, exec (.flashFormat h op rsv) s = .next t ∧ t.fls.op = op ∧ t.fls.ready = true ∧ t.fls.readOnly = false ∧ t.fls.map = [] ∧ t.fls.data = [] ∧ t.fls.tail = [] ∧
      t.fls.userUnits = s.fls.capacity op ∧
      (∀ k b, afind s.fls.blocks k = some b → ∃ b2, afind t.fls.blocks k = some b2 ∧
        (if b.state = .retired then b2 = b else b2.state = .free ∧ b2.erases = b.erases + 1 ∧ b2.refresh = false)) := by
  have fls : (s1.accepted r).1.fls = s.fls := (s1.accepted_fls r).trans hs.only.fls
  obtain ⟨op_, rdy, ro, map, data, tail, units, blocks⟩ := (s1.accepted r).1.formatNow_fls (s1.accepted r).2 op
  refine ⟨_, (flashFormat_runs hs ready low high enabled empty).trans (by rw [if_neg (by rw [fls, free]; decide)]), op_, rdy, ro, map, data, tail, by rw [units, fls], fun k b found => ?_⟩
  refine ⟨b.formatted, by rw [blocks, afind_map_val, fls, found]; rfl, ?_⟩
  split
  · next retired => exact if_pos retired
  · next other =>
    rw [FlsBlock.formatted, if_neg other]
    exact ⟨rfl, rfl, rfl⟩

theorem flashFormat_waits (s s1 : State) (h : Header) (r : ReplyTo) (op rsv : Nat) (hs : s.Serves (flsReq 0x0700 2 4 rsv 0 false) h false r s1)
    (ready : s.flsRefusal = none) (low : 7 ≤ op) (high : op ≤ 50) (enabled : s.flag Reg.flsCtrl 2 = true) (empty : s.fls.extents = []) (hold : s.fls.hold = true) :
    ∃ t, exec (.flashFormat h op rsv) s = .next t ∧ t.fls = { s.fls with formatting := some ({ r with left := r.left - 1 }, op) } := by
  have fls : (s1.accepted r).1.fls = s.fls := (s1.accepted_fls r).trans hs.only.fls
  refine ⟨_, (flashFormat_runs hs ready low high enabled empty).trans (by rw [if_pos (by rw [fls, hold])]), ?_⟩
  dsimp only
  rw [fls]
  rfl

/-- What an unmapping leaves of the FTL. -/
structure Fls.Unmapped (f g : Fls) : Prop where
  extents : g.extents = f.extents
  blocks : g.blocks = f.blocks

theorem Fls.touch_unmapped (f : Fls) (lua seq : Nat) : f.Unmapped (f.touch lua seq) := by
  rw [Fls.touch]
  split <;> exact ⟨rfl, rfl⟩

theorem Fls.unmap_unmapped (f : Fls) (lua n seq : Nat) : f.Unmapped (f.unmap lua n seq) := by
  rw [Fls.unmap]
  generalize (f.map.filter fun q => decide (lua ≤ q.1) && decide (q.1 < lua + n)) = hit
  induction hit generalizing f with
  | nil => exact ⟨rfl, rfl⟩
  | cons q hit ih =>
    have first := Fls.touch_unmapped { f with map := adel f.map q.1 } q.1 seq
    have rest := ih (({ f with map := adel f.map q.1 } : Fls).touch q.1 seq)
    exact ⟨rest.extents.trans first.extents, rest.blocks.trans first.blocks⟩

/-- The FTL with an extent dropped and its units unmapped, as recovery drops a transient one. -/
def Fls.dropped (x : Fls) (q : Nat × Extent) : Fls :=
  { (q.2.ranges.foldl (fun y r => y.unmap r.1 r.2 y.lastDurable) x) with extents := adel x.extents q.1 }

theorem Fls.dropped_blocks (x : Fls) (q : Nat × Extent) : (x.dropped q).blocks = x.blocks := by
  rw [Fls.dropped]
  dsimp only
  generalize q.2.ranges = l
  induction l generalizing x with
  | nil => rfl
  | cons r l ih => exact (ih _).trans (x.unmap_unmapped _ _ _).blocks

theorem Fls.foldl_dropped_blocks (l : List (Nat × Extent)) (x : Fls) : (l.foldl Fls.dropped x).blocks = x.blocks := by
  induction l generalizing x with
  | nil => rfl
  | cons q l ih => exact (ih _).trans (x.dropped_blocks q)

/-- An extent that stands after others were dropped was there and was none of them. -/
theorem Fls.foldl_dropped_extents {l : List (Nat × Extent)} {x : Fls} {k : Nat} {e : Extent} (found : afind (l.foldl Fls.dropped x).extents k = some e) :
    afind x.extents k = some e ∧ ∀ q ∈ l, q.1 ≠ k := by
  induction l generalizing x with
  | nil => exact ⟨found, fun q h => nomatch h⟩
  | cons q l ih =>
    obtain ⟨here, none_⟩ := ih found
    have ne : q.1 ≠ k := fun e => by
      rw [← e, show (x.dropped q).extents = adel x.extents q.1 from rfl, afind_adel_same] at here
      cases here
    rw [show (x.dropped q).extents = adel x.extents q.1 from rfl, afind_adel_ne _ ne.symm] at here
    exact ⟨here, fun p mem => (List.mem_cons.1 mem).elim (fun e => e ▸ ne) (none_ p)⟩

theorem ftlRecoveryComplete_recovers (s : State) (bad : List Nat) (recovering : s.fls.recovering = true) (ring : s.fls.ring = []) :
    ∃ t, exec (.ftlRecoveryComplete bad) s = .next t ∧ t.fls.ready = true ∧ t.fls.recovering = false ∧
      (∀ k e, afind t.fls.extents k = some e → e.persistent = true) ∧ (∀ k b, afind t.fls.blocks k = some b → b.state ≠ .opened) ∧
      t.reg Reg.flsCntOrphan = min 0xFFFFFFFF (s.reg Reg.flsCntOrphan +
        (s.openUnits.filter fun q => (decide (s.fls.lastDurable < q.2.seq) || bad.contains q.1) && !s.fls.checkpoint.any fun m => m.2 == q.1).length) ∧ s.Only [.fls, .bar] t := by
  let orphans := s.openUnits.filter fun q => (decide (s.fls.lastDurable < q.2.seq) || bad.contains q.1) && !s.fls.durablyMapped q.1
  let rebuilt := s.openUnits.filter fun q => bad.contains q.1 && s.fls.durablyMapped q.1
  let s0 := (s.count Reg.flsCntOrphan orphans.length).count Reg.flsCntSoft rebuilt.length
  let s1 : State := { s0 with fls := { s0.fls with health := { s0.fls.health with soft := satAdd 0xFFFFFFFF s0.fls.health.soft rebuilt.length } } }
  let f := s1.fls.replay
  let g := (f.extents.filter fun q => !q.2.persistent).foldl Fls.dropped f
  have run : exec (.ftlRecoveryComplete bad) s = .next { s1 with fls := { g with
      recovering := false, ready := true, blocks := g.blocks.map fun q => (q.1, if q.2.state = .opened then { q.2 with state := .closing } else q.2) } } := by
    change execFtlRecoveryComplete bad s = _
    rw [execFtlRecoveryComplete, recovering, if_neg (by decide)]
    rfl
  refine ⟨_, run, rfl, rfl, fun k e found => ?_, fun k b found => ?_, ?_, ?_⟩
  · obtain ⟨here, kept⟩ := Fls.foldl_dropped_extents found
    by_contra transient
    exact kept (k, e) (List.mem_filter.2 ⟨mem_of_afind here, by simpa using transient⟩) rfl
  · change afind (g.blocks.map fun q => (q.1, if q.2.state = .opened then { q.2 with state := .closing } else q.2)) k = some b at found
    rw [afind_map_val g.blocks fun x => if x.state = .opened then { x with state := .closing } else x] at found
    obtain ⟨x, -, rfl⟩ := Option.map_eq_some_iff.1 found
    split
    · exact fun h => nomatch h
    · assumption
  · have same : orphans = s.openUnits.filter fun q => (decide (s.fls.lastDurable < q.2.seq) || bad.contains q.1) && !s.fls.checkpoint.any fun m => m.2 == q.1 :=
      List.filter_congr fun q _ => by rw [Fls.durablyMapped, ring]; rfl
    rw [← same]
    exact (State.reg_setReg_ne _ _ (by decide)).trans (State.reg_count_same _ _ _)
  · exact ((s.keeps_self _).goes_ftlRecoveryComplete (sub_self _) bad).onlyOf run |>.mono (by decide)

/-- Settles O24: a format empties the FTL or waits, and recovery drops the transient extents and closes what was open. -/
theorem flashFormat : Obligations.FlashFormat := ⟨flashFormat_formats, flashFormat_waits, ftlRecoveryComplete_recovers⟩

/-! ### Extents -/

theorem flashExtentCreate_creates (s s1 : State) (h : Header) (r : ReplyTo) (ext units b : Nat) (hs : s.Serves (flsReq 0x0701 1 8 0 0 false) h false r s1)
    (ready : s.flsRefusal = none) (low : ext ≤ 991) (fresh : afind s.fls.extents ext = none) (room : units ≤ s.fls.freeUnits) (place : s.fls.place units = some b) :
    ∃ t, exec (.flashExtentCreate h ext 0 0xFF units) s = .next t ∧
      afind t.fls.extents ext = some { persistent := true, owner := none, ranges := [(b, units)], limit := units, deleting := none } ∧
      (∀ k, k ≠ ext → afind t.fls.extents k = afind s.fls.extents k) ∧ t.fls.map = s.fls.map ∧ t.fls.data = s.fls.data ∧
      t.fls.tail.length = s.fls.tail.length + 1 ∧ t.fls.nextSeq = s.fls.nextSeq + 1 := by
  have fls : s1.fls = s.fls := hs.only.fls
  let e : Extent := { persistent := true, owner := none, ranges := [(b, units)], limit := units, deleting := none }
  let y := State.journal { s1 with fls := { s1.fls with extents := aput s1.fls.extents ext e } } { jrec .extent with extent := ext, lua := b }
  have run : exec (.flashExtentCreate h ext 0 0xFF units) s = .next (y.done r .ok) := by
    refine congrArg Host.Outcome.next ((State.serveFlash_of_serves hs ready _).trans ?_)
    rw [if_neg (by rw [fls, fresh]; simp; omega), State.newExtent, fls, if_neg (Nat.not_lt.2 room), place, ← fls]
    rfl
  have done := (y.done_only r .ok).fls
  have journal : y.fls = _ := congrArg State.fls (State.journal_fresh _ rfl)
  refine ⟨_, run, ?_, fun k ne => ?_, ?_, ?_, ?_, ?_⟩
  · rw [done, journal]; exact afind_aput_same _ _ _
  · rw [done, journal, ← fls]; exact afind_aput_ne _ _ ne
  · rw [done, journal, ← fls]
  · rw [done, journal, ← fls]
  · rw [done, journal, ← fls]; exact List.length_append
  · rw [done, journal, ← fls]

theorem flashExtentCreate_known (s s1 : State) (h : Header) (r : ReplyTo) (ext kind owner units : Nat) (hs : s.Serves (flsReq 0x0701 1 8 0 0 false) h false r s1)
    (ready : s.flsRefusal = none) (known : (afind s.fls.extents ext).isSome = true) : exec (.flashExtentCreate h ext kind owner units) s = .next (s1.done r .badField) := by
  refine congrArg Host.Outcome.next ((State.serveFlash_of_serves hs ready _).trans ?_)
  rw [hs.only.fls, if_pos (.inr (.inr (.inr known)))]

theorem flashExtentDelete_journals (s s1 : State) (h : Header) (r : ReplyTo) (ext rsv : Nat) (e : Extent) (hs : s.Serves (flsReq 0x0702 2 4 rsv 0 false) h false r s1)
    (ready : s.flsRefusal = none) (low : ext ≤ 991) (found : afind s.fls.extents ext = some e) (stands : e.deleting = none) (idle : s.fls.reqs = []) (empty : s.fls.tail = []) :
    ∃ t, exec (.flashExtentDelete h ext rsv) s = .next t ∧ afind t.fls.extents ext = some { e with deleting := some { r with left := r.left - 1 } } ∧
      t.fls.tail = [{ jrec .extent with seq := s.fls.nextSeq, extent := ext, arg := 1 }] ∧ t.fls.map = s.fls.map := by
  have fls : (s1.accepted r).1.fls = s.fls := (s1.accepted_fls r).trans hs.only.fls
  let a := s1.accepted r
  let y : State := { a.1 with fls := { a.1.fls with extents := aput a.1.fls.extents ext { e with deleting := some a.2 } } }
  have here : afind y.fls.extents ext = some { e with deleting := some a.2 } := afind_aput_same _ _ _
  have run : exec (.flashExtentDelete h ext rsv) s = .next (y.journal { jrec .extent with extent := ext, arg := 1 }) := by
    refine congrArg Host.Outcome.next ((State.serveFlash_of_serves hs ready _).trans ?_)
    dsimp only
    rw [hs.only.fls, found]
    dsimp only
    rw [stands, if_neg (by simp; omega)]
    change y.tryDelete ext = _
    rw [State.tryDelete, here]
    refine if_pos ?_
    have reqs : y.fls.reqs = [] := (congrArg Fls.reqs fls).trans idle
    have tail : y.fls.tail = [] := (congrArg Fls.tail fls).trans empty
    rw [reqs, tail]
    rfl
  have journal := congrArg State.fls (State.journal_fresh y (x := { jrec .extent with extent := ext, arg := 1 }) rfl)
  refine ⟨_, run, ?_, ?_, ?_⟩
  · rw [journal]; exact here
  · rw [journal]
    change a.1.fls.tail ++ [{ jrec .extent with extent := ext, arg := 1, seq := a.1.fls.nextSeq }] = _
    rw [fls, empty]
    rfl
  · rw [journal]; exact (congrArg Fls.map fls).trans rfl

theorem State.flsExtent_congr {s t : State} (same : t.fls = s.fls) (h : Header) (ext offset count : Nat) (transfer : Bool) :
    t.flsExtent h ext offset count transfer = s.flsExtent h ext offset count transfer := by rw [State.flsExtent, State.flsExtent, same]

theorem flashDiscard_runs {s s1 : State} {h : Header} {r : ReplyTo} {ext offset count rsv : Nat} {e : Extent} (hs : s.Serves (flsReq 0x0705 1 12 rsv 0 true) h false r s1)
    (ready : s.flsRefusal = none) (extent : s.flsExtent h ext offset count false = .ok e) :
    exec (.flashDiscard h ext offset count rsv) s =
      .next ((if s.flag Reg.flsCtrl 1 ∧ s.fls.tail.length * 32 < 131072 then s1.unmapRange ext e.ranges offset count else s1).done r .ok) := by
  refine congrArg Host.Outcome.next ((State.serveFlash_of_serves hs ready _).trans ?_)
  dsimp only
  rw [State.flsExtent_congr hs.only.fls, extent]
  dsimp only
  rw [hs.flag 1 (by decide), hs.only.fls]

/-- Nothing left to unmap. -/
theorem State.unmapRange_zero (s : State) (ext : Nat) (l : List (Nat × Nat)) : s.unmapRange ext l 0 0 = s := by
  induction l with
  | nil => rfl
  | cons q l ih =>
    obtain ⟨b, n⟩ := q
    rw [State.unmapRange]
    split
    · rw [Nat.zero_sub]; exact ih
    · rw [if_pos rfl]

/-- One unit to unmap: one record of its LUA. -/
theorem State.unmapRange_one (s : State) (ext : Nat) {l : List (Nat × Nat)} {offset lua : Nat} (unit : luaOf l offset = some lua) :
    s.unmapRange ext l offset 1 = s.journal { jrec .unmap with extent := ext, lua := lua, newPua := 1 } := by
  induction l generalizing offset with
  | nil => cases unit
  | cons q l ih =>
    obtain ⟨b, n⟩ := q
    rw [luaOf] at unit
    rw [State.unmapRange]
    by_cases here : offset < n
    · rw [if_pos here] at unit
      cases unit
      rw [if_neg (by omega), if_neg (by decide), show min 1 (n - offset) = 1 by omega]
      exact State.unmapRange_zero _ _ _
    · rw [if_neg here] at unit
      rw [if_pos (by omega)]
      exact ih unit

theorem flashDiscard_unmaps (s s1 : State) (h : Header) (r : ReplyTo) (ext offset rsv lua : Nat) (e : Extent) (hs : s.Serves (flsReq 0x0705 1 12 rsv 0 true) h false r s1)
    (ready : s.flsRefusal = none) (extent : s.flsExtent h ext offset 1 false = .ok e) (enabled : s.flag Reg.flsCtrl 1 = true) (room : s.fls.tail.length * 32 < 131072)
    (unit : luaOf e.ranges offset = some lua) :
    ∃ t, exec (.flashDiscard h ext offset 1 rsv) s = .next t ∧
      t.fls.tail = s.fls.tail ++ [{ jrec .unmap with seq := s.fls.nextSeq, extent := ext, lua := lua, newPua := 1 }] ∧ t.fls.map = s.fls.map := by
  refine ⟨_, (flashDiscard_runs hs ready extent).trans (by rw [if_pos ⟨enabled, room⟩, State.unmapRange_one s1 ext unit, State.journal_fresh _ rfl]), ?_, ?_⟩
  · rw [(State.done_only _ r .ok).fls, ← hs.only.fls]
  · rw [(State.done_only _ r .ok).fls, ← hs.only.fls]

/-- Settles O25: what a creation, a deletion and a discard put into the table of extents and the journal's tail. -/
theorem flashExtents : Obligations.FlashExtents :=
  ⟨flashExtentCreate_creates, flashExtentCreate_known, flashExtentDelete_journals,
    fun _ _ _ _ _ _ _ _ _ hs ready extent disabled => (flashDiscard_runs hs ready extent).trans (by rw [disabled, if_neg (by simp)]), flashDiscard_unmaps⟩

/-! ### Reads and writes -/

theorem flashWrite_stages (s s1 : State) (h : Header) (r : ReplyTo) (ext offset rsv lua : Nat) (addr : BitVec 64) (e : Extent)
    (hs : s.Serves (flsReq 0x0703 2 24 rsv addr.toNat true) h false r s1) (ready : s.flsRefusal = none) (own : h.origin.partition = none)
    (extent : s1.flsExtent h ext offset 1 true = .ok e) (writable : s.fls.readOnly = false) (unit : luaOf e.ranges offset = some lua) :
    ∃ t, exec (.flashWrite h ext offset 1 addr rsv) s = .next t ∧
      afind t.fls.reqs s.fls.nextReq = some { reply := { r with left := r.left - 1 }, extent := ext, offset := offset, left := 1, firstBad := none } ∧
      t.fls.nextReq = s.fls.nextReq + 1 ∧
      t.fls.writes = s.fls.writes ++ [{ req := s.fls.nextReq, index := 0, lua := lua, extent := ext, ukind := .data, seq := s.fls.nextSeq, source := 0 }] ∧
      t.fls.map = s.fls.map ∧ t.fls.data = s.fls.data ∧ t.fls.tail = s.fls.tail := by
  have fls : (s1.accepted r).1.fls = s.fls := (s1.accepted_fls r).trans hs.only.fls
  let a := s1.accepted r
  let request : FlsReq := { reply := a.2, extent := ext, offset := offset, left := 1, firstBad := none }
  let y : State := { a.1 with fls := { a.1.fls with nextReq := a.1.fls.nextReq + 1, reqs := aput a.1.fls.reqs a.1.fls.nextReq request } }
  have run : exec (.flashWrite h ext offset 1 addr rsv) s = .next (y.beginWrite
      { req := a.1.fls.nextReq, index := 0, lua := lua, extent := ext, ukind := .data, seq := 0, source := 0 } (memRead y.host.mem (hostKey 0 addr.toNat) 65536)) := by
    refine congrArg Host.Outcome.next ((State.serveFlash_of_serves hs ready _).trans ?_)
    dsimp only
    rw [extent]
    dsimp only
    rw [hs.only.fls, writable, if_neg (by decide), State.beginUnits, Nat.add_zero, unit]
    dsimp only
    rw [State.readAddr, own]
    rfl
  refine ⟨_, run, ?_, ?_, ?_, (congrArg Fls.map fls).trans rfl, (congrArg Fls.data fls).trans rfl, (congrArg Fls.tail fls).trans rfl⟩
  · change afind (aput a.1.fls.reqs a.1.fls.nextReq _) _ = _
    rw [fls]
    exact afind_aput_same _ _ _
  · exact congrArg (fun f : Fls => f.nextReq + 1) fls
  · change a.1.fls.writes ++ [{ req := a.1.fls.nextReq, index := 0, lua := lua, extent := ext, ukind := .data, seq := a.1.fls.nextSeq, source := 0 }] = _
    rw [fls]

theorem flashWrite_readOnly (s s1 : State) (h : Header) (r : ReplyTo) (ext offset count rsv : Nat) (addr : BitVec 64) (e : Extent)
    (hs : s.Serves (flsReq 0x0703 2 24 rsv addr.toNat true) h false r s1) (ready : s.flsRefusal = none) (extent : s1.flsExtent h ext offset count true = .ok e)
    (full : s.fls.readOnly = true) : exec (.flashWrite h ext offset count addr rsv) s = .next (s1.answer r .noResource true (leBytes 4 offset)) := by
  refine congrArg Host.Outcome.next ((State.serveFlash_of_serves hs ready _).trans ?_)
  dsimp only
  rw [extent]
  dsimp only
  rw [hs.only.fls, full, if_pos rfl]

theorem flashRead_delivers (s s1 : State) (h : Header) (r : ReplyTo) (ext offset rsv lua : Nat) (addr : BitVec 64) (e : Extent)
    (hs : s.Serves (flsReq 0x0704 2 24 rsv addr.toNat true) h false r s1) (ready : s.flsRefusal = none) (own : h.origin.partition = none)
    (extent : s1.flsExtent h ext offset 1 true = .ok e) (unit : luaOf e.ranges offset = some lua) (dies : s.fls.lostDies = []) :
    ∃ t, exec (.flashRead h ext offset 1 addr [] rsv) s = .next t ∧ t.fls = s.fls ∧
      t = State.answer ((s1.accepted r).1.hostWrite 0 addr.toNat (s.fls.unitBytes lua)) { r with left := r.left - 1 } .ok true [] := by
  have fls : (s1.accepted r).1.fls = s.fls := (s1.accepted_fls r).trans hs.only.fls
  have run : exec (.flashRead h ext offset 1 addr [] rsv) s =
      .next (State.answer ((s1.accepted r).1.hostWrite 0 addr.toNat (s.fls.unitBytes lua)) { r with left := r.left - 1 } .ok true []) := by
    refine congrArg Host.Outcome.next ((State.serveFlash_of_serves hs ready _).trans ?_)
    dsimp only
    rw [extent]
    dsimp only
    rw [List.filter_eq_nil_iff.2 ?_]
    · rw [State.readUnits, Nat.add_zero, unit]
      dsimp only
      rw [if_neg (by simp), State.readUnits, State.writeAddr, own, fls]
      rfl
    · intro u _
      rw [fls, dies]
      split <;> simp
  exact ⟨_, run, ((State.answer_only _ _ _ _ _).fls).trans fls, rfl⟩

theorem flashHealth_written (s s1 : State) (h : Header) (r : ReplyTo) (addr : BitVec 64) (hs : s.Serves (flsReq 0x0706 1 8 0 addr.toNat false) h false r s1)
    (ready : s.flsRefusal = none) (own : h.origin.partition = none) :
    exec (.flashHealth h addr) s = .next ((s1.hostWrite 0 addr.toNat s1.healthRecord).done r .ok) := by
  refine congrArg Host.Outcome.next ((State.serveFlash_of_serves hs ready _).trans ?_)
  rw [State.writeAddr, own]

/-- Settles O26: a write's unit is staged behind its request, a read's goes to host memory, and health is written where asked. -/
theorem flashData : Obligations.FlashData := ⟨flashWrite_stages, flashWrite_readOnly, flashRead_delivers, flashHealth_written⟩

end Sys2Proof.Machine
end

section
/-!
PROOFS. Flash programs (O27).
-/
namespace Sys2Proof.Machine

/-! ### Copies between memories -/

theorem memByte_foldl_memPut (l : Mem) (m : Mem) (f t c : Nat) (sorted : l.Pairwise fun p q => p.1 < q.1) (from_ : ∀ p ∈ l, f ≤ p.1) :
    memByte (l.foldl (fun m p => memPut m (p.1 - f + t) p.2) m) c = if t ≤ c then (afind l (c - t + f)).getD (memByte m c) else memByte m c := by
  induction l generalizing m with
  | nil => simp [afind]
  | cons p l ih =>
    obtain ⟨k, v⟩ := p
    have low : f ≤ k := from_ _ List.mem_cons_self
    rw [List.foldl_cons, ih _ (List.Pairwise.of_cons sorted) fun q mem => from_ q (List.mem_cons_of_mem _ mem), afind]
    dsimp only
    by_cases up : t ≤ c
    · rw [if_pos up, if_pos up]
      by_cases here : k = c - t + f
      · have none_ : afind l (c - t + f) = none := by
          cases e : afind l (c - t + f) with
          | none => rfl
          | some w => exact absurd (List.rel_of_pairwise_cons sorted (mem_of_afind e)) (by simp only; omega)
        rw [none_, if_pos here, show k - f + t = c by omega]
        exact memByte_memPut_same _ _ _
      · rw [if_neg here, memByte_memPut_ne _ _ (show c ≠ k - f + t by omega)]
    · rw [if_neg up, if_neg up, memByte_memPut_ne _ _ (show c ≠ k - f + t by omega)]

/-- A copy brings the range's bytes and leaves every other. -/
theorem memByte_memCopy {src : Mem} (f : Nat) (dst : Mem) (t n c : Nat) (wf : Memory.wf src = true) :
    memByte (memCopy src f dst t n) c = if t ≤ c ∧ c < t + n then memByte src (c - t + f) else memByte dst c := by
  have sorted := ((Memory.wf_iff _).1 (Memory.wf_sublist (List.filter_sublist (p := fun p => decide (f ≤ p.1) && decide (p.1 < f + n))) wf)).1
  rw [memCopy, memByte_foldl_memPut _ _ f t c sorted fun p mem => by simpa using (List.mem_filter.1 mem).2 |> fun h => (by simpa using h : f ≤ p.1 ∧ p.1 < f + n).1,
    memByte_memZero]
  have read : (afind (src.filter fun p => decide (f ≤ p.1) && decide (p.1 < f + n)) (c - t + f)).getD 0#8 =
      if f ≤ c - t + f ∧ c - t + f < f + n then memByte src (c - t + f) else 0#8 := by
    have h := memByte_filter src (fun a => decide (f ≤ a) && decide (a < f + n)) (c - t + f)
    simpa [memByte, agetD] using h
  by_cases up : t ≤ c
  · by_cases low : c < t + n
    · rw [if_pos up, if_pos ⟨up, low⟩, if_pos ⟨up, low⟩, read, if_pos (by omega)]
    · have none_ : afind (src.filter fun p => decide (f ≤ p.1) && decide (p.1 < f + n)) (c - t + f) = none := by
        cases e : afind (src.filter fun p => decide (f ≤ p.1) && decide (p.1 < f + n)) (c - t + f) with
        | none => rfl
        | some w =>
          have := (List.mem_filter.1 (mem_of_afind e)).2
          simp only [Bool.and_eq_true, decide_eq_true_eq] at this
          omega
      rw [if_pos up, none_, if_neg fun h => low h.2, if_neg fun h => low h.2]
      rfl
  · rw [if_neg up, if_neg fun h => up h.1, if_neg fun h => up h.1]

/-! ### Blocks -/

theorem State.fblock_congr {s t : State} (blocks : t.fls.blocks = s.fls.blocks) (base : t.fls.eraseBase = s.fls.eraseBase) (k : Nat) : t.fblock k = s.fblock k := by
  rw [State.fblock, State.fblock, blocks, base]

theorem State.fblock_modBlock_same (s : State) (k : Nat) (f : FlsBlock → FlsBlock) : (s.modBlock k f).fblock k = f (s.fblock k) := agetD_aput_same _ _ _ _

theorem State.fblock_modBlock_ne (s : State) {k j : Nat} (f : FlsBlock → FlsBlock) (ne : j ≠ k) : (s.modBlock k f).fblock j = s.fblock j := agetD_aput_ne _ _ _ ne

theorem State.blockTo_eq (s : State) (k : Nat) (st : BlockState) :
    s.blockTo k st = { s with fls := { s.fls with
      blocks := aput s.fls.blocks k { s.fblock k with state := st }
      tail := s.fls.tail ++ [{ jrec .block with newPua := k, arg := st.code, seq := s.fls.nextSeq }], nextSeq := s.fls.nextSeq + 1 } } := by
  rw [State.blockTo, State.journal_fresh _ rfl]
  rfl

theorem State.fblock_blockTo_same (s : State) (k : Nat) (st : BlockState) : (s.blockTo k st).fblock k = { s.fblock k with state := st } := by
  rw [State.blockTo_eq]
  exact agetD_aput_same _ _ _ _

theorem State.fblock_blockTo_ne (s : State) {k j : Nat} (st : BlockState) (ne : j ≠ k) : (s.blockTo k st).fblock j = s.fblock j := by
  rw [State.blockTo_eq]
  exact agetD_aput_ne _ _ _ ne

/-- One block of a superblock that is taken. -/
def State.openBlock (a : State) (k : Nat) : State := if (a.fblock k).state = .free then a.blockTo k .opened else a

theorem State.openBlock_state (a : State) (k j : Nat) :
    ((a.openBlock k).fblock j).state = if j = k ∧ (a.fblock j).state = .free then .opened else (a.fblock j).state := by
  rw [State.openBlock]
  split
  · next free =>
    by_cases here : j = k
    · subst here
      rw [if_pos ⟨rfl, free⟩, State.fblock_blockTo_same]
    · rw [if_neg fun h => here h.1, State.fblock_blockTo_ne _ _ here]
  · next other => rw [if_neg]; rintro ⟨rfl, free⟩; exact other free

theorem State.openBlock_eq (a : State) (k : Nat) : ∃ blocks l n, a.openBlock k = { a with fls := { a.fls with blocks := blocks, tail := a.fls.tail ++ l, nextSeq := n } } ∧
    ∀ r ∈ l, r.type = .block ∧ r.arg = 1 := by
  rw [State.openBlock]
  split
  · exact ⟨_, _, _, State.blockTo_eq _ _ _, fun r mem => by rw [List.mem_singleton.1 mem]; exact ⟨rfl, rfl⟩⟩
  · exact ⟨a.fls.blocks, [], a.fls.nextSeq, by simp, fun r mem => nomatch mem⟩

theorem State.foldl_openBlock_state (l : List Nat) (a : State) (j : Nat) :
    ((l.foldl State.openBlock a).fblock j).state = if j ∈ l ∧ (a.fblock j).state = .free then .opened else (a.fblock j).state := by
  induction l generalizing a with
  | nil => simp
  | cons k l ih =>
    rw [List.foldl_cons, ih, State.openBlock_state]
    by_cases here : j = k <;> by_cases free : (a.fblock j).state = .free <;> simp [here, free]
    · subst here; simp [free]
    · subst here; simp [free]

/-- What taking blocks of a superblock changes: the blocks, and BLOCK records in the tail. -/
theorem State.foldl_openBlock_eq (ks : List Nat) (a : State) :
    ∃ blocks l n, ks.foldl State.openBlock a = { a with fls := { a.fls with blocks := blocks, tail := a.fls.tail ++ l, nextSeq := n } } ∧
      ∀ r ∈ l, r.type = .block ∧ r.arg = 1 := by
  induction ks generalizing a with
  | nil => exact ⟨a.fls.blocks, [], a.fls.nextSeq, by simp, fun r mem => nomatch mem⟩
  | cons k ks ih =>
    obtain ⟨b1, l1, n1, e1, h1⟩ := a.openBlock_eq k
    obtain ⟨b2, l2, n2, e2, h2⟩ := ih (a.openBlock k)
    refine ⟨b2, l1 ++ l2, n2, ?_, fun r mem => (List.mem_append.1 mem).elim (h1 r) (h2 r)⟩
    rw [List.foldl_cons, e2, e1, List.append_assoc]

theorem State.openSuper_eq_foldl (s : State) (block : Nat) : s.openSuper block = (s.superblock block).foldl State.openBlock s := rfl

theorem State.blockOf_die (s : State) (pua : Nat) : s.blockOf pua / 2 ^ 21 = pua / 2 ^ 21 := by
  have low : pua % 2 ^ 21 / max 1 s.nand.unitsPerBlock * max 1 s.nand.unitsPerBlock ≤ pua % 2 ^ 21 := Nat.div_mul_le_self _ _
  have lt : pua % 2 ^ 21 < 2 ^ 21 := Nat.mod_lt _ (by decide)
  rw [State.blockOf]
  omega

theorem afind_amap {α : Type} (f : α → α) (t : Assoc α) (k : Nat) : afind (amap f t) k = (afind t k).map f := afind_map_val t f k

/-- A block of a die in service is one of its superblock. -/
theorem State.mem_superblock {s : State} {pua : Nat} (channel : channelOf pua < s.fls.channels) (stands : s.fls.lostDies.contains (pua / 2 ^ 21) = false) :
    s.blockOf pua ∈ s.superblock (s.blockOf pua) := by
  have die := s.blockOf_die pua
  refine List.mem_map.2 ⟨pua / 2 ^ 21, List.mem_filter.2 ⟨?_, by rw [stands]; rfl⟩, by omega⟩
  rw [die]
  refine List.mem_filter.2 ⟨List.mem_map.2 ⟨pua / 2 ^ 21 / 64 % 16, List.mem_range.2 (Nat.mod_lt _ (by decide)), by omega⟩, ?_⟩
  exact decide_eq_true channel

theorem State.copiedTo_eq (s : State) (source block : Nat) :
    ∃ blocks, s.copiedTo source block = { s with fls := { s.fls with blocks := blocks } } ∧ ∀ j, ((s.copiedTo source block).fblock j).state = (s.fblock j).state := by
  have mod (j : Nat) : ((s.modBlock source fun x => { x with copies := block :: x.copies }).fblock j).state = (s.fblock j).state := by
    by_cases here : j = source
    · rw [here, State.fblock_modBlock_same]
    · rw [State.fblock_modBlock_ne _ _ here]
  rw [State.copiedTo]
  dsimp only
  split
  · refine ⟨_, rfl, fun j => (Eq.trans ?_ (mod j))⟩
    rw [State.fblock, State.fblock, agetD_eq_get, agetD_eq_get]
    dsimp only
    rw [afind_amap]
    cases afind (s.modBlock source fun x => { x with copies := block :: x.copies }).fls.blocks j with
    | none => rfl
    | some x =>
      rw [Option.map_some, Option.getD_some, Option.getD_some]
      split <;> rfl
  · exact ⟨_, rfl, mod⟩

theorem State.parityStep_eq (s : State) (pua : Nat) :
    ∃ parity health, s.parityStep pua = { s with fls := { s.fls with parity := parity, health := health } } := by
  rw [State.parityStep]
  dsimp only
  split
  · exact ⟨_, _, rfl⟩
  · exact ⟨_, _, rfl⟩

/-- The journal record of a programmed unit: a copy's names its source, any other what the map held. -/
def State.programRecord (s : State) (w : FlsWrite) (seq pua : Nat) : JRec :=
  if w.ukind = .gcCopy then { jrec .gcMap with seq := seq, extent := w.extent, lua := w.lua, newPua := pua, oldPua := w.source }
  else { jrec .map with seq := seq, extent := w.extent, lua := w.lua, newPua := pua, oldPua := (afind s.fls.map w.lua).getD 0xFFFFFFFF, req := w.req, index := w.index }

/-- The state after a unit's record was appended, its copy noted. -/
def State.recorded (s : State) (w : FlsWrite) (seq pua : Nat) : State :=
  if w.ukind = .gcCopy then
    (s.copiedTo (s.blockOf w.source) (s.blockOf pua)).journal { jrec .gcMap with seq := seq, extent := w.extent, lua := w.lua, newPua := pua, oldPua := w.source }
  else
    s.journal { jrec .map with seq := seq, extent := w.extent, lua := w.lua, newPua := pua, oldPua := (afind s.fls.map w.lua).getD 0xFFFFFFFF, req := w.req, index := w.index }

theorem State.journal_old (s : State) {x : JRec} (old : x.seq ≠ 0) : s.journal x = { s with fls := { s.fls with tail := s.fls.tail ++ [x] } } := by
  rw [State.journal, if_neg old]

theorem State.recorded_eq (s : State) (w : FlsWrite) {seq : Nat} (pua : Nat) (old : seq ≠ 0) :
    ∃ blocks, s.recorded w seq pua = { s with fls := { s.fls with blocks := blocks, tail := s.fls.tail ++ [s.programRecord w seq pua] } } ∧
      ∀ j, ((s.recorded w seq pua).fblock j).state = (s.fblock j).state := by
  rw [State.recorded, State.programRecord]
  split
  · obtain ⟨blocks, eq, state⟩ := s.copiedTo_eq (s.blockOf w.source) (s.blockOf pua)
    rw [State.journal_old _ (by exact old)]
    exact ⟨blocks, by rw [eq], state⟩
  · rw [State.journal_old _ (by exact old)]
    exact ⟨s.fls.blocks, rfl, fun _ => rfl⟩

/-- The state with a write programmed, before its record. -/
def State.unitPut (s : State) (w : FlsWrite) (seq pua : Nat) : State :=
  { s with fls := { s.fls with
      writes := s.fls.writes.filter fun x => x.seq != seq
      data := memCopy s.fls.staged (seq * 65536) s.fls.data (pua * 65536) 65536
      hdrs := aput s.fls.hdrs pua { lua := w.lua, extent := w.extent, ukind := w.ukind, seq := seq }
      health := { s.fls.health with
        nandUnits := satAdd (2 ^ 64 - 1) s.fls.health.nandUnits 1
        hostUnits := satAdd (2 ^ 64 - 1) s.fls.health.hostUnits (if w.ukind = UKind.data then 1 else 0) } } }

theorem State.unitPut_board (s : State) (w : FlsWrite) (seq pua : Nat) : (s.unitPut w seq pua).board = s.board := rfl

/-- The state after a program that may go on, before its block may close. -/
def State.unitDone (s : State) (w : FlsWrite) (seq pua : Nat) : State :=
  ((((s.throttleStep w (groupOf (s.blockOf pua))).openSuper (s.blockOf pua)).unitPut w seq pua).recorded w seq pua).parityStep pua

/-- The state after a program that may go on: the last unit of a block makes it CLOSING. -/
def State.programmed (s : State) (w : FlsWrite) (seq pua : Nat) : State :=
  if pua - s.blockOf pua = max 1 s.nand.unitsPerBlock - 1 then (s.unitDone w seq pua).modBlock (s.blockOf pua) fun x => { x with state := .closing }
  else s.unitDone w seq pua

theorem State.nand_congr {s t : State} (board : t.board = s.board) : t.nand = s.nand := by rw [State.nand, State.nand, board]

theorem State.blockOf_congr {s t : State} (board : t.board = s.board) (pua : Nat) : t.blockOf pua = s.blockOf pua := by
  rw [State.blockOf, State.blockOf, State.nand_congr board]

theorem unitProgramComplete_programs {s : State} {seq pua : Nat} {w : FlsWrite} (found : s.fls.writes.find? (fun w => w.seq == seq) = some w)
    (may : s.programBlocked w pua = false) : exec (.unitProgramComplete seq pua) s = .next (s.programmed w seq pua) := by
  have board : (((s.throttleStep w (groupOf (s.blockOf pua))).openSuper (s.blockOf pua)).unitPut w seq pua).board = s.board :=
    (State.unitPut_board _ _ _ _).trans (((s.keeps_self [.fls]).throttleStep (sub_self _) w _).openSuper (sub_self _) (s.blockOf pua)).only.board
  change execUnitProgramComplete seq pua s = _
  rw [execUnitProgramComplete, found]
  refine (if_neg (by rw [may]; decide)).trans ?_
  rw [State.programmed, State.unitDone, State.recorded, State.blockOf_congr board pua]
  rfl

end Sys2Proof.Machine
end

section
/-!
PROOFS. Flash programs (O27): what a program brings, and the obligation.
-/
namespace Sys2Proof.Machine

theorem State.throttleStep_eq (s : State) (w : FlsWrite) (g : Nat) : ∃ m, s.throttleStep w g = { s with fls := { s.fls with relocated := m } } := ⟨_, rfl⟩

theorem State.programBlocked_false {s : State} {w : FlsWrite} {pua : Nat} (may : s.programBlocked w pua = false) :
    s.fls.lostDies.contains (pua / 2 ^ 21) = false ∧ ((s.fblock (s.blockOf pua)).state = .free ∨ (s.fblock (s.blockOf pua)).state = .opened) := by
  simp only [State.programBlocked, Bool.or_eq_false_iff, Bool.not_eq_false', Bool.or_eq_true, beq_iff_eq] at may
  obtain ⟨⟨⟨⟨⟨_, stands⟩, _⟩, block⟩, _⟩, _⟩ := may
  exact ⟨stands, block⟩

theorem State.unitPut_blocks (s : State) (w : FlsWrite) (seq pua : Nat) : (s.unitPut w seq pua).fls.blocks = s.fls.blocks := rfl

theorem State.unitPut_base (s : State) (w : FlsWrite) (seq pua : Nat) : (s.unitPut w seq pua).fls.eraseBase = s.fls.eraseBase := rfl

/-- What a program that may go on makes of the FTL. -/
theorem State.programmed_fls {s : State} {seq pua : Nat} {w : FlsWrite} (old : seq ≠ 0) (may : s.programBlocked w pua = false) (channel : channelOf pua < s.fls.channels) :
    ∃ l blocks relocated nextSeq parity health,
      (s.programmed w seq pua).fls = { s.fls with
        relocated := relocated, blocks := blocks, tail := s.fls.tail ++ l ++ [s.programRecord w seq pua], nextSeq := nextSeq, parity := parity, health := health
        writes := s.fls.writes.filter fun x => x.seq != seq
        data := memCopy s.fls.staged (seq * 65536) s.fls.data (pua * 65536) 65536
        hdrs := aput s.fls.hdrs pua { lua := w.lua, extent := w.extent, ukind := w.ukind, seq := seq } } ∧
      (∀ r ∈ l, r.type = .block ∧ r.arg = 1) ∧
      ((s.programmed w seq pua).fblock (s.blockOf pua)).state = if pua - s.blockOf pua = max 1 s.nand.unitsPerBlock - 1 then .closing else .opened := by
  obtain ⟨stands, block⟩ := State.programBlocked_false may
  have member := State.mem_superblock channel stands
  obtain ⟨relocated, throttled⟩ := s.throttleStep_eq w (groupOf (s.blockOf pua))
  have isOpened := State.foldl_openBlock_state (s.superblock (s.blockOf pua)) (s.throttleStep w (groupOf (s.blockOf pua))) (s.blockOf pua)
  obtain ⟨b1, l, n1, opened, records⟩ := State.foldl_openBlock_eq (s.superblock (s.blockOf pua)) (s.throttleStep w (groupOf (s.blockOf pua)))
  have same : (s.throttleStep w (groupOf (s.blockOf pua))).fblock (s.blockOf pua) = s.fblock (s.blockOf pua) := by rw [throttled]; rfl
  have super : (s.throttleStep w (groupOf (s.blockOf pua))).superblock (s.blockOf pua) = s.superblock (s.blockOf pua) := by rw [throttled]; rfl
  rw [State.programmed, State.unitDone, State.openSuper_eq_foldl, super]
  generalize (s.superblock (s.blockOf pua)).foldl State.openBlock (s.throttleStep w (groupOf (s.blockOf pua))) = a at opened isOpened
  have state : (a.fblock (s.blockOf pua)).state = .opened := by
    rw [isOpened, same]
    rcases block with free | open_
    · rw [if_pos ⟨member, free⟩]
    · rw [open_, if_neg (by simp)]
  obtain ⟨b2, recorded, keeps⟩ := (a.unitPut w seq pua).recorded_eq w pua old
  obtain ⟨parity, health, paritied⟩ := ((a.unitPut w seq pua).recorded w seq pua).parityStep_eq pua
  have record : (a.unitPut w seq pua).programRecord w seq pua = s.programRecord w seq pua := by
    rw [State.programRecord, State.programRecord, show (a.unitPut w seq pua).fls.map = s.fls.map by rw [State.unitPut, opened, throttled]]
  have closed : ((((a.unitPut w seq pua).recorded w seq pua).parityStep pua).fblock (s.blockOf pua)).state = .opened := by
    have put : (a.unitPut w seq pua).fblock (s.blockOf pua) = a.fblock (s.blockOf pua) := State.fblock_congr (a.unitPut_blocks w seq pua) (a.unitPut_base w seq pua) _
    rw [← state, ← put, ← keeps (s.blockOf pua), paritied]
    exact congrArg FlsBlock.state (State.fblock_congr rfl rfl _)
  have fls : (((a.unitPut w seq pua).recorded w seq pua).parityStep pua).fls = { s.fls with
        relocated := relocated, blocks := b2, tail := s.fls.tail ++ l ++ [s.programRecord w seq pua], nextSeq := n1, parity := parity, health := health
        writes := s.fls.writes.filter fun x => x.seq != seq
        data := memCopy s.fls.staged (seq * 65536) s.fls.data (pua * 65536) 65536
        hdrs := aput s.fls.hdrs pua { lua := w.lua, extent := w.extent, ukind := w.ukind, seq := seq } } := by
    rw [paritied, recorded, record, State.unitPut, opened, throttled]
  generalize ((a.unitPut w seq pua).recorded w seq pua).parityStep pua = d at fls closed
  split
  · exact ⟨l, _, relocated, n1, parity, health, by rw [State.modBlock, fls], records, by rw [State.fblock_modBlock_same]⟩
  · exact ⟨l, b2, relocated, n1, parity, health, fls, records, closed⟩

theorem unitProgramComplete_puts (s : State) (seq pua : Nat) (w : FlsWrite) (found : s.fls.writes.find? (fun w => w.seq == seq) = some w) (old : seq ≠ 0)
    (may : s.programBlocked w pua = false) (channel : channelOf pua < s.fls.channels) (wfStaged : Memory.wf s.fls.staged = true) (_wfData : Memory.wf s.fls.data = true) :
    ∃ t l, exec (.unitProgramComplete seq pua) s = .next t ∧ afind t.fls.hdrs pua = some { lua := w.lua, extent := w.extent, ukind := w.ukind, seq := seq } ∧
      (∀ x ∈ t.fls.writes, x.seq ≠ seq) ∧ t.fls.map = s.fls.map ∧ (∀ r ∈ l, r.type = .block ∧ r.arg = 1) ∧
      (w.ukind = .data → t.fls.tail = s.fls.tail ++ l ++
        [{ jrec .map with seq := seq, extent := w.extent, lua := w.lua, newPua := pua, oldPua := (afind s.fls.map w.lua).getD 0xFFFFFFFF, req := w.req, index := w.index }]) ∧
      (w.ukind = .gcCopy → t.fls.tail = s.fls.tail ++ l ++ [{ jrec .gcMap with seq := seq, extent := w.extent, lua := w.lua, newPua := pua, oldPua := w.source }]) ∧
      (∀ i, i < 65536 → memByte t.fls.data (pua * 65536 + i) = memByte s.fls.staged (seq * 65536 + i)) ∧
      (∀ a, a < pua * 65536 ∨ pua * 65536 + 65536 ≤ a → memByte t.fls.data a = memByte s.fls.data a) ∧
      (t.fblock (s.blockOf pua)).state = (if pua - s.blockOf pua = max 1 s.nand.unitsPerBlock - 1 then BlockState.closing else .opened) ∧ s.Only [.fls] t := by
  have run := unitProgramComplete_programs found may
  have only := ((s.keeps_self _).goes_unitProgramComplete (sub_self _) seq pua).onlyOf run
  obtain ⟨l, blocks, relocated, nextSeq, parity, health, fls, records, state⟩ := State.programmed_fls old may channel
  refine ⟨_, l, run, ?_, ?_, ?_, records, ?_, ?_, ?_, ?_, state, only⟩
  · rw [fls]; exact afind_aput_same _ _ _
  · rw [fls]
    intro x mem
    simpa using (List.mem_filter.1 mem).2
  · rw [fls]
  · intro data
    rw [fls, State.programRecord, data, if_neg (by decide)]
  · intro copy
    rw [fls, State.programRecord, copy, if_pos rfl]
  · intro i low
    rw [fls]
    dsimp only
    rw [memByte_memCopy _ _ _ _ _ wfStaged, if_pos (by omega), show pua * 65536 + i - pua * 65536 + seq * 65536 = seq * 65536 + i by omega]
  · intro a out
    rw [fls]
    dsimp only
    rw [memByte_memCopy _ _ _ _ _ wfStaged, if_neg (by omega)]

theorem State.programBlocked_hold {s : State} (hold : s.fls.hold = true) (w : FlsWrite) (pua : Nat) : s.programBlocked w pua = true := by
  rw [State.programBlocked, hold]
  simp

theorem unitProgramComplete_blocked {s : State} (seq pua : Nat) (blocked : ∀ w, s.fls.writes.find? (fun w => w.seq == seq) = some w → s.programBlocked w pua = true) :
    exec (.unitProgramComplete seq pua) s = .next s := by
  change execUnitProgramComplete seq pua s = _
  rw [execUnitProgramComplete]
  cases found : s.fls.writes.find? (fun w => w.seq == seq) with
  | none => rfl
  | some w => exact if_pos (blocked w found)

/-! ### Failed programs -/

theorem State.beginCopy_eq (s : State) (lua pua : Nat) :
    ∃ n x staged, s.beginCopy lua pua = { s with fls := { s.fls with nextSeq := n, writes := s.fls.writes ++ [x], staged := staged } } := ⟨_, _, _, rfl⟩

/-- Copies that begin add to the writes and to what is staged. -/
theorem State.foldl_beginCopy_eq {α : Type} (lua pua : α → Nat) (l : List α) (s : State) :
    ∃ n xs staged, l.foldl (fun (x : State) q => x.beginCopy (lua q) (pua q)) s =
      { s with fls := { s.fls with nextSeq := n, writes := s.fls.writes ++ xs, staged := staged } } ∧ xs.length = l.length := by
  induction l generalizing s with
  | nil => exact ⟨s.fls.nextSeq, [], s.fls.staged, by simp, rfl⟩
  | cons q l ih =>
    obtain ⟨n, x, staged, e1⟩ := s.beginCopy_eq (lua q) (pua q)
    obtain ⟨n2, xs, staged2, e2, len⟩ := ih (s.beginCopy (lua q) (pua q))
    refine ⟨n2, x :: xs, staged2, ?_, by rw [List.length_cons, len, List.length_cons]⟩
    rw [List.foldl_cons, e2, e1]
    simp

theorem State.copyOut_eq (s : State) (block : Nat) :
    ∃ n xs staged, s.copyOut block = { s with fls := { s.fls with nextSeq := n, writes := s.fls.writes ++ xs, staged := staged } } ∧
      xs.length = (s.validUnits block).length := State.foldl_beginCopy_eq (fun q : Nat × Nat => q.1) (fun q => q.2) (s.validUnits block) s

/-- What the reserve's end leaves of the FTL and of a register. -/
structure State.Spared (o : Nat) (s t : State) : Prop where
  blocks : t.fls.blocks = s.fls.blocks
  base : t.fls.eraseBase = s.fls.eraseBase
  retired : t.fls.retired = s.fls.retired
  map : t.fls.map = s.fls.map
  data : t.fls.data = s.fls.data
  lostDies : t.fls.lostDies = s.fls.lostDies
  reg : t.reg o = s.reg o

theorem State.Spared.refl (o : Nat) (s : State) : State.Spared o s s := ⟨rfl, rfl, rfl, rfl, rfl, rfl, rfl⟩

theorem State.Spared.trans {o : Nat} {s t u : State} (h : State.Spared o s t) (k : State.Spared o t u) : State.Spared o s u :=
  ⟨k.blocks.trans h.blocks, k.base.trans h.base, k.retired.trans h.retired, k.map.trans h.map, k.data.trans h.data, k.lostDies.trans h.lostDies, k.reg.trans h.reg⟩

theorem State.Spared.of_eq {o : Nat} {s t : State} (fls : t.fls = s.fls) (reg : t.reg o = s.reg o) : State.Spared o s t :=
  ⟨by rw [fls], by rw [fls], by rw [fls], by rw [fls], by rw [fls], by rw [fls], reg⟩

theorem State.spared_post (s : State) (f : FaultSpec) {o : Nat} (ne : o ≠ Reg.bltCntDrop) : State.Spared o s (s.post f) :=
  .of_eq ((s.keeps_self _).post (sub_self _) f).only.fls (s.reg_post f ne)

theorem State.spared_answer (s : State) (r : ReplyTo) (st : Status) (final : Bool) (bytes : List Byte) (o : Nat) : State.Spared o s (s.answer r st final bytes) :=
  .of_eq (s.answer_only r st final bytes).fls (by rw [State.reg, State.reg, State.answer_bar])

theorem State.spared_tryDelete (s : State) (ext o : Nat) : State.Spared o s (s.tryDelete ext) := by
  rw [State.tryDelete]
  split
  · split
    · rw [State.journal_fresh _ rfl]; exact ⟨rfl, rfl, rfl, rfl, rfl, rfl, rfl⟩
    · exact .refl o s
  · exact .refl o s

theorem State.spared_foldl {α : Type} {o : Nat} (f : State → α → State) (l : List α) (s : State) (each : ∀ x a, State.Spared o x (f x a)) :
    State.Spared o s (l.foldl f s) := by
  induction l generalizing s with
  | nil => exact .refl o s
  | cons a l ih => exact (each s a).trans (ih (f s a))

theorem State.spared_checkSpare (s : State) {o : Nat} (ne : o ≠ Reg.bltCntDrop) : State.Spared o s s.checkSpare := by
  rw [State.checkSpare]
  split
  · exact .refl o s
  · refine State.Spared.trans (State.Spared.trans ?_ (State.spared_post _ _ ne)) (State.spared_foldl _ _ _ fun x q => ?_)
    · exact ⟨rfl, rfl, rfl, rfl, rfl, rfl, rfl⟩
    · dsimp only
      split
      · exact .refl o x
      · split
        · refine State.Spared.trans (State.Spared.trans ?_ (State.spared_answer _ _ _ _ _ o)) (State.spared_tryDelete _ _ o)
          exact ⟨rfl, rfl, rfl, rfl, rfl, rfl, rfl⟩
        · exact ⟨rfl, rfl, rfl, rfl, rfl, rfl, rfl⟩

theorem State.checkSpare_noSpare {s : State} (none_ : s.fls.spareAtFormat = 0) : s.checkSpare = s := by
  rw [State.checkSpare, if_pos (.inr (.inl none_))]

/-- The state with a block retired and counted. -/
def State.blockLost (s : State) (k : Nat) : State := { s.blockTo k .retired with fls := { (s.blockTo k .retired).fls with retired := (s.blockTo k .retired).fls.retired + 1 } }

theorem State.blockLost_fls (s : State) (k : Nat) :
    ∃ blocks tail n, (s.blockLost k).fls = { s.fls with blocks := blocks, retired := s.fls.retired + 1, tail := tail, nextSeq := n } := by
  rw [State.blockLost, State.blockTo_eq]
  exact ⟨_, _, _, rfl⟩

theorem State.blockLost_state (s : State) (k : Nat) : ((s.blockLost k).fblock k).state = .retired := by
  have same : (s.blockLost k).fblock k = (s.blockTo k .retired).fblock k := State.fblock_congr rfl rfl _
  rw [same, State.fblock_blockTo_same]

theorem State.blockLost_reg (s : State) (k o : Nat) : (s.blockLost k).reg o = s.reg o := by
  rw [State.blockLost, State.blockTo_eq]
  rfl

/-- The state with a lost block's units, mapped or about to be, copied out. -/
def State.copiedOut (s : State) (k : Nat) : State :=
  (s.fls.tail.filter fun r => (r.type == .map || r.type == .gcMap) && s.blockOf r.newPua == k).foldl (fun (x : State) r => x.beginCopy r.lua r.newPua) (s.copyOut k)

theorem State.copiedOut_eq (s : State) (k : Nat) :
    ∃ n xs staged, s.copiedOut k = { s with fls := { s.fls with nextSeq := n, writes := s.fls.writes ++ xs, staged := staged } } := by
  obtain ⟨n1, x1, g1, e1, -⟩ := s.copyOut_eq k
  obtain ⟨n2, x2, g2, e2, -⟩ := State.foldl_beginCopy_eq (fun r : JRec => r.lua) (fun r => r.newPua)
    (s.fls.tail.filter fun r => (r.type == .map || r.type == .gcMap) && s.blockOf r.newPua == k) (s.copyOut k)
  exact ⟨n2, x1 ++ x2, g2, e2.trans (by rw [e1, List.append_assoc])⟩

/-- The state after a block's failure, but for its die and the reserve. -/
def State.programFailed (s : State) (pua : Nat) : State :=
  (((s.count Reg.flsCntProgFail 1).note (0x300 + channelOf pua) 0x602 (pua / 2 ^ 21)).blockLost (s.blockOf pua)).copiedOut (s.blockOf pua)

/-- What the failure of a block makes of the FTL. -/
theorem State.programFailed_fls (s : State) (pua : Nat) :
    ∃ blocks tail n xs staged, (s.programFailed pua).fls = { s.fls with
        blocks := blocks, retired := s.fls.retired + 1, tail := tail, nextSeq := n, writes := s.fls.writes ++ xs, staged := staged } ∧
      ((s.programFailed pua).fblock (s.blockOf pua)).state = .retired ∧
      (s.programFailed pua).reg Reg.flsCntProgFail = min 0xFFFFFFFF (s.reg Reg.flsCntProgFail + 1) := by
  have fls0 : ((s.count Reg.flsCntProgFail 1).note (0x300 + channelOf pua) 0x602 (pua / 2 ^ 21)).fls = s.fls :=
    (((s.keeps_self _).count (by decide) _ _).note (sub_self _) _ _ _).only.fls
  have reg0 : ((s.count Reg.flsCntProgFail 1).note (0x300 + channelOf pua) 0x602 (pua / 2 ^ 21)).reg Reg.flsCntProgFail = min 0xFFFFFFFF (s.reg Reg.flsCntProgFail + 1) :=
    (State.reg_post _ _ (by decide)).trans (State.reg_count_same _ _ _)
  rw [State.programFailed]
  generalize (s.count Reg.flsCntProgFail 1).note (0x300 + channelOf pua) 0x602 (pua / 2 ^ 21) = s0 at fls0 reg0
  obtain ⟨blocks, tail, n0, fls1⟩ := s0.blockLost_fls (s.blockOf pua)
  have state1 := s0.blockLost_state (s.blockOf pua)
  have reg1 := s0.blockLost_reg (s.blockOf pua) Reg.flsCntProgFail
  generalize s0.blockLost (s.blockOf pua) = s1 at fls1 state1 reg1
  obtain ⟨n, xs, staged, eq⟩ := s1.copiedOut_eq (s.blockOf pua)
  rw [eq]
  refine ⟨blocks, tail, n, xs, staged, ?_, ?_, reg1.trans reg0⟩
  · rw [fls1, fls0]
  · exact (congrArg FlsBlock.state (State.fblock_congr rfl rfl _)).trans state1

/-- The state with the die of a failed unit lost, and reported. -/
def State.dieLost (s : State) (pua : Nat) : State :=
  State.post { s with fls := { s.fls with
      lostDies := if s.fls.lostDies.contains (pua / 2 ^ 21) then s.fls.lostDies else pua / 2 ^ 21 :: s.fls.lostDies
      chans := s.fls.chans.modify (channelOf pua) fun x => { x with diesOk := x.diesOk - 1 } } } (fault (0x300 + channelOf pua) 0x604 2 (pua / 2 ^ 21))

theorem State.dieLost_fls (s : State) (pua : Nat) :
    (s.dieLost pua).fls = { s.fls with
      lostDies := if s.fls.lostDies.contains (pua / 2 ^ 21) then s.fls.lostDies else pua / 2 ^ 21 :: s.fls.lostDies
      chans := s.fls.chans.modify (channelOf pua) fun x => { x with diesOk := x.diesOk - 1 } } ∧
    (s.dieLost pua).reg Reg.flsCntProgFail = s.reg Reg.flsCntProgFail :=
  ⟨((State.keeps_self _ _).post (sub_self _) _).only.fls, State.reg_post _ _ (by decide)⟩

section
variable {s0 s : State} {l : List Group} (k : s0.Keeps l s)
include k

theorem State.Keeps.blockLost (g : [Group.fls] ⊆ l) (block) : s0.Keeps l (s.blockLost block) := by
  unfold State.blockLost
  grind only [State.Keeps.setFls, State.Keeps.blockTo, List.cons_subset, List.nil_subset]

theorem State.Keeps.copiedOut (g : [Group.fls] ⊆ l) (block) : s0.Keeps l (s.copiedOut block) := (k.copyOut g block).foldl _ _ fun _ _ kt => kt.beginCopy g _ _

theorem State.Keeps.dieLost (g : [Group.fls, .bar, .blt] ⊆ l) (pua) : s0.Keeps l (s.dieLost pua) := by
  unfold State.dieLost
  grind only [State.Keeps.setFls, State.Keeps.post, List.cons_subset, List.nil_subset]

end

theorem programFailure_retires (s : State) (seq pua : Nat) (lost : Bool) (w : FlsWrite) (staged : w ∈ s.fls.writes) (named : w.seq = seq) (free : s.fls.hold = false) :
    ∃ t, exec (.programFailure seq pua lost) s = .next t ∧ (t.fblock (s.blockOf pua)).state = .retired ∧ t.fls.retired = s.fls.retired + 1 ∧
      t.reg Reg.flsCntProgFail = min 0xFFFFFFFF (s.reg Reg.flsCntProgFail + 1) ∧ t.fls.map = s.fls.map ∧ t.fls.data = s.fls.data ∧
      (lost = true → t.fls.lostDies.contains (pua / 2 ^ 21) = true) ∧ (lost = false → t.fls.lostDies = s.fls.lostDies) ∧
      (s.fls.spareAtFormat = 0 → w ∈ t.fls.writes ∧ s.Only [.fls, .bar, .blt] t) ∧ s.Only [.fls, .bar, .blt, .cmd, .host, .out] t := by
  have run : exec (.programFailure seq pua lost) s = .next (if lost then (s.programFailed pua).dieLost pua else s.programFailed pua).checkSpare := by
    refine if_neg ?_
    rintro (hold | none_)
    · rw [free] at hold; cases hold
    · exact none_ (List.any_eq_true.2 ⟨w, staged, by simpa using named⟩)
  obtain ⟨blocks, tail, n, xs, staged_, fls, state, reg⟩ := s.programFailed_fls pua
  have only : s.Only [.fls, .bar, .blt] (s.programFailed pua) :=
    (((((s.keeps_self _).count (by decide) _ _).note (by decide) _ _ _).blockLost (by decide) _).copiedOut (by decide) _).only
  have lostOnly : (s.programFailed pua).Only [.fls, .bar, .blt] ((s.programFailed pua).dieLost pua) := ((State.keeps_self _ _).dieLost (by decide) _).only
  obtain ⟨dieFls, dieReg⟩ := (s.programFailed pua).dieLost_fls pua
  generalize s.programFailed pua = d at *
  generalize d.dieLost pua = e at *
  have goes := ((s.keeps_self [.fls, .bar, .blt, .cmd, .host, .out]).goes_programFailure (by decide) seq pua lost).onlyOf run
  cases lost with
  | false =>
    rw [if_neg (by decide)] at run goes
    have spared := State.spared_checkSpare d (o := Reg.flsCntProgFail) (by decide)
    refine ⟨d.checkSpare, run, ?_, ?_, ?_, ?_, ?_, fun h => absurd h (by decide), fun _ => ?_, fun spare => ?_, goes⟩
    · rw [State.fblock_congr spared.blocks spared.base]; exact state
    · rw [spared.retired, fls]
    · rw [spared.reg]; exact reg
    · rw [spared.map, fls]
    · rw [spared.data, fls]
    · rw [spared.lostDies, fls]
    · rw [State.checkSpare_noSpare (by rw [fls]; exact spare)]
      exact ⟨by rw [fls]; exact List.mem_append_left _ staged, only⟩
  | true =>
    rw [if_pos rfl] at run goes
    have spared := State.spared_checkSpare e (o := Reg.flsCntProgFail) (by decide)
    refine ⟨e.checkSpare, run, ?_, ?_, ?_, ?_, ?_, fun _ => ?_, fun h => absurd h (by decide), fun spare => ?_, goes⟩
    · rw [State.fblock_congr spared.blocks spared.base, State.fblock_congr (s := d) (by rw [dieFls]) (by rw [dieFls])]; exact state
    · rw [spared.retired, dieFls, fls]
    · rw [spared.reg, dieReg]; exact reg
    · rw [spared.map, dieFls, fls]
    · rw [spared.data, dieFls, fls]
    · rw [spared.lostDies, dieFls]
      dsimp only
      split
      · assumption
      · simp
    · rw [State.checkSpare_noSpare (by rw [dieFls, fls]; exact spare)]
      exact ⟨by rw [dieFls, fls]; exact List.mem_append_left _ staged, only.trans lostOnly⟩

/-- Settles O27: a program that may go on, a blocked one, HOLD, and a failed program, each from what its row makes of the FTL. -/
theorem flashPrograms : Obligations.FlashPrograms := by
  refine ⟨unitProgramComplete_puts, fun s seq pua w found blocked => ?_, fun s seq pua w hold => ⟨State.programBlocked_hold hold w pua, ?_, fun lost => ?_⟩, programFailure_retires⟩
  · exact unitProgramComplete_blocked seq pua fun w2 found2 => by rw [found] at found2; cases found2; exact blocked
  · exact unitProgramComplete_blocked seq pua fun w2 _ => State.programBlocked_hold hold w2 pua
  · exact if_pos (.inl hold)

end Sys2Proof.Machine
end

section
/-!
PROOFS. The journal and the map of flash (O28).
-/
namespace Sys2Proof.Machine

/-! ### Tables -/

theorem afind_filter_key {α : Type} (l : Assoc α) (p : Nat → Bool) (k : Nat) : afind (l.filter fun e => p e.1) k = if p k then afind l k else none := by
  induction l with
  | nil => simp [afind]
  | cons e l ih =>
    obtain ⟨i, x⟩ := e
    rw [List.filter_cons]
    by_cases here : i = k
    · subst here
      by_cases kept : p i = true <;> simp_all [afind]
    · by_cases kept : p i = true <;> simp_all [afind]

/-- Entries with keys of their own put into a table are found there, and every other entry as before. -/
theorem afind_foldl_aput {α : Type} (l m : Assoc α) (k : Nat) (sorted : l.Pairwise fun p q => p.1 < q.1) :
    afind (l.foldl (fun (m : Assoc α) (q : Nat × α) => aput m q.1 q.2) m) k = (afind l k).or (afind m k) := by
  induction l generalizing m with
  | nil => simp [afind]
  | cons e l ih =>
    obtain ⟨i, x⟩ := e
    rw [List.foldl_cons, ih _ (List.Pairwise.of_cons sorted), afind]
    by_cases here : i = k
    · have none_ : afind l k = none := by
        cases found : afind l k with
        | none => rfl
        | some w => exact absurd (List.rel_of_pairwise_cons sorted (mem_of_afind found)) (by simp only; omega)
      rw [if_pos here, none_, here, afind_aput_same]
      rfl
    · rw [if_neg here, afind_aput_ne _ _ fun h => here h.symm]

/-! ### Commits and durable records -/

theorem State.only_setFls (s : State) (x : Fls) : s.Only [.fls] { s with fls := x } := by simp [State.Only]

theorem journalDurable_maps (s : State) (r : JRec) (rest : List JRec) (tail : s.fls.tail = r :: rest) (some_ : 1 ≤ s.fls.committing) (kind : r.type = .map) (own : r.req = 0)
    (newer : s.fls.mappedSeq r.lua ≤ r.seq) :
    ∃ t, exec (.journalDurable 1) s = .next t ∧ afind t.fls.map r.lua = some r.newPua ∧ (∀ l, l ≠ r.lua → afind t.fls.map l = afind s.fls.map l) ∧
      t.fls.tail = rest ∧ t.fls.ring = s.fls.ring ++ [r] ∧ t.fls.data = s.fls.data ∧ s.Only [.fls] t := by
  let f : Fls := { s.fls with tail := rest, committing := s.fls.committing - 1, ring := s.fls.ring ++ [r], lastDurable := max s.fls.lastDurable r.seq }
  let g := f.mapTo r.lua r.newPua r.seq
  have run : exec (.journalDurable 1) s = .next { s with fls := { g with staged := memZero s.fls.staged (r.seq * 65536) 65536 } } := by
    change execJournalDurable 1 s = _
    rw [execJournalDurable, Nat.min_eq_left some_, tail, List.take_succ_cons, List.take_zero, List.foldl_cons, List.foldl_nil, State.durable, kind, own, if_pos rfl]
    have apply_ : f.applyRec r = g := by rw [Fls.applyRec, kind]; exact if_pos newer
    change Host.Outcome.next { s with fls := { f.applyRec r with staged := memZero s.fls.staged (r.seq * 65536) 65536 } } = _
    rw [apply_]
  have touched : g.map = aput s.fls.map r.lua r.newPua ∧ g.tail = rest ∧ g.ring = s.fls.ring ++ [r] ∧ g.data = s.fls.data := by
    change (Fls.touch _ _ _).map = _ ∧ (Fls.touch _ _ _).tail = _ ∧ (Fls.touch _ _ _).ring = _ ∧ (Fls.touch _ _ _).data = _
    rw [Fls.touch]
    split <;> exact ⟨rfl, rfl, rfl, rfl⟩
  obtain ⟨map, tail_, ring, data⟩ := touched
  refine ⟨_, run, ?_, fun l ne => ?_, tail_, ring, data, s.only_setFls _⟩
  · exact (congrArg (fun m => afind m r.lua) map).trans (afind_aput_same _ _ _)
  · exact (congrArg (fun m => afind m l) map).trans (afind_aput_ne _ _ ne)

/-- What a map page's write-back makes of the checkpoint: the page as the map holds it. -/
def Fls.pageWritten (f : Fls) (page : Nat) : Assoc Nat :=
  (f.map.filter fun q => q.1 / 16384 == page).foldl (fun (m : Assoc Nat) (q : Nat × Nat) => aput m q.1 q.2) (f.checkpoint.filter fun q => q.1 / 16384 != page)

theorem Fls.afind_pageWritten {f : Fls} (page l : Nat) (sorted : asorted f.map = true) :
    afind (f.pageWritten page) l = if l / 16384 = page then afind f.map l else afind f.checkpoint l := by
  have pairs : (f.map.filter fun q => q.1 / 16384 == page).Pairwise fun p q => p.1 < q.1 := ((asorted_iff _).1 sorted).sublist List.filter_sublist
  rw [Fls.pageWritten, afind_foldl_aput _ _ _ pairs, afind_filter_key f.map fun i => i / 16384 == page, afind_filter_key f.checkpoint fun i => i / 16384 != page]
  by_cases here : l / 16384 = page
  · rw [if_pos here, if_pos (by simpa using here), if_neg (by simpa using here), Option.or_none]
  · rw [if_neg here, if_neg (by simpa using here), if_pos (by simpa using here), Option.none_or]

theorem mapCheckpoint_writes (s : State) (page : Nat) (free : s.fls.hold = false) (dirty : (afind s.fls.dirty page).isSome = true) (sorted : asorted s.fls.map = true)
    (_ : asorted s.fls.checkpoint = true) :
    ∃ t, exec (.mapCheckpoint page) s = .next t ∧ afind t.fls.dirty page = none ∧
      (∀ l, l / 16384 = page → afind t.fls.checkpoint l = afind s.fls.map l) ∧ (∀ l, l / 16384 ≠ page → afind t.fls.checkpoint l = afind s.fls.checkpoint l) ∧
      t.fls.tail = s.fls.tail ++ [{ jrec .checkpoint with seq := s.fls.nextSeq, arg := page }] ∧ t.fls.map = s.fls.map ∧ s.Only [.fls] t := by
  let health := { s.fls.health with nandUnits := satAdd (2 ^ 64 - 1) s.fls.health.nandUnits 1 }
  have run : exec (.mapCheckpoint page) s = .next { s with fls := { s.fls with
      checkpoint := s.fls.pageWritten page, dirty := adel s.fls.dirty page, health := health
      tail := s.fls.tail ++ [{ jrec .checkpoint with arg := page, seq := s.fls.nextSeq }], nextSeq := s.fls.nextSeq + 1 } } := by
    refine (if_neg ?_).trans (congrArg Host.Outcome.next (State.journal_fresh _ rfl))
    rintro (hold | clean)
    · rw [free] at hold; cases hold
    · rw [Option.isNone_iff_eq_none.1 clean] at dirty; cases dirty
  clear_value health
  refine ⟨_, run, afind_adel_same _ _, fun l here => ?_, fun l other => ?_, rfl, rfl, s.only_setFls _⟩
  · exact (Fls.afind_pageWritten page l sorted).trans (if_pos here)
  · exact (Fls.afind_pageWritten page l sorted).trans (if_neg other)

/-- Settles O28: a commit takes the tail, a durable record changes the map, and a write-back takes a page over. -/
theorem flashJournal : Obligations.FlashJournal :=
  ⟨fun _ _ free => if_neg (by simp [State.at_, free]), fun _ _ hold => if_pos hold, journalDurable_maps, mapCheckpoint_writes⟩

end Sys2Proof.Machine
end

section
/-!
PROOFS. Blocks of flash, codewords and temperature (O29).
-/
namespace Sys2Proof.Machine

/-! ### Freeing units of T2 leaves the blocks and the health of flash -/

/-- What the freeing of units leaves of the FTL. -/
structure State.Freed (s t : State) : Prop where
  blocks : t.fls.blocks = s.fls.blocks
  base : t.fls.eraseBase = s.fls.eraseBase
  health : t.fls.health = s.fls.health

theorem State.Freed.refl (s : State) : s.Freed s := ⟨rfl, rfl, rfl⟩

theorem State.Freed.trans {s t u : State} (h : s.Freed t) (k : t.Freed u) : s.Freed u := ⟨k.blocks.trans h.blocks, k.base.trans h.base, k.health.trans h.health⟩

theorem State.Freed.of_fls {s t : State} (h : t.fls = s.fls) : s.Freed t := ⟨by rw [h], by rw [h], by rw [h]⟩

theorem State.Freed.ite {s t u : State} {c : Prop} [Decidable c] (h : s.Freed t) (k : s.Freed u) : s.Freed (if c then t else u) := by
  split
  · exact h
  · exact k

theorem State.freed_foldl {α : Type} (f : State → α → State) (l : List α) (s : State) (each : ∀ t a, State.Freed t (f t a)) : s.Freed (l.foldl f s) := by
  induction l generalizing s with
  | nil => exact .refl s
  | cons a l ih => exact (each s a).trans (ih (f s a))

theorem State.freed_t2Free (s : State) (ext : Nat) (units : List Nat) : s.Freed (s.t2Free ext units) := by
  refine State.freed_foldl _ units s fun t u => ?_
  dsimp only
  split
  · split
    · rw [State.journal_fresh _ rfl]; exact ⟨rfl, rfl, rfl⟩
    · exact ⟨rfl, rfl, rfl⟩
  · exact .refl t

theorem State.freed_dropRow (s : State) (p : Nat) (r : Row) : s.Freed (s.dropRow p r) := by
  rw [State.dropRow]
  split
  · exact .of_fls ((s.keeps_self _).freeRow (sub_self _) p r.loc).only.fls
  · exact .of_fls ((s.keeps_self _).inkRelease (sub_self _) r.loc).only.fls
  · exact .of_fls rfl
  · exact (s.freed_t2Free _ _).trans (.of_fls rfl)
  · exact .refl s

theorem State.freed_dropSwapOut (s : State) (x : KvCtx) : s.Freed (s.dropSwapOut x) := State.freed_foldl _ _ s fun t e => t.freed_dropRow _ _

theorem State.freed_freeLodging (s : State) (id : SatchelId) : s.Freed (s.freeLodging id) := by
  rw [State.freeLodging]
  dsimp only
  refine .trans ?_ (State.freed_foldl _ _ _ fun t y => ?_)
  · exact .of_fls rfl
  · exact State.freed_foldl _ _ t fun t r => t.freed_dropRow _ r

theorem State.freed_endLodging (s : State) (dev : DeviceId) (id : SatchelId) : s.Freed (s.endLodging dev id) := by
  rw [State.endLodging]
  exact .ite (s.freed_freeLodging id) (.of_fls rfl)

theorem State.freed_modCtx (s : State) (c : Nat) (f : KvCtx → KvCtx) : s.Freed (s.modCtx c f) := .of_fls ((s.keeps_self _).modCtx (sub_self _) c f).only.fls

theorem State.freed_freeBlocks (s : State) (c : Nat) : s.Freed (s.freeBlocks c) := by
  cases found : s.ctxAt c with
  | none => rw [State.freeBlocks, State.withCtx_none _ found]; exact .refl s
  | some x =>
    rw [State.freeBlocks, State.withCtx_some _ found]
    dsimp only
    refine .trans ?_ (State.freed_modCtx _ _ _)
    exact (s.freed_t2Free 992 x.cold).trans (.of_fls rfl)

theorem State.freed_freeCtx (s : State) (c : Nat) : s.Freed (s.freeCtx c) := by
  cases found : s.ctxAt c with
  | none => rw [State.freeCtx, State.withCtx_none _ found]; exact .refl s
  | some x =>
    rw [State.freeCtx, State.withCtx_some _ found]
    dsimp only
    refine .trans ?_ (State.freed_modCtx _ _ _)
    refine .trans ?_ (State.freed_freeBlocks _ c)
    refine .trans ?_ (.of_fls ((State.keeps_self _ _).toOthers (sub_self _) c x _).only.fls)
    refine .trans ?_ (.ite (State.freed_endLodging _ _ _) (.refl _))
    refine .trans ?_ (State.freed_dropSwapOut _ x)
    refine .trans ?_ (State.freed_foldl _ _ _ fun t h => .of_fls ((t.keeps_self _).freeRow (sub_self _) _ h).only.fls)
    refine .trans ?_ (State.freed_foldl _ _ _ fun t r => t.freed_dropRow _ r)
    exact State.freed_foldl _ _ _ fun t r => t.freed_dropRow _ r

theorem State.freed_finish (s : State) (slot : Nat) (st : SatState) (recs : List StreamRec) : s.Freed (s.finish slot st recs) := by
  cases found : s.satAt slot with
  | none => rw [State.finish, State.withSlot_none _ found]; exact .refl s
  | some x =>
    rw [State.finish, State.withSlot_some _ found]
    dsimp only
    have moved (st : Status) : s.Freed (s.endMove x st) := .of_fls ((s.keeps_self _).endMove (sub_self _) x st).only.fls
    split
    · refine .trans ?_ (State.freed_freeCtx _ _)
      exact (moved _).trans (.of_fls rfl)
    · exact (moved _).trans (.of_fls rfl)

theorem State.freed_endWith (s : State) (slot : Nat) (st : Status) : s.Freed (s.endWith slot st) := by
  cases found : s.satAt slot with
  | none => rw [State.endWith, State.withSlot_none _ found]; exact .refl s
  | some x => rw [State.endWith, State.withSlot_some _ found]; exact s.freed_finish _ _ _

theorem State.freed_lowerTier (s : State) (slot : Nat) : s.Freed (s.lowerTier slot) := by
  cases found : s.satAt slot with
  | none => rw [State.lowerTier, State.withSlot_none _ found]; exact .refl s
  | some x =>
    rw [State.lowerTier, State.withSlot_some _ found]
    exact .ite (.refl s) (.ite (s.freed_endWith _ _) ((s.freed_freeCtx _).trans (.of_fls rfl)))

theorem State.freed_lowerCtx (s : State) (c : Nat) : s.Freed (s.lowerCtx c) := by
  rw [State.lowerCtx]
  refine .ite (s.freed_lowerTier c) ?_
  split
  · exact (s.freed_freeCtx c).trans (.of_fls rfl)
  · exact .refl s

/-! ### The lower-tier path leaves the registers -/

theorem State.endMove_bar (s : State) (x : Sat) (st : Status) : (s.endMove x st).bar = s.bar := by
  rw [State.endMove]
  split
  · split
    · exact s.done_bar _ _
    · rfl
  · rfl

theorem State.freeCtx_bar (s : State) (c : Nat) : (s.freeCtx c).bar = s.bar := ((s.keeps_self _).freeCtx (sub_self _) c).only.bar

theorem State.finish_bar (s : State) (slot : Nat) (st : SatState) (recs : List StreamRec) : (s.finish slot st recs).bar = s.bar := by
  cases found : s.satAt slot with
  | none => rw [State.finish, State.withSlot_none _ found]
  | some x =>
    rw [State.finish, State.withSlot_some _ found]
    dsimp only
    split
    · exact (State.freeCtx_bar _ _).trans (s.endMove_bar _ _)
    · exact s.endMove_bar _ _

theorem State.lowerCtx_bar (s : State) (c : Nat) : (s.lowerCtx c).bar = s.bar := by
  rw [State.lowerCtx]
  split
  · cases found : s.satAt c with
    | none => rw [State.lowerTier, State.withSlot_none _ found]
    | some x =>
      rw [State.lowerTier, State.withSlot_some _ found]
      split
      · rfl
      split
      · rw [State.endWith, State.withSlot_some _ found]; exact s.finish_bar _ _ _
      · exact s.freeCtx_bar _
  · split
    · exact s.freeCtx_bar c
    · rfl

/-! ### Verify, collection and erase -/

theorem State.blockTo_modBlock_eq (s : State) (k : Nat) (st : BlockState) (f : FlsBlock → FlsBlock) :
    ∃ blocks tail n, (s.blockTo k st).modBlock k f = { s with fls := { s.fls with blocks := blocks, tail := tail, nextSeq := n } } := by
  rw [State.modBlock, State.blockTo_eq]
  exact ⟨_, _, _, rfl⟩

theorem blockVerify_closes (s : State) (block worst : Nat) (closing : (s.fblock block).state = .closing) (good : worst ≤ s.fld Reg.flsMediaCfg 7 0) :
    ∃ t, exec (.blockVerify block worst []) s = .next t ∧ (t.fblock block).state = .closed ∧ t.fls.closed = s.fls.closed + 1 ∧ (t.fblock block).age = s.fls.closed ∧
      (∀ k, k ≠ block → t.fblock k = s.fblock k) ∧ t.fls.data = s.fls.data ∧ s.Only [.fls] t := by
  let s1 := (s.blockTo block .closed).modBlock block fun b => { b with age := s.fls.closed }
  have here : s1.fblock block = { s.fblock block with state := .closed, age := s.fls.closed } :=
    (State.fblock_modBlock_same _ _ _).trans (by rw [State.fblock_blockTo_same])
  have others (k : Nat) (ne : k ≠ block) : s1.fblock k = s.fblock k := (State.fblock_modBlock_ne _ _ ne).trans (State.fblock_blockTo_ne _ _ ne)
  obtain ⟨blocks, tail, n1, eq⟩ : ∃ blocks tail n, s1 = { s with fls := { s.fls with blocks := blocks, tail := tail, nextSeq := n } } := s.blockTo_modBlock_eq _ _ _
  have run : ∃ parity, exec (.blockVerify block worst []) s = .next { s1 with fls := { s1.fls with closed := s1.fls.closed + 1, parity := parity } } := by
    refine ⟨_, (if_neg (fun h => h closing)).trans (if_pos ⟨rfl, good⟩)⟩
  obtain ⟨parity, run⟩ := run
  clear_value s1
  refine ⟨_, run, ?_, ?_, ?_, fun k ne => ?_, ?_, ?_⟩
  · exact congrArg FlsBlock.state ((State.fblock_congr (s := s1) rfl rfl _).trans here)
  · rw [eq]
  · exact congrArg FlsBlock.age ((State.fblock_congr (s := s1) rfl rfl _).trans here)
  · exact (State.fblock_congr rfl rfl _).trans (others k ne)
  · rw [eq]
  · rw [eq]; exact s.only_setFls _

theorem State.validUnits_congr {s t : State} (map : t.fls.map = s.fls.map) (board : t.board = s.board) (block : Nat) : t.validUnits block = s.validUnits block := by
  rw [State.validUnits, State.validUnits, map]
  exact List.filter_congr fun q _ => by rw [State.blockOf_congr board]

theorem blockVerify_copies (s : State) (block worst u : Nat) (closing : (s.fblock block).state = .closing) :
    ∃ t, exec (.blockVerify block worst [u]) s = .next t ∧ (t.fblock block).state = .source ∧ (t.fblock block).retire = true ∧
      t.fls.writes.length = s.fls.writes.length + (s.validUnits block).length ∧ t.fls.data = s.fls.data ∧ s.Only [.fls] t := by
  let s1 := (s.blockTo block .source).modBlock block fun b => { b with retire := true }
  have run : exec (.blockVerify block worst [u]) s = .next (s1.copyOut block) := (if_neg (fun h => h closing)).trans (if_neg (fun h => nomatch h.1))
  have here : s1.fblock block = { s.fblock block with state := .source, retire := true } := (State.fblock_modBlock_same _ _ _).trans (by rw [State.fblock_blockTo_same])
  obtain ⟨blocks, tail, n1, eq⟩ : ∃ blocks tail n, s1 = { s with fls := { s.fls with blocks := blocks, tail := tail, nextSeq := n } } := s.blockTo_modBlock_eq _ _ _
  clear_value s1
  obtain ⟨n, xs, staged, copied, count⟩ := s1.copyOut_eq block
  rw [copied] at run
  refine ⟨_, run, ?_, ?_, ?_, ?_, ?_⟩
  · exact congrArg FlsBlock.state ((State.fblock_congr (s := s1) rfl rfl _).trans here)
  · exact congrArg FlsBlock.retire ((State.fblock_congr (s := s1) rfl rfl _).trans here)
  · dsimp only
    rw [List.length_append, count, State.validUnits_congr (s := s) (by rw [eq]) (by rw [eq]), eq]
  · rw [eq]
  · rw [eq]; exact s.only_setFls _

/-- One block of a victim that is collected. -/
def State.collectBlock (a : State) (k : Nat) : State := (a.blockTo k .source).copyOut k

theorem State.collectBlock_eq (a : State) (k : Nat) :
    ∃ blocks tail n xs staged, a.collectBlock k = { a with fls := { a.fls with
        blocks := blocks, tail := tail, nextSeq := n, writes := a.fls.writes ++ xs, staged := staged } } ∧ xs.length = (a.validUnits k).length := by
  obtain ⟨n, xs, staged, copied, count⟩ := (a.blockTo k .source).copyOut_eq k
  have same : (a.blockTo k .source).validUnits k = a.validUnits k := State.validUnits_congr (by rw [State.blockTo_eq]) (by rw [State.blockTo_eq]) k
  rw [same] at count
  rw [State.collectBlock, copied, State.blockTo_eq]
  exact ⟨_, _, n, xs, staged, rfl, count⟩

theorem State.fblock_collectBlock (a : State) (k j : Nat) : (a.collectBlock k).fblock j = if j = k then { a.fblock k with state := .source } else a.fblock j := by
  obtain ⟨n, xs, staged, copied, -⟩ := (a.blockTo k .source).copyOut_eq k
  rw [State.collectBlock, copied]
  refine (State.fblock_congr (s := a.blockTo k .source) rfl rfl j).trans ?_
  split
  · next here => rw [here, State.fblock_blockTo_same]
  · next other => rw [State.fblock_blockTo_ne _ _ other]

/-- What collecting blocks does: they become SOURCE, and their units are copied. -/
theorem State.foldl_collectBlock (l : List Nat) (a : State) :
    (∃ blocks tail n xs staged, l.foldl State.collectBlock a = { a with fls := { a.fls with
        blocks := blocks, tail := tail, nextSeq := n, writes := a.fls.writes ++ xs, staged := staged } } ∧ xs.length = (l.map fun k => (a.validUnits k).length).sum) ∧
      (∀ k ∈ l, ((l.foldl State.collectBlock a).fblock k).state = .source) ∧ ∀ k, k ∉ l → (l.foldl State.collectBlock a).fblock k = a.fblock k := by
  induction l generalizing a with
  | nil => exact ⟨⟨a.fls.blocks, a.fls.tail, a.fls.nextSeq, [], a.fls.staged, by simp, rfl⟩, fun k mem => (nomatch mem), fun k _ => rfl⟩
  | cons k l ih =>
    obtain ⟨b1, t1, n1, x1, g1, e1, c1⟩ := a.collectBlock_eq k
    obtain ⟨⟨b2, t2, n2, x2, g2, e2, c2⟩, source, others⟩ := ih (a.collectBlock k)
    rw [List.foldl_cons]
    refine ⟨⟨b2, t2, n2, x1 ++ x2, g2, ?_, ?_⟩, fun j mem => ?_, fun j out => ?_⟩
    · rw [e2, e1, List.append_assoc]
    · have same (j : Nat) : (a.collectBlock k).validUnits j = a.validUnits j := State.validUnits_congr (by rw [e1]) (by rw [e1]) j
      rw [List.length_append, c1, c2, List.map_cons, List.sum_cons]
      simp only [same]
    · by_cases later : j ∈ l
      · exact source j later
      · rw [others j later, State.fblock_collectBlock, if_pos ((List.mem_cons.1 mem).resolve_right later)]
    · rw [List.mem_cons, not_or] at out
      rw [others j out.2, State.fblock_collectBlock, if_neg out.1]

theorem State.superValid_eq (s : State) (l : List Nat) : s.superValid l = (l.map fun k => (s.validUnits k).length).sum := by
  have key (a : Nat) : l.foldl (fun a k => a + (s.validUnits k).length) a = a + (l.map fun k => (s.validUnits k).length).sum := by
    induction l generalizing a with
    | nil => rfl
    | cons k l ih => rw [List.foldl_cons, ih, List.map_cons, List.sum_cons, Nat.add_assoc]
  exact (key 0).trans (Nat.zero_add _)

theorem gcStart_collects (s : State) (group victim : Nat) (free : s.fls.hold = false) (writable : s.fls.readOnly = false) (closed : s.superClosed victim = true)
    (mine : groupOf victim = group) (may : s.victimOk group victim = true) :
    ∃ t, exec (.gcStart group victim) s = .next t ∧ (∀ k ∈ s.superblock victim, (s.fblock k).state = .closed → (t.fblock k).state = .source) ∧
      (∀ k, (s.fblock k).state ≠ .closed → t.fblock k = s.fblock k) ∧
      t.fls.writes.length = s.fls.writes.length + s.superValid ((s.superblock victim).filter fun k => (s.fblock k).state == .closed) ∧
      t.fls.map = s.fls.map ∧ t.fls.data = s.fls.data ∧ s.Only [.fls] t := by
  have run : exec (.gcStart group victim) s = .next (((s.superblock victim).filter fun k => (s.fblock k).state == .closed).foldl State.collectBlock s) :=
    if_neg (by simp [free, writable, closed, mine, may])
  obtain ⟨⟨blocks, tail, n, xs, staged, eq, count⟩, source, others⟩ := State.foldl_collectBlock ((s.superblock victim).filter fun k => (s.fblock k).state == .closed) s
  refine ⟨_, run, fun k mem isClosed => source k (List.mem_filter.2 ⟨mem, by simp [isClosed]⟩),
    fun k other => others k fun mem => other (by simpa using (List.mem_filter.1 mem).2), ?_, ?_, ?_, ?_⟩
  · rw [eq, State.superValid_eq, ← count, List.length_append]
  · rw [eq]
  · rw [eq]
  · rw [eq]; exact s.only_setFls _

theorem State.clearBlock_fblock (s : State) (block k : Nat) : (s.clearBlock block).fblock k = s.fblock k := State.fblock_congr rfl rfl k

theorem eraseComplete_frees (s : State) (block : Nat) (free : s.fls.hold = false) (erasing : (s.fblock block).state = .erasing) (kept : (s.fblock block).retire = false) :
    ∃ t, exec (.eraseComplete block true) s = .next t ∧ (t.fblock block).state = .free ∧ (t.fblock block).erases = (s.fblock block).erases + 1 ∧ t.fls.map = s.fls.map ∧
      (∀ a, block * 65536 ≤ a → a < block * 65536 + max 1 s.nand.unitsPerBlock * 65536 → memByte t.fls.data a = 0) ∧
      (∀ a, a < block * 65536 ∨ block * 65536 + max 1 s.nand.unitsPerBlock * 65536 ≤ a → memByte t.fls.data a = memByte s.fls.data a) ∧ s.Only [.fls] t := by
  let s1 := (s.clearBlock block).modBlock block fun x => { x with erases := x.erases + 1, copies := [], refresh := false }
  have run : exec (.eraseComplete block true) s = .next (s1.blockTo block .free) :=
    (if_neg (by simp [free, erasing])).trans (if_pos (by simp [kept]))
  have here : (s1.blockTo block .free).fblock block = { s.fblock block with state := .free, erases := (s.fblock block).erases + 1, copies := [], refresh := false } := by
    rw [State.fblock_blockTo_same, show s1.fblock block = _ from State.fblock_modBlock_same _ _ _, State.clearBlock_fblock]
  have eq : ∃ hdrs blocks tail n, s1.blockTo block .free = { s with fls := { s.fls with
      data := memZero s.fls.data (block * 65536) (max 1 s.nand.unitsPerBlock * 65536), hdrs := hdrs, blocks := blocks, tail := tail, nextSeq := n } } := by
    rw [State.blockTo_eq]
    exact ⟨_, _, _, _, rfl⟩
  obtain ⟨hdrs, blocks, tail, n, eq⟩ := eq
  refine ⟨_, run, by rw [here], by rw [here], by rw [eq], fun a low high => ?_, fun a out => ?_, by rw [eq]; exact s.only_setFls _⟩
  · rw [eq]
    exact (memByte_memZero _ _ _ _).trans (if_pos ⟨low, high⟩)
  · rw [eq]
    exact (memByte_memZero _ _ _ _).trans (if_neg (by omega))

/-! ### Codewords and temperature -/

/-- A count of nothing leaves every register. -/
theorem State.reg_count_zero (s : State) {o : Nat} (small : resetWord o < 2 ^ 32) (p : Nat) : (s.count o 0).reg p = s.reg p := by
  by_cases here : p = o
  · subst here
    have low : s.reg p < 2 ^ 32 := by
      rw [State.reg]
      split
      · exact BitVec.isLt _
      · exact small
    rw [State.reg_count_same]
    omega
  · exact State.reg_setReg_ne _ _ here

theorem codewordDecode_hard (s : State) (pua : Nat) (d : Fin 8) (n : Nat) (v : Bool) (stands : s.fls.lostDies.contains (pua / 2 ^ 21) = false)
    (good : n ≤ s.fld Reg.flsMediaCfg 15 8) :
    ∃ t, exec (.codewordDecode pua d n .hard v) s = .next t ∧ (∀ o, t.reg o = s.reg o) ∧ t.fls.blocks = s.fls.blocks ∧ t.fls.data = s.fls.data ∧ t.blt = s.blt := by
  have how : s.decodeHow pua .hard = .hard := if_neg (by rw [stands]; decide)
  have run : exec (.codewordDecode pua d n .hard v) s = .next (s.decoded pua n .hard) := by
    change execCodewordDecode pua d n .hard v s = _
    rw [execCodewordDecode, how]
    rfl
  have eq : ∃ health, s.decoded pua n .hard = { (s.count Reg.flsCntRetry 0).count Reg.flsCntSoft 0 with fls := { s.fls with health := health } } := by
    rw [State.decoded, how]
    dsimp only
    rw [if_neg (by simp [Nat.not_lt.2 good])]
    exact ⟨_, rfl⟩
  obtain ⟨health, eq⟩ := eq
  refine ⟨_, run, fun o => ?_, ?_, ?_, ?_⟩
  · rw [eq]
    exact (State.reg_count_zero _ (by decide) _).trans (State.reg_count_zero _ (by decide) _)
  · rw [eq]
  · rw [eq]
  · rw [eq]; rfl

/-- What the decoding of an unreadable codeword counts and marks. -/
theorem State.decoded_unreadable {s : State} {pua : Nat} (n : Nat) (stands : s.fls.lostDies.contains (pua / 2 ^ 21) = false) :
    ∃ bar health blocks, s.decoded pua n .unreadable = { s with bar := bar, fls := { s.fls with health := health, blocks := blocks } } ∧ health.uncorr = s.fls.health.uncorr ∧
      (s.decoded pua n .unreadable).reg Reg.flsCntUncorr = s.reg Reg.flsCntUncorr ∧ ((s.decoded pua n .unreadable).fblock (s.blockOf pua)).refresh = true := by
  have how : s.decodeHow pua .unreadable = .unreadable := if_neg (by rw [stands]; decide)
  have eq : s.decoded pua n .unreadable = State.modBlock { (s.count Reg.flsCntRetry s.nand.retry).count Reg.flsCntSoft 1 with
      fls := { s.fls with health := { s.fls.health with soft := satAdd 0xFFFFFFFF s.fls.health.soft 1 } } } (s.blockOf pua) fun x => { x with refresh := true } := by
    rw [State.decoded, how]
    exact if_pos (.inl (by decide))
  rw [eq]
  refine ⟨_, _, _, rfl, rfl, ?_, ?_⟩
  · exact (State.reg_setReg_ne _ _ (by decide)).trans (State.reg_setReg_ne _ _ (by decide))
  · rw [State.fblock_modBlock_same]

theorem State.readersOf_congr (s : State) (bar : Bar0) (health : FlsHealth) (blocks : Assoc FlsBlock) (lua : Nat) :
    State.readersOf { s with bar := bar, fls := { s.fls with health := health, blocks := blocks } } lua = s.readersOf lua := rfl

/-- A message above level 0 enters its unit's outbox. -/
theorem State.post_posts (s : State) {f : FaultSpec} (level : f.level ≠ 0) : ∃ m, m ∈ agetD (s.post f).blt.outbox f.source.toNat [] ∧ m.fault = f := by
  refine ⟨{ fault := f, time := s.faultTime }, ?_, rfl⟩
  rw [State.post]
  dsimp only
  rw [if_neg fun h => level h.1, agetD_aput_same]
  exact List.mem_append_right _ List.mem_cons_self

/-- What step 5 of a read counts, reports and keeps. -/
theorem State.unreadable_reports (s : State) (pua : Nat) :
    (s.unreadable pua).reg Reg.flsCntUncorr = min 0xFFFFFFFF (s.reg Reg.flsCntUncorr + 1) ∧
      (s.unreadable pua).fls = { s.fls with health := { s.fls.health with uncorr := satAdd 0xFFFFFFFF s.fls.health.uncorr 1 } } ∧
      (∃ m, m ∈ agetD (s.unreadable pua).blt.outbox ((0x300 + channelOf pua) % 4096) [] ∧ m.fault.level = 1 ∧ m.fault.status = .tierError ∧ m.fault.retried = true) ∧
      s.Only [.fls, .bar, .blt] (s.unreadable pua) := by
  let f : FaultSpec := { fault (0x300 + channelOf pua) 0x601 1 pua with status := .tierError, retried := true }
  obtain ⟨m, mem, isFault⟩ := (s.count Reg.flsCntUncorr 1).post_posts (f := f) (show (1 : Fin 4) ≠ 0 by decide)
  rw [show f.source.toNat = (0x300 + channelOf pua) % 4096 from BitVec.toNat_ofNat _ _] at mem
  refine ⟨?_, ?_, ⟨m, mem, by rw [isFault]; rfl, by rw [isFault], by rw [isFault]⟩, ((s.keeps_self _).unreadable (sub_self _) pua).only.mono (by decide)⟩
  · exact (State.reg_post _ _ (by decide)).trans (State.reg_count_same _ _ _)
  · exact congrArg (fun f : Fls => { f with health := { f.health with uncorr := satAdd 0xFFFFFFFF f.health.uncorr 1 } })
      (((s.keeps_self _).count (by decide) Reg.flsCntUncorr 1).post (sub_self _) f).only.fls

theorem State.foldl_lowerCtx_bar (l : List Nat) (s : State) : (l.foldl State.lowerCtx s).bar = s.bar := by
  induction l generalizing s with
  | nil => rfl
  | cons c l ih => exact (ih _).trans (s.lowerCtx_bar c)

theorem codewordDecode_unreadable (s : State) (pua : Nat) (d : Fin 8) (n : Nat) (v : Bool) (stands : s.fls.lostDies.contains (pua / 2 ^ 21) = false) :
    ∃ t, exec (.codewordDecode pua d n .unreadable v) s = .next t ∧ t.reg Reg.flsCntUncorr = min 0xFFFFFFFF (s.reg Reg.flsCntUncorr + 1) ∧
      t.fls.health.uncorr = min 0xFFFFFFFF (s.fls.health.uncorr + 1) ∧ (t.fblock (s.blockOf pua)).refresh = true ∧
      (∃ m, m ∈ agetD t.blt.outbox ((0x300 + channelOf pua) % 4096) [] ∧ m.fault.level = 1 ∧ m.fault.status = .tierError ∧ m.fault.retried = true) ∧
      ((∀ m ∈ s.fls.map, m.2 = pua → s.readersOf m.1 = []) → t.fls.data = s.fls.data ∧ t.fls.map = s.fls.map ∧ s.Only [.fls, .bar, .blt] t) ∧
      s.Only [.bar, .sat, .kva, .pln, .fls, .cmd, .blt, .host, .out] t := by
  have how : s.decodeHow pua .unreadable = .unreadable := if_neg (by rw [stands]; decide)
  let s3 := s.decoded pua n .unreadable
  let readers := ((s3.fls.map.filter fun m => m.2 == pua).flatMap fun m => s3.readersOf m.1).eraseDups
  have run : exec (.codewordDecode pua d n .unreadable v) s = .next (readers.foldl State.lowerCtx (s3.unreadable pua)) := by
    change execCodewordDecode pua d n .unreadable v s = _
    rw [execCodewordDecode, how]
    exact congrArg Host.Outcome.next (if_pos rfl)
  have only := ((s.keeps_self [.bar, .sat, .kva, .pln, .fls, .cmd, .blt, .host, .out]).goes_codewordDecode (by decide) pua d n .unreadable v).onlyOf run
  obtain ⟨bar, health, blocks, eq, uncorr, reg, refresh⟩ := State.decoded_unreadable n stands
  obtain ⟨reg4, fls4, message, only4⟩ := s3.unreadable_reports pua
  have freed := State.freed_foldl State.lowerCtx readers (s3.unreadable pua) State.freed_lowerCtx
  have blt : (readers.foldl State.lowerCtx (s3.unreadable pua)).blt = (s3.unreadable pua).blt :=
    (((s3.unreadable pua).keeps_self [.bar, .sat, .kva, .pln, .fls, .cmd, .host, .out]).foldl readers _ fun t c k => k.lowerCtx (sub_self _) c).only.blt
  refine ⟨_, run, ?_, ?_, ?_, ?_, fun noReaders => ?_, only⟩
  · rw [State.reg, State.foldl_lowerCtx_bar, ← State.reg, reg4, reg]
  · rw [freed.health, fls4, show s3.fls.health.uncorr = s.fls.health.uncorr by rw [show s3 = _ from eq]; exact uncorr]
    rfl
  · rw [State.fblock_congr freed.blocks freed.base, State.fblock_congr (s := s3) (by rw [fls4]) (by rw [fls4])]
    exact refresh
  · rw [blt]; exact message
  · have none_ : readers = [] := by
      have map : s3.fls.map = s.fls.map := by rw [show s3 = _ from eq]
      have empty : ((s3.fls.map.filter fun m => m.2 == pua).flatMap fun m => s3.readersOf m.1) = [] := by
        rw [List.flatMap_eq_nil_iff, map]
        intro m mem
        obtain ⟨here, named⟩ := List.mem_filter.1 mem
        rw [show s3 = _ from eq, State.readersOf_congr]
        exact noReaders m here (by simpa using named)
      rw [show readers = List.eraseDups _ from rfl, empty]
      rfl
    rw [none_, List.foldl_nil, fls4, show s3.fls.map = s.fls.map by rw [show s3 = _ from eq], show s3.fls.data = s.fls.data by rw [show s3 = _ from eq]]
    exact ⟨rfl, rfl, (((s.keeps_self _).decoded (by decide) pua n .unreadable).unreadable (sub_self _) pua).only.mono (by decide)⟩

theorem threshold_cold (limit temp : Nat) : threshold false limit temp = decide (limit ≤ temp) := by simp [threshold]

/-- Only the channels that are read change. -/
theorem foldl_temps_one (s : State) (n : Nat) :
    (List.range 32).foldl (fun (x : State) c => match [n][c]? with | some t => x.nandTemp c t | none => x) s = s.nandTemp 0 n := rfl

/-- A channel that did not stop, with its hottest die read. -/
def FlsChan.readAt (c : FlsChan) (n : Nat) : FlsChan := { c with temp := n, hot := threshold c.hot 85 n, stopped := decide (95 ≤ n) }

theorem nandTempRead_reads (s : State) (c : FlsChan) (rest : List FlsChan) (n : Nat) (chans : s.fls.chans = c :: rest) (inService : c.inService = true) (running : c.stopped = false)
    (feature : s.nand.tempFeature = true) (byte : n < 256) :
    ∃ t x, exec (.nandTempRead [n]) s = .next t ∧ t.fls.chans = x :: rest ∧ x.temp = n ∧ (x.stopped = true ↔ 95 ≤ n) ∧ x.inService = true ∧
      t.fls.tempMax = max s.fls.tempMax n ∧ t.fls.data = s.fls.data ∧ s.Only [.fls, .bar, .blt] t := by
  have small : min 255 n = n := by omega
  have run : exec (.nandTempRead [n]) s = .next (s.nandTemp 0 n) := congrArg Host.Outcome.next (foldl_temps_one s n)
  have only : s.Only [.fls, .bar, .blt] (s.nandTemp 0 n) := ((s.keeps_self _).nandTemp (sub_self _) 0 n).only.mono (by decide)
  have fls : ∃ health, (s.nandTemp 0 n).fls = { s.fls with
      chans := c.readAt n :: rest, tempMax := max s.fls.tempMax n, health := health } := by
    rw [State.nandTemp]
    dsimp only
    rw [chans, List.getD_cons_zero, inService, feature, running, threshold_cold, small, if_neg (by decide)]
    rw [List.modify_zero_cons]
    split
    · exact ⟨_, (((State.keeps_self _ _).note (sub_self _) _ _ _).only.fls).trans rfl⟩
    · exact ⟨_, rfl⟩
  obtain ⟨health, fls⟩ := fls
  exact ⟨_, c.readAt n, run, by rw [fls], rfl, decide_eq_true_iff, inService, by rw [fls], by rw [fls], only⟩

/-- Settles O29: each row from what it makes of the blocks, the copies and the health of flash; the lower-tier path leaves those. -/
theorem flashBlocksAndHealth : Obligations.FlashBlocksAndHealth :=
  ⟨blockVerify_closes, blockVerify_copies, gcStart_collects, fun _ _ free source may => if_neg (by simp [free, source, may]),
    fun _ _ not_ => if_pos (.inr (.inr (by simp [not_]))), eraseComplete_frees, codewordDecode_unreadable, codewordDecode_hard, nandTempRead_reads⟩

end Sys2Proof.Machine
end

section
/-!
PROOFS. States of the fabric ports (O30), their control (O31) and the loss of links (O32).
-/
namespace Sys2Proof.Machine

/-! ### What routing leaves of a port -/

/-- What a packet that is queued, owed for or metered leaves of a port. -/
structure Port.Alike (x y : Port) : Prop where
  state : y.state = x.state
  pend : y.pend = x.pend
  width : y.width = x.width
  degraded : y.degraded = x.degraded
  neighDev : y.neighDev = x.neighDev
  neighPort : y.neighPort = x.neighPort
  sndSeq : y.sndSeq = x.sndSeq
  rcvSeq : y.rcvSeq = x.rcvSeq
  replay : y.replay = x.replay
  out : y.out = x.out

theorem Port.Alike.refl (x : Port) : x.Alike x := ⟨rfl, rfl, rfl, rfl, rfl, rfl, rfl, rfl, rfl, rfl⟩

theorem Port.Alike.trans {x y z : Port} (h : x.Alike y) (k : y.Alike z) : x.Alike z :=
  ⟨k.state.trans h.state, k.pend.trans h.pend, k.width.trans h.width, k.degraded.trans h.degraded, k.neighDev.trans h.neighDev, k.neighPort.trans h.neighPort,
    k.sndSeq.trans h.sndSeq, k.rcvSeq.trans h.rcvSeq, k.replay.trans h.replay, k.out.trans h.out⟩

/-- The registers in which routing counts. -/
def routingCounts (o : Nat) : Bool := [Reg.lnkCntUnreach, Reg.shpC0ViolLo, Reg.shpC0ViolHi, Reg.shpCntC0Viol].contains o

/-- What routing packets leaves of the ports and the registers. -/
structure State.Routed (s t : State) : Prop where
  ports : ∀ p, (s.port p).Alike (t.port p)
  reg : ∀ o, routingCounts o = false → t.reg o = s.reg o

theorem State.Routed.refl (s : State) : s.Routed s := ⟨fun _ => .refl _, fun _ _ => rfl⟩

theorem State.Routed.trans {s t u : State} (h : s.Routed t) (k : t.Routed u) : s.Routed u :=
  ⟨fun p => (h.ports p).trans (k.ports p), fun o ne => (k.reg o ne).trans (h.reg o ne)⟩

theorem State.port_congr {s t : State} (h : t.lnk.ports = s.lnk.ports) (p : Nat) : t.port p = s.port p := by rw [State.port, State.port, h]

theorem State.port_modPort (s : State) (p : Nat) (f : Port → Port) (q : Nat) :
    (s.modPort p f).port q = if p = q ∧ q < s.lnk.ports.length then f (s.port q) else s.port q := getD_modify_eq _ _ _ _ _

theorem State.port_lt {s : State} {p : Nat} (h : s.port p ≠ Port.reset) : p < s.lnk.ports.length := by
  by_contra out
  exact h (List.getD_eq_default _ _ (Nat.not_lt.1 out))

/-- A port that is not DISABLED is one of the table. -/
theorem State.port_lt_of_state {s : State} {p : Nat} (h : (s.port p).state ≠ .disabled) : p < s.lnk.ports.length := State.port_lt fun e => h (by rw [e]; rfl)

theorem State.port_modPort_same {s : State} {p : Nat} (f : Port → Port) (lt : p < s.lnk.ports.length) : (s.modPort p f).port p = f (s.port p) := by
  rw [State.port_modPort, if_pos ⟨rfl, lt⟩]

theorem State.routed_modPort (s : State) (p : Nat) (f : Port → Port) (alike : ∀ x : Port, x.Alike (f x)) : s.Routed (s.modPort p f) := by
  refine ⟨fun q => ?_, fun _ _ => rfl⟩
  rw [State.port_modPort]
  split
  · exact alike _
  · exact .refl _

theorem State.routed_setReg (s : State) {o : Nat} (v : Nat) (counts : routingCounts o = true) : s.Routed (s.setReg o v) :=
  ⟨fun _ => .refl _, fun p other => s.reg_setReg_ne _ fun e => by rw [e, counts] at other; cases other⟩

theorem State.routed_owe (s : State) (from_ : Option (Nat × Nat)) (c n : Nat) : s.Routed (s.owe from_ c n) := by
  unfold State.owe
  split
  · exact .refl s
  · exact s.routed_modPort _ _ fun x => ⟨rfl, rfl, rfl, rfl, rfl, rfl, rfl, rfl, rfl, rfl⟩

theorem State.routed_meter0 (s : State) (p n : Nat) : s.Routed (s.meter0 p n) := by
  have metered : s.Routed (s.modPort p fun _ => { (s.port p).refill s.stk.time with
      meter := ((s.port p).refill s.stk.time).meter - min n (((s.port p).refill s.stk.time).meter / 20480) * 20480 }) := by
    refine ⟨fun q => ?_, fun _ _ => rfl⟩
    rw [State.port_modPort]
    split
    · next here => rw [← here.1]; exact ⟨rfl, rfl, rfl, rfl, rfl, rfl, rfl, rfl, rfl, rfl⟩
    · exact .refl _
  rw [State.meter0]
  dsimp only
  split
  · exact metered
  · refine (metered.trans (State.routed_setReg _ _ ?_)).trans (State.routed_setReg _ _ (by decide))
    split <;> decide

theorem Port.alike_wake (x : Port) (c cfg : Nat) (b : Prop) [Decidable b] : x.Alike (if b then x.wake c cfg else x) := by
  split
  · exact ⟨rfl, rfl, rfl, rfl, rfl, rfl, rfl, rfl, rfl, rfl⟩
  · exact .refl x

theorem State.routed_enqueue (s : State) (p : Nat) (q : QPkt) : s.Routed (s.enqueue p q) := by
  rw [State.enqueue]
  dsimp only
  refine State.Routed.trans ?_ (State.routed_modPort _ _ _ fun x => ?_)
  rotate_left
  · have woken := x.alike_wake q.pkt.cls.val (s.reg (Reg.shpQCfg p q.pkt.cls.val)) ((x.queues.getD q.pkt.cls.val []).isEmpty = true ∧ q.pkt.cls.val ≠ 0)
    exact woken.trans ⟨rfl, rfl, rfl, rfl, rfl, rfl, rfl, rfl, rfl, rfl⟩
  split
  · exact s.routed_meter0 _ _
  · exact .refl s

theorem State.routed_routeOn (s : State) (from_ : Option (Nat × Nat)) (pkt : Packet) : s.Routed (s.routeOn from_ pkt) := by
  have unreachable (p : Packet) : s.Routed (s.unreachable from_ p) := (s.routed_setReg _ (by decide)).trans (State.routed_owe _ _ _ _)
  rw [State.routeOn]
  dsimp only
  split
  · refine State.Routed.trans ?_ (State.routed_owe _ _ _ _)
    exact ⟨fun _ => .refl _, fun _ _ => rfl⟩
  · exact unreachable _
  · split
    · exact s.routed_enqueue _ _
    · exact unreachable _

theorem State.routed_foldl {α : Type} (f : State → α → State) (l : List α) (s : State) (each : ∀ t a, State.Routed t (f t a)) : s.Routed (l.foldl f s) := by
  induction l generalizing s with
  | nil => exact .refl s
  | cons a l ih => exact (each s a).trans (ih (f s a))

theorem State.routed_requeue (s : State) (p : Nat) (keep : Bool) : s.Routed (s.requeue p keep) := by
  rw [State.requeue]
  dsimp only
  refine State.Routed.trans ?_ (State.routed_foldl _ _ _ fun t k => t.routed_routeOn _ _)
  split
  · exact s.routed_modPort _ _ fun x => ⟨rfl, rfl, rfl, rfl, rfl, rfl, rfl, rfl, rfl, rfl⟩
  · refine State.Routed.trans ?_ (State.routed_foldl _ _ _ fun t k => t.routed_owe _ _ _)
    refine s.routed_modPort _ _ fun x => ?_
    exact ⟨rfl, rfl, rfl, rfl, rfl, rfl, rfl, rfl, rfl, rfl⟩

/-- A port without packets has none to queue again. -/
theorem State.requeue_empty {s : State} {p : Nat} (keep : Bool) (empty : (s.port p).queues = List.replicate 8 []) (q : Nat) :
    (s.requeue p keep).port q = s.port q := by
  rw [State.requeue, empty]
  have none_ : (List.replicate 8 ([] : List QPkt)).flatten = [] := by simp
  rw [none_]
  have stays : (s.modPort p fun x => { x with queues := x.queues.map fun q => if keep then q.filter fun k => k.sent != 0 else [] }).port q = s.port q := by
    rw [State.port_modPort]
    split
    · next here =>
      rw [← here.1, empty]
      have : (List.replicate 8 ([] : List QPkt)).map (fun q => if keep = true then q.filter fun k => k.sent != 0 else []) = (s.port p).queues := by
        rw [empty, List.map_replicate]
        cases keep <;> rfl
      rw [this]
    · rfl
  cases keep <;> exact stays

end Sys2Proof.Machine
end

section
/-!
PROOFS. States of the fabric ports (O30), their control (O31) and the loss of links (O32): the rows.
-/
namespace Sys2Proof.Machine

/-! ### Port states (O30) -/

theorem State.only_setLnk (s : State) (x : Lnk) : s.Only [.lnk] { s with lnk := x } := by simp [State.Only]

theorem State.only_modPort (s : State) (p : Nat) (f : Port → Port) : s.Only [.lnk] (s.modPort p f) := s.only_setLnk _

/-- A port of the table changed, and no other. -/
theorem State.modPort_alone {s : State} {p : Nat} (f : Port → Port) (lt : p < s.lnk.ports.length) :
    (s.modPort p f).port p = f (s.port p) ∧ ∀ q, q ≠ p → (s.modPort p f).port q = s.port q :=
  ⟨State.port_modPort_same f lt, fun _ ne => State.port_modPort_ne s f ne⟩

/-- A port that trained, with what the training found. -/
def Port.trained (x : Port) (up : Bool) (cut : Nat) (fact : TrainedFact) (now : Nat) : Port :=
  { x with
    state := if up then .up else .miswired, width := min 4 fact.width, degraded := decide (2 ^ min 4 fact.width < 2 ^ cutWidth cut), neighDev := fact.dev
    neighPort := fact.port.val, rtt := min 65535 fact.rtt, ctrlAt := now, meter := 5242880, meterAt := now }

theorem portTrained_trains (s : State) (p : Fin 64) (f : TrainedFact) (now : Nat) (training : (s.port p.val).state = .training) :
    ∃ t, exec (.portTrained p f now) s = .next t ∧
      (t.port p.val).state = (if s.matches_ p.val f then PortState.up else PortState.miswired) ∧ (t.port p.val).width = min 4 f.width ∧
      (t.port p.val).neighDev = f.dev ∧ (t.port p.val).neighPort = f.port.val ∧ (t.port p.val).rtt = min 65535 f.rtt ∧
      (∀ q, q ≠ p.val → t.port q = s.port q) ∧ s.Only [.stk, .lnk, .bar, .blt, .sec, .out] t := by
  let s2 := (s.at_ now).modPort p.val fun x => x.trained (s.matches_ p.val f) (s.fld (Reg.lnkPCtrl p.val) 3 1) f now
  have lt : p.val < s.lnk.ports.length := State.port_lt_of_state (by rw [training]; decide)
  obtain ⟨here, others⟩ := State.modPort_alone (s := s.at_ now) (fun x => x.trained (s.matches_ p.val f) (s.fld (Reg.lnkPCtrl p.val) 3 1) f now) lt
  have run : exec (.portTrained p f now) s =
      .next (if s.matches_ p.val f then (if p.val < 31 then s2.sendLinkState [p.val] else s2).runCheck else s2.portNote p.val) := by
    refine (if_neg (fun h => h training)).trans ?_
    by_cases ok : s.matches_ p.val f = true
    · rw [if_pos ok]; exact if_pos ok
    · rw [if_neg ok]; exact if_neg ok
  have ports : (if s.matches_ p.val f then (if p.val < 31 then s2.sendLinkState [p.val] else s2).runCheck else s2.portNote p.val).lnk.ports = s2.lnk.ports := by
    split
    · rw [((State.keeps_self _ _).runCheck (sub_self _)).only.lnk]
      split <;> rfl
    · rw [((State.keeps_self _ _).portNote (sub_self _) _).only.lnk]
  have only := ((s.keeps_self _).goes_portTrained (sub_self _) p f now).onlyOf run
  refine ⟨_, run, ?_, ?_, ?_, ?_, ?_, fun q ne => ?_, only.mono (by decide)⟩
  · rw [State.port_congr ports, here]; rfl
  · rw [State.port_congr ports, here]; rfl
  · rw [State.port_congr ports, here]; rfl
  · rw [State.port_congr ports, here]; rfl
  · rw [State.port_congr ports, here]; rfl
  · rw [State.port_congr ports, others q ne]; rfl

theorem portTrainingTimeout_down (s : State) (p : Fin 64) (training : (s.port p.val).state = .training) :
    ∃ t, exec (.portTrainingTimeout p) s = .next t ∧ t.port p.val = { s.port p.val with state := .down } ∧
      (∀ q, q ≠ p.val → t.port q = s.port q) ∧ s.Only [.lnk, .bar, .blt] t := by
  have lt : p.val < s.lnk.ports.length := State.port_lt_of_state (by rw [training]; decide)
  obtain ⟨here, others⟩ := State.modPort_alone (fun x => { x with state := .down }) lt
  have note := ((State.keeps_self (s.modPort p.val fun x => { x with state := .down }) _).portNote (sub_self _) p.val).only
  refine ⟨_, if_pos training, ?_, fun q ne => ?_, ((s.only_modPort _ _).mono (by decide)).trans (note.mono (by decide))⟩
  · exact (State.port_congr (congrArg Lnk.ports note.lnk) _).trans here
  · exact (State.port_congr (congrArg Lnk.ports note.lnk) _).trans (others q ne)

theorem portRetrain_trains (s : State) (p : Fin 64) (down : (s.port p.val).state = .down) :
    ∃ t, exec (.portRetrain p) s = .next t ∧ t.port p.val = { s.port p.val with state := .training } ∧
      (∀ q, q ≠ p.val → t.port q = s.port q) ∧ s.Only [.lnk] t := by
  have lt : p.val < s.lnk.ports.length := State.port_lt_of_state (by rw [down]; decide)
  obtain ⟨here, others⟩ := State.modPort_alone (fun x => { x with state := .training }) lt
  exact ⟨_, if_pos down, here, others, s.only_modPort _ _⟩

/-- The end of a drain without a latched enable: the port is DISABLED and afresh. -/
theorem State.drained_disabled {s : State} {p : Nat} (lt : p < s.lnk.ports.length) (pend : (s.port p).pend = false) :
    (s.drained p).port p = { (s.port p).fresh with state := .disabled, pend := false, width := 0, degraded := false } ∧ s.Only [.lnk] (s.drained p) := by
  let s1 := s.modPort p fun x => { x.fresh with state := .disabled, pend := false, width := 0, degraded := false }
  have here : s1.port p = { (s.port p).fresh with state := .disabled, pend := false, width := 0, degraded := false } := State.port_modPort_same _ lt
  have bonded : (s1.bond p false).port p = s1.port p ∧ s1.Only [.lnk] (s1.bond p false) := by
    rw [State.bond]
    split
    · exact ⟨State.port_modPort_ne _ _ (by omega), s1.only_modPort _ _⟩
    · exact ⟨rfl, .refl _ _⟩
  have eq : s.drained p = s1.bond p false := by
    rw [State.drained, pend]
    exact if_neg (by decide)
  rw [eq]
  exact ⟨bonded.1.trans here, (s.only_modPort _ _).trans bonded.2⟩

theorem portDrainComplete_disables (s : State) (p : Fin 64) (draining : (s.port p.val).state = .draining) (empty : (s.port p.val).depth = 0)
    (sent : (s.port p.val).replay = []) (pend : (s.port p.val).pend = false) :
    ∃ t, exec (.portDrainComplete p) s = .next t ∧ (t.port p.val).state = .disabled ∧ (t.port p.val).width = 0 ∧ (t.port p.val).out = List.replicate 40 0 ∧
      s.Only [.lnk] t := by
  obtain ⟨here, only⟩ := State.drained_disabled (State.port_lt_of_state (by rw [draining]; decide)) pend
  exact ⟨_, if_pos ⟨draining, empty, by rw [sent]; rfl⟩, by rw [here], by rw [here], by rw [here]; rfl, only⟩

theorem portDrainTimeout_disables (s : State) (p : Fin 64) (draining : (s.port p.val).state = .draining) (pend : (s.port p.val).pend = false) :
    ∃ t, exec (.portDrainTimeout p) s = .next t ∧ (t.port p.val).state = .disabled ∧ (t.port p.val).replay = [] ∧ s.Only [.lnk, .bar] t := by
  have alike := (s.routed_requeue p.val false).ports p.val
  have lt : p.val < (s.requeue p.val false).lnk.ports.length := State.port_lt_of_state (by rw [alike.state, draining]; decide)
  obtain ⟨here, only⟩ := State.drained_disabled lt (alike.pend.trans pend)
  refine ⟨_, if_pos draining, by rw [here], by rw [here]; rfl, ?_⟩
  exact (((s.keeps_self _).requeue (sub_self _) p.val false).only.mono (by decide)).trans (only.mono (by decide))

/-- Settles O30: each row from the port that it changes. -/
theorem portStates : Obligations.PortStates :=
  ⟨portTrained_trains, portTrainingTimeout_down, portRetrain_trains, portDrainComplete_disables, portDrainTimeout_disables⟩

/-! ### Loss of links (O32) -/

/-- A link that goes DOWN: its port's sequences, replay and credits are afresh, and it is counted. -/
theorem State.portDown_afresh {s : State} {p : Nat} (lt : p < s.lnk.ports.length) (small : p < 64) :
    ((s.portDown p).port p).state = .down ∧ ((s.portDown p).port p).width = 0 ∧ ((s.portDown p).port p).sndSeq = 0 ∧ ((s.portDown p).port p).rcvSeq = 0 ∧
      ((s.portDown p).port p).replay = [] ∧ ((s.portDown p).port p).out = List.replicate 40 0 ∧
      (s.portDown p).reg (Reg.lnkPCntDown p) = min 0xFFFFFFFF (s.reg (Reg.lnkPCntDown p) + 1) := by
  let s0 := s.modPort p fun x => { x with state := .down, width := 0 }
  let s1 := s0.count (Reg.lnkPCntDown p) 1
  let s2 := (s1.requeue p false).modPort p Port.fresh
  have port0 : s0.port p = { s.port p with state := .down, width := 0 } := State.port_modPort_same _ lt
  have routed := s1.routed_requeue p false
  have alike := routed.ports p
  have lt1 : p < (s1.requeue p false).lnk.ports.length := by
    refine State.port_lt_of_state ?_
    rw [alike.state, show s1.port p = s0.port p from rfl, port0]
    exact fun h => nomatch h
  have port2 : s2.port p = ((s1.requeue p false).port p).fresh := State.port_modPort_same _ lt1
  have probed : (s.portDown p).port p = s2.port p ∧ (s.portDown p).bar = s2.bar := by
    change (s2.startProbe p).port p = s2.port p ∧ (s2.startProbe p).bar = s2.bar
    refine ⟨?_, ((State.keeps_self _ _).startProbe (sub_self _) p).only.bar⟩
    rw [State.startProbe]
    dsimp only
    split
    · rfl
    · split <;> rfl
  rw [probed.1, port2]
  refine ⟨?_, ?_, rfl, rfl, rfl, rfl, ?_⟩
  · exact alike.state.trans (congrArg Port.state port0)
  · exact alike.width.trans (congrArg Port.width port0)
  · have counts : routingCounts (Reg.lnkPCntDown p) = false := by
      have all : ∀ p : Fin 64, routingCounts (Reg.lnkPCntDown p.val) = false := by decide
      exact all ⟨p, small⟩
    rw [State.reg, probed.2]
    exact (routed.reg _ counts).trans (State.reg_count_same _ _ _)

/-- Settles O32: a port retrains narrower, or goes DOWN afresh and counted. -/
theorem linkLoss : Obligations.LinkLoss := by
  refine ⟨fun s p working now up degrade some_ => ?_, fun s p now up => ?_, fun s p now up link late => ?_⟩
  · obtain ⟨here, others⟩ := State.modPort_alone (s := s.at_ now) (fun x => { x with state := .training, degraded := true })
      (State.port_lt_of_state (s := s) (by rw [up]; decide))
    refine ⟨_, (if_neg fun h => h up).trans (if_pos ⟨degrade, some_⟩), here, others, ?_⟩
    exact (((s.keeps_self [.stk, .lnk]).at_ (by decide) now).only).trans (((s.at_ now).only_modPort _ _).mono (by decide))
  · obtain ⟨state, -, snd, rcv, replay, out, -⟩ := State.portDown_afresh (s := s.at_ now) (State.port_lt_of_state (s := s) (by rw [up]; decide)) p.isLt
    refine ⟨_, (if_neg fun h => h up).trans (if_neg fun h => h.2 rfl), state, snd, rcv, replay, out, ?_⟩
    exact (((s.keeps_self [.stk, .lnk, .bar, .out]).at_ (by decide) now).portDown (by decide) p.val).only
  · obtain ⟨state, width, -, -, -, -, reg⟩ := State.portDown_afresh (s := s.at_ now) (State.port_lt_of_state (s := s) (by rw [up]; decide)) p.isLt
    refine ⟨_, if_pos ⟨up, late, by rw [show (s.at_ now).ethernet p.val = s.ethernet p.val from rfl, link]; decide⟩, state, width, reg, ?_⟩
    exact (((s.keeps_self [.stk, .lnk, .bar, .out]).at_ (by decide) now).portDown (by decide) p.val).only

end Sys2Proof.Machine
end

section
/-!
PROOFS. Control of the fabric ports (O31).
-/
namespace Sys2Proof.Machine

def lnkPCtrlReg : RegDef := ⟨Reg.lnkPCtrl 0, [(64, 0x100)], false, false, [⟨3, 1, .rw, 0, .hook⟩, ⟨0, 0, .rw, 0, .hook⟩]⟩

theorem lnkPCtrl_plain (p : Fin 64) : PlainReg (Reg.lnkPCtrl p.val) lnkPCtrlReg [p.val] := by
  have all : ∀ p : Fin 64, plainRegCheck (Reg.lnkPCtrl p.val) lnkPCtrlReg [p.val] = true := by decide +kernel
  exact plainReg_of_check (all p)

theorem lnkPCtrl_notCounted (p : Nat) (small : p < 64) : routingCounts (Reg.lnkPCtrl p) = false := by
  have all : ∀ p : Fin 64, routingCounts (Reg.lnkPCtrl p.val) = false := by decide
  exact all ⟨p, small⟩

/-- An UP port that is disabled drains, with ENABLE 0. -/
theorem State.disablePort_drains {s : State} {p : Nat} (small : p < 64) (up : (s.port p).state = .up) :
    ((s.disablePort p).port p).state = .draining ∧ (s.disablePort p).flag (Reg.lnkPCtrl p) 0 = false := by
  let s1 := (s.setFld (Reg.lnkPCtrl p) 0 0 0).modPort p fun x => { x with state := .draining, drainFrom := s.stk.time }
  have lt : p < s.lnk.ports.length := State.port_lt_of_state (by rw [up]; exact fun h => nomatch h)
  have here : s1.port p = { s.port p with state := .draining, drainFrom := s.stk.time } := State.port_modPort_same _ lt
  have split_ : s.disablePort p = s1.requeue p true := by rw [State.disablePort]; simp only [up]; rfl
  have routed := s1.routed_requeue p true
  rw [split_]
  refine ⟨(routed.ports p).state.trans (by rw [here]), ?_⟩
  exact (State.flag_congr 0 (routed.reg _ (lnkPCtrl_notCounted p small))).trans (s.flag_disabled _)

/-- A write of LNK_P_CTRL that clears ENABLE and keeps the other fields. -/
theorem State.writeReg_lnkPCtrl {s : State} (p : Fin 64) {v : Word} (present : s.present = true) (run : s.sec.run ≠ .recovery)
    (clears : v.toNat % 16 = s.fld (Reg.lnkPCtrl p.val) 3 0 - 1) (on : s.flag (Reg.lnkPCtrl p.val) 0 = true) :
    s.writeReg (Reg.lnkPCtrl p.val) v = s.disablePort p.val := by
  have plain := lnkPCtrl_plain p
  have bound := p.isLt
  have word : v.toNat % 2 ^ 32 = v.toNat := Nat.mod_eq_of_lt v.isLt
  have odd : s.fld (Reg.lnkPCtrl p.val) 0 0 = 1 := by rw [State.flag_eq_fld, beq_iff_eq] at on; exact on
  have cut : bits v.toNat 3 1 = s.fld (Reg.lnkPCtrl p.val) 3 1 := by
    rw [State.fld] at clears odd ⊢
    simp only [bits] at clears odd ⊢
    omega
  have low : bits v.toNat 0 0 = 0 := by
    rw [State.fld] at clears odd
    simp only [bits] at clears odd ⊢
    omega
  have kept : WAcc.field (Reg.lnkPCtrl p.val) [p.val] v.toNat ⟨s, false, false⟩ ⟨3, 1, .rw, 0, .hook⟩ = ⟨s, false, false⟩ := WAcc.field_same _ rfl cut
  have hooked : WAcc.field (Reg.lnkPCtrl p.val) [p.val] v.toNat ⟨s, false, false⟩ ⟨0, 0, .rw, 0, .hook⟩ = ⟨s.disablePort p.val, false, false⟩ := by
    simp only [WAcc.field, WAcc.store, low, odd, WAcc.hook, if_neg plain.id, List.headD_cons]
    rw [if_neg (by decide), if_neg (by unfold Reg.lnkPCtrl Reg.memDevpool; omega), if_neg (by unfold Reg.lnkPCtrl Reg.coreCtrl; omega),
      if_neg (by unfold Reg.lnkPCtrl Reg.cdcGroup; omega), if_neg (by unfold Reg.lnkPCtrl Reg.flsGcCfg; omega), if_neg (by unfold Reg.lnkPCtrl Reg.lnkTopo; omega),
      if_neg (by unfold Reg.lnkPCtrl Reg.lnkGwCfg; omega), if_pos trivial, if_neg (by decide), if_pos trivial]
  have open_ : s.wholeDropped (Reg.lnkPCtrl p.val) [p.val] = false := by
    rw [State.wholeDropped, if_neg plain.id, if_neg (by unfold Reg.lnkPCtrl Reg.plnPCfg Reg.plnPC0; simp only [List.headD_cons]; omega)]
  have wrote := plain.regWrite v.toNat open_ (b := ⟨s.disablePort p.val, false, false⟩) (by
    rw [lnkPCtrlReg, List.foldl_cons, kept, List.foldl_cons, hooked, List.foldl_nil])
  rw [State.writeReg, plain.barWrite _ present run, word, wrote]
  rfl

theorem portCtrlWrite_drains (s : State) (p : Fin 64) (v : Word) (present : s.present = true) (run : s.sec.run ≠ .recovery)
    (clears : v.toNat % 16 = s.fld (Reg.lnkPCtrl p.val) 3 0 - 1) (on : s.flag (Reg.lnkPCtrl p.val) 0 = true) (up : (s.port p.val).state = .up)
    (empty : (s.port p.val).queues = List.replicate 8 []) :
    ∃ t, exec (.portCtrlWrite p v) s = .next t ∧ (t.port p.val).state = .draining ∧ t.flag (Reg.lnkPCtrl p.val) 0 = false ∧
      (∀ q, q ≠ p.val → t.port q = s.port q) ∧ s.Only [.lnk, .bar] t := by
  obtain ⟨state, flag⟩ := State.disablePort_drains p.isLt up
  let s1 := (s.setFld (Reg.lnkPCtrl p.val) 0 0 0).modPort p.val fun x => { x with state := .draining, drainFrom := s.stk.time }
  have lt : p.val < s.lnk.ports.length := State.port_lt_of_state (by rw [up]; exact fun h => nomatch h)
  have here : s1.port p.val = { s.port p.val with state := .draining, drainFrom := s.stk.time } := State.port_modPort_same _ lt
  have split_ : s.disablePort p.val = s1.requeue p.val true := by rw [State.disablePort]; simp only [up]; rfl
  refine ⟨_, congrArg Host.Outcome.next (State.writeReg_lnkPCtrl p present run clears on), state, flag, fun q ne => ?_, ?_⟩
  · rw [split_, State.requeue_empty true (by rw [here, empty])]
    exact State.port_modPort_ne _ _ ne
  · exact ((s.keeps_self _).disablePort (sub_self _) p.val).only.mono (by decide)

/-! ### PORT_CONTROL -/

theorem portControl_latches (s s1 : State) (h : Header) (r : ReplyTo) (p rsv : Nat) (hs : s.Serves ⟨0x0005, 1, false, false, 4, rsv, 0, false⟩ h false r s1)
    (small : p ≤ 63) (draining : (s.port p).state = .draining) :
    ∃ t, exec (.portControl h p 1 rsv) s = .next t ∧ t = (s1.enablePort p).done r .pendingEnable ∧ (t.port p).pend = true ∧ (t.port p).state = .draining := by
  have same : s1.port p = s.port p := State.port_congr (congrArg Lnk.ports hs.only.lnk) p
  have lt : p < s1.lnk.ports.length := State.port_lt_of_state (by rw [same, draining]; exact fun h => nomatch h)
  have enabled : (s1.enablePort p).port p = { s.port p with pend := true } := by
    have pends : s1.enablePort p = (s1.setFld (Reg.lnkPCtrl p) 0 0 1).modPort p fun x => { x with pend := true } := by
      rw [State.enablePort]
      simp only [same, draining]
    rw [pends]
    refine (State.port_modPort_same (s := s1.setFld (Reg.lnkPCtrl p) 0 0 1) _ lt).trans ?_
    rw [show (s1.setFld (Reg.lnkPCtrl p) 0 0 1).port p = s.port p from same]
  have after : ((s1.enablePort p).done r .pendingEnable).port p = { s.port p with pend := true } :=
    (State.port_congr (congrArg Lnk.ports ((s1.enablePort p).done_only r .pendingEnable).lnk) p).trans enabled
  refine ⟨_, congrArg Host.Outcome.next ((State.serve_of_serves hs _).trans ?_), rfl, by rw [after], by rw [after, draining]⟩
  rw [if_neg (by omega), if_neg (by decide), same, if_pos draining]

theorem portControl_drains (s s1 : State) (h : Header) (r : ReplyTo) (p rsv : Nat) (hs : s.Serves ⟨0x0005, 1, false, false, 4, rsv, 0, false⟩ h false r s1)
    (small : p ≤ 63) (up : (s.port p).state = .up) :
    ∃ t, exec (.portControl h p 0 rsv) s = .next t ∧ t = (s1.disablePort p).done r .ok ∧ (t.port p).state = .draining ∧ t.flag (Reg.lnkPCtrl p) 0 = false := by
  have same : s1.port p = s.port p := State.port_congr (congrArg Lnk.ports hs.only.lnk) p
  obtain ⟨state, flag⟩ := State.disablePort_drains (s := s1) (show p < 64 by omega) (by rw [same, up])
  have ports := State.port_congr (congrArg Lnk.ports ((s1.disablePort p).done_only r .ok).lnk) p
  refine ⟨_, congrArg Host.Outcome.next ((State.serve_of_serves hs _).trans ?_), rfl, by rw [ports]; exact state, ?_⟩
  · rw [if_neg (by omega), if_pos rfl]
  · exact (State.flag_congr 0 (by rw [State.reg, State.reg, State.done_bar])).trans flag

theorem portControl_checks (s s1 : State) (h : Header) (r : ReplyTo) (p a rsv : Nat) (hs : s.Serves ⟨0x0005, 1, false, false, 4, rsv, 0, false⟩ h false r s1)
    (bad : 63 < p ∨ 1 < a) : exec (.portControl h p a rsv) s = .next (s1.done r .badField) := by
  refine congrArg Host.Outcome.next ((State.serve_of_serves hs _).trans ?_)
  rw [if_pos bad]

/-- Settles O31: the register's write and the packet lead to the same two changes of a port. -/
theorem portControl : Obligations.PortControl := ⟨portCtrlWrite_drains, portControl_latches, portControl_drains, portControl_checks⟩

end Sys2Proof.Machine
end

section
/-!
PROOFS. Flits at a fabric port (O33).
-/
namespace Sys2Proof.Machine

theorem State.only_emit (s : State) (o : Out) : s.Only [.out] (s.emit o) := by simp [State.Only, State.emit]

theorem State.only_at (s : State) (t : Nat) : s.Only [.stk] (s.at_ t) := by simp [State.Only, State.at_]

theorem State.only_sendCtrl (s : State) (p : Nat) (nak : Bool) : s.Only [.lnk, .out] (s.sendCtrl p nak) :=
  ((s.only_modPort p _).mono (by decide)).trans ((State.only_emit _ _).mono (by decide))

theorem State.port_sendCtrl {s : State} {p : Nat} (nak : Bool) (lt : p < s.lnk.ports.length) :
    (s.sendCtrl p nak).port p = { s.port p with sinceCtrl := 0 } := State.port_modPort_same (s := s) _ lt

theorem State.port_sendCtrl_ne {s : State} {p q : Nat} (nak : Bool) (ne : q ≠ p) : (s.sendCtrl p nak).port q = s.port q := State.port_modPort_ne s _ ne

theorem lt_of_up {s : State} {p : Nat} (up : (s.port p).state = .up) : p < s.lnk.ports.length := State.port_lt_of_state (by rw [up]; exact fun h => nomatch h)

/-! ### FLIT_BOUNDARY -/

/-- Where no head waits for its window, none is counted. -/
theorem State.countWaits_none {s : State} {p t : Nat}
    (fits : ∀ c q l, (s.port p).queues.getD c [] = q :: l → fitCode (s.openNow c t) (q.left * flitTime (s.port p).width) ≠ 1) : s.countWaits p t = s := by
  refine List.foldl_fixed' (fun c => ?_) _
  cases head : (s.port p).queues.getD c [] with
  | nil => rfl
  | cons q l => exact if_neg fun h => fits c q l head h.2.2

theorem replicate_nil_getD {α : Type} (n c : Nat) : (List.replicate n ([] : List α)).getD c [] = [] := by
  rw [List.getD_eq_getElem?_getD, List.getElem?_replicate]
  split <;> rfl

section
variable {s : State} {p : Fin 64} {now : Nat} (up : (s.port p.val).state = .up) (fabric : s.ethernet p.val = false)
include up fabric

theorem flitBoundary_replay {q : BitVec 16} (replay : (s.port p.val).replayFrom = some q) (recent : (s.port p.val).sinceCtrl < 31) :
    exec (.flitBoundary p now) s = .next ((s.at_ now).sendReplay p.val q) := by
  change execFlitBoundary p now s = _
  rw [execFlitBoundary]
  simp only [show (s.at_ now).port p.val = s.port p.val from rfl, show (s.at_ now).ethernet p.val = s.ethernet p.val from rfl, up, fabric, replay,
    Nat.not_le.2 recent, true_or, not_true_eq_false, if_false, Bool.false_eq_true]

/-- Without a replay and without a head that waits for its window. -/
theorem flitBoundary_fresh (noReplay : (s.port p.val).replayFrom = none) (waits : (s.at_ now).countWaits p.val now = s.at_ now) :
    ((s.at_ now).nextClass p.val now = none → exec (.flitBoundary p now) s = .next ((s.at_ now).sendCtrl p.val false)) ∧
    (∀ c, (s.at_ now).nextClass p.val now = some c → (s.port p.val).sinceCtrl < 31 → (s.port p.val).replay.length < replayCap (s.port p.val).width →
      exec (.flitBoundary p now) s = .next ((s.at_ now).sendFlit p.val c now)) := by
  have run : exec (.flitBoundary p now) s = execFlitBoundary p now s := rfl
  rw [run, execFlitBoundary]
  simp only [show (s.at_ now).port p.val = s.port p.val from rfl, show (s.at_ now).ethernet p.val = s.ethernet p.val from rfl, up, fabric, noReplay, waits,
    true_or, not_true_eq_false, if_false, Bool.false_eq_true]
  refine ⟨fun idle => ?_, fun c chosen recent room => ?_⟩
  · rw [idle]
    exact ite_self _
  · rw [chosen]
    exact if_neg fun h => by
      obtain late | full | wired := h
      · exact absurd recent (Nat.not_lt.2 late)
      · exact absurd room (Nat.not_lt.2 full)
      · exact nomatch wired

end

theorem flitBoundary_idle (s : State) (p : Fin 64) (now : Nat) (up : (s.port p.val).state = .up) (fabric : s.ethernet p.val = false)
    (empty : (s.port p.val).queues = List.replicate 8 []) (noReplay : (s.port p.val).replayFrom = none) (noCur : (s.port p.val).cur = none) :
    ∃ t, exec (.flitBoundary p now) s = .next t ∧ t.out = s.out ++ [.ctrl p.val (ctrlHdr false).word (ctrlBody (s.port p.val).rcvSeq (s.port p.val).owed)] ∧
      t.port p.val = { s.port p.val with sinceCtrl := 0 } ∧ s.Only [.stk, .lnk, .out] t := by
  let s1 := s.at_ now
  have same : s1.port p.val = s.port p.val := rfl
  have noHead (c : Nat) : (s1.port p.val).queues.getD c [] = [] := by rw [same, empty, replicate_nil_getD]
  have waits : s1.countWaits p.val now = s1 := State.countWaits_none fun c q l head => by rw [noHead] at head; cases head
  have notOk (c : Nat) : s1.headOk p.val c now = false := by rw [State.headOk, noHead]
  have noClass : s1.nextClass p.val now = none := by
    rw [State.nextClass, notOk, same, noCur]
    simp only [notOk, Bool.and_false, List.filter_false]
    rfl
  have run := (flitBoundary_fresh up fabric noReplay waits).1 noClass
  refine ⟨_, run, rfl, State.port_sendCtrl false (s := s1) (lt_of_up up), ?_⟩
  exact ((s.only_at now).mono (by decide)).trans ((s1.only_sendCtrl _ _).mono (by decide))

theorem flitBoundary_replays (s : State) (p : Fin 64) (now : Nat) (q : BitVec 16) (f : Flit) (up : (s.port p.val).state = .up)
    (fabric : s.ethernet p.val = false) (replay : (s.port p.val).replayFrom = some q) (recent : (s.port p.val).sinceCtrl < 31)
    (kept : (s.port p.val).replay[(q - (s.port p.val).ackSeq).toNat]? = some f) :
    ∃ t, exec (.flitBoundary p now) s = .next t ∧ t.out = s.out ++ [.flit p.val q f] ∧
      (t.port p.val).replayFrom = (if q + 1 = (s.port p.val).sndSeq then none else some (q + 1)) ∧ (t.port p.val).replay = (s.port p.val).replay ∧
      (t.port p.val).queues = (s.port p.val).queues ∧ s.Only [.stk, .lnk, .out] t := by
  let s1 := s.at_ now
  let next (y : Port) : Port := { y with sinceCtrl := y.sinceCtrl + 1, replayFrom := if q + 1 = y.sndSeq then none else some (q + 1) }
  have sent : s1.sendReplay p.val q = (s1.modPort p.val next).emit (.flit p.val q f) := by
    rw [State.sendReplay]
    simp only [show s1.port p.val = s.port p.val from rfl, kept]
    rfl
  have run := (flitBoundary_replay (now := now) up fabric replay recent).trans (congrArg Host.Outcome.next sent)
  have here : ((s1.modPort p.val next).emit (.flit p.val q f)).port p.val = next (s.port p.val) := State.port_modPort_same (s := s1) _ (lt_of_up up)
  refine ⟨_, run, rfl, by rw [here], by rw [here], by rw [here], ?_⟩
  exact ((s.only_at now).mono (by decide)).trans (((s1.only_modPort _ _).mono (by decide)).trans ((State.only_emit _ _).mono (by decide)))

/-- The port after the head of a packet of class 0 left. -/
def Port.headSent (x : Port) (q : QPkt) (l : List QPkt) (pkt : Packet) : Port :=
  { x with
    queues := x.queues.set 0 ({ q with pkt := pkt, sent := 1 } :: l), out := x.out.modify q.stage (· + 1), sndSeq := x.sndSeq + 1
    replay := x.replay ++ [{ hdr := q.hdr.word, pkt := some pkt }], sinceCtrl := x.sinceCtrl + 1 }

theorem State.sendFlit_head {s : State} {p t : Nat} {q : QPkt} {l : List QPkt} (head : (s.port p).queues.getD 0 [] = q :: l) (unsent : q.sent = 0)
    (long : 1 < q.flits) (own : q.from_ = none) (fits : fitCode (s.openNow 0 t) (q.left * flitTime (s.port p).width) = 0) :
    ∃ pkt, s.sendFlit p 0 t = (s.modPort p fun _ => (s.port p).headSent q l pkt).emit (.flit p (s.port p).sndSeq { hdr := q.hdr.word, pkt := some pkt }) := by
  have more : (0 + 1 == q.flits) = false := beq_eq_false_iff_ne.2 (by omega)
  have leaves : (s.headLeaves p 0 q t (flitTime (s.port p).width)).1 = s := by
    simp only [State.headLeaves, fits, show ¬(0 : Nat) = 2 by decide, if_false]
  refine ⟨(s.headLeaves p 0 q t (flitTime (s.port p).width)).2, ?_⟩
  rw [State.sendFlit, head, Port.headSent]
  simp only [unsent, if_true, leaves, more, own, State.owe, Port.serveTag, Bool.false_and, Bool.false_eq_true, if_false, Nat.mul_zero, Nat.zero_add]

theorem State.openNow_off {s : State} {c t : Nat} (off : s.flag Reg.shpCtrl 0 = false) : s.openNow c t = (true, none) := by rw [State.openNow, off]; rfl

theorem flitBoundary_sends (s : State) (p : Fin 64) (now : Nat) (q : QPkt) (up : (s.port p.val).state = .up) (fabric : s.ethernet p.val = false)
    (noReplay : (s.port p.val).replayFrom = none) (queues : (s.port p.val).queues = [[q], [], [], [], [], [], [], []]) (cls : q.pkt.cls = 0)
    (unsent : q.sent = 0) (long : 1 < q.flits) (own : q.from_ = none) (recent : (s.port p.val).sinceCtrl < 31) (room : (s.port p.val).replay.length < 4096)
    (off : s.flag Reg.shpCtrl 0 = false) (credit : s.creditOk p.val 0 q.stage = true) :
    ∃ t, exec (.flitBoundary p now) s = .next t ∧ (∃ f, t.out = s.out ++ [.flit p.val (s.port p.val).sndSeq f] ∧
        f.hdr = FlitHdr.word { kind := 1, cls := 0, stage := Fin.ofNat 8 q.stage, head := true, tail := false, len := 62 } ∧
        (t.port p.val).replay = (s.port p.val).replay ++ [f]) ∧
      (t.port p.val).sndSeq = (s.port p.val).sndSeq + 1 ∧ (t.port p.val).out = (s.port p.val).out.modify q.stage (· + 1) ∧
      (∃ q2, (t.port p.val).queues = [[q2], [], [], [], [], [], [], []] ∧ q2.sent = 1) ∧ s.Only [.stk, .lnk, .out] t := by
  let s1 := s.at_ now
  have same : s1.port p.val = s.port p.val := rfl
  have opened (c : Nat) : s1.openNow c now = (true, none) := State.openNow_off off
  have waits : s1.countWaits p.val now = s1 := State.countWaits_none fun c q l head => by rw [opened]; exact fun h => nomatch h
  have head : (s1.port p.val).queues.getD 0 [] = [q] := by rw [same, queues]; rfl
  have ok : s1.headOk p.val 0 now = true := by
    rw [State.headOk, head]
    simp only [opened, if_true, Bool.and_true]
    exact credit
  have chosen : s1.nextClass p.val now = some 0 := if_pos ok
  obtain ⟨pkt, sent⟩ := State.sendFlit_head (s := s1) (t := now) head unsent long own (by rw [opened]; rfl)
  have hdr : q.hdr.word = FlitHdr.word { kind := 1, cls := 0, stage := Fin.ofNat 8 q.stage, head := true, tail := false, len := 62 } := by
    have more : (0 + 1 == q.flits) = false := beq_eq_false_iff_ne.2 (by omega)
    simp only [QPkt.hdr, unsent, more, cls, Bool.false_eq_true, if_false]
    rfl
  have cap : (s.port p.val).replay.length < replayCap (s.port p.val).width := by
    rw [replayCap]
    split <;> omega
  have run := ((flitBoundary_fresh up fabric noReplay waits).2 0 chosen recent cap).trans (congrArg Host.Outcome.next sent)
  have here : ((s1.modPort p.val fun _ => (s1.port p.val).headSent q [] pkt).emit (.flit p.val (s1.port p.val).sndSeq { hdr := q.hdr.word, pkt := some pkt })).port p.val =
      (s.port p.val).headSent q [] pkt := State.port_modPort_same (s := s1) _ (lt_of_up up)
  refine ⟨_, run, ⟨_, rfl, hdr, by rw [here]; rfl⟩, by rw [here]; rfl, by rw [here]; rfl, ⟨{ q with pkt := pkt, sent := 1 }, ?_, rfl⟩, ?_⟩
  · rw [here, Port.headSent, queues]
    rfl
  · exact ((s.only_at now).mono (by decide)).trans (((s1.only_modPort _ _).mono (by decide)).trans ((State.only_emit _ _).mono (by decide)))

/-! ### DATA_FLIT_RECEIVE -/

theorem dataFlitReceive_accepts (s : State) (p : Fin 64) (hdr : BitVec 16) (up : (s.port p.val).state = .up) (valid : (flitHdr hdr).valid = true) :
    ∃ t, exec (.dataFlitReceive p (s.port p.val).rcvSeq hdr true) s = .next t ∧
      t.port p.val = { s.port p.val with rcvSeq := (s.port p.val).rcvSeq + 1, nakSent := false } ∧
      (∀ q, q ≠ p.val → t.port q = s.port q) ∧ s.Only [.lnk] t := by
  obtain ⟨here, others⟩ := State.modPort_alone (s := s) (fun y => { y with rcvSeq := y.rcvSeq + 1, nakSent := false }) (lt_of_up up)
  exact ⟨_, (if_neg (not_not.2 (Or.inl up))).trans (if_pos ⟨rfl, valid, rfl⟩), here, others, s.only_modPort _ _⟩

/-- The state after a NAK. -/
def State.refuseFlit (s : State) (p : Nat) : State := (s.modPort p fun y => { y with nakSent := true }).sendCtrl p true

theorem State.refuseFlit_naks {s : State} {p : Nat} (up : (s.port p).state = .up) :
    ((s.refuseFlit p).port p).rcvSeq = (s.port p).rcvSeq ∧ ((s.refuseFlit p).port p).nakSent = true ∧
      (s.refuseFlit p).out = s.out ++ [.ctrl p (ctrlHdr true).word (ctrlBody (s.port p).rcvSeq (s.port p).owed)] ∧
      (∀ q, q ≠ p → (s.refuseFlit p).port q = s.port q) ∧ s.Only [.lnk, .out] (s.refuseFlit p) := by
  have lt := lt_of_up up
  obtain ⟨here, others⟩ := State.modPort_alone (s := s) (fun y => { y with nakSent := true }) lt
  have after := State.port_sendCtrl true (s := s.modPort p fun y => { y with nakSent := true }) (p := p) (by
    rw [State.modPort]; exact (List.length_modify _ _ _).symm ▸ lt)
  rw [here] at after
  refine ⟨?_, ?_, ?_, fun q ne => ?_, ?_⟩
  · rw [State.refuseFlit, after]
  · rw [State.refuseFlit, after]
  · rw [State.refuseFlit, State.sendCtrl, here]; rfl
  · exact (State.port_sendCtrl_ne true ne).trans (others q ne)
  · exact ((s.only_modPort _ _).mono (by decide)).trans (State.only_sendCtrl _ _ _)

theorem dataFlitReceive_outOfOrder (s : State) (p : Fin 64) (seq : BitVec 16) (hdr : BitVec 16) (up : (s.port p.val).state = .up)
    (other : seq ≠ (s.port p.val).rcvSeq) :
    ∃ t, exec (.dataFlitReceive p seq hdr true) s = .next t ∧ (t.port p.val).rcvSeq = (s.port p.val).rcvSeq ∧ (t.port p.val).nakSent = true ∧
      (s.port p.val).nakSent = (t.out == s.out) ∧
      ((s.port p.val).nakSent = false → t.out = s.out ++ [.ctrl p.val (ctrlHdr true).word (ctrlBody (s.port p.val).rcvSeq (s.port p.val).owed)]) ∧
      (∀ q, q ≠ p.val → t.port q = s.port q) ∧ s.Only [.lnk, .out] t := by
  have refused : exec (.dataFlitReceive p seq hdr true) s = if (s.port p.val).nakSent = true ∧ seq ≠ (s.port p.val).rcvSeq then .next s else .next (s.refuseFlit p.val) :=
    (if_neg (not_not.2 (Or.inl up))).trans (if_neg fun h => other h.2.2)
  cases nak : (s.port p.val).nakSent with
  | true =>
    refine ⟨s, refused.trans (if_pos ⟨nak, other⟩), rfl, nak, (beq_self_eq_true _).symm, (fun h => nomatch h), fun _ _ => rfl, State.Only.refl _ _⟩
  | false =>
    obtain ⟨seq, sent, out, others, only⟩ := State.refuseFlit_naks up
    refine ⟨_, refused.trans (if_neg fun h => by rw [nak] at h; exact absurd h.1 (by decide)), seq, sent, ?_, fun _ => out, others, only⟩
    rw [out, eq_comm, beq_eq_false_iff_ne]
    exact fun h => by simpa using congrArg List.length h

theorem dataFlitReceive_damaged (s : State) (p : Fin 64) (hdr : BitVec 16) (up : (s.port p.val).state = .up) :
    ∃ t, exec (.dataFlitReceive p (s.port p.val).rcvSeq hdr false) s = .next t ∧ (t.port p.val).rcvSeq = (s.port p.val).rcvSeq ∧ (t.port p.val).nakSent = true ∧
      t.out = s.out ++ [.ctrl p.val (ctrlHdr true).word (ctrlBody (s.port p.val).rcvSeq (s.port p.val).owed)] ∧
      t.reg (Reg.lnkPCntFecu p.val) = min 0xFFFFFFFF (s.reg (Reg.lnkPCntFecu p.val) + 1) ∧ (∀ q, q ≠ p.val → t.port q = s.port q) ∧ s.Only [.lnk, .bar, .out] t := by
  let s1 := s.count (Reg.lnkPCntFecu p.val) 1
  obtain ⟨seq, sent, out, others, only⟩ := State.refuseFlit_naks (s := s1) (p := p.val) up
  refine ⟨_, (if_neg (not_not.2 (Or.inl up))).trans ((if_neg fun h => absurd h.1 (by decide)).trans (if_neg fun h => h.2 rfl)), seq, sent, out, ?_, others, ?_⟩
  · exact State.reg_count_same _ _ _
  · exact ((s.only_bar_count _ _).mono (by decide)).trans (only.mono (by decide))

/-! ### CTRL_FLIT_RECEIVE -/

theorem ack_ahead (a : BitVec 16) {n : Nat} (small : n < 65536) : (a + BitVec.ofNat 16 n - a).toNat = n := by
  rw [BitVec.add_comm, BitVec.add_sub_cancel, BitVec.toNat_ofNat, Nat.mod_eq_of_lt small]

/-- The port after a CTRL flit that acknowledges n flits. -/
def Port.acked (x : Port) (n : Nat) (ack : BitVec 16) (counts : List Nat) (now : Nat) : Port :=
  { x with
    ctrlAt := now, out := Machine.returned x.out x.lastRet counts, lastRet := counts, replay := x.replay.drop n, ackSeq := ack
    failedReplays := if n = 0 then x.failedReplays else 0 }

/-- The port after a NAK that names a flit of the replay buffer. -/
def Port.naked (x : Port) : Port := { x with failedReplays := x.failedReplays + 1, replayFrom := if x.replay.isEmpty then none else some x.ackSeq }

theorem execCtrlFlitReceive_eq {s : State} {p : Fin 64} {n : Nat} {hdr : BitVec 16} {body : List Byte} {now : Nat} (up : (s.port p.val).state = .up)
    (within : n ≤ (s.port p.val).replay.length) (small : n < 65536) (valid : flitHdr hdr = ctrlHdr false ∨ flitHdr hdr = ctrlHdr true)
    (acks : ctrlAck body = (s.port p.val).ackSeq + BitVec.ofNat 16 n) :
    exec (.ctrlFlitReceive p hdr body now) s =
      if flitHdr hdr = ctrlHdr true then
        if 8 ≤ ((s.port p.val).acked n (ctrlAck body) (ctrlCounts body) now).naked.failedReplays then
          .next ((((s.at_ now).modPort p.val fun _ => ((s.port p.val).acked n (ctrlAck body) (ctrlCounts body) now).naked).count (Reg.lnkPCntReplay p.val) 1).portDown p.val)
        else .next (((s.at_ now).modPort p.val fun _ => ((s.port p.val).acked n (ctrlAck body) (ctrlCounts body) now).naked).count (Reg.lnkPCntReplay p.val) 1)
      else .next ((s.at_ now).modPort p.val fun _ => (s.port p.val).acked n (ctrlAck body) (ctrlCounts body) now) := by
  have run : exec (.ctrlFlitReceive p hdr body now) s = execCtrlFlitReceive p hdr body now s := rfl
  have covered : (ctrlAck body - (s.port p.val).ackSeq).toNat = n := by rw [acks, ack_ahead _ small]
  have failed (k : Nat) : (if (n != 0 && true) = true then 0 else k) = if n = 0 then k else 0 := by
    by_cases zero : n = 0
    · rw [if_pos zero, zero]; rfl
    · rw [if_neg zero, if_pos (by simp [zero])]
  have live : (s.port p.val).state = .up ∨ (s.port p.val).state = .draining ∨ (s.port p.val).state = .miswired := Or.inl up
  rw [run, execCtrlFlitReceive]
  simp only [show (s.at_ now).port p.val = s.port p.val from rfl, covered, within, live, valid, not_true_eq_false, or_self, if_false, if_true,
    decide_true, failed]
  rfl

theorem ctrlFlitReceive_acks (s : State) (p : Fin 64) (n : Nat) (hdr : BitVec 16) (body : List Byte) (now : Nat) (up : (s.port p.val).state = .up)
    (within : n ≤ (s.port p.val).replay.length) (small : n < 65536) (plain : flitHdr hdr = ctrlHdr false)
    (acks : ctrlAck body = (s.port p.val).ackSeq + BitVec.ofNat 16 n) :
    ∃ t, exec (.ctrlFlitReceive p hdr body now) s = .next t ∧
      (t.port p.val).replay = (s.port p.val).replay.drop n ∧ (t.port p.val).ackSeq = (s.port p.val).ackSeq + BitVec.ofNat 16 n ∧
      (t.port p.val).ctrlAt = now ∧ (t.port p.val).out = returned (s.port p.val).out (s.port p.val).lastRet (ctrlCounts body) ∧
      (t.port p.val).replayFrom = (s.port p.val).replayFrom ∧ s.Only [.stk, .lnk] t := by
  have run := (execCtrlFlitReceive_eq (now := now) up within small (Or.inl plain) acks).trans (if_neg (by rw [plain]; decide))
  have here := State.port_modPort_same (s := s.at_ now) (fun _ => (s.port p.val).acked n (ctrlAck body) (ctrlCounts body) now) (lt_of_up up)
  refine ⟨_, run, by rw [here]; rfl, ?_, by rw [here]; rfl, by rw [here]; rfl, by rw [here]; rfl, ?_⟩
  · rw [here, ← acks]; rfl
  · exact ((s.only_at now).mono (by decide)).trans ((State.only_modPort _ _ _).mono (by decide))

theorem ctrlFlitReceive_other (s : State) (p : Fin 64) (hdr : BitVec 16) (body : List Byte) (now : Nat) (plain : flitHdr hdr ≠ ctrlHdr false)
    (nak : flitHdr hdr ≠ ctrlHdr true) : exec (.ctrlFlitReceive p hdr body now) s = .next (s.at_ now) :=
  if_pos (Or.inr fun h => h.elim plain nak)

theorem ctrlFlitReceive_naks (s : State) (p : Fin 64) (n : Nat) (hdr : BitVec 16) (body : List Byte) (now : Nat) (up : (s.port p.val).state = .up)
    (within : n < (s.port p.val).replay.length) (some_ : 0 < n) (small : n < 65536) (nak : flitHdr hdr = ctrlHdr true)
    (acks : ctrlAck body = (s.port p.val).ackSeq + BitVec.ofNat 16 n) :
    ∃ t, exec (.ctrlFlitReceive p hdr body now) s = .next t ∧
      (t.port p.val).state = .up ∧ (t.port p.val).replayFrom = some ((s.port p.val).ackSeq + BitVec.ofNat 16 n) ∧ (t.port p.val).failedReplays = 1 ∧
      t.reg (Reg.lnkPCntReplay p.val) = min 0xFFFFFFFF (s.reg (Reg.lnkPCntReplay p.val) + 1) ∧ s.Only [.stk, .lnk, .bar] t := by
  let x := ((s.port p.val).acked n (ctrlAck body) (ctrlCounts body) now).naked
  let s2 := (s.at_ now).modPort p.val fun _ => x
  have failed : x.failedReplays = 1 := congrArg (· + 1) (if_neg (by omega))
  have left : ((s.port p.val).replay.drop n).isEmpty = false := by
    rw [List.isEmpty_eq_false_iff, ne_eq, List.drop_eq_nil_iff]
    omega
  have from_ : x.replayFrom = some ((s.port p.val).ackSeq + BitVec.ofNat 16 n) := by
    rw [← acks]
    exact if_neg (by rw [Bool.not_eq_true]; exact left)
  have run := (execCtrlFlitReceive_eq (now := now) up within.le small (Or.inr nak) acks).trans ((if_pos nak).trans (if_neg (by
    change ¬ 8 ≤ x.failedReplays
    omega)))
  have here : (s2.count (Reg.lnkPCntReplay p.val) 1).port p.val = x := State.port_modPort_same (s := s.at_ now) (fun _ => x) (lt_of_up up)
  refine ⟨s2.count (Reg.lnkPCntReplay p.val) 1, run, by rw [here]; exact up, by rw [here]; exact from_, by rw [here]; exact failed, s2.reg_count_same _ _, ?_⟩
  exact ((s.only_at now).mono (by decide)).trans (((State.only_modPort _ _ _).mono (by decide)).trans ((s2.only_bar_count _ _).mono (by decide)))

/-- Settles O33: the flit that a port sends, takes or acknowledges, row by row. -/
theorem flitBoundary : Obligations.FlitBoundary :=
  ⟨flitBoundary_idle, flitBoundary_replays, fun s p now q up fabric _ => flitBoundary_sends s p now q up fabric, dataFlitReceive_accepts,
    dataFlitReceive_outOfOrder, dataFlitReceive_damaged, ctrlFlitReceive_acks, ctrlFlitReceive_other, ctrlFlitReceive_naks⟩

end Sys2Proof.Machine
end

section
/-!
PROOFS. Packets routed, delivered, dropped and combined (O34), and reports of link state (O35).
-/
namespace Sys2Proof.Machine

/-! ### Routing (O34) -/

/-- What is owed for a packet changes nothing but the credits that a port owes. -/
theorem State.owe_credit (s : State) (from_ : Option (Nat × Nat)) (c n : Nat) :
    (s.owe from_ c n).lnk.delivered = s.lnk.delivered ∧ (∀ p, ((s.owe from_ c n).port p).queues = (s.port p).queues) ∧ s.Only [.lnk] (s.owe from_ c n) := by
  unfold State.owe
  split
  · exact ⟨rfl, fun _ => rfl, State.Only.refl _ _⟩
  · refine ⟨rfl, fun q => ?_, s.only_modPort _ _⟩
    rw [State.port_modPort]
    split <;> rfl

theorem State.owe_reg (s : State) (from_ : Option (Nat × Nat)) (c n o : Nat) : (s.owe from_ c n).reg o = s.reg o := by
  unfold State.owe
  split <;> rfl

theorem packetRoute_damaged (s : State) (port : Option (Fin 64)) (pkt : Packet) (now : Nat) (bad : pkt.crc ≠ pkt.hcrc) :
    ∃ t, exec (.packetRoute port pkt now) s = .next t ∧ t.reg Reg.lnkCntHcrc = min 0xFFFFFFFF (s.reg Reg.lnkCntHcrc + 1) ∧
      t.lnk.delivered = s.lnk.delivered ∧ (∀ p, (t.port p).queues = (s.port p).queues) ∧ s.Only [.stk, .lnk, .bar, .blt] t := by
  let from_ : Option (Nat × Nat) := port.map fun p => (p.val, pkt.hops.val - 1)
  let src := match port with | some p => p.val | none => 0
  let s2 := ((s.at_ now).count Reg.lnkCntHcrc 1).note (0x200 + src) 0x701 src
  have noted := (((s.at_ now).count Reg.lnkCntHcrc 1).keeps_self _).note (sub_self _) (0x200 + src) 0x701 src |>.only
  have run : exec (.packetRoute port pkt now) s = .next (s2.owe from_ pkt.cls.val pkt.flits) := if_pos bad
  obtain ⟨delivered, queues, only⟩ := s2.owe_credit from_ pkt.cls.val pkt.flits
  refine ⟨_, run, ?_, ?_, fun p => ?_, ?_⟩
  · rw [State.owe_reg]
    exact (State.reg_post _ _ (by decide)).trans (State.reg_count_same _ _ _)
  · exact delivered.trans (congrArg Lnk.delivered noted.lnk)
  · exact (queues p).trans (congrArg Port.queues (State.port_congr (congrArg Lnk.ports noted.lnk) p))
  · exact ((s.only_at now).mono (by decide)).trans (((State.only_bar_count _ _ _).mono (by decide)).trans ((noted.mono (by decide)).trans (only.mono (by decide))))

theorem packetRoute_expired (s : State) (port : Option (Fin 64)) (pkt : Packet) (now : Nat) (good : pkt.crc = pkt.hcrc) (typed : pkt.type ≠ 0)
    (known : pkt.type.toNat < 0x85) (old : (s.at_ now).expired pkt = true) :
    ∃ t, exec (.packetRoute port pkt now) s = .next t ∧ t.reg Reg.xptCntExpired = min 0xFFFFFFFF (s.reg Reg.xptCntExpired + 1) ∧
      t.lnk.delivered = s.lnk.delivered ∧ (∀ p, (t.port p).queues = (s.port p).queues) ∧ s.Only [.stk, .lnk, .bar] t := by
  let from_ : Option (Nat × Nat) := port.map fun p => (p.val, pkt.hops.val - 1)
  let s2 := (s.at_ now).count Reg.xptCntExpired 1
  have run : exec (.packetRoute port pkt now) s = .next (s2.owe from_ pkt.cls.val pkt.flits) :=
    (if_neg (not_not.2 good)).trans ((if_neg (not_or.2 ⟨typed, by omega⟩)).trans (if_pos old))
  obtain ⟨delivered, queues, only⟩ := s2.owe_credit from_ pkt.cls.val pkt.flits
  refine ⟨_, run, ?_, delivered, queues, ?_⟩
  · rw [State.owe_reg]
    exact State.reg_count_same _ _ _
  · exact ((s.only_at now).mono (by decide)).trans (((State.only_bar_count _ _ _).mono (by decide)).trans (only.mono (by decide)))

theorem State.route_own {s : State} {p : Packet} (noVia : p.viaValid = false) (own : p.dst = s.me) : s.route p = .deliver := by
  rw [State.route, noVia, own, State.hPresent]
  simp

theorem State.routeOn_own {s : State} (from_ : Option (Nat × Nat)) {p : Packet} (noVia : p.viaValid = false) (own : p.dst = s.me) :
    s.routeOn from_ p = ({ s with lnk := { s.lnk with delivered := s.lnk.delivered ++ [p] } }).owe from_ p.cls.val p.flits := by
  have stays : s.viaHere p = p := by rw [State.viaHere, noVia]; rfl
  simp only [State.routeOn, stays, State.route_own noVia own]

/-- Without combining, no packet is taken into a record. -/
theorem State.combinable_off {s : State} (p : Packet) (off : s.flag Reg.xptCtrl 1 = false) : s.combinable p = none ∧ s.completable p = none := by
  constructor
  · rw [State.combinable]
    split
    · simp [off]
    · rfl
  · rw [State.completable]
    split
    · simp [off]
    · rfl

theorem packetRoute_delivers (s : State) (port : Fin 64) (pkt : Packet) (now : Nat) (good : pkt.crc = pkt.hcrc) (typed : pkt.type ≠ 0)
    (known : pkt.type.toNat < 0x85) (young : (s.at_ now).expired pkt = false) (noVia : pkt.viaValid = false) (own : pkt.dst = s.me)
    (off : s.flag Reg.xptCtrl 1 = false) :
    ∃ t, exec (.packetRoute (some port) pkt now) s = .next t ∧ t.lnk.delivered = s.lnk.delivered ++ [pkt] ∧
      (∀ p, (t.port p).queues = (s.port p).queues) ∧ s.Only [.stk, .lnk] t := by
  obtain ⟨noCombine, noComplete⟩ := State.combinable_off (s := s.at_ now) pkt off
  let s2 : State := { s.at_ now with lnk := { s.lnk with delivered := s.lnk.delivered ++ [pkt] } }
  have run : exec (.packetRoute (some port) pkt now) s = .next (s2.owe (some (port.val, pkt.hops.val - 1)) pkt.cls.val pkt.flits) := by
    refine (if_neg (not_not.2 good)).trans ((if_neg (not_or.2 ⟨typed, by omega⟩)).trans ((if_neg (by rw [young]; decide)).trans ?_))
    change (match (s.at_ now).combinable pkt with | some (t, aop, opnd) => _ | none => _) = _
    rw [noCombine]
    change (match (s.at_ now).completable pkt with | some (id, slot) => _ | none => _) = _
    rw [noComplete]
    exact congrArg Host.Outcome.next (State.routeOn_own _ noVia own)
  obtain ⟨delivered, queues, only⟩ := s2.owe_credit (some (port.val, pkt.hops.val - 1)) pkt.cls.val pkt.flits
  refine ⟨_, run, delivered, queues, ?_⟩
  exact ((s.only_at now).mono (by decide)).trans (((State.only_setLnk _ _).mono (by decide)).trans (only.mono (by decide)))

theorem gatewayFrameReceive_drops (s : State) (f : GwFrame) (now : Nat) (not_ : f.fcsOk = false ∨ s.ethernet 63 = false ∨ (s.port 63).state ≠ .up) :
    ∃ t, exec (.gatewayFrameReceive f now) s = .next t ∧ t.reg Reg.lnkGwCntDrop = min 0xFFFFFFFF (s.reg Reg.lnkGwCntDrop + 1) ∧ s.Only [.stk, .bar] t := by
  refine ⟨_, if_neg fun h => ?_, State.reg_count_same (s.at_ now) _ _, ((s.only_at now).mono (by decide)).trans ((State.only_bar_count _ _ _).mono (by decide))⟩
  obtain ⟨eth, up, _, _, _, fcs, _⟩ := h
  obtain noFcs | noEth | notUp := not_
  · rw [noFcs] at fcs; cases fcs
  · exact absurd (noEth.symm.trans eth) (by decide)
  · exact notUp up

theorem gatewayFrameReceive_delivers (s : State) (f : GwFrame) (now : Nat) (eth : s.ethernet 63 = true) (up : (s.port 63).state = .up)
    (mac : f.dstMac.toNat = s.reg Reg.lnkGwMacHi * 2 ^ 32 + s.reg Reg.lnkGwMacLo)
    (ip : f.dstIp.toNat = (List.range 4).foldl (fun a i => a * 2 ^ 32 + s.reg (Reg.lnkGwIp i)) 0) (udp : f.udpPort.toNat = s.fld Reg.lnkGwCfg 31 16)
    (fcs : f.fcsOk = true) (sum : f.udpOk = true) (good : f.pkt.crc = f.pkt.hcrc) (noVia : f.pkt.viaValid = false) (own : f.pkt.dst = s.me) :
    ∃ t, exec (.gatewayFrameReceive f now) s = .next t ∧ t.lnk.delivered = s.lnk.delivered ++ [{ f.pkt with hops := 0 }] ∧ s.Only [.stk, .lnk] t := by
  have run : exec (.gatewayFrameReceive f now) s = .next ((s.at_ now).routeOn none { f.pkt with hops := 0 }) := if_pos ⟨eth, up, mac, ip, udp, fcs, sum, good⟩
  have delivers := State.routeOn_own (s := s.at_ now) (p := { f.pkt with hops := 0 }) none noVia own
  exact ⟨_, run.trans (congrArg Host.Outcome.next delivers), rfl, ((s.only_at now).mono (by decide)).trans ((State.only_setLnk _ _).mono (by decide))⟩

/-! ### Combining records -/

/-- The records that wait at the routers. -/
def State.sameHolds (s t : State) : Prop := t.lnk.combine = s.lnk.combine ∧ t.lnk.completes = s.lnk.completes

theorem State.sameHolds_owe (s : State) (from_ : Option (Nat × Nat)) (c n : Nat) : s.sameHolds (s.owe from_ c n) := by
  unfold State.owe
  split <;> exact ⟨rfl, rfl⟩

theorem State.sameHolds_enqueue (s : State) (p : Nat) (q : QPkt) : s.sameHolds (s.enqueue p q) := by
  rw [State.enqueue]
  dsimp only
  split
  · rw [State.meter0]
    dsimp only
    split <;> exact ⟨rfl, rfl⟩
  · exact ⟨rfl, rfl⟩

theorem State.sameHolds_routeOn (s : State) (from_ : Option (Nat × Nat)) (pkt : Packet) : s.sameHolds (s.routeOn from_ pkt) := by
  rw [State.routeOn]
  dsimp only
  split
  · exact State.sameHolds_owe _ _ _ _
  · exact State.sameHolds_owe _ _ _ _
  · split
    · exact State.sameHolds_enqueue _ _ _
    · exact State.sameHolds_owe _ _ _ _

theorem combineHoldExpiry_record (s : State) (i now : Nat) (c : CombHold) (here : s.lnk.combine[i]? = some c) :
    ∃ t, exec (.combineHoldExpiry i false now) s = .next t ∧
      (if now < c.openedAt + s.fld Reg.xptComb 15 0 then t.lnk = s.lnk ∧ s.Only [.stk] t
        else t.lnk.combine = s.lnk.combine.eraseIdx i ∧ t.lnk.completes = s.lnk.completes ∧ s.Only [.stk, .lnk, .bar] t) := by
  let s2 : State := { s.at_ now with lnk := { s.lnk with combine := s.lnk.combine.eraseIdx i } }
  have run : exec (.combineHoldExpiry i false now) s = if now < c.openedAt + s.fld Reg.xptComb 15 0 then .next (s.at_ now) else .next (s2.sendRecord c) := by
    change (match s.lnk.combine[i]? with | some c => _ | none => _) = _
    rw [here]
    rfl
  by_cases early : now < c.openedAt + s.fld Reg.xptComb 15 0
  · exact ⟨_, run.trans (if_pos early), by rw [if_pos early]; exact ⟨rfl, s.only_at now⟩⟩
  · obtain ⟨combine, completes⟩ := s2.sameHolds_routeOn none _
    have sent := (s2.keeps_self [.lnk, .bar]).sendRecord (by decide) c |>.only
    refine ⟨_, run.trans (if_neg early), ?_⟩
    rw [if_neg early]
    exact ⟨combine, completes, ((s.only_at now).mono (by decide)).trans (((State.only_setLnk _ _).mono (by decide)).trans (sent.mono (by decide)))⟩

theorem combineHoldExpiry_complete (s : State) (i now : Nat) (c : CompHold) (here : s.lnk.completes[i]? = some c)
    (due : c.openedAt + s.fld Reg.xptComb 15 0 ≤ now) :
    ∃ t, exec (.combineHoldExpiry i true now) s = .next t ∧ t.lnk.completes = s.lnk.completes.eraseIdx i ∧ t.lnk.combine = s.lnk.combine ∧
      s.Only [.stk, .lnk, .bar] t := by
  let s2 : State := { s.at_ now with lnk := { s.lnk with completes := s.lnk.completes.eraseIdx i } }
  have run : exec (.combineHoldExpiry i true now) s = if now < c.openedAt + s.fld Reg.xptComb 15 0 then .next (s.at_ now) else .next (s2.sendComplete c) := by
    change (match s.lnk.completes[i]? with | some c => _ | none => _) = _
    rw [here]
    rfl
  obtain ⟨combine, completes⟩ := s2.sameHolds_routeOn none _
  have sent := (s2.keeps_self [.lnk, .bar]).sendComplete (by decide) c |>.only
  exact ⟨_, run.trans (if_neg (Nat.not_lt.2 due)), completes, combine,
    ((s.only_at now).mono (by decide)).trans (((State.only_setLnk _ _).mono (by decide)).trans (sent.mono (by decide)))⟩

/-- Settles O34: a packet's fate, row by row, each from what routing does with the packet. -/
theorem routing : Obligations.Routing :=
  ⟨packetRoute_damaged, packetRoute_expired, packetRoute_delivers, gatewayFrameReceive_drops, gatewayFrameReceive_delivers, combineHoldExpiry_record,
    combineHoldExpiry_complete⟩

/-! ### Reports of link state (O35) -/

theorem linkStateSend_reports (s : State) (now : Nat) (ready : s.lnk.ready = true) : ∃ t, exec (.linkStateSend now) s = .next t ∧
    t.out = s.out ++ s.upLocal.map (fun p => Out.linkState p s.lnk.lsSeq s.ownReport.1 s.ownReport.2) ∧ t.lnk.lsSeq = s.lnk.lsSeq + 1 ∧
    t.lnk.ports = s.lnk.ports ∧ s.Only [.stk, .lnk, .out] t := by
  have sent : (s.at_ now).sendLinkState s.upLocal =
      { s.at_ now with
        lnk := { s.lnk with lsSeq := s.lnk.lsSeq + 1 }
        out := s.out ++ s.upLocal.map fun p => Out.linkState p s.lnk.lsSeq s.ownReport.1 s.ownReport.2 } := State.foldl_emit _ _ _
  refine ⟨_, (if_pos ready).trans (congrArg Host.Outcome.next sent), rfl, rfl, rfl, ?_⟩
  simp [State.Only, State.at_]

theorem linkState_held (s : State) (src : DeviceId) (seq : Nat) (up : BitVec 32) (levels : List Nat) (now : Nat) (ready : s.lnk.ready = true)
    (near : harness src = harness s.me) (other : src ≠ s.me) (live : bitAt s.sat.live.toNat (member src) = true) :
    ∃ t, exec (.linkState src seq up levels now) s = .next t ∧
      afind t.lnk.table_ (member src) = some { up := up, levels := levels, at_ := max s.stk.time now, seq := seq } ∧
      (∀ m, m ≠ member src → afind t.lnk.table_ m = afind s.lnk.table_ m) ∧ s.Only [.stk, .lnk] t := by
  refine ⟨_, (if_neg fun h => ?_).trans (if_pos live), afind_aput_same _ _ _, fun m ne => afind_aput_ne _ _ ne,
    ((s.only_at now).mono (by decide)).trans ((State.only_setLnk _ _).mono (by decide))⟩
  obtain off | far | own := h
  · rw [show (s.at_ now).lnk.ready = true from ready] at off; cases off
  · exact far near
  · exact other own

theorem linkStateStale_ages (s : State) (m : Fin 32) (r : LinkReport) (held : afind s.lnk.table_ m.val = some r) :
    ∃ t, exec (.linkStateStale m) s = .next t ∧
      afind t.lnk.table_ m.val = some (if r.at_ + 4 * (max 1 (s.fld Reg.lnkTopo 31 24) * 1000) < s.stk.time then { r with up := 0 } else r) ∧
      (∀ k, k ≠ m.val → afind t.lnk.table_ k = afind s.lnk.table_ k) ∧ s.Only [.lnk] t := by
  have run : exec (.linkStateStale m) s = if r.at_ + 4 * (max 1 (s.fld Reg.lnkTopo 31 24) * 1000) < s.stk.time then
      .next { s with lnk := { s.lnk with table_ := aput s.lnk.table_ m.val { r with up := 0 } } } else .next s := by
    change (match afind s.lnk.table_ m.val with | none => _ | some r => _) = _
    rw [held]
  by_cases stale : r.at_ + 4 * (max 1 (s.fld Reg.lnkTopo 31 24) * 1000) < s.stk.time
  · refine ⟨_, run.trans (if_pos stale), ?_, fun k ne => afind_aput_ne _ _ ne, s.only_setLnk _⟩
    rw [if_pos stale]
    exact afind_aput_same _ _ _
  · exact ⟨_, run.trans (if_neg stale), by rw [if_neg stale, held], fun _ _ => rfl, State.Only.refl _ _⟩

theorem probePacketAns_ends (s : State) (src : DeviceId) : ∃ t, exec (.probePacketAns src s.me) s = .next t ∧
    (∀ q, q ∈ t.lnk.probes ↔ q ∈ s.lnk.probes ∧ q.1 ≠ localPort (member s.me) (member src)) ∧ t.lnk.ports = s.lnk.ports ∧ s.Only [.lnk] t := by
  refine ⟨_, if_pos rfl, fun q => ?_, rfl, s.only_setLnk _⟩
  exact List.mem_filter.trans (by rw [bne_iff_ne])

/-- Settles O35: reports sent, held and aged, probes answered and ended. -/
theorem linkState : Obligations.LinkState :=
  ⟨linkStateSend_reports, linkState_held, linkStateStale_ages, fun _ _ => if_pos rfl,
    fun _ _ _ other up => ⟨(if_neg other).trans (if_pos up), (if_neg other).trans (if_pos up)⟩, probePacketAns_ends⟩

end Sys2Proof.Machine
end

section
/-!
PROOFS. Gate banks and histograms (O43), and the policers (O44).
-/
namespace Sys2Proof.Machine

/-! ### GATE_BANK_SWAP -/

theorem WAcc.enable_same {a : WAcc} {off v : Nat} (i : List Nat) (same : bits v 0 0 = a.s.fld off 0 0) : WAcc.field off i v a enableFld = a := by
  have stored (b : WAcc) (h : b.s = a.s) : b.store off i ⟨0, 0, .rwl, 0, .enable⟩ v (bits v 0 0) = b := by
    rw [WAcc.store]
    exact if_pos (by rw [h]; exact same)
  change (if a.s.flag (blockLock off) 0 then
    if (({ a with dropped := false } : WAcc).store off i ⟨0, 0, .rwl, 0, .enable⟩ v (bits v 0 0)).dropped ||
      (({ a with dropped := false } : WAcc).store off i ⟨0, 0, .rwl, 0, .enable⟩ v (bits v 0 0)).s.fld off 0 0 != a.s.fld off 0 0 then { a with locked := true } else a
    else a.store off i ⟨0, 0, .rwl, 0, .enable⟩ v (bits v 0 0)) = a
  rw [stored a rfl, stored { a with dropped := false } rfl, bne_self_eq_false]
  exact ite_self _

theorem State.writeBit_swap {s : State} {v : Word} (present : s.present = true) (run : s.sec.run ≠ .recovery)
    (same : v.toNat % 8 = s.fld Reg.shpCtrl 2 0) (running : s.stk.running = true) :
    s.writeBit Reg.shpCtrl 3 v = if s.gateSwap.2 then s.gateSwap.1.droppedNote Reg.shpCtrl else s.gateSwap.1 := by
  have bar : s.gateSwap.1.bar = s.bar ∧ s.gateSwap.1.stk = s.stk := by
    rw [State.gateSwap]
    dsimp only
    split <;> exact ⟨rfl, rfl⟩
  obtain ⟨bar, stk⟩ := bar
  have fld (hi lo : Nat) : s.gateSwap.1.fld Reg.shpCtrl hi lo = s.fld Reg.shpCtrl hi lo := by rw [State.fld, State.fld, State.reg, State.reg, bar]
  have all : bits v.toNat 2 0 = s.fld Reg.shpCtrl 2 0 := by rw [← same, bits]; simp
  have kept {hi lo : Nat} (high : hi ≤ 2) : bits (setBits v.toNat 3 3 1 % 2 ^ 32) hi lo = s.fld Reg.shpCtrl hi lo := by
    rw [bits_mod_word _ _ (by omega), bits_setBits_apart _ _ (.inl (by omega)) (Nat.le_refl 3)]
    exact bits_within all (Nat.zero_le _) high
  have set_ : bits (setBits v.toNat 3 3 1 % 2 ^ 32) 3 3 = 1 := by rw [bits_mod_word _ _ (by omega), bits_setBit_one]
  have acted : WAcc.field Reg.shpCtrl [] (setBits v.toNat 3 3 1 % 2 ^ 32) ⟨s, false, false⟩ ⟨3, 3, .wo, 0, .plain⟩ = ⟨s.gateSwap.1, false, s.gateSwap.2⟩ := by
    simp only [WAcc.field, set_, if_true, WAcc.act, Bool.false_or]
  have mode : WAcc.field Reg.shpCtrl [] (setBits v.toNat 3 3 1 % 2 ^ 32) ⟨s.gateSwap.1, false, s.gateSwap.2⟩ ⟨2, 1, .rw, 0, .plain⟩ = ⟨s.gateSwap.1, false, s.gateSwap.2⟩ :=
    WAcc.field_same [] rfl ((kept (by decide)).trans (fld 2 1).symm)
  have enable : WAcc.field Reg.shpCtrl [] (setBits v.toNat 3 3 1 % 2 ^ 32) ⟨s.gateSwap.1, false, s.gateSwap.2⟩ enableFld = ⟨s.gateSwap.1, false, s.gateSwap.2⟩ :=
    WAcc.enable_same [] ((kept (by decide)).trans (fld 0 0).symm)
  have after : s.gateSwap.1.afterWrite Reg.shpCtrl [] = s.gateSwap.1 := by
    rw [State.afterWrite, if_neg (by simp [show Reg.shpCtrl ≠ Reg.glbDeviceId by decide]), if_neg (by decide), if_neg (by rw [stk, running]; simp),
      shpCtrl_reg.alone.policerSettle]
  rw [State.writeBit, State.barWrite_eq_regWrite _ present (State.bar0Serves_of_run _ run) shpCtrl_reg.aligned shpCtrl_reg.found shpCtrl_reg.low
    (by simp [shpCtrl_reg.high]), State.regWrite, shpCtrl_reg.alone.wholeDropped, shpCtrl_reg.alone.policerSettle]
  simp only [Bool.false_eq_true, if_false, List.foldl_cons, List.foldl_nil, acted, mode]
  rw [enable]
  simp only [Bool.false_eq_true, if_false, after]

theorem gateBankSwap_waits (s : State) (v : Word) (present : s.present = true) (run : s.sec.run ≠ .recovery) (free : s.shp.swapAt = none)
    (same : v.toNat % 8 = s.fld Reg.shpCtrl 2 0) (some_ : 1 ≤ s.fld (Reg.shpGateLen (1 - s.shp.bank)) 8 0)
    (fits : s.fld (Reg.shpGateLen (1 - s.shp.bank)) 8 0 ≤ 256) (running : s.stk.running = true) :
    ∃ t, exec (.gateBankSwap v) s = .next t ∧
      t.shp.swapAt = some (roundUp (s.stk.time + 1000) (max 1 (s.gateCycle (1 - s.shp.bank)))) ∧ t.shp.bank = s.shp.bank ∧ t.bar.regs = s.bar.regs ∧ s.Only [.shp] t := by
  have swaps : s.gateSwap = ({ s with shp := { s.shp with swapAt := some (roundUp (s.stk.time + 1000) (max 1 (s.gateCycle (1 - s.shp.bank)))) } }, false) :=
    if_neg (by
      rw [free]
      rintro (held | empty | long)
      · cases held
      · omega
      · omega)
  have wrote := State.writeBit_swap present run same running
  rw [swaps] at wrote
  exact ⟨_, congrArg Host.Outcome.next wrote, rfl, rfl, rfl, by simp [State.Only]⟩

theorem gateBankSwap_drops (s : State) (v : Word) (present : s.present = true) (run : s.sec.run ≠ .recovery) (held : s.shp.swapAt.isSome = true)
    (same : v.toNat % 8 = s.fld Reg.shpCtrl 2 0) (running : s.stk.running = true) : exec (.gateBankSwap v) s = .next (s.droppedNote Reg.shpCtrl) := by
  have drops : s.gateSwap = (s, true) := if_pos (Or.inl held)
  have wrote := State.writeBit_swap present run same running
  rw [drops] at wrote
  exact congrArg Host.Outcome.next wrote

theorem gateBankActivate_changes (s : State) (now at_ : Nat) (waits : s.shp.swapAt = some at_) :
    ∃ t, exec (.gateBankActivate now) s = .next t ∧
      (if now < at_ then t.shp = s.shp else t.shp.bank = 1 - s.shp.bank ∧ t.shp.swapAt = none) ∧ s.Only [.stk, .shp] t := by
  let s2 : State := { s.at_ now with shp := { s.shp with bank := 1 - s.shp.bank, swapAt := none } }
  have run : exec (.gateBankActivate now) s = if now < at_ then .next (s.at_ now) else .next { s2 with shp := { s2.shp with entry := (s2.gateNow now).1 } } := by
    change (match s.shp.swapAt with | none => _ | some t => _) = _
    rw [waits]
    rfl
  by_cases early : now < at_
  · exact ⟨_, run.trans (if_pos early), by rw [if_pos early]; rfl, (s.only_at now).mono (by decide)⟩
  · refine ⟨_, run.trans (if_neg early), by rw [if_neg early]; exact ⟨rfl, rfl⟩, ?_⟩
    simp [State.Only, s2, State.at_]

theorem State.gateAt_at (s : State) (now b n i t : Nat) : (s.at_ now).gateAt b n i t = s.gateAt b n i t := by
  induction n generalizing i t with
  | zero => rfl
  | succ n ih =>
    rw [State.gateAt, State.gateAt]
    rw [ih]
    rfl

theorem gateEntryChange_entry (s : State) (now : Nat) :
    exec (.gateEntryChange now) s = .next { s.at_ now with shp := { s.shp with entry := (s.gateNow now).1 } } := by
  have same : (s.at_ now).gateNow now = s.gateNow now := State.gateAt_at _ _ _ _ _ _
  rw [← same]
  rfl

/-! ### HIST_CLEAR and HIST_SAMPLE -/

theorem shpHistCtrl_plain : PlainReg Reg.shpHistCtrl ⟨Reg.shpHistCtrl, [], false, false, [⟨1, 1, .wo, 0, .plain⟩, ⟨0, 0, .rw, 0, .plain⟩]⟩ [] :=
  plainReg_of_check (by decide)

theorem histClear_waits (s : State) (v : Word) (present : s.present = true) (run : s.sec.run ≠ .recovery) (same : bitAt v.toNat 0 = s.flag Reg.shpHistCtrl 0) :
    exec (.histClear v) s = .next { s with shp := { s.shp with clear := true } } := by
  have one : bits (setBits v.toNat 1 1 1 % 2 ^ 32) 1 1 = 1 := by rw [bits_mod_word _ _ (by omega), bits_setBit_one]
  have freeze : bits (setBits v.toNat 1 1 1 % 2 ^ 32) 0 0 = s.fld Reg.shpHistCtrl 0 0 := by
    rw [bits_mod_word _ _ (by omega), bits_setBits_apart _ _ (.inl (by omega)) (Nat.le_refl 1)]
    rw [bitAt_eq_bits, State.flag_eq_fld] at same
    have low (n : Nat) : bits n 0 0 < 2 := Nat.mod_lt _ (by decide)
    have lowV := low v.toNat
    have lowS := low (s.reg Reg.shpHistCtrl)
    rw [State.fld] at same ⊢
    by_cases set_ : bits v.toNat 0 0 = 1
    · rw [set_, beq_self_eq_true, eq_comm, beq_iff_eq] at same
      omega
    · rw [beq_eq_false_iff_ne.2 set_, eq_comm, beq_eq_false_iff_ne] at same
      omega
  have acted : WAcc.field Reg.shpHistCtrl [] (setBits v.toNat 1 1 1 % 2 ^ 32) ⟨s, false, false⟩ ⟨1, 1, .wo, 0, .plain⟩ =
      ⟨{ s with shp := { s.shp with clear := true } }, false, false⟩ := by
    simp only [WAcc.field, one, if_true, WAcc.act]
    rw [if_neg (by decide)]
  have frozen : WAcc.field Reg.shpHistCtrl [] (setBits v.toNat 1 1 1 % 2 ^ 32) ⟨{ s with shp := { s.shp with clear := true } }, false, false⟩ ⟨0, 0, .rw, 0, .plain⟩ =
      ⟨{ s with shp := { s.shp with clear := true } }, false, false⟩ := WAcc.field_same [] rfl freeze
  have open_ : s.wholeDropped Reg.shpHistCtrl [] = false := by rw [State.wholeDropped, if_neg (by decide), if_neg (by decide)]
  have wrote := shpHistCtrl_plain.regWrite (setBits v.toNat 1 1 1 % 2 ^ 32) open_ (b := _) (by
    rw [List.foldl_cons, acted, List.foldl_cons, frozen, List.foldl_nil])
  exact congrArg Host.Outcome.next ((shpHistCtrl_plain.barWrite _ present run).trans wrote)

/-- A queue without packets counts one empty depth, and no delay. -/
theorem State.histQueue_empty {s : State} {q : Nat} (c : Nat) (empty : (s.port q).queues = List.replicate 8 []) :
    s.histQueue q c = s.count (Reg.shpHDepth q c 0) 1 := by
  have noHead : (s.port q).queues.getD c [] = [] := by rw [empty, replicate_nil_getD]
  have bin : histBin ((s.port q).depthOf c) = 0 := by rw [Port.depthOf, noHead]; rfl
  rw [State.histQueue]
  simp only [noHead, bin]

/-- The histograms' depth counters of bin 0, in the order of a sample. -/
def sampled : List Nat := (List.range 64).flatMap fun q => (List.range 8).map fun c => Reg.shpHDepth q c 0

theorem sampled_nodup : sampled.Nodup := by
  refine List.nodup_flatMap.2 ⟨fun q _ => List.Nodup.map_on (fun c _ d _ e => ?_) List.nodup_range, List.nodup_range.pairwise_of_forall_ne fun q _ r _ ne o inQ inR => ?_⟩
  · unfold Reg.shpHDepth at e
    omega
  · obtain ⟨c, smallC, e⟩ := List.mem_map.1 inQ
    obtain ⟨d, smallD, e'⟩ := List.mem_map.1 inR
    rw [List.mem_range] at smallC smallD
    unfold Reg.shpHDepth at e e'
    omega

theorem mem_sampled {o : Nat} : o ∈ sampled ↔ ∃ q, q < 64 ∧ ∃ c, c < 8 ∧ Reg.shpHDepth q c 0 = o := by
  simp only [sampled, List.mem_flatMap, List.mem_range, List.mem_map]

theorem State.histSample_eq {s : State} (ports : s.lnk.ports = List.replicate 64 Port.reset) :
    (List.range 64).foldl (fun (x : State) q => (List.range 8).foldl (fun (y : State) c => y.histQueue q c) x) s = sampled.foldl (fun x o => x.count o 1) s := by
  have empty (x : State) (same : x.lnk = s.lnk) (q : Nat) : (x.port q).queues = List.replicate 8 [] := by
    rw [State.port, same, ports, List.getD_eq_getElem?_getD, List.getElem?_replicate]
    split <;> rfl
  have inner (q : Nat) (l : List Nat) (x : State) (same : x.lnk = s.lnk) :
      l.foldl (fun (y : State) c => y.histQueue q c) x = (l.map fun c => Reg.shpHDepth q c 0).foldl (fun x o => x.count o 1) x := by
    induction l generalizing x with
    | nil => rfl
    | cons c l ih =>
      rw [List.foldl_cons, List.map_cons, List.foldl_cons, State.histQueue_empty c (empty x same q)]
      exact ih _ same
  have counted (l : List Nat) (x : State) : (l.foldl (fun (x : State) o => x.count o 1) x).lnk = x.lnk := by
    induction l generalizing x with
    | nil => rfl
    | cons o l ih => exact ih _
  have outer (m l : List Nat) (x : State) (same : x.lnk = s.lnk) :
      l.foldl (fun (x : State) q => m.foldl (fun (y : State) c => y.histQueue q c) x) x =
        (l.flatMap fun q => m.map fun c => Reg.shpHDepth q c 0).foldl (fun x o => x.count o 1) x := by
    induction l generalizing x with
    | nil => rfl
    | cons q l ih =>
      rw [List.foldl_cons, List.flatMap_cons, List.foldl_append, inner q m x same]
      exact ih _ ((counted _ _).trans same)
  exact outer (List.range 8) (List.range 64) s rfl

theorem State.foldl_count_reg (l : List Nat) (s : State) (nodup : l.Nodup) (o : Nat) :
    (l.foldl (fun (x : State) k => x.count k 1) s).reg o = if o ∈ l then min 0xFFFFFFFF (s.reg o + 1) else s.reg o := by
  induction l generalizing s with
  | nil => rfl
  | cons k l ih =>
    obtain ⟨fresh, rest⟩ := List.nodup_cons.1 nodup
    rw [List.foldl_cons, ih _ rest]
    by_cases same : o = k
    · rw [same, if_neg fresh, if_pos (by simp), State.reg_count_same]
    · rw [State.count, State.reg_setReg_ne _ _ same]
      simp only [List.mem_cons, same, false_or]

theorem State.foldl_count_only (l : List Nat) (s : State) : s.Only [.bar] (l.foldl (fun (x : State) k => x.count k 1) s) := by
  induction l generalizing s with
  | nil => exact State.Only.refl _ _
  | cons k l ih => exact (s.only_bar_count _ _).trans (ih _)

/-- A cleared histogram reads as after reset, and every other register as before. -/
theorem State.reg_histClear (s : State) (o : Nat) : s.histClear.reg o = if 0x01E10000 ≤ o ∧ o < 0x01E30000 then resetWord o else s.reg o := by
  have found : afind s.histClear.bar.regs o = if (decide (o < 0x01E10000) || decide (0x01E30000 ≤ o)) = true then afind s.bar.regs o else none :=
    afind_filter_key _ (fun k => decide (k < 0x01E10000) || decide (0x01E30000 ≤ k)) _
  rw [State.reg, found]
  by_cases inside : 0x01E10000 ≤ o ∧ o < 0x01E30000
  · rw [if_pos inside, if_neg (by simp; omega)]
  · rw [if_neg inside, if_pos (by simp; omega)]
    rfl

theorem histSample_cleared (s : State) (now : Nat) (thawed : s.flag Reg.shpHistCtrl 0 = false) (clear : s.shp.clear = true)
    (ports : s.lnk.ports = List.replicate 64 Port.reset) :
    ∃ t, exec (.histSample now) s = .next t ∧ t.shp.clear = false ∧
      (∀ q c, q < 64 → c < 8 → t.reg (Reg.shpHDepth q c 0) = 1 ∧ t.reg (Reg.shpHDelay q c 0) = 0) ∧
      (∀ o, o < 0x01E10000 ∨ 0x01E30000 ≤ o → t.reg o = s.reg o) ∧ s.Only [.stk, .shp, .bar] t := by
  let s2 := (s.at_ now).histClear
  have run : exec (.histSample now) s = .next (sampled.foldl (fun x o => x.count o 1) s2) := by
    refine (if_neg (by rw [show (s.at_ now).flag Reg.shpHistCtrl 0 = false from thawed]; decide)).trans (congrArg Host.Outcome.next ?_)
    rw [if_pos (show (s.at_ now).shp.clear = true from clear)]
    exact State.histSample_eq (s := s2) ports
  have counts := State.foldl_count_only sampled s2
  have resets : ∀ q, q < 64 → ∀ c, c < 8 → resetWord (Reg.shpHDepth q c 0) = 0 ∧ resetWord (Reg.shpHDelay q c 0) = 0 := by decide +kernel
  refine ⟨_, run, congrArg Shp.clear counts.shp, fun q c qs cs => ⟨?_, ?_⟩, fun o out => ?_, ?_⟩
  · rw [State.foldl_count_reg _ _ sampled_nodup, if_pos (mem_sampled.2 ⟨q, qs, c, cs, rfl⟩), State.reg_histClear, if_pos (by unfold Reg.shpHDepth; omega),
      (resets q qs c cs).1]
    rfl
  · have other : Reg.shpHDelay q c 0 ∉ sampled := fun mem => by
      obtain ⟨q', _, c', _, e⟩ := mem_sampled.1 mem
      unfold Reg.shpHDepth Reg.shpHDelay at e
      omega
    rw [State.foldl_count_reg _ _ sampled_nodup, if_neg other, State.reg_histClear, if_pos (by unfold Reg.shpHDelay; omega), (resets q qs c cs).2]
  · have other : o ∉ sampled := fun mem => by
      obtain ⟨q', _, c', _, e⟩ := mem_sampled.1 mem
      unfold Reg.shpHDepth at e
      omega
    rw [State.foldl_count_reg _ _ sampled_nodup, if_neg other, State.reg_histClear, if_neg (by omega)]
    rfl
  · have cleared : s.Only [.stk, .shp, .bar] s2 := by simp [State.Only, s2, State.histClear, State.at_]
    exact cleared.trans (counts.mono (by decide))

/-- Settles O43: each row; a sample of empty queues counts in one bin of each queue. -/
theorem gatesAndHistograms : Obligations.GatesAndHistograms :=
  ⟨fun s v present run free _ same some_ fits running => gateBankSwap_waits s v present run free same some_ fits running, gateBankSwap_drops,
    gateBankActivate_changes, gateEntryChange_entry, histClear_waits, fun _ _ frozen => if_pos frozen, histSample_cleared⟩

/-! ### The policers (O44) -/

theorem policerLevelCovers_eq {s : State} (p : Fin 16) (c : Fin 8) (now : Nat) {k : Packet} {rest : List Packet}
    (held : agetD s.shp.held (polKey p.val c.val) [] = k :: rest) : exec (.policerLevelCovers p c now) s =
      if (s.at_ now).covers p.val c.val k.flits then
        .next (({ (s.at_ now).charge p.val c.val k.flits with
          shp := { ((s.at_ now).charge p.val c.val k.flits).shp with
            held := aput ((s.at_ now).charge p.val c.val k.flits).shp.held (polKey p.val c.val) rest } } : State).routeOn none k)
      else .next (s.at_ now) := by
  have run : exec (.policerLevelCovers p c now) s = execPolicerLevelCovers p c now s := rfl
  rw [run, execPolicerLevelCovers]
  simp only [show (s.at_ now).shp = s.shp from rfl, held]

theorem policerLevelCovers_pays (s : State) (p : Fin 16) (c : Fin 8) (now : Nat) (k : Packet) (rest : List Packet)
    (held : agetD s.shp.held (polKey p.val c.val) [] = k :: rest) (covered : (s.at_ now).covers p.val c.val k.flits = true)
    (policed : (s.at_ now).policed p.val c.val = true) :
    ∃ t, exec (.policerLevelCovers p c now) s = .next t ∧ agetD t.shp.held (polKey p.val c.val) [] = rest ∧
      afind t.shp.buckets (polKey p.val c.val) = some { level := (s.at_ now).bucket p.val c.val - 64 * k.flits * 800, at_ := max s.stk.time now } ∧
      64 * k.flits * 800 ≤ (s.at_ now).bucket p.val c.val ∧
      (∀ j, j ≠ polKey p.val c.val → afind t.shp.held j = afind s.shp.held j ∧ afind t.shp.buckets j = afind s.shp.buckets j) ∧
      s.Only [.stk, .shp, .lnk, .bar] t := by
  let paid : Bucket := { level := (s.at_ now).bucket p.val c.val - 64 * k.flits * 800, at_ := max s.stk.time now }
  let s2 : State := { s.at_ now with
    shp := { s.shp with buckets := aput s.shp.buckets (polKey p.val c.val) paid, held := aput s.shp.held (polKey p.val c.val) rest } }
  have charged : (s.at_ now).charge p.val c.val k.flits = { s.at_ now with shp := { s.shp with buckets := aput s.shp.buckets (polKey p.val c.val) paid } } :=
    if_pos policed
  have run := (policerLevelCovers_eq p c now held).trans (if_pos covered)
  rw [charged] at run
  have routed := (s2.keeps_self [.lnk, .bar]).routeOn (by decide) none k |>.only
  have level : 64 * k.flits * 800 ≤ (s.at_ now).bucket p.val c.val := by
    rw [State.covers, policed] at covered
    simp only [Bool.not_true, Bool.false_or, Bool.and_eq_true, decide_eq_true_eq] at covered
    exact covered.2
  refine ⟨s2.routeOn none k, run, ?_, ?_, level, fun j ne => ⟨?_, ?_⟩, ?_⟩
  · rw [routed.shp, agetD_eq_get, afind_aput_same]; rfl
  · rw [routed.shp, afind_aput_same]
  · rw [routed.shp, afind_aput_ne _ _ ne]
  · rw [routed.shp, afind_aput_ne _ _ ne]
  · have step : s.Only [.stk, .shp, .lnk, .bar] s2 := by simp [State.Only, s2, State.at_]
    exact step.trans (routed.mono (by decide))

/-- Settles O44: what one instant does to the head of a held queue. -/
theorem policer : Obligations.Policer :=
  ⟨fun _ p c now _ _ held uncovered => (policerLevelCovers_eq p c now held).trans (if_neg (by rw [uncovered]; decide)), policerLevelCovers_pays⟩

end Sys2Proof.Machine
end

section
/-!
PROOFS. Errors of windows (O46), and rings (O47).
-/
namespace Sys2Proof.Machine

/-! ### Records into rings -/

theorem ringKind_ringKey (fn i : Nat) (k : RingKind) (h : i < 4096) : ringKind (ringKey fn k i) = k := by
  have code : ringKey fn k i / 4096 % 4 = k.code := by cases k <;> simp only [ringKey, RingKind.code] <;> omega
  rw [ringKind, code]
  cases k <;> rfl

theorem State.only_writeRecord (s : State) (key : Nat) (r : Ring) (bytes : List Byte) : s.Only [.cmd, .host, .out] (s.writeRecord key r bytes) :=
  ((s.keeps_self _).writeRecord (sub_self _) key r bytes).only

/-- What a record for one ring leaves of the windows and of the other rings; only a stream's record can be counted as dropped. -/
theorem State.putRecord_others (s : State) (key : Nat) (bytes : List Byte) (kind : ringKind key ≠ .stream) :
    (s.putRecord key bytes).cmd.windows = s.cmd.windows ∧
      (∀ k, k ≠ key → afind (s.putRecord key bytes).cmd.rings k = afind s.cmd.rings k) ∧ s.Only [.cmd, .host, .out] (s.putRecord key bytes) := by
  rw [State.putRecord]
  split
  · exact (if_neg kind).symm ▸ ⟨rfl, fun _ _ => rfl, State.Only.refl _ _⟩
  · next g ring =>
    split
    · obtain ⟨n, rings⟩ := State.writeRecord_rings s key g bytes
      exact ⟨State.writeRecord_windows _ _ _ _, fun k ne => by rw [rings, afind_aput_ne _ _ ne], s.only_writeRecord _ _ _⟩
    · split <;> exact ⟨rfl, fun k ne => afind_aput_ne _ _ ne, by simp [State.Only]⟩

/-- An answer leaves every ring that is not a reply ring. -/
theorem State.answer_otherRings (s : State) (r : ReplyTo) (st : Status) (final : Bool) (bytes : List Byte) {k : Nat} (kind : ringKind k ≠ .reply) :
    afind (s.answer r st final bytes).cmd.rings k = afind s.cmd.rings k := by
  rw [State.answer]
  split
  · next w _ =>
    obtain ⟨-, rings, -⟩ := s.putRecord_others (windowRing w.val) (replyRecord r.opcode st final false r.tag r.consumed s.me bytes)
      (by rw [ringKind_windowRing]; decide)
    exact rings k fun e => kind (by rw [e, ringKind_windowRing])
  · rfl
  · rfl

/-! ### Errors of windows (O46) -/

theorem windowBadLength_stops (s : State) (w : Fin 32) (op : Nat) (tag : Word) (len : Nat) (takes : s.takes w.val = true)
    (bad : badLength (s.window w.val).cons len = true) :
    ∃ t, exec (.windowBadLength w op tag len) s = .next t ∧
      t.window w.val = { s.window w.val with state := .error, errOffset := (s.window w.val).cons, errCode := Status.badLength.code } ∧
      (∀ x, x ≠ w.val → t.window x = s.window x) ∧ s.Only [.cmd, .host, .out] t := by
  let s1 := s.modWindow w.val fun y => { y with state := .error, errOffset := (s.window w.val).cons, errCode := Status.badLength.code }
  obtain ⟨windows, -, only⟩ := s1.putRecord_others (windowRing w.val) (replyRecord op .badLength true false tag (s.window w.val).cons s1.me [])
    (by rw [ringKind_windowRing]; decide)
  refine ⟨_, if_pos (by rw [takes, bad]; rfl), ?_, fun x ne => ?_, ?_⟩
  · exact (State.window_congr windows _).trans (State.window_modWindow_same _ (State.takes_lt takes))
  · exact (State.window_congr windows _).trans (s.window_modWindow_ne _ ne)
  · exact (((s.keeps_self [.cmd]).modWindow (by decide) _ _).only.mono (by decide)).trans only

theorem packetCheckMismatch_releases (s : State) (h : Header) (w : Fin 32) (op : Nat) (g : Ring) (origin : h.origin = .window w)
    (takes : s.takes w.val = true) (length : badLength (s.window w.val).cons h.length = false) (ring : afind s.cmd.rings (windowRing w.val) = some g)
    (room : g.room ((s.window w.val).resv + 1) = true) :
    ∃ t, exec (.packetCheckMismatch h op) s = .next t ∧ t.window w.val = { s.window w.val with cons := nextCons (s.window w.val).cons h.length } ∧
      t.reg Reg.cmdCntCheck = min 0xFFFFFFFF (s.reg Reg.cmdCntCheck + 1) ∧ t.reg Reg.cmdCntTaken = s.reg Reg.cmdCntTaken ∧ s.Only [.stk, .cmd, .bar, .host, .out] t := by
  let s1 := (s.at_ h.now).modWindow w.val fun y => { y with cons := nextCons (s.window w.val).cons h.length }
  let s2 := s1.count Reg.cmdCntCheck 1
  let bytes := replyRecord op .badCheck true false h.tag (nextCons (s.window w.val).cons h.length) (s.at_ h.now).me []
  obtain ⟨windows, -, only⟩ := s2.putRecord_others (windowRing w.val) bytes (by rw [ringKind_windowRing]; decide)
  have run : exec (.packetCheckMismatch h op) s = .next (s2.putRecord (windowRing w.val) bytes) := by
    have unfolded : exec (.packetCheckMismatch h op) s = execPacketCheckMismatch h op s := rfl
    rw [unfolded, execPacketCheckMismatch, origin]
    simp only [show (s.at_ h.now).takes w.val = true from takes, show (s.at_ h.now).window w.val = s.window w.val from rfl, length,
      show (s.at_ h.now).cmd.rings = s.cmd.rings from rfl, ring, room, Bool.not_true, Bool.false_eq_true, if_false]
    rfl
  have counted (o : Nat) : (s2.putRecord (windowRing w.val) bytes).reg o = s2.reg o := by rw [State.reg, State.reg, only.bar]
  refine ⟨_, run, ?_, ?_, ?_, ?_⟩
  · exact (State.window_congr windows _).trans (State.window_modWindow_same (s := s.at_ h.now) _ (State.takes_lt takes))
  · rw [counted]; exact State.reg_count_same _ _ _
  · rw [counted]; exact State.reg_setReg_ne _ _ (by decide)
  · exact ((((s.keeps_self _).at_ (by decide) _).modWindow (by decide) _ _).count (by decide) _ _).only.trans (only.mono (by decide))

theorem undefinedOpcode_answered (s s1 : State) (h : Header) (r : ReplyTo) (op : Nat) (unknown : opcodeKnown op = false)
    (took : s.take h op 1 false = (s1, some r)) (l3 : s.blt.l3 = false) (running : s.sec.run ≠ .stopped) :
    exec (.undefinedOpcode h op) s = .next (s1.done r .badOpcode) := by
  have only : s.Only [.stk, .bar, .cmd, .host, .out] (s.take h op 1 false).1 := ((s.keeps_self _).take (by decide) h op 1 false).only
  replace only : s.Only [.stk, .bar, .cmd, .host, .out] s1 := by rw [took] at only; exact only
  have unfolded : exec (.undefinedOpcode h op) s = execUndefinedOpcode h op s := rfl
  rw [unfolded, execUndefinedOpcode, unknown, took]
  simp only [only.blt, only.sec, l3, running, Bool.false_eq_true, if_false]

/-- A window that is in ERROR, enabled again from offset 0. -/
def Window.restarted (x : Window) : Window := { x with state := .enabled, cons := 0, errOffset := 0, errCode := 0 }

theorem modify_congr_getD {α : Type} (l : List α) (i : Nat) (d : α) (f g : α → α) (same : f (l.getD i d) = g (l.getD i d)) : l.modify i f = l.modify i g := by
  refine List.ext_getElem? fun j => ?_
  rw [List.getElem?_modify, List.getElem?_modify]
  by_cases here : i = j
  · subst here
    cases found : l[i]? with
    | none => rfl
    | some x =>
      rw [List.getD_eq_getElem?_getD, found, Option.getD_some] at same
      simp only [if_true, Option.map_eq_map, Option.map_some, same]
  · simp only [if_neg here]

def cmdWReg : RegDef := ⟨Reg.cmdW 0, [(32, 4)], false, false, [⟨31, 31, .wo, 0, .plain⟩, ⟨25, 24, .ro, 0, .plain⟩, ⟨23, 0, .ro, 0, .plain⟩]⟩

theorem cmdW_plain (w : Fin 32) : PlainReg (Reg.cmdW w.val) cmdWReg [w.val] := by
  have all : ∀ w : Fin 32, plainRegCheck (Reg.cmdW w.val) cmdWReg [w.val] = true := by decide +kernel
  exact plainReg_of_check (all w)

theorem windowReset_register (s : State) (w : Fin 32) (v : Word) (present : s.present = true) (run : s.sec.run ≠ .recovery)
    (error : (s.window w.val).state = .error) :
    exec (.windowReset w true v) s = .next (s.modWindow w.val Window.restarted) := by
  have plain := cmdW_plain w
  have bound := w.isLt
  have one : bits (setBits v.toNat 31 31 1 % 2 ^ 32) 31 31 = 1 := by rw [bits_mod_word _ _ (by omega), bits_setBit_one]
  have restarts : (s.modWindow w.val fun x => if x.state = .error then { x with state := .enabled, cons := 0, errOffset := 0, errCode := 0 } else x) =
      s.modWindow w.val Window.restarted := by
    have windows : s.cmd.windows.modify w.val (fun x => if x.state = .error then x.restarted else x) = s.cmd.windows.modify w.val Window.restarted :=
      modify_congr_getD _ _ Window.reset _ _ (if_pos error)
    exact congrArg (fun l => { s with cmd := { s.cmd with windows := l } }) windows
  have acted : WAcc.field (Reg.cmdW w.val) [w.val] (setBits v.toNat 31 31 1 % 2 ^ 32) ⟨s, false, false⟩ ⟨31, 31, .wo, 0, .plain⟩ =
      ⟨s.modWindow w.val Window.restarted, false, false⟩ := by
    simp only [WAcc.field, one, if_true, WAcc.act]
    rw [if_neg (by unfold Reg.cmdW Reg.shpCtrl; omega), if_neg (by unfold Reg.cmdW Reg.shpHistCtrl; omega), List.headD_cons, restarts]
  have read (b : WAcc) (hi lo : Nat) : WAcc.field (Reg.cmdW w.val) [w.val] (setBits v.toNat 31 31 1 % 2 ^ 32) b ⟨hi, lo, .ro, 0, .plain⟩ = b := rfl
  have open_ : s.wholeDropped (Reg.cmdW w.val) [w.val] = false := by
    rw [State.wholeDropped, if_neg plain.id, if_neg (by unfold Reg.cmdW Reg.plnPCfg Reg.plnPC0; simp only [List.headD_cons]; omega)]
  have wrote := plain.regWrite (setBits v.toNat 31 31 1 % 2 ^ 32) open_ (b := _) (by
    rw [cmdWReg, List.foldl_cons, acted, List.foldl_cons, read, List.foldl_cons, read, List.foldl_nil])
  exact congrArg Host.Outcome.next ((plain.barWrite _ present run).trans wrote)

/-- Settles O46: what stops a window, what a bad CHECK releases, and what a reset restarts. -/
theorem windowErrors : Obligations.WindowErrors :=
  ⟨fun s w op tag len takes bad _ => windowBadLength_stops s w op tag len takes bad, packetCheckMismatch_releases, undefinedOpcode_answered,
    fun _ _ error => if_pos ⟨rfl, error⟩,
    fun _ _ _ other => if_neg fun h => other.elim (fun e => e h.2) fun e => e h.1, windowReset_register⟩

/-! ### Rings (O47) -/

theorem createsOwn_event (o : Origin) : createsOwn o 1 0 = false := by cases o <;> rfl

theorem ringCreate_begins (s s1 : State) (h : Header) (r : ReplyTo) (entries : Nat) (base ctrl : BitVec 64) (rsv : Nat)
    (hs : s.Serves ⟨0x0002, 1, true, false, 32, rsv, 0, true⟩ h false r s1) (size : isPow2 64 65536 entries = true) (page : base.toNat % 4096 = 0)
    (line : ctrl.toNat % 64 = 0) (fresh : afind s1.cmd.rings (ringKey h.origin.fnOf .event 0) = none) :
    ∃ t, exec (.ringCreate h 1 0 0 entries base ctrl 0xFFFF 1 0 rsv) s = .next t ∧
      afind t.cmd.rings (ringKey h.origin.fnOf .event 0) =
        some { entries := entries, base := base.toNat, ctrl := ctrl.toNat, vector := 0xFFFF, intRecords := 1, intDelay := 0, prod := 0, cons := 0, unsignalled := 0, backlog := [], lost := 0, seq := 0 } ∧
      t.sat = s.sat ∧ t.pln = s.pln ∧ t.blt = s.blt ∧ t.memory = s.memory := by
  let key := ringKey h.origin.fnOf .event 0
  let s2 : State := { s1 with cmd := { s1.cmd with rings := aput s1.cmd.rings key (Ring.new entries base.toNat ctrl.toNat 0xFFFF 1 0) } }
  have served : s.Serves ⟨0x0002, 1, true, false, 32, rsv, 0, true⟩ h (createsOwn h.origin 1 0) r s1 := by rw [createsOwn_event]; exact hs
  have large : 1 ≤ entries := by
    rw [isPow2] at size
    simp at size
    omega
  have run : exec (.ringCreate h 1 0 0 entries base ctrl 0xFFFF 1 0 rsv) s = .next (s2.done r .ok) := by
    refine congrArg Host.Outcome.next ((State.serve_of_serves served _).trans ?_)
    have named : ringNamed h.origin.fnOf 1 0 0 = some key := rfl
    simp only [named]
    refine (if_neg ?_).trans (if_neg (by simp))
    rw [size, fresh]
    simp [page, line]
    omega
  have only : s.Only [.bar, .stk, .cmd, .host, .out] (s2.done r .ok) := by
    have put : s1.Only [.bar, .stk, .cmd, .host, .out] s2 := by simp [State.Only, s2]
    exact (hs.only.mono (by decide)).trans (put.trans ((s2.done_only r .ok).mono (by decide)))
  refine ⟨_, run, ?_, only.sat, only.pln, only.blt, only.memory⟩
  rw [State.done, State.answer_otherRings _ _ _ _ _ (by rw [ringKind_ringKey _ _ _ (by omega)]; decide)]
  exact afind_aput_same _ _ _

theorem State.destroyRing_gone (s : State) (key : Nat) : afind (s.destroyRing key).cmd.rings key = none := by
  rw [State.destroyRing]
  split
  · next none_ => exact none_
  · dsimp only
    split <;> exact afind_adel_same _ _

theorem ringDestroy_eq {s s1 : State} {h : Header} {r : ReplyTo} {index rsv : Nat} (hs : s.Serves ⟨0x0003, 1, true, false, 4, rsv, 0, true⟩ h false r s1)
    (small : index < 4096) : exec (.ringDestroy h 2 index rsv) s =
      .next (if (afind s1.cmd.rings (ringKey h.origin.fnOf .stream index)).isNone then s1.done r .alreadyDone
        else (s1.destroyRing (ringKey h.origin.fnOf .stream index)).done r .ok) := by
  refine congrArg Host.Outcome.next ((State.serve_of_serves hs _).trans ?_)
  have named : ringNamed h.origin.fnOf 2 0 index = some (ringKey h.origin.fnOf .stream index) := by rw [ringNamed, if_pos ⟨small, rfl⟩]
  simp only [show ¬((2 : Nat) = 0) by decide, false_and, if_false, named]

theorem ringDestroy_ends (s s1 : State) (h : Header) (r : ReplyTo) (index rsv : Nat) (hs : s.Serves ⟨0x0003, 1, true, false, 4, rsv, 0, true⟩ h false r s1)
    (small : index < 4096) (there : (afind s1.cmd.rings (ringKey h.origin.fnOf .stream index)).isSome = true) :
    ∃ t, exec (.ringDestroy h 2 index rsv) s = .next t ∧ afind t.cmd.rings (ringKey h.origin.fnOf .stream index) = none ∧ t.sat = s.sat ∧ t.pln = s.pln ∧ t.blt = s.blt := by
  let s2 := s1.destroyRing (ringKey h.origin.fnOf .stream index)
  have run := (ringDestroy_eq hs small).trans (congrArg Host.Outcome.next (if_neg (by rw [Option.isNone_iff_eq_none]; exact Option.isSome_iff_ne_none.1 there)))
  have destroyed := ((s1.keeps_self _).destroyRing (sub_self _) (ringKey h.origin.fnOf .stream index)).only
  have only : s.Only [.bar, .stk, .cmd, .host, .out] (s2.done r .ok) :=
    (hs.only.mono (by decide)).trans ((destroyed.mono (by decide)).trans ((s2.done_only r .ok).mono (by decide)))
  refine ⟨_, run, ?_, only.sat, only.pln, only.blt⟩
  rw [State.done, State.answer_otherRings _ _ _ _ _ (by rw [ringKind_ringKey _ _ _ small]; decide)]
  exact State.destroyRing_gone _ _

theorem State.overflow_none {s : State} {key : Nat} {g : Ring} (ring : afind s.cmd.rings key = some g) (lost : g.lost = 0) : s.overflow key = s := by
  rw [State.overflow, ring]
  exact if_pos (Or.inl lost)

theorem ringSpacePoll_serves (s : State) (fn : Fin 17) (i : Fin 4096) (cons : BitVec 32) (g : Ring) (rec_ : List Byte)
    (ring : afind s.cmd.rings (ringKey fn.val .reply i.val) = some g) (waits : g.backlog = [rec_]) (lost : g.lost = 0)
    (room : (g.prod - cons).toNat < g.entries) (idle : (s.fn fn.val).draining = false) :
    ∃ t, exec (.ringSpacePoll fn .reply i cons) s = .next t ∧
      (∃ g2, afind t.cmd.rings (ringKey fn.val .reply i.val) = some g2 ∧ g2.cons = cons ∧ g2.prod = g.prod + 1 ∧ g2.backlog = []) ∧
      (∀ k, k ≠ ringKey fn.val .reply i.val → afind t.cmd.rings k = afind s.cmd.rings k) ∧ s.Only [.cmd, .host, .out] t := by
  let key := ringKey fn.val .reply i.val
  let s1 : State := { s with cmd := { s.cmd with rings := aput s.cmd.rings key { g with cons := cons } } }
  let g1 : Ring := { g with cons := cons, backlog := [] }
  let t := s1.writeRecord key g1 rec_
  have ring1 : afind s1.cmd.rings key = some { g with cons := cons } := afind_aput_same _ _ _
  have drained : s1.drainRing key g.backlog.length = t := by
    rw [waits, List.length_singleton, State.drainRing, ring1]
    simp only [waits]
    rw [if_pos ⟨room, by rw [show s1.fn = s.fn from rfl, ringFn_ringKey _ _ _ i.isLt]; exact idle⟩]
    rfl
  obtain ⟨n, rings⟩ := s1.writeRecord_rings key g1 rec_
  have here : afind t.cmd.rings key = some { g1 with prod := g.prod + 1, unsignalled := n } := by rw [rings]; exact afind_aput_same _ _ _
  have run : exec (.ringSpacePoll fn .reply i cons) s = .next t := by
    have unfolded : exec (.ringSpacePoll fn .reply i cons) s = execRingSpacePoll fn .reply i cons s := rfl
    rw [unfolded, execRingSpacePoll]
    simp only [ring]
    exact congrArg Host.Outcome.next ((congrArg (State.overflow · key) drained).trans (State.overflow_none here lost))
  refine ⟨t, run, ⟨_, here, rfl, rfl, rfl⟩, fun k ne => ?_, ?_⟩
  · rw [rings, afind_aput_ne _ _ ne]
    exact afind_aput_ne _ _ ne
  · have put : s.Only [.cmd, .host, .out] s1 := by simp [State.Only, s1]
    exact put.trans (s1.only_writeRecord _ _ _)

theorem ringSpacePoll_reads (s : State) (fn : Fin 17) (k : RingKind) (i : Fin 4096) (cons : BitVec 32) (g : Ring)
    (ring : afind s.cmd.rings (ringKey fn.val k i.val) = some g) (empty : g.backlog = []) (lost : g.lost = 0) :
    exec (.ringSpacePoll fn k i cons) s = .next { s with cmd := { s.cmd with rings := aput s.cmd.rings (ringKey fn.val k i.val) { g with cons := cons } } } := by
  have unfolded : exec (.ringSpacePoll fn k i cons) s = execRingSpacePoll fn k i cons s := rfl
  rw [unfolded, execRingSpacePoll]
  simp only [ring, empty, List.length_nil, State.drainRing]
  exact congrArg Host.Outcome.next (State.overflow_none (afind_aput_same _ _ _) lost)

theorem State.msix_emits {s : State} {fn vector : Nat} (used : vector < 2048) (open_ : afind s.host.masked (fn * 2048 + vector) = none) :
    s.msix fn vector = s.emit (.msix fn vector) := by
  rw [State.msix, if_neg (by omega), open_]
  exact if_neg (by decide)

theorem msixDelayExpiry_signals (s : State) (fn : Fin 17) (k : RingKind) (i : Fin 4096) (g : Ring)
    (ring : afind s.cmd.rings (ringKey fn.val k i.val) = some g) (some_ : g.unsignalled ≠ 0) (used : g.vector < 2048)
    (open_ : afind s.host.masked (fn.val * 2048 + g.vector) = none) :
    ∃ t, exec (.msixDelayExpiry fn k i) s = .next t ∧ t.out = s.out ++ [.msix fn.val g.vector] ∧
      afind t.cmd.rings (ringKey fn.val k i.val) = some { g with unsignalled := 0 } ∧ s.Only [.cmd, .out] t := by
  let s1 : State := { s with cmd := { s.cmd with rings := aput s.cmd.rings (ringKey fn.val k i.val) { g with unsignalled := 0 } } }
  have run : exec (.msixDelayExpiry fn k i) s = .next (s1.emit (.msix fn.val g.vector)) := by
    have unfolded : exec (.msixDelayExpiry fn k i) s = execMsixDelayExpiry fn k i s := rfl
    rw [unfolded, execMsixDelayExpiry]
    simp only [ring, some_, if_false]
    exact congrArg Host.Outcome.next (State.msix_emits (s := s1) used open_)
  exact ⟨_, run, rfl, afind_aput_same _ _ _, by simp [State.Only, State.emit, s1]⟩

/-- Settles O47: creation and destruction of rings, and what waits for them. -/
theorem ringsCreatedAndServed : Obligations.RingsCreatedAndServed :=
  ⟨ringCreate_begins, ringDestroy_ends,
    fun _ _ _ _ _ _ hs small gone => (ringDestroy_eq hs small).trans (congrArg Host.Outcome.next (if_pos (by rw [gone]; rfl))),
    ringSpacePoll_serves, ringSpacePoll_reads, msixDelayExpiry_signals⟩

end Sys2Proof.Machine
end

section
/-!
PROOFS. The blotter: filing (O49), escalation and merging (O50).
-/
namespace Sys2Proof.Machine

/-! ### Filing a record -/

theorem State.event_only (s : State) (fn kind : Nat) (st : Status) (part : Nat) (body : List Byte) : s.Only [.cmd, .host, .out] (s.event fn kind st part body) := by
  rw [State.event, State.eventAt]
  dsimp only
  split
  · exact State.Only.refl _ _
  · next g _ =>
    let s1 : State := { s with cmd := { s.cmd with rings := aput s.cmd.rings (ringKey fn .event 0) { g with seq := g.seq + 1 } } }
    obtain ⟨-, -, only⟩ := s1.putRecord_others (ringKey fn .event 0) (eventRecord kind st part g.seq s.strokeNow s1.me body)
      (by rw [ringKind_ringKey _ _ _ (by omega)]; decide)
    have put : s.Only [.cmd, .host, .out] s1 := by simp [State.Only, s1]
    exact put.trans only

/-- A published record goes to the log; of the rest only the rings, host memory and the outputs change. -/
theorem State.publish_logs (s : State) (f : Filed) (part : Option (Fin 16)) :
    (s.publish f part).blt = { s.blt with log := aput s.blt.log (f.seq.toNat % 1024) (f.msg.word f.level f.msg.fault.addr.toNat) } ∧
      s.Only [.blt, .cmd, .host, .out] (s.publish f part) := by
  let s1 : State := { s with blt := { s.blt with log := aput s.blt.log (f.seq.toNat % 1024) (f.msg.word f.level f.msg.fault.addr.toNat) } }
  have logged : s1.Only [.cmd, .host, .out] (s.publish f part) := by
    have told (t : State) (only : s1.Only [.cmd, .host, .out] t) (b : List Byte) :
        s1.Only [.cmd, .host, .out] (if 2 ≤ f.level.val then t.emit (.bmc b) else t) := by
      split
      · exact only.trans ((State.only_emit _ _).mono (by decide))
      · exact only
    cases part with
    | none => exact told _ (s1.event_only _ _ _ _ _) _
    | some q =>
      refine told _ ?_ _
      split
      · exact (s1.event_only _ _ _ _ _).trans (State.event_only _ _ _ _ _ _)
      · exact s1.event_only _ _ _ _ _
  refine ⟨logged.blt, ?_⟩
  have put : s.Only [.blt, .cmd, .host, .out] s1 := by simp [State.Only, s1]
  exact put.trans (logged.mono (by decide))

/-- What a record of a level makes of the state, before the reaction to level 3. -/
structure State.Recorded (s : State) (m : Msg) (level : Fin 4) (escalated : Bool) (t : State) : Prop where
  seq : t.blt.seq = s.blt.seq + 1
  log : t.blt.log = aput s.blt.log ((s.blt.seq + 1).toNat % 1024) (m.word level m.fault.addr.toNat)
  entries : t.blt.entries = s.blt.entries
  outbox : t.blt.outbox = s.blt.outbox
  l3 : t.blt.l3 = s.blt.l3
  unack : level.val < 2 → t.blt.unack = s.blt.unack
  counted : t.reg (Reg.bltCntL level.val) = min 0xFFFFFFFF (s.reg (Reg.bltCntL level.val) + 1)
  escalates : escalated = true → t.reg Reg.bltCntEsc = min 0xFFFFFFFF (s.reg Reg.bltCntEsc + 1)
  pin : level = 3 → t.flag Reg.bltFaultn 0 = true ∧ t.blt.pulse = true
  only : s.Only [.bar, .cmd, .blt, .host, .out] t

/-- An entry after a record of it. -/
def BltEntry.recorded (e : BltEntry) (escalated : Bool) (seq : BitVec 32) (stroke : Nat) : BltEntry :=
  { e with escalated := escalated, merged := 0, unacked := e.unacked ++ [seq], lastSeq := seq, lastStroke := stroke }

theorem State.faultN_only (s : State) : s.Only [.bar, .blt] s.faultN := by simp [State.Only, State.faultN, State.setFld, State.setReg]

/-- A record that the table of unacknowledged records has room for. -/
theorem State.record_recorded (s : State) (m : Msg) (e : BltEntry) (level : Fin 4) (escalated : Bool) (room : level.val < 2 ∨ s.blt.unack.length < 4096) :
    ∃ t, s.Recorded m level escalated t ∧
      s.record m e level escalated = (if level = 3 then t.level3 else t, e.recorded escalated (s.blt.seq + 1) s.strokeNow) := by
  have full : (decide (2 ≤ level.val) && decide (4096 ≤ s.blt.unack.length)) = false := by
    rw [Bool.and_eq_false_iff, decide_eq_false_iff_not, decide_eq_false_iff_not]
    omega
  let r := s.resolve m.fault.tag
  let f : Filed := { msg := m, level := level, escalated := escalated, seq := s.blt.seq + 1, merged := e.merged, satchel := r.1, stroke := s.strokeNow,
                     tenant := r.2.1, prevSeq := e.lastSeq, part := r.2.2.getD 0 }
  let u : Unacked := { seq := s.blt.seq + 1, level := level, scope := scopeOf r.2.2 }
  let low := s.blt.low.filter fun x => x.seq.toNat % 1024 != (s.blt.seq + 1).toNat % 1024
  let s1 : State := { s with blt := { s.blt with
    seq := s.blt.seq + 1, unack := if 2 ≤ level.val then s.blt.unack ++ [u] else s.blt.unack, low := if level.val < 2 then low ++ [u] else low } }
  let s1c := s1.count (Reg.bltCntL level.val) 1
  let s2 := s1c.publish f r.2.2
  let s3 := if escalated then s2.count Reg.bltCntEsc 1 else s2
  let s4 := if level = 3 ∨ (level = 2 ∧ s.flag Reg.bltCtrl 0) then s3.faultN else s3
  obtain ⟨log, published⟩ := s1c.publish_logs f r.2.2
  have blt3 : s3.blt = s2.blt := by simp only [s3]; split <;> rfl
  have reg2 (o : Nat) : s2.reg o = s1c.reg o := by rw [State.reg, State.reg, published.bar]
  have reg3 {o : Nat} (ne : o ≠ Reg.bltCntEsc) : s3.reg o = s1c.reg o := by
    rw [← reg2]
    simp only [s3]
    split
    · exact State.reg_setReg_ne _ _ ne
    · rfl
  have blt4 : ∃ pulse, s4.blt = { s3.blt with pulse := pulse } ∧ (level = 3 → pulse = true) := by
    simp only [s4]
    split
    · exact ⟨true, rfl, fun _ => rfl⟩
    · next other => exact ⟨s3.blt.pulse, rfl, fun three => absurd (Or.inl three) other⟩
  have reg4 {o : Nat} (ne : o ≠ Reg.bltFaultn) : s4.reg o = s3.reg o := by
    simp only [s4]
    split
    · exact State.reg_setReg_ne _ _ ne
    · rfl
  obtain ⟨pulse, blt4, driven⟩ := blt4
  have levelCounter : Reg.bltCntL level.val ≠ Reg.bltCntEsc ∧ Reg.bltCntL level.val ≠ Reg.bltFaultn := by
    have small := level.isLt
    unfold Reg.bltCntL Reg.bltCntEsc Reg.bltFaultn
    omega
  have only3 : s2.Only [.bar] s3 := by
    simp only [s3]
    split
    · exact State.only_bar_count _ _ _
    · exact State.Only.refl _ _
  have only4 : s3.Only [.bar, .blt] s4 := by
    simp only [s4]
    split
    · exact s3.faultN_only
    · exact State.Only.refl _ _
  refine ⟨s4, ⟨?_, ?_, ?_, ?_, ?_, fun small => ?_, ?_, fun esc => ?_, fun three => ⟨?_, ?_⟩, ?_⟩, ?_⟩
  · rw [blt4, blt3, log]; rfl
  · rw [blt4, blt3, log]; rfl
  · rw [blt4, blt3, log]; rfl
  · rw [blt4, blt3, log]; rfl
  · rw [blt4, blt3, log]; rfl
  · rw [blt4, blt3, log]
    exact if_neg (by omega)
  · rw [reg4 levelCounter.2, reg3 levelCounter.1]
    exact State.reg_count_same s1 _ _
  · have counts : s3 = s2.count Reg.bltCntEsc 1 := if_pos esc
    rw [reg4 (by decide), counts, State.reg_count_same, reg2]
    exact congrArg (fun n => min 0xFFFFFFFF (n + 1)) (State.reg_setReg_ne s1 _ levelCounter.1.symm)
  · have drives : s4 = s3.faultN := if_pos (Or.inl three)
    rw [drives]
    exact State.flag_enabled s3 _
  · rw [blt4]
    exact driven three
  · have put : s.Only [.bar, .cmd, .blt, .host, .out] s1 := by simp [State.Only, s1]
    exact put.trans (((State.only_bar_count _ _ _).mono (by decide)).trans ((published.mono (by decide)).trans ((only3.mono (by decide)).trans (only4.mono (by decide)))))
  · rw [State.record]
    simp only [full, Bool.false_eq_true, if_false, Bool.or_false, not_false_eq_true, and_true]
    rfl

/-! ### BLOTTER_MESSAGE -/

/-- The state with a message of its only source in turn, taken. -/
def State.taken (s : State) (f : FaultSpec) : State :=
  { s with blt := { s.blt with outbox := adel (aput s.blt.outbox f.source.toNat [{ fault := f, time := s.faultTime }]) f.source.toNat } }

theorem blotterMessage_files {s : State} {f : FaultSpec} (listed : sourceListed f.source.toNat = true) (idle : agetD s.blt.outbox f.source.toNat [] = []) :
    f.judged = f ∧ exec (.blotterMessage f.source (some f)) s = .next ((s.taken f).file { fault := f, time := s.faultTime }) := by
  have judged : f.judged = f := if_pos listed
  have posted : s.post f = { s with blt := { s.blt with outbox := aput s.blt.outbox f.source.toNat [{ fault := f, time := s.faultTime }] } } := by
    rw [State.post, idle]
    exact if_neg fun h => absurd h.2 (by decide)
  have unfolded : exec (.blotterMessage f.source (some f)) s = execBlotterMessage f.source (some f) s := rfl
  have next : agetD (aput s.blt.outbox f.source.toNat [({ fault := f, time := s.faultTime } : Msg)]) f.source.toNat [] = [{ fault := f, time := s.faultTime }] := by
    rw [agetD_eq_get, afind_aput_same]
    rfl
  refine ⟨judged, ?_⟩
  rw [unfolded, execBlotterMessage]
  simp only [posted, next, List.isEmpty_nil, if_true]
  rfl

theorem State.taken_outbox (s : State) (f : FaultSpec) : agetD (s.taken f).blt.outbox f.source.toNat [] = [] := by
  have gone : afind (s.taken f).blt.outbox f.source.toNat = none := afind_adel_same _ _
  rw [agetD_eq_get, gone]
  rfl

/-- The entry that a first message opens, before its record. -/
def FaultSpec.entry (f : FaultSpec) : BltEntry :=
  { source := f.source, kind := f.kind, level := f.level, escalated := false, merged := 0, unacked := [], lastSeq := 0xFFFFFFFF, lastStroke := 0 }

theorem State.find_entry_none {l : List BltEntry} {f : FaultSpec} (fresh : ∀ e ∈ l, ¬ (e.source = f.source ∧ e.kind = f.kind ∧ e.level = f.level)) :
    l.find? (fun e => e.source == f.source && e.kind == f.kind && e.level == f.level) = none := by
  rw [List.find?_eq_none]
  intro e mem same
  rw [Bool.and_eq_true, Bool.and_eq_true, beq_iff_eq, beq_iff_eq, beq_iff_eq] at same
  exact fresh e mem ⟨same.1.1, same.1.2, same.2⟩

/-- The open entries, less the one that a new one takes the place of. -/
def State.entryRoom (s : State) : List BltEntry :=
  if 256 ≤ s.blt.entries.length then
    match oldestEntry s.blt.seq s.blt.entries with
    | some e => s.blt.entries.erase e
    | none => s.blt.entries
  else s.blt.entries

/-- A first message: its entry is the last of those that there is room for. -/
theorem State.file_first {s : State} {f : FaultSpec} (time : BitVec 20) (judged : f.judged = f)
    (fresh : ∀ e ∈ s.blt.entries, ¬ (e.source = f.source ∧ e.kind = f.kind ∧ e.level = f.level)) :
    s.file { fault := f, time := time } =
      { (s.record { fault := f, time := time } f.entry f.level false).1 with
        blt := { (s.record { fault := f, time := time } f.entry f.level false).1.blt with
          entries := s.entryRoom ++ [(s.record { fault := f, time := time } f.entry f.level false).2] } } := by
  rw [State.file]
  simp only [judged, State.find_entry_none fresh]
  rfl

theorem blotterFiles_first (s : State) (f : FaultSpec) (listed : sourceListed f.source.toNat = true) (idle : agetD s.blt.outbox f.source.toNat [] = [])
    (small : f.level.val < 2) (fresh : ∀ e ∈ s.blt.entries, ¬ (e.source = f.source ∧ e.kind = f.kind ∧ e.level = f.level))
    (few : s.blt.entries.length < 256) :
    ∃ t, exec (.blotterMessage f.source (some f)) s = .next t ∧
      t.blt.seq = s.blt.seq + 1 ∧
      afind t.blt.log ((s.blt.seq + 1).toNat % 1024) =
        some (Msg.word { fault := f, time := s.faultTime } f.level f.addr.toNat) ∧
      (∃ e, t.blt.entries = s.blt.entries ++ [e] ∧ e.source = f.source ∧ e.kind = f.kind ∧ e.level = f.level ∧
        e.escalated = false ∧ e.merged = 0 ∧ e.unacked = [s.blt.seq + 1] ∧ e.lastStroke = s.strokeNow) ∧
      t.reg (Reg.bltCntL f.level.val) = min 0xFFFFFFFF (s.reg (Reg.bltCntL f.level.val) + 1) ∧
      t.blt.unack = s.blt.unack ∧ t.blt.l3 = s.blt.l3 ∧ agetD t.blt.outbox f.source.toNat [] = [] ∧
      t.sat = s.sat ∧ t.kva = s.kva ∧ t.cores = s.cores ∧ t.pln = s.pln ∧ t.memory = s.memory ∧ t.fls = s.fls ∧ t.lnk = s.lnk ∧
      t.xpt = s.xpt ∧ t.shp = s.shp ∧ t.sec = s.sec ∧ t.pwr = s.pwr ∧ t.stk = s.stk := by
  obtain ⟨judged, run⟩ := blotterMessage_files listed idle
  have filed := State.file_first (s := s.taken f) s.faultTime judged fresh
  obtain ⟨t, rec_, recorded⟩ := (s.taken f).record_recorded { fault := f, time := s.faultTime } f.entry f.level false (Or.inl small)
  rw [recorded, if_neg (fun three => by rw [three] at small; exact absurd small (by decide))] at filed
  have room : (s.taken f).entryRoom = s.blt.entries := if_neg (Nat.not_le.2 few)
  rw [filed, room] at run
  have only := rec_.only
  refine ⟨_, run, rec_.seq, ?_, ⟨_, rfl, rfl, rfl, rfl, rfl, rfl, rfl, rfl⟩, rec_.counted, rec_.unack small, rec_.l3, ?_, only.sat, only.kva, only.cores,
    only.pln, only.memory, only.fls, only.lnk, only.xpt, only.shp, only.sec, only.pwr, only.stk⟩
  · exact (congrArg (afind · ((s.blt.seq + 1).toNat % 1024)) rec_.log).trans (afind_aput_same _ _ _)
  · exact (congrArg (agetD · f.source.toNat []) rec_.outbox).trans (s.taken_outbox f)

/-- Settles O49: a first message's record and its entry. -/
theorem blotterFiles : Obligations.BlotterFiles := blotterFiles_first

/-! ### Repeats (O50) -/

theorem blotterMessage_escalates (s : State) (f : FaultSpec) (e : BltEntry) (listed : sourceListed f.source.toNat = true)
    (idle : agetD s.blt.outbox f.source.toNat [] = [])
    (found : s.blt.entries.find? (fun x => x.source == f.source && x.kind == f.kind && x.level == f.level) = some e) (fresh : e.escalated = false)
    (low : f.level = 0) :
    ∃ t, exec (.blotterMessage f.source (some f)) s = .next t ∧ t.blt.seq = s.blt.seq + 1 ∧
      afind t.blt.log ((s.blt.seq + 1).toNat % 1024) = some (Msg.word { fault := f, time := s.faultTime } 1 f.addr.toNat) ∧
      t.reg (Reg.bltCntL 1) = min 0xFFFFFFFF (s.reg (Reg.bltCntL 1) + 1) ∧
      t.reg Reg.bltCntEsc = min 0xFFFFFFFF (s.reg Reg.bltCntEsc + 1) ∧ t.blt.entries.length = s.blt.entries.length := by
  obtain ⟨judged, run⟩ := blotterMessage_files listed idle
  obtain ⟨t, rec_, recorded⟩ := (s.taken f).record_recorded { fault := f, time := s.faultTime } e 1 true (Or.inl (by decide))
  have filed : (s.taken f).file { fault := f, time := s.faultTime } = { t with blt := { t.blt with
      entries := t.blt.entries.map fun x => if x = e then e.recorded true (s.blt.seq + 1) s.strokeNow else x } } := by
    rw [State.file]
    simp only [judged]
    rw [show (s.taken f).blt.entries = s.blt.entries from rfl, found]
    simp only [fresh, low, recorded]
    rfl
  rw [filed] at run
  refine ⟨_, run, rec_.seq, ?_, rec_.counted, rec_.escalates rfl, ?_⟩
  · exact (congrArg (afind · ((s.blt.seq + 1).toNat % 1024)) rec_.log).trans (afind_aput_same _ _ _)
  · exact (List.length_map _).trans (congrArg List.length rec_.entries)

theorem blotterMessage_merges (s : State) (f : FaultSpec) (e : BltEntry) (listed : sourceListed f.source.toNat = true)
    (idle : agetD s.blt.outbox f.source.toNat [] = [])
    (found : s.blt.entries.find? (fun x => x.source == f.source && x.kind == f.kind && x.level == f.level) = some e) (before : e.escalated = true) :
    ∃ t, exec (.blotterMessage f.source (some f)) s = .next t ∧ t.blt.seq = s.blt.seq ∧ t.blt.log = s.blt.log ∧
      t.blt.entries = s.blt.entries.map (fun x => if x = e then { x with merged := x.merged + 1 } else x) ∧
      t.reg Reg.bltCntMerged = min 0xFFFFFFFF (s.reg Reg.bltCntMerged + 1) ∧ t.cmd = s.cmd ∧ t.host = s.host ∧ t.out = s.out ∧ t.sat = s.sat ∧
      t.pln = s.pln ∧ t.memory = s.memory ∧ t.lnk = s.lnk ∧ t.sec = s.sec := by
  obtain ⟨judged, run⟩ := blotterMessage_files listed idle
  let s1 : State := { s.taken f with blt := { (s.taken f).blt with
    entries := s.blt.entries.map fun x => if x = e then { x with merged := x.merged + 1 } else x } }
  have filed : (s.taken f).file { fault := f, time := s.faultTime } = s1.count Reg.bltCntMerged 1 := by
    rw [State.file]
    simp only [judged]
    rw [show (s.taken f).blt.entries = s.blt.entries from rfl, found]
    simp only [before, if_true]
    rfl
  rw [filed] at run
  exact ⟨_, run, rfl, rfl, rfl, State.reg_count_same s1 _ _, rfl, rfl, rfl, rfl, rfl, rfl, rfl, rfl⟩

/-- Settles O50: a repeat of an open entry, before and after its escalation. -/
theorem blotterEscalatesAndMerges : Obligations.BlotterEscalatesAndMerges := ⟨blotterMessage_escalates, blotterMessage_merges⟩

end Sys2Proof.Machine
end

section
/-!
PROOFS. FAULT_N, ageing and acknowledgement of entries (O51), and the reaction to level 3 (O52).
-/
namespace Sys2Proof.Machine

/-! ### FAULT_N and FAULT_ACK (O51) -/

theorem bltFaultn_plain : PlainReg Reg.bltFaultn ⟨Reg.bltFaultn, [], false, false, [⟨1, 1, .ro, 0, .plain⟩, ⟨0, 0, .rws, 0, .plain⟩]⟩ [] :=
  plainReg_of_check (by decide)

theorem State.bar0Serves_blt {s : State} {off : Nat} (blt : 0x02000000 ≤ off ∧ off < 0x02200000) : s.bar0Serves off = true := by
  rw [State.bar0Serves]
  split
  · exact decide_eq_true (Or.inr blt)
  · rfl

theorem faultnHoldWrite_holds (s : State) (v : Word) (present : s.present = true) :
    ∃ t, exec (.faultnHoldWrite v) s = .next t ∧ t.flag Reg.bltFaultn 0 = v.getLsbD 0 ∧ t.blt = s.blt ∧
      (∀ o, o ≠ Reg.bltFaultn → t.reg o = s.reg o) ∧ t.cmd = s.cmd ∧ t.pln = s.pln ∧ t.sec = s.sec := by
  have plain := bltFaultn_plain
  let w := bits (v.toNat % 2 ^ 32) 0 0
  have bit : v.getLsbD 0 = (w == 1) := by
    rw [← bitAt_toNat, bitAt_eq_bits]
    exact congrArg (· == 1) (bits_mod_word _ _ (by omega)).symm
  have small : w < 2 := Nat.mod_lt _ (by decide)
  let t := if w = s.fld Reg.bltFaultn 0 0 then s else s.setFld Reg.bltFaultn 0 0 w
  have wrote := plain.regWrite (s := s) (v.toNat % 2 ^ 32) (by rw [State.wholeDropped, if_neg (by decide), if_neg (by decide)]) (b := ⟨t, false, false⟩) (by
    change WAcc.store ⟨s, false, false⟩ Reg.bltFaultn [] ⟨0, 0, .rws, 0, .plain⟩ (v.toNat % 2 ^ 32) w = _
    rw [WAcc.store]
    dsimp only
    by_cases same : w = s.fld Reg.bltFaultn 0 0
    · rw [if_pos same, show t = s from if_pos same]
    · rw [if_neg same, show t = s.setFld Reg.bltFaultn 0 0 w from if_neg same]
      rfl)
  have written : s.barWrite Reg.bltFaultn false v.toNat = t :=
    (State.barWrite_eq_regWrite v.toNat present (State.bar0Serves_blt (by decide)) plain.aligned plain.found plain.low plain.high).trans wrote
  have only : s.Only [.bar] t := by
    simp only [t]
    split
    · exact State.Only.refl _ _
    · exact s.only_bar_setReg _ _
  refine ⟨t, congrArg Host.Outcome.next written, ?_, only.blt, fun o ne => ?_, only.cmd, only.pln, only.sec⟩
  · rw [bit, State.flag_eq_fld]
    simp only [t]
    split
    · next same => rw [← same]
    · rw [s.fld_setFld_same _ (by omega) (by omega)]
  · simp only [t]
    split
    · rfl
    · exact s.reg_setFld_ne _ _ _ ne

theorem entryAgeClose_closes (s : State) (source kind : BitVec 12) (level : Fin 4) : ∃ t, exec (.entryAgeClose source kind level) s = .next t ∧
    (∀ e ∈ s.blt.entries, e.source = source → e.kind = kind → e.level = level →
      (e ∈ t.blt.entries ↔ ¬ ((level = 0 ∧ s.fld Reg.bltCfg 11 0 ≠ 0 ∧ e.lastStroke + s.fld Reg.bltCfg 11 0 ≤ s.strokeNow) ∨
        (level = 1 ∧ s.fld Reg.bltCfg 23 12 ≠ 0 ∧ e.lastStroke + s.fld Reg.bltCfg 23 12 ≤ s.strokeNow)))) ∧
    (∀ e, ¬ (e.source = source ∧ e.kind = kind ∧ e.level = level) → (e ∈ t.blt.entries ↔ e ∈ s.blt.entries)) ∧
    t.bar = s.bar ∧ t.blt.unack = s.blt.unack ∧ t.blt.seq = s.blt.seq ∧ t.cmd = s.cmd := by
  refine ⟨_, rfl, fun e mem source kind posted => ?_, fun e other => ?_, rfl, rfl, rfl, rfl⟩
  · refine List.mem_filter.trans ?_
    simp only [mem, true_and, source, kind, posted, beq_self_eq_true, Bool.true_and, Bool.not_eq_true', Bool.and_eq_false_iff, decide_eq_false_iff_not]
    by_cases zero : level = 0
    · subst zero
      simp
      omega
    · by_cases one : level = 1
      · subst one
        simp
        omega
      · simp [zero, one]
  · refine List.mem_filter.trans (and_iff_left ?_)
    simp only [Bool.not_eq_true', Bool.and_eq_false_iff, beq_eq_false_iff_ne]
    tauto

/-- A record that the FAULT_ACK names. -/
def Unacked.named (u : Unacked) (mode levels : Nat) (seq : BitVec 32) : Prop :=
  if mode = 0 then u.seq = seq else serialLe 32 u.seq.toNat seq.toNat = true ∧ bitAt levels u.level.val = true

theorem Blt.named_mem {b : Blt} {u : Unacked} {mode levels : Nat} {seq : BitVec 32} (mem : u ∈ b.unack) (named : u.named mode levels seq) :
    u.seq ∈ b.named mode levels seq := by
  refine List.mem_map.2 ⟨u, List.mem_filter.2 ⟨List.mem_append_left _ mem, ?_⟩, rfl⟩
  rw [Unacked.named] at named
  by_cases single : mode = 0
  · rw [if_pos single] at named ⊢
    exact beq_iff_eq.2 named
  · rw [if_neg single] at named ⊢
    rw [named.1, named.2]
    rfl

theorem faultAck_acks (s s1 : State) (h : Header) (r : ReplyTo) (mode levels : Nat) (seq : BitVec 32) (rsv : Nat) (known : mode < 2)
    (hs : s.Serves ⟨0x0801, 1, false, false, 8, rsv + levels / 16, 0, false⟩ h false r s1) :
    ∃ t, exec (.faultAck h mode levels seq rsv) s = .next t ∧
      (s.blt.named mode levels seq ≠ [] → t = (State.done { s1 with blt := s1.blt.ack (s.blt.named mode levels seq) } r .ok)) ∧
      (s.blt.named mode levels seq = [] → t = s1.done r .alreadyDone) ∧
      (∀ u ∈ t.blt.unack, u ∈ s.blt.unack ∧
        ¬ (if mode = 0 then u.seq = seq else serialLe 32 u.seq.toNat seq.toNat = true ∧ bitAt levels u.level.val = true)) ∧
      (∀ u ∈ s.blt.unack, u.seq ∉ s.blt.named mode levels seq → u ∈ t.blt.unack) ∧
      t.blt.log = s.blt.log ∧ t.blt.seq = s.blt.seq ∧ t.blt.l3 = s.blt.l3 ∧ t.sat = s.sat ∧ t.pln = s.pln ∧ t.lnk = s.lnk ∧ t.memory = s.memory := by
  have same : s1.blt = s.blt := hs.only.blt
  have run : exec (.faultAck h mode levels seq rsv) s = .next (if (s.blt.named mode levels seq).isEmpty then s1.done r .alreadyDone
      else State.done { s1 with blt := s1.blt.ack (s.blt.named mode levels seq) } r .ok) := by
    refine congrArg Host.Outcome.next ((State.serve_of_serves hs _).trans ((if_neg (Nat.not_le.2 known)).trans ?_))
    rw [same]
  by_cases nothing : s.blt.named mode levels seq = []
  · have only := s1.done_only r .alreadyDone
    have blt : (s1.done r .alreadyDone).blt = s.blt := only.blt.trans same
    refine ⟨_, run.trans (congrArg Host.Outcome.next (if_pos (by rw [nothing]; rfl))), fun some_ => absurd nothing some_, fun _ => rfl, ?_, ?_, ?_, ?_, ?_,
      only.sat.trans hs.only.sat, only.pln.trans hs.only.pln, only.lnk.trans hs.only.lnk, only.memory.trans hs.only.memory⟩
    · rw [blt]
      refine fun u mem => ⟨mem, fun named => ?_⟩
      have inNamed := Blt.named_mem (levels := levels) mem named
      rw [nothing] at inNamed
      cases inNamed
    · rw [blt]
      exact fun u mem _ => mem
    · rw [blt]
    · rw [blt]
    · rw [blt]
  · let s2 : State := { s1 with blt := s1.blt.ack (s.blt.named mode levels seq) }
    have only := s2.done_only r .ok
    have blt : (s2.done r .ok).blt = s.blt.ack (s.blt.named mode levels seq) := only.blt.trans (congrArg (Blt.ack · _) same)
    have unack (u : Unacked) : u ∈ (s2.done r .ok).blt.unack ↔ u ∈ s.blt.unack ∧ u.seq ∉ s.blt.named mode levels seq := by
      rw [blt]
      refine List.mem_filter.trans (and_congr_right fun _ => ?_)
      rw [Bool.not_eq_true', List.contains_eq_mem, decide_eq_false_iff_not]
    refine ⟨_, run.trans (congrArg Host.Outcome.next (if_neg (by rw [List.isEmpty_iff]; exact nothing))), fun _ => rfl, fun none_ => absurd none_ nothing,
      fun u mem => ?_, fun u mem out => (unack u).2 ⟨mem, out⟩, ?_, ?_, ?_,
      only.sat.trans hs.only.sat, only.pln.trans hs.only.pln, only.lnk.trans hs.only.lnk, only.memory.trans hs.only.memory⟩
    · obtain ⟨old, out⟩ := (unack u).1 mem
      exact ⟨old, fun named => out (Blt.named_mem old named)⟩
    · rw [blt]; rfl
    · rw [blt]; rfl
    · rw [blt]; rfl

/-- Settles O51: the pin, the age of entries, and what an acknowledgement names. -/
theorem faultPinAndAcks : Obligations.FaultPinAndAcks := ⟨fun _ => rfl, faultnHoldWrite_holds, entryAgeClose_closes, faultAck_acks⟩

/-! ### The reaction to level 3 (O52) -/

/-- What disabling ports leaves: the number of ports, and no port that is UP or TRAINING becomes so. -/
theorem State.routeOn_length (s : State) (from_ : Option (Nat × Nat)) (pkt : Packet) : (s.routeOn from_ pkt).lnk.ports.length = s.lnk.ports.length := by
  have modified (t : State) (p : Nat) (f : Port → Port) : (t.modPort p f).lnk.ports.length = t.lnk.ports.length := List.length_modify _ _ _
  have owed (t : State) (from_ : Option (Nat × Nat)) (c n : Nat) : (t.owe from_ c n).lnk.ports.length = t.lnk.ports.length := by
    unfold State.owe
    split
    · rfl
    · exact modified _ _ _
  rw [State.routeOn]
  dsimp only
  split
  · exact owed _ _ _ _
  · exact owed _ _ _ _
  · split
    · rw [State.enqueue]
      refine (modified _ _ _).trans ?_
      split
      · rw [State.meter0]
        dsimp only
        split <;> exact modified _ _ _
      · rfl
    · exact owed _ _ _ _

theorem State.foldl_length {α : Type} (f : State → α → State) (l : List α) (s : State) (each : ∀ t a, (f t a).lnk.ports.length = t.lnk.ports.length) :
    (l.foldl f s).lnk.ports.length = s.lnk.ports.length := by
  induction l generalizing s with
  | nil => rfl
  | cons a l ih => exact (ih _).trans (each s a)

theorem State.requeue_length (s : State) (p : Nat) : (s.requeue p true).lnk.ports.length = s.lnk.ports.length := by
  rw [State.requeue]
  refine (State.foldl_length _ _ _ fun t a => t.routeOn_length _ _).trans ?_
  exact List.length_modify _ _ _

/-- Neither UP nor TRAINING. -/
def Port.quiet (x : Port) : Prop := x.state ≠ .up ∧ x.state ≠ .training

theorem Port.quiet_of_eq {x : Port} {st : PortState} (here : x.state = st) (up : st ≠ .up) (training : st ≠ .training) : x.quiet :=
  ⟨here ▸ up, here ▸ training⟩

theorem Port.quiet_of_state {x y : Port} (same : y.state = x.state) (quiet : x.quiet) : y.quiet := by rwa [Port.quiet, same]

/-- What disabling a port makes of every port, of their number, and of the registers but its own. -/
theorem State.disablePort_quiet (s : State) {p : Nat} (small : p < 64) :
    (s.disablePort p).lnk.ports.length = s.lnk.ports.length ∧ ((s.disablePort p).port p).quiet ∧
      (∀ q, (s.port q).quiet → ((s.disablePort p).port q).quiet) ∧ (s.disablePort p).reg Reg.bltFaultn = s.reg Reg.bltFaultn := by
  have other : (s.setFld (Reg.lnkPCtrl p) 0 0 0).reg Reg.bltFaultn = s.reg Reg.bltFaultn :=
    s.reg_setFld_ne _ _ _ (by unfold Reg.bltFaultn Reg.lnkPCtrl; omega)
  let s1 := (s.setFld (Reg.lnkPCtrl p) 0 0 0).modPort p fun x => { x with state := .draining, drainFrom := s.stk.time }
  have drains : (s1.requeue p true).lnk.ports.length = s.lnk.ports.length ∧ ((s1.requeue p true).port p).quiet ∧
      (∀ q, (s.port q).quiet → ((s1.requeue p true).port q).quiet) ∧ (s1.requeue p true).reg Reg.bltFaultn = s.reg Reg.bltFaultn := by
    have routed := s1.routed_requeue p true
    have each (q : Nat) : (s.port q).quiet ∨ (q = p) → (s1.port q).quiet := by
      intro h
      rw [State.port_modPort]
      split
      · exact Port.quiet_of_eq (st := .draining) rfl (by decide) (by decide)
      · next out =>
        refine h.elim id fun e => ?_
        have beyond : s.port q = Port.reset := List.getD_eq_default _ _ (by
          by_contra lt
          exact out ⟨e.symm, Nat.not_le.1 lt⟩)
        rw [show (s.setFld (Reg.lnkPCtrl p) 0 0 0).port q = s.port q from rfl, beyond]
        exact Port.quiet_of_eq (st := .disabled) rfl (by decide) (by decide)
    refine ⟨(s1.requeue_length p).trans (List.length_modify _ _ _), ?_, fun q quiet => ?_, (routed.reg _ (by decide)).trans other⟩
    · exact Port.quiet_of_state (routed.ports p).state (each p (Or.inr rfl))
    · exact Port.quiet_of_state (routed.ports q).state (each q (Or.inl quiet))
  rw [State.disablePort]
  cases state : (s.port p).state with
  | up => exact drains
  | training => exact drains
  | miswired => exact drains
  | down => exact drains
  | draining =>
    have each (q : Nat) : (((s.setFld (Reg.lnkPCtrl p) 0 0 0).modPort p fun x => { x with pend := false }).port q).state = (s.port q).state := by
      rw [State.port_modPort]
      split <;> rfl
    exact ⟨List.length_modify _ _ _, Port.quiet_of_eq ((each p).trans state) (by decide) (by decide), fun q quiet => Port.quiet_of_state (each q) quiet, other⟩
  | disabled => exact ⟨rfl, Port.quiet_of_eq (x := s.port p) state (by decide) (by decide), fun q quiet => quiet, other⟩
  | bonded => exact ⟨rfl, Port.quiet_of_eq (x := s.port p) state (by decide) (by decide), fun q quiet => quiet, other⟩

theorem State.disablePorts_quiet (n : Nat) (s : State) (small : n ≤ 64) :
    ((List.range n).foldl State.disablePort s).lnk.ports.length = s.lnk.ports.length ∧
      (∀ q, q < n → (((List.range n).foldl State.disablePort s).port q).quiet) ∧
      ((List.range n).foldl State.disablePort s).reg Reg.bltFaultn = s.reg Reg.bltFaultn ∧ s.Only [.bar, .lnk] ((List.range n).foldl State.disablePort s) := by
  induction n with
  | zero => exact ⟨rfl, fun q lt => absurd lt (Nat.not_lt_zero q), rfl, State.Only.refl _ _⟩
  | succ n ih =>
    obtain ⟨length, quiet, faultn, only⟩ := ih (by omega)
    rw [List.range_succ, List.foldl_append, List.foldl_cons, List.foldl_nil]
    obtain ⟨length1, own, others, faultn1⟩ := ((List.range n).foldl State.disablePort s).disablePort_quiet (show n < 64 by omega)
    refine ⟨length1.trans length, fun q lt => ?_, faultn1.trans faultn, only.trans (((State.keeps_self _ _).disablePort (sub_self _) n).only)⟩
    obtain below | rfl := Nat.lt_succ_iff_lt_or_eq.1 lt
    · exact others q (quiet q below)
    · exact own

/-- R478 at its start: what stops at once. -/
def State.stopped3 (s : State) : State :=
  { s with
    blt := { s.blt with l3 := true }
    sat := { s.sat with sats := amap (fun x => { x with prov := none }) s.sat.sats }
    cores := { s.cores with queues := amap (fun l => l.map CoreCmd.fail) s.cores.queues }
    sec := { s.sec with run := .fault } }

theorem State.level3_eq {s : State} (first : s.blt.l3 = false) (booted : s.sec.run ≠ .boot) (service : s.sec.run ≠ .recovery) :
    s.level3 = (List.range 64).foldl State.disablePort (s.stopped3.flsHold true) := by
  rw [State.level3, first]
  simp only [Bool.false_eq_true, if_false, booted, service, or_self]
  rfl

theorem CoreCmd.fail_done (c : CoreCmd) : c.fail.result ≠ none := by
  rw [CoreCmd.fail]
  split
  · exact fun h => nomatch h
  · next done => exact fun none_ => by rw [done] at none_; cases none_

theorem blotterMessage_level3 (s : State) (f : FaultSpec) (listed : sourceListed f.source.toNat = true) (idle : agetD s.blt.outbox f.source.toNat [] = [])
    (three : f.level = 3) (fresh : ∀ e ∈ s.blt.entries, ¬ (e.source = f.source ∧ e.kind = f.kind ∧ e.level = f.level)) (room : s.blt.unack.length < 4096)
    (first : s.blt.l3 = false) (booted : s.sec.run ≠ .boot) (service : s.sec.run ≠ .recovery) (table_ : s.lnk.ports.length = 64) :
    ∃ t, exec (.blotterMessage f.source (some f)) s = .next t ∧ t.blt.l3 = true ∧ t.sec.run = .fault ∧ t.fls.hold = true ∧
      t.flag Reg.bltFaultn 0 = true ∧ t.blt.pulse = true ∧ t.blt.seq = s.blt.seq + 1 ∧
      (∀ e ∈ t.sat.sats, e.2.prov = none) ∧ t.sat.recs = s.sat.recs ∧ t.sat.live = s.sat.live ∧
      (∀ e ∈ t.cores.queues, ∀ c ∈ e.2, c.result ≠ none) ∧
      (∀ p ∈ t.lnk.ports, p.state ≠ .up ∧ p.state ≠ .training) ∧ t.pln = s.pln ∧ t.memory = s.memory ∧ t.kva = s.kva := by
  obtain ⟨judged, run⟩ := blotterMessage_files listed idle
  have filed := State.file_first (s := s.taken f) s.faultTime judged fresh
  obtain ⟨s4, rec_, recorded⟩ := (s.taken f).record_recorded { fault := f, time := s.faultTime } f.entry f.level false (Or.inr room)
  have only4 := rec_.only
  have reacts := State.level3_eq (s := s4) (rec_.l3.trans first) (by rw [only4.sec]; exact booted) (by rw [only4.sec]; exact service)
  rw [recorded, if_pos three, reacts] at filed
  rw [filed] at run
  obtain ⟨length, quiet, faultn, only⟩ := State.disablePorts_quiet 64 (s4.stopped3.flsHold true) (Nat.le_refl _)
  generalize (List.range 64).foldl State.disablePort (s4.stopped3.flsHold true) = s5 at run length quiet faultn only
  obtain ⟨pin, pulse⟩ := rec_.pin three
  refine ⟨_, run, ?_, ?_, ?_, ?_, ?_, ?_, ?_, ?_, ?_, ?_, fun p mem => ?_, only.pln.trans only4.pln, only.memory.trans only4.memory, only.kva.trans only4.kva⟩
  · exact congrArg Blt.l3 only.blt
  · exact congrArg Sec.run only.sec
  · exact congrArg Fls.hold only.fls
  · exact (State.flag_congr 0 faultn).trans pin
  · exact (congrArg Blt.pulse only.blt).trans pulse
  · exact (congrArg Blt.seq only.blt).trans rec_.seq
  · rw [show (_ : State).sat = _ from only.sat]
    intro e mem
    obtain ⟨k, old, rfl⟩ := List.mem_map.1 mem
    rfl
  · exact (congrArg SatSt.recs only.sat).trans (show s4.sat.recs = s.sat.recs from congrArg SatSt.recs only4.sat)
  · exact (congrArg SatSt.live only.sat).trans (show s4.sat.live = s.sat.live from congrArg SatSt.live only4.sat)
  · rw [show (_ : State).cores = _ from only.cores]
    intro e mem c inQueue
    obtain ⟨k, old, rfl⟩ := List.mem_map.1 mem
    obtain ⟨d, _, rfl⟩ := List.mem_map.1 inQueue
    exact d.fail_done
  · obtain ⟨q, lt, rfl⟩ := List.getElem_of_mem mem
    have below : q < 64 := by
      have all : s5.lnk.ports.length = 64 := length.trans ((congrArg (fun k => k.ports.length) only4.lnk).trans table_)
      exact lt.trans_eq all
    have here := quiet q below
    rw [State.port, List.getD_eq_getElem _ _ lt] at here
    exact here

/-- Settles O52: the record drives the pin, and the reaction stops what R478 names. -/
theorem level3Reaction : Obligations.Level3Reaction := blotterMessage_level3

end Sys2Proof.Machine
end

section
/-!
PROOFS. What sending, acknowledging and completing leave of the connections and operations.
-/
namespace Sys2Proof.Machine

theorem State.conn_modConn_same {s : State} {k : Nat} {c : Conn} (f : Conn → Conn) (here : s.conn k = some c) : (s.modConn k f).conn k = some (f c) := by
  rw [State.conn_modConn, if_pos rfl, here, Option.map_some]

theorem State.conn_modConn_ne (s : State) {k j : Nat} (f : Conn → Conn) (ne : j ≠ k) : (s.modConn k f).conn j = s.conn j := by
  rw [State.conn_modConn, if_neg ne]

theorem State.conn_congr {s t : State} (h : t.xpt.conns = s.xpt.conns) (k : Nat) : t.conn k = s.conn k := by rw [State.conn, State.conn, h]

/-! ### One packet of a connection -/

/-- The registers in which sending counts. -/
def sendCounts (o : Nat) : Bool := routingCounts o || [Reg.lnkCntNonmin, Reg.xptCntSpill, Reg.shpCntPolice].contains o

/-- A packet that enters the fabric leaves the transport, and every register but some counters. -/
structure State.Fabric (s t : State) : Prop where
  xpt : t.xpt = s.xpt
  reg : ∀ o, sendCounts o = false → t.reg o = s.reg o
  stk : t.stk = s.stk

theorem State.Fabric.refl (s : State) : s.Fabric s := ⟨rfl, fun _ _ => rfl, rfl⟩

theorem State.Fabric.trans {s t u : State} (h : s.Fabric t) (k : t.Fabric u) : s.Fabric u :=
  ⟨k.xpt.trans h.xpt, fun o quiet => (k.reg o quiet).trans (h.reg o quiet), k.stk.trans h.stk⟩

theorem State.fabric_count (s : State) {o : Nat} (n : Nat) (counts : sendCounts o = true) : s.Fabric (s.count o n) :=
  ⟨rfl, fun p quiet => s.reg_setReg_ne _ (fun e => by rw [e, counts] at quiet; cases quiet), rfl⟩

theorem State.fabric_routeOn (s : State) (from_ : Option (Nat × Nat)) (pkt : Packet) : s.Fabric (s.routeOn from_ pkt) := by
  have only := ((s.keeps_self [.lnk, .bar]).routeOn (by decide) from_ pkt).only
  refine ⟨only.xpt, fun o quiet => (s.routed_routeOn from_ pkt).reg o ?_, only.stk⟩
  exact (Bool.or_eq_false_iff.1 quiet).1

theorem State.fabric_inject (s : State) (device : Bool) (pkt : Packet) : s.Fabric (s.inject device pkt) := by
  rw [State.inject]
  dsimp only
  split
  · exact s.fabric_routeOn _ _
  · split
    · have charged : s.Fabric (s.charge pkt.part.val pkt.cls.val pkt.flits) := by
        rw [State.charge]
        split <;> exact ⟨rfl, fun _ _ => rfl, rfl⟩
      exact charged.trans (State.fabric_routeOn _ _ _)
    · have held (x : Shp) : s.Fabric { s with shp := x } := ⟨rfl, fun _ _ => rfl, rfl⟩
      exact (held _).trans (State.fabric_count (o := Reg.shpCntPolice) _ 1 (by decide))

theorem State.fabric_choosePath (s : State) (cls : Nat) (dst : DeviceId) : s.Fabric (s.choosePath cls dst).1 := by
  have free : s.Fabric s.free.2 := ⟨rfl, fun _ _ => rfl, rfl⟩
  rw [State.choosePath]
  dsimp only
  split
  · split
    · exact .refl s
    · split
      · split <;> exact free
      · split <;> exact free
  · split
    · exact .refl s
    · exact free

theorem State.fabric_setPath (s : State) (p : Packet) (via : Option (Bool × Nat)) : s.Fabric (s.setPath p via).1 := by
  cases via with
  | none => exact .refl s
  | some v => exact s.fabric_count (o := Reg.lnkCntNonmin) 1 (by decide)

/-- A connection after it sent a packet: its path, its last use, and what the packet acknowledged. -/
def Conn.Used (c d : Conn) : Prop := ∃ path lastUse echo unacked, d = { c with path := path, lastUse := lastUse, echoDue := echo, unacked := unacked }

theorem Conn.Used.refl (c : Conn) : c.Used c := ⟨_, _, _, _, rfl⟩

theorem Conn.Used.trans {c d e : Conn} (h : c.Used d) (k : d.Used e) : c.Used e := by
  obtain ⟨_, _, _, _, rfl⟩ := h
  obtain ⟨_, _, _, _, rfl⟩ := k
  exact ⟨_, _, _, _, rfl⟩

/-- What sending packets outside the sequence on connection k leaves. -/
structure State.Sent (s t : State) (k : Nat) : Prop where
  xpt : ∃ conns cache, t.xpt = { s.xpt with conns := conns, cache := cache }
  others : ∀ j, j ≠ k → t.conn j = s.conn j
  gone : s.conn k = none → t.conn k = none
  own : ∀ c, s.conn k = some c → ∃ d, t.conn k = some d ∧ c.Used d
  reg : ∀ o, sendCounts o = false → t.reg o = s.reg o
  stk : t.stk = s.stk

theorem State.Sent.refl (s : State) (k : Nat) : s.Sent s k :=
  ⟨⟨_, _, rfl⟩, fun _ _ => rfl, id, fun c here => ⟨c, here, .refl c⟩, fun _ _ => rfl, rfl⟩

theorem State.Sent.trans {s t u : State} {k : Nat} (h : s.Sent t k) (g : t.Sent u k) : s.Sent u k := by
  obtain ⟨_, _, x⟩ := h.xpt
  obtain ⟨_, _, y⟩ := g.xpt
  refine ⟨⟨_, _, by rw [y, x]⟩, fun j ne => (g.others j ne).trans (h.others j ne), fun none_ => g.gone (h.gone none_), fun c here => ?_,
    fun o quiet => (g.reg o quiet).trans (h.reg o quiet), g.stk.trans h.stk⟩
  obtain ⟨d, there, used⟩ := h.own c here
  obtain ⟨e, last, used'⟩ := g.own d there
  exact ⟨e, last, used.trans used'⟩

theorem State.Fabric.sent {s t : State} (h : s.Fabric t) (k : Nat) : s.Sent t k :=
  ⟨⟨_, _, h.xpt⟩, fun j _ => State.conn_congr (congrArg Xpt.conns h.xpt) j, fun none_ => (State.conn_congr (congrArg Xpt.conns h.xpt) k).trans none_,
    fun c here => ⟨c, (State.conn_congr (congrArg Xpt.conns h.xpt) k).trans here, .refl c⟩, h.reg, h.stk⟩

theorem State.sent_touchConn (s : State) (e k j : Nat) (isNew : Bool) : s.Sent (s.touchConn e k isNew) j := by
  have counted : s.Fabric (if (s.xpt.cache.getD e []).contains k = true ∨ isNew = true then s else s.count Reg.xptCntSpill 1) := by
    split
    · exact .refl s
    · exact s.fabric_count _ (by decide)
  refine (counted.sent j).trans ⟨⟨_, _, rfl⟩, fun _ _ => rfl, id, fun c here => ⟨c, here, .refl c⟩, fun _ _ => rfl, rfl⟩

theorem State.sent_launch (s : State) (k : Nat) (p : Packet) : s.Sent (s.launch k p) k := by
  rw [State.launch]
  split
  · exact .refl s k
  · next c here =>
    dsimp only
    have picked : s.Fabric (if s.flag Reg.xptCtrl 2 = true ∨ p.xp.first = true then s.choosePath p.cls.val p.dst else (s, c.path)).1 := by
      split
      · exact s.fabric_choosePath _ _
      · exact .refl s
    refine (picked.sent k).trans (State.Sent.trans ?_ (((State.fabric_setPath _ _ _).sent k).trans ((State.sent_touchConn _ _ _ _ _).trans ((State.fabric_inject _ _ _).sent k))))
    refine ⟨⟨_, _, rfl⟩, fun j ne => State.conn_modConn_ne _ _ ne, fun none_ => ?_, fun d there => ⟨_, State.conn_modConn_same _ there, ⟨_, _, _, _, rfl⟩⟩, fun _ _ => rfl, rfl⟩
    rw [State.conn_modConn, if_pos rfl, none_, Option.map_none]

theorem State.sent_sendControl (s : State) (k : Nat) (type : BitVec 8) (tag : BitVec 16) (len : Nat) (body : Body) : s.Sent (s.sendControl k type tag len body) k := by
  rw [State.sendControl]
  split
  · exact .refl s k
  · exact s.sent_launch k _

theorem State.sent_sendAck (s : State) (k : Nat) : s.Sent (s.sendAck k) k := by
  rw [State.sendAck]
  split
  · exact .refl s k
  · exact s.sent_sendControl _ _ _ _ _

/-- A launched packet takes the acknowledgement that was due with it. -/
theorem State.launch_unacked {s : State} {k : Nat} {c : Conn} (p : Packet) (here : s.conn k = some c) : ∃ d, (s.launch k p).conn k = some d ∧ d.unacked = 0 ∧ c.Used d := by
  rw [State.launch, here]
  dsimp only
  have picked : s.Fabric (if s.flag Reg.xptCtrl 2 = true ∨ p.xp.first = true then s.choosePath p.cls.val p.dst else (s, c.path)).1 := by
    split
    · exact s.fabric_choosePath _ _
    · exact .refl s
  generalize (if s.flag Reg.xptCtrl 2 = true ∨ p.xp.first = true then s.choosePath p.cls.val p.dst else (s, c.path)) = pick at picked
  have start : (pick.1.modConn k fun x => { x with path := pick.2, lastUse := s.strokeNow, echoDue := false, unacked := 0 }).conn k =
      some { c with path := pick.2, lastUse := s.strokeNow, echoDue := false, unacked := 0 } :=
    State.conn_modConn_same _ ((State.conn_congr (congrArg Xpt.conns picked.xpt) k).trans here)
  generalize pick.1.modConn k (fun x => { x with path := pick.2, lastUse := s.strokeNow, echoDue := false, unacked := 0 }) = s1 at start
  have set_ := State.fabric_setPath s1 { p with xp := { p.xp with age := s.usNow } } pick.2
  generalize s1.setPath { p with xp := { p.xp with age := s.usNow } } pick.2 = q at set_
  have touched := q.1.sent_touchConn c.engine k k false
  have cacheOnly : (q.1.touchConn c.engine k false).xpt.conns = q.1.xpt.conns := by
    rw [State.touchConn]
    dsimp only
    split <;> rfl
  have injected := State.fabric_inject (q.1.touchConn c.engine k false) c.device q.2.seal
  refine ⟨_, (State.conn_congr (congrArg Xpt.conns injected.xpt) k).trans ((State.conn_congr cacheOnly k).trans
    ((State.conn_congr (congrArg Xpt.conns set_.xpt) k).trans start)), rfl, ⟨_, _, _, _, rfl⟩⟩

/-! ### Sequenced packets and operations -/

/-- What sending and completing leave of a connection. -/
structure Conn.Same (c d : Conn) : Prop where
  state : d.state = c.state
  cls : d.cls = c.cls
  device : d.device = c.device
  inc : d.inc = c.inc
  peerConn : d.peerConn = c.peerConn
  peerInc : d.peerInc = c.peerInc
  peerDev : d.peerDev = c.peerDev
  peerPart : d.peerPart = c.peerPart
  localPart : d.localPart = c.localPart
  rcvNxt : d.rcvNxt = c.rcvNxt
  arrived : d.arrived = c.arrived
  retries : d.retries = c.retries
  rto : d.rto = c.rto
  window : d.window = c.window
  notReady : d.notReady = c.notReady

theorem Conn.Same.refl (c : Conn) : c.Same c := ⟨rfl, rfl, rfl, rfl, rfl, rfl, rfl, rfl, rfl, rfl, rfl, rfl, rfl, rfl, rfl⟩

theorem Conn.Same.trans {c d e : Conn} (h : c.Same d) (k : d.Same e) : c.Same e :=
  ⟨k.state.trans h.state, k.cls.trans h.cls, k.device.trans h.device, k.inc.trans h.inc, k.peerConn.trans h.peerConn, k.peerInc.trans h.peerInc,
    k.peerDev.trans h.peerDev, k.peerPart.trans h.peerPart, k.localPart.trans h.localPart, k.rcvNxt.trans h.rcvNxt, k.arrived.trans h.arrived,
    k.retries.trans h.retries, k.rto.trans h.rto, k.window.trans h.window, k.notReady.trans h.notReady⟩

theorem Conn.Used.same {c d : Conn} (h : c.Used d) : c.Same d := by
  obtain ⟨_, _, _, _, rfl⟩ := h
  exact ⟨rfl, rfl, rfl, rfl, rfl, rfl, rfl, rfl, rfl, rfl, rfl, rfl, rfl, rfl, rfl⟩

/-- A connection with nothing to send stays so. -/
def Conn.Rests (c d : Conn) : Prop := c.sendq = [] → c.waiting = [] → d.sendq = [] ∧ d.waiting = [] ∧ d.sent = c.sent

/-- What an ended operation keeps. -/
structure XOp.Ended (o q : XOp) : Prop where
  done : q.done = true
  status : q.status = o.status
  result : q.result = o.result
  origin : q.origin = o.origin

/-- What is the same of the transport, whatever is sent and completed; the registers where R holds. -/
structure State.Steady (R : Prop) (s t : State) : Prop where
  rest : ∃ conns cache ops, t.xpt = { s.xpt with conns := conns, cache := cache, ops := ops }
  gone : ∀ j, s.conn j = none → t.conn j = none
  ended : ∀ tag o, afind s.xpt.ops tag = some o → o.done = true → ∃ q, afind t.xpt.ops tag = some q ∧ o.Ended q
  reg : R → ∀ o, sendCounts o = false → t.reg o = s.reg o
  stk : t.stk = s.stk

theorem XOp.Ended.trans {o q r : XOp} (h : o.Ended q) (k : q.Ended r) : o.Ended r :=
  ⟨k.done, k.status.trans h.status, k.result.trans h.result, k.origin.trans h.origin⟩

theorem State.Steady.refl (R : Prop) (s : State) : s.Steady R s :=
  ⟨⟨_, _, _, rfl⟩, fun _ h => h, fun _ o here done => ⟨o, here, done, rfl, rfl, rfl⟩, fun _ _ _ => rfl, rfl⟩

theorem State.Steady.trans {R : Prop} {s t u : State} (h : s.Steady R t) (g : t.Steady R u) : s.Steady R u := by
  obtain ⟨_, _, _, x⟩ := h.rest
  obtain ⟨_, _, _, y⟩ := g.rest
  refine ⟨⟨_, _, _, by rw [y, x]⟩, fun j none_ => g.gone j (h.gone j none_), fun tag o here done => ?_, fun r o quiet => (g.reg r o quiet).trans (h.reg r o quiet), g.stk.trans h.stk⟩
  obtain ⟨q, there, ended⟩ := h.ended tag o here done
  obtain ⟨q', last, ended'⟩ := g.ended tag q there ended.done
  exact ⟨q', last, ended.trans ended'⟩

/-- Sending on connection k: nothing else of the others. -/
structure State.Drives (R : Prop) (s t : State) (k : Nat) : Prop extends State.Steady R s t where
  others : ∀ j, j ≠ k → t.conn j = s.conn j
  own : ∀ c, s.conn k = some c → ∃ d, t.conn k = some d ∧ c.Same d

theorem State.Drives.refl (R : Prop) (s : State) (k : Nat) : s.Drives R s k := ⟨.refl R s, fun _ _ => rfl, fun c here => ⟨c, here, .refl c⟩⟩

theorem State.Drives.trans {R : Prop} {s t u : State} {k : Nat} (h : s.Drives R t k) (g : t.Drives R u k) : s.Drives R u k := by
  refine ⟨h.toSteady.trans g.toSteady, fun j ne => (g.others j ne).trans (h.others j ne), fun c here => ?_⟩
  obtain ⟨d, there, same⟩ := h.own c here
  obtain ⟨e, last, same'⟩ := g.own d there
  exact ⟨e, last, same.trans same'⟩

theorem State.Sent.drives {R : Prop} {s t : State} {k : Nat} (h : s.Sent t k) : s.Drives R t k := by
  obtain ⟨conns, cache, x⟩ := h.xpt
  refine ⟨⟨⟨conns, cache, _, x⟩, fun j none_ => ?_, fun tag o here done => ⟨o, by rw [x]; exact here, done, rfl, rfl, rfl⟩, fun _ => h.reg, h.stk⟩, h.others, fun c here => ?_⟩
  · by_cases e : j = k
    · rw [e] at none_ ⊢
      exact h.gone none_
    · rw [h.others j e]
      exact none_
  · obtain ⟨d, there, used⟩ := h.own c here
    exact ⟨d, there, used.same⟩

/-- A change of connection k that leaves what `Conn.Same` names. -/
theorem State.drives_modConn (R : Prop) (s : State) (k : Nat) (f : Conn → Conn) (same : ∀ c : Conn, c.Same (f c)) : s.Drives R (s.modConn k f) k := by
  refine ⟨⟨⟨_, _, _, rfl⟩, fun j none_ => ?_, fun _ o here done => ⟨o, here, done, rfl, rfl, rfl⟩, fun _ _ _ => rfl, rfl⟩, fun j ne => s.conn_modConn_ne _ ne,
    fun c here => ⟨f c, State.conn_modConn_same f here, same c⟩⟩
  rw [State.conn_modConn]
  split
  · next e => rw [← e, none_, Option.map_none]
  · exact none_

theorem State.Drives.after_modConn {R : Prop} {s t : State} {k : Nat} {f : Conn → Conn} (h : (s.modConn k f).Drives R t k) (same : ∀ c : Conn, c.Same (f c)) :
    s.Drives R t k := (s.drives_modConn R k f same).trans h

theorem State.drives_sendNext (R : Prop) (s : State) (k : Nat) (c : Conn) (p : Packet) (rest : List Packet) : s.Drives R (s.sendNext k c p rest) k := by
  rw [State.sendNext]
  exact (State.sent_launch _ _ _).drives.after_modConn fun _ => by constructor <;> rfl

theorem State.drives_drainQueue (R : Prop) (n : Nat) (s : State) (k : Nat) : s.Drives R (s.drainQueue k n) k := by
  induction n generalizing s with
  | zero => exact .refl R s k
  | succ n ih =>
    rw [State.drainQueue]
    split
    · exact .refl R s k
    · split
      · exact .refl R s k
      · split
        · exact (s.drives_sendNext R _ _ _ _).trans (ih _)
        · exact .refl R s k

/-- The waiting operations stand while the queue is drained. -/
theorem State.drainQueue_waiting (n : Nat) {s : State} {k : Nat} {c : Conn} (here : s.conn k = some c) :
    ∃ d, (s.drainQueue k n).conn k = some d ∧ d.waiting = c.waiting ∧ (c.sendq = [] → d = c) := by
  induction n generalizing s c with
  | zero => exact ⟨c, here, rfl, fun _ => rfl⟩
  | succ n ih =>
    rw [State.drainQueue, here]
    dsimp only
    split
    · exact ⟨c, here, rfl, fun _ => rfl⟩
    · next p rest queued =>
      split
      · have sent := (s.modConn k fun x => { x with
          sendq := rest, sndNxt := x.sndNxt + 1, inflight := x.inflight + p.len
          sent := x.sent ++ [{ pkt := { p with xp := { p.xp with seq := c.sndNxt, ack := c.rcvNxt, conn := c.peerConn, inc := c.peerInc, echo := c.echoDue } }, at_ := s.stk.time }] }).sent_launch k
            { p with xp := { p.xp with seq := c.sndNxt, ack := c.rcvNxt, conn := c.peerConn, inc := c.peerInc, echo := c.echoDue } }
        obtain ⟨d, there, used⟩ := sent.own _ (State.conn_modConn_same _ here)
        obtain ⟨e, last, waiting, -⟩ := ih there
        refine ⟨e, last, ?_, fun none_ => nomatch queued.symm.trans none_⟩
        obtain ⟨_, _, _, _, rfl⟩ := used
        exact waiting
      · exact ⟨c, here, rfl, fun none_ => nomatch queued.symm.trans none_⟩

theorem State.drives_setOp (R : Prop) (s : State) (k tag : Nat) {o q : XOp} (here : afind s.xpt.ops tag = some o) (ended : o.done = true → o.Ended q) :
    s.Drives R { s with xpt := { s.xpt with ops := aput s.xpt.ops tag q } } k := by
  refine ⟨⟨⟨_, _, _, rfl⟩, fun _ h => h, fun t p there done => ?_, fun _ _ _ => rfl, rfl⟩, fun _ _ => rfl, fun c here => ⟨c, here, .refl c⟩⟩
  by_cases e : t = tag
  · subst e
    rw [here] at there
    cases there
    exact ⟨q, afind_aput_same _ _ _, ended done⟩
  · exact ⟨p, (afind_aput_ne _ _ e).trans there, done, rfl, rfl, rfl⟩

theorem State.drives_sendAll (R : Prop) (s : State) (k : Nat) (l : List Packet) : s.Drives R (s.sendAll k l) k := by
  rw [State.sendAll]
  refine State.Drives.after_modConn (f := fun c => { c with sendq := c.sendq ++ l }) ?_ fun _ => by constructor <;> rfl
  split
  · exact .refl R _ k
  · exact State.drives_drainQueue R _ _ k

/-- An operation that is issued as n packets or bytes. -/
def XOp.issue (o : XOp) (msg : BitVec 32) (n : Nat) : XOp := { o with msg := msg, issued := true, left := n }

/-- A connection that issues one more operation. -/
def Conn.issue (c : Conn) (msgSnd : BitVec 32 → BitVec 32) : Conn := { c with ops := c.ops + 1, msgSnd := msgSnd c.msgSnd }

theorem State.issueOn_eq {s : State} {k tag : Nat} {c : Conn} {o : XOp} (here : s.conn k = some c) (found : afind s.xpt.ops tag = some o) :
    ∃ n f l, s.issueOn k tag = (({ s with xpt := { s.xpt with ops := aput s.xpt.ops tag (o.issue c.msgSnd n) } } : State).modConn k (Conn.issue · f)).sendAll k l := by
  let o1 : XOp := { o with msg := c.msgSnd, issued := true }
  refine ⟨if o1.kind = .get then o1.len else (s.packetsOf c (BitVec.ofNat 16 tag) o1).length,
    fun m => if (o.issue c.msgSnd (if o1.kind = .get then o1.len else (s.packetsOf c (BitVec.ofNat 16 tag) o1).length)).inOrder then m + 1 else m,
    s.packetsOf c (BitVec.ofNat 16 tag) o1, ?_⟩
  rw [State.issueOn, here, found]
  rfl

theorem State.drives_issueOn (R : Prop) (s : State) (k tag : Nat) : s.Drives R (s.issueOn k tag) k := by
  cases here : s.conn k with
  | none =>
    rw [State.issueOn, here]
    exact .refl R s k
  | some c =>
    cases found : afind s.xpt.ops tag with
    | none =>
      rw [State.issueOn, here, found]
      exact .refl R s k
    | some o =>
      obtain ⟨n, f, l, e⟩ := State.issueOn_eq here found
      rw [e]
      refine (s.drives_setOp R k tag (q := o.issue c.msgSnd n) found fun done => ⟨done, rfl, rfl, rfl⟩).trans ?_
      exact (State.drives_sendAll R _ k l).after_modConn (f := (Conn.issue · f)) fun _ => by constructor <;> rfl

theorem State.drives_issueWaiting (R : Prop) (n : Nat) (s : State) (k : Nat) : s.Drives R (s.issueWaiting k n) k := by
  induction n generalizing s with
  | zero => exact .refl R s k
  | succ n ih =>
    rw [State.issueWaiting]
    split
    · exact .refl R s k
    · split
      · exact .refl R s k
      · split
        · exact ((State.drives_issueOn R _ k _).trans (ih _)).after_modConn fun _ => by constructor <;> rfl
        · exact .refl R s k

theorem State.drives_pump (R : Prop) (s : State) (k : Nat) : s.Drives R (s.pump k) k := by
  rw [State.pump]
  split
  · exact .refl R s k
  · exact (s.drives_drainQueue R _ k).trans (State.drives_issueWaiting R _ _ k)

/-- A connection with nothing to send is left alone. -/
theorem State.pump_rests {s : State} {k : Nat} {c : Conn} (here : s.conn k = some c) (idle : c.sendq = []) (none_ : c.waiting = []) : s.pump k = s := by
  rw [State.pump, here]
  simp only [idle, none_, List.length_nil]
  rfl

end Sys2Proof.Machine
end

section
/-!
PROOFS. What completing operations and taking acknowledgements leaves of the connections.
-/
namespace Sys2Proof.Machine

/-- What is the same of every connection, whatever is sent and completed. -/
structure State.Flows (R : Prop) (s t : State) : Prop extends State.Steady R s t where
  conns : ∀ j c, s.conn j = some c → ∃ d, t.conn j = some d ∧ c.Same d ∧ c.Rests d

theorem Conn.Rests.refl (c : Conn) : c.Rests c := fun idle none_ => ⟨idle, none_, rfl⟩

theorem Conn.Rests.trans {c d e : Conn} (h : c.Rests d) (k : d.Rests e) : c.Rests e := fun idle none_ => by
  obtain ⟨idle', none_', sent⟩ := h idle none_
  obtain ⟨idle'', none_'', sent'⟩ := k idle' none_'
  exact ⟨idle'', none_'', sent'.trans sent⟩

theorem State.Flows.refl (R : Prop) (s : State) : s.Flows R s := ⟨.refl R s, fun _ c here => ⟨c, here, .refl c, .refl c⟩⟩

theorem State.Flows.trans {R : Prop} {s t u : State} (h : s.Flows R t) (g : t.Flows R u) : s.Flows R u := by
  refine ⟨h.toSteady.trans g.toSteady, fun j c here => ?_⟩
  obtain ⟨d, there, same, rests⟩ := h.conns j c here
  obtain ⟨e, last, same', rests'⟩ := g.conns j d there
  exact ⟨e, last, same.trans same', rests.trans rests'⟩

theorem State.Flows.mono {R R' : Prop} {s t : State} (h : s.Flows R t) (weaker : R' → R) : s.Flows R' t :=
  ⟨⟨h.rest, h.gone, h.ended, fun r => h.reg (weaker r), h.stk⟩, h.conns⟩

/-- Sending on connection k, where the connection rests if it has nothing to send. -/
theorem State.Drives.flows {R : Prop} {s t : State} {k : Nat} (h : s.Drives R t k) (rests : ∀ c d, s.conn k = some c → t.conn k = some d → c.Rests d) :
    s.Flows R t := by
  refine ⟨h.toSteady, fun j c here => ?_⟩
  by_cases e : j = k
  · subst e
    obtain ⟨d, there, same⟩ := h.own c here
    exact ⟨d, there, same, rests c d here there⟩
  · exact ⟨c, (h.others j e).trans here, .refl c, .refl c⟩

theorem State.flows_modConn (R : Prop) (s : State) (k : Nat) (f : Conn → Conn) (same : ∀ c : Conn, c.Same (f c)) (rests : ∀ c : Conn, c.Rests (f c)) :
    s.Flows R (s.modConn k f) := by
  refine (s.drives_modConn R k f same).flows fun c d here there => ?_
  rw [State.conn_modConn_same f here] at there
  cases there
  exact rests c

theorem State.Sent.flows {R : Prop} {s t : State} {k : Nat} (h : s.Sent t k) : s.Flows R t := by
  refine h.drives.flows fun c d here there idle none_ => ?_
  obtain ⟨d', there', used⟩ := h.own c here
  rw [there] at there'
  cases there'
  obtain ⟨_, _, _, _, rfl⟩ := used
  exact ⟨idle, none_, rfl⟩

theorem State.flows_pump (R : Prop) (s : State) (k : Nat) : s.Flows R (s.pump k) := by
  refine (s.drives_pump R k).flows fun c d here there idle none_ => ?_
  rw [State.pump_rests here idle none_, here] at there
  cases there
  exact ⟨idle, none_, rfl⟩

/-- What ends an operation and leaves its connection's queue. -/
theorem State.flows_dropOp (R : Prop) {s : State} {tag : Nat} (o : XOp) (open_ : ∀ q, afind s.xpt.ops tag = some q → q.done = false) : s.Flows R (s.dropOp tag o) := by
  let s1 : State := { s with xpt := { s.xpt with ops := adel s.xpt.ops tag } }
  have dropped : s.Flows R s1 := by
    refine ⟨⟨⟨_, _, _, rfl⟩, fun _ h => h, fun t q here done => ⟨q, ?_, done, rfl, rfl, rfl⟩, fun _ _ _ => rfl, rfl⟩, fun _ c here => ⟨c, here, .refl c, .refl c⟩⟩
    refine (afind_adel_ne _ fun e => ?_).trans here
    rw [e] at here
    rw [open_ q here] at done
    cases done
  rw [State.dropOp]
  refine dropped.trans (State.Flows.trans (State.flows_modConn R s1 o.conn (fun c => { c with
    ops := if o.issued then c.ops - 1 else c.ops, msgDone := if o.inOrder && o.issued then c.msgDone + 1 else c.msgDone }) (fun _ => by constructor <;> rfl)
    fun _ idle none_ => ⟨idle, none_, rfl⟩) (State.flows_pump R _ _))

/-- A change outside the transport and the clock. -/
theorem State.flows_of_xpt {R : Prop} {s t : State} (xpt : t.xpt = s.xpt) (stk : t.stk = s.stk) (reg : R → ∀ o, sendCounts o = false → t.reg o = s.reg o) : s.Flows R t :=
  ⟨⟨⟨_, _, _, xpt⟩, fun j none_ => (State.conn_congr (congrArg Xpt.conns xpt) j).trans none_,
    fun _ o here done => ⟨o, (congrArg (fun x : Xpt => afind x.ops _) xpt).trans here, done, rfl, rfl, rfl⟩, reg, stk⟩,
    fun j c here => ⟨c, (State.conn_congr (congrArg Xpt.conns xpt) j).trans here, .refl c, .refl c⟩⟩

theorem State.flows_accessEnds (s : State) (o : XOp) : s.Flows (o.status = .ok) (s.accessEnds o) := by
  have only := ((s.keeps_self _).accessEnds (sub_self _) o).only
  refine State.flows_of_xpt only.xpt only.stk fun ok r _ => ?_
  rw [State.accessEnds]
  split
  · dsimp only
    rw [if_pos ok]
    rfl
  · rw [if_pos ok]
  · rfl

theorem State.flows_opDone (s : State) (tag : Nat) (st : Status) (result : List Byte) : s.Flows (st = .ok) (s.opDone tag st result) := by
  rw [State.opDone]
  split
  · exact .refl _ s
  · next o here =>
    split
    · exact .refl _ s
    · next undone =>
      dsimp only
      have finished : s.Flows (st = .ok) (s.finishAccess tag { o with done := true, status := st, result := result }) := by
        have ends : State.Flows (st = .ok) (s.dropOp tag { o with done := true, status := st, result := result })
            (s.finishAccess tag { o with done := true, status := st, result := result }) := State.flows_accessEnds _ { o with done := true, status := st, result := result }
        refine (State.flows_dropOp _ _ fun q found => ?_).trans ends
        rw [here] at found
        cases found
        exact Bool.eq_false_iff.2 undone
      split
      · refine (s.drives_setOp _ o.conn tag (q := { o with done := true, status := st, result := result }) here fun done => absurd done undone).flows
          fun c d here there => ?_
        cases here.symm.trans there
        exact .refl _
      · exact finished

/-- A change of an operation that its end does not depend on. -/
theorem State.flows_modOp (R : Prop) (s : State) (tag : Nat) (f : XOp → XOp) (ended : ∀ o : XOp, o.done = true → o.Ended (f o)) : s.Flows R (s.modOp tag f) := by
  refine ⟨⟨⟨_, _, _, rfl⟩, fun _ h => h, fun t o here done => ?_, fun _ _ _ => rfl, rfl⟩, fun _ c here => ⟨c, here, .refl c, .refl c⟩⟩
  have found : afind (s.modOp tag f).xpt.ops t = if t = tag then (afind s.xpt.ops tag).map f else afind s.xpt.ops t := afind_amod _ _ _ _
  by_cases e : t = tag
  · subst e
    exact ⟨f o, by rw [found, if_pos rfl, here]; rfl, ended o done⟩
  · exact ⟨o, by rw [found, if_neg e]; exact here, done, rfl, rfl, rfl⟩

theorem State.flows_opAcked (R : Prop) (s : State) (tag : Nat) : s.Flows R (s.opAcked tag) := by
  have done : s.Flows R (s.opDone tag .ok []) := (s.flows_opDone tag .ok []).mono fun _ => rfl
  have counted : s.Flows R (s.modOp tag fun x => { x with left := x.left - 1 }) := s.flows_modOp R tag _ fun _ ended => ⟨ended, rfl, rfl, rfl⟩
  rw [State.opAcked]
  split
  · exact .refl R s
  · split
    · exact .refl R s
    · exact .refl R s
    · split
      · split
        · exact done
        · exact counted
      · exact .refl R s
    · split
      · exact .refl R s
      · exact done
    · split
      · exact done
      · exact counted

theorem State.flows_foldl {α : Type} (R : Prop) (f : State → α → State) (l : List α) (s : State) (each : ∀ t a, State.Flows R t (f t a)) : s.Flows R (l.foldl f s) := by
  induction l generalizing s with
  | nil => exact .refl R s
  | cons a l ih => exact (each s a).trans (ih _)

/-! ### Acknowledgements -/

/-- What an acknowledgement leaves of a connection. -/
structure Conn.Acked (c d : Conn) : Prop where
  state : d.state = c.state
  cls : d.cls = c.cls
  device : d.device = c.device
  inc : d.inc = c.inc
  peerConn : d.peerConn = c.peerConn
  peerInc : d.peerInc = c.peerInc
  peerDev : d.peerDev = c.peerDev
  peerPart : d.peerPart = c.peerPart
  localPart : d.localPart = c.localPart
  rcvNxt : d.rcvNxt = c.rcvNxt
  arrived : d.arrived = c.arrived
  sendq : d.sendq = c.sendq
  waiting : d.waiting = c.waiting

/-- What an acknowledgement covers. -/
def ackHits (ack : BitVec 32) (bitmap : BitVec 64) (x : Sent) : Bool :=
  !x.pkt.answered && (serialLt 32 x.pkt.xp.seq.toNat ack.toNat || selected ack x.pkt.xp.seq bitmap)

theorem State.ackConn_acked (s : State) (c : Conn) (ack : BitVec 32) (bitmap : BitVec 64) (echo : Bool) :
    c.Acked (s.ackConn c ack bitmap echo).1 ∧ (s.ackConn c ack bitmap echo).1.sent = c.sent.filter fun x => !ackHits ack bitmap x := by
  have unhit : (c.sent.filter (ackHits ack bitmap)).isEmpty = true → (c.sent.filter fun x => !ackHits ack bitmap x) = c.sent := fun none_ => by
    refine List.filter_eq_self.2 fun x mem => ?_
    rw [List.isEmpty_iff, List.filter_eq_nil_iff] at none_
    rw [Bool.not_eq_true', Bool.eq_false_iff]
    exact none_ x mem
  rw [State.ackConn]
  by_cases none_ : (c.sent.filter (ackHits ack bitmap)).isEmpty = true
  · refine (if_pos (c := (c.sent.filter (ackHits ack bitmap)).isEmpty = true) none_) ▸ ?_
    exact ⟨by constructor <;> rfl, (unhit none_).symm⟩
  · refine (if_neg (c := (c.sent.filter (ackHits ack bitmap)).isEmpty = true) none_) ▸ ?_
    have ended (b : Prop) [Decidable b] (x : Conn) (acked : c.Acked x) (left : x.sent = c.sent.filter fun y => !ackHits ack bitmap y) :
        c.Acked (if b then s.endRound x else x) ∧ (if b then s.endRound x else x).sent = c.sent.filter fun y => !ackHits ack bitmap y := by
      split
      · exact ⟨⟨acked.state, acked.cls, acked.device, acked.inc, acked.peerConn, acked.peerInc, acked.peerDev, acked.peerPart, acked.localPart, acked.rcvNxt,
          acked.arrived, acked.sendq, acked.waiting⟩, left⟩
      · exact ⟨acked, left⟩
    exact ended _ _ (by constructor <;> rfl) rfl

theorem State.takeAck_flows {s : State} {k : Nat} {c : Conn} (here : s.conn k = some c) (R : Prop) (ack : BitVec 32) (bitmap : BitVec 64) (echo : Bool) :
    (s.modConn k fun _ => (s.ackConn c ack bitmap echo).1).Flows R (s.takeAck k ack bitmap echo) := by
  rw [State.takeAck, here]
  dsimp only
  refine (State.flows_foldl R _ _ _ fun t q => ?_).trans (State.flows_pump R _ k)
  split
  · exact t.flows_opAcked R _
  · exact .refl R t

/-- What an acknowledgement leaves of the connection that takes it. -/
theorem State.takeAck_own {s : State} {k : Nat} {c : Conn} (here : s.conn k = some c) (ack : BitVec 32) (bitmap : BitVec 64) (echo : Bool) :
    ∃ d, (s.takeAck k ack bitmap echo).conn k = some d ∧ d.state = c.state ∧
      (c.sendq = [] → c.waiting = [] → d.sendq = [] ∧ d.waiting = [] ∧ d.sent = c.sent.filter fun x => !ackHits ack bitmap x) := by
  obtain ⟨acked, sent⟩ := s.ackConn_acked c ack bitmap echo
  obtain ⟨d, there, same, rests⟩ := (State.takeAck_flows here True ack bitmap echo).conns k _ (State.conn_modConn_same _ here)
  refine ⟨d, there, same.state.trans acked.state, fun idle none_ => ?_⟩
  obtain ⟨idle', none_', sent'⟩ := rests (acked.sendq.trans idle) (acked.waiting.trans none_)
  exact ⟨idle', none_', sent'.trans sent⟩

/-- An acknowledgement leaves what `Flows` names but for its own connection. -/
theorem State.takeAck_steady (R : Prop) (s : State) (k : Nat) (ack : BitVec 32) (bitmap : BitVec 64) (echo : Bool) : s.Steady R (s.takeAck k ack bitmap echo) := by
  cases here : s.conn k with
  | none =>
    rw [State.takeAck, here]
    exact .refl R s
  | some c =>
    have changed : s.Steady R (s.modConn k fun _ => (s.ackConn c ack bitmap echo).1) := by
      refine ⟨⟨_, _, _, rfl⟩, fun j none_ => ?_, fun _ o found done => ⟨o, found, done, rfl, rfl, rfl⟩, fun _ _ _ => rfl, rfl⟩
      rw [State.conn_modConn]
      split
      · next e =>
        rw [e, here] at none_
        cases none_
      · exact none_
    exact changed.trans (State.takeAck_flows here R ack bitmap echo).toSteady

/-! ### Packets received -/

/-- The states in which a context takes packets. -/
def Conn.live (c : Conn) : Prop := c.state = .opened ∨ c.state = .closing ∨ c.state = .opening

theorem State.touchConn_conns (s : State) (e k : Nat) (isNew : Bool) : (s.touchConn e k isNew).xpt.conns = s.xpt.conns := by
  rw [State.touchConn]
  dsimp only
  split <;> rfl

theorem State.acceptPacket_some {s s1 : State} {p : Packet} {now k : Nat} {strict : Bool} {c : Conn} (accepted : s.acceptPacket p now strict = (s1, some (k, c))) :
    k = p.xp.conn.val ∧ s1.conn k = some c ∧ c.live ∧ (strict = true → c.state = .opened) := by
  rw [State.acceptPacket] at accepted
  dsimp only at accepted
  split at accepted
  · cases accepted
  · split at accepted
    · cases accepted
    · split at accepted
      · cases accepted
      · next c0 here =>
        split at accepted
        · cases accepted
        · next passes =>
          have open_ : (c0.state == .opened || (!strict && (c0.state == .closing || c0.state == .opening))) = true := by
            by_contra shut
            exact passes (Or.inr (Or.inr shut))
          rw [Prod.mk.injEq] at accepted
          obtain ⟨same, found⟩ := accepted
          rw [same] at found
          obtain ⟨d, there, pair⟩ := Option.map_eq_some_iff.1 found
          rw [Prod.mk.injEq] at pair
          obtain ⟨rfl, rfl⟩ := pair
          have conns : s1.xpt.conns = amod s.xpt.conns p.xp.conn.val fun x => { x with lastUse := s.strokeNow, echoDue := x.echoDue || p.cmark } := by
            rw [← same]
            split
            · exact State.touchConn_conns _ _ _ _
            · exact State.touchConn_conns _ _ _ _
          have state : d.state = c0.state := by
            have after := there
            rw [State.conn, conns, afind_amod, if_pos rfl, show afind s.xpt.conns p.xp.conn.val = some c0 from here, Option.map_some, Option.some.injEq] at after
            rw [← after]
          rw [Bool.or_eq_true, Bool.and_eq_true, Bool.or_eq_true, beq_iff_eq, beq_iff_eq, beq_iff_eq, Bool.not_eq_true'] at open_
          refine ⟨rfl, there, ?_, fun strict => ?_⟩
          · rw [Conn.live, state]
            obtain opened | ⟨-, closing | opening⟩ := open_
            · exact Or.inl opened
            · exact Or.inr (Or.inl closing)
            · exact Or.inr (Or.inr opening)
          · rw [state]
            obtain opened | ⟨lax, -⟩ := open_
            · exact opened
            · rw [strict] at lax
              cases lax

/-- What a received packet's connection is, and what the packet and its acknowledgement leave. -/
theorem State.receive_some {s s1 : State} {p : Packet} {now k : Nat} {strict : Bool} {c : Conn} (received : s.receive p now strict = (s1, some (k, c))) :
    k = p.xp.conn.val ∧ s1.conn k = some c ∧ c.live ∧ (strict = true → c.state = .opened) ∧ s.Only [.bar, .stk, .cores, .lnk, .xpt, .shp, .blt, .freeCtr] s1 := by
  have only := ((s.keeps_self _).receive (sub_self _) p now strict).only
  rw [received] at only
  rw [State.receive] at received
  cases accepted : s.acceptPacket p now strict with
  | mk s0 found =>
    rw [accepted] at received
    cases found with
    | none => cases received
    | some f =>
      obtain ⟨k0, c0⟩ := f
      obtain ⟨key, there, live, opened⟩ := State.acceptPacket_some accepted
      rw [Prod.mk.injEq] at received
      obtain ⟨same, found⟩ := received
      obtain ⟨d, here, pair⟩ := Option.map_eq_some_iff.1 found
      rw [Prod.mk.injEq] at pair
      obtain ⟨rfl, rfl⟩ := pair
      obtain ⟨e, last, state, -⟩ := State.takeAck_own there p.xp.ack 0 p.xp.echo
      rw [here] at last
      cases last
      exact ⟨key, by rw [← same]; exact here, by rw [Conn.live, state]; exact live, fun strict => state.trans (opened strict), only⟩

end Sys2Proof.Machine
end

section
/-!
PROOFS. Opening and closing of connections (O37).
-/
namespace Sys2Proof.Machine

/-! ### Contexts taken and freed -/

theorem State.takeConn_some {s : State} (st : ConnState) (device : Bool) (lpart : Fin 16) (dev : DeviceId) (ppart : Fin 16) (cls : Fin 8)
    (room : s.xpt.conns.length < s.fld Reg.xptConnCfg 20 0) :
    ∃ y k, s.takeConn st device lpart dev ppart cls = some (y, k) ∧ y.conn k = some (s.newConn st device lpart dev ppart cls k) ∧
      (∀ j, j ≠ k → y.conn j = s.conn j) ∧ s.Only [.bar, .xpt] y := by
  let k := (leastFree (s.xpt.conns.map fun p => p.1) (s.xpt.conns.length + 1) 0).getD 0
  let c := s.newConn st device lpart dev ppart cls k
  let s1 : State := { s with xpt := { s.xpt with conns := aput s.xpt.conns k c, incs := aput s.xpt.incs c.quad c.inc.val } }
  have same : ∀ j, (s1.touchConn c.engine k true).conn j = s1.conn j := fun j => State.conn_congr (s1.touchConn_conns _ _ _) j
  refine ⟨s1.touchConn c.engine k true, k, if_neg (Nat.not_le.2 room), (same k).trans (afind_aput_same _ _ _), fun j ne => (same j).trans (afind_aput_ne _ _ ne), ?_⟩
  have put : s.Only [.bar, .xpt] s1 := by simp [State.Only, s1]
  exact put.trans ((s1.keeps_self _).touchConn (sub_self _) c.engine k true).only

theorem State.conn_freeConn (s : State) (k : Nat) : (s.freeConn k).conn k = none := afind_adel_same _ _

theorem State.conn_freeConn_ne (s : State) {k j : Nat} (ne : j ≠ k) : (s.freeConn k).conn j = s.conn j := afind_adel_ne _ ne

theorem State.only_modConn (s : State) (k : Nat) (f : Conn → Conn) : s.Only [.xpt] (s.modConn k f) := ((s.keeps_self _).modConn (sub_self _) k f).only

theorem State.only_sendControl (s : State) (k : Nat) (type : BitVec 8) (tag : BitVec 16) (len : Nat) (body : Body) :
    s.Only [.bar, .lnk, .xpt, .shp, .freeCtr] (s.sendControl k type tag len body) := ((s.keeps_self _).sendControl (sub_self _) k type tag len body).only

/-- A connection without waiting operations that is CLOSED is freed, and nothing else happens. -/
theorem State.closed_frees {s : State} {k : Nat} {c : Conn} (here : s.conn k = some c) (none_ : c.waiting = []) : s.closed k = s.freeConn k := by
  rw [State.closed, here]
  exact if_pos (by rw [none_]; rfl)

/-! ### OPEN -/

/-- The state in which a delivered packet is looked at. -/
def State.looked (s : State) (p : Packet) (now : Nat) : State := { s.at_ now with lnk := { s.lnk with delivered := s.lnk.delivered.erase p } }

theorem State.only_looked (s : State) (p : Packet) (now : Nat) : s.Only [.stk, .lnk] (s.looked p now) := by simp [State.Only, State.looked, State.at_]

/-- An OPEN of a quadruple without a context takes one, or is refused for want of one. -/
theorem openPkt_unknown {s : State} {p : Packet} (now : Nat) {conn : Fin 1048576} {cls : Fin 8} {device : Bool} {part peer : Fin 16} {inc : Fin 4096}
    (body : p.body = .opening conn cls device part peer inc) (ready : s.xpt.ready = true) (trailer : p.trailerOk = true) (young : (s.at_ now).expired p = false)
    (unknown : s.findConn (quadKey device peer.val p.src part.val cls.val) = none) :
    exec (.openPkt p now) s = .next (match (s.looked p now).takeConn .opened device peer p.src part cls with
      | some (y, k) =>
        (y.modConn k fun c => { c with peerConn := conn, peerInc := inc }).sendControl k 0x02#8 0 8
          (.openAck ⟨k % 1048576, Nat.mod_lt _ (by decide)⟩ ((y.conn k).map (·.inc) |>.getD 0))
      | none =>
        (s.looked p now).inject device ((s.looked p now).mkPacket { ((s.looked p now).newConn .closed device peer p.src part cls 0) with peerConn := conn, peerInc := inc }
          0x06#8 0 0 0 8 (.nak 3 .noResource 0)).seal) := by
  have unfolded : exec (.openPkt p now) s = execOpenPkt p now s := rfl
  have found : (s.looked p now).findConn (quadKey device peer.val p.src part.val cls.val) = none := unknown
  have young' : (s.looked p now).expired p = false := young
  have ready' : (s.looked p now).xpt.ready = true := ready
  rw [unfolded, execOpenPkt]
  change (match p.body with | .opening conn cls device part peer inc => if !(s.looked p now).xpt.ready ∨ !p.trailerOk then _ else _ | _ => _) = _
  rw [body]
  refine (if_neg ?_).trans ((if_neg ?_).trans ?_)
  · rw [ready', trailer]
    decide
  · exact fun h => by rw [show (s.looked p now).expired p = true from h] at young'; cases young'
  · split
    · rfl
    · next k c known => exact nomatch found.symm.trans known

theorem openPkt_opens (s : State) (p : Packet) (now : Nat) (conn : Fin 1048576) (cls : Fin 8) (device : Bool) (part peer : Fin 16) (inc : Fin 4096)
    (body : p.body = .opening conn cls device part peer inc) (ready : s.xpt.ready = true) (trailer : p.trailerOk = true) (young : (s.at_ now).expired p = false)
    (unknown : s.findConn (quadKey device peer.val p.src part.val cls.val) = none) (room : s.xpt.conns.length < s.fld Reg.xptConnCfg 20 0) :
    ∃ t k c, exec (.openPkt p now) s = .next t ∧ t.conn k = some c ∧ c.state = .opened ∧ c.peerConn = conn ∧ c.peerInc = inc ∧ c.peerDev = p.src ∧ c.peerPart = part ∧
      c.localPart = peer ∧ c.cls = cls ∧ c.device = device ∧ (∀ j, j ≠ k → t.conn j = s.conn j) ∧ s.Only [.bar, .stk, .lnk, .xpt, .shp, .freeCtr] t := by
  obtain ⟨y, k, taken, fresh, others, only⟩ := State.takeConn_some (s := s.looked p now) .opened device peer p.src part cls room
  have run := openPkt_unknown now body ready trailer young unknown
  rw [taken] at run
  dsimp only at run
  let y1 := y.modConn k fun c => { c with peerConn := conn, peerInc := inc }
  have sent := y1.sent_sendControl k 0x02#8 0 8 (.openAck ⟨k % 1048576, Nat.mod_lt _ (by decide)⟩ ((y.conn k).map (·.inc) |>.getD 0))
  obtain ⟨d, there, used⟩ := sent.own _ (State.conn_modConn_same _ fresh)
  refine ⟨_, k, d, run, there, ?_⟩
  obtain ⟨_, _, _, _, rfl⟩ := used
  refine ⟨rfl, rfl, rfl, rfl, rfl, rfl, rfl, rfl, fun j ne => ?_, ?_⟩
  · exact (sent.others j ne).trans ((State.conn_modConn_ne _ _ ne).trans (others j ne))
  · exact ((s.only_looked p now).mono (by decide)).trans ((only.mono (by decide)).trans (((y.only_modConn _ _).mono (by decide)).trans ((y1.only_sendControl _ _ _ _ _).mono (by decide))))

theorem openPkt_refused (s : State) (p : Packet) (now : Nat) (conn : Fin 1048576) (cls : Fin 8) (device : Bool) (part peer : Fin 16) (inc : Fin 4096)
    (body : p.body = .opening conn cls device part peer inc) (ready : s.xpt.ready = true) (trailer : p.trailerOk = true) (young : (s.at_ now).expired p = false)
    (unknown : s.findConn (quadKey device peer.val p.src part.val cls.val) = none) (full : s.fld Reg.xptConnCfg 20 0 ≤ s.xpt.conns.length) :
    ∃ t, exec (.openPkt p now) s = .next t ∧ s.Only [.bar, .stk, .lnk, .shp] t := by
  have run := openPkt_unknown now body ready trailer young unknown
  have none_ : (s.looked p now).takeConn .opened device peer p.src part cls = none := if_pos full
  rw [none_] at run
  exact ⟨_, run, ((s.only_looked p now).mono (by decide)).trans ((((s.looked p now).keeps_self _).inject (sub_self _) _ _).only.mono (by decide))⟩

theorem openAck_opens (s s1 : State) (p : Packet) (now k : Nat) (c : Conn) (conn : Fin 1048576) (inc : Fin 4096)
    (received : s.receive p now false = (s1, some (k, c))) (body : p.body = .openAck conn inc) (opening : c.state = .opening) :
    ∃ t d, exec (.openAck p now) s = .next t ∧ t.conn k = some d ∧ d.state = .opened ∧ d.peerConn = conn ∧ d.peerInc = inc ∧
      s.Only [.bar, .stk, .cores, .lnk, .xpt, .shp, .blt, .freeCtr] t := by
  obtain ⟨-, here, -, -, only⟩ := State.receive_some received
  let s2 := s1.modConn k fun x => { x with state := .opened, peerConn := conn, peerInc := inc, sent := [], retries := 0 }
  have run : exec (.openAck p now) s = .next (s2.pump k) := by
    have unfolded : exec (.openAck p now) s = execOpenAck p now s := rfl
    rw [unfolded, execOpenAck, received, body]
    exact if_pos opening
  obtain ⟨d, there, same, -⟩ := (s2.flows_pump True k).conns k _ (State.conn_modConn_same _ here)
  refine ⟨_, d, run, there, same.state, same.peerConn, same.peerInc, ?_⟩
  have opened : s1.Only [.xpt] s2 := s1.only_modConn _ _
  refine only.trans ((opened.mono (by decide)).trans ?_)
  exact ((s2.keeps_self _).pump (sub_self _) k).only.mono (by decide)

/-! ### Failing -/

theorem State.flows_failOp (s : State) (c : Conn) (tag : Nat) (o : XOp) : s.Flows False (s.failOp c tag o) := by
  rw [State.failOp]
  split
  · exact .refl _ s
  · split
    · next x _ _ =>
      have counted : s.Flows False (s.count Reg.xptCntIndet 1) := State.flows_of_xpt rfl rfl fun h => h.elim
      have handled := (s.count Reg.xptCntIndet 1).flows_modOp False tag (fun y => { y with opnd := c.handle x.pkt.xp.seq }) fun _ ended => ⟨ended, rfl, rfl, rfl⟩
      exact counted.trans (handled.trans ((State.flows_opDone _ tag .outcomeIndeterminate []).mono fun h => h.elim))
    · exact (s.flows_opDone tag .tierError []).mono fun h => h.elim

/-- The failing connection, before its operations end. -/
def State.severed (s : State) (k : Nat) (c : Conn) : State :=
  let s2 := s.modConn k fun x => { x with state := .failed, sendq := [], waiting := [], sent := [], notReady := [] }
  { s2 with xpt := { s2.xpt with
    stitch := s2.xpt.stitch.filter (fun e => e.conn != k), rob := s2.xpt.rob.filter (fun r => r.1 != k)
    failed := s2.xpt.failed ++ [(⟨k, c.inc, c.peerDev, s2.stk.time + 100000000⟩ : FailedInc)] } }

theorem State.failConn_eq {s : State} {k : Nat} {c : Conn} (here : s.conn k = some c) (up : c.state ≠ .failed) :
    ∃ s1, s.Sent s1 k ∧ s.Only [.bar, .lnk, .xpt, .shp, .freeCtr] s1 ∧
      s.failConn k = ((((s1.xpt.stitch.filter fun e => e.conn == k).foldl State.undefineMsg s1).severed k c).xpt.ops.filter fun q => q.2.conn == k).foldl
        (fun (x : State) q => x.failOp c q.1 q.2) (((s1.xpt.stitch.filter fun e => e.conn == k).foldl State.undefineMsg s1).severed k c) := by
  refine ⟨if c.state = .opened ∨ c.state = .closing then s.sendControl k 0x03#8 0 1 (.close true) else s, ?_, ?_, ?_⟩
  · split
    · exact s.sent_sendControl _ _ _ _ _
    · exact .refl s k
  · split
    · exact s.only_sendControl _ _ _ _ _
    · exact .refl _ _
  · rw [State.failConn, here]
    exact if_neg up

theorem State.undefined_xpt (l : List Stitch) (s : State) : (l.foldl State.undefineMsg s).xpt = s.xpt := by
  induction l generalizing s with
  | nil => rfl
  | cons e l ih => exact (ih _).trans ((s.keeps_self _).undefineMsg (sub_self _) e).only.xpt

theorem State.severed_conn {s : State} {k : Nat} {c d : Conn} (here : s.conn k = some d) :
    (s.severed k c).conn k = some { d with state := .failed, sendq := [], waiting := [], sent := [], notReady := [] } := State.conn_modConn_same _ here

theorem State.failConn_fails {s : State} {k : Nat} {c : Conn} (here : s.conn k = some c) (up : c.state ≠ .failed) :
    ∃ d, (s.failConn k).conn k = some d ∧ d.state = .failed ∧ d.sendq = [] ∧ d.sent = [] ∧ d.waiting = [] := by
  obtain ⟨s1, sent, -, failed⟩ := State.failConn_eq here up
  obtain ⟨e, there, -⟩ := sent.own c here
  have undefined : ((s1.xpt.stitch.filter fun e => e.conn == k).foldl State.undefineMsg s1).conn k = some e :=
    (State.conn_congr (congrArg Xpt.conns (State.undefined_xpt _ s1)) k).trans there
  have cut := State.severed_conn (c := c) undefined
  obtain ⟨d, last, same, rests⟩ := (State.flows_foldl False (fun (x : State) (q : Nat × XOp) => x.failOp c q.1 q.2)
    ((((s1.xpt.stitch.filter fun e => e.conn == k).foldl State.undefineMsg s1).severed k c).xpt.ops.filter fun q => q.2.conn == k) _
    fun t q => t.flows_failOp c q.1 q.2).conns k _ cut
  obtain ⟨idle, none_, sent'⟩ := rests rfl rfl
  rw [failed]
  exact ⟨d, last, same.state, idle, sent', none_⟩

theorem State.severed_only (s : State) (k : Nat) (c : Conn) : s.Only [.xpt] (s.severed k c) := by simp [State.Only, State.severed, State.modConn]

/-- Where the stitcher holds nothing, a failure leaves memory alone. -/
theorem State.failConn_only {s : State} {k : Nat} {c : Conn} (here : s.conn k = some c) (up : c.state ≠ .failed) (empty : s.xpt.stitch = []) :
    s.Only [.bar, .cores, .lnk, .xpt, .shp, .blt, .freeCtr] (s.failConn k) := by
  obtain ⟨s1, sent, only, failed⟩ := State.failConn_eq here up
  obtain ⟨_, _, x⟩ := sent.xpt
  have none_ : (s1.xpt.stitch.filter fun e => e.conn == k) = [] := by rw [x, empty]; rfl
  rw [failed, none_]
  have cut := s1.severed_only k c
  refine (only.mono (by decide)).trans ((cut.mono (by decide)).trans ?_)
  exact (((s1.severed k c).keeps_self [.bar, .cores, .lnk, .xpt, .shp, .blt, .freeCtr]).foldl _ _ fun t q kt => kt.failOp (by decide) c q.1 q.2).only

/-! ### CLOSE -/

theorem closePkt_aborts (s s1 : State) (p : Packet) (now k : Nat) (c : Conn) (received : s.receive p now false = (s1, some (k, c))) (body : p.body = .close true) :
    ∃ t d, exec (.closePkt p now) s = .next t ∧ t.conn k = some d ∧ d.state = .failed ∧ d.sendq = [] ∧ d.sent = [] ∧ d.waiting = [] ∧
      (s1.xpt.stitch = [] → s.Only [.bar, .stk, .cores, .lnk, .xpt, .shp, .blt, .freeCtr] t) ∧
      s.Only [.bar, .stk, .cores, .memory, .lnk, .xpt, .shp, .blt, .host, .out, .freeCtr] t := by
  obtain ⟨-, here, live, -, only⟩ := State.receive_some received
  have up : c.state ≠ .failed := fun failed => by
    rw [Conn.live, failed] at live
    exact absurd live (by decide)
  have run : exec (.closePkt p now) s = .next (s1.failConn k) := by
    have unfolded : exec (.closePkt p now) s = execClosePkt p now s := rfl
    rw [unfolded, execClosePkt, received, body]
    exact if_pos rfl
  obtain ⟨d, there, state, idle, sent, none_⟩ := State.failConn_fails here up
  refine ⟨_, d, run, there, state, idle, sent, none_, fun empty => ?_, ?_⟩
  · exact (only.mono (by decide)).trans ((State.failConn_only here up empty).mono (by decide))
  · exact (only.mono (by decide)).trans (((s1.keeps_self _).failConn (sub_self _) k).only.mono (by decide))

theorem closePkt_frees (s s1 : State) (p : Packet) (now k : Nat) (c : Conn) (received : s.receive p now false = (s1, some (k, c))) (body : p.body = .close false)
    (none_ : c.waiting = []) :
    ∃ t, exec (.closePkt p now) s = .next t ∧ t.conn k = none ∧ s.Only [.bar, .stk, .cores, .lnk, .xpt, .shp, .blt, .freeCtr] t := by
  obtain ⟨-, here, -, -, only⟩ := State.receive_some received
  let s2 := s1.sendControl k 0x04#8 0 0 .closeAck
  have run : exec (.closePkt p now) s = .next (s2.closed k) := by
    have unfolded : exec (.closePkt p now) s = execClosePkt p now s := rfl
    rw [unfolded, execClosePkt, received, body]
    exact if_neg (by decide)
  obtain ⟨d, there, used⟩ := (s1.sent_sendControl k 0x04#8 0 0 .closeAck).own c here
  have waiting : d.waiting = [] := by
    obtain ⟨_, _, _, _, rfl⟩ := used
    exact none_
  have freed := State.closed_frees (s := s2) there waiting
  refine ⟨_, run, by rw [freed]; exact s2.conn_freeConn k, ?_⟩
  have answered : s1.Only [.bar, .lnk, .xpt, .shp, .freeCtr] s2 := s1.only_sendControl _ _ _ _ _
  refine only.trans ((answered.mono (by decide)).trans ?_)
  rw [freed]
  exact ((s2.keeps_self _).freeConn (sub_self _) k).only.mono (by decide)

theorem closeAck_frees (s s1 : State) (p : Packet) (now k : Nat) (c : Conn) (received : s.receive p now false = (s1, some (k, c))) :
    ∃ t, exec (.closeAck p now) s = .next t ∧ (c.state = .closing → c.waiting = [] → t.conn k = none) ∧ (c.state ≠ .closing → t = s1) ∧
      s.Only [.bar, .stk, .cores, .lnk, .xpt, .shp, .blt, .freeCtr] t := by
  obtain ⟨-, here, -, -, only⟩ := State.receive_some received
  have run : exec (.closeAck p now) s = if c.state = .closing then .next (s1.closed k) else .next s1 := by
    have unfolded : exec (.closeAck p now) s = execCloseAck p now s := rfl
    rw [unfolded, execCloseAck, received]
  by_cases closing : c.state = .closing
  · refine ⟨_, run.trans (if_pos closing), fun _ none_ => ?_, fun open_ => absurd closing open_, ?_⟩
    · rw [State.closed_frees here none_]
      exact s1.conn_freeConn k
    · exact only.trans (((s1.keeps_self _).closed (sub_self _) k).only.mono (by decide))
  · exact ⟨s1, run.trans (if_neg closing), fun h => absurd h closing, fun _ => rfl, only⟩

theorem closeTimeout_frees (s : State) (conn now : Nat) (c : Conn) (here : s.conn conn = some c) (closing : c.state = .closing) (late : c.closeAt + 3 * c.rto ≤ now)
    (none_ : c.waiting = []) :
    ∃ t, exec (.closeTimeout conn now) s = .next t ∧ t.conn conn = none ∧ (∀ j, j ≠ conn → t.conn j = s.conn j) ∧ s.Only [.stk, .xpt] t := by
  have here' : (s.at_ now).conn conn = some c := here
  have run : exec (.closeTimeout conn now) s = .next ((s.at_ now).closed conn) := by
    have unfolded : exec (.closeTimeout conn now) s = execCloseTimeout conn now s := rfl
    rw [unfolded, execCloseTimeout]
    simp only [here']
    exact if_pos ⟨closing, late⟩
  rw [State.closed_frees here' none_] at run
  refine ⟨_, run, (s.at_ now).conn_freeConn conn, fun j ne => (s.at_ now).conn_freeConn_ne ne, ?_⟩
  exact ((s.only_at now).mono (by decide)).trans ((((s.at_ now).keeps_self _).freeConn (sub_self _) conn).only.mono (by decide))

theorem connectionIdle_closes (s : State) (conn : Nat) (c : Conn) (here : s.conn conn = some c) (opened : c.state = .opened) (timed : s.fld Reg.xptCc 15 0 ≠ 0)
    (noOps : c.ops = 0) (none_ : c.waiting = []) (acked : c.sent = []) (idle : c.lastUse + s.fld Reg.xptCc 15 0 ≤ s.strokeNow) (results : s.xpt.results = []) :
    ∃ t d, exec (.connectionIdle conn) s = .next t ∧ t.conn conn = some d ∧ d.state = .closing ∧ d.closeAt = s.stk.time ∧ (∀ j, j ≠ conn → t.conn j = s.conn j) ∧
      s.Only [.bar, .lnk, .xpt, .shp, .freeCtr] t := by
  let s1 := s.sendControl conn 0x03#8 0 1 (.close false)
  let close (x : Conn) : Conn := { x with state := .closing, closeAt := s.stk.time }
  have sent := s.sent_sendControl conn 0x03#8 0 1 (.close false)
  obtain ⟨d, there, -⟩ := sent.own c here
  have run : exec (.connectionIdle conn) s = .next (s1.modConn conn close) := by
    have unfolded : exec (.connectionIdle conn) s = execConnectionIdle conn s := rfl
    rw [unfolded, execConnectionIdle, here]
    exact if_pos ⟨opened, timed, noOps, by rw [none_]; rfl, by rw [acked]; rfl, idle, by rw [results]; rfl⟩
  refine ⟨_, close d, run, State.conn_modConn_same _ there, rfl, rfl, fun j ne => (State.conn_modConn_ne _ _ ne).trans (sent.others j ne), ?_⟩
  exact (s.only_sendControl _ _ _ _ _).trans ((s1.only_modConn _ _).mono (by decide))

/-- Settles O37: a context from its OPEN to its end. -/
theorem connectionsOpenAndClose : Obligations.ConnectionsOpenAndClose :=
  ⟨openPkt_opens, openPkt_refused, openAck_opens, closePkt_aborts, closePkt_frees, closeAck_frees, closeTimeout_frees, connectionIdle_closes⟩

end Sys2Proof.Machine
end

section
/-!
PROOFS. Acknowledgements, refusals and retransmission of the transport (O38).
-/
namespace Sys2Proof.Machine

theorem State.conn_at (s : State) (now k : Nat) : (s.at_ now).conn k = s.conn k := rfl

theorem State.only_at_stk (s : State) (now : Nat) : s.Only [.stk] (s.at_ now) := by simp [State.Only, State.at_]

theorem ackHits_not (ack : BitVec 32) (bitmap : BitVec 64) (x : Sent) :
    (!ackHits ack bitmap x) = (x.pkt.answered || !(serialLt 32 x.pkt.xp.seq.toNat ack.toNat || selected ack x.pkt.xp.seq bitmap)) := by
  rw [ackHits, Bool.not_and, Bool.not_not]

/-! ### Acknowledgements -/

theorem ack_drops (s s1 : State) (p : Packet) (now k : Nat) (c : Conn) (bitmap : BitVec 64) (received : s.receive p now false = (s1, some (k, c)))
    (body : p.body = .ack bitmap) (idle : c.sendq = []) (none_ : c.waiting = []) :
    ∃ t d, exec (.ack p now) s = .next t ∧ t.conn k = some d ∧
      d.sent = c.sent.filter (fun x => x.pkt.answered || !(serialLt 32 x.pkt.xp.seq.toNat p.xp.ack.toNat || selected p.xp.ack x.pkt.xp.seq bitmap)) ∧
      s.Only [.bar, .stk, .cores, .lnk, .xpt, .shp, .blt, .freeCtr] t := by
  obtain ⟨-, here, -, -, only⟩ := State.receive_some received
  have run : exec (.ack p now) s = .next (s1.takeAck k p.xp.ack bitmap p.xp.echo) := by
    have unfolded : exec (.ack p now) s = execAck p now s := rfl
    rw [unfolded, execAck, received, body]
  obtain ⟨d, there, -, rests⟩ := State.takeAck_own here p.xp.ack bitmap p.xp.echo
  obtain ⟨-, -, sent⟩ := rests idle none_
  refine ⟨_, d, run, there, sent.trans (List.filter_congr fun x _ => ackHits_not _ _ x), ?_⟩
  exact only.trans (((s1.keeps_self _).takeAck (sub_self _) k p.xp.ack bitmap p.xp.echo).only.mono (by decide))

theorem State.sendControl_unacked {s : State} {k : Nat} {c : Conn} (type : BitVec 8) (tag : BitVec 16) (len : Nat) (body : Body) (here : s.conn k = some c) :
    ∃ d, (s.sendControl k type tag len body).conn k = some d ∧ d.unacked = 0 ∧ c.Used d := by
  rw [State.sendControl, here]
  exact State.launch_unacked _ here

theorem State.sendAck_unacked {s : State} {k : Nat} {c : Conn} (here : s.conn k = some c) : ∃ d, (s.sendAck k).conn k = some d ∧ d.unacked = 0 ∧ c.Used d := by
  rw [State.sendAck, here]
  exact State.sendControl_unacked _ _ _ _ here

theorem ackDelayTimer_acks (s : State) (conn now : Nat) (c : Conn) (here : s.conn conn = some c) (opened : c.state = .opened) (owed : c.unacked ≠ 0)
    (due : c.firstAt + 1000 ≤ now) :
    ∃ t d, exec (.ackDelayTimer conn now) s = .next t ∧ t.conn conn = some d ∧ d.unacked = 0 ∧ d.rcvNxt = c.rcvNxt ∧ (∀ j, j ≠ conn → t.conn j = s.conn j) ∧
      s.Only [.bar, .stk, .lnk, .xpt, .shp, .freeCtr] t := by
  have here' : (s.at_ now).conn conn = some c := here
  have run : exec (.ackDelayTimer conn now) s = .next ((s.at_ now).sendAck conn) := by
    have unfolded : exec (.ackDelayTimer conn now) s = execAckDelayTimer conn now s := rfl
    rw [unfolded, execAckDelayTimer]
    simp only [here']
    exact if_pos ⟨opened, owed, due⟩
  obtain ⟨d, there, none_, used⟩ := State.sendAck_unacked here'
  refine ⟨_, d, run, there, none_, used.same.rcvNxt, fun j ne => ((s.at_ now).sent_sendAck conn).others j ne, ?_⟩
  exact ((s.only_at_stk now).mono (by decide)).trans ((((s.at_ now).keeps_self _).sendAck (sub_self _) conn).only.mono (by decide))

/-! ### Packets sent again -/

/-- A packet of a connection as it is sent again. -/
def Conn.again (c : Conn) (x : Machine.Sent) : Packet :=
  { x.pkt with xp := { x.pkt.xp with retx := true, ack := c.rcvNxt, echo := c.echoDue }, viaValid := false, nonmin := false }

/-- A connection that keeps the packet as it was sent again. -/
def Conn.resent (c : Conn) (x : Machine.Sent) (p : Packet) (time : Nat) : Conn :=
  { c with sent := c.sent.map fun z => if z = x then { pkt := p, at_ := time } else z }

theorem State.resend_eq {s : State} {k : Nat} {c : Conn} (x : Machine.Sent) (here : s.conn k = some c) :
    s.resend k x = ((s.modConn k fun y => y.resent x (c.again x) s.stk.time).count Reg.xptCntRetx 1).launch k (c.again x) := by
  rw [State.resend, here]
  rfl

theorem State.drives_resend (s : State) (k : Nat) (x : Machine.Sent) : s.Drives False (s.resend k x) k := by
  cases here : s.conn k with
  | none =>
    rw [State.resend, here]
    exact .refl False s k
  | some c =>
    rw [State.resend_eq x here]
    let s1 := s.modConn k fun y => y.resent x (c.again x) s.stk.time
    have counted : s1.Drives False (s1.count Reg.xptCntRetx 1) k :=
      ⟨⟨⟨_, _, _, rfl⟩, fun _ h => h, fun _ o found done => ⟨o, found, done, rfl, rfl, rfl⟩, fun h => h.elim, rfl⟩, fun _ _ => rfl, fun y found => ⟨y, found, .refl y⟩⟩
    exact (counted.trans (State.sent_launch _ k (c.again x)).drives).after_modConn fun y => by constructor <;> rfl

theorem State.drives_resends (l : List Machine.Sent) (s : State) (k : Nat) : s.Drives False (l.foldl (fun (y : State) x => y.resend k x) s) k := by
  induction l generalizing s with
  | nil => exact .refl False s k
  | cons x l ih => exact (s.drives_resend k x).trans (ih _)

theorem State.resends_only (l : List Machine.Sent) (s : State) (k : Nat) :
    s.Only [.bar, .lnk, .xpt, .shp, .freeCtr] (l.foldl (fun (y : State) x => y.resend k x) s) :=
  ((s.keeps_self [.bar, .lnk, .xpt, .shp, .freeCtr]).foldl _ _ fun _ x kt => kt.resend (by decide) k x).only

/-- A packet sent again is counted. -/
theorem State.resend_reg {s : State} {k : Nat} {c : Conn} (x : Machine.Sent) (here : s.conn k = some c) :
    (s.resend k x).reg Reg.xptCntRetx = min 0xFFFFFFFF (s.reg Reg.xptCntRetx + 1) := by
  rw [State.resend_eq x here]
  exact ((State.sent_launch _ k (c.again x)).reg _ (by decide)).trans (State.reg_count_same _ _ _)

theorem exec_nak {s s1 : State} {p : Packet} {now k kind : Nat} {c : Conn} {x : Sent} {st : Status} {seq : BitVec 32}
    (accepted : s.acceptPacket p now false = (s1, some (k, c))) (body : p.body = .nak kind st seq) (open_ : c.state ≠ .opening)
    (found : c.sent.find? (fun y => y.pkt.xp.seq == seq) = some x) :
    exec (.nak p now) s = .next ((s1.takeNak k kind st x).takeAck k p.xp.ack 0 p.xp.echo) := by
  have unfolded : exec (.nak p now) s = execNak p now s := rfl
  rw [unfolded, execNak, accepted, body]
  refine (if_neg open_).trans ?_
  rw [found]

theorem nak_gap (s s1 : State) (p : Packet) (now k : Nat) (c : Conn) (x : Sent) (st : Status) (seq : BitVec 32) (accepted : s.acceptPacket p now false = (s1, some (k, c)))
    (body : p.body = .nak 1 st seq) (open_ : c.state ≠ .opening) (found : c.sent.find? (fun y => y.pkt.xp.seq == seq) = some x) :
    ∃ t, exec (.nak p now) s = .next t ∧ t = (s1.resend k x).takeAck k p.xp.ack 0 p.xp.echo ∧ t.reg Reg.xptCntRetx = min 0xFFFFFFFF (s1.reg Reg.xptCntRetx + 1) := by
  obtain ⟨-, here, -⟩ := State.acceptPacket_some accepted
  refine ⟨_, exec_nak accepted body open_ found, rfl, ?_⟩
  exact ((State.takeAck_steady True (s1.resend k x) k p.xp.ack 0 p.xp.echo).reg trivial _ (by decide)).trans (State.resend_reg x here)

theorem nak_notReady (s s1 : State) (p : Packet) (now k : Nat) (c : Conn) (x : Sent) (st : Status) (seq : BitVec 32)
    (accepted : s.acceptPacket p now false = (s1, some (k, c))) (body : p.body = .nak 2 st seq) (open_ : c.state ≠ .opening)
    (found : c.sent.find? (fun y => y.pkt.xp.seq == seq) = some x) :
    exec (.nak p now) s = .next ((s1.modConn k fun y => { y with notReady := y.notReady ++ [seq] }).takeAck k p.xp.ack 0 p.xp.echo) := by
  have named : x.pkt.xp.seq = seq := eq_of_beq (List.find?_some found :)
  rw [exec_nak accepted body open_ found, ← named]
  rfl

theorem State.opDone_queue {s : State} {tag : Nat} {o : XOp} {q i : Nat} (st : Status) (result : List Byte) (found : afind s.xpt.ops tag = some o) (undone : o.done = false)
    (origin : o.origin = .queue q i) :
    s.opDone tag st result = { s with xpt := { s.xpt with ops := aput s.xpt.ops tag { o with done := true, status := st, result := result } } } := by
  rw [State.opDone, found]
  refine (if_neg (by rw [undone]; decide)).trans ?_
  dsimp only
  rw [origin]

theorem nak_refused (s s1 : State) (p : Packet) (now k : Nat) (c : Conn) (x : Sent) (o : XOp) (q i : Nat) (st : Status) (seq : BitVec 32)
    (accepted : s.acceptPacket p now false = (s1, some (k, c))) (body : p.body = .nak 3 st seq) (open_ : c.state ≠ .opening)
    (found : c.sent.find? (fun y => y.pkt.xp.seq == seq) = some x) (tagged : s1.tagOf k x.pkt = true) (known : afind s1.xpt.ops x.pkt.xp.tag.toNat = some o)
    (undone : o.done = false) (origin : o.origin = .queue q i) :
    ∃ t o2, exec (.nak p now) s = .next t ∧ afind t.xpt.ops x.pkt.xp.tag.toNat = some o2 ∧ o2.done = true ∧ o2.status = st ∧ o2.result = [] ∧ o2.origin = o.origin := by
  let s2 := s1.modConn k fun y => { y with
    sent := y.sent.erase x, inflight := y.inflight - x.pkt.len, sendq := y.sendq.filter fun r => r.xp.tag != x.pkt.xp.tag }
  have taken : s1.takeNak k 3 st x = (s2.opDone x.pkt.xp.tag.toNat st []).pump k :=
    congrArg (State.pump · k) (if_pos tagged)
  have ended : afind (s2.opDone x.pkt.xp.tag.toNat st []).xpt.ops x.pkt.xp.tag.toNat = some { o with done := true, status := st, result := [] } := by
    rw [State.opDone_queue st [] (s := s2) known undone origin]
    exact afind_aput_same _ _ _
  let s3 := s2.opDone x.pkt.xp.tag.toNat st []
  have steady : s3.Steady False ((s3.pump k).takeAck k p.xp.ack 0 p.xp.echo) := (s3.drives_pump False k).toSteady.trans (State.takeAck_steady False _ k _ _ _)
  obtain ⟨o2, last, same⟩ := steady.ended _ _ ended rfl
  exact ⟨_, o2, (exec_nak accepted body open_ found).trans (by rw [taken]), last, same.done, same.status, same.result, same.origin⟩

theorem notReadyRetry_resends (s : State) (conn now : Nat) (c : Conn) (here : s.conn conn = some c) :
    ∃ t d, exec (.notReadyRetry conn now) s = .next t ∧ t.conn conn = some d ∧ d.notReady = [] ∧ d.retries = c.retries ∧ (∀ j, j ≠ conn → t.conn j = s.conn j) ∧
      s.Only [.bar, .stk, .lnk, .xpt, .shp, .freeCtr] t := by
  let s1 := (s.at_ now).modConn conn fun y => { y with notReady := [] }
  let due := c.sent.filter fun x => c.notReady.contains x.pkt.xp.seq
  have here' : (s.at_ now).conn conn = some c := here
  have run : exec (.notReadyRetry conn now) s = .next (due.foldl (fun (y : State) x => y.resend conn x) s1) := by
    have unfolded : exec (.notReadyRetry conn now) s = execNotReadyRetry conn now s := rfl
    rw [unfolded, execNotReadyRetry]
    simp only [here']
    rfl
  have resent := State.drives_resends due s1 conn
  obtain ⟨d, there, same⟩ := resent.own _ (State.conn_modConn_same _ here')
  refine ⟨_, d, run, there, same.notReady, same.retries, fun j ne => (resent.others j ne).trans ((s.at_ now).conn_modConn_ne _ ne), ?_⟩
  have cleared : (s.at_ now).Only [.xpt] s1 := State.only_modConn _ _ _
  exact ((s.only_at_stk now).mono (by decide)).trans ((cleared.mono (by decide)).trans ((s1.resends_only due conn).mono (by decide)))

/-! ### The retransmission timer -/

theorem due_of_mem {c : Conn} {x : Sent} {now : Nat} (mem : x ∈ c.sent) (late : x.at_ + c.rto ≤ now) (opened : c.state = .opened) :
    ¬((c.sent.filter fun x => decide (x.at_ + c.rto ≤ now)).isEmpty = true ∨ c.state = .failed) := by
  rintro (none_ | failed)
  · rw [List.isEmpty_iff, List.filter_eq_nil_iff] at none_
    exact none_ x mem (decide_eq_true late)
  · rw [opened] at failed
    cases failed

theorem retransmitTimeout_backsOff (s : State) (conn now : Nat) (c : Conn) (x : Sent) (here : s.conn conn = some c) (opened : c.state = .opened) (mem : x ∈ c.sent)
    (late : x.at_ + c.rto ≤ now) (more : c.retries + 1 < s.retryMax) :
    ∃ t d, exec (.retransmitTimeout conn now) s = .next t ∧ t.conn conn = some d ∧ d.state = .opened ∧ d.retries = c.retries + 1 ∧ d.rto = min (16 * s.rtoMin) (2 * c.rto) ∧
      d.window = (if c.cls.val = 0 then c.window else 4096) ∧ s.Only [.bar, .stk, .lnk, .xpt, .shp, .freeCtr] t := by
  let s1 := (s.at_ now).modConn conn fun y => { y with
    retries := y.retries + 1, rto := min (16 * (s.at_ now).rtoMin) (2 * y.rto), window := if y.cls.val = 0 then y.window else 4096 }
  let due := c.sent.filter fun x => decide (x.at_ + c.rto ≤ now)
  have here' : (s.at_ now).conn conn = some c := here
  have run : exec (.retransmitTimeout conn now) s = .next (due.foldl (fun (y : State) x => y.resend conn x) s1) := by
    have unfolded : exec (.retransmitTimeout conn now) s = execRetransmitTimeout conn now s := rfl
    rw [unfolded, execRetransmitTimeout]
    simp only [here']
    exact (if_neg (due_of_mem mem late opened)).trans (if_neg (Nat.not_le.2 more))
  have resent := State.drives_resends due s1 conn
  obtain ⟨d, there, same⟩ := resent.own _ (State.conn_modConn_same _ here')
  refine ⟨_, d, run, there, same.state.trans opened, same.retries, same.rto, same.window, ?_⟩
  have doubled : (s.at_ now).Only [.xpt] s1 := State.only_modConn _ _ _
  exact ((s.only_at_stk now).mono (by decide)).trans ((doubled.mono (by decide)).trans ((s1.resends_only due conn).mono (by decide)))

theorem State.failOp_plain {s : State} {c : Conn} {tag : Nat} {o : XOp} (undone : o.done = false) (plain : o.kind ≠ .atomic) : s.failOp c tag o = s.opDone tag .tierError [] := by
  rw [State.failOp]
  refine (if_neg (by rw [undone]; decide)).trans ?_
  split
  · next kind _ => exact absurd kind plain
  · rfl

theorem retransmitTimeout_fails (s : State) (conn now : Nat) (c : Conn) (x : Sent) (tag : Nat) (o : XOp) (q i : Nat) (here : s.conn conn = some c) (opened : c.state = .opened)
    (mem : x ∈ c.sent) (late : x.at_ + c.rto ≤ now) (last : s.retryMax ≤ c.retries + 1) (ops : s.xpt.ops = [(tag, o)]) (mine : o.conn = conn) (undone : o.done = false)
    (origin : o.origin = .queue q i) (plain : o.kind ≠ .atomic) :
    ∃ t d, exec (.retransmitTimeout conn now) s = .next t ∧ t.conn conn = some d ∧ d.state = .failed ∧
      afind t.xpt.ops tag = some { o with done := true, status := .tierError, result := [] } := by
  have here' : (s.at_ now).conn conn = some c := here
  have run : exec (.retransmitTimeout conn now) s = .next ((s.at_ now).failConn conn) := by
    have unfolded : exec (.retransmitTimeout conn now) s = execRetransmitTimeout conn now s := rfl
    rw [unfolded, execRetransmitTimeout]
    simp only [here']
    refine (if_neg (due_of_mem mem late opened)).trans ((if_pos last).trans (if_neg ?_))
    rw [opened]
    decide
  have up : c.state ≠ .failed := fun failed => by
    rw [opened] at failed
    cases failed
  obtain ⟨d, there, state, -⟩ := State.failConn_fails here' up
  refine ⟨_, d, run, there, state, ?_⟩
  obtain ⟨s1, sent, -, failed⟩ := State.failConn_eq here' up
  obtain ⟨_, _, kept⟩ := sent.xpt
  generalize cut : ((s1.xpt.stitch.filter fun e => e.conn == conn).foldl State.undefineMsg s1).severed conn c = s2 at failed
  have ops2 : s2.xpt.ops = [(tag, o)] := by
    rw [← cut]
    refine (congrArg Xpt.ops (State.undefined_xpt _ s1)).trans ?_
    rw [kept]
    exact ops
  have chosen : s2.xpt.ops.filter (fun q => q.2.conn == conn) = [(tag, o)] := by
    rw [ops2]
    exact List.filter_cons_of_pos (beq_iff_eq.2 mine)
  have found : afind s2.xpt.ops tag = some o := by
    rw [ops2, afind]
    exact if_pos rfl
  rw [failed, chosen]
  change afind (s2.failOp c tag o).xpt.ops tag = _
  rw [State.failOp_plain undone plain, State.opDone_queue _ _ found undone origin]
  exact afind_aput_same _ _ _

/-- Settles O38: acknowledgements, refusals, and what is sent again. -/
theorem acksAndRetransmission : Obligations.AcksAndRetransmission :=
  ⟨ack_drops, ackDelayTimer_acks, nak_gap, nak_notReady, nak_refused, notReadyRetry_resends, retransmitTimeout_backsOff, retransmitTimeout_fails⟩

end Sys2Proof.Machine
end

section
/-!
PROOFS. Requests at their home (O39).
-/
namespace Sys2Proof.Machine

/-! ### Bytes of a range -/

theorem memRead_length (m : Mem) (a n : Nat) : (memRead m a n).length = n := by
  induction n generalizing a with
  | zero => rfl
  | succ n ih => rw [memRead, List.length_cons, ih]

theorem memRead_getElem? (m : Mem) (a n i : Nat) (h : i < n) : (memRead m a n)[i]? = some (memByte m (a + i)) := by
  induction n generalizing a i with
  | zero => omega
  | succ n ih =>
    rw [memRead]
    cases i with
    | zero => rfl
    | succ i =>
      rw [List.getElem?_cons_succ, ih (a + 1) i (by omega)]
      congr 2
      omega

theorem memByte_memWrite_mem (m : Mem) (a : Nat) (l : List Byte) (i : Nat) (h : i < l.length) : some (memByte (memWrite m a l) (a + i)) = l[i]? := by
  rw [← memRead_getElem? _ _ _ _ h, memRead_memWrite]

theorem masked_length (old new : List Byte) (mask : Nat) : (masked old new mask).length = old.length := by
  rw [masked, List.length_map, List.length_zipIdx]

theorem masked_getElem? (old new : List Byte) (mask i : Nat) (b : Byte) (there : old[i]? = some b) :
    (masked old new mask)[i]? = some (if bitAt mask i then new.getD i b else b) := by
  rw [masked, List.getElem?_map, List.getElem?_zipIdx, there]
  simp

/-- A write under a mask brings the mask's bytes and leaves every other. -/
theorem memByte_masked (m : Mem) (a mask : Nat) (data : List Byte) (x : Nat) :
    memByte (memWrite m a (masked (memRead m a data.length) data mask)) x =
      if a ≤ x ∧ x < a + data.length ∧ bitAt mask (x - a) = true then data.getD (x - a) 0 else memByte m x := by
  have size : (masked (memRead m a data.length) data mask).length = data.length := (masked_length _ _ _).trans (memRead_length _ _ _)
  by_cases inside : a ≤ x ∧ x < a + data.length
  · obtain ⟨i, rfl⟩ : ∃ i, x = a + i := ⟨x - a, by omega⟩
    have lt : i < data.length := by omega
    have written := memByte_memWrite_mem m a (masked (memRead m a data.length) data mask) i (by rw [size]; exact lt)
    rw [masked_getElem? _ _ _ _ _ (memRead_getElem? m a data.length i lt)] at written
    rw [Option.some.inj written, Nat.add_sub_cancel_left]
    by_cases on : bitAt mask i = true
    · rw [if_pos on, if_pos ⟨inside.1, inside.2, on⟩, List.getD_eq_getElem _ _ lt, List.getD_eq_getElem _ _ lt]
    · rw [if_neg on, if_neg fun h => on h.2.2]
  · rw [if_neg fun h => inside ⟨h.1, h.2.1⟩]
    exact memByte_memWrite_ne _ _ _ _ (by omega)

/-! ### What landing leaves of the transport -/

/-- A request that lands leaves of the transport all but the connections, their cache, operations and the stitcher. -/
def State.Lands (s t : State) : Prop := ∃ conns cache ops stitch, t.xpt = { s.xpt with conns := conns, cache := cache, ops := ops, stitch := stitch }

theorem State.Lands.refl (s : State) : s.Lands s := ⟨_, _, _, _, rfl⟩

theorem State.Lands.trans {s t u : State} (h : s.Lands t) (k : t.Lands u) : s.Lands u := by
  obtain ⟨_, _, _, _, x⟩ := h
  obtain ⟨_, _, _, _, y⟩ := k
  exact ⟨_, _, _, _, by rw [y, x]⟩

theorem State.Lands.of_xpt {s t : State} (xpt : t.xpt = s.xpt) : s.Lands t := ⟨_, _, _, _, xpt⟩

theorem State.Lands.rob {s t : State} (h : s.Lands t) : t.xpt.rob = s.xpt.rob := by
  obtain ⟨_, _, _, _, x⟩ := h
  rw [x]

theorem State.Lands.results {s t : State} (h : s.Lands t) : t.xpt.results = s.xpt.results := by
  obtain ⟨_, _, _, _, x⟩ := h
  rw [x]

theorem State.Lands.groups {s t : State} (h : s.Lands t) : t.xpt.groups = s.xpt.groups := by
  obtain ⟨_, _, _, _, x⟩ := h
  rw [x]

theorem State.Lands.collectors {s t : State} (h : s.Lands t) : t.xpt.collectors = s.xpt.collectors := by
  obtain ⟨_, _, _, _, x⟩ := h
  rw [x]

theorem State.Sent.lands {s t : State} {k : Nat} (h : s.Sent t k) : s.Lands t := by
  obtain ⟨_, _, x⟩ := h.xpt
  exact ⟨_, _, _, _, x⟩

theorem State.Steady.lands {R : Prop} {s t : State} (h : s.Steady R t) : s.Lands t := by
  obtain ⟨_, _, _, x⟩ := h.rest
  exact ⟨_, _, _, _, x⟩

theorem State.lands_modConn (s : State) (k : Nat) (f : Conn → Conn) : s.Lands (s.modConn k f) := ⟨_, _, _, _, rfl⟩

theorem State.lands_arrive (s : State) (k : Nat) (seq : BitVec 32) : s.Lands (s.arrive k seq) := by
  rw [State.arrive]
  split
  · exact .refl s
  · dsimp only
    split
    · exact (s.lands_modConn k _).trans (State.sent_sendAck _ k).lands
    · exact s.lands_modConn k _

theorem State.lands_sendNak (s : State) (k kind : Nat) (st : Status) (seq : BitVec 32) (tag : BitVec 16) : s.Lands (s.sendNak k kind st seq tag) := by
  rw [State.sendNak]
  refine State.Lands.trans ?_ (State.sent_sendControl _ k _ _ _ _).lands
  split
  · exact .of_xpt rfl
  · split
    · exact .of_xpt rfl
    · exact .refl s

theorem State.lands_cvSet (s : State) (p bit : Nat) : s.Lands (s.cvSet p bit) := .of_xpt ((s.keeps_self _).cvSet (sub_self _) p bit).only.xpt

theorem State.lands_deliverMsgs (s : State) (k n : Nat) : s.Lands (s.deliverMsgs k n) := by
  induction n generalizing s with
  | zero => exact .refl s
  | succ n ih =>
    rw [State.deliverMsgs]
    split
    · exact .refl s
    · split
      · exact .refl s
      · next e _ =>
        refine State.Lands.trans ?_ (ih _)
        by_cases gone : e.abandoned = true
        · simp only [gone, if_true]
          split <;> exact s.lands_modConn k _
        · simp only [if_neg gone]
          split
          · refine State.Lands.trans ?_ (State.lands_cvSet _ _ _)
            exact ⟨_, _, _, _, rfl⟩
          · exact ⟨_, _, _, _, rfl⟩

theorem State.lands_wholeMsg (s : State) (k : Nat) (msg : BitVec 32) : s.Lands (s.wholeMsg k msg) := by
  rw [State.wholeMsg]
  exact State.Lands.trans ⟨_, _, _, _, rfl⟩ (State.lands_deliverMsgs _ k _)

/-- Where no packet waits behind a gap, nothing follows an arrival. -/
theorem State.settle_empty {s : State} (k : Nat) (none_ : s.xpt.rob = []) : s.settle k = s := by
  rw [State.settle, none_]
  rfl

theorem State.Lands.settle {s t : State} (h : s.Lands t) (k : Nat) (none_ : s.xpt.rob = []) : t.settle k = t := State.settle_empty k (h.rob.trans none_)

/-- The refusal of a packet that is not part of a message. -/
theorem State.refuse_plain {s : State} {p : Packet} (k : Nat) (st : Status) (put : ∀ h rcv data, p.body ≠ .put h rcv data) (get : ∀ h, p.body ≠ .get h)
    (keyed : ∀ h aop opnd cmp, p.body ≠ .atomic (.keyed h) aop opnd cmp) : s.refuse k p st = (s.arrive k p.xp.seq).sendNak k 3 st p.xp.seq p.xp.tag := by
  rw [State.refuse]
  split
  · next h rcv data e => exact absurd e (put h rcv data)
  · next h e => exact absurd e (get h)
  · next h aop opnd cmp e => exact absurd e (keyed h aop opnd cmp)
  · rfl

/-- An arrival in sequence with nothing after it. -/
theorem State.arrive_next {s : State} {k : Nat} {c : Conn} (here : s.conn k = some c) (seq : BitVec 32) :
    ∃ d, (s.arrive k seq).conn k = some d ∧ (seq = c.rcvNxt → c.arrived = [] → d.rcvNxt = c.rcvNxt + 1) := by
  have next : seq = c.rcvNxt → c.arrived = [] → (advance (seq :: c.arrived) (c.arrived.length + 1) c.rcvNxt).1 = c.rcvNxt + 1 := fun e none_ => by
    rw [none_, e]
    simp [advance]
  rw [State.arrive, here]
  dsimp only
  split
  · obtain ⟨d, there, used⟩ := (State.sent_sendAck _ k).own _ (State.conn_modConn_same (fun x : Conn => { x with
      rcvNxt := (advance (seq :: c.arrived) (c.arrived.length + 1) c.rcvNxt).1, arrived := (advance (seq :: c.arrived) (c.arrived.length + 1) c.rcvNxt).2,
      unacked := x.unacked + 1, firstAt := if x.unacked = 0 then s.stk.time else x.firstAt }) here)
    exact ⟨d, there, fun e none_ => used.same.rcvNxt.trans (next e none_)⟩
  · exact ⟨_, State.conn_modConn_same _ here, next⟩

/-! ### Requests -/

theorem State.request_eq {s s1 : State} {p : Packet} {now k : Nat} {c : Conn} {mine : Body → Bool} (received : s.receive p now true = (s1, some (k, c)))
    (kind : mine p.body = true) : s.request p now mine = s1.land k c p := by
  rw [State.request]
  refine (if_neg (by rw [kind]; decide)).trans ?_
  rw [received]

theorem State.land_seen {s : State} {k : Nat} {c : Conn} {p : Packet} (seen : c.seen p.xp.seq = true) : s.land k c p = s.duplicate k c p := if_pos seen

theorem State.land_strange {s : State} {k : Nat} {c : Conn} {p : Packet} (fresh : c.seen p.xp.seq = false) (strange : c.matches_ p = false) :
    s.land k c p = (s.refuse k p .protection).settle k :=
  (if_neg (by rw [fresh]; decide)).trans (if_pos (by rw [strange]; rfl))

theorem State.land_match {s : State} {k : Nat} {c : Conn} {p : Packet} (fresh : c.seen p.xp.seq = false) (known : c.matches_ p = true) :
    s.land k c p = match p.body with
      | .put h rcv data => (s.landPut k c p h rcv data).settle k
      | .get h => (s.landGet k c p h).settle k
      | .atomic (.keyed h) aop opnd cmp => (s.landAtomic k c p (.keyed h) aop opnd cmp).settle k
      | .atomic (.window _) _ _ _ => s.landWindow k c p
      | .store .. => s.landWindow k c p
      | .load .. => s.landWindow k c p
      | _ => s :=
  (if_neg (by rw [fresh]; decide)).trans (if_neg (by rw [known]; decide))

/-! ### PUT -/

theorem State.duplicate_put {s : State} {k : Nat} {c : Conn} {p : Packet} {h : OpHdr} {rcv : Option Nat} {data : List Byte} (body : p.body = .put h rcv data) :
    s.duplicate k c p = s.sendAck k := by
  rw [State.duplicate, body]
  split
  · next e => cases e
  · next e => cases e
  · rfl

theorem State.landPut_first {s : State} {k : Nat} {c : Conn} {p : Packet} {h : OpHdr} {rcv : Option Nat} {data : List Byte} (none_ : s.xpt.stitch = []) :
    s.landPut k c p h rcv data = match s.regionCheck c.localPart h.key p.tenant .write h.addr data.length false with
      | .error st => s.refuse k p st
      | .ok (i, r) => State.landPut.go k c p h data s { conn := k, msg := h.msg, len := h.msgLen, parts := [], start := none, bytes := 0, region := i, rcv := rcv, complete := false, abandoned := false } r := by
  rw [State.landPut, none_]
  dsimp only [List.find?_nil]
  cases s.regionCheck c.localPart h.key p.tenant .write h.addr data.length false with
  | error st => rfl
  | ok q => exact if_neg (show ¬8192 ≤ 0 by decide)

/-- The fields that landing a put changes once its data are written. -/
theorem State.landPut_writes {s s2 : State} {k : Nat} {c : Conn} {p : Packet} {h : OpHdr} {data : List Byte} {e : Stitch} {r : Region}
    (written : s.writeVa r.part.val .thread (r.base + h.addr) data = (s2, .ok ())) :
    ∃ t, State.landPut.go k c p h data s e r = t ∧ s2.Lands t ∧ s2.Only [.bar, .cores, .pln, .lnk, .xpt, .shp, .freeCtr] t := by
  rw [State.landPut.go, written]
  dsimp only
  generalize (s2.xpt.stitch.filter fun x => !(x.conn == k && x.msg == h.msg)) ++ _ = l
  refine ⟨_, rfl, ?_, ?_⟩
  · refine State.Lands.trans ?_ (State.lands_deliverMsgs _ k _)
    exact State.Lands.trans (t := { s2 with xpt := { s2.xpt with stitch := l } }) ⟨_, _, _, _, rfl⟩ (State.lands_arrive _ k _)
  · have put : s2.Only [.xpt] { s2 with xpt := { s2.xpt with stitch := l } } := by simp [State.Only]
    exact (put.mono (by decide)).trans (((State.keeps_self _ _).arrive (by decide) k p.xp.seq).deliverMsgs (by decide) k _).only

theorem put_cases (s s1 : State) (p : Packet) (now k : Nat) (c : Conn) (h : OpHdr) (rcv : Option Nat) (data : List Byte) (received : s.receive p now true = (s1, some (k, c)))
    (body : p.body = .put h rcv data) :
    (c.seen p.xp.seq = true → exec (.put p now) s = .next (s1.sendAck k)) ∧
    (c.seen p.xp.seq = false → c.matches_ p = false → exec (.put p now) s = .next ((s1.refuse k p .protection).settle k)) ∧
    (∀ (st : Status), c.seen p.xp.seq = false → c.matches_ p = true → s1.xpt.stitch = [] →
      s1.regionCheck c.localPart h.key p.tenant .write h.addr data.length false = .error st → exec (.put p now) s = .next ((s1.refuse k p st).settle k)) ∧
    (∀ (s2 : State) (i : Nat) (r : Region), c.seen p.xp.seq = false → c.matches_ p = true → s1.xpt.stitch = [] → s1.xpt.rob = [] →
      s1.regionCheck c.localPart h.key p.tenant .write h.addr data.length false = .ok (i, r) →
      s1.writeVa r.part.val .thread (r.base + h.addr) data = (s2, .ok ()) →
      ∃ t, exec (.put p now) s = .next t ∧ t.memory = s2.memory ∧ t.host = s2.host ∧ t.out = s2.out ∧
        s.Only [.bar, .stk, .cores, .pln, .memory, .lnk, .xpt, .shp, .blt, .host, .out, .freeCtr] t) := by
  have run : exec (.put p now) s = .next (s1.land k c p) :=
    congrArg Host.Outcome.next (State.request_eq received (by rw [body]))
  have landed : c.seen p.xp.seq = false → c.matches_ p = true → s1.land k c p = (s1.landPut k c p h rcv data).settle k := fun fresh known => by
    rw [State.land_match fresh known, body]
  refine ⟨fun seen => ?_, fun fresh strange => ?_, fun st fresh known none_ refused => ?_, fun s2 i r fresh known none_ empty allowed written => ?_⟩
  · rw [run, State.land_seen seen, State.duplicate_put body]
  · rw [run, State.land_strange fresh strange]
  · rw [run, landed fresh known, State.landPut_first none_, refused]
  · obtain ⟨-, -, -, -, only⟩ := State.receive_some received
    have wrote := ((s1.keeps_self _).writeVa (sub_self _) r.part.val .thread (r.base + h.addr) data).only
    rw [written] at wrote
    obtain ⟨t, put, lands, rest⟩ := State.landPut_writes (k := k) (c := c) (p := p)
      (e := { conn := k, msg := h.msg, len := h.msgLen, parts := [], start := none, bytes := 0, region := i, rcv := rcv, complete := false, abandoned := false }) written
    refine ⟨t, ?_, rest.memory, rest.host, rest.out, (only.mono (by decide)).trans ((wrote.mono (by decide)).trans (rest.mono (by decide)))⟩
    rw [run, landed fresh known, State.landPut_first none_, allowed]
    dsimp only
    rw [put]
    exact congrArg Host.Outcome.next (lands.settle k ((congrArg Xpt.rob wrote.xpt).trans empty))

/-! ### GET -/

/-- The packets that bring a get's data. -/
def State.getAnswers (s : State) (c : Conn) (p : Packet) (h : OpHdr) (data : List Byte) : List Packet :=
  markEnds ((cut (s.chunk c.cls.val c.peerDev) data).map fun q =>
    s.mkPacket c 0x12#8 p.tenant p.xp.tag 0 (24 + q.2.length) (.getData { h with addr := h.addr + q.1 } q.2))

theorem get_cases (s s1 : State) (p : Packet) (now k : Nat) (c : Conn) (h : OpHdr) (received : s.receive p now true = (s1, some (k, c))) (body : p.body = .get h)
    (fresh : c.seen p.xp.seq = false) :
    (c.matches_ p = false → exec (.get p now) s = .next ((s1.refuse k p .protection).settle k)) ∧
    (∀ (s2 : State) (l : List (Nat × Nat)) (i : Nat) (r : Region), c.matches_ p = true → s1.xpt.rob = [] →
      s1.regionCheck c.localPart h.key p.tenant .read h.addr h.msgLen false = .ok (i, r) →
      s1.xlateRange r.part.val .thread .read (r.base + h.addr) h.msgLen = (s2, .ok l) → s2.partsPoisoned l = false →
      ∃ t, exec (.get p now) s = .next t ∧ t.memory = s2.memory ∧ s.Only [.bar, .stk, .cores, .pln, .memory, .lnk, .xpt, .shp, .blt, .freeCtr] t) := by
  have run : exec (.get p now) s = .next (s1.land k c p) :=
    congrArg Host.Outcome.next (State.request_eq received (by rw [body]))
  refine ⟨fun strange => ?_, fun s2 l i r known empty allowed mapped sound => ?_⟩
  · rw [run, State.land_strange fresh strange]
  · obtain ⟨-, -, -, -, only⟩ := State.receive_some received
    have walked := ((s1.keeps_self _).xlateRange (sub_self _) r.part.val .thread .read (r.base + h.addr) h.msgLen).only
    rw [mapped] at walked
    have read := ((s2.keeps_self _).readParts (sub_self _) (partFn r.part.val) l).only
    generalize got : s2.readParts (partFn r.part.val) l = d at read
    let s3 := (d.1.arrive k p.xp.seq).wholeMsg k h.msg
    have lands : s2.Lands s3 := (State.Lands.of_xpt read.xpt).trans ((State.lands_arrive _ k _).trans (State.lands_wholeMsg _ k _))
    let answer := s3.getAnswers c p h d.2
    have landed : s1.landGet k c p h = s3.sendAll k answer := by
      rw [State.landGet, allowed]
      dsimp only
      rw [mapped]
      dsimp only
      rw [if_neg (by rw [sound]; decide), got]
      rfl
    have sent := s3.drives_sendAll False k answer
    have rest := (((d.1.keeps_self [.bar, .cores, .pln, .lnk, .xpt, .shp, .freeCtr]).arrive (by decide) k p.xp.seq).wholeMsg (by decide) k h.msg).sendAll (by decide) k answer |>.only
    refine ⟨s3.sendAll k answer, ?_, rest.memory.trans read.memory, (only.mono (by decide)).trans ((walked.mono (by decide)).trans ((read.mono (by decide)).trans (rest.mono (by decide))))⟩
    have quiet := (lands.trans sent.toSteady.lands).settle k ((congrArg Xpt.rob walked.xpt).trans empty)
    rw [run, State.land_match fresh known, body]
    dsimp only
    rw [landed, quiet]

/-! ### Stores and loads -/

theorem State.landWindow_next {s : State} {k : Nat} {c : Conn} {p : Packet} (near : harness p.src = harness s.me) (next : p.xp.seq = c.rcvNxt) :
    s.landWindow k c p = (s.applyOrdered k c p).settle k := (if_pos near).trans (if_pos next)

theorem store_cases (s s1 : State) (p : Packet) (now k : Nat) (c : Conn) (a mask : Nat) (data : List Byte) (received : s.receive p now true = (s1, some (k, c)))
    (body : p.body = .store a mask data) (near : harness p.src = harness s1.me) (next : p.xp.seq = c.rcvNxt) (fresh : c.seen p.xp.seq = false) (known : c.matches_ p = true)
    (empty : s1.xpt.rob = []) :
    (∀ st : Status, s1.windowCheck p.tenant .write a data.length = .error st → exec (.store p now) s = .next (s1.refuse k p st)) ∧
    (s1.windowCheck p.tenant .write a data.length = .ok () →
      ∃ t, exec (.store p now) s = .next t ∧
        (∀ x, memByte t.memory.mem x = if a ≤ x ∧ x < a + data.length ∧ bitAt mask (x - a) = true then data.getD (x - a) 0 else memByte s1.memory.mem x) ∧
        s.Only [.bar, .stk, .cores, .memory, .lnk, .xpt, .shp, .blt, .freeCtr] t) := by
  obtain ⟨-, -, -, -, only⟩ := State.receive_some received
  have run : exec (.store p now) s = .next ((s1.applyOrdered k c p).settle k) := by
    refine congrArg Host.Outcome.next ((State.request_eq received (by rw [body])).trans ?_)
    rw [State.land_match fresh known, body]
    exact State.landWindow_next near next
  refine ⟨fun st refused => ?_, fun allowed => ?_⟩
  · have plain : s1.refuse k p st = (s1.arrive k p.xp.seq).sendNak k 3 st p.xp.seq p.xp.tag :=
      State.refuse_plain k st (by simp [body]) (by simp [body]) (by simp [body])
    have quiet : (s1.refuse k p st).settle k = s1.refuse k p st := by
      rw [plain]
      exact ((s1.lands_arrive k _).trans (State.lands_sendNak _ k 3 st _ _)).settle k empty
    have refuses : s1.applyOrdered k c p = s1.refuse k p st := by
      rw [State.applyOrdered, body]
      dsimp only
      rw [refused]
    rw [run, refuses, quiet]
  · let s2 := s1.physWrite a (masked (memRead s1.memory.mem a data.length) data mask)
    have applies : s1.applyOrdered k c p = s2.arrive k p.xp.seq := by
      rw [State.applyOrdered, body]
      dsimp only
      rw [allowed]
    have lands : s1.Lands (s2.arrive k p.xp.seq) := State.Lands.trans ⟨_, _, _, _, rfl⟩ (s2.lands_arrive k _)
    have rest := ((s2.keeps_self _).arrive (sub_self _) k p.xp.seq).only
    have wrote : s1.Only [.memory] s2 := ((s1.keeps_self _).physWrite (sub_self _) _ _).only
    refine ⟨s2.arrive k p.xp.seq, by rw [run, applies, lands.settle k empty], fun x => ?_, (only.mono (by decide)).trans ((wrote.mono (by decide)).trans (rest.mono (by decide)))⟩
    rw [rest.memory]
    exact memByte_masked _ _ _ _ _

theorem load_cases (s s1 : State) (p : Packet) (now k : Nat) (c : Conn) (a len : Nat) (received : s.receive p now true = (s1, some (k, c))) (body : p.body = .load a len)
    (near : harness p.src = harness s1.me) (next : p.xp.seq = c.rcvNxt) (fresh : c.seen p.xp.seq = false) (known : c.matches_ p = true) (empty : s1.xpt.rob = []) :
    (∀ st : Status, s1.windowCheck p.tenant .read a len = .error st → exec (.load p now) s = .next (s1.refuse k p st)) ∧
    (s1.windowCheck p.tenant .read a len = .ok () →
      ∃ d, (s1.arrive k p.xp.seq).conn k = some d ∧ (c.arrived = [] → d.rcvNxt = c.rcvNxt + 1) ∧
        exec (.load p now) s = .next ((s1.arrive k p.xp.seq).launch k ((s1.arrive k p.xp.seq).mkPacket d 0x15 p.tenant p.xp.tag p.xp.seq (8 + len)
          (.loadData (if s1.memory.poisoned a len = true then .dataCorrupt else .ok) (memRead s1.memory.mem a len))))) := by
  obtain ⟨-, here, -, -, -⟩ := State.receive_some received
  have run : exec (.load p now) s = .next ((s1.applyOrdered k c p).settle k) := by
    refine congrArg Host.Outcome.next ((State.request_eq received (by rw [body])).trans ?_)
    rw [State.land_match fresh known, body]
    exact State.landWindow_next near next
  refine ⟨fun st refused => ?_, fun allowed => ?_⟩
  · have plain : s1.refuse k p st = (s1.arrive k p.xp.seq).sendNak k 3 st p.xp.seq p.xp.tag :=
      State.refuse_plain k st (by simp [body]) (by simp [body]) (by simp [body])
    have quiet : (s1.refuse k p st).settle k = s1.refuse k p st := by
      rw [plain]
      exact ((s1.lands_arrive k _).trans (State.lands_sendNak _ k 3 st _ _)).settle k empty
    have refuses : s1.applyOrdered k c p = s1.refuse k p st := by
      rw [State.applyOrdered, body]
      dsimp only
      rw [refused]
    rw [run, refuses, quiet]
  · obtain ⟨d, there, counts⟩ := State.arrive_next here p.xp.seq
    refine ⟨d, there, counts next, ?_⟩
    have applies : s1.applyOrdered k c p = (s1.arrive k p.xp.seq).launch k ((s1.arrive k p.xp.seq).mkPacket d 0x15 p.tenant p.xp.tag p.xp.seq (8 + len)
        (.loadData (if s1.memory.poisoned a len = true then .dataCorrupt else .ok) (memRead s1.memory.mem a len))) := by
      rw [State.applyOrdered, body]
      dsimp only
      rw [allowed]
      dsimp only
      rw [there]
      rfl
    rw [run, applies]
    exact congrArg Host.Outcome.next (((s1.lands_arrive k _).trans (State.sent_launch _ k _).lands).settle k empty)

theorem load_foreign (s s1 : State) (p : Packet) (now k : Nat) (c : Conn) (a len : Nat) (received : s.receive p now true = (s1, some (k, c))) (body : p.body = .load a len)
    (far : harness p.src ≠ harness s1.me) (fresh : c.seen p.xp.seq = false) (known : c.matches_ p = true) :
    exec (.load p now) s = .next ((s1.refuse k p .protection).settle k) := by
  refine congrArg Host.Outcome.next ((State.request_eq received (by rw [body])).trans ?_)
  rw [State.land_match fresh known, body]
  exact if_neg far

/-! ### Atomics -/

theorem State.lands_sendAtomicData (s : State) (k : Nat) (p : Packet) (st : Status) (v : Nat) : s.Lands (s.sendAtomicData k p st v) := by
  rw [State.sendAtomicData]
  split
  · exact .refl s
  · exact (s.sent_launch k _).lands

/-- The result of an atomic is kept, whatever is sent. -/
theorem State.lands_atomResult (s : State) (k : Nat) (c : Conn) (p : Packet) (aop : Nat) (st : Status) (v : Nat) :
    (s.addResult ⟨k, c.inc, p.xp.seq, st, v⟩).Lands (s.atomResult k c p aop st v) ∧ s.Only [.bar, .lnk, .xpt, .shp, .freeCtr] (s.atomResult k c p aop st v) := by
  have kept : s.Only [.xpt] (s.addResult ⟨k, c.inc, p.xp.seq, st, v⟩) := by simp [State.Only, State.addResult]
  have came := ((State.keeps_self (s.addResult ⟨k, c.inc, p.xp.seq, st, v⟩) _).arrive (sub_self _) k p.xp.seq)
  have lands := State.lands_arrive (s.addResult ⟨k, c.inc, p.xp.seq, st, v⟩) k p.xp.seq
  rw [State.atomResult]
  split
  · exact ⟨lands.trans (State.lands_sendAtomicData _ k p st v), (kept.mono (by decide)).trans (came.sendAtomicData (by decide) k p st v).only⟩
  · exact ⟨lands, (kept.mono (by decide)).trans came.only⟩

theorem atomic_window (s s1 s2 : State) (p : Packet) (now k : Nat) (c : Conn) (a aop opnd cmp v : Nat) (st : Status) (received : s.receive p now true = (s1, some (k, c)))
    (body : p.body = .atomic (.window a) aop opnd cmp) (near : harness p.src = harness s1.me) (next : p.xp.seq = c.rcvNxt) (fresh : c.seen p.xp.seq = false)
    (known : c.matches_ p = true) (empty : s1.xpt.rob = []) (room : s1.xpt.results.length < 131072) (allowed : s1.windowCheck p.tenant .atomic a (aopBytes aop) = .ok ())
    (applied : s1.atomAt a aop opnd cmp = (s2, .ok (st, v))) :
    ∃ t, exec (.atomic p now) s = .next t ∧ t.memory = s2.memory ∧ t.xpt.results = s1.xpt.results ++ [⟨k, c.inc, p.xp.seq, st, v⟩] ∧
      s.Only [.bar, .stk, .cores, .memory, .lnk, .xpt, .shp, .blt, .freeCtr] t := by
  obtain ⟨-, -, -, -, only⟩ := State.receive_some received
  have wrote := ((s1.keeps_self _).atomAt (sub_self _) a aop opnd cmp).only
  rw [applied] at wrote
  obtain ⟨lands, rest⟩ := s2.lands_atomResult k c p aop st v
  have applies : s1.applyOrdered k c p = s2.atomResult k c p aop st v := by
    rw [State.applyOrdered, body]
    refine (if_neg (Nat.not_le.2 room)).trans ?_
    dsimp only
    rw [allowed]
    dsimp only
    rw [applied]
  refine ⟨s2.atomResult k c p aop st v, ?_, rest.memory, lands.results.trans ?_, (only.mono (by decide)).trans ((wrote.mono (by decide)).trans (rest.mono (by decide)))⟩
  · refine congrArg Host.Outcome.next ((State.request_eq received (by rw [body])).trans ?_)
    rw [State.land_match fresh known, body]
    refine (State.landWindow_next near next).trans ?_
    rw [applies]
    exact State.settle_empty k (lands.rob.trans ((congrArg Xpt.rob wrote.xpt).trans empty))
  · exact congrArg (fun x : Xpt => x.results ++ [⟨k, c.inc, p.xp.seq, st, v⟩]) wrote.xpt

theorem atomic_keyed (s s1 s2 s3 : State) (p : Packet) (now k : Nat) (c : Conn) (h : OpHdr) (i : Nat) (g : Region) (a aop opnd cmp v : Nat) (st : Status)
    (received : s.receive p now true = (s1, some (k, c))) (body : p.body = .atomic (.keyed h) aop opnd cmp) (fresh : c.seen p.xp.seq = false) (known : c.matches_ p = true)
    (empty : s1.xpt.rob = []) (room : s1.xpt.results.length < 131072) (allowed : s1.regionCheck c.localPart h.key p.tenant .atomic h.addr (aopBytes aop) false = .ok (i, g))
    (mapped : s1.xlate g.part.val .thread .atomic (g.base + h.addr) = (s2, .pa a)) (applied : s2.atomAt a aop opnd cmp = (s3, .ok (st, v))) :
    ∃ t, exec (.atomic p now) s = .next t ∧ t.memory = s3.memory ∧ t.xpt.results = s1.xpt.results ++ [⟨k, c.inc, p.xp.seq, st, v⟩] ∧
      s.Only [.bar, .stk, .cores, .pln, .memory, .lnk, .xpt, .shp, .blt, .freeCtr] t := by
  obtain ⟨-, -, -, -, only⟩ := State.receive_some received
  have walked := ((s1.keeps_self _).xlate (sub_self _) g.part.val .thread .atomic (g.base + h.addr)).only
  rw [mapped] at walked
  have wrote := ((s2.keeps_self _).atomAt (sub_self _) a aop opnd cmp).only
  rw [applied] at wrote
  have xpt : s3.xpt = s1.xpt := wrote.xpt.trans walked.xpt
  obtain ⟨lands, rest⟩ := s3.lands_atomResult k c p aop st v
  have whole := ((State.keeps_self (s3.atomResult k c p aop st v) _).wholeMsg (sub_self _) k h.msg).only
  have turn := State.lands_wholeMsg (s3.atomResult k c p aop st v) k h.msg
  refine ⟨(s3.atomResult k c p aop st v).wholeMsg k h.msg, ?_, whole.memory.trans rest.memory, turn.results.trans (lands.results.trans ?_),
    (only.mono (by decide)).trans ((walked.mono (by decide)).trans ((wrote.mono (by decide)).trans ((rest.mono (by decide)).trans (whole.mono (by decide)))))⟩
  · have landed : s1.landAtomic k c p (.keyed h) aop opnd cmp = (s3.atomResult k c p aop st v).wholeMsg k h.msg := by
      refine (if_neg (Nat.not_le.2 room)).trans ?_
      dsimp only
      rw [allowed]
      dsimp only
      rw [mapped]
      dsimp only
      rw [applied]
    refine congrArg Host.Outcome.next ((State.request_eq received (by rw [body])).trans ?_)
    rw [State.land_match fresh known, body]
    dsimp only
    rw [landed]
    exact State.settle_empty k (turn.rob.trans (lands.rob.trans ((congrArg Xpt.rob xpt).trans empty)))
  · exact congrArg (fun x : Xpt => x.results ++ [⟨k, c.inc, p.xp.seq, st, v⟩]) xpt

theorem atomAt_updates (s : State) (a aop opnd cmp : Nat) (aligned : a % aopBytes aop = 0) (inT1 : s.memory.target a = .t1) (sound : s.memory.poisoned a (aopBytes aop) = false) :
    ∃ s2, s.atomAt a aop opnd cmp = (s2, .ok (.ok, leNat (memRead s.memory.mem a (aopBytes aop)))) ∧
      memRead s2.memory.mem a (aopBytes aop) = leBytes (aopBytes aop) (atomNew aop (leNat (memRead s.memory.mem a (aopBytes aop))) opnd cmp) ∧
      (∀ x, x < a ∨ a + aopBytes aop ≤ x → memByte s2.memory.mem x = memByte s.memory.mem x) := by
  have size : (leBytes (aopBytes aop) (atomNew aop (leNat (memRead s.memory.mem a (aopBytes aop))) opnd cmp)).length = aopBytes aop := leBytes_length _ _
  refine ⟨s.physWrite a (leBytes (aopBytes aop) (atomNew aop (leNat (memRead s.memory.mem a (aopBytes aop))) opnd cmp)), ?_, ?_, fun x out => ?_⟩
  · rw [State.atomAt]
    refine (if_neg (fun h => h aligned)).trans ?_
    rw [inT1]
    exact if_neg (by rw [sound]; decide)
  · have back := memRead_memWrite s.memory.mem a (leBytes (aopBytes aop) (atomNew aop (leNat (memRead s.memory.mem a (aopBytes aop))) opnd cmp))
    rw [size] at back
    exact back
  · exact memByte_memWrite_ne _ _ _ _ (by rw [size]; exact out)

theorem atomic_repeated (s s1 : State) (p : Packet) (now k : Nat) (c : Conn) (g : AtomTarget) (aop opnd cmp : Nat) (r : XResult) (received : s.receive p now true = (s1, some (k, c)))
    (body : p.body = .atomic g aop opnd cmp) (seen : c.seen p.xp.seq = true) (fetch : aopFetch aop = true)
    (kept : s1.xpt.results.find? (fun x => x.conn == k && x.inc == c.inc && x.seq == p.xp.seq) = some r) :
    exec (.atomic p now) s = .next (s1.sendAtomicData k p r.status r.value) := by
  refine congrArg Host.Outcome.next ((State.request_eq received (by rw [body])).trans ?_)
  rw [State.land_seen seen, State.duplicate, kept, body]
  exact if_pos (Or.inl fetch)

/-! ### Collectives and collectors -/

theorem exec_reduce {s s1 : State} {p : Packet} {now k : Nat} {c : Conn} {id round rank leg off total : Nat} {data : List Byte}
    (received : s.receive p now true = (s1, some (k, c))) (body : p.body = .reduce id round rank leg off total data) :
    exec (.reduce p now) s = if c.seen p.xp.seq then .next (s1.sendAck k) else if !c.matches_ p then .next (s1.refuse k p .protection)
      else match afind s1.xpt.groups (groupKey c.localPart.val id) with
        | none => .next (s1.refuse k p .protection)
        | some g =>
          if g.rankOf p.src p.part = some rank ∧ (g.rankOf s1.me c.localPart).isSome then
            .next ((s1.arrive k p.xp.seq).groupLand 4 c.localPart id p.tenant round leg rank off total data)
          else .next (s1.refuse k p .protection) := by
  have unfolded : exec (.reduce p now) s = execReduce p now s := rfl
  rw [unfolded, execReduce, received, body] <;> rfl

theorem State.me_arrive (s : State) (k : Nat) (seq : BitVec 32) : (s.arrive k seq).me = s.me := by
  have counted : sendCounts Reg.glbDeviceId = false := by decide
  have reg : (s.arrive k seq).reg Reg.glbDeviceId = s.reg Reg.glbDeviceId := by
    rw [State.arrive]
    split
    · rfl
    · dsimp only
      split
      · exact (State.sent_sendAck _ k).reg _ counted
      · rfl
  rw [State.me, State.me, reg]

/-- A contribution that leaves its first leg open is kept in its group. -/
theorem State.groupLand_open {s : State} {n : Nat} {part : Fin 16} {id round rank off total mine : Nat} {tenant : BitVec 16} {data : List Byte} {g : XGroup}
    (found : afind s.xpt.groups (groupKey part.val id) = some g) (ranked : g.rankOf s.me part = some mine)
    (open_ : ((({ g with inputs := aput g.inputs (pieceKey round 0 rank off) data } : XGroup).inHarness (harness s.me)).all fun i =>
      (({ g with inputs := aput g.inputs (pieceKey round 0 rank off) data } : XGroup).piece round 0 i).length == total) = false) :
    s.groupLand (n + 1) part id tenant round 0 rank off total data =
      { s with xpt := { s.xpt with groups := aput s.xpt.groups (groupKey part.val id) { g with inputs := aput g.inputs (pieceKey round 0 rank off) data } } } := by
  rw [State.groupLand]
  dsimp only
  rw [found]
  dsimp only
  rw [ranked]
  dsimp only
  rw [State.groupStep]
  exact if_neg (by rw [Bool.not_eq_true]; exact open_)

theorem reduce_cases (s s1 : State) (p : Packet) (now k : Nat) (c : Conn) (id round rank leg off total : Nat) (data : List Byte)
    (received : s.receive p now true = (s1, some (k, c))) (body : p.body = .reduce id round rank leg off total data) :
    (c.seen p.xp.seq = true → exec (.reduce p now) s = .next (s1.sendAck k)) ∧
    (c.seen p.xp.seq = false → c.matches_ p = true → afind s1.xpt.groups (groupKey c.localPart.val id) = none → exec (.reduce p now) s = .next (s1.refuse k p .protection)) ∧
    (∀ (g : XGroup) (mine : Nat), c.seen p.xp.seq = false → c.matches_ p = true → afind s1.xpt.groups (groupKey c.localPart.val id) = some g →
      g.rankOf p.src p.part = some rank → g.rankOf s1.me c.localPart = some mine →
      exec (.reduce p now) s = .next ((s1.arrive k p.xp.seq).groupLand 4 c.localPart id p.tenant round leg rank off total data) ∧
      (∀ g1 : XGroup, g1 = { g with inputs := aput g.inputs (pieceKey round leg rank off) data } → leg = 0 →
        ((g1.inHarness (harness s1.me)).all fun i => (g1.piece round 0 i).length == total) = false →
        ∃ t, exec (.reduce p now) s = .next t ∧ t = { s1.arrive k p.xp.seq with xpt := t.xpt } ∧
          t.xpt = { (s1.arrive k p.xp.seq).xpt with groups := aput s1.xpt.groups (groupKey c.localPart.val id) g1 })) := by
  have run := exec_reduce received body
  have admitted : c.seen p.xp.seq = false → c.matches_ p = true → exec (.reduce p now) s = match afind s1.xpt.groups (groupKey c.localPart.val id) with
        | none => .next (s1.refuse k p .protection)
        | some g =>
          if g.rankOf p.src p.part = some rank ∧ (g.rankOf s1.me c.localPart).isSome then
            .next ((s1.arrive k p.xp.seq).groupLand 4 c.localPart id p.tenant round leg rank off total data)
          else .next (s1.refuse k p .protection) := fun fresh known =>
    run.trans ((if_neg (by rw [fresh]; decide)).trans (if_neg (by rw [known]; decide)))
  refine ⟨fun seen => run.trans (if_pos seen), fun fresh known unknown => ?_, fun g mine fresh known found sender ranked => ?_⟩
  · rw [admitted fresh known, unknown]
  · have lands : exec (.reduce p now) s = .next ((s1.arrive k p.xp.seq).groupLand 4 c.localPart id p.tenant round leg rank off total data) := by
      rw [admitted fresh known, found]
      exact if_pos ⟨sender, by rw [ranked]; rfl⟩
    refine ⟨lands, fun g1 put leg0 open_ => ?_⟩
    subst put leg0
    have me := s1.me_arrive k p.xp.seq
    have groups := (s1.lands_arrive k p.xp.seq).groups
    have landed := State.groupLand_open (s := s1.arrive k p.xp.seq) (n := 3) (tenant := p.tenant) (found := by rw [groups]; exact found) (ranked := by rw [me]; exact ranked)
      (open_ := by rw [me]; exact open_)
    rw [groups] at landed
    exact ⟨_, lands.trans (congrArg Host.Outcome.next landed), rfl, rfl⟩

theorem exec_complete {s s1 : State} {p : Packet} {now k : Nat} {c : Conn} {id slot : Nat} (received : s.receive p now true = (s1, some (k, c)))
    (body : p.body = .complete id slot []) (fresh : c.seen p.xp.seq = false) (known : c.matches_ p = true) :
    exec (.complete p now) s = .next (s1.landComplete k c id slot p.xp.seq p.xp.tag) := by
  have unfolded : exec (.complete p now) s = execComplete p now s := rfl
  rw [unfolded, execComplete, body]
  dsimp only
  rw [received]
  exact (if_neg (by rw [fresh]; decide)).trans (if_neg (by rw [known]; decide))

theorem complete_cases (s s1 : State) (p : Packet) (now k : Nat) (c : Conn) (id slot : Nat) (col : Collector) (received : s.receive p now true = (s1, some (k, c)))
    (body : p.body = .complete id slot []) (fresh : c.seen p.xp.seq = false) (known : c.matches_ p = true)
    (found : afind s1.xpt.collectors (groupKey c.localPart.val id) = some col) :
    (col.n ≤ slot → exec (.complete p now) s = .next ((s1.arrive k p.xp.seq).sendNak k 3 .protection p.xp.seq p.xp.tag)) ∧
    (∀ j, slot < col.n → agetD col.slots slot 0 < 255 → j < col.n → j ≠ slot → agetD col.slots j 0 = 0 →
      ∃ t, exec (.complete p now) s = .next t ∧
        afind t.xpt.collectors (groupKey c.localPart.val id) = some { col with slots := aput col.slots slot (agetD col.slots slot 0 + 1) } ∧
        s.Only [.bar, .stk, .cores, .pln, .lnk, .xpt, .shp, .blt, .freeCtr] t) := by
  obtain ⟨-, -, -, -, only⟩ := State.receive_some received
  have run := exec_complete received body fresh known
  refine ⟨fun past => ?_, fun j within room slot' other zero => ?_⟩
  · rw [run, State.landComplete]
    rw [found]
    exact congrArg Host.Outcome.next (if_pos past)
  · have rest := ((s1.keeps_self _).landComplete (sub_self _) k c id slot p.xp.seq p.xp.tag).only
    refine ⟨_, run, ?_, (only.mono (by decide)).trans (rest.mono (by decide))⟩
    have partial_ : ((List.range col.n).all fun i => decide (0 < agetD (aput col.slots slot (agetD col.slots slot 0 + 1)) i 0)) = false := by
      rw [List.all_eq_false]
      refine ⟨j, List.mem_range.2 slot', ?_⟩
      rw [agetD_eq_get, afind_aput_ne _ _ other, ← agetD_eq_get, zero]
      decide
    rw [State.landComplete, found]
    dsimp only
    rw [if_neg (Nat.not_le.2 within), if_neg (Nat.not_le.2 room), (State.lands_arrive _ k _).collectors, State.collect1]
    rw [if_neg (by rw [partial_]; decide), if_neg (by rw [partial_]; decide)]
    exact afind_aput_same _ _ _

/-- Settles O39: what the home does with each request. -/
theorem homeRequests : Obligations.HomeRequests :=
  ⟨put_cases, get_cases, store_cases, load_cases, load_foreign, atomic_window, atomic_keyed, atomAt_updates, atomic_repeated, reduce_cases, complete_cases⟩

end Sys2Proof.Machine
end

section
/-!
PROOFS. Answers, combining records and queries of results (O40).
-/
namespace Sys2Proof.Machine

/-! ### GET_DATA -/

theorem State.arrive_xpt (s : State) (k : Nat) (seq : BitVec 32) : ∃ conns cache, (s.arrive k seq).xpt = { s.xpt with conns := conns, cache := cache } := by
  rw [State.arrive]
  split
  · exact ⟨_, _, rfl⟩
  · dsimp only
    split
    · obtain ⟨conns, cache, kept⟩ := (State.sent_sendAck _ k).xpt
      exact ⟨conns, cache, kept⟩
    · exact ⟨_, _, rfl⟩

/-- A piece of a get's data, placed and counted. -/
def XOp.took (o : XOp) (off n : Nat) : XOp := { o with got := off :: o.got, left := o.left - n }

theorem State.landGetData_places {s s2 : State} {k : Nat} {c : Conn} {p : Packet} {h : OpHdr} {data : List Byte} {o : XOp} (fresh : c.seen p.xp.seq = false)
    (found : afind s.xpt.ops p.xp.tag.toNat = some o) (get : o.kind = .get) (mine : o.conn = k) (open_ : o.done = false) (missing : (h.addr - o.raddr) ∉ o.got)
    (written : s.writeVa o.part.val .thread (o.laddr + (h.addr - o.raddr)) data = (s2, .ok ())) :
    s.landGetData k c p h data = (if o.left ≤ data.length then
      (((s2.arrive k p.xp.seq).modOp p.xp.tag.toNat fun y => y.took (h.addr - o.raddr) data.length).opDone p.xp.tag.toNat .ok [])
      else (s2.arrive k p.xp.seq).modOp p.xp.tag.toNat fun y => y.took (h.addr - o.raddr) data.length).settle k := by
  have wanted : ¬(o.kind ≠ .get ∨ o.conn ≠ k ∨ o.done = true ∨ o.got.contains (h.addr - o.raddr) = true) := by
    rw [open_, List.contains_iff_mem]
    rintro (other | other | done | again)
    · exact other get
    · exact other mine
    · cases done
    · exact missing again
  rw [State.landGetData, if_neg (by rw [fresh]; decide), found]
  dsimp only
  rw [if_neg wanted, written]
  rfl

theorem getData_places (s s1 s2 : State) (p : Packet) (now k : Nat) (c : Conn) (h : OpHdr) (data : List Byte) (o : XOp) (received : s.receive p now true = (s1, some (k, c)))
    (body : p.body = .getData h data) (fresh : c.seen p.xp.seq = false) (empty : s1.xpt.rob = []) (found : afind s1.xpt.ops p.xp.tag.toNat = some o) (get : o.kind = .get)
    (mine : o.conn = k) (open_ : o.done = false) (missing : (h.addr - o.raddr) ∉ o.got)
    (written : s1.writeVa o.part.val .thread (o.laddr + (h.addr - o.raddr)) data = (s2, .ok ())) :
    ∃ t, exec (.getData p now) s = .next t ∧ t.memory = s2.memory ∧ t.host = s2.host ∧
      (data.length < o.left → afind t.xpt.ops p.xp.tag.toNat = some { o with got := (h.addr - o.raddr) :: o.got, left := o.left - data.length }) ∧
      (∀ q i, o.left ≤ data.length → o.origin = .queue q i → afind t.xpt.ops p.xp.tag.toNat =
        some { o with got := (h.addr - o.raddr) :: o.got, left := o.left - data.length, done := true, status := .ok, result := [] }) ∧
      s.Only [.bar, .stk, .cores, .memory, .lnk, .xpt, .shp, .blt, .host, .out, .freeCtr] t := by
  obtain ⟨-, -, -, -, only⟩ := State.receive_some received
  have wrote := ((s1.keeps_self _).writeVa (sub_self _) o.part.val .thread (o.laddr + (h.addr - o.raddr)) data).only
  rw [written] at wrote
  let s3 := (s2.arrive k p.xp.seq).modOp p.xp.tag.toNat fun y => y.took (h.addr - o.raddr) data.length
  have ops : (s2.arrive k p.xp.seq).xpt.ops = s1.xpt.ops := by
    obtain ⟨conns, cache, kept⟩ := State.arrive_xpt s2 k p.xp.seq
    rw [kept, wrote.xpt]
  have placed : afind s3.xpt.ops p.xp.tag.toNat = some (o.took (h.addr - o.raddr) data.length) := by
    refine (afind_amod _ _ _ _).trans ?_
    rw [if_pos rfl, ops, found]
    rfl
  have came := (s2.keeps_self [.bar, .cores, .lnk, .xpt, .shp, .blt, .freeCtr]).arrive (by decide) k p.xp.seq |>.modOp (by decide) p.xp.tag.toNat
    fun y => y.took (h.addr - o.raddr) data.length
  have lands : s1.Lands s3 := (State.Lands.of_xpt wrote.xpt).trans ((s2.lands_arrive k p.xp.seq).trans ⟨_, _, _, _, rfl⟩)
  have run : exec (.getData p now) s = .next ((if o.left ≤ data.length then s3.opDone p.xp.tag.toNat .ok [] else s3).settle k) := by
    have unfolded : exec (.getData p now) s = execGetData p now s := rfl
    rw [unfolded, execGetData, received, body]
    exact congrArg Host.Outcome.next (State.landGetData_places fresh found get mine open_ missing written)
  by_cases last : o.left ≤ data.length
  · have ends := (s3.flows_opDone p.xp.tag.toNat .ok []).toSteady.lands
    rw [if_pos last, (lands.trans ends).settle k empty] at run
    have rest := (came.opDone (by decide) p.xp.tag.toNat .ok []).only
    refine ⟨_, run, rest.memory, rest.host, fun more => absurd more (Nat.not_lt.2 last), fun q i _ origin => ?_, (only.mono (by decide)).trans ((wrote.mono (by decide)).trans (rest.mono (by decide)))⟩
    rw [State.opDone_queue .ok [] placed open_ origin]
    exact afind_aput_same _ _ _
  · rw [if_neg last, lands.settle k empty] at run
    have rest := came.only
    exact ⟨_, run, rest.memory, rest.host, fun _ => placed, fun q i done => absurd done last, (only.mono (by decide)).trans ((wrote.mono (by decide)).trans (rest.mono (by decide)))⟩

/-! ### LOAD_DATA and ATOMIC_DATA -/

/-- A thread's access that ended well brings its value into its register. -/
theorem State.accessEnds_thread {s : State} {o : XOp} {core th rd width : Nat} {signed : Bool} (origin : o.origin = .thread core th rd width signed) (well : o.status = .ok)
    (reads : o.kind ≠ .store) :
    ((s.accessEnds o).thread (threadKey core th)).x =
      ((s.thread (threadKey core th)).setX rd (loadValue (o.result.drop (if o.kind = .load then o.opnd else 0)) width signed)).x ∧
    ∀ j, j ≠ threadKey core th → (s.accessEnds o).thread j = s.thread j := by
  rw [State.accessEnds, origin]
  dsimp only
  rw [if_pos well]
  refine ⟨?_, fun j other => ?_⟩
  · rw [State.thread_modThread, if_pos rfl, if_neg reads]
  · rw [State.thread_modThread, if_neg other]

theorem State.thread_congr {s t : State} (cores : t.cores = s.cores) (j : Nat) : t.thread j = s.thread j := by rw [State.thread, State.thread, cores]

theorem State.opDone_thread {s : State} {tag : Nat} {o : XOp} {core th rd width : Nat} {signed : Bool} (result : List Byte) (found : afind s.xpt.ops tag = some o)
    (open_ : o.done = false) (origin : o.origin = .thread core th rd width signed) (reads : o.kind ≠ .store) :
    ((s.opDone tag .ok result).thread (threadKey core th)).x =
      ((s.thread (threadKey core th)).setX rd (loadValue (result.drop (if o.kind = .load then o.opnd else 0)) width signed)).x ∧
    ∀ j, j ≠ threadKey core th → (s.opDone tag .ok result).thread j = s.thread j := by
  let o1 : XOp := { o with done := true, status := .ok, result := result }
  have ends : s.opDone tag .ok result = (s.dropOp tag o1).accessEnds o1 := by
    rw [State.opDone, found]
    refine (if_neg (by rw [open_]; decide)).trans ?_
    dsimp only
    split
    · next q i queued => exact nomatch origin.symm.trans queued
    · rfl
  have dropped := ((s.keeps_self _).dropOp (sub_self _) tag o1).only.cores
  obtain ⟨value, others⟩ := State.accessEnds_thread (s := s.dropOp tag o1) (o := o1) origin rfl reads
  rw [ends]
  refine ⟨value.trans ?_, fun j other => (others j other).trans (State.thread_congr dropped j)⟩
  rw [State.thread_congr dropped]

/-- The answer that a thread waits for. -/
theorem State.answered_thread {s : State} {k : Nat} {c : Conn} {p : Packet} {o : XOp} {x : Machine.Sent} {core th rd width : Nat} {signed : Bool} (result : List Byte)
    (sent : c.sent.find? (fun y => y.pkt.xp.tag == p.xp.tag && y.pkt.xp.seq == p.xp.seq) = some x) (found : afind s.xpt.ops p.xp.tag.toNat = some o) (open_ : o.done = false)
    (reads : o.kind ≠ .store) (origin : o.origin = .thread core th rd width signed) :
    ((s.answered k c p .ok result).thread (threadKey core th)).x =
      ((s.thread (threadKey core th)).setX rd (loadValue (result.drop (if o.kind = .load then o.opnd else 0)) width signed)).x ∧
    (∀ j, j ≠ threadKey core th → (s.answered k c p .ok result).thread j = s.thread j) ∧
    s.Only [.bar, .cores, .lnk, .xpt, .shp, .blt, .freeCtr] (s.answered k c p .ok result) := by
  have only := ((s.keeps_self _).answered (sub_self _) k c p .ok result).only
  rw [State.answered, sent] at only ⊢
  dsimp only at only ⊢
  refine ⟨?_, fun j other => ?_, only⟩
  · rw [State.thread_congr ((State.keeps_self _ _).pump (sub_self _) k).only.cores]
    exact (State.opDone_thread result (s := s.modConn k _) found open_ origin reads).1
  · rw [State.thread_congr ((State.keeps_self _ _).pump (sub_self _) k).only.cores]
    exact (State.opDone_thread result (s := s.modConn k _) found open_ origin reads).2 j other

theorem loadData_returns (s s1 : State) (p : Packet) (now k : Nat) (c : Conn) (data : List Byte) (o : XOp) (x : Sent) (core th rd width : Nat) (signed : Bool)
    (received : s.receive p now true = (s1, some (k, c))) (body : p.body = .loadData .ok data)
    (sent : c.sent.find? (fun y => y.pkt.xp.tag == p.xp.tag && y.pkt.xp.seq == p.xp.seq) = some x) (found : afind s1.xpt.ops p.xp.tag.toNat = some o) (open_ : o.done = false)
    (load : o.kind = .load) (origin : o.origin = .thread core th rd width signed) :
    ∃ t, exec (.loadData p now) s = .next t ∧
      (t.thread (threadKey core th)).x = ((s1.thread (threadKey core th)).setX rd (loadValue (data.drop o.opnd) width signed)).x ∧
      (∀ j, j ≠ threadKey core th → t.thread j = s1.thread j) ∧ s.Only [.bar, .stk, .cores, .lnk, .xpt, .shp, .blt, .freeCtr] t := by
  obtain ⟨-, -, -, -, only⟩ := State.receive_some received
  obtain ⟨value, others, rest⟩ := State.answered_thread (k := k) data sent found open_ (by rw [load]; decide) origin
  rw [if_pos load] at value
  refine ⟨s1.answered k c p .ok data, ?_, value, others, only.trans (rest.mono (by decide))⟩
  have unfolded : exec (.loadData p now) s = execLoadData p now s := rfl
  rw [unfolded, execLoadData, received, body]

theorem atomicData_returns (s s1 : State) (p : Packet) (now k v : Nat) (c : Conn) (o : XOp) (x : Sent) (core th rd width : Nat) (signed : Bool)
    (received : s.receive p now true = (s1, some (k, c))) (body : p.body = .atomicData .ok v)
    (sent : c.sent.find? (fun y => y.pkt.xp.tag == p.xp.tag && y.pkt.xp.seq == p.xp.seq) = some x) (found : afind s1.xpt.ops p.xp.tag.toNat = some o) (open_ : o.done = false)
    (atomic : o.kind = .atomic) (origin : o.origin = .thread core th rd width signed) :
    ∃ t, exec (.atomicData p now) s = .next t ∧
      (t.thread (threadKey core th)).x = ((s1.thread (threadKey core th)).setX rd (loadValue (leBytes 16 v) width signed)).x ∧
      (∀ j, j ≠ threadKey core th → t.thread j = s1.thread j) ∧ s.Only [.bar, .stk, .cores, .lnk, .xpt, .shp, .blt, .freeCtr] t := by
  obtain ⟨-, -, -, -, only⟩ := State.receive_some received
  obtain ⟨value, others, rest⟩ := State.answered_thread (k := k) (leBytes 16 v) sent found open_ (by rw [atomic]; decide) origin
  rw [if_neg (by rw [atomic]; decide)] at value
  refine ⟨s1.answered k c p .ok (leBytes 16 v), ?_, value, others, only.trans (rest.mono (by decide))⟩
  have unfolded : exec (.atomicData p now) s = execAtomicData p now s := rfl
  rw [unfolded, execAtomicData, received, body]

/-! ### Combining records -/

/-- One constituent of a record that was applied: its result, its arrival, its message. -/
def State.credited (s : State) (keyed : Bool) (y : Constituent) (v : Nat) : State :=
  (((s.addResult ⟨y.conn.val, y.inc, y.seq, .ok, v⟩).arrive y.conn.val y.seq).constituentMsg keyed y)

theorem State.credited_lands (s : State) (keyed : Bool) (y : Constituent) (v : Nat) :
    (s.addResult ⟨y.conn.val, y.inc, y.seq, .ok, v⟩).Lands (s.credited keyed y v) ∧ s.Only [.bar, .cores, .pln, .lnk, .xpt, .shp, .freeCtr] (s.credited keyed y v) := by
  have kept : s.Only [.xpt] (s.addResult ⟨y.conn.val, y.inc, y.seq, .ok, v⟩) := by simp [State.Only, State.addResult]
  have came := (State.keeps_self (s.addResult ⟨y.conn.val, y.inc, y.seq, .ok, v⟩) [.bar, .cores, .pln, .lnk, .xpt, .shp, .freeCtr]).arrive (by decide) y.conn.val y.seq
  have lands := State.lands_arrive (s.addResult ⟨y.conn.val, y.inc, y.seq, .ok, v⟩) y.conn.val y.seq
  rw [State.credited, State.constituentMsg]
  split
  · exact ⟨lands.trans (State.lands_wholeMsg _ _ _), (kept.mono (by decide)).trans (came.wholeMsg (by decide) _ _).only⟩
  · exact ⟨lands, (kept.mono (by decide)).trans came.only⟩

/-- The constituent of a record of one whose turn has come. -/
theorem constituent_ready {s : State} {r : CombRec} {y : Constituent} {c : Conn} (known : s.constituentConn y = some c) (turn : r.keyed = true ∨ y.seq = c.rcvNxt) :
    (if r.keyed = true then ([y], []) else s.inTurn [] [y]) = ([y], []) := by
  have here : s.conn y.conn.val = some c := by
    rw [State.constituentConn] at known
    cases there : s.conn y.conn.val with
    | none => rw [there] at known; cases known
    | some d =>
      rw [there] at known
      dsimp only at known
      split at known
      · exact known
      · cases known
  split
  · rfl
  · next window =>
    have next : y.seq = c.rcvNxt := turn.resolve_left window
    simp only [State.inTurn, here]
    simp [next]

/-- A record of one constituent whose turn has come, updated at its target. -/
theorem applyRecord_one {s s1 : State} {a : Nat} {r : CombRec} {y : Constituent} {c : Conn} (single : r.list_ = [y]) (known : s.constituentConn y = some c)
    (room : s.xpt.results.length < 131072) (turn : r.keyed = true ∨ y.seq = c.rcvNxt) (target : s.recordTarget c r = (s1, .ok a)) (inT1 : s1.memory.target a = .t1)
    (sound : s1.memory.poisoned a (aopBytes r.aop) = false) :
    ∃ s2 q, s2 = ((((s1.physWrite a (leBytes (aopBytes r.aop) (atomNew r.aop (leNat (memRead s1.memory.mem a (aopBytes r.aop))) y.opnd 0))).count Reg.xptCntCombined 1).credited
        r.keyed y (leNat (memRead s1.memory.mem a (aopBytes r.aop)))).settle y.conn.val) ∧
      s.applyRecord r = if aopFetch r.aop then s2.routeOn none q else s2 := by
  have all : r.list_.filter (fun x => (s.constituentConn x).isSome) = [y] := by
    rw [single]
    exact List.filter_cons_of_pos (by rw [known]; rfl)
  have fits : ¬131072 < s.xpt.results.length + [y].length := by
    rw [List.length_singleton]
    omega
  have ready := constituent_ready known turn
  have first : [y].head?.bind s.constituentConn = some c := known
  refine ⟨_, ?_, rfl, ?_⟩
  rotate_left
  · rw [State.applyRecord]
    simp only [all, ready, State.refuseAll, List.foldl_nil]
    rw [first]
    dsimp only
    rw [if_neg fits, target]
    dsimp only
    rw [inT1, sound]
    rfl

theorem combined_updates (s s1 : State) (p : Packet) (now a : Nat) (r : CombRec) (y : Constituent) (c : Conn) (body : p.body = .combined r) (served : s.xpt.ready = true)
    (trailer : p.trailerOk = true) (young : (s.at_ now).expired p = false) (single : r.list_ = [y]) (known : (s.at_ now).constituentConn y = some c)
    (room : s.xpt.results.length < 131072) (empty : s.xpt.rob = []) (turn : r.keyed = true ∨ y.seq = c.rcvNxt) (target : (s.at_ now).recordTarget c r = (s1, .ok a))
    (inT1 : s1.memory.target a = .t1) (sound : s1.memory.poisoned a (aopBytes r.aop) = false) :
    ∃ t, exec (.combined p now) s = .next t ∧
      memRead t.memory.mem a (aopBytes r.aop) = leBytes (aopBytes r.aop) (atomNew r.aop (leNat (memRead s1.memory.mem a (aopBytes r.aop))) y.opnd 0) ∧
      t.xpt.results = s1.xpt.results ++ [⟨y.conn.val, y.inc, y.seq, .ok, leNat (memRead s1.memory.mem a (aopBytes r.aop))⟩] ∧
      (∀ x, x < a ∨ a + aopBytes r.aop ≤ x → memByte t.memory.mem x = memByte s1.memory.mem x) ∧
      s.Only [.bar, .stk, .cores, .pln, .memory, .lnk, .xpt, .shp, .freeCtr] t := by
  obtain ⟨s2, q, settled, applied⟩ := applyRecord_one single known room turn target inT1 sound
  generalize written : leBytes (aopBytes r.aop) (atomNew r.aop (leNat (memRead s1.memory.mem a (aopBytes r.aop))) y.opnd 0) = l at settled
  have size : l.length = aopBytes r.aop := by
    rw [← written]
    exact leBytes_length _ _
  generalize leNat (memRead s1.memory.mem a (aopBytes r.aop)) = old at settled
  let s3 := (s1.physWrite a l).count Reg.xptCntCombined 1
  have walked := (((s.at_ now).keeps_self _).recordTarget (sub_self _) c r).only
  rw [target] at walked
  obtain ⟨lands, rest⟩ := s3.credited_lands r.keyed y old
  have quiet : (s3.credited r.keyed y old).settle y.conn.val = s3.credited r.keyed y old :=
    State.settle_empty _ (lands.rob.trans ((congrArg Xpt.rob walked.xpt).trans empty))
  have wrote : s1.Only [.memory, .bar] s3 := (((s1.keeps_self [.memory, .bar]).physWrite (by decide) a l).count (by decide) Reg.xptCntCombined 1).only
  have settled : s2 = s3.credited r.keyed y old := settled.trans quiet
  have run : exec (.combined p now) s = .next ((s.at_ now).applyRecord r) := by
    have unfolded : exec (.combined p now) s = execCombined p now s := rfl
    rw [unfolded, execCombined]
    simp only [body]
    refine (if_neg ?_).trans (if_neg ?_)
    · rw [trailer, show (s.at_ now).xpt.ready = true from served]
      decide
    · rw [young]
      decide
  have same : s2.Only [.bar, .lnk] ((s.at_ now).applyRecord r) := by
    rw [applied]
    split
    · exact ((s2.keeps_self _).routeOn (sub_self _) none q).only
    · exact .refl _ _
  have mem : ((s.at_ now).applyRecord r).memory.mem = memWrite s1.memory.mem a l := by
    rw [same.memory, settled, rest.memory]
    rfl
  refine ⟨_, run, ?_, ?_, fun x out => ?_, ?_⟩
  · have back := memRead_memWrite s1.memory.mem a l
    rw [size] at back
    rw [mem, back]
  · rw [same.xpt, settled, lands.results]
    rfl
  · rw [mem]
    exact memByte_memWrite_ne _ _ _ _ (by rw [size]; exact out)
  · rw [← settled] at rest
    exact ((s.only_at_stk now).mono (by decide)).trans ((walked.mono (by decide)).trans ((wrote.mono (by decide)).trans ((rest.mono (by decide)).trans (same.mono (by decide)))))

/-- An answer of a combining record's constituent. -/
def answerTo (s : State) (p : Packet) (st : Status) (y : Constituent) (v : Nat) : Packet :=
  Packet.seal { p with
    type := 0x21, dst := y.src, hops := 0, viaValid := false, cmark := false, nonmin := false, rsv := 0, len := 24, body := .atomicData st v
    xp := { p.xp with conn := y.conn, inc := y.inc, seq := y.seq, ack := 0, tag := y.tag, age := s.usNow } }

theorem exec_combinedData (s : State) (p : Packet) (now base : Nat) (st : Status) (r : CombRec) (body : p.body = .combinedData base st r) (trailer : p.trailerOk = true) :
    exec (.combinedData p now) s = .next ((r.list_.zip (combineFold r.aop base (r.list_.map fun x => x.opnd)).1).foldl
      (fun (x : State) q => x.routeOn none (answerTo x p st q.1 q.2)) (s.at_ now)) := by
  have unfolded : exec (.combinedData p now) s = execCombinedData p now s := rfl
  rw [unfolded, execCombinedData]
  simp only [body]
  exact if_neg (by rw [trailer]; decide)

theorem combinedData_splits (s : State) (p : Packet) (now base : Nat) (st : Status) (r : CombRec) (body : p.body = .combinedData base st r) (trailer : p.trailerOk = true) :
    ∃ t, exec (.combinedData p now) s = .next t ∧ (r.list_ = [] → t = s.at_ now) ∧
      (∀ y, r.list_ = [y] → t = (s.at_ now).routeOn none (Packet.seal { p with
        type := 0x21, dst := y.src, hops := 0, viaValid := false, cmark := false, nonmin := false, rsv := 0, len := 24, body := .atomicData st base,
        xp := { p.xp with conn := y.conn, inc := y.inc, seq := y.seq, ack := 0, tag := y.tag, age := (s.at_ now).usNow } })) ∧
      (∀ y z, r.list_ = [y, z] → ∃ s1, exec (.combinedData { p with body := .combinedData base st { r with list_ := [y] } } now) s = .next s1 ∧
        exec (.combinedData { p with body := .combinedData (atomNew r.aop base y.opnd 0) st { r with list_ := [z] } } now) s1 = .next t) ∧
      s.Only [.bar, .stk, .lnk] t := by
  refine ⟨_, exec_combinedData s p now base st r body trailer, fun none_ => ?_, fun y single => ?_, fun y z two => ?_, ?_⟩
  · rw [none_]
    rfl
  · rw [single]
    rfl
  · let s1 := (s.at_ now).routeOn none (answerTo (s.at_ now) p st y base)
    have first := exec_combinedData s { p with body := .combinedData base st { r with list_ := [y] } } now base st { r with list_ := [y] } rfl trailer
    have second := exec_combinedData s1 { p with body := .combinedData (atomNew r.aop base y.opnd 0) st { r with list_ := [z] } } now (atomNew r.aop base y.opnd 0) st
      { r with list_ := [z] } rfl trailer
    have time : s1.at_ now = s1 := by
      have kept : s1.stk = (s.at_ now).stk := (((s.at_ now).keeps_self _).routeOn (sub_self _) none _).only.stk
      rw [State.at_, kept]
      have idle : max (s.at_ now).stk.time now = (s.at_ now).stk.time := Nat.max_eq_left (Nat.le_max_right _ _)
      rw [idle, ← kept]
    refine ⟨s1, first, second.trans ?_⟩
    rw [two, time]
    rfl
  · exact ((s.only_at_stk now).mono (by decide)).trans (((s.at_ now).keeps_self [.bar, .stk, .lnk]).foldl _ _ fun x q kx => kx.routeOn (by decide) none _).only

/-! ### Queries -/

theorem query_finds (s : State) (p : Packet) (now : Nat) (inc : Fin 4096) (seq : BitVec 32) (r : XResult) (body : p.body = .query inc seq) (served : s.xpt.ready = true)
    (trailer : p.trailerOk = true) (young : (s.at_ now).expired p = false) (gone : s.conn p.xp.conn.val = none)
    (held : s.xpt.failed.any (fun f => f.conn == p.xp.conn.val && f.inc == inc && f.peer == p.src && decide (now < f.until_)) = true)
    (kept : s.xpt.results.find? (fun x => x.conn == p.xp.conn.val && x.inc == inc && x.seq == seq) = some r) :
    ∃ q : Packet, q.type = 0x25#8 ∧ q.dst = p.src ∧ q.src = s.me ∧ q.body = .queryData (some true) r.value ∧ q.xp.tag = p.xp.tag ∧
      exec (.query p now) s = .next ((s.at_ now).inject false q.seal) := by
  have none_ : (s.at_ now).conn p.xp.conn.val = none := gone
  have held' : ((s.at_ now).xpt.failed.any fun f => f.conn == p.xp.conn.val && f.inc == inc && f.peer == p.src && decide (now < f.until_)) = true := held
  have kept' : (s.at_ now).xpt.results.find? (fun x => x.conn == p.xp.conn.val && x.inc == inc && x.seq == seq) = some r := kept
  refine ⟨{ p with type := 0x25#8, dst := p.src, src := s.me, hops := 0, viaValid := false, cmark := false, nonmin := false, rsv := 0, len := 24
                   xp := { p.xp with age := (s.at_ now).usNow }, body := .queryData (some true) r.value }, rfl, rfl, rfl, rfl, rfl, ?_⟩
  have unfolded : exec (.query p now) s = execQuery p now s := rfl
  rw [unfolded, execQuery]
  simp only [body]
  refine (if_neg ?_).trans ((if_neg ?_).trans ?_)
  · rw [trailer, show (s.at_ now).xpt.ready = true from served]
    decide
  · rw [young]
    decide
  · simp only [none_, held', kept']
    rfl

theorem queryData_answers (s : State) (p : Packet) (now v : Nat) (b : Bool) (d : DeviceId) (r : ReplyTo) (body : p.body = .queryData (some b) v) (trailer : p.trailerOk = true)
    (asked : afind s.xpt.queries p.xp.tag.toNat = some (d, r)) :
    ∃ t, exec (.queryData p now) s = .next t ∧ afind t.xpt.queries p.xp.tag.toNat = none ∧
      t = State.answer { s.at_ now with xpt := t.xpt } r .ok true (leBytes 1 (b2n b) ++ zeros 7 ++ leBytes 16 v) ∧ s.Only [.bar, .stk, .xpt, .cmd, .host, .out] t := by
  let s2 : State := { s.at_ now with xpt := { s.xpt with queries := adel s.xpt.queries p.xp.tag.toNat } }
  have asked' : afind (s.at_ now).xpt.queries p.xp.tag.toNat = some (d, r) := asked
  have run : exec (.queryData p now) s = .next (s2.answer r .ok true (leBytes 1 (b2n b) ++ zeros 7 ++ leBytes 16 v)) := by
    have unfolded : exec (.queryData p now) s = execQueryData p now s := rfl
    rw [unfolded, execQueryData]
    simp only [body, asked']
    exact if_neg (by rw [trailer]; decide)
  have only := s2.answer_only r .ok true (leBytes 1 (b2n b) ++ zeros 7 ++ leBytes 16 v)
  have dropped : s.Only [.stk, .xpt] s2 := by simp [State.Only, s2, State.at_]
  refine ⟨_, run, ?_, ?_, (dropped.mono (by decide)).trans (only.mono (by decide))⟩
  · rw [only.xpt]
    exact afind_adel_same _ _
  · rw [only.xpt]

theorem resultHoldExpiry_drops (s : State) (conn now : Nat) (inc : Fin 4096)
    (past : s.xpt.failed.any (fun f => f.conn == conn && f.inc == inc && decide (f.until_ ≤ now)) = true) :
    ∃ t, exec (.resultHoldExpiry conn inc now) s = .next t ∧ (∀ r ∈ t.xpt.results, ¬ (r.conn = conn ∧ r.inc = inc)) ∧
      (∀ f ∈ t.xpt.failed, ¬ (f.conn = conn ∧ f.inc = inc)) ∧
      (∀ c, s.conn conn = some c → c.state = .failed → c.inc = inc → t.conn conn = none) ∧ (∀ j, j ≠ conn → t.conn j = s.conn j) ∧ s.Only [.stk, .xpt] t := by
  let s2 : State := { s.at_ now with xpt := { s.xpt with
    failed := s.xpt.failed.filter (fun f => !(f.conn == conn && f.inc == inc))
    results := s.xpt.results.filter (fun r => !(r.conn == conn && r.inc == inc)) } }
  have dropped : s.Only [.stk, .xpt] s2 := by simp [State.Only, s2, State.at_]
  have results : ∀ r ∈ s2.xpt.results, ¬ (r.conn = conn ∧ r.inc = inc) := fun r mem named => by
    have unnamed := (List.mem_filter.1 mem).2
    simp [named] at unnamed
  have failed : ∀ f ∈ s2.xpt.failed, ¬ (f.conn = conn ∧ f.inc = inc) := fun f mem named => by
    have unnamed := (List.mem_filter.1 mem).2
    simp [named] at unnamed
  have run : exec (.resultHoldExpiry conn inc now) s = match s.conn conn with
      | some c => if c.state = ConnState.failed ∧ c.inc = inc then .next (s2.freeConn conn) else .next s2
      | none => .next s2 := if_pos past
  cases here : s.conn conn with
  | none =>
    rw [here] at run
    exact ⟨s2, run, results, failed, (fun _ there => nomatch there), fun _ _ => rfl, dropped⟩
  | some c =>
    rw [here] at run
    dsimp only at run
    split at run
    · exact ⟨_, run, results, failed, fun _ _ _ _ => s2.conn_freeConn conn, fun j ne => s2.conn_freeConn_ne ne, dropped.trans (((s2.keeps_self _).freeConn (sub_self _) conn).only.mono (by decide))⟩
    · next other =>
      refine ⟨s2, run, results, failed, fun d there failed' mine => ?_, fun _ _ => rfl, dropped⟩
      cases there
      exact absurd ⟨failed', mine⟩ other

/-- Settles O40: answers, combining records, and what the home kept. -/
theorem answersAndRecords : Obligations.AnswersAndRecords :=
  ⟨getData_places, loadData_returns, atomicData_returns, combined_updates, combinedData_splits, query_finds, queryData_answers, resultHoldExpiry_drops⟩

end Sys2Proof.Machine
end

section
/-!
PROOFS. Regions, queues, collectors and groups by command (O41).
-/
namespace Sys2Proof.Machine

/-! ### Free numbers -/

theorem leastFree_none {used : List Nat} {n i : Nat} (none_ : leastFree used n i = none) : ∀ k, i ≤ k → k < i + n → k ∈ used := by
  induction n generalizing i with
  | zero => exact fun k low high => absurd high (by omega)
  | succ n ih =>
    rw [leastFree] at none_
    split at none_
    · next taken =>
      intro k low high
      by_cases e : k = i
      · rw [e]
        exact List.contains_iff_mem.1 taken
      · exact ih none_ k (by omega) (by omega)
    · cases none_

theorem leastFree_free {used : List Nat} {n i k : Nat} (found : leastFree used n i = some k) : k ∉ used := by
  induction n generalizing i with
  | zero => cases found
  | succ n ih =>
    rw [leastFree] at found
    split at found
    · exact ih found
    · next free =>
      cases found
      exact fun mem => free (List.contains_iff_mem.2 mem)

/-- Among more numbers than are used one is free. -/
theorem leastFree_some {used : List Nat} {n : Nat} (few : used.length < n) : ∃ k, leastFree used n 0 = some k ∧ k ∉ used := by
  cases found : leastFree used n 0 with
  | some k => exact ⟨k, rfl, leastFree_free found⟩
  | none =>
    have all := leastFree_none found
    have sub : List.range n ⊆ used := fun k mem => all k (Nat.zero_le k) (by rw [Nat.zero_add]; exact List.mem_range.1 mem)
    have long := (List.subperm_of_subset List.nodup_range sub).length_le
    rw [List.length_range] at long
    omega

theorem afind_of_notMem {α : Type} {t : Assoc α} {k : Nat} (free : k ∉ t.map fun q => q.1) : afind t k = none := by
  cases found : afind t k with
  | none => rfl
  | some x => exact absurd (List.mem_map.2 ⟨_, mem_of_afind found, rfl⟩) free

/-- The number that a table gives next is free in it. -/
theorem leastFree_table {α : Type} (t : Assoc α) {n : Nat} (room : t.length < n) : afind t ((leastFree (t.map fun q => q.1) n 0).getD 0) = none := by
  obtain ⟨k, found, free⟩ := leastFree_some (used := t.map fun q => q.1) (n := n) (by rw [List.length_map]; exact room)
  rw [found]
  exact afind_of_notMem free

/-! ### Replies that leave the transport alone -/

theorem State.Only.answered {s t : State} (h : s.Only [.xpt] t) (r : ReplyTo) (st : Status) (final : Bool) (bytes : List Byte) :
    s.Only [.bar, .xpt, .cmd, .host, .out] (t.answer r st final bytes) := (h.mono (by decide)).trans ((t.answer_only r st final bytes).mono (by decide))

theorem State.only_setXpt (s : State) (x : Xpt) : s.Only [.xpt] { s with xpt := x } := by simp [State.Only]

/-- An answer that follows a change of the transport. -/
theorem State.answer_of_xpt (s : State) (x : Xpt) (r : ReplyTo) (st : Status) (final : Bool) (bytes : List Byte) :
    State.answer { s with xpt := x } r st final bytes = State.answer { s with xpt := (State.answer { s with xpt := x } r st final bytes).xpt } r st final bytes := by
  rw [(State.answer_only { s with xpt := x } r st final bytes).xpt]

theorem State.dones_only (l : List ReplyTo) (s : State) (st : Status) : s.Only [.bar, .cmd, .host, .out] (l.foldl (fun (x : State) r => x.done r st) s) :=
  ((s.keeps_self [.bar, .cmd, .host, .out]).foldl _ _ fun x r kx => kx.done (by decide) r st).only

/-! ### Regions -/

theorem regionRegister_makes (s s1 : State) (h : Header) (r : ReplyTo) (base length perms : Nat) (draw : BitVec 48) (rsv : Nat)
    (hs : s.Serves ⟨0x0500, 1, true, true, 24, rsv, 0, false⟩ h false r s1) (legal : perms < 8) (aligned : base % 65536 = 0) (whole : length % 65536 = 0) (some_ : 0 < length)
    (most : length ≤ 2 ^ 40) (mapped : ∀ i, i < length / 65536 → (s1.mappedPage h.part.val (base + i * 65536)).isSome = true) (room : s1.xpt.regions.length < 65536) :
    ∃ t i, exec (.regionRegister h base length perms 0 draw rsv) s = .next t ∧ afind s1.xpt.regions i = none ∧
      t.xpt.regions = aput s1.xpt.regions i ⟨draw, h.part, base, length, bitAt perms 0, bitAt perms 1, bitAt perms 2, some h.tenant, false, none, []⟩ ∧ t.xpt.winMap = s1.xpt.winMap ∧
      t = State.answer { s1 with xpt := t.xpt } r .ok true (leBytes 8 (i * 2 ^ 48 + draw.toNat)) ∧ s.Only [.bar, .stk, .xpt, .cmd, .host, .out] t := by
  let i := (leastFree (s1.xpt.regions.map fun q => q.1) 65536 0).getD 0
  let x : Xpt := { s1.xpt with
    regions := aput s1.xpt.regions i ⟨draw, h.part, base, length, bitAt perms 0, bitAt perms 1, bitAt perms 2, some h.tenant, false, none, []⟩ }
  have pages : (((List.range (length / 65536)).map fun i => s1.mappedPage h.part.val (base + i * 65536)).all
      fun x => match x with | some (sz, _) => !false || decide (2097152 ≤ sz) | none => false) = true := by
    rw [List.all_map, List.all_eq_true]
    intro i mem
    have there := mapped i (List.mem_range.1 mem)
    rw [Function.comp_apply]
    cases page : s1.mappedPage h.part.val (base + i * 65536) with
    | none => rw [page] at there; cases there
    | some q => rfl
  have run : exec (.regionRegister h base length perms 0 draw rsv) s = .next (State.answer { s1 with xpt := x } r .ok true (leBytes 8 (i * 2 ^ 48 + draw.toNat))) := by
    refine congrArg Host.Outcome.next ((State.serve_of_serves hs _).trans ?_)
    have unset : bitAt 0 0 = false ∧ bitAt 0 1 = false := by decide
    simp only [unset.1, unset.2]
    refine (if_neg ?_).trans (if_neg (Nat.not_le.2 room))
    rintro (e | e | e | e | e | e | e | e)
    · exact e (Nat.div_eq_of_lt legal)
    · exact e (by decide)
    · exact absurd e.1 (by decide)
    · exact e aligned
    · exact e whole
    · omega
    · omega
    · have unmapped := (Bool.not_eq_true' _).mp e
      exact Bool.false_ne_true (unmapped.symm.trans pages)
  have only := State.answer_only { s1 with xpt := x } r .ok true (leBytes 8 (i * 2 ^ 48 + draw.toNat))
  refine ⟨_, i, run, leastFree_table _ room, (congrArg Xpt.regions only.xpt).trans rfl, (congrArg Xpt.winMap only.xpt).trans rfl, s1.answer_of_xpt x r .ok true _, ?_⟩
  exact (hs.only.mono (by decide)).trans (((s1.only_setXpt x).answered r .ok true _).mono (by decide))

theorem regionRegister_illegal (s s1 : State) (h : Header) (r : ReplyTo) (base length perms flags : Nat) (draw : BitVec 48) (rsv : Nat)
    (hs : s.Serves ⟨0x0500, 1, true, true, 24, rsv, 0, false⟩ h false r s1) (bad : base % 65536 ≠ 0 ∨ length = 0 ∨ 2 ^ 40 < length ∨ 8 ≤ perms) :
    exec (.regionRegister h base length perms flags draw rsv) s = .next (s1.done r .badField) := by
  refine congrArg Host.Outcome.next ((State.serve_of_serves hs _).trans (if_pos ?_))
  rcases bad with misaligned | none_ | long | illegal
  · refine .inr (.inr (.inr (.inl ?_)))
    split <;> omega
  · exact .inr (.inr (.inr (.inr (.inr (.inl none_)))))
  · exact .inr (.inr (.inr (.inr (.inr (.inr (.inl long))))))
  · exact .inl (by omega)

theorem regionRevoke_marks (s s1 : State) (h : Header) (r : ReplyTo) (key : BitVec 64) (g : Region) (hs : s.Serves ⟨0x0501, 2, true, false, 8, 0, 0, false⟩ h false r s1)
    (found : afind s1.xpt.regions (keyIndex key) = some g) (drawn : g.draw.toNat = key.toNat % 2 ^ 48) (owned : h.owns g.part = true) :
    ∃ t, exec (.regionRevoke h key) s = .next t ∧
      afind t.xpt.regions (keyIndex key) = some { g with revoking := some (g.revoking.getD s1.stk.time), replies := g.replies ++ [{ r with left := r.left - 1 }] } ∧
      s.Only [.bar, .stk, .xpt, .cmd, .host, .out] t := by
  let a := s1.accepted r
  let x : Xpt := { a.1.xpt with regions := aput a.1.xpt.regions (keyIndex key) { g with revoking := some (g.revoking.getD s1.stk.time), replies := g.replies ++ [{ r with left := r.left - 1 }] } }
  have run : exec (.regionRevoke h key) s = .next { a.1 with xpt := x } := by
    refine congrArg Host.Outcome.next ((State.serve_of_serves hs _).trans ?_)
    dsimp only
    rw [found]
    exact (if_neg fun e => e drawn).trans (if_neg (by rw [owned]; decide))
  refine ⟨_, run, afind_aput_same _ _ _, (hs.only.mono (by decide)).trans ?_⟩
  exact ((s1.answer_only r .accepted false []).mono (by decide)).trans ((a.1.only_setXpt x).mono (by decide))

theorem regionRevoke_again (s s1 : State) (h : Header) (r : ReplyTo) (key : BitVec 64) (hs : s.Serves ⟨0x0501, 2, true, false, 8, 0, 0, false⟩ h false r s1)
    (gone : afind s1.xpt.regions (keyIndex key) = none) : exec (.regionRevoke h key) s = .next (s1.done r .alreadyDone) := by
  refine congrArg Host.Outcome.next ((State.serve_of_serves hs _).trans ?_)
  dsimp only
  rw [gone]

/-- The state with a region gone, before the replies. -/
def State.unregistered (s : State) (i : Nat) : State :=
  { s with xpt := { s.xpt with regions := adel s.xpt.regions i, winMap := s.xpt.winMap.filter fun q => q.2 != i } }

theorem State.regionGone_gone (s : State) (i : Nat) (g : Region) :
    afind (s.regionGone i g).xpt.regions i = none ∧ (∀ q ∈ (s.regionGone i g).xpt.winMap, q.2 ≠ i) ∧ s.Only [.bar, .xpt, .cmd, .host, .out] (s.regionGone i g) := by
  have only := State.dones_only g.replies (s.unregistered i) .ok
  have xpt : (s.regionGone i g).xpt = (s.unregistered i).xpt := only.xpt
  refine ⟨?_, fun q mem => ?_, ((s.keeps_self _).regionGone (sub_self _) i g).only⟩
  · rw [xpt]
    exact afind_adel_same _ _
  · rw [xpt] at mem
    exact bne_iff_ne.1 (List.mem_filter.1 mem).2

theorem regionRevokeComplete_drops (s : State) (index : Nat) (g : Region) (found : afind s.xpt.regions index = some g) (revoking : g.revoking.isSome = true)
    (done : ∀ e ∈ s.xpt.stitch, e.holds index = false) :
    ∃ t, exec (.regionRevokeComplete index) s = .next t ∧ afind t.xpt.regions index = none ∧ (∀ q ∈ t.xpt.winMap, q.2 ≠ index) ∧
      s.Only [.bar, .xpt, .cmd, .host, .out] t := by
  have free : (s.xpt.stitch.any fun e => e.holds index) = false := by
    rw [List.any_eq_false]
    exact fun e mem => by rw [done e mem]; decide
  have run : exec (.regionRevokeComplete index) s = .next (s.regionGone index g) := by
    have unfolded : exec (.regionRevokeComplete index) s = execRegionRevokeComplete index s := rfl
    rw [unfolded, execRegionRevokeComplete, found]
    exact if_pos ⟨revoking, by rw [free]; rfl⟩
  obtain ⟨gone, wins, only⟩ := s.regionGone_gone index g
  exact ⟨_, run, gone, wins, only⟩

theorem revokeAbandonTimeout_drops (s : State) (index now t0 : Nat) (g : Region) (found : afind s.xpt.regions index = some g) (revoking : g.revoking = some t0)
    (late : t0 + 1000000 ≤ now) :
    ∃ t, exec (.revokeAbandonTimeout index now) s = .next t ∧ afind t.xpt.regions index = none ∧ (∀ q ∈ t.xpt.winMap, q.2 ≠ index) ∧
      (s.xpt.stitch = [] → s.Only [.bar, .stk, .xpt, .cmd, .host, .out] t) ∧
      s.Only [.bar, .stk, .cores, .pln, .memory, .xpt, .cmd, .host, .out, .freeCtr] t := by
  let s2 : State := { s.at_ now with xpt := { s.xpt with stitch := s.xpt.stitch.map fun e => if e.holds index then { e with abandoned := true, complete := true } else e } }
  let s3 := (s.xpt.stitch.filter fun e => e.holds index).foldl (fun (x : State) e => (x.undefineMsg e).deliverMsgs e.conn (x.xpt.stitch.length + 1)) s2
  have found' : afind (s.at_ now).xpt.regions index = some g := found
  have run : exec (.revokeAbandonTimeout index now) s = .next (s3.regionGone index g) := by
    have unfolded : exec (.revokeAbandonTimeout index now) s = execRevokeAbandonTimeout index now s := rfl
    rw [unfolded, execRevokeAbandonTimeout]
    simp only [found', revoking]
    exact if_neg (Nat.not_lt.2 late)
  obtain ⟨gone, wins, only⟩ := s3.regionGone_gone index g
  have marked : s.Only [.stk, .xpt] s2 := by simp [State.Only, s2, State.at_]
  refine ⟨_, run, gone, wins, fun none_ => ?_, (marked.mono (by decide)).trans ?_⟩
  · have idle : s3 = s2 := by
      simp only [s3, none_, List.filter_nil, List.foldl_nil]
    rw [idle] at only ⊢
    exact (marked.mono (by decide)).trans (only.mono (by decide))
  · exact (((s2.keeps_self [.bar, .stk, .cores, .pln, .memory, .xpt, .cmd, .host, .out, .freeCtr]).foldl _ _ fun x e kx =>
      (kx.undefineMsg (by decide) e).deliverMsgs (by decide) e.conn _).regionGone (by decide) index g).only

/-! ### Queues -/

theorem xqCreate_makes (s s1 : State) (h : Header) (r : ReplyTo) (entries ring rsv : Nat) (hs : s.Serves ⟨0x0503, 1, true, true, 16, rsv, 0, false⟩ h false r s1)
    (power : isPow2 16 65536 entries = true) (aligned : ring % 64 = 0) (room : s1.xpt.queues.length < 16384) :
    ∃ t q, exec (.xqCreate h entries ring rsv) s = .next t ∧ afind s1.xpt.queues q = none ∧
      t.xpt.queues = aput s1.xpt.queues q { part := h.part, tenant := h.tenant, ring := ring, entries := entries, next := 0, phase := true, open_ := [], parked := [], destroying := [] } ∧
      t = State.answer { s1 with xpt := t.xpt } r .ok true (leBytes 2 q) := by
  let q := (leastFree (s1.xpt.queues.map fun x => x.1) 16384 0).getD 0
  let x : Xpt := { s1.xpt with queues := aput s1.xpt.queues q { part := h.part, tenant := h.tenant, ring := ring, entries := entries, next := 0, phase := true, open_ := [], parked := [], destroying := [] } }
  have run : exec (.xqCreate h entries ring rsv) s = .next (State.answer { s1 with xpt := x } r .ok true (leBytes 2 q)) := by
    refine congrArg Host.Outcome.next ((State.serve_of_serves hs _).trans ((if_neg ?_).trans (if_neg (Nat.not_le.2 room))))
    rw [power]
    exact fun e => e.elim (by decide) fun e => e aligned
  exact ⟨_, q, run, leastFree_table _ room, congrArg Xpt.queues (State.answer_only { s1 with xpt := x } r .ok true (leBytes 2 q)).xpt, s1.answer_of_xpt x r .ok true _⟩

theorem xqDestroy_ends (s s1 : State) (h : Header) (r : ReplyTo) (queue rsv : Nat) (x : XQueue) (hs : s.Serves ⟨0x0504, 2, true, false, 4, rsv, 0, false⟩ h false r s1)
    (found : afind s1.xpt.queues queue = some x) (owned : h.owns x.part = true) :
    ∃ t, exec (.xqDestroy h queue rsv) s = .next t ∧ (x.open_ = [] → afind t.xpt.queues queue = none) ∧
      (x.open_ ≠ [] → afind t.xpt.queues queue = some { x with destroying := x.destroying ++ [{ r with left := r.left - 1 }] }) ∧
      s.Only [.bar, .stk, .xpt, .cmd, .host, .out] t := by
  let a := s1.accepted r
  let y : XQueue := { x with destroying := x.destroying ++ [{ r with left := r.left - 1 }] }
  let s2 : State := { a.1 with xpt := { a.1.xpt with queues := aput a.1.xpt.queues queue y } }
  have run : exec (.xqDestroy h queue rsv) s = .next (s2.queueGone queue) := by
    refine congrArg Host.Outcome.next ((State.serve_of_serves hs _).trans ?_)
    dsimp only
    rw [found]
    exact if_neg (by rw [owned]; decide)
  have marked : afind s2.xpt.queues queue = some y := afind_aput_same _ _ _
  have pending : y.destroying.isEmpty = false := by simp [y]
  refine ⟨_, run, fun idle => ?_, fun busy => ?_, (hs.only.mono (by decide)).trans ?_⟩
  · rw [State.queueGone, marked]
    dsimp only
    rw [if_neg (by rw [pending, show y.open_ = [] from idle]; decide)]
    refine (congrArg (fun z : Xpt => afind z.queues queue) (State.dones_only _ _ .ok).xpt).trans ?_
    exact afind_adel_same _ _
  · have waits : s2.queueGone queue = s2 := by
      rw [State.queueGone, marked]
      refine if_pos (.inr fun e => busy ?_)
      exact List.isEmpty_iff.1 e
    rw [waits]
    exact marked
  · have answered : s1.Only [.bar, .cmd, .host, .out] a.1 := s1.answer_only r .accepted false []
    have put : a.1.Only [.xpt] s2 := a.1.only_setXpt _
    exact (answered.mono (by decide)).trans ((put.mono (by decide)).trans (((s2.keeps_self _).queueGone (sub_self _) queue).only.mono (by decide)))

/-! ### Queries of connections and atomics -/

theorem zeros_length (n : Nat) : (zeros n).length = n := List.length_replicate

theorem padTo_length (n : Nat) (l : List Byte) : (padTo n l).length = n := by
  rw [padTo, List.length_take, List.length_append, zeros_length]
  omega

theorem connQuery_writes (s s1 : State) (h : Header) (r : ReplyTo) (conn : Nat) (outAddr : BitVec 64) (rsv : Nat) (c : Conn)
    (hs : s.Serves ⟨0x0505, 1, true, false, 16, rsv, outAddr.toNat, false⟩ h false r s1) (within : conn < s1.fld Reg.xptConnCfg 20 0) (here : s1.conn conn = some c)
    (device : h.origin.partition = none) :
    exec (.connQuery h conn outAddr rsv) s = .next ((s1.writeAddr h.origin outAddr.toNat (c.bytes conn)).done r .ok) ∧ (c.bytes conn).length = 256 := by
  refine ⟨congrArg Host.Outcome.next ((State.serve_of_serves hs _).trans ((if_neg (Nat.not_le.2 within)).trans ?_)), padTo_length 256 _⟩
  rw [here]
  refine if_neg ?_
  rw [Header.owns, device]
  simp

/-- The packet of an atomic's query. -/
def State.asking (s : State) (h : Header) (dev : DeviceId) (handle tag : Nat) : Packet :=
  { type := 0x24#8, cmark := false, nonmin := false, dst := dev, src := s.me, tenant := h.tenant, part := h.part, cls := 0, hops := 0
    viaValid := false, viaMember := false, via := 0, rsv := 0, len := 6, hcrc := 0
    xp := { inc := ⟨bits handle 43 32 % 4096, Nat.mod_lt _ (by decide)⟩, conn := ⟨bits handle 63 44 % 1048576, Nat.mod_lt _ (by decide)⟩, seq := 0, ack := 0
            tag := BitVec.ofNat 16 tag, echo := false, retx := false, first := true, last := true, ordered := false, rsv := 0, age := s.usNow }
    body := .query ⟨bits handle 43 32 % 4096, Nat.mod_lt _ (by decide)⟩ (BitVec.ofNat 32 handle), trailerOk := true }

theorem atomicQuery_asks (s s1 : State) (h : Header) (r : ReplyTo) (dev : DeviceId) (handle : BitVec 64) (rsv tag : Nat)
    (hs : s.Serves ⟨0x0506, 1, true, false, 16, rsv, 0, false⟩ h false r s1) (legal : dev.toNat < 2 ^ 14) (far : harness dev ≠ harness s1.me) (alive : dev ∉ s1.lnk.lost)
    (free : s1.freeTag = some tag) :
    ∃ t, exec (.atomicQuery h dev handle rsv) s = .next t ∧ t.xpt = { s1.xpt with queries := aput s1.xpt.queries tag (dev, r) } ∧
      s.Only [.bar, .stk, .lnk, .xpt, .shp, .cmd, .host, .out] t := by
  let s2 : State := { s1 with xpt := { s1.xpt with queries := aput s1.xpt.queries tag (dev, r) } }
  let p := s1.asking h dev handle.toNat tag
  have run : exec (.atomicQuery h dev handle rsv) s = .next (s2.inject false p.seal) := by
    refine congrArg Host.Outcome.next ((State.serve_of_serves hs _).trans ((if_neg ?_).trans ((if_neg ?_).trans ?_)))
    · exact fun e => e (Nat.div_eq_of_lt legal)
    · rw [List.contains_iff_mem]
      exact fun e => e.elim alive fun e => far e.1
    · rw [free]
      rfl
  have sent := ((s2.keeps_self _).inject (sub_self _) false p.seal).only
  exact ⟨_, run, sent.xpt, (hs.only.mono (by decide)).trans (((s1.only_setXpt _).mono (by decide)).trans (sent.mono (by decide)))⟩

/-! ### Collectors and groups -/

theorem collectorCreate_makes (s s1 : State) (h : Header) (r : ReplyTo) (collector bit n : Nat) (cls : Fin 8) (rsv : Nat)
    (hs : s.Serves ⟨0x0507, 1, true, false, 8, rsv, 0, false⟩ h false r s1) (named : collector < 4096) (vector : bit < 16384) (some_ : 1 ≤ n) (most : n ≤ 16384)
    (fresh : afind s1.xpt.collectors (groupKey h.part.val collector) = none) :
    exec (.collectorCreate h collector bit n cls.val rsv) s = .next (State.done
      { s1 with xpt := { s1.xpt with collectors := aput s1.xpt.collectors (groupKey h.part.val collector) { part := h.part, bit := bit, n := n, cls := cls, slots := [] } } } r .ok) := by
  have legal : ¬(4096 ≤ collector ∨ 16384 ≤ bit ∨ n = 0 ∨ 16384 < n ∨ 8 ≤ cls.val) := by
    have := cls.isLt
    omega
  refine congrArg Host.Outcome.next ((State.serve_of_serves hs _).trans ((if_neg legal).trans ((if_neg (by rw [fresh]; decide)).trans ?_)))
  have same : (⟨cls.val % 8, Nat.mod_lt _ (by decide)⟩ : Fin 8) = cls := Fin.ext (Nat.mod_eq_of_lt cls.isLt)
  simp only [same]

theorem collectiveCreate_makes (s s1 : State) (h : Header) (r : ReplyTo) (group : Nat) (ranks : List DevPart) (rsv : Nat)
    (hs : s.Serves ⟨0x0508, 1, true, false, 8 + 4 * ranks.length, rsv, 0, false⟩ h false r s1) (some_ : ranks ≠ []) (most : ranks.length ≤ 4096)
    (legal : ∀ d ∈ ranks, d.dev.toNat < 2 ^ 14) (named : group < 65536) (fresh : afind s1.xpt.groups (groupKey h.part.val group) = none) :
    ∃ t, exec (.collectiveCreate h group 1 9 ranks rsv) s = .next t ∧
      t.xpt.groups = aput s1.xpt.groups (groupKey h.part.val group) ⟨h.part, 1, 9, ranks, 0, [], []⟩ ∧ t = State.done { s1 with xpt := t.xpt } r .ok := by
  let x : Xpt := { s1.xpt with groups := aput s1.xpt.groups (groupKey h.part.val group) ⟨h.part, 1, 9, ranks, 0, [], []⟩ }
  have run : exec (.collectiveCreate h group 1 9 ranks rsv) s = .next (State.done { s1 with xpt := x } r .ok) := by
    refine congrArg Host.Outcome.next ((State.serve_of_serves hs _).trans ((if_neg ?_).trans (if_neg (by rw [fresh]; decide))))
    rintro (e | e | e | e | e | e)
    · exact some_ (List.isEmpty_iff.1 e)
    · omega
    · exact e.1 rfl
    · exact e.2 rfl
    · omega
    · obtain ⟨d, mem, high⟩ := List.any_eq_true.1 e
      exact absurd (of_decide_eq_true high) (Nat.not_le.2 (legal d mem))
  exact ⟨_, run, congrArg Xpt.groups (State.done_only { s1 with xpt := x } r .ok).xpt, s1.answer_of_xpt x r .ok true []⟩

theorem groupDestroy_drops (s s1 : State) (h : Header) (r : ReplyTo) (id rsv : Nat) (hs : s.Serves ⟨0x0509, 1, true, false, 4, rsv, 0, false⟩ h false r s1) :
    ∃ t, exec (.groupDestroy h 0 id rsv) s = .next t ∧ afind t.xpt.collectors (groupKey h.part.val id) = none ∧ t.xpt.groups = s1.xpt.groups ∧
      (afind s1.xpt.collectors (groupKey h.part.val id) = none → t = s1.done r .alreadyDone) := by
  let s2 : State := { s1 with xpt := { s1.xpt with collectors := adel s1.xpt.collectors (groupKey h.part.val id) } }
  have run : exec (.groupDestroy h 0 id rsv) s = .next (if (afind s1.xpt.collectors (groupKey h.part.val id)).isNone then s1.done r .alreadyDone else s2.done r .ok) :=
    congrArg Host.Outcome.next (State.serve_of_serves hs _)
  cases found : afind s1.xpt.collectors (groupKey h.part.val id) with
  | none =>
    rw [found] at run
    have xpt := (s1.done_only r .alreadyDone).xpt
    exact ⟨_, run, (congrArg (fun z : Xpt => afind z.collectors _) xpt).trans found, congrArg Xpt.groups xpt, fun _ => rfl⟩
  | some col =>
    rw [found] at run
    have xpt := (s2.done_only r .ok).xpt
    exact ⟨_, run, (congrArg (fun z : Xpt => afind z.collectors _) xpt).trans (afind_adel_same _ _), (congrArg Xpt.groups xpt).trans rfl, fun gone => nomatch gone⟩

/-- Settles O41: the transport's commands. -/
theorem transportCommands : Obligations.TransportCommands :=
  ⟨regionRegister_makes, regionRegister_illegal, regionRevoke_marks, regionRevoke_again, regionRevokeComplete_drops, revokeAbandonTimeout_drops, xqCreate_makes, xqDestroy_ends,
    connQuery_writes, atomicQuery_asks, collectorCreate_makes, collectiveCreate_makes, groupDestroy_drops⟩

end Sys2Proof.Machine
end

section
/-!
PROOFS. Queue entries, their completions, and accesses to the harness window (O42).
-/
namespace Sys2Proof.Machine

/-! ### Operations while packets are sent -/

/-- An operation, issued or not. -/
def XOp.Issued (o q : XOp) : Prop := ∃ msg issued left, q = { o with msg := msg, issued := issued, left := left }

/-- Sending takes no operation from the table, brings none, and changes only how far one is issued. -/
structure State.Reissued (s t : State) : Prop where
  free : ∀ tag, afind s.xpt.ops tag = none → afind t.xpt.ops tag = none
  kept : ∀ tag o, afind s.xpt.ops tag = some o → ∃ q, afind t.xpt.ops tag = some q ∧ o.Issued q

theorem State.Reissued.of_ops {s t : State} (same : t.xpt.ops = s.xpt.ops) : s.Reissued t :=
  ⟨fun tag none_ => by rw [same]; exact none_, fun tag o found => ⟨o, by rw [same]; exact found, _, _, _, rfl⟩⟩

theorem State.Reissued.trans {s t u : State} (h : s.Reissued t) (k : t.Reissued u) : s.Reissued u := by
  refine ⟨fun tag none_ => k.free tag (h.free tag none_), fun tag o found => ?_⟩
  obtain ⟨q, found', _, _, _, rfl⟩ := h.kept tag o found
  obtain ⟨r, last, _, _, _, rfl⟩ := k.kept tag _ found'
  exact ⟨_, last, _, _, _, rfl⟩

theorem State.drainQueue_ops (n : Nat) (s : State) (k : Nat) : (s.drainQueue k n).xpt.ops = s.xpt.ops := by
  induction n generalizing s with
  | zero => rfl
  | succ n ih =>
    rw [State.drainQueue]
    split
    · rfl
    · split
      · rfl
      · split
        · rw [ih, State.sendNext]
          obtain ⟨_, _, kept⟩ := (State.sent_launch _ k _).xpt
          rw [kept]
          rfl
        · rfl

theorem State.sendAll_ops (s : State) (k : Nat) (l : List Packet) : (s.sendAll k l).xpt.ops = s.xpt.ops := by
  rw [State.sendAll]
  split
  · rfl
  · exact State.drainQueue_ops _ _ k

theorem State.reissued_issueOn (s : State) (k tag : Nat) : s.Reissued (s.issueOn k tag) := by
  cases here : s.conn k with
  | none =>
    rw [State.issueOn, here]
    exact .of_ops rfl
  | some c =>
    cases found : afind s.xpt.ops tag with
    | none =>
      rw [State.issueOn, here, found]
      exact .of_ops rfl
    | some o =>
      obtain ⟨n, f, l, e⟩ := State.issueOn_eq here found
      have ops : (s.issueOn k tag).xpt.ops = aput s.xpt.ops tag (o.issue c.msgSnd n) := by
        rw [e]
        exact State.sendAll_ops _ k l
      refine ⟨fun t none_ => ?_, fun t p there => ?_⟩
      · rw [ops, afind_aput_ne _ _ fun same => by rw [same, found] at none_; cases none_]
        exact none_
      · by_cases same : t = tag
        · rw [same, found] at there
          cases there
          exact ⟨_, by rw [ops, same]; exact afind_aput_same _ _ _, _, _, _, rfl⟩
        · exact ⟨p, by rw [ops, afind_aput_ne _ _ same]; exact there, _, _, _, rfl⟩

theorem State.reissued_issueWaiting (n : Nat) (s : State) (k : Nat) : s.Reissued (s.issueWaiting k n) := by
  induction n generalizing s with
  | zero => exact .of_ops rfl
  | succ n ih =>
    rw [State.issueWaiting]
    split
    · exact .of_ops rfl
    · split
      · exact .of_ops rfl
      · next t rest _ =>
        split
        · have taken : s.Reissued (s.modConn k fun x => { x with waiting := rest }) := .of_ops rfl
          exact taken.trans ((State.reissued_issueOn _ k t).trans (ih _))
        · exact .of_ops rfl

theorem State.reissued_pump (s : State) (k : Nat) : s.Reissued (s.pump k) := by
  rw [State.pump]
  split
  · exact .of_ops rfl
  · exact State.Reissued.trans (.of_ops (s.drainQueue_ops _ k)) (State.reissued_issueWaiting _ _ k)

theorem State.dropOp_gone (s : State) (tag : Nat) (o : XOp) : afind (s.dropOp tag o).xpt.ops tag = none :=
  (State.reissued_pump _ o.conn).free tag (afind_adel_same _ _)

theorem State.submit_kept (s : State) (k tag : Nat) (o : XOp) : ∃ q, afind (s.submit k tag o).xpt.ops tag = some q ∧ ({ o with conn := k } : XOp).Issued q :=
  (State.reissued_pump _ k).kept tag _ (afind_aput_same _ _ _)

/-! ### Taking entries -/

/-- The queue after its next entry was taken. -/
def XQueue.took (x : XQueue) : XQueue :=
  { x with open_ := x.open_ ++ [x.next], next := (x.next + 1) % x.entries, phase := if x.next + 1 = x.entries then !x.phase else x.phase }

theorem State.tookEntry_queue {s : State} {q : Nat} {x : XQueue} (found : afind s.xpt.queues q = some x) : afind (s.tookEntry q).xpt.queues q = some x.took := by
  refine (afind_amod _ _ _ _).trans ?_
  rw [if_pos rfl, found]
  rfl

/-- A put to this device, served here. -/
theorem State.entryHere_put {s s1 : State} {q tag i : Nat} {o : XOp} {x : XQueue} {dp : Fin 16} {g : Region} (put : o.kind = .put)
    (allowed : s.regionCheck dp o.key o.tenant .write o.raddr o.len false = .ok (i, g)) (written : s.writeVa g.part.val .thread (g.base + o.raddr) o.data = (s1, .ok ())) :
    s.entryHere q tag o x dp = State.entryDone (match o.rcv with | some b => s1.cvSet dp.val b | none => s1) q tag o .ok [] := by
  rw [State.entryHere]
  split
  · rw [allowed]
    dsimp only
    rw [written] <;> rfl
  · next other => exact nomatch put.symm.trans other
  · next other => exact nomatch put.symm.trans other
  · next other => exact nomatch put.symm.trans other
  · next other => exact nomatch put.symm.trans other
  · exact absurd put ‹o.kind = .put → False›

theorem State.entryTo_put {s : State} {d : XDesc} {o : XOp} {x : XQueue} (put : o.kind = .put) :
    s.entryTo d o x = some (BitVec.ofNat 16 d.dest, ⟨d.dpart % 16, Nat.mod_lt _ (by decide)⟩, ⟨d.cls % 8, Nat.mod_lt _ (by decide)⟩, o) := by
  rw [State.entryTo]
  split
  · next other => exact nomatch put.symm.trans other
  · next other => exact nomatch put.symm.trans other
  · rfl

theorem State.entryIssue_here {s s1 : State} {q tag i : Nat} {d : XDesc} {o : XOp} {x : XQueue} {g : Region} (put : o.kind = .put) (here : BitVec.ofNat 16 d.dest = s.me)
    (allowed : s.regionCheck ⟨d.dpart % 16, Nat.mod_lt _ (by decide)⟩ o.key o.tenant .write o.raddr o.len false = .ok (i, g))
    (written : s.writeVa g.part.val .thread (g.base + o.raddr) o.data = (s1, .ok ())) :
    s.entryIssue q tag d o x = State.entryDone (match o.rcv with | some b => s1.cvSet (d.dpart % 16) b | none => s1) q tag o .ok [] := by
  have round : s.nextRound o (groupKey x.part.val d.dest) = s := if_neg (by rw [put]; decide)
  rw [State.entryIssue, State.entryTo_put put]
  refine (if_pos here).trans ?_
  rw [round]
  exact State.entryHere_put put allowed written

/-- An entry of a queue that serves, up to the check of its own byte. -/
theorem xqEntry_reads {s s2 : State} {queue now : Nat} {x : XQueue} {l : List Byte} (found : afind s.xpt.queues queue = some x) (served : s.xpt.ready = true)
    (kept : x.destroying = []) (free : x.parked = []) (ready : (s.part x.part.val).state = .ready)
    (read : (s.at_ now).readVa x.part.val .thread (x.entryVa x.next) 64 = (s2, .ok l)) :
    exec (.xqEntry queue now) s = if (XDesc.ofBytes l).own ≠ b2n x.phase ∨ ((XDesc.ofBytes l).fence ∧ ¬ x.open_.isEmpty) then .next s2
      else match s2.freeTag with
        | none => .next s2
        | some tag =>
          match (XDesc.ofBytes l).check with
          | some st => .next (s2.entryEnds queue tag ((XDesc.ofBytes l).op_ queue x.next x) st)
          | none =>
            match s2.xlateRange x.part.val .thread .read (XDesc.ofBytes l).laddr (if ((XDesc.ofBytes l).op_ queue x.next x).kind = .put ∨ ((XDesc.ofBytes l).op_ queue x.next x).kind = .reduce
                then (XDesc.ofBytes l).len else if ((XDesc.ofBytes l).op_ queue x.next x).kind = .atomic ∧ (XDesc.ofBytes l).len = 16 then 32 else 0) with
            | (s3, .error (va, e)) => .next (if (s3.entryFault queue x.next 0 x x.part .read va e).2 then (s3.entryFault queue x.next 0 x x.part .read va e).1
                else (s3.entryFault queue x.next 0 x x.part .read va e).1.entryEnds queue tag ((XDesc.ofBytes l).op_ queue x.next x) .protection)
            | (s3, .ok parts) =>
              if s3.partsPoisoned parts then .next (s3.entryEnds queue tag ((XDesc.ofBytes l).op_ queue x.next x) .dataCorrupt)
              else .next ((s3.readParts (partFn x.part.val) parts).1.entryIssue queue tag (XDesc.ofBytes l)
                (if ((XDesc.ofBytes l).op_ queue x.next x).kind = .atomic ∧ (XDesc.ofBytes l).len = 16
                  then { (XDesc.ofBytes l).op_ queue x.next x with cmp := leNat ((s3.readParts (partFn x.part.val) parts).2.take 16), opnd := leNat ((s3.readParts (partFn x.part.val) parts).2.drop 16) }
                  else { (XDesc.ofBytes l).op_ queue x.next x with data := (s3.readParts (partFn x.part.val) parts).2 }) x) := by
  have found' : afind (s.at_ now).xpt.queues queue = some x := found
  have serves : ¬((!(s.at_ now).xpt.ready) = true ∨ (!x.destroying.isEmpty) = true ∨ (!x.parked.isEmpty) = true ∨ ((s.at_ now).part x.part.val).state ≠ .ready) := by
    rw [kept, free, show (s.at_ now).xpt.ready = true from served, show ((s.at_ now).part x.part.val).state = .ready from ready]
    decide
  have unfolded : exec (.xqEntry queue now) s = execXqEntry queue now s := rfl
  rw [unfolded, execXqEntry]
  simp only [found']
  refine (if_neg serves).trans ?_
  rw [read] <;> rfl

theorem xqEntry_cases (s s2 : State) (queue now tag : Nat) (x : XQueue) (l : List Byte) (st : Status) (found : afind s.xpt.queues queue = some x) (served : s.xpt.ready = true)
    (kept : x.destroying = []) (free : x.parked = []) (ready : (s.part x.part.val).state = .ready)
    (read : (s.at_ now).readVa x.part.val .thread (x.entryVa x.next) 64 = (s2, .ok l)) :
    ((XDesc.ofBytes l).own ≠ b2n x.phase → exec (.xqEntry queue now) s = .next s2) ∧
    ((XDesc.ofBytes l).own = b2n x.phase → (XDesc.ofBytes l).fence = false → s2.freeTag = some tag → (XDesc.ofBytes l).check = some st →
      ∃ t o, exec (.xqEntry queue now) s = .next t ∧ afind t.xpt.ops tag = some o ∧ o.done = true ∧ o.status = st ∧ o.origin = .queue queue x.next ∧
        afind t.xpt.queues queue = some { x with open_ := x.open_ ++ [x.next], next := (x.next + 1) % x.entries, phase := if x.next + 1 = x.entries then !x.phase else x.phase } ∧
        s.Only [.stk, .memory, .xpt, .freeCtr] t) ∧
    (∀ (s3 : State) (parts : List (Nat × Nat)), (XDesc.ofBytes l).own = b2n x.phase → (XDesc.ofBytes l).fence = false → s2.freeTag = some tag → (XDesc.ofBytes l).check = none →
      (XDesc.ofBytes l).op = 1 → s2.xlateRange x.part.val .thread .read (XDesc.ofBytes l).laddr (XDesc.ofBytes l).len = (s3, .ok parts) →
      (s3.partsPoisoned parts = true → exec (.xqEntry queue now) s = .next (s3.entryEnds queue tag ((XDesc.ofBytes l).op_ queue x.next x) .dataCorrupt)) ∧
      (s3.partsPoisoned parts = false → exec (.xqEntry queue now) s =
        .next ((s3.readParts (partFn x.part.val) parts).1.entryIssue queue tag (XDesc.ofBytes l)
          { (XDesc.ofBytes l).op_ queue x.next x with data := (s3.readParts (partFn x.part.val) parts).2 } x)) ∧
      (∀ (s4 s5 : State) (d : XDesc) (i : Nat) (g : Region), d = XDesc.ofBytes l → s3.partsPoisoned parts = false → BitVec.ofNat 16 d.dest = s.me →
        s4 = (s3.readParts (partFn x.part.val) parts).1 →
        s4.regionCheck ⟨d.dpart % 16, Nat.mod_lt _ (by decide)⟩ (BitVec.ofNat 64 d.key) x.tenant .write d.raddr d.len false = .ok (i, g) →
        s4.writeVa g.part.val .thread (g.base + d.raddr) (s3.readParts (partFn x.part.val) parts).2 = (s5, .ok ()) →
        ∃ t o, exec (.xqEntry queue now) s = .next t ∧ t.memory = s5.memory ∧ t.lnk = s.lnk ∧ afind t.xpt.ops tag = some o ∧ o.done = true ∧ o.status = .ok ∧
          o.origin = .queue queue x.next)) := by
  have run := xqEntry_reads found served kept free ready read
  have walked := (((s.at_ now).keeps_self _).readVa (sub_self _) x.part.val .thread (x.entryVa x.next) 64).only
  rw [read] at walked
  have turned : (XDesc.ofBytes l).own = b2n x.phase → (XDesc.ofBytes l).fence = false →
      ¬((XDesc.ofBytes l).own ≠ b2n x.phase ∨ ((XDesc.ofBytes l).fence = true ∧ ¬x.open_.isEmpty = true)) := fun mine unfenced e =>
    e.elim (fun other => other mine) fun e => by rw [unfenced] at e; exact Bool.false_ne_true e.1
  refine ⟨fun other => run.trans (if_pos (.inl other)), fun mine unfenced tagged refused => ?_, fun s3 parts mine unfenced tagged legal put mapped => ?_⟩
  · rw [if_neg (turned mine unfenced), tagged] at run
    dsimp only at run
    rw [refused] at run
    have found2 : afind s2.xpt.queues queue = some x := by
      rw [walked.xpt]
      exact found
    refine ⟨_, _, run, afind_aput_same _ _ _, rfl, rfl, rfl, State.tookEntry_queue found2, ?_⟩
    exact ((s.only_at_stk now).mono (by decide)).trans ((walked.mono (by decide)).trans (((s2.keeps_self _).entryEnds (sub_self _) queue tag _ st).only.mono (by decide)))
  · have kind : ((XDesc.ofBytes l).op_ queue x.next x).kind = .put := by
      simp only [XDesc.op_, put]
    rw [if_neg (turned mine unfenced), tagged] at run
    dsimp only at run
    rw [legal] at run
    dsimp only at run
    rw [if_pos (.inl kind), mapped] at run
    dsimp only at run
    have scalar : ¬(((XDesc.ofBytes l).op_ queue x.next x).kind = .atomic ∧ (XDesc.ofBytes l).len = 16) := fun e => nomatch kind.symm.trans e.1
    rw [if_neg scalar] at run
    have issued : s3.partsPoisoned parts = false → exec (.xqEntry queue now) s =
        .next ((s3.readParts (partFn x.part.val) parts).1.entryIssue queue tag (XDesc.ofBytes l)
          { (XDesc.ofBytes l).op_ queue x.next x with data := (s3.readParts (partFn x.part.val) parts).2 } x) := fun sound =>
      run.trans (if_neg (by rw [sound]; decide))
    refine ⟨fun poisoned => run.trans (if_pos poisoned), issued, fun s4 s5 d i g named sound here four allowed written => ?_⟩
    have translated := ((s2.keeps_self _).xlateRange (sub_self _) x.part.val .thread .read (XDesc.ofBytes l).laddr (XDesc.ofBytes l).len).only
    rw [mapped] at translated
    have fetched := ((s3.keeps_self _).readParts (sub_self _) (partFn x.part.val) parts).only
    have run := issued sound
    rw [← four] at run fetched
    rw [← named] at run kind
    generalize (s3.readParts (partFn x.part.val) parts).2 = data at run written
    have wrote := ((s4.keeps_self _).writeVa (sub_self _) g.part.val .thread (g.base + d.raddr) data).only
    rw [written] at wrote
    have me : s4.me = s.me := State.me_congr (fetched.bar.trans (translated.bar.trans walked.bar))
    have lnk : s4.lnk = s.lnk := fetched.lnk.trans (translated.lnk.trans walked.lnk)
    let o : XOp := { d.op_ queue x.next x with data := data }
    let s6 := match o.rcv with | some b => s5.cvSet (d.dpart % 16) b | none => s5
    have bits : s5.Only [.cores, .pln] s6 := by
      simp only [s6]
      split
      · exact ((s5.keeps_self _).cvSet (sub_self _) _ _).only
      · exact .refl _ _
    have landed : s4.entryIssue queue tag d o x = s6.entryDone queue tag o .ok [] := State.entryIssue_here kind (here.trans me.symm) allowed written
    have ends := ((s6.keeps_self _).entryDone (sub_self _) queue tag o .ok []).only
    refine ⟨_, _, run.trans (congrArg Host.Outcome.next landed), ends.memory.trans bits.memory, ends.lnk.trans (bits.lnk.trans (wrote.lnk.trans lnk)), afind_aput_same _ _ _, rfl, rfl, rfl⟩

/-! ### Completions -/

theorem State.cvSet_mem {s : State} {p : Nat} (bit : Nat) (partition : p < s.pln.parts.length) : bit ∈ ((s.cvSet p bit).part p).cv := by
  rw [State.cvSet]
  split
  · next set => exact List.contains_iff_mem.1 set
  · have same : ∀ t : State, (t.cvWakeAll p).part p = t.part p := fun t => State.part_congr ((t.keeps_self _).cvWakeAll (sub_self _) p).only.pln p
    rw [same, State.part_modPart, if_pos ⟨rfl, partition⟩]
    exact List.mem_cons_self

/-- Queues that are not being destroyed stand. -/
theorem State.queueGone_stands {s : State} {q : Nat} {x : XQueue} (found : afind s.xpt.queues q = some x) (kept : x.destroying = []) : s.queueGone q = s := by
  rw [State.queueGone, found]
  exact if_pos (.inl (by rw [kept]; rfl))

/-- What a completion writes once its result is placed, up to its bit. -/
def State.completionWrites (s : State) (x : XQueue) (i : Nat) (o : XOp) : State :=
  let w (y : State) (off : Nat) (l : List Byte) : State := (y.writeVa x.part.val .thread (x.entryVa i + off) l).1
  let sU := if o.undef = 0 then s else s.undefine x.part.val o.laddr o.undef
  w (if o.status = .outcomeIndeterminate then w sU 0x28 (leBytes 8 o.opnd) else sU) 0x3E [BitVec.ofNat 8 o.status.code]

theorem State.completionWrites_only (s : State) (x : XQueue) (i : Nat) (o : XOp) : s.Only [.memory, .host, .out, .freeCtr] (s.completionWrites x i o) := by
  have undefined : s.Only [.memory, .host, .out, .freeCtr] (if o.undef = 0 then s else s.undefine x.part.val o.laddr o.undef) := by
    split
    · exact .refl _ _
    · exact ((s.keeps_self _).undefine (sub_self _) _ _ _).only
  rw [State.completionWrites]
  dsimp only
  split
  · refine undefined.trans ?_
    exact (((State.keeps_self _ [.memory, .host, .out, .freeCtr]).writeVa (by decide) _ _ _ _).writeVa (by decide) _ _ _ _).only
  · refine undefined.trans ?_
    exact ((State.keeps_self _ [.memory, .host, .out, .freeCtr]).writeVa (by decide) _ _ _ _).only

theorem xqCompletion_ends (s s1 : State) (tag : BitVec 16) (o : XOp) (q i : Nat) (x : XQueue) (found : afind s.xpt.ops tag.toNat = some o) (origin : o.origin = .queue q i)
    (done : o.done = true) (unissued : o.issued = false) (queue : afind s.xpt.queues q = some x) (free : x.parked = []) (kept : x.destroying = [])
    (written : s.writeVa x.part.val .thread o.laddr o.fetched = (s1, .ok ())) :
    ∃ t, exec (.xqCompletion tag) s = .next t ∧ afind t.xpt.ops tag.toNat = none ∧ afind t.xpt.queues q = some { x with open_ := x.open_.erase i } ∧
      (∀ b, o.cv = some b → x.part.val < s.pln.parts.length → b ∈ (t.part x.part.val).cv) ∧ s.Only [.bar, .cores, .pln, .memory, .lnk, .xpt, .shp, .host, .out, .freeCtr] t := by
  let s3 := s1.completionWrites x i o
  let s4 := match o.cv with | some b => s3.cvSet x.part.val b | none => s3
  let s5 : State := { s4 with xpt := { s4.xpt with queues := amod s4.xpt.queues q fun y => { y with open_ := y.open_.erase i } } }
  have run : exec (.xqCompletion tag) s = .next ((s5.dropOp tag.toNat o).queueGone q) := by
    have unfolded : exec (.xqCompletion tag) s = execXqCompletion tag s := rfl
    rw [unfolded, execXqCompletion, found]
    dsimp only
    rw [origin]
    dsimp only
    rw [queue]
    dsimp only
    refine (if_neg ?_).trans ?_
    · rw [done, free, unissued, Bool.and_false]
      rintro (e | e | e)
      · cases e
      · split at e <;> cases e
      · cases e
    · rw [written]
      rfl
  have wrote := ((s.keeps_self _).writeVa (sub_self _) x.part.val .thread o.laddr o.fetched).only
  rw [written] at wrote
  have status := s1.completionWrites_only x i o
  have bits : s3.Only [.cores, .pln] s4 := by
    simp only [s4]
    split
    · exact ((s3.keeps_self _).cvSet (sub_self _) _ _).only
    · exact .refl _ _
  have closed : s4.Only [.xpt] s5 := s4.only_setXpt _
  have dropped := ((s5.keeps_self _).dropOp (sub_self _) tag.toNat o).only
  have xpt : s4.xpt = s.xpt := bits.xpt.trans (status.xpt.trans wrote.xpt)
  have lands : s5.Lands (s5.dropOp tag.toNat o) := by
    refine State.Lands.trans (t := ({ s5 with xpt := { s5.xpt with ops := adel s5.xpt.ops tag.toNat } } : State)) ⟨_, _, _, _, rfl⟩ ?_
    exact (State.lands_modConn _ _ _).trans (State.drives_pump False _ o.conn).toSteady.lands
  have queues : afind (s5.dropOp tag.toNat o).xpt.queues q = some { x with open_ := x.open_.erase i } := by
    obtain ⟨_, _, _, _, same⟩ := lands
    rw [same]
    refine (afind_amod _ _ _ _).trans ?_
    rw [if_pos rfl, xpt, queue]
    rfl
  rw [State.queueGone_stands queues kept] at run
  refine ⟨_, run, s5.dropOp_gone _ o, queues, fun b bit partition => ?_, ?_⟩
  · have four : s4 = s3.cvSet x.part.val b := by
      simp only [s4, bit]
    rw [State.part_congr dropped.pln, State.part_congr closed.pln, four]
    exact State.cvSet_mem b (by rw [status.pln, wrote.pln]; exact partition)
  · exact (wrote.mono (by decide)).trans ((status.mono (by decide)).trans ((bits.mono (by decide)).trans ((closed.mono (by decide)).trans (dropped.mono (by decide)))))

/-! ### Accesses to the harness window -/

theorem not_ready_false {b : Bool} (ready : b = true) : ¬(!b) = true := by
  rw [ready]
  decide

theorem windowAccess_unserved (s : State) (part : Fin 16) (tenant : BitVec 16) (origin : XOrigin) (addr now m a : Nat) (target : s.memory.target addr = .window m a)
    (_ : m ≠ member s.me) (served : s.xpt.ready = true) :
    ∀ lr, exec (.harnessWindowAccess part tenant origin (.unserved lr) addr now) s = .next ((s.at_ now).accessRefused origin addr lr) := by
  intro lr
  have unfolded : exec (.harnessWindowAccess part tenant origin (.unserved lr) addr now) s = execHarnessWindowAccess part tenant origin (.unserved lr) addr now s := rfl
  refine unfolded.trans ?_
  unfold execHarnessWindowAccess
  extract_lets s1
  rw [show s1.memory.target addr = .window m a from target]
  exact if_neg (not_ready_false served)

/-- A load over the harness window. -/
def windowLoad (part : Fin 16) (tenant : BitVec 16) (origin : XOrigin) (a len : Nat) : XOp :=
  { kind := .load, origin := origin, conn := 0, issued := false, msg := 0, tenant := tenant, part := part, key := 0, raddr := a, laddr := 0
    len := len, aop := 0, opnd := 0, cmp := 0, dest := 0, cv := none, rcv := none, tagv := 0, data := [], mask := 0, left := 0, got := []
    status := .ok, done := false, result := [] }

theorem windowAccess_load {s : State} {part : Fin 16} {tenant : BitVec 16} {origin : XOrigin} {addr now m a len : Nat} (target : s.memory.target addr = .window m a)
    (served : s.xpt.ready = true) (wide : 8 ≤ len) (shape : windowShape a len = true) :
    exec (.harnessWindowAccess part tenant origin (.load len) addr now) s = .next ((s.at_ now).windowOp part m (windowLoad part tenant origin a len)) := by
  have unfolded : exec (.harnessWindowAccess part tenant origin (.load len) addr now) s = execHarnessWindowAccess part tenant origin (.load len) addr now s := rfl
  refine unfolded.trans ?_
  unfold execHarnessWindowAccess
  extract_lets s1
  rw [show s1.memory.target addr = .window m a from target]
  refine (if_neg (not_ready_false served)).trans ((if_neg ?_).trans (if_pos shape))
  exact fun e => absurd e.1 (Nat.not_lt.2 wide)

theorem windowAccess_remote (s s2 : State) (part : Fin 16) (tenant : BitVec 16) (core unit seq addr now m a len tag k : Nat) (target : s.memory.target addr = .window m a)
    (far : m ≠ member s.me) (served : s.xpt.ready = true) (wide : 8 ≤ len) (shape : windowShape a len = true) (free : s.freeTag = some tag)
    (conn : (s.at_ now).connFor false part (BitVec.ofNat 16 (s.me.toNat / 32 * 32 + m)) part ⟨s.fld (Reg.xptPCfg part.val) 2 0 % 8, Nat.mod_lt _ (by decide)⟩ = some (s2, k)) :
    ∃ t o, exec (.harnessWindowAccess part tenant (.engine core unit seq) (.load len) addr now) s = .next t ∧ afind t.xpt.ops tag = some o ∧ o.kind = .load ∧ o.raddr = a ∧
      o.len = len ∧ o.tenant = tenant ∧ o.conn = k ∧ s.Only [.bar, .stk, .lnk, .xpt, .shp, .freeCtr] t := by
  let o := windowLoad part tenant (.engine core unit seq) a len
  have free' : (s.at_ now).freeTag = some tag := free
  have submits : (s.at_ now).windowOp part m o = s2.submit k tag o := by
    refine (if_neg (show ¬m = member (s.at_ now).me from far)).trans ?_
    rw [free']
    dsimp only
    rw [show (s.at_ now).connFor false part (BitVec.ofNat 16 ((s.at_ now).me.toNat / 32 * 32 + m)) part ⟨(s.at_ now).fld (Reg.xptPCfg part.val) 2 0 % 8, Nat.mod_lt _ (by decide)⟩ =
      some (s2, k) from conn]
    rfl
  obtain ⟨q, kept, _, _, _, rfl⟩ := s2.submit_kept k tag o
  refine ⟨_, _, (windowAccess_load target served wide shape).trans (congrArg Host.Outcome.next submits), kept, rfl, rfl, rfl, rfl, rfl, ?_⟩
  have made := (((s.at_ now).keeps_self [.bar, .stk, .lnk, .xpt, .shp, .freeCtr]).connFor (by decide) _ _ _ _ _ conn).submit (by decide) k tag o
  exact ((s.only_at_stk now).mono (by decide)).trans made.only

theorem windowHere_load {s : State} {o : XOp} (load : o.kind = .load) (allowed : s.windowCheck o.tenant .read o.raddr o.len = .ok ())
    (sound : s.memory.poisoned o.raddr o.len = false) :
    s.windowHere o = s.accessEnds { o with done := true, status := .ok, result := memRead s.memory.mem o.raddr o.len } := by
  have checked : s.windowCheck o.tenant (match o.kind with | .store => .write | .atomic => .atomic | _ => .read) o.raddr o.len = .ok () := by
    rw [load]
    exact allowed
  rw [State.windowHere]
  split
  · next refused => exact nomatch checked.symm.trans refused
  · split
    · next other => exact nomatch load.symm.trans other
    · next other => exact nomatch load.symm.trans other
    · exact if_neg (by rw [sound]; decide)

theorem windowAccess_here (s : State) (part : Fin 16) (tenant : BitVec 16) (core th rd addr now a len : Nat) (signed : Bool)
    (target : s.memory.target addr = .window (member s.me) a) (served : s.xpt.ready = true) (wide : 8 ≤ len) (shape : windowShape a len = true)
    (allowed : s.windowCheck tenant .read a len = .ok ()) (sound : s.memory.poisoned a len = false) :
    ∃ t, exec (.harnessWindowAccess part tenant (.thread core th rd len signed) (.load len) addr now) s = .next t ∧
      (t.thread (threadKey core th)).x = ((s.thread (threadKey core th)).setX rd (loadValue (memRead s.memory.mem a len) len signed)).x ∧
      (∀ j, j ≠ threadKey core th → t.thread j = s.thread j) ∧ t.memory = s.memory ∧ t.xpt = s.xpt ∧ s.Only [.stk, .cores] t := by
  let o := windowLoad part tenant (.thread core th rd len signed) a len
  let o1 : XOp := { o with done := true, status := .ok, result := memRead s.memory.mem a len }
  have serves : (s.at_ now).windowOp part (member s.me) o = (s.at_ now).accessEnds o1 := by
    exact (if_pos rfl).trans (windowHere_load rfl allowed sound)
  obtain ⟨value, others⟩ := State.accessEnds_thread (s := s.at_ now) (o := o1) rfl rfl (fun e => nomatch e)
  have only : (s.at_ now).Only [.cores] ((s.at_ now).accessEnds o1) := by
    rw [State.accessEnds]
    simp [State.Only, State.modThread, o1, o, windowLoad]
  exact ⟨_, (windowAccess_load target served wide shape).trans (congrArg Host.Outcome.next serves), value, others, only.memory, only.xpt,
    ((s.only_at_stk now).mono (by decide)).trans (only.mono (by decide))⟩

/-- Settles O42: entries of transport queues, their completions, and harness-window accesses. -/
theorem queueEntries : Obligations.QueueEntries :=
  ⟨xqEntry_cases, xqCompletion_ends, windowAccess_unserved, windowAccess_remote, windowAccess_here⟩

end Sys2Proof.Machine
end

section
/-!
PROOFS. Xlorold instructions of a thread: pushes, tickets, fences and traps (O15).
-/
namespace Sys2Proof.Machine

/-! ### Threads -/

theorem aput_aput {α : Type} (t : Assoc α) (k : Nat) (x y : α) : aput (aput t k x) k y = aput t k y := by
  induction t with
  | nil => simp [aput]
  | cons q t ih =>
    obtain ⟨i, v⟩ := q
    rw [aput]
    split
    · rw [aput, if_neg (Nat.lt_irrefl k), if_pos rfl, aput, if_pos ‹_›]
    · split
      · next e =>
        rw [aput, if_neg (Nat.lt_irrefl k), if_pos rfl, aput, if_neg (by omega), if_pos e]
      · rw [aput, if_neg ‹_›, if_neg ‹_›, ih, aput, if_neg ‹_›, if_neg ‹_›]

theorem State.modThread_modThread (s : State) (k : Nat) (f g : Thread → Thread) : (s.modThread k f).modThread k g = s.modThread k fun x => g (f x) := by
  have there : (s.modThread k f).thread k = f (s.thread k) := by rw [State.thread_modThread, if_pos rfl]
  rw [State.modThread, there]
  simp only [State.modThread, aput_aput]

theorem State.modThread_congr (s : State) (k : Nat) {f g : Thread → Thread} (same : f (s.thread k) = g (s.thread k)) : s.modThread k f = s.modThread k g := by
  rw [State.modThread, State.modThread, same]

theorem State.only_modThread (s : State) (k : Nat) (f : Thread → Thread) : s.Only [.cores] (s.modThread k f) := by simp [State.Only, State.modThread]

theorem threadKey_core (core : Fin 128) (thr : Fin 64) : threadKey core.val thr.val / 64 = core.val := by
  have := thr.isLt
  rw [threadKey]
  omega

theorem threadKey_thread (core : Fin 128) (thr : Fin 64) : threadKey core.val thr.val % 64 = thr.val := by
  have := thr.isLt
  rw [threadKey]
  omega

theorem State.coreOwner_lt {s : State} {core p : Nat} (owner : s.coreOwner core = some p) : p < 16 := by
  rw [State.coreOwner, State.sliceOwner] at owner
  exact List.mem_range.1 (List.mem_of_find?_eq_some owner)

/-- A thread that comes to an instruction of the row executes it. -/
theorem State.xinstr_comes {s : State} {core : Fin 128} {thr : Fin 64} {w : Word} {pc v1 v2 : BitVec 64} {op : Xop} {p : Nat} {x : Thread}
    (comes : s.ComesTo core thr w pc v1 v2 op p x) (f : State → Nat → Nat → State) :
    s.xinstr core thr w pc v1 v2 op f = f (s.modThread (threadKey core.val thr.val) fun _ => x) (threadKey core.val thr.val) p := by
  obtain ⟨owner, runs, running, decoded, rfl⟩ := comes
  rw [State.xinstr]
  dsimp only
  rw [owner]
  refine (if_neg ?_).trans ?_
  · rw [running, runs]
    decide
  · rw [decoded]
    exact if_pos rfl

/-- A word that is none of the row's instructions traps or runs as one of the base set. -/
theorem State.xinstr_other {s : State} {core : Fin 128} {thr : Fin 64} {w : Word} {pc v1 v2 : BitVec 64} {op : Xop} {p : Nat} (owner : s.coreOwner core.val = some p)
    (runs : s.partRuns p = true) (running : (s.thread (threadKey core.val thr.val)).state = .running) (undecoded : xDecode w = none) (f : State → Nat → Nat → State) :
    s.xinstr core thr w pc v1 v2 op f = if bits w.toNat 6 0 = 0x0B
      then (s.modThread (threadKey core.val thr.val) fun t => t.atInstr w pc v1 v2).trap core.val thr.val 2 pc (BitVec.ofNat 64 w.toNat)
      else (s.modThread (threadKey core.val thr.val) fun t => t.atInstr w pc v1 v2).baseInstr (threadKey core.val thr.val) p w := by
  rw [State.xinstr]
  dsimp only
  rw [owner]
  refine (if_neg ?_).trans ?_
  · rw [running, runs]
    decide
  · rw [undecoded]

theorem State.thread_set (s : State) (k : Nat) (x : Thread) : (s.modThread k fun _ => x).thread k = x := by rw [State.thread_modThread, if_pos rfl]

/-! ### TQ.PUSH -/

theorem State.push_refused {s s1 : State} {k p rd addr sel c u : Nat} {d : List Byte} {st : Status} (unit : s.unitOf (k / 64) sel = some (c, u)) (aligned : addr % 64 = 0)
    (fetched : s.fetchVa p addr 64 = (s1, .ok d)) (refused : s1.pushRefusal p c u d = some st) :
    s.push k p rd addr sel = s1.modThread k fun t => t.retire rd (BitVec.ofNat 64 (2 ^ 63 + st.code)) := by
  rw [State.push]
  dsimp only
  rw [unit]
  refine (if_neg (fun e => e aligned)).trans ?_
  rw [fetched]
  dsimp only
  rw [refused]
  rfl

theorem State.push_allowed {s s1 : State} {k p rd addr sel c u : Nat} {d : List Byte} (unit : s.unitOf (k / 64) sel = some (c, u)) (aligned : addr % 64 = 0)
    (fetched : s.fetchVa p addr 64 = (s1, .ok d)) (allowed : s1.pushRefusal p c u d = none) :
    s.push k p rd addr sel = if 256 ≤ (agetD s1.cores.queues (unitKey c u) []).length ∨ 32 ≤ (s1.thread k).tickets.length
      then s1.modThread k fun t => { t with state := .stalled rd addr sel }
      else (s1.queueCmd k p c u addr d).1.modThread k fun t => t.retire rd (BitVec.ofNat 64 (s1.queueCmd k p c u addr d).2) := by
  rw [State.push]
  dsimp only
  rw [unit]
  refine (if_neg (fun e => e aligned)).trans ?_
  rw [fetched]
  dsimp only
  rw [allowed]

theorem State.push_illegal {s : State} {k p rd addr sel : Nat} (bad : s.unitOf (k / 64) sel = none ∨ addr % 64 ≠ 0) :
    s.push k p rd addr sel = s.modThread k fun t => t.retire rd (BitVec.ofNat 64 (2 ^ 63 + Status.badField.code)) := by
  rw [State.push]
  dsimp only
  cases unit : s.unitOf (k / 64) sel with
  | none => rfl
  | some q => exact if_pos (bad.resolve_left fun e => nomatch unit.symm.trans e)

/-- What a push that is queued does. -/
theorem State.push_queues {s s1 : State} {k p rd addr sel c u : Nat} {d : List Byte} (unit : s.unitOf (k / 64) sel = some (c, u)) (aligned : addr % 64 = 0)
    (fetched : s.fetchVa p addr 64 = (s1, .ok d)) (allowed : s1.pushRefusal p c u d = none) (partition : p < 16)
    (room : (agetD s.cores.queues (unitKey c u) []).length < 256) (few : (s.thread k).tickets.length < 32) :
    ∃ q, agetD (s.push k p rd addr sel).cores.queues (unitKey c u) [] = agetD s.cores.queues (unitKey c u) [] ++ [q] ∧ q.seq = agetD s.cores.seqs (unitKey c u) 0 ∧
      q.thread = k ∧ q.part.val = p ∧ q.addr = addr ∧ q.desc = d ∧ q.result = none ∧ q.served = [] ∧
      (∀ i, i ≠ unitKey c u → agetD (s.push k p rd addr sel).cores.queues i [] = agetD s.cores.queues i []) ∧
      (s.push k p rd addr sel).thread k = { s.thread k with tickets := ticketOf c u q.seq :: (s.thread k).tickets }.retire rd (BitVec.ofNat 64 (ticketOf c u q.seq)) ∧
      (∀ j, j ≠ k → (s.push k p rd addr sel).thread j = s.thread j) ∧ s.Only [.cores, .memory, .freeCtr] (s.push k p rd addr sel) := by
  have read := ((s.keeps_self _).fetchVa (sub_self _) p addr 64).only
  rw [fetched] at read
  have cores : s1.cores = s.cores := read.cores
  have threads : ∀ j, s1.thread j = s.thread j := State.thread_congr cores
  have run := State.push_allowed (rd := rd) unit aligned fetched allowed
  rw [cores, threads, if_neg (by omega)] at run
  have queued := ((s1.keeps_self _).queueCmd (sub_self _) k p c u addr d).only
  rw [run]
  refine ⟨⟨agetD s1.cores.seqs (unitKey c u) 0, k, ⟨p % 16, Nat.mod_lt _ (by decide)⟩, addr, d, 0, false, [], [], [], [], false, none⟩, ?_, by rw [cores], rfl, Nat.mod_eq_of_lt partition, rfl, rfl, rfl, rfl,
    fun i other => ?_, ?_, fun j other => ?_, (read.mono (by decide)).trans ((queued.mono (by decide)).trans ((State.only_modThread _ _ _).mono (by decide)))⟩
  · refine (agetD_aput_same _ _ _ _).trans ?_
    rw [cores]
  · refine (agetD_aput_ne _ _ _ other).trans ?_
    rw [cores]
  · rw [State.thread_modThread, if_pos rfl, State.queueCmd]
    dsimp only
    rw [State.thread_modThread, if_pos rfl, ← threads]
    rfl
  · rw [State.thread_modThread, if_neg other, State.queueCmd]
    dsimp only
    rw [State.thread_modThread, if_neg other, ← threads]
    rfl

theorem tqPush_comes {s : State} {core : Fin 128} {thr : Fin 64} {w : Word} {pc v1 v2 : BitVec 64} {p : Nat} {x : Thread} (comes : s.ComesTo core thr w pc v1 v2 .push p x) :
    exec (.tqPush core thr w pc v1 v2) s = .next ((s.modThread (threadKey core.val thr.val) fun _ => x).push (threadKey core.val thr.val) p (xRd w) (x.getX (xRs1 w)).toNat
      (x.getX (xRs2 w)).toNat) := by
  have unfolded : exec (.tqPush core thr w pc v1 v2) s = execTqPush core thr w pc v1 v2 s := rfl
  rw [unfolded, execTqPush, State.xinstr_comes comes]
  simp only [State.thread_set]

theorem tqPush_cases (s s1 : State) (core : Fin 128) (thr : Fin 64) (w : Word) (pc v1 v2 : BitVec 64) (p c u : Nat) (x : Thread) (d : List Byte)
    (comes : s.ComesTo core thr w pc v1 v2 .push p x) (unit : s.unitOf core.val (x.getX (xRs2 w)).toNat = some (c, u)) (aligned : (x.getX (xRs1 w)).toNat % 64 = 0)
    (fetched : (s.modThread (threadKey core.val thr.val) fun _ => x).fetchVa p (x.getX (xRs1 w)).toNat 64 = (s1, .ok d)) :
    (∀ st, s1.pushRefusal p c u d = some st →
      exec (.tqPush core thr w pc v1 v2) s = .next (s1.modThread (threadKey core.val thr.val) fun y => y.retire (xRd w) (BitVec.ofNat 64 (2 ^ 63 + st.code)))) ∧
    (s1.pushRefusal p c u d = none → (agetD s.cores.queues (unitKey c u) []).length < 256 → x.tickets.length < 32 →
      ∃ t q, exec (.tqPush core thr w pc v1 v2) s = .next t ∧
        agetD t.cores.queues (unitKey c u) [] = agetD s.cores.queues (unitKey c u) [] ++ [q] ∧ q.seq = agetD s.cores.seqs (unitKey c u) 0 ∧
        q.thread = threadKey core.val thr.val ∧ q.part.val = p ∧ q.addr = (x.getX (xRs1 w)).toNat ∧ q.desc = d ∧ q.result = none ∧ q.served = [] ∧
        (∀ i, i ≠ unitKey c u → agetD t.cores.queues i [] = agetD s.cores.queues i []) ∧
        t.thread (threadKey core.val thr.val) =
          { x with tickets := ticketOf c u q.seq :: x.tickets }.retire (xRd w) (BitVec.ofNat 64 (ticketOf c u q.seq)) ∧
        (∀ j, j ≠ threadKey core.val thr.val → t.thread j = s.thread j) ∧ s.Only [.cores, .memory, .freeCtr] t) ∧
    (s1.pushRefusal p c u d = none → 256 ≤ (agetD s.cores.queues (unitKey c u) []).length ∨ 32 ≤ x.tickets.length →
      exec (.tqPush core thr w pc v1 v2) s = .next (s1.modThread (threadKey core.val thr.val) fun y =>
        { y with state := .stalled (xRd w) (x.getX (xRs1 w)).toNat (x.getX (xRs2 w)).toNat })) := by
  have run := tqPush_comes comes
  let s0 := s.modThread (threadKey core.val thr.val) fun _ => x
  have there : s0.thread (threadKey core.val thr.val) = x := s.thread_set _ x
  have unit' : s0.unitOf (threadKey core.val thr.val / 64) (x.getX (xRs2 w)).toNat = some (c, u) := by
    rw [threadKey_core]
    exact unit
  have read := ((s0.keeps_self _).fetchVa (sub_self _) p (x.getX (xRs1 w)).toNat 64).only
  rw [fetched] at read
  refine ⟨fun st refused => ?_, fun allowed room few => ?_, fun allowed full => ?_⟩
  · rw [run, State.push_refused unit' aligned fetched refused]
  · obtain ⟨q, queue, seq, mine, part, addr, desc, result, served, others, own, threads, only⟩ :=
      State.push_queues (rd := xRd w) unit' aligned fetched allowed (State.coreOwner_lt comes.1) room (by rw [there]; exact few)
    rw [there] at own
    refine ⟨_, q, run, queue, seq, mine, part, addr, desc, result, served, others, own, fun j other => (threads j other).trans ?_, ((s.only_modThread _ _).mono (by decide)).trans only⟩
    rw [State.thread_modThread, if_neg other]
  · rw [run, State.push_allowed unit' aligned fetched allowed, if_pos]
    rw [read.cores, State.thread_congr read.cores, there]
    exact full

theorem tqPush_illegal (s : State) (core : Fin 128) (thr : Fin 64) (w : Word) (pc v1 v2 : BitVec 64) (p : Nat) (x : Thread) (comes : s.ComesTo core thr w pc v1 v2 .push p x)
    (bad : s.unitOf core.val (x.getX (xRs2 w)).toNat = none ∨ (x.getX (xRs1 w)).toNat % 64 ≠ 0) :
    exec (.tqPush core thr w pc v1 v2) s =
      .next (s.modThread (threadKey core.val thr.val) fun _ => x.retire (xRd w) (BitVec.ofNat 64 (2 ^ 63 + Status.badField.code))) := by
  rw [tqPush_comes comes, State.push_illegal (by rw [threadKey_core]; exact bad), State.modThread_modThread]

theorem tqPushResume_queues (s s1 : State) (core : Fin 128) (thr : Fin 64) (rd addr sel p c u : Nat) (d : List Byte) (owner : s.coreOwner core.val = some p)
    (runs : s.partRuns p = true) (stalled : (s.thread (threadKey core.val thr.val)).state = .stalled rd addr sel) (unit : s.unitOf core.val sel = some (c, u))
    (aligned : addr % 64 = 0) (fetched : s.fetchVa p addr 64 = (s1, .ok d)) (allowed : s1.pushRefusal p c u d = none)
    (room : (agetD s.cores.queues (unitKey c u) []).length < 256) (few : (s.thread (threadKey core.val thr.val)).tickets.length < 32) :
    ∃ t q, exec (.tqPushResume core thr) s = .next t ∧
      agetD t.cores.queues (unitKey c u) [] = agetD s.cores.queues (unitKey c u) [] ++ [q] ∧ q.desc = d ∧ q.thread = threadKey core.val thr.val ∧
      t.thread (threadKey core.val thr.val) =
        { s.thread (threadKey core.val thr.val) with tickets := ticketOf c u q.seq :: (s.thread (threadKey core.val thr.val)).tickets }.retire rd
          (BitVec.ofNat 64 (ticketOf c u q.seq)) ∧
      (∀ j, j ≠ threadKey core.val thr.val → t.thread j = s.thread j) ∧ s.Only [.cores, .memory, .freeCtr] t := by
  obtain ⟨q, queue, -, mine, -, -, desc, -, -, -, own, threads, only⟩ :=
    State.push_queues (k := threadKey core.val thr.val) (rd := rd) (by rw [threadKey_core]; exact unit) aligned fetched allowed (State.coreOwner_lt owner) room few
  refine ⟨_, q, ?_, queue, desc, mine, own, threads, only⟩
  have unfolded : exec (.tqPushResume core thr) s = execTqPushResume core thr s := rfl
  rw [unfolded, execTqPushResume]
  simp only [owner, stalled]
  exact if_pos runs

/-! ### Tickets -/

theorem Thread.status_known {t : Thread} {v : Nat} (out : v ∈ t.tickets) : t.status v = none := if_pos (List.contains_iff_mem.2 out)

theorem Thread.status_other {t : Thread} {v : Nat} (in_ : v ∉ t.tickets) :
    t.status v = match t.recent.find? fun q => q.1 == v with | some q => some q.2 | none => some .badField :=
  if_neg fun e => in_ (List.contains_iff_mem.1 e)

theorem tqPoll_tells (s : State) (core : Fin 128) (thr : Fin 64) (w : Word) (pc v1 v2 : BitVec 64) (p : Nat) (x : Thread) (comes : s.ComesTo core thr w pc v1 v2 .poll p x) :
    exec (.tqPoll core thr w pc v1 v2) s = .next (s.modThread (threadKey core.val thr.val) fun _ => x.retire (xRd w)
      (if (x.getX (xRs1 w)).toNat ∈ x.tickets then 0
       else match x.recent.find? fun q => q.1 == (x.getX (xRs1 w)).toNat with
         | some q => BitVec.ofNat 64 (2 ^ 63 + q.2.code)
         | none => BitVec.ofNat 64 (2 ^ 63 + Status.badField.code))) := by
  have unfolded : exec (.tqPoll core thr w pc v1 v2) s = execTqPoll core thr w pc v1 v2 s := rfl
  rw [unfolded, execTqPoll, State.xinstr_comes comes, State.modThread_modThread]
  refine congrArg Host.Outcome.next (State.modThread_congr _ _ ?_)
  by_cases out : (x.getX (xRs1 w)).toNat ∈ x.tickets
  · rw [Thread.status_known out, if_pos out]
  · rw [Thread.status_other out, if_neg out]
    cases x.recent.find? fun q => q.1 == (x.getX (xRs1 w)).toNat <;> rfl

theorem tqWait_tells (s : State) (core : Fin 128) (thr : Fin 64) (w : Word) (pc v1 v2 : BitVec 64) (p : Nat) (x : Thread) (comes : s.ComesTo core thr w pc v1 v2 .wait p x) :
    exec (.tqWait core thr w pc v1 v2) s = .next (s.modThread (threadKey core.val thr.val) fun _ =>
      if (x.getX (xRs1 w)).toNat ∈ x.tickets then { x with state := .waitTicket (xRd w) (x.getX (xRs1 w)).toNat }
      else match x.recent.find? fun q => q.1 == (x.getX (xRs1 w)).toNat with
        | some q => x.retire (xRd w) (BitVec.ofNat 64 q.2.code)
        | none => x.retire (xRd w) (BitVec.ofNat 64 Status.badField.code)) := by
  have unfolded : exec (.tqWait core thr w pc v1 v2) s = execTqWait core thr w pc v1 v2 s := rfl
  rw [unfolded, execTqWait, State.xinstr_comes comes, State.modThread_modThread]
  refine congrArg Host.Outcome.next (State.modThread_congr _ _ ?_)
  by_cases out : (x.getX (xRs1 w)).toNat ∈ x.tickets
  · rw [Thread.status_known out, if_pos out]
  · rw [Thread.status_other out, if_neg out]
    cases x.recent.find? fun q => q.1 == (x.getX (xRs1 w)).toNat <;> rfl

theorem tqFence_blocks (s : State) (core : Fin 128) (thr : Fin 64) (w : Word) (pc v1 v2 : BitVec 64) (p : Nat) (x : Thread) (comes : s.ComesTo core thr w pc v1 v2 .fence p x) :
    exec (.tqFence core thr w pc v1 v2) s = .next (s.modThread (threadKey core.val thr.val) fun _ =>
      if x.tickets = [] then x.retire 0 0 else { x with state := .waitFence }) := by
  have unfolded : exec (.tqFence core thr w pc v1 v2) s = execTqFence core thr w pc v1 v2 s := rfl
  rw [unfolded, execTqFence, State.xinstr_comes comes, State.modThread_modThread]
  refine congrArg Host.Outcome.next (State.modThread_congr _ _ ?_)
  simp only [List.isEmpty_iff]

/-! ### Traps -/

theorem undecoded_cases (s : State) (core : Fin 128) (thr : Fin 64) (w : Word) (pc v1 v2 : BitVec 64) (p : Nat) (owner : s.coreOwner core.val = some p)
    (runs : s.partRuns p = true) (running : (s.thread (threadKey core.val thr.val)).state = .running) (undecoded : xDecode w = none) :
    (bits w.toNat 6 0 = 0x0B → exec (.tqPush core thr w pc v1 v2) s =
      .next ((s.modThread (threadKey core.val thr.val) fun x => x.atInstr w pc v1 v2).trap core.val thr.val 2 pc (BitVec.ofNat 64 w.toNat))) ∧
    (w = 0x73 → exec (.tqPush core thr w pc v1 v2) s =
      .next ((s.modThread (threadKey core.val thr.val) fun x => x.atInstr w pc v1 v2).trap core.val thr.val 8 pc 0)) ∧
    (bits w.toNat 6 0 = 0x73 → bits w.toNat 14 12 = 2 → xRs1 w = 0 → bits w.toNat 31 20 = 0xCC0 → exec (.tqPush core thr w pc v1 v2) s =
      .next (s.modThread (threadKey core.val thr.val) fun x => (x.atInstr w pc v1 v2).retire (xRd w) (BitVec.ofNat 64 (lthread p core.val thr.val)))) := by
  have run : exec (.tqPush core thr w pc v1 v2) s = .next (if bits w.toNat 6 0 = 0x0B
      then (s.modThread (threadKey core.val thr.val) fun t => t.atInstr w pc v1 v2).trap core.val thr.val 2 pc (BitVec.ofNat 64 w.toNat)
      else (s.modThread (threadKey core.val thr.val) fun t => t.atInstr w pc v1 v2).baseInstr (threadKey core.val thr.val) p w) :=
    congrArg Host.Outcome.next (State.xinstr_other owner runs running undecoded _)
  refine ⟨fun custom => by rw [run, if_pos custom], fun ecall => ?_, fun system csr source lthread_ => ?_⟩
  · subst ecall
    rw [run, if_neg (by decide), State.baseInstr]
    rw [threadKey_core, threadKey_thread, State.thread_modThread, if_pos rfl]
    rfl
  · have unequal : w.toNat ≠ 0x73 ∧ w.toNat ≠ 0x100073 := by
      constructor <;> intro e <;> rw [e] at lthread_ <;> exact absurd lthread_ (by decide)
    rw [run, if_neg (by rw [system]; decide), State.baseInstr]
    rw [system, threadKey_core, threadKey_thread]
    refine congrArg Host.Outcome.next ((if_neg unequal.1).trans ((if_neg unequal.2).trans ((if_pos ⟨csr, source⟩).trans ?_)))
    rw [lthread_]
    exact State.modThread_modThread _ _ _ _

/-- The state of a trapped thread's core, before the fault is posted. -/
def State.trapped (s : State) (core thread cause : Nat) (epc tval : BitVec 64) : State :=
  (((((((s.modThread (threadKey core thread) fun t => { t with state := .stopped, pc := epc }).setReg (Reg.coreTrapCause core) (2 ^ 31 + thread % 64 * 65536 + cause % 64)).setReg
    (Reg.coreTrapEpcLo core) (epc.toNat % 2 ^ 32)).setReg (Reg.coreTrapEpcHi core) (epc.toNat / 2 ^ 32)).setReg (Reg.coreTrapTvalLo core) (tval.toNat % 2 ^ 32)).setReg
    (Reg.coreTrapTvalHi core) (tval.toNat / 2 ^ 32)).setFld (Reg.coreStatus core) 1 1 1)

theorem State.trap_posts (s : State) (core thread cause : Nat) (epc tval : BitVec 64) :
    ∃ f, s.trap core thread cause epc tval = (s.trapped core thread cause epc tval).post f ∧ f.level = 2 ∧ f.kind = 0x401 ∧ f.source = BitVec.ofNat 12 core := by
  rw [State.trap]
  split
  · exact ⟨_, rfl, rfl, rfl, rfl⟩
  · exact ⟨_, rfl, rfl, rfl, rfl⟩

/-- A message above level 0 joins its unit's outbox, and nothing else happens. -/
theorem State.post_above (s : State) {f : FaultSpec} (level : f.level ≠ 0) :
    s.post f = { s with blt := { s.blt with outbox := aput s.blt.outbox f.source.toNat (agetD s.blt.outbox f.source.toNat [] ++ [{ fault := f, time := s.faultTime }]) } } :=
  if_neg fun h => level h.1

theorem core_ne (core : Nat) {a b : Nat} (ne : a ≠ b) : a + 0x10000 * core ≠ b + 0x10000 * core := by omega

theorem threadTrap_stops (s : State) (core : Fin 128) (thr : Fin 64) (cause : Fin 64) (pc tval : BitVec 64)
    (on : (s.thread (threadKey core.val thr.val)).state ≠ .stopped) (empty : agetD s.blt.outbox core.val [] = []) :
    ∃ t, exec (.threadTrap core thr cause pc tval) s = .next t ∧
      t.thread (threadKey core.val thr.val) = { s.thread (threadKey core.val thr.val) with state := .stopped, pc := pc } ∧
      (∀ j, j ≠ threadKey core.val thr.val → t.thread j = s.thread j) ∧ t.cores.queues = s.cores.queues ∧
      t.reg (Reg.coreTrapCause core.val) = 2 ^ 31 + thr.val * 65536 + cause.val ∧
      t.reg (Reg.coreTrapEpcLo core.val) = pc.toNat % 2 ^ 32 ∧ t.reg (Reg.coreTrapEpcHi core.val) = pc.toNat / 2 ^ 32 ∧
      t.reg (Reg.coreTrapTvalLo core.val) = tval.toNat % 2 ^ 32 ∧ t.reg (Reg.coreTrapTvalHi core.val) = tval.toNat / 2 ^ 32 ∧
      t.flag (Reg.coreStatus core.val) 1 = true ∧
      (∃ m, agetD t.blt.outbox core.val [] = [m] ∧ m.fault.level = 2 ∧ m.fault.kind = 0x401 ∧ m.fault.source.toNat = core.val) ∧
      s.Only [.bar, .cores, .blt] t := by
  obtain ⟨f, trap, level, kind, source⟩ := s.trap_posts core.val thr.val cause.val pc tval
  let s1 := s.modThread (threadKey core.val thr.val) fun t => { t with state := .stopped, pc := pc }
  let s3 := s.trapped core.val thr.val cause.val pc tval
  have posted : s.trap core.val thr.val cause.val pc tval = _ := trap.trans (s3.post_above (by rw [level]; decide))
  have number : f.source.toNat = core.val := by
    rw [source, BitVec.toNat_ofNat]
    exact Nat.mod_eq_of_lt (by have := core.isLt; omega)
  have run : exec (.threadTrap core thr cause pc tval) s = .next (s.trap core.val thr.val cause.val pc tval) := if_neg on
  have thread : ∀ j, (s.trap core.val thr.val cause.val pc tval).thread j = s1.thread j := fun j => by
    rw [posted]
    rfl
  have regs : ∀ o, (s.trap core.val thr.val cause.val pc tval).reg o = (s.trapped core.val thr.val cause.val pc tval).reg o := fun o => by
    rw [posted]
    rfl
  have word : ∀ v : BitVec 64, v.toNat / 2 ^ 32 < 2 ^ 32 := fun v => by
    have := v.isLt
    omega
  have thr_ := thr.isLt
  have cause_ := cause.isLt
  refine ⟨_, run, ?_, fun j other => ?_, ?_, ?_, ?_, ?_, ?_, ?_, ?_, ?_, ?_⟩
  · rw [thread, State.thread_modThread, if_pos rfl]
  · rw [thread, State.thread_modThread, if_neg other]
  · rw [posted]
    rfl
  · rw [regs, State.trapped, State.reg_setFld_ne _ _ _ _ (core_ne _ (by decide)), State.reg_setReg_ne _ _ (core_ne _ (by decide)), State.reg_setReg_ne _ _ (core_ne _ (by decide)), State.reg_setReg_ne _ _ (core_ne _ (by decide)),
      State.reg_setReg_ne _ _ (core_ne _ (by decide)), State.reg_setReg_same]
    omega
  · rw [regs, State.trapped, State.reg_setFld_ne _ _ _ _ (core_ne _ (by decide)), State.reg_setReg_ne _ _ (core_ne _ (by decide)), State.reg_setReg_ne _ _ (core_ne _ (by decide)), State.reg_setReg_ne _ _ (core_ne _ (by decide)),
      State.reg_setReg_same, Nat.mod_mod]
  · rw [regs, State.trapped, State.reg_setFld_ne _ _ _ _ (core_ne _ (by decide)), State.reg_setReg_ne _ _ (core_ne _ (by decide)), State.reg_setReg_ne _ _ (core_ne _ (by decide)), State.reg_setReg_same,
      Nat.mod_eq_of_lt (word pc)]
  · rw [regs, State.trapped, State.reg_setFld_ne _ _ _ _ (core_ne _ (by decide)), State.reg_setReg_ne _ _ (core_ne _ (by decide)), State.reg_setReg_same, Nat.mod_mod]
  · rw [regs, State.trapped, State.reg_setFld_ne _ _ _ _ (core_ne _ (by decide)), State.reg_setReg_same, Nat.mod_eq_of_lt (word tval)]
  · rw [State.flag_congr 1 (regs _), State.flag_eq_fld]
    exact beq_iff_eq.2 (State.fld_setFld_same _ _ (by decide) (by decide))
  · refine ⟨{ fault := f, time := s3.faultTime }, ?_, level, kind, number⟩
    rw [posted, number]
    refine (agetD_aput_same _ _ _ _).trans ?_
    rw [show agetD s3.blt.outbox core.val [] = [] from empty]
    rfl
  · exact ((s.keeps_self _).trap (sub_self _) core.val thr.val cause.val pc tval).only

/-- Settles O15: instructions of a thread. -/
theorem threadInstructions : Obligations.ThreadInstructions :=
  ⟨tqPush_cases, tqPush_illegal, tqPushResume_queues, tqPoll_tells, tqWait_tells, tqFence_blocks, undecoded_cases, threadTrap_stops⟩

end Sys2Proof.Machine
end

section
/-!
PROOFS. Completion vectors and completed commands (O16).
-/
namespace Sys2Proof.Machine

/-! ### Waking the waits of a partition -/

theorem afind_map_key {α : Type} (l : Assoc α) (f : Nat → α → α) (k : Nat) : afind (l.map fun q => (q.1, f q.1 q.2)) k = (afind l k).map (f k) := by
  induction l with
  | nil => rfl
  | cons q l ih =>
    obtain ⟨i, v⟩ := q
    rw [List.map_cons, afind, afind]
    split
    · next e => rw [e, Option.map_some]
    · exact ih

/-- A thread as it is after the waits of a partition were looked at. -/
def State.woken (s : State) (p j : Nat) (t : Thread) : Thread := if bitAt (s.part p).slices.toNat (j / 512) then t.cvWake (s.part p) else t

theorem State.thread_cvWakeAll (s : State) (p j : Nat) : (s.cvWakeAll p).thread j = s.woken p j (s.thread j) := by
  have same : (s.cores.threads.map fun q => if bitAt (s.part p).slices.toNat (q.1 / 512) then (q.1, q.2.cvWake (s.part p)) else q) =
      s.cores.threads.map fun q => (q.1, s.woken p q.1 q.2) := by
    refine List.map_congr_left fun q _ => ?_
    rw [State.woken]
    split <;> rfl
  have stopped : s.woken p j Thread.stopped_ = Thread.stopped_ := by
    rw [State.woken]
    split <;> rfl
  have found : agetD (s.cores.threads.map fun q => (q.1, s.woken p q.1 q.2)) j Thread.stopped_ = s.woken p j (s.thread j) := by
    rw [State.thread, agetD_eq_get, agetD_eq_get, afind_map_key]
    cases afind s.cores.threads j with
    | none => exact stopped.symm
    | some t => rfl
  rw [State.thread, State.cvWakeAll]
  exact (congrArg (fun l => agetD l j Thread.stopped_) same).trans found

theorem State.cvWakeAll_queues (s : State) (p : Nat) : (s.cvWakeAll p).cores.queues = s.cores.queues := rfl

theorem State.part_cvWakeAll (s : State) (p i : Nat) : (s.cvWakeAll p).part i = s.part i := State.part_congr rfl i

/-! ### A vector with one more bit -/

/-- A partition with one more bit set. -/
def Part.cvBit (q : Part) (bit : Nat) : Part := { q with cv := bit :: q.cv }

theorem State.cvSet_new {s : State} {p bit : Nat} (unset : bit ∉ (s.part p).cv) : s.cvSet p bit = (s.modPart p fun q => q.cvBit bit).cvWakeAll p :=
  if_neg fun set => unset (List.contains_iff_mem.1 set)

theorem State.cvSet_old {s : State} {p bit : Nat} (set : bit ∈ (s.part p).cv) : s.cvSet p bit = s := if_pos (List.contains_iff_mem.2 set)

/-- What setting a bit of a partition in the table does to the partitions. -/
theorem State.cvSet_parts (s : State) {p : Nat} (bit : Nat) (inside : p < s.pln.parts.length) :
    (∀ b, b ∈ ((s.cvSet p bit).part p).cv ↔ b ∈ (s.part p).cv ∨ b = bit) ∧ (∀ i, i ≠ p → (s.cvSet p bit).part i = s.part i) ∧
      (s.cvSet p bit).part p = { s.part p with cv := ((s.cvSet p bit).part p).cv } ∧ (s.cvSet p bit).cores.queues = s.cores.queues := by
  by_cases set : bit ∈ (s.part p).cv
  · rw [State.cvSet_old set]
    refine ⟨fun b => ⟨.inl, fun h => h.elim id fun e => by rw [e]; exact set⟩, fun _ _ => rfl, rfl, rfl⟩
  · rw [State.cvSet_new set]
    have own : ((s.modPart p fun q => q.cvBit bit).cvWakeAll p).part p = (s.part p).cvBit bit := by
      rw [State.part_cvWakeAll, State.part_modPart, if_pos ⟨rfl, inside⟩]
    refine ⟨fun b => ?_, fun i other => ?_, ?_, rfl⟩
    · rw [own, Part.cvBit, List.mem_cons, or_comm]
    · rw [State.part_cvWakeAll, State.part_modPart_ne _ _ other]
    · rw [own]
      rfl

theorem State.cvSet_threads (s : State) {p : Nat} (bit : Nat) (inside : p < s.pln.parts.length) (unset : bit ∉ (s.part p).cv) (j : Nat) :
    (s.cvSet p bit).thread j = if bitAt (s.part p).slices.toNat (j / 512) then (s.thread j).cvWake ((s.cvSet p bit).part p) else s.thread j := by
  have own : (s.modPart p fun q => q.cvBit bit).part p = (s.part p).cvBit bit := by rw [State.part_modPart, if_pos ⟨rfl, inside⟩]
  rw [State.cvSet_new unset, State.thread_cvWakeAll, State.part_cvWakeAll, State.woken, own]
  rfl

/-- A thread that runs waits for no bit. -/
theorem State.cvSet_running (s : State) (p bit : Nat) {j : Nat} (running : (s.thread j).state = .running) : (s.cvSet p bit).thread j = s.thread j := by
  by_cases set : bit ∈ (s.part p).cv
  · rw [State.cvSet_old set]
  · have awake : ∀ q : Part, (s.thread j).cvWake q = s.thread j := fun q => by rw [Thread.cvWake, running]
    have same : (s.modPart p fun q => q.cvBit bit).thread j = s.thread j := rfl
    rw [State.cvSet_new set, State.thread_cvWakeAll, State.woken, same, awake]
    split <;> rfl

theorem State.coreOwner_inside {s : State} {core p : Nat} (owner : s.coreOwner core = some p) : p < s.pln.parts.length := by
  rw [State.coreOwner, State.sliceOwner] at owner
  have holds : bitAt (s.part p).slices.toNat (core / 8) = true := (List.find?_some owner :)
  refine State.part_lt fun reset => ?_
  rw [reset] at holds
  have none_ : Part.reset.slices.toNat = 0 := rfl
  rw [none_, bitAt, Nat.zero_div] at holds
  cases holds

/-! ### Instructions on vectors -/

theorem cvSet_sets (s : State) (core : Fin 128) (thr : Fin 64) (w : Word) (pc v1 v2 : BitVec 64) (p : Nat) (x : Thread) (comes : s.ComesTo core thr w pc v1 v2 .cvSet p x) :
    ∃ t, exec (.cvSet core thr w pc v1 v2) s = .next t ∧
      (∀ b, b ∈ (t.part p).cv ↔ b ∈ (s.part p).cv ∨ b = (x.getX (xRs1 w)).toNat % 2 ^ 14) ∧ (∀ i, i ≠ p → t.part i = s.part i) ∧
      (t.part p = { s.part p with cv := (t.part p).cv }) ∧
      t.thread (threadKey core.val thr.val) = x.retire 0 0 ∧
      ((x.getX (xRs1 w)).toNat % 2 ^ 14 ∉ (s.part p).cv → ∀ j, j ≠ threadKey core.val thr.val →
        t.thread j = if bitAt (s.part p).slices.toNat (j / 512) then (s.thread j).cvWake (t.part p) else s.thread j) ∧
      t.cores.queues = s.cores.queues ∧ s.Only [.cores, .pln] t := by
  let s1 := s.modThread (threadKey core.val thr.val) fun _ => x.retire 0 0
  have inside : p < s1.pln.parts.length := State.coreOwner_inside comes.1
  have run : exec (.cvSet core thr w pc v1 v2) s = .next (s1.cvSet p ((x.getX (xRs1 w)).toNat % 2 ^ 14)) := by
    have unfolded : exec (.cvSet core thr w pc v1 v2) s = execCvSet core thr w pc v1 v2 s := rfl
    rw [unfolded, execCvSet, State.xinstr_comes comes, State.modThread_modThread, State.thread_set]
  obtain ⟨bits, others, rest, queues⟩ := s1.cvSet_parts ((x.getX (xRs1 w)).toNat % 2 ^ 14) inside
  have own : s1.thread (threadKey core.val thr.val) = x.retire 0 0 := s.thread_set _ _
  refine ⟨_, run, bits, others, rest, (s1.cvSet_running p _ (by rw [own]; rfl)).trans own, fun unset j other => ?_, queues, ?_⟩
  · rw [s1.cvSet_threads _ inside unset, State.thread_modThread, if_neg other]
    rfl
  · exact ((s.only_modThread _ _).mono (by decide)).trans (((s1.keeps_self _).cvSet (sub_self _) p _).only.mono (by decide))

theorem cvClr_clears (s : State) (core : Fin 128) (thr : Fin 64) (w : Word) (pc v1 v2 : BitVec 64) (p : Nat) (x : Thread) (comes : s.ComesTo core thr w pc v1 v2 .cvClr p x) :
    ∃ t, exec (.cvClr core thr w pc v1 v2) s = .next t ∧
      (∀ b, b ∈ (t.part p).cv ↔ b ∈ (s.part p).cv ∧ ¬ (b / 64 = (x.getX (xRs1 w)).toNat ∧ bitAt (x.getX (xRs2 w)).toNat (b % 64) = true)) ∧
      (∀ i, i ≠ p → t.part i = s.part i) ∧ (t.part p = { s.part p with cv := (t.part p).cv }) ∧
      t.thread (threadKey core.val thr.val) = x.retire 0 0 ∧ (∀ j, j ≠ threadKey core.val thr.val → t.thread j = s.thread j) ∧
      t.cores.queues = s.cores.queues ∧ s.Only [.cores, .pln] t := by
  let s1 := s.modThread (threadKey core.val thr.val) fun _ => x.retire 0 0
  have inside : p < s1.pln.parts.length := State.coreOwner_inside comes.1
  let clear (q : Part) : Part := { q with cv := q.cv.filter fun b => !(b / 64 == (x.getX (xRs1 w)).toNat && bitAt (x.getX (xRs2 w)).toNat (b % 64)) }
  have run : exec (.cvClr core thr w pc v1 v2) s = .next (s1.modPart p clear) := by
    have unfolded : exec (.cvClr core thr w pc v1 v2) s = execCvClr core thr w pc v1 v2 s := rfl
    rw [unfolded, execCvClr, State.xinstr_comes comes]
    dsimp only
    rw [State.modThread_modThread, State.thread_set]
  have own : (s1.modPart p clear).part p = clear (s.part p) := by
    rw [State.part_modPart, if_pos ⟨rfl, inside⟩]
    rfl
  refine ⟨_, run, fun b => ?_, fun i other => State.part_modPart_ne _ _ other, by rw [own], s.thread_set _ _, fun j other => ?_, rfl, ?_⟩
  · rw [own, List.mem_filter, Bool.not_eq_true', Bool.eq_false_iff, ne_eq, Bool.and_eq_true, beq_iff_eq]
  · refine Eq.trans (b := s1.thread j) rfl ?_
    rw [State.thread_modThread, if_neg other]
  · have cleared : s1.Only [.pln] (s1.modPart p clear) := by simp [State.Only]
    exact ((s.only_modThread _ _).mono (by decide)).trans (cleared.mono (by decide))

theorem cvWait_waits (s : State) (core : Fin 128) (thr : Fin 64) (w : Word) (pc v1 v2 : BitVec 64) (p : Nat) (x : Thread) (comes : s.ComesTo core thr w pc v1 v2 .cvWait p x) :
    ((s.part p).cvWord (x.getX (xRs1 w)).toNat &&& (x.getX (xRs2 w)).toNat ≠ (x.getX (xRs2 w)).toNat →
      exec (.cvWait core thr w pc v1 v2) s =
        .next (s.modThread (threadKey core.val thr.val) fun _ => { x with state := .waitCv (xRd w) (x.getX (xRs1 w)).toNat (x.getX (xRs2 w)).toNat })) ∧
    ((s.part p).cvWord (x.getX (xRs1 w)).toNat &&& (x.getX (xRs2 w)).toNat = (x.getX (xRs2 w)).toNat → (x.getX (xRs1 w)).toNat < 256 →
      exec (.cvWait core thr w pc v1 v2) s =
        .next (s.modThread (threadKey core.val thr.val) fun _ => x.retire (xRd w) (BitVec.ofNat 64 ((s.part p).cvWord (x.getX (xRs1 w)).toNat)))) := by
  let s0 := s.modThread (threadKey core.val thr.val) fun _ => x
  have part : s0.part p = s.part p := rfl
  have run : exec (.cvWait core thr w pc v1 v2) s = .next (
      if (s0.part p).cvWord (x.getX (xRs1 w)).toNat &&& (x.getX (xRs2 w)).toNat ≠ (x.getX (xRs2 w)).toNat then
        s0.modThread (threadKey core.val thr.val) fun t => { t with state := .waitCv (xRd w) (x.getX (xRs1 w)).toNat (x.getX (xRs2 w)).toNat }
      else if (x.getX (xRs1 w)).toNat < 256 then
        s0.modThread (threadKey core.val thr.val) fun t => t.retire (xRd w) (BitVec.ofNat 64 ((s0.part p).cvWord (x.getX (xRs1 w)).toNat))
      else s0.free.2.modThread (threadKey core.val thr.val) fun t => t.retire (xRd w) (BitVec.ofNat 64 s0.free.1)) := by
    have unfolded : exec (.cvWait core thr w pc v1 v2) s = execCvWait core thr w pc v1 v2 s := rfl
    rw [unfolded, execCvWait, State.xinstr_comes comes]
    dsimp only
    rw [State.thread_set]
  rw [part] at run
  refine ⟨fun unmet => ?_, fun met low => ?_⟩
  · rw [run, if_pos unmet, State.modThread_modThread]
  · rw [run, if_neg (fun unmet => unmet met), if_pos low, State.modThread_modThread]

theorem cvRead_reads (s : State) (core : Fin 128) (thr : Fin 64) (w : Word) (pc v1 v2 : BitVec 64) (p : Nat) (x : Thread) (comes : s.ComesTo core thr w pc v1 v2 .cvRead p x)
    (low : (x.getX (xRs1 w)).toNat < 256) :
    exec (.cvRead core thr w pc v1 v2) s =
      .next (s.modThread (threadKey core.val thr.val) fun _ => x.retire (xRd w) (BitVec.ofNat 64 ((s.part p).cvWord (x.getX (xRs1 w)).toNat))) := by
  have unfolded : exec (.cvRead core thr w pc v1 v2) s = execCvRead core thr w pc v1 v2 s := rfl
  rw [unfolded, execCvRead, State.xinstr_comes comes]
  dsimp only
  rw [State.thread_set, if_pos low, State.modThread_modThread]
  rfl

/-! ### Completed commands -/

/-- A command that leaves its queue: counted, and told to its thread. -/
def State.commandLeaves (s : State) (core dev seq : Nat) (c : CoreCmd) (st : Status) : State :=
  let s1 : State := { s with cores := { s.cores with
    queues := aput s.cores.queues (unitKey core dev) ((agetD s.cores.queues (unitKey core dev) []).filter fun x => x.seq != seq) } }
  (s1.count (Reg.coreCntCmd core) 1).modThread c.thread fun t => t.completed (ticketOf core dev seq) st

theorem commandComplete_leaves (s : State) (core : Fin 128) (dev : Fin 10) (seq : Nat) (c : CoreCmd) (st : Status) (there : s.cmdAt core.val dev.val seq = some c)
    (result : c.result = some st)
    (first : (((agetD s.cores.queues (unitKey core.val dev.val) []).takeWhile fun x => x.seq != seq).filter fun x => x.thread == c.thread) = [])
    (runs : s.partRuns c.part.val = true) :
    (c.flag 1 = false →
      ∃ t, exec (.commandComplete core dev seq) s = .next t ∧
        agetD t.cores.queues (unitKey core.val dev.val) [] = (agetD s.cores.queues (unitKey core.val dev.val) []).filter (fun x => x.seq != seq) ∧
        (∀ i, i ≠ unitKey core.val dev.val → agetD t.cores.queues i [] = agetD s.cores.queues i []) ∧
        t.thread c.thread = (s.thread c.thread).completed (ticketOf core.val dev.val seq) st ∧ (∀ j, j ≠ c.thread → t.thread j = s.thread j) ∧
        t.reg (Reg.coreCntCmd core.val) = min 0xFFFFFFFF (s.reg (Reg.coreCntCmd core.val) + 1) ∧ s.Only [.bar, .cores] t) ∧
    (c.flag 1 = true →
      ∃ t, exec (.commandComplete core dev seq) s = .next t ∧
        agetD t.cores.queues (unitKey core.val dev.val) [] = (agetD s.cores.queues (unitKey core.val dev.val) []).filter (fun x => x.seq != seq) ∧
        (c.part.val < s.pln.parts.length → ∀ b, b ∈ (t.part c.part.val).cv ↔ b ∈ (s.part c.part.val).cv ∨ b = fieldAt c.desc 2 2 % 2 ^ 14) ∧
        (∀ i, i ≠ c.part.val → t.part i = s.part i) ∧ s.Only [.bar, .cores, .pln] t) := by
  let s2 := s.commandLeaves core.val dev.val seq c st
  have run : exec (.commandComplete core dev seq) s = .next (if c.flag 1 then s2.cvSet c.part.val (fieldAt c.desc 2 2 % 2 ^ 14) else s2) := by
    have unfolded : exec (.commandComplete core dev seq) s = execCommandComplete core dev seq s := rfl
    rw [unfolded, execCommandComplete, there]
    dsimp only
    rw [result]
    exact if_neg (by rw [first, runs]; decide)
  have own : agetD s2.cores.queues (unitKey core.val dev.val) [] = (agetD s.cores.queues (unitKey core.val dev.val) []).filter (fun x => x.seq != seq) := agetD_aput_same _ _ _ _
  have only : s.Only [.bar, .cores] s2 := by simp [State.Only, s2, State.commandLeaves, State.modThread]
  refine ⟨fun plain => ?_, fun vector => ?_⟩
  · rw [if_neg (by rw [plain]; decide)] at run
    refine ⟨s2, run, own, fun i other => agetD_aput_ne _ _ _ other, ?_, fun j other => ?_, State.reg_count_same _ _ _, only⟩
    · refine (State.thread_modThread _ _ _ _).trans ?_
      rw [if_pos rfl]
      rfl
    · refine (State.thread_modThread _ _ _ _).trans ?_
      rw [if_neg other]
      rfl
  · rw [if_pos vector] at run
    have set := ((s2.keeps_self _).cvSet (sub_self _) c.part.val (fieldAt c.desc 2 2 % 2 ^ 14)).only
    have queues : (s2.cvSet c.part.val (fieldAt c.desc 2 2 % 2 ^ 14)).cores.queues = s2.cores.queues := by
      by_cases set : fieldAt c.desc 2 2 % 2 ^ 14 ∈ (s2.part c.part.val).cv
      · rw [State.cvSet_old set]
      · rw [State.cvSet_new set]
        rfl
    refine ⟨_, run, by rw [queues]; exact own, fun inside => (s2.cvSet_parts _ inside).1, fun i other => ?_, (only.mono (by decide)).trans (set.mono (by decide))⟩
    by_cases set : fieldAt c.desc 2 2 % 2 ^ 14 ∈ (s2.part c.part.val).cv
    · rw [State.cvSet_old set]
      rfl
    · rw [State.cvSet_new set, State.part_cvWakeAll, State.part_modPart_ne _ _ other]
      rfl

/-- Settles O16: completion vectors, and commands that complete. -/
theorem completionVectors : Obligations.CompletionVectors :=
  ⟨cvSet_sets, cvClr_clears, cvWait_waits, cvRead_reads, commandComplete_leaves⟩

end Sys2Proof.Machine
end

section
/-!
PROOFS. T1 and its health (O20): a surrendered satchel's objects give their bytes of T1 up, as zeros.
-/
namespace Sys2Proof.Machine

/-! ### What a surrender leaves of memory -/

theorem State.unplace_memory_congr {s t : State} (same : s.memory = t.memory) (ctx : Nat) : (s.unplace ctx).memory = (t.unplace ctx).memory := by
  have step (l : List Nat) : ∀ {a b : State}, a.memory = b.memory →
      (l.foldl (fun (q : State) k => q.uncarve (objOwner ctx k)) a).memory = (l.foldl (fun (q : State) k => q.uncarve (objOwner ctx k)) b).memory := by
    induction l with
    | nil => exact id
    | cons k l ih => exact fun same => ih (by simp only [State.uncarve, same])
  exact step _ same

theorem State.toRegistrar_only (s : State) (ty : CType) (m : CMsg) (p : CPayload) : s.Only [.out] (s.toRegistrar ty m p) :=
  ((s.keeps_self _).toRegistrar (sub_self _) ty m p).only

theorem State.doneFor_only (s : State) (r : ReplyTo) (id : SatchelId) (st : Status) : s.Only [.bar, .cmd, .host, .out, .freeCtr] (s.doneFor r id st) :=
  ((s.keeps_self _).doneFor (sub_self _) r id st).only

/-- A surrender releases the objects of the satchel; nothing else of memory changes. -/
theorem State.surrenderFor_memory {s : State} {slot : Nat} {x : Sat} (found : s.satAt slot = some x) (reason : Status) :
    (s.surrenderFor slot reason).memory = (s.unplace slot).memory := by
  rw [State.surrenderFor, State.withSlot_some _ found, State.loseCopy]
  generalize sent : s.toRegistrar .surrender _ .empty = s1
  have reported : s.Only [.out] s1 := sent ▸ s.toRegistrar_only _ _ _
  rw [State.withSlot_some _ ((State.satAt_of_sat reported.sat slot).trans found)]
  extract_lets s2
  have moved : s1.Only [.bar, .cmd, .host, .out, .freeCtr] s2 := by
    simp only [s2]
    split
    · split
      · exact s1.doneFor_only _ _ _
      · exact State.Only.refl s1 _
    · exact State.Only.refl s1 _
  have told := ((s2.removeSat slot).keeps_self [.bar, .cmd, .host, .out, .freeCtr]).foldl x.freeing (fun a r => a.doneFor r x.id reason)
    fun t r k => k.doneFor (sub_self _) r _ _
  rw [told.only.memory]
  exact State.unplace_memory_congr ((((s2.keeps_self _).freePages (sub_self _) slot).only.memory.trans moved.memory).trans reported.memory) slot

/-! ### A device lost under a satchel whose descriptor has a byte -/

def tornDev : GddrDev :=
  { present := true, trained := true, density := 0, inService := true, temp := 0, retrains := 0, trackFails := 3, hot := false, throttled := false }

/-- A satchel in PREFILL. -/
def tornSat : Sat :=
  { id := 1, tenant := 0, part := 0, cls := 0, state := .prefill, migrating := false, adapter := 0xFFFF, adapterVer := 0, kvPos := 0, place := Place.none, lodge := 0xFFFF, rows := [],
    park := .idle, units := 0, staged := [], migrated := 0, lodgedAt := 0, home := [], cold := [], swapOut := [], returns := [],
    frozen := false, cancelLatched := false, recovered := false, autoFree := false, session := false, autoRecover := false, noSubst := false, epoch := 1, model := 0, log := [],
    promptLen := 0, mirrorLen := 0, maxNew := 0, sampler := ⟨0, 0, 0, 0, 0, 0, 0, 0, false, false, 0, 0⟩, stop := ⟨0, 1, 0, [], 0⟩, waitKind := 0, waitMatcher := 15,
    waitExpiry := 0, waitStroke := 0, tokensIn := 0, tokensOut := 0, subst := 0, defers := 0, lastStroke := 0, admitStroke := 0, cookie := 0, onPf0 := true, ring := 0,
    admitting := none, attempts := 1, freeing := [], prior := .prefill, move := none, planned := none, prov := none, backfill := 0, unackedInks := [], mirrorHold := false,
    mirrorsOut := 0, mirrorSent := 0, reported := .prefill, registering := false, reregister := false, tried := 0, poolNoted := false, vocab := 0, maxContext := 0, outRecs := [] }

/-- The descriptor of the satchel in slot 0 stands in the first line of T1, with a byte that is not 0. -/
def tornMem : MemSt := { MemSt.reset with devs := [tornDev], carves := [⟨objOwner 0 0, 0, 64⟩], mem := [(0, 1)] }

/-- One GDDR7 device at its third tracking failure, and one satchel. -/
def tornState : State := { State.reset with memory := tornMem, sat := { SatSt.reset with sats := [(0, tornSat)] } }

theorem tornState_mem : ((tornState.gddrLost 0).t1Lost tornState).memory.mem = [] := by
  have lost : tornState.Only [.bar, .memory, .blt] (tornState.gddrLost 0) := ((tornState.keeps_self _).gddrLost (sub_self _) 0).only
  have dev : (tornState.gddrLost 0).memory = { tornMem with devs := [{ tornDev with inService := false }] } := by
    have gone : tornState.gddrLost 0 = { tornState with memory := { tornMem with devs := [{ tornDev with inService := false }] } }.post (fault 0x100 0x203 3 0) := rfl
    rw [gone, State.post_memory]
  have sats : (tornState.gddrLost 0).sat.sats = [(0, tornSat)] := congrArg SatSt.sats lost.sat
  rw [State.t1Lost, if_pos (by rw [dev]; decide), sats]
  have found : (tornState.gddrLost 0).satAt 0 = some tornSat := by rw [State.satAt, sats]; rfl
  calc ((tornState.gddrLost 0).surrenderFor 0 .deviceFault).memory.mem
      = ((tornState.gddrLost 0).unplace 0).memory.mem := by rw [State.surrenderFor_memory found]
    _ = (({ State.reset with memory := { tornMem with devs := [{ tornDev with inService := false }] } } : State).unplace 0).memory.mem :=
        congrArg MemSt.mem (State.unplace_memory_congr dev 0)
    _ = [] := by decide

/-- Refutes O20: a device that fails its retraining leaves service with a satchel in PREFILL here; its surrender releases the carve of its descriptor, which
zeroes the bytes there, where the statement keeps every byte of memory. -/
theorem not_t1TrainingAndHealth : ¬ Obligations.T1TrainingAndHealth := by
  unfold Obligations.T1TrainingAndHealth
  rintro ⟨-, -, -, fails, -⟩
  obtain ⟨t, ran, -, -, kept, -⟩ := fails tornState 0 tornDev rfl rfl rfl
  have run : exec (.t1RetrainComplete 0 false) tornState = .next ((tornState.gddrLost 0).t1Lost tornState) := rfl
  have same : (tornState.gddrLost 0).t1Lost tornState = t := Host.Outcome.next.inj (run.symm.trans ran)
  rw [← same, tornState_mem] at kept
  exact absurd kept (by decide)

end Sys2Proof.Machine
end

section
/-!
PROOFS. Control inputs (O57): PFAIL_N, THERM_N and rejected pulses; what an immediate shut-down leaves (R520).
-/
namespace Sys2Proof.Machine

/-! ### A message into an empty outbox -/

/-- The state with one message waiting in the outbox of the message's unit. -/
def State.posted (s : State) (f : FaultSpec) : State :=
  { s with blt := { s.blt with outbox := aput s.blt.outbox f.source.toNat [{ fault := f, time := s.faultTime }] } }

theorem State.post_empty {s : State} {f : FaultSpec} (empty : agetD s.blt.outbox f.source.toNat [] = []) : s.post f = s.posted f := by
  unfold State.post
  dsimp only
  rw [if_neg (by rw [empty]; simp), empty]
  rfl

theorem State.posted_outbox (s : State) (f : FaultSpec) : agetD (s.posted f).blt.outbox f.source.toNat [] = [{ fault := f, time := s.faultTime }] :=
  agetD_aput_same _ _ _ _

theorem State.only_posted (s : State) (f : FaultSpec) : s.Only [.blt] (s.posted f) := by simp [State.Only, State.posted]

/-! ### An immediate shut-down -/

/-- A shut-down goes on in the same run state. -/
def State.Stays (s t : State) : Prop := t.sec.run = s.sec.run ∧ t.sec.shutdown.isSome = s.sec.shutdown.isSome

theorem State.Stays.trans {s t u : State} (a : s.Stays t) (b : t.Stays u) : s.Stays u := ⟨b.1.trans a.1, b.2.trans a.2⟩

theorem State.stays_of_sec {s t : State} (same : t.sec = s.sec) : s.Stays t := ⟨congrArg Sec.run same, congrArg (fun x => x.shutdown.isSome) same⟩

theorem State.stays_withSlot {s : State} (slot : Nat) {f : Sat → State} (each : ∀ x, s.Stays (f x)) : s.Stays (s.withSlot slot f) := by
  unfold State.withSlot
  split
  · exact each _
  · exact ⟨rfl, rfl⟩

theorem State.stays_surrenderLive (s : State) (slot : Nat) : s.Stays (s.surrenderLive slot) := by
  unfold State.surrenderLive State.surrender
  refine State.stays_withSlot slot fun x => ?_
  split
  · refine State.stays_withSlot slot fun y => ?_
    exact (State.stays_of_sec ((s.keeps_self _).surrenderFor (sub_self _) slot .partitionBusy).only.sec).trans ⟨rfl, Option.isSome_map⟩
  · exact ⟨rfl, rfl⟩

theorem State.stays_sendAbort (s : State) (slot : Nat) : s.Stays (s.sendAbort slot) :=
  State.stays_of_sec ((s.keeps_self _).sendAbort (sub_self _) slot).only.sec

theorem State.stays_surrenderAll (s : State) (abort : Bool) : s.Stays (s.surrenderAll abort) := by
  have step (l : List Nat) : ∀ a : State, a.Stays (l.foldl (fun (a : State) k =>
      a.withSlot k fun x => if abort && decide (x.state = .inTransit) then a.sendAbort k else a.surrenderLive k) a) := by
    induction l with
    | nil => exact fun a => ⟨rfl, rfl⟩
    | cons k l ih =>
      refine fun a => State.Stays.trans (State.stays_withSlot k fun x => ?_) (ih _)
      split
      · exact a.stays_sendAbort k
      · exact a.stays_surrenderLive k
  exact step _ s

theorem State.closePorts_fls (s : State) : s.closePorts.fls = (s.flsHold true).fls :=
  (((s.flsHold true).keeps_self [.bar, .lnk]).foldl (List.range 64) State.disablePort fun t p k => k.disablePort (sub_self _) p).only.fls

theorem State.closePorts_sec (s : State) : s.closePorts.sec = s.sec := ((s.keeps_self _).closePorts (sub_self _)).only.sec

theorem State.stopped_some {s : State} (going : s.sec.shutdown.isSome) (sound : s.sec.run ≠ .fault) :
    s.stopped.sec.run = .stopped ∧ s.stopped.sec.keys = [] ∧ s.stopped.fls = s.fls := by
  obtain ⟨d, shutdown⟩ := Option.isSome_iff_exists.mp going
  unfold State.stopped
  simp only [shutdown, sound, if_false]
  split
  · refine ⟨?_, ?_, ?_⟩
    · rw [(State.answer_only _ _ _ _ _).sec]
    · rw [(State.answer_only _ _ _ _ _).sec]
    · rw [(State.answer_only _ _ _ _ _).fls]
  · exact ⟨rfl, rfl, rfl⟩

/-- An immediate shut-down stops the device, erases its keys and holds the flash for good. -/
theorem State.shutdownNow_stops {s : State} (going : s.sec.shutdown.isSome) (sound : s.sec.run ≠ .fault) :
    s.shutdownNow.sec.run = .stopped ∧ s.shutdownNow.sec.keys = [] ∧ s.shutdownNow.fls.hold = true ∧ s.shutdownNow.fls.holdForever = true := by
  unfold State.shutdownNow
  generalize marked : s.modShutdown _ = s1
  have stays1 : s.Stays s1 := by rw [← marked]; exact ⟨rfl, Option.isSome_map⟩
  obtain ⟨run, on⟩ := stays1.trans (s1.stays_surrenderAll true)
  generalize s1.surrenderAll true = s2 at run on ⊢
  obtain ⟨stopped, keys, fls⟩ := State.stopped_some (s := s2.closePorts) (by rw [s2.closePorts_sec, on]; exact going) (by rw [s2.closePorts_sec, run]; exact sound)
  refine ⟨stopped, keys, ?_, ?_⟩
  · rw [fls, s2.closePorts_fls]; rfl
  · rw [fls, s2.closePorts_fls]
    exact Bool.or_true _

/-! ### PFAIL_N -/

theorem State.at_flag (s : State) (now off i : Nat) : (s.at_ now).flag off i = s.flag off i := rfl

theorem State.acceptPfail_plain {s : State} (kept : s.flag Reg.secCtrl 2 = false) :
    s.acceptPfail = ({ s with pwr := { s.pwr with pfail := true, pfailHold := true, pfailAt := s.stk.time } }.note 0x3F8 0xA03 0).flsHold false := by
  unfold State.acceptPfail State.pfailShutdown
  refine if_pos (Or.inl ?_)
  refine (State.flag_congr 2 ?_).trans kept
  exact State.reg_post _ _ (by decide)

theorem pfailAssert_runs {s : State} (now : Nat) (on : s.present = true) (idle : s.pwr.pfail = false) (settled : s.pwr.pfailHold = false) (heard : s.pwr.pfailIgnored = false) :
    exec (.pfailAssert now) s = .next (s.at_ now).acceptPfail := by
  have unfolded : exec (.pfailAssert now) s = execPfailAssert now s := rfl
  have on1 : (s.at_ now).present = true := on
  rw [unfolded, execPfailAssert]
  refine if_neg ?_
  rw [on1, show (s.at_ now).pwr = s.pwr from rfl, idle, settled, heard]
  decide

theorem pfailAssert_holds (s : State) (now : Nat) (on : s.present = true) (idle : s.pwr.pfail = false) (settled : s.pwr.pfailHold = false)
    (heard : s.pwr.pfailIgnored = false) (kept : s.flag Reg.secCtrl 2 = false) (empty : agetD s.blt.outbox 0x3F8 [] = []) :
    ∃ t, exec (.pfailAssert now) s = .next t ∧ t.stk = { s.stk with time := max s.stk.time now } ∧
      t.pwr = { s.pwr with pfail := true, pfailHold := true, pfailAt := max s.stk.time now } ∧ t.fls.hold = true ∧ t.fls.holdForever = s.fls.holdForever ∧
      t.fls.data = s.fls.data ∧ (∃ m, agetD t.blt.outbox 0x3F8 [] = [m] ∧ m.fault.kind = 0xA03 ∧ m.fault.level = 0 ∧ m.fault.addr = 0) ∧ s.Only [.stk, .pwr, .fls, .blt] t := by
  refine ⟨_, pfailAssert_runs now on idle settled heard, ?_⟩
  rw [State.acceptPfail_plain (s := s.at_ now) kept]
  generalize seen : ({ s.at_ now with pwr := { (s.at_ now).pwr with pfail := true, pfailHold := true, pfailAt := (s.at_ now).stk.time } } : State) = s1
  have empty1 : agetD s1.blt.outbox (fault 0x3F8 0xA03 0 0).source.toNat [] = [] := by rw [← seen]; exact empty
  rw [State.note, State.post_empty empty1]
  subst seen
  refine ⟨rfl, rfl, rfl, Bool.or_false _, rfl, ⟨_, State.posted_outbox _ _, rfl, rfl, rfl⟩, ?_⟩
  simp [State.Only, State.flsHold, State.posted, State.at_]

/-- The immediate shut-down that PFAIL_ACTION begins. -/
def State.quickStop (s : State) : Shutdown :=
  { reply := none, immediate := true, targets := [], deadlineMs := 0, startedAt := s.stk.time, nextTarget := 0, moved := 0, surrendered := 0, deadlinePassed := true }

theorem pfailAssert_stops (s : State) (now : Nat) (on : s.present = true) (idle : s.pwr.pfail = false) (settled : s.pwr.pfailHold = false)
    (heard : s.pwr.pfailIgnored = false) (stops : s.flag Reg.secCtrl 2 = true) (serves : s.sec.run = .service) (fresh : s.sec.shutdown = none) :
    ∃ t, exec (.pfailAssert now) s = .next t ∧ t.sec.run = .stopped ∧ t.sec.keys = [] ∧ t.fls.hold = true ∧ t.fls.holdForever = true := by
  refine ⟨_, pfailAssert_runs now on idle settled heard, ?_⟩
  rw [State.acceptPfail]
  dsimp only
  generalize seen : ({ s.at_ now with pwr := { (s.at_ now).pwr with pfail := true, pfailHold := true, pfailAt := (s.at_ now).stk.time } } : State) = s1
  have sec1 : s1.sec = s.sec := by rw [← seen]; rfl
  have stops1 : s1.flag Reg.secCtrl 2 = true := by rw [← seen]; exact stops
  generalize held : (s1.note 0x3F8 0xA03 0).flsHold false = s2
  have sec2 : s2.sec = s.sec := by
    rw [← held]
    exact (((s1.keeps_self _).note (sub_self _) _ _ _).only.sec).trans sec1
  have stops2 : s2.flag Reg.secCtrl 2 = true := by
    rw [← held]
    exact (State.flag_congr (s := s1) 2 (State.reg_post _ _ (by decide))).trans stops1
  have run : s2.pfailShutdown = s2.beginShutdown none true 0 [] := by
    unfold State.pfailShutdown
    rw [if_neg (by rw [stops2, sec2, serves]; decide), sec2, fresh]
  rw [run]
  have quick : s2.beginShutdown none true 0 [] = State.shutdownNow { s2 with sec := { s2.sec with shutdown := some (State.quickStop s2), run := if s2.sec.run = .fault then .fault else .stopping } } := by
    unfold State.beginShutdown
    exact if_pos rfl
  rw [quick]
  generalize began : ({ s2 with sec := { s2.sec with shutdown := some s2.quickStop, run := if s2.sec.run = .fault then .fault else .stopping } } : State) = s3
  refine State.shutdownNow_stops (by rw [← began]; rfl) ?_
  rw [← began, sec2]
  dsimp only
  rw [serves, if_neg (by decide)]
  decide

theorem pfailAssert_ignored (s : State) (now : Nat) (deaf : s.pwr.pfail = true ∨ s.pwr.pfailHold = true ∨ s.pwr.pfailIgnored = true) :
    exec (.pfailAssert now) s = .next { s with stk := { s.stk with time := max s.stk.time now } } := by
  have unfolded : exec (.pfailAssert now) s = execPfailAssert now s := rfl
  rw [unfolded, execPfailAssert]
  refine if_pos ?_
  obtain h | h | h := deaf <;> simp [State.at_, h]

theorem State.flsRelease_forever {s : State} (held : s.fls.holdForever = true) : s.flsRelease = s := if_pos (Or.inl held)

theorem State.flsRelease_frees {s : State} (free : s.fls.holdForever = false) (idle : s.fls.formatting = none) :
    s.flsRelease = { s with fls := { s.fls with hold := false } } := by
  unfold State.flsRelease
  cases held : s.fls.hold with
  | false =>
    rw [if_pos (by simp)]
    have same : ({ s.fls with hold := false } : Fls) = s.fls := by rw [← held]
    rw [same]
  | true =>
    rw [if_neg (by simp [free])]
    simp only [idle]

/-! ### The releases and a stuck input -/

theorem pfailRelease_frees (s : State) (active : s.pwr.pfail = true) (settled : s.pwr.pfailHold = false) (heard : s.pwr.pfailIgnored = false) (idle : s.fls.formatting = none) :
    (s.fls.holdForever = false → exec .pfailRelease s = .next { s with pwr := { s.pwr with pfail := false }, fls := { s.fls with hold := false } }) ∧
    (s.fls.holdForever = true → exec .pfailRelease s = .next { s with pwr := { s.pwr with pfail := false } }) := by
  have unfolded : exec .pfailRelease s = execPfailRelease s := rfl
  have run : exec .pfailRelease s = .next s.releasePfail := by
    rw [unfolded, execPfailRelease, if_pos (by rw [active, settled, heard]; rfl)]
  rw [run]
  exact ⟨fun free => congrArg Host.Outcome.next (State.flsRelease_frees free idle), fun held => congrArg Host.Outcome.next (State.flsRelease_forever held)⟩

theorem pfailRelease_waits (s : State) (settling : s.pwr.pfailHold = true) : exec .pfailRelease s = .next s := by
  have unfolded : exec .pfailRelease s = execPfailRelease s := rfl
  rw [unfolded, execPfailRelease, if_neg (by rw [settling]; simp)]

/-- The state in which the hold-off of PFAIL_N has ended. -/
def State.heldOff (s : State) (now : Nat) : State := { s.at_ now with pwr := { (s.at_ now).pwr with pfailHold := false } }

theorem State.acceptPfail_state {s : State} (kept : s.flag Reg.secCtrl 2 = false) :
    s.acceptPfail.pwr = { s.pwr with pfail := true, pfailHold := true, pfailAt := s.stk.time } ∧ s.acceptPfail.fls = (s.flsHold false).fls := by
  rw [State.acceptPfail_plain kept]
  generalize seen : ({ s with pwr := { s.pwr with pfail := true, pfailHold := true, pfailAt := s.stk.time } } : State) = s1
  have noted : s1.Only [.bar, .blt] (s1.note 0x3F8 0xA03 0) := ((s1.keeps_self _).note (sub_self _) _ _ _).only
  refine ⟨noted.pwr.trans (by rw [← seen]), ?_⟩
  rw [State.flsHold, noted.fls, ← seen]
  rfl

theorem pfailHoldoffEnd_ends (s : State) (again : Bool) (now : Nat) (settling : s.pwr.pfailHold = true) (past : s.pwr.pfailAt + 10000000 ≤ max s.stk.time now)
    (idle : s.fls.formatting = none) :
    (exec (.pfailHoldoffEnd true false now) s = .next { s with stk := { s.stk with time := max s.stk.time now }, pwr := { s.pwr with pfailHold := false } }) ∧
    (s.flag Reg.secCtrl 2 = false → ∃ t, exec (.pfailHoldoffEnd true true now) s = .next t ∧ t.pwr.pfail = true ∧ t.pwr.pfailHold = true ∧ t.pwr.pfailAt = max s.stk.time now ∧
      t.fls.hold = true) ∧
    (∃ t, exec (.pfailHoldoffEnd false again now) s = .next t ∧ t.pwr.pfail = false ∧ t.pwr.pfailHold = false ∧ (s.fls.holdForever = false → t.fls.hold = false)) := by
  have unfolded (a b : Bool) : exec (.pfailHoldoffEnd a b now) s = execPfailHoldoffEnd a b now s := rfl
  have ended : ¬ (!(s.at_ now).pwr.pfailHold || decide ((s.at_ now).stk.time < (s.at_ now).pwr.pfailAt + 10000000)) = true := by
    have at_ : (s.at_ now).stk.time = max s.stk.time now := rfl
    have from_ : (s.at_ now).pwr.pfailAt = s.pwr.pfailAt := rfl
    rw [show (s.at_ now).pwr.pfailHold = true from settling, decide_eq_false (by omega)]
    decide
  have run (a b : Bool) : exec (.pfailHoldoffEnd a b now) s = if a then .next (if b then (s.heldOff now).acceptPfail else s.heldOff now) else .next (s.heldOff now).releasePfail := by
    rw [unfolded, execPfailHoldoffEnd]
    exact if_neg ended
  refine ⟨run true false, fun kept => ⟨_, run true true, ?_⟩, ⟨_, run false again, ?_⟩⟩
  · obtain ⟨pwr, fls⟩ := State.acceptPfail_state (s := s.heldOff now) kept
    rw [if_pos rfl, pwr, fls]
    exact ⟨rfl, rfl, rfl, rfl⟩
  · rw [State.releasePfail]
    generalize seen : ({ s.heldOff now with pwr := { (s.heldOff now).pwr with pfail := false } } : State) = s1
    have idle1 : s1.fls.formatting = none := by rw [← seen]; exact idle
    cases held : s1.fls.holdForever with
    | true =>
      rw [State.flsRelease_forever held, ← seen]
      refine ⟨rfl, rfl, fun free => ?_⟩
      have held0 : s.fls.holdForever = true := by rw [← seen] at held; exact held
      rw [held0] at free
      cases free
    | false =>
      rw [State.flsRelease_frees held idle1, ← seen]
      exact ⟨rfl, rfl, fun _ => rfl⟩

theorem pfailStuck_ignores (s : State) (active : s.pwr.pfail = true) (settled : s.pwr.pfailHold = false) (heard : s.pwr.pfailIgnored = false) (idle : s.fls.formatting = none)
    (empty : agetD s.blt.outbox 0x3F8 [] = []) :
    ∃ t, exec .pfailStuck s = .next t ∧ t.pwr = { s.pwr with pfailIgnored := true } ∧ (s.fls.holdForever = false → t.fls = { s.fls with hold := false }) ∧
      (∃ m, agetD t.blt.outbox 0x3F8 [] = [m] ∧ m.fault.kind = 0xA01 ∧ m.fault.level = 2) ∧ s.Only [.pwr, .fls, .blt] t := by
  have unfolded : exec .pfailStuck s = execPfailStuck s := rfl
  generalize seen : ({ s with pwr := { s.pwr with pfailIgnored := true } } : State) = s1
  have run : exec .pfailStuck s = .next (s1.posted (fault 0x3F8 0xA01 2 0)).flsRelease := by
    have empty1 : agetD s1.blt.outbox (fault 0x3F8 0xA01 2 0).source.toNat [] = [] := by rw [← seen]; exact empty
    rw [unfolded, execPfailStuck, if_pos (by rw [active, settled, heard]; rfl), seen, State.post_empty empty1]
  have idle2 : (s1.posted (fault 0x3F8 0xA01 2 0)).fls.formatting = none := by rw [← seen]; exact idle
  refine ⟨_, run, ?_⟩
  cases held : (s1.posted (fault 0x3F8 0xA01 2 0)).fls.holdForever with
  | true =>
    rw [State.flsRelease_forever held, ← seen]
    refine ⟨rfl, fun free => ?_, ⟨_, State.posted_outbox _ _, rfl, rfl⟩, by simp [State.Only, State.posted]⟩
    have held0 : s.fls.holdForever = true := by rw [← seen] at held; exact held
    rw [held0] at free
    cases free
  | false =>
    rw [State.flsRelease_frees held idle2, ← seen]
    exact ⟨rfl, fun _ => rfl, ⟨_, State.posted_outbox _ _, rfl, rfl⟩, by simp [State.Only, State.posted]⟩

theorem pfailRearm_hears (s : State) (deaf : s.pwr.pfailIgnored = true) :
    exec .pfailRearm s = .next { s with pwr := { s.pwr with pfailIgnored := false, pfail := false } } := by
  have unfolded : exec .pfailRearm s = execPfailRearm s := rfl
  rw [unfolded, execPfailRearm, if_pos deaf]

/-! ### THERM_N -/

theorem State.setStep_step (s : State) (k : Nat) : (s.setStep k).pwr = { s.pwr with step := min 7 (max s.pwr.floor k) } := by
  unfold State.setStep
  dsimp only
  split
  · next same => rw [same]
  · split
    · exact (State.note_pwr _ _ _ _).trans rfl
    · rfl

theorem thermAssert_throttles (s : State) (now : Nat) (on : s.present = true) (idle : s.pwr.therm = false) (settled : s.pwr.thermHold = false) :
    ∃ t, exec (.thermAssert now) s = .next t ∧ t.pwr = { s.pwr with therm := true, thermHold := true, thermAt := max s.stk.time now, step := t.pwr.step } ∧
      4 ≤ t.pwr.step ∧ (s.pwr.step < 8 → s.pwr.step ≤ t.pwr.step) ∧ s.Only [.bar, .stk, .blt, .pwr] t := by
  have unfolded : exec (.thermAssert now) s = execThermAssert now s := rfl
  generalize seen : ({ s.at_ now with pwr := { (s.at_ now).pwr with therm := true, thermHold := true, thermAt := (s.at_ now).stk.time } } : State) = s1
  have run : exec (.thermAssert now) s = .next ((s1.note 0x3F8 0xA03 1).setStep s1.pwr.step) := by
    have on1 : (s.at_ now).present = true := on
    have open_ : (s.at_ now).thermHeld = false := by rw [State.thermHeld, show (s.at_ now).pwr = s.pwr from rfl, settled]; rfl
    rw [unfolded, execThermAssert]
    refine (if_neg ?_).trans (by rw [← seen])
    rw [on1, open_, show (s.at_ now).pwr = s.pwr from rfl, idle]
    decide
  have noted : s1.Only [.bar, .blt] (s1.note 0x3F8 0xA03 1) := ((s1.keeps_self _).note (sub_self _) _ _ _).only
  have pwr : ((s1.note 0x3F8 0xA03 1).setStep s1.pwr.step).pwr = { s1.pwr with step := min 7 (max s1.pwr.floor s1.pwr.step) } := by
    rw [State.setStep_step, noted.pwr]
  have floor : s1.pwr.floor = 4 := by rw [← seen]; rfl
  have step : s1.pwr.step = s.pwr.step := by rw [← seen]; rfl
  have changed : s.Only [.bar, .stk, .blt, .pwr] s1 := by rw [← seen]; simp [State.Only, State.at_]
  refine ⟨_, run, ?_, ?_, fun low => ?_, ?_⟩
  · rw [pwr, ← seen]; rfl
  · rw [pwr, floor]
    exact Nat.le_min.mpr ⟨by decide, Nat.le_max_left _ _⟩
  · rw [pwr, floor, step]
    exact Nat.le_min.mpr ⟨Nat.le_of_lt_succ low, Nat.le_max_right _ _⟩
  · exact changed.trans (((s1.keeps_self [.bar, .stk, .blt, .pwr]).note (by decide) _ _ _).setStep (by decide) _).only

theorem thermRelease_ends (s : State) (now : Nat) (active : s.pwr.therm = true) (settled : s.pwr.thermHold = false ∨ s.pwr.thermAt + 10000000 ≤ max s.stk.time now) :
    exec (.thermRelease now) s = .next { s with stk := { s.stk with time := max s.stk.time now }, pwr := { s.pwr with therm := false, thermHold := false } } := by
  have unfolded : exec (.thermRelease now) s = execThermRelease now s := rfl
  rw [unfolded, execThermRelease]
  refine if_neg ?_
  have open_ : (s.at_ now).thermHeld = false := by
    rw [State.thermHeld, show (s.at_ now).pwr = s.pwr from rfl, show (s.at_ now).stk.time = max s.stk.time now from rfl]
    obtain none_ | past := settled
    · rw [none_]; rfl
    · rw [decide_eq_false (Nat.not_lt.mpr past), Bool.and_false]
  rw [open_, show (s.at_ now).pwr.therm = true from active]
  decide

/-! ### Rejected pulses -/

theorem PinIn.index_lt (pin : PinIn) : pin.index < 3 := by cases pin <;> decide

theorem inputGlitch_counts (s : State) (pin : PinIn) (now : Nat) (on : s.present = true) :
    ∃ t, exec (.inputGlitch pin now) s = .next t ∧
      t.fld Reg.pwrGlitch (8 * pin.index + 7) (8 * pin.index) = min 255 (s.fld Reg.pwrGlitch (8 * pin.index + 7) (8 * pin.index) + 1) ∧
      (∀ i, i < 3 → i ≠ pin.index → t.fld Reg.pwrGlitch (8 * i + 7) (8 * i) = s.fld Reg.pwrGlitch (8 * i + 7) (8 * i)) ∧
      (s.fld Reg.bltCfg 31 24 = 0 → t.blt = s.blt) ∧ t.pwr.step = s.pwr.step ∧ s.Only [.bar, .stk, .blt, .pwr] t := by
  have unfolded : exec (.inputGlitch pin now) s = execInputGlitch pin now s := rfl
  have running : ¬ (!(s.at_ now).present) = true := by rw [show (s.at_ now).present = true from on]; decide
  rw [unfolded, execInputGlitch]
  extract_lets i lo second g n said limit say src s2 s3
  refine ⟨_, if_neg running, ?_⟩
  have counted : s3.fld Reg.pwrGlitch (8 * pin.index + 7) (8 * pin.index) = min 255 (s.fld Reg.pwrGlitch (8 * pin.index + 7) (8 * pin.index) + 1) := by
    refine State.fld_setFld_same s2 Reg.pwrGlitch (by have := pin.index_lt; omega) ?_
    have w : 8 * pin.index + 7 + 1 - 8 * pin.index = 8 := by omega
    rw [w, satAdd]
    omega
  have apart (j : Nat) (low : j < 3) (other : j ≠ pin.index) : s3.fld Reg.pwrGlitch (8 * j + 7) (8 * j) = s.fld Reg.pwrGlitch (8 * j + 7) (8 * j) :=
    State.fld_setFld_apart s2 Reg.pwrGlitch _ (by omega) (by omega) (by omega)
  have said_ (off hi lo : Nat) (ne : off ≠ Reg.bltCntDrop) : (if say = true then s3.note 0x3F8 0xA02 i else s3).fld off hi lo = s3.fld off hi lo := by
    split
    · rw [State.fld, State.note, State.reg_post _ _ ne, State.fld]
    · rfl
  have only3 : s.Only [.bar, .stk, .blt, .pwr] s3 := by simp [State.Only, s3, s2, State.at_, State.setFld, State.setReg]
  refine ⟨(said_ _ _ _ (by decide)).trans counted, fun j low other => (said_ _ _ _ (by decide)).trans (apart j low other), fun off => ?_, ?_, ?_⟩
  · have quiet : say = false := by
      have zero : limit = 0 := off
      simp only [say, zero]
      simp
    rw [quiet]
    rfl
  · split
    · exact (congrArg Pwr.step (State.note_pwr s3 _ _ _)).trans rfl
    · rfl
  · split
    · exact only3.trans ((s3.keeps_self [.bar, .stk, .blt, .pwr]).note (by decide) _ _ _).only
    · exact only3

/-- Settles O57: PFAIL_N, THERM_N and rejected pulses. -/
theorem controlInputs : Obligations.ControlInputs :=
  ⟨pfailAssert_holds, pfailAssert_stops, pfailAssert_ignored, pfailRelease_frees, pfailRelease_waits, pfailHoldoffEnd_ends, pfailStuck_ignores, pfailRearm_hears,
    thermAssert_throttles, thermRelease_ends, fun s pin now on _ => inputGlitch_counts s pin now on⟩

end Sys2Proof.Machine
end

section
/-!
PROOFS. Throttle and regulators (O58): readings of Tj and power, the step, the core voltage and the PMBus polls.
-/
namespace Sys2Proof.Machine

/-! ### Register fields that a reading leaves -/

theorem State.fld_congr {s t : State} {off : Nat} (hi lo : Nat) (same : t.reg off = s.reg off) : t.fld off hi lo = s.fld off hi lo := by
  rw [State.fld, State.fld, same]

/-! ### A reading of Tj (R535, R536) -/

/-- What a reading below the trip writes of the power block: the reading, the causes, and since when the device is over or well below its limits. -/
def State.readPwr (s : State) (tj now : Nat) : Pwr :=
  let t := max s.stk.time now
  let target := s.fld Reg.pwrCtrl 7 0
  let cap := s.fld Reg.pwrCap 10 0
  let watts := s.pwr.package
  { s.pwr with
    tj := tj, watts := watts, causeTj := decide (target < tj), causePower := decide (cap < watts)
    overFrom := if decide (target < tj) || decide (cap < watts) then some (s.pwr.overFrom.getD t) else none
    coolFrom := if decide (tj + 3 < target ∧ watts * 100 < cap * 95) then some (s.pwr.coolFrom.getD t) else none }

/-- The state after a reading, before the step moves. -/
def State.metered (s : State) (tj now : Nat) : State :=
  let s2 : State := { s.at_ now with pwr := s.readPwr tj now }
  s2.setFld Reg.pwrTj 15 8 (max (s2.fld Reg.pwrTj 15 8) (min 255 tj))

theorem State.metered_pwr (s : State) (tj now : Nat) : (s.metered tj now).pwr = s.readPwr tj now := rfl

theorem State.metered_time (s : State) (tj now : Nat) : (s.metered tj now).stk.time = max s.stk.time now := rfl

theorem State.metered_running (s : State) (tj now : Nat) : (s.metered tj now).stk.running = s.stk.running := rfl

theorem State.metered_only (s : State) (tj now : Nat) : s.Only [.stk, .bar, .pwr] (s.metered tj now) := by
  simp [State.Only, State.metered, State.at_, State.setFld, State.setReg]

theorem State.metered_avs (s : State) (tj now hi lo : Nat) : (s.metered tj now).fld Reg.pwrAvs hi lo = s.fld Reg.pwrAvs hi lo :=
  State.fld_congr hi lo ((State.reg_setFld_ne _ _ _ _ (by decide)).trans rfl)

/-- The step is due to fall. -/
def State.falls (s : State) : State := { s with pwr := { s.pwr with fallDue := true, coolFrom := some s.stk.time } }

/-- What a reading below the trip does with the step. -/
def State.afterReading (s : State) (tj : Nat) : State :=
  if 105 ≤ tj then s.raiseStep 7
  else
    match s.pwr.overFrom, s.pwr.coolFrom with
    | some f, _ => if f + 100000 ≤ s.stk.time then s.raiseStep (s.pwr.step + 1) else s
    | none, some f =>
      if f + 1000000 ≤ s.stk.time ∧ s.pwr.floor < s.pwr.step then s.falls.fallNow else s
    | none, none => s

theorem throttleEvaluate_reads {s : State} {tj : Nat} (now : Nat) (on : s.present = true) (low : tj < 115) :
    exec (.throttleEvaluate tj now) s = .next ((s.metered tj now).afterReading tj) := by
  have unfolded : exec (.throttleEvaluate tj now) s = execThrottleEvaluate tj now s := rfl
  rw [unfolded, execThrottleEvaluate, if_neg (by rw [on]; decide), if_neg (Nat.not_le.mpr low), State.afterReading]
  extract_lets s1 t watts target cap overT overP calm src s2 s3 src2 s4
  have due : s4 = s3.falls := rfl
  rw [due]
  have same : s3 = s.metered tj now := rfl
  rw [same]
  have time : t = (s.metered tj now).stk.time := rfl
  rw [time]
  clear_value s3
  subst same
  generalize s.metered tj now = m
  split
  · rfl
  · cases since : m.pwr.overFrom with
    | some f =>
      dsimp only
      split <;> rfl
    | none =>
      cases m.pwr.coolFrom with
      | some f =>
        dsimp only
        split <;> rfl
      | none => rfl

/-- The power block after the step moved to `k` or its bounds. -/
theorem State.raiseStep_pwr (s : State) (k : Nat) :
    (s.raiseStep k).pwr = { s.pwr with fallDue := false, coolFrom := none, overFrom := some s.stk.time, step := min 7 (max s.pwr.floor k) } :=
  (State.setStep_step _ k).trans rfl

theorem State.raiseStep_only (s : State) (k : Nat) : s.Only [.stk, .bar, .blt, .pwr] (s.raiseStep k) :=
  ((s.keeps_self _).raiseStep (by decide) k).only

theorem State.readPwr_floor (s : State) (tj now : Nat) : (s.readPwr tj now).floor = s.pwr.floor := rfl

theorem throttleEvaluate_trips (s : State) (tj now : Nat) (on : s.present = true) (hot : 115 ≤ tj) :
    ∃ t, exec (.throttleEvaluate tj now) s = .next t ∧ t.pwr.tripped = true ∧ t.sec.run = .boot ∧ t.fls.data = s.fls.data ∧ t.host.mem = s.host.mem ∧
      State.reset.Only [.bar, .board, .fls, .sec, .host, .pwr, .out, .freeCtr] { t with pending := [] } := by
  have unfolded : exec (.throttleEvaluate tj now) s = execThrottleEvaluate tj now s := rfl
  refine ⟨s.trip, ?_, rfl, rfl, rfl, rfl, ?_⟩
  · rw [unfolded, execThrottleEvaluate, if_neg (by rw [on]; decide), if_pos hot]
  · simp [State.Only, State.trip, State.afterReset, State.reset]

theorem throttleEvaluate_hot (s : State) (tj now : Nat) (on : s.present = true) (hot : 105 ≤ tj) (low : tj < 115) :
    ∃ t, exec (.throttleEvaluate tj now) s = .next t ∧ t.pwr.step = 7 ∧ t.pwr.tj = tj ∧ t.pwr.watts = s.pwr.package ∧ s.Only [.stk, .bar, .blt, .pwr] t := by
  refine ⟨_, throttleEvaluate_reads now on low, ?_⟩
  rw [State.afterReading, if_pos hot, State.raiseStep_pwr, State.metered_pwr]
  refine ⟨Nat.min_eq_left (Nat.le_max_right _ _), rfl, rfl, ?_⟩
  exact ((s.metered_only tj now).mono (by decide)).trans ((s.metered tj now).raiseStep_only 7)

section
variable {s : State} {tj now : Nat} (on : s.present = true) (cool : tj < 105)
include on cool

/-- Below 105 °C the step follows from since when the device is over its limits, or well below them. -/
theorem throttleEvaluate_runs : exec (.throttleEvaluate tj now) s = .next ((s.metered tj now).afterReading tj) :=
  throttleEvaluate_reads now on (Nat.lt_trans cool (by decide))

theorem throttleEvaluate_over {f : Nat} (since : (s.readPwr tj now).overFrom = some f) :
    exec (.throttleEvaluate tj now) s =
      .next (if f + 100000 ≤ max s.stk.time now then (s.metered tj now).raiseStep (s.pwr.step + 1) else s.metered tj now) := by
  rw [throttleEvaluate_runs on cool, State.afterReading, if_neg (Nat.not_le.mpr cool)]
  simp only [State.metered_pwr, since, State.metered_time]
  rfl

theorem throttleEvaluate_calm {f : Nat} (level : (s.readPwr tj now).overFrom = none) (since : (s.readPwr tj now).coolFrom = some f) :
    exec (.throttleEvaluate tj now) s =
      .next (if f + 1000000 ≤ max s.stk.time now ∧ s.pwr.floor < s.pwr.step then (s.metered tj now).falls.fallNow else s.metered tj now) := by
  rw [throttleEvaluate_runs on cool, State.afterReading, if_neg (Nat.not_le.mpr cool)]
  simp only [State.metered_pwr, level, since, State.metered_time]
  rfl

theorem throttleEvaluate_between (level : (s.readPwr tj now).overFrom = none) (quiet : (s.readPwr tj now).coolFrom = none) :
    exec (.throttleEvaluate tj now) s = .next (s.metered tj now) := by
  rw [throttleEvaluate_runs on cool, State.afterReading, if_neg (Nat.not_le.mpr cool)]
  simp only [State.metered_pwr, level, quiet]

end

/-! ### Over the limits -/

theorem throttleEvaluate_rises (s : State) (tj now : Nat) (on : s.present = true) (cool : tj < 105) (past : s.fld Reg.pwrCtrl 7 0 < tj ∨ s.fld Reg.pwrCap 10 0 < s.pwr.package) :
    (∀ f, s.pwr.overFrom = some f → f + 100000 ≤ max s.stk.time now → s.pwr.step ≤ 7 → s.pwr.floor ≤ s.pwr.step →
      ∃ t, exec (.throttleEvaluate tj now) s = .next t ∧ t.pwr.step = min 7 (s.pwr.step + 1) ∧ t.pwr.overFrom = some (max s.stk.time now) ∧ t.pwr.fallDue = false ∧
        s.Only [.stk, .bar, .blt, .pwr] t) ∧
    (∀ f, s.pwr.overFrom = some f → max s.stk.time now < f + 100000 → ∃ t, exec (.throttleEvaluate tj now) s = .next t ∧ t.pwr.step = s.pwr.step ∧ t.pwr.overFrom = some f) ∧
    (s.pwr.overFrom = none → ∃ t, exec (.throttleEvaluate tj now) s = .next t ∧ t.pwr.step = s.pwr.step ∧ t.pwr.overFrom = some (max s.stk.time now) ∧
      t.pwr.causeTj = decide (s.fld Reg.pwrCtrl 7 0 < tj) ∧ t.pwr.causePower = decide (s.fld Reg.pwrCap 10 0 < s.pwr.package) ∧ s.Only [.stk, .bar, .pwr] t) := by
  have level : (s.readPwr tj now).overFrom = some (s.pwr.overFrom.getD (max s.stk.time now)) := by
    refine if_pos ?_
    rw [Bool.or_eq_true]
    exact past.imp decide_eq_true decide_eq_true
  have run := throttleEvaluate_over (s := s) (now := now) on cool level
  refine ⟨fun f since long low held => ?_, fun f since short => ?_, fun none_ => ?_⟩
  · rw [since, Option.getD_some, if_pos long] at run
    refine ⟨_, run, ?_⟩
    rw [State.raiseStep_pwr]
    refine ⟨?_, rfl, rfl, ((s.metered_only tj now).mono (by decide)).trans ((s.metered tj now).raiseStep_only _)⟩
    rw [State.metered_pwr, State.readPwr_floor, Nat.max_eq_right (Nat.le_succ_of_le held)]
  · rw [since, Option.getD_some, if_neg (Nat.not_le.mpr short)] at run
    refine ⟨_, run, rfl, ?_⟩
    rw [State.metered_pwr, level, since]
    rfl
  · rw [none_, Option.getD_none, if_neg (by omega)] at run
    refine ⟨_, run, rfl, ?_, rfl, rfl, s.metered_only tj now⟩
    rw [State.metered_pwr, level, none_]
    rfl

/-! ### Below the limits -/

theorem throttleEvaluate_level (s : State) (tj now : Nat) (on : s.present = true) (cool : tj < 105) (below : tj ≤ s.fld Reg.pwrCtrl 7 0)
    (under : s.pwr.package ≤ s.fld Reg.pwrCap 10 0) (near : s.fld Reg.pwrCtrl 7 0 ≤ tj + 3 ∨ s.fld Reg.pwrCap 10 0 * 95 ≤ s.pwr.package * 100) :
    ∃ t, exec (.throttleEvaluate tj now) s = .next t ∧ t.pwr = { s.pwr with tj := tj, watts := s.pwr.package, causeTj := false, causePower := false, overFrom := none, coolFrom := none } ∧
      s.Only [.stk, .bar, .pwr] t := by
  have pwr : s.readPwr tj now = { s.pwr with tj := tj, watts := s.pwr.package, causeTj := false, causePower := false, overFrom := none, coolFrom := none } := by
    have far : ¬ (tj + 3 < s.fld Reg.pwrCtrl 7 0 ∧ s.pwr.package * 100 < s.fld Reg.pwrCap 10 0 * 95) := by omega
    unfold State.readPwr
    dsimp only
    rw [decide_eq_false (Nat.not_lt.mpr below), decide_eq_false (Nat.not_lt.mpr under), decide_eq_false far]
    rfl
  exact ⟨_, throttleEvaluate_between on cool (by rw [pwr]) (by rw [pwr]), pwr, s.metered_only tj now⟩

/-- A core voltage that stands lets the step fall. -/
theorem State.fallStep_falls {s : State} (due : s.pwr.fallDue = true) (stands : s.coreGoal ≤ s.pwr.avsTarget) (low : s.pwr.step ≤ 7) (free : s.pwr.floor ≤ s.pwr.step - 1) :
    s.fallStep.pwr = { s.pwr with fallDue := false, step := s.pwr.step - 1 } := by
  unfold State.fallStep
  rw [due, decide_eq_true stands, if_pos (by rfl), State.setStep_step]
  have step : min 7 (max s.pwr.floor (s.pwr.step - 1)) = s.pwr.step - 1 := by omega
  exact congrArg (fun k => { s.pwr with fallDue := false, step := k }) step

theorem State.fallStep_waits {s : State} (away : s.pwr.avsTarget < s.coreGoal) : s.fallStep = s := by
  unfold State.fallStep
  rw [decide_eq_false (Nat.not_le.mpr away), Bool.and_false]
  rfl

theorem State.fallNow_running {s : State} (strokes : s.stk.running = true) : s.fallNow = s := if_pos strokes

theorem State.fallNow_stopped {s : State} (still : s.stk.running = false) : s.fallNow = s.fallStep := if_neg (by rw [still]; decide)

/-- The core voltage that the step that is due to come needs, within its limits. -/
theorem State.coreGoal_due {s : State} (due : s.pwr.fallDue = true) :
    s.coreGoal = clamp (s.fld Reg.pwrAvs 21 12) (s.fld Reg.pwrAvs 31 22) (Config.coreVoltage (s.pwr.step - 1)) := by
  rw [State.coreGoal, if_pos due]

theorem State.metered_goal (s : State) (tj now : Nat) :
    (s.metered tj now).falls.coreGoal = clamp (s.fld Reg.pwrAvs 21 12) (s.fld Reg.pwrAvs 31 22) (Config.coreVoltage (s.pwr.step - 1)) := by
  rw [State.coreGoal_due rfl, ← s.metered_avs tj now 21 12, ← s.metered_avs tj now 31 22]
  rfl

theorem throttleEvaluate_falls (s : State) (tj now : Nat) (on : s.present = true) (cool : tj < 105) (far : tj + 3 < s.fld Reg.pwrCtrl 7 0)
    (light : s.pwr.package * 100 < s.fld Reg.pwrCap 10 0 * 95) :
    (s.pwr.coolFrom = none → ∃ t, exec (.throttleEvaluate tj now) s = .next t ∧ t.pwr.step = s.pwr.step ∧ t.pwr.coolFrom = some (max s.stk.time now) ∧ t.pwr.overFrom = none) ∧
    (∀ f, s.pwr.coolFrom = some f → f + 1000000 ≤ max s.stk.time now → s.pwr.floor < s.pwr.step → s.pwr.step ≤ 7 →
      (s.stk.running = true → ∃ t, exec (.throttleEvaluate tj now) s = .next t ∧ t.pwr.step = s.pwr.step ∧ t.pwr.fallDue = true ∧ t.pwr.coolFrom = some (max s.stk.time now) ∧
        s.Only [.stk, .bar, .pwr] t) ∧
      (s.stk.running = false → clamp (s.fld Reg.pwrAvs 21 12) (s.fld Reg.pwrAvs 31 22) (Config.coreVoltage (s.pwr.step - 1)) ≤ s.pwr.avsTarget →
        ∃ t, exec (.throttleEvaluate tj now) s = .next t ∧ t.pwr.step = s.pwr.step - 1 ∧ t.pwr.fallDue = false ∧ s.Only [.stk, .bar, .blt, .pwr] t) ∧
      (s.stk.running = false → s.pwr.avsTarget < clamp (s.fld Reg.pwrAvs 21 12) (s.fld Reg.pwrAvs 31 22) (Config.coreVoltage (s.pwr.step - 1)) →
        ∃ t, exec (.throttleEvaluate tj now) s = .next t ∧ t.pwr.step = s.pwr.step ∧ t.pwr.fallDue = true)) := by
  have level : (s.readPwr tj now).overFrom = none := by
    refine if_neg ?_
    rw [decide_eq_false (by omega), decide_eq_false (by omega)]
    decide
  have calm : (s.readPwr tj now).coolFrom = some (s.pwr.coolFrom.getD (max s.stk.time now)) := if_pos (decide_eq_true ⟨far, light⟩)
  have run := throttleEvaluate_calm on cool level calm
  refine ⟨fun none_ => ?_, fun f since long above low => ?_⟩
  · rw [none_, Option.getD_none, if_neg (by omega)] at run
    refine ⟨_, run, rfl, ?_, level⟩
    rw [State.metered_pwr, calm, none_]
    rfl
  · rw [since, Option.getD_some, if_pos ⟨long, above⟩] at run
    have only : s.Only [.stk, .bar, .pwr] (s.metered tj now).falls := by simp [State.Only, State.falls, State.metered, State.at_, State.setFld, State.setReg]
    refine ⟨fun strokes => ?_, fun still stands => ?_, fun still away => ?_⟩
    · exact ⟨_, run.trans (congrArg Host.Outcome.next (State.fallNow_running strokes)), rfl, rfl, rfl, only⟩
    · refine ⟨_, run.trans (congrArg Host.Outcome.next (State.fallNow_stopped still)), ?_⟩
      rw [State.fallStep_falls (s := (s.metered tj now).falls) rfl (by rw [s.metered_goal]; exact stands) low (Nat.le_pred_of_lt above)]
      exact ⟨rfl, rfl, (only.mono (by decide)).trans (((s.metered tj now).falls.keeps_self [.stk, .bar, .blt, .pwr]).fallStep (by decide)).only⟩
    · refine ⟨_, run.trans (congrArg Host.Outcome.next ((State.fallNow_stopped (s := (s.metered tj now).falls) still).trans (State.fallStep_waits ?_))), rfl, rfl⟩
      rw [s.metered_goal]
      exact away

/-! ### The core voltage (R530) -/

theorem clamp_between {lo hi v : Nat} (order : lo ≤ hi) : lo ≤ clamp lo hi v ∧ clamp lo hi v ≤ hi := by
  unfold clamp
  split
  · exact ⟨Nat.le_refl _, order⟩
  · split
    · exact ⟨order, Nat.le_refl _⟩
    · omega

/-- A target within its limits that moves towards a goal within them stays within them. -/
theorem clamp_towards {lo hi at_ d goal : Nat} (above : lo ≤ at_) (below : at_ ≤ hi) (inside : lo ≤ goal ∧ goal ≤ hi) :
    lo ≤ clamp (at_ - d) (at_ + d) goal ∧ clamp (at_ - d) (at_ + d) goal ≤ hi := by
  unfold clamp
  split
  · omega
  · split <;> omega

/-- The state after a write of the core voltage that the regulator acknowledged. -/
def State.voltageSet (s : State) : State :=
  { s with pwr := { s.pwr with avsTarget := clamp (s.pwr.avsTarget - 10) (s.pwr.avsTarget + 10) s.coreGoal, avsFails := 0 },
           out := s.out ++ [.avs (clamp (s.pwr.avsTarget - 10) (s.pwr.avsTarget + 10) s.coreGoal)] }

theorem State.fallStep_target (s : State) : s.fallStep.pwr.avsTarget = s.pwr.avsTarget ∧ s.fallStep.pwr.avsFails = s.pwr.avsFails := by
  unfold State.fallStep
  split
  · rw [State.setStep_step]
    exact ⟨rfl, rfl⟩
  · exact ⟨rfl, rfl⟩

theorem State.fallNow_target (s : State) : s.fallNow.pwr.avsTarget = s.pwr.avsTarget ∧ s.fallNow.pwr.avsFails = s.pwr.avsFails := by
  unfold State.fallNow
  split
  · exact ⟨rfl, rfl⟩
  · exact s.fallStep_target

theorem State.fallNow_same {s : State} (stays : s.pwr.fallDue = false ∨ s.stk.running = true) : s.fallNow = s := by
  obtain idle | strokes := stays
  · unfold State.fallNow State.fallStep
    rw [idle, Bool.false_and]
    exact ite_self _
  · exact State.fallNow_running strokes

theorem avsWrite_sets {s : State} (on : s.present = true) (booted : s.sec.run ≠ .boot) (well : s.sec.run ≠ .recovery) :
    exec (.avsWrite true) s = .next s.voltageSet.fallNow := by
  have unfolded : exec (.avsWrite true) s = execAvsWrite true s := rfl
  rw [unfolded, execAvsWrite, if_neg (by simp [on, booted, well]), if_pos rfl]
  rfl

theorem avsWrite_fails {s : State} (on : s.present = true) (booted : s.sec.run ≠ .boot) (well : s.sec.run ≠ .recovery) :
    exec (.avsWrite false) s =
      (let s1 : State := { s with pwr := { s.pwr with avsFails := s.pwr.avsFails + 1 } }
       if s1.pwr.avsFails % 3 = 0 then .next (((s1.setFld Reg.pwrStatus 6 6 1).note 0x3F8 0x0FF 0).setStep s1.pwr.step) else .next s1) := by
  have unfolded : exec (.avsWrite false) s = execAvsWrite false s := rfl
  rw [unfolded, execAvsWrite, if_neg (by simp [on, booted, well]), if_neg (by decide)]

theorem avsWrite_moves (s : State) (on : s.present = true) (booted : s.sec.run ≠ .boot) (well : s.sec.run ≠ .recovery) :
    ∃ t, exec (.avsWrite true) s = .next t ∧ t.pwr.avsTarget = clamp (s.pwr.avsTarget - 10) (s.pwr.avsTarget + 10) s.coreGoal ∧
      t.pwr.avsFails = 0 ∧ t.out = s.out ++ [.avs t.pwr.avsTarget] ∧
      (s.fld Reg.pwrAvs 21 12 ≤ s.pwr.avsTarget → s.pwr.avsTarget ≤ s.fld Reg.pwrAvs 31 22 →
        s.fld Reg.pwrAvs 21 12 ≤ t.pwr.avsTarget ∧ t.pwr.avsTarget ≤ s.fld Reg.pwrAvs 31 22) ∧
      (s.pwr.fallDue = false ∨ s.stk.running = true → t.pwr.step = s.pwr.step ∧ s.Only [.pwr, .out] t) ∧
      (s.pwr.fallDue = true → s.stk.running = false → s.pwr.therm = false → s.pwr.step ≤ 7 →
        clamp (s.fld Reg.pwrAvs 21 12) (s.fld Reg.pwrAvs 31 22) (Config.coreVoltage (s.pwr.step - 1)) ≤ t.pwr.avsTarget → t.pwr.step = s.pwr.step - 1 ∧ t.pwr.fallDue = false) ∧
      s.Only [.bar, .blt, .pwr, .out] t := by
  obtain ⟨target, fails⟩ := s.voltageSet.fallNow_target
  have set : s.Only [.pwr, .out] s.voltageSet := by simp [State.Only, State.voltageSet]
  have fell : s.voltageSet.Only [.bar, .blt, .pwr] s.voltageSet.fallNow := ((s.voltageSet.keeps_self _).fallNow (by decide)).only
  refine ⟨_, avsWrite_sets on booted well, target, fails, ?_, fun above below => ?_, fun stays => ?_, fun due still cool low stands => ?_,
    (set.mono (by decide)).trans (fell.mono (by decide))⟩
  · rw [target, fell.out]
    rfl
  · rw [target]
    exact clamp_towards above below (clamp_between (Nat.le_trans above below))
  · rw [State.fallNow_same (s := s.voltageSet) stays]
    exact ⟨rfl, set⟩
  · rw [target] at stands
    have goal : s.voltageSet.coreGoal = clamp (s.fld Reg.pwrAvs 21 12) (s.fld Reg.pwrAvs 31 22) (Config.coreVoltage (s.pwr.step - 1)) := State.coreGoal_due (s := s.voltageSet) due
    have free : s.voltageSet.pwr.floor = 0 := by
      unfold Pwr.floor
      rw [show s.voltageSet.pwr.therm = false from cool]
      rfl
    rw [State.fallNow_stopped (s := s.voltageSet) still, State.fallStep_falls (s := s.voltageSet) due (by rw [goal]; exact stands) low (by rw [free]; exact Nat.zero_le _)]
    exact ⟨rfl, rfl⟩

theorem avsWrite_retries (s : State) (on : s.present = true) (booted : s.sec.run ≠ .boot) (well : s.sec.run ≠ .recovery) (few : (s.pwr.avsFails + 1) % 3 ≠ 0) :
    exec (.avsWrite false) s = .next { s with pwr := { s.pwr with avsFails := s.pwr.avsFails + 1 } } :=
  (avsWrite_fails on booted well).trans (if_neg few)

theorem State.reg_setStep (s : State) (k : Nat) {o : Nat} (a : o ≠ Reg.pwrCntThrottle) (b : o ≠ Reg.bltCntDrop) : (s.setStep k).reg o = s.reg o := by
  unfold State.setStep
  dsimp only
  split
  · rfl
  · split
    · exact (State.reg_post _ _ b).trans (State.reg_setReg_ne _ _ a)
    · exact State.reg_setReg_ne _ _ a

theorem avsWrite_throttles (s : State) (on : s.present = true) (booted : s.sec.run ≠ .boot) (well : s.sec.run ≠ .recovery) (two : s.pwr.avsFails = 2) :
    ∃ t, exec (.avsWrite false) s = .next t ∧ t.flag Reg.pwrStatus 6 = true ∧ 4 ≤ t.pwr.step ∧ t.pwr.avsFails = 3 ∧
      t.pwr.avsTarget = s.pwr.avsTarget ∧ s.Only [.bar, .blt, .pwr] t := by
  generalize failed : ({ s with pwr := { s.pwr with avsFails := s.pwr.avsFails + 1 } } : State) = s1
  have fails : s1.pwr.avsFails = 3 := by rw [← failed, two]
  have run : exec (.avsWrite false) s = .next (((s1.setFld Reg.pwrStatus 6 6 1).note 0x3F8 0x0FF 0).setStep s1.pwr.step) := by
    refine (avsWrite_fails on booted well).trans ?_
    rw [failed]
    exact if_pos (by rw [fails])
  have pwr : (((s1.setFld Reg.pwrStatus 6 6 1).note 0x3F8 0x0FF 0).setStep s1.pwr.step).pwr = { s1.pwr with step := min 7 (max s1.pwr.floor s1.pwr.step) } := by
    rw [State.setStep_step, State.note_pwr]
    rfl
  have floor : s1.pwr.floor = 4 := by
    unfold Pwr.floor
    rw [fails]
    exact if_pos (Bool.or_true _)
  have changed : s.Only [.bar, .blt, .pwr] s1 := by rw [← failed]; simp [State.Only]
  refine ⟨_, run, ?_, ?_, ?_, ?_, ?_⟩
  · refine (State.flag_congr (s := s1.setFld Reg.pwrStatus 6 6 1) 6 ?_).trans ?_
    · exact (State.reg_setStep _ _ (by decide) (by decide)).trans (State.reg_post _ _ (by decide))
    · rw [State.flag_eq_fld, State.fld_setFld_same _ _ (by decide) (by decide)]
      rfl
  · rw [pwr, floor]
    exact Nat.le_min.mpr ⟨by decide, Nat.le_max_left _ _⟩
  · rw [pwr]
    exact fails
  · rw [pwr, ← failed]
  · exact changed.trans ((((s1.keeps_self [.bar, .blt, .pwr]).setFld (by decide) _ _ _ _).note (by decide) _ _ _).setStep (by decide) _).only

/-! ### The regulators (R531) -/

theorem State.pollEntry_reg (s : State) (i : Nat) (reading : Option (Nat × Nat × Nat)) {o : Nat} (ne : o ≠ Reg.bltCntDrop) : (s.pollEntry i reading).reg o = s.reg o := by
  unfold State.pollEntry
  dsimp only
  split
  · rfl
  · split
    · exact (State.reg_post _ _ ne).trans rfl
    · split <;> rfl

/-- A poll of one regulator leaves what is known of the others. -/
theorem State.pollEntry_others (s : State) {i j : Nat} (reading : Option (Nat × Nat × Nat)) (ne : j ≠ i) :
    afind (s.pollEntry i reading).pwr.readings j = afind s.pwr.readings j ∧ afind (s.pollEntry i reading).pwr.missed j = afind s.pwr.missed j := by
  unfold State.pollEntry
  dsimp only
  split
  · exact ⟨afind_adel_ne _ ne, afind_adel_ne _ ne⟩
  · split
    · rw [State.note_pwr]
      exact ⟨afind_adel_ne _ ne, afind_adel_ne _ ne⟩
    · split
      · exact ⟨afind_aput_ne _ _ ne, afind_adel_ne _ ne⟩
      · exact ⟨rfl, afind_aput_ne _ _ ne⟩

theorem State.pollEntry_absent {s : State} {i : Nat} (reading : Option (Nat × Nat × Nat)) (off : s.flag (Reg.pwrPmb i) 31 = false) :
    afind (s.pollEntry i reading).pwr.readings i = none ∧ afind (s.pollEntry i reading).pwr.missed i = none := by
  unfold State.pollEntry
  rw [if_pos off]
  exact ⟨afind_adel_same _ _, afind_adel_same _ _⟩

theorem State.pollEntry_read {s : State} {i : Nat} (q : Nat × Nat × Nat) (on : s.flag (Reg.pwrPmb i) 31 = true) (kind : s.fld (Reg.pwrPmb i) 15 12 < 9) :
    afind (s.pollEntry i (some q)).pwr.readings i = some q ∧ afind (s.pollEntry i (some q)).pwr.missed i = none := by
  unfold State.pollEntry
  rw [if_neg (by rw [on]; decide), if_neg (Nat.not_le.mpr kind)]
  exact ⟨afind_aput_same _ _ _, afind_adel_same _ _⟩

theorem State.pollEntry_missed {s : State} {i : Nat} (on : s.flag (Reg.pwrPmb i) 31 = true) (kind : s.fld (Reg.pwrPmb i) 15 12 < 9) :
    afind (s.pollEntry i none).pwr.readings i = afind s.pwr.readings i ∧ agetD (s.pollEntry i none).pwr.missed i 0 = min 3 (agetD s.pwr.missed i 0 + 1) := by
  unfold State.pollEntry
  rw [if_neg (by rw [on]; decide), if_neg (Nat.not_le.mpr kind)]
  exact ⟨rfl, agetD_aput_same _ _ _ _⟩

/-- The polls of a list of regulators. -/
def State.polls (s : State) (readings : List (Option (Nat × Nat × Nat))) (l : List Nat) : State :=
  l.foldl (fun (a : State) i => a.pollEntry i (readings.getD i none)) s

theorem State.polls_cons (s : State) (readings : List (Option (Nat × Nat × Nat))) (i : Nat) (l : List Nat) :
    s.polls readings (i :: l) = (s.pollEntry i (readings.getD i none)).polls readings l := rfl

theorem State.polls_others (readings : List (Option (Nat × Nat × Nat))) {j : Nat} (l : List Nat) : ∀ s : State, j ∉ l →
    afind (s.polls readings l).pwr.readings j = afind s.pwr.readings j ∧ afind (s.polls readings l).pwr.missed j = afind s.pwr.missed j := by
  induction l with
  | nil => exact fun s _ => ⟨rfl, rfl⟩
  | cons i l ih =>
    intro s away
    have ne : j ≠ i := fun e => away (e ▸ List.mem_cons_self)
    have rest : j ∉ l := fun here => away (List.mem_cons_of_mem _ here)
    obtain ⟨read, missed⟩ := ih (s.pollEntry i (readings.getD i none)) rest
    obtain ⟨read0, missed0⟩ := s.pollEntry_others (readings.getD i none) ne
    exact ⟨read.trans read0, missed.trans missed0⟩

/-- What is known of a regulator after the polls is what its own poll made of what was known. -/
theorem State.polls_at (readings : List (Option (Nat × Nat × Nat))) {j : Nat} (l : List Nat) : ∀ s : State, l.Nodup → j ∈ l →
    ∃ a : State, (∀ o, o ≠ Reg.bltCntDrop → a.reg o = s.reg o) ∧ afind a.pwr.readings j = afind s.pwr.readings j ∧ afind a.pwr.missed j = afind s.pwr.missed j ∧
      afind (s.polls readings l).pwr.readings j = afind (a.pollEntry j (readings.getD j none)).pwr.readings j ∧
      afind (s.polls readings l).pwr.missed j = afind (a.pollEntry j (readings.getD j none)).pwr.missed j := by
  induction l with
  | nil => exact fun s _ here => nomatch here
  | cons i l ih =>
    intro s once here
    obtain ⟨fresh, once'⟩ := List.nodup_cons.mp once
    by_cases e : j = i
    · subst e
      obtain ⟨read, missed⟩ := State.polls_others readings l (s.pollEntry j (readings.getD j none)) fresh
      exact ⟨s, fun o _ => rfl, rfl, rfl, read, missed⟩
    · obtain ⟨a, regs, read, missed, after⟩ := ih (s.pollEntry i (readings.getD i none)) once' ((List.mem_cons.mp here).resolve_left e)
      obtain ⟨read0, missed0⟩ := s.pollEntry_others (readings.getD i none) e
      exact ⟨a, fun o ne => (regs o ne).trans (s.pollEntry_reg i _ ne), read.trans read0, missed.trans missed0, after⟩

theorem pwrPmb_ne (i : Nat) : Reg.pwrPmb i ≠ Reg.bltCntDrop := by
  unfold Reg.pwrPmb Reg.bltCntDrop
  omega

theorem pmbusPoll_reads (s : State) (readings : List (Option (Nat × Nat × Nat))) (on : s.present = true) :
    ∃ t, exec (.pmbusPoll readings) s = .next t ∧
      (∀ i q, i < 16 → s.flag (Reg.pwrPmb i) 31 = true → s.fld (Reg.pwrPmb i) 15 12 < 9 → readings.getD i none = some q →
        afind t.pwr.readings i = some q ∧ afind t.pwr.missed i = none) ∧
      (∀ i, i < 16 → s.flag (Reg.pwrPmb i) 31 = true → s.fld (Reg.pwrPmb i) 15 12 < 9 → readings.getD i none = none →
        afind t.pwr.readings i = afind s.pwr.readings i ∧ agetD t.pwr.missed i 0 = min 3 (agetD s.pwr.missed i 0 + 1)) ∧
      (∀ i, i < 16 → s.flag (Reg.pwrPmb i) 31 = false → afind t.pwr.readings i = none ∧ afind t.pwr.missed i = none) ∧ s.Only [.bar, .blt, .pwr] t := by
  have unfolded : exec (.pmbusPoll readings) s = execPmbusPoll readings s := rfl
  have run : exec (.pmbusPoll readings) s = .next (s.polls readings (List.range 16)) := by
    rw [unfolded, execPmbusPoll, if_neg (by rw [on]; decide)]
    rfl
  have at_ (i : Nat) (low : i < 16) := State.polls_at readings (List.range 16) s List.nodup_range (List.mem_range.mpr low)
  refine ⟨_, run, fun i q low on kind got => ?_, fun i low on kind got => ?_, fun i low off => ?_, ?_⟩
  · obtain ⟨a, regs, -, -, read, missed⟩ := at_ i low
    rw [read, missed, got]
    exact State.pollEntry_read q ((State.flag_congr 31 (regs _ (pwrPmb_ne i))).trans on) (lt_of_eq_of_lt (State.fld_congr 15 12 (regs _ (pwrPmb_ne i))) kind)
  · obtain ⟨a, regs, read0, missed0, read, missed⟩ := at_ i low
    rw [read, agetD, missed, got, ← read0, agetD, ← missed0]
    exact State.pollEntry_missed ((State.flag_congr 31 (regs _ (pwrPmb_ne i))).trans on) (lt_of_eq_of_lt (State.fld_congr 15 12 (regs _ (pwrPmb_ne i))) kind)
  · obtain ⟨a, regs, -, -, read, missed⟩ := at_ i low
    rw [read, missed]
    exact State.pollEntry_absent _ ((State.flag_congr 31 (regs _ (pwrPmb_ne i))).trans off)
  · exact ((s.keeps_self [.bar, .blt, .pwr]).foldl (List.range 16) _ fun t i k => k.pollEntry (by decide) i _).only

/-- Settles O58: throttling and the trip, the core voltage, and the regulators. -/
theorem throttleAndRegulators : Obligations.ThrottleAndRegulators :=
  ⟨fun s tj now on => ⟨throttleEvaluate_trips s tj now on, throttleEvaluate_hot s tj now on, fun cool past => throttleEvaluate_rises s tj now on cool past,
      fun cool below under near => throttleEvaluate_level s tj now on cool below under near, fun cool far light => throttleEvaluate_falls s tj now on cool far light⟩,
    fun s on booted well => ⟨avsWrite_moves s on booted well, avsWrite_retries s on booted well, avsWrite_throttles s on booted well⟩,
    pmbusPoll_reads⟩

end Sys2Proof.Machine
end

section
/-!
PROOFS. Resets and boot (O54): what a cold and a warm reset keep, and the image that a boot runs.
-/
namespace Sys2Proof.Machine

/-! ### Resets (R9, R10, R498) -/

theorem coldReset_resets (s : State) (board : Board) (fuses : Fuses) :
    ∃ t, exec (.coldReset board fuses) s = .next t ∧ t.board = board ∧ t.sec.run = .boot ∧ t.sec.fuses = s.sec.fuses.merge fuses ∧
      t.reg Reg.glbDeviceId % 32 = board.strap.toNat % 32 ∧ (∀ r, r ≠ Reg.glbDeviceId → afind t.bar.regs r = none) ∧
      (∀ l, board.flash = some l → t.sec.slots = [l.getD 0 none, l.getD 1 none]) ∧ (board.flash = none → t.sec.slots = s.sec.slots) ∧
      t.fls.data = s.fls.data ∧ t.host.mem = s.host.mem ∧ t.memory.mem = [] ∧ t.sec.keys = [] ∧ t.sec.debugOpen = false ∧
      State.reset.Only [.bar, .board, .fls, .sec, .host, .out, .freeCtr] { t with pending := [] } ∧
      t.out = s.out ∧ t.freeCtr = s.freeCtr ∧ t.pending = s.pending := by
  refine ⟨_, rfl, rfl, rfl, rfl, ?_, fun r other => ?_, fun l flash => ?_, fun flash => ?_, rfl, rfl, rfl, rfl, rfl, ?_, rfl, rfl, rfl⟩
  · have strap : bits (setBits (resetWord Reg.glbDeviceId) 4 0 board.strap.toNat % 2 ^ 32) 4 0 = board.strap.toNat % 32 := by
      rw [bits_mod_word 0 _ (by decide), bits_setBits_same] <;> rfl
    rw [bits, Nat.pow_zero, Nat.div_one] at strap
    exact strap
  · exact if_neg fun e => other e.symm
  · dsimp only
    rw [flash] <;> rfl
  · dsimp only
    rw [flash] <;> rfl
  · simp [State.Only, State.afterReset, State.reset]

/-- What a warm reset leaves but for the measurements. -/
def State.warm (s : State) : State :=
  let s1 := s.afterReset s.board (s.bar.regs.map fun e => (e.1, keepWord e.1 e.2))
  { s1 with blt := { s1.blt with seq := s.blt.seq, log := s.blt.log } }

theorem warmReset_keeps (s : State) (up : s.pwr.tripped = false) (closed : s.sec.debugPending = false) :
    ∃ t, exec .warmReset s = .next t ∧ t.board = s.board ∧ t.sec.run = .boot ∧ t.sec.fuses = s.sec.fuses ∧ t.sec.slots = s.sec.slots ∧
      t.bar.regs = s.bar.regs.map (fun e => (e.1, keepWord e.1 e.2)) ∧ t.blt = { State.reset.blt with seq := s.blt.seq, log := s.blt.log } ∧
      agetD t.sec.meas 5 0 = agetD s.sec.meas 5 0 ∧ t.fls.data = s.fls.data ∧ t.host.mem = s.host.mem ∧ t.sec.keys = [] ∧
      State.reset.Only [.bar, .board, .blt, .fls, .sec, .host, .out, .freeCtr] { t with pending := [] } ∧
      t.out = s.out ∧ t.freeCtr = s.freeCtr ∧ t.pending = s.pending := by
  have unfolded : exec .warmReset s = execWarmReset s := rfl
  have run : exec .warmReset s =
      .next { s.warm with sec := { s.warm.sec with meas := if agetD s.sec.meas 5 0 = 0 then [] else [(5, agetD s.sec.meas 5 0)] } } := by
    rw [unfolded, execWarmReset, if_neg (by rw [up]; decide)]
    exact if_neg (by rw [closed]; decide)
  refine ⟨_, run, rfl, rfl, rfl, rfl, rfl, rfl, ?_, rfl, rfl, rfl, ?_, rfl, rfl, rfl⟩
  · dsimp only
    split
    · next zero => exact zero.symm
    · rfl
  · simp [State.Only, State.warm, State.afterReset, State.reset]

theorem warmReset_opens (s : State) (up : s.pwr.tripped = false) (pending : s.sec.debugPending = true) :
    ∃ t, exec .warmReset s = .next t ∧ t.sec.debugOpen = true ∧ t.sec.debugPending = false ∧ t.sec.run = .boot ∧ t.sec.keys = [] ∧
      (∃ m, agetD t.blt.outbox 0x3F0 [] = [m] ∧ m.fault.level = 2 ∧ m.fault.kind = 0x901 ∧ m.fault.addr = 4) ∧
      State.reset.Only [.bar, .board, .blt, .fls, .sec, .host, .out, .freeCtr] { t with pending := [] } := by
  have unfolded : exec .warmReset s = execWarmReset s := rfl
  generalize extended : Config.sha3 (leBytes 64 (agetD s.sec.meas 5 0).toNat ++ freeBytes s.freeCtr 64) = new at *
  generalize open_ : ({ s.warm with freeCtr := s.warm.freeCtr + 64, sec := { s.warm.sec with debugOpen := true, meas := [(5, new)] } } : State) = s1
  have run : exec .warmReset s = .next (s1.posted (fault 0x3F0 0x901 2 4)) := by
    have empty : agetD s1.blt.outbox (fault 0x3F0 0x901 2 4).source.toNat [] = [] := by rw [← open_]; rfl
    rw [unfolded, execWarmReset, if_neg (by rw [up]; decide), ← State.post_empty empty, ← open_, ← extended]
    exact if_pos pending
  refine ⟨_, run, ?_⟩
  subst open_
  exact ⟨rfl, rfl, rfl, rfl, ⟨_, State.posted_outbox _ _, rfl, rfl, rfl⟩, by simp [State.Only, State.posted, State.warm, State.afterReset, State.reset]⟩

/-! ### Boot (R502, R503) -/

/-- What the image of a slot that runs leaves in the security block. -/
theorem Sec.runImage_some {c : Sec} {b : Bool} {im : Image} (stands : c.slot b = some im) :
    (c.runImage b).running = some im ∧ (c.runImage b).slotB = b ∧ agetD (c.runImage b).meas 1 0 = Config.romDigest ∧ agetD (c.runImage b).meas 2 0 = im.ofKind 1 ∧
      agetD (c.runImage b).meas 3 0 = im.ofKind 2 ∧
      (c.runImage b).deviceSeed = Config.sha3 (leBytes 32 c.fuses.secret.toNat ++ leBytes 64 Config.romDigest.toNat) ∧
      (c.runImage b).aliasSeed = Config.sha3 (leBytes 64 (c.runImage b).deviceSeed.toNat ++ leBytes 64 (im.ofKind 1).toNat) ∧
      (c.runImage b).aliasCert = Config.aliasCertificate (keysOf (c.runImage b).deviceSeed).1 (keysOf (c.runImage b).aliasSeed).2 := by
  have ran : c.runImage b = { c with running := some im, slotB := b, meas := aput (aput (aput c.meas 1 Config.romDigest) 2 (im.ofKind 1)) 3 (im.ofKind 2) }.deriveKeys := by
    rw [Sec.runImage, stands]
  have firmware : agetD (aput (aput (aput c.meas 1 Config.romDigest) 2 (im.ofKind 1)) 3 (im.ofKind 2)) 2 0 = im.ofKind 1 :=
    (agetD_aput_ne _ _ _ (by decide)).trans (agetD_aput_same _ _ _ _)
  rw [ran]
  refine ⟨rfl, rfl, ?_, firmware, agetD_aput_same _ _ _ _, rfl, ?_, rfl⟩
  · exact ((agetD_aput_ne _ _ _ (by decide)).trans (agetD_aput_ne _ _ _ (by decide))).trans (agetD_aput_same _ _ _ _)
  · simp only [Sec.deriveKeys, firmware]

/-- An image that runs leaves the rest of the security block. -/
theorem Sec.runImage_rest (c : Sec) (b : Bool) :
    (c.runImage b).fallback = c.fallback ∧ (c.runImage b).bootNonce = c.bootNonce ∧ (c.runImage b).attempted = c.attempted ∧ (c.runImage b).fuses = c.fuses ∧
      (c.runImage b).slots = c.slots ∧ (c.runImage b).primaryB = c.primaryB ∧ (c.runImage b).trial = c.trial ∧ (c.runImage b).run = c.run := by
  unfold Sec.runImage
  split
  · exact ⟨rfl, rfl, rfl, rfl, rfl, rfl, rfl, rfl⟩
  · exact ⟨rfl, rfl, rfl, rfl, rfl, rfl, rfl, rfl⟩

/-- The security block of a boot before an image runs. -/
def Sec.booting (c : Sec) (nonce : BitVec 128) : Sec := { c with attempted := c.attempted || c.trial, bootNonce := nonce, extNonce := 0 }

theorem boot_tries {s : State} (nonce : BitVec 128) {first : Bool} (down : s.sec.run = .boot) (up : s.pwr.tripped = false)
    (choice : first = (if s.sec.trial && s.sec.attempted then !s.sec.primaryB else s.sec.primaryB)) :
    exec (.boot nonce) s =
      (if s.sec.fuses.passes (s.sec.slot first) then .next ({ s with sec := { (s.sec.booting nonce).runImage first with run := .standby } } : State).bringUp
       else if s.sec.fuses.passes (s.sec.slot !first) then
         .next (State.post { s with sec := { (s.sec.booting nonce).runImage !first with run := .standby, fallback := true } } (fault 0x3F0 0x901 2 1)).bringUp
       else .next { s with sec := { s.sec.booting nonce with run := .recovery, meas := aput (s.sec.booting nonce).meas 1 Config.romDigest } }) := by
  have unfolded : exec (.boot nonce) s = execBoot nonce s := rfl
  rw [unfolded, execBoot, if_neg (by simp [down, up]), choice]
  rfl

theorem State.bringUp_only (s : State) : s.Only [.bar, .sat, .kva, .pln, .memory, .fls, .lnk, .xpt, .cmd, .blt] s.bringUp :=
  ((s.keeps_self _).bringUp (sub_self _)).only

theorem boot_runs (s : State) (nonce : BitVec 128) (first : Bool) (im : Image) (down : s.sec.run = .boot) (up : s.pwr.tripped = false)
    (choice : first = (if s.sec.trial && s.sec.attempted then !s.sec.primaryB else s.sec.primaryB)) :
    (s.sec.fuses.passes (s.sec.slot first) = true → s.sec.slot first = some im →
      ∃ t, exec (.boot nonce) s = .next t ∧ t.sec.run = .standby ∧ t.sec.running = some im ∧ t.sec.slotB = first ∧ t.sec.fallback = s.sec.fallback ∧
        t.sec.bootNonce = nonce ∧ t.sec.attempted = (s.sec.attempted || s.sec.trial) ∧ t.sec.fuses = s.sec.fuses ∧ t.sec.slots = s.sec.slots ∧
        agetD t.sec.meas 1 0 = Config.romDigest ∧ agetD t.sec.meas 2 0 = im.ofKind 1 ∧ agetD t.sec.meas 3 0 = im.ofKind 2 ∧
        t.sec.deviceSeed = Config.sha3 (leBytes 32 s.sec.fuses.secret.toNat ++ leBytes 64 Config.romDigest.toNat) ∧
        t.sec.aliasSeed = Config.sha3 (leBytes 64 t.sec.deviceSeed.toNat ++ leBytes 64 (im.ofKind 1).toNat) ∧
        t.sec.aliasCert = Config.aliasCertificate (keysOf t.sec.deviceSeed).1 (keysOf t.sec.aliasSeed).2 ∧
        s.Only [.bar, .sat, .kva, .pln, .memory, .fls, .lnk, .xpt, .cmd, .blt, .sec] t) ∧
    (s.sec.fuses.passes (s.sec.slot first) = false → s.sec.fuses.passes (s.sec.slot !first) = true → s.sec.slot (!first) = some im →
      ∃ t, exec (.boot nonce) s = .next t ∧ t.sec.run = .standby ∧ t.sec.running = some im ∧ t.sec.slotB = !first ∧ t.sec.fallback = true ∧
        s.Only [.bar, .sat, .kva, .pln, .memory, .fls, .lnk, .xpt, .cmd, .blt, .sec] t) ∧
    (s.sec.fuses.passes (s.sec.slot first) = false → s.sec.fuses.passes (s.sec.slot !first) = false →
      ∃ t, exec (.boot nonce) s = .next t ∧ t.sec.run = .recovery ∧ t.sec.running = s.sec.running ∧ s.Only [.sec] t) := by
  have run := boot_tries nonce down up choice
  refine ⟨fun good stands => ?_, fun bad good stands => ?_, fun bad worse => ?_⟩
  · rw [if_pos good] at run
    obtain ⟨running, slotB, rom, firmware, table, device, alias_, cert⟩ := Sec.runImage_some (c := s.sec.booting nonce) (b := first) stands
    obtain ⟨fallback, bootNonce, attempted, fuses, slots, -⟩ := Sec.runImage_rest (s.sec.booting nonce) first
    have changed : s.Only [.sec] { s with sec := { (s.sec.booting nonce).runImage first with run := .standby } } := by simp [State.Only]
    generalize began : ({ s with sec := { (s.sec.booting nonce).runImage first with run := .standby } } : State) = s1 at run changed
    refine ⟨_, run, ?_⟩
    rw [s1.bringUp_only.sec, ← began]
    refine ⟨rfl, running, slotB, fallback, bootNonce, attempted, fuses, slots, rom, firmware, table, device, alias_, cert, ?_⟩
    rw [began]
    exact (changed.mono (by decide)).trans (s1.bringUp_only.mono (by decide))
  · rw [if_neg (by rw [bad]; decide), if_pos good] at run
    obtain ⟨running, slotB, -⟩ := Sec.runImage_some (c := s.sec.booting nonce) (b := !first) stands
    have changed : s.Only [.sec] { s with sec := { (s.sec.booting nonce).runImage !first with run := .standby, fallback := true } } := by simp [State.Only]
    generalize began : ({ s with sec := { (s.sec.booting nonce).runImage !first with run := .standby, fallback := true } } : State) = s1 at run changed
    have posted : s1.Only [.bar, .blt] (s1.post (fault 0x3F0 0x901 2 1)) := ((s1.keeps_self _).post (sub_self _) _).only
    refine ⟨_, run, ?_⟩
    rw [(s1.post (fault 0x3F0 0x901 2 1)).bringUp_only.sec, posted.sec, ← began]
    refine ⟨rfl, running, slotB, rfl, ?_⟩
    rw [began]
    exact ((changed.mono (by decide)).trans (posted.mono (by decide))).trans ((s1.post (fault 0x3F0 0x901 2 1)).bringUp_only.mono (by decide))
  · rw [if_neg (by rw [bad]; decide), if_neg (by rw [worse]; decide)] at run
    exact ⟨_, run, rfl, rfl, by simp [State.Only]⟩

/-- Settles O54: cold reset, warm reset and boot. -/
theorem resetsAndBoot : Obligations.ResetsAndBoot :=
  ⟨coldReset_resets, warmReset_keeps, warmReset_opens, boot_runs⟩

end Sys2Proof.Machine
end

section
/-!
PROOFS. Firmware update (O55): staging, activation, confirmation and live activation.
-/
namespace Sys2Proof.Machine

theorem State.only_accepted (s : State) (r : ReplyTo) : s.Only [.bar, .cmd, .host, .out] (s.accepted r).1 := s.answer_only r _ _ _

/-- What serving a packet changes is among what every command of this block may change. -/
theorem State.Serves.only_sec {s s1 t : State} {q : PktReq} {h : Header} {own : Bool} {r : ReplyTo} (hs : s.Serves q h own r s1)
    (changed : s1.Only [.bar, .cmd, .sec, .host, .out] t) : s.Only [.bar, .stk, .cmd, .sec, .host, .out] t :=
  (hs.only.mono (by decide)).trans (changed.mono (by decide))

/-! ### Staging (R517) -/

theorem fwStage_stages (s s1 : State) (h : Header) (r : ReplyTo) (src : BitVec 64) (length : Nat) (image : Image) (rsv : Nat)
    (hs : s.Serves ⟨0x0902, 2, false, false, 16, rsv, src.toNat, false⟩ h false r s1) :
    (16256 * 1024 < length → exec (.fwStage h src length image rsv) s = .next (s1.done r .badLength)) ∧
    (length ≤ 16256 * 1024 → s1.sec.staging.isSome = true → exec (.fwStage h src length image rsv) s = .next (s1.done r .noResource)) ∧
    (length ≤ 16256 * 1024 → s1.sec.staging = none →
      ∃ t, exec (.fwStage h src length image rsv) s = .next t ∧ t.sec = { s1.sec with staging := some ⟨{ r with left := r.left - 1 }, image⟩ } ∧ s.Only [.bar, .stk, .cmd, .sec, .host, .out] t) := by
  refine ⟨fun long => ?_, fun fits busy => ?_, fun fits free => ?_⟩
  · exact congrArg Host.Outcome.next ((State.serve_of_serves hs _).trans (if_pos long))
  · exact congrArg Host.Outcome.next ((State.serve_of_serves hs _).trans ((if_neg (Nat.not_lt.mpr fits)).trans (if_pos busy)))
  · refine ⟨_, congrArg Host.Outcome.next ((State.serve_of_serves hs _).trans ((if_neg (Nat.not_lt.mpr fits)).trans (if_neg (by rw [free]; decide)))), ?_, hs.only_sec ?_⟩
    · dsimp only
      rw [State.accepted_sec]
      rfl
    · exact ((s1.only_accepted r).mono (by decide)).trans (by simp [State.Only])

theorem Sec.slot_setSlot_same (c : Sec) (b : Bool) (im : Option Image) : (c.setSlot b im).slot b = im := by cases b <;> rfl

theorem Sec.slot_setSlot_other (c : Sec) (b : Bool) (im : Option Image) : (c.setSlot (!b) im).slot b = c.slot b := by cases b <;> rfl

theorem fwStageComplete_ends (s : State) (g : Staging) (staging : s.sec.staging = some g) :
    (s.sec.fuses.refusal g.image = none →
      ∃ t, exec .fwStageComplete s = .next t ∧ t.sec.staged = true ∧ t.sec.staging = none ∧ t.sec.slot (!s.sec.slotB) = some g.image ∧
        t.sec.slot s.sec.slotB = s.sec.slot s.sec.slotB ∧ t.sec.primaryB = s.sec.primaryB ∧ t.sec.fuses = s.sec.fuses ∧ s.Only [.bar, .cmd, .sec, .host, .out] t) ∧
    (s.sec.fuses.refusal g.image = some .protection → g.reply.origin = .bmc →
      ∃ t, exec .fwStageComplete s = .next t ∧ t.sec = { s.sec with staging := none } ∧
        t.reg Reg.secCntAuth = min 0xFFFFFFFF (s.reg Reg.secCntAuth + 1) ∧ s.Only [.bar, .sec, .out] t) ∧
    (∀ st, s.sec.fuses.refusal g.image = some st → st ≠ .protection → exec .fwStageComplete s = .next (State.done { s with sec := { s.sec with staging := none } } g.reply st)) := by
  have unfolded : exec .fwStageComplete s = execFwStageComplete s := rfl
  rw [unfolded, execFwStageComplete]
  simp only [staging]
  refine ⟨fun good => ?_, fun bad bmc => ?_, fun st bad other => ?_⟩
  · rw [good]
    refine ⟨_, rfl, ?_⟩
    rw [State.done_sec]
    refine ⟨rfl, rfl, Sec.slot_setSlot_same _ _ _, Sec.slot_setSlot_other _ _ _, rfl, rfl, ?_⟩
    have changed : s.Only [.bar, .cmd, .sec, .host, .out]
        { s with sec := { ({ s.sec with staging := none } : Sec).setSlot (!s.sec.slotB) (some g.image) with staged := true } } := by simp [State.Only]
    exact changed.trans ((State.done_only _ g.reply .ok).mono (by decide))
  · rw [bad]
    refine ⟨_, rfl, ?_⟩
    generalize ended : ({ s with sec := { s.sec with staging := none } } : State) = s1
    have told : (s1.count Reg.secCntAuth 1).done g.reply .protection =
        (s1.count Reg.secCntAuth 1).emit (.bmc (replyRecord g.reply.opcode .protection true false g.reply.tag g.reply.consumed (s1.count Reg.secCntAuth 1).me [])) := by
      rw [State.done, State.answer, bmc]
    rw [told]
    have counted : ((s1.count Reg.secCntAuth 1).reg Reg.secCntAuth) = min 0xFFFFFFFF (s.reg Reg.secCntAuth + 1) := by
      rw [State.reg_count_same, ← ended]
      rfl
    refine ⟨?_, counted, ?_⟩
    · rw [← ended]; rfl
    · rw [← ended]; simp [State.Only, State.count, State.setReg, State.emit]
  · split
    · next good => exact nomatch bad.symm.trans good
    · next refused => exact absurd (Option.some.inj (bad.symm.trans refused)) other
    · next u _ refused => rw [Option.some.inj (bad.symm.trans refused)]

/-! ### Activation (R517, R518) -/

theorem fwActivate_selects (s s1 : State) (h : Header) (r : ReplyTo) (rsv : Nat) (hs : s.Serves ⟨0x0903, 1, false, false, 8, rsv, 0, false⟩ h false r s1) :
    (s1.sec.staged = true → exec (.fwActivate h 0 rsv) s =
      .next (State.done { s1 with sec := { s1.sec with primaryB := !s1.sec.slotB, trial := true, attempted := false } } r .ok)) ∧
    (s1.sec.staged = false → exec (.fwActivate h 0 rsv) s = .next (s1.done r .badField)) ∧
    (s1.sec.trial = true → s1.sec.slotB = s1.sec.primaryB →
      exec (.fwActivate h 2 rsv) s = .next (State.done { s1 with sec := { s1.sec with trial := false } } r .ok) ∧
      exec (.fwActivate h 3 rsv) s = .next (s1.done r .badField)) ∧
    (s1.sec.trial = false → exec (.fwActivate h 2 rsv) s = .next (s1.done r .alreadyDone)) ∧
    (∀ im, s1.sec.trial = false → s1.sec.running = some im → im.svn ≤ s1.sec.fuses.svn → exec (.fwActivate h 3 rsv) s = .next (s1.done r .alreadyDone)) ∧
    (∀ im, s1.sec.trial = false → s1.sec.running = some im → s1.sec.fuses.svn < im.svn → exec (.fwActivate h 3 rsv) s =
      .next (State.done { s1 with sec := { s1.sec with fuses := { s1.sec.fuses with svn := im.svn } } } r .ok)) ∧
    (∀ mode, 4 ≤ mode → exec (.fwActivate h mode rsv) s = .next (s1.done r .badField)) := by
  have confirmed (trial : s1.sec.trial = false) : ¬ s1.sec.runningTrial = true := by rw [Sec.runningTrial, trial]; exact Bool.false_ne_true
  refine ⟨fun staged => ?_, fun empty => ?_, fun trial primary => ?_, fun trial => ?_, fun im trial running low => ?_, fun im trial running high => ?_, fun mode undefined => ?_⟩
  · exact congrArg Host.Outcome.next ((State.serve_of_serves hs _).trans (if_pos staged))
  · exact congrArg Host.Outcome.next ((State.serve_of_serves hs _).trans (if_neg (by rw [empty]; decide)))
  · have waits : s1.sec.runningTrial = true := by rw [Sec.runningTrial, trial, primary]; simp
    exact ⟨congrArg Host.Outcome.next ((State.serve_of_serves hs _).trans (if_pos waits)), congrArg Host.Outcome.next ((State.serve_of_serves hs _).trans (if_pos waits))⟩
  · exact congrArg Host.Outcome.next ((State.serve_of_serves hs _).trans (if_neg (confirmed trial)))
  · refine congrArg Host.Outcome.next ((State.serve_of_serves hs _).trans ((if_neg (confirmed trial)).trans ?_))
    rw [running]
    exact if_pos low
  · refine congrArg Host.Outcome.next ((State.serve_of_serves hs _).trans ((if_neg (confirmed trial)).trans ?_))
    rw [running]
    dsimp only
    refine (if_neg (Nat.not_le.mpr high)).trans ?_
    rw [← running]
  · obtain ⟨k, rfl⟩ := Nat.exists_eq_add_of_le' undefined
    exact congrArg Host.Outcome.next ((State.serve_of_serves hs _).trans rfl)

theorem fwActivate_live (s s1 : State) (h : Header) (r : ReplyTo) (rsv : Nat) (hs : s.Serves ⟨0x0903, 2, false, false, 8, rsv, 0, false⟩ h false r s1) :
    (∀ im, s1.sec.staged = true → s1.sec.slot (!s1.sec.slotB) = some im →
      ∃ t, exec (.fwActivate h 1 rsv) s = .next t ∧ t.sec = { s1.sec with activating := some ⟨{ r with left := r.left - 1 }, im⟩ } ∧
        s.Only [.bar, .stk, .cmd, .sec, .host, .out] t) ∧
    (s1.sec.staged = false → exec (.fwActivate h 1 rsv) s = .next (s1.done r .badField)) := by
  refine ⟨fun im staged stands => ?_, fun empty => ?_⟩
  · refine ⟨{ (s1.accepted r).1 with sec := { (s1.accepted r).1.sec with activating := some ⟨{ r with left := r.left - 1 }, im⟩ } },
      congrArg Host.Outcome.next ((State.serve_of_serves hs _).trans ?_), ?_, hs.only_sec ?_⟩
    · dsimp only
      rw [staged, stands]
      rfl
    · dsimp only
      rw [State.accepted_sec]
    · exact ((s1.only_accepted r).mono (by decide)).trans (by simp [State.Only])
  · refine congrArg Host.Outcome.next ((State.serve_of_serves hs _).trans ?_)
    dsimp only
    rw [empty]
    cases s1.sec.slot (!s1.sec.slotB) <;> rfl

theorem liveActivation_runs (s : State) (g : Staging) (im : Image) (activating : s.sec.activating = some g) (stands : s.sec.slot (!s.sec.slotB) = some im) :
    ∃ t, exec (.liveActivationComplete true) s = .next t ∧ t.sec.running = some im ∧ t.sec.slotB = !s.sec.slotB ∧ t.sec.primaryB = !s.sec.slotB ∧ t.sec.trial = true ∧
      t.sec.attempted = false ∧ t.sec.staged = false ∧ t.sec.activating = none ∧ agetD t.sec.meas 2 0 = im.ofKind 1 ∧ agetD t.sec.meas 3 0 = im.ofKind 2 ∧
      t.sec.deviceSeed = Config.sha3 (leBytes 32 s.sec.fuses.secret.toNat ++ leBytes 64 Config.romDigest.toNat) ∧ t.sec.run = s.sec.run ∧ s.Only [.bar, .cmd, .sec, .host, .out] t := by
  have unfolded : exec (.liveActivationComplete true) s = execLiveActivationComplete true s := rfl
  have run : exec (.liveActivationComplete true) s =
      .next (State.done { s with sec := { s.sec.selectStaged.runImage (!s.sec.slotB) with activating := none, staged := false } } g.reply .ok) := by
    rw [unfolded, execLiveActivationComplete, activating]
    rfl
  obtain ⟨running, slotB, -, firmware, table, device, -⟩ := Sec.runImage_some (c := s.sec.selectStaged) (b := !s.sec.slotB) stands
  obtain ⟨-, -, attempted, -, -, primary, trial, runs⟩ := Sec.runImage_rest s.sec.selectStaged (!s.sec.slotB)
  refine ⟨_, run, ?_⟩
  rw [State.done_sec]
  refine ⟨running, slotB, primary, trial, attempted, rfl, rfl, firmware, table, device, runs, ?_⟩
  have changed : s.Only [.bar, .cmd, .sec, .host, .out] { s with sec := { s.sec.selectStaged.runImage (!s.sec.slotB) with activating := none, staged := false } } := by
    simp [State.Only]
  exact changed.trans ((State.done_only _ g.reply .ok).mono (by decide))

theorem liveActivation_fails (s : State) (g : Staging) (activating : s.sec.activating = some g) :
    ∃ t, exec (.liveActivationComplete false) s = .next t ∧ t.sec = { s.sec with activating := none } ∧ s.Only [.bar, .cmd, .blt, .sec, .host, .out, .freeCtr] t := by
  have unfolded : exec (.liveActivationComplete false) s = execLiveActivationComplete false s := rfl
  generalize ended : ({ s.free.2 with sec := { s.free.2.sec with activating := none } } : State) = s1
  have run : exec (.liveActivationComplete false) s = .next ((s1.post { fault 0x3F0 0xF01 2 s.free.1 with status := .internal }).done g.reply .internal) := by
    rw [unfolded, execLiveActivationComplete, activating, ← ended]
    rfl
  have changed : s.Only [.bar, .cmd, .blt, .sec, .host, .out, .freeCtr] s1 := by rw [← ended]; simp [State.Only, State.free]
  refine ⟨_, run, ?_, ?_⟩
  · rw [State.done_sec, State.post_sec, ← ended]
    rfl
  · exact changed.trans (((s1.keeps_self [.bar, .cmd, .blt, .sec, .host, .out, .freeCtr]).post (by decide) _).done (by decide) _ _).only

/-- Settles O55: staging, activation, confirmation and live activation of firmware. -/
theorem firmwareUpdate : Obligations.FirmwareUpdate :=
  ⟨fwStage_stages, fwStageComplete_ends, fwActivate_selects, fwActivate_live, liveActivation_runs, liveActivation_fails⟩

end Sys2Proof.Machine
end

section
/-!
PROOFS. Identity, keys and shut-down (O56): measurements and certificates, tenant keys, debug tokens, SPDM, PLDM, MCTP, and the two kinds of shut-down.
-/
namespace Sys2Proof.Machine

/-! ### Identity (R508) -/

theorem measurements_length (s : State) : (measured.map fun i => leBytes 64 (s.measurement i).toNat).flatten.length = 1344 := by
  have each (l : List Nat) : (l.map fun i => leBytes 64 (s.measurement i).toNat).flatten.length = 64 * l.length := by
    induction l with
    | nil => rfl
    | cons i l ih => rw [List.map_cons, List.flatten_cons, List.length_append, ih, leBytes_length, List.length_cons, Nat.mul_succ, Nat.add_comm]
  exact (each measured).trans (by decide)

theorem identityGet_reads (s s1 : State) (h : Header) (r : ReplyTo) (select length : Nat) (out : BitVec 64) (rsv : Nat)
    (hs : s.Serves ⟨0x0900, 1, false, false, 16, rsv, out.toNat, false⟩ h false r s1) :
    (2 < select → exec (.identityGet h select length out rsv) s = .next (s1.done r .badField)) ∧
    (select = 2 → length < 1344 → exec (.identityGet h select length out rsv) s = .next (s1.answer r .noResource true (leBytes 4 1344))) ∧
    (select = 2 → 1344 ≤ length → exec (.identityGet h select length out rsv) s =
      .next (State.answer (s1.writeAddr h.origin out.toNat (measured.map fun i => leBytes 64 (s1.measurement i).toNat).flatten) r .ok true (leBytes 4 1344))) ∧
    (select < 2 → length < (if select = 0 then deviceChain else s1.sec.aliasCert).length →
      exec (.identityGet h select length out rsv) s = .next (s1.answer r .noResource true (leBytes 4 (if select = 0 then deviceChain else s1.sec.aliasCert).length))) ∧
    (select < 2 → (if select = 0 then deviceChain else s1.sec.aliasCert).length ≤ length →
      exec (.identityGet h select length out rsv) s = .next (State.answer (s1.writeAddr h.origin out.toNat (if select = 0 then deviceChain else s1.sec.aliasCert)) r .ok true
        (leBytes 4 (if select = 0 then deviceChain else s1.sec.aliasCert).length))) := by
  have known (low : select ≤ 2) : exec (.identityGet h select length out rsv) s =
      .next (if length < (s1.identity select).length then s1.answer r .noResource true (leBytes 4 (s1.identity select).length)
        else (s1.writeAddr h.origin out.toNat (s1.identity select)).answer r .ok true (leBytes 4 (s1.identity select).length)) :=
    congrArg Host.Outcome.next ((State.serve_of_serves hs _).trans (if_neg (Nat.not_lt.mpr low)))
  have measures (two : select = 2) : s1.identity select = (measured.map fun i => leBytes 64 (s1.measurement i).toNat).flatten := by rw [two]; rfl
  have chain (low : select < 2) : s1.identity select = if select = 0 then deviceChain else s1.sec.aliasCert := by
    obtain rfl | rfl : select = 0 ∨ select = 1 := by omega
    · rfl
    · rfl
  refine ⟨fun high => ?_, fun two short => ?_, fun two fits => ?_, fun low short => ?_, fun low fits => ?_⟩
  · exact congrArg Host.Outcome.next ((State.serve_of_serves hs _).trans (if_pos high))
  · rw [known (Nat.le_of_eq two), measures two, measurements_length, if_pos short]
  · rw [known (Nat.le_of_eq two), measures two, measurements_length, if_neg (Nat.not_lt.mpr fits)]
  · rw [known (Nat.le_of_lt low), chain low, if_pos short]
  · rw [known (Nat.le_of_lt low), chain low, if_neg (Nat.not_lt.mpr fits)]

/-! ### Tenant keys (R515) -/

/-- A tenant's generations are replaced by a list. -/
def State.setKeys (s : State) (tenant : BitVec 16) (l : List (Nat × BitVec 256)) : State :=
  { s with sec := { s.sec with keys := if l.isEmpty then adel s.sec.keys tenant.toNat else aput s.sec.keys tenant.toNat l } }

theorem State.setKeys_same (s : State) (tenant : BitVec 16) (l : List (Nat × BitVec 256)) : agetD (s.setKeys tenant l).sec.keys tenant.toNat [] = l := by
  rw [State.setKeys]
  dsimp only
  split
  · next empty => rw [agetD, afind_adel_same, List.isEmpty_iff.mp empty, Option.getD_none]
  · exact agetD_aput_same _ _ _ _

theorem State.setKeys_other (s : State) (tenant : BitVec 16) (l : List (Nat × BitVec 256)) {u : Nat} (ne : u ≠ tenant.toNat) :
    agetD (s.setKeys tenant l).sec.keys u [] = agetD s.sec.keys u [] := by
  rw [State.setKeys]
  dsimp only
  split
  · rw [agetD, agetD, afind_adel_ne _ ne]
  · exact agetD_aput_ne _ _ _ ne

theorem installKey_eq (l : List (Nat × BitVec 256)) (gen : Nat) (key : BitVec 256) : installKey l gen key = l.drop (l.length - 1) ++ [(gen, key)] := by
  have last : l.length + 1 - 2 = l.length - 1 := by omega
  rw [installKey, last, List.drop_append_of_le_length (Nat.sub_le _ _)]

theorem tenantKeySet_keeps (s s1 : State) (h : Header) (r : ReplyTo) (tenant : BitVec 16) (gen : Nat) (key : BitVec 256) (rsv : Nat)
    (hs : s.Serves ⟨0x0901, 1, false, false, 40, rsv, 0, false⟩ h false r s1) (low : 1 ≤ gen) (high : gen ≤ 65535) :
    ((∃ g ∈ agetD s1.sec.keys tenant.toNat [], gen ≤ g.1) → exec (.tenantKeySet h tenant gen 0 key rsv) s = .next (s1.done r .badField)) ∧
    ((∀ g ∈ agetD s1.sec.keys tenant.toNat [], g.1 < gen) → agetD s1.sec.keys tenant.toNat [] ≠ [] ∨ s1.sec.keys.length < 4096 →
      ∃ t, exec (.tenantKeySet h tenant gen 0 key rsv) s = .next t ∧
        agetD t.sec.keys tenant.toNat [] =
          (agetD s1.sec.keys tenant.toNat []).drop ((agetD s1.sec.keys tenant.toNat []).length - 1) ++ [(gen, key)] ∧
        (∀ u, u ≠ tenant.toNat → agetD t.sec.keys u [] = agetD s1.sec.keys u []) ∧ t.sec = { s1.sec with keys := t.sec.keys } ∧
        s.Only [.bar, .stk, .cmd, .sec, .host, .out] t) ∧
    ((∀ g ∈ agetD s1.sec.keys tenant.toNat [], g.1 ≠ gen) → exec (.tenantKeySet h tenant gen 1 key rsv) s = .next (s1.done r .alreadyDone)) ∧
    ((∃ g ∈ agetD s1.sec.keys tenant.toNat [], g.1 = gen) →
      ∃ t, exec (.tenantKeySet h tenant gen 1 key rsv) s = .next t ∧
        agetD t.sec.keys tenant.toNat [] = (agetD s1.sec.keys tenant.toNat []).filter (fun g => g.1 != gen) ∧
        (∀ u, u ≠ tenant.toNat → agetD t.sec.keys u [] = agetD s1.sec.keys u []) ∧ s.Only [.bar, .stk, .cmd, .sec, .host, .out] t) := by
  have sound (action : Nat) (a : action ≤ 1) : ¬ (gen = 0 ∨ 65535 < gen ∨ 1 < action) := by omega
  have set (l : List (Nat × BitVec 256)) : s.Only [.bar, .stk, .cmd, .sec, .host, .out] ((s1.setKeys tenant l).done r .ok) :=
    hs.only_sec ((show s1.Only [.bar, .cmd, .sec, .host, .out] (s1.setKeys tenant l) by simp [State.Only, State.setKeys]).trans
      ((State.done_only _ r .ok).mono (by decide)))
  refine ⟨fun stale => ?_, fun fresh room => ?_, fun absent => ?_, fun held => ?_⟩
  · refine congrArg Host.Outcome.next ((State.serve_of_serves hs _).trans ((if_neg (sound 0 (by decide))).trans ((if_neg (by decide)).trans (if_pos ?_))))
    rw [List.any_eq_true]
    exact stale.imp fun g k => ⟨k.1, decide_eq_true k.2⟩
  · have above : ¬ ((agetD s1.sec.keys tenant.toNat []).any fun g => decide (gen ≤ g.1)) = true := by
      rw [List.any_eq_true]
      exact fun ⟨g, mem, le⟩ => Nat.not_le.mpr (fresh g mem) (of_decide_eq_true le)
    have fits : ¬ ((agetD s1.sec.keys tenant.toNat []).isEmpty = true ∧ 4096 ≤ s1.sec.keys.length) :=
      fun ⟨empty, full⟩ => room.elim (fun some_ => some_ (List.isEmpty_iff.mp empty)) (fun few => Nat.not_le.mpr few full)
    refine ⟨(s1.setKeys tenant (installKey (agetD s1.sec.keys tenant.toNat []) gen key)).done r .ok,
      congrArg Host.Outcome.next ((State.serve_of_serves hs _).trans ((if_neg (sound 0 (by decide))).trans ((if_neg (by decide)).trans ((if_neg above).trans (if_neg fits))))), ?_⟩
    rw [State.done_sec, State.setKeys_same, installKey_eq]
    exact ⟨rfl, fun u other => State.setKeys_other _ _ _ other, rfl, installKey_eq (agetD s1.sec.keys tenant.toNat []) gen key ▸ set _⟩
  · refine congrArg Host.Outcome.next ((State.serve_of_serves hs _).trans ((if_neg (sound 1 (by decide))).trans ((if_pos rfl).trans (if_neg ?_))))
    rw [List.any_eq_true]
    exact fun ⟨g, mem, same⟩ => absent g mem (beq_iff_eq.mp same)
  · have any : ((agetD s1.sec.keys tenant.toNat []).any fun g => g.1 == gen) = true := by
      rw [List.any_eq_true]
      exact held.imp fun g k => ⟨k.1, beq_iff_eq.mpr k.2⟩
    refine ⟨(s1.setKeys tenant ((agetD s1.sec.keys tenant.toNat []).filter fun g => g.1 != gen)).done r .ok,
      congrArg Host.Outcome.next ((State.serve_of_serves hs _).trans ((if_neg (sound 1 (by decide))).trans ((if_pos rfl).trans (if_pos any)))), ?_⟩
    rw [State.done_sec, State.setKeys_same]
    exact ⟨rfl, fun u other => State.setKeys_other _ _ _ other, set _⟩

/-! ### Debug tokens, SPDM, PLDM and MCTP (R506, R507, R509) -/

theorem debugUnlockToken_waits (s : State) (valid : Bool) (on : s.present = true) :
    (s.flag Reg.secCtrl 0 = false → valid = true → exec (.debugUnlockToken valid) s = .next { s with sec := { s.sec with debugPending := true } }) ∧
    (s.flag Reg.secCtrl 0 = true ∨ valid = false → exec (.debugUnlockToken valid) s = .next (s.count Reg.secCntAuth 1)) := by
  have unfolded : exec (.debugUnlockToken valid) s = execDebugUnlockToken valid s := rfl
  rw [unfolded, execDebugUnlockToken, if_neg (by rw [on]; decide)]
  refine ⟨fun open_ good => if_neg (by rw [open_, good]; decide), fun refused => if_pos ?_⟩
  obtain locked | bad := refused
  · rw [locked, Bool.true_or]
  · rw [bad]
    exact Bool.or_true _

theorem spdmRequest_runs {s : State} (on : s.present = true) (req : SpdmReq) (nonce : BitVec 256) : exec (.spdmRequest false req nonce) s = .next (s.spdm req nonce) := by
  have unfolded : exec (.spdmRequest false req nonce) s = execSpdmRequest false req nonce s := rfl
  rw [unfolded, execSpdmRequest, if_neg (by simp [on])]

/-- An answer without a signature draws no free byte. -/
theorem State.spdmFree_none (s : State) (code : Nat) (body : List Byte) : s.spdmFree code 0 body = s.emit (.spdm code body) := by
  rw [State.spdmFree]
  show s.emit (.spdm code (body ++ [])) = _
  rw [List.append_nil]

theorem measured_named {i : Nat} (mem : i ∈ measured) : i ≠ 0 ∧ i ≠ 255 := by
  have all : ∀ i ∈ measured, i ≠ 0 ∧ i ≠ 255 := by decide
  exact all i mem

theorem spdmRequest_answers (s : State) (nonce : BitVec 256) (on : s.present = true) :
    exec (.spdmRequest false .getVersion nonce) s = .next (State.emit { s with host := { s.host with spdm := 1 } } (.spdm 0x04 [0x13])) ∧
    (∀ req, s.host.spdm = 0 → req = .getCapabilities ∨ req = .negotiateAlgorithms ∨ req = .getDigests →
      exec (.spdmRequest false req nonce) s = .next (s.emit (.spdm 0x7F [4]))) ∧
    (3 ≤ s.host.spdm → exec (.spdmRequest false .getDigests nonce) s = .next (s.emit (.spdm 0x01 ([1] ++ leBytes 64 (Config.sha3 (deviceChain ++ s.sec.aliasCert)).toNat)))) ∧
    (∀ off len, 3 ≤ s.host.spdm → exec (.spdmRequest false (.getCertificate 0 off len) nonce) s =
      .next (s.emit (.spdm 0x02 ([0] ++ ((deviceChain ++ s.sec.aliasCert).drop off).take len)))) ∧
    (∀ i, 3 ≤ s.host.spdm → i ∈ measured → exec (.spdmRequest false (.getMeasurements i false) nonce) s =
      .next (s.emit (.spdm 0x60 (leBytes 1 i ++ leBytes 64 (s.measurement i).toNat ++ leBytes 32 nonce.toNat)))) := by
  refine ⟨spdmRequest_runs on _ _, fun req fresh early => ?_, fun agreed => ?_, fun off len agreed => ?_, fun i agreed mem => ?_⟩
  · refine (spdmRequest_runs on _ _).trans (congrArg Host.Outcome.next ?_)
    obtain rfl | rfl | rfl := early
    · exact if_pos fresh
    · exact if_pos (lt_of_eq_of_lt fresh (by decide))
    · exact if_pos (lt_of_eq_of_lt fresh (by decide))
  · exact (spdmRequest_runs on _ _).trans (congrArg Host.Outcome.next (if_neg (Nat.not_lt.mpr agreed)))
  · exact (spdmRequest_runs on _ _).trans (congrArg Host.Outcome.next ((if_neg (Nat.not_lt.mpr agreed)).trans (if_neg fun ne => ne rfl)))
  · obtain ⟨some_, single⟩ := measured_named mem
    have listed : ¬ (i ≠ 0 ∧ i ≠ 255 ∧ ¬ measured.contains i = true) := fun k => k.2.2 (List.contains_iff_mem.mpr mem)
    refine (spdmRequest_runs on _ _).trans (congrArg Host.Outcome.next ((if_neg (Nat.not_lt.mpr agreed)).trans ((if_neg listed).trans ?_)))
    dsimp only
    rw [if_neg some_, if_neg single]
    exact State.spdmFree_none _ _ _

theorem pldmRequest_reads {s s1 : State} {n v : Nat} (on : s.present = true) (read : s.sensor n = (s1, some v)) : exec (.pldmRequest n) s = .next (s1.emit (.pldm n v)) := by
  have unfolded : exec (.pldmRequest n) s = execPldmRequest n s := rfl
  rw [unfolded, execPldmRequest, if_neg (by rw [on]; decide), read]

theorem State.sensor_reading {s : State} {i : Nat} {v : Nat × Nat × Nat} (low : i < 16) (read : afind s.pwr.readings i = some v) (k : Nat) (three : k < 3) :
    s.sensor (3 * i + k) = (s, some (if k = 0 then v.1 else if k = 1 then v.2.1 else v.2.2)) := by
  have entry : (3 * i + k) / 3 = i := by omega
  have which : (3 * i + k) % 3 = k := by omega
  rw [State.sensor, if_pos (by omega), entry, which, read]
  rfl

theorem pldmRequest_readings (s : State) (i : Fin 16) (v : Nat × Nat × Nat) (on : s.present = true) (read : afind s.pwr.readings i.val = some v) :
    exec (.pldmRequest (3 * i.val)) s = .next (s.emit (.pldm (3 * i.val) v.1)) ∧ exec (.pldmRequest (3 * i.val + 1)) s = .next (s.emit (.pldm (3 * i.val + 1) v.2.1)) ∧
    exec (.pldmRequest (3 * i.val + 2)) s = .next (s.emit (.pldm (3 * i.val + 2) v.2.2)) :=
  ⟨pldmRequest_reads on (State.sensor_reading i.isLt read 0 (by decide)), pldmRequest_reads on (State.sensor_reading i.isLt read 1 (by decide)),
    pldmRequest_reads on (State.sensor_reading i.isLt read 2 (by decide))⟩

theorem mctpControl_answers (s : State) (e : BitVec 8) (on : s.present = true) :
    exec (.mctpControl (.setEid e)) s = .next (State.emit { s with host := { s.host with eid := e } } (.mctp 1 e)) ∧
    exec (.mctpControl .getEid) s = .next (s.emit (.mctp 2 s.host.eid)) := by
  have unfolded (c : MctpCtl) : exec (.mctpControl c) s = execMctpControl c s := rfl
  have running : ¬ (!s.present) = true := by rw [on]; decide
  rw [unfolded, unfolded, execMctpControl, execMctpControl]
  exact ⟨if_neg running, if_neg running⟩

/-! ### Ports closed by a shut-down (R519) -/

theorem State.disablePort_reg (s : State) (p : Nat) {o : Nat} (plain : routingCounts o = false) : (s.disablePort p).reg o = (s.setFld (Reg.lnkPCtrl p) 0 0 0).reg o := by
  rw [State.disablePort]
  split
  · exact (State.routed_requeue _ p true).reg _ plain
  · exact (State.routed_requeue _ p true).reg _ plain
  · exact (State.routed_requeue _ p true).reg _ plain
  · exact (State.routed_requeue _ p true).reg _ plain
  · rfl
  · rfl

theorem State.disablePort_flag (s : State) (p : Nat) {q : Nat} (small : q < 64) (off : q = p ∨ s.flag (Reg.lnkPCtrl q) 0 = false) :
    (s.disablePort p).flag (Reg.lnkPCtrl q) 0 = false := by
  refine (State.flag_congr 0 (s.disablePort_reg p (lnkPCtrl_notCounted q small))).trans ?_
  by_cases e : q = p
  · rw [e]
    exact s.flag_disabled _
  · refine (State.flag_congr 0 (s.reg_setFld_ne 0 0 0 ?_)).trans (off.resolve_left e)
    unfold Reg.lnkPCtrl
    omega

theorem State.disablePorts_flag (n : Nat) (s : State) : ∀ q, q < n → q < 64 → ((List.range n).foldl State.disablePort s).flag (Reg.lnkPCtrl q) 0 = false := by
  induction n with
  | zero => exact fun q lt => absurd lt (Nat.not_lt_zero q)
  | succ n ih =>
    intro q lt small
    rw [List.range_succ, List.foldl_append, List.foldl_cons, List.foldl_nil]
    refine State.disablePort_flag _ n small ?_
    obtain below | here := Nat.lt_succ_iff_lt_or_eq.1 lt
    · exact Or.inr (ih q below small)
    · exact Or.inl here

theorem State.closePorts_flag (s : State) {q : Nat} (small : q < 64) : s.closePorts.flag (Reg.lnkPCtrl q) 0 = false :=
  State.disablePorts_flag 64 _ q small small

theorem State.stopped_only (s : State) : s.Only [.bar, .cmd, .sec, .host, .out] s.stopped := ((s.keeps_self _).stopped (sub_self _)).only

theorem State.stopped_bar (s : State) : s.stopped.bar = s.bar := by
  unfold State.stopped
  split
  · rfl
  · dsimp only
    split
    · rw [State.answer_bar]
    · rfl

/-- An immediate shut-down leaves every port disabled by its register. -/
theorem State.shutdownNow_flag (s : State) {q : Nat} (small : q < 64) : s.shutdownNow.flag (Reg.lnkPCtrl q) 0 = false := by
  unfold State.shutdownNow
  generalize (s.modShutdown _).surrenderAll true = s1
  have same : s1.closePorts.stopped.reg (Reg.lnkPCtrl q) = s1.closePorts.reg (Reg.lnkPCtrl q) := by rw [State.reg, State.stopped_bar, State.reg]
  exact (State.flag_congr 0 same).trans (s1.closePorts_flag small)

/-! ### DEVICE_SHUTDOWN (R519) -/

/-- The shut-down that a packet begins. -/
def ReplyTo.beginsShutdown (r : ReplyTo) (immediate : Bool) (deadline : Nat) (targets : List DevPart) (now : Nat) : Shutdown :=
  { reply := some { r with left := r.left - 1 }, immediate := immediate, targets := targets, deadlineMs := deadline, startedAt := now, nextTarget := 0, moved := 0,
    surrendered := 0, deadlinePassed := immediate || targets.isEmpty }

theorem deviceShutdown_begins {s s1 : State} {h : Header} {r : ReplyTo} {mode n deadline rsv : Nat} {targets : List DevPart}
    (hs : s.Serves ⟨0x0006, 2, false, false, 8 + 4 * n, rsv, 0, false⟩ h false r s1) (host : h.origin ≠ .bmc) (fresh : s1.sec.shutdown = none)
    (sound : ¬ (1 < mode ∨ 8 < n ∨ targets.length ≠ n ∨ (mode = 0 ∧ (deadline = 0 ∨ 60000 < deadline)) ∨ (targets.any fun t => decide (2 ^ 14 ≤ t.dev.toNat)) = true)) :
    exec (.deviceShutdown h mode n deadline targets rsv) s =
      .next ((s1.accepted r).1.beginShutdown (some { r with left := r.left - 1 }) (mode == 1) deadline targets) :=
  congrArg Host.Outcome.next ((State.serve_of_serves hs _).trans
    ((if_neg fun k => host k.1).trans ((if_neg (by rw [fresh]; decide)).trans (if_neg sound))))

theorem known_targets {targets : List DevPart} (known : ∀ d ∈ targets, d.dev.toNat < 2 ^ 14) : ¬ (targets.any fun t => decide (2 ^ 14 ≤ t.dev.toNat)) = true := by
  rw [List.any_eq_true]
  exact fun ⟨d, mem, far⟩ => Nat.not_le.mpr (known d mem) (of_decide_eq_true far)

theorem deviceShutdown_shuts (s s1 : State) (h : Header) (r : ReplyTo) (mode n deadline rsv : Nat) (targets : List DevPart)
    (hs : s.Serves ⟨0x0006, 2, false, false, 8 + 4 * n, rsv, 0, false⟩ h false r s1) (host : h.origin ≠ .bmc) :
    (s1.sec.shutdown.isSome = true → exec (.deviceShutdown h mode n deadline targets rsv) s = .next (s1.done r .alreadyDone)) ∧
    (s1.sec.shutdown = none → 1 < mode → exec (.deviceShutdown h mode n deadline targets rsv) s = .next (s1.done r .badField)) ∧
    (s1.sec.shutdown = none → mode = 1 → n ≤ 8 → targets.length = n → (∀ d ∈ targets, d.dev.toNat < 2 ^ 14) → s1.sec.run ≠ .fault →
      ∃ t, exec (.deviceShutdown h mode n deadline targets rsv) s = .next t ∧ t.sec.run = .stopped ∧ t.sec.keys = [] ∧ t.fls.hold = true ∧ t.fls.holdForever = true ∧
        (∀ p, p < 64 → t.flag (Reg.lnkPCtrl p) 0 = false) ∧ s.Only [.stk, .bar, .sat, .kva, .pln, .memory, .fls, .lnk, .cmd, .sec, .host, .out, .freeCtr] t) ∧
    (s1.sec.shutdown = none → mode = 0 → n ≤ 8 → targets.length = n → targets ≠ [] → (∀ d ∈ targets, d.dev.toNat < 2 ^ 14) → 1 ≤ deadline → deadline ≤ 60000 →
      s1.sec.run = .service →
      ∃ t, exec (.deviceShutdown h mode n deadline targets rsv) s = .next t ∧ t.sec.run = .stopping ∧
        t.sec.shutdown = some ⟨some { r with left := r.left - 1 }, false, targets, deadline, s1.stk.time, 0, 0, 0, false⟩ ∧ t.sec.keys = s1.sec.keys ∧
        s.Only [.stk, .bar, .cmd, .sec, .host, .out] t) := by
  have taken := s1.only_accepted r
  refine ⟨fun again => ?_, fun fresh high => ?_, fun fresh now few all known sound => ?_, fun fresh later few all some_ known least most serves => ?_⟩
  · exact congrArg Host.Outcome.next ((State.serve_of_serves hs _).trans ((if_neg fun k => host k.1).trans (if_pos again)))
  · exact congrArg Host.Outcome.next ((State.serve_of_serves hs _).trans ((if_neg fun k => host k.1).trans ((if_neg (by rw [fresh]; decide)).trans (if_pos (Or.inl high)))))
  · have legal : ¬ (1 < mode ∨ 8 < n ∨ targets.length ≠ n ∨ (mode = 0 ∧ (deadline = 0 ∨ 60000 < deadline)) ∨ (targets.any fun t => decide (2 ^ 14 ≤ t.dev.toNat)) = true) := by
      have listed := known_targets known
      rintro (a | b | c | d | e)
      · omega
      · omega
      · exact c all
      · omega
      · exact listed e
    have run := deviceShutdown_begins hs host fresh legal
    rw [now] at run
    generalize began : ({ (s1.accepted r).1 with sec := { (s1.accepted r).1.sec with
      shutdown := some (r.beginsShutdown true deadline targets (s1.accepted r).1.stk.time), run := if (s1.accepted r).1.sec.run = .fault then .fault else .stopping } } : State) = s2
    have quick : (s1.accepted r).1.beginShutdown (some { r with left := r.left - 1 }) (1 == 1) deadline targets = s2.shutdownNow := by
      rw [← began]
      unfold State.beginShutdown
      exact if_pos rfl
    have changed : s.Only [.stk, .bar, .sat, .kva, .pln, .memory, .fls, .lnk, .cmd, .sec, .host, .out, .freeCtr] s2 := by
      refine (hs.only.mono (by decide)).trans ((taken.mono (by decide)).trans ?_)
      rw [← began]
      simp [State.Only]
    obtain ⟨stopped, keys, hold, forever⟩ := State.shutdownNow_stops (s := s2) (by rw [← began]; rfl) (by
      rw [← began]
      dsimp only
      rw [State.accepted_sec, if_neg sound]
      decide)
    rw [now]
    exact ⟨_, run.trans (congrArg Host.Outcome.next quick), stopped, keys, hold, forever, fun p small => s2.shutdownNow_flag small,
      changed.trans ((s2.keeps_self [.stk, .bar, .sat, .kva, .pln, .memory, .fls, .lnk, .cmd, .sec, .host, .out, .freeCtr]).shutdownNow (by decide)).only⟩
  · have legal : ¬ (1 < mode ∨ 8 < n ∨ targets.length ≠ n ∨ (mode = 0 ∧ (deadline = 0 ∨ 60000 < deadline)) ∨ (targets.any fun t => decide (2 ^ 14 ≤ t.dev.toNat)) = true) := by
      have listed := known_targets known
      rintro (a | b | c | d | e)
      · omega
      · omega
      · exact c all
      · omega
      · exact listed e
    have run := deviceShutdown_begins hs host fresh legal
    have waits : ¬ targets.isEmpty = true := fun empty => some_ (List.isEmpty_iff.mp empty)
    rw [later] at run ⊢
    refine ⟨_, run, ?_⟩
    unfold State.beginShutdown
    rw [if_neg (show ¬ ((0 : Nat) == 1) = true by decide), if_neg waits, State.accepted_sec, serves, State.accepted_stk]
    refine ⟨rfl, ?_, rfl, ?_⟩
    · rw [Bool.eq_false_iff.mpr waits]
      rfl
    · refine (hs.only.mono (by decide)).trans ((taken.mono (by decide)).trans ?_)
      simp [State.Only]

/-! ### SHUTDOWN_DEADLINE (R519) -/

theorem State.drainForStop_free {s : State} {p : Nat} (held : (s.part p).held = none) (composing : (s.part p).composing = none) (free : (s.part p).state = .free) :
    s.drainForStop p = s := by
  unfold State.drainForStop
  rw [held]
  dsimp only
  rw [composing, if_neg (by decide), if_pos (Or.inl free)]

theorem foldl_same {α β : Type} (f : β → α → β) (b : β) (same : ∀ a, f b a = b) (l : List α) : l.foldl f b = b := by
  induction l with
  | nil => rfl
  | cons a l ih => rw [List.foldl_cons, same, ih]

/-- With no live satchel, no record to hand on and every partition free, a shut-down after its deadline stops the device. -/
theorem State.shutdownOn_stops {s : State} (sats : s.sat.sats = []) (recs : s.sat.recs = []) (parts : ∀ q ∈ s.pln.parts, q.state = .free ∧ q.composing = none ∧ q.held = none)
    (closed : s.closePorts.lnk.ports.all (fun p => p.state == .disabled) = true) : s.shutdownOn = s.closePorts.stopped := by
  have none_ : s.surrenderAll false = s := by
    unfold State.surrenderAll
    rw [sats]
    rfl
  have drained : (List.range 16).foldl State.drainForStop s = s := by
    refine foldl_same _ _ (fun p => ?_) _
    have here : (s.part p).state = .free ∧ (s.part p).composing = none ∧ (s.part p).held = none := by
      rw [State.part]
      by_cases lt : p < s.pln.parts.length
      · rw [List.getD_eq_getElem _ _ lt]
        exact parts _ (List.getElem_mem lt)
      · rw [List.getD_eq_default _ _ (Nat.not_lt.mp lt)]
        exact ⟨rfl, rfl, rfl⟩
    exact State.drainForStop_free here.2.2 here.2.1 here.1
  have free : ¬ (s.pln.parts.any fun q => q.state != .free) = true := by
    rw [List.any_eq_true]
    rintro ⟨q, mem, busy⟩
    rw [(parts q mem).1] at busy
    exact absurd busy (by decide)
  unfold State.shutdownOn
  rw [none_]
  dsimp only
  rw [sats, recs, drained]
  exact (if_neg (by decide)).trans ((if_neg (by simp)).trans ((if_neg free).trans (if_pos closed)))

/-- Disabling a port that is disabled changes its register alone. -/
theorem State.disablePort_disabled {s : State} {p : Nat} (off : (s.port p).state = .disabled) : s.disablePort p = s.setFld (Reg.lnkPCtrl p) 0 0 0 := by
  rw [State.disablePort]
  simp only [off]

theorem State.disablePorts_disabled (l : List Nat) : ∀ s : State, (∀ p ∈ l, (s.port p).state = .disabled) → (l.foldl State.disablePort s).lnk = s.lnk := by
  induction l with
  | nil => exact fun s _ => rfl
  | cons p l ih =>
    intro s off
    rw [List.foldl_cons, State.disablePort_disabled (off p List.mem_cons_self)]
    exact ih _ fun q mem => off q (List.mem_cons_of_mem _ mem)

theorem shapeOk_tables {s : State} (shape : s.shapeOk = true) :
    s.cmd.windows.length = 32 ∧ s.lnk.ports.length = 64 ∧ s.pln.parts.length = 16 ∧ s.host.fns.length = 17 := by
  simp only [State.shapeOk, Bool.and_eq_true, beq_iff_eq] at shape
  obtain ⟨⟨⟨⟨⟨windows, ports⟩, parts⟩, fns⟩, -⟩, -⟩ := shape
  exact ⟨windows, ports, parts, fns⟩

theorem shutdownDeadline_stops (s : State) (d : Shutdown) (going : s.sec.shutdown = some d) (orderly : d.immediate = false) (waits : d.deadlinePassed = false)
    (run : s.sec.run = .stopping) (sats : s.sat.sats = []) (recs : s.sat.recs = []) (parts : ∀ q ∈ s.pln.parts, q.state = .free ∧ q.composing = none ∧ q.held = none)
    (ports : ∀ p, p < 64 → (s.port p).state = .disabled) (shape : s.shapeOk = true) :
    ∃ t, exec .shutdownDeadline s = .next t ∧ t.sec.run = .stopped ∧ t.sec.keys = [] ∧ t.stk.time = max s.stk.time (d.startedAt + d.deadlineMs * 1000000) ∧
      t.fls.holdForever = true ∧ s.Only [.stk, .bar, .fls, .lnk, .cmd, .sec, .host, .out] t := by
  have unfolded : exec .shutdownDeadline s = execShutdownDeadline s := rfl
  generalize passed : (s.at_ (d.startedAt + d.deadlineMs * 1000000)).modShutdown (fun y => { y with deadlinePassed := true }) = s1
  have runs : exec .shutdownDeadline s = .next s1.shutdownOn := by
    rw [unfolded, execShutdownDeadline, going]
    refine (if_neg (by simp [orderly, run, waits])).trans ?_
    rw [waits, ← passed]
    rfl
  have changed : s.Only [.stk, .sec] s1 := by rw [← passed]; simp [State.Only, State.modShutdown, State.at_]
  have lnk : s1.closePorts.lnk = s.lnk := by
    refine (State.disablePorts_disabled (List.range 64) _ fun p mem => ?_).trans changed.lnk
    exact (congrArg Port.state (State.port_congr (congrArg Lnk.ports changed.lnk) p)).trans (ports p (List.mem_range.mp mem))
  have closed : s1.closePorts.lnk.ports.all (fun p => p.state == .disabled) = true := by
    rw [lnk, List.all_eq_true]
    intro x mem
    obtain ⟨p, lt, rfl⟩ := List.getElem_of_mem mem
    have count : s.lnk.ports.length = 64 := (shapeOk_tables shape).2.1
    have here := ports p (lt.trans_eq count)
    rw [State.port, List.getD_eq_getElem _ _ lt] at here
    exact beq_iff_eq.mpr here
  have stops := State.shutdownOn_stops (s := s1) ((congrArg SatSt.sats changed.sat).trans sats) ((congrArg SatSt.recs changed.sat).trans recs)
    (by rw [changed.pln]; exact parts) closed
  have sec : s1.closePorts.sec = s1.sec := s1.closePorts_sec
  obtain ⟨stopped, keys, fls⟩ := State.stopped_some (s := s1.closePorts) (by rw [sec, ← passed]; exact Option.isSome_map.trans (by rw [show (s.at_ _).sec = s.sec from rfl, going]; rfl))
    (by rw [sec, ← passed]; exact fun e => absurd (run.symm.trans e) (by decide))
  have closes := ((s1.keeps_self [.bar, .fls, .lnk]).closePorts (sub_self _)).only
  refine ⟨_, runs.trans (congrArg Host.Outcome.next stops), stopped, keys, ?_, ?_, ?_⟩
  · rw [s1.closePorts.stopped_only.stk, closes.stk, ← passed]
    rfl
  · rw [fls, s1.closePorts_fls]
    exact Bool.or_true _
  · exact ((changed.mono (by decide)).trans (closes.mono (by decide))).trans (s1.closePorts.stopped_only.mono (by decide))

/-- Settles O56: identity, tenant keys, debug tokens, management requests and shut-down. -/
theorem identityKeysAndShutdown : Obligations.IdentityKeysAndShutdown :=
  ⟨identityGet_reads, tenantKeySet_keeps, debugUnlockToken_waits, spdmRequest_answers, fun _ on => pldmRequest_reads on rfl, pldmRequest_readings, mctpControl_answers,
    deviceShutdown_shuts, shutdownDeadline_stops⟩

end Sys2Proof.Machine
end

section
/-!
PROOFS. Function resets (O53): the clause on FLR_SWAP_TIMEOUT asks for the end of a satchel that takes no substitute whether or not it still lives.
-/
namespace Sys2Proof.Machine

/-- A satchel that is done and takes no substitute, with a row in the host swap area. -/
def doneSat : Sat := { tornSat with state := .done, noSubst := true, rows := [⟨.swapHost, 0, 0⟩] }

/-- That satchel in slot 0, while the function of its partition drains. -/
def doneState : State :=
  { State.reset with sat := { SatSt.reset with sats := [(0, doneSat)] }
                     host := { HostIf.reset with fns := [⟨true, false, false⟩, ⟨true, true, false⟩] } }

theorem doneState_found : doneState.satAt 0 = some doneSat := rfl

/-- A satchel that is done has nowhere lower to go. -/
theorem State.lowerTier_ended {s : State} {slot : Nat} {x : Sat} (found : s.satAt slot = some x) (ended : x.state.live = false) : s.lowerTier slot = s := by
  rw [State.lowerTier, State.withSlot_some _ found]
  exact if_pos ended

theorem doneState_stays : exec (.flrSwapTimeout 1 0) doneState = .next doneState := by
  have unfolded : exec (.flrSwapTimeout 1 0) doneState = execFlrSwapTimeout 1 0 doneState := rfl
  have slot : doneState.findSlot 1 = some 0 := by decide
  rw [unfolded, execFlrSwapTimeout, slot]
  refine congrArg Host.Outcome.next ((State.withSlot_some _ doneState_found).trans ?_)
  exact (if_pos ⟨rfl, rfl⟩).trans (State.lowerTier_ended doneState_found rfl)

/-- Refutes O53: a satchel that is done, with a row still in host swap and no substitute, stays as it is where the statement ends it once more, with another
final record. -/
theorem not_functionResets : ¬ Obligations.FunctionResets := by
  unfold Obligations.FunctionResets
  rintro ⟨-, -, -, -, timeout, -⟩
  obtain ⟨ends, -⟩ := timeout doneState 1 0 0 doneSat ⟨.swapHost, 0, 0⟩ (by decide) doneState_found rfl rfl rfl
  have same : doneState = doneState.endWith 0 .tierError := Host.Outcome.next.inj (doneState_stays.symm.trans (ends rfl))
  have after : (doneState.endWith 0 .tierError).satAt 0 = some (doneSat.finished .done [finalRec doneSat .tierError doneState.strokeNow]) := by
    rw [State.endWith, State.withSlot_some _ doneState_found, State.satAt_finish _ _ doneState_found, if_pos rfl, if_neg (by decide)]
  rw [← same, doneState_found] at after
  have recs := congrArg Sat.outRecs (Option.some.inj after)
  cases recs

end Sys2Proof.Machine
end

section
/-!
PROOFS. What freed pages and the way to a lower tier leave of partitions, registers and the live mask.
-/
namespace Sys2Proof.Machine

/-! ### What the freeing of pages leaves -/

/-- What freed pages leave of a partition: what is said of its instances and its shards. -/
structure Part.SameShards (x y : Part) : Prop where
  instance_ : y.instance_ = x.instance_
  shardList : y.shardList = x.shardList
  deadShards : y.deadShards = x.deadShards

theorem Part.SameShards.refl (x : Part) : x.SameShards x := ⟨rfl, rfl, rfl⟩

theorem Part.SameShards.trans {x y z : Part} (h : x.SameShards y) (k : y.SameShards z) : x.SameShards z :=
  ⟨k.instance_.trans h.instance_, k.shardList.trans h.shardList, k.deadShards.trans h.deadShards⟩

/-- What a satchel's way to a lower tier leaves: the registers, the live mask, the fabric, and each partition's shards. -/
structure State.Lowers (s t : State) : Prop where
  bar : t.bar = s.bar
  live : t.sat.live = s.sat.live
  lnk : t.lnk = s.lnk
  parts : ∀ p, (s.part p).SameShards (t.part p)

theorem State.Lowers.refl (s : State) : s.Lowers s := ⟨rfl, rfl, rfl, fun _ => .refl _⟩

theorem State.Lowers.trans {s t u : State} (h : s.Lowers t) (k : t.Lowers u) : s.Lowers u :=
  ⟨k.bar.trans h.bar, k.live.trans h.live, k.lnk.trans h.lnk, fun p => (h.parts p).trans (k.parts p)⟩

theorem State.Lowers.ite {s t u : State} {c : Prop} [Decidable c] (h : s.Lowers t) (k : s.Lowers u) : s.Lowers (if c then t else u) := by
  split
  · exact h
  · exact k

theorem State.lowers_foldl {α : Type} (f : State → α → State) (l : List α) (s : State) (each : ∀ t a, State.Lowers t (f t a)) : s.Lowers (l.foldl f s) := by
  induction l generalizing s with
  | nil => exact .refl s
  | cons a l ih => exact (each s a).trans (ih (f s a))

theorem State.lowers_of_parts {s t : State} (bar : t.bar = s.bar) (live : t.sat.live = s.sat.live) (lnk : t.lnk = s.lnk) (parts : t.pln.parts = s.pln.parts) : s.Lowers t :=
  ⟨bar, live, lnk, fun p => by rw [State.part, State.part, parts]; exact .refl _⟩

/-- A change that stays away from partitions, registers, fabric and satchels. -/
theorem State.lowers_of_only {s t : State} {l : List Group} (only : s.Only l t) (away : l ⊆ [.kva, .fls, .cmd, .host, .out, .memory, .freeCtr]) : s.Lowers t := by
  have wide := only.mono away
  exact ⟨wide.bar, congrArg SatSt.live wide.sat, wide.lnk, fun p => by rw [State.part_congr wide.pln]; exact .refl _⟩

theorem State.lowers_modPart (s : State) (p : Nat) (f : Part → Part) (same : ∀ x : Part, x.SameShards (f x)) : s.Lowers (s.modPart p f) := by
  refine ⟨rfl, rfl, rfl, fun q => ?_⟩
  rw [State.part_modPart]
  split
  · exact same _
  · exact .refl _

theorem State.lowers_freeRow (s : State) (p first : Nat) : s.Lowers (s.freeRow p first) := by
  rw [State.freeRow]
  refine .ite (.refl s) (.trans (s.lowers_modPart p (fun y => { y with used := y.used.erase ((first - (s.part p).base) / (s.part p).rowFrames) }) fun x => ⟨rfl, rfl, rfl⟩) ?_)
  exact State.lowers_of_parts rfl rfl rfl rfl

theorem State.lowers_setKva (s : State) (k : Kva) : s.Lowers { s with kva := k } := State.lowers_of_parts rfl rfl rfl rfl

theorem State.lowers_inkRelease (s : State) (first : Nat) : s.Lowers (s.inkRelease first) := by
  rw [State.inkRelease]
  generalize left : ({ s with kva := _ } : State) = s1
  have changed : s.Lowers s1 := by rw [← left]; exact State.lowers_of_parts rfl rfl rfl rfl
  refine changed.trans ?_
  rw [State.inkReclaim]
  split
  · refine .ite ?_ (.refl s1)
    exact (s1.lowers_setKva _).trans (State.lowers_freeRow _ _ _)
  · exact .refl s1

theorem State.lowers_t2Free (s : State) (ext : Nat) (units : List Nat) : s.Lowers (s.t2Free ext units) :=
  State.lowers_of_only ((s.keeps_self _).t2Free (sub_self _) ext units).only (by decide)

theorem State.lowers_dropRow (s : State) (p : Nat) (r : Row) : s.Lowers (s.dropRow p r) := by
  rw [State.dropRow]
  split
  · exact s.lowers_freeRow p r.loc
  · exact s.lowers_inkRelease r.loc
  · exact s.lowers_modPart p _ fun x => ⟨rfl, rfl, rfl⟩
  · refine (s.lowers_t2Free (swapExtent p) (runFrom r.loc (s.part p).rowUnitsT2)).trans ((State.lowers_setKva _ _).trans (State.lowers_modPart _ p _ fun x => ⟨rfl, rfl, rfl⟩))
  · exact .refl s

theorem State.lowers_dropSwapOut (s : State) (x : KvCtx) : s.Lowers (s.dropSwapOut x) := State.lowers_foldl _ _ s fun t e => t.lowers_dropRow _ _

theorem State.lowers_freeLodging (s : State) (id : SatchelId) : s.Lowers (s.freeLodging id) := by
  rw [State.freeLodging]
  dsimp only
  refine .trans ?_ (State.lowers_foldl _ _ _ fun t y => ?_)
  · exact State.lowers_of_parts rfl rfl rfl rfl
  · exact State.lowers_foldl _ _ t fun t r => t.lowers_dropRow _ r

theorem State.lowers_endLodging (s : State) (dev : DeviceId) (id : SatchelId) : s.Lowers (s.endLodging dev id) := by
  rw [State.endLodging]
  exact .ite (s.lowers_freeLodging id) (State.lowers_of_parts rfl rfl rfl rfl)

theorem State.lowers_modCtx (s : State) (c : Nat) (f : KvCtx → KvCtx) : s.Lowers (s.modCtx c f) := by
  rw [State.modCtx]
  exact .ite (State.lowers_of_parts rfl rfl rfl rfl) (State.lowers_of_parts rfl rfl rfl rfl)

theorem State.lowers_freeBlocks (s : State) (c : Nat) : s.Lowers (s.freeBlocks c) := by
  cases found : s.ctxAt c with
  | none => rw [State.freeBlocks, State.withCtx_none _ found]; exact .refl s
  | some x =>
    rw [State.freeBlocks, State.withCtx_some _ found]
    dsimp only
    refine .trans ?_ (State.lowers_modCtx _ _ _)
    exact (s.lowers_t2Free 992 x.cold).trans (State.lowers_of_parts rfl rfl rfl rfl)

theorem State.lowers_toOthers (s : State) (c : Nat) (x : KvCtx) (i : ShardInstr) : s.Lowers (s.toOthers c x i) :=
  State.lowers_of_only ((s.keeps_self _).toOthers (sub_self _) c x i).only (by decide)

theorem State.lowers_freeCtx (s : State) (c : Nat) : s.Lowers (s.freeCtx c) := by
  cases found : s.ctxAt c with
  | none => rw [State.freeCtx, State.withCtx_none _ found]; exact .refl s
  | some x =>
    rw [State.freeCtx, State.withCtx_some _ found]
    dsimp only
    refine .trans ?_ (State.lowers_modCtx _ _ _)
    refine .trans ?_ (State.lowers_freeBlocks _ c)
    refine .trans ?_ (State.lowers_toOthers _ c x _)
    refine .trans ?_ (.ite (State.lowers_endLodging _ _ _) (.refl _))
    refine .trans ?_ (State.lowers_dropSwapOut _ x)
    refine .trans ?_ (State.lowers_foldl _ _ _ fun t h => t.lowers_freeRow _ h)
    refine .trans ?_ (State.lowers_foldl _ _ _ fun t r => t.lowers_dropRow _ r)
    exact State.lowers_foldl _ _ _ fun t r => t.lowers_dropRow _ r

theorem State.lowers_done (s : State) (r : ReplyTo) (st : Status) : s.Lowers (s.done r st) :=
  ⟨s.done_bar r st, congrArg SatSt.live (s.done_only r st).sat, (s.done_only r st).lnk, fun p => by rw [State.part_congr (s.done_only r st).pln]; exact .refl _⟩

theorem State.lowers_endMove (s : State) (x : Sat) (st : Status) : s.Lowers (s.endMove x st) := by
  rw [State.endMove]
  split
  · split
    · exact s.lowers_done _ _
    · exact .refl s
  · exact .refl s

theorem State.lowers_finish (s : State) (slot : Nat) (st : SatState) (recs : List StreamRec) : s.Lowers (s.finish slot st recs) := by
  cases found : s.satAt slot with
  | none => rw [State.finish, State.withSlot_none _ found]; exact .refl s
  | some x =>
    rw [State.finish, State.withSlot_some _ found]
    dsimp only
    split
    · refine .trans ?_ (State.lowers_freeCtx _ _)
      exact (s.lowers_endMove x _).trans (State.lowers_of_parts rfl rfl rfl rfl)
    · exact (s.lowers_endMove x _).trans (State.lowers_of_parts rfl rfl rfl rfl)

theorem State.lowers_endWith (s : State) (slot : Nat) (st : Status) : s.Lowers (s.endWith slot st) := by
  cases found : s.satAt slot with
  | none => rw [State.endWith, State.withSlot_none _ found]; exact .refl s
  | some x => rw [State.endWith, State.withSlot_some _ found]; exact s.lowers_finish _ _ _

theorem State.lowers_lowerTier (s : State) (slot : Nat) : s.Lowers (s.lowerTier slot) := by
  cases found : s.satAt slot with
  | none => rw [State.lowerTier, State.withSlot_none _ found]; exact .refl s
  | some x =>
    rw [State.lowerTier, State.withSlot_some _ found]
    exact .ite (.refl s) (.ite (s.lowers_endWith _ _) ((s.lowers_freeCtx _).trans (State.lowers_of_parts rfl rfl rfl rfl)))

end Sys2Proof.Machine
end

section
/-!
PROOFS. Instances, adapters, budgets and tenant grants (O19).
-/
namespace Sys2Proof.Machine

theorem State.part_in {s : State} {p : Nat} (used : s.part p ≠ Part.reset) : p < s.pln.parts.length := by
  by_contra out
  exact used (List.getD_eq_default _ _ (Nat.not_lt.mp out))

/-- A partition that takes commands is in the table. -/
theorem State.partRefusal_in {s : State} {p : Nat} (free : s.partRefusal p = none) : p < s.pln.parts.length := by
  refine State.part_in fun none_ => ?_
  have refused : s.partRefusal p = some .badField := by
    rw [State.partRefusal, none_]
    rfl
  exact nomatch free.symm.trans refused

theorem State.part_modPart_in (s : State) {p : Nat} (f : Part → Part) (inside : p < s.pln.parts.length) : (s.modPart p f).part p = f (s.part p) := by
  rw [State.part_modPart, if_pos ⟨rfl, inside⟩]

/-! ### Messages that name the stroke -/

/-- Messages sent one after another while the stroke stands. -/
theorem State.foldl_emitNow {α : Type} (g : Nat → α → Out) (l : List α) (s : State) :
    l.foldl (fun x a => x.emit (g x.strokeNow a)) s = { s with out := s.out ++ l.map (g s.strokeNow) } := by
  induction l generalizing s with
  | nil => simp
  | cons a l ih =>
    rw [List.foldl_cons, ih]
    simp only [State.emit, List.map_cons, List.append_assoc, List.singleton_append]
    rfl

/-! ### Instances (R225) -/

theorem instanceSet_sets (s s1 : State) (h : Header) (r : ReplyTo) (k : Nat) (dev : DeviceId) (dp : Fin 16) (rsv : Nat)
    (hs : s.Serves ⟨0x0104, 2, true, false, 8, rsv, 0, false⟩ h false r s1) (ready : s1.partRefusal h.part.val = none) (idle : (s1.part h.part.val).instance_ = none)
    (known : dev.toNat < 2 ^ 14) :
    ((s1.part h.part.val).shard ≠ 0 → exec (.instanceSet h k dev dp.val true true rsv) s = .next (s1.done r .badField)) ∧
    ((s1.part h.part.val).shard = 0 → k ∈ (s1.part h.part.val).deadShards →
      ∃ t, exec (.instanceSet h k dev dp.val true true rsv) s = .next t ∧
        t.part h.part.val = { s1.part h.part.val with instance_ := some (k, ⟨dev, dp⟩, { r with left := r.left - 1 }) } ∧ (∀ q, q ≠ h.part.val → t.part q = s1.part q) ∧
        (∀ e ∈ ((s1.part h.part.val).shardList.set k ⟨dev, dp⟩).drop 1,
          Out.shardPlan e s1.strokeNow [shardDo 0 0 (.shards ((s1.part h.part.val).shardList.set k ⟨dev, dp⟩))] ∈ t.out)) := by
  have free : ¬ (s1.part h.part.val).instance_.isSome = true := by rw [idle]; decide
  refine ⟨fun part => ?_, fun own dead => ?_⟩
  · refine congrArg Host.Outcome.next ((State.serve_of_serves hs _).trans ?_)
    dsimp only
    rw [Header.target, ready]
    exact (if_neg free).trans (if_pos (Or.inl part))
  · have device : (Fin.ofNat 16 dp.val : Fin 16) = dp := Fin.ext (Nat.mod_eq_of_lt dp.isLt)
    have legal : ¬ ((s1.part h.part.val).shard ≠ 0 ∨ (s1.part h.part.val).deadShards.contains k = false ∨ 2 ^ 14 ≤ dev.toNat ∨ 15 < dp.val ∨ true = false ∨ true = false) := by
      have listed : (s1.part h.part.val).deadShards.contains k = true := List.contains_iff_mem.mpr dead
      have low := dp.isLt
      rintro (a | a | a | a | a | a)
      · exact a own
      · exact Bool.noConfusion (listed.symm.trans a)
      · omega
      · omega
      · cases a
      · cases a
    let d : DevPart := ⟨dev, dp⟩
    let tells (n : Nat) (e : DevPart) : Out := .shardPlan e n [shardDo 0 0 (.shards ((s1.part h.part.val).shardList.set k d))]
    let s2 := (s1.accepted r).1.modPart h.part.val fun y => { y with instance_ := some (k, d, { r with left := r.left - 1 }) }
    have run : exec (.instanceSet h k dev dp.val true true rsv) s =
        .next { s2 with out := s2.out ++ (((s1.part h.part.val).shardList.set k d).drop 1).map (tells s2.strokeNow) } := by
      refine congrArg Host.Outcome.next ((State.serve_of_serves hs _).trans ?_)
      dsimp only
      rw [Header.target, ready]
      refine (if_neg free).trans ((if_neg legal).trans ?_)
      rw [device]
      exact State.foldl_emitNow tells _ s2
    have parts := (s1.only_accepted r).pln
    refine ⟨_, run, ?_, fun q other => ?_, fun e mem => ?_⟩
    · refine (State.part_modPart_in _ _ ?_).trans ?_
      · rw [parts]
        exact State.partRefusal_in ready
      · rw [State.part_congr parts]
    · exact (State.part_modPart_ne _ _ other).trans (State.part_congr parts q)
    · have now : s2.strokeNow = s1.strokeNow := by
        show (s1.accepted r).1.strokeNow = _
        rw [State.strokeNow, (s1.only_accepted r).stk]
        rfl
      rw [← now]
      exact List.mem_append_right _ (List.mem_map_of_mem mem)

theorem State.setDegraded_part (s : State) (p : Nat) (inside : p < s.pln.parts.length) :
    (s.setDegraded p).part p = { s.part p with degraded := !(s.part p).deadShards.isEmpty || (s.part p).weightsLost } ∧ (∀ q, q ≠ p → (s.setDegraded p).part q = s.part q) := by
  rw [State.setDegraded]
  split
  · next same =>
    refine ⟨?_, fun _ _ => rfl⟩
    rw [← same]
  · have written (t : State) : (t.writeParams p).pln = t.pln := ((t.keeps_self _).writeParams (sub_self _) p).only.pln
    refine ⟨?_, fun q other => ?_⟩
    · rw [State.part_congr (written _), State.part_modPart_in _ _ inside]
    · rw [State.part_congr (written _), State.part_modPart_ne _ _ other]

theorem instanceSetComplete_ends (s : State) (p : Fin 16) (k : Nat) (d : DevPart) (r : ReplyTo) (setting : (s.part p.val).instance_ = some (k, d, r)) :
    ∃ t, exec (.instanceSetComplete p) s = .next t ∧ (t.part p.val).instance_ = none ∧ (t.part p.val).shardList = (s.part p.val).shardList.set k d ∧
      k ∉ (t.part p.val).deadShards ∧ s.Only [.bar, .sat, .kva, .pln, .memory, .fls, .cmd, .host, .out] t := by
  have unfolded : exec (.instanceSetComplete p) s = execInstanceSetComplete p s := rfl
  have inside : p.val < s.pln.parts.length := State.part_in fun none_ => by rw [none_] at setting; cases setting
  let s1 := s.modPart p.val fun q => { q with instance_ := none, shardList := q.shardList.set k d, deadShards := q.deadShards.filter fun i => i != k }
  let s2 := (s1.setDegraded p.val).writeParams p.val
  let mine := s2.sat.sats.filter fun e => e.2.part == p && e.2.state.live && e.2.admitting.isNone
  let s3 := mine.foldl (fun (a : State) e => a.lowerTier e.1) s2
  have run : exec (.instanceSetComplete p) s = .next (s3.answer r .ok true []) := by
    rw [unfolded, execInstanceSetComplete, setting]
  have goes : s.Only [.bar, .sat, .kva, .pln, .memory, .fls, .cmd, .host, .out] (s3.answer r .ok true []) :=
    (((((s.keeps_self [.bar, .sat, .kva, .pln, .memory, .fls, .cmd, .host, .out]).modPart (by decide) _ _).setDegraded (by decide) p.val).writeParams (by decide) p.val).foldl mine _
      fun t e kt => kt.lowerTier (by decide) e.1).answer (by decide) r .ok true [] |>.only
  have placed : s1.part p.val = { s.part p.val with instance_ := none, shardList := (s.part p.val).shardList.set k d, deadShards := (s.part p.val).deadShards.filter fun i => i != k } :=
    State.part_modPart_in _ _ inside
  have here2 : s2.part p.val = { s1.part p.val with degraded := !(s1.part p.val).deadShards.isEmpty || (s1.part p.val).weightsLost } :=
    (State.part_congr (((s1.setDegraded p.val).keeps_self _).writeParams (sub_self _) p.val).only.pln p.val).trans
      (s1.setDegraded_part p.val (inside.trans_eq (List.length_modify _ _ _).symm)).1
  have lowered : s2.Lowers s3 := State.lowers_foldl _ mine s2 fun t e => t.lowers_lowerTier e.1
  have last : (s3.answer r .ok true []).part p.val = s3.part p.val := State.part_congr (s3.answer_only r .ok true []).pln p.val
  obtain ⟨idle, list, dead⟩ := lowered.parts p.val
  refine ⟨_, run, ?_, ?_, ?_, goes⟩
  · rw [last, idle, here2, placed]
  · rw [last, list, here2, placed]
  · rw [last, dead, here2, placed]
    exact fun mem => absurd (List.mem_filter.mp mem).2 (by simp)

/-! ### Lost weights (R286) -/

theorem weightRefetchTimeout_degrades (s : State) (p : Fin 16) (addr n : Nat) (poisoned : (s.part p.val).poisonWeights.find? (fun e => e.1 == addr) = some (addr, n)) :
    (s.strokeNow < n + 3 → exec (.weightRefetchTimeout p addr) s = .next s) ∧
    (n + 3 ≤ s.strokeNow → ∃ t, exec (.weightRefetchTimeout p addr) s = .next t ∧ (t.part p.val).degraded = true ∧ (t.part p.val).weightsLost = true ∧
      (∀ q, q ≠ p.val → t.part q = s.part q) ∧ s.Only [.bar, .pln, .memory, .blt] t) := by
  have unfolded : exec (.weightRefetchTimeout p addr) s = execWeightRefetchTimeout p addr s := rfl
  have inside : p.val < s.pln.parts.length := State.part_in fun none_ => by rw [none_] at poisoned; cases poisoned
  rw [unfolded, execWeightRefetchTimeout]
  simp only [poisoned]
  refine ⟨fun early => if_pos early, fun late => ?_⟩
  let s1 := s.post { fault 0x3C0 0x803 2 addr with tag := .part p, status := .tierError }
  let s2 := s1.modPart p.val fun q => { q with weightsLost := true, poisonWeights := q.poisonWeights.filter fun w => w.1 != addr }
  have pln1 : s1.pln = s.pln := State.post_pln _ _
  have inside1 : p.val < s1.pln.parts.length := by rw [pln1]; exact inside
  have lost : (s2.part p.val).weightsLost = true := by rw [State.part_modPart_in _ _ inside1]
  obtain ⟨own, others⟩ := s2.setDegraded_part p.val (inside1.trans_eq (List.length_modify _ _ _).symm)
  refine ⟨s2.setDegraded p.val, if_neg (Nat.not_lt.mpr late), ?_, ?_, fun q other => ?_, ?_⟩
  · rw [own, lost]
    exact Bool.or_true _
  · rw [own]
    exact lost
  · rw [others q other, State.part_modPart_ne _ _ other, State.part_congr pln1]
  · exact ((((s.keeps_self [.bar, .pln, .memory, .blt]).post (by decide) _).modPart (by decide) _ _).setDegraded (by decide) p.val).only

/-! ### Adapters (R245 to R247) -/

theorem adapterLoad_loads (s s1 : State) (h : Header) (r : ReplyTo) (adapter : BitVec 16) (rank : Nat) (version : BitVec 32) (srcAddr : BitVec 64) (rsv : Nat)
    (hs : s.Serves ⟨0x0200, 2, true, false, 24, rsv, b2n (0 == 0 && srcAddr != 0), false⟩ h false r s1) (ready : s1.partRefusal h.part.val = none)
    (fresh : (s1.part h.part.val).currentAdapter adapter = none) :
    (4095 < adapter.toNat ∨ rank = 0 ∨ 256 < rank → exec (.adapterLoad h adapter rank version 0 false 0 0 srcAddr rsv) s = .next (s1.done r .badField)) ∧
    (adapter.toNat ≤ 4095 → 1 ≤ rank → rank ≤ 256 → (s1.part h.part.val).adapters = [] → (s1.part h.part.val).loading = [] →
      ∃ t, exec (.adapterLoad h adapter rank version 0 false 0 0 srcAddr rsv) s = .next t ∧
        t.part h.part.val = { s1.part h.part.val with loading := [⟨adapter, version, rank, false, { r with left := r.left - 1 }⟩] } ∧ (∀ q, q ≠ h.part.val → t.part q = s1.part q) ∧
        s.Only [.bar, .stk, .pln, .cmd, .host, .out] t) := by
  refine ⟨fun bad => ?_, fun low least most none_ idle => ?_⟩
  · refine congrArg Host.Outcome.next ((State.serve_of_serves hs _).trans ?_)
    dsimp only
    rw [Header.target, ready]
    refine if_pos ?_
    obtain a | a | a := bad
    · exact Or.inl a
    · exact Or.inr (Or.inl a)
    · exact Or.inr (Or.inr (Or.inl a))
  · let s2 := (s1.accepted r).1.modPart h.part.val fun z => { z with loading := z.loading ++ [⟨adapter, version, rank, false, { r with left := r.left - 1 }⟩] }
    let forward (d : DevPart) : Out := .adapterForward d adapter version rank 0 false 0 (Fin.ofNat 16 0) srcAddr
    let s3 := if (s1.part h.part.val).shard ≠ 0 then s2 else { s2 with out := s2.out ++ ((s1.part h.part.val).shardList.drop 1).map forward }
    have run : exec (.adapterLoad h adapter rank version 0 false 0 0 srcAddr rsv) s = .next s3 := by
      refine congrArg Host.Outcome.next ((State.serve_of_serves hs _).trans ?_)
      dsimp only
      rw [Header.target, ready]
      refine (if_neg ?_).trans ((if_neg ?_).trans ?_)
      · rw [fresh]
        rintro (a | a | a | a | a | a | a)
        · omega
        · omega
        · omega
        · omega
        · omega
        · omega
        · cases a
      · rw [none_, idle]
        rintro (⟨-, full⟩ | full)
        · exact absurd full (by decide)
        · exact absurd full (by decide)
      · exact ite_congr rfl (fun _ => rfl) fun _ => State.foldl_emit forward _ s2
    have parts := (s1.only_accepted r).pln
    have only2 : s.Only [.bar, .stk, .pln, .cmd, .host, .out] s2 :=
      (hs.only.mono (by decide)).trans (((s1.only_accepted r).mono (by decide)).trans (by simp [State.Only, s2, State.modPart]))
    have pln3 : s3.pln = s2.pln := by simp only [s3]; split <;> rfl
    refine ⟨s3, run, ?_, fun q other => ?_, ?_⟩
    · rw [State.part_congr pln3]
      refine (State.part_modPart_in _ _ ?_).trans ?_
      · rw [parts]
        exact State.partRefusal_in ready
      · rw [State.part_congr parts, idle]
        rfl
    · exact ((State.part_congr pln3 q).trans (State.part_modPart_ne _ _ other)).trans (State.part_congr parts q)
    · simp only [s3]
      split
      · exact only2
      · exact only2.trans (by simp [State.Only])

/-- What the first of the instances tells the shards of an adapter. -/
theorem State.tellAdapter_eq (s : State) (p : Nat) (id : BitVec 16) (version : BitVec 32) (act : AdapterAct) :
    s.tellAdapter p id version act = { s with out := s.out ++ (if (s.part p).shard ≠ 0 then [] else
      ((s.part p).shardList.drop 1).map fun d => Out.shardPlan d s.strokeNow [shardDo 0 0 (.adapter id version act)]) } := by
  rw [State.tellAdapter]
  split
  · rw [List.append_nil]
  · exact State.foldl_emit _ _ s

theorem State.tellAdapter_tells {s : State} {p : Nat} (id : BitVec 16) (version : BitVec 32) (act : AdapterAct) (own : (s.part p).shard = 0) {d : DevPart}
    (mem : d ∈ (s.part p).shardList.drop 1) : Out.shardPlan d s.strokeNow [shardDo 0 0 (.adapter id version act)] ∈ (s.tellAdapter p id version act).out := by
  rw [State.tellAdapter_eq, if_neg fun ne => ne own]
  exact List.mem_append_right _ (List.mem_map_of_mem (f := fun d => Out.shardPlan d s.strokeNow [shardDo 0 0 (.adapter id version act)]) mem)

theorem State.tellAdapter_only (s : State) (p : Nat) (id : BitVec 16) (version : BitVec 32) (act : AdapterAct) : s.Only [.out] (s.tellAdapter p id version act) :=
  ((s.keeps_self _).tellAdapter (sub_self _) p id version act).only

/-! ### What an answer leaves: what was sent, and the grants -/

theorem State.out_msix {s : State} {o : Out} (sent : o ∈ s.out) (fn vector : Nat) : o ∈ (s.msix fn vector).out := by
  rw [State.msix]
  split
  · exact sent
  · split
    · exact sent
    · exact List.mem_append_left _ sent

theorem State.out_writeRecord {s : State} {o : Out} (sent : o ∈ s.out) (key : Nat) (r : Ring) (bytes : List Byte) : o ∈ (s.writeRecord key r bytes).out := by
  unfold State.writeRecord
  extract_lets fn phase rec1 s1 s2 n fire src s3
  have sent3 : o ∈ s3.out := sent
  clear_value s3
  split
  · exact State.out_msix sent3 _ _
  · exact sent3

theorem State.out_putRecord {s : State} {o : Out} (sent : o ∈ s.out) (key : Nat) (bytes : List Byte) : o ∈ (s.putRecord key bytes).out := by
  rw [State.putRecord]
  split
  · split
    · exact sent
    · exact sent
  · split
    · exact State.out_writeRecord sent _ _ _
    · split <;> exact sent

/-- What was sent stays sent when a packet is answered. -/
theorem State.out_answer {s : State} {o : Out} (sent : o ∈ s.out) (r : ReplyTo) (st : Status) (final : Bool) (bytes : List Byte) : o ∈ (s.answer r st final bytes).out := by
  rw [State.answer]
  split
  · exact State.out_putRecord sent _ _
  · exact List.mem_append_left _ sent
  · exact List.mem_append_left _ sent

theorem State.out_done {s : State} {o : Out} (sent : o ∈ s.out) (r : ReplyTo) (st : Status) : o ∈ (s.done r st).out := State.out_answer sent r st true []

theorem State.writeRecord_grants (s : State) (key : Nat) (r : Ring) (bytes : List Byte) : (s.writeRecord key r bytes).cmd.grants = s.cmd.grants := by
  unfold State.writeRecord
  extract_lets fn phase rec1 s1 s2 n fire src s3
  have same : s3.cmd.grants = s.cmd.grants := rfl
  clear_value s3
  split
  · exact (congrArg Cmd.grants ((s3.keeps_self _).msix (sub_self _) _ _).only.cmd).trans same
  · exact same

theorem State.putRecord_grants (s : State) (key : Nat) (bytes : List Byte) : (s.putRecord key bytes).cmd.grants = s.cmd.grants := by
  rw [State.putRecord]
  split
  · split <;> rfl
  · split
    · exact s.writeRecord_grants _ _ _
    · split <;> rfl

theorem State.answer_grants (s : State) (r : ReplyTo) (st : Status) (final : Bool) (bytes : List Byte) : (s.answer r st final bytes).cmd.grants = s.cmd.grants := by
  rw [State.answer]
  split
  · exact s.putRecord_grants _ _
  · rfl
  · rfl

theorem State.granted_done (s : State) (r : ReplyTo) (st : Status) (p : Nat) (t : BitVec 16) : (s.done r st).granted p t = s.granted p t := by
  rw [State.granted, State.granted, State.done, State.answer_grants]

theorem State.only_modPart (s : State) (p : Nat) (f : Part → Part) : s.Only [.pln] (s.modPart p f) := by simp [State.Only, State.modPart]

/-- An adapter that is loaded, among those of a partition, whether it is the first of its instances or not. -/
def Part.loaded (q : Part) (a : AdapterLoad) (own : Bool) : List AdapterVer :=
  (q.adapters.map fun v => if v.id = a.id ∧ own = true then { v with current := false } else v) ++
    [{ id := a.id, version := a.version, rank := a.rank, current := own, swap := a.swap }]

theorem adapterLoadComplete_ends (s : State) (p : Fin 16) (a : AdapterLoad) (result : Status)
    (loading : (s.part p.val).loading.find? (fun b => b.id == a.id && b.version == a.version) = some a) :
    ∃ t, exec (.adapterLoadComplete p a.id a.version result) s = .next t ∧ (t.part p.val).loading = (s.part p.val).loading.erase a ∧
      (result = .ok → (s.part p.val).shard = 0 → (t.part p.val).adapters =
        ((s.part p.val).adapters.map fun v => if v.id = a.id then { v with current := false } else v) ++ [⟨a.id, a.version, a.rank, true, a.swap⟩]) ∧
      (result = .ok → (s.part p.val).shard ≠ 0 → (t.part p.val).adapters = (s.part p.val).adapters ++ [⟨a.id, a.version, a.rank, false, a.swap⟩]) ∧
      ((s.part p.val).shard = 0 → ∀ d ∈ (s.part p.val).shardList.drop 1,
        Out.shardPlan d s.strokeNow [shardDo 0 0 (.adapter a.id a.version (if result = .ok then .current else .free))] ∈ t.out) ∧
      (result ≠ .ok → (t.part p.val).adapters = (s.part p.val).adapters) ∧ (∀ q, q ≠ p.val → t.part q = s.part q) ∧ s.Only [.bar, .pln, .cmd, .host, .out] t := by
  have unfolded : exec (.adapterLoadComplete p a.id a.version result) s = execAdapterLoadComplete p a.id a.version result s := rfl
  have inside : p.val < s.pln.parts.length := State.part_in fun none_ => by rw [none_] at loading; cases loading
  let s1 := s.modPart p.val fun q => { q with loading := q.loading.erase a }
  have here1 : s1.part p.val = { s.part p.val with loading := (s.part p.val).loading.erase a } := State.part_modPart_in _ _ inside
  let s2 := if result = .ok then s1.modPart p.val fun q => { q with adapters := q.loaded a ((s1.part p.val).shard == 0) } else s1
  have run : exec (.adapterLoadComplete p a.id a.version result) s =
      .next ((s2.tellAdapter p.val a.id a.version (if result = .ok then .current else .free)).answer a.reply result true []) := by
    rw [unfolded, execAdapterLoadComplete, loading]
    dsimp only [s2]
    split
    · next ok =>
      rw [ok]
      rfl
    · rfl
  have told := s2.tellAdapter_only p.val a.id a.version (if result = .ok then .current else .free)
  generalize spoke : s2.tellAdapter p.val a.id a.version (if result = .ok then .current else .free) = s3 at run told
  have last := s3.answer_only a.reply result true []
  have parts (q : Nat) : (s3.answer a.reply result true []).part q = s2.part q := (State.part_congr last.pln q).trans (State.part_congr told.pln q)
  have only2 : s.Only [.bar, .pln, .cmd, .host, .out] s2 := by
    dsimp only [s2]
    split
    · exact ((s.only_modPart _ _).trans (s1.only_modPart _ _)).mono (by decide)
    · exact (s.only_modPart _ _).mono (by decide)
  have good (ok : result = .ok) : s2.part p.val = { s1.part p.val with adapters := (s1.part p.val).loaded a ((s1.part p.val).shard == 0) } := by
    dsimp only [s2]
    rw [if_pos ok]
    exact State.part_modPart_in _ _ (inside.trans_eq (List.length_modify _ _ _).symm)
  have bad (fails : result ≠ .ok) : s2.part p.val = s1.part p.val := by
    dsimp only [s2]
    rw [if_neg fails]
  have kept : (s2.part p.val).loading = (s1.part p.val).loading ∧ (s2.part p.val).shard = (s1.part p.val).shard ∧ (s2.part p.val).shardList = (s1.part p.val).shardList := by
    by_cases ok : result = .ok
    · rw [good ok]
      exact ⟨rfl, rfl, rfl⟩
    · rw [bad ok]
      exact ⟨rfl, rfl, rfl⟩
  obtain ⟨keptLoading, keptShard, keptList⟩ := kept
  refine ⟨_, run, ?_, fun ok own => ?_, fun ok other => ?_, fun own d mem => ?_, fun fails => ?_, fun q other => ?_, ?_⟩
  · rw [parts, keptLoading, here1]
  · have zero : ((s1.part p.val).shard == 0) = true := by rw [here1]; exact beq_iff_eq.mpr own
    rw [parts, good ok, zero, here1]
    simp only [Part.loaded, and_true]
  · have nonzero : ((s1.part p.val).shard == 0) = false := by rw [here1]; exact beq_eq_false_iff_ne.mpr other
    rw [parts, good ok, nonzero, here1]
    simp [Part.loaded]
  · refine State.out_answer ?_ _ _ _ _
    have now : s2.strokeNow = s.strokeNow := by rw [State.strokeNow, only2.stk, State.strokeNow]
    rw [← spoke, ← now]
    refine State.tellAdapter_tells _ _ _ ?_ ?_
    · rw [keptShard, here1]
      exact own
    · rw [keptList, here1]
      exact mem
  · rw [parts, bad fails, here1]
  · rw [parts]
    dsimp only [s2]
    split
    · rw [State.part_modPart_ne _ _ other, State.part_modPart_ne _ _ other]
    · rw [State.part_modPart_ne _ _ other]
  · exact only2.trans ((told.mono (by decide)).trans (last.mono (by decide)))

theorem adapterUnload_unloads (s s1 : State) (h : Header) (r : ReplyTo) (adapter : BitVec 16) (rsv : Nat) (hs : s.Serves ⟨0x0201, 1, true, false, 4, rsv, 0, false⟩ h false r s1)
    (ready : s1.partRefusal h.part.val = none) (low : adapter.toNat ≤ 4095) :
    ((s1.part h.part.val).currentAdapter adapter = none → exec (.adapterUnload h adapter rsv) s = .next (s1.done r .alreadyDone)) ∧
    (∀ a, (s1.part h.part.val).currentAdapter adapter = some a →
      ∃ t, exec (.adapterUnload h adapter rsv) s = .next t ∧ (t.part h.part.val).currentAdapter adapter = none ∧ (∀ q, q ≠ h.part.val → t.part q = s1.part q)) := by
  refine ⟨fun absent => ?_, fun a held => ?_⟩
  · refine congrArg Host.Outcome.next ((State.serve_of_serves hs _).trans ?_)
    dsimp only
    rw [Header.target, ready]
    exact (if_neg (Nat.not_lt.mpr low)).trans (if_pos (by rw [absent]; rfl))
  · let s2 := s1.modPart h.part.val fun q => { q with adapters := q.adapters.map fun v => if v.id = adapter then { v with current := false } else v }
    have run : exec (.adapterUnload h adapter rsv) s = .next ((s2.tellAdapter h.part.val adapter 0 .unload).done r .ok) := by
      refine congrArg Host.Outcome.next ((State.serve_of_serves hs _).trans ?_)
      dsimp only
      rw [Header.target, ready]
      exact (if_neg (Nat.not_lt.mpr low)).trans (if_neg (by simp [held]))
    have parts (q : Nat) : ((s2.tellAdapter h.part.val adapter 0 .unload).done r .ok).part q = s2.part q :=
      (State.part_congr (State.done_only _ r .ok).pln q).trans (State.part_congr (s2.tellAdapter_only _ _ _ _).pln q)
    refine ⟨_, run, ?_, fun q other => ?_⟩
    · rw [parts, State.part_modPart_in _ _ (State.partRefusal_in ready), Part.currentAdapter, List.find?_eq_none]
      intro v mem
      obtain ⟨w, -, rfl⟩ := List.mem_map.mp mem
      split
      · simp
      · next ne => simp [ne]
    · rw [parts, State.part_modPart_ne _ _ other]

/-! ### Budgets and grants (R234, R393, R449) -/

theorem tenantBudget_meters (s s1 : State) (h : Header) (r : ReplyTo) (tenant : BitVec 16) (rate burst floor rsv : Nat)
    (hs : s.Serves ⟨0x0400, 1, false, false, 16, rsv, 0, false⟩ h false r s1) :
    (burst = 0 ∨ burst < floor ∨ tenant = 0xFFFF → exec (.tenantBudget h tenant rate burst floor rsv) s = .next (s1.done r .badField)) ∧
    (1 ≤ burst → burst ≤ 0x7FFFFFFF → floor ≤ burst → rate ≤ 0xFFFFFFFF → tenant ≠ 0xFFFF → s1.tenantsFull tenant = false →
      ∃ t q, exec (.tenantBudget h tenant rate burst floor rsv) s = .next t ∧ afind t.pln.tenants tenant.toNat = some q ∧ q.metered = true ∧ q.rate = rate ∧ q.burst = burst ∧
        q.floor = floor ∧ q.level ≤ (burst * 256 : Nat) ∧ (afind s1.pln.tenants tenant.toNat = none → q.level = (burst * 256 : Nat)) ∧
        (∀ k, k ≠ tenant.toNat → afind t.pln.tenants k = afind s1.pln.tenants k) ∧ s.Only [.bar, .stk, .pln, .cmd, .host, .out] t) := by
  refine ⟨fun bad => ?_, fun least most fits rates named room => ?_⟩
  · refine congrArg Host.Outcome.next ((State.serve_of_serves hs _).trans (if_pos ?_))
    obtain a | a | a := bad
    · exact Or.inl a
    · exact Or.inr (Or.inr (Or.inl a))
    · exact Or.inr (Or.inr (Or.inr (Or.inr a)))
  · have legal : ¬ (burst = 0 ∨ 0x7FFFFFFF < burst ∨ burst < floor ∨ 0xFFFFFFFF < rate ∨ tenant = 0xFFFF) := by
      rintro (a | a | a | a | a)
      · omega
      · omega
      · omega
      · omega
      · exact named a
    let old := agetD s1.pln.tenants tenant.toNat TenantRec.new
    let level : Int := if old.metered then min old.level (burst * 256 : Nat) else (burst * 256 : Nat)
    let new : TenantRec := { old with metered := true, rate := rate, burst := burst, floor := floor, level := level }
    let s2 : State := { s1 with pln := { s1.pln with tenants := aput s1.pln.tenants tenant.toNat new } }
    have run : exec (.tenantBudget h tenant rate burst floor rsv) s = .next (s2.answer r .ok true (leBytes 4 (ofSigned 32 (level / 256)))) :=
      congrArg Host.Outcome.next ((State.serve_of_serves hs _).trans ((if_neg legal).trans (if_neg (by rw [room]; decide))))
    have told := s2.answer_only r .ok true (leBytes 4 (ofSigned 32 (level / 256)))
    refine ⟨_, new, run, ?_, rfl, rfl, rfl, rfl, ?_, fun absent => ?_, fun k other => ?_, ?_⟩
    · rw [told.pln]
      exact afind_aput_same _ _ _
    · show level ≤ _
      dsimp only [level]
      split
      · exact min_le_right _ _
      · exact le_refl _
    · show level = _
      have fresh : old = TenantRec.new := by dsimp only [old]; rw [agetD, absent]; rfl
      dsimp only [level]
      rw [fresh]
      rfl
    · rw [told.pln]
      exact afind_aput_ne _ _ other
    · refine (hs.only.mono (by decide)).trans (.trans ?_ (told.mono (by decide)))
      simp [State.Only, s2]

theorem grantKey_inj {p q : Nat} {t u : BitVec 16} (same : grantKey q u = grantKey p t) : q = p ∧ u = t := by
  have low := t.isLt
  have low' := u.isLt
  unfold grantKey at same
  exact ⟨by omega, BitVec.eq_of_toNat_eq (by omega)⟩

/-- A grant of a partition to a tenant. -/
def State.grantTo (s : State) (p : Nat) (t : BitVec 16) : State := { s with cmd := { s.cmd with grants := aput s.cmd.grants (grantKey p t) () } }

theorem partitionTenants_grants (s s1 : State) (h : Header) (r : ReplyTo) (tenant : BitVec 16) (rsv : Nat) (hs : s.Serves ⟨0x0404, 1, false, false, 6, rsv, 0, false⟩ h false r s1)
    (none_ : s1.cmd.grants = []) :
    ∃ t, exec (.partitionTenants h 0 1 [tenant] rsv) s = .next t ∧ t.granted h.part.val tenant = true ∧
      (∀ p u, p < 16 → (p ≠ h.part.val ∨ u ≠ tenant) → t.granted p u = false) := by
  have few : ¬ 1024 < (s1.grantTo h.part.val tenant).grants h.part.val := by
    rw [State.grants, State.grantTo, none_]
    exact Nat.not_lt.mpr (Nat.le_trans (List.length_filter_le _ _) (show (1 : Nat) ≤ 1024 by decide))
  have run : exec (.partitionTenants h 0 1 [tenant] rsv) s = .next ((s1.grantTo h.part.val tenant).done r .ok) :=
    congrArg Host.Outcome.next ((State.serve_of_serves hs _).trans ((if_neg (by simp)).trans (if_neg few)))
  refine ⟨_, run, ?_, fun p u _ other => ?_⟩
  · rw [State.granted_done, State.granted, State.grantTo, afind_aput_same]
    rfl
  · rw [State.granted_done, State.granted, State.grantTo, afind_aput_ne _ _ fun same => ?_, none_]
    · rfl
    · obtain ⟨part, named⟩ := grantKey_inj same
      exact other.elim (fun ne => ne part) (fun ne => ne named)

theorem tenantRelease_releases (s s1 : State) (h : Header) (r : ReplyTo) (tenant : BitVec 16) (rsv : Nat) (hs : s.Serves ⟨0x0405, 1, false, false, 4, rsv, 0, false⟩ h false r s1)
    (none_ : ∀ e ∈ s1.sat.sats, e.2.tenant ≠ tenant) (known : (afind s1.pln.tenants tenant.toNat).isSome = true ∨ (afind s1.sec.keys tenant.toNat).isSome = true) :
    ∃ t, exec (.tenantRelease h tenant rsv) s = .next t ∧ afind t.pln.tenants tenant.toNat = none ∧ afind t.sec.keys tenant.toNat = none ∧ t.sat = s.sat ∧
      s.Only [.bar, .stk, .pln, .cmd, .sec, .host, .out] t := by
  let s2 : State := { s1 with
    pln := { s1.pln with tenants := adel s1.pln.tenants tenant.toNat, tenCnt := adel s1.pln.tenCnt tenant.toNat }
    sec := { s1.sec with keys := adel s1.sec.keys tenant.toNat } }
  have run : exec (.tenantRelease h tenant rsv) s = .next (s2.done r .ok) := by
    refine congrArg Host.Outcome.next ((State.serve_of_serves hs _).trans ((if_neg ?_).trans (if_neg ?_)))
    · rw [List.any_eq_true]
      rintro ⟨e, mem, named⟩
      rw [Bool.and_eq_true, beq_iff_eq] at named
      exact none_ e mem named.1
    · rintro ⟨noBudget, noKey⟩
      rw [Option.isNone_iff_eq_none] at noBudget noKey
      rw [noBudget, noKey] at known
      exact known.elim (fun a => nomatch a) (fun a => nomatch a)
  have told := s2.done_only r .ok
  refine ⟨_, run, ?_, ?_, told.sat.trans hs.only.sat, ?_⟩
  · rw [told.pln]
    exact afind_adel_same _ _
  · rw [told.sec]
    exact afind_adel_same _ _
  · refine (hs.only.mono (by decide)).trans (.trans ?_ (told.mono (by decide)))
    simp [State.Only, s2]

/-- Settles O19: instances, adapters, budgets and tenant grants. -/
theorem instancesAdaptersTenants : Obligations.InstancesAdaptersTenants :=
  ⟨instanceSet_sets, instanceSetComplete_ends, weightRefetchTimeout_degrades, adapterLoad_loads, adapterLoadComplete_ends, adapterUnload_unloads, tenantBudget_meters,
    partitionTenants_grants, tenantRelease_releases⟩

end Sys2Proof.Machine
end

section
/-!
PROOFS. A ring partner's answer (O17): the positions that a query names on its own count as well as the range below its limit.
-/
namespace Sys2Proof.Machine

/-! ### A row whose values are not numbers -/

theorem Num.mul_nan (x : Num) : x.mul .nan = .nan := by cases x <;> rfl

theorem Num.add_nan (x : Num) : x.add .nan = .nan := by cases x <;> rfl

/-- With a value that is not a number, the bound on the output holds for no result: the literal pseudocode gives it. -/
theorem attendRow_literal {kv : KvLayout} {query : List (BitVec 16)} {l : List KvPos} {scale : BitVec 16} (bound : ∀ r, attendOk kv.format query scale l r = false) :
    attendRow kv query l scale = attendLiteral kv.format query scale l := by
  rw [attendRow, bound]
  rfl

/-- What the weights make of the first value of each position, exactly (R205). -/
def attendExact (format : Nat) (query : List (BitVec 16)) (scale : BitVec 16) (l : List KvPos) : Machine.Num :=
  let xs := l.map (scoreNum format query scale)
  let top := xs.foldl (fun a x => if a.lt x then x else a) (.inf true)
  sumNum (List.zipWith (fun w (k : KvPos) => w.mul (kvScaled format k.2.2.2 (k.2.2.1.getD 0 0))) (xs.map fun x => expNum (x.add top.neg)) l)

/-! ### A ring partner that holds one row of two positions -/

/-- A model of one layer with one KV head of dimension 1, two positions to a page. -/
def pairLayout : KvLayout := ⟨1, 1, 1, 2, 1, 0, 1, 0, 0, 1, 2, 0, 0⟩

def pairImage : ModelImage := ⟨0, 0, 0, pairLayout, 0, 0, 0, 0, 0, 0, 0, true, true, [], 0, [], 0, 0⟩

def pairPart : Part := { Part.reset with state := .ready, image := some pairImage }

def pairRow : Row := ⟨.here, 2, 0⟩

def pairSatellite : Satellite := { tornSat.toKvCtx with rows := [pairRow], kvPos := 2, owner := 0, partner := true, reserved := false, deadAt := none }

/-- The keys' scale is 1; that of the values is not a number. -/
def pairScales : ScaleRec := ⟨0, 0, 2, 2, false, false, 1, [(0, 0x3C00), (1, 0x7E00)]⟩

/-- The key's code of position 0 is 0, that of position 1 is 1. -/
def pairDevice : State :=
  { State.reset with
    memory := { MemSt.reset with mem := [(1, 1)] },
    pln := { Pln.reset with parts := [pairPart] },
    kva := { Kva.reset with scales := [(0, pairScales)] },
    sat := { SatSt.reset with satellites := [(0, pairSatellite)] } }

def pairFirst : KvPos := ([0], 0x3C00, [0], 0x7E00)

def pairSecond : KvPos := ([1], 0x3C00, [0], 0x7E00)

/-- Where a value is not a number, no result keeps the bound. -/
theorem not_attendOk_of_nan {format : Nat} {q scale : BitVec 16} {l : List KvPos}
    (nan : attendExact format [q] scale l = .nan) (r : List (BitVec 32)) : attendOk format [q] scale l r = false := by
  match r with
  | [] => rfl
  | [_] => rfl
  | [_, _] => simp [attendOk]
  | _ :: _ :: _ :: _ :: _ => simp [attendOk]
  | [_, s, o] =>
    rw [attendExact] at nan
    simp only [attendOk, List.zipIdx_cons, List.zipIdx_nil, List.all_cons, nan, Num.mul_nan]
    simp only [Num.neg, Num.add_nan, Num.abs, Num.le, Bool.false_and, Bool.and_false]

theorem pair_answer : exec (.ringQueryReceive 0 0 1 0 0 1 0 [1] 0x3C00 [0] [0x3F80]) pairDevice =
    .next (pairDevice.emit (.ringPartial 0 (pairDevice.ringClass 0 0 (4 * (attendRow pairLayout [0x3F80] [pairFirst, pairSecond] 0x3C00).length)) 1
      (attendRow pairLayout [0x3F80] [pairFirst, pairSecond] 0x3C00))) := rfl

theorem pairs_of_pair : attendRow pairLayout [0x3F80] [pairFirst, pairSecond] 0x3C00 = attendLiteral 2 [0x3F80] 0x3C00 [pairFirst, pairSecond] :=
  attendRow_literal (not_attendOk_of_nan (by decide +kernel))

theorem pairs_of_first : attendRow pairLayout [0x3F80] [pairFirst] 0x3C00 = attendLiteral 2 [0x3F80] 0x3C00 [pairFirst] :=
  attendRow_literal (not_attendOk_of_nan (by decide +kernel))

/-- The greatest score of both positions is 1, that of the first alone 0. -/
theorem literal_differs : (attendLiteral 2 [0x3F80] 0x3C00 [pairFirst, pairSecond]).head? ≠ (attendLiteral 2 [0x3F80] 0x3C00 [pairFirst]).head? := by
  have pair : (attendLiteral 2 [0x3F80] 0x3C00 [pairFirst, pairSecond]).head? =
      some (f32Max (f32Max negInf (score32 2 [0x3F80] 0x3C00 pairFirst)) (score32 2 [0x3F80] 0x3C00 pairSecond)) := rfl
  have first : (attendLiteral 2 [0x3F80] 0x3C00 [pairFirst]).head? = some (f32Max negInf (score32 2 [0x3F80] 0x3C00 pairFirst)) := rfl
  rw [pair, first]
  decide +kernel

/-- Refutes O17: a ring query names position 1 on its own next to the range below its limit, which ends before it; both positions of the row that is held are attended to, and the
answer's greatest score is that of position 1. -/
theorem not_engineCommands : ¬ Obligations.EngineCommands := by
  unfold Obligations.EngineCommands
  rintro ⟨-, -, -, -, -, ring⟩
  obtain ⟨-, partner⟩ := ring pairDevice 0 0 1 0 0 1 0 [1] 0x3C00 [0] [0x3F80]
  obtain ⟨-, alone⟩ := partner 0 pairSatellite (pairSatellite.toKvCtx.walk none) pairImage rfl rfl rfl
  have ran := pair_answer.symm.trans (alone 0 pairRow pairScales rfl rfl rfl rfl rfl (by decide) rfl rfl)
  have sent := congrArg State.out (Host.Outcome.next.inj ran)
  simp only [State.emit, List.append_cancel_left_eq, List.cons.injEq, and_true, Out.ringPartial.injEq, true_and] at sent
  have same : attendLiteral 2 [0x3F80] 0x3C00 [pairFirst, pairSecond] = attendLiteral 2 [0x3F80] 0x3C00 [pairFirst] :=
    pairs_of_pair.symm.trans (sent.2.trans pairs_of_first)
  exact literal_differs (congrArg List.head? same)

end Sys2Proof.Machine
end

section
/-!
PROOFS. Custody records (O11): registration, mirrors, probes, and the loss of a record's owner.
-/
namespace Sys2Proof.Machine

/-! ### Custody messages that are taken -/

/-- A well-formed custody message is taken (R80). -/
theorem State.takeC_some {s : State} {m : CMsg} (ready : s.sat.ready = true) (rsv : m.rsv = 0) (state : m.state < 11) (ty : CType) (f : State) : s.takeC ty m f = f := by
  rw [State.takeC, if_neg (by simp [ready]), if_neg (by simp [rsv]), if_neg (by omega)]

/-- A registrar that has a record serves the message itself. -/
theorem State.atRegistrar_rec {s : State} {m : CMsg} {c : Record} (ready : s.sat.ready = true) (rsv : m.rsv = 0) (state : m.state < 11) (fresh : s.returned m = false)
    (rec : s.recOf m.id = some c) (ty : CType) (p : CPayload) (f : State) : s.atRegistrar ty m p f = f := by
  rw [State.atRegistrar, State.takeC_some ready rsv state, if_neg (by simp [fresh]), if_pos (by simp [rec])]

/-- So does the registrar of a satchel without a record, where no other member held its records before. -/
theorem State.atRegistrar_own {s : State} {m : CMsg} (ready : s.sat.ready = true) (rsv : m.rsv = 0) (state : m.state < 11) (fresh : s.returned m = false)
    (rec : s.recOf m.id = none) (mine : s.registrar m.id = some s.me) (first : s.prevHolder m.id = none) (ty : CType) (p : CPayload) (f : State) :
    s.atRegistrar ty m p f = f := by
  rw [State.atRegistrar, State.takeC_some ready rsv state, if_neg (by simp [fresh]), if_neg (by simp [rec]), if_pos mine]
  simp only [first]

/-- A message for another registrar goes there (R79). -/
theorem State.atRegistrar_other {s : State} {m : CMsg} {d : DeviceId} (ready : s.sat.ready = true) (rsv : m.rsv = 0) (state : m.state < 11) (fresh : s.returned m = false)
    (rec : s.recOf m.id = none) (other : s.registrar m.id = some d) (ne : d ≠ s.me) (ty : CType) (p : CPayload) (f : State) :
    s.atRegistrar ty m p f = if m.forwarded then s.sendC m.sender ty { m with status := Status.notOwner.code } p else s.sendC d ty { m with forwarded := true } p := by
  rw [State.atRegistrar, State.takeC_some ready rsv state, if_neg (by simp [fresh]), if_neg (by simp [rec]), if_neg (by simp [other, ne]), State.redirect, State.toRegistrar]
  simp only [other]

/-! ### The table of records -/

theorem SatchelId.toNat_ne {i j : SatchelId} (ne : j ≠ i) : j.toNat ≠ i.toNat := fun e => ne (BitVec.eq_of_toNat_eq e)

theorem State.recOf_of_sat {s t : State} (sat : t.sat = s.sat) (id : SatchelId) : t.recOf id = s.recOf id := by rw [State.recOf, State.recOf, sat]

theorem State.only_modRec (s : State) (id : SatchelId) (f : Record → Record) : s.Only [.sat] (s.modRec id f) := ((s.keeps_self _).modRec (sub_self _) id f).only

theorem State.only_modSat (s : State) (slot : Nat) (f : Sat → Sat) : s.Only [.sat] (s.modSat slot f) := ((s.keeps_self _).modSat (sub_self _) slot f).only

/-! ### REGISTER and its acknowledgement -/

theorem register_new (s : State) (m : CMsg) (image : Sat) (log : List Token) (ready : s.sat.ready = true) (rsv : m.rsv = 0) (state : m.state < 11)
    (fresh : s.returned m = false) (mine : s.registrar m.id = some s.me) (first : s.prevHolder m.id = none) (rec : s.recOf m.id = none)
    (table : s.sat.recs.length < 4194304) (room : mirrorChunks log.length ≤ s.chunksFree) (queries : s.sat.heldQueries = []) (claims : s.sat.heldClaims = []) :
    ∃ t c, exec (.register m image log) s = .next t ∧ t.recOf m.id = some c ∧ c.epoch = m.epoch ∧ c.owner = m.sender ∧ c.mirror = log ∧ c.tenant = image.tenant ∧
      t.out = s.out ++ [.custody m.sender .registerAck (s.reply m m.sender .ok 0 log.length 0) .empty] ∧ t.sat.sats = s.sat.sats ∧ s.Only [.sat, .out] t := by
  have run : exec (.register m image log) s =
      .next (({ s with sat := { s.sat with recs := aput s.sat.recs m.id.toNat (s.recordOf m image log) } } : State).registerAnswer m .ok m.sender log.length) := by
    refine congrArg Host.Outcome.next ((State.atRegistrar_own ready rsv state fresh rec mine first _ _ _).trans ?_)
    simp only [rec]
    rw [if_neg (by omega), State.releaseHeld]
    simp only [State.registerAnswer, State.sendC, State.emit, queries, claims, List.filter_nil, List.foldl_nil]
  refine ⟨_, s.recordOf m image log, run, afind_aput_same _ _ _, rfl, rfl, rfl, rfl, rfl, rfl, ?_⟩
  simp [State.Only, State.registerAnswer, State.sendC, State.emit]

theorem register_known (s : State) (m : CMsg) (image : Sat) (log : List Token) (c : Record) (ready : s.sat.ready = true) (rsv : m.rsv = 0) (state : m.state = 0)
    (fresh : s.returned m = false) (rec : s.recOf m.id = some c) :
    exec (.register m image log) s = .next (s.sendC m.sender .registerAck (s.reply m c.owner .notOwner 0 c.mirror.length 0) .empty) := by
  refine congrArg Host.Outcome.next ((State.atRegistrar_rec ready rsv (by omega) fresh rec _ _ _).trans ?_)
  simp only [rec, if_pos state]
  rfl

theorem registerAck_admits (s : State) (m : CMsg) (slot : Nat) (x : Sat) (r : ReplyTo) (ready : s.sat.ready = true) (rsv : m.rsv = 0) (state : m.state < 11)
    (slots : s.anySlot m.id = some slot) (found : s.satAt slot = some x) (epoch : x.epoch = m.epoch) (admitting : x.admitting = some r)
    (ok : Status.ofCode m.status = .ok) :
    exec (.registerAck m) s = .next (State.answer (s.modSat slot fun y => { y with admitting := none, mirrorLen := y.log.length, reported := .admitted, registering := false }) r
      .accepted true (leBytes 8 x.id.toNat ++ leBytes 2 (s.registrarField x.id).toNat)) := by
  refine congrArg Host.Outcome.next ((State.takeC_some ready rsv state _ _).trans ?_)
  simp only [slots]
  rw [State.withSlot_some _ found, if_neg (by simp [epoch]), ok, admitting]

theorem registerRetry_sends (s : State) (id : SatchelId) (slot : Nat) (x : Sat) (slots : s.findSlot id = some slot) (found : s.satAt slot = some x) :
    exec (.registerRetry id) s = .next (if x.reregister then s.sendRegister slot else s) := by
  have unfolded : exec (.registerRetry id) s = execRegisterRetry id s := rfl
  rw [unfolded, execRegisterRetry, slots]
  exact congrArg Host.Outcome.next (State.withSlot_some _ found)

/-! ### MIRROR and its acknowledgement -/

section mirror

variable {s : State} {m : CMsg} {c : Record} (ready : s.sat.ready = true) (rsv : m.rsv = 0) (state : m.state < 11) (fresh : s.returned m = false)
  (rec : s.recOf m.id = some c) (owner : c.owner = m.sender) (epoch : c.epoch = m.epoch) (held : c.state ≠ .lost)

include ready rsv state fresh rec owner epoch held

theorem mirror_ends (tokens : List Token) (ends : m.state = 0) :
    ∃ t, exec (.mirror m tokens) s = .next t ∧ t.recOf m.id = none ∧ (∀ j : SatchelId, j ≠ m.id → t.recOf j = s.recOf j) ∧ s.Only [.sat] t := by
  have run : exec (.mirror m tokens) s = .next { s with sat := { s.sat with recs := adel s.sat.recs m.id.toNat } } := by
    refine congrArg Host.Outcome.next ((State.atRegistrar_rec ready rsv state fresh rec _ _ _).trans ?_)
    simp only [rec]
    rw [if_neg (by simp [owner, epoch, held]), if_pos ends]
  exact ⟨_, run, afind_adel_same _ _, fun j ne => afind_adel_ne _ (SatchelId.toNat_ne ne), by simp [State.Only]⟩

theorem mirror_gap (tokens : List Token) (goes : m.state ≠ 0) (gap : m.logLen ≠ c.mirror.length) :
    exec (.mirror m tokens) s = .next (s.sendC m.sender .mirrorAck (s.reply m 0xFFFF .ok 0 c.mirror.length 0) .empty) := by
  refine congrArg Host.Outcome.next ((State.atRegistrar_rec ready rsv state fresh rec _ _ _).trans ?_)
  simp only [rec]
  rw [if_neg (by simp [owner, epoch, held]), if_neg goes, if_pos gap]
  rfl

/-- The record that a mirror's tokens are added to. -/
def State.mirrored (s : State) (m : CMsg) (c : Record) (tokens : List Token) (y : Record) : Record :=
  { y with mirror := c.mirror ++ tokens, chunks := s.sat.takeChunks y.chunks (c.mirror ++ tokens).length,
           state := if y.state = .inTransit then .inTransit else (SatState.ofCode m.state).getD c.state,
           prior := if y.state = .inTransit then y.prior else (SatState.ofCode m.state).getD c.state, lastMirror := s.strokeNow, probing := false }

theorem mirror_adds (tokens : List Token) (goes : m.state ≠ 0) (next : m.logLen = c.mirror.length)
    (room : mirrorChunks (c.mirror ++ tokens).length ≤ s.chunksFree + mirrorChunks c.mirror.length) :
    ∃ t d, exec (.mirror m tokens) s = .next t ∧ t.recOf m.id = some d ∧ d.mirror = c.mirror ++ tokens ∧ d.owner = c.owner ∧ d.epoch = c.epoch ∧
      (c.state = .inTransit → d.state = .inTransit) ∧ (c.state ≠ .inTransit → d.state = (SatState.ofCode m.state).getD c.state) ∧
      t.out = s.out ++ [.custody m.sender .mirrorAck (s.reply m 0xFFFF .ok 0 (c.mirror ++ tokens).length 0) .empty] ∧ s.Only [.sat, .out] t := by
  have run : exec (.mirror m tokens) s = .next ((s.modRec m.id (s.mirrored m c tokens)).mirrorAnswer m .ok (c.mirror ++ tokens).length) := by
    refine congrArg Host.Outcome.next ((State.atRegistrar_rec ready rsv state fresh rec _ _ _).trans ?_)
    simp only [rec]
    rw [if_neg (by simp [owner, epoch, held]), if_neg goes, if_neg (by simp [next]), if_neg (by omega)]
    rfl
  exact ⟨_, s.mirrored m c tokens c, run, State.recOf_modRec _ rec, rfl, rfl, rfl, fun e => if_pos e, fun e => if_neg e, rfl, by
    simp [State.Only, State.mirrorAnswer, State.sendC, State.emit, State.modRec]⟩

end mirror

/-- What an acknowledged mirror tells the owner. -/
def Sat.mirrorKnown (y : Sat) (len : Nat) : Sat :=
  { y with mirrorsOut := y.mirrorsOut - 1, mirrorLen := max y.mirrorLen len, mirrorHold := false, unackedInks := y.unackedInks.filter fun i => decide (len < i.1) }

theorem State.publishInk_nothing {s : State} {slot : Nat} {x : Sat} (found : s.satAt slot = some x) (lives : x.state.ended = false) (sent : x.outRecs = []) :
    (∀ j, (s.publishInk slot).satAt j = s.satAt j) ∧ s.Only [.sat] (s.publishInk slot) := by
  rw [State.publishInk, State.withSlot_some _ found]
  dsimp only
  split
  · exact ⟨fun _ => rfl, .refl s _⟩
  · rw [if_neg (by simp [lives])]
    simp only [sent, List.takeWhile_nil, List.foldl_nil, List.length_nil, List.drop_nil]
    refine ⟨fun j => ?_, s.only_modSat _ _⟩
    rw [State.satAt_modSat]
    split
    · next e => rw [e, found, Option.map_some, ← sent]
    · rfl

theorem mirrorAck_ok (s : State) (m : CMsg) (slot : Nat) (x : Sat) (ready : s.sat.ready = true) (rsv : m.rsv = 0) (state : m.state < 11)
    (slots : s.findSlot m.id = some slot) (found : s.satAt slot = some x) (epoch : x.epoch = m.epoch) (ok : Status.ofCode m.status = .ok) (more : 1 < x.mirrorsOut)
    (lives : x.state.ended = false) (sent : x.outRecs = []) :
    ∃ t y, exec (.mirrorAck m) s = .next t ∧ t.satAt slot = some y ∧ y.mirrorLen = max x.mirrorLen (min m.logLen x.log.length) ∧ y.mirrorHold = false ∧ y.log = x.log ∧
      y.mirrorsOut = x.mirrorsOut - 1 ∧
      y.unackedInks = x.unackedInks.filter (fun i => decide (min m.logLen x.log.length < i.1)) ∧ (∀ j, j ≠ slot → t.satAt j = s.satAt j) ∧ s.Only [.sat] t := by
  have run : exec (.mirrorAck m) s = .next ((s.modSat slot fun y => y.mirrorKnown (min m.logLen x.log.length)).publishInk slot) := by
    refine congrArg Host.Outcome.next ((State.takeC_some ready rsv state _ _).trans ?_)
    simp only [slots]
    rw [State.withSlot_some _ found, if_neg (by simp [epoch]), ok]
    dsimp only
    rw [if_neg (by omega)]
    rfl
  have known := State.satAt_modSat_same (fun y => y.mirrorKnown (min m.logLen x.log.length)) found
  obtain ⟨sats, only⟩ := State.publishInk_nothing known lives sent
  exact ⟨_, _, run, (sats slot).trans known, rfl, rfl, rfl, rfl, rfl, fun j ne => (sats j).trans (State.satAt_modSat_ne _ _ ne), (s.only_modSat _ _).trans only⟩

theorem mirrorAckOverdue_holds (s : State) (id : SatchelId) (slot : Nat) (x : Sat) (i : Nat × Nat) (l : List (Nat × Nat)) (slots : s.findSlot id = some slot)
    (found : s.satAt slot = some x) (inks : x.unackedInks = i :: l) (due : i.2 + 8 ≤ s.strokeNow) (free : x.mirrorHold = false) :
    ∃ t, exec (.mirrorAckOverdue id) s = .next t ∧ t.satAt slot = some { x with mirrorHold := true } ∧ (∀ j, j ≠ slot → t.satAt j = s.satAt j) ∧ s.Only [.bar, .sat, .blt] t := by
  have unfolded : exec (.mirrorAckOverdue id) s = execMirrorAckOverdue id s := rfl
  have run : exec (.mirrorAckOverdue id) s = .next ((s.modSat slot fun y => { y with mirrorHold := true }).note 0x3C1 0x801 slot) := by
    rw [unfolded, execMirrorAckOverdue, slots]
    dsimp only
    rw [State.withSlot_some _ found]
    simp only [inks]
    rw [if_pos ⟨due, free⟩]
  have noted := ((s.modSat slot fun y => { y with mirrorHold := true }).keeps_self _).note (sub_self _) 0x3C1 0x801 slot |>.only
  refine ⟨_, run, ?_, fun j ne => ?_, ((s.only_modSat _ _).mono (by decide)).trans (noted.mono (by decide))⟩
  · exact (State.satAt_of_sat noted.sat slot).trans (State.satAt_modSat_same (fun y => { y with mirrorHold := true }) found)
  · exact (State.satAt_of_sat noted.sat j).trans (State.satAt_modSat_ne _ _ ne)

/-! ### Returned messages and probes -/

theorem custodyMessageReturned_claim (s : State) (m : CMsg) (p : CPayload) (d : DeviceId) (ready : s.sat.ready = true) (rsv : m.rsv = 0) (state : m.state < 11)
    (fresh : s.returned m = false) (rec : s.recOf m.id = none) (other : s.registrar m.id = some d) (ne : d ≠ s.me) :
    exec (.custodyMessageReturned .claim m p) s =
      .next (if m.forwarded then s.sendC m.sender .claim { m with status := Status.notOwner.code } p else s.sendC d .claim { m with forwarded := true } p) :=
  congrArg Host.Outcome.next (State.atRegistrar_other ready rsv state fresh rec other ne _ _ _)

theorem silentOwnerProbe_sends (s : State) (id : SatchelId) (c : Record) (rec : s.recOf id = some c) (same : c.id = id) (state : c.state = .ready)
    (silent : c.lastMirror + 16 ≤ s.strokeNow) (idle : c.probing = false) :
    ∃ t, exec (.silentOwnerProbe id) s = .next t ∧ t.recOf id = some { c with probing := true } ∧
      t.out = s.out ++ [.custody c.owner .probe (s.cmsg id c.epoch c.owner .ok c.state.code c.mirror.length 0) .empty] ∧ s.Only [.sat, .out] t := by
  subst same
  have unfolded : exec (.silentOwnerProbe c.id) s = execSilentOwnerProbe c.id s := rfl
  rw [unfolded, execSilentOwnerProbe, rec]
  dsimp only
  rw [if_pos ⟨state, silent⟩, State.probeOwner, if_neg (by simp [idle])]
  exact ⟨_, rfl, State.recOf_modRec (fun y => { y with probing := true }) rec, rfl, by simp [State.Only, State.sendC, State.emit, State.modRec]⟩

theorem probe_answers (s : State) (m : CMsg) (slot : Nat) (x : Sat) (ready : s.sat.ready = true) (rsv : m.rsv = 0) (state : m.state < 11)
    (slots : s.findSlot m.id = some slot) (found : s.satAt slot = some x) (incoming : s.sat.incoming = []) :
    exec (.probe m) s = .next (s.sendC m.sender .probeAns (s.reply m 0xFFFF .ok 0 0 (if x.epoch = m.epoch then 1 else 0)) .empty) := by
  refine congrArg Host.Outcome.next ((State.takeC_some ready rsv state _ _).trans ?_)
  simp only [slots, found, incoming, List.any_nil, Bool.or_false, b2n, beq_iff_eq]

theorem probeAns_alive (s : State) (m : CMsg) (c : Record) (ready : s.sat.ready = true) (rsv : m.rsv = 0) (state : m.state < 11) (fresh : s.returned m = false)
    (rec : s.recOf m.id = some c) (owner : c.owner = m.sender) (epoch : c.epoch = m.epoch) (alive : m.arg = 1) :
    ∃ t, exec (.probeAns m) s = .next t ∧ t.recOf m.id = some { c with probing := false, ownerDead := false, commitUndelivered := false, lastMirror := s.strokeNow } ∧
      (c.commitUndelivered = false → t.out = s.out) ∧
      (c.commitUndelivered = true → t.out = s.out ++ [.custody c.owner .commit (s.cmsg m.id c.epoch c.owner .ok c.state.code c.mirror.length 0) .empty]) ∧ s.Only [.sat, .out] t := by
  have run (f : State) (eq : (if c.commitUndelivered then
      (s.modRec m.id fun y => { y with probing := false, ownerDead := false, commitUndelivered := false, lastMirror := s.strokeNow }).sendC c.owner .commit
        (s.cmsg m.id c.epoch c.owner .ok c.state.code c.mirror.length 0) .empty
      else s.modRec m.id fun y => { y with probing := false, ownerDead := false, commitUndelivered := false, lastMirror := s.strokeNow }) = f) :
      exec (.probeAns m) s = .next f := by
    refine congrArg Host.Outcome.next ((State.atRegistrar_rec ready rsv state fresh rec _ _ _).trans ?_)
    simp only [rec]
    rw [if_neg (by simp [owner, epoch]), if_pos alive, ← eq]
  cases waits : c.commitUndelivered
  · refine ⟨_, run _ (if_neg (by simp [waits])), State.recOf_modRec _ rec, fun _ => rfl, fun e => absurd e (by decide), ?_⟩
    simp [State.Only, State.modRec]
  · refine ⟨_, run _ (if_pos waits), State.recOf_modRec _ rec, fun e => absurd e (by decide), fun _ => rfl, ?_⟩
    simp [State.Only, State.modRec, State.sendC, State.emit]

theorem commitProbeTimer_sends (s : State) (id : SatchelId) (c : Record) (rec : s.recOf id = some c) (waits : c.commitUndelivered = true) :
    exec (.commitProbeTimer id) s = .next (s.sendC c.owner .probe (s.cmsg id c.epoch c.owner .ok c.state.code c.mirror.length 0) .empty) := by
  have unfolded : exec (.commitProbeTimer id) s = execCommitProbeTimer id s := rfl
  rw [unfolded, execCommitProbeTimer, rec]
  exact if_pos waits

/-! ### A record that is lost -/

/-- A record whose satchel is declared lost, without a recovery of its own. -/
def Record.lose (c : Record) : Record :=
  { c with state := .lost, epoch := c.epoch + 1, owner := 0xFFFF, pending := 0xFFFF, commits := [], commitUndelivered := false, probing := false, ownerDead := false,
           prior := if c.state = .inTransit then c.prior else c.state }

theorem State.declareLost_waits {s : State} {id : SatchelId} {c : Record} (rec : s.recOf id = some c) (held : c.state ≠ .lost) (waits : c.autoRecover = false) :
    (s.declareLost id).recOf id = some c.lose ∧ (s.declareLost id).reg Reg.satCntLost = min 0xFFFFFFFF (s.reg Reg.satCntLost + 1) ∧
      (s.declareLost id).sat.sats = s.sat.sats ∧ s.Only [.bar, .sat, .cmd, .host, .out] (s.declareLost id) := by
  have run : s.declareLost id = ((s.modRec id fun _ => c.lose).count Reg.satCntLost 1).lostEvent c.lose := by
    rw [State.declareLost, rec]
    dsimp only
    rw [if_neg held, if_neg (by simp [waits])]
    rfl
  have told := State.event_only ((s.modRec id fun _ => c.lose).count Reg.satCntLost 1) 0 2 .satchelLost 0
    (leBytes 8 c.lose.id.toNat ++ leBytes 2 c.lose.tenant.toNat ++ zeros 2 ++ leBytes 4 c.lose.mirror.length)
  rw [run, State.lostEvent]
  refine ⟨(State.recOf_of_sat told.sat id).trans (State.recOf_modRec (fun _ => c.lose) rec), ?_, ?_, ?_⟩
  · rw [State.reg, told.bar]
    exact State.reg_count_same (s.modRec id fun _ => c.lose) _ _
  · rw [told.sat]; rfl
  · exact ((((s.keeps_self _).modRec (by decide) id fun _ => c.lose).count (by decide) _ _).lostEvent (by decide) c.lose).only

theorem surrender_loses (s : State) (m : CMsg) (c : Record) (ready : s.sat.ready = true) (rsv : m.rsv = 0) (state : m.state < 11) (fresh : s.returned m = false)
    (rec : s.recOf m.id = some c) (owner : c.owner = m.sender) (epoch : c.epoch = m.epoch) (held : c.state ≠ .lost) (waits : c.autoRecover = false) :
    ∃ t d, exec (.surrender m) s = .next t ∧ t.recOf m.id = some d ∧ d.state = .lost ∧ d.epoch = c.epoch + 1 ∧ d.owner = 0xFFFF ∧ d.mirror = c.mirror ∧
      t.reg Reg.satCntLost = min 0xFFFFFFFF (s.reg Reg.satCntLost + 1) ∧ t.sat.sats = s.sat.sats ∧ s.Only [.bar, .sat, .cmd, .host, .out] t := by
  have run : exec (.surrender m) s = .next (s.declareLost m.id) := by
    refine congrArg Host.Outcome.next ((State.atRegistrar_rec ready rsv state fresh rec _ _ _).trans ?_)
    simp only [rec]
    exact if_pos ⟨owner, epoch⟩
  obtain ⟨lost, counted, sats, only⟩ := State.declareLost_waits rec held waits
  exact ⟨_, c.lose, run, lost, rfl, rfl, rfl, rfl, counted, sats, only⟩

theorem ownerLossTimeout_loses (s : State) (id : SatchelId) (c : Record) (rec : s.recOf id = some c) (silent : c.ownerDead = true ∨ c.probing = true)
    (held : c.state ≠ .lost) (waits : c.autoRecover = false) :
    ∃ t d, exec (.ownerLossTimeout id) s = .next t ∧ t.recOf id = some d ∧ d.state = .lost ∧ d.epoch = c.epoch + 1 ∧ d.mirror = c.mirror ∧
      t.reg Reg.satCntLost = min 0xFFFFFFFF (s.reg Reg.satCntLost + 1) ∧ s.Only [.bar, .sat, .cmd, .host, .out] t := by
  have unfolded : exec (.ownerLossTimeout id) s = execOwnerLossTimeout id s := rfl
  rw [unfolded, execOwnerLossTimeout, rec]
  dsimp only
  rw [if_pos silent]
  obtain ⟨lost, counted, -, only⟩ := State.declareLost_waits rec held waits
  exact ⟨_, c.lose, rfl, lost, rfl, rfl, rfl, counted, only⟩

/-! ### The recovery of a lost satchel -/

theorem recoverAssign_refused (s : State) (m : CMsg) (part : Fin 16) (image : Sat) (log : List Token) (ready : s.sat.ready = true) (rsv : m.rsv = 0) (state : m.state < 11)
    (st : Status) (refused : s.recoverCheck part.val image log.length = some st) :
    exec (.recoverAssign m part image log) s = .next (s.sendC m.sender .recoverAns (s.reply m s.me st 0 0 0) .empty) := by
  refine congrArg Host.Outcome.next ((State.takeC_some ready rsv state _ _).trans ?_)
  rw [refused]

/-- A satchel that may be recovered has room for its objects. -/
theorem State.recoverCheck_places {s : State} {p slot tokens : Nat} {x : Sat} (fine : s.recoverCheck p x tokens = none) (free : s.freeSlot = some slot) :
    ∃ w, s.place slot Place.none tokens 0 (s.part p).stateBytes = some w := by
  rw [State.recoverCheck] at fine
  split at fine
  · exact absurd fine (by simp)
  · split at fine
    · exact absurd fine (by simp)
    · rw [free] at fine
      dsimp only at fine
      split at fine
      · exact absurd fine (by simp)
      · next room => exact Option.isSome_iff_exists.1 (Option.isSome_iff_ne_none.2 fun e => room (by rw [e]; rfl))

theorem recoverAssign_rebuilds (s : State) (m : CMsg) (part : Fin 16) (image : Sat) (log : List Token) (ready : s.sat.ready = true) (rsv : m.rsv = 0) (state : m.state < 11)
    (slot : Nat) (fine : s.recoverCheck part.val image log.length = none) (free : s.freeSlot = some slot) :
    ∃ t x, exec (.recoverAssign m part image log) s = .next t ∧ t.satAt slot = some x ∧ x.id = m.id ∧ x.part = part ∧ x.state = .admitted ∧ x.epoch = m.epoch ∧ x.recovered = true ∧
      x.log = log ∧ x.kvPos = 0 ∧ x.rows = [] ∧ (∀ j, j ≠ slot → t.satAt j = s.satAt j) ∧
      t.out = s.out ++ ((s.part part.val).satelliteDevs false).map (fun e => Out.shardPlan e s.strokeNow
        [shardDo m.id 0 (.create x.tenant x.cls x.adapter x.adapterVer 0xFFFFFFFF)]) ++
        [.custody m.sender .recoverAns (s.reply m s.me .ok SatState.admitted.code log.length 0) .empty] ∧ s.Only [.sat, .memory, .out] t := by
  obtain ⟨⟨pl, s1⟩, placed⟩ := State.recoverCheck_places fine free
  let x : Sat := { s.rebuilt m part { image with id := m.id } log with place := pl }
  let s2 : State := { s1 with sat := { s1.sat with sats := aput s1.sat.sats slot x } }
  have run : exec (.recoverAssign m part image log) s = .next ((s2.makeSatellites part.val m.id 0 (.create x.tenant x.cls x.adapter x.adapterVer 0xFFFFFFFF)).sendC m.sender .recoverAns
      (s.reply m s.me .ok SatState.admitted.code log.length 0) .empty) := by
    refine congrArg Host.Outcome.next ((State.takeC_some ready rsv state _ _).trans ?_)
    rw [fine, free, Option.bind_some, placed]
    rfl
  have only1 : s.Only [.memory] s1 := ((s.keeps_self _).place (sub_self _) _ _ _ _ _ placed).only
  have eq3 := s2.makeSatellites_eq part.val m.id 0 (.create x.tenant x.cls x.adapter x.adapterVer 0xFFFFFFFF)
  have stroke : s2.strokeNow = s.strokeNow := by simp only [State.strokeNow]; rw [show s2.stk = s.stk from only1.stk]
  have sats : s2.sat = { s.sat with sats := aput s.sat.sats slot x } := by rw [← only1.sat]
  have only2 : s.Only [.sat, .memory] s2 := (only1.mono (by decide)).trans (by simp [s2, State.Only])
  rw [State.part_congr (show s2.pln = s.pln from only1.pln), stroke, show s2.out = s.out from only1.out] at eq3
  refine ⟨_, x, run, ?_, rfl, rfl, rfl, rfl, rfl, rfl, rfl, rfl, fun j ne => ?_, ?_, ?_⟩
  · rw [eq3]; exact (congrArg (fun z : SatSt => afind z.sats slot) sats).trans (afind_aput_same _ _ _)
  · rw [eq3]; exact (congrArg (fun z : SatSt => afind z.sats j) sats).trans (afind_aput_ne _ _ ne)
  · rw [eq3]; rfl
  · rw [eq3]; exact (only2.mono (by decide)).trans (by simp [State.Only, State.sendC, State.emit])

/-- A record whose candidate has taken the satchel. -/
def Record.recovered (y : Record) (m : CMsg) (stroke : Nat) : Record :=
  { y with state := .admitted, prior := .admitted, epoch := m.epoch, owner := m.sender, candidate := none, recoverReply := none, lastMirror := stroke }

theorem recoverAns_takes (s : State) (m : CMsg) (c : Record) (k : Nat) (d : DevPart) (ready : s.sat.ready = true) (rsv : m.rsv = 0) (state : m.state < 11)
    (fresh : s.returned m = false) (rec : s.recOf m.id = some c) (lost : c.state = .lost) (epoch : c.epoch + 1 = m.epoch) (candidate : c.candidate = some (k, d))
    (dev : d.dev = m.sender) (ok : Status.ofCode m.status = .ok) :
    ∃ t e, exec (.recoverAns m) s = .next t ∧ t.recOf m.id = some e ∧ e.state = .admitted ∧ e.epoch = m.epoch ∧ e.owner = m.sender ∧ e.candidate = none ∧ e.mirror = c.mirror ∧
      t.reg Reg.satCntRecover = min 0xFFFFFFFF (s.reg Reg.satCntRecover + 1) ∧ s.Only [.bar, .sat, .cmd, .host, .out] t := by
  let s1 : State := (s.modRec m.id fun y => y.recovered m s.strokeNow).count Reg.satCntRecover 1
  have run : exec (.recoverAns m) s = .next (match c.recoverReply with | some r => s1.answer r .ok true (leBytes 2 m.sender.toNat) | none => s1) := by
    refine congrArg Host.Outcome.next ((State.atRegistrar_rec ready rsv state fresh rec _ _ _).trans ?_)
    simp only [rec]
    rw [if_pos ok, if_pos (by simp [lost, epoch, candidate, dev])]
    rfl
  have rec1 : s1.recOf m.id = some (c.recovered m s.strokeNow) := State.recOf_modRec (fun y => y.recovered m s.strokeNow) rec
  have counted : s1.reg Reg.satCntRecover = min 0xFFFFFFFF (s.reg Reg.satCntRecover + 1) := State.reg_count_same _ _ _
  have only1 : s.Only [.bar, .sat, .cmd, .host, .out] s1 := (((s.keeps_self _).modRec (by decide) m.id _).count (by decide) _ _).only
  cases asked : c.recoverReply with
  | none =>
    rw [asked] at run
    exact ⟨_, _, run, rec1, rfl, rfl, rfl, rfl, rfl, counted, only1⟩
  | some r =>
    rw [asked] at run
    refine ⟨_, _, run, (s1.recOf_answer r .ok true _ m.id).trans rec1, rfl, rfl, rfl, rfl, rfl, ?_, only1.trans ((s1.answer_only r .ok true _).mono (by decide))⟩
    rw [State.reg, State.answer_bar]; exact counted

theorem recoverAnsTimeout_fails (s : State) (id : SatchelId) (c : Record) (d : DevPart) (rec : s.recOf id = some c) (same : c.id = id) (lost : c.state = .lost)
    (last : c.candidate = some (0, d)) :
    ∃ t, exec (.recoverAnsTimeout id) s = .next t ∧ t.recOf id = some { c with candidate := none, recoverReply := none } ∧ s.Only [.bar, .sat, .cmd, .host, .out] t := by
  subst same
  let s1 : State := s.modRec c.id fun y => { y with candidate := none, recoverReply := none }
  have unfolded : exec (.recoverAnsTimeout c.id) s = execRecoverAnsTimeout c.id s := rfl
  have run : exec (.recoverAnsTimeout c.id) s = .next (match c.recoverReply with | some r => s1.done r .noResource | none => s1) := by
    rw [unfolded, execRecoverAnsTimeout, rec]
    dsimp only
    rw [if_pos lost, State.candidateRefused, last]
    rfl
  have rec1 : s1.recOf c.id = some { c with candidate := none, recoverReply := none } := State.recOf_modRec (fun y => { y with candidate := none, recoverReply := none }) rec
  have only1 : s.Only [.bar, .sat, .cmd, .host, .out] s1 := (s.only_modRec _ _).mono (by decide)
  cases asked : c.recoverReply with
  | none =>
    rw [asked] at run
    exact ⟨_, run, rec1, only1⟩
  | some r =>
    rw [asked] at run
    exact ⟨_, run, (s1.recOf_answer r .noResource true [] c.id).trans rec1, only1.trans ((s1.done_only r .noResource).mono (by decide))⟩

theorem custodyUndelivered_commit (s : State) (m : CMsg) (p : CPayload) (c : Record) (rec : s.recOf m.id = some c) (epoch : c.epoch = m.epoch)
    (ok : m.status = Status.ok.code) :
    exec (.custodyUndelivered .commit c.owner m p) s = .next (s.modRec m.id fun y => { y with commitUndelivered := true }) := by
  have unfolded : exec (.custodyUndelivered .commit c.owner m p) s = execCustodyUndelivered .commit c.owner m p s := rfl
  rw [unfolded, execCustodyUndelivered, rec]
  exact if_pos ⟨rfl, epoch, ok⟩

/-! ### Records that change their registrar -/

theorem rehomeAck_gone (s : State) (id : SatchelId) (dst : DeviceId) (c : Record) (rec : s.recOf id = some c) (moving : c.movingTo = some dst) (sent : c.sent = true)
    (other : dst ≠ s.me) :
    ∃ t, exec (.rehomeAck id dst none false) s = .next t ∧ t.recOf id = none ∧ (∀ j : SatchelId, j ≠ id → t.recOf j = s.recOf j) ∧ s.Only [.sat] t := by
  have unfolded : exec (.rehomeAck id dst none false) s = execRehomeAck id dst none false s := rfl
  rw [unfolded, execRehomeAck, if_neg other, rec]
  dsimp only
  rw [if_pos ⟨moving, sent⟩]
  exact ⟨_, rfl, afind_adel_same _ _, fun j ne => afind_adel_ne _ (SatchelId.toNat_ne ne), by simp [State.Only]⟩

theorem rehomeAck_arrived (s : State) (id : SatchelId) (c : Record) (last : Bool) (same : c.id = id) (fresh : s.recOf id = none) :
    ∃ t, exec (.rehomeAck id s.me (some c) last) s = .next t ∧
      t.recOf id = some { c with chunks := s.sat.takeChunks [] c.mirror.length, movingTo := none, sent := false } ∧
      (∀ j : SatchelId, j ≠ id → t.recOf j = s.recOf j) ∧ t.sat.joined = (s.sat.joined && !last) ∧ s.Only [.sat] t := by
  subst same
  have unfolded : exec (.rehomeAck c.id s.me (some c) last) s = execRehomeAck c.id s.me (some c) last s := rfl
  rw [unfolded, execRehomeAck, if_pos rfl]
  dsimp only
  rw [if_pos rfl, State.takeRecord, if_neg (by simp [fresh])]
  exact ⟨_, rfl, afind_aput_same _ _ _, fun j ne => afind_aput_ne _ _ (SatchelId.toNat_ne ne), rfl, by simp [State.Only]⟩

theorem reregWindowClose_closes (s : State) (mem : Fin 32) (queries : s.sat.heldQueries = []) (claims : s.sat.heldClaims = []) :
    exec (.reregWindowClose mem) s = .next { s with sat := { s.sat with rereg := s.sat.rereg.filter fun w => w.1 != mem.val } } := by
  have unfolded : exec (.reregWindowClose mem) s = execReregWindowClose mem s := rfl
  rw [unfolded, execReregWindowClose]
  simp only [queries, claims, List.map_nil, List.append_nil, List.eraseDups_nil, List.filter_nil, List.foldl_nil]

/-- Settles O11: each row from the record or the satchel that it serves, through the rules of messages that a registrar takes and of a record that is declared lost. -/
theorem recordsAndRecovery : Obligations.RecordsAndRecovery :=
  ⟨fun s m image log ready rsv state fresh mine first rec table room queries claims =>
      register_new s m image log ready rsv state fresh mine first rec table room queries claims,
    fun s m image log c ready rsv state fresh rec => register_known s m image log c ready rsv state fresh rec,
    registerAck_admits, registerRetry_sends,
    fun _ _ tokens _ ready rsv state fresh rec owner epoch held =>
      ⟨mirror_ends ready rsv state fresh rec owner epoch held tokens, mirror_gap ready rsv state fresh rec owner epoch held tokens,
        mirror_adds ready rsv state fresh rec owner epoch held tokens⟩,
    mirrorAck_ok, mirrorAckOverdue_holds, custodyMessageReturned_claim, silentOwnerProbe_sends, probe_answers, probeAns_alive, commitProbeTimer_sends,
    surrender_loses, ownerLossTimeout_loses,
    fun s m part image log ready rsv state =>
      ⟨recoverAssign_rebuilds s m part image log ready rsv state, recoverAssign_refused s m part image log ready rsv state⟩,
    recoverAns_takes, recoverAnsTimeout_fails, custodyUndelivered_commit, rehomeAck_gone, rehomeAck_arrived, reregWindowClose_closes⟩

end Sys2Proof.Machine
end

section
/-!
PROOFS. The buckle (O12): the hand-over of a satchel from offer to release.
-/
namespace Sys2Proof.Machine

/-! ### OFFER -/

theorem offer_declined (s : State) (m : CMsg) (x : Sat) (full inside shardsOk : Bool) (part : Fin 16) (sentBy : Option SentBy) (transit : Option (List Byte))
    (ready : s.sat.ready = true) (rsv : m.rsv = 0) (state : m.state < 11) (incoming : s.sat.incoming = []) (st : Status)
    (refused : s.offerCheck m x full sentBy part.val = some st) :
    exec (.offer m x full part inside sentBy transit shardsOk) s = .next (s.sendC m.sender .decline (s.cmsg m.id m.epoch m.sender st 0 0 0) .empty) := by
  refine congrArg Host.Outcome.next ((State.takeC_some ready rsv state _ _).trans ?_)
  simp only [incoming, List.any_nil, Bool.false_eq_true, if_false, refused]
  rfl

/-- Shards that are ready, or that are not there, hold no offer back. -/
theorem shards_present {α : Type} {ok : Bool} {l : List α} (shards : ok = true ∨ l = []) : (!ok && !l.isEmpty) = false := by
  rcases shards with ok_ | none_
  · rw [ok_]; rfl
  · rw [none_]; cases ok <;> rfl

theorem offer_noTransit (s : State) (m : CMsg) (x : Sat) (full inside shardsOk : Bool) (part : Fin 16) (sentBy : Option SentBy) (transit : Option (List Byte))
    (ready : s.sat.ready = true) (rsv : m.rsv = 0) (state : m.state < 11) (incoming : s.sat.incoming = []) (slot : Nat)
    (fine : s.offerCheck m x full sentBy part.val = none) (free : s.freeSlot = some slot) (shards : shardsOk = true ∨ (s.part part.val).satelliteDevs false = [])
    (away : harness m.sender ≠ harness s.me) (noKey : transit.bind (s.heldTransit x.tenant) = none) :
    exec (.offer m x full part inside sentBy transit shardsOk) s = .next (s.sendC m.sender .decline (s.cmsg m.id m.epoch m.sender .protection 0 0 0) .empty) := by
  refine congrArg Host.Outcome.next ((State.takeC_some ready rsv state _ _).trans ?_)
  simp only [incoming, List.any_nil, Bool.false_eq_true, if_false, fine, free, shards_present shards]
  rw [if_pos ⟨away, by simp [noKey]⟩]
  rfl

theorem offer_taken (s : State) (m : CMsg) (x : Sat) (full inside shardsOk : Bool) (part : Fin 16) (sentBy : Option SentBy) (transit : Option (List Byte))
    (ready : s.sat.ready = true) (rsv : m.rsv = 0) (state : m.state < 11) (incoming : s.sat.incoming = []) (slot : Nat)
    (fine : s.offerCheck m x full sentBy part.val = none) (free : s.freeSlot = some slot) (shards : shardsOk = true ∨ (s.part part.val).satelliteDevs false = [])
    (keyed : harness m.sender = harness s.me ∨ (transit.bind (s.heldTransit x.tenant)).isSome = true) :
    ∃ t, exec (.offer m x full part inside sentBy transit shardsOk) s = .next t ∧
      t.sat.incoming = [{ id := m.id, sender := m.sender, epoch := m.epoch, part := part, full := full, image := x, log := [], dataDone := false,
                          claimed := false, slot := slot, inside := inside, sentBy := sentBy, transit := transit }] ∧
      t.sat.reserved = slot :: s.sat.reserved ∧ t.sat.sats = s.sat.sats ∧
      t.out = s.out ++ ((s.part part.val).satelliteDevs false).map (fun e => Out.shardPlan e s.strokeNow
        [shardDo m.id x.kvPos (.reserve x.tenant x.cls x.adapter x.adapterVer)]) ∧ s.Only [.sat, .out] t := by
  let i : Incoming := { id := m.id, sender := m.sender, epoch := m.epoch, part := part, full := full, image := x, log := [], dataDone := false,
                        claimed := false, slot := slot, inside := inside, sentBy := sentBy, transit := transit }
  let s1 : State := { s with sat := { s.sat with reserved := slot :: s.sat.reserved, incoming := s.sat.incoming ++ [i] } }
  have run : exec (.offer m x full part inside sentBy transit shardsOk) s =
      .next (s1.makeSatellites part.val m.id x.kvPos (.reserve x.tenant x.cls x.adapter x.adapterVer)) := by
    refine congrArg Host.Outcome.next ((State.takeC_some ready rsv state _ _).trans ?_)
    rw [if_neg (by simp [incoming]), fine, free]
    dsimp only
    rw [shards_present shards, if_neg (by decide), if_neg fun h => by
      rcases keyed with same | some_
      · exact h.1 same
      · simp [Option.isNone_iff_eq_none.1 h.2] at some_]
  have eq := s1.makeSatellites_eq part.val m.id x.kvPos (.reserve x.tenant x.cls x.adapter x.adapterVer)
  refine ⟨_, run, ?_, ?_, ?_, ?_, ?_⟩
  · rw [eq]; exact congrArg (· ++ [i]) incoming
  · rw [eq]
  · rw [eq]
  · rw [eq]; rfl
  · rw [eq]; simp [State.Only, s1]

/-! ### The receiver's data -/

/-- An incoming satchel that is replaced by one of the same ID, tenant and partition is spoken of in the same words. -/
theorem State.custodyVia_replaced {s t : State} {id : SatchelId} {i j : Incoming} (sats : t.sat.sats = s.sat.sats) (recs : t.sat.recs = s.sat.recs)
    (incoming : t.sat.incoming = s.sat.incoming.map fun y => if y = i then j else y) (arrives : s.incomingOf id = some i) (same : j.id = i.id)
    (tenant : j.image.tenant = i.image.tenant) (part : j.part = i.part) : t.custodyVia id = s.custodyVia id := by
  have ids (y : Incoming) : ((fun z : Incoming => z.id == id) ∘ fun y => if y = i then j else y) y = (y.id == id) := by
    simp only [Function.comp_apply]
    split
    · next e => rw [same, e]
    · rfl
  have found : t.sat.incoming.find? (fun y => y.id == id) = some j := by
    rw [incoming, List.find?_map, funext ids, show s.sat.incoming.find? (fun y => y.id == id) = some i from arrives, Option.map_some, if_pos rfl]
  rw [State.custodyVia, State.custodyVia, sats, recs, found, show s.sat.incoming.find? (fun y => y.id == id) = some i from arrives]
  simp only [tenant, part]

section receiver

variable {s : State} {id : SatchelId} {i : Incoming} (arrives : s.incomingOf id = some i) (fresh : i.dataDone = false)

include arrives fresh

theorem receiverDataComplete_corrupt (log : List Token) (forms : List (List Byte)) (shardsTaken : Bool) :
    exec (.receiverDataComplete id .dataCorrupt log forms shardsTaken) s = .next ((s.discard i).decline i.sender id i.epoch .dataCorrupt) := by
  have unfolded : exec (.receiverDataComplete id .dataCorrupt log forms shardsTaken) s = execReceiverDataComplete id .dataCorrupt log forms shardsTaken s := rfl
  rw [unfolded, execReceiverDataComplete, arrives]
  dsimp only
  rw [if_neg (by simp [fresh]), if_pos (by decide)]

theorem receiverDataComplete_noTransit (log : List Token) (forms : List (List Byte)) (shardsTaken : Bool) (sealed_ : i.transit.isSome = true)
    (noKey : i.transit.bind (s.heldTransit i.image.tenant) = none) :
    exec (.receiverDataComplete id .ok log forms shardsTaken) s = .next ((s.discard i).decline i.sender id i.epoch .protection) := by
  have unfolded : exec (.receiverDataComplete id .ok log forms shardsTaken) s = execReceiverDataComplete id .ok log forms shardsTaken s := rfl
  rw [unfolded, execReceiverDataComplete, arrives]
  dsimp only
  rw [if_neg (by simp [fresh]), if_neg (by decide), if_pos ⟨sealed_, by simp [noKey]⟩]

/-- A claim goes to the registrar once the data and the shards are there. -/
theorem receiverDataComplete_claims (log : List Token) (forms : List (List Byte)) (shardsTaken : Bool) (d : DeviceId) (plain : i.transit = none) (lodges : i.full = false)
    (unclaimed : i.claimed = false) (hot : i.image.state ≠ .parkedWarm) (registrar : s.registrar id = some d)
    (room : (s.place i.slot Place.none log.length i.image.rows.length (s.part i.part.val).stateBytes).isSome = true)
    (shards : shardsTaken = true ∨ (s.part i.part.val).satelliteDevs false = []) :
    ∃ t, exec (.receiverDataComplete id .ok log forms shardsTaken) s = .next t ∧
      t.out = s.out ++ [.custody d .claim (s.cmsg id (i.epoch + 1) i.sender .ok 0 log.length 0) .empty] ∧ t.sat.sats = s.sat.sats ∧
      s.Only [.sat, .memory, .out] t := by
  have named : i.id = id := by
    have := List.find?_some arrives
    simpa using this
  obtain ⟨⟨pl, s1⟩, placed⟩ := Option.isSome_iff_exists.1 room
  have only1 : s.Only [.memory] s1 := ((s.keeps_self _).place (sub_self _) _ _ _ _ _ placed).only
  let rows := i.image.rows.map fun r => if r.kind = .here ∨ r.kind = .inkwell then { r with kind := .lodged } else r
  let j : Incoming := { i with log := log, dataDone := true, image := { i.image with rows := rows, place := pl } }
  let s2 : State := { s1 with sat := { s1.sat with incoming := s1.sat.incoming.map fun y => if y = i then j else y } }
  let s3 : State := { s2 with sat := { s2.sat with incoming := s2.sat.incoming.map fun y => if y = j then { j with claimed := true } else y } }
  have run : exec (.receiverDataComplete id .ok log forms shardsTaken) s =
      .next (s3.toRegistrar .claim (s2.cmsg i.id (i.epoch + 1) i.sender .ok 0 log.length 0) .empty) := by
    have unfolded : exec (.receiverDataComplete id .ok log forms shardsTaken) s = execReceiverDataComplete id .ok log forms shardsTaken s := rfl
    rw [unfolded, execReceiverDataComplete, arrives]
    dsimp only
    rw [if_neg (by simp [fresh]), if_neg (by decide), if_neg (by simp [plain]), if_neg (by simp [State.transitOk, plain]), if_neg (by simp [lodges])]
    simp only [if_neg hot, List.length_map, placed]
    refine congrArg Host.Outcome.next (if_neg ?_)
    rintro (claimed | ⟨late, some_⟩)
    · exact absurd (unclaimed.symm.trans claimed) (by decide)
    · rcases shards with ok | none_
      · exact absurd (late.symm.trans ok) (by decide)
      · rw [State.part_congr (show s2.pln = s.pln from only1.pln), none_] at some_
        exact absurd some_ (by decide)
  have told : s2.cmsg i.id (i.epoch + 1) i.sender .ok 0 log.length 0 = s.cmsg id (i.epoch + 1) i.sender .ok 0 log.length 0 := by
    rw [State.cmsg, State.cmsg, named, State.me_congr (show s2.bar = s.bar from only1.bar)]
    have incoming : s2.sat.incoming = s.sat.incoming.map fun y => if y = i then j else y := congrArg (fun z : SatSt => z.incoming.map fun y => if y = i then j else y) only1.sat
    rw [show s2.custodyVia id = s.custodyVia id from State.custodyVia_replaced (congrArg SatSt.sats only1.sat : s1.sat.sats = _) (congrArg SatSt.recs only1.sat : s1.sat.recs = _) incoming arrives rfl rfl rfl]
  have registrar3 : s3.registrar id = some d := (State.registrar_congr only1.bar (congrArg SatSt.live only1.sat) only1.lnk id).trans registrar
  rw [State.toRegistrar, show (s2.cmsg i.id (i.epoch + 1) i.sender .ok 0 log.length 0).id = id from named, registrar3, told] at run
  refine ⟨_, run, ?_, ?_, ?_⟩
  · exact congrArg (· ++ _) only1.out
  · exact (congrArg SatSt.sats only1.sat : s1.sat.sats = s.sat.sats)
  · exact (only1.mono (by decide)).trans (by simp [State.Only, State.sendC, State.emit, s3, s2])

end receiver

/-! ### The registrar's part: OFFER_NOTE, CLAIM, ABORT_REQ -/

section registrar

variable {s : State} {m : CMsg} {c : Record} (ready : s.sat.ready = true) (rsv : m.rsv = 0) (state : m.state < 11) (fresh : s.returned m = false)
  (rec : s.recOf m.id = some c)

include ready rsv state fresh rec

theorem offerNote_transit (owner : c.owner = m.sender) (epoch : c.epoch = m.epoch) (held : c.state ≠ .lost) (still : c.state ≠ .inTransit) :
    ∃ t d, exec (.offerNote m) s = .next t ∧ t.recOf m.id = some d ∧ d.state = .inTransit ∧ d.pending = m.peer ∧ d.owner = c.owner ∧ d.epoch = c.epoch ∧ s.Only [.sat] t := by
  let moves (y : Record) : Record := { y with state := .inTransit, pending := m.peer, prior := (SatState.ofCode m.state).getD y.state, sender := m.sender }
  have run : exec (.offerNote m) s = .next (s.modRec m.id moves) := by
    refine congrArg Host.Outcome.next ((State.atRegistrar_rec ready rsv state fresh rec _ _ _).trans ?_)
    simp only [rec]
    exact if_pos ⟨owner, epoch, held, still⟩
  exact ⟨_, moves c, run, State.recOf_modRec moves rec, rfl, rfl, rfl, rfl, s.only_modRec _ _⟩

theorem claim_answers (quiet : s.blt.l3 = false) :
    (c.state = .inTransit → c.epoch + 1 = m.epoch → c.pending = m.sender →
      ∃ t d, exec (.claim m) s = .next t ∧ t.recOf m.id = some d ∧ d.owner = m.sender ∧ d.epoch = m.epoch ∧ d.state = c.prior ∧ d.mirror = c.mirror ∧
        t.reg Reg.satCntCommit = min 0xFFFFFFFF (s.reg Reg.satCntCommit + 1) ∧
        t.out = s.out ++ [.custody m.sender .commit (s.cmsg m.id m.epoch m.sender .ok c.prior.code c.mirror.length 0) .empty] ∧ s.Only [.bar, .sat, .out] t) ∧
    (c.state ≠ .inTransit ∨ c.epoch + 1 ≠ m.epoch ∨ c.pending ≠ m.sender →
      exec (.claim m) s = .next (s.sendC m.sender .commit (s.cmsg m.id m.epoch m.sender .notOwner 0 0 0) .empty)) := by
  let c1 : Record := { c with owner := m.sender, epoch := m.epoch, state := c.prior, pending := 0xFFFF, commits := (m.sender, m.epoch) :: c.commits, lastMirror := s.strokeNow }
  let s1 : State := (s.modRec m.id fun _ => c1).count Reg.satCntCommit 1
  have run : exec (.claim m) s = .next (if c.state = .inTransit ∧ c.epoch + 1 = m.epoch ∧ c.pending = m.sender then
      s1.sendC m.sender .commit (s.cmsg m.id m.epoch m.sender .ok c.prior.code c.mirror.length 0) .empty
      else s.sendC m.sender .commit (s.cmsg m.id m.epoch m.sender .notOwner 0 0 0) .empty) := by
    refine congrArg Host.Outcome.next ((State.atRegistrar_rec ready rsv state fresh rec _ _ _).trans ?_)
    rw [State.claimed, if_neg (by simp [quiet]), rec]
  refine ⟨fun transit next pending => ?_, fun other => ?_⟩
  · rw [if_pos ⟨transit, next, pending⟩] at run
    refine ⟨_, c1, run, State.recOf_modRec (fun _ => c1) rec, rfl, rfl, rfl, rfl, State.reg_count_same (s.modRec m.id fun _ => c1) _ _, rfl, ?_⟩
    exact ((((s.keeps_self _).modRec (by decide) m.id fun _ => c1).count (by decide) _ _).sendC (by decide) _ _ _ _).only
  · rwa [if_neg fun h => by rcases other with e | e | e; exacts [e h.1, e h.2.1, e h.2.2]] at run

theorem abortReq_returns (transit : c.state = .inTransit) (epoch : c.epoch = m.epoch) (owner : c.owner = m.sender) :
    ∃ t d, exec (.abortReq m) s = .next t ∧ t.recOf m.id = some d ∧ d.state = c.prior ∧ d.pending = 0xFFFF ∧ d.owner = c.owner ∧ d.epoch = c.epoch ∧
      t.reg Reg.satCntAbort = min 0xFFFFFFFF (s.reg Reg.satCntAbort + 1) ∧
      t.out = s.out ++ [.custody m.sender .abortAns (s.reply m c.owner .ok 0 0 0) .empty, .custody c.pending .abortAns (s.cmsg m.id m.epoch c.owner .ok 0 0 0) .empty] ∧
      s.Only [.bar, .sat, .out] t := by
  let back (y : Record) : Record := { y with state := y.prior, pending := 0xFFFF }
  let s1 : State := (s.modRec m.id back).count Reg.satCntAbort 1
  have run : exec (.abortReq m) s = .next ((s1.abortAnswer m 0 .ok c.owner).sendC c.pending .abortAns (s.cmsg m.id m.epoch c.owner .ok 0 0 0) .empty) := by
    refine congrArg Host.Outcome.next ((State.atRegistrar_rec ready rsv state fresh rec _ _ _).trans ?_)
    simp only [rec]
    exact if_pos ⟨transit, epoch, owner⟩
  refine ⟨_, back c, run, State.recOf_modRec back rec, rfl, rfl, rfl, rfl, State.reg_count_same (s.modRec m.id back) _ _, ?_, ?_⟩
  · have me1 : s1.me = s.me := congrArg (fun n => BitVec.ofNat 16 (n % 2 ^ 14))
      (State.reg_setReg_ne (s.modRec m.id back) _ (show Reg.glbDeviceId ≠ Reg.satCntAbort by decide))
    have reply1 : s1.reply m c.owner .ok 0 0 0 = s.reply m c.owner .ok 0 0 0 := by rw [State.reply, State.reply, State.cmsg, State.cmsg, me1]
    rw [State.abortAnswer, reply1]
    exact List.append_assoc s.out _ _
  · exact (((((s.keeps_self _).modRec (by decide) m.id back).count (by decide) _ _).sendC (by decide) _ _ _ _).sendC (by decide) _ _ _ _).only

end registrar

/-! ### The receiver's part: COMMIT -/

theorem commit_refused (s : State) (m : CMsg) (i : Incoming) (ready : s.sat.ready = true) (rsv : m.rsv = 0) (state : m.state < 11)
    (arrives : s.sat.incoming.find? (fun j => j.id == m.id && j.epoch + 1 == m.epoch) = some i) (refused : Status.ofCode m.status ≠ .ok) :
    exec (.commit m) s = .next ((s.discard i).decline i.sender i.id i.epoch .notOwner) := by
  refine congrArg Host.Outcome.next ((State.takeC_some ready rsv state _ _).trans ?_)
  rw [arrives]
  exact if_neg refused

/-- The satellites of a satchel whose hand-over commits are told, each once. -/
theorem State.commitSatellites_eq (s : State) (i : Incoming) (st : SatState) :
    ∃ l, l.length = ((s.part i.part.val).satelliteDevs false).length ∧ s.commitSatellites i st = { s with out := s.out ++ l } := by
  refine ⟨_, ?_, State.foldl_emit (fun d : DevPart × Nat => Out.shardPlan d.1 s.strokeNow [shardDo i.id i.image.kvPos (.commit (if i.full then 0xFFFF else match i.sentBy with
      | some b => (match b.shards[d.2 + 1]? with | some e => e.dev | none => 0xFFFF)
      | none => 0xFFFF) st i.image.rows.length)]) _ s⟩
  simp

/-- What the receiver makes of the satchel at its commit. -/
def Incoming.owned (i : Incoming) (m : CMsg) (stroke : Nat) : Sat :=
  let st := (SatState.ofCode m.state).getD i.image.state
  let mig := i.image.rows.any fun r => r.kind == .lodged
  { i.image with id := i.id, part := i.part, state := st, prior := st, epoch := m.epoch, log := i.log, mirrorLen := m.logLen, mirrorSent := i.log.length, reported := st,
                 migrating := mig, lodge := if mig then i.sender else 0xFFFF, frozen := false, move := none, lodgedAt := stroke, tried := 0 }

theorem commit_takes (s : State) (m : CMsg) (i : Incoming) (ready : s.sat.ready = true) (rsv : m.rsv = 0) (state : m.state < 11)
    (arrives : s.sat.incoming.find? (fun j => j.id == m.id && j.epoch + 1 == m.epoch) = some i) (ok : Status.ofCode m.status = .ok)
    (rests : (SatState.ofCode m.state).getD i.image.state ≠ .parkedWarm ∨ i.log.length ≤ i.image.kvPos ∨ (s.part i.part.val).role = 2) :
    ∃ t x l, exec (.commit m) s = .next t ∧ t.satAt i.slot = some x ∧ x.id = i.id ∧ x.part = i.part ∧ x.epoch = m.epoch ∧ x.log = i.log ∧ x.frozen = false ∧
      (∀ j, j ≠ i.slot → t.satAt j = s.satAt j) ∧ t.sat.reserved = s.sat.reserved.erase i.slot ∧
      l.length = ((s.part i.part.val).satelliteDevs false).length ∧
      t.out = s.out ++ l ++ [.custody i.sender .release (s.cmsg i.id m.epoch i.sender .ok ((SatState.ofCode m.state).getD i.image.state).code i.log.length 0) .empty] ∧
      s.Only [.sat, .out] t := by
  let s1 : State := { s with sat := { s.sat with
    incoming := s.sat.incoming.erase i, reserved := s.sat.reserved.erase i.slot, sats := aput s.sat.sats i.slot (i.owned m s.strokeNow) } }
  obtain ⟨l, count, told⟩ := s1.commitSatellites_eq i ((SatState.ofCode m.state).getD i.image.state)
  have run : exec (.commit m) s = .next ((s1.commitSatellites i ((SatState.ofCode m.state).getD i.image.state)).sendC i.sender .release
      (s.cmsg i.id m.epoch i.sender .ok ((SatState.ofCode m.state).getD i.image.state).code i.log.length 0) .empty) := by
    refine congrArg Host.Outcome.next ((State.takeC_some ready rsv state _ _).trans ?_)
    rw [arrives]
    dsimp only
    rw [if_pos ok]
    refine if_neg fun h => ?_
    rcases rests with e | e | e
    · exact e h.1
    · exact absurd h.2.1 (Nat.not_lt.2 e)
    · exact h.2.2 e
  refine ⟨_, i.owned m s.strokeNow, l, run, ?_, rfl, rfl, rfl, rfl, rfl, fun j ne => ?_, ?_, count, ?_, ?_⟩
  · rw [told]; exact afind_aput_same _ _ _
  · rw [told]; exact afind_aput_ne _ _ ne
  · rw [told]; rfl
  · rw [told]; rfl
  · rw [told]; simp [State.Only, State.sendC, State.emit, s1]

theorem commitTimeout_declines (s : State) (id : SatchelId) (i : Incoming) (arrives : s.incomingOf id = some i) (claimed : i.claimed = true) :
    exec (.commitTimeout id) s = .next ((s.discard i).decline i.sender id i.epoch .tierError) := by
  have unfolded : exec (.commitTimeout id) s = execCommitTimeout id s := rfl
  rw [unfolded, execCommitTimeout, arrives]
  exact if_pos claimed

/-! ### The sender's part: RELEASE, DECLINE, ABORT_ANS -/

/-- A satchel whose move is committed leaves the table; every other stands. -/
theorem State.satAt_moveCommitted {s : State} {slot : Nat} {x : Sat} {v : Move} (found : s.satAt slot = some x) (move : x.move = some v) (j : Nat) :
    (s.moveCommitted slot).satAt j = if j = slot then none else s.satAt j := by
  rw [State.moveCommitted, State.withSlot_some _ found]
  split
  · next e => exact absurd (move.symm.trans e) (by simp)
  next w e =>
  obtain rfl : v = w := Option.some.inj (move.symm.trans e)
  extract_lets s1 s2 keep held s3 s4 s5
  have sats1 (j : Nat) : s1.satAt j = s.satAt j := by
    simp only [s1]
    split
    · exact s.satAt_answer _ _ _ _ j
    · rfl
  have sats2 (j : Nat) : s2.satAt j = s1.satAt j := State.satAt_of_sat ((s1.keeps_self _).forwardCancel (sub_self _) x v.dev v.part).only.sat j
  have sats3 (j : Nat) : s3.satAt j = s2.satAt j := by
    simp only [s3]
    split <;> rfl
  have sats4 (j : Nat) (ne : j ≠ slot) : s4.satAt j = s3.satAt j := by
    refine (State.satAt_modSat_ne _ _ ne).trans ?_
    split
    · rfl
    · exact State.satAt_of_sat ((s3.keeps_self _).toShards (sub_self _) x.part.val false _).only.sat j
  have sats5 : s5.satAt j = if j = slot then none else s.satAt j := by
    rw [show s5.satAt j = _ from State.satAt_doneAll _ _ _ j, State.satAt_removeSat]
    by_cases e : j = slot
    · rw [if_pos e, if_pos e]
    · rw [if_neg e, if_neg e, sats4 j e, sats3, sats2, sats1]
  split
  · exact sats5
  · exact sats5

theorem release_gone (s : State) (m : CMsg) (slot : Nat) (x : Sat) (v : Move) (ready : s.sat.ready = true) (rsv : m.rsv = 0) (state : m.state < 11)
    (sends : s.sending m.id (m.epoch - 1) = some slot) (found : s.satAt slot = some x) (move : x.move = some v) (dev : v.dev = m.sender) :
    ∃ t, exec (.release m) s = .next t ∧ t.satAt slot = none ∧ (∀ j, j ≠ slot → t.satAt j = s.satAt j) ∧
      s.Only [.bar, .sat, .kva, .pln, .memory, .fls, .cmd, .sec, .host, .out] t := by
  have run : exec (.release m) s = .next (s.moveCommitted slot) := by
    refine congrArg Host.Outcome.next ((State.takeC_some ready rsv state _ _).trans ?_)
    rw [sends]
    dsimp only
    rw [State.withSlot_some _ found, move]
    exact if_pos dev
  exact ⟨_, run, (State.satAt_moveCommitted found move slot).trans (if_pos rfl), fun j ne => (State.satAt_moveCommitted found move j).trans (if_neg ne),
    ((s.keeps_self _).moveCommitted (sub_self _) slot).only⟩

theorem releaseTimeout_asks (s : State) (id : SatchelId) (e : Nat × Sat) (sends : s.sat.sats.find? (fun e => e.2.id == id && e.2.state == .inTransit) = some e) :
    exec (.releaseTimeout id) s = .next (s.sendAbort e.1) := by
  have unfolded : exec (.releaseTimeout id) s = execReleaseTimeout id s := rfl
  rw [unfolded, execReleaseTimeout, sends]

theorem decline_noted (s : State) (m : CMsg) (slot : Nat) (x : Sat) (v : Move) (ready : s.sat.ready = true) (rsv : m.rsv = 0) (state : m.state < 11)
    (sends : s.sending m.id m.epoch = some slot) (found : s.satAt slot = some x) (move : x.move = some v) (dev : v.dev = m.sender) :
    ∃ t y, exec (.decline m) s = .next t ∧ t.satAt slot = some y ∧ y.state = x.state ∧ y.move = some { v with declined := some (Status.ofCode m.status), abortSent := true } ∧
      (∀ j, j ≠ slot → t.satAt j = s.satAt j) ∧ s.Only [.sat, .out] t := by
  let noted (y : Sat) : Sat := { y with move := some { v with declined := some (Status.ofCode m.status) } }
  let sent (y : Sat) : Sat := { y with move := y.move.map fun w => { w with abortSent := true } }
  have run : exec (.decline m) s = .next ((s.modSat slot noted).sendAbort slot) := by
    refine congrArg Host.Outcome.next ((State.takeC_some ready rsv state _ _).trans ?_)
    rw [sends]
    dsimp only
    rw [State.withSlot_some _ found, move]
    exact if_pos dev
  have here := State.satAt_modSat_same noted found
  have abort (j : Nat) : ((s.modSat slot noted).sendAbort slot).satAt j = if j = slot then some (sent (noted x)) else s.satAt j := by
    rw [State.sendAbort, State.withSlot_some _ here, State.satAt_modSat, State.satAt_toRegistrar, State.satAt_toRegistrar, here]
    by_cases e : j = slot
    · rw [if_pos e, if_pos e]; rfl
    · rw [if_neg e, if_neg e, State.satAt_modSat_ne _ _ e]
  exact ⟨_, sent (noted x), run, (abort slot).trans (if_pos rfl), rfl, rfl, fun j ne => (abort j).trans (if_neg ne),
    (((s.keeps_self _).modSat (by decide) slot noted).sendAbort (by decide) slot).only⟩

/-- A satchel that stays, as it was before its move. -/
def Sat.thawed (y : Sat) (v : Move) : Sat :=
  { y with state := y.prior, frozen := false, move := none, cancelLatched := false, tried := if v.purpose = 3 then y.tried + 1 else y.tried }

theorem State.satAt_thaw {s : State} {slot : Nat} {x : Sat} {v : Move} (found : s.satAt slot = some x) (move : x.move = some v) (kept : x.cancelLatched = false) (j : Nat) :
    (s.thaw slot).satAt j = if j = slot then some (x.thawed v) else s.satAt j := by
  rw [State.thaw, State.withSlot_some _ found]
  split
  · next e => exact absurd (move.symm.trans e) (by simp)
  next w e =>
  obtain rfl : v = w := Option.some.inj (move.symm.trans e)
  extract_lets s1 s2 s3
  rw [if_neg (by simp [kept])]
  have sats2 : s2.satAt j = s1.satAt j := by
    simp only [s2]
    split
    · exact State.satAt_of_sat (State.doneFor_only _ _ _ _).sat j
    · rfl
  have sats3 : s3.satAt j = s2.satAt j := by
    simp only [s3]
    split
    · exact State.satAt_of_sat (State.event_only _ _ _ _ _ _).sat j
    · rfl
  rw [sats3, sats2, State.satAt_modSat, found]
  rfl

theorem abortAns_settles (s : State) (m : CMsg) (slot : Nat) (x : Sat) (v : Move) (ready : s.sat.ready = true) (rsv : m.rsv = 0) (state : m.state < 11)
    (sends : s.sending m.id m.epoch = some slot) (found : s.satAt slot = some x) (move : x.move = some v) :
    (m.arg = 0 → x.cancelLatched = false → s.sec.shutdown = none →
      ∃ t y, exec (.abortAns m) s = .next t ∧ t.satAt slot = some y ∧ y.state = x.prior ∧ y.frozen = false ∧ y.move = none ∧ y.epoch = x.epoch ∧ y.rows = x.rows ∧
        (∀ j, j ≠ slot → t.satAt j = s.satAt j)) ∧
    (m.arg = 1 → ∃ t, exec (.abortAns m) s = .next t ∧ t.satAt slot = none ∧ (∀ j, j ≠ slot → t.satAt j = s.satAt j)) := by
  have run : exec (.abortAns m) s = .next (if m.arg = 0 then (s.thaw slot).surrenderLive slot
      else if m.arg = 1 then s.moveCommitted slot
      else s.withSlot slot fun x => (if m.peer = 0xFFFF then s else s.forwardCancel x m.peer x.part).loseCopy slot (Status.ofCode m.status)) := by
    refine congrArg Host.Outcome.next ((State.takeC_some ready rsv state _ _).trans ?_)
    rw [sends]
  have thawed := State.satAt_thaw found move
  refine ⟨fun stays kept serves => ?_, fun moved => ?_⟩
  · have here := (thawed kept slot).trans (if_pos rfl)
    have calm : (s.thaw slot).surrendering = false := by
      rw [State.surrendering, ((s.keeps_self _).thaw (sub_self _) slot).only.sec, serves]
    rw [if_pos stays, State.surrenderLive, State.withSlot_some _ here, calm] at run
    exact ⟨_, x.thawed v, run, here, rfl, rfl, rfl, rfl, rfl, fun j ne => (thawed kept j).trans (if_neg ne)⟩
  · rw [if_neg (by omega), if_pos moved] at run
    exact ⟨_, run, (State.satAt_moveCommitted found move slot).trans (if_pos rfl), fun j ne => (State.satAt_moveCommitted found move j).trans (if_neg ne)⟩

end Sys2Proof.Machine
end

section
/-!
PROOFS. What is left after the buckle (O12): lodgings, satellites, and the instructions of shard 0.
-/
namespace Sys2Proof.Machine

/-! ### Migration and lodgings -/

theorem State.freeLodging_lodgings (s : State) (id : SatchelId) : (s.freeLodging id).sat.lodgings = s.sat.lodgings.filter fun y => y.id != id := by
  unfold State.freeLodging
  dsimp only
  generalize hs1 : ({ s with sat := { s.sat with lodgings := s.sat.lodgings.filter fun y => y.id != id } } : State) = s1
  have rows := (s1.keeps_self [.kva, .pln, .fls]).foldl (s.sat.lodgings.filter fun y => y.id == id) (fun a y => y.rows.foldl (fun b r => b.dropRow y.part.val r) a)
    fun t y k => k.foldl _ _ fun u r ku => ku.dropRow (sub_self _) _ r
  rw [rows.only.sat, ← hs1]

theorem State.freeLodging_gone (s : State) (id : SatchelId) :
    (∀ y ∈ (s.freeLodging id).sat.lodgings, y.id ≠ id) ∧ (s.freeLodging id).sat.sats = s.sat.sats ∧ s.Only [.sat, .kva, .pln, .fls] (s.freeLodging id) := by
  refine ⟨fun y mem => ?_, s.freeLodging_sats id, ((s.keeps_self _).freeLodging (sub_self _) id).only⟩
  rw [State.freeLodging_lodgings] at mem
  simpa using (List.mem_filter.1 mem).2

theorem State.findCtx_of_findSlot {s : State} {id : SatchelId} {slot : Nat} (slots : s.findSlot id = some slot) : s.findCtx id = some slot := by
  rw [State.findCtx, slots]
  rfl

theorem migrationComplete_ends (s : State) (id : SatchelId) (slot : Nat) (x : Sat) (slots : s.findSlot id = some slot) (low : slot < 4194304)
    (found : s.satAt slot = some x) (migrating : x.migrating = true) (here : x.has .lodged = false) :
    ∃ t, exec (.migrationComplete id) s = .next t ∧ t.satAt slot = some { x with migrating := false, lodge := 0xFFFF, migrated := 0 } ∧
      (x.lodge ≠ s.me → t.out = s.out ++ [.lodgingFree x.lodge id]) ∧ s.Only [.sat, .kva, .pln, .fls, .out] t := by
  let settled (y : KvCtx) : KvCtx := { y with migrating := false, lodge := 0xFFFF, migrated := 0 }
  have run : exec (.migrationComplete id) s = .next ((s.modCtx slot settled).endLodging x.lodge id) := by
    have unfolded : exec (.migrationComplete id) s = execMigrationComplete id s := rfl
    rw [unfolded, execMigrationComplete, State.findCtx_of_findSlot slots]
    dsimp only
    rw [State.withCtx_some _ (State.ctxAt_of_satAt low found), if_pos ⟨migrating, here⟩]
  have sat : (s.modCtx slot settled).satAt slot = some { x with toKvCtx := settled x.toKvCtx } := by
    rw [State.satAt_modCtx, if_pos ⟨by omega, rfl⟩, found]; rfl
  have moved : s.Only [.sat] (s.modCtx slot settled) := ((s.keeps_self _).modCtx (sub_self _) slot settled).only
  refine ⟨_, run, (State.satAt_congr (State.endLodging_sats _ _ _) slot).trans sat, fun away => ?_, ?_⟩
  · rw [State.endLodging, if_neg fun e => away (e.trans (State.me_congr moved.bar))]
    exact congrArg (· ++ _) moved.out
  · exact (((s.keeps_self _).modCtx (by decide) slot settled).endLodging (by decide) x.lodge id).only

theorem migrationComplete_unknown (s : State) (id : SatchelId) (unknown : s.findCtx id = none) :
    ∃ t, exec (.migrationComplete id) s = .next t ∧ (∀ y ∈ t.sat.lodgings, y.id ≠ id) ∧ t.sat.sats = s.sat.sats ∧ s.Only [.sat, .kva, .pln, .fls] t := by
  have unfolded : exec (.migrationComplete id) s = execMigrationComplete id s := rfl
  rw [unfolded, execMigrationComplete, unknown]
  exact ⟨_, rfl, s.freeLodging_gone id⟩

theorem lodgingExpiry_frees (s : State) (id : SatchelId) (l : Lodging) (t0 : Nat) (held : s.sat.lodgings.find? (fun l => l.id == id) = some l) (dead : l.deadAt = some t0)
    (late : t0 + s.lossTime ≤ s.stk.time) :
    ∃ t, exec (.lodgingExpiry id) s = .next t ∧ (∀ y ∈ t.sat.lodgings, y.id ≠ id) ∧ t.sat.sats = s.sat.sats ∧ s.Only [.sat, .kva, .pln, .fls] t := by
  have unfolded : exec (.lodgingExpiry id) s = execLodgingExpiry id s := rfl
  rw [unfolded, execLodgingExpiry, held]
  dsimp only
  rw [dead]
  dsimp only
  rw [if_pos late]
  exact ⟨_, rfl, s.freeLodging_gone id⟩

/-! ### Satellites that go -/

/-- A change that leaves the satchels and makes no satellite. -/
structure State.NoNewSats (s t : State) : Prop where
  sats : t.sat.sats = s.sat.sats
  absent : ∀ k, afind s.sat.satellites k = none → afind t.sat.satellites k = none

theorem State.NoNewSats.trans {s t u : State} (h : s.NoNewSats t) (k : t.NoNewSats u) : s.NoNewSats u :=
  ⟨k.sats.trans h.sats, fun j none_ => k.absent j (h.absent j none_)⟩

theorem State.noNewSats_of_sat {s t : State} (sat : t.sat = s.sat) : s.NoNewSats t := ⟨by rw [sat], fun k none_ => by rwa [sat]⟩

theorem State.noNewSats_modCtx (s : State) {c : Nat} (high : ¬ c < 2 ^ 22) (f : KvCtx → KvCtx) : s.NoNewSats (s.modCtx c f) := by
  rw [State.modCtx, if_neg high]
  refine ⟨rfl, fun k none_ => ?_⟩
  rw [afind_amod]
  split
  · next e => rw [← e, none_]; rfl
  · exact none_

theorem State.noNewSats_endLodging (s : State) (dev : DeviceId) (id : SatchelId) : s.NoNewSats (s.endLodging dev id) := by
  rw [State.endLodging]
  split
  · refine ⟨s.freeLodging_sats id, fun k none_ => ?_⟩
    unfold State.freeLodging
    dsimp only
    generalize hs1 : ({ s with sat := { s.sat with lodgings := s.sat.lodgings.filter fun y => y.id != id } } : State) = s1
    have rows := (s1.keeps_self [.kva, .pln, .fls]).foldl (s.sat.lodgings.filter fun y => y.id == id) (fun a y => y.rows.foldl (fun b r => b.dropRow y.part.val r) a)
      fun t y k => k.foldl _ _ fun u r ku => ku.dropRow (sub_self _) _ r
    rwa [rows.only.sat, ← hs1]
  · exact State.noNewSats_of_sat rfl

theorem State.noNewSats_freeCtx (s : State) {c : Nat} (high : ¬ c < 2 ^ 22) : s.NoNewSats (s.freeCtx c) := by
  cases found : s.ctxAt c with
  | none => rw [State.freeCtx, State.withCtx_none _ found]; exact State.noNewSats_of_sat rfl
  | some x =>
    rw [State.freeCtx, State.withCtx_some _ found]
    extract_lets p s1 s2 s3 s4
    have k2 : s.Keeps [.kva, .pln, .fls, .out] s2 :=
      ((State.Keeps.foldl (s.keeps_self _) x.rows _ fun t r k => k.dropRow (by decide) p r).foldl _ _ fun t r k => k.dropRow (by decide) p r).foldl _ _
        (fun t r k => k.freeRow (by decide) p r) |>.dropSwapOut (by decide) x
    have lodged : s2.NoNewSats s3 := by
      simp only [s3]
      split
      · exact s2.noNewSats_endLodging _ _
      · exact State.noNewSats_of_sat rfl
    have blocks : s3.NoNewSats s4 := by
      have others : (s3.toOthers c x (shardDrop x.id)).sat = s3.sat := ((s3.keeps_self _).toOthers (sub_self _) c x _).only.sat
      simp only [s4, State.freeBlocks, State.withCtx]
      split
      · next y _ =>
        have units : ((s3.toOthers c x (shardDrop x.id)).t2Free 992 y.cold).sat = _ := ((State.keeps_self _ _).t2Free (sub_self _) 992 _).only.sat
        refine .trans ?_ (State.noNewSats_modCtx _ high _)
        exact State.noNewSats_of_sat (units.trans others)
      · exact State.noNewSats_of_sat others
    exact (State.noNewSats_of_sat k2.only.sat).trans (lodged.trans (blocks.trans (s4.noNewSats_modCtx high _)))

theorem ctxOfSatellite_high (k : Nat) : ¬ ctxOfSatellite k < 2 ^ 22 := by rw [ctxOfSatellite]; omega

theorem ctxOfSatellite_sub (k : Nat) : ctxOfSatellite k - 2 ^ 22 = k := by rw [ctxOfSatellite]; omega

theorem State.freeSatellite_gone (s : State) (k : Nat) : afind (s.freeSatellite k).sat.satellites k = none := afind_adel_same _ _

theorem State.noNewSats_freeSatellite (s : State) (k : Nat) : s.NoNewSats (s.freeSatellite k) := by
  have objects : ((s.freeCtx (ctxOfSatellite k)).unplace (ctxOfSatellite k)).sat = _ := ((State.keeps_self _ _).unplace (sub_self _) _).only.sat
  have freed := (s.noNewSats_freeCtx (ctxOfSatellite_high k)).trans (State.noNewSats_of_sat objects)
  refine ⟨freed.sats, fun j none_ => ?_⟩
  by_cases e : j = k
  · rw [e]; exact s.freeSatellite_gone k
  · exact (afind_adel_ne _ e).trans (freed.absent j none_)

theorem State.noNewSats_freeSatellites (l : List Nat) (s : State) : s.NoNewSats (l.foldl State.freeSatellite s) ∧
    ∀ k ∈ l, afind (l.foldl State.freeSatellite s).sat.satellites k = none := by
  induction l generalizing s with
  | nil => exact ⟨State.noNewSats_of_sat rfl, fun _ mem => absurd mem (by simp)⟩
  | cons j l ih =>
    obtain ⟨rest, gone⟩ := ih (s.freeSatellite j)
    refine ⟨(s.noNewSats_freeSatellite j).trans rest, fun k mem => ?_⟩
    rcases List.mem_cons.1 mem with e | mem
    · rw [e]; exact rest.absent j (s.freeSatellite_gone j)
    · exact gone k mem

theorem satelliteExpiry_frees (s : State) (id : SatchelId) (k t0 : Nat) (y : Satellite) (found : afind s.sat.satellites k = some y) (named : y.id = id)
    (dead : y.deadAt = some t0) (late : t0 + s.lossTime ≤ s.stk.time) :
    ∃ t, exec (.satelliteExpiry id) s = .next t ∧ afind t.sat.satellites k = none ∧ t.sat.sats = s.sat.sats ∧ s.Only [.sat, .kva, .pln, .memory, .fls, .out] t := by
  have unfolded : exec (.satelliteExpiry id) s = execSatelliteExpiry id s := rfl
  rw [unfolded, execSatelliteExpiry]
  exact ⟨_, rfl, (State.noNewSats_freeSatellites _ s).2 k
      (List.mem_map.2 ⟨(k, y), List.mem_filter.2 ⟨mem_of_afind found, by simp [named, dead, late]⟩, rfl⟩),
    (State.noNewSats_freeSatellites _ s).1.sats,
    ((s.keeps_self [.sat, .kva, .pln, .memory, .fls, .out]).foldl _ _ fun t j kt => kt.freeSatellite (sub_self _) j).only⟩

/-! ### A satellite's entry -/

theorem State.ctxAt_satellite {s : State} {k : Nat} {y : Satellite} (found : afind s.sat.satellites k = some y) : s.ctxAt (ctxOfSatellite k) = some y.toKvCtx := by
  rw [State.ctxAt, if_neg (ctxOfSatellite_high k), ctxOfSatellite_sub, found]
  rfl

/-- A satellite whose KV context is changed. -/
def Satellite.withCtx (y : Satellite) (f : KvCtx → KvCtx) : Satellite := { y with toKvCtx := f y.toKvCtx }

theorem State.satellite_modCtx {s : State} {k : Nat} {y : Satellite} (f : KvCtx → KvCtx) (found : afind s.sat.satellites k = some y) :
    afind (s.modCtx (ctxOfSatellite k) f).sat.satellites k = some (y.withCtx f) := by
  rw [State.modCtx, if_neg (ctxOfSatellite_high k), ctxOfSatellite_sub]
  dsimp only
  rw [afind_amod, if_pos rfl, found]
  rfl

theorem State.only_modCtx (s : State) (c : Nat) (f : KvCtx → KvCtx) : s.Only [.sat] (s.modCtx c f) := ((s.keeps_self _).modCtx (sub_self _) c f).only

/-- Nothing is dropped from a context without rows. -/
theorem State.dropFrom_empty {s : State} {c n : Nat} {x : KvCtx} (found : s.ctxAt c = some x) (rows : x.rows = []) :
    s.dropFrom c n = s.modCtx c fun y => { y with rows := y.rows.take n } := by
  rw [State.dropFrom, State.withCtx_some _ found]
  simp only [rows, List.drop_nil, List.foldl_nil, List.filter_nil, List.length_nil, if_true]
  rw [foldl_same _ _ fun _ => rfl]

/-- A satellite without rows after an instruction's position and its drop of rows. -/
theorem State.satellite_positioned {s : State} {k : Nat} {y : Satellite} (found : afind s.sat.satellites k = some y) (rows : y.rows = []) (kvPos n positions : Nat) :
    ∃ t : State, ((s.modCtx (ctxOfSatellite k) fun x => { x with kvPos := kvPos }).dropFrom (ctxOfSatellite k) n).modCtx (ctxOfSatellite k)
        (fun x => { x with rows := fillRows positions x.kvPos x.rows }) = t ∧
      afind t.sat.satellites k = some { y with kvPos := kvPos, rows := [] } ∧ s.Only [.sat] t := by
  have first := State.satellite_modCtx (fun x => { x with kvPos := kvPos }) found
  rw [State.dropFrom_empty (State.ctxAt_satellite first) rows]
  have second := State.satellite_modCtx (fun x => { x with rows := x.rows.take n }) first
  have third := State.satellite_modCtx (fun x => { x with rows := fillRows positions x.kvPos x.rows }) second
  refine ⟨_, rfl, third.trans ?_, ((s.only_modCtx _ _).trans (State.only_modCtx _ _ _)).trans (State.only_modCtx _ _ _)⟩
  simp [Satellite.withCtx, rows, fillRows]

/-! ### SHARD_PLAN_RECEIVE -/

theorem shardPlanReceive_unknown (s : State) (part : Fin 16) (owner : DeviceId) (stroke : Nat) (i : ShardInstr) (plain : i.ring = false) (acts : i.acts = [])
    (unknown : s.satelliteFor part false i.id = none) : exec (.shardPlanReceive part owner stroke [i]) s = .next s := by
  have unfolded : exec (.shardPlanReceive part owner stroke [i]) s = .next (s.shardInstr part owner i) := rfl
  rw [unfolded, State.shardInstr, if_neg (by simp [plain]), acts, List.foldl_nil, plain, unknown]

theorem shardPlanReceive_shards (s : State) (part : Fin 16) (owner : DeviceId) (stroke : Nat) (i : ShardInstr) (plain : i.ring = false) (list : List DevPart)
    (acts : i.acts = [.shards list]) (unknown : s.satelliteFor part false i.id = none) (all : s.pln.parts.length = 16) :
    ∃ t, exec (.shardPlanReceive part owner stroke [i]) s = .next t ∧ (t.part part.val).shardList = list ∧ (∀ p, p ≠ part.val → t.part p = s.part p) ∧ s.Only [.pln] t := by
  have below := part.isLt
  let named (q : Part) : Part := { q with shardList := list }
  have run : exec (.shardPlanReceive part owner stroke [i]) s = .next (s.modPart part.val named) := by
    have unfolded : exec (.shardPlanReceive part owner stroke [i]) s = .next (s.shardInstr part owner i) := rfl
    have unknown' : (s.modPart part.val named).satelliteFor part false i.id = none := unknown
    rw [unfolded, State.shardInstr, if_neg (by simp [plain]), acts, List.foldl_cons, List.foldl_nil, State.shardAct]
    dsimp only
    rw [plain, unknown']
  refine ⟨_, run, ?_, fun p ne => State.part_modPart_ne _ _ ne, ((s.keeps_self _).modPart (sub_self _) _ _).only⟩
  exact congrArg Part.shardList (s.part_modPart_in named (by omega))

theorem shardPlanReceive_drops (s : State) (part : Fin 16) (owner : DeviceId) (stroke : Nat) (i : ShardInstr) (plain : i.ring = false) (k : Nat)
    (known : s.satelliteFor part false i.id = some k) (acts : i.acts = []) (drop : i.drop = true) :
    ∃ t, exec (.shardPlanReceive part owner stroke [i]) s = .next t ∧ afind t.sat.satellites k = none ∧ t.sat.sats = s.sat.sats ∧
      s.Only [.sat, .kva, .pln, .memory, .fls, .out] t := by
  have unfolded : exec (.shardPlanReceive part owner stroke [i]) s = .next (s.shardInstr part owner i) := rfl
  have run : exec (.shardPlanReceive part owner stroke [i]) s = .next (s.freeSatellite k) := by
    rw [unfolded, State.shardInstr, if_neg (by simp [plain]), acts, List.foldl_nil, plain, known]
    exact congrArg Host.Outcome.next (if_pos drop)
  exact ⟨_, run, s.freeSatellite_gone k, (s.noNewSats_freeSatellite k).sats, ((s.keeps_self _).freeSatellite (sub_self _) k).only⟩

/-- What an instruction does to a satellite that it knows and keeps. -/
theorem State.shardInstr_known {s u : State} {part : Fin 16} {owner : DeviceId} {i : ShardInstr} {k : Nat} (plain : i.ring = false)
    (acted : i.acts.foldl (fun (a : State) x => a.shardAct part owner i x) s = u) (known : u.satelliteFor part false i.id = some k) (kill : i.kill = false) (drop : i.drop = false) :
    s.shardInstr part owner i = (((u.modCtx (ctxOfSatellite k) fun y => { y with kvPos := i.kvPos }).dropFrom (ctxOfSatellite k) i.freeFrom).modCtx (ctxOfSatellite k)
      fun y => { y with rows := fillRows (s.part part.val).positions y.kvPos y.rows }).satelliteRows (ctxOfSatellite k) i.alloc := by
  rw [State.shardInstr, if_neg (by simp [plain])]
  simp only [acted, plain, known, kill, drop, Bool.false_eq_true, if_false]

/-- A new satellite: its entry, on the state that holds its objects. -/
theorem State.newSatellite_entry {s : State} {part : Fin 16} {owner : DeviceId} {ring reserved : Bool} {id : SatchelId} {tenant : BitVec 16} {cls : Fin 8}
    {adapter : BitVec 16} {version : BitVec 32} {kvPos : Nat} {w : Nat × State}
    (made : s.newSatellite part owner ring reserved id tenant cls adapter version kvPos = some w) :
    ∃ (b : State) (y : Satellite), s.Only [.memory] b ∧ w.2 = { b with sat := { b.sat with satellites := aput b.sat.satellites w.1 y } } ∧ y.id = id ∧ y.owner = owner ∧
      y.part = part ∧ y.tenant = tenant ∧ y.rows = [] ∧ y.kvPos = kvPos ∧ y.partner = ring := by
  rw [State.newSatellite] at made
  split at made
  · exact absurd made (by simp)
  · split at made
    · exact absurd made (by simp)
    · next k _ =>
      obtain ⟨b, placed, rfl⟩ := Option.map_eq_some_iff.1 made
      obtain ⟨a, table, objects⟩ := Option.bind_eq_some_iff.1 placed
      obtain ⟨pl, sb⟩ := b
      obtain ⟨pa, sa⟩ := a
      have kept := ((s.keeps_self [.memory]).placeTable (by decide) _ _ _ table).placeState (by decide) _ _ _ objects
      exact ⟨sb, _, kept.only, rfl, rfl, rfl, rfl, rfl, rfl, rfl, rfl⟩

/-- The one satellite that an ID names in a partition. -/
theorem State.satelliteFor_new {s t : State} {part : Fin 16} {id : SatchelId} {k : Nat} {y : Satellite} (unknown : s.satelliteFor part false id = none)
    (put : t.sat.satellites = aput s.sat.satellites k y) (named : y.id = id) (here : y.part = part) (plain : y.partner = false) : t.satelliteFor part false id = some k := by
  rw [State.satelliteFor, Option.map_eq_none_iff, List.find?_eq_none] at unknown
  have mem : (k, y) ∈ t.sat.satellites := by rw [put]; exact mem_of_afind (afind_aput_same _ _ _)
  have found : (t.sat.satellites.find? fun e => e.2.id == id && e.2.part == part && e.2.partner == false).isSome = true := by
    rw [List.find?_isSome]
    exact ⟨_, mem, by simp [named, here, plain]⟩
  obtain ⟨e, he⟩ := Option.isSome_iff_exists.1 found
  have pred := List.find?_some he
  have from_ := List.mem_of_find?_eq_some he
  rw [put] at from_
  rw [State.satelliteFor, he]
  rcases mem_aput from_ with rfl | old
  · rfl
  · exact absurd pred (unknown e old)

theorem shardPlanReceive_creates (s : State) (part : Fin 16) (owner : DeviceId) (stroke : Nat) (i : ShardInstr) (plain : i.ring = false)
    (tenant : BitVec 16) (cls : Fin 8) (adapter : BitVec 16) (version prefixId : BitVec 32) (w : Nat × State)
    (acts : i.acts = [.create tenant cls adapter version prefixId]) (alloc : i.alloc = 0) (kill : i.kill = false) (drop : i.drop = false)
    (unknown : s.satelliteFor part false i.id = none) (inks : ∀ e ∈ s.kva.inks, e.prefixId ≠ prefixId)
    (made : s.newSatellite part owner false false i.id tenant cls adapter version i.kvPos = some w) :
    ∃ t y, exec (.shardPlanReceive part owner stroke [i]) s = .next t ∧ afind t.sat.satellites w.1 = some y ∧ y.id = i.id ∧ y.owner = owner ∧ y.part = part ∧
      y.tenant = tenant ∧ y.rows = [] ∧ y.kvPos = i.kvPos ∧ s.Only [.sat, .memory] t := by
  obtain ⟨k, u⟩ := w
  obtain ⟨b, y, only, entry, named, own, here, ten, rows, pos, partner⟩ := State.newSatellite_entry made
  dsimp only at entry
  have kva : u.kva = s.kva := by rw [entry]; exact only.kva
  have acted : i.acts.foldl (fun (a : State) x => a.shardAct part owner i x) s = u := by
    have noInk : (u.kva.inks.find? fun e => e.prefixId == prefixId && e.part == part) = none := by
      rw [kva, List.find?_eq_none]
      exact fun e mem => by simp [inks e mem]
    rw [acts, List.foldl_cons, List.foldl_nil, State.shardAct, State.makeSatellite, plain, made]
    dsimp only
    rw [noInk]
  have put : u.sat.satellites = aput s.sat.satellites k y := by rw [entry]; exact congrArg (fun z : SatSt => aput z.satellites k y) only.sat
  have found : afind u.sat.satellites k = some y := by rw [put]; exact afind_aput_same _ _ _
  have onlyU : s.Only [.sat, .memory] u := by rw [entry]; exact (only.mono (by decide)).trans (by simp [State.Only])
  obtain ⟨t, settled, entryT, onlyT⟩ := State.satellite_positioned found rows i.kvPos i.freeFrom (s.part part.val).positions
  have run : exec (.shardPlanReceive part owner stroke [i]) s = .next t := by
    have unfolded : exec (.shardPlanReceive part owner stroke [i]) s = .next (s.shardInstr part owner i) := rfl
    rw [unfolded, State.shardInstr_known plain acted (State.satelliteFor_new unknown put named here partner) kill drop, settled, alloc, State.satelliteRows,
      State.withCtx_some _ (State.ctxAt_satellite entryT)]
    rfl
  exact ⟨t, _, run, entryT, named, own, here, ten, rfl, rfl, onlyU.trans (onlyT.mono (by decide))⟩

/-- A row taken rests on the partitions and the arena alone. -/
theorem State.allocRow_of_same {s u : State} (pln : u.pln = s.pln) (kva : u.kva = s.kva) (p : Nat) (tag : BitVec 64) :
    u.allocRow p tag = (s.allocRow p tag).map fun w => (w.1, { u with pln := w.2.pln, kva := w.2.kva }) := by
  have part : u.part p = s.part p := State.part_congr pln p
  simp only [State.allocRow, State.initRow, State.modPart, part, pln, kva]
  split
  · split <;> rfl
  · rfl

/-- The first row of a context that has room for its entry, where no ring partner holds it. -/
theorem State.presentRow_first {s : State} {c : Nat} {x : KvCtx} {h : Nat × State} (found : s.ctxAt c = some x) (rows : x.rows = []) (room : 1 ≤ x.place.tableCap)
    (here : (s.part x.part.val).ringPos 0 = 0) (taken : s.allocRow x.part.val x.id = some h) :
    ∃ u, s.Only [.sat] u ∧ u = (s.modCtx c fun y => { y with place := x.place }) ∧
      s.presentRow c 0 = some (({ u with pln := h.2.pln, kva := h.2.kva } : State).modCtx c fun y => { y with rows := putRow y.rows 0 (hereRow h.1) }) := by
  refine ⟨_, s.only_modCtx _ _, rfl, ?_⟩
  have grown : s.growTable c x (0 + 1) = some (s.modCtx c fun y => { y with place := x.place }) := by
    rw [State.growTable, State.placeTable, if_pos room]
    rfl
  have only := s.only_modCtx c fun y => { y with place := x.place }
  have same := State.allocRow_of_same only.pln only.kva x.part.val x.id
  have new : ∀ held, (s.modCtx c fun y => { y with place := x.place }).newRow x held 0 =
      some (hereRow h.1, { s.modCtx c fun y => { y with place := x.place } with pln := h.2.pln, kva := h.2.kva }) := by
    intro held
    rw [State.newRow]
    dsimp only
    rw [State.part_congr only.pln, if_pos (Or.inl here)]
    dsimp only
    rw [same, taken]
    rfl
  rw [State.presentRow, found]
  simp only [rows, List.getElem?_nil, List.length_nil, if_true]
  rw [grown, Option.bind_some, new]
  rfl

theorem State.satelliteRows_first {s t : State} {c : Nat} {x : KvCtx} (found : s.ctxAt c = some x) (rows : x.rows = []) (shown : s.presentRow c 0 = some t) :
    s.satelliteRows c 1 = t := by
  have all : s.presentRows c ((List.range 1).map fun k => x.rows.length + k) = some t := by
    rw [rows, show (List.range 1).map (fun k => ([] : List Row).length + k) = [0] from rfl, State.presentRows, shown]
    rfl
  rw [State.satelliteRows, State.withCtx_some _ found, all]

theorem shardPlanReceive_allocs (s : State) (part : Fin 16) (owner : DeviceId) (stroke : Nat) (i : ShardInstr) (plain : i.ring = false) (k : Nat) (y : Satellite)
    (h : Nat × State) (known : s.satelliteFor part false i.id = some k) (found : afind s.sat.satellites k = some y) (named : y.id = i.id) (at_ : y.part = part)
    (rows : y.rows = []) (room : 1 ≤ y.place.tableCap) (acts : i.acts = []) (alloc : i.alloc = 1) (kill : i.kill = false) (drop : i.drop = false)
    (here : (s.part part.val).ringPos 0 = 0) (taken : s.allocRow part.val i.id = some h) :
    ∃ t z, exec (.shardPlanReceive part owner stroke [i]) s = .next t ∧ afind t.sat.satellites k = some z ∧ z.rows = [hereRow h.1] ∧ z.kvPos = i.kvPos ∧
      s.Only [.sat, .kva, .pln] t := by
  obtain ⟨t, settled, entryT, onlyT⟩ := State.satellite_positioned found rows i.kvPos i.freeFrom (s.part part.val).positions
  have takenT : t.allocRow y.part.val y.id = some (h.1, { t with pln := h.2.pln, kva := h.2.kva }) := by
    rw [at_, named, State.allocRow_of_same onlyT.pln onlyT.kva, taken]
    rfl
  obtain ⟨u, onlyU, placed, shown⟩ := State.presentRow_first (State.ctxAt_satellite entryT) rfl room
    (by rw [State.part_congr onlyT.pln]; exact at_ ▸ here) takenT
  have entryU : afind u.sat.satellites k = some { y with kvPos := i.kvPos, rows := [] } := by
    rw [placed]; exact State.satellite_modCtx (fun x => { x with place := y.place }) entryT
  have run : exec (.shardPlanReceive part owner stroke [i]) s =
      .next (({ u with pln := h.2.pln, kva := h.2.kva } : State).modCtx (ctxOfSatellite k) fun x => { x with rows := putRow x.rows 0 (hereRow h.1) }) := by
    have unfolded : exec (.shardPlanReceive part owner stroke [i]) s = .next (s.shardInstr part owner i) := rfl
    rw [unfolded, State.shardInstr_known plain (by rw [acts]; rfl) known kill drop, settled, alloc,
      State.satelliteRows_first (State.ctxAt_satellite entryT) rfl shown]
  refine ⟨_, _, run, State.satellite_modCtx (s := { u with pln := h.2.pln, kva := h.2.kva }) (fun x => { x with rows := putRow x.rows 0 (hereRow h.1) }) entryU, rfl, rfl, ?_⟩
  exact ((onlyT.trans onlyU).mono (by decide)).trans ((show u.Only [.kva, .pln] _ by simp [State.Only]).mono (by decide) |>.trans ((State.only_modCtx _ _ _).mono (by decide)))

/-- Settles O12: each row of the buckle from the satchel, the incoming satchel or the record that it serves. -/
theorem buckle : Obligations.Buckle :=
  ⟨fun s m x full inside shardsOk part sentBy transit ready rsv state incoming =>
      ⟨offer_declined s m x full inside shardsOk part sentBy transit ready rsv state incoming,
        offer_noTransit s m x full inside shardsOk part sentBy transit ready rsv state incoming,
        offer_taken s m x full inside shardsOk part sentBy transit ready rsv state incoming⟩,
    fun _ _ _ log forms shardsTaken d arrives fresh =>
      ⟨receiverDataComplete_corrupt arrives fresh log forms shardsTaken, receiverDataComplete_noTransit arrives fresh log forms shardsTaken,
        receiverDataComplete_claims arrives fresh log forms shardsTaken d⟩,
    fun _ _ _ ready rsv state fresh rec owner epoch held still => offerNote_transit ready rsv state fresh rec owner epoch held still,
    fun _ _ _ ready rsv state fresh quiet rec => claim_answers ready rsv state fresh rec quiet,
    fun s m i ready rsv state arrives => ⟨commit_refused s m i ready rsv state arrives, commit_takes s m i ready rsv state arrives⟩,
    commitTimeout_declines, release_gone, releaseTimeout_asks, decline_noted,
    fun _ _ _ ready rsv state fresh rec transit epoch owner => abortReq_returns ready rsv state fresh rec transit epoch owner,
    abortAns_settles, migrationComplete_ends, migrationComplete_unknown, lodgingExpiry_frees, satelliteExpiry_frees,
    fun s part owner stroke i plain =>
      ⟨shardPlanReceive_unknown s part owner stroke i plain, shardPlanReceive_creates s part owner stroke i plain, shardPlanReceive_allocs s part owner stroke i plain,
        fun list => shardPlanReceive_shards s part owner stroke i plain list, shardPlanReceive_drops s part owner stroke i plain⟩⟩

end Sys2Proof.Machine
end

section
/-!
PROOFS. Waits and parking (O13): the end of a wait, parking, revival and the parking pool.
-/
namespace Sys2Proof.Machine

/-! ### A wait that expires -/

section wait

variable {s : State} {id : SatchelId} {slot : Nat} {x : Sat} {e : StopEntry} (slots : s.findSlot id = some slot) (found : s.satAt slot = some x) (waits : x.state = .wait)
  (kind : x.waitKind ≠ 0) (idle : x.park = .idle) (entry : x.stop.entries[x.waitMatcher]? = some e) (timed : e.timeout ≠ 0)

include slots found entry in
/-- The row of a satchel whose wait names an entry with a timeout. -/
theorem waitTimeoutExpiry_run : exec (.waitTimeoutExpiry id) s =
    .next (if !([SatState.wait, .parkedWarm, .parkedCold].contains x.state) ∨ x.waitKind = 0 ∨ e.timeout = 0 ∨ s.age x < e.timeout then s
      else if x.waitExpiry = 2 then s.applyCancel slot
      else if x.waitExpiry = 1 then
        let q := s.part x.part.val
        let w := e.wake.take e.wakeLen
        if x.maxContext < x.log.length + w.length then s.finish slot .done [finalRec x .ok s.boundaryStroke]
        else
          match s.growLog slot w.length with
          | none => s
          | some s0 =>
            let s1 := s0.takeAppend slot w (if q.role = 2 then (s.parkCfgAt x.part.val).revive else none)
            let s2 := s1.eventAt s1.boundaryStroke (partFn x.part.val) 3 .ok x.part.val (leBytes 8 x.id.toNat ++ leBytes 1 x.waitMatcher ++ leBytes 1 x.waitKind)
            if x.park = .reviving [] true then s2.enterPrefill slot else s2
      else s) := by
  have unfolded : exec (.waitTimeoutExpiry id) s = execWaitTimeoutExpiry id s := rfl
  rw [unfolded, execWaitTimeoutExpiry, slots]
  dsimp only
  rw [State.withSlot_some _ found, entry] <;> rfl

include slots found entry in
theorem waitTimeoutExpiry_early (early : s.age x < e.timeout) : exec (.waitTimeoutExpiry id) s = .next s := by
  rw [waitTimeoutExpiry_run slots found entry, if_pos (Or.inr (Or.inr (Or.inr early)))]

include waits kind timed in
theorem wait_expired (late : e.timeout ≤ s.age x) :
    ¬ ((!([SatState.wait, .parkedWarm, .parkedCold].contains x.state)) = true ∨ x.waitKind = 0 ∨ e.timeout = 0 ∨ s.age x < e.timeout) := by
  rintro (h | h | h | h)
  · simp [waits] at h
  · exact kind h
  · exact timed h
  · omega

include slots found waits kind idle entry timed

theorem waitTimeoutExpiry_wakes (late : e.timeout ≤ s.age x) (expiry : x.waitExpiry = 1) (fits : x.log.length + (e.wake.take e.wakeLen).length ≤ x.maxContext)
    (grown : (s.growLog slot (e.wake.take e.wakeLen).length).isSome = true) :
    ∃ t y, exec (.waitTimeoutExpiry id) s = .next t ∧ t.satAt slot = some y ∧ y.log = x.log ++ (e.wake.take e.wakeLen).map asInput ∧ y.state = .prefill ∧ y.waitKind = 0 ∧
      y.kvPos = x.kvPos ∧ (∀ j, j ≠ slot → t.satAt j = s.satAt j) ∧ s.Only [.bar, .sat, .kva, .memory, .fls, .cmd, .host, .out] t := by
  obtain ⟨s0, grows⟩ := Option.isSome_iff_exists.1 grown
  have run := waitTimeoutExpiry_run slots found entry
  rw [if_neg (wait_expired waits kind timed late), if_neg (by omega), if_pos expiry] at run
  dsimp only at run
  rw [if_neg (by omega), grows] at run
  dsimp only at run
  rw [if_neg (by simp [idle])] at run
  obtain ⟨only0, others0, pl, here0⟩ := State.growLog_some found grows
  obtain ⟨⟨y, here1, log, state, wait, kvPos⟩, others1, only1⟩ := State.takeAppend_wait (e.wake.take e.wakeLen)
    (if (s.part x.part.val).role = 2 then (s.parkCfgAt x.part.val).revive else none) here0 waits
  refine ⟨_, y, run, ?_, log, state, wait, kvPos, fun j ne => ?_, ?_⟩
  · exact (State.satAt_of_sat ((State.keeps_self _ _).eventAt (sub_self _) _ _ _ _ _ _).only.sat slot).trans here1
  · exact (State.satAt_of_sat ((State.keeps_self _ _).eventAt (sub_self _) _ _ _ _ _ _).only.sat j).trans ((others1 j ne).trans (others0 j ne))
  · exact (only0.mono (by decide)).trans ((only1.mono (by decide)).trans ((State.keeps_self _ _).eventAt (by decide) _ _ _ _ _ _).only)

omit idle in
theorem waitTimeoutExpiry_full (late : e.timeout ≤ s.age x) (expiry : x.waitExpiry = 1) (fits : x.log.length + (e.wake.take e.wakeLen).length ≤ x.maxContext)
    (full : s.growLog slot (e.wake.take e.wakeLen).length = none) : exec (.waitTimeoutExpiry id) s = .next s := by
  rw [waitTimeoutExpiry_run slots found entry, if_neg (wait_expired waits kind timed late), if_neg (by omega), if_pos expiry]
  dsimp only
  rw [if_neg (by omega), full]

omit idle in
theorem waitTimeoutExpiry_cancels (low : slot < 4194304) (late : e.timeout ≤ s.age x) (expiry : x.waitExpiry = 2) (unplanned : x.planned = none) (kept : x.autoFree = false)
    (unasked : x.freeing = []) :
    ∃ t y, exec (.waitTimeoutExpiry id) s = .next t ∧ t.satAt slot = some y ∧ y.state = .cancelled ∧ y.rows = [] ∧ y.log = x.log ∧
      s.Only [.bar, .sat, .kva, .pln, .memory, .fls, .cmd, .host, .out] t := by
  have run := waitTimeoutExpiry_run slots found entry
  rw [if_neg (wait_expired waits kind timed late), if_pos expiry] at run
  have cancel : s.applyCancel slot = (s.finish slot .cancelled [finalRec x .cancelled s.strokeNow]).publishInk slot := by
    rw [State.applyCancel, State.withSlot_some _ found, if_neg (by simp [unplanned])]
  have finished := State.satAt_finish .cancelled [finalRec x .cancelled s.strokeNow] found slot
  rw [if_pos rfl, if_pos ⟨rfl, low⟩] at finished
  obtain ⟨rest, sats⟩ := State.satAt_publishInk_kept finished kept unasked
  have only := ((s.keeps_self _).applyCancel (sub_self _) slot).only
  rw [cancel] at run only
  exact ⟨_, _, run, (sats slot).trans (if_pos rfl), rfl, rfl, rfl, only⟩

end wait

/-! ### PARKING_DUE -/

/-- A satchel whose parking is due is quiet: its work on parking is idle. -/
theorem State.idle_of_due {s : State} {x : Sat} (due : s.due x ≠ 0) : x.park = .idle := by
  by_contra busy
  apply due
  rw [State.due, if_pos (by simp [Sat.quiet, busy])]

theorem State.trimCold_none {s : State} (none_ : afind s.fls.extents 992 = none) : s.trimCold = s := by rw [State.trimCold, none_]

/-- The first parking of a waiting satchel, where the pool takes it. -/
theorem State.beginWarm_starts {s : State} {slot : Nat} {x : Sat} (found : s.satAt slot = some x) (low : slot < 4194304)
    (room : s.poolRefusal false x.tenant (s.rawUnits slot x.toKvCtx) = none) :
    s.beginWarm slot = s.modSat slot fun y => { y with park := .parking false (s.rawUnits slot x.toKvCtx) } := by
  rw [State.beginWarm, State.beginPark, State.withSlot_some _ found]
  dsimp only
  rw [if_neg (by simp), State.takeRoom, State.withSlot_some _ found, ctxOfSlot, if_pos (by rw [room]; rfl), State.startPark,
    State.withCtx_some _ (State.ctxAt_of_satAt low found)]
  dsimp only
  rw [if_neg (by simp), State.modCtx, if_pos (by omega)]

theorem parkingDue_begins (s : State) (part : Fin 16) (slot : Nat) (x : Sat) (only : s.sat.sats = [(slot, x)]) (mine : x.part = part) (admitted : x.admitting = none)
    (waits : x.state = .wait) (due : s.due x = 1) (low : slot < 4194304) (noSatellite : ∀ e ∈ s.sat.satellites, e.2.part ≠ part)
    (room : s.poolRefusal false x.tenant (s.rawUnits slot x.toKvCtx) = none) (rate : 1 ≤ (s.parkCfgAt part.val).parkRate) (noPool : afind s.fls.extents 992 = none) :
    exec (.parkingDue part) s = .next (s.modSat slot fun y => { y with park := .parking false (s.rawUnits slot x.toKvCtx) }) := by
  have found : s.satAt slot = some x := by rw [State.satAt, only, afind]; exact if_pos rfl
  have idle : x.park = .idle := State.idle_of_due (s := s) (by omega)
  have listed : (s.sat.sats.filter fun e => e.2.part == part && e.2.admitting.isNone) = [(slot, x)] := by
    rw [only, List.filter_cons_of_pos (by simp [mine, admitted]), List.filter_nil]
  have satellites : (s.sat.satellites.filter fun e => e.2.part == part) = [] := by
    rw [List.filter_eq_nil_iff]
    exact fun e mem => by simp [noSatellite e mem]
  have begun : s.beginDue slot x = s.modSat slot fun y => { y with park := .parking false (s.rawUnits slot x.toKvCtx) } := by
    rw [State.beginDue, if_pos waits, if_neg (by omega), State.beginWarm_starts found low room]
  have took : s.takeDue (s.parkCfgAt part.val).parkRate [(slot, x)] = s.modSat slot fun y => { y with park := .parking false (s.rawUnits slot x.toKvCtx) } := by
    have here := State.satAt_modSat_same (fun y : Sat => { y with park := .parking false (s.rawUnits slot x.toKvCtx) }) found
    rw [State.takeDue, if_neg (by omega)]
    dsimp only
    rw [begun, here, if_neg (by simp), State.takeDue]
  have unfolded : exec (.parkingDue part) s = execParkingDue part s := rfl
  rw [unfolded, execParkingDue]
  simp only [listed, List.foldl_cons, List.foldl_nil, idle, State.retryRevive, satellites]
  rw [List.filter_cons_of_pos (by simp [due]), List.filter_nil, State.ageOrder, List.mergeSort_singleton, took]
  exact congrArg Host.Outcome.next (State.trimCold_none noPool)

theorem parkingDue_nobody (s : State) (part : Fin 16) (noSat : ∀ e ∈ s.sat.sats, e.2.part ≠ part) (noSatellite : ∀ e ∈ s.sat.satellites, e.2.part ≠ part) :
    exec (.parkingDue part) s = .next s.trimCold := by
  have listed : (s.sat.sats.filter fun e => e.2.part == part && e.2.admitting.isNone) = [] := by
    rw [List.filter_eq_nil_iff]
    exact fun e mem => by simp [noSat e mem]
  have satellites : (s.sat.satellites.filter fun e => e.2.part == part) = [] := by
    rw [List.filter_eq_nil_iff]
    exact fun e mem => by simp [noSatellite e mem]
  have unfolded : exec (.parkingDue part) s = execParkingDue part s := rfl
  rw [unfolded, execParkingDue]
  simp only [listed, List.foldl_nil, satellites, List.filter_nil, State.ageOrder, List.mergeSort_nil, State.takeDue]

/-! ### PARKING_COMPLETE -/

/-- A part of the state that each round of a fold leaves is left by the fold. -/
theorem foldl_leaves {α β γ : Type} (g : β → γ) (f : β → α → β) (each : ∀ b a, g (f b a) = g b) (l : List α) (b : β) : g (l.foldl f b) = g b := by
  induction l generalizing b with
  | nil => rfl
  | cons a l ih => exact (ih (f b a)).trans (each b a)

theorem State.freeRow_devCnt (s : State) (p first : Nat) : (s.freeRow p first).pln.devCnt = s.pln.devCnt := by
  rw [State.freeRow]
  split <;> rfl

theorem State.inkReclaim_devCnt (s : State) (first : Nat) : (s.inkReclaim first).pln.devCnt = s.pln.devCnt := by
  rw [State.inkReclaim]
  split
  · dsimp only
    rw [apply_ite (fun a : State => a.pln.devCnt), State.freeRow_devCnt]
    exact ite_self _
  · rfl

theorem State.inkRelease_devCnt (s : State) (first : Nat) : (s.inkRelease first).pln.devCnt = s.pln.devCnt := by
  exact State.inkReclaim_devCnt _ _

theorem State.dropRow_devCnt (s : State) (p : Nat) (r : Row) : (s.dropRow p r).pln.devCnt = s.pln.devCnt := by
  rw [State.dropRow]
  split
  · exact s.freeRow_devCnt p _
  · exact s.inkRelease_devCnt _
  · rfl
  · exact (congrArg Pln.devCnt ((s.keeps_self _).t2Free (sub_self _) _ _).only.pln :
      (s.t2Free (swapExtent p) (runFrom r.loc (s.part p).rowUnitsT2)).pln.devCnt = s.pln.devCnt)
  · rfl

theorem State.leaveHome_devCnt (s : State) (c : Nat) (x : KvCtx) : (s.leaveHome c x).pln.devCnt = s.pln.devCnt := by
  let home := (x.home.map fun e => e.2).foldl (fun (a : State) r => a.dropRow x.part.val r) s
  have dropped : home.pln.devCnt = s.pln.devCnt :=
    foldl_leaves (fun a : State => a.pln.devCnt) (fun a r => a.dropRow x.part.val r) (fun a r => a.dropRow_devCnt _ r) (x.home.map fun e => e.2) s
  have swapped : (home.dropSwapOut x).pln.devCnt = home.pln.devCnt := by
    rw [State.dropSwapOut]
    exact foldl_leaves (fun a : State => a.pln.devCnt) _ (fun a e => a.dropRow_devCnt _ _) x.swapOut home
  rw [State.leaveHome]
  exact (congrArg Pln.devCnt (State.only_modCtx _ c _).pln).trans (swapped.trans dropped)

theorem State.freeBlocks_devCnt (s : State) (c : Nat) : (s.freeBlocks c).pln.devCnt = s.pln.devCnt :=
  congrArg Pln.devCnt ((s.keeps_self [.sat, .kva, .fls]).freeBlocks (by decide) c).only.pln

/-- A satchel at home in its tier. -/
def Sat.parkedAs (y : Sat) (cold : Bool) (units : Nat) : Sat :=
  { y with home := [], swapOut := [], place := { y.place with rstate := 0 }, state := if cold then .parkedCold else .parkedWarm, units := units, park := .idle }

theorem State.satAt_leaveHome {s : State} {slot : Nat} {x : Sat} (found : s.satAt slot = some x) (low : slot < 4194304) (j : Nat) :
    (s.leaveHome slot x.toKvCtx).satAt j = if j = slot then some { x with home := [], swapOut := [], place := { x.place with rstate := 0 } } else s.satAt j := by
  rw [State.leaveHome]
  dsimp only
  have freed := (((s.keeps_self [.kva, .pln, .memory, .fls]).foldl (x.home.map fun e => e.2) (fun a r => a.dropRow x.part.val r)
    fun t r k => k.dropRow (by decide) x.part.val r).dropSwapOut (by decide) x.toKvCtx).uncarve (by decide) (objOwner slot 3) |>.only.sat
  rw [State.satAt_modCtx]
  by_cases e : j = slot
  · rw [if_pos ⟨by omega, e⟩, if_pos e, State.satAt_of_sat freed, found]; rfl
  · rw [if_neg fun h => e h.2, if_neg e, State.satAt_of_sat freed]

/-- A parked context: its home is left, its index stands, and its entry says where it is. -/
theorem State.parked_eq (s : State) (slot : Nat) (x : KvCtx) (cold : Bool) :
    ∃ u : State, u.sat = (s.leaveHome slot x).sat ∧ u.kva.indexes = ((s.leaveHome slot x).setIndex slot (s.formsOf slot) cold).kva.indexes ∧
      u.pln = (s.leaveHome slot x).pln ∧ s.parked slot x cold = u.modCtx slot fun y =>
        { y with state := if cold then .parkedCold else .parkedWarm, units := if cold then x.cold.length else s.packedUnits slot false, park := .idle } := by
  rw [State.parked]
  refine ⟨_, ?_, ?_, ?_, rfl⟩
  · cases cold <;> rfl
  · cases cold <;> rfl
  · cases cold <;> rfl

theorem State.satAt_parked {s : State} {slot : Nat} {x : Sat} (found : s.satAt slot = some x) (low : slot < 4194304) (cold : Bool) (j : Nat) :
    (s.parked slot x.toKvCtx cold).satAt j = if j = slot then some (x.parkedAs cold (if cold then x.cold.length else s.packedUnits slot false)) else s.satAt j := by
  obtain ⟨u, sat, -, -, eq⟩ := s.parked_eq slot x.toKvCtx cold
  have home := State.satAt_leaveHome found low
  rw [eq, State.satAt_modCtx, State.satAt_of_sat sat, State.satAt_of_sat sat, home, home]
  by_cases e : j = slot
  · rw [if_pos ⟨by omega, e⟩, if_pos rfl, if_pos e]; rfl
  · rw [if_neg fun h => e h.2, if_neg e, if_neg e]

theorem State.afind_setIndex (s : State) (c : Nat) (forms : List (List Byte)) (cold : Bool) :
    afind (s.setIndex c forms cold).kva.indexes c = if forms = [] then none else some (indexBytes (forms.map fun w => storedLen w cold) cold) := by
  rw [State.setIndex]
  dsimp only
  cases forms with
  | nil => exact afind_adel_same _ _
  | cons f l => exact afind_aput_same _ _ _

theorem State.index_parked (s : State) (slot : Nat) (x : KvCtx) (cold : Bool) : afind (s.parked slot x cold).kva.indexes slot =
    if s.formsOf slot = [] then none else some (indexBytes ((s.formsOf slot).map fun w => storedLen w cold) cold) := by
  obtain ⟨u, -, indexes, -, eq⟩ := s.parked_eq slot x cold
  rw [eq, (u.only_modCtx slot _).kva, indexes, State.afind_setIndex]

theorem parkingComplete_parks (s : State) (id : SatchelId) (slot n0 : Nat) (x : Sat) (cold : Bool) (slots : s.findSlot id = some slot) (found : s.satAt slot = some x)
    (parking : x.park = .parking cold n0) (low : slot < 4194304) (done_ : s.parkDone slot x.toKvCtx cold = true) :
    ∃ t y, exec (.parkingComplete id) s = .next t ∧ t.satAt slot = some y ∧ y.state = (if cold then SatState.parkedCold else SatState.parkedWarm) ∧ y.park = .idle ∧ y.log = x.log ∧
      y.rows = x.rows ∧ y.home = [] ∧ y.units = (if cold then x.cold.length else s.packedUnits slot false) ∧
      afind t.kva.indexes slot = (if s.formsOf slot = [] then none else some (indexBytes ((s.formsOf slot).map fun w => storedLen w cold) cold)) ∧
      t.pln.devCnt.parks = min 0xFFFFFFFF (s.pln.devCnt.parks + 1) ∧ (∀ j, j ≠ slot → t.satAt j = s.satAt j) ∧ s.Only [.sat, .kva, .pln, .memory, .fls, .out] t := by
  let s1 : State := (s.parked slot x.toKvCtx cold).toOthers slot x.toKvCtx (shardDo x.id x.kvPos (.park cold))
  have run : exec (.parkingComplete id) s = .next (s1.parkCount x.tenant fun n => { n with parks := satAdd 0xFFFFFFFF n.parks 1 }) := by
    have unfolded : exec (.parkingComplete id) s = execParkingComplete id s := rfl
    rw [unfolded, execParkingComplete, State.findCtx_of_findSlot slots]
    dsimp only
    rw [State.withCtx_some _ (State.ctxAt_of_satAt low found), parking]
    dsimp only
    rw [if_neg (by simp [done_]), if_pos (by omega)]
  have told : (s.parked slot x.toKvCtx cold).Only [.out] s1 := ((State.keeps_self _ _).toOthers (sub_self _) slot _ _).only
  have parks : s1.pln.devCnt = s.pln.devCnt := by
    obtain ⟨u, -, -, pln, eq⟩ := s.parked_eq slot x.toKvCtx cold
    rw [told.pln, eq, (u.only_modCtx slot _).pln, pln]
    exact s.leaveHome_devCnt slot x.toKvCtx
  have sats (j : Nat) := (State.satAt_of_sat told.sat j).trans (State.satAt_parked found low cold j)
  refine ⟨_, _, run, (sats slot).trans (if_pos rfl), rfl, rfl, rfl, rfl, rfl, rfl, ?_, ?_, fun j ne => (sats j).trans (if_neg ne), ?_⟩
  · exact (congrArg (fun k : Kva => afind k.indexes slot) told.kva).trans (s.index_parked slot x.toKvCtx cold)
  · exact congrArg (fun c : ParkCnt => satAdd 0xFFFFFFFF c.parks 1) parks
  · exact ((((s.keeps_self _).parked (by decide) slot x.toKvCtx cold).toOthers (by decide) slot x.toKvCtx _).parkCount (by decide) x.tenant _).only

theorem parkingComplete_waits (s : State) (id : SatchelId) (slot n0 : Nat) (x : Sat) (cold : Bool) (slots : s.findSlot id = some slot) (found : s.satAt slot = some x)
    (parking : x.park = .parking cold n0) (low : slot < 4194304) (undone : s.parkDone slot x.toKvCtx cold = false) :
    exec (.parkingComplete id) s = .next s := by
  have unfolded : exec (.parkingComplete id) s = execParkingComplete id s := rfl
  rw [unfolded, execParkingComplete, State.findCtx_of_findSlot slots]
  dsimp only
  rw [State.withCtx_some _ (State.ctxAt_of_satAt low found), parking]
  exact congrArg Host.Outcome.next (if_pos undone)

theorem cachePathRetry_passes (s : State) (id : SatchelId) (slot n : Nat) (x : Sat) (slots : s.findSlot id = some slot) (found : s.satAt slot = some x)
    (waits : x.park = .cacheWait n) :
    exec (.cachePathRetry id) s = .next (if n ≤ s.boundaryStroke then s.modSat slot fun y => { y with park := .cachePass 0 } else s) := by
  have unfolded : exec (.cachePathRetry id) s = execCachePathRetry id s := rfl
  rw [unfolded, execCachePathRetry, slots]
  dsimp only
  rw [State.withSlot_some _ found, waits]
  rfl

/-! ### REVIVAL_RESIDENT -/

theorem revivalResident_enters (s : State) (id : SatchelId) (slot : Nat) (x : Sat) (slots : s.findSlot id = some slot) (found : s.satAt slot = some x)
    (revived : x.park = .reviving [] false) (low : slot < 4194304) :
    ∃ t, exec (.revivalResident id) s = .next t ∧
      t.satAt slot = some { x with state := .prefill, rows := swapIn x.rows x.staged, staged := [], cold := [], units := 0, park := .idle } ∧
      (∀ b ∈ t.kva.parked, b.1 / 2 ^ 28 ≠ slot) ∧ t.pln.devCnt.revivals = min 0xFFFFFFFF (s.pln.devCnt.revivals + 1) ∧ (∀ j, j ≠ slot → t.satAt j = s.satAt j) ∧
      s.Only [.sat, .kva, .cores, .pln, .fls] t := by
  have run : exec (.revivalResident id) s = .next (s.enterPrefill slot) := by
    have unfolded : exec (.revivalResident id) s = execRevivalResident id s := rfl
    rw [unfolded, execRevivalResident, State.findCtx_of_findSlot slots]
    dsimp only
    rw [State.withCtx_some _ (State.ctxAt_of_satAt low found), revived]
    dsimp only
    rw [if_neg (by omega), if_neg (by simp)]
  let s1 : State := (s.freeBlocks slot).modCtx slot fun y => { y with state := .prefill, rows := swapIn y.rows y.staged, staged := [], park := .idle }
  have sats (j : Nat) : s1.satAt j = if j = slot then some { x with state := .prefill, rows := swapIn x.rows x.staged, staged := [], cold := [], units := 0, park := .idle }
      else s.satAt j := by
    rw [State.satAt_modCtx, State.satAt_freeBlocks, State.satAt_freeBlocks, found]
    by_cases e : j = slot
    · rw [if_pos ⟨by omega, e⟩, if_pos ⟨by omega, rfl⟩, if_pos e]; rfl
    · rw [if_neg fun h => e h.2, if_neg fun h => e h.2, if_neg e]
  have here := (sats slot).trans (if_pos rfl)
  have back : s.enterPrefill slot = (s1.rowsBack x.part.val).parkCount x.tenant fun c => { c with revivals := satAdd 0xFFFFFFFF c.revivals 1 } := by
    rw [State.enterPrefill, State.withSlot_some _ found, State.resident, ctxOfSlot, State.withCtx_some _ (State.ctxAt_of_satAt low here)]
  have blocks : ∀ b ∈ (s.freeBlocks slot).kva.parked, b.1 / 2 ^ 28 ≠ slot := by
    rw [State.freeBlocks, State.withCtx_some _ (State.ctxAt_of_satAt low found)]
    dsimp only
    rw [(State.only_modCtx _ _ _).kva]
    exact fun b mem => by simpa using (List.mem_filter.1 mem).2
  rw [back] at run
  refine ⟨_, run, here, fun b mem => blocks b ?_, ?_, fun j ne => (sats j).trans (if_neg ne), ?_⟩
  · exact ((s.freeBlocks slot).only_modCtx slot _).kva ▸ mem
  · have same : s1.pln.devCnt = s.pln.devCnt := (congrArg Pln.devCnt ((s.freeBlocks slot).only_modCtx slot _).pln).trans (s.freeBlocks_devCnt slot)
    exact congrArg (fun c : ParkCnt => satAdd 0xFFFFFFFF c.revivals 1) same
  · rw [← back]; exact ((s.keeps_self _).enterPrefill (sub_self _) slot).only

theorem leadRestoreStart_begins (s : State) (id : SatchelId) (slot : Nat) (x : Sat) (e : StopEntry) (slots : s.findSlot id = some slot) (found : s.satAt slot = some x)
    (parked : x.state = .parkedWarm ∨ x.state = .parkedCold) (kind : x.waitKind ≠ 0) (expiry : x.waitExpiry = 1) (may : x.mayLead = true)
    (role : (s.part x.part.val).role ≠ 2) (lead : (s.parkCfgAt x.part.val).lead ≠ 0) (entry : x.stop.entries[x.waitMatcher]? = some e) :
    exec (.leadRestoreStart id) s = .next (if e.timeout ≤ s.age x + (s.parkCfgAt x.part.val).lead then s.beginRevive slot true else s) := by
  have unfolded : exec (.leadRestoreStart id) s = execLeadRestoreStart id s := rfl
  rw [unfolded, execLeadRestoreStart, slots]
  dsimp only
  rw [State.withSlot_some _ found, entry]
  dsimp only
  by_cases due : e.timeout ≤ s.age x + (s.parkCfgAt x.part.val).lead
  · rw [if_pos ⟨parked, kind, expiry, may, role, lead, due⟩, if_pos due]
    rfl
  · rw [if_neg fun h => due h.2.2.2.2.2.2, if_neg due]

end Sys2Proof.Machine
end

section
/-! PROOFS. Parking commands and codec blocks (chapters 04 and 09, O13). -/
namespace Sys2Proof.Machine

/-! ### Commands of the parking pool -/

theorem parkConfig_pends (s s1 : State) (h : Header) (r : ReplyTo) (cfg : ParkCfg) (rp rsv : Nat) (hs : s.Serves ⟨0x0105, 1, true, false, 16, rsv, 0, false⟩ h false r s1)
    (ready : s1.partRefusal h.part.val = none) (a1 : cfg.a1 ≠ 0) (a2 : cfg.a2 ≠ 0) (cold : cfg.coldTarget = 2) (least : 1 ≤ cfg.parkRate) (most : cfg.parkRate ≤ 65535)
    (lead : cfg.lead ≤ 255) (targets : cfg.targets = []) (revive : cfg.revive = none) (rpLow : rp ≤ 15) :
    exec (.parkConfig h cfg 0 rp rsv) s = .next (State.done (s1.modPart h.part.val fun y => { y with parkPend := some cfg }) r .ok) := by
  refine congrArg Host.Outcome.next ((State.serve_of_serves hs _).trans ?_)
  dsimp only
  rw [Header.target, ready]
  refine (if_neg ?_).trans (if_neg fun z => absurd (z.1.symm.trans cold) (by decide))
  simp only [a1, a2, cold, targets, revive]
  simp
  omega

theorem parkConfig_refuses (s s1 : State) (h : Header) (r : ReplyTo) (cfg : ParkCfg) (rp rsv : Nat) (hs : s.Serves ⟨0x0105, 1, true, false, 16, rsv, 0, false⟩ h false r s1)
    (ready : s1.partRefusal h.part.val = none) (bad : cfg.a1 = 0 ∨ cfg.a2 = 0 ∨ cfg.parkRate = 0 ∨ 2 < cfg.coldTarget) :
    exec (.parkConfig h cfg 0 rp rsv) s = .next (s1.done r .badField) := by
  refine congrArg Host.Outcome.next ((State.serve_of_serves hs _).trans ?_)
  dsimp only
  rw [Header.target, ready]
  refine if_pos ?_
  obtain e | e | e | e := bad
  · exact Or.inl e
  · exact Or.inr (Or.inl e)
  · exact Or.inr (Or.inr (Or.inr (Or.inl e)))
  · exact Or.inr (Or.inr (Or.inl e))

theorem parkConfig_target (s s1 : State) (h : Header) (r : ReplyTo) (cfg : ParkCfg) (rp rsv : Nat) (d : DevPart)
    (hs : s.Serves ⟨0x0105, 1, true, false, 16 + 4 * cfg.targets.length, rsv, 0, false⟩ h false r s1) (ready : s1.partRefusal h.part.val = none)
    (target : d ∈ cfg.targets) (high : 2 ^ 14 ≤ d.dev.toNat) :
    exec (.parkConfig h cfg cfg.targets.length rp rsv) s = .next (s1.done r .badField) := by
  have far : (cfg.targets ++ cfg.revive.toList).any (fun t => decide (2 ^ 14 ≤ t.dev.toNat)) = true :=
    List.any_eq_true.2 ⟨d, List.mem_append_left _ target, decide_eq_true high⟩
  refine congrArg Host.Outcome.next ((State.serve_of_serves hs _).trans ?_)
  dsimp only
  rw [Header.target, ready]
  exact if_pos (by simp only [far, or_true])

theorem parkPool_full (s s1 : State) (h : Header) (r : ReplyTo) (warm cold : Nat) (hs : s.Serves ⟨0x0402, 1, false, false, 8, 0, 0, false⟩ h false r s1)
    (may : cold = 0 ∨ s1.fls.ready = true) (full : s1.sizeWarm warm = none) :
    exec (.parkPool h warm cold) s = .next (s1.done r .noResource) := by
  refine congrArg Host.Outcome.next ((State.serve_of_serves hs _).trans ((if_neg ?_).trans ?_))
  · rintro ⟨some_, unready⟩
    obtain none_ | ready := may
    · exact some_ none_
    · exact Bool.noConfusion (unready.symm.trans ready)
  · rw [full]

theorem parkPool_sizes (s s1 : State) (h : Header) (r : ReplyTo) (warm cold : Nat) (hs : s.Serves ⟨0x0402, 1, false, false, 8, 0, 0, false⟩ h false r s1)
    (may : cold = 0 ∨ s1.fls.ready = true) (y z : State) (warmed : s1.sizeWarm warm = some y) (cooled : y.sizeCold cold = some z) :
    ∃ t, exec (.parkPool h warm cold) s = .next t ∧ t.pln = { z.pln with warmUnits := warm, coldUnits := cold } ∧ t.memory = z.memory ∧
      s.Only [.bar, .stk, .pln, .memory, .fls, .cmd, .host, .out] t := by
  let set : State := { z with pln := { z.pln with warmUnits := warm, coldUnits := cold } }
  have run : exec (.parkPool h warm cold) s = .next (set.trimCold.done r .ok) := by
    refine congrArg Host.Outcome.next ((State.serve_of_serves hs _).trans ((if_neg ?_).trans ?_))
    · rintro ⟨some_, unready⟩
      obtain none_ | ready := may
      · exact some_ none_
      · exact Bool.noConfusion (unready.symm.trans ready)
    · rw [warmed]
      dsimp only
      rw [cooled]
  have tail := (((State.keeps_self set [.bar, .fls, .cmd, .host, .out]).trimCold (by decide)).done (by decide) r .ok).only
  have sized : s1.Only [.memory, .fls] z := (((s1.keeps_self [.memory, .fls]).sizeWarm (by decide) warm warmed).sizeCold (by decide) cold cooled).only
  have placed : z.Only [.pln] set := (State.keeps_self z [.pln]).only.trans (by simp [State.Only, set])
  refine ⟨_, run, tail.pln, tail.memory, ?_⟩
  exact (((hs.only.mono (by decide)).trans (sized.mono (by decide))).trans (placed.mono (by decide))).trans (tail.mono (by decide))

theorem tenantPark_stores (s s1 : State) (h : Header) (r : ReplyTo) (tenant : BitVec 16) (warmCap coldCap rsv : Nat)
    (hs : s.Serves ⟨0x0401, 1, false, false, 20, rsv, 0, false⟩ h false r s1) (warmLeast : 1 ≤ warmCap) (warmMost : warmCap ≤ 0xFFFFFFFF)
    (coldLeast : 1 ≤ coldCap) (coldMost : coldCap ≤ 0xFFFFFFFF) (one : tenant ≠ 0xFFFF) (room : s1.tenantsFull tenant = false) :
    ∃ t q, exec (.tenantPark h tenant 0 warmCap 0 coldCap rsv) s = .next t ∧ afind t.pln.tenants tenant.toNat = some q ∧ q.warmFloor = 0 ∧ q.warmCap = warmCap ∧
      q.coldFloor = 0 ∧ q.coldCap = coldCap ∧ t = State.done { s1 with pln := t.pln } r .ok := by
  let q : TenantRec := { agetD s1.pln.tenants tenant.toNat TenantRec.new with warmFloor := 0, warmCap := warmCap, coldFloor := 0, coldCap := coldCap }
  let s2 : State := { s1 with pln := { s1.pln with tenants := aput s1.pln.tenants tenant.toNat q } }
  have run : exec (.tenantPark h tenant 0 warmCap 0 coldCap rsv) s = .next (s2.done r .ok) := by
    refine congrArg Host.Outcome.next ((State.serve_of_serves hs _).trans ((if_neg ?_).trans ((if_neg ?_).trans (if_neg ?_))))
    · simp only [one, or_false]
      omega
    · rw [room]; decide
    · rintro (a | a)
      · exact a.1 rfl
      · exact a.1 rfl
  have pln : (s2.done r .ok).pln = s2.pln := (State.done_only s2 r .ok).pln
  refine ⟨_, q, run, ?_, rfl, rfl, rfl, rfl, ?_⟩
  · rw [pln]; exact afind_aput_same _ _ _
  · rw [pln]

theorem parkQuery_answers (s s1 : State) (h : Header) (r : ReplyTo) (tenant : BitVec 16) (rsv : Nat) (hs : s.Serves ⟨0x0403, 1, true, false, 4, rsv, 0, false⟩ h false r s1) :
    exec (.parkQuery h tenant rsv) s =
      .next (if tenant = 0xFFFF ∧ h.origin.partition.isSome then s1.done r .protection else s1.answer r .ok true (s1.parkRecord tenant)) :=
  congrArg Host.Outcome.next (State.serve_of_serves hs _)

/-! ### Encoded blocks -/

theorem State.reg_congr {s t : State} (bar : t.bar = s.bar) (o : Nat) : t.reg o = s.reg o := by rw [State.reg, bar]; rfl

theorem State.reg_count_other (s : State) {o p : Nat} (n : Nat) (ne : p ≠ o) : (s.count o n).reg p = s.reg p := s.reg_setReg_ne _ ne

theorem State.reg_count64_other (s : State) {o p : Nat} (n : Nat) (low : p ≠ o) (high : p ≠ o + 4) : (s.count64 o n).reg p = s.reg p := by
  rw [State.count64]
  exact (State.reg_setReg_ne _ _ high).trans (State.reg_setReg_ne _ _ low)

theorem State.encodeAt_counts (s : State) (c block width : Nat) (raw : List Byte) (cold : Bool) :
    (s.encodeAt c block width raw cold).reg Reg.cdcCntEnc = min 0xFFFFFFFF (s.reg Reg.cdcCntEnc + 1) := by
  have counted (e : List Byte × Bool) (s1 : State) (same : s1.reg Reg.cdcCntEnc = s.reg Reg.cdcCntEnc) :
      (((s1.count Reg.cdcCntEnc 1).count64 Reg.cdcRawBytesLo raw.length).count64 Reg.cdcStoredBytesLo (storedLen e.1 cold)).reg Reg.cdcCntEnc =
        min 0xFFFFFFFF (s.reg Reg.cdcCntEnc + 1) := by
    rw [State.reg_count64_other _ _ (by decide) (by decide), State.reg_count64_other _ _ (by decide) (by decide), State.reg_count_same, same]
  rw [State.encodeAt]
  dsimp only
  split
  · exact (State.reg_count_other _ _ (by decide)).trans (counted _ _ rfl)
  · exact counted _ _ rfl

theorem State.count_only (s : State) (o n : Nat) : s.Only [.bar] (s.count o n) := ((s.keeps_self _).count (sub_self _) o n).only

theorem State.encodeAt_parked (s : State) (c block width : Nat) (raw : List Byte) (cold : Bool) :
    (s.encodeAt c block width raw cold).kva.parked = aput s.kva.parked (blockKey c block) (encodeBlock width raw).1 := by
  let s1 : State := { s with kva := { s.kva with parked := aput s.kva.parked (blockKey c block) (encodeBlock width raw).1 } }
  have counted := ((((State.keeps_self s1 [.bar]).count (by decide) Reg.cdcCntEnc 1).count64 (by decide) Reg.cdcRawBytesLo raw.length).count64 (by decide)
    Reg.cdcStoredBytesLo (storedLen (encodeBlock width raw).1 cold))
  rw [State.encodeAt]
  dsimp only
  split
  · exact congrArg Kva.parked (counted.count (by decide) Reg.cdcCntRaw 1).only.kva
  · exact congrArg Kva.parked counted.only.kva

theorem putRow_length (l : List Row) (j : Nat) (r : Row) (inside : j < l.length) : (putRow l j r).length = l.length := by
  simp only [putRow, List.length_append, List.length_take, List.length_cons, List.length_drop]
  omega

/-- What the encoding of a block changes of a satchel: its home and its rows, whose number stays. -/
def Sat.HomeOf (x y : Sat) : Prop := y.log = x.log ∧ y.state = x.state ∧ y.park = x.park ∧ y.rows.length = x.rows.length

theorem State.blockEncoded_warm {s : State} {slot : Nat} {x : Sat} (found : s.satAt slot = some x) (low : slot < 4194304) (block : Nat) :
    (∃ y, (s.blockEncoded slot x.toKvCtx block false).satAt slot = some y ∧ x.HomeOf y) ∧
    (∀ j, j ≠ slot → (s.blockEncoded slot x.toKvCtx block false).satAt j = s.satAt j) ∧
    (s.encodeAt slot block (s.ctxBlockWidth x.toKvCtx block) (s.ctxRaw x.toKvCtx block) false).Only [.sat] (s.blockEncoded slot x.toKvCtx block false) := by
  let s1 := s.encodeAt slot block (s.ctxBlockWidth x.toKvCtx block) (s.ctxRaw x.toKvCtx block) false
  have same (j : Nat) : s1.satAt j = s.satAt j := State.satAt_of_sat ((s.keeps_self _).encodeAt (sub_self _) slot block _ _ false).only.sat j
  have here : s1.satAt slot = some x := (same slot).trans found
  have stays : (∃ y, s1.satAt slot = some y ∧ x.HomeOf y) ∧ (∀ j, j ≠ slot → s1.satAt j = s.satAt j) ∧ s1.Only [.sat] s1 :=
    ⟨⟨x, here, rfl, rfl, rfl, rfl⟩, fun j _ => same j, (s1.keeps_self _).only⟩
  rw [State.blockEncoded]
  dsimp only
  rw [if_neg Bool.false_ne_true]
  split
  · split
    · refine ⟨?_, fun j ne => ?_, s1.only_modCtx slot _⟩
      · rw [State.satAt_modCtx, if_pos ⟨by omega, rfl⟩, here]
        refine ⟨_, rfl, ?_⟩
        dsimp only
        split
        · next r at_ => exact ⟨rfl, rfl, rfl, putRow_length _ _ _ (List.getElem?_eq_some_iff.1 at_).1⟩
        · exact ⟨rfl, rfl, rfl, rfl⟩
      · rw [State.satAt_modCtx, if_neg fun h => ne h.2, same]
    · exact stays
  · exact stays

/-! ### Decoded blocks -/

theorem State.satAt_blockDone {s : State} {slot : Nat} {x : Sat} (found : s.satAt slot = some x) (low : slot < 4194304) (block : Nat) (raw : List Byte) {l : List Nat} {st : Bool}
    (reviving : x.park = .reviving l st) (j : Nat) :
    (s.blockDone slot x.toKvCtx block raw).satAt j = if j = slot then some { x with park := .reviving (l.erase block) st } else s.satAt j := by
  have placed := (((s.keeps_self [.bar, .kva, .memory]).placeBlock (by decide) x.toKvCtx block raw).count (by decide) Reg.cdcCntDec 1).only.sat
  rw [State.blockDone, State.satAt_modCtx, State.satAt_of_sat placed, State.satAt_of_sat placed, found]
  by_cases e : j = slot
  · rw [if_pos ⟨by omega, e⟩, if_pos e]
    simp only [Option.map_some, reviving]
  · rw [if_neg fun h => e h.2, if_neg e]

theorem State.placeBlock_bar (s : State) (x : KvCtx) (block : Nat) (raw : List Byte) : (s.placeBlock x block raw).bar = s.bar :=
  ((s.keeps_self _).placeBlock (sub_self _) x block raw).only.bar

theorem State.blockDone_counts (s : State) (c : Nat) (x : KvCtx) (block : Nat) (raw : List Byte) :
    (s.blockDone c x block raw).reg Reg.cdcCntDec = min 0xFFFFFFFF (s.reg Reg.cdcCntDec + 1) := by
  rw [State.blockDone, State.reg_congr (State.only_modCtx _ c _).bar, State.reg_count_same, State.reg_congr (s.placeBlock_bar x block raw)]

theorem State.blockDone_others (s : State) (c : Nat) (x : KvCtx) (block : Nat) (raw : List Byte) {o : Nat} (other : o ≠ Reg.cdcCntDec) :
    (s.blockDone c x block raw).reg o = s.reg o := by
  rw [State.blockDone, State.reg_congr (State.only_modCtx _ c _).bar, State.reg_count_other _ _ other, State.reg_congr (s.placeBlock_bar x block raw)]

theorem State.placeBlock_rereads (s : State) (x : KvCtx) (block : Nat) (raw : List Byte) : (s.placeBlock x block raw).kva.rereads = s.kva.rereads := by
  rw [State.placeBlock]
  split
  · split
    · rw [State.putBlock]
      dsimp only
      split
      · rfl
      · rfl
    · rfl
  · rfl
  · rfl

/-- The lower-tier path of a satchel that takes a substitute: its pages go and it is rebuilt from its log. -/
theorem State.satAt_lowerCtx {s : State} {slot : Nat} {x : Sat} (found : s.satAt slot = some x) (low : slot < 4194304) (substitutes : x.noSubst = false)
    (live : x.state.live = true) :
    ∃ y, (s.lowerCtx slot).satAt slot = some y ∧ y.kvPos = 0 ∧ y.rows = [] ∧ y.recovered = true ∧ y.log = x.log := by
  have freed : (s.freePages slot).satAt slot = some x.pagesFreed := by
    rw [State.freePages, ctxOfSlot, State.satAt_freeCtx, if_pos ⟨by omega, rfl⟩, found]; rfl
  rw [State.lowerCtx, if_pos (by omega), State.lowerTier, State.withSlot_some _ found, if_neg (by simp [live]), if_neg (by simp [substitutes])]
  exact ⟨_, State.satAt_modSat_same _ freed, rfl, rfl, rfl, rfl⟩

section decode
variable {s : State} {id : SatchelId} {slot block : Nat} {l : List Nat} {st : Bool} {x : Sat} (group : Fin 16) {index fetched : Option (List Byte)}
  (slots : s.findSlot id = some slot) (found : s.satAt slot = some x) (reviving : x.park = .reviving l st) (low : slot < 4194304)

include slots found reviving low

theorem codecBlockComplete_decodes (waits : block ∈ l) (first : (slot, block) ∉ s.kva.rereads) {raw : List Byte} (good : s.decodeAt slot x.toKvCtx block index fetched = .ok raw) :
    ∃ t, exec (.codecBlockComplete id block false group 0 index fetched) s = .next t ∧ t.satAt slot = some { x with park := .reviving (l.erase block) st } ∧
      t.reg Reg.cdcCntDec = min 0xFFFFFFFF (s.reg Reg.cdcCntDec + 1) ∧ (∀ j, j ≠ slot → t.satAt j = s.satAt j) ∧ s.Only [.bar, .sat, .kva, .memory] t := by
  have run : exec (.codecBlockComplete id block false group 0 index fetched) s = .next (s.blockDone slot x.toKvCtx block raw) := by
    have unfolded : exec (.codecBlockComplete id block false group 0 index fetched) s = execCodecBlockComplete id block false group 0 index fetched s := rfl
    rw [unfolded, execCodecBlockComplete, State.findCtx_of_findSlot slots]
    dsimp only
    rw [State.withCtx_some _ (State.ctxAt_of_satAt low found), reviving]
    dsimp only
    rw [if_neg (by simp [waits, first]), good]
  have sats := State.satAt_blockDone found low block raw reviving
  exact ⟨_, run, (sats slot).trans (if_pos rfl), s.blockDone_counts _ _ _ _, fun j ne => (sats j).trans (if_neg ne),
    ((s.keeps_self _).blockDone (sub_self _) slot x.toKvCtx block raw).only⟩

theorem codecBlockComplete_again (waits : block ∈ l) (first : (slot, block) ∉ s.kva.rereads) {b : BadBlock} (bad : s.decodeAt slot x.toKvCtx block index fetched = .error b) :
    ∃ t, exec (.codecBlockComplete id block false group 0 index fetched) s = .next t ∧ t.kva.rereads = s.kva.rereads ++ [(slot, block)] ∧ t.sat = s.sat ∧
      s.Only [.kva, .memory, .freeCtr] t := by
  let failed := s.blockFailed x.toKvCtx block
  have run : exec (.codecBlockComplete id block false group 0 index fetched) s =
      .next { failed with kva := { failed.kva with rereads := s.kva.rereads ++ [(slot, block)] } } := by
    have unfolded : exec (.codecBlockComplete id block false group 0 index fetched) s = execCodecBlockComplete id block false group 0 index fetched s := rfl
    rw [unfolded, execCodecBlockComplete, State.findCtx_of_findSlot slots]
    dsimp only
    rw [State.withCtx_some _ (State.ctxAt_of_satAt low found), reviving]
    dsimp only
    rw [if_neg (by simp [waits, first]), bad]
  have placed : s.Only [.kva, .memory] (s.placeBlock x.toKvCtx block (freeBytes s.freeCtr (s.ctxBlockLen x.toKvCtx block))) :=
    ((s.keeps_self _).placeBlock (sub_self _) x.toKvCtx block _).only
  refine ⟨_, run, rfl, placed.sat, (placed.mono (by decide)).trans ?_⟩
  simp [State.Only, failed, State.blockFailed]

theorem codecReread_places (again : (slot, block) ∈ s.kva.rereads) {raw : List Byte} (good : s.decodeAt slot x.toKvCtx block index fetched = .ok raw)
    (silent : s.flag Reg.cdcCtrl 1 = false) :
    ∃ t, exec (.codecReread id block group index fetched) s = .next t ∧ t.satAt slot = some { x with park := .reviving (l.erase block) st } ∧
      t.reg Reg.cdcCntTransient = min 0xFFFFFFFF (s.reg Reg.cdcCntTransient + 1) ∧ t.kva.rereads = s.kva.rereads.erase (slot, block) ∧ s.Only [.bar, .sat, .kva, .memory] t := by
  let s1 : State := { s with kva := { s.kva with rereads := s.kva.rereads.erase (slot, block) } }
  have run : exec (.codecReread id block group index fetched) s = .next ((s1.blockDone slot x.toKvCtx block raw).count Reg.cdcCntTransient 1) := by
    have unfolded : exec (.codecReread id block group index fetched) s = execCodecReread id block group index fetched s := rfl
    rw [unfolded, execCodecReread, State.findCtx_of_findSlot slots]
    dsimp only
    rw [State.withCtx_some _ (State.ctxAt_of_satAt low found), if_pos (List.contains_iff_mem.2 again), good]
    dsimp only
    rw [if_neg (by simp [silent])]
  have found1 : s1.satAt slot = some x := found
  have counted := (s1.blockDone slot x.toKvCtx block raw).count_only Reg.cdcCntTransient 1
  refine ⟨_, run, ?_, ?_, ?_, ?_⟩
  · rw [State.satAt_of_sat counted.sat, State.satAt_blockDone found1 low block raw reviving, if_pos rfl]
  · rw [State.reg_count_same, State.blockDone_others _ _ _ _ _ (by decide)]
    rfl
  · rw [counted.kva, State.blockDone, (State.only_modCtx _ _ _).kva, (State.count_only _ _ _).kva, State.placeBlock_rereads]
  · have start : s.Only [.kva] s1 := by simp [State.Only, s1]
    exact ((start.mono (by decide)).trans (((State.keeps_self s1 [.bar, .sat, .kva, .memory]).blockDone (by decide) slot x.toKvCtx block raw).count (by decide) Reg.cdcCntTransient 1).only)

omit reviving in
theorem codecReread_lowers (again : (slot, block) ∈ s.kva.rereads) {b : BadBlock} (bad : s.decodeAt slot x.toKvCtx block index fetched = .error b)
    (substitutes : x.noSubst = false) (live : x.state.live = true) :
    ∃ t y, exec (.codecReread id block group index fetched) s = .next t ∧ t.satAt slot = some y ∧ y.kvPos = 0 ∧ y.rows = [] ∧ y.recovered = true ∧ y.log = x.log ∧
      t.reg Reg.cdcCntCorrupt = min 0xFFFFFFFF (s.reg Reg.cdcCntCorrupt + 1) := by
  let s1 : State := { s with kva := { s.kva with rereads := s.kva.rereads.erase (slot, block) } }
  let f : FaultSpec := { fault (0x380 + group.val) 0x501 1 (blockKey slot block) with tag := .ctx slot, status := .dataCorrupt }
  let s2 := (s1.count Reg.cdcCntCorrupt 1).post f
  have run : exec (.codecReread id block group index fetched) s = .next (s2.lowerCtx slot) := by
    have unfolded : exec (.codecReread id block group index fetched) s = execCodecReread id block group index fetched s := rfl
    rw [unfolded, execCodecReread, State.findCtx_of_findSlot slots]
    dsimp only
    rw [State.withCtx_some _ (State.ctxAt_of_satAt low found), if_pos (List.contains_iff_mem.2 again), bad]
  have posted : s1.Only [.bar, .blt] s2 := (((s1.keeps_self _).count (by decide) Reg.cdcCntCorrupt 1).post (by decide) f).only
  have found2 : s2.satAt slot = some x := (State.satAt_of_sat posted.sat slot).trans found
  obtain ⟨y, rebuilt, kvPos, rows, recovered, log⟩ := State.satAt_lowerCtx found2 low substitutes live
  refine ⟨_, y, run, rebuilt, kvPos, rows, recovered, log, ?_⟩
  rw [State.reg_congr (s2.lowerCtx_bar slot), State.reg_post _ _ (by decide), State.reg_count_same]
  rfl

end decode

theorem codecBlockComplete_encodes (s : State) (id : SatchelId) (slot block n0 : Nat) (x : Sat) (cold : Bool) (group : Fin 16) (index fetched : Option (List Byte))
    (slots : s.findSlot id = some slot) (found : s.satAt slot = some x) (parking : x.park = .parking cold n0) (low : slot < 4194304) (waits : x.state = .wait)
    (inside : block < s.ctxBlocks x.toKvCtx) (none_ : x.cold = []) :
    ∃ t, exec (.codecBlockComplete id block true group 0 index fetched) s = .next t ∧
      (cold = false →
        (∃ y, t.satAt slot = some y ∧ y.log = x.log ∧ y.state = x.state ∧ y.park = x.park ∧ y.rows.length = x.rows.length) ∧
        afind t.kva.parked (blockKey slot block) = some (encodeBlock (s.ctxBlockWidth x.toKvCtx block) (s.ctxRaw x.toKvCtx block)).1 ∧
        (∀ k, k ≠ blockKey slot block → afind t.kva.parked k = afind s.kva.parked k) ∧ t.reg Reg.cdcCntEnc = min 0xFFFFFFFF (s.reg Reg.cdcCntEnc + 1) ∧
        (∀ j, j ≠ slot → t.satAt j = s.satAt j) ∧ s.Only [.bar, .sat, .kva] t) ∧
      s.Only [.bar, .sat, .kva, .fls, .sec] t := by
  have run : exec (.codecBlockComplete id block true group 0 index fetched) s = .next (s.blockEncoded slot x.toKvCtx block cold) := by
    have unfolded : exec (.codecBlockComplete id block true group 0 index fetched) s = execCodecBlockComplete id block true group 0 index fetched s := rfl
    rw [unfolded, execCodecBlockComplete, State.findCtx_of_findSlot slots]
    dsimp only
    rw [State.withCtx_some _ (State.ctxAt_of_satAt low found), parking]
    dsimp only
    rw [if_neg (by simp [waits, inside, none_]), if_neg (by decide), if_pos rfl]
  refine ⟨_, run, fun warm => ?_, ((s.keeps_self _).blockEncoded (sub_self _) slot x.toKvCtx block cold).only⟩
  subst warm
  obtain ⟨here, others, only⟩ := State.blockEncoded_warm found low block
  have parked := (congrArg Kva.parked only.kva).trans (s.encodeAt_parked slot block _ _ false)
  refine ⟨here, ?_, fun k ne => ?_, ?_, others, ?_⟩
  · rw [parked]; exact afind_aput_same _ _ _
  · rw [parked]; exact afind_aput_ne _ _ ne
  · rw [State.reg_congr only.bar, State.encodeAt_counts]
  · exact ((((s.keeps_self _).encodeAt (sub_self _) slot block _ _ false).only).mono (by decide)).trans (only.mono (by decide))

/-- Settles O13: waits, parking, revival and the parking pool, clause by clause. -/
theorem waitsAndParking : Obligations.WaitsAndParking := by
  unfold Obligations.WaitsAndParking
  refine ⟨fun s id slot x e slots found waits kind idle entry timed => ⟨?_, ?_, ?_, ?_⟩, parkingDue_begins, parkingDue_nobody, parkingComplete_parks, parkingComplete_waits,
    cachePathRetry_passes, revivalResident_enters, leadRestoreStart_begins, fun s s1 h r cfg rp rsv hs ready => ⟨?_, ?_⟩, parkConfig_target, fun s s1 h r warm cold hs may => ⟨?_, ?_⟩,
    tenantPark_stores, parkQuery_answers, codecBlockComplete_encodes, fun s id slot block l st x group index fetched slots found reviving low waits first => ⟨?_, ?_⟩,
    fun s id slot block l st x group index fetched slots found reviving low again => ⟨?_, ?_⟩⟩
  · exact waitTimeoutExpiry_early slots found entry
  · exact waitTimeoutExpiry_wakes slots found waits kind idle entry timed
  · exact waitTimeoutExpiry_full slots found waits kind entry timed
  · exact waitTimeoutExpiry_cancels slots found waits kind entry timed
  · exact parkConfig_pends s s1 h r cfg rp rsv hs ready
  · exact parkConfig_refuses s s1 h r cfg rp rsv hs ready
  · exact parkPool_full s s1 h r warm cold hs may
  · exact parkPool_sizes s s1 h r warm cold hs may
  · exact fun raw good => codecBlockComplete_decodes group slots found reviving low waits first good
  · exact fun b bad => codecBlockComplete_again group slots found reviving low waits first bad
  · exact fun raw good silent => codecReread_places group slots found reviving low again good silent
  · exact fun b bad substitutes live => codecReread_lowers group slots found low again bad substitutes live

end Sys2Proof.Machine
end

section
/-! PROOFS. KV swap and the inkwell (chapter 05, O14). -/
namespace Sys2Proof.Machine

theorem putRow_same {l : List Row} {j : Nat} {r : Row} (r' : Row) (there : l[j]? = some r) : (putRow l j r')[j]? = some r' := by
  have inside := (List.getElem?_eq_some_iff.1 there).1
  rw [putRow, List.getElem?_append_right (by simp [inside.le])]
  simp [inside.le]

theorem putRow_other {l : List Row} {j : Nat} {r : Row} (r' : Row) (there : l[j]? = some r) {k : Nat} (ne : k ≠ j) : (putRow l j r')[k]? = l[k]? := by
  have inside := (List.getElem?_eq_some_iff.1 there).1
  have taken : (l.take j).length = j := by simp [inside.le]
  obtain before | after := Nat.lt_or_gt_of_ne ne
  · rw [putRow, List.getElem?_append_left (by omega), List.getElem?_take_of_lt before]
  · obtain ⟨d, rfl⟩ := Nat.exists_eq_add_of_lt after
    rw [putRow, List.getElem?_append_right (by omega), taken, show j + d + 1 - j = d + 1 by omega, List.getElem?_cons_succ, List.getElem?_drop]
    exact congrArg (l[·]?) (by omega)

/-! ### A row swapped out and back -/

theorem State.lowerCtx_rebuilds {s : State} {slot : Nat} {x : Sat} (found : s.satAt slot = some x) (low : slot < 4194304) (substitutes : x.noSubst = false)
    (live : x.state.live = true) : s.Only [.sat, .kva, .pln, .fls, .out] (s.lowerCtx slot) := by
  rw [State.lowerCtx, if_pos (by omega), State.lowerTier, State.withSlot_some _ found, if_neg (by simp [live]), if_neg (by simp [substitutes])]
  exact (((s.keeps_self _).freePages (sub_self _) slot).modSat (by decide) slot _).only

section swap
variable {s : State} {id : SatchelId} {row slot : Nat} {x : Sat} {r : Row} (slots : s.findSlot id = some slot) (found : s.satAt slot = some x) (low : slot < 4194304)
  (there : x.rows[row]? = some r)

include slots found low there

theorem swapOutComplete_waits {toT2 : Bool} {e : Nat × Bool × Nat} (waits : x.swapOut.find? (fun e => e.1 == row && e.2.1 == toT2) = some e) (t2 : toT2 = true)
    (undone : s.t2Durable (swapExtent x.part.val) (runFrom e.2.2 (s.part x.part.val).rowUnitsT2) = false) :
    exec (.swapOutComplete id row toT2) s = .next s := by
  have unfolded : exec (.swapOutComplete id row toT2) s = execSwapOutComplete id row toT2 s := rfl
  rw [unfolded, execSwapOutComplete, State.findCtx_of_findSlot slots]
  dsimp only
  rw [State.withCtx_some _ (State.ctxAt_of_satAt low found), waits, there]
  exact congrArg Host.Outcome.next (if_neg (by simp [t2, undone]))

theorem swapOutComplete_swaps {toT2 : Bool} {e : Nat × Bool × Nat} (waits : x.swapOut.find? (fun e => e.1 == row && e.2.1 == toT2) = some e) (here : r.kind = .here)
    (durable : toT2 = false ∨ s.t2Durable (swapExtent x.part.val) (runFrom e.2.2 (s.part x.part.val).rowUnitsT2) = true) :
    ∃ t y, exec (.swapOutComplete id row toT2) s = .next t ∧ t.satAt slot = some y ∧ y.rows[row]? = some { r with kind := if toT2 then RowKind.swapT2 else RowKind.swapHost, loc := e.2.2 } ∧
      (∀ j, j ≠ row → y.rows[j]? = x.rows[j]?) ∧ y.swapOut = x.swapOut.erase e ∧ t.kva.swapFull = false ∧
      t.reg Reg.kvaCntSwapOut = min 0xFFFFFFFF (s.reg Reg.kvaCntSwapOut + 1) ∧ (∀ j, j ≠ slot → t.satAt j = s.satAt j) ∧ s.Only [.bar, .sat, .kva, .pln, .host] t := by
  let new : Row := { r with kind := if toT2 then .swapT2 else .swapHost, loc := e.2.2 }
  let written := if toT2 then s else s.swapWrite x.part.val r e.2.2
  let freed := written.freeRow x.part.val r.loc
  let entered := freed.modCtx slot fun y => { y with rows := putRow y.rows row new, swapOut := y.swapOut.erase e }
  let open_ : State := { entered with kva := { entered.kva with swapFull := false } }
  have run : exec (.swapOutComplete id row toT2) s = .next (open_.count Reg.kvaCntSwapOut 1) := by
    have unfolded : exec (.swapOutComplete id row toT2) s = execSwapOutComplete id row toT2 s := rfl
    rw [unfolded, execSwapOutComplete, State.findCtx_of_findSlot slots]
    dsimp only
    rw [State.withCtx_some _ (State.ctxAt_of_satAt low found), waits, there]
    exact congrArg Host.Outcome.next (if_pos ⟨here, durable⟩)
  have writes : s.Keeps [.kva, .pln, .host] written := by
    cases toT2
    · exact (s.keeps_self _).swapWrite (by decide) _ _ _
    · exact s.keeps_self _
  have frees : s.Only [.kva, .pln, .host] freed := (writes.freeRow (by decide) _ _).only
  have enters : freed.Only [.sat] entered := freed.only_modCtx slot _
  have opens : entered.Only [.kva] open_ := by simp [State.Only, open_]
  have counts := open_.count_only Reg.kvaCntSwapOut 1
  have sats (j : Nat) : (open_.count Reg.kvaCntSwapOut 1).satAt j =
      if j = slot then some { x with rows := putRow x.rows row new, swapOut := x.swapOut.erase e } else s.satAt j := by
    rw [State.satAt_of_sat counts.sat, State.satAt_of_sat opens.sat, State.satAt_modCtx, State.satAt_of_sat frees.sat, State.satAt_of_sat frees.sat, found]
    by_cases same : j = slot
    · rw [if_pos ⟨by omega, same⟩, if_pos same]; rfl
    · rw [if_neg fun h => same h.2, if_neg same]
  refine ⟨_, _, run, (sats slot).trans (if_pos rfl), putRow_same new there, fun j ne => putRow_other new there ne, rfl, ?_, ?_, fun j ne => (sats j).trans (if_neg ne), ?_⟩
  · rw [counts.kva]
  · rw [State.reg_count_same, State.reg_congr opens.bar, State.reg_congr enters.bar, State.reg_congr frees.bar]
  · exact (((frees.mono (by decide)).trans (enters.mono (by decide))).trans (opens.mono (by decide))).trans (counts.mono (by decide))

theorem swapReturnComplete_returns {e : Nat × Nat} (waits : x.returns.find? (fun e => e.1 == row) = some e) (unharmed : s.swapOk x.part.val r = true) :
    ∃ t y, exec (.swapReturnComplete id row true false) s = .next t ∧ t.satAt slot = some y ∧ y.rows[row]? = some { r with kind := .here, loc := e.2 } ∧
      (∀ j, j ≠ row → y.rows[j]? = x.rows[j]?) ∧ y.returns = x.returns.erase e ∧ t.reg Reg.kvaCntSwapIn = min 0xFFFFFFFF (s.reg Reg.kvaCntSwapIn + 1) ∧
      (∀ j, j ≠ slot → t.satAt j = s.satAt j) ∧ s.Only [.bar, .sat, .kva, .cores, .pln, .memory, .fls] t := by
  let new : Row := { r with kind := RowKind.here, loc := e.2 }
  let dropped := (s.swapRead x.part.val r e.2).dropRow x.part.val r
  let entered := dropped.modCtx slot fun y => { y with rows := putRow y.rows row new, returns := y.returns.erase e }
  have run : exec (.swapReturnComplete id row true false) s = .next ((entered.rowsBack x.part.val).count Reg.kvaCntSwapIn 1) := by
    have unfolded : exec (.swapReturnComplete id row true false) s = execSwapReturnComplete id row true false s := rfl
    rw [unfolded, execSwapReturnComplete, State.findCtx_of_findSlot slots]
    dsimp only
    rw [State.withCtx_some _ (State.ctxAt_of_satAt low found), waits, there]
    dsimp only
    rw [if_pos (by simp [unharmed]), if_neg (by decide)]
  have drops : s.Only [.kva, .pln, .memory, .fls] dropped := (((s.keeps_self _).swapRead (by decide) _ _ _).dropRow (by decide) _ _).only
  have enters : dropped.Only [.sat] entered := dropped.only_modCtx slot _
  have back : entered.Only [.cores] (entered.rowsBack x.part.val) := ((entered.keeps_self _).rowsBack (sub_self _) _).only
  have counts := (entered.rowsBack x.part.val).count_only Reg.kvaCntSwapIn 1
  have sats (j : Nat) : ((entered.rowsBack x.part.val).count Reg.kvaCntSwapIn 1).satAt j =
      if j = slot then some { x with rows := putRow x.rows row new, returns := x.returns.erase e } else s.satAt j := by
    rw [State.satAt_of_sat counts.sat, State.satAt_of_sat back.sat, State.satAt_modCtx, State.satAt_of_sat drops.sat, State.satAt_of_sat drops.sat, found]
    by_cases same : j = slot
    · rw [if_pos ⟨by omega, same⟩, if_pos same]; rfl
    · rw [if_neg fun h => same h.2, if_neg same]
  refine ⟨_, _, run, (sats slot).trans (if_pos rfl), putRow_same new there, fun j ne => putRow_other new there ne, rfl, ?_, fun j ne => (sats j).trans (if_neg ne), ?_⟩
  · rw [State.reg_count_same, State.reg_congr back.bar, State.reg_congr enters.bar, State.reg_congr drops.bar]
  · exact (((drops.mono (by decide)).trans (enters.mono (by decide))).trans (back.mono (by decide))).trans (counts.mono (by decide))

/-- A return that failed is reported, and the satchel takes the lower-tier path. -/
theorem swapReturnComplete_run {e : Nat × Nat} (waits : x.returns.find? (fun e => e.1 == row) = some e) :
    ∃ f : FaultSpec, exec (.swapReturnComplete id row false true) s = .next ((s.post f).lowerCtx slot) := by
  have unfolded : exec (.swapReturnComplete id row false true) s = execSwapReturnComplete id row false true s := rfl
  rw [unfolded, execSwapReturnComplete, State.findCtx_of_findSlot slots]
  dsimp only
  rw [State.withCtx_some _ (State.ctxAt_of_satAt low found), waits, there]
  exact ⟨_, congrArg Host.Outcome.next (if_neg (by simp))⟩

theorem swapReturnComplete_rebuilds {e : Nat × Nat} (waits : x.returns.find? (fun e => e.1 == row) = some e) (live : x.state.live = true) (substitutes : x.noSubst = false) :
    ∃ t y, exec (.swapReturnComplete id row false true) s = .next t ∧ t.satAt slot = some y ∧ y.kvPos = 0 ∧ y.rows = [] ∧ y.log = x.log ∧
      s.Only [.bar, .sat, .kva, .pln, .fls, .blt, .out] t := by
  obtain ⟨f, run⟩ := swapReturnComplete_run slots found low there waits
  have posted : s.Only [.bar, .blt] (s.post f) := ((s.keeps_self _).post (sub_self _) f).only
  have foundP : (s.post f).satAt slot = some x := (State.satAt_of_sat posted.sat slot).trans found
  obtain ⟨y, rebuilt, kvPos, rows, -, log⟩ := State.satAt_lowerCtx foundP low substitutes live
  exact ⟨_, y, run, rebuilt, kvPos, rows, log, (posted.mono (by decide)).trans ((State.lowerCtx_rebuilds foundP low substitutes live).mono (by decide))⟩

theorem swapReturnComplete_ends {e : Nat × Nat} (waits : x.returns.find? (fun e => e.1 == row) = some e) (live : x.state.live = true) (none_ : x.noSubst = true) :
    ∃ t y, exec (.swapReturnComplete id row false true) s = .next t ∧ t.satAt slot = some y ∧ y.state = .done ∧ y.outRecs = x.outRecs ++ [finalRec x .tierError s.strokeNow] := by
  obtain ⟨f, run⟩ := swapReturnComplete_run slots found low there waits
  have posted : s.Only [.bar, .blt] (s.post f) := ((s.keeps_self _).post (sub_self _) f).only
  have foundP : (s.post f).satAt slot = some x := (State.satAt_of_sat posted.sat slot).trans found
  have now : (s.post f).strokeNow = s.strokeNow := by rw [State.strokeNow, posted.stk]; rfl
  have ends : (s.post f).lowerCtx slot = (s.post f).finish slot .done [finalRec x .tierError s.strokeNow] := by
    rw [State.lowerCtx, if_pos (by omega), State.lowerTier, State.withSlot_some _ foundP, if_neg (by simp [live]), if_pos none_, State.endWith, State.withSlot_some _ foundP, now]
  rw [ends] at run
  refine ⟨_, _, run, (State.satAt_finish _ _ foundP slot).trans ((if_pos rfl).trans (congrArg some (if_neg (by simp)))), rfl, rfl⟩

end swap

/-! ### KV_SWAP_CONFIG -/

section config
variable {s s1 : State} {h : Header} {r : ReplyTo} {extents : List (Nat × Nat)} {rsv : Nat} (hs : s.Serves ⟨0x0106, 1, true, false, 8 + 16 * extents.length, rsv, 0, false⟩ h false r s1)
  (ready : s1.partRefusal h.part.val = none) (legal : swapExtentsOk extents.length extents = true)

include hs ready legal

theorem kvSwapConfig_busy (busy : (s1.part h.part.val).swapHostUsed ≠ [] ∨ (s1.part h.part.val).swapT2Used ≠ []) :
    exec (.kvSwapConfig h 0 extents.length extents rsv) s = .next (s1.done r .partitionBusy) := by
  refine congrArg Host.Outcome.next ((State.serve_of_serves hs _).trans ?_)
  dsimp only
  rw [Header.target, ready]
  exact (if_neg (by simp [legal])).trans (if_pos busy)

theorem kvSwapConfig_sets (host : (s1.part h.part.val).swapHostUsed = []) (t2 : (s1.part h.part.val).swapT2Used = []) :
    ∃ t, exec (.kvSwapConfig h 0 extents.length extents rsv) s = .next t ∧
      (h.part.val < s1.pln.parts.length → (t.part h.part.val).swapHost = extents ∧ (t.part h.part.val).swapT2 = 0) ∧
      afind t.fls.extents (swapExtent h.part.val) = none ∧ s.Only [.bar, .stk, .pln, .fls, .cmd, .host, .out] t := by
  let sized : State := { s1 with fls := { s1.fls with extents := adel s1.fls.extents (swapExtent h.part.val) } }
  let set := sized.modPart h.part.val fun z => { z with swapHost := extents, swapT2 := 0 }
  have run : exec (.kvSwapConfig h 0 extents.length extents rsv) s = .next (set.done r .ok) := by
    refine congrArg Host.Outcome.next ((State.serve_of_serves hs _).trans ?_)
    dsimp only
    rw [Header.target, ready]
    exact (if_neg (by simp [legal])).trans (if_neg (by simp [host, t2]))
  have answered := set.done_only r .ok
  have sizes : s1.Only [.fls] sized := by simp [State.Only, sized]
  have sets : sized.Only [.pln] set := ((sized.keeps_self _).modPart (sub_self _) _ _).only
  refine ⟨_, run, fun inside => ?_, ?_, ?_⟩
  · rw [State.part_congr answered.pln, sized.part_modPart_in _ inside]
    exact ⟨rfl, rfl⟩
  · rw [answered.fls]
    exact afind_adel_same _ _
  · exact (((hs.only.mono (by decide)).trans (sizes.mono (by decide))).trans (sets.mono (by decide))).trans (answered.mono (by decide))

end config

/-! ### What the inkwell's entries, pins and epoch outlast -/

/-- The inkwell's entries, the pins and the epoch. -/
def Kva.books (k : Kva) : List Ink × List Pin × Nat := (k.inks, k.pins, k.epoch)

theorem State.freeRow_books (s : State) (p first : Nat) : (s.freeRow p first).kva.books = s.kva.books := by
  rw [State.freeRow]
  dsimp only
  split
  · rfl
  · rfl

theorem State.inkReclaim_books (s : State) (first : Nat) : (s.inkReclaim first).kva.books = s.kva.books := by
  rw [State.inkReclaim]
  split
  · dsimp only
    rw [apply_ite (fun a : State => a.kva.books), State.freeRow_books]
    exact ite_self _
  · rfl

theorem State.inkRelease_books (s : State) (first : Nat) : (s.inkRelease first).kva.books = s.kva.books := State.inkReclaim_books _ first

theorem State.dropRow_books (s : State) (p : Nat) (r : Row) : (s.dropRow p r).kva.books = s.kva.books := by
  rw [State.dropRow]
  split
  · exact s.freeRow_books p _
  · exact s.inkRelease_books _
  · rfl
  · exact (congrArg Kva.books ((s.keeps_self _).t2Free (sub_self _) _ _).only.kva :
      (s.t2Free (swapExtent p) (runFrom r.loc (s.part p).rowUnitsT2)).kva.books = s.kva.books)
  · rfl

theorem State.dropSwapOut_books (s : State) (x : KvCtx) : (s.dropSwapOut x).kva.books = s.kva.books := by
  rw [State.dropSwapOut]
  exact foldl_leaves (fun a : State => a.kva.books) _ (fun a e => a.dropRow_books _ _) x.swapOut s

theorem State.inkRow_books (s : State) (p : Fin 16) (prefixId : Nat) (r : Row) : (s.inkRow p prefixId r).kva.books = s.kva.books := by
  rw [State.inkRow]
  split
  · rfl
  · rfl

theorem inkwellPinEnd_unpins (s : State) (reader : Nat) : ∃ t, exec (.inkwellPinEnd reader) s = .next t ∧ t.kva.pins = s.kva.pins.filter (fun n => n.reader != reader) ∧
    t.kva.inks = s.kva.inks ∧ t.kva.epoch = s.kva.epoch ∧ s.Only [.kva, .pln] t := by
  let unpinned : State := { s with kva := { s.kva with pins := s.kva.pins.filter fun n => n.reader != reader } }
  have books : unpinned.pinsChanged.kva.books = unpinned.kva.books := by
    rw [State.pinsChanged, State.inkReclaimAll]
    exact foldl_leaves (fun a : State => a.kva.books) _ (fun a first => a.inkReclaim_books first) _ _
  obtain ⟨inks, rest⟩ := Prod.mk.inj books
  obtain ⟨pins, epoch⟩ := Prod.mk.inj rest
  have unpins : s.Only [.kva] unpinned := by simp [State.Only, unpinned]
  exact ⟨_, rfl, pins, inks, epoch, (unpins.mono (by decide)).trans ((unpinned.keeps_self _).pinsChanged (sub_self _)).only⟩

/-! ### INKWELL_WITHDRAW -/

section withdraw
variable {s s1 : State} {h : Header} {r : ReplyTo} {prefixId : BitVec 32} {rsv : Nat} (hs : s.Serves ⟨0x0308, 1, true, false, 8, rsv, 0, false⟩ h false r s1)

include hs

theorem inkwellWithdraw_unknown (unknown : s1.kva.inks.find? (fun k => k.prefixId == prefixId) = none) :
    exec (.inkwellWithdraw h prefixId rsv) s = .next (s1.done r .alreadyDone) := by
  refine congrArg Host.Outcome.next ((State.serve_of_serves hs _).trans ?_)
  dsimp only
  rw [unknown]

theorem inkwellWithdraw_withdraws (device : h.origin.partition = none) :
    ∃ t, exec (.inkwellWithdraw h prefixId rsv) s = .next t ∧ (∀ k ∈ t.kva.inks, k.prefixId ≠ prefixId) ∧ t.sat.sats = s.sat.sats := by
  cases known : s1.kva.inks.find? (fun k => k.prefixId == prefixId) with
  | none =>
    have answered := s1.done_only r .alreadyDone
    refine ⟨_, inkwellWithdraw_unknown hs known, fun k mem => ?_, congrArg SatSt.sats (answered.sat.trans hs.only.sat)⟩
    rw [answered.kva] at mem
    simpa using List.find?_eq_none.1 known k mem
  | some k =>
    let dropped : State := { s1 with kva := { s1.kva with inks := s1.kva.inks.filter fun y => y.prefixId != prefixId } }
    let released := k.rows.foldl State.inkRelease dropped
    let told := released.toShards k.part.val true (shardDo 0 0 (.withdraw prefixId))
    have run : exec (.inkwellWithdraw h prefixId rsv) s = .next (told.done r .ok) := by
      refine congrArg Host.Outcome.next ((State.serve_of_serves hs _).trans ?_)
      dsimp only
      rw [known, device]
      exact if_neg Bool.false_ne_true
    have books : released.kva.books = dropped.kva.books := foldl_leaves (fun a : State => a.kva.books) _ (fun a first => a.inkRelease_books first) _ _
    have releases : s1.Only [.kva, .pln] dropped := by simp [State.Only, dropped]
    have frees : dropped.Only [.kva, .pln] released := ((dropped.keeps_self _).foldl k.rows State.inkRelease fun t r kt => kt.inkRelease (by decide) r).only
    have tells : released.Only [.bar, .cmd, .host, .out] (told.done r .ok) := (((released.keeps_self _).toShards (by decide) _ true _).done (by decide) r .ok).only
    refine ⟨_, run, fun k mem => ?_, congrArg SatSt.sats (tells.sat.trans (frees.sat.trans (releases.sat.trans hs.only.sat)))⟩
    rw [tells.kva, (Prod.mk.inj books).1] at mem
    simpa using (List.mem_filter.1 mem).2

end withdraw

/-! ### INKWELL_PUBLISH -/

/-- A satchel whose parking, where one is under way, is given up. -/
def Sat.unparked (x : Sat) : Sat :=
  match x.park with
  | .parking _ _ => { x with cold := [], park := .idle, home := [], units := if x.state = .parkedWarm then x.units else 0,
                             rows := x.home.foldl (fun (l : List Row) e => putRow l e.1 e.2) x.rows }
  | _ => x

theorem Sat.unparked_log (x : Sat) : x.unparked.log = x.log := by
  rw [Sat.unparked]
  split
  · rfl
  · rfl

theorem State.satAt_abandonPark {s : State} {slot : Nat} {x : Sat} (found : s.satAt slot = some x) (low : slot < 4194304) (j : Nat) :
    (s.abandonPark slot).satAt j = if j = slot then some x.unparked else s.satAt j := by
  have place (u : State) (y : Sat) (f : KvCtx → KvCtx) (here : u.satAt slot = some y) (others : j ≠ slot → u.satAt j = s.satAt j) :
      (u.modCtx slot f).satAt j = if j = slot then some { y with toKvCtx := f y.toKvCtx } else s.satAt j := by
    rw [State.satAt_modCtx, here]
    by_cases same : j = slot
    · rw [if_pos ⟨by omega, same⟩, if_pos same]; rfl
    · rw [if_neg fun h => same h.2, if_neg same, others same]
  rw [State.abandonPark, State.withCtx_some _ (State.ctxAt_of_satAt low found), Sat.unparked]
  dsimp only
  cases parks : x.park with
  | parking cold n =>
    dsimp only
    split
    · have freed := ((s.keeps_self _).t2Free (sub_self _) 992 x.cold).only.sat
      refine place _ { x with cold := [] } _ ?_ fun ne => ?_
      · rw [State.satAt_modCtx, if_pos ⟨by omega, rfl⟩, State.satAt_of_sat freed, found]; rfl
      · rw [State.satAt_modCtx, if_neg fun h => ne h.2, State.satAt_of_sat freed]
    · refine place _ { x with toKvCtx := x.toKvCtx.blocksFreed } _ ?_ fun ne => ?_
      · rw [State.satAt_freeBlocks, if_pos ⟨by omega, rfl⟩, found]; rfl
      · rw [State.satAt_freeBlocks, if_neg fun h => ne h.2]
  | _ =>
    dsimp only
    by_cases same : j = slot
    · rw [if_pos same, same, found]
    · rw [if_neg same]

theorem State.abandonPark_books (s : State) (c : Nat) : (s.abandonPark c).kva.books = s.kva.books := by
  cases found : s.ctxAt c with
  | none => rw [State.abandonPark, State.withCtx_none _ found]
  | some x =>
    have blocks : (s.freeBlocks c).kva.books = s.kva.books := by
      rw [State.freeBlocks, State.withCtx_some _ found]
      dsimp only
      rw [(State.only_modCtx _ c _).kva]
      exact (congrArg Kva.books ((s.keeps_self _).t2Free (sub_self _) 992 x.cold).only.kva : (s.t2Free 992 x.cold).kva.books = s.kva.books)
    rw [State.abandonPark, State.withCtx_some _ found]
    dsimp only
    split
    · rw [(State.only_modCtx _ c _).kva]
      split
      · rw [(State.only_modCtx _ c _).kva, ((s.keeps_self _).t2Free (sub_self _) 992 x.cold).only.kva]
      · exact blocks
    · rfl

/-- The rows of what is published are inkwell rows of the satchel that keeps them. -/
def Sat.published (z : Sat) (n : Nat) : Sat :=
  { z with rows := ((z.rows.take n).map fun w => { w with kind := RowKind.inkwell }) ++ z.rows.drop n, swapOut := [] }

/-- A published entry joins the inkwell, and its satchel's rows become inkwell rows. -/
theorem State.publishRows_publishes {s : State} {slot : Nat} {x z : Sat} (found : s.satAt slot = some x) (low : slot < 4194304)
    (unparked : (s.abandonPark slot).satAt slot = some z) (e : Ink) :
    (s.publishRows slot e).kva.inks = s.kva.inks ++ [e] ∧ (∀ j, (s.publishRows slot e).satAt j = if j = slot then some (z.published e.rows.length) else s.satAt j) := by
  let s1 := s.abandonPark slot
  let s2 := (z.rows.take e.rows.length).foldl (fun (a : State) w => a.inkRow e.part e.prefixId.toNat w) s1
  let s3 : State := { s2 with kva := { s2.kva with inks := s2.kva.inks ++ [e] } }
  have eq : s.publishRows slot e = (s3.dropSwapOut z.toKvCtx).modCtx slot fun y =>
      { y with rows := ((y.rows.take e.rows.length).map fun w => { w with kind := RowKind.inkwell }) ++ y.rows.drop e.rows.length, swapOut := [] } := by
    rw [State.publishRows]
    dsimp only
    rw [State.withCtx_some _ (State.ctxAt_of_satAt low unparked)]
  have inked : s2.kva.books = s.kva.books := (foldl_leaves (fun a : State => a.kva.books) _ (fun a w => a.inkRow_books _ _ w) _ s1).trans (s.abandonPark_books slot)
  have sat2 : s2.sat = s1.sat := ((s1.keeps_self [.kva]).foldl (z.rows.take e.rows.length) _ fun t w kt => kt.inkRow (by decide) e.part e.prefixId.toNat w).only.sat
  have dropped : (s3.dropSwapOut z.toKvCtx).sat = s1.sat := (((s3.keeps_self _).dropSwapOut (sub_self _) z.toKvCtx).only.sat).trans sat2
  rw [eq]
  refine ⟨?_, fun j => ?_⟩
  · rw [(State.only_modCtx _ slot _).kva, (Prod.mk.inj (s3.dropSwapOut_books z.toKvCtx)).1]
    exact congrArg (· ++ [e]) (Prod.mk.inj inked).1
  · rw [State.satAt_modCtx, State.satAt_of_sat dropped, State.satAt_of_sat dropped, unparked]
    by_cases same : j = slot
    · rw [if_pos ⟨by omega, same⟩, if_pos same]; rfl
    · rw [if_neg fun h => same h.2, if_neg same, State.satAt_abandonPark found low, if_neg same]

section publish
variable {s s1 : State} {h : Header} {r : ReplyTo} {id : SatchelId} {length rsv slot : Nat} {y z : Sat} {n : Nat}
  (hs : s.Serves ⟨0x0307, 1, true, true, 16, rsv, 0, false⟩ h false r s1) (gen : satGen id ≠ 0) (finds : s1.findSlot id = some slot) (found : s1.satAt slot = some y)
  (may : h.mayName y = true) (rests : y.state = .ready ∨ y.state = .wait) (ready : s1.ready y.part.val = true)

include hs gen finds found may rests ready

theorem inkwellPublish_short (short : y.kvPos < length) : exec (.inkwellPublish h id length false rsv) s = .next (s1.done r .badField) := by
  refine congrArg Host.Outcome.next ((State.serve_of_serves hs _).trans ((State.withOwned_of _ gen finds found may).trans ?_))
  refine (if_neg (by simp)).trans ((if_neg ?_).trans (if_pos (Or.inr (Or.inl short))))
  rintro (a | a)
  · exact rests.elim a.1 a.2
  · exact Bool.noConfusion (ready.symm.trans a)

theorem inkwellPublish_publishes (loaded : (s1.part y.part.val).image.isSome = true) (least : 1 ≤ length) (pages : n = ceilDiv length (s1.part y.part.val).positions)
    (low : slot < 4194304) (unparked : (s1.abandonPark slot).satAt slot = some z) (fits : length ≤ y.kvPos)
    (local_ : ∀ w ∈ z.rows.take n, w.kind = .here ∨ w.kind = .inkwell) (room : s1.kva.inks.length < 65536) :
    ∃ t x e, exec (.inkwellPublish h id length false rsv) s = .next t ∧ t.kva.inks = s1.kva.inks ++ [e] ∧ e.prefixId = BitVec.ofNat 32 s1.newPrefix ∧ e.part = y.part ∧ e.model = y.model ∧
      e.length = length ∧ e.rows = (z.rows.take n).map (fun w => w.loc) ∧ e.tokens = y.log.take length ∧ e.scope = some y.tenant ∧ t.satAt slot = some x ∧
      (∀ w ∈ x.rows.take (z.rows.take n).length, w.kind = .inkwell) ∧ x.log = y.log ∧ (∀ j, j ≠ slot → t.satAt j = s1.satAt j) := by
  let e : Ink := { prefixId := BitVec.ofNat 32 s1.newPrefix, part := y.part, model := y.model, length := length, rows := (z.rows.take n).map fun w => w.loc,
                   tokens := y.log.take length, scope := some y.tenant }
  let named : State := { s1 with kva := { s1.kva with nextPrefix := s1.newPrefix + 1 } }
  let told := (named.publishRows slot e).toShards y.part.val true (shardDo id y.kvPos (.publish (BitVec.ofNat 32 s1.newPrefix) length (some y.tenant) (y.log.take length)))
  have run : exec (.inkwellPublish h id length false rsv) s = .next (told.answer r .ok true (leBytes 4 s1.newPrefix)) := by
    refine congrArg Host.Outcome.next ((State.serve_of_serves hs _).trans ((State.withOwned_of _ gen finds found may).trans ?_))
    dsimp only
    rw [ctxOfSlot, unparked, Option.elim_some, ← pages]
    refine (if_neg (by simp)).trans ((if_neg ?_).trans ((if_neg ?_).trans ((if_neg ?_).trans (if_neg (by omega)))))
    · rintro (a | a)
      · exact rests.elim a.1 a.2
      · exact Bool.noConfusion (ready.symm.trans a)
    · rintro (a | a | a)
      · omega
      · omega
      · rw [Option.isNone_iff_eq_none] at a
        rw [a] at loaded
        cases loaded
    · rw [List.any_eq_true]
      rintro ⟨w, mem, other⟩
      obtain k | k := local_ w mem
      · simp [k] at other
      · simp [k] at other
  have log : z.log = y.log := by
    have eq := unparked.symm.trans ((State.satAt_abandonPark found low slot).trans (if_pos rfl))
    rw [Option.some.inj eq, Sat.unparked_log]
  have unparkedN : (named.abandonPark slot).satAt slot = some z :=
    ((State.satAt_abandonPark (s := named) found low slot).trans (State.satAt_abandonPark found low slot).symm).trans unparked
  obtain ⟨inks, sats⟩ := State.publishRows_publishes (s := named) found low unparkedN e
  have tells : (named.publishRows slot e).Only [.bar, .cmd, .host, .out] (told.answer r .ok true (leBytes 4 s1.newPrefix)) :=
    (((State.keeps_self _ _).toShards (by decide) _ true _).answer (by decide) r .ok true _).only
  refine ⟨_, _, e, run, (congrArg Kva.inks tells.kva).trans inks, rfl, rfl, rfl, rfl, rfl, rfl, rfl,
    (State.satAt_of_sat tells.sat slot).trans ((sats slot).trans (if_pos rfl)), ?_, log, fun j ne => (State.satAt_of_sat tells.sat j).trans ((sats j).trans (if_neg ne))⟩
  have rows : e.rows.length = (z.rows.take n).length := List.length_map _
  intro w mem
  rw [Sat.published, rows] at mem
  dsimp only at mem
  rw [List.take_append_of_le_length (by simp)] at mem
  obtain ⟨v, -, rfl⟩ := List.mem_map.1 (List.mem_of_mem_take mem)
  rfl

end publish

/-- Settles O14: KV swap, the inkwell's entries and its pins, clause by clause. -/
theorem swapAndInkwell : Obligations.SwapAndInkwell := by
  unfold Obligations.SwapAndInkwell
  refine ⟨fun s id row slot toT2 x e r slots found low waits there here => ⟨?_, ?_⟩, fun s id row slot x e r slots found low waits there => ⟨?_, ?_, ?_⟩,
    fun s s1 h r extents rsv hs ready legal => ⟨?_, ?_⟩,
    fun s s1 h r id length rsv slot y z n hs gen finds found may rests ready loaded least pages low unparked => ⟨?_, ?_⟩,
    fun s s1 h r prefixId rsv hs => ⟨?_, ?_⟩, inkwellPinEnd_unpins⟩
  · exact swapOutComplete_waits slots found low there waits
  · exact swapOutComplete_swaps slots found low there waits here
  · exact swapReturnComplete_returns slots found low there waits
  · exact swapReturnComplete_rebuilds slots found low there waits
  · exact swapReturnComplete_ends slots found low there waits
  · exact kvSwapConfig_busy hs ready legal
  · exact kvSwapConfig_sets hs ready legal
  · exact inkwellPublish_short hs gen finds found may rests ready
  · exact inkwellPublish_publishes hs gen finds found may rests ready loaded least pages low unparked
  · exact inkwellWithdraw_unknown hs
  · exact inkwellWithdraw_withdraws hs

end Sys2Proof.Machine
end

section
/-! PROOFS. The states of a partition (chapter 07, O18). -/
namespace Sys2Proof.Machine

/-! ### Partitions and windows through replies, events and drains -/

/-- A partition that is not FREE stands in the table. -/
theorem State.part_used {s : State} {p : Nat} (used : (s.part p).state ≠ .free) : p < s.pln.parts.length :=
  State.part_in fun none_ => used (by rw [none_]; rfl)

theorem State.putRecord_windows (s : State) (key : Nat) (bytes : List Byte) : (s.putRecord key bytes).cmd.windows = s.cmd.windows := by
  rw [State.putRecord]
  split
  · dsimp only
    split
    · exact (congrArg Cmd.windows (s.count_only Reg.cmdCntDrop 1).cmd : (s.count Reg.cmdCntDrop 1).cmd.windows = s.cmd.windows)
    · rfl
  · split
    · exact s.writeRecord_windows key _ bytes
    · split
      · rfl
      · rfl

theorem State.partEvent_windows (s : State) (part op : Nat) (tag : Word) (st : Status) : (s.partEvent part op tag st).cmd.windows = s.cmd.windows := by
  rw [State.partEvent, State.event, State.eventAt]
  dsimp only
  split
  · rfl
  · exact State.putRecord_windows _ _ _

theorem State.partEvent_only (s : State) (part op : Nat) (tag : Word) (st : Status) : s.Only [.bar, .cmd, .host, .out] (s.partEvent part op tag st) :=
  ((s.keeps_self _).partEvent (sub_self _) part op tag st).only

/-- A reply gives back the room of its window and leaves the state of every window. -/
theorem State.done_window_state (s : State) (r : ReplyTo) (st : Status) (w : Nat) : ((s.done r st).window w).state = (s.window w).state := by
  rw [State.done, State.answer]
  split
  · next v _ =>
    have same (bytes : List Byte) := State.window_congr (s.putRecord_windows (windowRing v.val) bytes) w
    dsimp only
    by_cases e : w = v.val
    · subst e
      rw [State.window, State.modWindow, List.getD_eq_getElem?_getD, List.getElem?_modify_eq]
      rw [← same, State.window, List.getD_eq_getElem?_getD]
      cases (State.putRecord _ _ _).cmd.windows[v.val]? with
      | none => rfl
      | some _ => rfl
    · rw [State.window_modWindow_ne _ _ e, same]
  · rfl
  · rfl

theorem State.failConns_only (l : List (Nat × Conn)) (s : State) :
    s.Only [.bar, .cores, .memory, .lnk, .xpt, .shp, .blt, .host, .out, .freeCtr] (l.foldl (fun (a : State) c => a.failConn c.1) s) :=
  ((s.keeps_self _).foldl l _ fun _ c kt => kt.failConn (sub_self _) c.1).only

/-- What a drain makes of a partition. -/
def Part.drains (q : Part) (tag : Option (Nat × Word)) : Part :=
  { q with state := .draining, composing := none, drainTag := tag, suspendTag := none, resumeTag := none, resumeLatched := false, readyAt := false }

/-- A drain changes its partition and its window; the connections that it fails leave both. -/
theorem State.beginDrain_drains (s : State) (p : Nat) (tag : Option (Nat × Word)) :
    (s.beginDrain p tag).pln = (s.modPart p fun q => q.drains tag).pln ∧ (s.beginDrain p tag).cmd = (s.windowDrain p).cmd := by
  rw [State.beginDrain]
  exact ⟨(State.failConns_only _ _).pln, (State.failConns_only _ _).cmd⟩

theorem State.beginDrain_part (s : State) {p : Nat} (tag : Option (Nat × Word)) (inside : p < s.pln.parts.length) :
    (s.beginDrain p tag).part p = (s.part p).drains tag ∧ ∀ q, q ≠ p → (s.beginDrain p tag).part q = s.part q := by
  have eq := State.part_congr (s.beginDrain_drains p tag).1
  exact ⟨(eq p).trans (s.part_modPart_in _ inside), fun q ne => (eq q).trans (s.part_modPart_ne _ ne)⟩

theorem State.beginDrain_window (s : State) (p : Nat) (tag : Option (Nat × Word)) (enabled : (s.window (16 + p)).state = .enabled) :
    ((s.beginDrain p tag).window (16 + p)).state = .draining := by
  have inside : 16 + p < s.cmd.windows.length := State.window_lt fun none_ => by rw [none_] at enabled; cases enabled
  rw [State.window_congr (congrArg Cmd.windows (s.beginDrain_drains p tag).2), State.windowDrain, State.window_modWindow_same _ inside, enabled]

/-! ### Composition -/

section compose
variable {s s1 : State} {h : Header} {r : ReplyTo} {c : ComposeParams} {src : Option SrcFact}
  (hs : s.Serves ⟨0x0100, 1, false, false, 40 + 4 * c.nShard + 4 * (c.nRing - 1), c.rsv, b2n (c.source == 0), false⟩ h false r s1) (free : (s1.part h.part.val).held = none)

include hs free

theorem partitionCompose_refuses (st : Status) (refused : s1.composeCheck h.part c src = some st) : exec (.partitionCompose h c src) s = .next (s1.done r st) := by
  refine congrArg Host.Outcome.next ((State.serve_of_serves hs _).trans ?_)
  dsimp only
  rw [free, refused]
  rfl

theorem partitionCompose_full (legal : s1.composeCheck h.part c src = none) (full : s1.composeRoom h.part.val c src = false) :
    exec (.partitionCompose h c src) s = .next (s1.done r .noResource) := by
  refine congrArg Host.Outcome.next ((State.serve_of_serves hs _).trans ?_)
  dsimp only
  rw [free, legal]
  exact (if_neg Bool.false_ne_true).trans (if_pos full)

theorem partitionCompose_accepts (legal : s1.composeCheck h.part c src = none) (idle : s1.slicesDraining h.part.val c.slices.toNat = false)
    (room : s1.composeRoom h.part.val c src = true) :
    exec (.partitionCompose h c src) s =
      .next (State.done (s1.modPart h.part.val fun q => { q with composing := some ⟨c, r.tag, src, s1.ready h.part.val, false, false⟩ }) r .accepted) := by
  refine congrArg Host.Outcome.next ((State.serve_of_serves hs _).trans ?_)
  dsimp only
  rw [free, legal]
  exact (if_neg Bool.false_ne_true).trans <| (if_neg (by simp [room])).trans (if_neg (by simp [idle]))

theorem partitionCompose_holds (legal : s1.composeCheck h.part c src = none) (busy : s1.slicesDraining h.part.val c.slices.toNat = true)
    (room : s1.composeRoom h.part.val c src = true) :
    exec (.partitionCompose h c src) s =
      .next (State.done (s1.modPart h.part.val fun q => { q with held := some ⟨c, r.tag, src, s1.ready h.part.val, false, false⟩ }) r .pendingEnable) := by
  refine congrArg Host.Outcome.next ((State.serve_of_serves hs _).trans ?_)
  dsimp only
  rw [free, legal]
  exact (if_neg Bool.false_ne_true).trans <| (if_neg (by simp [room])).trans (if_pos busy)

end compose

section held
variable {s : State} {p : Fin 16} {m : Composing} (held : (s.part p.val).held = some m)

include held

theorem heldComposeStart_waits (busy : s.slicesDraining p.val m.params.slices.toNat = true) : exec (.heldComposeStart p) s = .next s := by
  have unfolded : exec (.heldComposeStart p) s = execHeldComposeStart p s := rfl
  rw [unfolded, execHeldComposeStart, held]
  exact if_pos busy

theorem heldComposeStart_refuses (idle : s.slicesDraining p.val m.params.slices.toNat = false) (st : Status)
    (refused : (s.modPart p.val fun q => { q with held := none }).composeCheck p m.params m.src = some st) :
    exec (.heldComposeStart p) s = .next ((s.modPart p.val fun q => { q with held := none }).partEvent p.val 0x0100 m.tag st) := by
  have unfolded : exec (.heldComposeStart p) s = execHeldComposeStart p s := rfl
  rw [unfolded, execHeldComposeStart, held]
  dsimp only
  rw [refused]
  exact if_neg (by simp [idle])

theorem heldComposeStart_starts (idle : s.slicesDraining p.val m.params.slices.toNat = false)
    (legal : (s.modPart p.val fun q => { q with held := none }).composeCheck p m.params m.src = none) :
    exec (.heldComposeStart p) s =
      .next (State.startCompose ((s.modPart p.val fun q => { q with held := none }).modPart p.val fun q => { q with composing := some m }) p.val) := by
  have unfolded : exec (.heldComposeStart p) s = execHeldComposeStart p s := rfl
  rw [unfolded, execHeldComposeStart, held]
  dsimp only
  rw [legal]
  exact if_neg (by simp [idle])

end held

section zeroing
variable {s : State} {p : Fin 16} {c : Composing} (image : Option ImageFact) (ready : Bool) (state : (s.part p.val).state = .composing)
  (composing : (s.part p.val).composing = some c) (fresh : c.zeroed = false)

include state composing fresh

theorem composeZeroingDone_kv (role : c.params.role = 2) :
    exec (.composeZeroingDone p image ready) s = .next (s.modPart p.val fun q => { q with composing := some { c with zeroed := true } }) := by
  have unfolded : exec (.composeZeroingDone p image ready) s = execComposeZeroingDone p image ready s := rfl
  rw [unfolded, execComposeZeroingDone]
  dsimp only
  rw [state, composing]
  exact (if_neg (by simp [fresh])).trans (if_pos role)

variable {image} {f : ImageFact} (role : c.params.role ≠ 2) (source : c.params.source ≠ 2) (given : image = some f)

include role source given

theorem composeZeroingDone_fails (st : Status) (bad : imageFault c.params f.decode = some st) :
    exec (.composeZeroingDone p image ready) s = .next (s.failCompose p.val st) := by
  have unfolded : exec (.composeZeroingDone p image ready) s = execComposeZeroingDone p image ready s := rfl
  rw [unfolded, execComposeZeroingDone]
  dsimp only
  rw [state, composing, given]
  dsimp only
  rw [bad]
  exact (if_neg (by simp [fresh])).trans ((if_neg role).trans (if_neg fun both => source both.1))

theorem composeZeroingDone_fits (s1 : State) (good : imageFault c.params f.decode = none) (fits : s.fitModel p.val c f.decode = some s1) :
    exec (.composeZeroingDone p image ready) s = .next (s1.modPart p.val fun q => { q with image := some f.decode, composing := some { c with zeroed := true } }) := by
  have unfolded : exec (.composeZeroingDone p image ready) s = execComposeZeroingDone p image ready s := rfl
  rw [unfolded, execComposeZeroingDone]
  dsimp only
  rw [state, composing, given]
  dsimp only
  rw [good]
  dsimp only
  rw [fits]
  exact (if_neg (by simp [fresh])).trans ((if_neg role).trans (if_neg fun both => source both.1))

end zeroing

/-! ### The threads of a partition's cores -/

/-- A thread of a partition that starts: at the image's program, with the window and its own number. -/
def startedThread (p core th : Nat) (im : ModelImage) : Thread :=
  { Thread.stopped_ with
    state := .running, pc := BitVec.ofNat 64 (windowVa (0x010000000000 + im.progOff)),
    x := [(10, BitVec.ofNat 64 (windowVa 0)), (11, BitVec.ofNat 64 (lthread p core th))] }

theorem threadKey_inj {c t c' t' : Nat} (low : t < 64) (low' : t' < 64) : threadKey c t = threadKey c' t' ↔ c = c' ∧ t = t' := by
  rw [threadKey, threadKey]
  omega

theorem State.thread_startCore (p c : Nat) (im : ModelImage) (l : List Nat) (s : State) (small : ∀ t ∈ l, t < 64) (c' t' : Nat) (low : t' < 64) :
    (l.foldl (fun (b : State) t => b.modThread (threadKey c t) fun _ => startedThread p c t im) s).thread (threadKey c' t') =
      if c' = c ∧ t' ∈ l then startedThread p c' t' im else s.thread (threadKey c' t') := by
  induction l generalizing s with
  | nil => simp
  | cons t l ih =>
    have same := threadKey_inj (c := c') (c' := c) low (small t List.mem_cons_self)
    rw [List.foldl_cons, ih _ fun u mem => small u (List.mem_cons_of_mem _ mem), State.thread_modThread]
    grind

theorem State.thread_startCores (p : Nat) (im : ModelImage) (l : List Nat) (s : State) (c' t' : Nat) (low : t' < 64) :
    (l.foldl (fun (a : State) c => (List.range 64).foldl (fun (b : State) t => b.modThread (threadKey c t) fun _ => startedThread p c t im) a) s).thread (threadKey c' t') =
      if c' ∈ l then startedThread p c' t' im else s.thread (threadKey c' t') := by
  induction l generalizing s with
  | nil => simp
  | cons c l ih =>
    rw [List.foldl_cons, ih, State.thread_startCore p c im (List.range 64) s (fun t mem => List.mem_range.1 mem) c' t' low]
    have listed : t' ∈ List.range 64 := List.mem_range.2 low
    grind

theorem mem_coresOf {mask core : Nat} : core ∈ coresOf mask ↔ core < 128 ∧ bitAt mask (core / 8) = true := by
  rw [coresOf, List.mem_filter, List.mem_range]

theorem State.startThreads_runs {s : State} {p : Nat} {im : ModelImage} (loaded : (s.part p).image = some im) {core th : Nat} (low : core < 128) (small : th < 64)
    (has : bitAt (s.part p).slices.toNat (core / 8) = true) : (s.startThreads p).thread (threadKey core th) = startedThread p core th im := by
  rw [State.startThreads, loaded]
  exact (State.thread_startCores p im _ s core th small).trans (if_pos (mem_coresOf.2 ⟨low, has⟩))

theorem composeWeightsInPlace_starts (s : State) (p : Fin 16) (c : Composing) (im : ModelImage) (state : (s.part p.val).state = .composing)
    (composing : (s.part p.val).composing = some c) (zeroed : c.zeroed = true) (fresh : c.inPlace = false) (loaded : (s.part p.val).image = some im) :
    ∃ t, exec (.composeWeightsInPlace p) s = .next t ∧ (t.part p.val).state = .composing ∧ (t.part p.val).composing = some { c with inPlace := true } ∧
      (∀ core th, core < 128 → th < 64 → bitAt (s.part p.val).slices.toNat (core / 8) = true →
        (t.thread (threadKey core th)).state = .running ∧ (t.thread (threadKey core th)).pc = BitVec.ofNat 64 (windowVa (0x010000000000 + im.progOff)) ∧
        (t.thread (threadKey core th)).getX 10 = BitVec.ofNat 64 (windowVa 0) ∧ (t.thread (threadKey core th)).getX 11 = BitVec.ofNat 64 (lthread p.val core th)) ∧
      s.Only [.cores, .pln, .memory] t := by
  let placed := (s.putWeights p.val 0 im.bytes).writeParams p.val
  let started := placed.startThreads p.val
  let done_ := started.modPart p.val fun q => { q with composing := some { c with inPlace := true } }
  have run : exec (.composeWeightsInPlace p) s = .next done_ := by
    have unfolded : exec (.composeWeightsInPlace p) s = execComposeWeightsInPlace p s := rfl
    rw [unfolded, execComposeWeightsInPlace]
    dsimp only
    rw [state, composing, loaded]
    exact if_neg (by simp [zeroed, fresh])
  have places : s.Only [.memory] placed := (((s.keeps_self _).putWeights (sub_self _) _ _ _).writeParams (sub_self _) _).only
  have starts : placed.Only [.cores] started := ((placed.keeps_self _).startThreads (sub_self _) _).only
  have parts (q : Nat) : started.part q = s.part q := (State.part_congr starts.pln q).trans (State.part_congr places.pln q)
  have inside : p.val < started.pln.parts.length := State.part_used (by rw [parts, state]; decide)
  have own : done_.part p.val = { s.part p.val with composing := some { c with inPlace := true } } := by rw [started.part_modPart_in _ inside, parts]
  refine ⟨_, run, by rw [own]; exact state, by rw [own], fun core th low small has => ?_, ?_⟩
  · have same := State.part_congr places.pln p.val
    have thread : done_.thread (threadKey core th) = startedThread p.val core th im :=
      State.startThreads_runs ((congrArg Part.image same).trans loaded) low small (by rw [same]; exact has)
    rw [thread]
    exact ⟨rfl, rfl, rfl, rfl⟩
  · exact ((places.mono (by decide)).trans (starts.mono (by decide))).trans (((started.keeps_self _).modPart (by decide) _ _).only)

/-! ### The drain -/

theorem composeFailed_drains (s : State) (p : Fin 16) (st : Status) (c : Composing) (state : (s.part p.val).state = .composing) (composing : (s.part p.val).composing = some c) :
    ∃ t, exec (.composeFailed p st) s = .next t ∧ (t.part p.val).state = .draining ∧ (t.part p.val).composing = none ∧ (t.part p.val).drainTag = none ∧
      (∀ q, q ≠ p.val → t.part q = s.part q) ∧ s.Only [.bar, .cores, .pln, .memory, .lnk, .xpt, .shp, .cmd, .blt, .host, .out, .freeCtr] t := by
  let told := s.partEvent p.val 0x0100 c.tag (composeStatus st)
  have fails : s.failCompose p.val (composeStatus st) = told.beginDrain p.val none := by rw [State.failCompose, composing]
  have run : exec (.composeFailed p st) s = .next (told.beginDrain p.val none) := fails ▸ if_pos state
  have parts := State.part_congr (s.partEvent_only p.val 0x0100 c.tag (composeStatus st)).pln
  have inside : p.val < told.pln.parts.length := State.part_used (by rw [parts, state]; decide)
  obtain ⟨own, others⟩ := told.beginDrain_part none inside
  refine ⟨_, run, by rw [own]; rfl, by rw [own]; rfl, by rw [own]; rfl, fun q ne => (others q ne).trans (parts q), ?_⟩
  rw [← fails]
  exact ((s.keeps_self _).failCompose (sub_self _) _ _).only

section decompose
variable {s s1 : State} {h : Header} {r : ReplyTo} (hs : s.Serves ⟨0x0101, 1, false, false, 0, 0, 0, false⟩ h false r s1) (free : (s1.part h.part.val).held = none)
  (settled : (s1.part h.part.val).changing = false)

include hs free settled

theorem partitionDecompose_absent (state : (s1.part h.part.val).state = .free) : exec (.partitionDecompose h) s = .next (s1.done r .alreadyDone) := by
  refine congrArg Host.Outcome.next ((State.serve_of_serves hs _).trans ?_)
  dsimp only
  rw [free, settled]
  exact (if_neg Bool.false_ne_true).trans (if_pos state)

theorem partitionDecompose_busy (state : (s1.part h.part.val).state = .ready) (holds : s1.holds h.part = true) :
    exec (.partitionDecompose h) s = .next (s1.done r .partitionBusy) := by
  refine congrArg Host.Outcome.next ((State.serve_of_serves hs _).trans ?_)
  dsimp only
  rw [free, settled, state]
  exact (if_neg Bool.false_ne_true).trans ((if_neg (by decide)).trans (if_pos holds))

theorem partitionDecompose_drains (state : (s1.part h.part.val).state = .ready) (empty : s1.holds h.part = false) :
    ∃ t, exec (.partitionDecompose h) s = .next t ∧ (t.part h.part.val).state = .draining ∧ (t.part h.part.val).drainTag = some (0x0101, r.tag) ∧
      ((s1.window (16 + h.part.val)).state = .enabled → (t.window (16 + h.part.val)).state = .draining) ∧ (∀ q, q ≠ h.part.val → t.part q = s1.part q) ∧
      s.Only [.bar, .stk, .cores, .pln, .memory, .lnk, .xpt, .shp, .cmd, .blt, .host, .out, .freeCtr] t := by
  let answered := s1.done r .accepted
  have run : exec (.partitionDecompose h) s = .next (answered.beginDrain h.part.val (some (0x0101, r.tag))) := by
    refine congrArg Host.Outcome.next ((State.serve_of_serves hs _).trans ?_)
    dsimp only
    rw [free, settled, state]
    exact (if_neg Bool.false_ne_true).trans ((if_neg (by decide)).trans (if_neg (by simp [empty])))
  have answers := s1.done_only r .accepted
  have parts := State.part_congr answers.pln
  have inside : h.part.val < answered.pln.parts.length := State.part_used (by rw [parts, state]; decide)
  obtain ⟨own, others⟩ := answered.beginDrain_part (some (0x0101, r.tag)) inside
  refine ⟨_, run, by rw [own]; rfl, by rw [own]; rfl, fun enabled => answered.beginDrain_window _ _ ?_, fun q ne => (others q ne).trans (parts q), ?_⟩
  · exact (s1.done_window_state r .accepted _).trans enabled
  · exact ((hs.only.mono (by decide)).trans (answers.mono (by decide))).trans (((answered.keeps_self _).beginDrain (by decide) _ _).only)

end decompose

end Sys2Proof.Machine
end

section
/-! PROOFS. The end of a drain, suspension and resumption of a partition (chapter 07, O18). -/
namespace Sys2Proof.Machine

/-! ### Memory given back -/

theorem memByte_memZero_zero {m : Mem} {c : Nat} (zero : memByte m c = 0) (a n : Nat) : memByte (memZero m a n) c = 0 := by
  rw [memByte_memZero, zero]
  exact ite_self _

theorem memByte_foldl_memZero_zero {α : Type} (base size : α → Nat) (l : List α) (m : Mem) {c : Nat} (zero : memByte m c = 0) :
    memByte (l.foldl (fun m e => memZero m (base e) (size e)) m) c = 0 := by
  induction l generalizing m with
  | nil => exact zero
  | cons e l ih => exact ih _ (memByte_memZero_zero zero _ _)

theorem memByte_foldl_memZero {α : Type} (base size : α → Nat) (l : List α) (m : Mem) {e : α} (mem : e ∈ l) {c : Nat} (from_ : base e ≤ c) (to_ : c < base e + size e) :
    memByte (l.foldl (fun m e => memZero m (base e) (size e)) m) c = 0 := by
  induction l generalizing m with
  | nil => cases mem
  | cons d l ih =>
    obtain rfl | later := List.mem_cons.1 mem
    · exact memByte_foldl_memZero_zero base size l _ ((memByte_memZero _ _ _ _).trans (if_pos ⟨from_, to_⟩))
    · exact ih _ later

/-- A partition that is released: its cores' scratchpads read zero, its carve-outs are given back, and its record is as after reset but for a composition that it holds. -/
theorem State.releasePart_releases {s : State} {p : Nat} (inside : p < s.pln.parts.length) :
    (s.releasePart p).part p = { Part.reset with held := (s.part p).held } ∧ (∀ q, q ≠ p → (s.releasePart p).part q = s.part q) ∧
    (∀ c ∈ (s.releasePart p).memory.carves, c.owner ≠ partOwner p) ∧
    (∀ core a, core < 128 → bitAt (s.part p).slices.toNat (core / 8) = true → sramBase core ≤ a → a < sramBase core + 0x500000 →
      memByte (s.releasePart p).memory.mem a = 0) := by
  let q := s.part p
  let mask := q.slices.toNat
  let s1 := ((((s.clearCores p mask).zeroSram mask).zeroT0 mask).uncarve (partOwner p)).dropSwapExtent p
  let s2 := s1.setShares p mask 0
  let s3 : State := { s2 with
    memory := { s2.memory with mem := memZero s2.memory.mem (s2.frameAddr q.base) (q.frames * 65536), faults := s2.memory.faults.filter fun e => e.2.part.val != p },
    kva := { s2.kva with scales := s2.kva.scales.filter fun e => decide (e.1 < q.base ∨ q.base + q.frames ≤ e.1) },
    xpt := { s2.xpt with
      regions := akeep (fun g => g.part.val != p) s2.xpt.regions, queues := akeep (fun g => g.part.val != p) s2.xpt.queues,
      collectors := akeep (fun g => g.part.val != p) s2.xpt.collectors, groups := akeep (fun g => g.part.val != p) s2.xpt.groups } }
  have released : s.releasePart p = s3.modPart p fun y => { Part.reset with held := y.held } := rfl
  rw [released]
  have shares : s1.Only [.bar] s2 := ((s1.keeps_self _).setShares (sub_self _) p mask 0).only
  have pln : s3.pln = s.pln := shares.pln
  have parts := State.part_congr pln
  refine ⟨?_, fun q ne => (s3.part_modPart_ne _ ne).trans (parts q), fun c mem => ?_, fun core a low has from_ to_ => ?_⟩
  · rw [s3.part_modPart_in _ (by rw [pln]; exact inside), parts]
  · have kept : c ∈ s2.memory.carves := mem
    rw [shares.memory] at kept
    simpa using (List.mem_filter.1 kept).2
  · have sram : memByte ((s.clearCores p mask).zeroSram mask).memory.mem a = 0 :=
      memByte_foldl_memZero sramBase (fun _ => 0x500000) (coresOf mask) _ (mem_coresOf.2 ⟨low, has⟩) from_ to_
    have t0 : memByte (((s.clearCores p mask).zeroSram mask).zeroT0 mask).memory.mem a = 0 :=
      memByte_foldl_memZero_zero t0Base (fun _ => 0x10000000) _ _ sram
    have uncarved : memByte s1.memory.mem a = 0 := memByte_foldl_memZero_zero (fun c : Carve => c.base) (fun c => c.size) _ _ t0
    refine memByte_memZero_zero ?_ _ _
    rw [shares.memory]
    exact uncarved

theorem partitionDrainComplete_releases (s : State) (p : Fin 16) (state : (s.part p.val).state = .draining) :
    ∃ t, exec (.partitionDrainComplete p) s = .next t ∧ t.part p.val = { Part.reset with held := (s.part p.val).held } ∧ (t.window (16 + p.val)).state = .disabled ∧
      (∀ c ∈ t.memory.carves, c.owner ≠ partOwner p.val) ∧
      (∀ core a, core < 128 → bitAt (s.part p.val).slices.toNat (core / 8) = true → sramBase core ≤ a → a < sramBase core + 0x500000 → memByte t.memory.mem a = 0) ∧
      (∀ q, q ≠ p.val → t.part q = s.part q) ∧ s.Only [.bar, .kva, .cores, .pln, .memory, .fls, .xpt, .cmd, .host, .out] t := by
  let closed := (s.releasePart p.val).modWindow (16 + p.val) fun w => { w with state := .disabled, pend := false }
  obtain ⟨own, others, carves, sram⟩ := State.releasePart_releases (State.part_used (s := s) (p := p.val) (by rw [state]; decide))
  have shut : (closed.window (16 + p.val)).state = .disabled := by
    by_cases inside : 16 + p.val < (s.releasePart p.val).cmd.windows.length
    · rw [State.window_modWindow_same _ inside]
    · rw [State.window, List.getD_eq_default _ _ (by simpa [closed, State.modWindow] using inside)]
      rfl
  have ends : s.Only [.bar, .kva, .cores, .pln, .memory, .fls, .xpt, .cmd] closed := (((s.keeps_self _).releasePart (by decide) p.val).modWindow (by decide) _ _).only
  have told : ∃ t, exec (.partitionDrainComplete p) s = .next t ∧ closed.Only [.bar, .cmd, .host, .out] t ∧ t.cmd.windows = closed.cmd.windows := by
    have unfolded : exec (.partitionDrainComplete p) s = execPartitionDrainComplete p s := rfl
    rw [unfolded, execPartitionDrainComplete]
    dsimp only
    rw [if_neg (by simp [state])]
    split
    · exact ⟨_, rfl, State.partEvent_only _ _ _ _ _, State.partEvent_windows _ _ _ _ _⟩
    · exact ⟨_, rfl, (closed.keeps_self _).only, rfl⟩
  obtain ⟨t, run, only, windows⟩ := told
  have parts := State.part_congr only.pln
  refine ⟨t, run, (parts _).trans own, ?_, ?_, ?_, fun q ne => (parts q).trans (others q ne), (ends.mono (by decide)).trans (only.mono (by decide))⟩
  · rw [State.window_congr windows]; exact shut
  · rw [only.memory]; exact carves
  · rw [only.memory]; exact sram

/-! ### Suspension -/

section suspend
variable {s s1 : State} {h : Header} {r : ReplyTo} (hs : s.Serves ⟨0x0102, 1, false, false, 0, 0, 0, false⟩ h false r s1)
  (settled : (s1.part h.part.val).changing = false) (untold : (s1.part h.part.val).suspendTag = none)

include hs settled untold

theorem partitionSuspend_again (state : (s1.part h.part.val).state = .suspended) : exec (.partitionSuspend h) s = .next (s1.done r .alreadyDone) := by
  refine congrArg Host.Outcome.next ((State.serve_of_serves hs _).trans ?_)
  dsimp only
  rw [settled, untold, state]
  exact (if_neg (by simp)).trans ((if_neg (by simp)).trans (if_pos rfl))

theorem partitionSuspend_begins (state : (s1.part h.part.val).state = .ready) :
    ∃ t, exec (.partitionSuspend h) s = .next t ∧ (t.part h.part.val).suspendTag = some r.tag ∧
      (s1.stk.running = false → (t.part h.part.val).state = .suspending) ∧ (s1.stk.running = true → s1.stk.phase ≠ .commit → (t.part h.part.val).state = .ready) ∧
      (∀ q, q ≠ h.part.val → t.part q = s1.part q) ∧ s.Only [.bar, .stk, .pln, .cmd, .host, .out] t := by
  let p := h.part.val
  let noted := s1.modPart p fun y => { y with suspendTag := some r.tag }
  let answered := noted.done r .accepted
  have run : exec (.partitionSuspend h) s =
      .next (if s1.stk.running ∧ ¬ (s1.stk.phase = .commit ∧ (s1.part p).commitOpen = false) then answered else answered.enterSuspend p) := by
    refine congrArg Host.Outcome.next ((State.serve_of_serves hs _).trans ?_)
    dsimp only
    rw [settled, untold, state]
    exact (if_neg (by simp)).trans ((if_neg (by simp)).trans ((if_neg (by simp)).trans (if_neg (by simp))))
  have notes : s1.Only [.pln] noted := ((s1.keeps_self _).modPart (sub_self _) _ _).only
  have answers := noted.done_only r .accepted
  have parts := State.part_congr answers.pln
  have inside : p < s1.pln.parts.length := State.part_used (by rw [state]; decide)
  have own : answered.part p = { s1.part p with suspendTag := some r.tag } := (parts p).trans (s1.part_modPart_in _ inside)
  have others (q : Nat) (ne : q ≠ p) : answered.part q = s1.part q := (parts q).trans (s1.part_modPart_ne _ ne)
  have insideA : p < answered.pln.parts.length := State.part_used (by rw [own]; simp [state, p])
  have enters : (answered.enterSuspend p).part p = { answered.part p with state := .suspending, suspAt := answered.stk.time } := answered.part_modPart_in _ insideA
  have only : s.Only [.bar, .stk, .pln, .cmd, .host, .out] answered := ((hs.only.mono (by decide)).trans (notes.mono (by decide))).trans (answers.mono (by decide))
  refine ⟨_, run, ?_, fun still => ?_, fun running early => ?_, fun q ne => ?_, ?_⟩
  · split
    · rw [own]
    · rw [enters, own]
  · rw [if_neg (by simp [still]), enters]
  · rw [if_pos ⟨running, fun both => early both.1⟩, own]
    exact state
  · split
    · exact others q ne
    · exact (answered.part_modPart_ne _ ne).trans (others q ne)
  · split
    · exact only
    · exact only.trans (((answered.keeps_self _).enterSuspend (by decide) p).only)

end suspend

section resume
variable {s s1 : State} {h : Header} {r : ReplyTo} (hs : s.Serves ⟨0x0103, 1, false, false, 0, 0, 0, false⟩ h false r s1)

include hs

theorem partitionResume_begins (state : (s1.part h.part.val).state = .suspended) :
    ∃ t, exec (.partitionResume h) s = .next t ∧ (t.part h.part.val).state = .resuming ∧ (t.part h.part.val).resumeTag = some r.tag ∧ (∀ q, q ≠ h.part.val → t.part q = s1.part q) ∧
      s.Only [.bar, .stk, .pln, .cmd, .host, .out] t := by
  let p := h.part.val
  let noted := s1.modPart p fun y => { y with resumeTag := some r.tag }
  let resumed := noted.beginResume p
  have run : exec (.partitionResume h) s = .next (resumed.done r .accepted) := by
    refine congrArg Host.Outcome.next ((State.serve_of_serves hs _).trans ?_)
    dsimp only
    rw [state]
  have notes : s1.Only [.pln] noted := ((s1.keeps_self _).modPart (sub_self _) _ _).only
  have resumes : noted.Only [.pln] resumed := ((noted.keeps_self _).beginResume (sub_self _) _).only
  have answers := resumed.done_only r .accepted
  have parts := State.part_congr answers.pln
  have inside : p < s1.pln.parts.length := State.part_used (by rw [state]; decide)
  have notedPart : noted.part p = { s1.part p with resumeTag := some r.tag } := s1.part_modPart_in _ inside
  have insideN : p < noted.pln.parts.length := State.part_used (by rw [notedPart]; simp [state, p])
  have own : resumed.part p = { noted.part p with state := .resuming, resumeLatched := false, suspendTag := none } := noted.part_modPart_in _ insideN
  refine ⟨_, run, by rw [parts, own], by rw [parts, own, notedPart], fun q ne => (parts q).trans ((noted.part_modPart_ne _ ne).trans (s1.part_modPart_ne _ ne)), ?_⟩
  exact (((hs.only.mono (by decide)).trans (notes.mono (by decide))).trans (resumes.mono (by decide))).trans (answers.mono (by decide))

theorem partitionResume_latches (state : (s1.part h.part.val).state = .suspending) (unlatched : (s1.part h.part.val).resumeLatched = false) :
    exec (.partitionResume h) s = .next (State.done (s1.modPart h.part.val fun y => { y with resumeLatched := true, resumeTag := some r.tag }) r .pendingEnable) := by
  refine congrArg Host.Outcome.next ((State.serve_of_serves hs _).trans ?_)
  dsimp only
  rw [state]
  exact if_neg (by simp [unlatched])

theorem partitionResume_runs (state : (s1.part h.part.val).state = .ready) (settled : (s1.part h.part.val).composing = none) :
    exec (.partitionResume h) s = .next (s1.done r .alreadyDone) := by
  refine congrArg Host.Outcome.next ((State.serve_of_serves hs _).trans ?_)
  dsimp only
  rw [state]
  exact if_neg (by simp [settled])

end resume

end Sys2Proof.Machine
end

section
/-! PROOFS. What a suspended partition saves and a resumed one gets back (chapter 07, O18). -/
namespace Sys2Proof.Machine

/-! ### The records of a save area -/

theorem getElem?_takeWhile_ne {l : List Nat} {c : Nat} (mem : c ∈ l) : l[(l.takeWhile fun d => d != c).length]? = some c := by
  induction l with
  | nil => cases mem
  | cons d l ih =>
    by_cases same : d = c
    · simp [same]
    · have later : c ∈ l := (List.mem_cons.1 mem).resolve_left fun e => same e.symm
      simpa [same] using ih later

/-- The records of two cores do not overlap. -/
theorem Part.coreRecord_apart (q : Part) {c d : Nat} (memC : c ∈ coresOf q.slices.toNat) (memD : d ∈ coresOf q.slices.toNat) (ne : c ≠ d) :
    q.coreRecord c + 0x540000 ≤ q.coreRecord d ∨ q.coreRecord d + 0x540000 ≤ q.coreRecord c := by
  have places : ((coresOf q.slices.toNat).takeWhile fun e => e != c).length ≠ ((coresOf q.slices.toNat).takeWhile fun e => e != d).length := fun e =>
    ne (Option.some.inj ((getElem?_takeWhile_ne memC).symm.trans ((congrArg (fun n => (coresOf q.slices.toNat)[n]?) e).trans (getElem?_takeWhile_ne memD))))
  rw [Part.coreRecord, Part.coreRecord]
  omega

theorem Part.coreRecord_low (q : Part) {c : Nat} (mem : c ∈ coresOf q.slices.toNat) (fits : q.saveAddr + saveBytes q.slices.toNat ≤ 2 ^ 42) : q.coreRecord c + 0x540000 ≤ 2 ^ 42 := by
  have inside := (List.getElem?_eq_some_iff.1 (getElem?_takeWhile_ne mem)).1
  rw [saveBytes] at fits
  rw [Part.coreRecord]
  omega

/-! ### Scratchpads to records -/

/-- The save of one core's scratchpad into its record. -/
def saveMem (rec : Nat → Nat) (m : Mem) (c : Nat) : Mem := memZero (memCopy m (sramBase c) m (rec c) 0x500000) (rec c + 0x510000) 0x28000

theorem wf_saveMem {rec : Nat → Nat} {m : Mem} {c : Nat} (wf : Memory.wf m = true) : Memory.wf (saveMem rec m c) = true :=
  Memory.wf_memZero _ _ _ (Memory.wf_memCopy _ _ _ _ _ wf)

theorem memByte_saveMem_out {rec : Nat → Nat} {m : Mem} {c x : Nat} (wf : Memory.wf m = true) (out : x < rec c ∨ rec c + 0x540000 ≤ x) :
    memByte (saveMem rec m c) x = memByte m x := by
  rw [saveMem, memByte_memZero, if_neg (by omega), memByte_memCopy _ _ _ _ _ wf, if_neg (by omega)]

theorem memByte_saveMem_in {rec : Nat → Nat} {m : Mem} {c a : Nat} (wf : Memory.wf m = true) (inside : a < 0x500000) :
    memByte (saveMem rec m c) (rec c + a) = memByte m (sramBase c + a) := by
  rw [saveMem, memByte_memZero, if_neg (by omega), memByte_memCopy _ _ _ _ _ wf, if_pos (by omega)]
  exact congrArg (memByte m) (by omega)

theorem memByte_foldl_saveMem_out {rec : Nat → Nat} (l : List Nat) {m : Mem} {x : Nat} (wf : Memory.wf m = true) (out : ∀ c ∈ l, x < rec c ∨ rec c + 0x540000 ≤ x) :
    memByte (l.foldl (saveMem rec) m) x = memByte m x := by
  induction l generalizing m with
  | nil => rfl
  | cons c l ih =>
    exact (ih (wf_saveMem wf) fun d mem => out d (List.mem_cons_of_mem _ mem)).trans (memByte_saveMem_out wf (out c List.mem_cons_self))

/-- Records that lie apart below the scratchpads hold what the scratchpads held. -/
theorem memByte_foldl_saveMem {rec : Nat → Nat} (l : List Nat) {m : Mem} {core a : Nat} (wf : Memory.wf m = true)
    (apart : ∀ c ∈ l, c ≠ core → rec c + 0x540000 ≤ rec core ∨ rec core + 0x540000 ≤ rec c) (low : ∀ c ∈ l, rec c + 0x540000 ≤ 2 ^ 42) (mem : core ∈ l) (inside : a < 0x500000) :
    memByte (l.foldl (saveMem rec) m) (rec core + a) = memByte m (sramBase core + a) := by
  induction l generalizing m with
  | nil => cases mem
  | cons c l ih =>
    rw [List.foldl_cons]
    by_cases later : core ∈ l
    · rw [ih (wf_saveMem wf) (fun d mem => apart d (List.mem_cons_of_mem _ mem)) (fun d mem => low d (List.mem_cons_of_mem _ mem)) later]
      have below := low c List.mem_cons_self
      exact memByte_saveMem_out wf (by rw [sramBase]; omega)
    · obtain rfl : core = c := (List.mem_cons.1 mem).resolve_right later
      rw [memByte_foldl_saveMem_out l (wf_saveMem wf) fun d mem => ?_]
      · exact memByte_saveMem_in wf inside
      · have away := apart d (List.mem_cons_of_mem _ mem) fun e => later (e ▸ mem)
        omega

/-- The queues of an idle core add nothing to a record. -/
theorem State.saveQueues_mem (p core base : Nat) (l : List Nat) (s : State) (idle : s.cores.queues = []) :
    (l.foldl (fun (a : State) u => a.physWrite (base + u * 16384) (queueBytes p (agetD a.cores.queues (core * 16 + u) []))) s).memory.mem = s.memory.mem := by
  induction l generalizing s with
  | nil => rfl
  | cons u l ih =>
    refine (ih (s.physWrite (base + u * 16384) (queueBytes p (agetD s.cores.queues (core * 16 + u) []))) idle).trans ?_
    rw [idle]
    rfl

theorem State.saveCore_mem {s : State} (p c : Nat) (idle : s.cores.queues = []) :
    (s.saveCore p c).memory.mem = saveMem (s.part p).coreRecord s.memory.mem c ∧ s.Only [.memory] (s.saveCore p c) := by
  refine ⟨?_, ((s.keeps_self _).saveCore (sub_self _) p c).only⟩
  rw [State.saveCore]
  exact State.saveQueues_mem p c _ (List.range 10) _ idle

theorem State.foldl_saveCore_mem (p : Nat) (l : List Nat) (s : State) (idle : s.cores.queues = []) :
    (l.foldl (fun (a : State) c => a.saveCore p c) s).memory.mem = l.foldl (saveMem (s.part p).coreRecord) s.memory.mem := by
  induction l generalizing s with
  | nil => rfl
  | cons c l ih =>
    obtain ⟨mem, only⟩ := State.saveCore_mem (s := s) p c idle
    rw [List.foldl_cons, List.foldl_cons, ih _ ((congrArg Cores.queues only.cores).trans idle), mem, State.part_congr only.pln]

theorem State.saveCores_saves {s : State} {p : Nat} (idle : s.cores.queues = []) (wf : Memory.wf s.memory.mem = true)
    (fits : (s.part p).saveAddr + saveBytes (s.part p).slices.toNat ≤ 2 ^ 42) {core a : Nat} (low : core < 128) (has : bitAt (s.part p).slices.toNat (core / 8) = true)
    (inside : a < 0x500000) : memByte (s.saveCores p).memory.mem ((s.part p).coreRecord core + a) = memByte s.memory.mem (sramBase core + a) := by
  have listed := mem_coresOf.2 ⟨low, has⟩
  let stopped : State := { s with cores := { s.cores with queues := amap (fun l => l.map fun (c : CoreCmd) => if c.part.val = p then c.stop else c) s.cores.queues } }
  have none_ : stopped.cores.queues = [] := by simp [stopped, idle, amap]
  have mem := stopped.foldl_saveCore_mem p (coresOf (s.part p).slices.toNat) none_
  rw [State.saveCores, mem]
  exact memByte_foldl_saveMem _ wf (fun c mem ne => (s.part p).coreRecord_apart mem listed ne) (fun c mem => (s.part p).coreRecord_low mem fits) listed inside

/-! ### Records to scratchpads -/

/-- The restoration of one core's scratchpad from its record. -/
def loadMem (rec : Nat → Nat) (m : Mem) (c : Nat) : Mem := memCopy m (rec c) m (sramBase c) 0x500000

theorem wf_loadMem {rec : Nat → Nat} {m : Mem} {c : Nat} (wf : Memory.wf m = true) : Memory.wf (loadMem rec m c) = true := Memory.wf_memCopy _ _ _ _ _ wf

theorem memByte_loadMem {rec : Nat → Nat} {m : Mem} {c x : Nat} (wf : Memory.wf m = true) :
    memByte (loadMem rec m c) x = if sramBase c ≤ x ∧ x < sramBase c + 0x500000 then memByte m (x - sramBase c + rec c) else memByte m x := memByte_memCopy _ _ _ _ _ wf

theorem memByte_foldl_loadMem_out {rec : Nat → Nat} (l : List Nat) {m : Mem} {core a : Nat} (wf : Memory.wf m = true) (out : core ∉ l) (inside : a < 0x500000) :
    memByte (l.foldl (loadMem rec) m) (sramBase core + a) = memByte m (sramBase core + a) := by
  induction l generalizing m with
  | nil => rfl
  | cons c l ih =>
    rw [List.mem_cons, not_or] at out
    obtain ⟨ne, rest⟩ := out
    rw [List.foldl_cons, ih (wf_loadMem wf) rest, memByte_loadMem wf, if_neg (by rw [sramBase, sramBase]; omega)]

/-- Scratchpads hold what their records below them held. -/
theorem memByte_foldl_loadMem {rec : Nat → Nat} (l : List Nat) {m : Mem} {core a : Nat} (wf : Memory.wf m = true) (low : rec core + 0x540000 ≤ 2 ^ 42) (mem : core ∈ l)
    (inside : a < 0x500000) : memByte (l.foldl (loadMem rec) m) (sramBase core + a) = memByte m (rec core + a) := by
  induction l generalizing m with
  | nil => cases mem
  | cons c l ih =>
    rw [List.foldl_cons]
    by_cases later : core ∈ l
    · rw [ih (wf_loadMem wf) later, memByte_loadMem wf, if_neg (by rw [sramBase]; omega)]
    · obtain rfl : core = c := (List.mem_cons.1 mem).resolve_right later
      rw [memByte_foldl_loadMem_out l (wf_loadMem wf) later inside, memByte_loadMem wf, if_pos (by omega)]
      exact congrArg (memByte m) (by omega)

/-- One core's scratchpad comes back from its record. -/
def State.loadCore (p : Nat) (s : State) (c : Nat) : State :=
  { s with memory := { s.memory with mem := loadMem (s.part p).coreRecord s.memory.mem c } }

theorem State.loadCores_eq (s : State) (p : Nat) : s.loadCores p = (coresOf (s.part p).slices.toNat).foldl (State.loadCore p) s := rfl

theorem State.loadCores_mem (p : Nat) (l : List Nat) (s : State) :
    (l.foldl (State.loadCore p) s).memory.mem = l.foldl (loadMem (s.part p).coreRecord) s.memory.mem := by
  induction l generalizing s with
  | nil => rfl
  | cons c l ih => exact ih (s.loadCore p c)

theorem State.loadCores_faults (s : State) (p : Nat) : (s.loadCores p).memory.faults = s.memory.faults :=
  foldl_leaves (fun a : State => a.memory.faults) (State.loadCore p) (fun _ _ => rfl) _ s

theorem State.loadCores_loads {s : State} {p : Nat} (wf : Memory.wf s.memory.mem = true) (fits : (s.part p).saveAddr + saveBytes (s.part p).slices.toNat ≤ 2 ^ 42) {core a : Nat}
    (low : core < 128) (has : bitAt (s.part p).slices.toNat (core / 8) = true) (inside : a < 0x500000) :
    memByte (s.loadCores p).memory.mem (sramBase core + a) = memByte s.memory.mem ((s.part p).coreRecord core + a) := by
  have listed := mem_coresOf.2 ⟨low, has⟩
  rw [State.loadCores_eq, State.loadCores_mem]
  exact memByte_foldl_loadMem _ wf ((s.part p).coreRecord_low listed fits) listed inside

/-! ### SUSPEND_SAVE_COMPLETE and RESUME_RESTORE_COMPLETE -/

/-- What a save leaves of a partition's state. -/
def Part.suspends (q : Part) : PartState × Option Word × Bool := (q.state, q.suspendTag, q.saveLost)

theorem State.freeRow_suspends (s : State) (p first k : Nat) : ((s.freeRow p first).part k).suspends = (s.part k).suspends := by
  rw [State.freeRow]
  dsimp only
  split
  · rfl
  · refine (congrArg Part.suspends (s.part_modPart p (fun y : Part => { y with used := y.used.erase ((first - (s.part p).base) / (s.part p).rowFrames) }) k)).trans ?_
    split
    · rfl
    · rfl

theorem State.inkReclaim_suspends (s : State) (first k : Nat) : ((s.inkReclaim first).part k).suspends = (s.part k).suspends := by
  rw [State.inkReclaim]
  split
  · dsimp only
    rw [apply_ite (fun a : State => (a.part k).suspends), State.freeRow_suspends]
    exact ite_self _
  · rfl

theorem State.savePins_suspends (s : State) (p k : Nat) : ((s.savePins p).part k).suspends = (s.part k).suspends := by
  rw [State.savePins, State.pinsChanged, State.inkReclaimAll]
  exact foldl_leaves (fun a : State => (a.part k).suspends) _ (fun a first => a.inkReclaim_suspends first k) _ _

theorem suspendSaveComplete_saves (s : State) (p : Fin 16) (lost : Bool) (state : (s.part p.val).state = .suspending) :
    ∃ t, exec (.suspendSaveComplete p lost) s = .next t ∧ (t.part p.val).state = (if (s.part p.val).resumeLatched then PartState.resuming else PartState.suspended) ∧
      (t.part p.val).suspendTag = none ∧ (t.part p.val).saveLost = lost ∧
      (s.cores.queues = [] → Memory.wf s.memory.mem = true → (s.part p.val).saveAddr + saveBytes (s.part p.val).slices.toNat ≤ 2 ^ 42 →
        ∀ core a, core < 128 → bitAt (s.part p.val).slices.toNat (core / 8) = true → a < 0x500000 →
          memByte t.memory.mem ((s.part p.val).coreRecord core + a) = memByte s.memory.mem (sramBase core + a)) ∧
      s.Only [.bar, .kva, .cores, .pln, .memory, .cmd, .host, .out] t := by
  let saved := s.saveCores p.val
  let set := saved.modPart p.val fun y => { y with state := .suspended, suspendTag := none, saveLost := lost }
  let pinned := set.savePins p.val
  let told := pinned.partEvent p.val 0x0102 ((s.part p.val).suspendTag.getD 0) .ok
  have run : exec (.suspendSaveComplete p lost) s = .next (if (s.part p.val).resumeLatched then told.beginResume p.val else told) := by
    have unfolded : exec (.suspendSaveComplete p lost) s = execSuspendSaveComplete p lost s := rfl
    rw [unfolded, execSuspendSaveComplete]
    exact if_neg (by simp [state])
  have saves : s.Only [.cores, .memory] saved := ((s.keeps_self _).saveCores (sub_self _) _).only
  have sets : saved.Only [.pln] set := ((saved.keeps_self _).modPart (sub_self _) _ _).only
  have pins : set.Only [.kva, .pln] pinned := ((set.keeps_self _).savePins (sub_self _) _).only
  have tells := pinned.partEvent_only p.val 0x0102 ((s.part p.val).suspendTag.getD 0) .ok
  have only : s.Only [.bar, .kva, .cores, .pln, .memory, .cmd, .host, .out] told :=
    (((saves.mono (by decide)).trans (sets.mono (by decide))).trans (pins.mono (by decide))).trans (tells.mono (by decide))
  have memory : told.memory = saved.memory := tells.memory.trans (pins.memory.trans sets.memory)
  have inside : p.val < saved.pln.parts.length := State.part_used (by rw [State.part_congr saves.pln, state]; decide)
  have suspends : (told.part p.val).suspends = (.suspended, none, lost) := by
    rw [State.part_congr tells.pln, State.savePins_suspends, saved.part_modPart_in _ inside]
    rfl
  obtain ⟨stateT, rest⟩ := Prod.mk.inj suspends
  obtain ⟨tagT, lostT⟩ := Prod.mk.inj rest
  have insideT : p.val < told.pln.parts.length := State.part_used (by rw [stateT]; decide)
  have own : (told.beginResume p.val).part p.val = { told.part p.val with state := .resuming, resumeLatched := false, suspendTag := none } := told.part_modPart_in _ insideT
  have resumes : told.Only [.pln] (told.beginResume p.val) := ((told.keeps_self _).beginResume (sub_self _) _).only
  refine ⟨_, run, ?_⟩
  have kept : ∀ core a, s.cores.queues = [] → Memory.wf s.memory.mem = true → (s.part p.val).saveAddr + saveBytes (s.part p.val).slices.toNat ≤ 2 ^ 42 → core < 128 →
      bitAt (s.part p.val).slices.toNat (core / 8) = true → a < 0x500000 → memByte told.memory.mem ((s.part p.val).coreRecord core + a) = memByte s.memory.mem (sramBase core + a) :=
    fun core a idle wf fits low has inside => by rw [memory]; exact State.saveCores_saves idle wf fits low has inside
  cases (s.part p.val).resumeLatched with
  | false => exact ⟨stateT, tagT, lostT, fun idle wf fits core a low has inside => kept core a idle wf fits low has inside, only⟩
  | true =>
    refine ⟨by rw [if_pos rfl, own]; rfl, by rw [if_pos rfl, own], by rw [if_pos rfl, own]; exact lostT, fun idle wf fits core a low has inside => ?_, only.trans (resumes.mono (by decide))⟩
    exact (congrArg (fun u : MemSt => memByte u.mem _) resumes.memory).trans (kept core a idle wf fits low has inside)

theorem resumeRestoreComplete_restores (s : State) (p : Fin 16) (state : (s.part p.val).state = .resuming) (first : (s.part p.val).readyAt = false)
    (whole : (s.part p.val).saveLost = false) (settled : s.memory.faults = []) :
    ∃ t, exec (.resumeRestoreComplete p) s = .next t ∧ t.part p.val = { s.part p.val with readyAt := true } ∧ (∀ q, q ≠ p.val → t.part q = s.part q) ∧
      (Memory.wf s.memory.mem = true → (s.part p.val).saveAddr + saveBytes (s.part p.val).slices.toNat ≤ 2 ^ 42 →
        ∀ core a, core < 128 → bitAt (s.part p.val).slices.toNat (core / 8) = true → a < 0x500000 →
          memByte t.memory.mem (sramBase core + a) = memByte s.memory.mem ((s.part p.val).coreRecord core + a)) ∧
      s.Only [.kva, .pln, .memory] t := by
  let loaded := s.loadCores p.val
  let aged := (loaded.restorePins p.val).ageFaults p.val (s.stk.time - (s.part p.val).suspAt)
  let set := aged.modPart p.val fun y => { y with readyAt := true }
  have loads : s.Only [.memory] loaded := ((s.keeps_self _).loadCores (sub_self _) _).only
  have parts : aged.pln = s.pln := loads.pln
  have noFaults (t : State) (none_ : t.memory.faults = []) : (t.ageFaults p.val (s.stk.time - (s.part p.val).suspAt)).memory.faults = [] := by
    simp [State.ageFaults, none_, amap]
  have still : set.memory.faults = [] := noFaults _ ((s.loadCores_faults p.val).trans settled)
  have run : exec (.resumeRestoreComplete p) s = .next set := by
    have unfolded : exec (.resumeRestoreComplete p) s = execResumeRestoreComplete p s := rfl
    have nothing : set.applyRecorded p.val = set := by rw [State.applyRecorded, still]; rfl
    rw [unfolded, execResumeRestoreComplete]
    dsimp only
    rw [if_neg (by simp [state, first]), if_neg (by simp [whole])]
    exact congrArg Host.Outcome.next nothing
  have inside : p.val < aged.pln.parts.length := parts ▸ State.part_used (by rw [state]; decide)
  have only : s.Only [.kva, .memory] aged := (((s.keeps_self _).loadCores (by decide) _).restorePins (by decide) _).ageFaults (by decide) _ _ |>.only
  refine ⟨_, run, ?_, fun q ne => (aged.part_modPart_ne _ ne).trans (State.part_congr parts q), fun wf fits core a low has inside => State.loadCores_loads wf fits low has inside, ?_⟩
  · rw [aged.part_modPart_in _ inside, State.part_congr parts]
  · exact (only.mono (by decide)).trans ((aged.keeps_self _).modPart (by decide) _ _).only

/-- Settles O18: the states of a partition and what leads from each to the next, clause by clause. -/
theorem partitionLifecycle : Obligations.PartitionLifecycle := by
  unfold Obligations.PartitionLifecycle
  refine ⟨fun s s1 h r c src hs free => ⟨?_, ?_, ?_, ?_⟩, fun s p m held => ⟨?_, fun s1 eq idle => ⟨?_, ?_⟩⟩,
    fun s p c image ready state composing fresh => ⟨?_, ?_, ?_⟩, composeWeightsInPlace_starts, composeFailed_drains, fun s s1 h r hs free settled => ⟨?_, ?_, ?_⟩,
    partitionDrainComplete_releases, fun s s1 h r hs settled untold => ⟨?_, ?_⟩, suspendSaveComplete_saves, fun s s1 h r hs => ⟨?_, ?_, ?_⟩, resumeRestoreComplete_restores⟩
  · exact partitionCompose_refuses hs free
  · exact partitionCompose_full hs free
  · exact partitionCompose_accepts hs free
  · exact partitionCompose_holds hs free
  · exact heldComposeStart_waits held
  · exact eq ▸ heldComposeStart_refuses held idle
  · exact eq ▸ heldComposeStart_starts held idle
  · exact composeZeroingDone_kv image ready state composing fresh
  · exact fun f st role source given bad => composeZeroingDone_fails ready state composing fresh role source given st bad
  · exact fun f s1 role source given good fits => composeZeroingDone_fits ready state composing fresh role source given s1 good fits
  · exact partitionDecompose_absent hs free settled
  · exact partitionDecompose_busy hs free settled
  · exact partitionDecompose_drains hs free settled
  · exact partitionSuspend_again hs settled untold
  · exact partitionSuspend_begins hs settled untold
  · exact partitionResume_begins hs
  · exact partitionResume_latches hs
  · exact partitionResume_runs hs

end Sys2Proof.Machine
end

section
/-! PROOFS. The death of a member and its notices (chapter 11, O36). -/
namespace Sys2Proof.Machine

/-! ### What the death of a member leaves, whatever it ends -/

/-- The probes, the notices seen, the live mask and the count of deaths stand. -/
structure State.Calm (s t : State) : Prop where
  probes : t.lnk.probes = s.lnk.probes
  seen : t.lnk.seen = s.lnk.seen
  live : t.sat.live = s.sat.live
  dead : t.reg Reg.lnkCntDead = s.reg Reg.lnkCntDead

theorem State.Calm.refl (s : State) : s.Calm s := ⟨rfl, rfl, rfl, rfl⟩

theorem State.Calm.trans {s t u : State} (h : s.Calm t) (k : t.Calm u) : s.Calm u :=
  ⟨k.probes.trans h.probes, k.seen.trans h.seen, k.live.trans h.live, k.dead.trans h.dead⟩

/-- What is said of a state holds of one with the same fabric lists, live mask and registers. -/
theorem State.Calm.start {s a t : State} (h : a.Calm t) (probes : a.lnk.probes = s.lnk.probes) (seen : a.lnk.seen = s.lnk.seen) (live : a.sat.live = s.sat.live)
    (bar : a.bar = s.bar) : s.Calm t :=
  State.Calm.trans ⟨probes, seen, live, State.reg_congr bar _⟩ h

theorem State.Calm.ite {s t u : State} {c : Prop} [Decidable c] (h : s.Calm t) (k : s.Calm u) : s.Calm (if c then t else u) := by
  split
  · exact h
  · exact k

theorem State.calm_foldl {α : Type} (f : State → α → State) (l : List α) (s : State) (each : ∀ t a, State.Calm t (f t a)) : s.Calm (l.foldl f s) := by
  induction l generalizing s with
  | nil => exact .refl s
  | cons a l ih => exact (each s a).trans (ih (f s a))

/-- A change that stays away from registers, fabric and satchels. -/
theorem State.calm_of_only {s t : State} {l : List Group} (only : s.Only l t) (away : l ⊆ [.kva, .cores, .pln, .memory, .fls, .xpt, .shp, .cmd, .blt, .host, .out, .freeCtr]) :
    s.Calm t := by
  have wide := only.mono away
  exact ⟨congrArg Lnk.probes wide.lnk, congrArg Lnk.seen wide.lnk, congrArg SatSt.live wide.sat, State.reg_congr wide.bar _⟩

theorem State.calm_setReg (s : State) {o : Nat} (v : Nat) (other : Reg.lnkCntDead ≠ o) : s.Calm (s.setReg o v) := ⟨rfl, rfl, rfl, s.reg_setReg_ne _ other⟩

theorem State.calm_count (s : State) {o : Nat} (n : Nat) (other : Reg.lnkCntDead ≠ o) : s.Calm (s.count o n) := s.calm_setReg _ other

theorem State.calm_post (s : State) (f : FaultSpec) : s.Calm (s.post f) := by
  have only := ((s.keeps_self _).post (sub_self _) f).only
  exact ⟨congrArg Lnk.probes only.lnk, congrArg Lnk.seen only.lnk, congrArg SatSt.live only.sat, s.reg_post f (by decide)⟩

theorem State.calm_modPort (s : State) (p : Nat) (f : Port → Port) : s.Calm (s.modPort p f) := ⟨rfl, rfl, rfl, rfl⟩

/-! ### A packet sent -/

theorem State.calm_owe (s : State) (from_ : Option (Nat × Nat)) (c n : Nat) : s.Calm (s.owe from_ c n) := by
  cases from_ with
  | none => exact .refl s
  | some e => exact s.calm_modPort e.1 _

theorem State.calm_meter0 (s : State) (p n : Nat) : s.Calm (s.meter0 p n) := by
  rw [State.meter0]
  dsimp only
  refine .ite (s.calm_modPort _ _) ((s.calm_modPort _ _).trans (State.Calm.trans (State.calm_setReg _ _ ?_) (State.calm_count _ 1 (by decide))))
  split
  · decide
  · decide

theorem State.calm_enqueue (s : State) (p : Nat) (q : QPkt) : s.Calm (s.enqueue p q) := by
  rw [State.enqueue]
  exact (State.Calm.ite (s.calm_meter0 p q.flits) (.refl s)).trans (State.calm_modPort _ _ _)

theorem State.calm_routeOn (s : State) (from_ : Option (Nat × Nat)) (pkt : Packet) : s.Calm (s.routeOn from_ pkt) := by
  have unreachable (p : Packet) : s.Calm (s.unreachable from_ p) := (s.calm_count 1 (by decide)).trans (State.calm_owe _ _ _ _)
  rw [State.routeOn]
  dsimp only
  split
  · exact (State.calm_owe _ _ _ _).start rfl rfl rfl rfl
  · exact unreachable _
  · split
    · exact s.calm_enqueue _ _
    · exact unreachable _

theorem State.calm_inject (s : State) (device : Bool) (pkt : Packet) : s.Calm (s.inject device pkt) := by
  have charged : s.Calm (s.charge pkt.part.val pkt.cls.val pkt.flits) := by
    rw [State.charge]
    exact .ite ⟨rfl, rfl, rfl, rfl⟩ (.refl s)
  rw [State.inject]
  refine .ite (s.calm_routeOn _ _) (.ite (charged.trans (State.calm_routeOn _ _ _)) ((State.calm_count (o := Reg.shpCntPolice) _ 1 (by decide)).start rfl rfl rfl rfl))

theorem State.calm_modConn (s : State) (k : Nat) (f : Conn → Conn) : s.Calm (s.modConn k f) := ⟨rfl, rfl, rfl, rfl⟩

theorem State.calm_setPath (s : State) (p : Packet) (via : Option (Bool × Nat)) : s.Calm (s.setPath p via).1 := by
  cases via with
  | none => exact .refl s
  | some v => exact s.calm_count 1 (by decide)

theorem State.calm_touchConn (s : State) (e k : Nat) (isNew : Bool) : s.Calm (s.touchConn e k isNew) := by
  rw [State.touchConn]
  exact (State.Calm.ite (.refl s) (s.calm_count (o := Reg.xptCntSpill) 1 (by decide))).trans ⟨rfl, rfl, rfl, rfl⟩

theorem State.calm_launch (s : State) (k : Nat) (p : Packet) : s.Calm (s.launch k p) := by
  rw [State.launch]
  split
  · exact .refl s
  · dsimp only
    refine State.Calm.trans ?_ ((State.calm_modConn _ _ _).trans ((State.calm_setPath _ _ _).trans ((State.calm_touchConn _ _ _ _).trans (State.calm_inject _ _ _))))
    split
    · exact State.calm_of_only ((s.keeps_self _).choosePath (sub_self _) _ _).only (by decide)
    · exact .refl s

theorem State.calm_sendControl (s : State) (k : Nat) (type : BitVec 8) (tag : BitVec 16) (len : Nat) (body : Body) : s.Calm (s.sendControl k type tag len body) := by
  rw [State.sendControl]
  split
  · exact .refl s
  · exact s.calm_launch _ _

/-! ### An operation ended -/

theorem State.calm_drainQueue (n : Nat) (s : State) (k : Nat) : s.Calm (s.drainQueue k n) := by
  induction n generalizing s with
  | zero => exact .refl s
  | succ n ih =>
    rw [State.drainQueue]
    split
    · exact .refl s
    · split
      · exact .refl s
      · refine .ite (State.Calm.trans ?_ (ih _)) (.refl s)
        exact (s.calm_modConn _ _).trans (State.calm_launch _ _ _)

theorem State.calm_sendAll (s : State) (k : Nat) (l : List Packet) : s.Calm (s.sendAll k l) := by
  rw [State.sendAll]
  refine (s.calm_modConn k fun c => { c with sendq := c.sendq ++ l }).trans ?_
  split
  · exact .refl _
  · exact State.calm_drainQueue _ _ _

theorem State.calm_issueOn (s : State) (k tag : Nat) : s.Calm (s.issueOn k tag) := by
  rw [State.issueOn]
  split
  · exact (State.calm_sendAll _ _ _).start rfl rfl rfl rfl
  · exact .refl s

theorem State.calm_issueWaiting (n : Nat) (s : State) (k : Nat) : s.Calm (s.issueWaiting k n) := by
  induction n generalizing s with
  | zero => exact .refl s
  | succ n ih =>
    rw [State.issueWaiting]
    split
    · exact .refl s
    · split
      · exact .refl s
      · exact .ite (((s.calm_modConn _ _).trans (State.calm_issueOn _ _ _)).trans (ih _)) (.refl s)

theorem State.calm_pump (s : State) (k : Nat) : s.Calm (s.pump k) := by
  rw [State.pump]
  split
  · exact .refl s
  · exact (State.calm_drainQueue _ s k).trans (State.calm_issueWaiting _ _ k)

/-- A trap writes registers of the CORE block only. -/
theorem State.calm_trap (s : State) (core thread cause : Nat) (epc tval : BitVec 64) : s.Calm (s.trap core thread cause epc tval) := by
  have away (k : Nat) (low : k < 0x10000) (other : k ≠ 0x1C) : Reg.lnkCntDead ≠ 0x00800000 + k + 0x10000 * core := by
    rw [Reg.lnkCntDead]
    omega
  let s1 := s.modThread (threadKey core thread) fun t => { t with state := .stopped, pc := epc }
  let s2 := ((s1.setReg (Reg.coreTrapCause core) (2 ^ 31 + thread % 64 * 65536 + cause % 64)).setReg (Reg.coreTrapEpcLo core) (epc.toNat % 2 ^ 32)).setReg
    (Reg.coreTrapEpcHi core) (epc.toNat / 2 ^ 32)
  let s3 := ((s2.setReg (Reg.coreTrapTvalLo core) (tval.toNat % 2 ^ 32)).setReg (Reg.coreTrapTvalHi core) (tval.toNat / 2 ^ 32)).setFld (Reg.coreStatus core) 1 1 1
  have cause2 : s1.Calm s2 := ((s1.calm_setReg _ (away 0x24 (by decide) (by decide))).trans (State.calm_setReg _ _ (away 0x28 (by decide) (by decide)))).trans
    (State.calm_setReg _ _ (away 0x2C (by decide) (by decide)))
  have value3 : s2.Calm s3 := ((s2.calm_setReg _ (away 0x30 (by decide) (by decide))).trans (State.calm_setReg _ _ (away 0x34 (by decide) (by decide)))).trans
    (State.calm_setReg _ _ (away 0x04 (by decide) (by decide)))
  have noted : s.Calm s3 := (cause2.trans value3).start rfl rfl rfl rfl
  rw [State.trap]
  split
  · exact noted.trans (State.calm_post _ _)
  · exact noted.trans (State.calm_post _ _)

theorem State.calm_accessEnds (s : State) (o : XOp) : s.Calm (s.accessEnds o) := by
  rw [State.accessEnds]
  split
  · exact .ite ⟨rfl, rfl, rfl, rfl⟩ (s.calm_trap _ _ _ _ _)
  · exact .ite (.refl s) ⟨rfl, rfl, rfl, rfl⟩
  · exact .refl s

theorem State.calm_opDone (s : State) (tag : Nat) (st : Status) (result : List Byte) : s.Calm (s.opDone tag st result) := by
  have dropped (o : XOp) : s.Calm (s.dropOp tag o) := by
    rw [State.dropOp]
    exact (State.calm_pump _ _).start rfl rfl rfl rfl
  rw [State.opDone]
  split
  · exact .refl s
  · refine .ite (.refl s) ?_
    split
    · exact ⟨rfl, rfl, rfl, rfl⟩
    · exact (dropped _).trans (State.calm_accessEnds _ _)

theorem State.calm_failOp (s : State) (c : Conn) (tag : Nat) (o : XOp) : s.Calm (s.failOp c tag o) := by
  rw [State.failOp]
  refine .ite (.refl s) ?_
  split
  · exact (s.calm_count (o := Reg.xptCntIndet) 1 (by decide)).trans ((State.calm_opDone _ _ _ _).start rfl rfl rfl rfl)
  · exact s.calm_opDone _ _ _

theorem State.calm_failConn (s : State) (k : Nat) : s.Calm (s.failConn k) := by
  rw [State.failConn]
  split
  · exact .refl s
  · next c _ =>
    refine .ite (.refl s) ?_
    let s1 := if c.state = .opened ∨ c.state = .closing then s.sendControl k 0x03#8 0 1 (.close true) else s
    let undefined := (s1.xpt.stitch.filter fun e => e.conn == k).foldl State.undefineMsg s1
    have told : s.Calm s1 := .ite (s.calm_sendControl _ _ _ _ _) (.refl s)
    have forgot : s.Calm undefined :=
      told.trans (State.calm_foldl _ _ _ fun t e => State.calm_of_only ((t.keeps_self _).undefineMsg (sub_self _) e).only (by decide))
    refine State.Calm.trans ?_ (State.calm_foldl _ _ _ fun t q => t.calm_failOp c q.1 q.2)
    exact ⟨forgot.probes, forgot.seen, forgot.live, forgot.dead⟩

theorem State.calm_done (s : State) (r : ReplyTo) (st : Status) : s.Calm (s.done r st) := by
  have only := s.done_only r st
  exact ⟨congrArg Lnk.probes only.lnk, congrArg Lnk.seen only.lnk, congrArg SatSt.live only.sat, State.reg_congr (s.done_bar r st) _⟩

/-! ### The steps of a death -/

theorem State.calm_peerDead (s : State) (dev : DeviceId) : s.Calm (s.peerDead dev) := by
  rw [State.peerDead]
  dsimp only
  refine State.Calm.trans ?_ (State.calm_foldl _ _ _ fun t e => t.calm_done e.2.2 .outcomeIndeterminate)
  have failed := State.calm_foldl (fun (a : State) (e : Nat × Conn) => a.failConn e.1) (s.xpt.conns.filter fun e => e.2.peerDev == dev) s fun t e => t.calm_failConn e.1
  exact ⟨failed.probes, failed.seen, failed.live, failed.dead⟩

theorem State.calm_groupsDead (s : State) (dev : DeviceId) : s.Calm (s.groupsDead dev) := by
  rw [State.groupsDead]
  refine State.calm_foldl _ _ _ fun t e => ?_
  exact (State.calm_foldl (fun (b : State) (o : Nat × XOp) => b.opDone o.1 .tierError []) _ _ fun u o => u.calm_opDone o.1 .tierError []).start rfl rfl rfl rfl

theorem State.calm_sendRegister (s : State) (slot : Nat) : s.Calm (s.sendRegister slot) := by
  have only := ((s.keeps_self _).sendRegister (sub_self _) slot).only
  refine ⟨congrArg Lnk.probes only.lnk, congrArg Lnk.seen only.lnk, ?_, State.reg_congr only.bar _⟩
  cases found : s.satAt slot with
  | none => rw [State.sendRegister, State.withSlot_none _ found]
  | some x =>
    rw [State.sendRegister, State.withSlot_some _ found]
    dsimp only
    split
    · rfl
    · rfl

theorem State.calm_recoverFailed (s : State) (c : Record) : s.Calm (s.recoverFailed c) := by
  rw [State.recoverFailed]
  split
  · exact (State.calm_done _ _ _).start rfl rfl rfl rfl
  · exact ⟨rfl, rfl, rfl, rfl⟩

theorem State.calm_assign (s : State) (c : Record) (k : Nat × DevPart) : s.Calm (s.assign c k) := by
  rw [State.assign]
  exact .ite ⟨rfl, rfl, rfl, rfl⟩ ⟨rfl, rfl, rfl, rfl⟩

theorem State.calm_rcvScan (model : BitVec 16) (start : Nat) (l : List Nat) (s : State) : s.Calm (s.rcvScan model start l).1 := by
  induction l generalizing s with
  | nil => exact .refl s
  | cons k l ih =>
    rw [State.rcvScan]
    split
    · exact ih s
    · split
      · exact (s.calm_post _).trans (ih _)
      · split
        · exact ih s
        · exact .refl s

theorem State.calm_candidateRefused (s : State) (c : Record) : s.Calm (s.candidateRefused c) := by
  rw [State.candidateRefused]
  split
  · exact .refl s
  · exact s.calm_recoverFailed c
  · next k _ _ =>
    have scanned := State.calm_rcvScan c.image.model c.firstEntry ((List.range 64).drop ((k + 64 - c.firstEntry) % 64 + 1)) s
    rw [State.tryFrom]
    split
    · next s1 found eq =>
      rw [eq] at scanned
      exact scanned.trans (s1.calm_assign c found)
    · next s1 eq =>
      rw [eq] at scanned
      exact scanned.trans (s1.calm_recoverFailed c)

theorem State.calm_openRereg (s : State) (dev : DeviceId) : s.Calm (s.openRereg dev) := by
  rw [State.openRereg]
  exact .ite ⟨rfl, rfl, rfl, rfl⟩ (.refl s)

theorem State.calm_ownersDead (s : State) (dev : DeviceId) : s.Calm (s.ownersDead dev) := by
  rw [State.ownersDead]
  dsimp only
  refine State.Calm.start (State.calm_foldl _ _ _ fun t c => ?_) rfl rfl rfl rfl
  exact .ite (t.calm_candidateRefused c) (.refl t)

theorem State.calm_lodgersDead (s : State) (dev : DeviceId) : s.Calm (s.lodgersDead dev) := by
  rw [State.lodgersDead]
  dsimp only
  refine State.Calm.start (State.calm_foldl _ _ _ fun t e => ?_) rfl rfl rfl rfl
  have lowers := t.lowers_lowerTier e.1
  exact ⟨congrArg Lnk.probes lowers.lnk, congrArg Lnk.seen lowers.lnk, lowers.live, State.reg_congr lowers.bar _⟩

theorem State.calm_shardsDead (s : State) (dev : DeviceId) : s.Calm (s.shardsDead dev) :=
  State.calm_of_only ((s.keeps_self _).shardsDead (sub_self _) dev).only (by decide)

end Sys2Proof.Machine
end

section
/-! PROOFS. PROBE_TIMEOUT and DEAD_NOTICE (chapter 11, O36). -/
namespace Sys2Proof.Machine

/-! ### The live mask -/

theorem bitAt_eq_testBit (v i : Nat) : bitAt v i = v.testBit i := by
  rw [bitAt, Nat.testBit_eq_decide_div_mod_eq]
  rfl

theorem testBit_maskOf (l : List Nat) (i : Nat) : (maskOf l).testBit i = decide (i ∈ l) := by
  have fold (l : List Nat) (a : Nat) : (l.foldl (fun a i => a ||| 2 ^ i) a).testBit i = (a.testBit i || decide (i ∈ l)) := by
    induction l generalizing a with
    | nil => simp
    | cons j l ih =>
      rw [List.foldl_cons, ih, Nat.testBit_or, Nat.testBit_two_pow, Bool.or_assoc]
      congr 1
      by_cases same : i = j
      · simp [same]
      · simp [same, Ne.symm same]
  rw [maskOf, fold, Nat.zero_testBit, Bool.false_or]

theorem bitAt_setLive (s : State) {dev : DeviceId} (own : harness dev = harness s.me) {m : Nat} (low : m < 32) :
    bitAt (s.setLive dev false).sat.live.toNat m = if m = member dev then false else bitAt s.sat.live.toNat m := by
  rw [State.setLive, if_pos own, bitAt_eq_testBit]
  dsimp only
  rw [BitVec.toNat_ofNat, Nat.testBit_mod_two_pow, testBit_maskOf]
  simp only [List.mem_filter, List.mem_range, low, decide_true, Bool.true_and, true_and, Bool.decide_eq_true]

theorem State.setLive_only (s : State) (dev : DeviceId) (alive : Bool) : s.Only [.sat, .lnk] (s.setLive dev alive) := by
  rw [State.setLive]
  split
  · simp [State.Only]
  · simp [State.Only]

/-- The death of a live member of the harness: its bit of the live mask goes, it is counted, and probes and notices stand. -/
theorem State.applyDead_dies {s : State} {dev : DeviceId} (other : dev ≠ s.me) (own : harness dev = harness s.me) (alive : s.isLive dev = true) :
    (s.applyDead dev).lnk.probes = s.lnk.probes ∧ (s.applyDead dev).lnk.seen = s.lnk.seen ∧
    (∀ m, m < 32 → bitAt (s.applyDead dev).sat.live.toNat m = if m = member dev then false else bitAt s.sat.live.toNat m) ∧
    (s.applyDead dev).reg Reg.lnkCntDead = min 0xFFFFFFFF (s.reg Reg.lnkCntDead + 1) := by
  let masked := s.setLive dev false
  let counted := masked.count Reg.lnkCntDead 1
  let registers := (((counted.peerDead dev).groupsDead dev).reRegister s dev)
  have eq : s.applyDead dev = (((registers.openRereg dev).ownersDead dev).lodgersDead dev).shardsDead dev := if_neg (by simp [other, alive])
  have registered : counted.Calm registers :=
    ((State.calm_peerDead _ dev).trans (State.calm_groupsDead _ dev)).trans
      (State.calm_foldl _ _ _ fun t e => State.Calm.ite (t.calm_sendRegister e.1) (.refl t))
  have calm : counted.Calm (s.applyDead dev) := by
    rw [eq]
    exact registered.trans ((((State.calm_openRereg _ dev).trans (State.calm_ownersDead _ dev)).trans (State.calm_lodgersDead _ dev)).trans (State.calm_shardsDead _ dev))
  have lnk : masked.lnk = s.lnk := by
    show (s.setLive dev false).lnk = s.lnk
    rw [State.setLive, if_pos own]
  refine ⟨calm.probes.trans (congrArg Lnk.probes lnk), calm.seen.trans (congrArg Lnk.seen lnk), fun m low => ?_, ?_⟩
  · rw [calm.live]
    exact bitAt_setLive s own low
  · rw [calm.dead, State.reg_count_same, State.reg_congr (s.setLive_only dev false).bar]

theorem State.passNotice_passes (s : State) (dev : DeviceId) (seq : Nat) (alive : Bool) :
    (s.passNotice dev seq alive).lnk = { s.lnk with seen := (dev, seq, alive) :: s.lnk.seen } ∧ (s.passNotice dev seq alive).sat = s.sat ∧ (s.passNotice dev seq alive).bar = s.bar := by
  have noticed (ports : List Nat) (t : State) : t.Only [.out] (t.sendNotice ports dev seq alive) := ((t.keeps_self _).sendNotice (sub_self _) ports dev seq alive).only
  rw [State.passNotice]
  exact ⟨(noticed _ _).lnk, (noticed _ _).sat, (noticed _ _).bar⟩

theorem State.isLive_congr {s t : State} (bar : t.bar = s.bar) (live : t.sat.live = s.sat.live) (lost : t.lnk.lost = s.lnk.lost) (dev : DeviceId) :
    t.isLive dev = s.isLive dev := by
  rw [State.isLive, State.isLive, State.liveMask, State.liveMask, State.me_congr bar, live, lost]

/-! ### The clauses -/

theorem deadNotice_first (s : State) (dev : DeviceId) (seq now : Nat) (ready : s.lnk.ready = true) (first : s.sawNotice dev seq false = false)
    (own : harness dev = harness s.me) (other : dev ≠ s.me) (alive : s.isLive dev = true) :
    ∃ t, exec (.deadNotice dev seq false now) s = .next t ∧ (dev, seq, false) ∈ t.lnk.seen ∧ bitAt t.sat.live.toNat (member dev) = false ∧
      (∀ m, m < 32 → m ≠ member dev → bitAt t.sat.live.toNat m = bitAt s.sat.live.toNat m) ∧
      t.reg Reg.lnkCntDead = min 0xFFFFFFFF (s.reg Reg.lnkCntDead + 1) := by
  let passed := (s.at_ now).passNotice dev seq false
  have run : exec (.deadNotice dev seq false now) s = .next (passed.applyDead dev) := by
    have unfolded : exec (.deadNotice dev seq false now) s = execDeadNotice dev seq false now s := rfl
    have fresh : (s.at_ now).sawNotice dev seq false = false := first
    have up : (s.at_ now).lnk.ready = true := ready
    rw [unfolded, execDeadNotice]
    dsimp only
    rw [fresh, up, if_neg (by decide)]
    rfl
  obtain ⟨lnk, sat, bar⟩ := (s.at_ now).passNotice_passes dev seq false
  have me : passed.me = s.me := State.me_congr bar
  have live : passed.isLive dev = true := (State.isLive_congr (s := s) bar (congrArg SatSt.live sat) (by rw [lnk]; rfl) dev).trans alive
  obtain ⟨-, seen, mask, dead⟩ := State.applyDead_dies (s := passed) (by rw [me]; exact other) (by rw [me]; exact own) live
  refine ⟨_, run, ?_, ?_, fun m low ne => ?_, ?_⟩
  · rw [seen, lnk]
    exact List.mem_cons_self
  · exact (mask _ (Nat.mod_lt _ (by decide))).trans (if_pos rfl)
  · rw [mask m low, if_neg ne, sat]
    rfl
  · rw [dead, State.reg_congr bar]
    rfl

theorem deadNotice_again (s : State) (dev : DeviceId) (seq : Nat) (alive : Bool) (now : Nat) (seen : s.sawNotice dev seq alive = true) :
    exec (.deadNotice dev seq alive now) s = .next (s.at_ now) := by
  have unfolded : exec (.deadNotice dev seq alive now) s = execDeadNotice dev seq alive now s := rfl
  have known : (s.at_ now).sawNotice dev seq alive = true := seen
  rw [unfolded, execDeadNotice]
  exact if_pos (Or.inr known)

/-- The identity of member x of a device's own harness. -/
def neighbour (me : DeviceId) (x : Nat) : DeviceId := BitVec.ofNat 16 (32 * harness me + x)

theorem neighbour_parts (me : DeviceId) {x : Nat} (low : x < 32) : harness (neighbour me x) = harness me ∧ member (neighbour me x) = x := by
  have small : harness me < 512 := Nat.mod_lt _ (by decide)
  have value : (neighbour me x).toNat = 32 * harness me + x := by
    rw [neighbour, BitVec.toNat_ofNat]
    omega
  constructor
  · rw [harness, value]
    omega
  · rw [member, value]
    omega

theorem probeTimeout_dies (s : State) (p : Fin 64) (t0 now : Nat) (port : p.val < 31) (probes : s.lnk.probes = [(p.val, t0)]) (late : t0 + 4000 ≤ now)
    (unheard : afind s.lnk.table_ (localPeer (member s.me) p.val) = none) (alive : bitAt s.sat.live.toNat (localPeer (member s.me) p.val) = true) :
    ∃ t, exec (.probeTimeout p now) s = .next t ∧ t.lnk.probes = [] ∧ bitAt t.sat.live.toNat (localPeer (member s.me) p.val) = false ∧
      t.reg Reg.lnkCntDead = min 0xFFFFFFFF (s.reg Reg.lnkCntDead + 1) := by
  let x := localPeer (member s.me) p.val
  let dev := neighbour s.me x
  let ended : State := { s.at_ now with lnk := { s.lnk with probes := [] } }
  let passed := ended.passNotice dev 0 false
  have low : x < 32 := Nat.mod_lt _ (by decide)
  obtain ⟨own, place⟩ := neighbour_parts s.me low
  have run : exec (.probeTimeout p now) s = .next (passed.applyDead dev) := by
    have unfolded : exec (.probeTimeout p now) s = execProbeTimeout p now s := rfl
    have found : (s.at_ now).lnk.probes.find? (fun q => q.1 == p.val) = some (p.val, t0) := by
      show s.lnk.probes.find? _ = _
      rw [probes]
      simp
    have due : ¬ (s.at_ now).stk.time < t0 + 4000 := by
      show ¬ max s.stk.time now < t0 + 4000
      omega
    have gone : (s.at_ now).lnk.probes.filter (fun q => q.1 != p.val) = [] := by
      show s.lnk.probes.filter _ = _
      rw [probes]
      simp
    rw [unfolded, execProbeTimeout]
    dsimp only
    rw [found]
    dsimp only
    rw [if_neg due, gone]
    have silent : afind ended.lnk.table_ (localPeer (member ended.me) p.val) = none := unheard
    have up : bitAt ended.sat.live.toNat (localPeer (member ended.me) p.val) = true := alive
    show (if (match afind ended.lnk.table_ (localPeer (member ended.me) p.val) with | some r => decide (t0 < r.at_) | none => false) = true ∨
        bitAt ended.sat.live.toNat (localPeer (member ended.me) p.val) = false then Host.Outcome.next ended
      else .next ((ended.passNotice dev (match afind ended.lnk.table_ (localPeer (member ended.me) p.val) with | some r => r.seq | none => 0) false).applyDead dev)) = _
    rw [silent, up]
    exact if_neg (by simp)
  obtain ⟨lnk, sat, bar⟩ := ended.passNotice_passes dev 0 false
  have me : passed.me = s.me := State.me_congr bar
  have other : dev ≠ s.me := fun same => by
    have shifted : member s.me = x := (congrArg member same).symm.trans place
    have eq : x = (member s.me + p.val + 1) % 32 := rfl
    have small : member s.me < 32 := Nat.mod_lt _ (by decide)
    omega
  have live : passed.isLive dev = true := by
    rw [State.isLive_congr (s := s) bar (congrArg SatSt.live sat) (by rw [lnk]) dev, State.isLive, State.liveMask, if_pos own, bitAt_eq_testBit, Nat.testBit_or, place,
      ← bitAt_eq_testBit, alive]
    rfl
  obtain ⟨kept, -, mask, dead⟩ := State.applyDead_dies (s := passed) (by rw [me]; exact other) (by rw [me]; exact own) live
  refine ⟨_, run, ?_, ?_, ?_⟩
  · rw [kept, lnk]
  · exact (mask x low).trans (if_pos place.symm)
  · rw [dead, State.reg_congr bar]
    rfl

/-- Settles O36: a silent neighbour dies, and the first copy of a notice takes effect. -/
theorem notices : Obligations.Notices := by
  unfold Obligations.Notices
  exact ⟨fun s p t0 now port probes late _ unheard alive => probeTimeout_dies s p t0 now port probes late unheard alive,
    fun s dev seq now ready first own other _ alive => deadNotice_first s dev seq now ready first own other alive, deadNotice_again⟩

end Sys2Proof.Machine
end

end
